-- ==== Sys2Proof/Word.lean ====
section
/-!
DEFINITION. The word types of the SX8800 and their plainest arithmetic.
Registers are 32 bits wide (R31), storage is byte addressed and little-endian (R4, R30).
-/

namespace Sys2Proof

/-- A register or Pip word, 32 bits (R31, R470). -/
abbrev Word := BitVec 32

/-- One byte of storage. -/
abbrev Byte := BitVec 8

/-- The word that holds a number modulo `2^32`. -/
abbrev Word.ofN (n : Nat) : Word := BitVec.ofNat 32 n

/-- The byte that holds a number modulo 256. -/
abbrev Byte.ofN (n : Nat) : Byte := BitVec.ofNat 8 n

end Sys2Proof
end

