-- ==== Sys2Proof/Types.lean ====
section
/-!
DEFINITION. The closed sets of names the manual uses for operands and for state: status codes (R11),
modes (R35), power domains (R22), chains, host endpoints, and the operand records of host commands.
-/

namespace Sys2Proof

/-- The status codes of R11, the whole table of stepping A1. -/
inductive Status where
  | ok | accepted | pending
  | late | missed | cancelled | collision | busy
  | notPermitted | locked | badImage | rollback
  | entropyFail | tamper | authFail
  | expired | duplicate | staleEpoch | quota
  | nvDiverged | brownout
  | unknownCommand | badFrame | reservedValue
  deriving DecidableEq, Repr

/-- The 16-bit code of a status (R11). -/
def Status.code : Status → Nat
  | .ok => 0x0000 | .accepted => 0x0001 | .pending => 0x0002
  | .late => 0x0101 | .missed => 0x0102 | .cancelled => 0x0103 | .collision => 0x0104 | .busy => 0x0105
  | .notPermitted => 0x0201 | .locked => 0x0202 | .badImage => 0x0203 | .rollback => 0x0204
  | .entropyFail => 0x0301 | .tamper => 0x0302 | .authFail => 0x0303
  | .expired => 0x0401 | .duplicate => 0x0402 | .staleEpoch => 0x0403 | .quota => 0x0404
  | .nvDiverged => 0x0501 | .brownout => 0x0502
  | .unknownCommand => 0x0F01 | .badFrame => 0x0F02 | .reservedValue => 0x0F03

/-- The power domains of R22. -/
inductive Domain where
  | aon | com | cl0 | cl1 | cl2 | cl3 | xr | rfs | rft | met | fl
  deriving DecidableEq, Repr

/-- The number of a domain, as a key. -/
def Domain.idx : Domain → Nat
  | .aon => 0 | .com => 1 | .cl0 => 2 | .cl1 => 3 | .cl2 => 4 | .cl3 => 5
  | .xr => 6 | .rfs => 7 | .rft => 8 | .met => 9 | .fl => 10

/-- The domain of cluster `n` (R22). -/
def Domain.cl (n : Nat) : Domain :=
  match n with
  | 0 => .cl0
  | 1 => .cl1
  | 2 => .cl2
  | _ => .cl3

/-- The DOMSTAT bit of a domain (R130); PD_AON has none. -/
def Domain.bit : Domain → Nat
  | .aon => 0 | .com => 1 | .cl0 => 2 | .cl1 => 3 | .cl2 => 4 | .cl3 => 5
  | .xr => 6 | .rfs => 7 | .rft => 8 | .met => 9 | .fl => 10

/-- The two radio chains (R14, R160). -/
inductive Chain where
  | s | t
  deriving DecidableEq, Repr

/-- Chain S is 0 and chain T is 1 wherever the manual numbers them. -/
def Chain.idx : Chain → Nat
  | .s => 0
  | .t => 1

/-- The host endpoints: the local port, the tunnel and the debug port (R366, R382, R579). -/
inductive Endpoint where
  | loc | tunnel | debug
  deriving DecidableEq, Repr

/-- Where a host command came from: its endpoint, its channel 0-14 and its sequence number (R375, R377). -/
structure Origin where
  ep  : Endpoint
  ch  : Nat
  seq : Nat
  deriving DecidableEq, Repr

end Sys2Proof
end

