-- ==== Sys2Proof/Syntax.lean ====
section
/-!
DEFINITION. The commands of the block, one constructor per row of the opcode table.
A host command carries its origin `o` and its command payload `p` as bytes (R373, R386); a register write carries
whether it comes from user privilege and the word written. An event row carries what the event itself tells.
-/

namespace Sys2Proof

/-- The 370 commands of the SX8800. -/
inductive Instr where
  /-- REGISTER_WRITE (R5). A bus write to a register that has no row of its own sets its fields by their access types, leaving reserved encodings and locked fields unchanged. -/
  | registerWrite (user : Bool) (addr : Nat) (w : Word)
  /-- RC_READ (R5). A read of an RC field returns it and then clears it, unless a hardware event sets it in the same cycle. -/
  | rcRead (addr again : Nat)
  /-- MODE_REQUEST (R48). A write to PMU.MODEREQ submits a mode request, which is checked and either fails, completes at once, waits, or starts a transition. -/
  | modeRequest (core : Nat) (user : Bool) (w : Word)
  /-- MODE_SET (R47). The host command submits a mode request with source host, and its response carries the status and PMU.MODESTAT. -/
  | modeSet (o : Origin) (p : List Byte)
  /-- MODE_GET (R47). The host command returns the status and PMU.MODESTAT. -/
  | modeGet (o : Origin) (p : List Byte)
  /-- MODE_TRANSITION_DONE (R51). A mode transition reaches its completion condition, so BUSY falls, MODEHIST and RESULT are updated, MODE_CHANGED is sent and any waiting request starts. -/
  | modeTransitionDone
  /-- W_SLEEP_ENTRY (R37). In WATCH, once the four sleep conditions hold, the mode controller moves from W-ACTIVE to W-SLEEP and loads its own wake time. -/
  | wSleepEntry
  /-- MODE_WAKE_TIME (R37). The mode controller's own wake time expires in W-SLEEP and returns the device to W-ACTIVE. -/
  | modeWakeTime
  /-- WAKE_SOURCE (R46). A wake source asserts: it wakes the device from DORMANT with the WAKEMODE request, moves W-SLEEP to W-ACTIVE, or abandons a DORMANT entry before the latch. -/
  | wakeSource (src : Nat)
  /-- WAKE_TIMEOUT (R109). A wake step does not end within twice its maximum, so the PMU abandons the wake and starts a WAKE_TIMEOUT reset. -/
  | wakeTimeout (stage : Nat)
  /-- PAD_LATCH (R53). The quiesce of a DORMANT entry ends and the pads are latched, which commits the entry and runs the power-down order. -/
  | padLatch
  /-- DRAIN_END (R52). The drain ends, either because no affected context holds a frame or because 20 ms have passed, and frames still held are abandoned as unserved. -/
  | drainEnd
  /-- XREF_TRANSITION_TIMEOUT (R51). A transition has waited twice the R117 maximum for XREFRDY, so it completes on CK_HF with XREFFAIL raised. -/
  | xrefTransitionTimeout
  /-- CLUSTER_IDLE (R606). In NODE profile 1, a cluster domain that has had no work for 10 ms is switched off. -/
  | clusterIdle (n : Nat)
  /-- CLUSTER_POWERED (R606). A cluster domain switched on upon demand is up, and the accesses that waited for it complete. -/
  | clusterPowered (n : Nat)
  /-- SUPPLY_FAILURE (R50). The supply-failure comparator trips, which stops any transition, cancels the waiting request and enters LASTGASP. -/
  | supplyFailure
  /-- SUPPLY_CLEAR (R105). The supply-failure comparator clears, once VIN has stayed 50 mV above the threshold for 5 µs. -/
  | supplyClear
  /-- SUPPLY_RESTORED (R57). The comparator has stayed clear for 10 ms before LASTGASP phase 3, so unstarted alarms are cancelled and the former mode is requested with source 2. -/
  | supplyRestored
  /-- LASTGASP_FLUSH_DONE (R56). The LASTGASP flush ends, and the alarm phase releases HELD actions as ASAP, up to LGALARMS of them. -/
  | lastgaspFlushDone
  /-- LASTGASP_END (R56). The alarm phase ends, and the device enters DORMANT profile 0 or switches off, as LGEND sets. -/
  | lastgaspEnd
  /-- BOARD_WRITE (R100). The host command writes 256-byte units of a Board slot. -/
  | boardWrite (o : Origin) (p : List Byte)
  /-- BOARD_ERASE (R100). The host command erases a Board slot, and its response is sent when the erase completes. -/
  | boardErase (o : Origin) (p : List Byte)
  /-- BOARD_VERIFY (R100). The host command checks a slot under R67 and returns its header fields and the detail code. -/
  | boardVerify (o : Origin) (p : List Byte)
  /-- BOARD_SWAP (R100). The host command submits a partial swap under R78. -/
  | boardSwap (o : Origin) (p : List Byte)
  /-- BOARD_ABORT (R100). The host command aborts a swap under R90. -/
  | boardAbort (o : Origin) (p : List Byte)
  /-- BOARD_RELOAD (R76). The host command performs a full Board reload in KEEPER. -/
  | boardReload (o : Origin) (p : List Byte)
  /-- BOARD_BOOTLIST (R100). The host command verifies the named slots and writes a new boot list into the Defaults Image. -/
  | boardBootlist (o : Origin) (p : List Byte)
  /-- BOARD_STATUS (R100). The host command returns six BRD registers. -/
  | boardStatus (o : Origin) (p : List Byte)
  /-- SWAPCTL_START (R95). A write of START to BRD.SWAPCTL submits a swap request under R78. -/
  | swapctlStart (user : Bool) (w : Word)
  /-- SWAPCTL_ABORT (R95). A write of ABORT to BRD.SWAPCTL ends a swap in STAGING, ARMED or DRAINING with CANCELLED. -/
  | swapctlAbort (user : Bool) (w : Word)
  /-- SWAP_STAGED (R77). Staging ends, so the swap enters ARMED with a fixed target boundary, or ends in IDLE with BAD_IMAGE. -/
  | swapStaged
  /-- SWAP_DRAIN (R79). At DRAINLEAD before the target boundary the swap enters DRAINING, and the affected contexts and decoder tiles stop taking new work. -/
  | swapDrain
  /-- SWAP_BOUNDARY (R80). At the target boundary the swap tests for affected operations, then either defers, ends with BUSY, or opens the quiesce window. -/
  | swapBoundary
  /-- SWAP_PERSIST_DONE (R91). The Defaults Image write that adds a swapped slot to the boot list commits, and BOARD_SWAPPED reports the swap as persisted. -/
  | swapPersistDone
  /-- FULL_RELOAD_DONE (R76). A full reload ends, leaving the boot list's result, or the ROM Board, in force. -/
  | fullReloadDone
  /-- LP_BROWNOUT (R107). The LP logic tap stays below 0.62 V for 2 µs, so PD_AON loads are held and an ALWAYS-ON reset starts. -/
  | lpBrownout
  /-- LPMON_UPDATE (R108). Each 1 ms, LOAD and PEAK are updated, and LPHIGH is set when LOAD exceeds WARN. -/
  | lpmonUpdate (load : Nat)
  /-- BUCK_CURRENT_LIMIT (R104). The buck's peak inductor current limit acts, which sets BUCKILIM. -/
  | buckCurrentLimit (acting : Bool)
  /-- XLF_FAIL (R113). XLF gives no edge for 4 LF RC cycles, so CK_LF moves to LF RC and XLFFAIL is set. -/
  | xlfFail
  /-- XLF_QUALIFIED (R113). After a PD_AON reset, XLF has given 1,024 stable cycles and takes over CK_LF. -/
  | xlfQualified
  /-- LFRATIO_MEASURE (R114). Each 4,096 CK_LF cycles, the count of CK_REF ticks updates PMU.LFRATIO. -/
  | lfratioMeasure (ticks : Nat)
  /-- HFRC_FAIL (R115). The HFRC count falls outside 440–537 for two CK_LF cycles, so HFRCFAIL is set and the clocks fall back. -/
  | hfrcFail
  /-- XREF_READY (R116). XREF gives 4,096 qualified cycles, so XREFRDY is set. -/
  | xrefReady
  /-- XREF_FAIL (R118). XREF gives no edge for 1 µs: XREFRDY clears, CK_CPU moves to CK_HF, CK_FAB stops, radio actions miss and TMB advances on CK_LF. -/
  | xrefFail
  /-- XREF_RETRY (R118). Once a second after an XREF failure, the PMU retries the XREF start. -/
  | xrefRetry
  /-- PLLC_WRITE (R120). A write to CLK.PLLC that changes N, P or EN moves CK_CPU to CK_HF and relocks PLL-C, clamped to the ceiling. -/
  | pllcWrite (user : Bool) (w : Word)
  /-- PLLF_WRITE (R120). A write to CLK.PLLF sets PLL-F within the ceiling, or is refused with REFUSED while sample paths run. -/
  | pllfWrite (user : Bool) (w : Word)
  /-- PLL_LOCK (R119). A PLL locks, and its clock moves back onto it. -/
  | pllLock (c : Bool)
  /-- PLL_LOCK_LOSS (R122). A PLL loses lock, which sets FLOSS or CLOSS; its clock falls back and it relocks on its own. -/
  | pllLockLoss (c : Bool)
  /-- SPREAD_APPLY (R121). A change of spread depth or enable takes effect at the next turning point of the triangle. -/
  | spreadApply
  /-- PAD_HOLD_RELEASE (R112). A write of 1 to PAD.HOLD.RELEASE opens the latch of every held pad in one cycle. -/
  | padHoldRelease (user : Bool) (w : Word)
  /-- WAKETMR_WRITE (R128). A write to PMU.WAKETMR arms the firmware wake interval, or disarms it when zero. -/
  | waketmrWrite (user : Bool) (w : Word)
  /-- WAKETMR_FIRE (R128). The firmware wake interval expires, which sets the WAKETMR flag and acts as a wake source. -/
  | waketmrFire
  /-- POWER_ON (R136). VIN rises through 2.05 V or falls below 1.95 V, which asserts a POWER-ON reset. -/
  | powerOn
  /-- RESET_N_LOW (R138). RESET_N held low for 1 µs asserts the PIN reset at the scope that RST.PINCFG sets. -/
  | resetNLow
  /-- RESET_N_RISE (R138). RESET_N rises, which ends the pin reset so that start-up begins. -/
  | resetNRise
  /-- CORE_BROWNOUT (R136). VCORE below 0.68 V for 2 µs outside retention asserts a SYSTEM reset. -/
  | coreBrownout
  /-- WATCHDOG (R139). The watchdog count expires, which asserts a SYSTEM reset with cause WATCHDOG. -/
  | watchdog
  /-- WDTKICK (R139). A write to RST.WDTKICK reloads the watchdog with the key, and with any other value counts as expiry. -/
  | wdtkick (user : Bool) (w : Word)
  /-- WDTEARLY (R139). The watchdog count reaches TIMEOUT ÷ 8 with EARLY set, which sets the WDTEARLY flag. -/
  | wdtearly
  /-- SWRST_CORE (R151). A keyed write to RST.SWRST with SCOPE CORE resets one core. -/
  | swrstCore (user : Bool) (w : Word)
  /-- SWRST_SYSTEM (R151). A keyed write to RST.SWRST with SCOPE SYSTEM asserts a SYSTEM reset with cause SOFTWARE. -/
  | swrstSystem (user : Bool) (w : Word)
  /-- SWRST_ALWAYS_ON (R151). A keyed write to RST.SWRST with SCOPE ALWAYS-ON asserts an ALWAYS-ON reset with cause SOFTWARE. -/
  | swrstAlwaysOn (user : Bool) (w : Word)
  /-- SYS_RESET (R153). The host command sends its OK response and schedules a reset of the given scope. -/
  | sysReset (o : Origin) (p : List Byte)
  /-- SYS_RESET_ASSERT (R153). 100 µs after the SYS_RESET response, the HOST reset asserts. -/
  | sysResetAssert
  /-- START_UP (R140). After a SYSTEM or wider reset, the boot ROM runs the start-up steps in order until it reaches the background waits of step 6. -/
  | startUp (xref : Bool) (tamper : Nat)
  /-- JOURNAL_RECOVERY_DONE (R354). Journal recovery ends after resolving the copies, rebuilding the flows and rewriting the mirrors. -/
  | journalRecoveryDone
  /-- HOLDUP_MEASUREMENT_DONE (R352). The hold-up measurement ends and sets or clears PASS, which permits or refuses BUFFERED acceptance. -/
  | holdupMeasurementDone (fall : Nat) (stayed : Bool)
  /-- HANDOVER (R146). The start mode is entered, core 0 jumps to the firmware entry point and the watchdog starts. -/
  | handover (t9 : Nat) (t10 : Nat)
  /-- CORE_RELEASE (R158). A write of 1 to a SYS.CORERUN bit releases that core at its VEC address. -/
  | coreRelease (user : Bool) (w : Word)
  /-- CHAIN_LOCK_START (R252). 250 µs before a claim tick on a chain in STANDBY, the link controller starts LOCKING. -/
  | chainLockStart (c : Chain)
  /-- CHANNEL_LOCK (R166). The channel loop locks, so the chain moves from LOCKING to READY. -/
  | channelLock (c : Chain)
  /-- LOCKFAIL (R166). The channel loop does not lock within 250 µs, so the chain returns to STANDBY and LOCKFAIL is raised. -/
  | lockfail (c : Chain)
  /-- COEX_REQUEST (R175). LEAD before a ramp-up, CX_REQ is asserted and CX_PRI is driven. -/
  | coexRequest (c : Chain)
  /-- TRANSMIT_GATE (R177). At the grant sample, VPA is measured and the frame is checked for RLR, channel, duty and grant, then passed with its limits or refused. -/
  | transmitGate (c : Chain) (vpa : Nat)
  /-- RAMPUP_END (R166). Ramp-up ends and the chain enters TX. -/
  | rampupEnd (c : Chain)
  /-- TX_LAST_SYMBOL (R166). The last symbol is sent and the chain enters RAMPDN. -/
  | txLastSymbol (c : Chain)
  /-- RAMPDN_END (R166). Ramp-down ends: CX_ACT and FEM_TX are released and the chain goes to TURN or READY. -/
  | rampdnEnd (c : Chain)
  /-- TURN_END (R167). The turnaround T ends, and the chain enters RAMPUP or RX. -/
  | turnEnd (c : Chain)
  /-- CX_GNT_LOSS (R176). CX_GNT falls after the grant sample, which is counted in LOSS and raises GNTLOSS while the frame completes. -/
  | cxGntLoss (c : Chain)
  /-- CAL_START (R172). A write of START to RFS.CAL starts a FULL calibration, or is refused outside READY and STANDBY. -/
  | calStart (user : Bool) (c : Chain) (w : Word)
  /-- CAL_AUTO_START (R173). With AUTO set, CALDUE set, the chain in STANDBY and nothing due within 20 ms, a FULL calibration starts. -/
  | calAutoStart (c : Chain)
  /-- CAL_DONE (R172). A FULL calibration ends, storing its results or discarding them when out of range, and raises CALDONE. -/
  | calDone (c : Chain) (inRange : Bool) (temp : Int)
  /-- CALDUE (R173). A temperature change of 10 °C or 24 hours since the last FULL sets CALDUE. -/
  | caldue (c : Chain)
  /-- RAMP_COMMIT (R165). A write of COMMIT copies the staged ramp entries into the committed table, or is refused with ERR. -/
  | rampCommit (user : Bool) (c : Chain) (w : Word)
  /-- AFC_TRACK (R170). At most once per millisecond during a narrow-path frame, the channel loop applies a carrier-offset tracking update. -/
  | afcTrack (c : Chain) (offset : Int)
  /-- CAPLOCK_LOSS (R161). The capture loop loses lock, which makes the wide-path samples invalid while it relocks on its own. -/
  | caplockLoss (c : Chain)
  /-- DUTY_BIN (R178). Each 1 ms bin ends, and it is counted in each band's ledger if the PA was active during it. -/
  | dutyBin
  /-- DUTY_BLOCK_CLOSE (R178). Each 10 s block closes in the duty ledger, and the seed count falls. -/
  | dutyBlockClose
  /-- WAKE_TELEGRAM (R184). The wake receiver receives a telegram whose sync matches, then reports a pattern match or counts NOMATCH. -/
  | wakeTelegram (fast : Bool) (pattern : Nat)
  /-- WKR_FLOOR_ESTIMATE (R184). Every 100 ms the wake receiver re-estimates its noise floor. -/
  | wkrFloorEstimate (level : Int)
  /-- RF_STATUS (R192). The host command returns seven registers of a chain. -/
  | rfStatus (o : Origin) (p : List Byte)
  /-- RF_CAL (R192). The host command starts a FULL calibration and responds when it ends. -/
  | rfCal (o : Origin) (p : List Byte)
  /-- RF_DUTY (R192). The host command returns the limits and the W of an RLR band. -/
  | rfDuty (o : Origin) (p : List Byte)
  /-- WKR_SET (R192). The host command writes the wake receiver's CTRL and patterns. -/
  | wkrSet (o : Origin) (p : List Byte)
  /-- DETECTOR_FIRE (R199). A coarse preamble detector fires on a slice, and the firing is merged, becomes a candidate or is discarded. -/
  | detectorFire (b : Nat) (slice : Nat) (mode : Nat) (level : Int)
  /-- ARBITRATION (R204). Each CK_REF tick, a band's candidates are assigned to eligible contexts, evict lower-class frames, or are queued. -/
  | arbitration (b : Nat)
  /-- CANDIDATE_EXPIRE (R205). A waiting candidate's HOLD ends, so it expires with DRAIN, PARKED or NOCTX. -/
  | candidateExpire (b : Nat)
  /-- CTX_SYNC (R201). A context finds sync, and it enters RECEIVING. -/
  | ctxSync (n : Nat) (level : Int) (cfo : Int)
  /-- CTX_FALSEDET (R201). No sync is found within the longest preamble, so the context is released with FALSEDET. -/
  | ctxFalsedet (n : Nat)
  /-- CTX_HEADER (R225). The PHY header is decoded and checked, and a failure releases the frame with HDRFAIL. -/
  | ctxHeader (n : Nat) (bits : Nat) (ok : Bool)
  /-- CTX_RELEASE (R201). The frame's last soft decision is handed to a decoder, and the context becomes FREE. -/
  | ctxRelease (n : Nat)
  /-- SAMPLE_OVERFLOW (R27). A sample buffer overflows, a whole block is discarded, and OVF is raised and counted. -/
  | sampleOverflow (b : Nat)
  /-- SAMPLE_INVALID (R194). A band's samples become invalid, which holds its detectors and abandons its frames and candidates. -/
  | sampleInvalid (b : Nat)
  /-- AGC_ATTACK (R195). Each µs in which the ADC peak exceeds −3 dBFS, G falls by the ATTACK step and CUTCNT counts it. -/
  | agcAttack (b : Nat) (peak : Nat) (clip : Bool)
  /-- AGC_DECAY (R195). At the end of a DECAY period below −15 dBFS, G rises by 1 dB up to GMAX. -/
  | agcDecay (b : Nat)
  /-- MODE_SWITCH (R206). A mode switch announced within a frame is followed by the context, or abandons the frame with MODESW. -/
  | modeSwitch (n : Nat) (mode : Nat)
  /-- BLOCK_DISPATCH (R237). A block whose last LLR has left its context is queued in a decoder tile once a queue place is free. -/
  | blockDispatch (n : Nat) (llrs : List Int)
  /-- BLOCK_DECODE_DONE (R238). A decoder tile finishes a block, which succeeds, fails at MAXIT, or combines with a soft-combining slot. -/
  | blockDecodeDone (index : Nat) (good : Nat) (data : List Byte)
  /-- SLOT_EXPIRE (R239). A soft-combining slot's LIFE ends, so it is freed and counted EXPIRED. -/
  | slotExpire (index : Nat)
  /-- LNK_SUBMIT (R250). A write of a slot to LNK.SUBMIT checks the action record and queues it as PENDING or HELD, or fails. -/
  | lnkSubmit (user : Bool) (w : Word)
  /-- LNK_CANCEL (R254). A write to LNK.CANCEL cancels one action, or every firmware action with ALL, according to its state. -/
  | lnkCancel (user : Bool) (w : Word)
  /-- LNK_NEXT0_READ (R274). A read of LNK.NEXT0 returns the low bits of the earliest claim tick and latches NEXT1. -/
  | lnkNext0Read
  /-- ACTION_CLAIM (R252). At its claim tick an action takes its chain, or is settled as late, missed or in conflict. -/
  | actionClaim (n : Nat)
  /-- ACTION_START (R249). At its start time an action's work begins: a receiver opens, a listen starts or a marker fires. -/
  | actionStart (n : Nat)
  /-- RX_WINDOW_END (R249). A receive window reaches start plus DUR and closes, and a frame in preamble is dropped. -/
  | rxWindowEnd (n : Nat) (peak : Int)
  /-- LISTEN_BUSY (R266). An RSSI update above the threshold makes the listen busy, which ends it and draws a backoff roll. -/
  | listenBusy (n : Nat) (level : Int)
  /-- LISTEN_CLEAR (R266). A listen time ends with no update above the threshold, so the gate and ramp-up follow. -/
  | listenClear (n : Nat)
  /-- BACKOFF_END (R268). A TXLBT backoff of r units ends, and the action claims its chain for the next listen. -/
  | backoffEnd (n : Nat)
  /-- ACTION_COMPLETE (R261). An action's outcome is fixed with its status and reason, the slot enters DONE, and any FOLLOW action is settled. -/
  | actionComplete (n : Nat)
  /-- COMPLETION_WRITE (R262). A completion entry is written once its ring has space, and the slot returns to FREE. -/
  | completionWrite (n : Nat)
  /-- FRAME_RECEIVED (R263). A delivered frame takes a receive buffer, is matched to a link and is passed to the journal or announced in a ring. -/
  | frameReceived
  /-- RXRELEASE (R264). A write to LNK.RXRELEASE frees a receive buffer, or sets RELERR. -/
  | rxrelease (user : Bool) (w : Word)
  /-- RING_READ_ADVANCE (R262). A write to a ring's RD index frees entries, and waiting entries can then be written. -/
  | ringReadAdvance (user : Bool) (r : Nat) (w : Word)
  /-- RX_CONFIG_APPLY (R275). Once no frame is being written, a new RXBASE, RXCOUNT or BUFSZ takes effect and marks every buffer free. -/
  | rxConfigApply
  /-- RING_CONFIG_APPLY (R275). Once no entry is being written, a new ring base or size takes effect and resets WR and RD. -/
  | ringConfigApply (r : Nat)
  /-- WATCH_LISTEN (R271). In WATCH, the link controller makes a scheduled 2 ms narrow-path listen of its own. -/
  | watchListen
  /-- CHAIN_IDLE (R252). No action is due on a chain within IDLE ms, so the chain returns to STANDBY. -/
  | chainIdle (c : Chain)
  /-- LINKCMD_OPEN (R283). OP 1 in TNT.LINKCMD opens a link from its FREE context template. -/
  | linkcmdOpen (user : Bool) (w : Word)
  /-- LINKCMD_CLOSE (R288). OP 2 in TNT.LINKCMD sends CLOSE and moves the link to CLOSING. -/
  | linkcmdClose (user : Bool) (w : Word)
  /-- LINKCMD_RELEASE (R288). OP 3 in TNT.LINKCMD moves a DOWN context to FREE and advances its generation. -/
  | linkcmdRelease (user : Bool) (w : Word)
  /-- LINKCMD_SWAP (R290). OP 4 in TNT.LINKCMD starts a role-swap request with a roll and a SWAPEVT. -/
  | linkcmdSwap (user : Bool) (w : Word)
  /-- LINKCMD_CHMAP (R289). OP 5 in TNT.LINKCMD stages a new channel map and sends it to the follower. -/
  | linkcmdChmap (user : Bool) (w : Word)
  /-- LINK_OPEN (R305). The host command writes a context template and opens the link. -/
  | linkOpen (o : Origin) (p : List Byte)
  /-- LINK_CLOSE (R305). The host command closes a link. -/
  | linkClose (o : Origin) (p : List Byte)
  /-- LINK_RELEASE (R305). The host command releases a DOWN link. -/
  | linkRelease (o : Origin) (p : List Byte)
  /-- LINK_SWAP (R305). The host command requests a role swap. -/
  | linkSwap (o : Origin) (p : List Byte)
  /-- LINK_GET (R305). The host command returns a context's hardware part. -/
  | linkGet (o : Origin) (p : List Byte)
  /-- TENANT_STATUS (R305). The host command returns a tenant's TSTAT and its counters. -/
  | tenantStatus (o : Origin) (p : List Byte)
  /-- LINK_EVENT (R285). A scheduled link's ANCHOR is reached, so EVCNT advances, a frame or listen is made, and swaps, map changes and role fixes take effect. -/
  | linkEvent (index : Nat)
  /-- SUPERVISION_TIMEOUT (R287). TMB − LASTHEARD exceeds SUPTO, and the link goes DOWN with reason 3. -/
  | supervisionTimeout (index : Nat)
  /-- OPEN (R284). A received OPEN LCP makes a follower take its values, answer OPEN_ACK and go UP. -/
  | openCmd (h : Nat) (stamp : Nat) (ended : Nat) (p : List Byte)
  /-- OPEN_ACK (R437). A received OPEN_ACK takes the leader UP at the negotiated wire generation, or DOWN with reason 4. -/
  | openAck (h : Nat) (ended : Nat) (p : List Byte)
  /-- CLOSE (R288). A received CLOSE LCP is answered with CLOSE_ACK, and the link goes DOWN with reason 2. -/
  | close (h : Nat) (ended : Nat) (p : List Byte)
  /-- CLOSE_ACK (R281). A received CLOSE_ACK moves a CLOSING link to DOWN with reason 1. -/
  | closeAck (h : Nat) (ended : Nat) (p : List Byte)
  /-- SWAP_REQ (R290). A received SWAP_REQ is answered OK, MISSED or COLLISION under the collision rule. -/
  | swapReq (h : Nat) (ended : Nat) (p : List Byte)
  /-- SWAP_RSP (R290). A received SWAP_RSP settles this end's pending swap request. -/
  | swapRsp (h : Nat) (ended : Nat) (p : List Byte)
  /-- CHMAP (R289). A received CHMAP LCP stages the new map for its APPLY event. -/
  | chmap (h : Nat) (ended : Nat) (p : List Byte)
  /-- KEEPALIVE (R285). A received KEEPALIVE LCP refreshes LASTHEARD. -/
  | keepalive (h : Nat) (ended : Nat) (p : List Byte)
  /-- QPOST (R296). A write of a descriptor address to TNT.QPOST copies the descriptor into its tenant's queue, or fails. -/
  | qpost (user : Bool) (w : Word)
  /-- SCHEDULING_PASS (R297). At each Q tick, the tenant engine withdraws, chooses and submits exchanges on each chain. -/
  | schedulingPass
  /-- NTM_ABORT (R311). The ABORT bit of NTM.CMD zeroes SLEWREM and discards a waiting slew. -/
  | ntmAbort (user : Bool) (w : Word)
  /-- NTM_SET (R311). The SET bit of NTM.CMD sets NTM to SETHI:SETLO, or defers it under R312. -/
  | ntmSet (user : Bool) (w : Word)
  /-- NTM_STEP (R311). The STEP bit of NTM.CMD adds ADJ to NTM, or defers it. -/
  | ntmStep (user : Bool) (w : Word)
  /-- NTM_SLEW (R311). The SLEW bit of NTM.CMD replaces SLEWREM with ADJ at rate SLEWMAX. -/
  | ntmSlew (user : Bool) (w : Word)
  /-- NTM_CAPTURE (R310). The CAPTURE bit of NTM.CMD latches NTM, its fraction and TMB on one tick. -/
  | ntmCapture (user : Bool) (w : Word)
  /-- INCINT_WRITE (R311). A write to NTM.INCINT commits INCINT with the staged INCFRAC, or is refused while a source steers NTM. -/
  | incintWrite (user : Bool) (w : Word)
  /-- SLEW_END (R308). SLEWREM reaches zero, which ends the slew exactly. -/
  | slewEnd
  /-- DEFERRED_ADJUST (R312). A deferred SET, step or slew is applied once its deferral conditions end. -/
  | deferredAdjust
  /-- ROUND_BOUNDARY (R314). NTM reaches the next round boundary, which fires ROUND and slot 0 and updates ROUND0. -/
  | roundBoundary
  /-- SLOT_BOUNDARY (R314). NTM reaches LASTSLOT + 10^7 ns, which fires a SLOT event. -/
  | slotBoundary
  /-- SYNC_EDGE (R322). An edge on SYNC_IN is timed and kept as the candidate nearest the round's expected point. -/
  | syncEdge (rising : Bool)
  /-- SYNC_ROUND (R324). At the end of a round's capture window, the tracker uses the nearest edge or counts a miss, and updates its state, phase and frequency. -/
  | syncRound
  /-- TIME_GET (R329). The host command makes a capture and returns the time values. -/
  | timeGet (o : Origin) (p : List Byte)
  /-- TIME_SET (R329). The host command sets NTM as SET does. -/
  | timeSet (o : Origin) (p : List Byte)
  /-- JRN_SUBMIT (R336). A write of a descriptor address to JRN.SUBMIT submits a message for acceptance. -/
  | jrnSubmit (user : Bool) (w : Word)
  /-- COMMIT_DONE (R337). A journal commit ends in the flash copies or the mirrors, so the pending result becomes ACCEPTED, OK or a CACK. -/
  | commitDone
  /-- BUFFER_FLUSH (R337). BUFFERED records are written to flash when 240 bytes wait or the oldest reaches FLUSHAGE. -/
  | bufferFlush
  /-- CUSTODY_DATA (R339). A received custody DATA frame is tested and committed, and a CACK is posted. -/
  | custodyData (h : Nat) (p : List Byte)
  /-- CACK (R341). A received CACK settles the outstanding message by its STATUS. -/
  | cack (h : Nat) (p : List Byte)
  /-- RETRANSMIT (R340). The retransmission interval of an unsettled message expires, and the message is sent again. -/
  | retransmit (j : Nat)
  /-- DELIVERY (R342). A LOCAL message is copied to a free buffer and announced in its ring or to the host once room exists. -/
  | delivery (j : Nat)
  /-- JRN_RELEASE (R343). A write of a JSEQ to JRN.RELEASE commits a RELEASED record for a delivered message. -/
  | jrnRelease (user : Bool) (w : Word)
  /-- MESSAGE_EXPIRE (R344). ROUND0 reaches a held message's DEADLINE, so EXPIRED is committed and reported. -/
  | messageExpire (j : Nat)
  /-- FLOW_FREE (R334). ROUND0 reaches LASTDL + 120 for an empty, closable entry, and the entry is freed. -/
  | flowFree (f : Nat)
  /-- FLOWCMD_OPEN (R363). OP 1 in JRN.FLOWCMD opens an origin flow entry. -/
  | flowcmdOpen (user : Bool) (w : Word)
  /-- FLOWCMD_CLOSE (R363). OP 2 in JRN.FLOWCMD commits FLOWCLOSE for an origin entry. -/
  | flowcmdClose (user : Bool) (w : Word)
  /-- FLOWCMD_EPOCH (R335). OP 3 in JRN.FLOWCMD raises an origin entry's epoch. -/
  | flowcmdEpoch (user : Bool) (w : Word)
  /-- FLOWCMD_GET (R363). OP 4 in JRN.FLOWCMD writes the flow descriptor. -/
  | flowcmdGet (user : Bool) (w : Word)
  /-- MSG_SEND (R364). The host command submits a message. -/
  | msgSend (o : Origin) (p : List Byte)
  /-- MSG_RELEASE (R364). The host command releases a delivered message. -/
  | msgRelease (o : Origin) (p : List Byte)
  /-- FLOW_OPEN (R364). The host command opens a flow. -/
  | flowOpen (o : Origin) (p : List Byte)
  /-- FLOW_CLOSE (R364). The host command closes a flow. -/
  | flowClose (o : Origin) (p : List Byte)
  /-- FLOW_EPOCH (R364). The host command raises a flow's epoch. -/
  | flowEpoch (o : Origin) (p : List Byte)
  /-- FLOW_GET (R364). The host command returns a flow descriptor. -/
  | flowGet (o : Origin) (p : List Byte)
  /-- JRN_STATUS (R364). The host command returns five journal registers. -/
  | jrnStatus (o : Origin) (p : List Byte)
  /-- HOLD_TEST (R364). The host command repeats the hold-up test in KEEPER. -/
  | holdTest (o : Origin) (p : List Byte)
  /-- JOURNAL_CHECKPOINT (R348). Before the write point reaches a sector with live records, they are copied forward and the sector is erased. -/
  | journalCheckpoint
  /-- DELIVERY_CONFIG_APPLY (R359). Once no delivery is being written, a new DLVBASE or DLVCOUNT takes effect and every unreleased delivery is redelivered. -/
  | deliveryConfigApply
  /-- PLANE_FAIL (R331). A journal flash copy leaves service, which raises DEGRADED and records PLANE_FAIL. -/
  | planeFail (k : Nat) (status : Nat)
  /-- HSL_FRAME (R374). A complete HSL frame is received, then checked for CRC and form, discarded, or taken. -/
  | hslFrame (ep : Endpoint) (room : Bool) (p : List Byte)
  /-- HSL_ACK_TIMER (R378). 100 µs after a taken command with no RSP yet sent, the device sends an ACK. -/
  | hslAckTimer (ep : Endpoint) (ch : Nat)
  /-- HSL_ACK (R381). A received ACK on channel 15 frees the notice entry whose SEQ it names. -/
  | hslAck (ep : Endpoint) (seq : Nat)
  /-- NOTICE_SEND (R381). A queued notice is sent once the sink is up and the window NWIN allows. -/
  | noticeSend
  /-- NOTICE_RETRANSMIT (R381). A notice unacknowledged for NRTO or TNRTO is sent again with the same SEQ. -/
  | noticeRetransmit (seq : Nat)
  /-- HSL_WAKE (R371). HSL_WAKE changes level, which enables or blocks local sending and acts as the host-wake source. -/
  | hslWake (level : Bool)
  /-- HSL_SYNC (R376). The host command opens every channel of its endpoint and clears the stored responses. -/
  | hslSync (o : Origin) (p : List Byte)
  /-- HSL_STATUS (R387). The host command returns the HSL registers and counters. -/
  | hslStatus (o : Origin) (p : List Byte)
  /-- HSL_ARBITRATION (R384). An HSL-1 arbitration preamble is run, and the device yields to the host if the host also drives. -/
  | hslArbitration (host : Bool)
  /-- HSL_CONFIG_APPLY (R388). Once no local frame is in progress, a new VARIANT, RATE or UART setting takes effect. -/
  | hslConfigApply
  /-- FL_PROGRAM (R397). The boot-ROM routine programs and verifies 256-byte flash units. -/
  | flProgram (core : Nat)
  /-- FL_ERASE (R397). The boot-ROM routine starts a background sector erase and returns PENDING. -/
  | flErase (core : Nat)
  /-- FL_POLL (R396). The boot-ROM routine returns the status of the last erase or lowering. -/
  | flPoll (core : Nat)
  /-- FL_SCRUB (R405). The boot-ROM routine refreshes the first marked sector through the staging area. -/
  | flScrub (core : Nat)
  /-- FL_NVWRITE (R414). The boot-ROM routine writes the three copies of the DFI or the RLR. -/
  | flNvwrite (core : Nat) (copies : Nat)
  /-- FL_NVREPAIR (R396). The boot-ROM routine rewrites every copy that differs from the resolved image. -/
  | flNvrepair (core : Nat)
  /-- FL_RDP (R403). The boot-ROM routine raises or lowers the read-out protection level. -/
  | flRdp (core : Nat)
  /-- FL_OTPWRITE (R408). The boot-ROM routine sets rollback-floor bits in OTP. -/
  | flOtpwrite (core : Nat)
  /-- FL_INFO (R396). The boot-ROM routine returns FLC.STAT, NVSTAT and RDP. -/
  | flInfo (core : Nat)
  /-- FL_RESERVED_ENTRY (R395). A call of a reserved routine-table entry returns UNKNOWN_COMMAND. -/
  | flReservedEntry (core : Nat)
  /-- FLASH_ERASE_DONE (R396). A background erase ends, and its result is held for FL_POLL with OPDONE raised. -/
  | flashEraseDone
  /-- RDP_LOWER_DONE (R403). The erase of a lowering ends, and the device makes an ALWAYS-ON reset with cause SOFTWARE. -/
  | rdpLowerDone
  /-- ERASE_RESUME (R399). A suspended erase resumes when nothing waits on its plane. -/
  | eraseResume
  /-- SCRUB_READ (R405). The scrubber reads codewords at its pace and marks sectors for refresh. -/
  | scrubRead (corr : List Nat) (retried : Nat) (bad : List Nat)
  /-- FLC_OP_PROGRAM_UNIT (R419). OPCTL OP 1 with GO, from the boot ROM, programs one flash unit. -/
  | flcOpProgramUnit (user : Bool) (rom : Bool) (w : Word)
  /-- FLC_OP_ERASE_SECTOR (R419). OPCTL OP 2 with GO, from the boot ROM, erases one sector. -/
  | flcOpEraseSector (user : Bool) (rom : Bool) (w : Word)
  /-- FLC_OP_ERASE_PLANE (R419). OPCTL OP 3 with GO, from the boot ROM, erases a plane. -/
  | flcOpErasePlane (user : Bool) (rom : Bool) (w : Word)
  /-- FLC_OP_SUSPEND (R419). OPCTL OP 4 with GO, from the boot ROM, suspends an erase. -/
  | flcOpSuspend (user : Bool) (rom : Bool) (w : Word)
  /-- FLC_OP_RESUME (R419). OPCTL OP 5 with GO, from the boot ROM, resumes an erase. -/
  | flcOpResume (user : Bool) (rom : Bool) (w : Word)
  /-- FLC_OP_PROGRAM_OTP (R419). OPCTL OP 6 with GO, from the boot ROM, programs one OTP word. -/
  | flcOpProgramOtp (user : Bool) (rom : Bool) (w : Word)
  /-- FLC_OP_DONE (R419). An operation started through OPCTL ends, and its result goes to OPSTAT. -/
  | flcOpDone
  /-- OTPADDR_WRITE (R419). A write to FLC.OTPADDR selects an OTP word, which becomes valid in OTPDATA within 1 µs. -/
  | otpaddrWrite (user : Bool) (w : Word)
  /-- DFI_WRITE (R423). The host command stages DFI parts and runs FL_NVWRITE on the last part. -/
  | dfiWrite (o : Origin) (p : List Byte)
  /-- DFI_READ (R423). The host command returns the resolved DFI or one of its copies. -/
  | dfiRead (o : Origin) (p : List Byte)
  /-- RLR_WRITE (R423). The host command writes the RLR through FL_NVWRITE. -/
  | rlrWrite (o : Origin) (p : List Byte)
  /-- RLR_READ (R423). The host command returns the resolved RLR or one of its copies. -/
  | rlrRead (o : Origin) (p : List Byte)
  /-- NV_STATUS (R423). The host command returns the flash status registers and counters. -/
  | nvStatus (o : Origin) (p : List Byte)
  /-- USER_WRITE (R423). The host command programs the user area as FL_PROGRAM does. -/
  | userWrite (o : Origin) (p : List Byte)
  /-- USER_READ (R423). The host command returns user-area data. -/
  | userRead (o : Origin) (p : List Byte)
  /-- USER_ERASE (R423). The host command erases user-area sectors and responds when the erase ends. -/
  | userErase (o : Origin) (p : List Byte)
  /-- FW_WRITE (R429). The host command writes blocks of a STANDBY firmware slot. -/
  | fwWrite (o : Origin) (p : List Byte)
  /-- FW_ERASE (R428). The host command erases a firmware slot and responds when the erase ends. -/
  | fwErase (o : Origin) (p : List Byte)
  /-- FW_VERIFY (R427). The host command applies the boot checks to a slot and reports the result. -/
  | fwVerify (o : Origin) (p : List Byte)
  /-- FW_ACTIVATE (R430). The host command commits an ACTIVATION record for a slot at a round. -/
  | fwActivate (o : Origin) (p : List Byte)
  /-- FW_CANCEL (R432). The host command withdraws a scheduled activation by committing ACTCLEAR. -/
  | fwCancel (o : Origin) (p : List Byte)
  /-- FW_CONFIRM (R435). The host command confirms a trial image and raises the rollback floor. -/
  | fwConfirm (o : Origin) (p : List Byte)
  /-- FW_STATUS (R428). The host command returns slot roles, versions, the floor and the scheduled activation. -/
  | fwStatus (o : Origin) (p : List Byte)
  /-- ACTIVATION_KEEPER (R433). 1 s before an activation's boundary, KEEPER profile 0 is requested with source 3. -/
  | activationKeeper
  /-- ACTIVATION_QUIESCE (R433). At the activation boundary, the device quiesces, flushing the journal and closing any swap window. -/
  | activationQuiesce
  /-- ACTIVATION_RESET (R433). The activation quiesce ends, and a SYSTEM reset with cause ACTIVATION follows. -/
  | activationReset
  /-- AUTO_CONFIRM (R435). CONFSEC seconds of trial pass without a reset, so the image confirms itself. -/
  | autoConfirm
  /-- KEY_LOAD (R445). A write of GO to KEY.LOADCTL loads the staged bytes into a slot, or fails. -/
  | keyLoad (user : Bool) (rom : Bool) (w : Word)
  /-- KEY_CLEAR (R445). A write to KEY.CLEAR zeroes and invalidates the chosen slots. -/
  | keyClear (user : Bool) (w : Word)
  /-- TUNKEY_WRITE (R467). A write to KEY.TUNKEY names the tunnel slot and clears TUNRXFC. -/
  | tunkeyWrite (user : Bool) (w : Word)
  /-- CRYPTO_START (R449). A write of START to a context's CTL checks and starts a crypto operation. -/
  | cryptoStart (c : Nat) (user : Bool) (w : Word)
  /-- CRYPTO_ABORT (R449). A write of ABORT ends the running operation with CANCELLED after zeroing its output. -/
  | cryptoAbort (c : Nat) (user : Bool) (w : Word)
  /-- CRYPTO_CHUNK (R450). A unit finishes a chunk or step and passes to the next waiting context in circular order. -/
  | cryptoChunk (pk : Bool)
  /-- CRYPTO_DONE (R452). A crypto operation completes with OK or AUTH_FAIL, zeroing its output on failure. -/
  | cryptoDone (c : Nat)
  /-- RNG_WINDOW (R454). A 1,024-bit test window of raw bits ends and passes, which releases output and reseeds when due. -/
  | rngWindow
  /-- RNG_HEALTH_FAIL (R457). A health test fails, so output is discarded, requests fail with ENTROPY_FAIL and the RNG enters FAILED. -/
  | rngHealthFail (test : Nat)
  /-- RNG_AUTO_RESTART (R457). 1 s after a failure with AUTORST set and FAILS below 3, the RNG re-enters STARTUP. -/
  | rngAutoRestart
  /-- RNG_RESTART (R465). A write of RESTART to RNG.CTL moves FAILED to STARTUP. -/
  | rngRestart (user : Bool) (w : Word)
  /-- RNG_REQUEST (R456). A write of LEN to RNG.REQLENn starts a random-byte request. -/
  | rngRequest (n : Nat) (user : Bool) (w : Word)
  /-- RNG_REQUEST_DONE (R456). A random-byte request completes with OK or ENTROPY_FAIL and raises REQDONE. -/
  | rngRequestDone (n : Nat)
  /-- TAMPER_ALARM (R461). A tamper source alarms, which acts with the effects of its class, from logging to wipes and a HALT reset. -/
  | tamperAlarm (src : Nat) (on : Bool)
  /-- KEY_STORE_ERASE (R461). A pending key store erase runs once PD_FL and PD_COM are on, before any unseal. -/
  | keyStoreErase
  /-- LATCH_CLEAR (R463). A W1C write to TMP.LATCH clears the latches of classes LOG to WIPE-ALL. -/
  | latchClear (user : Bool) (w : Word)
  /-- SEC_STATUS (R468). The host command returns the security state. -/
  | secStatus (o : Origin) (p : List Byte)
  /-- KEY_PROVISION (R468). The host command programs a key root, floor bits or a key store entry. -/
  | keyProvision (o : Origin) (p : List Byte)
  /-- KEY_REVOKE (R468). The host command sets a key's revocation bit. -/
  | keyRevoke (o : Origin) (p : List Byte)
  /-- TAMPER_CLEAR (R468). The host command verifies a maintenance signature and clears HALT latches. -/
  | tamperClear (o : Origin) (p : List Byte)
  /-- RNG_STATUS (R468). The host command returns RNG.STAT and its counters. -/
  | rngStatus (o : Origin) (p : List Byte)
  /-- ALU (R495). The ALU instruction computes D from A and B by FN. -/
  | alu (core : Nat) (w : Word)
  /-- ADDI (R494). The instruction sets D to A plus IMM. -/
  | addi (core : Nat) (w : Word)
  /-- ANDI (R494). The instruction sets D to A AND IMM. -/
  | andi (core : Nat) (w : Word)
  /-- ORI (R494). The instruction sets D to A OR IMM. -/
  | ori (core : Nat) (w : Word)
  /-- XORI (R494). The instruction sets D to A XOR IMM. -/
  | xori (core : Nat) (w : Word)
  /-- TLTI (R494). The instruction sets D to the signed comparison of A with IMM. -/
  | tlti (core : Nat) (w : Word)
  /-- TLTIU (R494). The instruction sets D to the unsigned comparison of A with IMM. -/
  | tltiu (core : Nat) (w : Word)
  /-- SHI (R494). The instruction shifts A by SH into D. -/
  | shi (core : Nat) (w : Word)
  /-- LDHI (R494). The instruction sets D to IMM22 × 2^10. -/
  | ldhi (core : Nat) (w : Word)
  /-- ADDPCH (R494). The instruction sets D to pc plus IMM22 × 2^10. -/
  | addpch (core : Nat) (w : Word)
  /-- LDB (R494). The instruction loads a sign-extended byte. -/
  | ldb (core : Nat) (w : Word)
  /-- LDBU (R494). The instruction loads a zero-extended byte. -/
  | ldbu (core : Nat) (w : Word)
  /-- LDH (R494). The instruction loads a sign-extended halfword. -/
  | ldh (core : Nat) (w : Word)
  /-- LDHU (R494). The instruction loads a zero-extended halfword. -/
  | ldhu (core : Nat) (w : Word)
  /-- LDW (R494). The instruction loads a word. -/
  | ldw (core : Nat) (w : Word)
  /-- STB (R494). The instruction stores a byte. -/
  | stb (core : Nat) (w : Word)
  /-- STH (R494). The instruction stores a halfword. -/
  | sth (core : Nat) (w : Word)
  /-- STW (R494). The instruction stores a word. -/
  | stw (core : Nat) (w : Word)
  /-- MEMX (R496). The instruction makes an indexed, post-increment or pre-decrement load or store. -/
  | memx (core : Nat) (w : Word)
  /-- LDF (R494). The instruction loads a floating-point register. -/
  | ldf (core : Nat) (w : Word)
  /-- STF (R494). The instruction stores a floating-point register. -/
  | stf (core : Nat) (w : Word)
  /-- BR (R497). The conditional branch is taken when A COND B holds. -/
  | br (core : Nat) (w : Word)
  /-- J (R494). The instruction jumps by DISP26. -/
  | j (core : Nat) (w : Word)
  /-- CALL (R474). The instruction pushes a return address on the return stack and jumps. -/
  | call (core : Nat) (w : Word)
  /-- JR (R497). The instruction jumps to the address in A. -/
  | jr (core : Nat) (w : Word)
  /-- CALLR (R474). The instruction calls the address in A. -/
  | callr (core : Nat) (w : Word)
  /-- RET (R474). The instruction pops a return address and jumps, faulting on a frame word. -/
  | ret (core : Nat) (w : Word)
  /-- GETDSP (R497). The instruction copies dsp into D. -/
  | getdsp (core : Nat) (w : Word)
  /-- SETDSP (R497). The instruction sets dsp from A. -/
  | setdsp (core : Nat) (w : Word)
  /-- PUSH (R472). The instruction stores A at dsp − 4 and lowers dsp. -/
  | push (core : Nat) (w : Word)
  /-- POP (R472). The instruction loads D from dsp and raises dsp. -/
  | pop (core : Nat) (w : Word)
  /-- GETRSP (R497). The instruction copies the current rsp into D. -/
  | getrsp (core : Nat) (w : Word)
  /-- MFS (R498). The instruction reads a system register. -/
  | mfs (core : Nat) (w : Word)
  /-- MTS (R498). The instruction writes a system register, including the MPU and frame registers. -/
  | mts (core : Nat) (w : Word)
  /-- TRAP (R498). The instruction completes and enters vector 4 with its code. -/
  | trap (core : Nat) (w : Word)
  /-- ERET (R487). The instruction returns from the exception frame, restoring pc, PSR and EFRAME. -/
  | eret (core : Nat) (w : Word)
  /-- WAIT (R490). The instruction stops the core's clock until its ICU request asserts. -/
  | wait (core : Nat) (w : Word)
  /-- SWAP (R479). The instruction exchanges a word with memory indivisibly. -/
  | swap (core : Nat) (w : Word)
  /-- CAS (R479). The instruction compares and swaps a word indivisibly. -/
  | cas (core : Nat) (w : Word)
  /-- SETIE (R498). The instruction returns the old IE and sets IE. -/
  | setie (core : Nat) (w : Word)
  /-- FP (R501). A floating-point instruction computes its FN function with rounding, flags and traps. -/
  | fp (core : Nat) (w : Word)
  /-- DSPM (R496). The instruction makes a dsp-relative load, store, adjustment or address computation. -/
  | dspm (core : Nat) (w : Word)
  /-- INT (R488). After an instruction, with IE 1 and the ICU request asserted, the core takes the INT exception. -/
  | intCmd (core : Nat)
  /-- WAIT_WAKE (R490). The ICU request of a waiting core asserts, and WAIT completes. -/
  | waitWake (core : Nat)
  /-- INTERRUPT_SOURCE (R510). A source is sampled: an edge sets pending, which may merge, and a level follows pending. -/
  | interruptSource (core : Nat) (id : Nat) (level : Bool)
  /-- PRESENTATION (R511). The winner of a bank is written to its ring once there is room, becomes active and has its priority pushed. -/
  | presentation (core : Nat)
  /-- EOI (R513). A write to EOI clears the top source's active bit and pops its priority, or raises EOIERR. -/
  | eoi (user : Bool) (core : Nat) (w : Word)
  /-- DOORBELL (R507). A write to DOORBELL sets a private doorbell source pending. -/
  | doorbell (user : Bool) (core : Nat) (writer : Nat) (w : Word)
  /-- SWSET (R510). A write to SWSET sets a shared source pending. -/
  | swset (user : Bool) (w : Word)
  /-- SWCLR (R510). A write to SWCLR clears a shared source's pending bit. -/
  | swclr (user : Bool) (w : Word)
  /-- ICU_RING_READ (R512). A write to a bank's RINGRD frees ring room and clears the core's request when the ring is empty. -/
  | icuRingRead (user : Bool) (core : Nat) (w : Word)
  /-- ICU_RING_CONFIG (R515). Once no record is being written, a new RINGBASE or RINGCFG takes effect and resets the indices. -/
  | icuRingConfig (core : Nat)
  /-- FIRE (R529). A write to EVF.FIRE fires one main channel. -/
  | fire (user : Bool) (w : Word)
  /-- FIREM (R529). A write to an EVF.FIREM register fires every chosen main channel at once. -/
  | firem (user : Bool) (j : Nat) (w : Word)
  /-- AONFIRE (R529). A write to EVF.AONFIRE fires one always-on channel. -/
  | aonfire (user : Bool) (w : Word)
  /-- GRPSET (R526). A write of 1 to a GRPSET bit opens a group. -/
  | grpset (user : Bool) (w : Word)
  /-- GRPCLR (R526). A write of 1 to a GRPCLR bit closes a group. -/
  | grpclr (user : Bool) (w : Word)
  /-- GROUP_EDGE (R526). A rising edge of a group's ENCH or DISCH channel opens or closes the group, with ties closing it. -/
  | groupEdge (g : Nat)
  /-- EVENT_EDGE (R530). A channel edge reaches a consumer input, setting REQ or MEM, or being dropped. -/
  | eventEdge (code : Nat) (level : Bool)
  /-- CONSUMER_ACCEPT (R530). At the second edge of its clock, a consumer accepts REQ with its tick, and MEM moves into REQ. -/
  | consumerAccept (input : Nat)
  /-- TMB_CAPTURE (R538). A write of CAPTURE to TMB.CMD latches TMB into NOW0 and NOW1. -/
  | tmbCapture (user : Bool) (w : Word)
  /-- COMPARE_MATCH (R539). TMB reaches a compare channel's CMP, which emits a pulse, sets its flag and re-arms or disables the channel. -/
  | compareMatch (n : Nat)
  /-- STAGGER (R542). A write of GO to TMB.STAGCTL spreads a range of compare channels over one interval. -/
  | stagger (user : Bool) (w : Word)
  /-- CMPHI_WRITE (R541). A write to CMPHIn commits the staged low half and the high half of CMP. -/
  | cmphiWrite (user : Bool) (n : Nat) (w : Word)
  /-- CMPLO_READ (R541). A read of CMPLOn latches the high half for the next read of CMPHIn. -/
  | cmploRead (n : Nat)
  /-- CAPSTAT_READ (R543). A read of CAPSTATc latches CAP and clears VALID and OVR. -/
  | capstatRead (c : Nat)
  /-- PMSTAT_READ (R544). A read of PMSTATp latches WIDTH and START and clears DONE and OVR. -/
  | pmstatRead (n : Nat)
  /-- PMCTL_DISABLE (R550). A write of EN 0 to PMCTLp discards an open measurement. -/
  | pmctlDisable (user : Bool) (n : Nat)
  /-- TMB_STOP (R537). At the first CK_LF edge after PD_COM enters retention, goes off or is reset, TMB stops and holds T0. -/
  | tmbStop
  /-- TMB_MAKEUP (R537). At the first CK_LF edge after PD_COM returns, TMB is made up by N × LFRATIO. -/
  | tmbMakeup
  /-- TMB_RESUME (R537). At the first CK_LF edge after XREFRDY, TMB drops its fraction and counts CK_REF again. -/
  | tmbResume
  /-- SNAPSHOT_TAKE (R547). A write of TAKE to SNP.CMD takes a counter snapshot at its tick, or is refused. -/
  | snapshotTake (user : Bool) (w : Word)
  /-- SNAPSHOT_FILL_DONE (R548). The background copy of a snapshot into its bank ends, and DONE is raised. -/
  | snapshotFillDone
  /-- SNAP_READ (R553). The host command returns counters of a snapshot bank, optionally taking, holding or releasing a bank. -/
  | snapRead (o : Origin) (p : List Byte)
  /-- DALI_SEND (R561). A write of GO to TXCMD queues a DALI frame for transmission. -/
  | daliSend (index : Nat) (user : Bool) (w : Word)
  /-- DALI_FRAME_START (R561). The settling time or backward delay ends on an idle bus, and the frame starts, or completes with MISSED. -/
  | daliFrameStart (index : Nat)
  /-- DALI_TX_DONE (R561). A DALI transmission ends with OK, and TXDONE is raised. -/
  | daliTxDone (index : Nat)
  /-- DALI_COLLISION (R561). A sent half-bit differs from the received one, so the interface holds the bus and completes with COLLISION. -/
  | daliCollision (index : Nat)
  /-- DALI_RX_FRAME (R562). A received DALI frame is pushed into the receive FIFO, or dropped with RXOVF. -/
  | daliRxFrame (index : Nat) (data : Nat) (bits : Nat) (err : Bool)
  /-- DALI_BACKWARD_TIMEOUT (R562). No frame starts within 10.5 ms after a forward frame sent with ANS, and a record with BITS 0 is pushed. -/
  | daliBackwardTimeout (index : Nat)
  /-- DALI_BUSFAIL (R562). The bus is held active for more than 550 ms, which sets BUSFAIL. -/
  | daliBusfail (index : Nat) (held : Bool)
  /-- RXINFO_READ (R563). A read of RXINFO pops a DALI receive record into RXDATA. -/
  | rxinfoRead (index : Nat)
  /-- DMO_FADE (R564). Each millisecond of a fade moves LEVEL toward TARGET by FADE codes. -/
  | dmoFade (n : Nat)
  /-- DMO_PERIOD (R564). A PWM period boundary applies a new LEVEL and fires the DMO event producer. -/
  | dmoPeriod (n : Nat)
  /-- MET_ZERO_CROSSING (R566). A rising zero crossing of V is detected, which counts a mains cycle. -/
  | metZeroCrossing
  /-- MET_PERIOD (R566). ACC mains cycles end, so RMS and power values are updated and ACCDONE is raised. -/
  | metPeriod (v i1 i2 p1 p2 period de1 de2 : Nat) (clip : Bool)
  /-- MET_NOZC (R566). No zero crossing occurs for 100 ms, which sets NOZC. -/
  | metNozc
  /-- ECLR (R567). A write of ECLR to MET.CFG clears the energies E1 and E2. -/
  | eclr (user : Bool) (w : Word)
  /-- ENERGY_READ (R567). A read of E1LO or E2LO latches the high half. -/
  | energyRead (k : Nat)
  /-- SER_GO (R569). A write of GO to a SER instance's CMD starts a transfer of LEN bytes. -/
  | serGo (k : Nat) (user : Bool) (w : Word)
  /-- SER_ABORT (R569). A write of ABORT to CMD ends the transfer with CANCELLED. -/
  | serAbort (k : Nat) (user : Bool) (w : Word)
  /-- SER_DONE (R568). A serial transfer ends with its RESULT and DETAIL. -/
  | serDone (k : Nat) (r : Nat) (sent : Nat) (rx : List Byte)
  /-- TXFIFO_PUSH (R569). A write to TXFIFO pushes a byte. -/
  | txfifoPush (k : Nat) (user : Bool) (w : Word)
  /-- RXFIFO_POP (R569). A read of RXFIFO pops a byte. -/
  | rxfifoPop (k : Nat)
  /-- SER_RX_BYTE (R568). A UART receives a byte, which it pushes or drops on a framing, parity or overrun error. -/
  | serRxByte (k : Nat) (b : Nat) (err : Nat)
  /-- BIST_RUN (R578). The host command starts a BIST run under R572. -/
  | bistRun (o : Origin) (p : List Byte)
  /-- BIST_GO (R572). A write of GO to BST.CTL starts a BIST run in KEEPER. -/
  | bistGo (user : Bool) (w : Word)
  /-- BIST_DONE (R572). The BIST tests end, the record is programmed and a SYSTEM reset with cause BIST follows. -/
  | bistDone (sigs fails : List (Nat × Nat))
  /-- BIST_RESULT (R578). The host command returns a BIST record. -/
  | bistResult (o : Origin) (p : List Byte)
  /-- FCR_READ (R578). The host command returns a fault record. -/
  | fcrRead (o : Origin) (p : List Byte)
  /-- FAULT_COMMIT (R576). The flash controller commits a pending fault record to both FCR copies. -/
  | faultCommit
  /-- SWAP_WINDOW_CLOSE (R81). The quiesce window reaches step 6: held edges, timer events and pad holds are released under the new configuration, the swap ends and BOARD_SWAPPED is sent. -/
  | swapWindowClose (same : Bool)
  /-- SAMPLES_VALID (R194). A band's samples become valid again once the capture loop has relocked and 20 µs have passed with no discarded block, so its detectors run again. -/
  | samplesValid (b : Nat)
  /-- XREF_START_TIMEOUT (R143). In start-up step 5, XREFRDY has not come within twice the R117 maximum, so the other XREF mode is tried once and, if it also fails, boot continues on CK_HF with XREFFAIL. -/
  | xrefStartTimeout
  /-- PWRDROP (R163). During a frame, the PA detector sees the output fall more than 2 dB below the applied power, for example when VPA sags, and PWRDROP is set without stopping the frame. -/
  | pwrdrop (c : Chain)
  /-- WKR_BLANKING_END (R183). 100 µs after a chain S ramp-down ends, the wake receiver's blanking ends and it can match telegrams again. -/
  | wkrBlankingEnd
  /-- WEAROVER_CLEAR (R351). Accrual of the wear allowance by CK_LF time brings use back to 100%, so WEAROVER clears and WEARSTOP refusals end. -/
  | wearoverClear
  /-- HSL_LENGTH_DISCARD (R374). A receiver that reads a LENGTH above 4,096 after a DELIM discards the candidate frame at once and resumes its hunt at the next byte. -/
  | hslLengthDiscard (length : Nat)
  deriving DecidableEq, Repr

end Sys2Proof
end

