-- ==== Sys2Proof/Decode.lean ====
section
/-!
DEFINITION. The command that a word of the opcode table spells. The table gives no row any bits: its commands come from
the host link, from a bus and from events.
-/

namespace Sys2Proof

/-- No word spells a command, since no row of the table gives bits. -/
def decodeTableWord (_nbits _w : Nat) : Option Instr := none

end Sys2Proof
end

