-- ==== Sys2Proof/Config.lean ====
section
/-!
DEFINITION. What an implementation fixes and what the manual leaves open: free values, each an opaque constant
with no body, applied to the operands it depends on or to the free-value counter of the state.
-/

namespace Sys2Proof

/-- The byte an SRAM location holds that nothing has written since its domain was last switched on (R23); the first
argument is the count of power losses of its domain, the second its address. -/
opaque Config.sramByte : Nat → Nat → BitVec 8

/-- A byte of the boot ROM's own content, which R30 leaves unspecified. -/
opaque Config.romByte : Nat → BitVec 8

/-- A fresh value for a result the manual leaves open: the counter it is drawn at. -/
opaque Config.freeNat : Nat → Nat

/-- ECDSA on P-256 with SHA-256 (R66, FIPS 186-5): does the signature of a message verify under a public key. -/
opaque Config.ecdsaVerify : List (BitVec 8) → List (BitVec 8) → List (BitVec 8) → Bool

/-- SHA-256 of a message (FIPS 180-4, named and not given in this manual). -/
opaque Config.sha256 : List (BitVec 8) → List (BitVec 8)

/-- A named standard algorithm of R447 over its key, parameters and data: the output bytes. -/
opaque Config.crypto : Nat → List (BitVec 8) → List (BitVec 8) → List (BitVec 8) → List (BitVec 8)

/-- Whether a named standard algorithm of R447 accepts the tag or signature given to it. -/
opaque Config.cryptoOk : Nat → List (BitVec 8) → List (BitVec 8) → List (BitVec 8) → Bool

/-- Airtime in ticks of a frame whose layout another standard gives (R219-R221): of its mode and length. -/
opaque Config.airtime : Nat → Nat → Nat

/-- Ticks from the first symbol to the stamp point where another standard lays out the preamble (R316). -/
opaque Config.stampPoint : Nat → Nat

/-- Whether tininess is detected after rounding, which IEEE 754 leaves to the implementation (R501). -/
opaque Config.tinyAfterRounding : Bool

/-- Whether FMAC of infinity and zero raises IV beside a quiet NaN addend, which IEEE 754 leaves open (R501). -/
opaque Config.fmacNanInvalid : Bool

/-- Whether FTOI and FTOU raise IX for a value that is not whole, which the manual does not say (R501). -/
opaque Config.ftoiInexact : Bool

end Sys2Proof
end

