-- ==== Sys2Proof/Machine/Bits.lean ====
section
/-!
DEFINITION. Bit fields, byte order and the checks the manual defines in full: little-endian fields (R4),
CRC-32C (R65), packed site addresses (R20, R21).
-/

namespace Sys2Proof.Machine

/-- Bits `[lsb + width - 1 : lsb]` of a number. -/
def bitsOf (n lsb width : Nat) : Nat := n / 2 ^ lsb % 2 ^ width

/-- A number with bits `[lsb + width - 1 : lsb]` replaced. -/
def setBitsOf (n lsb width v : Nat) : Nat :=
  n / 2 ^ (lsb + width) * 2 ^ (lsb + width) + v % 2 ^ width * 2 ^ lsb + n % 2 ^ lsb

/-- One bit of a number. -/
def bitAt (n i : Nat) : Bool := n / 2 ^ i % 2 == 1

/-- 1 for true. -/
def b2n (b : Bool) : Nat := if b then 1 else 0

/-- The number of bits set among the lowest `w`. -/
def popCount (w n : Nat) : Nat :=
  match w with
  | 0 => 0
  | w + 1 => n % 2 + popCount w (n / 2)

/-- A number's low `k` bytes, little-endian (R4). -/
def leBytes (k n : Nat) : List Byte :=
  match k with
  | 0 => []
  | k + 1 => Byte.ofN n :: leBytes k (n / 256)

/-- The number little-endian bytes spell (R4). -/
def leNat (bs : List Byte) : Nat :=
  match bs with
  | [] => 0
  | b :: t => b.toNat + 256 * leNat t

/-- The little-endian field of `k` bytes at an offset of a byte string. -/
def leAt (bs : List Byte) (off k : Nat) : Nat := leNat ((bs.drop off).take k)

/-- One byte of a byte string, 0 beyond its end. -/
def byteAt (bs : List Byte) (off : Nat) : Nat := ((bs.drop off).head?.getD 0).toNat

/-- Every byte of a list is zero. -/
def allZero (bs : List Byte) : Bool := bs.all (fun b => b == 0)

/-- Two's complement value of a `w`-bit field. -/
def signedOf (w n : Nat) : Int :=
  if n % 2 ^ w < 2 ^ (w - 1) then (n % 2 ^ w : Int) else (n % 2 ^ w : Int) - 2 ^ w

/-- The `w`-bit two's complement pattern of an integer. -/
def ofSigned (w : Nat) (i : Int) : Nat := (i % (2 ^ w : Int)).toNat

/-- A number clamped at a saturation limit. -/
def satAdd (lim a b : Nat) : Nat := if a + b < lim then a + b else lim

/-- One bit step of CRC-32C: the reversed form of generator 0x1EDC6F41 (R65). -/
def crcBit (c : Nat) : Nat := if c % 2 = 1 then (c / 2) ^^^ 0x82F63B78 else c / 2

/-- Eight bit steps. -/
def crcByte (c : Nat) : Nat :=
  crcBit (crcBit (crcBit (crcBit (crcBit (crcBit (crcBit (crcBit c)))))))

/-- CRC-32C over bytes from a running value (R65). -/
def crcRun (c : Nat) (bs : List Byte) : Nat :=
  match bs with
  | [] => c
  | b :: t => crcRun (crcByte (c ^^^ b.toNat)) t

/-- CRC-32C: initial value and final exclusive-or 0xFFFFFFFF (R65). -/
def crc32c (bs : List Byte) : Nat := crcRun 0xFFFFFFFF bs ^^^ 0xFFFFFFFF

/-- A site address with the number of fields present (R9, R20). -/
structure Site where
  depth : Nat
  d : Nat
  c : Nat
  t : Nat
  m : Nat
  w : Nat
  b : Nat
  deriving DecidableEq, Repr

/-- The 64-bit packed form (R20). -/
def Site.pack (s : Site) : Nat :=
  s.depth * 2 ^ 40 + s.d * 2 ^ 38 + s.c * 2 ^ 35 + s.t * 2 ^ 30 + s.m * 2 ^ 24 + s.w * 2 ^ 8 + s.b

/-- The fields of a packed value (R20). -/
def Site.unpack (n : Nat) : Site :=
  { depth := bitsOf n 40 3, d := bitsOf n 38 2, c := bitsOf n 35 3, t := bitsOf n 30 5,
    m := bitsOf n 24 6, w := bitsOf n 8 16, b := bitsOf n 0 8 }

/-- Number of words a macro holds; 0 for a logic macro or none. A macro whose list an owning chapter does not give
in words is taken at the 16 KiB of R17 (assumption 12). -/
def macroWords (d c t m : Nat) : Nat :=
  if d = 1 then
    if c < 4 then
      if 17 ≤ t ∧ t ≤ 22 then (if m < 16 then 2048 else 0)
      else if t ≤ 9 then (if 1 ≤ m ∧ m ≤ 3 then 2048 else 0)
      else if t ≤ 13 then (if 1 ≤ m ∧ m ≤ 10 then 2048 else 0)
      else if t ≤ 15 then (if m = 1 then 40 else if m = 2 then 512 else if m = 3 then 256 else 0)
      else 0
    else if c = 7 then
      if t = 1 ∨ t = 17 ∨ t = 18 then (if m < 16 then 2048 else 0)
      else if t ≤ 26 then (if 1 ≤ m ∧ m ≤ 16 then 2048 else 0)
      else 0
    else 0
  else if d = 0 then (if 1 ≤ m ∧ m ≤ 16 then 2048 else 0)
  else if c = 7 then (if t = 0 ∧ m = 0 then 1024 else 0)
  else if c < 2 then (if t < 16 then 2048 else 0)
  else 0

/-- Is a tile position listed (R15, R16, R18, R19). -/
def tileExists (d c t : Nat) : Bool :=
  if d = 0 then
    if c < 2 then t ≤ 5 else if c = 2 then t ≤ 4 else if c = 3 then t ≤ 2 else false
  else if d = 1 then
    if c < 4 then t ≤ 23 else if c = 7 then t ≤ 26 else false
  else if d = 2 then
    if c < 2 then t < 16 else if c = 7 then t ≤ 1 else false
  else false

/-- The macro exists: macro 00 of any tile, or a macro that holds words (R17-R19). -/
def macroExists (d c t m : Nat) : Bool :=
  tileExists d c t && (m == 0 || 0 < macroWords d c t m)

/-- Does a site address name something (R10, R15-R19). -/
def Site.names (s : Site) : Bool :=
  s.d ≤ 2
  && (s.depth < 2 || (if s.d = 2 then s.c < 2 || s.c == 7 else s.c < 4 || (s.c == 7 && s.d == 1)))
  && (s.depth < 3 || tileExists s.d s.c s.t)
  && (s.depth < 4 || macroExists s.d s.c s.t s.m)
  && (s.depth < 5 || s.w < macroWords s.d s.c s.t s.m)
  && (s.depth < 6 || s.b < (if s.d = 2 then 64 else 72))

/-- Is a packed value a valid site address (R21). -/
def siteValid (n : Nat) : Bool :=
  let s := Site.unpack n
  n < 2 ^ 43 && 1 ≤ s.depth && s.depth ≤ 6
  && (s.depth ≥ 2 || s.c == 0) && (s.depth ≥ 3 || s.t == 0) && (s.depth ≥ 4 || s.m == 0)
  && (s.depth ≥ 5 || s.w == 0) && (s.depth ≥ 6 || s.b == 0) && s.names

/-- Does a site lie in the subtree of another (R10). -/
def Site.within (s root : Site) : Bool :=
  root.depth ≤ s.depth && s.d == root.d
  && (root.depth < 2 || s.c == root.c) && (root.depth < 3 || s.t == root.t)
  && (root.depth < 4 || s.m == root.m) && (root.depth < 5 || s.w == root.w)

end Sys2Proof.Machine
end

