-- ==== Sys2Proof/Machine/Fields.lean ====
section
/-!
DEFINITION. The addresses of the registers (`A.<block><Register>`) and the places of their fields
(`F.<block><Register><Field>`), from the register tables of every block (R34 gives the bases).
An array takes its index; RFS/RFT take the chain; the ICU banks take the core (4 is the sentinel, R518).
-/

namespace Sys2Proof.Machine

/-- A field of a register: the register's address, the lowest bit and the width. -/
structure Fld where
  addr  : Nat
  lsb   : Nat
  width : Nat
  deriving DecidableEq, Repr

/-- The base of the interrupt bank of a core (R518). -/
def icuBank (core : Nat) : Nat :=
  if core = 4 then 0x40605000 else 0x40600000 + 0x1000 * core

/-- `PMU.STAT`, R124. -/
def A.pmuStat : Nat := 0x40000000
/-- `PMU.STAT.AONLP`. -/
def F.pmuStatAonlp : Fld := ⟨A.pmuStat, 11, 1⟩
/-- `PMU.STAT.BUCKILIM`. -/
def F.pmuStatBuckilim : Fld := ⟨A.pmuStat, 10, 1⟩
/-- `PMU.STAT.LFRC`. -/
def F.pmuStatLfrc : Fld := ⟨A.pmuStat, 9, 1⟩
/-- `PMU.STAT.HFRCOK`. -/
def F.pmuStatHfrcok : Fld := ⟨A.pmuStat, 8, 1⟩
/-- `PMU.STAT.XLFOK`. -/
def F.pmuStatXlfok : Fld := ⟨A.pmuStat, 7, 1⟩
/-- `PMU.STAT.XREFRDY`. -/
def F.pmuStatXrefrdy : Fld := ⟨A.pmuStat, 6, 1⟩
/-- `PMU.STAT.LOGRDY`. -/
def F.pmuStatLogrdy : Fld := ⟨A.pmuStat, 3, 1⟩
/-- `PMU.STAT.MEMRDY`. -/
def F.pmuStatMemrdy : Fld := ⟨A.pmuStat, 2, 1⟩
/-- `PMU.STAT.OSCRDY`. -/
def F.pmuStatOscrdy : Fld := ⟨A.pmuStat, 1, 1⟩
/-- `PMU.STAT.REGRDY`. -/
def F.pmuStatRegrdy : Fld := ⟨A.pmuStat, 0, 1⟩

/-- `PMU.SUPCFG`, R124. -/
def A.pmuSupcfg : Nat := 0x40000004
/-- `PMU.SUPCFG.LOCK`. -/
def F.pmuSupcfgLock : Fld := ⟨A.pmuSupcfg, 31, 1⟩
/-- `PMU.SUPCFG.PFTHR`. -/
def F.pmuSupcfgPfthr : Fld := ⟨A.pmuSupcfg, 0, 5⟩

/-- `PMU.BUCKCFG`, R124. -/
def A.pmuBuckcfg : Nat := 0x40000008
/-- `PMU.BUCKCFG.FORCEPWM`. -/
def F.pmuBuckcfgForcepwm : Fld := ⟨A.pmuBuckcfg, 0, 1⟩

/-- `PMU.LPMON`, R124. -/
def A.pmuLpmon : Nat := 0x4000000C
/-- `PMU.LPMON.WARN`. -/
def F.pmuLpmonWarn : Fld := ⟨A.pmuLpmon, 16, 8⟩
/-- `PMU.LPMON.PEAK`. -/
def F.pmuLpmonPeak : Fld := ⟨A.pmuLpmon, 8, 8⟩
/-- `PMU.LPMON.LOAD`. -/
def F.pmuLpmonLoad : Fld := ⟨A.pmuLpmon, 0, 8⟩

/-- `PMU.XREFCFG`, R124. -/
def A.pmuXrefcfg : Nat := 0x40000010
/-- `PMU.XREFCFG.LOCK`. -/
def F.pmuXrefcfgLock : Fld := ⟨A.pmuXrefcfg, 31, 1⟩
/-- `PMU.XREFCFG.MODE`. -/
def F.pmuXrefcfgMode : Fld := ⟨A.pmuXrefcfg, 8, 1⟩
/-- `PMU.XREFCFG.CTRIM`. -/
def F.pmuXrefcfgCtrim : Fld := ⟨A.pmuXrefcfg, 0, 6⟩

/-- `PMU.LFRATIO`, R124. -/
def A.pmuLfratio : Nat := 0x40000014

/-- `PMU.WAKETMR`, R124. -/
def A.pmuWaketmr : Nat := 0x40000018

/-- `PMU.WAKECNT`, R124. -/
def A.pmuWakecnt : Nat := 0x4000001C

/-- `PMU.INTSTAT`, R124. -/
def A.pmuIntstat : Nat := 0x40000020
/-- `PMU.INTSTAT.BUCKILIM`. -/
def F.pmuIntstatBuckilim : Fld := ⟨A.pmuIntstat, 7, 1⟩
/-- `PMU.INTSTAT.WAKETMR`. -/
def F.pmuIntstatWaketmr : Fld := ⟨A.pmuIntstat, 6, 1⟩
/-- `PMU.INTSTAT.HFRCFAIL`. -/
def F.pmuIntstatHfrcfail : Fld := ⟨A.pmuIntstat, 5, 1⟩
/-- `PMU.INTSTAT.XREFFAIL`. -/
def F.pmuIntstatXreffail : Fld := ⟨A.pmuIntstat, 4, 1⟩
/-- `PMU.INTSTAT.XLFFAIL`. -/
def F.pmuIntstatXlffail : Fld := ⟨A.pmuIntstat, 3, 1⟩
/-- `PMU.INTSTAT.LPHIGH`. -/
def F.pmuIntstatLphigh : Fld := ⟨A.pmuIntstat, 2, 1⟩
/-- `PMU.INTSTAT.PFRESTORE`. -/
def F.pmuIntstatPfrestore : Fld := ⟨A.pmuIntstat, 1, 1⟩
/-- `PMU.INTSTAT.PFAIL`. -/
def F.pmuIntstatPfail : Fld := ⟨A.pmuIntstat, 0, 1⟩

/-- `PMU.INTEN`, R124. -/
def A.pmuInten : Nat := 0x40000024
/-- `PMU.INTEN.BUCKILIM`. -/
def F.pmuIntenBuckilim : Fld := ⟨A.pmuInten, 7, 1⟩
/-- `PMU.INTEN.WAKETMR`. -/
def F.pmuIntenWaketmr : Fld := ⟨A.pmuInten, 6, 1⟩
/-- `PMU.INTEN.HFRCFAIL`. -/
def F.pmuIntenHfrcfail : Fld := ⟨A.pmuInten, 5, 1⟩
/-- `PMU.INTEN.XREFFAIL`. -/
def F.pmuIntenXreffail : Fld := ⟨A.pmuInten, 4, 1⟩
/-- `PMU.INTEN.XLFFAIL`. -/
def F.pmuIntenXlffail : Fld := ⟨A.pmuInten, 3, 1⟩
/-- `PMU.INTEN.LPHIGH`. -/
def F.pmuIntenLphigh : Fld := ⟨A.pmuInten, 2, 1⟩
/-- `PMU.INTEN.PFRESTORE`. -/
def F.pmuIntenPfrestore : Fld := ⟨A.pmuInten, 1, 1⟩
/-- `PMU.INTEN.PFAIL`. -/
def F.pmuIntenPfail : Fld := ⟨A.pmuInten, 0, 1⟩

/-- `PMU.DOMSTAT`, R124. -/
def A.pmuDomstat : Nat := 0x40000028
/-- `PMU.DOMSTAT.FL`. -/
def F.pmuDomstatFl : Fld := ⟨A.pmuDomstat, 10, 1⟩
/-- `PMU.DOMSTAT.MET`. -/
def F.pmuDomstatMet : Fld := ⟨A.pmuDomstat, 9, 1⟩
/-- `PMU.DOMSTAT.RFT`. -/
def F.pmuDomstatRft : Fld := ⟨A.pmuDomstat, 8, 1⟩
/-- `PMU.DOMSTAT.RFS`. -/
def F.pmuDomstatRfs : Fld := ⟨A.pmuDomstat, 7, 1⟩
/-- `PMU.DOMSTAT.XR`. -/
def F.pmuDomstatXr : Fld := ⟨A.pmuDomstat, 6, 1⟩
/-- `PMU.DOMSTAT.CL`. -/
def F.pmuDomstatCl : Fld := ⟨A.pmuDomstat, 2, 4⟩
/-- `PMU.DOMSTAT.COM`. -/
def F.pmuDomstatCom : Fld := ⟨A.pmuDomstat, 1, 1⟩
/-- `PMU.DOMSTAT.RET`. -/
def F.pmuDomstatRet : Fld := ⟨A.pmuDomstat, 0, 1⟩

/-- `PMU.SENTCLK`, R124. -/
def A.pmuSentclk : Nat := 0x4000002C
/-- `PMU.SENTCLK.DIV`. -/
def F.pmuSentclkDiv : Fld := ⟨A.pmuSentclk, 0, 2⟩

/-- `PMU.LGSAVE`, R124. -/
def A.pmuLgsave : Nat := 0x40000030

/-- `PMU.MODEREQ`, R42. -/
def A.pmuModereq : Nat := 0x40000100
/-- `PMU.MODEREQ.BANDS`. -/
def F.pmuModereqBands : Fld := ⟨A.pmuModereq, 8, 2⟩
/-- `PMU.MODEREQ.PROFILE`. -/
def F.pmuModereqProfile : Fld := ⟨A.pmuModereq, 4, 3⟩
/-- `PMU.MODEREQ.MODE`. -/
def F.pmuModereqMode : Fld := ⟨A.pmuModereq, 0, 3⟩

/-- `PMU.MODESTAT`, R42. -/
def A.pmuModestat : Nat := 0x40000104
/-- `PMU.MODESTAT.RESULT`. -/
def F.pmuModestatResult : Fld := ⟨A.pmuModestat, 16, 16⟩
/-- `PMU.MODESTAT.BUSY`. -/
def F.pmuModestatBusy : Fld := ⟨A.pmuModestat, 15, 1⟩
/-- `PMU.MODESTAT.PFAIL`. -/
def F.pmuModestatPfail : Fld := ⟨A.pmuModestat, 14, 1⟩
/-- `PMU.MODESTAT.BANDS`. -/
def F.pmuModestatBands : Fld := ⟨A.pmuModestat, 12, 2⟩
/-- `PMU.MODESTAT.TARGET`. -/
def F.pmuModestatTarget : Fld := ⟨A.pmuModestat, 8, 3⟩
/-- `PMU.MODESTAT.PROFILE`. -/
def F.pmuModestatProfile : Fld := ⟨A.pmuModestat, 4, 3⟩
/-- `PMU.MODESTAT.MODE`. -/
def F.pmuModestatMode : Fld := ⟨A.pmuModestat, 0, 3⟩

/-- `PMU.MODEHIST`, R42. -/
def A.pmuModehist : Nat := 0x40000108
/-- `PMU.MODEHIST.SOURCE`. -/
def F.pmuModehistSource : Fld := ⟨A.pmuModehist, 8, 4⟩
/-- `PMU.MODEHIST.PREVPROF`. -/
def F.pmuModehistPrevprof : Fld := ⟨A.pmuModehist, 4, 3⟩
/-- `PMU.MODEHIST.PREV`. -/
def F.pmuModehistPrev : Fld := ⟨A.pmuModehist, 0, 3⟩

/-- `PMU.WAKEMODE`, R42. -/
def A.pmuWakemode : Nat := 0x4000010C
/-- `PMU.WAKEMODE.WAKEEN`. -/
def F.pmuWakemodeWakeen : Fld := ⟨A.pmuWakemode, 16, 5⟩
/-- `PMU.WAKEMODE.BANDS`. -/
def F.pmuWakemodeBands : Fld := ⟨A.pmuWakemode, 8, 2⟩
/-- `PMU.WAKEMODE.PROFILE`. -/
def F.pmuWakemodeProfile : Fld := ⟨A.pmuWakemode, 4, 3⟩
/-- `PMU.WAKEMODE.MODE`. -/
def F.pmuWakemodeMode : Fld := ⟨A.pmuWakemode, 0, 3⟩

/-- `PMU.MODECFG`, R42. -/
def A.pmuModecfg : Nat := 0x40000110
/-- `PMU.MODECFG.LOCK`. -/
def F.pmuModecfgLock : Fld := ⟨A.pmuModecfg, 31, 1⟩
/-- `PMU.MODECFG.LGALARMS`. -/
def F.pmuModecfgLgalarms : Fld := ⟨A.pmuModecfg, 8, 4⟩
/-- `PMU.MODECFG.LGPROF`. -/
def F.pmuModecfgLgprof : Fld := ⟨A.pmuModecfg, 4, 1⟩
/-- `PMU.MODECFG.LGEND`. -/
def F.pmuModecfgLgend : Fld := ⟨A.pmuModecfg, 0, 1⟩

/-- `CLK.PLLF`, R131. -/
def A.clkPllf : Nat := 0x40010000
/-- `CLK.PLLF.N`. -/
def F.clkPllfN : Fld := ⟨A.clkPllf, 8, 8⟩
/-- `CLK.PLLF.P`. -/
def F.clkPllfP : Fld := ⟨A.clkPllf, 4, 2⟩
/-- `CLK.PLLF.EN`. -/
def F.clkPllfEn : Fld := ⟨A.clkPllf, 0, 1⟩

/-- `CLK.PLLC`, R131. -/
def A.clkPllc : Nat := 0x40010004
/-- `CLK.PLLC.N`. -/
def F.clkPllcN : Fld := ⟨A.clkPllc, 8, 8⟩
/-- `CLK.PLLC.P`. -/
def F.clkPllcP : Fld := ⟨A.clkPllc, 4, 2⟩
/-- `CLK.PLLC.EN`. -/
def F.clkPllcEn : Fld := ⟨A.clkPllc, 0, 1⟩

/-- `CLK.SPREAD`, R131. -/
def A.clkSpread : Nat := 0x40010008
/-- `CLK.SPREAD.CEN`. -/
def F.clkSpreadCen : Fld := ⟨A.clkSpread, 12, 1⟩
/-- `CLK.SPREAD.CDEPTH`. -/
def F.clkSpreadCdepth : Fld := ⟨A.clkSpread, 8, 4⟩
/-- `CLK.SPREAD.FEN`. -/
def F.clkSpreadFen : Fld := ⟨A.clkSpread, 4, 1⟩
/-- `CLK.SPREAD.FDEPTH`. -/
def F.clkSpreadFdepth : Fld := ⟨A.clkSpread, 0, 4⟩

/-- `CLK.STAT`, R131. -/
def A.clkStat : Nat := 0x4001000C
/-- `CLK.STAT.REFUSED`. -/
def F.clkStatRefused : Fld := ⟨A.clkStat, 5, 1⟩
/-- `CLK.STAT.CLOSS`. -/
def F.clkStatCloss : Fld := ⟨A.clkStat, 4, 1⟩
/-- `CLK.STAT.FLOSS`. -/
def F.clkStatFloss : Fld := ⟨A.clkStat, 3, 1⟩
/-- `CLK.STAT.CPUHF`. -/
def F.clkStatCpuhf : Fld := ⟨A.clkStat, 2, 1⟩
/-- `CLK.STAT.CLOCK`. -/
def F.clkStatClock : Fld := ⟨A.clkStat, 1, 1⟩
/-- `CLK.STAT.FLOCK`. -/
def F.clkStatFlock : Fld := ⟨A.clkStat, 0, 1⟩

/-- `RST.CAUSE`, R148. -/
def A.rstCause : Nat := 0x40020000
/-- `RST.CAUSE.PADHELD`. -/
def F.rstCausePadheld : Fld := ⟨A.rstCause, 19, 1⟩
/-- `RST.CAUSE.MODE`. -/
def F.rstCauseMode : Fld := ⟨A.rstCause, 12, 3⟩
/-- `RST.CAUSE.SCOPE`. -/
def F.rstCauseScope : Fld := ⟨A.rstCause, 8, 3⟩
/-- `RST.CAUSE.CODE`. -/
def F.rstCauseCode : Fld := ⟨A.rstCause, 0, 8⟩

/-- `RST.CAUSEHIST`, R148. -/
def A.rstCausehist : Nat := 0x40020004
/-- `RST.CAUSEHIST.SEEN`. -/
def F.rstCausehistSeen : Fld := ⟨A.rstCausehist, 1, 12⟩

/-- `RST.RSTCOUNT`, R148. -/
def A.rstRstcount : Nat := 0x40020008
/-- `RST.RSTCOUNT.COUNT`. -/
def F.rstRstcountCount : Fld := ⟨A.rstRstcount, 0, 16⟩

/-- `RST.SWRST`, R148. -/
def A.rstSwrst : Nat := 0x4002000C
/-- `RST.SWRST.KEY`. -/
def F.rstSwrstKey : Fld := ⟨A.rstSwrst, 24, 8⟩
/-- `RST.SWRST.CORE`. -/
def F.rstSwrstCore : Fld := ⟨A.rstSwrst, 4, 3⟩
/-- `RST.SWRST.SCOPE`. -/
def F.rstSwrstScope : Fld := ⟨A.rstSwrst, 0, 2⟩

/-- `RST.WDTCFG`, R148. -/
def A.rstWdtcfg : Nat := 0x40020010
/-- `RST.WDTCFG.LOCK`. -/
def F.rstWdtcfgLock : Fld := ⟨A.rstWdtcfg, 31, 1⟩
/-- `RST.WDTCFG.EARLY`. -/
def F.rstWdtcfgEarly : Fld := ⟨A.rstWdtcfg, 18, 1⟩
/-- `RST.WDTCFG.DORM`. -/
def F.rstWdtcfgDorm : Fld := ⟨A.rstWdtcfg, 17, 1⟩
/-- `RST.WDTCFG.EN`. -/
def F.rstWdtcfgEn : Fld := ⟨A.rstWdtcfg, 16, 1⟩
/-- `RST.WDTCFG.TIMEOUT`. -/
def F.rstWdtcfgTimeout : Fld := ⟨A.rstWdtcfg, 0, 16⟩

/-- `RST.WDTKICK`, R148. -/
def A.rstWdtkick : Nat := 0x40020014

/-- `RST.WDTCNT`, R148. -/
def A.rstWdtcnt : Nat := 0x40020018
/-- `RST.WDTCNT.COUNT`. -/
def F.rstWdtcntCount : Fld := ⟨A.rstWdtcnt, 0, 16⟩

/-- `RST.PINCFG`, R148. -/
def A.rstPincfg : Nat := 0x4002001C
/-- `RST.PINCFG.LOCK`. -/
def F.rstPincfgLock : Fld := ⟨A.rstPincfg, 31, 1⟩
/-- `RST.PINCFG.SCOPE`. -/
def F.rstPincfgScope : Fld := ⟨A.rstPincfg, 0, 1⟩

/-- `RST.CORELOG`, R148. -/
def A.rstCorelog : Nat := 0x40020020
/-- `RST.CORELOG.SOFT`. -/
def F.rstCorelogSoft : Fld := ⟨A.rstCorelog, 1, 4⟩
/-- `RST.CORELOG.LOCK`. -/
def F.rstCorelogLock : Fld := ⟨A.rstCorelog, 9, 4⟩

/-- `RST.INTSTAT`, R148. -/
def A.rstIntstat : Nat := 0x40020024
/-- `RST.INTSTAT.WDTEARLY`. -/
def F.rstIntstatWdtearly : Fld := ⟨A.rstIntstat, 0, 1⟩

/-- `RST.INTEN`, R148. -/
def A.rstInten : Nat := 0x40020028
/-- `RST.INTEN.WDTEARLY`. -/
def F.rstIntenWdtearly : Fld := ⟨A.rstInten, 0, 1⟩

/-- `PAD.DOUT`, R558. -/
def A.padDout (i : Nat) : Nat := 0x40030000 + 0x4 * i

/-- `PAD.DOE`, R558. -/
def A.padDoe (i : Nat) : Nat := 0x40030010 + 0x4 * i

/-- `PAD.DIN`, R558. -/
def A.padDin (i : Nat) : Nat := 0x40030020 + 0x4 * i

/-- `PAD.HOLD`, R558. -/
def A.padHold : Nat := 0x40030030
/-- `PAD.HOLD.RELEASE`. -/
def F.padHoldRelease : Fld := ⟨A.padHold, 0, 1⟩

/-- `PAD.HELD`, R558. -/
def A.padHeld (i : Nat) : Nat := 0x40038000 + 0x4 * i

/-- `BRD.LAYOUT`, R92. -/
def A.brdLayout : Nat := 0x40040000

/-- `BRD.GEN`, R92. -/
def A.brdGen : Nat := 0x40040004

/-- `BRD.SOURCE`, R92. -/
def A.brdSource : Nat := 0x40040008
/-- `BRD.SOURCE.RUNSWAPS`. -/
def F.brdSourceRunswaps : Fld := ⟨A.brdSource, 16, 8⟩
/-- `BRD.SOURCE.PART2`. -/
def F.brdSourcePart2 : Fld := ⟨A.brdSource, 8, 4⟩
/-- `BRD.SOURCE.PART1`. -/
def F.brdSourcePart1 : Fld := ⟨A.brdSource, 4, 4⟩
/-- `BRD.SOURCE.FULL`. -/
def F.brdSourceFull : Fld := ⟨A.brdSource, 0, 4⟩

/-- `BRD.LOADSTAT`, R92. -/
def A.brdLoadstat : Nat := 0x4004000C
/-- `BRD.LOADSTAT.STATUS`. -/
def F.brdLoadstatStatus : Fld := ⟨A.brdLoadstat, 16, 16⟩
/-- `BRD.LOADSTAT.SECTION`. -/
def F.brdLoadstatSection : Fld := ⟨A.brdLoadstat, 8, 8⟩
/-- `BRD.LOADSTAT.DETAIL`. -/
def F.brdLoadstatDetail : Fld := ⟨A.brdLoadstat, 0, 8⟩

/-- `BRD.LOADSITE0`, R92. -/
def A.brdLoadsite0 : Nat := 0x40040010

/-- `BRD.LOADSITE1`, R92. -/
def A.brdLoadsite1 : Nat := 0x40040014

/-- `BRD.SWAPCTL`, R92. -/
def A.brdSwapctl : Nat := 0x40040020
/-- `BRD.SWAPCTL.ABORT`. -/
def F.brdSwapctlAbort : Fld := ⟨A.brdSwapctl, 31, 1⟩
/-- `BRD.SWAPCTL.START`. -/
def F.brdSwapctlStart : Fld := ⟨A.brdSwapctl, 30, 1⟩
/-- `BRD.SWAPCTL.PERSIST`. -/
def F.brdSwapctlPersist : Fld := ⟨A.brdSwapctl, 8, 1⟩
/-- `BRD.SWAPCTL.SLOT`. -/
def F.brdSwapctlSlot : Fld := ⟨A.brdSwapctl, 0, 2⟩

/-- `BRD.SWAPROUND`, R92. -/
def A.brdSwapround : Nat := 0x40040024

/-- `BRD.SWAPCFG`, R92. -/
def A.brdSwapcfg : Nat := 0x40040028
/-- `BRD.SWAPCFG.LOCK`. -/
def F.brdSwapcfgLock : Fld := ⟨A.brdSwapcfg, 31, 1⟩
/-- `BRD.SWAPCFG.MAXDEFER`. -/
def F.brdSwapcfgMaxdefer : Fld := ⟨A.brdSwapcfg, 8, 8⟩
/-- `BRD.SWAPCFG.DRAINLEAD`. -/
def F.brdSwapcfgDrainlead : Fld := ⟨A.brdSwapcfg, 0, 8⟩

/-- `BRD.SWAPSTAT`, R92. -/
def A.brdSwapstat : Nat := 0x4004002C
/-- `BRD.SWAPSTAT.RESULT`. -/
def F.brdSwapstatResult : Fld := ⟨A.brdSwapstat, 16, 16⟩
/-- `BRD.SWAPSTAT.DEFERS`. -/
def F.brdSwapstatDefers : Fld := ⟨A.brdSwapstat, 8, 8⟩
/-- `BRD.SWAPSTAT.STATE`. -/
def F.brdSwapstatState : Fld := ⟨A.brdSwapstat, 0, 4⟩

/-- `BRD.WINDOW`, R92. -/
def A.brdWindow : Nat := 0x40040030
/-- `BRD.WINDOW.EDGEOVF`. -/
def F.brdWindowEdgeovf : Fld := ⟨A.brdWindow, 24, 8⟩
/-- `BRD.WINDOW.HELD`. -/
def F.brdWindowHeld : Fld := ⟨A.brdWindow, 16, 8⟩
/-- `BRD.WINDOW.LENGTH`. -/
def F.brdWindowLength : Fld := ⟨A.brdWindow, 0, 16⟩

/-- `BRD.TMRRST0`, R92. -/
def A.brdTmrrst0 : Nat := 0x40040034

/-- `BRD.TMRRST1`, R92. -/
def A.brdTmrrst1 : Nat := 0x40040038

/-- `BRD.TMRRST2`, R92. -/
def A.brdTmrrst2 : Nat := 0x4004003C

/-- `BRD.INTSTAT`, R92. -/
def A.brdIntstat : Nat := 0x40040040
/-- `BRD.INTSTAT.ARMED`. -/
def F.brdIntstatArmed : Fld := ⟨A.brdIntstat, 6, 1⟩
/-- `BRD.INTSTAT.EDGEOVF`. -/
def F.brdIntstatEdgeovf : Fld := ⟨A.brdIntstat, 5, 1⟩
/-- `BRD.INTSTAT.TMRRESET`. -/
def F.brdIntstatTmrreset : Fld := ⟨A.brdIntstat, 4, 1⟩
/-- `BRD.INTSTAT.DEFER`. -/
def F.brdIntstatDefer : Fld := ⟨A.brdIntstat, 3, 1⟩
/-- `BRD.INTSTAT.SWAPFAIL`. -/
def F.brdIntstatSwapfail : Fld := ⟨A.brdIntstat, 2, 1⟩
/-- `BRD.INTSTAT.SWAPDONE`. -/
def F.brdIntstatSwapdone : Fld := ⟨A.brdIntstat, 1, 1⟩
/-- `BRD.INTSTAT.LOADFAIL`. -/
def F.brdIntstatLoadfail : Fld := ⟨A.brdIntstat, 0, 1⟩

/-- `BRD.INTEN`, R92. -/
def A.brdInten : Nat := 0x40040044
/-- `BRD.INTEN.ARMED`. -/
def F.brdIntenArmed : Fld := ⟨A.brdInten, 6, 1⟩
/-- `BRD.INTEN.EDGEOVF`. -/
def F.brdIntenEdgeovf : Fld := ⟨A.brdInten, 5, 1⟩
/-- `BRD.INTEN.TMRRESET`. -/
def F.brdIntenTmrreset : Fld := ⟨A.brdInten, 4, 1⟩
/-- `BRD.INTEN.DEFER`. -/
def F.brdIntenDefer : Fld := ⟨A.brdInten, 3, 1⟩
/-- `BRD.INTEN.SWAPFAIL`. -/
def F.brdIntenSwapfail : Fld := ⟨A.brdInten, 2, 1⟩
/-- `BRD.INTEN.SWAPDONE`. -/
def F.brdIntenSwapdone : Fld := ⟨A.brdInten, 1, 1⟩
/-- `BRD.INTEN.LOADFAIL`. -/
def F.brdIntenLoadfail : Fld := ⟨A.brdInten, 0, 1⟩

/-- `SYS.ID`, R154. -/
def A.sysId : Nat := 0x40050000
/-- `SYS.ID.PART`. -/
def F.sysIdPart : Fld := ⟨A.sysId, 16, 16⟩
/-- `SYS.ID.STEP`. -/
def F.sysIdStep : Fld := ⟨A.sysId, 8, 8⟩
/-- `SYS.ID.PKG`. -/
def F.sysIdPkg : Fld := ⟨A.sysId, 0, 8⟩

/-- `SYS.UIDLO`, R154. -/
def A.sysUidlo : Nat := 0x40050004

/-- `SYS.UIDHI`, R154. -/
def A.sysUidhi : Nat := 0x40050008

/-- `SYS.BOOTSTAT`, R154. -/
def A.sysBootstat : Nat := 0x4005000C
/-- `SYS.BOOTSTAT.FWSLOT`. -/
def F.sysBootstatFwslot : Fld := ⟨A.sysBootstat, 16, 4⟩
/-- `SYS.BOOTSTAT.STAGE`. -/
def F.sysBootstatStage : Fld := ⟨A.sysBootstat, 0, 4⟩

/-- `SYS.BOOTFLAGS`, R154. -/
def A.sysBootflags : Nat := 0x40050010
/-- `SYS.BOOTFLAGS.OTPCAL`. -/
def F.sysBootflagsOtpcal : Fld := ⟨A.sysBootflags, 0, 1⟩
/-- `SYS.BOOTFLAGS.TAMPER`. -/
def F.sysBootflagsTamper : Fld := ⟨A.sysBootflags, 1, 1⟩
/-- `SYS.BOOTFLAGS.RLRDIV`. -/
def F.sysBootflagsRlrdiv : Fld := ⟨A.sysBootflags, 2, 1⟩
/-- `SYS.BOOTFLAGS.RLRNONE`. -/
def F.sysBootflagsRlrnone : Fld := ⟨A.sysBootflags, 3, 1⟩
/-- `SYS.BOOTFLAGS.DFIDIV`. -/
def F.sysBootflagsDfidiv : Fld := ⟨A.sysBootflags, 4, 1⟩
/-- `SYS.BOOTFLAGS.DFINONE`. -/
def F.sysBootflagsDfinone : Fld := ⟨A.sysBootflags, 5, 1⟩
/-- `SYS.BOOTFLAGS.XREFALT`. -/
def F.sysBootflagsXrefalt : Fld := ⟨A.sysBootflags, 6, 1⟩
/-- `SYS.BOOTFLAGS.XREFFAIL`. -/
def F.sysBootflagsXreffail : Fld := ⟨A.sysBootflags, 7, 1⟩
/-- `SYS.BOOTFLAGS.HOLDUP`. -/
def F.sysBootflagsHoldup : Fld := ⟨A.sysBootflags, 8, 1⟩
/-- `SYS.BOOTFLAGS.JRNDIV`. -/
def F.sysBootflagsJrndiv : Fld := ⟨A.sysBootflags, 9, 1⟩
/-- `SYS.BOOTFLAGS.FWFALL`. -/
def F.sysBootflagsFwfall : Fld := ⟨A.sysBootflags, 10, 1⟩
/-- `SYS.BOOTFLAGS.FWNONE`. -/
def F.sysBootflagsFwnone : Fld := ⟨A.sysBootflags, 11, 1⟩
/-- `SYS.BOOTFLAGS.BRDFALL`. -/
def F.sysBootflagsBrdfall : Fld := ⟨A.sysBootflags, 12, 1⟩
/-- `SYS.BOOTFLAGS.STARTSUB`. -/
def F.sysBootflagsStartsub : Fld := ⟨A.sysBootflags, 13, 1⟩

/-- `SYS.BOOTTIME`, R154. -/
def A.sysBoottime : Nat := 0x40050014

/-- `SYS.CORERUN`, R154. -/
def A.sysCorerun : Nat := 0x40050018
/-- `SYS.CORERUN.RUN`. -/
def F.sysCorerunRun : Fld := ⟨A.sysCorerun, 1, 4⟩

/-- `SYS.VEC1`, R154. -/
def A.sysVec1 : Nat := 0x40050020
/-- `SYS.VEC1.ADDR`. -/
def F.sysVec1Addr : Fld := ⟨A.sysVec1, 1, 31⟩

/-- `SYS.VEC2`, R154. -/
def A.sysVec2 : Nat := 0x40050024
/-- `SYS.VEC2.ADDR`. -/
def F.sysVec2Addr : Fld := ⟨A.sysVec2, 1, 31⟩

/-- `SYS.VEC3`, R154. -/
def A.sysVec3 : Nat := 0x40050028
/-- `SYS.VEC3.ADDR`. -/
def F.sysVec3Addr : Fld := ⟨A.sysVec3, 1, 31⟩

/-- `SYS.VECS`, R154. -/
def A.sysVecs : Nat := 0x4005002C
/-- `SYS.VECS.ADDR`. -/
def F.sysVecsAddr : Fld := ⟨A.sysVecs, 1, 31⟩

/-- `RFS.STAT`, R187. -/
def A.rfsStat (c : Chain) : Nat := 0x40100000 + 0x10000 * c.idx
/-- `RFS.STAT.CALVALID`. -/
def F.rfsStatCalvalid (c : Chain) : Fld := ⟨A.rfsStat c, 23, 1⟩
/-- `RFS.STAT.CALDUE`. -/
def F.rfsStatCaldue (c : Chain) : Fld := ⟨A.rfsStat c, 22, 1⟩
/-- `RFS.STAT.BLANK`. -/
def F.rfsStatBlank (c : Chain) : Fld := ⟨A.rfsStat c, 21, 1⟩
/-- `RFS.STAT.GNT`. -/
def F.rfsStatGnt (c : Chain) : Fld := ⟨A.rfsStat c, 20, 1⟩
/-- `RFS.STAT.CAPLOCK`. -/
def F.rfsStatCaplock (c : Chain) : Fld := ⟨A.rfsStat c, 19, 1⟩
/-- `RFS.STAT.CHLOCK`. -/
def F.rfsStatChlock (c : Chain) : Fld := ⟨A.rfsStat c, 18, 1⟩
/-- `RFS.STAT.STATE`. -/
def F.rfsStatState (c : Chain) : Fld := ⟨A.rfsStat c, 0, 4⟩

/-- `RFS.CTRL`, R187. -/
def A.rfsCtrl (c : Chain) : Nat := 0x40100004 + 0x10000 * c.idx
/-- `RFS.CTRL.AFCMAX`. -/
def F.rfsCtrlAfcmax (c : Chain) : Fld := ⟨A.rfsCtrl c, 8, 8⟩
/-- `RFS.CTRL.AFCTX`. -/
def F.rfsCtrlAfctx (c : Chain) : Fld := ⟨A.rfsCtrl c, 1, 1⟩
/-- `RFS.CTRL.AFCEN`. -/
def F.rfsCtrlAfcen (c : Chain) : Fld := ⟨A.rfsCtrl c, 0, 1⟩

/-- `RFS.FREQ`, R187. -/
def A.rfsFreq (c : Chain) : Nat := 0x40100008 + 0x10000 * c.idx
/-- `RFS.FREQ.FREQ`. -/
def F.rfsFreqFreq (c : Chain) : Fld := ⟨A.rfsFreq c, 0, 30⟩

/-- `RFS.CAPF`, R187. -/
def A.rfsCapf (c : Chain) : Nat := 0x4010000C + 0x10000 * c.idx
/-- `RFS.CAPF.FREQ`. -/
def F.rfsCapfFreq (c : Chain) : Fld := ⟨A.rfsCapf c, 0, 30⟩

/-- `RFS.AFC`, R187. -/
def A.rfsAfc (c : Chain) : Nat := 0x40100010 + 0x10000 * c.idx
/-- `RFS.AFC.SAT`. -/
def F.rfsAfcSat (c : Chain) : Fld := ⟨A.rfsAfc c, 24, 1⟩
/-- `RFS.AFC.OFFSET`. -/
def F.rfsAfcOffset (c : Chain) : Fld := ⟨A.rfsAfc c, 0, 24⟩

/-- `RFS.TXPWR`, R187. -/
def A.rfsTxpwr (c : Chain) : Nat := 0x40100014 + 0x10000 * c.idx
/-- `RFS.TXPWR.VPA`. -/
def F.rfsTxpwrVpa (c : Chain) : Fld := ⟨A.rfsTxpwr c, 24, 8⟩
/-- `RFS.TXPWR.REQ`. -/
def F.rfsTxpwrReq (c : Chain) : Fld := ⟨A.rfsTxpwr c, 16, 8⟩
/-- `RFS.TXPWR.APPLIED`. -/
def F.rfsTxpwrApplied (c : Chain) : Fld := ⟨A.rfsTxpwr c, 8, 8⟩
/-- `RFS.TXPWR.CLAMP`. -/
def F.rfsTxpwrClamp (c : Chain) : Fld := ⟨A.rfsTxpwr c, 0, 4⟩

/-- `RFS.GATE`, R187. -/
def A.rfsGate (c : Chain) : Nat := 0x40100018 + 0x10000 * c.idx
/-- `RFS.GATE.BAND`. -/
def F.rfsGateBand (c : Chain) : Fld := ⟨A.rfsGate c, 8, 8⟩
/-- `RFS.GATE.REASON`. -/
def F.rfsGateReason (c : Chain) : Fld := ⟨A.rfsGate c, 0, 4⟩

/-- `RFS.RSSI`, R187. -/
def A.rfsRssi (c : Chain) : Nat := 0x4010001C + 0x10000 * c.idx
/-- `RFS.RSSI.LEVEL`. -/
def F.rfsRssiLevel (c : Chain) : Fld := ⟨A.rfsRssi c, 0, 16⟩

/-- `RFS.CAL`, R187. -/
def A.rfsCal (c : Chain) : Nat := 0x40100020 + 0x10000 * c.idx
/-- `RFS.CAL.START`. -/
def F.rfsCalStart (c : Chain) : Fld := ⟨A.rfsCal c, 31, 1⟩
/-- `RFS.CAL.RESULT`. -/
def F.rfsCalResult (c : Chain) : Fld := ⟨A.rfsCal c, 16, 2⟩
/-- `RFS.CAL.TEMP`. -/
def F.rfsCalTemp (c : Chain) : Fld := ⟨A.rfsCal c, 8, 8⟩
/-- `RFS.CAL.AUTO`. -/
def F.rfsCalAuto (c : Chain) : Fld := ⟨A.rfsCal c, 0, 1⟩

/-- `RFS.COEX`, R187. -/
def A.rfsCoex (c : Chain) : Nat := 0x40100024 + 0x10000 * c.idx
/-- `RFS.COEX.LEAD`. -/
def F.rfsCoexLead (c : Chain) : Fld := ⟨A.rfsCoex c, 24, 8⟩
/-- `RFS.COEX.GNTSU`. -/
def F.rfsCoexGntsu (c : Chain) : Fld := ⟨A.rfsCoex c, 16, 8⟩
/-- `RFS.COEX.RXGNT`. -/
def F.rfsCoexRxgnt (c : Chain) : Fld := ⟨A.rfsCoex c, 7, 1⟩
/-- `RFS.COEX.RXREQ`. -/
def F.rfsCoexRxreq (c : Chain) : Fld := ⟨A.rfsCoex c, 6, 1⟩
/-- `RFS.COEX.POL`. -/
def F.rfsCoexPol (c : Chain) : Fld := ⟨A.rfsCoex c, 2, 4⟩
/-- `RFS.COEX.EN`. -/
def F.rfsCoexEn (c : Chain) : Fld := ⟨A.rfsCoex c, 0, 1⟩

/-- `RFS.COEXCNT`, R187. -/
def A.rfsCoexcnt (c : Chain) : Nat := 0x40100028 + 0x10000 * c.idx
/-- `RFS.COEXCNT.LOSS`. -/
def F.rfsCoexcntLoss (c : Chain) : Fld := ⟨A.rfsCoexcnt c, 16, 16⟩
/-- `RFS.COEXCNT.DENY`. -/
def F.rfsCoexcntDeny (c : Chain) : Fld := ⟨A.rfsCoexcnt c, 0, 16⟩

/-- `RFS.RAMPCTL`, R187. -/
def A.rfsRampctl (c : Chain) : Nat := 0x4010002C + 0x10000 * c.idx
/-- `RFS.RAMPCTL.COMMIT`. -/
def F.rfsRampctlCommit (c : Chain) : Fld := ⟨A.rfsRampctl c, 31, 1⟩
/-- `RFS.RAMPCTL.ERR`. -/
def F.rfsRampctlErr (c : Chain) : Fld := ⟨A.rfsRampctl c, 16, 1⟩
/-- `RFS.RAMPCTL.SUM`. -/
def F.rfsRampctlSum (c : Chain) : Fld := ⟨A.rfsRampctl c, 0, 9⟩

/-- `RFS.INTSTAT`, R187. -/
def A.rfsIntstat (c : Chain) : Nat := 0x40100030 + 0x10000 * c.idx
/-- `RFS.INTSTAT.CALDUE`. -/
def F.rfsIntstatCaldue (c : Chain) : Fld := ⟨A.rfsIntstat c, 7, 1⟩
/-- `RFS.INTSTAT.CALDONE`. -/
def F.rfsIntstatCaldone (c : Chain) : Fld := ⟨A.rfsIntstat c, 6, 1⟩
/-- `RFS.INTSTAT.RAMPERR`. -/
def F.rfsIntstatRamperr (c : Chain) : Fld := ⟨A.rfsIntstat c, 5, 1⟩
/-- `RFS.INTSTAT.AFCSAT`. -/
def F.rfsIntstatAfcsat (c : Chain) : Fld := ⟨A.rfsIntstat c, 4, 1⟩
/-- `RFS.INTSTAT.GNTLOSS`. -/
def F.rfsIntstatGntloss (c : Chain) : Fld := ⟨A.rfsIntstat c, 3, 1⟩
/-- `RFS.INTSTAT.GATEREF`. -/
def F.rfsIntstatGateref (c : Chain) : Fld := ⟨A.rfsIntstat c, 2, 1⟩
/-- `RFS.INTSTAT.PWRCLAMP`. -/
def F.rfsIntstatPwrclamp (c : Chain) : Fld := ⟨A.rfsIntstat c, 1, 1⟩
/-- `RFS.INTSTAT.LOCKFAIL`. -/
def F.rfsIntstatLockfail (c : Chain) : Fld := ⟨A.rfsIntstat c, 0, 1⟩

/-- `RFS.INTEN`, R187. -/
def A.rfsInten (c : Chain) : Nat := 0x40100034 + 0x10000 * c.idx
/-- `RFS.INTEN.CALDUE`. -/
def F.rfsIntenCaldue (c : Chain) : Fld := ⟨A.rfsInten c, 7, 1⟩
/-- `RFS.INTEN.CALDONE`. -/
def F.rfsIntenCaldone (c : Chain) : Fld := ⟨A.rfsInten c, 6, 1⟩
/-- `RFS.INTEN.RAMPERR`. -/
def F.rfsIntenRamperr (c : Chain) : Fld := ⟨A.rfsInten c, 5, 1⟩
/-- `RFS.INTEN.AFCSAT`. -/
def F.rfsIntenAfcsat (c : Chain) : Fld := ⟨A.rfsInten c, 4, 1⟩
/-- `RFS.INTEN.GNTLOSS`. -/
def F.rfsIntenGntloss (c : Chain) : Fld := ⟨A.rfsInten c, 3, 1⟩
/-- `RFS.INTEN.GATEREF`. -/
def F.rfsIntenGateref (c : Chain) : Fld := ⟨A.rfsInten c, 2, 1⟩
/-- `RFS.INTEN.PWRCLAMP`. -/
def F.rfsIntenPwrclamp (c : Chain) : Fld := ⟨A.rfsInten c, 1, 1⟩
/-- `RFS.INTEN.LOCKFAIL`. -/
def F.rfsIntenLockfail (c : Chain) : Fld := ⟨A.rfsInten c, 0, 1⟩

/-- `RFS.RAMP`, R187. -/
def A.rfsRamp (c : Chain) (i : Nat) : Nat := 0x40100080 + 0x10000 * c.idx + 0x4 * i
/-- `RFS.RAMP.DWELL`. -/
def F.rfsRampDwell (c : Chain) (i : Nat) : Fld := ⟨A.rfsRamp c i, 8, 8⟩
/-- `RFS.RAMP.AMP`. -/
def F.rfsRampAmp (c : Chain) (i : Nat) : Fld := ⟨A.rfsRamp c i, 0, 8⟩

/-- `RFS.RLRSEL`, R187. -/
def A.rfsRlrsel (c : Chain) : Nat := 0x40100100 + 0x10000 * c.idx
/-- `RFS.RLRSEL.BAND`. -/
def F.rfsRlrselBand (c : Chain) : Fld := ⟨A.rfsRlrsel c, 0, 3⟩

/-- `RFS.RLRLIM`, R187. -/
def A.rfsRlrlim (c : Chain) : Nat := 0x40100104 + 0x10000 * c.idx
/-- `RFS.RLRLIM.VALID`. -/
def F.rfsRlrlimValid (c : Chain) : Fld := ⟨A.rfsRlrlim c, 31, 1⟩
/-- `RFS.RLRLIM.LBT`. -/
def F.rfsRlrlimLbt (c : Chain) : Fld := ⟨A.rfsRlrlim c, 30, 1⟩
/-- `RFS.RLRLIM.CHAIN`. -/
def F.rfsRlrlimChain (c : Chain) : Fld := ⟨A.rfsRlrlim c, 29, 1⟩
/-- `RFS.RLRLIM.MAXPWR`. -/
def F.rfsRlrlimMaxpwr (c : Chain) : Fld := ⟨A.rfsRlrlim c, 0, 8⟩

/-- `RFS.RLRDUTY`, R187. -/
def A.rfsRlrduty (c : Chain) : Nat := 0x40100108 + 0x10000 * c.idx
/-- `RFS.RLRDUTY.LIMIT`. -/
def F.rfsRlrdutyLimit (c : Chain) : Fld := ⟨A.rfsRlrduty c, 0, 22⟩

/-- `RFS.DUTYUSED`, R187. -/
def A.rfsDutyused (c : Chain) : Nat := 0x4010010C + 0x10000 * c.idx
/-- `RFS.DUTYUSED.USED`. -/
def F.rfsDutyusedUsed (c : Chain) : Fld := ⟨A.rfsDutyused c, 0, 22⟩

/-- `WKR.CTRL`, R190. -/
def A.wkrCtrl : Nat := 0x40120000
/-- `WKR.CTRL.NODEEN`. -/
def F.wkrCtrlNodeen : Fld := ⟨A.wkrCtrl, 15, 1⟩
/-- `WKR.CTRL.G0EN`. -/
def F.wkrCtrlG0en : Fld := ⟨A.wkrCtrl, 14, 1⟩
/-- `WKR.CTRL.G1EN`. -/
def F.wkrCtrlG1en : Fld := ⟨A.wkrCtrl, 13, 1⟩
/-- `WKR.CTRL.BAND`. -/
def F.wkrCtrlBand : Fld := ⟨A.wkrCtrl, 8, 2⟩
/-- `WKR.CTRL.TOL`. -/
def F.wkrCtrlTol : Fld := ⟨A.wkrCtrl, 4, 3⟩
/-- `WKR.CTRL.RATE`. -/
def F.wkrCtrlRate : Fld := ⟨A.wkrCtrl, 1, 1⟩
/-- `WKR.CTRL.EN`. -/
def F.wkrCtrlEn : Fld := ⟨A.wkrCtrl, 0, 1⟩

/-- `WKR.NODEPAT`, R190. -/
def A.wkrNodepat : Nat := 0x40120004

/-- `WKR.GRP0`, R190. -/
def A.wkrGrp0 : Nat := 0x40120008

/-- `WKR.GRP1`, R190. -/
def A.wkrGrp1 : Nat := 0x4012000C

/-- `WKR.THR`, R190. -/
def A.wkrThr : Nat := 0x40120010
/-- `WKR.THR.FLOOR`. -/
def F.wkrThrFloor : Fld := ⟨A.wkrThr, 8, 8⟩
/-- `WKR.THR.MARGIN`. -/
def F.wkrThrMargin : Fld := ⟨A.wkrThr, 0, 5⟩

/-- `WKR.STAT`, R190. -/
def A.wkrStat : Nat := 0x40120014
/-- `WKR.STAT.ERRS`. -/
def F.wkrStatErrs : Fld := ⟨A.wkrStat, 8, 8⟩
/-- `WKR.STAT.LAST`. -/
def F.wkrStatLast : Fld := ⟨A.wkrStat, 0, 2⟩

/-- `WKR.CNT`, R190. -/
def A.wkrCnt : Nat := 0x40120018
/-- `WKR.CNT.BLANKED`. -/
def F.wkrCntBlanked : Fld := ⟨A.wkrCnt, 24, 8⟩
/-- `WKR.CNT.NOMATCH`. -/
def F.wkrCntNomatch : Fld := ⟨A.wkrCnt, 12, 12⟩
/-- `WKR.CNT.MATCH`. -/
def F.wkrCntMatch : Fld := ⟨A.wkrCnt, 0, 12⟩

/-- `WKR.INTSTAT`, R190. -/
def A.wkrIntstat : Nat := 0x4012001C
/-- `WKR.INTSTAT.BLANKED`. -/
def F.wkrIntstatBlanked : Fld := ⟨A.wkrIntstat, 3, 1⟩
/-- `WKR.INTSTAT.GRP1`. -/
def F.wkrIntstatGrp1 : Fld := ⟨A.wkrIntstat, 2, 1⟩
/-- `WKR.INTSTAT.GRP0`. -/
def F.wkrIntstatGrp0 : Fld := ⟨A.wkrIntstat, 1, 1⟩
/-- `WKR.INTSTAT.NODE`. -/
def F.wkrIntstatNode : Fld := ⟨A.wkrIntstat, 0, 1⟩

/-- `WKR.INTEN`, R190. -/
def A.wkrInten : Nat := 0x40120020
/-- `WKR.INTEN.BLANKED`. -/
def F.wkrIntenBlanked : Fld := ⟨A.wkrInten, 3, 1⟩
/-- `WKR.INTEN.GRP1`. -/
def F.wkrIntenGrp1 : Fld := ⟨A.wkrInten, 2, 1⟩
/-- `WKR.INTEN.GRP0`. -/
def F.wkrIntenGrp0 : Fld := ⟨A.wkrInten, 1, 1⟩
/-- `WKR.INTEN.NODE`. -/
def F.wkrIntenNode : Fld := ⟨A.wkrInten, 0, 1⟩

/-- `CHZ.STAT`, R211. -/
def A.chzStat : Nat := 0x40130000
/-- `CHZ.STAT.VALIDT`. -/
def F.chzStatValidt : Fld := ⟨A.chzStat, 5, 1⟩
/-- `CHZ.STAT.VALIDS`. -/
def F.chzStatValids : Fld := ⟨A.chzStat, 4, 1⟩
/-- `CHZ.STAT.RUNT`. -/
def F.chzStatRunt : Fld := ⟨A.chzStat, 1, 1⟩
/-- `CHZ.STAT.RUNS`. -/
def F.chzStatRuns : Fld := ⟨A.chzStat, 0, 1⟩

/-- `CHZ.INTSTAT`, R211. -/
def A.chzIntstat : Nat := 0x40130004
/-- `CHZ.INTSTAT.CLIPT`. -/
def F.chzIntstatClipt : Fld := ⟨A.chzIntstat, 5, 1⟩
/-- `CHZ.INTSTAT.CLIPS`. -/
def F.chzIntstatClips : Fld := ⟨A.chzIntstat, 4, 1⟩
/-- `CHZ.INTSTAT.CAPLOSST`. -/
def F.chzIntstatCaplosst : Fld := ⟨A.chzIntstat, 3, 1⟩
/-- `CHZ.INTSTAT.CAPLOSSS`. -/
def F.chzIntstatCaplosss : Fld := ⟨A.chzIntstat, 2, 1⟩
/-- `CHZ.INTSTAT.OVFT`. -/
def F.chzIntstatOvft : Fld := ⟨A.chzIntstat, 1, 1⟩
/-- `CHZ.INTSTAT.OVFS`. -/
def F.chzIntstatOvfs : Fld := ⟨A.chzIntstat, 0, 1⟩

/-- `CHZ.INTEN`, R211. -/
def A.chzInten : Nat := 0x40130008
/-- `CHZ.INTEN.CLIPT`. -/
def F.chzIntenClipt : Fld := ⟨A.chzInten, 5, 1⟩
/-- `CHZ.INTEN.CLIPS`. -/
def F.chzIntenClips : Fld := ⟨A.chzInten, 4, 1⟩
/-- `CHZ.INTEN.CAPLOSST`. -/
def F.chzIntenCaplosst : Fld := ⟨A.chzInten, 3, 1⟩
/-- `CHZ.INTEN.CAPLOSSS`. -/
def F.chzIntenCaplosss : Fld := ⟨A.chzInten, 2, 1⟩
/-- `CHZ.INTEN.OVFT`. -/
def F.chzIntenOvft : Fld := ⟨A.chzInten, 1, 1⟩
/-- `CHZ.INTEN.OVFS`. -/
def F.chzIntenOvfs : Fld := ⟨A.chzInten, 0, 1⟩

/-- `CHZ.SLICESEL`, R211. -/
def A.chzSlicesel : Nat := 0x40130010
/-- `CHZ.SLICESEL.BAND`. -/
def F.chzSliceselBand : Fld := ⟨A.chzSlicesel, 8, 1⟩
/-- `CHZ.SLICESEL.NUM`. -/
def F.chzSliceselNum : Fld := ⟨A.chzSlicesel, 0, 8⟩

/-- `CHZ.SLICEINFO0`, R211. -/
def A.chzSliceinfo0 : Nat := 0x40130014

/-- `CHZ.SLICEINFO1`, R211. -/
def A.chzSliceinfo1 : Nat := 0x40130018

/-- `CHZ.SLICELVL`, R211. -/
def A.chzSlicelvl : Nat := 0x4013001C
/-- `CHZ.SLICELVL.LEVEL`. -/
def F.chzSlicelvlLevel : Fld := ⟨A.chzSlicelvl, 0, 16⟩

/-- `CHZ.AGCS`, R211. -/
def A.chzAgc (i : Nat) : Nat := 0x40130100 + 0x100 * i
/-- `CHZ.AGCS.FIX`. -/
def F.chzAgcFix (i : Nat) : Fld := ⟨A.chzAgc i, 31, 1⟩
/-- `CHZ.AGCS.GMAX`. -/
def F.chzAgcGmax (i : Nat) : Fld := ⟨A.chzAgc i, 24, 6⟩
/-- `CHZ.AGCS.GFIX`. -/
def F.chzAgcGfix (i : Nat) : Fld := ⟨A.chzAgc i, 16, 6⟩
/-- `CHZ.AGCS.DECAY`. -/
def F.chzAgcDecay (i : Nat) : Fld := ⟨A.chzAgc i, 8, 8⟩
/-- `CHZ.AGCS.ATTACK`. -/
def F.chzAgcAttack (i : Nat) : Fld := ⟨A.chzAgc i, 0, 2⟩

/-- `CHZ.GAINS`, R211. -/
def A.chzGain (i : Nat) : Nat := 0x40130104 + 0x100 * i
/-- `CHZ.GAINS.G`. -/
def F.chzGainG (i : Nat) : Fld := ⟨A.chzGain i, 8, 6⟩
/-- `CHZ.GAINS.PEAK`. -/
def F.chzGainPeak (i : Nat) : Fld := ⟨A.chzGain i, 0, 8⟩

/-- `CHZ.CAPCS`, R211. -/
def A.chzCapc (i : Nat) : Nat := 0x40130108 + 0x100 * i

/-- `CHZ.DETCNTS`, R211. -/
def A.chzDetcnt (i : Nat) : Nat := 0x4013010C + 0x100 * i

/-- `CHZ.CUTCNTS`, R211. -/
def A.chzCutcnt (i : Nat) : Nat := 0x40130110 + 0x100 * i

/-- `CHZ.CLIPCNTS`, R211. -/
def A.chzClipcnt (i : Nat) : Nat := 0x40130114 + 0x100 * i

/-- `CHZ.OVFCNTS`, R211. -/
def A.chzOvfcnt (i : Nat) : Nat := 0x40130118 + 0x100 * i

/-- `DMD.STAT`, R213. -/
def A.dmdStat : Nat := 0x40140000
/-- `DMD.STAT.PARKED`. -/
def F.dmdStatParked : Fld := ⟨A.dmdStat, 16, 8⟩
/-- `DMD.STAT.BUSY`. -/
def F.dmdStatBusy : Fld := ⟨A.dmdStat, 8, 8⟩
/-- `DMD.STAT.FREE`. -/
def F.dmdStatFree : Fld := ⟨A.dmdStat, 0, 8⟩

/-- `DMD.INTSTAT`, R213. -/
def A.dmdIntstat : Nat := 0x40140004
/-- `DMD.INTSTAT.QFULL`. -/
def F.dmdIntstatQfull : Fld := ⟨A.dmdIntstat, 2, 1⟩
/-- `DMD.INTSTAT.EVICT`. -/
def F.dmdIntstatEvict : Fld := ⟨A.dmdIntstat, 1, 1⟩
/-- `DMD.INTSTAT.UNSERVED`. -/
def F.dmdIntstatUnserved : Fld := ⟨A.dmdIntstat, 0, 1⟩

/-- `DMD.INTEN`, R213. -/
def A.dmdInten : Nat := 0x40140008
/-- `DMD.INTEN.QFULL`. -/
def F.dmdIntenQfull : Fld := ⟨A.dmdInten, 2, 1⟩
/-- `DMD.INTEN.EVICT`. -/
def F.dmdIntenEvict : Fld := ⟨A.dmdInten, 1, 1⟩
/-- `DMD.INTEN.UNSERVED`. -/
def F.dmdIntenUnserved : Fld := ⟨A.dmdInten, 0, 1⟩

/-- `DMD.CTXSEL`, R213. -/
def A.dmdCtxsel : Nat := 0x4014000C
/-- `DMD.CTXSEL.CTX`. -/
def F.dmdCtxselCtx : Fld := ⟨A.dmdCtxsel, 0, 7⟩

/-- `DMD.CTXSTAT`, R213. -/
def A.dmdCtxstat : Nat := 0x40140010
/-- `DMD.CTXSTAT.STATE`. -/
def F.dmdCtxstatState : Fld := ⟨A.dmdCtxstat, 28, 4⟩
/-- `DMD.CTXSTAT.STAMPED`. -/
def F.dmdCtxstatStamped : Fld := ⟨A.dmdCtxstat, 27, 1⟩
/-- `DMD.CTXSTAT.UNIT`. -/
def F.dmdCtxstatUnit : Fld := ⟨A.dmdCtxstat, 22, 5⟩
/-- `DMD.CTXSTAT.BAND`. -/
def F.dmdCtxstatBand : Fld := ⟨A.dmdCtxstat, 21, 1⟩
/-- `DMD.CTXSTAT.CLASS`. -/
def F.dmdCtxstatClass : Fld := ⟨A.dmdCtxstat, 19, 2⟩
/-- `DMD.CTXSTAT.SLICE`. -/
def F.dmdCtxstatSlice : Fld := ⟨A.dmdCtxstat, 11, 8⟩
/-- `DMD.CTXSTAT.MODE`. -/
def F.dmdCtxstatMode : Fld := ⟨A.dmdCtxstat, 3, 8⟩

/-- `DMD.CTXFRAME`, R213. -/
def A.dmdCtxframe : Nat := 0x40140014
/-- `DMD.CTXFRAME.LEVEL`. -/
def F.dmdCtxframeLevel : Fld := ⟨A.dmdCtxframe, 16, 16⟩
/-- `DMD.CTXFRAME.CFO`. -/
def F.dmdCtxframeCfo : Fld := ⟨A.dmdCtxframe, 0, 16⟩

/-- `DMD.ACTIVE0`, R213. -/
def A.dmdActive0 : Nat := 0x40140018

/-- `DMD.ACTIVE1`, R213. -/
def A.dmdActive1 : Nat := 0x4014001C

/-- `DMD.ACTIVE2`, R213. -/
def A.dmdActive2 : Nat := 0x40140020

/-- `DMD.PENDING`, R213. -/
def A.dmdPending : Nat := 0x40140024
/-- `DMD.PENDING.T`. -/
def F.dmdPendingT : Fld := ⟨A.dmdPending, 16, 5⟩
/-- `DMD.PENDING.S`. -/
def F.dmdPendingS : Fld := ⟨A.dmdPending, 0, 5⟩

/-- `DMD.UNSRVS`, R213. -/
def A.dmdUnsrvs (i : Nat) : Nat := 0x40140104 + 0x4 * i

/-- `DMD.UNSRVT`, R213. -/
def A.dmdUnsrvt (i : Nat) : Nat := 0x40140144 + 0x4 * i

/-- `DMD.CTR`, R213. -/
def A.dmdCtr (i : Nat) : Nat := 0x40140200 + 0x4 * i

/-- `DEC.STAT`, R243. -/
def A.decStat : Nat := 0x40150000
/-- `DEC.STAT.BUSY`. -/
def F.decStatBusy : Fld := ⟨A.decStat, 16, 5⟩
/-- `DEC.STAT.QUEUED`. -/
def F.decStatQueued : Fld := ⟨A.decStat, 8, 8⟩
/-- `DEC.STAT.WAIT`. -/
def F.decStatWait : Fld := ⟨A.decStat, 0, 8⟩

/-- `DEC.CFG`, R243. -/
def A.decCfg : Nat := 0x40150004
/-- `DEC.CFG.ERASTHR`. -/
def F.decCfgErasthr : Fld := ⟨A.decCfg, 28, 4⟩
/-- `DEC.CFG.LIFE`. -/
def F.decCfgLife : Fld := ⟨A.decCfg, 16, 9⟩
/-- `DEC.CFG.COMBEN`. -/
def F.decCfgComben : Fld := ⟨A.decCfg, 8, 1⟩
/-- `DEC.CFG.MAXIT`. -/
def F.decCfgMaxit : Fld := ⟨A.decCfg, 0, 6⟩

/-- `DEC.INTSTAT`, R243. -/
def A.decIntstat : Nat := 0x40150008
/-- `DEC.INTSTAT.BUFCLEAR`. -/
def F.decIntstatBufclear : Fld := ⟨A.decIntstat, 4, 1⟩
/-- `DEC.INTSTAT.FCSFAIL`. -/
def F.decIntstatFcsfail : Fld := ⟨A.decIntstat, 3, 1⟩
/-- `DEC.INTSTAT.NOBASE`. -/
def F.decIntstatNobase : Fld := ⟨A.decIntstat, 2, 1⟩
/-- `DEC.INTSTAT.BUFEVICT`. -/
def F.decIntstatBufevict : Fld := ⟨A.decIntstat, 1, 1⟩
/-- `DEC.INTSTAT.DECFAIL`. -/
def F.decIntstatDecfail : Fld := ⟨A.decIntstat, 0, 1⟩

/-- `DEC.INTEN`, R243. -/
def A.decInten : Nat := 0x4015000C
/-- `DEC.INTEN.BUFCLEAR`. -/
def F.decIntenBufclear : Fld := ⟨A.decInten, 4, 1⟩
/-- `DEC.INTEN.FCSFAIL`. -/
def F.decIntenFcsfail : Fld := ⟨A.decInten, 3, 1⟩
/-- `DEC.INTEN.NOBASE`. -/
def F.decIntenNobase : Fld := ⟨A.decInten, 2, 1⟩
/-- `DEC.INTEN.BUFEVICT`. -/
def F.decIntenBufevict : Fld := ⟨A.decInten, 1, 1⟩
/-- `DEC.INTEN.DECFAIL`. -/
def F.decIntenDecfail : Fld := ⟨A.decInten, 0, 1⟩

/-- `DEC.TILESEL`, R243. -/
def A.decTilesel : Nat := 0x40150010
/-- `DEC.TILESEL.TILE`. -/
def F.decTileselTile : Fld := ⟨A.decTilesel, 0, 4⟩

/-- `DEC.TILESTAT`, R243. -/
def A.decTilestat : Nat := 0x40150014
/-- `DEC.TILESTAT.POOL`. -/
def F.decTilestatPool : Fld := ⟨A.decTilestat, 24, 8⟩
/-- `DEC.TILESTAT.CODESET`. -/
def F.decTilestatCodeset : Fld := ⟨A.decTilestat, 16, 5⟩
/-- `DEC.TILESTAT.NARROW`. -/
def F.decTilestatNarrow : Fld := ⟨A.decTilestat, 15, 1⟩
/-- `DEC.TILESTAT.SLOTS`. -/
def F.decTilestatSlots : Fld := ⟨A.decTilestat, 8, 7⟩
/-- `DEC.TILESTAT.QUEUE`. -/
def F.decTilestatQueue : Fld := ⟨A.decTilestat, 0, 5⟩

/-- `DEC.CTR`, R243. -/
def A.decCtr (i : Nat) : Nat := 0x40150100 + 0x4 * i

/-- `LNK.STAT`, R274. -/
def A.lnkStat : Nat := 0x40200000
/-- `LNK.STAT.SLOTS`. -/
def F.lnkStatSlots : Fld := ⟨A.lnkStat, 16, 10⟩
/-- `LNK.STAT.HELDT`. -/
def F.lnkStatHeldt : Fld := ⟨A.lnkStat, 9, 1⟩
/-- `LNK.STAT.HELDS`. -/
def F.lnkStatHelds : Fld := ⟨A.lnkStat, 8, 1⟩

/-- `LNK.CFG`, R274. -/
def A.lnkCfg : Nat := 0x40200004
/-- `LNK.CFG.IDLE`. -/
def F.lnkCfgIdle : Fld := ⟨A.lnkCfg, 16, 8⟩
/-- `LNK.CFG.GRACE`. -/
def F.lnkCfgGrace : Fld := ⟨A.lnkCfg, 0, 16⟩

/-- `LNK.SUBMIT`, R274. -/
def A.lnkSubmit : Nat := 0x40200008
/-- `LNK.SUBMIT.ALL`. -/
def F.lnkSubmitAll : Fld := ⟨A.lnkSubmit, 31, 1⟩
/-- `LNK.SUBMIT.SLOT`. -/
def F.lnkSubmitSlot : Fld := ⟨A.lnkSubmit, 0, 9⟩

/-- `LNK.CANCEL`, R274. -/
def A.lnkCancel : Nat := 0x4020000C
/-- `LNK.CANCEL.ALL`. -/
def F.lnkCancelAll : Fld := ⟨A.lnkCancel, 31, 1⟩
/-- `LNK.CANCEL.SLOT`. -/
def F.lnkCancelSlot : Fld := ⟨A.lnkCancel, 0, 9⟩

/-- `LNK.CMDSTAT`, R274. -/
def A.lnkCmdstat : Nat := 0x40200010
/-- `LNK.CMDSTAT.RESULT`. -/
def F.lnkCmdstatResult : Fld := ⟨A.lnkCmdstat, 16, 16⟩
/-- `LNK.CMDSTAT.GEN`. -/
def F.lnkCmdstatGen : Fld := ⟨A.lnkCmdstat, 9, 7⟩
/-- `LNK.CMDSTAT.SLOT`. -/
def F.lnkCmdstatSlot : Fld := ⟨A.lnkCmdstat, 0, 9⟩

/-- `LNK.NEXT0`, R274. -/
def A.lnkNext0 : Nat := 0x40200014

/-- `LNK.NEXT1`, R274. -/
def A.lnkNext1 : Nat := 0x40200018

/-- `LNK.LBTCFG`, R274. -/
def A.lnkLbtcfg : Nat := 0x40200020
/-- `LNK.LBTCFG.MAXTRIES`. -/
def F.lnkLbtcfgMaxtries : Fld := ⟨A.lnkLbtcfg, 28, 4⟩
/-- `LNK.LBTCFG.MAXBE`. -/
def F.lnkLbtcfgMaxbe : Fld := ⟨A.lnkLbtcfg, 24, 4⟩
/-- `LNK.LBTCFG.MINBE`. -/
def F.lnkLbtcfgMinbe : Fld := ⟨A.lnkLbtcfg, 20, 4⟩
/-- `LNK.LBTCFG.LISTEN`. -/
def F.lnkLbtcfgListen : Fld := ⟨A.lnkLbtcfg, 8, 8⟩
/-- `LNK.LBTCFG.THR`. -/
def F.lnkLbtcfgThr : Fld := ⟨A.lnkLbtcfg, 0, 8⟩

/-- `LNK.LBTUNIT`, R274. -/
def A.lnkLbtunit : Nat := 0x40200024
/-- `LNK.LBTUNIT.UNIT`. -/
def F.lnkLbtunitUnit : Fld := ⟨A.lnkLbtunit, 0, 16⟩

/-- `LNK.LEAA`, R274. -/
def A.lnkLeaa : Nat := 0x40200030

/-- `LNK.LECRC`, R274. -/
def A.lnkLecrc : Nat := 0x40200034
/-- `LNK.LECRC.CRCINIT`. -/
def F.lnkLecrcCrcinit : Fld := ⟨A.lnkLecrc, 0, 24⟩

/-- `LNK.WATCHCFG`, R274. -/
def A.lnkWatchcfg : Nat := 0x40200040
/-- `LNK.WATCHCFG.OFFSET`. -/
def F.lnkWatchcfgOffset : Fld := ⟨A.lnkWatchcfg, 12, 17⟩
/-- `LNK.WATCHCFG.CHAIN`. -/
def F.lnkWatchcfgChain : Fld := ⟨A.lnkWatchcfg, 8, 1⟩
/-- `LNK.WATCHCFG.MODE`. -/
def F.lnkWatchcfgMode : Fld := ⟨A.lnkWatchcfg, 0, 8⟩

/-- `LNK.WATCHFREQ`, R274. -/
def A.lnkWatchfreq : Nat := 0x40200044
/-- `LNK.WATCHFREQ.FREQ`. -/
def F.lnkWatchfreqFreq : Fld := ⟨A.lnkWatchfreq, 0, 30⟩

/-- `LNK.RXCFG`, R274. -/
def A.lnkRxcfg : Nat := 0x40200050
/-- `LNK.RXCFG.DROPBAD`. -/
def F.lnkRxcfgDropbad : Fld := ⟨A.lnkRxcfg, 4, 1⟩
/-- `LNK.RXCFG.DEFRING`. -/
def F.lnkRxcfgDefring : Fld := ⟨A.lnkRxcfg, 2, 2⟩
/-- `LNK.RXCFG.BUFSZ`. -/
def F.lnkRxcfgBufsz : Fld := ⟨A.lnkRxcfg, 0, 2⟩

/-- `LNK.RXBASE`, R274. -/
def A.lnkRxbase : Nat := 0x40200054
/-- `LNK.RXBASE.BASE`. -/
def F.lnkRxbaseBase : Fld := ⟨A.lnkRxbase, 3, 29⟩

/-- `LNK.RXCOUNT`, R274. -/
def A.lnkRxcount : Nat := 0x40200058
/-- `LNK.RXCOUNT.COUNT`. -/
def F.lnkRxcountCount : Fld := ⟨A.lnkRxcount, 0, 11⟩

/-- `LNK.RXRELEASE`, R274. -/
def A.lnkRxrelease : Nat := 0x4020005C
/-- `LNK.RXRELEASE.BUF`. -/
def F.lnkRxreleaseBuf : Fld := ⟨A.lnkRxrelease, 0, 10⟩

/-- `LNK.RXFREE`, R274. -/
def A.lnkRxfree : Nat := 0x40200060
/-- `LNK.RXFREE.FREE`. -/
def F.lnkRxfreeFree : Fld := ⟨A.lnkRxfree, 0, 11⟩

/-- `LNK.RXSEQ`, R274. -/
def A.lnkRxseq : Nat := 0x40200064
/-- `LNK.RXSEQ.SEQ`. -/
def F.lnkRxseqSeq : Fld := ⟨A.lnkRxseq, 0, 32⟩

/-- `LNK.RINGBASEr`, R274. -/
def A.lnkRingbase (i : Nat) : Nat := 0x40200100 + 0x10 * i
/-- `LNK.RINGBASEr.BASE`. -/
def F.lnkRingbaseBase (i : Nat) : Fld := ⟨A.lnkRingbase i, 6, 26⟩

/-- `LNK.RINGSIZEr`, R274. -/
def A.lnkRingsize (i : Nat) : Nat := 0x40200104 + 0x10 * i
/-- `LNK.RINGSIZEr.SIZE`. -/
def F.lnkRingsizeSize (i : Nat) : Fld := ⟨A.lnkRingsize i, 0, 3⟩

/-- `LNK.RINGWRr`, R274. -/
def A.lnkRingwr (i : Nat) : Nat := 0x40200108 + 0x10 * i
/-- `LNK.RINGWRr.INDEX`. -/
def F.lnkRingwrIndex (i : Nat) : Fld := ⟨A.lnkRingwr i, 0, 12⟩

/-- `LNK.RINGRDr`, R274. -/
def A.lnkRingrd (i : Nat) : Nat := 0x4020010C + 0x10 * i
/-- `LNK.RINGRDr.INDEX`. -/
def F.lnkRingrdIndex (i : Nat) : Fld := ⟨A.lnkRingrd i, 0, 12⟩

/-- `LNK.INTSTAT`, R274. -/
def A.lnkIntstat : Nat := 0x40200140
/-- `LNK.INTSTAT.RELERR`. -/
def F.lnkIntstatRelerr : Fld := ⟨A.lnkIntstat, 12, 1⟩
/-- `LNK.INTSTAT.RINGFULL`. -/
def F.lnkIntstatRingfull : Fld := ⟨A.lnkIntstat, 11, 1⟩
/-- `LNK.INTSTAT.NOBUF`. -/
def F.lnkIntstatNobuf : Fld := ⟨A.lnkIntstat, 10, 1⟩
/-- `LNK.INTSTAT.LBTBUSY`. -/
def F.lnkIntstatLbtbusy : Fld := ⟨A.lnkIntstat, 9, 1⟩
/-- `LNK.INTSTAT.GATEREF`. -/
def F.lnkIntstatGateref : Fld := ⟨A.lnkIntstat, 8, 1⟩
/-- `LNK.INTSTAT.MISSED`. -/
def F.lnkIntstatMissed : Fld := ⟨A.lnkIntstat, 7, 1⟩
/-- `LNK.INTSTAT.RNE`. -/
def F.lnkIntstatRne : Fld := ⟨A.lnkIntstat, 0, 4⟩

/-- `LNK.INTEN`, R274. -/
def A.lnkInten : Nat := 0x40200144
/-- `LNK.INTEN.RELERR`. -/
def F.lnkIntenRelerr : Fld := ⟨A.lnkInten, 12, 1⟩
/-- `LNK.INTEN.RINGFULL`. -/
def F.lnkIntenRingfull : Fld := ⟨A.lnkInten, 11, 1⟩
/-- `LNK.INTEN.NOBUF`. -/
def F.lnkIntenNobuf : Fld := ⟨A.lnkInten, 10, 1⟩
/-- `LNK.INTEN.LBTBUSY`. -/
def F.lnkIntenLbtbusy : Fld := ⟨A.lnkInten, 9, 1⟩
/-- `LNK.INTEN.GATEREF`. -/
def F.lnkIntenGateref : Fld := ⟨A.lnkInten, 8, 1⟩
/-- `LNK.INTEN.MISSED`. -/
def F.lnkIntenMissed : Fld := ⟨A.lnkInten, 7, 1⟩
/-- `LNK.INTEN.RNE`. -/
def F.lnkIntenRne : Fld := ⟨A.lnkInten, 0, 4⟩

/-- `LNK.CTR`, R274. -/
def A.lnkCtr (i : Nat) : Nat := 0x40200180 + 0x4 * i

/-- `LNK.PENDMAP`, R274. -/
def A.lnkPendmap (i : Nat) : Nat := 0x40200200 + 0x4 * i

/-- `LNK.ACTION`, R247. -/
def A.lnkAction (i : Nat) : Nat := 0x40208000 + 0x4 * i

/-- `TNT.STAT`, R301. -/
def A.tntStat : Nat := 0x40210000
/-- `TNT.STAT.UP`. -/
def F.tntStatUp : Fld := ⟨A.tntStat, 16, 11⟩
/-- `TNT.STAT.QUEUED`. -/
def F.tntStatQueued : Fld := ⟨A.tntStat, 0, 12⟩

/-- `TNT.CFG`, R301. -/
def A.tntCfg : Nat := 0x40210004
/-- `TNT.CFG.SWAPLEAD`. -/
def F.tntCfgSwaplead : Fld := ⟨A.tntCfg, 8, 8⟩
/-- `TNT.CFG.OPENTRIES`. -/
def F.tntCfgOpentries : Fld := ⟨A.tntCfg, 0, 8⟩

/-- `TNT.LINKCMD`, R301. -/
def A.tntLinkcmd : Nat := 0x40210008
/-- `TNT.LINKCMD.OP`. -/
def F.tntLinkcmdOp : Fld := ⟨A.tntLinkcmd, 28, 4⟩
/-- `TNT.LINKCMD.HANDLE`. -/
def F.tntLinkcmdHandle : Fld := ⟨A.tntLinkcmd, 0, 16⟩

/-- `TNT.LINKSTAT`, R301. -/
def A.tntLinkstat : Nat := 0x4021000C
/-- `TNT.LINKSTAT.RESULT`. -/
def F.tntLinkstatResult : Fld := ⟨A.tntLinkstat, 16, 16⟩
/-- `TNT.LINKSTAT.HANDLE`. -/
def F.tntLinkstatHandle : Fld := ⟨A.tntLinkstat, 0, 16⟩

/-- `TNT.QPOST`, R301. -/
def A.tntQpost : Nat := 0x40210010
/-- `TNT.QPOST.ADDR`. -/
def F.tntQpostAddr : Fld := ⟨A.tntQpost, 3, 29⟩

/-- `TNT.QSTAT`, R301. -/
def A.tntQstat : Nat := 0x40210014
/-- `TNT.QSTAT.RESULT`. -/
def F.tntQstatResult : Fld := ⟨A.tntQstat, 16, 16⟩
/-- `TNT.QSTAT.HANDLE`. -/
def F.tntQstatHandle : Fld := ⟨A.tntQstat, 0, 16⟩

/-- `TNT.LCOUI`, R301. -/
def A.tntLcoui : Nat := 0x40210018
/-- `TNT.LCOUI.OUI`. -/
def F.tntLcouiOui : Fld := ⟨A.tntLcoui, 0, 24⟩

/-- `TNT.INTSTAT`, R301. -/
def A.tntIntstat : Nat := 0x40210020
/-- `TNT.INTSTAT.OVERSHARE`. -/
def F.tntIntstatOvershare : Fld := ⟨A.tntIntstat, 7, 1⟩
/-- `TNT.INTSTAT.QUOTA`. -/
def F.tntIntstatQuota : Fld := ⟨A.tntIntstat, 6, 1⟩
/-- `TNT.INTSTAT.WITHDRAW`. -/
def F.tntIntstatWithdraw : Fld := ⟨A.tntIntstat, 5, 1⟩
/-- `TNT.INTSTAT.ROLEFLIP`. -/
def F.tntIntstatRoleflip : Fld := ⟨A.tntIntstat, 4, 1⟩
/-- `TNT.INTSTAT.COLLISION`. -/
def F.tntIntstatCollision : Fld := ⟨A.tntIntstat, 3, 1⟩
/-- `TNT.INTSTAT.SWAPDONE`. -/
def F.tntIntstatSwapdone : Fld := ⟨A.tntIntstat, 2, 1⟩
/-- `TNT.INTSTAT.LINKDOWN`. -/
def F.tntIntstatLinkdown : Fld := ⟨A.tntIntstat, 1, 1⟩
/-- `TNT.INTSTAT.LINKUP`. -/
def F.tntIntstatLinkup : Fld := ⟨A.tntIntstat, 0, 1⟩

/-- `TNT.INTEN`, R301. -/
def A.tntInten : Nat := 0x40210024
/-- `TNT.INTEN.OVERSHARE`. -/
def F.tntIntenOvershare : Fld := ⟨A.tntInten, 7, 1⟩
/-- `TNT.INTEN.QUOTA`. -/
def F.tntIntenQuota : Fld := ⟨A.tntInten, 6, 1⟩
/-- `TNT.INTEN.WITHDRAW`. -/
def F.tntIntenWithdraw : Fld := ⟨A.tntInten, 5, 1⟩
/-- `TNT.INTEN.ROLEFLIP`. -/
def F.tntIntenRoleflip : Fld := ⟨A.tntInten, 4, 1⟩
/-- `TNT.INTEN.COLLISION`. -/
def F.tntIntenCollision : Fld := ⟨A.tntInten, 3, 1⟩
/-- `TNT.INTEN.SWAPDONE`. -/
def F.tntIntenSwapdone : Fld := ⟨A.tntInten, 2, 1⟩
/-- `TNT.INTEN.LINKDOWN`. -/
def F.tntIntenLinkdown : Fld := ⟨A.tntInten, 1, 1⟩
/-- `TNT.INTEN.LINKUP`. -/
def F.tntIntenLinkup : Fld := ⟨A.tntInten, 0, 1⟩

/-- `TNT.TSTAT`, R301. -/
def A.tntTstat (i : Nat) : Nat := 0x40210040 + 0x4 * i
/-- `TNT.TSTAT.OVERT`. -/
def F.tntTstatOvert (i : Nat) : Fld := ⟨A.tntTstat i, 31, 1⟩
/-- `TNT.TSTAT.OVERS`. -/
def F.tntTstatOvers (i : Nat) : Fld := ⟨A.tntTstat i, 30, 1⟩
/-- `TNT.TSTAT.LINKS`. -/
def F.tntTstatLinks (i : Nat) : Fld := ⟨A.tntTstat i, 16, 11⟩
/-- `TNT.TSTAT.QDEPTH`. -/
def F.tntTstatQdepth (i : Nat) : Fld := ⟨A.tntTstat i, 0, 12⟩

/-- `TNT.CTR`, R301. -/
def A.tntCtr (i : Nat) : Nat := 0x40210100 + 0x4 * i

/-- `TNT.UPMAP`, R301. -/
def A.tntUpmap (i : Nat) : Nat := 0x40210200 + 0x4 * i

/-- `NTM.STAT`, R325. -/
def A.ntmStat : Nat := 0x40220000
/-- `NTM.STAT.STRATUM`. -/
def F.ntmStatStratum : Fld := ⟨A.ntmStat, 24, 4⟩
/-- `NTM.STAT.VALID`. -/
def F.ntmStatValid : Fld := ⟨A.ntmStat, 23, 1⟩
/-- `NTM.STAT.PEND`. -/
def F.ntmStatPend : Fld := ⟨A.ntmStat, 22, 1⟩
/-- `NTM.STAT.SLEWING`. -/
def F.ntmStatSlewing : Fld := ⟨A.ntmStat, 21, 1⟩
/-- `NTM.STAT.LFRUN`. -/
def F.ntmStatLfrun : Fld := ⟨A.ntmStat, 20, 1⟩
/-- `NTM.STAT.SRCACT`. -/
def F.ntmStatSrcact : Fld := ⟨A.ntmStat, 16, 2⟩
/-- `NTM.STAT.SYNCST`. -/
def F.ntmStatSyncst : Fld := ⟨A.ntmStat, 8, 3⟩
/-- `NTM.STAT.PHJUMP`. -/
def F.ntmStatPhjump : Fld := ⟨A.ntmStat, 7, 1⟩

/-- `NTM.CFG`, R325. -/
def A.ntmCfg : Nat := 0x40220004
/-- `NTM.CFG.LOCK`. -/
def F.ntmCfgLock : Fld := ⟨A.ntmCfg, 31, 1⟩
/-- `NTM.CFG.SRC`. -/
def F.ntmCfgSrc : Fld := ⟨A.ntmCfg, 24, 2⟩
/-- `NTM.CFG.SLEWMAX`. -/
def F.ntmCfgSlewmax : Fld := ⟨A.ntmCfg, 16, 8⟩
/-- `NTM.CFG.STEPTHR`. -/
def F.ntmCfgStepthr : Fld := ⟨A.ntmCfg, 8, 8⟩
/-- `NTM.CFG.PSHIFT`. -/
def F.ntmCfgPshift : Fld := ⟨A.ntmCfg, 4, 3⟩
/-- `NTM.CFG.FSHIFT`. -/
def F.ntmCfgFshift : Fld := ⟨A.ntmCfg, 0, 4⟩

/-- `NTM.CMD`, R325. -/
def A.ntmCmd : Nat := 0x40220008
/-- `NTM.CMD.ABORT`. -/
def F.ntmCmdAbort : Fld := ⟨A.ntmCmd, 4, 1⟩
/-- `NTM.CMD.SET`. -/
def F.ntmCmdSet : Fld := ⟨A.ntmCmd, 3, 1⟩
/-- `NTM.CMD.STEP`. -/
def F.ntmCmdStep : Fld := ⟨A.ntmCmd, 2, 1⟩
/-- `NTM.CMD.SLEW`. -/
def F.ntmCmdSlew : Fld := ⟨A.ntmCmd, 1, 1⟩
/-- `NTM.CMD.CAPTURE`. -/
def F.ntmCmdCapture : Fld := ⟨A.ntmCmd, 0, 1⟩

/-- `NTM.INCFRAC`, R325. -/
def A.ntmIncfrac : Nat := 0x4022000C

/-- `NTM.INCINT`, R325. -/
def A.ntmIncint : Nat := 0x40220010
/-- `NTM.INCINT.NS`. -/
def F.ntmIncintNs : Fld := ⟨A.ntmIncint, 0, 8⟩

/-- `NTM.ADJ`, R325. -/
def A.ntmAdj : Nat := 0x40220014

/-- `NTM.SLEWREM`, R325. -/
def A.ntmSlewrem : Nat := 0x40220018

/-- `NTM.SETLO`, R325. -/
def A.ntmSetlo : Nat := 0x40220020

/-- `NTM.SETHI`, R325. -/
def A.ntmSethi : Nat := 0x40220024

/-- `NTM.CAPNS0`, R325. -/
def A.ntmCapns0 : Nat := 0x40220028

/-- `NTM.CAPNS1`, R325. -/
def A.ntmCapns1 : Nat := 0x4022002C

/-- `NTM.CAPFRAC`, R325. -/
def A.ntmCapfrac : Nat := 0x40220030

/-- `NTM.CAPTMB0`, R325. -/
def A.ntmCaptmb0 : Nat := 0x40220034

/-- `NTM.CAPTMB1`, R325. -/
def A.ntmCaptmb1 : Nat := 0x40220038

/-- `NTM.ROUND0`, R325. -/
def A.ntmRound0 : Nat := 0x40220040

/-- `NTM.ROUND1`, R325. -/
def A.ntmRound1 : Nat := 0x40220044

/-- `NTM.PARENT`, R325. -/
def A.ntmParent : Nat := 0x40220050
/-- `NTM.PARENT.HANDLE`. -/
def F.ntmParentHandle : Fld := ⟨A.ntmParent, 0, 16⟩

/-- `NTM.PROPDLY`, R325. -/
def A.ntmPropdly : Nat := 0x40220054
/-- `NTM.PROPDLY.NS`. -/
def F.ntmPropdlyNs : Fld := ⟨A.ntmPropdly, 0, 16⟩

/-- `NTM.EXTDLY`, R325. -/
def A.ntmExtdly : Nat := 0x40220058
/-- `NTM.EXTDLY.TXT`. -/
def F.ntmExtdlyTxt : Fld := ⟨A.ntmExtdly, 24, 8⟩
/-- `NTM.EXTDLY.RXT`. -/
def F.ntmExtdlyRxt : Fld := ⟨A.ntmExtdly, 16, 8⟩
/-- `NTM.EXTDLY.TXS`. -/
def F.ntmExtdlyTxs : Fld := ⟨A.ntmExtdly, 8, 8⟩
/-- `NTM.EXTDLY.RXS`. -/
def F.ntmExtdlyRxs : Fld := ⟨A.ntmExtdly, 0, 8⟩

/-- `NTM.MESHERR`, R325. -/
def A.ntmMesherr : Nat := 0x4022005C

/-- `NTM.SYNCCFG`, R325. -/
def A.ntmSynccfg : Nat := 0x40220060
/-- `NTM.SYNCCFG.EN`. -/
def F.ntmSynccfgEn : Fld := ⟨A.ntmSynccfg, 31, 1⟩
/-- `NTM.SYNCCFG.EDGE`. -/
def F.ntmSynccfgEdge : Fld := ⟨A.ntmSynccfg, 29, 2⟩
/-- `NTM.SYNCCFG.AUTOLEARN`. -/
def F.ntmSynccfgAutolearn : Fld := ⟨A.ntmSynccfg, 28, 1⟩
/-- `NTM.SYNCCFG.ACQN`. -/
def F.ntmSynccfgAcqn : Fld := ⟨A.ntmSynccfg, 20, 4⟩
/-- `NTM.SYNCCFG.MISSN`. -/
def F.ntmSynccfgMissn : Fld := ⟨A.ntmSynccfg, 16, 4⟩
/-- `NTM.SYNCCFG.JUMPTHR`. -/
def F.ntmSynccfgJumpthr : Fld := ⟨A.ntmSynccfg, 8, 8⟩
/-- `NTM.SYNCCFG.SLEW`. -/
def F.ntmSynccfgSlew : Fld := ⟨A.ntmSynccfg, 0, 6⟩

/-- `NTM.SYNCWIN`, R325. -/
def A.ntmSyncwin : Nat := 0x40220064
/-- `NTM.SYNCWIN.US`. -/
def F.ntmSyncwinUs : Fld := ⟨A.ntmSyncwin, 0, 12⟩

/-- `NTM.SYNCOFS`, R325. -/
def A.ntmSyncofs : Nat := 0x40220068
/-- `NTM.SYNCOFS.NS`. -/
def F.ntmSyncofsNs : Fld := ⟨A.ntmSyncofs, 0, 32⟩

/-- `NTM.SYNCERR`, R325. -/
def A.ntmSyncerr : Nat := 0x4022006C

/-- `NTM.TXS0`, R325. -/
def A.ntmTxs0 : Nat := 0x40220070

/-- `NTM.TXS1`, R325. -/
def A.ntmTxs1 : Nat := 0x40220074

/-- `NTM.TXT0`, R325. -/
def A.ntmTxt0 : Nat := 0x40220078

/-- `NTM.TXT1`, R325. -/
def A.ntmTxt1 : Nat := 0x4022007C

/-- `NTM.INTSTAT`, R325. -/
def A.ntmIntstat : Nat := 0x40220080
/-- `NTM.INTSTAT.NOSTAMP`. -/
def F.ntmIntstatNostamp : Fld := ⟨A.ntmIntstat, 7, 1⟩
/-- `NTM.INTSTAT.CMDERR`. -/
def F.ntmIntstatCmderr : Fld := ⟨A.ntmIntstat, 6, 1⟩
/-- `NTM.INTSTAT.STEP`. -/
def F.ntmIntstatStep : Fld := ⟨A.ntmIntstat, 5, 1⟩
/-- `NTM.INTSTAT.OUTLIER`. -/
def F.ntmIntstatOutlier : Fld := ⟨A.ntmIntstat, 4, 1⟩
/-- `NTM.INTSTAT.PHJUMP`. -/
def F.ntmIntstatPhjump : Fld := ⟨A.ntmIntstat, 3, 1⟩
/-- `NTM.INTSTAT.SYNCLOSS`. -/
def F.ntmIntstatSyncloss : Fld := ⟨A.ntmIntstat, 2, 1⟩
/-- `NTM.INTSTAT.SYNCLOCK`. -/
def F.ntmIntstatSynclock : Fld := ⟨A.ntmIntstat, 1, 1⟩
/-- `NTM.INTSTAT.ROUND`. -/
def F.ntmIntstatRound : Fld := ⟨A.ntmIntstat, 0, 1⟩

/-- `NTM.INTEN`, R325. -/
def A.ntmInten : Nat := 0x40220084
/-- `NTM.INTEN.NOSTAMP`. -/
def F.ntmIntenNostamp : Fld := ⟨A.ntmInten, 7, 1⟩
/-- `NTM.INTEN.CMDERR`. -/
def F.ntmIntenCmderr : Fld := ⟨A.ntmInten, 6, 1⟩
/-- `NTM.INTEN.STEP`. -/
def F.ntmIntenStep : Fld := ⟨A.ntmInten, 5, 1⟩
/-- `NTM.INTEN.OUTLIER`. -/
def F.ntmIntenOutlier : Fld := ⟨A.ntmInten, 4, 1⟩
/-- `NTM.INTEN.PHJUMP`. -/
def F.ntmIntenPhjump : Fld := ⟨A.ntmInten, 3, 1⟩
/-- `NTM.INTEN.SYNCLOSS`. -/
def F.ntmIntenSyncloss : Fld := ⟨A.ntmInten, 2, 1⟩
/-- `NTM.INTEN.SYNCLOCK`. -/
def F.ntmIntenSynclock : Fld := ⟨A.ntmInten, 1, 1⟩
/-- `NTM.INTEN.ROUND`. -/
def F.ntmIntenRound : Fld := ⟨A.ntmInten, 0, 1⟩

/-- `NTM.CTR`, R325. -/
def A.ntmCtr (i : Nat) : Nat := 0x40220100 + 0x4 * i

/-- `JRN.STAT`, R358. -/
def A.jrnStat : Nat := 0x40230000
/-- `JRN.STAT.COPIES`. -/
def F.jrnStatCopies : Fld := ⟨A.jrnStat, 20, 2⟩
/-- `JRN.STAT.MODEACT`. -/
def F.jrnStatModeact : Fld := ⟨A.jrnStat, 19, 1⟩
/-- `JRN.STAT.RECOVER`. -/
def F.jrnStatRecover : Fld := ⟨A.jrnStat, 18, 1⟩
/-- `JRN.STAT.LIVE`. -/
def F.jrnStatLive : Fld := ⟨A.jrnStat, 0, 14⟩

/-- `JRN.CFG`, R358. -/
def A.jrnCfg : Nat := 0x40230004
/-- `JRN.CFG.LOCK`. -/
def F.jrnCfgLock : Fld := ⟨A.jrnCfg, 31, 1⟩
/-- `JRN.CFG.FLUSHAGE`. -/
def F.jrnCfgFlushage : Fld := ⟨A.jrnCfg, 8, 8⟩
/-- `JRN.CFG.WEARSTOP`. -/
def F.jrnCfgWearstop : Fld := ⟨A.jrnCfg, 2, 1⟩
/-- `JRN.CFG.MODE`. -/
def F.jrnCfgMode : Fld := ⟨A.jrnCfg, 1, 1⟩
/-- `JRN.CFG.EN`. -/
def F.jrnCfgEn : Fld := ⟨A.jrnCfg, 0, 1⟩

/-- `JRN.RETXCFG`, R358. -/
def A.jrnRetxcfg : Nat := 0x40230008
/-- `JRN.RETXCFG.REPLIFE`. -/
def F.jrnRetxcfgReplife : Fld := ⟨A.jrnRetxcfg, 16, 16⟩
/-- `JRN.RETXCFG.INTERVAL`. -/
def F.jrnRetxcfgInterval : Fld := ⟨A.jrnRetxcfg, 0, 16⟩

/-- `JRN.HOLDCFG`, R358. -/
def A.jrnHoldcfg : Nat := 0x4023000C
/-- `JRN.HOLDCFG.LOCK`. -/
def F.jrnHoldcfgLock : Fld := ⟨A.jrnHoldcfg, 31, 1⟩
/-- `JRN.HOLDCFG.CDECL`. -/
def F.jrnHoldcfgCdecl : Fld := ⟨A.jrnHoldcfg, 11, 16⟩
/-- `JRN.HOLDCFG.BUFLIM`. -/
def F.jrnHoldcfgBuflim : Fld := ⟨A.jrnHoldcfg, 0, 11⟩

/-- `JRN.HOLDRES`, R358. -/
def A.jrnHoldres : Nat := 0x40230010
/-- `JRN.HOLDRES.PASS`. -/
def F.jrnHoldresPass : Fld := ⟨A.jrnHoldres, 31, 1⟩
/-- `JRN.HOLDRES.DONE`. -/
def F.jrnHoldresDone : Fld := ⟨A.jrnHoldres, 30, 1⟩
/-- `JRN.HOLDRES.ENERGY`. -/
def F.jrnHoldresEnergy : Fld := ⟨A.jrnHoldres, 16, 14⟩
/-- `JRN.HOLDRES.CAP`. -/
def F.jrnHoldresCap : Fld := ⟨A.jrnHoldres, 0, 16⟩

/-- `JRN.SUBMIT`, R358. -/
def A.jrnSubmit : Nat := 0x40230014
/-- `JRN.SUBMIT.ADDR`. -/
def F.jrnSubmitAddr : Fld := ⟨A.jrnSubmit, 3, 29⟩

/-- `JRN.SUBSTAT`, R358. -/
def A.jrnSubstat : Nat := 0x40230018
/-- `JRN.SUBSTAT.RESULT`. -/
def F.jrnSubstatResult : Fld := ⟨A.jrnSubstat, 16, 16⟩
/-- `JRN.SUBSTAT.TAG`. -/
def F.jrnSubstatTag : Fld := ⟨A.jrnSubstat, 0, 16⟩

/-- `JRN.SUBJSEQ`, R358. -/
def A.jrnSubjseq : Nat := 0x4023001C

/-- `JRN.RELEASE`, R358. -/
def A.jrnRelease : Nat := 0x40230020

/-- `JRN.RELSTAT`, R358. -/
def A.jrnRelstat : Nat := 0x40230024
/-- `JRN.RELSTAT.RESULT`. -/
def F.jrnRelstatResult : Fld := ⟨A.jrnRelstat, 16, 16⟩

/-- `JRN.FLOWADDR`, R358. -/
def A.jrnFlowaddr : Nat := 0x40230028

/-- `JRN.FLOWCMD`, R358. -/
def A.jrnFlowcmd : Nat := 0x4023002C
/-- `JRN.FLOWCMD.OP`. -/
def F.jrnFlowcmdOp : Fld := ⟨A.jrnFlowcmd, 28, 4⟩
/-- `JRN.FLOWCMD.FIDX`. -/
def F.jrnFlowcmdFidx : Fld := ⟨A.jrnFlowcmd, 0, 12⟩

/-- `JRN.FLOWSTAT`, R358. -/
def A.jrnFlowstat : Nat := 0x40230030
/-- `JRN.FLOWSTAT.RESULT`. -/
def F.jrnFlowstatResult : Fld := ⟨A.jrnFlowstat, 16, 16⟩
/-- `JRN.FLOWSTAT.FIDX`. -/
def F.jrnFlowstatFidx : Fld := ⟨A.jrnFlowstat, 0, 12⟩

/-- `JRN.COMMITTED`, R358. -/
def A.jrnCommitted : Nat := 0x40230034

/-- `JRN.BUFSTAT`, R358. -/
def A.jrnBufstat : Nat := 0x40230038
/-- `JRN.BUFSTAT.BUFFERED`. -/
def F.jrnBufstatBuffered : Fld := ⟨A.jrnBufstat, 16, 11⟩
/-- `JRN.BUFSTAT.RESERVE`. -/
def F.jrnBufstatReserve : Fld := ⟨A.jrnBufstat, 0, 16⟩

/-- `JRN.WEAR`, R358. -/
def A.jrnWear : Nat := 0x4023003C
/-- `JRN.WEAR.OVER`. -/
def F.jrnWearOver : Fld := ⟨A.jrnWear, 31, 1⟩
/-- `JRN.WEAR.USE`. -/
def F.jrnWearUse : Fld := ⟨A.jrnWear, 0, 16⟩

/-- `JRN.DLVCFG`, R358. -/
def A.jrnDlvcfg : Nat := 0x40230040
/-- `JRN.DLVCFG.HOSTMAX`. -/
def F.jrnDlvcfgHostmax : Fld := ⟨A.jrnDlvcfg, 8, 5⟩

/-- `JRN.DLVBASE`, R358. -/
def A.jrnDlvbase : Nat := 0x40230044
/-- `JRN.DLVBASE.ADDR`. -/
def F.jrnDlvbaseAddr : Fld := ⟨A.jrnDlvbase, 3, 29⟩

/-- `JRN.DLVCOUNT`, R358. -/
def A.jrnDlvcount : Nat := 0x40230048
/-- `JRN.DLVCOUNT.COUNT`. -/
def F.jrnDlvcountCount : Fld := ⟨A.jrnDlvcount, 0, 11⟩

/-- `JRN.UPLINK`, R358. -/
def A.jrnUplink : Nat := 0x4023004C
/-- `JRN.UPLINK.HANDLE`. -/
def F.jrnUplinkHandle : Fld := ⟨A.jrnUplink, 0, 16⟩

/-- `JRN.INTSTAT`, R358. -/
def A.jrnIntstat : Nat := 0x40230060
/-- `JRN.INTSTAT.QUOTA`. -/
def F.jrnIntstatQuota : Fld := ⟨A.jrnIntstat, 15, 1⟩
/-- `JRN.INTSTAT.HOLDFAIL`. -/
def F.jrnIntstatHoldfail : Fld := ⟨A.jrnIntstat, 14, 1⟩
/-- `JRN.INTSTAT.WEAROVER`. -/
def F.jrnIntstatWearover : Fld := ⟨A.jrnIntstat, 13, 1⟩
/-- `JRN.INTSTAT.DEGRADED`. -/
def F.jrnIntstatDegraded : Fld := ⟨A.jrnIntstat, 12, 1⟩
/-- `JRN.INTSTAT.DIVERGED`. -/
def F.jrnIntstatDiverged : Fld := ⟨A.jrnIntstat, 11, 1⟩
/-- `JRN.INTSTAT.RESULT`. -/
def F.jrnIntstatResult : Fld := ⟨A.jrnIntstat, 10, 1⟩
/-- `JRN.INTSTAT.EXPIRED`. -/
def F.jrnIntstatExpired : Fld := ⟨A.jrnIntstat, 9, 1⟩
/-- `JRN.INTSTAT.STALE`. -/
def F.jrnIntstatStale : Fld := ⟨A.jrnIntstat, 8, 1⟩
/-- `JRN.INTSTAT.FLOWDONE`. -/
def F.jrnIntstatFlowdone : Fld := ⟨A.jrnIntstat, 6, 1⟩
/-- `JRN.INTSTAT.RELDONE`. -/
def F.jrnIntstatReldone : Fld := ⟨A.jrnIntstat, 5, 1⟩
/-- `JRN.INTSTAT.SUBDONE`. -/
def F.jrnIntstatSubdone : Fld := ⟨A.jrnIntstat, 4, 1⟩
/-- `JRN.INTSTAT.RNE`. -/
def F.jrnIntstatRne : Fld := ⟨A.jrnIntstat, 0, 4⟩

/-- `JRN.INTEN`, R358. -/
def A.jrnInten : Nat := 0x40230064
/-- `JRN.INTEN.QUOTA`. -/
def F.jrnIntenQuota : Fld := ⟨A.jrnInten, 15, 1⟩
/-- `JRN.INTEN.HOLDFAIL`. -/
def F.jrnIntenHoldfail : Fld := ⟨A.jrnInten, 14, 1⟩
/-- `JRN.INTEN.WEAROVER`. -/
def F.jrnIntenWearover : Fld := ⟨A.jrnInten, 13, 1⟩
/-- `JRN.INTEN.DEGRADED`. -/
def F.jrnIntenDegraded : Fld := ⟨A.jrnInten, 12, 1⟩
/-- `JRN.INTEN.DIVERGED`. -/
def F.jrnIntenDiverged : Fld := ⟨A.jrnInten, 11, 1⟩
/-- `JRN.INTEN.RESULT`. -/
def F.jrnIntenResult : Fld := ⟨A.jrnInten, 10, 1⟩
/-- `JRN.INTEN.EXPIRED`. -/
def F.jrnIntenExpired : Fld := ⟨A.jrnInten, 9, 1⟩
/-- `JRN.INTEN.STALE`. -/
def F.jrnIntenStale : Fld := ⟨A.jrnInten, 8, 1⟩
/-- `JRN.INTEN.FLOWDONE`. -/
def F.jrnIntenFlowdone : Fld := ⟨A.jrnInten, 6, 1⟩
/-- `JRN.INTEN.RELDONE`. -/
def F.jrnIntenReldone : Fld := ⟨A.jrnInten, 5, 1⟩
/-- `JRN.INTEN.SUBDONE`. -/
def F.jrnIntenSubdone : Fld := ⟨A.jrnInten, 4, 1⟩
/-- `JRN.INTEN.RNE`. -/
def F.jrnIntenRne : Fld := ⟨A.jrnInten, 0, 4⟩

/-- `JRN.DRINGBASEr`, R358. -/
def A.jrnDringbase (i : Nat) : Nat := 0x40230100 + 0x10 * i
/-- `JRN.DRINGBASEr.BASE`. -/
def F.jrnDringbaseBase (i : Nat) : Fld := ⟨A.jrnDringbase i, 6, 26⟩

/-- `JRN.DRINGSIZEr`, R358. -/
def A.jrnDringsize (i : Nat) : Nat := 0x40230104 + 0x10 * i
/-- `JRN.DRINGSIZEr.SIZE`. -/
def F.jrnDringsizeSize (i : Nat) : Fld := ⟨A.jrnDringsize i, 0, 3⟩

/-- `JRN.DRINGWRr`, R358. -/
def A.jrnDringwr (i : Nat) : Nat := 0x40230108 + 0x10 * i
/-- `JRN.DRINGWRr.INDEX`. -/
def F.jrnDringwrIndex (i : Nat) : Fld := ⟨A.jrnDringwr i, 0, 12⟩

/-- `JRN.DRINGRDr`, R358. -/
def A.jrnDringrd (i : Nat) : Nat := 0x4023010C + 0x10 * i
/-- `JRN.DRINGRDr.INDEX`. -/
def F.jrnDringrdIndex (i : Nat) : Fld := ⟨A.jrnDringrd i, 0, 12⟩

/-- `JRN.CTR`, R358. -/
def A.jrnCtr (i : Nat) : Nat := 0x40230180 + 0x4 * i

/-- `JRN.ROUTEk0`, R358. -/
def A.jrnRoute0 (i : Nat) : Nat := 0x40230200 + 0x8 * i
/-- `JRN.ROUTEk0.MASK`. -/
def F.jrnRoute0Mask (i : Nat) : Fld := ⟨A.jrnRoute0 i, 16, 16⟩
/-- `JRN.ROUTEk0.VALUE`. -/
def F.jrnRoute0Value (i : Nat) : Fld := ⟨A.jrnRoute0 i, 0, 16⟩

/-- `JRN.ROUTEk1`, R358. -/
def A.jrnRoute1 (i : Nat) : Nat := 0x40230204 + 0x8 * i
/-- `JRN.ROUTEk1.EN`. -/
def F.jrnRoute1En (i : Nat) : Fld := ⟨A.jrnRoute1 i, 31, 1⟩
/-- `JRN.ROUTEk1.LOCAL`. -/
def F.jrnRoute1Local (i : Nat) : Fld := ⟨A.jrnRoute1 i, 30, 1⟩
/-- `JRN.ROUTEk1.TARGET`. -/
def F.jrnRoute1Target (i : Nat) : Fld := ⟨A.jrnRoute1 i, 16, 3⟩
/-- `JRN.ROUTEk1.NEXTHOP`. -/
def F.jrnRoute1Nexthop (i : Nat) : Fld := ⟨A.jrnRoute1 i, 0, 16⟩

/-- `HSL.STAT`, R388. -/
def A.hslStat : Nat := 0x40300000
/-- `HSL.STAT.OPEN`. -/
def F.hslStatOpen : Fld := ⟨A.hslStat, 16, 15⟩
/-- `HSL.STAT.TUNOPEN`. -/
def F.hslStatTunopen : Fld := ⟨A.hslStat, 7, 1⟩
/-- `HSL.STAT.TUNUP`. -/
def F.hslStatTunup : Fld := ⟨A.hslStat, 6, 1⟩
/-- `HSL.STAT.WAKE`. -/
def F.hslStatWake : Fld := ⟨A.hslStat, 5, 1⟩
/-- `HSL.STAT.READY`. -/
def F.hslStatReady : Fld := ⟨A.hslStat, 4, 1⟩
/-- `HSL.STAT.SLOW`. -/
def F.hslStatSlow : Fld := ⟨A.hslStat, 2, 1⟩
/-- `HSL.STAT.VARIANT`. -/
def F.hslStatVariant : Fld := ⟨A.hslStat, 0, 2⟩

/-- `HSL.CFG`, R388. -/
def A.hslCfg : Nat := 0x40300004
/-- `HSL.CFG.LOCK`. -/
def F.hslCfgLock : Fld := ⟨A.hslCfg, 31, 1⟩
/-- `HSL.CFG.NWIN`. -/
def F.hslCfgNwin : Fld := ⟨A.hslCfg, 16, 4⟩
/-- `HSL.CFG.NSINK`. -/
def F.hslCfgNsink : Fld := ⟨A.hslCfg, 13, 1⟩
/-- `HSL.CFG.RATE`. -/
def F.hslCfgRate : Fld := ⟨A.hslCfg, 8, 4⟩
/-- `HSL.CFG.VARIANT`. -/
def F.hslCfgVariant : Fld := ⟨A.hslCfg, 0, 2⟩

/-- `HSL.UARTCFG`, R388. -/
def A.hslUartcfg : Nat := 0x40300008
/-- `HSL.UARTCFG.FLOW`. -/
def F.hslUartcfgFlow : Fld := ⟨A.hslUartcfg, 31, 1⟩
/-- `HSL.UARTCFG.RATE`. -/
def F.hslUartcfgRate : Fld := ⟨A.hslUartcfg, 0, 17⟩

/-- `HSL.TUNCFG`, R388. -/
def A.hslTuncfg : Nat := 0x4030000C
/-- `HSL.TUNCFG.EN`. -/
def F.hslTuncfgEn : Fld := ⟨A.hslTuncfg, 31, 1⟩
/-- `HSL.TUNCFG.HANDLE`. -/
def F.hslTuncfgHandle : Fld := ⟨A.hslTuncfg, 0, 16⟩

/-- `HSL.TIMING`, R388. -/
def A.hslTiming : Nat := 0x40300010
/-- `HSL.TIMING.NRTO`. -/
def F.hslTimingNrto : Fld := ⟨A.hslTiming, 16, 16⟩
/-- `HSL.TIMING.TNRTO`. -/
def F.hslTimingTnrto : Fld := ⟨A.hslTiming, 0, 16⟩

/-- `HSL.NQSTAT`, R388. -/
def A.hslNqstat : Nat := 0x40300014
/-- `HSL.NQSTAT.NSEQ`. -/
def F.hslNqstatNseq : Fld := ⟨A.hslNqstat, 16, 8⟩
/-- `HSL.NQSTAT.SUMMARY`. -/
def F.hslNqstatSummary : Fld := ⟨A.hslNqstat, 15, 1⟩
/-- `HSL.NQSTAT.INFLIGHT`. -/
def F.hslNqstatInflight : Fld := ⟨A.hslNqstat, 11, 4⟩
/-- `HSL.NQSTAT.QUEUED`. -/
def F.hslNqstatQueued : Fld := ⟨A.hslNqstat, 0, 7⟩

/-- `HSL.NLOSTCNT`, R388. -/
def A.hslNlostcnt : Nat := 0x40300018
/-- `HSL.NLOSTCNT.COUNT`. -/
def F.hslNlostcntCount : Fld := ⟨A.hslNlostcnt, 0, 32⟩

/-- `HSL.INTSTAT`, R388. -/
def A.hslIntstat : Nat := 0x40300020
/-- `HSL.INTSTAT.NLOST`. -/
def F.hslIntstatNlost : Fld := ⟨A.hslIntstat, 5, 1⟩
/-- `HSL.INTSTAT.RXOVF`. -/
def F.hslIntstatRxovf : Fld := ⟨A.hslIntstat, 4, 1⟩
/-- `HSL.INTSTAT.BADFRAME`. -/
def F.hslIntstatBadframe : Fld := ⟨A.hslIntstat, 3, 1⟩
/-- `HSL.INTSTAT.CRCERR`. -/
def F.hslIntstatCrcerr : Fld := ⟨A.hslIntstat, 2, 1⟩
/-- `HSL.INTSTAT.SYNC`. -/
def F.hslIntstatSync : Fld := ⟨A.hslIntstat, 1, 1⟩
/-- `HSL.INTSTAT.WAKE`. -/
def F.hslIntstatWake : Fld := ⟨A.hslIntstat, 0, 1⟩

/-- `HSL.INTEN`, R388. -/
def A.hslInten : Nat := 0x40300024
/-- `HSL.INTEN.NLOST`. -/
def F.hslIntenNlost : Fld := ⟨A.hslInten, 5, 1⟩
/-- `HSL.INTEN.RXOVF`. -/
def F.hslIntenRxovf : Fld := ⟨A.hslInten, 4, 1⟩
/-- `HSL.INTEN.BADFRAME`. -/
def F.hslIntenBadframe : Fld := ⟨A.hslInten, 3, 1⟩
/-- `HSL.INTEN.CRCERR`. -/
def F.hslIntenCrcerr : Fld := ⟨A.hslInten, 2, 1⟩
/-- `HSL.INTEN.SYNC`. -/
def F.hslIntenSync : Fld := ⟨A.hslInten, 1, 1⟩
/-- `HSL.INTEN.WAKE`. -/
def F.hslIntenWake : Fld := ⟨A.hslInten, 0, 1⟩

/-- `HSL.CTR`, R388. -/
def A.hslCtr (i : Nat) : Nat := 0x40300040 + 0x4 * i

/-- `FLC.STAT`, R418. -/
def A.flcStat : Nat := 0x40400000
/-- `FLC.STAT.OWNER1`. -/
def F.flcStatOwner1 : Fld := ⟨A.flcStat, 10, 2⟩
/-- `FLC.STAT.OWNER0`. -/
def F.flcStatOwner0 : Fld := ⟨A.flcStat, 8, 2⟩
/-- `FLC.STAT.SUSP1`. -/
def F.flcStatSusp1 : Fld := ⟨A.flcStat, 5, 1⟩
/-- `FLC.STAT.SUSP0`. -/
def F.flcStatSusp0 : Fld := ⟨A.flcStat, 4, 1⟩
/-- `FLC.STAT.BUSY1`. -/
def F.flcStatBusy1 : Fld := ⟨A.flcStat, 1, 1⟩
/-- `FLC.STAT.BUSY0`. -/
def F.flcStatBusy0 : Fld := ⟨A.flcStat, 0, 1⟩

/-- `FLC.ECCCFG`, R418. -/
def A.flcEcccfg : Nat := 0x40400004
/-- `FLC.ECCCFG.RETRIES`. -/
def F.flcEcccfgRetries : Fld := ⟨A.flcEcccfg, 8, 4⟩
/-- `FLC.ECCCFG.REFTHR`. -/
def F.flcEcccfgRefthr : Fld := ⟨A.flcEcccfg, 0, 3⟩

/-- `FLC.SCRUBCFG`, R418. -/
def A.flcScrubcfg : Nat := 0x40400008
/-- `FLC.SCRUBCFG.EN`. -/
def F.flcScrubcfgEn : Fld := ⟨A.flcScrubcfg, 31, 1⟩
/-- `FLC.SCRUBCFG.PERIOD`. -/
def F.flcScrubcfgPeriod : Fld := ⟨A.flcScrubcfg, 8, 8⟩

/-- `FLC.SCRUBSTAT`, R418. -/
def A.flcScrubstat : Nat := 0x4040000C
/-- `FLC.SCRUBSTAT.PENDING`. -/
def F.flcScrubstatPending : Fld := ⟨A.flcScrubstat, 16, 7⟩
/-- `FLC.SCRUBSTAT.NEXT`. -/
def F.flcScrubstatNext : Fld := ⟨A.flcScrubstat, 0, 13⟩

/-- `FLC.FAULTSITE0`, R418. -/
def A.flcFaultsite0 : Nat := 0x40400010

/-- `FLC.FAULTSITE1`, R418. -/
def A.flcFaultsite1 : Nat := 0x40400014

/-- `FLC.RDP`, R418. -/
def A.flcRdp : Nat := 0x40400018
/-- `FLC.RDP.LEVEL`. -/
def F.flcRdpLevel : Fld := ⟨A.flcRdp, 0, 2⟩

/-- `FLC.NVSTAT`, R418. -/
def A.flcNvstat : Nat := 0x4040001C
/-- `FLC.NVSTAT.RLRSET`. -/
def F.flcNvstatRlrset : Fld := ⟨A.flcNvstat, 24, 1⟩
/-- `FLC.NVSTAT.RLRSRC`. -/
def F.flcNvstatRlrsrc : Fld := ⟨A.flcNvstat, 19, 3⟩
/-- `FLC.NVSTAT.RLRVALID`. -/
def F.flcNvstatRlrvalid : Fld := ⟨A.flcNvstat, 16, 3⟩
/-- `FLC.NVSTAT.DFISRC`. -/
def F.flcNvstatDfisrc : Fld := ⟨A.flcNvstat, 11, 3⟩
/-- `FLC.NVSTAT.DFIVALID`. -/
def F.flcNvstatDfivalid : Fld := ⟨A.flcNvstat, 8, 3⟩

/-- `FLC.INTSTAT`, R418. -/
def A.flcIntstat : Nat := 0x40400020
/-- `FLC.INTSTAT.XOVIOL`. -/
def F.flcIntstatXoviol : Fld := ⟨A.flcIntstat, 5, 1⟩
/-- `FLC.INTSTAT.UNCORR`. -/
def F.flcIntstatUncorr : Fld := ⟨A.flcIntstat, 4, 1⟩
/-- `FLC.INTSTAT.REFRESH`. -/
def F.flcIntstatRefresh : Fld := ⟨A.flcIntstat, 3, 1⟩
/-- `FLC.INTSTAT.CORR`. -/
def F.flcIntstatCorr : Fld := ⟨A.flcIntstat, 2, 1⟩
/-- `FLC.INTSTAT.OPFAIL`. -/
def F.flcIntstatOpfail : Fld := ⟨A.flcIntstat, 1, 1⟩
/-- `FLC.INTSTAT.OPDONE`. -/
def F.flcIntstatOpdone : Fld := ⟨A.flcIntstat, 0, 1⟩

/-- `FLC.INTEN`, R418. -/
def A.flcInten : Nat := 0x40400024
/-- `FLC.INTEN.XOVIOL`. -/
def F.flcIntenXoviol : Fld := ⟨A.flcInten, 5, 1⟩
/-- `FLC.INTEN.UNCORR`. -/
def F.flcIntenUncorr : Fld := ⟨A.flcInten, 4, 1⟩
/-- `FLC.INTEN.REFRESH`. -/
def F.flcIntenRefresh : Fld := ⟨A.flcInten, 3, 1⟩
/-- `FLC.INTEN.CORR`. -/
def F.flcIntenCorr : Fld := ⟨A.flcInten, 2, 1⟩
/-- `FLC.INTEN.OPFAIL`. -/
def F.flcIntenOpfail : Fld := ⟨A.flcInten, 1, 1⟩
/-- `FLC.INTEN.OPDONE`. -/
def F.flcIntenOpdone : Fld := ⟨A.flcInten, 0, 1⟩

/-- `FLC.OTPADDR`, R418. -/
def A.flcOtpaddr : Nat := 0x40400030
/-- `FLC.OTPADDR.WORD`. -/
def F.flcOtpaddrWord : Fld := ⟨A.flcOtpaddr, 0, 10⟩

/-- `FLC.OTPDATA0`, R418. -/
def A.flcOtpdata0 : Nat := 0x40400034

/-- `FLC.OTPDATA1`, R418. -/
def A.flcOtpdata1 : Nat := 0x40400038

/-- `FLC.XO`, R418. -/
def A.flcXo (i : Nat) : Nat := 0x40400040 + 0x4 * i
/-- `FLC.XO.EN`. -/
def F.flcXoEn (i : Nat) : Fld := ⟨A.flcXo i, 31, 1⟩
/-- `FLC.XO.LAST`. -/
def F.flcXoLast (i : Nat) : Fld := ⟨A.flcXo i, 16, 13⟩
/-- `FLC.XO.FIRST`. -/
def F.flcXoFirst (i : Nat) : Fld := ⟨A.flcXo i, 0, 13⟩

/-- `FLC.XOLOCK`, R418. -/
def A.flcXolock : Nat := 0x40400080
/-- `FLC.XOLOCK.LOCK`. -/
def F.flcXolockLock : Fld := ⟨A.flcXolock, 31, 1⟩

/-- `FLC.CTR`, R418. -/
def A.flcCtr (i : Nat) : Nat := 0x40400100 + 0x4 * i

/-- `FLC.OPCTL`, R418. -/
def A.flcOpctl : Nat := 0x40400200
/-- `FLC.OPCTL.GO`. -/
def F.flcOpctlGo : Fld := ⟨A.flcOpctl, 31, 1⟩
/-- `FLC.OPCTL.OP`. -/
def F.flcOpctlOp : Fld := ⟨A.flcOpctl, 0, 4⟩

/-- `FLC.OPADDR`, R418. -/
def A.flcOpaddr : Nat := 0x40400204
/-- `FLC.OPADDR.ADDR`. -/
def F.flcOpaddrAddr : Fld := ⟨A.flcOpaddr, 0, 32⟩

/-- `FLC.OPSRC`, R418. -/
def A.flcOpsrc : Nat := 0x40400208
/-- `FLC.OPSRC.SRC`. -/
def F.flcOpsrcSrc : Fld := ⟨A.flcOpsrc, 3, 29⟩

/-- `FLC.OPSTAT`, R418. -/
def A.flcOpstat : Nat := 0x4040020C
/-- `FLC.OPSTAT.RESULT`. -/
def F.flcOpstatResult : Fld := ⟨A.flcOpstat, 16, 16⟩
/-- `FLC.OPSTAT.BUSY`. -/
def F.flcOpstatBusy : Fld := ⟨A.flcOpstat, 0, 1⟩

/-- `CRY.STAT`, R464. -/
def A.cryStat : Nat := 0x40500000
/-- `CRY.STAT.PKACT`. -/
def F.cryStatPkact : Fld := ⟨A.cryStat, 19, 1⟩
/-- `CRY.STAT.PKCTX`. -/
def F.cryStatPkctx : Fld := ⟨A.cryStat, 16, 3⟩
/-- `CRY.STAT.SYMACT`. -/
def F.cryStatSymact : Fld := ⟨A.cryStat, 11, 1⟩
/-- `CRY.STAT.SYMCTX`. -/
def F.cryStatSymctx : Fld := ⟨A.cryStat, 8, 3⟩
/-- `CRY.STAT.BUSY`. -/
def F.cryStatBusy : Fld := ⟨A.cryStat, 0, 8⟩

/-- `CRY.INTSTAT`, R464. -/
def A.cryIntstat : Nat := 0x40500004
/-- `CRY.INTSTAT.INLRX`. -/
def F.cryIntstatInlrx : Fld := ⟨A.cryIntstat, 9, 1⟩
/-- `CRY.INTSTAT.TAMPER`. -/
def F.cryIntstatTamper : Fld := ⟨A.cryIntstat, 8, 1⟩
/-- `CRY.INTSTAT.DONE`. -/
def F.cryIntstatDone : Fld := ⟨A.cryIntstat, 0, 8⟩

/-- `CRY.INTEN`, R464. -/
def A.cryInten : Nat := 0x40500008
/-- `CRY.INTEN.INLRX`. -/
def F.cryIntenInlrx : Fld := ⟨A.cryInten, 9, 1⟩
/-- `CRY.INTEN.TAMPER`. -/
def F.cryIntenTamper : Fld := ⟨A.cryInten, 8, 1⟩
/-- `CRY.INTEN.DONE`. -/
def F.cryIntenDone : Fld := ⟨A.cryInten, 0, 8⟩

/-- `CRY.CTLc`, R464. -/
def A.cryCtl (i : Nat) : Nat := 0x40500100 + 0x20 * i
/-- `CRY.CTLc.START`. -/
def F.cryCtlStart (i : Nat) : Fld := ⟨A.cryCtl i, 31, 1⟩
/-- `CRY.CTLc.ABORT`. -/
def F.cryCtlAbort (i : Nat) : Fld := ⟨A.cryCtl i, 30, 1⟩
/-- `CRY.CTLc.ALG`. -/
def F.cryCtlAlg (i : Nat) : Fld := ⟨A.cryCtl i, 16, 8⟩
/-- `CRY.CTLc.DIR`. -/
def F.cryCtlDir (i : Nat) : Fld := ⟨A.cryCtl i, 8, 1⟩

/-- `CRY.KEYSELc`, R464. -/
def A.cryKeysel (i : Nat) : Nat := 0x40500104 + 0x20 * i
/-- `CRY.KEYSELc.DSTSLOT`. -/
def F.cryKeyselDstslot (i : Nat) : Fld := ⟨A.cryKeysel i, 8, 5⟩
/-- `CRY.KEYSELc.SLOT`. -/
def F.cryKeyselSlot (i : Nat) : Fld := ⟨A.cryKeysel i, 0, 5⟩

/-- `CRY.SRCc`, R464. -/
def A.crySrc (i : Nat) : Nat := 0x40500108 + 0x20 * i
/-- `CRY.SRCc.ADDR`. -/
def F.crySrcAddr (i : Nat) : Fld := ⟨A.crySrc i, 0, 32⟩

/-- `CRY.DSTc`, R464. -/
def A.cryDst (i : Nat) : Nat := 0x4050010C + 0x20 * i
/-- `CRY.DSTc.ADDR`. -/
def F.cryDstAddr (i : Nat) : Fld := ⟨A.cryDst i, 0, 32⟩

/-- `CRY.LENc`, R464. -/
def A.cryLen (i : Nat) : Nat := 0x40500110 + 0x20 * i
/-- `CRY.LENc.LEN`. -/
def F.cryLenLen (i : Nat) : Fld := ⟨A.cryLen i, 0, 24⟩

/-- `CRY.PARAMc`, R464. -/
def A.cryParam (i : Nat) : Nat := 0x40500114 + 0x20 * i
/-- `CRY.PARAMc.ADDR`. -/
def F.cryParamAddr (i : Nat) : Fld := ⟨A.cryParam i, 0, 32⟩

/-- `CRY.RESc`, R464. -/
def A.cryRes (i : Nat) : Nat := 0x40500118 + 0x20 * i
/-- `CRY.RESc.RESULT`. -/
def F.cryResResult (i : Nat) : Fld := ⟨A.cryRes i, 16, 16⟩
/-- `CRY.RESc.BUSY`. -/
def F.cryResBusy (i : Nat) : Fld := ⟨A.cryRes i, 15, 1⟩
/-- `CRY.RESc.CHUNKS`. -/
def F.cryResChunks (i : Nat) : Fld := ⟨A.cryRes i, 0, 12⟩

/-- `CRY.CTR`, R464. -/
def A.cryCtr (i : Nat) : Nat := 0x40500300 + 0x4 * i

/-- `RNG.STAT`, R465. -/
def A.rngStat : Nat := 0x40510000
/-- `RNG.STAT.FAILS`. -/
def F.rngStatFails : Fld := ⟨A.rngStat, 16, 8⟩
/-- `RNG.STAT.TEST`. -/
def F.rngStatTest : Fld := ⟨A.rngStat, 8, 2⟩
/-- `RNG.STAT.STATE`. -/
def F.rngStatState : Fld := ⟨A.rngStat, 0, 3⟩

/-- `RNG.CTL`, R465. -/
def A.rngCtl : Nat := 0x40510004
/-- `RNG.CTL.RESTART`. -/
def F.rngCtlRestart : Fld := ⟨A.rngCtl, 1, 1⟩
/-- `RNG.CTL.AUTORST`. -/
def F.rngCtlAutorst : Fld := ⟨A.rngCtl, 0, 1⟩

/-- `RNG.INTSTAT`, R465. -/
def A.rngIntstat : Nat := 0x40510008
/-- `RNG.INTSTAT.REQDONE`. -/
def F.rngIntstatReqdone : Fld := ⟨A.rngIntstat, 2, 4⟩
/-- `RNG.INTSTAT.RECOVER`. -/
def F.rngIntstatRecover : Fld := ⟨A.rngIntstat, 1, 1⟩
/-- `RNG.INTSTAT.FAIL`. -/
def F.rngIntstatFail : Fld := ⟨A.rngIntstat, 0, 1⟩

/-- `RNG.INTEN`, R465. -/
def A.rngInten : Nat := 0x4051000C
/-- `RNG.INTEN.REQDONE`. -/
def F.rngIntenReqdone : Fld := ⟨A.rngInten, 2, 4⟩
/-- `RNG.INTEN.RECOVER`. -/
def F.rngIntenRecover : Fld := ⟨A.rngInten, 1, 1⟩
/-- `RNG.INTEN.FAIL`. -/
def F.rngIntenFail : Fld := ⟨A.rngInten, 0, 1⟩

/-- `RNG.REQADDRn`, R465. -/
def A.rngReqaddr (i : Nat) : Nat := 0x40510100 + 0x10 * i
/-- `RNG.REQADDRn.ADDR`. -/
def F.rngReqaddrAddr (i : Nat) : Fld := ⟨A.rngReqaddr i, 0, 32⟩

/-- `RNG.REQLENn`, R465. -/
def A.rngReqlen (i : Nat) : Nat := 0x40510104 + 0x10 * i
/-- `RNG.REQLENn.LEN`. -/
def F.rngReqlenLen (i : Nat) : Fld := ⟨A.rngReqlen i, 0, 13⟩

/-- `RNG.REQSTATn`, R465. -/
def A.rngReqstat (i : Nat) : Nat := 0x40510108 + 0x10 * i
/-- `RNG.REQSTATn.RESULT`. -/
def F.rngReqstatResult (i : Nat) : Fld := ⟨A.rngReqstat i, 16, 16⟩
/-- `RNG.REQSTATn.BUSY`. -/
def F.rngReqstatBusy (i : Nat) : Fld := ⟨A.rngReqstat i, 0, 1⟩

/-- `RNG.CTR`, R465. -/
def A.rngCtr (i : Nat) : Nat := 0x40510200 + 0x4 * i

/-- `TMP.STAT`, R466. -/
def A.tmpStat : Nat := 0x40520000
/-- `TMP.STAT.STOREPEND`. -/
def F.tmpStatStorepend : Fld := ⟨A.tmpStat, 17, 1⟩
/-- `TMP.STAT.HALTED`. -/
def F.tmpStatHalted : Fld := ⟨A.tmpStat, 16, 1⟩
/-- `TMP.STAT.ALARM`. -/
def F.tmpStatAlarm : Fld := ⟨A.tmpStat, 0, 11⟩

/-- `TMP.LATCH`, R466. -/
def A.tmpLatch : Nat := 0x40520004
/-- `TMP.LATCH.LATCH`. -/
def F.tmpLatchLatch : Fld := ⟨A.tmpLatch, 0, 11⟩

/-- `TMP.CLASS`, R466. -/
def A.tmpClass : Nat := 0x40520008
/-- `TMP.CLASS.CLASS`. -/
def F.tmpClassClass : Fld := ⟨A.tmpClass, 0, 22⟩

/-- `TMP.FLOOR`, R466. -/
def A.tmpFloor : Nat := 0x4052000C
/-- `TMP.FLOOR.CLASS`. -/
def F.tmpFloorClass : Fld := ⟨A.tmpFloor, 0, 22⟩

/-- `TMP.INCFG`, R466. -/
def A.tmpIncfg : Nat := 0x40520010
/-- `TMP.INCFG.MODE`. -/
def F.tmpIncfgMode : Fld := ⟨A.tmpIncfg, 0, 16⟩

/-- `TMP.DETCFG`, R466. -/
def A.tmpDetcfg : Nat := 0x40520014
/-- `TMP.DETCFG.EN`. -/
def F.tmpDetcfgEn : Fld := ⟨A.tmpDetcfg, 0, 3⟩

/-- `TMP.CTL`, R466. -/
def A.tmpCtl : Nat := 0x40520018
/-- `TMP.CTL.LOCK`. -/
def F.tmpCtlLock : Fld := ⟨A.tmpCtl, 31, 1⟩
/-- `TMP.CTL.FILT`. -/
def F.tmpCtlFilt : Fld := ⟨A.tmpCtl, 8, 8⟩
/-- `TMP.CTL.WIPEEN`. -/
def F.tmpCtlWipeen : Fld := ⟨A.tmpCtl, 4, 1⟩
/-- `TMP.CTL.WIPEMAC`. -/
def F.tmpCtlWipemac : Fld := ⟨A.tmpCtl, 0, 4⟩

/-- `TMP.EVLOG`, R466. -/
def A.tmpEvlog : Nat := 0x4052001C
/-- `TMP.EVLOG.COUNT`. -/
def F.tmpEvlogCount : Fld := ⟨A.tmpEvlog, 16, 16⟩
/-- `TMP.EVLOG.LASTCLASS`. -/
def F.tmpEvlogLastclass : Fld := ⟨A.tmpEvlog, 8, 2⟩
/-- `TMP.EVLOG.LASTSRC`. -/
def F.tmpEvlogLastsrc : Fld := ⟨A.tmpEvlog, 0, 4⟩

/-- `TMP.INTSTAT`, R466. -/
def A.tmpIntstat : Nat := 0x40520020
/-- `TMP.INTSTAT.SRC`. -/
def F.tmpIntstatSrc : Fld := ⟨A.tmpIntstat, 0, 11⟩

/-- `TMP.INTEN`, R466. -/
def A.tmpInten : Nat := 0x40520024
/-- `TMP.INTEN.SRC`. -/
def F.tmpIntenSrc : Fld := ⟨A.tmpInten, 0, 11⟩

/-- `KEY.SEAL`, R467. -/
def A.keySeal : Nat := 0x40530000
/-- `KEY.SEAL.SEALED`. -/
def F.keySealSealed : Fld := ⟨A.keySeal, 0, 1⟩

/-- `KEY.VALID`, R467. -/
def A.keyValid : Nat := 0x40530004

/-- `KEY.LOADCTL`, R467. -/
def A.keyLoadctl : Nat := 0x40530008
/-- `KEY.LOADCTL.GO`. -/
def F.keyLoadctlGo : Fld := ⟨A.keyLoadctl, 31, 1⟩
/-- `KEY.LOADCTL.SLOT`. -/
def F.keyLoadctlSlot : Fld := ⟨A.keyLoadctl, 16, 5⟩
/-- `KEY.LOADCTL.USAGE`. -/
def F.keyLoadctlUsage : Fld := ⟨A.keyLoadctl, 8, 6⟩
/-- `KEY.LOADCTL.TYPE`. -/
def F.keyLoadctlType : Fld := ⟨A.keyLoadctl, 6, 2⟩
/-- `KEY.LOADCTL.LEN`. -/
def F.keyLoadctlLen : Fld := ⟨A.keyLoadctl, 0, 6⟩

/-- `KEY.LOADSTAT`, R467. -/
def A.keyLoadstat : Nat := 0x4053000C
/-- `KEY.LOADSTAT.RESULT`. -/
def F.keyLoadstatResult : Fld := ⟨A.keyLoadstat, 16, 16⟩

/-- `KEY.LOADDATA`, R467. -/
def A.keyLoaddata (i : Nat) : Nat := 0x40530010 + 0x4 * i

/-- `KEY.CLEAR`, R467. -/
def A.keyClear : Nat := 0x40530030

/-- `KEY.TUNKEY`, R467. -/
def A.keyTunkey : Nat := 0x40530034
/-- `KEY.TUNKEY.EN`. -/
def F.keyTunkeyEn : Fld := ⟨A.keyTunkey, 31, 1⟩
/-- `KEY.TUNKEY.SLOT`. -/
def F.keyTunkeySlot : Fld := ⟨A.keyTunkey, 0, 4⟩

/-- `KEY.TUNRXFC`, R467. -/
def A.keyTunrxfc : Nat := 0x40530038

/-- `KEY.IDPUB`, R467. -/
def A.keyIdpub (i : Nat) : Nat := 0x40530040 + 0x4 * i

/-- `KEY.ATTR`, R467. -/
def A.keyAttr (i : Nat) : Nat := 0x40530080 + 0x4 * i
/-- `KEY.ATTR.GO`. -/
def F.keyAttrGo (i : Nat) : Fld := ⟨A.keyAttr i, 31, 1⟩
/-- `KEY.ATTR.PERSIST`. -/
def F.keyAttrPersist (i : Nat) : Fld := ⟨A.keyAttr i, 30, 1⟩
/-- `KEY.ATTR.USAGE`. -/
def F.keyAttrUsage (i : Nat) : Fld := ⟨A.keyAttr i, 8, 6⟩
/-- `KEY.ATTR.TYPE`. -/
def F.keyAttrType (i : Nat) : Fld := ⟨A.keyAttr i, 6, 2⟩
/-- `KEY.ATTR.LEN`. -/
def F.keyAttrLen (i : Nat) : Fld := ⟨A.keyAttr i, 0, 6⟩

/-- `KEY.TXFC`, R467. -/
def A.keyTxfc (i : Nat) : Nat := 0x40530100 + 0x4 * i

/-- `KEY.INTSTAT`, R467. -/
def A.keyIntstat : Nat := 0x40530140
/-- `KEY.INTSTAT.STOREBAD`. -/
def F.keyIntstatStorebad : Fld := ⟨A.keyIntstat, 3, 1⟩
/-- `KEY.INTSTAT.WIPED`. -/
def F.keyIntstatWiped : Fld := ⟨A.keyIntstat, 2, 1⟩
/-- `KEY.INTSTAT.LOADFAIL`. -/
def F.keyIntstatLoadfail : Fld := ⟨A.keyIntstat, 1, 1⟩
/-- `KEY.INTSTAT.FCLOW`. -/
def F.keyIntstatFclow : Fld := ⟨A.keyIntstat, 0, 1⟩

/-- `KEY.INTEN`, R467. -/
def A.keyInten : Nat := 0x40530144
/-- `KEY.INTEN.STOREBAD`. -/
def F.keyIntenStorebad : Fld := ⟨A.keyInten, 3, 1⟩
/-- `KEY.INTEN.WIPED`. -/
def F.keyIntenWiped : Fld := ⟨A.keyInten, 2, 1⟩
/-- `KEY.INTEN.LOADFAIL`. -/
def F.keyIntenLoadfail : Fld := ⟨A.keyInten, 1, 1⟩
/-- `KEY.INTEN.FCLOW`. -/
def F.keyIntenFclow : Fld := ⟨A.keyInten, 0, 1⟩

/-- `ICU.STAT`, R518. -/
def A.icuStat (k : Nat) : Nat := icuBank k + 0x0
/-- `ICU.STAT.DEPTH`. -/
def F.icuStatDepth (k : Nat) : Fld := ⟨A.icuStat k, 8, 5⟩
/-- `ICU.STAT.EMPTY`. -/
def F.icuStatEmpty (k : Nat) : Fld := ⟨A.icuStat k, 7, 1⟩
/-- `ICU.STAT.RUNPRIO`. -/
def F.icuStatRunprio (k : Nat) : Fld := ⟨A.icuStat k, 0, 4⟩

/-- `ICU.EOI`, R518. -/
def A.icuEoi (k : Nat) : Nat := icuBank k + 0x4
/-- `ICU.EOI.SOURCE`. -/
def F.icuEoiSource (k : Nat) : Fld := ⟨A.icuEoi k, 0, 11⟩

/-- `ICU.PMR`, R518. -/
def A.icuPmr (k : Nat) : Nat := icuBank k + 0x8
/-- `ICU.PMR.MINPRIO`. -/
def F.icuPmrMinprio (k : Nat) : Fld := ⟨A.icuPmr k, 0, 4⟩

/-- `ICU.DOORBELL`, R518. -/
def A.icuDoorbell (k : Nat) : Nat := icuBank k + 0xC
/-- `ICU.DOORBELL.BELL`. -/
def F.icuDoorbellBell (k : Nat) : Fld := ⟨A.icuDoorbell k, 0, 5⟩

/-- `ICU.RINGBASE`, R518. -/
def A.icuRingbase (k : Nat) : Nat := icuBank k + 0x10
/-- `ICU.RINGBASE.BASE`. -/
def F.icuRingbaseBase (k : Nat) : Fld := ⟨A.icuRingbase k, 6, 26⟩

/-- `ICU.RINGCFG`, R518. -/
def A.icuRingcfg (k : Nat) : Nat := icuBank k + 0x14
/-- `ICU.RINGCFG.EN`. -/
def F.icuRingcfgEn (k : Nat) : Fld := ⟨A.icuRingcfg k, 31, 1⟩
/-- `ICU.RINGCFG.SIZE`. -/
def F.icuRingcfgSize (k : Nat) : Fld := ⟨A.icuRingcfg k, 0, 3⟩

/-- `ICU.RINGWR`, R518. -/
def A.icuRingwr (k : Nat) : Nat := icuBank k + 0x18
/-- `ICU.RINGWR.INDEX`. -/
def F.icuRingwrIndex (k : Nat) : Fld := ⟨A.icuRingwr k, 0, 12⟩

/-- `ICU.RINGRD`, R518. -/
def A.icuRingrd (k : Nat) : Nat := icuBank k + 0x1C
/-- `ICU.RINGRD.INDEX`. -/
def F.icuRingrdIndex (k : Nat) : Fld := ⟨A.icuRingrd k, 0, 12⟩

/-- `ICU.PRIVEN0`, R518. -/
def A.icuPriven0 (k : Nat) : Nat := icuBank k + 0x20

/-- `ICU.PRIVEN1`, R518. -/
def A.icuPriven1 (k : Nat) : Nat := icuBank k + 0x24

/-- `ICU.PRIVPEND0`, R518. -/
def A.icuPrivpend0 (k : Nat) : Nat := icuBank k + 0x28

/-- `ICU.PRIVPEND1`, R518. -/
def A.icuPrivpend1 (k : Nat) : Nat := icuBank k + 0x2C

/-- `ICU.PRIVACT0`, R518. -/
def A.icuPrivact0 (k : Nat) : Nat := icuBank k + 0x30

/-- `ICU.PRIVACT1`, R518. -/
def A.icuPrivact1 (k : Nat) : Nat := icuBank k + 0x34

/-- `ICU.INTSTAT`, R518. -/
def A.icuIntstat (k : Nat) : Nat := icuBank k + 0x40
/-- `ICU.INTSTAT.RINGFULL`. -/
def F.icuIntstatRingfull (k : Nat) : Fld := ⟨A.icuIntstat k, 2, 1⟩
/-- `ICU.INTSTAT.RINGBAD`. -/
def F.icuIntstatRingbad (k : Nat) : Fld := ⟨A.icuIntstat k, 1, 1⟩
/-- `ICU.INTSTAT.EOIERR`. -/
def F.icuIntstatEoierr (k : Nat) : Fld := ⟨A.icuIntstat k, 0, 1⟩

/-- `ICU.INTEN`, R518. -/
def A.icuInten (k : Nat) : Nat := icuBank k + 0x44
/-- `ICU.INTEN.RINGFULL`. -/
def F.icuIntenRingfull (k : Nat) : Fld := ⟨A.icuInten k, 2, 1⟩
/-- `ICU.INTEN.RINGBAD`. -/
def F.icuIntenRingbad (k : Nat) : Fld := ⟨A.icuInten k, 1, 1⟩
/-- `ICU.INTEN.EOIERR`. -/
def F.icuIntenEoierr (k : Nat) : Fld := ⟨A.icuInten k, 0, 1⟩

/-- `ICU.SEQ`, R518. -/
def A.icuSeq (k : Nat) : Nat := icuBank k + 0x48

/-- `ICU.CTR`, R518. -/
def A.icuCtr (k : Nat) (i : Nat) : Nat := icuBank k + 0x50 + 0x4 * i

/-- `ICU.PRIVPRIO`, R518. -/
def A.icuPrivprio (k : Nat) (i : Nat) : Nat := icuBank k + 0x80 + 0x4 * i

/-- `ICU.AONEN`, R518. -/
def A.icuAonen (k : Nat) (i : Nat) : Nat := icuBank k + 0x100 + 0x4 * i

/-- `ICU.AONPEND`, R518. -/
def A.icuAonpend (k : Nat) (i : Nat) : Nat := icuBank k + 0x110 + 0x4 * i

/-- `ICU.AONACT`, R518. -/
def A.icuAonact (k : Nat) (i : Nat) : Nat := icuBank k + 0x120 + 0x4 * i

/-- `ICUC.SHEN`, R518. -/
def A.icucShen (i : Nat) : Nat := 0x40608000 + 0x4 * i

/-- `ICUC.SHPEND`, R518. -/
def A.icucShpend (i : Nat) : Nat := 0x40608100 + 0x4 * i

/-- `ICUC.SHACT`, R518. -/
def A.icucShact (i : Nat) : Nat := 0x40608200 + 0x4 * i

/-- `ICUC.SWSET`, R518. -/
def A.icucSwset : Nat := 0x40608300
/-- `ICUC.SWSET.ID`. -/
def F.icucSwsetId : Fld := ⟨A.icucSwset, 0, 10⟩

/-- `ICUC.SWCLR`, R518. -/
def A.icucSwclr : Nat := 0x40608304
/-- `ICUC.SWCLR.ID`. -/
def F.icucSwclrId : Fld := ⟨A.icucSwclr, 0, 10⟩

/-- `ICUC.SRCSEL`, R518. -/
def A.icucSrcsel : Nat := 0x40608308
/-- `ICUC.SRCSEL.ID`. -/
def F.icucSrcselId : Fld := ⟨A.icucSrcsel, 0, 10⟩

/-- `ICUC.SRCINFO`, R518. -/
def A.icucSrcinfo : Nat := 0x4060830C
/-- `ICUC.SRCINFO.EN`. -/
def F.icucSrcinfoEn : Fld := ⟨A.icucSrcinfo, 31, 1⟩
/-- `ICUC.SRCINFO.PEND`. -/
def F.icucSrcinfoPend : Fld := ⟨A.icucSrcinfo, 30, 1⟩
/-- `ICUC.SRCINFO.ACT`. -/
def F.icucSrcinfoAct : Fld := ⟨A.icucSrcinfo, 29, 1⟩
/-- `ICUC.SRCINFO.AON`. -/
def F.icucSrcinfoAon : Fld := ⟨A.icucSrcinfo, 28, 1⟩
/-- `ICUC.SRCINFO.ROUTE`. -/
def F.icucSrcinfoRoute : Fld := ⟨A.icucSrcinfo, 0, 19⟩

/-- `EVF.FLAGS`, R534. -/
def A.evfFlags : Nat := 0x40610000
/-- `EVF.FLAGS.GRPTIE`. -/
def F.evfFlagsGrptie : Fld := ⟨A.evfFlags, 2, 1⟩
/-- `EVF.FLAGS.FIRELOST`. -/
def F.evfFlagsFirelost : Fld := ⟨A.evfFlags, 1, 1⟩
/-- `EVF.FLAGS.DROP`. -/
def F.evfFlagsDrop : Fld := ⟨A.evfFlags, 0, 1⟩

/-- `EVF.FIRE`, R534. -/
def A.evfFire : Nat := 0x40610004
/-- `EVF.FIRE.CH`. -/
def F.evfFireCh : Fld := ⟨A.evfFire, 0, 8⟩

/-- `EVF.GRPSET`, R534. -/
def A.evfGrpset : Nat := 0x40610008
/-- `EVF.GRPSET.OPEN`. -/
def F.evfGrpsetOpen : Fld := ⟨A.evfGrpset, 0, 16⟩

/-- `EVF.GRPCLR`, R534. -/
def A.evfGrpclr : Nat := 0x4061000C
/-- `EVF.GRPCLR.OPEN`. -/
def F.evfGrpclrOpen : Fld := ⟨A.evfGrpclr, 0, 16⟩

/-- `EVF.CELLOUT`, R534. -/
def A.evfCellout : Nat := 0x40610010

/-- `EVF.CHSEL`, R534. -/
def A.evfChsel : Nat := 0x40610014
/-- `EVF.CHSEL.CH`. -/
def F.evfChselCh : Fld := ⟨A.evfChsel, 0, 8⟩

/-- `EVF.CHINFO`, R534. -/
def A.evfChinfo : Nat := 0x40610018
/-- `EVF.CHINFO.EN`. -/
def F.evfChinfoEn : Fld := ⟨A.evfChinfo, 31, 1⟩
/-- `EVF.CHINFO.LEVEL`. -/
def F.evfChinfoLevel : Fld := ⟨A.evfChinfo, 30, 1⟩
/-- `EVF.CHINFO.PASS`. -/
def F.evfChinfoPass : Fld := ⟨A.evfChinfo, 29, 1⟩
/-- `EVF.CHINFO.GROUP`. -/
def F.evfChinfoGroup : Fld := ⟨A.evfChinfo, 24, 4⟩
/-- `EVF.CHINFO.MEMBER`. -/
def F.evfChinfoMember : Fld := ⟨A.evfChinfo, 23, 1⟩
/-- `EVF.CHINFO.PRODUCER`. -/
def F.evfChinfoProducer : Fld := ⟨A.evfChinfo, 0, 10⟩

/-- `EVF.FIREM`, R534. -/
def A.evfFirem (i : Nat) : Nat := 0x40610020 + 0x4 * i

/-- `EVF.LEVEL`, R534. -/
def A.evfLevel (i : Nat) : Nat := 0x40610040 + 0x4 * i

/-- `EVF.DROPPED`, R534. -/
def A.evfDropped : Nat := 0x40610080

/-- `EVF.BLOCKED`, R534. -/
def A.evfBlocked : Nat := 0x40610084

/-- `EVF.FIRELOST`, R534. -/
def A.evfFirelost : Nat := 0x40610088

/-- `EVF.GRPTIE`, R534. -/
def A.evfGrptie : Nat := 0x4061008C

/-- `EVF.CTR`, R534. -/
def A.evfCtr (i : Nat) : Nat := 0x40611000 + 0x4 * i

/-- `EVF.AONFLAGS`, R534. -/
def A.evfAonflags : Nat := 0x40618000
/-- `EVF.AONFLAGS.FIRELOST`. -/
def F.evfAonflagsFirelost : Fld := ⟨A.evfAonflags, 1, 1⟩
/-- `EVF.AONFLAGS.DROP`. -/
def F.evfAonflagsDrop : Fld := ⟨A.evfAonflags, 0, 1⟩

/-- `EVF.AONFIRE`, R534. -/
def A.evfAonfire : Nat := 0x40618004
/-- `EVF.AONFIRE.CH`. -/
def F.evfAonfireCh : Fld := ⟨A.evfAonfire, 0, 8⟩

/-- `EVF.AONLEVEL0`, R534. -/
def A.evfAonlevel0 : Nat := 0x40618008

/-- `EVF.AONLEVEL1`, R534. -/
def A.evfAonlevel1 : Nat := 0x4061800C

/-- `EVF.AONDROPPED`, R534. -/
def A.evfAondropped : Nat := 0x40618010

/-- `EVF.AONCTR`, R534. -/
def A.evfAonctr (i : Nat) : Nat := 0x40618100 + 0x4 * i

/-- `TMB.STAT`, R549. -/
def A.tmbStat : Nat := 0x40620000
/-- `TMB.STAT.LF`. -/
def F.tmbStatLf : Fld := ⟨A.tmbStat, 0, 1⟩

/-- `TMB.CMD`, R549. -/
def A.tmbCmd : Nat := 0x40620004
/-- `TMB.CMD.CAPTURE`. -/
def F.tmbCmdCapture : Fld := ⟨A.tmbCmd, 0, 1⟩

/-- `TMB.NOW0`, R549. -/
def A.tmbNow0 : Nat := 0x40620008

/-- `TMB.NOW1`, R549. -/
def A.tmbNow1 : Nat := 0x4062000C

/-- `TMB.STAGBASE0`, R549. -/
def A.tmbStagbase0 : Nat := 0x40620010

/-- `TMB.STAGBASE1`, R549. -/
def A.tmbStagbase1 : Nat := 0x40620014

/-- `TMB.STAGINT`, R549. -/
def A.tmbStagint : Nat := 0x40620018

/-- `TMB.STAGCTL`, R549. -/
def A.tmbStagctl : Nat := 0x4062001C
/-- `TMB.STAGCTL.GO`. -/
def F.tmbStagctlGo : Fld := ⟨A.tmbStagctl, 31, 1⟩
/-- `TMB.STAGCTL.LAST`. -/
def F.tmbStagctlLast : Fld := ⟨A.tmbStagctl, 8, 7⟩
/-- `TMB.STAGCTL.FIRST`. -/
def F.tmbStagctlFirst : Fld := ⟨A.tmbStagctl, 0, 7⟩

/-- `TMB.CMPFLAG`, R549. -/
def A.tmbCmpflag (i : Nat) : Nat := 0x40620040 + 0x4 * i

/-- `TMB.CMPIE`, R549. -/
def A.tmbCmpie (i : Nat) : Nat := 0x40620050 + 0x4 * i

/-- `TMB.CAPFLAG`, R549. -/
def A.tmbCapflag : Nat := 0x40620060

/-- `TMB.CAPIE`, R549. -/
def A.tmbCapie : Nat := 0x40620064

/-- `TMB.PMFLAG`, R549. -/
def A.tmbPmflag : Nat := 0x40620068
/-- `TMB.PMFLAG.FLAG`. -/
def F.tmbPmflagFlag : Fld := ⟨A.tmbPmflag, 0, 16⟩

/-- `TMB.PMIE`, R549. -/
def A.tmbPmie : Nat := 0x4062006C
/-- `TMB.PMIE.EN`. -/
def F.tmbPmieEn : Fld := ⟨A.tmbPmie, 0, 16⟩

/-- `TMB.CTR`, R549. -/
def A.tmbCtr (i : Nat) : Nat := 0x40620080 + 0x4 * i

/-- `TMB.CMPLOn`, R549. -/
def A.tmbCmplo (i : Nat) : Nat := 0x40621000 + 0x10 * i

/-- `TMB.CMPHIn`, R549. -/
def A.tmbCmphi (i : Nat) : Nat := 0x40621004 + 0x10 * i

/-- `TMB.CMPINTn`, R549. -/
def A.tmbCmpint (i : Nat) : Nat := 0x40621008 + 0x10 * i

/-- `TMB.CMPCTLn`, R549. -/
def A.tmbCmpctl (i : Nat) : Nat := 0x4062100C + 0x10 * i
/-- `TMB.CMPCTLn.EN`. -/
def F.tmbCmpctlEn (i : Nat) : Fld := ⟨A.tmbCmpctl i, 31, 1⟩
/-- `TMB.CMPCTLn.AUTO`. -/
def F.tmbCmpctlAuto (i : Nat) : Fld := ⟨A.tmbCmpctl i, 30, 1⟩
/-- `TMB.CMPCTLn.SKIP`. -/
def F.tmbCmpctlSkip (i : Nat) : Fld := ⟨A.tmbCmpctl i, 16, 8⟩
/-- `TMB.CMPCTLn.OVF`. -/
def F.tmbCmpctlOvf (i : Nat) : Fld := ⟨A.tmbCmpctl i, 2, 1⟩
/-- `TMB.CMPCTLn.LATE`. -/
def F.tmbCmpctlLate (i : Nat) : Fld := ⟨A.tmbCmpctl i, 1, 1⟩

/-- `TMB.CAPLOc`, R549. -/
def A.tmbCaplo (i : Nat) : Nat := 0x40622000 + 0x10 * i

/-- `TMB.CAPHIc`, R549. -/
def A.tmbCaphi (i : Nat) : Nat := 0x40622004 + 0x10 * i

/-- `TMB.CAPSTATc`, R549. -/
def A.tmbCapstat (i : Nat) : Nat := 0x40622008 + 0x10 * i
/-- `TMB.CAPSTATc.VALID`. -/
def F.tmbCapstatValid (i : Nat) : Fld := ⟨A.tmbCapstat i, 31, 1⟩
/-- `TMB.CAPSTATc.OVR`. -/
def F.tmbCapstatOvr (i : Nat) : Fld := ⟨A.tmbCapstat i, 30, 1⟩
/-- `TMB.CAPSTATc.LFRES`. -/
def F.tmbCapstatLfres (i : Nat) : Fld := ⟨A.tmbCapstat i, 29, 1⟩

/-- `TMB.PMWIDTHp`, R549. -/
def A.tmbPmwidth (i : Nat) : Nat := 0x40623000 + 0x10 * i

/-- `TMB.PMSTARTp`, R549. -/
def A.tmbPmstart (i : Nat) : Nat := 0x40623004 + 0x10 * i

/-- `TMB.PMSTATp`, R549. -/
def A.tmbPmstat (i : Nat) : Nat := 0x40623008 + 0x10 * i
/-- `TMB.PMSTATp.DONE`. -/
def F.tmbPmstatDone (i : Nat) : Fld := ⟨A.tmbPmstat i, 31, 1⟩
/-- `TMB.PMSTATp.OVR`. -/
def F.tmbPmstatOvr (i : Nat) : Fld := ⟨A.tmbPmstat i, 30, 1⟩
/-- `TMB.PMSTATp.OPEN`. -/
def F.tmbPmstatOpen (i : Nat) : Fld := ⟨A.tmbPmstat i, 29, 1⟩
/-- `TMB.PMSTATp.SUBRES`. -/
def F.tmbPmstatSubres (i : Nat) : Fld := ⟨A.tmbPmstat i, 28, 1⟩
/-- `TMB.PMSTATp.RESTART`. -/
def F.tmbPmstatRestart (i : Nat) : Fld := ⟨A.tmbPmstat i, 27, 1⟩
/-- `TMB.PMSTATp.SAT`. -/
def F.tmbPmstatSat (i : Nat) : Fld := ⟨A.tmbPmstat i, 26, 1⟩
/-- `TMB.PMSTATp.LFRES`. -/
def F.tmbPmstatLfres (i : Nat) : Fld := ⟨A.tmbPmstat i, 25, 1⟩
/-- `TMB.PMSTATp.SLEPT`. -/
def F.tmbPmstatSlept (i : Nat) : Fld := ⟨A.tmbPmstat i, 24, 1⟩

/-- `TMB.PMCTLp`, R549. -/
def A.tmbPmctl (i : Nat) : Nat := 0x4062300C + 0x10 * i
/-- `TMB.PMCTLp.EN`. -/
def F.tmbPmctlEn (i : Nat) : Fld := ⟨A.tmbPmctl i, 0, 1⟩

/-- `SNP.STAT`, R552. -/
def A.snpStat : Nat := 0x40630000
/-- `SNP.STAT.FILLING`. -/
def F.snpStatFilling : Fld := ⟨A.snpStat, 8, 1⟩
/-- `SNP.STAT.NEWEST`. -/
def F.snpStatNewest : Fld := ⟨A.snpStat, 4, 1⟩

/-- `SNP.CTL`, R552. -/
def A.snpCtl : Nat := 0x40630004
/-- `SNP.CTL.ROUNDEN`. -/
def F.snpCtlRounden : Fld := ⟨A.snpCtl, 31, 1⟩
/-- `SNP.CTL.CHREF`. -/
def F.snpCtlChref : Fld := ⟨A.snpCtl, 0, 9⟩

/-- `SNP.CMD`, R552. -/
def A.snpCmd : Nat := 0x40630008
/-- `SNP.CMD.TAKE`. -/
def F.snpCmdTake : Fld := ⟨A.snpCmd, 0, 1⟩

/-- `SNP.HOLD`, R552. -/
def A.snpHold : Nat := 0x4063000C
/-- `SNP.HOLD.HELD`. -/
def F.snpHoldHeld : Fld := ⟨A.snpHold, 0, 2⟩

/-- `SNP.BANKSEL`, R552. -/
def A.snpBanksel : Nat := 0x40630010
/-- `SNP.BANKSEL.BANK`. -/
def F.snpBankselBank : Fld := ⟨A.snpBanksel, 0, 1⟩

/-- `SNP.GEN`, R552. -/
def A.snpGen : Nat := 0x40630014

/-- `SNP.TICK0`, R552. -/
def A.snpTick0 : Nat := 0x40630018

/-- `SNP.TICK1`, R552. -/
def A.snpTick1 : Nat := 0x4063001C

/-- `SNP.NTM0`, R552. -/
def A.snpNtm0 : Nat := 0x40630020

/-- `SNP.NTM1`, R552. -/
def A.snpNtm1 : Nat := 0x40630024

/-- `SNP.ROUND`, R552. -/
def A.snpRound : Nat := 0x40630028

/-- `SNP.INTSTAT`, R552. -/
def A.snpIntstat : Nat := 0x40630030
/-- `SNP.INTSTAT.MISSED`. -/
def F.snpIntstatMissed : Fld := ⟨A.snpIntstat, 1, 1⟩
/-- `SNP.INTSTAT.DONE`. -/
def F.snpIntstatDone : Fld := ⟨A.snpIntstat, 0, 1⟩

/-- `SNP.INTEN`, R552. -/
def A.snpInten : Nat := 0x40630034
/-- `SNP.INTEN.MISSED`. -/
def F.snpIntenMissed : Fld := ⟨A.snpInten, 1, 1⟩
/-- `SNP.INTEN.DONE`. -/
def F.snpIntenDone : Fld := ⟨A.snpInten, 0, 1⟩

/-- `SNP.MISSCNT`, R552. -/
def A.snpMisscnt : Nat := 0x40630038

/-- `SNP.WINDOW`, R552. -/
def A.snpWindow (i : Nat) : Nat := 0x40634000 + 0x4 * i

/-- `DALI.CTL`, R563. -/
def A.daliCtl (i : Nat) : Nat := 0x40700000 + 0x40 * i
/-- `DALI.CTL.EN`. -/
def F.daliCtlEn (i : Nat) : Fld := ⟨A.daliCtl i, 31, 1⟩
/-- `DALI.CTL.TXINV`. -/
def F.daliCtlTxinv (i : Nat) : Fld := ⟨A.daliCtl i, 1, 1⟩
/-- `DALI.CTL.RXINV`. -/
def F.daliCtlRxinv (i : Nat) : Fld := ⟨A.daliCtl i, 0, 1⟩

/-- `DALI.TXDATA`, R563. -/
def A.daliTxdata (i : Nat) : Nat := 0x40700004 + 0x40 * i

/-- `DALI.TXCMD`, R563. -/
def A.daliTxcmd (i : Nat) : Nat := 0x40700008 + 0x40 * i
/-- `DALI.TXCMD.GO`. -/
def F.daliTxcmdGo (i : Nat) : Fld := ⟨A.daliTxcmd i, 31, 1⟩
/-- `DALI.TXCMD.ANS`. -/
def F.daliTxcmdAns (i : Nat) : Fld := ⟨A.daliTxcmd i, 11, 1⟩
/-- `DALI.TXCMD.PRIO`. -/
def F.daliTxcmdPrio (i : Nat) : Fld := ⟨A.daliTxcmd i, 8, 3⟩
/-- `DALI.TXCMD.SIZE`. -/
def F.daliTxcmdSize (i : Nat) : Fld := ⟨A.daliTxcmd i, 0, 6⟩

/-- `DALI.STAT`, R563. -/
def A.daliStat (i : Nat) : Nat := 0x4070000C + 0x40 * i
/-- `DALI.STAT.RESULT`. -/
def F.daliStatResult (i : Nat) : Fld := ⟨A.daliStat i, 16, 16⟩
/-- `DALI.STAT.BUSFAIL`. -/
def F.daliStatBusfail (i : Nat) : Fld := ⟨A.daliStat i, 3, 1⟩
/-- `DALI.STAT.IDLE`. -/
def F.daliStatIdle (i : Nat) : Fld := ⟨A.daliStat i, 2, 1⟩
/-- `DALI.STAT.TXBUSY`. -/
def F.daliStatTxbusy (i : Nat) : Fld := ⟨A.daliStat i, 1, 1⟩
/-- `DALI.STAT.RXAVAIL`. -/
def F.daliStatRxavail (i : Nat) : Fld := ⟨A.daliStat i, 0, 1⟩

/-- `DALI.RXDATA`, R563. -/
def A.daliRxdata (i : Nat) : Nat := 0x40700010 + 0x40 * i

/-- `DALI.RXINFO`, R563. -/
def A.daliRxinfo (i : Nat) : Nat := 0x40700014 + 0x40 * i
/-- `DALI.RXINFO.VALID`. -/
def F.daliRxinfoValid (i : Nat) : Fld := ⟨A.daliRxinfo i, 15, 1⟩
/-- `DALI.RXINFO.ERR`. -/
def F.daliRxinfoErr (i : Nat) : Fld := ⟨A.daliRxinfo i, 14, 1⟩
/-- `DALI.RXINFO.BITS`. -/
def F.daliRxinfoBits (i : Nat) : Fld := ⟨A.daliRxinfo i, 0, 6⟩

/-- `DALI.INTSTAT`, R563. -/
def A.daliIntstat (i : Nat) : Nat := 0x40700018 + 0x40 * i
/-- `DALI.INTSTAT.BUSFAIL`. -/
def F.daliIntstatBusfail (i : Nat) : Fld := ⟨A.daliIntstat i, 4, 1⟩
/-- `DALI.INTSTAT.COLLISION`. -/
def F.daliIntstatCollision (i : Nat) : Fld := ⟨A.daliIntstat i, 3, 1⟩
/-- `DALI.INTSTAT.RXOVF`. -/
def F.daliIntstatRxovf (i : Nat) : Fld := ⟨A.daliIntstat i, 2, 1⟩
/-- `DALI.INTSTAT.RX`. -/
def F.daliIntstatRx (i : Nat) : Fld := ⟨A.daliIntstat i, 1, 1⟩
/-- `DALI.INTSTAT.TXDONE`. -/
def F.daliIntstatTxdone (i : Nat) : Fld := ⟨A.daliIntstat i, 0, 1⟩

/-- `DALI.INTEN`, R563. -/
def A.daliInten (i : Nat) : Nat := 0x4070001C + 0x40 * i
/-- `DALI.INTEN.BUSFAIL`. -/
def F.daliIntenBusfail (i : Nat) : Fld := ⟨A.daliInten i, 4, 1⟩
/-- `DALI.INTEN.COLLISION`. -/
def F.daliIntenCollision (i : Nat) : Fld := ⟨A.daliInten i, 3, 1⟩
/-- `DALI.INTEN.RXOVF`. -/
def F.daliIntenRxovf (i : Nat) : Fld := ⟨A.daliInten i, 2, 1⟩
/-- `DALI.INTEN.RX`. -/
def F.daliIntenRx (i : Nat) : Fld := ⟨A.daliInten i, 1, 1⟩
/-- `DALI.INTEN.TXDONE`. -/
def F.daliIntenTxdone (i : Nat) : Fld := ⟨A.daliInten i, 0, 1⟩

/-- `DMO.CFGn`, R565. -/
def A.dmoCfg (i : Nat) : Nat := 0x40710000 + 0x10 * i
/-- `DMO.CFGn.EN`. -/
def F.dmoCfgEn (i : Nat) : Fld := ⟨A.dmoCfg i, 31, 1⟩
/-- `DMO.CFGn.MODE`. -/
def F.dmoCfgMode (i : Nat) : Fld := ⟨A.dmoCfg i, 30, 1⟩
/-- `DMO.CFGn.SLEEPLVL`. -/
def F.dmoCfgSleeplvl (i : Nat) : Fld := ⟨A.dmoCfg i, 29, 1⟩
/-- `DMO.CFGn.PERIOD`. -/
def F.dmoCfgPeriod (i : Nat) : Fld := ⟨A.dmoCfg i, 0, 16⟩

/-- `DMO.TARGETn`, R565. -/
def A.dmoTarget (i : Nat) : Nat := 0x40710004 + 0x10 * i
/-- `DMO.TARGETn.TARGET`. -/
def F.dmoTargetTarget (i : Nat) : Fld := ⟨A.dmoTarget i, 0, 12⟩

/-- `DMO.FADEn`, R565. -/
def A.dmoFade (i : Nat) : Nat := 0x40710008 + 0x10 * i
/-- `DMO.FADEn.FADE`. -/
def F.dmoFadeFade (i : Nat) : Fld := ⟨A.dmoFade i, 0, 16⟩

/-- `DMO.LEVELn`, R565. -/
def A.dmoLevel (i : Nat) : Nat := 0x4071000C + 0x10 * i
/-- `DMO.LEVELn.FADING`. -/
def F.dmoLevelFading (i : Nat) : Fld := ⟨A.dmoLevel i, 31, 1⟩
/-- `DMO.LEVELn.LEVEL`. -/
def F.dmoLevelLevel (i : Nat) : Fld := ⟨A.dmoLevel i, 0, 12⟩

/-- `MET.CFG`, R567. -/
def A.metCfg : Nat := 0x40720000
/-- `MET.CFG.EN`. -/
def F.metCfgEn : Fld := ⟨A.metCfg, 31, 1⟩
/-- `MET.CFG.ACC`. -/
def F.metCfgAcc : Fld := ⟨A.metCfg, 16, 8⟩
/-- `MET.CFG.ECLR`. -/
def F.metCfgEclr : Fld := ⟨A.metCfg, 0, 1⟩

/-- `MET.STAT`, R567. -/
def A.metStat : Nat := 0x40720004
/-- `MET.STAT.NOZC`. -/
def F.metStatNozc : Fld := ⟨A.metStat, 1, 1⟩
/-- `MET.STAT.RUN`. -/
def F.metStatRun : Fld := ⟨A.metStat, 0, 1⟩

/-- `MET.GAINV`, R567. -/
def A.metGainv : Nat := 0x40720008
/-- `MET.GAINV.V`. -/
def F.metGainvV : Fld := ⟨A.metGainv, 0, 24⟩

/-- `MET.GAINI1`, R567. -/
def A.metGaini1 : Nat := 0x4072000C
/-- `MET.GAINI1.V`. -/
def F.metGaini1V : Fld := ⟨A.metGaini1, 0, 24⟩

/-- `MET.GAINI2`, R567. -/
def A.metGaini2 : Nat := 0x40720010
/-- `MET.GAINI2.V`. -/
def F.metGaini2V : Fld := ⟨A.metGaini2, 0, 24⟩

/-- `MET.OFSV`, R567. -/
def A.metOfsv : Nat := 0x40720014
/-- `MET.OFSV.V`. -/
def F.metOfsvV : Fld := ⟨A.metOfsv, 0, 24⟩

/-- `MET.OFSI1`, R567. -/
def A.metOfsi1 : Nat := 0x40720018
/-- `MET.OFSI1.V`. -/
def F.metOfsi1V : Fld := ⟨A.metOfsi1, 0, 24⟩

/-- `MET.OFSI2`, R567. -/
def A.metOfsi2 : Nat := 0x4072001C
/-- `MET.OFSI2.V`. -/
def F.metOfsi2V : Fld := ⟨A.metOfsi2, 0, 24⟩

/-- `MET.PHCAL`, R567. -/
def A.metPhcal : Nat := 0x40720020
/-- `MET.PHCAL.I1`. -/
def F.metPhcalI1 : Fld := ⟨A.metPhcal, 0, 8⟩
/-- `MET.PHCAL.I2`. -/
def F.metPhcalI2 : Fld := ⟨A.metPhcal, 8, 8⟩

/-- `MET.VRMS`, R567. -/
def A.metVrms : Nat := 0x40720030

/-- `MET.I1RMS`, R567. -/
def A.metI1rms : Nat := 0x40720034

/-- `MET.I2RMS`, R567. -/
def A.metI2rms : Nat := 0x40720038

/-- `MET.P1`, R567. -/
def A.metP1 : Nat := 0x4072003C

/-- `MET.P2`, R567. -/
def A.metP2 : Nat := 0x40720040

/-- `MET.E1LO`, R567. -/
def A.metE1lo : Nat := 0x40720044

/-- `MET.E1HI`, R567. -/
def A.metE1hi : Nat := 0x40720048

/-- `MET.E2LO`, R567. -/
def A.metE2lo : Nat := 0x4072004C

/-- `MET.E2HI`, R567. -/
def A.metE2hi : Nat := 0x40720050

/-- `MET.PERIOD`, R567. -/
def A.metPeriod : Nat := 0x40720058

/-- `MET.INTSTAT`, R567. -/
def A.metIntstat : Nat := 0x40720060
/-- `MET.INTSTAT.NOZC`. -/
def F.metIntstatNozc : Fld := ⟨A.metIntstat, 2, 1⟩
/-- `MET.INTSTAT.CLIP`. -/
def F.metIntstatClip : Fld := ⟨A.metIntstat, 1, 1⟩
/-- `MET.INTSTAT.ACCDONE`. -/
def F.metIntstatAccdone : Fld := ⟨A.metIntstat, 0, 1⟩

/-- `MET.INTEN`, R567. -/
def A.metInten : Nat := 0x40720064
/-- `MET.INTEN.NOZC`. -/
def F.metIntenNozc : Fld := ⟨A.metInten, 2, 1⟩
/-- `MET.INTEN.CLIP`. -/
def F.metIntenClip : Fld := ⟨A.metInten, 1, 1⟩
/-- `MET.INTEN.ACCDONE`. -/
def F.metIntenAccdone : Fld := ⟨A.metInten, 0, 1⟩

/-- `SER.CFG`, R569. -/
def A.serCfg (i : Nat) : Nat := 0x40730000 + 0x1000 * i

/-- `SER.STAT`, R569. -/
def A.serStat (i : Nat) : Nat := 0x40730004 + 0x1000 * i
/-- `SER.STAT.RESULT`. -/
def F.serStatResult (i : Nat) : Fld := ⟨A.serStat i, 16, 16⟩
/-- `SER.STAT.DETAIL`. -/
def F.serStatDetail (i : Nat) : Fld := ⟨A.serStat i, 13, 3⟩
/-- `SER.STAT.RXLVL`. -/
def F.serStatRxlvl (i : Nat) : Fld := ⟨A.serStat i, 7, 6⟩
/-- `SER.STAT.BUSY`. -/
def F.serStatBusy (i : Nat) : Fld := ⟨A.serStat i, 6, 1⟩
/-- `SER.STAT.TXLVL`. -/
def F.serStatTxlvl (i : Nat) : Fld := ⟨A.serStat i, 0, 6⟩

/-- `SER.TXFIFO`, R569. -/
def A.serTxfifo (i : Nat) : Nat := 0x40730008 + 0x1000 * i
/-- `SER.TXFIFO.DATA`. -/
def F.serTxfifoData (i : Nat) : Fld := ⟨A.serTxfifo i, 0, 8⟩

/-- `SER.RXFIFO`, R569. -/
def A.serRxfifo (i : Nat) : Nat := 0x4073000C + 0x1000 * i
/-- `SER.RXFIFO.DATA`. -/
def F.serRxfifoData (i : Nat) : Fld := ⟨A.serRxfifo i, 0, 8⟩

/-- `SER.CMD`, R569. -/
def A.serCmd (i : Nat) : Nat := 0x40730010 + 0x1000 * i
/-- `SER.CMD.GO`. -/
def F.serCmdGo (i : Nat) : Fld := ⟨A.serCmd i, 31, 1⟩
/-- `SER.CMD.ABORT`. -/
def F.serCmdAbort (i : Nat) : Fld := ⟨A.serCmd i, 30, 1⟩
/-- `SER.CMD.READ`. -/
def F.serCmdRead (i : Nat) : Fld := ⟨A.serCmd i, 29, 1⟩
/-- `SER.CMD.ADDR`. -/
def F.serCmdAddr (i : Nat) : Fld := ⟨A.serCmd i, 16, 10⟩
/-- `SER.CMD.LEN`. -/
def F.serCmdLen (i : Nat) : Fld := ⟨A.serCmd i, 0, 16⟩

/-- `SER.INTSTAT`, R569. -/
def A.serIntstat (i : Nat) : Nat := 0x40730014 + 0x1000 * i

/-- `SER.INTEN`, R569. -/
def A.serInten (i : Nat) : Nat := 0x40730018 + 0x1000 * i

/-- `SER.RATE`, R569. -/
def A.serRate (i : Nat) : Nat := 0x4073001C + 0x1000 * i
/-- `SER.RATE.RATE`. -/
def F.serRateRate (i : Nat) : Fld := ⟨A.serRate i, 0, 32⟩

/-- `BST.CTL`, R583. -/
def A.bstCtl : Nat := 0x40800000
/-- `BST.CTL.GO`. -/
def F.bstCtlGo : Fld := ⟨A.bstCtl, 31, 1⟩
/-- `BST.CTL.TESTS`. -/
def F.bstCtlTests : Fld := ⟨A.bstCtl, 0, 8⟩

/-- `BST.STAT`, R583. -/
def A.bstStat : Nat := 0x40800004
/-- `BST.STAT.RESULT`. -/
def F.bstStatResult : Fld := ⟨A.bstStat, 16, 16⟩
/-- `BST.STAT.FAIL`. -/
def F.bstStatFail : Fld := ⟨A.bstStat, 8, 8⟩
/-- `BST.STAT.PASS`. -/
def F.bstStatPass : Fld := ⟨A.bstStat, 0, 8⟩

/-- `BST.RUNSEQ`, R583. -/
def A.bstRunseq : Nat := 0x40800008

/-- `BST.SIGSEL`, R583. -/
def A.bstSigsel : Nat := 0x4080000C
/-- `BST.SIGSEL.TEST`. -/
def F.bstSigselTest : Fld := ⟨A.bstSigsel, 0, 3⟩

/-- `BST.SIG0`, R583. -/
def A.bstSig0 : Nat := 0x40800010

/-- `BST.SIG1`, R583. -/
def A.bstSig1 : Nat := 0x40800014

/-- `BST.REF0`, R583. -/
def A.bstRef0 : Nat := 0x40800018

/-- `BST.REF1`, R583. -/
def A.bstRef1 : Nat := 0x4080001C

/-- `BST.INTSTAT`, R583. -/
def A.bstIntstat : Nat := 0x40800020
/-- `BST.INTSTAT.FAILED`. -/
def F.bstIntstatFailed : Fld := ⟨A.bstIntstat, 0, 1⟩

/-- `BST.INTEN`, R583. -/
def A.bstInten : Nat := 0x40800024
/-- `BST.INTEN.FAILED`. -/
def F.bstIntenFailed : Fld := ⟨A.bstInten, 0, 1⟩

/-- `FCR.STAT`, R584. -/
def A.fcrStat : Nat := 0x40810000
/-- `FCR.STAT.USED`. -/
def F.fcrStatUsed : Fld := ⟨A.fcrStat, 16, 5⟩
/-- `FCR.STAT.PENDING`. -/
def F.fcrStatPending : Fld := ⟨A.fcrStat, 8, 3⟩
/-- `FCR.STAT.FULL`. -/
def F.fcrStatFull : Fld := ⟨A.fcrStat, 1, 1⟩
/-- `FCR.STAT.MIRRORBAD`. -/
def F.fcrStatMirrorbad : Fld := ⟨A.fcrStat, 0, 1⟩

/-- `FCR.LOST`, R584. -/
def A.fcrLost : Nat := 0x40810004

/-- `FCR.REPEATS`, R584. -/
def A.fcrRepeats : Nat := 0x40810008

/-- `FCR.SEL`, R584. -/
def A.fcrSel : Nat := 0x4081000C
/-- `FCR.SEL.INDEX`. -/
def F.fcrSelIndex : Fld := ⟨A.fcrSel, 0, 4⟩

/-- `FCR.REC`, R584. -/
def A.fcrRec (i : Nat) : Nat := 0x40810010 + 0x4 * i

/-- `FCR.INTSTAT`, R584. -/
def A.fcrIntstat : Nat := 0x40810060
/-- `FCR.INTSTAT.FULL`. -/
def F.fcrIntstatFull : Fld := ⟨A.fcrIntstat, 1, 1⟩
/-- `FCR.INTSTAT.NEW`. -/
def F.fcrIntstatNew : Fld := ⟨A.fcrIntstat, 0, 1⟩

/-- `FCR.INTEN`, R584. -/
def A.fcrInten : Nat := 0x40810064
/-- `FCR.INTEN.FULL`. -/
def F.fcrIntenFull : Fld := ⟨A.fcrInten, 1, 1⟩
/-- `FCR.INTEN.NEW`. -/
def F.fcrIntenNew : Fld := ⟨A.fcrInten, 0, 1⟩

end Sys2Proof.Machine
end

