-- ==== Sys2Proof/Machine/RegTable.lean ====
section
/-!
DEFINITION. The register tables of the manual (R5-R8, R31, R34 and the table of every block): for each register its
offset, how many there are and their stride, its value at reset, the bit that locks it, and its fields with their
access types and legal encodings (no interval listed means every encoding is legal, R7).
-/

namespace Sys2Proof.Machine

/-- The access types of R5. -/
inductive Acc where
  | rw | ro | wo | w1c | w1s | rc | rwl
  deriving DecidableEq, Repr

/-- One field of a register: lowest bit, width, access type, legal encodings as intervals (R5, R7). -/
structure FieldSpec where
  lsb   : Nat
  width : Nat
  acc   : Acc
  legal : List (Nat × Nat)
  deriving DecidableEq, Repr

/-- One register, or an array of them: offset in the block, count, stride, reset value and its increment along the
array, and for RWL fields the offset and bit of the lock. -/
structure RegSpec where
  off    : Nat
  count  : Nat
  stride : Nat
  reset  : Nat
  rstep  : Nat
  lock   : Option (Nat × Nat)
  fields : List FieldSpec
  deriving DecidableEq, Repr

/-- The registers of PMU. -/
def regsPmu : List RegSpec := [
  ⟨0x0, 1, 0x4, 0x0, 0, none, [⟨11, 1, .ro, []⟩, ⟨10, 1, .ro, []⟩, ⟨9, 1, .ro, []⟩, ⟨8, 1, .ro, []⟩, ⟨7, 1, .ro, []⟩, ⟨6, 1, .ro, []⟩, ⟨3, 1, .ro, []⟩, ⟨2, 1, .ro, []⟩, ⟨1, 1, .ro, []⟩, ⟨0, 1, .ro, []⟩]⟩,
  ⟨0x4, 1, 0x4, 0x5, 0, some (0x4, 31), [⟨31, 1, .w1s, []⟩, ⟨0, 5, .rwl, [(0, 25)]⟩]⟩,
  ⟨0x8, 1, 0x4, 0x0, 0, none, [⟨0, 1, .rw, []⟩]⟩,
  ⟨0xC, 1, 0x4, 0xC80000, 0, none, [⟨16, 8, .rw, []⟩, ⟨8, 8, .rc, []⟩, ⟨0, 8, .ro, []⟩]⟩,
  ⟨0x10, 1, 0x4, 0x20, 0, some (0x10, 31), [⟨31, 1, .w1s, []⟩, ⟨8, 1, .rwl, []⟩, ⟨0, 6, .rwl, []⟩]⟩,
  ⟨0x14, 1, 0x4, 0x4C4B400, 0, none, [⟨0, 32, .ro, []⟩]⟩,
  ⟨0x18, 1, 0x4, 0x0, 0, none, [⟨0, 32, .rw, []⟩]⟩,
  ⟨0x1C, 1, 0x4, 0x0, 0, none, [⟨0, 32, .ro, []⟩]⟩,
  ⟨0x20, 1, 0x4, 0x0, 0, none, [⟨7, 1, .w1c, []⟩, ⟨6, 1, .w1c, []⟩, ⟨5, 1, .w1c, []⟩, ⟨4, 1, .w1c, []⟩, ⟨3, 1, .w1c, []⟩, ⟨2, 1, .w1c, []⟩, ⟨1, 1, .w1c, []⟩, ⟨0, 1, .w1c, []⟩]⟩,
  ⟨0x24, 1, 0x4, 0x0, 0, none, [⟨7, 1, .rw, []⟩, ⟨6, 1, .rw, []⟩, ⟨5, 1, .rw, []⟩, ⟨4, 1, .rw, []⟩, ⟨3, 1, .rw, []⟩, ⟨2, 1, .rw, []⟩, ⟨1, 1, .rw, []⟩, ⟨0, 1, .rw, []⟩]⟩,
  ⟨0x28, 1, 0x4, 0x0, 0, none, [⟨10, 1, .ro, []⟩, ⟨9, 1, .ro, []⟩, ⟨8, 1, .ro, []⟩, ⟨7, 1, .ro, []⟩, ⟨6, 1, .ro, []⟩, ⟨2, 4, .ro, []⟩, ⟨1, 1, .ro, []⟩, ⟨0, 1, .ro, []⟩]⟩,
  ⟨0x2C, 1, 0x4, 0x0, 0, none, [⟨0, 2, .rw, []⟩]⟩,
  ⟨0x30, 1, 0x4, 0x0, 0, none, [⟨0, 32, .rw, []⟩]⟩,
  ⟨0x100, 1, 0x4, 0x0, 0, none, [⟨8, 2, .rw, []⟩, ⟨4, 3, .rw, []⟩, ⟨0, 3, .rw, []⟩]⟩,
  ⟨0x104, 1, 0x4, 0x7, 0, none, [⟨16, 16, .ro, []⟩, ⟨15, 1, .ro, []⟩, ⟨14, 1, .ro, []⟩, ⟨12, 2, .ro, []⟩, ⟨8, 3, .ro, []⟩, ⟨4, 3, .ro, []⟩, ⟨0, 3, .ro, []⟩]⟩,
  ⟨0x108, 1, 0x4, 0x0, 0, none, [⟨8, 4, .ro, []⟩, ⟨4, 3, .ro, []⟩, ⟨0, 3, .ro, []⟩]⟩,
  ⟨0x10C, 1, 0x4, 0x0, 0, none, [⟨16, 5, .rw, []⟩, ⟨8, 2, .rw, []⟩, ⟨4, 3, .rw, []⟩, ⟨0, 3, .rw, [(0, 4)]⟩]⟩,
  ⟨0x110, 1, 0x4, 0x400, 0, some (0x110, 31), [⟨31, 1, .w1s, []⟩, ⟨8, 4, .rwl, []⟩, ⟨4, 1, .rwl, []⟩, ⟨0, 1, .rwl, []⟩]⟩]

/-- The registers of CLK. -/
def regsClk : List RegSpec := [
  ⟨0x0, 1, 0x4, 0x2810, 0, none, [⟨8, 8, .rw, [(40, 80)]⟩, ⟨4, 2, .rw, []⟩, ⟨0, 1, .rw, []⟩]⟩,
  ⟨0x4, 1, 0x4, 0x2820, 0, none, [⟨8, 8, .rw, [(40, 80)]⟩, ⟨4, 2, .rw, []⟩, ⟨0, 1, .rw, []⟩]⟩,
  ⟨0x8, 1, 0x4, 0x0, 0, none, [⟨12, 1, .rw, []⟩, ⟨8, 4, .rw, [(0, 8)]⟩, ⟨4, 1, .rw, []⟩, ⟨0, 4, .rw, [(0, 8)]⟩]⟩,
  ⟨0xC, 1, 0x4, 0x0, 0, none, [⟨5, 1, .w1c, []⟩, ⟨4, 1, .w1c, []⟩, ⟨3, 1, .w1c, []⟩, ⟨2, 1, .ro, []⟩, ⟨1, 1, .ro, []⟩, ⟨0, 1, .ro, []⟩]⟩]

/-- The registers of RST. -/
def regsRst : List RegSpec := [
  ⟨0x0, 1, 0x4, 0x7401, 0, none, [⟨19, 1, .ro, []⟩, ⟨12, 3, .ro, []⟩, ⟨8, 3, .ro, []⟩, ⟨0, 8, .ro, []⟩]⟩,
  ⟨0x4, 1, 0x4, 0x2, 0, none, [⟨1, 12, .w1c, []⟩]⟩,
  ⟨0x8, 1, 0x4, 0x0, 0, none, [⟨0, 16, .ro, []⟩]⟩,
  ⟨0xC, 1, 0x4, 0x0, 0, none, [⟨24, 8, .wo, []⟩, ⟨4, 3, .wo, []⟩, ⟨0, 2, .wo, []⟩]⟩,
  ⟨0x10, 1, 0x4, 0x2000, 0, some (0x10, 31), [⟨31, 1, .w1s, []⟩, ⟨18, 1, .rwl, []⟩, ⟨17, 1, .rwl, []⟩, ⟨16, 1, .rwl, []⟩, ⟨0, 16, .rwl, [(1, 65535)]⟩]⟩,
  ⟨0x14, 1, 0x4, 0x0, 0, none, [⟨0, 32, .wo, []⟩]⟩,
  ⟨0x18, 1, 0x4, 0x0, 0, none, [⟨0, 16, .ro, []⟩]⟩,
  ⟨0x1C, 1, 0x4, 0x0, 0, some (0x1C, 31), [⟨31, 1, .w1s, []⟩, ⟨0, 1, .rwl, []⟩]⟩,
  ⟨0x20, 1, 0x4, 0x0, 0, none, [⟨9, 4, .w1c, []⟩, ⟨1, 4, .w1c, []⟩]⟩,
  ⟨0x24, 1, 0x4, 0x0, 0, none, [⟨0, 1, .w1c, []⟩]⟩,
  ⟨0x28, 1, 0x4, 0x0, 0, none, [⟨0, 1, .rw, []⟩]⟩]

/-- The registers of PAD. -/
def regsPad : List RegSpec := [
  ⟨0x0, 3, 0x4, 0x0, 0, none, [⟨0, 32, .rw, []⟩]⟩,
  ⟨0x10, 3, 0x4, 0x0, 0, none, [⟨0, 32, .rw, []⟩]⟩,
  ⟨0x20, 3, 0x4, 0x0, 0, none, [⟨0, 32, .ro, []⟩]⟩,
  ⟨0x30, 1, 0x4, 0x0, 0, none, [⟨0, 1, .wo, []⟩]⟩,
  ⟨0x8000, 3, 0x4, 0x0, 0, none, [⟨0, 32, .ro, []⟩]⟩]

/-- The registers of BRD. -/
def regsBrd : List RegSpec := [
  ⟨0x0, 1, 0x4, 0x0, 0, none, [⟨0, 32, .ro, []⟩]⟩,
  ⟨0x4, 1, 0x4, 0x0, 0, none, [⟨0, 32, .ro, []⟩]⟩,
  ⟨0x8, 1, 0x4, 0xFFF, 0, none, [⟨16, 8, .ro, []⟩, ⟨8, 4, .ro, []⟩, ⟨4, 4, .ro, []⟩, ⟨0, 4, .ro, []⟩]⟩,
  ⟨0xC, 1, 0x4, 0x0, 0, none, [⟨16, 16, .ro, []⟩, ⟨8, 8, .ro, []⟩, ⟨0, 8, .ro, []⟩]⟩,
  ⟨0x10, 1, 0x4, 0x0, 0, none, [⟨0, 32, .ro, []⟩]⟩,
  ⟨0x14, 1, 0x4, 0x0, 0, none, [⟨0, 32, .ro, []⟩]⟩,
  ⟨0x20, 1, 0x4, 0x0, 0, none, [⟨31, 1, .wo, []⟩, ⟨30, 1, .wo, []⟩, ⟨8, 1, .rw, []⟩, ⟨0, 2, .rw, []⟩]⟩,
  ⟨0x24, 1, 0x4, 0x0, 0, none, [⟨0, 32, .rw, []⟩]⟩,
  ⟨0x28, 1, 0x4, 0x814, 0, some (0x28, 31), [⟨31, 1, .w1s, []⟩, ⟨8, 8, .rwl, []⟩, ⟨0, 8, .rwl, [(1, 255)]⟩]⟩,
  ⟨0x2C, 1, 0x4, 0x0, 0, none, [⟨16, 16, .ro, []⟩, ⟨8, 8, .ro, []⟩, ⟨0, 4, .ro, []⟩]⟩,
  ⟨0x30, 1, 0x4, 0x0, 0, none, [⟨24, 8, .ro, []⟩, ⟨16, 8, .ro, []⟩, ⟨0, 16, .ro, []⟩]⟩,
  ⟨0x34, 1, 0x4, 0x0, 0, none, [⟨0, 32, .ro, []⟩]⟩,
  ⟨0x38, 1, 0x4, 0x0, 0, none, [⟨0, 32, .ro, []⟩]⟩,
  ⟨0x3C, 1, 0x4, 0x0, 0, none, [⟨0, 32, .ro, []⟩]⟩,
  ⟨0x40, 1, 0x4, 0x0, 0, none, [⟨6, 1, .w1c, []⟩, ⟨5, 1, .w1c, []⟩, ⟨4, 1, .w1c, []⟩, ⟨3, 1, .w1c, []⟩, ⟨2, 1, .w1c, []⟩, ⟨1, 1, .w1c, []⟩, ⟨0, 1, .w1c, []⟩]⟩,
  ⟨0x44, 1, 0x4, 0x0, 0, none, [⟨6, 1, .rw, []⟩, ⟨5, 1, .rw, []⟩, ⟨4, 1, .rw, []⟩, ⟨3, 1, .rw, []⟩, ⟨2, 1, .rw, []⟩, ⟨1, 1, .rw, []⟩, ⟨0, 1, .rw, []⟩]⟩]

/-- The registers of SYS. -/
def regsSys : List RegSpec := [
  ⟨0x0, 1, 0x4, 0x88001113, 0, none, [⟨16, 16, .ro, []⟩, ⟨8, 8, .ro, []⟩, ⟨0, 8, .ro, []⟩]⟩,
  ⟨0x4, 1, 0x4, 0x0, 0, none, [⟨0, 32, .ro, []⟩]⟩,
  ⟨0x8, 1, 0x4, 0x0, 0, none, [⟨0, 32, .ro, []⟩]⟩,
  ⟨0xC, 1, 0x4, 0xF0000, 0, none, [⟨16, 4, .ro, []⟩, ⟨0, 4, .ro, []⟩]⟩,
  ⟨0x10, 1, 0x4, 0x0, 0, none, [⟨13, 1, .ro, []⟩, ⟨12, 1, .ro, []⟩, ⟨11, 1, .ro, []⟩, ⟨10, 1, .ro, []⟩, ⟨9, 1, .ro, []⟩, ⟨8, 1, .ro, []⟩, ⟨7, 1, .ro, []⟩, ⟨6, 1, .ro, []⟩, ⟨5, 1, .ro, []⟩, ⟨4, 1, .ro, []⟩, ⟨3, 1, .ro, []⟩, ⟨2, 1, .ro, []⟩, ⟨1, 1, .ro, []⟩, ⟨0, 1, .ro, []⟩]⟩,
  ⟨0x14, 1, 0x4, 0x0, 0, none, [⟨0, 32, .ro, []⟩]⟩,
  ⟨0x18, 1, 0x4, 0x0, 0, none, [⟨1, 4, .w1s, []⟩]⟩,
  ⟨0x20, 1, 0x4, 0x0, 0, none, [⟨1, 31, .rw, []⟩]⟩,
  ⟨0x24, 1, 0x4, 0x0, 0, none, [⟨1, 31, .rw, []⟩]⟩,
  ⟨0x28, 1, 0x4, 0x0, 0, none, [⟨1, 31, .rw, []⟩]⟩,
  ⟨0x2C, 1, 0x4, 0x0, 0, none, [⟨1, 31, .rw, []⟩]⟩]

/-- The registers of RFS. -/
def regsRfs : List RegSpec := [
  ⟨0x0, 1, 0x4, 0x0, 0, none, [⟨23, 1, .ro, []⟩, ⟨22, 1, .ro, []⟩, ⟨21, 1, .ro, []⟩, ⟨20, 1, .ro, []⟩, ⟨19, 1, .ro, []⟩, ⟨18, 1, .ro, []⟩, ⟨0, 4, .ro, []⟩]⟩,
  ⟨0x4, 1, 0x4, 0x3203, 0, none, [⟨8, 8, .rw, [(1, 100)]⟩, ⟨1, 1, .rw, []⟩, ⟨0, 1, .rw, []⟩]⟩,
  ⟨0x8, 1, 0x4, 0x0, 0, none, [⟨0, 30, .ro, []⟩]⟩,
  ⟨0xC, 1, 0x4, 0x0, 0, none, [⟨0, 30, .ro, []⟩]⟩,
  ⟨0x10, 1, 0x4, 0x0, 0, none, [⟨24, 1, .ro, []⟩, ⟨0, 24, .ro, []⟩]⟩,
  ⟨0x14, 1, 0x4, 0x0, 0, none, [⟨24, 8, .ro, []⟩, ⟨16, 8, .ro, []⟩, ⟨8, 8, .ro, []⟩, ⟨0, 4, .ro, []⟩]⟩,
  ⟨0x18, 1, 0x4, 0xFF00, 0, none, [⟨8, 8, .ro, []⟩, ⟨0, 4, .ro, []⟩]⟩,
  ⟨0x1C, 1, 0x4, 0x8000, 0, none, [⟨0, 16, .ro, []⟩]⟩,
  ⟨0x20, 1, 0x4, 0x0, 0, none, [⟨31, 1, .wo, []⟩, ⟨16, 2, .ro, []⟩, ⟨8, 8, .ro, []⟩, ⟨0, 1, .rw, []⟩]⟩,
  ⟨0x24, 1, 0x4, 0x320A0000, 0, none, [⟨24, 8, .rw, []⟩, ⟨16, 8, .rw, []⟩, ⟨7, 1, .rw, []⟩, ⟨6, 1, .rw, []⟩, ⟨2, 4, .rw, []⟩, ⟨0, 1, .rw, []⟩]⟩,
  ⟨0x28, 1, 0x4, 0x0, 0, none, [⟨16, 16, .rc, []⟩, ⟨0, 16, .rc, []⟩]⟩,
  ⟨0x2C, 1, 0x4, 0x100, 0, none, [⟨31, 1, .wo, []⟩, ⟨16, 1, .ro, []⟩, ⟨0, 9, .ro, []⟩]⟩,
  ⟨0x30, 1, 0x4, 0x0, 0, none, [⟨7, 1, .w1c, []⟩, ⟨6, 1, .w1c, []⟩, ⟨5, 1, .w1c, []⟩, ⟨4, 1, .w1c, []⟩, ⟨3, 1, .w1c, []⟩, ⟨2, 1, .w1c, []⟩, ⟨1, 1, .w1c, []⟩, ⟨0, 1, .w1c, []⟩]⟩,
  ⟨0x34, 1, 0x4, 0x0, 0, none, [⟨7, 1, .rw, []⟩, ⟨6, 1, .rw, []⟩, ⟨5, 1, .rw, []⟩, ⟨4, 1, .rw, []⟩, ⟨3, 1, .rw, []⟩, ⟨2, 1, .rw, []⟩, ⟨1, 1, .rw, []⟩, ⟨0, 1, .rw, []⟩]⟩,
  ⟨0x80, 32, 0x4, 0x807, 8, none, [⟨8, 8, .rw, []⟩, ⟨0, 8, .rw, []⟩]⟩,
  ⟨0x100, 1, 0x4, 0x0, 0, none, [⟨0, 3, .rw, []⟩]⟩,
  ⟨0x104, 1, 0x4, 0x0, 0, none, [⟨31, 1, .ro, []⟩, ⟨30, 1, .ro, []⟩, ⟨29, 1, .ro, []⟩, ⟨0, 8, .ro, []⟩]⟩,
  ⟨0x108, 1, 0x4, 0x0, 0, none, [⟨0, 22, .ro, []⟩]⟩,
  ⟨0x10C, 1, 0x4, 0x0, 0, none, [⟨0, 22, .ro, []⟩]⟩]

/-- The registers of WKR. -/
def regsWkr : List RegSpec := [
  ⟨0x0, 1, 0x4, 0x0, 0, none, [⟨15, 1, .rw, []⟩, ⟨14, 1, .rw, []⟩, ⟨13, 1, .rw, []⟩, ⟨8, 2, .rw, []⟩, ⟨4, 3, .rw, [(0, 3)]⟩, ⟨1, 1, .rw, []⟩, ⟨0, 1, .rw, []⟩]⟩,
  ⟨0x4, 1, 0x4, 0x0, 0, none, [⟨0, 32, .rw, []⟩]⟩,
  ⟨0x8, 1, 0x4, 0x0, 0, none, [⟨0, 32, .rw, []⟩]⟩,
  ⟨0xC, 1, 0x4, 0x0, 0, none, [⟨0, 32, .rw, []⟩]⟩,
  ⟨0x10, 1, 0x4, 0x8008, 0, none, [⟨8, 8, .ro, []⟩, ⟨0, 5, .rw, [(3, 20)]⟩]⟩,
  ⟨0x14, 1, 0x4, 0x0, 0, none, [⟨8, 8, .ro, []⟩, ⟨0, 2, .ro, []⟩]⟩,
  ⟨0x18, 1, 0x4, 0x0, 0, none, [⟨24, 8, .rc, []⟩, ⟨12, 12, .rc, []⟩, ⟨0, 12, .rc, []⟩]⟩,
  ⟨0x1C, 1, 0x4, 0x0, 0, none, [⟨3, 1, .w1c, []⟩, ⟨2, 1, .w1c, []⟩, ⟨1, 1, .w1c, []⟩, ⟨0, 1, .w1c, []⟩]⟩,
  ⟨0x20, 1, 0x4, 0x0, 0, none, [⟨3, 1, .rw, []⟩, ⟨2, 1, .rw, []⟩, ⟨1, 1, .rw, []⟩, ⟨0, 1, .rw, []⟩]⟩]

/-- The registers of CHZ. -/
def regsChz : List RegSpec := [
  ⟨0x0, 1, 0x4, 0x0, 0, none, [⟨5, 1, .ro, []⟩, ⟨4, 1, .ro, []⟩, ⟨1, 1, .ro, []⟩, ⟨0, 1, .ro, []⟩]⟩,
  ⟨0x4, 1, 0x4, 0x0, 0, none, [⟨5, 1, .w1c, []⟩, ⟨4, 1, .w1c, []⟩, ⟨3, 1, .w1c, []⟩, ⟨2, 1, .w1c, []⟩, ⟨1, 1, .w1c, []⟩, ⟨0, 1, .w1c, []⟩]⟩,
  ⟨0x8, 1, 0x4, 0x0, 0, none, [⟨5, 1, .rw, []⟩, ⟨4, 1, .rw, []⟩, ⟨3, 1, .rw, []⟩, ⟨2, 1, .rw, []⟩, ⟨1, 1, .rw, []⟩, ⟨0, 1, .rw, []⟩]⟩,
  ⟨0x10, 1, 0x4, 0x0, 0, none, [⟨8, 1, .rw, []⟩, ⟨0, 8, .rw, [(0, 159)]⟩]⟩,
  ⟨0x14, 1, 0x4, 0x0, 0, none, [⟨0, 32, .ro, []⟩]⟩,
  ⟨0x18, 1, 0x4, 0x0, 0, none, [⟨0, 32, .ro, []⟩]⟩,
  ⟨0x1C, 1, 0x4, 0x8000, 0, none, [⟨0, 16, .ro, []⟩]⟩,
  ⟨0x100, 2, 0x100, 0x3F000A01, 0, none, [⟨31, 1, .rw, []⟩, ⟨24, 6, .rw, []⟩, ⟨16, 6, .rw, []⟩, ⟨8, 8, .rw, [(1, 255)]⟩, ⟨0, 2, .rw, []⟩]⟩,
  ⟨0x104, 2, 0x100, 0x0, 0, none, [⟨8, 6, .ro, []⟩, ⟨0, 8, .ro, []⟩]⟩,
  ⟨0x108, 2, 0x100, 0x0, 0, none, [⟨0, 32, .ro, []⟩]⟩,
  ⟨0x10C, 2, 0x100, 0x0, 0, none, [⟨0, 32, .ro, []⟩]⟩,
  ⟨0x110, 2, 0x100, 0x0, 0, none, [⟨0, 32, .ro, []⟩]⟩,
  ⟨0x114, 2, 0x100, 0x0, 0, none, [⟨0, 32, .ro, []⟩]⟩,
  ⟨0x118, 2, 0x100, 0x0, 0, none, [⟨0, 32, .ro, []⟩]⟩]

/-- The registers of DMD. -/
def regsDmd : List RegSpec := [
  ⟨0x0, 1, 0x4, 0x0, 0, none, [⟨16, 8, .ro, []⟩, ⟨8, 8, .ro, []⟩, ⟨0, 8, .ro, []⟩]⟩,
  ⟨0x4, 1, 0x4, 0x0, 0, none, [⟨2, 1, .w1c, []⟩, ⟨1, 1, .w1c, []⟩, ⟨0, 1, .w1c, []⟩]⟩,
  ⟨0x8, 1, 0x4, 0x0, 0, none, [⟨2, 1, .rw, []⟩, ⟨1, 1, .rw, []⟩, ⟨0, 1, .rw, []⟩]⟩,
  ⟨0xC, 1, 0x4, 0x0, 0, none, [⟨0, 7, .rw, [(0, 79)]⟩]⟩,
  ⟨0x10, 1, 0x4, 0x60000000, 0, none, [⟨28, 4, .ro, []⟩, ⟨27, 1, .ro, []⟩, ⟨22, 5, .ro, []⟩, ⟨21, 1, .ro, []⟩, ⟨19, 2, .ro, []⟩, ⟨11, 8, .ro, []⟩, ⟨3, 8, .ro, []⟩]⟩,
  ⟨0x14, 1, 0x4, 0x0, 0, none, [⟨16, 16, .ro, []⟩, ⟨0, 16, .ro, []⟩]⟩,
  ⟨0x18, 1, 0x4, 0x0, 0, none, [⟨0, 32, .ro, []⟩]⟩,
  ⟨0x1C, 1, 0x4, 0x0, 0, none, [⟨0, 32, .ro, []⟩]⟩,
  ⟨0x20, 1, 0x4, 0x0, 0, none, [⟨0, 32, .ro, []⟩]⟩,
  ⟨0x24, 1, 0x4, 0x0, 0, none, [⟨16, 5, .ro, []⟩, ⟨0, 5, .ro, []⟩]⟩,
  ⟨0x104, 9, 0x4, 0x0, 0, none, [⟨0, 32, .ro, []⟩]⟩,
  ⟨0x144, 9, 0x4, 0x0, 0, none, [⟨0, 32, .ro, []⟩]⟩,
  ⟨0x200, 640, 0x4, 0x0, 0, none, [⟨0, 32, .ro, []⟩]⟩]

/-- The registers of DEC. -/
def regsDec : List RegSpec := [
  ⟨0x0, 1, 0x4, 0x0, 0, none, [⟨16, 5, .ro, []⟩, ⟨8, 8, .ro, []⟩, ⟨0, 8, .ro, []⟩]⟩,
  ⟨0x4, 1, 0x4, 0x21000120, 0, none, [⟨28, 4, .rw, []⟩, ⟨16, 9, .rw, [(1, 256)]⟩, ⟨8, 1, .rw, []⟩, ⟨0, 6, .rw, [(1, 63)]⟩]⟩,
  ⟨0x8, 1, 0x4, 0x0, 0, none, [⟨4, 1, .w1c, []⟩, ⟨3, 1, .w1c, []⟩, ⟨2, 1, .w1c, []⟩, ⟨1, 1, .w1c, []⟩, ⟨0, 1, .w1c, []⟩]⟩,
  ⟨0xC, 1, 0x4, 0x0, 0, none, [⟨4, 1, .rw, []⟩, ⟨3, 1, .rw, []⟩, ⟨2, 1, .rw, []⟩, ⟨1, 1, .rw, []⟩, ⟨0, 1, .rw, []⟩]⟩,
  ⟨0x10, 1, 0x4, 0x0, 0, none, [⟨0, 4, .rw, []⟩]⟩,
  ⟨0x14, 1, 0x4, 0xFF000000, 0, none, [⟨24, 8, .ro, []⟩, ⟨16, 5, .ro, []⟩, ⟨15, 1, .ro, []⟩, ⟨8, 7, .ro, []⟩, ⟨0, 5, .ro, []⟩]⟩,
  ⟨0x100, 128, 0x4, 0x0, 0, none, [⟨0, 32, .ro, []⟩]⟩]

/-- The registers of LNK. -/
def regsLnk : List RegSpec := [
  ⟨0x0, 1, 0x4, 0x0, 0, none, [⟨16, 10, .ro, []⟩, ⟨9, 1, .ro, []⟩, ⟨8, 1, .ro, []⟩]⟩,
  ⟨0x4, 1, 0x4, 0x20000, 0, none, [⟨16, 8, .rw, [(1, 255)]⟩, ⟨0, 16, .rw, []⟩]⟩,
  ⟨0x8, 1, 0x4, 0x0, 0, none, [⟨31, 1, .wo, []⟩, ⟨0, 9, .wo, []⟩]⟩,
  ⟨0xC, 1, 0x4, 0x0, 0, none, [⟨31, 1, .wo, []⟩, ⟨0, 9, .wo, []⟩]⟩,
  ⟨0x10, 1, 0x4, 0x0, 0, none, [⟨16, 16, .ro, []⟩, ⟨9, 7, .ro, []⟩, ⟨0, 9, .ro, []⟩]⟩,
  ⟨0x14, 1, 0x4, 0xFFFFFFFF, 0, none, [⟨0, 32, .ro, []⟩]⟩,
  ⟨0x18, 1, 0x4, 0xFFFFFFFF, 0, none, [⟨0, 32, .ro, []⟩]⟩,
  ⟨0x20, 1, 0x4, 0x453010B0, 0, none, [⟨28, 4, .rw, [(1, 15)]⟩, ⟨24, 4, .rw, [(0, 10)]⟩, ⟨20, 4, .rw, [(0, 10)]⟩, ⟨8, 8, .rw, []⟩, ⟨0, 8, .rw, []⟩]⟩,
  ⟨0x24, 1, 0x4, 0x140, 0, none, [⟨0, 16, .rw, [(1, 65535)]⟩]⟩,
  ⟨0x30, 1, 0x4, 0x0, 0, none, [⟨0, 32, .rw, []⟩]⟩,
  ⟨0x34, 1, 0x4, 0x0, 0, none, [⟨0, 24, .rw, []⟩]⟩,
  ⟨0x40, 1, 0x4, 0x0, 0, none, [⟨12, 17, .rw, []⟩, ⟨8, 1, .rw, []⟩, ⟨0, 8, .rw, []⟩]⟩,
  ⟨0x44, 1, 0x4, 0x0, 0, none, [⟨0, 30, .rw, []⟩]⟩,
  ⟨0x50, 1, 0x4, 0x3, 0, none, [⟨4, 1, .rw, []⟩, ⟨2, 2, .rw, []⟩, ⟨0, 2, .rw, []⟩]⟩,
  ⟨0x54, 1, 0x4, 0x0, 0, none, [⟨3, 29, .rw, []⟩]⟩,
  ⟨0x58, 1, 0x4, 0x0, 0, none, [⟨0, 11, .rw, [(0, 1024)]⟩]⟩,
  ⟨0x5C, 1, 0x4, 0x0, 0, none, [⟨0, 10, .wo, []⟩]⟩,
  ⟨0x60, 1, 0x4, 0x0, 0, none, [⟨0, 11, .ro, []⟩]⟩,
  ⟨0x64, 1, 0x4, 0x0, 0, none, [⟨0, 32, .ro, []⟩]⟩,
  ⟨0x100, 4, 0x10, 0x0, 0, none, [⟨6, 26, .rw, []⟩]⟩,
  ⟨0x104, 4, 0x10, 0x0, 0, none, [⟨0, 3, .rw, [(0, 6)]⟩]⟩,
  ⟨0x108, 4, 0x10, 0x0, 0, none, [⟨0, 12, .ro, []⟩]⟩,
  ⟨0x10C, 4, 0x10, 0x0, 0, none, [⟨0, 12, .rw, []⟩]⟩,
  ⟨0x140, 1, 0x4, 0x0, 0, none, [⟨12, 1, .w1c, []⟩, ⟨11, 1, .w1c, []⟩, ⟨10, 1, .w1c, []⟩, ⟨9, 1, .w1c, []⟩, ⟨8, 1, .w1c, []⟩, ⟨7, 1, .w1c, []⟩, ⟨0, 4, .ro, []⟩]⟩,
  ⟨0x144, 1, 0x4, 0x0, 0, none, [⟨12, 1, .rw, []⟩, ⟨11, 1, .rw, []⟩, ⟨10, 1, .rw, []⟩, ⟨9, 1, .rw, []⟩, ⟨8, 1, .rw, []⟩, ⟨7, 1, .rw, []⟩, ⟨0, 4, .rw, []⟩]⟩,
  ⟨0x180, 13, 0x4, 0x0, 0, none, [⟨0, 32, .ro, []⟩]⟩,
  ⟨0x200, 16, 0x4, 0x0, 0, none, [⟨0, 32, .ro, []⟩]⟩,
  ⟨0x8000, 4096, 0x4, 0x0, 0, none, [⟨0, 32, .rw, []⟩]⟩]

/-- The registers of TNT. -/
def regsTnt : List RegSpec := [
  ⟨0x0, 1, 0x4, 0x0, 0, none, [⟨16, 11, .ro, []⟩, ⟨0, 12, .ro, []⟩]⟩,
  ⟨0x4, 1, 0x4, 0x808, 0, none, [⟨8, 8, .rw, [(4, 255)]⟩, ⟨0, 8, .rw, [(1, 255)]⟩]⟩,
  ⟨0x8, 1, 0x4, 0x0, 0, none, [⟨28, 4, .wo, []⟩, ⟨0, 16, .wo, []⟩]⟩,
  ⟨0xC, 1, 0x4, 0x0, 0, none, [⟨16, 16, .ro, []⟩, ⟨0, 16, .ro, []⟩]⟩,
  ⟨0x10, 1, 0x4, 0x0, 0, none, [⟨3, 29, .wo, []⟩]⟩,
  ⟨0x14, 1, 0x4, 0x0, 0, none, [⟨16, 16, .ro, []⟩, ⟨0, 16, .ro, []⟩]⟩,
  ⟨0x18, 1, 0x4, 0x0, 0, none, [⟨0, 24, .rw, []⟩]⟩,
  ⟨0x20, 1, 0x4, 0x0, 0, none, [⟨7, 1, .w1c, []⟩, ⟨6, 1, .w1c, []⟩, ⟨5, 1, .w1c, []⟩, ⟨4, 1, .w1c, []⟩, ⟨3, 1, .w1c, []⟩, ⟨2, 1, .w1c, []⟩, ⟨1, 1, .w1c, []⟩, ⟨0, 1, .w1c, []⟩]⟩,
  ⟨0x24, 1, 0x4, 0x0, 0, none, [⟨7, 1, .rw, []⟩, ⟨6, 1, .rw, []⟩, ⟨5, 1, .rw, []⟩, ⟨4, 1, .rw, []⟩, ⟨3, 1, .rw, []⟩, ⟨2, 1, .rw, []⟩, ⟨1, 1, .rw, []⟩, ⟨0, 1, .rw, []⟩]⟩,
  ⟨0x40, 8, 0x4, 0x0, 0, none, [⟨31, 1, .ro, []⟩, ⟨30, 1, .ro, []⟩, ⟨16, 11, .ro, []⟩, ⟨0, 12, .ro, []⟩]⟩,
  ⟨0x100, 64, 0x4, 0x0, 0, none, [⟨0, 32, .ro, []⟩]⟩,
  ⟨0x200, 32, 0x4, 0x0, 0, none, [⟨0, 32, .ro, []⟩]⟩]

/-- The registers of NTM. -/
def regsNtm : List RegSpec := [
  ⟨0x0, 1, 0x4, 0xF000000, 0, none, [⟨24, 4, .ro, []⟩, ⟨23, 1, .ro, []⟩, ⟨22, 1, .ro, []⟩, ⟨21, 1, .ro, []⟩, ⟨20, 1, .ro, []⟩, ⟨16, 2, .ro, []⟩, ⟨8, 3, .ro, []⟩, ⟨7, 1, .ro, []⟩]⟩,
  ⟨0x4, 1, 0x4, 0x640A13, 0, some (0x4, 31), [⟨31, 1, .w1s, []⟩, ⟨24, 2, .rwl, []⟩, ⟨16, 8, .rwl, [(1, 200)]⟩, ⟨8, 8, .rwl, []⟩, ⟨4, 3, .rwl, []⟩, ⟨0, 4, .rwl, []⟩]⟩,
  ⟨0x8, 1, 0x4, 0x0, 0, none, [⟨4, 1, .wo, []⟩, ⟨3, 1, .wo, []⟩, ⟨2, 1, .wo, []⟩, ⟨1, 1, .wo, []⟩, ⟨0, 1, .wo, []⟩]⟩,
  ⟨0xC, 1, 0x4, 0x0, 0, none, [⟨0, 32, .rw, []⟩]⟩,
  ⟨0x10, 1, 0x4, 0x19, 0, none, [⟨0, 8, .rw, []⟩]⟩,
  ⟨0x14, 1, 0x4, 0x0, 0, none, [⟨0, 32, .rw, []⟩]⟩,
  ⟨0x18, 1, 0x4, 0x0, 0, none, [⟨0, 32, .ro, []⟩]⟩,
  ⟨0x20, 1, 0x4, 0x0, 0, none, [⟨0, 32, .rw, []⟩]⟩,
  ⟨0x24, 1, 0x4, 0x0, 0, none, [⟨0, 32, .rw, []⟩]⟩,
  ⟨0x28, 1, 0x4, 0x0, 0, none, [⟨0, 32, .ro, []⟩]⟩,
  ⟨0x2C, 1, 0x4, 0x0, 0, none, [⟨0, 32, .ro, []⟩]⟩,
  ⟨0x30, 1, 0x4, 0x0, 0, none, [⟨0, 32, .ro, []⟩]⟩,
  ⟨0x34, 1, 0x4, 0x0, 0, none, [⟨0, 32, .ro, []⟩]⟩,
  ⟨0x38, 1, 0x4, 0x0, 0, none, [⟨0, 32, .ro, []⟩]⟩,
  ⟨0x40, 1, 0x4, 0x0, 0, none, [⟨0, 32, .ro, []⟩]⟩,
  ⟨0x44, 1, 0x4, 0x0, 0, none, [⟨0, 32, .ro, []⟩]⟩,
  ⟨0x50, 1, 0x4, 0xFFFF, 0, none, [⟨0, 16, .rw, []⟩]⟩,
  ⟨0x54, 1, 0x4, 0x0, 0, none, [⟨0, 16, .rw, []⟩]⟩,
  ⟨0x58, 1, 0x4, 0x0, 0, none, [⟨24, 8, .rw, []⟩, ⟨16, 8, .rw, []⟩, ⟨8, 8, .rw, []⟩, ⟨0, 8, .rw, []⟩]⟩,
  ⟨0x5C, 1, 0x4, 0x0, 0, none, [⟨0, 32, .ro, []⟩]⟩,
  ⟨0x60, 1, 0x4, 0x431428, 0, none, [⟨31, 1, .rw, []⟩, ⟨29, 2, .rw, [(0, 2)]⟩, ⟨28, 1, .rw, []⟩, ⟨20, 4, .rw, [(2, 15)]⟩, ⟨16, 4, .rw, [(1, 15)]⟩, ⟨8, 8, .rw, [(1, 200)]⟩, ⟨0, 6, .rw, [(1, 40)]⟩]⟩,
  ⟨0x64, 1, 0x4, 0x7D0, 0, none, [⟨0, 12, .rw, [(100, 2000)]⟩]⟩,
  ⟨0x68, 1, 0x4, 0x0, 0, none, [⟨0, 32, .rw, [(0, 499999999), (3794967296, 4294967295)]⟩]⟩,
  ⟨0x6C, 1, 0x4, 0x80000000, 0, none, [⟨0, 32, .ro, []⟩]⟩,
  ⟨0x70, 1, 0x4, 0x0, 0, none, [⟨0, 32, .ro, []⟩]⟩,
  ⟨0x74, 1, 0x4, 0x0, 0, none, [⟨0, 32, .ro, []⟩]⟩,
  ⟨0x78, 1, 0x4, 0x0, 0, none, [⟨0, 32, .ro, []⟩]⟩,
  ⟨0x7C, 1, 0x4, 0x0, 0, none, [⟨0, 32, .ro, []⟩]⟩,
  ⟨0x80, 1, 0x4, 0x0, 0, none, [⟨7, 1, .w1c, []⟩, ⟨6, 1, .w1c, []⟩, ⟨5, 1, .w1c, []⟩, ⟨4, 1, .w1c, []⟩, ⟨3, 1, .w1c, []⟩, ⟨2, 1, .w1c, []⟩, ⟨1, 1, .w1c, []⟩, ⟨0, 1, .w1c, []⟩]⟩,
  ⟨0x84, 1, 0x4, 0x0, 0, none, [⟨7, 1, .rw, []⟩, ⟨6, 1, .rw, []⟩, ⟨5, 1, .rw, []⟩, ⟨4, 1, .rw, []⟩, ⟨3, 1, .rw, []⟩, ⟨2, 1, .rw, []⟩, ⟨1, 1, .rw, []⟩, ⟨0, 1, .rw, []⟩]⟩,
  ⟨0x100, 8, 0x4, 0x0, 0, none, [⟨0, 32, .ro, []⟩]⟩]

/-- The registers of JRN. -/
def regsJrn : List RegSpec := [
  ⟨0x0, 1, 0x4, 0x0, 0, none, [⟨20, 2, .ro, []⟩, ⟨19, 1, .ro, []⟩, ⟨18, 1, .ro, []⟩, ⟨0, 14, .ro, []⟩]⟩,
  ⟨0x4, 1, 0x4, 0xA00, 0, some (0x4, 31), [⟨31, 1, .w1s, []⟩, ⟨8, 8, .rwl, [(1, 255)]⟩, ⟨2, 1, .rwl, []⟩, ⟨1, 1, .rwl, []⟩, ⟨0, 1, .rwl, []⟩]⟩,
  ⟨0x8, 1, 0x4, 0xE1007D0, 0, none, [⟨16, 16, .rw, [(60, 65535)]⟩, ⟨0, 16, .rw, [(100, 65535)]⟩]⟩,
  ⟨0xC, 1, 0x4, 0x10400, 0, some (0xC, 31), [⟨31, 1, .w1s, []⟩, ⟨11, 16, .rwl, []⟩, ⟨0, 11, .rwl, [(16, 1024)]⟩]⟩,
  ⟨0x10, 1, 0x4, 0x0, 0, none, [⟨31, 1, .ro, []⟩, ⟨30, 1, .ro, []⟩, ⟨16, 14, .ro, []⟩, ⟨0, 16, .ro, []⟩]⟩,
  ⟨0x14, 1, 0x4, 0x0, 0, none, [⟨3, 29, .wo, []⟩]⟩,
  ⟨0x18, 1, 0x4, 0x0, 0, none, [⟨16, 16, .ro, []⟩, ⟨0, 16, .ro, []⟩]⟩,
  ⟨0x1C, 1, 0x4, 0x0, 0, none, [⟨0, 32, .ro, []⟩]⟩,
  ⟨0x20, 1, 0x4, 0x0, 0, none, [⟨0, 32, .wo, []⟩]⟩,
  ⟨0x24, 1, 0x4, 0x0, 0, none, [⟨16, 16, .ro, []⟩]⟩,
  ⟨0x28, 1, 0x4, 0x0, 0, none, [⟨0, 32, .rw, []⟩]⟩,
  ⟨0x2C, 1, 0x4, 0x0, 0, none, [⟨28, 4, .wo, []⟩, ⟨0, 12, .wo, []⟩]⟩,
  ⟨0x30, 1, 0x4, 0x0, 0, none, [⟨16, 16, .ro, []⟩, ⟨0, 12, .ro, []⟩]⟩,
  ⟨0x34, 1, 0x4, 0x0, 0, none, [⟨0, 32, .ro, []⟩]⟩,
  ⟨0x38, 1, 0x4, 0x0, 0, none, [⟨16, 11, .ro, []⟩, ⟨0, 16, .ro, []⟩]⟩,
  ⟨0x3C, 1, 0x4, 0x0, 0, none, [⟨31, 1, .ro, []⟩, ⟨0, 16, .ro, []⟩]⟩,
  ⟨0x40, 1, 0x4, 0x1000, 0, none, [⟨8, 5, .rw, [(1, 31)]⟩]⟩,
  ⟨0x44, 1, 0x4, 0x0, 0, none, [⟨3, 29, .rw, []⟩]⟩,
  ⟨0x48, 1, 0x4, 0x0, 0, none, [⟨0, 11, .rw, [(0, 1024)]⟩]⟩,
  ⟨0x4C, 1, 0x4, 0xFFFF, 0, none, [⟨0, 16, .rw, []⟩]⟩,
  ⟨0x60, 1, 0x4, 0x0, 0, none, [⟨15, 1, .w1c, []⟩, ⟨14, 1, .w1c, []⟩, ⟨13, 1, .w1c, []⟩, ⟨12, 1, .w1c, []⟩, ⟨11, 1, .w1c, []⟩, ⟨10, 1, .w1c, []⟩, ⟨9, 1, .w1c, []⟩, ⟨8, 1, .w1c, []⟩, ⟨6, 1, .w1c, []⟩, ⟨5, 1, .w1c, []⟩, ⟨4, 1, .w1c, []⟩, ⟨0, 4, .ro, []⟩]⟩,
  ⟨0x64, 1, 0x4, 0x0, 0, none, [⟨15, 1, .rw, []⟩, ⟨14, 1, .rw, []⟩, ⟨13, 1, .rw, []⟩, ⟨12, 1, .rw, []⟩, ⟨11, 1, .rw, []⟩, ⟨10, 1, .rw, []⟩, ⟨9, 1, .rw, []⟩, ⟨8, 1, .rw, []⟩, ⟨6, 1, .rw, []⟩, ⟨5, 1, .rw, []⟩, ⟨4, 1, .rw, []⟩, ⟨0, 4, .rw, []⟩]⟩,
  ⟨0x100, 4, 0x10, 0x0, 0, none, [⟨6, 26, .rw, []⟩]⟩,
  ⟨0x104, 4, 0x10, 0x0, 0, none, [⟨0, 3, .rw, [(0, 6)]⟩]⟩,
  ⟨0x108, 4, 0x10, 0x0, 0, none, [⟨0, 12, .ro, []⟩]⟩,
  ⟨0x10C, 4, 0x10, 0x0, 0, none, [⟨0, 12, .rw, []⟩]⟩,
  ⟨0x180, 8, 0x4, 0x0, 0, none, [⟨0, 32, .ro, []⟩]⟩,
  ⟨0x200, 32, 0x8, 0x0, 0, none, [⟨16, 16, .rw, []⟩, ⟨0, 16, .rw, []⟩]⟩,
  ⟨0x204, 32, 0x8, 0x0, 0, none, [⟨31, 1, .rw, []⟩, ⟨30, 1, .rw, []⟩, ⟨16, 3, .rw, [(0, 4)]⟩, ⟨0, 16, .rw, []⟩]⟩]

/-- The registers of HSL. -/
def regsHsl : List RegSpec := [
  ⟨0x0, 1, 0x4, 0x0, 0, none, [⟨16, 15, .ro, []⟩, ⟨7, 1, .ro, []⟩, ⟨6, 1, .ro, []⟩, ⟨5, 1, .ro, []⟩, ⟨4, 1, .ro, []⟩, ⟨2, 1, .ro, []⟩, ⟨0, 2, .ro, []⟩]⟩,
  ⟨0x4, 1, 0x4, 0x40000, 0, some (0x4, 31), [⟨31, 1, .w1s, []⟩, ⟨16, 4, .rwl, [(1, 15)]⟩, ⟨13, 1, .rwl, []⟩, ⟨8, 4, .rwl, [(0, 4)]⟩, ⟨0, 2, .rwl, [(0, 2)]⟩]⟩,
  ⟨0x8, 1, 0x4, 0x2400, 0, none, [⟨31, 1, .rw, []⟩, ⟨0, 17, .rw, [(96, 120000)]⟩]⟩,
  ⟨0xC, 1, 0x4, 0xFFFF, 0, none, [⟨31, 1, .rw, []⟩, ⟨0, 16, .rw, []⟩]⟩,
  ⟨0x10, 1, 0x4, 0x6407D0, 0, none, [⟨16, 16, .rw, [(1, 65535)]⟩, ⟨0, 16, .rw, [(100, 65535)]⟩]⟩,
  ⟨0x14, 1, 0x4, 0x0, 0, none, [⟨16, 8, .ro, []⟩, ⟨15, 1, .ro, []⟩, ⟨11, 4, .ro, []⟩, ⟨0, 7, .ro, []⟩]⟩,
  ⟨0x18, 1, 0x4, 0x0, 0, none, [⟨0, 32, .ro, []⟩]⟩,
  ⟨0x20, 1, 0x4, 0x0, 0, none, [⟨5, 1, .w1c, []⟩, ⟨4, 1, .w1c, []⟩, ⟨3, 1, .w1c, []⟩, ⟨2, 1, .w1c, []⟩, ⟨1, 1, .w1c, []⟩, ⟨0, 1, .w1c, []⟩]⟩,
  ⟨0x24, 1, 0x4, 0x0, 0, none, [⟨5, 1, .rw, []⟩, ⟨4, 1, .rw, []⟩, ⟨3, 1, .rw, []⟩, ⟨2, 1, .rw, []⟩, ⟨1, 1, .rw, []⟩, ⟨0, 1, .rw, []⟩]⟩,
  ⟨0x40, 8, 0x4, 0x0, 0, none, [⟨0, 32, .ro, []⟩]⟩]

/-- The registers of FLC. -/
def regsFlc : List RegSpec := [
  ⟨0x0, 1, 0x4, 0x0, 0, none, [⟨10, 2, .ro, []⟩, ⟨8, 2, .ro, []⟩, ⟨5, 1, .ro, []⟩, ⟨4, 1, .ro, []⟩, ⟨1, 1, .ro, []⟩, ⟨0, 1, .ro, []⟩]⟩,
  ⟨0x4, 1, 0x4, 0x602, 0, none, [⟨8, 4, .rw, [(0, 6)]⟩, ⟨0, 3, .rw, [(1, 4)]⟩]⟩,
  ⟨0x8, 1, 0x4, 0x80001E00, 0, none, [⟨31, 1, .rw, []⟩, ⟨8, 8, .rw, [(1, 255)]⟩]⟩,
  ⟨0xC, 1, 0x4, 0x0, 0, none, [⟨16, 7, .ro, []⟩, ⟨0, 13, .ro, []⟩]⟩,
  ⟨0x10, 1, 0x4, 0x0, 0, none, [⟨0, 32, .ro, []⟩]⟩,
  ⟨0x14, 1, 0x4, 0x0, 0, none, [⟨0, 32, .ro, []⟩]⟩,
  ⟨0x18, 1, 0x4, 0x0, 0, none, [⟨0, 2, .ro, []⟩]⟩,
  ⟨0x1C, 1, 0x4, 0x0, 0, none, [⟨24, 1, .ro, []⟩, ⟨19, 3, .ro, []⟩, ⟨16, 3, .ro, []⟩, ⟨11, 3, .ro, []⟩, ⟨8, 3, .ro, []⟩]⟩,
  ⟨0x20, 1, 0x4, 0x0, 0, none, [⟨5, 1, .w1c, []⟩, ⟨4, 1, .w1c, []⟩, ⟨3, 1, .w1c, []⟩, ⟨2, 1, .w1c, []⟩, ⟨1, 1, .w1c, []⟩, ⟨0, 1, .w1c, []⟩]⟩,
  ⟨0x24, 1, 0x4, 0x0, 0, none, [⟨5, 1, .rw, []⟩, ⟨4, 1, .rw, []⟩, ⟨3, 1, .rw, []⟩, ⟨2, 1, .rw, []⟩, ⟨1, 1, .rw, []⟩, ⟨0, 1, .rw, []⟩]⟩,
  ⟨0x30, 1, 0x4, 0x0, 0, none, [⟨0, 10, .rw, []⟩]⟩,
  ⟨0x34, 1, 0x4, 0x0, 0, none, [⟨0, 32, .ro, []⟩]⟩,
  ⟨0x38, 1, 0x4, 0x0, 0, none, [⟨0, 32, .ro, []⟩]⟩,
  ⟨0x40, 16, 0x4, 0x0, 0, some (0x80, 31), [⟨31, 1, .rwl, []⟩, ⟨16, 13, .rwl, []⟩, ⟨0, 13, .rwl, []⟩]⟩,
  ⟨0x80, 1, 0x4, 0x0, 0, none, [⟨31, 1, .w1s, []⟩]⟩,
  ⟨0x100, 8, 0x4, 0x0, 0, none, [⟨0, 32, .ro, []⟩]⟩,
  ⟨0x200, 1, 0x4, 0x0, 0, none, [⟨31, 1, .rw, []⟩, ⟨0, 4, .rw, [(1, 6)]⟩]⟩,
  ⟨0x204, 1, 0x4, 0x0, 0, none, [⟨0, 32, .rw, []⟩]⟩,
  ⟨0x208, 1, 0x4, 0x0, 0, none, [⟨3, 29, .rw, []⟩]⟩,
  ⟨0x20C, 1, 0x4, 0x0, 0, none, [⟨16, 16, .ro, []⟩, ⟨0, 1, .ro, []⟩]⟩]

/-- The registers of CRY. -/
def regsCry : List RegSpec := [
  ⟨0x0, 1, 0x4, 0x0, 0, none, [⟨19, 1, .ro, []⟩, ⟨16, 3, .ro, []⟩, ⟨11, 1, .ro, []⟩, ⟨8, 3, .ro, []⟩, ⟨0, 8, .ro, []⟩]⟩,
  ⟨0x4, 1, 0x4, 0x0, 0, none, [⟨9, 1, .w1c, []⟩, ⟨8, 1, .w1c, []⟩, ⟨0, 8, .w1c, []⟩]⟩,
  ⟨0x8, 1, 0x4, 0x0, 0, none, [⟨9, 1, .rw, []⟩, ⟨8, 1, .rw, []⟩, ⟨0, 8, .rw, []⟩]⟩,
  ⟨0x100, 8, 0x20, 0x0, 0, none, [⟨31, 1, .wo, []⟩, ⟨30, 1, .wo, []⟩, ⟨16, 8, .rw, []⟩, ⟨8, 1, .rw, []⟩]⟩,
  ⟨0x104, 8, 0x20, 0x0, 0, none, [⟨8, 5, .rw, []⟩, ⟨0, 5, .rw, []⟩]⟩,
  ⟨0x108, 8, 0x20, 0x0, 0, none, [⟨0, 32, .rw, []⟩]⟩,
  ⟨0x10C, 8, 0x20, 0x0, 0, none, [⟨0, 32, .rw, []⟩]⟩,
  ⟨0x110, 8, 0x20, 0x0, 0, none, [⟨0, 24, .rw, []⟩]⟩,
  ⟨0x114, 8, 0x20, 0x0, 0, none, [⟨0, 32, .rw, []⟩]⟩,
  ⟨0x118, 8, 0x20, 0x0, 0, none, [⟨16, 16, .ro, []⟩, ⟨15, 1, .ro, []⟩, ⟨0, 12, .ro, []⟩]⟩,
  ⟨0x300, 8, 0x4, 0x0, 0, none, [⟨0, 32, .ro, []⟩]⟩]

/-- The registers of RNG. -/
def regsRng : List RegSpec := [
  ⟨0x0, 1, 0x4, 0x0, 0, none, [⟨16, 8, .ro, []⟩, ⟨8, 2, .ro, []⟩, ⟨0, 3, .ro, []⟩]⟩,
  ⟨0x4, 1, 0x4, 0x1, 0, none, [⟨1, 1, .wo, []⟩, ⟨0, 1, .rw, []⟩]⟩,
  ⟨0x8, 1, 0x4, 0x0, 0, none, [⟨2, 4, .w1c, []⟩, ⟨1, 1, .w1c, []⟩, ⟨0, 1, .w1c, []⟩]⟩,
  ⟨0xC, 1, 0x4, 0x0, 0, none, [⟨2, 4, .rw, []⟩, ⟨1, 1, .rw, []⟩, ⟨0, 1, .rw, []⟩]⟩,
  ⟨0x100, 4, 0x10, 0x0, 0, none, [⟨0, 32, .rw, []⟩]⟩,
  ⟨0x104, 4, 0x10, 0x0, 0, none, [⟨0, 13, .wo, [(1, 4096)]⟩]⟩,
  ⟨0x108, 4, 0x10, 0x0, 0, none, [⟨16, 16, .ro, []⟩, ⟨0, 1, .ro, []⟩]⟩,
  ⟨0x200, 8, 0x4, 0x0, 0, none, [⟨0, 32, .ro, []⟩]⟩]

/-- The registers of TMP. -/
def regsTmp : List RegSpec := [
  ⟨0x0, 1, 0x4, 0x0, 0, none, [⟨17, 1, .ro, []⟩, ⟨16, 1, .ro, []⟩, ⟨0, 11, .ro, []⟩]⟩,
  ⟨0x4, 1, 0x4, 0x0, 0, none, [⟨0, 11, .w1c, []⟩]⟩,
  ⟨0x8, 1, 0x4, 0x150000, 0, some (0x18, 31), [⟨0, 22, .rwl, []⟩]⟩,
  ⟨0xC, 1, 0x4, 0x0, 0, none, [⟨0, 22, .ro, []⟩]⟩,
  ⟨0x10, 1, 0x4, 0x0, 0, some (0x18, 31), [⟨0, 16, .rwl, []⟩]⟩,
  ⟨0x14, 1, 0x4, 0x7, 0, some (0x18, 31), [⟨0, 3, .rwl, []⟩]⟩,
  ⟨0x18, 1, 0x4, 0x2000, 0, some (0x18, 31), [⟨31, 1, .w1s, []⟩, ⟨8, 8, .rwl, [(1, 255)]⟩, ⟨4, 1, .rwl, []⟩, ⟨0, 4, .rwl, [(0, 3), (13, 15)]⟩]⟩,
  ⟨0x1C, 1, 0x4, 0xF, 0, none, [⟨16, 16, .ro, []⟩, ⟨8, 2, .ro, []⟩, ⟨0, 4, .ro, []⟩]⟩,
  ⟨0x20, 1, 0x4, 0x0, 0, none, [⟨0, 11, .w1c, []⟩]⟩,
  ⟨0x24, 1, 0x4, 0x0, 0, none, [⟨0, 11, .rw, []⟩]⟩]

/-- The registers of KEY. -/
def regsKey : List RegSpec := [
  ⟨0x0, 1, 0x4, 0x1, 0, none, [⟨0, 1, .ro, []⟩]⟩,
  ⟨0x4, 1, 0x4, 0x0, 0, none, [⟨0, 32, .ro, []⟩]⟩,
  ⟨0x8, 1, 0x4, 0x0, 0, none, [⟨31, 1, .wo, []⟩, ⟨16, 5, .wo, []⟩, ⟨8, 6, .wo, []⟩, ⟨6, 2, .wo, []⟩, ⟨0, 6, .wo, []⟩]⟩,
  ⟨0xC, 1, 0x4, 0x0, 0, none, [⟨16, 16, .ro, []⟩]⟩,
  ⟨0x10, 8, 0x4, 0x0, 0, none, [⟨0, 32, .wo, []⟩]⟩,
  ⟨0x30, 1, 0x4, 0x0, 0, none, [⟨0, 32, .wo, []⟩]⟩,
  ⟨0x34, 1, 0x4, 0x0, 0, none, [⟨31, 1, .rw, []⟩, ⟨0, 4, .rw, []⟩]⟩,
  ⟨0x38, 1, 0x4, 0x0, 0, none, [⟨0, 32, .ro, []⟩]⟩,
  ⟨0x40, 8, 0x4, 0x0, 0, none, [⟨0, 32, .ro, []⟩]⟩,
  ⟨0x80, 32, 0x4, 0x0, 0, none, [⟨31, 1, .ro, []⟩, ⟨30, 1, .ro, []⟩, ⟨8, 6, .ro, []⟩, ⟨6, 2, .ro, []⟩, ⟨0, 6, .ro, []⟩]⟩,
  ⟨0x100, 16, 0x4, 0x0, 0, none, [⟨0, 32, .ro, []⟩]⟩,
  ⟨0x140, 1, 0x4, 0x0, 0, none, [⟨3, 1, .w1c, []⟩, ⟨2, 1, .w1c, []⟩, ⟨1, 1, .w1c, []⟩, ⟨0, 1, .w1c, []⟩]⟩,
  ⟨0x144, 1, 0x4, 0x0, 0, none, [⟨3, 1, .rw, []⟩, ⟨2, 1, .rw, []⟩, ⟨1, 1, .rw, []⟩, ⟨0, 1, .rw, []⟩]⟩]

/-- The registers of ICU, the bank of a Pip core (R518). -/
def regsIcuPip : List RegSpec := [
  ⟨0x0, 1, 0x4, 0x80, 0, none, [⟨8, 5, .ro, []⟩, ⟨7, 1, .ro, []⟩, ⟨0, 4, .ro, []⟩]⟩,
  ⟨0x4, 1, 0x4, 0x0, 0, none, [⟨0, 11, .wo, []⟩]⟩,
  ⟨0x8, 1, 0x4, 0x0, 0, none, [⟨0, 4, .rw, []⟩]⟩,
  ⟨0xC, 1, 0x4, 0x0, 0, none, [⟨0, 5, .wo, []⟩]⟩,
  ⟨0x10, 1, 0x4, 0x0, 0, none, [⟨6, 26, .rw, []⟩]⟩,
  ⟨0x14, 1, 0x4, 0x0, 0, none, [⟨31, 1, .rw, []⟩, ⟨0, 3, .rw, [(0, 6)]⟩]⟩,
  ⟨0x18, 1, 0x4, 0x0, 0, none, [⟨0, 12, .ro, []⟩]⟩,
  ⟨0x1C, 1, 0x4, 0x0, 0, none, [⟨0, 12, .rw, []⟩]⟩,
  ⟨0x20, 1, 0x4, 0x0, 0, none, [⟨0, 32, .rw, []⟩]⟩,
  ⟨0x24, 1, 0x4, 0x0, 0, none, [⟨0, 3, .rw, []⟩]⟩,
  ⟨0x28, 1, 0x4, 0x0, 0, none, [⟨0, 32, .ro, []⟩]⟩,
  ⟨0x2C, 1, 0x4, 0x0, 0, none, [⟨0, 32, .ro, []⟩]⟩,
  ⟨0x30, 1, 0x4, 0x0, 0, none, [⟨0, 32, .ro, []⟩]⟩,
  ⟨0x34, 1, 0x4, 0x0, 0, none, [⟨0, 32, .ro, []⟩]⟩,
  ⟨0x40, 1, 0x4, 0x0, 0, none, [⟨2, 1, .w1c, []⟩, ⟨1, 1, .w1c, []⟩, ⟨0, 1, .w1c, []⟩]⟩,
  ⟨0x44, 1, 0x4, 0x0, 0, none, [⟨2, 1, .rw, []⟩, ⟨1, 1, .rw, []⟩, ⟨0, 1, .rw, []⟩]⟩,
  ⟨0x48, 1, 0x4, 0x0, 0, none, [⟨0, 32, .ro, []⟩]⟩,
  ⟨0x50, 3, 0x4, 0x0, 0, none, [⟨0, 32, .ro, []⟩]⟩,
  ⟨0x80, 8, 0x4, 0x0, 0, none, [⟨0, 32, .rw, []⟩]⟩]

/-- The registers of ICU, the sentinel bank (R518). -/
def regsIcuSentinel : List RegSpec := [
  ⟨0x0, 1, 0x4, 0x80, 0, none, [⟨8, 5, .ro, []⟩, ⟨7, 1, .ro, []⟩, ⟨0, 4, .ro, []⟩]⟩,
  ⟨0x4, 1, 0x4, 0x0, 0, none, [⟨0, 11, .wo, []⟩]⟩,
  ⟨0x8, 1, 0x4, 0x0, 0, none, [⟨0, 4, .rw, []⟩]⟩,
  ⟨0xC, 1, 0x4, 0x0, 0, none, [⟨0, 5, .wo, []⟩]⟩,
  ⟨0x10, 1, 0x4, 0x0, 0, none, [⟨6, 26, .rw, []⟩]⟩,
  ⟨0x14, 1, 0x4, 0x0, 0, none, [⟨31, 1, .rw, []⟩, ⟨0, 3, .rw, [(0, 6)]⟩]⟩,
  ⟨0x18, 1, 0x4, 0x0, 0, none, [⟨0, 12, .ro, []⟩]⟩,
  ⟨0x1C, 1, 0x4, 0x0, 0, none, [⟨0, 12, .rw, []⟩]⟩,
  ⟨0x40, 1, 0x4, 0x0, 0, none, [⟨2, 1, .w1c, []⟩, ⟨1, 1, .w1c, []⟩, ⟨0, 1, .w1c, []⟩]⟩,
  ⟨0x44, 1, 0x4, 0x0, 0, none, [⟨2, 1, .rw, []⟩, ⟨1, 1, .rw, []⟩, ⟨0, 1, .rw, []⟩]⟩,
  ⟨0x48, 1, 0x4, 0x0, 0, none, [⟨0, 32, .ro, []⟩]⟩,
  ⟨0x50, 3, 0x4, 0x0, 0, none, [⟨0, 32, .ro, []⟩]⟩,
  ⟨0x100, 2, 0x4, 0x0, 0, none, [⟨0, 32, .rw, []⟩]⟩,
  ⟨0x108, 1, 0x4, 0x0, 0, none, [⟨0, 5, .rw, []⟩]⟩,
  ⟨0x110, 3, 0x4, 0x0, 0, none, [⟨0, 32, .ro, []⟩]⟩,
  ⟨0x120, 3, 0x4, 0x0, 0, none, [⟨0, 32, .ro, []⟩]⟩]

/-- The registers of ICUC, the common area of the ICU (R518). -/
def regsIcuCommon : List RegSpec := [
  ⟨0x0, 28, 0x4, 0x0, 0, none, [⟨0, 32, .rw, []⟩]⟩,
  ⟨0x100, 28, 0x4, 0x0, 0, none, [⟨0, 32, .ro, []⟩]⟩,
  ⟨0x200, 28, 0x4, 0x0, 0, none, [⟨0, 32, .ro, []⟩]⟩,
  ⟨0x300, 1, 0x4, 0x0, 0, none, [⟨0, 10, .wo, []⟩]⟩,
  ⟨0x304, 1, 0x4, 0x0, 0, none, [⟨0, 10, .wo, []⟩]⟩,
  ⟨0x308, 1, 0x4, 0x40, 0, none, [⟨0, 10, .rw, [(64, 959)]⟩]⟩,
  ⟨0x30C, 1, 0x4, 0x0, 0, none, [⟨31, 1, .ro, []⟩, ⟨30, 1, .ro, []⟩, ⟨29, 1, .ro, []⟩, ⟨28, 1, .ro, []⟩, ⟨0, 19, .ro, []⟩]⟩]

/-- The registers of EVF. -/
def regsEvf : List RegSpec := [
  ⟨0x0, 1, 0x4, 0x0, 0, none, [⟨2, 1, .w1c, []⟩, ⟨1, 1, .w1c, []⟩, ⟨0, 1, .w1c, []⟩]⟩,
  ⟨0x4, 1, 0x4, 0x0, 0, none, [⟨0, 8, .wo, []⟩]⟩,
  ⟨0x8, 1, 0x4, 0x0, 0, none, [⟨0, 16, .w1s, []⟩]⟩,
  ⟨0xC, 1, 0x4, 0x0, 0, none, [⟨0, 16, .w1c, []⟩]⟩,
  ⟨0x10, 1, 0x4, 0x0, 0, none, [⟨0, 32, .ro, []⟩]⟩,
  ⟨0x14, 1, 0x4, 0x0, 0, none, [⟨0, 8, .rw, []⟩]⟩,
  ⟨0x18, 1, 0x4, 0x0, 0, none, [⟨31, 1, .ro, []⟩, ⟨30, 1, .ro, []⟩, ⟨29, 1, .ro, []⟩, ⟨24, 4, .ro, []⟩, ⟨23, 1, .ro, []⟩, ⟨0, 10, .ro, []⟩]⟩,
  ⟨0x20, 8, 0x4, 0x0, 0, none, [⟨0, 32, .wo, []⟩]⟩,
  ⟨0x40, 8, 0x4, 0x0, 0, none, [⟨0, 32, .ro, []⟩]⟩,
  ⟨0x80, 1, 0x4, 0x0, 0, none, [⟨0, 32, .ro, []⟩]⟩,
  ⟨0x84, 1, 0x4, 0x0, 0, none, [⟨0, 32, .ro, []⟩]⟩,
  ⟨0x88, 1, 0x4, 0x0, 0, none, [⟨0, 32, .ro, []⟩]⟩,
  ⟨0x8C, 1, 0x4, 0x0, 0, none, [⟨0, 32, .ro, []⟩]⟩,
  ⟨0x1000, 256, 0x4, 0x0, 0, none, [⟨0, 32, .ro, []⟩]⟩,
  ⟨0x8000, 1, 0x4, 0x0, 0, none, [⟨1, 1, .w1c, []⟩, ⟨0, 1, .w1c, []⟩]⟩,
  ⟨0x8004, 1, 0x4, 0x0, 0, none, [⟨0, 8, .wo, []⟩]⟩,
  ⟨0x8008, 1, 0x4, 0x0, 0, none, [⟨0, 32, .ro, []⟩]⟩,
  ⟨0x800C, 1, 0x4, 0x0, 0, none, [⟨0, 32, .ro, []⟩]⟩,
  ⟨0x8010, 1, 0x4, 0x0, 0, none, [⟨0, 32, .ro, []⟩]⟩,
  ⟨0x8100, 64, 0x4, 0x0, 0, none, [⟨0, 32, .ro, []⟩]⟩]

/-- The registers of TMB. -/
def regsTmb : List RegSpec := [
  ⟨0x0, 1, 0x4, 0x0, 0, none, [⟨0, 1, .ro, []⟩]⟩,
  ⟨0x4, 1, 0x4, 0x0, 0, none, [⟨0, 1, .wo, []⟩]⟩,
  ⟨0x8, 1, 0x4, 0x0, 0, none, [⟨0, 32, .ro, []⟩]⟩,
  ⟨0xC, 1, 0x4, 0x0, 0, none, [⟨0, 32, .ro, []⟩]⟩,
  ⟨0x10, 1, 0x4, 0x0, 0, none, [⟨0, 32, .rw, []⟩]⟩,
  ⟨0x14, 1, 0x4, 0x0, 0, none, [⟨0, 32, .rw, []⟩]⟩,
  ⟨0x18, 1, 0x4, 0x0, 0, none, [⟨0, 32, .rw, []⟩]⟩,
  ⟨0x1C, 1, 0x4, 0x0, 0, none, [⟨31, 1, .wo, []⟩, ⟨8, 7, .wo, []⟩, ⟨0, 7, .wo, []⟩]⟩,
  ⟨0x40, 3, 0x4, 0x0, 0, none, [⟨0, 32, .w1c, []⟩]⟩,
  ⟨0x50, 3, 0x4, 0x0, 0, none, [⟨0, 32, .rw, []⟩]⟩,
  ⟨0x60, 1, 0x4, 0x0, 0, none, [⟨0, 32, .w1c, []⟩]⟩,
  ⟨0x64, 1, 0x4, 0x0, 0, none, [⟨0, 32, .rw, []⟩]⟩,
  ⟨0x68, 1, 0x4, 0x0, 0, none, [⟨0, 16, .w1c, []⟩]⟩,
  ⟨0x6C, 1, 0x4, 0x0, 0, none, [⟨0, 16, .rw, []⟩]⟩,
  ⟨0x80, 8, 0x4, 0x0, 0, none, [⟨0, 32, .ro, []⟩]⟩,
  ⟨0x1000, 96, 0x10, 0x0, 0, none, [⟨0, 32, .rw, []⟩]⟩,
  ⟨0x1004, 96, 0x10, 0x0, 0, none, [⟨0, 32, .rw, []⟩]⟩,
  ⟨0x1008, 96, 0x10, 0x0, 0, none, [⟨0, 32, .rw, []⟩]⟩,
  ⟨0x100C, 96, 0x10, 0x0, 0, none, [⟨31, 1, .rw, []⟩, ⟨30, 1, .rw, []⟩, ⟨16, 8, .ro, []⟩, ⟨2, 1, .ro, []⟩, ⟨1, 1, .ro, []⟩]⟩,
  ⟨0x2000, 32, 0x10, 0x0, 0, none, [⟨0, 32, .ro, []⟩]⟩,
  ⟨0x2004, 32, 0x10, 0x0, 0, none, [⟨0, 32, .ro, []⟩]⟩,
  ⟨0x2008, 32, 0x10, 0x0, 0, none, [⟨31, 1, .rc, []⟩, ⟨30, 1, .rc, []⟩, ⟨29, 1, .ro, []⟩]⟩,
  ⟨0x3000, 16, 0x10, 0x0, 0, none, [⟨0, 32, .ro, []⟩]⟩,
  ⟨0x3004, 16, 0x10, 0x0, 0, none, [⟨0, 32, .ro, []⟩]⟩,
  ⟨0x3008, 16, 0x10, 0x0, 0, none, [⟨31, 1, .rc, []⟩, ⟨30, 1, .rc, []⟩, ⟨29, 1, .ro, []⟩, ⟨28, 1, .ro, []⟩, ⟨27, 1, .ro, []⟩, ⟨26, 1, .ro, []⟩, ⟨25, 1, .ro, []⟩, ⟨24, 1, .ro, []⟩]⟩,
  ⟨0x300C, 16, 0x10, 0x0, 0, none, [⟨0, 1, .rw, []⟩]⟩]

/-- The registers of SNP. -/
def regsSnp : List RegSpec := [
  ⟨0x0, 1, 0x4, 0x0, 0, none, [⟨8, 1, .ro, []⟩, ⟨4, 1, .ro, []⟩]⟩,
  ⟨0x4, 1, 0x4, 0x1FF, 0, none, [⟨31, 1, .rw, []⟩, ⟨0, 9, .rw, []⟩]⟩,
  ⟨0x8, 1, 0x4, 0x0, 0, none, [⟨0, 1, .wo, []⟩]⟩,
  ⟨0xC, 1, 0x4, 0x0, 0, none, [⟨0, 2, .rw, []⟩]⟩,
  ⟨0x10, 1, 0x4, 0x0, 0, none, [⟨0, 1, .rw, []⟩]⟩,
  ⟨0x14, 1, 0x4, 0x0, 0, none, [⟨0, 32, .ro, []⟩]⟩,
  ⟨0x18, 1, 0x4, 0x0, 0, none, [⟨0, 32, .ro, []⟩]⟩,
  ⟨0x1C, 1, 0x4, 0x0, 0, none, [⟨0, 32, .ro, []⟩]⟩,
  ⟨0x20, 1, 0x4, 0x0, 0, none, [⟨0, 32, .ro, []⟩]⟩,
  ⟨0x24, 1, 0x4, 0x0, 0, none, [⟨0, 32, .ro, []⟩]⟩,
  ⟨0x28, 1, 0x4, 0x0, 0, none, [⟨0, 32, .ro, []⟩]⟩,
  ⟨0x30, 1, 0x4, 0x0, 0, none, [⟨1, 1, .w1c, []⟩, ⟨0, 1, .w1c, []⟩]⟩,
  ⟨0x34, 1, 0x4, 0x0, 0, none, [⟨1, 1, .rw, []⟩, ⟨0, 1, .rw, []⟩]⟩,
  ⟨0x38, 1, 0x4, 0x0, 0, none, [⟨0, 32, .ro, []⟩]⟩,
  ⟨0x4000, 9459, 0x4, 0x0, 0, none, [⟨0, 32, .ro, []⟩]⟩]

/-- The registers of DALI. -/
def regsDali : List RegSpec := [
  ⟨0x0, 2, 0x40, 0x0, 0, none, [⟨31, 1, .rw, []⟩, ⟨1, 1, .rw, []⟩, ⟨0, 1, .rw, []⟩]⟩,
  ⟨0x4, 2, 0x40, 0x0, 0, none, [⟨0, 32, .rw, []⟩]⟩,
  ⟨0x8, 2, 0x40, 0x0, 0, none, [⟨31, 1, .wo, []⟩, ⟨11, 1, .wo, []⟩, ⟨8, 3, .wo, []⟩, ⟨0, 6, .wo, []⟩]⟩,
  ⟨0xC, 2, 0x40, 0x0, 0, none, [⟨16, 16, .ro, []⟩, ⟨3, 1, .ro, []⟩, ⟨2, 1, .ro, []⟩, ⟨1, 1, .ro, []⟩, ⟨0, 1, .ro, []⟩]⟩,
  ⟨0x10, 2, 0x40, 0x0, 0, none, [⟨0, 32, .ro, []⟩]⟩,
  ⟨0x14, 2, 0x40, 0x0, 0, none, [⟨15, 1, .rc, []⟩, ⟨14, 1, .rc, []⟩, ⟨0, 6, .rc, []⟩]⟩,
  ⟨0x18, 2, 0x40, 0x0, 0, none, [⟨4, 1, .w1c, []⟩, ⟨3, 1, .w1c, []⟩, ⟨2, 1, .w1c, []⟩, ⟨1, 1, .w1c, []⟩, ⟨0, 1, .w1c, []⟩]⟩,
  ⟨0x1C, 2, 0x40, 0x0, 0, none, [⟨4, 1, .rw, []⟩, ⟨3, 1, .rw, []⟩, ⟨2, 1, .rw, []⟩, ⟨1, 1, .rw, []⟩, ⟨0, 1, .rw, []⟩]⟩]

/-- The registers of DMO. -/
def regsDmo : List RegSpec := [
  ⟨0x0, 4, 0x10, 0x3E8, 0, none, [⟨31, 1, .rw, []⟩, ⟨30, 1, .rw, []⟩, ⟨29, 1, .rw, []⟩, ⟨0, 16, .rw, [(25, 10000)]⟩]⟩,
  ⟨0x4, 4, 0x10, 0x0, 0, none, [⟨0, 12, .rw, []⟩]⟩,
  ⟨0x8, 4, 0x10, 0x0, 0, none, [⟨0, 16, .rw, []⟩]⟩,
  ⟨0xC, 4, 0x10, 0x0, 0, none, [⟨31, 1, .ro, []⟩, ⟨0, 12, .ro, []⟩]⟩]

/-- The registers of MET. -/
def regsMet : List RegSpec := [
  ⟨0x0, 1, 0x4, 0x10000, 0, none, [⟨31, 1, .rw, []⟩, ⟨16, 8, .rw, [(1, 255)]⟩, ⟨0, 1, .wo, []⟩]⟩,
  ⟨0x4, 1, 0x4, 0x0, 0, none, [⟨1, 1, .ro, []⟩, ⟨0, 1, .ro, []⟩]⟩,
  ⟨0x8, 1, 0x4, 0x0, 0, none, [⟨0, 24, .rw, []⟩]⟩,
  ⟨0xC, 1, 0x4, 0x0, 0, none, [⟨0, 24, .rw, []⟩]⟩,
  ⟨0x10, 1, 0x4, 0x0, 0, none, [⟨0, 24, .rw, []⟩]⟩,
  ⟨0x14, 1, 0x4, 0x0, 0, none, [⟨0, 24, .rw, []⟩]⟩,
  ⟨0x18, 1, 0x4, 0x0, 0, none, [⟨0, 24, .rw, []⟩]⟩,
  ⟨0x1C, 1, 0x4, 0x0, 0, none, [⟨0, 24, .rw, []⟩]⟩,
  ⟨0x20, 1, 0x4, 0x0, 0, none, [⟨8, 8, .rw, []⟩, ⟨0, 8, .rw, []⟩]⟩,
  ⟨0x30, 1, 0x4, 0x0, 0, none, [⟨0, 32, .ro, []⟩]⟩,
  ⟨0x34, 1, 0x4, 0x0, 0, none, [⟨0, 32, .ro, []⟩]⟩,
  ⟨0x38, 1, 0x4, 0x0, 0, none, [⟨0, 32, .ro, []⟩]⟩,
  ⟨0x3C, 1, 0x4, 0x0, 0, none, [⟨0, 32, .ro, []⟩]⟩,
  ⟨0x40, 1, 0x4, 0x0, 0, none, [⟨0, 32, .ro, []⟩]⟩,
  ⟨0x44, 1, 0x4, 0x0, 0, none, [⟨0, 32, .ro, []⟩]⟩,
  ⟨0x48, 1, 0x4, 0x0, 0, none, [⟨0, 32, .ro, []⟩]⟩,
  ⟨0x4C, 1, 0x4, 0x0, 0, none, [⟨0, 32, .ro, []⟩]⟩,
  ⟨0x50, 1, 0x4, 0x0, 0, none, [⟨0, 32, .ro, []⟩]⟩,
  ⟨0x58, 1, 0x4, 0x0, 0, none, [⟨0, 32, .ro, []⟩]⟩,
  ⟨0x60, 1, 0x4, 0x0, 0, none, [⟨2, 1, .w1c, []⟩, ⟨1, 1, .w1c, []⟩, ⟨0, 1, .w1c, []⟩]⟩,
  ⟨0x64, 1, 0x4, 0x0, 0, none, [⟨2, 1, .rw, []⟩, ⟨1, 1, .rw, []⟩, ⟨0, 1, .rw, []⟩]⟩]

/-- The registers of SER. -/
def regsSer : List RegSpec := [
  ⟨0x0, 4, 0x1000, 0x0, 0, none, [⟨31, 1, .rw, []⟩, ⟨30, 1, .rw, []⟩, ⟨16, 10, .rw, []⟩, ⟨0, 2, .rw, [(0, 2)]⟩]⟩,
  ⟨0x4000, 4, 0x1000, 0x0, 0, none, [⟨31, 1, .rw, []⟩, ⟨0, 2, .rw, []⟩]⟩,
  ⟨0x8000, 4, 0x1000, 0x0, 0, none, [⟨31, 1, .rw, []⟩, ⟨4, 1, .rw, []⟩, ⟨2, 2, .rw, [(0, 2)]⟩, ⟨0, 1, .rw, []⟩]⟩,
  ⟨0x4, 12, 0x1000, 0x0, 0, none, [⟨16, 16, .ro, []⟩, ⟨13, 3, .ro, []⟩, ⟨7, 6, .ro, []⟩, ⟨6, 1, .ro, []⟩, ⟨0, 6, .ro, []⟩]⟩,
  ⟨0x8, 12, 0x1000, 0x0, 0, none, [⟨0, 8, .wo, []⟩]⟩,
  ⟨0xC, 12, 0x1000, 0x0, 0, none, [⟨0, 8, .ro, []⟩]⟩,
  ⟨0x10, 12, 0x1000, 0x0, 0, none, [⟨31, 1, .wo, []⟩, ⟨30, 1, .wo, []⟩, ⟨29, 1, .wo, []⟩, ⟨16, 10, .wo, []⟩, ⟨0, 16, .wo, []⟩]⟩,
  ⟨0x14, 12, 0x1000, 0x0, 0, none, [⟨0, 4, .w1c, []⟩]⟩,
  ⟨0x18, 12, 0x1000, 0x0, 0, none, [⟨0, 4, .rw, []⟩]⟩,
  ⟨0x1C, 4, 0x1000, 0x0, 0, none, [⟨0, 32, .rw, []⟩]⟩,
  ⟨0x401C, 4, 0x1000, 0x0, 0, none, [⟨0, 32, .rw, [(0, 25000000)]⟩]⟩,
  ⟨0x801C, 4, 0x1000, 0x0, 0, none, [⟨0, 32, .rw, [(300, 3000000)]⟩]⟩]

/-- The registers of BST. -/
def regsBst : List RegSpec := [
  ⟨0x0, 1, 0x4, 0x0, 0, none, [⟨31, 1, .wo, []⟩, ⟨0, 8, .wo, []⟩]⟩,
  ⟨0x4, 1, 0x4, 0x0, 0, none, [⟨16, 16, .ro, []⟩, ⟨8, 8, .ro, []⟩, ⟨0, 8, .ro, []⟩]⟩,
  ⟨0x8, 1, 0x4, 0x0, 0, none, [⟨0, 32, .ro, []⟩]⟩,
  ⟨0xC, 1, 0x4, 0x0, 0, none, [⟨0, 3, .rw, []⟩]⟩,
  ⟨0x10, 1, 0x4, 0x0, 0, none, [⟨0, 32, .ro, []⟩]⟩,
  ⟨0x14, 1, 0x4, 0x0, 0, none, [⟨0, 32, .ro, []⟩]⟩,
  ⟨0x18, 1, 0x4, 0x0, 0, none, [⟨0, 32, .ro, []⟩]⟩,
  ⟨0x1C, 1, 0x4, 0x0, 0, none, [⟨0, 32, .ro, []⟩]⟩,
  ⟨0x20, 1, 0x4, 0x0, 0, none, [⟨0, 1, .w1c, []⟩]⟩,
  ⟨0x24, 1, 0x4, 0x0, 0, none, [⟨0, 1, .rw, []⟩]⟩]

/-- The registers of FCR. -/
def regsFcr : List RegSpec := [
  ⟨0x0, 1, 0x4, 0x0, 0, none, [⟨16, 5, .ro, []⟩, ⟨8, 3, .ro, []⟩, ⟨1, 1, .ro, []⟩, ⟨0, 1, .ro, []⟩]⟩,
  ⟨0x4, 1, 0x4, 0x0, 0, none, [⟨0, 32, .ro, []⟩]⟩,
  ⟨0x8, 1, 0x4, 0x0, 0, none, [⟨0, 32, .ro, []⟩]⟩,
  ⟨0xC, 1, 0x4, 0x0, 0, none, [⟨0, 4, .rw, []⟩]⟩,
  ⟨0x10, 16, 0x4, 0x0, 0, none, [⟨0, 32, .ro, []⟩]⟩,
  ⟨0x60, 1, 0x4, 0x0, 0, none, [⟨1, 1, .w1c, []⟩, ⟨0, 1, .w1c, []⟩]⟩,
  ⟨0x64, 1, 0x4, 0x0, 0, none, [⟨1, 1, .rw, []⟩, ⟨0, 1, .rw, []⟩]⟩]

/-- The table and the offset in it of a register address: block bases of R34, banks of R518. An address outside every
block gives none. RFS and RFT share a table (R187). -/
def regTableAt (a : Nat) : Option (List RegSpec × Nat) :=
  if a < 0x40000000 || 0x41000000 ≤ a then none else
  let o := a % 0x10000
  match (a - 0x40000000) / 0x10000 with
  | 0x00 => some (regsPmu, o)
  | 0x01 => some (regsClk, o)
  | 0x02 => some (regsRst, o)
  | 0x03 => some (regsPad, o)
  | 0x04 => some (regsBrd, o)
  | 0x05 => some (regsSys, o)
  | 0x10 => some (regsRfs, o)
  | 0x11 => some (regsRfs, o)
  | 0x12 => some (regsWkr, o)
  | 0x13 => some (regsChz, o)
  | 0x14 => some (regsDmd, o)
  | 0x15 => some (regsDec, o)
  | 0x20 => some (regsLnk, o)
  | 0x21 => some (regsTnt, o)
  | 0x22 => some (regsNtm, o)
  | 0x23 => some (regsJrn, o)
  | 0x30 => some (regsHsl, o)
  | 0x40 => some (regsFlc, o)
  | 0x50 => some (regsCry, o)
  | 0x51 => some (regsRng, o)
  | 0x52 => some (regsTmp, o)
  | 0x53 => some (regsKey, o)
  | 0x60 =>
    if o < 0x4000 then some (regsIcuPip, o % 0x1000)
    else if 0x5000 ≤ o && o < 0x6000 then some (regsIcuSentinel, o - 0x5000)
    else if 0x8000 ≤ o then some (regsIcuCommon, o - 0x8000)
    else some ([], o)
  | 0x61 => some (regsEvf, o)
  | 0x62 => some (regsTmb, o)
  | 0x63 => some (regsSnp, o)
  | 0x70 => some (regsDali, o)
  | 0x71 => some (regsDmo, o)
  | 0x72 => some (regsMet, o)
  | 0x73 => some (regsSer, o)
  | 0x80 => some (regsBst, o)
  | 0x81 => some (regsFcr, o)
  | _ => none

/-- The register of a table at an offset, with its index in its array. -/
def findReg (t : List RegSpec) (o : Nat) : Option (RegSpec × Nat) :=
  match t with
  | [] => none
  | r :: t =>
    if r.off ≤ o && (o - r.off) % r.stride == 0 && (o - r.off) / r.stride < r.count
    then some (r, (o - r.off) / r.stride)
    else findReg t o

/-- The register at an address, with its index; none for an unlisted offset (R6) and outside the blocks. -/
def regAt (a : Nat) : Option (RegSpec × Nat) :=
  match regTableAt a with
  | none => none
  | some (t, o) => findReg t o

/-- The value a register holds after a reset that reaches it (the Reset column). -/
def regReset (a : Nat) : Word :=
  match regAt a with
  | none => 0
  | some (r, i) => Word.ofN (r.reset + r.rstep * i)

end Sys2Proof.Machine
end

