-- ==== Sys2Proof/Machine/Sparse.lean ====
section
/-!
DEFINITION. Sparse maps: lists of (key, value) pairs in one canonical form, keys strictly rising.
They hold memory and registers, so that equal contents are equal data.
-/

namespace Sys2Proof.Machine

/-- The value listed under a key, if any. -/
def Sparse.find? {α : Type} (m : List (Nat × α)) (k : Nat) : Option α :=
  match m with
  | [] => none
  | (a, v) :: t => if a = k then some v else Sparse.find? t k

/-- List a value under a key, keeping keys strictly rising. -/
def Sparse.insert {α : Type} (m : List (Nat × α)) (k : Nat) (v : α) : List (Nat × α) :=
  match m with
  | [] => [(k, v)]
  | (a, w) :: t =>
    if k < a then (k, v) :: (a, w) :: t
    else if a = k then (k, v) :: t
    else (a, w) :: Sparse.insert t k v

/-- Unlist a key. -/
def Sparse.erase {α : Type} (m : List (Nat × α)) (k : Nat) : List (Nat × α) :=
  m.filter (fun p => p.1 != k)

/-- Unlist every key of an interval `[lo, hi)`. -/
def Sparse.eraseRange {α : Type} (m : List (Nat × α)) (lo hi : Nat) : List (Nat × α) :=
  m.filter (fun p => p.1 < lo || hi ≤ p.1)

/-- Keys strictly rise. -/
def Sparse.rising {α : Type} : List (Nat × α) → Bool
  | [] => true
  | [_] => true
  | (a, _) :: (b, w) :: t => a < b && Sparse.rising ((b, w) :: t)

/-- Every listed pair satisfies a test. -/
def Sparse.all {α : Type} (m : List (Nat × α)) (p : Nat → α → Bool) : Bool :=
  m.all (fun e => p e.1 e.2)

/-- Write a value, unlisting the key when the value is what an unlisted key reads as. -/
def Sparse.put {α : Type} [DecidableEq α] (dflt : Nat → α) (m : List (Nat × α)) (k : Nat) (v : α) :
    List (Nat × α) :=
  if v = dflt k then Sparse.erase m k else Sparse.insert m k v

/-- Read a key, an unlisted one as the default says. -/
def Sparse.get {α : Type} (dflt : Nat → α) (m : List (Nat × α)) (k : Nat) : α :=
  (Sparse.find? m k).getD (dflt k)

/-- The canonical form: rising keys, and no entry equal to what its key reads as when unlisted. -/
def Sparse.wf {α : Type} [DecidableEq α] (dflt : Nat → α) (m : List (Nat × α)) : Bool :=
  Sparse.rising m && Sparse.all m (fun k v => decide (v ≠ dflt k))

end Sys2Proof.Machine
end

