-- ==== Sys2Proof/Machine/State.lean ====
section
/-!
DEFINITION. The state of the SX8800 as plain data: the register file, the memories, and for every block the state
the manual gives it beside its registers, each field's default being its value after a POWER-ON reset.
-/

namespace Sys2Proof.Machine

/-- Reasons a step could stop. The model raises none of them on its own: bus errors, exceptions and lockups are next
states (R24, R483-R489). -/
inductive Fault where
  /-- Never raised; it names what a stuck step would be. Safe. -/
  | stuck
  deriving DecidableEq, Repr

/-- Reasons a command is refused. -/
inductive Refusal where
  /-- The command has no meaning yet: raised by its arm of `exec` only. Safe. -/
  | notModelled (mnemonic : String)
  deriving DecidableEq, Repr

/-- A mode request: mode and profile (R35, R39), wide-path bands, MODEHIST source code (R45) and the tick it was made. -/
structure ModeReq where
  mode    : Nat
  profile : Nat
  bands   : Nat
  source  : Nat
  at_     : Nat := 0
  deriving DecidableEq, Repr

/-- How far a transition has come: draining wide-path frames (R52), quiescing before the pad latch (R53), past the
latch, or running its steps (R51). -/
inductive TransPhase where
  | drain | quiesce | latched | running
  deriving DecidableEq, Repr

/-- A transition in progress (R51). -/
structure Transition where
  req   : ModeReq
  phase : TransPhase
  /-- XREFRDY did not come within twice its maximum, so completion no longer waits for it (R51). -/
  xrefGivenUp : Bool := false
  deriving DecidableEq, Repr

/-- The phases of LASTGASP (R56). -/
inductive LgPhase where
  | none | flush | alarms
  deriving DecidableEq, Repr

/-- Where the part stands between a reset and firmware (R137, R140, R144-R146). -/
inductive BootPhase where
  /-- VIN is below its threshold, or LASTGASP ended with LGEND 1: switched off. -/
  | off
  /-- RESET_N is low (R138). -/
  | held
  /-- A reset has been made and start-up is before the background waits of step 6. -/
  | startup
  /-- Step 6: journal recovery and hold-up measurement run, steps 7 and 8 are done. -/
  | background
  /-- Start-up was abandoned for a supply failure and waits in DORMANT to restart (R145). -/
  | abandoned
  /-- ROM service (R144). -/
  | service
  /-- The tamper halt (R145). -/
  | halt
  /-- A BIST run has taken the device (R572). -/
  | bist
  /-- After the handover (R146). -/
  | run
  deriving DecidableEq, Repr

/-- A pad held by the latch: number, output level, output enable, pull and slew (R111). -/
structure HeldPad where
  pad   : Nat
  level : Bool
  oe    : Bool
  pull  : Nat
  slew  : Nat
  deriving DecidableEq, Repr

/-- The mode controller and the PMU beside their registers. All of it lies in PD_AON. -/
structure PowerState where
  boot      : BootPhase := .startup
  trans     : Option Transition := none
  waiting   : Option ModeReq := none
  wSleep    : Bool := false
  /-- The mode, profile and bands in force before LASTGASP (R57). -/
  formerMode : Option ModeReq := none
  lg        : LgPhase := .none
  /-- The mode controller's own wake time, in TMB ticks (R37, R128). -/
  ownWake   : Option Nat := none
  /-- Journal recovery has ended, and the hold-up test or measurement has (R144, R145). -/
  recovered : Bool := false
  holdupDone : Bool := false
  /-- Scope of a SYS_RESET whose response has been sent (R153). -/
  hostReset : Option Nat := none
  /-- The tick, scope and cause of the last reset assertion, for sources that assert in one cycle (R136). -/
  lastReset : Option (Nat × Nat × Nat) := none
  /-- XREF is enabled and has not yet qualified (R117, R118). -/
  xrefStarting : Bool := false
  /-- Start-up step 5 has already tried the other XREF mode (R143). -/
  xrefRetried : Bool := false
  /-- The crystal has run since the last reset that reached PD_AON (R117). -/
  xrefWarm  : Bool := false
  /-- HFRC has failed, so the sentinel runs from CK_LF (R115). -/
  hfrcFailed : Bool := false
  /-- XLF has failed since the last reset that reached PD_AON, so CK_LF stays on LF RC (R113). -/
  xlfFailed : Bool := false
  /-- Time since the last cycle of CK_LF, in units of 2^-16 tick (R114, R128). -/
  lfAcc     : Nat := 0
  /-- Cycles of CK_LF since the watchdog's count last moved, below 32 (R139, R152). -/
  wdtAcc    : Nat := 0
  /-- A change of spread waits for the turning point of the triangle (R121); the value in force. -/
  spreadInForce : Nat := 0
  /-- The pads under the latch (R111). -/
  held      : List HeldPad := []
  /-- Clusters whose power-up on demand is in progress (R606). -/
  clusterWaking : List Nat := []
  /-- Writes of engines that wait for them: address and bytes (R606). -/
  lateWrites : List (Nat × List Byte) := []
  /-- The watchdog is paused, from a reset to the handover (R139). -/
  watchdogPaused : Bool := true
  /-- HELD actions lie in the save area, to be restored when PD_COM powers up (R272). -/
  lgSaved   : Bool := false
  /-- VDDIO, the supply of the pads, is present (R554, R587). -/
  vddio     : Bool := true
  deriving DecidableEq, Repr

/-- The swap controller's running request (R77, R78) and a staged partial image. -/
structure SwapState where
  slot     : Nat
  persist  : Bool
  /-- The round named by the request, 0 for the earliest (R95). -/
  round    : Nat
  /-- The target boundary's round number, once ARMED (R77). -/
  target   : Nat := 0
  /-- Roots of the staged sections, packed (R62), with their kinds. -/
  sections : List (Nat × Nat) := []
  /-- Staged settings and words: configuration keys and values. -/
  frames   : List (Nat × Nat) := []
  gen      : Nat := 0
  /-- The configuration retained at step 4 (R81). -/
  kept     : List (Nat × Nat) := []
  deriving DecidableEq, Repr

/-- An edge held in the quiesce window: its level, whether a pulse follows it down, and the tick it arrived (R83). -/
structure HeldEdge where
  level : Bool
  pulse : Bool
  tick  : Nat
  lf    : Bool
  deriving DecidableEq, Repr

/-- Board controller state beside its registers. -/
structure BoardState where
  swap     : Option SwapState := none
  /-- A swap that ended with OK and PERSIST, whose Defaults Image write has not committed (R91). -/
  persisting : Option Nat := none
  /-- A full reload runs; the host command that asked for it (R76, R100). -/
  reload   : Option Origin := none
  /-- Slots locked from the start of a verification to the end of the load or swap (R71). -/
  locked   : List Nat := []
  /-- First edges held in the quiesce window, by detector: a producer code, or 4096 + a consumer input (R83). -/
  heldEdges : List (Nat × HeldEdge) := []
  /-- Detectors whose further edges were dropped in the last window, one entry an edge: their overflow flags (R83). -/
  droppedEdges : List Nat := []
  /-- Output pads of a replaced PADS section whose function changes, held to step 6 (R81, R86). -/
  padHold : List HeldPad := []
  /-- Timer events held in the window: channel, overflow (R82). -/
  heldTimers : List (Nat × Bool) := []
  /-- The TMB tick at which the window opened (R98). -/
  windowAt : Nat := 0
  /-- Results of the start-up boot-list steps PRIMARY, PART1, PART2, FALLBACK: status code and detail (R73). -/
  bootResults : List (Nat × Nat) := []
  /-- The Board key that signed the running full image (R468); none for the ROM Board. -/
  keyId    : Option Nat := none
  deriving DecidableEq, Repr

/-- A queued notice: its code, payload, sequence number, and whether it has been sent and awaits its ACK (R381). -/
structure Notice where
  code    : Nat
  payload : List Byte
  seq     : Nat
  sent    : Bool := false
  /-- The tick of its last sending. -/
  sentAt  : Nat := 0
  deriving DecidableEq, Repr

/-- Drops gathered for a NOTICE_LOST: count, codes bit map, first and last round (R382). -/
structure LostSum where
  count : Nat := 0
  codes : Nat := 0
  first : Nat := 0
  last  : Nat := 0
  deriving DecidableEq, Repr

/-- Entry 63 of the notice queue (R382). -/
structure LostNotice where
  sum  : LostSum
  seq  : Nat
  sent : Bool := false
  sentAt : Nat := 0
  deriving DecidableEq, Repr

/-- One command channel of an endpoint: open, the last command taken and its tick, still running, its ACK sent, its
stored RSP payload (R376-R378). -/
structure HslChan where
  opened  : Bool := false
  last    : Option Nat := none
  since   : Nat := 0
  running : Bool := false
  acked   : Bool := false
  rsp     : List Byte := []
  deriving DecidableEq, Repr

/-- A frame of the device: endpoint, KIND, channel, SEQ, payload (R373). -/
structure HslFrame where
  ep      : Endpoint
  kind    : Nat
  ch      : Nat
  seq     : Nat
  payload : List Byte
  deriving DecidableEq, Repr

/-- The Host Serial Link beside its registers. The notice queue lies in retained SRAM (R380). -/
structure HslState where
  /-- Channels by `16 * endpoint + channel`; an unlisted one is closed. -/
  chans   : List (Nat × HslChan) := []
  notices : List Notice := []
  lost    : Option LostNotice := none
  /-- Drops since a NOTICE_LOST was sent, awaiting the next one (R382). -/
  lostWait : LostSum := {}
  /-- The next notice sequence number. -/
  nseq    : Nat := 0
  /-- Level of HSL_WAKE (R371). -/
  wake    : Bool := false
  /-- Frames that wait to be sent, in the precedence order of R379 within each kind. -/
  waiting : List HslFrame := []
  /-- Frames the device has sent, oldest first: its output. -/
  out     : List HslFrame := []
  /-- An arbitration was lost to the frame that is arriving; the channel of the CMD whose RSP must go first (R384). -/
  lostArb : Bool := false
  yieldTo : Option Nat := none
  /-- Frames for the tunnel that the tenant engine has yet to post (R385). -/
  tunOut  : List HslFrame := []
  /-- The settings in force, as CFG and UARTCFG hold them once applied (R388): variant, rate, UARTCFG. -/
  variant : Nat := 0
  rate    : Nat := 0
  uart    : Nat := 0x2400
  deriving DecidableEq, Repr

/-- One interrupt source: its sampled level, whether it is pending and active, and what its record will carry:
time, edge code, merged, payload, computed time (R510, R517). -/
structure IrqSource where
  level   : Bool := false
  pend    : Bool := false
  act     : Bool := false
  time    : Nat := 0
  edge    : Nat := 0
  merged  : Bool := false
  payload : Nat := 0
  lfTime  : Bool := false
  deriving DecidableEq, Repr

/-- One bank beside its registers: the running priorities with their sources, newest first, the ring in force, and
the stop of R514. -/
structure IrqBank where
  stack   : List (Nat × Nat) := []
  base    : Nat := 0
  enabled : Bool := false
  size    : Nat := 0
  stopped : Bool := false
  /-- A RINGBASE or RINGCFG has been written and has not taken effect yet (R515). -/
  staged  : Bool := false
  deriving DecidableEq, Repr

/-- The interrupt controller. -/
structure IcuState where
  /-- Sources by key: a shared source's ID, or 1024 + 64 * core + ID for a private one (R506). -/
  src   : List (Nat × IrqSource) := []
  /-- Banks by core, 4 the sentinel. -/
  banks : List (Nat × IrqBank) := []
  deriving DecidableEq, Repr


/-- An event on its way to a consumer: the CK_REF tick that R530 delivers with it, and whether it was taken while TMB
advanced on CK_LF. -/
structure EvLatch where
  tick : Nat
  lf   : Bool := false
  deriving DecidableEq, Repr

/-- The two latches of a consumer input (R530). -/
structure EvInput where
  req : Option EvLatch := none
  mem : Option EvLatch := none
  /-- The tick of the second CK_REF edge after REQ was set, at which it is accepted (R530). -/
  due : Nat := 0
  deriving DecidableEq, Repr

/-- The event fabric (R520-R530). Words of levels carry channel, cell or group `i` in bit `i`. -/
structure EvfState where
  /-- Producer codes whose own level is high: pads, supply comparator, tamper alarm, slow clocks (R520). -/
  high   : List Nat := []
  /-- Main channels before their gates. -/
  main   : Nat := 0
  /-- Main channels after their gates. -/
  out    : Nat := 0
  /-- Always-on channels. -/
  aon    : Nat := 0
  /-- LUT cells before and after their filters. -/
  raw    : Nat := 0
  cells  : Nat := 0
  /-- Open groups. -/
  groups : Nat := 0
  /-- Openings and closings that have reached a group and are not settled yet (R526). -/
  opening : Nat := 0
  closing : Nat := 0
  /-- Consumer inputs by number: captures 0-31, starts 32 + 2p, stops 33 + 2p, the snapshot 64. -/
  inputs : List (Nat × EvInput) := []
  deriving DecidableEq, Repr

/-- How TMB advances (R537). -/
inductive TmbRun where
  | ref | lf | stopped
  deriving DecidableEq, Repr

/-- A capture channel's live value (R543). -/
structure CapUnit where
  val : Nat := 0
  lf  : Bool := false
  deriving DecidableEq, Repr

/-- A pulse-measurement unit: the open measurement (start tick, taken on CK_LF, restarted, slept) and the last result
(R544). -/
structure PmUnit where
  start   : Option Nat := none
  /-- The tick in which the unit opened, for a stop of the same tick. -/
  startLf : Bool := false
  restart : Bool := false
  slept   : Bool := false
  width   : Nat := 0
  result  : Nat := 0
  deriving DecidableEq, Repr

/-- The time base and the units built on it (R536-R544). -/
structure TimeBase where
  /-- The 64-bit count of CK_REF ticks. -/
  now    : Nat := 0
  /-- The 16-bit fraction of a tick while TMB advances on CK_LF. -/
  frac   : Nat := 0
  run    : TmbRun := .stopped
  /-- CK_LF cycles since TMB stopped at E0. -/
  lfCycles : Nat := 0
  /-- Staged low halves of compare values, by channel (R541). -/
  cmpStage : List (Nat × Nat) := []
  /-- High halves latched by a read of CMPLO, by channel (R541). -/
  cmpLatch : List (Nat × Nat) := []
  caps   : List (Nat × CapUnit) := []
  pms    : List (Nat × PmUnit) := []
  deriving DecidableEq, Repr

/-- A snapshot bank: generation (0 never filled), tick, network time, round, and the counters that are not zero by
index (R546, R547). -/
structure SnpBank where
  gen   : Nat := 0
  tick  : Nat := 0
  ntm   : Nat := 0
  round : Nat := 0
  vals  : List (Nat × Nat) := []
  deriving DecidableEq, Repr

/-- The counter snapshot (R547, R548). -/
structure SnpState where
  bank0 : SnpBank := {}
  bank1 : SnpBank := {}
  /-- The last generation given. -/
  gen   : Nat := 0
  /-- The tick of the last snapshot, for triggers of the same tick. -/
  last  : Option Nat := none
  /-- SNAP_READs that wait for the fill: origin, flags, first index and count (R553). -/
  readers : List (Origin × Nat × Nat × Nat) := []
  /-- The counters, NTM and the round as they stood at the end of the ticks of channel events that are latched and not
  yet accepted (R547). -/
  frozen : List SnpBank := []
  deriving DecidableEq, Repr

/-- Who started a slew: firmware, the mesh servo or the SYNC tracker (R308). -/
inductive SlewKind where
  | firmware | mesh | sync
  deriving DecidableEq, Repr

/-- A change of NTM: a SET to a value, a step by an amount, a slew or a SYNC correction by an amount in
units of 2^-32 ns (R311, R312). -/
inductive NtmChange where
  | set (ns : Nat)
  | step (ns : Int)
  | slew (kind : SlewKind) (units : Int)
  deriving DecidableEq, Repr

/-- Network time beside its registers (R307-R324). -/
structure NtmState where
  /-- NTM in units of 2^-32 ns. -/
  time    : Nat := 0
  /-- The increment per tick in units of 2^-32 ns, as committed. -/
  inc     : Nat := 25 * 2 ^ 32
  /-- What a slew has left, in units of 2^-32 ns, and its kind. -/
  slewRem : Int := 0
  slew    : Option SlewKind := none
  /-- A SET or step that waits, and the host command that waits with it (R312, R329). -/
  waiting : Option NtmChange := none
  waitHost : Option Origin := none
  /-- A slew that waits (R312). -/
  waitSlew : Option NtmChange := none
  /-- The last slot boundary fired, in ns (R315). -/
  lastSlot : Nat := 0
  /-- REBASE of the last round event's record (R315). -/
  rebased : Bool := false
  /-- NTM has been set or stepped by firmware or the host since a reset (R321). -/
  setOnce : Bool := false
  /-- The receive stamp of the previous mesh sample accepted; none before a first sample. -/
  meshPrev : Option Nat := none
  /-- The round in which a mesh sample was last accepted. -/
  meshRound : Nat := 0
  /-- The nearest SYNC edge of the round: its error in ns, and how many edges the round has had (R322). -/
  syncBest : Option Int := none
  /-- Errors of the consecutive good rounds in ACQUIRE or HOLDOVER, newest first (R323). -/
  syncRun  : List Int := []
  /-- Consecutive rounds without an edge in the window. -/
  syncMiss : Nat := 0
  /-- Error and correction of the previous used edge (R324). -/
  syncPrev : Option (Int × Int) := none
  deriving DecidableEq, Repr

/-- One band of a regulatory lock record (R415). -/
structure RlrBand where
  valid  : Bool := false
  chain  : Nat := 0
  lbt    : Bool := false
  maxpwr : Int := 0
  thr    : Int := 0
  ch0    : Nat := 0
  space  : Nat := 0
  nch    : Nat := 0
  listen : Nat := 0
  limit  : Nat := 0
  mask   : Nat := 0
  deriving DecidableEq, Repr

/-- A regulatory lock record: generation, maker, bands 0-7 (R415). -/
structure RlrRecord where
  gen   : Nat
  maker : Nat
  bands : List RlrBand
  deriving DecidableEq, Repr

/-- A band's duty ledger (R178, R180): complete blocks, newest first and at most 360, the current block, the seed. -/
structure BandLedger where
  blocks : List Nat := []
  cur    : Nat := 0
  seed   : Nat := 0
  seedCount : Nat := 0
  deriving DecidableEq, Repr

/-- The default ramp table: DWELL 8 and AMP 8 k + 7 (R164). -/
def defaultRamp : List (Nat × Nat) := (List.range 32).map (fun k => (8 * k + 7, 8))

/-- The always-on store of one chain (R186): the FULL results as one free value, TEMP, and the committed ramp table of
(AMP, DWELL) entries. -/
structure ChainStore where
  full : Option Nat := none
  temp : Int := 0
  ramp : List (Nat × Nat) := defaultRamp
  deriving DecidableEq, Repr

/-- A frame that has passed its transmit gate (R163, R177): its slot, mode, nominal frequency, the bands that contain
it, the table its ramps use, the airtime and ramp time in ticks, the tick of its first symbol, and the PSDU sent. -/
structure TxFrame where
  slot     : Nat
  mode     : Nat
  freq     : Nat
  bands    : List Nat
  ramp     : List (Nat × Nat)
  airtime  : Nat
  rampTime : Nat
  firstSym : Nat
  psdu     : List Byte
  /-- The stamp of its stamp point in ns (R316, R319); none for a wake telegram. -/
  stampNs  : Option Nat := none
  deriving DecidableEq, Repr

/-- A radio chain beside its registers (R160-R176). -/
structure ChainState where
  /-- The slot whose action holds the chain; 512 is a WATCH listen (R271). -/
  holder   : Option Nat := none
  tx       : Option TxFrame := none
  /-- A frame with an inserted stamp lies between its gate and its stamp point (R312, R319). -/
  stamping : Bool := false
  /-- The tick of that stamp point. -/
  stampEnd : Nat := 0
  /-- The PA is active: from the start of ramp-up to the end of ramp-down (R174, R178). -/
  pa       : Bool := false
  /-- The PA was active during the current bin, in these bands (R178). -/
  binBands : List Nat := []
  /-- Mode and frequency the narrow path receives on. -/
  rxMode   : Nat := 0
  rxFreq   : Nat := 0
  /-- The carrier offset C in force on the channel loop, in 5 Hz units (R170, R171). -/
  carrier  : Int := 0
  /-- T of the last frame in ticks, and its last symbol's tick (R167). -/
  turnT    : Nat := 0
  lastSym  : Option Nat := none
  /-- The end of the last frame received on the chain, the C measured for it, and its T (R171). -/
  rxEnd    : Option Nat := none
  rxC      : Int := 0
  rxT      : Nat := 0
  /-- The grant was sampled and stands (R176). -/
  granted  : Bool := false
  /-- Levels before polarity of the pad functions (R162, R174). -/
  cxReq    : Bool := false
  cxPri    : Bool := false
  femTx    : Bool := false
  femRx    : Bool := false
  /-- The FULL in progress was started by this host command (R192). -/
  calHost  : Option Origin := none
  deriving DecidableEq, Repr

/-- The radio (R160-R192): both chains, the always-on store, the resolved record, the wake receiver. -/
structure RadioState where
  chS    : ChainState := {}
  chT    : ChainState := {}
  storeS : ChainStore := {}
  storeT : ChainStore := {}
  /-- Ledgers by band. -/
  ledger : List (Nat × BandLedger) := []
  /-- The bands have had their seeds since power was applied (R180). -/
  seeded : Bool := false
  /-- The record in force (R177). -/
  rlr    : Option RlrRecord := none
  /-- The wake receiver is blanked (R183); the tick the last chain S ramp-down ended. -/
  wkrBlank : Bool := false
  wkrPaEnd : Option Nat := none
  deriving DecidableEq, Repr

/-- A candidate frame of a band (R199): its slice, mode, class, level in 0.5 dBm units, detection tick, and the index of
its mode's MODEENT entry. -/
structure Candidate where
  slice : Nat
  mode  : Nat
  cls   : Nat
  level : Int
  at_   : Nat
  entry : Nat
  deriving DecidableEq, Repr

/-- A block on its way to a decoder tile (R237): the key (band or narrow chain, TXH, CTAG, block index), the frame it
belongs to, what code it has, and its LLRs by bit position. -/
structure Block where
  band  : Nat
  txh   : Nat
  ctag  : Nat
  idx   : Nat
  /-- The frame's number. -/
  frame : Nat
  /-- CODESET bit of the block's code: 0-2 LDPC, 3 Reed-Solomon, 4 pass-through (R235). -/
  code  : Nat
  rate  : Nat := 0
  inc   : Nat := 0
  len   : Nat := 0
  llrs  : List Int := []
  /-- The tick of its last LLR. -/
  last  : Nat := 0
  /-- `DEC.CFG` when it was dispatched (R244). -/
  cfg   : Nat := 0
  deriving DecidableEq, Repr

/-- A demodulator context (R201), with the frame it carries or last carried. -/
structure Ctx where
  /-- The state code of R201. -/
  state  : Nat := 6
  band   : Nat := 0
  cls    : Nat := 0
  slice  : Nat := 0
  mode   : Nat := 0
  level  : Int := 0
  /-- Measured carrier offset in 5 Hz units. -/
  cfo    : Int := 0
  /-- The tick its coarse detector fired, and the tick of the assignment. -/
  det    : Nat := 0
  assigned : Nat := 0
  /-- A narrow-path context: a frame is being acquired or received. -/
  busy   : Bool := false
  /-- Sync has been found; the tick of the stamp point and NTM there (R316). -/
  sync   : Bool := false
  stampTick : Nat := 0
  stampNs : Nat := 0
  /-- The stamp unit that took the stamp (R203). -/
  unit   : Option Nat := none
  /-- The header once decoded: 48 bits of a Long Reach header, or the PSDU length of another mode. -/
  header : Option Nat := none
  /-- A mode switch has been followed (R206, R227). -/
  switched : Bool := false
  /-- G has fallen during the reception (R195). -/
  cut    : Bool := false
  /-- The number of the frame, the blocks formed so far, and those that wait for a queue place (R237). -/
  frame  : Nat := 0
  formed : Nat := 0
  waiting : List Block := []
  tile   : Option Nat := none
  /-- The tick of its last symbol, once it has ended. -/
  ended  : Nat := 0
  /-- The slot of the RX action that a narrow-path frame is received by; 512 for a WATCH listen. -/
  action : Nat := 512
  deriving DecidableEq, Repr

/-- One wide path beside its registers (R193-R205). -/
structure BandState where
  /-- Waiting candidates, in the order of R204, and those of this tick. -/
  queue : List Candidate := []
  fresh : List Candidate := []
  /-- The tick of the last discarded sample block. -/
  lastOvf : Option Nat := none
  deriving DecidableEq, Repr

/-- Wideband capture: contexts by number (an unlisted one is OFF), bands, the next frame number. -/
structure CaptureState where
  ctxs  : List (Nat × Ctx) := []
  band0 : BandState := {}
  band1 : BandState := {}
  nextFrame : Nat := 0
  /-- Contexts that take no new frames: FREE becomes DRAINED for them (R52, R79). -/
  draining : List Nat := []
  deriving DecidableEq, Repr

/-- A soft-combining slot (R239): its key and tags, DONE with the block's bits or live with LLRs, the tick of the last
LLR of the frame that wrote it, its lifetime in ms. -/
structure SoftSlot where
  band  : Nat
  txh   : Nat
  ctag  : Nat
  idx   : Nat
  code  : Nat
  rate  : Nat
  len   : Nat
  done  : Bool
  llrs  : List Int
  bits  : Nat
  wrote : Nat
  life  : Nat
  deriving DecidableEq, Repr

/-- A decoder tile (R234, R237): queued blocks, the first one being decoded, and its slots, oldest first. -/
structure DecTile where
  queue : List Block := []
  slots : List SoftSlot := []
  deriving DecidableEq, Repr

/-- What became of one block of a frame: its index, its bits where it decoded, the LLRs a slot would keep (R239). -/
structure BlockOut where
  idx  : Nat
  bits : Option Nat
  llrs : List Int
  deriving DecidableEq, Repr

/-- A frame between its context and the link controller (R241, R264): what its receive record will hold, and the bits
of its blocks as they come out: none while outstanding. -/
structure RxFrame where
  id     : Nat
  ctx    : Nat
  chain  : Nat
  wide   : Bool
  mode   : Nat
  slice  : Nat
  level  : Int
  cfo    : Int
  action : Nat
  stamp  : Nat
  /-- The TMB tick of the stamp point. -/
  stampTick : Nat := 0
  fw     : Bool
  header : Nat
  tile   : Nat
  outs   : List BlockOut := []
  /-- The number of blocks, and the tick of the last LLR. -/
  blocks : Nat := 1
  last   : Nat := 0
  combined : Bool := false
  repeated : Bool := false
  deriving DecidableEq, Repr

/-- The decoder tiles by index, and the frames in decoding. -/
structure DecoderState where
  tiles  : List (Nat × DecTile) := []
  frames : List (Nat × RxFrame) := []
  /-- Tiles of a replaced DECODE section (R79). -/
  draining : List Nat := []
  deriving DecidableEq, Repr

/-- What a slot of the link controller holds while it is not FREE, beside its record (R247-R262). -/
structure Slot where
  /-- The state code of R251. -/
  state  : Nat
  /-- Submission order. -/
  order  : Nat := 0
  /-- The start tick, once fixed: ABS at once, FOLLOW at its anchor's completion, ASAP at its claim. -/
  start  : Option Nat := none
  /-- It runs as ASAP whatever TIMING holds (R272); the tick it took its chain. -/
  asap   : Bool := false
  claimed : Nat := 0
  /-- A FOLLOW transmission within 1 ms of a frame received on its FREQ: no listen (R267). -/
  noListen : Bool := false
  /-- A listen is in progress; its start, and the end of the listen, window or backoff. -/
  listening : Bool := false
  from_  : Nat := 0
  until_ : Nat := 0
  /-- A TXLBT in BACKOFF whose listen waits for the action that took the chain (R268). -/
  waitFree : Bool := false
  /-- A listen was made; busy listens; the last one was clear. -/
  lbt    : Bool := false
  busy   : Nat := 0
  clear  : Bool := false
  /-- The tick the receiver opened or the marker fired. -/
  opened : Option Nat := none
  frames : Nat := 0
  peak   : Int := -250
  /-- Telegrams sent. -/
  sent   : Nat := 0
  firstSym : Option Nat := none
  /-- E of R258: the end of the last symbol of the last frame. -/
  lastEnd : Option Nat := none
  delivered : Bool := false
  /-- The REASON code of what held the action back (R256). -/
  cause  : Nat := 0
  ranLate : Bool := false
  cut    : Bool := false
  /-- The window has closed, and a frame past sync runs to its end. -/
  closing : Bool := false
  /-- A cancel took effect while the work ran. -/
  stopping : Bool := false
  /-- The work has ended; its outcome is not fixed yet. -/
  ended  : Bool := false
  /-- The outcome (R260): STATUS, REASON, TIME. -/
  status : Nat := 0
  reason : Nat := 0
  time   : Nat := 0
  /-- The PSDU that the tenant engine or the journal gave with its action. -/
  own    : Option (List Byte) := none
  deriving DecidableEq, Repr

/-- A frame that the output engine has handed to the link controller (R241, R263), before its buffer. -/
structure Arrived where
  delivered : Bool
  psdu   : List Byte
  fcsOk  : Bool
  combined : Bool
  repeated : Bool
  fw     : Bool
  wide   : Bool
  chain  : Nat
  mode   : Nat
  inc    : Nat
  slice  : Nat
  level  : Int
  cfo    : Int
  ctx    : Nat
  action : Nat
  stamp  : Nat
  /-- The TMB tick of the stamp point, and that of its last symbol. -/
  stampTick : Nat := 0
  ended  : Nat
  deriving DecidableEq, Repr

/-- The link controller beside its registers (R247-R277). -/
structure LnkState where
  /-- Slots that are not FREE. -/
  slots  : List (Nat × Slot) := []
  /-- Slot generations; an unlisted one is 0. -/
  gens   : List (Nat × Nat) := []
  order  : Nat := 0
  /-- Receive buffers taken. -/
  taken  : List Nat := []
  /-- The receive configuration in force: base, count, BUFSZ; and a write not in effect yet (R275). -/
  rxBase : Nat := 0
  rxCount : Nat := 0
  rxSz   : Nat := 3
  rxStaged : Bool := false
  /-- The rings in force: base and SIZE by ring; rings with a write not in effect yet (R275). -/
  rings  : List (Nat × Nat × Nat) := []
  ringStaged : List Nat := []
  /-- Frames handed over by the output engine, oldest first. -/
  arrived : List Arrived := []
  /-- The window of a WATCH listen ends here (R271). -/
  watchEnd : Nat := 0
  /-- In LASTGASP, alarms released and not yet completed (R56, R272). -/
  alarms : List Nat := []
  deriving DecidableEq, Repr


/-- A descriptor of a tenant's queue (R295), copied when posted. -/
structure Desc where
  link   : Nat
  flags  : Nat
  power  : Nat
  buf    : Nat
  len    : Nat
  lr     : Nat
  ctag   : Nat
  tag    : Nat
  /-- The PSDU of a frame that the tenant engine or the journal composes itself. -/
  own    : Option (List Byte) := none
  /-- A link-control frame of the engine: its OP, 0 for none. -/
  lcp    : Nat := 0
  /-- The journal message it carries, by JSEQ. -/
  msg    : Option Nat := none
  withdrawn : Bool := false
  deriving DecidableEq, Repr

/-- The exchange in flight on a chain (R297). -/
structure Flight where
  link   : Nat
  tenant : Nat
  /-- The frame, none for an event that only listens. -/
  desc   : Option Desc := none
  txSlot : Option Nat := none
  rxSlot : Option Nat := none
  /-- X in ticks (R295). -/
  x      : Nat := 0
  /-- The exchange is a scheduled link's event. -/
  event  : Bool := false
  deriving DecidableEq, Repr

/-- What the engine keeps of a link beside its context. -/
structure LinkWork where
  /-- Events since OPENING or CLOSING began. -/
  tries  : Nat := 0
  /-- Consecutive events with nothing heard (R292); a frame was heard since the last event. -/
  silent : Nat := 0
  heard  : Bool := false
  /-- The next event has been placed (R297); the last one was held. -/
  placed : Bool := false
  held   : Bool := false
  /-- A CHMAP is staged here by this end, and the follower has not acknowledged it (R289). -/
  mapping : Bool := false
  mapStaged : Bool := false
  /-- This end's swap request is pending; a swap will take effect at SWAPEVT (R290). -/
  asking : Bool := false
  swapping : Bool := false
  /-- A CLOSE of an unscheduled link waits for its exchange. -/
  closing : Bool := false
  /-- The frequency of the last frame heard: a reply goes on it (R285). -/
  rxFreq : Option Nat := none
  deriving DecidableEq, Repr

/-- The tenant engine (R278-R304). -/
structure TntState where
  /-- Airtime of the round, in ticks, by 2 * tenant + chain (R298). -/
  air : List (Nat × Nat) := []
  /-- Queues by 2 * tenant + chain, head first. -/
  queues : List (Nat × List Desc) := []
  /-- Deficits in ticks by 2 * tenant + chain (R297). -/
  deficit : List (Nat × Nat) := []
  /-- Duty buckets by 8 * tenant + band: bins used times 3,600 s, and the tick of that account; unlisted is full. -/
  used : List (Nat × Nat × Nat) := []
  /-- Link-control and journal acknowledgement frames that wait for their link's event or exchange, by link index. -/
  lcps : List (Nat × List Desc) := []
  /-- The exchange in flight on each chain. -/
  flights : List (Nat × Flight) := []
  /-- Descriptor completions that wait for room: ring and entry (R262, R299). -/
  entries : List (Nat × List Byte) := []
  /-- Links that are not FREE, by index. -/
  work : List (Nat × LinkWork) := []
  deriving DecidableEq, Repr


/-- A flow entry of the journal engine (R333). -/
structure Flow where
  /-- 1 origin, 2 transit (R363). -/
  role   : Nat
  flow   : Nat
  origin : Nat
  epoch  : Nat
  /-- NEXTSEQ of an origin entry, LAST of a transit entry. -/
  seq    : Nat
  lastDl : Nat := 0
  target : Nat := 0
  nextHop : Nat := 0xFFFF
  /-- The previous hop of a transit entry: chain and EUI-64 (R355). -/
  prevChain : Nat := 0
  prevPeer  : Nat := 0
  /-- A FLOW_CLOSE has been committed. -/
  closed : Bool := false
  /-- Its FLOWOPEN record has been committed; the JSEQ of that record and of the newest ACCEPT record. -/
  ready  : Bool := false
  opened : Nat := 0
  lastAcc : Nat := 0
  deriving DecidableEq, Repr

/-- A live message (R333, R347), by its ACCEPT record. -/
structure Msg where
  jseq   : Nat
  fidx   : Nat
  epoch  : Nat
  seq    : Nat
  deadline : Nat
  /-- HOP of the ACCEPT record and PREVPEER. -/
  hop    : Nat
  prev   : Nat
  ecrc   : Nat
  payload : List Byte
  /-- A transmission to its next hop was made (R344); transmissions begun, for INC (R340). -/
  sent   : Bool := false
  tries  : Nat := 0
  /-- A descriptor for it is with the tenant engine. -/
  posted : Bool := false
  /-- The next hop fixed at its first transmission: chain and peer (R340, R355). -/
  nextHop : Option (Nat × Nat) := none
  /-- The frame, POWER, LR byte and CTAG of its first transmission, which every later one repeats (R338, R340). -/
  frame  : List Byte := []
  power  : Nat := 0
  lr     : Nat := 0
  ctag   : Nat := 0
  /-- The frame counter of its first secured transmission (R453). -/
  fc     : Option Nat := none
  /-- The tick of the next retransmission. -/
  due    : Option Nat := none
  /-- What is left of that interval while its next hop has no UP link (R355). -/
  left   : Option Nat := none
  /-- The target it was delivered to, and its buffer (R342). -/
  dlv    : Option Nat := none
  buf    : Option Nat := none
  /-- It has been delivered before (R330). -/
  again  : Bool := false
  /-- A settling record is being committed. -/
  settling : Bool := false
  deriving DecidableEq, Repr

/-- What a commit completes (R337). -/
inductive CommitFor where
  /-- A submission: its FIDX, TAG and the host command behind it (R336). -/
  | submit (tag : Nat) (host : Option Origin)
  /-- A report of this node (R345). -/
  | report
  /-- A custody frame of a link, answered by a CACK (R339). -/
  | custody (handle : Nat)
  /-- Settling records of a message by JSEQ (R341, R343, R344); an expiry found here, or reported by a CACK. -/
  | forwarded (jseq : Nat)
  | released (jseq : Nat) (host : Option Origin)
  | expired (jseq : Nat) (status : Status) (here : Bool)
  /-- Flow commands (R335, R363). -/
  | flowOpen (fidx : Nat) (host : Option Origin)
  | flowClose (fidx : Nat) (host : Option Origin)
  | flowEpoch (fidx : Nat) (host : Option Origin)
  /-- An activation record or its end (R347). -/
  | activate (host : Option Origin)
  | actClear (jseq : Nat)
  /-- A transit entry's FLOWOPEN or FLOWCLOSE. -/
  | internal
  deriving DecidableEq, Repr

/-- A commit in progress: its record and what it completes. -/
structure Commit where
  record : List Byte
  what   : CommitFor
  deriving DecidableEq, Repr

/-- The journal engine beside its registers (R330-R365). The mirrors and the flash copies outlive resets. -/
structure JrnState where
  flows   : List (Nat × Flow) := []
  msgs    : List Msg := []
  commits : List Commit := []
  /-- The next JSEQ and the next PSEQ. -/
  jseq    : Nat := 1
  pseq    : Nat := 1
  /-- The journal's epoch counter (R333). -/
  epoch   : Nat := 0
  /-- The next ring page to be written in both copies, 0-16383. -/
  page    : Nat := 0
  /-- Records waiting in each retained mirror, oldest first; none where its check fails. -/
  mirror0 : Option (List (List Byte)) := some []
  mirror1 : Option (List (List Byte)) := some []
  /-- Activation records that are live, by JSEQ: the 16-byte body (R347). -/
  acts    : List (Nat × List Byte) := []
  /-- Flash copies that have left service (R331). -/
  failed  : List Nat := []
  /-- Erased pages ahead of the write point, equal in both copies (R359). -/
  ready   : Nat := 16384
  /-- The tick at which the oldest record that waits in the mirrors was written. -/
  since   : Nat := 0
  /-- Wear (R351): allowance accrued by the tick allowAt, in units of 2,400,000,000 to the page; pages used. -/
  allow   : Nat := 0
  allowAt : Nat := 0
  used    : Nat := 0
  /-- The first JSEQ that recovery treated conservatively (R357), where there is one. -/
  diverged : Option Nat := none
  /-- A hold-up test runs for this host command (R364). -/
  holdHost : Option Origin := none
  holding : Bool := false
  /-- The delivery region in force: base and count; a write not in effect yet (R359). -/
  dlvBase : Nat := 0
  dlvCount : Nat := 0
  dlvStaged : Bool := false
  deriving DecidableEq, Repr


/-- A background erase: sectors, whether it is a lowering of the protection level, suspended, and the host command that
waits for it (R396, R403, R423). -/
structure EraseJob where
  first : Nat
  count : Nat
  lower : Bool := false
  suspended : Bool := false
  /-- The tick at which it last resumed (R399). -/
  resumed : Option Nat := none
  /-- The host command that waits for it, with its code. -/
  host  : Option (Origin × Nat) := none
  deriving DecidableEq, Repr

/-- An operation started through OPCTL (R419). -/
structure FlashOp where
  op   : Nat
  addr : Nat
  src  : Nat
  suspended : Bool := false
  deriving DecidableEq, Repr

/-- The flash controller beside its registers (R392-R423, R605). -/
structure FlcState where
  erase  : Option EraseJob := none
  /-- What FL_POLL reports once no erase runs: a status code. -/
  poll   : Nat := 0
  op     : Option FlashOp := none
  /-- Sectors marked for refresh, oldest first (R405), and the sector the scrubber reads next. -/
  marked : List Nat := []
  next   : Nat := 0
  /-- Sectors in an undefined state, each with the draw its bytes come from (R400, R605). -/
  junk   : List (Nat × Nat) := []
  /-- The same for 256-byte units whose program has not ended (R605). -/
  junkUnits : List (Nat × Nat) := []
  /-- Reads of a sector are redirected to a flash offset (R405). -/
  redirect : Option (Nat × Nat) := none
  /-- DFI bytes staged by DFI_WRITE (R423). -/
  stage  : List Byte := []
  /-- The DFI entries in force, as start-up step 4 resolved them: KEY and VALUE (R412). -/
  dfi    : List (Nat × Nat) := []
  deriving DecidableEq, Repr


/-- Firmware images beside flash and the registers (R424-R438). -/
structure FwState where
  /-- WIREGEN and WIREMIN of the running image (R437). -/
  wireGen : Nat := 0
  wireMin : Nat := 0
  /-- FWVER of the running image; 0 in the boot ROM (R577). -/
  ver : Nat := 0
  /-- The slot it was booted from, its SVN, signing key and entry point; it runs on trial, and confirms itself after
  CONFSEC seconds (R424, R435). -/
  slot : Option Nat := none
  svn  : Nat := 0
  keyId : Nat := 0
  entry : Nat := 0
  trial : Bool := false
  confSec : Nat := 0
  /-- Cycles of CK_LF since the handover of a trial (R435). -/
  trialLf : Nat := 0
  /-- The activation, by JSEQ, for which KEEPER has been requested; the round at whose boundary it fires; the one whose
  quiesce runs; its lateness (R433). -/
  asked : Option Nat := none
  target : Nat := 0
  firing : Option Nat := none
  late : Bool := false
  /-- The FW_CANCEL that waits for its ACTCLEAR (R432). -/
  cancelHost : Option Origin := none
  /-- FW_STATE notices of start-up step 7 (R438, R147). -/
  notes : List (List Byte) := []
  deriving DecidableEq, Repr


/-- An operation of a crypto context (R446-R452), as it was started. -/
structure CryOp where
  alg   : Nat
  dir   : Bool
  slot  : Nat
  dslot : Nat
  src   : Nat
  dst   : Nat
  len   : Nat
  param : Nat
  /-- The message, and the parameter block with the AAD behind it, as they stood at the start. -/
  data  : List Byte := []
  par   : List Byte := []
  aad   : Nat := 0
  /-- Chunks or steps done. -/
  done  : Nat := 0
  /-- It has been ended before its time, and zeroes what it wrote (R452). -/
  ended : Option Status := none
  deriving DecidableEq, Repr

/-- Security beside its registers. -/
structure SecState where
  /-- Rolls in the pool (R458). -/
  pool : Nat := 0
  /-- Key bytes of the slots that hold a key, by slot; no master reads them (R443). -/
  keys : List (Nat × List Byte) := []
  /-- Operations by context, and the context that each unit served last (R450). -/
  ops  : List (Nat × CryOp) := []
  lastSym : Nat := 7
  lastPk  : Nat := 7
  /-- The fields of `KEY.LOADCTL` as last written, and the words staged in LOADDATA (R445, R447). -/
  loadCtl : Nat := 0
  loadData : List (Nat × Word) := []
  /-- Windows passed since STARTUP began; the RNG came to STARTUP from FAILED (R454, R457). -/
  windows : Nat := 0
  fromFail : Bool := false
  /-- Bytes of output generated and not yet released (R455). -/
  held : Nat := 0
  /-- Requests that wait, by interface: address and length (R456). -/
  reqs : List (Nat × (Nat × Nat)) := []
  /-- TAMPER_ALARM notices that wait for PD_COM or for step 9 (R462). -/
  alarms : List (List Byte) := []
  /-- A HALT response waits for the end of LASTGASP's flush (R462). -/
  haltWait : Bool := false
  /-- An alarm has come after step 2 of a start-up (R462). -/
  bootAlarm : Bool := false
  /-- The reset that follows a TAMPER_CLEAR in the tamper halt is due (R468). -/
  clearReset : Bool := false
  deriving DecidableEq, Repr

/-- What is left of it when PD_COM is off or reset: alarms that wait (R443, R457, R462). -/
def SecState.lost (x : SecState) : SecState := { alarms := x.alarms }


/-- What a Pip core is doing (R158, R489, R490). -/
inductive PipRun where
  | held | running | waiting | locked
  deriving DecidableEq, Repr

/-- A Pip core's own state (R470, R504). -/
structure PipCore where
  run   : PipRun := .held
  /-- g0-g15 and f0-f15; an unlisted one is 0. -/
  g     : List (Nat × Word) := []
  f     : List (Nat × Word) := []
  pc    : Word := 0
  dsp   : Word := 0
  /-- PSR: DEPTH in [7:4], MACH in [1], IE in [0]. -/
  psr   : Word := 2
  vbase : Word := 0x200
  ecause : Word := 0
  eaddr : Word := 0
  einsn : Word := 0
  eframe : Word := 0
  rspm  : Word := 0
  rsmBase : Word := 0
  rsmLim : Word := 0
  rspu  : Word := 0
  rsuBase : Word := 0
  rsuLim : Word := 0
  /-- The cycle count, and CYCLEHI as latched. -/
  cycle : Nat := 0
  cycleHi : Word := 0
  mpuctl : Word := 0
  /-- MPUBASEk and MPULIMk by k; an unlisted one is 0. -/
  mpuBase : List (Nat × Word) := []
  mpuLim : List (Nat × Word) := []
  fpstat : Word := 0
  /-- No instruction has been executed since the last exception entry (R489). -/
  entered : Bool := false
  deriving DecidableEq, Repr


/-- A DALI frame to send (R561). -/
structure DaliTx where
  data : Nat
  size : Nat
  prio : Nat
  ans  : Bool
  /-- The delay drawn for it, in CK_REF ticks. -/
  wait : Nat := 0
  /-- Its start bit has gone out. -/
  sending : Bool := false
  deriving DecidableEq, Repr

/-- A received DALI record: data, bits, and whether its bit timing was violated (R562). -/
structure DaliRec where
  data : Nat
  bits : Nat
  err  : Bool
  deriving DecidableEq, Repr

/-- A DALI interface beside its registers. -/
structure DaliIf where
  tx : Option DaliTx := none
  rx : List DaliRec := []
  /-- The tick at which a forward frame sent with ANS ended: its backward window is open (R562). -/
  window : Option Nat := none
  /-- The tick at which the last received forward frame ended (R561). -/
  forward : Option Nat := none
  deriving DecidableEq, Repr

/-- A transfer of a serial instance: its CMD word (R569). -/
structure SerJob where
  len  : Nat
  read : Bool
  addr : Nat
  deriving DecidableEq, Repr

/-- A serial instance beside its registers. -/
structure SerUnit where
  tx  : List Byte := []
  rx  : List Byte := []
  job : Option SerJob := none
  deriving DecidableEq, Repr

/-- The luminaire peripherals beside their registers (R560-R569). All of it lies in PD_COM. -/
structure LumState where
  dali : List (Nat × DaliIf) := []
  /-- The level each PWM output drives, since its last period boundary. -/
  pwm  : List (Nat × Nat) := []
  /-- Mains cycles counted in the present period, and the 64-bit energies. -/
  cycles : Nat := 0
  e1   : Nat := 0
  e2   : Nat := 0
  ser  : List (Nat × SerUnit) := []
  deriving DecidableEq, Repr

/-- A fault awaiting commit to the Failure Capture Record (R576, R577). -/
structure FaultRec where
  kind   : Nat
  count  : Nat
  tmb    : Nat
  round  : Nat
  site   : Nat
  d1     : Nat
  d2     : Nat
  d3     : Nat
  fwver  : Nat
  layout : Nat
  /-- g0-g15 of a locked core. -/
  regs   : List Nat
  deriving DecidableEq, Repr

/-- A BIST run in progress (R572, R573). -/
structure BistRun where
  tests  : Nat
  tmb    : Nat
  /-- The status it will record: OK, or BROWNOUT or TAMPER once it has been stopped. -/
  result : Status := .ok
  deriving DecidableEq, Repr

/-- The pending buffer and counts of the FCR in PD_AON, and the BIST run. -/
structure FcrState where
  pending : List FaultRec := []
  lost    : Nat := 0
  repeats : Nat := 0
  bist    : Option BistRun := none
  deriving DecidableEq, Repr


/-- The whole machine. Every field's default is its value after reset. -/
structure State where
  /-- Registers that differ from their reset value, by address (R5, R31). -/
  regs : List (Nat × Word) := []
  /-- SRAM bytes written since their domain was last switched on, by address: main, retained, link context (R30). -/
  ram : List Host.Cell := []
  /-- The generation every link context was set to at start-up (R278), or none: the context RAM is undefined (R23). -/
  ctxGen : Option Nat := none
  /-- Power losses of each SRAM domain, by domain number, for the free bytes of R23. -/
  ramEpochs : List (Nat × Nat) := []
  /-- Flash bytes that are not erased, by offset from plane 0 (R392); an erased byte reads 0xFF. -/
  flash : List Host.Cell := []
  /-- OTP words that are not blank, by word number (R19, R407). -/
  otp : List (Nat × BitVec 64) := []
  /-- Words in error, by address divided by 8: false corrected on the next read, true uncorrectable (R29). -/
  ecc : List (Nat × Bool) := []
  /-- The running Board: configuration words and settings by key (R58); an unlisted one holds its reset value. -/
  board : List (Nat × Nat) := []
  /-- Retired tiles and their substitutes, `32 * cluster + tile` (R69). -/
  subst : List (Nat × Nat) := []
  /-- CK_REF ticks the model has made on an empty queue. -/
  tick : Nat := 0
  /-- Draws of free values so far: the model's own counter. -/
  free : Nat := 0
  /-- The data of the last bus read or register read command. -/
  busData : Word := 0
  /-- The last bus access ended in a bus error (R24, R31). -/
  busError : Bool := false
  /-- Mode controller and PMU. -/
  pw : PowerState := {}
  /-- Board and swap controller. -/
  brd : BoardState := {}
  /-- Host Serial Link. -/
  hsl : HslState := {}
  /-- Interrupt controller. -/
  icu : IcuState := {}
  /-- The event fabric. -/
  evf : EvfState := {}
  /-- The time base. -/
  tb : TimeBase := {}
  /-- The counter snapshot. -/
  snp : SnpState := {}
  /-- Network time. -/
  ntm : NtmState := {}
  /-- The radio. -/
  rf : RadioState := {}
  /-- Wideband capture and the demodulator contexts. -/
  cap : CaptureState := {}
  /-- The decoders. -/
  dec : DecoderState := {}
  /-- The link controller. -/
  lnk : LnkState := {}
  /-- The tenant engine. -/
  tnt : TntState := {}
  /-- The journal engine. -/
  jrn : JrnState := {}
  /-- The flash controller. -/
  flc : FlcState := {}
  /-- Firmware images. -/
  fw : FwState := {}
  /-- Security: the random number generator, the crypto engine, the keys and tamper. -/
  sec : SecState := {}
  /-- Pip cores 0-3 and the sentinel, 4; an unlisted one is held with every register at zero but for its reset values. -/
  pip : List (Nat × PipCore) := []
  /-- DALI, dimming, metering and serial peripherals. -/
  lum : LumState := {}
  /-- The Failure Capture Record and BIST. -/
  fcr : FcrState := {}
  /-- Commands waiting, first in, first out. -/
  pending : List Instr := []
  deriving DecidableEq, Repr

/-- The machine right after a POWER-ON reset. -/
def State.reset : State := {}

end Sys2Proof.Machine
end

