-- ==== Sys2Proof/Machine/Ops.lean ====
section
/-!
DEFINITION. The named operations over the state: registers and their fields, interrupt flags, counters, memory,
power domains, free values.
-/

namespace Sys2Proof.Machine

/-- What one command's meaning answers: the next state. -/
abbrev Out := Host.Outcome State Fault Refusal

/-! ## Registers -/

/-- The word a register holds (its reset value when unlisted). -/
def State.reg (s : State) (a : Nat) : Word := Sparse.get regReset s.regs a

/-- The word a register holds, as a number. -/
def State.regN (s : State) (a : Nat) : Nat := (s.reg a).toNat

/-- Set a whole register, keeping the register file canonical. -/
def State.setReg (s : State) (a : Nat) (w : Word) : State :=
  { s with regs := Sparse.put regReset s.regs a w }

/-- Set a whole register from a number. -/
def State.setRegN (s : State) (a n : Nat) : State := s.setReg a (Word.ofN n)

/-- A field's value. -/
def State.fld (s : State) (f : Fld) : Nat := bitsOf (s.regN f.addr) f.lsb f.width

/-- A one-bit field as a truth value. -/
def State.flag (s : State) (f : Fld) : Bool := s.fld f != 0

/-- Set a field. -/
def State.setFld (s : State) (f : Fld) (v : Nat) : State :=
  s.setRegN f.addr (setBitsOf (s.regN f.addr) f.lsb f.width v)

/-- Raise a flag: hardware sets the bit (R5). -/
def State.raise (s : State) (f : Fld) : State := s.setFld f 1

/-- Clear a flag. -/
def State.lower (s : State) (f : Fld) : State := s.setFld f 0

/-- Set bit `i` of a register. -/
def State.setBit (s : State) (a i : Nat) : State := s.setRegN a (setBitsOf (s.regN a) i 1 1)

/-- Clear bit `i` of a register. -/
def State.clearBit (s : State) (a i : Nat) : State := s.setRegN a (setBitsOf (s.regN a) i 1 0)

/-- Bit `i` of a register. -/
def State.bit (s : State) (a i : Nat) : Bool := bitAt (s.regN a) i

/-- A counter that wraps at 2^32 counts by `n`. -/
def State.countBy (s : State) (a n : Nat) : State := s.setRegN a ((s.regN a + n) % 2 ^ 32)

/-- A counter that wraps at 2^32 counts one. -/
def State.count (s : State) (a : Nat) : State := s.countBy a 1

/-- A field counts one and saturates at its largest value. -/
def State.satCount (s : State) (f : Fld) : State := s.setFld f (satAdd (2 ^ f.width - 1) (s.fld f) 1)

/-! ## Writing a register by its access types (R5, R7) -/

/-- Is a value a legal encoding of a field (R7). -/
def FieldSpec.legalValue (f : FieldSpec) (v : Nat) : Bool :=
  f.legal.isEmpty || f.legal.any (fun p => p.1 ≤ v && v ≤ p.2)

/-- The value a write leaves in a field: `old` before, `v` written, `locked` for an RWL field whose lock is set. -/
def FieldSpec.written (f : FieldSpec) (locked : Bool) (old v : Nat) : Nat :=
  match f.acc with
  | .rw => if f.legalValue v then v else old
  | .rwl => if locked then old else if f.legalValue v then v else old
  | .ro => old
  | .rc => old
  | .wo => old
  | .w1c => old &&& (old ^^^ v)
  | .w1s => old ||| v

/-- A write applied field by field to the whole register. -/
def writeFields (fs : List FieldSpec) (locked : Bool) (old v : Nat) : Nat :=
  fs.foldl (fun w f => setBitsOf w f.lsb f.width (f.written locked (bitsOf old f.lsb f.width) (bitsOf v f.lsb f.width))) old

/-- The lock of a register's RWL fields was set before the write (R5). -/
def State.lockedReg (s : State) (a : Nat) (r : RegSpec) : Bool :=
  match r.lock with
  | none => false
  | some (off, bit) => s.bit (a - a % 0x10000 + off) bit

/-- A register write by the access types of its fields (R5-R7); an unlisted offset ignores it (R6). -/
def State.writeReg (s : State) (a : Nat) (w : Word) : State :=
  match regAt a with
  | none => s
  | some (r, _) => s.setRegN a (writeFields r.fields (s.lockedReg a r) (s.regN a) w.toNat)

/-- The word a read returns: WO fields and unlisted bits read zero (R5, R6). -/
def readFields (fs : List FieldSpec) (n : Nat) : Nat :=
  fs.foldl (fun w f => if f.acc = .wo then w else setBitsOf w f.lsb f.width (bitsOf n f.lsb f.width)) 0

/-- The word after an RC read: RC fields are cleared, but for bits a hardware event sets in the same cycle (R5). -/
def clearRC (fs : List FieldSpec) (n again : Nat) : Nat :=
  fs.foldl (fun w f => if f.acc = .rc then setBitsOf w f.lsb f.width (bitsOf again f.lsb f.width) else w) n

/-! ## Free values -/

/-- Draw a fresh free value below `m` and count the draw. -/
def State.draw (s : State) (m : Nat) : Nat × State :=
  (Config.freeNat s.free % m, { s with free := s.free + 1 })

/-! ## Power domains -/

/-- Is a domain powered (R130). PD_AON always is, while the part has power. -/
def State.domainOn (s : State) (d : Domain) : Bool :=
  match d with
  | .aon => true
  | d => s.bit A.pmuDomstat d.bit

/-- PD_COM and PD_CL0 are held in retention (R130). -/
def State.retention (s : State) : Bool := s.flag F.pmuDomstatRet

/-- PD_COM is on and out of retention. -/
def State.comUp (s : State) : Bool := s.domainOn .com && !s.retention

/-- The domain of a register address (R34): PD_AON blocks, the sentinel bank of the ICU, the always-on halves of EVF
and PAD; every other block lies in PD_COM. -/
def regDomain (a : Nat) : Domain :=
  let o := a % 0x10000
  match (a - 0x40000000) / 0x10000 with
  | 0x00 => .aon
  | 0x02 => .aon
  | 0x03 => if 0x8000 ≤ o then .aon else .com
  | 0x12 => .aon
  | 0x52 => .aon
  | 0x60 => if 0x5000 ≤ o && o < 0x6000 then .aon else .com
  | 0x61 => if 0x8000 ≤ o then .aon else .com
  | _ => .com

/-- The kinds of storage of the memory map (R30). -/
inductive Region where
  | rom | flash | mainSram | retained | context | registers | windows | reserved
  deriving DecidableEq, Repr

/-- The region of an address (R30). -/
def region (a : Nat) : Region :=
  if a < 0x00040000 then .rom
  else if 0x08000000 ≤ a && a < 0x0A000000 then .flash
  else if 0x20000000 ≤ a && a < 0x20600000 then .mainSram
  else if 0x24000000 ≤ a && a < 0x24040000 then .retained
  else if 0x30000000 ≤ a && a < 0x30040000 then .context
  else if 0x40000000 ≤ a && a < 0x41000000 then .registers
  else if 0x50000000 ≤ a && a < 0x51000000 then .windows
  else .reserved

/-- The cluster whose SRAM or tile window an address lies in (R30, R33). -/
def clusterOf (a : Nat) : Nat :=
  match region a with
  | .mainSram => (a - 0x20000000) / 0x180000
  | .windows => (a - 0x50000000) / 0x400000
  | _ => 0

/-- The domain of an address (R30, R34). -/
def addrDomain (a : Nat) : Domain :=
  match region a with
  | .rom => .com
  | .flash => .fl
  | .mainSram => Domain.cl (clusterOf a)
  | .retained => .aon
  | .context => .com
  | .registers => regDomain a
  | .windows => Domain.cl (clusterOf a)
  | .reserved => .aon

/-- Does anything lie at an address: not a reserved range, block slot (R31) or tile window position (R33). -/
def addrExists (a : Nat) : Bool :=
  match region a with
  | .reserved => false
  | .registers => (regTableAt a).isSome
  | .windows => (a % 0x400000) / 0x20000 < 24
  | _ => true

/-! ## Memory -/

/-- The power losses of a domain so far. -/
def State.epoch (s : State) (d : Domain) : Nat := (Sparse.find? s.ramEpochs d.idx).getD 0

/-- A byte of the link context RAM as start-up leaves it (R278-R280): HANDLE holds the generation and the index, every
other byte is zero. -/
def ctxByte (g a : Nat) : Byte :=
  let i := (a - 0x30000000) / 256
  match (a - 0x30000000) % 256 with
  | 0 => Byte.ofN i
  | 1 => Byte.ofN (4 * g + i / 256)
  | _ => 0

/-- The count that a main SRAM byte's free value comes from: its domain's power losses, and for the boot ROM's work area
also the resets (R135). -/
def State.sramEpoch (s : State) (a : Nat) : Nat :=
  s.epoch (addrDomain a) + (if a < 0x20040000 then (Sparse.find? s.ramEpochs 16).getD 0 else 0)

/-- What a context byte that nothing has written reads as. -/
def State.ctxBlank (s : State) (a : Nat) : Byte :=
  match s.ctxGen with
  | some g => ctxByte g a
  | none => Config.sramByte (s.epoch .com) a

/-- A flash byte by its offset: a redirected sector is read from its staging copy (R405), a sector in an undefined state
reads free bytes (R400, R605). -/
def State.flashByte (s : State) (off : Nat) : Byte :=
  let off := match s.flc.redirect with | some (k, base) => if off / 4096 = k then base + off % 4096 else off | none => off
  match Sparse.find? s.flc.junk (off / 4096), Sparse.find? s.flc.junkUnits (off / 256) with
  | some n, _ => Byte.ofN (Config.freeNat (n + off % 4096))
  | none, some n => Byte.ofN (Config.freeNat (n + off % 256))
  | none, none => Sparse.get (fun _ => 0xFF) s.flash off

/-- A byte of the boot ROM: the vector table of R491 at 0x200, whose 32 entries hold 1; the rest is not specified. -/
def romByte (a : Nat) : Byte := if 0x200 ≤ a && a < 0x280 then (if a % 4 = 0 then 1 else 0) else Config.romByte a

/-- One byte of storage as the model reads it: flash erased to 0xFF (R392), SRAM free until written (R23), the boot
ROM's unspecified content (R30). Register space reads as zero here; bus reads of registers go through the blocks. -/
def State.byte (s : State) (a : Nat) : Byte :=
  match region a with
  | .rom => romByte a
  | .flash => s.flashByte (a - 0x08000000)
  | .mainSram => (Sparse.find? s.ram a).getD (Config.sramByte (s.sramEpoch a) a)
  | .retained => (Sparse.find? s.ram a).getD (Config.sramByte (s.epoch .aon) a)
  | .context => (Sparse.find? s.ram a).getD (s.ctxBlank a)
  | _ => 0

/-- Write one byte of SRAM; any other storage is not written by a bus write (R30). -/
def State.setByte (s : State) (a : Nat) (b : Byte) : State :=
  match region a with
  | .mainSram => { s with ram := Sparse.insert s.ram a b }
  | .retained => { s with ram := Sparse.insert s.ram a b }
  | .context =>
    match s.ctxGen with
    | some g => { s with ram := Sparse.put (ctxByte g) s.ram a b }
    | none => { s with ram := Sparse.insert s.ram a b }
  | _ => s

/-- Bytes from an address touch a return-stack region of a core (R473). -/
def State.stackHit (s : State) (a n : Nat) : Bool :=
  s.pip.any (fun p =>
    (a < p.2.rsmLim.toNat && p.2.rsmBase.toNat < a + n && p.2.rsmBase.toNat < p.2.rsmLim.toNat)
    || (a < p.2.rsuLim.toNat && p.2.rsuBase.toNat < a + n && p.2.rsuBase.toNat < p.2.rsuLim.toNat))

/-- `n` bytes from an address. -/
def State.bytes (s : State) (a n : Nat) : List Byte :=
  match n with
  | 0 => []
  | n + 1 => s.byte a :: s.bytes (a + 1) n

/-- Write bytes from an address. -/
def State.setBytes (s : State) (a : Nat) (bs : List Byte) : State :=
  match bs with
  | [] => s
  | b :: t => (s.setByte a b).setBytes (a + 1) t

/-- The little-endian number in `k` bytes of memory (R4). -/
def State.mem (s : State) (a k : Nat) : Nat := leNat (s.bytes a k)

/-- Write a little-endian number of `k` bytes (R4). -/
def State.setMem (s : State) (a k v : Nat) : State := s.setBytes a (leBytes k v)

/-- `n` flash bytes from an offset. -/
def State.flashBytes (s : State) (off n : Nat) : List Byte :=
  match n with
  | 0 => []
  | n + 1 => s.flashByte off :: s.flashBytes (off + 1) n

/-- Set flash bytes from an offset, keeping the canonical form. -/
def State.setFlash (s : State) (off : Nat) (bs : List Byte) : State :=
  match bs with
  | [] => s
  | b :: t =>
    { s with flash := Sparse.put (fun _ => 0xFF) s.flash off b }.setFlash (off + 1) t

/-- Erase flash offsets `[lo, hi)` to 0xFF. -/
def State.eraseFlash (s : State) (lo hi : Nat) : State :=
  { s with flash := Sparse.eraseRange s.flash lo hi }

/-- An OTP word; blank words read zero. -/
def State.otpWord (s : State) (w : Nat) : Nat := (Sparse.get (fun _ => 0) s.otp w).toNat

/-- Set bits of an OTP word: OTP bits are only ever set (R408). -/
def State.orOtp (s : State) (w n : Nat) : State :=
  { s with otp := Sparse.put (fun _ => 0) s.otp w (BitVec.ofNat 64 (s.otpWord w ||| n)) }

/-- The memory's canonical form: addresses strictly rising, every listed byte in SRAM; flash and OTP list nothing
that reads as blank. -/
def State.memWf (s : State) : Bool :=
  Sparse.rising s.ram
  && Sparse.all s.ram (fun a b => region a == .mainSram || region a == .retained
      || (region a == .context && (match s.ctxGen with | some g => b != ctxByte g a | none => true)))
  && Sparse.wf (fun _ => (0xFF : Byte)) s.flash
  && Sparse.wf (fun _ => (0 : BitVec 64)) s.otp

/-- The register file's canonical form. -/
def State.regsWf (s : State) : Bool := Sparse.wf regReset s.regs

/-! ## The Board's configuration (R58) -/

/-- The key of a configuration word or setting: its macro and index. -/
def cfgKey (d c t m i : Nat) : Nat := ((((d * 8 + c) * 32 + t) * 64) + m) * 2 ^ 32 + i

/-- The tile that answers for a logic-die tile after substitution (R69). -/
def State.tileFor (s : State) (c t : Nat) : Nat := (Sparse.find? s.subst (32 * c + t)).getD (32 * c + t)

/-- The reset value of a setting: BAND of a channelizer tile and POOL of a decoder tile are 0xFF (R196, R235), QUANTUM
is 500 (R293). -/
def cfgReset (c t m i : Nat) : Nat :=
  if c = 7 && t = 2 && m = 0 && i = 0x40 then 500 else
  if c < 4 && (t == 14 || t == 15) && m == 0 && i == 0 then 0xFF
  else if c < 4 && 10 ≤ t && t ≤ 13 && m == 0 && i == 0 then 0xFF
  else 0

/-- A setting or word of the running Board on the logic die; an unlisted one holds its reset value. A retired tile keeps
its name: what the image writes to it, and what it does, is carried out on its substitute (R69). -/
def State.cfg (s : State) (c t m i : Nat) : Nat := (Sparse.find? s.board (cfgKey 1 c t m i)).getD (cfgReset c t m i)

/-- The quiesce window of a swap is open (R77, R81). -/
def State.swapWindow (s : State) : Bool := s.fld F.brdSwapstatState == 4

/-- The running swap replaces a section of a kind (R59). -/
def State.swapReplaces (s : State) (kind : Nat) : Bool :=
  match s.brd.swap with
  | none => false
  | some w => w.sections.any (fun p => p.2 == kind)

/-- A pad is held by the latch (R111). -/
def State.padHeld (s : State) (n : Nat) : Bool := s.pw.held.any (fun h => h.pad == n)

/-! ## Narrow paths (R28, R209) -/

/-- NARROW of a chain: the demodulator context, the decoder cluster and tile its narrow path is bound to (R209). -/
def State.narrow (s : State) (c : Chain) : Nat := s.cfg 7 22 0 (0x10 + c.idx)

/-- The context bound to a chain's narrow path. -/
def State.narrowCtx (s : State) (c : Chain) : Nat := bitsOf (s.narrow c) 16 7

/-- The cluster of a demodulator context: contexts are numbered along DSP tiles 00-09 of clusters 0-3 (R193). -/
def ctxCluster (k : Nat) : Nat := k / 20

/-- A cluster domain the narrow paths keep on (R28). -/
def State.narrowNeeds (s : State) (n : Nat) : Bool :=
  [Chain.s, Chain.t].any (fun c => ctxCluster (s.narrowCtx c) == n || bitsOf (s.narrow c) 8 2 == n)

/-- The level of read-out protection: the highest that either store gives (R402). -/
def State.rdpLevel (s : State) : Nat :=
  if bitAt (s.otpWord 0x84) 0 then 2 else if leNat (s.flashBytes 0 4) = 0x5A3CC3A5 then 1 else 0

/-! ## The mode in force (R35, R44) -/

/-- `PMU.MODESTAT.MODE`; 7 during start-up. -/
def State.mode (s : State) : Nat := s.fld F.pmuModestatMode

/-- `PMU.MODESTAT.PROFILE`. -/
def State.profile (s : State) : Nat := s.fld F.pmuModestatProfile

/-- DORMANT is in force. -/
def State.dormant (s : State) : Bool := s.mode == 0

/-- Are firmware cores and host commands served: after the handover (R142, R146). -/
def State.running (s : State) : Bool := s.pw.boot == .run

end Sys2Proof.Machine
end

