-- ==== Sys2Proof/Machine/HostIo.lean ====
section
/-!
DEFINITION. What every block uses of the Host Serial Link: raising notices (R381, R382), sending frames (R379) and
answering host commands (R375-R378).
-/

namespace Sys2Proof.Machine

/-- The number of an endpoint, as a key. -/
def epIdx : Endpoint → Nat
  | .loc => 0
  | .tunnel => 1
  | .debug => 2

/-- A channel of an endpoint; an unlisted one is closed. -/
def State.chan (s : State) (ep : Endpoint) (ch : Nat) : HslChan :=
  (Sparse.find? s.hsl.chans (16 * epIdx ep + ch)).getD {}

/-- Set a channel. -/
def State.setChan (s : State) (ep : Endpoint) (ch : Nat) (c : HslChan) : State :=
  { s with hsl := { s.hsl with chans := Sparse.insert s.hsl.chans (16 * epIdx ep + ch) c } }

/-! ## Sending -/

/-- A frame leaves the device; counter 1 counts frames of both endpoints, retransmissions included (R391). The tunnel's
frames go on to the tenant engine (R385). -/
def State.emit (s : State) (f : HslFrame) : State :=
  let t := if f.ep = .tunnel then s.hsl.tunOut ++ [f] else s.hsl.tunOut
  { s with hsl := { s.hsl with out := s.hsl.out ++ [f], tunOut := t } }.count (A.hslCtr 1)

/-- The tunnel is up (R385): enabled, its link's handle is current, UP and of tenant T0; the context's bytes 0-4 hold
HANDLE, STATE and TENANT (R279). -/
def State.tunnelUp (s : State) : Bool :=
  let h := s.fld F.hslTuncfgHandle
  let a := 0x30000000 + 256 * (h % 1024)
  s.comUp && s.flag F.hslTuncfgEn && s.mem a 2 == h && s.mem (a + 2) 1 % 16 == 2 && s.mem (a + 4) 1 == 0

/-- May the device send on an endpoint now: HSL_WAKE high and no HSL-1 preamble needed locally, the link UP on the
tunnel (R371, R381, R383). -/
def State.maySend (s : State) (ep : Endpoint) : Bool :=
  match ep with
  | .loc => s.hsl.wake && s.hsl.variant != 1
  | .tunnel => s.tunnelUp
  | .debug => true

/-- Rank of a frame kind in the order of R379: ACK, RSP, notices. -/
def kindRank (k : Nat) : Nat := if k = 4 then 0 else if k = 2 then 1 else 2

/-- Queue a frame behind those of its rank and before those of lower precedence (R379). -/
def queueFrame (q : List HslFrame) (f : HslFrame) : List HslFrame :=
  match q with
  | [] => [f]
  | g :: t => if kindRank f.kind < kindRank g.kind then f :: g :: t else g :: queueFrame t f

/-- Send a frame, or keep it waiting while its endpoint may not send (R371, R379, R384). -/
def State.send (s : State) (f : HslFrame) : State :=
  if s.maySend f.ep then s.emit f
  else { s with hsl := { s.hsl with waiting := queueFrame s.hsl.waiting f } }

/-- Send every waiting frame whose endpoint may now send, in order. -/
def State.flushWaiting (s : State) : State :=
  let go := s.hsl.waiting.filter (fun f => s.maySend f.ep)
  let stay := s.hsl.waiting.filter (fun f => !s.maySend f.ep)
  go.foldl (fun s f => s.emit f) { s with hsl := { s.hsl with waiting := stay } }

/-! ## Notices -/

/-- NTM's round, low 32 bits, as a NOTICE_LOST carries it (R382). -/
def State.round0 (s : State) : Nat := s.regN A.ntmRound0

/-- Is one of entries 0-62 free (R380, R382). -/
def State.noticeRoom (s : State) : Bool := s.hsl.notices.length < 63

/-- Add drops to a sum (R382). -/
def LostSum.add (l : LostSum) (code round : Nat) : LostSum :=
  { count := satAdd 0xFFFFFFFF l.count 1, codes := setBitsOf l.codes (code - 0xC0) 1 1,
    first := if l.count = 0 then round else l.first, last := round }

/-- A notice dropped for want of an entry (R382). -/
def State.dropNotice (s : State) (code : Nat) : State :=
  let s := (s.count (A.hslCtr 6)).raise F.hslIntstatNlost
  match s.hsl.lost with
  | none =>
    { s with hsl := { s.hsl with
        lost := some { sum := s.hsl.lostWait.add code s.round0, seq := s.hsl.nseq },
        lostWait := {}, nseq := (s.hsl.nseq + 1) % 65536 } }
  | some l =>
    if l.sent then
      { s with hsl := { s.hsl with lostWait := s.hsl.lostWait.add code s.round0 } }
    else
      { s with hsl := { s.hsl with lost := some { l with sum := l.sum.add code s.round0 } } }

/-- Raise a notice: it takes the next sequence number and the next entry, or is dropped (R381, R382). -/
def State.notice (s : State) (code : Nat) (payload : List Byte) : State :=
  if s.noticeRoom then
    { s with hsl := { s.hsl with
        notices := s.hsl.notices ++ [{ code := code, payload := payload, seq := s.hsl.nseq }],
        nseq := (s.hsl.nseq + 1) % 65536 } }
  else s.dropNotice code

/-! ## Commands and responses -/

/-- The response payload: code, reserved zero, status, rest (R373). -/
def rspPayload (code : Nat) (st : Status) (rest : List Byte) : List Byte :=
  Byte.ofN code :: 0 :: (leBytes 2 st.code ++ rest)

/-- Send an RSP without storing it (R375, R377). -/
def State.answer (s : State) (o : Origin) (code : Nat) (st : Status) (rest : List Byte) : State :=
  s.send { ep := o.ep, kind := 2, ch := o.ch, seq := o.seq, payload := rspPayload code st rest }

/-- Finish a command: its RSP is stored as the channel's last, and sent (R377). -/
def State.respond (s : State) (o : Origin) (code : Nat) (st : Status) (rest : List Byte) : State :=
  let c := s.chan o.ep o.ch
  let s := if c.running && c.last == some o.seq
    then s.setChan o.ep o.ch { c with running := false, rsp := rspPayload code st rest } else s
  s.answer o code st rest

/-- What a handler of a host command does: it answers now, or the response comes later. -/
inductive Reply where
  | now (st : Status) (rest : List Byte)
  | later
  deriving DecidableEq, Repr

/-- A handler: the payload and the origin to a reply and a state. -/
abbrev Handler := Origin → List Byte → State → Reply × State

/-- A command is taken and executed (R377): its channel runs it, and its RSP is stored when it is sent. -/
def execCommand (code : Nat) (h : Handler) (o : Origin) (p : List Byte) (s : State) : State :=
  let s := s.setChan o.ep o.ch { opened := true, last := some o.seq, since := s.tb.now, running := true }
  match h o p s with
  | (.now st rest, s) => s.respond o code st rest
  | (.later, s) => s

/-- The codes ROM service serves: system and modes, firmware images, Board, NV and defaults (R144), with BIST_RESULT
and FCR_READ (R578). -/
def servedInService (code : Nat) : Bool :=
  (0x10 ≤ code && code < 0x20) || (0x30 ≤ code && code < 0x60) || code == 0x61 || code == 0x62

/-- The codes the tamper halt serves (R463), with BIST_RESULT and FCR_READ (R578). -/
def servedInHalt (code : Nat) : Bool :=
  [0x10, 0x14, 0x13, 0x90, 0x93, 0x94, 0x54, 0x62, 0x61].contains code

/-- The codes the debug port serves at a read-out protection level (R579). -/
def servedOnDebug (level code : Nat) : Bool :=
  level == 0 || (level == 1 && [0x10, 0x14, 0x61, 0x62].contains code)

/-- Is a command served at all where the part stands: after the handover every one is; ROM service and the tamper halt
serve their lists; before the handover none but HSL_SYNC's BUSY (R142, R144, R376, R463). -/
def State.serves (s : State) (o : Origin) (code : Nat) : Bool :=
  (o.ep != .debug || servedOnDebug (s.rdpLevel) code)
  && (match s.pw.boot with
      | .run => true
      | .service => servedInService code && o.ep != .tunnel
      | .halt => servedInHalt code
      | _ => false)

/-- A CMD of a form the device accepts: the channel rules of R376 and the table of R377. HSL_SYNC is taken on a closed
channel, and is answered BUSY before the handover. -/
def takeCommand (code : Nat) (h : Handler) (o : Origin) (p : List Byte) (s : State) : State :=
  let c := s.chan o.ep o.ch
  if code = 0x10 && !(s.pw.boot == .run || s.pw.boot == .service || s.pw.boot == .halt) then
    s.answer o code .busy []
  else if code != 0x10 && !c.opened then s.answer o code .notPermitted []
  else if c.last == some o.seq && c.running then
    s.send { ep := o.ep, kind := 4, ch := o.ch, seq := o.seq, payload := [] }
  else if c.last == some o.seq then
    s.send { ep := o.ep, kind := 2, ch := o.ch, seq := o.seq, payload := c.rsp }
  else if c.running then s.answer o code .busy []
  else if s.serves o code then execCommand code h o p s
  else execCommand code (fun _ _ s => (.now .notPermitted [], s)) o p s

/-- The RSP BAD_FRAME of R375, counted. -/
def badForm (o : Origin) (code : Nat) (s : State) : State :=
  ((s.count (A.hslCtr 3)).raise F.hslIntstatBadframe).answer o code .badFrame []

/-- The endpoint hears its host: PD_COM runs, no reset holds the part and no BIST run has it (R572), and on the tunnel
its link is accepted (R370, R376, R385). -/
def State.hearsHost (s : State) (ep : Endpoint) : Bool :=
  s.comUp && s.pw.boot != .bist && s.pw.boot != .held && s.pw.boot != .off && (ep != .tunnel || s.tunnelUp)

/-- A frame with a good CRC is counted (R391); a CMD that follows a lost arbitration goes first (R384). -/
def State.frameIn (s : State) (o : Option Origin) : State :=
  let y := match o with | some x => if x.ep = .loc && s.hsl.lostArb then some x.ch else s.hsl.yieldTo | none => s.hsl.yieldTo
  { s with hsl := { s.hsl with lostArb := false, yieldTo := y } }.count (A.hslCtr 0)

/-- A host command row: its payload's length is checked first (R375), then the command is taken. -/
def hostCommand (code : Nat) (lenOk : Nat → Bool) (h : Handler) (o : Origin) (p : List Byte) (s : State) : State :=
  if !s.hearsHost o.ep then s else
  let s := s.frameIn (some o)
  if o.ep == .tunnel && 1024 < p.length + 2 then badForm o code s
  else if lenOk p.length then takeCommand code h o p s
  else badForm o code s

end Sys2Proof.Machine
end

