-- ==== Sys2Proof/Machine/Faults.lean ====
section
/-!
DEFINITION. The Failure Capture Record (R575-R578, R584): capture, commit, and FCR_READ.
-/

namespace Sys2Proof.Machine

/-- Offset of fault unit `u` in the primary FCR area; the mirror lies 0x00F0_0000 above (R575). -/
def fcrOff (u : Nat) : Nat := 0x00F10000 + 256 * u
/-- Distance of the mirror area. -/
def fcrMirror : Nat := 0x00F00000

/-- The device root secret's bytes (R439). -/
def State.rootSecret (s : State) : List Byte := ((List.range 4).map (fun k => leBytes 8 (s.otpWord (0x148 + k)))).flatten

/-- A byte string cut or filled to a length. -/
def fixLen (n : Nat) (l : List Byte) : List Byte := (l ++ List.replicate n 0).take n

/-- HMAC-SHA-256 (algorithm 7 of R447), 32 bytes. -/
def hmac256 (key msg : List Byte) : List Byte := fixLen 32 (Config.crypto 7 key [] msg)

/-- ASCII bytes. -/
def asciiBytes (t : String) : List Byte := t.toList.map (fun c => Byte.ofN c.toNat)

/-- The seal of a record's first 224 bytes (R577). -/
def State.fcrSeal (s : State) (b : List Byte) : List Byte := hmac256 (hmac256 s.rootSecret (asciiBytes "SX8800 FCR")) b

/-- Bytes 0-223 of a fault record (R577). -/
def State.faultBytes (s : State) (f : FaultRec) : List Byte :=
  [Byte.ofN f.kind, 0] ++ leBytes 2 f.count ++ leBytes 8 f.tmb ++ leBytes 4 f.round ++ leBytes 8 f.site
  ++ leBytes 4 f.d1 ++ leBytes 4 f.d2 ++ leBytes 4 f.d3 ++ leBytes 4 (s.regN A.sysId) ++ leBytes 4 f.fwver
  ++ leBytes 4 f.layout ++ leBytes 16 0
  ++ (if f.regs.isEmpty then leBytes 64 0 else (f.regs.map (leBytes 4)).flatten)
  ++ List.replicate 96 0xFF

/-- A unit's copy is good: its seal verifies. -/
def State.fcrGood (s : State) (off : Nat) : Bool :=
  let b := s.flashBytes off 256
  byteAt b 0 != 0xFF && b.drop 224 == s.fcrSeal (b.take 224)

/-- A unit is used: not wholly erased. -/
def State.fcrUsed (s : State) (u : Nat) : Bool :=
  s.flashBytes (fcrOff u) 40 != List.replicate 40 0xFF || s.flashBytes (fcrOff u + fcrMirror) 40 != List.replicate 40 0xFF

/-- A unit's bytes: the primary copy, or the mirror where the primary fails its seal (R575). -/
def State.fcrUnit (s : State) (u : Nat) : List Byte :=
  if s.fcrGood (fcrOff u) then s.flashBytes (fcrOff u) 256 else s.flashBytes (fcrOff u + fcrMirror) 256

/-- The units used. -/
def State.fcrCount (s : State) : Nat := ((List.range 16).filter s.fcrUsed).length

/-- A fault with this kind and site is committed already (R576). -/
def State.fcrKnown (s : State) (kind site : Nat) : Bool :=
  (List.range 16).any (fun u => s.fcrUsed u && byteAt (s.fcrUnit u) 0 == kind && leAt (s.fcrUnit u) 16 8 == site)

/-- FAULT_CAPTURE (R576). -/
def State.captureFault (s : State) (kind : Nat) (site d1 d2 d3 : Nat) (regs : List Nat) : State :=
  if s.fcrKnown kind site then { s with fcr := { s.fcr with repeats := satAdd 0xFFFFFFFF s.fcr.repeats 1 } }
  else if 4 ≤ s.fcr.pending.length || 16 ≤ s.fcrCount then
    { s with fcr := { s.fcr with lost := satAdd 0xFFFFFFFF s.fcr.lost 1 } }.raise F.fcrIntstatFull
  else
    let f : FaultRec :=
      { kind := kind, count := s.fld F.rstRstcountCount, tmb := s.tb.now,
        round := if s.flag F.ntmStatValid then s.regN A.ntmRound0 else 0, site := site, d1 := d1, d2 := d2, d3 := d3,
        fwver := s.fw.ver, layout := s.regN A.brdLayout, regs := regs }
    { s with fcr := { s.fcr with pending := s.fcr.pending ++ [f] } }

/-! ## Flash, as every block meets it (R392, R399, R421) -/

/-- The flash offset of firmware slot A or B. -/
def fwSlotOff (k : Nat) : Nat := if k = 0 then 0x00100000 else 0x01000000

/-- The plane of a flash offset. -/
def planeOf (off : Nat) : Nat := off / 0x1000000

/-- The rollback floor: the 1 bits of OTP words 0x080-0x083 (R407). -/
def State.rollbackFloor (s : State) : Nat := ((List.range 4).map (fun k => popCount 64 (s.otpWord (0x80 + k)))).foldl (· + ·) 0

/-- Counter `k` of the flash controller (R421). -/
def State.flcCount (s : State) (k n : Nat) : State := s.countBy (A.flcCtr k) n

/-- A read of a plane suspends an erase on it, unless the erase resumed less than 500 us ago (R399). -/
def State.touchPlane (s : State) (p : Nat) : State :=
  match s.flc.erase with
  | some e =>
    let fresh := match e.resumed with | some t => s.tb.now < t + 20000 | none => false
    if (e.lower || planeOf (4096 * e.first) = p) && !e.suspended && !fresh then
      { s with flc := { s.flc with erase := some { e with suspended := true } } }.flcCount 5 1
    else s
  | none =>
    match s.flc.op with
    | some o =>
      if (o.op = 2 || o.op = 3) && planeOf o.addr = p && !o.suspended then
        { s with flc := { s.flc with op := some { o with suspended := true } } }.flcCount 5 1
      else s
    | none => s

/-! ## FW_STATE (R438) -/

/-- The header of a firmware slot: its first 64 bytes (R426). -/
def State.fwHead (s : State) (k : Nat) : List Byte := s.flashBytes (fwSlotOff k) 64

/-- A slot's SVN and FWVER as its header gives them, or zero for an empty slot. -/
def State.fwSvn (s : State) (k : Nat) : Nat := if (s.fwHead k).all (· == 0xFF) then 0 else byteAt (s.fwHead k) 14
/-- FWVER. -/
def State.fwVer (s : State) (k : Nat) : Nat := if (s.fwHead k).all (· == 0xFF) then 0 else leAt (s.fwHead k) 16 4

/-- The FW_STATE payload (R438). -/
def State.fwStatePayload (s : State) (event flags : Nat) (st : Status) (slot detail actid : Nat) : List Byte :=
  [Byte.ofN event, Byte.ofN flags] ++ leBytes 2 st.code
  ++ [Byte.ofN slot, Byte.ofN detail, Byte.ofN s.rollbackFloor, Byte.ofN (s.fwSvn slot)] ++ leBytes 4 (s.fwVer slot) ++ leBytes 4 actid

/-- Send FW_STATE. -/
def State.fwNotice (s : State) (event flags : Nat) (st : Status) (slot detail actid : Nat) : State :=
  s.notice 0xCC (s.fwStatePayload event flags st slot detail actid)

/-- FAULT_COMMIT (R576): the oldest pending record goes into the first unused unit of both copies, while PD_FL is on. -/
def execFaultCommit (s : State) : Out :=
  .next (
    match s.fcr.pending with
    | [] => s
    | f :: rest =>
      if !s.domainOn .fl then s
      else
        let s := { s with fcr := { s.fcr with pending := rest } }
        if s.fcrKnown f.kind f.site then { s with fcr := { s.fcr with repeats := satAdd 0xFFFFFFFF s.fcr.repeats 1 } }
        else
          match (List.range 16).find? (fun u => !s.fcrUsed u) with
          | none => { s with fcr := { s.fcr with lost := satAdd 0xFFFFFFFF s.fcr.lost 1 } }.raise F.fcrIntstatFull
          | some u =>
            let b := s.faultBytes f
            let b := b ++ s.fcrSeal b
            (((s.setFlash (fcrOff u) b).setFlash (fcrOff u + fcrMirror) b).flcCount 3 2).raise F.fcrIntstatNew)

/-- FCR_READ's handler (R578). -/
def handleFcrRead : Handler := fun _ p s =>
  let u := byteAt p 0
  if 16 ≤ u || !allZero (p.drop 1) then (.now .reservedValue [], s)
  else if !s.fcrUsed u then (.now .notPermitted [], s)
  else (.now .ok ([Byte.ofN s.fcrCount, 0, 0, 0] ++ leBytes 4 s.fcr.lost ++ s.fcrUnit u), s)

/-- FCR_READ (R578). -/
def execFcrRead (o : Origin) (p : List Byte) (s : State) : Out := .next (hostCommand 0x62 (· == 4) handleFcrRead o p s)

/-- `FCR.STAT` (R584). -/
def State.fcrStat (s : State) : Nat :=
  let bad := (List.range 16).any (fun u =>
    s.fcrUsed u && s.fcrGood (fcrOff u) != s.fcrGood (fcrOff u + fcrMirror))
  2 ^ 16 * s.fcrCount + 2 ^ 8 * s.fcr.pending.length + 2 * b2n (16 ≤ s.fcrCount) + b2n bad

end Sys2Proof.Machine
end

