-- ==== Sys2Proof/Machine/Power.lean ====
section
/-!
DEFINITION. Supplies, oscillators, PLLs and spreading (R102-R133): the events of the PMU and the CLK registers.
-/

namespace Sys2Proof.Machine

/-! ## The PLLs (R119, R120) -/

/-- The clock ceiling a mode gives CK_CPU, in MHz, with the limit of its profile (R35, R39). -/
def cpuLimit (mode profile : Nat) : Nat :=
  match mode with
  | 1 => 200
  | 2 => if profile = 0 then 200 else 600
  | 5 => if profile = 0 then 100 else 300
  | _ => 600

/-- The clock ceiling a mode gives CK_FAB, in MHz, with the limit of its profile (R35, R39). -/
def fabLimit (mode profile : Nat) : Nat :=
  match mode with
  | 3 => if profile = 0 then 800 else if profile = 1 then 1200 else 1600
  | _ => 400

/-- The Board's POWERDEF for a mode (R123). -/
def State.powerDef (s : State) (mode : Nat) : Nat := s.cfg 7 25 0 mode

/-- The Board keeps a cluster domain off in a mode (R38, R123). -/
def State.clusterOff (s : State) (mode n : Nat) : Bool := 1 ≤ n && bitAt (s.powerDef mode) n

/-- A cluster that is off and is switched on by demand: in NODE profile 1, and in W-ACTIVE of WATCH (R35, R606). -/
def State.onDemand (s : State) (n : Nat) : Bool :=
  1 ≤ n && n ≤ 3 && ((s.mode == 2 && s.profile == 1) || (s.mode == 1 && !s.pw.wSleep)) && !s.domainOn (Domain.cl n)
  && !s.clusterOff s.mode n

/-- Demand for a cluster starts switching it on (R606). -/
def State.demandCluster (s : State) (n : Nat) : State :=
  if s.onDemand n && !s.pw.clusterWaking.contains n
  then { s with pw := { s.pw with clusterWaking := s.pw.clusterWaking ++ [n] } } else s

/-- Bytes written by an engine, where the storage is powered; a write to a return-stack region is refused (R473), and one
that finds its cluster off waits for it (R606). -/
def State.dma (s : State) (a : Nat) (bs : List Byte) : State :=
  if s.stackHit a bs.length then s
  else if s.domainOn (addrDomain a) then s.setBytes a bs
  else if region a == Region.mainSram && s.onDemand (clusterOf a) then
    let s := s.demandCluster (clusterOf a)
    { s with pw := { s.pw with lateWrites := s.pw.lateWrites ++ [(a, bs)] } }
  else s

/-- The Board's cap on CK_CPU for a mode: none, 300, 200 or 100 MHz (R123). -/
def State.cpuCap (s : State) (mode : Nat) : Nat :=
  match bitsOf (s.powerDef mode) 8 2 with
  | 0 => 600
  | 1 => 300
  | 2 => 200
  | _ => 100

/-- The Board's cap on CK_FAB for a mode: none, 1200, 800 or 400 MHz (R123). -/
def State.fabCap (s : State) (mode : Nat) : Nat :=
  match bitsOf (s.powerDef mode) 12 2 with
  | 0 => 1600
  | 1 => 1200
  | 2 => 800
  | _ => 400

/-- CK_CPU's ceiling: the lowest of mode, profile and Board (R119). -/
def State.cpuCeiling (s : State) (mode profile : Nat) : Nat := min (cpuLimit mode profile) (s.cpuCap mode)

/-- CK_FAB's ceiling: the lowest of mode, profile and Board (R119). -/
def State.fabCeiling (s : State) (mode profile : Nat) : Nat := min (fabLimit mode profile) (s.fabCap mode)

/-- The N and P of the highest row of R119 for CK_CPU that does not exceed a ceiling. -/
def cpuRow (ceiling : Nat) : Nat × Nat :=
  if 600 ≤ ceiling then (60, 1) else if 300 ≤ ceiling then (60, 2) else if 200 ≤ ceiling then (40, 2) else (40, 3)

/-- The N and P of the highest row of R119 for CK_FAB that does not exceed a ceiling. -/
def fabRow (ceiling : Nat) : Nat × Nat :=
  if 1600 ≤ ceiling then (80, 0) else if 1200 ≤ ceiling then (60, 0) else if 800 ≤ ceiling then (40, 0) else (40, 1)

/-- Does a PLL at N and P run above a ceiling: its output is 40 MHz x N / 2^(P + 1) (R119). -/
def pllAbove (n p ceiling : Nat) : Bool := ceiling * 2 ^ (p + 1) < 40 * n

/-- Put N and P into a PLL register, clamped to a ceiling (R119). -/
def State.setPll (s : State) (fn fp : Fld) (n p ceiling : Nat) (row : Nat → Nat × Nat) : State :=
  if pllAbove n p ceiling then (s.setFld fn (row ceiling).1).setFld fp (row ceiling).2
  else (s.setFld fn n).setFld fp p

/-- CK_CPU moves to CK_HF: PLL-C is out of lock (R119). -/
def State.cpuToHf (s : State) : State := (s.lower F.clkStatClock).raise F.clkStatCpuhf

/-- Both PLLs take the point of a profile; they lock at once where XREF is qualified, else CK_CPU runs on CK_HF and
CK_FAB is stopped (R118-R120). -/
def State.setPoints (s : State) (mode profile : Nat) : State :=
  let c := cpuRow (s.cpuCeiling mode profile)
  let f := fabRow (s.fabCeiling mode profile)
  let s := ((s.setFld F.clkPllcN c.1).setFld F.clkPllcP c.2).raise F.clkPllcEn
  let s := ((s.setFld F.clkPllfN f.1).setFld F.clkPllfP f.2).raise F.clkPllfEn
  if s.flag F.pmuStatXrefrdy then
    ((s.raise F.clkStatClock).lower F.clkStatCpuhf).raise F.clkStatFlock
  else s.cpuToHf.lower F.clkStatFlock

/-- A write to `CLK.PLLC` (R120): a change of N, P or EN moves CK_CPU to CK_HF and relocks PLL-C. -/
def State.writePllc (s : State) (w : Word) : State :=
  let s' := s.writeReg A.clkPllc w
  let s' := s'.setPll F.clkPllcN F.clkPllcP (s'.fld F.clkPllcN) (s'.fld F.clkPllcP)
    (s.cpuCeiling s.mode s.profile) cpuRow
  if s'.reg A.clkPllc = s.reg A.clkPllc then s' else s'.cpuToHf

/-- A sample path feeds the fabric: a wide path runs, or a chain of a narrow path is receiving (R120). -/
def State.samplePathsRun (s : State) : Bool :=
  s.fld F.pmuModestatBands != 0
  || s.fld (F.rfsStatState .s) == 4 || s.fld (F.rfsStatState .t) == 4

/-- A write to `CLK.PLLF` (R120): refused as a whole while a sample path feeds the fabric. -/
def State.writePllf (s : State) (w : Word) : State :=
  if s.samplePathsRun then s.raise F.clkStatRefused
  else
    let s' := s.writeReg A.clkPllf w
    let s' := s'.setPll F.clkPllfN F.clkPllfP (s'.fld F.clkPllfN) (s'.fld F.clkPllfP)
      (s.fabCeiling s.mode s.profile) fabRow
    if s'.reg A.clkPllf = s.reg A.clkPllf then s' else s'.lower F.clkStatFlock

/-- A command of a bus write that user privilege cannot make (R8): nothing changes. -/
def guarded (user : Bool) (s s' : State) : Out := .next (if user then s else s')

/-- PLLC_WRITE (R120). -/
def execPllcWrite (user : Bool) (w : Word) (s : State) : Out :=
  guarded user s (if s.comUp then s.writePllc w else s)

/-- PLLF_WRITE (R120). -/
def execPllfWrite (user : Bool) (w : Word) (s : State) : Out :=
  guarded user s (if s.comUp then s.writePllf w else s)

/-- PLL_LOCK (R119): an enabled PLL locks, which needs XREF, and its clock moves back onto it. -/
def execPllLock (c : Bool) (s : State) : Out :=
  .next (
    if !s.flag F.pmuStatXrefrdy then s
    else if c then
      if s.flag F.clkPllcEn then (s.raise F.clkStatClock).lower F.clkStatCpuhf else s
    else if s.flag F.clkPllfEn then s.raise F.clkStatFlock else s)

/-- PLL_LOCK_LOSS (R122). -/
def execPllLockLoss (c : Bool) (s : State) : Out :=
  .next (
    if c then (if s.flag F.clkStatClock then (s.raise F.clkStatCloss).cpuToHf else s)
    else if s.flag F.clkStatFlock then (s.raise F.clkStatFloss).lower F.clkStatFlock else s)

/-- SPREAD_APPLY (R121): the depths and enables in `CLK.SPREAD` take effect at the turning point. -/
def execSpreadApply (s : State) : Out :=
  .next { s with pw := { s.pw with spreadInForce := s.regN A.clkSpread } }

/-! ## The supplies -/

/-- LPMON_UPDATE (R108): LOAD and PEAK in units of 10 uA, saturating; LPHIGH when LOAD exceeds WARN. Outside DORMANT
LOAD reads zero. -/
def execLpmonUpdate (load : Nat) (s : State) : Out :=
  .next (
    if s.flag F.pmuStatAonlp then
      let l := min load 255
      let s := (s.setFld F.pmuLpmonLoad l).setFld F.pmuLpmonPeak (max (s.fld F.pmuLpmonPeak) l)
      if s.fld F.pmuLpmonWarn < l then s.raise F.pmuIntstatLphigh else s
    else s.lower F.pmuLpmonLoad)

/-- BUCK_CURRENT_LIMIT (R104): BUCKILIM reads 1 while the limit acts, and the flag is raised when it begins. -/
def execBuckCurrentLimit (acting : Bool) (s : State) : Out :=
  .next (
    if acting then (s.raise F.pmuStatBuckilim).raise F.pmuIntstatBuckilim
    else s.lower F.pmuStatBuckilim)

/-! ## The oscillators -/

/-- XLF_FAIL (R113): CK_LF moves to LF RC and stays there until a reset that reaches PD_AON. -/
def execXlfFail (s : State) : Out :=
  .next ((((s.raise F.pmuIntstatXlffail).raise F.pmuStatLfrc).lower F.pmuStatXlfok)
    |> fun s => { s with pw := { s.pw with xlfFailed := true } })

/-- XLF_QUALIFIED (R113): after a reset that reached PD_AON, XLF takes over CK_LF. -/
def execXlfQualified (s : State) : Out :=
  .next (if s.pw.xlfFailed then s else (s.raise F.pmuStatXlfok).lower F.pmuStatLfrc)

/-- LFRATIO_MEASURE (R114): CK_REF ticks over 4,096 CK_LF cycles, as ticks per cycle in 16.16. -/
def execLfratioMeasure (ticks : Nat) (s : State) : Out :=
  .next (if s.flag F.pmuStatXrefrdy then s.setRegN A.pmuLfratio (ticks * 65536 / 4096) else s)

/-- HFRC_FAIL (R115). -/
def execHfrcFail (s : State) : Out :=
  .next (((s.raise F.pmuIntstatHfrcfail).lower F.pmuStatHfrcok)
    |> fun s => { s with pw := { s.pw with hfrcFailed := true } })

/-- XREF is enabled and starts (R116, R117); in TCXO mode XREF_EN is driven high. -/
def State.xrefStart (s : State) : State :=
  if s.flag F.pmuStatXrefrdy then s else { s with pw := { s.pw with xrefStarting := true } }

/-- XREF is stopped: XREF_EN is released (R110). -/
def State.xrefStop (s : State) : State :=
  { s.lower F.pmuStatXrefrdy with pw := { s.pw with xrefStarting := false } }

/-- XREF_RETRY (R118): after a failure the PMU retries the start. -/
def execXrefRetry (s : State) : Out :=
  .next (if s.domainOn .xr then s.xrefStart else s)

end Sys2Proof.Machine
end

