-- ==== Sys2Proof/Machine/Icu.lean ====
section
/-!
DEFINITION. The interrupt controller (R506-R518): sources, pending and active, presentation into event rings,
end of interrupt, the always-on path.
-/

namespace Sys2Proof.Machine

/-- The key of a source: shared sources by ID, private ones by core and ID (R506). -/
def irqKey (core id : Nat) : Nat := if 64 ≤ id then id else 1024 + 64 * core + id

/-- The ID of a key. -/
def irqId (k : Nat) : Nat := if k < 1024 then k else (k - 1024) % 64

/-- Is an ID assigned (R507, R508). A reserved ID never fires. -/
def irqAssigned (id : Nat) : Bool :=
  id ≤ 34 || (64 ≤ id && id ≤ 66) || (128 ≤ id && id ≤ 130) || (256 ≤ id && id ≤ 261)
  || (384 ≤ id && id ≤ 389) || (448 ≤ id && id ≤ 453) || id == 512 || id == 513
  || (576 ≤ id && id ≤ 579) || (640 ≤ id && id ≤ 879) || (928 ≤ id && id ≤ 933)

/-- Is a source always-on (R516). -/
def irqAon (id : Nat) : Bool :=
  id == 66 || id == 578 || (640 ≤ id && id ≤ 703) || id == 928 || id == 929 || id == 933

/-- The word and bit of an always-on source in AONEN, AONPEND and AONACT (R518). -/
def aonPlace (id : Nat) : Nat × Nat :=
  if 640 ≤ id && id ≤ 703 then ((id - 640) / 32, (id - 640) % 32)
  else (2, if id = 66 then 0 else if id = 578 then 1 else if id = 928 then 2 else if id = 929 then 3 else 4)

/-- A source's state. -/
def State.irq (s : State) (k : Nat) : IrqSource := (Sparse.find? s.icu.src k).getD {}

/-- Set a source's state. -/
def State.setIrq (s : State) (k : Nat) (x : IrqSource) : State :=
  { s with icu := { s.icu with src := Sparse.put (fun _ => ({} : IrqSource)) s.icu.src k x } }

/-- A bank's state. -/
def State.bank (s : State) (core : Nat) : IrqBank := (Sparse.find? s.icu.banks core).getD {}

/-- Set a bank's state. -/
def State.setBank (s : State) (core : Nat) (b : IrqBank) : State :=
  { s with icu := { s.icu with banks := Sparse.put (fun _ => ({} : IrqBank)) s.icu.banks core b } }

/-- The Board's routing of a shared source: TARGET, SENSE, PRIO (R509). -/
def State.irqRoute (s : State) (id : Nat) : Nat := s.cfg 7 8 0 id

/-- The core a source is presented to (R506, R509, R516): an always-on source goes to the sentinel while PD_COM is
off or in retention. -/
def State.irqTarget (s : State) (k : Nat) : Nat :=
  if 1024 ≤ k then (k - 1024) / 64
  else if irqAon k && !s.comUp then 4
  else bitsOf (s.irqRoute k) 16 3

/-- A source's priority (R507, R509). -/
def State.irqPrio (s : State) (k : Nat) : Nat :=
  if 1024 ≤ k then
    bitsOf (s.regN (A.icuPrivprio ((k - 1024) / 64) (irqId k / 8))) (4 * (irqId k % 8)) 4
  else bitsOf (s.irqRoute k) 0 4

/-- A source's sense: 0 level, 1 rising, 2 falling, 3 both (R507, R509). -/
def State.irqSense (s : State) (k : Nat) : Nat :=
  if 1024 ≤ k then (if irqId k = 34 then 0 else 1) else bitsOf (s.irqRoute k) 8 2

/-- Is a source enabled (R507, R508, R516). -/
def State.irqEnabled (s : State) (k : Nat) : Bool :=
  if 1024 ≤ k then
    let c := (k - 1024) / 64
    if irqId k < 32 then s.bit (A.icuPriven0 c) (irqId k) else s.bit (A.icuPriven1 c) (irqId k - 32)
  else if irqAon k then s.bit (A.icuAonen 4 (aonPlace k).1) (aonPlace k).2
  else s.bit (A.icucShen ((k - 64) / 32)) ((k - 64) % 32)

/-- TIME of an assertion: TMB's low 32 bits, or while TMB is stopped the value it will have, known only to within one
CK_LF cycle (R516, R517): a free value then, with LFTIME set. -/
def State.irqTime (s : State) : Nat × Bool × State :=
  if s.tb.run == .stopped then
    let (v, s) := s.draw (2 ^ 32)
    (v, true, s)
  else (s.tb.now % 2 ^ 32, false, s)

/-- Set a source pending for an edge: merged when it is pending already (R510). -/
def State.irqSetPending (s : State) (k edge payload : Nat) : State :=
  let x := s.irq k
  if x.pend then
    let b := s.irqTarget k
    (s.setIrq k { x with merged := true }).count (A.icuCtr b 1)
  else
    let (t, lf, s) := s.irqTime
    s.setIrq k { x with pend := true, time := t, edge := edge, merged := false, payload := payload, lfTime := lf }

/-- Sample a source (R510): edges set pending whether or not it is enabled; a level follows while not active. -/
def State.irqSample (s : State) (k : Nat) (level : Bool) (payload : Nat) : State :=
  let x := s.irq k
  let sense := s.irqSense k
  let s' := s.setIrq k { x with level := level }
  let x' := s'.irq k
  if sense = 0 then
    if x.act then s'
    else if level && !x.pend then
      let (t, lf, s'') := s'.irqTime
      s''.setIrq k { x' with pend := true, time := t, edge := 0, merged := false, payload := payload, lfTime := lf }
    else if !level then s'.setIrq k { x' with pend := false }
    else s'
  else if level && !x.level && sense % 2 = 1 then s'.irqSetPending k 1 payload
  else if !level && x.level && 2 ≤ sense then s'.irqSetPending k 2 payload
  else s'

/-- A hardware pulse on a source: its level rises; it falls when the source is next sampled low (R510). -/
def State.irqPulse (s : State) (id payload : Nat) : State :=
  let k := irqKey 0 id
  let s := s.setIrq k { s.irq k with level := false }
  s.irqSample k true payload

/-- The level of a block's flag source: a set flag whose enable is set (R508). -/
def State.flagsOn (s : State) (stat en : Nat) : Bool := s.regN stat &&& s.regN en != 0

/-- The ring of a stream is not empty. -/
def State.streamOn (s : State) (wr rd : Nat) : Bool := s.regN wr != s.regN rd

/-- The level of a source the state itself determines: block flags, rings (R507, R508); none for a source that pins,
pulses or the event fabric drive. -/
def State.irqOwnLevel (s : State) (core id : Nat) : Option Bool :=
  if id = 34 then some (s.flagsOn (A.icuIntstat core) (A.icuInten core))
  else if id = 64 then some (s.flagsOn (A.rfsIntstat .s) (A.rfsInten .s))
  else if id = 65 then some (s.flagsOn (A.rfsIntstat .t) (A.rfsInten .t))
  else if id = 66 then some (s.flagsOn A.wkrIntstat A.wkrInten)
  else if id = 128 then some (s.flagsOn A.chzIntstat A.chzInten)
  else if id = 129 then some (s.flagsOn A.dmdIntstat A.dmdInten)
  else if id = 130 then some (s.flagsOn A.decIntstat A.decInten)
  else if 256 ≤ id && id ≤ 259 then some (s.streamOn (A.lnkRingwr (id - 256)) (A.lnkRingrd (id - 256)))
  else if id = 260 then some (s.flagsOn A.lnkIntstat A.lnkInten)
  else if id = 261 then some (s.flagsOn A.tntIntstat A.tntInten)
  else if id = 384 then some (s.flagsOn A.ntmIntstat A.ntmInten)
  else if id = 386 then some ((List.range 3).any (fun j => s.flagsOn (A.tmbCmpflag j) (A.tmbCmpie j)))
  else if id = 387 then some (s.flagsOn A.tmbCapflag A.tmbCapie)
  else if id = 388 then some (s.flagsOn A.tmbPmflag A.tmbPmie)
  else if id = 389 then some (s.flagsOn A.snpIntstat A.snpInten)
  else if 448 ≤ id && id ≤ 451 then some (s.streamOn (A.jrnDringwr (id - 448)) (A.jrnDringrd (id - 448)))
  else if id = 452 then some (s.flagsOn A.jrnIntstat A.jrnInten)
  else if id = 453 then some (s.flagsOn A.hslIntstat A.hslInten)
  else if id = 512 then some (s.flagsOn A.flcIntstat A.flcInten)
  else if id = 513 then some (s.flagsOn A.brdIntstat A.brdInten)
  else if id = 576 then some (s.flagsOn A.cryIntstat A.cryInten)
  else if id = 577 then some (s.flagsOn A.rngIntstat A.rngInten)
  else if id = 578 then some (s.flagsOn A.tmpIntstat A.tmpInten)
  else if id = 579 then some (s.flagsOn A.keyIntstat A.keyInten)
  else if id = 864 || id = 865 then some (s.flagsOn (A.daliIntstat (id - 864)) (A.daliInten (id - 864)))
  else if id = 867 then some (s.flagsOn A.metIntstat A.metInten)
  else if 868 ≤ id && id ≤ 879 then some (s.flagsOn (A.serIntstat (id - 868)) (A.serInten (id - 868)))
  else if id = 928 then some (s.flagsOn A.pmuIntstat A.pmuInten)
  else if id = 929 then some (s.flagsOn A.rstIntstat A.rstInten)
  else if id = 930 then some (s.flag F.clkStatRefused || s.flag F.clkStatCloss || s.flag F.clkStatFloss)
  else if id = 931 then some (s.flagsOn A.bstIntstat A.bstInten)
  else if id = 932 then some (s.flagsOn A.fcrIntstat A.fcrInten)
  else none

/-- The payload of a source's record (R507, R508). -/
def State.irqPayload (s : State) (id : Nat) (level : Bool) : Nat :=
  if id = 66 then s.regN A.wkrStat
  else if id = 385 then s.regN A.ntmRound0
  else if 768 ≤ id && id ≤ 863 then b2n level
  else if id = 933 then s.regN A.pmuModestat
  else 0

/-- A level source that pends on a level its block no longer gives: it has fallen before presentation (R510). One that
SWSET made pending has EDGE rising and stays. -/
def State.irqFallen (s : State) (k : Nat) : Bool :=
  s.irqSense k == 0 && (s.irq k).edge == 0 && s.irqOwnLevel ((k - 1024) / 64) (irqId k) == some false

/-- The entries of a bank's ring (R515). -/
def ringEntries (size : Nat) : Nat := 64 * 2 ^ size

/-- Is a bank's ring full: WR + 1 equals RD modulo the size (R518). -/
def State.ringFull (s : State) (core : Nat) : Bool :=
  (s.fld (F.icuRingwrIndex core) + 1) % ringEntries (s.bank core).size == s.fld (F.icuRingrdIndex core)

/-- A bank's request to its core: WR differs from RD (R512). -/
def State.irqRequest (s : State) (core : Nat) : Bool :=
  s.fld (F.icuRingwrIndex core) != s.fld (F.icuRingrdIndex core)

/-- Is a source eligible for a bank, ring room aside (R511). In the window of a swap of the IRQ section a shared source
waits for step 6 (R85). -/
def State.irqEligible (s : State) (core k : Nat) : Bool :=
  let x := s.irq k
  let b := s.bank core
  s.irqTarget k == core && x.pend && !x.act && s.irqEnabled k && !s.irqFallen k
  && !(s.swapWindow && s.swapReplaces 8 && k < 1024)
  && (match b.stack with
      | [] => true
      | (p, _) :: _ => p < s.irqPrio k)
  && s.fld (F.icuPmrMinprio core) ≤ s.irqPrio k
  && b.enabled && !b.stopped

/-- The better of two eligible sources: higher priority, then lower ID (R511). -/
def State.irqBetter (s : State) (a b : Nat) : Nat :=
  if s.irqPrio a < s.irqPrio b then b
  else if s.irqPrio b < s.irqPrio a then a
  else if irqId b < irqId a then b else a

/-- The winner of a bank (R511). -/
def State.irqWinner (s : State) (core : Nat) : Option Nat :=
  (s.icu.src.map Prod.fst).foldl
    (fun w k => if s.irqEligible core k then
        (match w with
         | none => some k
         | some j => some (s.irqBetter j k))
      else w) none

/-- May a ring lie at a base: in the core's own cluster SRAM or retained macros 0-3 or 13-15; the sentinel's only in
those macros (R515). -/
def ringPlaceOk (core base size : Nat) : Bool :=
  let last := base + 16 * ringEntries size - 1
  let inCluster := core < 4 && 0x20000000 + 0x180000 * core ≤ base && last < 0x20000000 + 0x180000 * (core + 1)
  let inRetained := (0x24000000 ≤ base && last < 0x24010000) || (0x24034000 ≤ base && last < 0x24040000)
  inCluster || inRetained

/-- The 16-byte record (R517). -/
def irqRecord (id prio seq : Nat) (x : IrqSource) (aon : Bool) : List Byte :=
  leBytes 2 (id + 2048 * b2n x.lfTime + 4096 * x.edge + 16384 * b2n x.merged + 32768 * b2n aon)
  ++ [Byte.ofN prio, 0] ++ leBytes 4 x.time ++ leBytes 4 x.payload ++ leBytes 4 seq

/-- Write a record at WR and advance WR (R511); a ring write that ends in a bus error raises RINGBAD and stops the
bank (R514). Answers whether it was written. -/
def State.ringPut (s : State) (core : Nat) (rec : List Byte) : Bool × State :=
  let b := s.bank core
  let a := b.base + 16 * s.fld (F.icuRingwrIndex core)
  if addrExists a && s.domainOn (addrDomain a) && !s.stackHit a 16 then
    let s := s.setBytes a rec
    let s := s.setFld (F.icuRingwrIndex core) ((s.fld (F.icuRingwrIndex core) + 1) % ringEntries b.size)
    (true, s.setRegN (A.icuSeq core) ((s.regN (A.icuSeq core) + 1) % 2 ^ 32))
  else (false, (s.raise (F.icuIntstatRingbad core)).setBank core { b with stopped := true })

/-- Present the winner of a bank once there is room (R511): record, WR, active, push. -/
def State.irqPresent (s : State) (core : Nat) : State :=
  match s.irqWinner core with
  | none => s
  | some k =>
    if s.ringFull core then (s.raise (F.icuIntstatRingfull core)).count (A.icuCtr core 2)
    else
      let x := s.irq k
      let prio := s.irqPrio k
      match s.ringPut core (irqRecord (irqId k) prio (s.regN (A.icuSeq core)) x (irqAon (irqId k) && !s.comUp && 64 ≤ k && k < 1024)) with
      | (false, s) => s
      | (true, s) =>
        let s := s.setIrq k { x with pend := false, act := true }
        let b := s.bank core
        (s.setBank core { b with stack := (prio, k) :: b.stack }).count (A.icuCtr core 0)

/-- End of interrupt (R513): the top source's active bit clears and its priority is popped; a level source still
asserted is pending at once (R510). -/
def State.irqEoi (s : State) (core id : Nat) : State :=
  let b := s.bank core
  match b.stack with
  | (p, k) :: t =>
    if irqId k = id then
      let x := s.irq k
      let s := (s.setIrq k { x with act := false }).setBank core { b with stack := t }
      let level := (s.irqOwnLevel core id).getD x.level
      if s.irqSense k = 0 then s.irqSample k level (s.irqPayload id level) else s
    else (s.raise (F.icuIntstatEoierr core)).setBank core { b with stack := (p, k) :: t }
  | [] => s.raise (F.icuIntstatEoierr core)

/-- The flags of the sentinel's bank write a record with SOURCE 34 directly, once for each assertion (R519). -/
def State.sentinelFlags (s : State) (level : Bool) : State :=
  let k := irqKey 4 34
  if !level then s.setIrq k { s.irq k with level := false }
  else if !(s.irq k).level && !s.ringFull 4 && (s.bank 4).enabled && !(s.bank 4).stopped then
    let (t, lf, s) := s.irqTime
    (s.setIrq k { s.irq k with level := true }).ringPut 4 (irqRecord 34 0 (s.regN (A.icuSeq 4)) { time := t, lfTime := lf } false)
      |>.2
  else s

/-- INTERRUPT_SOURCE (R510): a source is sampled. A block's own flags give its level; the operand gives it for a
source driven from outside. The sentinel has no private sources but its bank's flags, which write a record with
SOURCE 34 directly (R518). While PD_COM is down only always-on sources are sampled (R516). -/
def execInterruptSource (core id : Nat) (level : Bool) (s : State) : Out :=
  let level := (s.irqOwnLevel core id).getD level
  .next (
    if !irqAssigned id then s
    else if id < 64 && core == 4 then
      if id == 34 then s.sentinelFlags level else s
    else if 4 < core then s
    else if 768 ≤ id && id ≤ 863 && (s.padHeld (id - 768) || (s.swapWindow && s.swapReplaces 10)) then s
    else if !s.comUp && !irqAon id then s
    else s.irqSample (irqKey core id) level (s.irqPayload id level))

/-- A bank works: the sentinel's always, in PD_AON; a Pip core's while PD_COM runs (R518). -/
def State.icuUp (s : State) (core : Nat) : Bool := core == 4 || (decide (core < 4) && s.comUp)

/-- PRESENTATION (R511). -/
def execPresentation (core : Nat) (s : State) : Out :=
  .next (if s.icuUp core then s.irqPresent core else s)

/-- EOI (R513). -/
def execEoi (user : Bool) (core : Nat) (w : Word) (s : State) : Out :=
  guarded user s (if s.icuUp core then s.irqEoi core (bitsOf w.toNat 0 11) else s)

/-- DOORBELL (R507): a rising edge of private source BELL, whose payload names the writer. The sentinel's bank has no
private sources. -/
def execDoorbell (user : Bool) (core writer : Nat) (w : Word) (s : State) : Out :=
  guarded user s
    (if core < 4 && s.comUp then s.irqSetPending (irqKey core (bitsOf w.toNat 0 5)) 1 (if writer < 5 then writer else 7) else s)

/-- SWSET (R510): sets a shared source pending as an edge would; a reserved ID is ignored. -/
def execSwset (user : Bool) (w : Word) (s : State) : Out :=
  let id := bitsOf w.toNat 0 10
  guarded user s
    (if s.comUp && 64 ≤ id && id < 960 && irqAssigned id
     then s.irqSetPending id 1 (s.irqPayload id (s.irq id).level) else s)

/-- SWCLR (R510): clears pending, never active; a reserved ID is ignored. -/
def execSwclr (user : Bool) (w : Word) (s : State) : Out :=
  let id := bitsOf w.toNat 0 10
  guarded user s
    (if s.comUp && 64 ≤ id && id < 960 then s.setIrq id { s.irq id with pend := false, merged := false } else s)

/-- ICU_RING_READ (R512): the write moves RD, which frees room and clears the request of an empty ring. -/
def execIcuRingRead (user : Bool) (core : Nat) (w : Word) (s : State) : Out :=
  guarded user s (if s.icuUp core then s.writeReg (A.icuRingrd core) w else s)

/-- ICU_RING_CONFIG (R515): RINGBASE and RINGCFG take effect, WR and RD become 0, a stopped bank starts again. -/
def execIcuRingConfig (core : Nat) (s : State) : Out :=
  let b := s.bank core
  .next (
    if s.icuUp core && b.staged then
      ((s.setBank core
        { b with base := 64 * s.fld (F.icuRingbaseBase core), enabled := s.flag (F.icuRingcfgEn core),
                 size := s.fld (F.icuRingcfgSize core), staged := false }).setFld
        (F.icuRingwrIndex core) 0).setFld (F.icuRingrdIndex core) 0
    else s)

/-- A write to RINGBASE that with the ring's size breaks R515 is a reserved encoding (R7, R515). -/
def State.writeRingbase (s : State) (core : Nat) (w : Word) : State :=
  if ringPlaceOk core (64 * bitsOf w.toNat 6 26) (s.fld (F.icuRingcfgSize core))
  then (s.writeReg (A.icuRingbase core) w).setBank core { s.bank core with staged := true } else s

/-- A write to RINGCFG: a bank stopped by a bad ring write presents again (R514, R515). -/
def State.writeRingcfg (s : State) (core : Nat) (w : Word) : State :=
  (s.writeReg (A.icuRingcfg core) w).setBank core { s.bank core with staged := true, stopped := false }

/-- A core reset returns its bank to its reset values; its sources become not active and stay pending (R515). -/
def State.icuCoreReset (s : State) (core : Nat) : State :=
  let s := { s with regs := s.regs.filter (fun p => !(icuBank core ≤ p.1 && p.1 < icuBank core + 0x1000)) }
  let keys := (s.bank core).stack.map Prod.snd
  let s := keys.foldl (fun s k => s.setIrq k { s.irq k with act := false }) s
  s.setBank core {}

/-- The STAT word of a bank (R518). -/
def State.icuStat (s : State) (core : Nat) : Nat :=
  match (s.bank core).stack with
  | [] => 0x80
  | (p, _) :: t => 256 * (t.length + 1) + p

/-- A word of pending or active bits over 32 keys. -/
def State.irqBits (s : State) (act : Bool) (first : Nat) : Nat :=
  s.icu.src.foldl (fun n p =>
    if first ≤ p.1 && p.1 < first + 32 && (if act then p.2.act else p.2.pend) then setBitsOf n (p.1 - first) 1 1 else n) 0

/-- A word of AONPEND or AONACT (R518). -/
def State.aonBits (s : State) (act : Bool) (word : Nat) : Nat :=
  s.icu.src.foldl (fun n p =>
    if irqAon p.1 && (aonPlace p.1).1 == word && (if act then p.2.act else p.2.pend)
    then setBitsOf n (aonPlace p.1).2 1 1 else n) 0

/-- The places of SHEN word `i` that always-on sources hold, with their IDs. -/
def aonShared (i : Nat) : List (Nat × Nat) :=
  (List.range 32).filterMap (fun b => if irqAon (64 + 32 * i + b) then some (b, 64 + 32 * i + b) else none)

/-- SHEN word `i`: the enables of always-on sources lie in AONEN and also read here (R516). -/
def State.shen (s : State) (i : Nat) : Nat :=
  (aonShared i).foldl (fun n p => setBitsOf n p.1 1 (b2n (s.irqEnabled p.2))) (s.regN (A.icucShen i))

/-- The assigned sources of SHEN word `i`: the bits of reserved IDs read zero and ignore writes (R506). -/
def shenMask (i : Nat) : Nat :=
  (List.range 32).foldl (fun m b => if irqAssigned (64 + 32 * i + b) then setBitsOf m b 1 1 else m) 0

/-- A write to SHEN word `i`; an always-on source has one enable, written here as in AONEN (R516, R518). -/
def State.writeShen (s : State) (i : Nat) (w : Word) : State :=
  let w := Word.ofN (w.toNat &&& shenMask i)
  (aonShared i).foldl (fun s p =>
    let a := A.icuAonen 4 (aonPlace p.2).1
    s.setRegN a (setBitsOf (s.regN a) (aonPlace p.2).2 1 (bitsOf w.toNat p.1 1))) (s.writeReg (A.icucShen i) w)

/-- SRCINFO of the selected source (R518). -/
def State.srcInfo (s : State) : Nat :=
  let id := s.fld F.icucSrcselId
  let x := s.irq id
  2 ^ 31 * b2n (s.irqEnabled id) + 2 ^ 30 * b2n x.pend + 2 ^ 29 * b2n x.act + 2 ^ 28 * b2n (irqAon id)
    + bitsOf (s.irqRoute id) 0 19

end Sys2Proof.Machine
end

