-- ==== Sys2Proof/Machine/Evf.lean ====
section
/-!
DEFINITION. The event fabric (R520-R535): levels through channels, gates and LUT cells, groups, firing, and the two
latches of every consumer input.
-/

namespace Sys2Proof.Machine

/-! ## Settings (R532, R533) -/

/-- CHCFG of a main channel. -/
def State.chCfg (s : State) (m : Nat) : Nat := s.cfg 7 9 0 m

/-- AONCFG of an always-on channel. -/
def State.aonCfg (s : State) (a : Nat) : Nat := s.cfg 7 10 0 a

/-- CELLCFG of a LUT cell. -/
def State.cellCfg (s : State) (k : Nat) : Nat := s.cfg 7 9 0 (0x100 + k)

/-- Input `i` of a LUT cell. -/
def State.cellIn (s : State) (k i : Nat) : Nat := bitsOf (s.cfg 7 9 0 (0x120 + k)) (8 * i) 8

/-- GRPCFG of a group. -/
def State.grpCfg (s : State) (g : Nat) : Nat := s.cfg 7 9 0 (0x140 + g)

/-- Does the gate of a main channel pass: MEMBER 0, or its group open (R525). -/
def State.chPass (s : State) (m : Nat) : Bool :=
  !bitAt (s.chCfg m) 23 || bitAt s.evf.groups (bitsOf (s.chCfg m) 24 4)

/-- A word with one bit set to a level. -/
def putBit (n i : Nat) (b : Bool) : Nat := setBitsOf n i 1 (b2n b)

/-- Set the fabric's state. -/
def State.setEvf (s : State) (e : EvfState) : State := { s with evf := e }

/-! ## Consumer inputs (R530, R543, R544, R547) -/

/-- The latches of a consumer input. -/
def State.evInput (s : State) (i : Nat) : EvInput := (Sparse.find? s.evf.inputs i).getD {}

/-- Set the latches of a consumer input. -/
def State.setEvInput (s : State) (i : Nat) (x : EvInput) : State :=
  s.setEvf { s.evf with inputs := Sparse.insert s.evf.inputs i x }

/-- The enable, sense and channel reference of a consumer input: captures, pulse starts and stops, the snapshot. -/
def State.evInputCfg (s : State) (i : Nat) : Bool × Nat × Nat :=
  if i < 32 then
    let n := s.cfg 7 11 0 (0x200 + i)
    (bitAt n 31, bitsOf n 9 2, bitsOf n 0 9)
  else if i < 64 then
    let n := s.cfg 7 11 0 (0x300 + (i - 32) / 2)
    (s.flag (F.tmbPmctlEn ((i - 32) / 2)),
     if i % 2 = 0 then bitsOf n 9 2 else bitsOf n 25 2, if i % 2 = 0 then bitsOf n 0 9 else bitsOf n 16 9)
  else (true, 0, s.fld F.snpCtlChref)

/-- Does a sense pass an edge: 0 rising, 1 falling, 2 both. -/
def sensePasses (sense : Nat) (rising : Bool) : Bool := sense == 2 || (sense == 0 && rising) || (sense == 1 && !rising)

/-- The stamp of an event that arrives now: the tick of the next CK_REF edge (R530). -/
def State.evStamp (s : State) : EvLatch :=
  match s.tb.run with
  | .ref => { tick := (s.tb.now + 1) % 2 ^ 64 }
  | .lf => { tick := s.tb.now, lf := true }
  | .stopped => { tick := s.tb.now, lf := true }

/-- Hold an edge in the window: the first by detector; a further one is dropped, flagged and counted (R83). -/
def State.holdEdge (s : State) (det : Nat) (h : HeldEdge) : State :=
  match Sparse.find? s.brd.heldEdges det with
  | none => { s with brd := { s.brd with heldEdges := Sparse.insert s.brd.heldEdges det h } }
  | some _ => { s with brd := { s.brd with droppedEdges := det :: s.brd.droppedEdges } }

/-- Is the sense stage of a consumer input held in the window: its output passes through the TIMER section, or the
section of its channel (R83). -/
def State.inputHeld (s : State) (i ref : Nat) : Bool :=
  s.swapWindow && ((i < 64 && s.swapReplaces 9) || (ref < 256 && s.swapReplaces 6) || (256 ≤ ref && s.swapReplaces 7))

/-- A sensed edge reaches the latches of a consumer input: REQ, else MEM, else it is dropped and counted (R530). A
consumer whose domain is off discards it. -/
def State.evLatchIn (s : State) (i ref : Nat) (t : EvLatch) : State :=
  let x := s.evInput i
  if !s.comUp then s
  else
    match x.req, x.mem with
    | none, _ => s.setEvInput i { x with req := some t, due := s.tb.now + 2 }
    | some _, none => s.setEvInput i { x with mem := some t }
    | some _, some _ =>
      if ref < 256 then (s.count A.evfDropped).raise F.evfFlagsDrop
      else (s.count A.evfAondropped).raise F.evfAonflagsDrop

/-- An edge of a channel meets the consumer inputs that name it (R520, R530). -/
def State.evConsumers (s : State) (ref : Nat) (rising : Bool) (t : EvLatch) : State :=
  (List.range 65).foldl
    (fun s i =>
      let (en, sense, r) := s.evInputCfg i
      if en && r == ref && sensePasses sense rising then
        if s.inputHeld i ref then s.holdEdge (4096 + i) { level := rising, pulse := false, tick := t.tick, lf := t.lf }
        else s.evLatchIn i ref t
      else s) s

/-! ## Levels -/

/-- A change of a producer's level that waits to be propagated. -/
abbrev EvWork := List (Nat × Bool)

/-- What a command's propagation carries: the stamp for latched events, and the main channels after their gates as
they stood before it. -/
structure EvWave where
  stamp  : EvLatch
  before : Nat
  /-- Levels move, but no consumer, counter or interrupt source sees an edge: the level behind edges that a swap window
  dropped (R83). -/
  quiet  : Bool := false
  deriving DecidableEq, Repr

/-- The level of a producer (R520). -/
def State.prodLevel (s : State) (code : Nat) : Bool :=
  if 0x100 ≤ code && code < 0x120 then bitAt s.evf.cells (code - 0x100)
  else if 0x120 ≤ code && code < 0x160 then bitAt s.evf.aon (code - 0x120)
  else if 0x200 ≤ code && code < 0x300 then s.comUp && bitAt s.evf.out (code - 0x200)
  else s.evf.high.contains code

/-- A producer is a pad under the latch, whose main-channel path is gated (R111). -/
def State.prodGated (s : State) (code : Nat) : Bool := 1 ≤ code && code ≤ 0x60 && s.padHeld (code - 1)

/-- The level of a producer as the main channels meet it. -/
def State.mainProd (s : State) (code : Nat) : Bool := s.prodLevel code && !s.prodGated code

/-- The level an always-on channel carries: its producer AND its gate (R527). -/
def State.aonWants (s : State) (a : Nat) : Bool :=
  let n := s.aonCfg a
  let gate := if bitAt n 29 then bitAt s.evf.aon (bitsOf n 16 6) != bitAt n 30 else true
  bitAt n 31 && s.prodLevel (bitsOf n 0 10) && gate

/-- Set the level of an always-on channel: counter, consumers, interrupt source (R528); the producers it is. -/
def State.aonSet (s : State) (w : EvWave) (a : Nat) (lv : Bool) : State × EvWork :=
  if bitAt s.evf.aon a == lv then (s, [])
  else
    let s := s.setEvf { s.evf with aon := putBit s.evf.aon a lv }
    let s := if w.quiet then s
      else ((if lv then s.count (A.evfAonctr a) else s).evConsumers (256 + a) lv w.stamp).irqSample (640 + a) lv 0
    (s, [(0x120 + a, lv)])

/-- Re-evaluate the always-on channels that a test picks. -/
def State.aonUpdate (s : State) (w : EvWave) (pick : Nat → Bool) : State × EvWork :=
  (List.range 64).foldl
    (fun (s, k) a => if pick a then let (s, m) := s.aonSet w a (s.aonWants a); (s, k ++ m) else (s, k)) (s, [])

/-- Drive a cell's output through its filter: widths of 40 and 160 ns settle only when the pulses of a command have
passed (R523). -/
def State.cellDrive (s : State) (k : Nat) (lv : Bool) (settle : Bool) : State × EvWork :=
  let s := s.setEvf { s.evf with raw := putBit s.evf.raw k lv }
  if (settle || bitsOf (s.cellCfg k) 28 2 < 2) && bitAt s.evf.cells k != lv then
    (s.setEvf { s.evf with cells := putBit s.evf.cells k lv }, [(0x100 + k, lv)])
  else (s, [])

/-- The TRUTH bit the inputs of a cell select among `n` inputs, from a word of channel levels. -/
def State.cellTruth (s : State) (k n levels : Nat) : Bool :=
  let idx := (List.range n).foldl (fun v i => v + 2 ^ i * b2n (bitAt levels (s.cellIn k i))) 0
  bitAt (bitsOf (s.cellCfg k) 0 16) idx

/-- A cell sees a change of main channel `m` (R523). A REG cell takes its bit on the rising edge of I3; where an input
changes in the same command, the old or the new level is a free value. -/
def State.cellSees (s : State) (w : EvWave) (k m : Nat) (rising : Bool) : State × EvWork :=
  let n := s.cellCfg k
  if !bitAt n 31 then (s, [])
  else if !bitAt n 30 then s.cellDrive k (s.cellTruth k 4 s.evf.out) false
  else if rising && s.cellIn k 3 == m then
    let old := s.cellTruth k 3 w.before
    let new := s.cellTruth k 3 s.evf.out
    if old == new then s.cellDrive k old false
    else
      let (b, s) := s.draw 2
      s.cellDrive k (b == 1) false
  else (s, [])

/-- A main channel after its gate changes: counter, consumers, taps, group edges, cells, always-on channels. -/
def State.outSet (s : State) (w : EvWave) (m : Nat) (lv : Bool) : State × EvWork :=
  if bitAt s.evf.out m == lv then (s, [])
  else
    let s := s.setEvf { s.evf with out := putBit s.evf.out m lv }
    let s := if w.quiet then s else (if lv then s.count (A.evfCtr m) else s).evConsumers m lv w.stamp
    let s := if w.quiet then s else (List.range 64).foldl
      (fun s t =>
        let n := s.cfg 7 9 0 (0x160 + t)
        if bitAt n 31 && bitsOf n 0 8 == m then s.irqSample (704 + t) lv 0 else s) s
    let s := if lv then
        (List.range 16).foldl
          (fun s g =>
            let n := s.grpCfg g
            let s := if bitAt n 25 && bitsOf n 8 8 == m then
              s.setEvf { s.evf with opening := putBit s.evf.opening g true } else s
            if bitAt n 24 && bitsOf n 0 8 == m then
              s.setEvf { s.evf with closing := putBit s.evf.closing g true } else s) s
      else s
    let (s, k) := (List.range 32).foldl
      (fun (s, k) c =>
        if [0, 1, 2, 3].any (fun i => s.cellIn c i == m) then
          let (s, more) := s.cellSees w c m lv
          (s, k ++ more)
        else (s, k)) (s, [])
    (s, k ++ [(0x200 + m, lv)])

/-- A main channel before its gate changes; an edge at a closed gate is blocked and counted (R525). -/
def State.mainSet (s : State) (w : EvWave) (m : Nat) (lv : Bool) : State × EvWork :=
  if bitAt s.evf.main m == lv then (s, [])
  else
    let s := s.setEvf { s.evf with main := putBit s.evf.main m lv }
    if s.chPass m then s.outSet w m lv else (s.count A.evfBlocked, [])

/-- A producer's level reaches the channels that name it. -/
def State.evChange (s : State) (w : EvWave) (code : Nat) (lv : Bool) : State × EvWork :=
  let (s, k) := (List.range 256).foldl
    (fun (s, k) m =>
      let n := s.chCfg m
      if s.comUp && bitAt n 31 && bitsOf n 0 10 == code && code != 0 && !s.prodGated code then
        let (s, more) := s.mainSet w m lv
        (s, k ++ more)
      else (s, k)) (s, [])
  let (s, k') := s.aonUpdate w (fun a =>
    let n := s.aonCfg a
    bitAt n 31 && (bitsOf n 0 10 == code || (bitAt n 29 && code == 0x120 + bitsOf n 16 6)))
  (s, k ++ k')

/-- Propagate changes until none is left; the fuel bounds the passes, since every loop holds a REG cell (R524). -/
def evRun (fuel : Nat) (w : EvWave) (work : EvWork) (s : State) : State :=
  match fuel, work with
  | 0, _ => s
  | _ + 1, [] => s
  | fuel + 1, (code, lv) :: rest =>
    let (s, more) := s.evChange w code lv
    evRun fuel w (rest ++ more) s

/-- The fuel of a propagation. -/
def evFuel : Nat := 4096

/-- The wave of a command. -/
def State.evWave (s : State) (t : EvLatch) : EvWave := { stamp := t, before := s.evf.out }

/-- Let the slow filters of the cells settle (R523). -/
def State.evSettle (s : State) (w : EvWave) : State :=
  let (s, k) := (List.range 32).foldl
    (fun (s, k) c =>
      if bitAt s.evf.raw c != bitAt s.evf.cells c then
        let (s, more) := s.cellDrive c (bitAt s.evf.raw c) true
        (s, k ++ more)
      else (s, k)) (s, [])
  evRun evFuel w k s

/-- A producer's level changes and stays. -/
def State.evLevelAt (s : State) (code : Nat) (lv : Bool) (t : EvLatch) : State :=
  let w := s.evWave t
  (evRun evFuel w [(code, lv)] s).evSettle w

/-- A producer emits a pulse (R520). -/
def State.evPulseAt (s : State) (code : Nat) (t : EvLatch) : State :=
  let w := s.evWave t
  let s := evRun evFuel w [(code, true)] s
  (evRun evFuel w [(code, false)] s).evSettle w

/-- The sense stage of a producer is held in the window: a pad of a replaced PADS section, or a producer of a channel
of a replaced EVENT or EVENTAON section (R83). -/
def State.prodHeld (s : State) (code : Nat) : Bool :=
  s.swapWindow
  && ((1 ≤ code && code ≤ 0x60 && s.swapReplaces 10)
      || (s.swapReplaces 6 && (List.range 256).any (fun m => bitAt (s.chCfg m) 31 && bitsOf (s.chCfg m) 0 10 == code))
      || (s.swapReplaces 7 && (List.range 64).any (fun a => bitAt (s.aonCfg a) 31 && bitsOf (s.aonCfg a) 0 10 == code)))

/-- A hardware block emits a pulse on its producer. -/
def State.evPulse (s : State) (code : Nat) : State :=
  let t := s.evStamp
  if s.prodHeld code then s.holdEdge code { level := true, pulse := true, tick := t.tick, lf := t.lf }
  else s.evPulseAt code t

/-- A producer that holds a level moves to it. -/
def State.evLevel (s : State) (code : Nat) (lv : Bool) : State :=
  if s.evf.high.contains code == lv then s
  else
    let s := s.setEvf { s.evf with
      high := if lv then code :: s.evf.high else s.evf.high.filter (· != code) }
    let t := s.evStamp
    if s.prodHeld code then s.holdEdge code { level := lv, pulse := false, tick := t.tick, lf := t.lf }
    else s.evLevelAt code lv t

/-! ## Groups (R525, R526) -/

/-- Open or close a group: the gates of its members pass the present level or 0. -/
def State.setGroup (s : State) (g : Nat) (lv : Bool) : State :=
  if bitAt s.evf.groups g == lv then s
  else
    let s := s.setEvf { s.evf with groups := putBit s.evf.groups g lv }
    let w := s.evWave s.evStamp
    let (s, k) := (List.range 256).foldl
      (fun (s, k) m =>
        let n := s.chCfg m
        if bitAt n 23 && bitsOf n 24 4 == g then
          let (s, more) := s.outSet w m (lv && bitAt s.evf.main m)
          (s, k ++ more)
        else (s, k)) (s, [])
    (evRun evFuel w k s).evSettle w

/-- Settle what has reached a group: a tie closes it, and is counted (R526). -/
def State.settleGroup (s : State) (g : Nat) : State :=
  let o := bitAt s.evf.opening g
  let c := bitAt s.evf.closing g
  let s := s.setEvf { s.evf with opening := putBit s.evf.opening g false, closing := putBit s.evf.closing g false }
  let s := if o && c then (s.count A.evfGrptie).raise F.evfFlagsGrptie else s
  if c then s.setGroup g false else if o then s.setGroup g true else s

/-- A write to GRPSET or GRPCLR reaches the groups whose bits are 1 (R526). -/
def State.writeGroups (s : State) (open_ : Bool) (w : Word) : State :=
  (List.range 16).foldl
    (fun s g =>
      if bitAt w.toNat g then
        (if open_ then s.setEvf { s.evf with opening := putBit s.evf.opening g true }
         else s.setEvf { s.evf with closing := putBit s.evf.closing g true }).settleGroup g
      else s) s

/-- Groups take their INITEN values: when PD_COM powers up, and at step 4 of a swap of the EVENT section (R526). -/
def State.initGroups (s : State) : State :=
  s.setEvf { s.evf with
    groups := (List.range 16).foldl (fun n g => putBit n g (bitAt (s.grpCfg g) 31)) 0, opening := 0, closing := 0 }

/-- The main part starts afresh: its domain was switched on or the EVENT section replaced. REG cells start at 0
(R523), groups at INITEN, and every channel takes the level of its producer. -/
def State.evRestart (s : State) : State :=
  let s := (s.setEvf { s.evf with main := 0, out := 0, raw := 0, cells := 0 }).initGroups
  let w := s.evWave s.evStamp
  let s := (List.range 32).foldl
    (fun s k =>
      let n := s.cellCfg k
      if bitAt n 31 && !bitAt n 30 && bitAt n 0 then (s.cellDrive k true true).1 else s) s
  let (s, k) := (List.range 256).foldl
    (fun (s, k) m =>
      let n := s.chCfg m
      if bitAt n 31 then
        let (s, more) := s.mainSet w m (s.mainProd (bitsOf n 0 10))
        (s, k ++ more)
      else (s, k)) (s, [])
  let (s, k') := s.aonUpdate w (fun _ => true)
  (evRun evFuel w (k ++ k') s).evSettle w

/-- Step 4 of a swap of the EVENT section (R81, R523, R526): groups take their INITEN values, REG cells start at 0, and
channels take the levels that the new configuration gives them. -/
def State.evSwap (s : State) : State :=
  let s := (s.setEvf { s.evf with raw := 0, cells := 0 }).initGroups
  let w := s.evWave s.evStamp
  let (s, k) := (List.range 32).foldl
    (fun (s, k) c =>
      if bitAt (s.cellCfg c) 31 && !bitAt (s.cellCfg c) 30 then
        let (s, more) := s.cellDrive c (s.cellTruth c 4 s.evf.out) true
        (s, k ++ more)
      else (s, k)) (s, [])
  let (s, k) := (List.range 256).foldl
    (fun (s, k) m =>
      let n := s.chCfg m
      let (s, more) := s.mainSet w m (bitAt n 31 && s.mainProd (bitsOf n 0 10))
      let (s, gate) := s.outSet w m (bitAt s.evf.main m && s.chPass m)
      (s, k ++ more ++ gate)) (s, k)
  (evRun evFuel w k s).evSettle w

/-- The levels behind a producer whose further edges a swap window dropped (R83). -/
def State.evQuiet (s : State) (code : Nat) : State :=
  let w : EvWave := { s.evWave s.evStamp with quiet := true }
  (evRun evFuel w [(code, s.prodLevel code)] s).evSettle w

/-- PD_COM leaves retention: the main channels follow the levels their producers have by then (R520). -/
def State.evRefresh (s : State) : State :=
  let w := s.evWave s.evStamp
  let (s, k) := (List.range 256).foldl
    (fun (s, k) m =>
      let n := s.chCfg m
      let (s, more) := s.mainSet w m (bitAt n 31 && s.mainProd (bitsOf n 0 10))
      (s, k ++ more)) (s, [])
  (evRun evFuel w k s).evSettle w

/-- The always-on channels take the levels their section gives (a load or swap of EVENTAON). -/
def State.aonRestart (s : State) : State :=
  let w := s.evWave s.evStamp
  let (s, k) := s.aonUpdate w (fun _ => true)
  (evRun evFuel w k s).evSettle w

/-! ## Firing (R529) -/

/-- A firing of a main channel is lost (R529). -/
def State.fireLost (s : State) : State := (s.count A.evfFirelost).raise F.evfFlagsFirelost

/-- Fire main channels at one instant: those enabled and low give a pulse; every other firing is lost. -/
def State.fireMain (s : State) (chs : List Nat) : State :=
  let ok := chs.filter (fun m => bitAt (s.chCfg m) 31 && !bitAt s.evf.main m)
  let s := (chs.filter (fun m => !(bitAt (s.chCfg m) 31 && !bitAt s.evf.main m))).foldl (fun s _ => s.fireLost) s
  let w := s.evWave s.evStamp
  let edge (s : State) (lv : Bool) : State :=
    let (s, k) := ok.foldl
      (fun (s, k) m => let (s, more) := s.mainSet w m lv; (s, k ++ more)) (s, [])
    evRun evFuel w k s
  (edge (edge s true) false).evSettle w

/-- Fire an always-on channel after its gate (R529). -/
def State.fireAon (s : State) (a : Nat) : State :=
  if !bitAt (s.aonCfg a) 31 || bitAt s.evf.aon a then
    (if s.comUp then s.count A.evfFirelost else s).raise F.evfAonflagsFirelost
  else
    let w := s.evWave s.evStamp
    let (s, k) := s.aonSet w a true
    let s := evRun evFuel w k s
    let (s, k) := s.aonSet w a false
    (evRun evFuel w k s).evSettle w

/-- FIRE (R529). -/
def execFire (user : Bool) (w : Word) (s : State) : Out :=
  guarded user s (if s.comUp then s.fireMain [bitsOf w.toNat 0 8] else s)

/-- FIREM (R529). -/
def execFirem (user : Bool) (j : Nat) (w : Word) (s : State) : Out :=
  guarded user s
    (if s.comUp && j < 8 then
      s.fireMain (((List.range 32).filter (fun i => bitAt w.toNat i)).map (fun i => 32 * j + i)) else s)

/-- AONFIRE (R529, R535): values 64 to 255 are reserved. -/
def execAonfire (user : Bool) (w : Word) (s : State) : Out :=
  guarded user s (if bitsOf w.toNat 0 8 < 64 then s.fireAon (bitsOf w.toNat 0 8) else s)

/-- GRPSET (R526). -/
def execGrpset (user : Bool) (w : Word) (s : State) : Out :=
  guarded user s (if s.comUp then s.writeGroups true w else s)

/-- GRPCLR (R526). -/
def execGrpclr (user : Bool) (w : Word) (s : State) : Out :=
  guarded user s (if s.comUp then s.writeGroups false w else s)

/-- GROUP_EDGE (R526): what the ENCH and DISCH channels have brought to a group is settled. -/
def execGroupEdge (g : Nat) (s : State) : Out := .next (if g < 16 then s.settleGroup g else s)

/-- The producers whose level comes from outside the state: pads and the slow clocks (R520). Every other producer is
driven by the block that owns it. -/
def externalProducer (code : Nat) : Bool := (1 ≤ code && code ≤ 0x60) || code == 0x1C5 || code == 0x1C6

/-- The level that the part itself gives a pad's input: what it drives its own ball with, as the latch or a swap window
holds it, else as a GPIO output (R111, R556, R558); 0 without VDDIO (R587). -/
def State.padDriven (s : State) (n : Nat) : Option Bool :=
  if !s.pw.vddio then some false
  else
  match (s.pw.held ++ s.brd.padHold).find? (fun h => h.pad == n) with
  | some h => if h.oe then some h.level else none
  | none =>
    if bitsOf (s.cfg 7 20 0 n) 24 8 = 0 && s.bit (A.padDoe (n / 32)) (n % 32)
    then some (s.bit (A.padDout (n / 32)) (n % 32)) else none

/-- The input of a pad follows the level the pad drives its ball with (R554, R558). -/
def State.padFollow (s : State) (n : Nat) : State :=
  match s.padDriven n with
  | some lv => s.evLevel (1 + n) lv
  | none => s

/-- The inputs of pads `first` to `first + count - 1` follow what the pads drive. -/
def State.padsFollow (s : State) (first count : Nat) : State :=
  (List.range count).foldl (fun s i => s.padFollow (first + i)) s

/-- EVENT_EDGE (R520, R530): a producer's level changes, and its edge runs through the channels to the consumer inputs,
setting REQ or MEM or being dropped. A ball that the part drives itself keeps the level it drives. -/
def execEventEdge (code : Nat) (level : Bool) (s : State) : Out :=
  .next (
    if externalProducer code && !(code ≤ 0x60 && (s.padDriven (code - 1)).isSome) then s.evLevel code level else s)

/-- CHINFO of the selected channel (R535). -/
def State.chInfo (s : State) : Nat :=
  let m := s.fld F.evfChselCh
  let n := s.chCfg m
  2 ^ 31 * b2n (bitAt n 31) + 2 ^ 30 * b2n (bitAt s.evf.main m) + 2 ^ 29 * b2n (s.chPass m)
    + 2 ^ 24 * bitsOf n 24 4 + 2 ^ 23 * b2n (bitAt n 23) + bitsOf n 0 10

end Sys2Proof.Machine
end

