-- ==== Sys2Proof/Machine/Tmb.lean ====
section
/-!
DEFINITION. The time base, compare and capture channels, pulse measurement (R536-R551) and the counter snapshot
(R546-R553).
-/

namespace Sys2Proof.Machine

/-- A number modulo 2^64. -/
def wrap64 (n : Nat) : Nat := n % 2 ^ 64

/-- Set the time base. -/
def State.setTb (s : State) (t : TimeBase) : State := { s with tb := t }

/-- Write a 64-bit value into a pair of registers. -/
def State.setPair (s : State) (lo hi n : Nat) : State :=
  (s.setRegN lo (n % 2 ^ 32)).setRegN hi (n / 2 ^ 32 % 2 ^ 32)

/-- A 64-bit value from a pair of registers. -/
def State.pair (s : State) (lo hi : Nat) : Nat := s.regN lo + 2 ^ 32 * s.regN hi

/-- TMB_CAPTURE (R538). -/
def execTmbCapture (user : Bool) (w : Word) (s : State) : Out :=
  guarded user s
    (if s.comUp && bitAt w.toNat 0 then s.setPair A.tmbNow0 A.tmbNow1 s.tb.now else s)

/-! ## Compare channels (R539-R542) -/

/-- CMP of a compare channel. -/
def State.cmp (s : State) (n : Nat) : Nat := s.pair (A.tmbCmplo n) (A.tmbCmphi n)

/-- Set CMP. -/
def State.setCmp (s : State) (n v : Nat) : State := s.setPair (A.tmbCmplo n) (A.tmbCmphi n) (wrap64 v)

/-- The periods a match has passed over: the smallest k that makes CMP + INT x (1 + k) greater than TMB (R539). -/
def periodsPassed (now cmp int_ : Nat) : Nat := (now - cmp) / int_

/-- The bit of a compare channel in the flag words (R549). -/
def State.cmpFlagged (s : State) (n : Nat) : Bool := s.bit (A.tmbCmpflag (n / 32)) (n % 32)

/-- The match's flag, with OVF when it stood already (R539). -/
def State.cmpFlag (s : State) (n : Nat) : State :=
  let s := if s.cmpFlagged n then s.raise (F.tmbCmpctlOvf n) else s
  s.setBit (A.tmbCmpflag (n / 32)) (n % 32)

/-- The carry mask of a swap's TIMER section names a channel (R82). -/
def SwapState.carries (w : SwapState) (n : Nat) : Bool :=
  w.frames.any (fun p => p.1 == cfgKey 1 7 11 0 (0xFF00 + n / 32) && bitAt p.2 (n % 32))

/-- The outputs of the compare channels are held in the window of a swap that replaces the TIMER section (R81, R82). -/
def State.cmpHeld (s : State) : Bool := s.swapWindow && s.swapReplaces 9

/-- A match in a swap window: the interval is added at the match time and the event is held; a second match sets the
overflow of the held event (R82, R540). -/
def State.holdMatch (s : State) (n : Nat) : State :=
  let held := s.brd.heldTimers
  let held := match held.find? (fun p => p.1 == n) with
    | none => held ++ [(n, false)]
    | some _ => held.map (fun p => if p.1 == n then (n, true) else p)
  { s with brd := { s.brd with heldTimers := held } }

/-- A channel matches (R539, R540). -/
def State.matchCmp (s : State) (n : Nat) : State :=
  let cmp := s.cmp n
  let int_ := s.regN (A.tmbCmpint n)
  let again := s.flag (F.tmbCmpctlAuto n) && int_ != 0
  if s.cmpHeld then
    let s := if again then s.setCmp n (cmp + int_) else s.lower (F.tmbCmpctlEn n)
    s.holdMatch n
  else
    let late := cmp < s.tb.now
    let skip := if again then periodsPassed s.tb.now cmp int_ else 0
    let s := s.evPulse (0x080 + n)
    let s := (s.cmpFlag n).count (A.tmbCtr 0)
    let s := if late then s.count (A.tmbCtr 1) else s
    let s := s.countBy (A.tmbCtr 2) skip
    let s := (s.setFld (F.tmbCmpctlLate n) (b2n late)).setFld (F.tmbCmpctlSkip n) (min skip 255)
    if again then s.setCmp n (cmp + int_ * (1 + skip)) else s.lower (F.tmbCmpctlEn n)

/-- Deliver a match the window held: late, with SKIP 0 (R82, R540). -/
def State.deliverMatch (s : State) (n : Nat) (past : Bool) : State :=
  let s := s.evPulse (0x080 + n)
  let s := ((s.cmpFlag n).count (A.tmbCtr 0)).count (A.tmbCtr 1)
  let s := (s.raise (F.tmbCmpctlLate n)).setFld (F.tmbCmpctlSkip n) 0
  if past then s.raise (F.tmbCmpctlOvf n) else s

/-- COMPARE_MATCH (R539): the channel is enabled and TMB has reached CMP. -/
def execCompareMatch (n : Nat) (s : State) : Out :=
  .next (
    if n < 96 && s.comUp && s.tb.run != .stopped && s.flag (F.tmbCmpctlEn n) && s.cmp n ≤ s.tb.now
    then s.matchCmp n else s)

/-- STAGGER (R542): GO spreads channels FIRST to LAST; reserved encodings change nothing. -/
def execStagger (user : Bool) (w : Word) (s : State) : Out :=
  let first := bitsOf w.toNat 0 7
  let last := bitsOf w.toNat 8 7
  let int_ := s.regN A.tmbStagint
  let n := last - first + 1
  guarded user s
    (if s.comUp && bitAt w.toNat 31 && first ≤ last && last < 96 && int_ != 0 then
      (List.range n).foldl
        (fun s j =>
          let c := first + j
          let s := s.setCmp c (s.pair A.tmbStagbase0 A.tmbStagbase1 + j * int_ / n)
          let s := s.setRegN (A.tmbCmpint c) int_
          s.setRegN (A.tmbCmpctl c) 0xC0000000) s
     else s)

/-- A write to CMPFLAG: a flag that is cleared clears its channel's OVF (R550). -/
def State.writeCmpflag (s : State) (j : Nat) (w : Word) : State :=
  (List.range 32).foldl
    (fun s i => if bitAt w.toNat i then s.lower (F.tmbCmpctlOvf (32 * j + i)) else s) (s.writeReg (A.tmbCmpflag j) w)

/-- A write to CMPLO is staged (R541). -/
def State.writeCmplo (s : State) (n : Nat) (w : Word) : State :=
  s.setTb { s.tb with cmpStage := Sparse.insert s.tb.cmpStage n w.toNat }

/-- A write to CMPHI commits the staged low half, or the committed one where none is staged (R541). -/
def State.writeCmphi (s : State) (n : Nat) (w : Word) : State :=
  let lo := (Sparse.find? s.tb.cmpStage n).getD (s.regN (A.tmbCmplo n))
  (s.setPair (A.tmbCmplo n) (A.tmbCmphi n) (lo + 2 ^ 32 * w.toNat)).setTb
    { s.tb with cmpStage := Sparse.erase s.tb.cmpStage n }

/-- CMPHI_WRITE (R541). -/
def execCmphiWrite (user : Bool) (n : Nat) (w : Word) (s : State) : Out :=
  guarded user s (if s.comUp && n < 96 then s.writeCmphi n w else s)

/-- A read command answers a word. -/
def State.answerRead (s : State) (w : Word) : State := { s with busData := w, busError := false }

/-- A read of a register whose domain is off: a bus error, which changes nothing else (R24). -/
def State.readError (s : State) : State := { s with busError := true }

/-- CMPLO_READ (R541): the committed low half; the high half is latched for the next read of CMPHI. -/
def execCmploRead (n : Nat) (s : State) : Out :=
  .next (
    if s.comUp && n < 96 then
      (s.setTb { s.tb with cmpLatch := Sparse.insert s.tb.cmpLatch n (s.regN (A.tmbCmphi n)) }).answerRead
        (s.reg (A.tmbCmplo n))
    else s.readError)

/-- A read of CMPHI takes the latched half, once (R541). -/
def State.readCmphi (s : State) (n : Nat) : Word × State :=
  match Sparse.find? s.tb.cmpLatch n with
  | some v => (Word.ofN v, s.setTb { s.tb with cmpLatch := Sparse.erase s.tb.cmpLatch n })
  | none => (s.reg (A.tmbCmphi n), s)

/-! ## Captures (R543) -/

/-- A capture channel's live value. -/
def State.capUnit (s : State) (c : Nat) : CapUnit := (Sparse.find? s.tb.caps c).getD {}

/-- A capture channel accepts an event (R543). -/
def State.capture (s : State) (c : Nat) (t : EvLatch) : State :=
  let s := s.count (A.tmbCtr 3)
  let s := if s.flag (F.tmbCapstatValid c) then (s.raise (F.tmbCapstatOvr c)).count (A.tmbCtr 4) else s
  let s := s.setTb { s.tb with caps := Sparse.insert s.tb.caps c { val := t.tick, lf := t.lf } }
  ((s.raise (F.tmbCapstatValid c)).setFld (F.tmbCapstatLfres c) (b2n t.lf)).setBit A.tmbCapflag c

/-- CAPSTAT_READ (R543): flags, the value latched, VALID and OVR cleared. -/
def execCapstatRead (c : Nat) (s : State) : Out :=
  .next (
    if s.comUp && c < 32 then
      let w := s.reg (A.tmbCapstat c)
      let s := s.setPair (A.tmbCaplo c) (A.tmbCaphi c) (s.capUnit c).val
      ((s.lower (F.tmbCapstatValid c)).lower (F.tmbCapstatOvr c)).answerRead w
    else s.readError)

/-! ## Pulse measurement (R544) -/

/-- A pulse-measurement unit. -/
def State.pmUnit (s : State) (n : Nat) : PmUnit := (Sparse.find? s.tb.pms n).getD {}

/-- Set a pulse-measurement unit. -/
def State.setPm (s : State) (n : Nat) (u : PmUnit) : State :=
  s.setTb { s.tb with pms := Sparse.insert s.tb.pms n u }

/-- A unit closes with a result (R544). -/
def State.pmClose (s : State) (n : Nat) (u : PmUnit) (start stop : Nat) (lf subres : Bool) : State :=
  let width := wrap64 (stop + 2 ^ 64 - start)
  let s := if s.flag (F.tmbPmstatDone n) then s.raise (F.tmbPmstatOvr n) else s.raise (F.tmbPmstatDone n)
  let s := s.setPm n { width := min width 0xFFFFFFFF, result := start % 2 ^ 32 }
  let s := (s.setFld (F.tmbPmstatSubres n) (b2n subres)).setFld (F.tmbPmstatRestart n) (b2n u.restart)
  let s := (s.setFld (F.tmbPmstatSat n) (b2n (decide (0xFFFFFFFF < width)))).setFld (F.tmbPmstatLfres n) (b2n (u.startLf || lf))
  let s := (s.setFld (F.tmbPmstatSlept n) (b2n u.slept)).lower (F.tmbPmstatOpen n)
  ((s.setBit A.tmbPmflag n).count (A.tmbCtr 5)).evPulse (0x0E0 + n)

/-- The events of one tick at a unit, a stop and a start, in the order of R544. -/
def State.pmEvents (s : State) (n : Nat) (start stop : Option EvLatch) : State :=
  let u := s.pmUnit n
  let (s, used) : State × Bool := match u.start, stop with
    | some t0, some e => (s.pmClose n u t0 e.tick e.lf false, true)
    | _, _ => (s, false)
  let u := s.pmUnit n
  let (s, opened) : State × Bool := match start with
    | none => (s, false)
    | some e =>
      match u.start with
      | some _ => ((s.setPm n { u with start := some e.tick, startLf := e.lf, restart := true }).count (A.tmbCtr 7), false)
      | none =>
        ((s.setPm n { u with start := some e.tick, startLf := e.lf, restart := false, slept := false }).raise
          (F.tmbPmstatOpen n), true)
  match stop with
  | none => s
  | some e =>
    if used then s
    else if opened then
      let u := s.pmUnit n
      s.pmClose n u e.tick e.tick e.lf true
    else s.count (A.tmbCtr 6)

/-- PMSTAT_READ (R544): the result is latched, DONE and OVR cleared. -/
def execPmstatRead (n : Nat) (s : State) : Out :=
  .next (
    if s.comUp && n < 16 then
      let w := s.reg (A.tmbPmstat n)
      let u := s.pmUnit n
      let s := (s.setRegN (A.tmbPmwidth n) u.width).setRegN (A.tmbPmstart n) u.result
      ((s.lower (F.tmbPmstatDone n)).lower (F.tmbPmstatOvr n)).answerRead w
    else s.readError)

/-- PMCTL_DISABLE (R550): EN 0 discards an open measurement. -/
def State.pmDisable (s : State) (n : Nat) : State :=
  let u := s.pmUnit n
  ((s.setPm n { u with start := none, restart := false, slept := false, startLf := false }).lower
    (F.tmbPmstatOpen n)).lower (F.tmbPmctlEn n)

/-- PMCTL_DISABLE (R550). -/
def execPmctlDisable (user : Bool) (n : Nat) (s : State) : Out :=
  guarded user s (if s.comUp && n < 16 then s.pmDisable n else s)

/-! ## The snapshot (R546-R548) -/

/-- The address or context byte of counter `i` of the snapshot (R546). -/
def snapCounter (i : Nat) : Sum Nat Nat :=
  if i < 8192 then .inr (0x30000000 + 0x100 * (i / 8) + 0x70 + 4 * (i % 8))
  else if i < 8832 then .inl (A.dmdCtr (i - 8192))
  else if i < 8960 then .inl (A.decCtr (i - 8832))
  else if i < 9024 then .inl (A.tntCtr (i - 8960))
  else if i < 9042 then
    let j := i - 9024
    if j < 9 then .inl (A.dmdUnsrvs j) else .inl (A.dmdUnsrvt (j - 9))
  else if i < 9050 then
    let j := i - 9042
    .inl (A.chzStat + 0x10C + 0x100 * (j / 4) + 4 * (j % 4))
  else if i < 9063 then .inl (A.lnkCtr (i - 9050))
  else if i < 9071 then .inl (A.ntmCtr (i - 9063))
  else if i < 9079 then .inl (A.jrnCtr (i - 9071))
  else if i < 9087 then .inl (A.hslCtr (i - 9079))
  else if i < 9095 then .inl (A.flcCtr (i - 9087))
  else if i < 9103 then .inl (A.cryCtr (i - 9095))
  else if i < 9111 then .inl (A.rngCtr (i - 9103))
  else if i < 9126 then .inl (A.icuCtr ((i - 9111) / 3) ((i - 9111) % 3))
  else if i < 9382 then .inl (A.evfCtr (i - 9126))
  else if i < 9386 then .inl (A.evfDropped + 4 * (i - 9382))
  else if i < 9450 then .inl (A.evfAonctr (i - 9386))
  else if i = 9450 then .inl A.evfAondropped
  else .inl (A.tmbCtr (i - 9451))

/-- The live value of counter `i` (R546). -/
def State.snapValue (s : State) (i : Nat) : Nat :=
  match snapCounter i with
  | .inl a => s.regN a
  | .inr a => s.mem a 4

/-- Every counter that is not zero, by index. -/
def State.snapAll (s : State) : List (Nat × Nat) :=
  (List.range 9459).filterMap (fun i => if s.snapValue i = 0 then none else some (i, s.snapValue i))

/-- NTM in whole ns. -/
def State.ntmNs (s : State) : Nat := s.ntm.time / 2 ^ 32

/-- A snapshot bank. -/
def State.snpBank (s : State) (b : Nat) : SnpBank := if b = 0 then s.snp.bank0 else s.snp.bank1

/-- What a snapshot at this instant records (R547). -/
def State.snapNow (s : State) (t : Nat) : SnpBank := { tick := t, ntm := s.ntmNs, round := s.round0, vals := s.snapAll }

/-- A tick ends that a latched event of CHREF names: what it counted is kept for the snapshot that the event will
trigger (R530, R547). -/
def State.snapFreeze (s : State) : State :=
  let x := s.evInput 64
  if [x.req, x.mem].any (fun l => l.any (fun t => t.tick == s.tb.now)) then
    { s with snp := { s.snp with frozen := s.snapNow s.tb.now :: s.snp.frozen.filter (fun b => b.tick != s.tb.now) } }
  else s

/-- Take a snapshot at tick `t`, or refuse it while a fill runs or the target bank is held (R547, R548); triggers of
one tick make one snapshot. Answers whether a snapshot stands for the trigger. -/
def State.snapshot (s : State) (t : Nat) : Bool × State :=
  if s.snp.last == some t then (true, s)
  else
    let target := 1 - s.fld F.snpStatNewest
    let target := if s.snp.gen = 0 then 0 else target
    if s.flag F.snpStatFilling || bitAt (s.fld F.snpHoldHeld) target then
      (false, (s.count A.snpMisscnt).raise F.snpIntstatMissed)
    else
      let gen := (s.snp.gen + 1) % 2 ^ 32
      let b : SnpBank := { (s.snp.frozen.find? (fun b => b.tick == t)).getD (s.snapNow t) with gen := gen }
      let snp := if target = 0 then { s.snp with bank0 := b } else { s.snp with bank1 := b }
      (true, ({ s with snp := { snp with gen := gen, last := some t, frozen := snp.frozen.filter (fun f => f.tick != t) } }.raise F.snpStatFilling).setFld F.snpStatNewest target)

/-- SNAPSHOT_TAKE (R547). -/
def execSnapshotTake (user : Bool) (w : Word) (s : State) : Out :=
  guarded user s (if s.comUp && bitAt w.toNat 0 then (s.snapshot s.tb.now).2 else s)

/-- Counters of a bank. -/
def SnpBank.read (b : SnpBank) (first count : Nat) : List Byte :=
  ((List.range count).map (fun j => leBytes 4 ((Sparse.find? b.vals (first + j)).getD 0))).flatten

/-- The answer of SNAP_READ from a bank, and the hold or release after the read (R553). -/
def State.snapAnswer (s : State) (bank flags first count : Nat) : List Byte × State :=
  let b := s.snpBank bank
  let out := leBytes 4 b.gen ++ leBytes 8 b.tick ++ leBytes 8 b.ntm ++ b.read first count
  let h := s.fld F.snpHoldHeld
  let s := if bitAt flags 0 then s.setFld F.snpHoldHeld (putBit h bank true)
    else if bitAt flags 1 then s.setFld F.snpHoldHeld (putBit h bank false) else s
  (out, s)

/-- SNAPSHOT_FILL_DONE (R548): DONE is raised, and a SNAP_READ that made the snapshot is answered. -/
def execSnapshotFillDone (s : State) : Out :=
  .next (
    if s.flag F.snpStatFilling then
      let s := (s.lower F.snpStatFilling).raise F.snpIntstatDone
      let rs := s.snp.readers
      rs.foldl
        (fun s (o, flags, first, count) =>
          let (out, s) := s.snapAnswer (s.fld F.snpStatNewest) flags first count
          s.respond o 0x63 .ok out) { s with snp := { s.snp with readers := [] } }
    else s)

/-- SNAP_READ's handler (R553). -/
def handleSnapRead : Handler := fun o p s =>
  let source := byteAt p 0
  let flags := byteAt p 1
  let first := leAt p 2 2
  let count := leAt p 4 2
  if 3 < source || 3 ≤ flags || count < 1 || 250 < count || 9459 < first + count || !allZero (p.drop 6) then
    (.now .reservedValue [], s)
  else if source = 3 then
    let (ok, s) := s.snapshot s.tb.now
    if ok then
      if s.flag F.snpStatFilling then
        (.later, { s with snp := { s.snp with readers := s.snp.readers ++ [(o, flags, first, count)] } })
      else
        let (out, s) := s.snapAnswer (s.fld F.snpStatNewest) flags first count
        (.now .ok out, s)
    else (.now .busy [], s)
  else
    let bank := if source = 0 then s.fld F.snpStatNewest else source - 1
    if (s.snpBank bank).gen = 0 then (.now .notPermitted [], s)
    else
      let (out, s) := s.snapAnswer bank flags first count
      (.now .ok out, s)

/-- SNAP_READ (R553). -/
def execSnapRead (o : Origin) (p : List Byte) (s : State) : Out :=
  .next (hostCommand 0x63 (· == 8) handleSnapRead o p s)

/-! ## Accepting events (R530) -/

/-- An input's REQ is due: the second CK_REF edge strictly after it was set (R530). -/
def State.evDue (s : State) (i : Nat) : Bool :=
  match (s.evInput i).req with
  | none => false
  | some _ => s.comUp && s.tb.run == .ref && (s.evInput i).due ≤ s.tb.now

/-- Accept REQ of an input; MEM moves into REQ (R530). -/
def State.evTake (s : State) (i : Nat) : Option EvLatch × State :=
  let x := s.evInput i
  (x.req, s.setEvInput i { req := x.mem, mem := none, due := s.tb.now + 2 })

/-- Accept what is due at an input: a capture, the start and stop of one unit together, or a snapshot trigger. -/
def State.evAccept (s : State) (i : Nat) : State :=
  if i < 32 then
    match s.evTake i with
    | (some t, s) => s.capture i t
    | (none, s) => s
  else if i < 64 then
    let n := (i - 32) / 2
    let due0 := s.evDue (32 + 2 * n)
    let due1 := s.evDue (33 + 2 * n)
    let (a, s) := if due0 then s.evTake (32 + 2 * n) else (none, s)
    let (b, s) := if due1 then s.evTake (33 + 2 * n) else (none, s)
    if s.flag (F.tmbPmctlEn n) then s.pmEvents n a b else s
  else
    match s.evTake 64 with
    | (some t, s) => (s.snapshot t.tick).2
    | (none, s) => s

/-- CONSUMER_ACCEPT (R530, R543, R544, R547). -/
def execConsumerAccept (input : Nat) (s : State) : Out :=
  .next (if input < 65 && s.evDue input then s.evAccept input else s)

/-! ## TMB itself (R537) -/

/-- TMB stops at E0 (R537): PD_COM is in retention, off, or being reset. -/
def execTmbStop (s : State) : Out :=
  .next (
    if s.tb.run != .stopped && (!s.comUp || s.pw.boot == .startup || s.pw.boot == .held) then
      s.setTb { s.tb with run := .stopped, lfCycles := 0,
                          pms := s.tb.pms.map (fun p => if p.2.start.isSome then (p.1, { p.2 with slept := true }) else p) }
    else s)

/-- TMB_RESUME (R537): at the first CK_LF edge after XREFRDY the whole part stands and the fraction is dropped. -/
def execTmbResume (s : State) : Out :=
  .next (
    if s.tb.run == .lf && s.flag F.pmuStatXrefrdy then
      (s.setTb { s.tb with run := .ref, frac := 0 }).lower F.tmbStatLf
    else s)

end Sys2Proof.Machine
end

