-- ==== Sys2Proof/Machine/Ntm.lean ====
section
/-!
DEFINITION. Network time and rounds (R307-R329): the counter, slews, changes of NTM, rounds and slots, the mesh servo
and the SYNC tracker.
-/

namespace Sys2Proof.Machine

/-- A whole number of ns in units of 2^-32 ns. -/
def nsUnits (n : Int) : Int := n * 2 ^ 32

/-- Set the network time's state. -/
def State.setNtm (s : State) (n : NtmState) : State := { s with ntm := n }

/-- One step of the 96-bit count (R307). -/
def ntmWrap (i : Int) : Nat := (i % (2 ^ 96 : Int)).toNat

/-! ## Advancing (R307-R309) -/

/-- The slew rate in force, in ppm (R308). -/
def State.slewRate (s : State) : Nat :=
  if s.ntm.slew == some .sync then 40 else s.fld F.ntmCfgSlewmax

/-- One CK_REF tick of NTM (R307, R308): the tick on which SLEWREM would cross zero adds only the remainder. -/
def State.ntmTick (s : State) : State :=
  let n := s.ntm
  let excess : Int := ((n.inc * s.slewRate / 1000000 : Nat) : Int)
  let d : Int := if 0 ≤ n.slewRem then min excess n.slewRem else max (-excess) n.slewRem
  let d := if n.slew.isNone then 0 else d
  s.setNtm { n with time := ntmWrap ((n.time : Int) + n.inc + d), slewRem := n.slewRem - d }

/-- NTM advances by a number of ticks in units of 2^-16 tick, with no slew (R309). -/
def State.ntmAdd (s : State) (ticks16 : Nat) : State :=
  s.setNtm { s.ntm with time := ntmWrap ((s.ntm.time + ticks16 * s.ntm.inc / 2 ^ 16 : Nat) : Int) }

/-- `NTM.SLEWREM` in whole ns. -/
def State.slewNs (s : State) : Int := Int.tdiv s.ntm.slewRem (2 ^ 32)

/-! ## Rounds and slots (R313-R315) -/

/-- The round number of the last boundary fired (R313). -/
def State.ntmRound (s : State) : Nat := s.pair A.ntmRound0 A.ntmRound1

/-- A slot boundary fires (R314). -/
def State.fireSlot (s : State) : State := s.evPulse 0x0F1

/-- A round boundary fires, and slot 0 with it (R314): event sources, flag, interrupt, the round's airtime sums (R298),
a snapshot where one is asked for (R547). -/
def State.fireRound (s : State) : State :=
  let s := ((s.evPulse 0x0F0).fireSlot).raise F.ntmIntstatRound
  let s := s.irqPulse 385 s.round0
  let s := { s with tnt := { s.tnt with air := [] } }
  if s.flag F.snpCtlRounden then (s.snapshot s.tb.now).2 else s

/-- Set the round number and the last slot boundary. -/
def State.setRound (s : State) (r slot : Nat) : State :=
  (s.setPair A.ntmRound0 A.ntmRound1 (wrap64 r)).setNtm { s.ntm with lastSlot := slot }

/-- What a change of NTM that is no tick does to rounds and slots (R315). -/
def State.roundsAfterChange (s : State) : State :=
  let ns := s.ntmNs
  let n := ns / 1000000000
  let r := s.ntmRound
  if r < n then
    ((s.setRound n (n * 1000000000)).countBy (A.ntmCtr 3) (n - r - 1)).fireRound
  else if n + 1 < r then
    let s := s.setRound n (n * 1000000000)
    (s.setNtm { s.ntm with rebased := true }).fireRound
  else
    let k := ns / 10000000 * 10000000
    if s.ntm.lastSlot < k then (s.setNtm { s.ntm with lastSlot := k }).fireSlot else s

/-- SLOT_BOUNDARY (R314, R315): NTM has reached LASTSLOT + 10^7 ns, short of the next round boundary. -/
def execSlotBoundary (s : State) : Out :=
  .next (
    let k := s.ntm.lastSlot + 10000000
    if k ≤ s.ntmNs && k < (s.ntmRound + 1) * 1000000000 then
      (s.setNtm { s.ntm with lastSlot := k }).fireSlot
    else s)

/-! ## Source and stratum (R320, R321) -/

/-- `NTM.STAT` with SLEWING and LFRUN as they stand (R326). -/
def State.ntmStat (s : State) : Nat :=
  ((s.setFld F.ntmStatSlewing (b2n (s.ntm.slewRem != 0))).setFld F.ntmStatLfrun (b2n (s.tb.run == .lf))).regN A.ntmStat

/-- The TIME_STATE payload (R329). -/
def State.timeStatePayload (s : State) : List Byte :=
  leBytes 4 s.ntmStat
  ++ leBytes 4 (s.regN A.ntmSyncerr) ++ leBytes 4 s.round0 ++ leBytes 4 (s.regN A.ntmMesherr)

/-- Send the TIME_STATE notice (R329). -/
def State.timeState (s : State) : State := s.notice 0xC7 s.timeStatePayload

/-- The tracker is LOCKED (R323). -/
def State.syncLocked (s : State) : Bool := s.fld F.ntmStatSyncst == 2

/-- The source that should be in force (R320): 0 none, 1 mesh, 2 SYNC. -/
def State.ntmSource (s : State) : Nat :=
  match s.fld F.ntmCfgSrc with
  | 0 => 0
  | 1 => 1
  | 2 => if s.syncLocked then 2 else 0
  | _ => if s.syncLocked && s.ntm.meshRound + 10 ≤ s.ntmRound then 2 else 1

/-- STRATUM where the source fixes it: 0 under a LOCKED tracker with SRC 2; 15 or 1 with SRC 0 (R321). -/
def State.refreshStratum (s : State) : State :=
  match s.fld F.ntmCfgSrc with
  | 0 => s.setFld F.ntmStatStratum (if s.ntm.setOnce then 1 else 15)
  | 2 => if s.syncLocked then s.setFld F.ntmStatStratum 0 else s
  | _ => s

/-- Bring SRCACT up to date; the next sample of a new source is a first sample (R320). -/
def State.refreshSource (s : State) : State :=
  let n := s.ntmSource
  let s := s.refreshStratum
  if s.fld F.ntmStatSrcact = n then s
  else ((s.setFld F.ntmStatSrcact n).setNtm { s.ntm with meshPrev := none, syncPrev := none }).timeState

/-- ROUND_BOUNDARY (R314): NTM has reached the next round; ten rounds without a mesh sample may hand
NTM to the tracker (R320). -/
def execRoundBoundary (s : State) : Out :=
  .next (
    let r := s.ntmRound + 1
    if r * 1000000000 ≤ s.ntmNs then
      let s := s.setRound r (r * 1000000000)
      ((s.setNtm { s.ntm with rebased := false }).fireRound).refreshSource
    else s)

/-! ## Changes of NTM (R311, R312) -/

/-- A frame with an inserted stamp lies between its gate and its stamp point (R312). -/
def State.stampInFlight (s : State) : Bool :=
  [s.rf.chS, s.rf.chT].any (fun c => c.stamping && s.tb.now < c.stampEnd)

/-- A SET or step is deferred now (R312). -/
def State.stepDeferred (s : State) : Bool := 2 ≤ s.fld F.brdSwapstatState || s.stampInFlight

/-- Put a slew in force (R308): it replaces SLEWREM. -/
def State.startSlew (s : State) (k : SlewKind) (amount : Int) : State :=
  s.setNtm { s.ntm with slewRem := amount, slew := if amount = 0 then none else some k }

/-- Apply a SET or step: STEP flag, STEPS, VALID, rounds, the notice (R311, R315, R321, R329). -/
def State.applySet (s : State) (t : Nat) : State :=
  let s := s.setNtm { s.ntm with time := t, setOnce := true }
  let s := ((s.raise F.ntmIntstatStep).count (A.ntmCtr 2)).raise F.ntmStatValid
  (s.roundsAfterChange.refreshSource).timeState

/-- Apply a change at once. -/
def State.applyChange (s : State) (c : NtmChange) : State :=
  match c with
  | .set ns => s.applySet (wrap64 ns * 2 ^ 32)
  | .step ns => s.applySet (ntmWrap ((s.ntm.time : Int) + nsUnits ns))
  | .slew k units => s.startSlew k units

/-- Apply a change, or let it wait: a newer SET or step replaces the one that waits, and a TIME_SET that waited with
that one is answered CANCELLED (R312; the answer is the model's choice). Answers whether it was applied. -/
def State.change (s : State) (c : NtmChange) (host : Option Origin) : Bool × State :=
  match c with
  | .slew _ _ =>
    if s.stampInFlight then (false, s.setNtm { s.ntm with waitSlew := some c })
    else (true, (s.setNtm { s.ntm with waitSlew := none }).applyChange c)
  | _ =>
    let s := match s.ntm.waitHost with
      | some o => (s.setNtm { s.ntm with waitHost := none }).respond o 0x71 .cancelled []
      | none => s
    let s := (s.setNtm { s.ntm with waiting := none }).lower F.ntmStatPend
    if s.stepDeferred then
      (false, (s.setNtm { s.ntm with waiting := some c, waitHost := host }).raise F.ntmStatPend)
    else (true, s.applyChange c)

/-- DEFERRED_ADJUST (R312): what waits is applied once nothing defers it. -/
def execDeferredAdjust (s : State) : Out :=
  .next (
    let s := match s.ntm.waitSlew with
      | some c => if s.stampInFlight then s else (s.setNtm { s.ntm with waitSlew := none }).applyChange c
      | none => s
    match s.ntm.waiting with
    | some c =>
      if s.stepDeferred then s
      else
        let host := s.ntm.waitHost
        let s := (s.setNtm { s.ntm with waiting := none, waitHost := none }).lower F.ntmStatPend
        let s := s.applyChange c
        match host with
        | some o => s.respond o 0x71 .ok []
        | none => s
    | none => s)

/-- SLEW_END (R308): SLEWREM has reached zero, so the slew is over. -/
def execSlewEnd (s : State) : Out :=
  .next (if s.ntm.slewRem = 0 then s.setNtm { s.ntm with slew := none } else s)

/-- A capture of NTM, its fraction and TMB on one tick (R310). -/
def State.ntmCapture (s : State) : State :=
  let s := s.setPair A.ntmCapns0 A.ntmCapns1 s.ntmNs
  (s.setRegN A.ntmCapfrac (s.ntm.time % 2 ^ 32)).setPair A.ntmCaptmb0 A.ntmCaptmb1 s.tb.now

/-- A command of R311 is refused. -/
def State.cmdErr (s : State) : State := s.raise F.ntmIntstatCmderr

/-- A write to `NTM.CMD` (R311): ABORT, SET, STEP, SLEW and CAPTURE, in that order. -/
def State.writeNtmCmd (s : State) (n : Nat) : State :=
  let many := 1 < b2n (bitAt n 3) + b2n (bitAt n 2) + b2n (bitAt n 1)
  let steers := s.fld F.ntmCfgSrc != 0 && bitsOf n 1 4 != 0
  let s :=
    if many || steers then s.cmdErr
    else
      let s := if bitAt n 4 then s.setNtm { s.ntm with slewRem := 0, slew := none, waitSlew := none } else s
      let adj := signedOf 32 (s.regN A.ntmAdj)
      let s := if bitAt n 3 then (s.change (.set (s.pair A.ntmSetlo A.ntmSethi)) none).2 else s
      let s := if bitAt n 2 then (s.change (.step adj) none).2 else s
      if bitAt n 1 then (s.change (.slew .firmware (nsUnits adj)) none).2 else s
  if bitAt n 0 then s.ntmCapture else s

/-- NTM_ABORT (R311). -/
def execNtmAbort (user : Bool) (w : Word) (s : State) : Out :=
  guarded user s (if s.comUp then s.writeNtmCmd (w.toNat ||| 16) else s)

/-- NTM_SET (R311). -/
def execNtmSet (user : Bool) (w : Word) (s : State) : Out :=
  guarded user s (if s.comUp then s.writeNtmCmd (w.toNat ||| 8) else s)

/-- NTM_STEP (R311). -/
def execNtmStep (user : Bool) (w : Word) (s : State) : Out :=
  guarded user s (if s.comUp then s.writeNtmCmd (w.toNat ||| 4) else s)

/-- NTM_SLEW (R311). -/
def execNtmSlew (user : Bool) (w : Word) (s : State) : Out :=
  guarded user s (if s.comUp then s.writeNtmCmd (w.toNat ||| 2) else s)

/-- NTM_CAPTURE (R310). -/
def execNtmCapture (user : Bool) (w : Word) (s : State) : Out :=
  guarded user s (if s.comUp then s.writeNtmCmd (w.toNat ||| 1) else s)

/-- The least and greatest INC, in units of 2^-32 ns: 24.875 and 25.125 ns (R307). -/
def incMin : Nat := 199 * 2 ^ 29
/-- The greatest INC. -/
def incMax : Nat := 201 * 2 ^ 29

/-- Set INC and the registers that show it. -/
def State.setInc (s : State) (inc : Nat) : State :=
  ((s.setNtm { s.ntm with inc := inc }).setRegN A.ntmIncint (inc / 2 ^ 32)).setRegN A.ntmIncfrac (inc % 2 ^ 32)

/-- A write to `NTM.INCINT` commits the pair, unless a source steers NTM or the pair is out of range (R311, R326). -/
def State.writeIncint (s : State) (w : Word) : State :=
  let inc := bitsOf w.toNat 0 8 * 2 ^ 32 + s.regN A.ntmIncfrac
  if s.fld F.ntmCfgSrc != 0 then s.cmdErr
  else if incMin ≤ inc && inc ≤ incMax then s.setInc inc
  else s

/-- INCINT_WRITE (R311). -/
def execIncintWrite (user : Bool) (w : Word) (s : State) : Out :=
  guarded user s (if s.comUp then s.writeIncint w else s)

/-- INC scaled by 1 - num / den, the change limited to `lim`, the result to the range of R307. -/
def State.trimInc (s : State) (num den : Int) (lim : Option Nat) : State :=
  let inc : Int := s.ntm.inc
  let d := if den = 0 then 0 else inc * num / den
  let d := match lim with
    | none => d
    | some l => max (-(l : Int)) (min l d)
  s.setInc (max (incMin : Int) (min (incMax : Int) (inc - d))).toNat

/-! ## The mesh servo (R321) -/

/-- A mesh sample: the receive stamp, the Time IE's stamp and its stratum. It is taken while SRC is 1 or 3. -/
def State.meshSample (s : State) (rx ie stratum : Nat) : State :=
  let src := s.fld F.ntmCfgSrc
  if !(src == 1 || src == 3) then s
  else
    let e : Int := (rx : Int) - ((ie : Int) + s.fld F.ntmPropdlyNs)
    let s := s.setRegN A.ntmMesherr (ofSigned 32 e)
    let thr := s.fld F.ntmCfgStepthr
    let first := s.ntm.meshPrev.isNone || s.fld F.ntmStatSrcact != 1
    if !first && thr = 0 then (s.raise F.ntmIntstatOutlier).count (A.ntmCtr 1)
    else
      let s := (s.setNtm { s.ntm with meshRound := s.ntmRound }).refreshSource
      let prev := s.ntm.meshPrev
      let s := (s.setNtm { s.ntm with meshPrev := some rx }).count (A.ntmCtr 0)
      let s := s.setFld F.ntmStatStratum (min (stratum + 1) 14)
      if first || thr * 1000 < e.natAbs then (s.change (.step (-e)) none).2
      else
        let shift := s.fld F.ntmCfgPshift
        let amount := Int.tdiv (nsUnits (-e)) (2 ^ shift)
        let s := (s.change (.slew .mesh amount) none).2
        match prev with
        | some p =>
          if p + 1000000000 ≤ rx then s.trimInc e ((rx - p : Int) * 2 ^ s.fld F.ntmCfgFshift) none else s
        | none => s

/-! ## The SYNC tracker (R322-R324) -/

/-- The pad that carries a function (R556); none where the Board places it on none. -/
def State.padWith (s : State) (func : Nat) : Option Nat :=
  (List.range 96).find? (fun n => bitsOf (s.cfg 7 20 0 n) 24 8 == func)

/-- A deglitch width in CK_REF ticks: 0, 50, 200 and 1,000 ns (R555). -/
def deglitchTicks (code : Nat) : Nat := match code with | 0 => 0 | 1 => 2 | 2 => 8 | _ => 40

/-- The error of an edge seen now: its TMB tick less two synchroniser ticks and the pad's deglitch, in NTM ns, less the
nearest expected point (R322). -/
def State.syncError (s : State) : Int :=
  let degl := match s.padWith 0x0D with
    | none => 0
    | some n => deglitchTicks (bitsOf (s.cfg 7 20 0 n) 18 2)
  let t : Int := Int.tdiv ((s.ntm.time : Int) - (2 + degl : Nat) * s.ntm.inc) (2 ^ 32)
  let x := (t - signedOf 32 (s.regN A.ntmSyncofs)) % 1000000000
  if x < 500000000 then x else x - 1000000000

/-- SYNC_EDGE (R322): an edge of the selected sense is timed; of a round's edges the one nearest the expected point is
kept, every other one counts in SYNCEXTRA. -/
def execSyncEdge (rising : Bool) (s : State) : Out :=
  .next (
    let edge := s.fld F.ntmSynccfgEdge
    let senses := edge == 2 || (edge == 0 && rising) || (edge == 1 && !rising)
    if s.flag F.ntmSynccfgEn && senses && s.comUp && s.tb.run != .stopped then
      let e := s.syncError
      match s.ntm.syncBest with
      | none => s.setNtm { s.ntm with syncBest := some e }
      | some b =>
        (s.setNtm { s.ntm with syncBest := some (if e.natAbs < b.natAbs then e else b) }).count (A.ntmCtr 6)
    else s)

/-- Set the tracker's state, with its flags and notice (R323). -/
def State.setSync (s : State) (st : Nat) : State :=
  let old := s.fld F.ntmStatSyncst
  if old = st then s
  else
    let s := s.setFld F.ntmStatSyncst st
    let s := if st = 2 then (s.raise F.ntmIntstatSynclock).raise F.ntmStatValid else s
    let s := if st = 3 && old = 2 then s.raise F.ntmIntstatSyncloss else s
    let s := s.setNtm { s.ntm with syncRun := [], syncMiss := 0, syncPrev := none }
    s.timeState.refreshSource

/-- The rounds of a run lie within 100 us of one another (R323). -/
def within100us (l : List Int) : Bool := l.all (fun a => l.all (fun b => (a - b).natAbs ≤ 100000))

/-- The mean of a run. -/
def meanOf (l : List Int) : Int := Int.tdiv (l.foldl (· + ·) 0) l.length

/-- A round of the acquisition test (R323): an edge that qualifies joins the run or starts it anew; a full run locks,
and with learning moves SYNCOFS by the mean. -/
def State.syncAcquire (s : State) (e : Option Int) (learn : Bool) : State :=
  match e with
  | none => s.setNtm { s.ntm with syncRun := [] }
  | some e =>
    let run := if within100us (e :: s.ntm.syncRun) then e :: s.ntm.syncRun else [e]
    let s := s.setNtm { s.ntm with syncRun := run }
    if s.fld F.ntmSynccfgAcqn ≤ run.length then
      let s := if learn then
          let v := (signedOf 32 (s.regN A.ntmSyncofs) + meanOf run + 500000000) % 1000000000 - 500000000
          s.setRegN A.ntmSyncofs (ofSigned 32 v)
        else s
      s.setSync 2
    else s

/-- A round with an edge in the window in LOCKED (R324). -/
def State.syncUse (s : State) (e : Int) : State :=
  let lim : Int := s.fld F.ntmSynccfgSlew * 1000
  let c := max (-lim) (min lim e)
  let inForce := s.fld F.ntmStatSrcact == 2
  let thr : Int := s.fld F.ntmSynccfgJumpthr * 10000
  let s := if s.flag F.ntmStatPhjump && e.natAbs ≤ thr then s.lower F.ntmStatPhjump else s
  let d : Option Int := s.ntm.syncPrev.map (fun (e0, c0) => e - e0 + c0)
  let s := match d with
    | some d => if thr < d.natAbs then (s.raise F.ntmIntstatPhjump).raise F.ntmStatPhjump else s
    | none => s
  let s := s.setNtm { s.ntm with syncPrev := some (e, if inForce then c else 0), syncMiss := 0 }
  let s := if inForce then (s.change (.slew .sync (nsUnits (-c))) none).2 else s
  match d with
  | some d =>
    if inForce && !s.flag F.ntmStatPhjump then
      s.trimInc d (1000000000 * 2 ^ s.fld F.ntmCfgFshift) (some (s.ntm.inc * 50 / 1000000))
    else s
  | none => s

/-- SYNC_ROUND (R323, R324): the round's capture window has ended. -/
def execSyncRound (s : State) : Out :=
  .next (
    let st := s.fld F.ntmStatSyncst
    if st = 0 || !s.comUp || s.tb.run == .stopped then s
    else
      let win := s.fld F.ntmSyncwinUs * 1000
      let learn := s.flag F.ntmSynccfgAutolearn
      let best := s.ntm.syncBest
      let inWin := best.filter (fun e => e.natAbs ≤ win)
      let s := s.setNtm { s.ntm with syncBest := none }
      let s := match inWin, best with
        | some _, _ => (s.count (A.ntmCtr 4)).evPulse 0x0F2
        | none, some _ => (s.count (A.ntmCtr 5)).count (A.ntmCtr 6)
        | none, none => s.count (A.ntmCtr 5)
      let shown := if st = 1 then best else inWin
      let s := s.setRegN A.ntmSyncerr (match shown with | some e => ofSigned 32 e | none => 0x80000000)
      match st with
      | 1 => s.syncAcquire (if learn then best else inWin) learn
      | 2 =>
        match inWin with
        | some e => s.syncUse e
        | none =>
          let n := s.ntm.syncMiss + 1
          let s := s.setNtm { s.ntm with syncMiss := n }
          if s.fld F.ntmSynccfgMissn ≤ n then s.setSync 3 else s
      | _ =>
        match inWin with
        | some _ => s.setSync 2
        | none => if learn then s.syncAcquire (best.filter (fun e => e.natAbs ≤ 10000000)) true else s)

/-- `NTM.SYNCCFG.EN` starts or stops the tracker (R323). -/
def State.syncEnable (s : State) : State :=
  let st := s.fld F.ntmStatSyncst
  if s.flag F.ntmSynccfgEn then (if st = 0 then s.setSync 1 else s) else s.setSync 0

/-- A write to `NTM.SYNCCFG`. -/
def State.writeSynccfg (s : State) (w : Word) : State := (s.writeReg A.ntmSynccfg w).syncEnable

/-- A write to `NTM.CFG`: a change of SRC may change the source in force (R320). -/
def State.writeNtmCfg (s : State) (w : Word) : State :=
  let src := s.fld F.ntmCfgSrc
  let s := s.writeReg A.ntmCfg w
  let s := if s.fld F.ntmCfgSrc = src then s else s.setNtm { s.ntm with meshRound := s.ntmRound, meshPrev := none }
  s.refreshSource

/-- On a wake NTM is made up, and a LOCKED tracker goes to HOLDOVER (R309, R315, R323). -/
def State.ntmMakeup (s : State) (ticks16 : Nat) : State :=
  let s := (s.ntmAdd ticks16).roundsAfterChange
  if s.syncLocked then s.setSync 3 else s

/-! ## Host commands (R329) -/

/-- TIME_GET's handler (R329). -/
def handleTimeGet : Handler := fun _ _ s =>
  let s := s.ntmCapture
  (.now .ok (leBytes 8 (s.pair A.ntmCapns0 A.ntmCapns1) ++ leBytes 8 (s.pair A.ntmCaptmb0 A.ntmCaptmb1)
    ++ leBytes 8 s.ntmRound ++ leBytes 4 s.ntmStat ++ leBytes 4 (s.regN A.ntmSyncerr) ++ leBytes 4 (s.regN A.ntmMesherr)), s)

/-- TIME_GET (R329). -/
def execTimeGet (o : Origin) (p : List Byte) (s : State) : Out :=
  .next (hostCommand 0x70 (· == 0) handleTimeGet o p s)

/-- TIME_SET's handler (R329): a deferred SET answers when it is applied. -/
def handleTimeSet : Handler := fun o p s =>
  if s.fld F.ntmCfgSrc != 0 then (.now .notPermitted [], s)
  else
    match s.change (.set (leAt p 0 8)) (some o) with
    | (true, s) => (.now .ok [], s)
    | (false, s) => (.later, s)

/-- TIME_SET (R329). -/
def execTimeSet (o : Origin) (p : List Byte) (s : State) : Out :=
  .next (hostCommand 0x71 (· == 8) handleTimeSet o p s)

end Sys2Proof.Machine
end

