-- ==== Sys2Proof/Machine/Phy.lean ====
section
/-!
DEFINITION. PHY modes (R216), the Long Reach header (R225, R226), data, whitening, the LDPC code family and its stages
(R228-R231), Reed-Solomon framing (R232), and airtimes (R224).
-/

namespace Sys2Proof.Machine

/-! ## Mode codes (R216) -/

/-- The code names a mode (R216). -/
def modeExists (m : Nat) : Bool :=
  (0x11 ≤ m && m ≤ 0x17) || (0x20 ≤ m && m ≤ 0x23) || (0x28 ≤ m && m ≤ 0x2D) || (0x31 ≤ m && m ≤ 0x36)
  || (0x3A ≤ m && m ≤ 0x3E) || m == 0x40 || (0x48 ≤ m && m ≤ 0x4B) || (0x50 ≤ m && m ≤ 0x53) || m == 0x58 || m == 0x59

/-- SUN FSK (R216). -/
def modeFsk (m : Nat) : Bool := 0x11 ≤ m && m ≤ 0x17
/-- SUN OFDM (R216). -/
def modeOfdm (m : Nat) : Bool := 0x20 ≤ m && m < 0x40
/-- Bluetooth LE (R216). -/
def modeLe (m : Nat) : Bool := 0x48 ≤ m && m ≤ 0x4B
/-- Long Reach (R216). -/
def modeLr (m : Nat) : Bool := 0x50 ≤ m && m ≤ 0x53
/-- Wake telegrams, transmit only (R216). -/
def modeWake (m : Nat) : Bool := m == 0x58 || m == 0x59

/-- The mode is permitted on a chain (R216). -/
def modeOnChain (m chain : Nat) : Bool :=
  if modeLr m then true
  else if m == 0x40 || modeLe m then chain == 1
  else modeExists m && chain == 0

/-- The least slice width code of a mode (R216). -/
def modeWidth (m : Nat) : Nat :=
  if m == 0x11 then 5 else if modeFsk m then 6
  else if 0x20 ≤ m && m < 0x28 then 8 else if 0x28 ≤ m && m < 0x30 then 7
  else if 0x30 ≤ m && m < 0x38 then 6 else if 0x38 ≤ m && m < 0x40 then 5
  else if m == 0x40 then 9 else if m == 0x49 then 10 else if modeLe m then 8
  else if m == 0x50 then 4 else if m == 0x51 then 3 else if m == 0x52 then 2 else 1

/-- The width of a slice width code in Hz (R198). -/
def widthHz (code : Nat) : Nat :=
  match code with
  | 1 => 12500 | 2 => 25000 | 3 => 50000 | 4 => 100000 | 5 => 200000
  | 6 => 400000 | 7 => 800000 | 8 => 1200000 | 9 => 2000000 | 10 => 2500000
  | _ => 0

/-- Symbols per second of a mode (R216, R223); the OFDM symbol lasts 120 us. -/
def symbolRate (m : Nat) : Nat :=
  match m with
  | 0x11 => 50000 | 0x12 => 100000 | 0x13 => 150000 | 0x14 => 200000
  | 0x15 => 100000 | 0x16 => 150000 | 0x17 => 200000
  | 0x40 => 62500 | 0x48 => 1000000 | 0x49 => 2000000 | 0x4A => 1000000 | 0x4B => 1000000
  | 0x50 => 50000 | 0x51 => 19200 | 0x52 => 14400 | 0x53 => 4800
  | 0x58 => 4000 | 0x59 => 16000
  | _ => 8333

/-- Bits per second of a SUN FSK mode (R216). -/
def fskBitRate (m : Nat) : Nat :=
  match m with
  | 0x11 => 50000 | 0x12 => 100000 | 0x13 => 150000 | 0x14 => 200000
  | 0x15 => 200000 | 0x16 => 300000 | _ => 400000

/-- CK_REF ticks of a number of symbols, rounded up; OFDM symbols of 120 us. -/
def symbolTicks (m n : Nat) : Nat :=
  if modeOfdm m then n * 4800 else (n * 40000000 + symbolRate m - 1) / symbolRate m

/-- The turnaround T of a mode's family in ticks: 20 us, or 200 us for Long Reach and wake telegrams (R167). -/
def turnTicks (m : Nat) : Nat := if modeLr m || modeWake m then 8000 else 800

/-- The ramp prescaler PS of a mode (R164). -/
def rampPs (m : Nat) : Nat := if modeLr m || modeWake m then 16 else 1

/-- The PHY family of a mode, as R199 compares families. -/
def modeFamily (m : Nat) : Nat :=
  if modeFsk m then 0 else if modeOfdm m then 1 else if m == 0x40 then 2 else if modeLe m then 3 else if modeLr m then 4 else 5

/-! ## The Long Reach header (R225, R226) -/

/-- A Long Reach header's fields. -/
structure LrHeader where
  ctag : Nat
  txh  : Nat
  ms   : Bool
  inc  : Nat
  rate : Nat
  ncls : Nat
  fec  : Bool
  len  : Nat
  deriving DecidableEq, Repr

/-- One step of the header CRC-8 (R226). -/
def hcrcStep (crc : Nat) (bit : Bool) : Nat :=
  let fb := bitAt crc 7 != bit
  let c := crc * 2 % 256
  if fb then c ^^^ 0x07 else c

/-- HCRC over header bits `i` to 39 (R226). -/
def hcrcFrom (n : Nat) (crc : Nat) (body : Nat) : Nat :=
  match n with
  | 0 => crc
  | n + 1 => hcrcFrom n (hcrcStep crc (bitAt body (39 - n))) body

/-- HCRC of a header body (R226). -/
def hcrc (body : Nat) : Nat := hcrcFrom 40 0 body

/-- The fields of a 48-bit header (R225). -/
def LrHeader.parse (h : Nat) : LrHeader :=
  { ctag := bitsOf h 28 12, txh := bitsOf h 20 8, ms := bitAt h 18, inc := bitsOf h 16 2, rate := bitsOf h 14 2,
    ncls := bitsOf h 12 2, fec := bitAt h 11, len := bitsOf h 0 11 }

/-- Lifting size Z of a mother length class (R228). -/
def lrZ (ncls : Nat) : Nat := 24 * 2 ^ ncls
/-- Information bits K of a block (R228). -/
def lrK (ncls : Nat) : Nat := 6 * lrZ ncls
/-- The largest LEN of a class (R228). -/
def lrMaxLen (ncls : Nat) : Nat := match ncls with | 0 => 284 | 1 => 572 | _ => 1148

/-- A frame header that the context does not release with HDRFAIL (R225, R228). -/
def lrHeaderOk (h : Nat) : Bool :=
  let x := LrHeader.parse h
  hcrc (h % 2 ^ 40) == bitsOf h 40 8 && bitsOf h 19 1 == 0 && x.len != 0
  && (if x.fec then x.rate == 0 && x.inc == 0 && x.ncls == 0
      else x.ncls != 3 && x.len ≤ lrMaxLen x.ncls)

/-- A mode-switch header (R227): the new mode is LR0-LR3 and every other bit zero. -/
def lrSwitchOk (h : Nat) : Bool :=
  hcrc (h % 2 ^ 40) == bitsOf h 40 8 && bitsOf h 19 21 == 0 && bitsOf h 8 10 == 0 && modeLr (bitsOf h 0 8)

/-! ## Data, whitening, blocks (R228) -/

/-- Data bits of a frame: B = 8 x (LEN + 4) (R228). -/
def lrBits (len : Nat) : Nat := 8 * (len + 4)

/-- The number of blocks (R228). -/
def lrBlocks (ncls len : Nat) : Nat := (lrBits len + lrK ncls - 1) / lrK ncls

/-- Filler bits of the last block (R228). -/
def lrFiller (ncls len : Nat) : Nat := lrBlocks ncls len * lrK ncls - lrBits len

/-- Filler bits of block `i` of `nb`. -/
def lrFillerOf (ncls len i : Nat) : Nat := if i + 1 = lrBlocks ncls len then lrFiller ncls len else 0

/-- The PN9 sequence x^9 + x^5 + 1 from a register value (R228): its bits, oldest first. -/
def pn9 (n reg : Nat) : List Bool :=
  match n with
  | 0 => []
  | n + 1 => bitAt reg 0 :: pn9 n (reg / 2 + 256 * b2n (bitAt reg 0 != bitAt reg 5))

/-- Bits of octets, least significant first. -/
def bitsOfBytes (bs : List Byte) : List Bool :=
  (bs.map (fun b => (List.range 8).map (fun i => b.getLsbD i))).flatten

/-- A number from bits, least significant first. -/
def natOfBits (l : List Bool) : Nat := l.foldr (fun b n => b2n b + 2 * n) 0

/-- Octets of bits, least significant first. -/
def bytesOfBits (n : Nat) (l : List Bool) : List Byte :=
  match n with
  | 0 => []
  | n + 1 => Byte.ofN (natOfBits (l.take 8)) :: bytesOfBits n (l.drop 8)

/-- Whitening and its inverse: exclusive-or with PN9 seeded with all ones (R228). -/
def whiten (bits : List Bool) : List Bool := (bits.zip (pn9 bits.length 0x1FF)).map (fun p => p.1 != p.2)

/-- The PSDU of a frame from its whitened data bits, where LRFCS passes (R228, R241). -/
def lrUnpack (len : Nat) (bits : List Bool) : Option (List Byte) :=
  let octets := bytesOfBits (len + 4) (whiten (bits.take (lrBits len)))
  if leNat (octets.drop len) = crc32c (octets.take len) then some (octets.take len) else none

/-! ## The LDPC code family (R229-R231) -/

/-- The base matrix for Z = 96: rows of (column, shift) (R230). -/
def baseMatrix : List (List (Nat × Nat)) := [
  [(0, 72), (1, 5), (2, 61), (3, 38), (4, 90), (5, 17), (6, 1), (7, 0)],
  [(0, 33), (1, 80), (2, 12), (3, 57), (4, 0), (5, 66), (6, 0), (7, 0), (8, 0)],
  [(0, 9), (1, 44), (2, 87), (3, 21), (4, 70), (5, 52), (6, 1), (8, 0)],
  [(0, 40), (3, 11), (6, 63), (9, 0)],
  [(1, 27), (4, 85), (7, 2), (10, 0)],
  [(2, 58), (5, 30), (8, 77), (11, 0)],
  [(0, 91), (2, 6), (7, 49), (12, 0)],
  [(1, 14), (3, 68), (8, 35), (13, 0)],
  [(4, 52), (5, 83), (6, 20), (14, 0)],
  [(0, 24), (4, 7), (8, 60), (15, 0)],
  [(1, 71), (5, 46), (6, 88), (16, 0)],
  [(2, 37), (3, 93), (7, 15), (17, 0)],
  [(0, 55), (5, 3), (7, 79), (18, 0)],
  [(1, 62), (2, 29), (6, 41), (19, 0)],
  [(3, 8), (4, 74), (8, 51), (20, 0)],
  [(0, 18), (1, 95), (8, 26), (21, 0)],
  [(2, 84), (4, 31), (6, 67), (22, 0)],
  [(3, 47), (5, 59), (7, 13), (23, 0)]]

/-- The shift of an entry for a lifting size: floor(s x Z / 96), but the entries of value 1 in column 6 stay 1 (R229). -/
def liftShift (z col s : Nat) : Nat := if col = 6 && s = 1 then 1 else s * z / 96

/-- Parity check `j` of a base row over a codeword whose bit `i` is bit `i` of a number (R229). -/
def checkParity (z : Nat) (row : List (Nat × Nat)) (cw j : Nat) : Bool :=
  row.foldl (fun x (p : Nat × Nat) => x != bitAt cw (p.1 * z + (j + liftShift z p.1 p.2) % z)) false

/-- The syndrome over the first `m` base rows is zero (R229, R238). -/
def syndromeZero (z m cw : Nat) : Bool :=
  (baseMatrix.take m).all (fun row => (List.range z).all (fun j => !checkParity z row cw j))

/-- The base rows M of the code that ends at a stage (R229, R231). -/
def stageRows (stage : Nat) : Nat := match stage with | 0 => 3 | 1 => 6 | 2 => 12 | _ => 18

/-- The stage of a column (R231). -/
def columnStage (col : Nat) : Nat := if col < 9 then 0 else if col < 12 then 1 else if col < 18 then 2 else 3

/-- Columns of a stage. -/
def stageColumns (stage : Nat) : Nat := match stage with | 0 => 9 | 1 => 3 | 2 => 6 | _ => 6

/-- A transmission sends a stage of each block (R231): a first transmission stages 0 to s(RATE), increment i stage
s(RATE) + i, or all stages where that is above 3. -/
def sendsStage (rate inc stage : Nat) : Bool :=
  if inc = 0 then stage ≤ rate else if rate + inc ≤ 3 then stage == rate + inc else true

/-- An increment is a repeat of the rate-1/4 codeword (R231). -/
def lrRepeat (rate inc : Nat) : Bool := inc != 0 && 3 < rate + inc

/-- The last stage of the code that the transmissions up to an increment form (R231, R240). -/
def combinedStage (rate inc : Nat) : Nat := min 3 (rate + inc)

/-- Place a transmission's LLRs at their bit positions: 0 where nothing was sent, +31 at filler bits (R231). -/
def placeLlrs (ncls rate inc filler : Nat) (n : Nat) (llrs : List Int) : List Int :=
  let z := lrZ ncls
  let go := (List.range n).foldl
    (fun (acc : List Int × List Int) i =>
      if !sendsStage rate inc (columnStage (i / z)) then (0 :: acc.1, acc.2)
      else if lrK ncls - filler ≤ i && i < lrK ncls then (31 :: acc.1, acc.2)
      else
        match acc.2 with
        | [] => (0 :: acc.1, [])
        | x :: t => (max (-31) (min 31 x) :: acc.1, t)) ([], llrs)
  go.1.reverse

/-- LLRs added position by position, saturating at 31 in magnitude (R238, R240). -/
def addLlrs (a b : List Int) : List Int := (a.zip b).map (fun p => max (-31) (min 31 (p.1 + p.2)))

/-! ## Reed-Solomon framing (R232) -/

/-- Codewords D of a frame (R232). -/
def rsWords (len : Nat) : Nat := min 16 ((len + 4 + 15) / 16)
/-- Message octets k of each (R232). -/
def rsK (len : Nat) : Nat := (len + 4 + rsWords len - 1) / rsWords len

/-! ## Airtime (R224) -/

/-- Columns a transmission sends of each block (R231). -/
def sentColumns (rate inc : Nat) : Nat :=
  [0, 1, 2, 3].foldl (fun n st => if sendsStage rate inc st then n + stageColumns st else n) 0

/-- Data symbols Nd of a Long Reach frame (R228, R231, R232). -/
def lrNd (fec : Bool) (ncls rate inc len : Nat) : Nat :=
  if fec then 8 * rsWords len * (rsK len + 16)
  else
    lrBlocks ncls len * sentColumns rate inc * lrZ ncls
      - (if sendsStage rate inc 0 then lrFiller ncls len else 0)

/-- Default preamble of a Long Reach mode in symbols (R216). -/
def lrPreamble (m : Nat) : Nat := match m with | 0x52 => 96 | 0x53 => 128 | _ => 64

/-- Symbols of a Long Reach frame with a preamble of P symbols (R224). -/
def lrSymbols (p nd : Nat) : Nat := p + 32 + 144 + nd + 4 * ((nd - 1) / 64)

/-- Airtime in ticks of a frame: Long Reach (R224), SUN FSK with a 2-octet SFD and PHR (as example 9.1 counts it), wake
telegrams (R184); a mode whose frame another standard lays out has a free airtime. -/
def airtimeTicks (m pre inc rate ncls : Nat) (fec : Bool) (len : Nat) : Nat :=
  if modeLr m then
    symbolTicks m (lrSymbols (if pre = 0 then lrPreamble m else 16 * pre) (lrNd fec ncls rate inc len))
  else if modeFsk m then (((if pre = 0 then 8 else pre) + 4 + len) * 8 * 40000000 + fskBitRate m - 1) / fskBitRate m
  else if m == 0x58 then 1120000
  else if m == 0x59 then 280000
  else Config.airtime m len

/-- Ticks from a frame's first symbol to its stamp point (R316, R319); free where another standard lays out the
preamble and sync. -/
def stampTicks (m pre : Nat) : Nat :=
  if modeLr m then symbolTicks m ((if pre = 0 then lrPreamble m else 16 * pre) + 32)
  else if modeFsk m then (((if pre = 0 then 8 else pre) + 2) * 8 * 40000000 + fskBitRate m - 1) / fskBitRate m
  else Config.stampPoint m

/-! ## Time and link-layer channels of LE (R273) -/

/-- The LE channel k of a frequency in 5 Hz units: 2,402 + 2 k MHz (R273). -/
def leChannel (f : Nat) : Option Nat :=
  if 480400000 ≤ f && (f - 480400000) % 400000 == 0 && (f - 480400000) / 400000 < 40
  then some ((f - 480400000) / 400000) else none

end Sys2Proof.Machine
end

