-- ==== Sys2Proof/Machine/Rlr.lean ====
section
/-!
DEFINITION. The regulatory lock record (R415-R417): its 544 bytes, when a copy is intact, merging, and what the radio
asks of it.
-/

namespace Sys2Proof.Machine

/-- The frequency range of a chain in 5 Hz units (R160). -/
def chainRange (c : Nat) : Nat × Nat := if c = 0 then (30000000, 200000000) else (472000000, 500000000)

/-- A frequency lies in a chain's range. -/
def inChainRange (c f : Nat) : Bool := (chainRange c).1 ≤ f && f ≤ (chainRange c).2

/-- A band record from its 64 bytes (R415). -/
def RlrBand.parse (b : List Byte) : RlrBand :=
  let f := byteAt b 0
  { valid := bitAt f 0, chain := bitsOf f 1 1, lbt := bitAt f 2, maxpwr := signedOf 8 (byteAt b 1),
    thr := signedOf 8 (byteAt b 2), ch0 := bitsOf (leAt b 4 4) 0 30, space := bitsOf (leAt b 8 4) 0 30,
    nch := leAt b 12 2, listen := leAt b 14 2, limit := bitsOf (leAt b 16 4) 0 22, mask := leNat ((b.drop 32).take 32) }

/-- The 64 bytes of a band record; an invalid band is all zero (R415). -/
def RlrBand.encode (b : RlrBand) : List Byte :=
  if b.valid then
    [Byte.ofN (1 + 2 * b.chain + 4 * b2n b.lbt), Byte.ofN (ofSigned 8 b.maxpwr), Byte.ofN (ofSigned 8 b.thr), 0]
    ++ leBytes 4 b.ch0 ++ leBytes 4 b.space ++ leBytes 2 b.nch ++ leBytes 2 b.listen ++ leBytes 4 b.limit
    ++ leBytes 12 0 ++ leBytes 32 b.mask
  else leBytes 64 0

/-- The rules of a band record (R415). -/
def RlrBand.ok (raw : List Byte) : Bool :=
  let b := RlrBand.parse raw
  if b.valid then
    raw == b.encode && b.space != 0 && 1 ≤ b.nch && b.nch ≤ 256
    && (if b.lbt then 64 ≤ b.listen else b.listen == 0) && b.limit ≤ 3600000
    && (256 ≤ b.nch || b.mask < 2 ^ b.nch)
    && inChainRange b.chain b.ch0 && inChainRange b.chain (b.ch0 + (b.nch - 1) * b.space)
  else allZero raw

/-- The record of a 544-byte copy (R415). -/
def RlrRecord.parse (p : List Byte) : RlrRecord :=
  { gen := leAt p 8 4, maker := leAt p 12 4,
    bands := (List.range 8).map (fun k => RlrBand.parse ((p.drop (32 + 64 * k)).take 64)) }

/-- The copy's bytes (R415). -/
def RlrRecord.encode (r : RlrRecord) : List Byte :=
  let head := [0x52, 0x4C, 0x52, 0x31] ++ leBytes 2 0x0100 ++ leBytes 2 0 ++ leBytes 4 r.gen ++ leBytes 4 r.maker ++ leBytes 12 0
  let body := (r.bands.map RlrBand.encode).flatten
  head ++ leBytes 4 (crc32c (head ++ body)) ++ body

/-- A copy breaks none of the rules beside its GEN and CRC (R415). -/
def rlrForm (p : List Byte) : Bool :=
  p.length == 544 && p.take 4 == [0x52, 0x4C, 0x52, 0x31] && leAt p 4 2 == 0x0100 && leAt p 6 2 == 0
  && allZero ((p.drop 16).take 12)
  && (List.range 8).all (fun k => RlrBand.ok ((p.drop (32 + 64 * k)).take 64))

/-- A copy is intact (R415). -/
def rlrIntact (p : List Byte) : Bool := rlrForm p && leAt p 28 4 == crc32c (p.take 28 ++ p.drop 32)

/-- Two bands merged into the more restrictive one (R416). -/
def RlrBand.merge (a b : RlrBand) : RlrBand :=
  if !a.valid || !b.valid || a.chain != b.chain || a.ch0 != b.ch0 || a.space != b.space || a.nch != b.nch then {}
  else
    { a with maxpwr := min a.maxpwr b.maxpwr, thr := min a.thr b.thr, lbt := a.lbt || b.lbt,
             listen := max a.listen b.listen, mask := a.mask &&& b.mask,
             limit := if a.limit = 0 then b.limit else if b.limit = 0 then a.limit else min a.limit b.limit }

/-- Two records merged, the first the lower-numbered copy (R416). -/
def RlrRecord.merge (a b : RlrRecord) : RlrRecord :=
  { gen := max a.gen b.gen, maker := if a.gen < b.gen then b.maker else a.maker,
    bands := (a.bands.zip b.bands).map (fun p => p.1.merge p.2) }

/-- A record is at least as restrictive as another (R417). -/
def RlrRecord.tightens (n c : RlrRecord) : Bool := (n.merge c).bands == n.bands

/-- The band contains a frequency (R415). -/
def RlrBand.contains (b : RlrBand) (f : Nat) : Bool :=
  b.valid && b.ch0 ≤ f && f ≤ b.ch0 + (b.nch - 1) * b.space

/-- The frequency is a permitted channel centre of the band (R415). -/
def RlrBand.permits (b : RlrBand) (f : Nat) : Bool :=
  (f - b.ch0) % b.space == 0 && bitAt b.mask ((f - b.ch0) / b.space)

/-- Band `k` of the record in force. -/
def State.rlrBand (s : State) (k : Nat) : RlrBand :=
  match s.rf.rlr with
  | none => {}
  | some r => (r.bands[k]?).getD {}

/-- The bands of a chain that contain a frequency (R177). -/
def State.bandsOf (s : State) (chain f : Nat) : List Nat :=
  (List.range 8).filter (fun k => (s.rlrBand k).contains f && (s.rlrBand k).chain == chain)

end Sys2Proof.Machine
end

