-- ==== Sys2Proof/Machine/Chain.lean ====
section
/-!
DEFINITION. The radio chains (R160-R176), calibration (R172, R173), ramp tables (R164, R165), the duty ledger
(R178-R180), the wake receiver (R182-R184), and the radio's host commands (R192).
-/

namespace Sys2Proof.Machine

/-! ## Access -/

/-- A chain's state. -/
def State.chain (s : State) (c : Chain) : ChainState := match c with | .s => s.rf.chS | .t => s.rf.chT

/-- Set a chain's state. -/
def State.setChain (s : State) (c : Chain) (x : ChainState) : State :=
  match c with
  | .s => { s with rf := { s.rf with chS := x } }
  | .t => { s with rf := { s.rf with chT := x } }

/-- A chain's part of the always-on store (R186). -/
def State.store (s : State) (c : Chain) : ChainStore := match c with | .s => s.rf.storeS | .t => s.rf.storeT

/-- Set a chain's part of the always-on store. -/
def State.setStore (s : State) (c : Chain) (x : ChainStore) : State :=
  match c with
  | .s => { s with rf := { s.rf with storeS := x } }
  | .t => { s with rf := { s.rf with storeT := x } }

/-- The chain of a number. -/
def chainOf (n : Nat) : Chain := if n = 0 then .s else .t

/-- A chain's power domain. -/
def chainDomain (c : Chain) : Domain := match c with | .s => .rfs | .t => .rft

/-- A chain's state code (R166). -/
def State.chState (s : State) (c : Chain) : Nat := s.fld (F.rfsStatState c)

/-- Set a chain's state code. RSSI reads 0x8000 outside RX (R188). -/
def State.setChState (s : State) (c : Chain) (n : Nat) : State :=
  let s := s.setFld (F.rfsStatState c) n
  if n = 4 then s else s.setFld (F.rfsRssiLevel c) 0x8000

/-- Show the channel loop's frequency, C included (R161, R188). -/
def State.showFreq (s : State) (c : Chain) : State :=
  if s.flag (F.rfsStatChlock c) then
    s.setFld (F.rfsFreqFreq c) (ofSigned 30 ((s.chain c).rxFreq + (s.chain c).carrier))
  else s.setFld (F.rfsFreqFreq c) 0

/-- Tune the channel loop to a nominal frequency; C returns to 0 (R171). -/
def State.tune (s : State) (c : Chain) (f : Nat) : State :=
  (s.setChain c { s.chain c with rxFreq := f, carrier := 0 }).showFreq c

/-- What a chain's control registers take from the always-on store when PD_COM powers up: the staged entries, SUM,
TEMP, CALVALID, and CALDUE while the store holds no FULL (R165, R173, R187). -/
def State.loadStore (s : State) (c : Chain) : State :=
  let x := s.store c
  let s := (x.ramp.zip (List.range 32)).foldl
    (fun s (p : (Nat × Nat) × Nat) => (s.setFld (F.rfsRampAmp c p.2) p.1.1).setFld (F.rfsRampDwell c p.2) p.1.2) s
  let s := s.setFld (F.rfsRampctlSum c) (x.ramp.foldl (fun n p => n + p.2) 0)
  let s := (s.setFld (F.rfsStatCalvalid c) (b2n x.full.isSome)).setFld (F.rfsStatCaldue c) (b2n x.full.isNone)
  if x.full.isSome then s.setFld (F.rfsCalTemp c) (ofSigned 8 x.temp) else s

/-- The mode controller switches a chain's domain on: OFF to STANDBY (R166). -/
def State.chainOn (s : State) (c : Chain) : State := if s.chState c = 0 then s.setChState c 1 else s

/-- A chain's domain is switched off: any state to OFF, both loops unlocked (R166). -/
def State.chainOff (s : State) (c : Chain) : State :=
  let s := s.setChState c 0
  let s := ((s.lower (F.rfsStatChlock c)).lower (F.rfsStatCaplock c)).lower (F.rfsStatBlank c)
  let s := (s.setFld (F.rfsFreqFreq c) 0).setFld (F.rfsCapfFreq c) 0
  let x := s.chain c
  s.setChain c { ({} : ChainState) with binBands := x.binBands, calHost := x.calHost }

/-! ## Locking (R166) -/

/-- CHANNEL_LOCK (R166): LOCKING to READY. -/
def execChannelLock (c : Chain) (s : State) : Out :=
  .next (
    if s.chState c = 2 then ((s.setChState c 3).raise (F.rfsStatChlock c)).showFreq c else s)

/-- LOCKFAIL (R166): LOCKING to STANDBY with LOCKFAIL. -/
def execLockfail (c : Chain) (s : State) : Out :=
  .next (
    if s.chState c = 2 then (s.setChState c 1).raise (F.rfsIntstatLockfail c) else s)

/-! ## Ramp tables (R164, R165) -/

/-- The staged entries: AMP and DWELL. -/
def State.stagedRamp (s : State) (c : Chain) : List (Nat × Nat) :=
  (List.range 32).map (fun k => (s.fld (F.rfsRampAmp c k), s.fld (F.rfsRampDwell c k)))

/-- SUM of the dwells. -/
def rampSum (l : List (Nat × Nat)) : Nat := l.foldl (fun n p => n + p.2) 0

/-- The AMP values never decrease along a list. -/
def rising (l : List Nat) : Bool :=
  match l with
  | [] => true
  | [_] => true
  | a :: b :: t => a ≤ b && rising (b :: t)

/-- A table may be committed (R165). -/
def rampOk (l : List (Nat × Nat)) : Bool :=
  0 < rampSum l && rampSum l ≤ 320 && rising ((l.filter (fun p => p.2 != 0)).map Prod.fst)

/-- The ramp's ticks with a prescaler (R164). -/
def rampTicks (l : List (Nat × Nat)) (ps : Nat) : Nat := rampSum l * ps

/-- A write to RAMPCTL (R165). -/
def State.writeRampctl (s : State) (c : Chain) (w : Word) : State :=
  if bitAt w.toNat 31 then
    let l := s.stagedRamp c
    if rampOk l then
      ((s.setStore c { s.store c with ramp := l }).setFld (F.rfsRampctlSum c) (rampSum l)).lower (F.rfsRampctlErr c)
    else (s.raise (F.rfsRampctlErr c)).raise (F.rfsIntstatRamperr c)
  else s

/-- RAMP_COMMIT (R165). -/
def execRampCommit (user : Bool) (c : Chain) (w : Word) (s : State) : Out :=
  guarded user s (if s.comUp then s.writeRampctl c w else s)

/-! ## Calibration (R172, R173) -/

/-- An action that holds a chain and has not begun its work goes back to wait: a FULL holds it back (R256). -/
def State.unclaim (s : State) (c : Chain) : State :=
  match (s.chain c).holder with
  | none => s
  | some n =>
    match Sparse.find? s.lnk.slots n with
    | none => s
    | some x =>
      if x.state = 2 then
        let s := s.setChain c { s.chain c with holder := none, cxReq := false, cxPri := false, tx := none, stamping := false }
        { s with lnk := { s.lnk with
            slots := Sparse.insert s.lnk.slots n { x with state := if x.busy = 0 then 1 else 4, cause := 10 } } }
      else s

/-- Start a FULL: from READY or STANDBY, else refused with RESULT 2. Answers whether it runs. -/
def State.calStart (s : State) (c : Chain) : Bool × State :=
  if s.chState c = 1 || s.chState c = 3 then (true, (s.unclaim c).setChState c 9)
  else (false, s.setFld (F.rfsCalResult c) 2)

/-- A write to CAL (R173, R188). -/
def State.writeCal (s : State) (c : Chain) (w : Word) : State :=
  let s := s.setFld (F.rfsCalAuto c) (bitsOf w.toNat 0 1)
  if bitAt w.toNat 31 then (s.calStart c).2 else s

/-- CAL_START (R172, R173). -/
def execCalStart (user : Bool) (c : Chain) (w : Word) (s : State) : Out :=
  guarded user s (if s.comUp then s.writeCal c w else s)

/-- CAL_DONE (R172): the results go into the always-on store with the committed ramp table, or are discarded. -/
def execCalDone (c : Chain) (inRange : Bool) (temp : Int) (s : State) : Out :=
  .next (
    if s.chState c = 9 then
      let s := (s.setChState c 1).raise (F.rfsIntstatCaldone c)
      let s := (s.lower (F.rfsStatChlock c)).setFld (F.rfsFreqFreq c) 0
      let s :=
        if inRange then
          let (v, s) := s.draw (2 ^ 64)
          let s := s.setStore c { s.store c with full := some v, temp := temp }
          let s := (s.setFld (F.rfsCalTemp c) (ofSigned 8 temp)).setFld (F.rfsCalResult c) 1
          (s.raise (F.rfsStatCalvalid c)).lower (F.rfsStatCaldue c)
        else s.setFld (F.rfsCalResult c) 3
      match (s.chain c).calHost with
      | none => s
      | some o =>
        let s := s.setChain c { s.chain c with calHost := none }
        s.respond o 0x81 .ok (leBytes 4 (readFields (((regAt (A.rfsCal c)).map (fun r => r.1.fields)).getD []) (s.regN (A.rfsCal c))))
    else s)

/-- CALDUE (R173). -/
def execCaldue (c : Chain) (s : State) : Out :=
  .next (if s.comUp then (s.raise (F.rfsStatCaldue c)).raise (F.rfsIntstatCaldue c) else s)

/-! ## Coexistence (R174, R176) -/

/-- The pad function CX_GNT of a chain (R556). -/
def cxGntFunc (c : Chain) : Nat := match c with | .s => 0x06 | .t => 0x0A

/-- CX_GNT after polarity; a signal placed on no pad is not granted (R174, R188). -/
def State.cxGnt (s : State) (c : Chain) : Bool :=
  match s.padWith (cxGntFunc c) with
  | none => false
  | some n => s.evf.high.contains (1 + n) != bitAt (s.fld (F.rfsCoexPol c)) 1

/-- CX_GNT_LOSS (R176): a fall after the sample, in ramp-up, frame or ramp-down. -/
def execCxGntLoss (c : Chain) (s : State) : Out :=
  .next (
    if s.flag (F.rfsCoexEn c) && (s.chain c).granted && 5 ≤ s.chState c && s.chState c ≤ 7 then
      ((s.setChain c { s.chain c with granted := false }).satCount (F.rfsCoexcntLoss c)).raise (F.rfsIntstatGntloss c)
    else s)

/-- PWRDROP (R163): during a frame. -/
def execPwrdrop (c : Chain) (s : State) : Out :=
  .next (
    if 5 ≤ s.chState c && s.chState c ≤ 7 then
      s.setFld (F.rfsTxpwrClamp c) (setBitsOf (s.fld (F.rfsTxpwrClamp c)) 3 1 1)
    else s)

/-! ## The duty ledger (R178-R180) -/

/-- A band's ledger. -/
def State.band (s : State) (b : Nat) : BandLedger := (Sparse.find? s.rf.ledger b).getD {}

/-- Set a band's ledger. -/
def State.setBand (s : State) (b : Nat) (x : BandLedger) : State :=
  { s with rf := { s.rf with ledger := Sparse.insert s.rf.ledger b x } }

/-- W of a band: complete blocks, the current block, and the seed while its count is not zero (R178, R180). -/
def BandLedger.used (x : BandLedger) : Nat :=
  x.blocks.foldl (· + ·) 0 + x.cur + (if x.seedCount = 0 then 0 else x.seed)

/-- A bin ends (R178): it counts once in each band in which a PA was active during it. -/
def State.binEnd (s : State) : State :=
  let bands := s.rf.chS.binBands ++ s.rf.chT.binBands
  let s := bands.eraseDups.foldl (fun s b => s.setBand b { s.band b with cur := min ((s.band b).cur + 1) 10000 }) s
  let carry (x : ChainState) : ChainState :=
    { x with binBands := if x.pa then (match x.tx with | some f => f.bands | none => []) else [] }
  { s with rf := { s.rf with chS := carry s.rf.chS, chT := carry s.rf.chT } }

/-- DUTY_BIN (R178). -/
def execDutyBin (s : State) : Out := .next s.binEnd

/-- A block closes in a band (R178, R180). -/
def BandLedger.close (x : BandLedger) : BandLedger :=
  let n := x.seedCount - 1
  { blocks := (x.cur :: x.blocks).take 360, cur := 0, seed := if n = 0 then 0 else x.seed, seedCount := n }

/-- A block closes in every band. -/
def State.blockClose (s : State) : State :=
  (List.range 8).foldl (fun s b => s.setBand b (s.band b).close) s

/-- DUTY_BLOCK_CLOSE (R178). -/
def execDutyBlockClose (s : State) : Out := .next s.blockClose

/-- Close blocks `n` times. -/
def State.closeBlocks (s : State) (n : Nat) : State :=
  match n with
  | 0 => s
  | n + 1 => s.blockClose.closeBlocks n

/-- CK_REF ticks of a block: 10 s (R178). -/
def blockTicks : Nat := 400000000

/-- On a wake the ledger closes as many blocks as the made-up time has passed; 361 of them clear it (R178). -/
def State.dutyMakeup (s : State) (before after : Nat) : State :=
  s.closeBlocks (min 400 (after / blockTicks - before / blockTicks))

/-- The seeds of R180, once after power is applied: each band with a non-zero L refuses every frame until 361 blocks
have closed. -/
def State.seedLedgers (s : State) : State :=
  if s.rf.seeded then s
  else
    let s := (List.range 8).foldl
      (fun s b =>
        let r := s.rlrBand b
        if r.valid && r.limit != 0 then s.setBand b { s.band b with seed := r.limit, seedCount := 361 } else s) s
    { s with rf := { s.rf with seeded := true } }

/-! ## The wake receiver (R182-R184) -/

/-- The wake receiver runs, and its rate: true for 8 kbit/s (R39, R182). -/
def State.wkrOn (s : State) : Option Bool :=
  if s.mode = 0 then
    (match s.profile with | 0 => none | 2 => some true | _ => some false)
  else if s.mode = 1 then some (s.flag F.wkrCtrlRate)
  else if s.flag F.wkrCtrlEn then some (s.flag F.wkrCtrlRate)
  else none

/-- Bits in which two patterns differ. -/
def bitErrors (a b : Nat) : Nat := popCount 32 (a ^^^ b)

/-- The pattern a telegram matches and its bit errors: node before group 0 before group 1 (R184). -/
def State.wkrMatch (s : State) (pat : Nat) : Option (Nat × Nat) :=
  let tol := s.fld F.wkrCtrlTol
  if s.flag F.wkrCtrlNodeen && bitErrors pat (s.regN A.wkrNodepat) ≤ tol then some (1, bitErrors pat (s.regN A.wkrNodepat))
  else if s.flag F.wkrCtrlG0en && bitErrors pat (s.regN A.wkrGrp0) ≤ tol then some (2, bitErrors pat (s.regN A.wkrGrp0))
  else if s.flag F.wkrCtrlG1en && bitErrors pat (s.regN A.wkrGrp1) ≤ tol then some (3, bitErrors pat (s.regN A.wkrGrp1))
  else none

/-- Ticks of a wake telegram: 56 bits at 8 or 2 kbit/s (R184). -/
def wkrTicks (fast : Bool) : Nat := if fast then 280000 else 1120000

/-- A telegram that ends now overlaps the blanked time, which ends 100 us after the ramp-down (R183). -/
def State.wkrLost (s : State) (fast : Bool) : Bool :=
  s.rf.wkrBlank
  || (match s.rf.wkrPaEnd with | some t => s.tb.now < t + 4000 + wkrTicks fast | none => false)

/-- WAKE_TELEGRAM (R183, R184): the end of a telegram at a rate, its sync matched, with its pattern. -/
def execWakeTelegram (fast : Bool) (pattern : Nat) (s : State) : Out :=
  .next (
    if s.wkrOn != some fast then s
    else if s.wkrLost fast then (s.satCount F.wkrCntBlanked).raise F.wkrIntstatBlanked
    else
      match s.wkrMatch (pattern % 2 ^ 32) with
      | none => s.satCount F.wkrCntNomatch
      | some (k, errs) =>
        let s := ((s.satCount F.wkrCntMatch).setFld F.wkrStatLast k).setFld F.wkrStatErrs errs
        let s := s.raise (if k = 1 then F.wkrIntstatNode else if k = 2 then F.wkrIntstatGrp0 else F.wkrIntstatGrp1)
        s.evPulse (0x1C0 + (k - 1)))

/-- WKR_FLOOR_ESTIMATE (R184): the floor moves by at most 1 dB, and takes the first estimate whole. -/
def execWkrFloorEstimate (level : Int) (s : State) : Out :=
  .next (
    if s.wkrOn.isNone then s
    else
      let old := s.fld F.wkrThrFloor
      let cur := signedOf 8 old
      let new := if old = 0x80 then level else if cur < level then cur + 1 else if level < cur then cur - 1 else cur
      s.setFld F.wkrThrFloor (ofSigned 8 new))

/-- WKR_BLANKING_END (R183): 100 us after a chain S ramp-down ended, with no further ramp-up. -/
def execWkrBlankingEnd (s : State) : Out :=
  .next (
    if !s.rf.chS.pa && (match s.rf.wkrPaEnd with | some t => t + 4000 ≤ s.tb.now | none => true)
    then { s with rf := { s.rf with wkrBlank := false } } else s)

/-! ## Host commands (R192) -/

/-- RLRLIM of a band (R188). -/
def State.rlrLim (s : State) (b : Nat) : Nat :=
  let r := s.rlrBand b
  2 ^ 31 * b2n r.valid + 2 ^ 30 * b2n r.lbt + 2 ^ 29 * r.chain + ofSigned 8 r.maxpwr

/-- RF_STATUS's handler (R192). RSSI is a measured value while the chain is in RX. -/
def handleRfStatus : Handler := fun _ p s =>
  if 1 < byteAt p 0 || !allZero (p.drop 1) then (.now .reservedValue [], s)
  else
    let c := chainOf (byteAt p 0)
    let s := s.setFld (F.rfsStatGnt c) (b2n (s.cxGnt c))
    let s := if s.chState c = 4 then (let (v, s) := s.draw (2 ^ 16); s.setFld (F.rfsRssiLevel c) v) else s
    (.now .ok (([A.rfsStat c, A.rfsFreq c, A.rfsAfc c, A.rfsTxpwr c, A.rfsGate c, A.rfsRssi c, A.rfsCal c].map
      (fun a => leBytes 4 (s.regN a))).flatten), s)

/-- RF_STATUS (R192). -/
def execRfStatus (o : Origin) (p : List Byte) (s : State) : Out :=
  .next (hostCommand 0x80 (· == 4) handleRfStatus o p s)

/-- RF_CAL's handler (R192): BUSY with CAL where R173 refuses the FULL, else answered at its end. -/
def handleRfCal : Handler := fun o p s =>
  if 1 < byteAt p 0 || !allZero (p.drop 1) then (.now .reservedValue [], s)
  else
    let c := chainOf (byteAt p 0)
    match s.calStart c with
    | (true, s) => (.later, s.setChain c { s.chain c with calHost := some o })
    | (false, s) => (.now .busy (leBytes 4 (s.regN (A.rfsCal c))), s)

/-- RF_CAL (R192). -/
def execRfCal (o : Origin) (p : List Byte) (s : State) : Out :=
  .next (hostCommand 0x81 (· == 4) handleRfCal o p s)

/-- RF_DUTY's handler (R192). -/
def handleRfDuty : Handler := fun _ p s =>
  if 7 < byteAt p 0 || !allZero (p.drop 1) then (.now .reservedValue [], s)
  else
    let b := byteAt p 0
    (.now .ok (leBytes 4 (s.rlrLim b) ++ leBytes 4 (s.rlrBand b).limit ++ leBytes 4 ((s.band b).used % 2 ^ 22)), s)

/-- RF_DUTY (R192). -/
def execRfDuty (o : Origin) (p : List Byte) (s : State) : Out :=
  .next (hostCommand 0x82 (· == 4) handleRfDuty o p s)

/-- WKR_SET's handler (R192). A reserved encoding fails with RESERVED_VALUE. -/
def handleWkrSet : Handler := fun _ p s =>
  let ctrl := leAt p 0 4
  if 3 < bitsOf ctrl 4 3 || ctrl &&& 0xFFFF1C8C != 0 then (.now .reservedValue [], s)
  else
    (.now .ok [], (((s.setRegN A.wkrCtrl ctrl).setRegN A.wkrNodepat (leAt p 4 4)).setRegN A.wkrGrp0 (leAt p 8 4)).setRegN
      A.wkrGrp1 (leAt p 12 4))

/-- WKR_SET (R192). -/
def execWkrSet (o : Origin) (p : List Byte) (s : State) : Out :=
  .next (hostCommand 0x83 (· == 16) handleWkrSet o p s)

end Sys2Proof.Machine
end

