-- ==== Sys2Proof/Machine/Capture.lean ====
section
/-!
DEFINITION. Wideband capture (R193-R215): gain, slices, detection, the demodulator contexts and their assignment.
-/

namespace Sys2Proof.Machine

/-! ## Access -/

/-- A context; an unlisted one is OFF (R201). -/
def State.ctx (s : State) (n : Nat) : Ctx := (Sparse.find? s.cap.ctxs n).getD {}

/-- Set a context. -/
def State.setCtx (s : State) (n : Nat) (x : Ctx) : State :=
  { s with cap := { s.cap with ctxs := Sparse.insert s.cap.ctxs n x } }

/-- A band's state. -/
def State.bandSt (s : State) (b : Nat) : BandState := if b = 0 then s.cap.band0 else s.cap.band1

/-- Set a band's state. -/
def State.setBandSt (s : State) (b : Nat) (x : BandState) : State :=
  if b = 0 then { s with cap := { s.cap with band0 := x } } else { s with cap := { s.cap with band1 := x } }

/-- The contexts by number (R201). -/
def allCtx : List Nat := List.range 80

/-- Counter `k` of context `n` rises (R215). -/
def State.ctxCount (s : State) (n k : Nat) : State := s.count (A.dmdCtr (8 * n + k))

/-- A DSP tile's setting for context `n`'s tile (R208). -/
def State.dspCfg (s : State) (n i : Nat) : Nat := s.cfg (n / 20) (n % 20 / 2) 0 i

/-- CTXCFG of a context (R208). -/
def State.ctxCfg (s : State) (n : Nat) : Nat := s.dspCfg n (0x10 + n % 2)

/-- WIDE of a context (R208). -/
def State.ctxWide (s : State) (n : Nat) : Bool := bitAt (s.ctxCfg n) 31

/-- A context's POOL has a slice's bit (R208). -/
def State.ctxPool (s : State) (n slice : Nat) : Bool :=
  bitAt (s.dspCfg n (0x20 + 8 * (n % 2) + slice / 32)) (slice % 32)

/-- A mode is in the MODESET of a context's tile (R208). -/
def State.ctxModes (s : State) (n mode : Nat) : Bool :=
  mode != 0 && [0, 8, 16, 24].any (fun k => bitsOf (s.dspCfg n 0) k 8 == mode)

/-- The stamp unit bound to a context (R203, R209). -/
def State.stampUnit (s : State) (n : Nat) : Option Nat :=
  (List.range 24).find? (fun u => let x := s.cfg 7 22 0 (0x20 + u); bitAt x 7 && bitsOf x 0 7 == n)

/-- The index and the word of a mode's MODEENT entry (R209). -/
def State.modeEnt (s : State) (mode : Nat) : Option (Nat × Nat) :=
  ((List.range 16).map (fun i => (i, s.cfg 7 22 0 (0x40 + i)))).find? (fun p => mode != 0 && bitsOf p.2 24 8 == mode)

/-- The chain whose narrow path a context is bound to (R28, R209), where the NARROW setting is the Board's. -/
def State.narrowChain (s : State) (n : Nat) : Option Chain :=
  if (s.ctx n).state != 5 then none
  else if s.narrowCtx .s == n then some .s
  else if s.narrowCtx .t == n then some .t
  else none

/-- CAPPLAN of a band (R209). -/
def State.capPlan (s : State) (b : Nat) : Nat := s.cfg 7 22 0 b

/-- The slice words of the channelizer tiles that serve a band (R196, R197). -/
def State.sliceWords (s : State) (b : Nat) : List Nat :=
  ((List.range 8).map (fun k =>
    let c := k / 2
    let t := 14 + k % 2
    if s.cfg c t 0 0 == b then ((List.range 40).map (fun i => s.cfg c t 1 i)).filter (fun w => bitAt w 63) else [])).flatten

/-- The word of a slice of a band (R197). -/
def State.slice (s : State) (b num : Nat) : Option Nat := (s.sliceWords b).find? (fun w => bitsOf w 55 8 == num)

/-- The class and detection rank of a mode on a slice: CLASSA or CLASSB (R197). -/
def sliceClass (w mode : Nat) : Option Nat :=
  if mode = 0 then none
  else if bitsOf w 43 8 = mode then some (bitsOf w 33 2)
  else if bitsOf w 35 8 = mode then some (bitsOf w 31 2)
  else none

/-! ## Flags of a band -/

/-- The band's wide path runs (R193, R212). -/
def State.bandRuns (s : State) (b : Nat) : Bool := s.bit A.chzStat b

/-- The band's samples are valid (R194, R212). -/
def State.bandValid (s : State) (b : Nat) : Bool := s.bit A.chzStat (4 + b)

/-! ## Frames not served (R207) -/

/-- A band counter rises, and UNSERVED. -/
def State.unserved (s : State) (b reason : Nat) : State :=
  (s.count (if b = 0 then A.dmdUnsrvs (reason - 1) else A.dmdUnsrvt (reason - 1))).raise F.dmdIntstatUnserved

/-- A wide-path context ends its frame: FREE, or DRAINED where a drain takes it (R52, R201). -/
def State.ctxFree (s : State) (n : Nat) : State :=
  s.setCtx n { s.ctx n with state := if s.cap.draining.contains n then 4 else 0, waiting := [] }

/-- The frame numbered `f` ends undelivered: nothing of it leaves the decoders. -/
def State.dropFrame (s : State) (f : Nat) : State :=
  { s with dec := { s.dec with frames := Sparse.erase s.dec.frames f } }

/-- A frame on a context is abandoned for a reason of R207. -/
def State.abandonCtx (s : State) (n reason : Nat) : State :=
  let x := s.ctx n
  let s := (s.ctxFree n).dropFrame x.frame
  let s := if reason = 4 then (s.ctxCount n 4).raise F.dmdIntstatEvict else s.ctxCount n 5
  s.unserved x.band reason

/-- Is a context acquiring or receiving a wide-path frame (R201). -/
def State.ctxBusy (s : State) (n : Nat) : Bool := (s.ctx n).state == 1 || (s.ctx n).state == 2

/-- Every frame of a band in a context, and every waiting candidate, is abandoned for a reason (R194, R207). -/
def State.cutBand (s : State) (b reason : Nat) : State :=
  let s := (allCtx.filter (fun n => s.ctxBusy n && (s.ctx n).band == b)).foldl (fun s n => s.abandonCtx n reason) s
  let x := s.bandSt b
  let s := (x.queue ++ x.fresh).foldl (fun s _ => s.unserved b reason) s
  s.setBandSt b { x with queue := [], fresh := [] }

/-- The samples of a band become invalid (R194). -/
def State.bandInvalid (s : State) (b reason : Nat) : State :=
  if s.bandValid b then (s.clearBit A.chzStat (4 + b)).cutBand b reason else s

/-! ## Gain (R195) -/

/-- The fall of G for an ATTACK code (R212). -/
def attackStep (code : Nat) : Nat := 3 * (code + 1)

/-- AGC_ATTACK (R195): the peak of one microsecond, in dB below full scale, and whether a sample clipped. -/
def execAgcAttack (b peak : Nat) (clip : Bool) (s : State) : Out :=
  .next (
    if b < 2 && s.bandRuns b then
      let s := s.setFld (F.chzGainPeak b) (min peak 255)
      let s := if clip then
          (s.count (A.chzClipcnt b)).raise (if b = 0 then F.chzIntstatClips else F.chzIntstatClipt) else s
      if s.flag (F.chzAgcFix b) then s.setFld (F.chzGainG b) (s.fld (F.chzAgcGfix b))
      else if peak < 3 && s.fld (F.chzGainG b) != 0 then
        let s := s.setFld (F.chzGainG b) (s.fld (F.chzGainG b) - attackStep (s.fld (F.chzAgcAttack b)))
        let s := s.count (A.chzCutcnt b)
        (allCtx.filter (fun n => s.ctxBusy n && (s.ctx n).band == b && !(s.ctx n).cut)).foldl
          (fun s n => (s.setCtx n { s.ctx n with cut := true }).ctxCount n 6) s
      else s
    else s)

/-- AGC_DECAY (R195): a DECAY period has ended with the peak below -15 dBFS throughout. -/
def execAgcDecay (b : Nat) (s : State) : Out :=
  .next (
    if b < 2 && s.bandRuns b && !s.flag (F.chzAgcFix b) && s.fld (F.chzGainG b) < s.fld (F.chzAgcGmax b)
    then s.setFld (F.chzGainG b) (s.fld (F.chzGainG b) + 1) else s)

/-! ## Sample validity (R194) -/

/-- SAMPLE_OVERFLOW (R27, R194): a block of a band is discarded. -/
def execSampleOverflow (b : Nat) (s : State) : Out :=
  .next (
    if b < 2 && s.bandRuns b then
      let s := (s.count (A.chzOvfcnt b)).raise (if b = 0 then F.chzIntstatOvfs else F.chzIntstatOvft)
      (s.setBandSt b { s.bandSt b with lastOvf := some s.tb.now }).bandInvalid b 8
    else s)

/-- The capture loop of a chain loses lock (R161, R194): while its wide path runs, the band's samples become invalid
through loss of lock. -/
def State.capLost (s : State) (c : Chain) : State :=
  let s := (s.lower (F.rfsStatCaplock c)).setFld (F.rfsCapfFreq c) 0
  if s.bandRuns c.idx then
    (s.raise (if c = .s then F.chzIntstatCaplosss else F.chzIntstatCaplosst)).bandInvalid c.idx 7
  else s

/-- CAPLOCK_LOSS (R161). -/
def execCaplockLoss (c : Chain) (s : State) : Out :=
  .next (if s.flag (F.rfsStatCaplock c) then s.capLost c else s)

/-- 20 us without a discarded block have passed (R194). -/
def State.noOverflow (s : State) (b : Nat) : Bool :=
  match (s.bandSt b).lastOvf with
  | none => true
  | some t => t + 800 ≤ s.tb.now

/-- SAMPLE_INVALID (R194): a condition of validity does not hold. -/
def execSampleInvalid (b : Nat) (s : State) : Out :=
  .next (
    if b < 2 then
      if !s.flag (F.rfsStatCaplock (chainOf b)) then s.bandInvalid b 7
      else if !s.noOverflow b then s.bandInvalid b 8
      else s
    else s)

/-- SAMPLES_VALID (R194): the capture loop is locked at the centre of the capture plan again, and no block has been
discarded in 20 us. -/
def execSamplesValid (b : Nat) (s : State) : Out :=
  .next (
    if b < 2 && s.bandRuns b && s.noOverflow b && s.flag F.pmuStatXrefrdy then
      let c := chainOf b
      ((s.raise (F.rfsStatCaplock c)).setFld (F.rfsCapfFreq c) (bitsOf (s.capPlan b) 0 30)).setBit A.chzStat (4 + b)
    else s)

/-! ## Detection (R199) -/

/-- HOLD of a mode in ticks (R209). -/
def State.holdTicks (s : State) (mode : Nat) : Nat :=
  match s.modeEnt mode with
  | none => 0
  | some p => symbolTicks mode (bitsOf p.2 16 8)

/-- Two slices of a band lie less than one slice width apart, the width of the first (R199). -/
def State.near (s : State) (b x y : Nat) : Bool :=
  match s.slice b x, s.slice b y with
  | some u, some v =>
    x == y || 5 * (signedOf 25 u - signedOf 25 v).natAbs < widthHz (bitsOf u 51 4)
  | _, _ => x == y

/-- A firing joins a candidate: same mode, near slices, within 2 symbol times (R199). -/
def State.merges (s : State) (b slice mode : Nat) (c : Candidate) : Bool :=
  c.mode == mode && s.near b slice c.slice && s.tb.now ≤ c.at_ + symbolTicks mode 2

/-- The candidate takes the slice with the highest level, and the class its mode has there. -/
def Candidate.join (c : Candidate) (slice cls : Nat) (level : Int) : Candidate :=
  if c.level < level then { c with slice := slice, cls := cls, level := level } else c

/-- A candidate that became a frame within 2 symbol times takes the firing in (R199). -/
def State.mergesFrame (s : State) (b slice mode n : Nat) : Bool :=
  let x := s.ctx n
  s.ctxBusy n && x.band == b && x.mode == mode && s.near b slice x.slice && s.tb.now ≤ x.det + symbolTicks mode 2

/-- A frame of the same PHY family is on the slice, and the firing does not exceed it by more than CAPTHR (R199). -/
def State.shadowed (s : State) (b slice mode : Nat) (level : Int) : Bool :=
  let thr : Int := match s.modeEnt mode with | none => 0 | some p => 2 * (bitsOf p.2 0 5 : Int)
  allCtx.any (fun n =>
    let x := s.ctx n
    s.ctxBusy n && x.band == b && x.slice == slice && modeFamily x.mode == modeFamily mode && level ≤ x.level + thr)

/-- DETECTOR_FIRE (R199): band, slice, mode, level in 0.5 dBm units. -/
def execDetectorFire (b slice mode : Nat) (level : Int) (s : State) : Out :=
  .next (
    if !(b < 2 && s.bandRuns b && s.bandValid b) || s.flag (F.rfsStatBlank (chainOf b)) then s
    else
      match (s.slice b slice).bind (fun w => sliceClass w mode) with
      | none => s
      | some cls =>
        let x := s.bandSt b
        let m := s.merges b slice mode
        if (x.fresh ++ x.queue).any m then
          s.setBandSt b { x with
            fresh := x.fresh.map (fun c => if m c then c.join slice cls level else c),
            queue := x.queue.map (fun c => if m c then c.join slice cls level else c) }
        else if allCtx.any (s.mergesFrame b slice mode) then s
        else if s.shadowed b slice mode level then s
        else
          let entry := match s.modeEnt mode with | none => 16 | some p => p.1
          let c : Candidate :=
            { slice := slice, mode := mode, cls := cls, level := level, at_ := s.tb.now, entry := entry }
          (s.setBandSt b { x with fresh := x.fresh ++ [c] }).count (A.chzDetcnt b))

/-! ## Assignment (R202-R205) -/

/-- The order of R204: class descending, then detection time, slice and mode entry ascending. -/
def Candidate.before (a b : Candidate) : Bool :=
  b.cls < a.cls || (a.cls == b.cls && (a.at_ < b.at_ || (a.at_ == b.at_ &&
    (a.slice < b.slice || (a.slice == b.slice && a.entry < b.entry)))))

/-- Insert a candidate in the order of R204. -/
def rankIn (l : List Candidate) (c : Candidate) : List Candidate :=
  match l with
  | [] => [c]
  | d :: t => if c.before d then c :: d :: t else d :: rankIn t c

/-- Everything but FREE of R202: WIDE, BAND, POOL, MODESET. -/
def State.suits (s : State) (b : Nat) (c : Candidate) (n : Nat) : Bool :=
  s.ctxWide n && bitsOf (s.ctxCfg n) 0 1 == b && s.ctxPool n c.slice && s.ctxModes n c.mode

/-- The context of R204's pick. -/
def State.pick (s : State) (c : Candidate) (e : List Nat) : Option Nat :=
  let pref := match s.modeEnt c.mode with | none => false | some p => bitAt p.2 15
  match e.find? (fun n => (s.stampUnit n).isSome == pref) with
  | some n => some n
  | none => e.head?

/-- A candidate is assigned to a context (R201, R204). -/
def State.assign (s : State) (b : Nat) (c : Candidate) (n : Nat) : State :=
  let s := s.setCtx n
    { state := 1, band := b, cls := c.cls, slice := c.slice, mode := c.mode, level := c.level, det := c.at_,
      assigned := s.tb.now, frame := s.cap.nextFrame }
  { s with cap := { s.cap with nextFrame := s.cap.nextFrame + 1 } }.ctxCount n 0

/-- The victim of R204: the lowest class, then the latest assignment, then the highest context number. -/
def State.victim (s : State) (b : Nat) (c : Candidate) : Option Nat :=
  (allCtx.filter (fun n => s.ctxBusy n && s.suits b c n && (s.ctx n).cls < c.cls)).foldl
    (fun best n =>
      match best with
      | none => some n
      | some m =>
        let x := s.ctx n
        let y := s.ctx m
        if x.cls < y.cls || (x.cls == y.cls && y.assigned ≤ x.assigned) then some n else some m) none

/-- A new candidate is queued, or the lowest-ranked of them is dropped with QFULL (R205). -/
def State.queueCand (s : State) (b : Nat) (c : Candidate) : State :=
  let x := s.bandSt b
  let q := rankIn x.queue c
  if q.length ≤ 16 then s.setBandSt b { x with queue := q }
  else ((s.setBandSt b { x with queue := q.take 16 }).unserved b 3).raise F.dmdIntstatQfull

/-- The reason with which a waiting candidate expires (R205). -/
def State.expiryReason (s : State) (b : Nat) (c : Candidate) : Nat :=
  if allCtx.any (fun n => (s.ctx n).state == 4 && s.suits b c n) then 5
  else if allCtx.any (fun n => (s.ctx n).state == 3 && s.suits b c n) then 2
  else 1

/-- Waiting candidates whose HOLD has ended expire (R205). -/
def State.expireCands (s : State) (b : Nat) : State :=
  let x := s.bandSt b
  let past := x.queue.filter (fun c => c.at_ + s.holdTicks c.mode ≤ s.tb.now)
  let s := past.foldl (fun s c => s.unserved b (s.expiryReason b c)) s
  s.setBandSt b { x with queue := x.queue.filter (fun c => !(c.at_ + s.holdTicks c.mode ≤ s.tb.now)) }

/-- One candidate of R204's loop; `fresh` says that it is new. -/
def State.arbitrateOne (s : State) (b : Nat) (c : Candidate) (fresh : Bool) : State :=
  let s := if fresh then s else s.setBandSt b { s.bandSt b with queue := (s.bandSt b).queue.erase c }
  let e := allCtx.filter (fun n => (s.ctx n).state == 0 && !s.cap.draining.contains n && s.suits b c n)
  match s.pick c e with
  | some n => s.assign b c n
  | none =>
    match (if bitAt (s.cfg 7 22 0 0x60) 0 then s.victim b c else none) with
    | some v => (s.abandonCtx v 4).assign b c v
    | none =>
      if fresh then s.queueCand b c
      else s.setBandSt b { s.bandSt b with queue := rankIn (s.bandSt b).queue c }

/-- ARBITRATION (R204): a band's candidates in one tick. -/
def State.arbitrate (s : State) (b : Nat) : State :=
  let x := s.bandSt b
  let cands := (x.fresh.map (fun c => (c, true)) ++ x.queue.map (fun c => (c, false))).foldl
    (fun (l : List (Candidate × Bool)) p =>
      (l.takeWhile (fun q => !p.1.before q.1)) ++ [p] ++ l.dropWhile (fun q => !p.1.before q.1)) []
  let s := s.setBandSt b { x with fresh := [] }
  (cands.foldl (fun s p => s.arbitrateOne b p.1 p.2) s).expireCands b

/-- ARBITRATION (R204). -/
def execArbitration (b : Nat) (s : State) : Out :=
  .next (if b < 2 && s.bandRuns b then s.arbitrate b else s)

/-- CANDIDATE_EXPIRE (R205). -/
def execCandidateExpire (b : Nat) (s : State) : Out := .next (if b < 2 then s.expireCands b else s)

/-! ## Receiving (R201, R203, R206, R225-R227) -/

/-- The longest preamble of a mode in ticks (R216). -/
def longestPreamble (m : Nat) : Nat :=
  if modeFsk m then (8000 * 40000000 + fskBitRate m - 1) / fskBitRate m
  else if modeOfdm m then symbolTicks m 4
  else if m = 0x40 then symbolTicks m 8
  else if m = 0x48 then symbolTicks m 8
  else if m = 0x49 then symbolTicks m 16
  else if modeLe m then symbolTicks m 80
  else symbolTicks m 1024

/-- The limit of C on a chain in 5 Hz units: AFCMAX parts per million of the channel frequency (R170). -/
def State.afcLimit (s : State) (c : Chain) : Nat := s.fld (F.rfsCtrlAfcmax c) * (s.chain c).rxFreq / 1000000

/-- C reported and, with AFCEN, applied, held at the limit with SAT (R170). -/
def State.applyC (s : State) (c : Chain) (v : Int) : State :=
  let lim : Int := s.afcLimit c
  let held := max (-lim) (min lim v)
  if s.flag (F.rfsCtrlAfcen c) then
    let s := (s.setFld (F.rfsAfcOffset c) (ofSigned 24 held)).setFld (F.rfsAfcSat c) (b2n (held != v))
    let s := if held != v then s.raise (F.rfsIntstatAfcsat c) else s
    (s.setChain c { s.chain c with carrier := held }).showFreq c
  else (s.setFld (F.rfsAfcOffset c) (ofSigned 24 v)).lower (F.rfsAfcSat c)

/-- NTM now less the RX delay of the context's chain, in ns (R316). -/
def State.rxStampNs (s : State) (n : Nat) : Nat :=
  let c := match s.narrowChain n with | some c => c | none => chainOf (s.ctx n).band
  s.ntm.time / 2 ^ 32 - s.fld (match c with | .s => F.ntmExtdlyRxs | .t => F.ntmExtdlyRxt)

/-- The stamp of a context at its stamp point: its unit, the tick and NTM (R203, R316). A frame with no unit is stamped
by firmware, counted in FWSTAMP. -/
def State.stampCtx (s : State) (n : Nat) : State :=
  let u := s.stampUnit n
  let s := s.setCtx n { s.ctx n with sync := true, unit := u, stampTick := s.tb.now, stampNs := s.rxStampNs n }
  if u.isNone then s.ctxCount n 7 else s

/-- CTX_SYNC (R201, R203, R170): a context finds sync; a narrow path's level and offset are measured here. The offset
is in 5 Hz units. -/
def execCtxSync (n : Nat) (level cfo : Int) (s : State) : Out :=
  .next (
    match s.narrowChain n with
    | some c =>
      if s.chState c = 4 && !(s.ctx n).busy && !(s.chain c).pa && !s.cap.draining.contains n then
        let x := s.ctx n
        let s := s.setCtx n { x with
          band := c.idx, mode := (s.chain c).rxMode, level := level, cfo := cfo, busy := true,
          header := none, switched := false, cut := false, frame := s.cap.nextFrame, formed := 0, waiting := [], tile := none,
          action := (s.chain c).holder.getD 512 }
        let s := { s with cap := { s.cap with nextFrame := s.cap.nextFrame + 1 } }
        ((s.ctxCount n 0).stampCtx n).applyC c cfo
      else s
    | none =>
      if (s.ctx n).state = 1 then (s.setCtx n { s.ctx n with state := 2, cfo := cfo }).stampCtx n else s)

/-- CTX_FALSEDET (R201, R224): no sync within the longest preamble. -/
def execCtxFalsedet (n : Nat) (s : State) : Out :=
  .next (
    let x := s.ctx n
    if x.state = 1 && x.det + longestPreamble x.mode ≤ s.tb.now then (s.ctxFree n).ctxCount n 2 else s)

/-- A narrow-path context gives up its frame; its receive action continues (R224). -/
def State.narrowDrop (s : State) (n : Nat) : State :=
  (s.setCtx n { s.ctx n with busy := false, waiting := [] }).dropFrame (s.ctx n).frame

/-- A failed PHY header releases the frame with HDRFAIL (R201). -/
def State.hdrFail (s : State) (n : Nat) : State :=
  let s := if (s.narrowChain n).isSome then s.narrowDrop n else (s.ctxFree n).dropFrame (s.ctx n).frame
  s.ctxCount n 3

/-- The largest PSDU of a standard mode (R218-R221). -/
def modeMaxLen (m : Nat) : Nat := if m = 0x40 then 127 else if modeLe m then 257 else 2047

/-- A context follows a switch to a mode: in its tile's MODESET, or on a narrow path any mode of its chain (R206, R227). -/
def State.follows (s : State) (n mode : Nat) : Bool :=
  match s.narrowChain n with
  | some c => modeOnChain mode c.idx
  | none => s.ctxModes n mode

/-- A mode switch of the frame on a context (R206, R218, R227): a second one in a Long Reach frame is an HDRFAIL. -/
def State.switchMode (s : State) (n mode : Nat) : State :=
  let x := s.ctx n
  if x.switched && modeLr x.mode then s.hdrFail n
  else if s.follows n mode then s.setCtx n { x with mode := mode, switched := true }
  else if (s.narrowChain n).isSome then s.narrowDrop n
  else s.abandonCtx n 9

/-- The context is past sync, without a header yet. -/
def State.wantsHeader (s : State) (n : Nat) : Bool :=
  let x := s.ctx n
  x.header.isNone && (x.state == 2 || (x.state == 5 && x.busy))

/-- CTX_HEADER (R218, R225-R227): the received header, 48 bits in Long Reach, else the PSDU length its PHR gives, with
whether the standard's own check passed. -/
def execCtxHeader (n bits : Nat) (ok : Bool) (s : State) : Out :=
  .next (
    if !s.wantsHeader n then s
    else
      let x := s.ctx n
      if modeLr x.mode then
        if bitAt bits 18 then (if lrSwitchOk (bits % 2 ^ 48) then s.switchMode n (bitsOf bits 0 8) else s.hdrFail n)
        else if lrHeaderOk (bits % 2 ^ 48) then s.setCtx n { x with header := some (bits % 2 ^ 48) }
        else s.hdrFail n
      else if ok && bits ≤ modeMaxLen x.mode then s.setCtx n { x with header := some bits }
      else s.hdrFail n)

/-- MODE_SWITCH (R206): a switch announced within a frame, to a mode that its family may switch to (R218, R227). -/
def execModeSwitch (n mode : Nat) (s : State) : Out :=
  .next (
    let x := s.ctx n
    if s.wantsHeader n && ((modeLr x.mode && modeLr mode) || (modeFsk x.mode && (modeFsk mode || modeLr mode)))
    then s.switchMode n mode else s)

/-- AFC_TRACK (R170): a tracking update of at most 50 Hz, ten units of 5 Hz, while a narrow-path frame lasts. -/
def execAfcTrack (c : Chain) (offset : Int) (s : State) : Out :=
  .next (
    let n := s.narrowCtx c
    if s.chState c = 4 && (s.ctx n).busy && s.narrowChain n == some c then
      let step := max (-10) (min 10 offset)
      let v := (s.ctx n).cfo + step
      (s.setCtx n { s.ctx n with cfo := v }).applyC c v
    else s)

/-! ## Starting and stopping the wide paths (R39, R52, R193, R201) -/

/-- Does a SPAN profile park a context's tile (R39). -/
def profileParks (profile n : Nat) : Bool :=
  let t := n % 20 / 2
  match profile with
  | 0 => 4 < t
  | 1 => if n / 20 < 2 then 7 < t else 6 < t
  | _ => false

/-- The state of a context where SPAN runs with a profile, or the mode is not SPAN: a bound narrow context is NARROW in
every mode (R201). -/
def State.restState (s : State) (span : Bool) (profile n : Nat) : Nat :=
  if s.narrowCtx .s == n || s.narrowCtx .t == n then 5
  else if !span || !s.ctxWide n then 6
  else if profileParks profile n then 3
  else 0

/-- Put every context where a mode and profile have it; frames in the contexts that go on stay (R201). -/
def State.settleCtx (s : State) (span : Bool) (profile : Nat) : State :=
  let s := { s with cap := { s.cap with draining := [] } }
  allCtx.foldl (fun s n =>
    let r := s.restState span profile n
    if r = 0 && s.ctxBusy n then s
    else if r = (s.ctx n).state then s
    else if s.ctxBusy n then (s.abandonCtx n 5).setCtx n { s.ctx n with state := r }
    else s.setCtx n { s.ctx n with state := r }) s

/-- Start or stop a band's wide path (R161, R193). -/
def State.runBand (s : State) (b : Nat) (on : Bool) : State :=
  let c := chainOf b
  if on then
    if s.bandRuns b then s
    else
      (s.setBit A.chzStat b).setBandSt b {}
  else
    if s.bandRuns b then
      let s := (s.cutBand b 5).clearBit A.chzStat b
      let s := s.clearBit A.chzStat (4 + b)
      (s.lower (F.rfsStatCaplock c)).setFld (F.rfsCapfFreq c) 0
    else s

/-- The wide paths and contexts of a mode and profile. -/
def State.applyWideIn (s : State) (span : Bool) (bands profile : Nat) : State :=
  let s := (s.runBand 0 (bitAt bands 0)).runBand 1 (bitAt bands 1)
  s.settleCtx span profile

/-- The contexts that a request stops or parks (R52). -/
def State.affectedCtx (s : State) (span : Bool) (bands profile : Nat) : List Nat :=
  allCtx.filter (fun n =>
    (s.ctx n).state < 3 && (s.restState span profile n != 0 || !bitAt bands (bitsOf (s.ctxCfg n) 0 1)))

/-- The contexts of a list take no new frames: FREE becomes DRAINED (R52, R79). -/
def State.drainCtx (s : State) (l : List Nat) : State :=
  let s := { s with cap := { s.cap with draining := s.cap.draining ++ l } }
  l.foldl (fun s n => if (s.ctx n).state = 0 then s.setCtx n { s.ctx n with state := 4 } else s) s

/-- The drain ends for a transition or swap that came to nothing: DRAINED becomes FREE. -/
def State.undrainCtx (s : State) : State :=
  let l := s.cap.draining
  let s := { s with cap := { s.cap with draining := [] } }
  l.foldl (fun s n => if (s.ctx n).state = 4 then s.setCtx n { s.ctx n with state := 0 } else s) s

/-- Frames left at the end of a drain are abandoned (R52, R207). -/
def State.abandonDrain (s : State) : State :=
  (s.cap.draining.filter s.ctxBusy).foldl (fun s n => s.abandonCtx n 5) s

end Sys2Proof.Machine
end

