-- ==== Sys2Proof/Machine/Decoder.lean ====
section
/-!
DEFINITION. The decoder tiles (R233-R241): dispatch of blocks, decoding, soft combining, and the frames they deliver to
the link controller.
-/

namespace Sys2Proof.Machine

/-! ## Access -/

/-- A decoder tile by index (R234). -/
def State.decTile (s : State) (i : Nat) : DecTile := (Sparse.find? s.dec.tiles i).getD {}

/-- Set a decoder tile. -/
def State.setDecTile (s : State) (i : Nat) (x : DecTile) : State :=
  { s with dec := { s.dec with tiles := Sparse.insert s.dec.tiles i x } }

/-- Counter `k` of tile `i` rises by `n` (R246). -/
def State.decCount (s : State) (i k n : Nat) : State := s.countBy (A.decCtr (8 * i + k)) n

/-- POOL of a decoder tile (R235). -/
def State.decPool (s : State) (i : Nat) : Nat := s.cfg (i / 4) (10 + i % 4) 0 0
/-- CODESET of a decoder tile (R235). -/
def State.decCodes (s : State) (i : Nat) : Nat := s.cfg (i / 4) (10 + i % 4) 0 1

/-- The tile is in a pool that serves a band with a code (R237). -/
def State.decServes (s : State) (band code i : Nat) : Bool :=
  bitsOf (s.decPool i) 0 8 != 0xFF && bitAt (s.decPool i) (8 + band) && bitAt (s.decCodes i) code

/-- A frame in decoding. -/
def State.rxFrame (s : State) (f : Nat) : Option RxFrame := Sparse.find? s.dec.frames f

/-- Set a frame. -/
def State.setRxFrame (s : State) (x : RxFrame) : State :=
  { s with dec := { s.dec with frames := Sparse.insert s.dec.frames x.id x } }

/-! ## Keys and tags (R237, R239) -/

/-- A block's key equals a slot's. -/
def SoftSlot.keyOf (x : SoftSlot) (band txh ctag idx : Nat) : Bool :=
  x.band == band && x.txh == txh && x.ctag == ctag && x.idx == idx

/-- The slot of a block's key in a tile. -/
def DecTile.slot (t : DecTile) (b : Block) : Option SoftSlot :=
  t.slots.find? (fun x => x.keyOf b.band b.txh b.ctag b.idx)

/-- A slot's tags match a block: NCLASS, RATE and LEN (R239). -/
def SoftSlot.tagged (x : SoftSlot) (b : Block) : Bool := x.code == b.code && x.rate == b.rate && x.len == b.len

/-- The tile holds a slot, or a pending key, equal to block 0's key (R237). -/
def DecTile.holdsKey (t : DecTile) (b : Block) : Bool :=
  t.slots.any (fun x => x.keyOf b.band b.txh b.ctag 0)
  || t.queue.any (fun q => q.code < 3 && q.band == b.band && q.txh == b.txh && q.ctag == b.ctag && q.idx == 0)

/-- Slots without those of a block's key. -/
def DecTile.freeKey (t : DecTile) (b : Block) : DecTile :=
  { t with slots := t.slots.filter (fun x => !x.keyOf b.band b.txh b.ctag b.idx) }

/-! ## Dispatch (R237) -/

/-- Blocks of the frame on a context, by its header: one, or those of an LDPC frame (R228, R237). -/
def Ctx.blockCount (x : Ctx) : Nat :=
  match x.header with
  | none => 0
  | some h =>
    if modeLr x.mode && !(LrHeader.parse h).fec then lrBlocks (LrHeader.parse h).ncls (LrHeader.parse h).len else 1

/-- The next block of the frame on a context, with the LLRs that arrived for it. -/
def State.formBlock (s : State) (n : Nat) (llrs : List Int) : Block :=
  let x := s.ctx n
  let band := match s.narrowChain n with | some c => 2 + c.idx | none => x.band
  let b : Block := { band := band, txh := 0, ctag := 0, idx := x.formed, frame := x.frame, code := 4, last := s.tb.now }
  if modeLr x.mode then
    let h := LrHeader.parse (x.header.getD 0)
    let b := { b with txh := h.txh, ctag := h.ctag, rate := h.rate, inc := h.inc, len := h.len }
    if h.fec then { b with code := 3 }
    else
      { b with
        code := h.ncls,
        llrs := placeLlrs h.ncls h.rate h.inc (lrFillerOf h.ncls h.len x.formed) (24 * lrZ h.ncls) llrs }
  else b

/-- The tile with the fewest queued blocks, lowest index first. -/
def State.leastQueued (s : State) (l : List Nat) : Option Nat :=
  l.foldl (fun best i =>
    match best with
    | none => some i
    | some j => if (s.decTile i).queue.length < (s.decTile j).queue.length then some i else some j) none

/-- The tile of a block (R237); a tile that a swap drains takes only blocks that combine with a buffer it holds (R79). -/
def State.blockTile (s : State) (n : Nat) (b : Block) : Option Nat :=
  match s.narrowChain n with
  | some c => some (4 * bitsOf (s.narrow c) 8 2 + (bitsOf (s.narrow c) 0 4 - 10))
  | none =>
    match (s.ctx n).tile with
    | some i => some i
    | none =>
      let pool := (List.range 16).filter (s.decServes b.band b.code)
      match pool.find? (fun i => b.code < 3 && (s.decTile i).holdsKey b) with
      | some i => some i
      | none => s.leastQueued (pool.filter (fun i => !s.dec.draining.contains i))

/-- The receive frame a context begins with its first block. -/
def State.beginFrame (s : State) (n tile : Nat) : State :=
  let x := s.ctx n
  if (s.rxFrame x.frame).isSome then s
  else
    let nc := s.narrowChain n
    let fw := x.unit.isNone
    let stamp := if fw then x.stampTick else x.stampNs
    let slice := if nc.isSome then 0xFFFF else x.slice
    let action := if nc.isSome && x.action < 512 then x.action else 0xFFFF
    s.setRxFrame
      { id := x.frame, ctx := n, chain := x.band, wide := nc.isNone, mode := x.mode, slice := slice, level := x.level,
        cfo := x.cfo, action := action, stamp := stamp, stampTick := x.stampTick, fw := fw, header := x.header.getD 0, tile := tile,
        blocks := x.blockCount }

/-- Move a context's first waiting block into its tile while there is a queue place (R237). -/
def State.pumpOne (s : State) (n : Nat) : State :=
  match (s.ctx n).waiting with
  | [] => s
  | b :: rest =>
    match s.blockTile n b with
    | none => s
    | some i =>
      let t := s.decTile i
      if t.queue.length < 16 then
        let s := s.setDecTile i { t with queue := t.queue ++ [{ b with cfg := s.regN A.decCfg }] }
        let s := s.setCtx n { s.ctx n with waiting := rest, tile := some i }
        s.beginFrame n i
      else s

/-- Move what can move of a context's waiting blocks. -/
def State.pump (s : State) (n : Nat) : State := (((s.pumpOne n).pumpOne n).pumpOne n).pumpOne n

/-- Every context's waiting blocks, once a tile has a place. -/
def State.pumpAll (s : State) : State :=
  (allCtx.filter (fun n => !(s.ctx n).waiting.isEmpty)).foldl (fun s n => s.pump n) s

/-- A slot whose LIFE has ended (R239). -/
def State.slotPast (s : State) (q : SoftSlot) : Bool := q.wrote + 40000 * q.life ≤ s.tb.now

/-- Free the slots of a tile whose LIFE has ended, counted as EXPIRED (R239). -/
def State.expireSlots (s : State) (i : Nat) : State :=
  let t := s.decTile i
  let k := (t.slots.filter s.slotPast).length
  if k = 0 then s
  else (s.setDecTile i { t with slots := t.slots.filter (fun q => !s.slotPast q) }).decCount i 4 k

/-- BLOCK_DISPATCH (R237): the last LLR of a context's next block. Expiry is tested before dispatch in a tick (R239). -/
def execBlockDispatch (n : Nat) (llrs : List Int) (s : State) : Out :=
  .next (
    let s := (List.range 16).foldl State.expireSlots s
    let x := s.ctx n
    if (x.state == 2 || (x.state == 5 && x.busy)) && x.formed < x.blockCount && x.waiting.length < 4 then
      let b := s.formBlock n llrs
      let tile := if x.formed = 0 then none else x.tile
      (s.setCtx n { x with formed := x.formed + 1, waiting := x.waiting ++ [b], tile := tile, ended := s.tb.now }).pump n
    else s)

/-! ## Frames that leave the decoders (R241, R263) -/

/-- Hand a frame to the link controller. -/
def State.handOver (s : State) (x : RxFrame) (delivered fcsOk : Bool) (psdu : List Byte) : State :=
  let inc := if modeLr x.mode then (LrHeader.parse x.header).inc else 0
  let a : Arrived :=
    { delivered := delivered, psdu := psdu, fcsOk := fcsOk, combined := x.combined, repeated := x.repeated, fw := x.fw,
      wide := x.wide, chain := x.chain, mode := x.mode, inc := inc, slice := x.slice, level := x.level, cfo := x.cfo,
      ctx := x.ctx, action := x.action, stamp := x.stamp, stampTick := x.stampTick, ended := x.last }
  { s.dropFrame x.id with lnk := { s.lnk with arrived := s.lnk.arrived ++ [a] } }

/-- Slots of a frame's keys in a tile. -/
def frameKey (x : RxFrame) (band : Nat) (q : SoftSlot) : Bool :=
  let h := LrHeader.parse x.header
  q.band == band && q.txh == h.txh && q.ctag == h.ctag

/-- Free a slot's place for one more (R239): the oldest DONE slot, else the oldest, counted as BUFEVICT. -/
def State.makeRoom (s : State) (i : Nat) : State :=
  let t := s.decTile i
  if t.slots.length < 64 then s
  else
    match t.slots.find? (fun q => q.done) with
    | some q => s.setDecTile i { t with slots := t.slots.erase q }
    | none => ((s.setDecTile i { t with slots := t.slots.drop 1 }).decCount i 5 1).raise F.decIntstatBufevict

/-- Write one slot of a frame (R239). -/
def State.writeSlot (s : State) (i band life : Nat) (x : RxFrame) (o : BlockOut) : State :=
  let h := LrHeader.parse x.header
  let t := s.decTile i
  let s := s.setDecTile i { t with slots := t.slots.filter (fun q => !q.keyOf band h.txh h.ctag o.idx) }
  let s := s.makeRoom i
  let q : SoftSlot :=
    { band := band, txh := h.txh, ctag := h.ctag, idx := o.idx, code := h.ncls, rate := h.rate, len := h.len,
      done := o.bits.isSome, llrs := if o.bits.isSome then [] else o.llrs, bits := o.bits.getD 0, wrote := x.last, life := life }
  s.setDecTile i { s.decTile i with slots := (s.decTile i).slots ++ [q] }

/-- The data bits of a decoded frame: K information bits of each block, filler off (R228). -/
def frameBits (ncls : Nat) (outs : List BlockOut) : List Bool :=
  ((List.range outs.length).map (fun i =>
    let n := ((outs.find? (fun o => o.idx == i)).bind BlockOut.bits).getD 0
    (List.range (lrK ncls)).map (bitAt n))).flatten

/-- An LDPC frame has all its blocks (R239, R241). -/
def State.endLdpc (s : State) (i band cfg : Nat) (x : RxFrame) : State :=
  let h := LrHeader.parse x.header
  let comben := bitAt cfg 8
  let life := bitsOf cfg 16 9
  if x.outs.all (fun o => o.bits.isSome) then
    match lrUnpack h.len (frameBits h.ncls x.outs) with
    | some psdu =>
      -- every slot of the frame is DONE (R239)
      let t := s.decTile i
      let done (q : SoftSlot) : SoftSlot :=
        if frameKey x band q then
          { q with done := true, llrs := [], wrote := x.last, life := life,
                   bits := ((x.outs.find? (fun o => o.idx == q.idx)).bind BlockOut.bits).getD q.bits }
        else q
      (s.setDecTile i { t with slots := t.slots.map done }).handOver x true true psdu
    | none =>
      let t := s.decTile i
      let s := s.setDecTile i { t with slots := t.slots.filter (fun q => !frameKey x band q) }
      ((s.decCount i 7 1).raise F.decIntstatFcsfail).handOver x false false []
  else
    let s := if comben && x.outs.all (fun o => o.bits.isSome || !o.llrs.isEmpty)
      then x.outs.foldl (fun s o => s.writeSlot i band life x o) s else s
    s.handOver x false false []

/-! ## Decoding (R238-R241) -/

/-- The information bits of a codeword. -/
def infoBits (ncls cw : Nat) : Nat := cw % 2 ^ lrK ncls

/-- The outcome of an LDPC block: the codeword the decoder ended on, over the rows of its code (R238, R240). -/
inductive LdpcWay where
  | alone
  | combined (llrs : List Int)
  | stored (bits : Nat)
  | discard
  deriving DecidableEq, Repr

/-- The row of R240's table that a block falls under. -/
def ldpcWay (t : DecTile) (b : Block) : LdpcWay :=
  if b.inc = 0 then .alone
  else
    match t.slot b with
    | some q =>
      if q.tagged b then (if q.done then .stored q.bits else .combined (addLlrs q.llrs b.llrs))
      else if lrRepeat b.rate b.inc then .alone else .discard
    | none => if lrRepeat b.rate b.inc then .alone else .discard

/-- The last stage of the code a block is decoded at (R231, R240). -/
def blockStage (b : Block) : Nat := if b.inc = 0 then b.rate else combinedStage b.rate b.inc

/-- Record an LDPC block's outcome in its frame, and end the frame with its last block. -/
def State.ldpcOut (s : State) (i : Nat) (b : Block) (o : BlockOut) (comb rep : Bool) : State :=
  match s.rxFrame b.frame with
  | none => s
  | some x =>
    let x := { x with outs := x.outs ++ [o], last := max x.last b.last, combined := x.combined || comb, repeated := rep && (x.outs.isEmpty || x.repeated) }
    if x.outs.length = x.blocks then s.endLdpc i b.band b.cfg x else s.setRxFrame x

/-- An LDPC block ends (R238-R240); `cw` is the word the decoder ended on. -/
def State.decodeLdpc (s : State) (i cw : Nat) (b : Block) : State :=
  let z := lrZ b.code
  let good := syndromeZero z (stageRows (blockStage b)) cw
  let ok (s : State) (comb : Bool) : State :=
    let s := s.decCount i 0 1
    let s := if comb then s.decCount i 2 1 else s
    s.ldpcOut i b { idx := b.idx, bits := some (infoBits b.code cw), llrs := [] } comb false
  let bad (s : State) (l : List Int) (comb : Bool) : State :=
    ((s.decCount i 1 1).raise F.decIntstatDecfail).ldpcOut i b { idx := b.idx, bits := none, llrs := l } comb false
  match (if bitAt b.cfg 8 then ldpcWay (s.decTile i) b else .alone) with
  | .alone =>
    let s := if b.inc = 0 then s.setDecTile i ((s.decTile i).freeKey b) else s
    if good then ok s false else bad s b.llrs false
  | .combined l => if good then ok s true else bad s l true
  | .stored bits => s.ldpcOut i b { idx := b.idx, bits := some bits, llrs := [] } false true
  | .discard =>
    ((s.decCount i 3 1).raise F.decIntstatNobase).ldpcOut i b { idx := b.idx, bits := none, llrs := [] } false false

/-- A Reed-Solomon frame ends (R232, R233): `good` codewords decoded, `data` their LEN + 4 whitened octets. -/
def State.decodeRs (s : State) (i good : Nat) (data : List Byte) (b : Block) : State :=
  let s := s.decCount i 0 (min good (rsWords b.len))
  match s.rxFrame b.frame with
  | none => s
  | some x =>
    let x := { x with last := b.last }
    match (if rsWords b.len ≤ good then lrUnpack b.len (bitsOfBytes data) else none) with
    | some psdu => s.handOver x true true psdu
    | none => ((s.decCount i 7 1).raise F.decIntstatFcsfail).handOver x false false []

/-- A pass-through frame is delivered whichever way its check goes (R222). -/
def State.decodePass (s : State) (i good : Nat) (data : List Byte) (b : Block) : State :=
  let s := s.decCount i 0 1
  match s.rxFrame b.frame with
  | none => s
  | some x => s.handOver { x with last := b.last } true (good != 0) (data.take x.header)

/-- BLOCK_DECODE_DONE (R238): the first block of a tile's queue ends. `good` is the number of codewords that decoded,
or not zero where a standard frame's check passed; `data` is the word the decoder ended on, as bytes. -/
def execBlockDecodeDone (i good : Nat) (data : List Byte) (s : State) : Out :=
  .next (
    match (s.decTile i).queue with
    | [] => s
    | b :: rest =>
      let s := s.setDecTile i { s.decTile i with queue := rest }
      let s := if b.code < 3 then s.decodeLdpc i (leNat data) b
        else if b.code = 3 then s.decodeRs i good data b
        else s.decodePass i good data b
      s.pumpAll)

/-- SLOT_EXPIRE (R239): slots of a tile whose LIFE has ended. -/
def execSlotExpire (i : Nat) (s : State) : Out := .next (s.expireSlots i)

/-- Clear a tile's slots at a swap or reload, counted as BUFCLEAR (R87, R241). -/
def State.clearSlots (s : State) (i : Nat) : State :=
  let n := (s.decTile i).slots.length
  if n = 0 then s
  else ((s.setDecTile i { s.decTile i with slots := [] }).decCount i 6 n).raise F.decIntstatBufclear

end Sys2Proof.Machine
end

