-- ==== Sys2Proof/Machine/Slots.lean ====
section
/-!
DEFINITION. The link controller's slots (R247-R251), rings (R262), completions (R260, R261), and the planning of actions:
claim leads (R252), turnarounds (R167), airtime, fit (R259), rank (R257).
-/

namespace Sys2Proof.Machine

/-! ## Action records (R248) -/

/-- An action record's fields. -/
structure Act where
  mode   : Nat
  lg     : Bool
  stampTx : Bool
  cond   : Nat
  ring   : Nat
  timing : Nat
  pri    : Bool
  chain  : Nat
  kind   : Nat
  time   : Nat
  freq   : Nat
  power  : Int
  tenant : Nat
  link   : Nat
  buf    : Nat
  w6     : Nat
  w7     : Nat
  deriving DecidableEq, Repr

/-- A word of a slot's record (R247). -/
def State.actW (s : State) (n i : Nat) : Nat := s.regN (A.lnkAction (8 * n + i))

/-- The record of a slot (R248). -/
def State.act (s : State) (n : Nat) : Act :=
  let w0 := s.actW n 0
  let w4 := s.actW n 4
  { mode := bitsOf w0 16 8, lg := bitAt w0 15, stampTx := bitAt w0 14, cond := bitsOf w0 12 2, ring := bitsOf w0 10 2,
    timing := bitsOf w0 8 2, pri := bitAt w0 5, chain := bitsOf w0 4 1, kind := bitsOf w0 0 4,
    time := s.actW n 1 + 2 ^ 32 * s.actW n 2, freq := bitsOf (s.actW n 3) 0 30, power := signedOf 8 (bitsOf w4 20 8),
    tenant := bitsOf w4 16 3, link := bitsOf w4 0 16, buf := s.actW n 5, w6 := s.actW n 6, w7 := s.actW n 7 }

/-- TX, TXLBT and WAKE are the transmit kinds (R249). -/
def Act.transmits (a : Act) : Bool := a.kind == 1 || a.kind == 2 || a.kind == 6
/-- RX and CCA are the receive kinds (R249). -/
def Act.receives (a : Act) : Bool := a.kind == 3 || a.kind == 4
/-- PRE, INC, RATE, NCLASS, FEC, LEN of W6 (R248). -/
def Act.pre (a : Act) : Nat := bitsOf a.w6 18 10
/-- INC. -/
def Act.inc (a : Act) : Nat := bitsOf a.w6 16 2
/-- RATE. -/
def Act.rate (a : Act) : Nat := bitsOf a.w6 14 2
/-- NCLASS. -/
def Act.ncls (a : Act) : Nat := bitsOf a.w6 12 2
/-- FEC. -/
def Act.fec (a : Act) : Bool := bitAt a.w6 11
/-- LEN. -/
def Act.len (a : Act) : Nat := bitsOf a.w6 0 11
/-- DUR of a receive kind in ticks. -/
def Act.dur (a : Act) : Nat := 40 * bitsOf a.w6 0 24
/-- ONE of a receive kind. -/
def Act.one (a : Act) : Bool := bitAt a.w6 24
/-- REPS of a WAKE. -/
def Act.reps (a : Act) : Nat := bitsOf a.w6 0 4
/-- FOLLOW's offset in ticks and its anchor slot. -/
def Act.offset (a : Act) : Nat := a.time % 2 ^ 32
/-- FOLLOW's anchor. -/
def Act.anchor (a : Act) : Nat := bitsOf a.time 32 9

/-- The airtime in ticks of the frame, or of one telegram, of an action (R224, R179). -/
def Act.air (a : Act) : Nat := airtimeTicks a.mode a.pre a.inc a.rate a.ncls a.fec a.len

/-! ## Slots (R247, R251) -/

/-- A slot; FREE where it is not listed. -/
def State.slot (s : State) (n : Nat) : Slot := (Sparse.find? s.lnk.slots n).getD { state := 0 }

/-- Set a slot that is not FREE. -/
def State.setSlot (s : State) (n : Nat) (x : Slot) : State :=
  { s with lnk := { s.lnk with slots := Sparse.insert s.lnk.slots n x } }

/-- A slot returns to FREE (R251). -/
def State.freeSlot (s : State) (n : Nat) : State :=
  { s with lnk := { s.lnk with slots := Sparse.erase s.lnk.slots n, alarms := s.lnk.alarms.erase n } }

/-- A slot's generation (R250). -/
def State.slotGen (s : State) (n : Nat) : Nat := (Sparse.find? s.lnk.gens n).getD 0

/-- Counter `k` of the link controller rises (R277). -/
def State.lnkCount (s : State) (k : Nat) : State := s.count (A.lnkCtr k)

/-- The chain of a slot's action. -/
def State.slotChain (s : State) (n : Nat) : Chain := chainOf (s.act n).chain

/-- The slots that are not FREE. -/
def State.liveSlots (s : State) : List Nat := s.lnk.slots.map Prod.fst

/-! ## Plans -/

/-- Ramp-up or ramp-down of a mode in ticks, with the committed table (R164). -/
def State.rampOf (s : State) (c : Chain) (mode : Nat) : Nat := rampTicks (s.store c).ramp (rampPs mode)

/-- LEAD in ticks: zero with coexistence disabled (R252). -/
def State.coexLead (s : State) (c : Chain) : Nat :=
  if s.flag (F.rfsCoexEn c) then 40 * s.fld (F.rfsCoexLead c) else 0

/-- The claim lead of an action in ticks (R252). -/
def State.claimLead (s : State) (a : Act) : Nat :=
  let c := chainOf a.chain
  if a.kind = 5 then 0
  else if a.kind = 1 || a.kind = 6 then s.rampOf c a.mode + max 480 (s.coexLead c)
  else 680

/-- It runs as ASAP (R259, R272). -/
def State.slotAsap (s : State) (n : Nat) : Bool := (s.slot n).asap || (s.act n).timing == 2

/-- The claim tick of a slot whose start time is fixed (R252). -/
def State.claimTick (s : State) (n : Nat) : Option Nat := (s.slot n).start.map (fun t => t - s.claimLead (s.act n))

/-- T of R167 for two modes: that of the longer family. -/
def turnOf (a b : Nat) : Nat := max (turnTicks a) (turnTicks b)

/-- A band of the record that contains the frequency requires LBT (R267). -/
def State.bandLbt (s : State) (a : Act) : Bool := (s.bandsOf a.chain a.freq).any (fun b => (s.rlrBand b).lbt)

/-- The action is carried out with a listen: a TXLBT, or a TX or WAKE on a band that requires one (R267). -/
def State.listens (s : State) (n : Nat) : Bool :=
  let a := s.act n
  a.kind == 2 || (a.transmits && s.bandLbt a && !(s.slot n).noListen)

/-- The listen's threshold in 0.5 dBm units (R266). -/
def State.lbtThreshold (s : State) (a : Act) : Int :=
  ((s.bandsOf a.chain a.freq).filter (fun b => (s.rlrBand b).lbt)).foldl (fun t b => min t (2 * (s.rlrBand b).thr))
    (2 * signedOf 8 (s.fld F.lnkLbtcfgThr))

/-- The listen time in ticks (R266). -/
def State.listenTicks (s : State) (a : Act) : Nat :=
  ((s.bandsOf a.chain a.freq).filter (fun b => (s.rlrBand b).lbt)).foldl (fun t b => max t (40 * (s.rlrBand b).listen))
    (max 2560 (320 * s.fld F.lnkLbtcfgListen))

/-- The next ABS or FOLLOW claim on a chain from a tick on, other than a slot's (R259). -/
def State.nextTimed (s : State) (chain except after : Nat) : Option Nat :=
  s.liveSlots.foldl (fun best n =>
    if n != except && (s.slot n).state == 1 && (s.act n).chain == chain && (s.act n).kind != 5 && !s.slotAsap n then
      match s.claimTick n, best with
      | some t, some b => if after ≤ t then some (min t b) else some b
      | some t, none => if after ≤ t then some t else none
      | none, b => b
    else best) none

/-- When the action's work would end if it were claimed now (R259): the frame, its ramps and T, with its listen; or the
window. -/
def State.workEnd (s : State) (n : Nat) : Nat :=
  let a := s.act n
  let c := chainOf a.chain
  if a.transmits then
    let settle := if a.kind = 2 || (s.slot n).busy != 0 then 680 else 0
    let listen := if s.listens n then settle + s.listenTicks a + 480 else max 480 (s.coexLead c)
    s.tb.now + listen + 2 * s.rampOf c a.mode + (a.air + turnTicks a.mode) * (if a.kind = 6 then a.reps else 1)
  else s.tb.now + 680 + a.dur

/-- The work fits before the next timed claim on its chain from a tick on (R259). -/
def State.fitsFrom (s : State) (n after : Nat) : Bool :=
  match s.nextTimed (s.act n).chain n after with
  | none => true
  | some t => s.workEnd n ≤ t

/-- The work fits before the next timed claim on its chain (R259). -/
def State.fits (s : State) (n : Nat) : Bool := s.fitsFrom n 0

/-- R257's rank of two claims: does slot `m` rank above slot `n`. -/
def State.outranks (s : State) (m n : Nat) : Bool :=
  let a := s.act m
  let b := s.act n
  let sa := (s.slot m).start.getD 0
  let sb := (s.slot n).start.getD 0
  if a.pri != b.pri then a.pri
  else if a.transmits != b.transmits then a.transmits
  else if sa != sb then sa < sb
  else m < n

/-- A slot is the first among the ASAP actions of its chain that fit (R259): PRI 1 first, then earlier submission. -/
def State.asapFirst (s : State) (n : Nat) : Bool :=
  s.liveSlots.all (fun m =>
    m == n || (s.slot m).state != 1 || !s.slotAsap m || (s.act m).chain != (s.act n).chain || !s.fits m
    || (if (s.act m).pri != (s.act n).pri then (s.act n).pri else (s.slot n).order < (s.slot m).order))

/-- The FOLLOW actions that wait for a slot (R258). -/
def State.followersOf (s : State) (n : Nat) : List Nat :=
  s.liveSlots.filter (fun m =>
    m != n && (s.act m).timing == 1 && (s.act m).anchor == n && (s.slot m).start.isNone
    && ((s.slot m).state == 1))

/-! ## Rolls (R458) -/

/-- Draw a 16-bit roll. Its value is free; outside RUN, or from an empty pool, it is taken from the LFSR and counted. -/
def State.roll (s : State) : Nat × State :=
  let s := if s.fld F.rngStatState = 2 && s.sec.pool != 0 then { s with sec := { s.sec with pool := s.sec.pool - 1 } }
    else s.count (A.rngCtr 7)
  s.draw (2 ^ 16)

/-! ## Rings (R262, R275) -/

/-- Base and SIZE of a ring in force. -/
def State.ring (s : State) (r : Nat) : Nat × Nat := (Sparse.find? s.lnk.rings r).getD (0, 0)

/-- The ring has room for one more entry. -/
def State.ringRoom (s : State) (r : Nat) : Bool :=
  let n := 2 ^ (6 + (s.ring r).2)
  (s.fld (F.lnkRingwrIndex r) + 1) % n != s.fld (F.lnkRingrdIndex r) % n

/-- RNE of a ring follows WR and RD (R262, R276). -/
def State.ringLevel (s : State) (r : Nat) : State :=
  if s.fld (F.lnkRingwrIndex r) = s.fld (F.lnkRingrdIndex r) then s.clearBit A.lnkIntstat r else s.setBit A.lnkIntstat r

/-- Write one 16-byte entry and advance WR. -/
def State.lnkRingPut (s : State) (r : Nat) (e : List Byte) : State :=
  let wr := s.fld (F.lnkRingwrIndex r)
  let s := s.dma ((s.ring r).1 + 16 * wr) e
  (s.setFld (F.lnkRingwrIndex r) ((wr + 1) % 2 ^ (6 + (s.ring r).2))).ringLevel r

/-- Write descriptor completions that wait for room in a ring, oldest first (R262, R299). -/
def State.flushEntries (s : State) (l : List (Nat × List Byte)) : State :=
  l.foldl (fun s e =>
    if s.ringRoom e.1 then s.lnkRingPut e.1 e.2
    else { s with tnt := { s.tnt with entries := s.tnt.entries ++ [e] } }) { s with tnt := { s.tnt with entries := [] } }

/-- A descriptor completion goes to its ring, or waits (R299). -/
def State.putEntry (s : State) (r : Nat) (e : List Byte) : State := s.flushEntries (s.tnt.entries ++ [(r, e)])

/-! ## Outcomes (R260, R261) -/

/-- The status code of R11 as a number. -/
def stOk : Nat := Status.ok.code

/-- TIME of a completion: first symbol, opening, marker, or the tick it completed (R260). -/
def Slot.stamp (x : Slot) (a : Act) (now : Nat) : Nat :=
  if a.transmits then x.firstSym.getD now else x.opened.getD now

/-- INFO of a completion (R260). -/
def State.slotInfo (s : State) (n : Nat) : Nat :=
  let a := s.act n
  let x := s.slot n
  match a.kind with
  | 3 => min x.frames 65535
  | 4 => ofSigned 16 x.peak
  | 6 => x.sent
  | 2 => x.busy
  | _ => if x.lbt then x.busy else 0

/-- The 16 bytes of a completion entry (R260). -/
def State.completion (s : State) (n : Nat) : List Byte :=
  let x := s.slot n
  [Byte.ofN (1 + 16 * b2n x.ranLate + 32 * b2n x.cut + 64 * b2n x.lbt), Byte.ofN x.reason] ++ leBytes 2 x.status
  ++ leBytes 2 (n + 512 * s.slotGen n) ++ leBytes 2 (s.slotInfo n) ++ leBytes 8 x.time

/-- Counters and flags of a completion's status (R276, R277). -/
def State.countOutcome (s : State) (st reason : Nat) : State :=
  if st = Status.ok.code then s.lnkCount 1
  else if st = Status.late.code then s.lnkCount 2
  else if st = Status.missed.code then (s.lnkCount 3).raise F.lnkIntstatMissed
  else if st = Status.cancelled.code then s.lnkCount 4
  else if reason = 5 then (s.lnkCount 6).raise F.lnkIntstatLbtbusy
  else s

/-- A chain is free of its action: an open receiver ends in READY; a turnaround runs on to its end (R166, R168). -/
def State.releaseChain (s : State) (c : Chain) : State :=
  let s := s.setChain c { s.chain c with holder := none, cxReq := false, cxPri := false, femRx := false, granted := false }
  let st := s.chState c
  if st = 4 then s.setChState c 3 else s

/-- The slot's outcome is fixed: DONE, with its status, reason and time (R251, R261). -/
def State.fixOutcome (s : State) (n : Nat) (st : Status) (reason : Nat) : State :=
  let x := s.slot n
  let s := s.setSlot n
    { x with
      state := 5, status := st.code, reason := reason, time := x.stamp (s.act n) s.tb.now, ended := true, listening := false }
  s.countOutcome st.code reason

/-- A follower without its anchor's consent completes with CANCELLED, reason ANCHOR, and so do those that follow it
(R258); the depth is that of a chain of followers. -/
def State.cancelChain (fuel : Nat) (s : State) (n : Nat) : State :=
  match fuel with
  | 0 => s
  | fuel + 1 =>
    let s := s.fixOutcome n .cancelled 7
    (s.followersOf n).foldl (State.cancelChain fuel) s

/-- A follower is settled when its anchor completes (R258, R267). -/
def State.settle (s : State) (anchor m : Nat) : State :=
  let x := s.slot anchor
  let a := s.act anchor
  let b := s.act m
  let good := x.status == Status.ok.code || x.status == Status.late.code
  if !good || (b.cond == 1 && !x.delivered) || (b.cond == 2 && x.delivered) then s.cancelChain 512 m
  else
    let e := match x.lastEnd with | some t => t | none => s.tb.now
    let quick := b.transmits && b.offset ≤ 40000 && x.frames != 0 && a.kind == 3 && a.freq == b.freq
    s.setSlot m { s.slot m with start := some (e + b.offset), noListen := quick }

/-- Fix an outcome, free the chain the action held and settle its followers (R258, R261). -/
def State.finishAction (s : State) (n : Nat) (st : Status) (reason : Nat) : State :=
  let s := [Chain.s, Chain.t].foldl (fun s c => if (s.chain c).holder = some n then s.releaseChain c else s) s
  let s := s.fixOutcome n st reason
  (s.followersOf n).foldl (fun s m => s.settle n m) s

/-- The work of an action has ended; its chain is free (R251). -/
def State.endWork (s : State) (n : Nat) : State :=
  let s := [Chain.s, Chain.t].foldl (fun s c => if (s.chain c).holder = some n then s.releaseChain c else s) s
  s.setSlot n { s.slot n with ended := true, listening := false }

/-- ACTION_COMPLETE (R261): the outcome of work that has ended. -/
def execActionComplete (n : Nat) (s : State) : Out :=
  .next (
    let x := s.slot n
    if x.ended && x.state == 3 then
      s.finishAction n (if x.stopping then .cancelled else if x.ranLate then .late else .ok) 0
    else s)

/-! ## Submission (R250) -/

/-- A reserved encoding of R250's first row. -/
def actReserved (w0 : Nat) (w2 w3 w4 w5 : Nat) (a : Act) : Bool :=
  let timeBad :=
    if a.timing == 1 then bitsOf w2 9 23 != 0 else a.timing == 2 && a.time != 0
  let modeBad := if a.kind == 5 || a.kind == 4 then a.mode != 0 else a.mode != 0 && !modeExists a.mode
  let w6Bad :=
    match a.kind with
    | 1 => bitsOf a.w6 28 4 != 0
    | 2 => bitsOf a.w6 28 4 != 0
    | 6 => 15 < a.w6 || a.reps == 0
    | 3 => bitsOf a.w6 25 7 != 0 || a.dur == 0
    | 4 => bitsOf a.w6 25 7 != 0 || a.dur < 2560
    | _ => a.w6 != 0
  let w7Bad :=
    match a.kind with
    | 1 => bitsOf a.w7 21 11 != 0
    | 2 => bitsOf a.w7 21 11 != 0
    | 6 => false
    | 5 => bitsOf a.w7 9 23 != 0
    | _ => a.w7 != 0
  let tx := a.kind == 1 || a.kind == 2
  let lrBad := tx && modeLr a.mode
    && (a.pre == 1 || 64 < a.pre || (if a.fec then a.rate != 0 || a.inc != 0 || a.ncls != 0 else a.ncls == 3))
  let fskBad := tx && modeFsk a.mode && 1000 < a.pre
  a.kind == 0 || 7 ≤ a.kind || a.timing == 3 || a.cond == 3
  || w0 &&& 0xFF0000C0 != 0 || bitsOf w3 30 2 != 0 || w4 &&& 0xF0080000 != 0
  || (if tx then w5 % 8 != 0 else w5 != 0) || (a.kind == 5 && w3 != 0)
  || timeBad || modeBad || w6Bad || w7Bad || lrBad || fskBad

/-- A condition of R250's second row. -/
def State.actForbidden (s : State) (n : Nat) (a : Act) : Bool :=
  let anchor := s.slot a.anchor
  let live := 1 ≤ anchor.state && anchor.state ≤ 4
  448 ≤ n || s.mode == 5
  || (a.kind != 5 && !inChainRange a.chain a.freq)
  || (a.kind != 5 && a.kind != 4 && !modeOnChain a.mode a.chain)
  || (a.kind == 3 && modeWake a.mode)
  || (a.kind == 6 && !modeWake a.mode)
  || (a.lg && a.kind != 1 && a.kind != 2)
  || (a.timing == 1 && !live)
  || (a.timing == 1 && a.transmits && a.offset < turnOf a.mode (s.act a.anchor).mode)
  || (modeLe a.mode && (leChannel a.freq).isNone)

/-- The code a submission ends with (R250). -/
def State.submitCode (s : State) (n : Nat) : Status :=
  let a := s.act n
  if actReserved (s.actW n 0) (s.actW n 2) (s.actW n 3) (s.actW n 4) (s.actW n 5) a then .reservedValue
  else if s.actForbidden n a then .notPermitted
  else if (s.slot n).state != 0 || (a.timing == 1 && !(s.followersOf a.anchor).isEmpty) then .busy
  else .pending

/-- The action of a slot is accepted (R250, R272). -/
def State.acceptAction (s : State) (n : Nat) (own : Option (List Byte)) : State :=
  let a := s.act n
  let g := (s.slotGen n + 1) % 128
  let x : Slot :=
    { state := if a.lg then 6 else 1, order := s.lnk.order, start := if a.timing = 0 then some a.time else none, own := own }
  ({ s with lnk := { s.lnk with
      order := s.lnk.order + 1, gens := Sparse.insert s.lnk.gens n g, slots := Sparse.insert s.lnk.slots n x } }).lnkCount 0

/-- Put a result into CMDSTAT (R250, R254). -/
def State.cmdStat (s : State) (n : Nat) (st : Status) : State :=
  s.setRegN A.lnkCmdstat (2 ^ 16 * st.code + 512 * s.slotGen n + n)

/-- LNK_SUBMIT (R250). A write from user privilege changes nothing (R8, R274). -/
def execLnkSubmit (user : Bool) (w : Word) (s : State) : Out :=
  guarded user s (
    if s.comUp then
      let n := bitsOf w.toNat 0 9
      let st := s.submitCode n
      let s := if st = .pending then s.acceptAction n none else s
      s.cmdStat n st
    else s)

/-! ## Cancellation (R254) -/

/-- A transmit action's ramp-up has started, or its receiver is open (R254). -/
def State.begun (s : State) (n : Nat) : Bool :=
  let c := s.slotChain n
  (s.chain c).holder == some n && 4 ≤ s.chState c && s.chState c ≤ 7

/-- A frame past sync is being received on a chain's narrow path. -/
def State.pastSync (s : State) (c : Chain) : Bool :=
  s.narrowChain (s.narrowCtx c) == some c && (s.ctx (s.narrowCtx c)).busy

/-- Cancel one action (R254): the code for CMDSTAT and the state. -/
def State.cancelOne (s : State) (n : Nat) : Status × State :=
  let a := s.act n
  let x := s.slot n
  let c := s.slotChain n
  match x.state with
  | 1 => (.ok, s.finishAction n .cancelled 0)
  | 4 => (.ok, s.finishAction n .cancelled 0)
  | 6 => (.ok, s.finishAction n .cancelled 0)
  | 2 =>
    let s := if (s.chain c).holder = some n then s.setChain c { s.chain c with tx := none, stamping := false } else s
    (.ok, s.finishAction n .cancelled 0)
  | 3 =>
    if x.ended then (.notPermitted, s)
    else if a.transmits then
      if s.begun n && s.chState c != 4 then (.busy, s.setSlot n (if a.kind = 6 then { x with stopping := true } else x))
      else if a.kind = 6 && x.sent != 0 then (.busy, s.finishAction n .cancelled 0)
      else
        let s := s.setChain c { s.chain c with tx := none, stamping := false }
        (.ok, s.finishAction n .cancelled 0)
    else if a.receives then
      let x := { x with stopping := true, closing := true }
      if s.pastSync c && (s.chain c).holder = some n then (.ok, s.setSlot n x)
      else (.ok, (s.setSlot n x).endWork n)
    else (.notPermitted, s)
  | _ => (.notPermitted, s)

/-- LNK_CANCEL (R254). -/
def execLnkCancel (user : Bool) (w : Word) (s : State) : Out :=
  guarded user s (
    if s.comUp then
      let n := bitsOf w.toNat 0 9
      if bitAt w.toNat 31 then
        let l := s.liveSlots.filter (fun m => m < 448 && [1, 4, 6, 2].contains (s.slot m).state)
        (l.foldl (fun s m => if [1, 4, 6, 2].contains (s.slot m).state then (s.cancelOne m).2 else s) s).cmdStat n .ok
      else if 448 ≤ n then s.cmdStat n .notPermitted
      else
        let (st, s) := s.cancelOne n
        s.cmdStat n st
    else s)

/-! ## NEXT (R252, R274) -/

/-- The earliest claim tick among PENDING ABS actions (R252). -/
def State.nextClaim (s : State) : Option Nat :=
  s.liveSlots.foldl (fun best n =>
    if (s.slot n).state == 1 && (s.act n).timing == 0 && !(s.slot n).asap then
      match s.claimTick n, best with
      | some t, some b => some (min t b)
      | some t, none => some t
      | none, b => b
    else best) none

/-- LNK_NEXT0_READ (R274): the low half is returned, and NEXT1 latches the high half. -/
def execLnkNext0Read (s : State) : Out :=
  .next (
    if s.comUp then
      let t := s.nextClaim.getD (2 ^ 64 - 1)
      let s := (s.setRegN A.lnkNext0 (t % 2 ^ 32)).setRegN A.lnkNext1 (t / 2 ^ 32)
      { s with busData := s.reg A.lnkNext0, busError := false }
    else { s with busError := true })

/-! ## Ring and buffer configuration (R262, R264, R275) -/

/-- RING_READ_ADVANCE (R262): a write to a ring's RD. -/
def execRingReadAdvance (user : Bool) (r : Nat) (w : Word) (s : State) : Out :=
  guarded user s (
    if s.comUp && r < 4 then 
      let s := (s.setFld (F.lnkRingrdIndex r) (bitsOf w.toNat 0 12)).ringLevel r
      s.flushEntries s.tnt.entries
    else s)

/-- A write to a ring's base or size waits until no entry is being written (R275). -/
def State.stageRing (s : State) (r : Nat) : State :=
  { s with lnk := { s.lnk with ringStaged := r :: s.lnk.ringStaged.erase r } }

/-- A write to RXBASE, RXCOUNT or BUFSZ waits until no frame is being written (R275). -/
def State.stageRx (s : State) : State := { s with lnk := { s.lnk with rxStaged := true } }

/-- RING_CONFIG_APPLY (R275). -/
def execRingConfigApply (r : Nat) (s : State) : Out :=
  .next (
    if s.lnk.ringStaged.contains r then
      let x := (64 * s.fld (F.lnkRingbaseBase r), s.fld (F.lnkRingsizeSize r))
      let s := { s with lnk := { s.lnk with ringStaged := s.lnk.ringStaged.erase r, rings := Sparse.insert s.lnk.rings r x } }
      let s := ((s.setFld (F.lnkRingwrIndex r) 0).setFld (F.lnkRingrdIndex r) 0).ringLevel r
      s.flushEntries s.tnt.entries
    else s)

/-- RX_CONFIG_APPLY (R275): every buffer is free. -/
def execRxConfigApply (s : State) : Out :=
  .next (
    if s.lnk.rxStaged then
      { s with lnk := { s.lnk with
          rxStaged := false, taken := [], rxBase := 8 * s.fld F.lnkRxbaseBase, rxCount := s.fld F.lnkRxcountCount,
          rxSz := s.fld F.lnkRxcfgBufsz } }
    else s)

/-- RXRELEASE (R264, R275). -/
def execRxrelease (user : Bool) (w : Word) (s : State) : Out :=
  guarded user s (
    if s.comUp then
      let b := bitsOf w.toNat 0 10
      if b < s.lnk.rxCount && s.lnk.taken.contains b then { s with lnk := { s.lnk with taken := s.lnk.taken.erase b } }
      else s.raise F.lnkIntstatRelerr
    else s)

end Sys2Proof.Machine
end

