-- ==== Sys2Proof/Machine/Mac.lean ====
section
/-!
DEFINITION. What the hardware reads of an IEEE 802.15.4-2020 MAC frame: its source address, its Header IEs and its MAC
payload, and the frames that the tenant engine and the journal compose (R286, R289, R318, R338, R385). The header's own
layout is that standard's; this manual names it and does not give it (assumption log).
-/

namespace Sys2Proof.Machine

/-- What the hardware reads of a MAC frame: its source address (none; short; extended), its Header IEs as (offset,
length, Element ID), the offset of its MAC payload. -/
structure MacView where
  security : Bool
  src   : Option (Bool × Nat)
  ies   : List (Nat × Nat × Nat)
  body  : Nat
  /-- The offset of the auxiliary security header, where there is one. -/
  aux   : Nat
  deriving DecidableEq, Repr

/-- Octets of an address of a mode: 2 short, 3 extended. -/
def addrLen (m : Nat) : Nat := if m = 2 then 2 else if m = 3 then 8 else 0

/-- Does a frame hold the destination and the source PAN ID: versions 0-1, and the table of version 2. -/
def panPresent (ver comp dst src : Nat) : Bool × Bool :=
  if ver < 2 then (dst != 0, src != 0 && comp == 0)
  else if dst = 0 && src = 0 then (comp == 1, false)
  else if src = 0 then (comp == 0, false)
  else if dst = 0 then (false, comp == 0)
  else if dst = 3 && src = 3 then (comp == 0, false)
  else (true, comp == 0)

/-- Header IEs from an offset, with where they end: a termination IE, or an IE beyond the frame, ends the list. -/
def headerIes (fuel : Nat) (bs : List Byte) (off : Nat) : List (Nat × Nat × Nat) × Nat :=
  match fuel with
  | 0 => ([], off)
  | fuel + 1 =>
    let d := leAt bs off 2
    let len := bitsOf d 0 7
    let id := bitsOf d 7 8
    if bs.length < off + 2 || bitAt d 15 || bs.length < off + 2 + len then ([], off)
    else if id = 0x7E || id = 0x7F then ([], off + 2 + len)
    else
      let r := headerIes fuel bs (off + 2 + len)
      ((off, len, id) :: r.1, r.2)

/-- Octets of an auxiliary security header at an offset. -/
def auxLen (bs : List Byte) (off : Nat) : Nat :=
  let c := byteAt bs off
  1 + (if bitAt c 5 then 0 else 4) + (match bitsOf c 3 2 with | 0 => 0 | 1 => 1 | 2 => 5 | _ => 9)

/-- Read a MAC frame; none where it is no data frame or too short. -/
def macView (bs : List Byte) : Option MacView :=
  let fcf := leAt bs 0 2
  if bs.length < 3 || bitsOf fcf 0 3 != 1 then none
  else
    let ver := bitsOf fcf 12 2
    let dst := bitsOf fcf 10 2
    let src := bitsOf fcf 14 2
    let pans := panPresent ver (bitsOf fcf 6 1) dst src
    let o := 2 + (if ver = 2 && bitAt fcf 8 then 0 else 1) + (if pans.1 then 2 else 0) + addrLen dst + (if pans.2 then 2 else 0)
    let srcAddr := if src = 2 then some (false, leAt bs o 2) else if src = 3 then some (true, leAt bs o 8) else none
    let o := o + addrLen src
    let sec := bitAt fcf 3
    let aux := o
    let o := if sec then o + auxLen bs o else o
    let r := if bitAt fcf 9 then headerIes 64 bs o else ([], o)
    if bs.length < r.2 then none else some { security := sec, src := srcAddr, ies := r.1, body := r.2, aux := aux }

/-- The three octets of an OUI, in the order the standard writes them. -/
def ouiBytes (oui : Nat) : List Byte := [Byte.ofN (oui / 65536), Byte.ofN (oui / 256), Byte.ofN oui]

/-- The IE is a vendor-specific Header IE of an OUI. -/
def vendorIe (bs : List Byte) (oui : Nat) (ie : Nat × Nat × Nat) : Bool :=
  ie.2.2 == 0 && 3 ≤ ie.2.1 && (bs.drop (ie.1 + 2)).take 3 == ouiBytes oui

/-- It has the shape of a length and a SUBID (R318, R338, R385). -/
def subIe (bs : List Byte) (oui len subid : Nat) (ie : Nat × Nat × Nat) : Bool :=
  vendorIe bs oui ie && ie.2.1 == len && byteAt bs (ie.1 + 5) == subid

/-- A Time IE (R318). -/
def timeIe (bs : List Byte) (oui : Nat) (ie : Nat × Nat × Nat) : Bool := subIe bs oui 13 0x54 ie
/-- A Custody IE (R338). -/
def custodyIe (bs : List Byte) (oui : Nat) (ie : Nat × Nat × Nat) : Bool := subIe bs oui 4 0x43 ie
/-- A tunnel IE (R385). -/
def tunnelIe (bs : List Byte) (oui : Nat) (ie : Nat × Nat × Nat) : Bool := subIe bs oui 4 0x48 ie

/-- A Header IE that marks an LCP (R289). -/
def lcpIe (bs : List Byte) (oui : Nat) (ie : Nat × Nat × Nat) : Bool :=
  vendorIe bs oui ie && !timeIe bs oui ie && !custodyIe bs oui ie && !tunnelIe bs oui ie

/-- `TNT.LCOUI`. -/
def State.oui (s : State) : Nat := s.fld F.tntLcouiOui

/-- The device's EUI-64 (R240). -/
def State.eui (s : State) : Nat := s.regN A.sysUidlo + 2 ^ 32 * s.regN A.sysUidhi

/-- The default TXH: the exclusive-or of the eight octets of the EUI-64 (R240). -/
def State.defaultTxh (s : State) : Nat := (leBytes 8 s.eui).foldl (fun x b => x ^^^ b.toNat) 0

/-- A data frame the engine composes: extended addresses, one vendor-specific Header IE, the termination IE, the MAC
payload and an FCS of four octets. The sequence number, the PAN ID and the FCS are free: the manual does not give the
first two, and the standard gives the third. -/
def State.composeFrame (s : State) (peer : Nat) (ie body : List Byte) : List Byte × State :=
  let (sn, s) := s.draw 256
  let (pan, s) := s.draw 65536
  let (fcs, s) := s.draw (2 ^ 32)
  let head := leBytes 2 0xEE01 ++ leBytes 1 sn ++ leBytes 2 pan ++ leBytes 8 peer ++ leBytes 8 s.eui
  (head ++ ie ++ leBytes 2 0x3F80 ++ body ++ leBytes 4 fcs, s)

/-- A vendor-specific Header IE of the device's OUI with contents (R289, R318, R338). -/
def State.vendor (s : State) (content : List Byte) : List Byte :=
  leBytes 2 (3 + content.length) ++ ouiBytes s.oui ++ content

end Sys2Proof.Machine
end

