-- ==== Sys2Proof/Machine/Links.lean ====
section
/-!
DEFINITION. Link contexts (R278-R282), tenants' queues and accounts (R293-R299), and the link-state machine with its
commands (R283-R292, R305, R306).
-/

namespace Sys2Proof.Machine

/-! ## Link contexts (R278-R281) -/

/-- The address of a byte of a context. -/
def lkAddr (i off : Nat) : Nat := 0x30000000 + 0x100 * i + off
/-- A field of a context. -/
def State.lk (s : State) (i off k : Nat) : Nat := s.mem (lkAddr i off) k
/-- Set a field of a context. -/
def State.setLk (s : State) (i off k v : Nat) : State := s.setMem (lkAddr i off) k v

/-- STATE of a context (R281). -/
def State.lkState (s : State) (i : Nat) : Nat := s.lk i 2 1 % 16
/-- HANDLE of a context. -/
def State.lkHandle (s : State) (i : Nat) : Nat := s.lk i 0 2
/-- ROLE: this end is the leader (R279). -/
def State.lkLeader (s : State) (i : Nat) : Bool := bitAt (s.lk i 3 1) 0
/-- The link's tenant. -/
def State.lkTenant (s : State) (i : Nat) : Nat := s.lk i 4 1
/-- The link's chain, 0 or 1. -/
def State.lkChain (s : State) (i : Nat) : Nat := s.lk i 5 1 % 2
/-- The link's mode. -/
def State.lkMode (s : State) (i : Nat) : Nat := s.lk i 6 1
/-- PEER. -/
def State.lkPeer (s : State) (i : Nat) : Nat := s.lk i 8 8
/-- WIN in µs. -/
def State.lkWin (s : State) (i : Nat) : Nat := s.lk i 0x12 2
/-- INTERVAL in µs; 0 for an unscheduled link. -/
def State.lkInterval (s : State) (i : Nat) : Nat := s.lk i 0x14 4
/-- ANCHOR. -/
def State.lkAnchor (s : State) (i : Nat) : Nat := s.lk i 0x18 8
/-- EVCNT. -/
def State.lkEvcnt (s : State) (i : Nat) : Nat := s.lk i 0x28 4
/-- SWAPEVT. -/
def State.lkSwapevt (s : State) (i : Nat) : Nat := s.lk i 0x30 4

/-- A handle's index (R280). -/
def handleIdx (h : Nat) : Nat := h % 1024
/-- A handle is stale (R280). -/
def State.stale (s : State) (h : Nat) : Bool :=
  65536 ≤ h || s.lkState (handleIdx h) == 0 || s.lkHandle (handleIdx h) != h

/-- The links that are not FREE. -/
def State.liveLinks (s : State) : List Nat := s.tnt.work.map Prod.fst
/-- What the engine keeps of a link. -/
def State.lkWork (s : State) (i : Nat) : LinkWork := (Sparse.find? s.tnt.work i).getD {}
/-- Set it. -/
def State.setLkWork (s : State) (i : Nat) (x : LinkWork) : State :=
  { s with tnt := { s.tnt with work := Sparse.insert s.tnt.work i x } }

/-- Counter `k` of a link rises (R304). -/
def State.lkCount (s : State) (i k : Nat) : State := s.setLk i (0x70 + 4 * k) 4 (s.lk i (0x70 + 4 * k) 4 + 1)

/-- The event counter `a` is at or after `b` (R285). -/
def evAfter (a b : Nat) : Bool := (a + 2 ^ 32 - b) % 2 ^ 32 < 2 ^ 31

/-- A swap takes effect at the event EVCNT (R290). -/
def State.swapNow (s : State) (i : Nat) : Bool := (s.lkWork i).swapping && s.lkEvcnt i == s.lkSwapevt i
/-- The role this end has at the event EVCNT. -/
def State.roleNow (s : State) (i : Nat) : Bool := s.lkLeader i != s.swapNow i
/-- The channel map in force at the event EVCNT (R289). -/
def State.mapNow (s : State) (i : Nat) : Nat :=
  if (s.lkWork i).mapStaged && s.lkEvcnt i == s.lk i 0x54 4 then s.lk i 0x58 20 else s.lk i 0x40 20

/-- The `n`-th set bit of a map, from a bit on. -/
def nthBit (fuel map bit n : Nat) : Nat :=
  match fuel with
  | 0 => bit
  | fuel + 1 => if bitAt map bit then (if n = 0 then bit else nthBit fuel map (bit + 1) (n - 1)) else nthBit fuel map (bit + 1) n

/-- The channel of event or exchange EVCNT (R285). -/
def State.lkChannel (s : State) (i : Nat) : Nat :=
  let map := s.mapNow i
  let n := popCount 160 map
  let x := s.eui ^^^ s.lkPeer i
  let h := bitsOf x 0 16 ^^^ bitsOf x 16 16 ^^^ bitsOf x 32 16 ^^^ bitsOf x 48 16
  nthBit 160 map 0 ((37 * s.lkEvcnt i + h) % n)

/-- Its frequency (R279). -/
def State.lkFreq (s : State) (i : Nat) : Nat := bitsOf (s.lk i 0x38 4) 0 30 + s.lkChannel i * s.lk i 0x3C 4

/-! ## Tenants (R293, R298) -/

/-- A setting of the TENANT section (R293). -/
def State.tntCfg (s : State) (i : Nat) : Nat := s.cfg 7 2 0 i
/-- The tenant exists. -/
def State.tntExists (s : State) (t : Nat) : Bool := t < 8 && bitAt (s.tntCfg t) 31
/-- SHARE in 1/1,024. -/
def State.tntShare (s : State) (t : Nat) : Nat := bitsOf (s.tntCfg t) 16 11
/-- CAP in µs. -/
def State.tntCap (s : State) (t : Nat) : Nat := bitsOf (s.tntCfg (0x10 + t)) 0 24
/-- WEIGHT and QLIM. -/
def State.tntWeight (s : State) (t : Nat) : Nat := bitsOf (s.tntCfg (0x20 + t)) 24 8
/-- QLIM. -/
def State.tntQlim (s : State) (t : Nat) : Nat := bitsOf (s.tntCfg (0x20 + t)) 0 12
/-- The tenant is express on a chain. -/
def State.tntExpress (s : State) (t c : Nat) : Bool := s.tntExists t && bitAt (s.tntCfg t) (28 + c)
/-- The express tenant of a chain. -/
def State.expressOf (s : State) (c : Nat) : Option Nat := (List.range 8).find? (fun t => s.tntExpress t c)
/-- QUANTUM in ticks; it resets to 500 µs (R293). -/
def State.quantum (s : State) : Nat := 40 * (if s.tntCfg 0x40 = 0 then 500 else s.tntCfg 0x40)

/-- Counter `k` of a tenant rises by `n` (R304). -/
def State.tntCount (s : State) (t k n : Nat) : State := s.countBy (A.tntCtr (8 * t + k)) n

/-- A tenant's airtime of the round on a chain in ticks. -/
def State.airOf (s : State) (t c : Nat) : Nat := (Sparse.find? s.tnt.air (2 * t + c)).getD 0
/-- A tenant is over its share on a chain (R298). -/
def State.overShare (s : State) (t c : Nat) : Bool := s.tntShare t * 40000000 ≤ 1024 * s.airOf t c

/-- A tenant's queue for a chain. -/
def State.queueOf (s : State) (t c : Nat) : List Desc := (Sparse.find? s.tnt.queues (2 * t + c)).getD []
/-- Set it. -/
def State.setQueue (s : State) (t c : Nat) (q : List Desc) : State :=
  { s with tnt := { s.tnt with queues := Sparse.insert s.tnt.queues (2 * t + c) q } }
/-- Descriptors queued for a tenant. -/
def State.qDepth (s : State) (t : Nat) : Nat := (s.queueOf t 0).length + (s.queueOf t 1).length
/-- Links of a tenant that are not FREE. -/
def State.tntLinks (s : State) (t : Nat) : Nat := (s.liveLinks.filter (fun i => s.lkTenant i == t)).length

/-- Units of a bucket that make one bin: 3,600 s in ticks times 1,024 (R298). -/
def bucketBin : Nat := 144000000000 * 1024
/-- What a tenant has used of its bucket in a band by now, in units: it refills at its capacity per 3,600 s. -/
def State.bucketUsed (s : State) (t b : Nat) : Nat :=
  match Sparse.find? s.tnt.used (8 * t + b) with
  | none => 0
  | some u => u.1 - s.tntShare t * (s.rlrBand b).limit * (s.tb.now - u.2)
/-- The bucket covers `n` bins. -/
def State.bucketCovers (s : State) (t b n : Nat) : Bool :=
  (s.rlrBand b).limit == 0 || s.bucketUsed t b + n * bucketBin ≤ s.tntShare t * (s.rlrBand b).limit * 144000000000
/-- Charge `n` bins to a tenant's bucket in the bands of a frame (R298). -/
def State.bucketCharge (s : State) (t n : Nat) (bands : List Nat) : State :=
  bands.foldl (fun s b =>
    if (s.rlrBand b).limit = 0 then s
    else { s with tnt := { s.tnt with used := Sparse.insert s.tnt.used (8 * t + b) (s.bucketUsed t b + n * bucketBin, s.tb.now) } }) s

/-- B of R179: bins of a PA-active time in ticks. -/
def dutyBins (d : Nat) : Nat := (d + 39999) / 40000 + 1

/-! ## Descriptors (R295, R296) -/

/-- A link is secured (R453). -/
def State.lkSecured (s : State) (i : Nat) : Bool := bitAt (s.lk i 0x36 1) 7

/-- PSDU length of a descriptor's frame, with the 13 octets that in-line security adds (R453). -/
def State.descLen (s : State) (d : Desc) : Nat :=
  d.len + (if s.lkSecured (handleIdx d.link) && bitAt d.flags 1 then 13 else 0)

/-- The airtime of a descriptor's frame in ticks. -/
def State.descAir (s : State) (d : Desc) : Nat :=
  airtimeTicks (s.lkMode (handleIdx d.link)) 0 (bitsOf d.lr 0 2) (bitsOf d.lr 6 2) (bitsOf d.lr 4 2) (bitAt d.lr 3) (s.descLen d)

/-- X of a frame in ticks, with a reply window or without (R295). -/
def State.exchangeX (s : State) (d : Desc) (reply : Bool) : Nat :=
  let i := handleIdx d.link
  let m := s.lkMode i
  let r := s.rampOf (chainOf (s.lkChain i)) m
  r + s.descAir d + (if reply then turnTicks m + 40 * s.lkWin i else r)

/-- X of a descriptor's frame in ticks (R295). -/
def State.descX (s : State) (d : Desc) : Nat := s.exchangeX d (bitAt d.flags 0)

/-- The bins of a descriptor's frame (R179). -/
def State.descBins (s : State) (d : Desc) : Nat :=
  let i := handleIdx d.link
  dutyBins (2 * s.rampOf (chainOf (s.lkChain i)) (s.lkMode i) + s.descAir d)

/-- The tenant's duty bucket covers a frame (R297, R298). -/
def State.descCovered (s : State) (d : Desc) : Bool :=
  let i := handleIdx d.link
  (s.bandsOf (s.lkChain i) (s.lkFreq i)).all (fun b => s.bucketCovers (s.lkTenant i) b (s.descBins d))

/-- A descriptor from its 16 bytes (R295). -/
def Desc.parse (b : List Byte) : Desc :=
  { link := leAt b 0 2, flags := byteAt b 2, power := byteAt b 3, buf := leAt b 4 4, len := bitsOf (leAt b 8 2) 0 11,
    lr := byteAt b 10, ctag := leAt b 12 2, tag := leAt b 14 2 }

/-- Reserved bits of a descriptor (R295). -/
def descReserved (b : List Byte) : Bool :=
  bitAt (byteAt b 2) 3 || bitsOf (byteAt b 2) 6 2 != 0 || leAt b 4 4 % 8 != 0 || bitsOf (leAt b 8 2) 11 5 != 0
  || bitAt (byteAt b 10) 2 || byteAt b 11 != 0 || bitsOf (leAt b 12 2) 13 3 != 0

/-- The code a post ends with (R296); `jrn` says that the journal engine posts. -/
def State.postCode (s : State) (d : Desc) (reserved jrn : Bool) : Status :=
  let i := handleIdx d.link
  let t := s.lkTenant i
  if reserved || d.len = 0 then .reservedValue
  else if s.stale d.link || s.lkState i != 2 || (bitAt d.flags 1 && !jrn)
    || (s.tntCap t != 0 && 40 * s.tntCap t < s.descX d) then .notPermitted
  else if s.tntQlim t ≤ s.qDepth t then .quota
  else .pending

/-- Post a descriptor (R296). An automatic CTAG is drawn as a roll is (R240, R458). -/
def State.postDesc (s : State) (d : Desc) (reserved jrn : Bool) : Status × State :=
  let st := s.postCode d reserved jrn
  let i := handleIdx d.link
  let t := s.lkTenant i
  if st = .pending then
    let (d, s) := if bitAt d.ctag 12 then (let (r, s) := s.roll; ({ d with ctag := r % 4096 }, s)) else (d, s)
    let c := s.lkChain i
    (st, (s.setQueue t c (s.queueOf t c ++ [d])).tntCount t 0 1)
  else if st = .quota then (st, (s.tntCount t 4 1).raise F.tntIntstatQuota)
  else (st, s)

/-- QPOST (R296). -/
def execQpost (user : Bool) (w : Word) (s : State) : Out :=
  guarded user s (
    if s.comUp then
      let b := s.bytes (w.toNat / 8 * 8) 16
      let (st, s) := s.postDesc (Desc.parse b) (descReserved b || w.toNat % 8 != 0) false
      s.setRegN A.tntQstat (2 ^ 16 * st.code + (Desc.parse b).link)
    else s)

/-- The completion entry of a descriptor (R299). -/
def State.descEntry (s : State) (d : Desc) (st reason tries : Nat) (lbt : Bool) (time : Nat) : List Byte :=
  [Byte.ofN (3 + 16 * b2n lbt + 32 * b2n d.withdrawn), Byte.ofN reason] ++ leBytes 2 st ++ leBytes 2 d.link
  ++ [Byte.ofN (s.lkTenant (handleIdx d.link)), Byte.ofN tries] ++ leBytes 2 d.tag ++ leBytes 2 0 ++ leBytes 4 time

/-- A message of the journal by JSEQ is changed. -/
def State.mapMsg (s : State) (j : Nat) (f : Msg → Msg) : State :=
  { s with jrn := { s.jrn with msgs := s.jrn.msgs.map (fun m => if m.jseq == j then f m else m) } }

/-- The journal hears that a descriptor of its own ended: a transmission made starts the retransmission interval
(R340, R344). -/
def State.msgSent (s : State) (j : Nat) (made : Bool) : State :=
  s.mapMsg j (fun m =>
    { m with posted := false, sent := m.sent || made, due := some (s.tb.now + 40000 * s.fld F.jrnRetxcfgInterval) })

/-- A descriptor ends: counters (R304) and its entry (R299). The frames the engine composes itself have no descriptor,
and those of the journal are answered to the journal. -/
def State.endDesc (s : State) (d : Desc) (st reason tries : Nat) (lbt : Bool) (time : Nat) : State :=
  let i := handleIdx d.link
  let t := s.lkTenant i
  let ok := st == Status.ok.code || st == Status.late.code
  let s := s.lkCount i (if ok then 2 else 3)
  if d.lcp != 0 then s
  else
    let s := s.tntCount t (if ok then 1 else 2) 1
    let s := if ok && s.tntExpress t (s.lkChain i) then s.tntCount t 7 1 else s
    match d.msg with
    | some j => s.msgSent j ok
    | none => if d.own.isSome then s else s.putEntry (bitsOf d.flags 4 2) (s.descEntry d st reason tries lbt time)

/-! ## Up and down (R281, R288, R306) -/

/-- The status of a LINK_STATE notice (R306). -/
def downStatus (st reason : Nat) : Status := if st = 4 && 3 ≤ reason then .missed else .ok

/-- The LINK_STATE notice (R306). -/
def State.linkNotice (s : State) (i : Nat) : State :=
  let b := s.lk i 2 1
  s.notice 0xC5 (leBytes 2 (s.lkHandle i) ++ [Byte.ofN (b % 16), Byte.ofN (s.lk i 3 1)] ++ leBytes 4 (s.lkEvcnt i)
    ++ leBytes 2 (downStatus (b % 16) (b / 16)).code ++ leBytes 2 0)

/-- The LINK_SWAPPED notice (R306). -/
def State.swapNotice (s : State) (i : Nat) (st : Status) : State :=
  s.notice 0xC6 (leBytes 2 (s.lkHandle i) ++ leBytes 2 st.code ++ leBytes 4 (s.lkSwapevt i)
    ++ [Byte.ofN (s.lk i 3 1), 0, 0, 0])

/-- The messages whose fixed next hop is the peer of a link. -/
def State.hopMsgs (s : State) (i : Nat) (f : Msg → Msg) : State :=
  { s with jrn := { s.jrn with
      msgs := s.jrn.msgs.map (fun m => if m.nextHop == some (s.lkChain i, s.lkPeer i) then f m else m) } }

/-- A link goes UP (R281); the retransmission intervals of its peer's messages run on (R355). -/
def State.linkUp (s : State) (i : Nat) : State :=
  let s := (s.setLk i 2 1 2).setLkWork i { s.lkWork i with tries := 0 }
  let s := s.hopMsgs i (fun m =>
    match m.left with | some d => { m with due := some (s.tb.now + d), left := none } | none => m)
  (s.raise F.tntIntstatLinkup).linkNotice i

/-- A slot's work has not ramped. -/
def State.notRamped (s : State) (n : Nat) : Bool :=
  [1, 2, 4].contains (s.slot n).state
  || ((s.slot n).state == 3 && !(s.slot n).ended && !(s.begun n && s.chState (s.slotChain n) != 4))

/-- The tenant engine's actions for a link that have not ramped are cancelled (R288). -/
def State.cancelFlights (s : State) (i : Nat) : State :=
  s.tnt.flights.foldl (fun s p =>
    if handleIdx p.2.link = i then
      let l := [p.2.txSlot, p.2.rxSlot].filterMap id
      l.foldl (fun s n => if s.notRamped n then (s.cancelOne n).2 else s) s
    else s) s

/-- A link leaves UP (R288): its descriptors complete with CANCELLED, reason LINKDOWN. -/
def State.leaveUp (s : State) (i : Nat) : State :=
  let t := s.lkTenant i
  let c := s.lkChain i
  let q := s.queueOf t c
  let mine (d : Desc) : Bool := handleIdx d.link == i
  let s := s.setQueue t c (q.filter (fun d => !mine d))
  let s := (q.filter mine).foldl (fun s d => s.endDesc d Status.cancelled.code 12 0 false s.tb.now) s
  let s := s.cancelFlights i
  s.hopMsgs i (fun m =>
    match m.due with | some t => { m with due := none, left := some (t - s.tb.now) } | none => m)

/-- A link goes DOWN for a reason (R281). -/
def State.linkDown (s : State) (i reason : Nat) : State :=
  let s := if s.lkState i = 2 then s.leaveUp i else s.cancelFlights i
  let s := { s with tnt := { s.tnt with lcps := Sparse.erase s.tnt.lcps i } }
  let s := s.setLkWork i {}
  let s := s.setLk i 3 1 (setBitsOf (s.lk i 3 1) 3 1 0)
  ((s.setLk i 2 1 (4 + 16 * reason)).raise F.tntIntstatLinkdown).linkNotice i

/-! ## Link-control frames (R289) -/

/-- The frames that wait for a link's next event or exchange. -/
def State.lcpsOf (s : State) (i : Nat) : List Desc := (Sparse.find? s.tnt.lcps i).getD []
/-- Set them. -/
def State.setLcps (s : State) (i : Nat) (l : List Desc) : State :=
  { s with tnt := { s.tnt with lcps := if l.isEmpty then Sparse.erase s.tnt.lcps i else Sparse.insert s.tnt.lcps i l } }

/-- A link-control frame of an OP with its bytes from 6 (R289). Its power, and in Long Reach its rate and mother length,
are free: the manual gives no value for the engine's own frames. -/
def State.lcpFrame (s : State) (i op : Nat) (rest : List Byte) : Desc × State :=
  let pdu := [Byte.ofN op, 0] ++ leBytes 4 (s.lkEvcnt i) ++ rest
  let (f, s) := s.composeFrame (s.lkPeer i) (s.vendor []) pdu
  let (pw, s) := s.draw 256
  let (lr, s) := s.draw 12
  ({ link := s.lkHandle i, flags := 0, power := pw, buf := 0, len := f.length, lr := 64 * (lr / 3) + 16 * (lr % 3),
     ctag := 0x1000, tag := 0, own := some f, lcp := op }, s)

/-- Queue a link-control frame of a link, in place of an earlier one of the same OP. -/
def State.queueLcp (s : State) (i op : Nat) (rest : List Byte) : State :=
  let (d, s) := s.lcpFrame i op rest
  s.setLcps i ((s.lcpsOf i).filter (fun x => x.lcp != op) ++ [d])

/-- OPEN's bytes from 6 (R289, R437). -/
def State.openBytes (s : State) (i : Nat) : List Byte :=
  leBytes 4 (s.lkInterval i) ++ leBytes 4 (s.lk i 0x2C 4) ++ leBytes 2 (s.lkWin i)
  ++ [Byte.ofN (bitsOf (s.lk i 3 1) 1 2 * 2), Byte.ofN s.fw.wireGen] ++ leBytes 4 (s.lk i 0x38 4)
  ++ leBytes 4 (s.lk i 0x3C 4) ++ leBytes 20 (s.lk i 0x40 20)

/-! ## Commands (R283, R288-R290, R302) -/

/-- A context's template breaks R283's first row. -/
def State.openReserved (s : State) (i : Nat) : Bool :=
  let sup := s.lk i 0x2C 4
  let int := s.lkInterval i
  bitsOf (s.lk i 3 1) 4 4 != 0 || bitsOf (s.lk i 5 1) 1 7 != 0 || s.lk i 0x37 1 != 0 || bitsOf (s.lk i 0x38 4) 30 2 != 0
  || s.lk i 0x6C 4 != 0 || bitsOf (s.lk i 0x36 1) 4 3 != 0
  || !(100 ≤ sup && sup ≤ 600000)
  || !(int == 0 || (5000 ≤ int && int ≤ sup * 500))
  || s.lkWin i < 64 || (int != 0 && int / 2 < s.lkWin i)
  || s.lk i 0x40 20 == 0
  || (int == 0 && !(s.fw.wireMin ≤ s.lk i 7 1 && s.lk i 7 1 ≤ s.fw.wireGen))

/-- A set CHMAP bit gives a frequency outside the chain's range (R283). -/
def State.openRange (s : State) (i : Nat) : Bool :=
  (List.range 160).all (fun k =>
    !bitAt (s.lk i 0x40 20) k || inChainRange (s.lkChain i) (bitsOf (s.lk i 0x38 4) 0 30 + k * s.lk i 0x3C 4))

/-- The code of an OPEN (R283). -/
def State.openCode (s : State) (i : Nat) : Status :=
  let t := s.lkTenant i
  if s.openReserved i then .reservedValue
  else if s.lkState i != 0 || !s.tntExists t || !modeOnChain (s.lkMode i) (s.lkChain i) || modeWake (s.lkMode i)
    || !s.openRange i then .notPermitted
  else if bitsOf (s.tntCfg t) 0 11 ≤ s.tntLinks t then .quota
  else if s.liveLinks.any (fun j => s.lkChain j == s.lkChain i && s.lkPeer j == s.lkPeer i) then .busy
  else .pending

/-- OPEN (R283, R284). -/
def State.openLink (s : State) (i : Nat) : Status × State :=
  let st := s.openCode i
  if st = .pending then
    let s := ((s.setLkWork i {}).setLk i 0x20 8 s.tb.now).setLk i 0x28 4 0
    let s := s.setLk i 3 1 (setBitsOf (s.lk i 3 1) 3 1 0)
    if s.lkInterval i = 0 then (st, s.linkUp i)
    else
      let s := s.setLk i 2 1 1
      (st, if s.lkLeader i then s.queueLcp i 1 (s.openBytes i) else s)
  else if st = .quota then (st, s.raise F.tntIntstatQuota)
  else (st, s)

/-- CLOSE (R288): only an UP link is closed (R281). -/
def State.closeLink (s : State) (h : Nat) : Status × State :=
  let i := handleIdx h
  if s.stale h || s.lkState i != 2 then (.notPermitted, s)
  else
    let s := s.leaveUp i
    let s := (s.setLk i 2 1 3).setLkWork i { s.lkWork i with tries := 0 }
    (.pending, s.queueLcp i 3 [])

/-- RELEASE (R280, R288): DOWN to FREE; the generation advances modulo 63, and the counters end. -/
def State.releaseLink (s : State) (h : Nat) : Status × State :=
  let i := handleIdx h
  if s.stale h || s.lkState i != 4 then (.notPermitted, s)
  else
    let g := (h / 1024 + 1) % 63
    let s := { s with tnt := { s.tnt with work := Sparse.erase s.tnt.work i, lcps := Sparse.erase s.tnt.lcps i } }
    (.ok, ((s.setLk i 0 2 (1024 * g + i)).setLk i 2 1 0).setLk i 0x70 32 0)

/-- SWAP (R290). -/
def State.swapLink (s : State) (h : Nat) : Status × State :=
  let i := handleIdx h
  if s.stale h || s.lkState i != 2 || !bitAt (s.lk i 3 1) 1 || s.lkInterval i == 0 then (.notPermitted, s)
  else if bitAt (s.lk i 3 1) 3 then (.busy, s)
  else
    let (r, s) := s.roll
    let e := (s.lkEvcnt i + s.fld F.tntCfgSwaplead) % 2 ^ 32
    let s := ((s.setLk i 0x34 2 r).setLk i 0x30 4 e).setLk i 3 1 (setBitsOf (s.lk i 3 1) 3 1 1)
    let s := s.setLkWork i { s.lkWork i with asking := true }
    (.pending, s.queueLcp i 5 (leBytes 2 r ++ leBytes 4 e))

/-- CHMAP (R289, R302): the new map is in bytes 0x90-0xA3. -/
def State.mapLink (s : State) (h : Nat) : Status × State :=
  let i := handleIdx h
  if s.stale h || s.lkState i != 2 || s.lkInterval i == 0 || !s.lkLeader i then (.notPermitted, s)
  else if (s.lkWork i).mapStaged then (.busy, s)
  else
    let e := (s.lkEvcnt i + s.fld F.tntCfgSwaplead) % 2 ^ 32
    let map := s.lk i 0x90 20
    let s := (s.setLk i 0x54 4 e).setLk i 0x58 20 map
    let s := s.setLkWork i { s.lkWork i with mapStaged := true, mapping := true }
    (.pending, s.queueLcp i 7 (leBytes 4 e ++ leBytes 20 map))

/-- A link operation by its OP of R302. -/
def State.linkOp (s : State) (op : Nat) (h : Nat) : Status × State :=
  match op with
  | 1 => s.openLink (handleIdx h)
  | 2 => s.closeLink h
  | 3 => s.releaseLink h
  | 4 => s.swapLink h
  | _ => s.mapLink h

/-- A write to TNT.LINKCMD with an OP (R283, R302). -/
def State.linkCmd (s : State) (op : Nat) (w : Word) : State :=
  if s.comUp then
    let h := bitsOf w.toNat 0 16
    let (st, s) := if bitsOf w.toNat 16 12 != 0 then (Status.reservedValue, s) else s.linkOp op h
    let h := if op = 1 then s.lkHandle (handleIdx h) else h
    s.setRegN A.tntLinkstat (2 ^ 16 * st.code + h)
  else s

/-- LINKCMD_OPEN (R283). -/
def execLinkcmdOpen (user : Bool) (w : Word) (s : State) : Out := guarded user s (s.linkCmd 1 w)
/-- LINKCMD_CLOSE (R288). -/
def execLinkcmdClose (user : Bool) (w : Word) (s : State) : Out := guarded user s (s.linkCmd 2 w)
/-- LINKCMD_RELEASE (R288). -/
def execLinkcmdRelease (user : Bool) (w : Word) (s : State) : Out := guarded user s (s.linkCmd 3 w)
/-- LINKCMD_SWAP (R290). -/
def execLinkcmdSwap (user : Bool) (w : Word) (s : State) : Out := guarded user s (s.linkCmd 4 w)
/-- LINKCMD_CHMAP (R289). -/
def execLinkcmdChmap (user : Bool) (w : Word) (s : State) : Out := guarded user s (s.linkCmd 5 w)

/-! ## Host commands (R305) -/

/-- The template that LINK_OPEN carries goes into a context, but for the bytes that hardware alone sets (R282, R305). -/
def State.putTemplate (s : State) (i : Nat) (p : List Byte) : State :=
  let b := p.drop 4
  let s := s.setLk i 3 1 (setBitsOf (byteAt p 2) 3 1 0)
  let s := s.setBytes (lkAddr i 4) (b.take 28)
  let s := s.setBytes (lkAddr i 0x2C) ((b.drop 40).take 4)
  s.setBytes (lkAddr i 0x36) ((b.drop 50).take 58)

/-- LINK_OPEN's handler (R305): the bytes go into the FREE context. -/
def handleLinkOpen : Handler := fun _ p s =>
  let i := leAt p 0 2
  if 1024 ≤ i || byteAt p 3 != 0 then (.now .reservedValue [], s)
  else
    let s := if s.lkState i = 0 then s.putTemplate i p else s
    let (st, s) := s.openLink i
    (.now st (leBytes 2 (s.lkHandle i) ++ leBytes 2 0), s)

/-- LINK_OPEN (R305). -/
def execLinkOpen (o : Origin) (p : List Byte) (s : State) : Out := .next (hostCommand 0x00 (· == 112) handleLinkOpen o p s)

/-- A handler of a link command with a handle (R305). -/
def handleLink (op : Nat) : Handler := fun _ p s =>
  if leAt p 2 2 != 0 then (.now .reservedValue [], s)
  else
    let (st, s) := s.linkOp op (leAt p 0 2)
    (.now st [], s)

/-- LINK_CLOSE (R305). -/
def execLinkClose (o : Origin) (p : List Byte) (s : State) : Out := .next (hostCommand 0x01 (· == 4) (handleLink 2) o p s)
/-- LINK_RELEASE (R305). -/
def execLinkRelease (o : Origin) (p : List Byte) (s : State) : Out := .next (hostCommand 0x02 (· == 4) (handleLink 3) o p s)
/-- LINK_SWAP (R305). -/
def execLinkSwap (o : Origin) (p : List Byte) (s : State) : Out := .next (hostCommand 0x03 (· == 4) (handleLink 4) o p s)

/-- LINK_GET's handler (R305). -/
def handleLinkGet : Handler := fun _ p s =>
  if leAt p 2 2 != 0 then (.now .reservedValue [], s)
  else if s.stale (leAt p 0 2) then (.now .notPermitted [], s)
  else (.now .ok (s.bytes (lkAddr (handleIdx (leAt p 0 2)) 0) 144), s)

/-- LINK_GET (R305). -/
def execLinkGet (o : Origin) (p : List Byte) (s : State) : Out := .next (hostCommand 0x04 (· == 4) handleLinkGet o p s)

/-- TSTAT of a tenant (R302). -/
def State.tstat (s : State) (t : Nat) : Nat :=
  2 ^ 31 * b2n (s.tntExists t && s.overShare t 1) + 2 ^ 30 * b2n (s.tntExists t && s.overShare t 0)
  + 2 ^ 16 * s.tntLinks t + s.qDepth t

/-- TENANT_STATUS's handler (R305). -/
def handleTenantStatus : Handler := fun _ p s =>
  let t := byteAt p 0
  if 8 ≤ t || !allZero (p.drop 1) then (.now .reservedValue [], s)
  else (.now .ok (leBytes 4 (s.tstat t) ++ ((List.range 8).map (fun k => leBytes 4 (s.regN (A.tntCtr (8 * t + k))))).flatten), s)

/-- TENANT_STATUS (R305). -/
def execTenantStatus (o : Origin) (p : List Byte) (s : State) : Out :=
  .next (hostCommand 0x05 (· == 4) handleTenantStatus o p s)

end Sys2Proof.Machine
end

