-- ==== Sys2Proof/Machine/Tenants.lean ====
section
/-!
DEFINITION. The tenant engine at work: its actions in slots 448-511, scheduling passes (R297), exchanges and their
charges (R298), link events (R285, R290-R292), received link-control PDUs (R284, R288-R291), supervision (R287), and
the writing of completions (R262, R299).
-/

namespace Sys2Proof.Machine

/-! ## Actions of the engine (R248, R297) -/

/-- The free slots of the tenant engine, lowest first. -/
def State.tntSlots (s : State) : List Nat := ((List.range 64).map (· + 448)).filter (fun n => (s.slot n).state == 0)

/-- Write a slot's record. -/
def State.putRecord (s : State) (n : Nat) (ws : List Nat) : State :=
  (ws.zip (List.range 8)).foldl (fun s p => s.setRegN (A.lnkAction (8 * n + p.2)) p.1) s

/-- The PRI bit of a tenant's action (R297). -/
def State.priBit (s : State) (t c : Nat) : Nat := if s.tntExpress t c then 0x20 else 0

/-- Submit a descriptor's frame in a slot on a frequency: ASAP, or ABS at a tick. -/
def State.submitTx (s : State) (n : Nat) (d : Desc) (start : Option Nat) (freq : Nat) : State :=
  let i := handleIdx d.link
  let c := s.lkChain i
  let t := s.lkTenant i
  let w0 := 2 ^ 16 * s.lkMode i + (if bitAt d.flags 2 then 0 else 2 ^ 14) + 2 ^ 10 * bitsOf d.flags 4 2
    + (if start.isSome then 0 else 2 ^ 9) + s.priBit t c + 16 * c + 1
  let time := start.getD 0
  let w4 := 2 ^ 20 * d.power + 2 ^ 16 * t + d.link
  let w6 := 2 ^ 16 * bitsOf d.lr 0 2 + 2 ^ 14 * bitsOf d.lr 6 2 + 2 ^ 12 * bitsOf d.lr 4 2 + 2 ^ 11 * bitsOf d.lr 3 1 + s.descLen d
  let s := s.putRecord n [w0, time % 2 ^ 32, time / 2 ^ 32, freq, w4, d.buf, w6, 2 ^ 20 + d.ctag % 4096]
  s.acceptAction n d.own

/-- Submit a receive window in a slot: FOLLOW of an anchor at the turnaround T, or ABS at a tick. -/
def State.submitRx (s : State) (n i us : Nat) (anchor : Option Nat) (start : Nat) : State :=
  let c := s.lkChain i
  let t := s.lkTenant i
  let w0 := 2 ^ 16 * s.lkMode i + (if anchor.isSome then 2 ^ 8 else 0) + s.priBit t c + 16 * c + 3
  let time := match anchor with | some a => turnTicks (s.lkMode i) + 2 ^ 32 * a | none => start
  let s := s.putRecord n [w0, time % 2 ^ 32, time / 2 ^ 32, s.lkFreq i, 2 ^ 16 * t + s.lkHandle i, 0, us % 2 ^ 24, 0]
  s.acceptAction n none

/-- The exchange in flight on a chain. -/
def State.flight (s : State) (c : Nat) : Option Flight := Sparse.find? s.tnt.flights c
/-- Set it. -/
def State.setFlight (s : State) (c : Nat) (f : Flight) : State :=
  { s with tnt := { s.tnt with flights := Sparse.insert s.tnt.flights c f } }
/-- No exchange is in flight any more. -/
def State.clearFlight (s : State) (c : Nat) : State :=
  { s with tnt := { s.tnt with flights := Sparse.erase s.tnt.flights c } }

/-- Start an exchange of a frame, with its reply window (R297). An exchange of an unscheduled link counts in EVCNT
(R285). -/
def State.startExchange (s : State) (d : Desc) (start : Option Nat) (reply : Option Nat) (event : Bool) : State :=
  let i := handleIdx d.link
  let c := s.lkChain i
  match s.tntSlots with
  | n :: m :: _ =>
    let x := s.exchangeX d reply.isSome
    let s := s.submitTx n d start (s.lkFreq i)
    let s := match reply with | some us => s.submitRx m i us (some n) 0 | none => s
    let s := if s.lkInterval i = 0 then s.setLk i 0x28 4 (s.lkEvcnt i + 1) else s
    s.setFlight c
      { link := d.link, tenant := s.lkTenant i, desc := some d, txSlot := some n,
        rxSlot := if reply.isSome then some m else none, x := x, event := event }
  | _ => s

/-- The reply window of a descriptor. -/
def State.replyOf (s : State) (d : Desc) : Option Nat := if bitAt d.flags 0 then some (s.lkWin (handleIdx d.link)) else none

/-! ## Charges (R298) -/

/-- An exchange ends and is charged to its tenant. -/
def State.chargeExchange (s : State) (c : Nat) (f : Flight) : State :=
  if f.desc.isNone then s
  else
    let t := f.tenant
    let past := s.overShare t c
    let s := s.tntCount t 5 (f.x / 40)
    let s := if past then s.tntCount t 6 (f.x / 40) else s
    let s := { s with tnt := { s.tnt with air := Sparse.insert s.tnt.air (2 * t + c) (s.airOf t c + f.x) } }
    if !past && s.overShare t c then s.raise F.tntIntstatOvershare else s

/-! ## The scheduling pass (R297) -/

/-- The head frame of a tenant's queue for a chain where it is eligible: its link is UP and unscheduled, and its bucket
covers it. The frames of scheduled links go at their events. -/
def State.eligible (s : State) (t c : Nat) : Option Desc :=
  match s.queueOf t c with
  | [] => none
  | d :: _ =>
    let i := handleIdx d.link
    if s.lkState i == 2 && s.lkInterval i == 0 && s.descCovered d then some d else none

/-- 1. Withdraw another tenant's exchange for an express frame. -/
def State.withdraw (s : State) (c : Nat) : State :=
  match s.expressOf c, s.flight c with
  | some e, some f =>
    if (s.eligible e c).isSome && f.tenant != e then
      match f.txSlot with
      | some n =>
        if s.notRamped n then
          let s := (s.cancelOne n).2
          let s := match f.rxSlot with | some m => if [1, 2].contains (s.slot m).state then (s.cancelOne m).2 else s | none => s
          let s := (s.clearFlight c).tntCount f.tenant 3 1
          let s := s.raise F.tntIntstatWithdraw
          match f.desc with
          | some d =>
            if d.lcp != 0 then s
            else s.setQueue f.tenant c ({ d with withdrawn := true } :: s.queueOf f.tenant c)
          | none => s
        else s
      | none =>
        -- an event that only listens has not ramped either
        match f.rxSlot with
        | some m =>
          if f.desc.isNone && s.notRamped m then (((s.cancelOne m).2.clearFlight c).tntCount f.tenant 3 1).raise F.tntIntstatWithdraw
          else s
        | none => s
    else s
  | _, _ => s

/-- The bytes from 6 of a repeated link-control frame (R289, R290). -/
def State.repeatBytes (s : State) (i op : Nat) : List Byte :=
  match op with
  | 1 => s.openBytes i
  | 5 => leBytes 2 (s.lk i 0x34 2) ++ leBytes 4 (s.lkSwapevt i)
  | 7 => leBytes 4 (s.lk i 0x54 4) ++ leBytes 20 (s.lk i 0x58 20)
  | _ => []

/-- The frame a link sends at its event or in an answer: a link-control frame, else the head frame queued for the link,
else KEEPALIVE with that flag (R285). Repeated frames stay queued. -/
def State.takeFrame (s : State) (i : Nat) : Option Desc × State :=
  let t := s.lkTenant i
  let c := s.lkChain i
  match s.lcpsOf i with
  | d :: rest =>
    if [1, 3, 5, 7].contains d.lcp then
      let (f, s) := s.lcpFrame i d.lcp (s.repeatBytes i d.lcp)
      (some f, s)
    else (some d, s.setLcps i rest)
  | [] =>
    match (s.queueOf t c).find? (fun d => handleIdx d.link == i) with
    | some d =>
      if s.lkState i == 2 && s.descCovered d then (some d, s.setQueue t c ((s.queueOf t c).erase d)) else (none, s)
    | none =>
      if s.lkState i == 2 && bitAt (s.lk i 3 1) 2 then
        let (f, s) := s.lcpFrame i 8 []
        (some f, s)
      else (none, s)

/-- The start of a scheduled link's next event: ANCHOR for the leader, WIN / 2 before it for the follower (R284, R285). -/
def State.eventStart (s : State) (i : Nat) : Nat := if s.roleNow i then s.lkAnchor i else s.lkAnchor i - 20 * s.lkWin i

/-- A link in OPENING has had its OPENTRIES events, or one in CLOSING its four (R281). -/
def State.givenUp (s : State) (i : Nat) : Bool :=
  (s.lkState i == 1 && s.fld F.tntCfgOpentries ≤ (s.lkWork i).tries) || (s.lkState i == 3 && 4 ≤ (s.lkWork i).tries)

/-- A scheduled link whose event falls before the next pass and whose claim tick can be met (R297). -/
def State.eventDue (s : State) (c i : Nat) : Bool :=
  let st := s.lkState i
  let lead := if s.roleNow i then s.rampOf (chainOf c) (s.lkMode i) + max 480 (s.coexLead (chainOf c)) else 680
  1 ≤ st && st ≤ 3 && s.lkInterval i != 0 && s.lkChain i == c && !(s.lkWork i).placed && !s.givenUp i
  && s.eventStart i < (s.tb.now / s.quantum + 1) * s.quantum && s.tb.now + lead ≤ s.eventStart i

/-- The event that comes first on a chain. -/
def State.nextEvent (s : State) (c : Nat) : Option Nat :=
  (s.liveLinks.filter (s.eventDue c)).foldl (fun best i =>
    match best with
    | none => some i
    | some j => if s.eventStart i < s.eventStart j then some i else some j) none

/-- Place a scheduled link's event (R285). -/
def State.placeEvent (s : State) (c i : Nat) : State :=
  let start := s.eventStart i
  let s := s.setLkWork i { s.lkWork i with placed := true }
  let (d, s) := if s.roleNow i then s.takeFrame i else (none, s)
  match d with
  | some d => s.startExchange d (some start) (some (s.lkWin i)) true
  | none =>
    match s.tntSlots with
    | m :: _ =>
      (s.submitRx m i (s.lkWin i) none start).setFlight c
        { link := s.lkHandle i, tenant := s.lkTenant i, rxSlot := some m, event := true }
    | [] => s

/-- A link-control frame of an unscheduled link that waits on a chain (R288). -/
def State.looseLcp (s : State) (c : Nat) : Option Nat :=
  (s.tnt.lcps.map Prod.fst).find? (fun i => s.lkInterval i == 0 && s.lkChain i == c)

/-- Visits that a tenant needs until its deficit covers its head frame: at least one (R297). -/
def State.visits (s : State) (t c : Nat) (d : Desc) : Nat :=
  let def_ := (Sparse.find? s.tnt.deficit (2 * t + c)).getD 0
  let w := 40000 * s.tntWeight t
  max 1 ((s.descX d - def_ + w - 1) / w)

/-- 2.3: deficit round robin over the tenants with an eligible head frame (R297): the visits are made in order until one
is chosen. -/
def State.roundRobin (s : State) (c : Nat) : Option Desc × State :=
  let all := ((List.range 8).filter (fun t => s.tntExists t && !s.tntExpress t c)).filterMap
    (fun t => (s.eligible t c).map (fun d => (t, d)))
  let under := all.filter (fun p => !s.overShare p.1 c)
  let past := all.filter (fun p => s.overShare p.1 c && bitAt (s.tntCfg p.1) 30)
  let l := under ++ past
  let best := l.foldl (fun (b : Option (Nat × Nat × Desc)) p =>
    let v := s.visits p.1 c p.2
    match b with
    | none => some (v, p.1, p.2)
    | some x => if v < x.1 then some (v, p.1, p.2) else some x) none
  match best with
  | none => (none, s)
  | some (r, t, d) =>
    let upto := (l.takeWhile (fun p => p.1 != t)).map Prod.fst
    let s := l.foldl (fun s p =>
      let k := 2 * p.1 + c
      let n := if p.1 = t || upto.contains p.1 then r else r - 1
      let v := (Sparse.find? s.tnt.deficit k).getD 0 + n * 40000 * s.tntWeight p.1
      let v := if p.1 = t then v - s.descX d else v
      { s with tnt := { s.tnt with deficit := Sparse.insert s.tnt.deficit k v } }) s
    (some d, s)

/-- 2 and 3: choose and submit the next exchange of a chain (R297). -/
def State.choose (s : State) (c : Nat) : State :=
  if (s.flight c).isSome then s
  else
    let pop (s : State) (t : Nat) (d : Desc) : State :=
      (s.setQueue t c ((s.queueOf t c).drop 1)).startExchange d none (s.replyOf d) false
    match (s.expressOf c).bind (fun e => (s.eligible e c).map (fun d => (e, d))) with
    | some (e, d) => pop s e d
    | none =>
      match s.nextEvent c with
      | some i => s.placeEvent c i
      | none =>
        match s.looseLcp c with
        | some i =>
          let (d, s) := s.takeFrame i
          match d with
          | some d => s.startExchange d none (if d.lcp = 3 then some (s.lkWin i) else none) false
          | none => s
        | none =>
          match s.roundRobin c with
          | (some d, s) => pop s (s.lkTenant (handleIdx d.link)) d
          | (none, s) => s

/-- An HSL frame's bytes, from DELIM to CRC (R373). -/
def hslBytes (f : HslFrame) : List Byte :=
  let b := leBytes 2 f.payload.length ++ [Byte.ofN (f.kind + 16 * f.ch)] ++ leBytes 2 f.seq ++ f.payload
  Byte.ofN 0xD7 :: (b ++ leBytes 4 (crc32c b))

/-- Post the tunnel's frames as T0 traffic (R385); one that is refused is lost, and R377 and R381 repair it. Their POWER,
and in Long Reach RATE and NCLASS, are free. -/
def State.postTunnel (s : State) : State :=
  s.hsl.tunOut.foldl (fun s f =>
    let h := s.fld F.hslTuncfgHandle
    let (fr, s) := s.composeFrame (s.lkPeer (handleIdx h)) (s.vendor [0x48]) (hslBytes f)
    let (pw, s) := s.draw 256
    let (lr, s) := s.draw 12
    (s.postDesc { link := h, flags := 0, power := pw, buf := 0, len := fr.length, lr := 64 * (lr / 3) + 16 * (lr % 3),
                  ctag := 0x1000, tag := 0, own := some fr } false true).2)
    { s with hsl := { s.hsl with tunOut := [] } }

/-- A scheduling pass (R297). -/
def State.pass (s : State) : State := [0, 1].foldl (fun s c => (s.withdraw c).choose c) s.postTunnel

/-- SCHEDULING_PASS (R297): at every tick that is a multiple of Q. -/
def execSchedulingPass (s : State) : Out :=
  .next (if s.comUp && s.running && s.tb.now % s.quantum = 0 then s.pass else s)

/-! ## Completions (R262, R299) -/

/-- After an exchange of an unscheduled link in CLOSING: DOWN, reason 1, after four of them (R281). -/
def State.closingStep (s : State) (i : Nat) : State :=
  if s.lkState i = 3 && s.lkInterval i = 0 then
    let w := s.lkWork i
    if 3 ≤ w.tries then s.linkDown i 1 else s.setLkWork i { w with tries := w.tries + 1 }
  else s

/-- A slot of the engine has completed: its descriptor ends with its frame, and its exchange with its last action. -/
def State.tntComplete (s : State) (n : Nat) : State :=
  let x := s.slot n
  let a := s.act n
  let s := s.freeSlot n
  match s.tnt.flights.find? (fun p => p.2.txSlot == some n || p.2.rxSlot == some n) with
  | none => s.pass
  | some (c, f) =>
    let tx := f.txSlot == some n
    let g := if tx then { f with txSlot := none } else { f with rxSlot := none }
    let s := match (if tx then f.desc else none) with
      | some d => s.endDesc d x.status x.reason (if a.transmits then x.busy else 0) x.lbt x.time
      | none => s
    if g.txSlot.isNone && g.rxSlot.isNone then
      let s := (s.chargeExchange c f).clearFlight c
      (s.closingStep (handleIdx f.link)).pass
    else (s.setFlight c g).pass

/-- COMPLETION_WRITE (R262): the entry of a slot in DONE is written once its ring has space, and the slot is FREE. -/
def execCompletionWrite (n : Nat) (s : State) : Out :=
  .next (
    if (s.slot n).state != 5 then s
    else if 448 ≤ n then s.tntComplete n
    else if s.ringRoom (s.act n).ring then (s.lnkRingPut (s.act n).ring (s.completion n)).freeSlot n
    else s)

/-! ## Answers (R284, R285) -/

/-- The frequency of a reply: that of the frame it answers (R285), which the link's last frame or its window gives. -/
def State.answerFreq (s : State) (i : Nat) : Nat :=
  match (s.lkWork i).rxFreq with
  | some f => f
  | none =>
    match (s.flight (s.lkChain i)).bind (fun f => if handleIdx f.link = i then f.rxSlot else none) with
    | some m => (s.act m).freq
    | none => s.lkFreq i

/-- The chain has no exchange in flight but the link's own window (R297). -/
def State.mayAnswer (s : State) (i : Nat) : Bool :=
  match s.flight (s.lkChain i) with
  | some f => handleIdx f.link = i && f.txSlot.isNone
  | none => true

/-- A frame of a link is sent at T after the end of the frame it answers; none while another exchange is in flight. -/
def State.answerWith (s : State) (i ended : Nat) (d : Desc) : State :=
  let c := s.lkChain i
  let start := ended + turnTicks (s.lkMode i)
  if !s.mayAnswer i then s
  else
    match s.tntSlots with
    | n :: _ =>
      let x := s.exchangeX d false
      let s := s.submitTx n d (some start) (s.answerFreq i)
      match s.flight c with
      | some f => s.setFlight c { f with desc := some d, txSlot := some n, x := x }
      | none => s.setFlight c { link := d.link, tenant := s.lkTenant i, desc := some d, txSlot := some n, x := x }
    | [] => s

/-- A follower answers a frame of its leader with its own head frame, with KEEPALIVE, or with nothing (R285). -/
def State.followerAnswer (s : State) (i ended : Nat) : State :=
  if s.lkInterval i != 0 && !s.lkLeader i && s.mayAnswer i then
    let (d, s) := s.takeFrame i
    match d with
    | some d => s.answerWith i ended d
    | none => s
  else s

/-- A frame of the peer was heard (R285-R287, R289): LASTHEARD, and a follower's ANCHOR is the frame's stamp. A leader's
map change is acknowledged. -/
def State.heard (s : State) (i ended : Nat) : State :=
  let w := s.lkWork i
  let ack := w.mapping && s.lkLeader i && s.lkState i == 2
  let s := (s.setLk i 0x20 8 ended).setLkWork i { w with heard := true, mapping := w.mapping && !ack }
  if ack then s.setLcps i ((s.lcpsOf i).filter (fun d => d.lcp != 7)) else s

/-- The link of a handle hears LCPs: OPENING, UP or CLOSING (R286). -/
def State.hears (s : State) (h : Nat) : Bool :=
  let st := s.lkState (handleIdx h)
  !s.stale h && 1 ≤ st && st ≤ 3

/-- Octets of an LCP by OP (R289). -/
def lcpLen (op : Nat) : Nat :=
  match op with | 1 => 46 | 2 => 8 | 5 => 12 | 6 => 12 | 7 => 30 | _ => 6

/-- An LCP of an OP arrived on a link: its form is checked, LASTHEARD is set, and it is handled, else it is counted in
LCPBAD (R286, R289). -/
def State.lcpIn (s : State) (op h ended : Nat) (p : List Byte) (f : State → State) : State :=
  let i := handleIdx h
  if !s.comUp || !s.hears h then s
  else if byteAt p 0 != op || byteAt p 1 != 0 || p.length < lcpLen op then s.lkCount i 5
  else f (s.heard i ended)

/-- Send a link-control answer (R284). -/
def State.lcpAnswer (s : State) (i ended op : Nat) (rest : List Byte) : State :=
  let (d, s) := s.lcpFrame i op rest
  s.answerWith i ended d

/-- A follower takes an OPEN's values, at the generation it computed (R284, R437). -/
def State.takeOpen (s : State) (i ended stamp : Nat) (p : List Byte) : State :=
  let g := min (byteAt p 17) s.fw.wireGen
  let s := ((s.setLk i 0x14 4 (leAt p 6 4)).setLk i 0x2C 4 (leAt p 10 4)).setLk i 0x12 2 (leAt p 14 2)
  let s := s.setLk i 3 1 (setBitsOf (s.lk i 3 1) 1 2 (bitsOf (byteAt p 16) 1 2))
  let s := ((s.setLk i 0x38 4 (leAt p 18 4)).setLk i 0x3C 4 (leAt p 22 4)).setLk i 0x40 20 (leAt p 26 20)
  let s := (s.setLk i 0x18 8 stamp).setLk i 0x28 4 (leAt p 2 4)
  if s.fw.wireMin ≤ g then
    let s := (s.setLk i 7 1 g).lcpAnswer i ended 2 [Byte.ofN g, 0]
    if s.lkState i = 2 then s else s.linkUp i
  else s.lcpAnswer i ended 2 [0, 0]

/-- OPEN (R284, R437): a follower's link, the TMB tick of the frame's stamp and of its end. -/
def execOpenCmd (h stamp ended : Nat) (p : List Byte) (s : State) : Out :=
  .next (s.lcpIn 1 h ended p (fun s =>
    let i := handleIdx h
    if s.lkLeader i || s.lkInterval i = 0 || s.lkState i = 3 then s else s.takeOpen i ended stamp p))

/-- OPEN_ACK (R437). -/
def execOpenAck (h ended : Nat) (p : List Byte) (s : State) : Out :=
  .next (s.lcpIn 2 h ended p (fun s =>
    let i := handleIdx h
    if s.lkLeader i && s.lkState i = 1 then
      let g := byteAt p 6
      let s := s.setLcps i ((s.lcpsOf i).filter (fun d => d.lcp != 1))
      if g != 0 && s.fw.wireMin ≤ g then (s.setLk i 7 1 g).linkUp i else s.linkDown i 4
    else s))

/-- CLOSE (R288): answered with CLOSE_ACK; DOWN with reason 2. -/
def execClose (h ended : Nat) (p : List Byte) (s : State) : Out :=
  .next (s.lcpIn 3 h ended p (fun s =>
    let i := handleIdx h
    let s := s.lcpAnswer i ended 4 []
    let f := s.flight (s.lkChain i)
    -- the answer itself is not one of the frames that the fall of the link cancels
    let s := match f with | some f => s.setFlight (s.lkChain i) { f with link := 0xFFFF } | none => s
    s.linkDown i 2))

/-- CLOSE_ACK (R281). -/
def execCloseAck (h ended : Nat) (p : List Byte) (s : State) : Out :=
  .next (s.lcpIn 4 h ended p (fun s => if s.lkState (handleIdx h) = 3 then s.linkDown (handleIdx h) 1 else s))

/-- KEEPALIVE (R285). -/
def execKeepalive (h ended : Nat) (p : List Byte) (s : State) : Out :=
  .next (s.lcpIn 8 h ended p (fun s => s.followerAnswer (handleIdx h) ended))

/-- CHMAP (R289): a follower stages the new map. -/
def execChmap (h ended : Nat) (p : List Byte) (s : State) : Out :=
  .next (s.lcpIn 7 h ended p (fun s =>
    let i := handleIdx h
    if s.lkLeader i || s.lkState i != 2 then s
    else
      let s := (s.setLk i 0x54 4 (leAt p 6 4)).setLk i 0x58 20 (leAt p 10 20)
      (s.setLkWork i { s.lkWork i with mapStaged := true }).followerAnswer i ended))

/-! ## Role swap (R290, R291) -/

/-- This end's swap request ends without a swap of its own (R290, R306). -/
def State.endAsk (s : State) (i : Nat) (st : Status) : State :=
  let s := s.setLkWork i { s.lkWork i with asking := false }
  let s := s.setLk i 3 1 (setBitsOf (s.lk i 3 1) 3 1 0)
  let s := s.setLcps i ((s.lcpsOf i).filter (fun d => d.lcp != 5))
  let s := if st = .collision then s.raise F.tntIntstatCollision else s
  (s.raise F.tntIntstatSwapdone).swapNotice i st

/-- A swap at an event is agreed. -/
def State.agreeSwap (s : State) (i e : Nat) : State :=
  let s := s.setLkWork i { s.lkWork i with asking := false, swapping := true }
  let s := s.setLcps i ((s.lcpsOf i).filter (fun d => d.lcp != 5))
  (s.setLk i 0x30 4 e).setLk i 3 1 (setBitsOf (s.lk i 3 1) 3 1 1)

/-- Answer a swap request. -/
def State.swapAnswer (s : State) (i ended e : Nat) (st : Status) : State :=
  s.lcpAnswer i ended 6 (leBytes 2 st.code ++ leBytes 4 e)

/-- SWAP_REQ (R290, R291). -/
def execSwapReq (h ended : Nat) (p : List Byte) (s : State) : Out :=
  .next (s.lcpIn 5 h ended p (fun s =>
    let i := handleIdx h
    let roll := leAt p 6 2
    let e := leAt p 8 4
    let w := s.lkWork i
    let mine := s.lk i 0x34 2
    if w.asking then
      if roll < mine || (roll == mine && s.lkPeer i < s.eui) then s.swapAnswer i ended e .collision
      else ((s.endAsk i .collision).agreeSwap i e).swapAnswer i ended e .ok
    else if w.swapping && s.lkSwapevt i == e then s.swapAnswer i ended e .ok
    else if s.lkState i == 2 && !evAfter (s.lkEvcnt i) ((e + 2 ^ 32 - 2) % 2 ^ 32) then
      (s.agreeSwap i e).swapAnswer i ended e .ok
    else s.swapAnswer i ended e .missed))

/-- SWAP_RSP (R290, R291): OK swaps; every other status ends the request with MISSED. -/
def execSwapRsp (h ended : Nat) (p : List Byte) (s : State) : Out :=
  .next (s.lcpIn 6 h ended p (fun s =>
    let i := handleIdx h
    if (s.lkWork i).asking && leAt p 8 4 == s.lkSwapevt i then
      if leAt p 6 2 == Status.ok.code then s.agreeSwap i (s.lkSwapevt i) else s.endAsk i .missed
    else s))

/-! ## Events (R285, R289-R292) -/

/-- What the event before left: a silence counts, and three of them resolve a role mismatch (R292, R304). -/
def State.eventTally (s : State) (i : Nat) : State :=
  let w := s.lkWork i
  let s := if w.held && !w.heard then s.lkCount i 1 else s
  let n := if w.heard then 0 else w.silent + 1
  let flip := 3 ≤ n && s.lkState i == 2 && (if s.lkLeader i then s.eui < s.lkPeer i else s.lkPeer i < s.eui)
  let s := s.setLkWork i { w with silent := if flip then 0 else n, heard := false }
  if flip then
    ((s.setLk i 3 1 (setBitsOf (s.lk i 3 1) 0 1 (b2n !(s.lkLeader i)))).lkCount i 7).raise F.tntIntstatRoleflip
  else s

/-- What takes effect at the start of the event EVCNT: a swap, a channel map (R289, R290). -/
def State.eventEffects (s : State) (i : Nat) : State :=
  let s := if (s.lkWork i).mapStaged && s.lkEvcnt i == s.lk i 0x54 4 then
      let s := (s.setLk i 0x40 20 (s.lk i 0x58 20)).setLkWork i { s.lkWork i with mapStaged := false, mapping := false }
      s.setLcps i ((s.lcpsOf i).filter (fun d => d.lcp != 7))
    else s
  if s.swapNow i then
    let f := setBitsOf (setBitsOf (s.lk i 3 1) 3 1 0) 0 1 (b2n !(s.lkLeader i))
    let s := (s.setLkWork i { s.lkWork i with swapping := false }).setLk i 3 1 f
    ((s.lkCount i 6).raise F.tntIntstatSwapdone).swapNotice i .ok
  else s

/-- LINK_EVENT (R285): a scheduled link's ANCHOR is reached. A link that has had its last event in vain goes DOWN in
place of one more (R281). -/
def State.linkEvent (s : State) (i : Nat) : State :=
  let w := s.lkWork i
  let s := s.eventTally i
  if s.givenUp i then s.linkDown i (if s.lkState i = 1 then 4 else 1)
  else
    let s := s.eventEffects i
    let s := s.lkCount i (if w.placed then 0 else 1)
    let s := (s.setLk i 0x28 4 (s.lkEvcnt i + 1)).setLk i 0x18 8 (s.lkAnchor i + 40 * s.lkInterval i)
    let s := s.setLkWork i { s.lkWork i with placed := false, held := w.placed, tries := w.tries + 1 }
    if (s.lkWork i).asking && evAfter (s.lkEvcnt i) ((s.lkSwapevt i + 2 ^ 32 - 2) % 2 ^ 32) then s.endAsk i .missed else s

/-- LINK_EVENT (R285). -/
def execLinkEvent (i : Nat) (s : State) : Out :=
  .next (
    if s.comUp && i < 1024 && 1 ≤ s.lkState i && s.lkState i ≤ 3 && s.lkInterval i != 0 && s.lkAnchor i ≤ s.tb.now
    then s.linkEvent i else s)

/-- SUPERVISION_TIMEOUT (R287): the test waits for a frame past sync on the link's chain, and none runs while TMB is
stopped. -/
def execSupervisionTimeout (i : Nat) (s : State) : Out :=
  .next (
    if s.comUp && i < 1024 && s.lkState i == 2 && s.tb.run != .stopped && !s.pastSync (chainOf (s.lkChain i))
        && s.lk i 0x20 8 + 40000 * s.lk i 0x2C 4 < s.tb.now then s.linkDown i 3 else s)

end Sys2Proof.Machine
end

