-- ==== Sys2Proof/Machine/Hsl.lean ====
section
/-!
DEFINITION. The Host Serial Link at work (R366-R391): its status, sync, the sending, acknowledging and repeating of
notices, arbitration on HSL-1, discards, and the start-up of the notice queue.
-/

namespace Sys2Proof.Machine

/-! ## Status (R370, R389) -/

/-- The boot ROM or the firmware serves the link: start-up step 9 has ended (R370). -/
def State.linkServed (s : State) : Bool := s.pw.boot == .run || s.pw.boot == .service || s.pw.boot == .halt

/-- HSL_READY (R370). -/
def State.hslReady (s : State) : Bool :=
  s.linkServed && s.comUp && !(s.flag F.clkPllcEn && !s.flag F.clkStatClock && s.flag F.pmuStatXrefrdy)

/-- `HSL.STAT` (R389). -/
def State.hslStat (s : State) : Nat :=
  let opened := ((List.range 15).map (fun c => 2 ^ (16 + c) * b2n (s.chan .loc c).opened)).foldl (· + ·) 0
  opened + 128 * b2n ((List.range 15).any (fun c => (s.chan .tunnel c).opened)) + 64 * b2n s.tunnelUp
  + 32 * b2n s.hsl.wake + 16 * b2n s.hslReady + 4 * s.fld F.clkStatCpuhf + s.hsl.variant

/-- Notices sent and not acknowledged. -/
def State.inFlight (s : State) : Nat :=
  (s.hsl.notices.filter Notice.sent).length + (match s.hsl.lost with | some l => b2n l.sent | none => 0)

/-- `HSL.NQSTAT` (R389). -/
def State.hslNqstat (s : State) : Nat :=
  2 ^ 16 * (s.hsl.nseq % 256) + 2 ^ 15 * b2n s.hsl.lost.isSome + 2 ^ 11 * min 15 s.inFlight
  + s.hsl.notices.length + b2n s.hsl.lost.isSome

/-! ## HSL_SYNC and HSL_STATUS (R376, R387) -/

/-- Open every channel of an endpoint and clear its stored responses; a command that runs goes on. -/
def State.openChannels (s : State) (ep : Endpoint) : State :=
  (List.range 15).foldl (fun s c =>
    let x := s.chan ep c
    s.setChan ep c (if x.running then { x with opened := true } else { opened := true })) s

/-- HSL_SYNC's handler (R387). -/
def handleHslSync : Handler := fun o _ s =>
  let s := (s.openChannels o.ep).raise F.hslIntstatSync
  (.now .ok (leBytes 4 (s.regN A.rstCause) ++ leBytes 2 (s.fld F.rstRstcountCount) ++ leBytes 2 s.hsl.nseq
    ++ leBytes 4 (s.regN A.sysBootstat)), s)
/-- HSL_SYNC (R376). -/
def execHslSync (o : Origin) (p : List Byte) (s : State) : Out := .next (hostCommand 0x10 (· == 0) handleHslSync o p s)

/-- HSL_STATUS's handler (R387). -/
def handleHslStatus : Handler := fun _ _ s =>
  (.now .ok (leBytes 4 s.hslStat ++ leBytes 4 (s.regN A.hslCfg) ++ leBytes 4 s.hslNqstat
    ++ ((List.range 8).map (fun k => leBytes 4 (s.regN (A.hslCtr k)))).flatten), s)
/-- HSL_STATUS (R387). -/
def execHslStatus (o : Origin) (p : List Byte) (s : State) : Out :=
  .next (hostCommand 0x15 (· == 0) handleHslStatus o p s)

/-! ## Acknowledging a command late (R378) -/

/-- HSL_ACK_TIMER (R378): 100 us after a taken command with no RSP. -/
def execHslAckTimer (ep : Endpoint) (ch : Nat) (s : State) : Out :=
  .next (
    let c := s.chan ep ch
    match c.last with
    | some q =>
      if c.running && !c.acked && c.since + 4000 ≤ s.tb.now then
        (s.setChan ep ch { c with acked := true }).send { ep := ep, kind := 4, ch := ch, seq := q, payload := [] }
      else s
    | none => s)

/-! ## Notices (R381, R382) -/

/-- The notices' sink (R381). -/
def State.sink (s : State) : Endpoint := if s.flag F.hslCfgNsink then .tunnel else .loc

/-- The sink is up: HSL_WAKE is high on the local link; the tunnel link is UP (R371, R381). -/
def State.sinkUp (s : State) : Bool :=
  s.comUp && s.linkServed && (match s.sink with | .tunnel => s.tunnelUp | _ => s.hsl.wake)

/-- The payload of an NTC: code, zero, the notice payload (R373). -/
def ntcPayload (code : Nat) (payload : List Byte) : List Byte := Byte.ofN code :: 0 :: payload

/-- The NOTICE_LOST payload (R382). -/
def LostSum.payload (l : LostSum) : List Byte :=
  leBytes 4 l.count ++ leBytes 8 l.codes ++ leBytes 4 l.first ++ leBytes 4 l.last

/-- Send an NTC on the sink. -/
def State.sendNotice (s : State) (code seq : Nat) (payload : List Byte) : State :=
  s.send { ep := s.sink, kind := 3, ch := 15, seq := seq, payload := ntcPayload code payload }

/-- A sequence number stands before another in the queue's order. -/
def seqBefore (a b : Nat) : Bool := 1 ≤ (b + 65536 - a) % 65536 && (b + 65536 - a) % 65536 < 32768

/-- Send an ordinary notice for the first time. -/
def State.sendFirst (s : State) (n : Notice) : State :=
  let f (x : Notice) : Notice := if x.seq = n.seq && !x.sent then { x with sent := true, sentAt := s.tb.now } else x
  { s with hsl := { s.hsl with notices := s.hsl.notices.map f } }.sendNotice n.code n.seq n.payload

/-- Send NOTICE_LOST for the first time. -/
def State.sendLost (s : State) (l : LostNotice) : State :=
  { s with hsl := { s.hsl with lost := some { l with sent := true, sentAt := s.tb.now } } }.sendNotice 0xC1 l.seq l.sum.payload

/-- NOTICE_SEND (R381): the first queued notice not yet sent; NOTICE_LOST stands at its sequence number. -/
def execNoticeSend (s : State) : Out :=
  .next (
    if !s.sinkUp || s.fld F.hslCfgNwin ≤ s.inFlight then s
    else
      let n := s.hsl.notices.find? (fun n => !n.sent)
      let l := match s.hsl.lost with | some l => if l.sent then none else some l | none => none
      match n, l with
      | none, none => s
      | some n, none => s.sendFirst n
      | none, some l => s.sendLost l
      | some n, some l => if seqBefore n.seq l.seq then s.sendFirst n else s.sendLost l)

/-- The retransmission time in ticks: NRTO in 100 us units, or TNRTO in ms on the tunnel (R389). -/
def State.noticeTimeout (s : State) : Nat :=
  match s.sink with
  | .tunnel => 40000 * s.fld F.hslTimingTnrto
  | _ => 4000 * s.fld F.hslTimingNrto

/-- An ordinary notice in flight whose time has come (R381). -/
def State.dueNotice (s : State) (seq : Nat) : Option Notice :=
  s.hsl.notices.find? (fun n => n.seq == seq && n.sent && n.sentAt + s.noticeTimeout ≤ s.tb.now)

/-- NOTICE_RETRANSMIT (R381, R391): the notice of a SEQ is sent again with that SEQ. -/
def execNoticeRetransmit (seq : Nat) (s : State) : Out :=
  .next (
    if !s.sinkUp then s
    else
      match s.dueNotice seq, s.hsl.lost with
      | some n, _ =>
        let f (x : Notice) : Notice := if x.seq = seq then { x with sentAt := s.tb.now } else x
        ({ s with hsl := { s.hsl with notices := s.hsl.notices.map f } }.sendNotice n.code n.seq n.payload).count (A.hslCtr 5)
      | none, some l =>
        if l.seq = seq && l.sent && l.sentAt + s.noticeTimeout ≤ s.tb.now then (s.sendLost l).count (A.hslCtr 5) else s
      | none, none => s)

/-- An ACK on channel 15 frees the entry in flight whose SEQ it names (R381); drops that waited behind a NOTICE_LOST go
into the next one (R382). -/
def State.ackNotice (s : State) (seq : Nat) : State :=
  let keep := s.hsl.notices.filter (fun n => !(n.sent && n.seq == seq))
  let s := { s with hsl := { s.hsl with
      notices := keep, waiting := s.hsl.waiting.filter (fun f => !(f.kind == 3 && f.seq == seq)) } }
  match s.hsl.lost with
  | none => s
  | some l =>
    if l.sent && l.seq = seq then
      if s.hsl.lostWait.count = 0 then { s with hsl := { s.hsl with lost := none } }
      else
        { s with hsl := { s.hsl with
            lost := some { sum := s.hsl.lostWait, seq := s.hsl.nseq }, lostWait := {}, nseq := (s.hsl.nseq + 1) % 65536 } }
    else s

/-- A frame that fails R375's form is counted. -/
def State.badFrame (s : State) : State := (s.count (A.hslCtr 3)).raise F.hslIntstatBadframe

/-- HSL_ACK (R381): on the debug port channel 15 carries nothing (R376). -/
def execHslAck (ep : Endpoint) (seq : Nat) (s : State) : Out :=
  .next (
    if !s.hearsHost ep then s
    else if ep = .debug then (s.frameIn none).badFrame
    else (s.frameIn none).ackNotice seq)

/-! ## HSL-1 (R383, R384) -/

/-- The next frame may go: after a lost arbitration to a CMD, only that command's ACK or RSP (R384). -/
def State.mayFollow (s : State) (f : HslFrame) : Bool :=
  match s.hsl.yieldTo with
  | none => true
  | some c => f.ch == c && (f.kind == 2 || f.kind == 4)

/-- HSL_ARBITRATION (R383, R384): the device has a frame to send and runs the preamble; the host may drive it too. -/
def execHslArbitration (host : Bool) (s : State) : Out :=
  .next (
    if s.hsl.variant != 1 || !s.hsl.wake || !s.comUp then s
    else
      match s.hsl.waiting.filter (fun f => f.ep == .loc && s.mayFollow f) with
      | [] => s
      | f :: _ =>
        if host then { s with hsl := { s.hsl with lostArb := true } }.count (A.hslCtr 7)
        else
          let y := if f.kind = 2 && s.hsl.yieldTo == some f.ch then none else s.hsl.yieldTo
          { s with hsl := { s.hsl with waiting := s.hsl.waiting.erase f, yieldTo := y } }.emit f)

/-- HSL_CONFIG_APPLY (R388): no frame is in progress on the local link. -/
def execHslConfigApply (s : State) : Out :=
  .next (
    if s.comUp then
      { s with hsl := { s.hsl with
          variant := s.fld F.hslCfgVariant, rate := s.fld F.hslCfgRate, uart := s.regN A.hslUartcfg } }.flushWaiting
    else s)

/-- HSL_LENGTH_DISCARD (R374): a LENGTH above 4,096 is discarded at once, a frame discarded under R374 (R391). -/
def execHslLengthDiscard (length : Nat) (s : State) : Out :=
  .next (if s.comUp && 4096 < length then s.count (A.hslCtr 2) else s)

/-! ## Start-up step 9 (R380, R388) -/

/-- The settings in force are those of the registers, which step 9 has loaded (R388). -/
def State.startLink (s : State) : State :=
  { s with hsl := { s.hsl with
      variant := s.fld F.hslCfgVariant, rate := s.fld F.hslCfgRate, uart := s.regN A.hslUartcfg } }

/-- Remove the oldest notice beyond 48 entries, counted into NOTICE_LOST (R380). -/
def State.trimOldest (fuel : Nat) (s : State) : State :=
  match fuel, s.hsl.notices with
  | 0, _ => s
  | _, [] => s
  | fuel + 1, n :: t =>
    if s.hsl.notices.length + b2n s.hsl.lost.isSome ≤ 48 then s
    else State.trimOldest fuel ({ s with hsl := { s.hsl with notices := t } }.dropNotice n.code)

/-- What is left of the notice queue at step 9 (R380): queued MSG_DELIVER notices go, 48 entries at most remain, and none
is in flight any more. -/
def State.trimNotices (s : State) : State :=
  let l := s.hsl.notices.filter (fun n => n.code != 0xC8)
  let lost := s.hsl.lost.map (fun l => { l with sent := false })
  State.trimOldest 64 { s with hsl := { s.hsl with notices := l.map (fun n => { n with sent := false }), lost := lost } }

end Sys2Proof.Machine
end

