-- ==== Sys2Proof/Machine/Journal.lean ====
section
/-!
DEFINITION. The journal engine (R330-R365): records, pages and their two flash copies, the retained mirrors, wear,
submission, commits, hops and transmission, reports, flows, delivery and release.
-/

namespace Sys2Proof.Machine

/-! ## Flows and messages (R332, R333) -/

/-- SEQ a is after SEQ b (R332). -/
def seqAfter (a b : Nat) : Bool := 1 ≤ (a + 2 ^ 32 - b) % 2 ^ 32 && (a + 2 ^ 32 - b) % 2 ^ 32 < 2 ^ 31
/-- EPOCH a is newer than EPOCH b (R332). -/
def epochNewer (a b : Nat) : Bool := 1 ≤ (a + 2 ^ 16 - b) % 2 ^ 16 && (a + 2 ^ 16 - b) % 2 ^ 16 < 2 ^ 15
/-- `NTM.ROUND0` has reached a round number; comparisons wrap. -/
def State.roundReached (s : State) (d : Nat) : Bool := (s.round0 + 2 ^ 32 - d % 2 ^ 32) % 2 ^ 32 < 2 ^ 31

/-- A flow entry. -/
def State.jFlow (s : State) (f : Nat) : Option Flow := Sparse.find? s.jrn.flows f
/-- Set a flow entry. -/
def State.setFlow (s : State) (f : Nat) (x : Flow) : State :=
  { s with jrn := { s.jrn with flows := Sparse.insert s.jrn.flows f x } }
/-- Change a flow entry. -/
def State.mapFlow (s : State) (f : Nat) (g : Flow → Flow) : State :=
  match s.jFlow f with
  | some x => s.setFlow f (g x)
  | none => s
/-- The lowest free entry. -/
def State.freeFidx (s : State) : Option Nat := (List.range 4096).find? (fun f => (s.jFlow f).isNone)
/-- A held message by its JSEQ. -/
def State.jMsg (s : State) (j : Nat) : Option Msg := s.jrn.msgs.find? (fun m => m.jseq == j)
/-- The messages an entry holds, oldest first. -/
def State.heldBy (s : State) (f : Nat) : List Msg := s.jrn.msgs.filter (fun m => m.fidx == f)
/-- A message leaves. -/
def State.dropMsg (s : State) (j : Nat) : State :=
  { s with jrn := { s.jrn with msgs := s.jrn.msgs.filter (fun m => m.jseq != j) } }
/-- The later of two deadlines (R333). -/
def laterOf (a b : Nat) : Nat := if seqAfter b a then b else a
/-- Counter `k` of the journal rises (R361). -/
def State.jrnCount (s : State) (k : Nat) : State := s.count (A.jrnCtr k)

/-! ## Records (R347) -/

/-- Zeros that fill a body to 16 bytes. -/
def pad16 (b : List Byte) : List Byte := b ++ List.replicate ((16 - b.length % 16) % 16) 0
/-- A record: header and body. -/
def jrnRecord (type fidx jseq w8 w12 : Nat) (body : List Byte) : List Byte :=
  let b := pad16 body
  [Byte.ofN type, Byte.ofN (1 + b.length / 16)] ++ leBytes 2 fidx ++ leBytes 4 jseq ++ leBytes 4 w8 ++ leBytes 4 w12 ++ b
/-- TYPE of a record. -/
def recType (r : List Byte) : Nat := byteAt r 0
/-- FIDX of a record. -/
def recFidx (r : List Byte) : Nat := leAt r 2 2
/-- JSEQ of a record. -/
def recJseq (r : List Byte) : Nat := leAt r 4 4
/-- The body of an ACCEPT record: EPOCH, LEN, HOP, ECRC, PREVPEER, payload. -/
def acceptBody (epoch hop ecrc prev : Nat) (payload : List Byte) : List Byte :=
  leBytes 2 epoch ++ [Byte.ofN payload.length, Byte.ofN hop] ++ leBytes 4 ecrc ++ leBytes 8 prev ++ payload
/-- The message of an ACCEPT record. -/
def Msg.ofRecord (r : List Byte) : Msg :=
  { jseq := recJseq r, fidx := recFidx r, epoch := leAt r 16 2, seq := leAt r 8 4, deadline := leAt r 12 4,
    hop := byteAt r 19, prev := leAt r 24 8, ecrc := leAt r 20 4, payload := (r.drop 32).take (byteAt r 18) }
/-- A custody DATA header's bytes 2-23 (R338). -/
def dataHead (flow epoch seq origin deadline len : Nat) : List Byte :=
  leBytes 2 flow ++ leBytes 2 epoch ++ leBytes 4 seq ++ leBytes 8 origin ++ leBytes 4 deadline ++ leBytes 2 len
/-- ECRC (R338). -/
def ecrcOf (flow epoch seq origin deadline : Nat) (payload : List Byte) : Nat :=
  crc32c (dataHead flow epoch seq origin deadline payload.length ++ payload)

/-! ## Views (R359) -/

/-- The mode in force (R337). -/
def State.jrnBuffered (s : State) : Bool := s.flag F.jrnCfgMode && s.flag F.jrnHoldresPass
/-- A flash copy is in service. -/
def State.jrnCopy (s : State) (k : Nat) : Bool := s.bit A.jrnStat (20 + k)
/-- The mirror that serves: the first that passes its check. -/
def State.jrnMirror (s : State) : List (List Byte) :=
  match s.jrn.mirror0, s.jrn.mirror1 with
  | some m, _ => m
  | none, some m => m
  | none, none => []
/-- The records in the mirrors that are not yet in flash. -/
def State.jrnWaiting (s : State) : List (List Byte) := s.jrnMirror.filter (fun r => s.regN A.jrnCommitted < recJseq r)
/-- Their bytes. -/
def State.jrnWaitBytes (s : State) : Nat := s.jrnWaiting.flatten.length
/-- Bytes of ACCEPT records that are being committed. -/
def State.jrnAccepting (s : State) : List Commit := s.jrn.commits.filter (fun c => recType c.record == 1)
/-- `JRN.STAT`. -/
def State.jrnStat (s : State) : Nat :=
  setBitsOf (setBitsOf (s.regN A.jrnStat) 0 14 (min s.jrn.msgs.length 16383)) 19 1 (b2n s.jrnBuffered)
/-- `JRN.BUFSTAT`. -/
def State.jrnBufstat (s : State) : Nat := 2 ^ 16 * min 2047 ((s.jrnWaitBytes + 63) / 64) + min 65535 s.jrn.ready
/-- One page of the wear allowance, in the units in which 75 pages accrue per minute of 2,400,000,000 ticks. -/
def wearPage : Nat := 2400000000
/-- The allowance accrued by now (R351). -/
def State.jrnAllow (s : State) : Nat := s.jrn.allow + 75 * (s.tb.now - s.jrn.allowAt)
/-- `JRN.WEAR`. -/
def State.jrnWear (s : State) : Nat :=
  let use := s.jrn.used * wearPage * 1000
  let v := if use = 0 then 0 else if s.jrnAllow = 0 then 65535 else min 65535 (use / s.jrnAllow)
  setBitsOf (s.regN A.jrnWear) 0 16 v

/-- The JRN_STATE notice (R365). -/
def State.jrnNotice (s : State) (st : Status) (jseq : Nat) : State :=
  s.notice 0xCA (leBytes 4 s.jrnStat ++ leBytes 2 st.code ++ [0, 0] ++ leBytes 4 jseq ++ leBytes 4 s.jrnWear)

/-! ## Pages (R346) -/

/-- The flash offset of page `k` of a copy. -/
def pageOff (copy k : Nat) : Nat := (if copy = 0 then 0x00900000 else 0x01800000) + 256 * k
/-- A page: its header, records, and erased bytes to the end. -/
def pageBytes (pseq jhi : Nat) (ckpt : Bool) (recs : List (List Byte)) : List Byte :=
  let b := recs.flatten
  let head := leBytes 4 pseq ++ leBytes 4 jhi ++ leBytes 2 b.length ++ [Byte.ofN (b2n ckpt), 0]
  let body := b ++ List.replicate (240 - b.length) 0xFF
  head ++ leBytes 4 (crc32c (head ++ body)) ++ body
/-- Records gathered into pages of at most 240 bytes, never split (R346); `cur` is the page being filled. -/
def packPages (recs cur : List (List Byte)) : List (List (List Byte)) :=
  match recs with
  | [] => if cur.isEmpty then [] else [cur]
  | r :: t =>
    if cur.flatten.length + r.length ≤ 240 then packPages t (cur ++ [r])
    else if cur.isEmpty then packPages t [r]
    else cur :: packPages t [r]

/-- Use exceeds 102% of the allowance: WEAROVER (R351). -/
def State.wearCheck (s : State) : State :=
  if !s.flag F.jrnWearOver && 102 * s.jrnAllow < s.jrn.used * wearPage * 100 then
    ((s.raise F.jrnWearOver).raise F.jrnIntstatWearover).jrnNotice .quota 0
  else s

/-- Program a page in the copies in service, at the same place (R346), and charge it (R351). -/
def State.writePage (s : State) (ckpt : Bool) (recs : List (List Byte)) : State :=
  let jhi := (recs.map recJseq).foldl max 0
  let b := pageBytes s.jrn.pseq jhi ckpt recs
  let k := s.jrn.page
  let s := if s.jrnCopy 0 then ((s.touchPlane 0).setFlash (pageOff 0 k) b).flcCount 3 1 else s
  let s := if s.jrnCopy 1 then ((s.touchPlane 1).setFlash (pageOff 1 k) b).flcCount 3 1 else s
  let s := { s with jrn := { s.jrn with
      page := (k + 1) % 16384, pseq := (s.jrn.pseq + 1) % 2 ^ 32, ready := s.jrn.ready - 1, used := s.jrn.used + 1 } }
  (s.setRegN A.jrnCommitted (max (s.regN A.jrnCommitted) jhi)).wearCheck

/-- Program records in pages, in order. -/
def State.writePages (s : State) (ckpt : Bool) (recs : List (List Byte)) : State :=
  (packPages recs []).foldl (fun s p => s.writePage ckpt p) s

/-- Erased pages are at hand for so many pages, and a copy is in service. -/
def State.jrnRoomFor (s : State) (pages : Nat) : Bool := pages ≤ s.jrn.ready && (s.jrnCopy 0 || s.jrnCopy 1)

/-- Change both mirrors that pass their check. -/
def State.mapMirrors (s : State) (f : List (List Byte) → List (List Byte)) : State :=
  { s with jrn := { s.jrn with mirror0 := s.jrn.mirror0.map f, mirror1 := s.jrn.mirror1.map f } }

/-- One flash copy alone is in service: STRICT commits also go to both mirrors (R331). -/
def State.jrnDegraded (s : State) : Bool := s.jrnCopy 0 != s.jrnCopy 1

/-- Records leave the mirrors once they are in flash; with one copy alone the newest 64 KiB stay (R331). -/
def State.trimMirrors (s : State) : State :=
  if s.jrnDegraded then s.mapMirrors (fun l => l.drop (l.length - 1024))
  else s.mapMirrors (fun l => l.filter (fun r => s.regN A.jrnCommitted < recJseq r))

/-- Write the records that wait in the mirrors to flash (R337). -/
def State.flushMirrors (s : State) : State :=
  let w := s.jrnWaiting
  if s.jrnRoomFor (packPages w []).length then (s.writePages false w).trimMirrors else s

/-- Write one record durably (R337): BUFFERED into the mirrors; STRICT into flash, behind what waits. -/
def State.writeRecord (s : State) (r : List Byte) : State :=
  if s.jrnBuffered then
    let s := if s.jrnWaiting.isEmpty then { s with jrn := { s.jrn with since := s.tb.now } } else s
    s.mapMirrors (fun l => l ++ [r])
  else
    let w := s.jrnWaiting ++ [r]
    let s := if s.jrnDegraded then s.mapMirrors (fun l => l ++ [r]) else s
    (s.writePages false w).trimMirrors

/-- The record can be written now. -/
def State.canWrite (s : State) (r : List Byte) : Bool :=
  if s.jrnBuffered then s.jrn.mirror0.isSome || s.jrn.mirror1.isSome
  else s.jrnRoomFor (packPages (s.jrnWaiting ++ [r]) []).length

/-! ## Commits (R337) -/

/-- Begin a commit: the record takes the next JSEQ. -/
def State.beginCommit (s : State) (type fidx w8 w12 : Nat) (body : List Byte) (what : CommitFor) : State :=
  let j := s.jrn.jseq
  { s with jrn := { s.jrn with
      jseq := j + 1, commits := s.jrn.commits ++ [{ record := jrnRecord type fidx j w8 w12 body, what := what }] } }

/-- A message holds its place, or is about to: the count against 8,192 (R348). -/
def State.jrnHeld (s : State) : Nat := s.jrn.msgs.length + s.jrnAccepting.length

/-- The retained buffer has no room for a record of so many bytes in BUFFERED (R336, R339). -/
def State.jrnFull (s : State) (bytes : Nat) : Bool :=
  s.jrnBuffered && 64 * s.fld F.jrnHoldcfgBuflim < s.jrnWaitBytes + (s.jrn.commits.map Commit.record).flatten.length + bytes

/-- WEARSTOP refuses while WEAROVER (R351). -/
def State.jrnWorn (s : State) : Bool := s.flag F.jrnCfgWearstop && s.flag F.jrnWearOver

/-- Octets of the ACCEPT record of a payload. -/
def acceptLen (n : Nat) : Nat := 32 + (n + 15) / 16 * 16

/-- Refused with QUOTA, and the flag (R336, R339, R351). -/
def State.jrnQuota (s : State) (payload : Nat) : Bool := 8192 ≤ s.jrnHeld || s.jrnFull (acceptLen payload) || s.jrnWorn

/-! ## Submission (R336) -/

/-- A submission is PENDING. -/
def State.subPending (s : State) : Bool :=
  s.jrn.commits.any (fun c => match c.what with | .submit _ _ => true | _ => false)

/-- The code a submission ends with (R336): of its 16-byte descriptor. -/
def State.subCode (s : State) (b : List Byte) (reserved : Bool) : Status :=
  let len := leAt b 8 2
  let seq := leAt b 4 4
  if reserved || leAt b 2 2 = 0 || len = 0 || 208 < len then .reservedValue
  else if !s.flag F.jrnCfgEn || s.mode == 5 then .notPermitted
  else
    match s.jFlow (leAt b 0 2) with
    | none => .notPermitted
    | some f =>
      if f.role != 1 || f.closed || !f.ready || f.flow = 0xFFFF || seqAfter seq f.seq then .notPermitted
      else if seq != f.seq then .duplicate
      else if s.jrnQuota len then .quota
      else if s.subPending then .busy
      else .pending

/-- Begin the ACCEPT record of a message that this device originates. -/
def State.beginAccept (s : State) (fidx life seq : Nat) (payload : List Byte) (what : CommitFor) : State :=
  match s.jFlow fidx with
  | none => s
  | some f =>
    let dl := (s.round0 + 1 + life) % 2 ^ 32
    let e := ecrcOf f.flow f.epoch seq f.origin dl payload
    s.beginCommit 1 fidx seq dl (acceptBody f.epoch 2 e 0 payload) what

/-- A submission (R336). -/
def State.subMsg (s : State) (b payload : List Byte) (reserved : Bool) (host : Option Origin) : Status × State :=
  let st := s.subCode b reserved
  let tag := leAt b 10 2
  let s := if st = .quota then s.raise F.jrnIntstatQuota else s
  let s := if st = .pending then s.beginAccept (leAt b 0 2) (leAt b 2 2) (leAt b 4 4) payload (.submit tag host)
    else s.raise F.jrnIntstatSubdone
  (st, s.setRegN A.jrnSubstat (2 ^ 16 * st.code + tag))

/-- JRN_SUBMIT (R336): the descriptor and the payload lie in main SRAM. -/
def execJrnSubmit (user : Bool) (w : Word) (s : State) : Out :=
  guarded user s (
    if s.comUp && s.running then
      let b := s.bytes (w.toNat / 8 * 8) 16
      (s.subMsg b (s.bytes (leAt b 12 4) (leAt b 8 2)) (w.toNat % 8 != 0 || leAt b 12 4 % 8 != 0) none).2
    else s)

/-- The response of MSG_SEND after the status (R364). -/
def sendRest (jseq tag : Nat) : List Byte := leBytes 4 jseq ++ leBytes 2 tag ++ [0, 0]

/-- MSG_SEND's handler (R336, R364). -/
def handleMsgSend : Handler := fun o p s =>
  let (st, s) := s.subMsg p (p.drop 16) (leAt p 12 4 != 0) (some o)
  if st = .pending then (.later, s) else (.now st (sendRest 0 (leAt p 10 2)), s)

/-- MSG_SEND (R336, R364): its payload is the descriptor and LEN octets. -/
def execMsgSend (o : Origin) (p : List Byte) (s : State) : Out :=
  .next (hostCommand 0x20 (fun n => 16 ≤ n && n == 16 + leAt p 8 2) handleMsgSend o p s)

/-! ## Hops (R340, R342, R345, R355) -/

/-- Where a message goes: to a target here, or to a peer on a chain, or it waits. -/
inductive Hop where
  | here (target : Nat)
  | peer (chain eui : Nat)
  | none
  deriving DecidableEq, Repr

/-- The hop a handle names; a stale handle names none (R355). -/
def State.hopOf (s : State) (h : Nat) : Hop :=
  if s.stale h then .none else .peer (s.lkChain (handleIdx h)) (s.lkPeer (handleIdx h))

/-- The first enabled route of a flow (R362). -/
def State.routeOf (s : State) (flow : Nat) : Option Nat :=
  (List.range 32).find? (fun k =>
    s.flag (F.jrnRoute1En k) && (flow &&& s.fld (F.jrnRoute0Mask k)) == s.fld (F.jrnRoute0Value k))

/-- The entry of an (ORIGIN, FLOW) pair in a role. -/
def State.entryOf (s : State) (role origin flow : Nat) : Option (Nat × Flow) :=
  s.jrn.flows.find? (fun p => p.2.role == role && p.2.origin == origin && p.2.flow == flow)

/-- The entry of the flow that a report reports on: the origin's own, else a transit entry (R345). -/
def State.reportedEntry (s : State) (payload : List Byte) : Option (Nat × Flow) :=
  match s.entryOf 1 (leAt payload 4 8) (leAt payload 12 2) with
  | some e => some e
  | none => s.entryOf 2 (leAt payload 4 8) (leAt payload 12 2)

/-- The hop of a report (R345): towards the previous hop of the reported flow; at its origin, the entry's TARGET; an
orphan goes to TARGET 4. -/
def State.reportHop (s : State) (payload : List Byte) : Hop :=
  match s.reportedEntry payload with
  | none => .here 4
  | some (_, f) => if f.role = 1 then .here f.target else .peer f.prevChain f.prevPeer

/-- The hop of a flow by the entry's NEXTHOP, the routes and UPLINK (R340). -/
def State.flowHop (s : State) (nextHop flow : Nat) : Hop :=
  if nextHop != 0xFFFF then s.hopOf nextHop
  else
    match s.routeOf flow with
    | some k => if s.flag (F.jrnRoute1Local k) then .here (s.fld (F.jrnRoute1Target k)) else s.hopOf (s.fld (F.jrnRoute1Nexthop k))
    | none => if s.fld F.jrnUplinkHandle = 0xFFFF then .none else s.hopOf (s.fld F.jrnUplinkHandle)

/-- The hop of a message: what its first transmission fixed, else as its flow or its report says. -/
def State.msgHop (s : State) (m : Msg) : Hop :=
  match s.jFlow m.fidx with
  | none => .none
  | some f =>
    match m.nextHop with
    | some (c, p) => .peer c p
    | none => if f.flow = 0xFFFF then s.reportHop m.payload else s.flowHop f.nextHop f.flow

/-- The link that is UP with a chain and peer (R355). -/
def State.upLink (s : State) (c p : Nat) : Option Nat :=
  s.liveLinks.find? (fun i => s.lkState i == 2 && s.lkChain i == c && s.lkPeer i == p)

/-! ## Transmission (R338, R340) -/

/-- The Custody IE (R338). -/
def State.custodyHeader (s : State) : List Byte := s.vendor [0x43]

/-- A message's DATA frame, composed once: every transmission repeats it (R338). Its POWER, and in Long Reach RATE and
NCLASS, are free: the manual gives no value for the journal's own frames. -/
def State.composeMsg (s : State) (f : Flow) (m : Msg) (peer : Nat) : Msg × State :=
  if !m.frame.isEmpty then (m, s)
  else
    let pdu := [1, Byte.ofN (b2n (f.flow == 0xFFFF))] ++ dataHead f.flow m.epoch m.seq f.origin m.deadline m.payload.length
      ++ leBytes 4 m.ecrc ++ m.payload
    let (fr, s) := s.composeFrame peer s.custodyHeader pdu
    let (pw, s) := s.draw 256
    let (lr, s) := s.draw 12
    let (r, s) := s.roll
    ({ m with frame := fr, power := pw, lr := 64 * (lr / 3) + 16 * (lr % 3), ctag := r % 4096 }, s)

/-- The descriptor of a message for its next hop's link: receipts on, INC by the transmissions made (R340). -/
def State.msgDesc (s : State) (i : Nat) (m : Msg) : Desc :=
  { link := s.lkHandle i, flags := 7, power := m.power, buf := 0, len := m.frame.length,
    lr := m.lr + min m.tries 3, ctag := m.ctag, tag := 0, own := some m.frame, msg := some m.jseq }

/-- Post a message to its next hop, where a link to it is UP (R340, R355). -/
def State.sendMsg (s : State) (m : Msg) : State :=
  match s.jFlow m.fidx, s.msgHop m with
  | some f, .peer c p =>
    match s.upLink c p with
    | none => s
    | some i =>
      let (m, s) := s.composeMsg f m p
      let (st, s) := s.postDesc (s.msgDesc i m) false true
      if st = .pending then
        let s := if m.tries = 0 then s else s.jrnCount 7
        s.mapMsg m.jseq (fun _ => { m with posted := true, nextHop := some (c, p), tries := m.tries + 1, due := none, left := none })
      else s.mapMsg m.jseq (fun _ => m)
  | _, _ => s

/-- A message may be sent now: the oldest of its entry, not with the tenant engine, not being settled, its interval
over (R340). -/
def State.mayTransmit (s : State) (m : Msg) : Bool :=
  s.flag F.jrnCfgEn && (s.heldBy m.fidx).head?.map Msg.jseq == some m.jseq && !m.posted && !m.settling && m.dlv.isNone
  && m.left.isNone && (match m.due with | some t => t ≤ s.tb.now | none => true)

/-- Send what an entry may send first. -/
def State.pumpFlow (s : State) (f : Nat) : State :=
  match s.heldBy f with
  | m :: _ => if s.mayTransmit m then s.sendMsg m else s
  | [] => s

/-- RETRANSMIT (R340): a message's first transmission, or the next one when its interval has expired. -/
def execRetransmit (j : Nat) (s : State) : Out :=
  .next (
    match s.jMsg j with
    | some m => if s.comUp && s.running && s.mayTransmit m then s.sendMsg m else s
    | none => s)

/-! ## Reports (R345) -/

/-- This node's origin entry for FLOW 0xFFFF, made where there is none: a fresh epoch and its FLOWOPEN record. -/
def State.reportEntry (s : State) : Option (Nat × State) :=
  match s.entryOf 1 s.eui 0xFFFF with
  | some (f, _) => some (f, s)
  | none =>
    match s.freeFidx with
    | none => none
    | some f =>
      let e := (s.jrn.epoch + 1) % 65536
      let s := { s with jrn := { s.jrn with epoch := e } }
      let s := s.setFlow f { role := 1, flow := 0xFFFF, origin := s.eui, epoch := e, seq := 0, ready := true, opened := s.jrn.jseq }
      some (f, s.beginCommit 6 f 0 e (leBytes 8 s.eui ++ leBytes 2 0xFFFF ++ [1, 0] ++ leBytes 2 0xFFFF ++ [0, 0]) .internal)

/-- A report's payload (R345). -/
def reportBytes (st : Status) (confirm origin flow epoch seq : Nat) : List Byte :=
  leBytes 2 st.code ++ [Byte.ofN confirm, 0] ++ leBytes 8 origin ++ leBytes 2 flow ++ leBytes 2 epoch ++ leBytes 4 seq

/-- Report a message that expired or was stale (R344, R345); a report that cannot be made is lost. -/
def State.report (s : State) (m : Msg) (st : Status) (confirm : Bool) : State :=
  match s.jFlow m.fidx with
  | none => s
  | some f =>
    if f.flow = 0xFFFF then s
    else
      match s.reportEntry with
      | none => s.jrnCount 6
      | some (r, s) =>
        let seq := match s.jFlow r with | some x => x.seq | none => 0
        let pl := reportBytes st (b2n confirm) f.origin f.flow m.epoch m.seq
        let s := s.beginAccept r (s.fld F.jrnRetxcfgReplife) seq pl .report
        s.mapFlow r (fun x => { x with seq := (seq + 1) % 2 ^ 32 })

/-! ## Delivery rings (R342, R358, R360) -/

/-- RNE of a delivery ring follows WR and RD (R360). -/
def State.dringLevel (s : State) (r : Nat) : State :=
  if s.fld (F.jrnDringwrIndex r) = s.fld (F.jrnDringrdIndex r) then s.clearBit A.jrnIntstat r else s.setBit A.jrnIntstat r

/-- Entries of a delivery ring. -/
def State.dringSize (s : State) (r : Nat) : Nat := 2 ^ (6 + s.fld (F.jrnDringsizeSize r))

/-- A delivery ring has room. -/
def State.dringRoom (s : State) (r : Nat) : Bool :=
  (s.fld (F.jrnDringwrIndex r) + 1) % s.dringSize r != s.fld (F.jrnDringrdIndex r) % s.dringSize r

/-- Write a 32-byte delivery entry and advance WR. -/
def State.dringPut (s : State) (r : Nat) (e : List Byte) : State :=
  let wr := s.fld (F.jrnDringwrIndex r)
  let s := s.dma (64 * s.fld (F.jrnDringbaseBase r) + 32 * wr) e
  (s.setFld (F.jrnDringwrIndex r) ((wr + 1) % s.dringSize r)).dringLevel r

/-- Unreleased deliveries that meet a test are delivered again, with REDELIVERED; their notices leave the queue
(R342). -/
def State.redeliver (s : State) (p : Nat → Bool) : State :=
  let hit (m : Msg) : Bool := match m.dlv with | some t => p t && !m.settling | none => false
  let gone := (s.jrn.msgs.filter (fun m => hit m && m.dlv == some 4)).map Msg.jseq
  let s := { s with hsl := { s.hsl with
      notices := s.hsl.notices.filter (fun n => !(n.code == 0xC8 && !n.sent && gone.contains (leAt n.payload 4 4))) } }
  { s with jrn := { s.jrn with
      msgs := s.jrn.msgs.map (fun m => if hit m then { m with dlv := none, buf := none, again := true } else m) } }

/-- A write of a delivery ring's base or size: the ring is empty and its deliveries are repeated (R342, R358). -/
def State.dringWritten (s : State) (r : Nat) : State :=
  (((s.setFld (F.jrnDringwrIndex r) 0).setFld (F.jrnDringrdIndex r) 0).dringLevel r).redeliver (· == r)

/-! ## Delivery (R342) -/

/-- Delivery buffers in use. -/
def State.dlvTaken (s : State) : List Nat := s.jrn.msgs.filterMap Msg.buf
/-- The lowest free delivery buffer. -/
def State.dlvFree (s : State) : Option Nat := (List.range s.jrn.dlvCount).find? (fun b => !s.dlvTaken.contains b)
/-- Unreleased deliveries to the host. -/
def State.hostDlv (s : State) : Nat := (s.jrn.msgs.filter (fun m => m.dlv == some 4)).length
/-- Every earlier message of the flow has been delivered. -/
def State.dlvTurn (s : State) (m : Msg) : Bool :=
  ((s.heldBy m.fidx).takeWhile (fun x => x.jseq != m.jseq)).all (fun x => x.dlv.isSome)

/-- A report that reached the origin of the reported message (R345): its entry. -/
def State.reportHome (s : State) (f : Flow) (m : Msg) : Option Nat :=
  if f.flow != 0xFFFF then none
  else (s.entryOf 1 (leAt m.payload 4 8) (leAt m.payload 12 2)).map Prod.fst

/-- Room at a target: ring space; for the host HOSTMAX, and the notices this delivery sends (R342, R345, R365). -/
def State.targetRoom (s : State) (t notices : Nat) : Bool :=
  if t < 4 then s.dringRoom t
  else s.hostDlv < s.fld F.jrnDlvcfgHostmax && s.hsl.notices.length + notices ≤ 63

/-- A delivery entry (R342). -/
def dlvEntry (f : Flow) (m : Msg) (b : Nat) : List Byte :=
  [Byte.ofN (4 + 16 * b2n m.again + 32 * b2n (f.flow == 0xFFFF)), 0] ++ leBytes 2 m.fidx ++ leBytes 4 m.jseq
  ++ leBytes 2 m.payload.length ++ leBytes 2 b ++ leBytes 4 m.seq ++ leBytes 8 f.origin ++ leBytes 2 f.flow
  ++ leBytes 2 m.epoch ++ leBytes 4 m.deadline

/-- Deliver a message to a target (R342). -/
def State.deliver (s : State) (f : Flow) (m : Msg) (t b : Nat) : State :=
  let s := s.dma (s.jrn.dlvBase + 256 * b) m.payload
  let e := dlvEntry f m b
  let s := if t < 4 then s.dringPut t e else s.notice 0xC8 (e ++ m.payload)
  let s := s.mapMsg m.jseq (fun m => { m with dlv := some t, buf := some b })
  match s.reportHome f m with
  | none => s
  | some g =>
    let s := s.raise F.jrnIntstatResult
    if t = 4 then s.notice 0xC9 (m.payload ++ leBytes 2 g ++ [0, 0]) else s

/-- DELIVERY (R342). -/
def execDelivery (j : Nat) (s : State) : Out :=
  .next (
    match s.jMsg j with
    | none => s
    | some m =>
      match s.jFlow m.fidx, s.msgHop m, s.dlvFree with
      | some f, .here t, some b =>
        let notices := if (s.reportHome f m).isSome then 2 else 1
        if s.comUp && s.running && m.dlv.isNone && !m.settling && s.dlvTurn m && s.targetRoom t notices
        then s.deliver f m t b else s
      | _, _, _ => s)

/-- DELIVERY_CONFIG_APPLY (R359): no delivery is being written. -/
def execDeliveryConfigApply (s : State) : Out :=
  .next (
    if s.jrn.dlvStaged then
      let s := { s with jrn := { s.jrn with
          dlvStaged := false, dlvBase := 8 * s.fld F.jrnDlvbaseAddr, dlvCount := s.fld F.jrnDlvcountCount } }
      s.redeliver (fun _ => true)
    else s)

/-! ## Release (R343) -/

/-- The code a release ends with (R343). -/
def State.relCode (s : State) (j : Nat) : Status :=
  match s.jMsg j with
  | none => .notPermitted
  | some m =>
    if m.dlv.isNone then .notPermitted
    else if s.jrn.commits.any (fun c => match c.what with | .released _ _ => true | _ => false) then .busy
    else .pending

/-- A release (R343). -/
def State.release (s : State) (j : Nat) (host : Option Origin) : Status × State :=
  let st := s.relCode j
  let s := s.setFld F.jrnRelstatResult st.code
  if st = .pending then
    match s.jMsg j with
    | some m =>
      let s := s.mapMsg j (fun m => { m with settling := true })
      (st, s.beginCommit 3 m.fidx m.seq j [] (.released j host))
    | none => (st, s)
  else (st, s.raise F.jrnIntstatReldone)

/-- JRN_RELEASE (R343). -/
def execJrnRelease (user : Bool) (w : Word) (s : State) : Out :=
  guarded user s (if s.comUp && s.running then (s.release w.toNat none).2 else s)

/-- MSG_RELEASE's handler (R364). -/
def handleMsgRelease : Handler := fun o p s =>
  let (st, s) := s.release (leAt p 0 4) (some o)
  if st = .pending then (.later, s) else (.now st [], s)

/-- MSG_RELEASE (R364). -/
def execMsgRelease (o : Origin) (p : List Byte) (s : State) : Out :=
  .next (hostCommand 0x21 (· == 4) handleMsgRelease o p s)

/-! ## Expiry (R344) and the freeing of entries (R334) -/

/-- MESSAGE_EXPIRE (R344). -/
def execMessageExpire (j : Nat) (s : State) : Out :=
  .next (
    match s.jMsg j with
    | none => s
    | some m =>
      if s.comUp && s.running && s.flag F.ntmStatValid && m.dlv.isNone && !m.settling && s.roundReached m.deadline then
        let s := s.mapMsg j (fun m => { m with settling := true })
        s.beginCommit 4 m.fidx (b2n m.sent) j [] (.expired j .expired true)
      else s)

/-- A commit in progress concerns an entry. -/
def State.flowCommits (s : State) (f : Nat) : Bool := s.jrn.commits.any (fun c => recFidx c.record == f)

/-- FLOW_FREE (R334). A transit entry's end is recorded, so that recovery does not rebuild it. -/
def execFlowFree (f : Nat) (s : State) : Out :=
  .next (
    match s.jFlow f with
    | none => s
    | some x =>
      if s.comUp && s.running && (s.heldBy f).isEmpty && !s.flowCommits f && s.roundReached (x.lastDl + 120)
          && (x.role == 2 || x.closed) then
        let s := { s with jrn := { s.jrn with flows := Sparse.erase s.jrn.flows f } }
        if x.role = 2 then s.beginCommit 7 f 0 0 [] .internal else s
      else s)

/-! ## Flow commands (R335, R363, R364) -/

/-- The FLOWOPEN body of an entry. -/
def flowBody (x : Flow) : List Byte :=
  leBytes 8 x.origin ++ leBytes 2 x.flow ++ [Byte.ofN x.role, 0] ++ leBytes 2 x.nextHop ++ [Byte.ofN x.target, 0]

/-- OPEN (R333, R363): the code, the entry and the state. -/
def State.openFlow (s : State) (d : List Byte) (host : Option Origin) : Status × Nat × State :=
  let flow := leAt d 0 2
  if 4 < byteAt d 3 then (.reservedValue, 0, s)
  else if flow = 0xFFFF then (.notPermitted, 0, s)
  else if s.jrn.flows.any (fun p => p.2.role == 1 && p.2.flow == flow && !p.2.closed) then (.busy, 0, s)
  else
    match s.freeFidx with
    | none => (.quota, 0, s)
    | some f =>
      let e := (s.jrn.epoch + 1) % 65536
      let s := { s with jrn := { s.jrn with epoch := e } }
      let x : Flow :=
        { role := 1, flow := flow, origin := s.eui, epoch := e, seq := 0, target := byteAt d 3, nextHop := leAt d 4 2,
          opened := s.jrn.jseq }
      (.pending, f, (s.setFlow f x).beginCommit 6 f 0 e (flowBody x) (.flowOpen f host))

/-- CLOSE (R363). -/
def State.closeFlow (s : State) (f : Nat) (host : Option Origin) : Status × State :=
  match s.jFlow f with
  | none => (.notPermitted, s)
  | some x => if x.role = 2 || !x.ready then (.notPermitted, s) else (.pending, s.beginCommit 7 f 0 0 [] (.flowClose f host))

/-- EPOCH (R335). -/
def State.epochFlow (s : State) (f : Nat) (host : Option Origin) : Status × State :=
  match s.jFlow f with
  | none => (.notPermitted, s)
  | some x =>
    if x.role = 2 || !x.ready || x.closed then (.notPermitted, s)
    else if !(s.heldBy f).isEmpty || s.flowCommits f || !s.roundReached (x.lastDl + 120) then (.busy, s)
    else
      let e := (s.jrn.epoch + 1) % 65536
      let s := { s with jrn := { s.jrn with epoch := e } }
      (.pending, s.beginCommit 6 f 0 e (flowBody x) (.flowEpoch f host))

/-- PREVHOP of a flow descriptor (R363). -/
def State.prevHandle (s : State) (x : Flow) : Nat :=
  if x.role = 1 then 0xFFFF
  else match s.upLink x.prevChain x.prevPeer with | some i => s.lkHandle i | none => 0xFFFF

/-- A flow descriptor (R363). -/
def State.flowDesc (s : State) (f : Nat) (x : Flow) : List Byte :=
  leBytes 2 x.flow ++ [Byte.ofN x.role, Byte.ofN x.target] ++ leBytes 2 x.nextHop ++ leBytes 2 x.epoch ++ leBytes 4 x.seq
  ++ leBytes 4 x.lastDl ++ leBytes 8 x.origin ++ leBytes 2 (s.prevHandle x) ++ leBytes 2 (s.heldBy f).length ++ leBytes 4 0

/-- The result of a flow command in FLOWSTAT, with FLOWDONE once it has ended. -/
def State.flowStat (s : State) (f : Nat) (st : Status) : State :=
  let s := s.setRegN A.jrnFlowstat (2 ^ 16 * st.code + f % 4096)
  if st = .pending then s else s.raise F.jrnIntstatFlowdone

/-- A write of JRN.FLOWCMD with an OP: reserved bits are zero. -/
def State.flowCmd (s : State) (user : Bool) (w : Word) (f : State → Nat → Status × Nat × State) : Out :=
  guarded user s (
    if s.comUp && s.running then
      let i := bitsOf w.toNat 0 12
      if bitsOf w.toNat 12 16 != 0 then s.flowStat i .reservedValue
      else
        let (st, i, s) := f s i
        s.flowStat i st
    else s)

/-- FLOWCMD_OPEN (R363). -/
def execFlowcmdOpen (user : Bool) (w : Word) (s : State) : Out :=
  s.flowCmd user w (fun s _ => s.openFlow (s.bytes (s.regN A.jrnFlowaddr) 32) none)
/-- FLOWCMD_CLOSE (R363). -/
def execFlowcmdClose (user : Bool) (w : Word) (s : State) : Out :=
  s.flowCmd user w (fun s f => let r := s.closeFlow f none; (r.1, f, r.2))
/-- FLOWCMD_EPOCH (R335). -/
def execFlowcmdEpoch (user : Bool) (w : Word) (s : State) : Out :=
  s.flowCmd user w (fun s f => let r := s.epochFlow f none; (r.1, f, r.2))
/-- FLOWCMD_GET (R363). -/
def execFlowcmdGet (user : Bool) (w : Word) (s : State) : Out :=
  s.flowCmd user w (fun s f =>
    match s.jFlow f with
    | some x => (.ok, f, s.dma (s.regN A.jrnFlowaddr) (s.flowDesc f x))
    | none => (.notPermitted, f, s))

/-- FLOW_OPEN's handler (R364). -/
def handleFlowOpen : Handler := fun o p s =>
  if !allZero (p.drop 28) then (.now .reservedValue [], s.flowStat 0 .reservedValue)
  else
    let (st, f, s) := s.openFlow p (some o)
    let s := s.flowStat f st
    if st = .pending then (.later, s) else (.now st [], s)
/-- FLOW_OPEN (R364). -/
def execFlowOpen (o : Origin) (p : List Byte) (s : State) : Out := .next (hostCommand 0x22 (· == 32) handleFlowOpen o p s)

/-- A handler of a flow command on an entry (R364). -/
def handleFlow (f : State → Nat → Option Origin → Status × State) : Handler := fun o p s =>
  let i := leAt p 0 2
  if leAt p 2 2 != 0 then (.now .reservedValue [], s.flowStat i .reservedValue)
  else
    let (st, s) := f s i (some o)
    let s := s.flowStat i st
    if st = .pending then (.later, s) else (.now st [], s)

/-- FLOW_CLOSE (R364). -/
def execFlowClose (o : Origin) (p : List Byte) (s : State) : Out :=
  .next (hostCommand 0x23 (· == 4) (handleFlow State.closeFlow) o p s)
/-- FLOW_EPOCH (R364). -/
def execFlowEpoch (o : Origin) (p : List Byte) (s : State) : Out :=
  .next (hostCommand 0x24 (· == 4) (handleFlow State.epochFlow) o p s)

/-- FLOW_GET's handler (R364). -/
def handleFlowGet : Handler := fun _ p s =>
  let i := leAt p 0 2
  if leAt p 2 2 != 0 then (.now .reservedValue [], s.flowStat i .reservedValue)
  else
    match s.jFlow i with
    | some x => (.now .ok (s.flowDesc i x), s.flowStat i .ok)
    | none => (.now .notPermitted [], s.flowStat i .notPermitted)
/-- FLOW_GET (R364). -/
def execFlowGet (o : Origin) (p : List Byte) (s : State) : Out := .next (hostCommand 0x25 (· == 4) handleFlowGet o p s)

/-! ## Status and hold-up test (R352, R364) -/

/-- JRN_STATUS's handler (R364). -/
def handleJrnStatus : Handler := fun _ _ s =>
  (.now .ok (leBytes 4 s.jrnStat ++ leBytes 4 (s.regN A.jrnCommitted) ++ leBytes 4 s.jrnBufstat ++ leBytes 4 s.jrnWear
    ++ leBytes 4 (s.regN A.jrnHoldres)), s)
/-- JRN_STATUS (R364). -/
def execJrnStatus (o : Origin) (p : List Byte) (s : State) : Out := .next (hostCommand 0x26 (· == 0) handleJrnStatus o p s)

/-- HOLD_TEST's handler (R352, R364): only in KEEPER, one test at a time. -/
def handleHoldTest : Handler := fun o _ s =>
  if s.mode != 4 then (.now .notPermitted [], s)
  else if s.jrn.holding then (.now .busy [], s)
  else (.later, { s with jrn := { s.jrn with holding := true, holdHost := some o } })
/-- HOLD_TEST (R364). -/
def execHoldTest (o : Origin) (p : List Byte) (s : State) : Out := .next (hostCommand 0x27 (· == 0) handleHoldTest o p s)

/-- V_PF in mV (R131). -/
def State.vpf (s : State) : Nat := 2300 + 100 * s.fld F.pmuSupcfgPfthr

/-- C of the hold-up test as a fraction of mF (R352): of the fall of VIN in mV. -/
def State.holdCap (s : State) (fall : Nat) : Nat × Nat :=
  let decl := s.fld F.jrnHoldcfgCdecl
  if fall < 5 || decl * fall < 600 then (decl, 1) else (600, fall)

/-- Twice E_hold in nJ times the denominator of C (R352). -/
def State.holdEnergy2 (s : State) (fall : Nat) : Nat := (s.holdCap fall).1 * (s.vpf ^ 2 - 2200 ^ 2)

/-- E_need in µJ (R352). -/
def State.holdNeed (s : State) : Nat := 1200 + 108 * ((s.fld F.jrnHoldcfgBuflim + 1) / 2)

/-- The hold-up test passes (R352). -/
def State.holdPasses (s : State) (fall : Nat) (stayed : Bool) : Bool :=
  stayed && 2000 * (s.holdCap fall).2 * s.holdNeed ≤ s.holdEnergy2 fall

/-- The hold-up test ends (R352). In start-up its JRN_STATE waits for step 9 (R365). -/
def State.finishHoldup (s : State) (fall : Nat) (stayed : Bool) : State :=
  let c := s.holdCap fall
  let pass := s.holdPasses fall stayed
  let s := (s.setFld F.jrnHoldresCap (min 65535 (c.1 / c.2))).setFld F.jrnHoldresEnergy
    (min 16383 (s.holdEnergy2 fall / (2 * c.2 * 1000000)))
  let s := (s.setFld F.jrnHoldresPass (b2n pass)).raise F.jrnHoldresDone
  let s := if pass then s else s.raise F.jrnIntstatHoldfail
  let s := if pass || s.pw.boot == .background then s else s.jrnNotice .brownout 0
  let h := s.jrn.holdHost
  let s := { s with jrn := { s.jrn with holding := false, holdHost := none } }
  match h with
  | some o => s.respond o 0x27 .ok (leBytes 4 (s.regN A.jrnHoldres))
  | none => s

/-! ## Custody frames (R338, R339, R341) -/

/-- Post a CACK on a link (R339). Its POWER, and in Long Reach RATE and NCLASS, are free. -/
def State.postCack (s : State) (h flow epoch seq origin : Nat) (st : Status) : State :=
  let i := handleIdx h
  let pdu := [2, 0] ++ leBytes 2 flow ++ leBytes 2 epoch ++ leBytes 4 seq ++ leBytes 8 origin ++ leBytes 2 st.code
  let (f, s) := s.composeFrame (s.lkPeer i) s.custodyHeader pdu
  let (pw, s) := s.draw 256
  let (lr, s) := s.draw 12
  let d : Desc :=
    { link := h, flags := 6, power := pw, buf := 0, len := f.length, lr := 64 * (lr / 3) + 16 * (lr % 3), ctag := 0x1000,
      tag := 0, own := some f }
  (s.postDesc d false true).2

/-- A DATA frame breaks R338's form. -/
def dataBad (p : List Byte) : Bool :=
  let len := leAt p 22 2
  p.length < 28 || byteAt p 0 != 1 || 1 < byteAt p 1 || len = 0 || 208 < len || p.length < 28 + len
  || ((byteAt p 1 == 1) != (leAt p 2 2 == 0xFFFF))

/-- The destination of a frame's message is this device. -/
def State.dataHere (s : State) (flow : Nat) (payload : List Byte) : Bool :=
  match (if flow = 0xFFFF then s.reportHop payload else s.flowHop 0xFFFF flow) with
  | .here _ => true
  | _ => false

/-- The ACCEPT commit of an identity is in progress. -/
def State.accepting (s : State) (f epoch seq : Nat) : Bool :=
  s.jrnAccepting.any (fun c => recFidx c.record == f && leAt c.record 16 2 == epoch && leAt c.record 8 4 == seq)

/-- The ACCEPT commit of a received frame (R339), on its transit entry. -/
def State.takeData (s : State) (h f epoch seq deadline ecrc : Nat) (payload : List Byte) : State :=
  let i := handleIdx h
  s.beginCommit 1 f seq deadline (acceptBody epoch (s.lkChain i) ecrc (s.lkPeer i) payload) (.custody h)

/-- A new transit entry and its FLOWOPEN record (R333). -/
def State.newTransit (s : State) (h f flow origin epoch seq deadline : Nat) : State :=
  let i := handleIdx h
  let x : Flow :=
    { role := 2, flow := flow, origin := origin, epoch := epoch, seq := (seq + 2 ^ 32 - 1) % 2 ^ 32, lastDl := deadline,
      prevChain := s.lkChain i, prevPeer := s.lkPeer i, ready := true, opened := s.jrn.jseq }
  (s.setFlow f x).beginCommit 6 f 0 epoch (flowBody x) .internal

/-- The tests of R339, in order. -/
def State.judgeData (s : State) (h : Nat) (p : List Byte) : State :=
  let flow := leAt p 2 2
  let epoch := leAt p 4 2
  let seq := leAt p 6 4
  let origin := leAt p 10 8
  let dl := leAt p 18 4
  let ecrc := leAt p 24 4
  let payload := (p.drop 28).take (leAt p 22 2)
  let cack (s : State) (st : Status) : State := s.postCack h flow epoch seq origin st
  let e := s.entryOf 2 origin flow
  let stale := match e with | some (_, x) => epochNewer x.epoch epoch | none => false
  let dup := match e with | some (_, x) => x.epoch == epoch && !seqAfter seq x.seq | none => false
  let busy := match e with | some (f, _) => s.accepting f epoch seq | none => false
  if s.roundReached dl then cack s .expired
  else if stale then cack ((s.jrnCount 5).raise F.jrnIntstatStale) .staleEpoch
  else if dup then cack (s.jrnCount 4) .duplicate
  else if busy then s
  else if (e.isNone && s.freeFidx.isNone) || s.jrnQuota payload.length then cack (s.raise F.jrnIntstatQuota) .quota
  else if s.dataHere flow payload && ecrc != ecrcOf flow epoch seq origin dl payload then s.lkCount (handleIdx h) 5
  else
    match e, s.freeFidx with
    | some (f, _), _ => s.takeData h f epoch seq dl ecrc payload
    | none, some f => (s.newTransit h f flow origin epoch seq dl).takeData h f epoch seq dl ecrc payload
    | none, none => s

/-- CUSTODY_DATA (R338, R339): a DATA frame of a link, by its MAC payload. -/
def execCustodyData (h : Nat) (p : List Byte) (s : State) : Out :=
  .next (
    if !s.comUp || !s.running || !s.hears h then s
    else if dataBad p then s.lkCount (handleIdx h) 5
    else if !s.flag F.jrnCfgEn then s
    else s.judgeData h p)

/-- A CACK breaks R338's form. -/
def cackBad (p : List Byte) : Bool :=
  p.length < 20 || byteAt p 0 != 2 || byteAt p 1 != 0
  || !([Status.accepted, .duplicate, .expired, .staleEpoch, .quota].any (fun st => st.code == leAt p 18 2))

/-- The outstanding message of a CACK's identity. -/
def State.outstanding (s : State) (p : List Byte) : Option Msg :=
  s.jrn.msgs.find? (fun m =>
    0 < m.tries && !m.settling && m.epoch == leAt p 4 2 && m.seq == leAt p 6 4
    && (match s.jFlow m.fidx with | some f => f.flow == leAt p 2 2 && f.origin == leAt p 10 8 | none => false))

/-- A CACK settles its message (R341). -/
def State.settleMsg (s : State) (m : Msg) (st : Nat) : State :=
  let mark (s : State) : State := s.mapMsg m.jseq (fun m => { m with settling := true })
  if st = Status.accepted.code || st = Status.duplicate.code then
    (mark s).beginCommit 2 m.fidx m.seq m.jseq [] (.forwarded m.jseq)
  else if st = Status.expired.code then (mark s).beginCommit 4 m.fidx 0 m.jseq [] (.expired m.jseq .expired false)
  else if st = Status.staleEpoch.code then (mark s).beginCommit 5 m.fidx 0 m.jseq [] (.expired m.jseq .staleEpoch false)
  else s

/-- CACK (R341). -/
def execCack (h : Nat) (p : List Byte) (s : State) : Out :=
  .next (
    if !s.comUp || !s.running || !s.hears h then s
    else if cackBad p then s.lkCount (handleIdx h) 5
    else if !s.flag F.jrnCfgEn then s
    else
      match s.outstanding p with
      | some m => s.settleMsg m (leAt p 18 2)
      | none => s)

/-! ## The end of a commit (R336-R345, R363) -/

/-- A message enters custody with its ACCEPT record. -/
def State.holdMsg (s : State) (r : List Byte) : State :=
  let m := Msg.ofRecord r
  let s := { s with jrn := { s.jrn with msgs := s.jrn.msgs ++ [m] } }
  s.mapFlow m.fidx (fun x =>
    let seq := if x.role = 2 then m.seq else if x.flow = 0xFFFF then x.seq else (m.seq + 1) % 2 ^ 32
    { x with epoch := m.epoch, seq := seq, lastDl := laterOf x.lastDl m.deadline, lastAcc := m.jseq })

/-- A settled message leaves, and its entry sends the next one (R340, R341). -/
def State.settled (s : State) (j : Nat) : State :=
  match s.jMsg j with
  | some m => (s.dropMsg j).pumpFlow m.fidx
  | none => s

/-- A flow command has ended OK: FLOWSTAT shows it, and the host is answered (R359, R363, R364). -/
def State.flowDone (s : State) (code f : Nat) (host : Option Origin) (rest : List Byte) : State :=
  let s := s.flowStat f .ok
  match host with
  | some o => s.respond o code .ok rest
  | none => s

/-- What a completed commit brings about. -/
def State.committed (s : State) (c : Commit) : State :=
  let j := recJseq c.record
  let f := recFidx c.record
  match c.what with
  | .submit tag host =>
    let s := (((s.holdMsg c.record).setRegN A.jrnSubjseq j).jrnCount 0).raise F.jrnIntstatSubdone
    let s := s.setRegN A.jrnSubstat (2 ^ 16 * Status.accepted.code + tag)
    let s := match host with | some o => s.respond o 0x20 .accepted (sendRest j tag) | none => s
    s.pumpFlow f
  | .report => (s.holdMsg c.record).pumpFlow f
  | .custody h =>
    let s := (s.holdMsg c.record).jrnCount 1
    let s := match s.jFlow f with
      | some x => s.postCack h x.flow (leAt c.record 16 2) (leAt c.record 8 4) x.origin .accepted
      | none => s
    s.pumpFlow f
  | .forwarded j => (s.jrnCount 2).settled j
  | .released j host =>
    let s := ((s.dropMsg j).jrnCount 3).setFld F.jrnRelstatResult Status.ok.code
    let s := s.raise F.jrnIntstatReldone
    match host with
    | some o => s.respond o 0x21 .ok []
    | none => s
  | .expired j st here =>
    match s.jMsg j with
    | none => s
    | some m =>
      let s := if here then (s.jrnCount 6).raise F.jrnIntstatExpired else s
      (s.report m st (leAt c.record 8 4 != 0)).settled j
  | .flowOpen f host => (s.mapFlow f (fun x => { x with ready := true })).flowDone 0x22 f host (leBytes 2 f ++ [0, 0])
  | .flowClose f host => (s.mapFlow f (fun x => { x with closed := true })).flowDone 0x23 f host []
  | .flowEpoch f host =>
    (s.mapFlow f (fun x => { x with epoch := leAt c.record 12 2, seq := 0, opened := j })).flowDone 0x24 f host []
  | .activate host =>
    let s := { s with jrn := { s.jrn with acts := s.jrn.acts ++ [(j, c.record.drop 16)] } }
    let s := s.fwNotice 1 0 .ok (leAt c.record 24 1) 0 (leAt c.record 28 4)
    match host with | some o => s.respond o 0x33 .accepted [] | none => s
  | .actClear a =>
    let body := (Sparse.find? s.jrn.acts a).getD []
    let s := { s with jrn := { s.jrn with acts := s.jrn.acts.filter (fun p => p.1 != a) } }
    match s.fw.cancelHost with
    | some o =>
      let s := s.fwNotice 2 0 .ok (byteAt body 8) 0 (leAt body 12 4)
      ({ s with fw := { s.fw with cancelHost := none } }).respond o 0x34 .ok []
    | none => s
  | .internal => s

/-- The oldest commit ends, once its record can be written. -/
def State.commitOne (s : State) : State :=
  match s.jrn.commits with
  | [] => s
  | c :: rest =>
    if s.canWrite c.record then
      let s := s.writeRecord c.record
      { s with jrn := { s.jrn with commits := rest } }.committed c
    else s

/-- COMMIT_DONE (R337). -/
def execCommitDone (s : State) : Out := .next (if s.comUp then s.commitOne else s)

/-- BUFFER_FLUSH (R337): 240 bytes wait, or the oldest record has waited FLUSHAGE. -/
def execBufferFlush (s : State) : Out :=
  .next (
    if s.comUp && (240 ≤ s.jrnWaitBytes
        || (!s.jrnWaiting.isEmpty && s.jrn.since + 40000 * s.fld F.jrnCfgFlushage ≤ s.tb.now))
    then s.flushMirrors else s)

/-- A journal commit is in progress (R38, R53). -/
def State.journalBusy (s : State) : Bool := !s.jrn.commits.isEmpty

/-- Complete every commit in progress, as many as there are. -/
def State.commitAll (fuel : Nat) (s : State) : State :=
  match fuel with
  | 0 => s
  | fuel + 1 => if s.jrn.commits.isEmpty then s else State.commitAll fuel s.commitOne

/-- The flush of LASTGASP and of a quiesce: commits in progress end, and every waiting record goes to flash (R53, R56,
R431). -/
def State.jrnFlush (s : State) : State := (State.commitAll (2 * s.jrn.commits.length + 8) s).flushMirrors

/-! ## Checkpoints and wear (R348, R351) -/

/-- Records from page bytes 16 on. -/
def pageRecords (fuel : Nat) (b : List Byte) : List (List Byte) :=
  match fuel with
  | 0 => []
  | fuel + 1 =>
    let n := 16 * byteAt b 1
    if b.length < 16 || n = 0 || b.length < n then [] else b.take n :: pageRecords fuel (b.drop n)

/-- The records of a page whose PCRC verifies; none otherwise (R346, R353). -/
def State.readPage (s : State) (copy k : Nat) : Option (Nat × List (List Byte)) :=
  let b := s.flashBytes (pageOff copy k) 256
  if leAt b 12 4 == crc32c (b.take 12 ++ b.drop 16) && leAt b 8 2 ≤ 240 then
    some (leAt b 0 4, pageRecords 15 ((b.drop 16).take (leAt b 8 2)))
  else none

/-- A record that recovery still needs: live (R348), or the newest ACCEPT of an entry and its settling record, by which
the quarantine of R334 outlasts the ring. -/
def State.recordLive (s : State) (r : List Byte) : Bool :=
  let j := recJseq r
  let t := recType r
  let flow := s.jFlow (recFidx r)
  if t = 1 then (s.jMsg j).isSome || (match flow with | some x => x.lastAcc == j | none => false)
  else if t ≤ 5 then (match flow with | some x => x.lastAcc == leAt r 12 4 && (s.jMsg (leAt r 12 4)).isNone | none => false)
  else if t = 6 then (match flow with | some x => x.opened == j | none => false)
  else if t = 7 then (match flow with | some x => x.closed | none => false)
  else if t = 8 then s.jrn.acts.any (fun p => p.1 == j)
  else false

/-- The CHECKPOINT record's body (R347). -/
def State.checkpointBody (s : State) : List Byte :=
  leBytes 2 s.jrn.epoch ++ leBytes 4 (s.jrnAllow / wearPage) ++ leBytes 4 s.jrn.used ++ leBytes 6 0

/-- JOURNAL_CHECKPOINT (R348): the oldest sector's live records are copied forward and the sector is erased. -/
def execJournalCheckpoint (s : State) : Out :=
  .next (
    let sector := (s.jrn.page + s.jrn.ready) % 16384 / 16
    let copy := if s.jrnCopy 0 then 0 else 1
    if s.comUp && s.jrnRoomFor 17 && s.jrn.ready + 32 ≤ 16384 then
      let recs := (List.range 16).flatMap (fun k =>
        match s.readPage copy (16 * sector + k) with | some p => p.2 | none => [])
      let live := recs.filter s.recordLive
      let ck := jrnRecord 10 0 s.jrn.jseq 0 0 s.checkpointBody
      let s := { s with jrn := { s.jrn with jseq := s.jrn.jseq + 1 } }
      let s := s.writePages true (live ++ [ck])
      let s := (s.eraseFlash (pageOff 0 (16 * sector)) (pageOff 0 (16 * sector + 16))).eraseFlash
        (pageOff 1 (16 * sector)) (pageOff 1 (16 * sector + 16))
      let s := s.flcCount 4 2
      { s with jrn := { s.jrn with ready := s.jrn.ready + 16 } }
    else s)

/-- WEAROVER_CLEAR (R351): use is back at 100% of what has accrued. -/
def execWearoverClear (s : State) : Out :=
  .next (if s.flag F.jrnWearOver && s.jrn.used * wearPage ≤ s.jrnAllow then s.lower F.jrnWearOver else s)

/-- PLANE_FAIL (R331, R365): a flash copy leaves service. -/
def execPlaneFail (k : Nat) (status : Nat) (s : State) : Out :=
  .next (
    if s.comUp && k < 2 && s.jrnCopy k then
      let s := (s.clearBit A.jrnStat (20 + k)).raise F.jrnIntstatDegraded
      let s := { s with jrn := { s.jrn with failed := k :: s.jrn.failed } }
      let s := s.captureFault 6 (Site.pack { depth := 2, d := 2, c := k, t := 0, m := 0, w := 0, b := 0 }) status 0 0 []
      s.jrnNotice .ok 0
    else s)

/-! ## Recovery (R354-R357) -/

/-- Numbers in rising order, each once, of a rising list with repeats. -/
def dedupe : List Nat → List Nat
  | [] => []
  | [a] => [a]
  | a :: b :: t => if a = b then dedupe (b :: t) else a :: dedupe (b :: t)

/-- The pages of a copy that are not erased. -/
def State.writtenPages (s : State) (copy : Nat) : List Nat :=
  dedupe ((s.flash.filter (fun p => pageOff copy 0 ≤ p.1 && p.1 < pageOff copy 16384)).map
    (fun p => (p.1 - pageOff copy 0) / 256))

/-- The valid pages of a copy by PSEQ. -/
def State.pagesOf (s : State) (copy : Nat) : List (Nat × Nat × List (List Byte)) :=
  (s.writtenPages copy).foldl (fun m k =>
    match s.readPage copy k with
    | some (p, r) => Sparse.insert m p (k, r)
    | none => m) []

/-- The pages whose PSEQ chain from the oldest is unbroken (R356). -/
def chainPages (l : List (Nat × Nat × List (List Byte))) : List (Nat × Nat × List (List Byte)) :=
  match l with
  | [] => []
  | [p] => [p]
  | p :: q :: t => if q.1 = p.1 + 1 then p :: chainPages (q :: t) else [p]

/-- Records by JSEQ. -/
def byJseq (l : List (List Byte)) : List (Nat × List Byte) := l.foldl (fun m r => Sparse.insert m (recJseq r) r) []

/-- What a copy holds, by JSEQ; nothing from a copy that has failed. -/
def State.copyRecords (s : State) (copy : Nat) : List (Nat × List Byte) :=
  if s.jrn.failed.contains copy then [] else byJseq ((chainPages (s.pagesOf copy)).flatMap (fun p => p.2.2))

/-- ECRC of an ACCEPT record, against the flow of its FLOWOPEN records. -/
def ecrcGood (opens : List (List Byte)) (r : List Byte) : Bool :=
  let m := Msg.ofRecord r
  match (opens.filter (fun o => recFidx o == m.fidx && recJseq o < m.jseq)).getLast? with
  | none => false
  | some o => m.ecrc == ecrcOf (leAt o 24 2) m.epoch m.seq (leAt o 16 8) m.deadline m.payload

/-- R356 and R357 for one JSEQ: the record to take, and whether the conservative result was needed. -/
def resolveRecord (opens : List (List Byte)) (h : List (List Byte)) : Option (List Byte) × Bool :=
  match h with
  | [] => (none, false)
  | a :: t =>
    if t.all (fun b => b == a) then (some a, false)
    else
      match h.find? (fun b => 2 ≤ (h.filter (fun c => c == b)).length) with
      | some b => (some b, false)
      | none =>
        if [2, 3, 4, 5, 7, 9].contains (recType a) then (none, true)
        else ((h.find? (fun b => recType b != 1 || ecrcGood opens b)), true)

/-- Replay one record (R354). -/
def State.replay (s : State) (r : List Byte) : State :=
  let f := recFidx r
  let j := recJseq r
  match recType r with
  | 1 =>
    let m := Msg.ofRecord r
    let s := s.holdMsg r
    let s := s.mapMsg j (fun m => { m with sent := true, again := true })
    s.mapFlow f (fun x =>
      let x := if x.role = 1 then { x with seq := (m.seq + 1) % 2 ^ 32 } else x
      if x.role = 2 && x.prevPeer = 0 then { x with prevChain := m.hop % 2, prevPeer := m.prev } else x)
  | 2 => s.dropMsg (leAt r 12 4)
  | 3 => s.dropMsg (leAt r 12 4)
  | 4 => s.dropMsg (leAt r 12 4)
  | 5 => s.dropMsg (leAt r 12 4)
  | 6 =>
    let role := byteAt r 26
    let e := leAt r 12 2
    let s := if role = 1 then { s with jrn := { s.jrn with epoch := e } } else s
    let x : Flow :=
      { role := role, flow := leAt r 24 2, origin := leAt r 16 8, epoch := e, seq := 0, nextHop := leAt r 28 2,
        target := byteAt r 30, ready := true, opened := j }
    match s.jFlow f with
    | some y =>
      if y.role = 1 && role = 1 && y.flow = x.flow && !y.closed then
        s.setFlow f { y with epoch := e, seq := 0, opened := j }
      else s.setFlow f x
    | none => s.setFlow f x
  | 7 =>
    match s.jFlow f with
    | some y =>
      if y.role = 2 then { s with jrn := { s.jrn with flows := Sparse.erase s.jrn.flows f } }
      else s.setFlow f { y with closed := true }
    | none => s
  | 8 => { s with jrn := { s.jrn with acts := s.jrn.acts ++ [(j, (r.drop 16).take 16)] } }
  | 9 => { s with jrn := { s.jrn with acts := s.jrn.acts.filter (fun p => p.1 != leAt r 12 4) } }
  | 10 =>
    { s with jrn := { s.jrn with epoch := leAt r 16 2, allow := leAt r 18 4 * wearPage, used := leAt r 22 4 } }
  | _ => s

/-- The mirrors' records as recovery takes them (R356): the pair where both agree, else the first that passes. -/
def State.mirrorRecords (s : State) : List (Nat × List Byte) := byJseq s.jrnMirror

/-- Recovery begins (R354): what lies in flash and in the mirrors is all that is left. -/
def State.startRecovery (s : State) : State :=
  let s := { s with jrn := { s.jrn with holding := true } }
  s.raise F.jrnStatRecover

/-- Rewrite both copies with the resolved records (R356), from the first page on; PSEQ goes on. -/
def State.rebuildCopies (s : State) (recs : List (List Byte)) : State :=
  let s := (s.eraseFlash (pageOff 0 0) (pageOff 0 16384)).eraseFlash (pageOff 1 0) (pageOff 1 16384)
  ({ s with jrn := { s.jrn with page := 0, ready := 16384 } }).writePages true recs

/-- JOURNAL_RECOVERY_DONE (R354-R357): both copies and the mirrors are read and resolved, the entries rebuilt, the
mirrors' records written to flash. -/
def State.finishRecovery (s : State) : State :=
  let f0 := s.copyRecords 0
  let f1 := s.copyRecords 1
  let m := s.mirrorRecords
  let opens := ((f0 ++ f1 ++ m).map Prod.snd).filter (fun r => recType r == 6)
  let all := (f0 ++ f1 ++ m).foldl (fun l p => Sparse.insert l p.1 p.2) []
  let res := all.map (fun p =>
    (p.1, resolveRecord opens ([Sparse.find? f0 p.1, Sparse.find? f1 p.1, Sparse.find? m p.1].filterMap id)))
  let recs := res.filterMap (fun p => p.2.1)
  let bad := (res.find? (fun p => p.2.2)).map Prod.fst
  let both := !s.jrn.failed.contains 0 && !s.jrn.failed.contains 1
  let differ := (both && f0 != f1) || all.any (fun p =>
    [Sparse.find? f0 p.1, Sparse.find? f1 p.1, Sparse.find? m p.1].any (fun r => r.isSome && r != some p.2))
  let pages := if s.jrn.failed.contains 0 then chainPages (s.pagesOf 1) else chainPages (s.pagesOf 0)
  let next := match pages.getLast? with | some (_, k, _) => (k + 1) % 16384 | none => 0
  let first := match pages.head? with | some (_, k, _) => k / 16 * 16 | none => 0
  let pseq := ((s.pagesOf 0 ++ s.pagesOf 1).map Prod.fst).foldl max 0 + 1
  let s := { s with jrn := { s.jrn with
      flows := [], msgs := [], commits := [], acts := [], epoch := 0, allow := 0, used := 0, pseq := pseq, page := next,
      ready := if pages.isEmpty then 16384 else (first + 16384 - next) % 16384,
      jseq := (all.map Prod.fst).foldl max 0 + 1, diverged := bad } }
  let s := s.setFld F.jrnStatCopies ((if s.jrn.failed.contains 0 then 0 else 1) + (if s.jrn.failed.contains 1 then 0 else 2))
  let s := recs.foldl State.replay s
  let s := { s with jrn := { s.jrn with allowAt := s.tb.now } }
  let flashed := ((f0 ++ f1).map Prod.fst).foldl max 0
  let s := s.setRegN A.jrnCommitted flashed
  let s := if differ then s.rebuildCopies recs else s.writePages false (s.jrnWaiting)
  let s := (s.mapMirrors (fun _ => [])).lower F.jrnStatRecover
  let s := { s with jrn := { s.jrn with mirror0 := some [], mirror1 := some [] } }
  let s := if differ then s.raise F.sysBootflagsJrndiv else s
  if bad.isSome then s.raise F.jrnIntstatDiverged else s

end Sys2Proof.Machine
end

