-- ==== Sys2Proof/Machine/Makeup.lean ====
section
/-!
DEFINITION. Time while CK_REF is absent, and the tick of an empty queue (R118, R309, R536, R537).
-/

namespace Sys2Proof.Machine

/-- Add time in units of 2^-16 tick to TMB, the fraction kept (R536). -/
def State.tmbAdd16 (s : State) (n : Nat) : State :=
  let v := s.tb.now * 65536 + s.tb.frac + n
  s.setTb { s.tb with now := v / 65536 % 2 ^ 64, frac := v % 65536 }

/-- What follows a made-up TMB: NTM, its rounds and the duty ledger (R178, R309, R315). -/
def State.afterMakeup (s : State) (before n : Nat) : State := (s.ntmMakeup n).dutyMakeup before s.tb.now

/-- TMB_MAKEUP (R537): TMB becomes T0 + N x LFRATIO; with XREFRDY it counts CK_REF again at once. -/
def execTmbMakeup (s : State) : Out :=
  .next (
    if s.comUp && s.tb.run == .stopped && s.pw.boot != .startup && s.pw.boot != .held then
      let before := s.tb.now
      let n := s.tb.lfCycles * s.regN A.pmuLfratio
      let s := s.tmbAdd16 n
      let s :=
        if s.flag F.pmuStatXrefrdy then
          (s.setTb { s.tb with run := .ref, frac := 0, lfCycles := 0 }).lower F.tmbStatLf
        else (s.setTb { s.tb with run := .lf, lfCycles := 0 }).raise F.tmbStatLf
      s.afterMakeup before n
    else s)

/-- FEM_TX goes high 2 µs before the ramp-up of a frame that has passed its gate (R162). -/
def State.femEdge (s : State) (c : Chain) : State :=
  match (s.chain c).tx with
  | some f =>
    if !(s.chain c).pa && f.firstSym ≤ s.tb.now + f.rampTime + 80 then s.setChain c { s.chain c with femTx := true } else s
  | none => s

/-- The watchdog counts: enabled, after the handover, and in DORMANT only with DORM (R139). -/
def State.watchdogRuns (s : State) : Bool :=
  s.flag F.rstWdtcfgEn && !s.pw.watchdogPaused && (!s.dormant || s.flag F.rstWdtcfgDorm)

/-- The watchdog counts a cycle of CK_LF: its count moves every 32 (R139, R152). -/
def State.watchdogCycle (s : State) : State :=
  if !s.watchdogRuns then s
  else if s.pw.wdtAcc < 31 then { s with pw := { s.pw with wdtAcc := s.pw.wdtAcc + 1 } }
  else { s.setFld F.rstWdtcntCount (s.fld F.rstWdtcntCount - 1) with pw := { s.pw with wdtAcc := 0 } }

/-- A trial counts a cycle of CK_LF (R435). -/
def State.trialCycle (s : State) : State :=
  if s.fw.trial then { s with fw := { s.fw with trialLf := s.fw.trialLf + 1 } } else s

/-- A cycle of CK_LF for the counts kept in PD_AON: the wake timer and the watchdog (R128, R139), and the time of a trial
(R435). -/
def State.lfCycle (s : State) : State :=
  (s.setRegN A.pmuWakecnt (s.regN A.pmuWakecnt - 1)).watchdogCycle.trialCycle

/-- One tick of CK_REF for those counts: a cycle of CK_LF for each LFRATIO ticks (R114). -/
def State.lfTick (s : State) : State :=
  let n := s.pw.lfAcc + 65536
  let r := s.regN A.pmuLfratio
  if n < r then { s with pw := { s.pw with lfAcc := n } } else { s with pw := { s.pw with lfAcc := n - r } }.lfCycle

/-- One edge of the clock that drives TMB: a tick of CK_REF; a cycle of CK_LF by which TMB and NTM advance (R118, R309);
a cycle of CK_LF while TMB is stopped, counted for its make-up (R537). -/
def State.clockEdge (s : State) : State :=
  let s := { s with tick := s.tick + 1 }
  match s.tb.run with
  | .ref =>
    let s := s.snapFreeze
    ((((s.setTb { s.tb with now := (s.tb.now + 1) % 2 ^ 64 }).ntmTick).femEdge .s).femEdge .t).lfTick
  | .lf => ((s.tmbAdd16 (s.regN A.pmuLfratio)).ntmAdd (s.regN A.pmuLfratio)).lfCycle
  | .stopped => (s.setTb { s.tb with lfCycles := s.tb.lfCycles + 1 }).lfCycle

end Sys2Proof.Machine
end

