-- ==== Sys2Proof/Machine/Transmit.lean ====
section
/-!
DEFINITION. Actions at work: claims and conflicts (R252, R255-R257, R259), listens and backoff (R266-R268), receive windows
(R249, R265), the transmit gate (R163, R177, R179), ramps and turnarounds (R164-R168), coexistence (R174, R175), transmit
stamps (R319), in-line security (R453), WATCH listens (R271).
-/

namespace Sys2Proof.Machine

/-! ## WATCH listens (R271) -/

/-- The listen period of a WATCH profile in ns (R39, R271). -/
def watchPeriod (profile : Nat) : Nat :=
  match profile with | 0 => 4000000000 | 1 => 1000000000 | 2 => 250000000 | _ => 100000000

/-- Nanoseconds since the last instant of a listen. -/
def State.listenAge (s : State) : Nat :=
  let p := watchPeriod s.profile
  (s.ntmNs + p - (10000 * s.fld F.lnkWatchcfgOffset) % p) % p

/-- The tick of the next WATCH listen, where there is one (R271). -/
def State.nextListen (s : State) : Option Nat :=
  if s.mode = 1 && s.fld F.lnkWatchcfgMode != 0 then
    some (s.tb.now + (watchPeriod s.profile - s.listenAge) * 2 ^ 32 / s.ntm.inc)
  else none

/-- The chain of the WATCH listens. -/
def State.watchChain (s : State) : Chain := chainOf (s.fld F.lnkWatchcfgChain)

/-! ## Work due on a chain (R252) -/

/-- The tick at which a slot will want its chain, where that is known. -/
def State.dueAt (s : State) (n : Nat) : Option Nat :=
  let x := s.slot n
  match x.state with
  | 1 => if s.slotAsap n then some s.tb.now else s.claimTick n
  | 2 => some s.tb.now
  | 3 => if x.ended then none else some s.tb.now
  | 4 => some (x.until_ - 680)
  | _ => none

/-- An action, or a WATCH listen, on a chain falls due within a number of ticks. -/
def State.dueWithin (s : State) (c : Chain) (ticks : Nat) : Bool :=
  s.liveSlots.any (fun n =>
    s.slotChain n == c && (s.act n).kind != 5 && (match s.dueAt n with | some t => t ≤ s.tb.now + ticks | none => false))
  || (s.watchChain == c && (match s.nextListen with | some t => t ≤ s.tb.now + ticks + 680 | none => false))

/-- CHAIN_LOCK_START (R166, R252): 250 µs before a claim tick. In WATCH the chain's domain is powered for it. -/
def execChainLockStart (c : Chain) (s : State) : Out :=
  .next (
    if s.comUp && s.flag F.pmuStatXrefrdy && s.dueWithin c 10000 then
      let s := if s.mode = 1 && s.chState c = 0 then (s.setBit A.pmuDomstat (chainDomain c).bit).chainOn c else s
      if s.chState c = 1 then s.setChState c 2 else s
    else s)

/-- CHAIN_IDLE (R252): nothing is due within IDLE ms. In WATCH the chain's domain is switched off again. -/
def execChainIdle (c : Chain) (s : State) : Out :=
  .next (
    if s.chState c = 3 && (s.chain c).holder.isNone && !s.dueWithin c (40000 * s.fld F.lnkCfgIdle) then
      let s := ((s.setChState c 1).lower (F.rfsStatChlock c)).setFld (F.rfsFreqFreq c) 0
      let idle := !s.liveSlots.any (fun n => s.slotChain n == c && (s.slot n).state != 5 && (s.slot n).state != 6)
      if s.mode = 1 || (s.mode = 5 && idle) then (s.chainOff c).clearBit A.pmuDomstat (chainDomain c).bit else s
    else s)

/-- CAL_AUTO_START (R173). -/
def execCalAutoStart (c : Chain) (s : State) : Out :=
  .next (
    if s.flag (F.rfsCalAuto c) && s.flag (F.rfsStatCaldue c) && s.chState c = 1 && !s.dueWithin c 800000
    then s.setChState c 9 else s)

/-! ## Claims (R252, R255-R257, R259) -/

/-- What turns every claim away with MISSED, reason RADIO (R256). -/
def State.radioHold (s : State) : Bool :=
  (s.mode == 4 && s.profile == 1) || s.brd.reload.isSome || !s.flag F.pmuStatXrefrdy

/-- A swap window holds the link's resources back (R84, R256). -/
def State.swapHold (s : State) : Bool := s.swapWindow && (s.swapReplaces 2 || s.swapReplaces 3 || s.swapReplaces 4)

/-- An action waits in PENDING; its completion may name the cause (R256). -/
def State.holdBack (s : State) (n cause : Nat) : State := s.setSlot n { s.slot n with cause := cause }

/-- An action takes its chain (R251, R252): CLAIMED, the channel loop tuned; a receiver is ready 6 µs later, or 17 µs
where the frequency changes (R166). -/
def State.takeChain (s : State) (n from_ : Nat) : State :=
  let c := s.slotChain n
  let f := (s.act n).freq
  let settle := if s.flag (F.rfsStatChlock c) && (s.chain c).rxFreq = f && (s.chain c).carrier = 0 then 240 else 680
  let from_ := if (s.act n).receives then s.tb.now + settle else from_
  let s := s.setChain c { s.chain c with holder := some n, tx := none, stamping := false }
  (s.setSlot n { s.slot n with state := 2, claimed := s.tb.now, from_ := from_ }).tune c f

/-- A claim is missed in conflict, and counted (R257, R277). -/
def State.missConflict (s : State) (n : Nat) : State := (s.finishAction n .missed 6).lnkCount 12

/-- A listen was busy, cut or did not fit (R268): after MAXTRIES of them BUSY, else a roll and BACKOFF. -/
def State.busyListen (s : State) (n : Nat) (waits : Bool) : State :=
  let c := s.slotChain n
  let x := s.slot n
  let k := x.busy + 1
  let s := (s.setSlot n { x with busy := k, listening := false }).lnkCount 7
  if s.fld F.lnkLbtcfgMaxtries ≤ k then s.finishAction n .busy 5
  else
    let (r, s) := s.roll
    let lo := s.fld F.lnkLbtcfgMinbe
    let be := min (lo + k - 1) (max lo (s.fld F.lnkLbtcfgMaxbe))
    let s := if (s.chain c).holder = some n then s.releaseChain c else s
    s.setSlot n { s.slot n with
      state := 4, waitFree := waits, until_ := s.tb.now + r % 2 ^ be * (40 * s.fld F.lnkLbtunitUnit) }

/-- A window or listen that another claim ends (R257). -/
def State.cutWork (s : State) (h : Nat) : State :=
  if (s.act h).transmits then s.busyListen h true
  else (s.setSlot h { s.slot h with cut := true }).endWork h

/-- The loser of two claims of one tick (R257): a transmit kind is missed, a receive kind waits. -/
def State.loseClaim (s : State) (h : Nat) : State :=
  if (s.act h).transmits then s.missConflict h
  else (s.releaseChain (s.slotChain h)).setSlot h { s.slot h with state := 1, cause := 6 }

/-- A claim of a chain that another action holds (R257). -/
def State.contend (s : State) (n h from_ : Nat) : State :=
  let c := s.slotChain n
  let x := s.slot h
  if x.state = 2 && x.claimed = s.tb.now && s.outranks n h then (s.loseClaim h).takeChain n from_
  else if (s.act n).receives then s.holdBack n 6
  else if x.state = 2 || !((s.act h).receives || x.listening) then s.missConflict n
  else if s.pastSync c then
    if (s.act n).pri then (((s.narrowDrop (s.narrowCtx c)).lnkCount 12).cutWork h).takeChain n from_
    else s.missConflict n
  else (s.cutWork h).takeChain n from_

/-- The lead that decides whether a claim is late (R255): a follower on its anchor's chain does not wait for LEAD, since
its request is driven at once where less than LEAD remains (R167, R175, R258). -/
def State.lateLead (s : State) (n : Nat) : Nat :=
  let a := s.act n
  if a.timing = 1 && (a.kind = 1 || a.kind = 6) then s.rampOf (chainOf a.chain) a.mode + 480 else s.claimLead a

/-- The claim of an action whose time has come (R252, R255-R257). A listen that does not fit counts as busy (R259,
R268). -/
def State.claim (s : State) (n : Nat) : State :=
  let a := s.act n
  let c := chainOf a.chain
  let st := s.chState c
  if s.radioHold then s.finishAction n .missed 8
  else if st = 9 then s.holdBack n 10
  else if s.swapHold then s.holdBack n 9
  else if st < 3 then s.holdBack n 8
  else
    let start := (s.slot n).start.getD s.tb.now
    let from_ := if a.kind = 2 then start else s.tb.now
    if a.transmits && start - s.lateLead n < s.tb.now then s.finishAction n .missed (s.slot n).cause
    else if s.listens n && !s.fitsFrom n (s.tb.now + 1) then s.busyListen n true
    else
      match (s.chain c).holder with
      | none => s.takeChain n from_
      | some h =>
        if h = 512 then
          let s := if s.pastSync c then s.narrowDrop (s.narrowCtx c) else s
          (s.releaseChain c).takeChain n from_
        else s.contend n h from_

/-- An ASAP action's chain is free, its work fits, and it is the first (R259). -/
def State.asapReady (s : State) (n : Nat) : Bool :=
  let c := s.slotChain n
  (s.chain c).holder.isNone && s.chState c == 3 && s.fits n && s.asapFirst n

/-- ACTION_CLAIM (R252, R255-R257, R259). -/
def execActionClaim (n : Nat) (s : State) : Out :=
  .next (
    let x := s.slot n
    if x.state != 1 || (s.act n).kind = 5 then s
    else if s.slotAsap n then
      if s.radioHold then s.finishAction n .missed 8
      else if s.asapReady n && !s.swapHold then
        (s.setSlot n { x with start := some (s.tb.now + s.claimLead (s.act n)) }).claim n
      else s
    else
      match s.claimTick n with
      | some t => if t ≤ s.tb.now then s.claim n else s
      | none => s)

/-! ## Starts (R249, R255, R265, R266) -/

/-- The work starts too late (R255): beyond GRACE, or its window is over. -/
def State.tooLate (s : State) (n : Nat) : Bool :=
  let a := s.act n
  let start := (s.slot n).start.getD s.tb.now
  40 * s.fld F.lnkCfgGrace < s.tb.now - start || (a.receives && start + a.dur ≤ s.tb.now)

/-- A receiver opens (R162, R166, R265). -/
def State.openRx (s : State) (n : Nat) : State :=
  let a := s.act n
  let c := chainOf a.chain
  let x := s.slot n
  let start := x.start.getD s.tb.now
  if s.tooLate n then s.finishAction n .missed x.cause
  else if s.flag (F.rfsCoexEn c) && s.flag (F.rfsCoexRxgnt c) && !s.cxGnt c then s.finishAction n .busy 4
  else
    let s := s.setChState c 4
    let s := s.setChain c { s.chain c with rxMode := a.mode, femRx := true }
    s.setSlot n { x with
      state := 3, opened := some s.tb.now, until_ := start + a.dur, ranLate := start < s.tb.now }

/-- A listen starts (R266, R267). -/
def State.openListen (s : State) (n : Nat) : State :=
  let a := s.act n
  let c := chainOf a.chain
  let s := s.setChState c 4
  let s := s.setChain c { s.chain c with rxMode := a.mode, femRx := true }
  s.setSlot n { s.slot n with
    state := 3, listening := true, lbt := true, clear := false, waitFree := false, from_ := s.tb.now,
    until_ := s.tb.now + s.listenTicks a }

/-- Ramp-up starts (R162, R166, R168, R175, R178, R183): the chain's receive paths are blanked. -/
def State.rampUp (s : State) (c : Chain) (n : Nat) (f : TxFrame) : State :=
  let s := s.setChState c 5
  let s := s.raise (F.rfsStatBlank c)
  let x := s.chain c
  let s := s.setChain c { x with pa := true, binBands := x.binBands ++ f.bands, femTx := true, femRx := false }
  let s := if s.pastSync c then s.narrowDrop (s.narrowCtx c) else s
  let s := if s.bandRuns c.idx then s.cutBand c.idx 6 else s
  let s := if c = .s then { s with rf := { s.rf with wkrBlank := true } } else s
  s.setSlot n { s.slot n with state := 3, firstSym := some ((s.slot n).firstSym.getD f.firstSym) }

/-- A marker's tick (R249, R255). -/
def State.runMarker (s : State) (n : Nat) : State :=
  let a := s.act n
  let x := s.slot n
  let start := x.start.getD s.tb.now
  if s.tooLate n then s.finishAction n .missed x.cause
  else
    let s := if bitAt a.w7 8 then s.fireMain [bitsOf a.w7 0 8] else s
    s.setSlot n { x with state := 3, opened := some s.tb.now, ranLate := start < s.tb.now, ended := true }

/-- A transmit action listens first and has not yet found the channel clear. -/
def State.mustListen (s : State) (n : Nat) : Bool := s.listens n && !(s.slot n).clear

/-- ACTION_START (R249). -/
def execActionStart (n : Nat) (s : State) : Out :=
  .next (
    let a := s.act n
    let x := s.slot n
    let c := chainOf a.chain
    if a.kind = 5 then
      if x.state = 1 && (match x.start with | some t => t ≤ s.tb.now | none => s.slotAsap n) then s.runMarker n else s
    else if (s.chain c).holder != some n || s.chState c != 3 then s
    else if a.receives then
      if x.state = 2 && x.start.getD 0 ≤ s.tb.now && x.from_ ≤ s.tb.now then s.openRx n else s
    else if s.mustListen n then
      if x.state = 2 && x.from_ ≤ s.tb.now then s.openListen n else s
    else
      match (s.chain c).tx with
      | some f => if f.firstSym - f.rampTime ≤ s.tb.now then s.rampUp c n f else s
      | none => s)

/-! ## Windows and listens (R249, R265, R266, R268) -/

/-- RX_WINDOW_END (R249, R265): with the highest LEVEL, which a CCA reports. 512 names the WATCH listen. -/
def execRxWindowEnd (n : Nat) (peak : Int) (s : State) : Out :=
  .next (
    if n = 512 then
      let c := s.watchChain
      if (s.chain c).holder = some 512 && s.lnk.watchEnd ≤ s.tb.now && !s.pastSync c then s.releaseChain c else s
    else
      let x := s.slot n
      let c := s.slotChain n
      if (s.act n).receives && x.state = 3 && !x.ended && (s.chain c).holder = some n && x.until_ ≤ s.tb.now then
        if (s.act n).kind = 4 then (s.setSlot n { x with peak := peak }).endWork n
        else if s.pastSync c then s.setSlot n { x with closing := true }
        else s.endWork n
      else s)

/-- LISTEN_BUSY (R266): an update whose average lies wholly within the listen exceeds the threshold. -/
def execListenBusy (n : Nat) (level : Int) (s : State) : Out :=
  .next (
    let x := s.slot n
    if x.state = 3 && x.listening && x.from_ + 2560 ≤ s.tb.now && s.lbtThreshold (s.act n) < level
    then s.busyListen n false else s)

/-- LISTEN_CLEAR (R266): the gate follows 2 µs, ramp-up 12 µs after the end. -/
def execListenClear (n : Nat) (s : State) : Out :=
  .next (
    let x := s.slot n
    let c := s.slotChain n
    if x.state = 3 && x.listening && x.until_ ≤ s.tb.now then
      let s := if s.chState c = 4 then s.setChState c 3 else s
      let s := s.setChain c { s.chain c with femRx := false }
      s.setSlot n { x with
        listening := false, clear := true, start := some (s.tb.now + 480 + s.rampOf c (s.act n).mode) }
    else s)

/-- BACKOFF_END (R268): the next listen claims the chain, by R257 where another action holds it; where the frame does not
fit, the listen counts as busy once. A listen that was cut or did not fit follows the action that took the chain. -/
def execBackoffEnd (n : Nat) (s : State) : Out :=
  .next (
    let x := s.slot n
    let c := s.slotChain n
    if x.state != 4 || s.tb.now + 680 < x.until_ then s
    else if s.radioHold then s.finishAction n .missed 8
    else if s.chState c < 3 || s.chState c = 9 || s.swapHold then s
    else
      let from_ := max x.until_ (s.tb.now + 680)
      let again (s : State) : State :=
        if x.waitFree then s
        else
          let s := (s.setSlot n { x with busy := x.busy + 1, waitFree := true }).lnkCount 7
          if s.fld F.lnkLbtcfgMaxtries ≤ x.busy + 1 then s.finishAction n .busy 5 else s
      if !s.fitsFrom n (s.tb.now + 1) then again s
      else
        match (s.chain c).holder with
        | none => s.takeChain n from_
        | some h =>
          if h = 512 then
            let s := if s.pastSync c then s.narrowDrop (s.narrowCtx c) else s
            (s.releaseChain c).takeChain n from_
          else if x.waitFree then s
          else s.contend n h from_)

/-- WATCH_LISTEN (R271): a listen of 2 ms at its instant; one that meets an action is skipped. -/
def execWatchListen (s : State) : Out :=
  .next (
    let c := s.watchChain
    let m := s.fld F.lnkWatchcfgMode
    if s.mode = 1 && m != 0 && s.listenAge ≤ 25 && (s.chain c).holder.isNone && s.chState c = 3 then
      let s := (s.tune c (s.fld F.lnkWatchfreqFreq)).setChState c 4
      let s := s.setChain c { s.chain c with holder := some 512, rxMode := m, femRx := true }
      { s with lnk := { s.lnk with watchEnd := s.tb.now + 80000 } }
    else s)

/-- CTX_RELEASE (R201, R171, R258, R265): the frame's last soft decision has gone to a decoder. -/
def State.releaseCtx (s : State) (n : Nat) : State :=
  let x := s.ctx n
  let s := s.ctxCount n 1
  match s.narrowChain n with
  | none =>
    -- C of a wide-path frame, for an answer on its chain (R171)
    let c := chainOf x.band
    let ch := s.chain c
    (s.ctxFree n).setChain c { ch with
      rxEnd := some x.ended, rxC := if s.flag (F.rfsCtrlAfcen c) then x.cfo else 0, rxT := turnTicks x.mode }
  | some c =>
    let s := s.setCtx n { x with busy := false }
    let ch := s.chain c
    let s := s.setChain c { ch with
      rxEnd := some x.ended, rxC := ch.carrier, rxT := turnTicks x.mode, carrier := 0, lastSym := some x.ended, turnT := turnTicks x.mode }
    let s := s.showFreq c
    let m := x.action
    if m < 512 then
      let y := s.slot m
      if y.state = 3 && !y.ended && ch.holder = some m && (s.act m).kind = 3 then
        let fs := s.followersOf m
        let s := s.setSlot m { y with frames := y.frames + 1, lastEnd := some x.ended, delivered := false }
        if (s.act m).one || y.closing || !fs.isEmpty || y.until_ ≤ s.tb.now then
          let turn := fs.any (fun k =>
            (s.act k).transmits && s.slotChain k == c && (s.act k).offset ≤ turnOf (s.act k).mode x.mode)
          let s := s.endWork m
          if turn then (s.setChain c { s.chain c with cxReq := ch.cxReq, cxPri := ch.cxPri }).setChState c 8 else s
        else s
      else s
    else if ch.holder = some 512 && s.lnk.watchEnd ≤ s.tb.now then s.releaseChain c
    else s

/-- CTX_RELEASE (R201). -/
def execCtxRelease (n : Nat) (s : State) : Out :=
  .next (
    let x := s.ctx n
    if (x.state == 2 || (x.state == 5 && x.busy)) && x.header.isSome && x.formed == x.blockCount && x.waiting.isEmpty
    then s.releaseCtx n else s)

/-! ## Coexistence (R174, R175) -/

/-- COEX_REQUEST (R175): LEAD before a ramp-up, or before a receive action with RXREQ. -/
def execCoexRequest (c : Chain) (s : State) : Out :=
  .next (
    match (s.chain c).holder with
    | some n =>
      let a := s.act n
      if s.flag (F.rfsCoexEn c) && n < 512 && (a.transmits || s.flag (F.rfsCoexRxreq c)) then
        s.setChain c { s.chain c with cxReq := true, cxPri := a.pri }
      else s
    | none => s)

/-! ## Stamps (R316, R319) and in-line security (R453) -/

/-- The stamp of a frame's stamp point: NTM there with the TX delay, in ns. -/
def State.txStampNs (s : State) (c : Chain) (at_ : Nat) : Nat :=
  (s.ntm.time + (at_ - s.tb.now) * s.ntm.inc) / 2 ^ 32 + s.fld (match c with | .s => F.ntmExtdlyTxs | .t => F.ntmExtdlyTxt)

/-- QUAL of a Time IE (R318). -/
def State.timeQual (s : State) : Nat :=
  s.fld F.ntmStatStratum + 16 * s.fld F.ntmStatValid + 32 * b2n s.syncLocked

/-- The first Time IE within a frame's first 64 octets (R319). -/
def State.timeIeOf (s : State) (psdu : List Byte) : Option Nat :=
  (macView psdu).bind (fun v => (v.ies.find? (fun ie => timeIe psdu s.oui ie && ie.1 + 15 ≤ 64)).map Prod.fst)

/-- The frame with a stamp and QUAL over bytes 6-14 of its Time IE (R319). -/
def stampFrame (psdu : List Byte) (off ns qual : Nat) : List Byte :=
  psdu.take (off + 6) ++ (leBytes 8 ns ++ [Byte.ofN qual]) ++ psdu.drop (off + 15)

/-- The CCM* nonce of IEEE 802.15.4: source address, frame counter, security level. -/
def ccmNonce (eui fc : Nat) : List Byte := (leBytes 8 eui).reverse ++ (leBytes 4 fc).reverse ++ [6]

/-- A frame secured at level 6 with key identifier mode 0: 13 octets longer; its bytes are AES-CCM*'s (R453). -/
def State.secureFrame (s : State) (slot fc : Nat) (psdu : List Byte) : List Byte :=
  match macView psdu with
  | none => psdu
  | some v =>
    let key := (Sparse.find? s.sec.keys slot).getD []
    let mhr := Byte.ofN (setBitsOf (byteAt psdu 0) 3 1 1) :: (psdu.take 21).drop 1
    let aad := mhr ++ [6] ++ leBytes 4 fc ++ (psdu.take v.body).drop 21
    let body := (psdu.take (psdu.length - 4)).drop v.body
    aad ++ fixLen (body.length + 8) (Config.crypto 1 key (ccmNonce s.eui fc ++ aad) body)
      ++ fixLen 4 (Config.crypto 0 [] aad body)

/-- The session slot that secures a frame of the engine on a link: the tunnel's for a tunnel frame, the link's for a
custody frame; none where the frame is not secured (R453). -/
def State.secSlot (s : State) (i : Nat) (psdu : List Byte) : Option Nat :=
  match macView psdu with
  | none => none
  | some v =>
    if !s.lkSecured i then none
    else if v.ies.any (tunnelIe psdu s.oui) then
      some (if s.flag F.keyTunkeyEn then s.fld F.keyTunkeySlot else s.lk i 0x36 1 % 16)
    else if v.ies.any (custodyIe psdu s.oui) then some (s.lk i 0x36 1 % 16)
    else none

/-- The descriptor whose frame a slot of the engine carries. -/
def State.slotDesc (s : State) (n : Nat) : Option Desc :=
  ((s.tnt.flights.find? (fun p => p.2.txSlot == some n)).map Prod.snd).bind Flight.desc

/-- The frame counter of a secured transmission: that of the message's first transmission, else the slot's TXFC, which
rises, with FCLOW from 0xFF00_0000; none where the slot secures nothing more (R453). -/
def State.frameCounter (s : State) (slot : Nat) (msg : Option Nat) : Option Nat × State :=
  match msg.bind (fun j => (s.jrn.msgs.find? (fun m => m.jseq == j)).bind Msg.fc) with
  | some fc => (some fc, s)
  | none =>
    let fc := s.regN (A.keyTxfc slot)
    if fc = 0xFFFFFFFF then (none, s)
    else
      let s := s.setRegN (A.keyTxfc slot) (fc + 1)
      let s := if 0xFF000000 ≤ fc + 1 then s.raise F.keyIntstatFclow else s
      let s := match msg with | some j => s.mapMsg j (fun m => { m with fc := some fc }) | none => s
      (some fc, s)

/-- The PSDU of an action's frame, secured where R453 says so; none where its key can secure nothing more. -/
def State.framePsdu (s : State) (n : Nat) : Option (List Byte) × State :=
  let a := s.act n
  let x := s.slot n
  if a.kind = 6 then (some [], s)
  else
    match x.own with
    | none => (some (s.bytes a.buf a.len), s)
    | some p =>
      match s.secSlot (handleIdx a.link) p with
      | none => (some p, s)
      | some k =>
        match s.frameCounter k ((s.slotDesc n).bind Desc.msg) with
        | (none, s) => (none, s)
        | (some fc, s) => (some (s.secureFrame k fc p), s.count (A.cryCtr 6))

/-! ## The transmit gate (R163, R177, R179) -/

/-- The bins B that a frame of an action is checked for (R179). -/
def State.actBins (s : State) (a : Act) : Nat := dutyBins (2 * s.rampOf (chainOf a.chain) a.mode + a.air)

/-- The first check of R177 that refuses, with the band (0xFF for none). -/
def State.gateReason (s : State) (a : Act) : Option (Nat × Nat) :=
  let c := chainOf a.chain
  let bands := s.bandsOf a.chain a.freq
  if s.rf.rlr.isNone then some (1, 0xFF)
  else if bands.isEmpty then some (2, 0xFF)
  else
    match bands.find? (fun b => !(s.rlrBand b).permits a.freq) with
    | some b => some (2, b)
    | none =>
      match bands.find? (fun b => (s.rlrBand b).limit != 0 && (s.rlrBand b).limit < (s.band b).used + s.actBins a) with
      | some b => some (3, b)
      | none => if s.flag (F.rfsCoexEn c) && !s.cxGnt c then some (4, 0xFF) else none

/-- The PA's capability at a VPA in 20 mV units, in half decibels (R163). -/
def paCapability (c : Chain) (vpa : Nat) : Int :=
  if 170 ≤ vpa then (match c with | .s => 48 | .t => 40) else if 145 ≤ vpa then 40 else if 115 ≤ vpa then 34 else 28

/-- The applied power and the CLAMP bits (R163, R188). -/
def State.txPower (s : State) (a : Act) (vpa : Nat) : Int × Nat :=
  let c := chainOf a.chain
  let req := max (-40) a.power
  let rec_ := (s.bandsOf a.chain a.freq).foldl (fun p b => min p (s.rlrBand b).maxpwr) 127
  let pa := paCapability c vpa
  let top : Int := match c with | .s => 48 | .t => 40
  (min (min req rec_) (min pa top), b2n (rec_ < req) + 2 * b2n (pa < req) + 4 * b2n (top < req))

/-- A frame refused at the gate (R166, R177, R261). -/
def State.gateRefuse (s : State) (c : Chain) (n reason band : Nat) : State :=
  let s := ((s.setFld (F.rfsGateReason c) reason).setFld (F.rfsGateBand c) band).raise (F.rfsIntstatGateref c)
  let s := if reason = 4 then s.satCount (F.rfsCoexcntDeny c) else s
  let s := ((s.setChState c 3).lower (F.rfsStatBlank c)).lnkCount 5
  (s.raise F.lnkIntstatGateref).finishAction n (if reason ≤ 2 then .notPermitted else .busy) reason

/-- The power a frame is sent at is recorded (R163, R188). -/
def State.recordPower (s : State) (c : Chain) (a : Act) (vpa : Nat) : State :=
  let p := s.txPower a vpa
  let s := (s.setFld (F.rfsTxpwrVpa c) vpa).setFld (F.rfsTxpwrReq c) (ofSigned 8 a.power)
  let s := (s.setFld (F.rfsTxpwrApplied c) (ofSigned 8 p.1)).setFld (F.rfsTxpwrClamp c) p.2
  if p.2 = 0 then s else s.raise (F.rfsIntstatPwrclamp c)

/-- C is kept for an answer within T of a received frame (R171). -/
def State.keepsC (s : State) (c : Chain) (a : Act) (firstSym : Nat) : Bool :=
  s.flag (F.rfsCtrlAfctx c)
  && (match (s.chain c).rxEnd with | some e => firstSym ≤ e + max (s.chain c).rxT (turnTicks a.mode) | none => false)

/-- A frame passes its gate and is bound to the limits in force (R171, R177, R298, R319). -/
def State.gatePass (s : State) (c : Chain) (n vpa : Nat) : State :=
  let a := s.act n
  match s.framePsdu n with
  | (none, s) => s.finishAction n .notPermitted 0
  | (some psdu, s) =>
    let s := (s.setFld (F.rfsGateReason c) 0).setFld (F.rfsGateBand c) 0xFF
    let s := s.recordPower c a vpa
    let bands := s.bandsOf a.chain a.freq
    let s := if s.tntExists a.tenant then s.bucketCharge a.tenant (s.actBins a) bands else s
    let first := (s.slot n).start.getD s.tb.now
    let point := first + stampTicks a.mode a.pre
    let stamp := s.txStampNs c point
    let wants := a.stampTx && a.kind != 6 && !modeLe a.mode
    let ie := if wants then s.timeIeOf psdu else none
    let s := if wants && ie.isNone && n < 448 then (s.count (A.ntmCtr 7)).raise F.ntmIntstatNostamp else s
    let psdu := match ie with | some off => stampFrame psdu off stamp s.timeQual | none => psdu
    let ramp := (s.store c).ramp
    let f : TxFrame :=
      { slot := n, mode := a.mode, freq := a.freq, bands := bands, ramp := ramp, airtime := a.air,
        rampTime := rampTicks ramp (rampPs a.mode), firstSym := first, psdu := psdu,
        stampNs := if a.kind = 6 then none else some stamp }
    let x := s.chain c
    let s := s.setChain c { x with
      tx := some f, stamping := ie.isSome, stampEnd := point, granted := s.flag (F.rfsCoexEn c),
      carrier := if s.keepsC c a first then x.rxC else 0 }
    s.showFreq c

/-- TRANSMIT_GATE (R177): with VPA measured in 20 mV units; GNTSU before ramp-up, or 10 µs with coexistence disabled. -/
def execTransmitGate (c : Chain) (vpa : Nat) (s : State) : Out :=
  .next (
    match (s.chain c).holder with
    | none => s
    | some n =>
      let a := s.act n
      let x := s.slot n
      let su := if s.flag (F.rfsCoexEn c) then 40 * s.fld (F.rfsCoexGntsu c) else 400
      let ready := (x.state == 2 || x.state == 3) && !x.ended && a.transmits && !s.mustListen n && (s.chain c).tx.isNone
        && (s.chState c == 3 || s.chState c == 8)
      let late := x.start.getD 0 < s.tb.now + s.rampOf c a.mode
      if ready && late && !x.clear && a.kind != 6 then s.finishAction n .missed x.cause
      else if ready && x.start.getD 0 ≤ s.tb.now + s.rampOf c a.mode + su then
        match s.gateReason a with
        | some (r, b) => s.gateRefuse c n r b
        | none => s.gatePass c n vpa
      else s)

/-! ## Ramps, frames, turnarounds (R164-R168) -/

/-- RAMPUP_END (R166). -/
def execRampupEnd (c : Chain) (s : State) : Out :=
  .next (
    match (s.chain c).tx with
    | some f => if s.chState c = 5 && f.firstSym ≤ s.tb.now then s.setChState c 6 else s
    | none => s)

/-- Write the stamp of a transmitted frame (R319). -/
def State.writeTxStamp (s : State) (c : Chain) (ns : Nat) : State :=
  match c with
  | .s => s.setPair A.ntmTxs0 A.ntmTxs1 ns
  | .t => s.setPair A.ntmTxt0 A.ntmTxt1 ns

/-- TX_LAST_SYMBOL (R166, R258): the frame's E, and its stamp in the registers. -/
def execTxLastSymbol (c : Chain) (s : State) : Out :=
  .next (
    match (s.chain c).tx with
    | some f =>
      if s.chState c = 6 && f.firstSym + f.airtime ≤ s.tb.now then
        let s := s.setChState c 7
        let s := match f.stampNs with | some ns => s.writeTxStamp c ns | none => s
        let s := s.setChain c { s.chain c with lastSym := some s.tb.now, turnT := turnTicks f.mode, stamping := false }
        s.setSlot f.slot { s.slot f.slot with lastEnd := some s.tb.now, sent := (s.slot f.slot).sent + 1 }
      else s
    | none => s)

/-- An action on a chain starts by a tick: a follower within its offset, or one whose start time is fixed. -/
def State.startsBy (s : State) (c : Chain) (n t : Nat) : Bool :=
  s.liveSlots.any (fun m =>
    s.slotChain m == c && (s.act m).kind != 5 && m != n
    && (match (s.slot m).state, (s.slot m).start with
        | 1, some u => u ≤ t
        | 2, some u => u ≤ t
        | 1, none => (s.act m).timing == 1 && (s.act m).anchor == n && s.tb.now + (s.act m).offset ≤ t
        | _, _ => false))

/-- What follows a ramp-down: TURN where an action follows within the turnaround, else READY, unblanked (R166, R168). -/
def State.afterRampDown (s : State) (c : Chain) (n : Nat) (last : Nat) : State :=
  if s.startsBy c n (last + (s.chain c).turnT) then s.setChState c 8
  else (s.setChState c 3).lower (F.rfsStatBlank c)

/-- RAMPDN_END (R162, R166, R171, R175, R269): the PA is off; a WAKE goes on to its next telegram. -/
def State.rampDown (s : State) (c : Chain) (f : TxFrame) : State :=
  let n := f.slot
  let a := s.act n
  let y := s.slot n
  let last := (s.chain c).lastSym.getD s.tb.now
  let more := a.kind = 6 && y.sent < a.reps && !y.stopping
  let ch := s.chain c
  let s := s.setChain c { ch with pa := false, tx := none, femTx := false, carrier := 0, granted := false }
  let s := if c = .s then { s with rf := { s.rf with wkrPaEnd := some s.tb.now } } else s
  let s := s.showFreq c
  if more then
    let r := s.rampOf c a.mode
    let s := s.setSlot n { y with start := some (max (last + turnTicks a.mode) (s.tb.now + 480 + r)), clear := true }
    (s.setChState c 3).lower (F.rfsStatBlank c)
  else
    let keep := ch.cxReq && s.startsBy c n (s.tb.now + s.coexLead c)
    let s := s.endWork n
    let s := s.setChain c { s.chain c with cxReq := keep, cxPri := keep && ch.cxPri }
    s.afterRampDown c n last

/-- RAMPDN_END (R166). -/
def execRampdnEnd (c : Chain) (s : State) : Out :=
  .next (
    match (s.chain c).tx with
    | some f =>
      if s.chState c = 7 && (s.chain c).lastSym.getD 0 + f.rampTime ≤ s.tb.now then s.rampDown c f else s
    | none => s)

/-- TURN_END (R166-R168): into RAMPUP so that the ramp ends at T, else into RX, or READY. -/
def execTurnEnd (c : Chain) (s : State) : Out :=
  .next (
    if s.chState c != 8 then s
    else
      let past := (s.chain c).lastSym.getD 0 + (s.chain c).turnT ≤ s.tb.now
      match (s.chain c).holder, (s.chain c).tx with
      | some n, some f => if f.firstSym - f.rampTime ≤ s.tb.now then s.rampUp c n f else s
      | some n, none =>
        if past then
          let s := (s.setChState c 3).lower (F.rfsStatBlank c)
          if (s.act n).receives && (s.slot n).state = 2 && (s.slot n).start.getD 0 ≤ s.tb.now then s.openRx n else s
        else s
      | none, _ => if past then (s.setChState c 3).lower (F.rfsStatBlank c) else s)

end Sys2Proof.Machine
end

