-- ==== Sys2Proof/Machine/Receive.lean ====
section
/-!
DEFINITION. Received frames (R263, R264): buffers, matching to a link (R286), in-line security (R453), mesh samples (R321),
records and ring entries.
-/

namespace Sys2Proof.Machine

/-! ## Buffers (R263, R264, R275) -/

/-- Octets of PSDU that a buffer of a BUFSZ holds. -/
def bufCapacity (sz : Nat) : Nat := match sz with | 0 => 256 | 1 => 512 | 2 => 1024 | _ => 2048
/-- The lowest free buffer. -/
def State.freeBuffer (s : State) : Option Nat := (List.range s.lnk.rxCount).find? (fun b => !s.lnk.taken.contains b)

/-! ## Matching (R286) -/

/-- The frame was received on an advertising channel of LE, with the advertising access address (R273). -/
def State.leAdvert (s : State) (a : Arrived) : Bool :=
  a.action < 512 && (match leChannel (s.act a.action).freq with | some k => 37 ≤ k | none => false)

/-- A link hears a frame: it is OPENING, UP or CLOSING, on the frame's chain, and the source address is its peer's; an
LE frame is the frame of the link opened in LE mode. -/
def State.linkMatches (s : State) (a : Arrived) (v : Option MacView) (i : Nat) : Bool :=
  1 ≤ s.lkState i && s.lkState i ≤ 3 && s.lkChain i == a.chain
  && (if modeLe a.mode then modeLe (s.lkMode i) && !s.leAdvert a
      else
        match v.bind MacView.src with
        | some (true, x) => x == s.lkPeer i
        | some (false, x) => x == s.lk i 0x10 2 && x != 0xFFFF
        | none => false)

/-- The link a frame matches. -/
def State.matchLink (s : State) (a : Arrived) (v : Option MacView) : Option Nat :=
  if a.fcsOk then s.liveLinks.find? (s.linkMatches a v) else none

/-! ## In-line security (R453) -/

/-- A frame of a secured link decrypts: level 6, key identifier mode 0, and the MIC is AES-CCM*'s. -/
def State.decrypts (s : State) (slot i : Nat) (psdu : List Byte) (v : MacView) : Bool :=
  let key := (Sparse.find? s.sec.keys slot).getD []
  let fc := leAt psdu (v.aux + 1) 4
  v.security && bitsOf (byteAt psdu v.aux) 0 5 == 6
  && Config.cryptoOk 1 key (ccmNonce (s.lkPeer i) fc ++ psdu.take v.body) ((psdu.take (psdu.length - 4)).drop v.body)

/-- The slot whose key secures a tunnel frame of a link. -/
def State.tunnelSlot (s : State) (i : Nat) : Nat :=
  if s.flag F.keyTunkeyEn then s.fld F.keyTunkeySlot else s.lk i 0x36 1 % 16

/-- A frame is discarded by in-line security. -/
def State.inlineDrop (s : State) : State := (s.count (A.cryCtr 7)).raise F.cryIntstatInlrx

/-! ## Mesh samples (R321) -/

/-- A frame from the parent may give a mesh sample. -/
def State.meshFrame (s : State) (a : Arrived) (i : Nat) (v : MacView) : State :=
  match v.ies.find? (timeIe a.psdu s.oui) with
  | none => s
  | some ie =>
    let stamp := leAt a.psdu (ie.1 + 6) 8
    let qual := byteAt a.psdu (ie.1 + 14)
    if s.fld F.ntmParentHandle = s.lkHandle i && !a.fw && bitAt qual 4 && qual % 16 < 15
    then s.meshSample a.stamp stamp (qual % 16) else s

/-! ## Records and entries (R263, R264) -/

/-- FLAGS of a record. -/
def Arrived.flags (a : Arrived) : Nat :=
  b2n a.fcsOk + 2 * b2n a.combined + 4 * b2n a.repeated + 8 * b2n a.fw + 16 * b2n a.wide + 32 * a.chain

/-- The record header of R264. -/
def State.rxRecord (s : State) (a : Arrived) (link : Option Nat) : List Byte :=
  leBytes 8 a.stamp ++ leBytes 2 a.psdu.length ++ [Byte.ofN a.mode, Byte.ofN a.flags]
  ++ leBytes 2 (match link with | some i => s.lkHandle i | none => 0xFFFF)
  ++ [Byte.ofN (match link with | some i => s.lkTenant i | none => 0xFF), Byte.ofN a.inc] ++ leBytes 2 a.slice
  ++ leBytes 2 (ofSigned 16 a.level) ++ leBytes 4 (ofSigned 24 a.cfo + 2 ^ 24 * (a.ctx % 128)) ++ leBytes 2 a.action
  ++ [0, 0] ++ leBytes 4 (s.regN A.lnkRxseq)

/-- The ring entry of R263. -/
def State.rxEntry (s : State) (a : Arrived) (b : Nat) : List Byte :=
  [2, Byte.ofN a.mode] ++ leBytes 2 b ++ leBytes 2 a.psdu.length ++ [Byte.ofN a.flags, 0] ++ leBytes 4 (s.regN A.lnkRxseq)
  ++ leBytes 4 0

/-- Write a frame's record in a buffer and announce it; a full ring frees the buffer again. -/
def State.announce (s : State) (a : Arrived) (link : Option Nat) (b : Nat) : State :=
  let r := s.fld F.lnkRxcfgDefring
  let e := s.rxEntry a b
  let s := s.dma (s.lnk.rxBase + (bufCapacity s.lnk.rxSz + 32) * b) (s.rxRecord a link ++ a.psdu)
  let s := (s.lnkCount 8).setRegN A.lnkRxseq ((s.regN A.lnkRxseq + 1) % 2 ^ 32)
  if s.ringRoom r then { s with lnk := { s.lnk with taken := b :: s.lnk.taken } }.lnkRingPut r e
  else (s.lnkCount 10).raise F.lnkIntstatRingfull

/-- The frequency a frame came on: that of its action, or of its slice. -/
def State.arrivedFreq (s : State) (a : Arrived) : Option Nat :=
  if a.wide then
    (s.slice a.chain a.slice).map (fun w => ((bitsOf (s.capPlan a.chain) 0 30 : Int) + signedOf 25 w).toNat)
  else if a.action < 512 then some (s.act a.action).freq
  else none

/-- What the matched link learns of a frame: LASTHEARD, its counter, the channel of a reply, and a follower's ANCHOR
(R285, R286). -/
def State.heardFrame (s : State) (a : Arrived) (i : Nat) : State :=
  let s := (s.heard i a.ended).lkCount i 4
  let s := s.setLkWork i { s.lkWork i with rxFreq := s.arrivedFreq a }
  if s.lkInterval i != 0 && !s.lkLeader i then s.setLk i 0x18 8 a.stampTick else s

/-- A frame of a matched link: mesh sample, in-line security, custody and tunnel frames, LCPs; the rest is announced. -/
def State.linkFrame (s : State) (a : Arrived) (i b : Nat) (v : MacView) : State :=
  let s := s.meshFrame a i v
  let secured := s.lkSecured i
  if v.ies.any (custodyIe a.psdu s.oui) then
    -- the journal takes the frame with its own command, CUSTODY_DATA or CACK; its buffer is free again
    if secured && !s.decrypts (s.lk i 0x36 1 % 16) i a.psdu v then s.inlineDrop
    else s.followerAnswer i a.ended
  else if v.ies.any (tunnelIe a.psdu s.oui) then
    let fc := leAt a.psdu (v.aux + 1) 4
    if secured && !s.decrypts (s.tunnelSlot i) i a.psdu v then s.inlineDrop
    else if secured && s.flag F.keyTunkeyEn && fc ≤ s.regN A.keyTunrxfc then s
    else
      let s := if secured && s.flag F.keyTunkeyEn then s.setRegN A.keyTunrxfc fc else s
      (s.announce a (some i) b).followerAnswer i a.ended
  else if v.ies.any (lcpIe a.psdu s.oui) then
    let op := byteAt a.psdu v.body
    if 1 ≤ op && op ≤ 8 then s.announce a (some i) b else s.lkCount i 5
  else (s.announce a (some i) b).followerAnswer i a.ended

/-- A delivered frame takes a buffer and goes its way (R263). -/
def State.receive (s : State) (a : Arrived) (b : Nat) : State :=
  let v := macView a.psdu
  match s.matchLink a v, v with
  | some i, some v => (s.heardFrame a i).linkFrame a i b v
  | some i, none => (s.heardFrame a i).announce a (some i) b
  | none, _ => s.announce a none b

/-- The RX action of a narrow-path frame learns that its last frame was delivered (R258). -/
def State.markDelivered (s : State) (a : Arrived) : State :=
  if a.action < 512 && (s.slot a.action).state != 0 then
    s.setSlot a.action { s.slot a.action with delivered := a.delivered }
  else s

/-- FRAME_RECEIVED (R263). -/
def execFrameReceived (s : State) : Out :=
  .next (
    match s.lnk.arrived with
    | [] => s
    | a :: rest =>
      let s := { s with lnk := { s.lnk with arrived := rest } }.markDelivered a
      if !a.delivered then s
      else if !modeLr a.mode && !a.fcsOk && s.flag F.lnkRxcfgDropbad then s
      else if bufCapacity s.lnk.rxSz < a.psdu.length then s.lnkCount 11
      else
        match s.freeBuffer with
        | none => (s.lnkCount 9).raise F.lnkIntstatNobuf
        | some b => s.receive a b)

end Sys2Proof.Machine
end

