-- ==== Sys2Proof/Machine/Domains.lean ====
section
/-!
DEFINITION. What a power domain loses and finds again (R22, R23, R272), and the resets: their scopes and their records
(R134-R137, R149, R150, R605).
-/

namespace Sys2Proof.Machine

/-! ## Pip cores (R470, R491) -/

/-- A core: Pip cores 0-3, or 4 the sentinel. -/
def State.core (s : State) (k : Nat) : PipCore := (Sparse.find? s.pip k).getD {}

/-- Set a core's state. -/
def State.setCore (s : State) (k : Nat) (c : PipCore) : State := { s with pip := Sparse.insert s.pip k c }

/-- The end of a core's machine return stack at reset entry (R491). -/
def coreStackEnd (k : Nat) : Nat := if k = 4 then 0x24040000 else 0x20000000 + (k + 1) * 0x180000

/-- The state a core starts in (R491). -/
def PipCore.start (k pc : Nat) : PipCore :=
  let top := coreStackEnd k
  { run := .running, pc := Word.ofN (pc - pc % 2), dsp := Word.ofN (top - 0x400), rspm := Word.ofN top,
    rsmBase := Word.ofN (top - 0x400), rsmLim := Word.ofN top }

/-- Release a core at an address (R158). -/
def State.pipRelease (s : State) (k pc : Nat) : State := s.setCore k (PipCore.start k pc)

/-- Hold a core: its state is reset (R134, R159). A journal target whose ring the core serves gets its deliveries again
(R342). -/
def State.pipReset (s : State) (k : Nat) : State := { s with pip := Sparse.erase s.pip k }

/-! ## Losing a domain (R23) -/

/-- Registers of PD_COM that its switching off does not lose: identity, the names of the running Board, and network time
(R309, R321, R323). -/
def comKept (a : Nat) : Bool :=
  (0x40220000 ≤ a && a < 0x40230000) || [A.sysUidlo, A.sysUidhi, A.brdLayout, A.brdGen, A.brdSource].contains a

/-- The power losses of a domain rise. -/
def State.bumpEpoch (s : State) (d : Nat) : State :=
  { s with ramEpochs := Sparse.insert s.ramEpochs d ((Sparse.find? s.ramEpochs d).getD 0 + 1) }

/-- SRAM bytes and marks of words in error go, for the addresses of a test. -/
def State.loseRam (s : State) (lost : Nat → Bool) : State :=
  { s with ram := s.ram.filter (fun p => !lost p.1), ecc := s.ecc.filter (fun p => !lost (8 * p.1)) }

/-- An erase that ends before its time leaves its sectors undefined: they are marked from its start (R400, R605). -/
def FlcState.stopped (x : FlcState) : FlcState := { x with erase := none, op := none, poll := 0, stage := [] }

/-- What PD_COM loses when it is switched off, its registers apart. The Board, the committed stores, the duty ledger,
the record in force and the queue of notices outlive it (R58, R186, R380). -/
def State.comLost (s : State) : State :=
  { s with
    ctxGen := none
    icu := { src := s.icu.src.filter (fun p => irqAon p.1), banks := s.icu.banks.filter (fun p => p.1 = 4) }
    evf := { s.evf with main := 0, out := 0, raw := 0, cells := 0, groups := 0, opening := 0, closing := 0, inputs := [] }
    tb := { s.tb with cmpStage := [], cmpLatch := [], caps := [], pms := [] }
    snp := {}
    rf := { s.rf with
      chS := { ({} : ChainState) with binBands := s.rf.chS.binBands }
      chT := { ({} : ChainState) with binBands := s.rf.chT.binBands } }
    cap := {}
    dec := {}
    lnk := {}
    tnt := {}
    lum := {}
    hsl := { ({} : HslState) with
      notices := s.hsl.notices, lost := s.hsl.lost, lostWait := s.hsl.lostWait, nseq := s.hsl.nseq,
      wake := s.hsl.wake, out := s.hsl.out }
    flc := s.flc.stopped
    sec := s.sec.lost
    brd := { s.brd with
      swap := none, reload := none, persisting := none, locked := [], heldEdges := [], droppedEdges := [],
      heldTimers := [] }
    fw := { s.fw with cancelHost := none } }

/-- Switching off PD_COM. -/
def State.loseCom (s : State) : State :=
  let s := { s with regs := s.regs.filter (fun p => regDomain p.1 == Domain.aon || comKept p.1) }
  (s.loseRam (fun a => region a == Region.context)).comLost.bumpEpoch Domain.com.idx

/-- Switching off a cluster: its SRAM and its core go. -/
def State.loseCluster (s : State) (n : Nat) : State :=
  ((s.loseRam (fun a => region a == Region.mainSram && clusterOf a == n)).bumpEpoch (Domain.cl n).idx).pipReset n

/-- The contents of a domain are lost (R23). -/
def State.loseDomain (s : State) (d : Domain) : State :=
  match d with
  | .aon => s
  | .com => s.loseCom
  | .cl0 => s.loseCluster 0
  | .cl1 => s.loseCluster 1
  | .cl2 => s.loseCluster 2
  | .cl3 => s.loseCluster 3
  | .xr => s.xrefStop
  | .rfs => s.chainOff .s
  | .rft => s.chainOff .t
  | .met => s
  | .fl => { s with flc := s.flc.stopped }

/-! ## HELD actions over DORMANT (R272) -/

/-- The save area of HELD actions. -/
def State.lgBase (s : State) : Nat := 8 * (s.regN A.pmuLgsave / 8)

/-- Save HELD actions in slot order, at most 16; any further one is cancelled. -/
def State.saveHeld (s : State) : State :=
  let held := s.liveSlots.filter (fun n => (s.slot n).state == 6)
  if bitAt (s.regN A.pmuLgsave) 0 then
    let keep := held.take 16
    let s := (held.drop 16).foldl (fun s n => s.finishAction n .cancelled 11) s
    let body := keep.map (fun n =>
      ((List.range 8).map (fun i => leBytes 4 (s.actW n i))).flatten ++ leBytes 2 n ++ [Byte.ofN (s.slotGen n), 0, 0, 0, 0, 0])
    let s := s.dma s.lgBase (leBytes 4 keep.length ++ leBytes 4 0 ++ body.flatten)
    { s with pw := { s.pw with lgSaved := true } }
  else held.foldl (fun s n => s.finishAction n .cancelled 11) s

/-- Restore one saved action; one whose PSDU lay in main SRAM completes. -/
def State.restoreOne (s : State) (k : Nat) : State :=
  let a := s.lgBase + 8 + 40 * k
  let n := s.mem (a + 32) 2 % 512
  let s := (List.range 8).foldl (fun s i => s.setRegN (A.lnkAction (8 * n + i)) (s.mem (a + 4 * i) 4)) s
  let x : Slot := { state := 6, order := s.lnk.order }
  let s := { s with lnk := { s.lnk with
    order := s.lnk.order + 1, gens := Sparse.insert s.lnk.gens n (s.mem (a + 34) 1 % 128),
    slots := Sparse.insert s.lnk.slots n x } }
  let act := s.act n
  if (act.kind = 1 || act.kind = 2) && region act.buf != .retained then s.finishAction n .cancelled 11 else s

/-- Restore the saved actions when PD_COM powers up; COUNT becomes 0. -/
def State.restoreHeld (s : State) : State :=
  if s.pw.lgSaved then
    let n := min 16 (s.mem s.lgBase 4)
    let s := (List.range n).foldl (fun s k => s.restoreOne k) s
    { s.dma s.lgBase (leBytes 4 0) with pw := { s.pw with lgSaved := false } }
  else s

/-! ## Powering up -/

/-- After DORMANT the journal engine rebuilds its entries from the copies (R330, R354). -/
def State.journalReturn (s : State) : State :=
  if s.pw.boot = .run || s.pw.boot = .service then
    let d := s.jrn.diverged
    let s := s.finishRecovery
    { s with jrn := { s.jrn with diverged := d } }
  else s

/-- TAMPER_ALARM notices that had waited for PD_COM are queued (R462). -/
def State.queueAlarms (s : State) : State :=
  s.sec.alarms.foldl (fun s p => s.notice 0xCD p) { s with sec := { s.sec with alarms := [] } }

/-- What PD_COM takes up when it is switched on (R165, R272, R457, R462, R520). -/
def State.comPowerUp (s : State) : State :=
  let s := ((s.loadStore .s).loadStore .t).setFld F.rngStatState 1
  let s := s.evRestart.journalReturn.restoreHeld
  let s := if s.pw.boot = .run || s.pw.boot = .service then s.queueAlarms else s
  if s.ntm.meshPrev.isSome then s.setNtm { s.ntm with meshPrev := none } else s

/-- Switch on a domain: its registers hold reset values and its SRAM is undefined (R23). -/
def State.switchOn (s : State) (d : Domain) : State :=
  if s.domainOn d then s
  else
    let s := s.setBit A.pmuDomstat d.bit
    match d with
    | .com => s.comPowerUp
    | .rfs => s.chainOn .s
    | .rft => s.chainOn .t
    | _ => s

/-- Switch off a domain with the loss of its contents (R23). -/
def State.switchOff (s : State) (d : Domain) : State :=
  if s.domainOn d then (s.loseDomain d).clearBit A.pmuDomstat d.bit else s

/-- The domains beside PD_AON, in an order in which they may be switched. -/
def switchable : List Domain := [.com, .fl, .cl0, .cl1, .cl2, .cl3, .xr, .rfs, .rft, .met]

/-! ## Reset scopes (R134, R135, R605) -/

/-- The EVENTAON section's keys: the always-on channels keep their settings (R134). -/
def aonCfgKey (k : Nat) : Bool := cfgKey 1 7 10 0 0 ≤ k && k < cfgKey 1 7 11 0 0

/-- What a reset of SYSTEM scope clears: everything but PD_AON's settings, retained SRAM and main SRAM outside the boot
work area. The sectors of an erase in progress stay undefined (R605). -/
def State.resetFabric (s : State) : State :=
  let s := (s.loseRam (fun a => region a == Region.context || (0x20000000 ≤ a && a < 0x20040000))).bumpEpoch 16
  let s := s.bumpEpoch Domain.com.idx
  { s with
    regs := s.regs.filter (fun p => regDomain p.1 == Domain.aon && !(0x40600000 ≤ p.1 && p.1 < 0x40610000))
    ctxGen := none
    board := s.board.filter (fun p => aonCfgKey p.1)
    subst := []
    brd := {}
    hsl := { ({} : HslState) with
      notices := s.hsl.notices, lost := s.hsl.lost, lostWait := s.hsl.lostWait, nseq := s.hsl.nseq,
      wake := s.hsl.wake, out := s.hsl.out }
    icu := {}
    evf := { ({} : EvfState) with high := s.evf.high, aon := s.evf.aon }
    tb := { ({} : TimeBase) with now := s.tb.now, frac := s.tb.frac, run := s.tb.run, lfCycles := s.tb.lfCycles }
    snp := {}
    ntm := {}
    rf := { ({} : RadioState) with
      storeS := s.rf.storeS, storeT := s.rf.storeT, ledger := s.rf.ledger, seeded := s.rf.seeded }
    cap := {}
    dec := {}
    lnk := {}
    tnt := {}
    lum := {}
    jrn := { ({} : JrnState) with mirror0 := s.jrn.mirror0, mirror1 := s.jrn.mirror1, failed := s.jrn.failed }
    flc := { ({} : FlcState) with junk := s.flc.junk, junkUnits := s.flc.junkUnits }
    fw := {}
    sec := s.sec.lost
    pip := []
    fcr := { s.fcr with bist := none } }

/-- The mode controller's status returns to start-up, keeping the comparator's state; transitions, waits and the
watchdog stop (R134, R139). -/
def State.resetModeController (s : State) : State :=
  let pf := s.fld F.pmuModestatPfail
  let s := (s.setRegN A.pmuModestat 7).setFld F.pmuModestatPfail pf
  let s := (s.setRegN A.pmuModehist 0).setRegN A.pmuDomstat 0
  let s := ((((s.lower F.pmuStatRegrdy).lower F.pmuStatOscrdy).lower F.pmuStatMemrdy).lower F.pmuStatLogrdy).xrefStop
  { s with pw := { s.pw with
      boot := .startup, trans := none, waiting := none, wSleep := false, formerMode := none, lg := .none,
      ownWake := none, recovered := false, holdupDone := false, hostReset := none, xrefRetried := false,
      clusterWaking := [], lateWrites := [], watchdogPaused := true } }

/-- A reset of SYSTEM scope (R134). -/
def State.resetSystem (s : State) : State := s.resetFabric.resetModeController

/-- A reset of ALWAYS-ON scope: also PD_AON but for the retained SRAM, the RST records, the always-on radio store and
the FCR's pending buffer and counts; the pad latch opens (R134), and PFAIL goes on following the comparator (R44). TMB returns to zero (R536). -/
def State.resetAlwaysOn (s : State) : State :=
  let keep := [A.rstCause, A.rstCausehist, A.rstRstcount]
  let s := s.resetSystem
  let t : State := { s with
    regs := s.regs.filter (fun p => keep.contains p.1)
    board := []
    evf := { ({} : EvfState) with high := s.evf.high }
    sec := {}
    pw := { ({} : PowerState) with vddio := s.pw.vddio }
    tb := {} }
  t.setFld F.pmuModestatPfail (s.fld F.pmuModestatPfail)

/-- A POWER-ON reset: everything; flash and OTP keep their contents, retained SRAM is undefined (R134, R605). The frames
sent, the ticks made and the draws of free values are the model's own. -/
def State.resetPowerOn (s : State) : State :=
  { State.reset with
    flash := s.flash
    otp := s.otp
    flc := { ({} : FlcState) with junk := s.flc.junk, junkUnits := s.flc.junkUnits }
    ecc := s.ecc.filter (fun p => region (8 * p.1) == .flash)
    ramEpochs := s.ramEpochs.foldl (fun m p => Sparse.insert m p.1 (p.2 + 1))
      [(0, 1), (1, 1), (2, 1), (3, 1), (4, 1), (5, 1), (16, 1)]
    tick := s.tick
    free := s.free
    pending := s.pending
    pw := { ({} : PowerState) with vddio := s.pw.vddio }
    hsl := { ({} : HslState) with out := s.hsl.out, wake := s.hsl.wake } }

/-- A reset source asserts (R136, R137): the reset is made at its scope, and the RST records are written as start-up
begins (R149, R150). Sources that assert in one tick give the widest scope and the lowest code; RESET_N low holds the reset (R138). A SYSTEM
reset does not interrupt a BIST run: its source is only recorded (R573). -/
def State.assertReset (s : State) (scope code : Nat) : State :=
  if s.pw.boot == .bist && scope = 2 && code != 12 then s.setBit A.rstCausehist code
  else
  let same : Option (Nat × Nat) :=
    match s.pw.lastReset with
    | some (t, sc, cd) => if t = s.tick then some (sc, cd) else none
    | none => none
  let mode := if same.isSome then s.fld F.rstCauseMode else s.mode
  let scope' := match same with | some (sc, _) => max sc scope | none => scope
  let code' := match same with | some (_, cd) => min cd code | none => code
  let counted := same.isNone
  let held := s.pw.boot == .held
  let s := if scope = 4 then s.resetPowerOn else if scope = 3 then s.resetAlwaysOn else s.resetSystem
  let s := s.setBit A.rstCausehist code
  let s := if counted && scope != 4 then s.satCount F.rstRstcountCount else s
  let s := ((s.setFld F.rstCauseMode mode).setFld F.rstCauseScope scope').setFld F.rstCauseCode code'
  let s := s.setFld F.rstCausePadheld (b2n (!s.pw.held.isEmpty))
  { s with pw := { s.pw with
      lastReset := some (s.tick, scope', code'), boot := if held then .held else s.pw.boot } }

end Sys2Proof.Machine
end

