-- ==== Sys2Proof/Machine/Flash.lean ====
section
/-!
DEFINITION. Flash and the stored images (R392-R423, R605): the ROM routines, background erases, the scrubber, the
operation registers, the Defaults Image and the regulatory lock record with their host commands.
-/

namespace Sys2Proof.Machine

/-! ## Geometry (R392, R393) -/

/-- The area of R393 that a flash offset lies in, and whether FL_PROGRAM and FL_ERASE may change it. -/
def flashArea (off : Nat) : Nat × Bool :=
  if off < 0x00100000 then (0, false)
  else if off < 0x00900000 then (1, true)
  else if off < 0x00D00000 then (2, false)
  else if off < 0x00F00000 then (3, true)
  else if off < 0x01000000 then (4, false)
  else if off < 0x01800000 then (5, true)
  else if off < 0x01C00000 then (6, false)
  else if off < 0x01E00000 then (7, true)
  else if off < 0x01F00000 then (8, false)
  else if off < 0x02000000 then (9, true)
  else (10, false)

/-- The flash offset of Board slot 0-3. -/
def boardSlotOff (k : Nat) : Nat := if k < 2 then 0x00D00000 + k * 0x100000 else 0x01C00000 + (k - 2) * 0x100000

/-- The offset of DFI copy 0-2. -/
def dfiOff (k : Nat) : Nat := match k with | 0 => 0x00F00000 | 1 => 0x00F01000 | _ => 0x01E00000

/-- The offset of RLR copy 0-2. -/
def rlrOff (k : Nat) : Nat := match k with | 0 => 0x00F02000 | 1 => 0x00F03000 | _ => 0x01E01000

/-- The staging area for a sector of a plane: two sectors on the other plane (R393, R405). -/
def stagingOff (plane : Nat) : Nat := if plane = 0 then 0x01EFE000 else 0x00FFE000

/-- The packed site of a flash word (R32). -/
def flashSite (off : Nat) : Nat :=
  Site.pack { depth := 5, d := 2, c := planeOf off, t := off % 0x1000000 / 0x100000, m := off % 0x100000 / 0x4000,
              w := off % 0x4000 / 8, b := 0 }

/-- Bytes lie wholly in main SRAM or wholly in retained SRAM. -/
def inSram (a n : Nat) : Bool :=
  (0x20000000 ≤ a && a + n ≤ 0x20600000) || (0x24000000 ≤ a && a + n ≤ 0x24040000)

/-! ## What FLC reads (R402, R418) -/

/-- A ROM erase or operation is on a plane, and whether it is suspended. -/
def State.planeWork (s : State) (p : Nat) : Option Bool :=
  match s.flc.erase, s.flc.op with
  | some e, _ => if e.lower || planeOf (4096 * e.first) = p then some e.suspended else none
  | none, some o => if o.op ≤ 3 && planeOf o.addr = p then some o.suspended else none
  | none, none => none

/-- `FLC.STAT` (R419). -/
def State.flcStat (s : State) : Nat :=
  let one (p : Nat) : Nat :=
    match s.planeWork p with
    | none => 0
    | some susp => 2 ^ (8 + 2 * p) + 2 ^ (4 + p) * b2n susp + 2 ^ p * b2n (!susp)
  one 0 + one 1

/-- `FLC.SCRUBSTAT` (R419). -/
def State.scrubStat (s : State) : Nat := 2 ^ 16 * s.flc.marked.length + s.flc.next

/-- The word that OTPDATA shows: key roots read as zero (R407, R419). -/
def State.otpData (s : State) : Nat :=
  let w := s.fld F.flcOtpaddrWord
  if 0x100 ≤ w && w < 0x200 then 0 else s.otpWord w

/-! ## Junk, programs and erases -/

/-- Leave a run of sectors undefined (R400, R605). -/
def State.junkSectors (s : State) (l : List Nat) : State :=
  let (n, s) := s.draw (2 ^ 64)
  let others := s.flc.junk.filter (fun p => !l.contains p.1)
  { s with flc := { s.flc with junk := l.foldl (fun m k => Sparse.insert m k (n + 4096 * k)) others } }

/-- Sectors are erased: they read 0xFF. -/
def State.eraseSectors (s : State) (first count : Nat) : State :=
  let s := s.eraseFlash (4096 * first) (4096 * (first + count))
  { s with
    ecc := s.ecc.filter (fun p => !(0x08000000 + 4096 * first ≤ 8 * p.1 && 8 * p.1 < 0x08000000 + 4096 * (first + count)))
    flc := { s.flc with
      junk := s.flc.junk.filter (fun p => p.1 < first || first + count ≤ p.1)
      junkUnits := s.flc.junkUnits.filter (fun p => p.1 < 16 * first || 16 * (first + count) ≤ p.1) } }

/-- Erase sectors and count them (R421). -/
def State.eraseCounted (s : State) (first count : Nat) : State := (s.eraseSectors first count).flcCount 4 count

/-- Program bytes, in whole units (R421). -/
def State.program (s : State) (off : Nat) (b : List Byte) : State := (s.setFlash off b).flcCount 3 ((b.length + 255) / 256)

/-- Every byte of a range reads erased. -/
def State.erasedRange (s : State) (off n : Nat) : Bool := (s.flashBytes off n).all (· == 0xFF)

/-! ## Locks (R71, R397, R401, R424) -/

/-- A firmware slot is RUNNING (R424). -/
def State.fwRunning (s : State) (k : Nat) : Bool := s.fw.slot == some k

/-- A firmware slot is SCHEDULED: a live ACTIVATION record names it (R424, R431). -/
def State.fwScheduled (s : State) (k : Nat) : Bool := s.jrn.acts.any (fun p => byteAt p.2 8 == k)

/-- A firmware slot is locked (R424). -/
def State.fwLocked (s : State) (k : Nat) : Bool := s.fwRunning k || s.fwScheduled k

/-- `FLC.XOi` covers a sector: enabled, FIRST to LAST (R401). -/
def State.xoCovers (s : State) (sector : Nat) : Bool :=
  (List.range 16).any (fun i => s.flag (F.flcXoEn i) && s.fld (F.flcXoFirst i) ≤ sector && sector ≤ s.fld (F.flcXoLast i))

/-- A range touches an enabled execute-only region. -/
def State.xoTouches (s : State) (off n : Nat) : Bool :=
  (List.range 16).any (fun i =>
    s.flag (F.flcXoEn i) && 4096 * s.fld (F.flcXoFirst i) < off + n && off < 4096 * (s.fld (F.flcXoLast i) + 1))

/-! ## The Defaults Image (R409-R413) -/

/-- The registers loaded from the Defaults Image at a start-up step, and that step. -/
def dfiRegisters : List (Nat × Nat) :=
  ([A.pmuSupcfg, A.pmuBuckcfg, A.pmuXrefcfg, A.pmuSentclk, A.pmuWakemode, A.pmuModecfg, A.rstWdtcfg,
    A.wkrCtrl, A.wkrNodepat, A.wkrGrp0, A.wkrGrp1, A.wkrThr, A.lnkWatchcfg, A.lnkWatchfreq, A.tntLcoui,
    A.ntmCfg, A.ntmSynccfg, A.ntmSyncwin, A.ntmSyncofs, A.ntmPropdly, A.ntmExtdly,
    A.jrnCfg, A.jrnRetxcfg, A.jrnHoldcfg, A.jrnDlvcfg, A.jrnUplink, A.tmpClass, A.tmpIncfg, A.tmpDetcfg, A.tmpCtl]
   ++ (List.range 16).map A.jrnRoute0 ++ (List.range 16).map A.jrnRoute1).map (fun a => (a, 4))
  ++ [A.hslCfg, A.hslUartcfg, A.hslTuncfg, A.hslTiming].map (fun a => (a, 9))

/-- The keys BOOTLIST and STARTMODE (R410). -/
def keyBootlist : Nat := 0xFFFF0001
/-- STARTMODE. -/
def keyStartmode : Nat := 0xFFFF0002

/-- The start-up step that loads a key. -/
def dfiStep (k : Nat) : Option Nat :=
  if k = keyBootlist || k = keyStartmode then some 4 else (dfiRegisters.find? (fun p => p.1 == k)).map Prod.snd

/-- The entries of an image: KEY and VALUE. -/
def dfiEntries (p : List Byte) : List (Nat × Nat) :=
  (List.range (leAt p 6 2)).map (fun i => (leAt p (32 + 8 * i) 4, leAt p (36 + 8 * i) 4))

/-- Keys rise strictly. -/
def keysRise (l : List (Nat × Nat)) : Bool := Sparse.rising l

/-- The rules of R409 and R410 beside GEN and CRC. -/
def dfiForm (p : List Byte) : Bool :=
  p.take 4 == [0x44, 0x46, 0x49, 0x31] && byteAt p 5 == 1 && leAt p 6 2 ≤ 504 && leAt p 12 4 == 32 + 8 * leAt p 6 2
  && leAt p 12 4 == p.length && allZero ((p.drop 16).take 12)
  && keysRise (dfiEntries p) && (dfiEntries p).all (fun e => (dfiStep e.1).isSome)

/-- The CRC of an image: over bytes 0-27 and the entries (R409). -/
def dfiCrc (p : List Byte) : Nat := crc32c (p.take 28 ++ p.drop 32)

/-- The image of a copy, where the copy is intact (R409, R410). -/
def State.dfiCopy (s : State) (k : Nat) : Option (List Byte) :=
  let head := s.flashBytes (dfiOff k) 32
  let n := leAt head 12 4
  if 32 ≤ n && n ≤ 4064 then
    let p := s.flashBytes (dfiOff k) n
    if dfiForm p && leAt p 28 4 == dfiCrc p then some p else none
  else none

/-- The three copies. -/
def State.dfiCopies (s : State) : List (Option (List Byte)) := (List.range 3).map s.dfiCopy

/-- Two equal entries of a list, the first such. -/
def firstPair (l : List (List Byte)) : Option (List Byte) := l.find? (fun x => 2 ≤ (l.filter (· == x)).length)

/-- A resolution: the rule of R413 that decided, and the image taken. -/
def dfiResolve (c : List (Option (List Byte))) : Nat × Option (List Byte) :=
  let l := c.filterMap id
  let g := (l.map (fun p => leAt p 8 4)).foldl max 0
  match l.filter (fun p => leAt p 8 4 == g) with
  | [] => (1, none)
  | t :: ts =>
    if ts.all (· == t) && l.all (fun p => leAt p 8 4 == g || leAt p 8 4 + 1 == g) then (2, some t)
    else
      match firstPair l with
      | some p => (3, some p)
      | none => (4, none)

/-- The copies that are intact, as a bit map. -/
def intactMap (c : List Bool) : Nat := (c.zip (List.range 3)).foldl (fun n p => n + b2n p.1 * 2 ^ p.2) 0

/-- The source code of a DFI resolution (R422). -/
def dfiSource (c : List (Option (List Byte))) : Nat :=
  match dfiResolve c with
  | (2, some p) => if c.all (· == some p) then 0 else 1
  | (3, _) => 2
  | _ => 3

/-- The status of a DFI resolution (R422). -/
def dfiStatus (c : List (Option (List Byte))) : Status :=
  match (dfiResolve c).1 with
  | 1 => .badImage
  | 4 => .nvDiverged
  | _ => .ok

/-- A resolution leaves a copy awaiting repair: one that is not intact, or differs from the result of rule 2 or 3 (R413). -/
def dfiAwaits (c : List (Option (List Byte))) : Bool :=
  c.any (· == none) || ((dfiResolve c).2.isSome && c.any (· != (dfiResolve c).2))

/-- The resolved entries in force now. -/
def State.dfiNow (s : State) : List (Nat × Nat) :=
  match (dfiResolve s.dfiCopies).2 with
  | some p => dfiEntries p
  | none => []

/-- A boot list follows R72. -/
def bootListOk (n : Nat) : Bool :=
  let b (i : Nat) : Nat := bitsOf n (8 * i) 8
  let slot (x : Nat) : Bool := x ≤ 3
  let l := ([0, 1, 2, 3].map b).filter (· != 0xFF)
  slot (b 0) && [1, 2, 3].all (fun i => slot (b i) || b i == 0xFF) && !(b 1 == 0xFF && b 2 != 0xFF)
  && l.all (fun x => (l.filter (· == x)).length == 1)

/-- The boot list that a set of entries gives (R72, R411, R412). -/
def bootListOf (l : List (Nat × Nat)) : Nat :=
  match Sparse.find? l keyBootlist with
  | some v => if bootListOk v then v else 0xFFFFFF00
  | none => 0xFFFFFF00

/-- A Board slot is in use: named in the boot list, or a part of the running Board (R71). -/
def State.boardInUse (s : State) (k : Nat) : Bool :=
  let n := bootListOf s.dfiNow
  (List.range 4).any (fun i => bitsOf n (8 * i) 8 == k)
  || [s.fld F.brdSourceFull, s.fld F.brdSourcePart1, s.fld F.brdSourcePart2].contains k

/-- A Board slot is locked against the flash controller (R71). -/
def State.boardLocked (s : State) (k : Nat) : Bool := s.brd.locked.contains k || s.boardInUse k

/-- A range touches a locked slot or an execute-only region (R397). -/
def State.rangeLocked (s : State) (off n : Nat) : Bool :=
  s.xoTouches off n
  || (List.range 4).any (fun k => boardSlotOff k < off + n && off < boardSlotOff k + 0x100000 && s.boardLocked k)
  || (List.range 2).any (fun k => fwSlotOff k < off + n && off < fwSlotOff k + 0x800000 && s.fwLocked k)

/-! ## FL_PROGRAM and FL_ERASE (R396, R397) -/

/-- A call holds the flash controller: an erase, a lowering or an operation runs (R395). -/
def State.flcHeld (s : State) : Bool := s.flc.erase.isSome || s.flc.op.isSome

/-- The range lies in one area given to these routines. -/
def rangePermitted (off n : Nat) : Bool := (flashArea off).2 && (flashArea off).1 == (flashArea (off + n - 1)).1

/-- Program data, or the first failure of R397 past its first row. -/
def State.flProgram (s : State) (off : Nat) (b : List Byte) : Status × State :=
  if off % 256 != 0 then (.reservedValue, s)
  else if s.mode = 5 || !rangePermitted off b.length then (.notPermitted, s)
  else if s.rangeLocked off b.length then (.locked, s)
  else if !s.erasedRange off b.length then (.notPermitted, s)
  else if s.flcHeld then (.busy, s)
  else (.ok, s.program off b)

/-- Start a background erase, or the first failure of R397. -/
def State.flErase (s : State) (off count : Nat) (host : Option (Origin × Nat)) : Status × State :=
  if off % 4096 != 0 || count = 0 || 256 < count then (.reservedValue, s)
  else if s.mode = 5 || !rangePermitted off (4096 * count) then (.notPermitted, s)
  else if s.rangeLocked off (4096 * count) then (.locked, s)
  else if s.flcHeld then (.busy, s)
  else
    let s := s.junkSectors ((List.range count).map (fun i => off / 4096 + i))
    (.pending, { s with flc := { s.flc with erase := some { first := off / 4096, count := count, host := host } } })

/-- An erase ends with a status: FL_POLL's result, OPDONE, OPFAIL where it is not OK, and the host's response. -/
def State.endErase (s : State) (e : EraseJob) (st : Status) : State :=
  let s := { s with flc := { s.flc with erase := none, poll := st.code } }.raise F.flcIntstatOpdone
  let s := if st = .ok then s else s.raise F.flcIntstatOpfail
  match e.host with
  | some (o, code) => s.respond o code st []
  | none => s

/-- FLASH_ERASE_DONE (R396). -/
def execFlashEraseDone (s : State) : Out :=
  .next (
    match s.flc.erase with
    | some e => if e.lower || e.suspended then s else (s.eraseCounted e.first e.count).endErase e .ok
    | none => s)

/-- LASTGASP begins: a ROM erase is abandoned, its sectors undefined, and FL_POLL gives BROWNOUT (R400, R403); so is one of the
operation registers. -/
def State.flashLastgasp (s : State) : State :=
  match s.flc.erase, s.flc.op with
  | some e, _ => s.endErase e .brownout
  | none, some o =>
    if o.op = 2 || o.op = 3 then
      { (s.lower F.flcOpstatBusy).setFld F.flcOpstatResult Status.brownout.code with flc := { s.flc with op := none } }
    else s
  | none, none => s

/-- ERASE_RESUME (R399): nothing waits on the plane. -/
def execEraseResume (s : State) : Out :=
  .next (
    match s.flc.erase with
    | some e =>
      { s with flc := { s.flc with erase := some (if e.suspended then { e with suspended := false, resumed := some s.tb.now } else e) } }
    | none =>
      match s.flc.op with
      | some o => { s with flc := { s.flc with op := some { o with suspended := false } } }
      | none => s)

/-! ## Calls of the routine table (R395) -/

/-- A general register of a core. -/
def State.g (s : State) (k r : Nat) : Word := Sparse.get (fun _ => (0 : Word)) (s.core k).g r

/-- Set a general register of a core. -/
def State.setG (s : State) (k r : Nat) (w : Word) : State :=
  let c := s.core k
  s.setCore k { c with g := Sparse.put (fun _ => (0 : Word)) c.g r w }

/-- A core runs with machine privilege. -/
def State.coreMach (s : State) (k : Nat) : Bool := bitAt (s.core k).psr.toNat 1

/-- A core can make a call: it runs, in a domain that is on, with PD_COM up. -/
def State.coreRuns (s : State) (k : Nat) : Bool :=
  k < 5 && (s.core k).run == .running && s.comUp && s.running && (k == 4 || s.domainOn (Domain.cl k))

/-- A call (R395): the checks of its arguments, then privilege and LASTGASP, then BUSY while another call holds the
controller; its status goes to g0. -/
def State.flCall (s : State) (k : Nat) (argsOk : Bool) (busy : Bool) (f : State → Status × State) : State :=
  if !s.coreRuns k then s
  else
    let (st, s) :=
      if !argsOk then (Status.reservedValue, s)
      else if !s.coreMach k || s.mode = 5 then (Status.notPermitted, s)
      else if busy then (Status.busy, s)
      else f s
    s.setG k 0 (Word.ofN st.code)

/-- An argument register. -/
def State.arg (s : State) (k i : Nat) : Nat := (s.g k i).toNat

/-- Unused arguments are zero. -/
def State.argsZero (s : State) (k from_ : Nat) : Bool := ([1, 2, 3, 4].filter (fun i => from_ ≤ i)).all (fun i => s.arg k i == 0)

/-- A source address is aligned and its bytes lie in SRAM (R395). -/
def sourceOk (a n : Nat) : Bool := a % 8 == 0 && inSram a n

/-- FL_PROGRAM (R397). -/
def execFlProgram (core : Nat) (s : State) : Out :=
  .next (
    let off := s.arg core 1
    let src := s.arg core 2
    let n := s.arg core 3
    let ok := off % 256 == 0 && n % 256 == 0 && 256 ≤ n && n ≤ 4096 && sourceOk src n && s.argsZero core 4
    s.flCall core ok false (fun s => s.flProgram off (s.bytes src n)))

/-- FL_ERASE (R397). -/
def execFlErase (core : Nat) (s : State) : Out :=
  .next (
    let off := s.arg core 1
    let n := s.arg core 2
    let ok := off % 4096 == 0 && 1 ≤ n && n ≤ 256 && s.argsZero core 3
    s.flCall core ok false (fun s => s.flErase off n none))

/-- What FL_POLL answers (R396). -/
def State.pollCode (s : State) : Nat := if s.flc.erase.isSome then Status.pending.code else s.flc.poll

/-- FL_POLL (R396). -/
def execFlPoll (core : Nat) (s : State) : Out :=
  .next (
    let s' := s.flCall core (s.argsZero core 1) false (fun s => (.ok, s))
    if s.coreRuns core && s.argsZero core 1 && s.coreMach core && s.mode != 5
    then s'.setG core 0 (Word.ofN s.pollCode) else s')

/-! ## Scrubbing and refresh (R404, R405) -/

/-- A sector is marked for refresh: at most 64 are kept. -/
def State.markSector (s : State) (k : Nat) : State :=
  if s.flc.marked.contains k || 64 ≤ s.flc.marked.length then s
  else { s with flc := { s.flc with marked := s.flc.marked ++ [k] } }.raise F.flcIntstatRefresh

/-- The NV_STATE payload (R422). -/
def nvPayload (item source : Nat) (st : Status) (valid detail : Nat) : List Byte :=
  [Byte.ofN item, Byte.ofN source] ++ leBytes 2 st.code ++ [Byte.ofN valid, 0, 0, 0] ++ leBytes 8 detail

/-- A codeword that no retry recovers (R404). -/
def State.flashUncorr (s : State) (off : Nat) : State :=
  let site := flashSite (off / 8 * 8)
  let s := (s.setRegN A.flcFaultsite0 (site % 2 ^ 32)).setRegN A.flcFaultsite1 (site / 2 ^ 32)
  let s := s.captureFault 2 site (s.fld F.flcEcccfgRetries) off 0 []
  ((s.flcCount 2 1).raise F.flcIntstatUncorr).notice 0xCB (nvPayload 2 6 .badImage 0 site)

/-- SCRUB_READ (R404, R405): the scrubber has read its next sector. Operands: the corrected bits of each codeword that BCH
corrected, the number recovered by a retry, and the indices of codewords that stayed uncorrectable. -/
def execScrubRead (corr : List Nat) (retried : Nat) (bad : List Nat) (s : State) : Out :=
  .next (
    if s.comUp && s.domainOn .fl && s.flag F.flcScrubcfgEn then
      let k := s.flc.next
      let s := (s.flcCount 0 corr.length).flcCount 1 retried
      let s := if corr.isEmpty && retried = 0 then s else s.raise F.flcIntstatCorr
      let s := if retried != 0 || corr.any (fun n => s.fld F.flcEcccfgRefthr ≤ n) then s.markSector k else s
      let s := (bad.filter (· < 128)).foldl (fun s i => s.flashUncorr (4096 * k + 32 * i)) s
      let s := { s with flc := { s.flc with next := (k + 1) % 8192 } }
      if k = 8191 then s.flcCount 6 1 else s
    else s)

/-- A sector may not be refreshed now: it holds the journal's write point, or lies in a Board slot under verification
(R405). -/
def State.refreshDeferred (s : State) (k : Nat) : Bool :=
  k == (0x00900000 + 256 * s.jrn.page) / 4096 || k == (0x01800000 + 256 * s.jrn.page) / 4096
  || (List.range 4).any (fun b => s.brd.locked.contains b && boardSlotOff b ≤ 4096 * k && 4096 * k < boardSlotOff b + 0x100000)

/-- The units of a sector's bytes that are not all 0xFF. -/
def liveUnits (b : List Byte) : Nat :=
  ((List.range 16).filter (fun i => !((b.drop (256 * i)).take 256).all (· == 0xFF))).length

/-- The staging header unit (R405). -/
def stagingHeader (k : Nat) (data : List Byte) : List Byte :=
  [0x31, 0x47, 0x54, 0x53] ++ leBytes 4 k ++ leBytes 4 (crc32c data) ++ List.replicate 244 0xFF

/-- Steps 3 and 4 of a refresh: the source sector is written from the staging copy, and the redirect goes. -/
def State.finishRefresh (s : State) (k : Nat) : State :=
  let st := stagingOff (planeOf (4096 * k))
  let data := s.flashBytes (st + 4096) 4096
  let s := s.eraseCounted k 1
  let s := (s.setFlash (4096 * k) data).flcCount 3 (liveUnits data)
  let s := s.program (st + 256) (List.replicate 256 0)
  { s with flc := { s.flc with redirect := none } }.flcCount 7 1

/-- A whole refresh of a sector (R405). -/
def State.refresh (s : State) (k : Nat) : State :=
  let st := stagingOff (planeOf (4096 * k))
  let data := s.flashBytes (4096 * k) 4096
  let s := s.eraseCounted (st / 4096) 2
  let s := (s.program (st + 4096) data).program st (stagingHeader k data)
  s.finishRefresh k

/-- FL_SCRUB (R405): a refresh that power loss cut short is completed first; then the first sector that may be refreshed. -/
def execFlScrub (core : Nat) (s : State) : Out :=
  .next (
    let runs := s.coreRuns core && s.argsZero core 1 && s.coreMach core && s.mode != 5 && !s.flcHeld
    let s := s.flCall core (s.argsZero core 1) s.flcHeld (fun s =>
      let s := match s.flc.redirect with | some (k, _) => s.finishRefresh k | none => s
      match s.flc.marked.find? (fun k => !s.refreshDeferred k) with
      | some k => (.ok, { s.refresh k with flc := { (s.refresh k).flc with marked := s.flc.marked.filter (· != k) } })
      | none => (.ok, s))
    if runs then s.setG core 1 (Word.ofN s.flc.marked.length) else s)

/-- Start-up step 1 finds a staging header that is valid and has no done unit, and redirects its sector (R405). -/
def State.findStaging (s : State) : State :=
  let hit (plane : Nat) : Option (Nat × Nat) :=
    let st := stagingOff plane
    let h := s.flashBytes st 12
    if leAt h 0 4 == 0x53544731 && leAt h 8 4 == crc32c (s.flashBytes (st + 4096) 4096) && s.erasedRange (st + 256) 256
       && leAt h 4 4 < 8192 then some (leAt h 4 4, st + 4096) else none
  { s with flc := { s.flc with redirect := match hit 0 with | some x => some x | none => hit 1 } }

/-! ## Writing the stored images (R414, R417) -/

/-- The bytes of an RLR copy, where it is intact. -/
def State.rlrCopy (s : State) (k : Nat) : Option (List Byte) :=
  let p := s.flashBytes (rlrOff k) 544
  if rlrIntact p then some p else none

/-- The three RLR copies. -/
def State.rlrCopies (s : State) : List (Option (List Byte)) := (List.range 3).map s.rlrCopy

/-- The record that the copies resolve to, as bytes (R416). -/
def rlrResolve (c : List (Option (List Byte))) : Option (List Byte) :=
  match c.filterMap id with
  | [] => none
  | p :: ps =>
    if ps.all (· == p) then some p
    else some (ps.foldl (fun r q => r.merge (RlrRecord.parse q)) (RlrRecord.parse p)).encode

/-- The source code of an RLR resolution (R422). -/
def rlrSource (c : List (Option (List Byte))) : Nat :=
  match c.filterMap id with
  | [] => 5
  | p :: ps => if ps.all (· == p) then (if ps.length = 2 then 0 else 2) else 4

/-- The status of an RLR resolution (R416, R422). -/
def rlrStatus (c : List (Option (List Byte))) : Status :=
  let l := c.filterMap id
  match rlrSource c with
  | 5 => .badImage
  | 4 => if (firstPair l).isSome then .ok else .nvDiverged
  | _ => .ok

/-- `FLC.NVSTAT` (R419). -/
def State.nvStat (s : State) : Nat :=
  let d := s.dfiCopies
  let r := s.rlrCopies
  2 ^ 24 * b2n (bitAt (s.otpWord 0x84) 1) + 2 ^ 19 * rlrSource r + 2 ^ 16 * intactMap (r.map Option.isSome)
  + 2 ^ 11 * dfiSource d + 2 ^ 8 * intactMap (d.map Option.isSome)

/-- The NV_STATE notice of an item (R422). -/
def State.nvNotice (s : State) (item : Nat) (st : Status) : State :=
  let c := if item = 0 then s.dfiCopies else s.rlrCopies
  let img := if item = 0 then (dfiResolve c).2 else rlrResolve c
  let gen := match img with | some p => leAt p 8 4 | none => 0
  let src := if item = 0 then dfiSource c else rlrSource c
  s.notice 0xCB (nvPayload item src st (intactMap (c.map Option.isSome)) gen)

/-- Write one copy: erase, program, verify. -/
def State.writeCopy (s : State) (off : Nat) (p : List Byte) : State := (s.eraseCounted (off / 4096) 1).program off p

/-- The generation that a write takes. -/
def nextGen (c : List (Option (List Byte))) : Nat :=
  match c.filterMap id with
  | [] => 1
  | l => (l.map (fun p => leAt p 8 4)).foldl max 0 + 1

/-- The image with its generation and CRC set. -/
def dfiSeal (p : List Byte) (g : Nat) : List Byte :=
  let q := p.take 8 ++ leBytes 4 g ++ p.drop 12
  q.take 28 ++ leBytes 4 (dfiCrc q) ++ q.drop 32

/-- The record with its generation and CRC set. -/
def rlrSeal (p : List Byte) (g : Nat) : List Byte :=
  let q := p.take 8 ++ leBytes 4 g ++ p.drop 12
  q.take 28 ++ leBytes 4 (crc32c (q.take 28 ++ q.drop 32)) ++ q.drop 32

/-- Write the copies in turn, until a supply failure stops the routine at a copy boundary: OK once copy 0 stands
(R414). -/
def State.writeCopies (s : State) (item : Nat) (p : List Byte) (copies : Nat) : Status × State :=
  let off := if item = 0 then dfiOff else rlrOff
  let s := (List.range (min 3 copies)).foldl (fun s k => s.writeCopy (off k) p) s
  let st : Status := if copies = 0 then .brownout else .ok
  let s :=
    if item = 1 && copies != 0 then
      { s.orOtp 0x84 2 with rf := { s.rf with rlr := some (RlrRecord.parse p) } }
    else s
  let s := if st = .ok then s else s.raise F.flcIntstatOpfail
  (st, s.nvNotice item st)

/-- May a record be written (R417): any intact form before RLRSET, else only one at least as restrictive. -/
def State.rlrAccepts (s : State) (p : List Byte) : Bool :=
  !bitAt (s.otpWord 0x84) 1
  || (match rlrResolve s.rlrCopies with
      | some c => (RlrRecord.parse p).tightens (RlrRecord.parse c)
      | none => false)

/-- FL_NVWRITE's work on an image whose arguments are in order (R414, R417). -/
def State.nvWrite (s : State) (item : Nat) (p : List Byte) (copies : Nat) : Status × State :=
  if item = 0 then
    if !dfiForm p then (.reservedValue, s)
    else if s.flcHeld then (.busy, s)
    else s.writeCopies 0 (dfiSeal p (nextGen s.dfiCopies)) copies
  else
    let q := rlrSeal p (nextGen s.rlrCopies)
    if !rlrForm q then (.reservedValue, s)
    else if !s.rlrAccepts p then (.locked, s)
    else if s.flcHeld then (.busy, s)
    else s.writeCopies 1 q copies

/-- FL_NVWRITE (R414). The operand is the number of copies written before the supply-failure comparator trips: 3 where
it does not. -/
def execFlNvwrite (core copies : Nat) (s : State) : Out :=
  .next (
    let item := s.arg core 1
    let src := s.arg core 2
    let n := s.arg core 3
    let form := if item = 0 then dfiForm (s.bytes src n) else rlrForm (rlrSeal (s.bytes src n) 0)
    let lenOk := if item = 0 then 32 ≤ n && n ≤ 4064 else n == 544
    let ok := item ≤ 1 && lenOk && sourceOk src n && s.argsZero core 4 && form
    s.flCall core ok false (fun s => s.nvWrite item (s.bytes src n) copies))

/-- Rewrite every copy that differs from the resolved image (R396). -/
def State.nvRepair (s : State) (item : Nat) : Status × State :=
  let copies := if item = 0 then s.dfiCopies else s.rlrCopies
  match (if item = 0 then (dfiResolve copies).2 else rlrResolve copies) with
  | none => (.nvDiverged, s.nvNotice item .nvDiverged)
  | some p =>
    let off := if item = 0 then dfiOff else rlrOff
    let s := (List.range 3).foldl
      (fun s k => if (copies[k]?).getD none = some p then s else s.writeCopy (off k) p) s
    (.ok, s.nvNotice item .ok)

/-- FL_NVREPAIR (R396). -/
def execFlNvrepair (core : Nat) (s : State) : Out :=
  .next (
    let item := s.arg core 1
    s.flCall core (item ≤ 1 && s.argsZero core 2) s.flcHeld (fun s => s.nvRepair item))

/-! ## Read-out protection (R403) -/

/-- A sector that a lowering keeps: the RLR copies, the FCR and its mirror. -/
def rdpKeeps (k : Nat) : Bool :=
  (0xF02 ≤ k && k < 0xF04) || k == 0x1E01 || (0xF10 ≤ k && k < 0xF20) || (0x1E10 ≤ k && k < 0x1E20)

/-- FL_RDP's work (R403). -/
def State.flRdp (s : State) (level : Nat) : Status × State :=
  let now := s.rdpLevel
  if now = 2 then (.locked, s)
  else if level < now && s.mode != 4 then (.notPermitted, s)
  else if s.flcHeld then (.busy, s)
  else if level = now then (.ok, s)
  else if now < level then
    if level = 1 then (.ok, (s.setFlash 0 (leBytes 4 0x5A3CC3A5)).flcCount 3 1)
    else (.ok, s.orOtp 0x84 1)
  else if !s.jrn.msgs.isEmpty || !s.jrn.acts.isEmpty then (.busy, s)
  else
    let s := s.junkSectors ((List.range 8192).filter (fun k => k != 0 && !rdpKeeps k))
    (.pending, { s with flc := { s.flc with erase := some { first := 0, count := 8192, lower := true } } })

/-- FL_RDP (R403). -/
def execFlRdp (core : Nat) (s : State) : Out :=
  .next (
    let level := s.arg core 1
    s.flCall core (level ≤ 2 && s.argsZero core 2) false (fun s => s.flRdp level))

/-- RDP_LOWER_DONE (R403): everything but the kept sectors is erased, and the device resets. -/
def execRdpLowerDone (s : State) : Out :=
  .next (
    match s.flc.erase with
    | some e =>
      if e.lower && !e.suspended then
        let s := { s with
          flash := s.flash.filter (fun p => rdpKeeps (p.1 / 4096)), ecc := s.ecc.filter (fun p => region (8 * p.1) != Region.flash),
          flc := { s.flc with junk := s.flc.junk.filter (fun p => rdpKeeps p.1),
                              junkUnits := s.flc.junkUnits.filter (fun p => rdpKeeps (p.1 / 16)) } }
        s.assertReset 3 11
      else s
    | none => s)

/-! ## OTP (R407, R408) -/

/-- The 256 bits of the rollback floor. -/
def State.floorBits (s : State) : Nat := ((List.range 4).map (fun k => s.otpWord (0x80 + k) * 2 ^ (64 * k))).foldl (· + ·) 0

/-- FL_OTPWRITE's work: the thermometer stays contiguous from bit 0, and bit 255 is never set (R408). -/
def State.flOtpwrite (s : State) (word v : Nat) : Status × State :=
  if word < 0x80 || 0x83 < word then (.notPermitted, s)
  else if s.flcHeld then (.busy, s)
  else (.ok, s.orOtp word v)

/-- The floor after a write would break the thermometer, or set bit 255. -/
def State.floorBad (s : State) (word v : Nat) : Bool :=
  0x80 ≤ word && word ≤ 0x83 &&
    (let t := s.floorBits ||| (v * 2 ^ (64 * (word - 0x80)))
     t &&& (t + 1) != 0 || 2 ^ 255 ≤ t)

/-- FL_OTPWRITE (R408). -/
def execFlOtpwrite (core : Nat) (s : State) : Out :=
  .next (
    let word := s.arg core 1
    let src := s.arg core 2
    let ok := sourceOk src 8 && s.argsZero core 3 && !s.floorBad word (s.mem src 8)
    s.flCall core ok false (fun s => s.flOtpwrite word (s.mem src 8)))

/-- FL_INFO (R396). -/
def execFlInfo (core : Nat) (s : State) : Out :=
  .next (
    let runs := s.coreRuns core && s.argsZero core 1 && s.coreMach core && s.mode != 5 && !s.flcHeld
    let s' := s.flCall core (s.argsZero core 1) s.flcHeld (fun s => (.ok, s))
    if runs then
      ((s'.setG core 1 (Word.ofN s.flcStat)).setG core 2 (Word.ofN s.nvStat)).setG core 3 (Word.ofN s.rdpLevel)
    else s')

/-- FL_RESERVED_ENTRY (R395). -/
def execFlReservedEntry (core : Nat) (s : State) : Out :=
  .next (if s.coreRuns core then s.setG core 0 (Word.ofN Status.unknownCommand.code) else s)

/-- OTPADDR_WRITE (R419): the word is valid in OTPDATA. -/
def execOtpaddrWrite (user : Bool) (w : Word) (s : State) : Out :=
  guarded user s (if s.comUp then s.writeReg A.flcOtpaddr w else s)

/-! ## The operation registers (R394, R419) -/

/-- An operation's arguments are in order. -/
def opArgsOk (op addr src : Nat) : Bool :=
  match op with
  | 1 => addr % 256 == 0 && addr < 0x02000000 && inSram src 256
  | 2 => addr % 4096 == 0 && addr < 0x02000000
  | 3 => addr < 0x02000000
  | 6 => addr < 1024 && inSram src 8
  | _ => true

/-- Start what OPCTL asks for: programs and erases run until FLC_OP_DONE; suspend and resume act at once. -/
def State.startOp (s : State) (op : Nat) : State :=
  let addr := s.regN A.flcOpaddr
  let src := s.regN A.flcOpsrc
  match s.flc.op with
  | some o =>
    if op = 4 && (o.op = 2 || o.op = 3) && !o.suspended then
      { s with flc := { s.flc with op := some { o with suspended := true } } }.flcCount 5 1
    else if op = 5 then { s with flc := { s.flc with op := some { o with suspended := false } } }
    else s
  | none =>
    if op = 4 || op = 5 then s
    else if !opArgsOk op addr src then s.setFld F.flcOpstatResult Status.reservedValue.code
    else if op = 1 && !s.erasedRange addr 256 then s.setFld F.flcOpstatResult Status.notPermitted.code
    else
      let s := { s.raise F.flcOpstatBusy with flc := { s.flc with op := some { op := op, addr := addr, src := src } } }
      match op with
      | 1 =>
        let (n, s) := s.draw (2 ^ 64)
        { s with flc := { s.flc with junkUnits := Sparse.insert s.flc.junkUnits (addr / 256) n } }
      | 2 => s.junkSectors [addr / 4096]
      | 3 => s.junkSectors ((List.range 4096).map (fun i => 4096 * planeOf addr + i))
      | _ =>
        let (n, s) := s.draw (2 ^ 64)
        s.orOtp addr (s.mem src 8 &&& n)

/-- A write to OPCTL: taken from machine privilege and the boot ROM's code only (R394). -/
def State.writeOpctl (s : State) (user rom : Bool) (w : Word) : State :=
  if user || !rom || !s.comUp then s
  else
    let op := bitsOf w.toNat 0 4
    if op = 0 || 6 < op then s.writeReg A.flcOpctl w
    else
      let s := s.writeReg A.flcOpctl w
      if bitAt w.toNat 31 then s.startOp op else s

/-- FLC_OP_PROGRAM_UNIT (R419). -/
def execFlcOpProgramUnit (user rom : Bool) (w : Word) (s : State) : Out := .next (s.writeOpctl user rom w)
/-- FLC_OP_ERASE_SECTOR (R419). -/
def execFlcOpEraseSector (user rom : Bool) (w : Word) (s : State) : Out := .next (s.writeOpctl user rom w)
/-- FLC_OP_ERASE_PLANE (R419). -/
def execFlcOpErasePlane (user rom : Bool) (w : Word) (s : State) : Out := .next (s.writeOpctl user rom w)
/-- FLC_OP_SUSPEND (R419). -/
def execFlcOpSuspend (user rom : Bool) (w : Word) (s : State) : Out := .next (s.writeOpctl user rom w)
/-- FLC_OP_RESUME (R419). -/
def execFlcOpResume (user rom : Bool) (w : Word) (s : State) : Out := .next (s.writeOpctl user rom w)
/-- FLC_OP_PROGRAM_OTP (R419). -/
def execFlcOpProgramOtp (user rom : Bool) (w : Word) (s : State) : Out := .next (s.writeOpctl user rom w)

/-- FLC_OP_DONE (R419): the operation ends with OK in OPSTAT. -/
def execFlcOpDone (s : State) : Out :=
  .next (
    match s.flc.op with
    | none => s
    | some o =>
      if o.suspended then s
      else
        let s := match o.op with
          | 1 =>
            let s := { s with flc := { s.flc with junkUnits := Sparse.erase s.flc.junkUnits (o.addr / 256) } }
            s.program o.addr (s.bytes o.src 256)
          | 2 => s.eraseCounted (o.addr / 4096) 1
          | 3 => s.eraseCounted (4096 * planeOf o.addr) 4096
          | _ => s.orOtp o.addr (s.mem o.src 8)
        { (s.lower F.flcOpstatBusy).setFld F.flcOpstatResult Status.ok.code with flc := { s.flc with op := none } })

/-! ## Host commands (R423) -/

/-- In LASTGASP every NV command fails with NOT_PERMITTED (R423). -/
def notInLastgasp (h : Handler) : Handler := fun o p s => if s.mode = 5 then (.now .notPermitted [], s) else h o p s

/-- DFI_WRITE's handler. -/
def handleDfiWrite : Handler := fun _ p s =>
  let off := leAt p 0 2
  let flags := byteAt p 2
  let data := p.drop 4
  if 1 < flags || byteAt p 3 != 0 then (.now .reservedValue [], s)
  else if off != 0 && off != s.flc.stage.length then (.now .reservedValue [], s)
  else if 4096 < off + data.length then (.now .reservedValue [], s)
  else if s.mode = 5 then (.now .notPermitted [], s)
  else
    let img := if off = 0 then data else s.flc.stage ++ data
    let s := { s with flc := { s.flc with stage := img } }
    if flags = 1 then
      let (st, s) := s.nvWrite 0 img 3
      (.now st [], s)
    else (.now .ok [], s)

/-- DFI_WRITE (R423). -/
def execDfiWrite (o : Origin) (p : List Byte) (s : State) : Out :=
  .next (hostCommand 0x50 (fun n => 12 ≤ n && n ≤ 1020 && (n - 4) % 8 == 0) handleDfiWrite o p s)

/-- An image's part of a DFI_READ response. -/
def dfiAnswer (img : List Byte) (off : Nat) : List Byte :=
  leBytes 2 img.length ++ [0, 0] ++ leBytes 4 (leAt img 8 4) ++ (img.drop off).take 1008

/-- DFI_READ's handler. -/
def handleDfiRead : Handler := fun _ p s =>
  let src := byteAt p 0
  let off := leAt p 2 2
  if 3 < src || byteAt p 1 != 0 || 4064 < off then (.now .reservedValue [], s)
  else if s.mode = 5 then (.now .notPermitted [], s)
  else
    let img := if src = 0 then (dfiResolve s.dfiCopies).2 else s.dfiCopy (src - 1)
    let s := if src = 0 && dfiAwaits s.dfiCopies then s.nvNotice 0 (dfiStatus s.dfiCopies) else s
    match img with
    | some p => (.now .ok (dfiAnswer p off), s)
    | none => (.now (if src = 0 then dfiStatus s.dfiCopies else .badImage) (leBytes 8 0), s)

/-- DFI_READ (R423). -/
def execDfiRead (o : Origin) (p : List Byte) (s : State) : Out := .next (hostCommand 0x51 (· == 4) handleDfiRead o p s)

/-- RLR_WRITE's handler. -/
def handleRlrWrite : Handler := fun _ p s =>
  if !rlrForm (rlrSeal p 0) then (.now .reservedValue [], s)
  else if s.mode = 5 then (.now .notPermitted [], s)
  else
    let (st, s) := s.nvWrite 1 p 3
    (.now st [], s)

/-- RLR_WRITE (R423). -/
def execRlrWrite (o : Origin) (p : List Byte) (s : State) : Out := .next (hostCommand 0x52 (· == 544) handleRlrWrite o p s)

/-- RLR_READ's handler. -/
def handleRlrRead : Handler := fun _ p s =>
  let src := byteAt p 0
  if 3 < src || !allZero (p.drop 1) then (.now .reservedValue [], s)
  else if s.mode = 5 then (.now .notPermitted [], s)
  else if src = 0 then
    let s := if rlrSource s.rlrCopies = 0 then s else s.nvNotice 1 (rlrStatus s.rlrCopies)
    (.now (rlrStatus s.rlrCopies) ((rlrResolve s.rlrCopies).getD []), s)
  else
    match s.rlrCopy (src - 1) with
    | some p => (.now .ok p, s)
    | none => (.now .badImage [], s)

/-- RLR_READ (R423). -/
def execRlrRead (o : Origin) (p : List Byte) (s : State) : Out := .next (hostCommand 0x53 (· == 4) handleRlrRead o p s)

/-- NV_STATUS's handler. -/
def handleNvStatus : Handler := fun _ _ s =>
  (.now .ok (([s.flcStat, s.nvStat, s.rdpLevel, s.scrubStat]
      ++ (List.range 4).map (fun k => s.regN (A.flcCtr k))).map (leBytes 4)).flatten, s)

/-- NV_STATUS (R423). -/
def execNvStatus (o : Origin) (p : List Byte) (s : State) : Out :=
  .next (hostCommand 0x54 (· == 0) (notInLastgasp handleNvStatus) o p s)

/-- The user area's offset. -/
def userOff : Nat := 0x01F00000

/-- USER_WRITE's handler. -/
def handleUserWrite : Handler := fun _ p s =>
  let off := leAt p 0 4
  let data := p.drop 4
  if off % 256 != 0 || 0x100000 < off + data.length then (.now .reservedValue [], s)
  else
    let (st, s) := s.flProgram (userOff + off) data
    (.now st [], s)

/-- USER_WRITE (R423). -/
def execUserWrite (o : Origin) (p : List Byte) (s : State) : Out :=
  .next (hostCommand 0x55 (fun n => 260 ≤ n && n ≤ 3844 && (n - 4) % 256 == 0) handleUserWrite o p s)

/-- USER_READ's handler. -/
def handleUserRead : Handler := fun _ p s =>
  let off := leAt p 0 4
  let n := leAt p 4 2
  if leAt p 6 2 != 0 || n = 0 || 1008 < n || 0x100000 < off + n then (.now .reservedValue [], s)
  else if s.mode = 5 then (.now .notPermitted [], s)
  else (.now .ok (s.flashBytes (userOff + off) n), s.touchPlane 1)

/-- USER_READ (R423). -/
def execUserRead (o : Origin) (p : List Byte) (s : State) : Out := .next (hostCommand 0x56 (· == 8) handleUserRead o p s)

/-- USER_ERASE's handler. -/
def handleUserErase : Handler := fun o p s =>
  let off := leAt p 0 4
  let n := leAt p 4 2
  if leAt p 6 2 != 0 || off % 4096 != 0 || n = 0 || 256 < n || 0x100000 < off + 4096 * n then (.now .reservedValue [], s)
  else
    let (st, s) := s.flErase (userOff + off) n (some (o, 0x57))
    if st = .pending then (.later, s) else (.now st [], s)

/-- USER_ERASE (R423). -/
def execUserErase (o : Origin) (p : List Byte) (s : State) : Out := .next (hostCommand 0x57 (· == 8) handleUserErase o p s)

end Sys2Proof.Machine
end

