-- ==== Sys2Proof/Machine/Keys.lean ====
section
/-!
DEFINITION. Key roots, derived keys, the key store and the key slots (R439-R445, R467, R468).
-/

namespace Sys2Proof.Machine

/-! ## Key roots (R439, R440) -/

/-- The bytes of a root of `n` words from a word (R439). -/
def State.rootBytes (s : State) (w n : Nat) : List Byte := ((List.range n).map (fun k => leBytes 8 (s.otpWord (w + k)))).flatten

/-- A root is programmed: not all its words are zero. -/
def State.rootSet (s : State) (w n : Nat) : Bool := (List.range n).any (fun k => s.otpWord (w + k) != 0)

/-- The first word of a signing key: a Board key (kind 1) or a firmware key (kind 2). -/
def signWord (kind k : Nat) : Nat := if kind = 1 then 0x100 + 8 * k else 0x120 + 8 * k

/-- The revocation bit of a signing key in word 0x084 (R440). -/
def revokeBit (kind k : Nat) : Nat := if kind = 1 then 8 + k else 12 + k

/-- A signature is good: its key is programmed and not revoked, and the signature verifies (R66, R427, R440). -/
def State.signatureOk (s : State) (kind k : Nat) (msg sig : List Byte) : Bool :=
  k < 4 && s.rootSet (signWord kind k) 8 && !bitAt (s.otpWord 0x84) (revokeBit kind k)
  && Config.ecdsaVerify (s.rootBytes (signWord kind k) 8) msg sig

/-- The maintenance key is programmed. -/
def State.maintSet (s : State) : Bool := s.rootSet 0x140 4

/-- Write the bytes of a root into the OTP (R439). -/
def State.writeRoot (s : State) (w : Nat) (b : List Byte) : State :=
  (List.range (b.length / 8)).foldl (fun s k => s.orOtp (w + k) (leAt b (8 * k) 8)) s

/-! ## Derived keys (R441) -/

/-- The EUI-64 as the OTP gives it. -/
def State.otpEui (s : State) : List Byte := leBytes 8 (s.otpWord 0)

/-- The key-encryption key. -/
def State.kek (s : State) : List Byte := hmac256 s.rootSecret (asciiBytes "SX8800 KEK")

/-- The identity private key. -/
def State.idPriv (s : State) : List Byte := hmac256 s.rootSecret (asciiBytes "SX8800 ID" ++ s.otpEui)

/-- X25519 (algorithm 12 of R447). -/
def x25519 (key peer : List Byte) : List Byte := fixLen 32 (Config.crypto 12 key peer [])

/-- The identity public key, as IDPUB0-IDPUB7 read it: the private key times the base point 9. -/
def State.idPub (s : State) : List Byte := x25519 s.idPriv (9 :: List.replicate 31 0)

/-! ## The tamper floor (R439, R460) -/

/-- The floor class of a tamper source: the 1 bits of its thermometer. -/
def State.tmpFloorOf (s : State) (src : Nat) : Nat := popCount 3 (bitsOf (s.otpWord 0x144) (3 * src) 3)

/-- `TMP.FLOOR`. -/
def State.tmpFloor (s : State) : Nat := (List.range 11).foldl (fun n i => n + s.tmpFloorOf i * 4 ^ i) 0

/-! ## Slots (R443-R445) -/

/-- A slot holds a key. -/
def State.slotValid (s : State) (k : Nat) : Bool := s.bit A.keyValid k

/-- The key of a slot. -/
def State.slotKey (s : State) (k : Nat) : List Byte := (Sparse.find? s.sec.keys k).getD []

/-- The seal. -/
def State.sealed (s : State) : Bool := s.flag F.keySealSealed

/-- Put a key into a slot: its attributes, its TXFC at 0 (R445, R467). -/
def State.setKey (s : State) (k usage type len : Nat) (key : List Byte) (persist : Bool) : State :=
  let s := (s.setBit A.keyValid k).setRegN (A.keyAttr k) (2 ^ 31 + 2 ^ 30 * b2n persist + 2 ^ 8 * usage + 2 ^ 6 * type + len)
  let s := if k < 16 then s.setRegN (A.keyTxfc k) 0 else s
  { s with sec := { s.sec with keys := Sparse.insert s.sec.keys k (key.take len) } }

/-- Zero and invalidate a slot. -/
def State.dropKey (s : State) (k : Nat) : State :=
  let s := (s.clearBit A.keyValid k).setRegN (A.keyAttr k) 0
  let s := if k < 16 then s.setRegN (A.keyTxfc k) 0 else s
  { s with sec := { s.sec with keys := Sparse.erase s.sec.keys k } }

/-- An operation uses a slot, as its key or for its result. -/
def CryOp.names (o : CryOp) (k : Nat) : Bool :=
  (!([5, 6, 10, 14, 15, 16].contains o.alg) && o.slot == k) || ([11, 12, 15, 16, 17].contains o.alg && o.dslot == k)

/-- An operation names some slot. -/
def CryOp.namesAny (o : CryOp) : Bool := !([5, 6, 10, 14].contains o.alg)

/-- End running operations that a test picks: each zeroes what it wrote before it completes (R452). -/
def State.endOps (s : State) (pick : CryOp → Bool) (st : Status) : State :=
  { s with sec := { s.sec with
    ops := s.sec.ops.map (fun p => if pick p.2 && p.2.ended.isNone then (p.1, { p.2 with ended := some st }) else p) } }

/-- The order n of P-256 (FIPS 186-5, named and not given in this manual). -/
def p256Order : Nat := 0xFFFFFFFF00000000FFFFFFFFFFFFFFFFBCE6FAADA7179E84F3B9CAC2FC632551

/-- Attributes of a key are no reserved encoding (R445, R447). -/
def keyAttrOk (usage type len : Nat) : Bool :=
  let allowed := if type = 0 then 0x33 else 0x2C
  type ≤ 2 && (if type = 0 then len == 16 || len == 32 else len == 32) && usage &&& allowed == usage

/-- A key's bytes fit its type. -/
def keyBytesOk (type : Nat) (key : List Byte) : Bool :=
  type != 1 || (1 ≤ leNat key.reverse && leNat key.reverse < p256Order)

/-- The bytes staged in LOADDATA0-LOADDATA7. -/
def State.loadBytes (s : State) : List Byte :=
  ((List.range 8).map (fun i => leBytes 4 (Sparse.get (fun _ => (0 : Word)) s.sec.loadData i).toNat)).flatten

/-- The result of a load (R445). Code in the boot ROM alone loads slots 16-31. -/
def State.loadCode (s : State) (rom : Bool) (n : Nat) : Status :=
  let slot := bitsOf n 16 5
  if !keyAttrOk (bitsOf n 8 6) (bitsOf n 6 2) (bitsOf n 0 6) || !keyBytesOk (bitsOf n 6 2) s.loadBytes then .reservedValue
  else if (16 ≤ slot && !rom) then .notPermitted
  else if s.sealed then .locked
  else if s.slotValid slot then .busy
  else .ok

/-- A write to LOADCTL (R445): its fields stand for DSTSLOT results as well; a GO loads the staged bytes. -/
def State.writeLoadctl (s : State) (rom : Bool) (w : Word) : State :=
  let n := w.toNat
  let s := { s with sec := { s.sec with loadCtl := n % 2 ^ 31 } }
  if bitAt n 31 then
    let st := s.loadCode rom n
    let key := s.loadBytes
    let s := if st = .ok then s.setKey (bitsOf n 16 5) (bitsOf n 8 6) (bitsOf n 6 2) (bitsOf n 0 6) key false
      else s.raise F.keyIntstatLoadfail
    let s := s.setFld F.keyLoadstatResult st.code
    { s with sec := { s.sec with loadData := [] } }
  else s

/-- KEY_LOAD (R445). -/
def execKeyLoad (user rom : Bool) (w : Word) (s : State) : Out :=
  guarded user s (if s.comUp then s.writeLoadctl rom w else s)

/-- A write to LOADDATA (R445, R467). -/
def State.writeLoaddata (s : State) (i : Nat) (w : Word) : State :=
  { s with sec := { s.sec with loadData := Sparse.put (fun _ => (0 : Word)) s.sec.loadData i w } }

/-- A write to CLEAR (R445): a context running on a cleared slot completes with CANCELLED. -/
def State.writeKeyClear (s : State) (w : Word) : State :=
  (List.range 32).foldl
    (fun s k => if bitAt w.toNat k then (s.dropKey k).endOps (fun o => o.names k) .cancelled else s) s

/-- KEY_CLEAR (R445). -/
def execKeyClear (user : Bool) (w : Word) (s : State) : Out := guarded user s (if s.comUp then s.writeKeyClear w else s)

/-- A write to TUNKEY clears TUNRXFC (R467). -/
def State.writeTunkey (s : State) (w : Word) : State := (s.writeReg A.keyTunkey w).setRegN A.keyTunrxfc 0

/-- TUNKEY_WRITE (R467). -/
def execTunkeyWrite (user : Bool) (w : Word) (s : State) : Out := guarded user s (if s.comUp then s.writeTunkey w else s)

/-! ## The key store (R442, R461) -/

/-- The flash offset of a store entry. -/
def storeOff (n : Nat) : Nat := 0x3000 + 256 * n

/-- AES key wrap (algorithm 18): the 40-byte form of 32 bytes. -/
def keyWrap (kek key : List Byte) : List Byte := fixLen 40 (Config.crypto 18 kek [] key)

/-- Load one store entry into slot 16 + n; one that fails a check is skipped (R442). -/
def State.loadEntry (s : State) (n : Nat) : State :=
  let b := s.flashBytes (storeOff n) 48
  if s.erasedRange (storeOff n) 256 then s
  else if leAt b 44 4 != crc32c (b.take 44) || !Config.cryptoOk 18 s.kek [] ((b.drop 4).take 40) then s.raise F.keyIntstatStorebad
  else
    let a := leAt b 0 4
    s.setKey (16 + n) (bitsOf a 8 6) (bitsOf a 6 2) (bitsOf a 0 6) (fixLen 32 (Config.crypto (256 + 18) s.kek [] ((b.drop 4).take 40))) true

/-- Erase the key store sector. -/
def State.eraseStore (s : State) : State := (s.eraseCounted 3 1).lower F.tmpStatStorepend

/-- The unseal of start-up step 2: a pending erase of the store runs first (R442, R444, R461). -/
def State.unsealKeys (s : State) : State :=
  let s := if s.flag F.tmpStatStorepend then s.eraseStore else s
  (List.range 16).foldl (fun s n => s.loadEntry n) (s.lower F.keySealSealed)

/-- KEY_STORE_ERASE (R461): PD_FL and PD_COM are on; SEAL ends with the erase where an alarm after start-up set it. -/
def execKeyStoreErase (s : State) : Out :=
  .next (
    if s.flag F.tmpStatStorepend && s.comUp && s.domainOn .fl then
      let s := s.eraseStore
      if s.pw.boot == .run || s.pw.boot == .service then s.lower F.keySealSealed else s
    else s)

/-! ## Provisioning (R468) -/

/-- Provisioning is permitted: in KEEPER or ROM service. -/
def State.mayProvision (s : State) : Bool := s.mode == 4 || s.pw.boot == .service

/-- The length of KEY_PROVISION's payload by KIND. -/
def provisionLen (kind : Nat) : Option Nat :=
  match kind with
  | 1 => some 68
  | 2 => some 68
  | 3 => some 36
  | 4 => some 12
  | 5 => some 88
  | _ => none

/-- KEY_PROVISION of a root (kinds 1-3): LOCKED where the root is programmed. -/
def State.provisionRoot (s : State) (w n : Nat) (b : List Byte) : Status × State :=
  if s.rootSet w n then (.locked, s) else (.ok, s.writeRoot w b)

/-- KEY_PROVISION of tamper floor bits (kind 4). -/
def State.provisionFloor (s : State) (v : Nat) : Status × State :=
  let t := s.orOtp 0x144 v
  if (List.range 11).any (fun i => t.tmpFloorOf i == 3) && !s.maintSet then (.notPermitted, s)
  else (.ok, t)

/-- The key that a provisioning host shares with the device. -/
def State.provisionKey (s : State) (eph : List Byte) : List Byte :=
  hmac256 (x25519 s.idPriv eph) (asciiBytes "SX8800 provision" ++ s.otpEui)

/-- KEY_PROVISION of a store entry (kind 5): ATTR, ephemeral key, ciphertext, tag. -/
def State.provisionEntry (s : State) (n : Nat) (b : List Byte) : Status × State :=
  let key := s.provisionKey ((b.drop 4).take 32)
  let iv := List.replicate 12 0
  let ct := (b.drop 36).take 32
  if !s.erasedRange (storeOff n) 256 then (.locked, s)
  else if !Config.cryptoOk 2 key (iv ++ b.drop 68) ct then (.authFail, s)
  else
    let plain := fixLen 32 (Config.crypto (256 + 2) key iv ct)
    let body := b.take 4 ++ keyWrap s.kek plain
    (.ok, s.program (storeOff n) (body ++ leBytes 4 (crc32c body) ++ List.replicate 208 0xFF))

/-- KEY_PROVISION's handler (R468). -/
def handleKeyProvision : Handler := fun _ p s =>
  let kind := byteAt p 0
  let idx := byteAt p 1
  let b := p.drop 4
  let a := leAt b 0 4
  let bad :=
    leAt p 2 2 != 0 || (provisionLen kind).isNone || (kind ≤ 2 && 3 < idx) || (kind = 5 && 15 < idx)
    || (kind = 4 && leAt b 0 8 / 2 ^ 33 != 0)
    || (kind = 5 && (a / 2 ^ 14 != 0 || !keyAttrOk (bitsOf a 8 6) (bitsOf a 6 2) (bitsOf a 0 6)))
  if bad then (.now .reservedValue [], s)
  else if !s.mayProvision then (.now .notPermitted [], s)
  else
    let (st, s) :=
      match kind with
      | 1 => s.provisionRoot (signWord 1 idx) 8 b
      | 2 => s.provisionRoot (signWord 2 idx) 8 b
      | 3 => s.provisionRoot 0x140 4 b
      | 4 => s.provisionFloor (leAt b 0 8)
      | _ => s.provisionEntry idx b
    (.now st [], s)

/-- KEY_PROVISION (R468): its layout follows KIND. -/
def execKeyProvision (o : Origin) (p : List Byte) (s : State) : Out :=
  .next (hostCommand 0x91 (fun n => 4 ≤ n && (match provisionLen (byteAt p 0) with | some k => n == k | none => true))
    handleKeyProvision o p s)

/-- KEY_REVOKE's handler (R468). -/
def handleKeyRevoke : Handler := fun _ p s =>
  let kind := byteAt p 0
  let idx := byteAt p 1
  let signer := (kind == 2 && s.fw.slot.isSome && s.fw.keyId == idx) || (kind == 1 && s.brd.keyId == some idx)
  if leAt p 2 2 != 0 || !(kind == 1 || kind == 2) || 3 < idx then (.now .reservedValue [], s)
  else if !s.mayProvision || signer then (.now .notPermitted [], s)
  else if bitAt (s.otpWord 0x84) (revokeBit kind idx) then (.now .ok [], s)
  else (.now .ok [], s.orOtp 0x84 (2 ^ revokeBit kind idx))

/-- KEY_REVOKE (R468). -/
def execKeyRevoke (o : Origin) (p : List Byte) (s : State) : Out := .next (hostCommand 0x92 (· == 4) handleKeyRevoke o p s)

end Sys2Proof.Machine
end

