-- ==== Sys2Proof/Machine/Luminaire.lean ====
section
/-!
DEFINITION. Luminaire I/O and pads (R110-R112, R554-R570): the pad latch, DALI-2, dimming, metering, serial peripherals.
-/

namespace Sys2Proof.Machine

/-! ## Pads (R111, R112, R554-R558) -/

/-- A pad's PADCFG setting (R555). -/
def State.padCfg (s : State) (n : Nat) : Nat := s.cfg 7 20 0 n

/-- The input level of a pad after its deglitch filter, as its event producer carries it (R520, R554); 0 without VDDIO
(R587). -/
def State.padIn (s : State) (n : Nat) : Bool := s.pw.vddio && s.evf.high.contains (1 + n)

/-- A word of `PAD.DIN` (R558). -/
def State.padDin (s : State) (j : Nat) : Nat :=
  (List.range 32).foldl (fun w i => w + 2 ^ i * b2n (s.padIn (32 * j + i))) 0

/-- A coexistence output of a chain: inactive with EN at 0, else the signal with its polarity (R174). -/
def State.cxOut (s : State) (c : Chain) (bit : Nat) (active : Bool) : Bool :=
  (s.flag (F.rfsCoexEn c) && active) != bitAt (s.fld (F.rfsCoexPol c)) bit

/-- The level and enable that a pad's function drives at the quiesce of a DORMANT entry (R162, R174, R556, R560, R564);
none where the manual gives the idle level of an output no value. A pad that a swap window holds keeps its level
(R81, R86). -/
def State.padDrive (s : State) (n : Nat) : Option Bool × Bool :=
  match s.brd.padHold.find? (fun h => h.pad == n) with
  | some h => (some h.level, h.oe)
  | none =>
  let f := bitsOf (s.padCfg n) 24 8
  let chain : Chain := if f ≤ 2 || (5 ≤ f && f ≤ 8) then .s else .t
  if f = 0 then (some (s.bit (A.padDout (n / 32)) (n % 32)), s.bit (A.padDoe (n / 32)) (n % 32))
  else if f = 1 || f = 3 then (some (s.chain chain).femTx, true)
  else if f = 2 || f = 4 then (some (s.chain chain).femRx, true)
  else if f = 5 || f = 9 then (some (s.cxOut chain 0 (s.chain chain).cxReq), true)
  else if f = 7 || f = 11 then (some (s.cxOut chain 2 (s.chain chain).cxPri), true)
  else if f = 8 || f = 12 then (some (s.cxOut chain 3 (s.chain chain).pa), true)
  else if f = 0x10 || f = 0x12 then (some (s.flag (F.daliCtlTxinv ((f - 0x10) / 2))), true)
  else if 0x14 ≤ f && f ≤ 0x17 then (some (s.flag (F.dmoCfgEn (f - 0x14)) && s.flag (F.dmoCfgSleeplvl (f - 0x14))), true)
  else if 0x28 ≤ f && f < 0x38 && f % 4 != 2 then (none, true)
  else if 0x38 ≤ f && f < 0x48 && f % 2 = 0 then (none, true)
  else (some false, false)

/-- Latch one pad (R111). -/
def State.latchPad (s : State) (n : Nat) : State :=
  let (lv, oe) := s.padDrive n
  let (b, s) := match lv with | some b => (b, s) | none => let (v, s) := s.draw 2; (v == 1, s)
  let c := s.padCfg n
  { s with pw := { s.pw with
      held := s.pw.held ++ [{ pad := n, level := b, oe := oe, pull := bitsOf c 16 2, slew := bitsOf c 20 2 }] } }

/-- HELD shows the pads under the latch (R558). -/
def State.showHeld (s : State) : State :=
  let all := 2 ^ 32 - 1
  (List.range 3).foldl (fun s j => s.setRegN (A.padHeld j) (if s.pw.held.isEmpty then 0 else all)) s

/-- The pad latch closes on every pad that is not under it already (R53, R54, R111). -/
def State.latchPads (s : State) : State :=
  ((List.range 96).foldl (fun s n => if s.padHeld n then s else s.latchPad n) s).showHeld

/-- The latch opens: each pad follows its function and registers, and the inputs of the pads reach their consumers
again (R111, R112). -/
def State.openLatch (s : State) : State :=
  if s.pw.held.isEmpty then s
  else
    let s := { s with pw := { s.pw with held := [] } }.showHeld
    let s := s.evRefresh.padsFollow 0 96
    (List.range 96).foldl
      (fun s n => if (s.irq (768 + n)).level == s.padIn n then s
        else s.irqSample (768 + n) (s.padIn n) (b2n (s.padIn n))) s

/-- A write to `PAD.HOLD` (R112). -/
def State.writeHold (s : State) (w : Word) : State :=
  if s.comUp && bitAt w.toNat 0 then s.openLatch else s

/-- A write to DOUT or DOE: a pad that is not held takes the value at once, and its input follows (R558). -/
def State.writePads (s : State) (a j : Nat) (w : Word) : State := (s.writeReg a w).padsFollow (32 * j) 32

/-- PAD_HOLD_RELEASE (R112). -/
def execPadHoldRelease (user : Bool) (w : Word) (s : State) : Out := guarded user s (s.writeHold w)

/-! ## DALI-2 (R560-R563) -/

/-- Milliseconds tenths to CK_REF ticks. -/
def msTenths (n : Nat) : Nat := n * 4000

/-- An interface's state. -/
def State.dali (s : State) (i : Nat) : DaliIf := (Sparse.find? s.lum.dali i).getD {}

/-- STAT follows the interface: RXAVAIL, TXBUSY and IDLE (R563). -/
def State.daliShow (s : State) (i : Nat) : State :=
  let x := s.dali i
  let sending := match x.tx with | some t => t.sending | none => false
  let s := (s.setFld (F.daliStatRxavail i) (b2n (!x.rx.isEmpty))).setFld (F.daliStatTxbusy i) (b2n x.tx.isSome)
  s.setFld (F.daliStatIdle i) (b2n (s.flag (F.daliCtlEn i) && !sending && !s.flag (F.daliStatBusfail i)))

/-- Set an interface's state. -/
def State.setDali (s : State) (i : Nat) (x : DaliIf) : State :=
  { s with lum := { s.lum with dali := Sparse.insert s.lum.dali i x } }.daliShow i

/-- The interface works: its block is powered, and EN is set. -/
def State.daliOn (s : State) (i : Nat) : Bool := i < 2 && s.comUp && s.flag (F.daliCtlEn i)

/-- The settling window of a priority, in tenths of a millisecond (R561). -/
def settleWindow (prio : Nat) : Nat × Nat :=
  match prio with
  | 1 => (135, 147)
  | 2 => (149, 161)
  | 3 => (163, 177)
  | 4 => (179, 193)
  | _ => (195, 211)

/-- SIZE and PRIO of TXCMD are no reserved encodings (R563). -/
def txcmdOk (n : Nat) : Bool :=
  let prio := bitsOf n 8 3
  let size := bitsOf n 0 6
  if prio = 0 then size == 8 else prio ≤ 5 && (size == 16 || size == 24 || size == 32)

/-- A write to TXCMD (R561): a GO while TXBUSY is 1 is ignored. The settling time is drawn from the roll pool. -/
def State.writeTxcmd (s : State) (i : Nat) (w : Word) : State :=
  let n := w.toNat
  if s.daliOn i && bitAt n 31 && txcmdOk n && (s.dali i).tx.isNone then
    let prio := bitsOf n 8 3
    let size := bitsOf n 0 6
    let t : DaliTx := { data := bitsOf (s.regN (A.daliTxdata i)) 0 size, size := size, prio := prio, ans := bitAt n 11 }
    if prio = 0 then s.setDali i { s.dali i with tx := some t }
    else
      let (r, s) := s.roll
      let (lo, hi) := settleWindow prio
      s.setDali i { s.dali i with tx := some { t with wait := msTenths lo + r * msTenths (hi - lo) / 65536 } }
  else s

/-- DALI_SEND (R561). -/
def execDaliSend (i : Nat) (user : Bool) (w : Word) (s : State) : Out := guarded user s (s.writeTxcmd i w)

/-- A transmission ends (R561, R563). -/
def State.daliEnd (s : State) (i : Nat) (st : Status) : State :=
  let s := s.setDali i { s.dali i with tx := none }
  let s := (s.setFld (F.daliStatResult i) st.code).raise (F.daliIntstatTxdone i)
  if st = .collision then s.raise (F.daliIntstatCollision i) else s

/-- Push a record; a frame that finds the FIFO full is dropped (R562). -/
def State.daliPush (s : State) (i : Nat) (r : DaliRec) : State :=
  let x := s.dali i
  if 8 ≤ x.rx.length then s.raise (F.daliIntstatRxovf i)
  else ((s.setDali i { x with rx := x.rx ++ [r] }).raise (F.daliIntstatRx i)).evPulse (0x160 + i)

/-- DALI_FRAME_START (R561): the bus has been idle for the settling time of the frame that waits. A backward frame starts
between 5.5 ms and 10.5 ms after the last received forward frame, or completes with MISSED. -/
def execDaliFrameStart (i : Nat) (s : State) : Out :=
  .next (
    match (s.dali i).tx with
    | none => s
    | some t =>
      if !s.daliOn i || t.sending || s.flag (F.daliStatBusfail i) then s
      else
        let go := s.setDali i { s.dali i with tx := some { t with sending := true }, window := none }
        if t.prio != 0 then go
        else
          match (s.dali i).forward with
          | none => s.daliEnd i .missed
          | some e =>
            if s.tb.now < e + msTenths 55 then s
            else if e + msTenths 105 ≤ s.tb.now then s.daliEnd i .missed
            else go)

/-- The end of a forward frame on the bus, for the frames that answer it (R561). -/
def State.daliForward (s : State) (i : Nat) (r : DaliRec) : State :=
  if !r.err && 8 < r.bits then s.setDali i { s.dali i with forward := some s.tb.now } else s

/-- DALI_TX_DONE (R561, R562): the frame has gone out whole; the interface receives it as well. -/
def execDaliTxDone (i : Nat) (s : State) : Out :=
  .next (
    match (s.dali i).tx with
    | none => s
    | some t =>
      if s.daliOn i && t.sending then
        let r : DaliRec := { data := t.data, bits := t.size, err := false }
        let s := ((s.daliEnd i .ok).daliForward i r).daliPush i r
        if t.prio != 0 && t.ans then s.setDali i { s.dali i with window := some s.tb.now } else s
      else s)

/-- DALI_COLLISION (R561): a half-bit received differs from the one sent. -/
def execDaliCollision (i : Nat) (s : State) : Out :=
  .next (
    match (s.dali i).tx with
    | none => s
    | some t => if s.daliOn i && t.sending then s.daliEnd i .collision else s)

/-- DALI_RX_FRAME (R562): a frame of another sender has ended. -/
def execDaliRxFrame (i data bits : Nat) (err : Bool) (s : State) : Out :=
  .next (
    if s.daliOn i then
      let r : DaliRec := { data := bitsOf data 0 32, bits := bits % 64, err := err }
      ((s.setDali i { s.dali i with window := none }).daliForward i r).daliPush i r
    else s)

/-- DALI_BACKWARD_TIMEOUT (R562): no frame has started by 10.5 ms after a forward frame sent with ANS. -/
def execDaliBackwardTimeout (i : Nat) (s : State) : Out :=
  .next (
    match (s.dali i).window with
    | none => s
    | some e =>
      if s.daliOn i && e + msTenths 105 ≤ s.tb.now then
        (s.setDali i { s.dali i with window := none }).daliPush i { data := 0, bits := 0, err := false }
      else s)

/-- DALI_BUSFAIL (R562): the bus has been held active for more than 550 ms; or, with the operand false, it has been idle
again for 2.4 ms. -/
def execDaliBusfail (i : Nat) (held : Bool) (s : State) : Out :=
  .next (
    if !s.daliOn i then s
    else if held then
      let s := (s.raise (F.daliStatBusfail i)).raise (F.daliIntstatBusfail i)
      if (s.dali i).tx.isSome then s.daliEnd i .busy else s.daliShow i
    else (s.lower (F.daliStatBusfail i)).daliShow i)

/-- A read of RXINFO pops a record into RXDATA (R563). -/
def State.readRxinfo (s : State) (i : Nat) : Word × State :=
  let x := s.dali i
  match x.rx with
  | [] => (0, s)
  | r :: rest =>
    let s := (s.setDali i { x with rx := rest }).setRegN (A.daliRxdata i) r.data
    (Word.ofN (2 ^ 15 + 2 ^ 14 * b2n r.err + r.bits), s)

/-- RXINFO_READ (R563). -/
def execRxinfoRead (i : Nat) (s : State) : Out :=
  .next (
    if i < 2 && s.comUp then
      let (w, s) := s.readRxinfo i
      s.answerRead w
    else s.readError)

/-- A write to CTL (R563): with EN 0 the interface does not work, and TX is inactive; what it was sending is lost. -/
def State.writeDaliCtl (s : State) (i : Nat) (w : Word) : State :=
  let s := s.writeReg (A.daliCtl i) w
  if s.flag (F.daliCtlEn i) then s.daliShow i
  else s.setDali i { s.dali i with tx := none, window := none }

/-! ## Dimming (R564, R565) -/

/-- LEVEL of an output. -/
def State.dmoLevelNow (s : State) (n : Nat) : Nat := s.fld (F.dmoLevelLevel n)

/-- Set LEVEL; FADING while it differs from TARGET (R565). -/
def State.setDmo (s : State) (n v : Nat) : State :=
  (s.setFld (F.dmoLevelLevel n) v).setFld (F.dmoLevelFading n) (b2n (v != s.fld (F.dmoTargetTarget n)))

/-- After a write to TARGET or FADE: FADE 0 jumps to TARGET at once (R565). -/
def State.dmoWritten (s : State) (n : Nat) : State :=
  s.setDmo n (if s.fld (F.dmoFadeFade n) = 0 then s.fld (F.dmoTargetTarget n) else s.dmoLevelNow n)

/-- A value moved toward a target by at most a step. -/
def moveToward (v target step : Nat) : Nat := if v ≤ target then min target (v + step) else max target (v - step)

/-- DMO_FADE (R564): a millisecond of a fade. -/
def execDmoFade (n : Nat) (s : State) : Out :=
  .next (
    if n < 4 && s.comUp && s.fld (F.dmoFadeFade n) != 0 then
      s.setDmo n (moveToward (s.dmoLevelNow n) (s.fld (F.dmoTargetTarget n)) (s.fld (F.dmoFadeFade n)))
    else s)

/-- DMO_PERIOD (R564, R570): a period begins, and the PWM drives the new LEVEL. -/
def execDmoPeriod (n : Nat) (s : State) : Out :=
  .next (
    if n < 4 && s.comUp && s.flag (F.dmoCfgEn n) && s.flag (F.dmoCfgMode n) then
      { s with lum := { s.lum with pwm := Sparse.insert s.lum.pwm n (s.dmoLevelNow n) } }.evPulse (0x162 + n)
    else s)

/-! ## Metering (R566, R567) -/

/-- Metering runs: PD_MET is on and EN is set (R566). -/
def State.metRuns (s : State) : Bool := s.comUp && s.domainOn .met && s.flag F.metCfgEn

/-- `MET.STAT`: RUN follows. -/
def State.metStat (s : State) : Nat := (s.setFld F.metStatRun (b2n s.metRuns)).regN A.metStat

/-- MET_ZERO_CROSSING (R566, R570): a mains cycle is counted, and NOZC ends. -/
def execMetZeroCrossing (s : State) : Out :=
  .next (
    if s.metRuns then
      ({ s with lum := { s.lum with cycles := s.lum.cycles + 1 } }.lower F.metStatNozc).evPulse 0x166
    else s)

/-- MET_PERIOD (R566, R567, R570): ACC cycles have ended. The operands are what the front end has measured: RMS values,
powers, the mean mains period, the sums of the sample products of the period for E1 and E2, and whether a sample
reached full scale. -/
def execMetPeriod (v i1 i2 p1 p2 period de1 de2 : Nat) (clip : Bool) (s : State) : Out :=
  .next (
    if s.metRuns && (s.flag F.metStatNozc || s.fld F.metCfgAcc ≤ s.lum.cycles) then
      let s := ((s.setRegN A.metVrms v).setRegN A.metI1rms i1).setRegN A.metI2rms i2
      let s := ((s.setRegN A.metP1 p1).setRegN A.metP2 p2).setRegN A.metPeriod period
      let s := { s with lum := { s.lum with
        cycles := 0, e1 := (s.lum.e1 + de1) % 2 ^ 64, e2 := (s.lum.e2 + de2) % 2 ^ 64 } }
      let s := if clip then s.raise F.metIntstatClip else s
      (s.raise F.metIntstatAccdone).evPulse 0x167
    else s)

/-- MET_NOZC (R566). -/
def execMetNozc (s : State) : Out :=
  .next (if s.metRuns && !s.flag F.metStatNozc then (s.raise F.metStatNozc).raise F.metIntstatNozc else s)

/-- A write to `MET.CFG` (R567): ECLR clears both energies. -/
def State.writeMetCfg (s : State) (w : Word) : State :=
  let s := s.writeReg A.metCfg w
  if bitAt w.toNat 0 then { s with lum := { s.lum with e1 := 0, e2 := 0 } } else s

/-- ECLR (R567). -/
def execEclr (user : Bool) (w : Word) (s : State) : Out := guarded user s (if s.comUp then s.writeMetCfg w else s)

/-- A read of E1LO or E2LO latches the high half (R567). -/
def State.readEnergy (s : State) (k : Nat) : Word × State :=
  let e := if k = 0 then s.lum.e1 else s.lum.e2
  (Word.ofN e, s.setRegN (if k = 0 then A.metE1hi else A.metE2hi) (e / 2 ^ 32))

/-- ENERGY_READ (R567): of E1LO (0) or E2LO (1). -/
def execEnergyRead (k : Nat) (s : State) : Out :=
  .next (
    if k < 2 && s.comUp then
      let (w, s) := s.readEnergy k
      s.answerRead w
    else s.readError)

/-! ## Serial peripherals (R568, R569) -/

/-- An instance's state. -/
def State.ser (s : State) (k : Nat) : SerUnit := (Sparse.find? s.lum.ser k).getD {}

/-- The instance works: the block is powered, and EN is set. -/
def State.serOn (s : State) (k : Nat) : Bool := k < 12 && s.comUp && s.bit (A.serCfg k) 31

/-- Is an instance a UART. -/
def serUart (k : Nat) : Bool := 8 ≤ k

/-- A transfer runs: a UART sends while TXFIFO holds a byte. -/
def State.serBusy (s : State) (k : Nat) : Bool :=
  let x := s.ser k
  if serUart k then s.serOn k && !x.tx.isEmpty else x.job.isSome

/-- Set an instance's state: STAT follows, and the thresholds raise their flags as they are reached (R569). -/
def State.setSer (s : State) (k : Nat) (x : SerUnit) : State :=
  let old := s.ser k
  let s := { s with lum := { s.lum with ser := Sparse.insert s.lum.ser k x } }
  let s := (s.setFld (F.serStatRxlvl k) x.rx.length).setFld (F.serStatTxlvl k) x.tx.length
  let s := s.setFld (F.serStatBusy k) (b2n (s.serBusy k))
  let s := if old.rx.length < 16 && 16 ≤ x.rx.length then s.setBit (A.serIntstat k) 2 else s
  if 16 < old.tx.length && x.tx.length ≤ 16 then s.setBit (A.serIntstat k) 1 else s

/-- A write to CMD with GO (R569). A UART ignores it; so does an instance that is off or busy. -/
def State.serGo (s : State) (k n : Nat) : State :=
  if serUart k || !s.serOn k || (s.ser k).job.isSome || bitsOf n 0 16 = 0 then s
  else s.setSer k { s.ser k with job := some { len := bitsOf n 0 16, read := bitAt n 29, addr := bitsOf n 16 10 } }

/-- A transfer ends with a status and a detail (R568, R570). -/
def State.serEnd (s : State) (k : Nat) (x : SerUnit) (st : Status) (detail : Nat) : State :=
  let s := s.setSer k { x with job := none }
  let s := ((s.setFld (F.serStatResult k) st.code).setFld (F.serStatDetail k) detail).setBit (A.serIntstat k) 0
  let s := if st = .ok then s else s.setBit (A.serIntstat k) 3
  s.evPulse (0x168 + k)

/-- A write to CMD with ABORT (R569). -/
def State.serAbort (s : State) (k : Nat) : State :=
  if !s.serBusy k then s
  else s.serEnd k { s.ser k with tx := if serUart k then [] else (s.ser k).tx } .cancelled 0

/-- A write to CFG: STAT follows. -/
def State.writeSerCfg (s : State) (k : Nat) (w : Word) : State := (s.writeReg (A.serCfg k) w).setSer k (s.ser k)

/-- A write to CMD (R569): ABORT ends what runs, GO starts a transfer. -/
def State.writeSerCmd (s : State) (k : Nat) (w : Word) : State :=
  if k < 12 && s.comUp then
    let n := w.toNat
    let s := if bitAt n 30 then s.serAbort k else s
    if bitAt n 31 then s.serGo k n else s
  else s

/-- SER_GO (R569). -/
def execSerGo (k : Nat) (user : Bool) (w : Word) (s : State) : Out := guarded user s (s.writeSerCmd k w)
/-- SER_ABORT (R569). -/
def execSerAbort (k : Nat) (user : Bool) (w : Word) (s : State) : Out := guarded user s (s.writeSerCmd k w)

/-- How a transfer ends: OK, arbitration lost, address NACK, data NACK, SCL held low (R568). -/
def serResult (r : Nat) : Status × Nat :=
  match r with
  | 0 => (.ok, 0)
  | 1 => (.collision, 0)
  | 2 => (.busy, 1)
  | 3 => (.busy, 2)
  | _ => (.busy, 3)

/-- SER_DONE (R568): a transfer ends. The operands are its end, of 0-4 on I2C and 0 elsewhere, the bytes that TXFIFO has
given since its level was last seen, and the bytes received. A UART has sent all that TXFIFO held. -/
def execSerDone (k r sent : Nat) (rx : List Byte) (s : State) : Out :=
  .next (
    let x := s.ser k
    let target := k < 4 && s.bit (A.serCfg k) 30
    if s.serOn k && (s.serBusy k || target) then
      let (st, d) := serResult (if k < 4 then r else 0)
      let x := if serUart k then { x with tx := [] }
        else { x with tx := x.tx.drop sent, rx := (x.rx ++ rx).take 32 }
      s.serEnd k x st d
    else s)

/-- A write to TXFIFO (R569). A full FIFO takes a byte only while a transfer drains it. -/
def State.writeTxfifo (s : State) (k : Nat) (w : Word) : State :=
  if k < 12 && s.comUp then
    let x := s.ser k
    let b := Byte.ofN (w.toNat % 256)
    if x.tx.length < 32 then s.setSer k { x with tx := x.tx ++ [b] }
    else if s.serBusy k then s.setSer k { x with tx := x.tx.drop 1 ++ [b] }
    else s
  else s

/-- TXFIFO_PUSH (R569). -/
def execTxfifoPush (k : Nat) (user : Bool) (w : Word) (s : State) : Out := guarded user s (s.writeTxfifo k w)

/-- A read of RXFIFO (R569). -/
def State.readRxfifo (s : State) (k : Nat) : Word × State :=
  let x := s.ser k
  match x.rx with
  | [] => (0, s)
  | b :: rest => (Word.ofN b.toNat, s.setSer k { x with rx := rest })

/-- RXFIFO_POP (R569). -/
def execRxfifoPop (k : Nat) (s : State) : Out :=
  .next (
    if k < 12 && s.comUp then
      let (w, s) := s.readRxfifo k
      s.answerRead w
    else s.readError)

/-- SER_RX_BYTE (R568): a UART has received a byte, with a framing error (1), a parity error (2) or neither; a byte in
error, or one that finds RXFIFO full, is dropped. -/
def execSerRxByte (k b err : Nat) (s : State) : Out :=
  .next (
    if serUart k && s.serOn k then
      let x := s.ser k
      if err = 0 && x.rx.length < 32 then s.setSer k { x with rx := x.rx ++ [Byte.ofN (b % 256)] }
      else (s.setFld (F.serStatDetail k) (if err = 1 then 4 else if err = 0 then 6 else 5)).setBit (A.serIntstat k) 3
    else s)

end Sys2Proof.Machine
end

