-- ==== Sys2Proof/Machine/Modes.lean ====
section
/-!
DEFINITION. Operating modes (R35-R57, R606): requests, transitions, W-SLEEP, waking, LASTGASP, cluster demand.
-/

namespace Sys2Proof.Machine

/-! ## What a mode asks of the blocks -/

/-- The Board holds a capture plan for a band (R48): EN of its CAPPLAN is set. -/
def State.planEn (s : State) (b : Nat) : Bool := bitAt (s.capPlan b) 31

/-- The action queue holds a pending action, HELD ones aside while LGSAVE.EN is 1 (R48, R272). -/
def State.actionsBlockDormant (s : State) : Bool :=
  s.liveSlots.any (fun n =>
    let x := (s.slot n).state
    x != 0 && x != 5 && !(x == 6 && bitAt (s.regN A.pmuLgsave) 0))

/-- A bulk flash operation, BIST or a full Board reload is running (R48). -/
def State.bulkBusy (s : State) : Bool := s.flcHeld || s.brd.reload.isSome || s.fcr.bist.isSome

/-- A core of the clusters is running: it neither waits nor is held (R37). -/
def State.coresRunning (s : State) : Bool := (List.range 4).any (fun k => (s.core k).run == .running)

/-- A frame is in the air, or past its sync at a context (R37, R53). -/
def State.onAir (s : State) : Bool :=
  [Chain.s, Chain.t].any (fun c => (5 ≤ s.chState c && s.chState c ≤ 7) || s.pastSync c)
  || (List.range 80).any s.ctxBusy

/-- An action is due within a time: one that waits for nothing, or whose claim tick comes by then (R37). -/
def State.actionDueWithin (s : State) (ticks : Nat) : Bool :=
  s.liveSlots.any (fun n =>
    match (s.slot n).state with
    | 1 => (match s.claimTick n with | some t => t ≤ s.tb.now + ticks | none => s.slotAsap n)
    | 2 => true
    | 3 => true
    | 4 => true
    | _ => false)

/-- Fabric work of a cluster: a demodulator context, a decoder block or a channel slice in use (R606). -/
def State.fabricWork (s : State) (n : Nat) : Bool :=
  (List.range 20).any (fun k => s.ctxBusy (20 * n + k) || (s.ctx (20 * n + k)).state == 5)
  || (List.range 4).any (fun k => !(s.decTile (4 * n + k)).queue.isEmpty)

/-- The samples of both bands become invalid with XREF (R118, R194). -/
def State.xrefLostCapture (s : State) : State := (s.capLost .s).capLost .t

/-- The BOARD_SWAPPED payload (R101). -/
def State.swappedPayload (s : State) (persisted : Bool) : List Byte :=
  leBytes 2 (s.fld F.brdSwapstatResult) ++ [Byte.ofN (b2n persisted), Byte.ofN (s.fld F.brdSwapstatDefers)]
  ++ leBytes 4 (s.regN A.brdLayout) ++ leBytes 4 (s.regN A.brdGen) ++ leBytes 4 (s.regN A.brdWindow)
  ++ leBytes 4 (s.regN A.brdTmrrst0) ++ leBytes 4 (s.regN A.brdTmrrst1) ++ leBytes 4 (s.regN A.brdTmrrst2)

/-- A swap ends (R77, R79, R101): drained contexts and tiles return to service, and BOARD_SWAPPED is sent. -/
def State.endSwap (s : State) (st : Status) : State :=
  let s := (s.setFld F.brdSwapstatState 0).setFld F.brdSwapstatResult st.code
  let s := s.raise (if st = .ok then F.brdIntstatSwapdone else F.brdIntstatSwapfail)
  let s := { s with
    brd := { s.brd with swap := none, locked := [], padHold := [] }, dec := { s.dec with draining := [] } }
  s.undrainCtx.notice 0xC4 (s.swappedPayload false)

/-- A swap that runs in STAGING, ARMED or DRAINING. -/
def State.swapStoppable (s : State) : Bool :=
  s.brd.swap.isSome && 1 ≤ s.fld F.brdSwapstatState && s.fld F.brdSwapstatState ≤ 3

/-- A supply failure ends a swap in STAGING, ARMED or DRAINING with CANCELLED; an open window completes (R90). -/
def State.supplyStopsSwap (s : State) : State := if s.swapStoppable then s.endSwap .cancelled else s

/-- An action ends for a change of mode; what its chain held for it goes (R272). -/
def State.modeCancel (s : State) (n : Nat) : State :=
  let c := s.slotChain n
  let s := if (s.chain c).holder = some n then s.setChain c { s.chain c with tx := none, stamping := false } else s
  s.finishAction n .cancelled 11

/-- Actions that a test picks end with CANCELLED, reason MODE, but for a frame in the air. -/
def State.modeCancelAll (s : State) (pick : Nat → Bool) : State :=
  (s.liveSlots.filter (fun n => (s.slot n).state != 5 && pick n && !(s.begun n && s.chState (s.slotChain n) != 4))).foldl
    (fun s n => s.modeCancel n) s

/-- Phase 2 of LASTGASP: up to LGALARMS HELD actions are released as ASAP in slot order, and the rest end (R272). -/
def State.releaseAlarms (s : State) : State :=
  let held := s.liveSlots.filter (fun n => (s.slot n).state == 6)
  let k := s.fld F.pmuModecfgLgalarms
  let s := (held.drop k).foldl (fun s n => s.modeCancel n) s
  let go := held.take k
  let s := go.foldl (fun s n => s.setSlot n { s.slot n with state := 1, asap := true }) s
  let s := if go.any (fun n => s.slotChain n == .s) then s.switchOn .rfs else s
  if go.any (fun n => s.slotChain n == .t) then s.switchOn .rft else s

/-- The radio falls silent (R41, R76, R118): actions that hold a chain end with MISSED, reason RADIO, but for a frame in
the air or past its sync. -/
def State.missRadio (s : State) : State :=
  (s.liveSlots.filter (fun n =>
      let c := s.slotChain n
      ((s.slot n).state == 2 || (s.slot n).state == 3) && (s.chain c).holder == some n
      && !(s.begun n && s.chState c != 4) && !s.pastSync c)).foldl (fun s n => s.finishAction n .missed 8) s

/-- An alarm is still to be sent: an action has not completed, or a frame is in the air (R56). -/
def State.alarmsLeft (s : State) : Bool := s.onAir || s.liveSlots.any (fun n => (s.slot n).state != 5)

/-- Alarm frames not yet begun end with CANCELLED (R57, R272). -/
def State.cancelAlarms (s : State) : State := s.modeCancelAll (fun _ => true)

/-- The flush of BUFFERED records that a previous run has left in retained SRAM (R145): only flash and the mirrors
keep it. -/
def State.flushLeftovers (s : State) : State :=
  if s.flag F.jrnStatRecover || s.jrn.mirror0 != some [] || s.jrn.mirror1 != some [] then
    let t := s.finishRecovery
    { s with flash := t.flash, jrn := { s.jrn with mirror0 := some [], mirror1 := some [] } }
  else s

/-! ## Domains of a mode (R35, R38, R39, R606) -/

/-- The narrow paths may be in service in a mode: every mode but DORMANT and KEEPER profile 1 (R35, R41). -/
def narrowInService (mode profile : Nat) : Bool := 1 ≤ mode && mode ≤ 5 && !(mode == 4 && profile == 1)

/-- Is a domain on in a mode and profile (R35, R39), the Board and the narrow-path bindings taken in (R28, R38). -/
def State.modeWants (s : State) (mode profile : Nat) (d : Domain) : Bool :=
  let cluster (n : Nat) (byMode : Bool) : Bool :=
    (byMode && !s.clusterOff mode n) || (narrowInService mode profile && s.narrowNeeds n)
  match d with
  | .aon => true
  | .com => 1 ≤ mode && mode ≤ 5
  | .fl => 1 ≤ mode && mode ≤ 5
  | .xr => 1 ≤ mode && mode ≤ 5
  | .cl0 => 1 ≤ mode && mode ≤ 5
  | .cl1 => cluster 1 (mode == 3 || mode == 4 || (mode == 2 && profile != 0))
  | .cl2 => cluster 2 (mode == 3 || mode == 4 || (mode == 2 && profile != 0))
  | .cl3 => cluster 3 (mode == 3 || mode == 4 || (mode == 2 && profile != 0))
  | .rfs => mode == 2 || mode == 3 || mode == 4 || (mode == 1 && s.watchChain == .s)
  | .rft => mode == 2 || mode == 3 || mode == 4 || (mode == 1 && s.watchChain == .t)
  | .met => mode == 2 || mode == 3 || mode == 4

/-- Switch on what a mode wants. -/
def State.powerUpFor (s : State) (mode profile : Nat) : State :=
  switchable.foldl (fun s d => if s.modeWants mode profile d then s.switchOn d else s) s

/-- A chain's domain carries a frame in the air, which is never pre-empted (R53). -/
def State.carriesFrame (s : State) (d : Domain) : Bool :=
  let on (c : Chain) : Bool := (5 ≤ s.chState c && s.chState c ≤ 7) || s.pastSync c
  match d with
  | .rfs => on .s
  | .rft => on .t
  | _ => false

/-- Switch off what a mode does not want; a chain stays until its frame has ended. In LASTGASP the chains that carry
alarms stay with the alarms (R35). -/
def State.powerDownFor (s : State) (mode profile : Nat) : State :=
  switchable.foldl (fun s d => if s.modeWants mode profile d || s.carriesFrame d then s else s.switchOff d) s

/-! ## Requests (R48, R49) -/

/-- The profiles a mode accepts (R39). -/
def profileLegal (mode profile : Nat) : Bool :=
  match mode with
  | 0 => profile ≤ 3
  | 1 => profile ≤ 3
  | 2 => profile ≤ 2
  | 3 => profile ≤ 2
  | 4 => profile ≤ 1
  | 5 => profile ≤ 1
  | _ => false

/-- The rank of a source in R49, 0 the highest: supply failure, restored, activation, host, sentinel, cores, wake. -/
def sourceRank (source : Nat) : Nat := source - 1

/-- A transition's completion needs XREF: its target needs the radio ready or the wide paths running (R51). -/
def needsXref (mode profile : Nat) : Bool := mode == 2 || mode == 3 || (mode == 4 && profile == 0)

/-- The table of R48: the failure code, or OK for a request that needs no transition, or none when it starts one. A
restoration is requested by the mode controller itself in LASTGASP (R57). -/
def State.checkMode (s : State) (r : ModeReq) : Option Status :=
  if !profileLegal r.mode r.profile || (r.mode == 3 && r.bands == 0) || 3 < r.bands then some .reservedValue
  else if r.mode == 5 || (s.mode == 5 && r.source != 2) then some .notPermitted
  else if r.mode == 3 && ((bitAt r.bands 0 && !s.planEn 0) || (bitAt r.bands 1 && !s.planEn 1)) then
    some .notPermitted
  else if r.mode == 0 && s.actionsBlockDormant then some .busy
  else if s.mode == 4 && r.mode != 4 && s.bulkBusy then some .busy
  else if s.mode == r.mode && s.profile == r.profile && s.pw.trans.isNone then some .ok
  else none

/-- RESULT takes a status (R44). -/
def State.setModeResult (s : State) (st : Status) : State := s.setFld F.pmuModestatResult st.code

/-- The wide paths stop or contexts are parked by a transition (R52). -/
def State.transParks (s : State) (r : ModeReq) : Bool :=
  s.mode == 3 && (r.mode != 3 || r.profile < s.profile || s.fld F.pmuModestatBands &&& r.bands != s.fld F.pmuModestatBands)

/-- A partial swap holds mode requests back while it is in DRAINING or QUIESCE (R90). -/
def State.swapHoldsMode (s : State) : Bool := 3 ≤ s.fld F.brdSwapstatState

/-- The ready bits of a wake, with HFRC stable (R109, R115, R125). -/
def State.wakeReady (s : State) : State :=
  let s := if s.pw.hfrcFailed then s else s.raise F.pmuStatHfrcok
  (((s.raise F.pmuStatRegrdy).raise F.pmuStatOscrdy).raise F.pmuStatMemrdy).raise F.pmuStatLogrdy

/-- Core 0 starts afresh when its cluster has been off: at the entry point of the image that runs (R146, R491). -/
def State.restartCore0 (s : State) : State := if s.pw.boot == .run then s.pipRelease 0 s.fw.entry else s

/-- Begin a transition: BUSY and TARGET are set and the domains the target needs beyond those on are powered in wake
order; a drain (R52) or the quiesce of DORMANT (R53) comes first where one is needed. -/
def State.startTransition (s : State) (r : ModeReq) : State :=
  let hit := if s.transParks r then s.affectedCtx (r.mode == 3) (if r.mode = 3 then r.bands else 0) r.profile else []
  let phase : TransPhase := if hit.any s.ctxBusy then .drain else if r.mode = 0 then .quiesce else .running
  let s := if s.transParks r then s.drainCtx hit else s
  let s := ((s.raise F.pmuModestatBusy).setFld F.pmuModestatTarget r.mode).setModeResult .pending
  let wakes := s.dormant && r.mode != 0
  let s := if r.mode = 0 then s else (s.powerUpFor r.mode r.profile).xrefStart
  let s := if wakes then s.wakeReady.restartCore0.lower F.pmuStatAonlp else s
  { s with pw := { s.pw with trans := some { req := r, phase := phase }, wSleep := false } }

/-- Submit a request (R48, R49): the status returned, and the state. While a transition runs it becomes the waiting
request; the one it displaces, or it itself when one of the same tick ranks higher, ends with CANCELLED. -/
def State.submitMode (s : State) (r : ModeReq) : Status × State :=
  let r := { r with at_ := s.tick }
  match s.checkMode r with
  | some st => (st, s.setModeResult st)
  | none =>
    if s.pw.trans.isSome || s.swapHoldsMode then
      match s.pw.waiting with
      | some w =>
        if w.at_ = s.tick && sourceRank w.source < sourceRank r.source then (.cancelled, s.setModeResult .cancelled)
        else (.pending, { s with pw := { s.pw with waiting := some r } }.setModeResult .pending)
      | none => (.pending, { s with pw := { s.pw with waiting := some r } }.setModeResult .pending)
    else (.pending, s.startTransition r)

/-- The waiting request starts when nothing holds it: it is checked again, and ends at once where R48 says so. -/
def State.startWaiting (s : State) : State :=
  if s.pw.trans.isSome || s.swapHoldsMode then s
  else
    match s.pw.waiting with
    | none => s
    | some r =>
      let s := { s with pw := { s.pw with waiting := none } }
      match s.checkMode r with
      | some st => s.setModeResult st
      | none => s.startTransition r

/-! ## Completion (R45, R47, R51) -/

/-- The MODE_CHANGED payload: MODESTAT then MODEHIST (R47). -/
def State.modeChangedPayload (s : State) : List Byte :=
  leBytes 4 (s.regN A.pmuModestat) ++ leBytes 4 (s.regN A.pmuModehist)

/-- The new mode comes into force: domains, PLL points, status and history, wide paths; MODE_CHANGED is queued and
the MODE source pulses (R508). -/
def State.enterMode (s : State) (r : ModeReq) (result : Status) : State :=
  let prev := s.mode
  let prevProf := s.profile
  let s := s.powerDownFor r.mode r.profile
  let s := if r.mode = 0 then s else s.setPoints r.mode r.profile
  let s := ((s.setFld F.pmuModestatMode r.mode).setFld F.pmuModestatTarget r.mode).setFld F.pmuModestatProfile r.profile
  let s := ((s.setFld F.pmuModestatBands (if r.mode = 3 then r.bands else 0)).lower F.pmuModestatBusy).setModeResult result
  let s := ((s.setFld F.pmuModehistSource r.source).setFld F.pmuModehistPrevprof prevProf).setFld F.pmuModehistPrev prev
  let s := s.applyWideIn (r.mode == 3) (if r.mode = 3 then r.bands else 0) r.profile
  let s := if r.mode = 4 && r.profile = 1 then s.missRadio else s
  let s := s.notice 0xC2 s.modeChangedPayload
  let s := s.irqPulse 933 (s.regN A.pmuModestat)
  { s with pw := { s.pw with trans := none, wSleep := false } }

/-- May the running transition complete: nothing drains or quiesces, and XREF is ready where it is needed (R51). -/
def State.transReady (s : State) (t : Transition) : Bool :=
  (t.phase == .running || t.phase == .latched)
  && (!needsXref t.req.mode t.req.profile || s.flag F.pmuStatXrefrdy || t.xrefGivenUp)

/-- MODE_TRANSITION_DONE (R51): the transition completes, and a waiting request starts. -/
def execModeTransitionDone (s : State) : Out :=
  .next (
    match s.pw.trans with
    | none => s
    | some t => if s.transReady t then (s.enterMode t.req .ok).startWaiting else s)

/-- XREF_TRANSITION_TIMEOUT (R51): a transition that needs XREF completes on CK_HF with XREFFAIL raised. -/
def execXrefTransitionTimeout (s : State) : Out :=
  .next (
    match s.pw.trans with
    | none => s
    | some t =>
      if t.phase == .running && needsXref t.req.mode t.req.profile && !s.flag F.pmuStatXrefrdy then
        let s := s.raise F.pmuIntstatXreffail
        (s.enterMode t.req .ok).startWaiting
      else s)

/-- DRAIN_END (R52): the drain has ended; frames still held by affected contexts are abandoned as unserved. -/
def execDrainEnd (s : State) : Out :=
  .next (
    match s.pw.trans with
    | none => s
    | some t =>
      if t.phase == .drain then
        let s := s.abandonDrain
        { s with pw := { s.pw with trans := some { t with phase := if t.req.mode = 0 then .quiesce else .running } } }
      else s)

/-! ## The commands -/

/-- The request a MODEREQ-shaped word carries (R43). -/
def modeReqOf (n source : Nat) : ModeReq :=
  { mode := bitsOf n 0 3, profile := bitsOf n 4 3, bands := bitsOf n 8 2, source := source }

/-- The MODEHIST source of a core: the sentinel 5, Pip core n 6 + n (R45). -/
def coreSource (core : Nat) : Nat := if core = 4 then 5 else 6 + core

/-- A write to `PMU.MODEREQ` by a core (R43): it submits the request it carries. -/
def State.writeModereq (s : State) (core : Nat) (w : Word) : State :=
  let s := s.writeReg A.pmuModereq w
  (s.submitMode (modeReqOf w.toNat (coreSource core))).2

/-- MODE_REQUEST (R48). -/
def execModeRequest (core : Nat) (user : Bool) (w : Word) (s : State) : Out :=
  guarded user s (s.writeModereq core w)

/-- The response of MODE_SET and MODE_GET after the status: MODESTAT (R47). -/
def State.modeStatBytes (s : State) : List Byte := leBytes 4 (s.regN A.pmuModestat)

/-- MODE_SET's handler (R47): MODE, PROFILE, BANDS and a reserved zero byte. -/
def handleModeSet : Handler := fun _ p s =>
  if byteAt p 3 != 0 then (.now .reservedValue s.modeStatBytes, s)
  else
    let (st, s) := s.submitMode
      { mode := byteAt p 0, profile := byteAt p 1, bands := byteAt p 2, source := 4 }
    (.now st s.modeStatBytes, s)

/-- MODE_GET's handler (R47). -/
def handleModeGet : Handler := fun _ _ s => (.now .ok s.modeStatBytes, s)

/-- MODE_SET (R47). -/
def execModeSet (o : Origin) (p : List Byte) (s : State) : Out :=
  .next (hostCommand 0x12 (· == 4) handleModeSet o p s)

/-- MODE_GET (R47). -/
def execModeGet (o : Origin) (p : List Byte) (s : State) : Out :=
  .next (hostCommand 0x13 (· == 0) handleModeGet o p s)

/-! ## W-SLEEP (R37) -/

/-- The sleep threshold of a WATCH profile in CK_REF ticks: 5 ms or 2 ms (R39). -/
def sleepThreshold (profile : Nat) : Nat := (if profile < 2 then 5 else 2) * 40000

/-- The wake lead of 800 us in CK_REF ticks (R37). -/
def wakeLead : Nat := 32000

/-- The four conditions of W-SLEEP, and no swap from ARMED on (R37, R90). -/
def State.maySleep (s : State) : Bool :=
  s.mode == 1 && !s.pw.wSleep && s.pw.trans.isNone
  && !s.actionDueWithin (sleepThreshold s.profile) && !s.coresRunning && !s.journalBusy && !s.onAir
  && s.fld F.brdSwapstatState < 2 && !s.hsl.wake

/-- The wake time of R37: the earlier of the earliest claim tick and the earliest WATCH listen, less the lead. -/
def State.sleepUntil (s : State) : Option Nat :=
  match s.nextClaim, s.nextListen with
  | none, none => none
  | some a, none => some (a - wakeLead)
  | none, some b => some (b - wakeLead)
  | some a, some b => some (min a b - wakeLead)

/-- W_SLEEP_ENTRY (R37): PD_COM and PD_CL0 go into retention, with the clusters of narrow bindings (R28); the rest of
the domains go off, and the mode controller loads its own wake time. -/
def execWSleepEntry (s : State) : Out :=
  .next (
    if s.maySleep then
      let until_ := s.sleepUntil
      let s := switchable.foldl
        (fun s d =>
          if d == .com || d == .cl0 then s
          else if d == .cl1 && s.narrowNeeds 1 then s
          else if d == .cl2 && s.narrowNeeds 2 then s
          else if d == .cl3 && s.narrowNeeds 3 then s
          else s.switchOff d) s
      let s := s.xrefStop
      let s := s.cpuToHf.lower F.clkStatFlock
      { s.raise F.pmuDomstatRet with pw := { s.pw with wSleep := true, ownWake := until_ } }
    else s)

/-- Return to W-ACTIVE (R37). -/
def State.wakeWatch (s : State) : State :=
  if s.pw.wSleep then
    let s := (s.lower F.pmuDomstatRet).evRefresh
    let s := ((s.powerUpFor 1 s.profile).xrefStart).setPoints 1 s.profile
    { s with pw := { s.pw with wSleep := false, ownWake := none } }
  else s

/-- MODE_WAKE_TIME (R37, R128): the mode controller's own time acts only in W-SLEEP, and sets no flag. -/
def execModeWakeTime (s : State) : Out :=
  .next (if s.pw.wSleep && s.pw.ownWake.isSome then s.wakeWatch else s)

/-- The device goes to sleep: HELD actions are saved before the latch, the pads are latched, and the power-down order of
R110 runs (R53, R110, R272). -/
def State.goDormant (s : State) : State :=
  let s := s.saveHeld.latchPads
  let s := switchable.foldl (fun s d => s.switchOff d) s
  let s := (s.raise F.pmuStatAonlp).xrefStop
  let s := (((s.lower F.pmuStatRegrdy).lower F.pmuStatOscrdy).lower F.pmuStatMemrdy).lower F.pmuStatLogrdy
  { s with pw := { s.pw with clusterWaking := [] } }

/-- An entry to DORMANT is abandoned before its latch: the request ends with BUSY (R53). LASTGASP whose restoration to
DORMANT is abandoned so goes on after its alarms. -/
def State.abandonEntry (s : State) : State :=
  let s := match s.pw.trans with
    | some t => if s.mode == 5 then { s with pw := { s.pw with formerMode := some t.req, lg := .alarms } } else s
    | none => s
  let s := { s with pw := { s.pw with trans := none } }
  (((s.lower F.pmuModestatBusy).setFld F.pmuModestatTarget s.mode).setModeResult .busy).undrainCtx.startWaiting

/-! ## Waking from DORMANT (R46, R53, R109) -/

/-- The WAKEMODE request (R46): MODE 0 requests nothing. -/
def State.wakeModeRequest (s : State) : State :=
  let n := s.regN A.pmuWakemode
  if bitsOf n 0 3 = 0 then s else (s.submitMode (modeReqOf n 10)).2

/-- A wake source asserts (R46): before the pad latch it abandons a DORMANT entry, enabled or not (R53); in DORMANT it
wakes the device when its WAKEEN bit is set; in W-SLEEP it returns to W-ACTIVE. A start-up abandoned for a supply
failure restarts (R145). -/
def State.wake (s : State) (src : Nat) : State :=
  if s.pw.boot == .abandoned then { s with pw := { s.pw with boot := .startup } }
  else
    match s.pw.trans with
    | some t =>
      if t.req.mode = 0 && t.phase != .latched then s.abandonEntry
      else if t.req.mode = 0 then
        -- after the latch the entry completes and the source wakes the device in the ordinary way (R53)
        let s := s.enterMode t.req .ok
        if s.bit A.pmuWakemode src then s.wakeModeRequest else s
      else s
    | none =>
      if s.dormant && s.pw.boot == .run then
        if s.bit A.pmuWakemode src then s.wakeModeRequest else s
      else s.wakeWatch

/-- WAKE_SOURCE (R46): bits 16 to 20 of WAKEEN number the sources. -/
def execWakeSource (src : Nat) (s : State) : Out :=
  .next (if 16 ≤ src && src ≤ 20 then s.wake src else s)

/-- WAKETMR_WRITE (R128): arms the firmware interval, or disarms it with zero. -/
def State.writeWaketmr (s : State) (w : Word) : State :=
  (s.setReg A.pmuWaketmr w).setReg A.pmuWakecnt w

/-- WAKETMR_WRITE (R128). -/
def execWaketmrWrite (user : Bool) (w : Word) (s : State) : Out := guarded user s (s.writeWaketmr w)

/-- WAKETMR_FIRE (R128): an armed interval fires: the flag is set and it is a wake source; the interval is spent. -/
def execWaketmrFire (s : State) : Out :=
  .next (
    if s.regN A.pmuWaketmr = 0 then s
    else ((((s.evPulse 0x1C3).wake 19).setRegN A.pmuWaketmr 0).setRegN A.pmuWakecnt 0).raise F.pmuIntstatWaketmr)

/-- PAD_LATCH (R53, R110, R111): the quiesce of a DORMANT entry ends: the journal's commits are complete and its
buffer written to flash (R337), the pads are latched, which commits the entry, and the power-down order runs. A host that holds HSL_WAKE high abandons the entry
first. -/
def execPadLatch (s : State) : Out :=
  .next (
    match s.pw.trans with
    | some t =>
      if t.req.mode = 0 && t.phase == .quiesce && !s.onAir then
        if s.hsl.wake then s.abandonEntry
        else
          let s := s.jrnFlush.goDormant
          { s with pw := { s.pw with trans := some { t with phase := .latched } } }
      else s
    | none => s)

/-! ## Cluster demand in NODE profile 1 (R606) -/

/-- Work of a cluster: its core is released, or a fabric tile of it is in use (R606). -/
def State.clusterWork (s : State) (n : Nat) : Bool :=
  (s.core n).run != .held || s.fabricWork n

/-- CLUSTER_IDLE (R606): 10 ms without work in NODE profile 1 switch the cluster off, unless R28 keeps it on. -/
def execClusterIdle (n : Nat) (s : State) : Out :=
  .next (
    if 1 ≤ n && n ≤ 3 && s.mode == 2 && s.profile == 1 && s.pw.trans.isNone && !s.clusterWork n && !s.narrowNeeds n
    then s.switchOff (Domain.cl n) else s)

/-- CLUSTER_POWERED (R606): the domain is on; accesses that waited for it complete, its SRAM undefined. -/
def execClusterPowered (n : Nat) (s : State) : Out :=
  .next (
    if s.pw.clusterWaking.contains n then
      let late := s.pw.lateWrites
      let mine (w : Nat × List Byte) : Bool := clusterOf w.1 == n
      let s := { s with pw := { s.pw with
          clusterWaking := s.pw.clusterWaking.filter (· != n), lateWrites := late.filter (fun w => !mine w) } }
      if s.domainOn (Domain.cl n) || s.onDemand n then
        let s := s.switchOn (Domain.cl n)
        (late.filter mine).foldl (fun s w => s.dma w.1 w.2) s
      else s
    else s)

/-! ## Supply failure and LASTGASP (R50, R56, R57, R105) -/

/-- Enter LASTGASP from whatever has been reached (R50): the flush phase begins (R56). -/
def State.enterLastgasp (s : State) : State :=
  let former : ModeReq := { mode := s.mode, profile := s.profile, bands := s.fld F.pmuModestatBands, source := 2 }
  let p := s.fld F.pmuModecfgLgprof
  let asleep := !s.domainOn .cl0
  let s := if s.pw.wSleep then s.evRefresh else s
  let s := ((s.wakeReady.lower F.pmuStatAonlp).powerUpFor 5 p).xrefStart
  let s := if asleep then s.restartCore0 else s
  let s := s.modeCancelAll (fun n => (s.slot n).state != 6)
  let s := (s.flashLastgasp).enterMode { mode := 5, profile := p, bands := 0, source := 1 } .ok
  { s with pw := { s.pw with formerMode := some former, lg := .flush } }

/-- End of LASTGASP as LGEND sets (R56): DORMANT profile 0, or off with the LP regulator opened. -/
def State.endLastgasp (s : State) : State :=
  let s := { s with pw := { s.pw with lg := .none, formerMode := none } }
  if s.flag F.pmuModecfgLgend then { s with pw := { s.pw with boot := .off } }
  else s.goDormant.enterMode { mode := 0, profile := 0, bands := 0, source := 1 } .ok

/-- A trip before start-up step 6 has ended abandons start-up, flushes what the previous run left and ends as LGEND
sets (R145). -/
def State.abandonStartup (s : State) : State :=
  let s := s.flushLeftovers
  if s.flag F.pmuModecfgLgend then { s with pw := { s.pw with boot := .off } }
  else
    let s := { s with pw := { s.pw with boot := .abandoned, recovered := false, holdupDone := false } }
    let s := switchable.foldl (fun s d => s.switchOff d) s
    let s := ((s.setFld F.pmuModestatMode 0).setFld F.pmuModestatTarget 0).setFld F.pmuModestatProfile 0
    (s.setFld F.pmuModehistSource 1).raise F.pmuStatAonlp

/-- What a trip of the supply-failure comparator starts (R50): the running transition's request ends with BROWNOUT and
the waiting one with CANCELLED, a swap short of its window ends (R90), and LASTGASP is entered. During start-up R145
applies; after step 6 the handover sees PFAIL (R55). A BIST run stops (R573). A restoration under way is a running
transition like any other (R57): the mode it requested is again the mode to restore. -/
def State.supplyTrip (s : State) : State :=
  match s.pw.boot with
  | .startup => s.abandonStartup
  | .background => if s.pw.recovered && s.pw.holdupDone then s else s.abandonStartup
  | .bist =>
    match s.fcr.bist with
    | some b => if b.result = .ok then { s with fcr := { s.fcr with bist := some { b with result := .brownout } } } else s
    | none => s
  | .run | .service =>
    let former := if s.mode == 5 then s.pw.trans.map Transition.req else none
    if s.mode == 5 && former.isNone then s
    else
      let s := if s.pw.trans.isSome then (s.setModeResult .brownout).undrainCtx else s
      let s := if s.pw.waiting.isSome then s.setModeResult .cancelled else s
      let s := { s with pw := { s.pw with trans := none, waiting := none } }
      let s := (s.lower F.pmuDomstatRet).supplyStopsSwap.enterLastgasp
      if former.isSome then { s with pw := { s.pw with formerMode := former } } else s
  | _ => s

/-- SUPPLY_FAILURE (R50, R105): PFAIL follows the comparator; while the hold-up test runs a trip starts nothing else
(R352). -/
def execSupplyFailure (s : State) : Out :=
  .next (
    if s.flag F.pmuModestatPfail || s.pw.boot == .off then s
    else
      let s := ((s.raise F.pmuModestatPfail).raise F.pmuIntstatPfail).evLevel 0x1C4 true
      if s.jrn.holding then s else s.supplyTrip)

/-- SUPPLY_CLEAR (R105). -/
def execSupplyClear (s : State) : Out :=
  .next (
    if s.flag F.pmuModestatPfail then
      ((s.evLevel 0x1C4 false).lower F.pmuModestatPfail).raise F.pmuIntstatPfrestore
    else s)

/-- SUPPLY_RESTORED (R57): the flush completes, alarms not yet begun end with CANCELLED, and the former mode is requested
with source 2. An abandoned start-up restarts (R145). -/
def execSupplyRestored (s : State) : Out :=
  .next (
    if s.flag F.pmuModestatPfail then s
    else if s.pw.boot == .abandoned then { s with pw := { s.pw with boot := .startup } }
    else
      match s.pw.formerMode, s.pw.lg with
      | _, .none => s
      | none, _ => s
      | some r, lg =>
        let s := if lg == .flush then s.jrnFlush else s
        let (st, s) := s.cancelAlarms.submitMode r
        if st = .pending then { s with pw := { s.pw with lg := .none, formerMode := none } } else s)

/-- LASTGASP_FLUSH_DONE (R56): the flush has ended; up to LGALARMS HELD actions are released as ASAP (R272), with the
domains of the chains that carry them (R35). A HALT response that has waited is made instead (R462). -/
def execLastgaspFlushDone (s : State) : Out :=
  .next (
    if s.mode == 5 && s.pw.lg == .flush then
      let s := s.jrnFlush
      if s.sec.haltWait then s.assertReset 2 5
      else
        let s := s.releaseAlarms
        { s with pw := { s.pw with lg := .alarms } }
    else s)

/-- LASTGASP_END (R56): the alarms have been sent. -/
def execLastgaspEnd (s : State) : Out :=
  .next (if s.mode == 5 && s.pw.lg == .alarms && !s.alarmsLeft then s.endLastgasp else s)

/-- The hold-up measurement or test has ended: a comparator that has stayed tripped acts now (R352). -/
def State.holdupEnds (s : State) (fall : Nat) (stayed : Bool) : State :=
  let s := s.finishHoldup fall stayed
  if s.flag F.pmuModestatPfail then s.supplyTrip else s

/-- XREF_READY (R116): XREFRDY; a warm start from now on; the enabled PLLs lock and the clocks of the profile are set
(R51, R118). -/
def execXrefReady (s : State) : Out :=
  .next (
    if s.pw.xrefStarting then
      let s := { s.raise F.pmuStatXrefrdy with pw := { s.pw with xrefStarting := false, xrefWarm := true } }
      if s.mode == 7 || s.dormant then s else s.setPoints s.mode s.profile
    else s)

/-- XREF_FAIL (R118): XREFRDY clears and XREFFAIL is set, CK_CPU moves to CK_HF, CK_FAB stops, the samples of every band
become invalid (R194), TMB advances on CK_LF; radio actions are missed from here on. -/
def execXrefFail (s : State) : Out :=
  .next (
    if s.flag F.pmuStatXrefrdy then
      let s := (s.lower F.pmuStatXrefrdy).raise F.pmuIntstatXreffail
      let s := s.cpuToHf.lower F.clkStatFlock
      let s := if s.tb.run == .ref then { s with tb := { s.tb with run := .lf, frac := 0 } }.raise F.tmbStatLf else s
      s.xrefLostCapture.missRadio
    else s)

end Sys2Proof.Machine
end

