-- ==== Sys2Proof/Machine/Firmware.lean ====
section
/-!
DEFINITION. Firmware update (R424-R438): the boot control record, image checks, delivery, activation, the boot decision,
confirmation and the rollback floor.
-/

namespace Sys2Proof.Machine

/-! ## The boot control record (R425) -/

/-- Fields of a boot control record. -/
structure Bcr where
  seq     : Nat
  active  : Nat
  trial   : Nat
  tries   : Nat
  actver  : Nat
  actjseq : Nat
  actid   : Nat
  deriving DecidableEq, Repr

/-- The flash offset of a copy. -/
def bcrOff (k : Nat) : Nat := if k = 0 then 0x1000 else 0x2000

/-- Bytes 0-27 of a record. -/
def Bcr.body (b : Bcr) : List Byte :=
  [0x42, 0x43, 0x52, 0x31] ++ leBytes 4 b.seq ++ [Byte.ofN b.active, Byte.ofN b.trial, Byte.ofN b.tries, 0]
  ++ leBytes 4 b.actver ++ leBytes 4 b.actjseq ++ leBytes 4 b.actid ++ leBytes 4 0

/-- The 32 bytes of a record. -/
def Bcr.encode (b : Bcr) : List Byte := b.body ++ leBytes 4 (crc32c b.body)

/-- The fields of 32 bytes. -/
def Bcr.parse (p : List Byte) : Bcr :=
  { seq := leAt p 4 4, active := byteAt p 8, trial := byteAt p 9, tries := byteAt p 10, actver := leAt p 12 4,
    actjseq := leAt p 16 4, actid := leAt p 20 4 }

/-- The rules that make a copy valid. -/
def Bcr.ok (b : Bcr) : Bool := b.active ≤ 1 && (b.trial == 0xFF || b.trial == 1 - b.active) && b.tries ≤ 2

/-- A copy's record, where the copy is valid. -/
def State.bcrCopy (s : State) (k : Nat) : Option Bcr :=
  let p := s.flashBytes (bcrOff k) 32
  if p == (Bcr.parse p).encode && (Bcr.parse p).ok then some (Bcr.parse p) else none

/-- The record in force: the valid copy with the higher SEQ, copy 0 on a tie. -/
def State.bcr (s : State) : Option Bcr :=
  match s.bcrCopy 0, s.bcrCopy 1 with
  | some a, some b => if a.seq < b.seq then some b else some a
  | some a, none => some a
  | none, b => b

/-- The copy that a write replaces: one that is not valid, else the lower SEQ, else copy 1. -/
def State.bcrVictim (s : State) : Nat :=
  match s.bcrCopy 0, s.bcrCopy 1 with
  | none, _ => 0
  | some _, none => 1
  | some a, some b => if a.seq < b.seq then 0 else 1

/-- Write a record: SEQ is one more than that in force. -/
def State.writeBcr (s : State) (b : Bcr) : State :=
  let seq := match s.bcr with | some x => (x.seq + 1) % 2 ^ 32 | none => 1
  let off := bcrOff s.bcrVictim
  (s.eraseCounted (off / 4096) 1).program off { b with seq := seq }.encode

/-! ## Checking an image (R426, R427) -/

/-- A slot's execute-in-place address. -/
def fwBase (k : Nat) : Nat := 0x08000000 + fwSlotOff k

/-- Header bytes 0-255 of a slot. -/
def State.fwHeader (s : State) (k : Nat) : List Byte := s.flashBytes (fwSlotOff k) 256

/-- The tests of R427 that read only the header, 0x01-0x05: the first that fails, or 0. -/
def State.fwHeadCheck (s : State) (k : Nat) : Nat :=
  let h := s.fwHeader k
  let len := leAt h 20 4
  let entry := leAt h 28 4
  if (h.take 64).all (· == 0xFF) then 1
  else if h.take 4 != [0x46, 0x57, 0x49, 0x31] || byteAt h 5 != 1 || leAt h 6 2 != 0 || byteAt h 15 != 0 || !allZero (h.drop 38) then 2
  else if leAt h 8 4 != 0x00008800 || s.fld F.sysIdStep < byteAt h 12 then 3
  else if leAt h 24 4 != fwBase k then 4
  else if len % 8 != 0 || len < 328 || 8388608 < len || entry % 2 != 0 || entry < 256 || len - 64 ≤ entry
      || byteAt h 36 = 0 || byteAt h 37 = 0 || !(byteAt h 37 == byteAt h 36 || byteAt h 37 + 1 == byteAt h 36) then 5
  else 0

/-- The check of a slot: the detail of the first test that fails, or 0 (R427). Test 0x08 applies on a trial. -/
def State.fwCheck (s : State) (k : Nat) (trial : Bool) : Nat :=
  let d := s.fwHeadCheck k
  let h := s.fwHeader k
  let len := leAt h 20 4
  let img := s.flashBytes (fwSlotOff k) len
  if d != 0 then d
  else if 3 < byteAt h 13 || !s.signatureOk 2 (byteAt h 13) (img.take (len - 64)) (img.drop (len - 64)) then 6
  else if byteAt h 14 < s.rollbackFloor then 7
  else if trial && leAt h 16 4 < (match s.bcr with | some b => b.actver | none => 0) then 8
  else 0

/-- The status of a detail code (R427, R438). -/
def fwStatus (d : Nat) : Status := if d = 0 then .ok else if d = 7 || d = 8 then .rollback else .badImage

/-! ## Delivery (R428, R429) -/

/-- FW_WRITE's handler. The data lengths differ by endpoint. -/
def handleFwWrite : Handler := fun _ p s =>
  let k := byteAt p 0
  let off := leAt p 4 4
  let data := p.drop 8
  if 1 < k || !allZero ((p.drop 1).take 3) || off % 256 != 0 || 0x800000 < off + data.length then (.now .reservedValue [], s)
  else if s.mode = 5 then (.now .notPermitted [], s)
  else if s.fwLocked k then (.now .locked [], s)
  else if s.flashBytes (fwSlotOff k + off) data.length == data then (.now .ok [], s)
  else
    let (st, s) := s.flProgram (fwSlotOff k + off) data
    (.now st [], s)

/-- FW_WRITE's payload lengths: 256-3,840 bytes of data locally, 256-768 over the tunnel. -/
def fwWriteLen (ep : Endpoint) (n : Nat) : Bool :=
  264 ≤ n && n ≤ (if ep = .tunnel then 776 else 3848) && (n - 8) % 256 == 0

/-- FW_WRITE (R429). -/
def execFwWrite (o : Origin) (p : List Byte) (s : State) : Out :=
  .next (hostCommand 0x30 (fwWriteLen o.ep) handleFwWrite o p s)

/-- FW_ERASE's handler. -/
def handleFwErase : Handler := fun o p s =>
  let k := byteAt p 0
  let n := leAt p 4 4
  let count := if n = 0 then 2048 else (n + 4095) / 4096
  if 1 < k || !allZero ((p.drop 1).take 3) || 8388608 < n then (.now .reservedValue [], s)
  else if s.mode = 5 then (.now .notPermitted [], s)
  else if s.fwLocked k then (.now .locked [], s)
  else if s.flcHeld then (.now .busy [], s)
  else
    let first := fwSlotOff k / 4096
    let s := s.junkSectors ((List.range count).map (fun i => first + i))
    (.later, { s with flc := { s.flc with erase := some { first := first, count := count, host := some (o, 0x31) } } })

/-- FW_ERASE (R428). -/
def execFwErase (o : Origin) (p : List Byte) (s : State) : Out := .next (hostCommand 0x31 (· == 8) handleFwErase o p s)

/-- FW_VERIFY's handler. -/
def handleFwVerify : Handler := fun _ p s =>
  let k := byteAt p 0
  if 1 < k || !allZero ((p.drop 1).take 3) then (.now .reservedValue [], s)
  else if s.mode = 5 then (.now .notPermitted [], s)
  else
    let d := s.fwCheck k false
    let h := s.fwHeader k
    let rest := if d = 1 then List.replicate 11 0
      else [Byte.ofN (byteAt h 14), Byte.ofN (byteAt h 36), Byte.ofN (byteAt h 37)] ++ leBytes 4 (leAt h 16 4) ++ leBytes 4 (leAt h 20 4)
    (.now (fwStatus d) (Byte.ofN d :: rest), s.touchPlane k)

/-- FW_VERIFY (R427, R428). -/
def execFwVerify (o : Origin) (p : List Byte) (s : State) : Out := .next (hostCommand 0x32 (· == 4) handleFwVerify o p s)

/-! ## Activation (R430-R433) -/

/-- ROUND of an activation record's body, its slot and its ACTID (R431). -/
def actRound (b : List Byte) : Nat := leAt b 0 8
/-- The slot. -/
def actSlot (b : List Byte) : Nat := byteAt b 8
/-- ACTID. -/
def actId (b : List Byte) : Nat := leAt b 12 4

/-- NTM is VALID and its round has reached a number. -/
def State.ntmReached (s : State) (r : Nat) : Bool := s.flag F.ntmStatValid && r ≤ s.ntmRound

/-- An ACTIVATION record is being committed. -/
def State.actCommitting (s : State) : Bool :=
  s.jrn.commits.any (fun c => match c.what with | .activate _ => true | _ => false)

/-- FW_ACTIVATE's handler (R430). -/
def handleFwActivate : Handler := fun o p s =>
  let k := byteAt p 0
  let r := leAt p 4 8
  if 1 < k || !allZero ((p.drop 1).take 3) then (.now .reservedValue [], s)
  else if s.mode = 5 || s.fwRunning k || (r != 0 && (!s.flag F.ntmStatValid || s.ntmReached (r - 1))) || !s.flag F.jrnCfgEn
  then (.now .notPermitted [], s)
  else if !s.jrn.acts.isEmpty || s.actCommitting || s.fw.trial then (.now .busy [], s)
  else
    let body := leBytes 8 r ++ [Byte.ofN k, 0, 0, 0] ++ leBytes 4 (leAt p 12 4)
    (.later, s.beginCommit 8 0 0 0 body (.activate (some o)))

/-- FW_ACTIVATE (R430). -/
def execFwActivate (o : Origin) (p : List Byte) (s : State) : Out := .next (hostCommand 0x33 (· == 16) handleFwActivate o p s)

/-- The activation that is scheduled: the live record with the lowest JSEQ. -/
def State.scheduledAct (s : State) : Option (Nat × List Byte) := s.jrn.acts.head?

/-- Cancellation is still open: the boundary of ROUND - 1 has not passed (R432). A ROUND of 0 closes it with the
commit's KEEPER request. -/
def State.cancelOpen (s : State) (b : List Byte) : Bool :=
  if actRound b = 0 then s.fw.asked.isNone && s.fw.firing.isNone else !s.ntmReached (actRound b - 1)

/-- FW_CANCEL's handler (R432). -/
def handleFwCancel : Handler := fun o _ s =>
  if s.mode = 5 then (.now .notPermitted [], s)
  else
    match s.scheduledAct with
    | some (j, b) =>
      if s.cancelOpen b && s.fw.cancelHost.isNone then
        (.later, { s.beginCommit 9 0 0 j [] (.actClear j) with fw := { s.fw with cancelHost := some o } })
      else (.now .notPermitted [], s)
    | none => (.now .notPermitted [], s)

/-- FW_CANCEL (R432). -/
def execFwCancel (o : Origin) (p : List Byte) (s : State) : Out := .next (hostCommand 0x34 (· == 0) handleFwCancel o p s)

/-- A FW_CANCEL whose commit has not ended by the boundary returns NOT_PERMITTED and commits nothing (R432). -/
def State.closeCancel (s : State) : State :=
  match s.fw.cancelHost with
  | none => s
  | some o =>
    let s := { s with
      fw := { s.fw with cancelHost := none }
      jrn := { s.jrn with commits := s.jrn.commits.filter (fun c => match c.what with | .actClear _ => false | _ => true) } }
    s.respond o 0x34 .notPermitted []

/-- An activation may not fire: DORMANT, W-SLEEP, LASTGASP, start-up (R433). -/
def State.actHeld (s : State) : Bool :=
  !(s.pw.boot == .run || s.pw.boot == .service) || s.dormant || s.pw.wSleep || s.mode == 5

/-- The boundary of an activation comes within a second or has passed: LATE where its own boundary has passed while it
could not fire (R433). -/
def State.actNear (s : State) (b : List Byte) : Bool :=
  actRound b == 0 || s.ntmReached (actRound b - 1)

/-- ACTIVATION_KEEPER (R433): 1 s before the boundary, KEEPER profile 0 is requested with source 3; for ROUND 0 as soon as
the record commits, and only outside KEEPER. One whose own boundary has passed fires at the next round boundary. -/
def execActivationKeeper (s : State) : Out :=
  .next (
    match s.scheduledAct with
    | none => s
    | some (j, b) =>
      if s.actHeld || s.fw.asked == some j || !s.actNear b then s
      else
        let late := actRound b != 0 && s.ntmReached (actRound b)
        let target := if late then s.ntmRound + 1 else actRound b
        let s := s.closeCancel
        let s := { s with fw := { s.fw with asked := some j, target := target, late := late } }
        if actRound b = 0 && s.mode = 4 then s
        else (s.submitMode { mode := 4, profile := 0, bands := 0, source := 3 }).2)

/-- The activation's boundary has come: that of its round, or of the round it fires at late, with NTM VALID; for ROUND 0
the end of the transition to KEEPER. -/
def State.actDue (s : State) (b : List Byte) : Bool :=
  if actRound b = 0 then s.mode == 4 && s.pw.trans.isNone else s.ntmReached s.fw.target

/-- ACTIVATION_QUIESCE (R433): the quiesce begins at the boundary. Where the activation is held at that boundary, it is
late, and KEEPER is requested anew. -/
def execActivationQuiesce (s : State) : Out :=
  .next (
    match s.scheduledAct with
    | none => s
    | some (j, b) =>
      if s.fw.asked != some j || s.fw.firing.isSome || !s.actDue b then s
      else if s.actHeld then { s with fw := { s.fw with asked := none } }
      else { s with fw := { s.fw with firing := some j } })

/-- ACTIVATION_RESET (R433, R438): nothing is in the air, no swap window is open, commits are complete and BUFFERED
records flushed: FW_STATE FIRED, then a SYSTEM reset with cause ACTIVATION. -/
def execActivationReset (s : State) : Out :=
  .next (
    match s.fw.firing with
    | none => s
    | some j =>
      if s.onAir || s.swapWindow then s
      else if s.actHeld then { s with fw := { s.fw with firing := none, asked := none } }
      else
        let b := (Sparse.find? s.jrn.acts j).getD []
        let s := s.jrnFlush
        (s.fwNotice 3 (b2n s.fw.late) .ok (actSlot b) 0 (actId b)).assertReset 2 10)

/-! ## The boot decision (R434) -/

/-- A FW_STATE notice of start-up waits for step 9. -/
def State.fwNote (s : State) (event : Nat) (st : Status) (slot detail actid : Nat) : State :=
  { s with fw := { s.fw with notes := s.fw.notes ++ [s.fwStatePayload event 0 st slot detail actid] } }

/-- Choose a slot to boot: what the handover takes from its header (R146, R434, R437). -/
def State.bootSlot (s : State) (k : Nat) (trial : Bool) : State :=
  let h := s.fwHeader k
  let s := s.setFld F.sysBootstatFwslot k
  { s with fw := { s.fw with
    slot := some k, svn := byteAt h 14, ver := leAt h 16 4, keyId := byteAt h 13, entry := fwBase k + leAt h 28 4,
    confSec := leAt h 32 4, wireGen := byteAt h 36, wireMin := byteAt h 37, trial := trial } }

/-- Raise the floor to an SVN: bits 0 to SVN - 1 (R408, R435). -/
def State.raiseFloor (s : State) (svn : Nat) : State :=
  (List.range 4).foldl (fun s k => s.orOtp (0x80 + k) ((2 ^ svn - 1) / 2 ^ (64 * k) % 2 ^ 64)) s

/-- Boot the BCR's ACTIVE slot: a floor below its SVN rises (R435). -/
def State.bootActive (s : State) (k : Nat) : State :=
  let s := s.bootSlot k false
  if s.rollbackFloor < s.fw.svn then (s.raiseFloor s.fw.svn).fwNote 6 .ok k 0 0 else s

/-- FWFALL and the FALLBACK notice. -/
def State.fwFall (s : State) (slot detail actid : Nat) : State :=
  (s.raise F.sysBootflagsFwfall).fwNote 7 (fwStatus detail) slot detail actid

/-- The trial goes: the slot on trial is abandoned. -/
def State.dropTrial (s : State) (b : Bcr) (reason : Nat) : State :=
  (s.writeBcr { b with trial := 0xFF }).fwFall b.trial reason b.actid

/-- The part of R434 below the trial: ACTIVE, else the other slot, else ROM service with FWNONE. -/
def State.bootConfirmed (s : State) : State :=
  match s.bcr with
  | some b =>
    let d := s.fwCheck b.active false
    if d = 0 then s.bootActive b.active
    else
      let k := 1 - b.active
      if s.fwCheck k false = 0 then
        let s := s.writeBcr { b with active := k, actver := leAt (s.fwHeader k) 16 4, trial := 0xFF }
        (s.fwFall b.active d 0).bootActive k
      else s.raise F.sysBootflagsFwnone
  | none =>
    match [0, 1].find? (fun k => s.fwCheck k false = 0) with
    | some k =>
      let s := s.writeBcr { seq := 0, active := k, trial := 0xFF, tries := 0, actver := leAt (s.fwHeader k) 16 4, actjseq := 0, actid := 0 }
      s.bootActive k
    | none => s.raise F.sysBootflagsFwnone

/-- A start of the trial: the check, then the boot on trial with its notice, or the fallback. -/
def State.startTrial (s : State) (b : Bcr) : State :=
  let d := s.fwCheck b.trial true
  if d = 0 then (s.bootSlot b.trial true).fwNote 4 .ok b.trial b.tries b.actid
  else (s.dropTrial b d).bootConfirmed

/-- The trial branch of R434. -/
def State.bootTrial (s : State) (fresh : Bool) : State :=
  match s.bcr with
  | none => s.bootConfirmed
  | some b =>
    if b.trial = 0xFF then s.bootConfirmed
    else if fresh then s.startTrial b
    else if b.tries = 0 then (s.dropTrial b 0x10).bootConfirmed
    else
      let b := { b with tries := b.tries - 1 }
      (s.writeBcr b).startTrial b

/-- The activation that has run at a start-up with cause ACTIVATION: the live record whose round has passed, lowest JSEQ
first. NTM has no round before firmware sets it, so the record that fired is the first that is live (R434). -/
def State.dueAct (s : State) : Option (Nat × List Byte) := if s.fld F.rstCauseCode = 10 then s.scheduledAct else none

/-- The BCR of an activation, written unless it has been; ACTCLEAR follows, complete before the step ends. -/
def State.applyAct (s : State) (j : Nat) (a : List Byte) : Bool × State :=
  let old := s.bcr
  let fresh := match old with | some b => b.actjseq != j | none => true
  let b : Bcr := match old with
    | some b => { b with trial := actSlot a, tries := 2, actjseq := j, actid := actId a }
    | none => { seq := 0, active := 1 - actSlot a, trial := actSlot a, tries := 2, actver := 0, actjseq := j, actid := actId a }
  let s := if fresh then s.writeBcr b else s
  let s := s.beginCommit 9 0 0 j [] (.actClear j)
  (fresh, State.commitAll (2 * s.jrn.commits.length + 8) s)

/-- The boot decision of start-up step 7 (R434). -/
def State.bootDecision (s : State) : State :=
  let s := { s with fw := { s.fw with notes := [] } }
  match s.dueAct with
  | none => s.bootTrial false
  | some (j, a) =>
    let (fresh, s) := s.applyAct j a
    s.bootTrial fresh

/-! ## Confirmation (R435) -/

/-- Confirm the trial: the BCR, then the floor; both events are announced. -/
def State.confirmTrial (s : State) : State :=
  match s.bcr, s.fw.slot with
  | some b, some k =>
    let s := s.writeBcr { b with active := k, actver := s.fw.ver, trial := 0xFF }
    let up := s.rollbackFloor < s.fw.svn
    let s := { (if up then s.raiseFloor s.fw.svn else s) with fw := { s.fw with trial := false } }
    let s := s.fwNotice 5 0 .ok k 0 b.actid
    if up then s.fwNotice 6 0 .ok k 0 b.actid else s
  | _, _ => s

/-- FW_CONFIRM's handler. -/
def handleFwConfirm : Handler := fun _ _ s =>
  if s.mode = 5 || !s.fw.trial then (.now .notPermitted [], s)
  else
    let s := s.confirmTrial
    (.now .ok (leBytes 4 s.fw.ver ++ [Byte.ofN s.rollbackFloor, 0, 0, 0]), s)

/-- FW_CONFIRM (R435). -/
def execFwConfirm (o : Origin) (p : List Byte) (s : State) : Out := .next (hostCommand 0x36 (· == 0) handleFwConfirm o p s)

/-- AUTO_CONFIRM (R435): CONFSEC seconds of CK_LF have passed since the handover, and the flash is powered; 0 means
never. -/
def execAutoConfirm (s : State) : Out :=
  .next (
    let due := s.fw.trial && s.fw.confSec != 0 && s.fw.confSec * 32768 ≤ s.fw.trialLf
    if s.pw.boot == .run && due && s.comUp && s.domainOn .fl then s.confirmTrial else s)

/-- A slot's role code (R424, R428). -/
def State.fwRole (s : State) (k : Nat) : Nat :=
  if s.fwRunning k then (if s.fw.trial then 3 else 1) else if s.fwScheduled k then 2 else 0

/-- FW_STATUS's handler. -/
def handleFwStatus : Handler := fun _ _ s =>
  if s.mode = 5 then (.now .notPermitted [], s)
  else
    let one (k : Nat) : List Byte :=
      let h := s.fwHeader k
      let bad := s.fwHeadCheck k != 0
      [Byte.ofN (s.fwRole k), Byte.ofN (if bad then 0 else byteAt h 14), 0, 0] ++ leBytes 4 (if bad then 0 else leAt h 16 4)
    let tries := match s.bcr with | some b => b.tries | none => 0
    let (r, id) := match s.scheduledAct with | some (_, b) => (actRound b, actId b) | none => (0, 0)
    (.now .ok (one 0 ++ one 1 ++ [Byte.ofN s.rollbackFloor, Byte.ofN tries, 0, 0] ++ leBytes 8 r ++ leBytes 4 id), s)

/-- FW_STATUS (R428). -/
def execFwStatus (o : Origin) (p : List Byte) (s : State) : Out := .next (hostCommand 0x35 (· == 0) handleFwStatus o p s)

end Sys2Proof.Machine
end

