-- ==== Sys2Proof/Machine/BoardImage.lean ====
section
/-!
DEFINITION. The Board image (R59-R72): its sections and frames, and the checks of R67 that need no other chapter.
-/

namespace Sys2Proof.Machine

/-! ## Sections and frames (R59-R64) -/

/-- A section of an image: its entry's bytes, index, root, kind, and its frames' count and first offset. -/
structure BrdSect where
  idx    : Nat
  root   : Nat
  kind   : Nat
  first  : Nat
  nframe : Nat
  raw    : List Byte
  /-- The offset that R60 gives its first frame. -/
  start  : Nat
  deriving DecidableEq, Repr

/-- A frame: its section's index, kind and root, and its bytes. -/
structure BrdFrame where
  sec  : Nat
  kind : Nat
  root : Nat
  raw  : List Byte
  deriving DecidableEq, Repr

/-- SITE of a frame. -/
def BrdFrame.site (f : BrdFrame) : Nat := leAt f.raw 0 8
/-- FKIND. -/
def BrdFrame.fkind (f : BrdFrame) : Nat := byteAt f.raw 8
/-- COUNT. -/
def BrdFrame.count (f : BrdFrame) : Nat := byteAt f.raw 9
/-- COUNT as far as the payload reaches. -/
def BrdFrame.items (f : BrdFrame) : Nat := min 16 f.count
/-- Bytes of an item. -/
def BrdFrame.size (f : BrdFrame) : Nat := if f.fkind = 3 then 16 else 8

/-- A 64-bit item of a frame's payload. -/
def BrdFrame.item (f : BrdFrame) (i : Nat) : Nat := leAt f.raw (12 + 8 * i) 8

/-- The configuration words and settings that a frame writes: key and value. -/
def BrdFrame.writes (f : BrdFrame) : List (Nat × Nat) :=
  let x := Site.unpack f.site
  if f.fkind = 1 then
    (List.range f.items).map (fun i => (cfgKey x.d x.c x.t x.m (x.w + i), f.item i))
  else if f.fkind = 2 then
    (List.range f.items).map (fun i => (cfgKey x.d x.c x.t x.m (f.item i % 2 ^ 32), f.item i / 2 ^ 32))
  else []

/-- The substitutions of a frame: the failed tile, then its substitute (R64). -/
def BrdFrame.pairs (f : BrdFrame) : List (Nat × Nat) :=
  if f.fkind = 3 then (List.range (min 8 f.count)).map (fun i => (f.item (2 * i), f.item (2 * i + 1))) else []

/-- An image of a slot: its length, sections and frames. -/
structure BrdImage where
  head   : List Byte
  len    : Nat
  sects  : List BrdSect
  frames : List BrdFrame
  deriving DecidableEq, Repr

/-- Flash bytes of a Board slot. -/
def State.slotBytes (s : State) (k off n : Nat) : List Byte := s.flashBytes (boardSlotOff k + off) n

/-- The header fields of a slot (R61). -/
def State.brdHead (s : State) (k : Nat) : List Byte := s.slotBytes k 0 64

/-- PARTIAL. -/
def headPartial (h : List Byte) : Bool := byteAt h 6 % 2 == 1
/-- NSECT. -/
def headNsect (h : List Byte) : Nat := leAt h 14 2
/-- LAYOUT. -/
def headLayout (h : List Byte) : Nat := leAt h 16 4
/-- GEN. -/
def headGen (h : List Byte) : Nat := leAt h 20 4
/-- BASEGEN. -/
def headBase (h : List Byte) : Nat := leAt h 24 4
/-- LENGTH. -/
def headLen (h : List Byte) : Nat := leAt h 28 4

/-- The section table of an image of `n` sections (R60, R62). -/
def State.brdSects (s : State) (k n : Nat) : List BrdSect :=
  ((List.range n).foldl
    (fun (p : List BrdSect × Nat) i =>
      let raw := s.slotBytes k (64 + 32 * i) 32
      let x : BrdSect :=
        { idx := i, root := leAt raw 0 8, kind := byteAt raw 8, first := leAt raw 12 4, nframe := leAt raw 16 4,
          raw := raw, start := p.2 }
      (p.1 ++ [x], p.2 + 144 * x.nframe)) ([], 64 + 32 * n)).1

/-- The frames of a section. -/
def State.brdFrames (s : State) (k : Nat) (x : BrdSect) : List BrdFrame :=
  (List.range x.nframe).map (fun j =>
    { sec := x.idx, kind := x.kind, root := x.root, raw := s.slotBytes k (x.start + 144 * j) 144 })

/-- The image of a slot whose LENGTH has been checked. -/
def State.brdImage (s : State) (k : Nat) : BrdImage :=
  let h := s.brdHead k
  let l := s.brdSects k (headNsect h)
  { head := h, len := headLen h, sects := l, frames := (l.map (s.brdFrames k)).flatten }

/-! ## The checks (R67) -/

/-- A failure: detail code, section index, packed site of the failing frame. -/
abbrev BrdFail := Nat × Nat × Nat

/-- A failure outside any section. -/
def failAt (detail : Nat) : Option BrdFail := some (detail, 0xFF, 0)

/-- The checks that read the header and the NFRAME values only (R67, R75). -/
def State.brdHeadCheck (s : State) (k : Nat) : Option BrdFail :=
  let h := s.brdHead k
  let n := headNsect h
  if h.all (· == 0xFF) then failAt 0x0F
  else if h.take 4 != [0x42, 0x52, 0x44, 0x31] then failAt 0x01
  else if byteAt h 5 != 1 then failAt 0x02
  else if leAt h 8 4 != 0x00008800 || s.fld F.sysIdStep < byteAt h 12 then failAt 0x03
  else if 1048576 < headLen h || headLen h < 128 + 32 * n
      || headLen h != 128 + 32 * n + 144 * ((s.brdSects k n).map BrdSect.nframe).foldl (· + ·) 0 then failAt 0x04
  else none

/-- The signature check (R66, R440). -/
def State.brdSigned (s : State) (k : Nat) : Bool :=
  let h := s.brdHead k
  let img := s.slotBytes k 0 (headLen h)
  byteAt h 13 ≤ 3 && s.signatureOk 1 (byteAt h 13) (img.take (headLen h - 64)) (img.drop (headLen h - 64))

/-- A root fits a kind (R59). -/
def rootFits (kind root : Nat) : Bool :=
  let x := Site.unpack root
  let tile (c : Bool) (lo hi : Nat) : Bool := x.depth == 3 && x.d == 1 && c && lo ≤ x.t && x.t ≤ hi
  siteValid root
  && (match kind with
      | 1 => tile (x.c < 4) 14 15
      | 2 => tile (x.c < 4) 0 9
      | 3 => tile (x.c < 4) 10 13
      | 4 => tile (x.c == 7) 22 22
      | 5 => tile (x.c == 7) 2 2
      | 6 => tile (x.c == 7) 9 9
      | 7 => tile (x.c == 7) 10 10
      | 8 => tile (x.c == 7) 8 8
      | 9 => tile (x.c == 7) 11 11
      | 10 => tile (x.c == 7) 20 20
      | 11 => tile (x.c == 7) 24 24
      | 12 => tile (x.c == 7) 25 25
      | 13 => x.depth == 1 && x.d == 1
      | _ => false)

/-- A section-table entry breaks no rule by itself. -/
def BrdSect.ok (x : BrdSect) (before : List BrdSect) : Bool :=
  rootFits x.kind x.root && !before.any (fun y => y.root == x.root)
  && x.first == x.start && 1 ≤ x.nframe && x.nframe ≤ 7259
  && allZero ((x.raw.drop 9).take 3) && allZero (x.raw.drop 20)

/-- The section table (R67). -/
def BrdImage.sectCheck (m : BrdImage) : Option BrdFail :=
  if headNsect m.head < 1 || 96 < headNsect m.head || !allZero (m.head.drop 32) || 1 < leAt m.head 6 2 then failAt 0x06
  else
    match m.sects.find? (fun x => !x.ok (m.sects.take x.idx)) with
    | some x => some (0x06, x.idx, 0)
    | none => none

/-- A setting of a section kind is Board-configurable: settings of macro 00, or words of macro 01 (R123, R196, R208,
R209, R235, R293, R509, R532, R533, R545, R555). -/
def configurable (kind m i : Nat) : Bool :=
  if m = 1 then kind == 1 && i < 40
  else if m != 0 then false
  else
    match kind with
    | 1 => i == 0
    | 2 => i == 0 || i == 0x10 || i == 0x11 || (0x20 ≤ i && i ≤ 0x24) || (0x28 ≤ i && i ≤ 0x2C)
    | 3 => i ≤ 1 || i == 0xFF00
    | 4 => i ≤ 1 || i == 0x10 || i == 0x11 || (0x20 ≤ i && i ≤ 0x37) || (0x40 ≤ i && i ≤ 0x4F) || i == 0x60
    | 5 => i < 0x40 && i % 16 < 8 || i == 0x40
    | 6 => i < 0x150 || (0x160 ≤ i && i < 0x1A0)
    | 7 => i < 0x42
    | 8 => 64 ≤ i && irqAssigned i
    | 9 => i < 96 || (0x80 ≤ i && i < 0xE0) || (0x100 ≤ i && i < 0x160) || (0x200 ≤ i && i < 0x220)
        || (0x300 ≤ i && i < 0x310) || (0xFF00 ≤ i && i ≤ 0xFF02)
    | 10 => i < 96
    | 11 => i == 0 || (0x10 ≤ i && i ≤ 0x13)
    | 12 => 1 ≤ i && i ≤ 5
    | _ => false

/-- SITE of a frame is sound (R67). -/
def BrdFrame.siteOk (f : BrdFrame) : Bool :=
  let x := Site.unpack f.site
  siteValid f.site && x.within (Site.unpack f.root)
  && (match f.fkind with
      | 1 => x.depth == 5
          && (List.range f.items).all (fun i => macroWords x.d x.c x.t x.m ≤ x.w + i || configurable f.kind x.m (x.w + i))
      | 2 => x.depth == 4 && x.m == 0 && (List.range f.items).all (fun i => configurable f.kind 0 (f.item i % 2 ^ 32))
      | 3 => x.depth == 1
      | _ => true)

/-- The form of a frame is sound (R63, R64, R67). -/
def BrdFrame.formOk (f : BrdFrame) : Bool :=
  let x := Site.unpack f.site
  1 ≤ f.fkind && f.fkind ≤ 3 && (f.fkind == 3) == (f.kind == 13)
  && 1 ≤ f.count && f.count ≤ (if f.fkind = 3 then 8 else 16)
  && (f.fkind != 1 || x.w + f.count ≤ macroWords x.d x.c x.t x.m)
  && allZero ((f.raw.drop 10).take 2) && allZero (((f.raw.take 140).drop (12 + f.size * f.count)))

/-- The first frame that fails a test. -/
def BrdImage.frameFail (m : BrdImage) (detail : Nat) (ok : BrdFrame → Bool) : Option BrdFail :=
  match m.frames.find? (fun f => !ok f) with
  | some f => some (detail, f.sec, f.site)
  | none => none

/-- The first frame that writes what an earlier item has written. -/
def BrdImage.doubleWrite (m : BrdImage) : Option BrdFail :=
  (m.frames.foldl
    (fun (p : Option BrdFail × List Nat) f =>
      f.writes.foldl
        (fun (q : Option BrdFail × List Nat) w =>
          if q.1.isNone && q.2.contains w.1 then (some (0x0A, f.sec, f.site), q.2) else (q.1, w.1 :: q.2)) p)
    (none, [])).1

/-- The kind of a fabric tile that may be substituted: 1 DSP, 2 decoder, 3 channelizer; 0 for any other (R69). -/
def fabricKind (site : Nat) : Nat :=
  let x := Site.unpack site
  if !siteValid site || x.depth != 3 || x.d != 1 || 4 ≤ x.c then 0
  else if x.t ≤ 9 then 1 else if x.t ≤ 13 then 2 else if x.t ≤ 15 then 3 else 0

/-- Every substitution of an image. -/
def BrdImage.pairs (m : BrdImage) : List (Nat × Nat) := (m.frames.map BrdFrame.pairs).flatten

/-- Substitutions follow R69. -/
def BrdImage.substOk (m : BrdImage) (f : BrdFrame) : Bool :=
  f.pairs.all (fun p =>
    fabricKind p.1 != 0 && fabricKind p.1 == fabricKind p.2
    && !m.pairs.any (fun q => q.1 == p.2)
    && (m.pairs.filter (fun q => q.2 == p.2)).length == 1
    && (m.pairs.filter (fun q => q.1 == p.1)).length == 1
    && !m.sects.any (fun x => x.root == p.2))

/-- The tiles of a set of substitutions, as `32 * cluster + tile`. -/
def substTiles (l : List (Nat × Nat)) : List (Nat × Nat) :=
  let tile (n : Nat) : Nat := 32 * (Site.unpack n).c + (Site.unpack n).t
  l.foldl (fun m p => Sparse.insert m (tile p.1) (tile p.2)) []

/-- The Board after an image (R68): a full image replaces everything, a partial one the subtrees of its sections. -/
def BrdImage.merge (m : BrdImage) (part : Bool) (running : List (Nat × Nat)) : List (Nat × Nat) :=
  let covered (key : Nat) : Bool :=
    m.sects.any (fun x =>
      let r := Site.unpack x.root
      cfgKey r.d r.c r.t 0 0 ≤ key && key < cfgKey r.d r.c (r.t + 1) 0 0)
  let base := if part then running.filter (fun p => !covered p.1) else []
  m.frames.foldl (fun l f => f.writes.foldl (fun l w => Sparse.insert l w.1 w.2) l) base

end Sys2Proof.Machine
end

