-- ==== Sys2Proof/Machine/BoardCheck.lean ====
section
/-!
DEFINITION. The rules that owning chapters set for a Board: CONSISTENCY (R28, R123, R210, R217, R227, R236, R294, R509,
R524, R533, R545, R557).
-/

namespace Sys2Proof.Machine

/-! ## The capture plan (R196-R198, R208-R210, R217, R227) -/

/-- BAND of a channelizer tile `k`, tiles 1:c:14 and 1:c:15 in turn. -/
def State.chzBand (s : State) (k : Nat) : Nat := s.cfg (k / 2) (14 + k % 2) 0 0

/-- The slices a channelizer tile defines. -/
def State.chzSlices (s : State) (k : Nat) : List Nat :=
  ((List.range 40).map (fun i => s.cfg (k / 2) (14 + k % 2) 1 i)).filter (fun w => bitAt w 63)

/-- Width code of a slice word. -/
def sliceWidth (w : Nat) : Nat := bitsOf w 51 4
/-- MODEA and MODEB where they name a mode. -/
def sliceModes (w : Nat) : List Nat := [bitsOf w 43 8, bitsOf w 35 8].filter (· != 0)

/-- The mode may be received on the chain of a band. -/
def modeRx (m band : Nat) : Bool := modeExists m && !modeWake m && modeOnChain m band

/-- A slice word names what exists, and lies within the span and its chain's range (R197, R198, R210, R217). -/
def State.sliceOk (s : State) (b w : Nat) : Bool :=
  let code := sliceWidth w
  let half : Int := widthHz code / 2
  let off : Int := 5 * signedOf 25 (bitsOf w 0 25)
  let mid : Int := 5 * (bitsOf (s.capPlan b) 0 30 : Int) + off
  let span : Int := if b = 0 then 16000000 else 42000000
  1 ≤ code && code ≤ 10 && bitsOf w 55 8 < 160 && bitsOf w 25 6 == 0
  && decide (-span ≤ off - half ∧ off + half ≤ span)
  && decide ((if b = 0 then (150000000 : Int) else 2360000000) ≤ mid - half
      ∧ mid + half ≤ (if b = 0 then (1000000000 : Int) else 2500000000))
  && (sliceModes w).all (fun m => modeRx m b && modeWidth m ≤ code)

/-- MODEENT words that name a mode. -/
def State.modeEnts (s : State) : List Nat :=
  ((List.range 16).map (fun i => s.cfg 7 22 0 (0x40 + i))).filter (fun w => bitsOf w 24 8 != 0)

/-- A channelizer tile follows R196, R197 and rules 1 to 4 of R210. -/
def State.chzOk (s : State) (k : Nat) : Bool :=
  let b := s.chzBand k
  let l := s.chzSlices k
  if b = 0xFF then l.isEmpty
  else
    b < 2 && s.planEn b && l.all (s.sliceOk b)
    && (l.map (fun w => 4 * widthHz (sliceWidth w))).foldl (· + ·) 0 ≤ 128000000

/-- The wide contexts of a band. -/
def State.wideCtx (s : State) (b : Nat) : List Nat :=
  allCtx.filter (fun n => s.ctxWide n && bitsOf (s.ctxCfg n) 0 1 == b)

/-- The slices of a band follow rules 2, 5 and 6 of R210, and R227. -/
def State.bandOk (s : State) (b : Nat) : Bool :=
  let l := s.sliceWords b
  let num (w : Nat) : Nat := bitsOf w 55 8
  l.all (fun w =>
    (l.filter (fun v => num v == num w)).length == 1
    && (sliceModes w).all (fun m =>
        s.modeEnts.any (fun e => bitsOf e 24 8 == m)
        && (s.wideCtx b).any (fun n => s.ctxPool n (num w) && s.ctxModes n m))
    && ((sliceModes w).all (fun m => !modeLr m)
        || (s.wideCtx b).all (fun n => !s.ctxPool n (num w)
            || [0x50, 0x51, 0x52, 0x53].all (fun m => !s.ctxModes n m || modeWidth m ≤ sliceWidth w))))

/-- Settings of DEMOD sections: reserved bits, modes, and POOL bits, which name slices (R208, R210 rule 7, R217). -/
def State.demodOk (s : State) (n : Nat) : Bool :=
  let b := bitsOf (s.ctxCfg n) 0 1
  let other := bitsOf (s.dspCfg n (0x10 + (1 - n % 2))) 0 1
  s.ctxCfg n % 2 ^ 31 < 2
  && (List.range 4).all (fun i =>
      let m := bitsOf (s.dspCfg n 0) (8 * i) 8
      m == 0 || modeRx m b || modeRx m other)
  && (List.range 160).all (fun k => !s.ctxPool n k || (s.slice b k).isSome)

/-- NARROW of a chain names a context and a decoder tile (R28, R209, R210 rule 9, R236 rule 3). -/
def State.narrowOk (s : State) (c : Chain) : Bool :=
  let w := s.narrow c
  let t := bitsOf w 0 4
  w < 2 ^ 23 && bitsOf w 4 4 == 0 && bitsOf w 10 6 == 0 && s.narrowCtx c < 80 && 10 ≤ t && t ≤ 13
  && !s.ctxWide (s.narrowCtx c)
  && s.cfg (bitsOf w 8 2) t 0 0 == 0xFF && s.cfg (bitsOf w 8 2) t 0 1 == 0x1F

/-- The other settings of the FABCTL section (R209, R210 rules 5, 8, 10). -/
def State.fabctlOk (s : State) : Bool :=
  let stamps := (List.range 24).map (fun u => s.cfg 7 22 0 (0x20 + u))
  let used := (stamps.filter (fun w => bitAt w 7)).map (fun w => bitsOf w 0 7)
  let codes := s.modeEnts.map (fun w => bitsOf w 24 8)
  [0, 1].all (fun b => !bitAt (s.capPlan b) 30)
  && stamps.all (fun w => w < 256 && (!bitAt w 7 || bitsOf w 0 7 < 80))
  && used.all (fun n => (used.filter (· == n)).length == 1)
  && codes.all (fun m => modeExists m && !modeWake m && (codes.filter (· == m)).length == 1)
  && (List.range 16).all (fun i => bitsOf (s.cfg 7 22 0 (0x40 + i)) 5 10 == 0)
  && s.cfg 7 22 0 0x60 < 2
  && !(s.planEn 1 && bitsOf (s.powerDef 3) 12 2 == 3)

/-! ## Decoders (R235, R236) -/

/-- POOL and CODESET of every decoder tile. -/
def State.decTiles (s : State) : List (Nat × Nat × Nat) :=
  (List.range 16).map (fun i => (bitsOf (s.decPool i) 0 8, bitsOf (s.decPool i) 8 2, s.decCodes i))

/-- Rules 1, 2, 4 and 5 of R236. -/
def State.decodersOk (s : State) : Bool :=
  let l := s.decTiles
  let pooled := l.filter (fun x => x.1 != 0xFF)
  let serves (b : Nat) (x : Nat × Nat × Nat) : Bool := bitAt x.2.1 b
  (List.range 16).all (fun i => s.decPool i < 1024 && s.decCodes i < 32)
  && pooled.all (fun x => x.1 < 4)
  && pooled.all (fun x => pooled.all (fun y =>
      if x.1 = y.1 then x == y else x.2.1 &&& y.2.1 == 0 || x.2.2 &&& y.2.2 == 0))
  && [0, 1].all (fun b =>
      !s.planEn b
      || (let modes := ((s.sliceWords b).map sliceModes).flatten
          (!modes.any modeLr || pooled.any (fun x => serves b x && x.2.2 % 16 == 15))
          && (modes.all modeLr || pooled.any (fun x => serves b x && bitAt x.2.2 4))))
  && pooled.all (fun x =>
      let wide := ([0, 1].filter (fun b => serves b x)).map (fun b => (s.wideCtx b).length)
      wide.foldl (· + ·) 0 ≤ 20 * (pooled.filter (fun y => y.1 == x.1)).length)

/-! ## Power and clock defaults (R123) -/

/-- Fabric tiles that the Board binds to a narrow path or a capture plan, as cluster and tile. -/
def State.boundTiles (s : State) : List (Nat × Nat) :=
  ([Chain.s, Chain.t].map (fun c =>
    [(ctxCluster (s.narrowCtx c), s.narrowCtx c % 20 / 2), (bitsOf (s.narrow c) 8 2, bitsOf (s.narrow c) 0 4)])).flatten
  ++ ([0, 1].filter s.planEn |>.map (fun b =>
      (s.wideCtx b).map (fun n => (ctxCluster n, n % 20 / 2))
      ++ ((List.range 8).filter (fun k => s.chzBand k == b)).map (fun k => (k / 2, 14 + k % 2))
      ++ ((List.range 16).filter (fun i => bitsOf (s.decPool i) 0 8 != 0xFF && bitAt (s.decPool i) (8 + b))).map
          (fun i => (i / 4, 10 + i % 4)))).flatten

/-- CLOCKDEF and POWERDEF (R123). -/
def State.defaultsOk (s : State) : Bool :=
  (List.range 5).all (fun i => let w := s.powerDef (1 + i); w &&& 0xCCF1 == 0 && w < 2 ^ 16)
  && (List.range 4).all (fun n => s.cfg 7 24 0 (0x10 + n) < 2 ^ 24)
  && s.boundTiles.all (fun p =>
      !bitAt (s.cfg 7 24 0 (0x10 + p.1)) p.2
      && (List.range 5).all (fun i => !(1 ≤ p.1 && bitAt (s.powerDef (1 + i)) p.1)))

/-! ## Tenants (R293, R294) -/

/-- TCFG, CAP, QCFG and LATTGT of a tenant. -/
def State.tenantSet (s : State) (t : Nat) : Nat × Nat × Nat × Nat :=
  (s.cfg 7 2 0 t, s.cfg 7 2 0 (0x10 + t), s.cfg 7 2 0 (0x20 + t), s.cfg 7 2 0 (0x30 + t))

/-- Reserved bits of a tenant's settings (R293). -/
def tenantBits (x : Nat × Nat × Nat × Nat) : Bool :=
  !bitAt x.1 27 && bitsOf x.1 11 5 == 0 && bitsOf x.1 16 11 ≤ 1024 && bitsOf x.1 0 11 ≤ 1024
  && x.2.1 < 2 ^ 24 && bitsOf x.2.2.1 12 12 == 0 && bitsOf x.2.2.1 0 12 ≤ 2048 && x.2.2.2 < 2 ^ 16

/-- The TENANT section (R294). -/
def State.tenantsOk (s : State) : Bool :=
  let all := (List.range 8).map s.tenantSet
  let live := all.filter (fun x => bitAt x.1 31)
  let q := s.cfg 7 2 0 0x40
  let sum (f : Nat × Nat × Nat × Nat → Nat) (l : List (Nat × Nat × Nat × Nat)) : Nat := (l.map f).foldl (· + ·) 0
  all.all tenantBits && bitAt (s.tenantSet 0).1 31
  && sum (fun x => bitsOf x.1 16 11) all ≤ 1024
  && live.all (fun x => 1 ≤ bitsOf x.2.2.1 24 8 && 1 ≤ bitsOf x.2.2.1 0 12)
  && sum (fun x => bitsOf x.2.2.1 0 12) all ≤ 2048
  && all.all (fun x => bitAt x.1 31 || x == (0, 0, 0, 0))
  && 50 ≤ q && q ≤ 10000
  && [28, 29].all (fun e => (all.filter (fun x => bitAt x.1 e)).length ≤ 1)
  && (List.range 8).all (fun t =>
      let x := s.tenantSet t
      let others := ((List.range 8).filter (fun j => j != t && bitAt (s.tenantSet j).1 31)).map s.tenantSet
      !(bitAt x.1 31 && (bitAt x.1 28 || bitAt x.1 29))
      || (others.all (fun y => y.2.1 != 0)
          && (x.2.2.2 == 0 || (others.map (fun y => y.2.1)).foldl max 0 + q + 200 ≤ 1000 * x.2.2.2)))

/-! ## Events (R520, R524, R532, R533) -/

/-- A producer code that a main channel may name (R520). -/
def mainCode (p : Nat) : Bool :=
  p ≤ 0x60 || (0x80 ≤ p && p ≤ 0xF2) || (0x100 ≤ p && p < 0x180)

/-- A producer code that an always-on channel may name (R520). -/
def aonCode (p : Nat) : Bool := p ≤ 0x60 || (0x1C0 ≤ p && p ≤ 0x1C7) || (0x200 ≤ p && p < 0x300)

/-- The EVENT section's settings (R532, R533). -/
def State.eventOk (s : State) : Bool :=
  (List.range 256).all (fun m => let w := s.chCfg m; bitsOf w 10 13 == 0 && bitsOf w 28 3 == 0 && mainCode (bitsOf w 0 10))
  && (List.range 32).all (fun k => let w := s.cellCfg k; bitsOf w 16 12 == 0 && !(bitAt w 30 && bitsOf w 8 8 != 0))
  && (List.range 16).all (fun g => let w := s.grpCfg g; bitsOf w 16 8 == 0 && bitsOf w 26 5 == 0)
  && (List.range 64).all (fun t => bitsOf (s.cfg 7 9 0 (0x160 + t)) 8 23 == 0)

/-- The EVENTAON section's settings (R533). -/
def State.eventAonOk (s : State) : Bool :=
  (List.range 64).all (fun a =>
    let w := s.aonCfg a
    bitsOf w 10 6 == 0 && bitsOf w 22 7 == 0 && aonCode (bitsOf w 0 10))

/-- What a node of the fabric takes its level from without a REG cell between: main channels 0-255, cells 256-287,
always-on channels 288-351 (R524). -/
def State.evPreds (s : State) (x : Nat) : List Nat :=
  if x < 256 then
    let p := bitsOf (s.chCfg x) 0 10
    if !bitAt (s.chCfg x) 31 then []
    else if 0x100 ≤ p && p < 0x120 then [256 + (p - 0x100)]
    else if 0x120 ≤ p && p < 0x160 then [288 + (p - 0x120)]
    else []
  else if x < 288 then
    let w := s.cellCfg (x - 256)
    if bitAt w 31 && !bitAt w 30 then (List.range 4).map (s.cellIn (x - 256)) else []
  else
    let w := s.aonCfg (x - 288)
    let p := bitsOf w 0 10
    if !bitAt w 31 then []
    else (if 0x200 ≤ p then [p - 0x200] else []) ++ (if bitAt w 29 then [288 + bitsOf w 16 6] else [])

/-- Drop, again and again, the nodes that take their level from no node left. -/
def peel (preds : Nat → List Nat) (fuel : Nat) (l : List Nat) : List Nat :=
  match fuel with
  | 0 => l
  | fuel + 1 =>
    let k := l.filter (fun x => (preds x).any l.contains)
    if k.length = l.length then l else peel preds fuel k

/-- EVENT and EVENTAON together form no loop without a REG cell (R524). -/
def State.noLoop (s : State) : Bool := (peel s.evPreds 352 (List.range 352)).isEmpty

/-! ## Interrupts, timers and pads (R509, R521, R545, R555-R557) -/

/-- A routing setting (R509). -/
def irqRouteOk (w : Nat) : Bool := w < 2 ^ 19 && bitsOf w 16 3 ≤ 4 && bitsOf w 10 6 == 0 && bitsOf w 4 4 == 0

/-- A channel reference is not reserved (R521). -/
def chRefOk (r : Nat) : Bool := r < 320 || r == 511

/-- The TIMER section (R545). -/
def State.timerOk (s : State) : Bool :=
  (List.range 96).all (fun n => s.cfg 7 11 0 n % 2 ^ 30 == 0)
  && (List.range 32).all (fun c =>
      let w := s.cfg 7 11 0 (0x200 + c)
      bitsOf w 11 20 == 0 && bitsOf w 9 2 != 3 && chRefOk (bitsOf w 0 9))
  && (List.range 16).all (fun p =>
      let w := s.cfg 7 11 0 (0x300 + p)
      bitsOf w 11 5 == 0 && bitsOf w 27 4 == 0 && bitsOf w 9 2 != 3 && bitsOf w 25 2 != 3
      && chRefOk (bitsOf w 0 9) && chRefOk (bitsOf w 16 9))

/-- A pad function is assigned (R556). -/
def padFuncOk (f : Nat) : Bool :=
  f ≤ 0x0D || (0x10 ≤ f && f ≤ 0x17) || (0x20 ≤ f && f ≤ 0x27) || (0x28 ≤ f && f < 0x48)

/-- The PADS section (R557). -/
def State.padsOk (s : State) : Bool :=
  let l := (List.range 96).map (fun n => s.cfg 7 20 0 n)
  let f (w : Nat) : Nat := bitsOf w 24 8
  l.all (fun w => bitsOf w 0 16 == 0 && bitsOf w 22 2 == 0 && bitsOf w 16 2 != 3 && padFuncOk (f w)
    && (f w == 0 || (l.filter (fun v => f v == f w)).length == 1))

/-! ## The whole (R67) -/

/-- The index of an image's section of a kind. -/
def BrdImage.sectOf (m : BrdImage) (kind : Nat) : Option Nat := (m.sects.find? (fun x => x.kind == kind)).map BrdSect.idx

/-- The rules that one section can break; the others span sections. `c` is the state with the image's Board. -/
def BrdImage.consistency (m : BrdImage) (c : State) : Option BrdFail :=
  let own : List (Nat × (State → Bool)) :=
    [(5, State.tenantsOk), (6, State.eventOk), (7, State.eventAonOk),
     (8, fun c => (List.range 1024).all (fun i => irqRouteOk (c.irqRoute i))), (9, State.timerOk), (10, State.padsOk)]
  match own.find? (fun p => (m.sectOf p.1).isSome && !p.2 c) with
  | some p => some (0x0B, (m.sectOf p.1).getD 0xFF, 0)
  | none =>
    if (List.range 8).all c.chzOk && c.bandOk 0 && c.bandOk 1 && allCtx.all c.demodOk && c.narrowOk .s && c.narrowOk .t
        && c.fabctlOk && c.decodersOk && c.defaultsOk && c.noLoop
    then none
    else failAt 0x0B

/-- The state with an image's Board in place of the running one, for the rules. -/
def BrdImage.candidate (m : BrdImage) (s : State) (part : Bool) : State := { s with board := m.merge part s.board }

/-- A partial image follows the running Board, and a full one follows none (R70). -/
def BrdImage.chains (m : BrdImage) (s : State) (part : Bool) : Bool :=
  if headPartial m.head != part then false
  else if part then
    headLayout m.head == s.regN A.brdLayout && headBase m.head == s.regN A.brdGen && headBase m.head < headGen m.head
  else headBase m.head == 0

/-- The checks of R67 past the signature, in their order. -/
def BrdImage.check (m : BrdImage) (s : State) (part : Bool) : Option BrdFail :=
  m.sectCheck
  <|> m.frameFail 0x07 (fun f => leAt f.raw 140 4 == crc32c (f.raw.take 140))
  <|> m.frameFail 0x08 BrdFrame.siteOk
  <|> m.frameFail 0x09 BrdFrame.formOk
  <|> m.doubleWrite
  <|> m.frameFail 0x0E m.substOk
  <|> m.consistency (m.candidate s part)
  <|> (if m.chains s part then none else failAt 0x0C)
  <|> (match m.sects.find? (fun x => part && 11 ≤ x.kind) with
       | some x => some (0x0D, x.idx, 0)
       | none => none)

/-- R67 for a slot, as a full or a partial image: the first failure. -/
def State.brdCheck (s : State) (k : Nat) (part : Bool) : Option BrdFail :=
  match s.brdHeadCheck k with
  | some x => some x
  | none => if s.brdSigned k then (s.brdImage k).check s part else failAt 0x05

end Sys2Proof.Machine
end

