-- ==== Sys2Proof/Machine/Board.lean ====
section
/-!
DEFINITION. Loading a Board (R68-R76, R94), partial swaps (R77-R91, R95-R99, R101), and the Board host commands (R100).
-/

namespace Sys2Proof.Machine

/-! ## Results (R94) -/

/-- A load, verification or staging ends: LOADSTAT and LOADSITE (R94, R99). -/
def State.loadResult (s : State) (r : Option BrdFail) : State :=
  let (st, sec, det, site) : Status × Nat × Nat × Nat :=
    match r with
    | none => (.ok, 0, 0, 0)
    | some (d, sec, site) => (.badImage, sec, d, site)
  let s := s.setRegN A.brdLoadstat (st.code * 65536 + sec * 256 + det)
  let s := (s.setRegN A.brdLoadsite0 (site % 2 ^ 32)).setRegN A.brdLoadsite1 (site / 2 ^ 32)
  if r.isSome then s.raise F.brdIntstatLoadfail else s

/-! ## Timers (R82, R545) -/

/-- A compare channel takes its section's values; CMP counts from now (R545). -/
def State.loadCompare (s : State) (n : Nat) : State :=
  let w := s.cfg 7 11 0 n
  let s := s.setCmp n (s.tb.now + s.cfg 7 11 0 (0x80 + n))
  let s := s.setRegN (A.tmbCmpint n) (s.cfg 7 11 0 (0x100 + n))
  let s := (s.setRegN (A.tmbCmpctl n) 0).clearBit (A.tmbCmpflag (n / 32)) (n % 32)
  (s.setFld (F.tmbCmpctlEn n) (bitsOf w 31 1)).setFld (F.tmbCmpctlAuto n) (bitsOf w 30 1)

/-- The pulse units take their section's enables. -/
def State.loadPulse (s : State) : State :=
  (List.range 16).foldl
    (fun s p => if bitAt (s.cfg 7 11 0 (0x300 + p)) 31 then s.raise (F.tmbPmctlEn p) else s.pmDisable p) s

/-- Step 3 of a window that replaces the TIMER section: channels in flight are carried or reset (R82). -/
def State.swapTimers (s : State) (w : SwapState) : State :=
  let s := ((s.setRegN A.brdTmrrst0 0).setRegN A.brdTmrrst1 0).setRegN A.brdTmrrst2 0
  if !w.sections.any (fun p => p.2 == 9) then s
  else
    let s := (List.range 96).foldl
      (fun s n =>
        let flying := s.flag (F.tmbCmpctlEn n)
        if flying && w.carries n then s.setFld (F.tmbCmpctlAuto n) (bitsOf (s.cfg 7 11 0 n) 30 1)
        else
          let s := if flying then s.setBit (A.brdTmrrst0 + 4 * (n / 32)) (n % 32) else s
          s.loadCompare n) s
    s.loadPulse

/-! ## Full loads (R68, R73, R74, R76) -/

/-- The Board comes into force as a whole: timers, event routes, contexts, soft-combining buffers and the spread default
start from it (R68, R76, R87, R123). -/
def State.loadWhole (s : State) : State :=
  let s := { s with tb := { s.tb with cmpStage := [], cmpLatch := [], caps := [], pms := [] } }
  let s := (List.range 96).foldl (fun s n => s.loadCompare n) s
  let s := (List.range 32).foldl (fun s c => s.setRegN (A.tmbCapstat c) 0) s
  let s := (List.range 16).foldl (fun s p => s.setRegN (A.tmbPmstat p) 0) s
  let s := (s.setEvf { s.evf with inputs := [] }).loadPulse
  let s := s.evRestart.aonRestart
  let s := s.settleCtx (s.mode == 3) s.profile
  let s := (List.range 16).foldl (fun s i => s.clearSlots i) s
  (s.setRegN A.clkSpread (s.cfg 7 24 0 0)).setFld F.brdSourceRunswaps 0

/-- The ROM Board (R74): narrow bindings, their decoder tiles, tenant T0. -/
def romBoard : List (Nat × Nat) :=
  [(cfgKey 1 0 10 0 1, 0x1F), (cfgKey 1 0 11 0 1, 0x1F),
   (cfgKey 1 7 2 0 0, 2 ^ 31 + 1024 * 2 ^ 16 + 1024), (cfgKey 1 7 2 0 0x20, 2 ^ 24 + 2048),
   (cfgKey 1 7 22 0 0x10, 10), (cfgKey 1 7 22 0 0x11, 2 ^ 16 + 11)]

/-- BRD.SOURCE with the slots of a Board: full, PART1, PART2; 15 for none (R93). -/
def State.setSource (s : State) (full p1 p2 : Nat) : State := s.setRegN A.brdSource (full + 16 * p1 + 256 * p2)

/-- Put the ROM Board in place (R74, R94). -/
def State.placeRom (s : State) : State :=
  let s := { s with board := romBoard, subst := [], brd := { s.brd with keyId := none } }
  ((s.setRegN A.brdLayout 0).setRegN A.brdGen 0).setSource 8 15 15

/-- Put a checked image in place: a full one with its substitutions, or a partial one over the running Board
(R68-R70). -/
def State.placeImage (s : State) (k : Nat) (part : Bool) : State :=
  let m := s.brdImage k
  let s := { s with board := m.merge part s.board }
  if part then s.setRegN A.brdGen (headGen m.head)
  else
    let s := { s with subst := substTiles m.pairs, brd := { s.brd with keyId := some (byteAt m.head 13) } }
    ((s.setRegN A.brdLayout (headLayout m.head)).setRegN A.brdGen (headGen m.head)).setSource k 15 15

/-- One step of the boot list (R73): the slot is checked and, where sound, put in place; its result is recorded. -/
def State.bootStep (s : State) (pos k : Nat) (part : Bool) : Bool × State :=
  let r := s.brdCheck k part
  let pair : Nat × Nat := match r with | none => (0, 0) | some (d, _) => (Status.badImage.code, d)
  let l := (s.brd.bootResults.take pos) ++ pair :: s.brd.bootResults.drop (pos + 1)
  let s := { s with brd := { s.brd with bootResults := l } }
  match r with
  | some _ => (false, s.loadResult r)
  | none => (true, s.placeImage k part)

/-- R73: the boot list builds the Board. A slot that is not attempted reports OK with detail 0xFF. -/
def State.buildBoard (s : State) (list : Nat) : State :=
  let b (i : Nat) : Nat := bitsOf list (8 * i) 8
  let s := { s with brd := { s.brd with bootResults := List.replicate 4 (0, 0xFF) } }
  let s := s.loadResult none
  let (ok, s) := s.bootStep 0 (b 0) false
  let s :=
    if ok then
      if b 1 = 0xFF then s
      else
        let (ok1, s) := s.bootStep 1 (b 1) true
        if !ok1 then s
        else
          let s := s.setFld F.brdSourcePart1 (b 1)
          if b 2 = 0xFF then s
          else
            let (ok2, s) := s.bootStep 2 (b 2) true
            if ok2 then s.setFld F.brdSourcePart2 (b 2) else s
    else if b 3 = 0xFF then s.placeRom
    else
      let (ok3, s) := s.bootStep 3 (b 3) false
      if ok3 then s else s.placeRom
  s.loadWhole

/-- Some step of the boot list failed. -/
def State.bootListFailed (s : State) : Bool := s.brd.bootResults.any (fun p => p.1 != 0)

/-- The BOARD_FALLBACK payload (R73). -/
def State.fallbackPayload (s : State) : List Byte :=
  (s.brd.bootResults.map (fun p => leBytes 2 p.1 ++ [Byte.ofN p.2, 0])).flatten

/-! ## Swap requests (R77, R78, R90, R95) -/

/-- The boot list in the Defaults Image now. -/
def State.bootList (s : State) : Nat := bootListOf s.dfiNow

/-- Submit a swap (R78): the first code that applies; PENDING starts STAGING. -/
def State.submitSwap (s : State) (k : Nat) (persist : Bool) (round : Nat) : Status × State :=
  if 3 < k then (.reservedValue, s)
  else if s.mode = 0 || s.mode = 5 || s.pw.trans.isSome || s.brd.reload.isSome
      || (persist && bitsOf s.bootList 16 8 != 0xFF) then (.notPermitted, s)
  else if s.brd.swap.isSome then (.busy, s)
  else
    let s := { s with brd := { s.brd with
      swap := some { slot := k, persist := persist, round := round }, locked := [k] } }
    (.pending, s.setRegN A.brdSwapstat (Status.pending.code * 65536 + 1))

/-- An abort request (R90); a waiting mode request starts once the swap has ended. -/
def State.abortSwap (s : State) : State := if s.swapStoppable then (s.endSwap .cancelled).startWaiting else s

/-- A write to SWAPCTL (R95): ABORT wins over START. -/
def State.writeSwapctl (s : State) (w : Word) : State :=
  let s := s.writeReg A.brdSwapctl w
  if bitAt w.toNat 31 then s.abortSwap
  else if bitAt w.toNat 30 then
    (s.submitSwap (bitsOf w.toNat 0 2) (bitAt w.toNat 8) (s.regN A.brdSwapround)).2
  else s

/-- SWAPCTL_START (R95). -/
def execSwapctlStart (user : Bool) (w : Word) (s : State) : Out := guarded user s (if s.comUp then s.writeSwapctl w else s)

/-- SWAPCTL_ABORT (R95). -/
def execSwapctlAbort (user : Bool) (w : Word) (s : State) : Out := guarded user s (if s.comUp then s.writeSwapctl w else s)

/-! ## Staging and the target (R77) -/

/-- DRAINLEAD in ns. -/
def State.drainLead (s : State) : Nat := s.fld F.brdSwapcfgDrainlead * 1000000

/-- The target boundary: the round asked for where it can be reached, or the first that can (R77). -/
def State.swapTarget (s : State) (round : Nat) : Nat :=
  let first := (s.ntmNs + s.drainLead + 999999999) / 1000000000
  let ahead := (round + 2 ^ 32 - s.ntmRound % 2 ^ 32) % 2 ^ 32
  if round = 0 || 2 ^ 31 ≤ ahead then first else max first (s.ntmRound + ahead)

/-- SWAP_STAGED (R77): staging has ended. -/
def execSwapStaged (s : State) : Out :=
  .next (
    match s.brd.swap with
    | none => s
    | some w =>
      if s.fld F.brdSwapstatState != 1 then s
      else
        let r := s.brdCheck w.slot true
        let s := s.loadResult r
        match r with
        | some _ => (s.endSwap .badImage).startWaiting
        | none =>
          let m := s.brdImage w.slot
          let w : SwapState := { w with
            target := s.swapTarget w.round, sections := m.sects.map (fun x => (x.root, x.kind)),
            frames := (m.frames.map BrdFrame.writes).flatten, gen := headGen m.head }
          let s := { s with brd := { s.brd with swap := some w } }
          (s.setFld F.brdSwapstatState 2).raise F.brdIntstatArmed)

/-! ## Draining (R79) -/

/-- The contexts that a section drains: those of its DSP tile, or those fed by its channelizer tile's slices. -/
def State.drainedBy (s : State) (root kind : Nat) : List Nat :=
  let x := Site.unpack root
  if kind = 2 then [20 * x.c + 2 * x.t, 20 * x.c + 2 * x.t + 1]
  else if kind = 1 then
    let k := 2 * x.c + (x.t - 14)
    let b := s.chzBand k
    (s.wideCtx b).filter (fun n => (s.chzSlices k).any (fun w => s.ctxPool n (bitsOf w 55 8)))
  else []

/-- The decoder tiles that a section drains. -/
def drainedTiles (root kind : Nat) : List Nat :=
  if kind = 3 then [4 * (Site.unpack root).c + ((Site.unpack root).t - 10)] else []

/-- SWAP_DRAIN (R77, R79): DRAINLEAD before the target boundary. -/
def execSwapDrain (s : State) : Out :=
  .next (
    match s.brd.swap with
    | none => s
    | some w =>
      if s.fld F.brdSwapstatState = 2 && w.target * 1000000000 ≤ s.ntmNs + s.drainLead then
        let l := (w.sections.map (fun p => s.drainedBy p.1 p.2)).flatten
        let d := (w.sections.map (fun p => drainedTiles p.1 p.2)).flatten
        let s := (s.setFld F.brdSwapstatState 3).drainCtx l
        { s with dec := { s.dec with draining := d } }
      else s)

/-! ## The boundary (R80-R88) -/

/-- A frame of a tenant is in the air: one of its transmissions, or a reception of its exchange (R80). -/
def State.tenantOnAir (s : State) : Bool :=
  [Chain.s, Chain.t].any (fun c =>
    let x := s.chain c
    (match x.holder with | some h => 448 ≤ h && h < 512 | none => false) && ((5 ≤ s.chState c && s.chState c ≤ 7) || s.pastSync c))

/-- An affected operation is under way (R80). -/
def State.swapAffected (s : State) (w : SwapState) : Bool :=
  s.cap.draining.any (fun n => s.ctxBusy n || (s.ctx n).busy)
  || s.dec.draining.any (fun i => !(s.decTile i).queue.isEmpty)
  || (w.sections.any (fun p => p.2 == 5) && s.tenantOnAir)
  || (w.sections.any (fun p => p.2 == 4) && s.onAir)

/-- Step 2: what the consumer inputs have latched is delivered under the old configuration (R81). -/
def State.deliverLatched (s : State) : State :=
  (List.range 65).foldl (fun s i => if (s.evInput i).req.isSome then (s.evAccept i).evAccept i else s) s

/-- Output pads whose function changes hold their levels (R81, R86). -/
def State.holdPads (s old : State) : State :=
  let l := (List.range 96).filter (fun n => bitsOf (old.padCfg n) 24 8 != bitsOf (s.padCfg n) 24 8)
  let hold (n : Nat) : Option HeldPad :=
    match old.padDrive n with
    | (some b, true) => some { pad := n, level := b, oe := true, pull := 0, slew := 0 }
    | _ => none
  { s with brd := { s.brd with padHold := l.filterMap hold } }

/-- A decoder tile keeps its buffers (R87). -/
def State.keepsBuffers (s old : State) (i : Nat) : Bool :=
  bitAt (s.cfg (i / 4) (10 + i % 4) 0 0xFF00) 0 && s.decPool i == old.decPool i && s.decCodes i == old.decCodes i

/-- Steps 3 and 4: timers are carried or reset, and the staged sections become the active configuration (R81, R82,
R86, R87). -/
def State.switchBoard (s : State) (w : SwapState) : State :=
  let old := s
  let has (kind : Nat) : Bool := w.sections.any (fun p => p.2 == kind)
  let covered (key : Nat) : Bool :=
    w.sections.any (fun p =>
      let r := Site.unpack p.1
      cfgKey r.d r.c r.t 0 0 ≤ key && key < cfgKey r.d r.c (r.t + 1) 0 0)
  let s := { s with
    board := w.frames.foldl (fun (l : List (Nat × Nat)) (p : Nat × Nat) => Sparse.insert l p.1 p.2) (s.board.filter (fun p => !covered p.1)) }
  let s := s.swapTimers w
  let s := if has 10 then s.holdPads old else s
  let s := s.dec.draining.foldl (fun s i => if s.keepsBuffers old i then s else s.clearSlots i) s
  let s := if has 6 then s.evSwap else s
  if has 7 then s.aonRestart else s

/-- SWAP_BOUNDARY (R80, R81): an affected operation defers the swap, or ends it with BUSY; else the window opens and runs
to the end of step 5. -/
def execSwapBoundary (s : State) : Out :=
  .next (
    match s.brd.swap with
    | none => s
    | some w =>
      if s.fld F.brdSwapstatState != 3 || s.ntmNs < w.target * 1000000000 then s
      else if s.swapAffected w then
        let n := s.fld F.brdSwapstatDefers
        if s.fld F.brdSwapcfgMaxdefer ≤ n then (s.endSwap .busy).startWaiting
        else
          let s := (s.setFld F.brdSwapstatDefers (n + 1)).raise F.brdIntstatDefer
          { s with brd := { s.brd with swap := some { w with target := w.target + 1 } } }
      else
        let s := s.deliverLatched
        let s := { s with brd := { s.brd with
          swap := some { w with kept := s.board }, heldEdges := [], droppedEdges := [], heldTimers := [],
          windowAt := s.tb.now } }
        (s.setFld F.brdSwapstatState 4).switchBoard w)

/-! ## The end of the window (R81-R83, R91, R98, R101) -/

/-- Deliver a held edge under the configuration now in force (R83): at a consumer input, or at a producer, whose level
then follows what stands behind the edges that were dropped; a pad's interrupt source is sampled. -/
def State.deliverEdge (s : State) (det : Nat) (h : HeldEdge) : State :=
  let t : EvLatch := { tick := h.tick, lf := h.lf }
  if 4096 ≤ det then
    let (en, sense, ref) := s.evInputCfg (det - 4096)
    if en && sensePasses sense h.level then s.evLatchIn (det - 4096) ref t else s
  else
    let s := if h.pulse then s.evPulseAt det t else s.evLevelAt det h.level t
    let s := s.evQuiet det
    if 1 ≤ det && det ≤ 0x60 && !s.padHeld (det - 1) then s.irqSample (768 + det - 1) (s.padIn (det - 1)) (b2n (s.padIn (det - 1)))
    else s

/-- BRD.SOURCE after a swap (R93): the first free PART field, or the last two. -/
def State.sourceAfter (s : State) (k : Nat) : State :=
  let s := s.satCount F.brdSourceRunswaps
  if s.fld F.brdSourcePart1 = 15 then s.setFld F.brdSourcePart1 k
  else if s.fld F.brdSourcePart2 = 15 then s.setFld F.brdSourcePart2 k
  else (s.setFld F.brdSourcePart1 (s.fld F.brdSourcePart2)).setFld F.brdSourcePart2 k

/-- BRD.WINDOW and the flags of a window that closes (R98, R99). -/
def State.closeWindow (s : State) : State :=
  let edges := s.brd.heldEdges.length
  let lost := s.brd.droppedEdges.length
  let len := min 10000 (s.tb.now - s.brd.windowAt)
  let s := s.setRegN A.brdWindow (len + 2 ^ 16 * min 255 edges + 2 ^ 24 * min 255 lost)
  let s := if lost = 0 then s else s.raise F.brdIntstatEdgeovf
  if s.regN A.brdTmrrst0 + s.regN A.brdTmrrst1 + s.regN A.brdTmrrst2 = 0 then s else s.raise F.brdIntstatTmrreset

/-- The new configuration did not read back as staged: the retained one is in force again (R81). -/
def State.restoreBoard (s : State) (w : SwapState) : State :=
  let has (kind : Nat) : Bool := w.sections.any (fun p => p.2 == kind)
  let s := { s with board := w.kept }
  let s := if has 6 then s.evSwap else s
  if has 7 then s.aonRestart else s

/-- SWAP_WINDOW_CLOSE (R81): step 6, and the end of the swap. `same` says that the read-back of step 5 agreed with the
staged image; otherwise the swap ends with BAD_IMAGE. -/
def execSwapWindowClose (same : Bool) (s : State) : Out :=
  .next (
    match s.brd.swap with
    | none => s
    | some w =>
      if s.fld F.brdSwapstatState != 4 then s
      else
        let edges := s.brd.heldEdges
        let timers := s.brd.heldTimers
        let s := (s.setFld F.brdSwapstatState 0).closeWindow
        let s := { s with brd := { s.brd with heldEdges := [], heldTimers := [] } }
        let s := if same then s else s.restoreBoard w
        let s := edges.foldl (fun s p => s.deliverEdge p.1 p.2) s
        let s := timers.foldl (fun s p => s.deliverMatch p.1 p.2) s
        let s := if same then (s.setRegN A.brdGen w.gen).sourceAfter w.slot else s
        let s := ((s.endSwap (if same then .ok else .badImage)).padsFollow 0 96).settleCtx (s.mode == 3) s.profile
        let s := if same && w.persist then { s with brd := { s.brd with persisting := some w.slot } } else s
        s.startWaiting)

/-! ## The boot list (R72, R91) -/

/-- A Defaults Image that holds a set of entries, before its generation and CRC are set (R409, R410). -/
def dfiImage (l : List (Nat × Nat)) : List Byte :=
  [0x44, 0x46, 0x49, 0x31, 0, 1] ++ leBytes 2 l.length ++ leBytes 4 0 ++ leBytes 4 (32 + 8 * l.length) ++ leBytes 16 0
  ++ (l.map (fun e => leBytes 4 e.1 ++ leBytes 4 e.2)).flatten

/-- Write a boot list into the Defaults Image. -/
def State.writeBootList (s : State) (n : Nat) : Status × State :=
  s.nvWrite 0 (dfiImage (Sparse.insert s.dfiNow keyBootlist n)) 3

/-- SWAP_PERSIST_DONE (R91, R101): the slot takes the first free place in the boot list, PART1 and then PART2. -/
def execSwapPersistDone (s : State) : Out :=
  .next (
    match s.brd.persisting with
    | none => s
    | some k =>
      if s.mode = 5 then s else
      let n := s.bootList
      let n := if bitsOf n 8 8 = 0xFF then setBitsOf n 8 8 k else setBitsOf n 16 8 k
      let (st, s) := s.writeBootList n
      if st = .busy then s
      else
        let s := { s with brd := { s.brd with persisting := none } }
        if st = .ok then s.notice 0xC4 (s.swappedPayload true) else s)

/-! ## Host commands (R100) -/

/-- A slot byte followed by three reserved bytes is sound. -/
def slotArg (p : List Byte) : Bool := byteAt p 0 ≤ 3 && allZero ((p.drop 1).take 3)

/-- BOARD_WRITE's handler. -/
def handleBoardWrite : Handler := fun _ p s =>
  let off := leAt p 4 4
  let data := p.drop 8
  if !slotArg p || off % 256 != 0 || 0x100000 < off + data.length then (.now .reservedValue [], s)
  else
    let (st, s) := s.flProgram (boardSlotOff (byteAt p 0) + off) data
    (.now st [], s)

/-- BOARD_WRITE (R100). -/
def execBoardWrite (o : Origin) (p : List Byte) (s : State) : Out :=
  .next (hostCommand 0x40 (fun n => 264 ≤ n && n ≤ 3848 && (n - 8) % 256 == 0) handleBoardWrite o p s)

/-- BOARD_ERASE's handler: the response waits for the erase. -/
def handleBoardErase : Handler := fun o p s =>
  if !slotArg p then (.now .reservedValue [], s)
  else
    let (st, s) := s.flErase (boardSlotOff (byteAt p 0)) 256 (some (o, 0x41))
    if st = .pending then (.later, s) else (.now st [], s)

/-- BOARD_ERASE (R100). -/
def execBoardErase (o : Origin) (p : List Byte) (s : State) : Out :=
  .next (hostCommand 0x41 (· == 4) handleBoardErase o p s)

/-- BOARD_VERIFY's handler (R67, R94). -/
def handleBoardVerify : Handler := fun _ p s =>
  if !slotArg p then (.now .reservedValue [], s)
  else
    let k := byteAt p 0
    let h := s.brdHead k
    let r := s.brdCheck k (headPartial h)
    let h := if h.all (· == 0xFF) then leBytes 64 0 else h
    let (det, sec, site) : Nat × Nat × Nat := r.getD (0, 0, 0)
    let rest := [Byte.ofN det, Byte.ofN sec] ++ (h.drop 16).take 12 ++ (h.drop 6).take 2 ++ (h.drop 14).take 2 ++ leBytes 8 site
    (.now (if r.isSome then .badImage else .ok) rest, s.loadResult r)

/-- BOARD_VERIFY (R100). -/
def execBoardVerify (o : Origin) (p : List Byte) (s : State) : Out :=
  .next (hostCommand 0x42 (· == 4) handleBoardVerify o p s)

/-- BOARD_SWAP's handler. -/
def handleBoardSwap : Handler := fun _ p s =>
  if 1 < byteAt p 1 || !allZero ((p.drop 2).take 2) then (.now .reservedValue [], s)
  else
    let (st, s) := s.submitSwap (byteAt p 0) (byteAt p 1 == 1) (leAt p 4 4)
    (.now st [], s)

/-- BOARD_SWAP (R100). -/
def execBoardSwap (o : Origin) (p : List Byte) (s : State) : Out :=
  .next (hostCommand 0x43 (· == 8) handleBoardSwap o p s)

/-- BOARD_ABORT (R90, R100). -/
def execBoardAbort (o : Origin) (p : List Byte) (s : State) : Out :=
  .next (hostCommand 0x44 (· == 0) (fun _ _ s => (.now .ok [], s.abortSwap)) o p s)

/-- BOARD_RELOAD's handler (R76): only in KEEPER. -/
def handleBoardReload : Handler := fun o _ s =>
  if s.mode != 4 then (.now .notPermitted [], s)
  else if s.brd.reload.isSome || s.brd.swap.isSome then (.now .busy [], s)
  else (.later, { s.missRadio with brd := { s.brd with reload := some o } })

/-- BOARD_RELOAD (R76, R100). -/
def execBoardReload (o : Origin) (p : List Byte) (s : State) : Out :=
  .next (hostCommand 0x45 (· == 0) handleBoardReload o p s)

/-- FULL_RELOAD_DONE (R76): what has been latched is delivered under the old routing, then the boot list's result is in
force; the response carries LOADSTAT's status. -/
def execFullReloadDone (s : State) : Out :=
  .next (
    match s.brd.reload with
    | none => s
    | some o =>
      let s := s.deliverLatched.buildBoard s.bootList
      let s := { s with brd := { s.brd with reload := none } }
      s.respond o 0x45 (if s.bootListFailed then .badImage else .ok) [])

/-- Do the slots of a boot list verify, its partials chaining from PRIMARY (R100)? The state that is built on the way is
no result; the first failure is. -/
def State.listVerifies (s : State) (n : Nat) : Option BrdFail :=
  let b (i : Nat) : Nat := bitsOf n (8 * i) 8
  let full := s.brdCheck (b 0) false
  let s1 := s.placeImage (b 0) false
  let part1 := if b 1 = 0xFF then none else s1.brdCheck (b 1) true
  let part2 := if b 2 = 0xFF then none else (s1.placeImage (b 1) true).brdCheck (b 2) true
  let fall := if b 3 = 0xFF then none else s.brdCheck (b 3) false
  full <|> part1 <|> part2 <|> fall

/-- BOARD_BOOTLIST's handler. -/
def handleBoardBootlist : Handler := fun _ p s =>
  let n := leNat p
  if !bootListOk n then (.now .reservedValue [], s)
  else if s.mode = 5 then (.now .notPermitted [], s)
  else
    let r := s.listVerifies n
    let s := s.loadResult r
    if r.isSome then (.now .badImage [], s)
    else
      let (st, s) := s.writeBootList n
      (.now st [], s)

/-- BOARD_BOOTLIST (R72, R100). -/
def execBoardBootlist (o : Origin) (p : List Byte) (s : State) : Out :=
  .next (hostCommand 0x46 (· == 4) handleBoardBootlist o p s)

/-- BOARD_STATUS (R100). -/
def execBoardStatus (o : Origin) (p : List Byte) (s : State) : Out :=
  .next (hostCommand 0x47 (· == 0)
    (fun _ _ s => (.now .ok
      (([A.brdLayout, A.brdGen, A.brdSource, A.brdLoadstat, A.brdSwapstat, A.brdWindow].map (fun a => leBytes 4 (s.regN a))).flatten),
      s)) o p s)

end Sys2Proof.Machine
end

