-- ==== Sys2Proof/Machine/Bist.lean ====
section
/-!
DEFINITION. BIST runs and their records (R571-R574, R578, R583).
-/

namespace Sys2Proof.Machine

/-! ## The ring of BIST records (R574, R575) -/

/-- Offset of unit `u` of the BIST ring in the primary FCR area. -/
def bistOff (u : Nat) : Nat := 0x00F11000 + 256 * u

/-- The CRC of a BIST record passes. -/
def bistGood (b : List Byte) : Bool := b.take 4 == asciiBytes "BST1" && leAt b 252 4 == crc32c (b.take 252)

/-- A unit of the ring: the primary copy, or the mirror where the primary fails its CRC (R575). -/
def State.bistUnit (s : State) (u : Nat) : Option (List Byte) :=
  let a := s.flashBytes (bistOff u) 256
  let b := s.flashBytes (bistOff u + fcrMirror) 256
  if bistGood a then some a else if bistGood b then some b else none

/-- RUNSEQ of a record. -/
def bistSeq (b : List Byte) : Nat := leAt b 4 4

/-- Valid records, newest first, with their units. -/
def State.bistRecords (s : State) : List (Nat × List Byte) :=
  let l := (List.range 32).filterMap (fun u => (s.bistUnit u).map (fun b => (u, b)))
  l.foldl
    (fun m p => m.filter (fun q => bistSeq p.2 < bistSeq q.2) ++ p :: m.filter (fun q => bistSeq q.2 ≤ bistSeq p.2)) []

/-- The newest record. -/
def State.bistNewest (s : State) : Option (Nat × List Byte) := s.bistRecords.head?

/-- Start-up step 1 loads the newest record into the BST registers (R574, R583). -/
def State.loadBist (s : State) : State :=
  match s.bistNewest with
  | none => s
  | some (_, b) =>
    let s := s.setRegN A.bstStat (2 ^ 16 * leAt b 8 2 + 2 ^ 8 * byteAt b 12 + byteAt b 11)
    let s := s.setRegN A.bstRunseq (bistSeq b)
    if byteAt b 12 = 0 then s else s.raise F.bstIntstatFailed

/-- SIG0 and SIG1 as one number: the selected test's signature in the record loaded (R583). -/
def State.bistSig (s : State) : Nat :=
  match s.bistNewest with
  | none => 0
  | some (_, b) => leAt b (24 + 8 * s.fld F.bstSigselTest) 8

/-- REF0 and REF1 as one number: the selected test's reference. -/
def State.bistRef (s : State) : Nat := s.otpWord (0x200 + s.fld F.bstSigselTest)

/-! ## Starting a run (R572) -/

/-- A scheduled activation's boundary falls within 2 s. -/
def State.actWithin2s (s : State) : Bool :=
  match s.scheduledAct with
  | none => false
  | some (_, b) => actRound b == 0 || (s.flag F.ntmStatValid && actRound b * 1000000000 ≤ s.ntmNs + 2000000000)

/-- The conditions of R572. -/
def State.bistCode (s : State) (tests : Nat) (reserved : Bool) : Status :=
  if tests = 0 || reserved then .reservedValue
  else if s.mode != 4 || s.pw.trans.isSome then .notPermitted
  else if s.flcHeld || s.brd.swap.isSome || s.brd.reload.isSome || s.actWithin2s then .busy
  else .ok

/-- Steps 1 and 2 of a run (R572): the journal is committed, the host link closes, the cores are held and the watchdog is
paused. -/
def State.startBist (s : State) (tests : Nat) : State :=
  let s := s.jrnFlush
  { s with
    pip := []
    pw := { s.pw with boot := .bist, watchdogPaused := true }
    fcr := { s.fcr with bist := some { tests := tests, tmb := s.tb.now } } }

/-- BIST_RUN's handler. -/
def handleBistRun : Handler := fun _ p s =>
  let st := s.bistCode (byteAt p 0) (!allZero (p.drop 1))
  if st = .ok then (.now .ok [], s.startBist (byteAt p 0)) else (.now st [], s)

/-- BIST_RUN (R572, R578). -/
def execBistRun (o : Origin) (p : List Byte) (s : State) : Out := .next (hostCommand 0x60 (· == 4) handleBistRun o p s)

/-- A write to `BST.CTL` (R572). -/
def State.writeBstCtl (s : State) (w : Word) : State :=
  let tests := bitsOf w.toNat 0 8
  if s.comUp && s.running && bitAt w.toNat 31 && s.bistCode tests (bitsOf w.toNat 8 23 != 0) = .ok then s.startBist tests
  else s

/-- BIST_GO (R572). -/
def execBistGo (user : Bool) (w : Word) (s : State) : Out := guarded user s (s.writeBstCtl w)

/-! ## The end of a run (R572-R574) -/

/-- The signature of a test among those that ended. -/
def sigOf (sigs : List (Nat × Nat)) (t : Nat) : Option Nat := (sigs.find? (fun p => p.1 == t)).map Prod.snd

/-- A map of the tests that satisfy a condition. -/
def testMap (p : Nat → Bool) : Nat := (List.range 8).foldl (fun n t => n + b2n (p t) * 2 ^ t) 0

/-- The BIST record (R574). -/
def State.bistRecord (s : State) (b : BistRun) (seq : Nat) (sigs : List (Nat × Nat)) (sites : List Nat) : List Byte :=
  let ran (t : Nat) : Bool := (sigOf sigs t).isSome
  let good (t : Nat) : Bool := sigOf sigs t == some (s.otpWord (0x200 + t))
  let l := sites.take 16
  let body := asciiBytes "BST1" ++ leBytes 4 seq ++ leBytes 2 b.result.code
    ++ [Byte.ofN (testMap ran), Byte.ofN (testMap (fun t => ran t && good t)), Byte.ofN (testMap (fun t => ran t && !good t)),
        Byte.ofN l.length, 0, 0]
    ++ leBytes 8 b.tmb ++ ((List.range 8).map (fun t => leBytes 8 ((sigOf sigs t).getD 0))).flatten
    ++ fixLen 128 ((l.map (leBytes 8)).flatten) ++ List.replicate 36 0xFF
  body ++ leBytes 4 (crc32c body)

/-- Program a record into the next unit of the ring, in both planes; a sector that the ring enters is erased first. -/
def State.putBist (s : State) (rec : List Byte) : State :=
  let u := match s.bistNewest with | some (u, _) => (u + 1) % 32 | none => 0
  let sector (off : Nat) (s : State) : State :=
    if u % 16 = 0 && !s.erasedRange off 4096 then s.eraseCounted (off / 4096) 1 else s
  let s := sector (bistOff u + fcrMirror) (sector (bistOff u) s)
  (s.program (bistOff u) rec).program (bistOff u + fcrMirror) rec

/-- What the memory tests leave undefined (R571): main SRAM by test 5, the link context RAM by test 6. -/
def State.bistMemories (s : State) (began : Nat → Bool) : State :=
  let s := if began 5 then
      [2, 3, 4, 5].foldl (fun s d => s.bumpEpoch d) (s.loseRam (fun a => region a == Region.mainSram)) else s
  if began 6 then { (s.loseRam (fun a => region a == Region.context)).bumpEpoch Domain.com.idx with ctxGen := none } else s

/-- BIST_DONE (R572-R574, R576): the tests end with their signatures, and memory tests with the sites of failing bits in
test order. Every chosen test has run, unless a supply failure or an alarm has stopped the run. The record and the faults
are written, and a SYSTEM reset with cause BIST follows. -/
def execBistDone (sigs fails : List (Nat × Nat)) (s : State) : Out :=
  .next (
    match s.fcr.bist with
    | none => s
    | some b =>
      let sigs := sigs.filter (fun p => p.1 < 8 && bitAt b.tests p.1)
      let ran (t : Nat) : Bool := (sigOf sigs t).isSome
      let chosen := (List.range 8).filter (bitAt b.tests)
      if s.pw.boot != .bist || (b.result == .ok && !chosen.all ran) then s
      else
        let fails := fails.filter (fun p => ran p.1 && 5 ≤ p.1 && siteValid p.2)
        let seq := (match s.bistNewest with | some (_, r) => bistSeq r | none => 0) + 1
        let stopped := chosen.find? (fun t => !ran t)
        let s := s.bistMemories (fun t => ran t || stopped == some t)
        let s := s.putBist (s.bistRecord b (seq % 2 ^ 32) sigs (fails.map Prod.snd))
        let s := fails.foldl (fun s p => s.captureFault 4 p.2 p.1 (seq % 2 ^ 32) 0 []) s
        s.assertReset 2 12)

/-! ## Reading results (R578) -/

/-- BIST_RESULT's handler. -/
def handleBistResult : Handler := fun _ p s =>
  let i := byteAt p 0
  if 16 ≤ i || !allZero (p.drop 1) then (.now .reservedValue [], s)
  else
    match s.bistRecords[i]? with
    | some (_, b) => (.now .ok b, s)
    | none => (.now .notPermitted [], s)

/-- BIST_RESULT (R578). -/
def execBistResult (o : Origin) (p : List Byte) (s : State) : Out :=
  .next (hostCommand 0x61 (· == 4) handleBistResult o p s)

end Sys2Proof.Machine
end

