-- ==== Sys2Proof/Machine/Crypto.lean ====
section
/-!
DEFINITION. The crypto engine (R446-R453, R464): contexts, chunks and steps, completion, zeroing.
-/

namespace Sys2Proof.Machine

/-- Algorithm `a` is one of R447. -/
def algExists (a : Nat) : Bool := 1 ≤ a && a ≤ 18

/-- The public-key unit serves an algorithm (R446). -/
def algPk (a : Nat) : Bool := 9 ≤ a && a ≤ 16

/-- An algorithm uses a slot as its key; TYPE and USAGE bit that it needs: type 3 is any (R447). -/
def algSlot (a : Nat) : Option (Nat × Nat) :=
  match a with
  | 1 | 2 | 3 => some (0, 0)
  | 4 | 7 | 8 => some (0, 1)
  | 9 => some (1, 2)
  | 11 => some (1, 3)
  | 12 => some (2, 3)
  | 13 => some (2, 2)
  | 17 => some (0, 4)
  | 18 => some (3, 5)
  | _ => none

/-- An algorithm writes a result to DSTSLOT. -/
def algDstslot (a : Nat) : Bool := [11, 12, 15, 16, 17].contains a

/-- An algorithm reads a message or hash at SRC. -/
def algSrc (a : Nat) : Bool := (1 ≤ a && a ≤ 10) || a == 13 || a == 14 || a == 17

/-- An algorithm draws from the RNG. -/
def algDraws (a : Nat) : Bool := a == 9 || a == 15 || a == 16

/-- Bytes that an algorithm leaves at DST (R447). -/
def algOut (a : Nat) (dir : Bool) (len : Nat) : Nat :=
  match a with
  | 1 | 2 | 3 => len
  | 5 => 32
  | 6 => 48
  | 7 => if dir then 0 else 32
  | 8 => if dir then 0 else 48
  | 9 | 13 | 15 => 64
  | 16 => 32
  | 18 => 40
  | _ => 0

/-- An algorithm reads its parameter block. -/
def algParam (a : Nat) (dir : Bool) : Bool := (1 ≤ a && a ≤ 4) || ((a == 7 || a == 8) && dir) || [10, 11, 12, 14].contains a

/-- The tag length is no reserved one (R448). -/
def tagLenOk (a : Nat) (dir : Bool) (n : Nat) : Bool :=
  match a with
  | 1 => n == 0 || n == 4 || n == 8 || n == 16
  | 2 | 4 => n == 16
  | 7 => !dir || n == 32
  | 8 => !dir || n == 48
  | _ => true

/-- Bytes lie wholly in main SRAM, or in retained SRAM macros 0-3 or 13-15 (R449). -/
def cryBufferOk (a n : Nat) : Bool :=
  n == 0 || (0x20000000 ≤ a && a + n ≤ 0x20600000)
  || (0x24000000 ≤ a && a + n ≤ 0x24010000) || (0x24034000 ≤ a && a + n ≤ 0x24040000)

/-- Two ranges overlap other than identically. -/
def badOverlap (a n b m : Nat) : Bool := n != 0 && m != 0 && a != b && a < b + m && b < a + n

/-- The operation that a START describes, from the word written to CTL and the context's registers. -/
def State.cryOp (s : State) (c n : Nat) : CryOp :=
  let param := s.regN (A.cryParam c)
  let alg := bitsOf n 16 8
  let par := s.bytes param 128
  let aad := if alg = 1 || alg = 2 then leAt par 20 4 else 0
  let len := s.fld (F.cryLenLen c)
  { alg := alg, dir := bitAt n 8, slot := s.fld (F.cryKeyselSlot c), dslot := s.fld (F.cryKeyselDstslot c),
    src := s.regN (A.crySrc c), dst := s.regN (A.cryDst c), len := len, param := param,
    data := if algSrc alg then s.bytes (s.regN (A.crySrc c)) len else [],
    par := par ++ s.bytes (leAt par 16 4) (min aad 65535), aad := aad }

/-- A form that R449 calls reserved. -/
def cryReserved (n : Nat) (o : CryOp) : Bool :=
  !algExists o.alg || bitsOf n 24 6 != 0 || bitsOf n 9 7 != 0 || bitsOf n 0 8 != 0
  || o.src % 4 != 0 || o.dst % 4 != 0 || o.param % 8 != 0
  || ((o.alg == 9 || o.alg == 10) && o.len != 32) || 65535 < o.aad
  || (algSrc o.alg && badOverlap o.src o.len o.dst (algOut o.alg o.dir o.len))
  || !tagLenOk o.alg o.dir (byteAt o.par 24)

/-- A slot fits an algorithm: it holds a key of the TYPE and USAGE. -/
def State.slotFits (s : State) (o : CryOp) : Bool :=
  match algSlot o.alg with
  | none => true
  | some (t, u) => s.slotValid o.slot && (t == 3 || s.fld (F.keyAttrType o.slot) == t) && bitAt (s.fld (F.keyAttrUsage o.slot)) u

/-- What R449 does not permit. -/
def State.cryForbidden (s : State) (o : CryOp) : Bool :=
  (algSrc o.alg && !cryBufferOk o.src o.len) || !cryBufferOk o.dst (algOut o.alg o.dir o.len)
  || (algParam o.alg o.dir && !cryBufferOk o.param 128) || !cryBufferOk (leAt o.par 16 4) o.aad
  || !s.slotFits o || (algDstslot o.alg && 16 ≤ o.dslot)

/-- The code of a START (R449). -/
def State.startCode (s : State) (c n : Nat) (o : CryOp) : Status :=
  if cryReserved n o then .reservedValue
  else if s.cryForbidden o then .notPermitted
  else if s.sealed && o.namesAny then .locked
  else if algDraws o.alg && s.fld F.rngStatState = 3 then .entropyFail
  else if (Sparse.find? s.sec.ops c).isSome || (algDstslot o.alg && s.slotValid o.dslot) then .busy
  else .pending

/-- Contexts that have work for a unit. -/
def State.unitWork (s : State) (pk : Bool) : List Nat := (s.sec.ops.filter (fun p => algPk p.2.alg == pk)).map Prod.fst

/-- The next context of a unit in ascending circular order after `last` (R450). -/
def nextCtx (work : List Nat) (last : Nat) : Option Nat :=
  ((List.range 8).map (fun i => (last + 1 + i) % 8)).find? (fun c => work.contains c)

/-- STAT shows the units (R464). -/
def State.cryShow (s : State) : State :=
  let sym := s.unitWork false
  let pk := s.unitWork true
  let s := s.setFld F.cryStatBusy (s.sec.ops.foldl (fun n p => n + 2 ^ p.1) 0)
  let s := (s.setFld F.cryStatSymact (b2n (!sym.isEmpty))).setFld F.cryStatSymctx (if sym.isEmpty then 0 else s.sec.lastSym)
  (s.setFld F.cryStatPkact (b2n (!pk.isEmpty))).setFld F.cryStatPkctx (if pk.isEmpty then 0 else s.sec.lastPk)

/-- The context that a unit serves. -/
def State.unitAt (s : State) (pk : Bool) : Nat := if pk then s.sec.lastPk else s.sec.lastSym

/-- Hand a unit to a context. -/
def State.setUnit (s : State) (pk : Bool) (c : Nat) : State :=
  { s with sec := if pk then { s.sec with lastPk := c } else { s.sec with lastSym := c } }

/-- Pass a unit on to the next context that has work for it (R450). -/
def State.passUnit (s : State) (pk : Bool) : State :=
  match nextCtx (s.unitWork pk) (s.unitAt pk) with
  | some c => s.setUnit pk c
  | none => s

/-- Set a context's operation. -/
def State.setOp (s : State) (c : Nat) (o : CryOp) : State :=
  { s with sec := { s.sec with ops := Sparse.insert s.sec.ops c o } }

/-- An operation starts; an idle unit takes it at once. -/
def State.startOpOn (s : State) (c : Nat) (o : CryOp) : State :=
  let idle := (s.unitWork (algPk o.alg)).isEmpty
  let s := s.setOp c o
  let s := if idle then s.setUnit (algPk o.alg) c else s
  let s := if algDraws o.alg then s.count (A.rngCtr 3) else s
  (((s.setFld (F.cryResBusy c) 1).setFld (F.cryResChunks c) 0).setFld (F.cryResResult c) Status.pending.code).cryShow

/-- A write to a context's CTL (R449): ABORT ends what runs, START starts an operation. Context 7 ignores it (R446). -/
def State.writeCryCtl (s : State) (c : Nat) (w : Word) : State :=
  if 7 ≤ c then s
  else
    let n := w.toNat
    let s' := s.writeReg (A.cryCtl c) w
    if bitAt n 31 then
      let o := s'.cryOp c n
      let st := s'.startCode c n o
      if st = .pending then s'.startOpOn c o
      else if (Sparse.find? s'.sec.ops c).isSome then s'
      else s'.setFld (F.cryResResult c) st.code
    else if bitAt n 30 then
      match Sparse.find? s'.sec.ops c with
      | some o => if o.ended.isNone then s'.setOp c { o with ended := some .cancelled } else s'
      | none => s'
    else s'

/-- CRYPTO_START (R449). -/
def execCryptoStart (c : Nat) (user : Bool) (w : Word) (s : State) : Out :=
  guarded user s (if s.comUp then s.writeCryCtl c w else s)
/-- CRYPTO_ABORT (R449, R452). -/
def execCryptoAbort (c : Nat) (user : Bool) (w : Word) (s : State) : Out :=
  guarded user s (if s.comUp then s.writeCryCtl c w else s)

/-! ## Chunks (R450) -/

/-- Chunks of a message on the symmetric unit: AAD counts as message. -/
def CryOp.chunks (o : CryOp) : Nat := (o.aad + o.data.length + 255) / 256

/-- The payload bytes that the first `k` chunks cover. -/
def CryOp.covered (o : CryOp) (k : Nat) : Nat := min o.data.length (256 * k - o.aad)

/-- What algorithms 1-3 turn the payload into. -/
def State.cryText (s : State) (o : CryOp) : List Byte :=
  fixLen o.data.length (Config.crypto (o.alg + 256 * b2n o.dir) (s.slotKey o.slot) o.par o.data)

/-- A chunk or step of an operation (R450, R452): DST is written chunk by chunk. -/
def State.cryChunk (s : State) (c : Nat) (o : CryOp) : State :=
  let s := s.count (A.cryCtr (if algPk o.alg then 5 else 4))
  let s := s.setFld (F.cryResChunks c) (min 4095 (o.done + 1))
  let lo := o.covered o.done
  let hi := o.covered (o.done + 1)
  let s := if o.alg ≤ 3 && lo < hi then s.dma (o.dst + lo) (((s.cryText o).drop lo).take (hi - lo)) else s
  s.setOp c { o with done := o.done + 1 }

/-- CRYPTO_CHUNK (R450): the symmetric unit, or with the operand true the public-key unit, ends a chunk or step. -/
def execCryptoChunk (pk : Bool) (s : State) : Out :=
  .next (
    if !s.comUp then s
    else
      let c := s.unitAt pk
      match Sparse.find? s.sec.ops c with
      | none => (s.passUnit pk).cryShow
      | some o =>
        if algPk o.alg != pk then s
        else
          let s := if o.ended.isNone && (pk || o.done < o.chunks) then s.cryChunk c o else s
          (s.passUnit pk).cryShow)

/-! ## Completion (R447, R452) -/

/-- An operation leaves its context with a status (R464). -/
def State.cryEnd (s : State) (c : Nat) (o : CryOp) (st : Status) : State :=
  let s := { s with sec := { s.sec with ops := Sparse.erase s.sec.ops c } }
  let s := (s.setFld (F.cryResResult c) st.code).setFld (F.cryResBusy c) 0
  let s := s.setBit A.cryIntstat c
  let s := if st = .ok then s.count (A.cryCtr 0) else s.count (A.cryCtr 1)
  let s := if st = .tamper then (s.count (A.cryCtr 2)).raise F.cryIntstatTamper else s
  let s := if st = .authFail then s.count (A.cryCtr 3) else s
  (if s.unitAt (algPk o.alg) = c then s.passUnit (algPk o.alg) else s).cryShow

/-- Zero what an operation has written to DST, then complete it (R452). -/
def State.cryFail (s : State) (c : Nat) (o : CryOp) (st : Status) : State :=
  let n := if o.alg ≤ 3 then o.covered o.done else 0
  (s.dma o.dst (List.replicate n 0)).cryEnd c o st

/-- The tag bytes in the parameter block. -/
def CryOp.tag (o : CryOp) : List Byte := (o.par.drop 32).take (byteAt o.par 24)

/-- Put a result into DSTSLOT: TYPE, USAGE and LEN as LOADCTL has them (R447). -/
def State.toSlot (s : State) (o : CryOp) (key : List Byte) : State :=
  let n := s.sec.loadCtl
  s.setKey o.dslot (bitsOf n 8 6) (bitsOf n 6 2) (bitsOf n 0 6) key false

/-- The output of an operation over a key, and whether what it checks passes. -/
def State.cryFinish (s : State) (o : CryOp) : Bool × State :=
  let key := s.slotKey o.slot
  let m := byteAt o.par 24
  match o.alg with
  | 1 | 2 =>
    if o.dir then ((o.alg == 1 && m == 0) || Config.cryptoOk o.alg key o.par o.data, s)
    else (true, s.dma (o.param + 32) (fixLen m (Config.crypto (512 + o.alg) key o.par o.data)))
  | 3 => (true, s)
  | 4 =>
    let t := fixLen 16 (Config.crypto 4 key [] o.data)
    if o.dir then (t == o.tag, s) else (true, s.dma (o.param + 32) t)
  | 5 => (true, s.dma o.dst (fixLen 32 (Config.sha256 o.data)))
  | 6 => (true, s.dma o.dst (fixLen 48 (Config.crypto 6 [] [] o.data)))
  | 7 =>
    let t := hmac256 key o.data
    if o.dir then (t == o.tag, s) else (true, s.dma o.dst t)
  | 8 =>
    let t := fixLen 48 (Config.crypto 8 key [] o.data)
    if o.dir then (t == o.tag, s) else (true, s.dma o.dst t)
  | 9 =>
    let (r, s) := s.draw (2 ^ 64)
    (true, s.dma o.dst (fixLen 64 (Config.crypto 9 key (leBytes 8 r) o.data)))
  | 10 => (Config.cryptoOk 10 [] o.par o.data, s)
  | 11 => (true, s.toSlot o (fixLen 32 (Config.crypto 11 key (o.par.take 64) [])))
  | 12 => (true, s.toSlot o (x25519 key (o.par.take 32)))
  | 13 => (true, s.dma o.dst (fixLen 64 (Config.crypto 13 key [] o.data)))
  | 14 => (Config.cryptoOk 14 [] o.par o.data, s)
  | 15 =>
    let (r, s) := s.draw (2 ^ 64)
    let priv := fixLen 32 (Config.crypto 15 [] (leBytes 8 r) [])
    (true, (s.toSlot o priv).dma o.dst (fixLen 64 (Config.crypto (256 + 15) priv [] [])))
  | 16 =>
    let (r, s) := s.draw (2 ^ 64)
    let priv := fixLen 32 (Config.crypto 16 [] (leBytes 8 r) [])
    (true, (s.toSlot o priv).dma o.dst (fixLen 32 (Config.crypto (256 + 16) priv [] [])))
  | 17 => (true, s.toSlot o (hmac256 key o.data))
  | _ => (true, s.dma o.dst (keyWrap s.kek (fixLen 32 key)))

/-- CRYPTO_DONE (R452): a context's operation completes: at the end of its work, or after zeroing where it was ended. -/
def execCryptoDone (c : Nat) (s : State) : Out :=
  .next (
    if !s.comUp then s
    else
      match Sparse.find? s.sec.ops c with
      | none => s
      | some o =>
        match o.ended with
        | some st => s.cryFail c o st
        | none =>
          if !(algPk o.alg || o.chunks ≤ o.done) || s.unitAt (algPk o.alg) != c then s
          else if algDraws o.alg && s.fld F.rngStatState != 2 then s
          else
            let (ok, s) := s.cryFinish o
            if ok then s.cryEnd c o .ok else s.cryFail c o .authFail)

end Sys2Proof.Machine
end

