-- ==== Sys2Proof/Machine/Rng.lean ====
section
/-!
DEFINITION. Random numbers (R454-R458, R465): health tests, states, requests, the roll pool.
-/

namespace Sys2Proof.Machine

/-- A counter of the RNG (R465). -/
def State.rngCount (s : State) (k n : Nat) : State := s.countBy (A.rngCtr k) n

/-- The RNG_STATE notice (R469). -/
def State.rngNotice (s : State) (st : Status) : State :=
  s.notice 0xCE ([Byte.ofN (s.fld F.rngStatState), Byte.ofN (s.fld F.rngStatFails), Byte.ofN (s.fld F.rngStatTest), 0]
    ++ leBytes 2 st.code ++ [0, 0])

/-- Enter STARTUP: the windows of its test begin anew (R457). -/
def State.rngStartup (s : State) (fromFail : Bool) : State :=
  { s.setFld F.rngStatState 1 with sec := { s.sec with windows := 0, fromFail := fromFail, held := 0 } }

/-- RNG_WINDOW (R454, R455, R457, R458): a window passes. In RUN the output it spans is released, the pool is filled, and
each 64th window reseeds; four windows lead STARTUP to RUN. -/
def execRngWindow (s : State) : Out :=
  .next (
    let st := s.fld F.rngStatState
    if !s.comUp || !(st == 1 || st == 2) then s
    else
      let s : State := { s.rngCount 0 1 with sec := { s.sec with windows := s.sec.windows + 1 } }
      if st = 2 then
        let s := if s.sec.windows % 64 = 0 then s.rngCount 3 1 else s
        { s with sec := { s.sec with pool := 64, held := 256 } }
      else if s.sec.windows < 4 then s
      else
        let back := s.sec.fromFail
        let s : State := { s.setFld F.rngStatState 2 with sec := { s.sec with windows := 0, fromFail := false, held := 256 } }
        if back then ((s.setFld F.rngStatFails 0).raise F.rngIntstatRecover).rngNotice .ok else s)

/-- A request ends (R456, R465). -/
def State.rngEnd (s : State) (n : Nat) (st : Status) : State :=
  let s := { s with sec := { s.sec with reqs := Sparse.erase s.sec.reqs n } }
  let s := ((s.setFld (F.rngReqstatResult n) st.code).setFld (F.rngReqstatBusy n) 0).setBit A.rngIntstat (2 + n)
  if st = .entropyFail then s.rngCount 6 1 else s

/-- Every engine draw completes with ENTROPY_FAIL (R457). -/
def State.failDraws (s : State) : State :=
  (s.sec.ops.filter (fun p => algDraws p.2.alg && p.2.ended.isNone)).foldl
    (fun s p => (s.cryEnd p.1 p.2 .entropyFail).rngCount 6 1) s

/-- RNG_HEALTH_FAIL (R457): the test that failed: 1 repetition count, 2 adaptive proportion, 3 start-up. -/
def execRngHealthFail (test : Nat) (s : State) : Out :=
  .next (
    let st := s.fld F.rngStatState
    if !s.comUp || !(st == 1 || st == 2) || test = 0 || 3 < test || (test = 3 && st = 2) then s
    else
      let s := if test = 1 then s.rngCount 1 1 else if test = 2 then s.rngCount 2 1 else s
      let s := s.rngCount 5 s.sec.held
      let s := { s with sec := { s.sec with held := 0 } }
      let s := (s.sec.reqs.map Prod.fst).foldl (fun s n => s.rngEnd n .entropyFail) s
      let s := s.failDraws
      let s := ((s.satCount F.rngStatFails).setFld F.rngStatTest test).setFld F.rngStatState 3
      (s.raise F.rngIntstatFail).rngNotice .entropyFail)

/-- RNG_AUTO_RESTART (R457). -/
def execRngAutoRestart (s : State) : Out :=
  .next (
    if s.comUp && s.fld F.rngStatState = 3 && s.flag F.rngCtlAutorst && s.fld F.rngStatFails < 3
    then s.rngStartup true else s)

/-- A write to `RNG.CTL` (R465). -/
def State.writeRngCtl (s : State) (w : Word) : State :=
  let s := s.writeReg A.rngCtl w
  if bitAt w.toNat 1 && s.fld F.rngStatState = 3 then s.rngStartup true else s

/-- RNG_RESTART (R465). -/
def execRngRestart (user : Bool) (w : Word) (s : State) : Out := guarded user s (if s.comUp then s.writeRngCtl w else s)

/-- A write to REQLENn (R456): a request; in FAILED it completes at once with ENTROPY_FAIL. -/
def State.writeReqlen (s : State) (n : Nat) (w : Word) : State :=
  let len := bitsOf w.toNat 0 13
  let a := s.regN (A.rngReqaddr n)
  if 4 ≤ n || len = 0 || 4096 < len || s.flag (F.rngReqstatBusy n) then s
  else if !(0x20000000 ≤ a && a + len ≤ 0x20600000) then s.rngEnd n .notPermitted
  else if s.fld F.rngStatState = 3 then s.rngEnd n .entropyFail
  else
    let s := (s.setFld (F.rngReqstatBusy n) 1).setFld (F.rngReqstatResult n) Status.pending.code
    { s with sec := { s.sec with reqs := Sparse.insert s.sec.reqs n (a, len) } }

/-- RNG_REQUEST (R456). -/
def execRngRequest (n : Nat) (user : Bool) (w : Word) (s : State) : Out :=
  guarded user s (if s.comUp then s.writeReqlen n w else s)

/-- Bytes of released output: free values from one draw. -/
def freeBytes (d n : Nat) : List Byte := (List.range n).map (fun i => Byte.ofN (Config.freeNat (d + i)))

/-- RNG_REQUEST_DONE (R455, R456): in RUN the bytes released to a request reach its address. -/
def execRngRequestDone (n : Nat) (s : State) : Out :=
  .next (
    match Sparse.find? s.sec.reqs n with
    | none => s
    | some (a, len) =>
      if !s.comUp || s.fld F.rngStatState != 2 then s
      else
        let (d, s) := s.draw (2 ^ 64)
        ((s.dma a (freeBytes d len)).rngCount 4 len).rngEnd n .ok)

/-- RNG_STATUS's handler (R468). -/
def handleRngStatus : Handler := fun _ _ s =>
  (.now .ok (leBytes 4 (s.regN A.rngStat) ++ ((List.range 8).map (fun k => leBytes 4 (s.regN (A.rngCtr k)))).flatten), s)

/-- RNG_STATUS (R468). -/
def execRngStatus (o : Origin) (p : List Byte) (s : State) : Out := .next (hostCommand 0x94 (· == 0) handleRngStatus o p s)

end Sys2Proof.Machine
end

