-- ==== Sys2Proof/Machine/Tamper.lean ====
section
/-!
DEFINITION. Tamper (R459-R463, R466, R468, R469): sources, classes, alarms and their effects.
-/

namespace Sys2Proof.Machine

/-! ## Settings with their floors (R460, R466) -/

/-- The class in force of a source: the higher of CLASS and the floor. -/
def State.tmpClassOf (s : State) (src : Nat) : Nat := max (bitsOf (s.fld F.tmpClassClass) (2 * src) 2) (s.tmpFloorOf src)

/-- `TMP.CLASS` as it reads. -/
def State.tmpClass (s : State) : Nat := (List.range 11).foldl (fun n i => n + s.tmpClassOf i * 4 ^ i) 0

/-- The mode in force of an input: a floored one is never off. -/
def State.tmpMode (s : State) (n : Nat) : Nat :=
  let m := bitsOf (s.fld F.tmpIncfgMode) (2 * n) 2
  if m = 0 && s.tmpFloorOf n != 0 then 1 else m

/-- `TMP.INCFG` as it reads. -/
def State.tmpIncfg (s : State) : Nat := (List.range 8).foldl (fun n i => n + s.tmpMode i * 4 ^ i) 0

/-- A source is enabled. -/
def State.tmpOn (s : State) (src : Nat) : Bool :=
  if src < 8 then s.tmpMode src != 0 else src ≤ 10 && (bitAt (s.fld F.tmpDetcfgEn) (src - 8) || s.tmpFloorOf src != 0)

/-- A write to CLASS: a class below the floor takes the floor; HALT needs the maintenance key (R460, R466). -/
def State.writeTmpClass (s : State) (w : Word) : State :=
  if s.flag F.tmpCtlLock then s
  else
    s.setFld F.tmpClassClass ((List.range 11).foldl (fun n i =>
      let v := bitsOf w.toNat (2 * i) 2
      n + (if v = 3 && !s.maintSet then s.tmpClassOf i else max v (s.tmpFloorOf i)) * 4 ^ i) 0)

/-- A write to INCFG: mode 3 on inputs 4-7, and mode 0 on a floored input, leave the field (R466). -/
def State.writeTmpIncfg (s : State) (w : Word) : State :=
  if s.flag F.tmpCtlLock then s
  else
    s.setFld F.tmpIncfgMode ((List.range 8).foldl (fun n i =>
      let v := bitsOf w.toNat (2 * i) 2
      n + (if (v = 3 && 4 ≤ i) || (v = 0 && s.tmpFloorOf i != 0) then s.tmpMode i else v) * 4 ^ i) 0)

/-- A write to DETCFG: a 0 to a floored detector is ignored (R466). -/
def State.writeTmpDetcfg (s : State) (w : Word) : State :=
  if s.flag F.tmpCtlLock then s
  else
    s.setFld F.tmpDetcfgEn ((List.range 3).foldl (fun n i => n + b2n (bitAt w.toNat i || s.tmpFloorOf (8 + i) != 0) * 2 ^ i) 0)

/-- A write to CTL: LOCK locks its other fields too; FILT 0 and WIPEMAC 4-12 are reserved (R466). -/
def State.writeTmpCtl (s : State) (w : Word) : State :=
  if s.flag F.tmpCtlLock then s else s.writeReg A.tmpCtl w

/-! ## Alarms (R461-R463, R469) -/

/-- Zero a retained SRAM macro. -/
def State.zeroMacro (s : State) (m : Nat) : State :=
  let lo := 0x24000000 + 0x4000 * m
  { s with
    ram := s.ram.filter (fun p => p.1 < lo) ++ (List.range 0x4000).map (fun i => (lo + i, (0 : Byte)))
      ++ s.ram.filter (fun p => lo + 0x4000 ≤ p.1) }

/-- The TAMPER_ALARM payload (R469). -/
def State.alarmPayload (s : State) (src cls flags : Nat) : List Byte :=
  [Byte.ofN src, Byte.ofN cls, Byte.ofN flags, 0] ++ leBytes 2 (s.fld F.tmpLatchLatch) ++ [0, 0]
  ++ leBytes 4 (if s.flag F.ntmStatValid then s.round0 else 0) ++ leBytes 4 (s.fld F.tmpEvlogCount)

/-- The LOG effects: level, latch, EVLOG, interrupt (R461). -/
def State.alarmLog (s : State) (src cls : Nat) : State :=
  let s := (s.setBit A.tmpStat src).setBit A.tmpLatch src
  let s := ((s.satCount F.tmpEvlogCount).setFld F.tmpEvlogLastclass cls).setFld F.tmpEvlogLastsrc src
  (s.setBit A.tmpIntstat src).evLevel 0x1C7 true

/-- Wipe slots from one number to another; contexts that name a slot end with TAMPER (R461, R462). -/
def State.wipeSlots (s : State) (lo n : Nat) : State :=
  let any := (List.range n).any (fun k => s.slotValid (lo + k))
  let s := (List.range n).foldl (fun s k => s.dropKey (lo + k)) s
  if any then s.raise F.keyIntstatWiped else s

/-- The RNG's state is wiped and it enters STARTUP (R461). -/
def State.wipeRng (s : State) : State :=
  let t := s.rngStartup (s.sec.fromFail || s.fld F.rngStatState == 3)
  { t with sec := { t.sec with pool := 0 } }

/-- WIPE-SESSION's effects (R461). -/
def State.wipeSession (s : State) : State :=
  let s := if s.domainOn .com then ((s.wipeSlots 0 16).endOps (fun o => o.namesAny) .tamper).wipeRng else s
  if s.flag F.tmpCtlWipeen then s.zeroMacro (s.fld F.tmpCtlWipemac) else s

/-- WIPE-ALL's effects: persistent slots, SEAL, and the store's erase, which waits for PD_FL and PD_COM (R461). -/
def State.wipeAll (s : State) : State :=
  let s := if s.domainOn .com then (s.wipeSlots 16 16).raise F.keySealSealed else s
  s.raise F.tmpStatStorepend

/-- Start-up is between step 2 and the handover. -/
def State.inStartup (s : State) : Bool := s.pw.boot == .startup || s.pw.boot == .background

/-- A notice of an alarm goes into the queue, or waits for PD_COM or for step 9 (R462). -/
def State.alarmNotice (s : State) (p : List Byte) : State :=
  if s.comUp && (s.pw.boot == .run || s.pw.boot == .service || s.pw.boot == .halt) then s.notice 0xCD p
  else { s with sec := { s.sec with alarms := s.sec.alarms ++ [p] } }

/-- An alarm between step 2 and the handover wipes every slot, seals, and ends the boot; in W-SLEEP every slot is lost
(R462). -/
def State.wipeMoment (s : State) : State :=
  if s.inStartup then
    let t := ((s.wipeSlots 0 32).endOps (fun o => o.namesAny) .tamper).raise F.keySealSealed
    { t with sec := { t.sec with bootAlarm := true } }
  else if s.pw.wSleep then s.wipeSlots 0 32 else s

/-- An alarm stops a BIST run (R573). -/
def State.alarmBist (s : State) : State :=
  match s.fcr.bist with
  | some b => if s.pw.boot == .bist && b.result == .ok then { s with fcr := { s.fcr with bist := some { b with result := .tamper } } } else s
  | none => s

/-- An alarm before the pad latch abandons a DORMANT entry; in DORMANT it interrupts the sentinel, and in W-SLEEP the
device returns to W-ACTIVE (R462). -/
def State.alarmMode (s : State) : State :=
  let s := match s.pw.trans with
    | some t => if t.req.mode = 0 && t.phase != TransPhase.latched then s.abandonEntry else s
    | none => s
  let s := if s.dormant then s.irqSetPending 578 1 0 else s
  if s.pw.wSleep then s.wakeWatch.queueAlarms else s

/-- HALT's reset: after the flush of LASTGASP, else at once (R461, R462). -/
def State.alarmHalt (s : State) (cls : Nat) : State :=
  if cls < 3 || s.inStartup then s
  else if s.mode = 5 && s.pw.lg == .flush then { s with sec := { s.sec with haltWait := true } } else s.assertReset 2 5

/-- A source alarms (R461, R462). -/
def State.tamperAlarm (s : State) (src : Nat) : State :=
  let cls := s.tmpClassOf src
  let asleep := s.pw.boot == .run && (s.dormant || s.pw.wSleep)
  let aborted := (1 ≤ cls || s.inStartup) && s.sec.ops.any (fun p => p.2.namesAny && p.2.ended.isNone)
  let flags := b2n s.inStartup + 2 * b2n asleep + 4 * b2n aborted + 8 * b2n (2 ≤ cls)
  let s := s.alarmLog src cls
  let s := if 1 ≤ cls then s.wipeSession else s
  let s := (if 2 ≤ cls then s.wipeAll else s).wipeMoment
  let s := s.alarmNotice (s.alarmPayload src cls flags)
  (s.alarmBist.alarmMode).alarmHalt cls

/-- TAMPER_ALARM (R459, R461): a source's alarm condition begins, or with the operand false it ends. -/
def execTamperAlarm (src : Nat) (on : Bool) (s : State) : Out :=
  .next (
    if 10 < src || s.pw.boot == .off then s
    else if on then (if s.tmpOn src && !s.bit A.tmpStat src then s.tamperAlarm src else s)
    else
      let s := s.clearBit A.tmpStat src
      if s.fld F.tmpStatAlarm = 0 then s.evLevel 0x1C7 false else s)

/-- A bit of LATCH stays or comes back while its source is in alarm (R463). -/
def State.relatch (s : State) : State := s.setFld F.tmpLatchLatch (s.fld F.tmpLatchLatch ||| s.fld F.tmpStatAlarm)

/-- A write to LATCH: the bits of HALT-class sources ignore it (R463). -/
def State.writeLatch (s : State) (w : Word) : State :=
  ((List.range 11).foldl (fun s i => if bitAt w.toNat i && s.tmpClassOf i != 3 then s.clearBit A.tmpLatch i else s) s).relatch

/-- LATCH_CLEAR (R463). -/
def execLatchClear (user : Bool) (w : Word) (s : State) : Out := guarded user s (s.writeLatch w)

/-! ## Start-up step 2 (R462) -/

/-- The sources found in alarm at the sampling: a new one is logged, and its notice waits for step 9. -/
def State.sampleTamper (s : State) (alarms : Nat) : State :=
  (List.range 11).foldl
    (fun s i =>
      if bitAt alarms i && s.tmpOn i then
        if s.bit A.tmpStat i then s
        else
          let s := s.alarmLog i (s.tmpClassOf i)
          s.alarmNotice (s.alarmPayload i (s.tmpClassOf i) 1)
      else s.clearBit A.tmpStat i) s

/-- The check of step 2 fails: an enabled source is in alarm, or a HALT-class source is latched. -/
def State.tamperAlarmed (s : State) : Bool :=
  (List.range 11).any (fun i =>
    (s.bit A.tmpStat i && s.tmpOn i) || (s.bit A.tmpLatch i && s.tmpClassOf i == 3))

/-- The tamper notice of a halt: those that wait, or one for a latched source (R145, R462). -/
def State.tamperHaltNotice (s : State) : State :=
  let s := s.raise F.tmpStatHalted
  if s.sec.alarms.isEmpty then
    let src := ((List.range 11).find? (fun i => s.bit A.tmpLatch i)).getD 15
    s.notice 0xCD (s.alarmPayload src (s.tmpClassOf src) 1)
  else s.queueAlarms

/-! ## Host commands (R468) -/

/-- The programmed roots: Board keys, firmware keys, the maintenance key. -/
def State.rootMap (s : State) : Nat :=
  (List.range 4).foldl (fun n k => n + 2 ^ k * b2n (s.rootSet (signWord 1 k) 8) + 2 ^ (4 + k) * b2n (s.rootSet (signWord 2 k) 8)) 0
  + 2 ^ 8 * b2n s.maintSet

/-- SEC_STATUS's handler. -/
def handleSecStatus : Handler := fun _ _ s =>
  (.now .ok (([s.regN A.keySeal, s.regN A.keyValid, s.regN A.tmpStat, s.regN A.tmpLatch, s.tmpClass, s.tmpFloor,
      s.regN A.rngStat, s.otpWord 0x84 % 2 ^ 32, s.rootMap].map (leBytes 4)).flatten ++ s.idPub), s)

/-- SEC_STATUS (R468). -/
def execSecStatus (o : Origin) (p : List Byte) (s : State) : Out := .next (hostCommand 0x90 (· == 0) handleSecStatus o p s)

/-- The message that TAMPER_CLEAR signs. -/
def State.clearMsg (s : State) (mask : Nat) : List Byte :=
  asciiBytes "TCLR" ++ s.otpEui ++ leBytes 2 (s.fld F.rstRstcountCount) ++ leBytes 2 mask ++ leBytes 4 (s.fld F.tmpEvlogCount)

/-- TAMPER_CLEAR's handler. -/
def handleTamperClear : Handler := fun _ p s =>
  let mask := leAt p 0 2
  if leAt p 2 2 != 0 || 2 ^ 11 ≤ mask then (.now .reservedValue [], s)
  else if !(s.maintSet && Config.cryptoOk 14 [] (s.rootBytes 0x140 4 ++ p.drop 4) (s.clearMsg mask)) then (.now .authFail [], s)
  else
    let s := ((List.range 11).foldl (fun s i => if bitAt mask i then s.clearBit A.tmpLatch i else s) s).relatch
    (.now .ok [], if s.pw.boot == .halt then { s with sec := { s.sec with clearReset := true } } else s)

/-- TAMPER_CLEAR (R468). -/
def execTamperClear (o : Origin) (p : List Byte) (s : State) : Out := .next (hostCommand 0x93 (· == 68) handleTamperClear o p s)

end Sys2Proof.Machine
end

