-- ==== Sys2Proof/Machine/Reset.lean ====
section
/-!
DEFINITION. Resets and start-up (R136-R159): the sources, the watchdog, soft resets and core release, the start-up
steps, ROM service, the tamper halt and the handover.
-/

namespace Sys2Proof.Machine

/-! ## Reset sources (R136, R138) -/

/-- POWER_ON (R136). -/
def execPowerOn (s : State) : Out := .next (s.assertReset 4 1)

/-- LP_BROWNOUT (R107): while the LP logic tap carries PD_AON. -/
def execLpBrownout (s : State) : Out :=
  .next (if s.flag F.pmuStatAonlp then s.assertReset 3 2 else s)

/-- RESET_N_LOW (R138): the PIN source at the scope PINCFG sets; the reset is held while the ball stays low. -/
def execResetNLow (s : State) : Out :=
  let s := s.assertReset (if s.flag F.rstPincfgScope then 3 else 2) 3
  .next (if s.pw.boot == .startup then { s with pw := { s.pw with boot := .held } } else s)

/-- RESET_N_RISE (R138). -/
def execResetNRise (s : State) : Out :=
  .next (if s.pw.boot == .held then { s with pw := { s.pw with boot := .startup } } else s)

/-- CORE_BROWNOUT (R136): not while the buck is in retention. -/
def execCoreBrownout (s : State) : Out :=
  .next (if s.retention then s else s.assertReset 2 4)

/-- WAKE_TIMEOUT (R109, R576): the PMU abandons the wake and resets; the fault names the step. -/
def execWakeTimeout (stage : Nat) (s : State) : Out :=
  let s := s.captureFault 5 (Site.pack { depth := 3, d := 0, c := 2, t := 0, m := 0, w := 0, b := 0 }) stage 0 0 []
  .next (s.assertReset 2 6)

/-! ## The watchdog (R139) -/

/-- WATCHDOG (R139). -/
def execWatchdog (s : State) : Out := .next (if s.watchdogRuns then s.assertReset 2 7 else s)

/-- A write to `RST.WDTKICK` (R139): the key reloads, any other value counts as expiry. -/
def State.writeWdtkick (s : State) (w : Word) : State :=
  if w.toNat = 0x0000A5C3 then
    { s.setFld F.rstWdtcntCount (s.fld F.rstWdtcfgTimeout) with pw := { s.pw with wdtAcc := 0 } }
  else s.assertReset 2 7

/-- WDTKICK (R139). -/
def execWdtkick (user : Bool) (w : Word) (s : State) : Out := guarded user s (s.writeWdtkick w)

/-- WDTEARLY (R139): a count of TIMEOUT / 8 remains. -/
def execWdtearly (s : State) : Out :=
  .next (
    if s.watchdogRuns && s.flag F.rstWdtcfgEarly then
      (s.raise F.rstIntstatWdtearly).setFld F.rstWdtcntCount (s.fld F.rstWdtcfgTimeout / 8)
    else s)

/-! ## CORE resets and release (R134, R151, R153, R158, R159) -/

/-- A CORE reset (R134, R159, R342): the core's tile and its bank; it is held until firmware releases it, and the
deliveries to rings whose interrupt it serves are repeated. -/
def State.resetCore (s : State) (core : Nat) : State :=
  let s := (s.pipReset core).icuCoreReset core
  s.redeliver (fun t => t < 4 && s.irqTarget (448 + t) == core)

/-- A soft CORE reset, logged (R150). -/
def State.softCoreReset (s : State) (core : Nat) : State := (s.resetCore core).setBit A.rstCorelog core

/-- A lockup CORE reset of Pip core 1, 2 or 3, logged (R136, R150). -/
def State.lockupCoreReset (s : State) (core : Nat) : State := (s.resetCore core).setBit A.rstCorelog (8 + core)

/-- A write to `RST.SWRST` (R151): a wrong key, a reserved SCOPE or CORE is ignored. -/
def State.writeSwrst (s : State) (w : Word) : State :=
  let n := w.toNat
  let core := bitsOf n 4 3
  if bitsOf n 24 8 != 0xA5 then s
  else
    match bitsOf n 0 2 with
    | 1 => if 1 ≤ core && core ≤ 4 then s.softCoreReset core else s
    | 2 => s.assertReset 2 11
    | 3 => s.assertReset 3 11
    | _ => s

/-- SWRST_CORE (R151). -/
def execSwrstCore (user : Bool) (w : Word) (s : State) : Out := guarded user s (s.writeSwrst w)

/-- SWRST_SYSTEM (R151). -/
def execSwrstSystem (user : Bool) (w : Word) (s : State) : Out := guarded user s (s.writeSwrst w)

/-- SWRST_ALWAYS_ON (R151). -/
def execSwrstAlwaysOn (user : Bool) (w : Word) (s : State) : Out := guarded user s (s.writeSwrst w)

/-- SYS_RESET's handler (R153). -/
def handleSysReset : Handler := fun _ p s =>
  let scope := byteAt p 0
  if !(scope == 2 || scope == 3) || !allZero (p.drop 1) then (.now .reservedValue [], s)
  else if s.mode = 5 then (.now .notPermitted [], s)
  else (.now .ok [], { s with pw := { s.pw with hostReset := some scope } })

/-- SYS_RESET (R153). -/
def execSysReset (o : Origin) (p : List Byte) (s : State) : Out :=
  .next (hostCommand 0x14 (· == 4) handleSysReset o p s)

/-- SYS_RESET_ASSERT (R153), and the SYSTEM reset with cause TAMPER that follows a TAMPER_CLEAR in the tamper halt
(R468). -/
def execSysResetAssert (s : State) : Out :=
  .next (
    match s.pw.hostReset with
    | some scope => s.assertReset scope 9
    | none => if s.sec.clearReset then s.assertReset 2 5 else s)

/-- The VEC register of a core. -/
def vecReg (k : Nat) : Nat := if k = 1 then A.sysVec1 else if k = 2 then A.sysVec2 else if k = 3 then A.sysVec3 else A.sysVecs

/-- A write to `SYS.CORERUN` (R158, R159, R606): each bit whose core is held releases it at its VEC address, which is
demand for its cluster. -/
def State.writeCorerun (s : State) (w : Word) : State :=
  [1, 2, 3, 4].foldl
    (fun s k =>
      if bitAt w.toNat k && (s.core k).run == .held then (s.pipRelease k (s.regN (vecReg k))).demandCluster k else s) s

/-- `SYS.CORERUN` as it reads (R158). -/
def State.corerun (s : State) : Nat :=
  [1, 2, 3, 4].foldl (fun n k => n + b2n ((s.core k).run != .held) * 2 ^ k) 0

/-- CORE_RELEASE (R158). -/
def execCoreRelease (user : Bool) (w : Word) (s : State) : Out :=
  guarded user s (if s.comUp && s.running then s.writeCorerun w else s)

/-! ## Start-up steps (R140-R145) -/

/-- STAGE (R156). -/
def State.setStage (s : State) (n : Nat) : State := s.setFld F.sysBootstatStage n

/-- Step 0 (R140): the wake steps run; PD_COM, PD_FL and PD_CL0 are on, core 0 runs the boot ROM on CK_HF. CK_LF
runs from LF RC until XLF has qualified (R113). -/
def State.bootRelease (s : State) : State :=
  let s := ((s.switchOn .com).switchOn .fl).switchOn .cl0
  let s := if s.flag F.pmuStatXlfok then s else s.raise F.pmuStatLfrc
  (((s.wakeReady).lower F.pmuStatAonlp).cpuToHf).setStage 0

/-- The boot ROM's write of a register that the Defaults Image covers (R412). -/
def State.writeDefault (s : State) (a v : Nat) : State :=
  let w := Word.ofN v
  if a = A.tmpClass then s.writeTmpClass w
  else if a = A.tmpIncfg then s.writeTmpIncfg w
  else if a = A.tmpDetcfg then s.writeTmpDetcfg w
  else if a = A.tmpCtl then s.writeTmpCtl w
  else if a = A.ntmCfg then s.writeNtmCfg w
  else if a = A.ntmSynccfg then s.writeSynccfg w
  else s.writeReg a w

/-- The registers a start-up step loads, in key order (R412). -/
def stepRegisters (step : Nat) : List Nat := (dfiRegisters.filter (fun p => p.2 == step)).map Prod.fst

/-- The OTP calibration passes its check: words 0x10-0x7E and the high half of word 0x7F under the CRC-32C in the low
half of word 0x7F, not blank (R407). -/
def State.calibrated (s : State) : Bool :=
  let l := (List.range 0x6F).map (fun i => s.otpWord (0x10 + i))
  l.any (· != 0)
  && crc32c ((l.map (leBytes 8)).flatten ++ leBytes 4 (s.otpWord 0x7F / 2 ^ 32)) == s.otpWord 0x7F % 2 ^ 32

/-- The Factory Defaults of XREFCFG (R411): MODE and CTRIM come from the OTP calibration, in places the manual does not
give; nominal trims without it (R143). -/
def State.defaultXref (s : State) : State :=
  if s.calibrated then
    let (m, s) := s.draw 2
    let (c, s) := s.draw (2 ^ F.pmuXrefcfgCtrim.width)
    (s.setFld F.pmuXrefcfgMode m).setFld F.pmuXrefcfgCtrim c
  else s.raise F.sysBootflagsOtpcal

/-- Step 1 (R140, R143, R405, R574): the identity, the Factory Defaults, a redirected sector and the newest BIST
record. -/
def State.bootOtp (s : State) : State :=
  let s := (s.setRegN A.sysUidlo (s.otpWord 0 % 2 ^ 32)).setRegN A.sysUidhi (s.otpWord 0 / 2 ^ 32)
  let s := (stepRegisters 4).foldl (fun s a => s.writeDefault a (regReset a).toNat) s
  s.defaultXref.findStaging.loadBist

/-- Step 3 (R140, R143, R180, R416): the record in force, and the seeds of its duty ledgers. -/
def State.bootRlr (s : State) : State :=
  let c := s.rlrCopies
  let s := { s with rf := { s.rf with rlr := (rlrResolve c).map RlrRecord.parse } }
  let s := if rlrSource c = 4 then s.raise F.sysBootflagsRlrdiv else if rlrSource c = 5 then s.raise F.sysBootflagsRlrnone else s
  s.seedLedgers

/-- Load the registers of a step from the resolved image, over their Factory Defaults (R412). -/
def State.loadDefaults (s : State) (step : Nat) : State :=
  (s.flc.dfi.filter (fun e => dfiStep e.1 == some step && e.1 < 0xFFFF0000)).foldl (fun s e => s.writeDefault e.1 e.2) s

/-- Step 4 (R140, R143, R412, R413). -/
def State.bootDfi (s : State) : State :=
  let rule := (dfiResolve s.dfiCopies).1
  let s := if rule = 1 then s.raise F.sysBootflagsDfinone else if rule = 4 then s.raise F.sysBootflagsDfidiv else s
  { s with flc := { s.flc with dfi := s.dfiNow } }.loadDefaults 4

/-- Step 5's second half (R140): XREF qualified or given up; PLL-C at 300 MHz; TMB and NTM run. -/
def State.bootClocks (s : State) (xref : Bool) : State :=
  let s := (s.switchOn .xr).setStage 5
  if xref then
    let s := { s.raise F.pmuStatXrefrdy with pw := { s.pw with xrefStarting := false, xrefWarm := true } }
    let s := ((s.setFld F.clkPllcN 60).setFld F.clkPllcP 2).raise F.clkPllcEn
    let s := (s.raise F.clkStatClock).lower F.clkStatCpuhf
    { s.lower F.tmbStatLf with tb := { s.tb with run := .ref, frac := 0 } }
  else { s.raise F.tmbStatLf with tb := { s.tb with run := .lf } }

/-- Steps 7 and 8 (R73, R140, R434). -/
def State.bootImages (s : State) : State :=
  let s := (s.setStage 7).bootDecision
  let s := (s.setStage 8).buildBoard (bootListOf s.flc.dfi)
  let s := if s.bootListFailed then s.raise F.sysBootflagsBrdfall else s
  s.setStage 6

/-- Step 6 begins (R140): recovery and the hold-up measurement run in the background, and steps 7 and 8 with them; after
an activation step 7 waits for recovery (R434). -/
def State.bootToBackground (s : State) : State :=
  let s := (s.setStage 6).startRecovery
  let s := if s.fld F.rstCauseCode = 10 then s else s.bootImages
  { s with pw := { s.pw with boot := .background } }

/-- The STARTUP payload (R147). -/
def State.startupPayload (s : State) (t9 : Nat) : List Byte :=
  [Byte.ofN (s.fld F.rstCauseCode), Byte.ofN (s.fld F.rstCauseScope), Byte.ofN (s.fld F.rstCauseMode),
   Byte.ofN (s.fld F.sysBootstatStage)]
  ++ leBytes 2 (s.regN A.rstCausehist) ++ [0, 0] ++ leBytes 4 (s.regN A.sysBootflags) ++ leBytes 4 (min t9 0xFFFFFFFF)
  ++ leBytes 2 (s.fld F.rstRstcountCount) ++ [Byte.ofN (s.fld F.sysBootstatFwslot), 0] ++ leBytes 4 (s.regN A.sysId)

/-- Step 9 up to its STARTUP notice (R140, R147, R380, R388). -/
def State.bootLink (s : State) (stage t9 : Nat) : State :=
  let s := (((s.setStage stage).loadDefaults 9).startLink).trimNotices
  s.notice 0xC0 (s.startupPayload t9)

/-- The notices of the steps that found a fault, in step order, then BOARD_FALLBACK (R73, R147, R365, R422, R438). -/
def State.bootNotices (s : State) : State :=
  let s := s.queueAlarms
  let s := if rlrSource s.rlrCopies = 0 then s else s.nvNotice 1 (rlrStatus s.rlrCopies)
  let s := if dfiSource s.dfiCopies = 0 then s else s.nvNotice 0 (dfiStatus s.dfiCopies)
  let s := if s.flag F.sysBootflagsJrndiv then s.jrnNotice .nvDiverged (s.jrn.diverged.getD 0) else s
  let s := if s.flag F.sysBootflagsHoldup then s.jrnNotice .brownout 0 else s
  let s := s.fw.notes.foldl (fun s p => s.notice 0xCC p) s
  if s.bootListFailed then s.notice 0xC3 s.fallbackPayload else s

/-- The tamper halt (R145): STAGE 12, keys sealed, steps 8 and 9 on the ROM Board. -/
def State.tamperHalt (s : State) : State :=
  let s := (s.raise F.sysBootflagsTamper).placeRom.loadWhole
  let s := (s.bootLink 12 0).tamperHaltNotice
  { s with pw := { s.pw with boot := .halt } }

/-- Steps 0 to 4 and the start of XREF; the check of step 2 may halt the boot (R140, R145, R462). -/
def State.bootFirst (s : State) (tamper : Nat) : State :=
  let s := (s.bootRelease.setStage 1).bootOtp
  let s := (s.setStage 2).sampleTamper tamper
  if s.tamperAlarmed then s.tamperHalt
  else
    let s := (s.unsealKeys.setStage 3).bootRlr
    let s := ((s.setStage 4).bootDfi.switchOn .xr).xrefStart
    s.setStage 5

/-- START_UP (R140): the steps from 0, or from 5 where XREF was still awaited, to the background waits of step 6. The
operands say whether XREFRDY has come in time in step 5, and which tamper sources step 2 finds in alarm. A supply failure
that stands abandons the boot (R145), an alarm after step 2 halts it (R462). -/
def execStartUp (xref : Bool) (tamper : Nat) (s : State) : Out :=
  .next (
    if s.pw.boot != .startup then s
    else if s.flag F.pmuModestatPfail then s.abandonStartup
    else if s.fld F.sysBootstatStage = 5 then
      if s.sec.bootAlarm then s.tamperHalt else if xref then (s.bootClocks true).bootToBackground else s
    else
      let s := s.bootFirst tamper
      if s.pw.boot == .startup && xref then (s.bootClocks true).bootToBackground else s)

/-- XREF_START_TIMEOUT (R143): the other XREF mode is tried once; if it also fails boot continues on CK_HF. -/
def execXrefStartTimeout (s : State) : Out :=
  .next (
    if s.pw.boot == .startup && s.fld F.sysBootstatStage = 5 && !s.flag F.pmuStatXrefrdy then
      if s.sec.bootAlarm then s.tamperHalt
      else if s.pw.xrefRetried then
        (((s.raise F.sysBootflagsXreffail).raise F.pmuIntstatXreffail).bootClocks false).bootToBackground
      else
        let s := (s.setFld F.pmuXrefcfgMode (1 - s.fld F.pmuXrefcfgMode)).raise F.sysBootflagsXrefalt
        { s with pw := { s.pw with xrefRetried := true, xrefStarting := true } }
    else s)

/-- JOURNAL_RECOVERY_DONE (R354): the first half of step 6 has ended; after an activation steps 7 and 8 follow (R434). -/
def execJournalRecoveryDone (s : State) : Out :=
  .next (
    if s.pw.boot == .background && !s.pw.recovered then
      let s := s.finishRecovery
      let s := if s.fld F.rstCauseCode = 10 && !s.sec.bootAlarm then s.bootImages else s
      { s with pw := { s.pw with recovered := true } }
    else s)

/-- HOLDUP_MEASUREMENT_DONE (R352): the second half of step 6, or the end of a HOLD_TEST: the fall of VIN in mV, and
whether VIN stayed above V_PF. A comparator that is tripped acts now. -/
def execHoldupMeasurementDone (fall : Nat) (stayed : Bool) (s : State) : Out :=
  .next (
    if s.pw.boot == .background && !s.pw.holdupDone then
      let s := s.finishHoldup fall stayed
      let s := if s.flag F.jrnHoldresPass then s else s.raise F.sysBootflagsHoldup
      let s := { s with pw := { s.pw with holdupDone := true } }
      if s.flag F.pmuModestatPfail then s.supplyTrip else s
    else if s.running && s.jrn.holding then s.holdupEnds fall stayed
    else s)

/-! ## The handover (R144, R146) -/

/-- The start mode of the Defaults Image (R55, R411, R412): a reserved MODE or PROFILE takes its default. -/
def State.startMode (s : State) : ModeReq :=
  match Sparse.find? s.flc.dfi keyStartmode with
  | none => { mode := 2, profile := 1, bands := 0, source := 0 }
  | some v =>
    let r := modeReqOf v 0
    { r with mode := if 5 < r.mode then 2 else r.mode, profile := if 3 < r.profile then 1 else r.profile }

/-- Every link context starts anew, with the generation of this count of resets (R278). -/
def State.freshContexts (s : State) : State :=
  { s with
    ctxGen := some (s.fld F.rstRstcountCount % 63)
    ram := s.ram.filter (fun p => region p.1 != Region.context) }

/-- The firmware starts at its entry point, in DORMANT on the next wake, and the watchdog with it (R139, R146). -/
def State.startFirmware (s : State) : State :=
  let s := if s.dormant then s else s.pipRelease 0 s.fw.entry
  let s := { s with fw := { s.fw with trialLf := 0 } }
  { s with pw := { s.pw with watchdogPaused := false, wdtAcc := 0 } }.setFld F.rstWdtcntCount (s.fld F.rstWdtcfgTimeout)

/-- Step 10 (R55, R143, R146): the start mode, or NODE profile 1 where R48 would refuse it, or LASTGASP while PFAIL
reads 1, from which the start mode is what a restoration requests. -/
def State.bootRun (s : State) (t10 : Nat) : State :=
  let s := ((s.setStage 10).setRegN A.sysBoottime (min t10 0xFFFFFFFF)).freshContexts
  let s := { s with pw := { s.pw with boot := .run } }
  let bad := (s.checkMode s.startMode).isSome
  let r : ModeReq := if bad then { mode := 2, profile := 1, bands := 0, source := 0 } else s.startMode
  let s := if bad then s.raise F.sysBootflagsStartsub else s
  let s :=
    if s.flag F.pmuModestatPfail then
      let s := s.enterLastgasp
      { s with pw := { s.pw with formerMode := some { r with source := 2 } } }
    else if r.mode = 0 then s.goDormant.enterMode r .ok
    else (s.powerUpFor r.mode r.profile).enterMode r .ok
  s.startFirmware

/-- ROM service (R144): KEEPER profile 1 is entered after steps 8 and 9. -/
def State.bootService (s : State) (t9 t10 : Nat) : State :=
  let s := ((s.bootLink 11 t9).bootNotices.setRegN A.sysBoottime (min t10 0xFFFFFFFF)).freshContexts
  let s := { s with pw := { s.pw with boot := .service } }
  let r : ModeReq := { mode := 4, profile := 1, bands := 0, source := 0 }
  if s.flag F.pmuModestatPfail then
    let s := s.enterLastgasp
    { s with pw := { s.pw with formerMode := some { r with source := 2 } } }
  else (s.powerUpFor 4 1).enterMode r .ok

/-- HANDOVER (R146): step 6 has ended, so steps 9 and 10 run, or the tamper halt after an alarm (R462). The operands are
the microseconds from the origin of R141 to the end of step 9 and to the handover. -/
def execHandover (t9 t10 : Nat) (s : State) : Out :=
  .next (
    if s.pw.boot == .background && s.pw.recovered && s.pw.holdupDone then
      if s.sec.bootAlarm then s.tamperHalt
      else if s.flag F.sysBootflagsFwnone then s.bootService t9 t10
      else ((s.bootLink 9 t9).bootNotices).bootRun t10
    else s)

end Sys2Proof.Machine
end

