-- ==== Sys2Proof/Machine/Bus.lean ====
section
/-!
DEFINITION. Bus accesses: which addresses answer (R24, R30, R31, R34), what a register shows and what reading it does, what
writing it does, and the data accesses of the Pip cores to storage (R29, R282, R380, R401).
-/

namespace Sys2Proof.Machine

/-! ## What answers (R24, R30, R31, R34) -/

/-- The block number of a register address. -/
def blockOf (a : Nat) : Nat := (a - 0x40000000) / 0x10000

/-- Storage and registers at an address are powered and out of retention. -/
def State.reaches (s : State) (a : Nat) : Bool :=
  match addrDomain a with
  | .aon => true
  | .com => s.comUp
  | .cl0 => s.domainOn .cl0 && !s.retention
  | d => s.domainOn d

/-- Does the part run at all: not switched off, and not held by RESET_N. -/
def State.alive (s : State) : Bool := s.pw.boot != .off && s.pw.boot != .held

/-- The retained macros that Pip accesses do not reach: the journal mirrors and the notice queue (R337, R380). -/
def pipBarred (a : Nat) : Bool := 0x24010000 ≤ a && a < 0x24034000

/-- A register access that answers: a 32-bit aligned one, in a listed block whose domain is on (R31, R34). -/
def State.regAnswers (s : State) (a : Nat) : Bool :=
  region a == Region.registers && a % 4 == 0 && addrExists a && s.reaches a

/-! ## What registers show -/

/-- The words of the interrupt controller that are not stored (R518). -/
def State.viewIcu (s : State) (a i : Nat) : Option Nat :=
  let o := a % 0x10000
  if 0x8000 ≤ o then
    if a = A.icucShen i then some (s.shen i)
    else if a = A.icucShpend i then some (s.irqBits false (64 + 32 * i))
    else if a = A.icucShact i then some (s.irqBits true (64 + 32 * i))
    else if a = A.icucSrcinfo then some s.srcInfo
    else none
  else
    let k := if 0x5000 ≤ o then 4 else o / 0x1000
    let key := irqKey k 0
    if a = A.icuStat k then some (s.icuStat k)
    else if a = A.icuPrivpend0 k then some (s.irqBits false key)
    else if a = A.icuPrivpend1 k then some (s.irqBits false (key + 32))
    else if a = A.icuPrivact0 k then some (s.irqBits true key)
    else if a = A.icuPrivact1 k then some (s.irqBits true (key + 32))
    else if k = 4 && a = A.icuAonpend k i then some (s.aonBits false i)
    else if k = 4 && a = A.icuAonact k i then some (s.aonBits true i)
    else none

/-- The words of the event fabric that are not stored (R535). -/
def State.viewEvf (s : State) (a i : Nat) : Option Nat :=
  if a = A.evfGrpset || a = A.evfGrpclr then some s.evf.groups
  else if a = A.evfCellout then some s.evf.cells
  else if a = A.evfChinfo then some s.chInfo
  else if a = A.evfLevel i && i < 8 then some (bitsOf s.evf.out (32 * i) 32)
  else if a = A.evfAonlevel0 then some (bitsOf s.evf.aon 0 32)
  else if a = A.evfAonlevel1 then some (bitsOf s.evf.aon 32 32)
  else none

/-- GNT as it stands, and the views of the band registers (R187, R188); RFT has none of the latter. -/
def State.viewRf (s : State) (a : Nat) : Option Nat :=
  let b := s.fld (F.rfsRlrselBand .s)
  let c := chainOf (blockOf a - 0x10)
  if a = A.rfsStat c then some (setBitsOf (s.regN a) 20 1 (b2n (s.cxGnt c)))
  else if 0x40110100 ≤ a && a < 0x40110110 then some 0
  else if a = A.rfsRlrlim .s then some (s.rlrLim b)
  else if a = A.rfsRlrduty .s then some (s.rlrBand b).limit
  else if a = A.rfsDutyused .s then some ((s.band b).used % 2 ^ 22)
  else none

/-- The contexts whose state a test accepts. -/
def State.ctxTally (s : State) (p : Ctx → Bool) : Nat := (allCtx.filter (fun n => p (s.ctx n))).length

/-- A context in ACQUIRING or RECEIVING (R201). -/
def State.ctxActive (s : State) (n : Nat) : Bool := (s.ctx n).state == 1 || (s.ctx n).state == 2

/-- The words of the channelizer and of the demodulators that are not stored (R212, R214). -/
def State.viewCapture (s : State) (a : Nat) : Option Nat :=
  let word := (s.slice (s.fld F.chzSliceselBand) (s.fld F.chzSliceselNum)).getD 0
  let n := s.fld F.dmdCtxselCtx
  let x := s.ctx n
  let active (k : Nat) : Nat :=
    (List.range 32).foldl (fun m i => m + 2 ^ i * b2n (32 * k + i < 80 && s.ctxActive (32 * k + i))) 0
  if a = A.chzCapc 0 then some (s.capPlan 0)
  else if a = A.chzCapc 1 then some (s.capPlan 1)
  else if a = A.chzSliceinfo0 then some (word % 2 ^ 32)
  else if a = A.chzSliceinfo1 then some (word / 2 ^ 32)
  else if a = A.dmdStat then
    some (2 ^ 16 * s.ctxTally (fun c => c.state == 3 || c.state == 4)
      + 2 ^ 8 * s.ctxTally (fun c => c.state == 1 || c.state == 2) + s.ctxTally (fun c => c.state == 0))
  else if a = A.dmdCtxstat then
    some (2 ^ 28 * x.state + 2 ^ 27 * b2n (s.stampUnit n).isSome + 2 ^ 22 * (s.stampUnit n).getD 0 + 2 ^ 21 * (x.band % 2)
      + 2 ^ 19 * (x.cls % 4) + 2 ^ 11 * (x.slice % 256) + 8 * (x.mode % 256))
  else if a = A.dmdCtxframe then some (2 ^ 16 * ofSigned 16 x.level + ofSigned 16 (Int.tdiv (5 * x.cfo) 100))
  else if a = A.dmdActive0 then some (active 0)
  else if a = A.dmdActive1 then some (active 1)
  else if a = A.dmdActive2 then some (active 2)
  else if a = A.dmdPending then some (2 ^ 16 * (s.bandSt 1).queue.length + (s.bandSt 0).queue.length)
  else none

/-- The words of the decoders that are not stored (R244). -/
def State.viewDecoder (s : State) (a : Nat) : Option Nat :=
  let tiles := (List.range 16).map s.decTile
  let i := s.fld F.decTileselTile
  let t := s.decTile i
  let narrow := [Chain.s, Chain.t].any (fun c => 4 * bitsOf (s.narrow c) 8 2 + (bitsOf (s.narrow c) 0 5 - 10) == i
    && 10 ≤ bitsOf (s.narrow c) 0 5)
  if a = A.decStat then
    some (2 ^ 16 * (tiles.filter (fun t => !t.queue.isEmpty)).length
      + 2 ^ 8 * min 255 ((tiles.map (fun t => t.queue.length)).foldl (· + ·) 0)
      + min 255 ((allCtx.map (fun n => (s.ctx n).waiting.length)).foldl (· + ·) 0))
  else if a = A.decTilestat then
    some (2 ^ 24 * bitsOf (s.decPool i) 0 8 + 2 ^ 16 * bitsOf (s.decCodes i) 0 5 + 2 ^ 15 * b2n narrow
      + 2 ^ 8 * t.slots.length + min 31 t.queue.length)
  else none

/-- The words of the link controller that are not stored (R276). -/
def State.viewLink (s : State) (a i : Nat) : Option Nat :=
  let heldBy (c : Chain) : Bool := match (s.chain c).holder with | some n => n < 512 | none => false
  if a = A.lnkStat then some (2 ^ 16 * s.lnk.slots.length + 2 ^ 9 * b2n (heldBy .t) + 2 ^ 8 * b2n (heldBy .s))
  else if a = A.lnkRxfree then some (s.lnk.rxCount - s.lnk.taken.length)
  else if a = A.lnkPendmap i && i < 16 then
    some ((List.range 32).foldl (fun m k => m + 2 ^ k * b2n (Sparse.find? s.lnk.slots (32 * i + k)).isSome) 0)
  else none

/-- The words of the tenant engine that are not stored (R302). -/
def State.viewTenant (s : State) (a i : Nat) : Option Nat :=
  if a = A.tntStat then
    some (2 ^ 16 * (s.liveLinks.filter (fun k => s.lkState k == 2)).length
      + ((List.range 8).map s.qDepth).foldl (· + ·) 0)
  else if a = A.tntTstat i && i < 8 then some (s.tstat i)
  else if a = A.tntUpmap i && i < 32 then
    some ((List.range 32).foldl (fun m k => m + 2 ^ k * b2n (s.lkState (32 * i + k) == 2)) 0)
  else none

/-- The words of NTM that are not stored (R326). -/
def State.viewNtm (s : State) (a : Nat) : Option Nat :=
  if a = A.ntmStat then some s.ntmStat
  else if a = A.ntmSlewrem then some (ofSigned 32 s.slewNs)
  else none

/-- The words of the snapshot bank shown (R549). -/
def State.viewSnp (s : State) (a i : Nat) : Option Nat :=
  let b := s.snpBank (s.fld F.snpBankselBank)
  if a = A.snpGen then some b.gen
  else if a = A.snpTick0 then some (b.tick % 2 ^ 32)
  else if a = A.snpTick1 then some (b.tick / 2 ^ 32)
  else if a = A.snpNtm0 then some (b.ntm % 2 ^ 32)
  else if a = A.snpNtm1 then some (b.ntm / 2 ^ 32)
  else if a = A.snpRound then some b.round
  else if a = A.snpWindow i then some ((Sparse.find? b.vals i).getD 0)
  else none

/-- The words of the other blocks that are not stored. -/
def State.viewOther (s : State) (a i : Nat) : Option Nat :=
  if a = A.padDin i && i < 3 then some (s.padDin i)
  else if a = A.sysCorerun then some s.corerun
  else if a = A.jrnStat then some s.jrnStat
  else if a = A.jrnBufstat then some s.jrnBufstat
  else if a = A.jrnWear then some s.jrnWear
  else if a = A.hslStat then some s.hslStat
  else if a = A.hslNqstat then some s.hslNqstat
  else if a = A.hslNlostcnt then some s.hsl.lostWait.count
  else if a = A.flcStat then some s.flcStat
  else if a = A.flcScrubstat then some s.scrubStat
  else if a = A.flcRdp then some s.rdpLevel
  else if a = A.flcNvstat then some s.nvStat
  else if a = A.flcOtpdata0 then some (s.otpData % 2 ^ 32)
  else if a = A.flcOtpdata1 then some (s.otpData / 2 ^ 32)
  else if a = A.tmpFloor then some s.tmpFloor
  else if a = A.tmpClass then some s.tmpClass
  else if a = A.tmpIncfg then some s.tmpIncfg
  else if a = A.keyIdpub i && i < 8 then some (leAt s.idPub (4 * i) 4)
  else if a = A.metStat then some s.metStat
  else if a = A.bstSig0 then some (s.bistSig % 2 ^ 32)
  else if a = A.bstSig1 then some (s.bistSig / 2 ^ 32)
  else if a = A.bstRef0 then some (s.bistRef % 2 ^ 32)
  else if a = A.bstRef1 then some (s.bistRef / 2 ^ 32)
  else if a = A.fcrStat then some s.fcrStat
  else if a = A.fcrLost then some s.fcr.lost
  else if a = A.fcrRepeats then some s.fcr.repeats
  else if a = A.fcrRec i && i < 16 then some (leAt (s.fcrUnit (s.fld F.fcrSelIndex)) (4 * i) 4)
  else none

/-- The word a register shows where it is not the stored one: of the register at `a`, the `i`-th of its array. -/
def State.view (s : State) (a i : Nat) : Option Nat :=
  match blockOf a with
  | 0x60 => s.viewIcu a i
  | 0x61 => s.viewEvf a i
  | 0x10 => s.viewRf a
  | 0x11 => s.viewRf a
  | 0x13 => s.viewCapture a
  | 0x14 => s.viewCapture a
  | 0x15 => s.viewDecoder a
  | 0x20 => s.viewLink a i
  | 0x21 => s.viewTenant a i
  | 0x22 => s.viewNtm a
  | 0x63 => s.viewSnp a i
  | _ => s.viewOther a i

/-- The word a register shows (R5, R6): an unlisted offset reads zero. -/
def State.shows (s : State) (a : Nat) : Nat :=
  match regAt a with
  | none => 0
  | some (r, i) => readFields r.fields ((s.view a i).getD (s.regN a))

/-! ## Reading a register -/

/-- What a command's meaning leaves. -/
def outState (o : Out) (s : State) : State :=
  match o with
  | .next t => t
  | _ => s

/-- A read of RSSI: a measured level in RX, else 0x8000 (R188). -/
def State.readRssi (s : State) (c : Chain) : State :=
  if s.chState c = 4 then
    let (v, s) := s.draw (2 ^ 16)
    s.answerRead (Word.ofN v)
  else s.answerRead 0x8000

/-- A read of a register that does more than show it: the read commands of R274, R541, R543, R544, R563, R567, R569, and
measured levels. -/
def State.readHook (s : State) (a i : Nat) : Option Out :=
  match blockOf a with
  | 0x10 => if a = A.rfsRssi .s then some (.next (s.readRssi .s)) else none
  | 0x11 => if a = A.rfsRssi .t then some (.next (s.readRssi .t)) else none
  | 0x20 => if a = A.lnkNext0 then some (execLnkNext0Read s) else none
  | 0x62 =>
    if a = A.tmbCmplo i && i < 96 then some (execCmploRead i s)
    else if a = A.tmbCmphi i && i < 96 then
      let (w, s) := s.readCmphi i
      some (.next (s.answerRead w))
    else if a = A.tmbCapstat i && i < 32 then some (execCapstatRead i s)
    else if a = A.tmbPmstat i && i < 16 then some (execPmstatRead i s)
    else none
  | 0x70 => if a = A.daliRxinfo i && i < 2 then some (execRxinfoRead i s) else none
  | 0x72 =>
    if a = A.metE1lo then some (execEnergyRead 0 s)
    else if a = A.metE2lo then some (execEnergyRead 1 s)
    else none
  | 0x73 => if a = A.serRxfifo i && i < 12 then some (execRxfifoPop i s) else none
  | 0x13 =>
    if a = A.chzSlicelvl then
      let (n, s) := s.draw (2 ^ 16)
      let b := s.fld F.chzSliceselBand
      let runs := s.bandRuns b && (s.slice b (s.fld F.chzSliceselNum)).isSome
      some (.next (s.answerRead (Word.ofN (if runs then n else 0x8000))))
    else none
  | _ => none

/-- Read a register that answers: its word in `busData`, its RC fields cleared but for the bits of `again`, which a
hardware event sets in the same cycle (R5). -/
def State.readReg (s : State) (a again : Nat) : State :=
  match regAt a with
  | none => s.answerRead 0
  | some (r, i) =>
    match s.readHook a i with
    | some o => outState o s
    | none =>
      let w := s.shows a
      let s := if r.fields.any (fun f => f.acc == Acc.rc) then s.setRegN a (clearRC r.fields (s.regN a) again) else s
      s.answerRead (Word.ofN w)

/-- RC_READ (R5): a read of a register over the bus. -/
def execRcRead (addr again : Nat) (s : State) : Out :=
  .next (if !s.alive then s else if s.regAnswers addr then s.readReg addr again else s.readError)

/-! ## Writing a register -/

/-- Writes in the PMU, clock, reset and SYS blocks. -/
def State.writeBase (s : State) (core a : Nat) (w : Word) : State :=
  if a = A.pmuModereq then s.writeModereq core w
  else if a = A.pmuWaketmr then s.writeWaketmr w
  else if a = A.pmuLgsave then
    -- R272: a BASE whose area leaves the retained macros 0-3 and 13-15 is a reserved encoding
    let base := w.toNat / 8 * 8
    let ok := (0x24000000 ≤ base && base + 648 ≤ 0x24010000) || (0x24034000 ≤ base && base + 648 ≤ 0x24040000)
    s.setRegN A.pmuLgsave ((if ok then base else s.lgBase) + w.toNat % 2)
  else if a = A.clkPllc then s.writePllc w
  else if a = A.clkPllf then s.writePllf w
  else if a = A.rstSwrst then s.writeSwrst w
  else if a = A.rstWdtkick then s.writeWdtkick w
  else if a = A.sysCorerun then (if s.running then s.writeCorerun w else s)
  else if a = A.padHold then s.writeHold w
  else if a = A.padDout (a % 16 / 4) || a = A.padDoe (a % 16 / 4) then s.writePads a (a % 16 / 4) w
  else if a = A.brdSwapctl then s.writeSwapctl w
  else s.writeReg a w

/-- Writes in the radio and capture blocks. -/
def State.writeRadio (s : State) (a i : Nat) (w : Word) : State :=
  let c := chainOf (blockOf a - 0x10)
  if a = A.rfsCal c then s.writeCal c w
  else if a = A.rfsRampctl c then s.writeRampctl c w
  else if 0x40110100 ≤ a && a < 0x40110110 then s
  else if a = A.chzAgc i && i < 2 then
    let s := s.writeReg a w
    if s.flag (F.chzAgcFix i) then s.setFld (F.chzGainG i) (s.fld (F.chzAgcGfix i)) else s
  else s.writeReg a w

/-- Writes in the link controller, the tenant engine and the journal engine. -/
def State.writeLink (s : State) (a i : Nat) (w : Word) : State :=
  if a = A.lnkSubmit then outState (execLnkSubmit false w s) s
  else if a = A.lnkCancel then outState (execLnkCancel false w s) s
  else if a = A.lnkRxrelease then outState (execRxrelease false w s) s
  else if a = A.lnkRingrd i && i < 4 then outState (execRingReadAdvance false i w s) s
  else if a = A.lnkRxbase || a = A.lnkRxcount || a = A.lnkRxcfg then (s.writeReg a w).stageRx
  else if (a = A.lnkRingbase i || a = A.lnkRingsize i) && i < 4 then (s.writeReg a w).stageRing i
  else if a = A.lnkAction i then
    -- R247, R248: only a FREE slot of firmware takes a record
    if i / 8 < 448 && (Sparse.find? s.lnk.slots (i / 8)).isNone then s.writeReg a w else s
  else if a = A.tntLinkcmd then
    let op := bitsOf w.toNat 28 4
    if 1 ≤ op && op ≤ 5 then s.linkCmd op w else s
  else if a = A.tntQpost then outState (execQpost false w s) s
  else if a = A.jrnSubmit then outState (execJrnSubmit false w s) s
  else if a = A.jrnRelease then outState (execJrnRelease false w s) s
  else if a = A.jrnFlowcmd then
    match bitsOf w.toNat 28 4 with
    | 1 => outState (execFlowcmdOpen false w s) s
    | 2 => outState (execFlowcmdClose false w s) s
    | 3 => outState (execFlowcmdEpoch false w s) s
    | 4 => outState (execFlowcmdGet false w s) s
    | _ => s
  else if (a = A.jrnDringbase i || a = A.jrnDringsize i) && i < 4 then (s.writeReg a w).dringWritten i
  else if a = A.jrnDringrd i && i < 4 then (s.writeReg a w).dringLevel i
  else if a = A.jrnDlvbase || a = A.jrnDlvcount then
    let s := s.writeReg a w
    { s with jrn := { s.jrn with dlvStaged := true } }
  else s.writeReg a w

/-- Writes in NTM. -/
def State.writeNtm (s : State) (a : Nat) (w : Word) : State :=
  if a = A.ntmCmd then s.writeNtmCmd w.toNat
  else if a = A.ntmIncint then s.writeIncint w
  else if a = A.ntmCfg then s.writeNtmCfg w
  else if a = A.ntmSynccfg then s.writeSynccfg w
  else s.writeReg a w

/-- A write to an execute-only region: LAST below FIRST is a reserved encoding of the pair (R7, R419). -/
def State.writeXo (s : State) (a i : Nat) (w : Word) : State :=
  if s.bit A.flcXolock 31 then s
  else if bitsOf w.toNat 16 13 < bitsOf w.toNat 0 13 then s.setFld (F.flcXoEn i) (bitsOf w.toNat 31 1)
  else s.writeReg a w

/-- Writes in the flash, security and BIST blocks. -/
def State.writeSecurity (s : State) (user rom : Bool) (a i : Nat) (w : Word) : State :=
  if 0x40400200 ≤ a && a < 0x40400210 then
    -- R394: the operation registers answer the boot ROM's code only
    if a = A.flcOpctl then s.writeOpctl user rom w else if rom then s.writeReg a w else s
  else if a = A.flcXo i && i < 16 then s.writeXo a i w
  else if a = A.cryCtl i && i < 8 then s.writeCryCtl i w
  else if a = A.rngCtl then s.writeRngCtl w
  else if a = A.rngReqlen i then s.writeReqlen i w
  else if a = A.tmpClass then s.writeTmpClass w
  else if a = A.tmpIncfg then s.writeTmpIncfg w
  else if a = A.tmpDetcfg then s.writeTmpDetcfg w
  else if a = A.tmpCtl then s.writeTmpCtl w
  else if a = A.tmpLatch then s.writeLatch w
  else if a = A.keyLoadctl then s.writeLoadctl rom w
  else if a = A.keyLoaddata i && i < 8 then s.writeLoaddata i w
  else if a = A.keyClear then s.writeKeyClear w
  else if a = A.keyTunkey then s.writeTunkey w
  else if a = A.bstCtl then s.writeBstCtl w
  else s.writeReg a w

/-- Writes in the interrupt controller: by core `writer`. -/
def State.writeIcu (s : State) (writer a i : Nat) (w : Word) : State :=
  let o := a % 0x10000
  let k := if 0x5000 ≤ o then 4 else o / 0x1000
  if 0x8000 ≤ o then
    if a = A.icucShen i then s.writeShen i w
    else if a = A.icucSwset then outState (execSwset false w s) s
    else if a = A.icucSwclr then outState (execSwclr false w s) s
    else s.writeReg a w
  else if a = A.icuEoi k then outState (execEoi false k w s) s
  else if a = A.icuDoorbell k then outState (execDoorbell false k writer w s) s
  else if a = A.icuRingbase k then s.writeRingbase k w
  else if a = A.icuRingcfg k then s.writeRingcfg k w
  else s.writeReg a w

/-- Writes in the event fabric, the timers and the snapshot. -/
def State.writeTime (s : State) (a i : Nat) (w : Word) : State :=
  if a = A.evfFire then outState (execFire false w s) s
  else if a = A.evfFirem i && i < 8 then outState (execFirem false i w s) s
  else if a = A.evfAonfire then outState (execAonfire false w s) s
  else if a = A.evfGrpset then s.writeGroups true w
  else if a = A.evfGrpclr then s.writeGroups false w
  else if a = A.tmbCmd then outState (execTmbCapture false w s) s
  else if a = A.tmbStagctl then outState (execStagger false w s) s
  else if a = A.tmbCmpflag i && i < 3 then s.writeCmpflag i w
  else if a = A.tmbCmplo i && i < 96 then s.writeCmplo i w
  else if a = A.tmbCmphi i && i < 96 then s.writeCmphi i w
  else if a = A.tmbPmctl i && i < 16 then
    let s := s.writeReg a w
    if s.flag (F.tmbPmctlEn i) then s else s.pmDisable i
  else if a = A.snpCmd then outState (execSnapshotTake false w s) s
  else s.writeReg a w

/-- Writes in the luminaire peripherals. -/
def State.writeLum (s : State) (a i : Nat) (w : Word) : State :=
  if a = A.daliCtl i && i < 2 then s.writeDaliCtl i w
  else if a = A.daliTxcmd i && i < 2 then s.writeTxcmd i w
  else if (a = A.dmoTarget i || a = A.dmoFade i) && i < 16 then (s.writeReg a w).dmoWritten i
  else if a = A.metCfg then s.writeMetCfg w
  else if a = A.serCfg (a / 0x1000 % 16) then s.writeSerCfg (a / 0x1000 % 16) w
  else if a = A.serCmd i && i < 12 then s.writeSerCmd i w
  else if a = A.serTxfifo i && i < 12 then s.writeTxfifo i w
  else s.writeReg a w

/-- A write from machine privilege to a register of a listed block, the `i`-th of its array. -/
def State.writeAt (s : State) (core : Nat) (rom : Bool) (a i : Nat) (w : Word) : State :=
  match blockOf a with
  | 0x10 => s.writeRadio a i w
  | 0x11 => s.writeRadio a i w
  | 0x13 => s.writeRadio a i w
  | 0x20 => s.writeLink a i w
  | 0x21 => s.writeLink a i w
  | 0x22 => s.writeNtm a w
  | 0x23 => s.writeLink a i w
  | 0x40 => s.writeSecurity false rom a i w
  | 0x50 => s.writeSecurity false rom a i w
  | 0x51 => s.writeSecurity false rom a i w
  | 0x52 => s.writeSecurity false rom a i w
  | 0x53 => s.writeSecurity false rom a i w
  | 0x60 => s.writeIcu core a i w
  | 0x61 => s.writeTime a i w
  | 0x62 => s.writeTime a i w
  | 0x63 => s.writeTime a i w
  | 0x70 => s.writeLum a i w
  | 0x71 => s.writeLum a i w
  | 0x72 => s.writeLum a i w
  | 0x73 => s.writeLum a i w
  | 0x80 => s.writeSecurity false rom a i w
  | b => if b < 6 then s.writeBase core a w else s.writeReg a w

/-- A write to a register that answers, by core `core`: one from user privilege changes nothing (R8), one to an unlisted
offset is ignored (R6). -/
def State.writeRegister (s : State) (core : Nat) (user rom : Bool) (a : Nat) (w : Word) : State :=
  let s := { s with busError := false }
  if user then s
  else
    match regAt a with
    | none => s
    | some (_, i) => s.writeAt core rom a i w

/-- REGISTER_WRITE (R5-R8): a bus write to a register, by Pip core 0's firmware. -/
def execRegisterWrite (user : Bool) (addr : Nat) (w : Word) (s : State) : Out :=
  .next (if !s.alive then s else if s.regAnswers addr then s.writeRegister 0 user false addr w else s.readError)

/-! ## Data accesses to storage (R29, R30, R282, R337, R380, R401, R473) -/

/-- A master that stalls: its access finds a cluster off that is switched on by demand (R24, R606). -/
def State.stalls (s : State) (a : Nat) : Bool :=
  (region a == Region.mainSram || (region a == Region.windows && addrExists a)) && s.onDemand (clusterOf a)

/-- A storage access that answers: something lies there, powered, and Pip cores may reach it. -/
def State.memAnswers (s : State) (a : Nat) : Bool := addrExists a && s.reaches a && !pipBarred a

/-- The site address of a word of storage, packed (R32). -/
def storageSite (a : Nat) : Nat :=
  let site (d c t m w : Nat) : Nat := Site.pack { depth := 5, d := d, c := c, t := t, m := m, w := w, b := 0 }
  match region a with
  | .mainSram =>
    let o := a - 0x20000000
    site 1 (o / 0x180000) (17 + o % 0x180000 / 0x40000) (o % 0x40000 / 0x4000) (o % 0x4000 / 8)
  | .retained => let o := a - 0x24000000; site 1 7 17 (o / 0x4000) (o % 0x4000 / 8)
  | .context => let o := a - 0x30000000; site 1 7 1 (o / 0x4000) (o % 0x4000 / 8)
  | .rom => site 1 7 18 (a / 0x4000) (a % 0x4000 / 8)
  | .flash => flashSite (a - 0x08000000)
  | _ => 0

/-- The ECC step of an access to the word at `a` by core `master`: true where the word is uncorrectable, which a fault
record names; a single-bit error is corrected, written back and, in flash, counted (R29, R404, R576). -/
def State.eccStep (s : State) (master a : Nat) : Bool × State :=
  match Sparse.find? s.ecc (a / 8) with
  | none => (false, s)
  | some true =>
    if region a == Region.flash then (true, s.flashUncorr (a - 0x08000000))
    else (true, s.captureFault 1 (storageSite a) master a 0 [])
  | some false =>
    let s := { s with ecc := Sparse.erase s.ecc (a / 8) }
    (false, if region a == Region.flash then (s.flcCount 0 1).raise F.flcIntstatCorr else s)

/-- A data read of `n` bytes that lie in one word, by core `master`: the number, with `busError` where it fails. `rom` says
that the instruction was fetched from the boot ROM. -/
def State.busLoad (s : State) (master : Nat) (rom : Bool) (a n : Nat) : Nat × State :=
  if region a == Region.registers then
    if n = 4 && s.regAnswers a then
      let s := s.readReg a 0
      (s.busData.toNat, s)
    else (0, s.readError)
  else if !s.memAnswers a then (0, s.readError)
  else if region a == Region.windows then
    let (v, s) := s.draw (2 ^ (8 * n))
    (v, s.answerRead (Word.ofN v))
  else if region a == Region.flash && !rom && s.xoTouches (a - 0x08000000) n then
    (0, (s.raise F.flcIntstatXoviol).readError)
  else
    let s := if region a == Region.flash then s.touchPlane (planeOf (a - 0x08000000)) else s
    let (bad, s) := s.eccStep master a
    if bad then (0, s.readError) else (s.mem a n, s.answerRead (Word.ofN (s.mem a n)))

/-- The byte that a bus write leaves in the link context RAM: the hardware part of a context takes writes only while the
context is FREE, and what hardware alone sets never does (R282). -/
def State.ctxWritten (s : State) (a : Nat) (b : Byte) : Byte :=
  let o := (a - 0x30000000) % 256
  let free := bitsOf (s.byte (a - o + 2)).toNat 0 4 == 0
  let old := s.byte a
  if 0x90 ≤ o then b
  else if !free || o < 3 || (0x20 ≤ o && o < 0x2C) || (0x30 ≤ o && o < 0x36) then old
  else if o = 3 then Byte.ofN (setBitsOf b.toNat 3 1 (bitsOf old.toNat 3 1))
  else b

/-- Bytes that a core's store leaves, each judged by the state before the access. -/
def State.storeBytes (s before : State) (a : Nat) (bs : List Byte) : State :=
  match bs with
  | [] => s
  | b :: t =>
    (s.setByte a (if region a == Region.context then before.ctxWritten a b else b)).storeBytes before (a + 1) t

/-- A data write of `n` bytes that lie in one word, by core `master`, with `busError` where it fails. -/
def State.busStore (s : State) (master : Nat) (user rom : Bool) (a n v : Nat) : State :=
  if region a == Region.registers then
    if n = 4 && s.regAnswers a then s.writeRegister master user rom a (Word.ofN v) else s.readError
  else if !s.memAnswers a || region a == Region.rom || region a == Region.flash then s.readError
  else if region a == Region.windows then { s with busError := false }
  else
    let (bad, s) := s.eccStep master a
    if bad then s.readError
    else
      let s := { s with busError := false }
      s.storeBytes s a (leBytes n v)

end Sys2Proof.Machine
end

