-- ==== Sys2Proof/Machine/Frames.lean ====
section
/-!
DEFINITION. Frames of the Host Serial Link as they arrive: the hunt for a frame, its check, and what it carries (R373-R377,
R385, R386), and the level of HSL_WAKE (R371).
-/

namespace Sys2Proof.Machine

/-- A host command by its code: what taking it means (R386); none for a code that is not assigned, or a notice's. -/
def hostRow (code : Nat) : Option (Origin → List Byte → State → Out) :=
  match code with
  | 0x00 => some execLinkOpen
  | 0x01 => some execLinkClose
  | 0x02 => some execLinkRelease
  | 0x03 => some execLinkSwap
  | 0x04 => some execLinkGet
  | 0x05 => some execTenantStatus
  | 0x10 => some execHslSync
  | 0x12 => some execModeSet
  | 0x13 => some execModeGet
  | 0x14 => some execSysReset
  | 0x15 => some execHslStatus
  | 0x20 => some execMsgSend
  | 0x21 => some execMsgRelease
  | 0x22 => some execFlowOpen
  | 0x23 => some execFlowClose
  | 0x24 => some execFlowEpoch
  | 0x25 => some execFlowGet
  | 0x26 => some execJrnStatus
  | 0x27 => some execHoldTest
  | 0x30 => some execFwWrite
  | 0x31 => some execFwErase
  | 0x32 => some execFwVerify
  | 0x33 => some execFwActivate
  | 0x34 => some execFwCancel
  | 0x35 => some execFwStatus
  | 0x36 => some execFwConfirm
  | 0x40 => some execBoardWrite
  | 0x41 => some execBoardErase
  | 0x42 => some execBoardVerify
  | 0x43 => some execBoardSwap
  | 0x44 => some execBoardAbort
  | 0x45 => some execBoardReload
  | 0x46 => some execBoardBootlist
  | 0x47 => some execBoardStatus
  | 0x50 => some execDfiWrite
  | 0x51 => some execDfiRead
  | 0x52 => some execRlrWrite
  | 0x53 => some execRlrRead
  | 0x54 => some execNvStatus
  | 0x55 => some execUserWrite
  | 0x56 => some execUserRead
  | 0x57 => some execUserErase
  | 0x60 => some execBistRun
  | 0x61 => some execBistResult
  | 0x62 => some execFcrRead
  | 0x63 => some execSnapRead
  | 0x70 => some execTimeGet
  | 0x71 => some execTimeSet
  | 0x80 => some execRfStatus
  | 0x81 => some execRfCal
  | 0x82 => some execRfDuty
  | 0x83 => some execWkrSet
  | 0x90 => some execSecStatus
  | 0x91 => some execKeyProvision
  | 0x92 => some execKeyRevoke
  | 0x93 => some execTamperClear
  | 0x94 => some execRngStatus
  | _ => none

/-- A frame whose CRC failed, or that RXOVF counts: counter `k`, flag `f` (R370, R374, R391). -/
def State.dropFrameAs (s : State) (k : Nat) (f : Fld) : State := (s.count (A.hslCtr k)).raise f

/-- A frame whose CRC passed (R375, R377): `kc` its KIND and CHANNEL byte, `p` its payload. -/
def State.takeFrameIn (s : State) (ep : Endpoint) (kc seq : Nat) (p : List Byte) : State :=
  let ch := kc / 16
  let o : Origin := { ep := ep, ch := ch, seq := seq }
  match kc % 16 with
  | 1 =>
    let code := byteAt p 0
    if ch = 15 then (s.frameIn none).badFrame
    else if p.length < 2 || byteAt p 1 != 0 then badForm o code (s.frameIn (some o))
    else
      match hostRow code with
      | some h => (match h o (p.drop 2) s with | .next t => t | _ => s)
      | none => (s.frameIn (some o)).answer o code .unknownCommand []
  | 4 =>
    let s := s.frameIn none
    if !p.isEmpty then s.badFrame
    else if ch = 15 then (if ep = .debug then s.badFrame else s.ackNotice seq)
    else if (s.chan ep ch).last == some seq then s
    else s.badFrame
  | _ => (s.frameIn none).badFrame

/-- The hunt for frames in the bytes received (R374): a LENGTH above 4,096 is discarded at once, a frame whose CRC fails
is counted; after any discard the hunt goes on at the byte after the DELIM it tried. -/
def State.hunt (fuel : Nat) (ep : Endpoint) (room : Bool) (s : State) (bs : List Byte) : State :=
  match fuel, bs with
  | 0, _ => s
  | _, [] => s
  | fuel + 1, b :: rest =>
    let len := leAt rest 0 2
    if b != 0xD7 then State.hunt fuel ep room s rest
    else if rest.length < 2 then s
    else if 4096 < len then State.hunt fuel ep room (s.count (A.hslCtr 2)) rest
    else if rest.length < len + 9 then s
    else if crc32c (rest.take (len + 5)) != leAt rest (len + 5) 4 then
      State.hunt fuel ep room (s.dropFrameAs 2 F.hslIntstatCrcerr) rest
    else
      let after := rest.drop (len + 9)
      if !room then State.hunt fuel ep room (s.dropFrameAs 4 F.hslIntstatRxovf) after
      else State.hunt fuel ep room (s.takeFrameIn ep (byteAt rest 2) (leAt rest 3 2) ((rest.drop 5).take len)) after

/-- HSL_FRAME (R370, R374): the bytes of a frame have arrived on an endpoint; `room` says that the receive buffer had room
for it. -/
def execHslFrame (ep : Endpoint) (room : Bool) (p : List Byte) (s : State) : Out :=
  .next (if s.hearsHost ep then State.hunt p.length ep room s p else s)

/-- HSL_WAKE (R371): the ball changes level. A rise is the host-wake source; what waits for the local link may go. -/
def execHslWake (level : Bool) (s : State) : Out :=
  .next (
    let rises := level && !s.hsl.wake
    let s := { s with hsl := { s.hsl with wake := level } }
    let s := if rises && s.comUp then s.raise F.hslIntstatWake else s
    let s := s.flushWaiting
    if rises then s.wake 18 else s)

end Sys2Proof.Machine
end

