-- ==== Sys2Proof/Machine/Operands.lean ====
section
/-!
DEFINITION. The Pip instruction set's encodings (R492-R501): what an instruction word spells, operand fields and all, and
the integer functions.
-/

namespace Sys2Proof.Machine

/-- A Pip instruction, its immediates sign-extended to 32 bits. A short form is the 32-bit instruction it names (R499);
`li`, `movl` and `movh` are the short forms that name none. -/
inductive PipInsn where
  | alu (fn d a b : Nat)
  | movl (d a : Nat)
  | movh (d a : Nat)
  | addi (d a imm : Nat)
  | li (d imm : Nat)
  | andi (d a imm : Nat)
  | ori (d a imm : Nat)
  | xori (d a imm : Nat)
  | tlti (d a imm : Nat)
  | tltiu (d a imm : Nat)
  | shi (d a kind sh : Nat)
  | ldhi (d imm : Nat)
  | addpch (d imm : Nat)
  | ldb (d a imm : Nat)
  | ldbu (d a imm : Nat)
  | ldh (d a imm : Nat)
  | ldhu (d a imm : Nat)
  | ldw (d a imm : Nat)
  | stb (d a imm : Nat)
  | sth (d a imm : Nat)
  | stw (d a imm : Nat)
  | memx (d a b sc sz mode : Nat) (st : Bool)
  | ldf (d a imm : Nat)
  | stf (d a imm : Nat)
  | br (cond a b disp : Nat)
  | j (disp : Nat)
  | call (disp : Nat)
  | jr (a : Nat)
  | callr (a : Nat)
  | ret
  | getdsp (d : Nat)
  | setdsp (a : Nat)
  | push (a : Nat)
  | pop (d : Nat)
  | getrsp (d : Nat)
  | mfs (d idx : Nat)
  | mts (a idx : Nat)
  | trap (code : Nat)
  | eret
  | wait
  | swap (d a b : Nat)
  | cas (d a b : Nat)
  | setie (d ie : Nat)
  | fp (fn rm d a b : Nat)
  | dspm (sub d imm : Nat)
  deriving DecidableEq, Repr

/-- A `k`-bit field sign-extended to 32 bits. -/
def sx (k n : Nat) : Nat := if n < 2 ^ (k - 1) then n else n + 2 ^ 32 - 2 ^ k

/-- Addition modulo 2^32. -/
def add32 (a b : Nat) : Nat := (a + b) % 2 ^ 32

/-! ## The system registers that exist (R504) -/

/-- An index the map assigns; the sentinel has MPU regions 0-3 and no FPSTAT (R503, R504). -/
def sysAssigned (sentinel : Bool) (idx : Nat) : Bool :=
  idx ≤ 0x0D || (0x10 ≤ idx && idx ≤ 0x12) || idx == 0x20
  || (0x30 ≤ idx && idx < 0x30 + (if sentinel then 8 else 32)) || (idx == 0x60 && !sentinel)

/-- A register marked "user" (R504). -/
def sysUser (idx : Nat) : Bool := (0x10 ≤ idx && idx ≤ 0x12) || idx == 0x60

/-! ## Which encodings are reserved (R495-R501, R503) -/

/-- An ALU function that exists; the sentinel has no division (R495, R503). -/
def aluExists (sentinel : Bool) (fn : Nat) : Bool :=
  fn ≤ 0x0D || (0x10 ≤ fn && fn ≤ 0x12) || (!sentinel && 0x14 ≤ fn && fn ≤ 0x17)

/-- A floating-point function that exists (R501). -/
def fpExists (fn : Nat) : Bool := fn ≤ 0x09 || (0x10 ≤ fn && fn ≤ 0x15) || (0x18 ≤ fn && fn ≤ 0x1A)

/-- A function that rounds (R501). -/
def fpRounds (fn : Nat) : Bool := fn ≤ 0x04 || fn == 0x07 || (0x10 ≤ fn && fn ≤ 0x13)

/-- A function whose B field is zero (R501). -/
def fpNoB (fn : Nat) : Bool := fn == 0x04 || fn == 0x08 || fn == 0x09

/-- The legal MEMX encodings (R496, R503). -/
def memxOk (sentinel : Bool) (d a b sc sz mode : Nat) (st : Bool) : Bool :=
  sz ≤ 5 && !(st && (sz == 1 || sz == 3)) && mode ≤ 2 && !(sentinel && sz == 5)
  && (mode == 0 || (b == 0 && sc == 0 && d != a))

/-- An instruction, or none where a check of its fields fails. -/
def keep (ok : Bool) (i : PipInsn) : Option PipInsn := if ok then some i else none

/-! ## 32-bit instructions (R493-R498, R501) -/

/-- The STK functions (R497). -/
def decodeStk (fn d a b : Nat) : Option PipInsn :=
  match fn with
  | 0 => keep (d = 0 && b = 0) (.jr a)
  | 1 => keep (d = 0 && b = 0) (.callr a)
  | 2 => keep (d = 0 && a = 0 && b = 0) .ret
  | 3 => keep (a = 0 && b = 0) (.getdsp d)
  | 4 => keep (d = 0 && b = 0) (.setdsp a)
  | 5 => keep (d = 0 && b = 0) (.push a)
  | 6 => keep (a = 0 && b = 0) (.pop d)
  | 7 => keep (a = 0 && b = 0) (.getrsp d)
  | _ => none

/-- The SYS functions (R498). -/
def decodeSys (sentinel : Bool) (fn d a b idx : Nat) : Option PipInsn :=
  match fn with
  | 0 => keep (a = 0 && b = 0 && sysAssigned sentinel idx) (.mfs d idx)
  | 1 => keep (d = 0 && b = 0 && sysAssigned sentinel idx) (.mts a idx)
  | 2 => keep (d = 0 && a = 0 && b = 0) (.trap idx)
  | 3 => keep (d = 0 && a = 0 && b = 0 && idx = 0) .eret
  | 4 => keep (d = 0 && a = 0 && b = 0 && idx = 0) .wait
  | 5 => keep (idx = 0) (.swap d a b)
  | 6 => keep (idx = 0) (.cas d a b)
  | 7 => keep (a = 0 && b = 0 && idx < 2) (.setie d idx)
  | _ => none

/-- A 32-bit instruction word (R493, R494). -/
def decode32 (sentinel : Bool) (w : Nat) : Option PipInsn :=
  let d := bitsOf w 22 4
  let a := bitsOf w 18 4
  let b := bitsOf w 14 4
  let imm := sx 18 (bitsOf w 0 18)
  match bitsOf w 26 5 with
  | 0x00 => keep (bitsOf w 6 8 = 0 && aluExists sentinel (bitsOf w 0 6)) (.alu (bitsOf w 0 6) d a b)
  | 0x01 => some (.addi d a imm)
  | 0x02 => some (.andi d a imm)
  | 0x03 => some (.ori d a imm)
  | 0x04 => some (.xori d a imm)
  | 0x05 => some (.tlti d a imm)
  | 0x06 => some (.tltiu d a imm)
  | 0x07 => keep (bitsOf w 7 11 = 0 && bitsOf w 5 2 < 3) (.shi d a (bitsOf w 5 2) (bitsOf w 0 5))
  | 0x08 => some (.ldhi d (bitsOf w 0 22 * 1024))
  | 0x09 => some (.addpch d (bitsOf w 0 22 * 1024))
  | 0x0A => some (.ldb d a imm)
  | 0x0B => some (.ldbu d a imm)
  | 0x0C => some (.ldh d a imm)
  | 0x0D => some (.ldhu d a imm)
  | 0x0E => some (.ldw d a imm)
  | 0x0F => some (.stb d a imm)
  | 0x10 => some (.sth d a imm)
  | 0x11 => some (.stw d a imm)
  | 0x12 =>
    let sc := bitsOf w 12 2
    let sz := bitsOf w 9 3
    let mode := bitsOf w 7 2
    let st := bitAt w 6
    keep (bitsOf w 0 6 = 0 && memxOk sentinel d a b sc sz mode st) (.memx d a b sc sz mode st)
  | 0x13 => keep (!sentinel) (.ldf d a imm)
  | 0x14 => keep (!sentinel) (.stf d a imm)
  | 0x15 => keep (d ≤ 9 && (d ≤ 5 || b = 0)) (.br d a b (2 * sx 14 (bitsOf w 0 14)))
  | 0x16 => some (.j (2 * sx 26 (bitsOf w 0 26)))
  | 0x17 => some (.call (2 * sx 26 (bitsOf w 0 26)))
  | 0x18 => if bitsOf w 6 8 = 0 then decodeStk (bitsOf w 0 6) d a b else none
  | 0x19 => decodeSys sentinel (bitsOf w 0 4) d a b (bitsOf w 4 10)
  | 0x1A =>
    let fn := bitsOf w 0 6
    let rm := bitsOf w 11 3
    keep (!sentinel && bitsOf w 6 5 = 0 && fpExists fn && rm ≤ 4 && (fpRounds fn || rm = 0) && (!fpNoB fn || b = 0))
      (.fp fn rm d a b)
  | 0x1B => keep (a ≤ 5 && (a != 2 || d = 0) && !(sentinel && (a = 3 || a = 4))) (.dspm a d imm)
  | _ => none

/-! ## 16-bit instructions (R499) -/

/-- The STK.S functions (R499). -/
def decodeStkS (h : Nat) : Option PipInsn :=
  let d := bitsOf h 4 3
  let low := bitsOf h 0 4 = 0
  match bitsOf h 7 3 with
  | 0 => keep (bitsOf h 0 7 = 0) .ret
  | 1 => keep low (.jr d)
  | 2 => keep low (.callr d)
  | 3 => keep low (.push d)
  | 4 => keep low (.pop d)
  | 5 => some (.dspm 2 0 (4 * sx 7 (bitsOf h 0 7) % 2 ^ 32))
  | 6 => keep (bitsOf h 0 1 = 0) (.movl d (bitsOf h 1 3))
  | _ => keep (bitsOf h 0 1 = 0) (.movh d (bitsOf h 1 3))

/-- The function of the ALU that an ALU.S function names; MOV is OR of a register with itself (R499). -/
def aluShort (fn d a : Nat) : PipInsn :=
  match fn with
  | 0 => .alu 0x03 d a a
  | 1 => .alu 0x00 d d a
  | 2 => .alu 0x01 d d a
  | 3 => .alu 0x02 d d a
  | 4 => .alu 0x03 d d a
  | 5 => .alu 0x04 d d a
  | 6 => .alu 0x05 d d a
  | _ => .alu 0x06 d d a

/-- A 16-bit instruction (R499, R500). -/
def decode16 (h : Nat) : Option PipInsn :=
  let d := bitsOf h 7 3
  let a := bitsOf h 4 3
  let u4 := bitsOf h 0 4
  let u7 := bitsOf h 0 7
  let s7 := sx 7 u7
  let b := bitsOf h 1 3
  let last := bitsOf h 0 1 = 0
  match bitsOf h 10 5 with
  | 0x00 => keep (h != 0) (.ldw d a (4 * u4))
  | 0x01 => some (.stw d a (4 * u4))
  | 0x02 => some (.dspm 0 d (4 * u7))
  | 0x03 => some (.dspm 1 d (4 * u7))
  | 0x04 => some (.ldbu d a u4)
  | 0x05 => some (.stb d a u4)
  | 0x06 => some (.ldhu d a (2 * u4))
  | 0x07 => some (.sth d a (2 * u4))
  | 0x08 => some (.addi d d s7)
  | 0x09 => some (.li d s7)
  | 0x0A => keep (bitsOf h 3 1 = 0) (aluShort (bitsOf h 0 3) d a)
  | 0x0B => keep (bitsOf h 5 2 < 3) (.shi d d (bitsOf h 5 2) (bitsOf h 0 5))
  | 0x0C => some (.br 6 d 0 (2 * s7))
  | 0x0D => some (.br 7 d 0 (2 * s7))
  | 0x0E => some (.j (2 * sx 10 (bitsOf h 0 10)))
  | 0x0F => some (.call (2 * sx 10 (bitsOf h 0 10)))
  | 0x10 => keep last (.alu 0x00 d a b)
  | 0x11 => keep last (.alu 0x01 d a b)
  | 0x12 => keep last (.memx d a b 2 4 0 false)
  | 0x13 => keep (u4 = 0 && d != a) (.memx d a 0 0 4 1 false)
  | 0x14 => keep (u4 = 0 && d != a) (.memx d a 0 0 4 2 true)
  | 0x15 => some (.andi d d u7)
  | 0x16 => decodeStkS h
  | _ => none

/-- The instruction that a word spells, a 16-bit one extended with zeros (R492, R500); none for a reserved encoding. -/
def pipDecode (sentinel : Bool) (w : Word) : Option PipInsn :=
  if bitAt w.toNat 31 then decode32 sentinel w.toNat
  else if w.toNat < 2 ^ 15 then decode16 w.toNat
  else none

/-! ## The 32-bit words of the instructions (R493-R498, R501) -/

/-- A 32-bit word: bit 31, the major opcode, D, A and the low 18 bits. -/
def pipWord (op d a low : Nat) : Nat := 2 ^ 31 + op * 2 ^ 26 + d * 2 ^ 22 + a * 2 ^ 18 + low

/-- The 32-bit word that spells an instruction; the short forms that name no other (R499) have none, shown as 0. -/
def pipEncode32 : PipInsn → Nat
  | .alu fn d a b => pipWord 0x00 d a (b * 2 ^ 14 + fn)
  | .movl _ _ => 0
  | .movh _ _ => 0
  | .addi d a imm => pipWord 0x01 d a (imm % 2 ^ 18)
  | .li _ _ => 0
  | .andi d a imm => pipWord 0x02 d a (imm % 2 ^ 18)
  | .ori d a imm => pipWord 0x03 d a (imm % 2 ^ 18)
  | .xori d a imm => pipWord 0x04 d a (imm % 2 ^ 18)
  | .tlti d a imm => pipWord 0x05 d a (imm % 2 ^ 18)
  | .tltiu d a imm => pipWord 0x06 d a (imm % 2 ^ 18)
  | .shi d a kind sh => pipWord 0x07 d a (kind * 2 ^ 5 + sh)
  | .ldhi d imm => pipWord 0x08 d 0 (imm / 2 ^ 10)
  | .addpch d imm => pipWord 0x09 d 0 (imm / 2 ^ 10)
  | .ldb d a imm => pipWord 0x0A d a (imm % 2 ^ 18)
  | .ldbu d a imm => pipWord 0x0B d a (imm % 2 ^ 18)
  | .ldh d a imm => pipWord 0x0C d a (imm % 2 ^ 18)
  | .ldhu d a imm => pipWord 0x0D d a (imm % 2 ^ 18)
  | .ldw d a imm => pipWord 0x0E d a (imm % 2 ^ 18)
  | .stb d a imm => pipWord 0x0F d a (imm % 2 ^ 18)
  | .sth d a imm => pipWord 0x10 d a (imm % 2 ^ 18)
  | .stw d a imm => pipWord 0x11 d a (imm % 2 ^ 18)
  | .memx d a b sc sz mode st =>
    pipWord 0x12 d a (b * 2 ^ 14 + sc * 2 ^ 12 + sz * 2 ^ 9 + mode * 2 ^ 7 + (if st then 2 ^ 6 else 0))
  | .ldf d a imm => pipWord 0x13 d a (imm % 2 ^ 18)
  | .stf d a imm => pipWord 0x14 d a (imm % 2 ^ 18)
  | .br cond a b disp => pipWord 0x15 cond a (b * 2 ^ 14 + disp / 2 % 2 ^ 14)
  | .j disp => pipWord 0x16 0 0 (disp / 2 % 2 ^ 26)
  | .call disp => pipWord 0x17 0 0 (disp / 2 % 2 ^ 26)
  | .jr a => pipWord 0x18 0 a 0
  | .callr a => pipWord 0x18 0 a 1
  | .ret => pipWord 0x18 0 0 2
  | .getdsp d => pipWord 0x18 d 0 3
  | .setdsp a => pipWord 0x18 0 a 4
  | .push a => pipWord 0x18 0 a 5
  | .pop d => pipWord 0x18 d 0 6
  | .getrsp d => pipWord 0x18 d 0 7
  | .mfs d idx => pipWord 0x19 d 0 (idx * 2 ^ 4)
  | .mts a idx => pipWord 0x19 0 a (idx * 2 ^ 4 + 1)
  | .trap code => pipWord 0x19 0 0 (code * 2 ^ 4 + 2)
  | .eret => pipWord 0x19 0 0 3
  | .wait => pipWord 0x19 0 0 4
  | .swap d a b => pipWord 0x19 d a (b * 2 ^ 14 + 5)
  | .cas d a b => pipWord 0x19 d a (b * 2 ^ 14 + 6)
  | .setie d ie => pipWord 0x19 d 0 (ie * 2 ^ 4 + 7)
  | .fp fn rm d a b => pipWord 0x1A d a (b * 2 ^ 14 + rm * 2 ^ 11 + fn)
  | .dspm sub d imm => pipWord 0x1B d sub (imm % 2 ^ 18)

/-- It may run in machine privilege only (R471). -/
def PipInsn.privileged : PipInsn → Bool
  | .eret => true
  | .wait => true
  | .setie _ _ => true
  | .mfs _ idx => !sysUser idx
  | .mts _ idx => !sysUser idx
  | _ => false

/-! ## Integer functions -/

/-- A shift: 0 left, 1 right logical, 2 right arithmetic (R494). -/
def shift32 (kind : Nat) (a : Word) (n : Nat) : Word :=
  match kind with
  | 0 => a <<< n
  | 1 => a >>> n
  | _ => a.sshiftRight n

/-- 1 for true, as a word. -/
def truth (b : Bool) : Word := if b then 1 else 0

/-- Division with a divisor of zero giving a quotient of 0 and a remainder of A (R495). -/
def quot (a b : Word) : Word := if b = 0 then 0 else BitVec.ofInt 32 (Int.tdiv a.toInt b.toInt)
/-- The remainder of `quot`. -/
def rem (a b : Word) : Word := if b = 0 then a else BitVec.ofInt 32 (Int.tmod a.toInt b.toInt)

/-- The ALU functions (R495). -/
def aluFn (fn : Nat) (a b : Word) : Word :=
  match fn with
  | 0x00 => a + b
  | 0x01 => a - b
  | 0x02 => a &&& b
  | 0x03 => a ||| b
  | 0x04 => a ^^^ b
  | 0x05 => shift32 0 a (b.toNat % 32)
  | 0x06 => shift32 1 a (b.toNat % 32)
  | 0x07 => shift32 2 a (b.toNat % 32)
  | 0x08 => truth (a.toInt < b.toInt)
  | 0x09 => truth (a.toNat < b.toNat)
  | 0x0A => if a.toInt < b.toInt then a else b
  | 0x0B => if a.toInt < b.toInt then b else a
  | 0x0C => if a.toNat < b.toNat then a else b
  | 0x0D => if a.toNat < b.toNat then b else a
  | 0x10 => a * b
  | 0x11 => BitVec.ofInt 32 (a.toInt * b.toInt / 2 ^ 32)
  | 0x12 => Word.ofN (a.toNat * b.toNat / 2 ^ 32)
  | 0x14 => quot a b
  | 0x15 => if b = 0 then 0 else Word.ofN (a.toNat / b.toNat)
  | 0x16 => rem a b
  | _ => if b = 0 then a else Word.ofN (a.toNat % b.toNat)

/-- The BR conditions (R497). -/
def brTaken (cond : Nat) (a b : Word) : Bool :=
  match cond with
  | 0 => a == b
  | 1 => a != b
  | 2 => a.toInt < b.toInt
  | 3 => b.toInt ≤ a.toInt
  | 4 => a.toNat < b.toNat
  | 5 => b.toNat ≤ a.toNat
  | 6 => a == 0
  | 7 => a != 0
  | 8 => a.toInt < 0
  | _ => 0 ≤ a.toInt

end Sys2Proof.Machine
end

