-- ==== Sys2Proof/Machine/Flags.lean ====
section
/-!
DEFINITION. Floating point on binary32 (R501): exact results, their rounding, and the flags they raise, which are bit 0 IV,
1 DZ, 2 OF, 3 UF, 4 IX as `FPSTAT.FLAGS` holds them (R505).
-/

namespace Sys2Proof.Machine

/-! ## The format -/

/-- The sign bit. -/
def fSign (w : Word) : Bool := bitAt w.toNat 31
/-- The exponent field. -/
def fExp (w : Word) : Nat := bitsOf w.toNat 23 8
/-- The fraction field. -/
def fFrac (w : Word) : Nat := bitsOf w.toNat 0 23
/-- A NaN. -/
def fNan (w : Word) : Bool := fExp w == 255 && fFrac w != 0
/-- A signalling NaN: its quiet bit is clear. -/
def fSnan (w : Word) : Bool := fNan w && !bitAt w.toNat 22
/-- An infinity. -/
def fInf (w : Word) : Bool := fExp w == 255 && fFrac w == 0
/-- A zero. -/
def fZero (w : Word) : Bool := fExp w == 0 && fFrac w == 0
/-- The significand of a finite number, as an integer. -/
def fMant (w : Word) : Nat := if fExp w = 0 then fFrac w else fFrac w + 2 ^ 23
/-- The exponent of its last place: the number is `fMant * 2 ^ fUnit`. -/
def fUnit (w : Word) : Int := if fExp w = 0 then -149 else (fExp w : Int) - 150

/-- A number from its sign and magnitude bits. -/
def fPack (sign : Bool) (n : Nat) : Word := Word.ofN (2 ^ 31 * b2n sign + n)
/-- An infinity. -/
def fInfOf (sign : Bool) : Word := fPack sign 0x7F800000
/-- The NaN of an invalid operation (R501). -/
def qNan : Word := 0x7FC00000
/-- A NaN made quiet (R501). -/
def quiet (w : Word) : Word := w ||| 0x00400000

/-- A result and the flags it raises. -/
structure FpOut where
  val   : Word
  flags : Nat
  deriving DecidableEq, Repr

/-- IV. -/
def fIV : Nat := 1
/-- DZ. -/
def fDZ : Nat := 2
/-- OF. -/
def fOF : Nat := 4
/-- UF. -/
def fUF : Nat := 8
/-- IX. -/
def fIX : Nat := 16

/-! ## Rounding -/

/-- Does a result of `kept` whole units and `rest` of `unit` parts, with more beyond where `sticky`, round away from zero
under an attribute: 0 to nearest even, 1 toward zero, 2 negative, 3 positive (R501). -/
def roundsUp (rm : Nat) (sign : Bool) (kept rest unit : Nat) (sticky : Bool) : Bool :=
  let inexact := rest != 0 || sticky
  match rm with
  | 0 => unit < 2 * rest || (2 * rest == unit && rest != 0 && (sticky || kept % 2 == 1))
  | 1 => false
  | 2 => inexact && sign
  | _ => inexact && !sign

/-- A magnitude `m * 2 ^ e` in whole units of `2 ^ q`: what is kept, what is left, and the parts in a unit. -/
def inUnits (m : Nat) (e q : Int) : Nat × Nat × Nat :=
  let k := (q - e).toNat
  if e < q then (m / 2 ^ k, m % 2 ^ k, 2 ^ k) else (m * 2 ^ (e - q).toNat, 0, 1)

/-- The result of an overflow (R501, IEEE 754). -/
def overflowed (rm : Nat) (sign : Bool) : Word :=
  let toInf := match rm with | 0 => true | 1 => false | 2 => sign | _ => !sign
  if toInf then fInfOf sign else fPack sign 0x7F7FFFFF

/-- A nonzero number `m * 2 ^ e`, with more beyond its last place where `sticky`, rounded to binary32. Whether tininess is
detected before or after rounding IEEE 754 leaves to the implementation. -/
def roundF (rm : Nat) (sign : Bool) (m : Nat) (e : Int) (sticky : Bool) : FpOut :=
  let len : Int := (Nat.log2 m : Int) + 1
  let q : Int := max (e + len - 24) (-149)
  let (kept, rest, unit) := inUnits m e q
  let inexact := rest != 0 || sticky
  let n := kept + b2n (roundsUp rm sign kept rest unit sticky)
  let wide := inUnits m e (e + len - 24)
  let up := wide.1 + b2n (roundsUp rm sign wide.1 wide.2.1 wide.2.2 sticky)
  let tinyBefore := e + len ≤ -126
  let tinyAfter := tinyBefore && !(e + len == -126 && up == 2 ^ 24)
  let tiny := if Config.tinyAfterRounding then tinyAfter else tinyBefore
  let bits := if n < 2 ^ 23 then n else n - 2 ^ 23 + 2 ^ 23 * (q + 150).toNat
  if 0x7F800000 ≤ bits then { val := overflowed rm sign, flags := fOF + fIX }
  else { val := fPack sign bits, flags := (if inexact then fIX else 0) + (if inexact && tiny then fUF else 0) }

/-- An exact sum of signed magnitudes at one exponent, rounded; an exact zero takes the sign `zeroSign`. -/
def roundSum (rm : Nat) (v : Int) (e : Int) (zeroSign : Bool) : FpOut :=
  if v = 0 then { val := fPack zeroSign 0, flags := 0 } else roundF rm (v < 0) v.natAbs e false

/-! ## NaN results (R501) -/

/-- The NaN that operands supply: the first, made quiet; a signalling one raises IV. -/
def nanOf (ops : List Word) : Option FpOut :=
  match ops.find? fNan with
  | none => none
  | some n => some { val := quiet n, flags := if ops.any fSnan then fIV else 0 }

/-- An invalid operation with no NaN operand. -/
def invalid : FpOut := { val := qNan, flags := fIV }

/-! ## Arithmetic -/

/-- A finite number as a signed integer at an exponent no higher than its own. -/
def scaled (w : Word) (e : Int) : Int :=
  let m : Int := (fMant w * 2 ^ (fUnit w - e).toNat : Nat)
  if fSign w then -m else m

/-- FADD. -/
def fAdd (rm : Nat) (a b : Word) : FpOut :=
  match nanOf [a, b] with
  | some r => r
  | none =>
    if fInf a then (if fInf b && fSign a != fSign b then invalid else { val := a, flags := 0 })
    else if fInf b then { val := b, flags := 0 }
    else
      let e := min (fUnit a) (fUnit b)
      let zs := if fZero a && fZero b && fSign a == fSign b then fSign a else rm == 2
      roundSum rm (scaled a e + scaled b e) e zs

/-- The number with the other sign. -/
def fNeg (w : Word) : Word := w ^^^ 0x80000000

/-- FMUL. -/
def fMul (rm : Nat) (a b : Word) : FpOut :=
  let sign := fSign a != fSign b
  match nanOf [a, b] with
  | some r => r
  | none =>
    if fInf a || fInf b then (if fZero a || fZero b then invalid else { val := fInfOf sign, flags := 0 })
    else if fZero a || fZero b then { val := fPack sign 0, flags := 0 }
    else roundF rm sign (fMant a * fMant b) (fUnit a + fUnit b) false

/-- FDIV. -/
def fDiv (rm : Nat) (a b : Word) : FpOut :=
  let sign := fSign a != fSign b
  match nanOf [a, b] with
  | some r => r
  | none =>
    if fInf a then (if fInf b then invalid else { val := fInfOf sign, flags := 0 })
    else if fInf b then { val := fPack sign 0, flags := 0 }
    else if fZero b then (if fZero a then invalid else { val := fInfOf sign, flags := fDZ })
    else if fZero a then { val := fPack sign 0, flags := 0 }
    else
      let n := fMant a * 2 ^ 50
      roundF rm sign (n / fMant b) (fUnit a - fUnit b - 50) (n % fMant b != 0)

/-- The integer square root. -/
def isqrtAux (fuel n lo hi : Nat) : Nat :=
  match fuel with
  | 0 => lo
  | fuel + 1 =>
    let mid := (lo + hi) / 2
    if mid * mid ≤ n then isqrtAux fuel n mid hi else isqrtAux fuel n lo mid

/-- FSQRT. -/
def fSqrt (rm : Nat) (a : Word) : FpOut :=
  match nanOf [a] with
  | some r => r
  | none =>
    if fZero a then { val := a, flags := 0 }
    else if fSign a then invalid
    else if fInf a then { val := a, flags := 0 }
    else
      -- an even exponent, and a significand wide enough for 26 bits of root
      let odd : Nat := if fUnit a % 2 = 0 then 0 else 1
      let n := fMant a * 2 ^ (52 + odd)
      let e : Int := (fUnit a - 52 - odd) / 2
      let r := isqrtAux 42 n 0 (2 ^ 40)
      roundF rm false r e (r * r != n)

/-- FMAC: fD + fA * fB with one rounding. IEEE 754 leaves open whether infinity times zero raises IV beside a quiet NaN
in fD. -/
def fMac (rm : Nat) (d a b : Word) : FpOut :=
  let ps := fSign a != fSign b
  let bad := (fInf a && fZero b) || (fZero a && fInf b)
  match nanOf [a, b, d] with
  | some r => if bad && Config.fmacNanInvalid then { r with flags := fIV } else r
  | none =>
    if bad then invalid
    else if fInf a || fInf b then
      (if fInf d && fSign d != ps then invalid else { val := fInfOf ps, flags := 0 })
    else if fInf d then { val := d, flags := 0 }
    else
      let pe := fUnit a + fUnit b
      let e := min pe (fUnit d)
      let p : Int := (fMant a * fMant b * 2 ^ (pe - e).toNat : Nat)
      let p := if ps then -p else p
      let pz := fZero a || fZero b
      let zs := if pz && fZero d && ps == fSign d then ps else rm == 2
      roundSum rm (p + scaled d e) e zs

/-! ## Comparisons -/

/-- The order of two numbers, infinities in their places: negative, zero or positive for below, equal, above. -/
def fOrder (a b : Word) : Int :=
  let key (w : Word) : Int := if fSign w then -((w.toNat % 2 ^ 31 : Nat) : Int) else ((w.toNat % 2 ^ 31 : Nat) : Int)
  key a - key b

/-- minimumNumber and maximumNumber (R501): a NaN gives way to a number; a signalling one raises IV. -/
def fPickMin (isMax : Bool) (a b : Word) : FpOut :=
  let flags := if fSnan a || fSnan b then fIV else 0
  if fNan a && fNan b then { val := quiet a, flags := flags }
  else if fNan a then { val := b, flags := flags }
  else if fNan b then { val := a, flags := flags }
  else
    let below := if fZero a && fZero b then fSign a else fOrder a b < 0
    { val := if below == isMax then b else a, flags := flags }

/-- FCMPEQ, FCMPLT and FCMPLE (R501). -/
def fCmp (fn : Nat) (a b : Word) : FpOut :=
  if fNan a || fNan b then
    { val := 0, flags := if fn != 0x18 || fSnan a || fSnan b then fIV else 0 }
  else
    let o := fOrder a b
    { val := truth (match fn with | 0x18 => o == 0 | 0x19 => decide (o < 0) | _ => decide (o ≤ 0)), flags := 0 }

/-! ## Conversions -/

/-- ITOF and UTOF. -/
def fFromInt (rm : Nat) (v : Int) : FpOut := roundSum rm v 0 false

/-- FTOI and FTOU: rounded, then saturated between bounds (R501). The manual does not say whether a rounded result that
fits raises IX. -/
def fToInt (rm : Nat) (a : Word) (lo hi : Int) : FpOut :=
  if fNan a then { val := 0, flags := fIV }
  else if fInf a then { val := BitVec.ofInt 32 (if fSign a then lo else hi), flags := fIV }
  else
    let (kept, rest, unit) := inUnits (fMant a) (fUnit a) 0
    let n : Int := ((kept + b2n (roundsUp rm (fSign a) kept rest unit false) : Nat) : Int)
    let n := if fSign a then -n else n
    if hi < n then { val := BitVec.ofInt 32 hi, flags := fIV }
    else if n < lo then { val := BitVec.ofInt 32 lo, flags := fIV }
    else { val := BitVec.ofInt 32 n, flags := if rest != 0 && Config.ftoiInexact then fIX else 0 }

/-! ## The functions (R501) -/

/-- Does a function take gA? -/
def fpFromG (fn : Nat) : Bool := fn == 0x10 || fn == 0x11 || fn == 0x14
/-- Does it write gD? -/
def fpToG (fn : Nat) : Bool := fn == 0x12 || fn == 0x13 || fn == 0x15 || 0x18 ≤ fn

/-- The result of a floating-point function on its A, B and D operands, under a rounding attribute 0-3. -/
def fpFn (fn rm : Nat) (a b d : Word) : FpOut :=
  match fn with
  | 0x00 => fAdd rm a b
  | 0x01 => if fNan b then fAdd rm a b else fAdd rm a (fNeg b)
  | 0x02 => fMul rm a b
  | 0x03 => fDiv rm a b
  | 0x04 => fSqrt rm a
  | 0x05 => fPickMin false a b
  | 0x06 => fPickMin true a b
  | 0x07 => fMac rm d a b
  | 0x08 => { val := fNeg a, flags := 0 }
  | 0x09 => { val := a &&& 0x7FFFFFFF, flags := 0 }
  | 0x10 => fFromInt rm a.toInt
  | 0x11 => fFromInt rm a.toNat
  | 0x12 => fToInt rm a (-(2 ^ 31)) (2 ^ 31 - 1)
  | 0x13 => fToInt rm a 0 (2 ^ 32 - 1)
  | 0x14 => { val := a, flags := 0 }
  | 0x15 => { val := a, flags := 0 }
  | _ => fCmp fn a b

end Sys2Proof.Machine
end

