-- ==== Sys2Proof/Machine/Pip.lean ====
section
/-!
DEFINITION. The Pip cores: fetch, data accesses and their protection, exceptions, lockup, system registers, and one meaning
for each row of the instruction set (R470-R505). A Pip row's operands are the core and the instruction word as EINSN would
show it (R500); the row has its effect where the core fetches that word at its pc.
-/

namespace Sys2Proof.Machine

/-! ## A core (R470, R471) -/

/-- Set a core's pc. -/
def State.setPc (s : State) (k a : Nat) : State := s.setCore k { s.core k with pc := Word.ofN a }

/-- A core's pc. -/
def State.pc (s : State) (k : Nat) : Nat := (s.core k).pc.toNat

/-- A core's dsp. -/
def State.dsp (s : State) (k : Nat) : Nat := (s.core k).dsp.toNat

/-- Set a core's dsp. -/
def State.setDsp (s : State) (k a : Nat) : State := s.setCore k { s.core k with dsp := Word.ofN a }

/-- A floating-point register. -/
def State.fr (s : State) (k r : Nat) : Word := Sparse.get (fun _ => (0 : Word)) (s.core k).f r

/-- Set a floating-point register. -/
def State.setF (s : State) (k r : Nat) (w : Word) : State :=
  let c := s.core k
  s.setCore k { c with f := Sparse.put (fun _ => (0 : Word)) c.f r w }

/-- The return-stack pointer of the current privilege. -/
def State.rsp (s : State) (k : Nat) : Nat :=
  if s.coreMach k then (s.core k).rspm.toNat else (s.core k).rspu.toNat

/-- Set it. -/
def State.setRsp (s : State) (k a : Nat) : State :=
  if s.coreMach k then s.setCore k { s.core k with rspm := Word.ofN a } else s.setCore k { s.core k with rspu := Word.ofN a }

/-- Base and limit of the return-stack region of the current privilege (R473). -/
def State.rsRegion (s : State) (k : Nat) : Nat × Nat :=
  let c := s.core k
  if s.coreMach k then (c.rsmBase.toNat, c.rsmLim.toNat) else (c.rsuBase.toNat, c.rsuLim.toNat)

/-- A core runs code: released, not waiting, its domain on and clocked. The sentinel runs in every mode. -/
def State.pipRuns (s : State) (k : Nat) : Bool :=
  k < 5 && (s.core k).run == .running && s.running && (k == 4 || (s.domainOn (Domain.cl k) && !s.retention))

/-- The core's present instruction was fetched from the boot ROM (R394, R401, R476). -/
def State.fromRom (s : State) (k : Nat) : Bool := s.pc k < 0x40000

/-! ## Protection (R473, R480, R481) -/

/-- Does the MPU allow an access to the byte at `a`: kind 0 read, 1 write, 2 execute (R480). -/
def PipCore.mpuAllows (c : PipCore) (regions kind a : Nat) : Bool :=
  let mach := bitAt c.psr.toNat 1
  let get (l : List (Nat × Word)) (r : Nat) : Nat := (Sparse.get (fun _ => (0 : Word)) l r).toNat
  if !bitAt c.mpuctl.toNat 0 then true
  else
    match (List.range regions).find? (fun r =>
        bitAt (get c.mpuBase r) 0 && get c.mpuBase r / 64 ≤ a / 64 && a / 64 ≤ get c.mpuLim r / 64) with
    | some r => bitAt (get c.mpuLim r) (kind + (if mach then 3 else 0))
    | none => mach && bitAt c.mpuctl.toNat 1

/-- MPU regions of a core (R503). -/
def mpuRegions (k : Nat) : Nat := if k = 4 then 4 else 16

/-- DPROT's DETAIL for a data access of `n` bytes, 0 where it is allowed: bit 0 store, 1 return-stack region, 2
execute-only, 3 MPU (R483). -/
def State.protect (s : State) (k a n : Nat) (ld st : Bool) : Nat :=
  let c := s.core k
  let stack := st && s.stackHit a n
  let xo := ld && !s.fromRom k && region a == Region.flash && s.xoTouches (a - 0x08000000) n
  let mpu := (ld && !c.mpuAllows (mpuRegions k) 0 a) || (st && !c.mpuAllows (mpuRegions k) 1 a)
  if stack || xo || mpu then b2n st + 2 * b2n stack + 4 * b2n xo + 8 * b2n mpu else 0

/-! ## What an instruction comes to -/

/-- An exception before it is taken: its vector, EADDR and DETAIL, and whether EPC is the next instruction (R483). -/
structure PipExc where
  vec    : Nat
  eaddr  : Nat
  detail : Nat
  after  : Bool := false
  deriving DecidableEq, Repr

/-- The end of an instruction: done, with the next pc; an exception, over a state that holds fault records at most; or a
wait for a cluster (R606). -/
inductive PipOut where
  | ok (s : State) (next : Nat)
  | exc (s : State) (e : PipExc)
  | stall (s : State)

/-- A read of `n` bytes, aligned, past ALIGN and RSTACK: DPROT, then DBUS (R484). -/
def State.loadAt (s : State) (k a n : Nat) (f : Nat → State → PipOut) : PipOut :=
  let p := s.protect k a n true false
  if p != 0 then .exc s { vec := 7, eaddr := a, detail := p }
  else if s.stalls a then .stall (s.demandCluster (clusterOf a))
  else
    let (v, t) := s.busLoad k (s.fromRom k) a n
    if t.busError then .exc t { vec := 6, eaddr := a, detail := 2 * b2n (Sparse.find? s.ecc (a / 8) == some true) }
    else f v t

/-- A write of `n` bytes, aligned, past ALIGN and RSTACK. `own` says that the return-stack regions do not refuse it. -/
def State.storeAt (s : State) (k a n v : Nat) (own : Bool) (f : State → PipOut) : PipOut :=
  let p := s.protect k a n false true
  let p := if own then p - 2 * (p / 2 % 2) else p
  if 1 < p then .exc s { vec := 7, eaddr := a, detail := p }
  else if s.stalls a then .stall (s.demandCluster (clusterOf a))
  else
    let t := s.busStore k (!s.coreMach k) (s.fromRom k) a n v
    if t.busError then .exc t { vec := 6, eaddr := a, detail := 1 + 2 * b2n (Sparse.find? s.ecc (a / 8) == some true) }
    else f t

/-- A load instruction's access (R476). -/
def State.load (s : State) (k a n : Nat) (f : Nat → State → PipOut) : PipOut :=
  if a % n != 0 then .exc s { vec := 5, eaddr := a, detail := 0 } else s.loadAt k a n f

/-- A store instruction's access. -/
def State.putMem (s : State) (k a n v : Nat) (f : State → PipOut) : PipOut :=
  if a % n != 0 then .exc s { vec := 5, eaddr := a, detail := 1 } else s.storeAt k a n v false f

/-! ## Exceptions (R483-R489) -/

/-- The site of a core's tile (R489). -/
def coreSite (k : Nat) : Nat :=
  Site.pack { depth := 3, d := 1, c := if k = 4 then 7 else k, t := 16, m := 0, w := 0, b := 0 }

/-- Lock a core up over an exception that cannot be taken (R489): its record, then its reset (R136). -/
def State.lockUp (s : State) (k ecause eaddr : Nat) : State :=
  let s := s.captureFault 3 (coreSite k) ecause eaddr (s.pc k) ((List.range 16).map (fun r => (s.g k r).toNat))
  let s := s.setCore k { s.core k with run := .locked }
  if k = 0 || k = 4 then s.assertReset 2 8 else s.lockupCoreReset k

/-- The frame's bytes reach storage; the write is exempt from protection (R485). -/
def State.frameWrite (s : State) (a : Nat) (bs : List Byte) : State :=
  if s.memAnswers a then s.setBytes a bs else s

/-- Take an exception (R485): `ilen` and `einsn` for ECAUSE and EINSN, `epc` the address to resume at. -/
def State.takeExc (s : State) (k : Nat) (e : PipExc) (ilen einsn epc : Nat) : State :=
  let c := s.core k
  let ecause := 2 ^ 16 * e.detail + 2 ^ 8 * ilen + e.vec
  let sp := (c.rspm.toNat + 2 ^ 32 - 16) % 2 ^ 32
  let va := (c.vbase.toNat + 4 * e.vec) % 2 ^ 32
  if s.stalls sp then s.demandCluster (clusterOf sp)
  else if s.stalls va then s.demandCluster (clusterOf va)
  else if bitsOf c.psr.toNat 4 4 = 15 then s.lockUp k ecause e.eaddr
  else
    let s := s.setCore k { c with ecause := Word.ofN ecause, eaddr := Word.ofN e.eaddr, einsn := Word.ofN einsn }
    if sp < c.rsmBase.toNat || c.rsmLim.toNat ≤ sp then s.lockUp k ecause e.eaddr
    else
      let s := s.frameWrite sp
        (leBytes 4 (epc ||| 1) ++ leBytes 4 c.psr.toNat ++ leBytes 4 c.eframe.toNat ++ leBytes 4 ecause)
      let (v, s) := s.busLoad k false va 4
      if s.busError || v % 2 = 1 then s.lockUp k ecause e.eaddr
      else
        s.setCore k { s.core k with
          rspm := Word.ofN sp, eframe := Word.ofN sp, psr := Word.ofN (16 * (bitsOf c.psr.toNat 4 4 + 1) + 2),
          pc := Word.ofN v, entered := true }

/-! ## Fetch (R30, R476, R480, R492) -/

/-- A fetch of a halfword: the halfword, or none where FETCH is raised. -/
def State.fetchHalf (s : State) (k a : Nat) : Option Nat × State :=
  let r := region a
  let executable := r == Region.rom || r == Region.flash || r == Region.mainSram || r == Region.retained
  if !executable || !(s.core k).mpuAllows (mpuRegions k) 2 a || !s.memAnswers a then (none, s)
  else
    let s := if r == Region.flash then s.touchPlane (planeOf (a - 0x08000000)) else s
    let (bad, s) := s.eccStep k a
    if bad then (none, s) else (some (s.mem a 2), s)

/-- The instruction at a core's pc. -/
inductive Fetched where
  | word (w : Nat) (s : State)
  | fault (a : Nat) (ilen : Nat) (s : State)
  | stall (s : State)

/-- Fetch the instruction at a core's pc (R492). The length that ECAUSE shows where the first halfword fails is open. -/
def State.fetch (s : State) (k : Nat) : Fetched :=
  let a := s.pc k
  let a' := (a + 2) % 2 ^ 32
  if s.stalls a then .stall (s.demandCluster (clusterOf a))
  else
    match s.fetchHalf k a with
    | (none, s) =>
      let (n, s) := s.draw 2
      .fault a n s
    | (some h, s) =>
      if h < 2 ^ 15 then .word h s
      else if s.stalls a' then .stall (s.demandCluster (clusterOf a'))
      else
        match s.fetchHalf k a' with
        | (none, s) => .fault a' 1 s
        | (some l, s) => .word (2 ^ 16 * h + l) s

/-! ## One instruction -/

/-- The cycle count rises by one or more: how many, contention adds to (R502, R504). -/
def State.spendCycles (s : State) (k : Nat) : State :=
  let (n, s) := s.draw (2 ^ 32)
  s.setCore k { s.core k with cycle := ((s.core k).cycle + 1 + n) % 2 ^ 64 }

/-- A row of the instruction set: where `core` runs and fetches the word `w` at its pc and `pick` has an effect for the
instruction it spells, that effect, or the exception of R484 that comes first. A reserved encoding raises EMULATE
whatever row names it. While INT is due nothing else starts (R488). -/
def pipRun (core : Nat) (w : Word) (pick : PipInsn → Option (State → PipOut)) (s : State) : State :=
  if !s.pipRuns core || (bitAt (s.core core).psr.toNat 0 && s.irqRequest core) then s
  else
    let pc := s.pc core
    match s.fetch core with
    | .stall t => t
    | .fault a ilen t =>
      if (s.core core).entered then t.lockUp core (2 ^ 8 * ilen + 1) a
      else t.takeExc core { vec := 1, eaddr := a, detail := 0 } ilen 0 pc
    | .word v t =>
      let ilen := b2n (bitAt v 31)
      let next := (pc + 2 + 2 * ilen) % 2 ^ 32
      if Word.ofN v != w then s
      else
        let t := t.setCore core { t.core core with entered := false }
        match pipDecode (core == 4) w with
        | none => t.takeExc core { vec := 2, eaddr := 0, detail := 0 } ilen v pc
        | some i =>
          match pick i with
          | none => s
          | some f =>
            if i.privileged && !s.coreMach core then t.takeExc core { vec := 3, eaddr := 0, detail := 0 } ilen v pc
            else
              match f t with
              | .stall u => u
              | .exc u e => u.takeExc core e ilen 0 (if e.after then next else pc)
              | .ok u next => (u.setPc core next).spendCycles core

/-- The address after the present instruction of `n` bytes. -/
def State.after (s : State) (k n : Nat) : Nat := (s.pc k + n) % 2 ^ 32

/-- The bytes of an instruction word. -/
def insnLen (w : Word) : Nat := if bitAt w.toNat 31 then 4 else 2

/-- An instruction that writes a register and goes on. -/
def State.result (s : State) (k n d : Nat) (v : Word) : PipOut := .ok (s.setG k d v) (s.after k n)

/-- The effect of a row, over the length of the word. -/
def rowOf (core : Nat) (w : Word) (s : State) (pick : Nat → PipInsn → Option (State → PipOut)) : Out :=
  .next (pipRun core w (pick (insnLen w)) s)

/-! ## Arithmetic (R494, R495, R499) -/

/-- ALU (R495), with the short moves between low and high registers (R499). -/
def execAlu (core : Nat) (w : Word) (s : State) : Out :=
  rowOf core w s (fun n i =>
    match i with
    | .alu fn d a b => some (fun s => s.result core n d (aluFn fn (s.g core a) (s.g core b)))
    | .movl d a => some (fun s => s.result core n d (s.g core (8 + a)))
    | .movh d a => some (fun s => s.result core n (8 + d) (s.g core a))
    | _ => none)

/-- ADDI (R494), with LI.S (R499). -/
def execAddi (core : Nat) (w : Word) (s : State) : Out :=
  rowOf core w s (fun n i =>
    match i with
    | .addi d a imm => some (fun s => s.result core n d (s.g core a + Word.ofN imm))
    | .li d imm => some (fun s => s.result core n d (Word.ofN imm))
    | _ => none)

/-- ANDI (R494). -/
def execAndi (core : Nat) (w : Word) (s : State) : Out :=
  rowOf core w s (fun n i =>
    match i with
    | .andi d a imm => some (fun s => s.result core n d (s.g core a &&& Word.ofN imm))
    | _ => none)

/-- ORI (R494). -/
def execOri (core : Nat) (w : Word) (s : State) : Out :=
  rowOf core w s (fun n i =>
    match i with
    | .ori d a imm => some (fun s => s.result core n d (s.g core a ||| Word.ofN imm))
    | _ => none)

/-- XORI (R494). -/
def execXori (core : Nat) (w : Word) (s : State) : Out :=
  rowOf core w s (fun n i =>
    match i with
    | .xori d a imm => some (fun s => s.result core n d (s.g core a ^^^ Word.ofN imm))
    | _ => none)

/-- TLTI (R494). -/
def execTlti (core : Nat) (w : Word) (s : State) : Out :=
  rowOf core w s (fun n i =>
    match i with
    | .tlti d a imm => some (fun s => s.result core n d (aluFn 0x08 (s.g core a) (Word.ofN imm)))
    | _ => none)

/-- TLTIU (R494). -/
def execTltiu (core : Nat) (w : Word) (s : State) : Out :=
  rowOf core w s (fun n i =>
    match i with
    | .tltiu d a imm => some (fun s => s.result core n d (aluFn 0x09 (s.g core a) (Word.ofN imm)))
    | _ => none)

/-- SHI (R494). -/
def execShi (core : Nat) (w : Word) (s : State) : Out :=
  rowOf core w s (fun n i =>
    match i with
    | .shi d a kind sh => some (fun s => s.result core n d (shift32 kind (s.g core a) sh))
    | _ => none)

/-- LDHI (R494). -/
def execLdhi (core : Nat) (w : Word) (s : State) : Out :=
  rowOf core w s (fun n i =>
    match i with
    | .ldhi d imm => some (fun s => s.result core n d (Word.ofN imm))
    | _ => none)

/-- ADDPCH (R494). -/
def execAddpch (core : Nat) (w : Word) (s : State) : Out :=
  rowOf core w s (fun n i =>
    match i with
    | .addpch d imm => some (fun s => s.result core n d (Word.ofN (s.pc core + imm)))
    | _ => none)

/-! ## Loads and stores (R494, R496) -/

/-- An address: a register plus an immediate. -/
def State.ea (s : State) (k a imm : Nat) : Nat := add32 (s.g k a).toNat imm

/-- A load of `size` bytes into D, sign-extended where `signed`. -/
def State.loadTo (s : State) (k n d addr size : Nat) (signed : Bool) : PipOut :=
  s.load k addr size (fun v t => t.result k n d (Word.ofN (if signed then sx (8 * size) v else v)))

/-- A store of the low `size` bytes of D. -/
def State.storeFrom (s : State) (k n d addr size : Nat) : PipOut :=
  s.putMem k addr size ((s.g k d).toNat % 2 ^ (8 * size)) (fun t => .ok t (t.after k n))

/-- A load of a floating-point register. -/
def State.loadF (s : State) (k n d addr : Nat) : PipOut :=
  s.load k addr 4 (fun v t => .ok (t.setF k d (Word.ofN v)) (t.after k n))

/-- A store of a floating-point register. -/
def State.storeF (s : State) (k n d addr : Nat) : PipOut :=
  s.putMem k addr 4 (s.fr k d).toNat (fun t => .ok t (t.after k n))

/-- LDB (R494). -/
def execLdb (core : Nat) (w : Word) (s : State) : Out :=
  rowOf core w s (fun n i =>
    match i with
    | .ldb d a imm => some (fun s => s.loadTo core n d (s.ea core a imm) 1 true)
    | _ => none)

/-- LDBU (R494). -/
def execLdbu (core : Nat) (w : Word) (s : State) : Out :=
  rowOf core w s (fun n i =>
    match i with
    | .ldbu d a imm => some (fun s => s.loadTo core n d (s.ea core a imm) 1 false)
    | _ => none)

/-- LDH (R494). -/
def execLdh (core : Nat) (w : Word) (s : State) : Out :=
  rowOf core w s (fun n i =>
    match i with
    | .ldh d a imm => some (fun s => s.loadTo core n d (s.ea core a imm) 2 true)
    | _ => none)

/-- LDHU (R494). -/
def execLdhu (core : Nat) (w : Word) (s : State) : Out :=
  rowOf core w s (fun n i =>
    match i with
    | .ldhu d a imm => some (fun s => s.loadTo core n d (s.ea core a imm) 2 false)
    | _ => none)

/-- LDW (R494). -/
def execLdw (core : Nat) (w : Word) (s : State) : Out :=
  rowOf core w s (fun n i =>
    match i with
    | .ldw d a imm => some (fun s => s.loadTo core n d (s.ea core a imm) 4 false)
    | _ => none)

/-- STB (R494). -/
def execStb (core : Nat) (w : Word) (s : State) : Out :=
  rowOf core w s (fun n i =>
    match i with
    | .stb d a imm => some (fun s => s.storeFrom core n d (s.ea core a imm) 1)
    | _ => none)

/-- STH (R494). -/
def execSth (core : Nat) (w : Word) (s : State) : Out :=
  rowOf core w s (fun n i =>
    match i with
    | .sth d a imm => some (fun s => s.storeFrom core n d (s.ea core a imm) 2)
    | _ => none)

/-- STW (R494). -/
def execStw (core : Nat) (w : Word) (s : State) : Out :=
  rowOf core w s (fun n i =>
    match i with
    | .stw d a imm => some (fun s => s.storeFrom core n d (s.ea core a imm) 4)
    | _ => none)

/-- The size of a MEMX access by its SZ (R496). -/
def memxSize (sz : Nat) : Nat := if sz < 2 then 1 else if sz < 4 then 2 else 4

/-- The address of a MEMX access and the value it leaves in A (R496). -/
def State.memxAddr (s : State) (k a b sc sz mode : Nat) : Nat × Word :=
  let base := (s.g k a).toNat
  let size := memxSize sz
  match mode with
  | 0 => (add32 base ((s.g k b).toNat * 2 ^ sc), s.g k a)
  | 1 => (base, s.g k a + Word.ofN size)
  | _ => (add32 base (2 ^ 32 - size), s.g k a - Word.ofN size)

/-- The access of a MEMX at an address: D last where the two differ, so that a load into A in mode 0 keeps its value. -/
def State.memx (s : State) (k n d a b sc sz mode : Nat) (st : Bool) : PipOut :=
  let (addr, left) := s.memxAddr k a b sc sz mode
  let size := memxSize sz
  let move (t : State) : State := if mode = 0 then t else t.setG k a left
  if st then
    let v := if sz = 5 then (s.fr k d).toNat else (s.g k d).toNat % 2 ^ (8 * size)
    s.putMem k addr size v (fun t => .ok (move t) (t.after k n))
  else
    s.load k addr size (fun v t =>
      let v := Word.ofN (if sz = 0 || sz = 2 then sx (8 * size) v else v)
      .ok (if sz = 5 then (move t).setF k d v else (move t).setG k d v) (t.after k n))

/-- MEMX (R496). -/
def execMemx (core : Nat) (w : Word) (s : State) : Out :=
  rowOf core w s (fun n i =>
    match i with
    | .memx d a b sc sz mode st => some (fun s => s.memx core n d a b sc sz mode st)
    | _ => none)

/-- LDF (R494). -/
def execLdf (core : Nat) (w : Word) (s : State) : Out :=
  rowOf core w s (fun n i =>
    match i with
    | .ldf d a imm => some (fun s => s.loadF core n d (s.ea core a imm))
    | _ => none)

/-- STF (R494). -/
def execStf (core : Nat) (w : Word) (s : State) : Out :=
  rowOf core w s (fun n i =>
    match i with
    | .stf d a imm => some (fun s => s.storeF core n d (s.ea core a imm))
    | _ => none)

/-- DSPM (R496). -/
def execDspm (core : Nat) (w : Word) (s : State) : Out :=
  rowOf core w s (fun n i =>
    match i with
    | .dspm sub d imm => some (fun s =>
        let addr := add32 (s.dsp core) imm
        match sub with
        | 0 => s.loadTo core n d addr 4 false
        | 1 => s.storeFrom core n d addr 4
        | 2 => .ok (s.setDsp core addr) (s.after core n)
        | 3 => s.loadF core n d addr
        | 4 => s.storeF core n d addr
        | _ => s.result core n d (Word.ofN addr))
    | _ => none)

/-! ## Control transfers and stacks (R472, R474, R497) -/

/-- BR (R497). -/
def execBr (core : Nat) (w : Word) (s : State) : Out :=
  rowOf core w s (fun n i =>
    match i with
    | .br cond a b disp => some (fun s =>
        .ok s (if brTaken cond (s.g core a) (s.g core b) then add32 (s.pc core) disp else s.after core n))
    | _ => none)

/-- J (R494). -/
def execJ (core : Nat) (w : Word) (s : State) : Out :=
  rowOf core w s (fun _ i =>
    match i with
    | .j disp => some (fun s => .ok s (add32 (s.pc core) disp))
    | _ => none)

/-- A call (R474): ALIGN for a misaligned rsp_u, RSTACK 1 outside the region, then the push and the jump. -/
def State.callTo (s : State) (k n target : Nat) : PipOut :=
  let sp := add32 (s.rsp k) (2 ^ 32 - 4)
  let (base, lim) := s.rsRegion k
  if sp % 4 != 0 then .exc s { vec := 5, eaddr := sp, detail := 1 }
  else if sp < base || lim ≤ sp then .exc s { vec := 8, eaddr := s.rsp k, detail := 1 }
  else s.storeAt k sp 4 (s.after k n) true (fun t => .ok (t.setRsp k sp) target)

/-- CALL (R474). -/
def execCall (core : Nat) (w : Word) (s : State) : Out :=
  rowOf core w s (fun n i =>
    match i with
    | .call disp => some (fun s => s.callTo core n (add32 (s.pc core) disp))
    | _ => none)

/-- JR (R497): an odd target raises ALIGN. -/
def execJr (core : Nat) (w : Word) (s : State) : Out :=
  rowOf core w s (fun _ i =>
    match i with
    | .jr a => some (fun s =>
        let t := (s.g core a).toNat
        if t % 2 = 1 then .exc s { vec := 5, eaddr := t, detail := 0 } else .ok s t)
    | _ => none)

/-- CALLR (R474, R497). -/
def execCallr (core : Nat) (w : Word) (s : State) : Out :=
  rowOf core w s (fun n i =>
    match i with
    | .callr a => some (fun s =>
        let t := (s.g core a).toNat
        if t % 2 = 1 then .exc s { vec := 5, eaddr := t, detail := 0 } else s.callTo core n t)
    | _ => none)

/-- RET (R474): RSTACK 2 outside the region, RSTACK 3 on a frame's word. -/
def execRet (core : Nat) (w : Word) (s : State) : Out :=
  rowOf core w s (fun _ i =>
    match i with
    | .ret => some (fun s =>
        let sp := s.rsp core
        let (base, lim) := s.rsRegion core
        if sp % 4 != 0 then .exc s { vec := 5, eaddr := sp, detail := 0 }
        else if lim < sp + 4 || sp < base then .exc s { vec := 8, eaddr := sp, detail := 2 }
        else s.loadAt core sp 4 (fun v t =>
          if v % 2 = 1 then .exc s { vec := 8, eaddr := sp, detail := 3 }
          else .ok (t.setRsp core (add32 sp 4)) v))
    | _ => none)

/-- GETDSP (R497). -/
def execGetdsp (core : Nat) (w : Word) (s : State) : Out :=
  rowOf core w s (fun n i =>
    match i with
    | .getdsp d => some (fun s => s.result core n d (Word.ofN (s.dsp core)))
    | _ => none)

/-- SETDSP (R497). -/
def execSetdsp (core : Nat) (w : Word) (s : State) : Out :=
  rowOf core w s (fun n i =>
    match i with
    | .setdsp a => some (fun s => .ok (s.setDsp core (s.g core a).toNat) (s.after core n))
    | _ => none)

/-- PUSH (R472). -/
def execPush (core : Nat) (w : Word) (s : State) : Out :=
  rowOf core w s (fun n i =>
    match i with
    | .push a => some (fun s =>
        let sp := add32 (s.dsp core) (2 ^ 32 - 4)
        s.putMem core sp 4 (s.g core a).toNat (fun t => .ok (t.setDsp core sp) (t.after core n)))
    | _ => none)

/-- POP (R472). -/
def execPop (core : Nat) (w : Word) (s : State) : Out :=
  rowOf core w s (fun n i =>
    match i with
    | .pop d => some (fun s =>
        let sp := s.dsp core
        s.load core sp 4 (fun v t => (t.setDsp core (add32 sp 4)).result core n d (Word.ofN v)))
    | _ => none)

/-- GETRSP (R497). -/
def execGetrsp (core : Nat) (w : Word) (s : State) : Out :=
  rowOf core w s (fun n i =>
    match i with
    | .getrsp d => some (fun s => s.result core n d (Word.ofN (s.rsp core)))
    | _ => none)

/-! ## System registers (R482, R486, R504, R505) -/

/-- COREID (R505). -/
def coreId (k : Nat) : Nat := 2 ^ 16 * mpuRegions k + (if k = 4 then 0 else 0x300) + k

/-- The value of a system register that is not in a frame and is no cycle count. -/
def PipCore.sysReg (c : PipCore) (k idx : Nat) : Word :=
  let get (l : List (Nat × Word)) (r : Nat) : Word := Sparse.get (fun _ => (0 : Word)) l r
  match idx with
  | 0x00 => c.psr
  | 0x01 => c.vbase
  | 0x02 => c.ecause
  | 0x03 => c.eaddr
  | 0x04 => c.einsn
  | 0x07 => c.eframe
  | 0x08 => c.rspm
  | 0x09 => c.rsmBase
  | 0x0A => c.rsmLim
  | 0x0B => c.rspu
  | 0x0C => c.rsuBase
  | 0x0D => c.rsuLim
  | 0x10 => Word.ofN (coreId k)
  | 0x12 => c.cycleHi
  | 0x20 => c.mpuctl
  | 0x60 => c.fpstat
  | _ => if idx % 2 = 0 then get c.mpuBase ((idx - 0x30) / 2) else get c.mpuLim ((idx - 0x30) / 2)

/-- MFS: EPC and EPSR read the frame (R486); a read of CYCLELO latches CYCLEHI (R504). -/
def State.readSys (s : State) (k n d idx : Nat) : PipOut :=
  let c := s.core k
  let f := c.eframe.toNat
  if idx = 5 || idx = 6 then
    if f = 0 then s.result k n d 0
    else if idx = 5 then s.load k f 4 (fun v t => t.result k n d (Word.ofN (v - v % 2)))
    else s.load k (add32 f 4) 4 (fun v t => t.result k n d (Word.ofN v))
  else if idx = 0x11 then
    (s.setCore k { c with cycleHi := Word.ofN (c.cycle / 2 ^ 32) }).result k n d (Word.ofN c.cycle)
  else s.result k n d (c.sysReg k idx)

/-- MFS (R498). -/
def execMfs (core : Nat) (w : Word) (s : State) : Out :=
  rowOf core w s (fun n i =>
    match i with
    | .mfs d idx => some (fun s => s.readSys core n d idx)
    | _ => none)

/-- A word with its bits from `lsb` up kept. -/
def upper (lsb : Nat) (w : Word) : Word := Word.ofN (w.toNat / 2 ^ lsb * 2 ^ lsb)

/-- A system register written (R482, R505): read-only fields keep their values, reserved bits read zero. -/
def PipCore.writeSys (c : PipCore) (idx : Nat) (w : Word) : PipCore :=
  let n := w.toNat
  let put (l : List (Nat × Word)) (r : Nat) (v : Word) : List (Nat × Word) := Sparse.put (fun _ => (0 : Word)) l r v
  let locked := bitAt c.mpuctl.toNat 31
  match idx with
  | 0x00 => { c with psr := Word.ofN (setBitsOf c.psr.toNat 0 1 n) }
  | 0x01 => { c with vbase := upper 7 w }
  | 0x08 => { c with rspm := upper 2 w }
  | 0x09 => { c with rsmBase := upper 4 w }
  | 0x0A => { c with rsmLim := upper 4 w }
  | 0x0B => { c with rspu := w }
  | 0x0C => { c with rsuBase := upper 4 w }
  | 0x0D => { c with rsuLim := upper 4 w }
  | 0x20 => if locked then c else { c with mpuctl := Word.ofN (2 ^ 31 * bitsOf n 31 1 + n % 4) }
  | 0x60 => { c with fpstat := Word.ofN (2 ^ 16 * bitsOf n 16 5 + 2 ^ 8 * bitsOf n 8 2 + n % 32) }
  | _ =>
    if idx < 0x30 || locked then c
    else
      let r := (idx - 0x30) / 2
      if idx % 2 = 0 then { c with mpuBase := put c.mpuBase r (Word.ofN (n / 64 * 64 + n % 2)) }
      else { c with mpuLim := put c.mpuLim r w }

/-- MTS: EPC and EPSR write the frame (R486). -/
def State.writeSysReg (s : State) (k n idx : Nat) (w : Word) : PipOut :=
  let c := s.core k
  let f := c.eframe.toNat
  if idx = 5 || idx = 6 then
    if f = 0 then .ok s (s.after k n)
    else if idx = 5 then
      if f % 4 != 0 then .exc s { vec := 5, eaddr := f, detail := 1 }
      else s.storeAt k f 4 (w.toNat / 2 * 2 + 1) true (fun t => .ok t (t.after k n))
    else
      let a := add32 f 4
      s.load k a 4 (fun v t =>
        t.storeAt k a 4 (v / 4 * 4 + w.toNat % 4) true (fun t => .ok t (t.after k n)))
  else .ok (s.setCore k (c.writeSys idx w)) (s.after k n)

/-- MTS (R498). -/
def execMts (core : Nat) (w : Word) (s : State) : Out :=
  rowOf core w s (fun n i =>
    match i with
    | .mts a idx => some (fun s => s.writeSysReg core n idx (s.g core a))
    | _ => none)

/-! ## Traps, returns, waits (R484, R487, R488, R490) -/

/-- TRAP (R498): it completes, and vector 4 is entered with its code. -/
def execTrap (core : Nat) (w : Word) (s : State) : Out :=
  rowOf core w s (fun _ i =>
    match i with
    | .trap code => some (fun s => .exc (s.spendCycles core) { vec := 4, eaddr := 0, detail := code, after := true })
    | _ => none)

/-- ERET (R487). -/
def execEret (core : Nat) (w : Word) (s : State) : Out :=
  rowOf core w s (fun _ i =>
    match i with
    | .eret => some (fun s =>
        let c := s.core core
        let f := c.eframe.toNat
        let bad : PipExc := { vec := 8, eaddr := s.rsp core, detail := 4 }
        if f = 0 || c.rspm.toNat != f then .exc s bad
        else s.loadAt core f 4 (fun w0 t =>
          if w0 % 2 = 0 then .exc s bad
          else t.loadAt core (add32 f 4) 4 (fun w1 t => t.loadAt core (add32 f 8) 4 (fun w2 t =>
            let c := t.core core
            .ok (t.setCore core { c with
              psr := Word.ofN (bitsOf w1 4 4 * 16 + w1 % 4), eframe := Word.ofN w2, rspm := Word.ofN (add32 f 16) })
              (w0 - 1)))))
    | _ => none)

/-- WAIT (R490): it completes at once where the request is asserted; else the core's clock stops. -/
def execWait (core : Nat) (w : Word) (s : State) : Out :=
  rowOf core w s (fun n i =>
    match i with
    | .wait => some (fun s =>
        if s.irqRequest core then .ok s (s.after core n)
        else .stall (s.setCore core { s.core core with run := .waiting }))
    | _ => none)

/-- WAIT_WAKE (R490): the request of a waiting core has asserted, and WAIT completes. -/
def execWaitWake (core : Nat) (s : State) : Out :=
  .next (
    if core < 5 && (s.core core).run == .waiting && s.irqRequest core then
      let s := s.setCore core { s.core core with run := .running }
      (s.setPc core (s.after core 4)).spendCycles core
    else s)

/-- INT (R488): with IE 1 and the request asserted the core takes vector 10 before its next instruction. The length that
ECAUSE shows is open. -/
def execIntCmd (core : Nat) (s : State) : Out :=
  .next (
    if s.pipRuns core && bitAt (s.core core).psr.toNat 0 && s.irqRequest core then
      let (n, s) := s.draw 2
      s.takeExc core { vec := 10, eaddr := 0, detail := 0 } n 0 (s.pc core)
    else s)

/-- SETIE (R498). -/
def execSetie (core : Nat) (w : Word) (s : State) : Out :=
  rowOf core w s (fun n i =>
    match i with
    | .setie d ie => some (fun s =>
        let c := s.core core
        let old := bitsOf c.psr.toNat 0 1
        (s.setCore core { c with psr := Word.ofN (setBitsOf c.psr.toNat 0 1 ie) }).result core n d (Word.ofN old))
    | _ => none)

/-! ## SWAP and CAS (R479) -/

/-- An indivisible access of a word: ALIGN, DPROT, and DBUS outside main, retained and link context RAM. `f` gives the
word to store, if any, and what D becomes. -/
def State.atomic (s : State) (k n d addr : Nat) (f : Nat → Option Nat × Nat) : PipOut :=
  let p := s.protect k addr 4 true true
  let r := region addr
  if addr % 4 != 0 then .exc s { vec := 5, eaddr := addr, detail := 1 }
  else if p != 0 then .exc s { vec := 7, eaddr := addr, detail := p }
  else if !(r == Region.mainSram || r == Region.retained || r == Region.context) then
    .exc s { vec := 6, eaddr := addr, detail := 1 }
  else if s.stalls addr then .stall (s.demandCluster (clusterOf addr))
  else
    let (v, t) := s.busLoad k (s.fromRom k) addr 4
    if t.busError then .exc t { vec := 6, eaddr := addr, detail := 1 + 2 * b2n (Sparse.find? s.ecc (addr / 8) == some true) }
    else
      let (put, left) := f v
      let t := match put with | some x => t.busStore k (!s.coreMach k) (s.fromRom k) addr 4 x | none => t
      t.result k n d (Word.ofN left)

/-- SWAP (R479). -/
def execSwap (core : Nat) (w : Word) (s : State) : Out :=
  rowOf core w s (fun n i =>
    match i with
    | .swap d a b => some (fun s => s.atomic core n d (s.g core a).toNat (fun v => (some (s.g core b).toNat, v)))
    | _ => none)

/-- CAS (R479). -/
def execCas (core : Nat) (w : Word) (s : State) : Out :=
  rowOf core w s (fun n i =>
    match i with
    | .cas d a b => some (fun s => s.atomic core n d (s.g core a).toNat (fun v =>
        (if v = (s.g core d).toNat then some (s.g core b).toNat else none, v)))
    | _ => none)

/-! ## Floating point (R501) -/

/-- FP (R501): the result and its flags, or FPE with the flags that trap, the operation then writing nothing. -/
def execFp (core : Nat) (w : Word) (s : State) : Out :=
  rowOf core w s (fun n i =>
    match i with
    | .fp fn rm d a b => some (fun s =>
        let st := (s.core core).fpstat.toNat
        let rm := if rm = 4 then bitsOf st 8 2 else rm
        let x := if fpFromG fn then s.g core a else s.fr core a
        let r := fpFn fn rm x (s.fr core b) (s.fr core d)
        let traps := r.flags &&& bitsOf st 16 5
        if traps != 0 then .exc s { vec := 9, eaddr := 0, detail := traps }
        else
          let s := s.setCore core { s.core core with fpstat := Word.ofN (st ||| r.flags) }
          if fpToG fn then s.result core n d r.val else .ok (s.setF core d r.val) (s.after core n))
    | _ => none)

end Sys2Proof.Machine
end

