-- ==== Sys2Proof/Machine/Dispatch.lean ====
section
/-!
DEFINITION. The one dispatch: each command to its meaning.
-/

namespace Sys2Proof.Machine

def exec (i : Instr) (s : State) : Host.Outcome State Fault Refusal :=
  match i with
  | .registerWrite user addr w => Sys2Proof.Machine.execRegisterWrite user addr w s
  | .rcRead addr again => Sys2Proof.Machine.execRcRead addr again s
  | .modeRequest core user w => Sys2Proof.Machine.execModeRequest core user w s
  | .modeSet o p => Sys2Proof.Machine.execModeSet o p s
  | .modeGet o p => Sys2Proof.Machine.execModeGet o p s
  | .modeTransitionDone => Sys2Proof.Machine.execModeTransitionDone s
  | .wSleepEntry => Sys2Proof.Machine.execWSleepEntry s
  | .modeWakeTime => Sys2Proof.Machine.execModeWakeTime s
  | .wakeSource src => Sys2Proof.Machine.execWakeSource src s
  | .wakeTimeout stage => Sys2Proof.Machine.execWakeTimeout stage s
  | .padLatch => Sys2Proof.Machine.execPadLatch s
  | .drainEnd => Sys2Proof.Machine.execDrainEnd s
  | .xrefTransitionTimeout => Sys2Proof.Machine.execXrefTransitionTimeout s
  | .clusterIdle n => Sys2Proof.Machine.execClusterIdle n s
  | .clusterPowered n => Sys2Proof.Machine.execClusterPowered n s
  | .supplyFailure => Sys2Proof.Machine.execSupplyFailure s
  | .supplyClear => Sys2Proof.Machine.execSupplyClear s
  | .supplyRestored => Sys2Proof.Machine.execSupplyRestored s
  | .lastgaspFlushDone => Sys2Proof.Machine.execLastgaspFlushDone s
  | .lastgaspEnd => Sys2Proof.Machine.execLastgaspEnd s
  | .boardWrite o p => Sys2Proof.Machine.execBoardWrite o p s
  | .boardErase o p => Sys2Proof.Machine.execBoardErase o p s
  | .boardVerify o p => Sys2Proof.Machine.execBoardVerify o p s
  | .boardSwap o p => Sys2Proof.Machine.execBoardSwap o p s
  | .boardAbort o p => Sys2Proof.Machine.execBoardAbort o p s
  | .boardReload o p => Sys2Proof.Machine.execBoardReload o p s
  | .boardBootlist o p => Sys2Proof.Machine.execBoardBootlist o p s
  | .boardStatus o p => Sys2Proof.Machine.execBoardStatus o p s
  | .swapctlStart user w => Sys2Proof.Machine.execSwapctlStart user w s
  | .swapctlAbort user w => Sys2Proof.Machine.execSwapctlAbort user w s
  | .swapStaged => Sys2Proof.Machine.execSwapStaged s
  | .swapDrain => Sys2Proof.Machine.execSwapDrain s
  | .swapBoundary => Sys2Proof.Machine.execSwapBoundary s
  | .swapPersistDone => Sys2Proof.Machine.execSwapPersistDone s
  | .fullReloadDone => Sys2Proof.Machine.execFullReloadDone s
  | .lpBrownout => Sys2Proof.Machine.execLpBrownout s
  | .lpmonUpdate load => Sys2Proof.Machine.execLpmonUpdate load s
  | .buckCurrentLimit acting => Sys2Proof.Machine.execBuckCurrentLimit acting s
  | .xlfFail => Sys2Proof.Machine.execXlfFail s
  | .xlfQualified => Sys2Proof.Machine.execXlfQualified s
  | .lfratioMeasure ticks => Sys2Proof.Machine.execLfratioMeasure ticks s
  | .hfrcFail => Sys2Proof.Machine.execHfrcFail s
  | .xrefReady => Sys2Proof.Machine.execXrefReady s
  | .xrefFail => Sys2Proof.Machine.execXrefFail s
  | .xrefRetry => Sys2Proof.Machine.execXrefRetry s
  | .pllcWrite user w => Sys2Proof.Machine.execPllcWrite user w s
  | .pllfWrite user w => Sys2Proof.Machine.execPllfWrite user w s
  | .pllLock c => Sys2Proof.Machine.execPllLock c s
  | .pllLockLoss c => Sys2Proof.Machine.execPllLockLoss c s
  | .spreadApply => Sys2Proof.Machine.execSpreadApply s
  | .padHoldRelease user w => Sys2Proof.Machine.execPadHoldRelease user w s
  | .waketmrWrite user w => Sys2Proof.Machine.execWaketmrWrite user w s
  | .waketmrFire => Sys2Proof.Machine.execWaketmrFire s
  | .powerOn => Sys2Proof.Machine.execPowerOn s
  | .resetNLow => Sys2Proof.Machine.execResetNLow s
  | .resetNRise => Sys2Proof.Machine.execResetNRise s
  | .coreBrownout => Sys2Proof.Machine.execCoreBrownout s
  | .watchdog => Sys2Proof.Machine.execWatchdog s
  | .wdtkick user w => Sys2Proof.Machine.execWdtkick user w s
  | .wdtearly => Sys2Proof.Machine.execWdtearly s
  | .swrstCore user w => Sys2Proof.Machine.execSwrstCore user w s
  | .swrstSystem user w => Sys2Proof.Machine.execSwrstSystem user w s
  | .swrstAlwaysOn user w => Sys2Proof.Machine.execSwrstAlwaysOn user w s
  | .sysReset o p => Sys2Proof.Machine.execSysReset o p s
  | .sysResetAssert => Sys2Proof.Machine.execSysResetAssert s
  | .startUp xref tamper => Sys2Proof.Machine.execStartUp xref tamper s
  | .journalRecoveryDone => Sys2Proof.Machine.execJournalRecoveryDone s
  | .holdupMeasurementDone fall stayed => Sys2Proof.Machine.execHoldupMeasurementDone fall stayed s
  | .handover t9 t10 => Sys2Proof.Machine.execHandover t9 t10 s
  | .coreRelease user w => Sys2Proof.Machine.execCoreRelease user w s
  | .chainLockStart c => Sys2Proof.Machine.execChainLockStart c s
  | .channelLock c => Sys2Proof.Machine.execChannelLock c s
  | .lockfail c => Sys2Proof.Machine.execLockfail c s
  | .coexRequest c => Sys2Proof.Machine.execCoexRequest c s
  | .transmitGate c vpa => Sys2Proof.Machine.execTransmitGate c vpa s
  | .rampupEnd c => Sys2Proof.Machine.execRampupEnd c s
  | .txLastSymbol c => Sys2Proof.Machine.execTxLastSymbol c s
  | .rampdnEnd c => Sys2Proof.Machine.execRampdnEnd c s
  | .turnEnd c => Sys2Proof.Machine.execTurnEnd c s
  | .cxGntLoss c => Sys2Proof.Machine.execCxGntLoss c s
  | .calStart user c w => Sys2Proof.Machine.execCalStart user c w s
  | .calAutoStart c => Sys2Proof.Machine.execCalAutoStart c s
  | .calDone c inRange temp => Sys2Proof.Machine.execCalDone c inRange temp s
  | .caldue c => Sys2Proof.Machine.execCaldue c s
  | .rampCommit user c w => Sys2Proof.Machine.execRampCommit user c w s
  | .afcTrack c offset => Sys2Proof.Machine.execAfcTrack c offset s
  | .caplockLoss c => Sys2Proof.Machine.execCaplockLoss c s
  | .dutyBin => Sys2Proof.Machine.execDutyBin s
  | .dutyBlockClose => Sys2Proof.Machine.execDutyBlockClose s
  | .wakeTelegram fast pattern => Sys2Proof.Machine.execWakeTelegram fast pattern s
  | .wkrFloorEstimate level => Sys2Proof.Machine.execWkrFloorEstimate level s
  | .rfStatus o p => Sys2Proof.Machine.execRfStatus o p s
  | .rfCal o p => Sys2Proof.Machine.execRfCal o p s
  | .rfDuty o p => Sys2Proof.Machine.execRfDuty o p s
  | .wkrSet o p => Sys2Proof.Machine.execWkrSet o p s
  | .detectorFire b slice mode level => Sys2Proof.Machine.execDetectorFire b slice mode level s
  | .arbitration b => Sys2Proof.Machine.execArbitration b s
  | .candidateExpire b => Sys2Proof.Machine.execCandidateExpire b s
  | .ctxSync n level cfo => Sys2Proof.Machine.execCtxSync n level cfo s
  | .ctxFalsedet n => Sys2Proof.Machine.execCtxFalsedet n s
  | .ctxHeader n bits ok => Sys2Proof.Machine.execCtxHeader n bits ok s
  | .ctxRelease n => Sys2Proof.Machine.execCtxRelease n s
  | .sampleOverflow b => Sys2Proof.Machine.execSampleOverflow b s
  | .sampleInvalid b => Sys2Proof.Machine.execSampleInvalid b s
  | .agcAttack b peak clip => Sys2Proof.Machine.execAgcAttack b peak clip s
  | .agcDecay b => Sys2Proof.Machine.execAgcDecay b s
  | .modeSwitch n mode => Sys2Proof.Machine.execModeSwitch n mode s
  | .blockDispatch n llrs => Sys2Proof.Machine.execBlockDispatch n llrs s
  | .blockDecodeDone index good data => Sys2Proof.Machine.execBlockDecodeDone index good data s
  | .slotExpire index => Sys2Proof.Machine.execSlotExpire index s
  | .lnkSubmit user w => Sys2Proof.Machine.execLnkSubmit user w s
  | .lnkCancel user w => Sys2Proof.Machine.execLnkCancel user w s
  | .lnkNext0Read => Sys2Proof.Machine.execLnkNext0Read s
  | .actionClaim n => Sys2Proof.Machine.execActionClaim n s
  | .actionStart n => Sys2Proof.Machine.execActionStart n s
  | .rxWindowEnd n peak => Sys2Proof.Machine.execRxWindowEnd n peak s
  | .listenBusy n level => Sys2Proof.Machine.execListenBusy n level s
  | .listenClear n => Sys2Proof.Machine.execListenClear n s
  | .backoffEnd n => Sys2Proof.Machine.execBackoffEnd n s
  | .actionComplete n => Sys2Proof.Machine.execActionComplete n s
  | .completionWrite n => Sys2Proof.Machine.execCompletionWrite n s
  | .frameReceived => Sys2Proof.Machine.execFrameReceived s
  | .rxrelease user w => Sys2Proof.Machine.execRxrelease user w s
  | .ringReadAdvance user r w => Sys2Proof.Machine.execRingReadAdvance user r w s
  | .rxConfigApply => Sys2Proof.Machine.execRxConfigApply s
  | .ringConfigApply r => Sys2Proof.Machine.execRingConfigApply r s
  | .watchListen => Sys2Proof.Machine.execWatchListen s
  | .chainIdle c => Sys2Proof.Machine.execChainIdle c s
  | .linkcmdOpen user w => Sys2Proof.Machine.execLinkcmdOpen user w s
  | .linkcmdClose user w => Sys2Proof.Machine.execLinkcmdClose user w s
  | .linkcmdRelease user w => Sys2Proof.Machine.execLinkcmdRelease user w s
  | .linkcmdSwap user w => Sys2Proof.Machine.execLinkcmdSwap user w s
  | .linkcmdChmap user w => Sys2Proof.Machine.execLinkcmdChmap user w s
  | .linkOpen o p => Sys2Proof.Machine.execLinkOpen o p s
  | .linkClose o p => Sys2Proof.Machine.execLinkClose o p s
  | .linkRelease o p => Sys2Proof.Machine.execLinkRelease o p s
  | .linkSwap o p => Sys2Proof.Machine.execLinkSwap o p s
  | .linkGet o p => Sys2Proof.Machine.execLinkGet o p s
  | .tenantStatus o p => Sys2Proof.Machine.execTenantStatus o p s
  | .linkEvent index => Sys2Proof.Machine.execLinkEvent index s
  | .supervisionTimeout index => Sys2Proof.Machine.execSupervisionTimeout index s
  | .openCmd h stamp ended p => Sys2Proof.Machine.execOpenCmd h stamp ended p s
  | .openAck h ended p => Sys2Proof.Machine.execOpenAck h ended p s
  | .close h ended p => Sys2Proof.Machine.execClose h ended p s
  | .closeAck h ended p => Sys2Proof.Machine.execCloseAck h ended p s
  | .swapReq h ended p => Sys2Proof.Machine.execSwapReq h ended p s
  | .swapRsp h ended p => Sys2Proof.Machine.execSwapRsp h ended p s
  | .chmap h ended p => Sys2Proof.Machine.execChmap h ended p s
  | .keepalive h ended p => Sys2Proof.Machine.execKeepalive h ended p s
  | .qpost user w => Sys2Proof.Machine.execQpost user w s
  | .schedulingPass => Sys2Proof.Machine.execSchedulingPass s
  | .ntmAbort user w => Sys2Proof.Machine.execNtmAbort user w s
  | .ntmSet user w => Sys2Proof.Machine.execNtmSet user w s
  | .ntmStep user w => Sys2Proof.Machine.execNtmStep user w s
  | .ntmSlew user w => Sys2Proof.Machine.execNtmSlew user w s
  | .ntmCapture user w => Sys2Proof.Machine.execNtmCapture user w s
  | .incintWrite user w => Sys2Proof.Machine.execIncintWrite user w s
  | .slewEnd => Sys2Proof.Machine.execSlewEnd s
  | .deferredAdjust => Sys2Proof.Machine.execDeferredAdjust s
  | .roundBoundary => Sys2Proof.Machine.execRoundBoundary s
  | .slotBoundary => Sys2Proof.Machine.execSlotBoundary s
  | .syncEdge rising => Sys2Proof.Machine.execSyncEdge rising s
  | .syncRound => Sys2Proof.Machine.execSyncRound s
  | .timeGet o p => Sys2Proof.Machine.execTimeGet o p s
  | .timeSet o p => Sys2Proof.Machine.execTimeSet o p s
  | .jrnSubmit user w => Sys2Proof.Machine.execJrnSubmit user w s
  | .commitDone => Sys2Proof.Machine.execCommitDone s
  | .bufferFlush => Sys2Proof.Machine.execBufferFlush s
  | .custodyData h p => Sys2Proof.Machine.execCustodyData h p s
  | .cack h p => Sys2Proof.Machine.execCack h p s
  | .retransmit j => Sys2Proof.Machine.execRetransmit j s
  | .delivery j => Sys2Proof.Machine.execDelivery j s
  | .jrnRelease user w => Sys2Proof.Machine.execJrnRelease user w s
  | .messageExpire j => Sys2Proof.Machine.execMessageExpire j s
  | .flowFree f => Sys2Proof.Machine.execFlowFree f s
  | .flowcmdOpen user w => Sys2Proof.Machine.execFlowcmdOpen user w s
  | .flowcmdClose user w => Sys2Proof.Machine.execFlowcmdClose user w s
  | .flowcmdEpoch user w => Sys2Proof.Machine.execFlowcmdEpoch user w s
  | .flowcmdGet user w => Sys2Proof.Machine.execFlowcmdGet user w s
  | .msgSend o p => Sys2Proof.Machine.execMsgSend o p s
  | .msgRelease o p => Sys2Proof.Machine.execMsgRelease o p s
  | .flowOpen o p => Sys2Proof.Machine.execFlowOpen o p s
  | .flowClose o p => Sys2Proof.Machine.execFlowClose o p s
  | .flowEpoch o p => Sys2Proof.Machine.execFlowEpoch o p s
  | .flowGet o p => Sys2Proof.Machine.execFlowGet o p s
  | .jrnStatus o p => Sys2Proof.Machine.execJrnStatus o p s
  | .holdTest o p => Sys2Proof.Machine.execHoldTest o p s
  | .journalCheckpoint => Sys2Proof.Machine.execJournalCheckpoint s
  | .deliveryConfigApply => Sys2Proof.Machine.execDeliveryConfigApply s
  | .planeFail k status => Sys2Proof.Machine.execPlaneFail k status s
  | .hslFrame ep room p => Sys2Proof.Machine.execHslFrame ep room p s
  | .hslAckTimer ep ch => Sys2Proof.Machine.execHslAckTimer ep ch s
  | .hslAck ep seq => Sys2Proof.Machine.execHslAck ep seq s
  | .noticeSend => Sys2Proof.Machine.execNoticeSend s
  | .noticeRetransmit seq => Sys2Proof.Machine.execNoticeRetransmit seq s
  | .hslWake level => Sys2Proof.Machine.execHslWake level s
  | .hslSync o p => Sys2Proof.Machine.execHslSync o p s
  | .hslStatus o p => Sys2Proof.Machine.execHslStatus o p s
  | .hslArbitration host => Sys2Proof.Machine.execHslArbitration host s
  | .hslConfigApply => Sys2Proof.Machine.execHslConfigApply s
  | .flProgram core => Sys2Proof.Machine.execFlProgram core s
  | .flErase core => Sys2Proof.Machine.execFlErase core s
  | .flPoll core => Sys2Proof.Machine.execFlPoll core s
  | .flScrub core => Sys2Proof.Machine.execFlScrub core s
  | .flNvwrite core copies => Sys2Proof.Machine.execFlNvwrite core copies s
  | .flNvrepair core => Sys2Proof.Machine.execFlNvrepair core s
  | .flRdp core => Sys2Proof.Machine.execFlRdp core s
  | .flOtpwrite core => Sys2Proof.Machine.execFlOtpwrite core s
  | .flInfo core => Sys2Proof.Machine.execFlInfo core s
  | .flReservedEntry core => Sys2Proof.Machine.execFlReservedEntry core s
  | .flashEraseDone => Sys2Proof.Machine.execFlashEraseDone s
  | .rdpLowerDone => Sys2Proof.Machine.execRdpLowerDone s
  | .eraseResume => Sys2Proof.Machine.execEraseResume s
  | .scrubRead corr retried bad => Sys2Proof.Machine.execScrubRead corr retried bad s
  | .flcOpProgramUnit user rom w => Sys2Proof.Machine.execFlcOpProgramUnit user rom w s
  | .flcOpEraseSector user rom w => Sys2Proof.Machine.execFlcOpEraseSector user rom w s
  | .flcOpErasePlane user rom w => Sys2Proof.Machine.execFlcOpErasePlane user rom w s
  | .flcOpSuspend user rom w => Sys2Proof.Machine.execFlcOpSuspend user rom w s
  | .flcOpResume user rom w => Sys2Proof.Machine.execFlcOpResume user rom w s
  | .flcOpProgramOtp user rom w => Sys2Proof.Machine.execFlcOpProgramOtp user rom w s
  | .flcOpDone => Sys2Proof.Machine.execFlcOpDone s
  | .otpaddrWrite user w => Sys2Proof.Machine.execOtpaddrWrite user w s
  | .dfiWrite o p => Sys2Proof.Machine.execDfiWrite o p s
  | .dfiRead o p => Sys2Proof.Machine.execDfiRead o p s
  | .rlrWrite o p => Sys2Proof.Machine.execRlrWrite o p s
  | .rlrRead o p => Sys2Proof.Machine.execRlrRead o p s
  | .nvStatus o p => Sys2Proof.Machine.execNvStatus o p s
  | .userWrite o p => Sys2Proof.Machine.execUserWrite o p s
  | .userRead o p => Sys2Proof.Machine.execUserRead o p s
  | .userErase o p => Sys2Proof.Machine.execUserErase o p s
  | .fwWrite o p => Sys2Proof.Machine.execFwWrite o p s
  | .fwErase o p => Sys2Proof.Machine.execFwErase o p s
  | .fwVerify o p => Sys2Proof.Machine.execFwVerify o p s
  | .fwActivate o p => Sys2Proof.Machine.execFwActivate o p s
  | .fwCancel o p => Sys2Proof.Machine.execFwCancel o p s
  | .fwConfirm o p => Sys2Proof.Machine.execFwConfirm o p s
  | .fwStatus o p => Sys2Proof.Machine.execFwStatus o p s
  | .activationKeeper => Sys2Proof.Machine.execActivationKeeper s
  | .activationQuiesce => Sys2Proof.Machine.execActivationQuiesce s
  | .activationReset => Sys2Proof.Machine.execActivationReset s
  | .autoConfirm => Sys2Proof.Machine.execAutoConfirm s
  | .keyLoad user rom w => Sys2Proof.Machine.execKeyLoad user rom w s
  | .keyClear user w => Sys2Proof.Machine.execKeyClear user w s
  | .tunkeyWrite user w => Sys2Proof.Machine.execTunkeyWrite user w s
  | .cryptoStart c user w => Sys2Proof.Machine.execCryptoStart c user w s
  | .cryptoAbort c user w => Sys2Proof.Machine.execCryptoAbort c user w s
  | .cryptoChunk pk => Sys2Proof.Machine.execCryptoChunk pk s
  | .cryptoDone c => Sys2Proof.Machine.execCryptoDone c s
  | .rngWindow => Sys2Proof.Machine.execRngWindow s
  | .rngHealthFail test => Sys2Proof.Machine.execRngHealthFail test s
  | .rngAutoRestart => Sys2Proof.Machine.execRngAutoRestart s
  | .rngRestart user w => Sys2Proof.Machine.execRngRestart user w s
  | .rngRequest n user w => Sys2Proof.Machine.execRngRequest n user w s
  | .rngRequestDone n => Sys2Proof.Machine.execRngRequestDone n s
  | .tamperAlarm src on => Sys2Proof.Machine.execTamperAlarm src on s
  | .keyStoreErase => Sys2Proof.Machine.execKeyStoreErase s
  | .latchClear user w => Sys2Proof.Machine.execLatchClear user w s
  | .secStatus o p => Sys2Proof.Machine.execSecStatus o p s
  | .keyProvision o p => Sys2Proof.Machine.execKeyProvision o p s
  | .keyRevoke o p => Sys2Proof.Machine.execKeyRevoke o p s
  | .tamperClear o p => Sys2Proof.Machine.execTamperClear o p s
  | .rngStatus o p => Sys2Proof.Machine.execRngStatus o p s
  | .alu core w => Sys2Proof.Machine.execAlu core w s
  | .addi core w => Sys2Proof.Machine.execAddi core w s
  | .andi core w => Sys2Proof.Machine.execAndi core w s
  | .ori core w => Sys2Proof.Machine.execOri core w s
  | .xori core w => Sys2Proof.Machine.execXori core w s
  | .tlti core w => Sys2Proof.Machine.execTlti core w s
  | .tltiu core w => Sys2Proof.Machine.execTltiu core w s
  | .shi core w => Sys2Proof.Machine.execShi core w s
  | .ldhi core w => Sys2Proof.Machine.execLdhi core w s
  | .addpch core w => Sys2Proof.Machine.execAddpch core w s
  | .ldb core w => Sys2Proof.Machine.execLdb core w s
  | .ldbu core w => Sys2Proof.Machine.execLdbu core w s
  | .ldh core w => Sys2Proof.Machine.execLdh core w s
  | .ldhu core w => Sys2Proof.Machine.execLdhu core w s
  | .ldw core w => Sys2Proof.Machine.execLdw core w s
  | .stb core w => Sys2Proof.Machine.execStb core w s
  | .sth core w => Sys2Proof.Machine.execSth core w s
  | .stw core w => Sys2Proof.Machine.execStw core w s
  | .memx core w => Sys2Proof.Machine.execMemx core w s
  | .ldf core w => Sys2Proof.Machine.execLdf core w s
  | .stf core w => Sys2Proof.Machine.execStf core w s
  | .br core w => Sys2Proof.Machine.execBr core w s
  | .j core w => Sys2Proof.Machine.execJ core w s
  | .call core w => Sys2Proof.Machine.execCall core w s
  | .jr core w => Sys2Proof.Machine.execJr core w s
  | .callr core w => Sys2Proof.Machine.execCallr core w s
  | .ret core w => Sys2Proof.Machine.execRet core w s
  | .getdsp core w => Sys2Proof.Machine.execGetdsp core w s
  | .setdsp core w => Sys2Proof.Machine.execSetdsp core w s
  | .push core w => Sys2Proof.Machine.execPush core w s
  | .pop core w => Sys2Proof.Machine.execPop core w s
  | .getrsp core w => Sys2Proof.Machine.execGetrsp core w s
  | .mfs core w => Sys2Proof.Machine.execMfs core w s
  | .mts core w => Sys2Proof.Machine.execMts core w s
  | .trap core w => Sys2Proof.Machine.execTrap core w s
  | .eret core w => Sys2Proof.Machine.execEret core w s
  | .wait core w => Sys2Proof.Machine.execWait core w s
  | .swap core w => Sys2Proof.Machine.execSwap core w s
  | .cas core w => Sys2Proof.Machine.execCas core w s
  | .setie core w => Sys2Proof.Machine.execSetie core w s
  | .fp core w => Sys2Proof.Machine.execFp core w s
  | .dspm core w => Sys2Proof.Machine.execDspm core w s
  | .intCmd core => Sys2Proof.Machine.execIntCmd core s
  | .waitWake core => Sys2Proof.Machine.execWaitWake core s
  | .interruptSource core id level => Sys2Proof.Machine.execInterruptSource core id level s
  | .presentation core => Sys2Proof.Machine.execPresentation core s
  | .eoi user core w => Sys2Proof.Machine.execEoi user core w s
  | .doorbell user core writer w => Sys2Proof.Machine.execDoorbell user core writer w s
  | .swset user w => Sys2Proof.Machine.execSwset user w s
  | .swclr user w => Sys2Proof.Machine.execSwclr user w s
  | .icuRingRead user core w => Sys2Proof.Machine.execIcuRingRead user core w s
  | .icuRingConfig core => Sys2Proof.Machine.execIcuRingConfig core s
  | .fire user w => Sys2Proof.Machine.execFire user w s
  | .firem user j w => Sys2Proof.Machine.execFirem user j w s
  | .aonfire user w => Sys2Proof.Machine.execAonfire user w s
  | .grpset user w => Sys2Proof.Machine.execGrpset user w s
  | .grpclr user w => Sys2Proof.Machine.execGrpclr user w s
  | .groupEdge g => Sys2Proof.Machine.execGroupEdge g s
  | .eventEdge code level => Sys2Proof.Machine.execEventEdge code level s
  | .consumerAccept input => Sys2Proof.Machine.execConsumerAccept input s
  | .tmbCapture user w => Sys2Proof.Machine.execTmbCapture user w s
  | .compareMatch n => Sys2Proof.Machine.execCompareMatch n s
  | .stagger user w => Sys2Proof.Machine.execStagger user w s
  | .cmphiWrite user n w => Sys2Proof.Machine.execCmphiWrite user n w s
  | .cmploRead n => Sys2Proof.Machine.execCmploRead n s
  | .capstatRead c => Sys2Proof.Machine.execCapstatRead c s
  | .pmstatRead n => Sys2Proof.Machine.execPmstatRead n s
  | .pmctlDisable user n => Sys2Proof.Machine.execPmctlDisable user n s
  | .tmbStop => Sys2Proof.Machine.execTmbStop s
  | .tmbMakeup => Sys2Proof.Machine.execTmbMakeup s
  | .tmbResume => Sys2Proof.Machine.execTmbResume s
  | .snapshotTake user w => Sys2Proof.Machine.execSnapshotTake user w s
  | .snapshotFillDone => Sys2Proof.Machine.execSnapshotFillDone s
  | .snapRead o p => Sys2Proof.Machine.execSnapRead o p s
  | .daliSend index user w => Sys2Proof.Machine.execDaliSend index user w s
  | .daliFrameStart index => Sys2Proof.Machine.execDaliFrameStart index s
  | .daliTxDone index => Sys2Proof.Machine.execDaliTxDone index s
  | .daliCollision index => Sys2Proof.Machine.execDaliCollision index s
  | .daliRxFrame index data bits err => Sys2Proof.Machine.execDaliRxFrame index data bits err s
  | .daliBackwardTimeout index => Sys2Proof.Machine.execDaliBackwardTimeout index s
  | .daliBusfail index held => Sys2Proof.Machine.execDaliBusfail index held s
  | .rxinfoRead index => Sys2Proof.Machine.execRxinfoRead index s
  | .dmoFade n => Sys2Proof.Machine.execDmoFade n s
  | .dmoPeriod n => Sys2Proof.Machine.execDmoPeriod n s
  | .metZeroCrossing => Sys2Proof.Machine.execMetZeroCrossing s
  | .metPeriod v i1 i2 p1 p2 period de1 de2 clip => Sys2Proof.Machine.execMetPeriod v i1 i2 p1 p2 period de1 de2 clip s
  | .metNozc => Sys2Proof.Machine.execMetNozc s
  | .eclr user w => Sys2Proof.Machine.execEclr user w s
  | .energyRead k => Sys2Proof.Machine.execEnergyRead k s
  | .serGo k user w => Sys2Proof.Machine.execSerGo k user w s
  | .serAbort k user w => Sys2Proof.Machine.execSerAbort k user w s
  | .serDone k r sent rx => Sys2Proof.Machine.execSerDone k r sent rx s
  | .txfifoPush k user w => Sys2Proof.Machine.execTxfifoPush k user w s
  | .rxfifoPop k => Sys2Proof.Machine.execRxfifoPop k s
  | .serRxByte k b err => Sys2Proof.Machine.execSerRxByte k b err s
  | .bistRun o p => Sys2Proof.Machine.execBistRun o p s
  | .bistGo user w => Sys2Proof.Machine.execBistGo user w s
  | .bistDone sigs fails => Sys2Proof.Machine.execBistDone sigs fails s
  | .bistResult o p => Sys2Proof.Machine.execBistResult o p s
  | .fcrRead o p => Sys2Proof.Machine.execFcrRead o p s
  | .faultCommit => Sys2Proof.Machine.execFaultCommit s
  | .swapWindowClose same => Sys2Proof.Machine.execSwapWindowClose same s
  | .samplesValid b => Sys2Proof.Machine.execSamplesValid b s
  | .xrefStartTimeout => Sys2Proof.Machine.execXrefStartTimeout s
  | .pwrdrop c => Sys2Proof.Machine.execPwrdrop c s
  | .wkrBlankingEnd => Sys2Proof.Machine.execWkrBlankingEnd s
  | .wearoverClear => Sys2Proof.Machine.execWearoverClear s
  | .hslLengthDiscard length => Sys2Proof.Machine.execHslLengthDiscard length s

end Sys2Proof.Machine
end

