-- ==== Sys2Proof/Machine/Step.lean ====
section
/-!
DEFINITION. The step: the command at the front of the queue is executed with the rest of the queue; on an empty queue one
edge of the clock that drives TMB passes.
-/

namespace Sys2Proof.Machine

/-- One step. DESIGN CHOICE: on an empty queue the block makes one clock edge. -/
def step (s : State) : Host.Outcome State Fault Refusal :=
  match s.pending with
  | [] => .next s.clockEdge
  | c :: rest => exec c { s with pending := rest }

/-- `s` with the command that a word of the table spells put at the front of its queue. -/
def State.withFetchWord (s : State) (nbits w : Nat) : State :=
  match Sys2Proof.decodeTableWord nbits w with
  | none => s
  | some c => { s with pending := c :: s.pending }

end Sys2Proof.Machine
end

