-- ==== Sys2Proof/Safety.lean ====
section
/-!
DEFINITION. The terms in which claims about runs are made: completing with an effect, the response to a host command,
the conditions under which a command is taken, what a command leaves alone, and the canonical form of the state.
-/

namespace Sys2Proof.Machine

/-- A command completes: its execution answers a next state, of which a fact holds. -/
def Completes (c : Instr) (s : State) (post : State → Prop) : Prop := ∃ t, exec c s = .next t ∧ post t

/-- The response to a host command has been sent, or waits to be sent (R373, R379). -/
def State.responded (t : State) (o : Origin) (payload : List Byte) : Prop :=
  let f : HslFrame := { ep := o.ep, kind := 2, ch := o.ch, seq := o.seq, payload := payload }
  f ∈ t.hsl.out ∨ f ∈ t.hsl.waiting

/-- A host command is taken and executed when it comes: its endpoint hears the host, its channel is open and idle, it
is no repetition, it is served where the part stands, and its payload fits the tunnel (R375-R377, R385). -/
def State.takes (s : State) (o : Origin) (code : Nat) (p : List Byte) : Prop :=
  s.hearsHost o.ep = true
  ∧ (code = 0x10 → s.pw.boot = .run ∨ s.pw.boot = .service ∨ s.pw.boot = .halt)
  ∧ (code ≠ 0x10 → (s.chan o.ep o.ch).opened = true)
  ∧ (s.chan o.ep o.ch).running = false ∧ (s.chan o.ep o.ch).last ≠ some o.seq
  ∧ s.serves o code = true
  ∧ (o.ep = .tunnel → p.length + 2 ≤ 1024)

/-- The state in which the handler of a host command runs: the frame is counted and the channel runs the command
(R377, R391). -/
def State.taking (s : State) (o : Origin) : State :=
  (s.frameIn (some o)).setChan o.ep o.ch { opened := true, last := some o.seq, since := s.tb.now, running := true }

/-- A core can call the flash routines and is let through (R395): it runs with machine privilege, outside LASTGASP. -/
def State.callReady (s : State) (core : Nat) : Prop :=
  s.coreRuns core = true ∧ s.coreMach core = true ∧ s.mode ≠ 5

/-- A routine of the flash table has answered a status in g0 of its caller (R395). -/
def State.callAnswered (t : State) (core : Nat) (st : Status) : Prop := t.g core 0 = Word.ofN st.code

/-- Every byte of memory reads as before. -/
def State.sameMemory (s t : State) : Prop := ∀ a, t.byte a = s.byte a

/-- Every register but those at the listed addresses holds what it held. -/
def State.sameRegsBut (s t : State) (l : List Nat) : Prop := ∀ a, a ∉ l → t.reg a = s.reg a

/-- The canonical form of registers and memory. -/
def State.canonical (s : State) : Prop := s.regsWf = true ∧ s.memWf = true

/-! ## Pip instructions -/

/-- A core begins an instruction: it runs, no interrupt is due, the word at its pc is `w` and spells `i`, and the
privilege suffices (R471, R488, R492); `u` is the state, after the fetch, in which the effect begins. -/
def State.begins (s : State) (core : Nat) (w : Word) (i : PipInsn) (u : State) : Prop :=
  s.pipRuns core = true ∧ (bitAt (s.core core).psr.toNat 0 && s.irqRequest core) = false
  ∧ pipDecode (core == 4) w = some i ∧ (i.privileged = true → s.coreMach core = true)
  ∧ ∃ f, s.fetch core = .word w.toNat f ∧ u = f.setCore core { f.core core with entered := false }

/-- The address after an instruction. -/
def State.nextPc (u : State) (core : Nat) (w : Word) : Nat := (u.pc core + insnLen w) % 2 ^ 32

/-- The core has gone on at `next` as `c` says but for its general and floating-point registers and the cycle count; the
other cores and every register of the map are as before. -/
def State.goesOn (u t : State) (core : Nat) (c : PipCore) (next : Nat) : Prop :=
  t.core core = { c with g := (t.core core).g, f := (t.core core).f, pc := Word.ofN next, cycle := (t.core core).cycle }
  ∧ (∀ k, k ≠ core → t.core k = u.core k) ∧ u.sameRegsBut t []

/-- One general register holds `v`, and the others and the floating-point registers what they held. -/
def State.setsG (u t : State) (core d : Nat) (v : Word) : Prop :=
  t.g core d = v ∧ (∀ r, r ≠ d → t.g core r = u.g core r) ∧ ∀ r, t.fr core r = u.fr core r

/-- One floating-point register holds `v`, and the others and the general registers what they held. -/
def State.setsF (u t : State) (core d : Nat) (v : Word) : Prop :=
  t.fr core d = v ∧ (∀ r, r ≠ d → t.fr core r = u.fr core r) ∧ ∀ r, t.g core r = u.g core r

/-- No general or floating-point register has changed. -/
def State.setsNone (u t : State) (core : Nat) : Prop :=
  (∀ r, t.g core r = u.g core r) ∧ ∀ r, t.fr core r = u.fr core r

/-- An instruction wrote `v` to gD and went on; memory is as before. -/
def State.wroteG (u t : State) (core : Nat) (w : Word) (d : Nat) (v : Word) : Prop :=
  u.setsG t core d v ∧ u.goesOn t core (u.core core) (u.nextPc core w) ∧ u.sameMemory t

/-- `n` bytes of storage can be read by a core: aligned, allowed, in SRAM that answers, without an ECC mark. -/
def State.readable (u : State) (core a n : Nat) : Prop :=
  a % n = 0 ∧ u.protect core a n true false = 0
  ∧ (region a = .mainSram ∨ region a = .retained ∨ region a = .context)
  ∧ u.stalls a = false ∧ u.memAnswers a = true ∧ Sparse.find? u.ecc (a / 8) = none

/-- `n` bytes of main or retained SRAM can be written by a core. -/
def State.writable (u : State) (core a n : Nat) : Prop :=
  a % n = 0 ∧ u.protect core a n false true = 0 ∧ (region a = .mainSram ∨ region a = .retained)
  ∧ u.stalls a = false ∧ u.memAnswers a = true ∧ Sparse.find? u.ecc (a / 8) = none

/-- The bytes at `a` are the `n` low bytes of `v`, and every other byte is as before. -/
def State.stored (u t : State) (a n v : Nat) : Prop :=
  t.bytes a n = leBytes n v ∧ ∀ b, b < a ∨ a + n ≤ b → t.byte b = u.byte b

/-- A core can take the exception of a vector: the nesting is below 15, the frame lies in its machine return stack, in
storage that answers, and the vector's word in SRAM that answers, outside the frame, is even (R485). -/
def State.canEnter (u : State) (core vec : Nat) : Prop :=
  let c := u.core core
  let sp := (c.rspm.toNat + 2 ^ 32 - 16) % 2 ^ 32
  let va := (c.vbase.toNat + 4 * vec) % 2 ^ 32
  bitsOf c.psr.toNat 4 4 < 15 ∧ c.rsmBase.toNat ≤ sp ∧ sp < c.rsmLim.toNat
  ∧ (region sp = .mainSram ∨ region sp = .retained) ∧ region (sp + 15) = region sp ∧ u.stalls sp = false ∧ u.memAnswers sp = true
  ∧ (region va = .mainSram ∨ region va = .retained) ∧ va % 4 = 0 ∧ u.stalls va = false ∧ u.memAnswers va = true
  ∧ Sparse.find? u.ecc (va / 8) = none ∧ u.mem va 4 % 2 = 0 ∧ (va + 4 ≤ sp ∨ sp + 16 ≤ va)

/-- A core has taken an exception (R485): the frame on its machine return stack holds EPC with bit 0 set, PSR, EFRAME and
ECAUSE; privilege is machine, interrupts are disabled, the depth is one more, and the pc is the vector's word. -/
def State.hasEntered (u t : State) (core vec eaddr detail einsn epc : Nat) : Prop :=
  let c := u.core core
  let sp := (c.rspm.toNat + 2 ^ 32 - 16) % 2 ^ 32
  let d := t.core core
  (∃ ilen, ilen < 2 ∧ d.ecause = Word.ofN (2 ^ 16 * detail + 2 ^ 8 * ilen + vec))
  ∧ d = { c with
      ecause := d.ecause
      eaddr := Word.ofN eaddr
      einsn := Word.ofN einsn
      eframe := Word.ofN sp
      rspm := Word.ofN sp
      psr := Word.ofN (16 * (bitsOf c.psr.toNat 4 4 + 1) + 2)
      pc := Word.ofN (u.mem ((c.vbase.toNat + 4 * vec) % 2 ^ 32) 4)
      entered := true
      cycle := d.cycle }
  ∧ t.mem sp 4 = epc ||| 1 ∧ t.mem (sp + 4) 4 = c.psr.toNat ∧ t.mem (sp + 8) 4 = c.eframe.toNat
  ∧ t.mem (sp + 12) 4 = d.ecause.toNat
  ∧ (∀ k, k ≠ core → t.core k = u.core k) ∧ u.sameRegsBut t []
  ∧ ∀ b, b < sp ∨ sp + 16 ≤ b → t.byte b = u.byte b

/-- Storage of the link context RAM that a core can write: aligned, allowed, answering, without an ECC mark. -/
def State.contextWritable (u : State) (core a n : Nat) : Prop :=
  a % n = 0 ∧ region a = .context ∧ u.protect core a n false true = 0 ∧ u.memAnswers a = true
  ∧ Sparse.find? u.ecc (a / 8) = none

/-- What a bus write of `n` bytes leaves in the link context RAM (R282): firmware's part takes the bytes; the hardware part
takes them while the context is FREE, but for the bytes and the bit that hardware alone sets. -/
def State.contextWritten (s t : State) (a n v : Nat) : Prop :=
  (∀ k, k < n →
    let b := a + k
    let o := (b - 0x30000000) % 256
    let free := bitsOf (s.byte (b - o + 2)).toNat 0 4 = 0
    let new := Byte.ofN (v / 2 ^ (8 * k))
    (0x90 ≤ o → t.byte b = new)
    ∧ (o < 0x90 → ¬free → t.byte b = s.byte b)
    ∧ (o < 3 ∨ (0x20 ≤ o ∧ o ≤ 0x2B) ∨ (0x30 ≤ o ∧ o ≤ 0x35) → t.byte b = s.byte b)
    ∧ (o = 3 → free → ∀ j, j < 8 →
        bitAt (t.byte b).toNat j = if j = 3 then bitAt (s.byte b).toNat 3 else bitAt new.toNat j)
    ∧ (3 < o → o < 0x90 → ¬(0x20 ≤ o ∧ o ≤ 0x2B) → ¬(0x30 ≤ o ∧ o ≤ 0x35) → free → t.byte b = new))
  ∧ ∀ b, b < a ∨ a + n ≤ b → t.byte b = s.byte b

end Sys2Proof.Machine
end

