-- ==== Sys2Proof/Certificates/Slice0/Obligations.lean ====
section
/-!
DEFINITION. The statements for the provers.
-/

open Sys2Proof Sys2Proof.Machine

/-- A step takes the command at the front of the queue and executes it on the state with the queue's rest (the model's
own frame: the commands of the table wait first in, first out). -/
def Obligations.StepRunsFrontCommand : Prop :=
  ∀ (c : Instr) (rest : List Instr) (s : State),
    step { s with pending := c :: rest } = exec c { s with pending := rest }

/-- With no command waiting a step is one edge of the clock that drives TMB (the model's choice); while TMB runs on CK_REF
the edge advances it by one. -/
def Obligations.IdleStepIsOneClockEdge : Prop :=
  ∀ s : State, s.pending = [] →
    ∃ t, step s = .next t ∧ t.pending = [] ∧ t.tick = s.tick + 1
      ∧ (s.tb.run = .ref → t.tb.now = (s.tb.now + 1) % 2 ^ 64) ∧ s.sameMemory t

/-- REGISTER_WRITE and RC_READ (R5-R8, R24). -/
def Obligations.RegisterAccessFollowsAccessTypes : Prop :=
  ∀ (s : State) (a : Nat) (w : Word), s.alive = true → s.regAnswers a = true →
    (∀ r i, regAt a = some (r, i) → (blockOf a = 0x12 ∨ blockOf a = 0x14 ∨ blockOf a = 0x15) →
      Completes (.registerWrite false a w) s fun t =>
        t.busError = false ∧ s.sameRegsBut t [a] ∧ s.sameMemory t
        ∧ ∀ f ∈ r.fields, bitsOf (t.regN a) f.lsb f.width
            = f.written (s.lockedReg a r) (bitsOf (s.regN a) f.lsb f.width) (bitsOf w.toNat f.lsb f.width))
    ∧ Completes (.registerWrite true a w) s (fun t => t = { s with busError := false })
    ∧ (regAt a = none → Completes (.registerWrite false a w) s fun t => t = { s with busError := false })
    ∧ (∀ r i again, regAt a = some (r, i) → s.readHook a i = none →
      Completes (.rcRead a again) s fun t =>
        t.busError = false ∧ t.busData = Word.ofN (s.shows a) ∧ s.sameRegsBut t [a] ∧ s.sameMemory t
        ∧ ∀ f ∈ r.fields, bitsOf (t.regN a) f.lsb f.width
            = if f.acc = .rc then bitsOf again f.lsb f.width else bitsOf (s.regN a) f.lsb f.width)

/-- A register access that does not answer (R24, R31). -/
def Obligations.UnansweredAccessIsBusError : Prop :=
  ∀ (s : State) (a again : Nat) (user : Bool) (w : Word), s.alive = true → s.regAnswers a = false →
    Completes (.registerWrite user a w) s (fun t => t.busError = true ∧ s.sameRegsBut t [] ∧ s.sameMemory t)
    ∧ Completes (.rcRead a again) s (fun t => t.busError = true ∧ s.sameRegsBut t [] ∧ s.sameMemory t)

/-- MODE_REQUEST, MODE_SET and MODE_GET (R43-R49). -/
def Obligations.ModeRequestStartsTransition : Prop :=
  ∀ s : State,
    (∀ (core : Nat) (w : Word),
      let s1 := s.writeReg A.pmuModereq w
      let r := { modeReqOf w.toNat (coreSource core) with at_ := s.tick }
      (s1.checkMode r = none → s.pw.trans = none → s1.swapHoldsMode = false →
        Completes (.modeRequest core false w) s fun t => ∃ ph, t.pw.trans = some { req := r, phase := ph })
      ∧ (profileLegal r.mode r.profile = false →
        Completes (.modeRequest core false w) s fun t =>
          t.fld F.pmuModestatResult = Status.reservedValue.code ∧ t.pw = s.pw
          ∧ s.sameRegsBut t [A.pmuModereq, A.pmuModestat] ∧ s.sameMemory t)
      ∧ (s1.checkMode r = some .ok →
        Completes (.modeRequest core false w) s fun t =>
          t.fld F.pmuModestatResult = Status.ok.code ∧ t.pw = s.pw
          ∧ s.sameRegsBut t [A.pmuModereq, A.pmuModestat] ∧ s.sameMemory t))
    ∧ (∀ (o : Origin) (p : List Byte), s.takes o 0x12 p → p.length = 4 → byteAt p 3 = 0 →
        let s1 := s.taking o
        let r : ModeReq := { mode := byteAt p 0, profile := byteAt p 1, bands := byteAt p 2, source := 4, at_ := s.tick }
        s1.checkMode r = none → s.pw.trans = none → s1.swapHoldsMode = false →
          Completes (.modeSet o p) s fun t =>
            (∃ ph, t.pw.trans = some { req := r, phase := ph })
            ∧ t.responded o (rspPayload 0x12 .pending (leBytes 4 (t.regN A.pmuModestat))))
    ∧ (∀ o : Origin, s.takes o 0x13 [] →
        Completes (.modeGet o []) s fun t =>
          t.responded o (rspPayload 0x13 .ok (leBytes 4 (s.regN A.pmuModestat))) ∧ t.pw = s.pw ∧ s.sameMemory t)

/-- MODE_TRANSITION_DONE, XREF_TRANSITION_TIMEOUT and DRAIN_END (R51-R53). -/
def Obligations.TransitionCompletes : Prop :=
  ∀ (s : State) (x : Transition), s.pw.trans = some x →
    (s.pw.waiting = none → s.transReady x = true →
      Completes .modeTransitionDone s fun t => t.pw.trans = none ∧ t.pw.wSleep = false ∧ t.pw.waiting = none)
    ∧ (s.pw.waiting = none → x.phase = .running → needsXref x.req.mode x.req.profile = true →
        s.flag F.pmuStatXrefrdy = false →
      Completes .xrefTransitionTimeout s fun t => t.pw.trans = none ∧ t.pw.waiting = none)
    ∧ (x.phase = .drain →
      Completes .drainEnd s fun t =>
        t.pw.trans = some { x with phase := if x.req.mode = 0 then .quiesce else .running })

/-- W_SLEEP_ENTRY, MODE_WAKE_TIME, WAKE_SOURCE, WAKETMR_WRITE and WAKETMR_FIRE (R37, R46, R53, R128). -/
def Obligations.WatchSleepsAndWakes : Prop :=
  ∀ s : State,
    (s.maySleep = true →
      Completes .wSleepEntry s fun t => t.pw.wSleep = true ∧ t.pw.ownWake = s.sleepUntil ∧ t.retention = true)
    ∧ (∀ n, s.pw.wSleep = true → s.pw.ownWake = some n →
      Completes .modeWakeTime s fun t => t.pw.wSleep = false ∧ t.pw.ownWake = none)
    ∧ (∀ src, 16 ≤ src → src ≤ 20 → s.pw.boot = .run → s.pw.trans = none → s.dormant = false → s.pw.wSleep = true →
      Completes (.wakeSource src) s fun t => t.pw.wSleep = false)
    ∧ (∀ src x, 16 ≤ src → src ≤ 20 → s.pw.boot = .run → s.pw.trans = some x → x.req.mode = 0 → x.phase = .quiesce →
        s.pw.waiting = none →
      Completes (.wakeSource src) s fun t =>
        t.pw.trans = none ∧ t.fld F.pmuModestatResult = Status.busy.code ∧ t.flag F.pmuModestatBusy = false)
    ∧ (∀ w, Completes (.waketmrWrite false w) s fun t =>
        t.reg A.pmuWaketmr = w ∧ t.reg A.pmuWakecnt = w ∧ s.sameRegsBut t [A.pmuWaketmr, A.pmuWakecnt]
        ∧ s.sameMemory t ∧ t.pw = s.pw)
    ∧ (s.regN A.pmuWaketmr ≠ 0 →
      Completes .waketmrFire s fun t =>
        t.flag F.pmuIntstatWaketmr = true ∧ t.regN A.pmuWaketmr = 0 ∧ t.regN A.pmuWakecnt = 0)

/-- PAD_LATCH and PAD_HOLD_RELEASE (R53, R110-R112). -/
def Obligations.PadLatchCommitsDormantEntry : Prop :=
  ∀ s : State,
    (∀ x, s.pw.trans = some x → x.req.mode = 0 → x.phase = .quiesce → s.onAir = false →
      (s.hsl.wake = false →
        Completes .padLatch s fun t =>
          t.pw.trans = some { x with phase := .latched } ∧ t.flag F.pmuStatRegrdy = false
          ∧ t.flag F.pmuStatAonlp = true ∧ t.pw.clusterWaking = [])
      ∧ (s.hsl.wake = true → s.pw.waiting = none →
        Completes .padLatch s fun t => t.pw.trans = none ∧ t.fld F.pmuModestatResult = Status.busy.code))
    ∧ (∀ w : Word, bitAt w.toNat 0 = true → s.comUp = true →
      Completes (.padHoldRelease false w) s fun t => t.pw.held = [])

/-- CLUSTER_IDLE and CLUSTER_POWERED (R28, R606). -/
def Obligations.ClusterFollowsDemand : Prop :=
  ∀ (s : State) (n : Nat), 1 ≤ n → n ≤ 3 →
    (s.mode = 2 → s.profile = 1 → s.pw.trans = none → s.clusterWork n = false → s.narrowNeeds n = false →
      Completes (.clusterIdle n) s fun t => t.domainOn (Domain.cl n) = false)
    ∧ (s.pw.clusterWaking = [n] → s.pw.lateWrites = [] → s.onDemand n = true →
      Completes (.clusterPowered n) s fun t =>
        t.domainOn (Domain.cl n) = true ∧ t.pw.clusterWaking = [] ∧ s.sameRegsBut t [A.pmuDomstat])

/-- SUPPLY_FAILURE, SUPPLY_CLEAR, SUPPLY_RESTORED, LASTGASP_FLUSH_DONE and LASTGASP_END (R50, R55-R57, R105). -/
def Obligations.SupplyFailureRunsLastgasp : Prop :=
  ∀ s : State,
    (s.flag F.pmuModestatPfail = false → s.pw.boot = .run → s.jrn.holding = false → s.mode ≠ 5 →
      Completes .supplyFailure s fun t =>
        t.pw.lg = .flush ∧ t.pw.trans = none ∧ t.pw.waiting = none
        ∧ t.pw.formerMode = some { mode := s.mode, profile := s.profile, bands := s.fld F.pmuModestatBands, source := 2 })
    ∧ (s.flag F.pmuModestatPfail = true →
      Completes .supplyClear s fun t =>
        t.flag F.pmuModestatPfail = false ∧ t.flag F.pmuIntstatPfrestore = true)
    ∧ (∀ r, s.flag F.pmuModestatPfail = false → s.pw.boot = .run → s.pw.formerMode = some r → s.pw.lg = .alarms →
        (s.cancelAlarms.submitMode r).1 = .pending →
      Completes .supplyRestored s fun t => t.pw.lg = .none ∧ t.pw.formerMode = none)
    ∧ (s.mode = 5 → s.pw.lg = .flush → s.sec.haltWait = false →
      Completes .lastgaspFlushDone s fun t => t.pw.lg = .alarms)
    ∧ (s.mode = 5 → s.pw.lg = .alarms → s.alarmsLeft = false → s.flag F.pmuModecfgLgend = true →
      Completes .lastgaspEnd s fun t =>
        t = { s with pw := { s.pw with lg := .none, formerMode := none, boot := .off } })

/-- LPMON_UPDATE, BUCK_CURRENT_LIMIT, XLF_FAIL, XLF_QUALIFIED, LFRATIO_MEASURE, HFRC_FAIL, XREF_RETRY and SPREAD_APPLY
(R104, R108, R113-R115, R118, R121). -/
def Obligations.SupplyAndOscillatorEvents : Prop :=
  ∀ s : State,
    (∀ load, s.flag F.pmuStatAonlp = true →
      Completes (.lpmonUpdate load) s fun t =>
        t.fld F.pmuLpmonLoad = min load 255 ∧ t.fld F.pmuLpmonPeak = max (s.fld F.pmuLpmonPeak) (min load 255)
        ∧ (s.fld F.pmuLpmonWarn < min load 255 → t.flag F.pmuIntstatLphigh = true)
        ∧ s.sameRegsBut t [A.pmuLpmon, A.pmuIntstat])
    ∧ Completes (.buckCurrentLimit true) s (fun t =>
        t.flag F.pmuStatBuckilim = true ∧ t.flag F.pmuIntstatBuckilim = true ∧ s.sameRegsBut t [A.pmuStat, A.pmuIntstat])
    ∧ Completes (.buckCurrentLimit false) s (fun t =>
        t.flag F.pmuStatBuckilim = false ∧ s.sameRegsBut t [A.pmuStat])
    ∧ Completes .xlfFail s (fun t =>
        t.flag F.pmuIntstatXlffail = true ∧ t.flag F.pmuStatLfrc = true ∧ t.flag F.pmuStatXlfok = false
        ∧ t.pw = { s.pw with xlfFailed := true } ∧ s.sameRegsBut t [A.pmuStat, A.pmuIntstat])
    ∧ (s.pw.xlfFailed = false →
      Completes .xlfQualified s fun t =>
        t.flag F.pmuStatXlfok = true ∧ t.flag F.pmuStatLfrc = false ∧ t.pw = s.pw ∧ s.sameRegsBut t [A.pmuStat])
    ∧ (∀ ticks, s.flag F.pmuStatXrefrdy = true → ticks * 16 < 2 ^ 32 →
      Completes (.lfratioMeasure ticks) s fun t => t.regN A.pmuLfratio = ticks * 16 ∧ s.sameRegsBut t [A.pmuLfratio])
    ∧ Completes .hfrcFail s (fun t =>
        t.flag F.pmuIntstatHfrcfail = true ∧ t.flag F.pmuStatHfrcok = false
        ∧ t.pw = { s.pw with hfrcFailed := true } ∧ s.sameRegsBut t [A.pmuStat, A.pmuIntstat])
    ∧ (s.domainOn .xr = true → s.flag F.pmuStatXrefrdy = false →
      Completes .xrefRetry s fun t => t = { s with pw := { s.pw with xrefStarting := true } })
    ∧ Completes .spreadApply s (fun t => t = { s with pw := { s.pw with spreadInForce := s.regN A.clkSpread } })

/-- PLLC_WRITE, PLLF_WRITE, PLL_LOCK, PLL_LOCK_LOSS, XREF_READY and XREF_FAIL (R116, R118-R120, R122). -/
def Obligations.PllsAndXref : Prop :=
  ∀ s : State,
    (∀ w, s.comUp = true →
      Completes (.pllcWrite false w) s fun t =>
        s.sameRegsBut t [A.clkPllc, A.clkStat] ∧ s.sameMemory t
        ∧ (t.reg A.clkPllc ≠ s.reg A.clkPllc → t.flag F.clkStatCpuhf = true ∧ t.flag F.clkStatClock = false)
        ∧ pllAbove (t.fld F.clkPllcN) (t.fld F.clkPllcP) (s.cpuCeiling s.mode s.profile) = false)
    ∧ (∀ w, s.comUp = true → s.samplePathsRun = true →
      Completes (.pllfWrite false w) s fun t =>
        t.flag F.clkStatRefused = true ∧ s.sameRegsBut t [A.clkStat])
    ∧ (∀ w, s.comUp = true → s.samplePathsRun = false →
      Completes (.pllfWrite false w) s fun t =>
        s.sameRegsBut t [A.clkPllf, A.clkStat]
        ∧ (t.reg A.clkPllf ≠ s.reg A.clkPllf → t.flag F.clkStatFlock = false))
    ∧ (s.flag F.pmuStatXrefrdy = true → s.flag F.clkPllcEn = true →
      Completes (.pllLock true) s fun t =>
        t.flag F.clkStatClock = true ∧ t.flag F.clkStatCpuhf = false ∧ s.sameRegsBut t [A.clkStat])
    ∧ (s.flag F.pmuStatXrefrdy = true → s.flag F.clkPllfEn = true →
      Completes (.pllLock false) s fun t => t.flag F.clkStatFlock = true ∧ s.sameRegsBut t [A.clkStat])
    ∧ (s.flag F.clkStatClock = true →
      Completes (.pllLockLoss true) s fun t =>
        t.flag F.clkStatCloss = true ∧ t.flag F.clkStatClock = false ∧ t.flag F.clkStatCpuhf = true
        ∧ s.sameRegsBut t [A.clkStat])
    ∧ (s.flag F.clkStatFlock = true →
      Completes (.pllLockLoss false) s fun t =>
        t.flag F.clkStatFloss = true ∧ t.flag F.clkStatFlock = false ∧ s.sameRegsBut t [A.clkStat])
    ∧ (s.pw.xrefStarting = true →
      Completes .xrefReady s fun t =>
        t.flag F.pmuStatXrefrdy = true ∧ t.pw = { s.pw with xrefStarting := false, xrefWarm := true })
    ∧ (s.flag F.pmuStatXrefrdy = true →
      Completes .xrefFail s fun t =>
        (∀ c, (s.chain c).holder = none) → t.pw = s.pw ∧ (s.tb.run = .ref → t.tb.run = .lf))

/-- The reset sources (R107, R109, R134-R139, R151, R153). -/
def Obligations.ResetSourcesRecordTheirCause : Prop :=
  ∀ s : State, (∀ x, s.pw.lastReset = some x → x.1 ≠ s.tick) → s.pw.boot ≠ .bist → s.pw.boot ≠ .held →
    let made (scope code : Nat) (t : State) : Prop :=
      t.pw.boot = .startup ∧ t.fld F.rstCauseScope = scope ∧ t.fld F.rstCauseCode = code
      ∧ t.pw.lastReset = some (s.tick, scope, code)
    Completes .powerOn s (made 4 1)
    ∧ (s.flag F.pmuStatAonlp = true → Completes .lpBrownout s (made 3 2))
    ∧ Completes .resetNLow s (fun t =>
        t.pw.boot = .held ∧ t.fld F.rstCauseScope = (if s.flag F.rstPincfgScope then 3 else 2) ∧ t.fld F.rstCauseCode = 3)
    ∧ (s.retention = false → Completes .coreBrownout s (made 2 4))
    ∧ (∀ stage, Completes (.wakeTimeout stage) s (made 2 6))
    ∧ (s.watchdogRuns = true → Completes .watchdog s (made 2 7))
    ∧ (∀ w : Word, w.toNat ≠ 0xA5C3 → Completes (.wdtkick false w) s (made 2 7))
    ∧ (∀ w : Word, bitsOf w.toNat 24 8 = 0xA5 → bitsOf w.toNat 0 2 = 2 → Completes (.swrstSystem false w) s (made 2 11))
    ∧ (∀ w : Word, bitsOf w.toNat 24 8 = 0xA5 → bitsOf w.toNat 0 2 = 3 → Completes (.swrstAlwaysOn false w) s (made 3 11))
    ∧ (∀ scope, scope = 2 ∨ scope = 3 → s.pw.hostReset = some scope → Completes .sysResetAssert s (made scope 9))

/-- What resets below POWER-ON keep and clear (R134, R135). -/
def Obligations.ResetsKeepRetainedAndFlash : Prop :=
  ∀ (s : State) (w : Word), s.pw.boot ≠ .bist → bitsOf w.toNat 24 8 = 0xA5 →
    let kept (t : State) : Prop :=
      (∀ a, region a = .retained → t.byte a = s.byte a) ∧ t.flash = s.flash ∧ t.otp = s.otp
      ∧ (∀ a, regDomain a = .com → t.reg a = regReset a) ∧ t.board.all (fun p => aonCfgKey p.1) = true
    (bitsOf w.toNat 0 2 = 2 → Completes (.swrstSystem false w) s kept)
    ∧ (bitsOf w.toNat 0 2 = 3 → Completes (.swrstAlwaysOn false w) s kept)
    ∧ (s.watchdogRuns = true → Completes .watchdog s kept)
    ∧ (s.flag F.pmuStatAonlp = true → Completes .lpBrownout s kept)

/-- WDTKICK, WDTEARLY, SWRST_CORE, CORE_RELEASE, RESET_N_RISE and SYS_RESET (R138, R139, R150, R151, R153, R158). -/
def Obligations.WatchdogCoreAndHostResets : Prop :=
  ∀ s : State,
    (∀ w : Word, w.toNat = 0xA5C3 →
      Completes (.wdtkick false w) s fun t =>
        t.fld F.rstWdtcntCount = s.fld F.rstWdtcfgTimeout ∧ s.sameRegsBut t [A.rstWdtcnt]
        ∧ t.pw = { s.pw with wdtAcc := 0 })
    ∧ (s.watchdogRuns = true → s.flag F.rstWdtcfgEarly = true →
      Completes .wdtearly s fun t =>
        t.flag F.rstIntstatWdtearly = true ∧ t.fld F.rstWdtcntCount = s.fld F.rstWdtcfgTimeout / 8
        ∧ s.sameRegsBut t [A.rstWdtcnt, A.rstIntstat])
    ∧ (∀ w : Word, bitsOf w.toNat 24 8 = 0xA5 → bitsOf w.toNat 0 2 = 1 → 1 ≤ bitsOf w.toNat 4 3 →
        bitsOf w.toNat 4 3 ≤ 4 →
      Completes (.swrstCore false w) s fun t => t.bit A.rstCorelog (bitsOf w.toNat 4 3) = true)
    ∧ (∀ (w : Word) (k : Nat), 1 ≤ k → k ≤ 4 → bitAt w.toNat k = true → s.comUp = true → s.running = true →
        (s.core k).run = .held →
      Completes (.coreRelease false w) s fun t => (t.core k).run = .running)
    ∧ (s.pw.boot = .held →
      Completes .resetNRise s fun t => t = { s with pw := { s.pw with boot := .startup } })
    ∧ (∀ (o : Origin) (p : List Byte), s.takes o 0x14 p → p.length = 4 → (byteAt p 0 = 2 ∨ byteAt p 0 = 3) →
        allZero (p.drop 1) = true → s.mode ≠ 5 →
      Completes (.sysReset o p) s fun t =>
        t.pw = { s.pw with hostReset := some (byteAt p 0) } ∧ t.responded o (rspPayload 0x14 .ok []) ∧ s.sameMemory t)

/-- START_UP, XREF_START_TIMEOUT, JOURNAL_RECOVERY_DONE, HOLDUP_MEASUREMENT_DONE and HANDOVER (R140-R146, R352, R354). -/
def Obligations.StartUpReachesHandover : Prop :=
  ∀ s : State,
    (∀ tamper, s.pw.boot = .startup → s.flag F.pmuModestatPfail = false → s.fld F.sysBootstatStage ≠ 5 →
      Completes (.startUp false tamper) s fun t => t.pw.boot = .halt ∨ t.fld F.sysBootstatStage = 5)
    ∧ (∀ tamper, s.pw.boot = .startup → s.flag F.pmuModestatPfail = false → s.fld F.sysBootstatStage = 5 →
        s.sec.bootAlarm = false →
      Completes (.startUp true tamper) s fun t => t.pw.boot = .background)
    ∧ (s.pw.boot = .startup → s.fld F.sysBootstatStage = 5 → s.flag F.pmuStatXrefrdy = false →
        s.sec.bootAlarm = false → s.pw.xrefRetried = false →
      Completes .xrefStartTimeout s fun t =>
        t.fld F.pmuXrefcfgMode = 1 - s.fld F.pmuXrefcfgMode ∧ t.flag F.sysBootflagsXrefalt = true
        ∧ t.pw = { s.pw with xrefRetried := true, xrefStarting := true }
        ∧ s.sameRegsBut t [A.pmuXrefcfg, A.sysBootflags])
    ∧ (s.pw.boot = .background → s.pw.recovered = false →
      Completes .journalRecoveryDone s fun t => t.pw.recovered = true)
    ∧ (∀ fall stayed, s.pw.boot = .background → s.pw.holdupDone = false → s.flag F.pmuModestatPfail = false →
      Completes (.holdupMeasurementDone fall stayed) s fun t => t.pw.holdupDone = true)
    ∧ (∀ t9 t10, s.pw.boot = .background → s.pw.recovered = true → s.pw.holdupDone = true → s.sec.bootAlarm = false →
        s.flag F.sysBootflagsFwnone = false →
      Completes (.handover t9 t10) s fun t =>
        (t.dormant = false → (t.core 0).run = .running) ∧ t.pw.watchdogPaused = false
        ∧ t.fld F.rstWdtcntCount = t.fld F.rstWdtcfgTimeout)

/-- BOARD_WRITE, BOARD_ERASE, BOARD_VERIFY, BOARD_SWAP, BOARD_ABORT, BOARD_RELOAD, BOARD_BOOTLIST and BOARD_STATUS
(R100). -/
def Obligations.BoardHostCommands : Prop :=
  ∀ (s : State) (o : Origin) (p : List Byte),
    let s1 := s.taking o
    (s.takes o 0x40 p → 264 ≤ p.length → p.length ≤ 3848 → (p.length - 8) % 256 = 0 → slotArg p = true →
        leAt p 4 4 % 256 = 0 → leAt p 4 4 + (p.length - 8) ≤ 0x100000 →
        let off := boardSlotOff (byteAt p 0) + leAt p 4 4
        s1.mode ≠ 5 → s1.rangeLocked off (p.length - 8) = false → s1.erasedRange off (p.length - 8) = true →
        s1.flcHeld = false →
      Completes (.boardWrite o p) s fun t =>
        t.flash = (s.setFlash off (p.drop 8)).flash ∧ t.responded o (rspPayload 0x40 .ok []))
    ∧ (s.takes o 0x41 p → p.length = 4 → slotArg p = true → s1.mode ≠ 5 →
        s1.rangeLocked (boardSlotOff (byteAt p 0)) 0x100000 = false → s1.flcHeld = false →
      Completes (.boardErase o p) s fun t =>
        t.flc.erase = some { first := boardSlotOff (byteAt p 0) / 4096, count := 256, host := some (o, 0x41) })
    ∧ (s.takes o 0x42 p → p.length = 4 → slotArg p = true →
        let r := s1.brdCheck (byteAt p 0) (headPartial (s1.brdHead (byteAt p 0)))
      Completes (.boardVerify o p) s fun t =>
        (∃ rest, t.responded o (rspPayload 0x42 (if r.isSome then .badImage else .ok) rest)
          ∧ (∀ d sec site, r = some (d, sec, site) → rest.take 2 = [Byte.ofN d, Byte.ofN sec]))
        ∧ s.sameMemory t)
    ∧ (s.takes o 0x43 p → p.length = 8 → byteAt p 0 ≤ 3 → byteAt p 1 ≤ 1 → allZero ((p.drop 2).take 2) = true →
        s1.mode ≠ 0 → s1.mode ≠ 5 → s1.pw.trans = none → s1.brd.reload = none → s1.brd.swap = none →
        (byteAt p 1 = 1 → bitsOf s1.bootList 16 8 = 0xFF) →
      Completes (.boardSwap o p) s fun t =>
        t.brd.swap = some { slot := byteAt p 0, persist := byteAt p 1 == 1, round := leAt p 4 4 }
        ∧ t.fld F.brdSwapstatState = 1 ∧ t.responded o (rspPayload 0x43 .pending []) ∧ s.sameMemory t)
    ∧ (s.takes o 0x44 [] → s1.swapStoppable = true →
      Completes (.boardAbort o []) s fun t => t.responded o (rspPayload 0x44 .ok []))
    ∧ (s.takes o 0x45 [] → s1.mode = 4 → s1.brd.reload = none → s1.brd.swap = none →
      Completes (.boardReload o []) s fun t => t.brd.reload = some o)
    ∧ (s.takes o 0x46 p → p.length = 4 → bootListOk (leNat p) = true → s1.mode ≠ 5 →
        let r := (s1.loadResult none).writeBootList (leNat p)
      Completes (.boardBootlist o p) s fun t =>
        (s1.listVerifies (leNat p) = none → t.flash = r.2.flash ∧ t.responded o (rspPayload 0x46 r.1 []))
        ∧ (s1.listVerifies (leNat p) ≠ none → t.flash = s.flash ∧ t.responded o (rspPayload 0x46 .badImage [])))
    ∧ (s.takes o 0x47 [] →
      Completes (.boardStatus o []) s fun t =>
        t.responded o (rspPayload 0x47 .ok ((leBytes 4 (s.regN A.brdLayout)) ++ leBytes 4 (s.regN A.brdGen)
          ++ leBytes 4 (s.regN A.brdSource) ++ leBytes 4 (s.regN A.brdLoadstat) ++ leBytes 4 (s.regN A.brdSwapstat)
          ++ leBytes 4 (s.regN A.brdWindow)))
        ∧ t.brd = s.brd ∧ s.sameMemory t)

/-- SWAPCTL_START, SWAPCTL_ABORT, SWAP_STAGED, SWAP_DRAIN, SWAP_BOUNDARY, SWAP_WINDOW_CLOSE, SWAP_PERSIST_DONE and
FULL_RELOAD_DONE (R76-R81, R90, R91, R95). -/
def Obligations.SwapPhases : Prop :=
  ∀ s : State,
    (∀ w : Word, s.comUp = true → bitAt w.toNat 31 = false → bitAt w.toNat 30 = true →
        let s1 := s.writeReg A.brdSwapctl w
        s1.mode ≠ 0 → s1.mode ≠ 5 → s.pw.trans = none → s.brd.reload = none → s.brd.swap = none →
        (bitAt w.toNat 8 = true → bitsOf s1.bootList 16 8 = 0xFF) →
      Completes (.swapctlStart false w) s fun t =>
        t.brd.swap = some { slot := bitsOf w.toNat 0 2, persist := bitAt w.toNat 8, round := s1.regN A.brdSwapround }
        ∧ t.fld F.brdSwapstatState = 1 ∧ s.sameRegsBut t [A.brdSwapctl, A.brdSwapstat] ∧ s.sameMemory t)
    ∧ (∀ w : Word, s.comUp = true → bitAt w.toNat 31 = true → (s.writeReg A.brdSwapctl w).swapStoppable = true →
        s.pw.waiting = none →
      Completes (.swapctlAbort false w) s fun t => t.brd.swap = none ∧ t.brd.locked = [])
    ∧ (∀ w, s.brd.swap = some w → s.fld F.brdSwapstatState = 1 →
      Completes .swapStaged s fun t =>
        (s.brdCheck w.slot true = none →
          t.fld F.brdSwapstatState = 2 ∧ t.flag F.brdIntstatArmed = true
          ∧ ∃ w', t.brd.swap = some w' ∧ w'.slot = w.slot ∧ w'.persist = w.persist)
        ∧ (s.brdCheck w.slot true ≠ none → s.pw.waiting = none → t.brd.swap = none))
    ∧ (∀ w, s.brd.swap = some w → s.fld F.brdSwapstatState = 2 → w.target * 1000000000 ≤ s.ntmNs + s.drainLead →
      Completes .swapDrain s fun t => t.brd = s.brd ∧ t.regs = (s.setFld F.brdSwapstatState 3).regs)
    ∧ (∀ w, s.brd.swap = some w → s.fld F.brdSwapstatState = 3 → w.target * 1000000000 ≤ s.ntmNs →
      (s.swapAffected w = true → s.fld F.brdSwapstatDefers < s.fld F.brdSwapcfgMaxdefer →
        Completes .swapBoundary s fun t =>
          t.brd.swap = some { w with target := w.target + 1 } ∧ t.flag F.brdIntstatDefer = true
          ∧ t.fld F.brdSwapstatState = 3 ∧ s.sameMemory t))
    ∧ (∀ w, s.brd.swap = some w → s.fld F.brdSwapstatState = 4 → w.persist = true → s.pw.waiting = none →
      Completes (.swapWindowClose true) s fun t => t.brd.persisting = some w.slot)
    ∧ (∀ k, s.brd.persisting = some k → s.mode ≠ 5 →
        let n := s.bootList
        let r := s.writeBootList (if bitsOf n 8 8 = 0xFF then setBitsOf n 8 8 k else setBitsOf n 16 8 k)
        r.1 = .ok →
      Completes .swapPersistDone s fun t => t.brd.persisting = none ∧ t.flash = r.2.flash)
    ∧ (∀ o, s.brd.reload = some o →
      Completes .fullReloadDone s fun t =>
        ∃ st, (st = Status.ok ∨ st = Status.badImage) ∧ t.responded o (rspPayload 0x45 st []) ∧ t.brd.reload = none)

/-- The ROM routines for flash (R395-R397, R403, R405, R408, R414, R417). -/
def Obligations.FlashRoutines : Prop :=
  ∀ (s : State) (core : Nat), s.callReady core →
    (∀ off src n, s.arg core 1 = off → s.arg core 2 = src → s.arg core 3 = n → s.argsZero core 4 = true →
        off % 256 = 0 → n % 256 = 0 → 256 ≤ n → n ≤ 4096 → sourceOk src n = true → rangePermitted off n = true →
        s.rangeLocked off n = false → s.erasedRange off n = true → s.flcHeld = false →
      Completes (.flProgram core) s fun t =>
        t.callAnswered core .ok ∧ t.flash = (s.setFlash off (s.bytes src n)).flash ∧ t.ram = s.ram
        ∧ s.sameRegsBut t [A.flcCtr 3])
    ∧ (∀ off n, s.arg core 1 = off → s.arg core 2 = n → s.argsZero core 3 = true → off % 4096 = 0 → 1 ≤ n → n ≤ 256 →
        rangePermitted off (4096 * n) = true → s.rangeLocked off (4096 * n) = false → s.flcHeld = false →
      Completes (.flErase core) s fun t =>
        t.callAnswered core .pending ∧ t.flc.erase = some { first := off / 4096, count := n } ∧ t.ram = s.ram
        ∧ s.sameRegsBut t [])
    ∧ (s.argsZero core 1 = true →
      Completes (.flPoll core) s fun t =>
        t.g core 0 = Word.ofN (if s.flc.erase.isSome then Status.pending.code else s.flc.poll)
        ∧ t.flc = s.flc ∧ s.sameMemory t ∧ s.sameRegsBut t [])
    ∧ (s.argsZero core 1 = true → s.flcHeld = false → s.flc.redirect = none →
        Completes (.flScrub core) s (fun t => t.callAnswered core .ok ∧ t.ram = s.ram
          ∧ t.g core 1 = Word.ofN t.flc.marked.length)
        ∧ (s.flc.marked.find? (fun k => !s.refreshDeferred k) = none →
            Completes (.flScrub core) s (fun t => t.flc = s.flc ∧ s.sameMemory t ∧ s.sameRegsBut t []))
        ∧ (∀ k, s.flc.marked.find? (fun k => !s.refreshDeferred k) = some k →
            Completes (.flScrub core) s (fun t =>
              t.flash = (s.refresh k).flash ∧ t.flc.marked = s.flc.marked.filter (· != k))))
    ∧ (∀ item n, s.arg core 1 = item → s.arg core 3 = n → s.argsZero core 4 = true →
        sourceOk (s.arg core 2) n = true → s.flcHeld = false →
        let img := s.bytes (s.arg core 2) n
        (item = 0 → 32 ≤ n → n ≤ 4064 → dfiForm img = true →
          Completes (.flNvwrite core 3) s fun t =>
            t.callAnswered core .ok ∧ t.ram = s.ram
            ∧ t.flash = (s.writeCopies 0 (dfiSeal img (nextGen s.dfiCopies)) 3).2.flash)
        ∧ (item = 1 → n = 544 → rlrForm (rlrSeal img 0) = true → rlrForm (rlrSeal img (nextGen s.rlrCopies)) = true →
            s.rlrAccepts img = true →
          Completes (.flNvwrite core 3) s fun t =>
            t.callAnswered core .ok ∧ t.ram = s.ram
            ∧ t.rf.rlr = some (RlrRecord.parse (rlrSeal img (nextGen s.rlrCopies)))
            ∧ t.flash = (s.writeCopies 1 (rlrSeal img (nextGen s.rlrCopies)) 3).2.flash))
    ∧ (∀ item, s.arg core 1 = item → item ≤ 1 → s.argsZero core 2 = true → s.flcHeld = false →
        (if item = 0 then (dfiResolve s.dfiCopies).2 else rlrResolve s.rlrCopies).isSome = true →
      Completes (.flNvrepair core) s fun t =>
        t.callAnswered core .ok ∧ t.flash = (s.nvRepair item).2.flash ∧ t.ram = s.ram)
    ∧ (∀ level, s.arg core 1 = level → s.argsZero core 2 = true →
        (s.rdpLevel ≤ 1 → level = s.rdpLevel → s.flcHeld = false →
          Completes (.flRdp core) s fun t => t.callAnswered core .ok ∧ s.sameMemory t ∧ t.otp = s.otp)
        ∧ (s.rdpLevel = 0 → level = 1 → s.flcHeld = false →
          Completes (.flRdp core) s fun t =>
            t.callAnswered core .ok ∧ t.flash = (s.setFlash 0 (leBytes 4 0x5A3CC3A5)).flash ∧ t.otp = s.otp)
        ∧ (s.rdpLevel < 2 → level = 2 → s.flcHeld = false →
          Completes (.flRdp core) s fun t =>
            t.callAnswered core .ok ∧ t.otp = (s.orOtp 0x84 1).otp ∧ t.flash = s.flash)
        ∧ (s.rdpLevel = 1 → level = 0 → s.mode = 4 → s.flcHeld = false → s.jrn.msgs = [] → s.jrn.acts = [] →
          Completes (.flRdp core) s fun t =>
            t.callAnswered core .pending ∧ t.flc.erase = some { first := 0, count := 8192, lower := true }))
    ∧ (∀ word src, s.arg core 1 = word → s.arg core 2 = src → sourceOk src 8 = true → s.argsZero core 3 = true →
        0x80 ≤ word → word ≤ 0x83 → s.floorBad word (s.mem src 8) = false → s.flcHeld = false →
      Completes (.flOtpwrite core) s fun t =>
        t.callAnswered core .ok ∧ t.otp = (s.orOtp word (s.mem src 8)).otp ∧ s.sameMemory t ∧ s.sameRegsBut t [])
    ∧ (s.argsZero core 1 = true → s.flcHeld = false →
      Completes (.flInfo core) s fun t =>
        t.callAnswered core .ok ∧ t.g core 1 = Word.ofN s.flcStat ∧ t.g core 2 = Word.ofN s.nvStat
        ∧ t.g core 3 = Word.ofN s.rdpLevel ∧ s.sameMemory t ∧ s.sameRegsBut t [])
    ∧ Completes (.flReservedEntry core) s (fun t =>
        t.callAnswered core .unknownCommand ∧ s.sameMemory t ∧ s.sameRegsBut t [])

/-- Background flash work and the operation registers (R394, R396, R399, R403-R405, R419). -/
def Obligations.FlashOperations : Prop :=
  ∀ s : State,
    (∀ e, s.flc.erase = some e → e.lower = false → e.suspended = false →
      Completes .flashEraseDone s fun t =>
        t.flash = (s.eraseFlash (4096 * e.first) (4096 * (e.first + e.count))).flash ∧ t.flc.erase = none
        ∧ t.flc.poll = Status.ok.code ∧ t.ram = s.ram
        ∧ (e.host = none → t.flag F.flcIntstatOpdone = true)
        ∧ (∀ o code, e.host = some (o, code) → t.responded o (rspPayload code .ok [])))
    ∧ (∀ e, s.flc.erase = some e → e.lower = true → e.suspended = false → s.pw.boot ≠ .bist → s.pw.boot ≠ .held →
        (∀ x, s.pw.lastReset = some x → x.1 ≠ s.tick) →
      Completes .rdpLowerDone s fun t =>
        t.flash = s.flash.filter (fun p => rdpKeeps (p.1 / 4096)) ∧ t.pw.boot = .startup
        ∧ t.fld F.rstCauseScope = 3 ∧ t.fld F.rstCauseCode = 11 ∧ t.otp = s.otp)
    ∧ (∀ e, s.flc.erase = some e → e.suspended = true →
      Completes .eraseResume s fun t =>
        t.flc.erase = some { e with suspended := false, resumed := some s.tb.now } ∧ s.sameMemory t ∧ s.sameRegsBut t [])
    ∧ (∀ corr retried, s.comUp = true → s.domainOn .fl = true → s.flag F.flcScrubcfgEn = true →
      Completes (.scrubRead corr retried []) s fun t =>
        t.flc.next = (s.flc.next + 1) % 8192 ∧ s.sameMemory t
        ∧ t.regN (A.flcCtr 0) = (s.regN (A.flcCtr 0) + corr.length) % 2 ^ 32
        ∧ t.regN (A.flcCtr 1) = (s.regN (A.flcCtr 1) + retried) % 2 ^ 32
        ∧ (s.flc.next ≠ 8191 → t.regN (A.flcCtr 6) = s.regN (A.flcCtr 6)))
    ∧ (∀ w : Word, s.comUp = true →
      Completes (.otpaddrWrite false w) s fun t =>
        t = s.writeReg A.flcOtpaddr w ∧ t.fld F.flcOtpaddrWord = bitsOf w.toNat F.flcOtpaddrWord.lsb F.flcOtpaddrWord.width)
    ∧ (∀ w : Word, s.comUp = true → bitAt w.toNat 31 = true →
        let op := bitsOf w.toNat 0 4
        let addr := s.regN A.flcOpaddr
        let src := s.regN A.flcOpsrc
        let starts (c : Instr) : Prop :=
          s.flc.op = none → opArgsOk op addr src = true → (op = 1 → s.erasedRange addr 256 = true) →
            Completes c s fun t =>
              t.flc.op = some { op := op, addr := addr, src := src } ∧ t.flag F.flcOpstatBusy = true ∧ t.ram = s.ram
        (op = 1 → starts (.flcOpProgramUnit false true w))
        ∧ (op = 2 → starts (.flcOpEraseSector false true w))
        ∧ (op = 3 → starts (.flcOpErasePlane false true w))
        ∧ (op = 6 → starts (.flcOpProgramOtp false true w))
        ∧ (op = 4 → ∀ o, s.flc.op = some o → o.op = 2 ∨ o.op = 3 → o.suspended = false →
          Completes (.flcOpSuspend false true w) s fun t => t.flc.op = some { o with suspended := true } ∧ s.sameMemory t)
        ∧ (op = 5 → ∀ o, s.flc.op = some o →
          Completes (.flcOpResume false true w) s fun t => t.flc.op = some { o with suspended := false } ∧ s.sameMemory t))
    ∧ (∀ o, s.flc.op = some o → o.suspended = false →
      Completes .flcOpDone s fun t =>
        t.flc.op = none ∧ t.flag F.flcOpstatBusy = false ∧ t.fld F.flcOpstatResult = Status.ok.code ∧ t.ram = s.ram
        ∧ (o.op = 1 → inSram o.src 256 = true → t.flash = (s.setFlash o.addr (s.bytes o.src 256)).flash)
        ∧ (o.op = 2 → t.flash = (s.eraseFlash (4096 * (o.addr / 4096)) (4096 * (o.addr / 4096 + 1))).flash)
        ∧ (o.op = 6 → t.otp = (s.orOtp o.addr (s.mem o.src 8)).otp ∧ t.flash = s.flash))

/-- DFI_WRITE to USER_ERASE (R423). -/
def Obligations.NvHostCommands : Prop :=
  ∀ (s : State) (o : Origin) (p : List Byte),
    let s1 := s.taking o
    s1.mode ≠ 5 →
    (s.takes o 0x50 p → 12 ≤ p.length → p.length ≤ 1020 → (p.length - 4) % 8 = 0 → byteAt p 2 ≤ 1 → byteAt p 3 = 0 →
        leAt p 0 2 = 0 ∨ leAt p 0 2 = s.flc.stage.length → leAt p 0 2 + (p.length - 4) ≤ 4096 →
        let img := if leAt p 0 2 = 0 then p.drop 4 else s.flc.stage ++ p.drop 4
        (byteAt p 2 = 0 →
          Completes (.dfiWrite o p) s fun t =>
            t.flc.stage = img ∧ t.responded o (rspPayload 0x50 .ok []) ∧ s.sameMemory t)
        ∧ (byteAt p 2 = 1 → dfiForm img = true → s.flcHeld = false →
          Completes (.dfiWrite o p) s fun t =>
            t.responded o (rspPayload 0x50 .ok [])
            ∧ t.flash = (s.writeCopies 0 (dfiSeal img (nextGen s.dfiCopies)) 3).2.flash))
    ∧ (s.takes o 0x51 p → p.length = 4 → byteAt p 0 ≤ 3 → byteAt p 1 = 0 → leAt p 2 2 ≤ 4064 →
        let got := if byteAt p 0 = 0 then (dfiResolve s.dfiCopies).2 else s.dfiCopy (byteAt p 0 - 1)
        (∀ img, got = some img →
          Completes (.dfiRead o p) s fun t =>
            t.responded o (rspPayload 0x51 .ok (dfiAnswer img (leAt p 2 2))) ∧ s.sameMemory t))
    ∧ (s.takes o 0x52 p → p.length = 544 → rlrForm (rlrSeal p 0) = true →
        rlrForm (rlrSeal p (nextGen s.rlrCopies)) = true → s.rlrAccepts p = true → s.flcHeld = false →
      Completes (.rlrWrite o p) s fun t =>
        t.responded o (rspPayload 0x52 .ok []) ∧ t.rf.rlr = some (RlrRecord.parse (rlrSeal p (nextGen s.rlrCopies))))
    ∧ (s.takes o 0x53 p → p.length = 4 → allZero (p.drop 1) = true →
        (byteAt p 0 = 0 →
          Completes (.rlrRead o p) s fun t =>
            t.responded o (rspPayload 0x53 (rlrStatus s.rlrCopies) ((rlrResolve s.rlrCopies).getD [])) ∧ s.sameMemory t)
        ∧ (∀ c img, byteAt p 0 = c + 1 → c < 3 → s.rlrCopy c = some img →
          Completes (.rlrRead o p) s fun t => t.responded o (rspPayload 0x53 .ok img) ∧ s.sameMemory t))
    ∧ (s.takes o 0x54 [] →
      Completes (.nvStatus o []) s fun t =>
        (∃ rest, t.responded o (rspPayload 0x54 .ok rest) ∧ rest.length = 32
          ∧ rest.take 16 = leBytes 4 s.flcStat ++ leBytes 4 s.nvStat ++ leBytes 4 s.rdpLevel ++ leBytes 4 s.scrubStat)
        ∧ s.sameMemory t)
    ∧ (s.takes o 0x55 p → 260 ≤ p.length → p.length ≤ 3844 → (p.length - 4) % 256 = 0 → leAt p 0 4 % 256 = 0 →
        leAt p 0 4 + (p.length - 4) ≤ 0x100000 →
        let off := 0x01F00000 + leAt p 0 4
        s1.rangeLocked off (p.length - 4) = false → s.erasedRange off (p.length - 4) = true → s.flcHeld = false →
      Completes (.userWrite o p) s fun t =>
        t.responded o (rspPayload 0x55 .ok []) ∧ t.flash = (s.setFlash off (p.drop 4)).flash ∧ t.ram = s.ram)
    ∧ (s.takes o 0x56 p → p.length = 8 → leAt p 6 2 = 0 → 1 ≤ leAt p 4 2 → leAt p 4 2 ≤ 1008 →
        leAt p 0 4 + leAt p 4 2 ≤ 0x100000 →
      Completes (.userRead o p) s fun t =>
        t.responded o (rspPayload 0x56 .ok (s.flashBytes (0x01F00000 + leAt p 0 4) (leAt p 4 2))) ∧ s.sameMemory t)
    ∧ (s.takes o 0x57 p → p.length = 8 → leAt p 6 2 = 0 → leAt p 0 4 % 4096 = 0 → 1 ≤ leAt p 4 2 → leAt p 4 2 ≤ 256 →
        leAt p 0 4 + 4096 * leAt p 4 2 ≤ 0x100000 →
        s1.rangeLocked (0x01F00000 + leAt p 0 4) (4096 * leAt p 4 2) = false → s.flcHeld = false →
      Completes (.userErase o p) s fun t =>
        t.flc.erase = some { first := (0x01F00000 + leAt p 0 4) / 4096, count := leAt p 4 2, host := some (o, 0x57) }
        ∧ t.ram = s.ram)

/-- Firmware update (R424-R435). -/
def Obligations.FirmwareUpdate : Prop :=
  ∀ (s : State) (o : Origin) (p : List Byte),
    let s1 := s.taking o
    (s1.mode ≠ 5 →
      (s.takes o 0x30 p → fwWriteLen o.ep p.length = true → byteAt p 0 ≤ 1 → allZero ((p.drop 1).take 3) = true →
          leAt p 4 4 % 256 = 0 → leAt p 4 4 + (p.length - 8) ≤ 0x800000 → s.fwLocked (byteAt p 0) = false →
          let off := fwSlotOff (byteAt p 0) + leAt p 4 4
          s1.rangeLocked off (p.length - 8) = false → s.erasedRange off (p.length - 8) = true → s.flcHeld = false →
        Completes (.fwWrite o p) s fun t =>
          t.responded o (rspPayload 0x30 .ok []) ∧ t.ram = s.ram
          ∧ (s.flashBytes off (p.length - 8) ≠ p.drop 8 → t.flash = (s.setFlash off (p.drop 8)).flash)
          ∧ (s.flashBytes off (p.length - 8) = p.drop 8 → t.flash = s.flash))
      ∧ (s.takes o 0x31 p → p.length = 8 → byteAt p 0 ≤ 1 → allZero ((p.drop 1).take 3) = true → leAt p 4 4 ≤ 8388608 →
          s.fwLocked (byteAt p 0) = false → s.flcHeld = false →
        Completes (.fwErase o p) s fun t =>
          t.flc.erase = some { first := fwSlotOff (byteAt p 0) / 4096,
                               count := if leAt p 4 4 = 0 then 2048 else (leAt p 4 4 + 4095) / 4096,
                               host := some (o, 0x31) } ∧ t.ram = s.ram)
      ∧ (s.takes o 0x32 p → p.length = 4 → byteAt p 0 ≤ 1 → allZero (p.drop 1) = true →
        Completes (.fwVerify o p) s fun t =>
          let d := s1.fwCheck (byteAt p 0) false
          (∃ rest, t.responded o (rspPayload 0x32 (fwStatus d) (Byte.ofN d :: rest)) ∧ rest.length = 11) ∧ s.sameMemory t)
      ∧ (s.takes o 0x33 p → p.length = 16 → byteAt p 0 ≤ 1 → allZero ((p.drop 1).take 3) = true →
          s.fwRunning (byteAt p 0) = false → s1.flag F.jrnCfgEn = true →
          (leAt p 4 8 ≠ 0 → s1.flag F.ntmStatValid = true ∧ s1.ntmReached (leAt p 4 8 - 1) = false) →
          s.jrn.acts = [] → s.actCommitting = false → s.fw.trial = false →
        Completes (.fwActivate o p) s fun t =>
          t.jrn = (s.beginCommit 8 0 0 0 (leBytes 8 (leAt p 4 8) ++ [Byte.ofN (byteAt p 0), 0, 0, 0] ++ leBytes 4 (leAt p 12 4))
            (.activate (some o))).jrn ∧ s.sameMemory t)
      ∧ (∀ j b, s.takes o 0x34 [] → s.scheduledAct = some (j, b) → s1.cancelOpen b = true → s.fw.cancelHost = none →
        Completes (.fwCancel o []) s fun t =>
          t.fw = { s.fw with cancelHost := some o } ∧ t.jrn = (s.beginCommit 9 0 0 j [] (.actClear j)).jrn ∧ s.sameMemory t)
      ∧ (s.takes o 0x35 [] →
        Completes (.fwStatus o []) s fun t =>
          (∃ rest, t.responded o (rspPayload 0x35 .ok rest) ∧ rest.length = 32
            ∧ rest.take 1 = [Byte.ofN (s.fwRole 0)] ∧ (rest.drop 8).take 1 = [Byte.ofN (s.fwRole 1)]
            ∧ (rest.drop 16).take 1 = [Byte.ofN s.rollbackFloor])
          ∧ t.fw = s.fw ∧ s.sameMemory t)
      ∧ (∀ b k, s.takes o 0x36 [] → s.fw.trial = true → s.bcr = some b → s.fw.slot = some k →
        Completes (.fwConfirm o []) s fun t =>
          t.fw.trial = false ∧ t.flash = (s.writeBcr { b with active := k, actver := s.fw.ver, trial := 0xFF }).flash
          ∧ t.responded o (rspPayload 0x36 .ok (leBytes 4 s.fw.ver ++ [Byte.ofN t.rollbackFloor, 0, 0, 0]))))
    ∧ (∀ j b, s.scheduledAct = some (j, b) → s.actHeld = false →
        (s.fw.asked ≠ some j → s.actNear b = true → s.fw.cancelHost = none → ¬(actRound b = 0 ∧ s.mode = 4) →
          let r : ModeReq := { mode := 4, profile := 0, bands := 0, source := 3, at_ := s.tick }
          s.checkMode r = none → s.pw.trans = none → s.swapHoldsMode = false →
          Completes .activationKeeper s fun t => ∃ ph, t.pw.trans = some { req := r, phase := ph })
        ∧ (s.fw.asked ≠ some j → actRound b = 0 → s.mode = 4 → s.fw.cancelHost = none →
          Completes .activationKeeper s fun t => t = { s with fw := { s.fw with asked := some j, target := 0, late := false } })
        ∧ (s.fw.asked = some j → s.fw.firing = none → s.actDue b = true →
          Completes .activationQuiesce s fun t => t = { s with fw := { s.fw with firing := some j } }))
    ∧ (∀ j, s.fw.firing = some j → s.onAir = false → s.swapWindow = false → s.actHeld = false →
        (∀ x, s.pw.lastReset = some x → x.1 ≠ s.tick) →
      Completes .activationReset s fun t =>
        t.pw.boot = .startup ∧ t.fld F.rstCauseScope = 2 ∧ t.fld F.rstCauseCode = 10)
    ∧ (∀ b k, s.pw.boot = .run → s.fw.trial = true → s.fw.confSec ≠ 0 → s.fw.confSec * 32768 ≤ s.fw.trialLf → s.comUp = true → s.domainOn .fl = true →
        s.bcr = some b → s.fw.slot = some k →
      Completes .autoConfirm s fun t =>
        t.fw.trial = false ∧ t.flash = (s.writeBcr { b with active := k, actver := s.fw.ver, trial := 0xFF }).flash)

/-- BIST and the FCR (R571-R578). -/
def Obligations.BistAndFaultRecords : Prop :=
  ∀ (s : State) (o : Origin) (p : List Byte),
    let s1 := s.taking o
    (s.takes o 0x60 p → p.length = 4 → allZero (p.drop 1) = true → s1.bistCode (byteAt p 0) false = .ok →
      Completes (.bistRun o p) s fun t =>
        t.pw.boot = .bist ∧ t.pip = [] ∧ (∃ b, t.fcr.bist = some b ∧ b.tests = byteAt p 0)
        ∧ t.responded o (rspPayload 0x60 .ok []))
    ∧ (∀ w : Word, s.comUp = true → s.running = true → bitAt w.toNat 31 = true → bitsOf w.toNat 8 23 = 0 →
        s.bistCode (bitsOf w.toNat 0 8) false = .ok →
      Completes (.bistGo false w) s fun t =>
        t.pw.boot = .bist ∧ t.pip = [] ∧ ∃ b, t.fcr.bist = some b ∧ b.tests = bitsOf w.toNat 0 8)
    ∧ (∀ b sigs, s.fcr.bist = some b → s.pw.boot = .bist → (∀ q ∈ sigs, q.1 < 8 ∧ bitAt b.tests q.1 = true) →
        (∀ k, k < 8 → bitAt b.tests k = true → (sigOf sigs k).isSome = true) →
        (∀ x, s.pw.lastReset = some x → x.1 ≠ s.tick) →
      Completes (.bistDone sigs []) s fun t =>
        t.pw.boot = .startup ∧ t.fld F.rstCauseScope = 2 ∧ t.fld F.rstCauseCode = 12
        ∧ t.flash = (s.putBist (s.bistRecord b
            (((match s.bistNewest with | some (_, r) => bistSeq r | none => 0) + 1) % 2 ^ 32) sigs [])).flash)
    ∧ (∀ u r, s.takes o 0x61 p → p.length = 4 → allZero (p.drop 1) = true → byteAt p 0 < 16 →
        s.bistRecords[byteAt p 0]? = some (u, r) →
      Completes (.bistResult o p) s fun t => t.responded o (rspPayload 0x61 .ok r) ∧ s.sameMemory t)
    ∧ (s.takes o 0x62 p → p.length = 4 → allZero (p.drop 1) = true → byteAt p 0 < 16 → s.fcrUsed (byteAt p 0) = true →
      Completes (.fcrRead o p) s fun t =>
        t.responded o (rspPayload 0x62 .ok
          ([Byte.ofN s.fcrCount, 0, 0, 0] ++ leBytes 4 s.fcr.lost ++ s.fcrUnit (byteAt p 0))) ∧ s.sameMemory t)
    ∧ (∀ f rest u, s.fcr.pending = f :: rest → s.domainOn .fl = true → s.fcrKnown f.kind f.site = false →
        (List.range 16).find? (fun u => !s.fcrUsed u) = some u →
      Completes .faultCommit s fun t =>
        let b := s.faultBytes f ++ s.fcrSeal (s.faultBytes f)
        t.flash = ((s.setFlash (fcrOff u) b).setFlash (fcrOff u + fcrMirror) b).flash ∧ t.fcr.pending = rest
        ∧ t.flag F.fcrIntstatNew = true ∧ t.ram = s.ram ∧ s.sameRegsBut t [A.flcCtr 3, A.fcrIntstat])

/-- Keys (R439-R445, R461, R467, R468). -/
def Obligations.KeySlotsAndRoots : Prop :=
  ∀ s : State,
    (s.comUp = true →
      (∀ (rom : Bool) (w : Word), bitAt w.toNat 31 = true → s.loadCode rom w.toNat = .ok →
        let k := bitsOf w.toNat 16 5
        Completes (.keyLoad false rom w) s fun t =>
          t.slotValid k = true ∧ t.slotKey k = s.loadBytes.take (bitsOf w.toNat 0 6) ∧ t.sec.loadData = []
          ∧ t.fld F.keyLoadstatResult = Status.ok.code
          ∧ (∀ n, n < 32 → n ≠ k → t.slotValid n = s.slotValid n ∧ t.slotKey n = s.slotKey n) ∧ s.sameMemory t)
      ∧ (∀ w : Word,
        Completes (.keyClear false w) s fun t =>
          (∀ n, n < 32 → bitAt w.toNat n = true → t.slotValid n = false ∧ t.slotKey n = [])
          ∧ (∀ n, n < 32 → bitAt w.toNat n = false → t.slotValid n = s.slotValid n ∧ t.slotKey n = s.slotKey n)
          ∧ s.sameMemory t)
      ∧ (∀ w : Word,
        Completes (.tunkeyWrite false w) s fun t =>
          t.regN A.keyTunrxfc = 0 ∧ t.reg A.keyTunkey = (s.writeReg A.keyTunkey w).reg A.keyTunkey
          ∧ s.sameRegsBut t [A.keyTunkey, A.keyTunrxfc] ∧ s.sameMemory t)
      ∧ (s.flag F.tmpStatStorepend = true → s.domainOn .fl = true →
        Completes .keyStoreErase s fun t =>
          t.flash = (s.eraseFlash 0x3000 0x4000).flash ∧ t.flag F.tmpStatStorepend = false ∧ t.ram = s.ram
          ∧ (s.pw.boot = .run → t.sealed = false)))
    ∧ (∀ (o : Origin) (p : List Byte),
        let s1 := s.taking o
        let b := p.drop 4
        s1.mayProvision = true → leAt p 2 2 = 0 →
        (∀ kind, kind = 1 ∨ kind = 2 → s.takes o 0x91 p → p.length = 68 → byteAt p 0 = kind → byteAt p 1 ≤ 3 →
            s.rootSet (signWord kind (byteAt p 1)) 8 = false →
          Completes (.keyProvision o p) s fun t =>
            t.otp = (s.writeRoot (signWord kind (byteAt p 1)) b).otp ∧ t.responded o (rspPayload 0x91 .ok [])
            ∧ s.sameMemory t)
        ∧ (s.takes o 0x91 p → p.length = 36 → byteAt p 0 = 3 → s.rootSet 0x140 4 = false →
          Completes (.keyProvision o p) s fun t =>
            t.otp = (s.writeRoot 0x140 b).otp ∧ t.responded o (rspPayload 0x91 .ok []))
        ∧ (s.takes o 0x91 p → p.length = 12 → byteAt p 0 = 4 → leAt b 0 8 < 2 ^ 33 → s.maintSet = true →
          Completes (.keyProvision o p) s fun t =>
            t.otp = (s.orOtp 0x144 (leAt b 0 8)).otp ∧ t.responded o (rspPayload 0x91 .ok []))
        ∧ (s.takes o 0x92 p → p.length = 4 → byteAt p 0 = 1 ∨ byteAt p 0 = 2 → byteAt p 1 ≤ 3 →
            ((byteAt p 0 = 2 → s.fw.slot = none ∨ s.fw.keyId ≠ byteAt p 1)
              ∧ (byteAt p 0 = 1 → s.brd.keyId ≠ some (byteAt p 1))) →
          Completes (.keyRevoke o p) s fun t =>
            bitAt (t.otpWord 0x84) (revokeBit (byteAt p 0) (byteAt p 1)) = true
            ∧ t.responded o (rspPayload 0x92 .ok []) ∧ s.sameMemory t))

/-- Crypto operations (R446-R452, R464). -/
def Obligations.CryptoOperations : Prop :=
  ∀ (s : State) (c : Nat), s.comUp = true → c < 7 →
    (∀ w : Word, bitAt w.toNat 31 = true →
        let s1 := s.writeReg (A.cryCtl c) w
        let op := s1.cryOp c w.toNat
        s1.startCode c w.toNat op = .pending →
      Completes (.cryptoStart c false w) s fun t =>
        Sparse.find? t.sec.ops c = some op ∧ t.fld (F.cryResBusy c) = 1 ∧ t.fld (F.cryResChunks c) = 0
        ∧ t.fld (F.cryResResult c) = Status.pending.code ∧ s.sameMemory t)
    ∧ (∀ (w : Word) (op : CryOp), bitAt w.toNat 31 = false → bitAt w.toNat 30 = true →
        Sparse.find? s.sec.ops c = some op → op.ended = none →
      Completes (.cryptoAbort c false w) s fun t =>
        Sparse.find? t.sec.ops c = some { op with ended := some .cancelled } ∧ s.sameMemory t
        ∧ s.sameRegsBut t [A.cryCtl c])
    ∧ (∀ (pk : Bool) (op : CryOp), s.unitAt pk = c → Sparse.find? s.sec.ops c = some op → algPk op.alg = pk →
        op.ended = none → pk = true ∨ op.done < op.chunks →
      Completes (.cryptoChunk pk) s fun t =>
        Sparse.find? t.sec.ops c = some { op with done := op.done + 1 }
        ∧ t.fld (F.cryResChunks c) = min 4095 (op.done + 1))
    ∧ (∀ op : CryOp, Sparse.find? s.sec.ops c = some op →
        (∀ st, op.ended = some st →
          Completes (.cryptoDone c) s fun t =>
            Sparse.find? t.sec.ops c = none ∧ t.fld (F.cryResBusy c) = 0 ∧ t.fld (F.cryResResult c) = st.code
            ∧ t.bit A.cryIntstat c = true)
        ∧ (op.ended = none → s.unitAt (algPk op.alg) = c → algPk op.alg = true ∨ op.chunks ≤ op.done →
            algDraws op.alg = false ∨ s.fld F.rngStatState = 2 →
          Completes (.cryptoDone c) s fun t =>
            Sparse.find? t.sec.ops c = none ∧ t.fld (F.cryResBusy c) = 0 ∧ t.bit A.cryIntstat c = true
            ∧ t.fld (F.cryResResult c) = (if (s.cryFinish op).1 then Status.ok.code else Status.authFail.code)))

/-- Random numbers (R454-R458, R465, R468). -/
def Obligations.RandomNumbers : Prop :=
  ∀ s : State,
    (s.comUp = true →
      (s.fld F.rngStatState = 2 →
        Completes .rngWindow s fun t =>
          t.sec.pool = 64 ∧ t.sec.held = 256 ∧ t.sec.windows = s.sec.windows + 1 ∧ t.fld F.rngStatState = 2
          ∧ t.regN (A.rngCtr 0) = (s.regN (A.rngCtr 0) + 1) % 2 ^ 32 ∧ s.sameMemory t)
      ∧ (s.fld F.rngStatState = 1 →
        Completes .rngWindow s fun t =>
          t.fld F.rngStatState = (if 4 ≤ s.sec.windows + 1 then 2 else 1)
          ∧ t.regN (A.rngCtr 0) = (s.regN (A.rngCtr 0) + 1) % 2 ^ 32 ∧ s.sameMemory t)
      ∧ (∀ test, 1 ≤ test → test ≤ 3 → s.fld F.rngStatState = 1 ∨ (s.fld F.rngStatState = 2 ∧ test ≠ 3) →
        Completes (.rngHealthFail test) s fun t =>
          t.fld F.rngStatState = 3 ∧ t.fld F.rngStatTest = test ∧ t.flag F.rngIntstatFail = true ∧ t.sec.held = 0)
      ∧ (s.fld F.rngStatState = 3 → s.flag F.rngCtlAutorst = true → s.fld F.rngStatFails < 3 →
        Completes .rngAutoRestart s fun t =>
          t.fld F.rngStatState = 1 ∧ t.sec.windows = 0 ∧ s.sameRegsBut t [A.rngStat] ∧ s.sameMemory t)
      ∧ (∀ w : Word, s.fld F.rngStatState = 3 → bitAt w.toNat 1 = true →
        Completes (.rngRestart false w) s fun t =>
          t.fld F.rngStatState = 1 ∧ t.sec.windows = 0 ∧ s.sameRegsBut t [A.rngCtl, A.rngStat] ∧ s.sameMemory t)
      ∧ (∀ (n : Nat) (w : Word), n < 4 → 1 ≤ bitsOf w.toNat 0 13 → bitsOf w.toNat 0 13 ≤ 4096 →
          s.flag (F.rngReqstatBusy n) = false → s.fld F.rngStatState ≠ 3 →
          let len := bitsOf w.toNat 0 13
          let a := s.regN (A.rngReqaddr n)
          0x20000000 ≤ a → a + len ≤ 0x20600000 →
        Completes (.rngRequest n false w) s fun t =>
          Sparse.find? t.sec.reqs n = some (a, len) ∧ t.fld (F.rngReqstatBusy n) = 1
          ∧ t.fld (F.rngReqstatResult n) = Status.pending.code ∧ s.sameMemory t ∧ s.sameRegsBut t [A.rngReqstat n])
      ∧ (∀ n a len, n < 4 → Sparse.find? s.sec.reqs n = some (a, len) → s.fld F.rngStatState = 2 →
        Completes (.rngRequestDone n) s fun t =>
          Sparse.find? t.sec.reqs n = none ∧ t.fld (F.rngReqstatBusy n) = 0
          ∧ t.fld (F.rngReqstatResult n) = Status.ok.code ∧ t.bit A.rngIntstat (2 + n) = true
          ∧ ∀ x, x < a ∨ a + len ≤ x → t.byte x = s.byte x))
    ∧ (∀ o : Origin, s.takes o 0x94 [] →
        Completes (.rngStatus o []) s fun t =>
          t.responded o (rspPayload 0x94 .ok (leBytes 4 (s.regN A.rngStat)
            ++ ((List.range 8).map (fun k => leBytes 4 (s.regN (A.rngCtr k)))).flatten))
          ∧ t.sec = s.sec ∧ s.sameMemory t)

/-- Tamper (R459-R463, R468). -/
def Obligations.TamperAlarms : Prop :=
  ∀ s : State,
    (∀ src, src ≤ 10 → s.tmpOn src = true → s.bit A.tmpStat src = false → s.pw.boot = .run →
        (s.dormant = false → s.pw.wSleep = false → s.pw.trans = none → s.tmpClassOf src ≤ 2 →
          Completes (.tamperAlarm src true) s fun t =>
            t.bit A.tmpStat src = true ∧ t.bit A.tmpLatch src = true ∧ t.bit A.tmpIntstat src = true
            ∧ t.fld F.tmpEvlogLastsrc = src ∧ t.fld F.tmpEvlogLastclass = s.tmpClassOf src
            ∧ (1 ≤ s.tmpClassOf src → s.domainOn .com = true → ∀ k, k < 16 → t.slotValid k = false)
            ∧ (s.tmpClassOf src = 2 → t.flag F.tmpStatStorepend = true)
            ∧ (s.tmpClassOf src = 2 → s.domainOn .com = true → t.sealed = true)
            ∧ (s.tmpClassOf src = 0 → s.sameMemory t ∧ t.sec.keys = s.sec.keys))
        ∧ (s.dormant = false → s.pw.wSleep = false → s.pw.trans = none → s.tmpClassOf src = 3 → s.mode ≠ 5 →
            (∀ x, s.pw.lastReset = some x → x.1 ≠ s.tick) →
          Completes (.tamperAlarm src true) s fun t =>
            t.pw.boot = .startup ∧ t.fld F.rstCauseScope = 2 ∧ t.fld F.rstCauseCode = 5 ∧ t.bit A.tmpLatch src = true))
    ∧ (∀ src, src ≤ 10 → s.pw.boot ≠ .off →
        Completes (.tamperAlarm src false) s fun t => t.bit A.tmpStat src = false ∧ s.sameMemory t)
    ∧ (∀ w : Word,
        Completes (.latchClear false w) s fun t =>
          (∀ k, k ≤ 10 → s.bit A.tmpStat k = false → bitAt w.toNat k = true → s.tmpClassOf k ≠ 3 →
            t.bit A.tmpLatch k = false)
          ∧ (∀ k, k ≤ 10 → s.bit A.tmpStat k = false → bitAt w.toNat k = false ∨ s.tmpClassOf k = 3 →
            t.bit A.tmpLatch k = s.bit A.tmpLatch k)
          ∧ (∀ k, k ≤ 10 → s.bit A.tmpStat k = true → t.bit A.tmpLatch k = true)
          ∧ s.sameRegsBut t [A.tmpLatch] ∧ s.sameMemory t)
    ∧ (∀ o : Origin, s.takes o 0x90 [] →
        Completes (.secStatus o []) s fun t =>
          t.responded o (rspPayload 0x90 .ok (leBytes 4 (s.regN A.keySeal) ++ leBytes 4 (s.regN A.keyValid)
            ++ leBytes 4 (s.regN A.tmpStat) ++ leBytes 4 (s.regN A.tmpLatch) ++ leBytes 4 s.tmpClass
            ++ leBytes 4 s.tmpFloor ++ leBytes 4 (s.regN A.rngStat) ++ leBytes 4 (s.otpWord 0x84 % 2 ^ 32)
            ++ leBytes 4 s.rootMap ++ s.idPub))
          ∧ t.sec = s.sec ∧ s.sameMemory t)
    ∧ (∀ (o : Origin) (p : List Byte), s.takes o 0x93 p → p.length = 68 → leAt p 2 2 = 0 → leAt p 0 2 < 2 ^ 11 →
        let good := s.maintSet && Config.cryptoOk 14 [] (s.rootBytes 0x140 4 ++ p.drop 4) (s.clearMsg (leAt p 0 2))
        Completes (.tamperClear o p) s fun t =>
          (good = false → t.responded o (rspPayload 0x93 .authFail []) ∧ t.reg A.tmpLatch = s.reg A.tmpLatch)
          ∧ (good = true → t.responded o (rspPayload 0x93 .ok [])
            ∧ (∀ k, k ≤ 10 → bitAt (leAt p 0 2) k = true → s.bit A.tmpStat k = false → t.bit A.tmpLatch k = false)
            ∧ (s.pw.boot = .halt → t.sec.clearReset = true))
          ∧ s.sameMemory t)

/-- The states of a radio chain (R163, R166-R168, R173-R177, R252). -/
def Obligations.ChainStateMachine : Prop :=
  ∀ (s : State) (c : Chain),
    (s.comUp = true → s.flag F.pmuStatXrefrdy = true → s.dueWithin c 10000 = true →
      (s.chState c = 1 → Completes (.chainLockStart c) s fun t => t = s.setChState c 2)
      ∧ (s.chState c = 0 → s.mode = 1 →
          Completes (.chainLockStart c) s fun t => t.chState c = 2 ∧ t.domainOn (chainDomain c) = true))
    ∧ (s.chState c = 2 →
        Completes (.channelLock c) s (fun t =>
          t.chState c = 3 ∧ t.flag (F.rfsStatChlock c) = true
          ∧ t.fld (F.rfsFreqFreq c) = ofSigned 30 ((s.chain c).rxFreq + (s.chain c).carrier)
          ∧ s.sameRegsBut t [A.rfsStat c, A.rfsRssi c, A.rfsFreq c] ∧ s.sameMemory t)
        ∧ Completes (.lockfail c) s (fun t =>
          t.chState c = 1 ∧ t.flag (F.rfsIntstatLockfail c) = true
          ∧ s.sameRegsBut t [A.rfsStat c, A.rfsRssi c, A.rfsIntstat c] ∧ s.sameMemory t))
    ∧ (s.chState c = 3 → (s.chain c).holder = none → s.dueWithin c (40000 * s.fld F.lnkCfgIdle) = false → s.mode ≠ 1 → s.mode ≠ 5 →
        Completes (.chainIdle c) s fun t =>
          t.chState c = 1 ∧ t.flag (F.rfsStatChlock c) = false ∧ t.fld (F.rfsFreqFreq c) = 0 ∧ s.sameMemory t)
    ∧ (s.flag (F.rfsCalAuto c) = true → s.flag (F.rfsStatCaldue c) = true → s.chState c = 1 →
        s.dueWithin c 800000 = false →
        Completes (.calAutoStart c) s fun t => t = s.setChState c 9)
    ∧ (∀ n, (s.chain c).holder = some n → n < 512 → s.flag (F.rfsCoexEn c) = true →
        (s.act n).transmits = true ∨ s.flag (F.rfsCoexRxreq c) = true →
        Completes (.coexRequest c) s fun t =>
          (t.chain c).cxReq = true ∧ (t.chain c).cxPri = (s.act n).pri ∧ s.sameRegsBut t [] ∧ s.sameMemory t)
    ∧ (∀ n vpa, (s.chain c).holder = some n → (s.slot n).state = 2 → (s.slot n).ended = false →
        (s.act n).transmits = true → s.mustListen n = false → (s.chain c).tx = none → s.chState c = 3 →
        (s.slot n).start.getD 0 ≤ s.tb.now + s.rampOf c (s.act n).mode
          + (if s.flag (F.rfsCoexEn c) then 40 * s.fld (F.rfsCoexGntsu c) else 400) →
        s.tb.now + s.rampOf c (s.act n).mode ≤ (s.slot n).start.getD 0 →
        (s.gateReason (s.act n) = none → (s.framePsdu n).1.isSome = true →
          Completes (.transmitGate c vpa) s fun t =>
            t.fld (F.rfsGateReason c) = 0 ∧ t.fld (F.rfsGateBand c) = 0xFF ∧ t.chState c = 3
            ∧ ∃ f, (t.chain c).tx = some f ∧ f.slot = n ∧ f.mode = (s.act n).mode ∧ f.freq = (s.act n).freq
              ∧ f.firstSym = (s.slot n).start.getD s.tb.now ∧ f.ramp = (s.store c).ramp)
        ∧ (∀ r b, s.gateReason (s.act n) = some (r, b) →
          Completes (.transmitGate c vpa) s fun t =>
            t.fld (F.rfsGateReason c) = r ∧ t.flag (F.rfsIntstatGateref c) = true ∧ (t.chain c).holder = none))
    ∧ (∀ f, (s.chain c).tx = some f →
        (s.chState c = 5 → f.firstSym ≤ s.tb.now → Completes (.rampupEnd c) s fun t => t = s.setChState c 6)
        ∧ (s.chState c = 6 → f.firstSym + f.airtime ≤ s.tb.now →
          Completes (.txLastSymbol c) s fun t =>
            t.chState c = 7 ∧ (t.chain c).lastSym = some s.tb.now ∧ (t.slot f.slot).lastEnd = some s.tb.now
            ∧ (t.slot f.slot).sent = (s.slot f.slot).sent + 1 ∧ s.sameMemory t)
        ∧ (s.chState c = 7 → (s.chain c).lastSym.getD 0 + f.rampTime ≤ s.tb.now →
          Completes (.rampdnEnd c) s fun t =>
            (t.chain c).pa = false ∧ (t.chain c).tx = none ∧ (t.chain c).carrier = 0
            ∧ (t.chState c = 3 ∨ t.chState c = 8) ∧ s.sameMemory t)
        ∧ (∀ n, s.chState c = 8 → (s.chain c).holder = some n → f.firstSym - f.rampTime ≤ s.tb.now →
          Completes (.turnEnd c) s fun t =>
            t.chState c = 5 ∧ (t.chain c).pa = true ∧ t.flag (F.rfsStatBlank c) = true))
    ∧ (s.chState c = 8 → (s.chain c).holder = none → (s.chain c).lastSym.getD 0 + (s.chain c).turnT ≤ s.tb.now →
        Completes (.turnEnd c) s fun t =>
          t.chState c = 3 ∧ t.flag (F.rfsStatBlank c) = false ∧ s.sameRegsBut t [A.rfsStat c, A.rfsRssi c] ∧ s.sameMemory t)
    ∧ (5 ≤ s.chState c → s.chState c ≤ 7 →
        (s.flag (F.rfsCoexEn c) = true → (s.chain c).granted = true →
          Completes (.cxGntLoss c) s fun t =>
            (t.chain c).granted = false ∧ t.flag (F.rfsIntstatGntloss c) = true
            ∧ t.fld (F.rfsCoexcntLoss c) = satAdd 0xFFFF (s.fld (F.rfsCoexcntLoss c)) 1
            ∧ s.sameRegsBut t [A.rfsCoexcnt c, A.rfsIntstat c] ∧ s.sameMemory t)
        ∧ Completes (.pwrdrop c) s (fun t =>
            bitAt (t.fld (F.rfsTxpwrClamp c)) 3 = true ∧ s.sameRegsBut t [A.rfsTxpwr c] ∧ s.sameMemory t))

/-- Calibration, ramps, duty and the wake receiver (R164, R165, R172, R173, R178-R184). -/
def Obligations.CalibrationDutyAndWake : Prop :=
  ∀ s : State,
    (∀ (c : Chain) (w : Word), s.comUp = true →
      (bitAt w.toNat 31 = true → s.chState c = 1 ∨ s.chState c = 3 →
        Completes (.calStart false c w) s fun t =>
          t.chState c = 9 ∧ t.fld (F.rfsCalAuto c) = bitsOf w.toNat 0 1
          ∧ s.sameRegsBut t [A.rfsCal c, A.rfsStat c, A.rfsRssi c] ∧ s.sameMemory t)
      ∧ (bitAt w.toNat 31 = true → rampOk (s.stagedRamp c) = true →
        Completes (.rampCommit false c w) s fun t =>
          (t.store c).ramp = s.stagedRamp c ∧ t.fld (F.rfsRampctlSum c) = rampSum (s.stagedRamp c)
          ∧ t.flag (F.rfsRampctlErr c) = false ∧ s.sameRegsBut t [A.rfsRampctl c] ∧ s.sameMemory t)
      ∧ (bitAt w.toNat 31 = true → rampOk (s.stagedRamp c) = false →
        Completes (.rampCommit false c w) s fun t =>
          (t.store c).ramp = (s.store c).ramp ∧ t.flag (F.rfsRampctlErr c) = true
          ∧ t.flag (F.rfsIntstatRamperr c) = true)
      ∧ Completes (.caldue c) s (fun t =>
          t.flag (F.rfsStatCaldue c) = true ∧ t.flag (F.rfsIntstatCaldue c) = true
          ∧ s.sameRegsBut t [A.rfsStat c, A.rfsIntstat c] ∧ s.sameMemory t))
    ∧ (∀ (c : Chain) (inRange : Bool) (temp : Int), s.chState c = 9 → (s.chain c).calHost = none →
        Completes (.calDone c inRange temp) s fun t =>
          t.chState c = 1 ∧ t.flag (F.rfsIntstatCaldone c) = true
          ∧ t.fld (F.rfsCalResult c) = (if inRange then 1 else 3) ∧ t.flag (F.rfsStatCaldue c) = (!inRange && s.flag (F.rfsStatCaldue c))
          ∧ (inRange = true → (t.store c).full.isSome = true ∧ (t.store c).temp = temp)
          ∧ (inRange = false → t.store c = s.store c) ∧ s.sameMemory t)
    ∧ Completes .dutyBin s (fun t =>
        (∀ b, b ∈ s.rf.chS.binBands ++ s.rf.chT.binBands → (t.band b).cur = min ((s.band b).cur + 1) 10000)
        ∧ (∀ b, b ∉ s.rf.chS.binBands ++ s.rf.chT.binBands → t.band b = s.band b)
        ∧ s.sameRegsBut t [] ∧ s.sameMemory t)
    ∧ Completes .dutyBlockClose s (fun t =>
        (∀ b, b < 8 → (t.band b).blocks = ((s.band b).cur :: (s.band b).blocks).take 360 ∧ (t.band b).cur = 0
          ∧ (t.band b).seedCount = (s.band b).seedCount - 1)
        ∧ s.sameRegsBut t [] ∧ s.sameMemory t)
    ∧ (∀ fast pat, s.wkrOn = some fast →
        (s.wkrLost fast = true →
          Completes (.wakeTelegram fast pat) s fun t =>
            t.fld F.wkrCntBlanked = satAdd (2 ^ F.wkrCntBlanked.width - 1) (s.fld F.wkrCntBlanked) 1
            ∧ t.flag F.wkrIntstatBlanked = true ∧ s.sameRegsBut t [A.wkrCnt, A.wkrIntstat] ∧ s.sameMemory t)
        ∧ (s.wkrLost fast = false → s.wkrMatch (pat % 2 ^ 32) = none →
          Completes (.wakeTelegram fast pat) s fun t =>
            t.fld F.wkrCntNomatch = satAdd (2 ^ F.wkrCntNomatch.width - 1) (s.fld F.wkrCntNomatch) 1
            ∧ s.sameRegsBut t [A.wkrCnt] ∧ s.sameMemory t)
        ∧ (∀ k errs, s.wkrLost fast = false → s.wkrMatch (pat % 2 ^ 32) = some (k, errs) →
          Completes (.wakeTelegram fast pat) s fun t =>
            t.fld F.wkrCntMatch = satAdd (2 ^ F.wkrCntMatch.width - 1) (s.fld F.wkrCntMatch) 1
            ∧ t.fld F.wkrStatLast = k ∧ s.sameMemory t))
    ∧ (∀ level : Int, s.wkrOn.isSome = true → -128 < level → level < 128 →
        Completes (.wkrFloorEstimate level) s fun t =>
          let old := signedOf 8 (s.fld F.wkrThrFloor)
          t.fld F.wkrThrFloor = ofSigned 8 (
            if s.fld F.wkrThrFloor = 0x80 then level
            else if old < level then old + 1 else if level < old then old - 1 else old)
          ∧ s.sameRegsBut t [A.wkrThr] ∧ s.sameMemory t)
    ∧ (s.rf.chS.pa = false → (∀ e, s.rf.wkrPaEnd = some e → e + 4000 ≤ s.tb.now) →
        Completes .wkrBlankingEnd s fun t => t = { s with rf := { s.rf with wkrBlank := false } })

/-- The radio's host commands (R192). -/
def Obligations.RadioHostCommands : Prop :=
  ∀ (s : State) (o : Origin) (p : List Byte),
    (s.takes o 0x80 p → p.length = 4 → byteAt p 0 ≤ 1 → allZero (p.drop 1) = true →
        let c := chainOf (byteAt p 0)
        s.chState c ≠ 4 →
      Completes (.rfStatus o p) s fun t =>
        (∃ stat, t.responded o (rspPayload 0x80 .ok (leBytes 4 stat ++ leBytes 4 (s.regN (A.rfsFreq c))
          ++ leBytes 4 (s.regN (A.rfsAfc c)) ++ leBytes 4 (s.regN (A.rfsTxpwr c)) ++ leBytes 4 (s.regN (A.rfsGate c))
          ++ leBytes 4 (s.regN (A.rfsRssi c)) ++ leBytes 4 (s.regN (A.rfsCal c))))
          ∧ bitsOf stat 0 4 = s.chState c) ∧ s.sameMemory t)
    ∧ (s.takes o 0x81 p → p.length = 4 → byteAt p 0 ≤ 1 → allZero (p.drop 1) = true →
        let c := chainOf (byteAt p 0)
        (s.chState c = 1 ∨ s.chState c = 3 →
          Completes (.rfCal o p) s fun t => t.chState c = 9 ∧ (t.chain c).calHost = some o ∧ s.sameMemory t)
        ∧ (s.chState c ≠ 1 → s.chState c ≠ 3 →
          Completes (.rfCal o p) s fun t => t.fld (F.rfsCalResult c) = 2 ∧ t.chState c = s.chState c
            ∧ t.responded o (rspPayload 0x81 .busy (leBytes 4 (t.regN (A.rfsCal c))))))
    ∧ (s.takes o 0x82 p → p.length = 4 → byteAt p 0 ≤ 7 → allZero (p.drop 1) = true →
      Completes (.rfDuty o p) s fun t =>
        t.responded o (rspPayload 0x82 .ok (leBytes 4 (s.rlrLim (byteAt p 0)) ++ leBytes 4 (s.rlrBand (byteAt p 0)).limit
          ++ leBytes 4 ((s.band (byteAt p 0)).used % 2 ^ 22))) ∧ t.rf = s.rf ∧ s.sameMemory t)
    ∧ (s.takes o 0x83 p → p.length = 16 → bitsOf (leAt p 0 4) 4 3 ≤ 3 → leAt p 0 4 &&& 0xFFFF1C8C = 0 →
      Completes (.wkrSet o p) s fun t =>
        t.regN A.wkrCtrl = leAt p 0 4 ∧ t.regN A.wkrNodepat = leAt p 4 4 ∧ t.regN A.wkrGrp0 = leAt p 8 4
        ∧ t.regN A.wkrGrp1 = leAt p 12 4 ∧ t.responded o (rspPayload 0x83 .ok []) ∧ s.sameMemory t)

/-- Actions (R247-R268, R271, R274). -/
def Obligations.ActionsOfTheLinkController : Prop :=
  ∀ s : State,
    (∀ w : Word, s.comUp = true →
        let n := bitsOf w.toNat 0 9
        (s.submitCode n = .pending →
          Completes (.lnkSubmit false w) s fun t =>
            (t.slot n).state = (if (s.act n).lg then 6 else 1) ∧ t.slotGen n = (s.slotGen n + 1) % 128
            ∧ t.fld F.lnkCmdstatResult = Status.pending.code ∧ t.fld F.lnkCmdstatSlot = n
            ∧ t.fld F.lnkCmdstatGen = (s.slotGen n + 1) % 128 ∧ s.sameRegsBut t [A.lnkCtr 0, A.lnkCmdstat] ∧ s.sameMemory t)
        ∧ (bitAt w.toNat 31 = false → n < 448 → (s.slot n).state = 1 ∨ (s.slot n).state = 4 ∨ (s.slot n).state = 6 →
            s.slotGen n < 128 → s.followersOf n = [] → (s.chain .s).holder ≠ some n → (s.chain .t).holder ≠ some n →
          Completes (.lnkCancel false w) s fun t =>
            (t.slot n).state = 5 ∧ (t.slot n).status = Status.cancelled.code ∧ (t.slot n).reason = 0
            ∧ t.fld F.lnkCmdstatResult = Status.ok.code ∧ s.sameMemory t))
    ∧ (s.comUp = true →
        Completes .lnkNext0Read s fun t =>
          t.busError = false ∧ t.busData = Word.ofN ((s.nextClaim.getD (2 ^ 64 - 1)) % 2 ^ 32)
          ∧ t.regN A.lnkNext1 = (s.nextClaim.getD (2 ^ 64 - 1)) / 2 ^ 32 % 2 ^ 32 ∧ s.sameMemory t)
    ∧ (∀ n, (s.slot n).state = 1 → (s.act n).kind ≠ 5 → s.slotAsap n = false →
        let a := s.act n
        let c := chainOf a.chain
        s.radioHold = false → s.swapHold = false → 3 ≤ s.chState c → s.chState c ≠ 9 → (s.chain c).holder = none →
        (s.listens n = true → s.fitsFrom n (s.tb.now + 1) = true) →
        (∀ u, (s.slot n).start = some u → u - s.claimLead a ≤ s.tb.now →
          (a.transmits = true → s.tb.now ≤ u - s.claimLead a) →
          Completes (.actionClaim n) s fun t =>
            (t.slot n).state = 2 ∧ (t.chain c).holder = some n ∧ (t.chain c).rxFreq = a.freq ∧ s.sameMemory t))
    ∧ (∀ n, (s.slot n).state = 2 →
        let a := s.act n
        let c := chainOf a.chain
        (s.chain c).holder = some n → s.chState c = 3 →
        (a.receives = true → (s.slot n).start.getD 0 ≤ s.tb.now → (s.slot n).from_ ≤ s.tb.now → s.tooLate n = false → s.flag (F.rfsCoexEn c) = false →
          Completes (.actionStart n) s fun t => t.chState c = 4 ∧ (t.slot n).state = 3 ∧ (t.slot n).opened = some s.tb.now
            ∧ (t.chain c).femRx = true ∧ s.sameMemory t)
        ∧ (a.transmits = true → s.mustListen n = true → (s.slot n).from_ ≤ s.tb.now →
          Completes (.actionStart n) s fun t => t.chState c = 4 ∧ (t.slot n).state = 3 ∧ (t.slot n).listening = true
            ∧ (t.slot n).until_ = s.tb.now + s.listenTicks a ∧ s.sameMemory t)
        ∧ (∀ f, a.transmits = true → s.mustListen n = false → (s.chain c).tx = some f → f.firstSym - f.rampTime ≤ s.tb.now →
          Completes (.actionStart n) s fun t => t.chState c = 5 ∧ (t.slot n).state = 3 ∧ (t.chain c).pa = true))
    ∧ (∀ n (peak : Int), n < 512 → (s.slot n).state = 3 → (s.slot n).ended = false → (s.act n).receives = true →
        let c := s.slotChain n
        (s.chain c).holder = some n → (s.slot n).until_ ≤ s.tb.now →
        ((s.act n).kind = 4 →
          Completes (.rxWindowEnd n peak) s fun t => (t.slot n).ended = true ∧ (t.slot n).peak = peak ∧ (t.chain c).holder = none)
        ∧ ((s.act n).kind = 3 → s.pastSync c = false →
          Completes (.rxWindowEnd n peak) s fun t => (t.slot n).ended = true ∧ (t.chain c).holder = none))
    ∧ (∀ n, (s.slot n).state = 3 → (s.slot n).listening = true →
        (∀ level : Int, (s.slot n).from_ + 2560 ≤ s.tb.now → s.lbtThreshold (s.act n) < level →
            (s.slot n).busy + 1 < s.fld F.lnkLbtcfgMaxtries →
          Completes (.listenBusy n level) s fun t =>
            (t.slot n).state = 4 ∧ (t.slot n).busy = (s.slot n).busy + 1 ∧ (t.slot n).lbt = (s.slot n).lbt
            ∧ (t.slot n).listening = false)
        ∧ ((s.slot n).until_ ≤ s.tb.now →
          Completes (.listenClear n) s fun t =>
            (t.slot n).clear = true ∧ (t.slot n).listening = false
            ∧ (t.slot n).start = some (s.tb.now + 480 + s.rampOf (s.slotChain n) (s.act n).mode)
            ∧ t.chState (s.slotChain n) = (if s.chState (s.slotChain n) = 4 then 3 else s.chState (s.slotChain n))))
    ∧ (∀ n, (s.slot n).state = 4 → (s.slot n).until_ ≤ s.tb.now + 680 → s.radioHold = false → s.swapHold = false →
        let c := s.slotChain n
        (s.chain c).holder = none → s.chState c = 3 → s.fitsFrom n (s.tb.now + 1) = true →
        (s.act n).receives = false →
        Completes (.backoffEnd n) s fun t =>
          (t.slot n).state = 2 ∧ (t.chain c).holder = some n ∧ (t.slot n).from_ = max (s.slot n).until_ (s.tb.now + 680))
    ∧ (s.mode = 1 → s.fld F.lnkWatchcfgMode ≠ 0 → s.listenAge ≤ 25 → (s.chain s.watchChain).holder = none →
        s.chState s.watchChain = 3 →
        Completes .watchListen s fun t =>
          t.chState s.watchChain = 4 ∧ (t.chain s.watchChain).holder = some 512
          ∧ (t.chain s.watchChain).rxMode = s.fld F.lnkWatchcfgMode ∧ t.lnk.watchEnd = s.tb.now + 80000 ∧ s.sameMemory t)
    ∧ (∀ n, (s.ctx n).state = 2 → (s.ctx n).header.isSome = true → (s.ctx n).formed = (s.ctx n).blockCount →
        (s.ctx n).waiting = [] → s.narrowChain n = none →
        let c := chainOf (s.ctx n).band
        Completes (.ctxRelease n) s fun t =>
          t = ((s.ctxCount n 1).ctxFree n).setChain c { s.chain c with
            rxEnd := some (s.ctx n).ended, rxC := if s.flag (F.rfsCtrlAfcen c) then (s.ctx n).cfo else 0,
            rxT := turnTicks (s.ctx n).mode })
    ∧ (∀ n, (s.slot n).ended = true → (s.slot n).state = 3 → (s.followersOf n) = [] →
        Completes (.actionComplete n) s fun t =>
          (t.slot n).state = 5 ∧ (t.slot n).reason = 0
          ∧ (t.slot n).status = (if (s.slot n).stopping then Status.cancelled.code
              else if (s.slot n).ranLate then Status.late.code else Status.ok.code) ∧ s.sameMemory t)
    ∧ (∀ n, n < 448 → (s.slot n).state = 5 → s.ringRoom (s.act n).ring = true →
        Completes (.completionWrite n) s fun t =>
          (t.slot n).state = 0
          ∧ t.fld (F.lnkRingwrIndex (s.act n).ring)
            = (s.fld (F.lnkRingwrIndex (s.act n).ring) + 1) % 2 ^ (6 + (s.ring (s.act n).ring).2) % 2 ^ 12
          ∧ ∀ x, (x < (s.ring (s.act n).ring).1 + 16 * s.fld (F.lnkRingwrIndex (s.act n).ring)
              ∨ (s.ring (s.act n).ring).1 + 16 * s.fld (F.lnkRingwrIndex (s.act n).ring) + 16 ≤ x) → t.byte x = s.byte x)

/-- Gain control and sample validity (R161, R170, R194, R195, R212). -/
def Obligations.WidePathGainAndValidity : Prop :=
  ∀ (s : State) (b : Nat), b < 2 →
    (s.bandRuns b = true →
      (∀ peak, s.flag (F.chzAgcFix b) = false →
        (peak < 3 → s.fld (F.chzGainG b) ≠ 0 →
          Completes (.agcAttack b peak false) s fun t =>
            t.fld (F.chzGainG b) = s.fld (F.chzGainG b) - attackStep (s.fld (F.chzAgcAttack b))
            ∧ t.fld (F.chzGainPeak b) = peak ∧ t.regN (A.chzCutcnt b) = (s.regN (A.chzCutcnt b) + 1) % 2 ^ 32
            ∧ s.sameMemory t)
        ∧ (3 ≤ peak →
          Completes (.agcAttack b peak false) s fun t =>
            t.fld (F.chzGainG b) = s.fld (F.chzGainG b) ∧ t.fld (F.chzGainPeak b) = min peak 255
            ∧ s.sameRegsBut t [A.chzGain b] ∧ s.sameMemory t))
      ∧ (s.flag (F.chzAgcFix b) = false → s.fld (F.chzGainG b) < s.fld (F.chzAgcGmax b) →
          Completes (.agcDecay b) s fun t =>
            t.fld (F.chzGainG b) = s.fld (F.chzGainG b) + 1 ∧ s.sameRegsBut t [A.chzGain b] ∧ s.sameMemory t)
      ∧ Completes (.sampleOverflow b) s (fun t =>
          t.bandValid b = false ∧ t.regN (A.chzOvfcnt b) = (s.regN (A.chzOvfcnt b) + 1) % 2 ^ 32 ∧ s.sameMemory t)
      ∧ (s.noOverflow b = true → s.flag F.pmuStatXrefrdy = true →
          Completes (.samplesValid b) s fun t =>
            t.bandValid b = true ∧ t.flag (F.rfsStatCaplock (chainOf b)) = true
            ∧ t.fld (F.rfsCapfFreq (chainOf b)) = bitsOf (s.capPlan b) 0 30 ∧ s.sameMemory t))
    ∧ (s.flag (F.rfsStatCaplock (chainOf b)) = false →
        Completes (.sampleInvalid b) s fun t => t.bandValid b = false ∧ s.sameMemory t)
    ∧ (s.flag (F.rfsStatCaplock (chainOf b)) = true →
        Completes (.caplockLoss (chainOf b)) s fun t =>
          t.flag (F.rfsStatCaplock (chainOf b)) = false ∧ t.fld (F.rfsCapfFreq (chainOf b)) = 0 ∧ s.sameMemory t)
    ∧ (∀ offset : Int,
        let c := chainOf b
        let n := s.narrowCtx c
        s.chState c = 4 → (s.ctx n).busy = true → s.narrowChain n = some c → -10 ≤ offset → offset ≤ 10 →
        Completes (.afcTrack c offset) s fun t => (t.ctx n).cfo = (s.ctx n).cfo + offset ∧ s.sameMemory t)

/-- Detection, assignment and reception (R199-R206, R224, R225). -/
def Obligations.DetectionAndContexts : Prop :=
  ∀ s : State,
    (∀ b slice mode cls w (level : Int), b < 2 → s.bandRuns b = true → s.bandValid b = true →
        s.flag (F.rfsStatBlank (chainOf b)) = false → s.slice b slice = some w → sliceClass w mode = some cls →
        ((s.bandSt b).fresh ++ (s.bandSt b).queue).any (s.merges b slice mode) = false →
        allCtx.any (s.mergesFrame b slice mode) = false → s.shadowed b slice mode level = false →
      Completes (.detectorFire b slice mode level) s fun t =>
        (∃ e, (t.bandSt b).fresh = (s.bandSt b).fresh
          ++ [{ slice := slice, mode := mode, cls := cls, level := level, at_ := s.tb.now, entry := e }])
        ∧ (t.bandSt b).queue = (s.bandSt b).queue ∧ s.sameRegsBut t [A.chzDetcnt b] ∧ s.sameMemory t)
    ∧ (∀ b c n, b < 2 → s.bandRuns b = true → (s.bandSt b).fresh = [c] → (s.bandSt b).queue = [] →
        s.pick c (allCtx.filter (fun n => (s.ctx n).state == 0 && !s.cap.draining.contains n && s.suits b c n)) = some n →
      Completes (.arbitration b) s fun t =>
        (t.ctx n).state = 1 ∧ (t.ctx n).mode = c.mode ∧ (t.ctx n).slice = c.slice ∧ (t.ctx n).band = b
        ∧ (t.ctx n).frame = s.cap.nextFrame ∧ (t.bandSt b).fresh = [] ∧ (t.bandSt b).queue = [] ∧ s.sameMemory t)
    ∧ (∀ b, b < 2 →
      Completes (.candidateExpire b) s fun t =>
        (t.bandSt b).queue = (s.bandSt b).queue.filter (fun c => !(c.at_ + s.holdTicks c.mode ≤ s.tb.now))
        ∧ (t.bandSt b).fresh = (s.bandSt b).fresh ∧ s.sameMemory t)
    ∧ (∀ n (level cfo : Int), s.narrowChain n = none → (s.ctx n).state = 1 →
      Completes (.ctxSync n level cfo) s fun t =>
        (t.ctx n).state = 2 ∧ (t.ctx n).cfo = cfo ∧ (t.ctx n).sync = true ∧ (t.ctx n).stampTick = s.tb.now
        ∧ s.sameMemory t)
    ∧ (∀ n (level cfo : Int) (c : Chain), s.narrowChain n = some c → s.chState c = 4 → (s.ctx n).busy = false →
        (s.chain c).pa = false → s.cap.draining.contains n = false →
      Completes (.ctxSync n level cfo) s fun t =>
        (t.ctx n).busy = true ∧ (t.ctx n).mode = (s.chain c).rxMode ∧ (t.ctx n).level = level ∧ (t.ctx n).cfo = cfo
        ∧ (t.ctx n).frame = s.cap.nextFrame ∧ s.sameMemory t)
    ∧ (∀ n, (s.ctx n).state = 1 → (s.ctx n).det + longestPreamble (s.ctx n).mode ≤ s.tb.now →
      Completes (.ctxFalsedet n) s fun t => t = (s.ctxFree n).ctxCount n 2)
    ∧ (∀ n bits, s.wantsHeader n = true →
        (modeLr (s.ctx n).mode = true → bitAt bits 18 = false → lrHeaderOk (bits % 2 ^ 48) = true →
          Completes (.ctxHeader n bits true) s fun t => t = s.setCtx n { s.ctx n with header := some (bits % 2 ^ 48) })
        ∧ (modeLr (s.ctx n).mode = false → bits ≤ modeMaxLen (s.ctx n).mode →
          Completes (.ctxHeader n bits true) s fun t => t = s.setCtx n { s.ctx n with header := some bits })
        ∧ (∀ mode, modeFsk (s.ctx n).mode = true → modeFsk mode = true → s.follows n mode = true →
          Completes (.modeSwitch n mode) s fun t =>
            t = s.setCtx n { s.ctx n with mode := mode, switched := true }))

/-- Decoding and receive buffers (R237-R241, R262-R264, R275). -/
def Obligations.DecodingAndReceiveBuffers : Prop :=
  ∀ s : State,
    (∀ n (llrs : List Int), (s.ctx n).state = 2 → (s.ctx n).formed < (s.ctx n).blockCount → (s.ctx n).waiting = [] →
      Completes (.blockDispatch n llrs) s fun t =>
        (t.ctx n).formed = (s.ctx n).formed + 1 ∧ (t.ctx n).ended = s.tb.now
        ∧ s.sameRegsBut t ((List.range 16).map (fun i => A.decCtr (8 * i + 4))) ∧ s.sameMemory t)
    ∧ (∀ i good data b rest x, (s.decTile i).queue = b :: rest → b.code = 4 → s.rxFrame b.frame = some x →
        allCtx.all (fun n => (s.ctx n).waiting.isEmpty) = true →
      Completes (.blockDecodeDone i good data) s fun t =>
        (t.decTile i).queue = rest ∧ s.sameMemory t
        ∧ ∃ a, t.lnk.arrived = s.lnk.arrived ++ [a] ∧ a.delivered = true ∧ a.fcsOk = (good != 0) ∧ a.mode = x.mode
          ∧ a.psdu = data.take x.header)
    ∧ (∀ i,
      Completes (.slotExpire i) s fun t =>
        (∀ q ∈ (t.decTile i).slots, s.tb.now < q.wrote + 40000 * q.life)
        ∧ (∀ q ∈ (s.decTile i).slots, s.tb.now < q.wrote + 40000 * q.life → q ∈ (t.decTile i).slots)
        ∧ s.sameRegsBut t [A.decCtr (8 * i + 4)] ∧ s.sameMemory t)
    ∧ (∀ a rest b, s.lnk.arrived = a :: rest → a.delivered = true → a.fcsOk = true →
        a.psdu.length ≤ bufCapacity s.lnk.rxSz → s.freeBuffer = some b → s.matchLink a (macView a.psdu) = none →
        s.ringRoom (s.fld F.lnkRxcfgDefring) = true → a.action = 0xFFFF →
        let r := s.fld F.lnkRxcfgDefring
        let at_ := s.lnk.rxBase + (bufCapacity s.lnk.rxSz + 32) * b
        let n := (s.rxRecord a none ++ a.psdu).length
        let entry := (s.ring r).1 + 16 * s.fld (F.lnkRingwrIndex r)
      Completes .frameReceived s fun t =>
        t.lnk.taken = b :: s.lnk.taken ∧ t.lnk.arrived = rest
        ∧ t.regN A.lnkRxseq = (s.regN A.lnkRxseq + 1) % 2 ^ 32
        ∧ (∀ x, (x < at_ ∨ at_ + n ≤ x) → (x < entry ∨ entry + 16 ≤ x) → t.byte x = s.byte x))
    ∧ (∀ w : Word, s.comUp = true → bitsOf w.toNat 0 10 < s.lnk.rxCount →
        s.lnk.taken.contains (bitsOf w.toNat 0 10) = true →
      Completes (.rxrelease false w) s fun t =>
        t = { s with lnk := { s.lnk with taken := s.lnk.taken.erase (bitsOf w.toNat 0 10) } })
    ∧ (∀ (r : Nat) (w : Word), s.comUp = true → r < 4 → s.tnt.entries = [] →
      Completes (.ringReadAdvance false r w) s fun t =>
        t.fld (F.lnkRingrdIndex r) = bitsOf w.toNat 0 12
        ∧ s.sameRegsBut t [A.lnkRingrd r, A.lnkIntstat] ∧ s.sameMemory t)
    ∧ (s.lnk.rxStaged = true →
      Completes .rxConfigApply s fun t =>
        t.lnk.rxStaged = false ∧ t.lnk.taken = [] ∧ t.lnk.rxBase = 8 * s.fld F.lnkRxbaseBase
        ∧ t.lnk.rxCount = s.fld F.lnkRxcountCount ∧ t.lnk.rxSz = s.fld F.lnkRxcfgBufsz ∧ s.sameRegsBut t []
        ∧ s.sameMemory t)
    ∧ (∀ r, r < 4 → s.lnk.ringStaged.contains r = true → s.tnt.entries = [] →
      Completes (.ringConfigApply r) s fun t =>
        t.ring r = (64 * s.fld (F.lnkRingbaseBase r), s.fld (F.lnkRingsizeSize r))
        ∧ t.fld (F.lnkRingwrIndex r) = 0 ∧ t.fld (F.lnkRingrdIndex r) = 0 ∧ t.bit A.lnkIntstat r = false ∧ s.sameMemory t)

/-- Link commands, by register and by host (R283, R288-R290, R302, R305). -/
def Obligations.LinkCommands : Prop :=
  ∀ s : State,
    (∀ w : Word, s.comUp = true → bitsOf w.toNat 16 12 = 0 →
        let h := bitsOf w.toNat 0 16
        let i := handleIdx h
        (s.openCode i = .pending →
          Completes (.linkcmdOpen false w) s fun t =>
            t.lkState i = (if s.lkInterval i = 0 then 2 else 1) ∧ t.fld F.tntLinkstatResult = Status.pending.code
            ∧ t.fld F.tntLinkstatHandle = s.lkHandle i ∧ t.lk i 0x20 8 = s.tb.now % 2 ^ 64
            ∧ ∀ a, a < lkAddr i 0 ∨ lkAddr i 0x100 ≤ a → t.byte a = s.byte a)
        ∧ (s.stale h = false → s.lkState i = 2 →
          Completes (.linkcmdClose false w) s fun t =>
            t.lkState i = 3 ∧ t.fld F.tntLinkstatResult = Status.pending.code ∧ t.fld F.tntLinkstatHandle = h)
        ∧ (s.stale h = false → s.lkState i = 4 →
          Completes (.linkcmdRelease false w) s fun t =>
            t.lkState i = 0 ∧ t.lkHandle i = 1024 * ((h / 1024 + 1) % 63) + i
            ∧ t.fld F.tntLinkstatResult = Status.ok.code
            ∧ ∀ a, a < lkAddr i 0 ∨ lkAddr i 0x100 ≤ a → t.byte a = s.byte a)
        ∧ (s.stale h = false → s.lkState i = 2 → bitAt (s.lk i 3 1) 1 = true → bitAt (s.lk i 3 1) 3 = false →
            s.lkInterval i ≠ 0 →
          Completes (.linkcmdSwap false w) s fun t =>
            bitAt (t.lk i 3 1) 3 = true ∧ t.lkSwapevt i = (s.lkEvcnt i + s.fld F.tntCfgSwaplead) % 2 ^ 32
            ∧ (t.lkWork i).asking = true ∧ t.fld F.tntLinkstatResult = Status.pending.code)
        ∧ (s.stale h = false → s.lkState i = 2 → s.lkInterval i ≠ 0 → s.lkLeader i = true →
            (s.lkWork i).mapStaged = false →
          Completes (.linkcmdChmap false w) s fun t =>
            (t.lkWork i).mapStaged = true ∧ t.lk i 0x54 4 = (s.lkEvcnt i + s.fld F.tntCfgSwaplead) % 2 ^ 32
            ∧ t.lk i 0x58 20 = s.lk i 0x90 20 ∧ t.fld F.tntLinkstatResult = Status.pending.code))
    ∧ (∀ (o : Origin) (p : List Byte), s.takes o 0x00 p → p.length = 112 → leAt p 0 2 < 1024 → byteAt p 3 = 0 →
        let i := leAt p 0 2
        s.lkState i = 0 → ((s.taking o).putTemplate i p).openCode i = .pending →
        Completes (.linkOpen o p) s fun t =>
          t.lkState i = (if ((s.taking o).putTemplate i p).lkInterval i = 0 then 2 else 1)
          ∧ t.responded o (rspPayload 0x00 .pending (leBytes 2 (s.lkHandle i) ++ leBytes 2 0)))
    ∧ (∀ (o : Origin) (p : List Byte), p.length = 4 → leAt p 2 2 = 0 → s.stale (leAt p 0 2) = false →
        let h := leAt p 0 2
        let i := handleIdx h
        (s.takes o 0x01 p → s.lkState i = 2 →
          Completes (.linkClose o p) s fun t => t.lkState i = 3 ∧ t.responded o (rspPayload 0x01 .pending []))
        ∧ (s.takes o 0x02 p → s.lkState i = 4 →
          Completes (.linkRelease o p) s fun t =>
            t.lkState i = 0 ∧ t.lkHandle i = 1024 * ((h / 1024 + 1) % 63) + i ∧ t.responded o (rspPayload 0x02 .ok []))
        ∧ (s.takes o 0x03 p → s.lkState i = 2 → bitAt (s.lk i 3 1) 1 = true → bitAt (s.lk i 3 1) 3 = false →
            s.lkInterval i ≠ 0 →
          Completes (.linkSwap o p) s fun t =>
            bitAt (t.lk i 3 1) 3 = true ∧ (t.lkWork i).asking = true ∧ t.responded o (rspPayload 0x03 .pending []))
        ∧ (s.takes o 0x04 p →
          Completes (.linkGet o p) s fun t =>
            t.responded o (rspPayload 0x04 .ok (s.bytes (lkAddr i 0) 144)) ∧ s.sameMemory t))
    ∧ (∀ (o : Origin) (p : List Byte), s.takes o 0x05 p → p.length = 4 → byteAt p 0 < 8 → allZero (p.drop 1) = true →
        Completes (.tenantStatus o p) s fun t =>
          t.responded o (rspPayload 0x05 .ok (leBytes 4 (s.tstat (byteAt p 0))
            ++ ((List.range 8).map (fun k => leBytes 4 (s.regN (A.tntCtr (8 * byteAt p 0 + k))))).flatten))
          ∧ t.tnt = s.tnt ∧ s.sameMemory t)

/-- Link-control frames and link events (R281-R291, R437). -/
def Obligations.LinkControlFrames : Prop :=
  ∀ s : State, s.comUp = true →
    (∀ (h ended : Nat) (p : List Byte), s.hears h = true → byteAt p 1 = 0 →
        let i := handleIdx h
        (∀ stamp, byteAt p 0 = 1 → 46 ≤ p.length → s.lkLeader i = false → s.lkInterval i ≠ 0 → s.lkState i ≠ 3 →
            s.fw.wireMin ≤ min (byteAt p 17) s.fw.wireGen →
          Completes (.openCmd h stamp ended p) s fun t =>
            t.lkState i = 2 ∧ t.lkInterval i = leAt p 6 4 ∧ t.lkWin i = leAt p 14 2 ∧ t.lkEvcnt i = leAt p 2 4
            ∧ t.lkAnchor i = stamp % 2 ^ 64 ∧ t.lk i 0x20 8 = ended % 2 ^ 64)
        ∧ (byteAt p 0 = 2 → 8 ≤ p.length → s.lkLeader i = true → s.lkState i = 1 →
          Completes (.openAck h ended p) s fun t =>
            t.lk i 2 1 = (if byteAt p 6 ≠ 0 ∧ s.fw.wireMin ≤ byteAt p 6 then 2 else 4 + 16 * 4))
        ∧ (byteAt p 0 = 3 → 6 ≤ p.length → Completes (.close h ended p) s fun t => t.lk i 2 1 = 4 + 16 * 2)
        ∧ (byteAt p 0 = 4 → 6 ≤ p.length → s.lkState i = 3 →
          Completes (.closeAck h ended p) s fun t => t.lk i 2 1 = 4 + 16 * 1)
        ∧ (byteAt p 0 = 8 → 6 ≤ p.length →
          Completes (.keepalive h ended p) s fun t =>
            t.lk i 0x20 8 = ended % 2 ^ 64 ∧ (t.lkWork i).heard = true ∧ t.lkState i = s.lkState i)
        ∧ (byteAt p 0 = 7 → 30 ≤ p.length → s.lkLeader i = false → s.lkState i = 2 →
          Completes (.chmap h ended p) s fun t =>
            (t.lkWork i).mapStaged = true ∧ t.lk i 0x54 4 = leAt p 6 4 ∧ t.lk i 0x58 20 = leAt p 10 20)
        ∧ (byteAt p 0 = 5 → 12 ≤ p.length → (s.lkWork i).asking = false → (s.lkWork i).swapping = false →
            s.lkState i = 2 → evAfter (s.lkEvcnt i) ((leAt p 8 4 + 2 ^ 32 - 2) % 2 ^ 32) = false →
          Completes (.swapReq h ended p) s fun t =>
            (t.lkWork i).swapping = true ∧ t.lkSwapevt i = leAt p 8 4 ∧ bitAt (t.lk i 3 1) 3 = true)
        ∧ (byteAt p 0 = 6 → 12 ≤ p.length → (s.lkWork i).asking = true → leAt p 8 4 = s.lkSwapevt i →
          Completes (.swapRsp h ended p) s fun t =>
            (t.lkWork i).asking = false
            ∧ (leAt p 6 2 = Status.ok.code → (t.lkWork i).swapping = true ∧ t.lkSwapevt i = leAt p 8 4)
            ∧ (leAt p 6 2 ≠ Status.ok.code → t.flag F.tntIntstatSwapdone = true ∧ bitAt (t.lk i 3 1) 3 = false)))
    ∧ (∀ i, i < 1024 → s.lkState i = 2 → s.lkInterval i ≠ 0 → s.lkAnchor i ≤ s.tb.now → (s.lkWork i).asking = false →
        Completes (.linkEvent i) s fun t =>
          t.lkEvcnt i = (s.lkEvcnt i + 1) % 2 ^ 32 ∧ t.lkAnchor i = (s.lkAnchor i + 40 * s.lkInterval i) % 2 ^ 64
          ∧ t.lkState i = 2 ∧ (t.lkWork i).placed = false
          ∧ ∀ a, a < lkAddr i 0 ∨ lkAddr i 0x100 ≤ a → t.byte a = s.byte a)
    ∧ (∀ i, i < 1024 → s.lkState i = 2 → s.tb.run ≠ .stopped → s.pastSync (chainOf (s.lkChain i)) = false →
        s.lk i 0x20 8 + 40000 * s.lk i 0x2C 4 < s.tb.now →
        Completes (.supervisionTimeout i) s fun t => t.lk i 2 1 = 4 + 16 * 3)

/-- QPOST and SCHEDULING_PASS (R294-R297). -/
def Obligations.TenantQueues : Prop :=
  ∀ s : State, s.comUp = true →
    (∀ w : Word, w.toNat % 8 = 0 →
        let b := s.bytes (w.toNat / 8 * 8) 16
        let d := Desc.parse b
        let i := handleIdx d.link
        (s.postCode d (descReserved b) false = .pending → bitAt d.ctag 12 = false →
          Completes (.qpost false w) s fun t =>
            t.queueOf (s.lkTenant i) (s.lkChain i) = s.queueOf (s.lkTenant i) (s.lkChain i) ++ [d]
            ∧ t.fld F.tntQstatResult = Status.pending.code ∧ t.fld F.tntQstatHandle = d.link ∧ s.sameMemory t)
        ∧ (s.postCode d (descReserved b) false ≠ .pending →
          Completes (.qpost false w) s fun t =>
            t.tnt = s.tnt ∧ t.fld F.tntQstatResult = (s.postCode d (descReserved b) false).code ∧ s.sameMemory t))
    ∧ (∀ d s' n m rest, s.running = true → s.tb.now % s.quantum = 0 → s.hsl.tunOut = [] → s.tnt.flights = [] →
        s.tnt.lcps = [] → s.expressOf 0 = none → s.expressOf 1 = none →
        (∀ i ∈ s.liveLinks, s.lkInterval i = 0 ∧ s.lkChain i = 0) → (∀ k, k < 8 → s.queueOf k 1 = []) →
        s.roundRobin 0 = (some d, s') → s.lkChain (handleIdx d.link) = 0 → s.tntSlots = n :: m :: rest →
        Completes .schedulingPass s fun t =>
          (∃ f, t.flight 0 = some f ∧ f.desc = some d ∧ f.txSlot = some n ∧ f.link = d.link) ∧ t.flight 1 = none
          ∧ (t.slot n).state = 1)

/-- Commands of network time (R307-R315, R321, R326, R329). -/
def Obligations.NetworkTimeCommands : Prop :=
  ∀ s : State, s.comUp = true →
    (s.fld F.ntmCfgSrc = 0 → ∀ w : Word,
        (bitsOf w.toNat 0 4 = 0 →
          Completes (.ntmAbort false w) s fun t =>
            t = s.setNtm { s.ntm with slewRem := 0, slew := none, waitSlew := none })
        ∧ (bitsOf w.toNat 0 3 = 0 → bitAt w.toNat 4 = false →
            let v := s.pair A.ntmSetlo A.ntmSethi
            (s.stepDeferred = false →
              Completes (.ntmSet false w) s fun t =>
                t.ntm.time = v * 2 ^ 32 ∧ t.ntm.slewRem = s.ntm.slewRem ∧ t.ntm.setOnce = true
                ∧ t.flag F.ntmIntstatStep = true ∧ t.flag F.ntmStatValid = true
                ∧ t.regN (A.ntmCtr 2) = (s.regN (A.ntmCtr 2) + 1) % 2 ^ 32
                ∧ (s.ntmRound < v / 1000000000 → t.ntmRound = v / 1000000000) ∧ s.sameMemory t)
            ∧ (s.stepDeferred = true →
              Completes (.ntmSet false w) s fun t =>
                t.ntm.time = s.ntm.time ∧ t.ntm.waiting = some (.set v) ∧ t.ntm.waitHost = none
                ∧ t.flag F.ntmStatPend = true ∧ s.sameMemory t))
        ∧ (bitsOf w.toNat 0 2 = 0 → bitsOf w.toNat 3 2 = 0 → s.stepDeferred = false →
          Completes (.ntmStep false w) s fun t =>
            t.ntm.time = ntmWrap ((s.ntm.time : Int) + nsUnits (signedOf 32 (s.regN A.ntmAdj)))
            ∧ t.ntm.slewRem = s.ntm.slewRem ∧ t.flag F.ntmIntstatStep = true ∧ t.flag F.ntmStatValid = true
            ∧ t.regN (A.ntmCtr 2) = (s.regN (A.ntmCtr 2) + 1) % 2 ^ 32 ∧ s.sameMemory t)
        ∧ (bitAt w.toNat 0 = false → bitsOf w.toNat 2 3 = 0 → s.stampInFlight = false →
          Completes (.ntmSlew false w) s fun t =>
            t.ntm.slewRem = nsUnits (signedOf 32 (s.regN A.ntmAdj)) ∧ t.ntm.time = s.ntm.time
            ∧ (signedOf 32 (s.regN A.ntmAdj) ≠ 0 → t.ntm.slew = some .firmware)
            ∧ s.sameRegsBut t [] ∧ s.sameMemory t)
        ∧ (let inc := bitsOf w.toNat 0 8 * 2 ^ 32 + s.regN A.ntmIncfrac
          incMin ≤ inc → inc ≤ incMax →
          Completes (.incintWrite false w) s fun t =>
            t.ntm.inc = inc ∧ t.ntm.time = s.ntm.time ∧ t.regN A.ntmIncint = bitsOf w.toNat 0 8
            ∧ t.regN A.ntmIncfrac = s.regN A.ntmIncfrac ∧ s.sameRegsBut t [A.ntmIncint, A.ntmIncfrac] ∧ s.sameMemory t))
    ∧ (s.fld F.ntmCfgSrc ≠ 0 → ∀ w : Word, bitAt w.toNat 0 = false →
        ∀ c ∈ [Instr.ntmAbort false w, .ntmSet false w, .ntmStep false w, .ntmSlew false w, .incintWrite false w],
          Completes c s fun t =>
            t.ntm = s.ntm ∧ t.flag F.ntmIntstatCmderr = true ∧ s.sameRegsBut t [A.ntmIntstat] ∧ s.sameMemory t)
    ∧ (∀ w : Word, bitsOf w.toNat 1 4 = 0 →
        Completes (.ntmCapture false w) s fun t =>
          t.pair A.ntmCapns0 A.ntmCapns1 = s.ntmNs % 2 ^ 64 ∧ t.regN A.ntmCapfrac = s.ntm.time % 2 ^ 32
          ∧ t.pair A.ntmCaptmb0 A.ntmCaptmb1 = s.tb.now % 2 ^ 64 ∧ t.ntm = s.ntm
          ∧ s.sameRegsBut t [A.ntmCapns0, A.ntmCapns1, A.ntmCapfrac, A.ntmCaptmb0, A.ntmCaptmb1] ∧ s.sameMemory t)
    ∧ (∀ (o : Origin) (p : List Byte),
        (s.takes o 0x70 p → p.length = 0 →
          Completes (.timeGet o p) s fun t =>
            t.responded o (rspPayload 0x70 .ok (leBytes 8 (s.ntmNs % 2 ^ 64) ++ leBytes 8 (s.tb.now % 2 ^ 64)
              ++ leBytes 8 s.ntmRound ++ leBytes 4 s.ntmStat ++ leBytes 4 (s.regN A.ntmSyncerr)
              ++ leBytes 4 (s.regN A.ntmMesherr))) ∧ t.ntm = s.ntm ∧ s.sameMemory t)
        ∧ (s.takes o 0x71 p → p.length = 8 → s.fld F.ntmCfgSrc = 0 →
            (s.stepDeferred = false →
              Completes (.timeSet o p) s fun t =>
                t.ntm.time = wrap64 (leAt p 0 8) * 2 ^ 32 ∧ t.flag F.ntmStatValid = true
                ∧ t.responded o (rspPayload 0x71 .ok []) ∧ s.sameMemory t)
            ∧ (s.stepDeferred = true →
              Completes (.timeSet o p) s fun t =>
                t.ntm.time = s.ntm.time ∧ t.ntm.waiting = some (.set (leAt p 0 8)) ∧ t.ntm.waitHost = some o
                ∧ t.flag F.ntmStatPend = true ∧ s.sameMemory t))
        ∧ (s.takes o 0x71 p → p.length = 8 → s.fld F.ntmCfgSrc ≠ 0 →
          Completes (.timeSet o p) s fun t =>
            t.ntm = s.ntm ∧ t.responded o (rspPayload 0x71 .notPermitted []) ∧ s.sameMemory t))

/-- What happens to network time by itself (R308-R324, R537). -/
def Obligations.NtmRoundsAndSync : Prop :=
  ∀ s : State,
    (s.ntm.slewRem = 0 → Completes .slewEnd s fun t => t = s.setNtm { s.ntm with slew := none })
    ∧ (∀ ns, s.ntm.waiting = some (.set ns) → s.ntm.waitSlew = none → s.stepDeferred = false →
        Completes .deferredAdjust s fun t =>
          t.ntm.time = wrap64 ns * 2 ^ 32 ∧ t.ntm.waiting = none ∧ t.ntm.waitHost = none
          ∧ t.flag F.ntmStatPend = false ∧ t.flag F.ntmStatValid = true
          ∧ (∀ o, s.ntm.waitHost = some o → t.responded o (rspPayload 0x71 .ok [])) ∧ s.sameMemory t)
    ∧ (∀ k u, s.ntm.waiting = none → s.ntm.waitSlew = some (.slew k u) → s.stampInFlight = false →
        Completes .deferredAdjust s fun t =>
          t.ntm.slewRem = u ∧ t.ntm.waitSlew = none ∧ t.ntm.time = s.ntm.time ∧ s.sameRegsBut t [] ∧ s.sameMemory t)
    ∧ ((s.ntmRound + 1) * 1000000000 ≤ s.ntmNs →
        Completes .roundBoundary s fun t =>
          t.ntmRound = (s.ntmRound + 1) % 2 ^ 64 ∧ t.ntm.lastSlot = (s.ntmRound + 1) * 1000000000
          ∧ t.ntm.rebased = false ∧ t.flag F.ntmIntstatRound = true ∧ t.tnt.air = [] ∧ t.ntm.time = s.ntm.time
          ∧ s.sameMemory t)
    ∧ (s.ntm.lastSlot + 10000000 ≤ s.ntmNs → s.ntm.lastSlot + 10000000 < (s.ntmRound + 1) * 1000000000 →
        Completes .slotBoundary s fun t =>
          t.ntm = { s.ntm with lastSlot := s.ntm.lastSlot + 10000000 } ∧ t.ntmRound = s.ntmRound ∧ s.sameMemory t)
    ∧ (∀ rising : Bool, s.flag F.ntmSynccfgEn = true → s.comUp = true → s.tb.run ≠ .stopped →
        (let e := s.fld F.ntmSynccfgEdge
         e = 2 ∨ (e = 0 ∧ rising = true) ∨ (e = 1 ∧ rising = false)) →
        (s.ntm.syncBest = none →
          Completes (.syncEdge rising) s fun t => t = s.setNtm { s.ntm with syncBest := some s.syncError })
        ∧ (∀ b, s.ntm.syncBest = some b →
          Completes (.syncEdge rising) s fun t =>
            t.ntm.syncBest = some (if s.syncError.natAbs < b.natAbs then s.syncError else b)
            ∧ t.regN (A.ntmCtr 6) = (s.regN (A.ntmCtr 6) + 1) % 2 ^ 32
            ∧ s.sameRegsBut t [A.ntmCtr 6] ∧ s.sameMemory t))
    ∧ (s.comUp = true → s.tb.run ≠ .stopped →
        (s.fld F.ntmStatSyncst = 2 → s.ntm.syncBest = none →
          Completes .syncRound s fun t =>
            t.regN A.ntmSyncerr = 0x80000000 ∧ t.regN (A.ntmCtr 5) = (s.regN (A.ntmCtr 5) + 1) % 2 ^ 32
            ∧ (s.ntm.syncMiss + 1 < s.fld F.ntmSynccfgMissn →
                t.fld F.ntmStatSyncst = 2 ∧ t.ntm.syncMiss = s.ntm.syncMiss + 1)
            ∧ (s.fld F.ntmSynccfgMissn ≤ s.ntm.syncMiss + 1 →
                t.fld F.ntmStatSyncst = 3 ∧ t.flag F.ntmIntstatSyncloss = true)
            ∧ t.ntm.time = s.ntm.time ∧ s.sameMemory t)
        ∧ (∀ e : Int, s.fld F.ntmStatSyncst = 2 → s.ntm.syncBest = some e → e.natAbs ≤ s.fld F.ntmSyncwinUs * 1000 →
            s.fld F.ntmStatSrcact = 2 → s.stampInFlight = false →
          Completes .syncRound s fun t =>
            let lim : Int := s.fld F.ntmSynccfgSlew * 1000
            let c := max (-lim) (min lim e)
            t.ntm.slewRem = nsUnits (-c) ∧ t.ntm.syncPrev = some (e, c) ∧ t.ntm.syncMiss = 0 ∧ t.ntm.syncBest = none
            ∧ t.regN A.ntmSyncerr = ofSigned 32 e ∧ t.fld F.ntmStatSyncst = 2
            ∧ t.regN (A.ntmCtr 4) = (s.regN (A.ntmCtr 4) + 1) % 2 ^ 32 ∧ t.ntm.time = s.ntm.time ∧ s.sameMemory t)
        ∧ (∀ e : Int, s.fld F.ntmStatSyncst = 1 → s.flag F.ntmSynccfgAutolearn = false → s.ntm.syncBest = some e →
            e.natAbs ≤ s.fld F.ntmSyncwinUs * 1000 → within100us (e :: s.ntm.syncRun) = true →
          Completes .syncRound s fun t =>
            (s.fld F.ntmSynccfgAcqn ≤ s.ntm.syncRun.length + 1 →
              t.fld F.ntmStatSyncst = 2 ∧ t.flag F.ntmIntstatSynclock = true ∧ t.flag F.ntmStatValid = true)
            ∧ (s.ntm.syncRun.length + 1 < s.fld F.ntmSynccfgAcqn →
              t.fld F.ntmStatSyncst = 1 ∧ t.ntm.syncRun = e :: s.ntm.syncRun)
            ∧ t.ntm.time = s.ntm.time ∧ s.sameMemory t))
    ∧ (s.comUp = true → s.tb.run = .stopped → s.pw.boot ≠ .startup → s.pw.boot ≠ .held →
        Completes .tmbMakeup s fun t =>
          let n := s.tb.lfCycles * s.regN A.pmuLfratio
          t.tb.now = (s.tb.now * 65536 + s.tb.frac + n) / 65536 % 2 ^ 64 ∧ t.tb.lfCycles = 0
          ∧ t.ntm.time = ntmWrap ((s.ntm.time + n * s.ntm.inc / 2 ^ 16 : Nat) : Int)
          ∧ (s.flag F.pmuStatXrefrdy = true → t.tb.run = .ref ∧ t.tb.frac = 0 ∧ t.flag F.tmbStatLf = false)
          ∧ (s.flag F.pmuStatXrefrdy = false → t.tb.run = .lf ∧ t.flag F.tmbStatLf = true) ∧ s.sameMemory t)

/-- Messages in the journal (R330-R344, R364). -/
def Obligations.JournalMessages : Prop :=
  ∀ s : State,
    (∀ (w : Word) (f : Flow), s.comUp = true → s.running = true → w.toNat % 8 = 0 →
        let b := s.bytes w.toNat 16
        leAt b 12 4 % 8 = 0 → s.jFlow (leAt b 0 2) = some f →
        (s.subCode b false = .pending →
          Completes (.jrnSubmit false w) s fun t =>
            let payload := s.bytes (leAt b 12 4) (leAt b 8 2)
            let dl := (s.round0 + 1 + leAt b 2 2) % 2 ^ 32
            t.jrn.commits = s.jrn.commits ++
              [{ record := jrnRecord 1 (leAt b 0 2) s.jrn.jseq (leAt b 4 4) dl
                    (acceptBody f.epoch 2 (ecrcOf f.flow f.epoch (leAt b 4 4) f.origin dl payload) 0 payload),
                 what := .submit (leAt b 10 2) none }]
            ∧ t.jrn.jseq = s.jrn.jseq + 1 ∧ t.regN A.jrnSubstat = 2 ^ 16 * Status.pending.code + leAt b 10 2
            ∧ t.jrn.msgs = s.jrn.msgs ∧ s.sameRegsBut t [A.jrnSubstat] ∧ s.sameMemory t)
        ∧ (s.subCode b false ≠ .pending →
          Completes (.jrnSubmit false w) s fun t =>
            t.jrn = s.jrn ∧ t.regN A.jrnSubstat = 2 ^ 16 * (s.subCode b false).code + leAt b 10 2
            ∧ t.flag F.jrnIntstatSubdone = true ∧ s.sameRegsBut t [A.jrnSubstat, A.jrnIntstat] ∧ s.sameMemory t))
    ∧ (∀ (o : Origin) (p : List Byte), s.takes o 0x20 p → p.length = 16 + leAt p 8 2 → leAt p 12 4 = 0 →
        (s.subCode p false = .pending →
          Completes (.msgSend o p) s fun t =>
            (∃ c, t.jrn.commits = s.jrn.commits ++ [c] ∧ c.what = .submit (leAt p 10 2) (some o) ∧ recType c.record = 1
              ∧ recFidx c.record = leAt p 0 2) ∧ s.sameMemory t)
        ∧ (s.subCode p false ≠ .pending →
          Completes (.msgSend o p) s fun t =>
            t.jrn = s.jrn ∧ t.responded o (rspPayload 0x20 (s.subCode p false) (leBytes 4 0 ++ leBytes 2 (leAt p 10 2) ++ [0, 0]))
            ∧ s.sameMemory t))
    ∧ (∀ c rest, s.comUp = true → s.jrn.commits = c :: rest → s.canWrite c.record = true →
        let j := recJseq c.record
        (s.jrnBuffered = true →
          Completes .commitDone s fun t =>
            t.jrn.mirror0 = s.jrn.mirror0.map (· ++ [c.record]) ∧ t.jrn.mirror1 = s.jrn.mirror1.map (· ++ [c.record])
            ∧ t.jrn.page = s.jrn.page ∧ t.flash = s.flash)
        ∧ (s.jrnBuffered = false → s.jrnWaiting = [] → s.jrnCopy 0 = true → s.jrnCopy 1 = true → c.record.length ≤ 240 →
            s.jrn.page < 16384 → s.flc.redirect = none → s.flc.junk = [] → s.flc.junkUnits = [] →
          Completes .commitDone s fun t =>
            (∀ k, k < 2 → t.flashBytes (pageOff k s.jrn.page) 256 = pageBytes s.jrn.pseq j false [c.record])
            ∧ t.jrn.page = (s.jrn.page + 1) % 16384 ∧ t.jrn.ready = s.jrn.ready - 1
            ∧ t.regN A.jrnCommitted = max (s.regN A.jrnCommitted) j)
        ∧ (∀ tag, c.what = .submit tag none → tag < 65536 →
          Completes .commitDone s fun t =>
            (∃ m ∈ t.jrn.msgs, m.jseq = j) ∧ t.regN A.jrnSubjseq = j
            ∧ t.fld F.jrnSubstatResult = Status.accepted.code ∧ t.flag F.jrnIntstatSubdone = true
            ∧ t.regN (A.jrnCtr 0) = (s.regN (A.jrnCtr 0) + 1) % 2 ^ 32)
        ∧ (∀ h, c.what = .custody h →
          Completes .commitDone s fun t =>
            (∃ m ∈ t.jrn.msgs, m.jseq = j) ∧ t.regN (A.jrnCtr 1) = (s.regN (A.jrnCtr 1) + 1) % 2 ^ 32)
        ∧ (∀ k m, c.what = .forwarded k → s.jMsg k = some m →
          Completes .commitDone s fun t =>
            t.jMsg k = none ∧ t.regN (A.jrnCtr 2) = (s.regN (A.jrnCtr 2) + 1) % 2 ^ 32)
        ∧ (∀ k, c.what = .released k none →
          Completes .commitDone s fun t =>
            t.jMsg k = none ∧ t.jrn.commits = rest ∧ t.fld F.jrnRelstatResult = Status.ok.code
            ∧ t.flag F.jrnIntstatReldone = true ∧ t.regN (A.jrnCtr 3) = (s.regN (A.jrnCtr 3) + 1) % 2 ^ 32)
        ∧ (∀ k x, c.what = .flowOpen k none → s.jFlow k = some x →
          Completes .commitDone s fun t =>
            t.jFlow k = some { x with ready := true } ∧ t.jrn.commits = rest
            ∧ t.regN A.jrnFlowstat = 2 ^ 16 * Status.ok.code + k % 4096 ∧ t.flag F.jrnIntstatFlowdone = true))
    ∧ (s.comUp = true → 240 ≤ s.jrnWaitBytes → s.jrnRoomFor (packPages s.jrnWaiting []).length = true →
        Completes .bufferFlush s fun t =>
          let n := (packPages s.jrnWaiting []).length
          t.jrnWaiting = [] ∧ t.jrn.page = (s.jrn.page + n) % 16384 ∧ t.jrn.ready = s.jrn.ready - n
          ∧ t.jrn.used = s.jrn.used + n ∧ t.jrn.msgs = s.jrn.msgs)
    ∧ (∀ (h : Nat) (p : List Byte), s.comUp = true → s.running = true → s.hears h = true → dataBad p = false →
        s.flag F.jrnCfgEn = true →
        let flow := leAt p 2 2
        let origin := leAt p 10 8
        s.roundReached (leAt p 18 4) = false →
        (∀ f, s.entryOf 2 origin flow = none → s.freeFidx = some f → s.jrnQuota ((p.drop 28).take (leAt p 22 2)).length = false →
            s.dataHere flow ((p.drop 28).take (leAt p 22 2)) = false →
          Completes (.custodyData h p) s fun t =>
            (∃ c d, t.jrn.commits = s.jrn.commits ++ [c, d] ∧ recType c.record = 6 ∧ recType d.record = 1
              ∧ d.what = .custody h ∧ recFidx d.record = f)
            ∧ (∃ x, t.jFlow f = some x ∧ x.role = 2 ∧ x.flow = flow ∧ x.origin = origin ∧ x.epoch = leAt p 4 2)
            ∧ s.sameRegsBut t [] ∧ s.sameMemory t)
        ∧ (∀ f x, s.entryOf 2 origin flow = some (f, x) → x.epoch = leAt p 4 2 → seqAfter (leAt p 6 4) x.seq = false →
          Completes (.custodyData h p) s fun t =>
            t.jrn = s.jrn ∧ t.regN (A.jrnCtr 4) = (s.regN (A.jrnCtr 4) + 1) % 2 ^ 32 ∧ s.sameMemory t))
    ∧ (∀ (h : Nat) (p : List Byte) (m : Msg), s.comUp = true → s.running = true → s.hears h = true → cackBad p = false →
        s.flag F.jrnCfgEn = true → s.outstanding p = some m →
        (leAt p 18 2 = Status.accepted.code →
          Completes (.cack h p) s fun t =>
            (∃ c, t.jrn.commits = s.jrn.commits ++ [c] ∧ c.what = .forwarded m.jseq ∧ recType c.record = 2
              ∧ recFidx c.record = m.fidx % 65536)
            ∧ (∀ x ∈ t.jrn.msgs, x.jseq = m.jseq → x.settling = true) ∧ s.sameRegsBut t [] ∧ s.sameMemory t)
        ∧ (leAt p 18 2 = Status.quota.code → Completes (.cack h p) s fun t => t = s))
    ∧ (∀ j m f c p i m' s' s'', s.comUp = true → s.running = true → s.jMsg j = some m → s.mayTransmit m = true →
        s.jFlow m.fidx = some f → s.msgHop m = .peer c p → s.upLink c p = some i → s.composeMsg f m p = (m', s') →
        s'.postDesc (s'.msgDesc i m') false true = (.pending, s'') →
        Completes (.retransmit j) s fun t =>
          (∀ x ∈ t.jrn.msgs, x.jseq = j → x.posted = true ∧ x.tries = m.tries + 1 ∧ x.nextHop = some (c, p) ∧ x.due = none)
          ∧ (m.tries ≠ 0 → t.regN (A.jrnCtr 7) = (s.regN (A.jrnCtr 7) + 1) % 2 ^ 32) ∧ s.sameMemory t)
    ∧ (∀ j m f tgt b, s.comUp = true → s.running = true → s.jMsg j = some m → s.jFlow m.fidx = some f →
        s.msgHop m = .here tgt → s.dlvFree = some b → m.dlv = none → m.settling = false → s.dlvTurn m = true →
        s.targetRoom tgt (if (s.reportHome f m).isSome then 2 else 1) = true →
        Completes (.delivery j) s fun t =>
          (∀ x ∈ t.jrn.msgs, x.jseq = j → x.dlv = some tgt ∧ x.buf = some b)
          ∧ (tgt < 4 → t.fld (F.jrnDringwrIndex tgt) = (s.fld (F.jrnDringwrIndex tgt) + 1) % s.dringSize tgt % 2 ^ 12)
          ∧ (4 ≤ tgt → ∃ n ∈ t.hsl.notices, n.code = 0xC8 ∧ n.payload = dlvEntry f m b ++ m.payload)
          ∧ (∀ a, a < s.jrn.dlvBase + 256 * b ∨ s.jrn.dlvBase + 256 * b + m.payload.length ≤ a →
              (tgt < 4 → let e := 64 * s.fld (F.jrnDringbaseBase tgt) + 32 * s.fld (F.jrnDringwrIndex tgt)
                a < e ∨ e + 32 ≤ a) → t.byte a = s.byte a))
    ∧ (∀ (j : Nat) (m : Msg), s.jMsg j = some m →
        (∀ w : Word, s.comUp = true → s.running = true → w.toNat = j → s.relCode j = .pending →
          Completes (.jrnRelease false w) s fun t =>
            (∃ c, t.jrn.commits = s.jrn.commits ++ [c] ∧ c.what = .released j none ∧ recType c.record = 3)
            ∧ (∀ x ∈ t.jrn.msgs, x.jseq = j → x.settling = true) ∧ t.fld F.jrnRelstatResult = Status.pending.code
            ∧ s.sameRegsBut t [A.jrnRelstat] ∧ s.sameMemory t)
        ∧ (∀ (o : Origin) (p : List Byte), s.takes o 0x21 p → p.length = 4 → leAt p 0 4 = j → s.relCode j = .pending →
          Completes (.msgRelease o p) s fun t =>
            (∃ c, t.jrn.commits = s.jrn.commits ++ [c] ∧ c.what = .released j (some o) ∧ recType c.record = 3)
            ∧ s.sameMemory t)
        ∧ (s.comUp = true → s.running = true → s.flag F.ntmStatValid = true → m.dlv = none → m.settling = false →
            s.roundReached m.deadline = true →
          Completes (.messageExpire j) s fun t =>
            (∃ c, t.jrn.commits = s.jrn.commits ++ [c] ∧ c.what = .expired j .expired true ∧ recType c.record = 4)
            ∧ (∀ x ∈ t.jrn.msgs, x.jseq = j → x.settling = true) ∧ s.sameRegsBut t [] ∧ s.sameMemory t))

/-- Flow commands, status, copies and wear (R331-R335, R348, R351, R352, R359, R363-R365). -/
def Obligations.JournalFlowsAndCopies : Prop :=
  ∀ s : State,
    (∀ w : Word, s.comUp = true → s.running = true → bitsOf w.toNat 12 16 = 0 →
        let i := bitsOf w.toNat 0 12
        (∀ f, let d := s.bytes (s.regN A.jrnFlowaddr) 32
            byteAt d 3 ≤ 4 → leAt d 0 2 ≠ 0xFFFF →
            s.jrn.flows.any (fun p => p.2.role == 1 && p.2.flow == leAt d 0 2 && !p.2.closed) = false → s.freeFidx = some f →
          Completes (.flowcmdOpen false w) s fun t =>
            (∃ x, t.jFlow f = some x ∧ x.role = 1 ∧ x.flow = leAt d 0 2 ∧ x.origin = s.eui
              ∧ x.epoch = (s.jrn.epoch + 1) % 65536 ∧ x.seq = 0 ∧ x.target = byteAt d 3 ∧ x.nextHop = leAt d 4 2
              ∧ x.ready = false)
            ∧ (∃ c, t.jrn.commits = s.jrn.commits ++ [c] ∧ c.what = .flowOpen f none ∧ recType c.record = 6)
            ∧ t.regN A.jrnFlowstat = 2 ^ 16 * Status.pending.code + f
            ∧ s.sameRegsBut t [A.jrnFlowstat] ∧ s.sameMemory t)
        ∧ (∀ x, s.jFlow i = some x → x.role ≠ 2 → x.ready = true →
          Completes (.flowcmdClose false w) s (fun t =>
            (∃ c, t.jrn.commits = s.jrn.commits ++ [c] ∧ c.what = .flowClose i none ∧ recType c.record = 7)
            ∧ t.regN A.jrnFlowstat = 2 ^ 16 * Status.pending.code + i ∧ t.jFlow i = some x
            ∧ s.sameRegsBut t [A.jrnFlowstat] ∧ s.sameMemory t)
          ∧ (x.closed = false → s.heldBy i = [] → s.flowCommits i = false → s.roundReached (x.lastDl + 120) = true →
            Completes (.flowcmdEpoch false w) s fun t =>
              (∃ c, t.jrn.commits = s.jrn.commits ++ [c] ∧ c.what = .flowEpoch i none ∧ recType c.record = 6
                ∧ leAt c.record 12 2 = (s.jrn.epoch + 1) % 65536)
              ∧ t.regN A.jrnFlowstat = 2 ^ 16 * Status.pending.code + i ∧ s.sameRegsBut t [A.jrnFlowstat] ∧ s.sameMemory t))
        ∧ (∀ x, s.jFlow i = some x →
          Completes (.flowcmdGet false w) s fun t =>
            t.regN A.jrnFlowstat = 2 ^ 16 * Status.ok.code + i ∧ t.flag F.jrnIntstatFlowdone = true ∧ t.jrn = s.jrn
            ∧ (s.stackHit (s.regN A.jrnFlowaddr) 32 = false → s.domainOn (addrDomain (s.regN A.jrnFlowaddr)) = true →
                region (s.regN A.jrnFlowaddr) = .mainSram → region (s.regN A.jrnFlowaddr + 31) = .mainSram →
                t.bytes (s.regN A.jrnFlowaddr) 32 = s.flowDesc i x)
            ∧ ∀ a, a < s.regN A.jrnFlowaddr ∨ s.regN A.jrnFlowaddr + 32 ≤ a → t.byte a = s.byte a))
    ∧ (∀ (o : Origin) (p : List Byte),
        (∀ f, s.takes o 0x22 p → p.length = 32 → allZero (p.drop 28) = true → byteAt p 3 ≤ 4 → leAt p 0 2 ≠ 0xFFFF →
            s.jrn.flows.any (fun q => q.2.role == 1 && q.2.flow == leAt p 0 2 && !q.2.closed) = false → s.freeFidx = some f →
          Completes (.flowOpen o p) s fun t =>
            (∃ x, t.jFlow f = some x ∧ x.role = 1 ∧ x.flow = leAt p 0 2 ∧ x.epoch = (s.jrn.epoch + 1) % 65536 ∧ x.seq = 0)
            ∧ (∃ c, t.jrn.commits = s.jrn.commits ++ [c] ∧ c.what = .flowOpen f (some o)) ∧ s.sameMemory t)
        ∧ (p.length = 4 → leAt p 2 2 = 0 → ∀ x, s.jFlow (leAt p 0 2) = some x →
            let f := leAt p 0 2
            (s.takes o 0x23 p → x.role ≠ 2 → x.ready = true →
              Completes (.flowClose o p) s fun t =>
                (∃ c, t.jrn.commits = s.jrn.commits ++ [c] ∧ c.what = .flowClose f (some o)) ∧ s.sameMemory t)
            ∧ (s.takes o 0x24 p → x.role ≠ 2 → x.ready = true → x.closed = false → s.heldBy f = [] → s.flowCommits f = false →
                s.roundReached (x.lastDl + 120) = true →
              Completes (.flowEpoch o p) s fun t =>
                (∃ c, t.jrn.commits = s.jrn.commits ++ [c] ∧ c.what = .flowEpoch f (some o)) ∧ s.sameMemory t)
            ∧ (s.takes o 0x25 p →
              Completes (.flowGet o p) s fun t =>
                t.responded o (rspPayload 0x25 .ok (s.flowDesc f x)) ∧ t.jrn = s.jrn ∧ s.sameMemory t))
        ∧ (s.takes o 0x26 p → p.length = 0 →
          Completes (.jrnStatus o p) s fun t =>
            t.responded o (rspPayload 0x26 .ok (leBytes 4 s.jrnStat ++ leBytes 4 (s.regN A.jrnCommitted)
              ++ leBytes 4 s.jrnBufstat ++ leBytes 4 s.jrnWear ++ leBytes 4 (s.regN A.jrnHoldres)))
            ∧ t.jrn = s.jrn ∧ s.sameMemory t)
        ∧ (s.takes o 0x27 p → p.length = 0 →
            (s.mode = 4 → s.jrn.holding = false →
              Completes (.holdTest o p) s fun t => t.jrn.holding = true ∧ t.jrn.holdHost = some o ∧ s.sameMemory t)
            ∧ (s.mode ≠ 4 →
              Completes (.holdTest o p) s fun t =>
                t.jrn = s.jrn ∧ t.responded o (rspPayload 0x27 .notPermitted []) ∧ s.sameMemory t)))
    ∧ (∀ f x, s.comUp = true → s.running = true → s.jFlow f = some x → s.heldBy f = [] → s.flowCommits f = false →
        s.roundReached (x.lastDl + 120) = true →
        (x.role = 2 →
          Completes (.flowFree f) s fun t =>
            t.jFlow f = none ∧ (∃ c, t.jrn.commits = s.jrn.commits ++ [c] ∧ c.what = .internal ∧ recType c.record = 7)
            ∧ s.sameRegsBut t [] ∧ s.sameMemory t)
        ∧ (x.role ≠ 2 → x.closed = true →
          Completes (.flowFree f) s fun t => t.jFlow f = none ∧ t.jrn.commits = s.jrn.commits
            ∧ s.sameRegsBut t [] ∧ s.sameMemory t))
    ∧ (s.comUp = true → s.jrnRoomFor 17 = true → s.jrn.ready + 32 ≤ 16384 →
        Completes .journalCheckpoint s fun t =>
          t.jrn.jseq = s.jrn.jseq + 1 ∧ t.jrn.msgs = s.jrn.msgs ∧ t.jrn.flows = s.jrn.flows
          ∧ (∀ k n, k < 2 → n < 4096 →
              Sparse.get (fun _ => (0xFF : Byte)) t.flash (pageOff k ((s.jrn.page + s.jrn.ready) % 16384 / 16 * 16) + n) = 0xFF))
    ∧ (s.jrn.dlvStaged = true →
        Completes .deliveryConfigApply s fun t =>
          t.jrn.dlvStaged = false ∧ t.jrn.dlvBase = 8 * s.fld F.jrnDlvbaseAddr ∧ t.jrn.dlvCount = s.fld F.jrnDlvcountCount
          ∧ (∀ m ∈ t.jrn.msgs, m.dlv.isSome = true → m.settling = true) ∧ s.sameRegsBut t [] ∧ s.sameMemory t)
    ∧ (∀ k st, s.comUp = true → k < 2 → s.jrnCopy k = true →
        Completes (.planeFail k st) s fun t =>
          t.jrnCopy k = false ∧ t.jrnCopy (1 - k) = s.jrnCopy (1 - k) ∧ t.flag F.jrnIntstatDegraded = true
          ∧ t.jrn.failed = k :: s.jrn.failed ∧ s.sameMemory t)
    ∧ (s.flag F.jrnWearOver = true → s.jrn.used * wearPage ≤ s.jrnAllow →
        Completes .wearoverClear s fun t => t = s.lower F.jrnWearOver)

/-- The Host Serial Link (R370-R391). -/
def Obligations.HostSerialLink : Prop :=
  ∀ s : State,
    (∀ (ep : Endpoint) (kc : Byte) (seq : Nat) (p : List Byte), s.hearsHost ep = true → p.length ≤ 4096 → seq < 65536 →
        let head := leBytes 2 p.length ++ [kc] ++ leBytes 2 seq ++ p
        (let frame := (0xD7 : Byte) :: (head ++ leBytes 4 (crc32c head))
         Completes (.hslFrame ep true frame) s (fun t => t = s.takeFrameIn ep kc.toNat seq p)
         ∧ Completes (.hslFrame ep false frame) s (fun t =>
              t.flag F.hslIntstatRxovf = true ∧ t.regN (A.hslCtr 4) = (s.regN (A.hslCtr 4) + 1) % 2 ^ 32
              ∧ s.sameRegsBut t [A.hslCtr 4, A.hslIntstat] ∧ s.sameMemory t))
        ∧ (∀ crc, crc < 2 ^ 32 → crc ≠ crc32c head →
            (∀ x ∈ head ++ leBytes 4 crc, x ≠ (0xD7 : Byte)) →
          Completes (.hslFrame ep true ((0xD7 : Byte) :: (head ++ leBytes 4 crc))) s fun t =>
            t.flag F.hslIntstatCrcerr = true ∧ t.regN (A.hslCtr 2) = (s.regN (A.hslCtr 2) + 1) % 2 ^ 32
            ∧ s.sameRegsBut t [A.hslCtr 2, A.hslIntstat] ∧ s.sameMemory t))
    ∧ (s.hsl.wake = false → s.comUp = true → s.running = true → s.pw.trans = none → 2 ≤ s.mode →
        Completes (.hslWake true) s fun t =>
          t.hsl.wake = true ∧ t.flag F.hslIntstatWake = true ∧ t.mode = s.mode
          ∧ (s.hsl.variant ≠ 1 → ∀ f ∈ s.hsl.waiting, f.ep = .loc → f ∈ t.hsl.out) ∧ s.sameMemory t)
    ∧ (Completes (.hslWake false) s fun t => t.hsl.wake = false ∧ t.pw = s.pw ∧ s.sameMemory t)
    ∧ (∀ ep ch q, (s.chan ep ch).last = some q → (s.chan ep ch).running = true → (s.chan ep ch).acked = false →
        (s.chan ep ch).since + 4000 ≤ s.tb.now →
        Completes (.hslAckTimer ep ch) s fun t =>
          (t.chan ep ch).acked = true ∧ (t.chan ep ch).running = true
          ∧ (let f : HslFrame := { ep := ep, kind := 4, ch := ch, seq := q, payload := [] }
             f ∈ t.hsl.out ∨ f ∈ t.hsl.waiting) ∧ s.sameMemory t)
    ∧ (∀ ep seq, s.hearsHost ep = true → ep ≠ .debug →
        Completes (.hslAck ep seq) s fun t =>
          t.hsl.notices = s.hsl.notices.filter (fun n => !(n.sent && n.seq == seq))
          ∧ (∀ l, s.hsl.lost = some l → l.sent = true → l.seq = seq → s.hsl.lostWait.count = 0 → t.hsl.lost = none)
          ∧ s.sameRegsBut t [A.hslCtr 0] ∧ s.sameMemory t)
    ∧ (s.sinkUp = true → s.inFlight < s.fld F.hslCfgNwin →
        (∀ n, s.hsl.lost = none → s.hsl.notices.find? (fun n => !n.sent) = some n →
          Completes .noticeSend s fun t =>
            (∃ x ∈ t.hsl.notices, x.seq = n.seq ∧ x.sent = true ∧ x.sentAt = s.tb.now)
            ∧ (let f : HslFrame := { ep := s.sink, kind := 3, ch := 15, seq := n.seq, payload := ntcPayload n.code n.payload }
               f ∈ t.hsl.out ∨ f ∈ t.hsl.waiting) ∧ s.sameMemory t)
        ∧ (∀ l, s.hsl.lost = some l → l.sent = false → s.hsl.notices.find? (fun n => !n.sent) = none →
          Completes .noticeSend s fun t =>
            (∃ x, t.hsl.lost = some x ∧ x.seq = l.seq ∧ x.sent = true)
            ∧ (let f : HslFrame := { ep := s.sink, kind := 3, ch := 15, seq := l.seq, payload := ntcPayload 0xC1 l.sum.payload }
               f ∈ t.hsl.out ∨ f ∈ t.hsl.waiting) ∧ s.sameMemory t))
    ∧ (∀ seq n, s.sinkUp = true → s.dueNotice seq = some n →
        Completes (.noticeRetransmit seq) s fun t =>
          t.regN (A.hslCtr 5) = (s.regN (A.hslCtr 5) + 1) % 2 ^ 32
          ∧ (let f : HslFrame := { ep := s.sink, kind := 3, ch := 15, seq := seq, payload := ntcPayload n.code n.payload }
             f ∈ t.hsl.out ∨ f ∈ t.hsl.waiting)
          ∧ (∀ x ∈ t.hsl.notices, x.seq = seq → x.sentAt = s.tb.now) ∧ s.sameMemory t)
    ∧ (∀ (o : Origin) (p : List Byte), p.length = 0 →
        (s.takes o 0x10 p →
          Completes (.hslSync o p) s fun t =>
            (∀ c, c < 15 → (t.chan o.ep c).opened = true) ∧ t.flag F.hslIntstatSync = true
            ∧ t.responded o (rspPayload 0x10 .ok (leBytes 4 (s.regN A.rstCause) ++ leBytes 2 (s.fld F.rstRstcountCount)
              ++ leBytes 2 s.hsl.nseq ++ leBytes 4 (s.regN A.sysBootstat))) ∧ s.sameMemory t)
        ∧ (s.takes o 0x15 p →
          Completes (.hslStatus o p) s fun t =>
            t.responded o (rspPayload 0x15 .ok (leBytes 4 (s.taking o).hslStat ++ leBytes 4 (s.regN A.hslCfg)
              ++ leBytes 4 s.hslNqstat ++ ((List.range 8).map (fun k => leBytes 4 ((s.taking o).regN (A.hslCtr k)))).flatten))
            ∧ s.sameMemory t))
    ∧ (∀ f rest, s.hsl.variant = 1 → s.hsl.wake = true → s.comUp = true →
        s.hsl.waiting.filter (fun f => f.ep == .loc && s.mayFollow f) = f :: rest →
        Completes (.hslArbitration true) s (fun t =>
          t.hsl.lostArb = true ∧ t.hsl.waiting = s.hsl.waiting ∧ t.hsl.out = s.hsl.out
          ∧ t.regN (A.hslCtr 7) = (s.regN (A.hslCtr 7) + 1) % 2 ^ 32 ∧ s.sameRegsBut t [A.hslCtr 7] ∧ s.sameMemory t)
        ∧ Completes (.hslArbitration false) s (fun t =>
          t.hsl.out = s.hsl.out ++ [f] ∧ t.hsl.waiting = s.hsl.waiting.erase f
          ∧ t.regN (A.hslCtr 1) = (s.regN (A.hslCtr 1) + 1) % 2 ^ 32 ∧ s.sameRegsBut t [A.hslCtr 1] ∧ s.sameMemory t))
    ∧ (s.comUp = true →
        Completes .hslConfigApply s (fun t =>
          t.hsl.variant = s.fld F.hslCfgVariant ∧ t.hsl.rate = s.fld F.hslCfgRate ∧ t.hsl.uart = s.regN A.hslUartcfg
          ∧ s.sameMemory t)
        ∧ ∀ n, 4096 < n → Completes (.hslLengthDiscard n) s fun t => t = s.count (A.hslCtr 2))

/-- The interrupt controller (R506-R518). -/
def Obligations.Interrupts : Prop :=
  ∀ s : State,
    (∀ core id (level : Bool), irqAssigned id = true → core < 4 → s.comUp = true → id < 768 ∨ 863 < id →
        let k := irqKey core id
        let now := (s.irqOwnLevel core id).getD level
        (s.irqSense k = 0 → now = true → (s.irq k).pend = false → (s.irq k).act = false →
          Completes (.interruptSource core id level) s fun t =>
            (t.irq k).pend = true ∧ (t.irq k).level = true ∧ (t.irq k).edge = 0 ∧ (t.irq k).payload = s.irqPayload id now
            ∧ (s.tb.run ≠ .stopped → (t.irq k).time = s.tb.now % 2 ^ 32) ∧ s.sameRegsBut t [] ∧ s.sameMemory t)
        ∧ (s.irqSense k = 0 → now = false → (s.irq k).act = false →
          Completes (.interruptSource core id level) s fun t =>
            (t.irq k).pend = false ∧ (t.irq k).level = false ∧ s.sameRegsBut t [] ∧ s.sameMemory t)
        ∧ (s.irqSense k = 1 ∨ s.irqSense k = 3 → now = true → (s.irq k).level = false →
            ((s.irq k).pend = false →
              Completes (.interruptSource core id level) s fun t =>
                (t.irq k).pend = true ∧ (t.irq k).edge = 1 ∧ (t.irq k).merged = false ∧ (t.irq k).act = (s.irq k).act
                ∧ s.sameRegsBut t [] ∧ s.sameMemory t)
            ∧ ((s.irq k).pend = true →
              Completes (.interruptSource core id level) s fun t =>
                (t.irq k).pend = true ∧ (t.irq k).merged = true ∧ (t.irq k).time = (s.irq k).time
                ∧ t.regN (A.icuCtr (s.irqTarget k) 1) = (s.regN (A.icuCtr (s.irqTarget k) 1) + 1) % 2 ^ 32
                ∧ s.sameRegsBut t [A.icuCtr (s.irqTarget k) 1] ∧ s.sameMemory t))
        ∧ (s.irqSense k = 2 ∨ s.irqSense k = 3 → now = false → (s.irq k).level = true → (s.irq k).pend = false →
          Completes (.interruptSource core id level) s fun t =>
            (t.irq k).pend = true ∧ (t.irq k).edge = 2 ∧ s.sameRegsBut t [] ∧ s.sameMemory t))
    ∧ (∀ core k, s.icuUp core = true → s.irqWinner core = some k →
        let a := (s.bank core).base + 16 * s.fld (F.icuRingwrIndex core)
        (s.ringFull core = false → addrExists a = true → s.domainOn (addrDomain a) = true → s.stackHit a 16 = false →
          Completes (.presentation core) s fun t =>
            (t.irq k).act = true ∧ (t.irq k).pend = false
            ∧ (t.bank core).stack = (s.irqPrio k, k) :: (s.bank core).stack
            ∧ t.fld (F.icuRingwrIndex core)
              = (s.fld (F.icuRingwrIndex core) + 1) % ringEntries (s.bank core).size % 2 ^ 12
            ∧ t.regN (A.icuSeq core) = (s.regN (A.icuSeq core) + 1) % 2 ^ 32
            ∧ ((∀ j, j < 16 → region (a + j) = .mainSram ∨ region (a + j) = .retained) →
                t.bytes a 16 = irqRecord (irqId k) (s.irqPrio k) (s.regN (A.icuSeq core)) (s.irq k)
                  (irqAon (irqId k) && !s.comUp && decide (64 ≤ k) && decide (k < 1024)))
            ∧ ∀ b, b < a ∨ a + 16 ≤ b → t.byte b = s.byte b)
        ∧ (s.ringFull core = true →
          Completes (.presentation core) s fun t =>
            t.flag (F.icuIntstatRingfull core) = true ∧ t.icu = s.icu
            ∧ t.regN (A.icuCtr core 2) = (s.regN (A.icuCtr core 2) + 1) % 2 ^ 32
            ∧ s.sameRegsBut t [A.icuIntstat core, A.icuCtr core 2] ∧ s.sameMemory t))
    ∧ (∀ core (w : Word) p k rest, s.icuUp core = true → (s.bank core).stack = (p, k) :: rest →
        (irqId k = bitsOf w.toNat 0 11 →
          Completes (.eoi false core w) s fun t =>
            (t.irq k).act = false ∧ (t.bank core).stack = rest
            ∧ (s.irqSense k = 0 → (s.irqOwnLevel core (irqId k)).getD (s.irq k).level = true → (t.irq k).pend = true)
            ∧ (s.irqSense k ≠ 0 → (t.irq k).pend = (s.irq k).pend) ∧ s.sameRegsBut t [] ∧ s.sameMemory t)
        ∧ (irqId k ≠ bitsOf w.toNat 0 11 →
          Completes (.eoi false core w) s fun t =>
            t.flag (F.icuIntstatEoierr core) = true ∧ t.irq k = s.irq k ∧ (t.bank core).stack = (s.bank core).stack
            ∧ s.sameRegsBut t [A.icuIntstat core] ∧ s.sameMemory t))
    ∧ (∀ core writer (w : Word), core < 4 → s.comUp = true →
        let k := irqKey core (bitsOf w.toNat 0 5)
        (s.irq k).pend = false →
        Completes (.doorbell false core writer w) s fun t =>
          (t.irq k).pend = true ∧ (t.irq k).edge = 1 ∧ (t.irq k).payload = (if writer < 5 then writer else 7)
          ∧ s.sameRegsBut t [] ∧ s.sameMemory t)
    ∧ (∀ w : Word, s.comUp = true → 64 ≤ bitsOf w.toNat 0 10 → bitsOf w.toNat 0 10 < 960 →
        let k := bitsOf w.toNat 0 10
        (irqAssigned k = true → (s.irq k).pend = false →
          Completes (.swset false w) s fun t =>
            (t.irq k).pend = true ∧ (t.irq k).edge = 1 ∧ s.sameRegsBut t [] ∧ s.sameMemory t)
        ∧ Completes (.swclr false w) s (fun t =>
            (t.irq k).pend = false ∧ (t.irq k).act = (s.irq k).act ∧ (t.irq k).level = (s.irq k).level
            ∧ s.sameRegsBut t [] ∧ s.sameMemory t))
    ∧ (∀ core, s.icuUp core = true →
        (∀ w : Word,
          Completes (.icuRingRead false core w) s fun t =>
            t.fld (F.icuRingrdIndex core) = bitsOf w.toNat 0 12 ∧ t.icu = s.icu
            ∧ s.sameRegsBut t [A.icuRingrd core] ∧ s.sameMemory t)
        ∧ ((s.bank core).staged = true →
          Completes (.icuRingConfig core) s fun t =>
            (t.bank core).base = 64 * s.fld (F.icuRingbaseBase core)
            ∧ (t.bank core).enabled = s.flag (F.icuRingcfgEn core) ∧ (t.bank core).size = s.fld (F.icuRingcfgSize core)
            ∧ (t.bank core).staged = false ∧ t.fld (F.icuRingwrIndex core) = 0 ∧ t.fld (F.icuRingrdIndex core) = 0
            ∧ s.sameRegsBut t [A.icuRingwr core, A.icuRingrd core] ∧ s.sameMemory t))

/-- Edges, firings and groups (R520-R530). -/
def Obligations.EventFabric : Prop :=
  ∀ s : State,
    (∀ code (level : Bool), externalProducer code = true → s.prodHeld code = false → (0x60 < code ∨ s.padDriven (code - 1) = none) →
        s.evf.high.contains code = (!level) →
        Completes (.eventEdge code level) s fun t =>
          t.evf.high.contains code = level ∧ t.evf.groups = s.evf.groups
          ∧ (∀ m i sense, m < 256 → i < 32 → s.comUp = true → bitAt (s.chCfg m) 31 = true → bitsOf (s.chCfg m) 0 10 = code →
              s.prodGated code = false → bitAt s.evf.main m = (!level) → s.chPass m = true → bitAt s.evf.out m = (!level) →
              s.evInputCfg i = (true, sense, m) → sensePasses sense level = true → s.inputHeld i m = false →
              (s.evInput i).req = none → (t.evInput i).req = some s.evStamp)
          ∧ s.sameMemory t)
    ∧ (s.comUp = true →
        (∀ (w : Word) m, m = bitsOf w.toNat 0 8 →
          ((bitAt (s.chCfg m) 31 = false ∨ bitAt s.evf.main m = true) →
            Completes (.fire false w) s fun t =>
              t.regN A.evfFirelost = (s.regN A.evfFirelost + 1) % 2 ^ 32 ∧ t.flag F.evfFlagsFirelost = true ∧ s.sameMemory t)
          ∧ (bitAt (s.chCfg m) 31 = true → bitAt s.evf.main m = false → bitAt s.evf.out m = false → s.chPass m = true →
            Completes (.fire false w) s fun t =>
              (∀ i sense, i < 32 → s.evInputCfg i = (true, sense, m) → sensePasses sense true = true → s.inputHeld i m = false →
                (s.evInput i).req = none → (t.evInput i).req = some s.evStamp)
              ∧ t.regN A.evfFirelost = s.regN A.evfFirelost ∧ s.sameMemory t))
        ∧ (∀ j (w : Word), j < 8 →
          Completes (.firem false j w) s fun t =>
            (∀ m i sense, m / 32 = j → bitAt w.toNat (m % 32) = true → bitAt (s.chCfg m) 31 = true →
              bitAt s.evf.main m = false → bitAt s.evf.out m = false → s.chPass m = true → i < 32 →
              s.evInputCfg i = (true, sense, m) → sensePasses sense true = true → s.inputHeld i m = false →
              (s.evInput i).req = none → (t.evInput i).req = some s.evStamp)
            ∧ s.sameMemory t)
        ∧ (∀ w : Word,
          (∀ g, g < 16 → w.toNat = 2 ^ g → bitAt s.evf.closing g = false →
            Completes (.grpset false w) s fun t =>
              bitAt t.evf.groups g = true ∧ (∀ h, h < 16 → h ≠ g → bitAt t.evf.groups h = bitAt s.evf.groups h)
              ∧ s.sameMemory t)
          ∧ Completes (.grpclr false w) s (fun t =>
              (∀ g, g < 16 → bitAt t.evf.groups g = (bitAt s.evf.groups g && !bitAt w.toNat g)) ∧ s.sameMemory t)))
    ∧ (∀ (w : Word) a, a = bitsOf w.toNat 0 8 → a < 64 →
        ((bitAt (s.aonCfg a) 31 = false ∨ bitAt s.evf.aon a = true) →
          Completes (.aonfire false w) s fun t => t.flag F.evfAonflagsFirelost = true ∧ t.evf = s.evf ∧ s.sameMemory t)
        ∧ (bitAt (s.aonCfg a) 31 = true → bitAt s.evf.aon a = false →
          Completes (.aonfire false w) s fun t =>
            (∀ i sense, i < 32 → s.comUp = true → s.evInputCfg i = (true, sense, 256 + a) → sensePasses sense true = true →
              s.inputHeld i (256 + a) = false → (s.evInput i).req = none → (t.evInput i).req = some s.evStamp)
            ∧ s.sameMemory t))
    ∧ (∀ g, g < 16 →
        (bitAt s.evf.opening g = true → bitAt s.evf.closing g = false →
          Completes (.groupEdge g) s fun t => bitAt t.evf.groups g = true
            ∧ (∀ h, h < 16 → h ≠ g → bitAt t.evf.groups h = bitAt s.evf.groups h) ∧ s.sameMemory t)
        ∧ (bitAt s.evf.closing g = true →
          Completes (.groupEdge g) s fun t => bitAt t.evf.groups g = false
            ∧ (∀ h, h < 16 → h ≠ g → bitAt t.evf.groups h = bitAt s.evf.groups h)
            ∧ (bitAt s.evf.opening g = true →
                t.regN A.evfGrptie = (s.regN A.evfGrptie + 1) % 2 ^ 32 ∧ t.flag F.evfFlagsGrptie = true)
            ∧ s.sameMemory t))

/-- The time base (R536-R550). -/
def Obligations.TimersAndCaptures : Prop :=
  ∀ s : State,
    (s.comUp = true →
        (∀ w : Word, bitAt w.toNat 0 = true →
          Completes (.tmbCapture false w) s fun t =>
            t.pair A.tmbNow0 A.tmbNow1 = s.tb.now % 2 ^ 64 ∧ t.tb = s.tb
            ∧ s.sameRegsBut t [A.tmbNow0, A.tmbNow1] ∧ s.sameMemory t)
        ∧ (∀ n, n < 96 → s.tb.run ≠ .stopped → s.flag (F.tmbCmpctlEn n) = true → s.cmp n ≤ s.tb.now → s.cmpHeld = false →
            let int_ := s.regN (A.tmbCmpint n)
            (s.flag (F.tmbCmpctlAuto n) = true → int_ ≠ 0 →
              Completes (.compareMatch n) s fun t =>
                t.cmp n = wrap64 (s.cmp n + int_ * (1 + (s.tb.now - s.cmp n) / int_)) ∧ t.flag (F.tmbCmpctlEn n) = true
                ∧ t.cmpFlagged n = true ∧ t.regN (A.tmbCtr 0) = (s.regN (A.tmbCtr 0) + 1) % 2 ^ 32
                ∧ t.flag (F.tmbCmpctlLate n) = decide (s.cmp n < s.tb.now) ∧ t.tb = s.tb ∧ s.sameMemory t)
            ∧ (s.flag (F.tmbCmpctlAuto n) = false →
              Completes (.compareMatch n) s fun t =>
                t.flag (F.tmbCmpctlEn n) = false ∧ t.cmp n = s.cmp n ∧ t.cmpFlagged n = true
                ∧ t.regN (A.tmbCtr 0) = (s.regN (A.tmbCtr 0) + 1) % 2 ^ 32 ∧ t.tb = s.tb ∧ s.sameMemory t))
        ∧ (∀ w : Word, let first := bitsOf w.toNat 0 7
            let last := bitsOf w.toNat 8 7
            bitAt w.toNat 31 = true → first ≤ last → last < 96 → s.regN A.tmbStagint ≠ 0 →
            Completes (.stagger false w) s fun t =>
              (∀ c, first ≤ c → c ≤ last →
                t.cmp c = wrap64 (s.pair A.tmbStagbase0 A.tmbStagbase1
                    + (c - first) * s.regN A.tmbStagint / (last - first + 1))
                ∧ t.regN (A.tmbCmpint c) = s.regN A.tmbStagint ∧ t.flag (F.tmbCmpctlEn c) = true
                ∧ t.flag (F.tmbCmpctlAuto c) = true)
              ∧ (∀ c, c < 96 → c < first ∨ last < c →
                t.cmp c = s.cmp c ∧ t.regN (A.tmbCmpint c) = s.regN (A.tmbCmpint c)
                ∧ t.regN (A.tmbCmpctl c) = s.regN (A.tmbCmpctl c)) ∧ s.sameMemory t)
        ∧ (∀ n, n < 96 →
            (∀ w : Word,
              Completes (.cmphiWrite false n w) s fun t =>
                t.cmp n = ((Sparse.find? s.tb.cmpStage n).getD (s.regN (A.tmbCmplo n)) + 2 ^ 32 * w.toNat) % 2 ^ 64
                ∧ Sparse.find? t.tb.cmpStage n = none ∧ t.tb.now = s.tb.now
                ∧ s.sameRegsBut t [A.tmbCmplo n, A.tmbCmphi n] ∧ s.sameMemory t)
            ∧ Completes (.cmploRead n) s (fun t =>
                t.busData = s.reg (A.tmbCmplo n) ∧ t.busError = false
                ∧ Sparse.find? t.tb.cmpLatch n = some (s.regN (A.tmbCmphi n)) ∧ s.sameRegsBut t [] ∧ s.sameMemory t))
        ∧ (∀ c, c < 32 →
            Completes (.capstatRead c) s fun t =>
              t.busData = s.reg (A.tmbCapstat c) ∧ t.busError = false ∧ t.flag (F.tmbCapstatValid c) = false
              ∧ t.flag (F.tmbCapstatOvr c) = false ∧ t.pair (A.tmbCaplo c) (A.tmbCaphi c) = (s.capUnit c).val % 2 ^ 64
              ∧ s.sameRegsBut t [A.tmbCapstat c, A.tmbCaplo c, A.tmbCaphi c] ∧ s.sameMemory t)
        ∧ (∀ n, n < 16 →
            Completes (.pmstatRead n) s (fun t =>
              t.busData = s.reg (A.tmbPmstat n) ∧ t.busError = false ∧ t.flag (F.tmbPmstatDone n) = false
              ∧ t.flag (F.tmbPmstatOvr n) = false ∧ t.regN (A.tmbPmwidth n) = (s.pmUnit n).width % 2 ^ 32
              ∧ t.regN (A.tmbPmstart n) = (s.pmUnit n).result % 2 ^ 32
              ∧ s.sameRegsBut t [A.tmbPmstat n, A.tmbPmwidth n, A.tmbPmstart n] ∧ s.sameMemory t)
            ∧ Completes (.pmctlDisable false n) s (fun t =>
              t.flag (F.tmbPmctlEn n) = false ∧ t.flag (F.tmbPmstatOpen n) = false ∧ (t.pmUnit n).start = none
              ∧ s.sameRegsBut t [A.tmbPmstat n, A.tmbPmctl n] ∧ s.sameMemory t)))
    ∧ (s.tb.run ≠ .stopped → s.comUp = false →
        Completes .tmbStop s fun t =>
          t.tb.run = .stopped ∧ t.tb.lfCycles = 0 ∧ t.tb.now = s.tb.now ∧ s.sameRegsBut t [] ∧ s.sameMemory t)
    ∧ (s.tb.run = .lf → s.flag F.pmuStatXrefrdy = true →
        Completes .tmbResume s fun t =>
          t.tb.run = .ref ∧ t.tb.frac = 0 ∧ t.tb.now = s.tb.now ∧ t.flag F.tmbStatLf = false
          ∧ s.sameRegsBut t [A.tmbStat] ∧ s.sameMemory t)
    ∧ (∀ c x, c < 32 → s.evDue c = true → (s.evInput c).req = some x →
        Completes (.consumerAccept c) s fun t =>
          t.capUnit c = { val := x.tick, lf := x.lf } ∧ t.flag (F.tmbCapstatValid c) = true
          ∧ t.regN (A.tmbCtr 3) = (s.regN (A.tmbCtr 3) + 1) % 2 ^ 32
          ∧ (s.flag (F.tmbCapstatValid c) = true → t.flag (F.tmbCapstatOvr c) = true)
          ∧ (t.evInput c).req = (s.evInput c).mem ∧ (t.evInput c).mem = none ∧ s.sameMemory t)
    ∧ (∀ n, n < 16 → s.flag (F.tmbPmctlEn n) = true →
        (∀ x, s.evDue (32 + 2 * n) = true → s.evDue (33 + 2 * n) = false → (s.evInput (32 + 2 * n)).req = some x →
            (s.pmUnit n).start = none →
          Completes (.consumerAccept (32 + 2 * n)) s fun t =>
            (t.pmUnit n).start = some x.tick ∧ t.flag (F.tmbPmstatOpen n) = true ∧ s.sameMemory t)
        ∧ (∀ t0 x, s.evDue (33 + 2 * n) = true → s.evDue (32 + 2 * n) = false → (s.evInput (33 + 2 * n)).req = some x →
            (s.pmUnit n).start = some t0 →
          Completes (.consumerAccept (33 + 2 * n)) s fun t =>
            (t.pmUnit n).width = min (wrap64 (x.tick + 2 ^ 64 - t0)) 0xFFFFFFFF ∧ (t.pmUnit n).start = none
            ∧ (t.pmUnit n).result = t0 % 2 ^ 32 ∧ t.flag (F.tmbPmstatDone n) = true
            ∧ t.regN (A.tmbCtr 5) = (s.regN (A.tmbCtr 5) + 1) % 2 ^ 32 ∧ s.sameMemory t))

/-- The snapshot (R546-R548, R553). -/
def Obligations.CounterSnapshot : Prop :=
  ∀ s : State,
    (∀ w : Word, s.comUp = true → bitAt w.toNat 0 = true → s.snp.last ≠ some s.tb.now →
        s.snp.frozen.find? (fun b => b.tick == s.tb.now) = none →
        let k := if s.snp.gen = 0 then 0 else 1 - s.fld F.snpStatNewest
        (s.flag F.snpStatFilling = false → bitAt (s.fld F.snpHoldHeld) k = false →
          Completes (.snapshotTake false w) s fun t =>
            (t.snpBank k).gen = (s.snp.gen + 1) % 2 ^ 32 ∧ (t.snpBank k).tick = s.tb.now ∧ (t.snpBank k).ntm = s.ntmNs
            ∧ (t.snpBank k).round = s.round0 ∧ (t.snpBank k).vals = s.snapAll ∧ t.snpBank (1 - k) = s.snpBank (1 - k)
            ∧ t.flag F.snpStatFilling = true ∧ t.fld F.snpStatNewest = k ∧ s.sameRegsBut t [A.snpStat] ∧ s.sameMemory t)
        ∧ (s.flag F.snpStatFilling = true ∨ bitAt (s.fld F.snpHoldHeld) k = true →
          Completes (.snapshotTake false w) s fun t =>
            t.snp = s.snp ∧ t.regN A.snpMisscnt = (s.regN A.snpMisscnt + 1) % 2 ^ 32 ∧ t.flag F.snpIntstatMissed = true
            ∧ s.sameRegsBut t [A.snpMisscnt, A.snpIntstat] ∧ s.sameMemory t))
    ∧ (s.flag F.snpStatFilling = true → s.snp.readers = [] →
        Completes .snapshotFillDone s fun t =>
          t.flag F.snpStatFilling = false ∧ t.flag F.snpIntstatDone = true ∧ t.snp = s.snp
          ∧ s.sameRegsBut t [A.snpStat, A.snpIntstat] ∧ s.sameMemory t)
    ∧ (∀ (o : Origin) (p : List Byte), s.takes o 0x63 p → p.length = 8 → 1 ≤ byteAt p 0 → byteAt p 0 ≤ 2 → byteAt p 1 < 2 →
        1 ≤ leAt p 4 2 → leAt p 4 2 ≤ 250 → leAt p 2 2 + leAt p 4 2 ≤ 9459 → allZero (p.drop 6) = true →
        let b := s.snpBank (byteAt p 0 - 1)
        b.gen ≠ 0 →
        Completes (.snapRead o p) s fun t =>
          t.responded o (rspPayload 0x63 .ok (leBytes 4 b.gen ++ leBytes 8 b.tick ++ leBytes 8 b.ntm
            ++ b.read (leAt p 2 2) (leAt p 4 2)))
          ∧ (byteAt p 1 = 1 → bitAt (t.fld F.snpHoldHeld) (byteAt p 0 - 1) = true)
          ∧ (byteAt p 1 = 0 → t.fld F.snpHoldHeld = s.fld F.snpHoldHeld) ∧ t.snp = s.snp ∧ s.sameMemory t)

/-- DALI, dimming and metering (R561-R567). -/
def Obligations.DaliDimmingAndMetering : Prop :=
  ∀ s : State,
    (∀ i, s.daliOn i = true →
        (∀ w : Word, let n := w.toNat
            bitAt n 31 = true → txcmdOk n = true → (s.dali i).tx = none →
          Completes (.daliSend i false w) s fun t =>
            (∃ x, (t.dali i).tx = some x ∧ x.data = bitsOf (s.regN (A.daliTxdata i)) 0 (bitsOf n 0 6)
              ∧ x.size = bitsOf n 0 6 ∧ x.prio = bitsOf n 8 3 ∧ x.ans = bitAt n 11 ∧ x.sending = false
              ∧ (x.prio ≠ 0 → msTenths (settleWindow x.prio).1 ≤ x.wait ∧ x.wait ≤ msTenths (settleWindow x.prio).2))
            ∧ t.flag (F.daliStatTxbusy i) = true ∧ s.sameMemory t)
        ∧ (∀ x, (s.dali i).tx = some x →
            (x.sending = false → s.flag (F.daliStatBusfail i) = false →
              (x.prio ≠ 0 →
                Completes (.daliFrameStart i) s fun t =>
                  (t.dali i).tx = some { x with sending := true } ∧ t.flag (F.daliStatIdle i) = false
                  ∧ s.sameRegsBut t [A.daliStat i] ∧ s.sameMemory t)
              ∧ (x.prio = 0 → (s.dali i).forward = none →
                Completes (.daliFrameStart i) s fun t =>
                  (t.dali i).tx = none ∧ t.fld (F.daliStatResult i) = Status.missed.code
                  ∧ t.flag (F.daliIntstatTxdone i) = true ∧ s.sameMemory t)
              ∧ (∀ e, x.prio = 0 → (s.dali i).forward = some e → e + 220000 ≤ s.tb.now → s.tb.now < e + 420000 →
                Completes (.daliFrameStart i) s fun t => (t.dali i).tx = some { x with sending := true } ∧ s.sameMemory t))
            ∧ (x.sending = true →
              (Completes (.daliTxDone i) s fun t =>
                (t.dali i).tx = none ∧ t.fld (F.daliStatResult i) = Status.ok.code ∧ t.flag (F.daliIntstatTxdone i) = true
                ∧ ((s.dali i).rx.length < 8 →
                    (t.dali i).rx = (s.dali i).rx ++ [{ data := x.data, bits := x.size, err := false }])
                ∧ (x.prio ≠ 0 → x.ans = true → (t.dali i).window = some s.tb.now) ∧ s.sameMemory t)
              ∧ Completes (.daliCollision i) s (fun t =>
                (t.dali i).tx = none ∧ t.fld (F.daliStatResult i) = Status.collision.code
                ∧ t.flag (F.daliIntstatCollision i) = true ∧ (t.dali i).rx = (s.dali i).rx ∧ s.sameMemory t))
            ∧ Completes (.daliBusfail i true) s (fun t =>
                (t.dali i).tx = none ∧ t.fld (F.daliStatResult i) = Status.busy.code
                ∧ t.flag (F.daliStatBusfail i) = true ∧ t.flag (F.daliIntstatBusfail i) = true
                ∧ t.flag (F.daliStatIdle i) = false ∧ s.sameMemory t))
        ∧ Completes (.daliBusfail i false) s (fun t => t.flag (F.daliStatBusfail i) = false ∧ t.lum = s.lum ∧ s.sameMemory t)
        ∧ (∀ data bits (err : Bool),
            ((s.dali i).rx.length < 8 →
              Completes (.daliRxFrame i data bits err) s fun t =>
                (t.dali i).rx = (s.dali i).rx ++ [{ data := bitsOf data 0 32, bits := bits % 64, err := err }]
                ∧ t.flag (F.daliIntstatRx i) = true ∧ t.flag (F.daliStatRxavail i) = true ∧ s.sameMemory t)
            ∧ (8 ≤ (s.dali i).rx.length →
              Completes (.daliRxFrame i data bits err) s fun t =>
                (t.dali i).rx = (s.dali i).rx ∧ t.flag (F.daliIntstatRxovf i) = true ∧ s.sameMemory t))
        ∧ (∀ e, (s.dali i).window = some e → e + 420000 ≤ s.tb.now → (s.dali i).rx.length < 8 →
            Completes (.daliBackwardTimeout i) s fun t =>
              (t.dali i).rx = (s.dali i).rx ++ [{ data := 0, bits := 0, err := false }] ∧ (t.dali i).window = none
              ∧ s.sameMemory t)
        ∧ (∀ r rest, (s.dali i).rx = r :: rest →
            Completes (.rxinfoRead i) s fun t =>
              t.busData = Word.ofN (2 ^ 15 + 2 ^ 14 * b2n r.err + r.bits) ∧ t.busError = false ∧ (t.dali i).rx = rest
              ∧ t.regN (A.daliRxdata i) = r.data % 2 ^ 32 ∧ s.sameRegsBut t [A.daliRxdata i, A.daliStat i] ∧ s.sameMemory t))
    ∧ (∀ n, n < 4 → s.comUp = true →
        (s.fld (F.dmoFadeFade n) ≠ 0 →
          Completes (.dmoFade n) s fun t =>
            t.fld (F.dmoLevelLevel n)
              = moveToward (s.fld (F.dmoLevelLevel n)) (s.fld (F.dmoTargetTarget n)) (s.fld (F.dmoFadeFade n))
            ∧ t.flag (F.dmoLevelFading n) = (t.fld (F.dmoLevelLevel n) != s.fld (F.dmoTargetTarget n))
            ∧ s.sameRegsBut t [A.dmoLevel n] ∧ s.sameMemory t)
        ∧ (s.flag (F.dmoCfgEn n) = true → s.flag (F.dmoCfgMode n) = true →
          Completes (.dmoPeriod n) s fun t =>
            Sparse.find? t.lum.pwm n = some (s.fld (F.dmoLevelLevel n)) ∧ s.sameMemory t))
    ∧ (s.metRuns = true →
        (Completes .metZeroCrossing s fun t =>
          t.lum.cycles = s.lum.cycles + 1 ∧ t.flag F.metStatNozc = false ∧ s.sameMemory t)
        ∧ (∀ v i1 i2 p1 p2 period de1 de2 (clip : Bool), s.fld F.metCfgAcc ≤ s.lum.cycles →
          Completes (.metPeriod v i1 i2 p1 p2 period de1 de2 clip) s fun t =>
            t.regN A.metVrms = v % 2 ^ 32 ∧ t.regN A.metI1rms = i1 % 2 ^ 32 ∧ t.regN A.metI2rms = i2 % 2 ^ 32
            ∧ t.regN A.metP1 = p1 % 2 ^ 32 ∧ t.regN A.metP2 = p2 % 2 ^ 32 ∧ t.regN A.metPeriod = period % 2 ^ 32
            ∧ t.lum.e1 = (s.lum.e1 + de1) % 2 ^ 64 ∧ t.lum.e2 = (s.lum.e2 + de2) % 2 ^ 64 ∧ t.lum.cycles = 0
            ∧ t.flag F.metIntstatAccdone = true ∧ (clip = true → t.flag F.metIntstatClip = true) ∧ s.sameMemory t)
        ∧ (s.flag F.metStatNozc = false →
          Completes .metNozc s fun t =>
            t.flag F.metStatNozc = true ∧ t.flag F.metIntstatNozc = true
            ∧ s.sameRegsBut t [A.metStat, A.metIntstat] ∧ s.sameMemory t))
    ∧ (s.comUp = true →
        (∀ w : Word, bitAt w.toNat 0 = true →
          Completes (.eclr false w) s fun t =>
            t.lum = { s.lum with e1 := 0, e2 := 0 } ∧ s.sameRegsBut t [A.metCfg] ∧ s.sameMemory t)
        ∧ (Completes (.energyRead 0) s fun t =>
            t.busData = Word.ofN s.lum.e1 ∧ t.busError = false ∧ t.regN A.metE1hi = s.lum.e1 / 2 ^ 32 % 2 ^ 32
            ∧ s.sameRegsBut t [A.metE1hi] ∧ s.sameMemory t)
        ∧ (Completes (.energyRead 1) s fun t =>
            t.busData = Word.ofN s.lum.e2 ∧ t.busError = false ∧ t.regN A.metE2hi = s.lum.e2 / 2 ^ 32 % 2 ^ 32
            ∧ s.sameRegsBut t [A.metE2hi] ∧ s.sameMemory t))

/-- Serial peripherals (R568, R569). -/
def Obligations.SerialPeripherals : Prop :=
  ∀ (s : State) (k : Nat),
    (∀ w : Word, s.serOn k = true → bitAt w.toNat 31 = true → bitAt w.toNat 30 = false → k < 8 → (s.ser k).job = none →
        bitsOf w.toNat 0 16 ≠ 0 →
        Completes (.serGo k false w) s fun t =>
          (t.ser k).job = some { len := bitsOf w.toNat 0 16, read := bitAt w.toNat 29, addr := bitsOf w.toNat 16 10 }
          ∧ (t.ser k).tx = (s.ser k).tx ∧ (t.ser k).rx = (s.ser k).rx ∧ t.flag (F.serStatBusy k) = true ∧ s.sameMemory t)
    ∧ (∀ w : Word, k < 12 → s.comUp = true → bitAt w.toNat 30 = true → bitAt w.toNat 31 = false → s.serBusy k = true →
        Completes (.serAbort k false w) s fun t =>
          (t.ser k).job = none ∧ (t.ser k).tx = (if 8 ≤ k then [] else (s.ser k).tx) ∧ (t.ser k).rx = (s.ser k).rx
          ∧ t.fld (F.serStatResult k) = Status.cancelled.code ∧ t.fld (F.serStatDetail k) = 0
          ∧ t.flag (F.serStatBusy k) = false ∧ t.bit (A.serIntstat k) 0 = true ∧ s.sameMemory t)
    ∧ (∀ r sent (rx : List Byte), s.serOn k = true →
        (k < 8 → (s.ser k).job.isSome = true →
          Completes (.serDone k r sent rx) s fun t =>
            t.ser k = { tx := (s.ser k).tx.drop sent, rx := ((s.ser k).rx ++ rx).take 32, job := none }
            ∧ t.fld (F.serStatResult k) = (serResult (if k < 4 then r else 0)).1.code
            ∧ t.fld (F.serStatDetail k) = (serResult (if k < 4 then r else 0)).2
            ∧ t.flag (F.serStatBusy k) = false ∧ t.bit (A.serIntstat k) 0 = true ∧ s.sameMemory t)
        ∧ (8 ≤ k → (s.ser k).tx ≠ [] →
          Completes (.serDone k r sent rx) s fun t =>
            (t.ser k).tx = [] ∧ (t.ser k).rx = (s.ser k).rx ∧ t.fld (F.serStatResult k) = Status.ok.code
            ∧ t.flag (F.serStatBusy k) = false ∧ s.sameMemory t))
    ∧ (k < 12 → s.comUp = true →
        (∀ w : Word, (s.ser k).tx.length < 32 →
          Completes (.txfifoPush k false w) s fun t =>
            t.ser k = { s.ser k with tx := (s.ser k).tx ++ [Byte.ofN (w.toNat % 256)] }
            ∧ t.fld (F.serStatTxlvl k) = (s.ser k).tx.length + 1
            ∧ s.sameRegsBut t [A.serStat k, A.serIntstat k] ∧ s.sameMemory t)
        ∧ (∀ b rest, (s.ser k).rx = b :: rest →
          Completes (.rxfifoPop k) s fun t =>
            t.busData = Word.ofN b.toNat ∧ t.busError = false ∧ t.ser k = { s.ser k with rx := rest }
            ∧ s.sameRegsBut t [A.serStat k, A.serIntstat k] ∧ s.sameMemory t))
    ∧ (∀ b, 8 ≤ k → s.serOn k = true →
        ((s.ser k).rx.length < 32 →
          Completes (.serRxByte k b 0) s fun t =>
            t.ser k = { s.ser k with rx := (s.ser k).rx ++ [Byte.ofN (b % 256)] }
            ∧ t.fld (F.serStatRxlvl k) = (s.ser k).rx.length + 1 ∧ s.sameMemory t)
        ∧ (∀ err, err = 1 ∨ err = 2 →
          Completes (.serRxByte k b err) s fun t =>
            t.ser k = s.ser k ∧ t.fld (F.serStatDetail k) = (if err = 1 then 4 else 5) ∧ t.bit (A.serIntstat k) 3 = true
            ∧ s.sameRegsBut t [A.serStat k, A.serIntstat k] ∧ s.sameMemory t))

/-- Arithmetic (R494, R495, R497, R499, R501). -/
def Obligations.PipArithmetic : Prop :=
  ∀ (s : State) (core : Nat) (w : Word) (u : State),
    (∀ fn d a b, s.begins core w (.alu fn d a b) u →
        Completes (.alu core w) s fun t => u.wroteG t core w d (aluFn fn (u.g core a) (u.g core b)))
    ∧ (∀ d a, s.begins core w (.movl d a) u → Completes (.alu core w) s fun t => u.wroteG t core w d (u.g core (8 + a)))
    ∧ (∀ d a, s.begins core w (.movh d a) u → Completes (.alu core w) s fun t => u.wroteG t core w (8 + d) (u.g core a))
    ∧ (∀ d a imm,
        (s.begins core w (.addi d a imm) u →
          Completes (.addi core w) s fun t => u.wroteG t core w d (u.g core a + Word.ofN imm))
        ∧ (s.begins core w (.andi d a imm) u →
          Completes (.andi core w) s fun t => u.wroteG t core w d (u.g core a &&& Word.ofN imm))
        ∧ (s.begins core w (.ori d a imm) u →
          Completes (.ori core w) s fun t => u.wroteG t core w d (u.g core a ||| Word.ofN imm))
        ∧ (s.begins core w (.xori d a imm) u →
          Completes (.xori core w) s fun t => u.wroteG t core w d (u.g core a ^^^ Word.ofN imm))
        ∧ (s.begins core w (.tlti d a imm) u →
          Completes (.tlti core w) s fun t =>
            u.wroteG t core w d (if (u.g core a).toInt < (Word.ofN imm).toInt then 1 else 0))
        ∧ (s.begins core w (.tltiu d a imm) u →
          Completes (.tltiu core w) s fun t =>
            u.wroteG t core w d (if (u.g core a).toNat < (Word.ofN imm).toNat then 1 else 0)))
    ∧ (∀ d a sh,
        (s.begins core w (.shi d a 0 sh) u → Completes (.shi core w) s fun t => u.wroteG t core w d (u.g core a <<< sh))
        ∧ (s.begins core w (.shi d a 1 sh) u → Completes (.shi core w) s fun t => u.wroteG t core w d (u.g core a >>> sh))
        ∧ (s.begins core w (.shi d a 2 sh) u →
          Completes (.shi core w) s fun t => u.wroteG t core w d ((u.g core a).sshiftRight sh)))
    ∧ (∀ d imm,
        (s.begins core w (.li d imm) u → Completes (.addi core w) s fun t => u.wroteG t core w d (Word.ofN imm))
        ∧ (s.begins core w (.ldhi d imm) u → Completes (.ldhi core w) s fun t => u.wroteG t core w d (Word.ofN imm))
        ∧ (s.begins core w (.addpch d imm) u →
          Completes (.addpch core w) s fun t => u.wroteG t core w d (Word.ofN (u.pc core + imm)))
        ∧ (s.begins core w (.dspm 5 d imm) u →
          Completes (.dspm core w) s fun t => u.wroteG t core w d (Word.ofN (u.dsp core + imm)))
        ∧ (s.begins core w (.dspm 2 d imm) u →
          Completes (.dspm core w) s fun t =>
            u.setsNone t core ∧ u.goesOn t core { u.core core with dsp := Word.ofN (u.dsp core + imm) } (u.nextPc core w)
            ∧ u.sameMemory t))
    ∧ (∀ d,
        (s.begins core w (.getdsp d) u → Completes (.getdsp core w) s fun t => u.wroteG t core w d (u.core core).dsp)
        ∧ (s.begins core w (.getrsp d) u →
          Completes (.getrsp core w) s fun t =>
            u.wroteG t core w d (if u.coreMach core then (u.core core).rspm else (u.core core).rspu))
        ∧ (s.begins core w (.setdsp d) u →
          Completes (.setdsp core w) s fun t =>
            u.setsNone t core ∧ u.goesOn t core { u.core core with dsp := u.g core d } (u.nextPc core w)
            ∧ u.sameMemory t))
    ∧ (∀ fn rm d a b, s.begins core w (.fp fn rm d a b) u →
        let st := (u.core core).fpstat.toNat
        let r := fpFn fn (if rm = 4 then bitsOf st 8 2 else rm) (if fpFromG fn then u.g core a else u.fr core a)
          (u.fr core b) (u.fr core d)
        r.flags &&& bitsOf st 16 5 = 0 →
        Completes (.fp core w) s fun t =>
          u.goesOn t core { u.core core with fpstat := Word.ofN (st ||| r.flags) } (u.nextPc core w)
          ∧ (fpToG fn = true → u.setsG t core d r.val) ∧ (fpToG fn = false → u.setsF t core d r.val) ∧ u.sameMemory t)

/-- Loads and stores (R472, R476, R479, R494, R496). -/
def Obligations.PipMemory : Prop :=
  ∀ (s : State) (core : Nat) (w : Word) (u : State),
    (∀ d a imm, let e := ((u.g core a).toNat + imm) % 2 ^ 32
        (s.begins core w (.ldb d a imm) u → u.readable core e 1 →
          Completes (.ldb core w) s fun t => u.wroteG t core w d ((u.byte e).signExtend 32))
        ∧ (s.begins core w (.ldbu d a imm) u → u.readable core e 1 →
          Completes (.ldbu core w) s fun t => u.wroteG t core w d ((u.byte e).setWidth 32))
        ∧ (s.begins core w (.ldh d a imm) u → u.readable core e 2 →
          Completes (.ldh core w) s fun t =>
            u.wroteG t core w d ((BitVec.ofNat 16 (u.mem e 2)).signExtend 32))
        ∧ (s.begins core w (.ldhu d a imm) u → u.readable core e 2 →
          Completes (.ldhu core w) s fun t => u.wroteG t core w d (Word.ofN (u.mem e 2)))
        ∧ (s.begins core w (.ldw d a imm) u → u.readable core e 4 →
          Completes (.ldw core w) s fun t => u.wroteG t core w d (Word.ofN (u.mem e 4)))
        ∧ (s.begins core w (.ldf d a imm) u → u.readable core e 4 →
          Completes (.ldf core w) s fun t =>
            u.setsF t core d (Word.ofN (u.mem e 4)) ∧ u.goesOn t core (u.core core) (u.nextPc core w) ∧ u.sameMemory t)
        ∧ (s.begins core w (.stb d a imm) u → u.writable core e 1 →
          Completes (.stb core w) s fun t =>
            u.stored t e 1 (u.g core d).toNat ∧ u.setsNone t core ∧ u.goesOn t core (u.core core) (u.nextPc core w))
        ∧ (s.begins core w (.sth d a imm) u → u.writable core e 2 →
          Completes (.sth core w) s fun t =>
            u.stored t e 2 (u.g core d).toNat ∧ u.setsNone t core ∧ u.goesOn t core (u.core core) (u.nextPc core w))
        ∧ (s.begins core w (.stw d a imm) u → u.writable core e 4 →
          Completes (.stw core w) s fun t =>
            u.stored t e 4 (u.g core d).toNat ∧ u.setsNone t core ∧ u.goesOn t core (u.core core) (u.nextPc core w))
        ∧ (s.begins core w (.stf d a imm) u → u.writable core e 4 →
          Completes (.stf core w) s fun t =>
            u.stored t e 4 (u.fr core d).toNat ∧ u.setsNone t core ∧ u.goesOn t core (u.core core) (u.nextPc core w)))
    ∧ (∀ d imm, let e := ((u.core core).dsp.toNat + imm) % 2 ^ 32
        (s.begins core w (.dspm 0 d imm) u → u.readable core e 4 →
          Completes (.dspm core w) s fun t => u.wroteG t core w d (Word.ofN (u.mem e 4)))
        ∧ (s.begins core w (.dspm 3 d imm) u → u.readable core e 4 →
          Completes (.dspm core w) s fun t =>
            u.setsF t core d (Word.ofN (u.mem e 4)) ∧ u.goesOn t core (u.core core) (u.nextPc core w) ∧ u.sameMemory t)
        ∧ (s.begins core w (.dspm 1 d imm) u → u.writable core e 4 →
          Completes (.dspm core w) s fun t =>
            u.stored t e 4 (u.g core d).toNat ∧ u.setsNone t core ∧ u.goesOn t core (u.core core) (u.nextPc core w))
        ∧ (s.begins core w (.dspm 4 d imm) u → u.writable core e 4 →
          Completes (.dspm core w) s fun t =>
            u.stored t e 4 (u.fr core d).toNat ∧ u.setsNone t core ∧ u.goesOn t core (u.core core) (u.nextPc core w)))
    ∧ (∀ d a b sc sz, let n := memxSize sz
        (let e := ((u.g core a).toNat + (u.g core b).toNat * 2 ^ sc) % 2 ^ 32
         (s.begins core w (.memx d a b sc sz 0 false) u → u.readable core e n →
            Completes (.memx core w) s fun t =>
              u.goesOn t core (u.core core) (u.nextPc core w) ∧ u.sameMemory t
              ∧ (sz < 5 → u.setsG t core d (Word.ofN (if sz = 0 ∨ sz = 2 then sx (8 * n) (u.mem e n) else u.mem e n)))
              ∧ (sz = 5 → u.setsF t core d (Word.ofN (u.mem e n))))
         ∧ (s.begins core w (.memx d a b sc sz 0 true) u → u.writable core e n →
            Completes (.memx core w) s fun t =>
              u.stored t e n (if sz = 5 then u.fr core d else u.g core d).toNat ∧ u.setsNone t core
              ∧ u.goesOn t core (u.core core) (u.nextPc core w)))
        ∧ (∀ mode, mode = 1 ∨ mode = 2 →
            let e := if mode = 1 then (u.g core a).toNat else ((u.g core a).toNat + 2 ^ 32 - n) % 2 ^ 32
            let left := if mode = 1 then u.g core a + Word.ofN n else u.g core a - Word.ofN n
            (sz < 5 → s.begins core w (.memx d a b sc sz mode false) u → u.readable core e n →
              Completes (.memx core w) s fun t =>
                t.g core d = Word.ofN (if sz = 0 ∨ sz = 2 then sx (8 * n) (u.mem e n) else u.mem e n) ∧ t.g core a = left
                ∧ (∀ r, r ≠ d → r ≠ a → t.g core r = u.g core r) ∧ (∀ r, t.fr core r = u.fr core r)
                ∧ u.goesOn t core (u.core core) (u.nextPc core w) ∧ u.sameMemory t)
            ∧ (s.begins core w (.memx d a b sc sz mode true) u → u.writable core e n →
              Completes (.memx core w) s fun t =>
                u.stored t e n (if sz = 5 then u.fr core d else u.g core d).toNat ∧ u.setsG t core a left
                ∧ u.goesOn t core (u.core core) (u.nextPc core w))))
    ∧ (∀ d,
        (let e := ((u.core core).dsp.toNat + 2 ^ 32 - 4) % 2 ^ 32
         s.begins core w (.push d) u → u.writable core e 4 →
          Completes (.push core w) s fun t =>
            u.stored t e 4 (u.g core d).toNat ∧ u.setsNone t core
            ∧ u.goesOn t core { u.core core with dsp := Word.ofN e } (u.nextPc core w))
        ∧ (let e := (u.core core).dsp.toNat
         s.begins core w (.pop d) u → u.readable core e 4 →
          Completes (.pop core w) s fun t =>
            u.setsG t core d (Word.ofN (u.mem e 4))
            ∧ u.goesOn t core { u.core core with dsp := Word.ofN (e + 4) } (u.nextPc core w) ∧ u.sameMemory t))
    ∧ (∀ d a b, let e := (u.g core a).toNat
        u.readable core e 4 → u.writable core e 4 → u.protect core e 4 true true = 0 →
        (s.begins core w (.swap d a b) u →
          Completes (.swap core w) s fun t =>
            u.stored t e 4 (u.g core b).toNat ∧ u.setsG t core d (Word.ofN (u.mem e 4))
            ∧ u.goesOn t core (u.core core) (u.nextPc core w))
        ∧ (s.begins core w (.cas d a b) u →
          Completes (.cas core w) s fun t =>
            u.stored t e 4 (if u.mem e 4 = (u.g core d).toNat then (u.g core b).toNat else u.mem e 4)
            ∧ u.setsG t core d (Word.ofN (u.mem e 4)) ∧ u.goesOn t core (u.core core) (u.nextPc core w)))

/-- Control transfers and system instructions (R471-R474, R482-R490, R497, R498, R504). -/
def Obligations.PipControl : Prop :=
  ∀ (s : State) (core : Nat),
    (∀ (w : Word) (u : State),
      (∀ cond a b disp, s.begins core w (.br cond a b disp) u →
          Completes (.br core w) s fun t =>
            u.setsNone t core ∧ u.sameMemory t ∧ u.goesOn t core (u.core core)
              (if brTaken cond (u.g core a) (u.g core b) then (u.pc core + disp) % 2 ^ 32 else u.nextPc core w))
      ∧ (∀ disp, s.begins core w (.j disp) u →
          Completes (.j core w) s fun t =>
            u.setsNone t core ∧ u.sameMemory t ∧ u.goesOn t core (u.core core) ((u.pc core + disp) % 2 ^ 32))
      ∧ (∀ a, s.begins core w (.jr a) u →
          ((u.g core a).toNat % 2 = 0 →
            Completes (.jr core w) s fun t =>
              u.setsNone t core ∧ u.sameMemory t ∧ u.goesOn t core (u.core core) (u.g core a).toNat)
          ∧ ((u.g core a).toNat % 2 = 1 → u.canEnter core 5 →
            Completes (.jr core w) s fun t => u.hasEntered t core 5 (u.g core a).toNat 0 0 (u.pc core)))
      ∧ (let sp := (u.rsp core + 2 ^ 32 - 4) % 2 ^ 32
         sp % 4 = 0 → (u.rsRegion core).1 ≤ sp → sp < (u.rsRegion core).2 →
         (u.core core).mpuAllows (mpuRegions core) 1 sp = true → region sp = .mainSram ∨ region sp = .retained →
         u.stalls sp = false → u.memAnswers sp = true → Sparse.find? u.ecc (sp / 8) = none →
         let c := u.core core
         let left := if u.coreMach core then { c with rspm := Word.ofN sp } else { c with rspu := Word.ofN sp }
         (∀ disp, s.begins core w (.call disp) u →
            Completes (.call core w) s fun t =>
              u.stored t sp 4 (u.nextPc core w) ∧ u.setsNone t core ∧ u.goesOn t core left ((u.pc core + disp) % 2 ^ 32))
         ∧ (∀ a, s.begins core w (.callr a) u → (u.g core a).toNat % 2 = 0 →
            Completes (.callr core w) s fun t =>
              u.stored t sp 4 (u.nextPc core w) ∧ u.setsNone t core ∧ u.goesOn t core left (u.g core a).toNat))
      ∧ (let sp := u.rsp core
         s.begins core w .ret u → (u.rsRegion core).1 ≤ sp → sp + 4 ≤ (u.rsRegion core).2 → u.readable core sp 4 →
         u.mem sp 4 % 2 = 0 →
         let c := u.core core
         Completes (.ret core w) s fun t =>
           u.setsNone t core ∧ u.sameMemory t
           ∧ u.goesOn t core (if u.coreMach core then { c with rspm := Word.ofN (sp + 4) } else { c with rspu := Word.ofN (sp + 4) })
             (u.mem sp 4))
      ∧ (∀ d idx, s.begins core w (.mfs d idx) u → idx ≠ 0x11 →
          (idx ≠ 5 → idx ≠ 6 →
            Completes (.mfs core w) s fun t => u.wroteG t core w d ((u.core core).sysReg core idx))
          ∧ (idx = 5 → (u.core core).eframe = 0 → Completes (.mfs core w) s fun t => u.wroteG t core w d 0)
          ∧ (let f := (u.core core).eframe.toNat
             idx = 5 → f ≠ 0 → u.readable core f 4 →
            Completes (.mfs core w) s fun t => u.wroteG t core w d (Word.ofN (u.mem f 4 / 2 * 2))))
      ∧ (∀ d, s.begins core w (.mfs d 0x11) u →
          Completes (.mfs core w) s fun t =>
            u.setsG t core d (Word.ofN (u.core core).cycle) ∧ u.sameMemory t
            ∧ u.goesOn t core { u.core core with cycleHi := Word.ofN ((u.core core).cycle / 2 ^ 32) } (u.nextPc core w))
      ∧ (∀ a idx, s.begins core w (.mts a idx) u → idx ≠ 5 → idx ≠ 6 →
          Completes (.mts core w) s fun t =>
            u.setsNone t core ∧ u.sameMemory t
            ∧ u.goesOn t core ((u.core core).writeSys idx (u.g core a)) (u.nextPc core w))
      ∧ (∀ d ie, s.begins core w (.setie d ie) u →
          Completes (.setie core w) s fun t =>
            u.setsG t core d (Word.ofN (bitsOf (u.core core).psr.toNat 0 1)) ∧ u.sameMemory t
            ∧ u.goesOn t core { u.core core with psr := Word.ofN (setBitsOf (u.core core).psr.toNat 0 1 ie) } (u.nextPc core w))
      ∧ (∀ code, s.begins core w (.trap code) u → u.canEnter core 4 →
          Completes (.trap core w) s fun t => u.hasEntered t core 4 0 code 0 (u.nextPc core w))
      ∧ (let f := (u.core core).eframe.toNat
         s.begins core w .eret u → f ≠ 0 → (u.core core).rspm = (u.core core).eframe → f + 16 ≤ 2 ^ 32 →
         u.readable core f 4 → u.readable core (f + 4) 4 → u.readable core (f + 8) 4 → u.mem f 4 % 2 = 1 →
         Completes (.eret core w) s fun t =>
           u.setsNone t core ∧ u.sameMemory t
           ∧ u.goesOn t core { u.core core with
               psr := Word.ofN (bitsOf (u.mem (f + 4) 4) 4 4 * 16 + u.mem (f + 4) 4 % 4)
               eframe := Word.ofN (u.mem (f + 8) 4)
               rspm := Word.ofN (f + 16) } (u.mem f 4 - 1))
      ∧ (s.begins core w .wait u →
          (u.irqRequest core = true →
            Completes (.wait core w) s fun t =>
              u.setsNone t core ∧ u.goesOn t core (u.core core) (u.nextPc core w) ∧ u.sameMemory t)
          ∧ (u.irqRequest core = false →
            Completes (.wait core w) s fun t =>
              t.core core = { u.core core with run := .waiting } ∧ u.sameRegsBut t [] ∧ u.sameMemory t)))
    ∧ (core < 5 → (s.core core).run = .waiting → s.irqRequest core = true →
        Completes (.waitWake core) s fun t =>
          s.setsNone t core ∧ s.sameMemory t
          ∧ s.goesOn t core { s.core core with run := .running } ((s.pc core + 4) % 2 ^ 32))
    ∧ (s.pipRuns core = true → bitAt (s.core core).psr.toNat 0 = true → s.irqRequest core = true → s.canEnter core 10 →
        Completes (.intCmd core) s fun t => s.hasEntered t core 10 0 0 0 (s.pc core))
    ∧ (∀ (w : Word) (f : State), s.pipRuns core = true →
        (bitAt (s.core core).psr.toNat 0 && s.irqRequest core) = false → s.fetch core = .word w.toNat f →
        let u := f.setCore core { f.core core with entered := false }
        (u.canEnter core 2 → pipDecode (core == 4) w = none →
          Completes (.alu core w) s fun t => u.hasEntered t core 2 0 0 w.toNat (u.pc core))
        ∧ (u.canEnter core 3 → s.coreMach core = false →
          (pipDecode (core == 4) w = some .wait →
            Completes (.wait core w) s fun t => u.hasEntered t core 3 0 0 w.toNat (u.pc core))
          ∧ (pipDecode (core == 4) w = some .eret →
            Completes (.eret core w) s fun t => u.hasEntered t core 3 0 0 w.toNat (u.pc core))))

/-- Accesses to the register range (R31): only aligned words of listed blocks answer. -/
def Obligations.RegisterSpaceAccesses : Prop :=
  ∀ (s : State) (core a n v again : Nat) (user rom : Bool), 0x40000000 ≤ a → a ≤ 0x40FFFFFF →
    let listed := a / 0x10000 - 0x4000 ∈ ([0x00, 0x01, 0x02, 0x03, 0x04, 0x05, 0x10, 0x11, 0x12, 0x13, 0x14, 0x15, 0x20, 0x21,
      0x22, 0x23, 0x30, 0x40, 0x50, 0x51, 0x52, 0x53, 0x60, 0x61, 0x62, 0x63, 0x70, 0x71, 0x72, 0x73, 0x80, 0x81] : List Nat)
    (n ≠ 4 ∨ a % 4 ≠ 0 ∨ ¬listed →
      s.busLoad core rom a n = (0, { s with busError := true }) ∧ s.busStore core user rom a n v = { s with busError := true })
    ∧ (a % 4 ≠ 0 ∨ ¬listed → s.alive = true →
      Completes (.registerWrite user a (Word.ofN v)) s (fun t => t = { s with busError := true })
      ∧ Completes (.rcRead a again) s (fun t => t = { s with busError := true }))
    ∧ (a % 4 = 0 → listed → s.reaches a = true → regAt a = none →
      s.busLoad core rom a 4 = (0, { s with busData := 0, busError := false })
      ∧ s.busStore core user rom a 4 v = { s with busError := false })

/-- The data stack (R472). -/
def Obligations.DataStackPointer : Prop :=
  ∀ (s : State) (core : Nat) (w : Word) (u : State),
    (∀ a, s.begins core w (.setdsp a) u →
      Completes (.setdsp core w) s fun t =>
        u.setsNone t core ∧ u.goesOn t core { u.core core with dsp := u.g core a } (u.nextPc core w) ∧ u.sameMemory t)
    ∧ (∀ d imm, let e := ((u.core core).dsp.toNat + imm) % 2 ^ 32
        (s.begins core w (.dspm 0 d imm) u → u.readable core e 4 →
          Completes (.dspm core w) s fun t => u.wroteG t core w d (Word.ofN (u.mem e 4)))
        ∧ (s.begins core w (.dspm 1 d imm) u → u.writable core e 4 →
          Completes (.dspm core w) s fun t =>
            u.stored t e 4 (u.g core d).toNat ∧ u.setsNone t core ∧ u.goesOn t core (u.core core) (u.nextPc core w))
        ∧ (s.begins core w (.dspm 2 d imm) u →
          Completes (.dspm core w) s fun t =>
            u.setsNone t core ∧ u.goesOn t core { u.core core with dsp := Word.ofN e } (u.nextPc core w) ∧ u.sameMemory t)
        ∧ (s.begins core w (.dspm 3 d imm) u → u.readable core e 4 →
          Completes (.dspm core w) s fun t =>
            u.setsF t core d (Word.ofN (u.mem e 4)) ∧ u.goesOn t core (u.core core) (u.nextPc core w) ∧ u.sameMemory t)
        ∧ (s.begins core w (.dspm 4 d imm) u → u.writable core e 4 →
          Completes (.dspm core w) s fun t =>
            u.stored t e 4 (u.fr core d).toNat ∧ u.setsNone t core ∧ u.goesOn t core (u.core core) (u.nextPc core w))
        ∧ (s.begins core w (.dspm 5 d imm) u → Completes (.dspm core w) s fun t => u.wroteG t core w d (Word.ofN e)))
    ∧ (∀ r, let e := ((u.core core).dsp.toNat + 2 ^ 32 - 4) % 2 ^ 32
        s.begins core w (.push r) u →
        (u.writable core e 4 →
          Completes (.push core w) s fun t =>
            u.stored t e 4 (u.g core r).toNat ∧ u.setsNone t core
            ∧ u.goesOn t core { u.core core with dsp := Word.ofN e } (u.nextPc core w))
        ∧ (e % 4 ≠ 0 → u.canEnter core 5 →
          Completes (.push core w) s fun t => u.hasEntered t core 5 e 1 0 (u.pc core) ∧ (t.core core).dsp = (u.core core).dsp)
        ∧ (let p := u.protect core e 4 false true
           e % 4 = 0 → p ≠ 0 → u.canEnter core 7 →
          Completes (.push core w) s fun t => u.hasEntered t core 7 e p 0 (u.pc core) ∧ (t.core core).dsp = (u.core core).dsp)
        ∧ (let x := u.busStore core (!u.coreMach core) (u.fromRom core) e 4 (u.g core r).toNat
           e % 4 = 0 → u.protect core e 4 false true = 0 → u.stalls e = false →
           (region e = .registers → u.regAnswers e = false) → x.busError = true → x.canEnter core 6 →
          Completes (.push core w) s fun t =>
            x.hasEntered t core 6 e (if Sparse.find? u.ecc (e / 8) = some true then 3 else 1) 0 (u.pc core)
            ∧ (t.core core).dsp = (u.core core).dsp))
    ∧ (∀ d, let e := (u.core core).dsp.toNat
        s.begins core w (.pop d) u →
        (u.readable core e 4 →
          Completes (.pop core w) s fun t =>
            u.setsG t core d (Word.ofN (u.mem e 4))
            ∧ u.goesOn t core { u.core core with dsp := Word.ofN (e + 4) } (u.nextPc core w) ∧ u.sameMemory t)
        ∧ (e % 4 ≠ 0 → u.canEnter core 5 →
          Completes (.pop core w) s fun t => u.hasEntered t core 5 e 0 0 (u.pc core) ∧ (t.core core).dsp = (u.core core).dsp)
        ∧ (let p := u.protect core e 4 true false
           e % 4 = 0 → p ≠ 0 → u.canEnter core 7 →
          Completes (.pop core w) s fun t => u.hasEntered t core 7 e p 0 (u.pc core) ∧ (t.core core).dsp = (u.core core).dsp)
        ∧ (let x := (u.busLoad core (u.fromRom core) e 4).2
           e % 4 = 0 → u.protect core e 4 true false = 0 → u.stalls e = false →
           (region e = .registers → u.regAnswers e = false) → x.busError = true → x.canEnter core 6 →
          Completes (.pop core w) s fun t =>
            x.hasEntered t core 6 e (if Sparse.find? u.ecc (e / 8) = some true then 2 else 0) 0 (u.pc core)
            ∧ (t.core core).dsp = (u.core core).dsp))

/-- EPC, EPSR and ERET (R486, R487). -/
def Obligations.ExceptionFrameAccess : Prop :=
  ∀ (s : State) (core : Nat) (w : Word) (u : State),
    let c := u.core core
    let f := c.eframe.toNat
    (∀ d,
      (s.begins core w (.mfs d 5) u →
        (f = 0 → Completes (.mfs core w) s fun t => u.wroteG t core w d 0)
        ∧ (f ≠ 0 → u.readable core f 4 →
          Completes (.mfs core w) s fun t => u.wroteG t core w d (Word.ofN (u.mem f 4 / 2 * 2))))
      ∧ (s.begins core w (.mfs d 6) u →
        (f = 0 → Completes (.mfs core w) s fun t => u.wroteG t core w d 0)
        ∧ (f ≠ 0 → f + 4 < 2 ^ 32 → u.readable core (f + 4) 4 →
          Completes (.mfs core w) s fun t => u.wroteG t core w d (Word.ofN (u.mem (f + 4) 4)))))
    ∧ (∀ a, let v := (u.g core a).toNat
        let ok (e : Nat) : Prop := c.mpuAllows (mpuRegions core) 1 e = true ∧ (region e = .mainSram ∨ region e = .retained)
          ∧ u.stalls e = false ∧ u.memAnswers e = true ∧ Sparse.find? u.ecc (e / 8) = none
        (s.begins core w (.mts a 5) u →
          (f = 0 → Completes (.mts core w) s fun t =>
            u.setsNone t core ∧ u.goesOn t core c (u.nextPc core w) ∧ u.sameMemory t)
          ∧ (f ≠ 0 → f % 4 = 0 → ok f →
            Completes (.mts core w) s fun t =>
              u.stored t f 4 (v / 2 * 2 + 1) ∧ u.setsNone t core ∧ u.goesOn t core c (u.nextPc core w)))
        ∧ (s.begins core w (.mts a 6) u →
          (f = 0 → Completes (.mts core w) s fun t =>
            u.setsNone t core ∧ u.goesOn t core c (u.nextPc core w) ∧ u.sameMemory t)
          ∧ (f ≠ 0 → f + 4 < 2 ^ 32 → u.readable core (f + 4) 4 → ok (f + 4) →
            Completes (.mts core w) s fun t =>
              u.stored t (f + 4) 4 (u.mem (f + 4) 4 / 4 * 4 + v % 4)
              ∧ u.setsNone t core ∧ u.goesOn t core c (u.nextPc core w))))
    ∧ (s.begins core w .eret u →
      (f ≠ 0 → c.rspm = c.eframe → f + 16 ≤ 2 ^ 32 → u.readable core f 4 → u.mem f 4 % 2 = 1 →
        u.readable core (f + 4) 4 → u.readable core (f + 8) 4 →
        Completes (.eret core w) s fun t =>
          u.setsNone t core ∧ u.sameMemory t
          ∧ u.goesOn t core { c with
              psr := Word.ofN (bitsOf (u.mem (f + 4) 4) 4 4 * 16 + u.mem (f + 4) 4 % 4)
              eframe := Word.ofN (u.mem (f + 8) 4)
              rspm := Word.ofN (f + 16) } (u.mem f 4 - 1)
          ∧ (bitAt (u.mem (f + 4) 4) 1 = false → t.coreMach core = false ∧ t.rsp core = c.rspu.toNat))
      ∧ (f = 0 ∨ c.rspm ≠ c.eframe ∨ (u.readable core f 4 ∧ u.mem f 4 % 2 = 0) → u.canEnter core 8 →
        Completes (.eret core w) s fun t => u.hasEntered t core 8 c.rspm.toNat 4 0 (u.pc core)))

/-- Writes to the link context RAM (R282). -/
def Obligations.LinkContextWrites : Prop :=
  (∀ (s : State) (core a n v : Nat) (user rom : Bool), n = 1 ∨ n = 2 ∨ n = 4 → a % n = 0 → region a = .context →
      s.memAnswers a = true → Sparse.find? s.ecc (a / 8) = none →
      let t := s.busStore core user rom a n v
      t.busError = false ∧ s.contextWritten t a n v ∧ s.sameRegsBut t [])
  ∧ ∀ (s : State) (core : Nat) (w : Word) (u : State) (d a imm : Nat),
      let e := ((u.g core a).toNat + imm) % 2 ^ 32
      let v := (u.g core d).toNat
      (s.begins core w (.stb d a imm) u → u.contextWritable core e 1 →
        Completes (.stb core w) s fun t =>
          u.contextWritten t e 1 v ∧ u.setsNone t core ∧ u.goesOn t core (u.core core) (u.nextPc core w))
      ∧ (s.begins core w (.sth d a imm) u → u.contextWritable core e 2 →
        Completes (.sth core w) s fun t =>
          u.contextWritten t e 2 v ∧ u.setsNone t core ∧ u.goesOn t core (u.core core) (u.nextPc core w))
      ∧ (s.begins core w (.stw d a imm) u → u.contextWritable core e 4 →
        Completes (.stw core w) s fun t =>
          u.contextWritten t e 4 v ∧ u.setsNone t core ∧ u.goesOn t core (u.core core) (u.nextPc core w))

/-- What reset leaves; blank OTP and zeros where the spec gives no value are the model's choice (log entries 5, 6 and 19). -/
def Obligations.ResetState : Prop :=
  (∀ a, State.reset.reg a = regReset a)
  ∧ State.reset.regN A.sysId = 0x88001113 ∧ State.reset.regN A.pmuModestat = 7 ∧ State.reset.regN A.rstCause = 0x7401
  ∧ State.reset.regN A.clkPllf = 0x2810 ∧ State.reset.regN A.clkPllc = 0x2820 ∧ State.reset.regN A.brdSource = 0xFFF
  ∧ (∀ off, State.reset.flashByte off = 0xFF) ∧ (∀ k, State.reset.otpWord k = 0)
  ∧ (∀ k, (State.reset.core k).psr = 2 ∧ (State.reset.core k).vbase = 0x200 ∧ (State.reset.core k).run = .held)
  ∧ State.reset.ram = [] ∧ State.reset.pending = []

/-- Reset is canonical. -/
def Obligations.CanonicalAtReset : Prop := State.reset.canonical

/-- The canonical form is an invariant of every step. -/
def Obligations.CanonicalFormIsKept : Prop :=
  ∀ s t : State, s.canonical → step s = .next t → t.canonical

/-- Programming the OTP only sets bits, and nothing else changes it (R407). -/
def Obligations.OtpBitsAreNeverCleared : Prop :=
  ∀ (s t : State) (k : Nat), step s = .next t → s.otpWord k ||| t.otpWord k = t.otpWord k

/-- No bit of a 32-bit instruction word is dropped (R493-R498, R501). -/
def Obligations.PipWordsAreReadWhole : Prop :=
  ∀ (sentinel : Bool) (w : Nat) (i : PipInsn), w < 2 ^ 32 → bitAt w 31 = true → decode32 sentinel w = some i →
    pipEncode32 i = w
end

