-- ==== Sys2Proof/Laws/Bits.lean ====
section
/-!
SUPPORT. Bit fields and little-endian numbers: a field that is set reads back, other fields keep their bits, and
numbers survive their bytes.
-/

namespace Sys2Proof.Machine

theorem bitsOf_lt (n lsb w : Nat) : bitsOf n lsb w < 2 ^ w := Nat.mod_lt _ (Nat.two_pow_pos w)

/-- A field that is set holds the low bits of the value. -/
@[simp] theorem bitsOf_setBitsOf_self (n lsb w v : Nat) : bitsOf (setBitsOf n lsb w v) lsb w = v % 2 ^ w := by
  unfold bitsOf setBitsOf
  have hp : 0 < 2 ^ lsb := Nat.two_pow_pos lsb
  have e : n / 2 ^ (lsb + w) * 2 ^ (lsb + w) + v % 2 ^ w * 2 ^ lsb + n % 2 ^ lsb
      = n % 2 ^ lsb + 2 ^ lsb * (v % 2 ^ w + 2 ^ w * (n / 2 ^ (lsb + w))) := by
    rw [pow_add]; ring
  rw [e, Nat.add_mul_div_left _ _ hp, Nat.div_eq_of_lt (Nat.mod_lt _ hp), Nat.zero_add, Nat.add_mul_mod_self_left,
    Nat.mod_mod]

/-- A field below the one that is set keeps its bits. -/
theorem bitsOf_setBitsOf_below (n v : Nat) {l w l' w' : Nat} (h : l' + w' ≤ l) :
    bitsOf (setBitsOf n l w v) l' w' = bitsOf n l' w' := by
  unfold bitsOf setBitsOf
  obtain ⟨d, rfl⟩ := Nat.exists_eq_add_of_le h
  have hp : 0 < 2 ^ l' := Nat.two_pow_pos l'
  have hm : n = n % 2 ^ (l' + w' + d) + 2 ^ (l' + w' + d) * (n / 2 ^ (l' + w' + d)) := (Nat.mod_add_div _ _).symm
  have key : ∀ k, (n % 2 ^ (l' + w' + d) + 2 ^ (l' + w' + d) * k) / 2 ^ l' % 2 ^ w'
      = n % 2 ^ (l' + w' + d) / 2 ^ l' % 2 ^ w' := by
    intro k
    have e : 2 ^ (l' + w' + d) * k = 2 ^ l' * (2 ^ w' * (2 ^ d * k)) := by rw [pow_add, pow_add]; ring
    rw [e, Nat.add_mul_div_left _ _ hp, Nat.add_mul_mod_self_left]
  have e : n / 2 ^ (l' + w' + d + w) * 2 ^ (l' + w' + d + w) + v % 2 ^ w * 2 ^ (l' + w' + d) + n % 2 ^ (l' + w' + d)
      = n % 2 ^ (l' + w' + d) + 2 ^ (l' + w' + d) * (n / 2 ^ (l' + w' + d + w) * 2 ^ w + v % 2 ^ w) := by
    rw [pow_add 2 (l' + w' + d) w]; ring
  rw [e, key]
  conv_rhs => rw [hm, key]

/-- A field above the one that is set keeps its bits. -/
theorem bitsOf_setBitsOf_above (n v : Nat) {l w l' w' : Nat} (h : l + w ≤ l') :
    bitsOf (setBitsOf n l w v) l' w' = bitsOf n l' w' := by
  unfold bitsOf setBitsOf
  obtain ⟨d, rfl⟩ := Nat.exists_eq_add_of_le h
  have hlt : v % 2 ^ w * 2 ^ l + n % 2 ^ l < 2 ^ (l + w) := by
    have h1 : v % 2 ^ w < 2 ^ w := Nat.mod_lt _ (Nat.two_pow_pos w)
    have h2 : n % 2 ^ l < 2 ^ l := Nat.mod_lt _ (Nat.two_pow_pos l)
    calc v % 2 ^ w * 2 ^ l + n % 2 ^ l < v % 2 ^ w * 2 ^ l + 2 ^ l := by omega
      _ = (v % 2 ^ w + 1) * 2 ^ l := by ring
      _ ≤ 2 ^ w * 2 ^ l := Nat.mul_le_mul_right _ h1
      _ = 2 ^ (l + w) := by rw [pow_add]; ring
  have e : ∀ m, m / 2 ^ (l + w + d) = m / 2 ^ (l + w) / 2 ^ d := fun m => by
    rw [Nat.div_div_eq_div_mul, ← pow_add]
  rw [e, e, Nat.add_assoc, Nat.add_comm, Nat.add_mul_div_right _ _ (Nat.two_pow_pos _), Nat.div_eq_of_lt hlt,
    Nat.zero_add]

/-- Setting a field of a 32-bit number leaves a 32-bit number. -/
theorem setBitsOf_lt {n l w : Nat} (v : Nat) (hn : n < 2 ^ 32) (h : l + w ≤ 32) : setBitsOf n l w v < 2 ^ 32 := by
  by_contra hc
  unfold setBitsOf at hc
  have h1 : v % 2 ^ w * 2 ^ l + n % 2 ^ l < 2 ^ (l + w) := by
    have a : v % 2 ^ w < 2 ^ w := Nat.mod_lt _ (Nat.two_pow_pos w)
    have b : n % 2 ^ l < 2 ^ l := Nat.mod_lt _ (Nat.two_pow_pos l)
    calc v % 2 ^ w * 2 ^ l + n % 2 ^ l < v % 2 ^ w * 2 ^ l + 2 ^ l := by omega
      _ = (v % 2 ^ w + 1) * 2 ^ l := by ring
      _ ≤ 2 ^ w * 2 ^ l := Nat.mul_le_mul_right _ a
      _ = 2 ^ (l + w) := by rw [pow_add]; ring
  obtain ⟨d, hd⟩ := Nat.exists_eq_add_of_le h
  have h2 : n / 2 ^ (l + w) < 2 ^ d := by
    rw [Nat.div_lt_iff_lt_mul (Nat.two_pow_pos _), ← pow_add, Nat.add_comm d, ← hd]; exact hn
  have h3 : (n / 2 ^ (l + w) + 1) * 2 ^ (l + w) ≤ 2 ^ d * 2 ^ (l + w) := Nat.mul_le_mul_right _ h2
  rw [← pow_add, Nat.add_comm d, ← hd] at h3
  have h4 : (n / 2 ^ (l + w) + 1) * 2 ^ (l + w) = n / 2 ^ (l + w) * 2 ^ (l + w) + 2 ^ (l + w) := by ring
  omega

/-- A number below `256 ^ k` is read back from its `k` little-endian bytes (R4). -/
theorem leNat_leBytes (k n : Nat) : leNat (leBytes k n) = n % 256 ^ k := by
  induction k generalizing n with
  | zero => simp [leBytes, leNat, Nat.mod_one]
  | succ k ih =>
    simp only [leBytes, leNat, ih, BitVec.toNat_ofNat]
    rw [pow_succ' 256 k, Nat.mod_mul]

@[simp] theorem length_leBytes (k n : Nat) : (leBytes k n).length = k := by
  induction k generalizing n with
  | zero => rfl
  | succ k ih => simp [leBytes, ih]

end Sys2Proof.Machine
end

