-- ==== Sys2Proof/Laws/Sparse.lean ====
section
/-!
SUPPORT. What the sparse maps do: a listed value is read back, other keys keep theirs, and every operation keeps the
canonical form.
-/

namespace Sys2Proof.Machine

variable {α : Type}

@[simp] theorem Sparse.find?_insert_self (m : List (Nat × α)) (k : Nat) (v : α) :
    Sparse.find? (Sparse.insert m k v) k = some v := by
  induction m with
  | nil => simp [Sparse.insert, Sparse.find?]
  | cons p t ih =>
    obtain ⟨a, w⟩ := p
    unfold Sparse.insert
    split
    · simp [Sparse.find?]
    · split
      · simp [Sparse.find?]
      · rename_i h; simp [Sparse.find?, h, ih]

theorem Sparse.find?_insert_ne (m : List (Nat × α)) {k k' : Nat} (v : α) (h : k' ≠ k) :
    Sparse.find? (Sparse.insert m k v) k' = Sparse.find? m k' := by
  induction m with
  | nil => simp [Sparse.insert, Sparse.find?, Ne.symm h]
  | cons p t ih =>
    obtain ⟨a, w⟩ := p
    unfold Sparse.insert
    split
    · simp [Sparse.find?, Ne.symm h]
    · split
      · subst_vars; simp [Sparse.find?, Ne.symm h]
      · simp [Sparse.find?, ih]

@[simp] theorem Sparse.find?_erase_self (m : List (Nat × α)) (k : Nat) :
    Sparse.find? (Sparse.erase m k) k = none := by
  induction m with
  | nil => rfl
  | cons p t ih =>
    obtain ⟨a, w⟩ := p
    by_cases h : a = k
    · simpa [Sparse.erase, h] using ih
    · simpa [Sparse.erase, h, Sparse.find?] using ih

theorem Sparse.find?_erase_ne (m : List (Nat × α)) {k k' : Nat} (h : k' ≠ k) :
    Sparse.find? (Sparse.erase m k) k' = Sparse.find? m k' := by
  induction m with
  | nil => rfl
  | cons p t ih =>
    obtain ⟨a, w⟩ := p
    by_cases ha : a = k
    · subst ha; simpa [Sparse.erase, Sparse.find?, Ne.symm h] using ih
    · by_cases hk : a = k'
      · simp [Sparse.erase, Sparse.find?, hk]; simp [hk ▸ ha, Sparse.find?]
      · simpa [Sparse.erase, ha, Sparse.find?, hk] using ih

@[simp] theorem Sparse.get_put_self [DecidableEq α] (d : Nat → α) (m : List (Nat × α)) (k : Nat) (v : α) :
    Sparse.get d (Sparse.put d m k v) k = v := by
  unfold Sparse.get Sparse.put
  split
  · simp_all
  · simp

theorem Sparse.get_put_ne [DecidableEq α] (d : Nat → α) (m : List (Nat × α)) {k k' : Nat} (v : α) (h : k' ≠ k) :
    Sparse.get d (Sparse.put d m k v) k' = Sparse.get d m k' := by
  unfold Sparse.get Sparse.put
  split
  · rw [Sparse.find?_erase_ne m h]
  · rw [Sparse.find?_insert_ne m v h]

/-- Every key of a rising list exceeds a bound that its first key exceeds. -/
theorem Sparse.rising_iff_pairwise (m : List (Nat × α)) :
    Sparse.rising m = true ↔ m.Pairwise (fun p q => p.1 < q.1) := by
  induction m with
  | nil => simp [Sparse.rising]
  | cons p t ih =>
    cases t with
    | nil => simp [Sparse.rising]
    | cons q u =>
      obtain ⟨a, v⟩ := p
      obtain ⟨b, w⟩ := q
      simp only [Sparse.rising, Bool.and_eq_true, decide_eq_true_eq, ih]
      constructor
      · rintro ⟨hab, h⟩
        refine List.pairwise_cons.2 ⟨?_, h⟩
        intro r hr
        rcases List.mem_cons.1 hr with rfl | hr
        · exact hab
        · exact lt_trans hab ((List.pairwise_cons.1 h).1 r hr)
      · intro h
        exact ⟨(List.pairwise_cons.1 h).1 (b, w) List.mem_cons_self, (List.pairwise_cons.1 h).2⟩

theorem Sparse.mem_insert {m : List (Nat × α)} {k : Nat} {v : α} {p : Nat × α} (h : p ∈ Sparse.insert m k v) :
    p = (k, v) ∨ p ∈ m := by
  induction m with
  | nil => simpa [Sparse.insert] using h
  | cons q t ih =>
    obtain ⟨a, w⟩ := q
    unfold Sparse.insert at h
    split at h
    · simpa using h
    · split at h
      · rcases List.mem_cons.1 h with h | h
        · exact .inl h
        · exact .inr (List.mem_cons_of_mem _ h)
      · rcases List.mem_cons.1 h with h | h
        · exact .inr (h ▸ List.mem_cons_self)
        · exact (ih h).imp_right (List.mem_cons_of_mem _)

theorem Sparse.rising_insert {m : List (Nat × α)} (h : Sparse.rising m = true) (k : Nat) (v : α) :
    Sparse.rising (Sparse.insert m k v) = true := by
  rw [Sparse.rising_iff_pairwise] at h ⊢
  induction m with
  | nil => simp [Sparse.insert]
  | cons q t ih =>
    obtain ⟨a, w⟩ := q
    obtain ⟨hq, ht⟩ := List.pairwise_cons.1 h
    unfold Sparse.insert
    split
    · rename_i hk
      refine List.pairwise_cons.2 ⟨?_, h⟩
      intro r hr
      rcases List.mem_cons.1 hr with rfl | hr
      · exact hk
      · exact lt_trans hk (hq r hr)
    · split
      · rename_i hk; subst hk; exact List.pairwise_cons.2 ⟨hq, ht⟩
      · rename_i h1 h2
        refine List.pairwise_cons.2 ⟨?_, ih ht⟩
        intro r hr
        rcases Sparse.mem_insert hr with rfl | hr
        · simp only; omega
        · exact hq r hr

theorem Sparse.rising_filter {m : List (Nat × α)} (h : Sparse.rising m = true) (p : Nat × α → Bool) :
    Sparse.rising (m.filter p) = true := by
  rw [Sparse.rising_iff_pairwise] at h ⊢
  exact h.filter p

theorem Sparse.all_filter {m : List (Nat × α)} {t : Nat → α → Bool} (h : Sparse.all m t = true) (p : Nat × α → Bool) :
    Sparse.all (m.filter p) t = true := by
  simp only [Sparse.all, List.all_eq_true] at h ⊢
  exact fun e he => h e (List.mem_filter.1 he).1

theorem Sparse.all_insert {m : List (Nat × α)} {t : Nat → α → Bool} (h : Sparse.all m t = true) {k : Nat} {v : α}
    (hv : t k v = true) : Sparse.all (Sparse.insert m k v) t = true := by
  simp only [Sparse.all, List.all_eq_true] at h ⊢
  intro e he
  rcases Sparse.mem_insert he with rfl | he
  · exact hv
  · exact h e he

/-- A write keeps the canonical form. -/
theorem Sparse.wf_put [DecidableEq α] {d : Nat → α} {m : List (Nat × α)} (h : Sparse.wf d m = true) (k : Nat) (v : α) :
    Sparse.wf d (Sparse.put d m k v) = true := by
  simp only [Sparse.wf, Bool.and_eq_true] at h ⊢
  unfold Sparse.put
  split
  · exact ⟨Sparse.rising_filter h.1 _, Sparse.all_filter h.2 _⟩
  · rename_i hv; exact ⟨Sparse.rising_insert h.1 k v, Sparse.all_insert h.2 (by simpa using hv)⟩

/-- Leaving entries out keeps the canonical form. -/
theorem Sparse.wf_filter [DecidableEq α] {d : Nat → α} {m : List (Nat × α)} (h : Sparse.wf d m = true)
    (p : Nat × α → Bool) : Sparse.wf d (m.filter p) = true := by
  simp only [Sparse.wf, Bool.and_eq_true] at h ⊢
  exact ⟨Sparse.rising_filter h.1 p, Sparse.all_filter h.2 p⟩

end Sys2Proof.Machine
end

