-- ==== Sys2Proof/Laws/State.lean ====
section
/-!
SUPPORT. Registers and their fields: what a write reads back as, which other registers and fields it leaves alone, and
that it touches no other part of the state.
-/

namespace Sys2Proof.Machine

/-! ## What a register write reads back as -/

@[simp] theorem State.reg_setReg_self (s : State) (a : Nat) (w : Word) : (s.setReg a w).reg a = w := by
  simp [State.reg, State.setReg]

theorem State.reg_setReg_ne (s : State) {a b : Nat} (w : Word) (h : b ≠ a) : (s.setReg a w).reg b = s.reg b := by
  simp [State.reg, State.setReg, Sparse.get_put_ne _ _ _ h]

theorem State.regN_lt (s : State) (a : Nat) : s.regN a < 2 ^ 32 := (s.reg a).isLt

@[simp] theorem State.regN_setRegN_self (s : State) (a n : Nat) : (s.setRegN a n).regN a = n % 2 ^ 32 := by
  simp [State.regN, State.setRegN]

theorem State.regN_setRegN_ne (s : State) {a b : Nat} (n : Nat) (h : b ≠ a) : (s.setRegN a n).regN b = s.regN b := by
  simp [State.regN, State.setRegN, State.reg_setReg_ne _ _ h]

theorem State.reg_setRegN_ne (s : State) {a b : Nat} (n : Nat) (h : b ≠ a) : (s.setRegN a n).reg b = s.reg b :=
  State.reg_setReg_ne s _ h

theorem State.regN_setFld (s : State) (f : Fld) (v : Nat) (h : f.lsb + f.width ≤ 32) :
    (s.setFld f v).regN f.addr = setBitsOf (s.regN f.addr) f.lsb f.width v := by
  rw [State.setFld, State.regN_setRegN_self, Nat.mod_eq_of_lt (setBitsOf_lt v (s.regN_lt _) h)]

/-- A field that is set holds the value's low bits. -/
theorem State.fld_setFld_self (s : State) (f : Fld) (v : Nat) (h : f.lsb + f.width ≤ 32) :
    (s.setFld f v).fld f = v % 2 ^ f.width := by
  rw [State.fld, State.regN_setFld s f v h, bitsOf_setBitsOf_self]

/-- A field of another register is left alone. -/
theorem State.fld_setReg_ne (s : State) {a : Nat} {g : Fld} (w : Word) (h : g.addr ≠ a) :
    (s.setReg a w).fld g = s.fld g := by
  rw [State.fld, State.regN, State.reg_setReg_ne _ _ h]; rfl

theorem State.fld_setRegN_ne (s : State) {a : Nat} {g : Fld} (n : Nat) (h : g.addr ≠ a) :
    (s.setRegN a n).fld g = s.fld g := State.fld_setReg_ne s _ h

theorem State.fld_setFld_ne (s : State) {f g : Fld} (v : Nat) (h : g.addr ≠ f.addr) :
    (s.setFld f v).fld g = s.fld g := State.fld_setRegN_ne s _ h

/-- A lower field of the same register is left alone. -/
theorem State.fld_setFld_below (s : State) {f g : Fld} (v : Nat) (ha : g.addr = f.addr) (hf : f.lsb + f.width ≤ 32)
    (h : g.lsb + g.width ≤ f.lsb) : (s.setFld f v).fld g = s.fld g := by
  rw [State.fld, ha, State.regN_setFld s f v hf, bitsOf_setBitsOf_below _ _ h, State.fld, ha]

/-- A higher field of the same register is left alone. -/
theorem State.fld_setFld_above (s : State) {f g : Fld} (v : Nat) (ha : g.addr = f.addr) (hf : f.lsb + f.width ≤ 32)
    (h : f.lsb + f.width ≤ g.lsb) : (s.setFld f v).fld g = s.fld g := by
  rw [State.fld, ha, State.regN_setFld s f v hf, bitsOf_setBitsOf_above _ _ h, State.fld, ha]

/-- A one-bit flag that is raised reads true. -/
theorem State.flag_raise_self (s : State) (f : Fld) (h : f.lsb + f.width ≤ 32) (hw : 0 < f.width) :
    (s.raise f).flag f = true := by
  have h1 : 1 < 2 ^ f.width := Nat.one_lt_two_pow (Nat.pos_iff_ne_zero.1 hw)
  simp [State.flag, State.raise, State.fld_setFld_self s f 1 h, Nat.mod_eq_of_lt h1]

/-- A flag that is cleared reads false. -/
theorem State.flag_lower_self (s : State) (f : Fld) (h : f.lsb + f.width ≤ 32) : (s.lower f).flag f = false := by
  simp [State.flag, State.lower, State.fld_setFld_self s f 0 h]

theorem State.flag_setFld_ne (s : State) {f g : Fld} (v : Nat) (h : g.addr ≠ f.addr) :
    (s.setFld f v).flag g = s.flag g := by rw [State.flag, State.fld_setFld_ne s v h]; rfl

theorem State.flag_raise_ne (s : State) {f g : Fld} (h : g.addr ≠ f.addr) : (s.raise f).flag g = s.flag g :=
  State.flag_setFld_ne s 1 h

theorem State.flag_lower_ne (s : State) {f g : Fld} (h : g.addr ≠ f.addr) : (s.lower f).flag g = s.flag g :=
  State.flag_setFld_ne s 0 h

/-! ## The register file keeps its canonical form -/

theorem State.regsWf_setReg {s : State} (h : s.regsWf = true) (a : Nat) (w : Word) : (s.setReg a w).regsWf = true :=
  Sparse.wf_put h a w

theorem State.regsWf_setFld {s : State} (h : s.regsWf = true) (f : Fld) (v : Nat) : (s.setFld f v).regsWf = true :=
  State.regsWf_setReg h _ _

/-! ## A register write touches nothing else -/


@[simp] theorem State.setReg_ram (s : State) (a : Nat) (w : Word) : (s.setReg a w).ram = s.ram := rfl
@[simp] theorem State.setReg_ctxGen (s : State) (a : Nat) (w : Word) : (s.setReg a w).ctxGen = s.ctxGen := rfl
@[simp] theorem State.setReg_ramEpochs (s : State) (a : Nat) (w : Word) : (s.setReg a w).ramEpochs = s.ramEpochs := rfl
@[simp] theorem State.setReg_flash (s : State) (a : Nat) (w : Word) : (s.setReg a w).flash = s.flash := rfl
@[simp] theorem State.setReg_otp (s : State) (a : Nat) (w : Word) : (s.setReg a w).otp = s.otp := rfl
@[simp] theorem State.setReg_ecc (s : State) (a : Nat) (w : Word) : (s.setReg a w).ecc = s.ecc := rfl
@[simp] theorem State.setReg_board (s : State) (a : Nat) (w : Word) : (s.setReg a w).board = s.board := rfl
@[simp] theorem State.setReg_subst (s : State) (a : Nat) (w : Word) : (s.setReg a w).subst = s.subst := rfl
@[simp] theorem State.setReg_tick (s : State) (a : Nat) (w : Word) : (s.setReg a w).tick = s.tick := rfl
@[simp] theorem State.setReg_free (s : State) (a : Nat) (w : Word) : (s.setReg a w).free = s.free := rfl
@[simp] theorem State.setReg_busData (s : State) (a : Nat) (w : Word) : (s.setReg a w).busData = s.busData := rfl
@[simp] theorem State.setReg_busError (s : State) (a : Nat) (w : Word) : (s.setReg a w).busError = s.busError := rfl
@[simp] theorem State.setReg_pw (s : State) (a : Nat) (w : Word) : (s.setReg a w).pw = s.pw := rfl
@[simp] theorem State.setReg_brd (s : State) (a : Nat) (w : Word) : (s.setReg a w).brd = s.brd := rfl
@[simp] theorem State.setReg_hsl (s : State) (a : Nat) (w : Word) : (s.setReg a w).hsl = s.hsl := rfl
@[simp] theorem State.setReg_icu (s : State) (a : Nat) (w : Word) : (s.setReg a w).icu = s.icu := rfl
@[simp] theorem State.setReg_evf (s : State) (a : Nat) (w : Word) : (s.setReg a w).evf = s.evf := rfl
@[simp] theorem State.setReg_tb (s : State) (a : Nat) (w : Word) : (s.setReg a w).tb = s.tb := rfl
@[simp] theorem State.setReg_snp (s : State) (a : Nat) (w : Word) : (s.setReg a w).snp = s.snp := rfl
@[simp] theorem State.setReg_ntm (s : State) (a : Nat) (w : Word) : (s.setReg a w).ntm = s.ntm := rfl
@[simp] theorem State.setReg_rf (s : State) (a : Nat) (w : Word) : (s.setReg a w).rf = s.rf := rfl
@[simp] theorem State.setReg_cap (s : State) (a : Nat) (w : Word) : (s.setReg a w).cap = s.cap := rfl
@[simp] theorem State.setReg_dec (s : State) (a : Nat) (w : Word) : (s.setReg a w).dec = s.dec := rfl
@[simp] theorem State.setReg_lnk (s : State) (a : Nat) (w : Word) : (s.setReg a w).lnk = s.lnk := rfl
@[simp] theorem State.setReg_tnt (s : State) (a : Nat) (w : Word) : (s.setReg a w).tnt = s.tnt := rfl
@[simp] theorem State.setReg_jrn (s : State) (a : Nat) (w : Word) : (s.setReg a w).jrn = s.jrn := rfl
@[simp] theorem State.setReg_flc (s : State) (a : Nat) (w : Word) : (s.setReg a w).flc = s.flc := rfl
@[simp] theorem State.setReg_fw (s : State) (a : Nat) (w : Word) : (s.setReg a w).fw = s.fw := rfl
@[simp] theorem State.setReg_sec (s : State) (a : Nat) (w : Word) : (s.setReg a w).sec = s.sec := rfl
@[simp] theorem State.setReg_pip (s : State) (a : Nat) (w : Word) : (s.setReg a w).pip = s.pip := rfl
@[simp] theorem State.setReg_lum (s : State) (a : Nat) (w : Word) : (s.setReg a w).lum = s.lum := rfl
@[simp] theorem State.setReg_fcr (s : State) (a : Nat) (w : Word) : (s.setReg a w).fcr = s.fcr := rfl
@[simp] theorem State.setReg_pending (s : State) (a : Nat) (w : Word) : (s.setReg a w).pending = s.pending := rfl

@[simp] theorem State.setRegN_ram (s : State) (a n : Nat) : (s.setRegN a n).ram = s.ram := rfl
@[simp] theorem State.setRegN_ctxGen (s : State) (a n : Nat) : (s.setRegN a n).ctxGen = s.ctxGen := rfl
@[simp] theorem State.setRegN_ramEpochs (s : State) (a n : Nat) : (s.setRegN a n).ramEpochs = s.ramEpochs := rfl
@[simp] theorem State.setRegN_flash (s : State) (a n : Nat) : (s.setRegN a n).flash = s.flash := rfl
@[simp] theorem State.setRegN_otp (s : State) (a n : Nat) : (s.setRegN a n).otp = s.otp := rfl
@[simp] theorem State.setRegN_ecc (s : State) (a n : Nat) : (s.setRegN a n).ecc = s.ecc := rfl
@[simp] theorem State.setRegN_board (s : State) (a n : Nat) : (s.setRegN a n).board = s.board := rfl
@[simp] theorem State.setRegN_subst (s : State) (a n : Nat) : (s.setRegN a n).subst = s.subst := rfl
@[simp] theorem State.setRegN_tick (s : State) (a n : Nat) : (s.setRegN a n).tick = s.tick := rfl
@[simp] theorem State.setRegN_free (s : State) (a n : Nat) : (s.setRegN a n).free = s.free := rfl
@[simp] theorem State.setRegN_busData (s : State) (a n : Nat) : (s.setRegN a n).busData = s.busData := rfl
@[simp] theorem State.setRegN_busError (s : State) (a n : Nat) : (s.setRegN a n).busError = s.busError := rfl
@[simp] theorem State.setRegN_pw (s : State) (a n : Nat) : (s.setRegN a n).pw = s.pw := rfl
@[simp] theorem State.setRegN_brd (s : State) (a n : Nat) : (s.setRegN a n).brd = s.brd := rfl
@[simp] theorem State.setRegN_hsl (s : State) (a n : Nat) : (s.setRegN a n).hsl = s.hsl := rfl
@[simp] theorem State.setRegN_icu (s : State) (a n : Nat) : (s.setRegN a n).icu = s.icu := rfl
@[simp] theorem State.setRegN_evf (s : State) (a n : Nat) : (s.setRegN a n).evf = s.evf := rfl
@[simp] theorem State.setRegN_tb (s : State) (a n : Nat) : (s.setRegN a n).tb = s.tb := rfl
@[simp] theorem State.setRegN_snp (s : State) (a n : Nat) : (s.setRegN a n).snp = s.snp := rfl
@[simp] theorem State.setRegN_ntm (s : State) (a n : Nat) : (s.setRegN a n).ntm = s.ntm := rfl
@[simp] theorem State.setRegN_rf (s : State) (a n : Nat) : (s.setRegN a n).rf = s.rf := rfl
@[simp] theorem State.setRegN_cap (s : State) (a n : Nat) : (s.setRegN a n).cap = s.cap := rfl
@[simp] theorem State.setRegN_dec (s : State) (a n : Nat) : (s.setRegN a n).dec = s.dec := rfl
@[simp] theorem State.setRegN_lnk (s : State) (a n : Nat) : (s.setRegN a n).lnk = s.lnk := rfl
@[simp] theorem State.setRegN_tnt (s : State) (a n : Nat) : (s.setRegN a n).tnt = s.tnt := rfl
@[simp] theorem State.setRegN_jrn (s : State) (a n : Nat) : (s.setRegN a n).jrn = s.jrn := rfl
@[simp] theorem State.setRegN_flc (s : State) (a n : Nat) : (s.setRegN a n).flc = s.flc := rfl
@[simp] theorem State.setRegN_fw (s : State) (a n : Nat) : (s.setRegN a n).fw = s.fw := rfl
@[simp] theorem State.setRegN_sec (s : State) (a n : Nat) : (s.setRegN a n).sec = s.sec := rfl
@[simp] theorem State.setRegN_pip (s : State) (a n : Nat) : (s.setRegN a n).pip = s.pip := rfl
@[simp] theorem State.setRegN_lum (s : State) (a n : Nat) : (s.setRegN a n).lum = s.lum := rfl
@[simp] theorem State.setRegN_fcr (s : State) (a n : Nat) : (s.setRegN a n).fcr = s.fcr := rfl
@[simp] theorem State.setRegN_pending (s : State) (a n : Nat) : (s.setRegN a n).pending = s.pending := rfl

@[simp] theorem State.setFld_ram (s : State) (f : Fld) (v : Nat) : (s.setFld f v).ram = s.ram := rfl
@[simp] theorem State.setFld_ctxGen (s : State) (f : Fld) (v : Nat) : (s.setFld f v).ctxGen = s.ctxGen := rfl
@[simp] theorem State.setFld_ramEpochs (s : State) (f : Fld) (v : Nat) : (s.setFld f v).ramEpochs = s.ramEpochs := rfl
@[simp] theorem State.setFld_flash (s : State) (f : Fld) (v : Nat) : (s.setFld f v).flash = s.flash := rfl
@[simp] theorem State.setFld_otp (s : State) (f : Fld) (v : Nat) : (s.setFld f v).otp = s.otp := rfl
@[simp] theorem State.setFld_ecc (s : State) (f : Fld) (v : Nat) : (s.setFld f v).ecc = s.ecc := rfl
@[simp] theorem State.setFld_board (s : State) (f : Fld) (v : Nat) : (s.setFld f v).board = s.board := rfl
@[simp] theorem State.setFld_subst (s : State) (f : Fld) (v : Nat) : (s.setFld f v).subst = s.subst := rfl
@[simp] theorem State.setFld_tick (s : State) (f : Fld) (v : Nat) : (s.setFld f v).tick = s.tick := rfl
@[simp] theorem State.setFld_free (s : State) (f : Fld) (v : Nat) : (s.setFld f v).free = s.free := rfl
@[simp] theorem State.setFld_busData (s : State) (f : Fld) (v : Nat) : (s.setFld f v).busData = s.busData := rfl
@[simp] theorem State.setFld_busError (s : State) (f : Fld) (v : Nat) : (s.setFld f v).busError = s.busError := rfl
@[simp] theorem State.setFld_pw (s : State) (f : Fld) (v : Nat) : (s.setFld f v).pw = s.pw := rfl
@[simp] theorem State.setFld_brd (s : State) (f : Fld) (v : Nat) : (s.setFld f v).brd = s.brd := rfl
@[simp] theorem State.setFld_hsl (s : State) (f : Fld) (v : Nat) : (s.setFld f v).hsl = s.hsl := rfl
@[simp] theorem State.setFld_icu (s : State) (f : Fld) (v : Nat) : (s.setFld f v).icu = s.icu := rfl
@[simp] theorem State.setFld_evf (s : State) (f : Fld) (v : Nat) : (s.setFld f v).evf = s.evf := rfl
@[simp] theorem State.setFld_tb (s : State) (f : Fld) (v : Nat) : (s.setFld f v).tb = s.tb := rfl
@[simp] theorem State.setFld_snp (s : State) (f : Fld) (v : Nat) : (s.setFld f v).snp = s.snp := rfl
@[simp] theorem State.setFld_ntm (s : State) (f : Fld) (v : Nat) : (s.setFld f v).ntm = s.ntm := rfl
@[simp] theorem State.setFld_rf (s : State) (f : Fld) (v : Nat) : (s.setFld f v).rf = s.rf := rfl
@[simp] theorem State.setFld_cap (s : State) (f : Fld) (v : Nat) : (s.setFld f v).cap = s.cap := rfl
@[simp] theorem State.setFld_dec (s : State) (f : Fld) (v : Nat) : (s.setFld f v).dec = s.dec := rfl
@[simp] theorem State.setFld_lnk (s : State) (f : Fld) (v : Nat) : (s.setFld f v).lnk = s.lnk := rfl
@[simp] theorem State.setFld_tnt (s : State) (f : Fld) (v : Nat) : (s.setFld f v).tnt = s.tnt := rfl
@[simp] theorem State.setFld_jrn (s : State) (f : Fld) (v : Nat) : (s.setFld f v).jrn = s.jrn := rfl
@[simp] theorem State.setFld_flc (s : State) (f : Fld) (v : Nat) : (s.setFld f v).flc = s.flc := rfl
@[simp] theorem State.setFld_fw (s : State) (f : Fld) (v : Nat) : (s.setFld f v).fw = s.fw := rfl
@[simp] theorem State.setFld_sec (s : State) (f : Fld) (v : Nat) : (s.setFld f v).sec = s.sec := rfl
@[simp] theorem State.setFld_pip (s : State) (f : Fld) (v : Nat) : (s.setFld f v).pip = s.pip := rfl
@[simp] theorem State.setFld_lum (s : State) (f : Fld) (v : Nat) : (s.setFld f v).lum = s.lum := rfl
@[simp] theorem State.setFld_fcr (s : State) (f : Fld) (v : Nat) : (s.setFld f v).fcr = s.fcr := rfl
@[simp] theorem State.setFld_pending (s : State) (f : Fld) (v : Nat) : (s.setFld f v).pending = s.pending := rfl

@[simp] theorem State.raise_ram (s : State) (f : Fld) : (s.raise f).ram = s.ram := rfl
@[simp] theorem State.raise_ctxGen (s : State) (f : Fld) : (s.raise f).ctxGen = s.ctxGen := rfl
@[simp] theorem State.raise_ramEpochs (s : State) (f : Fld) : (s.raise f).ramEpochs = s.ramEpochs := rfl
@[simp] theorem State.raise_flash (s : State) (f : Fld) : (s.raise f).flash = s.flash := rfl
@[simp] theorem State.raise_otp (s : State) (f : Fld) : (s.raise f).otp = s.otp := rfl
@[simp] theorem State.raise_ecc (s : State) (f : Fld) : (s.raise f).ecc = s.ecc := rfl
@[simp] theorem State.raise_board (s : State) (f : Fld) : (s.raise f).board = s.board := rfl
@[simp] theorem State.raise_subst (s : State) (f : Fld) : (s.raise f).subst = s.subst := rfl
@[simp] theorem State.raise_tick (s : State) (f : Fld) : (s.raise f).tick = s.tick := rfl
@[simp] theorem State.raise_free (s : State) (f : Fld) : (s.raise f).free = s.free := rfl
@[simp] theorem State.raise_busData (s : State) (f : Fld) : (s.raise f).busData = s.busData := rfl
@[simp] theorem State.raise_busError (s : State) (f : Fld) : (s.raise f).busError = s.busError := rfl
@[simp] theorem State.raise_pw (s : State) (f : Fld) : (s.raise f).pw = s.pw := rfl
@[simp] theorem State.raise_brd (s : State) (f : Fld) : (s.raise f).brd = s.brd := rfl
@[simp] theorem State.raise_hsl (s : State) (f : Fld) : (s.raise f).hsl = s.hsl := rfl
@[simp] theorem State.raise_icu (s : State) (f : Fld) : (s.raise f).icu = s.icu := rfl
@[simp] theorem State.raise_evf (s : State) (f : Fld) : (s.raise f).evf = s.evf := rfl
@[simp] theorem State.raise_tb (s : State) (f : Fld) : (s.raise f).tb = s.tb := rfl
@[simp] theorem State.raise_snp (s : State) (f : Fld) : (s.raise f).snp = s.snp := rfl
@[simp] theorem State.raise_ntm (s : State) (f : Fld) : (s.raise f).ntm = s.ntm := rfl
@[simp] theorem State.raise_rf (s : State) (f : Fld) : (s.raise f).rf = s.rf := rfl
@[simp] theorem State.raise_cap (s : State) (f : Fld) : (s.raise f).cap = s.cap := rfl
@[simp] theorem State.raise_dec (s : State) (f : Fld) : (s.raise f).dec = s.dec := rfl
@[simp] theorem State.raise_lnk (s : State) (f : Fld) : (s.raise f).lnk = s.lnk := rfl
@[simp] theorem State.raise_tnt (s : State) (f : Fld) : (s.raise f).tnt = s.tnt := rfl
@[simp] theorem State.raise_jrn (s : State) (f : Fld) : (s.raise f).jrn = s.jrn := rfl
@[simp] theorem State.raise_flc (s : State) (f : Fld) : (s.raise f).flc = s.flc := rfl
@[simp] theorem State.raise_fw (s : State) (f : Fld) : (s.raise f).fw = s.fw := rfl
@[simp] theorem State.raise_sec (s : State) (f : Fld) : (s.raise f).sec = s.sec := rfl
@[simp] theorem State.raise_pip (s : State) (f : Fld) : (s.raise f).pip = s.pip := rfl
@[simp] theorem State.raise_lum (s : State) (f : Fld) : (s.raise f).lum = s.lum := rfl
@[simp] theorem State.raise_fcr (s : State) (f : Fld) : (s.raise f).fcr = s.fcr := rfl
@[simp] theorem State.raise_pending (s : State) (f : Fld) : (s.raise f).pending = s.pending := rfl

@[simp] theorem State.lower_ram (s : State) (f : Fld) : (s.lower f).ram = s.ram := rfl
@[simp] theorem State.lower_ctxGen (s : State) (f : Fld) : (s.lower f).ctxGen = s.ctxGen := rfl
@[simp] theorem State.lower_ramEpochs (s : State) (f : Fld) : (s.lower f).ramEpochs = s.ramEpochs := rfl
@[simp] theorem State.lower_flash (s : State) (f : Fld) : (s.lower f).flash = s.flash := rfl
@[simp] theorem State.lower_otp (s : State) (f : Fld) : (s.lower f).otp = s.otp := rfl
@[simp] theorem State.lower_ecc (s : State) (f : Fld) : (s.lower f).ecc = s.ecc := rfl
@[simp] theorem State.lower_board (s : State) (f : Fld) : (s.lower f).board = s.board := rfl
@[simp] theorem State.lower_subst (s : State) (f : Fld) : (s.lower f).subst = s.subst := rfl
@[simp] theorem State.lower_tick (s : State) (f : Fld) : (s.lower f).tick = s.tick := rfl
@[simp] theorem State.lower_free (s : State) (f : Fld) : (s.lower f).free = s.free := rfl
@[simp] theorem State.lower_busData (s : State) (f : Fld) : (s.lower f).busData = s.busData := rfl
@[simp] theorem State.lower_busError (s : State) (f : Fld) : (s.lower f).busError = s.busError := rfl
@[simp] theorem State.lower_pw (s : State) (f : Fld) : (s.lower f).pw = s.pw := rfl
@[simp] theorem State.lower_brd (s : State) (f : Fld) : (s.lower f).brd = s.brd := rfl
@[simp] theorem State.lower_hsl (s : State) (f : Fld) : (s.lower f).hsl = s.hsl := rfl
@[simp] theorem State.lower_icu (s : State) (f : Fld) : (s.lower f).icu = s.icu := rfl
@[simp] theorem State.lower_evf (s : State) (f : Fld) : (s.lower f).evf = s.evf := rfl
@[simp] theorem State.lower_tb (s : State) (f : Fld) : (s.lower f).tb = s.tb := rfl
@[simp] theorem State.lower_snp (s : State) (f : Fld) : (s.lower f).snp = s.snp := rfl
@[simp] theorem State.lower_ntm (s : State) (f : Fld) : (s.lower f).ntm = s.ntm := rfl
@[simp] theorem State.lower_rf (s : State) (f : Fld) : (s.lower f).rf = s.rf := rfl
@[simp] theorem State.lower_cap (s : State) (f : Fld) : (s.lower f).cap = s.cap := rfl
@[simp] theorem State.lower_dec (s : State) (f : Fld) : (s.lower f).dec = s.dec := rfl
@[simp] theorem State.lower_lnk (s : State) (f : Fld) : (s.lower f).lnk = s.lnk := rfl
@[simp] theorem State.lower_tnt (s : State) (f : Fld) : (s.lower f).tnt = s.tnt := rfl
@[simp] theorem State.lower_jrn (s : State) (f : Fld) : (s.lower f).jrn = s.jrn := rfl
@[simp] theorem State.lower_flc (s : State) (f : Fld) : (s.lower f).flc = s.flc := rfl
@[simp] theorem State.lower_fw (s : State) (f : Fld) : (s.lower f).fw = s.fw := rfl
@[simp] theorem State.lower_sec (s : State) (f : Fld) : (s.lower f).sec = s.sec := rfl
@[simp] theorem State.lower_pip (s : State) (f : Fld) : (s.lower f).pip = s.pip := rfl
@[simp] theorem State.lower_lum (s : State) (f : Fld) : (s.lower f).lum = s.lum := rfl
@[simp] theorem State.lower_fcr (s : State) (f : Fld) : (s.lower f).fcr = s.fcr := rfl
@[simp] theorem State.lower_pending (s : State) (f : Fld) : (s.lower f).pending = s.pending := rfl

@[simp] theorem State.setBit_ram (s : State) (a i : Nat) : (s.setBit a i).ram = s.ram := rfl
@[simp] theorem State.setBit_ctxGen (s : State) (a i : Nat) : (s.setBit a i).ctxGen = s.ctxGen := rfl
@[simp] theorem State.setBit_ramEpochs (s : State) (a i : Nat) : (s.setBit a i).ramEpochs = s.ramEpochs := rfl
@[simp] theorem State.setBit_flash (s : State) (a i : Nat) : (s.setBit a i).flash = s.flash := rfl
@[simp] theorem State.setBit_otp (s : State) (a i : Nat) : (s.setBit a i).otp = s.otp := rfl
@[simp] theorem State.setBit_ecc (s : State) (a i : Nat) : (s.setBit a i).ecc = s.ecc := rfl
@[simp] theorem State.setBit_board (s : State) (a i : Nat) : (s.setBit a i).board = s.board := rfl
@[simp] theorem State.setBit_subst (s : State) (a i : Nat) : (s.setBit a i).subst = s.subst := rfl
@[simp] theorem State.setBit_tick (s : State) (a i : Nat) : (s.setBit a i).tick = s.tick := rfl
@[simp] theorem State.setBit_free (s : State) (a i : Nat) : (s.setBit a i).free = s.free := rfl
@[simp] theorem State.setBit_busData (s : State) (a i : Nat) : (s.setBit a i).busData = s.busData := rfl
@[simp] theorem State.setBit_busError (s : State) (a i : Nat) : (s.setBit a i).busError = s.busError := rfl
@[simp] theorem State.setBit_pw (s : State) (a i : Nat) : (s.setBit a i).pw = s.pw := rfl
@[simp] theorem State.setBit_brd (s : State) (a i : Nat) : (s.setBit a i).brd = s.brd := rfl
@[simp] theorem State.setBit_hsl (s : State) (a i : Nat) : (s.setBit a i).hsl = s.hsl := rfl
@[simp] theorem State.setBit_icu (s : State) (a i : Nat) : (s.setBit a i).icu = s.icu := rfl
@[simp] theorem State.setBit_evf (s : State) (a i : Nat) : (s.setBit a i).evf = s.evf := rfl
@[simp] theorem State.setBit_tb (s : State) (a i : Nat) : (s.setBit a i).tb = s.tb := rfl
@[simp] theorem State.setBit_snp (s : State) (a i : Nat) : (s.setBit a i).snp = s.snp := rfl
@[simp] theorem State.setBit_ntm (s : State) (a i : Nat) : (s.setBit a i).ntm = s.ntm := rfl
@[simp] theorem State.setBit_rf (s : State) (a i : Nat) : (s.setBit a i).rf = s.rf := rfl
@[simp] theorem State.setBit_cap (s : State) (a i : Nat) : (s.setBit a i).cap = s.cap := rfl
@[simp] theorem State.setBit_dec (s : State) (a i : Nat) : (s.setBit a i).dec = s.dec := rfl
@[simp] theorem State.setBit_lnk (s : State) (a i : Nat) : (s.setBit a i).lnk = s.lnk := rfl
@[simp] theorem State.setBit_tnt (s : State) (a i : Nat) : (s.setBit a i).tnt = s.tnt := rfl
@[simp] theorem State.setBit_jrn (s : State) (a i : Nat) : (s.setBit a i).jrn = s.jrn := rfl
@[simp] theorem State.setBit_flc (s : State) (a i : Nat) : (s.setBit a i).flc = s.flc := rfl
@[simp] theorem State.setBit_fw (s : State) (a i : Nat) : (s.setBit a i).fw = s.fw := rfl
@[simp] theorem State.setBit_sec (s : State) (a i : Nat) : (s.setBit a i).sec = s.sec := rfl
@[simp] theorem State.setBit_pip (s : State) (a i : Nat) : (s.setBit a i).pip = s.pip := rfl
@[simp] theorem State.setBit_lum (s : State) (a i : Nat) : (s.setBit a i).lum = s.lum := rfl
@[simp] theorem State.setBit_fcr (s : State) (a i : Nat) : (s.setBit a i).fcr = s.fcr := rfl
@[simp] theorem State.setBit_pending (s : State) (a i : Nat) : (s.setBit a i).pending = s.pending := rfl

@[simp] theorem State.clearBit_ram (s : State) (a i : Nat) : (s.clearBit a i).ram = s.ram := rfl
@[simp] theorem State.clearBit_ctxGen (s : State) (a i : Nat) : (s.clearBit a i).ctxGen = s.ctxGen := rfl
@[simp] theorem State.clearBit_ramEpochs (s : State) (a i : Nat) : (s.clearBit a i).ramEpochs = s.ramEpochs := rfl
@[simp] theorem State.clearBit_flash (s : State) (a i : Nat) : (s.clearBit a i).flash = s.flash := rfl
@[simp] theorem State.clearBit_otp (s : State) (a i : Nat) : (s.clearBit a i).otp = s.otp := rfl
@[simp] theorem State.clearBit_ecc (s : State) (a i : Nat) : (s.clearBit a i).ecc = s.ecc := rfl
@[simp] theorem State.clearBit_board (s : State) (a i : Nat) : (s.clearBit a i).board = s.board := rfl
@[simp] theorem State.clearBit_subst (s : State) (a i : Nat) : (s.clearBit a i).subst = s.subst := rfl
@[simp] theorem State.clearBit_tick (s : State) (a i : Nat) : (s.clearBit a i).tick = s.tick := rfl
@[simp] theorem State.clearBit_free (s : State) (a i : Nat) : (s.clearBit a i).free = s.free := rfl
@[simp] theorem State.clearBit_busData (s : State) (a i : Nat) : (s.clearBit a i).busData = s.busData := rfl
@[simp] theorem State.clearBit_busError (s : State) (a i : Nat) : (s.clearBit a i).busError = s.busError := rfl
@[simp] theorem State.clearBit_pw (s : State) (a i : Nat) : (s.clearBit a i).pw = s.pw := rfl
@[simp] theorem State.clearBit_brd (s : State) (a i : Nat) : (s.clearBit a i).brd = s.brd := rfl
@[simp] theorem State.clearBit_hsl (s : State) (a i : Nat) : (s.clearBit a i).hsl = s.hsl := rfl
@[simp] theorem State.clearBit_icu (s : State) (a i : Nat) : (s.clearBit a i).icu = s.icu := rfl
@[simp] theorem State.clearBit_evf (s : State) (a i : Nat) : (s.clearBit a i).evf = s.evf := rfl
@[simp] theorem State.clearBit_tb (s : State) (a i : Nat) : (s.clearBit a i).tb = s.tb := rfl
@[simp] theorem State.clearBit_snp (s : State) (a i : Nat) : (s.clearBit a i).snp = s.snp := rfl
@[simp] theorem State.clearBit_ntm (s : State) (a i : Nat) : (s.clearBit a i).ntm = s.ntm := rfl
@[simp] theorem State.clearBit_rf (s : State) (a i : Nat) : (s.clearBit a i).rf = s.rf := rfl
@[simp] theorem State.clearBit_cap (s : State) (a i : Nat) : (s.clearBit a i).cap = s.cap := rfl
@[simp] theorem State.clearBit_dec (s : State) (a i : Nat) : (s.clearBit a i).dec = s.dec := rfl
@[simp] theorem State.clearBit_lnk (s : State) (a i : Nat) : (s.clearBit a i).lnk = s.lnk := rfl
@[simp] theorem State.clearBit_tnt (s : State) (a i : Nat) : (s.clearBit a i).tnt = s.tnt := rfl
@[simp] theorem State.clearBit_jrn (s : State) (a i : Nat) : (s.clearBit a i).jrn = s.jrn := rfl
@[simp] theorem State.clearBit_flc (s : State) (a i : Nat) : (s.clearBit a i).flc = s.flc := rfl
@[simp] theorem State.clearBit_fw (s : State) (a i : Nat) : (s.clearBit a i).fw = s.fw := rfl
@[simp] theorem State.clearBit_sec (s : State) (a i : Nat) : (s.clearBit a i).sec = s.sec := rfl
@[simp] theorem State.clearBit_pip (s : State) (a i : Nat) : (s.clearBit a i).pip = s.pip := rfl
@[simp] theorem State.clearBit_lum (s : State) (a i : Nat) : (s.clearBit a i).lum = s.lum := rfl
@[simp] theorem State.clearBit_fcr (s : State) (a i : Nat) : (s.clearBit a i).fcr = s.fcr := rfl
@[simp] theorem State.clearBit_pending (s : State) (a i : Nat) : (s.clearBit a i).pending = s.pending := rfl

@[simp] theorem State.countBy_ram (s : State) (a n : Nat) : (s.countBy a n).ram = s.ram := rfl
@[simp] theorem State.countBy_ctxGen (s : State) (a n : Nat) : (s.countBy a n).ctxGen = s.ctxGen := rfl
@[simp] theorem State.countBy_ramEpochs (s : State) (a n : Nat) : (s.countBy a n).ramEpochs = s.ramEpochs := rfl
@[simp] theorem State.countBy_flash (s : State) (a n : Nat) : (s.countBy a n).flash = s.flash := rfl
@[simp] theorem State.countBy_otp (s : State) (a n : Nat) : (s.countBy a n).otp = s.otp := rfl
@[simp] theorem State.countBy_ecc (s : State) (a n : Nat) : (s.countBy a n).ecc = s.ecc := rfl
@[simp] theorem State.countBy_board (s : State) (a n : Nat) : (s.countBy a n).board = s.board := rfl
@[simp] theorem State.countBy_subst (s : State) (a n : Nat) : (s.countBy a n).subst = s.subst := rfl
@[simp] theorem State.countBy_tick (s : State) (a n : Nat) : (s.countBy a n).tick = s.tick := rfl
@[simp] theorem State.countBy_free (s : State) (a n : Nat) : (s.countBy a n).free = s.free := rfl
@[simp] theorem State.countBy_busData (s : State) (a n : Nat) : (s.countBy a n).busData = s.busData := rfl
@[simp] theorem State.countBy_busError (s : State) (a n : Nat) : (s.countBy a n).busError = s.busError := rfl
@[simp] theorem State.countBy_pw (s : State) (a n : Nat) : (s.countBy a n).pw = s.pw := rfl
@[simp] theorem State.countBy_brd (s : State) (a n : Nat) : (s.countBy a n).brd = s.brd := rfl
@[simp] theorem State.countBy_hsl (s : State) (a n : Nat) : (s.countBy a n).hsl = s.hsl := rfl
@[simp] theorem State.countBy_icu (s : State) (a n : Nat) : (s.countBy a n).icu = s.icu := rfl
@[simp] theorem State.countBy_evf (s : State) (a n : Nat) : (s.countBy a n).evf = s.evf := rfl
@[simp] theorem State.countBy_tb (s : State) (a n : Nat) : (s.countBy a n).tb = s.tb := rfl
@[simp] theorem State.countBy_snp (s : State) (a n : Nat) : (s.countBy a n).snp = s.snp := rfl
@[simp] theorem State.countBy_ntm (s : State) (a n : Nat) : (s.countBy a n).ntm = s.ntm := rfl
@[simp] theorem State.countBy_rf (s : State) (a n : Nat) : (s.countBy a n).rf = s.rf := rfl
@[simp] theorem State.countBy_cap (s : State) (a n : Nat) : (s.countBy a n).cap = s.cap := rfl
@[simp] theorem State.countBy_dec (s : State) (a n : Nat) : (s.countBy a n).dec = s.dec := rfl
@[simp] theorem State.countBy_lnk (s : State) (a n : Nat) : (s.countBy a n).lnk = s.lnk := rfl
@[simp] theorem State.countBy_tnt (s : State) (a n : Nat) : (s.countBy a n).tnt = s.tnt := rfl
@[simp] theorem State.countBy_jrn (s : State) (a n : Nat) : (s.countBy a n).jrn = s.jrn := rfl
@[simp] theorem State.countBy_flc (s : State) (a n : Nat) : (s.countBy a n).flc = s.flc := rfl
@[simp] theorem State.countBy_fw (s : State) (a n : Nat) : (s.countBy a n).fw = s.fw := rfl
@[simp] theorem State.countBy_sec (s : State) (a n : Nat) : (s.countBy a n).sec = s.sec := rfl
@[simp] theorem State.countBy_pip (s : State) (a n : Nat) : (s.countBy a n).pip = s.pip := rfl
@[simp] theorem State.countBy_lum (s : State) (a n : Nat) : (s.countBy a n).lum = s.lum := rfl
@[simp] theorem State.countBy_fcr (s : State) (a n : Nat) : (s.countBy a n).fcr = s.fcr := rfl
@[simp] theorem State.countBy_pending (s : State) (a n : Nat) : (s.countBy a n).pending = s.pending := rfl

@[simp] theorem State.count_ram (s : State) (a : Nat) : (s.count a).ram = s.ram := rfl
@[simp] theorem State.count_ctxGen (s : State) (a : Nat) : (s.count a).ctxGen = s.ctxGen := rfl
@[simp] theorem State.count_ramEpochs (s : State) (a : Nat) : (s.count a).ramEpochs = s.ramEpochs := rfl
@[simp] theorem State.count_flash (s : State) (a : Nat) : (s.count a).flash = s.flash := rfl
@[simp] theorem State.count_otp (s : State) (a : Nat) : (s.count a).otp = s.otp := rfl
@[simp] theorem State.count_ecc (s : State) (a : Nat) : (s.count a).ecc = s.ecc := rfl
@[simp] theorem State.count_board (s : State) (a : Nat) : (s.count a).board = s.board := rfl
@[simp] theorem State.count_subst (s : State) (a : Nat) : (s.count a).subst = s.subst := rfl
@[simp] theorem State.count_tick (s : State) (a : Nat) : (s.count a).tick = s.tick := rfl
@[simp] theorem State.count_free (s : State) (a : Nat) : (s.count a).free = s.free := rfl
@[simp] theorem State.count_busData (s : State) (a : Nat) : (s.count a).busData = s.busData := rfl
@[simp] theorem State.count_busError (s : State) (a : Nat) : (s.count a).busError = s.busError := rfl
@[simp] theorem State.count_pw (s : State) (a : Nat) : (s.count a).pw = s.pw := rfl
@[simp] theorem State.count_brd (s : State) (a : Nat) : (s.count a).brd = s.brd := rfl
@[simp] theorem State.count_hsl (s : State) (a : Nat) : (s.count a).hsl = s.hsl := rfl
@[simp] theorem State.count_icu (s : State) (a : Nat) : (s.count a).icu = s.icu := rfl
@[simp] theorem State.count_evf (s : State) (a : Nat) : (s.count a).evf = s.evf := rfl
@[simp] theorem State.count_tb (s : State) (a : Nat) : (s.count a).tb = s.tb := rfl
@[simp] theorem State.count_snp (s : State) (a : Nat) : (s.count a).snp = s.snp := rfl
@[simp] theorem State.count_ntm (s : State) (a : Nat) : (s.count a).ntm = s.ntm := rfl
@[simp] theorem State.count_rf (s : State) (a : Nat) : (s.count a).rf = s.rf := rfl
@[simp] theorem State.count_cap (s : State) (a : Nat) : (s.count a).cap = s.cap := rfl
@[simp] theorem State.count_dec (s : State) (a : Nat) : (s.count a).dec = s.dec := rfl
@[simp] theorem State.count_lnk (s : State) (a : Nat) : (s.count a).lnk = s.lnk := rfl
@[simp] theorem State.count_tnt (s : State) (a : Nat) : (s.count a).tnt = s.tnt := rfl
@[simp] theorem State.count_jrn (s : State) (a : Nat) : (s.count a).jrn = s.jrn := rfl
@[simp] theorem State.count_flc (s : State) (a : Nat) : (s.count a).flc = s.flc := rfl
@[simp] theorem State.count_fw (s : State) (a : Nat) : (s.count a).fw = s.fw := rfl
@[simp] theorem State.count_sec (s : State) (a : Nat) : (s.count a).sec = s.sec := rfl
@[simp] theorem State.count_pip (s : State) (a : Nat) : (s.count a).pip = s.pip := rfl
@[simp] theorem State.count_lum (s : State) (a : Nat) : (s.count a).lum = s.lum := rfl
@[simp] theorem State.count_fcr (s : State) (a : Nat) : (s.count a).fcr = s.fcr := rfl
@[simp] theorem State.count_pending (s : State) (a : Nat) : (s.count a).pending = s.pending := rfl

@[simp] theorem State.satCount_ram (s : State) (f : Fld) : (s.satCount f).ram = s.ram := rfl
@[simp] theorem State.satCount_ctxGen (s : State) (f : Fld) : (s.satCount f).ctxGen = s.ctxGen := rfl
@[simp] theorem State.satCount_ramEpochs (s : State) (f : Fld) : (s.satCount f).ramEpochs = s.ramEpochs := rfl
@[simp] theorem State.satCount_flash (s : State) (f : Fld) : (s.satCount f).flash = s.flash := rfl
@[simp] theorem State.satCount_otp (s : State) (f : Fld) : (s.satCount f).otp = s.otp := rfl
@[simp] theorem State.satCount_ecc (s : State) (f : Fld) : (s.satCount f).ecc = s.ecc := rfl
@[simp] theorem State.satCount_board (s : State) (f : Fld) : (s.satCount f).board = s.board := rfl
@[simp] theorem State.satCount_subst (s : State) (f : Fld) : (s.satCount f).subst = s.subst := rfl
@[simp] theorem State.satCount_tick (s : State) (f : Fld) : (s.satCount f).tick = s.tick := rfl
@[simp] theorem State.satCount_free (s : State) (f : Fld) : (s.satCount f).free = s.free := rfl
@[simp] theorem State.satCount_busData (s : State) (f : Fld) : (s.satCount f).busData = s.busData := rfl
@[simp] theorem State.satCount_busError (s : State) (f : Fld) : (s.satCount f).busError = s.busError := rfl
@[simp] theorem State.satCount_pw (s : State) (f : Fld) : (s.satCount f).pw = s.pw := rfl
@[simp] theorem State.satCount_brd (s : State) (f : Fld) : (s.satCount f).brd = s.brd := rfl
@[simp] theorem State.satCount_hsl (s : State) (f : Fld) : (s.satCount f).hsl = s.hsl := rfl
@[simp] theorem State.satCount_icu (s : State) (f : Fld) : (s.satCount f).icu = s.icu := rfl
@[simp] theorem State.satCount_evf (s : State) (f : Fld) : (s.satCount f).evf = s.evf := rfl
@[simp] theorem State.satCount_tb (s : State) (f : Fld) : (s.satCount f).tb = s.tb := rfl
@[simp] theorem State.satCount_snp (s : State) (f : Fld) : (s.satCount f).snp = s.snp := rfl
@[simp] theorem State.satCount_ntm (s : State) (f : Fld) : (s.satCount f).ntm = s.ntm := rfl
@[simp] theorem State.satCount_rf (s : State) (f : Fld) : (s.satCount f).rf = s.rf := rfl
@[simp] theorem State.satCount_cap (s : State) (f : Fld) : (s.satCount f).cap = s.cap := rfl
@[simp] theorem State.satCount_dec (s : State) (f : Fld) : (s.satCount f).dec = s.dec := rfl
@[simp] theorem State.satCount_lnk (s : State) (f : Fld) : (s.satCount f).lnk = s.lnk := rfl
@[simp] theorem State.satCount_tnt (s : State) (f : Fld) : (s.satCount f).tnt = s.tnt := rfl
@[simp] theorem State.satCount_jrn (s : State) (f : Fld) : (s.satCount f).jrn = s.jrn := rfl
@[simp] theorem State.satCount_flc (s : State) (f : Fld) : (s.satCount f).flc = s.flc := rfl
@[simp] theorem State.satCount_fw (s : State) (f : Fld) : (s.satCount f).fw = s.fw := rfl
@[simp] theorem State.satCount_sec (s : State) (f : Fld) : (s.satCount f).sec = s.sec := rfl
@[simp] theorem State.satCount_pip (s : State) (f : Fld) : (s.satCount f).pip = s.pip := rfl
@[simp] theorem State.satCount_lum (s : State) (f : Fld) : (s.satCount f).lum = s.lum := rfl
@[simp] theorem State.satCount_fcr (s : State) (f : Fld) : (s.satCount f).fcr = s.fcr := rfl
@[simp] theorem State.satCount_pending (s : State) (f : Fld) : (s.satCount f).pending = s.pending := rfl

/-! ## A draw counts itself and touches nothing else -/

@[simp] theorem State.draw_free (s : State) (m : Nat) : (s.draw m).2.free = s.free + 1 := rfl
@[simp] theorem State.draw_regs (s : State) (m : Nat) : (s.draw m).2.regs = s.regs := rfl
@[simp] theorem State.draw_ram (s : State) (m : Nat) : (s.draw m).2.ram = s.ram := rfl
@[simp] theorem State.draw_ctxGen (s : State) (m : Nat) : (s.draw m).2.ctxGen = s.ctxGen := rfl
@[simp] theorem State.draw_ramEpochs (s : State) (m : Nat) : (s.draw m).2.ramEpochs = s.ramEpochs := rfl
@[simp] theorem State.draw_flash (s : State) (m : Nat) : (s.draw m).2.flash = s.flash := rfl
@[simp] theorem State.draw_otp (s : State) (m : Nat) : (s.draw m).2.otp = s.otp := rfl
@[simp] theorem State.draw_ecc (s : State) (m : Nat) : (s.draw m).2.ecc = s.ecc := rfl
@[simp] theorem State.draw_board (s : State) (m : Nat) : (s.draw m).2.board = s.board := rfl
@[simp] theorem State.draw_subst (s : State) (m : Nat) : (s.draw m).2.subst = s.subst := rfl
@[simp] theorem State.draw_tick (s : State) (m : Nat) : (s.draw m).2.tick = s.tick := rfl
@[simp] theorem State.draw_busData (s : State) (m : Nat) : (s.draw m).2.busData = s.busData := rfl
@[simp] theorem State.draw_busError (s : State) (m : Nat) : (s.draw m).2.busError = s.busError := rfl
@[simp] theorem State.draw_pw (s : State) (m : Nat) : (s.draw m).2.pw = s.pw := rfl
@[simp] theorem State.draw_brd (s : State) (m : Nat) : (s.draw m).2.brd = s.brd := rfl
@[simp] theorem State.draw_hsl (s : State) (m : Nat) : (s.draw m).2.hsl = s.hsl := rfl
@[simp] theorem State.draw_icu (s : State) (m : Nat) : (s.draw m).2.icu = s.icu := rfl
@[simp] theorem State.draw_evf (s : State) (m : Nat) : (s.draw m).2.evf = s.evf := rfl
@[simp] theorem State.draw_tb (s : State) (m : Nat) : (s.draw m).2.tb = s.tb := rfl
@[simp] theorem State.draw_snp (s : State) (m : Nat) : (s.draw m).2.snp = s.snp := rfl
@[simp] theorem State.draw_ntm (s : State) (m : Nat) : (s.draw m).2.ntm = s.ntm := rfl
@[simp] theorem State.draw_rf (s : State) (m : Nat) : (s.draw m).2.rf = s.rf := rfl
@[simp] theorem State.draw_cap (s : State) (m : Nat) : (s.draw m).2.cap = s.cap := rfl
@[simp] theorem State.draw_dec (s : State) (m : Nat) : (s.draw m).2.dec = s.dec := rfl
@[simp] theorem State.draw_lnk (s : State) (m : Nat) : (s.draw m).2.lnk = s.lnk := rfl
@[simp] theorem State.draw_tnt (s : State) (m : Nat) : (s.draw m).2.tnt = s.tnt := rfl
@[simp] theorem State.draw_jrn (s : State) (m : Nat) : (s.draw m).2.jrn = s.jrn := rfl
@[simp] theorem State.draw_flc (s : State) (m : Nat) : (s.draw m).2.flc = s.flc := rfl
@[simp] theorem State.draw_fw (s : State) (m : Nat) : (s.draw m).2.fw = s.fw := rfl
@[simp] theorem State.draw_sec (s : State) (m : Nat) : (s.draw m).2.sec = s.sec := rfl
@[simp] theorem State.draw_pip (s : State) (m : Nat) : (s.draw m).2.pip = s.pip := rfl
@[simp] theorem State.draw_lum (s : State) (m : Nat) : (s.draw m).2.lum = s.lum := rfl
@[simp] theorem State.draw_fcr (s : State) (m : Nat) : (s.draw m).2.fcr = s.fcr := rfl
@[simp] theorem State.draw_pending (s : State) (m : Nat) : (s.draw m).2.pending = s.pending := rfl

end Sys2Proof.Machine
end

