-- ==== Sys2Proof/Laws/Host.lean ====
section
/-!
SUPPORT. Host commands: a frame that is sent is out or waits; a command that is taken runs its handler in the state
`taking` and its reply is sent; what taking it leaves alone.
-/

namespace Sys2Proof.Machine

theorem mem_queueFrame (q : List HslFrame) (f : HslFrame) : f ∈ queueFrame q f := by
  induction q with
  | nil => simp [queueFrame]
  | cons g t ih => unfold queueFrame; split <;> simp [ih]

/-- A frame that is sent has gone out, or waits. -/
theorem State.mem_send (s : State) (f : HslFrame) : f ∈ (s.send f).hsl.out ∨ f ∈ (s.send f).hsl.waiting := by
  unfold State.send
  split
  · left; simp [State.emit]
  · right; simp [mem_queueFrame]

/-- An answer is a response. -/
theorem State.responded_answer (s : State) (o : Origin) (code : Nat) (st : Status) (rest : List Byte) :
    (s.answer o code st rest).responded o (rspPayload code st rest) := State.mem_send _ _

theorem State.responded_respond (s : State) (o : Origin) (code : Nat) (st : Status) (rest : List Byte) :
    (s.respond o code st rest).responded o (rspPayload code st rest) := State.mem_send _ _

theorem State.chan_count (s : State) (a : Nat) (ep : Endpoint) (ch : Nat) :
    (s.count a).chan ep ch = s.chan ep ch := rfl

theorem State.chan_frameIn (s : State) (o : Option Origin) (ep : Endpoint) (ch : Nat) :
    (s.frameIn o).chan ep ch = s.chan ep ch := rfl

/-- A command that is taken runs its handler in the state `taking`, and its reply is sent. -/
theorem hostCommand_takes {s : State} {o : Origin} {code : Nat} {p : List Byte} {lenOk : Nat → Bool} {h : Handler}
    (ht : s.takes o code p) (hl : lenOk p.length = true) :
    hostCommand code lenOk h o p s =
      match h o p (s.taking o) with
      | (.now st rest, s) => s.respond o code st rest
      | (.later, s) => s := by
  obtain ⟨h1, h2, h3, h4, h5, h6, h7⟩ := ht
  have hs : (s.frameIn (some o)).serves o code = true := h6
  have hb : (s.frameIn (some o)).pw.boot = s.pw.boot := rfl
  have hn : (s.frameIn (some o)).tb.now = s.tb.now := rfl
  have htun : (o.ep == Endpoint.tunnel && decide (1024 < p.length + 2)) = false := by
    by_cases he : o.ep = .tunnel
    · have := h7 he; simp; omega
    · simp [he]
  unfold hostCommand
  simp only [h1, Bool.not_true, Bool.false_eq_true, if_false, htun, hl, if_true]
  unfold takeCommand
  simp only [State.chan_frameIn, hb]
  have e1 : (code = 0x10 && !(s.pw.boot == .run || s.pw.boot == .service || s.pw.boot == .halt)) = false := by
    by_cases hc : code = 0x10
    · rcases h2 hc with h | h | h <;> simp [h]
    · simp [hc]
  have e2 : ((code != 0x10) && !(s.chan o.ep o.ch).opened) = false := by
    by_cases hc : code = 0x10
    · simp [hc]
    · simp [h3 hc]
  have e3 : ((s.chan o.ep o.ch).last == some o.seq) = false := by simpa using h5
  simp only [e1, e2, e3, h4, hs, Bool.false_and, Bool.false_eq_true, if_false, if_true]
  rfl

end Sys2Proof.Machine
end

