-- ==== Sys2Proof/Laws/Memory.lean ====
section
/-!
SUPPORT. Memory: a byte written to SRAM is read back, every other byte keeps its value, other storage ignores the write
(R30), and every operation keeps the canonical form.
-/

namespace Sys2Proof.Machine

/-- Storage that a bus write changes (R30). -/
def ramAt (a : Nat) : Bool := region a == .mainSram || region a == .retained || region a == .context

/-- A write to anything that is not SRAM changes nothing. -/
theorem State.setByte_other {s : State} {a : Nat} (b : Byte) (h : ramAt a = false) : s.setByte a b = s := by
  unfold State.setByte
  unfold ramAt at h
  cases hr : region a <;> simp_all

/-- A byte written to SRAM is read back. -/
theorem State.byte_setByte_self {s : State} {a : Nat} (b : Byte) (h : ramAt a = true) :
    (s.setByte a b).byte a = b := by
  unfold ramAt at h
  unfold State.byte State.setByte
  cases hr : region a <;> simp_all
  cases hg : s.ctxGen with
  | none => simp
  | some g =>
    simp only [State.ctxBlank]
    exact Sparse.get_put_self (ctxByte g) s.ram a b

/-- Every other byte keeps its value. -/
theorem State.byte_setByte_ne (s : State) {a a' : Nat} (b : Byte) (h : a' ≠ a) : (s.setByte a b).byte a' = s.byte a' := by
  have hb : ∀ r : List Host.Cell, (∀ d : Byte, (Sparse.find? r a').getD d = (Sparse.find? s.ram a').getD d) →
      State.byte { s with ram := r } a' = s.byte a' := by
    intro r hr
    unfold State.byte
    cases region a' <;> simp [State.flashByte, State.sramEpoch, State.epoch, State.ctxBlank, hr]
  unfold State.setByte
  split
  · exact hb _ fun d => by rw [Sparse.find?_insert_ne _ _ h]
  · exact hb _ fun d => by rw [Sparse.find?_insert_ne _ _ h]
  · split
    · refine hb _ fun d => ?_
      unfold Sparse.put
      split
      · rw [Sparse.find?_erase_ne _ h]
      · rw [Sparse.find?_insert_ne _ _ h]
    · exact hb _ fun d => by rw [Sparse.find?_insert_ne _ _ h]
  · rfl

/-- Bytes outside those written keep their values. -/
theorem State.byte_setBytes_outside (s : State) {a a' : Nat} (bs : List Byte) (h : a' < a ∨ a + bs.length ≤ a') :
    (s.setBytes a bs).byte a' = s.byte a' := by
  induction bs generalizing s a with
  | nil => rfl
  | cons b t ih =>
    simp only [List.length_cons] at h
    rw [State.setBytes, ih _ (by omega), State.byte_setByte_ne _ _ (by omega)]

/-- A register write changes no byte of memory. -/
@[simp] theorem State.byte_setReg (s : State) (r : Nat) (w : Word) (a : Nat) : (s.setReg r w).byte a = s.byte a := rfl

/-- A write of SRAM keeps the canonical form. -/
theorem State.memWf_setByte {s : State} (h : s.memWf = true) (a : Nat) (b : Byte) : (s.setByte a b).memWf = true := by
  simp only [State.memWf, Bool.and_eq_true] at h
  obtain ⟨⟨⟨h1, h2⟩, h3⟩, h4⟩ := h
  have build : ∀ r : List Host.Cell, Sparse.rising r = true →
      Sparse.all r (fun a b => region a == .mainSram || region a == .retained
        || (region a == .context && (match s.ctxGen with | some g => b != ctxByte g a | none => true))) = true →
      ({ s with ram := r } : State).memWf = true := by
    intro r hr ha
    simp only [State.memWf, Bool.and_eq_true]
    exact ⟨⟨⟨hr, ha⟩, h3⟩, h4⟩
  unfold State.setByte
  split
  · rename_i hr; exact build _ (Sparse.rising_insert h1 _ _) (Sparse.all_insert h2 (by simp [hr]))
  · rename_i hr; exact build _ (Sparse.rising_insert h1 _ _) (Sparse.all_insert h2 (by simp [hr]))
  · rename_i hr
    split
    · rename_i g hg
      refine build _ ?_ ?_
      · unfold Sparse.put
        split
        · exact Sparse.rising_filter h1 _
        · exact Sparse.rising_insert h1 _ _
      · unfold Sparse.put
        split
        · exact Sparse.all_filter h2 _
        · rename_i hb; exact Sparse.all_insert h2 (by simp [hr, hg, hb])
    · rename_i hg; exact build _ (Sparse.rising_insert h1 _ _) (Sparse.all_insert h2 (by simp [hr, hg]))
  · simp only [State.memWf, Bool.and_eq_true]; exact ⟨⟨⟨h1, h2⟩, h3⟩, h4⟩

theorem State.memWf_setBytes {s : State} (h : s.memWf = true) (a : Nat) (bs : List Byte) :
    (s.setBytes a bs).memWf = true := by
  induction bs generalizing s a with
  | nil => exact h
  | cons b t ih => exact ih (State.memWf_setByte h a b) _

/-- Programming and erasing flash keep the canonical form. -/
theorem State.memWf_setFlash {s : State} (h : s.memWf = true) (off : Nat) (bs : List Byte) :
    (s.setFlash off bs).memWf = true := by
  induction bs generalizing s off with
  | nil => exact h
  | cons b t ih =>
    refine ih (s := { s with flash := Sparse.put (fun _ => 0xFF) s.flash off b }) ?_ _
    simp only [State.memWf, Bool.and_eq_true] at h ⊢
    exact ⟨⟨h.1.1, Sparse.wf_put h.1.2 _ _⟩, h.2⟩

theorem State.memWf_eraseFlash {s : State} (h : s.memWf = true) (lo hi : Nat) : (s.eraseFlash lo hi).memWf = true := by
  simp only [State.memWf, State.eraseFlash, Bool.and_eq_true] at h ⊢
  exact ⟨⟨h.1.1, Sparse.wf_filter h.1.2 _⟩, h.2⟩

/-- Setting OTP bits keeps the canonical form. -/
theorem State.memWf_orOtp {s : State} (h : s.memWf = true) (w n : Nat) : (s.orOtp w n).memWf = true := by
  simp only [State.memWf, State.orOtp, Bool.and_eq_true] at h ⊢
  exact ⟨h.1, Sparse.wf_put h.2 _ _⟩

/-- Register writes change nothing that the memory's form speaks of. -/
theorem State.memWf_setReg {s : State} (h : s.memWf = true) (a : Nat) (w : Word) : (s.setReg a w).memWf = true := h

end Sys2Proof.Machine
end

