-- ==== Sys2Proof/WellFormed.lean ====
section
/-!
DEFINITION. Which commands are well formed: every operand is one that the block has, in the ranges the manual gives them.
-/

namespace Sys2Proof

/-- A number in `[lo, hi)`. -/
def inRange (lo hi n : Nat) : Bool := lo ≤ n && n < hi

/-- A signed byte. -/
def signedByte (i : Int) : Bool := -128 ≤ i && i ≤ 127

/-- Register values. -/
def words (l : List Nat) : Bool := l.all (fun n => n < 2 ^ 32)

/-- A host command: a command channel 0-14, a 16-bit sequence number, and a payload that with the command code fills at
most the 4,096 bytes of R373. -/
def hostCommand (o : Origin) (p : List Byte) : Bool := o.ch ≤ 14 && o.seq < 0x10000 && p.length ≤ 4094

/-- A received link frame: its handle and its payload. -/
def linkFrame (h : Nat) (p : List Byte) : Bool := h < 0x10000 && p.length ≤ 4096

/-- Every operand is in its range. -/
def wellFormed (i : Instr) : Bool :=
  match i with
  | .registerWrite _ addr _ => addr % 4 == 0 && inRange 0x40000000 0x41000000 addr
  | .rcRead addr again => addr % 4 == 0 && inRange 0x40000000 0x41000000 addr && again < 2 ^ 32
  | .modeRequest core _ _ => core < 5
  | .modeSet o p => hostCommand o p
  | .modeGet o p => hostCommand o p
  | .modeTransitionDone => true
  | .wSleepEntry => true
  | .modeWakeTime => true
  | .wakeSource src => inRange 16 21 src
  | .wakeTimeout _ => true
  | .padLatch => true
  | .drainEnd => true
  | .xrefTransitionTimeout => true
  | .clusterIdle n => n < 4
  | .clusterPowered n => n < 4
  | .supplyFailure => true
  | .supplyClear => true
  | .supplyRestored => true
  | .lastgaspFlushDone => true
  | .lastgaspEnd => true
  | .boardWrite o p => hostCommand o p
  | .boardErase o p => hostCommand o p
  | .boardVerify o p => hostCommand o p
  | .boardSwap o p => hostCommand o p
  | .boardAbort o p => hostCommand o p
  | .boardReload o p => hostCommand o p
  | .boardBootlist o p => hostCommand o p
  | .boardStatus o p => hostCommand o p
  | .swapctlStart _ _ => true
  | .swapctlAbort _ _ => true
  | .swapStaged => true
  | .swapDrain => true
  | .swapBoundary => true
  | .swapPersistDone => true
  | .fullReloadDone => true
  | .lpBrownout => true
  | .lpmonUpdate _ => true
  | .buckCurrentLimit _ => true
  | .xlfFail => true
  | .xlfQualified => true
  | .lfratioMeasure ticks => ticks < 2 ^ 32
  | .hfrcFail => true
  | .xrefReady => true
  | .xrefFail => true
  | .xrefRetry => true
  | .pllcWrite _ _ => true
  | .pllfWrite _ _ => true
  | .pllLock _ => true
  | .pllLockLoss _ => true
  | .spreadApply => true
  | .padHoldRelease _ _ => true
  | .waketmrWrite _ _ => true
  | .waketmrFire => true
  | .powerOn => true
  | .resetNLow => true
  | .resetNRise => true
  | .coreBrownout => true
  | .watchdog => true
  | .wdtkick _ _ => true
  | .wdtearly => true
  | .swrstCore _ _ => true
  | .swrstSystem _ _ => true
  | .swrstAlwaysOn _ _ => true
  | .sysReset o p => hostCommand o p
  | .sysResetAssert => true
  | .startUp _ tamper => tamper < 2 ^ 11
  | .journalRecoveryDone => true
  | .holdupMeasurementDone _ _ => true
  | .handover _ _ => true
  | .coreRelease _ _ => true
  | .chainLockStart _ => true
  | .channelLock _ => true
  | .lockfail _ => true
  | .coexRequest _ => true
  | .transmitGate _ _ => true
  | .rampupEnd _ => true
  | .txLastSymbol _ => true
  | .rampdnEnd _ => true
  | .turnEnd _ => true
  | .cxGntLoss _ => true
  | .calStart _ _ _ => true
  | .calAutoStart _ => true
  | .calDone _ _ temp => signedByte temp
  | .caldue _ => true
  | .rampCommit _ _ _ => true
  | .afcTrack _ _ => true
  | .caplockLoss _ => true
  | .dutyBin => true
  | .dutyBlockClose => true
  | .wakeTelegram _ pattern => pattern < 2 ^ 32
  | .wkrFloorEstimate level => signedByte level
  | .rfStatus o p => hostCommand o p
  | .rfCal o p => hostCommand o p
  | .rfDuty o p => hostCommand o p
  | .wkrSet o p => hostCommand o p
  | .detectorFire b slice mode _ => b < 2 && slice < 256 && mode < 256
  | .arbitration b => b < 2
  | .candidateExpire b => b < 2
  | .ctxSync n _ _ => n < 80
  | .ctxFalsedet n => n < 80
  | .ctxHeader n bits _ => n < 80 && bits < 2 ^ 48
  | .ctxRelease n => n < 80
  | .sampleOverflow b => b < 2
  | .sampleInvalid b => b < 2
  | .agcAttack b _ _ => b < 2
  | .agcDecay b => b < 2
  | .modeSwitch n mode => n < 80 && mode < 256
  | .blockDispatch n _ => n < 80
  | .blockDecodeDone index _ _ => index < 16
  | .slotExpire index => index < 16
  | .lnkSubmit _ _ => true
  | .lnkCancel _ _ => true
  | .lnkNext0Read => true
  | .actionClaim n => n < 512
  | .actionStart n => n < 512
  | .rxWindowEnd n _ => n ≤ 512
  | .listenBusy n _ => n < 512
  | .listenClear n => n < 512
  | .backoffEnd n => n < 512
  | .actionComplete n => n < 512
  | .completionWrite n => n < 512
  | .frameReceived => true
  | .rxrelease _ _ => true
  | .ringReadAdvance _ r _ => r < 4
  | .rxConfigApply => true
  | .ringConfigApply r => r < 4
  | .watchListen => true
  | .chainIdle _ => true
  | .linkcmdOpen _ _ => true
  | .linkcmdClose _ _ => true
  | .linkcmdRelease _ _ => true
  | .linkcmdSwap _ _ => true
  | .linkcmdChmap _ _ => true
  | .linkOpen o p => hostCommand o p
  | .linkClose o p => hostCommand o p
  | .linkRelease o p => hostCommand o p
  | .linkSwap o p => hostCommand o p
  | .linkGet o p => hostCommand o p
  | .tenantStatus o p => hostCommand o p
  | .linkEvent index => index < 1024
  | .supervisionTimeout index => index < 1024
  | .openCmd h _ _ p => linkFrame h p
  | .openAck h _ p => linkFrame h p
  | .close h _ p => linkFrame h p
  | .closeAck h _ p => linkFrame h p
  | .swapReq h _ p => linkFrame h p
  | .swapRsp h _ p => linkFrame h p
  | .chmap h _ p => linkFrame h p
  | .keepalive h _ p => linkFrame h p
  | .qpost _ _ => true
  | .schedulingPass => true
  | .ntmAbort _ _ => true
  | .ntmSet _ _ => true
  | .ntmStep _ _ => true
  | .ntmSlew _ _ => true
  | .ntmCapture _ _ => true
  | .incintWrite _ _ => true
  | .slewEnd => true
  | .deferredAdjust => true
  | .roundBoundary => true
  | .slotBoundary => true
  | .syncEdge _ => true
  | .syncRound => true
  | .timeGet o p => hostCommand o p
  | .timeSet o p => hostCommand o p
  | .jrnSubmit _ _ => true
  | .commitDone => true
  | .bufferFlush => true
  | .custodyData h p => linkFrame h p
  | .cack h p => linkFrame h p
  | .retransmit j => j < 2 ^ 32
  | .delivery j => j < 2 ^ 32
  | .jrnRelease _ _ => true
  | .messageExpire j => j < 2 ^ 32
  | .flowFree _ => true
  | .flowcmdOpen _ _ => true
  | .flowcmdClose _ _ => true
  | .flowcmdEpoch _ _ => true
  | .flowcmdGet _ _ => true
  | .msgSend o p => hostCommand o p
  | .msgRelease o p => hostCommand o p
  | .flowOpen o p => hostCommand o p
  | .flowClose o p => hostCommand o p
  | .flowEpoch o p => hostCommand o p
  | .flowGet o p => hostCommand o p
  | .jrnStatus o p => hostCommand o p
  | .holdTest o p => hostCommand o p
  | .journalCheckpoint => true
  | .deliveryConfigApply => true
  | .planeFail k status => k < 2 && status < 0x10000
  | .hslFrame _ _ _ => true
  | .hslAckTimer _ ch => ch < 15
  | .hslAck _ seq => seq < 0x10000
  | .noticeSend => true
  | .noticeRetransmit seq => seq < 0x10000
  | .hslWake _ => true
  | .hslSync o p => hostCommand o p
  | .hslStatus o p => hostCommand o p
  | .hslArbitration _ => true
  | .hslConfigApply => true
  | .flProgram core => core < 5
  | .flErase core => core < 5
  | .flPoll core => core < 5
  | .flScrub core => core < 5
  | .flNvwrite core copies => core < 5 && copies ≤ 3
  | .flNvrepair core => core < 5
  | .flRdp core => core < 5
  | .flOtpwrite core => core < 5
  | .flInfo core => core < 5
  | .flReservedEntry core => core < 5
  | .flashEraseDone => true
  | .rdpLowerDone => true
  | .eraseResume => true
  | .scrubRead _ _ _ => true
  | .flcOpProgramUnit _ _ _ => true
  | .flcOpEraseSector _ _ _ => true
  | .flcOpErasePlane _ _ _ => true
  | .flcOpSuspend _ _ _ => true
  | .flcOpResume _ _ _ => true
  | .flcOpProgramOtp _ _ _ => true
  | .flcOpDone => true
  | .otpaddrWrite _ _ => true
  | .dfiWrite o p => hostCommand o p
  | .dfiRead o p => hostCommand o p
  | .rlrWrite o p => hostCommand o p
  | .rlrRead o p => hostCommand o p
  | .nvStatus o p => hostCommand o p
  | .userWrite o p => hostCommand o p
  | .userRead o p => hostCommand o p
  | .userErase o p => hostCommand o p
  | .fwWrite o p => hostCommand o p
  | .fwErase o p => hostCommand o p
  | .fwVerify o p => hostCommand o p
  | .fwActivate o p => hostCommand o p
  | .fwCancel o p => hostCommand o p
  | .fwConfirm o p => hostCommand o p
  | .fwStatus o p => hostCommand o p
  | .activationKeeper => true
  | .activationQuiesce => true
  | .activationReset => true
  | .autoConfirm => true
  | .keyLoad _ _ _ => true
  | .keyClear _ _ => true
  | .tunkeyWrite _ _ => true
  | .cryptoStart c _ _ => c < 8
  | .cryptoAbort c _ _ => c < 8
  | .cryptoChunk _ => true
  | .cryptoDone c => c < 8
  | .rngWindow => true
  | .rngHealthFail test => 1 ≤ test && test ≤ 3
  | .rngAutoRestart => true
  | .rngRestart _ _ => true
  | .rngRequest n _ _ => n < 4
  | .rngRequestDone n => n < 4
  | .tamperAlarm src _ => src < 11
  | .keyStoreErase => true
  | .latchClear _ _ => true
  | .secStatus o p => hostCommand o p
  | .keyProvision o p => hostCommand o p
  | .keyRevoke o p => hostCommand o p
  | .tamperClear o p => hostCommand o p
  | .rngStatus o p => hostCommand o p
  | .alu core _ => core < 5
  | .addi core _ => core < 5
  | .andi core _ => core < 5
  | .ori core _ => core < 5
  | .xori core _ => core < 5
  | .tlti core _ => core < 5
  | .tltiu core _ => core < 5
  | .shi core _ => core < 5
  | .ldhi core _ => core < 5
  | .addpch core _ => core < 5
  | .ldb core _ => core < 5
  | .ldbu core _ => core < 5
  | .ldh core _ => core < 5
  | .ldhu core _ => core < 5
  | .ldw core _ => core < 5
  | .stb core _ => core < 5
  | .sth core _ => core < 5
  | .stw core _ => core < 5
  | .memx core _ => core < 5
  | .ldf core _ => core < 5
  | .stf core _ => core < 5
  | .br core _ => core < 5
  | .j core _ => core < 5
  | .call core _ => core < 5
  | .jr core _ => core < 5
  | .callr core _ => core < 5
  | .ret core _ => core < 5
  | .getdsp core _ => core < 5
  | .setdsp core _ => core < 5
  | .push core _ => core < 5
  | .pop core _ => core < 5
  | .getrsp core _ => core < 5
  | .mfs core _ => core < 5
  | .mts core _ => core < 5
  | .trap core _ => core < 5
  | .eret core _ => core < 5
  | .wait core _ => core < 5
  | .swap core _ => core < 5
  | .cas core _ => core < 5
  | .setie core _ => core < 5
  | .fp core _ => core < 5
  | .dspm core _ => core < 5
  | .intCmd core => core < 5
  | .waitWake core => core < 5
  | .interruptSource core id _ => core < 5 && id < 1024
  | .presentation core => core < 5
  | .eoi _ core _ => core < 5
  | .doorbell _ core writer _ => core < 4 && writer < 8
  | .swset _ _ => true
  | .swclr _ _ => true
  | .icuRingRead _ core _ => core < 5
  | .icuRingConfig core => core < 5
  | .fire _ _ => true
  | .firem _ j _ => j < 8
  | .aonfire _ _ => true
  | .grpset _ _ => true
  | .grpclr _ _ => true
  | .groupEdge g => g < 16
  | .eventEdge code _ => code < 512
  | .consumerAccept input => input < 65
  | .tmbCapture _ _ => true
  | .compareMatch n => n < 96
  | .stagger _ _ => true
  | .cmphiWrite _ n _ => n < 96
  | .cmploRead n => n < 96
  | .capstatRead c => c < 32
  | .pmstatRead n => n < 16
  | .pmctlDisable _ n => n < 16
  | .tmbStop => true
  | .tmbMakeup => true
  | .tmbResume => true
  | .snapshotTake _ _ => true
  | .snapshotFillDone => true
  | .snapRead o p => hostCommand o p
  | .daliSend index _ _ => index < 2
  | .daliFrameStart index => index < 2
  | .daliTxDone index => index < 2
  | .daliCollision index => index < 2
  | .daliRxFrame index data bits _ => index < 2 && data < 2 ^ 32 && bits < 64
  | .daliBackwardTimeout index => index < 2
  | .daliBusfail index _ => index < 2
  | .rxinfoRead index => index < 2
  | .dmoFade n => n < 4
  | .dmoPeriod n => n < 4
  | .metZeroCrossing => true
  | .metPeriod v i1 i2 p1 p2 period _ _ _ => words [v, i1, i2, p1, p2, period]
  | .metNozc => true
  | .eclr _ _ => true
  | .energyRead k => k < 2
  | .serGo k _ _ => k < 12
  | .serAbort k _ _ => k < 12
  | .serDone k r _ _ => k < 12 && r ≤ 4
  | .txfifoPush k _ _ => k < 12
  | .rxfifoPop k => k < 12
  | .serRxByte k b err => k < 12 && b < 256 && err ≤ 2
  | .bistRun o p => hostCommand o p
  | .bistGo _ _ => true
  | .bistDone sigs _ => sigs.all (fun p => p.1 < 8)
  | .bistResult o p => hostCommand o p
  | .fcrRead o p => hostCommand o p
  | .faultCommit => true
  | .swapWindowClose _ => true
  | .samplesValid b => b < 2
  | .xrefStartTimeout => true
  | .pwrdrop _ => true
  | .wkrBlankingEnd => true
  | .wearoverClear => true
  | .hslLengthDiscard length => 4096 < length

end Sys2Proof
end

