-- ==== Sys2Proof/Tests/Slice0.lean ====
section
/-!
SUPPORT. The model's own tests: ill-formed commands that `wellFormed` refuses, worked values from the manual, and for every
statement states and operands that meet its hypotheses, clause by clause.
-/

open Sys2Proof Sys2Proof.Machine
namespace Sys2Proof.Tests

set_option Elab.async false

/-- Every domain on, NODE profile 0, firmware running, channel 0 of the local endpoint open. -/
def node : State :=
  { ((State.reset.setRegN A.pmuDomstat 0x7FE).setRegN A.pmuModestat 2) with
    pw := { boot := .run, recovered := true, holdupDone := true, watchdogPaused := false }
    hsl := { chans := [(0, { opened := true })], wake := true } }

/-- A command of channel 0. -/
def wO : Origin := { ep := .loc, ch := 0, seq := 1 }

/-- `node` with core 0 running, its registers as given. -/
def caller (g : List (Nat × Word)) : State := { node with pip := [(0, { run := .running, g := g })] }

/-- An empty Defaults Image, and a regulatory record without a band. -/
def dfi0 : List Byte := dfiSeal (dfiImage []) 1
def rlr0 : List Byte := [0x52, 0x4C, 0x52, 0x31, 0, 1, 0, 0] ++ List.replicate 536 0

/-- `rlr0` as a copy of generation 1 holds it, and a BIST record whose fields are all ones. -/
def rlr1 : List Byte :=
  [0x52, 0x4C, 0x52, 0x31, 0, 1, 0, 0, 1, 0, 0, 0] ++ List.replicate 16 0 ++ [0xEB, 0x4F, 0xB6, 0x0C] ++ List.replicate 512 0
def bist0 : List Byte := [0x42, 0x53, 0x54, 0x31] ++ List.replicate 248 0xFF ++ [151, 36, 46, 1]

/-- Bytes in storage from an address on. -/
def cells (a : Nat) : List Byte → List (Nat × Byte)
  | [] => []
  | x :: t => (a, x) :: cells (a + 1) t

theorem find?_append_cells {a : Nat} {x : Byte} {t : List (Nat × Byte)} {pre : List (Nat × Byte)}
    (h : ∀ p ∈ pre, p.1 ≠ a) : Sparse.find? (pre ++ (a, x) :: t) a = some x := by
  induction pre with
  | nil => simp [Sparse.find?]
  | cons p q ih =>
    rw [List.cons_append, Sparse.find?, if_neg (h p (by simp))]
    exact ih (fun r hr => h r (by simp [hr]))

/-- Bytes that stand in flash are read back. -/
theorem flashBytes_cells {s : State} {l : List Byte} {a : Nat} {pre : List (Nat × Byte)} (hf : s.flash = pre ++ cells a l)
    (hp : ∀ p ∈ pre, p.1 < a) (h1 : s.flc.redirect = none) (h2 : s.flc.junk = []) (h3 : s.flc.junkUnits = []) :
    s.flashBytes a l.length = l := by
  induction l generalizing a pre with
  | nil => rfl
  | cons x t ih =>
    have hx : s.flashByte a = x := by
      have : Sparse.find? s.flash a = some x := by
        rw [hf]; exact find?_append_cells (fun p hm => Nat.ne_of_lt (hp p hm))
      simp [State.flashByte, h1, h2, h3, Sparse.find?, Sparse.get, this]
    rw [List.length_cons, State.flashBytes, hx,
      ih (a := a + 1) (pre := pre ++ [(a, x)]) (by rw [hf]; simp [cells])
        (fun p hm => by
          rcases List.mem_append.mp hm with h | h
          · exact Nat.lt_succ_of_lt (hp p h)
          · simp at h; simp [h])]

/-- Bytes that stand in retained SRAM are read back. -/
theorem bytes_cells {s : State} {l : List Byte} {a : Nat} {pre : List (Nat × Byte)} (hf : s.ram = pre ++ cells a l)
    (hp : ∀ p ∈ pre, p.1 < a) (h1 : 0x24000000 ≤ a) (h2 : a + l.length ≤ 0x24040000) :
    s.bytes a l.length = l := by
  induction l generalizing a pre with
  | nil => rfl
  | cons x t ih =>
    rw [List.length_cons] at h2
    have hx : s.byte a = x := by
      have hr : region a = .retained := by unfold region; repeat (first | rw [if_neg (by simp; omega)] | rw [if_pos (by simp; omega)])
      have : Sparse.find? s.ram a = some x := by
        rw [hf]; exact find?_append_cells (fun p hm => Nat.ne_of_lt (hp p hm))
      simp [State.byte, hr, this]
    rw [List.length_cons, State.bytes, hx,
      ih (a := a + 1) (pre := pre ++ [(a, x)]) (by rw [hf]; simp [cells])
        (fun p hm => by
          rcases List.mem_append.mp hm with h | h
          · exact Nat.lt_succ_of_lt (hp p h)
          · simp at h; simp [h]) (by omega) (by omega)]

theorem crcRun_append (c : Nat) (a b : List Byte) : crcRun c (a ++ b) = crcRun (crcRun c a) b := by
  induction a generalizing c with
  | nil => rfl
  | cons x t ih => exact ih _

/-- The CRC of `rlr1`, 128 bytes at a time. -/
theorem rlr1_crc : crc32c (rlr1.take 28 ++ rlr1.drop 32) = leAt rlr1 28 4 := by
  have z : rlr1.take 28 ++ rlr1.drop 32 = rlr1.take 28
      ++ (List.replicate 128 0 ++ (List.replicate 128 0 ++ (List.replicate 128 0 ++ List.replicate 128 0))) := by
    decide +kernel
  have h0 : crcRun 0xFFFFFFFF (rlr1.take 28) = 2217613873 := by decide +kernel
  have h1 : crcRun 2217613873 (List.replicate 128 0) = 1621807760 := by decide +kernel
  have h2 : crcRun 1621807760 (List.replicate 128 0) = 232342193 := by decide +kernel
  have h3 : crcRun 232342193 (List.replicate 128 0) = 2324364903 := by decide +kernel
  have h4 : crcRun 2324364903 (List.replicate 128 0) = 4081692692 := by decide +kernel
  have h : leAt rlr1 28 4 = 4081692692 ^^^ 0xFFFFFFFF := by decide +kernel
  rw [h, crc32c, z, crcRun_append, crcRun_append, crcRun_append, crcRun_append, h0, h1, h2, h3, h4]

theorem rlr1_intact : rlrIntact rlr1 = true := by
  have h : rlrForm rlr1 = true := by decide +kernel
  rw [rlrIntact, rlr1_crc, h, beq_self_eq_true, Bool.and_self]

theorem rlrCopy_cells : ({ node with flash := cells 0x01E01000 rlr1 } : State).rlrCopy 2 = some rlr1 := by
  have h := flashBytes_cells (s := { node with flash := cells 0x01E01000 rlr1 }) (l := rlr1) (a := 0x01E01000) (pre := [])
    rfl (by simp) rfl rfl rfl
  rw [show rlr1.length = 544 by decide +kernel] at h
  unfold State.rlrCopy
  rw [show rlrOff 2 = 0x01E01000 from rfl, h]
  exact if_pos rlr1_intact

/-- The image that a call of FL_NVWRITE finds in SRAM. -/
def imageCall : State := { caller [(1, 1), (2, 0x24000000), (3, 544)] with ram := cells 0x24000000 rlr0 }

theorem imageCall_bytes : imageCall.bytes (imageCall.arg 0 2) 544 = rlr0 := by
  have h := bytes_cells (s := imageCall) (l := rlr0) (a := 0x24000000) (pre := []) rfl (by simp)
    (by decide) (by rw [show rlr0.length = 544 by decide +kernel]; decide)
  rw [show rlr0.length = 544 by decide +kernel] at h
  rw [show imageCall.arg 0 2 = 0x24000000 by decide +kernel, h]

/-- `node` with a transition in progress. -/
def moving (x : Transition) : State := { node with pw := { node.pw with trans := some x } }

/-- `node` with XREF ready, chain S in a state, and a record and a slot of the link controller at 0. -/
def acting (w0 st : Nat) (x : Slot) (ch : ChainState) : State :=
  { ((((node.raise F.pmuStatXrefrdy).setRegN (A.lnkAction 0) w0).setRegN (A.lnkAction 3) 173000000).setFld
      (F.rfsStatState .s) st) with
    lnk := { slots := [(0, x)] }
    rf := { chS := ch,
            rlr := some { gen := 1, maker := 0, bands := [{ valid := true, ch0 := 173000000, space := 1, nch := 1, mask := 1 }] } } }

/-- A frame on its way. -/
def frame0 : TxFrame :=
  { slot := 0, mode := 0, freq := 0, bands := [], ramp := [], airtime := 0, rampTime := 0, firstSym := 0, psdu := [] }

/-- `node` where band 0's wide path runs with valid samples, slice 0 hears mode 0x50 and context 0 suits it. -/
def wide (x : Ctx) : State :=
  { (node.setBit A.chzStat 0).setBit A.chzStat 4 with
    board := [(cfgKey 1 0 0 0 0, 0x1250), (cfgKey 1 0 0 0 0x10, 2 ^ 31), (cfgKey 1 0 0 0 0x20, 1),
      (cfgKey 1 0 14 0 0, 0), (cfgKey 1 0 14 1 0, 2 ^ 63 + 0x50 * 2 ^ 43 + 2 ^ 33)]
    cap := { ctxs := [(0, x)] } }

/-- A frame that has arrived, five bytes long. -/
def arrived0 : Arrived :=
  { delivered := true, psdu := [1, 2, 3, 4, 5], fcsOk := true, combined := false, repeated := false, fw := true,
    wide := true, chain := 0, mode := 0x11, inc := 0, slice := 0, level := 0, cfo := 0, ctx := 0, action := 0xFFFF,
    stamp := 0, ended := 0 }

/-- `node` with tenant 0 and the context of link 0: its STATE byte, its ROLE byte and INTERVAL. -/
def linked (st ctl interval : Nat) : State :=
  let s : State :=
    { node with
      ctxGen := some 0
      board := [(cfgKey 1 7 2 0 0, 2 ^ 31 + 2 ^ 26 + 5), (cfgKey 1 7 2 0 0x20, 2 ^ 24 + 8)]
      tnt := { work := if st = 0 then [] else [(0, {})] } }
  (((((((s.setLk 0 2 1 st).setLk 0 3 1 ctl).setLk 0 6 1 0x11).setLk 0 0x12 2 64).setLk 0 0x14 4 interval).setLk 0 0x2C 4
    1000).setLk 0 0x38 4 173000000).setLk 0 0x40 20 1

/-- A descriptor of link 0. -/
def desc0 : Desc := { link := 0, flags := 0, power := 0, buf := 0x24000000, len := 20, lr := 0, ctag := 0, tag := 0 }

/-- A flow of this node, and a message of it with JSEQ 7. -/
def flow0 : Flow := { role := 1, flow := 5, origin := 0, epoch := 1, seq := 0, ready := true }
def msg0 : Msg := { jseq := 7, fidx := 0, epoch := 1, seq := 0, deadline := 0, hop := 0, prev := 0, ecrc := 0, payload := [1] }

/-- Link 0 is UP, the journal is on with both copies in service, flow 0 is open. -/
def jrnNode (msgs : List Msg) (commits : List Commit) : State :=
  { ((linked 2 0 0).raise F.jrnCfgEn).setFld F.jrnStatCopies 3 with
    jrn := { flows := [(0, flow0)], msgs := msgs, commits := commits } }

/-- A commit of an ACCEPT record of flow 0 with JSEQ 9. -/
def commit0 (what : CommitFor) : Commit := { record := jrnRecord 1 0 9 0 0 (acceptBody 1 2 0 0 [1]), what := what }

/-- A notice, and a response that waits to be sent. -/
def notice0 : Notice := { code := 0xC0, payload := [], seq := 3 }
def frame1 : HslFrame := { ep := .loc, kind := 2, ch := 0, seq := 1, payload := [] }

/-- `node` with DALI interface 0 enabled and in a state; with serial instance `k` enabled and in a state. -/
def dali0 (x : DaliIf) : State := { node.raise (F.daliCtlEn 0) with lum := { dali := [(0, x)] } }
def serial (k : Nat) (x : SerUnit) : State := { node.setBit (A.serCfg k) 31 with lum := { ser := [(k, x)] } }

/-- `node` with the meter running. -/
def metering : State := node.raise F.metCfgEn

/-- A core in machine privilege: its machine return stack is full, its vectors lie at 0x24004000. -/
def core0 : PipCore :=
  { run := .running, pc := 0x24000100, dsp := 0x24002010, vbase := 0x24004000, rspm := 0x24003000, rsmBase := 0x24002F00,
    rsmLim := 0x24003000 }

/-- The word of an instruction: the short one for the three that have no other. -/
def wordOf : PipInsn → Word
  | .movl d a => Word.ofN (0x5B00 + 16 * d + 2 * a)
  | .movh d a => Word.ofN (0x5B80 + 16 * d + 2 * a)
  | .li d imm => Word.ofN (0x2400 + 128 * d + imm)
  | i => Word.ofN (pipEncode32 i)

/-- `node` with a word at 0x24000100, a frame at 0x24002FF0, the vectors, and core 0 as given. -/
def runs (w : Word) (c : PipCore) : State :=
  let code := if bitAt w.toNat 31 then leBytes 2 (w.toNat / 2 ^ 16) ++ leBytes 2 w.toNat else leBytes 2 w.toNat
  ((({ node with pip := [(0, c)] }.setBytes 0x24000100 code).setBytes 0x24002FF0
    (leBytes 4 0x24000101 ++ leBytes 4 2 ++ leBytes 8 0)).setBytes 0x24004000
    ((List.range 11).map (fun _ => leBytes 4 0x24000100)).flatten)

/-- A core is ready to begin an instruction at the word it fetches, and the fetch leaves the state as it is. -/
def ready (s : State) (core : Nat) (w : Word) (i : PipInsn) : Bool :=
  s.pipRuns core && !(bitAt (s.core core).psr.toNat 0 && s.irqRequest core) && pipDecode (core == 4) w == some i
  && (!i.privileged || s.coreMach core)
  && match s.fetch core with
     | .word v f => v == w.toNat && decide (f = s) && decide (s = s.setCore core { s.core core with entered := false })
     | _ => false

theorem begins_of {s : State} {core : Nat} {w : Word} {i : PipInsn} (h : ready s core w i = true) :
    s.begins core w i s := by
  unfold ready at h
  split at h
  · rename_i v f hf
    simp only [Bool.and_eq_true, Bool.not_eq_true', beq_iff_eq, decide_eq_true_eq, Bool.or_eq_true] at h
    obtain ⟨⟨⟨⟨h1, h2⟩, h3⟩, h4⟩, ⟨h5, h6⟩, h7⟩ := h
    refine ⟨h1, h2, h3, fun hp => ?_, f, by rw [hf, h5], by rw [h6]; exact h7⟩
    rcases h4 with h4 | h4
    · rw [hp] at h4; cases h4
    · exact h4
  · simp at h

theorem fetch_of {s : State} {core w : Nat}
    (h : (match s.fetch core with | .word v f => v == w && decide (f = s) | _ => false) = true) :
    s.fetch core = .word w s := by
  split at h
  · rename_i v f hf
    simp only [Bool.and_eq_true, beq_iff_eq, decide_eq_true_eq] at h
    rw [hf, h.1, h.2]
  · cases h

/-- The register at an address that a table lists. -/
def regOf (a : Nat) (h : (regAt a).isSome = true) : RegSpec := ((regAt a).get h).1

/-- Commands with an operand out of its range are refused. -/
theorem test_illFormed_1 :
    ([
      .registerWrite false 0x40000002 0, .registerWrite false 0x41000000 0, .rcRead 0x40000002 0,
      .rcRead 0x41000000 0, .rcRead 0x40000000 (2 ^ 32), .modeRequest 5 false 0, .modeSet { wO with ch := 15 } [],
      .modeGet { wO with ch := 15 } [], .wakeSource 21, .clusterIdle 4, .clusterPowered 4,
      .boardWrite { wO with ch := 15 } [], .boardErase { wO with ch := 15 } [], .boardVerify { wO with ch := 15 } [],
      .boardSwap { wO with ch := 15 } [], .boardAbort { wO with ch := 15 } [], .boardReload { wO with ch := 15 } [],
      .boardBootlist { wO with ch := 15 } [], .boardStatus { wO with ch := 15 } [], .lfratioMeasure (2 ^ 32),
      .sysReset { wO with ch := 15 } [], .startUp false (2 ^ 11), .calDone .s false 128, .wakeTelegram false (2 ^ 32),
      .wkrFloorEstimate 128, .rfStatus { wO with ch := 15 } [], .rfCal { wO with ch := 15 } [],
      .rfDuty { wO with ch := 15 } [], .wkrSet { wO with ch := 15 } [], .detectorFire 2 0 0 0,
      .detectorFire 0 256 0 0, .detectorFire 0 0 256 0, .arbitration 2, .candidateExpire 2, .ctxSync 80 0 0,
      .ctxFalsedet 80, .ctxHeader 80 0 false, .ctxHeader 0 (2 ^ 48) false, .ctxRelease 80, .sampleOverflow 2
    ] : List Instr).all (fun i => !wellFormed i) = true := by decide +kernel

/-- Commands with an operand out of its range are refused. -/
theorem test_illFormed_2 :
    ([
      .sampleInvalid 2, .agcAttack 2 0 false, .agcDecay 2, .modeSwitch 80 0, .modeSwitch 0 256, .blockDispatch 80 [],
      .blockDecodeDone 16 0 [], .slotExpire 16, .actionClaim 512, .actionStart 512, .rxWindowEnd 513 0,
      .listenBusy 512 0, .listenClear 512, .backoffEnd 512, .actionComplete 512, .completionWrite 512,
      .ringReadAdvance false 4 0, .ringConfigApply 4, .linkOpen { wO with ch := 15 } [],
      .linkClose { wO with ch := 15 } [], .linkRelease { wO with ch := 15 } [], .linkSwap { wO with ch := 15 } [],
      .linkGet { wO with ch := 15 } [], .tenantStatus { wO with ch := 15 } [], .linkEvent 1024,
      .supervisionTimeout 1024, .openCmd 0x10000 0 0 [], .openAck 0x10000 0 [], .close 0x10000 0 [],
      .closeAck 0x10000 0 [], .swapReq 0x10000 0 [], .swapRsp 0x10000 0 [], .chmap 0x10000 0 [],
      .keepalive 0x10000 0 [], .timeGet { wO with ch := 15 } [], .timeSet { wO with ch := 15 } [],
      .custodyData 0x10000 [], .cack 0x10000 [], .retransmit (2 ^ 32), .delivery (2 ^ 32)
    ] : List Instr).all (fun i => !wellFormed i) = true := by decide +kernel

/-- Commands with an operand out of its range are refused. -/
theorem test_illFormed_3 :
    ([
      .messageExpire (2 ^ 32), .msgSend { wO with ch := 15 } [], .msgRelease { wO with ch := 15 } [],
      .flowOpen { wO with ch := 15 } [], .flowClose { wO with ch := 15 } [], .flowEpoch { wO with ch := 15 } [],
      .flowGet { wO with ch := 15 } [], .jrnStatus { wO with ch := 15 } [], .holdTest { wO with ch := 15 } [],
      .planeFail 2 0, .planeFail 0 0x10000, .hslAckTimer .loc 15, .hslAck .loc 0x10000, .noticeRetransmit 0x10000,
      .hslSync { wO with ch := 15 } [], .hslStatus { wO with ch := 15 } [], .flProgram 5, .flErase 5, .flPoll 5,
      .flScrub 5, .flNvwrite 5 0, .flNvwrite 0 4, .flNvrepair 5, .flRdp 5, .flOtpwrite 5, .flInfo 5,
      .flReservedEntry 5, .dfiWrite { wO with ch := 15 } [], .dfiRead { wO with ch := 15 } [],
      .rlrWrite { wO with ch := 15 } [], .rlrRead { wO with ch := 15 } [], .nvStatus { wO with ch := 15 } [],
      .userWrite { wO with ch := 15 } [], .userRead { wO with ch := 15 } [], .userErase { wO with ch := 15 } [],
      .fwWrite { wO with ch := 15 } [], .fwErase { wO with ch := 15 } [], .fwVerify { wO with ch := 15 } [],
      .fwActivate { wO with ch := 15 } [], .fwCancel { wO with ch := 15 } []
    ] : List Instr).all (fun i => !wellFormed i) = true := by decide +kernel

/-- Commands with an operand out of its range are refused. -/
theorem test_illFormed_4 :
    ([
      .fwConfirm { wO with ch := 15 } [], .fwStatus { wO with ch := 15 } [], .cryptoStart 8 false 0,
      .cryptoAbort 8 false 0, .cryptoDone 8, .rngHealthFail 0, .rngHealthFail 4, .rngRequest 4 false 0,
      .rngRequestDone 4, .tamperAlarm 11 false, .secStatus { wO with ch := 15 } [],
      .keyProvision { wO with ch := 15 } [], .keyRevoke { wO with ch := 15 } [], .tamperClear { wO with ch := 15 } [],
      .rngStatus { wO with ch := 15 } [], .alu 5 0, .addi 5 0, .andi 5 0, .ori 5 0, .xori 5 0, .tlti 5 0, .tltiu 5 0,
      .shi 5 0, .ldhi 5 0, .addpch 5 0, .ldb 5 0, .ldbu 5 0, .ldh 5 0, .ldhu 5 0, .ldw 5 0, .stb 5 0, .sth 5 0,
      .stw 5 0, .memx 5 0, .ldf 5 0, .stf 5 0, .br 5 0, .j 5 0, .call 5 0, .jr 5 0
    ] : List Instr).all (fun i => !wellFormed i) = true := by decide +kernel

/-- Commands with an operand out of its range are refused. -/
theorem test_illFormed_5 :
    ([
      .callr 5 0, .ret 5 0, .getdsp 5 0, .setdsp 5 0, .push 5 0, .pop 5 0, .getrsp 5 0, .mfs 5 0, .mts 5 0, .trap 5 0,
      .eret 5 0, .wait 5 0, .swap 5 0, .cas 5 0, .setie 5 0, .fp 5 0, .dspm 5 0, .intCmd 5, .waitWake 5,
      .interruptSource 5 0 false, .interruptSource 0 1024 false, .presentation 5, .eoi false 5 0,
      .doorbell false 4 0 0, .doorbell false 0 8 0, .icuRingRead false 5 0, .icuRingConfig 5, .firem false 8 0,
      .groupEdge 16, .eventEdge 512 false, .consumerAccept 65, .compareMatch 96, .cmphiWrite false 96 0,
      .cmploRead 96, .capstatRead 32, .pmstatRead 16, .pmctlDisable false 16, .snapRead { wO with ch := 15 } [],
      .daliSend 2 false 0, .daliFrameStart 2
    ] : List Instr).all (fun i => !wellFormed i) = true := by decide +kernel

/-- Commands with an operand out of its range are refused. -/
theorem test_illFormed_6 :
    ([
      .daliTxDone 2, .daliCollision 2, .daliRxFrame 2 0 0 false, .daliRxFrame 0 (2 ^ 32) 0 false,
      .daliRxFrame 0 0 64 false, .daliBackwardTimeout 2, .daliBusfail 2 false, .rxinfoRead 2, .dmoFade 4,
      .dmoPeriod 4, .metPeriod (2 ^ 32) 0 0 0 0 0 0 0 false, .energyRead 2, .serGo 12 false 0, .serAbort 12 false 0,
      .serDone 12 0 0 [], .serDone 0 5 0 [], .txfifoPush 12 false 0, .rxfifoPop 12, .serRxByte 12 0 0,
      .serRxByte 0 256 0, .serRxByte 0 0 3, .bistRun { wO with ch := 15 } [], .bistDone [(8, 0)] [],
      .bistResult { wO with ch := 15 } [], .fcrRead { wO with ch := 15 } [], .samplesValid 2, .hslLengthDiscard 4096
    ] : List Instr).all (fun i => !wellFormed i) = true := by decide +kernel

/-- The site addresses of worked example 1.1: a word of main SRAM with its bit, and the example of R9. -/
theorem test_site_word :
    ((Site.unpack (storageSite 0x2031A5CB)) == { depth := 5, d := 1, c := 2, t := 17, m := 6, w := 0x04B9, b := 0 }) = true := by
  decide +kernel

theorem test_site_packed :
    Site.pack { depth := 6, d := 1, c := 2, t := 17, m := 6, w := 0x04B9, b := 24 } = 0x000006544604B918 ∧
    Site.pack { depth := 6, d := 1, c := 2, t := 9, m := 4, w := 0x01F0, b := 17 } = 0x000006524401F011 := by decide +kernel

/-- The failing site of worked example 22.1, at an address of main SRAM. -/
theorem test_site_bist :
    storageSite 0x2020D085 % 2 ^ 40 / 256 * 256 + 41 = 0x0000064CC3021029 % 2 ^ 40 ∧ siteValid 0x0000064CC3021029 = true := by
  decide +kernel

/-- CRC-32C of the nine digits, the check value of the code that R22 names. -/
theorem test_crc32c : crc32c [0x31, 0x32, 0x33, 0x34, 0x35, 0x36, 0x37, 0x38, 0x39] = 0xE3069283 := by decide +kernel

/-- The MODE_GET frame of worked example 13.1: 12 bytes, from DELIM to CRC. -/
theorem test_hsl_frame :
    (hslBytes { ep := .loc, kind := 1, ch := 2, seq := 0x0105, payload := [0x13, 0x00] }).take 8 =
      [0xD7, 0x02, 0x00, 0x21, 0x05, 0x01, 0x13, 0x00] ∧
    (hslBytes { ep := .loc, kind := 1, ch := 2, seq := 0x0105, payload := [0x13, 0x00] }).length = 12 := by decide +kernel

/-- The Long Reach frames of worked example 8.1: 1,524 symbols in LR3 at rate 1/4, 848 in LR0 at rate 1/2, and 2,444 with
the mother length 2,304; the first transmission of example 8.2 has 1,256. -/
theorem test_lr_symbols :
    lrSymbols 128 (lrNd false 0 3 0 32) = 1524 ∧ lrSymbols 64 (lrNd false 0 1 0 32) = 848 ∧
    lrSymbols 128 (lrNd false 2 3 0 32) = 2444 ∧ lrSymbols 96 (lrNd false 2 1 0 40) = 1256 ∧
    lrSymbols 96 (lrNd false 2 1 1 40) = 880 := by decide +kernel

/-- The SUN FSK frame of worked example 9.1 lasts 8,320 us. -/
theorem test_fsk_airtime : airtimeTicks 0x11 0 0 0 0 false 40 = 8320 * 40 := by decide +kernel

/-- A Defaults Image copy of a generation, for the resolutions of worked example 14.1. -/
def copy (g c : Nat) : Option (List Byte) := some (List.replicate 8 (Byte.ofN c) ++ leBytes 4 g)

/-- Worked example 14.1, line by line: the rule that decides and the image taken. -/
theorem test_dfi_resolution :
    dfiResolve [copy 9 1, copy 9 1, copy 9 1] = (2, copy 9 1) ∧
    dfiResolve [copy 10 2, copy 9 1, copy 9 1] = (2, copy 10 2) ∧
    dfiResolve [none, copy 9 1, copy 9 1] = (2, copy 9 1) ∧
    dfiResolve [copy 10 2, none, none] = (2, copy 10 2) ∧
    dfiResolve [copy 10 2, copy 10 3, copy 10 2] = (3, copy 10 2) ∧
    dfiResolve [copy 11 4, copy 9 1, copy 9 1] = (3, copy 9 1) ∧
    (dfiResolve [copy 10 2, copy 10 3, copy 9 1]).1 = 4 ∧
    (dfiResolve [copy 8 1, copy 9 1, copy 10 1]).1 = 4 ∧
    (dfiResolve [none, none, none]).1 = 1 := by decide +kernel

/-- The divide of worked example 17.1: its word, which Pip cores run and the sentinel raises EMULATE for. -/
theorem test_pip_divide :
    pipDecode false 0x80D14015 = some (.alu 0x15 3 4 5) ∧ pipDecode true 0x80D14015 = none := by decide +kernel

/-- The halfword 0x4015 of worked example 17.1 spells nothing; with bit 0 clear it is ADD3.S g0, g1, g2. -/
theorem test_pip_halfword :
    pipDecode true 0x4015 = none ∧ pipDecode true 0x4014 = some (.alu 0x00 0 1 2) := by decide +kernel

/-- Record 1 of worked example 18.1, as it is stored. -/
theorem test_irq_record :
    irqRecord 780 9 0x0A01 { time := 0x00123414, edge := 1, payload := 1 } false =
      [0x0C, 0x13, 0x09, 0x00, 0x14, 0x34, 0x12, 0x00, 0x01, 0x00, 0x00, 0x00, 0x01, 0x0A, 0x00, 0x00] := by decide +kernel

/-- The late match of worked example 20.1: nine periods are skipped. -/
theorem test_periods_passed : periodsPassed 13906250 10150000 400000 = 9 := by decide +kernel

/-- The make-up of worked example 20.1: 3,200 cycles of CK_LF at LFRATIO 0x04C4_B400 are 3,906,250 ticks. -/
theorem test_lf_makeup : 3200 * 0x04C4B400 / 2 ^ 16 = 3906250 ∧
    (({ node with tb := { node.tb with run := .lf, now := 13906250, frac := 0 } } : State).tmbAdd16 (7 * 0x04C4B400)).tb.now
      = 13914794 := by decide +kernel

/-- A sound command of every shape is well formed. -/
theorem test_wellFormed :
    ([.modeSet wO [2, 1, 0, 0], .registerWrite false 0x40000000 0, .tmbStop, .cryptoDone 7, .alu 4 0] : List Instr).all
      wellFormed = true := by decide +kernel

/-- The hypotheses of `IdleStepIsOneClockEdge` are met, clause by clause. -/
theorem witness_idleStepIsOneClockEdge :
    (let s : State := State.reset
     s.pending = []) :=
  by decide +kernel

/-- The hypotheses of `RegisterAccessFollowsAccessTypes` are met, clause by clause. -/
theorem witness_registerAccessFollowsAccessTypes :
    (let s : State := node
     let a : Nat := 0x40120000
     s.alive = true ∧
     s.regAnswers a = true ∧
     let r : RegSpec := regOf 0x40120000 (by decide +kernel)
     let i : Nat := 0
     regAt a = some (r, i) ∧
     (blockOf a = 18 ∨ blockOf a = 20 ∨ blockOf a = 21))
    ∧ (let s : State := node
     let a : Nat := 0x40120000
     s.alive = true ∧
     s.regAnswers a = true)
    ∧ (let s : State := node
     let a : Nat := 0x4012FFF0
     s.alive = true ∧
     s.regAnswers a = true ∧
     regAt a = none)
    ∧ (let s : State := node
     let a : Nat := 0x40120000
     s.alive = true ∧
     s.regAnswers a = true ∧
     let r : RegSpec := regOf 0x40120000 (by decide +kernel)
     let i : Nat := 0
     regAt a = some (r, i) ∧
     s.readHook a i = none) :=
  ⟨by decide +kernel,
   by decide +kernel,
   by decide +kernel,
   by decide +kernel⟩

/-- The hypotheses of `UnansweredAccessIsBusError` are met, clause by clause. -/
theorem witness_unansweredAccessIsBusError :
    (let s : State := node
     let a : Nat := 0x40600002
     s.alive = true ∧
     s.regAnswers a = false)
    ∧ (let s : State := node
     let a : Nat := 0x40060000
     s.alive = true ∧
     s.regAnswers a = false) :=
  ⟨by decide +kernel,
   by decide +kernel⟩

/-- The hypotheses of `ModeRequestStartsTransition` are met, clause by clause. -/
theorem witness_modeRequestStartsTransition :
    (let s : State := node
     let core : Nat := 0
     let w : Word := 0x14
     let s1 := s.writeReg A.pmuModereq w
     let r : ModeReq := have __src := modeReqOf (BitVec.toNat w) (coreSource core);
     { mode := __src.mode, profile := __src.profile, bands := __src.bands, source := __src.source, at_ := s.tick }
     s1.checkMode r = none ∧
     s.pw.trans = none ∧
     s1.swapHoldsMode = false)
    ∧ (let s : State := node
     let core : Nat := 0
     let w : Word := 0x3F
     let r : ModeReq := have __src := modeReqOf (BitVec.toNat w) (coreSource core);
     { mode := __src.mode, profile := __src.profile, bands := __src.bands, source := __src.source, at_ := s.tick }
     profileLegal r.mode r.profile = false)
    ∧ (let s : State := node
     let core : Nat := 0
     let w : Word := 0x02
     let s1 := s.writeReg A.pmuModereq w
     let r : ModeReq := have __src := modeReqOf (BitVec.toNat w) (coreSource core);
     { mode := __src.mode, profile := __src.profile, bands := __src.bands, source := __src.source, at_ := s.tick }
     s1.checkMode r = some Status.ok)
    ∧ (let s : State := node
     let o : Sys2Proof.Origin := wO
     let p : List Byte := [4, 0, 0, 0]
     s.takes o 18 p ∧
     p.length = 4 ∧
     byteAt p 3 = 0 ∧
     let s1 := s.taking o
     let r := { mode := byteAt p 0, profile := byteAt p 1, bands := byteAt p 2, source := 4, at_ := s.tick }
     s1.checkMode r = none ∧
     s.pw.trans = none ∧
     s1.swapHoldsMode = false)
    ∧ (let s : State := node
     let o : Sys2Proof.Origin := wO
     s.takes o 19 []) :=
  ⟨by decide +kernel,
   by decide +kernel,
   by decide +kernel,
   by unfold State.takes; decide +kernel,
   by unfold State.takes; decide +kernel⟩

/-- The hypotheses of `TransitionCompletes` are met, clause by clause. -/
theorem witness_transitionCompletes :
    (let s : State := moving { req := ⟨4, 0, 0, 4, 0⟩, phase := .running, xrefGivenUp := true }
     let x : Transition := { req := ⟨4, 0, 0, 4, 0⟩, phase := .running, xrefGivenUp := true }
     s.pw.trans = some x ∧
     s.pw.waiting = none ∧
     s.transReady x = true)
    ∧ (let s : State := moving { req := ⟨4, 0, 0, 4, 0⟩, phase := .running }
     let x : Transition := { req := ⟨4, 0, 0, 4, 0⟩, phase := .running }
     s.pw.trans = some x ∧
     s.pw.waiting = none ∧
     x.phase = TransPhase.running ∧
     needsXref x.req.mode x.req.profile = true ∧
     s.flag F.pmuStatXrefrdy = false)
    ∧ (let s : State := moving { req := ⟨4, 0, 0, 4, 0⟩, phase := .drain }
     let x : Transition := { req := ⟨4, 0, 0, 4, 0⟩, phase := .drain }
     s.pw.trans = some x ∧
     x.phase = TransPhase.drain) :=
  ⟨by decide +kernel,
   by decide +kernel,
   by decide +kernel⟩

/-- The hypotheses of `WatchSleepsAndWakes` are met, clause by clause. -/
theorem witness_watchSleepsAndWakes :
    (let s : State := { node.setRegN A.pmuModestat 1 with hsl := {} }
     s.maySleep = true)
    ∧ (let s : State := { node with pw := { node.pw with wSleep := true, ownWake := some 9 } }
     let n : Nat := 9
     s.pw.wSleep = true ∧
     s.pw.ownWake = some n)
    ∧ (let s : State := { node with pw := { node.pw with wSleep := true } }
     let src : Nat := 16
     16 ≤ src ∧
     src ≤ 20 ∧
     s.pw.boot = BootPhase.run ∧
     s.pw.trans = none ∧
     s.dormant = false ∧
     s.pw.wSleep = true)
    ∧ (let s : State := moving { req := ⟨0, 0, 0, 4, 0⟩, phase := .quiesce }
     let src : Nat := 20
     let x : Transition := { req := ⟨0, 0, 0, 4, 0⟩, phase := .quiesce }
     16 ≤ src ∧
     src ≤ 20 ∧
     s.pw.boot = BootPhase.run ∧
     s.pw.trans = some x ∧
     x.req.mode = 0 ∧
     x.phase = TransPhase.quiesce ∧
     s.pw.waiting = none)
    ∧ (let s : State := node.setRegN A.pmuWaketmr 1
     s.regN A.pmuWaketmr ≠ 0) :=
  ⟨by decide +kernel,
   by decide +kernel,
   by decide +kernel,
   by decide +kernel,
   by decide +kernel⟩

/-- The hypotheses of `PadLatchCommitsDormantEntry` are met, clause by clause. -/
theorem witness_padLatchCommitsDormantEntry :
    (let s : State := { moving { req := ⟨0, 0, 0, 4, 0⟩, phase := .quiesce } with hsl := {} }
     let x : Transition := { req := ⟨0, 0, 0, 4, 0⟩, phase := .quiesce }
     s.pw.trans = some x ∧
     x.req.mode = 0 ∧
     x.phase = TransPhase.quiesce ∧
     s.onAir = false ∧
     s.hsl.wake = false)
    ∧ (let s : State := moving { req := ⟨0, 0, 0, 4, 0⟩, phase := .quiesce }
     let x : Transition := { req := ⟨0, 0, 0, 4, 0⟩, phase := .quiesce }
     s.pw.trans = some x ∧
     x.req.mode = 0 ∧
     x.phase = TransPhase.quiesce ∧
     s.onAir = false ∧
     s.hsl.wake = true ∧
     s.pw.waiting = none)
    ∧ (let s : State := node
     let w : Word := 1
     bitAt (BitVec.toNat w) 0 = true ∧
     s.comUp = true) :=
  ⟨by decide +kernel,
   by decide +kernel,
   by decide +kernel⟩

/-- The hypotheses of `ClusterFollowsDemand` are met, clause by clause. -/
theorem witness_clusterFollowsDemand :
    (let s : State := node.setFld F.pmuModestatProfile 1
     let n : Nat := 1
     1 ≤ n ∧
     n ≤ 3 ∧
     s.mode = 2 ∧
     s.profile = 1 ∧
     s.pw.trans = none ∧
     s.clusterWork n = false ∧
     s.narrowNeeds n = false)
    ∧ (let s : State := { (node.setFld F.pmuModestatProfile 1).setRegN A.pmuDomstat 0x7DE with pw := { node.pw with clusterWaking := [3] } }
     let n : Nat := 3
     1 ≤ n ∧
     n ≤ 3 ∧
     s.pw.clusterWaking = [n] ∧
     s.pw.lateWrites = [] ∧
     s.onDemand n = true) :=
  ⟨by decide +kernel,
   by decide +kernel⟩

/-- The hypotheses of `SupplyFailureRunsLastgasp` are met, clause by clause. -/
theorem witness_supplyFailureRunsLastgasp :
    (let s : State := node
     s.flag F.pmuModestatPfail = false ∧
     s.pw.boot = BootPhase.run ∧
     s.jrn.holding = false ∧
     s.mode ≠ 5)
    ∧ (let s : State := node.raise F.pmuModestatPfail
     s.flag F.pmuModestatPfail = true)
    ∧ (let s : State := { node.setFld F.pmuModestatMode 5 with pw := { node.pw with formerMode := some ⟨2, 0, 0, 2, 0⟩, lg := .alarms } }
     let r : ModeReq := ⟨2, 0, 0, 2, 0⟩
     s.flag F.pmuModestatPfail = false ∧
     s.pw.boot = BootPhase.run ∧
     s.pw.formerMode = some r ∧
     s.pw.lg = LgPhase.alarms ∧
     (s.cancelAlarms.submitMode r).1 = Status.pending)
    ∧ (let s : State := { node.setFld F.pmuModestatMode 5 with pw := { node.pw with lg := .flush } }
     s.mode = 5 ∧
     s.pw.lg = LgPhase.flush ∧
     s.sec.haltWait = false)
    ∧ (let s : State := { (node.setFld F.pmuModestatMode 5).raise F.pmuModecfgLgend with pw := { node.pw with lg := .alarms } }
     s.mode = 5 ∧
     s.pw.lg = LgPhase.alarms ∧
     s.alarmsLeft = false ∧
     s.flag F.pmuModecfgLgend = true) :=
  ⟨by decide +kernel,
   by decide +kernel,
   by decide +kernel,
   by decide +kernel,
   by decide +kernel⟩

/-- The hypotheses of `SupplyAndOscillatorEvents` are met, clause by clause. -/
theorem witness_supplyAndOscillatorEvents :
    (let s : State := node.raise F.pmuStatAonlp
     s.flag F.pmuStatAonlp = true)
    ∧ (let s : State := node
     s.pw.xlfFailed = false)
    ∧ (let s : State := node.raise F.pmuStatXrefrdy
     let ticks : Nat := 1000
     s.flag F.pmuStatXrefrdy = true ∧
     ticks * 16 < 2 ^ 32)
    ∧ (let s : State := node
     s.domainOn Domain.xr = true ∧
     s.flag F.pmuStatXrefrdy = false) :=
  ⟨by decide +kernel,
   by decide +kernel,
   by decide +kernel,
   by decide +kernel⟩

/-- The hypotheses of `PllsAndXref` are met, clause by clause. -/
theorem witness_pllsAndXref :
    (let s : State := node
     s.comUp = true)
    ∧ (let s : State := node.setFld F.pmuModestatBands 1
     s.comUp = true ∧
     s.samplePathsRun = true)
    ∧ (let s : State := node
     s.comUp = true ∧
     s.samplePathsRun = false)
    ∧ (let s : State := (node.raise F.pmuStatXrefrdy).raise F.clkPllcEn
     s.flag F.pmuStatXrefrdy = true ∧
     s.flag F.clkPllcEn = true)
    ∧ (let s : State := (node.raise F.pmuStatXrefrdy).raise F.clkPllfEn
     s.flag F.pmuStatXrefrdy = true ∧
     s.flag F.clkPllfEn = true)
    ∧ (let s : State := node.raise F.clkStatClock
     s.flag F.clkStatClock = true)
    ∧ (let s : State := node.raise F.clkStatFlock
     s.flag F.clkStatFlock = true)
    ∧ (let s : State := { node with pw := { node.pw with xrefStarting := true } }
     s.pw.xrefStarting = true)
    ∧ (let s : State := node.raise F.pmuStatXrefrdy
     s.flag F.pmuStatXrefrdy = true) :=
  ⟨by decide +kernel,
   by decide +kernel,
   by decide +kernel,
   by decide +kernel,
   by decide +kernel,
   by decide +kernel,
   by decide +kernel,
   by decide +kernel,
   by decide +kernel⟩

/-- The hypotheses of `ResetSourcesRecordTheirCause` are met, clause by clause. -/
theorem witness_resetSourcesRecordTheirCause :
    (let s : State := node
     (∀ (x : Nat × Nat × Nat), s.pw.lastReset = some x → x.1 ≠ s.tick) ∧
     s.pw.boot ≠ BootPhase.bist ∧
     s.pw.boot ≠ BootPhase.held)
    ∧ (let s : State := node.raise F.pmuStatAonlp
     (∀ (x : Nat × Nat × Nat), s.pw.lastReset = some x → x.1 ≠ s.tick) ∧
     s.pw.boot ≠ BootPhase.bist ∧
     s.pw.boot ≠ BootPhase.held ∧
     s.flag F.pmuStatAonlp = true)
    ∧ (let s : State := node
     (∀ (x : Nat × Nat × Nat), s.pw.lastReset = some x → x.1 ≠ s.tick) ∧
     s.pw.boot ≠ BootPhase.bist ∧
     s.pw.boot ≠ BootPhase.held)
    ∧ (let s : State := node
     (∀ (x : Nat × Nat × Nat), s.pw.lastReset = some x → x.1 ≠ s.tick) ∧
     s.pw.boot ≠ BootPhase.bist ∧
     s.pw.boot ≠ BootPhase.held ∧
     s.retention = false)
    ∧ (let s : State := node
     (∀ (x : Nat × Nat × Nat), s.pw.lastReset = some x → x.1 ≠ s.tick) ∧
     s.pw.boot ≠ BootPhase.bist ∧
     s.pw.boot ≠ BootPhase.held)
    ∧ (let s : State := node.raise F.rstWdtcfgEn
     (∀ (x : Nat × Nat × Nat), s.pw.lastReset = some x → x.1 ≠ s.tick) ∧
     s.pw.boot ≠ BootPhase.bist ∧
     s.pw.boot ≠ BootPhase.held ∧
     s.watchdogRuns = true)
    ∧ (let s : State := node
     (∀ (x : Nat × Nat × Nat), s.pw.lastReset = some x → x.1 ≠ s.tick) ∧
     s.pw.boot ≠ BootPhase.bist ∧
     s.pw.boot ≠ BootPhase.held ∧
     let w : Word := 0
     BitVec.toNat w ≠ 42435)
    ∧ (let s : State := node
     (∀ (x : Nat × Nat × Nat), s.pw.lastReset = some x → x.1 ≠ s.tick) ∧
     s.pw.boot ≠ BootPhase.bist ∧
     s.pw.boot ≠ BootPhase.held ∧
     let w : Word := 0xA5000002
     bitsOf (BitVec.toNat w) 24 8 = 165 ∧
     bitsOf (BitVec.toNat w) 0 2 = 2)
    ∧ (let s : State := node
     (∀ (x : Nat × Nat × Nat), s.pw.lastReset = some x → x.1 ≠ s.tick) ∧
     s.pw.boot ≠ BootPhase.bist ∧
     s.pw.boot ≠ BootPhase.held ∧
     let w : Word := 0xA5000003
     bitsOf (BitVec.toNat w) 24 8 = 165 ∧
     bitsOf (BitVec.toNat w) 0 2 = 3)
    ∧ (let s : State := { node with pw := { node.pw with hostReset := some 2 } }
     (∀ (x : Nat × Nat × Nat), s.pw.lastReset = some x → x.1 ≠ s.tick) ∧
     s.pw.boot ≠ BootPhase.bist ∧
     s.pw.boot ≠ BootPhase.held ∧
     let scope : Nat := 2
     (scope = 2 ∨ scope = 3) ∧
     s.pw.hostReset = some scope) :=
  ⟨by decide +kernel,
   by decide +kernel,
   by decide +kernel,
   by decide +kernel,
   by decide +kernel,
   by decide +kernel,
   by decide +kernel,
   by decide +kernel,
   by decide +kernel,
   by decide +kernel⟩

/-- The hypotheses of `ResetsKeepRetainedAndFlash` are met, clause by clause. -/
theorem witness_resetsKeepRetainedAndFlash :
    (let s : State := node
     let w : Word := 0xA5000002
     s.pw.boot ≠ BootPhase.bist ∧
     bitsOf (BitVec.toNat w) 24 8 = 165 ∧
     bitsOf (BitVec.toNat w) 0 2 = 2)
    ∧ (let s : State := node
     let w : Word := 0xA5000003
     s.pw.boot ≠ BootPhase.bist ∧
     bitsOf (BitVec.toNat w) 24 8 = 165 ∧
     bitsOf (BitVec.toNat w) 0 2 = 3)
    ∧ (let s : State := node.raise F.rstWdtcfgEn
     let w : Word := 0xA5000000
     s.pw.boot ≠ BootPhase.bist ∧
     bitsOf (BitVec.toNat w) 24 8 = 165 ∧
     s.watchdogRuns = true)
    ∧ (let s : State := node.raise F.pmuStatAonlp
     let w : Word := 0xA5000000
     s.pw.boot ≠ BootPhase.bist ∧
     bitsOf (BitVec.toNat w) 24 8 = 165 ∧
     s.flag F.pmuStatAonlp = true) :=
  ⟨by decide +kernel,
   by decide +kernel,
   by decide +kernel,
   by decide +kernel⟩

/-- The hypotheses of `WatchdogCoreAndHostResets` are met, clause by clause. -/
theorem witness_watchdogCoreAndHostResets :
    (let w : Word := 0xA5C3
     BitVec.toNat w = 42435)
    ∧ (let s : State := (node.raise F.rstWdtcfgEn).raise F.rstWdtcfgEarly
     s.watchdogRuns = true ∧
     s.flag F.rstWdtcfgEarly = true)
    ∧ (let w : Word := 0xA5000041
     bitsOf (BitVec.toNat w) 24 8 = 165 ∧
     bitsOf (BitVec.toNat w) 0 2 = 1 ∧
     1 ≤ bitsOf (BitVec.toNat w) 4 3 ∧
     bitsOf (BitVec.toNat w) 4 3 ≤ 4)
    ∧ (let s : State := node
     let w : Word := 2
     let k : Nat := 1
     1 ≤ k ∧
     k ≤ 4 ∧
     bitAt (BitVec.toNat w) k = true ∧
     s.comUp = true ∧
     s.running = true ∧
     (s.core k).run = PipRun.held)
    ∧ (let s : State := { State.reset with pw := { boot := .held } }
     s.pw.boot = BootPhase.held)
    ∧ (let s : State := node
     let o : Sys2Proof.Origin := wO
     let p : List Byte := [3, 0, 0, 0]
     s.takes o 20 p ∧
     p.length = 4 ∧
     (byteAt p 0 = 2 ∨ byteAt p 0 = 3) ∧
     allZero (List.drop 1 p) = true ∧
     s.mode ≠ 5) :=
  ⟨by decide +kernel,
   by decide +kernel,
   by decide +kernel,
   by decide +kernel,
   by decide +kernel,
   by unfold State.takes; decide +kernel⟩

/-- The hypotheses of `StartUpReachesHandover` are met, clause by clause. -/
theorem witness_startUpReachesHandover :
    (let s : State := State.reset
     s.pw.boot = BootPhase.startup ∧
     s.flag F.pmuModestatPfail = false ∧
     s.fld F.sysBootstatStage ≠ 5)
    ∧ (let s : State := State.reset.setFld F.sysBootstatStage 5
     s.pw.boot = BootPhase.startup ∧
     s.flag F.pmuModestatPfail = false ∧
     s.fld F.sysBootstatStage = 5 ∧
     s.sec.bootAlarm = false)
    ∧ (let s : State := State.reset.setFld F.sysBootstatStage 5
     s.pw.boot = BootPhase.startup ∧
     s.fld F.sysBootstatStage = 5 ∧
     s.flag F.pmuStatXrefrdy = false ∧
     s.sec.bootAlarm = false ∧
     s.pw.xrefRetried = false)
    ∧ (let s : State := { node with pw := { node.pw with boot := .background, recovered := false } }
     s.pw.boot = BootPhase.background ∧
     s.pw.recovered = false)
    ∧ (let s : State := { node with pw := { node.pw with boot := .background, holdupDone := false } }
     s.pw.boot = BootPhase.background ∧
     s.pw.holdupDone = false ∧
     s.flag F.pmuModestatPfail = false)
    ∧ (let s : State := { node with pw := { node.pw with boot := .background } }
     s.pw.boot = BootPhase.background ∧
     s.pw.recovered = true ∧
     s.pw.holdupDone = true ∧
     s.sec.bootAlarm = false ∧
     s.flag F.sysBootflagsFwnone = false) :=
  ⟨by decide +kernel,
   by decide +kernel,
   by decide +kernel,
   by decide +kernel,
   by decide +kernel,
   by decide +kernel⟩

/-- The hypotheses of `BoardHostCommands` are met, clause by clause. -/
theorem witness_boardHostCommands :
    (let s : State := node
     let o : Sys2Proof.Origin := wO
     let p : List Byte := [1, 0, 0, 0, 0, 0, 0, 0] ++ List.replicate 256 0
     let s1 := s.taking o
     s.takes o 64 p ∧
     264 ≤ p.length ∧
     p.length ≤ 3848 ∧
     (p.length - 8) % 256 = 0 ∧
     slotArg p = true ∧
     leAt p 4 4 % 256 = 0 ∧
     leAt p 4 4 + (p.length - 8) ≤ 1048576 ∧
     let off := boardSlotOff (byteAt p 0) + leAt p 4 4
     s1.mode ≠ 5 ∧
     s1.rangeLocked off (p.length - 8) = false ∧
     s1.erasedRange off (p.length - 8) = true ∧
     s1.flcHeld = false)
    ∧ (let s : State := node
     let o : Sys2Proof.Origin := wO
     let p : List Byte := [1, 0, 0, 0]
     let s1 := s.taking o
     s.takes o 65 p ∧
     p.length = 4 ∧
     slotArg p = true ∧
     s1.mode ≠ 5 ∧
     s1.rangeLocked (boardSlotOff (byteAt p 0)) 1048576 = false ∧
     s1.flcHeld = false)
    ∧ (let s : State := node
     let o : Sys2Proof.Origin := wO
     let p : List Byte := [1, 0, 0, 0]
     s.takes o 66 p ∧
     p.length = 4 ∧
     slotArg p = true)
    ∧ (let s : State := node
     let o : Sys2Proof.Origin := wO
     let p : List Byte := [1, 1, 0, 0, 0, 0, 0, 0]
     let s1 := s.taking o
     s.takes o 67 p ∧
     p.length = 8 ∧
     byteAt p 0 ≤ 3 ∧
     byteAt p 1 ≤ 1 ∧
     allZero (List.take 2 (List.drop 2 p)) = true ∧
     s1.mode ≠ 0 ∧
     s1.mode ≠ 5 ∧
     s1.pw.trans = none ∧
     s1.brd.reload = none ∧
     s1.brd.swap = none ∧
     (byteAt p 1 = 1 → bitsOf s1.bootList 16 8 = 255))
    ∧ (let s : State := { node.setFld F.brdSwapstatState 1 with brd := { swap := some { slot := 1, persist := false, round := 0 } } }
     let o : Sys2Proof.Origin := wO
     let s1 := s.taking o
     s.takes o 68 [] ∧
     s1.swapStoppable = true)
    ∧ (let s : State := node.setFld F.pmuModestatMode 4
     let o : Sys2Proof.Origin := wO
     let s1 := s.taking o
     s.takes o 69 [] ∧
     s1.mode = 4 ∧
     s1.brd.reload = none ∧
     s1.brd.swap = none)
    ∧ (let s : State := node
     let o : Sys2Proof.Origin := wO
     let p : List Byte := [1, 0xFF, 0xFF, 0xFF]
     let s1 := s.taking o
     s.takes o 70 p ∧
     p.length = 4 ∧
     bootListOk (leNat p) = true ∧
     s1.mode ≠ 5)
    ∧ (let s : State := node
     let o : Sys2Proof.Origin := wO
     s.takes o 71 []) :=
  ⟨by unfold State.takes; decide +kernel,
   by unfold State.takes; decide +kernel,
   by unfold State.takes; decide +kernel,
   by unfold State.takes; decide +kernel,
   by unfold State.takes; decide +kernel,
   by unfold State.takes; decide +kernel,
   by unfold State.takes; decide +kernel,
   by unfold State.takes; decide +kernel⟩

/-- The hypotheses of `SwapPhases` are met, clause by clause. -/
theorem witness_swapPhases :
    (let s : State := node
     let w : Word := 0x40000101
     s.comUp = true ∧
     bitAt (BitVec.toNat w) 31 = false ∧
     bitAt (BitVec.toNat w) 30 = true ∧
     let s1 := s.writeReg A.brdSwapctl w
     s1.mode ≠ 0 ∧
     s1.mode ≠ 5 ∧
     s.pw.trans = none ∧
     s.brd.reload = none ∧
     s.brd.swap = none ∧
     (bitAt (BitVec.toNat w) 8 = true → bitsOf s1.bootList 16 8 = 255))
    ∧ (let s : State := { node.setFld F.brdSwapstatState 3 with brd := { swap := some { slot := 1, persist := false, round := 0 } } }
     let w : Word := 0x80000000
     s.comUp = true ∧
     bitAt (BitVec.toNat w) 31 = true ∧
     (s.writeReg A.brdSwapctl w).swapStoppable = true ∧
     s.pw.waiting = none)
    ∧ (let s : State := { node.setFld F.brdSwapstatState 1 with brd := { swap := some { slot := 1, persist := false, round := 0 } } }
     let w : SwapState := { slot := 1, persist := false, round := 0 }
     s.brd.swap = some w ∧
     s.fld F.brdSwapstatState = 1)
    ∧ (let s : State := { node.setFld F.brdSwapstatState 2 with brd := { swap := some { slot := 1, persist := false, round := 0 } } }
     let w : SwapState := { slot := 1, persist := false, round := 0 }
     s.brd.swap = some w ∧
     s.fld F.brdSwapstatState = 2 ∧
     w.target * 1000000000 ≤ s.ntmNs + s.drainLead)
    ∧ (let s : State := { node.setFld F.brdSwapstatState 3 with brd := { swap := some { slot := 1, persist := false, round := 0 } }, cap := { draining := [0], ctxs := [(0, { state := 2 })] } }
     let w : SwapState := { slot := 1, persist := false, round := 0 }
     s.brd.swap = some w ∧
     s.fld F.brdSwapstatState = 3 ∧
     w.target * 1000000000 ≤ s.ntmNs ∧
     s.swapAffected w = true ∧
     s.fld F.brdSwapstatDefers < s.fld F.brdSwapcfgMaxdefer)
    ∧ (let s : State := { node.setFld F.brdSwapstatState 4 with brd := { swap := some { slot := 1, persist := true, round := 0 } } }
     let w : SwapState := { slot := 1, persist := true, round := 0 }
     s.brd.swap = some w ∧
     s.fld F.brdSwapstatState = 4 ∧
     w.persist = true ∧
     s.pw.waiting = none)
    ∧ (let s : State := { node with brd := { persisting := some 1 } }
     let k : Nat := 1
     s.brd.persisting = some k ∧
     s.mode ≠ 5 ∧
     let n := s.bootList
     let r := s.writeBootList (if bitsOf n 8 8 = 255 then setBitsOf n 8 8 k else setBitsOf n 16 8 k)
     r.1 = Status.ok)
    ∧ (let s : State := { node with brd := { reload := some wO } }
     let o : Sys2Proof.Origin := wO
     s.brd.reload = some o) :=
  ⟨by decide +kernel,
   by decide +kernel,
   by decide +kernel,
   by decide +kernel,
   by decide +kernel,
   by decide +kernel,
   by decide +kernel,
   by decide +kernel⟩

/-- The hypotheses of `FlashRoutines` are met, clause by clause. -/
theorem witness_flashRoutines :
    (let s : State := caller [(1, 0x01F00000), (2, 0x20040000), (3, 256)]
     let core : Nat := 0
     s.callReady core ∧
     let off : Nat := 0x01F00000
     let src : Nat := 0x20040000
     let n : Nat := 256
     s.arg core 1 = off ∧
     s.arg core 2 = src ∧
     s.arg core 3 = n ∧
     s.argsZero core 4 = true ∧
     off % 256 = 0 ∧
     n % 256 = 0 ∧
     256 ≤ n ∧
     n ≤ 4096 ∧
     sourceOk src n = true ∧
     rangePermitted off n = true ∧
     s.rangeLocked off n = false ∧
     s.erasedRange off n = true ∧
     s.flcHeld = false)
    ∧ (let s : State := caller [(1, 0x01F00000), (2, 256)]
     let core : Nat := 0
     s.callReady core ∧
     let off : Nat := 0x01F00000
     let n : Nat := 256
     s.arg core 1 = off ∧
     s.arg core 2 = n ∧
     s.argsZero core 3 = true ∧
     off % 4096 = 0 ∧
     1 ≤ n ∧
     n ≤ 256 ∧
     rangePermitted off (4096 * n) = true ∧
     s.rangeLocked off (4096 * n) = false ∧
     s.flcHeld = false)
    ∧ (let s : State := caller []
     let core : Nat := 0
     s.callReady core ∧
     s.argsZero core 1 = true)
    ∧ (let s : State := caller []
     let core : Nat := 0
     s.callReady core ∧
     s.argsZero core 1 = true ∧
     s.flcHeld = false ∧
     s.flc.redirect = none)
    ∧ (let s : State := caller []
     let core : Nat := 0
     s.callReady core ∧
     s.argsZero core 1 = true ∧
     s.flcHeld = false ∧
     s.flc.redirect = none ∧
     List.find? (fun k => !s.refreshDeferred k) s.flc.marked = none)
    ∧ (let s : State := { caller [] with flc := { marked := [7] } }
     let core : Nat := 0
     s.callReady core ∧
     s.argsZero core 1 = true ∧
     s.flcHeld = false ∧
     s.flc.redirect = none ∧
     let k : Nat := 7
     List.find? (fun k => !s.refreshDeferred k) s.flc.marked = some k)
    ∧ (let s : State := (caller [(2, 0x24000000), (3, 32)]).setBytes 0x24000000 dfi0
     let core : Nat := 0
     s.callReady core ∧
     let item : Nat := 0
     let n : Nat := 32
     s.arg core 1 = item ∧
     s.arg core 3 = n ∧
     s.argsZero core 4 = true ∧
     sourceOk (s.arg core 2) n = true ∧
     s.flcHeld = false ∧
     let img := s.bytes (s.arg core 2) n
     item = 0 ∧
     32 ≤ n ∧
     n ≤ 4064 ∧
     dfiForm img = true)
    ∧ (let s : State := imageCall
     let core : Nat := 0
     s.callReady core ∧
     let item : Nat := 1
     let n : Nat := 544
     s.arg core 1 = item ∧
     s.arg core 3 = n ∧
     s.argsZero core 4 = true ∧
     sourceOk (s.arg core 2) n = true ∧
     s.flcHeld = false ∧
     let img := s.bytes (s.arg core 2) n
     item = 1 ∧
     n = 544 ∧
     rlrForm (rlrSeal img 0) = true ∧
     rlrForm (rlrSeal img (nextGen s.rlrCopies)) = true ∧
     s.rlrAccepts img = true)
    ∧ (let s : State := ((caller []).writeCopies 0 dfi0 3).2
     let core : Nat := 0
     s.callReady core ∧
     let item : Nat := 0
     s.arg core 1 = item ∧
     item ≤ 1 ∧
     s.argsZero core 2 = true ∧
     s.flcHeld = false ∧
     ((if item = 0 then (dfiResolve s.dfiCopies).2 else rlrResolve s.rlrCopies).isSome = true))
    ∧ (let s : State := caller []
     let core : Nat := 0
     s.callReady core ∧
     let level : Nat := 0
     s.arg core 1 = level ∧
     s.argsZero core 2 = true ∧
     s.rdpLevel ≤ 1 ∧
     level = s.rdpLevel ∧
     s.flcHeld = false)
    ∧ (let s : State := caller [(1, 1)]
     let core : Nat := 0
     s.callReady core ∧
     let level : Nat := 1
     s.arg core 1 = level ∧
     s.argsZero core 2 = true ∧
     s.rdpLevel = 0 ∧
     level = 1 ∧
     s.flcHeld = false)
    ∧ (let s : State := caller [(1, 2)]
     let core : Nat := 0
     s.callReady core ∧
     let level : Nat := 2
     s.arg core 1 = level ∧
     s.argsZero core 2 = true ∧
     s.rdpLevel < 2 ∧
     level = 2 ∧
     s.flcHeld = false)
    ∧ (let s : State := ((caller []).setFld F.pmuModestatMode 4).setFlash 0 (leBytes 4 0x5A3CC3A5)
     let core : Nat := 0
     s.callReady core ∧
     let level : Nat := 0
     s.arg core 1 = level ∧
     s.argsZero core 2 = true ∧
     s.rdpLevel = 1 ∧
     level = 0 ∧
     s.mode = 4 ∧
     s.flcHeld = false ∧
     s.jrn.msgs = [] ∧
     s.jrn.acts = [])
    ∧ (let s : State := (caller [(1, 0x80), (2, 0x24000000)]).setMem 0x24000000 8 1
     let core : Nat := 0
     s.callReady core ∧
     let word : Nat := 0x80
     let src : Nat := 0x24000000
     s.arg core 1 = word ∧
     s.arg core 2 = src ∧
     sourceOk src 8 = true ∧
     s.argsZero core 3 = true ∧
     128 ≤ word ∧
     word ≤ 131 ∧
     s.floorBad word (s.mem src 8) = false ∧
     s.flcHeld = false)
    ∧ (let s : State := caller []
     let core : Nat := 0
     s.callReady core ∧
     s.argsZero core 1 = true ∧
     s.flcHeld = false)
    ∧ (let s : State := caller []
     let core : Nat := 0
     s.callReady core) :=
  ⟨by unfold State.callReady; decide +kernel,
   by unfold State.callReady; decide +kernel,
   by unfold State.callReady; decide +kernel,
   by unfold State.callReady; decide +kernel,
   by unfold State.callReady; decide +kernel,
   by unfold State.callReady; decide +kernel,
   by unfold State.callReady; decide +kernel,
   ⟨by unfold State.callReady; decide +kernel, by decide +kernel, by decide +kernel, by decide +kernel, by decide +kernel, by decide +kernel, by decide +kernel, by decide +kernel,
    (congrArg (fun l => rlrForm (rlrSeal l 0)) imageCall_bytes).trans (by decide +kernel),
    (congrArg (fun l => rlrForm (rlrSeal l (nextGen imageCall.rlrCopies))) imageCall_bytes).trans (by decide +kernel),
    (congrArg (fun l => imageCall.rlrAccepts l) imageCall_bytes).trans (by decide +kernel)⟩,
   by unfold State.callReady; decide +kernel,
   by unfold State.callReady; decide +kernel,
   by unfold State.callReady; decide +kernel,
   by unfold State.callReady; decide +kernel,
   by unfold State.callReady; decide +kernel,
   by unfold State.callReady; decide +kernel,
   by unfold State.callReady; decide +kernel,
   by unfold State.callReady; decide +kernel⟩

/-- The hypotheses of `FlashOperations` are met, clause by clause. -/
theorem witness_flashOperations :
    (let s : State := { node with flc := { erase := some { first := 0x1F00, count := 1 } } }
     let e : EraseJob := { first := 0x1F00, count := 1 }
     s.flc.erase = some e ∧
     e.lower = false ∧
     e.suspended = false)
    ∧ (let s : State := { node with flc := { erase := some { first := 0, count := 8192, lower := true } } }
     let e : EraseJob := { first := 0, count := 8192, lower := true }
     s.flc.erase = some e ∧
     e.lower = true ∧
     e.suspended = false ∧
     s.pw.boot ≠ BootPhase.bist ∧
     s.pw.boot ≠ BootPhase.held ∧
     (∀ (x : Nat × Nat × Nat), s.pw.lastReset = some x → x.1 ≠ s.tick))
    ∧ (let s : State := { node with flc := { erase := some { first := 0x1F00, count := 1, suspended := true } } }
     let e : EraseJob := { first := 0x1F00, count := 1, suspended := true }
     s.flc.erase = some e ∧
     e.suspended = true)
    ∧ (let s : State := node.raise F.flcScrubcfgEn
     s.comUp = true ∧
     s.domainOn Domain.fl = true ∧
     s.flag F.flcScrubcfgEn = true)
    ∧ (let s : State := node
     s.comUp = true)
    ∧ (let s : State := node.setRegN A.flcOpsrc 0x24000000
     let w : Word := 0x80000001
     s.comUp = true ∧
     bitAt (BitVec.toNat w) 31 = true ∧
     let op := bitsOf (BitVec.toNat w) 0 4
     let addr := s.regN A.flcOpaddr
     let src := s.regN A.flcOpsrc
     op = 1 ∧
     s.flc.op = none ∧
     opArgsOk op addr src = true ∧
     (op = 1 → s.erasedRange addr 256 = true))
    ∧ (let s : State := node
     let w : Word := 0x80000002
     s.comUp = true ∧
     bitAt (BitVec.toNat w) 31 = true ∧
     let op := bitsOf (BitVec.toNat w) 0 4
     let addr := s.regN A.flcOpaddr
     let src := s.regN A.flcOpsrc
     op = 2 ∧
     s.flc.op = none ∧
     opArgsOk op addr src = true ∧
     (op = 1 → s.erasedRange addr 256 = true))
    ∧ (let s : State := node
     let w : Word := 0x80000003
     s.comUp = true ∧
     bitAt (BitVec.toNat w) 31 = true ∧
     let op := bitsOf (BitVec.toNat w) 0 4
     let addr := s.regN A.flcOpaddr
     let src := s.regN A.flcOpsrc
     op = 3 ∧
     s.flc.op = none ∧
     opArgsOk op addr src = true ∧
     (op = 1 → s.erasedRange addr 256 = true))
    ∧ (let s : State := (node.setRegN A.flcOpaddr 0x84).setRegN A.flcOpsrc 0x24000000
     let w : Word := 0x80000006
     s.comUp = true ∧
     bitAt (BitVec.toNat w) 31 = true ∧
     let op := bitsOf (BitVec.toNat w) 0 4
     let addr := s.regN A.flcOpaddr
     let src := s.regN A.flcOpsrc
     op = 6 ∧
     s.flc.op = none ∧
     opArgsOk op addr src = true ∧
     (op = 1 → s.erasedRange addr 256 = true))
    ∧ (let s : State := { node with flc := { op := some { op := 2, addr := 0, src := 0 } } }
     let w : Word := 0x80000004
     s.comUp = true ∧
     bitAt (BitVec.toNat w) 31 = true ∧
     let op := bitsOf (BitVec.toNat w) 0 4
     op = 4 ∧
     let o : FlashOp := { op := 2, addr := 0, src := 0 }
     s.flc.op = some o ∧
     (o.op = 2 ∨ o.op = 3) ∧
     o.suspended = false)
    ∧ (let s : State := { node with flc := { op := some { op := 2, addr := 0, src := 0, suspended := true } } }
     let w : Word := 0x80000005
     s.comUp = true ∧
     bitAt (BitVec.toNat w) 31 = true ∧
     let op := bitsOf (BitVec.toNat w) 0 4
     op = 5 ∧
     let o : FlashOp := { op := 2, addr := 0, src := 0, suspended := true }
     s.flc.op = some o)
    ∧ (let s : State := { node with flc := { op := some { op := 6, addr := 0x84, src := 0x24000000 } } }
     let o : FlashOp := { op := 6, addr := 0x84, src := 0x24000000 }
     s.flc.op = some o ∧
     o.suspended = false) :=
  ⟨by decide +kernel,
   by decide +kernel,
   by decide +kernel,
   by decide +kernel,
   by decide +kernel,
   by decide +kernel,
   by decide +kernel,
   by decide +kernel,
   by decide +kernel,
   by decide +kernel,
   by decide +kernel,
   by decide +kernel⟩

/-- The hypotheses of `NvHostCommands` are met, clause by clause. -/
theorem witness_nvHostCommands :
    (let s : State := node
     let o : Sys2Proof.Origin := wO
     let p : List Byte := [0, 0, 0, 0] ++ dfi0
     let s1 := s.taking o
     s1.mode ≠ 5 ∧
     s.takes o 80 p ∧
     12 ≤ p.length ∧
     p.length ≤ 1020 ∧
     (p.length - 4) % 8 = 0 ∧
     byteAt p 2 ≤ 1 ∧
     byteAt p 3 = 0 ∧
     (leAt p 0 2 = 0 ∨ leAt p 0 2 = s.flc.stage.length) ∧
     leAt p 0 2 + (p.length - 4) ≤ 4096 ∧
     byteAt p 2 = 0)
    ∧ (let s : State := node
     let o : Sys2Proof.Origin := wO
     let p : List Byte := [0, 0, 1, 0] ++ dfi0
     let s1 := s.taking o
     s1.mode ≠ 5 ∧
     s.takes o 80 p ∧
     12 ≤ p.length ∧
     p.length ≤ 1020 ∧
     (p.length - 4) % 8 = 0 ∧
     byteAt p 2 ≤ 1 ∧
     byteAt p 3 = 0 ∧
     (leAt p 0 2 = 0 ∨ leAt p 0 2 = s.flc.stage.length) ∧
     leAt p 0 2 + (p.length - 4) ≤ 4096 ∧
     let img := if leAt p 0 2 = 0 then List.drop 4 p else s.flc.stage ++ List.drop 4 p
     byteAt p 2 = 1 ∧
     dfiForm img = true ∧
     s.flcHeld = false)
    ∧ (let s : State := (node.writeCopies 0 dfi0 3).2
     let o : Sys2Proof.Origin := wO
     let p : List Byte := [0, 0, 0, 0]
     let s1 := s.taking o
     s1.mode ≠ 5 ∧
     s.takes o 81 p ∧
     p.length = 4 ∧
     byteAt p 0 ≤ 3 ∧
     byteAt p 1 = 0 ∧
     leAt p 2 2 ≤ 4064 ∧
     let got := if byteAt p 0 = 0 then (dfiResolve s.dfiCopies).2 else s.dfiCopy (byteAt p 0 - 1)
     let img : List Byte := dfi0
     got = some img)
    ∧ (let s : State := node
     let o : Sys2Proof.Origin := wO
     let p : List Byte := rlr0
     let s1 := s.taking o
     s1.mode ≠ 5 ∧
     s.takes o 82 p ∧
     p.length = 544 ∧
     rlrForm (rlrSeal p 0) = true ∧
     rlrForm (rlrSeal p (nextGen s.rlrCopies)) = true ∧
     s.rlrAccepts p = true ∧
     s.flcHeld = false)
    ∧ (let s : State := node
     let o : Sys2Proof.Origin := wO
     let p : List Byte := [0, 0, 0, 0]
     let s1 := s.taking o
     s1.mode ≠ 5 ∧
     s.takes o 83 p ∧
     p.length = 4 ∧
     allZero (List.drop 1 p) = true ∧
     byteAt p 0 = 0)
    ∧ (let s : State := { node with flash := cells 0x01E01000 rlr1 }
     let o : Sys2Proof.Origin := wO
     let p : List Byte := [3, 0, 0, 0]
     let s1 := s.taking o
     s1.mode ≠ 5 ∧
     s.takes o 83 p ∧
     p.length = 4 ∧
     allZero (List.drop 1 p) = true ∧
     let c : Nat := 2
     let img : List Byte := rlr1
     byteAt p 0 = c + 1 ∧
     c < 3 ∧
     s.rlrCopy c = some img)
    ∧ (let s : State := node
     let o : Sys2Proof.Origin := wO
     let s1 := s.taking o
     s1.mode ≠ 5 ∧
     s.takes o 84 [])
    ∧ (let s : State := node
     let o : Sys2Proof.Origin := wO
     let p : List Byte := [0, 0, 0, 0] ++ List.replicate 256 0
     let s1 := s.taking o
     s1.mode ≠ 5 ∧
     s.takes o 85 p ∧
     260 ≤ p.length ∧
     p.length ≤ 3844 ∧
     (p.length - 4) % 256 = 0 ∧
     leAt p 0 4 % 256 = 0 ∧
     leAt p 0 4 + (p.length - 4) ≤ 1048576 ∧
     let off := 32505856 + leAt p 0 4
     s1.rangeLocked off (p.length - 4) = false ∧
     s.erasedRange off (p.length - 4) = true ∧
     s.flcHeld = false)
    ∧ (let s : State := node
     let o : Sys2Proof.Origin := wO
     let p : List Byte := [0xFF, 0xFF, 0x0F, 0, 1, 0, 0, 0]
     let s1 := s.taking o
     s1.mode ≠ 5 ∧
     s.takes o 86 p ∧
     p.length = 8 ∧
     leAt p 6 2 = 0 ∧
     1 ≤ leAt p 4 2 ∧
     leAt p 4 2 ≤ 1008 ∧
     leAt p 0 4 + leAt p 4 2 ≤ 1048576)
    ∧ (let s : State := node
     let o : Sys2Proof.Origin := wO
     let p : List Byte := [0, 0, 0, 0, 0, 1, 0, 0]
     let s1 := s.taking o
     s1.mode ≠ 5 ∧
     s.takes o 87 p ∧
     p.length = 8 ∧
     leAt p 6 2 = 0 ∧
     leAt p 0 4 % 4096 = 0 ∧
     1 ≤ leAt p 4 2 ∧
     leAt p 4 2 ≤ 256 ∧
     leAt p 0 4 + 4096 * leAt p 4 2 ≤ 1048576 ∧
     s1.rangeLocked (32505856 + leAt p 0 4) (4096 * leAt p 4 2) = false ∧
     s.flcHeld = false) :=
  ⟨by unfold State.takes; decide +kernel,
   by unfold State.takes; decide +kernel,
   by unfold State.takes; decide +kernel,
   by unfold State.takes; decide +kernel,
   by unfold State.takes; decide +kernel,
   ⟨by decide +kernel, by unfold State.takes; decide +kernel, by decide +kernel, by decide +kernel, by decide +kernel, by decide +kernel, rlrCopy_cells⟩,
   by unfold State.takes; decide +kernel,
   by unfold State.takes; decide +kernel,
   by unfold State.takes; decide +kernel,
   by unfold State.takes; decide +kernel⟩

/-- The hypotheses of `FirmwareUpdate` are met, clause by clause. -/
theorem witness_firmwareUpdate :
    (let s : State := node
     let o : Sys2Proof.Origin := wO
     let p : List Byte := List.replicate 264 0
     let s1 := s.taking o
     s1.mode ≠ 5 ∧
     s.takes o 48 p ∧
     fwWriteLen o.ep p.length = true ∧
     byteAt p 0 ≤ 1 ∧
     allZero (List.take 3 (List.drop 1 p)) = true ∧
     leAt p 4 4 % 256 = 0 ∧
     leAt p 4 4 + (p.length - 8) ≤ 8388608 ∧
     s.fwLocked (byteAt p 0) = false ∧
     let off := fwSlotOff (byteAt p 0) + leAt p 4 4
     s1.rangeLocked off (p.length - 8) = false ∧
     s.erasedRange off (p.length - 8) = true ∧
     s.flcHeld = false)
    ∧ (let s : State := node
     let o : Sys2Proof.Origin := wO
     let p : List Byte := List.replicate 8 0
     let s1 := s.taking o
     s1.mode ≠ 5 ∧
     s.takes o 49 p ∧
     p.length = 8 ∧
     byteAt p 0 ≤ 1 ∧
     allZero (List.take 3 (List.drop 1 p)) = true ∧
     leAt p 4 4 ≤ 8388608 ∧
     s.fwLocked (byteAt p 0) = false ∧
     s.flcHeld = false)
    ∧ (let s : State := node
     let o : Sys2Proof.Origin := wO
     let p : List Byte := [1, 0, 0, 0]
     let s1 := s.taking o
     s1.mode ≠ 5 ∧
     s.takes o 50 p ∧
     p.length = 4 ∧
     byteAt p 0 ≤ 1 ∧
     allZero (List.drop 1 p) = true)
    ∧ (let s : State := node.raise F.jrnCfgEn
     let o : Sys2Proof.Origin := wO
     let p : List Byte := List.replicate 16 0
     let s1 := s.taking o
     s1.mode ≠ 5 ∧
     s.takes o 51 p ∧
     p.length = 16 ∧
     byteAt p 0 ≤ 1 ∧
     allZero (List.take 3 (List.drop 1 p)) = true ∧
     s.fwRunning (byteAt p 0) = false ∧
     s1.flag F.jrnCfgEn = true ∧
     (leAt p 4 8 ≠ 0 → s1.flag F.ntmStatValid = true ∧ s1.ntmReached (leAt p 4 8 - 1) = false) ∧
     s.jrn.acts = [] ∧
     s.actCommitting = false ∧
     s.fw.trial = false)
    ∧ (let s : State := { node with jrn := { acts := [(1, List.replicate 16 0)] } }
     let o : Sys2Proof.Origin := wO
     let s1 := s.taking o
     s1.mode ≠ 5 ∧
     let j : Nat := 1
     let b : List Byte := List.replicate 16 0
     s.takes o 52 [] ∧
     s.scheduledAct = some (j, b) ∧
     s1.cancelOpen b = true ∧
     s.fw.cancelHost = none)
    ∧ (let s : State := node
     let o : Sys2Proof.Origin := wO
     let s1 := s.taking o
     s1.mode ≠ 5 ∧
     s.takes o 53 [])
    ∧ (let s : State := { node.writeBcr ⟨0, 0, 0xFF, 0, 0, 0, 0⟩ with fw := { slot := some 0, trial := true } }
     let o : Sys2Proof.Origin := wO
     let s1 := s.taking o
     s1.mode ≠ 5 ∧
     let b : Bcr := ⟨1, 0, 0xFF, 0, 0, 0, 0⟩
     let k : Nat := 0
     s.takes o 54 [] ∧
     s.fw.trial = true ∧
     s.bcr = some b ∧
     s.fw.slot = some k)
    ∧ (let s : State := { node with jrn := { acts := [(1, List.replicate 16 0)] } }
     let j : Nat := 1
     let b : List Byte := List.replicate 16 0
     s.scheduledAct = some (j, b) ∧
     s.actHeld = false ∧
     s.fw.asked ≠ some j ∧
     s.actNear b = true ∧
     s.fw.cancelHost = none ∧
     ¬(actRound b = 0 ∧ s.mode = 4) ∧
     let r := { mode := 4, profile := 0, bands := 0, source := 3, at_ := s.tick }
     s.checkMode r = none ∧
     s.pw.trans = none ∧
     s.swapHoldsMode = false)
    ∧ (let s : State := { node.setFld F.pmuModestatMode 4 with jrn := { acts := [(1, List.replicate 16 0)] } }
     let j : Nat := 1
     let b : List Byte := List.replicate 16 0
     s.scheduledAct = some (j, b) ∧
     s.actHeld = false ∧
     s.fw.asked ≠ some j ∧
     actRound b = 0 ∧
     s.mode = 4 ∧
     s.fw.cancelHost = none)
    ∧ (let s : State := { node.setFld F.pmuModestatMode 4 with jrn := { acts := [(1, List.replicate 16 0)] }, fw := { asked := some 1 } }
     let j : Nat := 1
     let b : List Byte := List.replicate 16 0
     s.scheduledAct = some (j, b) ∧
     s.actHeld = false ∧
     s.fw.asked = some j ∧
     s.fw.firing = none ∧
     s.actDue b = true)
    ∧ (let s : State := { node with fw := { asked := some 1, firing := some 1 } }
     let j : Nat := 1
     s.fw.firing = some j ∧
     s.onAir = false ∧
     s.swapWindow = false ∧
     s.actHeld = false ∧
     (∀ (x : Nat × Nat × Nat), s.pw.lastReset = some x → x.1 ≠ s.tick))
    ∧ (let s : State := { node.writeBcr ⟨0, 0, 0xFF, 0, 0, 0, 0⟩ with fw := { slot := some 0, trial := true, confSec := 60, trialLf := 1966080 } }
     let b : Bcr := ⟨1, 0, 0xFF, 0, 0, 0, 0⟩
     let k : Nat := 0
     s.pw.boot = BootPhase.run ∧
     s.fw.trial = true ∧
     s.fw.confSec ≠ 0 ∧
     s.fw.confSec * 32768 ≤ s.fw.trialLf ∧
     s.comUp = true ∧
     s.domainOn Domain.fl = true ∧
     s.bcr = some b ∧
     s.fw.slot = some k) :=
  ⟨by unfold State.takes; decide +kernel,
   by unfold State.takes; decide +kernel,
   by unfold State.takes; decide +kernel,
   by unfold State.takes; decide +kernel,
   by unfold State.takes; decide +kernel,
   by unfold State.takes; decide +kernel,
   by unfold State.takes; decide +kernel,
   by decide +kernel,
   by decide +kernel,
   by decide +kernel,
   by decide +kernel,
   by decide +kernel⟩

/-- The hypotheses of `BistAndFaultRecords` are met, clause by clause. -/
theorem witness_bistAndFaultRecords :
    (let s : State := node.setFld F.pmuModestatMode 4
     let o : Sys2Proof.Origin := wO
     let p : List Byte := [0xFF, 0, 0, 0]
     let s1 := s.taking o
     s.takes o 96 p ∧
     p.length = 4 ∧
     allZero (List.drop 1 p) = true ∧
     s1.bistCode (byteAt p 0) false = Status.ok)
    ∧ (let s : State := node.setFld F.pmuModestatMode 4
     let w : Word := 0x80000001
     s.comUp = true ∧
     s.running = true ∧
     bitAt (BitVec.toNat w) 31 = true ∧
     bitsOf (BitVec.toNat w) 8 23 = 0 ∧
     s.bistCode (bitsOf (BitVec.toNat w) 0 8) false = Status.ok)
    ∧ (let s : State := { node with pw := { node.pw with boot := .bist }, fcr := { bist := some { tests := 1, tmb := 0 } } }
     let b : BistRun := { tests := 1, tmb := 0 }
     let sigs : List (Nat × Nat) := [(0, 0)]
     s.fcr.bist = some b ∧
     s.pw.boot = BootPhase.bist ∧
     (∀ q ∈ sigs, q.1 < 8 ∧ bitAt b.tests q.1 = true) ∧
     (∀ k < 8, bitAt b.tests k = true → (sigOf sigs k).isSome = true) ∧
     (∀ (x : Nat × Nat × Nat), s.pw.lastReset = some x → x.1 ≠ s.tick))
    ∧ (let s : State := { node with flash := (cells (bistOff 0) bist0).filter (fun x => x.2 != 0xFF) }
     let o : Sys2Proof.Origin := wO
     let p : List Byte := [0, 0, 0, 0]
     let u : Nat := 0
     let r : List Byte := bist0
     s.takes o 97 p ∧
     p.length = 4 ∧
     allZero (List.drop 1 p) = true ∧
     byteAt p 0 < 16 ∧
     s.bistRecords[byteAt p 0]? = some (u, r))
    ∧ (let s : State := node.setFlash (fcrOff 15) [0]
     let o : Sys2Proof.Origin := wO
     let p : List Byte := [15, 0, 0, 0]
     s.takes o 98 p ∧
     p.length = 4 ∧
     allZero (List.drop 1 p) = true ∧
     byteAt p 0 < 16 ∧
     s.fcrUsed (byteAt p 0) = true)
    ∧ (let s : State := { node with fcr := { pending := [⟨1, 0, 0, 0, 0, 0, 0, 0, 0, 0, []⟩] } }
     let f : FaultRec := ⟨1, 0, 0, 0, 0, 0, 0, 0, 0, 0, []⟩
     let rest : List FaultRec := []
     let u : Nat := 0
     s.fcr.pending = f :: rest ∧
     s.domainOn Domain.fl = true ∧
     s.fcrKnown f.kind f.site = false ∧
     List.find? (fun u => !s.fcrUsed u) (List.range 16) = some u) :=
  ⟨by unfold State.takes; decide +kernel,
   by decide +kernel,
   by decide +kernel,
   by unfold State.takes; decide +kernel,
   by unfold State.takes; decide +kernel,
   by decide +kernel⟩

/-- The hypotheses of `KeySlotsAndRoots` are met, clause by clause. -/
theorem witness_keySlotsAndRoots :
    (let s : State := node.lower F.keySealSealed
     s.comUp = true ∧
     let rom : Bool := false
     let w : Word := 0x800F0010
     bitAt (BitVec.toNat w) 31 = true ∧
     s.loadCode rom (BitVec.toNat w) = Status.ok)
    ∧ (let s : State := node
     s.comUp = true)
    ∧ (let s : State := node
     s.comUp = true)
    ∧ (let s : State := node.raise F.tmpStatStorepend
     s.comUp = true ∧
     s.flag F.tmpStatStorepend = true ∧
     s.domainOn Domain.fl = true)
    ∧ (let s : State := node.setFld F.pmuModestatMode 4
     let o : Sys2Proof.Origin := wO
     let p : List Byte := [1, 3, 0, 0] ++ List.replicate 64 1
     let s1 := s.taking o
     s1.mayProvision = true ∧
     leAt p 2 2 = 0 ∧
     let kind : Nat := 1
     (kind = 1 ∨ kind = 2) ∧
     s.takes o 145 p ∧
     p.length = 68 ∧
     byteAt p 0 = kind ∧
     byteAt p 1 ≤ 3 ∧
     s.rootSet (signWord kind (byteAt p 1)) 8 = false)
    ∧ (let s : State := node.setFld F.pmuModestatMode 4
     let o : Sys2Proof.Origin := wO
     let p : List Byte := [3, 0, 0, 0] ++ List.replicate 32 1
     let s1 := s.taking o
     s1.mayProvision = true ∧
     leAt p 2 2 = 0 ∧
     s.takes o 145 p ∧
     p.length = 36 ∧
     byteAt p 0 = 3 ∧
     s.rootSet 320 4 = false)
    ∧ (let s : State := (node.setFld F.pmuModestatMode 4).orOtp 0x140 1
     let o : Sys2Proof.Origin := wO
     let p : List Byte := [4, 0, 0, 0] ++ List.replicate 8 0
     let s1 := s.taking o
     let b := List.drop 4 p
     s1.mayProvision = true ∧
     leAt p 2 2 = 0 ∧
     s.takes o 145 p ∧
     p.length = 12 ∧
     byteAt p 0 = 4 ∧
     leAt b 0 8 < 2 ^ 33 ∧
     s.maintSet = true)
    ∧ (let s : State := node.setFld F.pmuModestatMode 4
     let o : Sys2Proof.Origin := wO
     let p : List Byte := [2, 3, 0, 0]
     let s1 := s.taking o
     s1.mayProvision = true ∧
     leAt p 2 2 = 0 ∧
     s.takes o 146 p ∧
     p.length = 4 ∧
     (byteAt p 0 = 1 ∨ byteAt p 0 = 2) ∧
     byteAt p 1 ≤ 3 ∧
     (byteAt p 0 = 2 → s.fw.slot = none ∨ s.fw.keyId ≠ byteAt p 1) ∧
       (byteAt p 0 = 1 → s.brd.keyId ≠ some (byteAt p 1))) :=
  ⟨by decide +kernel,
   by decide +kernel,
   by decide +kernel,
   by decide +kernel,
   by unfold State.takes; decide +kernel,
   by unfold State.takes; decide +kernel,
   by unfold State.takes; decide +kernel,
   by unfold State.takes; decide +kernel⟩

/-- The hypotheses of `CryptoOperations` are met, clause by clause. -/
theorem witness_cryptoOperations :
    (let s : State := (((((node.setRegN (A.crySrc 0) 0x24000000).setRegN (A.cryDst 0) 0x24000100).setRegN (A.cryParam 0) 0x24000200).setBytes 0x24000200 (List.replicate 128 0)).lower F.keySealSealed)
     let c : Nat := 0
     s.comUp = true ∧
     c < 7 ∧
     let w : Word := 0x80050000
     bitAt (BitVec.toNat w) 31 = true ∧
     let s1 := s.writeReg (A.cryCtl c) w
     let op := s1.cryOp c (BitVec.toNat w)
     s1.startCode c (BitVec.toNat w) op = Status.pending)
    ∧ (let s : State := { node with sec := { ops := [(0, ⟨5, false, 0, 0, 0, 0, 0, 0, [], [], 0, 0, none⟩)] } }
     let c : Nat := 0
     s.comUp = true ∧
     c < 7 ∧
     let w : Word := 0x40000000
     let op : CryOp := ⟨5, false, 0, 0, 0, 0, 0, 0, [], [], 0, 0, none⟩
     bitAt (BitVec.toNat w) 31 = false ∧
     bitAt (BitVec.toNat w) 30 = true ∧
     Sparse.find? s.sec.ops c = some op ∧
     op.ended = none)
    ∧ (let s : State := { node with sec := { ops := [(0, ⟨10, false, 0, 0, 0, 0, 0, 0, [], [], 0, 0, none⟩)], lastPk := 0 } }
     let c : Nat := 0
     s.comUp = true ∧
     c < 7 ∧
     let pk : Bool := true
     let op : CryOp := ⟨10, false, 0, 0, 0, 0, 0, 0, [], [], 0, 0, none⟩
     s.unitAt pk = c ∧
     Sparse.find? s.sec.ops c = some op ∧
     algPk op.alg = pk ∧
     op.ended = none ∧
     (pk = true ∨ op.done < op.chunks))
    ∧ (let s : State := { node with sec := { ops := [(0, ⟨5, false, 0, 0, 0, 0, 0, 0, [], [], 0, 0, some .cancelled⟩)] } }
     let c : Nat := 0
     s.comUp = true ∧
     c < 7 ∧
     let op : CryOp := ⟨5, false, 0, 0, 0, 0, 0, 0, [], [], 0, 0, some .cancelled⟩
     Sparse.find? s.sec.ops c = some op ∧
     let st : Status := .cancelled
     op.ended = some st)
    ∧ (let s : State := { node with sec := { ops := [(0, ⟨10, false, 0, 0, 0, 0, 0, 0, [], [], 0, 0, none⟩)], lastPk := 0 } }
     let c : Nat := 0
     s.comUp = true ∧
     c < 7 ∧
     let op : CryOp := ⟨10, false, 0, 0, 0, 0, 0, 0, [], [], 0, 0, none⟩
     Sparse.find? s.sec.ops c = some op ∧
     op.ended = none ∧
     s.unitAt (algPk op.alg) = c ∧
     (algPk op.alg = true ∨ op.chunks ≤ op.done) ∧
     (algDraws op.alg = false ∨ s.fld F.rngStatState = 2)) :=
  ⟨by decide +kernel,
   by decide +kernel,
   by decide +kernel,
   by decide +kernel,
   by decide +kernel⟩

/-- The hypotheses of `RandomNumbers` are met, clause by clause. -/
theorem witness_randomNumbers :
    (let s : State := node.setFld F.rngStatState 2
     s.comUp = true ∧
     s.fld F.rngStatState = 2)
    ∧ (let s : State := node.setFld F.rngStatState 1
     s.comUp = true ∧
     s.fld F.rngStatState = 1)
    ∧ (let s : State := node.setFld F.rngStatState 1
     s.comUp = true ∧
     let test : Nat := 3
     1 ≤ test ∧
     test ≤ 3 ∧
     (s.fld F.rngStatState = 1 ∨ s.fld F.rngStatState = 2 ∧ test ≠ 3))
    ∧ (let s : State := (node.setFld F.rngStatState 3).raise F.rngCtlAutorst
     s.comUp = true ∧
     s.fld F.rngStatState = 3 ∧
     s.flag F.rngCtlAutorst = true ∧
     s.fld F.rngStatFails < 3)
    ∧ (let s : State := node.setFld F.rngStatState 3
     s.comUp = true ∧
     let w : Word := 2
     s.fld F.rngStatState = 3 ∧
     bitAt (BitVec.toNat w) 1 = true)
    ∧ (let s : State := (node.setFld F.rngStatState 2).setRegN (A.rngReqaddr 3) 0x205FF000
     s.comUp = true ∧
     let n : Nat := 3
     let w : Word := 4096
     n < 4 ∧
     1 ≤ bitsOf (BitVec.toNat w) 0 13 ∧
     bitsOf (BitVec.toNat w) 0 13 ≤ 4096 ∧
     s.flag (F.rngReqstatBusy n) = false ∧
     s.fld F.rngStatState ≠ 3 ∧
     let len := bitsOf (BitVec.toNat w) 0 13
     let a := s.regN (A.rngReqaddr n)
     536870912 ≤ a ∧
     a + len ≤ 543162368)
    ∧ (let s : State := { node.setFld F.rngStatState 2 with sec := { reqs := [(0, (0x20000000, 16))] } }
     s.comUp = true ∧
     let n : Nat := 0
     let a : Nat := 0x20000000
     let len : Nat := 16
     n < 4 ∧
     Sparse.find? s.sec.reqs n = some (a, len) ∧
     s.fld F.rngStatState = 2)
    ∧ (let s : State := node
     let o : Sys2Proof.Origin := wO
     s.takes o 148 []) :=
  ⟨by decide +kernel,
   by decide +kernel,
   by decide +kernel,
   by decide +kernel,
   by decide +kernel,
   by decide +kernel,
   by decide +kernel,
   by unfold State.takes; decide +kernel⟩

/-- The hypotheses of `TamperAlarms` are met, clause by clause. -/
theorem witness_tamperAlarms :
    (let s : State := node.setFld F.tmpDetcfgEn 1
     let src : Nat := 8
     src ≤ 10 ∧
     s.tmpOn src = true ∧
     s.bit A.tmpStat src = false ∧
     s.pw.boot = BootPhase.run ∧
     s.dormant = false ∧
     s.pw.wSleep = false ∧
     s.pw.trans = none ∧
     s.tmpClassOf src ≤ 2)
    ∧ (let s : State := (node.setFld F.tmpDetcfgEn 4).setFld F.tmpClassClass (3 * 4 ^ 10)
     let src : Nat := 10
     src ≤ 10 ∧
     s.tmpOn src = true ∧
     s.bit A.tmpStat src = false ∧
     s.pw.boot = BootPhase.run ∧
     s.dormant = false ∧
     s.pw.wSleep = false ∧
     s.pw.trans = none ∧
     s.tmpClassOf src = 3 ∧
     s.mode ≠ 5 ∧
     (∀ (x : Nat × Nat × Nat), s.pw.lastReset = some x → x.1 ≠ s.tick))
    ∧ (let s : State := node
     let src : Nat := 10
     src ≤ 10 ∧
     s.pw.boot ≠ BootPhase.off)
    ∧ (let s : State := node
     let o : Sys2Proof.Origin := wO
     s.takes o 144 [])
    ∧ (let s : State := node
     let o : Sys2Proof.Origin := wO
     let p : List Byte := [1, 0, 0, 0] ++ List.replicate 64 0
     s.takes o 147 p ∧
     p.length = 68 ∧
     leAt p 2 2 = 0 ∧
     leAt p 0 2 < 2 ^ 11) :=
  ⟨by decide +kernel,
   by decide +kernel,
   by decide +kernel,
   by unfold State.takes; decide +kernel,
   by unfold State.takes; decide +kernel⟩

/-- The hypotheses of `ChainStateMachine` are met, clause by clause. -/
theorem witness_chainStateMachine :
    (let s : State := acting 6 1 { state := 2 } {}
     let c : Chain := .s
     s.comUp = true ∧
     s.flag F.pmuStatXrefrdy = true ∧
     s.dueWithin c 10000 = true ∧
     s.chState c = 1)
    ∧ (let s : State := (acting 6 0 { state := 2 } {}).setFld F.pmuModestatMode 1
     let c : Chain := .s
     s.comUp = true ∧
     s.flag F.pmuStatXrefrdy = true ∧
     s.dueWithin c 10000 = true ∧
     s.chState c = 0 ∧
     s.mode = 1)
    ∧ (let s : State := node.setFld (F.rfsStatState .s) 2
     let c : Chain := .s
     s.chState c = 2)
    ∧ (let s : State := node.setFld (F.rfsStatState .s) 2
     let c : Chain := .s
     s.chState c = 2)
    ∧ (let s : State := node.setFld (F.rfsStatState .s) 3
     let c : Chain := .s
     s.chState c = 3 ∧
     (s.chain c).holder = none ∧
     s.dueWithin c (40000 * s.fld F.lnkCfgIdle) = false ∧
     s.mode ≠ 1 ∧
     s.mode ≠ 5)
    ∧ (let s : State := ((node.setFld (F.rfsStatState .s) 1).raise (F.rfsCalAuto .s)).raise (F.rfsStatCaldue .s)
     let c : Chain := .s
     s.flag (F.rfsCalAuto c) = true ∧
     s.flag (F.rfsStatCaldue c) = true ∧
     s.chState c = 1 ∧
     s.dueWithin c 800000 = false)
    ∧ (let s : State := (acting 6 3 { state := 2 } { holder := some 0 }).raise (F.rfsCoexEn .s)
     let c : Chain := .s
     let n : Nat := 0
     (s.chain c).holder = some n ∧
     n < 512 ∧
     s.flag (F.rfsCoexEn c) = true ∧
     ((s.act n).transmits = true ∨ s.flag (F.rfsCoexRxreq c) = true))
    ∧ (let s : State := acting 6 3 { state := 2, start := some 256 } { holder := some 0 }
     let c : Chain := .s
     let n : Nat := 0
     (s.chain c).holder = some n ∧
     (s.slot n).state = 2 ∧
     (s.slot n).ended = false ∧
     (s.act n).transmits = true ∧
     s.mustListen n = false ∧
     (s.chain c).tx = none ∧
     s.chState c = 3 ∧
     ((s.slot n).start.getD 0 ≤
       s.tb.now + s.rampOf c (s.act n).mode +
         if s.flag (F.rfsCoexEn c) = true then 40 * s.fld (F.rfsCoexGntsu c) else 400) ∧
     s.tb.now + s.rampOf c (s.act n).mode ≤ (s.slot n).start.getD 0 ∧
     s.gateReason (s.act n) = none ∧
     (s.framePsdu n).1.isSome = true)
    ∧ (let s : State := { acting 6 3 { state := 2, start := some 256 } {} with rf := { chS := { holder := some 0 } } }
     let c : Chain := .s
     let n : Nat := 0
     (s.chain c).holder = some n ∧
     (s.slot n).state = 2 ∧
     (s.slot n).ended = false ∧
     (s.act n).transmits = true ∧
     s.mustListen n = false ∧
     (s.chain c).tx = none ∧
     s.chState c = 3 ∧
     ((s.slot n).start.getD 0 ≤
       s.tb.now + s.rampOf c (s.act n).mode +
         if s.flag (F.rfsCoexEn c) = true then 40 * s.fld (F.rfsCoexGntsu c) else 400) ∧
     s.tb.now + s.rampOf c (s.act n).mode ≤ (s.slot n).start.getD 0 ∧
     let r : Nat := 1
     let b : Nat := 0xFF
     s.gateReason (s.act n) = some (r, b))
    ∧ (let s : State := acting 6 5 { state := 3 } { tx := some frame0 }
     let c : Chain := .s
     let f : TxFrame := frame0
     (s.chain c).tx = some f ∧
     s.chState c = 5 ∧
     f.firstSym ≤ s.tb.now)
    ∧ (let s : State := acting 6 6 { state := 3 } { tx := some frame0 }
     let c : Chain := .s
     let f : TxFrame := frame0
     (s.chain c).tx = some f ∧
     s.chState c = 6 ∧
     f.firstSym + f.airtime ≤ s.tb.now)
    ∧ (let s : State := acting 6 7 { state := 3 } { tx := some frame0 }
     let c : Chain := .s
     let f : TxFrame := frame0
     (s.chain c).tx = some f ∧
     s.chState c = 7 ∧
     (s.chain c).lastSym.getD 0 + f.rampTime ≤ s.tb.now)
    ∧ (let s : State := acting 6 8 { state := 3 } { holder := some 0, tx := some frame0 }
     let c : Chain := .s
     let f : TxFrame := frame0
     (s.chain c).tx = some f ∧
     let n : Nat := 0
     s.chState c = 8 ∧
     (s.chain c).holder = some n ∧
     f.firstSym - f.rampTime ≤ s.tb.now)
    ∧ (let s : State := node.setFld (F.rfsStatState .s) 8
     let c : Chain := .s
     s.chState c = 8 ∧
     (s.chain c).holder = none ∧
     (s.chain c).lastSym.getD 0 + (s.chain c).turnT ≤ s.tb.now)
    ∧ (let s : State := (acting 6 7 { state := 3 } { granted := true }).raise (F.rfsCoexEn .s)
     let c : Chain := .s
     5 ≤ s.chState c ∧
     s.chState c ≤ 7 ∧
     s.flag (F.rfsCoexEn c) = true ∧
     (s.chain c).granted = true)
    ∧ (let s : State := acting 6 5 { state := 3 } {}
     let c : Chain := .s
     5 ≤ s.chState c ∧
     s.chState c ≤ 7) :=
  ⟨by decide +kernel,
   by decide +kernel,
   by decide +kernel,
   by decide +kernel,
   by decide +kernel,
   by decide +kernel,
   by decide +kernel,
   by decide +kernel,
   by decide +kernel,
   by decide +kernel,
   by decide +kernel,
   by decide +kernel,
   by decide +kernel,
   by decide +kernel,
   by decide +kernel,
   by decide +kernel⟩

/-- The hypotheses of `CalibrationDutyAndWake` are met, clause by clause. -/
theorem witness_calibrationDutyAndWake :
    (let s : State := node.setFld (F.rfsStatState .s) 1
     let c : Chain := .s
     let w : Word := 0x80000001
     s.comUp = true ∧
     bitAt (BitVec.toNat w) 31 = true ∧
     (s.chState c = 1 ∨ s.chState c = 3))
    ∧ (let s : State := node.setFld (F.rfsRampDwell .s 31) 1
     let c : Chain := .s
     let w : Word := 0x80000000
     s.comUp = true ∧
     bitAt (BitVec.toNat w) 31 = true ∧
     rampOk (s.stagedRamp c) = true)
    ∧ (let s : State := (node.setFld (F.rfsRampDwell .s 0) 255).setFld (F.rfsRampDwell .s 1) 255
     let c : Chain := .s
     let w : Word := 0x80000000
     s.comUp = true ∧
     bitAt (BitVec.toNat w) 31 = true ∧
     rampOk (s.stagedRamp c) = false)
    ∧ (let s : State := node
     s.comUp = true)
    ∧ (let s : State := node.setFld (F.rfsStatState .s) 9
     let c : Chain := .s
     s.chState c = 9 ∧
     (s.chain c).calHost = none)
    ∧ (let s : State := { node.raise F.wkrCtrlEn with rf := { wkrBlank := true } }
     let fast : Bool := false
     s.wkrOn = some fast ∧
     s.wkrLost fast = true)
    ∧ (let s : State := node.raise F.wkrCtrlEn
     let fast : Bool := false
     let pat : Nat := 0
     s.wkrOn = some fast ∧
     s.wkrLost fast = false ∧
     s.wkrMatch (pat % 2 ^ 32) = none)
    ∧ (let s : State := (node.raise F.wkrCtrlEn).raise F.wkrCtrlNodeen
     let fast : Bool := false
     let pat : Nat := 0
     s.wkrOn = some fast ∧
     let k : Nat := 1
     let errs : Nat := 0
     s.wkrLost fast = false ∧
     s.wkrMatch (pat % 2 ^ 32) = some (k, errs))
    ∧ (let s : State := node.raise F.wkrCtrlEn
     let level : Int := -127
     s.wkrOn.isSome = true ∧
     -128 < level ∧
     level < 128)
    ∧ (let s : State := node
     s.rf.chS.pa = false ∧
     (∀ (e : Nat), s.rf.wkrPaEnd = some e → e + 4000 ≤ s.tb.now)) :=
  ⟨by decide +kernel,
   by decide +kernel,
   by decide +kernel,
   by decide +kernel,
   by decide +kernel,
   by decide +kernel,
   by decide +kernel,
   by decide +kernel,
   by decide +kernel,
   by decide +kernel⟩

/-- The hypotheses of `RadioHostCommands` are met, clause by clause. -/
theorem witness_radioHostCommands :
    (let s : State := node
     let o : Sys2Proof.Origin := wO
     let p : List Byte := [0, 0, 0, 0]
     s.takes o 128 p ∧
     p.length = 4 ∧
     byteAt p 0 ≤ 1 ∧
     allZero (List.drop 1 p) = true ∧
     let c := chainOf (byteAt p 0)
     s.chState c ≠ 4)
    ∧ (let s : State := node.setFld (F.rfsStatState .t) 3
     let o : Sys2Proof.Origin := wO
     let p : List Byte := [1, 0, 0, 0]
     s.takes o 129 p ∧
     p.length = 4 ∧
     byteAt p 0 ≤ 1 ∧
     allZero (List.drop 1 p) = true ∧
     let c := chainOf (byteAt p 0)
     (s.chState c = 1 ∨ s.chState c = 3))
    ∧ (let s : State := node
     let o : Sys2Proof.Origin := wO
     let p : List Byte := [1, 0, 0, 0]
     s.takes o 129 p ∧
     p.length = 4 ∧
     byteAt p 0 ≤ 1 ∧
     allZero (List.drop 1 p) = true ∧
     let c := chainOf (byteAt p 0)
     s.chState c ≠ 1 ∧
     s.chState c ≠ 3)
    ∧ (let s : State := node
     let o : Sys2Proof.Origin := wO
     let p : List Byte := [7, 0, 0, 0]
     s.takes o 130 p ∧
     p.length = 4 ∧
     byteAt p 0 ≤ 7 ∧
     allZero (List.drop 1 p) = true)
    ∧ (let s : State := node
     let o : Sys2Proof.Origin := wO
     let p : List Byte := List.replicate 16 0
     s.takes o 131 p ∧
     p.length = 16 ∧
     bitsOf (leAt p 0 4) 4 3 ≤ 3 ∧
     leAt p 0 4 &&& 4294909068 = 0) :=
  ⟨by unfold State.takes; decide +kernel,
   by unfold State.takes; decide +kernel,
   by unfold State.takes; decide +kernel,
   by unfold State.takes; decide +kernel,
   by unfold State.takes; decide +kernel⟩

/-- The hypotheses of `ActionsOfTheLinkController` are met, clause by clause. -/
theorem witness_actionsOfTheLinkController :
    (let s : State := node.setRegN (A.lnkAction 0) 5
     let w : Word := 0
     s.comUp = true ∧
     let n := bitsOf (BitVec.toNat w) 0 9
     s.submitCode n = Status.pending)
    ∧ (let s : State := acting 5 3 { state := 1 } {}
     let w : Word := 0
     s.comUp = true ∧
     let n := bitsOf (BitVec.toNat w) 0 9
     bitAt (BitVec.toNat w) 31 = false ∧
     n < 448 ∧
     ((s.slot n).state = 1 ∨ (s.slot n).state = 4 ∨ (s.slot n).state = 6) ∧
     s.slotGen n < 128 ∧
     s.followersOf n = [] ∧
     (s.chain Chain.s).holder ≠ some n ∧
     (s.chain Chain.t).holder ≠ some n)
    ∧ (let s : State := node
     s.comUp = true)
    ∧ (let s : State := acting 6 3 { state := 1, start := some 0 } {}
     let n : Nat := 0
     (s.slot n).state = 1 ∧
     (s.act n).kind ≠ 5 ∧
     s.slotAsap n = false ∧
     let a := s.act n
     let c := chainOf a.chain
     s.radioHold = false ∧
     s.swapHold = false ∧
     3 ≤ s.chState c ∧
     s.chState c ≠ 9 ∧
     (s.chain c).holder = none ∧
     (s.listens n = true → s.fitsFrom n (s.tb.now + 1) = true) ∧
     let u : Nat := 0
     (s.slot n).start = some u ∧
     u - s.claimLead a ≤ s.tb.now ∧
     (a.transmits = true → s.tb.now ≤ u - s.claimLead a))
    ∧ (let s : State := (acting 3 3 { state := 2, start := some 0 } { holder := some 0 }).setRegN (A.lnkAction 6) 1
     let n : Nat := 0
     (s.slot n).state = 2 ∧
     let a := s.act n
     let c := chainOf a.chain
     (s.chain c).holder = some n ∧
     s.chState c = 3 ∧
     a.receives = true ∧
     (s.slot n).start.getD 0 ≤ s.tb.now ∧
     (s.slot n).from_ ≤ s.tb.now ∧
     s.tooLate n = false ∧
     s.flag (F.rfsCoexEn c) = false)
    ∧ (let s : State := acting 2 3 { state := 2 } { holder := some 0 }
     let n : Nat := 0
     (s.slot n).state = 2 ∧
     let a := s.act n
     let c := chainOf a.chain
     (s.chain c).holder = some n ∧
     s.chState c = 3 ∧
     a.transmits = true ∧
     s.mustListen n = true ∧
     (s.slot n).from_ ≤ s.tb.now)
    ∧ (let s : State := acting 6 3 { state := 2 } { holder := some 0, tx := some frame0 }
     let n : Nat := 0
     (s.slot n).state = 2 ∧
     let a := s.act n
     let c := chainOf a.chain
     (s.chain c).holder = some n ∧
     s.chState c = 3 ∧
     let f : TxFrame := frame0
     a.transmits = true ∧
     s.mustListen n = false ∧
     (s.chain c).tx = some f ∧
     f.firstSym - f.rampTime ≤ s.tb.now)
    ∧ (let s : State := acting 4 4 { state := 3 } { holder := some 0 }
     let n : Nat := 0
     n < 512 ∧
     (s.slot n).state = 3 ∧
     (s.slot n).ended = false ∧
     (s.act n).receives = true ∧
     let c := s.slotChain n
     (s.chain c).holder = some n ∧
     (s.slot n).until_ ≤ s.tb.now ∧
     (s.act n).kind = 4)
    ∧ (let s : State := acting 3 4 { state := 3 } { holder := some 0 }
     let n : Nat := 0
     n < 512 ∧
     (s.slot n).state = 3 ∧
     (s.slot n).ended = false ∧
     (s.act n).receives = true ∧
     let c := s.slotChain n
     (s.chain c).holder = some n ∧
     (s.slot n).until_ ≤ s.tb.now ∧
     (s.act n).kind = 3 ∧
     s.pastSync c = false)
    ∧ (let s : State := { acting 2 4 { state := 3, listening := true } { holder := some 0 } with tb := { now := 2560 } }
     let n : Nat := 0
     (s.slot n).state = 3 ∧
     (s.slot n).listening = true ∧
     let level : Int := 100
     (s.slot n).from_ + 2560 ≤ s.tb.now ∧
     s.lbtThreshold (s.act n) < level ∧
     (s.slot n).busy + 1 < s.fld F.lnkLbtcfgMaxtries)
    ∧ (let s : State := acting 2 4 { state := 3, listening := true } { holder := some 0 }
     let n : Nat := 0
     (s.slot n).state = 3 ∧
     (s.slot n).listening = true ∧
     (s.slot n).until_ ≤ s.tb.now)
    ∧ (let s : State := acting 2 3 { state := 4 } {}
     let n : Nat := 0
     (s.slot n).state = 4 ∧
     (s.slot n).until_ ≤ s.tb.now + 680 ∧
     s.radioHold = false ∧
     s.swapHold = false ∧
     let c := s.slotChain n
     (s.chain c).holder = none ∧
     s.chState c = 3 ∧
     s.fitsFrom n (s.tb.now + 1) = true ∧
     (s.act n).receives = false)
    ∧ (let s : State := ((node.setFld F.pmuModestatMode 1).setFld F.lnkWatchcfgMode 1).setFld (F.rfsStatState .s) 3
     s.mode = 1 ∧
     s.fld F.lnkWatchcfgMode ≠ 0 ∧
     s.listenAge ≤ 25 ∧
     (s.chain s.watchChain).holder = none ∧
     s.chState s.watchChain = 3)
    ∧ (let s : State := { node with cap := { ctxs := [(0, { state := 2, header := some 0, formed := ({ state := 2, header := some 0 } : Ctx).blockCount })] } }
     let n : Nat := 0
     (s.ctx n).state = 2 ∧
     (s.ctx n).header.isSome = true ∧
     (s.ctx n).formed = (s.ctx n).blockCount ∧
     (s.ctx n).waiting = [] ∧
     s.narrowChain n = none)
    ∧ (let s : State := acting 5 3 { state := 3, ended := true } {}
     let n : Nat := 0
     (s.slot n).ended = true ∧
     (s.slot n).state = 3 ∧
     s.followersOf n = [])
    ∧ (let s : State := acting 5 3 { state := 5 } {}
     let n : Nat := 0
     n < 448 ∧
     (s.slot n).state = 5 ∧
     s.ringRoom (s.act n).ring = true) :=
  ⟨by decide +kernel,
   by decide +kernel,
   by decide +kernel,
   by decide +kernel,
   by decide +kernel,
   by decide +kernel,
   by decide +kernel,
   by decide +kernel,
   by decide +kernel,
   by decide +kernel,
   by decide +kernel,
   by decide +kernel,
   by decide +kernel,
   by decide +kernel,
   by decide +kernel,
   by decide +kernel⟩

/-- The hypotheses of `WidePathGainAndValidity` are met, clause by clause. -/
theorem witness_widePathGainAndValidity :
    (let s : State := (node.setBit A.chzStat 0).setFld (F.chzGainG 0) 5
     let b : Nat := 0
     b < 2 ∧
     s.bandRuns b = true ∧
     let peak : Nat := 2
     s.flag (F.chzAgcFix b) = false ∧
     peak < 3 ∧
     s.fld (F.chzGainG b) ≠ 0)
    ∧ (let s : State := node.setBit A.chzStat 0
     let b : Nat := 0
     b < 2 ∧
     s.bandRuns b = true ∧
     let peak : Nat := 3
     s.flag (F.chzAgcFix b) = false ∧
     3 ≤ peak)
    ∧ (let s : State := (node.setBit A.chzStat 0).setFld (F.chzGainG 0) 0
     let b : Nat := 0
     b < 2 ∧
     s.bandRuns b = true ∧
     s.flag (F.chzAgcFix b) = false ∧
     s.fld (F.chzGainG b) < s.fld (F.chzAgcGmax b))
    ∧ (let s : State := node.setBit A.chzStat 0
     let b : Nat := 0
     b < 2 ∧
     s.bandRuns b = true)
    ∧ (let s : State := (node.setBit A.chzStat 0).raise F.pmuStatXrefrdy
     let b : Nat := 0
     b < 2 ∧
     s.bandRuns b = true ∧
     s.noOverflow b = true ∧
     s.flag F.pmuStatXrefrdy = true)
    ∧ (let s : State := node
     let b : Nat := 0
     b < 2 ∧
     s.flag (F.rfsStatCaplock (chainOf b)) = false)
    ∧ (let s : State := node.raise (F.rfsStatCaplock .s)
     let b : Nat := 0
     b < 2 ∧
     s.flag (F.rfsStatCaplock (chainOf b)) = true)
    ∧ (let s : State := { node.setFld (F.rfsStatState .s) 4 with cap := { ctxs := [(0, { state := 5, busy := true })] } }
     let b : Nat := 0
     b < 2 ∧
     let offset : Int := -10
     let c := chainOf b
     let n := s.narrowCtx c
     s.chState c = 4 ∧
     (s.ctx n).busy = true ∧
     s.narrowChain n = some c ∧
     -10 ≤ offset ∧
     offset ≤ 10) :=
  ⟨by decide +kernel,
   by decide +kernel,
   by decide +kernel,
   by decide +kernel,
   by decide +kernel,
   by decide +kernel,
   by decide +kernel,
   by decide +kernel⟩

/-- The hypotheses of `DetectionAndContexts` are met, clause by clause. -/
theorem witness_detectionAndContexts :
    (let s : State := wide {}
     let b : Nat := 0
     let slice : Nat := 0
     let mode : Nat := 0x50
     let cls : Nat := 1
     let w : Nat := 2 ^ 63 + 0x50 * 2 ^ 43 + 2 ^ 33
     let level : Int := -100
     b < 2 ∧
     s.bandRuns b = true ∧
     s.bandValid b = true ∧
     s.flag (F.rfsStatBlank (chainOf b)) = false ∧
     s.slice b slice = some w ∧
     sliceClass w mode = some cls ∧
     ((s.bandSt b).fresh ++ (s.bandSt b).queue).any (s.merges b slice mode) = false ∧
     allCtx.any (s.mergesFrame b slice mode) = false ∧
     s.shadowed b slice mode level = false)
    ∧ (let s : State := { wide { state := 0 } with cap := { (wide { state := 0 }).cap with band0 := { fresh := [{ slice := 0, mode := 0x50, cls := 1, level := -100, at_ := 0, entry := 16 }] } } }
     let b : Nat := 0
     let c : Candidate := { slice := 0, mode := 0x50, cls := 1, level := -100, at_ := 0, entry := 16 }
     let n : Nat := 0
     b < 2 ∧
     s.bandRuns b = true ∧
     (s.bandSt b).fresh = [c] ∧
     (s.bandSt b).queue = [] ∧
     s.pick c (List.filter (fun n => (s.ctx n).state == 0 && !s.cap.draining.contains n && s.suits b c n) allCtx) =
       some n)
    ∧ (let b : Nat := 0
     b < 2)
    ∧ (let s : State := wide { state := 1, mode := 0x50 }
     let n : Nat := 0
     s.narrowChain n = none ∧
     (s.ctx n).state = 1)
    ∧ (let s : State := { node.setFld (F.rfsStatState .s) 4 with cap := { ctxs := [(0, { state := 5 })] } }
     let n : Nat := 0
     let c : Chain := .s
     s.narrowChain n = some c ∧
     s.chState c = 4 ∧
     (s.ctx n).busy = false ∧
     (s.chain c).pa = false ∧
     s.cap.draining.contains n = false)
    ∧ (let s : State := { wide { state := 1, mode := 0x50 } with tb := { now := 2 ^ 30 } }
     let n : Nat := 0
     (s.ctx n).state = 1 ∧
     (s.ctx n).det + longestPreamble (s.ctx n).mode ≤ s.tb.now)
    ∧ (let s : State := wide { state := 2, mode := 0x50 }
     let n : Nat := 0
     let bits : Nat := 20 + hcrc 20 * 2 ^ 40
     s.wantsHeader n = true ∧
     modeLr (s.ctx n).mode = true ∧
     bitAt bits 18 = false ∧
     lrHeaderOk (bits % 2 ^ 48) = true)
    ∧ (let s : State := wide { state := 2, mode := 0x11 }
     let n : Nat := 0
     let bits : Nat := 2047
     s.wantsHeader n = true ∧
     modeLr (s.ctx n).mode = false ∧
     bits ≤ modeMaxLen (s.ctx n).mode)
    ∧ (let s : State := wide { state := 2, mode := 0x11 }
     let n : Nat := 0
     s.wantsHeader n = true ∧
     let mode : Nat := 0x12
     modeFsk (s.ctx n).mode = true ∧
     modeFsk mode = true ∧
     s.follows n mode = true) :=
  ⟨by decide +kernel,
   by decide +kernel,
   by decide +kernel,
   by decide +kernel,
   by decide +kernel,
   by decide +kernel,
   by decide +kernel,
   by decide +kernel,
   by decide +kernel⟩

/-- The hypotheses of `DecodingAndReceiveBuffers` are met, clause by clause. -/
theorem witness_decodingAndReceiveBuffers :
    (let s : State := wide { state := 2, mode := 0x50, header := some (20 + hcrc 20 * 2 ^ 40) }
     let n : Nat := 0
     (s.ctx n).state = 2 ∧
     (s.ctx n).formed < (s.ctx n).blockCount ∧
     (s.ctx n).waiting = [])
    ∧ (let s : State := { node with dec := { tiles := [(0, { queue := [{ band := 0, txh := 0, ctag := 0, idx := 0, frame := 9, code := 4 }] })], frames := [(9, { id := 9, ctx := 0, chain := 0, wide := true, mode := 0x11, slice := 0, level := 0, cfo := 0, action := 0xFFFF, stamp := 0, fw := true, header := 5, tile := 0 })] } }
     let i : Nat := 0
     let b : Block := { band := 0, txh := 0, ctag := 0, idx := 0, frame := 9, code := 4 }
     let rest : List Block := []
     let x : RxFrame := { id := 9, ctx := 0, chain := 0, wide := true, mode := 0x11, slice := 0, level := 0, cfo := 0, action := 0xFFFF, stamp := 0, fw := true, header := 5, tile := 0 }
     (s.decTile i).queue = b :: rest ∧
     b.code = 4 ∧
     s.rxFrame b.frame = some x ∧
     (allCtx.all fun n => (s.ctx n).waiting.isEmpty) = true)
    ∧ (let s : State := { node with lnk := { rxCount := 1, rxBase := 0x24000000, rings := [(0, 0x24001000, 0)], arrived := [arrived0] } }
     let a : Arrived := arrived0
     let rest : List Arrived := []
     let b : Nat := 0
     s.lnk.arrived = a :: rest ∧
     a.delivered = true ∧
     a.fcsOk = true ∧
     a.psdu.length ≤ bufCapacity s.lnk.rxSz ∧
     s.freeBuffer = some b ∧
     s.matchLink a (macView a.psdu) = none ∧
     s.ringRoom (s.fld F.lnkRxcfgDefring) = true ∧
     a.action = 65535)
    ∧ (let s : State := { node with lnk := { rxCount := 1, taken := [0] } }
     let w : Word := 0
     s.comUp = true ∧
     bitsOf (BitVec.toNat w) 0 10 < s.lnk.rxCount ∧
     s.lnk.taken.contains (bitsOf (BitVec.toNat w) 0 10) = true)
    ∧ (let s : State := node
     let r : Nat := 3
     s.comUp = true ∧
     r < 4 ∧
     s.tnt.entries = [])
    ∧ (let s : State := { node with lnk := { rxStaged := true } }
     s.lnk.rxStaged = true)
    ∧ (let s : State := { node with lnk := { ringStaged := [2] } }
     let r : Nat := 2
     r < 4 ∧
     s.lnk.ringStaged.contains r = true ∧
     s.tnt.entries = []) :=
  ⟨by decide +kernel,
   by decide +kernel,
   by decide +kernel,
   by decide +kernel,
   by decide +kernel,
   by decide +kernel,
   by decide +kernel⟩

/-- The hypotheses of `LinkCommands` are met, clause by clause. -/
theorem witness_linkCommands :
    (let s : State := linked 0 0 0
     let w : Word := 0
     s.comUp = true ∧
     bitsOf (BitVec.toNat w) 16 12 = 0 ∧
     let h := bitsOf (BitVec.toNat w) 0 16
     let i := handleIdx h
     s.openCode i = Status.pending)
    ∧ (let s : State := linked 2 0 0
     let w : Word := 0
     s.comUp = true ∧
     bitsOf (BitVec.toNat w) 16 12 = 0 ∧
     let h := bitsOf (BitVec.toNat w) 0 16
     let i := handleIdx h
     s.stale h = false ∧
     s.lkState i = 2)
    ∧ (let s : State := linked 4 0 0
     let w : Word := 0
     s.comUp = true ∧
     bitsOf (BitVec.toNat w) 16 12 = 0 ∧
     let h := bitsOf (BitVec.toNat w) 0 16
     let i := handleIdx h
     s.stale h = false ∧
     s.lkState i = 4)
    ∧ (let s : State := linked 2 2 10000
     let w : Word := 0
     s.comUp = true ∧
     bitsOf (BitVec.toNat w) 16 12 = 0 ∧
     let h := bitsOf (BitVec.toNat w) 0 16
     let i := handleIdx h
     s.stale h = false ∧
     s.lkState i = 2 ∧
     bitAt (s.lk i 3 1) 1 = true ∧
     bitAt (s.lk i 3 1) 3 = false ∧
     s.lkInterval i ≠ 0)
    ∧ (let s : State := linked 2 1 10000
     let w : Word := 0
     s.comUp = true ∧
     bitsOf (BitVec.toNat w) 16 12 = 0 ∧
     let h := bitsOf (BitVec.toNat w) 0 16
     let i := handleIdx h
     s.stale h = false ∧
     s.lkState i = 2 ∧
     s.lkInterval i ≠ 0 ∧
     s.lkLeader i = true ∧
     (s.lkWork i).mapStaged = false)
    ∧ (let s : State := linked 0 0 0
     let o : Sys2Proof.Origin := wO
     let p : List Byte := [0, 0, 0, 0] ++ (linked 0 0 10000).bytes (lkAddr 0 4) 108
     s.takes o 0 p ∧
     p.length = 112 ∧
     leAt p 0 2 < 1024 ∧
     byteAt p 3 = 0 ∧
     let i := leAt p 0 2
     s.lkState i = 0 ∧
     ((s.taking o).putTemplate i p).openCode i = Status.pending)
    ∧ (let s : State := linked 2 0 0
     let o : Sys2Proof.Origin := wO
     let p : List Byte := [0, 0, 0, 0]
     p.length = 4 ∧
     leAt p 2 2 = 0 ∧
     s.stale (leAt p 0 2) = false ∧
     let h := leAt p 0 2
     let i := handleIdx h
     s.takes o 1 p ∧
     s.lkState i = 2)
    ∧ (let s : State := linked 4 0 0
     let o : Sys2Proof.Origin := wO
     let p : List Byte := [0, 0, 0, 0]
     p.length = 4 ∧
     leAt p 2 2 = 0 ∧
     s.stale (leAt p 0 2) = false ∧
     let h := leAt p 0 2
     let i := handleIdx h
     s.takes o 2 p ∧
     s.lkState i = 4)
    ∧ (let s : State := linked 2 2 10000
     let o : Sys2Proof.Origin := wO
     let p : List Byte := [0, 0, 0, 0]
     p.length = 4 ∧
     leAt p 2 2 = 0 ∧
     s.stale (leAt p 0 2) = false ∧
     let h := leAt p 0 2
     let i := handleIdx h
     s.takes o 3 p ∧
     s.lkState i = 2 ∧
     bitAt (s.lk i 3 1) 1 = true ∧
     bitAt (s.lk i 3 1) 3 = false ∧
     s.lkInterval i ≠ 0)
    ∧ (let s : State := linked 1 0 0
     let o : Sys2Proof.Origin := wO
     let p : List Byte := [0, 0, 0, 0]
     p.length = 4 ∧
     leAt p 2 2 = 0 ∧
     s.stale (leAt p 0 2) = false ∧
     s.takes o 4 p)
    ∧ (let s : State := node
     let o : Sys2Proof.Origin := wO
     let p : List Byte := [7, 0, 0, 0]
     s.takes o 5 p ∧
     p.length = 4 ∧
     byteAt p 0 < 8 ∧
     allZero (List.drop 1 p) = true) :=
  ⟨by decide +kernel,
   by decide +kernel,
   by decide +kernel,
   by decide +kernel,
   by decide +kernel,
   by unfold State.takes; decide +kernel,
   by unfold State.takes; decide +kernel,
   by unfold State.takes; decide +kernel,
   by unfold State.takes; decide +kernel,
   by unfold State.takes; decide +kernel,
   by unfold State.takes; decide +kernel⟩

/-- The hypotheses of `LinkControlFrames` are met, clause by clause. -/
theorem witness_linkControlFrames :
    (let s : State := linked 1 0 10000
     s.comUp = true ∧
     let h : Nat := 0
     let p : List Byte := [1] ++ List.replicate 45 0
     s.hears h = true ∧
     byteAt p 1 = 0 ∧
     let i := handleIdx h
     byteAt p 0 = 1 ∧
     46 ≤ p.length ∧
     s.lkLeader i = false ∧
     s.lkInterval i ≠ 0 ∧
     s.lkState i ≠ 3 ∧
     s.fw.wireMin ≤ min (byteAt p 17) s.fw.wireGen)
    ∧ (let s : State := linked 1 1 10000
     s.comUp = true ∧
     let h : Nat := 0
     let p : List Byte := [2, 0, 0, 0, 0, 0, 0, 0]
     s.hears h = true ∧
     byteAt p 1 = 0 ∧
     let i := handleIdx h
     byteAt p 0 = 2 ∧
     8 ≤ p.length ∧
     s.lkLeader i = true ∧
     s.lkState i = 1)
    ∧ (let s : State := linked 2 1 10000
     s.comUp = true ∧
     let h : Nat := 0
     let p : List Byte := [3, 0, 0, 0, 0, 0]
     s.hears h = true ∧
     byteAt p 1 = 0 ∧
     byteAt p 0 = 3 ∧
     6 ≤ p.length)
    ∧ (let s : State := linked 3 1 10000
     s.comUp = true ∧
     let h : Nat := 0
     let p : List Byte := [4, 0, 0, 0, 0, 0]
     s.hears h = true ∧
     byteAt p 1 = 0 ∧
     let i := handleIdx h
     byteAt p 0 = 4 ∧
     6 ≤ p.length ∧
     s.lkState i = 3)
    ∧ (let s : State := linked 2 1 10000
     s.comUp = true ∧
     let h : Nat := 0
     let p : List Byte := [8, 0, 0, 0, 0, 0]
     s.hears h = true ∧
     byteAt p 1 = 0 ∧
     byteAt p 0 = 8 ∧
     6 ≤ p.length)
    ∧ (let s : State := linked 2 0 10000
     s.comUp = true ∧
     let h : Nat := 0
     let p : List Byte := [7, 0] ++ List.replicate 28 1
     s.hears h = true ∧
     byteAt p 1 = 0 ∧
     let i := handleIdx h
     byteAt p 0 = 7 ∧
     30 ≤ p.length ∧
     s.lkLeader i = false ∧
     s.lkState i = 2)
    ∧ (let s : State := linked 2 0 10000
     s.comUp = true ∧
     let h : Nat := 0
     let p : List Byte := [5, 0, 0, 0, 0, 0, 0, 0, 9, 0, 0, 0]
     s.hears h = true ∧
     byteAt p 1 = 0 ∧
     let i := handleIdx h
     byteAt p 0 = 5 ∧
     12 ≤ p.length ∧
     (s.lkWork i).asking = false ∧
     (s.lkWork i).swapping = false ∧
     s.lkState i = 2 ∧
     evAfter (s.lkEvcnt i) ((leAt p 8 4 + 2 ^ 32 - 2) % 2 ^ 32) = false)
    ∧ (let s : State := { (linked 2 1 10000).setLk 0 0x30 4 9 with tnt := { (linked 2 1 10000).tnt with work := [(0, { asking := true })] } }
     s.comUp = true ∧
     let h : Nat := 0
     let p : List Byte := [6, 0, 0, 0, 0, 0, 0, 0, 9, 0, 0, 0]
     s.hears h = true ∧
     byteAt p 1 = 0 ∧
     let i := handleIdx h
     byteAt p 0 = 6 ∧
     12 ≤ p.length ∧
     (s.lkWork i).asking = true ∧
     leAt p 8 4 = s.lkSwapevt i)
    ∧ (let s : State := linked 2 1 10000
     s.comUp = true ∧
     let i : Nat := 0
     i < 1024 ∧
     s.lkState i = 2 ∧
     s.lkInterval i ≠ 0 ∧
     s.lkAnchor i ≤ s.tb.now ∧
     (s.lkWork i).asking = false)
    ∧ (let s : State := { (linked 2 1 10000) with tb := { now := 2 ^ 30, run := .ref } }
     s.comUp = true ∧
     let i : Nat := 0
     i < 1024 ∧
     s.lkState i = 2 ∧
     s.tb.run ≠ TmbRun.stopped ∧
     s.pastSync (chainOf (s.lkChain i)) = false ∧
     s.lk i 32 8 + 40000 * s.lk i 44 4 < s.tb.now) :=
  ⟨by decide +kernel,
   by decide +kernel,
   by decide +kernel,
   by decide +kernel,
   by decide +kernel,
   by decide +kernel,
   by decide +kernel,
   by decide +kernel,
   by decide +kernel,
   by decide +kernel⟩

/-- The hypotheses of `TenantQueues` are met, clause by clause. -/
theorem witness_tenantQueues :
    (let s : State := (linked 2 0 0).setBytes 0x24000000 [0, 0, 0, 0, 0, 0, 0, 0x24, 20, 0, 0, 0, 0, 0, 0, 0]
     s.comUp = true ∧
     let w : Word := 0x24000000
     BitVec.toNat w % 8 = 0 ∧
     let b := s.bytes (BitVec.toNat w / 8 * 8) 16
     let d := Desc.parse b
     s.postCode d (descReserved b) false = Status.pending ∧
     bitAt d.ctag 12 = false)
    ∧ (let s : State := (linked 2 0 0).setBytes 0x24000000 [0, 0, 0, 0, 0, 0, 0, 0x24, 0, 0, 0, 0, 0, 0, 0, 0]
     s.comUp = true ∧
     let w : Word := 0x24000000
     BitVec.toNat w % 8 = 0 ∧
     let b := s.bytes (BitVec.toNat w / 8 * 8) 16
     let d := Desc.parse b
     s.postCode d (descReserved b) false ≠ Status.pending)
    ∧ (let s : State := { linked 2 0 0 with tnt := { (linked 2 0 0).tnt with queues := [(0, [desc0])] } }
     s.comUp = true ∧
     let d : Desc := desc0
     let s' : State := (State.roundRobin { linked 2 0 0 with tnt := { (linked 2 0 0).tnt with queues := [(0, [desc0])] } } 0).2
     let n : Nat := 448
     let m : Nat := 449
     let rest : List Nat := (List.range 62).map (· + 450)
     s.running = true ∧
     s.tb.now % s.quantum = 0 ∧
     s.hsl.tunOut = [] ∧
     s.tnt.flights = [] ∧
     s.tnt.lcps = [] ∧
     s.expressOf 0 = none ∧
     s.expressOf 1 = none ∧
     (∀ i ∈ s.liveLinks, s.lkInterval i = 0 ∧ s.lkChain i = 0) ∧
     (∀ k < 8, s.queueOf k 1 = []) ∧
     s.roundRobin 0 = (some d, s') ∧
     s.lkChain (handleIdx d.link) = 0 ∧
     s.tntSlots = n :: m :: rest) :=
  ⟨by decide +kernel,
   by decide +kernel,
   by decide +kernel⟩

/-- The hypotheses of `NetworkTimeCommands` are met, clause by clause. -/
theorem witness_networkTimeCommands :
    (let s : State := node
     s.comUp = true ∧
     s.fld F.ntmCfgSrc = 0 ∧
     let w : Word := 0
     bitsOf (BitVec.toNat w) 0 4 = 0)
    ∧ (let s : State := node
     s.comUp = true ∧
     s.fld F.ntmCfgSrc = 0 ∧
     let w : Word := 0
     bitsOf (BitVec.toNat w) 0 3 = 0 ∧
     bitAt (BitVec.toNat w) 4 = false ∧
     s.stepDeferred = false)
    ∧ (let s : State := node.setFld F.brdSwapstatState 2
     s.comUp = true ∧
     s.fld F.ntmCfgSrc = 0 ∧
     let w : Word := 0
     bitsOf (BitVec.toNat w) 0 3 = 0 ∧
     bitAt (BitVec.toNat w) 4 = false ∧
     s.stepDeferred = true)
    ∧ (let s : State := node
     s.comUp = true ∧
     s.fld F.ntmCfgSrc = 0 ∧
     let w : Word := 0
     bitsOf (BitVec.toNat w) 0 2 = 0 ∧
     bitsOf (BitVec.toNat w) 3 2 = 0 ∧
     s.stepDeferred = false)
    ∧ (let s : State := node
     s.comUp = true ∧
     s.fld F.ntmCfgSrc = 0 ∧
     let w : Word := 0
     bitAt (BitVec.toNat w) 0 = false ∧
     bitsOf (BitVec.toNat w) 2 3 = 0 ∧
     s.stampInFlight = false)
    ∧ (let s : State := node
     s.comUp = true ∧
     s.fld F.ntmCfgSrc = 0 ∧
     let w : Word := 25
     let inc := bitsOf (BitVec.toNat w) 0 8 * 2 ^ 32 + s.regN A.ntmIncfrac
     incMin ≤ inc ∧
     inc ≤ incMax)
    ∧ (let s : State := node.setFld F.ntmCfgSrc 1
     s.comUp = true ∧
     s.fld F.ntmCfgSrc ≠ 0 ∧
     let w : Word := 0
     bitAt (BitVec.toNat w) 0 = false ∧
     let c : Instr := .ntmSlew false 0
     c ∈
       [Instr.ntmAbort false w, Instr.ntmSet false w, Instr.ntmStep false w, Instr.ntmSlew false w,
         Instr.incintWrite false w])
    ∧ (let s : State := node
     s.comUp = true ∧
     let w : Word := 0
     bitsOf (BitVec.toNat w) 1 4 = 0)
    ∧ (let s : State := node
     s.comUp = true ∧
     let o : Sys2Proof.Origin := wO
     let p : List Byte := []
     s.takes o 112 p ∧
     p.length = 0)
    ∧ (let s : State := node
     s.comUp = true ∧
     let o : Sys2Proof.Origin := wO
     let p : List Byte := [1, 0, 0, 0, 0, 0, 0, 0]
     s.takes o 113 p ∧
     p.length = 8 ∧
     s.fld F.ntmCfgSrc = 0 ∧
     s.stepDeferred = false)
    ∧ (let s : State := node.setFld F.brdSwapstatState 2
     s.comUp = true ∧
     let o : Sys2Proof.Origin := wO
     let p : List Byte := [1, 0, 0, 0, 0, 0, 0, 0]
     s.takes o 113 p ∧
     p.length = 8 ∧
     s.fld F.ntmCfgSrc = 0 ∧
     s.stepDeferred = true)
    ∧ (let s : State := node.setFld F.ntmCfgSrc 2
     s.comUp = true ∧
     let o : Sys2Proof.Origin := wO
     let p : List Byte := [1, 0, 0, 0, 0, 0, 0, 0]
     s.takes o 113 p ∧
     p.length = 8 ∧
     s.fld F.ntmCfgSrc ≠ 0) :=
  ⟨by decide +kernel,
   by decide +kernel,
   by decide +kernel,
   by decide +kernel,
   by decide +kernel,
   by decide +kernel,
   by decide +kernel,
   by decide +kernel,
   by unfold State.takes; decide +kernel,
   by unfold State.takes; decide +kernel,
   by unfold State.takes; decide +kernel,
   by unfold State.takes; decide +kernel⟩

/-- The hypotheses of `NtmRoundsAndSync` are met, clause by clause. -/
theorem witness_ntmRoundsAndSync :
    (let s : State := node
     s.ntm.slewRem = 0)
    ∧ (let s : State := { node with ntm := { waiting := some (.set 5), waitHost := some wO } }
     let ns : Nat := 5
     s.ntm.waiting = some (NtmChange.set ns) ∧
     s.ntm.waitSlew = none ∧
     s.stepDeferred = false)
    ∧ (let s : State := { node with ntm := { waitSlew := some (.slew .firmware 7) } }
     let k : SlewKind := .firmware
     let u : Int := 7
     s.ntm.waiting = none ∧
     s.ntm.waitSlew = some (NtmChange.slew k u) ∧
     s.stampInFlight = false)
    ∧ (let s : State := { node with ntm := { time := 1000000000 * 2 ^ 32 } }
     (s.ntmRound + 1) * 1000000000 ≤ s.ntmNs)
    ∧ (let s : State := { node with ntm := { time := 10000000 * 2 ^ 32 } }
     s.ntm.lastSlot + 10000000 ≤ s.ntmNs ∧
     s.ntm.lastSlot + 10000000 < (s.ntmRound + 1) * 1000000000)
    ∧ (let s : State := { node.raise F.ntmSynccfgEn with tb := { run := .ref } }
     let rising : Bool := true
     s.flag F.ntmSynccfgEn = true ∧
     s.comUp = true ∧
     s.tb.run ≠ TmbRun.stopped ∧
     (have e := s.fld F.ntmSynccfgEdge;
     e = 2 ∨ e = 0 ∧ rising = true ∨ e = 1 ∧ rising = false) ∧
     s.ntm.syncBest = none)
    ∧ (let s : State := { (node.raise F.ntmSynccfgEn).setFld F.ntmSynccfgEdge 2 with tb := { run := .ref }, ntm := { syncBest := some 5 } }
     let rising : Bool := false
     s.flag F.ntmSynccfgEn = true ∧
     s.comUp = true ∧
     s.tb.run ≠ TmbRun.stopped ∧
     (have e := s.fld F.ntmSynccfgEdge;
     e = 2 ∨ e = 0 ∧ rising = true ∨ e = 1 ∧ rising = false) ∧
     let b : Int := 5
     s.ntm.syncBest = some b)
    ∧ (let s : State := { node.setFld F.ntmStatSyncst 2 with tb := { run := .ref } }
     s.comUp = true ∧
     s.tb.run ≠ TmbRun.stopped ∧
     s.fld F.ntmStatSyncst = 2 ∧
     s.ntm.syncBest = none)
    ∧ (let s : State := { (node.setFld F.ntmStatSyncst 2).setFld F.ntmStatSrcact 2 with tb := { run := .ref }, ntm := { syncBest := some 7 } }
     s.comUp = true ∧
     s.tb.run ≠ TmbRun.stopped ∧
     let e : Int := 7
     s.fld F.ntmStatSyncst = 2 ∧
     s.ntm.syncBest = some e ∧
     e.natAbs ≤ s.fld F.ntmSyncwinUs * 1000 ∧
     s.fld F.ntmStatSrcact = 2 ∧
     s.stampInFlight = false)
    ∧ (let s : State := { node.setFld F.ntmStatSyncst 1 with tb := { run := .ref }, ntm := { syncBest := some 7, syncRun := [9] } }
     s.comUp = true ∧
     s.tb.run ≠ TmbRun.stopped ∧
     let e : Int := 7
     s.fld F.ntmStatSyncst = 1 ∧
     s.flag F.ntmSynccfgAutolearn = false ∧
     s.ntm.syncBest = some e ∧
     e.natAbs ≤ s.fld F.ntmSyncwinUs * 1000 ∧
     within100us (e :: s.ntm.syncRun) = true)
    ∧ (let s : State := node
     s.comUp = true ∧
     s.tb.run = TmbRun.stopped ∧
     s.pw.boot ≠ BootPhase.startup ∧
     s.pw.boot ≠ BootPhase.held) :=
  ⟨by decide +kernel,
   by decide +kernel,
   by decide +kernel,
   by decide +kernel,
   by decide +kernel,
   by decide +kernel,
   by decide +kernel,
   by decide +kernel,
   by decide +kernel,
   by decide +kernel,
   by decide +kernel⟩

/-- The hypotheses of `JournalMessages` are met, clause by clause. -/
theorem witness_journalMessages :
    (let s : State := (jrnNode [] []).setBytes 0x24000000 [0, 0, 5, 0, 0, 0, 0, 0, 1, 0, 3, 0, 0, 1, 0, 0x24]
     let w : Word := 0x24000000
     let f : Machine.Flow := flow0
     s.comUp = true ∧
     s.running = true ∧
     BitVec.toNat w % 8 = 0 ∧
     let b := s.bytes (BitVec.toNat w) 16
     leAt b 12 4 % 8 = 0 ∧
     s.jFlow (leAt b 0 2) = some f ∧
     s.subCode b false = Status.pending)
    ∧ (let s : State := (jrnNode [] []).setBytes 0x24000000 [0, 0, 5, 0, 1, 0, 0, 0, 1, 0, 3, 0, 0, 1, 0, 0x24]
     let w : Word := 0x24000000
     let f : Machine.Flow := flow0
     s.comUp = true ∧
     s.running = true ∧
     BitVec.toNat w % 8 = 0 ∧
     let b := s.bytes (BitVec.toNat w) 16
     leAt b 12 4 % 8 = 0 ∧
     s.jFlow (leAt b 0 2) = some f ∧
     s.subCode b false ≠ Status.pending)
    ∧ (let s : State := jrnNode [] []
     let o : Sys2Proof.Origin := wO
     let p : List Byte := [0, 0, 5, 0, 0, 0, 0, 0, 1, 0, 3, 0, 0, 0, 0, 0, 0x55]
     s.takes o 32 p ∧
     p.length = 16 + leAt p 8 2 ∧
     leAt p 12 4 = 0 ∧
     s.subCode p false = Status.pending)
    ∧ (let s : State := jrnNode [] []
     let o : Sys2Proof.Origin := wO
     let p : List Byte := [0, 0, 0, 0, 0, 0, 0, 0, 1, 0, 3, 0, 0, 0, 0, 0, 0x55]
     s.takes o 32 p ∧
     p.length = 16 + leAt p 8 2 ∧
     leAt p 12 4 = 0 ∧
     s.subCode p false ≠ Status.pending)
    ∧ (let s : State := ((jrnNode [] [commit0 .report]).raise F.jrnCfgMode).raise F.jrnHoldresPass
     let c : Commit := commit0 .report
     let rest : List Commit := []
     s.comUp = true ∧
     s.jrn.commits = c :: rest ∧
     s.canWrite c.record = true ∧
     s.jrnBuffered = true)
    ∧ (let s : State := jrnNode [] [commit0 .report]
     let c : Commit := commit0 .report
     let rest : List Commit := []
     s.comUp = true ∧
     s.jrn.commits = c :: rest ∧
     s.canWrite c.record = true ∧
     s.jrnBuffered = false ∧
     s.jrnWaiting = [] ∧
     s.jrnCopy 0 = true ∧
     s.jrnCopy 1 = true ∧
     c.record.length ≤ 240 ∧
     s.jrn.page < 16384 ∧
     s.flc.redirect = none ∧
     s.flc.junk = [] ∧
     s.flc.junkUnits = [])
    ∧ (let s : State := jrnNode [] [commit0 (.submit 3 none)]
     let c : Commit := commit0 (.submit 3 none)
     let rest : List Commit := []
     s.comUp = true ∧
     s.jrn.commits = c :: rest ∧
     s.canWrite c.record = true ∧
     let tag : Nat := 3
     c.what = CommitFor.submit tag none ∧
     tag < 65536)
    ∧ (let s : State := jrnNode [] [commit0 (.custody 0)]
     let c : Commit := commit0 (.custody 0)
     let rest : List Commit := []
     s.comUp = true ∧
     s.jrn.commits = c :: rest ∧
     s.canWrite c.record = true ∧
     let h : Nat := 0
     c.what = CommitFor.custody h)
    ∧ (let s : State := jrnNode [msg0] [commit0 (.forwarded 7)]
     let c : Commit := commit0 (.forwarded 7)
     let rest : List Commit := []
     s.comUp = true ∧
     s.jrn.commits = c :: rest ∧
     s.canWrite c.record = true ∧
     let k : Nat := 7
     let m : Msg := msg0
     c.what = CommitFor.forwarded k ∧
     s.jMsg k = some m)
    ∧ (let s : State := jrnNode [msg0] [commit0 (.released 7 none)]
     let c : Commit := commit0 (.released 7 none)
     let rest : List Commit := []
     s.comUp = true ∧
     s.jrn.commits = c :: rest ∧
     s.canWrite c.record = true ∧
     let k : Nat := 7
     c.what = CommitFor.released k none)
    ∧ (let s : State := jrnNode [] [commit0 (.flowOpen 0 none)]
     let c : Commit := commit0 (.flowOpen 0 none)
     let rest : List Commit := []
     s.comUp = true ∧
     s.jrn.commits = c :: rest ∧
     s.canWrite c.record = true ∧
     let k : Nat := 0
     let x : Machine.Flow := flow0
     c.what = CommitFor.flowOpen k none ∧
     s.jFlow k = some x)
    ∧ (let s : State := { jrnNode [] [] with jrn := { (jrnNode [] []).jrn with mirror0 := some (List.replicate 6 (commit0 .report).record) } }
     s.comUp = true ∧
     240 ≤ s.jrnWaitBytes ∧
     s.jrnRoomFor (packPages s.jrnWaiting []).length = true)
    ∧ (let s : State := jrnNode [] []
     let h : Nat := 0
     let p : List Byte := [1, 0, 6, 0, 1, 0, 0, 0, 0, 0] ++ leBytes 8 99 ++ [5, 0, 0, 0, 1, 0, 0, 0, 0, 0, 7]
     s.comUp = true ∧
     s.running = true ∧
     s.hears h = true ∧
     dataBad p = false ∧
     s.flag F.jrnCfgEn = true ∧
     let flow := leAt p 2 2
     let origin := leAt p 10 8
     s.roundReached (leAt p 18 4) = false ∧
     let f : Nat := 1
     s.entryOf 2 origin flow = none ∧
     s.freeFidx = some f ∧
     s.jrnQuota (List.take (leAt p 22 2) (List.drop 28 p)).length = false ∧
     s.dataHere flow (List.take (leAt p 22 2) (List.drop 28 p)) = false)
    ∧ (let s : State := { jrnNode [] [] with jrn := { (jrnNode [] []).jrn with flows := [(0, { flow0 with role := 2, flow := 6, origin := 99 })] } }
     let h : Nat := 0
     let p : List Byte := [1, 0, 6, 0, 1, 0, 0, 0, 0, 0] ++ leBytes 8 99 ++ [5, 0, 0, 0, 1, 0, 0, 0, 0, 0, 0, 0, 7]
     s.comUp = true ∧
     s.running = true ∧
     s.hears h = true ∧
     dataBad p = false ∧
     s.flag F.jrnCfgEn = true ∧
     let flow := leAt p 2 2
     let origin := leAt p 10 8
     s.roundReached (leAt p 18 4) = false ∧
     let f : Nat := 0
     let x : Machine.Flow := { flow0 with role := 2, flow := 6, origin := 99 }
     s.entryOf 2 origin flow = some (f, x) ∧
     x.epoch = leAt p 4 2 ∧
     seqAfter (leAt p 6 4) x.seq = false)
    ∧ (let s : State := jrnNode [{ msg0 with tries := 1 }] []
     let h : Nat := 0
     let p : List Byte := [2, 0, 5, 0, 1, 0, 0, 0, 0, 0] ++ leBytes 8 0 ++ leBytes 2 Status.accepted.code
     let m : Msg := { msg0 with tries := 1 }
     s.comUp = true ∧
     s.running = true ∧
     s.hears h = true ∧
     cackBad p = false ∧
     s.flag F.jrnCfgEn = true ∧
     s.outstanding p = some m ∧
     leAt p 18 2 = Status.accepted.code)
    ∧ (let s : State := jrnNode [{ msg0 with tries := 1 }] []
     let h : Nat := 0
     let p : List Byte := [2, 0, 5, 0, 1, 0, 0, 0, 0, 0] ++ leBytes 8 0 ++ leBytes 2 Status.quota.code
     let m : Msg := { msg0 with tries := 1 }
     s.comUp = true ∧
     s.running = true ∧
     s.hears h = true ∧
     cackBad p = false ∧
     s.flag F.jrnCfgEn = true ∧
     s.outstanding p = some m ∧
     leAt p 18 2 = Status.quota.code)
    ∧ (let s : State := jrnNode [{ msg0 with frame := [1, 2, 3], tries := 1, nextHop := some (0, 0) }] []
     let j : Nat := 7
     let m : Msg := { msg0 with frame := [1, 2, 3], tries := 1, nextHop := some (0, 0) }
     let f : Machine.Flow := flow0
     let c : Nat := 0
     let p : Nat := 0
     let i : Nat := 0
     let s'' : State := ((jrnNode [{ msg0 with frame := [1, 2, 3], tries := 1, nextHop := some (0, 0) }] []).postDesc ((jrnNode [{ msg0 with frame := [1, 2, 3], tries := 1, nextHop := some (0, 0) }] []).msgDesc 0 { msg0 with frame := [1, 2, 3], tries := 1, nextHop := some (0, 0) }) false true).2
     s.comUp = true ∧
     s.running = true ∧
     s.jMsg j = some m ∧
     s.mayTransmit m = true ∧
     s.jFlow m.fidx = some f ∧
     s.msgHop m = Hop.peer c p ∧
     s.upLink c p = some i ∧
     s.composeMsg f m p = (m, s) ∧
     s.postDesc (s.msgDesc i m) false true = (Status.pending, s''))
    ∧ (let s : State := { (((jrnNode [msg0] []).raise (F.jrnRoute1En 0)).raise (F.jrnRoute1Local 0)).setFld (F.jrnRoute1Target 0) 4 with jrn := { (jrnNode [msg0] []).jrn with dlvBase := 0x24000000, dlvCount := 1 } }
     let j : Nat := 7
     let m : Msg := msg0
     let f : Machine.Flow := flow0
     let tgt : Nat := 4
     let b : Nat := 0
     s.comUp = true ∧
     s.running = true ∧
     s.jMsg j = some m ∧
     s.jFlow m.fidx = some f ∧
     s.msgHop m = Hop.here tgt ∧
     s.dlvFree = some b ∧
     m.dlv = none ∧
     m.settling = false ∧
     s.dlvTurn m = true ∧
     (s.targetRoom tgt (if (s.reportHome f m).isSome = true then 2 else 1) = true))
    ∧ (let s : State := jrnNode [{ msg0 with dlv := some 4, buf := some 0 }] []
     let j : Nat := 7
     let m : Msg := { msg0 with dlv := some 4, buf := some 0 }
     s.jMsg j = some m ∧
     let w : Word := 7
     s.comUp = true ∧
     s.running = true ∧
     BitVec.toNat w = j ∧
     s.relCode j = Status.pending)
    ∧ (let s : State := jrnNode [{ msg0 with dlv := some 4, buf := some 0 }] []
     let j : Nat := 7
     let m : Msg := { msg0 with dlv := some 4, buf := some 0 }
     s.jMsg j = some m ∧
     let o : Sys2Proof.Origin := wO
     let p : List Byte := [7, 0, 0, 0]
     s.takes o 33 p ∧
     p.length = 4 ∧
     leAt p 0 4 = j ∧
     s.relCode j = Status.pending)
    ∧ (let s : State := (jrnNode [msg0] []).raise F.ntmStatValid
     let j : Nat := 7
     let m : Msg := msg0
     s.jMsg j = some m ∧
     s.comUp = true ∧
     s.running = true ∧
     s.flag F.ntmStatValid = true ∧
     m.dlv = none ∧
     m.settling = false ∧
     s.roundReached m.deadline = true) :=
  ⟨by decide +kernel,
   by decide +kernel,
   by unfold State.takes; decide +kernel,
   by unfold State.takes; decide +kernel,
   by decide +kernel,
   by decide +kernel,
   by decide +kernel,
   by decide +kernel,
   by decide +kernel,
   by decide +kernel,
   by decide +kernel,
   by decide +kernel,
   by decide +kernel,
   by decide +kernel,
   by decide +kernel,
   by decide +kernel,
   by decide +kernel,
   by decide +kernel,
   by decide +kernel,
   by unfold State.takes; decide +kernel,
   by decide +kernel⟩

/-- The hypotheses of `JournalFlowsAndCopies` are met, clause by clause. -/
theorem witness_journalFlowsAndCopies :
    (let s : State := (jrnNode [] []).setRegN A.jrnFlowaddr 0x24000000 |>.setBytes 0x24000000 (6 :: List.replicate 31 0)
     let w : Word := 0
     s.comUp = true ∧
     s.running = true ∧
     bitsOf (BitVec.toNat w) 12 16 = 0 ∧
     let f : Nat := 1
     let d := s.bytes (s.regN A.jrnFlowaddr) 32
     byteAt d 3 ≤ 4 ∧
     leAt d 0 2 ≠ 65535 ∧
     (s.jrn.flows.any fun p => p.2.role == 1 && p.2.flow == leAt d 0 2 && !p.2.closed) = false ∧
     s.freeFidx = some f)
    ∧ (let s : State := jrnNode [] []
     let w : Word := 0
     s.comUp = true ∧
     s.running = true ∧
     bitsOf (BitVec.toNat w) 12 16 = 0 ∧
     let i := bitsOf (BitVec.toNat w) 0 12
     let x : Machine.Flow := flow0
     s.jFlow i = some x ∧
     x.role ≠ 2 ∧
     x.ready = true)
    ∧ (let s : State := { jrnNode [] [] with jrn := { (jrnNode [] []).jrn with flows := [(0, { flow0 with lastDl := 2 ^ 32 - 120 })] } }
     let w : Word := 0
     s.comUp = true ∧
     s.running = true ∧
     bitsOf (BitVec.toNat w) 12 16 = 0 ∧
     let i := bitsOf (BitVec.toNat w) 0 12
     let x : Machine.Flow := { flow0 with lastDl := 2 ^ 32 - 120 }
     s.jFlow i = some x ∧
     x.role ≠ 2 ∧
     x.ready = true ∧
     x.closed = false ∧
     s.heldBy i = [] ∧
     s.flowCommits i = false ∧
     s.roundReached (x.lastDl + 120) = true)
    ∧ (let s : State := jrnNode [] []
     let w : Word := 0
     s.comUp = true ∧
     s.running = true ∧
     bitsOf (BitVec.toNat w) 12 16 = 0 ∧
     let i := bitsOf (BitVec.toNat w) 0 12
     let x : Machine.Flow := flow0
     s.jFlow i = some x)
    ∧ (let s : State := jrnNode [] []
     let o : Sys2Proof.Origin := wO
     let p : List Byte := 6 :: List.replicate 31 0
     let f : Nat := 1
     s.takes o 34 p ∧
     p.length = 32 ∧
     allZero (List.drop 28 p) = true ∧
     byteAt p 3 ≤ 4 ∧
     leAt p 0 2 ≠ 65535 ∧
     (s.jrn.flows.any fun q => q.2.role == 1 && q.2.flow == leAt p 0 2 && !q.2.closed) = false ∧
     s.freeFidx = some f)
    ∧ (let s : State := jrnNode [] []
     let o : Sys2Proof.Origin := wO
     let p : List Byte := [0, 0, 0, 0]
     p.length = 4 ∧
     leAt p 2 2 = 0 ∧
     let x : Machine.Flow := flow0
     s.jFlow (leAt p 0 2) = some x ∧
     s.takes o 35 p ∧
     x.role ≠ 2 ∧
     x.ready = true)
    ∧ (let s : State := { jrnNode [] [] with jrn := { (jrnNode [] []).jrn with flows := [(0, { flow0 with lastDl := 2 ^ 32 - 120 })] } }
     let o : Sys2Proof.Origin := wO
     let p : List Byte := [0, 0, 0, 0]
     p.length = 4 ∧
     leAt p 2 2 = 0 ∧
     let x : Machine.Flow := { flow0 with lastDl := 2 ^ 32 - 120 }
     s.jFlow (leAt p 0 2) = some x ∧
     let f := leAt p 0 2
     s.takes o 36 p ∧
     x.role ≠ 2 ∧
     x.ready = true ∧
     x.closed = false ∧
     s.heldBy f = [] ∧
     s.flowCommits f = false ∧
     s.roundReached (x.lastDl + 120) = true)
    ∧ (let s : State := jrnNode [] []
     let o : Sys2Proof.Origin := wO
     let p : List Byte := [0, 0, 0, 0]
     p.length = 4 ∧
     leAt p 2 2 = 0 ∧
     let x : Machine.Flow := flow0
     s.jFlow (leAt p 0 2) = some x ∧
     s.takes o 37 p)
    ∧ (let s : State := node
     let o : Sys2Proof.Origin := wO
     let p : List Byte := []
     s.takes o 38 p ∧
     p.length = 0)
    ∧ (let s : State := node.setFld F.pmuModestatMode 4
     let o : Sys2Proof.Origin := wO
     let p : List Byte := []
     s.takes o 39 p ∧
     p.length = 0 ∧
     s.mode = 4 ∧
     s.jrn.holding = false)
    ∧ (let s : State := node
     let o : Sys2Proof.Origin := wO
     let p : List Byte := []
     s.takes o 39 p ∧
     p.length = 0 ∧
     s.mode ≠ 4)
    ∧ (let s : State := { jrnNode [] [] with jrn := { flows := [(3, { flow0 with role := 2, lastDl := 2 ^ 32 - 120 })] } }
     let f : Nat := 3
     let x : Machine.Flow := { flow0 with role := 2, lastDl := 2 ^ 32 - 120 }
     s.comUp = true ∧
     s.running = true ∧
     s.jFlow f = some x ∧
     s.heldBy f = [] ∧
     s.flowCommits f = false ∧
     s.roundReached (x.lastDl + 120) = true ∧
     x.role = 2)
    ∧ (let s : State := { jrnNode [] [] with jrn := { flows := [(3, { flow0 with closed := true, lastDl := 2 ^ 32 - 120 })] } }
     let f : Nat := 3
     let x : Machine.Flow := { flow0 with closed := true, lastDl := 2 ^ 32 - 120 }
     s.comUp = true ∧
     s.running = true ∧
     s.jFlow f = some x ∧
     s.heldBy f = [] ∧
     s.flowCommits f = false ∧
     s.roundReached (x.lastDl + 120) = true ∧
     x.role ≠ 2 ∧
     x.closed = true)
    ∧ (let s : State := { jrnNode [] [] with jrn := { (jrnNode [] []).jrn with page := 32, ready := 16352 } }
     s.comUp = true ∧
     s.jrnRoomFor 17 = true ∧
     s.jrn.ready + 32 ≤ 16384)
    ∧ (let s : State := { node with jrn := { dlvStaged := true } }
     s.jrn.dlvStaged = true)
    ∧ (let s : State := jrnNode [] []
     let k : Nat := 1
     s.comUp = true ∧
     k < 2 ∧
     s.jrnCopy k = true)
    ∧ (let s : State := node.raise F.jrnWearOver
     s.flag F.jrnWearOver = true ∧
     s.jrn.used * wearPage ≤ s.jrnAllow) :=
  ⟨by decide +kernel,
   by decide +kernel,
   by decide +kernel,
   by decide +kernel,
   by unfold State.takes; decide +kernel,
   by unfold State.takes; decide +kernel,
   by unfold State.takes; decide +kernel,
   by unfold State.takes; decide +kernel,
   by unfold State.takes; decide +kernel,
   by unfold State.takes; decide +kernel,
   by unfold State.takes; decide +kernel,
   by decide +kernel,
   by decide +kernel,
   by decide +kernel,
   by decide +kernel,
   by decide +kernel,
   by decide +kernel⟩

/-- The hypotheses of `HostSerialLink` are met, clause by clause. -/
theorem witness_hostSerialLink :
    (let s : State := node
     let ep : Endpoint := .loc
     let seq : Nat := 3
     let p : List Byte := []
     s.hearsHost ep = true ∧
     p.length ≤ 4096 ∧
     seq < 65536)
    ∧ (let s : State := node
     let ep : Endpoint := .loc
     let seq : Nat := 3
     let p : List Byte := []
     s.hearsHost ep = true ∧
     p.length ≤ 4096 ∧
     seq < 65536)
    ∧ (let s : State := node
     let ep : Endpoint := .loc
     let kc : Byte := 0x11
     let seq : Nat := 3
     let p : List Byte := []
     s.hearsHost ep = true ∧
     p.length ≤ 4096 ∧
     seq < 65536 ∧
     let head := leBytes 2 p.length ++ [kc] ++ leBytes 2 seq ++ p
     let crc : Nat := 0
     crc < 2 ^ 32 ∧
     crc ≠ crc32c head ∧
     (∀ x ∈ head ++ leBytes 4 crc, x ≠ 215))
    ∧ (let s : State := { node with hsl := {} }
     s.hsl.wake = false ∧
     s.comUp = true ∧
     s.running = true ∧
     s.pw.trans = none ∧
     2 ≤ s.mode)
    ∧ (let s : State := { node with tb := { now := 4000 }, hsl := { chans := [(0, { opened := true, last := some 3, running := true })] } }
     let ep : Endpoint := .loc
     let ch : Nat := 0
     let q : Nat := 3
     (s.chan ep ch).last = some q ∧
     (s.chan ep ch).running = true ∧
     (s.chan ep ch).acked = false ∧
     (s.chan ep ch).since + 4000 ≤ s.tb.now)
    ∧ (let s : State := node
     let ep : Endpoint := .loc
     s.hearsHost ep = true ∧
     ep ≠ Endpoint.debug)
    ∧ (let s : State := { node with hsl := { notices := [notice0], wake := true } }
     s.sinkUp = true ∧
     s.inFlight < s.fld F.hslCfgNwin ∧
     let n : Notice := notice0
     s.hsl.lost = none ∧
     List.find? (fun n => !n.sent) s.hsl.notices = some n)
    ∧ (let s : State := { node with hsl := { lost := some { sum := { count := 1 }, seq := 4 }, wake := true } }
     s.sinkUp = true ∧
     s.inFlight < s.fld F.hslCfgNwin ∧
     let l : LostNotice := { sum := { count := 1 }, seq := 4 }
     s.hsl.lost = some l ∧
     l.sent = false ∧
     List.find? (fun n => !n.sent) s.hsl.notices = none)
    ∧ (let s : State := { node with tb := { now := 10 ^ 9 }, hsl := { notices := [{ notice0 with sent := true }], wake := true } }
     let seq : Nat := 3
     let n : Notice := { notice0 with sent := true }
     s.sinkUp = true ∧
     s.dueNotice seq = some n)
    ∧ (let s : State := node
     let o : Sys2Proof.Origin := wO
     let p : List Byte := []
     p.length = 0 ∧
     s.takes o 16 p)
    ∧ (let s : State := node
     let o : Sys2Proof.Origin := wO
     let p : List Byte := []
     p.length = 0 ∧
     s.takes o 21 p)
    ∧ (let s : State := { node with hsl := { wake := true, variant := 1, waiting := [frame1] } }
     let f : HslFrame := frame1
     let rest : List HslFrame := []
     s.hsl.variant = 1 ∧
     s.hsl.wake = true ∧
     s.comUp = true ∧
     List.filter (fun f => f.ep == Endpoint.loc && s.mayFollow f) s.hsl.waiting = f :: rest)
    ∧ (let s : State := { node with hsl := { wake := true, variant := 1, waiting := [frame1] } }
     let f : HslFrame := frame1
     let rest : List HslFrame := []
     s.hsl.variant = 1 ∧
     s.hsl.wake = true ∧
     s.comUp = true ∧
     List.filter (fun f => f.ep == Endpoint.loc && s.mayFollow f) s.hsl.waiting = f :: rest)
    ∧ (let s : State := node
     s.comUp = true)
    ∧ (let s : State := node
     s.comUp = true ∧
     let n : Nat := 4097
     4096 < n) :=
  ⟨by decide +kernel,
   by decide +kernel,
   by decide +kernel,
   by decide +kernel,
   by decide +kernel,
   by decide +kernel,
   by decide +kernel,
   by decide +kernel,
   by decide +kernel,
   by unfold State.takes; decide +kernel,
   by unfold State.takes; decide +kernel,
   by decide +kernel,
   by decide +kernel,
   by decide +kernel,
   by decide +kernel⟩

/-- The hypotheses of `Interrupts` are met, clause by clause. -/
theorem witness_interrupts :
    (let s : State := node
     let core : Nat := 0
     let id : Nat := 640
     let level : Bool := true
     irqAssigned id = true ∧
     core < 4 ∧
     s.comUp = true ∧
     (id < 768 ∨ 863 < id) ∧
     let k := irqKey core id
     let now := (s.irqOwnLevel core id).getD level
     s.irqSense k = 0 ∧
     now = true ∧
     (s.irq k).pend = false ∧
     (s.irq k).act = false)
    ∧ (let s : State := node
     let core : Nat := 0
     let id : Nat := 640
     let level : Bool := false
     irqAssigned id = true ∧
     core < 4 ∧
     s.comUp = true ∧
     (id < 768 ∨ 863 < id) ∧
     let k := irqKey core id
     let now := (s.irqOwnLevel core id).getD level
     s.irqSense k = 0 ∧
     now = false ∧
     (s.irq k).act = false)
    ∧ (let s : State := node
     let core : Nat := 0
     let id : Nat := 5
     let level : Bool := true
     irqAssigned id = true ∧
     core < 4 ∧
     s.comUp = true ∧
     (id < 768 ∨ 863 < id) ∧
     let k := irqKey core id
     let now := (s.irqOwnLevel core id).getD level
     (s.irqSense k = 1 ∨ s.irqSense k = 3) ∧
     now = true ∧
     (s.irq k).level = false ∧
     (s.irq k).pend = false)
    ∧ (let s : State := { node with icu := { src := [(1029, { pend := true })] } }
     let core : Nat := 0
     let id : Nat := 5
     let level : Bool := true
     irqAssigned id = true ∧
     core < 4 ∧
     s.comUp = true ∧
     (id < 768 ∨ 863 < id) ∧
     let k := irqKey core id
     let now := (s.irqOwnLevel core id).getD level
     (s.irqSense k = 1 ∨ s.irqSense k = 3) ∧
     now = true ∧
     (s.irq k).level = false ∧
     (s.irq k).pend = true)
    ∧ (let s : State := { node with board := [(cfgKey 1 7 8 0 640, 0x200)], icu := { src := [(640, { level := true })] } }
     let core : Nat := 0
     let id : Nat := 640
     let level : Bool := false
     irqAssigned id = true ∧
     core < 4 ∧
     s.comUp = true ∧
     (id < 768 ∨ 863 < id) ∧
     let k := irqKey core id
     let now := (s.irqOwnLevel core id).getD level
     (s.irqSense k = 2 ∨ s.irqSense k = 3) ∧
     now = false ∧
     (s.irq k).level = true ∧
     (s.irq k).pend = false)
    ∧ (let s : State := { node.setBit (A.icuPriven0 0) 5 with icu := { src := [(1029, { pend := true })], banks := [(0, { base := 0x24000000, enabled := true })] } }
     let core : Nat := 0
     let k : Nat := 1029
     s.icuUp core = true ∧
     s.irqWinner core = some k ∧
     let a := (s.bank core).base + 16 * s.fld (F.icuRingwrIndex core)
     s.ringFull core = false ∧
     addrExists a = true ∧
     s.domainOn (addrDomain a) = true ∧
     s.stackHit a 16 = false)
    ∧ (let s : State := { (node.setBit (A.icuPriven0 0) 5).setFld (F.icuRingrdIndex 0) 1 with icu := { src := [(1029, { pend := true })], banks := [(0, { base := 0x24000000, enabled := true })] } }
     let core : Nat := 0
     let k : Nat := 1029
     s.icuUp core = true ∧
     s.irqWinner core = some k ∧
     s.ringFull core = true)
    ∧ (let s : State := { node with icu := { src := [(1029, { act := true })], banks := [(0, { stack := [(8, 1029)] })] } }
     let core : Nat := 0
     let w : Word := 5
     let p : Nat := 8
     let k : Nat := 1029
     let rest : List (Nat × Nat) := []
     s.icuUp core = true ∧
     (s.bank core).stack = (p, k) :: rest ∧
     irqId k = bitsOf (BitVec.toNat w) 0 11)
    ∧ (let s : State := { node with icu := { src := [(1029, { act := true })], banks := [(0, { stack := [(8, 1029)] })] } }
     let core : Nat := 0
     let w : Word := 6
     let p : Nat := 8
     let k : Nat := 1029
     let rest : List (Nat × Nat) := []
     s.icuUp core = true ∧
     (s.bank core).stack = (p, k) :: rest ∧
     irqId k ≠ bitsOf (BitVec.toNat w) 0 11)
    ∧ (let s : State := node
     let core : Nat := 0
     let w : Word := 5
     core < 4 ∧
     s.comUp = true ∧
     let k := irqKey core (bitsOf (BitVec.toNat w) 0 5)
     (s.irq k).pend = false)
    ∧ (let s : State := node
     let w : Word := 640
     s.comUp = true ∧
     64 ≤ bitsOf (BitVec.toNat w) 0 10 ∧
     bitsOf (BitVec.toNat w) 0 10 < 960 ∧
     let k := bitsOf (BitVec.toNat w) 0 10
     irqAssigned k = true ∧
     (s.irq k).pend = false)
    ∧ (let s : State := node
     let w : Word := 640
     s.comUp = true ∧
     64 ≤ bitsOf (BitVec.toNat w) 0 10 ∧
     bitsOf (BitVec.toNat w) 0 10 < 960)
    ∧ (let s : State := node
     let core : Nat := 0
     s.icuUp core = true)
    ∧ (let s : State := { node with icu := { banks := [(0, { staged := true })] } }
     let core : Nat := 0
     s.icuUp core = true ∧
     (s.bank core).staged = true) :=
  ⟨by decide +kernel,
   by decide +kernel,
   by decide +kernel,
   by decide +kernel,
   by decide +kernel,
   by decide +kernel,
   by decide +kernel,
   by decide +kernel,
   by decide +kernel,
   by decide +kernel,
   by decide +kernel,
   by decide +kernel,
   by decide +kernel,
   by decide +kernel⟩

/-- The hypotheses of `EventFabric` are met, clause by clause. -/
theorem witness_eventFabric :
    (let s : State := node
     let code : Nat := 1
     let level : Bool := true
     externalProducer code = true ∧
     s.prodHeld code = false ∧
     (96 < code ∨ s.padDriven (code - 1) = none) ∧
     s.evf.high.contains code = !level)
    ∧ (let s : State := node
     s.comUp = true ∧
     let w : Word := 0
     let m : Nat := 0
     m = bitsOf (BitVec.toNat w) 0 8 ∧
     (bitAt (s.chCfg m) 31 = false ∨ bitAt s.evf.main m = true))
    ∧ (let s : State := { node with board := [(cfgKey 1 7 9 0 0, 2 ^ 31)] }
     s.comUp = true ∧
     let w : Word := 0
     let m : Nat := 0
     m = bitsOf (BitVec.toNat w) 0 8 ∧
     bitAt (s.chCfg m) 31 = true ∧
     bitAt s.evf.main m = false ∧
     bitAt s.evf.out m = false ∧
     s.chPass m = true)
    ∧ (let s : State := node
     s.comUp = true ∧
     let j : Nat := 7
     j < 8)
    ∧ (let s : State := node
     s.comUp = true ∧
     let w : Word := 1
     let g : Nat := 0
     g < 16 ∧
     BitVec.toNat w = 2 ^ g ∧
     bitAt s.evf.closing g = false)
    ∧ (let s : State := node
     s.comUp = true)
    ∧ (let s : State := node
     let w : Word := 0
     let a : Nat := 0
     a = bitsOf (BitVec.toNat w) 0 8 ∧
     a < 64 ∧
     (bitAt (s.aonCfg a) 31 = false ∨ bitAt s.evf.aon a = true))
    ∧ (let s : State := { node with board := [(cfgKey 1 7 10 0 0, 2 ^ 31)] }
     let w : Word := 0
     let a : Nat := 0
     a = bitsOf (BitVec.toNat w) 0 8 ∧
     a < 64 ∧
     bitAt (s.aonCfg a) 31 = true ∧
     bitAt s.evf.aon a = false)
    ∧ (let s : State := { node with evf := { opening := 1 } }
     let g : Nat := 0
     g < 16 ∧
     bitAt s.evf.opening g = true ∧
     bitAt s.evf.closing g = false)
    ∧ (let s : State := { node with evf := { opening := 1, closing := 1 } }
     let g : Nat := 0
     g < 16 ∧
     bitAt s.evf.closing g = true) :=
  ⟨by decide +kernel,
   by decide +kernel,
   by decide +kernel,
   by decide +kernel,
   by decide +kernel,
   by decide +kernel,
   by decide +kernel,
   by decide +kernel,
   by decide +kernel,
   by decide +kernel⟩

/-- The hypotheses of `TimersAndCaptures` are met, clause by clause. -/
theorem witness_timersAndCaptures :
    (let s : State := node
     s.comUp = true ∧
     let w : Word := 1
     bitAt (BitVec.toNat w) 0 = true)
    ∧ (let s : State := { (node.raise (F.tmbCmpctlEn 95)).raise (F.tmbCmpctlAuto 95) |>.setRegN (A.tmbCmpint 95) 10 with tb := { now := 5, run := .ref } }
     s.comUp = true ∧
     let n : Nat := 95
     n < 96 ∧
     s.tb.run ≠ TmbRun.stopped ∧
     s.flag (F.tmbCmpctlEn n) = true ∧
     s.cmp n ≤ s.tb.now ∧
     s.cmpHeld = false ∧
     let int_ := s.regN (A.tmbCmpint n)
     s.flag (F.tmbCmpctlAuto n) = true ∧
     int_ ≠ 0)
    ∧ (let s : State := { node.raise (F.tmbCmpctlEn 95) with tb := { now := 5, run := .ref } }
     s.comUp = true ∧
     let n : Nat := 95
     n < 96 ∧
     s.tb.run ≠ TmbRun.stopped ∧
     s.flag (F.tmbCmpctlEn n) = true ∧
     s.cmp n ≤ s.tb.now ∧
     s.cmpHeld = false ∧
     s.flag (F.tmbCmpctlAuto n) = false)
    ∧ (let s : State := node.setRegN A.tmbStagint 100
     s.comUp = true ∧
     let w : Word := 0x80005F00
     let first := bitsOf (BitVec.toNat w) 0 7
     let last := bitsOf (BitVec.toNat w) 8 7
     bitAt (BitVec.toNat w) 31 = true ∧
     first ≤ last ∧
     last < 96 ∧
     s.regN A.tmbStagint ≠ 0)
    ∧ (let s : State := node
     s.comUp = true ∧
     let n : Nat := 95
     n < 96)
    ∧ (let s : State := node
     s.comUp = true ∧
     let n : Nat := 95
     n < 96)
    ∧ (let s : State := node
     s.comUp = true ∧
     let c : Nat := 31
     c < 32)
    ∧ (let s : State := node
     s.comUp = true ∧
     let n : Nat := 15
     n < 16)
    ∧ (let s : State := node
     s.comUp = true ∧
     let n : Nat := 15
     n < 16)
    ∧ (let s : State := { node.setRegN A.pmuDomstat 0 with tb := { run := .ref } }
     s.tb.run ≠ TmbRun.stopped ∧
     s.comUp = false)
    ∧ (let s : State := { node.raise F.pmuStatXrefrdy with tb := { run := .lf } }
     s.tb.run = TmbRun.lf ∧
     s.flag F.pmuStatXrefrdy = true)
    ∧ (let s : State := { node with tb := { now := 100, run := .ref }, evf := { inputs := [(31, { req := some { tick := 5 } })] } }
     let c : Nat := 31
     let x : EvLatch := { tick := 5 }
     c < 32 ∧
     s.evDue c = true ∧
     (s.evInput c).req = some x)
    ∧ (let s : State := { node.raise (F.tmbPmctlEn 0) with tb := { now := 100, run := .ref }, evf := { inputs := [(32, { req := some { tick := 5 } })] } }
     let n : Nat := 0
     n < 16 ∧
     s.flag (F.tmbPmctlEn n) = true ∧
     let x : EvLatch := { tick := 5 }
     s.evDue (32 + 2 * n) = true ∧
     s.evDue (33 + 2 * n) = false ∧
     (s.evInput (32 + 2 * n)).req = some x ∧
     (s.pmUnit n).start = none)
    ∧ (let s : State := { node.raise (F.tmbPmctlEn 0) with tb := { now := 100, run := .ref, pms := [(0, { start := some 2 })] }, evf := { inputs := [(33, { req := some { tick := 5 } })] } }
     let n : Nat := 0
     n < 16 ∧
     s.flag (F.tmbPmctlEn n) = true ∧
     let t0 : Nat := 2
     let x : EvLatch := { tick := 5 }
     s.evDue (33 + 2 * n) = true ∧
     s.evDue (32 + 2 * n) = false ∧
     (s.evInput (33 + 2 * n)).req = some x ∧
     (s.pmUnit n).start = some t0) :=
  ⟨by decide +kernel,
   by decide +kernel,
   by decide +kernel,
   by decide +kernel,
   by decide +kernel,
   by decide +kernel,
   by decide +kernel,
   by decide +kernel,
   by decide +kernel,
   by decide +kernel,
   by decide +kernel,
   by decide +kernel,
   by decide +kernel,
   by decide +kernel⟩

/-- The hypotheses of `CounterSnapshot` are met, clause by clause. -/
theorem witness_counterSnapshot :
    (let s : State := { node with tb := { now := 5 } }
     let w : Word := 1
     s.comUp = true ∧
     bitAt (BitVec.toNat w) 0 = true ∧
     s.snp.last ≠ some s.tb.now ∧
     List.find? (fun b => b.tick == s.tb.now) s.snp.frozen = none ∧
     let k := if s.snp.gen = 0 then 0 else 1 - s.fld F.snpStatNewest
     s.flag F.snpStatFilling = false ∧
     bitAt (s.fld F.snpHoldHeld) k = false)
    ∧ (let s : State := node.raise F.snpStatFilling
     let w : Word := 1
     s.comUp = true ∧
     bitAt (BitVec.toNat w) 0 = true ∧
     s.snp.last ≠ some s.tb.now ∧
     List.find? (fun b => b.tick == s.tb.now) s.snp.frozen = none ∧
     let k := if s.snp.gen = 0 then 0 else 1 - s.fld F.snpStatNewest
     (s.flag F.snpStatFilling = true ∨ bitAt (s.fld F.snpHoldHeld) k = true))
    ∧ (let s : State := node.raise F.snpStatFilling
     s.flag F.snpStatFilling = true ∧
     s.snp.readers = [])
    ∧ (let s : State := { node with snp := { gen := 1, bank0 := { gen := 1 } } }
     let o : Sys2Proof.Origin := wO
     let p : List Byte := [1, 1, 0, 0, 250, 0, 0, 0]
     s.takes o 99 p ∧
     p.length = 8 ∧
     1 ≤ byteAt p 0 ∧
     byteAt p 0 ≤ 2 ∧
     byteAt p 1 < 2 ∧
     1 ≤ leAt p 4 2 ∧
     leAt p 4 2 ≤ 250 ∧
     leAt p 2 2 + leAt p 4 2 ≤ 9459 ∧
     allZero (List.drop 6 p) = true ∧
     let b := s.snpBank (byteAt p 0 - 1)
     b.gen ≠ 0) :=
  ⟨by decide +kernel,
   by decide +kernel,
   by decide +kernel,
   by unfold State.takes; decide +kernel⟩

/-- The hypotheses of `DaliDimmingAndMetering` are met, clause by clause. -/
theorem witness_daliDimmingAndMetering :
    (let s : State := dali0 {}
     let i : Nat := 0
     s.daliOn i = true ∧
     let w : Word := 0x80000110
     let n := BitVec.toNat w
     bitAt n 31 = true ∧
     txcmdOk n = true ∧
     (s.dali i).tx = none)
    ∧ (let s : State := dali0 { tx := some { data := 1, size := 16, prio := 1, ans := true } }
     let i : Nat := 0
     s.daliOn i = true ∧
     let x : DaliTx := { data := 1, size := 16, prio := 1, ans := true }
     (s.dali i).tx = some x ∧
     x.sending = false ∧
     s.flag (F.daliStatBusfail i) = false ∧
     x.prio ≠ 0)
    ∧ (let s : State := dali0 { tx := some { data := 1, size := 8, prio := 0, ans := false } }
     let i : Nat := 0
     s.daliOn i = true ∧
     let x : DaliTx := { data := 1, size := 8, prio := 0, ans := false }
     (s.dali i).tx = some x ∧
     x.sending = false ∧
     s.flag (F.daliStatBusfail i) = false ∧
     x.prio = 0 ∧
     (s.dali i).forward = none)
    ∧ (let s : State := { dali0 { tx := some { data := 1, size := 8, prio := 0, ans := false }, forward := some 5 } with tb := { now := 220005 } }
     let i : Nat := 0
     s.daliOn i = true ∧
     let x : DaliTx := { data := 1, size := 8, prio := 0, ans := false }
     (s.dali i).tx = some x ∧
     x.sending = false ∧
     s.flag (F.daliStatBusfail i) = false ∧
     let e : Nat := 5
     x.prio = 0 ∧
     (s.dali i).forward = some e ∧
     e + 220000 ≤ s.tb.now ∧
     s.tb.now < e + 420000)
    ∧ (let s : State := dali0 { tx := some { data := 1, size := 16, prio := 1, ans := true, sending := true } }
     let i : Nat := 0
     s.daliOn i = true ∧
     let x : DaliTx := { data := 1, size := 16, prio := 1, ans := true, sending := true }
     (s.dali i).tx = some x ∧
     x.sending = true)
    ∧ (let s : State := dali0 { tx := some { data := 1, size := 16, prio := 1, ans := true, sending := true } }
     let i : Nat := 0
     s.daliOn i = true ∧
     let x : DaliTx := { data := 1, size := 16, prio := 1, ans := true, sending := true }
     (s.dali i).tx = some x ∧
     x.sending = true)
    ∧ (let s : State := dali0 { tx := some { data := 1, size := 16, prio := 1, ans := true } }
     let i : Nat := 0
     s.daliOn i = true ∧
     let x : DaliTx := { data := 1, size := 16, prio := 1, ans := true }
     (s.dali i).tx = some x)
    ∧ (let s : State := dali0 {}
     let i : Nat := 0
     s.daliOn i = true)
    ∧ (let s : State := dali0 {}
     let i : Nat := 0
     s.daliOn i = true ∧
     (s.dali i).rx.length < 8)
    ∧ (let s : State := dali0 { rx := List.replicate 8 { data := 1, bits := 8, err := false } }
     let i : Nat := 0
     s.daliOn i = true ∧
     8 ≤ (s.dali i).rx.length)
    ∧ (let s : State := { dali0 { window := some 5 } with tb := { now := 420005 } }
     let i : Nat := 0
     s.daliOn i = true ∧
     let e : Nat := 5
     (s.dali i).window = some e ∧
     e + 420000 ≤ s.tb.now ∧
     (s.dali i).rx.length < 8)
    ∧ (let s : State := dali0 { rx := [{ data := 1, bits := 8, err := true }] }
     let i : Nat := 0
     s.daliOn i = true ∧
     let r : DaliRec := { data := 1, bits := 8, err := true }
     let rest : List DaliRec := []
     (s.dali i).rx = r :: rest)
    ∧ (let s : State := node.setFld (F.dmoFadeFade 3) 7
     let n : Nat := 3
     n < 4 ∧
     s.comUp = true ∧
     s.fld (F.dmoFadeFade n) ≠ 0)
    ∧ (let s : State := (node.raise (F.dmoCfgEn 3)).raise (F.dmoCfgMode 3)
     let n : Nat := 3
     n < 4 ∧
     s.comUp = true ∧
     s.flag (F.dmoCfgEn n) = true ∧
     s.flag (F.dmoCfgMode n) = true)
    ∧ (let s : State := metering
     s.metRuns = true)
    ∧ (let s : State := { metering with lum := { cycles := 65535 } }
     s.metRuns = true ∧
     s.fld F.metCfgAcc ≤ s.lum.cycles)
    ∧ (let s : State := metering
     s.metRuns = true ∧
     s.flag F.metStatNozc = false)
    ∧ (let s : State := node
     s.comUp = true ∧
     let w : Word := 1
     bitAt (BitVec.toNat w) 0 = true)
    ∧ (let s : State := node
     s.comUp = true)
    ∧ (let s : State := node
     s.comUp = true) :=
  ⟨by decide +kernel,
   by decide +kernel,
   by decide +kernel,
   by decide +kernel,
   by decide +kernel,
   by decide +kernel,
   by decide +kernel,
   by decide +kernel,
   by decide +kernel,
   by decide +kernel,
   by decide +kernel,
   by decide +kernel,
   by decide +kernel,
   by decide +kernel,
   by decide +kernel,
   by decide +kernel,
   by decide +kernel,
   by decide +kernel,
   by decide +kernel,
   by decide +kernel⟩

/-- The hypotheses of `SerialPeripherals` are met, clause by clause. -/
theorem witness_serialPeripherals :
    (let s : State := serial 7 {}
     let k : Nat := 7
     let w : Word := 0x80000003
     s.serOn k = true ∧
     bitAt (BitVec.toNat w) 31 = true ∧
     bitAt (BitVec.toNat w) 30 = false ∧
     k < 8 ∧
     (s.ser k).job = none ∧
     bitsOf (BitVec.toNat w) 0 16 ≠ 0)
    ∧ (let s : State := serial 7 { job := some { len := 3, read := true, addr := 0 } }
     let k : Nat := 7
     let w : Word := 0x40000000
     k < 12 ∧
     s.comUp = true ∧
     bitAt (BitVec.toNat w) 30 = true ∧
     bitAt (BitVec.toNat w) 31 = false ∧
     s.serBusy k = true)
    ∧ (let s : State := serial 7 { job := some { len := 3, read := true, addr := 0 } }
     let k : Nat := 7
     s.serOn k = true ∧
     k < 8 ∧
     (s.ser k).job.isSome = true)
    ∧ (let s : State := serial 8 { tx := [5] }
     let k : Nat := 8
     s.serOn k = true ∧
     8 ≤ k ∧
     (s.ser k).tx ≠ [])
    ∧ (let s : State := serial 11 {}
     let k : Nat := 11
     k < 12 ∧
     s.comUp = true ∧
     (s.ser k).tx.length < 32)
    ∧ (let s : State := serial 11 { rx := [5] }
     let k : Nat := 11
     k < 12 ∧
     s.comUp = true ∧
     let b : Byte := 5
     let rest : List Byte := []
     (s.ser k).rx = b :: rest)
    ∧ (let s : State := serial 8 {}
     let k : Nat := 8
     8 ≤ k ∧
     s.serOn k = true ∧
     (s.ser k).rx.length < 32)
    ∧ (let s : State := serial 8 {}
     let k : Nat := 8
     8 ≤ k ∧
     s.serOn k = true ∧
     let err : Nat := 2
     (err = 1 ∨ err = 2)) :=
  ⟨by decide +kernel,
   by decide +kernel,
   by decide +kernel,
   by decide +kernel,
   by decide +kernel,
   by decide +kernel,
   by decide +kernel,
   by decide +kernel⟩

/-- The hypotheses of `PipArithmetic` are met, clause by clause. -/
theorem witness_pipArithmetic :
    (let s : State := runs (wordOf (.alu 0 3 4 5)) core0
     let core : Nat := 0
     let w : Word := wordOf (.alu 0 3 4 5)
     let fn : Nat := 0
     let d : Nat := 3
     let a : Nat := 4
     let b : Nat := 5
     s.begins core w (PipInsn.alu fn d a b) s)
    ∧ (let s : State := runs (wordOf (.movl 3 4)) core0
     let core : Nat := 0
     let w : Word := wordOf (.movl 3 4)
     let d : Nat := 3
     let a : Nat := 4
     s.begins core w (PipInsn.movl d a) s)
    ∧ (let s : State := runs (wordOf (.movh 3 4)) core0
     let core : Nat := 0
     let w : Word := wordOf (.movh 3 4)
     let d : Nat := 3
     let a : Nat := 4
     s.begins core w (PipInsn.movh d a) s)
    ∧ (let s : State := runs (wordOf (.addi 3 4 7)) core0
     let core : Nat := 0
     let w : Word := wordOf (.addi 3 4 7)
     let d : Nat := 3
     let a : Nat := 4
     let imm : Nat := 7
     s.begins core w (PipInsn.addi d a imm) s)
    ∧ (let s : State := runs (wordOf (.andi 3 4 7)) core0
     let core : Nat := 0
     let w : Word := wordOf (.andi 3 4 7)
     let d : Nat := 3
     let a : Nat := 4
     let imm : Nat := 7
     s.begins core w (PipInsn.andi d a imm) s)
    ∧ (let s : State := runs (wordOf (.ori 3 4 7)) core0
     let core : Nat := 0
     let w : Word := wordOf (.ori 3 4 7)
     let d : Nat := 3
     let a : Nat := 4
     let imm : Nat := 7
     s.begins core w (PipInsn.ori d a imm) s)
    ∧ (let s : State := runs (wordOf (.xori 3 4 7)) core0
     let core : Nat := 0
     let w : Word := wordOf (.xori 3 4 7)
     let d : Nat := 3
     let a : Nat := 4
     let imm : Nat := 7
     s.begins core w (PipInsn.xori d a imm) s)
    ∧ (let s : State := runs (wordOf (.tlti 3 4 7)) core0
     let core : Nat := 0
     let w : Word := wordOf (.tlti 3 4 7)
     let d : Nat := 3
     let a : Nat := 4
     let imm : Nat := 7
     s.begins core w (PipInsn.tlti d a imm) s)
    ∧ (let s : State := runs (wordOf (.tltiu 3 4 7)) core0
     let core : Nat := 0
     let w : Word := wordOf (.tltiu 3 4 7)
     let d : Nat := 3
     let a : Nat := 4
     let imm : Nat := 7
     s.begins core w (PipInsn.tltiu d a imm) s)
    ∧ (let s : State := runs (wordOf (.shi 3 4 0 31)) core0
     let core : Nat := 0
     let w : Word := wordOf (.shi 3 4 0 31)
     let d : Nat := 3
     let a : Nat := 4
     let sh : Nat := 31
     s.begins core w (PipInsn.shi d a 0 sh) s)
    ∧ (let s : State := runs (wordOf (.shi 3 4 1 31)) core0
     let core : Nat := 0
     let w : Word := wordOf (.shi 3 4 1 31)
     let d : Nat := 3
     let a : Nat := 4
     let sh : Nat := 31
     s.begins core w (PipInsn.shi d a 1 sh) s)
    ∧ (let s : State := runs (wordOf (.shi 3 4 2 31)) core0
     let core : Nat := 0
     let w : Word := wordOf (.shi 3 4 2 31)
     let d : Nat := 3
     let a : Nat := 4
     let sh : Nat := 31
     s.begins core w (PipInsn.shi d a 2 sh) s)
    ∧ (let s : State := runs (wordOf (.li 3 7)) core0
     let core : Nat := 0
     let w : Word := wordOf (.li 3 7)
     let d : Nat := 3
     let imm : Nat := 7
     s.begins core w (PipInsn.li d imm) s)
    ∧ (let s : State := runs (wordOf (.ldhi 3 (2 ^ 10))) core0
     let core : Nat := 0
     let w : Word := wordOf (.ldhi 3 (2 ^ 10))
     let d : Nat := 3
     let imm : Nat := 2 ^ 10
     s.begins core w (PipInsn.ldhi d imm) s)
    ∧ (let s : State := runs (wordOf (.addpch 3 (2 ^ 10))) core0
     let core : Nat := 0
     let w : Word := wordOf (.addpch 3 (2 ^ 10))
     let d : Nat := 3
     let imm : Nat := 2 ^ 10
     s.begins core w (PipInsn.addpch d imm) s)
    ∧ (let s : State := runs (wordOf (.dspm 5 3 7)) core0
     let core : Nat := 0
     let w : Word := wordOf (.dspm 5 3 7)
     let d : Nat := 3
     let imm : Nat := 7
     s.begins core w (PipInsn.dspm 5 d imm) s)
    ∧ (let s : State := runs (wordOf (.dspm 2 0 8)) core0
     let core : Nat := 0
     let w : Word := wordOf (.dspm 2 0 8)
     let d : Nat := 0
     let imm : Nat := 8
     s.begins core w (PipInsn.dspm 2 d imm) s)
    ∧ (let s : State := runs (wordOf (.getdsp 3)) core0
     let core : Nat := 0
     let w : Word := wordOf (.getdsp 3)
     let d : Nat := 3
     s.begins core w (PipInsn.getdsp d) s)
    ∧ (let s : State := runs (wordOf (.getrsp 3)) core0
     let core : Nat := 0
     let w : Word := wordOf (.getrsp 3)
     let d : Nat := 3
     s.begins core w (PipInsn.getrsp d) s)
    ∧ (let s : State := runs (wordOf (.setdsp 3)) core0
     let core : Nat := 0
     let w : Word := wordOf (.setdsp 3)
     let d : Nat := 3
     s.begins core w (PipInsn.setdsp d) s)
    ∧ (let s : State := runs (wordOf (.fp 0 0 3 4 5)) { core0 with f := [(4, 0x3F800000), (5, 0x3F800000)] }
     let core : Nat := 0
     let w : Word := wordOf (.fp 0 0 3 4 5)
     let fn : Nat := 0
     let rm : Nat := 0
     let d : Nat := 3
     let a : Nat := 4
     let b : Nat := 5
     s.begins core w (PipInsn.fp fn rm d a b) s ∧
     let st := BitVec.toNat (s.core core).fpstat
     let r := fpFn fn (if rm = 4 then bitsOf st 8 2 else rm) (if fpFromG fn = true then s.g core a else s.fr core a)
       (s.fr core b) (s.fr core d)
     r.flags &&& bitsOf st 16 5 = 0) :=
  ⟨begins_of (by decide +kernel),
   begins_of (by decide +kernel),
   begins_of (by decide +kernel),
   begins_of (by decide +kernel),
   begins_of (by decide +kernel),
   begins_of (by decide +kernel),
   begins_of (by decide +kernel),
   begins_of (by decide +kernel),
   begins_of (by decide +kernel),
   begins_of (by decide +kernel),
   begins_of (by decide +kernel),
   begins_of (by decide +kernel),
   begins_of (by decide +kernel),
   begins_of (by decide +kernel),
   begins_of (by decide +kernel),
   begins_of (by decide +kernel),
   begins_of (by decide +kernel),
   begins_of (by decide +kernel),
   begins_of (by decide +kernel),
   begins_of (by decide +kernel),
   ⟨begins_of (by decide +kernel), by decide +kernel⟩⟩

/-- The hypotheses of `PipMemory` are met, clause by clause. -/
theorem witness_pipMemory :
    (let s : State := runs (wordOf (.ldb 3 4 8)) { core0 with g := [(4, 0x24002010), (5, 4)] }
     let core : Nat := 0
     let w : Word := wordOf (.ldb 3 4 8)
     let d : Nat := 3
     let a : Nat := 4
     let imm : Nat := 8
     let e := (BitVec.toNat (s.g core a) + imm) % 2 ^ 32
     s.begins core w (PipInsn.ldb d a imm) s ∧
     s.readable core e 1)
    ∧ (let s : State := runs (wordOf (.ldbu 3 4 8)) { core0 with g := [(4, 0x24002010), (5, 4)] }
     let core : Nat := 0
     let w : Word := wordOf (.ldbu 3 4 8)
     let d : Nat := 3
     let a : Nat := 4
     let imm : Nat := 8
     let e := (BitVec.toNat (s.g core a) + imm) % 2 ^ 32
     s.begins core w (PipInsn.ldbu d a imm) s ∧
     s.readable core e 1)
    ∧ (let s : State := runs (wordOf (.ldh 3 4 8)) { core0 with g := [(4, 0x24002010), (5, 4)] }
     let core : Nat := 0
     let w : Word := wordOf (.ldh 3 4 8)
     let d : Nat := 3
     let a : Nat := 4
     let imm : Nat := 8
     let e := (BitVec.toNat (s.g core a) + imm) % 2 ^ 32
     s.begins core w (PipInsn.ldh d a imm) s ∧
     s.readable core e 2)
    ∧ (let s : State := runs (wordOf (.ldhu 3 4 8)) { core0 with g := [(4, 0x24002010), (5, 4)] }
     let core : Nat := 0
     let w : Word := wordOf (.ldhu 3 4 8)
     let d : Nat := 3
     let a : Nat := 4
     let imm : Nat := 8
     let e := (BitVec.toNat (s.g core a) + imm) % 2 ^ 32
     s.begins core w (PipInsn.ldhu d a imm) s ∧
     s.readable core e 2)
    ∧ (let s : State := runs (wordOf (.ldw 3 4 8)) { core0 with g := [(4, 0x24002010), (5, 4)] }
     let core : Nat := 0
     let w : Word := wordOf (.ldw 3 4 8)
     let d : Nat := 3
     let a : Nat := 4
     let imm : Nat := 8
     let e := (BitVec.toNat (s.g core a) + imm) % 2 ^ 32
     s.begins core w (PipInsn.ldw d a imm) s ∧
     s.readable core e 4)
    ∧ (let s : State := runs (wordOf (.ldf 3 4 8)) { core0 with g := [(4, 0x24002010), (5, 4)] }
     let core : Nat := 0
     let w : Word := wordOf (.ldf 3 4 8)
     let d : Nat := 3
     let a : Nat := 4
     let imm : Nat := 8
     let e := (BitVec.toNat (s.g core a) + imm) % 2 ^ 32
     s.begins core w (PipInsn.ldf d a imm) s ∧
     s.readable core e 4)
    ∧ (let s : State := runs (wordOf (.stb 3 4 8)) { core0 with g := [(4, 0x24002010), (5, 4)] }
     let core : Nat := 0
     let w : Word := wordOf (.stb 3 4 8)
     let d : Nat := 3
     let a : Nat := 4
     let imm : Nat := 8
     let e := (BitVec.toNat (s.g core a) + imm) % 2 ^ 32
     s.begins core w (PipInsn.stb d a imm) s ∧
     s.writable core e 1)
    ∧ (let s : State := runs (wordOf (.sth 3 4 8)) { core0 with g := [(4, 0x24002010), (5, 4)] }
     let core : Nat := 0
     let w : Word := wordOf (.sth 3 4 8)
     let d : Nat := 3
     let a : Nat := 4
     let imm : Nat := 8
     let e := (BitVec.toNat (s.g core a) + imm) % 2 ^ 32
     s.begins core w (PipInsn.sth d a imm) s ∧
     s.writable core e 2)
    ∧ (let s : State := runs (wordOf (.stw 3 4 8)) { core0 with g := [(4, 0x24002010), (5, 4)] }
     let core : Nat := 0
     let w : Word := wordOf (.stw 3 4 8)
     let d : Nat := 3
     let a : Nat := 4
     let imm : Nat := 8
     let e := (BitVec.toNat (s.g core a) + imm) % 2 ^ 32
     s.begins core w (PipInsn.stw d a imm) s ∧
     s.writable core e 4)
    ∧ (let s : State := runs (wordOf (.stf 3 4 8)) { core0 with g := [(4, 0x24002010), (5, 4)] }
     let core : Nat := 0
     let w : Word := wordOf (.stf 3 4 8)
     let d : Nat := 3
     let a : Nat := 4
     let imm : Nat := 8
     let e := (BitVec.toNat (s.g core a) + imm) % 2 ^ 32
     s.begins core w (PipInsn.stf d a imm) s ∧
     s.writable core e 4)
    ∧ (let s : State := runs (wordOf (.dspm 0 3 8)) core0
     let core : Nat := 0
     let w : Word := wordOf (.dspm 0 3 8)
     let d : Nat := 3
     let imm : Nat := 8
     let e := (BitVec.toNat (s.core core).dsp + imm) % 2 ^ 32
     s.begins core w (PipInsn.dspm 0 d imm) s ∧
     s.readable core e 4)
    ∧ (let s : State := runs (wordOf (.dspm 3 3 8)) core0
     let core : Nat := 0
     let w : Word := wordOf (.dspm 3 3 8)
     let d : Nat := 3
     let imm : Nat := 8
     let e := (BitVec.toNat (s.core core).dsp + imm) % 2 ^ 32
     s.begins core w (PipInsn.dspm 3 d imm) s ∧
     s.readable core e 4)
    ∧ (let s : State := runs (wordOf (.dspm 1 3 8)) core0
     let core : Nat := 0
     let w : Word := wordOf (.dspm 1 3 8)
     let d : Nat := 3
     let imm : Nat := 8
     let e := (BitVec.toNat (s.core core).dsp + imm) % 2 ^ 32
     s.begins core w (PipInsn.dspm 1 d imm) s ∧
     s.writable core e 4)
    ∧ (let s : State := runs (wordOf (.dspm 4 3 8)) core0
     let core : Nat := 0
     let w : Word := wordOf (.dspm 4 3 8)
     let d : Nat := 3
     let imm : Nat := 8
     let e := (BitVec.toNat (s.core core).dsp + imm) % 2 ^ 32
     s.begins core w (PipInsn.dspm 4 d imm) s ∧
     s.writable core e 4)
    ∧ (let s : State := runs (wordOf (.memx 3 4 5 2 4 0 false)) { core0 with g := [(4, 0x24002010), (5, 4)] }
     let core : Nat := 0
     let w : Word := wordOf (.memx 3 4 5 2 4 0 false)
     let d : Nat := 3
     let a : Nat := 4
     let b : Nat := 5
     let sc : Nat := 2
     let sz : Nat := 4
     let n := memxSize sz
     let e := (BitVec.toNat (s.g core a) + BitVec.toNat (s.g core b) * 2 ^ sc) % 2 ^ 32
     s.begins core w (PipInsn.memx d a b sc sz 0 false) s ∧
     s.readable core e n)
    ∧ (let s : State := runs (wordOf (.memx 3 4 5 2 4 0 true)) { core0 with g := [(4, 0x24002010), (5, 4)] }
     let core : Nat := 0
     let w : Word := wordOf (.memx 3 4 5 2 4 0 true)
     let d : Nat := 3
     let a : Nat := 4
     let b : Nat := 5
     let sc : Nat := 2
     let sz : Nat := 4
     let n := memxSize sz
     let e := (BitVec.toNat (s.g core a) + BitVec.toNat (s.g core b) * 2 ^ sc) % 2 ^ 32
     s.begins core w (PipInsn.memx d a b sc sz 0 true) s ∧
     s.writable core e n)
    ∧ (let s : State := runs (wordOf (.memx 3 4 0 0 4 1 false)) { core0 with g := [(4, 0x24002010), (5, 4)] }
     let core : Nat := 0
     let w : Word := wordOf (.memx 3 4 0 0 4 1 false)
     let d : Nat := 3
     let a : Nat := 4
     let b : Nat := 0
     let sc : Nat := 0
     let sz : Nat := 4
     let n := memxSize sz
     let mode : Nat := 1
     (mode = 1 ∨ mode = 2) ∧
     let e := if mode = 1 then BitVec.toNat (s.g core a) else (BitVec.toNat (s.g core a) + 2 ^ 32 - n) % 2 ^ 32
     sz < 5 ∧
     s.begins core w (PipInsn.memx d a b sc sz mode false) s ∧
     s.readable core e n)
    ∧ (let s : State := runs (wordOf (.memx 3 4 0 0 5 2 true)) { core0 with g := [(4, 0x24002010), (5, 4)] }
     let core : Nat := 0
     let w : Word := wordOf (.memx 3 4 0 0 5 2 true)
     let d : Nat := 3
     let a : Nat := 4
     let b : Nat := 0
     let sc : Nat := 0
     let sz : Nat := 5
     let n := memxSize sz
     let mode : Nat := 2
     (mode = 1 ∨ mode = 2) ∧
     let e := if mode = 1 then BitVec.toNat (s.g core a) else (BitVec.toNat (s.g core a) + 2 ^ 32 - n) % 2 ^ 32
     s.begins core w (PipInsn.memx d a b sc sz mode true) s ∧
     s.writable core e n)
    ∧ (let s : State := runs (wordOf (.push 3)) core0
     let core : Nat := 0
     let w : Word := wordOf (.push 3)
     let d : Nat := 3
     let e := (BitVec.toNat (s.core core).dsp + 2 ^ 32 - 4) % 2 ^ 32
     s.begins core w (PipInsn.push d) s ∧
     s.writable core e 4)
    ∧ (let s : State := runs (wordOf (.pop 3)) core0
     let core : Nat := 0
     let w : Word := wordOf (.pop 3)
     let d : Nat := 3
     let e := BitVec.toNat (s.core core).dsp
     s.begins core w (PipInsn.pop d) s ∧
     s.readable core e 4)
    ∧ (let s : State := runs (wordOf (.swap 3 4 5)) { core0 with g := [(4, 0x24002010), (5, 4)] }
     let core : Nat := 0
     let w : Word := wordOf (.swap 3 4 5)
     let d : Nat := 3
     let a : Nat := 4
     let b : Nat := 5
     let e := BitVec.toNat (s.g core a)
     s.readable core e 4 ∧
     s.writable core e 4 ∧
     s.protect core e 4 true true = 0 ∧
     s.begins core w (PipInsn.swap d a b) s)
    ∧ (let s : State := runs (wordOf (.cas 3 4 5)) { core0 with g := [(4, 0x24002010), (5, 4)] }
     let core : Nat := 0
     let w : Word := wordOf (.cas 3 4 5)
     let d : Nat := 3
     let a : Nat := 4
     let b : Nat := 5
     let e := BitVec.toNat (s.g core a)
     s.readable core e 4 ∧
     s.writable core e 4 ∧
     s.protect core e 4 true true = 0 ∧
     s.begins core w (PipInsn.cas d a b) s) :=
  ⟨⟨begins_of (by decide +kernel), by unfold State.readable; decide +kernel⟩,
   ⟨begins_of (by decide +kernel), by unfold State.readable; decide +kernel⟩,
   ⟨begins_of (by decide +kernel), by unfold State.readable; decide +kernel⟩,
   ⟨begins_of (by decide +kernel), by unfold State.readable; decide +kernel⟩,
   ⟨begins_of (by decide +kernel), by unfold State.readable; decide +kernel⟩,
   ⟨begins_of (by decide +kernel), by unfold State.readable; decide +kernel⟩,
   ⟨begins_of (by decide +kernel), by unfold State.writable; decide +kernel⟩,
   ⟨begins_of (by decide +kernel), by unfold State.writable; decide +kernel⟩,
   ⟨begins_of (by decide +kernel), by unfold State.writable; decide +kernel⟩,
   ⟨begins_of (by decide +kernel), by unfold State.writable; decide +kernel⟩,
   ⟨begins_of (by decide +kernel), by unfold State.readable; decide +kernel⟩,
   ⟨begins_of (by decide +kernel), by unfold State.readable; decide +kernel⟩,
   ⟨begins_of (by decide +kernel), by unfold State.writable; decide +kernel⟩,
   ⟨begins_of (by decide +kernel), by unfold State.writable; decide +kernel⟩,
   ⟨begins_of (by decide +kernel), by unfold State.readable; decide +kernel⟩,
   ⟨begins_of (by decide +kernel), by unfold State.writable; decide +kernel⟩,
   ⟨by decide +kernel, by decide +kernel, begins_of (by decide +kernel), by unfold State.readable; decide +kernel⟩,
   ⟨by decide +kernel, begins_of (by decide +kernel), by unfold State.writable; decide +kernel⟩,
   ⟨begins_of (by decide +kernel), by unfold State.writable; decide +kernel⟩,
   ⟨begins_of (by decide +kernel), by unfold State.readable; decide +kernel⟩,
   ⟨by unfold State.readable; decide +kernel, by unfold State.writable; decide +kernel, by decide +kernel, begins_of (by decide +kernel)⟩,
   ⟨by unfold State.readable; decide +kernel, by unfold State.writable; decide +kernel, by decide +kernel, begins_of (by decide +kernel)⟩⟩

/-- The hypotheses of `PipControl` are met, clause by clause. -/
theorem witness_pipControl :
    (let s : State := runs (wordOf (.br 0 4 5 8)) core0
     let core : Nat := 0
     let w : Word := wordOf (.br 0 4 5 8)
     let cond : Nat := 0
     let a : Nat := 4
     let b : Nat := 5
     let disp : Nat := 8
     s.begins core w (PipInsn.br cond a b disp) s)
    ∧ (let s : State := runs (wordOf (.j 8)) core0
     let core : Nat := 0
     let w : Word := wordOf (.j 8)
     let disp : Nat := 8
     s.begins core w (PipInsn.j disp) s)
    ∧ (let s : State := runs (wordOf (.jr 4)) { core0 with g := [(4, 0x24002010), (5, 4)] }
     let core : Nat := 0
     let w : Word := wordOf (.jr 4)
     let a : Nat := 4
     s.begins core w (PipInsn.jr a) s ∧
     BitVec.toNat (s.g core a) % 2 = 0)
    ∧ (let s : State := runs (wordOf (.jr 4)) { core0 with g := [(4, 1)] }
     let core : Nat := 0
     let w : Word := wordOf (.jr 4)
     let a : Nat := 4
     s.begins core w (PipInsn.jr a) s ∧
     BitVec.toNat (s.g core a) % 2 = 1 ∧
     s.canEnter core 5)
    ∧ (let s : State := runs (wordOf (.call 8)) core0
     let core : Nat := 0
     let w : Word := wordOf (.call 8)
     let sp := (s.rsp core + 2 ^ 32 - 4) % 2 ^ 32
     sp % 4 = 0 ∧
     (s.rsRegion core).1 ≤ sp ∧
     sp < (s.rsRegion core).2 ∧
     (s.core core).mpuAllows (mpuRegions core) 1 sp = true ∧
     (region sp = Region.mainSram ∨ region sp = Region.retained) ∧
     s.stalls sp = false ∧
     s.memAnswers sp = true ∧
     Sparse.find? s.ecc (sp / 8) = none ∧
     let disp : Nat := 8
     s.begins core w (PipInsn.call disp) s)
    ∧ (let s : State := runs (wordOf (.callr 4)) { core0 with g := [(4, 0x24002010), (5, 4)] }
     let core : Nat := 0
     let w : Word := wordOf (.callr 4)
     let sp := (s.rsp core + 2 ^ 32 - 4) % 2 ^ 32
     sp % 4 = 0 ∧
     (s.rsRegion core).1 ≤ sp ∧
     sp < (s.rsRegion core).2 ∧
     (s.core core).mpuAllows (mpuRegions core) 1 sp = true ∧
     (region sp = Region.mainSram ∨ region sp = Region.retained) ∧
     s.stalls sp = false ∧
     s.memAnswers sp = true ∧
     Sparse.find? s.ecc (sp / 8) = none ∧
     let a : Nat := 4
     s.begins core w (PipInsn.callr a) s ∧
     BitVec.toNat (s.g core a) % 2 = 0)
    ∧ (let s : State := runs (wordOf (.ret)) { core0 with rspm := 0x24002FF4 }
     let core : Nat := 0
     let w : Word := wordOf (.ret)
     let sp := s.rsp core
     s.begins core w PipInsn.ret s ∧
     (s.rsRegion core).1 ≤ sp ∧
     sp + 4 ≤ (s.rsRegion core).2 ∧
     s.readable core sp 4 ∧
     s.mem sp 4 % 2 = 0)
    ∧ (let s : State := runs (wordOf (.mfs 3 1)) core0
     let core : Nat := 0
     let w : Word := wordOf (.mfs 3 1)
     let d : Nat := 3
     let idx : Nat := 1
     s.begins core w (PipInsn.mfs d idx) s ∧
     idx ≠ 17 ∧
     idx ≠ 5 ∧
     idx ≠ 6)
    ∧ (let s : State := runs (wordOf (.mfs 3 5)) core0
     let core : Nat := 0
     let w : Word := wordOf (.mfs 3 5)
     let d : Nat := 3
     let idx : Nat := 5
     s.begins core w (PipInsn.mfs d idx) s ∧
     idx ≠ 17 ∧
     idx = 5 ∧
     (s.core core).eframe = 0)
    ∧ (let s : State := runs (wordOf (.mfs 3 5)) { core0 with eframe := 0x24002FF0 }
     let core : Nat := 0
     let w : Word := wordOf (.mfs 3 5)
     let d : Nat := 3
     let idx : Nat := 5
     s.begins core w (PipInsn.mfs d idx) s ∧
     idx ≠ 17 ∧
     let f := BitVec.toNat (s.core core).eframe
     idx = 5 ∧
     f ≠ 0 ∧
     s.readable core f 4)
    ∧ (let s : State := runs (wordOf (.mfs 3 0x11)) core0
     let core : Nat := 0
     let w : Word := wordOf (.mfs 3 0x11)
     let d : Nat := 3
     s.begins core w (PipInsn.mfs d 17) s)
    ∧ (let s : State := runs (wordOf (.mts 4 2)) core0
     let core : Nat := 0
     let w : Word := wordOf (.mts 4 2)
     let a : Nat := 4
     let idx : Nat := 2
     s.begins core w (PipInsn.mts a idx) s ∧
     idx ≠ 5 ∧
     idx ≠ 6)
    ∧ (let s : State := runs (wordOf (.setie 3 1)) core0
     let core : Nat := 0
     let w : Word := wordOf (.setie 3 1)
     let d : Nat := 3
     let ie : Nat := 1
     s.begins core w (PipInsn.setie d ie) s)
    ∧ (let s : State := runs (wordOf (.trap 9)) core0
     let core : Nat := 0
     let w : Word := wordOf (.trap 9)
     let code : Nat := 9
     s.begins core w (PipInsn.trap code) s ∧
     s.canEnter core 4)
    ∧ (let s : State := runs (wordOf (.eret)) { core0 with rspm := 0x24002FF0, eframe := 0x24002FF0 }
     let core : Nat := 0
     let w : Word := wordOf (.eret)
     let f := BitVec.toNat (s.core core).eframe
     s.begins core w PipInsn.eret s ∧
     f ≠ 0 ∧
     (s.core core).rspm = (s.core core).eframe ∧
     f + 16 ≤ 2 ^ 32 ∧
     s.readable core f 4 ∧
     s.readable core (f + 4) 4 ∧
     s.readable core (f + 8) 4 ∧
     s.mem f 4 % 2 = 1)
    ∧ (let s : State := (runs (wordOf .wait) core0).setFld (F.icuRingwrIndex 0) 1
     let core : Nat := 0
     let w : Word := wordOf .wait
     s.begins core w PipInsn.wait s ∧
     s.irqRequest core = true)
    ∧ (let s : State := runs (wordOf (.wait)) core0
     let core : Nat := 0
     let w : Word := wordOf (.wait)
     s.begins core w PipInsn.wait s ∧
     s.irqRequest core = false)
    ∧ (let s : State := (runs (wordOf .wait) { core0 with run := .waiting }).setFld (F.icuRingwrIndex 0) 1
     let core : Nat := 0
     core < 5 ∧
     (s.core core).run = PipRun.waiting ∧
     s.irqRequest core = true)
    ∧ (let s : State := (runs (wordOf .wait) { core0 with psr := 3 }).setFld (F.icuRingwrIndex 0) 1
     let core : Nat := 0
     s.pipRuns core = true ∧
     bitAt (BitVec.toNat (s.core core).psr) 0 = true ∧
     s.irqRequest core = true ∧
     s.canEnter core 10)
    ∧ (let s : State := runs 0xFFFFFFFF core0
     let core : Nat := 0
     let w : Word := 0xFFFFFFFF
     s.pipRuns core = true ∧
     (bitAt (BitVec.toNat (s.core core).psr) 0 && s.irqRequest core) = false ∧
     s.fetch core = Fetched.word (BitVec.toNat w) s ∧
     let u : State := s.setCore core
       (have __src := s.core core;
       { run := __src.run, g := __src.g, f := __src.f, pc := __src.pc, dsp := __src.dsp, psr := __src.psr,
         vbase := __src.vbase, ecause := __src.ecause, eaddr := __src.eaddr, einsn := __src.einsn,
         eframe := __src.eframe, rspm := __src.rspm, rsmBase := __src.rsmBase, rsmLim := __src.rsmLim,
         rspu := __src.rspu, rsuBase := __src.rsuBase, rsuLim := __src.rsuLim, cycle := __src.cycle,
         cycleHi := __src.cycleHi, mpuctl := __src.mpuctl, mpuBase := __src.mpuBase, mpuLim := __src.mpuLim,
         fpstat := __src.fpstat })
     u.canEnter core 2 ∧
     pipDecode (core == 4) w = none)
    ∧ (let s : State := runs (wordOf .wait) { core0 with psr := 0 }
     let core : Nat := 0
     let w : Word := wordOf .wait
     s.pipRuns core = true ∧
     (bitAt (BitVec.toNat (s.core core).psr) 0 && s.irqRequest core) = false ∧
     s.fetch core = Fetched.word (BitVec.toNat w) s ∧
     let u : State := s.setCore core
       (have __src := s.core core;
       { run := __src.run, g := __src.g, f := __src.f, pc := __src.pc, dsp := __src.dsp, psr := __src.psr,
         vbase := __src.vbase, ecause := __src.ecause, eaddr := __src.eaddr, einsn := __src.einsn,
         eframe := __src.eframe, rspm := __src.rspm, rsmBase := __src.rsmBase, rsmLim := __src.rsmLim,
         rspu := __src.rspu, rsuBase := __src.rsuBase, rsuLim := __src.rsuLim, cycle := __src.cycle,
         cycleHi := __src.cycleHi, mpuctl := __src.mpuctl, mpuBase := __src.mpuBase, mpuLim := __src.mpuLim,
         fpstat := __src.fpstat })
     u.canEnter core 3 ∧
     s.coreMach core = false ∧
     pipDecode (core == 4) w = some PipInsn.wait)
    ∧ (let s : State := runs (wordOf .eret) { core0 with psr := 0 }
     let core : Nat := 0
     let w : Word := wordOf .eret
     s.pipRuns core = true ∧
     (bitAt (BitVec.toNat (s.core core).psr) 0 && s.irqRequest core) = false ∧
     s.fetch core = Fetched.word (BitVec.toNat w) s ∧
     let u : State := s.setCore core
       (have __src := s.core core;
       { run := __src.run, g := __src.g, f := __src.f, pc := __src.pc, dsp := __src.dsp, psr := __src.psr,
         vbase := __src.vbase, ecause := __src.ecause, eaddr := __src.eaddr, einsn := __src.einsn,
         eframe := __src.eframe, rspm := __src.rspm, rsmBase := __src.rsmBase, rsmLim := __src.rsmLim,
         rspu := __src.rspu, rsuBase := __src.rsuBase, rsuLim := __src.rsuLim, cycle := __src.cycle,
         cycleHi := __src.cycleHi, mpuctl := __src.mpuctl, mpuBase := __src.mpuBase, mpuLim := __src.mpuLim,
         fpstat := __src.fpstat })
     u.canEnter core 3 ∧
     s.coreMach core = false ∧
     pipDecode (core == 4) w = some PipInsn.eret) :=
  ⟨begins_of (by decide +kernel),
   begins_of (by decide +kernel),
   ⟨begins_of (by decide +kernel), by decide +kernel⟩,
   ⟨begins_of (by decide +kernel), by decide +kernel, by unfold State.canEnter; decide +kernel⟩,
   ⟨by decide +kernel, by decide +kernel, by decide +kernel, by decide +kernel, by decide +kernel, by decide +kernel, by decide +kernel, by decide +kernel, begins_of (by decide +kernel)⟩,
   ⟨by decide +kernel, by decide +kernel, by decide +kernel, by decide +kernel, by decide +kernel, by decide +kernel, by decide +kernel, by decide +kernel, begins_of (by decide +kernel), by decide +kernel⟩,
   ⟨begins_of (by decide +kernel), by decide +kernel, by decide +kernel, by unfold State.readable; decide +kernel, by decide +kernel⟩,
   ⟨begins_of (by decide +kernel), by decide +kernel, by decide +kernel, by decide +kernel⟩,
   ⟨begins_of (by decide +kernel), by decide +kernel, by decide +kernel, by decide +kernel⟩,
   ⟨begins_of (by decide +kernel), by decide +kernel, by decide +kernel, by decide +kernel, by unfold State.readable; decide +kernel⟩,
   begins_of (by decide +kernel),
   ⟨begins_of (by decide +kernel), by decide +kernel, by decide +kernel⟩,
   begins_of (by decide +kernel),
   ⟨begins_of (by decide +kernel), by unfold State.canEnter; decide +kernel⟩,
   ⟨begins_of (by decide +kernel), by decide +kernel, by decide +kernel, by decide +kernel, by unfold State.readable; decide +kernel, by unfold State.readable; decide +kernel, by unfold State.readable; decide +kernel, by decide +kernel⟩,
   ⟨begins_of (by decide +kernel), by decide +kernel⟩,
   ⟨begins_of (by decide +kernel), by decide +kernel⟩,
   by decide +kernel,
   by unfold State.canEnter; decide +kernel,
   ⟨by decide +kernel, by decide +kernel, fetch_of (by decide +kernel), by unfold State.canEnter; decide +kernel, by decide +kernel⟩,
   ⟨by decide +kernel, by decide +kernel, fetch_of (by decide +kernel), by unfold State.canEnter; decide +kernel, by decide +kernel, by decide +kernel⟩,
   ⟨by decide +kernel, by decide +kernel, fetch_of (by decide +kernel), by unfold State.canEnter; decide +kernel, by decide +kernel, by decide +kernel⟩⟩

/-- The hypotheses of `RegisterSpaceAccesses` are met, clause by clause. -/
theorem witness_registerSpaceAccesses :
    (let a : Nat := 0x40FFFFFD
     let n : Nat := 4
     1073741824 ≤ a ∧
     a ≤ 1090519039 ∧
     let listed := a / 65536 - 16384 ∈
       [0, 1, 2, 3, 4, 5, 16, 17, 18, 19, 20, 21, 32, 33, 34, 35, 48, 64, 80, 81, 82, 83, 96, 97, 98, 99, 112, 113,
         114, 115, 128, 129]
     (n ≠ 4 ∨ a % 4 ≠ 0 ∨ ¬listed))
    ∧ (let a : Nat := 0x40000000
     let n : Nat := 2
     1073741824 ≤ a ∧
     a ≤ 1090519039 ∧
     let listed := a / 65536 - 16384 ∈
       [0, 1, 2, 3, 4, 5, 16, 17, 18, 19, 20, 21, 32, 33, 34, 35, 48, 64, 80, 81, 82, 83, 96, 97, 98, 99, 112, 113,
         114, 115, 128, 129]
     (n ≠ 4 ∨ a % 4 ≠ 0 ∨ ¬listed))
    ∧ (let s : State := node
     let a : Nat := 0x40060000
     1073741824 ≤ a ∧
     a ≤ 1090519039 ∧
     let listed := a / 65536 - 16384 ∈
       [0, 1, 2, 3, 4, 5, 16, 17, 18, 19, 20, 21, 32, 33, 34, 35, 48, 64, 80, 81, 82, 83, 96, 97, 98, 99, 112, 113,
         114, 115, 128, 129]
     (a % 4 ≠ 0 ∨ ¬listed) ∧
     s.alive = true)
    ∧ (let s : State := node
     let a : Nat := 0x40000002
     1073741824 ≤ a ∧
     a ≤ 1090519039 ∧
     let listed := a / 65536 - 16384 ∈
       [0, 1, 2, 3, 4, 5, 16, 17, 18, 19, 20, 21, 32, 33, 34, 35, 48, 64, 80, 81, 82, 83, 96, 97, 98, 99, 112, 113,
         114, 115, 128, 129]
     (a % 4 ≠ 0 ∨ ¬listed) ∧
     s.alive = true)
    ∧ (let s : State := node
     let a : Nat := 0x4000FFFC
     1073741824 ≤ a ∧
     a ≤ 1090519039 ∧
     let listed := a / 65536 - 16384 ∈
       [0, 1, 2, 3, 4, 5, 16, 17, 18, 19, 20, 21, 32, 33, 34, 35, 48, 64, 80, 81, 82, 83, 96, 97, 98, 99, 112, 113,
         114, 115, 128, 129]
     a % 4 = 0 ∧
     listed ∧
     s.reaches a = true ∧
     regAt a = none)
    ∧ (let s : State := node
     let a : Nat := 0x4000FFFC
     1073741824 ≤ a ∧
     a ≤ 1090519039 ∧
     let listed := a / 65536 - 16384 ∈
       [0, 1, 2, 3, 4, 5, 16, 17, 18, 19, 20, 21, 32, 33, 34, 35, 48, 64, 80, 81, 82, 83, 96, 97, 98, 99, 112, 113,
         114, 115, 128, 129]
     a % 4 = 0 ∧
     listed ∧
     s.reaches a = true ∧
     regAt a = none) :=
  ⟨by decide +kernel,
   by decide +kernel,
   by decide +kernel,
   by decide +kernel,
   by decide +kernel,
   by decide +kernel⟩

/-- The hypotheses of `DataStackPointer` are met, clause by clause. -/
theorem witness_dataStackPointer :
    (let s : State := runs (wordOf (.setdsp 3)) core0
     let core : Nat := 0
     let w : Word := wordOf (.setdsp 3)
     let a : Nat := 3
     s.begins core w (PipInsn.setdsp a) s)
    ∧ (let s : State := runs (wordOf (.dspm 0 3 8)) core0
     let core : Nat := 0
     let w : Word := wordOf (.dspm 0 3 8)
     let d : Nat := 3
     let imm : Nat := 8
     let e := (BitVec.toNat (s.core core).dsp + imm) % 2 ^ 32
     s.begins core w (PipInsn.dspm 0 d imm) s ∧
     s.readable core e 4)
    ∧ (let s : State := runs (wordOf (.dspm 1 3 8)) core0
     let core : Nat := 0
     let w : Word := wordOf (.dspm 1 3 8)
     let d : Nat := 3
     let imm : Nat := 8
     let e := (BitVec.toNat (s.core core).dsp + imm) % 2 ^ 32
     s.begins core w (PipInsn.dspm 1 d imm) s ∧
     s.writable core e 4)
    ∧ (let s : State := runs (wordOf (.dspm 2 0 8)) core0
     let core : Nat := 0
     let w : Word := wordOf (.dspm 2 0 8)
     let d : Nat := 0
     let imm : Nat := 8
     s.begins core w (PipInsn.dspm 2 d imm) s)
    ∧ (let s : State := runs (wordOf (.dspm 3 3 8)) core0
     let core : Nat := 0
     let w : Word := wordOf (.dspm 3 3 8)
     let d : Nat := 3
     let imm : Nat := 8
     let e := (BitVec.toNat (s.core core).dsp + imm) % 2 ^ 32
     s.begins core w (PipInsn.dspm 3 d imm) s ∧
     s.readable core e 4)
    ∧ (let s : State := runs (wordOf (.dspm 4 3 8)) core0
     let core : Nat := 0
     let w : Word := wordOf (.dspm 4 3 8)
     let d : Nat := 3
     let imm : Nat := 8
     let e := (BitVec.toNat (s.core core).dsp + imm) % 2 ^ 32
     s.begins core w (PipInsn.dspm 4 d imm) s ∧
     s.writable core e 4)
    ∧ (let s : State := runs (wordOf (.dspm 5 3 8)) core0
     let core : Nat := 0
     let w : Word := wordOf (.dspm 5 3 8)
     let d : Nat := 3
     let imm : Nat := 8
     s.begins core w (PipInsn.dspm 5 d imm) s)
    ∧ (let s : State := runs (wordOf (.push 3)) core0
     let core : Nat := 0
     let w : Word := wordOf (.push 3)
     let r : Nat := 3
     let e := (BitVec.toNat (s.core core).dsp + 2 ^ 32 - 4) % 2 ^ 32
     s.begins core w (PipInsn.push r) s ∧
     s.writable core e 4)
    ∧ (let s : State := runs (wordOf (.push 3)) { core0 with dsp := 0x24002011 }
     let core : Nat := 0
     let w : Word := wordOf (.push 3)
     let r : Nat := 3
     let e := (BitVec.toNat (s.core core).dsp + 2 ^ 32 - 4) % 2 ^ 32
     s.begins core w (PipInsn.push r) s ∧
     e % 4 ≠ 0 ∧
     s.canEnter core 5)
    ∧ (let s : State := runs (wordOf (.push 3)) { core0 with dsp := 0x24003000 }
     let core : Nat := 0
     let w : Word := wordOf (.push 3)
     let r : Nat := 3
     let e := (BitVec.toNat (s.core core).dsp + 2 ^ 32 - 4) % 2 ^ 32
     s.begins core w (PipInsn.push r) s ∧
     let p := s.protect core e 4 false true
     e % 4 = 0 ∧
     p ≠ 0 ∧
     s.canEnter core 7)
    ∧ (let s : State := runs (wordOf (.push 3)) { core0 with dsp := 0x10000000 }
     let core : Nat := 0
     let w : Word := wordOf (.push 3)
     let r : Nat := 3
     let e := (BitVec.toNat (s.core core).dsp + 2 ^ 32 - 4) % 2 ^ 32
     s.begins core w (PipInsn.push r) s ∧
     let x := s.busStore core (!s.coreMach core) (s.fromRom core) e 4 (BitVec.toNat (s.g core r))
     e % 4 = 0 ∧
     s.protect core e 4 false true = 0 ∧
     s.stalls e = false ∧
     (region e = Region.registers → s.regAnswers e = false) ∧
     x.busError = true ∧
     x.canEnter core 6)
    ∧ (let s : State := runs (wordOf (.pop 3)) core0
     let core : Nat := 0
     let w : Word := wordOf (.pop 3)
     let d : Nat := 3
     let e := BitVec.toNat (s.core core).dsp
     s.begins core w (PipInsn.pop d) s ∧
     s.readable core e 4)
    ∧ (let s : State := runs (wordOf (.pop 3)) { core0 with dsp := 0x24002011 }
     let core : Nat := 0
     let w : Word := wordOf (.pop 3)
     let d : Nat := 3
     let e := BitVec.toNat (s.core core).dsp
     s.begins core w (PipInsn.pop d) s ∧
     e % 4 ≠ 0 ∧
     s.canEnter core 5)
    ∧ (let s : State := runs (wordOf (.pop 3)) { core0 with mpuctl := 3, mpuBase := [(0, 0x24002001)], mpuLim := [(0, 0x24002000)] }
     let core : Nat := 0
     let w : Word := wordOf (.pop 3)
     let d : Nat := 3
     let e := BitVec.toNat (s.core core).dsp
     s.begins core w (PipInsn.pop d) s ∧
     let p := s.protect core e 4 true false
     e % 4 = 0 ∧
     p ≠ 0 ∧
     s.canEnter core 7)
    ∧ (let s : State := runs (wordOf (.pop 3)) { core0 with dsp := 0x10000000 }
     let core : Nat := 0
     let w : Word := wordOf (.pop 3)
     let d : Nat := 3
     let e := BitVec.toNat (s.core core).dsp
     s.begins core w (PipInsn.pop d) s ∧
     let x := (s.busLoad core (s.fromRom core) e 4).2
     e % 4 = 0 ∧
     s.protect core e 4 true false = 0 ∧
     s.stalls e = false ∧
     (region e = Region.registers → s.regAnswers e = false) ∧
     x.busError = true ∧
     x.canEnter core 6) :=
  ⟨begins_of (by decide +kernel),
   ⟨begins_of (by decide +kernel), by unfold State.readable; decide +kernel⟩,
   ⟨begins_of (by decide +kernel), by unfold State.writable; decide +kernel⟩,
   begins_of (by decide +kernel),
   ⟨begins_of (by decide +kernel), by unfold State.readable; decide +kernel⟩,
   ⟨begins_of (by decide +kernel), by unfold State.writable; decide +kernel⟩,
   begins_of (by decide +kernel),
   ⟨begins_of (by decide +kernel), by unfold State.writable; decide +kernel⟩,
   ⟨begins_of (by decide +kernel), by decide +kernel, by unfold State.canEnter; decide +kernel⟩,
   ⟨begins_of (by decide +kernel), by decide +kernel, by decide +kernel, by unfold State.canEnter; decide +kernel⟩,
   ⟨begins_of (by decide +kernel), by decide +kernel, by decide +kernel, by decide +kernel, by decide +kernel, by decide +kernel, by unfold State.canEnter; decide +kernel⟩,
   ⟨begins_of (by decide +kernel), by unfold State.readable; decide +kernel⟩,
   ⟨begins_of (by decide +kernel), by decide +kernel, by unfold State.canEnter; decide +kernel⟩,
   ⟨begins_of (by decide +kernel), by decide +kernel, by decide +kernel, by unfold State.canEnter; decide +kernel⟩,
   ⟨begins_of (by decide +kernel), by decide +kernel, by decide +kernel, by decide +kernel, by decide +kernel, by decide +kernel, by unfold State.canEnter; decide +kernel⟩⟩

/-- The hypotheses of `ExceptionFrameAccess` are met, clause by clause. -/
theorem witness_exceptionFrameAccess :
    (let s : State := runs (wordOf (.mfs 3 5)) core0
     let core : Nat := 0
     let w : Word := wordOf (.mfs 3 5)
     let c := s.core core
     let f := BitVec.toNat c.eframe
     let d : Nat := 3
     s.begins core w (PipInsn.mfs d 5) s ∧
     f = 0)
    ∧ (let s : State := runs (wordOf (.mfs 3 5)) { core0 with rspm := 0x24002FF0, eframe := 0x24002FF0 }
     let core : Nat := 0
     let w : Word := wordOf (.mfs 3 5)
     let c := s.core core
     let f := BitVec.toNat c.eframe
     let d : Nat := 3
     s.begins core w (PipInsn.mfs d 5) s ∧
     f ≠ 0 ∧
     s.readable core f 4)
    ∧ (let s : State := runs (wordOf (.mfs 3 6)) core0
     let core : Nat := 0
     let w : Word := wordOf (.mfs 3 6)
     let c := s.core core
     let f := BitVec.toNat c.eframe
     let d : Nat := 3
     s.begins core w (PipInsn.mfs d 6) s ∧
     f = 0)
    ∧ (let s : State := runs (wordOf (.mfs 3 6)) { core0 with rspm := 0x24002FF0, eframe := 0x24002FF0 }
     let core : Nat := 0
     let w : Word := wordOf (.mfs 3 6)
     let c := s.core core
     let f := BitVec.toNat c.eframe
     let d : Nat := 3
     s.begins core w (PipInsn.mfs d 6) s ∧
     f ≠ 0 ∧
     f + 4 < 2 ^ 32 ∧
     s.readable core (f + 4) 4)
    ∧ (let s : State := runs (wordOf (.mts 3 5)) core0
     let core : Nat := 0
     let w : Word := wordOf (.mts 3 5)
     let c := s.core core
     let f := BitVec.toNat c.eframe
     let a : Nat := 3
     s.begins core w (PipInsn.mts a 5) s ∧
     f = 0)
    ∧ (let s : State := runs (wordOf (.mts 3 5)) { core0 with rspm := 0x24002FF0, eframe := 0x24002FF0 }
     let core : Nat := 0
     let w : Word := wordOf (.mts 3 5)
     let c := s.core core
     let f := BitVec.toNat c.eframe
     let a : Nat := 3
     s.begins core w (PipInsn.mts a 5) s ∧
     f ≠ 0 ∧
     f % 4 = 0 ∧
     (fun e =>
         c.mpuAllows (mpuRegions core) 1 e = true ∧
           (region e = Region.mainSram ∨ region e = Region.retained) ∧
             s.stalls e = false ∧ s.memAnswers e = true ∧ Sparse.find? s.ecc (e / 8) = none)
       f)
    ∧ (let s : State := runs (wordOf (.mts 3 6)) core0
     let core : Nat := 0
     let w : Word := wordOf (.mts 3 6)
     let c := s.core core
     let f := BitVec.toNat c.eframe
     let a : Nat := 3
     s.begins core w (PipInsn.mts a 6) s ∧
     f = 0)
    ∧ (let s : State := runs (wordOf (.mts 3 6)) { core0 with rspm := 0x24002FF0, eframe := 0x24002FF0 }
     let core : Nat := 0
     let w : Word := wordOf (.mts 3 6)
     let c := s.core core
     let f := BitVec.toNat c.eframe
     let a : Nat := 3
     s.begins core w (PipInsn.mts a 6) s ∧
     f ≠ 0 ∧
     f + 4 < 2 ^ 32 ∧
     s.readable core (f + 4) 4 ∧
     (fun e =>
         c.mpuAllows (mpuRegions core) 1 e = true ∧
           (region e = Region.mainSram ∨ region e = Region.retained) ∧
             s.stalls e = false ∧ s.memAnswers e = true ∧ Sparse.find? s.ecc (e / 8) = none)
       (f + 4))
    ∧ (let s : State := runs (wordOf (.eret)) { core0 with rspm := 0x24002FF0, eframe := 0x24002FF0 }
     let core : Nat := 0
     let w : Word := wordOf (.eret)
     let c := s.core core
     let f := BitVec.toNat c.eframe
     s.begins core w PipInsn.eret s ∧
     f ≠ 0 ∧
     c.rspm = c.eframe ∧
     f + 16 ≤ 2 ^ 32 ∧
     s.readable core f 4 ∧
     s.mem f 4 % 2 = 1 ∧
     s.readable core (f + 4) 4 ∧
     s.readable core (f + 8) 4)
    ∧ (let s : State := runs (wordOf (.eret)) core0
     let core : Nat := 0
     let w : Word := wordOf (.eret)
     let c := s.core core
     let f := BitVec.toNat c.eframe
     s.begins core w PipInsn.eret s ∧
     (f = 0 ∨ c.rspm ≠ c.eframe ∨ s.readable core f 4 ∧ s.mem f 4 % 2 = 0) ∧
     s.canEnter core 8) :=
  ⟨⟨begins_of (by decide +kernel), by decide +kernel⟩,
   ⟨begins_of (by decide +kernel), by decide +kernel, by unfold State.readable; decide +kernel⟩,
   ⟨begins_of (by decide +kernel), by decide +kernel⟩,
   ⟨begins_of (by decide +kernel), by decide +kernel, by decide +kernel, by unfold State.readable; decide +kernel⟩,
   ⟨begins_of (by decide +kernel), by decide +kernel⟩,
   ⟨begins_of (by decide +kernel), by decide +kernel, by decide +kernel, by decide +kernel⟩,
   ⟨begins_of (by decide +kernel), by decide +kernel⟩,
   ⟨begins_of (by decide +kernel), by decide +kernel, by decide +kernel, by unfold State.readable; decide +kernel, by decide +kernel⟩,
   ⟨begins_of (by decide +kernel), by decide +kernel, by decide +kernel, by decide +kernel, by unfold State.readable; decide +kernel, by decide +kernel, by unfold State.readable; decide +kernel, by unfold State.readable; decide +kernel⟩,
   ⟨begins_of (by decide +kernel), by unfold State.readable; decide +kernel, by unfold State.canEnter; decide +kernel⟩⟩

/-- The hypotheses of `LinkContextWrites` are met, clause by clause. -/
theorem witness_linkContextWrites :
    (let s : State := linked 2 0 0
     let a : Nat := 0x30000010
     let n : Nat := 4
     (n = 1 ∨ n = 2 ∨ n = 4) ∧
     a % n = 0 ∧
     region a = Region.context ∧
     s.memAnswers a = true ∧
     Sparse.find? s.ecc (a / 8) = none)
    ∧ (let s : State := linked 2 0 0
     let a : Nat := 0x30000010
     let n : Nat := 4
     (n = 1 ∨ n = 2 ∨ n = 4) ∧
     a % n = 0 ∧
     region a = Region.context ∧
     s.memAnswers a = true ∧
     Sparse.find? s.ecc (a / 8) = none)
    ∧ (let s : State := linked 2 0 0
     let a : Nat := 0x30000010
     let n : Nat := 4
     (n = 1 ∨ n = 2 ∨ n = 4) ∧
     a % n = 0 ∧
     region a = Region.context ∧
     s.memAnswers a = true ∧
     Sparse.find? s.ecc (a / 8) = none)
    ∧ (let s : State := runs (wordOf (.stb 3 4 0x90)) { core0 with g := [(4, 0x30000000)] }
     let core : Nat := 0
     let w : Word := wordOf (.stb 3 4 0x90)
     let d : Nat := 3
     let a : Nat := 4
     let imm : Nat := 0x90
     let e := (BitVec.toNat (s.g core a) + imm) % 2 ^ 32
     s.begins core w (PipInsn.stb d a imm) s ∧
     s.contextWritable core e 1)
    ∧ (let s : State := runs (wordOf (.sth 3 4 0x90)) { core0 with g := [(4, 0x30000000)] }
     let core : Nat := 0
     let w : Word := wordOf (.sth 3 4 0x90)
     let d : Nat := 3
     let a : Nat := 4
     let imm : Nat := 0x90
     let e := (BitVec.toNat (s.g core a) + imm) % 2 ^ 32
     s.begins core w (PipInsn.sth d a imm) s ∧
     s.contextWritable core e 2)
    ∧ (let s : State := runs (wordOf (.stw 3 4 0x90)) { core0 with g := [(4, 0x30000000)] }
     let core : Nat := 0
     let w : Word := wordOf (.stw 3 4 0x90)
     let d : Nat := 3
     let a : Nat := 4
     let imm : Nat := 0x90
     let e := (BitVec.toNat (s.g core a) + imm) % 2 ^ 32
     s.begins core w (PipInsn.stw d a imm) s ∧
     s.contextWritable core e 4) :=
  ⟨by decide +kernel,
   by decide +kernel,
   by decide +kernel,
   ⟨begins_of (by decide +kernel), by unfold State.contextWritable; decide +kernel⟩,
   ⟨begins_of (by decide +kernel), by unfold State.contextWritable; decide +kernel⟩,
   ⟨begins_of (by decide +kernel), by unfold State.contextWritable; decide +kernel⟩⟩

/-- The hypotheses of `CanonicalFormIsKept` are met, clause by clause. -/
theorem witness_canonicalFormIsKept :
    (let s : State := { node with pending := [.hslLengthDiscard 4097] }
     let t : State := node.count (A.hslCtr 2)
     s.canonical ∧
     step s = Host.Outcome.next t) :=
  ⟨by unfold State.canonical; decide +kernel, rfl⟩

/-- The hypotheses of `OtpBitsAreNeverCleared` are met, clause by clause. -/
theorem witness_otpBitsAreNeverCleared :
    (let s : State := { node with pending := [.hslLengthDiscard 4097] }
     let t : State := node.count (A.hslCtr 2)
     step s = Host.Outcome.next t) :=
  rfl

/-- The hypotheses of `PipWordsAreReadWhole` are met, clause by clause. -/
theorem witness_pipWordsAreReadWhole :
    (let sentinel : Bool := false
     let w : Nat := 0x80D14015
     let i : PipInsn := .alu 0x15 3 4 5
     w < 2 ^ 32 ∧
     bitAt w 31 = true ∧
     decode32 sentinel w = some i) :=
  by decide +kernel

end Sys2Proof.Tests
end

section
/-!
What every command does to registers, memory, flash and OTP.
-/

namespace Sys2Proof.Machine

/-! ## What commands do to stored contents

Every meaning is made of a few writes: of a register, of bytes of SRAM and flash, of OTP bits, and the losses of a domain
or a reset. `Evolves r s` says that `s` comes from `r` by such writes alone. Each function of the model has one lemma,
named after it, that says so, and follows its branches; a statement about all commands then needs one case for each kind
of write. -/

/-- `s` comes from `r` by writes of registers, memory, flash and OTP, by losses of registers and memory, and by changes
of the rest of the state. -/
inductive Evolves (r : State) : State → Prop
  | refl : Evolves r r
  /-- A register is written. -/
  | setReg {s a w} (h : Evolves r s) : Evolves r (s.setReg a w)
  /-- Registers return to their reset values. -/
  | dropRegs {s} {p : Nat × Word → Bool} (h : Evolves r s) : Evolves r { s with regs := s.regs.filter p }
  /-- A byte of SRAM is written. -/
  | setByte {s a b} (h : Evolves r s) : Evolves r (s.setByte a b)
  /-- Bytes of SRAM are lost. -/
  | dropRam {s} {p : Host.Cell → Bool} (h : Evolves r s) : Evolves r { s with ram := s.ram.filter p }
  /-- One of the 16 blocks of the retained SRAM is zeroed. -/
  | zeroMacro {s m} (h : Evolves r s) (hm : m < 16) : Evolves r (s.zeroMacro m)
  /-- The link context RAM becomes undefined. -/
  | dropContexts {s} (h : Evolves r s) : Evolves r { s with ctxGen := none }
  /-- The link contexts start anew. -/
  | freshContexts {s} (h : Evolves r s) : Evolves r s.freshContexts
  /-- Bytes of flash are programmed. -/
  | setFlash {s off bs} (h : Evolves r s) : Evolves r (s.setFlash off bs)
  /-- Bytes of flash are erased. -/
  | dropFlash {s} {p : Host.Cell → Bool} (h : Evolves r s) : Evolves r { s with flash := s.flash.filter p }
  /-- The flash is kept from a run whose other effects are not. -/
  | takeFlash {s t} (h : Evolves r s) (ht : Evolves r t) : Evolves r { s with flash := t.flash }
  /-- OTP bits are set. -/
  | orOtp {s w n} (h : Evolves r s) : Evolves r (s.orOtp w n)
  /-- Anything else changes: no field that holds registers, memory, flash or OTP. -/
  | other {s ramEpochs ecc board subst tick free busData busError pw brd hsl icu evf tb snp ntm rf cap dec lnk tnt jrn
      flc fw sec pip lum fcr pending} (h : Evolves r s) :
      Evolves r { s with
        ramEpochs := ramEpochs, ecc := ecc, board := board, subst := subst, tick := tick, free := free,
        busData := busData, busError := busError, pw := pw, brd := brd, hsl := hsl, icu := icu, evf := evf,
        tb := tb, snp := snp, ntm := ntm, rf := rf, cap := cap, dec := dec, lnk := lnk, tnt := tnt, jrn := jrn,
        flc := flc, fw := fw, sec := sec, pip := pip, lum := lum, fcr := fcr, pending := pending }

/-- The next state that an outcome answers, if any, evolves from `r`. -/
def Leads (r : State) : Out → Prop
  | .next t => Evolves r t
  | _ => True

/-- What a command means, if it is assigned, leads on from `r`. -/
def LeadsIf (r : State) : Option Out → Prop
  | some o => Leads r o
  | none => True

/-- The state over which an instruction of a core ends. -/
def PipOut.state : PipOut → State
  | .ok s _ => s
  | .exc s _ => s
  | .stall s => s

/-- The state over which a fetch ends. -/
def Fetched.state : Fetched → State
  | .word _ s => s
  | .fault _ _ s => s
  | .stall s => s

/-- An instruction's effect, where it has one, evolves from any state that evolves from `r`. -/
def EffectEvolves (r : State) : Option (State → PipOut) → Prop
  | some f => ∀ t, Evolves r t → Evolves r (f t).state
  | none => True

section
variable {r s t : State} {α β : Type} {c : Prop} {i : Decidable c}

theorem Leads.next (h : Evolves r s) : Leads r (.next s) := h

theorem LeadsIf.of_some {m : Option Out} {o : Out} (h : LeadsIf r m) (e : m = Option.some o) : Leads r o := by
  rw [e] at h
  exact h

theorem LeadsIf.ite {o p : Option Out} (ho : LeadsIf r o) (hp : LeadsIf r p) : LeadsIf r (if c then o else p) := by
  split
  · exact ho
  · exact hp

/-! ### Branches and folds -/

theorem Evolves.ite (hs : Evolves r s) (ht : Evolves r t) : Evolves r (if c then s else t) := by
  split
  · exact hs
  · exact ht

theorem Evolves.ite_fst {p q : State × β} (hp : Evolves r p.1) (hq : Evolves r q.1) :
    Evolves r (if c then p else q).1 := by
  split
  · exact hp
  · exact hq

theorem Evolves.ite_snd {p q : β × State} (hp : Evolves r p.2) (hq : Evolves r q.2) :
    Evolves r (if c then p else q).2 := by
  split
  · exact hp
  · exact hq

theorem Evolves.ite_state {o p : PipOut} (ho : Evolves r o.state) (hp : Evolves r p.state) :
    Evolves r (if c then o else p).state := by
  split
  · exact ho
  · exact hp

theorem Evolves.pair {b : β} (h : Evolves r s) : Evolves r (b, s).2 := h

theorem Evolves.pair_fst {b : β} (h : Evolves r s) : Evolves r (s, b).1 := h

theorem Evolves.ok {next : Nat} (h : Evolves r s) : Evolves r (PipOut.ok s next).state := h

theorem Evolves.exc {e : PipExc} (h : Evolves r s) : Evolves r (PipOut.exc s e).state := h

theorem Evolves.stall (h : Evolves r s) : Evolves r (PipOut.stall s).state := h

theorem Evolves.of_snd {p : β × State} {b : β} (h : Evolves r p.2) (e : p = (b, t)) : Evolves r t := by
  rw [e] at h
  exact h

theorem Evolves.of_snd_snd {p : α × β × State} {a : α} {b : β} (h : Evolves r p.2.2) (e : p = (a, b, t)) :
    Evolves r t := by
  rw [e] at h
  exact h

theorem Evolves.of_fst {p : State × β} {b : β} (h : Evolves r p.1) (e : p = (t, b)) : Evolves r t := by
  rw [e] at h
  exact h

theorem Evolves.foldl {f : State → α → State} {l : List α} (h : Evolves r s)
    (hf : ∀ t a, Evolves r t → Evolves r (f t a)) : Evolves r (l.foldl f s) := by
  induction l generalizing s with
  | nil => exact h
  | cons a l ih => exact ih (hf s a h)

theorem Evolves.foldl_fst {f : State × β → α → State × β} {l : List α} {b : β} (h : Evolves r s)
    (hf : ∀ p a, Evolves r p.1 → Evolves r (f p a).1) : Evolves r (l.foldl f (s, b)).1 := by
  induction l generalizing s b with
  | nil => exact h
  | cons a l ih => exact ih (s := (f (s, b) a).1) (b := (f (s, b) a).2) (hf (s, b) a h)

/-- The state that a fold leaves beside its other result. The fold goes by a name `F` of its own: the kernel would
else try to run it through its whole range. -/
theorem Evolves.of_foldl {F : (State × β → α → State × β) → State × β → List α → State × β}
    (hF : @List.foldl (State × β) α = F) {f : State × β → α → State × β} {l : List α} {b b' : β}
    (e : F f (s, b) l = (t, b')) (h : Evolves r s) (hf : ∀ p a, Evolves r p.1 → Evolves r (f p a).1) : Evolves r t := by
  subst hF
  exact (h.foldl_fst hf).of_fst e

end

section
variable {r s t : State}

/-! ### Registers, memory and counters -/

theorem Evolves.setRegN (h : Evolves r s) {a n : Nat} : Evolves r (s.setRegN a n) := h.setReg

theorem Evolves.setFld (h : Evolves r s) {f : Fld} {v : Nat} : Evolves r (s.setFld f v) := h.setRegN

theorem Evolves.raise (h : Evolves r s) {f : Fld} : Evolves r (s.raise f) := h.setFld

theorem Evolves.lower (h : Evolves r s) {f : Fld} : Evolves r (s.lower f) := h.setFld

theorem Evolves.setBit (h : Evolves r s) {a i : Nat} : Evolves r (s.setBit a i) := h.setRegN

theorem Evolves.clearBit (h : Evolves r s) {a i : Nat} : Evolves r (s.clearBit a i) := h.setRegN

theorem Evolves.countBy (h : Evolves r s) {a n : Nat} : Evolves r (s.countBy a n) := h.setRegN

theorem Evolves.count (h : Evolves r s) {a : Nat} : Evolves r (s.count a) := h.countBy

theorem Evolves.satCount (h : Evolves r s) {f : Fld} : Evolves r (s.satCount f) := h.setFld

theorem Evolves.writeReg (h : Evolves r s) {a : Nat} {w : Word} : Evolves r (s.writeReg a w) := by
  unfold State.writeReg
  split
  · exact h
  · exact h.setRegN

theorem Evolves.draw (h : Evolves r s) {m : Nat} : Evolves r (s.draw m).2 := h.other.pair

theorem Evolves.setBytes (h : Evolves r s) {a : Nat} {bs : List Byte} : Evolves r (s.setBytes a bs) := by
  induction bs generalizing s a with
  | nil => exact h
  | cons b t ih => exact ih h.setByte

theorem Evolves.setMem (h : Evolves r s) {a k v : Nat} : Evolves r (s.setMem a k v) := h.setBytes

theorem Evolves.eraseFlash (h : Evolves r s) {lo hi : Nat} : Evolves r (s.eraseFlash lo hi) := h.dropFlash

/-! ### The host link -/

theorem Evolves.setChan (h : Evolves r s) {ep : Endpoint} {ch : Nat} {c : HslChan} :
    Evolves r (s.setChan ep ch c) :=
  h.other

theorem Evolves.emit (h : Evolves r s) {f : HslFrame} : Evolves r (s.emit f) := h.other.count

theorem Evolves.send (h : Evolves r s) {f : HslFrame} : Evolves r (s.send f) := .ite h.emit h.other

theorem Evolves.flushWaiting (h : Evolves r s) : Evolves r s.flushWaiting := h.other.foldl (fun _ _ h => h.emit)

theorem Evolves.dropNotice (h : Evolves r s) {code : Nat} : Evolves r (s.dropNotice code) := by
  unfold State.dropNotice
  extract_lets _
  split
  · exact h.count.raise.other
  · exact .ite h.count.raise.other h.count.raise.other

theorem Evolves.notice (h : Evolves r s) {code : Nat} {payload : List Byte} :
    Evolves r (s.notice code payload) :=
  .ite h.other h.dropNotice

theorem Evolves.answer (h : Evolves r s) {o : Origin} {code : Nat} {st : Status} {rest : List Byte} :
    Evolves r (s.answer o code st rest) :=
  h.send

theorem Evolves.respond (h : Evolves r s) {o : Origin} {code : Nat} {st : Status} {rest : List Byte} :
    Evolves r (s.respond o code st rest) :=
  (Evolves.ite h.setChan h).answer

theorem Evolves.execCommand (h : Evolves r s) {code : Nat} {g : Handler} {o : Origin} {p : List Byte}
    (hg : ∀ x1 x2 t, Evolves r t → Evolves r (g x1 x2 t).2) :
    Evolves r (execCommand code g o p s) := by
  unfold Machine.execCommand
  extract_lets _
  split
  · exact ((hg _ _ _ h.setChan).of_snd ‹_›).respond
  · exact ((hg _ _ _ h.setChan).of_snd ‹_›)

theorem Evolves.takeCommand (h : Evolves r s) {code : Nat} {g : Handler} {o : Origin} {p : List Byte}
    (hg : ∀ x1 x2 t, Evolves r t → Evolves r (g x1 x2 t).2) :
    Evolves r (takeCommand code g o p s) :=
  .ite h.answer (.ite h.answer
    (.ite h.send (.ite h.send (.ite h.answer (.ite (h.execCommand hg) (h.execCommand (fun _ _ _ h => h.pair)))))))

theorem Evolves.badForm (h : Evolves r s) {o : Origin} {code : Nat} : Evolves r (badForm o code s) :=
  h.count.raise.answer

theorem Evolves.frameIn (h : Evolves r s) {o : Option Origin} : Evolves r (s.frameIn o) := h.other.count

theorem Evolves.hostCommand (h : Evolves r s) {code : Nat} {lenOk : Nat → Bool} {g : Handler} {o : Origin}
    {p : List Byte} (hg : ∀ x1 x2 t, Evolves r t → Evolves r (g x1 x2 t).2) :
    Evolves r (hostCommand code lenOk g o p s) :=
  .ite h (.ite h.frameIn.badForm (.ite (h.frameIn.takeCommand hg) h.frameIn.badForm))

/-! ### Faults and the planes of the flash -/

theorem Evolves.captureFault (h : Evolves r s) {kind site d1 d2 d3 : Nat} {regs : List Nat} :
    Evolves r (s.captureFault kind site d1 d2 d3 regs) :=
  .ite h.other (.ite h.other.raise h.other)

theorem Evolves.flcCount (h : Evolves r s) {k n : Nat} : Evolves r (s.flcCount k n) := h.countBy

theorem Evolves.touchPlane (h : Evolves r s) {p : Nat} : Evolves r (s.touchPlane p) := by
  unfold State.touchPlane
  split
  · exact .ite h.other.flcCount h
  · split
    · exact .ite h.other.flcCount h
    · exact h

theorem Evolves.fwNotice (h : Evolves r s) {event flags : Nat} {st : Status} {slot detail actid : Nat} :
    Evolves r (s.fwNotice event flags st slot detail actid) :=
  h.notice

theorem Evolves.execFaultCommit (h : Evolves r s) : Leads r (execFaultCommit s) := by
  unfold Machine.execFaultCommit
  refine .next ?_
  split
  · exact h
  · refine .ite h ?_
    extract_lets _
    refine .ite h.other.other ?_
    split
    · exact h.other.other.raise
    · exact h.other.setFlash.setFlash.flcCount.raise

theorem Evolves.handleFcrRead (h : Evolves r s) {x : Origin} {p : List Byte} :
    Evolves r (handleFcrRead x p s).2 :=
  .ite_snd h (.ite_snd h h)

theorem Evolves.execFcrRead (h : Evolves r s) {o : Origin} {p : List Byte} : Leads r (execFcrRead o p s) :=
  .next (h.hostCommand (fun _ _ _ h => h.handleFcrRead))

/-! ### Clocks and supplies -/

theorem Evolves.demandCluster (h : Evolves r s) {n : Nat} : Evolves r (s.demandCluster n) := .ite h.other h

theorem Evolves.dma (h : Evolves r s) {a : Nat} {bs : List Byte} : Evolves r (s.dma a bs) :=
  .ite h (.ite h.setBytes (.ite h.demandCluster.other h))

theorem Evolves.setPll (h : Evolves r s) {fn fp : Fld} {n p ceiling : Nat} {row : Nat → Nat × Nat} :
    Evolves r (s.setPll fn fp n p ceiling row) :=
  .ite h.setFld.setFld h.setFld.setFld

theorem Evolves.cpuToHf (h : Evolves r s) : Evolves r s.cpuToHf := h.lower.raise

theorem Evolves.setPoints (h : Evolves r s) {mode profile : Nat} : Evolves r (s.setPoints mode profile) :=
  .ite h.setFld.setFld.raise.setFld.setFld.raise.raise.lower.raise
    h.setFld.setFld.raise.setFld.setFld.raise.cpuToHf.lower

theorem Evolves.writePllc (h : Evolves r s) {w : Word} : Evolves r (s.writePllc w) :=
  .ite h.writeReg.setPll h.writeReg.setPll.cpuToHf

theorem Evolves.writePllf (h : Evolves r s) {w : Word} : Evolves r (s.writePllf w) :=
  .ite h.raise (.ite h.writeReg.setPll h.writeReg.setPll.lower)

theorem Evolves.guarded (h : Evolves r s) {user : Bool} (ht : Evolves r t) : Leads r (guarded user s t) :=
  .next (.ite h ht)

theorem Evolves.execPllcWrite (h : Evolves r s) {user : Bool} {w : Word} : Leads r (execPllcWrite user w s) :=
  h.guarded (.ite h.writePllc h)

theorem Evolves.execPllfWrite (h : Evolves r s) {user : Bool} {w : Word} : Leads r (execPllfWrite user w s) :=
  h.guarded (.ite h.writePllf h)

theorem Evolves.execPllLock (h : Evolves r s) {c : Bool} : Leads r (execPllLock c s) :=
  .next (.ite h (.ite (.ite h.raise.lower h) (.ite h.raise h)))

theorem Evolves.execPllLockLoss (h : Evolves r s) {c : Bool} : Leads r (execPllLockLoss c s) :=
  .next (.ite (.ite h.raise.cpuToHf h) (.ite h.raise.lower h))

theorem Evolves.execSpreadApply (h : Evolves r s) : Leads r (execSpreadApply s) := .next h.other

theorem Evolves.execLpmonUpdate (h : Evolves r s) {load : Nat} : Leads r (execLpmonUpdate load s) :=
  .next (.ite (.ite h.setFld.setFld.raise h.setFld.setFld) h.lower)

theorem Evolves.execBuckCurrentLimit (h : Evolves r s) {acting : Bool} :
    Leads r (execBuckCurrentLimit acting s) :=
  .next (.ite h.raise.raise h.lower)

theorem Evolves.execXlfFail (h : Evolves r s) : Leads r (execXlfFail s) := .next h.raise.raise.lower.other

theorem Evolves.execXlfQualified (h : Evolves r s) : Leads r (execXlfQualified s) := .next (.ite h h.raise.lower)

theorem Evolves.execLfratioMeasure (h : Evolves r s) {ticks : Nat} : Leads r (execLfratioMeasure ticks s) :=
  .next (.ite h.setRegN h)

theorem Evolves.execHfrcFail (h : Evolves r s) : Leads r (execHfrcFail s) := .next h.raise.lower.other

theorem Evolves.xrefStart (h : Evolves r s) : Evolves r s.xrefStart := .ite h h.other

theorem Evolves.xrefStop (h : Evolves r s) : Evolves r s.xrefStop := h.lower.other

theorem Evolves.execXrefRetry (h : Evolves r s) : Leads r (execXrefRetry s) := .next (.ite h.xrefStart h)

/-! ### Interrupts -/

theorem Evolves.setIrq (h : Evolves r s) {k : Nat} {x : IrqSource} : Evolves r (s.setIrq k x) := h.other

theorem Evolves.setBank (h : Evolves r s) {core : Nat} {b : IrqBank} : Evolves r (s.setBank core b) := h.other

theorem Evolves.irqTime (h : Evolves r s) : Evolves r s.irqTime.2.2 := by
  unfold State.irqTime
  split
  · split
    exact (h.draw.of_snd ‹_›).pair
  · exact h

theorem Evolves.irqSetPending (h : Evolves r s) {k edge payload : Nat} :
    Evolves r (s.irqSetPending k edge payload) := by
  unfold State.irqSetPending
  extract_lets _
  refine .ite h.setIrq.count ?_
  split
  exact (h.irqTime.of_snd_snd ‹_›).setIrq

theorem Evolves.irqSample (h : Evolves r s) {k : Nat} {level : Bool} {payload : Nat} :
    Evolves r (s.irqSample k level payload) := by
  unfold State.irqSample
  extract_lets _
  refine .ite ?_ (.ite h.setIrq.irqSetPending (.ite h.setIrq.irqSetPending h.setIrq))
  refine .ite h.setIrq ?_
  refine .ite ?_ (.ite h.setIrq.setIrq h.setIrq)
  split
  exact (h.setIrq.irqTime.of_snd_snd ‹_›).setIrq

theorem Evolves.irqPulse (h : Evolves r s) {id payload : Nat} : Evolves r (s.irqPulse id payload) :=
  h.setIrq.irqSample

theorem Evolves.ringPut (h : Evolves r s) {core : Nat} {rec : List Byte} : Evolves r (s.ringPut core rec).2 :=
  .ite_snd h.setBytes.setFld.setRegN.pair h.raise.setBank.pair

theorem Evolves.irqPresent (h : Evolves r s) {core : Nat} : Evolves r (s.irqPresent core) := by
  unfold State.irqPresent
  split
  · exact h
  · refine .ite h.raise.count ?_
    extract_lets _
    split
    · exact (h.ringPut.of_snd ‹_›)
    · exact (h.ringPut.of_snd ‹_›).setIrq.setBank.count

theorem Evolves.irqEoi (h : Evolves r s) {core id : Nat} : Evolves r (s.irqEoi core id) := by
  unfold State.irqEoi
  extract_lets _
  split
  · exact .ite (.ite h.setIrq.setBank.irqSample h.setIrq.setBank) h.raise.setBank
  · exact h.raise

theorem Evolves.sentinelFlags (h : Evolves r s) {level : Bool} : Evolves r (s.sentinelFlags level) := by
  unfold State.sentinelFlags
  extract_lets _
  refine .ite h.setIrq ?_
  refine .ite ?_ h
  split
  exact (h.irqTime.of_snd_snd ‹_›).setIrq.ringPut

theorem Evolves.execInterruptSource (h : Evolves r s) {core id : Nat} {level : Bool} :
    Leads r (execInterruptSource core id level s) :=
  .next (.ite h (.ite (.ite h.sentinelFlags h) (.ite h (.ite h (.ite h h.irqSample)))))

theorem Evolves.execPresentation (h : Evolves r s) {core : Nat} : Leads r (execPresentation core s) :=
  .next (.ite h.irqPresent h)

theorem Evolves.execEoi (h : Evolves r s) {user : Bool} {core : Nat} {w : Word} :
    Leads r (execEoi user core w s) :=
  h.guarded (.ite h.irqEoi h)

theorem Evolves.execDoorbell (h : Evolves r s) {user : Bool} {core writer : Nat} {w : Word} :
    Leads r (execDoorbell user core writer w s) :=
  h.guarded (.ite h.irqSetPending h)

theorem Evolves.execSwset (h : Evolves r s) {user : Bool} {w : Word} : Leads r (execSwset user w s) :=
  h.guarded (.ite h.irqSetPending h)

theorem Evolves.execSwclr (h : Evolves r s) {user : Bool} {w : Word} : Leads r (execSwclr user w s) :=
  h.guarded (.ite h.setIrq h)

theorem Evolves.execIcuRingRead (h : Evolves r s) {user : Bool} {core : Nat} {w : Word} :
    Leads r (execIcuRingRead user core w s) :=
  h.guarded (.ite h.writeReg h)

theorem Evolves.execIcuRingConfig (h : Evolves r s) {core : Nat} : Leads r (execIcuRingConfig core s) :=
  .next (.ite h.setBank.setFld.setFld h)

theorem Evolves.writeRingbase (h : Evolves r s) {core : Nat} {w : Word} : Evolves r (s.writeRingbase core w) :=
  .ite h.writeReg.setBank h

theorem Evolves.writeRingcfg (h : Evolves r s) {core : Nat} {w : Word} : Evolves r (s.writeRingcfg core w) :=
  h.writeReg.setBank

theorem Evolves.icuCoreReset (h : Evolves r s) {core : Nat} : Evolves r (s.icuCoreReset core) :=
  (h.dropRegs.foldl (fun _ _ h => h.setIrq)).setBank

theorem Evolves.writeShen (h : Evolves r s) {i : Nat} {w : Word} : Evolves r (s.writeShen i w) :=
  h.writeReg.foldl (fun _ _ h => h.setRegN)

/-! ### The event fabric -/

theorem Evolves.setEvf (h : Evolves r s) {e : EvfState} : Evolves r (s.setEvf e) := h.other

theorem Evolves.setEvInput (h : Evolves r s) {i : Nat} {x : EvInput} : Evolves r (s.setEvInput i x) := h.setEvf

theorem Evolves.holdEdge (h : Evolves r s) {det : Nat} {g : HeldEdge} : Evolves r (s.holdEdge det g) := by
  unfold State.holdEdge
  split
  · exact h.other
  · exact h.other

theorem Evolves.evLatchIn (h : Evolves r s) {i ref : Nat} {t : EvLatch} : Evolves r (s.evLatchIn i ref t) := by
  unfold State.evLatchIn
  extract_lets _
  refine .ite h ?_
  split
  · exact h.setEvInput
  · exact h.setEvInput
  · exact .ite h.count.raise h.count.raise

theorem Evolves.evConsumers (h : Evolves r s) {ref : Nat} {rising : Bool} {t : EvLatch} :
    Evolves r (s.evConsumers ref rising t) := by
  unfold State.evConsumers
  refine h.foldl fun _ _ h1 => ?_
  split
  exact .ite (.ite h1.holdEdge h1.evLatchIn) h1

theorem Evolves.aonSet (h : Evolves r s) {w : EvWave} {a : Nat} {lv : Bool} : Evolves r (s.aonSet w a lv).1 :=
  .ite_fst h ((Evolves.ite h.setEvf (((Evolves.ite h.setEvf.count h.setEvf).evConsumers).irqSample)).pair_fst)

theorem Evolves.aonUpdate (h : Evolves r s) {w : EvWave} {pick : Nat → Bool} :
    Evolves r (s.aonUpdate w pick).1 := by
  unfold State.aonUpdate
  refine h.foldl_fst fun _ _ h1 => ?_
  split
  refine .ite_fst ?_ h1
  split
  exact (h1.aonSet.of_fst ‹_›).pair_fst

theorem Evolves.cellDrive (h : Evolves r s) {k : Nat} {lv settle : Bool} :
    Evolves r (s.cellDrive k lv settle).1 :=
  .ite_fst h.setEvf.setEvf.pair_fst h.setEvf.pair_fst

theorem Evolves.cellSees (h : Evolves r s) {w : EvWave} {k m : Nat} {rising : Bool} :
    Evolves r (s.cellSees w k m rising).1 := by
  unfold State.cellSees
  extract_lets _
  refine .ite_fst h ?_
  refine .ite_fst h.cellDrive ?_
  refine .ite_fst ?_ h
  refine .ite_fst h.cellDrive ?_
  split
  exact (h.draw.of_snd ‹_›).cellDrive

theorem Evolves.outSet (h : Evolves r s) {w : EvWave} {m : Nat} {lv : Bool} : Evolves r (s.outSet w m lv).1 := by
  unfold State.outSet
  generalize hF : @List.foldl (State × EvWork) Nat = F
  refine .ite_fst h ?_
  extract_lets _ _ s1 s2 s5
  have h1 : Evolves r s1 := .ite h.setEvf ((Evolves.ite h.setEvf.count h.setEvf).evConsumers)
  have h2 : Evolves r s2 := .ite h1 (h1.foldl (fun _ _ h => .ite h.irqSample h))
  have h5 : Evolves r s5 := by
    unfold s5
    refine .ite ?_ h2
    refine h2.foldl fun _ _ h3 => ?_
    extract_lets _ _ s4
    have h4 : Evolves r s4 := .ite h3.setEvf h3
    exact .ite h4.setEvf h4
  split
  rename_i s6 k6 e6
  have h6 : Evolves r s6 := by
    refine .of_foldl hF e6 h5 fun _ _ h7 => ?_
    split
    refine .ite_fst ?_ h7
    split
    exact (h7.cellSees.of_fst ‹_›).pair_fst
  exact h6

theorem Evolves.mainSet (h : Evolves r s) {w : EvWave} {m : Nat} {lv : Bool} : Evolves r (s.mainSet w m lv).1 :=
  .ite_fst h (.ite_fst h.setEvf.outSet h.setEvf.count.pair_fst)

theorem Evolves.evChange (h : Evolves r s) {w : EvWave} {code : Nat} {lv : Bool} :
    Evolves r (s.evChange w code lv).1 := by
  unfold State.evChange
  generalize hF : @List.foldl (State × EvWork) Nat = F
  split
  rename_i s1 k1 e1
  have h1 : Evolves r s1 := by
    refine .of_foldl hF e1 h fun _ _ h2 => ?_
    split
    extract_lets _
    refine .ite_fst ?_ h2
    split
    exact (h2.mainSet.of_fst ‹_›).pair_fst
  split
  exact (h1.aonUpdate.of_fst ‹_›).pair_fst

theorem Evolves.evRun (h : Evolves r s) {fuel : Nat} {w : EvWave} {work : EvWork} : Evolves r (evRun fuel w work s) :=
  by
  induction fuel generalizing s work with
  | zero => exact h
  | succ fuel ih =>
    rcases work with _ | ⟨⟨code, lv⟩, rest⟩
    · exact h
    · rw [Machine.evRun]
      split
      exact ih (h.evChange.of_fst ‹_›)

theorem Evolves.evSettle (h : Evolves r s) {w : EvWave} : Evolves r (s.evSettle w) := by
  unfold State.evSettle
  generalize hF : @List.foldl (State × EvWork) Nat = F
  split
  rename_i s1 k1 e1
  have h1 : Evolves r s1 := by
    refine .of_foldl hF e1 h fun _ _ h2 => ?_
    split
    refine .ite_fst ?_ h2
    split
    exact (h2.cellDrive.of_fst ‹_›).pair_fst
  exact h1.evRun

theorem Evolves.evLevelAt (h : Evolves r s) {code : Nat} {lv : Bool} {t : EvLatch} :
    Evolves r (s.evLevelAt code lv t) :=
  h.evRun.evSettle

theorem Evolves.evPulseAt (h : Evolves r s) {code : Nat} {t : EvLatch} : Evolves r (s.evPulseAt code t) :=
  h.evRun.evRun.evSettle

theorem Evolves.evPulse (h : Evolves r s) {code : Nat} : Evolves r (s.evPulse code) := .ite h.holdEdge h.evPulseAt

theorem Evolves.evLevel (h : Evolves r s) {code : Nat} {lv : Bool} : Evolves r (s.evLevel code lv) :=
  .ite h (.ite h.setEvf.holdEdge h.setEvf.evLevelAt)

/-- The events that a pass over the channels leaves run to their end. -/
theorem Evolves.runFold (h : Evolves r s) (f : State × EvWork → Nat → State × EvWork) (w : EvWave) (k : EvWork)
    (l : List Nat) (hf : ∀ p m, Evolves r p.1 → Evolves r (f p m).1) :
    Evolves r (match l.foldl f (s, k) with | (s, k) => (Machine.evRun evFuel w k s).evSettle w) := by
  split
  exact ((h.foldl_fst hf).of_fst ‹_›).evRun.evSettle

theorem Evolves.runFolds (h : Evolves r s) (f g : State × EvWork → Nat → State × EvWork) (w : EvWave) (k : EvWork)
    (l l' : List Nat) (hf : ∀ p m, Evolves r p.1 → Evolves r (f p m).1)
    (hg : ∀ p m, Evolves r p.1 → Evolves r (g p m).1) :
    Evolves r (match l.foldl f (s, k) with
      | (s, k) => match l'.foldl g (s, k) with
        | (s, k) => (Machine.evRun evFuel w k s).evSettle w) := by
  split
  exact ((h.foldl_fst hf).of_fst ‹_›).runFold g w _ l' hg

/- In the three proofs below the range of the pass goes by a name: the kernel would else run the pass. -/

theorem Evolves.setGroup (h : Evolves r s) {g : Nat} {lv : Bool} : Evolves r (s.setGroup g lv) := by
  unfold State.setGroup
  generalize List.range 256 = l
  refine .ite h (h.setEvf.runFold _ _ _ _ fun _ _ h1 => ?_)
  exact .ite_fst h1.outSet.pair_fst h1

theorem Evolves.settleGroup (h : Evolves r s) {g : Nat} : Evolves r (s.settleGroup g) := by
  unfold State.settleGroup
  extract_lets _ _ _ _ s1
  have h1 : Evolves r s1 := .ite h.setEvf.count.raise h.setEvf
  exact .ite h1.setGroup (.ite h1.setGroup h1)

theorem Evolves.writeGroups (h : Evolves r s) {open_ : Bool} {w : Word} : Evolves r (s.writeGroups open_ w) :=
  h.foldl (fun _ _ h => .ite ((Evolves.ite h.setEvf h.setEvf).settleGroup) h)

theorem Evolves.initGroups (h : Evolves r s) : Evolves r s.initGroups := h.setEvf

theorem Evolves.evRestart (h : Evolves r s) : Evolves r s.evRestart := by
  unfold State.evRestart
  generalize hF : @List.foldl (State × EvWork) Nat = F
  extract_lets _
  split
  rename_i s1 k1 e1
  have h1 : Evolves r s1 := by
    refine .of_foldl hF e1 (h.setEvf.initGroups.foldl (fun _ _ h => .ite h.cellDrive h)) fun _ _ h2 => ?_
    split
    extract_lets _
    refine .ite_fst ?_ h2
    split
    exact (h2.mainSet.of_fst ‹_›).pair_fst
  split
  exact (h1.aonUpdate.of_fst ‹_›).evRun.evSettle

theorem Evolves.evSwap (h : Evolves r s) : Evolves r s.evSwap := by
  unfold State.evSwap
  generalize List.range 256 = l
  generalize List.range 32 = l'
  refine h.setEvf.initGroups.runFolds _ _ _ _ _ _ (fun _ _ h1 => ?_) fun _ _ h1 => ?_
  · exact .ite_fst h1.cellDrive.pair_fst h1
  · split
    extract_lets _
    split
    split
    exact ((h1.mainSet.of_fst ‹_›).outSet.of_fst ‹_›).pair_fst

theorem Evolves.evQuiet (h : Evolves r s) {code : Nat} : Evolves r (s.evQuiet code) := h.evRun.evSettle

theorem Evolves.evRefresh (h : Evolves r s) : Evolves r s.evRefresh := by
  unfold State.evRefresh
  generalize List.range 256 = l
  exact h.runFold _ _ _ _ fun _ _ h1 => h1.mainSet.pair_fst

theorem Evolves.aonRestart (h : Evolves r s) : Evolves r s.aonRestart := by
  unfold State.aonRestart
  extract_lets _
  split
  exact (h.aonUpdate.of_fst ‹_›).evRun.evSettle

theorem Evolves.fireLost (h : Evolves r s) : Evolves r s.fireLost := h.count.raise

theorem Evolves.fireMain (h : Evolves r s) {chs : List Nat} : Evolves r (s.fireMain chs) := by
  unfold State.fireMain
  generalize hF : @List.foldl (State × EvWork) Nat = F
  extract_lets ok s1 w edge
  have h1 : Evolves r s1 := h.foldl fun _ _ h => h.fireLost
  have he : ∀ {t lv}, Evolves r t → Evolves r (edge t lv) := by
    intro t lv ht
    unfold edge
    split
    rename_i s2 k2 e2
    have h2 : Evolves r s2 := by
      refine .of_foldl hF e2 ht fun _ _ h3 => ?_
      split
      split
      exact (h3.mainSet.of_fst ‹_›).pair_fst
    exact h2.evRun
  exact (he (he h1)).evSettle

theorem Evolves.fireAon (h : Evolves r s) {a : Nat} : Evolves r (s.fireAon a) := by
  unfold State.fireAon
  refine .ite ((Evolves.ite h.count h).raise) ?_
  extract_lets _
  split
  extract_lets _
  split
  exact ((h.aonSet.of_fst ‹_›).evRun.aonSet.of_fst ‹_›).evRun.evSettle

theorem Evolves.execFire (h : Evolves r s) {user : Bool} {w : Word} : Leads r (execFire user w s) :=
  h.guarded (.ite h.fireMain h)

theorem Evolves.execFirem (h : Evolves r s) {user : Bool} {j : Nat} {w : Word} :
    Leads r (execFirem user j w s) :=
  h.guarded (.ite h.fireMain h)

theorem Evolves.execAonfire (h : Evolves r s) {user : Bool} {w : Word} : Leads r (execAonfire user w s) :=
  h.guarded (.ite h.fireAon h)

theorem Evolves.execGrpset (h : Evolves r s) {user : Bool} {w : Word} : Leads r (execGrpset user w s) :=
  h.guarded (.ite h.writeGroups h)

theorem Evolves.execGrpclr (h : Evolves r s) {user : Bool} {w : Word} : Leads r (execGrpclr user w s) :=
  h.guarded (.ite h.writeGroups h)

theorem Evolves.execGroupEdge (h : Evolves r s) {g : Nat} : Leads r (execGroupEdge g s) :=
  .next (.ite h.settleGroup h)

theorem Evolves.padFollow (h : Evolves r s) {n : Nat} : Evolves r (s.padFollow n) := by
  unfold State.padFollow
  split
  · exact h.evLevel
  · exact h

theorem Evolves.padsFollow (h : Evolves r s) {first count : Nat} : Evolves r (s.padsFollow first count) :=
  h.foldl (fun _ _ h => h.padFollow)

theorem Evolves.execEventEdge (h : Evolves r s) {code : Nat} {level : Bool} :
    Leads r (execEventEdge code level s) :=
  .next (.ite h.evLevel h)

/-! ### The timebase -/

theorem Evolves.setTb (h : Evolves r s) {t : TimeBase} : Evolves r (s.setTb t) := h.other

theorem Evolves.setPair (h : Evolves r s) {lo hi n : Nat} : Evolves r (s.setPair lo hi n) := h.setRegN.setRegN

theorem Evolves.execTmbCapture (h : Evolves r s) {user : Bool} {w : Word} : Leads r (execTmbCapture user w s) :=
  h.guarded (.ite h.setPair h)

theorem Evolves.setCmp (h : Evolves r s) {n v : Nat} : Evolves r (s.setCmp n v) := h.setPair

theorem Evolves.cmpFlag (h : Evolves r s) {n : Nat} : Evolves r (s.cmpFlag n) := (Evolves.ite h.raise h).setBit

theorem Evolves.holdMatch (h : Evolves r s) {n : Nat} : Evolves r (s.holdMatch n) := h.other

theorem Evolves.matchCmp (h : Evolves r s) {n : Nat} : Evolves r (s.matchCmp n) := by
  unfold State.matchCmp
  extract_lets _ _ _ _ _ _ _ _ s1
  have h1 : Evolves r s1 := .ite h.evPulse.cmpFlag.count.count h.evPulse.cmpFlag.count
  exact .ite (Evolves.ite h.setCmp h.lower).holdMatch
    (.ite h1.countBy.setFld.setFld.setCmp h1.countBy.setFld.setFld.lower)

theorem Evolves.deliverMatch (h : Evolves r s) {n : Nat} {past : Bool} : Evolves r (s.deliverMatch n past) :=
  .ite h.evPulse.cmpFlag.count.count.raise.setFld.raise h.evPulse.cmpFlag.count.count.raise.setFld

theorem Evolves.execCompareMatch (h : Evolves r s) {n : Nat} : Leads r (execCompareMatch n s) :=
  .next (.ite h.matchCmp h)

theorem Evolves.execStagger (h : Evolves r s) {user : Bool} {w : Word} : Leads r (execStagger user w s) :=
  h.guarded (.ite (h.foldl (fun _ _ h => h.setCmp.setRegN.setRegN)) h)

theorem Evolves.writeCmpflag (h : Evolves r s) {j : Nat} {w : Word} : Evolves r (s.writeCmpflag j w) :=
  h.writeReg.foldl (fun _ _ h => .ite h.lower h)

theorem Evolves.writeCmplo (h : Evolves r s) {n : Nat} {w : Word} : Evolves r (s.writeCmplo n w) := h.setTb

theorem Evolves.writeCmphi (h : Evolves r s) {n : Nat} {w : Word} : Evolves r (s.writeCmphi n w) := h.setPair.setTb

theorem Evolves.execCmphiWrite (h : Evolves r s) {user : Bool} {n : Nat} {w : Word} :
    Leads r (execCmphiWrite user n w s) :=
  h.guarded (.ite h.writeCmphi h)

theorem Evolves.answerRead (h : Evolves r s) {w : Word} : Evolves r (s.answerRead w) := h.other

theorem Evolves.readError (h : Evolves r s) : Evolves r s.readError := h.other

theorem Evolves.execCmploRead (h : Evolves r s) {n : Nat} : Leads r (execCmploRead n s) :=
  .next (.ite h.setTb.answerRead h.readError)

theorem Evolves.readCmphi (h : Evolves r s) {n : Nat} : Evolves r (s.readCmphi n).2 := by
  unfold State.readCmphi
  split
  · exact h.setTb.pair
  · exact h

theorem Evolves.capture (h : Evolves r s) {c : Nat} {t : EvLatch} : Evolves r (s.capture c t) :=
  (Evolves.ite h.count.raise.count h.count).setTb.raise.setFld.setBit

theorem Evolves.execCapstatRead (h : Evolves r s) {c : Nat} : Leads r (execCapstatRead c s) :=
  .next (.ite h.setPair.lower.lower.answerRead h.readError)

theorem Evolves.setPm (h : Evolves r s) {n : Nat} {u : PmUnit} : Evolves r (s.setPm n u) := h.setTb

theorem Evolves.pmClose (h : Evolves r s) {n : Nat} {u : PmUnit} {start stop : Nat} {lf subres : Bool} :
    Evolves r (s.pmClose n u start stop lf subres) :=
  (Evolves.ite h.raise h.raise).setPm.setFld.setFld.setFld.setFld.setFld.lower.setBit.count.evPulse

theorem Evolves.pmEvents (h : Evolves r s) {n : Nat} {start stop : Option EvLatch} :
    Evolves r (s.pmEvents n start stop) := by
  unfold State.pmEvents
  extract_lets u
  split
  rename_i s1 used e1
  have h1 : Evolves r s1 := by
    split at e1 <;> obtain ⟨rfl, -⟩ := Prod.mk.inj e1
    · exact h.pmClose
    · exact h
  extract_lets u'
  split
  rename_i s2 opened e2
  have h2 : Evolves r s2 := by
    split at e2
    · obtain ⟨rfl, -⟩ := Prod.mk.inj e2
      exact h1
    · split at e2 <;> obtain ⟨rfl, -⟩ := Prod.mk.inj e2
      · exact h1.setPm.count
      · exact h1.setPm.raise
  split
  · exact h2
  · exact .ite h2 (.ite h2.pmClose h2.count)

theorem Evolves.execPmstatRead (h : Evolves r s) {n : Nat} : Leads r (execPmstatRead n s) :=
  .next (.ite h.setRegN.setRegN.lower.lower.answerRead h.readError)

theorem Evolves.pmDisable (h : Evolves r s) {n : Nat} : Evolves r (s.pmDisable n) := h.setPm.lower.lower

theorem Evolves.execPmctlDisable (h : Evolves r s) {user : Bool} {n : Nat} :
    Leads r (execPmctlDisable user n s) :=
  h.guarded (.ite h.pmDisable h)

theorem Evolves.snapFreeze (h : Evolves r s) : Evolves r s.snapFreeze := .ite h.other h

theorem Evolves.snapshot (h : Evolves r s) {t : Nat} : Evolves r (s.snapshot t).2 :=
  .ite_snd h (.ite_snd h.count.raise.pair h.other.raise.setFld.pair)

theorem Evolves.execSnapshotTake (h : Evolves r s) {user : Bool} {w : Word} :
    Leads r (execSnapshotTake user w s) :=
  h.guarded (.ite h.snapshot h)

theorem Evolves.snapAnswer (h : Evolves r s) {bank flags first count : Nat} :
    Evolves r (s.snapAnswer bank flags first count).2 :=
  (Evolves.ite h.setFld (.ite h.setFld h)).pair

theorem Evolves.execSnapshotFillDone (h : Evolves r s) : Leads r (execSnapshotFillDone s) := by
  unfold Machine.execSnapshotFillDone
  refine .next ?_
  refine .ite ?_ h
  extract_lets _
  refine h.lower.raise.other.foldl fun _ _ h1 => ?_
  split
  split
  exact (h1.snapAnswer.of_snd ‹_›).respond

theorem Evolves.handleSnapRead (h : Evolves r s) {o : Origin} {p : List Byte} :
    Evolves r (handleSnapRead o p s).2 := by
  unfold Machine.handleSnapRead
  extract_lets _
  refine .ite_snd h ?_
  split
  · split
    have h3 := h.snapshot.of_snd ‹_›
    refine .ite_snd ?_ h3.pair
    refine .ite_snd h3.other.pair ?_
    split
    exact (h3.snapAnswer.of_snd ‹_›).pair
  · refine .ite_snd h ?_
    split
    exact (h.snapAnswer.of_snd ‹_›).pair

theorem Evolves.execSnapRead (h : Evolves r s) {o : Origin} {p : List Byte} : Leads r (execSnapRead o p s) :=
  .next (h.hostCommand (fun _ _ _ h => h.handleSnapRead))

theorem Evolves.evTake (h : Evolves r s) {i : Nat} : Evolves r (s.evTake i).2 := h.setEvInput.pair

theorem Evolves.evAccept (h : Evolves r s) {i : Nat} : Evolves r (s.evAccept i) := by
  unfold State.evAccept
  split
  · split
    · exact (h.evTake.of_snd ‹_›).capture
    · exact (h.evTake.of_snd ‹_›)
  · split
    · extract_lets _
      split
      have h6 := (Evolves.ite_snd h.evTake h).of_snd ‹_›
      split
      have h5 := (Evolves.ite_snd h6.evTake h6.pair).of_snd ‹_›
      exact .ite h5.pmEvents h5
    · split
      · exact (h.evTake.of_snd ‹_›).snapshot
      · exact (h.evTake.of_snd ‹_›)

theorem Evolves.execConsumerAccept (h : Evolves r s) {input : Nat} : Leads r (execConsumerAccept input s) :=
  .next (.ite h.evAccept h)

theorem Evolves.execTmbStop (h : Evolves r s) : Leads r (execTmbStop s) := .next (.ite h.setTb h)

theorem Evolves.execTmbResume (h : Evolves r s) : Leads r (execTmbResume s) := .next (.ite h.setTb.lower h)

/-! ### Network time -/

theorem Evolves.setNtm (h : Evolves r s) {n : NtmState} : Evolves r (s.setNtm n) := h.other

theorem Evolves.ntmTick (h : Evolves r s) : Evolves r s.ntmTick := h.setNtm

theorem Evolves.ntmAdd (h : Evolves r s) {ticks16 : Nat} : Evolves r (s.ntmAdd ticks16) := h.setNtm

theorem Evolves.fireSlot (h : Evolves r s) : Evolves r s.fireSlot := h.evPulse

theorem Evolves.fireRound (h : Evolves r s) : Evolves r s.fireRound :=
  .ite h.evPulse.fireSlot.raise.irqPulse.other.snapshot h.evPulse.fireSlot.raise.irqPulse.other

theorem Evolves.setRound (h : Evolves r s) {r' slot : Nat} : Evolves r (s.setRound r' slot) := h.setPair.setNtm

theorem Evolves.roundsAfterChange (h : Evolves r s) : Evolves r s.roundsAfterChange :=
  .ite h.setRound.countBy.fireRound (.ite h.setRound.setNtm.fireRound (.ite h.setNtm.fireSlot h))

theorem Evolves.execSlotBoundary (h : Evolves r s) : Leads r (execSlotBoundary s) :=
  .next (.ite h.setNtm.fireSlot h)

theorem Evolves.timeState (h : Evolves r s) : Evolves r s.timeState := h.notice

theorem Evolves.refreshStratum (h : Evolves r s) : Evolves r s.refreshStratum := by
  unfold State.refreshStratum
  split
  · exact h.setFld
  · exact .ite h.setFld h
  · exact h

theorem Evolves.refreshSource (h : Evolves r s) : Evolves r s.refreshSource :=
  .ite h.refreshStratum h.refreshStratum.setFld.setNtm.timeState

theorem Evolves.execRoundBoundary (h : Evolves r s) : Leads r (execRoundBoundary s) :=
  .next (.ite h.setRound.setNtm.fireRound.refreshSource h)

theorem Evolves.startSlew (h : Evolves r s) {k : SlewKind} {amount : Int} : Evolves r (s.startSlew k amount) :=
  h.setNtm

theorem Evolves.applySet (h : Evolves r s) {t : Nat} : Evolves r (s.applySet t) :=
  h.setNtm.raise.count.raise.roundsAfterChange.refreshSource.timeState

theorem Evolves.applyChange (h : Evolves r s) {c : NtmChange} : Evolves r (s.applyChange c) := by
  unfold State.applyChange
  split
  · exact h.applySet
  · exact h.applySet
  · exact h.startSlew

theorem Evolves.cancelWaitHost (h : Evolves r s) :
    Evolves r (match s.ntm.waitHost with
      | some o => (s.setNtm { s.ntm with waitHost := none }).respond o 0x71 .cancelled []
      | none => s) := by
  split
  · exact h.setNtm.respond
  · exact h

theorem Evolves.change (h : Evolves r s) {c : NtmChange} {host : Option Origin} : Evolves r (s.change c host).2 := by
  unfold State.change
  have hw := h.cancelWaitHost
  cases c with
  | slew k u => exact .ite_snd h.setNtm.pair h.setNtm.applyChange.pair
  | set ns => exact .ite_snd hw.setNtm.lower.setNtm.raise.pair hw.setNtm.lower.applyChange.pair
  | step ns => exact .ite_snd hw.setNtm.lower.setNtm.raise.pair hw.setNtm.lower.applyChange.pair

theorem Evolves.execDeferredAdjust (h : Evolves r s) : Leads r (execDeferredAdjust s) := by
  unfold Machine.execDeferredAdjust
  refine .next ?_
  extract_lets _ s3 host
  have h3 : Evolves r s3 := by
    unfold s3
    split
    · exact .ite h h.setNtm.applyChange
    · exact h
  split
  · refine .ite h3 ?_
    extract_lets _
    clear_value host
    split
    · exact h3.setNtm.lower.applyChange.respond
    · exact h3.setNtm.lower.applyChange
  · exact h3

theorem Evolves.execSlewEnd (h : Evolves r s) : Leads r (execSlewEnd s) := .next (.ite h.setNtm h)

theorem Evolves.ntmCapture (h : Evolves r s) : Evolves r s.ntmCapture := h.setPair.setRegN.setPair

theorem Evolves.cmdErr (h : Evolves r s) : Evolves r s.cmdErr := h.raise

theorem Evolves.writeNtmCmd (h : Evolves r s) {n : Nat} : Evolves r (s.writeNtmCmd n) := by
  unfold State.writeNtmCmd
  extract_lets _ _ _ s1 _ s2 s3 s4
  have h1 : Evolves r s1 := .ite h.setNtm h
  have h2 : Evolves r s2 := .ite h1.change h1
  have h3 : Evolves r s3 := .ite h2.change h2
  have h4 : Evolves r s4 := .ite h.cmdErr (.ite h3.change h3)
  exact .ite h4.ntmCapture h4

theorem Evolves.execNtmAbort (h : Evolves r s) {user : Bool} {w : Word} : Leads r (execNtmAbort user w s) :=
  h.guarded (.ite h.writeNtmCmd h)

theorem Evolves.execNtmSet (h : Evolves r s) {user : Bool} {w : Word} : Leads r (execNtmSet user w s) :=
  h.guarded (.ite h.writeNtmCmd h)

theorem Evolves.execNtmStep (h : Evolves r s) {user : Bool} {w : Word} : Leads r (execNtmStep user w s) :=
  h.guarded (.ite h.writeNtmCmd h)

theorem Evolves.execNtmSlew (h : Evolves r s) {user : Bool} {w : Word} : Leads r (execNtmSlew user w s) :=
  h.guarded (.ite h.writeNtmCmd h)

theorem Evolves.execNtmCapture (h : Evolves r s) {user : Bool} {w : Word} : Leads r (execNtmCapture user w s) :=
  h.guarded (.ite h.writeNtmCmd h)

theorem Evolves.setInc (h : Evolves r s) {inc : Nat} : Evolves r (s.setInc inc) := h.setNtm.setRegN.setRegN

theorem Evolves.writeIncint (h : Evolves r s) {w : Word} : Evolves r (s.writeIncint w) :=
  .ite h.cmdErr (.ite h.setInc h)

theorem Evolves.execIncintWrite (h : Evolves r s) {user : Bool} {w : Word} :
    Leads r (execIncintWrite user w s) :=
  h.guarded (.ite h.writeIncint h)

theorem Evolves.trimInc (h : Evolves r s) {num den : Int} {lim : Option Nat} :
    Evolves r (s.trimInc num den lim) :=
  h.setInc

theorem Evolves.meshSample (h : Evolves r s) {rx ie stratum : Nat} : Evolves r (s.meshSample rx ie stratum) := by
  unfold State.meshSample
  extract_lets _ _ _ _ _ _ _ prev
  refine .ite h ?_
  refine .ite h.setRegN.raise.count ?_
  refine .ite h.setRegN.setNtm.refreshSource.setNtm.count.setFld.change ?_
  clear_value prev
  split
  · exact .ite h.setRegN.setNtm.refreshSource.setNtm.count.setFld.change.trimInc
      h.setRegN.setNtm.refreshSource.setNtm.count.setFld.change
  · exact h.setRegN.setNtm.refreshSource.setNtm.count.setFld.change

theorem Evolves.execSyncEdge (h : Evolves r s) {rising : Bool} : Leads r (execSyncEdge rising s) := by
  unfold Machine.execSyncEdge
  refine .next ?_
  extract_lets _
  refine .ite ?_ h
  split
  · exact h.setNtm
  · exact h.setNtm.count

theorem Evolves.setSync (h : Evolves r s) {st : Nat} : Evolves r (s.setSync st) := by
  unfold State.setSync
  extract_lets _ _ s1
  have h1 : Evolves r s1 := .ite h.setFld.raise.raise h.setFld
  exact .ite h (Evolves.ite h1.raise h1).setNtm.timeState.refreshSource

theorem Evolves.syncAcquire (h : Evolves r s) {e : Option Int} {learn : Bool} :
    Evolves r (s.syncAcquire e learn) := by
  unfold State.syncAcquire
  split
  · exact h.setNtm
  · exact .ite ((Evolves.ite h.setNtm.setRegN h.setNtm).setSync) h.setNtm

theorem Evolves.syncUse (h : Evolves r s) {e : Int} : Evolves r (s.syncUse e) := by
  unfold State.syncUse
  extract_lets _ _ _ _ s1 d s4 _ _ s5
  have h1 : Evolves r s1 := .ite h.lower h
  have h4 : Evolves r s4 := by
    unfold s4
    clear_value d
    split
    · exact .ite h1.raise.raise h1
    · exact h1
  have h5 : Evolves r s5 := .ite h4.setNtm.change h4.setNtm
  clear_value d
  split
  · exact .ite h5.trimInc h5
  · exact h5

theorem Evolves.execSyncRound (h : Evolves r s) : Leads r (execSyncRound s) := by
  unfold Machine.execSyncRound
  refine .next ?_
  extract_lets st _ _ best inWin _ _ s4
  have h4 : Evolves r s4 := by
    unfold s4
    clear_value inWin
    clear_value best
    split
    · exact h.setNtm.count.evPulse
    · exact h.setNtm.count.count
    · exact h.setNtm.count
  refine .ite h ?_
  clear_value st
  split
  · exact h4.setRegN.syncAcquire
  · clear_value inWin
    split
    · exact h4.setRegN.syncUse
    · exact .ite h4.setRegN.setNtm.setSync h4.setRegN.setNtm
  · clear_value inWin
    split
    · exact h4.setRegN.setSync
    · exact .ite h4.setRegN.syncAcquire h4.setRegN

theorem Evolves.syncEnable (h : Evolves r s) : Evolves r s.syncEnable := .ite (.ite h.setSync h) h.setSync

theorem Evolves.writeSynccfg (h : Evolves r s) {w : Word} : Evolves r (s.writeSynccfg w) := h.writeReg.syncEnable

theorem Evolves.writeNtmCfg (h : Evolves r s) {w : Word} : Evolves r (s.writeNtmCfg w) :=
  (Evolves.ite h.writeReg h.writeReg.setNtm).refreshSource

theorem Evolves.ntmMakeup (h : Evolves r s) {ticks16 : Nat} : Evolves r (s.ntmMakeup ticks16) :=
  .ite h.ntmAdd.roundsAfterChange.setSync h.ntmAdd.roundsAfterChange

theorem Evolves.handleTimeGet (h : Evolves r s) {x : Origin} {x' : List Byte} :
    Evolves r (handleTimeGet x x' s).2 :=
  h.ntmCapture.pair

theorem Evolves.execTimeGet (h : Evolves r s) {o : Origin} {p : List Byte} : Leads r (execTimeGet o p s) :=
  .next (h.hostCommand (fun _ _ _ h => h.handleTimeGet))

theorem Evolves.handleTimeSet (h : Evolves r s) {o : Origin} {p : List Byte} :
    Evolves r (handleTimeSet o p s).2 := by
  unfold Machine.handleTimeSet
  refine .ite_snd h ?_
  split
  · exact (h.change.of_snd ‹_›).pair
  · exact (h.change.of_snd ‹_›).pair

theorem Evolves.execTimeSet (h : Evolves r s) {o : Origin} {p : List Byte} : Leads r (execTimeSet o p s) :=
  .next (h.hostCommand (fun _ _ _ h => h.handleTimeSet))

/-! ### The receive chain -/

theorem Evolves.setChain (h : Evolves r s) {c : Chain} {x : ChainState} : Evolves r (s.setChain c x) := by
  unfold State.setChain
  split
  · exact h.other
  · exact h.other

theorem Evolves.setStore (h : Evolves r s) {c : Chain} {x : ChainStore} : Evolves r (s.setStore c x) := by
  unfold State.setStore
  split
  · exact h.other
  · exact h.other

theorem Evolves.setChState (h : Evolves r s) {c : Chain} {n : Nat} : Evolves r (s.setChState c n) :=
  .ite h.setFld h.setFld.setFld

theorem Evolves.showFreq (h : Evolves r s) {c : Chain} : Evolves r (s.showFreq c) := .ite h.setFld h.setFld

theorem Evolves.tune (h : Evolves r s) {c : Chain} {f : Nat} : Evolves r (s.tune c f) := h.setChain.showFreq

theorem Evolves.loadStore (h : Evolves r s) {c : Chain} : Evolves r (s.loadStore c) := by
  unfold State.loadStore
  extract_lets _ s1
  have h1 : Evolves r s1 := h.foldl (fun _ _ h => h.setFld.setFld)
  exact .ite h1.setFld.setFld.setFld.setFld h1.setFld.setFld.setFld

theorem Evolves.chainOn (h : Evolves r s) {c : Chain} : Evolves r (s.chainOn c) := .ite h.setChState h

theorem Evolves.chainOff (h : Evolves r s) {c : Chain} : Evolves r (s.chainOff c) :=
  h.setChState.lower.lower.lower.setFld.setFld.setChain

theorem Evolves.execChannelLock (h : Evolves r s) {c : Chain} : Leads r (execChannelLock c s) :=
  .next (.ite h.setChState.raise.showFreq h)

theorem Evolves.execLockfail (h : Evolves r s) {c : Chain} : Leads r (execLockfail c s) :=
  .next (.ite h.setChState.raise h)

theorem Evolves.writeRampctl (h : Evolves r s) {c : Chain} {w : Word} : Evolves r (s.writeRampctl c w) :=
  .ite (.ite h.setStore.setFld.lower h.raise.raise) h

theorem Evolves.execRampCommit (h : Evolves r s) {user : Bool} {c : Chain} {w : Word} :
    Leads r (execRampCommit user c w s) :=
  h.guarded (.ite h.writeRampctl h)

theorem Evolves.unclaim (h : Evolves r s) {c : Chain} : Evolves r (s.unclaim c) := by
  unfold State.unclaim
  split
  · exact h
  · split
    · exact h
    · exact .ite h.setChain.other h

theorem Evolves.calStart (h : Evolves r s) {c : Chain} : Evolves r (s.calStart c).2 :=
  .ite_snd h.unclaim.setChState.pair h.setFld.pair

theorem Evolves.writeCal (h : Evolves r s) {c : Chain} {w : Word} : Evolves r (s.writeCal c w) :=
  .ite h.setFld.calStart h.setFld

theorem Evolves.execCalStart (h : Evolves r s) {user : Bool} {c : Chain} {w : Word} :
    Leads r (execCalStart user c w s) :=
  h.guarded (.ite h.writeCal h)

theorem Evolves.execCalDone (h : Evolves r s) {c : Chain} {inRange : Bool} {temp : Int} :
    Leads r (execCalDone c inRange temp s) := by
  unfold Machine.execCalDone
  refine .next ?_
  refine .ite ?_ h
  extract_lets _ _ s2
  have h2 : Evolves r s2 := by
    unfold s2
    refine .ite ?_ h.setChState.raise.lower.setFld.setFld
    split
    exact (h.setChState.raise.lower.setFld.draw.of_snd ‹_›).setStore.setFld.setFld.raise.lower
  split
  · exact h2
  · exact h2.setChain.respond

theorem Evolves.execCaldue (h : Evolves r s) {c : Chain} : Leads r (execCaldue c s) := .next (.ite h.raise.raise h)

theorem Evolves.execCxGntLoss (h : Evolves r s) {c : Chain} : Leads r (execCxGntLoss c s) :=
  .next (.ite h.setChain.satCount.raise h)

theorem Evolves.execPwrdrop (h : Evolves r s) {c : Chain} : Leads r (execPwrdrop c s) := .next (.ite h.setFld h)

theorem Evolves.setBand (h : Evolves r s) {b : Nat} {x : BandLedger} : Evolves r (s.setBand b x) := h.other

theorem Evolves.binEnd (h : Evolves r s) : Evolves r s.binEnd := (h.foldl (fun _ _ h => h.setBand)).other

theorem Evolves.execDutyBin (h : Evolves r s) : Leads r (execDutyBin s) := .next h.binEnd

theorem Evolves.blockClose (h : Evolves r s) : Evolves r s.blockClose := h.foldl (fun _ _ h => h.setBand)

theorem Evolves.execDutyBlockClose (h : Evolves r s) : Leads r (execDutyBlockClose s) := .next h.blockClose

theorem Evolves.closeBlocks (h : Evolves r s) {n : Nat} : Evolves r (s.closeBlocks n) := by
  induction n generalizing s with
  | zero => exact h
  | succ n ih =>
    unfold State.closeBlocks
    exact ih h.blockClose

theorem Evolves.dutyMakeup (h : Evolves r s) {before after : Nat} : Evolves r (s.dutyMakeup before after) :=
  h.closeBlocks

theorem Evolves.seedLedgers (h : Evolves r s) : Evolves r s.seedLedgers :=
  .ite h ((h.foldl (fun _ _ h => .ite h.setBand h)).other)

theorem Evolves.execWakeTelegram (h : Evolves r s) {fast : Bool} {pattern : Nat} :
    Leads r (execWakeTelegram fast pattern s) := by
  unfold Machine.execWakeTelegram
  refine .next ?_
  refine .ite h ?_
  refine .ite h.satCount.raise ?_
  split
  · exact h.satCount
  · exact h.satCount.setFld.setFld.raise.evPulse

theorem Evolves.execWkrFloorEstimate (h : Evolves r s) {level : Int} : Leads r (execWkrFloorEstimate level s) :=
  .next (.ite h h.setFld)

theorem Evolves.execWkrBlankingEnd (h : Evolves r s) : Leads r (execWkrBlankingEnd s) := .next (.ite h.other h)

theorem Evolves.handleRfStatus (h : Evolves r s) {x : Origin} {p : List Byte} :
    Evolves r (handleRfStatus x p s).2 := by
  unfold Machine.handleRfStatus
  refine .ite_snd h ?_
  extract_lets _ _ s2
  have h2 : Evolves r s2 := by
    unfold s2
    refine .ite ?_ h.setFld
    split
    exact (h.setFld.draw.of_snd ‹_›).setFld
  exact h2

theorem Evolves.execRfStatus (h : Evolves r s) {o : Origin} {p : List Byte} : Leads r (execRfStatus o p s) :=
  .next (h.hostCommand (fun _ _ _ h => h.handleRfStatus))

theorem Evolves.handleRfCal (h : Evolves r s) {o : Origin} {p : List Byte} : Evolves r (handleRfCal o p s).2 := by
  unfold Machine.handleRfCal
  refine .ite_snd h ?_
  extract_lets _
  split
  · exact (h.calStart.of_snd ‹_›).setChain.pair
  · exact (h.calStart.of_snd ‹_›).pair

theorem Evolves.execRfCal (h : Evolves r s) {o : Origin} {p : List Byte} : Leads r (execRfCal o p s) :=
  .next (h.hostCommand (fun _ _ _ h => h.handleRfCal))

theorem Evolves.handleRfDuty (h : Evolves r s) {x : Origin} {p : List Byte} :
    Evolves r (handleRfDuty x p s).2 :=
  .ite_snd h h

theorem Evolves.execRfDuty (h : Evolves r s) {o : Origin} {p : List Byte} : Leads r (execRfDuty o p s) :=
  .next (h.hostCommand (fun _ _ _ h => h.handleRfDuty))

theorem Evolves.handleWkrSet (h : Evolves r s) {x : Origin} {p : List Byte} :
    Evolves r (handleWkrSet x p s).2 :=
  .ite_snd h h.setRegN.setRegN.setRegN.setRegN.pair

theorem Evolves.execWkrSet (h : Evolves r s) {o : Origin} {p : List Byte} : Leads r (execWkrSet o p s) :=
  .next (h.hostCommand (fun _ _ _ h => h.handleWkrSet))

/-! ### Captures -/

theorem Evolves.setCtx (h : Evolves r s) {n : Nat} {x : Ctx} : Evolves r (s.setCtx n x) := h.other

theorem Evolves.setBandSt (h : Evolves r s) {b : Nat} {x : BandState} : Evolves r (s.setBandSt b x) :=
  .ite h.other h.other

theorem Evolves.ctxCount (h : Evolves r s) {n k : Nat} : Evolves r (s.ctxCount n k) := h.count

theorem Evolves.unserved (h : Evolves r s) {b reason : Nat} : Evolves r (s.unserved b reason) := h.count.raise

theorem Evolves.ctxFree (h : Evolves r s) {n : Nat} : Evolves r (s.ctxFree n) := h.setCtx

theorem Evolves.dropFrame (h : Evolves r s) {f : Nat} : Evolves r (s.dropFrame f) := h.other

theorem Evolves.abandonCtx (h : Evolves r s) {n reason : Nat} : Evolves r (s.abandonCtx n reason) :=
  (Evolves.ite h.ctxFree.dropFrame.ctxCount.raise h.ctxFree.dropFrame.ctxCount).unserved

theorem Evolves.cutBand (h : Evolves r s) {b reason : Nat} : Evolves r (s.cutBand b reason) :=
  ((h.foldl (fun _ _ h => h.abandonCtx)).foldl (fun _ _ h => h.unserved)).setBandSt

theorem Evolves.bandInvalid (h : Evolves r s) {b reason : Nat} : Evolves r (s.bandInvalid b reason) :=
  .ite h.clearBit.cutBand h

theorem Evolves.execAgcAttack (h : Evolves r s) {b peak : Nat} {clip : Bool} :
    Leads r (execAgcAttack b peak clip s) := by
  unfold Machine.execAgcAttack
  refine .next ?_
  refine .ite ?_ h
  extract_lets _ s1
  have h1 : Evolves r s1 := .ite h.setFld.count.raise h.setFld
  exact .ite h1.setFld (.ite (h1.setFld.count.foldl (fun _ _ h => h.setCtx.ctxCount)) h1)

theorem Evolves.execAgcDecay (h : Evolves r s) {b : Nat} : Leads r (execAgcDecay b s) := .next (.ite h.setFld h)

theorem Evolves.execSampleOverflow (h : Evolves r s) {b : Nat} : Leads r (execSampleOverflow b s) :=
  .next (.ite h.count.raise.setBandSt.bandInvalid h)

theorem Evolves.capLost (h : Evolves r s) {c : Chain} : Evolves r (s.capLost c) :=
  .ite h.lower.setFld.raise.bandInvalid h.lower.setFld

theorem Evolves.execCaplockLoss (h : Evolves r s) {c : Chain} : Leads r (execCaplockLoss c s) :=
  .next (.ite h.capLost h)

theorem Evolves.execSampleInvalid (h : Evolves r s) {b : Nat} : Leads r (execSampleInvalid b s) :=
  .next (.ite (.ite h.bandInvalid (.ite h.bandInvalid h)) h)

theorem Evolves.execSamplesValid (h : Evolves r s) {b : Nat} : Leads r (execSamplesValid b s) :=
  .next (.ite h.raise.setFld.setBit h)

theorem Evolves.execDetectorFire (h : Evolves r s) {b slice mode : Nat} {level : Int} :
    Leads r (execDetectorFire b slice mode level s) := by
  unfold Machine.execDetectorFire
  refine .next ?_
  refine .ite h ?_
  split
  · exact h
  · exact .ite h.setBandSt (.ite h (.ite h h.setBandSt.count))

theorem Evolves.assign (h : Evolves r s) {b : Nat} {c : Candidate} {n : Nat} : Evolves r (s.assign b c n) :=
  h.setCtx.other.ctxCount

theorem Evolves.queueCand (h : Evolves r s) {b : Nat} {c : Candidate} : Evolves r (s.queueCand b c) :=
  .ite h.setBandSt h.setBandSt.unserved.raise

theorem Evolves.expireCands (h : Evolves r s) {b : Nat} : Evolves r (s.expireCands b) :=
  (h.foldl (fun _ _ h => h.unserved)).setBandSt

theorem Evolves.arbitrateOne (h : Evolves r s) {b : Nat} {c : Candidate} {fresh : Bool} :
    Evolves r (s.arbitrateOne b c fresh) := by
  unfold State.arbitrateOne
  extract_lets _ s1
  have h1 : Evolves r s1 := .ite h h.setBandSt
  split
  · exact h1.assign
  · split
    · exact h1.abandonCtx.assign
    · exact .ite h1.queueCand h1.setBandSt

theorem Evolves.arbitrate (h : Evolves r s) {b : Nat} : Evolves r (s.arbitrate b) :=
  (h.setBandSt.foldl (fun _ _ h => h.arbitrateOne)).expireCands

theorem Evolves.execArbitration (h : Evolves r s) {b : Nat} : Leads r (execArbitration b s) :=
  .next (.ite h.arbitrate h)

theorem Evolves.execCandidateExpire (h : Evolves r s) {b : Nat} : Leads r (execCandidateExpire b s) :=
  .next (.ite h.expireCands h)

theorem Evolves.applyC (h : Evolves r s) {c : Chain} {v : Int} : Evolves r (s.applyC c v) :=
  .ite ((Evolves.ite h.setFld.setFld.raise h.setFld.setFld).setChain.showFreq) h.setFld.lower

theorem Evolves.stampCtx (h : Evolves r s) {n : Nat} : Evolves r (s.stampCtx n) := .ite h.setCtx.ctxCount h.setCtx

theorem Evolves.execCtxSync (h : Evolves r s) {n : Nat} {level cfo : Int} :
    Leads r (execCtxSync n level cfo s) := by
  unfold Machine.execCtxSync
  refine .next ?_
  split
  · exact .ite h.setCtx.other.ctxCount.stampCtx.applyC h
  · exact .ite h.setCtx.stampCtx h

theorem Evolves.execCtxFalsedet (h : Evolves r s) {n : Nat} : Leads r (execCtxFalsedet n s) :=
  .next (.ite h.ctxFree.ctxCount h)

theorem Evolves.narrowDrop (h : Evolves r s) {n : Nat} : Evolves r (s.narrowDrop n) := h.setCtx.dropFrame

theorem Evolves.hdrFail (h : Evolves r s) {n : Nat} : Evolves r (s.hdrFail n) :=
  (Evolves.ite h.narrowDrop h.ctxFree.dropFrame).ctxCount

theorem Evolves.switchMode (h : Evolves r s) {n mode : Nat} : Evolves r (s.switchMode n mode) :=
  .ite h.hdrFail (.ite h.setCtx (.ite h.narrowDrop h.abandonCtx))

theorem Evolves.execCtxHeader (h : Evolves r s) {n bits : Nat} {ok : Bool} :
    Leads r (execCtxHeader n bits ok s) :=
  .next (.ite h (.ite (.ite (.ite h.switchMode h.hdrFail) (.ite h.setCtx h.hdrFail)) (.ite h.setCtx h.hdrFail)))

theorem Evolves.execModeSwitch (h : Evolves r s) {n mode : Nat} : Leads r (execModeSwitch n mode s) :=
  .next (.ite h.switchMode h)

theorem Evolves.execAfcTrack (h : Evolves r s) {c : Chain} {offset : Int} : Leads r (execAfcTrack c offset s) :=
  .next (.ite h.setCtx.applyC h)

theorem Evolves.settleCtx (h : Evolves r s) {span : Bool} {profile : Nat} :
    Evolves r (s.settleCtx span profile) :=
  h.other.foldl (fun _ _ h => .ite h (.ite h (.ite h.abandonCtx.setCtx h.setCtx)))

theorem Evolves.runBand (h : Evolves r s) {b : Nat} {on : Bool} : Evolves r (s.runBand b on) :=
  .ite (.ite h h.setBit.setBandSt) (.ite h.cutBand.clearBit.clearBit.lower.setFld h)

theorem Evolves.applyWideIn (h : Evolves r s) {span : Bool} {bands profile : Nat} :
    Evolves r (s.applyWideIn span bands profile) := by
  unfold State.applyWideIn
  exact h.runBand.runBand.settleCtx

theorem Evolves.drainCtx (h : Evolves r s) {l : List Nat} : Evolves r (s.drainCtx l) :=
  h.other.foldl (fun _ _ h => .ite h.setCtx h)

theorem Evolves.undrainCtx (h : Evolves r s) : Evolves r s.undrainCtx :=
  h.other.foldl (fun _ _ h => .ite h.setCtx h)

theorem Evolves.abandonDrain (h : Evolves r s) : Evolves r s.abandonDrain := h.foldl (fun _ _ h => h.abandonCtx)

/-! ### The decoder -/

theorem Evolves.setDecTile (h : Evolves r s) {i : Nat} {x : DecTile} : Evolves r (s.setDecTile i x) := h.other

theorem Evolves.decCount (h : Evolves r s) {i k n : Nat} : Evolves r (s.decCount i k n) := h.countBy

theorem Evolves.setRxFrame (h : Evolves r s) {x : RxFrame} : Evolves r (s.setRxFrame x) := h.other

theorem Evolves.beginFrame (h : Evolves r s) {n tile : Nat} : Evolves r (s.beginFrame n tile) := .ite h h.setRxFrame

theorem Evolves.pumpOne (h : Evolves r s) {n : Nat} : Evolves r (s.pumpOne n) := by
  unfold State.pumpOne
  split
  · exact h
  · split
    · exact h
    · exact .ite h.setDecTile.setCtx.beginFrame h

theorem Evolves.pump (h : Evolves r s) {n : Nat} : Evolves r (s.pump n) := h.pumpOne.pumpOne.pumpOne.pumpOne

theorem Evolves.pumpAll (h : Evolves r s) : Evolves r s.pumpAll := h.foldl (fun _ _ h => h.pump)

theorem Evolves.expireSlots (h : Evolves r s) {i : Nat} : Evolves r (s.expireSlots i) :=
  .ite h h.setDecTile.decCount

theorem Evolves.execBlockDispatch (h : Evolves r s) {n : Nat} {llrs : List Int} :
    Leads r (execBlockDispatch n llrs s) := by
  unfold Machine.execBlockDispatch
  refine .next ?_
  extract_lets s1
  have h1 : Evolves r s1 := h.foldl (fun _ _ h => h.expireSlots)
  exact .ite h1.setCtx.pump h1

theorem Evolves.handOver (h : Evolves r s) {x : RxFrame} {delivered fcsOk : Bool} {psdu : List Byte} :
    Evolves r (s.handOver x delivered fcsOk psdu) :=
  h.dropFrame.other

theorem Evolves.makeRoom (h : Evolves r s) {i : Nat} : Evolves r (s.makeRoom i) := by
  unfold State.makeRoom
  extract_lets _
  refine .ite h ?_
  split
  · exact h.setDecTile
  · exact h.setDecTile.decCount.raise

theorem Evolves.writeSlot (h : Evolves r s) {i band life : Nat} {x : RxFrame} {o : BlockOut} :
    Evolves r (s.writeSlot i band life x o) :=
  h.setDecTile.makeRoom.setDecTile

theorem Evolves.endLdpc (h : Evolves r s) {i band cfg : Nat} {x : RxFrame} :
    Evolves r (s.endLdpc i band cfg x) := by
  unfold State.endLdpc
  extract_lets _
  refine .ite ?_ (Evolves.ite (h.foldl (fun _ _ h => h.writeSlot)) h).handOver
  split
  · exact h.setDecTile.handOver
  · exact h.setDecTile.decCount.raise.handOver

theorem Evolves.ldpcOut (h : Evolves r s) {i : Nat} {b : Block} {o : BlockOut} {comb rep : Bool} :
    Evolves r (s.ldpcOut i b o comb rep) := by
  unfold State.ldpcOut
  split
  · exact h
  · exact .ite h.endLdpc h.setRxFrame

theorem Evolves.decodeLdpc (h : Evolves r s) {i cw : Nat} {b : Block} : Evolves r (s.decodeLdpc i cw b) := by
  unfold State.decodeLdpc
  extract_lets _ _ _ _ s1
  have h1 : Evolves r s1 := .ite h.setDecTile h
  split
  · exact .ite ((Evolves.ite h1.decCount.decCount h1.decCount).ldpcOut) h1.decCount.raise.ldpcOut
  · exact .ite ((Evolves.ite h.decCount.decCount h.decCount).ldpcOut) h.decCount.raise.ldpcOut
  · exact h.ldpcOut
  · exact h.decCount.raise.ldpcOut

theorem Evolves.decodeRs (h : Evolves r s) {i good : Nat} {data : List Byte} {b : Block} :
    Evolves r (s.decodeRs i good data b) := by
  unfold State.decodeRs
  extract_lets _
  split
  · exact h.decCount
  · extract_lets _
    split
    · exact h.decCount.handOver
    · exact h.decCount.decCount.raise.handOver

theorem Evolves.decodePass (h : Evolves r s) {i good : Nat} {data : List Byte} {b : Block} :
    Evolves r (s.decodePass i good data b) := by
  unfold State.decodePass
  extract_lets _
  split
  · exact h.decCount
  · exact h.decCount.handOver

theorem Evolves.execBlockDecodeDone (h : Evolves r s) {i good : Nat} {data : List Byte} :
    Leads r (execBlockDecodeDone i good data s) := by
  unfold Machine.execBlockDecodeDone
  refine .next ?_
  split
  · exact h
  · exact (Evolves.ite h.setDecTile.decodeLdpc (.ite h.setDecTile.decodeRs h.setDecTile.decodePass)).pumpAll

theorem Evolves.execSlotExpire (h : Evolves r s) {i : Nat} : Leads r (execSlotExpire i s) := .next h.expireSlots

theorem Evolves.clearSlots (h : Evolves r s) {i : Nat} : Evolves r (s.clearSlots i) :=
  .ite h h.setDecTile.decCount.raise

/-! ### Slots -/

theorem Evolves.setSlot (h : Evolves r s) {n : Nat} {x : Slot} : Evolves r (s.setSlot n x) := h.other

theorem Evolves.freeSlot (h : Evolves r s) {n : Nat} : Evolves r (s.freeSlot n) := h.other

theorem Evolves.lnkCount (h : Evolves r s) {k : Nat} : Evolves r (s.lnkCount k) := h.count

theorem Evolves.roll (h : Evolves r s) : Evolves r s.roll.2 := (Evolves.ite h.other h.count).other

theorem Evolves.ringLevel (h : Evolves r s) {r' : Nat} : Evolves r (s.ringLevel r') := .ite h.clearBit h.setBit

theorem Evolves.lnkRingPut (h : Evolves r s) {r' : Nat} {e : List Byte} : Evolves r (s.lnkRingPut r' e) :=
  h.dma.setFld.ringLevel

theorem Evolves.flushEntries (h : Evolves r s) {l : List (Nat × List Byte)} : Evolves r (s.flushEntries l) :=
  h.other.foldl (fun _ _ h => .ite h.lnkRingPut h.other)

theorem Evolves.putEntry (h : Evolves r s) {r' : Nat} {e : List Byte} : Evolves r (s.putEntry r' e) :=
  h.flushEntries

theorem Evolves.countOutcome (h : Evolves r s) {st reason : Nat} : Evolves r (s.countOutcome st reason) :=
  .ite h.lnkCount (.ite h.lnkCount (.ite h.lnkCount.raise (.ite h.lnkCount (.ite h.lnkCount.raise h))))

theorem Evolves.releaseChain (h : Evolves r s) {c : Chain} : Evolves r (s.releaseChain c) :=
  .ite h.setChain.setChState h.setChain

theorem Evolves.fixOutcome (h : Evolves r s) {n : Nat} {st : Status} {reason : Nat} :
    Evolves r (s.fixOutcome n st reason) :=
  h.setSlot.countOutcome

theorem Evolves.cancelChain (h : Evolves r s) {fuel n : Nat} : Evolves r (s.cancelChain fuel n) := by
  induction fuel generalizing s n with
  | zero => exact h
  | succ fuel ih => exact h.fixOutcome.foldl (fun _ _ h => ih h)

theorem Evolves.settle (h : Evolves r s) {anchor m : Nat} : Evolves r (s.settle anchor m) :=
  .ite h.cancelChain h.setSlot

theorem Evolves.finishAction (h : Evolves r s) {n : Nat} {st : Status} {reason : Nat} :
    Evolves r (s.finishAction n st reason) :=
  (h.foldl (fun _ _ h => .ite h.releaseChain h)).fixOutcome.foldl (fun _ _ h => h.settle)

theorem Evolves.endWork (h : Evolves r s) {n : Nat} : Evolves r (s.endWork n) :=
  (h.foldl (fun _ _ h => .ite h.releaseChain h)).setSlot

theorem Evolves.execActionComplete (h : Evolves r s) {n : Nat} : Leads r (execActionComplete n s) :=
  .next (.ite h.finishAction h)

theorem Evolves.acceptAction (h : Evolves r s) {n : Nat} {own : Option (List Byte)} :
    Evolves r (s.acceptAction n own) :=
  h.other.lnkCount

theorem Evolves.cmdStat (h : Evolves r s) {n : Nat} {st : Status} : Evolves r (s.cmdStat n st) := h.setRegN

theorem Evolves.execLnkSubmit (h : Evolves r s) {user : Bool} {w : Word} : Leads r (execLnkSubmit user w s) :=
  h.guarded (.ite ((Evolves.ite h.acceptAction h).cmdStat) h)

theorem Evolves.cancelOne (h : Evolves r s) {n : Nat} : Evolves r (s.cancelOne n).2 := by
  unfold State.cancelOne
  extract_lets _
  split
  · exact h.finishAction.pair
  · exact h.finishAction.pair
  · exact h.finishAction.pair
  · exact (Evolves.ite h.setChain h).finishAction.pair
  · exact .ite_snd h (.ite_snd (.ite_snd h.setSlot.pair (.ite_snd h.finishAction.pair h.setChain.finishAction.pair))
      (.ite_snd (.ite_snd h.setSlot.pair h.setSlot.endWork.pair) h))
  · exact h

theorem Evolves.execLnkCancel (h : Evolves r s) {user : Bool} {w : Word} : Leads r (execLnkCancel user w s) := by
  unfold Machine.execLnkCancel
  refine h.guarded ?_
  refine .ite ?_ h
  extract_lets _
  refine .ite ((h.foldl (fun _ _ h => .ite h.cancelOne h)).cmdStat) ?_
  refine .ite h.cmdStat ?_
  split
  exact (h.cancelOne.of_snd ‹_›).cmdStat

theorem Evolves.execLnkNext0Read (h : Evolves r s) : Leads r (execLnkNext0Read s) :=
  .next (.ite h.setRegN.setRegN.other h.other)

theorem Evolves.execRingReadAdvance (h : Evolves r s) {user : Bool} {r' : Nat} {w : Word} :
    Leads r (execRingReadAdvance user r' w s) :=
  h.guarded (.ite h.setFld.ringLevel.flushEntries h)

theorem Evolves.stageRing (h : Evolves r s) {r' : Nat} : Evolves r (s.stageRing r') := h.other

theorem Evolves.stageRx (h : Evolves r s) : Evolves r s.stageRx := h.other

theorem Evolves.execRingConfigApply (h : Evolves r s) {r' : Nat} : Leads r (execRingConfigApply r' s) :=
  .next (.ite h.other.setFld.setFld.ringLevel.flushEntries h)

theorem Evolves.execRxConfigApply (h : Evolves r s) : Leads r (execRxConfigApply s) := .next (.ite h.other h)

theorem Evolves.execRxrelease (h : Evolves r s) {user : Bool} {w : Word} : Leads r (execRxrelease user w s) :=
  h.guarded (.ite (.ite h.other h.raise) h)

/-! ### Frame words -/

theorem Evolves.composeFrame (h : Evolves r s) {peer : Nat} {ie body : List Byte} :
    Evolves r (s.composeFrame peer ie body).2 := by
  unfold State.composeFrame
  split
  split
  split
  exact (((h.draw.of_snd ‹_›).draw.of_snd ‹_›).draw.of_snd ‹_›).pair

/-! ### Links -/

theorem Evolves.setLk (h : Evolves r s) {i off k v : Nat} : Evolves r (s.setLk i off k v) := h.setMem

theorem Evolves.setLkWork (h : Evolves r s) {i : Nat} {x : LinkWork} : Evolves r (s.setLkWork i x) := h.other

theorem Evolves.lkCount (h : Evolves r s) {i k : Nat} : Evolves r (s.lkCount i k) := h.setLk

theorem Evolves.tntCount (h : Evolves r s) {t k n : Nat} : Evolves r (s.tntCount t k n) := h.countBy

theorem Evolves.setQueue (h : Evolves r s) {t c : Nat} {q : List Desc} : Evolves r (s.setQueue t c q) := h.other

theorem Evolves.bucketCharge (h : Evolves r s) {t n : Nat} {bands : List Nat} :
    Evolves r (s.bucketCharge t n bands) :=
  h.foldl (fun _ _ h => .ite h h.other)

theorem Evolves.postDesc (h : Evolves r s) {d : Desc} {reserved jrn : Bool} :
    Evolves r (s.postDesc d reserved jrn).2 := by
  unfold State.postDesc
  extract_lets _ _ _
  refine .ite_snd ?_ (.ite_snd h.tntCount.raise.pair h)
  split
  rename_i e
  refine (Evolves.of_snd (.ite_snd ?_ h) e).setQueue.tntCount.pair
  split
  exact (h.roll.of_snd ‹_›).pair

theorem Evolves.execQpost (h : Evolves r s) {user : Bool} {w : Word} : Leads r (execQpost user w s) := by
  unfold Machine.execQpost
  refine h.guarded ?_
  refine .ite ?_ h
  extract_lets _
  split
  exact (h.postDesc.of_snd ‹_›).setRegN

theorem Evolves.mapMsg (h : Evolves r s) {j : Nat} {f : Msg → Msg} : Evolves r (s.mapMsg j f) := h.other

theorem Evolves.msgSent (h : Evolves r s) {j : Nat} {made : Bool} : Evolves r (s.msgSent j made) := h.mapMsg

theorem Evolves.endDesc (h : Evolves r s) {d : Desc} {st reason tries : Nat} {lbt : Bool} {time : Nat} :
    Evolves r (s.endDesc d st reason tries lbt time) := by
  unfold State.endDesc
  extract_lets _ _ _ _ _ s1
  have h1 : Evolves r s1 := .ite h.lkCount.tntCount.tntCount h.lkCount.tntCount
  refine .ite h.lkCount ?_
  split
  · exact h1.msgSent
  · exact .ite h1 h1.putEntry

theorem Evolves.linkNotice (h : Evolves r s) {i : Nat} : Evolves r (s.linkNotice i) := h.notice

theorem Evolves.swapNotice (h : Evolves r s) {i : Nat} {st : Status} : Evolves r (s.swapNotice i st) := h.notice

theorem Evolves.hopMsgs (h : Evolves r s) {i : Nat} {f : Msg → Msg} : Evolves r (s.hopMsgs i f) := h.other

theorem Evolves.linkUp (h : Evolves r s) {i : Nat} : Evolves r (s.linkUp i) :=
  h.setLk.setLkWork.hopMsgs.raise.linkNotice

theorem Evolves.cancelFlights (h : Evolves r s) {i : Nat} : Evolves r (s.cancelFlights i) :=
  h.foldl (fun _ _ h' => .ite (h'.foldl (fun _ _ h => .ite h.cancelOne h)) h')

theorem Evolves.leaveUp (h : Evolves r s) {i : Nat} : Evolves r (s.leaveUp i) :=
  (h.setQueue.foldl (fun _ _ h => h.endDesc)).cancelFlights.hopMsgs

theorem Evolves.linkDown (h : Evolves r s) {i reason : Nat} : Evolves r (s.linkDown i reason) :=
  (Evolves.ite h.leaveUp h.cancelFlights).other.setLkWork.setLk.setLk.raise.linkNotice

theorem Evolves.setLcps (h : Evolves r s) {i : Nat} {l : List Desc} : Evolves r (s.setLcps i l) := h.other

theorem Evolves.lcpFrame (h : Evolves r s) {i op : Nat} {rest : List Byte} :
    Evolves r (s.lcpFrame i op rest).2 := by
  unfold State.lcpFrame
  extract_lets _
  split
  split
  split
  exact (((h.composeFrame.of_snd ‹_›).draw.of_snd ‹_›).draw.of_snd ‹_›).pair

theorem Evolves.queueLcp (h : Evolves r s) {i op : Nat} {rest : List Byte} : Evolves r (s.queueLcp i op rest) := by
  unfold State.queueLcp
  split
  exact (h.lcpFrame.of_snd ‹_›).setLcps

theorem Evolves.openLink (h : Evolves r s) {i : Nat} : Evolves r (s.openLink i).2 :=
  .ite_snd (.ite_snd h.setLkWork.setLk.setLk.setLk.linkUp.pair
    ((Evolves.ite h.setLkWork.setLk.setLk.setLk.setLk.queueLcp h.setLkWork.setLk.setLk.setLk.setLk).pair))
    (.ite_snd h.raise.pair h)

theorem Evolves.closeLink (h : Evolves r s) {g : Nat} : Evolves r (s.closeLink g).2 :=
  .ite_snd h h.leaveUp.setLk.setLkWork.queueLcp.pair

theorem Evolves.releaseLink (h : Evolves r s) {g : Nat} : Evolves r (s.releaseLink g).2 :=
  .ite_snd h h.other.setLk.setLk.setLk.pair

theorem Evolves.swapLink (h : Evolves r s) {g : Nat} : Evolves r (s.swapLink g).2 := by
  unfold State.swapLink
  extract_lets _
  refine .ite_snd h ?_
  refine .ite_snd h ?_
  split
  exact (h.roll.of_snd ‹_›).setLk.setLk.setLk.setLkWork.queueLcp.pair

theorem Evolves.mapLink (h : Evolves r s) {g : Nat} : Evolves r (s.mapLink g).2 :=
  .ite_snd h (.ite_snd h h.setLk.setLk.setLkWork.queueLcp.pair)

theorem Evolves.linkOp (h : Evolves r s) {op g : Nat} : Evolves r (s.linkOp op g).2 := by
  unfold State.linkOp
  split
  · exact h.openLink
  · exact h.closeLink
  · exact h.releaseLink
  · exact h.swapLink
  · exact h.mapLink

theorem Evolves.linkCmd (h : Evolves r s) {op : Nat} {w : Word} : Evolves r (s.linkCmd op w) := by
  unfold State.linkCmd
  refine .ite ?_ h
  extract_lets _
  split
  exact ((Evolves.ite_snd h h.linkOp).of_snd ‹_›).setRegN

theorem Evolves.execLinkcmdOpen (h : Evolves r s) {user : Bool} {w : Word} :
    Leads r (execLinkcmdOpen user w s) :=
  h.guarded h.linkCmd

theorem Evolves.execLinkcmdClose (h : Evolves r s) {user : Bool} {w : Word} :
    Leads r (execLinkcmdClose user w s) :=
  h.guarded h.linkCmd

theorem Evolves.execLinkcmdRelease (h : Evolves r s) {user : Bool} {w : Word} :
    Leads r (execLinkcmdRelease user w s) :=
  h.guarded h.linkCmd

theorem Evolves.execLinkcmdSwap (h : Evolves r s) {user : Bool} {w : Word} :
    Leads r (execLinkcmdSwap user w s) :=
  h.guarded h.linkCmd

theorem Evolves.execLinkcmdChmap (h : Evolves r s) {user : Bool} {w : Word} :
    Leads r (execLinkcmdChmap user w s) :=
  h.guarded h.linkCmd

theorem Evolves.putTemplate (h : Evolves r s) {i : Nat} {p : List Byte} : Evolves r (s.putTemplate i p) :=
  h.setLk.setBytes.setBytes.setBytes

theorem Evolves.handleLinkOpen (h : Evolves r s) {x : Origin} {p : List Byte} :
    Evolves r (handleLinkOpen x p s).2 := by
  unfold Machine.handleLinkOpen
  extract_lets _
  refine .ite_snd h ?_
  split
  exact ((Evolves.ite h.putTemplate h).openLink.of_snd ‹_›).pair

theorem Evolves.execLinkOpen (h : Evolves r s) {o : Origin} {p : List Byte} : Leads r (execLinkOpen o p s) :=
  .next (h.hostCommand (fun _ _ _ h => h.handleLinkOpen))

theorem Evolves.handleLink (h : Evolves r s) {op : Nat} {x : Origin} {p : List Byte} :
    Evolves r (handleLink op x p s).2 := by
  unfold Machine.handleLink
  refine .ite_snd h ?_
  split
  exact (h.linkOp.of_snd ‹_›).pair

theorem Evolves.execLinkClose (h : Evolves r s) {o : Origin} {p : List Byte} : Leads r (execLinkClose o p s) :=
  .next (h.hostCommand (fun _ _ _ h => h.handleLink))

theorem Evolves.execLinkRelease (h : Evolves r s) {o : Origin} {p : List Byte} :
    Leads r (execLinkRelease o p s) :=
  .next (h.hostCommand (fun _ _ _ h => h.handleLink))

theorem Evolves.execLinkSwap (h : Evolves r s) {o : Origin} {p : List Byte} : Leads r (execLinkSwap o p s) :=
  .next (h.hostCommand (fun _ _ _ h => h.handleLink))

theorem Evolves.handleLinkGet (h : Evolves r s) {x : Origin} {p : List Byte} :
    Evolves r (handleLinkGet x p s).2 :=
  .ite_snd h (.ite_snd h h)

theorem Evolves.execLinkGet (h : Evolves r s) {o : Origin} {p : List Byte} : Leads r (execLinkGet o p s) :=
  .next (h.hostCommand (fun _ _ _ h => h.handleLinkGet))

theorem Evolves.handleTenantStatus (h : Evolves r s) {x : Origin} {p : List Byte} :
    Evolves r (handleTenantStatus x p s).2 :=
  .ite_snd h h

theorem Evolves.execTenantStatus (h : Evolves r s) {o : Origin} {p : List Byte} :
    Leads r (execTenantStatus o p s) :=
  .next (h.hostCommand (fun _ _ _ h => h.handleTenantStatus))

/-! ### Tenants -/

theorem Evolves.putRecord (h : Evolves r s) {n : Nat} {ws : List Nat} : Evolves r (s.putRecord n ws) :=
  h.foldl (fun _ _ h => h.setRegN)

theorem Evolves.submitTx (h : Evolves r s) {n : Nat} {d : Desc} {start : Option Nat} {freq : Nat} :
    Evolves r (s.submitTx n d start freq) :=
  h.putRecord.acceptAction

theorem Evolves.submitRx (h : Evolves r s) {n i us : Nat} {anchor : Option Nat} {start : Nat} :
    Evolves r (s.submitRx n i us anchor start) :=
  h.putRecord.acceptAction

theorem Evolves.setFlight (h : Evolves r s) {c : Nat} {f : Flight} : Evolves r (s.setFlight c f) := h.other

theorem Evolves.clearFlight (h : Evolves r s) {c : Nat} : Evolves r (s.clearFlight c) := h.other

theorem Evolves.startExchange (h : Evolves r s) {d : Desc} {start reply : Option Nat} {event : Bool} :
    Evolves r (s.startExchange d start reply event) := by
  unfold State.startExchange
  extract_lets _
  split
  · extract_lets _ s4
    have h4 : Evolves r s4 := by
      unfold s4
      split
      · exact h.submitTx.submitRx
      · exact h.submitTx
    exact (Evolves.ite h4.setLk h4).setFlight
  · exact h

theorem Evolves.chargeExchange (h : Evolves r s) {c : Nat} {f : Flight} : Evolves r (s.chargeExchange c f) := by
  unfold State.chargeExchange
  refine .ite h ?_
  extract_lets _ _ _ s1
  have h1 : Evolves r s1 := .ite h.tntCount.tntCount h.tntCount
  exact .ite h1.other.raise h1.other

theorem Evolves.withdraw (h : Evolves r s) {c : Nat} : Evolves r (s.withdraw c) := by
  unfold State.withdraw
  split
  · refine .ite ?_ h
    split
    · refine .ite ?_ h
      extract_lets _ s5
      have h5 : Evolves r s5 := by
        unfold s5
        split
        · exact .ite h.cancelOne.cancelOne h.cancelOne
        · exact h.cancelOne
      split
      · exact .ite h5.clearFlight.tntCount.raise h5.clearFlight.tntCount.raise.setQueue
      · exact h5.clearFlight.tntCount.raise
    · split
      · exact .ite h.cancelOne.clearFlight.tntCount.raise h
      · exact h
  · exact h

theorem Evolves.takeFrame (h : Evolves r s) {i : Nat} : Evolves r (s.takeFrame i).2 := by
  unfold State.takeFrame
  extract_lets _
  split
  · refine .ite_snd ?_ h.setLcps.pair
    split
    exact (h.lcpFrame.of_snd ‹_›).pair
  · split
    · exact .ite_snd h.setQueue.pair h
    · refine .ite_snd ?_ h
      split
      exact (h.lcpFrame.of_snd ‹_›).pair

theorem Evolves.placeEvent (h : Evolves r s) {c i : Nat} : Evolves r (s.placeEvent c i) := by
  unfold State.placeEvent
  extract_lets _
  split
  have h6 := (Evolves.ite_snd h.setLkWork.takeFrame h.setLkWork.pair).of_snd ‹_›
  split
  · exact h6.startExchange
  · split
    · exact h6.submitRx.setFlight
    · exact h6

theorem Evolves.roundRobin (h : Evolves r s) {c : Nat} : Evolves r (s.roundRobin c).2 := by
  unfold State.roundRobin
  extract_lets _ _ _ _ best
  clear_value best
  split
  · exact h
  · exact (h.foldl (fun _ _ h => h.other)).pair

theorem Evolves.choose (h : Evolves r s) {c : Nat} : Evolves r (s.choose c) := by
  unfold State.choose
  refine .ite h ?_
  extract_lets _
  split
  · exact h.setQueue.startExchange
  · split
    · exact h.placeEvent
    · split
      · split
        have h9 := h.takeFrame.of_snd ‹_›
        split
        · exact h9.startExchange
        · exact h9
      · split
        · exact (h.roundRobin.of_snd ‹_›).setQueue.startExchange
        · exact (h.roundRobin.of_snd ‹_›)

theorem Evolves.postTunnel (h : Evolves r s) : Evolves r s.postTunnel := by
  unfold State.postTunnel
  refine h.other.foldl fun _ _ h1 => ?_
  extract_lets _
  split
  split
  split
  exact (((h1.composeFrame.of_snd ‹_›).draw.of_snd ‹_›).draw.of_snd ‹_›).postDesc

theorem Evolves.pass (h : Evolves r s) : Evolves r s.pass := h.postTunnel.foldl (fun _ _ h => h.withdraw.choose)

theorem Evolves.execSchedulingPass (h : Evolves r s) : Leads r (execSchedulingPass s) := .next (.ite h.pass h)

theorem Evolves.closingStep (h : Evolves r s) {i : Nat} : Evolves r (s.closingStep i) :=
  .ite (.ite h.linkDown h.setLkWork) h

theorem Evolves.tntComplete (h : Evolves r s) {n : Nat} : Evolves r (s.tntComplete n) := by
  unfold State.tntComplete
  extract_lets _
  split
  · exact h.freeSlot.pass
  · extract_lets _ _ s5
    have h5 : Evolves r s5 := by
      unfold s5
      split
      · exact h.freeSlot.endDesc
      · exact h.freeSlot
    exact .ite h5.chargeExchange.clearFlight.closingStep.pass h5.setFlight.pass

theorem Evolves.execCompletionWrite (h : Evolves r s) {n : Nat} : Leads r (execCompletionWrite n s) :=
  .next (.ite h (.ite h.tntComplete (.ite h.lnkRingPut.freeSlot h)))

theorem Evolves.answerWith (h : Evolves r s) {i ended : Nat} {d : Desc} : Evolves r (s.answerWith i ended d) := by
  unfold State.answerWith
  extract_lets _
  refine .ite h ?_
  split
  · extract_lets _
    split
    · exact h.submitTx.setFlight
    · exact h.submitTx.setFlight
  · exact h

theorem Evolves.followerAnswer (h : Evolves r s) {i ended : Nat} : Evolves r (s.followerAnswer i ended) := by
  unfold State.followerAnswer
  refine .ite ?_ h
  split
  have h4 := h.takeFrame.of_snd ‹_›
  split
  · exact h4.answerWith
  · exact h4

theorem Evolves.heard (h : Evolves r s) {i ended : Nat} : Evolves r (s.heard i ended) :=
  .ite h.setLk.setLkWork.setLcps h.setLk.setLkWork

theorem Evolves.lcpIn (h : Evolves r s) {op g ended : Nat} {p : List Byte} {f : State → State}
    (hf : ∀ t, Evolves r t → Evolves r (f t)) :
    Evolves r (s.lcpIn op g ended p f) :=
  .ite h (.ite h.lkCount (hf _ h.heard))

theorem Evolves.lcpAnswer (h : Evolves r s) {i ended op : Nat} {rest : List Byte} :
    Evolves r (s.lcpAnswer i ended op rest) := by
  unfold State.lcpAnswer
  split
  exact (h.lcpFrame.of_snd ‹_›).answerWith

theorem Evolves.takeOpen (h : Evolves r s) {i ended stamp : Nat} {p : List Byte} :
    Evolves r (s.takeOpen i ended stamp p) :=
  .ite (.ite h.setLk.setLk.setLk.setLk.setLk.setLk.setLk.setLk.setLk.setLk.lcpAnswer
    h.setLk.setLk.setLk.setLk.setLk.setLk.setLk.setLk.setLk.setLk.lcpAnswer.linkUp)
    h.setLk.setLk.setLk.setLk.setLk.setLk.setLk.setLk.setLk.lcpAnswer

theorem Evolves.execOpenCmd (h : Evolves r s) {g stamp ended : Nat} {p : List Byte} :
    Leads r (execOpenCmd g stamp ended p s) :=
  .next (h.lcpIn (fun _ h => .ite h h.takeOpen))

theorem Evolves.execOpenAck (h : Evolves r s) {g ended : Nat} {p : List Byte} :
    Leads r (execOpenAck g ended p s) :=
  .next (h.lcpIn (fun _ h => .ite (.ite h.setLcps.setLk.linkUp h.setLcps.linkDown) h))

theorem Evolves.execClose (h : Evolves r s) {g ended : Nat} {p : List Byte} : Leads r (execClose g ended p s) := by
  unfold Machine.execClose
  refine .next ?_
  refine h.lcpIn fun _ h1 => ?_
  extract_lets _ _ f s4
  have h4 : Evolves r s4 := by
    unfold s4
    clear_value f
    split
    · exact h1.lcpAnswer.setFlight
    · exact h1.lcpAnswer
  exact h4.linkDown

theorem Evolves.execCloseAck (h : Evolves r s) {g ended : Nat} {p : List Byte} :
    Leads r (execCloseAck g ended p s) :=
  .next (h.lcpIn (fun _ h => .ite h.linkDown h))

theorem Evolves.execKeepalive (h : Evolves r s) {g ended : Nat} {p : List Byte} :
    Leads r (execKeepalive g ended p s) :=
  .next (h.lcpIn (fun _ h => h.followerAnswer))

theorem Evolves.execChmap (h : Evolves r s) {g ended : Nat} {p : List Byte} : Leads r (execChmap g ended p s) :=
  .next (h.lcpIn (fun _ h => .ite h h.setLk.setLk.setLkWork.followerAnswer))

theorem Evolves.endAsk (h : Evolves r s) {i : Nat} {st : Status} : Evolves r (s.endAsk i st) :=
  (Evolves.ite h.setLkWork.setLk.setLcps.raise h.setLkWork.setLk.setLcps).raise.swapNotice

theorem Evolves.agreeSwap (h : Evolves r s) {i e : Nat} : Evolves r (s.agreeSwap i e) :=
  h.setLkWork.setLcps.setLk.setLk

theorem Evolves.swapAnswer (h : Evolves r s) {i ended e : Nat} {st : Status} :
    Evolves r (s.swapAnswer i ended e st) :=
  h.lcpAnswer

theorem Evolves.execSwapReq (h : Evolves r s) {g ended : Nat} {p : List Byte} :
    Leads r (execSwapReq g ended p s) :=
  .next (h.lcpIn (fun _ h => .ite (.ite h.swapAnswer h.endAsk.agreeSwap.swapAnswer)
    (.ite h.swapAnswer (.ite h.agreeSwap.swapAnswer h.swapAnswer))))

theorem Evolves.execSwapRsp (h : Evolves r s) {g ended : Nat} {p : List Byte} :
    Leads r (execSwapRsp g ended p s) :=
  .next (h.lcpIn (fun _ h => .ite (.ite h.agreeSwap h.endAsk) h))

theorem Evolves.eventTally (h : Evolves r s) {i : Nat} : Evolves r (s.eventTally i) := by
  unfold State.eventTally
  extract_lets _ s1
  have h1 : Evolves r s1 := .ite h.lkCount h
  exact .ite h1.setLkWork.setLk.lkCount.raise h1.setLkWork

theorem Evolves.eventEffects (h : Evolves r s) {i : Nat} : Evolves r (s.eventEffects i) := by
  unfold State.eventEffects
  extract_lets _ _ s1
  have h1 : Evolves r s1 := .ite h.setLk.setLkWork.setLcps h
  exact .ite h1.setLkWork.setLk.lkCount.raise.swapNotice h1

theorem Evolves.linkEvent (h : Evolves r s) {i : Nat} : Evolves r (s.linkEvent i) :=
  .ite h.eventTally.linkDown
    (.ite h.eventTally.eventEffects.lkCount.setLk.setLk.setLkWork.endAsk
    h.eventTally.eventEffects.lkCount.setLk.setLk.setLkWork)

theorem Evolves.execLinkEvent (h : Evolves r s) {i : Nat} : Leads r (execLinkEvent i s) :=
  .next (.ite h.linkEvent h)

theorem Evolves.execSupervisionTimeout (h : Evolves r s) {i : Nat} : Leads r (execSupervisionTimeout i s) :=
  .next (.ite h.linkDown h)

/-! ### Notices to the host -/

theorem Evolves.openChannels (h : Evolves r s) {ep : Endpoint} : Evolves r (s.openChannels ep) :=
  h.foldl (fun _ _ h => h.setChan)

theorem Evolves.handleHslSync (h : Evolves r s) {o : Origin} {x : List Byte} :
    Evolves r (handleHslSync o x s).2 :=
  h.openChannels.raise.pair

theorem Evolves.execHslSync (h : Evolves r s) {o : Origin} {p : List Byte} : Leads r (execHslSync o p s) :=
  .next (h.hostCommand (fun _ _ _ h => h.handleHslSync))

theorem Evolves.handleHslStatus (h : Evolves r s) {x : Origin} {x' : List Byte} :
    Evolves r (handleHslStatus x x' s).2 :=
  h

theorem Evolves.execHslStatus (h : Evolves r s) {o : Origin} {p : List Byte} : Leads r (execHslStatus o p s) :=
  .next (h.hostCommand (fun _ _ _ h => h.handleHslStatus))

theorem Evolves.execHslAckTimer (h : Evolves r s) {ep : Endpoint} {ch : Nat} :
    Leads r (execHslAckTimer ep ch s) := by
  unfold Machine.execHslAckTimer
  refine .next ?_
  extract_lets _
  split
  · exact .ite h.setChan.send h
  · exact h

theorem Evolves.sendNotice (h : Evolves r s) {code seq : Nat} {payload : List Byte} :
    Evolves r (s.sendNotice code seq payload) :=
  h.send

theorem Evolves.sendFirst (h : Evolves r s) {n : Notice} : Evolves r (s.sendFirst n) := h.other.sendNotice

theorem Evolves.sendLost (h : Evolves r s) {l : LostNotice} : Evolves r (s.sendLost l) := h.other.sendNotice

theorem Evolves.execNoticeSend (h : Evolves r s) : Leads r (execNoticeSend s) := by
  unfold Machine.execNoticeSend
  refine .next ?_
  refine .ite h ?_
  extract_lets n l
  clear_value n
  clear_value l
  split
  · exact h
  · exact h.sendFirst
  · exact h.sendLost
  · exact .ite h.sendFirst h.sendLost

theorem Evolves.execNoticeRetransmit (h : Evolves r s) {seq : Nat} : Leads r (execNoticeRetransmit seq s) := by
  unfold Machine.execNoticeRetransmit
  refine .next ?_
  refine .ite h ?_
  split
  · exact h.other.sendNotice.count
  · exact .ite h.sendLost.count h
  · exact h

theorem Evolves.ackNotice (h : Evolves r s) {seq : Nat} : Evolves r (s.ackNotice seq) := by
  unfold State.ackNotice
  extract_lets _
  split
  · exact h.other
  · exact .ite (.ite h.other.other h.other.other) h.other

theorem Evolves.badFrame (h : Evolves r s) : Evolves r s.badFrame := h.count.raise

theorem Evolves.execHslAck (h : Evolves r s) {ep : Endpoint} {seq : Nat} : Leads r (execHslAck ep seq s) :=
  .next (.ite h (.ite h.frameIn.badFrame h.frameIn.ackNotice))

theorem Evolves.execHslArbitration (h : Evolves r s) {host : Bool} : Leads r (execHslArbitration host s) := by
  unfold Machine.execHslArbitration
  refine .next ?_
  refine .ite h ?_
  split
  · exact h
  · exact .ite h.other.count h.other.emit

theorem Evolves.execHslConfigApply (h : Evolves r s) : Leads r (execHslConfigApply s) :=
  .next (.ite h.other.flushWaiting h)

theorem Evolves.execHslLengthDiscard (h : Evolves r s) {length : Nat} :
    Leads r (execHslLengthDiscard length s) :=
  .next (.ite h.count h)

theorem Evolves.startLink (h : Evolves r s) : Evolves r s.startLink := h.other

theorem Evolves.trimOldest (h : Evolves r s) {fuel : Nat} : Evolves r (s.trimOldest fuel) := by
  induction fuel generalizing s with
  | zero => exact h
  | succ fuel ih =>
    unfold State.trimOldest
    cases s.hsl.notices with
    | nil => exact h
    | cons n l => exact .ite h (ih h.other.dropNotice)

theorem Evolves.trimNotices (h : Evolves r s) : Evolves r s.trimNotices := h.other.trimOldest

/-! ### The journal -/

theorem Evolves.setFlow (h : Evolves r s) {f : Nat} {x : Flow} : Evolves r (s.setFlow f x) := h.other

theorem Evolves.mapFlow (h : Evolves r s) {f : Nat} {g : Flow → Flow} : Evolves r (s.mapFlow f g) := by
  unfold State.mapFlow
  split
  · exact h.setFlow
  · exact h

theorem Evolves.dropMsg (h : Evolves r s) {j : Nat} : Evolves r (s.dropMsg j) := h.other

theorem Evolves.jrnCount (h : Evolves r s) {k : Nat} : Evolves r (s.jrnCount k) := h.count

theorem Evolves.jrnNotice (h : Evolves r s) {st : Status} {jseq : Nat} : Evolves r (s.jrnNotice st jseq) := h.notice

theorem Evolves.wearCheck (h : Evolves r s) : Evolves r s.wearCheck := .ite h.raise.raise.jrnNotice h

theorem Evolves.writePage (h : Evolves r s) {ckpt : Bool} {recs : List (List Byte)} :
    Evolves r (s.writePage ckpt recs) := by
  unfold State.writePage
  extract_lets _ _ _ s1
  have h1 : Evolves r s1 := .ite h.touchPlane.setFlash.flcCount h
  exact (Evolves.ite h1.touchPlane.setFlash.flcCount h1).other.setRegN.wearCheck

theorem Evolves.writePages (h : Evolves r s) {ckpt : Bool} {recs : List (List Byte)} :
    Evolves r (s.writePages ckpt recs) :=
  h.foldl (fun _ _ h => h.writePage)

theorem Evolves.mapMirrors (h : Evolves r s) {f : List (List Byte) → List (List Byte)} :
    Evolves r (s.mapMirrors f) :=
  h.other

theorem Evolves.trimMirrors (h : Evolves r s) : Evolves r s.trimMirrors := .ite h.mapMirrors h.mapMirrors

theorem Evolves.flushMirrors (h : Evolves r s) : Evolves r s.flushMirrors := .ite h.writePages.trimMirrors h

theorem Evolves.writeRecord (h : Evolves r s) {r' : List Byte} : Evolves r (s.writeRecord r') :=
  .ite ((Evolves.ite h.other h).mapMirrors) ((Evolves.ite h.mapMirrors h).writePages.trimMirrors)

theorem Evolves.beginCommit (h : Evolves r s) {type fidx w8 w12 : Nat} {body : List Byte} {what : CommitFor} :
    Evolves r (s.beginCommit type fidx w8 w12 body what) :=
  h.other

theorem Evolves.beginAccept (h : Evolves r s) {fidx life seq : Nat} {payload : List Byte} {what : CommitFor} :
    Evolves r (s.beginAccept fidx life seq payload what) := by
  unfold State.beginAccept
  split
  · exact h
  · exact h.beginCommit

theorem Evolves.subMsg (h : Evolves r s) {b payload : List Byte} {reserved : Bool} {host : Option Origin} :
    Evolves r (s.subMsg b payload reserved host).2 := by
  unfold State.subMsg
  extract_lets _ _ s1
  have h1 : Evolves r s1 := .ite h.raise h
  exact (Evolves.ite h1.beginAccept h1.raise).setRegN.pair

theorem Evolves.execJrnSubmit (h : Evolves r s) {user : Bool} {w : Word} : Leads r (execJrnSubmit user w s) :=
  h.guarded (.ite h.subMsg h)

theorem Evolves.handleMsgSend (h : Evolves r s) {o : Origin} {p : List Byte} :
    Evolves r (handleMsgSend o p s).2 := by
  unfold Machine.handleMsgSend
  split
  have h2 := h.subMsg.of_snd ‹_›
  exact .ite_snd h2.pair h2.pair

theorem Evolves.execMsgSend (h : Evolves r s) {o : Origin} {p : List Byte} : Leads r (execMsgSend o p s) :=
  .next (h.hostCommand (fun _ _ _ h => h.handleMsgSend))

theorem Evolves.composeMsg (h : Evolves r s) {f : Flow} {m : Msg} {peer : Nat} :
    Evolves r (s.composeMsg f m peer).2 := by
  unfold State.composeMsg
  refine .ite_snd h ?_
  extract_lets _
  split
  split
  split
  split
  exact ((((h.composeFrame.of_snd ‹_›).draw.of_snd ‹_›).draw.of_snd ‹_›).roll.of_snd ‹_›).pair

theorem Evolves.sendMsg (h : Evolves r s) {m : Msg} : Evolves r (s.sendMsg m) := by
  unfold State.sendMsg
  split
  · split
    · exact h
    · split
      split
      have h6 := (h.composeMsg.of_snd ‹_›).postDesc.of_snd ‹_›
      exact .ite ((Evolves.ite h6 h6.jrnCount).mapMsg) h6.mapMsg
  · exact h

theorem Evolves.pumpFlow (h : Evolves r s) {f : Nat} : Evolves r (s.pumpFlow f) := by
  unfold State.pumpFlow
  split
  · exact .ite h.sendMsg h
  · exact h

theorem Evolves.execRetransmit (h : Evolves r s) {j : Nat} : Leads r (execRetransmit j s) := by
  unfold Machine.execRetransmit
  refine .next ?_
  split
  · exact .ite h.sendMsg h
  · exact h

theorem Evolves.reportEntry (h : Evolves r s) {n : Nat} (e : s.reportEntry = some (n, t)) : Evolves r t := by
  unfold State.reportEntry at e
  split at e
  · obtain ⟨-, rfl⟩ := Prod.mk.inj (Option.some.inj e)
    exact h
  · split at e
    · cases e
    · obtain ⟨-, rfl⟩ := Prod.mk.inj (Option.some.inj e)
      exact h.other.setFlow.beginCommit

theorem Evolves.report (h : Evolves r s) {m : Msg} {st : Status} {confirm : Bool} : Evolves r (s.report m st confirm) :=
  by
  unfold State.report
  split
  · exact h
  · refine .ite h ?_
    split
    · exact h.jrnCount
    · exact (h.reportEntry ‹_›).beginAccept.mapFlow

theorem Evolves.dringLevel (h : Evolves r s) {r' : Nat} : Evolves r (s.dringLevel r') := .ite h.clearBit h.setBit

theorem Evolves.dringPut (h : Evolves r s) {r' : Nat} {e : List Byte} : Evolves r (s.dringPut r' e) :=
  h.dma.setFld.dringLevel

theorem Evolves.redeliver (h : Evolves r s) {p : Nat → Bool} : Evolves r (s.redeliver p) := h.other.other

theorem Evolves.dringWritten (h : Evolves r s) {r' : Nat} : Evolves r (s.dringWritten r') :=
  h.setFld.setFld.dringLevel.redeliver

theorem Evolves.deliver (h : Evolves r s) {f : Flow} {m : Msg} {t b : Nat} : Evolves r (s.deliver f m t b) := by
  unfold State.deliver
  extract_lets _ _ s1
  have h1 : Evolves r s1 := .ite h.dma.dringPut h.dma.notice
  split
  · exact h1.mapMsg
  · exact .ite h1.mapMsg.raise.notice h1.mapMsg.raise

theorem Evolves.execDelivery (h : Evolves r s) {j : Nat} : Leads r (execDelivery j s) := by
  unfold Machine.execDelivery
  refine .next ?_
  split
  · exact h
  · split
    · exact .ite h.deliver h
    · exact h

theorem Evolves.execDeliveryConfigApply (h : Evolves r s) : Leads r (execDeliveryConfigApply s) :=
  .next (.ite h.other.redeliver h)

theorem Evolves.release (h : Evolves r s) {j : Nat} {host : Option Origin} : Evolves r (s.release j host).2 := by
  unfold State.release
  extract_lets _
  refine .ite_snd ?_ h.setFld.raise.pair
  split
  · exact h.setFld.mapMsg.beginCommit.pair
  · exact h.setFld.pair

theorem Evolves.execJrnRelease (h : Evolves r s) {user : Bool} {w : Word} : Leads r (execJrnRelease user w s) :=
  h.guarded (.ite h.release h)

theorem Evolves.handleMsgRelease (h : Evolves r s) {o : Origin} {p : List Byte} :
    Evolves r (handleMsgRelease o p s).2 := by
  unfold Machine.handleMsgRelease
  split
  have h2 := h.release.of_snd ‹_›
  exact .ite_snd h2.pair h2.pair

theorem Evolves.execMsgRelease (h : Evolves r s) {o : Origin} {p : List Byte} :
    Leads r (execMsgRelease o p s) :=
  .next (h.hostCommand (fun _ _ _ h => h.handleMsgRelease))

theorem Evolves.execMessageExpire (h : Evolves r s) {j : Nat} : Leads r (execMessageExpire j s) := by
  unfold Machine.execMessageExpire
  refine .next ?_
  split
  · exact h
  · exact .ite h.mapMsg.beginCommit h

theorem Evolves.execFlowFree (h : Evolves r s) {f : Nat} : Leads r (execFlowFree f s) := by
  unfold Machine.execFlowFree
  refine .next ?_
  split
  · exact h
  · exact .ite (.ite h.other.beginCommit h.other) h

theorem Evolves.openFlow (h : Evolves r s) {d : List Byte} {host : Option Origin} :
    Evolves r (s.openFlow d host).2.2 := by
  unfold State.openFlow
  extract_lets _
  split
  · exact h
  · split
    · exact h
    · split
      · exact h
      · split
        · exact h
        · exact h.other.setFlow.beginCommit.pair

theorem Evolves.closeFlow (h : Evolves r s) {f : Nat} {host : Option Origin} :
    Evolves r (s.closeFlow f host).2 := by
  unfold State.closeFlow
  split
  · exact h
  · exact .ite_snd h h.beginCommit.pair

theorem Evolves.epochFlow (h : Evolves r s) {f : Nat} {host : Option Origin} :
    Evolves r (s.epochFlow f host).2 := by
  unfold State.epochFlow
  split
  · exact h
  · exact .ite_snd h (.ite_snd h h.other.beginCommit.pair)

theorem Evolves.flowStat (h : Evolves r s) {f : Nat} {st : Status} : Evolves r (s.flowStat f st) :=
  .ite h.setRegN h.setRegN.raise

theorem Evolves.flowCmd (h : Evolves r s) {user : Bool} {w : Word} {f : State → Nat → Status × Nat × State}
    (hf : ∀ t x2, Evolves r t → Evolves r (f t x2).2.2) :
    Leads r (s.flowCmd user w f) := by
  unfold State.flowCmd
  refine h.guarded ?_
  refine .ite ?_ h
  extract_lets _
  refine .ite h.flowStat ?_
  split
  exact ((hf _ _ h).of_snd_snd ‹_›).flowStat

theorem Evolves.execFlowcmdOpen (h : Evolves r s) {user : Bool} {w : Word} :
    Leads r (execFlowcmdOpen user w s) :=
  h.flowCmd (fun _ _ h => h.openFlow)

theorem Evolves.execFlowcmdClose (h : Evolves r s) {user : Bool} {w : Word} :
    Leads r (execFlowcmdClose user w s) :=
  h.flowCmd (fun _ _ h => h.closeFlow.pair)

theorem Evolves.execFlowcmdEpoch (h : Evolves r s) {user : Bool} {w : Word} :
    Leads r (execFlowcmdEpoch user w s) :=
  h.flowCmd (fun _ _ h => h.epochFlow.pair)

theorem Evolves.execFlowcmdGet (h : Evolves r s) {user : Bool} {w : Word} : Leads r (execFlowcmdGet user w s) := by
  unfold Machine.execFlowcmdGet
  refine h.flowCmd fun _ _ h1 => ?_
  split
  · exact h1.dma.pair
  · exact h1

theorem Evolves.handleFlowOpen (h : Evolves r s) {o : Origin} {p : List Byte} :
    Evolves r (handleFlowOpen o p s).2 := by
  unfold Machine.handleFlowOpen
  refine .ite_snd h.flowStat.pair ?_
  split
  have h2 := h.openFlow.of_snd_snd ‹_›
  exact .ite_snd h2.flowStat.pair h2.flowStat.pair

theorem Evolves.execFlowOpen (h : Evolves r s) {o : Origin} {p : List Byte} : Leads r (execFlowOpen o p s) :=
  .next (h.hostCommand (fun _ _ _ h => h.handleFlowOpen))

theorem Evolves.handleFlow (h : Evolves r s) {f : State → Nat → Option Origin → Status × State} {o : Origin}
    {p : List Byte} (hf : ∀ t x2 x3, Evolves r t → Evolves r (f t x2 x3).2) :
    Evolves r (handleFlow f o p s).2 := by
  unfold Machine.handleFlow
  extract_lets _
  refine .ite_snd h.flowStat.pair ?_
  split
  have h2 := (hf _ _ _ h).of_snd ‹_›
  exact .ite_snd h2.flowStat.pair h2.flowStat.pair

theorem Evolves.execFlowClose (h : Evolves r s) {o : Origin} {p : List Byte} : Leads r (execFlowClose o p s) :=
  .next (h.hostCommand (fun _ _ _ h' => h'.handleFlow (fun _ _ _ h => h.closeFlow)))

theorem Evolves.execFlowEpoch (h : Evolves r s) {o : Origin} {p : List Byte} : Leads r (execFlowEpoch o p s) :=
  .next (h.hostCommand (fun _ _ _ h' => h'.handleFlow (fun _ _ _ h => h.epochFlow)))

theorem Evolves.handleFlowGet (h : Evolves r s) {x : Origin} {p : List Byte} :
    Evolves r (handleFlowGet x p s).2 := by
  unfold Machine.handleFlowGet
  extract_lets _
  refine .ite_snd h.flowStat.pair ?_
  split
  · exact h.flowStat.pair
  · exact h.flowStat.pair

theorem Evolves.execFlowGet (h : Evolves r s) {o : Origin} {p : List Byte} : Leads r (execFlowGet o p s) :=
  .next (h.hostCommand (fun _ _ _ h => h.handleFlowGet))

theorem Evolves.handleJrnStatus (h : Evolves r s) {x : Origin} {x' : List Byte} :
    Evolves r (handleJrnStatus x x' s).2 :=
  h

theorem Evolves.execJrnStatus (h : Evolves r s) {o : Origin} {p : List Byte} : Leads r (execJrnStatus o p s) :=
  .next (h.hostCommand (fun _ _ _ h => h.handleJrnStatus))

theorem Evolves.handleHoldTest (h : Evolves r s) {o : Origin} {x : List Byte} :
    Evolves r (handleHoldTest o x s).2 :=
  .ite_snd h (.ite_snd h h.other.pair)

theorem Evolves.execHoldTest (h : Evolves r s) {o : Origin} {p : List Byte} : Leads r (execHoldTest o p s) :=
  .next (h.hostCommand (fun _ _ _ h => h.handleHoldTest))

theorem Evolves.finishHoldup (h : Evolves r s) {fall : Nat} {stayed : Bool} :
    Evolves r (s.finishHoldup fall stayed) := by
  unfold State.finishHoldup
  extract_lets _ _ _ _ s1 s2 h'
  have h1 : Evolves r s1 := .ite h.setFld.setFld.setFld.raise h.setFld.setFld.setFld.raise.raise
  have h2 : Evolves r s2 := .ite h1 h1.jrnNotice
  clear_value h'
  split
  · exact h2.other.respond
  · exact h2.other

theorem Evolves.postCack (h : Evolves r s) {g flow epoch seq origin : Nat} {st : Status} :
    Evolves r (s.postCack g flow epoch seq origin st) := by
  unfold State.postCack
  extract_lets _
  split
  split
  split
  exact (((h.composeFrame.of_snd ‹_›).draw.of_snd ‹_›).draw.of_snd ‹_›).postDesc

theorem Evolves.takeData (h : Evolves r s) {g f epoch seq deadline ecrc : Nat} {payload : List Byte} :
    Evolves r (s.takeData g f epoch seq deadline ecrc payload) :=
  h.beginCommit

theorem Evolves.newTransit (h : Evolves r s) {g f flow origin epoch seq deadline : Nat} :
    Evolves r (s.newTransit g f flow origin epoch seq deadline) :=
  h.setFlow.beginCommit

theorem Evolves.judgeData (h : Evolves r s) {g : Nat} {p : List Byte} : Evolves r (s.judgeData g p) := by
  unfold State.judgeData
  extract_lets _ _ _ _ _ _ _ _ e
  refine .ite h.postCack ?_
  refine .ite h.jrnCount.raise.postCack ?_
  refine .ite h.jrnCount.postCack ?_
  refine .ite h ?_
  refine .ite h.raise.postCack ?_
  refine .ite h.lkCount ?_
  clear_value e
  split
  · exact h.takeData
  · exact h.newTransit.takeData
  · exact h

theorem Evolves.execCustodyData (h : Evolves r s) {g : Nat} {p : List Byte} : Leads r (execCustodyData g p s) :=
  .next (.ite h (.ite h.lkCount (.ite h h.judgeData)))

theorem Evolves.settleMsg (h : Evolves r s) {m : Msg} {st : Nat} : Evolves r (s.settleMsg m st) :=
  .ite h.mapMsg.beginCommit (.ite h.mapMsg.beginCommit (.ite h.mapMsg.beginCommit h))

theorem Evolves.execCack (h : Evolves r s) {g : Nat} {p : List Byte} : Leads r (execCack g p s) := by
  unfold Machine.execCack
  refine .next ?_
  refine .ite h ?_
  refine .ite h.lkCount ?_
  refine .ite h ?_
  split
  · exact h.settleMsg
  · exact h

theorem Evolves.holdMsg (h : Evolves r s) {r' : List Byte} : Evolves r (s.holdMsg r') := h.other.mapFlow

theorem Evolves.settled (h : Evolves r s) {j : Nat} : Evolves r (s.settled j) := by
  unfold State.settled
  split
  · exact h.dropMsg.pumpFlow
  · exact h

theorem Evolves.flowDone (h : Evolves r s) {code f : Nat} {host : Option Origin} {rest : List Byte} :
    Evolves r (s.flowDone code f host rest) := by
  unfold State.flowDone
  extract_lets _
  split
  · exact h.flowStat.respond
  · exact h.flowStat

theorem Evolves.committed (h : Evolves r s) {c : Commit} : Evolves r (s.committed c) := by
  unfold State.committed
  extract_lets _ _ s1
  have h1 : Evolves r s1 := h.holdMsg.setRegN.jrnCount.raise
  split
  · extract_lets _ s5
    have h5 : Evolves r s5 := by
      unfold s5
      split
      · exact h1.setRegN.respond
      · exact h1.setRegN
    exact h5.pumpFlow
  · exact h.holdMsg.pumpFlow
  · extract_lets s10
    have h10 : Evolves r s10 := by
      unfold s10
      split
      · exact h.holdMsg.jrnCount.postCack
      · exact h.holdMsg.jrnCount
    exact h10.pumpFlow
  · exact h.jrnCount.settled
  · extract_lets _
    split
    · exact h.dropMsg.jrnCount.setFld.raise.respond
    · exact h.dropMsg.jrnCount.setFld.raise
  · split
    · exact h
    · exact (Evolves.ite h.jrnCount.raise h).report.settled
  · exact h.mapFlow.flowDone
  · exact h.mapFlow.flowDone
  · exact h.mapFlow.flowDone
  · split
    · exact h.other.fwNotice.respond
    · exact h.other.fwNotice
  · extract_lets _
    split
    · exact h.other.fwNotice.other.respond
    · exact h.other
  · exact h

theorem Evolves.commitOne (h : Evolves r s) : Evolves r s.commitOne := by
  unfold State.commitOne
  split
  · exact h
  · exact .ite h.writeRecord.other.committed h

theorem Evolves.execCommitDone (h : Evolves r s) : Leads r (execCommitDone s) := .next (.ite h.commitOne h)

theorem Evolves.execBufferFlush (h : Evolves r s) : Leads r (execBufferFlush s) := .next (.ite h.flushMirrors h)

theorem Evolves.commitAll (h : Evolves r s) {fuel : Nat} : Evolves r (s.commitAll fuel) := by
  induction fuel generalizing s with
  | zero => exact h
  | succ fuel ih => exact .ite h (ih h.commitOne)

theorem Evolves.jrnFlush (h : Evolves r s) : Evolves r s.jrnFlush := h.commitAll.flushMirrors

theorem Evolves.execJournalCheckpoint (h : Evolves r s) : Leads r (execJournalCheckpoint s) :=
  .next (.ite h.other.writePages.eraseFlash.eraseFlash.flcCount.other h)

theorem Evolves.execWearoverClear (h : Evolves r s) : Leads r (execWearoverClear s) := .next (.ite h.lower h)

theorem Evolves.execPlaneFail (h : Evolves r s) {k status : Nat} : Leads r (execPlaneFail k status s) :=
  .next (.ite h.clearBit.raise.other.captureFault.jrnNotice h)

theorem Evolves.replay (h : Evolves r s) {r' : List Byte} : Evolves r (s.replay r') := by
  unfold State.replay
  extract_lets _ _ _ _ _ _ _ _ s1
  have h1 : Evolves r s1 := .ite h.other h
  split
  · exact h.holdMsg.mapMsg.mapFlow
  · exact h.dropMsg
  · exact h.dropMsg
  · exact h.dropMsg
  · exact h.dropMsg
  · split
    · exact .ite h1.setFlow h1.setFlow
    · exact h1.setFlow
  · split
    · exact .ite h.other h.setFlow
    · exact h
  · exact h.other
  · exact h.other
  · exact h.other
  · exact h

theorem Evolves.startRecovery (h : Evolves r s) : Evolves r s.startRecovery := h.other.raise

theorem Evolves.rebuildCopies (h : Evolves r s) {recs : List (List Byte)} : Evolves r (s.rebuildCopies recs) :=
  h.eraseFlash.eraseFlash.other.writePages

theorem Evolves.finishRecovery (h : Evolves r s) : Evolves r s.finishRecovery := by
  unfold State.finishRecovery
  extract_lets _ _ _ _ _ _ _ _ _ _ _ _ _ _ _ _ _ s1 _ _ _ _ s2 _ _ _ s3
  have h1 : Evolves r s1 := h.other.setFld.foldl (fun _ _ h => h.replay)
  have h2 : Evolves r s2 := .ite h1.other.setRegN.rebuildCopies h1.other.setRegN.writePages
  have h3 : Evolves r s3 := .ite h2.mapMirrors.lower.other.raise h2.mapMirrors.lower.other
  exact .ite h3.raise h3

/-! ### Time made up -/

theorem Evolves.tmbAdd16 (h : Evolves r s) {n : Nat} : Evolves r (s.tmbAdd16 n) := h.setTb

theorem Evolves.afterMakeup (h : Evolves r s) {before n : Nat} : Evolves r (s.afterMakeup before n) :=
  h.ntmMakeup.dutyMakeup

theorem Evolves.execTmbMakeup (h : Evolves r s) : Leads r (execTmbMakeup s) :=
  .next (.ite ((Evolves.ite h.tmbAdd16.setTb.lower h.tmbAdd16.setTb.raise).afterMakeup) h)

theorem Evolves.femEdge (h : Evolves r s) {c : Chain} : Evolves r (s.femEdge c) := by
  unfold State.femEdge
  split
  · exact .ite h.setChain h
  · exact h

theorem Evolves.watchdogCycle (h : Evolves r s) : Evolves r s.watchdogCycle := .ite h (.ite h.other h.setFld.other)

theorem Evolves.trialCycle (h : Evolves r s) : Evolves r s.trialCycle := .ite h.other h

theorem Evolves.lfCycle (h : Evolves r s) : Evolves r s.lfCycle := h.setRegN.watchdogCycle.trialCycle

theorem Evolves.lfTick (h : Evolves r s) : Evolves r s.lfTick := .ite h.other h.other.lfCycle

theorem Evolves.clockEdge (h : Evolves r s) : Evolves r s.clockEdge := by
  unfold State.clockEdge
  extract_lets _
  split
  · exact h.other.snapFreeze.setTb.ntmTick.femEdge.femEdge.lfTick
  · exact h.other.tmbAdd16.ntmAdd.lfCycle
  · exact h.other.setTb.lfCycle

/-! ### Transmission -/

theorem Evolves.execChainLockStart (h : Evolves r s) {c : Chain} : Leads r (execChainLockStart c s) := by
  unfold Machine.execChainLockStart
  refine .next ?_
  refine .ite ?_ h
  extract_lets s1
  have h1 : Evolves r s1 := .ite h.setBit.chainOn h
  exact .ite h1.setChState h1

theorem Evolves.execChainIdle (h : Evolves r s) {c : Chain} : Leads r (execChainIdle c s) :=
  .next (.ite (.ite h.setChState.lower.setFld.chainOff.clearBit h.setChState.lower.setFld) h)

theorem Evolves.execCalAutoStart (h : Evolves r s) {c : Chain} : Leads r (execCalAutoStart c s) :=
  .next (.ite h.setChState h)

theorem Evolves.holdBack (h : Evolves r s) {n cause : Nat} : Evolves r (s.holdBack n cause) := h.setSlot

theorem Evolves.takeChain (h : Evolves r s) {n from_ : Nat} : Evolves r (s.takeChain n from_) :=
  h.setChain.setSlot.tune

theorem Evolves.missConflict (h : Evolves r s) {n : Nat} : Evolves r (s.missConflict n) := h.finishAction.lnkCount

theorem Evolves.busyListen (h : Evolves r s) {n : Nat} {waits : Bool} : Evolves r (s.busyListen n waits) := by
  unfold State.busyListen
  extract_lets _
  refine .ite h.setSlot.lnkCount.finishAction ?_
  split
  have h2 := h.setSlot.lnkCount.roll.of_snd ‹_›
  exact (Evolves.ite h2.releaseChain h2).setSlot

theorem Evolves.cutWork (h : Evolves r s) {g : Nat} : Evolves r (s.cutWork g) := .ite h.busyListen h.setSlot.endWork

theorem Evolves.loseClaim (h : Evolves r s) {g : Nat} : Evolves r (s.loseClaim g) :=
  .ite h.missConflict h.releaseChain.setSlot

theorem Evolves.contend (h : Evolves r s) {n g from_ : Nat} : Evolves r (s.contend n g from_) :=
  .ite h.loseClaim.takeChain
    (.ite h.holdBack (.ite h.missConflict
    (.ite (.ite h.narrowDrop.lnkCount.cutWork.takeChain h.missConflict) h.cutWork.takeChain)))

theorem Evolves.claim (h : Evolves r s) {n : Nat} : Evolves r (s.claim n) := by
  unfold State.claim
  extract_lets _
  refine .ite h.finishAction ?_
  refine .ite h.holdBack ?_
  refine .ite h.holdBack ?_
  refine .ite h.holdBack ?_
  refine .ite h.finishAction ?_
  refine .ite h.busyListen ?_
  split
  · exact h.takeChain
  · exact .ite (Evolves.ite h.narrowDrop h).releaseChain.takeChain h.contend

theorem Evolves.execActionClaim (h : Evolves r s) {n : Nat} : Leads r (execActionClaim n s) := by
  unfold Machine.execActionClaim
  refine .next ?_
  extract_lets _
  refine .ite h ?_
  refine .ite (.ite h.finishAction (.ite h.setSlot.claim h)) ?_
  split
  · exact .ite h.claim h
  · exact h

theorem Evolves.openRx (h : Evolves r s) {n : Nat} : Evolves r (s.openRx n) :=
  .ite h.finishAction (.ite h.finishAction h.setChState.setChain.setSlot)

theorem Evolves.openListen (h : Evolves r s) {n : Nat} : Evolves r (s.openListen n) := h.setChState.setChain.setSlot

theorem Evolves.rampUp (h : Evolves r s) {c : Chain} {n : Nat} {f : TxFrame} : Evolves r (s.rampUp c n f) := by
  unfold State.rampUp
  extract_lets _ _ _ _ s1 s2
  have h1 : Evolves r s1 := .ite h.setChState.raise.setChain.narrowDrop h.setChState.raise.setChain
  have h2 : Evolves r s2 := .ite h1.cutBand h1
  exact (Evolves.ite h2.other h2).setSlot

theorem Evolves.runMarker (h : Evolves r s) {n : Nat} : Evolves r (s.runMarker n) :=
  .ite h.finishAction ((Evolves.ite h.fireMain h).setSlot)

theorem Evolves.execActionStart (h : Evolves r s) {n : Nat} : Leads r (execActionStart n s) := by
  unfold Machine.execActionStart
  refine .next ?_
  extract_lets _
  refine .ite (.ite h.runMarker h) ?_
  refine .ite h ?_
  refine .ite (.ite h.openRx h) ?_
  refine .ite (.ite h.openListen h) ?_
  split
  · exact .ite h.rampUp h
  · exact h

theorem Evolves.execRxWindowEnd (h : Evolves r s) {n : Nat} {peak : Int} : Leads r (execRxWindowEnd n peak s) :=
  .next (.ite (.ite h.releaseChain h) (.ite (.ite h.setSlot.endWork (.ite h.setSlot h.endWork)) h))

theorem Evolves.execListenBusy (h : Evolves r s) {n : Nat} {level : Int} : Leads r (execListenBusy n level s) :=
  .next (.ite h.busyListen h)

theorem Evolves.execListenClear (h : Evolves r s) {n : Nat} : Leads r (execListenClear n s) :=
  .next (.ite ((Evolves.ite h.setChState h).setChain.setSlot) h)

theorem Evolves.execBackoffEnd (h : Evolves r s) {n : Nat} : Leads r (execBackoffEnd n s) := by
  unfold Machine.execBackoffEnd
  refine .next ?_
  extract_lets _
  refine .ite h ?_
  refine .ite h.finishAction ?_
  refine .ite h ?_
  refine .ite (.ite h (.ite h.setSlot.lnkCount.finishAction h.setSlot.lnkCount)) ?_
  split
  · exact h.takeChain
  · exact .ite (Evolves.ite h.narrowDrop h).releaseChain.takeChain (.ite h h.contend)

theorem Evolves.execWatchListen (h : Evolves r s) : Leads r (execWatchListen s) :=
  .next (.ite h.tune.setChState.setChain.other h)

theorem Evolves.releaseCtx (h : Evolves r s) {n : Nat} : Evolves r (s.releaseCtx n) := by
  unfold State.releaseCtx
  extract_lets _
  split
  · exact h.ctxCount.ctxFree.setChain
  · exact .ite (.ite (.ite
      (.ite h.ctxCount.setCtx.setChain.showFreq.setSlot.endWork.setChain.setChState
      h.ctxCount.setCtx.setChain.showFreq.setSlot.endWork) h.ctxCount.setCtx.setChain.showFreq.setSlot)
      h.ctxCount.setCtx.setChain.showFreq)
      (.ite h.ctxCount.setCtx.setChain.showFreq.releaseChain h.ctxCount.setCtx.setChain.showFreq)

theorem Evolves.execCtxRelease (h : Evolves r s) {n : Nat} : Leads r (execCtxRelease n s) :=
  .next (.ite h.releaseCtx h)

theorem Evolves.execCoexRequest (h : Evolves r s) {c : Chain} : Leads r (execCoexRequest c s) := by
  unfold Machine.execCoexRequest
  refine .next ?_
  split
  · exact .ite h.setChain h
  · exact h

theorem Evolves.frameCounter (h : Evolves r s) {slot : Nat} {msg : Option Nat} :
    Evolves r (s.frameCounter slot msg).2 := by
  unfold State.frameCounter
  split
  · exact h
  · extract_lets _ _ s3 s6
    have h3 : Evolves r s3 := .ite h.setRegN.raise h.setRegN
    have h6 : Evolves r s6 := by
      unfold s6
      split
      · exact h3.mapMsg
      · exact h3
    exact .ite_snd h h6

theorem Evolves.framePsdu (h : Evolves r s) {n : Nat} : Evolves r (s.framePsdu n).2 := by
  unfold State.framePsdu
  extract_lets _
  refine .ite_snd h ?_
  split
  · exact h
  · split
    · exact h
    · split
      · exact (h.frameCounter.of_snd ‹_›).pair
      · exact (h.frameCounter.of_snd ‹_›).count.pair

theorem Evolves.gateRefuse (h : Evolves r s) {c : Chain} {n reason band : Nat} :
    Evolves r (s.gateRefuse c n reason band) :=
  (Evolves.ite h.setFld.setFld.raise.satCount h.setFld.setFld.raise).setChState.lower.lnkCount.raise.finishAction

theorem Evolves.recordPower (h : Evolves r s) {c : Chain} {a : Act} {vpa : Nat} :
    Evolves r (s.recordPower c a vpa) :=
  .ite h.setFld.setFld.setFld.setFld h.setFld.setFld.setFld.setFld.raise

theorem Evolves.gatePass (h : Evolves r s) {c : Chain} {n vpa : Nat} : Evolves r (s.gatePass c n vpa) := by
  unfold State.gatePass
  extract_lets _
  split
  · exact (h.framePsdu.of_snd ‹_›).finishAction
  · have h4 := h.framePsdu.of_snd ‹_›
    extract_lets _ _ _ s3
    have h3 : Evolves r s3 := .ite h4.setFld.setFld.recordPower.bucketCharge h4.setFld.setFld.recordPower
    exact (Evolves.ite h3.count.raise h3).setChain.showFreq

theorem Evolves.execTransmitGate (h : Evolves r s) {c : Chain} {vpa : Nat} :
    Leads r (execTransmitGate c vpa s) := by
  unfold Machine.execTransmitGate
  refine .next ?_
  split
  · exact h
  · extract_lets _
    refine .ite h.finishAction ?_
    refine .ite ?_ h
    split
    · exact h.gateRefuse
    · exact h.gatePass

theorem Evolves.execRampupEnd (h : Evolves r s) {c : Chain} : Leads r (execRampupEnd c s) := by
  unfold Machine.execRampupEnd
  refine .next ?_
  split
  · exact .ite h.setChState h
  · exact h

theorem Evolves.writeTxStamp (h : Evolves r s) {c : Chain} {ns : Nat} : Evolves r (s.writeTxStamp c ns) := by
  unfold State.writeTxStamp
  split
  · exact h.setPair
  · exact h.setPair

theorem Evolves.execTxLastSymbol (h : Evolves r s) {c : Chain} : Leads r (execTxLastSymbol c s) := by
  unfold Machine.execTxLastSymbol
  refine .next ?_
  split
  · refine .ite ?_ h
    extract_lets _ s4
    have h4 : Evolves r s4 := by
      unfold s4
      split
      · exact h.setChState.writeTxStamp
      · exact h.setChState
    exact h4.setChain.setSlot
  · exact h

theorem Evolves.afterRampDown (h : Evolves r s) {c : Chain} {n last : Nat} :
    Evolves r (s.afterRampDown c n last) :=
  .ite h.setChState h.setChState.lower

theorem Evolves.rampDown (h : Evolves r s) {c : Chain} {f : TxFrame} : Evolves r (s.rampDown c f) := by
  unfold State.rampDown
  extract_lets _ _ _ _ _ _ _ _ s1
  have h1 : Evolves r s1 := .ite h.setChain.other h.setChain
  exact .ite h1.showFreq.setSlot.setChState.lower h1.showFreq.endWork.setChain.afterRampDown

theorem Evolves.execRampdnEnd (h : Evolves r s) {c : Chain} : Leads r (execRampdnEnd c s) := by
  unfold Machine.execRampdnEnd
  refine .next ?_
  split
  · exact .ite h.rampDown h
  · exact h

theorem Evolves.execTurnEnd (h : Evolves r s) {c : Chain} : Leads r (execTurnEnd c s) := by
  unfold Machine.execTurnEnd
  refine .next ?_
  refine .ite h ?_
  extract_lets _
  split
  · exact .ite h.rampUp h
  · exact .ite (.ite h.setChState.lower.openRx h.setChState.lower) h
  · exact .ite h.setChState.lower h

/-! ### Reception -/

theorem Evolves.inlineDrop (h : Evolves r s) : Evolves r s.inlineDrop := h.count.raise

theorem Evolves.meshFrame (h : Evolves r s) {a : Arrived} {i : Nat} {v : MacView} :
    Evolves r (s.meshFrame a i v) := by
  unfold State.meshFrame
  split
  · exact h
  · exact .ite h.meshSample h

theorem Evolves.announce (h : Evolves r s) {a : Arrived} {link : Option Nat} {b : Nat} :
    Evolves r (s.announce a link b) :=
  .ite h.dma.lnkCount.setRegN.other.lnkRingPut h.dma.lnkCount.setRegN.lnkCount.raise

theorem Evolves.heardFrame (h : Evolves r s) {a : Arrived} {i : Nat} : Evolves r (s.heardFrame a i) :=
  .ite h.heard.lkCount.setLkWork.setLk h.heard.lkCount.setLkWork

theorem Evolves.linkFrame (h : Evolves r s) {a : Arrived} {i b : Nat} {v : MacView} :
    Evolves r (s.linkFrame a i b v) :=
  .ite (.ite h.meshFrame.inlineDrop h.meshFrame.followerAnswer)
    (.ite (.ite h.meshFrame.inlineDrop
    (.ite h.meshFrame ((Evolves.ite h.meshFrame.setRegN h.meshFrame).announce.followerAnswer)))
    (.ite (.ite h.meshFrame.announce h.meshFrame.lkCount) h.meshFrame.announce.followerAnswer))

theorem Evolves.receive (h : Evolves r s) {a : Arrived} {b : Nat} : Evolves r (s.receive a b) := by
  unfold State.receive
  extract_lets v
  clear_value v
  split
  · exact h.heardFrame.linkFrame
  · exact h.heardFrame.announce
  · exact h.announce

theorem Evolves.markDelivered (h : Evolves r s) {a : Arrived} : Evolves r (s.markDelivered a) := .ite h.setSlot h

theorem Evolves.execFrameReceived (h : Evolves r s) : Leads r (execFrameReceived s) := by
  unfold Machine.execFrameReceived
  refine .next ?_
  split
  · exact h
  · extract_lets _
    refine .ite h.other.markDelivered ?_
    refine .ite h.other.markDelivered ?_
    refine .ite h.other.markDelivered.lnkCount ?_
    split
    · exact h.other.markDelivered.lnkCount.raise
    · exact h.other.markDelivered.receive

/-! ### Power domains -/

theorem Evolves.setCore (h : Evolves r s) {k : Nat} {c : PipCore} : Evolves r (s.setCore k c) := h.other

theorem Evolves.pipRelease (h : Evolves r s) {k pc : Nat} : Evolves r (s.pipRelease k pc) := h.setCore

theorem Evolves.pipReset (h : Evolves r s) {k : Nat} : Evolves r (s.pipReset k) := h.other

theorem Evolves.bumpEpoch (h : Evolves r s) {d : Nat} : Evolves r (s.bumpEpoch d) := h.other

theorem Evolves.loseRam (h : Evolves r s) {lost : Nat → Bool} : Evolves r (s.loseRam lost) := h.dropRam.other

theorem Evolves.comLost (h : Evolves r s) : Evolves r s.comLost := h.dropContexts.other

theorem Evolves.loseCom (h : Evolves r s) : Evolves r s.loseCom := h.dropRegs.loseRam.comLost.bumpEpoch

theorem Evolves.loseCluster (h : Evolves r s) {n : Nat} : Evolves r (s.loseCluster n) :=
  h.loseRam.bumpEpoch.pipReset

theorem Evolves.loseDomain (h : Evolves r s) {d : Domain} : Evolves r (s.loseDomain d) := by
  unfold State.loseDomain
  split
  · exact h
  · exact h.loseCom
  · exact h.loseCluster
  · exact h.loseCluster
  · exact h.loseCluster
  · exact h.loseCluster
  · exact h.xrefStop
  · exact h.chainOff
  · exact h.chainOff
  · exact h
  · exact h.other

theorem Evolves.saveHeld (h : Evolves r s) : Evolves r s.saveHeld :=
  .ite ((h.foldl (fun _ _ h => h.finishAction)).dma.other) (h.foldl (fun _ _ h => h.finishAction))

theorem Evolves.restoreOne (h : Evolves r s) {k : Nat} : Evolves r (s.restoreOne k) := by
  unfold State.restoreOne
  extract_lets _ _ s1
  have h1 : Evolves r s1 := h.foldl (fun _ _ h => h.setRegN)
  exact .ite h1.other.finishAction h1.other

theorem Evolves.restoreHeld (h : Evolves r s) : Evolves r s.restoreHeld :=
  .ite ((h.foldl (fun _ _ h => h.restoreOne)).dma.other) h

theorem Evolves.journalReturn (h : Evolves r s) : Evolves r s.journalReturn := .ite h.finishRecovery.other h

theorem Evolves.queueAlarms (h : Evolves r s) : Evolves r s.queueAlarms := h.other.foldl (fun _ _ h => h.notice)

theorem Evolves.comPowerUp (h : Evolves r s) : Evolves r s.comPowerUp := by
  unfold State.comPowerUp
  extract_lets _ s1 s2
  have h1 : Evolves r s1 := h.loadStore.loadStore.setFld.evRestart.journalReturn.restoreHeld
  have h2 : Evolves r s2 := .ite h1.queueAlarms h1
  exact .ite h2.setNtm h2

theorem Evolves.switchOn (h : Evolves r s) {d : Domain} : Evolves r (s.switchOn d) := by
  unfold State.switchOn
  refine .ite h ?_
  extract_lets _
  split
  · exact h.setBit.comPowerUp
  · exact h.setBit.chainOn
  · exact h.setBit.chainOn
  · exact h.setBit

theorem Evolves.switchOff (h : Evolves r s) {d : Domain} : Evolves r (s.switchOff d) := .ite h.loseDomain.clearBit h

theorem Evolves.resetFabric (h : Evolves r s) : Evolves r s.resetFabric :=
  h.loseRam.bumpEpoch.bumpEpoch.dropRegs.dropContexts.other

theorem Evolves.resetModeController (h : Evolves r s) : Evolves r s.resetModeController :=
  h.setRegN.setFld.setRegN.setRegN.lower.lower.lower.lower.xrefStop.other

theorem Evolves.resetSystem (h : Evolves r s) : Evolves r s.resetSystem := h.resetFabric.resetModeController

theorem Evolves.resetAlwaysOn (h : Evolves r s) : Evolves r s.resetAlwaysOn := by
  unfold State.resetAlwaysOn
  have h1 := h.resetSystem
  generalize s.resetSystem = t at h1 ⊢
  exact h1.dropRegs.other.setFld

/-- A POWER-ON reset drops every register and every byte of SRAM, and keeps flash and OTP. -/
theorem Evolves.resetPowerOn (h : Evolves r s) : Evolves r s.resetPowerOn := by
  have := (h.dropRegs (p := fun _ => false)).dropRam (p := fun _ => false)
  simp only [List.filter_false] at this
  exact this.dropContexts.other

theorem Evolves.assertReset (h : Evolves r s) {scope code : Nat} : Evolves r (s.assertReset scope code) := by
  unfold State.assertReset
  refine .ite h.setBit ?_
  extract_lets _ _ _ _ _ _ s1
  have h1 : Evolves r s1 := .ite h.resetPowerOn (.ite h.resetAlwaysOn h.resetSystem)
  exact (Evolves.ite h1.setBit.satCount h1.setBit).setFld.setFld.setFld.setFld.other

/-! ### The flash controller -/

theorem Evolves.junkSectors (h : Evolves r s) {l : List Nat} : Evolves r (s.junkSectors l) := by
  unfold State.junkSectors
  split
  exact (h.draw.of_snd ‹_›).other

theorem Evolves.eraseSectors (h : Evolves r s) {first count : Nat} : Evolves r (s.eraseSectors first count) :=
  h.eraseFlash.other

theorem Evolves.eraseCounted (h : Evolves r s) {first count : Nat} : Evolves r (s.eraseCounted first count) :=
  h.eraseSectors.flcCount

theorem Evolves.program (h : Evolves r s) {off : Nat} {b : List Byte} : Evolves r (s.program off b) :=
  h.setFlash.flcCount

theorem Evolves.flProgram (h : Evolves r s) {off : Nat} {b : List Byte} : Evolves r (s.flProgram off b).2 :=
  .ite_snd h (.ite_snd h (.ite_snd h (.ite_snd h (.ite_snd h h.program.pair))))

theorem Evolves.flErase (h : Evolves r s) {off count : Nat} {host : Option (Origin × Nat)} :
    Evolves r (s.flErase off count host).2 :=
  .ite_snd h (.ite_snd h (.ite_snd h (.ite_snd h h.junkSectors.other.pair)))

theorem Evolves.endErase (h : Evolves r s) {e : EraseJob} {st : Status} : Evolves r (s.endErase e st) := by
  unfold State.endErase
  extract_lets _ _ s1
  have h1 : Evolves r s1 := .ite h.other.raise h.other.raise.raise
  split
  · exact h1.respond
  · exact h1

theorem Evolves.execFlashEraseDone (h : Evolves r s) : Leads r (execFlashEraseDone s) := by
  unfold Machine.execFlashEraseDone
  refine .next ?_
  split
  · exact .ite h h.eraseCounted.endErase
  · exact h

theorem Evolves.flashLastgasp (h : Evolves r s) : Evolves r s.flashLastgasp := by
  unfold State.flashLastgasp
  split
  · exact h.endErase
  · exact .ite h.lower.setFld.other h
  · exact h

theorem Evolves.execEraseResume (h : Evolves r s) : Leads r (execEraseResume s) := by
  unfold Machine.execEraseResume
  refine .next ?_
  split
  · exact h.other
  · split
    · exact h.other
    · exact h

theorem Evolves.setG (h : Evolves r s) {k r' : Nat} {w : Word} : Evolves r (s.setG k r' w) := h.setCore

theorem Evolves.flCall (h : Evolves r s) {k : Nat} {argsOk busy : Bool} {f : State → Status × State}
    (hf : ∀ t, Evolves r t → Evolves r (f t).2) :
    Evolves r (s.flCall k argsOk busy f) := by
  unfold State.flCall
  refine .ite h ?_
  split
  have h2 := (Evolves.ite_snd h (.ite_snd h (.ite_snd h (hf _ h)))).of_snd ‹_›
  exact h2.setG

theorem Evolves.execFlProgram (h : Evolves r s) {core : Nat} : Leads r (execFlProgram core s) :=
  .next (h.flCall (fun _ h => h.flProgram))

theorem Evolves.execFlErase (h : Evolves r s) {core : Nat} : Leads r (execFlErase core s) :=
  .next (h.flCall (fun _ h => h.flErase))

theorem Evolves.execFlPoll (h : Evolves r s) {core : Nat} : Leads r (execFlPoll core s) := by
  unfold Machine.execFlPoll
  refine .next ?_
  extract_lets s1
  have h1 : Evolves r s1 := h.flCall (fun _ h => h.pair)
  exact .ite h1.setG h1

theorem Evolves.markSector (h : Evolves r s) {k : Nat} : Evolves r (s.markSector k) := .ite h h.other.raise

theorem Evolves.flashUncorr (h : Evolves r s) {off : Nat} : Evolves r (s.flashUncorr off) :=
  h.setRegN.setRegN.captureFault.flcCount.raise.notice

theorem Evolves.execScrubRead (h : Evolves r s) {corr : List Nat} {retried : Nat} {bad : List Nat} :
    Leads r (execScrubRead corr retried bad s) := by
  unfold Machine.execScrubRead
  refine .next ?_
  refine .ite ?_ h
  extract_lets _ _ s1 _ s2
  have h1 : Evolves r s1 := .ite h.flcCount.flcCount h.flcCount.flcCount.raise
  have h2 : Evolves r s2 := (Evolves.ite h1.markSector h1).foldl (fun _ _ h => h.flashUncorr)
  exact .ite h2.other.flcCount h2.other

theorem Evolves.finishRefresh (h : Evolves r s) {k : Nat} : Evolves r (s.finishRefresh k) :=
  h.eraseCounted.setFlash.flcCount.program.other.flcCount

theorem Evolves.refresh (h : Evolves r s) {k : Nat} : Evolves r (s.refresh k) :=
  h.eraseCounted.program.program.finishRefresh

theorem Evolves.execFlScrub (h : Evolves r s) {core : Nat} : Leads r (execFlScrub core s) := by
  unfold Machine.execFlScrub
  refine .next ?_
  extract_lets _ s7
  have h7 : Evolves r s7 := by
    unfold s7
    refine h.flCall fun _ h1 => ?_
    extract_lets s4
    have h4 : Evolves r s4 := by
      unfold s4
      split
      · exact h1.finishRefresh
      · exact h1
    split
    · exact h4.refresh.other.pair
    · exact h4
  exact .ite h7.setG h7

theorem Evolves.findStaging (h : Evolves r s) : Evolves r s.findStaging := h.other

theorem Evolves.nvNotice (h : Evolves r s) {item : Nat} {st : Status} : Evolves r (s.nvNotice item st) := h.notice

theorem Evolves.writeCopy (h : Evolves r s) {off : Nat} {p : List Byte} : Evolves r (s.writeCopy off p) :=
  h.eraseCounted.program

theorem Evolves.writeCopies (h : Evolves r s) {item : Nat} {p : List Byte} {copies : Nat} :
    Evolves r (s.writeCopies item p copies).2 := by
  unfold State.writeCopies
  extract_lets _ s1 _ _ _ s2
  have h1 : Evolves r s1 := h.foldl (fun _ _ h => h.writeCopy)
  have h2 : Evolves r s2 := .ite h1.orOtp.other h1
  exact (Evolves.ite h2 h2.raise).nvNotice.pair

theorem Evolves.nvWrite (h : Evolves r s) {item : Nat} {p : List Byte} {copies : Nat} :
    Evolves r (s.nvWrite item p copies).2 :=
  .ite_snd (.ite_snd h (.ite_snd h h.writeCopies)) (.ite_snd h (.ite_snd h (.ite_snd h h.writeCopies)))

theorem Evolves.execFlNvwrite (h : Evolves r s) {core copies : Nat} : Leads r (execFlNvwrite core copies s) :=
  .next (h.flCall (fun _ h => h.nvWrite))

theorem Evolves.nvRepair (h : Evolves r s) {item : Nat} : Evolves r (s.nvRepair item).2 := by
  unfold State.nvRepair
  extract_lets _
  split
  · exact h.nvNotice.pair
  · exact (h.foldl (fun _ _ h => .ite h h.writeCopy)).nvNotice.pair

theorem Evolves.execFlNvrepair (h : Evolves r s) {core : Nat} : Leads r (execFlNvrepair core s) :=
  .next (h.flCall (fun _ h => h.nvRepair))

theorem Evolves.flRdp (h : Evolves r s) {level : Nat} : Evolves r (s.flRdp level).2 :=
  .ite_snd h (.ite_snd h
    (.ite_snd h (.ite_snd h
    (.ite_snd (.ite_snd h.setFlash.flcCount.pair h.orOtp.pair) (.ite_snd h h.junkSectors.other.pair)))))

theorem Evolves.execFlRdp (h : Evolves r s) {core : Nat} : Leads r (execFlRdp core s) :=
  .next (h.flCall (fun _ h => h.flRdp))

theorem Evolves.execRdpLowerDone (h : Evolves r s) : Leads r (execRdpLowerDone s) := by
  unfold Machine.execRdpLowerDone
  refine .next ?_
  split
  · exact .ite h.dropFlash.other.assertReset h
  · exact h

theorem Evolves.flOtpwrite (h : Evolves r s) {word v : Nat} : Evolves r (s.flOtpwrite word v).2 :=
  .ite_snd h (.ite_snd h h.orOtp.pair)

theorem Evolves.execFlOtpwrite (h : Evolves r s) {core : Nat} : Leads r (execFlOtpwrite core s) :=
  .next (h.flCall (fun _ h => h.flOtpwrite))

theorem Evolves.execFlInfo (h : Evolves r s) {core : Nat} : Leads r (execFlInfo core s) := by
  unfold Machine.execFlInfo
  refine .next ?_
  extract_lets _ s1
  have h1 : Evolves r s1 := h.flCall (fun _ h => h.pair)
  exact .ite h1.setG.setG.setG h1

theorem Evolves.execFlReservedEntry (h : Evolves r s) {core : Nat} : Leads r (execFlReservedEntry core s) :=
  .next (.ite h.setG h)

theorem Evolves.execOtpaddrWrite (h : Evolves r s) {user : Bool} {w : Word} :
    Leads r (execOtpaddrWrite user w s) :=
  h.guarded (.ite h.writeReg h)

theorem Evolves.startOp (h : Evolves r s) {op : Nat} : Evolves r (s.startOp op) := by
  unfold State.startOp
  extract_lets _
  split
  · exact .ite h.other.flcCount (.ite h.other h)
  · refine .ite h ?_
    refine .ite h.setFld ?_
    refine .ite h.setFld ?_
    split
    · split
      exact (h.raise.other.draw.of_snd ‹_›).other
    · exact h.raise.other.junkSectors
    · exact h.raise.other.junkSectors
    · split
      exact (h.raise.other.draw.of_snd ‹_›).orOtp

theorem Evolves.writeOpctl (h : Evolves r s) {user rom : Bool} {w : Word} :
    Evolves r (s.writeOpctl user rom w) :=
  .ite h (.ite h.writeReg (.ite h.writeReg.startOp h.writeReg))

theorem Evolves.execFlcOpProgramUnit (h : Evolves r s) {user rom : Bool} {w : Word} :
    Leads r (execFlcOpProgramUnit user rom w s) :=
  .next h.writeOpctl

theorem Evolves.execFlcOpEraseSector (h : Evolves r s) {user rom : Bool} {w : Word} :
    Leads r (execFlcOpEraseSector user rom w s) :=
  .next h.writeOpctl

theorem Evolves.execFlcOpErasePlane (h : Evolves r s) {user rom : Bool} {w : Word} :
    Leads r (execFlcOpErasePlane user rom w s) :=
  .next h.writeOpctl

theorem Evolves.execFlcOpSuspend (h : Evolves r s) {user rom : Bool} {w : Word} :
    Leads r (execFlcOpSuspend user rom w s) :=
  .next h.writeOpctl

theorem Evolves.execFlcOpResume (h : Evolves r s) {user rom : Bool} {w : Word} :
    Leads r (execFlcOpResume user rom w s) :=
  .next h.writeOpctl

theorem Evolves.execFlcOpProgramOtp (h : Evolves r s) {user rom : Bool} {w : Word} :
    Leads r (execFlcOpProgramOtp user rom w s) :=
  .next h.writeOpctl

theorem Evolves.execFlcOpDone (h : Evolves r s) : Leads r (execFlcOpDone s) := by
  unfold Machine.execFlcOpDone
  refine .next ?_
  split
  · exact h
  · refine .ite h ?_
    extract_lets _ _ s7
    have h7 : Evolves r s7 := by
      unfold s7
      split
      · exact h.other.program
      · exact h.eraseCounted
      · exact h.eraseCounted
      · exact h.orOtp
    exact h7.lower.setFld.other

theorem Evolves.notInLastgasp (h : Evolves r s) {g : Handler} {o : Origin} {p : List Byte}
    (hg : ∀ x1 x2 t, Evolves r t → Evolves r (g x1 x2 t).2) :
    Evolves r (notInLastgasp g o p s).2 :=
  .ite_snd h (hg _ _ _ h)

theorem Evolves.handleDfiWrite (h : Evolves r s) {x : Origin} {p : List Byte} :
    Evolves r (handleDfiWrite x p s).2 := by
  unfold Machine.handleDfiWrite
  extract_lets _
  refine .ite_snd h ?_
  refine .ite_snd h ?_
  refine .ite_snd h ?_
  refine .ite_snd h ?_
  refine .ite_snd ?_ h.other.pair
  split
  exact (h.other.nvWrite.of_snd ‹_›).pair

theorem Evolves.execDfiWrite (h : Evolves r s) {o : Origin} {p : List Byte} : Leads r (execDfiWrite o p s) :=
  .next (h.hostCommand (fun _ _ _ h => h.handleDfiWrite))

theorem Evolves.handleDfiRead (h : Evolves r s) {x : Origin} {p : List Byte} :
    Evolves r (handleDfiRead x p s).2 := by
  unfold Machine.handleDfiRead
  extract_lets _ _ img s1
  have h1 : Evolves r s1 := .ite h.nvNotice h
  refine .ite_snd h ?_
  refine .ite_snd h ?_
  clear_value img
  split
  · exact h1
  · exact h1

theorem Evolves.execDfiRead (h : Evolves r s) {o : Origin} {p : List Byte} : Leads r (execDfiRead o p s) :=
  .next (h.hostCommand (fun _ _ _ h => h.handleDfiRead))

theorem Evolves.handleRlrWrite (h : Evolves r s) {x : Origin} {p : List Byte} :
    Evolves r (handleRlrWrite x p s).2 := by
  unfold Machine.handleRlrWrite
  refine .ite_snd h ?_
  refine .ite_snd h ?_
  split
  exact (h.nvWrite.of_snd ‹_›).pair

theorem Evolves.execRlrWrite (h : Evolves r s) {o : Origin} {p : List Byte} : Leads r (execRlrWrite o p s) :=
  .next (h.hostCommand (fun _ _ _ h => h.handleRlrWrite))

theorem Evolves.handleRlrRead (h : Evolves r s) {x : Origin} {p : List Byte} : Evolves r (handleRlrRead x p s).2 := by
  unfold Machine.handleRlrRead
  extract_lets _
  refine .ite_snd h (.ite_snd h (.ite_snd (Evolves.ite h h.nvNotice).pair ?_))
  split
  · exact h
  · exact h

theorem Evolves.execRlrRead (h : Evolves r s) {o : Origin} {p : List Byte} : Leads r (execRlrRead o p s) :=
  .next (h.hostCommand (fun _ _ _ h => h.handleRlrRead))

theorem Evolves.handleNvStatus (h : Evolves r s) {x : Origin} {x' : List Byte} :
    Evolves r (handleNvStatus x x' s).2 :=
  h

theorem Evolves.execNvStatus (h : Evolves r s) {o : Origin} {p : List Byte} : Leads r (execNvStatus o p s) :=
  .next (h.hostCommand (fun _ _ _ h' => h'.notInLastgasp (fun _ _ _ h => h.handleNvStatus)))

theorem Evolves.handleUserWrite (h : Evolves r s) {x : Origin} {p : List Byte} :
    Evolves r (handleUserWrite x p s).2 := by
  unfold Machine.handleUserWrite
  extract_lets _
  refine .ite_snd h ?_
  split
  exact (h.flProgram.of_snd ‹_›).pair

theorem Evolves.execUserWrite (h : Evolves r s) {o : Origin} {p : List Byte} : Leads r (execUserWrite o p s) :=
  .next (h.hostCommand (fun _ _ _ h => h.handleUserWrite))

theorem Evolves.handleUserRead (h : Evolves r s) {x : Origin} {p : List Byte} :
    Evolves r (handleUserRead x p s).2 :=
  .ite_snd h (.ite_snd h h.touchPlane.pair)

theorem Evolves.execUserRead (h : Evolves r s) {o : Origin} {p : List Byte} : Leads r (execUserRead o p s) :=
  .next (h.hostCommand (fun _ _ _ h => h.handleUserRead))

theorem Evolves.handleUserErase (h : Evolves r s) {o : Origin} {p : List Byte} :
    Evolves r (handleUserErase o p s).2 := by
  unfold Machine.handleUserErase
  extract_lets _
  refine .ite_snd h ?_
  split
  have h2 := h.flErase.of_snd ‹_›
  exact .ite_snd h2.pair h2.pair

theorem Evolves.execUserErase (h : Evolves r s) {o : Origin} {p : List Byte} : Leads r (execUserErase o p s) :=
  .next (h.hostCommand (fun _ _ _ h => h.handleUserErase))

/-! ### Keys -/

theorem Evolves.writeRoot (h : Evolves r s) {w : Nat} {b : List Byte} : Evolves r (s.writeRoot w b) :=
  h.foldl (fun _ _ h => h.orOtp)

theorem Evolves.setKey (h : Evolves r s) {k usage type len : Nat} {key : List Byte} {persist : Bool} :
    Evolves r (s.setKey k usage type len key persist) :=
  (Evolves.ite h.setBit.setRegN.setRegN h.setBit.setRegN).other

theorem Evolves.dropKey (h : Evolves r s) {k : Nat} : Evolves r (s.dropKey k) :=
  (Evolves.ite h.clearBit.setRegN.setRegN h.clearBit.setRegN).other

theorem Evolves.endOps (h : Evolves r s) {pick : CryOp → Bool} {st : Status} : Evolves r (s.endOps pick st) :=
  h.other

theorem Evolves.writeLoadctl (h : Evolves r s) {rom : Bool} {w : Word} : Evolves r (s.writeLoadctl rom w) :=
  .ite ((Evolves.ite h.other.setKey h.other.raise).setFld.other) h.other

theorem Evolves.execKeyLoad (h : Evolves r s) {user rom : Bool} {w : Word} :
    Leads r (execKeyLoad user rom w s) :=
  h.guarded (.ite h.writeLoadctl h)

theorem Evolves.writeLoaddata (h : Evolves r s) {i : Nat} {w : Word} : Evolves r (s.writeLoaddata i w) := h.other

theorem Evolves.writeKeyClear (h : Evolves r s) {w : Word} : Evolves r (s.writeKeyClear w) :=
  h.foldl (fun _ _ h => .ite h.dropKey.endOps h)

theorem Evolves.execKeyClear (h : Evolves r s) {user : Bool} {w : Word} : Leads r (execKeyClear user w s) :=
  h.guarded (.ite h.writeKeyClear h)

theorem Evolves.writeTunkey (h : Evolves r s) {w : Word} : Evolves r (s.writeTunkey w) := h.writeReg.setRegN

theorem Evolves.execTunkeyWrite (h : Evolves r s) {user : Bool} {w : Word} :
    Leads r (execTunkeyWrite user w s) :=
  h.guarded (.ite h.writeTunkey h)

theorem Evolves.loadEntry (h : Evolves r s) {n : Nat} : Evolves r (s.loadEntry n) := .ite h (.ite h.raise h.setKey)

theorem Evolves.eraseStore (h : Evolves r s) : Evolves r s.eraseStore := h.eraseCounted.lower

theorem Evolves.unsealKeys (h : Evolves r s) : Evolves r s.unsealKeys :=
  (Evolves.ite h.eraseStore h).lower.foldl (fun _ _ h => h.loadEntry)

theorem Evolves.execKeyStoreErase (h : Evolves r s) : Leads r (execKeyStoreErase s) :=
  .next (.ite (.ite h.eraseStore.lower h.eraseStore) h)

theorem Evolves.provisionRoot (h : Evolves r s) {w n : Nat} {b : List Byte} :
    Evolves r (s.provisionRoot w n b).2 :=
  .ite_snd h h.writeRoot.pair

theorem Evolves.provisionFloor (h : Evolves r s) {v : Nat} : Evolves r (s.provisionFloor v).2 :=
  .ite_snd h h.orOtp.pair

theorem Evolves.provisionEntry (h : Evolves r s) {n : Nat} {b : List Byte} :
    Evolves r (s.provisionEntry n b).2 :=
  .ite_snd h (.ite_snd h h.program.pair)

theorem Evolves.handleKeyProvision (h : Evolves r s) {x : Origin} {p : List Byte} :
    Evolves r (handleKeyProvision x p s).2 := by
  unfold Machine.handleKeyProvision
  extract_lets kind
  clear_value kind
  refine .ite_snd h (.ite_snd h ?_)
  split
  rename_i e
  refine (Evolves.of_snd ?_ e).pair
  split
  · exact h.provisionRoot
  · exact h.provisionRoot
  · exact h.provisionRoot
  · exact h.provisionFloor
  · exact h.provisionEntry

theorem Evolves.execKeyProvision (h : Evolves r s) {o : Origin} {p : List Byte} :
    Leads r (execKeyProvision o p s) :=
  .next (h.hostCommand (fun _ _ _ h => h.handleKeyProvision))

theorem Evolves.handleKeyRevoke (h : Evolves r s) {x : Origin} {p : List Byte} :
    Evolves r (handleKeyRevoke x p s).2 :=
  .ite_snd h (.ite_snd h (.ite_snd h h.orOtp.pair))

theorem Evolves.execKeyRevoke (h : Evolves r s) {o : Origin} {p : List Byte} : Leads r (execKeyRevoke o p s) :=
  .next (h.hostCommand (fun _ _ _ h => h.handleKeyRevoke))

/-! ### Luminaire ports -/

theorem Evolves.latchPad (h : Evolves r s) {n : Nat} : Evolves r (s.latchPad n) := by
  unfold State.latchPad
  split
  split
  rename_i e
  refine (Evolves.of_snd ?_ e).other
  split
  · exact h
  · split
    exact (h.draw.of_snd ‹_›).pair

theorem Evolves.showHeld (h : Evolves r s) : Evolves r s.showHeld := h.foldl (fun _ _ h => h.setRegN)

theorem Evolves.latchPads (h : Evolves r s) : Evolves r s.latchPads :=
  (h.foldl (fun _ _ h => .ite h h.latchPad)).showHeld

theorem Evolves.openLatch (h : Evolves r s) : Evolves r s.openLatch :=
  .ite h (h.other.showHeld.evRefresh.padsFollow.foldl (fun _ _ h => .ite h h.irqSample))

theorem Evolves.writeHold (h : Evolves r s) {w : Word} : Evolves r (s.writeHold w) := .ite h.openLatch h

theorem Evolves.writePads (h : Evolves r s) {a j : Nat} {w : Word} : Evolves r (s.writePads a j w) :=
  h.writeReg.padsFollow

theorem Evolves.execPadHoldRelease (h : Evolves r s) {user : Bool} {w : Word} :
    Leads r (execPadHoldRelease user w s) :=
  h.guarded h.writeHold

theorem Evolves.daliShow (h : Evolves r s) {i : Nat} : Evolves r (s.daliShow i) := h.setFld.setFld.setFld

theorem Evolves.setDali (h : Evolves r s) {i : Nat} {x : DaliIf} : Evolves r (s.setDali i x) := h.other.daliShow

theorem Evolves.writeTxcmd (h : Evolves r s) {i : Nat} {w : Word} : Evolves r (s.writeTxcmd i w) := by
  unfold State.writeTxcmd
  extract_lets _
  refine .ite ?_ h
  refine .ite h.setDali ?_
  split
  split
  exact (h.roll.of_snd ‹_›).setDali

theorem Evolves.execDaliSend (h : Evolves r s) {i : Nat} {user : Bool} {w : Word} :
    Leads r (execDaliSend i user w s) :=
  h.guarded h.writeTxcmd

theorem Evolves.daliEnd (h : Evolves r s) {i : Nat} {st : Status} : Evolves r (s.daliEnd i st) :=
  .ite h.setDali.setFld.raise.raise h.setDali.setFld.raise

theorem Evolves.daliPush (h : Evolves r s) {i : Nat} {r' : DaliRec} : Evolves r (s.daliPush i r') :=
  .ite h.raise h.setDali.raise.evPulse

theorem Evolves.execDaliFrameStart (h : Evolves r s) {i : Nat} : Leads r (execDaliFrameStart i s) := by
  unfold Machine.execDaliFrameStart
  refine .next ?_
  split
  · exact h
  · refine .ite h ?_
    extract_lets _
    refine .ite h.setDali ?_
    split
    · exact h.daliEnd
    · exact .ite h (.ite h.daliEnd h.setDali)

theorem Evolves.daliForward (h : Evolves r s) {i : Nat} {r' : DaliRec} : Evolves r (s.daliForward i r') :=
  .ite h.setDali h

theorem Evolves.execDaliTxDone (h : Evolves r s) {i : Nat} : Leads r (execDaliTxDone i s) := by
  unfold Machine.execDaliTxDone
  refine .next ?_
  split
  · exact h
  · exact .ite (.ite h.daliEnd.daliForward.daliPush.setDali h.daliEnd.daliForward.daliPush) h

theorem Evolves.execDaliCollision (h : Evolves r s) {i : Nat} : Leads r (execDaliCollision i s) := by
  unfold Machine.execDaliCollision
  refine .next ?_
  split
  · exact h
  · exact .ite h.daliEnd h

theorem Evolves.execDaliRxFrame (h : Evolves r s) {i data bits : Nat} {err : Bool} :
    Leads r (execDaliRxFrame i data bits err s) :=
  .next (.ite h.setDali.daliForward.daliPush h)

theorem Evolves.execDaliBackwardTimeout (h : Evolves r s) {i : Nat} : Leads r (execDaliBackwardTimeout i s) := by
  unfold Machine.execDaliBackwardTimeout
  refine .next ?_
  split
  · exact h
  · exact .ite h.setDali.daliPush h

theorem Evolves.execDaliBusfail (h : Evolves r s) {i : Nat} {held : Bool} :
    Leads r (execDaliBusfail i held s) :=
  .next (.ite h (.ite (.ite h.raise.raise.daliEnd h.raise.raise.daliShow) h.lower.daliShow))

theorem Evolves.readRxinfo (h : Evolves r s) {i : Nat} : Evolves r (s.readRxinfo i).2 := by
  unfold State.readRxinfo
  extract_lets _
  split
  · exact h
  · exact h.setDali.setRegN.pair

theorem Evolves.execRxinfoRead (h : Evolves r s) {i : Nat} : Leads r (execRxinfoRead i s) := by
  unfold Machine.execRxinfoRead
  refine .next ?_
  refine .ite ?_ h.readError
  split
  exact (h.readRxinfo.of_snd ‹_›).answerRead

theorem Evolves.writeDaliCtl (h : Evolves r s) {i : Nat} {w : Word} : Evolves r (s.writeDaliCtl i w) :=
  .ite h.writeReg.daliShow h.writeReg.setDali

theorem Evolves.setDmo (h : Evolves r s) {n v : Nat} : Evolves r (s.setDmo n v) := h.setFld.setFld

theorem Evolves.dmoWritten (h : Evolves r s) {n : Nat} : Evolves r (s.dmoWritten n) := h.setDmo

theorem Evolves.execDmoFade (h : Evolves r s) {n : Nat} : Leads r (execDmoFade n s) := .next (.ite h.setDmo h)

theorem Evolves.execDmoPeriod (h : Evolves r s) {n : Nat} : Leads r (execDmoPeriod n s) :=
  .next (.ite h.other.evPulse h)

theorem Evolves.execMetZeroCrossing (h : Evolves r s) : Leads r (execMetZeroCrossing s) :=
  .next (.ite h.other.lower.evPulse h)

theorem Evolves.execMetPeriod (h : Evolves r s) {v i1 i2 p1 p2 period de1 de2 : Nat} {clip : Bool} :
    Leads r (execMetPeriod v i1 i2 p1 p2 period de1 de2 clip s) :=
  .next (.ite ((Evolves.ite h.setRegN.setRegN.setRegN.setRegN.setRegN.setRegN.other.raise
    h.setRegN.setRegN.setRegN.setRegN.setRegN.setRegN.other).raise.evPulse) h)

theorem Evolves.execMetNozc (h : Evolves r s) : Leads r (execMetNozc s) := .next (.ite h.raise.raise h)

theorem Evolves.writeMetCfg (h : Evolves r s) {w : Word} : Evolves r (s.writeMetCfg w) :=
  .ite h.writeReg.other h.writeReg

theorem Evolves.execEclr (h : Evolves r s) {user : Bool} {w : Word} : Leads r (execEclr user w s) :=
  h.guarded (.ite h.writeMetCfg h)

theorem Evolves.readEnergy (h : Evolves r s) {k : Nat} : Evolves r (s.readEnergy k).2 := h.setRegN.pair

theorem Evolves.execEnergyRead (h : Evolves r s) {k : Nat} : Leads r (execEnergyRead k s) := by
  unfold Machine.execEnergyRead
  refine .next ?_
  refine .ite ?_ h.readError
  split
  exact (h.readEnergy.of_snd ‹_›).answerRead

theorem Evolves.setSer (h : Evolves r s) {k : Nat} {x : SerUnit} : Evolves r (s.setSer k x) := by
  unfold State.setSer
  extract_lets _ _ _ _ _ s1
  have h1 : Evolves r s1 := .ite h.other.setFld.setFld.setFld.setBit h.other.setFld.setFld.setFld
  exact .ite h1.setBit h1

theorem Evolves.serGo (h : Evolves r s) {k n : Nat} : Evolves r (s.serGo k n) := .ite h h.setSer

theorem Evolves.serEnd (h : Evolves r s) {k : Nat} {x : SerUnit} {st : Status} {detail : Nat} :
    Evolves r (s.serEnd k x st detail) :=
  (Evolves.ite h.setSer.setFld.setFld.setBit h.setSer.setFld.setFld.setBit.setBit).evPulse

theorem Evolves.serAbort (h : Evolves r s) {k : Nat} : Evolves r (s.serAbort k) := .ite h h.serEnd

theorem Evolves.writeSerCfg (h : Evolves r s) {k : Nat} {w : Word} : Evolves r (s.writeSerCfg k w) :=
  h.writeReg.setSer

theorem Evolves.writeSerCmd (h : Evolves r s) {k : Nat} {w : Word} : Evolves r (s.writeSerCmd k w) := by
  unfold State.writeSerCmd
  refine .ite ?_ h
  extract_lets _ s1
  have h1 : Evolves r s1 := .ite h.serAbort h
  exact .ite h1.serGo h1

theorem Evolves.execSerGo (h : Evolves r s) {k : Nat} {user : Bool} {w : Word} :
    Leads r (execSerGo k user w s) :=
  h.guarded h.writeSerCmd

theorem Evolves.execSerAbort (h : Evolves r s) {k : Nat} {user : Bool} {w : Word} :
    Leads r (execSerAbort k user w s) :=
  h.guarded h.writeSerCmd

theorem Evolves.execSerDone (h : Evolves r s) {k r' sent : Nat} {rx : List Byte} :
    Leads r (execSerDone k r' sent rx s) := by
  unfold Machine.execSerDone
  refine .next ?_
  extract_lets _
  refine .ite ?_ h
  split
  exact h.serEnd

theorem Evolves.writeTxfifo (h : Evolves r s) {k : Nat} {w : Word} : Evolves r (s.writeTxfifo k w) :=
  .ite (.ite h.setSer (.ite h.setSer h)) h

theorem Evolves.execTxfifoPush (h : Evolves r s) {k : Nat} {user : Bool} {w : Word} :
    Leads r (execTxfifoPush k user w s) :=
  h.guarded h.writeTxfifo

theorem Evolves.readRxfifo (h : Evolves r s) {k : Nat} : Evolves r (s.readRxfifo k).2 := by
  unfold State.readRxfifo
  extract_lets _
  split
  · exact h
  · exact h.setSer.pair

theorem Evolves.execRxfifoPop (h : Evolves r s) {k : Nat} : Leads r (execRxfifoPop k s) := by
  unfold Machine.execRxfifoPop
  refine .next ?_
  refine .ite ?_ h.readError
  split
  exact (h.readRxfifo.of_snd ‹_›).answerRead

theorem Evolves.execSerRxByte (h : Evolves r s) {k b err : Nat} : Leads r (execSerRxByte k b err s) :=
  .next (.ite (.ite h.setSer h.setFld.setBit) h)

/-! ### Modes -/

theorem Evolves.xrefLostCapture (h : Evolves r s) : Evolves r s.xrefLostCapture := h.capLost.capLost

theorem Evolves.endSwap (h : Evolves r s) {st : Status} : Evolves r (s.endSwap st) :=
  h.setFld.setFld.raise.other.undrainCtx.notice

theorem Evolves.supplyStopsSwap (h : Evolves r s) : Evolves r s.supplyStopsSwap := .ite h.endSwap h

theorem Evolves.modeCancel (h : Evolves r s) {n : Nat} : Evolves r (s.modeCancel n) :=
  (Evolves.ite h.setChain h).finishAction

theorem Evolves.modeCancelAll (h : Evolves r s) {pick : Nat → Bool} : Evolves r (s.modeCancelAll pick) :=
  h.foldl (fun _ _ h => h.modeCancel)

theorem Evolves.releaseAlarms (h : Evolves r s) : Evolves r s.releaseAlarms := by
  unfold State.releaseAlarms
  extract_lets _ _ _ _ s1 s2
  have h1 : Evolves r s1 := (h.foldl (fun _ _ h => h.modeCancel)).foldl (fun _ _ h => h.setSlot)
  have h2 : Evolves r s2 := .ite h1.switchOn h1
  exact .ite h2.switchOn h2

theorem Evolves.missRadio (h : Evolves r s) : Evolves r s.missRadio := h.foldl (fun _ _ h => h.finishAction)

theorem Evolves.cancelAlarms (h : Evolves r s) : Evolves r s.cancelAlarms := h.modeCancelAll

theorem Evolves.flushLeftovers (h : Evolves r s) : Evolves r s.flushLeftovers :=
  .ite (h.takeFlash h.finishRecovery).other h

theorem Evolves.powerUpFor (h : Evolves r s) {mode profile : Nat} : Evolves r (s.powerUpFor mode profile) :=
  h.foldl (fun _ _ h => .ite h.switchOn h)

theorem Evolves.powerDownFor (h : Evolves r s) {mode profile : Nat} : Evolves r (s.powerDownFor mode profile) :=
  h.foldl (fun _ _ h => .ite h h.switchOff)

theorem Evolves.setModeResult (h : Evolves r s) {st : Status} : Evolves r (s.setModeResult st) := h.setFld

theorem Evolves.wakeReady (h : Evolves r s) : Evolves r s.wakeReady :=
  (Evolves.ite h h.raise).raise.raise.raise.raise

theorem Evolves.restartCore0 (h : Evolves r s) : Evolves r s.restartCore0 := .ite h.pipRelease h

theorem Evolves.startTransition (h : Evolves r s) {r' : ModeReq} : Evolves r (s.startTransition r') := by
  unfold State.startTransition
  extract_lets _ _ _ s1 _ s2
  have h1 : Evolves r s1 := (Evolves.ite h.drainCtx h).raise.setFld.setModeResult
  have h2 : Evolves r s2 := .ite h1 h1.powerUpFor.xrefStart
  exact (Evolves.ite h2.wakeReady.restartCore0.lower h2).other

theorem Evolves.submitMode (h : Evolves r s) {r' : ModeReq} : Evolves r (s.submitMode r').2 := by
  unfold State.submitMode
  extract_lets _
  split
  · exact h.setModeResult.pair
  · refine .ite_snd ?_ h.startTransition.pair
    split
    · exact .ite_snd h.setModeResult.pair h.other.setModeResult.pair
    · exact h.other.setModeResult.pair

theorem Evolves.startWaiting (h : Evolves r s) : Evolves r s.startWaiting := by
  unfold State.startWaiting
  refine .ite h ?_
  split
  · exact h
  · extract_lets _
    split
    · exact h.other.setModeResult
    · exact h.other.startTransition

theorem Evolves.enterMode (h : Evolves r s) {r' : ModeReq} {result : Status} :
    Evolves r (s.enterMode r' result) := by
  unfold State.enterMode
  extract_lets _ _ _ _ _ s1
  have h1 : Evolves r s1 :=
    (Evolves.ite h.powerDownFor h.powerDownFor.setPoints).setFld.setFld.setFld.setFld.lower.setModeResult
  exact (Evolves.ite h1.setFld.setFld.setFld.applyWideIn.missRadio
    h1.setFld.setFld.setFld.applyWideIn).notice.irqPulse.other

theorem Evolves.execModeTransitionDone (h : Evolves r s) : Leads r (execModeTransitionDone s) := by
  unfold Machine.execModeTransitionDone
  refine .next ?_
  split
  · exact h
  · exact .ite h.enterMode.startWaiting h

theorem Evolves.execXrefTransitionTimeout (h : Evolves r s) : Leads r (execXrefTransitionTimeout s) := by
  unfold Machine.execXrefTransitionTimeout
  refine .next ?_
  split
  · exact h
  · exact .ite h.raise.enterMode.startWaiting h

theorem Evolves.execDrainEnd (h : Evolves r s) : Leads r (execDrainEnd s) := by
  unfold Machine.execDrainEnd
  refine .next ?_
  split
  · exact h
  · exact .ite h.abandonDrain.other h

theorem Evolves.writeModereq (h : Evolves r s) {core : Nat} {w : Word} : Evolves r (s.writeModereq core w) :=
  h.writeReg.submitMode

theorem Evolves.execModeRequest (h : Evolves r s) {core : Nat} {user : Bool} {w : Word} :
    Leads r (execModeRequest core user w s) :=
  h.guarded h.writeModereq

theorem Evolves.handleModeSet (h : Evolves r s) {x : Origin} {p : List Byte} :
    Evolves r (handleModeSet x p s).2 := by
  unfold Machine.handleModeSet
  refine .ite_snd h ?_
  split
  exact (h.submitMode.of_snd ‹_›).pair

theorem Evolves.handleModeGet (h : Evolves r s) {x : Origin} {x' : List Byte} :
    Evolves r (handleModeGet x x' s).2 :=
  h

theorem Evolves.execModeSet (h : Evolves r s) {o : Origin} {p : List Byte} : Leads r (execModeSet o p s) :=
  .next (h.hostCommand (fun _ _ _ h => h.handleModeSet))

theorem Evolves.execModeGet (h : Evolves r s) {o : Origin} {p : List Byte} : Leads r (execModeGet o p s) :=
  .next (h.hostCommand (fun _ _ _ h => h.handleModeGet))

theorem Evolves.execWSleepEntry (h : Evolves r s) : Leads r (execWSleepEntry s) :=
  .next (.ite ((h.foldl
    (fun _ _ h => .ite h (.ite h (.ite h (.ite h h.switchOff))))).xrefStop.cpuToHf.lower.raise.other) h)

theorem Evolves.wakeWatch (h : Evolves r s) : Evolves r s.wakeWatch :=
  .ite h.lower.evRefresh.powerUpFor.xrefStart.setPoints.other h

theorem Evolves.execModeWakeTime (h : Evolves r s) : Leads r (execModeWakeTime s) := .next (.ite h.wakeWatch h)

theorem Evolves.goDormant (h : Evolves r s) : Evolves r s.goDormant :=
  (h.saveHeld.latchPads.foldl (fun _ _ h => h.switchOff)).raise.xrefStop.lower.lower.lower.lower.other

theorem Evolves.abandonEntry (h : Evolves r s) : Evolves r s.abandonEntry := by
  unfold State.abandonEntry
  extract_lets _ s3
  have h3 : Evolves r s3 := by
    unfold s3
    split
    · exact .ite h.other h
    · exact h
  exact h3.other.lower.setFld.setModeResult.undrainCtx.startWaiting

theorem Evolves.wakeModeRequest (h : Evolves r s) : Evolves r s.wakeModeRequest := .ite h h.submitMode

theorem Evolves.wake (h : Evolves r s) {src : Nat} : Evolves r (s.wake src) := by
  unfold State.wake
  refine .ite h.other ?_
  split
  · exact .ite h.abandonEntry (.ite (.ite h.enterMode.wakeModeRequest h.enterMode) h)
  · exact .ite (.ite h.wakeModeRequest h) h.wakeWatch

theorem Evolves.execWakeSource (h : Evolves r s) {src : Nat} : Leads r (execWakeSource src s) :=
  .next (.ite h.wake h)

theorem Evolves.writeWaketmr (h : Evolves r s) {w : Word} : Evolves r (s.writeWaketmr w) := h.setReg.setReg

theorem Evolves.execWaketmrWrite (h : Evolves r s) {user : Bool} {w : Word} :
    Leads r (execWaketmrWrite user w s) :=
  h.guarded h.writeWaketmr

theorem Evolves.execWaketmrFire (h : Evolves r s) : Leads r (execWaketmrFire s) :=
  .next (.ite h h.evPulse.wake.setRegN.setRegN.raise)

theorem Evolves.execPadLatch (h : Evolves r s) : Leads r (execPadLatch s) := by
  unfold Machine.execPadLatch
  refine .next ?_
  split
  · exact .ite (.ite h.abandonEntry h.jrnFlush.goDormant.other) h
  · exact h

theorem Evolves.execClusterIdle (h : Evolves r s) {n : Nat} : Leads r (execClusterIdle n s) :=
  .next (.ite h.switchOff h)

theorem Evolves.execClusterPowered (h : Evolves r s) {n : Nat} : Leads r (execClusterPowered n s) :=
  .next (.ite (.ite (h.other.switchOn.foldl (fun _ _ h => h.dma)) h.other) h)

theorem Evolves.enterLastgasp (h : Evolves r s) : Evolves r s.enterLastgasp := by
  unfold State.enterLastgasp
  extract_lets _ _ _ _ s1
  have h1 : Evolves r s1 := (Evolves.ite h.evRefresh h).wakeReady.lower.powerUpFor.xrefStart
  exact (Evolves.ite h1.restartCore0 h1).modeCancelAll.flashLastgasp.enterMode.other

theorem Evolves.endLastgasp (h : Evolves r s) : Evolves r s.endLastgasp :=
  .ite h.other.other h.other.goDormant.enterMode

theorem Evolves.abandonStartup (h : Evolves r s) : Evolves r s.abandonStartup :=
  .ite h.flushLeftovers.other
    ((h.flushLeftovers.other.foldl (fun _ _ h => h.switchOff)).setFld.setFld.setFld.setFld.raise)

theorem Evolves.supplyTrip (h : Evolves r s) : Evolves r s.supplyTrip := by
  unfold State.supplyTrip
  split
  · exact h.abandonStartup
  · exact .ite h h.abandonStartup
  · split
    · exact .ite h.other h
    · exact h
  · extract_lets _ s7 _ _ _ s8
    have h7 : Evolves r s7 := .ite h.setModeResult.undrainCtx h
    have h8 : Evolves r s8 := (Evolves.ite h7.setModeResult h7).other.lower.supplyStopsSwap.enterLastgasp
    exact .ite h (.ite h8.other h8)
  · extract_lets _ s10 _ _ _ s11
    have h10 : Evolves r s10 := .ite h.setModeResult.undrainCtx h
    have h11 : Evolves r s11 := (Evolves.ite h10.setModeResult h10).other.lower.supplyStopsSwap.enterLastgasp
    exact .ite h (.ite h11.other h11)
  · exact h

theorem Evolves.execSupplyFailure (h : Evolves r s) : Leads r (execSupplyFailure s) :=
  .next (.ite h (.ite h.raise.raise.evLevel h.raise.raise.evLevel.supplyTrip))

theorem Evolves.execSupplyClear (h : Evolves r s) : Leads r (execSupplyClear s) :=
  .next (.ite h.evLevel.lower.raise h)

theorem Evolves.execSupplyRestored (h : Evolves r s) : Leads r (execSupplyRestored s) := by
  unfold Machine.execSupplyRestored
  refine .next ?_
  refine .ite h ?_
  refine .ite h.other ?_
  split
  · exact h
  · exact h
  · extract_lets _
    split
    have h5 := (Evolves.ite h.jrnFlush h).cancelAlarms.submitMode.of_snd ‹_›
    exact .ite h5.other h5

theorem Evolves.execLastgaspFlushDone (h : Evolves r s) : Leads r (execLastgaspFlushDone s) :=
  .next (.ite (.ite h.jrnFlush.assertReset h.jrnFlush.releaseAlarms.other) h)

theorem Evolves.execLastgaspEnd (h : Evolves r s) : Leads r (execLastgaspEnd s) := .next (.ite h.endLastgasp h)

theorem Evolves.holdupEnds (h : Evolves r s) {fall : Nat} {stayed : Bool} :
    Evolves r (s.holdupEnds fall stayed) :=
  .ite h.finishHoldup.supplyTrip h.finishHoldup

theorem Evolves.execXrefReady (h : Evolves r s) : Leads r (execXrefReady s) :=
  .next (.ite (.ite h.raise.other h.raise.other.setPoints) h)

theorem Evolves.execXrefFail (h : Evolves r s) : Leads r (execXrefFail s) :=
  .next (.ite ((Evolves.ite h.lower.raise.cpuToHf.lower.other.raise
    h.lower.raise.cpuToHf.lower).xrefLostCapture.missRadio) h)

/-! ### Firmware slots -/

theorem Evolves.writeBcr (h : Evolves r s) {b : Bcr} : Evolves r (s.writeBcr b) := h.eraseCounted.program

theorem Evolves.handleFwWrite (h : Evolves r s) {x : Origin} {p : List Byte} :
    Evolves r (handleFwWrite x p s).2 := by
  unfold Machine.handleFwWrite
  extract_lets _
  refine .ite_snd h ?_
  refine .ite_snd h ?_
  refine .ite_snd h ?_
  refine .ite_snd h ?_
  split
  exact (h.flProgram.of_snd ‹_›).pair

theorem Evolves.execFwWrite (h : Evolves r s) {o : Origin} {p : List Byte} : Leads r (execFwWrite o p s) :=
  .next (h.hostCommand (fun _ _ _ h => h.handleFwWrite))

theorem Evolves.handleFwErase (h : Evolves r s) {o : Origin} {p : List Byte} :
    Evolves r (handleFwErase o p s).2 :=
  .ite_snd h (.ite_snd h (.ite_snd h (.ite_snd h h.junkSectors.other.pair)))

theorem Evolves.execFwErase (h : Evolves r s) {o : Origin} {p : List Byte} : Leads r (execFwErase o p s) :=
  .next (h.hostCommand (fun _ _ _ h => h.handleFwErase))

theorem Evolves.handleFwVerify (h : Evolves r s) {x : Origin} {p : List Byte} :
    Evolves r (handleFwVerify x p s).2 :=
  .ite_snd h (.ite_snd h h.touchPlane.pair)

theorem Evolves.execFwVerify (h : Evolves r s) {o : Origin} {p : List Byte} : Leads r (execFwVerify o p s) :=
  .next (h.hostCommand (fun _ _ _ h => h.handleFwVerify))

theorem Evolves.handleFwActivate (h : Evolves r s) {o : Origin} {p : List Byte} :
    Evolves r (handleFwActivate o p s).2 :=
  .ite_snd h (.ite_snd h (.ite_snd h h.beginCommit.pair))

theorem Evolves.execFwActivate (h : Evolves r s) {o : Origin} {p : List Byte} :
    Leads r (execFwActivate o p s) :=
  .next (h.hostCommand (fun _ _ _ h => h.handleFwActivate))

theorem Evolves.handleFwCancel (h : Evolves r s) {o : Origin} {x : List Byte} :
    Evolves r (handleFwCancel o x s).2 := by
  unfold Machine.handleFwCancel
  refine .ite_snd h ?_
  split
  · exact .ite_snd h.beginCommit.other.pair h
  · exact h

theorem Evolves.execFwCancel (h : Evolves r s) {o : Origin} {p : List Byte} : Leads r (execFwCancel o p s) :=
  .next (h.hostCommand (fun _ _ _ h => h.handleFwCancel))

theorem Evolves.closeCancel (h : Evolves r s) : Evolves r s.closeCancel := by
  unfold State.closeCancel
  split
  · exact h
  · exact h.other.respond

theorem Evolves.execActivationKeeper (h : Evolves r s) : Leads r (execActivationKeeper s) := by
  unfold Machine.execActivationKeeper
  refine .next ?_
  split
  · exact h
  · exact .ite h (.ite h.closeCancel.other h.closeCancel.other.submitMode)

theorem Evolves.execActivationQuiesce (h : Evolves r s) : Leads r (execActivationQuiesce s) := by
  unfold Machine.execActivationQuiesce
  refine .next ?_
  split
  · exact h
  · exact .ite h (.ite h.other h.other)

theorem Evolves.execActivationReset (h : Evolves r s) : Leads r (execActivationReset s) := by
  unfold Machine.execActivationReset
  refine .next ?_
  split
  · exact h
  · exact .ite h (.ite h.other h.jrnFlush.fwNotice.assertReset)

theorem Evolves.fwNote (h : Evolves r s) {event : Nat} {st : Status} {slot detail actid : Nat} :
    Evolves r (s.fwNote event st slot detail actid) :=
  h.other

theorem Evolves.bootSlot (h : Evolves r s) {k : Nat} {trial : Bool} : Evolves r (s.bootSlot k trial) :=
  h.setFld.other

theorem Evolves.raiseFloor (h : Evolves r s) {svn : Nat} : Evolves r (s.raiseFloor svn) :=
  h.foldl (fun _ _ h => h.orOtp)

theorem Evolves.bootActive (h : Evolves r s) {k : Nat} : Evolves r (s.bootActive k) :=
  .ite h.bootSlot.raiseFloor.fwNote h.bootSlot

theorem Evolves.fwFall (h : Evolves r s) {slot detail actid : Nat} : Evolves r (s.fwFall slot detail actid) :=
  h.raise.fwNote

theorem Evolves.dropTrial (h : Evolves r s) {b : Bcr} {reason : Nat} : Evolves r (s.dropTrial b reason) :=
  h.writeBcr.fwFall

theorem Evolves.bootConfirmed (h : Evolves r s) : Evolves r s.bootConfirmed := by
  unfold State.bootConfirmed
  split
  · exact .ite h.bootActive (.ite h.writeBcr.fwFall.bootActive h.raise)
  · split
    · exact h.writeBcr.bootActive
    · exact h.raise

theorem Evolves.startTrial (h : Evolves r s) {b : Bcr} : Evolves r (s.startTrial b) :=
  .ite h.bootSlot.fwNote h.dropTrial.bootConfirmed

theorem Evolves.bootTrial (h : Evolves r s) {fresh : Bool} : Evolves r (s.bootTrial fresh) := by
  unfold State.bootTrial
  split
  · exact h.bootConfirmed
  · exact .ite h.bootConfirmed (.ite h.startTrial (.ite h.dropTrial.bootConfirmed h.writeBcr.startTrial))

theorem Evolves.applyAct (h : Evolves r s) {j : Nat} {a : List Byte} : Evolves r (s.applyAct j a).2 :=
  (Evolves.ite h.writeBcr h).beginCommit.commitAll.pair

theorem Evolves.bootDecision (h : Evolves r s) : Evolves r s.bootDecision := by
  unfold State.bootDecision
  extract_lets _
  split
  · exact h.other.bootTrial
  · split
    exact (h.other.applyAct.of_snd ‹_›).bootTrial

theorem Evolves.confirmTrial (h : Evolves r s) : Evolves r s.confirmTrial := by
  unfold State.confirmTrial
  split
  · extract_lets _ _ s2
    have h2 : Evolves r s2 := .ite h.writeBcr.raiseFloor h.writeBcr
    exact .ite h2.other.fwNotice.fwNotice h2.other.fwNotice
  · exact h

theorem Evolves.handleFwConfirm (h : Evolves r s) {x : Origin} {x' : List Byte} :
    Evolves r (handleFwConfirm x x' s).2 :=
  .ite_snd h h.confirmTrial.pair

theorem Evolves.execFwConfirm (h : Evolves r s) {o : Origin} {p : List Byte} : Leads r (execFwConfirm o p s) :=
  .next (h.hostCommand (fun _ _ _ h => h.handleFwConfirm))

theorem Evolves.execAutoConfirm (h : Evolves r s) : Leads r (execAutoConfirm s) := .next (.ite h.confirmTrial h)

theorem Evolves.handleFwStatus (h : Evolves r s) {x : Origin} {x' : List Byte} :
    Evolves r (handleFwStatus x x' s).2 := by
  unfold Machine.handleFwStatus
  refine .ite_snd h ?_
  extract_lets _
  split
  exact h

theorem Evolves.execFwStatus (h : Evolves r s) {o : Origin} {p : List Byte} : Leads r (execFwStatus o p s) :=
  .next (h.hostCommand (fun _ _ _ h => h.handleFwStatus))

/-! ### Checks of a Board image -/

/-! ### The Board configuration -/

theorem Evolves.loadResult (h : Evolves r s) {r' : Option BrdFail} : Evolves r (s.loadResult r') := by
  unfold State.loadResult
  split
  exact .ite h.setRegN.setRegN.setRegN.raise h.setRegN.setRegN.setRegN

theorem Evolves.loadCompare (h : Evolves r s) {n : Nat} : Evolves r (s.loadCompare n) :=
  h.setCmp.setRegN.setRegN.clearBit.setFld.setFld

theorem Evolves.loadPulse (h : Evolves r s) : Evolves r s.loadPulse :=
  h.foldl (fun _ _ h => .ite h.raise h.pmDisable)

theorem Evolves.swapTimers (h : Evolves r s) {w : SwapState} : Evolves r (s.swapTimers w) :=
  .ite h.setRegN.setRegN.setRegN
    ((h.setRegN.setRegN.setRegN.foldl (fun _ _ h => .ite h.setFld ((Evolves.ite h.setBit h).loadCompare))).loadPulse)

theorem Evolves.loadWhole (h : Evolves r s) : Evolves r s.loadWhole :=
  ((((h.other.foldl (fun _ _ h => h.loadCompare)).foldl (fun _ _ h => h.setRegN)).foldl
    (fun _ _ h => h.setRegN)).setEvf.loadPulse.evRestart.aonRestart.settleCtx.foldl
    (fun _ _ h => h.clearSlots)).setRegN.setFld

theorem Evolves.setSource (h : Evolves r s) {full p1 p2 : Nat} : Evolves r (s.setSource full p1 p2) := h.setRegN

theorem Evolves.placeRom (h : Evolves r s) : Evolves r s.placeRom := h.other.setRegN.setRegN.setSource

theorem Evolves.placeImage (h : Evolves r s) {k : Nat} {part : Bool} : Evolves r (s.placeImage k part) :=
  .ite h.other.setRegN h.other.other.setRegN.setRegN.setSource

theorem Evolves.bootStep (h : Evolves r s) {pos k : Nat} {part : Bool} : Evolves r (s.bootStep pos k part).2 := by
  unfold State.bootStep
  extract_lets r'
  clear_value r'
  split
  · exact h.other.loadResult.pair
  · exact h.other.placeImage.pair

theorem Evolves.buildBoard (h : Evolves r s) {list : Nat} : Evolves r (s.buildBoard list) := by
  unfold State.buildBoard
  extract_lets _
  split
  have h9 := h.other.loadResult.bootStep.of_snd ‹_›
  extract_lets s8
  have h8 : Evolves r s8 := by
    unfold s8
    split
    · refine .ite h9 ?_
      split
      have h5 := h9.bootStep.of_snd ‹_›
      refine .ite h5 ?_
      extract_lets _
      refine .ite h5.setFld ?_
      split
      have h4 := h5.setFld.bootStep.of_snd ‹_›
      exact .ite h4.setFld h4
    · refine .ite h9.placeRom ?_
      split
      have h7 := h9.bootStep.of_snd ‹_›
      exact .ite h7 h7.placeRom
  exact h8.loadWhole

theorem Evolves.submitSwap (h : Evolves r s) {k : Nat} {persist : Bool} {round : Nat} :
    Evolves r (s.submitSwap k persist round).2 :=
  .ite_snd h (.ite_snd h (.ite_snd h h.other.setRegN.pair))

theorem Evolves.abortSwap (h : Evolves r s) : Evolves r s.abortSwap := .ite h.endSwap.startWaiting h

theorem Evolves.writeSwapctl (h : Evolves r s) {w : Word} : Evolves r (s.writeSwapctl w) :=
  .ite h.writeReg.abortSwap (.ite h.writeReg.submitSwap h.writeReg)

theorem Evolves.execSwapctlStart (h : Evolves r s) {user : Bool} {w : Word} :
    Leads r (execSwapctlStart user w s) :=
  h.guarded (.ite h.writeSwapctl h)

theorem Evolves.execSwapctlAbort (h : Evolves r s) {user : Bool} {w : Word} :
    Leads r (execSwapctlAbort user w s) :=
  h.guarded (.ite h.writeSwapctl h)

theorem Evolves.execSwapStaged (h : Evolves r s) : Leads r (execSwapStaged s) := by
  unfold Machine.execSwapStaged
  refine .next ?_
  split
  · exact h
  · refine .ite h ?_
    extract_lets r'
    clear_value r'
    split
    · exact h.loadResult.endSwap.startWaiting
    · exact h.loadResult.other.setFld.raise

theorem Evolves.execSwapDrain (h : Evolves r s) : Leads r (execSwapDrain s) := by
  unfold Machine.execSwapDrain
  refine .next ?_
  split
  · exact h
  · exact .ite h.setFld.drainCtx.other h

theorem Evolves.deliverLatched (h : Evolves r s) : Evolves r s.deliverLatched :=
  h.foldl (fun _ _ h => .ite h.evAccept.evAccept h)

theorem Evolves.holdPads (h : Evolves r s) {old : State} : Evolves r (s.holdPads old) := h.other

theorem Evolves.switchBoard (h : Evolves r s) {w : SwapState} : Evolves r (s.switchBoard w) := by
  unfold State.switchBoard
  extract_lets _ _ _ _ _ _ s1 s2
  have h1 : Evolves r s1 := (Evolves.ite h.other.swapTimers.holdPads h.other.swapTimers).foldl
    (fun _ _ h => .ite h h.clearSlots)
  have h2 : Evolves r s2 := .ite h1.evSwap h1
  exact .ite h2.aonRestart h2

theorem Evolves.execSwapBoundary (h : Evolves r s) : Leads r (execSwapBoundary s) := by
  unfold Machine.execSwapBoundary
  refine .next ?_
  split
  · exact h
  · exact .ite h (.ite (.ite h.endSwap.startWaiting h.setFld.raise.other) h.deliverLatched.other.setFld.switchBoard)

theorem Evolves.deliverEdge (h : Evolves r s) {det : Nat} {g : HeldEdge} : Evolves r (s.deliverEdge det g) := by
  unfold State.deliverEdge
  extract_lets _ s1
  have h1 : Evolves r s1 := .ite h.evPulseAt h.evLevelAt
  refine .ite ?_ (.ite h1.evQuiet.irqSample h1.evQuiet)
  split
  exact .ite h.evLatchIn h

theorem Evolves.sourceAfter (h : Evolves r s) {k : Nat} : Evolves r (s.sourceAfter k) :=
  .ite h.satCount.setFld (.ite h.satCount.setFld h.satCount.setFld.setFld)

theorem Evolves.closeWindow (h : Evolves r s) : Evolves r s.closeWindow := by
  unfold State.closeWindow
  extract_lets _ _ _ _ s1
  have h1 : Evolves r s1 := .ite h.setRegN h.setRegN.raise
  exact .ite h1 h1.raise

theorem Evolves.restoreBoard (h : Evolves r s) {w : SwapState} : Evolves r (s.restoreBoard w) := by
  unfold State.restoreBoard
  extract_lets _ _ s1
  have h1 : Evolves r s1 := .ite h.other.evSwap h.other
  exact .ite h1.aonRestart h1

theorem Evolves.execSwapWindowClose (h : Evolves r s) {same : Bool} : Leads r (execSwapWindowClose same s) := by
  unfold Machine.execSwapWindowClose
  refine .next ?_
  split
  · exact h
  · refine .ite h ?_
    extract_lets _ _ _ _ _ _ _ s3 _ s4
    have h3 : Evolves r s3 :=
      ((Evolves.ite h.setFld.closeWindow.other h.setFld.closeWindow.other.restoreBoard).foldl
      (fun _ _ h => h.deliverEdge)).foldl (fun _ _ h => h.deliverMatch)
    have h4 : Evolves r s4 := (Evolves.ite h3.setRegN.sourceAfter h3).endSwap.padsFollow.settleCtx
    exact (Evolves.ite h4.other h4).startWaiting

theorem Evolves.writeBootList (h : Evolves r s) {n : Nat} : Evolves r (s.writeBootList n).2 := h.nvWrite

theorem Evolves.execSwapPersistDone (h : Evolves r s) : Leads r (execSwapPersistDone s) := by
  unfold Machine.execSwapPersistDone
  refine .next ?_
  split
  · exact h
  · refine .ite h ?_
    extract_lets _
    split
    have h4 := h.writeBootList.of_snd ‹_›
    exact .ite h4 (.ite h4.other.notice h4.other)

theorem Evolves.handleBoardWrite (h : Evolves r s) {x : Origin} {p : List Byte} :
    Evolves r (handleBoardWrite x p s).2 := by
  unfold Machine.handleBoardWrite
  extract_lets _
  refine .ite_snd h ?_
  split
  exact (h.flProgram.of_snd ‹_›).pair

theorem Evolves.execBoardWrite (h : Evolves r s) {o : Origin} {p : List Byte} :
    Leads r (execBoardWrite o p s) :=
  .next (h.hostCommand (fun _ _ _ h => h.handleBoardWrite))

theorem Evolves.handleBoardErase (h : Evolves r s) {o : Origin} {p : List Byte} :
    Evolves r (handleBoardErase o p s).2 := by
  unfold Machine.handleBoardErase
  refine .ite_snd h ?_
  split
  have h2 := h.flErase.of_snd ‹_›
  exact .ite_snd h2.pair h2.pair

theorem Evolves.execBoardErase (h : Evolves r s) {o : Origin} {p : List Byte} :
    Leads r (execBoardErase o p s) :=
  .next (h.hostCommand (fun _ _ _ h => h.handleBoardErase))

theorem Evolves.handleBoardVerify (h : Evolves r s) {x : Origin} {p : List Byte} :
    Evolves r (handleBoardVerify x p s).2 := by
  unfold Machine.handleBoardVerify
  refine .ite_snd h ?_
  extract_lets _
  split
  exact h.loadResult.pair

theorem Evolves.execBoardVerify (h : Evolves r s) {o : Origin} {p : List Byte} :
    Leads r (execBoardVerify o p s) :=
  .next (h.hostCommand (fun _ _ _ h => h.handleBoardVerify))

theorem Evolves.handleBoardSwap (h : Evolves r s) {x : Origin} {p : List Byte} :
    Evolves r (handleBoardSwap x p s).2 := by
  unfold Machine.handleBoardSwap
  refine .ite_snd h ?_
  split
  exact (h.submitSwap.of_snd ‹_›).pair

theorem Evolves.execBoardSwap (h : Evolves r s) {o : Origin} {p : List Byte} : Leads r (execBoardSwap o p s) :=
  .next (h.hostCommand (fun _ _ _ h => h.handleBoardSwap))

theorem Evolves.execBoardAbort (h : Evolves r s) {o : Origin} {p : List Byte} :
    Leads r (execBoardAbort o p s) :=
  .next (h.hostCommand (fun _ _ _ h => h.abortSwap.pair))

theorem Evolves.handleBoardReload (h : Evolves r s) {o : Origin} {x : List Byte} :
    Evolves r (handleBoardReload o x s).2 :=
  .ite_snd h (.ite_snd h h.missRadio.other.pair)

theorem Evolves.execBoardReload (h : Evolves r s) {o : Origin} {p : List Byte} :
    Leads r (execBoardReload o p s) :=
  .next (h.hostCommand (fun _ _ _ h => h.handleBoardReload))

theorem Evolves.execFullReloadDone (h : Evolves r s) : Leads r (execFullReloadDone s) := by
  unfold Machine.execFullReloadDone
  refine .next ?_
  split
  · exact h
  · exact h.deliverLatched.buildBoard.other.respond

theorem Evolves.handleBoardBootlist (h : Evolves r s) {x : Origin} {p : List Byte} :
    Evolves r (handleBoardBootlist x p s).2 := by
  unfold Machine.handleBoardBootlist
  extract_lets _
  refine .ite_snd h ?_
  refine .ite_snd h ?_
  refine .ite_snd h.loadResult.pair ?_
  split
  exact (h.loadResult.writeBootList.of_snd ‹_›).pair

theorem Evolves.execBoardBootlist (h : Evolves r s) {o : Origin} {p : List Byte} :
    Leads r (execBoardBootlist o p s) :=
  .next (h.hostCommand (fun _ _ _ h => h.handleBoardBootlist))

theorem Evolves.execBoardStatus (h : Evolves r s) {o : Origin} {p : List Byte} :
    Leads r (execBoardStatus o p s) :=
  .next (h.hostCommand (fun _ _ _ h => h.pair))

/-! ### Self tests -/

theorem Evolves.loadBist (h : Evolves r s) : Evolves r s.loadBist := by
  unfold State.loadBist
  split
  · exact h
  · exact .ite h.setRegN.setRegN h.setRegN.setRegN.raise

theorem Evolves.startBist (h : Evolves r s) {tests : Nat} : Evolves r (s.startBist tests) := h.jrnFlush.other

theorem Evolves.handleBistRun (h : Evolves r s) {x : Origin} {p : List Byte} :
    Evolves r (handleBistRun x p s).2 :=
  .ite_snd h.startBist.pair h

theorem Evolves.execBistRun (h : Evolves r s) {o : Origin} {p : List Byte} : Leads r (execBistRun o p s) :=
  .next (h.hostCommand (fun _ _ _ h => h.handleBistRun))

theorem Evolves.writeBstCtl (h : Evolves r s) {w : Word} : Evolves r (s.writeBstCtl w) := .ite h.startBist h

theorem Evolves.execBistGo (h : Evolves r s) {user : Bool} {w : Word} : Leads r (execBistGo user w s) :=
  h.guarded h.writeBstCtl

theorem Evolves.putBist (h : Evolves r s) {rec : List Byte} : Evolves r (s.putBist rec) :=
  (Evolves.ite ((Evolves.ite h.eraseCounted h).eraseCounted) (.ite h.eraseCounted h)).program.program

theorem Evolves.bistMemories (h : Evolves r s) {began : Nat → Bool} : Evolves r (s.bistMemories began) := by
  unfold State.bistMemories
  extract_lets s1
  have h1 : Evolves r s1 := .ite (h.loseRam.foldl (fun _ _ h => h.bumpEpoch)) h
  exact .ite h1.loseRam.bumpEpoch.dropContexts h1

theorem Evolves.execBistDone (h : Evolves r s) {sigs fails : List (Nat × Nat)} :
    Leads r (execBistDone sigs fails s) := by
  unfold Machine.execBistDone
  refine .next ?_
  split
  · exact h
  · exact .ite h ((h.bistMemories.putBist.foldl (fun _ _ h => h.captureFault)).assertReset)

theorem Evolves.handleBistResult (h : Evolves r s) {x : Origin} {p : List Byte} :
    Evolves r (handleBistResult x p s).2 := by
  unfold Machine.handleBistResult
  extract_lets _
  refine .ite_snd h ?_
  split
  · exact h
  · exact h

theorem Evolves.execBistResult (h : Evolves r s) {o : Origin} {p : List Byte} :
    Leads r (execBistResult o p s) :=
  .next (h.hostCommand (fun _ _ _ h => h.handleBistResult))

/-! ### Cryptography -/

theorem Evolves.cryShow (h : Evolves r s) : Evolves r s.cryShow := h.setFld.setFld.setFld.setFld.setFld

theorem Evolves.setUnit (h : Evolves r s) {pk : Bool} {c : Nat} : Evolves r (s.setUnit pk c) := h.other

theorem Evolves.passUnit (h : Evolves r s) {pk : Bool} : Evolves r (s.passUnit pk) := by
  unfold State.passUnit
  split
  · exact h.setUnit
  · exact h

theorem Evolves.setOp (h : Evolves r s) {c : Nat} {o : CryOp} : Evolves r (s.setOp c o) := h.other

theorem Evolves.startOpOn (h : Evolves r s) {c : Nat} {o : CryOp} : Evolves r (s.startOpOn c o) := by
  unfold State.startOpOn
  extract_lets _ _ s1
  have h1 : Evolves r s1 := .ite h.setOp.setUnit h.setOp
  exact (Evolves.ite h1.count h1).setFld.setFld.setFld.cryShow

theorem Evolves.writeCryCtl (h : Evolves r s) {c : Nat} {w : Word} : Evolves r (s.writeCryCtl c w) := by
  unfold State.writeCryCtl
  refine .ite h ?_
  extract_lets _
  refine .ite (.ite h.writeReg.startOpOn (.ite h.writeReg h.writeReg.setFld)) ?_
  refine .ite ?_ h.writeReg
  split
  · exact .ite h.writeReg.setOp h.writeReg
  · exact h.writeReg

theorem Evolves.execCryptoStart (h : Evolves r s) {c : Nat} {user : Bool} {w : Word} :
    Leads r (execCryptoStart c user w s) :=
  h.guarded (.ite h.writeCryCtl h)

theorem Evolves.execCryptoAbort (h : Evolves r s) {c : Nat} {user : Bool} {w : Word} :
    Leads r (execCryptoAbort c user w s) :=
  h.guarded (.ite h.writeCryCtl h)

theorem Evolves.cryChunk (h : Evolves r s) {c : Nat} {o : CryOp} : Evolves r (s.cryChunk c o) :=
  (Evolves.ite h.count.setFld.dma h.count.setFld).setOp

theorem Evolves.execCryptoChunk (h : Evolves r s) {pk : Bool} : Leads r (execCryptoChunk pk s) := by
  unfold Machine.execCryptoChunk
  refine .next ?_
  refine .ite h ?_
  extract_lets _
  split
  · exact h.passUnit.cryShow
  · exact .ite h ((Evolves.ite h.cryChunk h).passUnit.cryShow)

theorem Evolves.cryEnd (h : Evolves r s) {c : Nat} {o : CryOp} {st : Status} : Evolves r (s.cryEnd c o st) := by
  unfold State.cryEnd
  extract_lets _ _ _ _ s1 s2 s3
  have h1 : Evolves r s1 := .ite h.other.setFld.setFld.setBit.count h.other.setFld.setFld.setBit.count
  have h2 : Evolves r s2 := .ite h1.count.raise h1
  have h3 : Evolves r s3 := .ite h2.count h2
  exact (Evolves.ite h3.passUnit h3).cryShow

theorem Evolves.cryFail (h : Evolves r s) {c : Nat} {o : CryOp} {st : Status} : Evolves r (s.cryFail c o st) :=
  h.dma.cryEnd

theorem Evolves.toSlot (h : Evolves r s) {o : CryOp} {key : List Byte} : Evolves r (s.toSlot o key) := h.setKey

theorem Evolves.cryFinish (h : Evolves r s) {o : CryOp} : Evolves r (s.cryFinish o).2 := by
  unfold State.cryFinish
  extract_lets _
  split
  · exact .ite_snd h h.dma.pair
  · exact .ite_snd h h.dma.pair
  · exact h
  · exact .ite_snd h h.dma.pair
  · exact h.dma.pair
  · exact h.dma.pair
  · exact .ite_snd h h.dma.pair
  · exact .ite_snd h h.dma.pair
  · split
    exact (h.draw.of_snd ‹_›).dma.pair
  · exact h
  · exact h.toSlot.pair
  · exact h.toSlot.pair
  · exact h.dma.pair
  · exact h
  · split
    exact (h.draw.of_snd ‹_›).toSlot.dma.pair
  · split
    exact (h.draw.of_snd ‹_›).toSlot.dma.pair
  · exact h.toSlot.pair
  · exact h.dma.pair

theorem Evolves.execCryptoDone (h : Evolves r s) {c : Nat} : Leads r (execCryptoDone c s) := by
  unfold Machine.execCryptoDone
  refine .next ?_
  refine .ite h ?_
  split
  · exact h
  · split
    · exact h.cryFail
    · refine .ite h ?_
      refine .ite h ?_
      split
      have h6 := h.cryFinish.of_snd ‹_›
      exact .ite h6.cryEnd h6.cryFail

/-! ### Random numbers -/

theorem Evolves.rngCount (h : Evolves r s) {k n : Nat} : Evolves r (s.rngCount k n) := h.countBy

theorem Evolves.rngNotice (h : Evolves r s) {st : Status} : Evolves r (s.rngNotice st) := h.notice

theorem Evolves.rngStartup (h : Evolves r s) {fromFail : Bool} : Evolves r (s.rngStartup fromFail) := h.setFld.other

theorem Evolves.execRngWindow (h : Evolves r s) : Leads r (execRngWindow s) :=
  .next (.ite h (.ite ((Evolves.ite h.rngCount.other.rngCount h.rngCount.other).other)
    (.ite h.rngCount.other (.ite h.rngCount.other.setFld.other.setFld.raise.rngNotice h.rngCount.other.setFld.other))))

theorem Evolves.rngEnd (h : Evolves r s) {n : Nat} {st : Status} : Evolves r (s.rngEnd n st) :=
  .ite h.other.setFld.setFld.setBit.rngCount h.other.setFld.setFld.setBit

theorem Evolves.failDraws (h : Evolves r s) : Evolves r s.failDraws := h.foldl (fun _ _ h => h.cryEnd.rngCount)

theorem Evolves.execRngHealthFail (h : Evolves r s) {test : Nat} : Leads r (execRngHealthFail test s) :=
  .next (.ite h (((Evolves.ite h.rngCount (.ite h.rngCount h)).rngCount.other.foldl
    (fun _ _ h => h.rngEnd)).failDraws.satCount.setFld.setFld.raise.rngNotice))

theorem Evolves.execRngAutoRestart (h : Evolves r s) : Leads r (execRngAutoRestart s) := .next (.ite h.rngStartup h)

theorem Evolves.writeRngCtl (h : Evolves r s) {w : Word} : Evolves r (s.writeRngCtl w) :=
  .ite h.writeReg.rngStartup h.writeReg

theorem Evolves.execRngRestart (h : Evolves r s) {user : Bool} {w : Word} : Leads r (execRngRestart user w s) :=
  h.guarded (.ite h.writeRngCtl h)

theorem Evolves.writeReqlen (h : Evolves r s) {n : Nat} {w : Word} : Evolves r (s.writeReqlen n w) :=
  .ite h (.ite h.rngEnd (.ite h.rngEnd h.setFld.setFld.other))

theorem Evolves.execRngRequest (h : Evolves r s) {n : Nat} {user : Bool} {w : Word} :
    Leads r (execRngRequest n user w s) :=
  h.guarded (.ite h.writeReqlen h)

theorem Evolves.execRngRequestDone (h : Evolves r s) {n : Nat} : Leads r (execRngRequestDone n s) := by
  unfold Machine.execRngRequestDone
  refine .next ?_
  split
  · exact h
  · refine .ite h ?_
    split
    exact (h.draw.of_snd ‹_›).dma.rngCount.rngEnd

theorem Evolves.handleRngStatus (h : Evolves r s) {x : Origin} {x' : List Byte} :
    Evolves r (handleRngStatus x x' s).2 :=
  h

theorem Evolves.execRngStatus (h : Evolves r s) {o : Origin} {p : List Byte} : Leads r (execRngStatus o p s) :=
  .next (h.hostCommand (fun _ _ _ h => h.handleRngStatus))

/-! ### Tamper -/

theorem Evolves.writeTmpClass (h : Evolves r s) {w : Word} : Evolves r (s.writeTmpClass w) := .ite h h.setFld

theorem Evolves.writeTmpIncfg (h : Evolves r s) {w : Word} : Evolves r (s.writeTmpIncfg w) := .ite h h.setFld

theorem Evolves.writeTmpDetcfg (h : Evolves r s) {w : Word} : Evolves r (s.writeTmpDetcfg w) := .ite h h.setFld

theorem Evolves.writeTmpCtl (h : Evolves r s) {w : Word} : Evolves r (s.writeTmpCtl w) := .ite h h.writeReg

theorem Evolves.alarmLog (h : Evolves r s) {src cls : Nat} : Evolves r (s.alarmLog src cls) :=
  h.setBit.setBit.satCount.setFld.setFld.setBit.evLevel

theorem Evolves.wipeSlots (h : Evolves r s) {lo n : Nat} : Evolves r (s.wipeSlots lo n) := by
  unfold State.wipeSlots
  extract_lets _ s1
  have h1 : Evolves r s1 := h.foldl (fun _ _ h => h.dropKey)
  exact .ite h1.raise h1

theorem Evolves.wipeRng (h : Evolves r s) : Evolves r s.wipeRng := h.rngStartup.other

/-- The field WIPEMAC has four bits, so that it names a block of the retained SRAM. -/
theorem State.fld_tmpCtlWipemac_lt (s : State) : s.fld F.tmpCtlWipemac < 16 := Nat.mod_lt _ (by decide)

theorem Evolves.wipeSession (h : Evolves r s) : Evolves r s.wipeSession := by
  unfold State.wipeSession
  extract_lets s1
  have h1 : Evolves r s1 := .ite h.wipeSlots.endOps.wipeRng h
  exact .ite (h1.zeroMacro (State.fld_tmpCtlWipemac_lt _)) h1

theorem Evolves.wipeAll (h : Evolves r s) : Evolves r s.wipeAll := (Evolves.ite h.wipeSlots.raise h).raise

theorem Evolves.alarmNotice (h : Evolves r s) {p : List Byte} : Evolves r (s.alarmNotice p) := .ite h.notice h.other

theorem Evolves.wipeMoment (h : Evolves r s) : Evolves r s.wipeMoment :=
  .ite h.wipeSlots.endOps.raise.other (.ite h.wipeSlots h)

theorem Evolves.alarmBist (h : Evolves r s) : Evolves r s.alarmBist := by
  unfold State.alarmBist
  split
  · exact .ite h.other h
  · exact h

theorem Evolves.alarmMode (h : Evolves r s) : Evolves r s.alarmMode := by
  unfold State.alarmMode
  extract_lets s3 s4
  have h3 : Evolves r s3 := by
    unfold s3
    split
    · exact .ite h.abandonEntry h
    · exact h
  have h4 : Evolves r s4 := .ite h3.irqSetPending h3
  exact .ite h4.wakeWatch.queueAlarms h4

theorem Evolves.alarmHalt (h : Evolves r s) {cls : Nat} : Evolves r (s.alarmHalt cls) :=
  .ite h (.ite h.other h.assertReset)

theorem Evolves.tamperAlarm (h : Evolves r s) {src : Nat} : Evolves r (s.tamperAlarm src) := by
  unfold State.tamperAlarm
  extract_lets _ _ _ _ _ s1
  have h1 : Evolves r s1 := .ite h.alarmLog.wipeSession h.alarmLog
  exact ((Evolves.ite h1.wipeAll h1).wipeMoment).alarmNotice.alarmBist.alarmMode.alarmHalt

theorem Evolves.execTamperAlarm (h : Evolves r s) {src : Nat} {on : Bool} :
    Leads r (execTamperAlarm src on s) :=
  .next (.ite h (.ite (.ite h.tamperAlarm h) (.ite h.clearBit.evLevel h.clearBit)))

theorem Evolves.relatch (h : Evolves r s) : Evolves r s.relatch := h.setFld

theorem Evolves.writeLatch (h : Evolves r s) {w : Word} : Evolves r (s.writeLatch w) :=
  (h.foldl (fun _ _ h => .ite h.clearBit h)).relatch

theorem Evolves.execLatchClear (h : Evolves r s) {user : Bool} {w : Word} : Leads r (execLatchClear user w s) :=
  h.guarded h.writeLatch

theorem Evolves.sampleTamper (h : Evolves r s) {alarms : Nat} : Evolves r (s.sampleTamper alarms) :=
  h.foldl (fun _ _ h => .ite (.ite h h.alarmLog.alarmNotice) h.clearBit)

theorem Evolves.tamperHaltNotice (h : Evolves r s) : Evolves r s.tamperHaltNotice :=
  .ite h.raise.notice h.raise.queueAlarms

theorem Evolves.handleSecStatus (h : Evolves r s) {x : Origin} {x' : List Byte} :
    Evolves r (handleSecStatus x x' s).2 :=
  h

theorem Evolves.execSecStatus (h : Evolves r s) {o : Origin} {p : List Byte} : Leads r (execSecStatus o p s) :=
  .next (h.hostCommand (fun _ _ _ h => h.handleSecStatus))

theorem Evolves.handleTamperClear (h : Evolves r s) {x : Origin} {p : List Byte} :
    Evolves r (handleTamperClear x p s).2 := by
  unfold Machine.handleTamperClear
  extract_lets _ s1
  have h1 : Evolves r s1 := (h.foldl (fun _ _ h => .ite h.clearBit h)).relatch
  exact .ite_snd h (.ite_snd h ((Evolves.ite h1.other h1).pair))

theorem Evolves.execTamperClear (h : Evolves r s) {o : Origin} {p : List Byte} :
    Leads r (execTamperClear o p s) :=
  .next (h.hostCommand (fun _ _ _ h => h.handleTamperClear))

/-! ### Resets and the boot -/

theorem Evolves.execPowerOn (h : Evolves r s) : Leads r (execPowerOn s) := .next h.assertReset

theorem Evolves.execLpBrownout (h : Evolves r s) : Leads r (execLpBrownout s) := .next (.ite h.assertReset h)

theorem Evolves.execResetNLow (h : Evolves r s) : Leads r (execResetNLow s) :=
  .next (.ite h.assertReset.other h.assertReset)

theorem Evolves.execResetNRise (h : Evolves r s) : Leads r (execResetNRise s) := .next (.ite h.other h)

theorem Evolves.execCoreBrownout (h : Evolves r s) : Leads r (execCoreBrownout s) := .next (.ite h h.assertReset)

theorem Evolves.execWakeTimeout (h : Evolves r s) {stage : Nat} : Leads r (execWakeTimeout stage s) :=
  .next h.captureFault.assertReset

theorem Evolves.execWatchdog (h : Evolves r s) : Leads r (execWatchdog s) := .next (.ite h.assertReset h)

theorem Evolves.writeWdtkick (h : Evolves r s) {w : Word} : Evolves r (s.writeWdtkick w) :=
  .ite h.setFld.other h.assertReset

theorem Evolves.execWdtkick (h : Evolves r s) {user : Bool} {w : Word} : Leads r (execWdtkick user w s) :=
  h.guarded h.writeWdtkick

theorem Evolves.execWdtearly (h : Evolves r s) : Leads r (execWdtearly s) := .next (.ite h.raise.setFld h)

theorem Evolves.resetCore (h : Evolves r s) {core : Nat} : Evolves r (s.resetCore core) :=
  h.pipReset.icuCoreReset.redeliver

theorem Evolves.softCoreReset (h : Evolves r s) {core : Nat} : Evolves r (s.softCoreReset core) :=
  h.resetCore.setBit

theorem Evolves.lockupCoreReset (h : Evolves r s) {core : Nat} : Evolves r (s.lockupCoreReset core) :=
  h.resetCore.setBit

theorem Evolves.writeSwrst (h : Evolves r s) {w : Word} : Evolves r (s.writeSwrst w) := by
  unfold State.writeSwrst
  extract_lets _
  refine .ite h ?_
  split
  · exact .ite h.softCoreReset h
  · exact h.assertReset
  · exact h.assertReset
  · exact h

theorem Evolves.execSwrstCore (h : Evolves r s) {user : Bool} {w : Word} : Leads r (execSwrstCore user w s) :=
  h.guarded h.writeSwrst

theorem Evolves.execSwrstSystem (h : Evolves r s) {user : Bool} {w : Word} :
    Leads r (execSwrstSystem user w s) :=
  h.guarded h.writeSwrst

theorem Evolves.execSwrstAlwaysOn (h : Evolves r s) {user : Bool} {w : Word} :
    Leads r (execSwrstAlwaysOn user w s) :=
  h.guarded h.writeSwrst

theorem Evolves.handleSysReset (h : Evolves r s) {x : Origin} {p : List Byte} :
    Evolves r (handleSysReset x p s).2 :=
  .ite_snd h (.ite_snd h h.other.pair)

theorem Evolves.execSysReset (h : Evolves r s) {o : Origin} {p : List Byte} : Leads r (execSysReset o p s) :=
  .next (h.hostCommand (fun _ _ _ h => h.handleSysReset))

theorem Evolves.execSysResetAssert (h : Evolves r s) : Leads r (execSysResetAssert s) := by
  unfold Machine.execSysResetAssert
  refine .next ?_
  split
  · exact h.assertReset
  · exact .ite h.assertReset h

theorem Evolves.writeCorerun (h : Evolves r s) {w : Word} : Evolves r (s.writeCorerun w) :=
  h.foldl (fun _ _ h => .ite h.pipRelease.demandCluster h)

theorem Evolves.execCoreRelease (h : Evolves r s) {user : Bool} {w : Word} :
    Leads r (execCoreRelease user w s) :=
  h.guarded (.ite h.writeCorerun h)

theorem Evolves.setStage (h : Evolves r s) {n : Nat} : Evolves r (s.setStage n) := h.setFld

theorem Evolves.bootRelease (h : Evolves r s) : Evolves r s.bootRelease :=
  (Evolves.ite h.switchOn.switchOn.switchOn h.switchOn.switchOn.switchOn.raise).wakeReady.lower.cpuToHf.setStage

theorem Evolves.writeDefault (h : Evolves r s) {a v : Nat} : Evolves r (s.writeDefault a v) :=
  .ite h.writeTmpClass (.ite h.writeTmpIncfg
    (.ite h.writeTmpDetcfg (.ite h.writeTmpCtl (.ite h.writeNtmCfg (.ite h.writeSynccfg h.writeReg)))))

theorem Evolves.defaultXref (h : Evolves r s) : Evolves r s.defaultXref := by
  unfold State.defaultXref
  refine .ite ?_ h.raise
  split
  split
  exact ((h.draw.of_snd ‹_›).draw.of_snd ‹_›).setFld.setFld

theorem Evolves.bootOtp (h : Evolves r s) : Evolves r s.bootOtp :=
  (h.setRegN.setRegN.foldl (fun _ _ h => h.writeDefault)).defaultXref.findStaging.loadBist

theorem Evolves.bootRlr (h : Evolves r s) : Evolves r s.bootRlr :=
  (Evolves.ite h.other.raise (.ite h.other.raise h.other)).seedLedgers

theorem Evolves.loadDefaults (h : Evolves r s) {step : Nat} : Evolves r (s.loadDefaults step) :=
  h.foldl (fun _ _ h => h.writeDefault)

theorem Evolves.bootDfi (h : Evolves r s) : Evolves r s.bootDfi :=
  (Evolves.ite h.raise (.ite h.raise h)).other.loadDefaults

theorem Evolves.bootClocks (h : Evolves r s) {xref : Bool} : Evolves r (s.bootClocks xref) :=
  .ite h.switchOn.setStage.raise.other.setFld.setFld.raise.raise.lower.lower.other h.switchOn.setStage.raise.other

theorem Evolves.bootImages (h : Evolves r s) : Evolves r s.bootImages :=
  (Evolves.ite h.setStage.bootDecision.setStage.buildBoard.raise h.setStage.bootDecision.setStage.buildBoard).setStage

theorem Evolves.bootToBackground (h : Evolves r s) : Evolves r s.bootToBackground :=
  (Evolves.ite h.setStage.startRecovery h.setStage.startRecovery.bootImages).other

theorem Evolves.bootLink (h : Evolves r s) {stage t9 : Nat} : Evolves r (s.bootLink stage t9) :=
  h.setStage.loadDefaults.startLink.trimNotices.notice

theorem Evolves.bootNotices (h : Evolves r s) : Evolves r s.bootNotices := by
  unfold State.bootNotices
  extract_lets _ s1 s2 s3 _ s4
  have h1 : Evolves r s1 := .ite h.queueAlarms h.queueAlarms.nvNotice
  have h2 : Evolves r s2 := .ite h1 h1.nvNotice
  have h3 : Evolves r s3 := .ite h2.jrnNotice h2
  have h4 : Evolves r s4 := (Evolves.ite h3.jrnNotice h3).foldl (fun _ _ h => h.notice)
  exact .ite h4.notice h4

theorem Evolves.tamperHalt (h : Evolves r s) : Evolves r s.tamperHalt :=
  h.raise.placeRom.loadWhole.bootLink.tamperHaltNotice.other

theorem Evolves.bootFirst (h : Evolves r s) {tamper : Nat} : Evolves r (s.bootFirst tamper) :=
  .ite h.bootRelease.setStage.bootOtp.setStage.sampleTamper.tamperHalt
    h.bootRelease.setStage.bootOtp.setStage.sampleTamper.unsealKeys.setStage.bootRlr.setStage.bootDfi.switchOn.xrefStart.setStage

theorem Evolves.execStartUp (h : Evolves r s) {xref : Bool} {tamper : Nat} :
    Leads r (execStartUp xref tamper s) :=
  .next (.ite h (.ite h.abandonStartup
    (.ite (.ite h.tamperHalt (.ite h.bootClocks.bootToBackground h))
    (.ite h.bootFirst.bootClocks.bootToBackground h.bootFirst))))

theorem Evolves.execXrefStartTimeout (h : Evolves r s) : Leads r (execXrefStartTimeout s) :=
  .next (.ite (.ite h.tamperHalt (.ite h.raise.raise.bootClocks.bootToBackground h.setFld.raise.other)) h)

theorem Evolves.execJournalRecoveryDone (h : Evolves r s) : Leads r (execJournalRecoveryDone s) :=
  .next (.ite ((Evolves.ite h.finishRecovery.bootImages h.finishRecovery).other) h)

theorem Evolves.execHoldupMeasurementDone (h : Evolves r s) {fall : Nat} {stayed : Bool} :
    Leads r (execHoldupMeasurementDone fall stayed s) := by
  unfold Machine.execHoldupMeasurementDone
  refine .next ?_
  refine .ite ?_ (.ite h.holdupEnds h)
  extract_lets _ s1
  have h1 : Evolves r s1 := .ite h.finishHoldup h.finishHoldup.raise
  exact .ite h1.other.supplyTrip h1.other

theorem Evolves.startFirmware (h : Evolves r s) : Evolves r s.startFirmware :=
  (Evolves.ite h h.pipRelease).other.other.setFld

theorem Evolves.bootRun (h : Evolves r s) {t10 : Nat} : Evolves r (s.bootRun t10) := by
  unfold State.bootRun
  extract_lets s1 _ _ _ _ s2
  have h1 : Evolves r s1 := h.setStage.setRegN.freshContexts
  have h2 : Evolves r s2 := .ite h1.other.raise h1.other
  exact (Evolves.ite h2.enterLastgasp.other (.ite h2.goDormant.enterMode h2.powerUpFor.enterMode)).startFirmware

theorem Evolves.bootService (h : Evolves r s) {t9 t10 : Nat} : Evolves r (s.bootService t9 t10) :=
  .ite h.bootLink.bootNotices.setRegN.freshContexts.other.enterLastgasp.other
    h.bootLink.bootNotices.setRegN.freshContexts.other.powerUpFor.enterMode

theorem Evolves.execHandover (h : Evolves r s) {t9 t10 : Nat} : Leads r (execHandover t9 t10 s) :=
  .next (.ite (.ite h.tamperHalt (.ite h.bootService h.bootLink.bootNotices.bootRun)) h)

/-! ### The bus -/

theorem Evolves.outState (h : Evolves r s) {o : Out} (ho : Leads r o) : Evolves r (outState o s) := by
  unfold Machine.outState
  split
  · exact ho
  · exact h

theorem Evolves.readRssi (h : Evolves r s) {c : Chain} : Evolves r (s.readRssi c) := by
  unfold State.readRssi
  refine .ite ?_ h.answerRead
  split
  exact (h.draw.of_snd ‹_›).answerRead

theorem Evolves.readHook (h : Evolves r s) {a i : Nat} : LeadsIf r (s.readHook a i) := by
  unfold State.readHook
  split
  · exact .ite (.next h.readRssi) trivial
  · exact .ite (.next h.readRssi) trivial
  · exact .ite h.execLnkNext0Read trivial
  · split
    · exact h.execCmploRead
    · split
      · split
        exact .next (h.readCmphi.of_snd ‹_›).answerRead
      · exact .ite h.execCapstatRead (.ite h.execPmstatRead trivial)
  · exact .ite h.execRxinfoRead trivial
  · exact .ite h.execEnergyRead (.ite h.execEnergyRead trivial)
  · exact .ite h.execRxfifoPop trivial
  · split
    · split
      exact .next (h.draw.of_snd ‹_›).answerRead
    · exact trivial
  · exact trivial

/-- A read with the effects of a hook where there is one, and else the answer from the word shown, RC fields cleared. -/
theorem Evolves.read_of_hook (h : Evolves r s) (a again : Nat) (hook : Nat → Option Out) (hh : ∀ i, LeadsIf r (hook i))
    (x : Option (RegSpec × Nat)) (n : Nat) : Evolves r (match x with
      | none => s.answerRead 0
      | some (q, i) => match hook i with
        | some o => Machine.outState o s
        | none =>
          let w := n
          let s := if (q.fields.any fun f => f.acc == Acc.rc) then
            s.setRegN a (clearRC q.fields (s.regN a) again) else s
          s.answerRead (Word.ofN w)) := by
  split
  · exact h.answerRead
  · split
    · exact h.outState ((hh _).of_some ‹_›)
    · exact (Evolves.ite h.setRegN h).answerRead

theorem Evolves.readReg (h : Evolves r s) {a again : Nat} : Evolves r (s.readReg a again) :=
  h.read_of_hook a again (s.readHook a) (fun _ => h.readHook) (regAt a) (s.shows a)

theorem Evolves.execRcRead (h : Evolves r s) {addr again : Nat} : Leads r (execRcRead addr again s) :=
  .next (.ite h (.ite h.readReg h.readError))

theorem Evolves.writeBase (h : Evolves r s) {core a : Nat} {w : Word} : Evolves r (s.writeBase core a w) :=
  .ite h.writeModereq (.ite h.writeWaketmr
    (.ite h.setRegN (.ite h.writePllc
    (.ite h.writePllf (.ite h.writeSwrst
    (.ite h.writeWdtkick (.ite (.ite h.writeCorerun h)
    (.ite h.writeHold (.ite h.writePads (.ite h.writeSwapctl h.writeReg))))))))))

theorem Evolves.writeRadio (h : Evolves r s) {a i : Nat} {w : Word} : Evolves r (s.writeRadio a i w) :=
  .ite h.writeCal (.ite h.writeRampctl (.ite h (.ite (.ite h.writeReg.setFld h.writeReg) h.writeReg)))

theorem Evolves.writeLink (h : Evolves r s) {a i : Nat} {w : Word} : Evolves r (s.writeLink a i w) := by
  unfold State.writeLink
  refine .ite (h.outState h.execLnkSubmit) ?_
  refine .ite (h.outState h.execLnkCancel) ?_
  refine .ite (h.outState h.execRxrelease) ?_
  refine .ite (h.outState h.execRingReadAdvance) ?_
  refine .ite h.writeReg.stageRx ?_
  refine .ite h.writeReg.stageRing ?_
  refine .ite (.ite h.writeReg h) ?_
  refine .ite (.ite h.linkCmd h) ?_
  refine .ite (h.outState h.execQpost) ?_
  refine .ite (h.outState h.execJrnSubmit) ?_
  refine .ite (h.outState h.execJrnRelease) ?_
  refine .ite ?_ (.ite h.writeReg.dringWritten (.ite h.writeReg.dringLevel (.ite h.writeReg.other h.writeReg)))
  split
  · exact h.outState h.execFlowcmdOpen
  · exact h.outState h.execFlowcmdClose
  · exact h.outState h.execFlowcmdEpoch
  · exact h.outState h.execFlowcmdGet
  · exact h

theorem Evolves.writeNtm (h : Evolves r s) {a : Nat} {w : Word} : Evolves r (s.writeNtm a w) :=
  .ite h.writeNtmCmd (.ite h.writeIncint (.ite h.writeNtmCfg (.ite h.writeSynccfg h.writeReg)))

theorem Evolves.writeXo (h : Evolves r s) {a i : Nat} {w : Word} : Evolves r (s.writeXo a i w) :=
  .ite h (.ite h.setFld h.writeReg)

theorem Evolves.writeSecurity (h : Evolves r s) {user rom : Bool} {a i : Nat} {w : Word} :
    Evolves r (s.writeSecurity user rom a i w) :=
  .ite (.ite h.writeOpctl (.ite h.writeReg h))
    (.ite h.writeXo (.ite h.writeCryCtl
    (.ite h.writeRngCtl (.ite h.writeReqlen
    (.ite h.writeTmpClass
    (.ite h.writeTmpIncfg
    (.ite h.writeTmpDetcfg
    (.ite h.writeTmpCtl (.ite h.writeLatch
    (.ite h.writeLoadctl (.ite h.writeLoaddata
    (.ite h.writeKeyClear (.ite h.writeTunkey (.ite h.writeBstCtl h.writeReg))))))))))))))

theorem Evolves.writeIcu (h : Evolves r s) {writer a i : Nat} {w : Word} :
    Evolves r (s.writeIcu writer a i w) :=
  .ite (.ite h.writeShen (.ite (h.outState h.execSwset) (.ite (h.outState h.execSwclr) h.writeReg)))
    (.ite (h.outState h.execEoi)
    (.ite (h.outState h.execDoorbell) (.ite h.writeRingbase (.ite h.writeRingcfg h.writeReg))))

theorem Evolves.writeTime (h : Evolves r s) {a i : Nat} {w : Word} : Evolves r (s.writeTime a i w) :=
  .ite (h.outState h.execFire)
    (.ite (h.outState h.execFirem)
    (.ite (h.outState h.execAonfire)
    (.ite h.writeGroups (.ite h.writeGroups
    (.ite (h.outState h.execTmbCapture)
    (.ite (h.outState h.execStagger)
    (.ite h.writeCmpflag (.ite h.writeCmplo
    (.ite h.writeCmphi (.ite (.ite h.writeReg h.writeReg.pmDisable)
    (.ite (h.outState h.execSnapshotTake) h.writeReg)))))))))))

theorem Evolves.writeLum (h : Evolves r s) {a i : Nat} {w : Word} : Evolves r (s.writeLum a i w) :=
  .ite h.writeDaliCtl (.ite h.writeTxcmd
    (.ite h.writeReg.dmoWritten
    (.ite h.writeMetCfg (.ite h.writeSerCfg (.ite h.writeSerCmd (.ite h.writeTxfifo h.writeReg))))))

theorem Evolves.writeAt (h : Evolves r s) {core : Nat} {rom : Bool} {a i : Nat} {w : Word} :
    Evolves r (s.writeAt core rom a i w) := by
  unfold State.writeAt
  split
  · exact h.writeRadio
  · exact h.writeRadio
  · exact h.writeRadio
  · exact h.writeLink
  · exact h.writeLink
  · exact h.writeNtm
  · exact h.writeLink
  · exact h.writeSecurity
  · exact h.writeSecurity
  · exact h.writeSecurity
  · exact h.writeSecurity
  · exact h.writeSecurity
  · exact h.writeIcu
  · exact h.writeTime
  · exact h.writeTime
  · exact h.writeTime
  · exact h.writeLum
  · exact h.writeLum
  · exact h.writeLum
  · exact h.writeLum
  · exact h.writeSecurity
  · exact .ite h.writeBase h.writeReg

theorem Evolves.writeRegister (h : Evolves r s) {core : Nat} {user rom : Bool} {a : Nat} {w : Word} :
    Evolves r (s.writeRegister core user rom a w) := by
  unfold State.writeRegister
  extract_lets _
  refine .ite h.other ?_
  split
  · exact h.other
  · exact h.other.writeAt

theorem Evolves.execRegisterWrite (h : Evolves r s) {user : Bool} {addr : Nat} {w : Word} :
    Leads r (execRegisterWrite user addr w s) :=
  .next (.ite h (.ite h.writeRegister h.readError))

theorem Evolves.eccStep (h : Evolves r s) {master a : Nat} : Evolves r (s.eccStep master a).2 := by
  unfold State.eccStep
  split
  · exact h
  · exact .ite_snd h.flashUncorr.pair h.captureFault.pair
  · exact (Evolves.ite h.other.flcCount.raise h.other).pair

theorem Evolves.busLoad (h : Evolves r s) {master : Nat} {rom : Bool} {a n : Nat} :
    Evolves r (s.busLoad master rom a n).2 := by
  unfold State.busLoad
  refine .ite_snd (.ite_snd h.readReg.pair h.readError.pair) ?_
  refine .ite_snd h.readError.pair ?_
  split
  · split
    exact (h.draw.of_snd ‹_›).answerRead.pair
  · refine .ite_snd h.raise.readError.pair ?_
    extract_lets _
    split
    have h3 := (Evolves.ite h.touchPlane h).eccStep.of_snd ‹_›
    exact .ite_snd h3.readError.pair h3.answerRead.pair

theorem Evolves.storeBytes (h : Evolves r s) {before : State} {a : Nat} {bs : List Byte} :
    Evolves r (s.storeBytes before a bs) := by
  induction bs generalizing s a with
  | nil => exact h
  | cons b t ih => exact ih h.setByte

theorem Evolves.busStore (h : Evolves r s) {master : Nat} {user rom : Bool} {a n v : Nat} :
    Evolves r (s.busStore master user rom a n v) := by
  unfold State.busStore
  refine .ite (.ite h.writeRegister h.readError) ?_
  refine .ite h.readError ?_
  refine .ite h.other ?_
  split
  have h2 := h.eccStep.of_snd ‹_›
  exact .ite h2.readError h2.other.storeBytes

/-! ### Frames on air -/

theorem Evolves.dropFrameAs (h : Evolves r s) {k : Nat} {f : Fld} : Evolves r (s.dropFrameAs k f) := h.count.raise

theorem Evolves.hostRow (h : Evolves r s) {code : Nat} {o : Origin} {p : List Byte} :
    LeadsIf r ((Machine.hostRow code).map fun f => f o p s) := by
  unfold Machine.hostRow
  split
  · exact h.execLinkOpen
  · exact h.execLinkClose
  · exact h.execLinkRelease
  · exact h.execLinkSwap
  · exact h.execLinkGet
  · exact h.execTenantStatus
  · exact h.execHslSync
  · exact h.execModeSet
  · exact h.execModeGet
  · exact h.execSysReset
  · exact h.execHslStatus
  · exact h.execMsgSend
  · exact h.execMsgRelease
  · exact h.execFlowOpen
  · exact h.execFlowClose
  · exact h.execFlowEpoch
  · exact h.execFlowGet
  · exact h.execJrnStatus
  · exact h.execHoldTest
  · exact h.execFwWrite
  · exact h.execFwErase
  · exact h.execFwVerify
  · exact h.execFwActivate
  · exact h.execFwCancel
  · exact h.execFwStatus
  · exact h.execFwConfirm
  · exact h.execBoardWrite
  · exact h.execBoardErase
  · exact h.execBoardVerify
  · exact h.execBoardSwap
  · exact h.execBoardAbort
  · exact h.execBoardReload
  · exact h.execBoardBootlist
  · exact h.execBoardStatus
  · exact h.execDfiWrite
  · exact h.execDfiRead
  · exact h.execRlrWrite
  · exact h.execRlrRead
  · exact h.execNvStatus
  · exact h.execUserWrite
  · exact h.execUserRead
  · exact h.execUserErase
  · exact h.execBistRun
  · exact h.execBistResult
  · exact h.execFcrRead
  · exact h.execSnapRead
  · exact h.execTimeGet
  · exact h.execTimeSet
  · exact h.execRfStatus
  · exact h.execRfCal
  · exact h.execRfDuty
  · exact h.execWkrSet
  · exact h.execSecStatus
  · exact h.execKeyProvision
  · exact h.execKeyRevoke
  · exact h.execTamperClear
  · exact h.execRngStatus
  · trivial

theorem Evolves.of_hostRow (h : Evolves r s) {code : Nat} {f : Origin → List Byte → State → Out} {o : Origin}
    {p : List Byte} (e : Machine.hostRow code = some f) : Leads r (f o p s) := by
  have := h.hostRow (code := code) (o := o) (p := p)
  rw [e] at this
  exact this

theorem Evolves.takeFrameIn (h : Evolves r s) {ep : Endpoint} {kc seq : Nat} {p : List Byte} :
    Evolves r (s.takeFrameIn ep kc seq p) := by
  unfold State.takeFrameIn
  extract_lets _ _
  split
  · refine .ite h.frameIn.badFrame (.ite h.frameIn.badForm ?_)
    split
    · exact h.outState (h.of_hostRow ‹_›)
    · exact h.frameIn.answer
  · exact .ite h.frameIn.badFrame
      (.ite (.ite h.frameIn.badFrame h.frameIn.ackNotice) (.ite h.frameIn h.frameIn.badFrame))
  · exact h.frameIn.badFrame

theorem Evolves.hunt (h : Evolves r s) {fuel : Nat} {ep : Endpoint} {room : Bool} {bs : List Byte} :
    Evolves r (s.hunt fuel ep room bs) := by
  induction fuel generalizing s bs with
  | zero => exact h
  | succ fuel ih =>
    cases bs with
    | nil => exact h
    | cons b rest =>
      exact .ite (ih h) (.ite h (.ite (ih h.count) (.ite h (.ite (ih h.dropFrameAs)
        (.ite (ih h.dropFrameAs) (ih h.takeFrameIn))))))

theorem Evolves.execHslFrame (h : Evolves r s) {ep : Endpoint} {room : Bool} {p : List Byte} :
    Leads r (execHslFrame ep room p s) :=
  .next (.ite h.hunt h)

theorem Evolves.execHslWake (h : Evolves r s) {level : Bool} : Leads r (execHslWake level s) := by
  unfold Machine.execHslWake
  refine .next ?_
  extract_lets _ _ _ s1
  have h1 : Evolves r s1 := .ite h.other.raise h.other
  exact .ite h1.flushWaiting.wake h1.flushWaiting

/-! ### The cores -/

theorem Evolves.setPc (h : Evolves r s) {k a : Nat} : Evolves r (s.setPc k a) := h.setCore

theorem Evolves.setDsp (h : Evolves r s) {k a : Nat} : Evolves r (s.setDsp k a) := h.setCore

theorem Evolves.setF (h : Evolves r s) {k r' : Nat} {w : Word} : Evolves r (s.setF k r' w) := h.setCore

theorem Evolves.setRsp (h : Evolves r s) {k a : Nat} : Evolves r (s.setRsp k a) := .ite h.setCore h.setCore

theorem Evolves.loadAt (h : Evolves r s) {k a n : Nat} {f : Nat → State → PipOut}
    (hf : ∀ x1 t, Evolves r t → Evolves r (f x1 t).state) :
    Evolves r (s.loadAt k a n f).state := by
  unfold State.loadAt
  extract_lets _
  refine .ite_state h ?_
  refine .ite_state h.demandCluster.stall ?_
  split
  have h2 := h.busLoad.of_snd ‹_›
  exact .ite_state h2.exc (hf _ _ h2)

theorem Evolves.storeAt (h : Evolves r s) {k a n v : Nat} {own : Bool} {f : State → PipOut}
    (hf : ∀ t, Evolves r t → Evolves r (f t).state) :
    Evolves r (s.storeAt k a n v own f).state :=
  .ite_state h (.ite_state h.demandCluster.stall (.ite_state h.busStore.exc (hf _ h.busStore)))

theorem Evolves.load (h : Evolves r s) {k a n : Nat} {f : Nat → State → PipOut}
    (hf : ∀ x1 t, Evolves r t → Evolves r (f x1 t).state) :
    Evolves r (s.load k a n f).state :=
  .ite_state h (h.loadAt hf)

theorem Evolves.putMem (h : Evolves r s) {k a n v : Nat} {f : State → PipOut}
    (hf : ∀ t, Evolves r t → Evolves r (f t).state) :
    Evolves r (s.putMem k a n v f).state :=
  .ite_state h (h.storeAt hf)

theorem Evolves.lockUp (h : Evolves r s) {k ecause eaddr : Nat} : Evolves r (s.lockUp k ecause eaddr) :=
  .ite h.captureFault.setCore.assertReset h.captureFault.setCore.lockupCoreReset

theorem Evolves.frameWrite (h : Evolves r s) {a : Nat} {bs : List Byte} : Evolves r (s.frameWrite a bs) :=
  .ite h.setBytes h

theorem Evolves.takeExc (h : Evolves r s) {k : Nat} {e : PipExc} {ilen einsn epc : Nat} :
    Evolves r (s.takeExc k e ilen einsn epc) := by
  unfold State.takeExc
  extract_lets _
  refine .ite h.demandCluster ?_
  refine .ite h.demandCluster ?_
  refine .ite h.lockUp ?_
  refine .ite h.setCore.lockUp ?_
  split
  have h2 := h.setCore.frameWrite.busLoad.of_snd ‹_›
  exact .ite h2.lockUp h2.setCore

theorem Evolves.fetchHalf (h : Evolves r s) {k a : Nat} : Evolves r (s.fetchHalf k a).2 := by
  unfold State.fetchHalf
  extract_lets _
  refine .ite_snd h ?_
  split
  have h2 := (Evolves.ite h.touchPlane h).eccStep.of_snd ‹_›
  exact .ite_snd h2.pair h2.pair

theorem Evolves.spendCycles (h : Evolves r s) {k : Nat} : Evolves r (s.spendCycles k) := by
  unfold State.spendCycles
  split
  exact (h.draw.of_snd ‹_›).setCore

theorem Evolves.fetch (h : Evolves r s) {k : Nat} : Evolves r (s.fetch k).state := by
  unfold State.fetch
  extract_lets _ _
  split
  · exact h.demandCluster
  · split
    · have h1 := h.fetchHalf.of_snd ‹_›
      split
      exact h1.draw.of_snd ‹_›
    · have h1 := h.fetchHalf.of_snd ‹_›
      split
      · exact h1
      · split
        · exact h1.demandCluster
        · split
          · exact h1.fetchHalf.of_snd ‹_›
          · exact h1.fetchHalf.of_snd ‹_›

theorem Evolves.of_fetch (h : Evolves r s) {k : Nat} {x : Fetched} (e : s.fetch k = x) : Evolves r x.state :=
  e ▸ h.fetch

theorem Evolves.of_effect {o : Option (State → PipOut)} {f : State → PipOut} (h : Evolves r s) (ho : EffectEvolves r o)
    (e : o = some f) {x : PipOut} (ex : f s = x) : Evolves r x.state := by
  subst e ex
  exact ho s h

theorem Evolves.pipRun (h : Evolves r s) {core : Nat} {w : Word} {pick : PipInsn → Option (State → PipOut)}
    (hp : ∀ i, EffectEvolves r (pick i)) : Evolves r (pipRun core w pick s) := by
  unfold Machine.pipRun
  refine .ite h ?_
  extract_lets _
  split
  · exact h.of_fetch ‹_›
  · have h1 := h.of_fetch ‹_›
    exact .ite h1.lockUp h1.takeExc
  · have h1 := h.of_fetch ‹_›
    refine .ite h ?_
    extract_lets _ t
    have ht : Evolves r t := h1.setCore
    clear_value t
    split
    · exact ht.takeExc
    · split
      · exact h
      · rename_i eo
        refine .ite ht.takeExc ?_
        split
        · rename_i ex
          exact ht.of_effect (hp _) eo ex
        · rename_i ex
          exact (ht.of_effect (hp _) eo ex).takeExc
        · rename_i ex
          exact (ht.of_effect (hp _) eo ex).setPc.spendCycles

theorem Evolves.result (h : Evolves r s) {k n d : Nat} {v : Word} : Evolves r (s.result k n d v).state := h.setG.ok

theorem Evolves.rowOf (h : Evolves r s) {core : Nat} {w : Word} {pick : Nat → PipInsn → Option (State → PipOut)}
    (hp : ∀ n i, EffectEvolves r (pick n i)) : Leads r (rowOf core w s pick) :=
  .next (h.pipRun fun _ => hp _ _)

theorem Evolves.execAlu (h : Evolves r s) {core : Nat} {w : Word} : Leads r (execAlu core w s) := by
  unfold Machine.execAlu
  refine h.rowOf fun _ _ => ?_
  split
  · exact (fun _ h => h.result)
  · exact (fun _ h => h.result)
  · exact (fun _ h => h.result)
  · exact trivial

theorem Evolves.execAddi (h : Evolves r s) {core : Nat} {w : Word} : Leads r (execAddi core w s) := by
  unfold Machine.execAddi
  refine h.rowOf fun _ _ => ?_
  split
  · exact (fun _ h => h.result)
  · exact (fun _ h => h.result)
  · exact trivial

theorem Evolves.execAndi (h : Evolves r s) {core : Nat} {w : Word} : Leads r (execAndi core w s) := by
  unfold Machine.execAndi
  refine h.rowOf fun _ _ => ?_
  split
  · exact (fun _ h => h.result)
  · exact trivial

theorem Evolves.execOri (h : Evolves r s) {core : Nat} {w : Word} : Leads r (execOri core w s) := by
  unfold Machine.execOri
  refine h.rowOf fun _ _ => ?_
  split
  · exact (fun _ h => h.result)
  · exact trivial

theorem Evolves.execXori (h : Evolves r s) {core : Nat} {w : Word} : Leads r (execXori core w s) := by
  unfold Machine.execXori
  refine h.rowOf fun _ _ => ?_
  split
  · exact (fun _ h => h.result)
  · exact trivial

theorem Evolves.execTlti (h : Evolves r s) {core : Nat} {w : Word} : Leads r (execTlti core w s) := by
  unfold Machine.execTlti
  refine h.rowOf fun _ _ => ?_
  split
  · exact (fun _ h => h.result)
  · exact trivial

theorem Evolves.execTltiu (h : Evolves r s) {core : Nat} {w : Word} : Leads r (execTltiu core w s) := by
  unfold Machine.execTltiu
  refine h.rowOf fun _ _ => ?_
  split
  · exact (fun _ h => h.result)
  · exact trivial

theorem Evolves.execShi (h : Evolves r s) {core : Nat} {w : Word} : Leads r (execShi core w s) := by
  unfold Machine.execShi
  refine h.rowOf fun _ _ => ?_
  split
  · exact (fun _ h => h.result)
  · exact trivial

theorem Evolves.execLdhi (h : Evolves r s) {core : Nat} {w : Word} : Leads r (execLdhi core w s) := by
  unfold Machine.execLdhi
  refine h.rowOf fun _ _ => ?_
  split
  · exact (fun _ h => h.result)
  · exact trivial

theorem Evolves.execAddpch (h : Evolves r s) {core : Nat} {w : Word} : Leads r (execAddpch core w s) := by
  unfold Machine.execAddpch
  refine h.rowOf fun _ _ => ?_
  split
  · exact (fun _ h => h.result)
  · exact trivial

theorem Evolves.loadTo (h : Evolves r s) {k n d addr size : Nat} {signed : Bool} :
    Evolves r (s.loadTo k n d addr size signed).state :=
  h.load (fun _ _ h => h.result)

theorem Evolves.storeFrom (h : Evolves r s) {k n d addr size : Nat} :
    Evolves r (s.storeFrom k n d addr size).state :=
  h.putMem (fun _ h => h.ok)

theorem Evolves.loadF (h : Evolves r s) {k n d addr : Nat} : Evolves r (s.loadF k n d addr).state :=
  h.load (fun _ _ h => h.setF.ok)

theorem Evolves.storeF (h : Evolves r s) {k n d addr : Nat} : Evolves r (s.storeF k n d addr).state :=
  h.putMem (fun _ h => h.ok)

theorem Evolves.execLdb (h : Evolves r s) {core : Nat} {w : Word} : Leads r (execLdb core w s) := by
  unfold Machine.execLdb
  refine h.rowOf fun _ _ => ?_
  split
  · exact (fun _ h => h.loadTo)
  · exact trivial

theorem Evolves.execLdbu (h : Evolves r s) {core : Nat} {w : Word} : Leads r (execLdbu core w s) := by
  unfold Machine.execLdbu
  refine h.rowOf fun _ _ => ?_
  split
  · exact (fun _ h => h.loadTo)
  · exact trivial

theorem Evolves.execLdh (h : Evolves r s) {core : Nat} {w : Word} : Leads r (execLdh core w s) := by
  unfold Machine.execLdh
  refine h.rowOf fun _ _ => ?_
  split
  · exact (fun _ h => h.loadTo)
  · exact trivial

theorem Evolves.execLdhu (h : Evolves r s) {core : Nat} {w : Word} : Leads r (execLdhu core w s) := by
  unfold Machine.execLdhu
  refine h.rowOf fun _ _ => ?_
  split
  · exact (fun _ h => h.loadTo)
  · exact trivial

theorem Evolves.execLdw (h : Evolves r s) {core : Nat} {w : Word} : Leads r (execLdw core w s) := by
  unfold Machine.execLdw
  refine h.rowOf fun _ _ => ?_
  split
  · exact (fun _ h => h.loadTo)
  · exact trivial

theorem Evolves.execStb (h : Evolves r s) {core : Nat} {w : Word} : Leads r (execStb core w s) := by
  unfold Machine.execStb
  refine h.rowOf fun _ _ => ?_
  split
  · exact (fun _ h => h.storeFrom)
  · exact trivial

theorem Evolves.execSth (h : Evolves r s) {core : Nat} {w : Word} : Leads r (execSth core w s) := by
  unfold Machine.execSth
  refine h.rowOf fun _ _ => ?_
  split
  · exact (fun _ h => h.storeFrom)
  · exact trivial

theorem Evolves.execStw (h : Evolves r s) {core : Nat} {w : Word} : Leads r (execStw core w s) := by
  unfold Machine.execStw
  refine h.rowOf fun _ _ => ?_
  split
  · exact (fun _ h => h.storeFrom)
  · exact trivial

theorem Evolves.memx (h : Evolves r s) {k n d a b sc sz mode : Nat} {st : Bool} :
    Evolves r (s.memx k n d a b sc sz mode st).state := by
  unfold State.memx
  split
  exact .ite_state (h.putMem (fun _ h => (Evolves.ite h h.setG).ok))
    (h.load (fun _ _ h => (Evolves.ite ((Evolves.ite h h.setG).setF) ((Evolves.ite h h.setG).setG)).ok))

theorem Evolves.execMemx (h : Evolves r s) {core : Nat} {w : Word} : Leads r (execMemx core w s) := by
  unfold Machine.execMemx
  refine h.rowOf fun _ _ => ?_
  split
  · exact (fun _ h => h.memx)
  · exact trivial

theorem Evolves.execLdf (h : Evolves r s) {core : Nat} {w : Word} : Leads r (execLdf core w s) := by
  unfold Machine.execLdf
  refine h.rowOf fun _ _ => ?_
  split
  · exact (fun _ h => h.loadF)
  · exact trivial

theorem Evolves.execStf (h : Evolves r s) {core : Nat} {w : Word} : Leads r (execStf core w s) := by
  unfold Machine.execStf
  refine h.rowOf fun _ _ => ?_
  split
  · exact (fun _ h => h.storeF)
  · exact trivial

theorem Evolves.execDspm (h : Evolves r s) {core : Nat} {w : Word} : Leads r (execDspm core w s) := by
  unfold Machine.execDspm
  refine h.rowOf fun _ _ => ?_
  split
  · refine fun _ h3 => ?_
    beta_reduce
    extract_lets _
    split
    · exact h3.loadTo
    · exact h3.storeFrom
    · exact h3.setDsp.ok
    · exact h3.loadF
    · exact h3.storeF
    · exact h3.result
  · exact trivial

theorem Evolves.execBr (h : Evolves r s) {core : Nat} {w : Word} : Leads r (execBr core w s) := by
  unfold Machine.execBr
  refine h.rowOf fun _ _ => ?_
  split
  · exact (fun _ h => h.ok)
  · exact trivial

theorem Evolves.execJ (h : Evolves r s) {core : Nat} {w : Word} : Leads r (execJ core w s) := by
  unfold Machine.execJ
  refine h.rowOf fun _ _ => ?_
  split
  · exact (fun _ h => h.ok)
  · exact trivial

theorem Evolves.callTo (h : Evolves r s) {k n target : Nat} : Evolves r (s.callTo k n target).state := by
  unfold State.callTo
  extract_lets _
  split
  exact .ite_state h (.ite_state h (h.storeAt (fun _ h => h.setRsp.ok)))

theorem Evolves.execCall (h : Evolves r s) {core : Nat} {w : Word} : Leads r (execCall core w s) := by
  unfold Machine.execCall
  refine h.rowOf fun _ _ => ?_
  split
  · exact (fun _ h => h.callTo)
  · exact trivial

theorem Evolves.execJr (h : Evolves r s) {core : Nat} {w : Word} : Leads r (execJr core w s) := by
  unfold Machine.execJr
  refine h.rowOf fun _ _ => ?_
  split
  · exact (fun _ h => .ite_state h.exc h.ok)
  · exact trivial

theorem Evolves.execCallr (h : Evolves r s) {core : Nat} {w : Word} : Leads r (execCallr core w s) := by
  unfold Machine.execCallr
  refine h.rowOf fun _ _ => ?_
  split
  · exact (fun _ h => .ite_state h.exc h.callTo)
  · exact trivial

theorem Evolves.execRet (h : Evolves r s) {core : Nat} {w : Word} : Leads r (execRet core w s) := by
  unfold Machine.execRet
  refine h.rowOf fun _ _ => ?_
  split
  · refine fun _ h3 => ?_
    beta_reduce
    extract_lets _
    split
    exact .ite_state h3 (.ite_state h3 (h3.loadAt (fun _ _ h => .ite_state h3 h.setRsp.ok)))
  · exact trivial

theorem Evolves.execGetdsp (h : Evolves r s) {core : Nat} {w : Word} : Leads r (execGetdsp core w s) := by
  unfold Machine.execGetdsp
  refine h.rowOf fun _ _ => ?_
  split
  · exact (fun _ h => h.result)
  · exact trivial

theorem Evolves.execSetdsp (h : Evolves r s) {core : Nat} {w : Word} : Leads r (execSetdsp core w s) := by
  unfold Machine.execSetdsp
  refine h.rowOf fun _ _ => ?_
  split
  · exact (fun _ h => h.setDsp.ok)
  · exact trivial

theorem Evolves.execPush (h : Evolves r s) {core : Nat} {w : Word} : Leads r (execPush core w s) := by
  unfold Machine.execPush
  refine h.rowOf fun _ _ => ?_
  split
  · exact (fun _ h' => h'.putMem (fun _ h => h.setDsp.ok))
  · exact trivial

theorem Evolves.execPop (h : Evolves r s) {core : Nat} {w : Word} : Leads r (execPop core w s) := by
  unfold Machine.execPop
  refine h.rowOf fun _ _ => ?_
  split
  · exact (fun _ h' => h'.load (fun _ _ h => h.setDsp.result))
  · exact trivial

theorem Evolves.execGetrsp (h : Evolves r s) {core : Nat} {w : Word} : Leads r (execGetrsp core w s) := by
  unfold Machine.execGetrsp
  refine h.rowOf fun _ _ => ?_
  split
  · exact (fun _ h => h.result)
  · exact trivial

theorem Evolves.readSys (h : Evolves r s) {k n d idx : Nat} : Evolves r (s.readSys k n d idx).state :=
  .ite_state (.ite_state h.result (.ite_state (h.load (fun _ _ h => h.result)) (h.load (fun _ _ h => h.result))))
    (.ite_state h.setCore.result h.result)

theorem Evolves.execMfs (h : Evolves r s) {core : Nat} {w : Word} : Leads r (execMfs core w s) := by
  unfold Machine.execMfs
  refine h.rowOf fun _ _ => ?_
  split
  · exact (fun _ h => h.readSys)
  · exact trivial

theorem Evolves.writeSysReg (h : Evolves r s) {k n idx : Nat} {w : Word} :
    Evolves r (s.writeSysReg k n idx w).state :=
  .ite_state (.ite_state h
    (.ite_state (.ite_state h (h.storeAt (fun _ h => h.ok))) (h.load (fun _ _ h' => h'.storeAt (fun _ h => h.ok)))))
    h.setCore.ok

theorem Evolves.execMts (h : Evolves r s) {core : Nat} {w : Word} : Leads r (execMts core w s) := by
  unfold Machine.execMts
  refine h.rowOf fun _ _ => ?_
  split
  · exact (fun _ h => h.writeSysReg)
  · exact trivial

theorem Evolves.execTrap (h : Evolves r s) {core : Nat} {w : Word} : Leads r (execTrap core w s) := by
  unfold Machine.execTrap
  refine h.rowOf fun _ _ => ?_
  split
  · exact (fun _ h => h.spendCycles.exc)
  · exact trivial

theorem Evolves.execEret (h : Evolves r s) {core : Nat} {w : Word} : Leads r (execEret core w s) := by
  unfold Machine.execEret
  refine h.rowOf fun _ _ => ?_
  split
  · exact (fun _ hh => .ite_state hh.exc
      (hh.loadAt (fun _ _ h'' => .ite_state hh.exc (h''.loadAt (fun _ _ h' => h'.loadAt (fun _ _ h => h.setCore.ok))))))
  · exact trivial

theorem Evolves.execWait (h : Evolves r s) {core : Nat} {w : Word} : Leads r (execWait core w s) := by
  unfold Machine.execWait
  refine h.rowOf fun _ _ => ?_
  split
  · exact (fun _ h => .ite_state h.ok h.setCore.stall)
  · exact trivial

theorem Evolves.execWaitWake (h : Evolves r s) {core : Nat} : Leads r (execWaitWake core s) :=
  .next (.ite h.setCore.setPc.spendCycles h)

theorem Evolves.execIntCmd (h : Evolves r s) {core : Nat} : Leads r (execIntCmd core s) := by
  unfold Machine.execIntCmd
  refine .next ?_
  refine .ite ?_ h
  split
  exact (h.draw.of_snd ‹_›).takeExc

theorem Evolves.execSetie (h : Evolves r s) {core : Nat} {w : Word} : Leads r (execSetie core w s) := by
  unfold Machine.execSetie
  refine h.rowOf fun _ _ => ?_
  split
  · exact (fun _ h => h.setCore.result)
  · exact trivial

theorem Evolves.atomic (h : Evolves r s) {k n d addr : Nat} {f : Nat → Option Nat × Nat} :
    Evolves r (s.atomic k n d addr f).state := by
  unfold State.atomic
  extract_lets _
  refine .ite_state h ?_
  refine .ite_state h ?_
  refine .ite_state h ?_
  refine .ite_state h.demandCluster.stall ?_
  split
  have h6 := h.busLoad.of_snd ‹_›
  refine .ite_state h6.exc ?_
  split
  extract_lets s5
  have h5 : Evolves r s5 := by
    unfold s5
    split
    · exact h6.busStore
    · exact h6
  exact h5.result

theorem Evolves.execSwap (h : Evolves r s) {core : Nat} {w : Word} : Leads r (execSwap core w s) := by
  unfold Machine.execSwap
  refine h.rowOf fun _ _ => ?_
  split
  · exact (fun _ h => h.atomic)
  · exact trivial

theorem Evolves.execCas (h : Evolves r s) {core : Nat} {w : Word} : Leads r (execCas core w s) := by
  unfold Machine.execCas
  refine h.rowOf fun _ _ => ?_
  split
  · exact (fun _ h => h.atomic)
  · exact trivial

theorem Evolves.execFp (h : Evolves r s) {core : Nat} {w : Word} : Leads r (execFp core w s) := by
  unfold Machine.execFp
  refine h.rowOf fun _ _ => ?_
  split
  · exact (fun _ h => .ite_state h.exc (.ite_state h.setCore.result h.setCore.setF.ok))
  · exact trivial

/-! ### All commands -/

theorem Evolves.exec (h : Evolves r s) {i : Instr} : Leads r (exec i s) := by
  cases i with
  | registerWrite => exact h.execRegisterWrite
  | rcRead => exact h.execRcRead
  | modeRequest => exact h.execModeRequest
  | modeSet => exact h.execModeSet
  | modeGet => exact h.execModeGet
  | modeTransitionDone => exact h.execModeTransitionDone
  | wSleepEntry => exact h.execWSleepEntry
  | modeWakeTime => exact h.execModeWakeTime
  | wakeSource => exact h.execWakeSource
  | wakeTimeout => exact h.execWakeTimeout
  | padLatch => exact h.execPadLatch
  | drainEnd => exact h.execDrainEnd
  | xrefTransitionTimeout => exact h.execXrefTransitionTimeout
  | clusterIdle => exact h.execClusterIdle
  | clusterPowered => exact h.execClusterPowered
  | supplyFailure => exact h.execSupplyFailure
  | supplyClear => exact h.execSupplyClear
  | supplyRestored => exact h.execSupplyRestored
  | lastgaspFlushDone => exact h.execLastgaspFlushDone
  | lastgaspEnd => exact h.execLastgaspEnd
  | boardWrite => exact h.execBoardWrite
  | boardErase => exact h.execBoardErase
  | boardVerify => exact h.execBoardVerify
  | boardSwap => exact h.execBoardSwap
  | boardAbort => exact h.execBoardAbort
  | boardReload => exact h.execBoardReload
  | boardBootlist => exact h.execBoardBootlist
  | boardStatus => exact h.execBoardStatus
  | swapctlStart => exact h.execSwapctlStart
  | swapctlAbort => exact h.execSwapctlAbort
  | swapStaged => exact h.execSwapStaged
  | swapDrain => exact h.execSwapDrain
  | swapBoundary => exact h.execSwapBoundary
  | swapPersistDone => exact h.execSwapPersistDone
  | fullReloadDone => exact h.execFullReloadDone
  | lpBrownout => exact h.execLpBrownout
  | lpmonUpdate => exact h.execLpmonUpdate
  | buckCurrentLimit => exact h.execBuckCurrentLimit
  | xlfFail => exact h.execXlfFail
  | xlfQualified => exact h.execXlfQualified
  | lfratioMeasure => exact h.execLfratioMeasure
  | hfrcFail => exact h.execHfrcFail
  | xrefReady => exact h.execXrefReady
  | xrefFail => exact h.execXrefFail
  | xrefRetry => exact h.execXrefRetry
  | pllcWrite => exact h.execPllcWrite
  | pllfWrite => exact h.execPllfWrite
  | pllLock => exact h.execPllLock
  | pllLockLoss => exact h.execPllLockLoss
  | spreadApply => exact h.execSpreadApply
  | padHoldRelease => exact h.execPadHoldRelease
  | waketmrWrite => exact h.execWaketmrWrite
  | waketmrFire => exact h.execWaketmrFire
  | powerOn => exact h.execPowerOn
  | resetNLow => exact h.execResetNLow
  | resetNRise => exact h.execResetNRise
  | coreBrownout => exact h.execCoreBrownout
  | watchdog => exact h.execWatchdog
  | wdtkick => exact h.execWdtkick
  | wdtearly => exact h.execWdtearly
  | swrstCore => exact h.execSwrstCore
  | swrstSystem => exact h.execSwrstSystem
  | swrstAlwaysOn => exact h.execSwrstAlwaysOn
  | sysReset => exact h.execSysReset
  | sysResetAssert => exact h.execSysResetAssert
  | startUp => exact h.execStartUp
  | journalRecoveryDone => exact h.execJournalRecoveryDone
  | holdupMeasurementDone => exact h.execHoldupMeasurementDone
  | handover => exact h.execHandover
  | coreRelease => exact h.execCoreRelease
  | chainLockStart => exact h.execChainLockStart
  | channelLock => exact h.execChannelLock
  | lockfail => exact h.execLockfail
  | coexRequest => exact h.execCoexRequest
  | transmitGate => exact h.execTransmitGate
  | rampupEnd => exact h.execRampupEnd
  | txLastSymbol => exact h.execTxLastSymbol
  | rampdnEnd => exact h.execRampdnEnd
  | turnEnd => exact h.execTurnEnd
  | cxGntLoss => exact h.execCxGntLoss
  | calStart => exact h.execCalStart
  | calAutoStart => exact h.execCalAutoStart
  | calDone => exact h.execCalDone
  | caldue => exact h.execCaldue
  | rampCommit => exact h.execRampCommit
  | afcTrack => exact h.execAfcTrack
  | caplockLoss => exact h.execCaplockLoss
  | dutyBin => exact h.execDutyBin
  | dutyBlockClose => exact h.execDutyBlockClose
  | wakeTelegram => exact h.execWakeTelegram
  | wkrFloorEstimate => exact h.execWkrFloorEstimate
  | rfStatus => exact h.execRfStatus
  | rfCal => exact h.execRfCal
  | rfDuty => exact h.execRfDuty
  | wkrSet => exact h.execWkrSet
  | detectorFire => exact h.execDetectorFire
  | arbitration => exact h.execArbitration
  | candidateExpire => exact h.execCandidateExpire
  | ctxSync => exact h.execCtxSync
  | ctxFalsedet => exact h.execCtxFalsedet
  | ctxHeader => exact h.execCtxHeader
  | ctxRelease => exact h.execCtxRelease
  | sampleOverflow => exact h.execSampleOverflow
  | sampleInvalid => exact h.execSampleInvalid
  | agcAttack => exact h.execAgcAttack
  | agcDecay => exact h.execAgcDecay
  | modeSwitch => exact h.execModeSwitch
  | blockDispatch => exact h.execBlockDispatch
  | blockDecodeDone => exact h.execBlockDecodeDone
  | slotExpire => exact h.execSlotExpire
  | lnkSubmit => exact h.execLnkSubmit
  | lnkCancel => exact h.execLnkCancel
  | lnkNext0Read => exact h.execLnkNext0Read
  | actionClaim => exact h.execActionClaim
  | actionStart => exact h.execActionStart
  | rxWindowEnd => exact h.execRxWindowEnd
  | listenBusy => exact h.execListenBusy
  | listenClear => exact h.execListenClear
  | backoffEnd => exact h.execBackoffEnd
  | actionComplete => exact h.execActionComplete
  | completionWrite => exact h.execCompletionWrite
  | frameReceived => exact h.execFrameReceived
  | rxrelease => exact h.execRxrelease
  | ringReadAdvance => exact h.execRingReadAdvance
  | rxConfigApply => exact h.execRxConfigApply
  | ringConfigApply => exact h.execRingConfigApply
  | watchListen => exact h.execWatchListen
  | chainIdle => exact h.execChainIdle
  | linkcmdOpen => exact h.execLinkcmdOpen
  | linkcmdClose => exact h.execLinkcmdClose
  | linkcmdRelease => exact h.execLinkcmdRelease
  | linkcmdSwap => exact h.execLinkcmdSwap
  | linkcmdChmap => exact h.execLinkcmdChmap
  | linkOpen => exact h.execLinkOpen
  | linkClose => exact h.execLinkClose
  | linkRelease => exact h.execLinkRelease
  | linkSwap => exact h.execLinkSwap
  | linkGet => exact h.execLinkGet
  | tenantStatus => exact h.execTenantStatus
  | linkEvent => exact h.execLinkEvent
  | supervisionTimeout => exact h.execSupervisionTimeout
  | openCmd => exact h.execOpenCmd
  | openAck => exact h.execOpenAck
  | close => exact h.execClose
  | closeAck => exact h.execCloseAck
  | swapReq => exact h.execSwapReq
  | swapRsp => exact h.execSwapRsp
  | chmap => exact h.execChmap
  | keepalive => exact h.execKeepalive
  | qpost => exact h.execQpost
  | schedulingPass => exact h.execSchedulingPass
  | ntmAbort => exact h.execNtmAbort
  | ntmSet => exact h.execNtmSet
  | ntmStep => exact h.execNtmStep
  | ntmSlew => exact h.execNtmSlew
  | ntmCapture => exact h.execNtmCapture
  | incintWrite => exact h.execIncintWrite
  | slewEnd => exact h.execSlewEnd
  | deferredAdjust => exact h.execDeferredAdjust
  | roundBoundary => exact h.execRoundBoundary
  | slotBoundary => exact h.execSlotBoundary
  | syncEdge => exact h.execSyncEdge
  | syncRound => exact h.execSyncRound
  | timeGet => exact h.execTimeGet
  | timeSet => exact h.execTimeSet
  | jrnSubmit => exact h.execJrnSubmit
  | commitDone => exact h.execCommitDone
  | bufferFlush => exact h.execBufferFlush
  | custodyData => exact h.execCustodyData
  | cack => exact h.execCack
  | retransmit => exact h.execRetransmit
  | delivery => exact h.execDelivery
  | jrnRelease => exact h.execJrnRelease
  | messageExpire => exact h.execMessageExpire
  | flowFree => exact h.execFlowFree
  | flowcmdOpen => exact h.execFlowcmdOpen
  | flowcmdClose => exact h.execFlowcmdClose
  | flowcmdEpoch => exact h.execFlowcmdEpoch
  | flowcmdGet => exact h.execFlowcmdGet
  | msgSend => exact h.execMsgSend
  | msgRelease => exact h.execMsgRelease
  | flowOpen => exact h.execFlowOpen
  | flowClose => exact h.execFlowClose
  | flowEpoch => exact h.execFlowEpoch
  | flowGet => exact h.execFlowGet
  | jrnStatus => exact h.execJrnStatus
  | holdTest => exact h.execHoldTest
  | journalCheckpoint => exact h.execJournalCheckpoint
  | deliveryConfigApply => exact h.execDeliveryConfigApply
  | planeFail => exact h.execPlaneFail
  | hslFrame => exact h.execHslFrame
  | hslAckTimer => exact h.execHslAckTimer
  | hslAck => exact h.execHslAck
  | noticeSend => exact h.execNoticeSend
  | noticeRetransmit => exact h.execNoticeRetransmit
  | hslWake => exact h.execHslWake
  | hslSync => exact h.execHslSync
  | hslStatus => exact h.execHslStatus
  | hslArbitration => exact h.execHslArbitration
  | hslConfigApply => exact h.execHslConfigApply
  | flProgram => exact h.execFlProgram
  | flErase => exact h.execFlErase
  | flPoll => exact h.execFlPoll
  | flScrub => exact h.execFlScrub
  | flNvwrite => exact h.execFlNvwrite
  | flNvrepair => exact h.execFlNvrepair
  | flRdp => exact h.execFlRdp
  | flOtpwrite => exact h.execFlOtpwrite
  | flInfo => exact h.execFlInfo
  | flReservedEntry => exact h.execFlReservedEntry
  | flashEraseDone => exact h.execFlashEraseDone
  | rdpLowerDone => exact h.execRdpLowerDone
  | eraseResume => exact h.execEraseResume
  | scrubRead => exact h.execScrubRead
  | flcOpProgramUnit => exact h.execFlcOpProgramUnit
  | flcOpEraseSector => exact h.execFlcOpEraseSector
  | flcOpErasePlane => exact h.execFlcOpErasePlane
  | flcOpSuspend => exact h.execFlcOpSuspend
  | flcOpResume => exact h.execFlcOpResume
  | flcOpProgramOtp => exact h.execFlcOpProgramOtp
  | flcOpDone => exact h.execFlcOpDone
  | otpaddrWrite => exact h.execOtpaddrWrite
  | dfiWrite => exact h.execDfiWrite
  | dfiRead => exact h.execDfiRead
  | rlrWrite => exact h.execRlrWrite
  | rlrRead => exact h.execRlrRead
  | nvStatus => exact h.execNvStatus
  | userWrite => exact h.execUserWrite
  | userRead => exact h.execUserRead
  | userErase => exact h.execUserErase
  | fwWrite => exact h.execFwWrite
  | fwErase => exact h.execFwErase
  | fwVerify => exact h.execFwVerify
  | fwActivate => exact h.execFwActivate
  | fwCancel => exact h.execFwCancel
  | fwConfirm => exact h.execFwConfirm
  | fwStatus => exact h.execFwStatus
  | activationKeeper => exact h.execActivationKeeper
  | activationQuiesce => exact h.execActivationQuiesce
  | activationReset => exact h.execActivationReset
  | autoConfirm => exact h.execAutoConfirm
  | keyLoad => exact h.execKeyLoad
  | keyClear => exact h.execKeyClear
  | tunkeyWrite => exact h.execTunkeyWrite
  | cryptoStart => exact h.execCryptoStart
  | cryptoAbort => exact h.execCryptoAbort
  | cryptoChunk => exact h.execCryptoChunk
  | cryptoDone => exact h.execCryptoDone
  | rngWindow => exact h.execRngWindow
  | rngHealthFail => exact h.execRngHealthFail
  | rngAutoRestart => exact h.execRngAutoRestart
  | rngRestart => exact h.execRngRestart
  | rngRequest => exact h.execRngRequest
  | rngRequestDone => exact h.execRngRequestDone
  | tamperAlarm => exact h.execTamperAlarm
  | keyStoreErase => exact h.execKeyStoreErase
  | latchClear => exact h.execLatchClear
  | secStatus => exact h.execSecStatus
  | keyProvision => exact h.execKeyProvision
  | keyRevoke => exact h.execKeyRevoke
  | tamperClear => exact h.execTamperClear
  | rngStatus => exact h.execRngStatus
  | alu => exact h.execAlu
  | addi => exact h.execAddi
  | andi => exact h.execAndi
  | ori => exact h.execOri
  | xori => exact h.execXori
  | tlti => exact h.execTlti
  | tltiu => exact h.execTltiu
  | shi => exact h.execShi
  | ldhi => exact h.execLdhi
  | addpch => exact h.execAddpch
  | ldb => exact h.execLdb
  | ldbu => exact h.execLdbu
  | ldh => exact h.execLdh
  | ldhu => exact h.execLdhu
  | ldw => exact h.execLdw
  | stb => exact h.execStb
  | sth => exact h.execSth
  | stw => exact h.execStw
  | memx => exact h.execMemx
  | ldf => exact h.execLdf
  | stf => exact h.execStf
  | br => exact h.execBr
  | j => exact h.execJ
  | call => exact h.execCall
  | jr => exact h.execJr
  | callr => exact h.execCallr
  | ret => exact h.execRet
  | getdsp => exact h.execGetdsp
  | setdsp => exact h.execSetdsp
  | push => exact h.execPush
  | pop => exact h.execPop
  | getrsp => exact h.execGetrsp
  | mfs => exact h.execMfs
  | mts => exact h.execMts
  | trap => exact h.execTrap
  | eret => exact h.execEret
  | wait => exact h.execWait
  | swap => exact h.execSwap
  | cas => exact h.execCas
  | setie => exact h.execSetie
  | fp => exact h.execFp
  | dspm => exact h.execDspm
  | intCmd => exact h.execIntCmd
  | waitWake => exact h.execWaitWake
  | interruptSource => exact h.execInterruptSource
  | presentation => exact h.execPresentation
  | eoi => exact h.execEoi
  | doorbell => exact h.execDoorbell
  | swset => exact h.execSwset
  | swclr => exact h.execSwclr
  | icuRingRead => exact h.execIcuRingRead
  | icuRingConfig => exact h.execIcuRingConfig
  | fire => exact h.execFire
  | firem => exact h.execFirem
  | aonfire => exact h.execAonfire
  | grpset => exact h.execGrpset
  | grpclr => exact h.execGrpclr
  | groupEdge => exact h.execGroupEdge
  | eventEdge => exact h.execEventEdge
  | consumerAccept => exact h.execConsumerAccept
  | tmbCapture => exact h.execTmbCapture
  | compareMatch => exact h.execCompareMatch
  | stagger => exact h.execStagger
  | cmphiWrite => exact h.execCmphiWrite
  | cmploRead => exact h.execCmploRead
  | capstatRead => exact h.execCapstatRead
  | pmstatRead => exact h.execPmstatRead
  | pmctlDisable => exact h.execPmctlDisable
  | tmbStop => exact h.execTmbStop
  | tmbMakeup => exact h.execTmbMakeup
  | tmbResume => exact h.execTmbResume
  | snapshotTake => exact h.execSnapshotTake
  | snapshotFillDone => exact h.execSnapshotFillDone
  | snapRead => exact h.execSnapRead
  | daliSend => exact h.execDaliSend
  | daliFrameStart => exact h.execDaliFrameStart
  | daliTxDone => exact h.execDaliTxDone
  | daliCollision => exact h.execDaliCollision
  | daliRxFrame => exact h.execDaliRxFrame
  | daliBackwardTimeout => exact h.execDaliBackwardTimeout
  | daliBusfail => exact h.execDaliBusfail
  | rxinfoRead => exact h.execRxinfoRead
  | dmoFade => exact h.execDmoFade
  | dmoPeriod => exact h.execDmoPeriod
  | metZeroCrossing => exact h.execMetZeroCrossing
  | metPeriod => exact h.execMetPeriod
  | metNozc => exact h.execMetNozc
  | eclr => exact h.execEclr
  | energyRead => exact h.execEnergyRead
  | serGo => exact h.execSerGo
  | serAbort => exact h.execSerAbort
  | serDone => exact h.execSerDone
  | txfifoPush => exact h.execTxfifoPush
  | rxfifoPop => exact h.execRxfifoPop
  | serRxByte => exact h.execSerRxByte
  | bistRun => exact h.execBistRun
  | bistGo => exact h.execBistGo
  | bistDone => exact h.execBistDone
  | bistResult => exact h.execBistResult
  | fcrRead => exact h.execFcrRead
  | faultCommit => exact h.execFaultCommit
  | swapWindowClose => exact h.execSwapWindowClose
  | samplesValid => exact h.execSamplesValid
  | xrefStartTimeout => exact h.execXrefStartTimeout
  | pwrdrop => exact h.execPwrdrop
  | wkrBlankingEnd => exact h.execWkrBlankingEnd
  | wearoverClear => exact h.execWearoverClear
  | hslLengthDiscard => exact h.execHslLengthDiscard

/-! ### A step -/

theorem Evolves.step (h : Evolves r s) : Leads r (step s) := by
  unfold Machine.step
  split
  · exact .next h.clockEdge
  · exact h.other.exec

end
end Sys2Proof.Machine
end

section
/-!
Every step keeps registers and memory in canonical form.
-/

namespace Sys2Proof.Machine

variable {r s t : State}

/-- What the canonical form asks of a listed byte of SRAM, by the generation of the link contexts. -/
def ramEntry (g : Option Nat) (a : Nat) (b : Byte) : Bool :=
  region a == .mainSram || region a == .retained
    || (region a == .context && (match g with | some g => b != ctxByte g a | none => true))

theorem memWf_iff : s.memWf = true ↔
    Sparse.rising s.ram = true ∧ Sparse.all s.ram (ramEntry s.ctxGen) = true
      ∧ Sparse.wf (fun _ => (0xFF : Byte)) s.flash = true ∧ Sparse.wf (fun _ => (0 : BitVec 64)) s.otp = true := by
  unfold State.memWf
  simp only [Bool.and_eq_true, and_assoc]
  rfl

/-! ## Losses -/

theorem memWf_dropRam (h : s.memWf = true) (p : Host.Cell → Bool) :
    ({ s with ram := s.ram.filter p } : State).memWf = true := by
  rw [memWf_iff] at h ⊢
  obtain ⟨hr, ha, hf, ho⟩ := h
  exact ⟨Sparse.rising_filter hr p, Sparse.all_filter ha p, hf, ho⟩

theorem memWf_dropFlash (h : s.memWf = true) (p : Host.Cell → Bool) :
    ({ s with flash := s.flash.filter p } : State).memWf = true := by
  rw [memWf_iff] at h ⊢
  obtain ⟨hr, ha, hf, ho⟩ := h
  exact ⟨hr, ha, Sparse.wf_filter hf p, ho⟩

theorem memWf_takeFlash (h : s.memWf = true) (ht : t.memWf = true) :
    ({ s with flash := t.flash } : State).memWf = true := by
  rw [memWf_iff] at h ht ⊢
  obtain ⟨hr, ha, -, ho⟩ := h
  exact ⟨hr, ha, ht.2.2.1, ho⟩

/-- An undefined link context RAM asks nothing of its bytes' values. -/
theorem ramEntry_none {g : Option Nat} {a : Nat} {b : Byte} (h : ramEntry g a b = true) : ramEntry none a b = true := by
  simp only [ramEntry, Bool.or_eq_true, Bool.and_eq_true] at h ⊢
  exact h.imp_right fun hc => ⟨hc.1, trivial⟩

theorem memWf_dropContexts (h : s.memWf = true) : ({ s with ctxGen := none } : State).memWf = true := by
  rw [memWf_iff] at h ⊢
  obtain ⟨hr, ha, hf, ho⟩ := h
  refine ⟨hr, ?_, hf, ho⟩
  simp only [Sparse.all, List.all_eq_true] at ha ⊢
  exact fun p hp => ramEntry_none (ha p hp)

/-- Away from the link context RAM the generation asks nothing. -/
theorem ramEntry_of_ne {g g' : Option Nat} {a : Nat} {b : Byte} (h : ramEntry g a b = true)
    (ha : region a ≠ .context) : ramEntry g' a b = true := by
  simpa [ramEntry, ha] using h

theorem memWf_freshContexts (h : s.memWf = true) : s.freshContexts.memWf = true := by
  rw [memWf_iff] at h ⊢
  obtain ⟨hr, ha, hf, ho⟩ := h
  refine ⟨Sparse.rising_filter hr _, ?_, hf, ho⟩
  simp only [Sparse.all, List.all_eq_true] at ha ⊢
  intro p hp
  obtain ⟨hp, hc⟩ := List.mem_filter.1 hp
  exact ramEntry_of_ne (ha p hp) (by simpa using hc)

/-! ## A block of the retained SRAM zeroed -/

theorem region_retained {m i : Nat} (hm : m < 16) (hi : i < 0x4000) :
    region (0x24000000 + 0x4000 * m + i) = .retained := by
  unfold region
  rw [if_neg (by omega), if_neg (by simp; omega), if_neg (by simp; omega), if_pos (by simp; omega)]

/-- The zeroes that come in place of a range lie between what stands below it and what stands above. -/
theorem rising_replaceRange {l : List Host.Cell} (h : Sparse.rising l = true) (lo n : Nat) :
    Sparse.rising (l.filter (fun p => p.1 < lo) ++ (List.range n).map (fun i => (lo + i, (0 : Byte)))
      ++ l.filter (fun p => lo + n ≤ p.1)) = true := by
  rw [Sparse.rising_iff_pairwise] at h ⊢
  have hz : ((List.range n).map fun i => (lo + i, (0 : Byte))).Pairwise (fun p q => p.1 < q.1) :=
    List.pairwise_map.2 (List.pairwise_lt_range.imp fun hij => Nat.add_lt_add_left hij lo)
  refine List.pairwise_append.2 ⟨List.pairwise_append.2 ⟨h.filter _, hz, ?_⟩, h.filter _, ?_⟩
  · intro p hp q hq
    simp only [List.mem_filter, decide_eq_true_eq, List.mem_map] at hp hq
    obtain ⟨i, -, rfl⟩ := hq
    exact Nat.lt_of_lt_of_le hp.2 (Nat.le_add_right lo i)
  · intro p hp q hq
    simp only [List.mem_append, List.mem_filter, decide_eq_true_eq, List.mem_map, List.mem_range] at hp hq
    obtain hp | ⟨i, hi, rfl⟩ := hp
    · omega
    · simp only
      omega

theorem memWf_zeroMacro (h : s.memWf = true) {m : Nat} (hm : m < 16) : (s.zeroMacro m).memWf = true := by
  rw [memWf_iff] at h ⊢
  obtain ⟨hr, ha, hf, ho⟩ := h
  refine ⟨rising_replaceRange hr _ _, ?_, hf, ho⟩
  simp only [Sparse.all, List.all_eq_true] at ha ⊢
  intro p hp
  simp only [State.zeroMacro, List.mem_append, List.mem_filter, List.mem_map, List.mem_range] at hp
  obtain (hp | ⟨i, hi, rfl⟩) | hp := hp
  · exact ha p hp.1
  · simp [ramEntry, region_retained hm hi]
  · exact ha p hp.1

/-! ## The invariant -/

theorem setByte_regs (s : State) (a : Nat) (b : Byte) : (s.setByte a b).regs = s.regs := by
  unfold State.setByte
  split
  · rfl
  · rfl
  · split
    · rfl
    · rfl
  · rfl

theorem setFlash_regs (s : State) (off : Nat) (bs : List Byte) : (s.setFlash off bs).regs = s.regs := by
  induction bs generalizing s off with
  | nil => rfl
  | cons b t ih => exact ih _ _

/-- Every write and every loss keeps the canonical form. -/
theorem Evolves.canonical (h : Evolves r s) (hr : r.canonical) : s.canonical := by
  induction h with
  | refl => exact hr
  | setReg _ ih => exact ⟨State.regsWf_setReg ih.1 _ _, State.memWf_setReg ih.2 _ _⟩
  | dropRegs _ ih => exact ⟨Sparse.wf_filter ih.1 _, ih.2⟩
  | @setByte s a b _ ih =>
    exact ⟨by rw [State.regsWf, setByte_regs]; exact ih.1, State.memWf_setByte ih.2 a b⟩
  | dropRam _ ih => exact ⟨ih.1, memWf_dropRam ih.2 _⟩
  | zeroMacro _ hm ih => exact ⟨ih.1, memWf_zeroMacro ih.2 hm⟩
  | dropContexts _ ih => exact ⟨ih.1, memWf_dropContexts ih.2⟩
  | freshContexts _ ih => exact ⟨ih.1, memWf_freshContexts ih.2⟩
  | @setFlash s off bs _ ih =>
    exact ⟨by rw [State.regsWf, setFlash_regs]; exact ih.1, State.memWf_setFlash ih.2 off bs⟩
  | dropFlash _ ih => exact ⟨ih.1, memWf_dropFlash ih.2 _⟩
  | takeFlash _ _ ih iht => exact ⟨ih.1, memWf_takeFlash ih.2 iht.2⟩
  | orOtp _ ih => exact ⟨ih.1, State.memWf_orOtp ih.2 _ _⟩
  | other _ ih => exact ih

theorem Evolves.of_step (h : Machine.step s = .next t) : Evolves s t := by
  have hs : Leads s (Machine.step s) := Evolves.refl.step
  rwa [h] at hs

/-- Settles O58: every step makes such writes and losses alone, and each of them keeps the form. -/
theorem canonicalFormIsKept : Obligations.CanonicalFormIsKept := by
  unfold Obligations.CanonicalFormIsKept
  exact fun _ _ hs h => (Evolves.of_step h).canonical hs

/-- Settles O57: nothing is listed after reset. -/
theorem canonicalAtReset : Obligations.CanonicalAtReset := by
  unfold Obligations.CanonicalAtReset
  exact ⟨rfl, rfl⟩

end Sys2Proof.Machine
end

section
/-!
Register accesses follow the access types of the fields (R5-R8).
-/

namespace Sys2Proof.Machine

/-! ## The fields of a register lie apart -/

/-- Two fields share no bit. -/
def FieldSpec.apart (f g : FieldSpec) : Prop := f.lsb + f.width ≤ g.lsb ∨ g.lsb + g.width ≤ f.lsb

theorem FieldSpec.apart_comm {f g : FieldSpec} : f.apart g ↔ g.apart f := Or.comm

/-- The fields of a register lie in its 32 bits, from the highest down. -/
def RegSpec.tiled (r : RegSpec) : Bool :=
  decide ((∀ f ∈ r.fields, f.lsb + f.width ≤ 32) ∧ r.fields.Pairwise fun f g => g.lsb + g.width ≤ f.lsb)

theorem RegSpec.apart_of_tiled {r : RegSpec} (h : r.tiled = true) : r.fields.Pairwise FieldSpec.apart :=
  (of_decide_eq_true h).2.imp .inr

theorem RegSpec.le_of_tiled {r : RegSpec} (h : r.tiled = true) : ∀ f ∈ r.fields, f.lsb + f.width ≤ 32 :=
  (of_decide_eq_true h).1

/-- Every register of the manual's tables is so. -/
theorem tiled_of_regTableAt {a o : Nat} {t : List RegSpec} (h : regTableAt a = some (t, o)) :
    t.all RegSpec.tiled = true := by
  unfold regTableAt at h
  split at h
  · cases h
  · dsimp only at h
    split at h
    case h_23 =>
      split at h
      · cases h; decide +kernel
      · split at h
        · cases h; decide +kernel
        · split at h
          · cases h; decide +kernel
          · cases h; rfl
    all_goals cases h
    all_goals decide +kernel

theorem mem_of_findReg {t : List RegSpec} {o i : Nat} {r : RegSpec} (h : findReg t o = some (r, i)) : r ∈ t := by
  induction t with
  | nil => cases h
  | cons q t ih =>
    unfold findReg at h
    split at h
    · cases h
      exact List.mem_cons_self
    · exact List.mem_cons_of_mem _ (ih h)

theorem tiled_of_regAt {a i : Nat} {r : RegSpec} (h : regAt a = some (r, i)) : r.tiled = true := by
  unfold regAt at h
  split at h
  · cases h
  · rename_i t o ht
    exact List.all_eq_true.1 (tiled_of_regTableAt ht) r (mem_of_findReg h)

/-! ## Working through the fields of a register -/

theorem bitsOf_setBitsOf_apart {f g : FieldSpec} (h : f.apart g) (n v : Nat) :
    bitsOf (setBitsOf n f.lsb f.width v) g.lsb g.width = bitsOf n g.lsb g.width :=
  h.elim (bitsOf_setBitsOf_above n v) (bitsOf_setBitsOf_below n v)

/-- A word worked through field by field holds in each field what the step for that field leaves there: the steps for
the others leave it alone. -/
theorem bitsOf_foldl_fields {step : Nat → FieldSpec → Nat}
    (others : ∀ w f g, FieldSpec.apart f g → bitsOf (step w f) g.lsb g.width = bitsOf w g.lsb g.width)
    {val : FieldSpec → Nat → Nat} (self : ∀ w f, bitsOf (step w f) f.lsb f.width = val f (bitsOf w f.lsb f.width))
    {fs : List FieldSpec} (h : fs.Pairwise FieldSpec.apart) {f : FieldSpec} (hf : f ∈ fs) (n : Nat) :
    bitsOf (fs.foldl step n) f.lsb f.width = val f (bitsOf n f.lsb f.width) := by
  have kept : ∀ (fs : List FieldSpec) (n : Nat), (∀ g ∈ fs, g.apart f) →
      bitsOf (fs.foldl step n) f.lsb f.width = bitsOf n f.lsb f.width := by
    intro fs
    induction fs with
    | nil => exact fun _ _ => rfl
    | cons g fs ih =>
      intro n hg
      rw [List.foldl_cons, ih _ fun q hq => hg q (List.mem_cons_of_mem _ hq), others _ _ _ (hg g List.mem_cons_self)]
  induction fs generalizing n with
  | nil => cases hf
  | cons g fs ih =>
    obtain ⟨hg, hfs⟩ := List.pairwise_cons.1 h
    rw [List.foldl_cons]
    obtain rfl | hf := List.mem_cons.1 hf
    · rw [kept _ _ fun q hq => FieldSpec.apart_comm.1 (hg q hq), self]
    · rw [ih hfs hf, others _ _ _ (hg f hf)]

/-- A word worked through field by field stays a word. -/
theorem foldl_fields_lt {step : Nat → FieldSpec → Nat} {fs : List FieldSpec}
    (hstep : ∀ w, ∀ f ∈ fs, w < 2 ^ 32 → step w f < 2 ^ 32) {n : Nat} (hn : n < 2 ^ 32) : fs.foldl step n < 2 ^ 32 := by
  induction fs generalizing n with
  | nil => exact hn
  | cons g fs ih =>
    exact ih (fun w f hf => hstep w f (List.mem_cons_of_mem _ hf)) (hstep n g List.mem_cons_self hn)

/-! ## Writes -/

/-- A write leaves in a field a value of the field's width. -/
theorem written_lt (f : FieldSpec) (locked : Bool) {old v : Nat} (ho : old < 2 ^ f.width) (hv : v < 2 ^ f.width) :
    f.written locked old v < 2 ^ f.width := by
  have legal : (if f.legalValue v then v else old) < 2 ^ f.width := by
    split
    · exact hv
    · exact ho
  unfold FieldSpec.written
  split
  · exact legal
  · split
    · exact ho
    · exact legal
  · exact ho
  · exact ho
  · exact ho
  · exact Nat.and_lt_two_pow _ (Nat.xor_lt_two_pow ho hv)
  · exact Nat.or_lt_two_pow ho hv

/-- Each field of a written register holds what its access type makes of its old bits and of those written (R5, R7). -/
theorem bitsOf_writeFields {r : RegSpec} (hr : r.tiled = true) (locked : Bool) (old v : Nat) {f : FieldSpec}
    (hf : f ∈ r.fields) : bitsOf (writeFields r.fields locked old v) f.lsb f.width
      = f.written locked (bitsOf old f.lsb f.width) (bitsOf v f.lsb f.width) := by
  refine bitsOf_foldl_fields (fun w f g h => bitsOf_setBitsOf_apart h w _)
    (val := fun f _ => f.written locked (bitsOf old f.lsb f.width) (bitsOf v f.lsb f.width)) (fun w f => ?_)
    (RegSpec.apart_of_tiled hr) hf old
  rw [bitsOf_setBitsOf_self, Nat.mod_eq_of_lt (written_lt f locked (bitsOf_lt ..) (bitsOf_lt ..))]

theorem writeFields_lt {r : RegSpec} (hr : r.tiled = true) (locked : Bool) {old : Nat} (ho : old < 2 ^ 32) (v : Nat) :
    writeFields r.fields locked old v < 2 ^ 32 :=
  foldl_fields_lt (fun _ f hf hw => setBitsOf_lt _ hw (RegSpec.le_of_tiled hr f hf)) ho

theorem writeReg_of_regAt {s : State} {a i : Nat} {r : RegSpec} (h : regAt a = some (r, i)) (w : Word) :
    s.writeReg a w = s.setRegN a (writeFields r.fields (s.lockedReg a r) (s.regN a) w.toNat) := by
  unfold State.writeReg
  rw [h]

/-- A register of WKR, DMD or DEC has no effect of its own. -/
theorem writeAt_plain {s : State} {a : Nat} (h : blockOf a = 0x12 ∨ blockOf a = 0x14 ∨ blockOf a = 0x15) (core : Nat)
    (rom : Bool) (i : Nat) (w : Word) : s.writeAt core rom a i w = s.writeReg a w := by
  unfold State.writeAt
  obtain h | h | h := h
  · rw [h]; rfl
  · rw [h]; rfl
  · rw [h]; rfl

/-! ## Reads -/

/-- A read clears the RC fields but for the bits set again, and no other field (R5). -/
theorem bitsOf_clearRC {r : RegSpec} (hr : r.tiled = true) (n again : Nat) {f : FieldSpec} (hf : f ∈ r.fields) :
    bitsOf (clearRC r.fields n again) f.lsb f.width
      = if f.acc = .rc then bitsOf again f.lsb f.width else bitsOf n f.lsb f.width := by
  refine bitsOf_foldl_fields (fun w f g h => ?_)
    (val := fun f x => if f.acc = .rc then bitsOf again f.lsb f.width else x) (fun w f => ?_)
    (RegSpec.apart_of_tiled hr) hf n
  · split
    · exact bitsOf_setBitsOf_apart h w _
    · rfl
  · split
    · rw [bitsOf_setBitsOf_self, Nat.mod_eq_of_lt (bitsOf_lt ..)]
    · rfl

theorem clearRC_lt {r : RegSpec} (hr : r.tiled = true) {n : Nat} (hn : n < 2 ^ 32) (again : Nat) :
    clearRC r.fields n again < 2 ^ 32 := by
  refine foldl_fields_lt (fun w f hf hw => ?_) hn
  split
  · exact setBitsOf_lt _ hw (RegSpec.le_of_tiled hr f hf)
  · exact hw

/-- Where no field is RC there is nothing to clear. -/
theorem clearRC_of_no_rc {fs : List FieldSpec} (h : ¬(fs.any fun f => f.acc == Acc.rc) = true) (n again : Nat) :
    clearRC fs n again = n := by
  induction fs with
  | nil => rfl
  | cons f fs ih =>
    simp only [List.any_cons, Bool.or_eq_true, beq_iff_eq, not_or] at h
    obtain ⟨hf, hfs⟩ := h
    unfold clearRC
    rw [List.foldl_cons, if_neg hf]
    exact ih hfs

/-- What a read leaves of the register it reads. -/
def State.afterRead (s : State) (a again : Nat) (r : RegSpec) : State :=
  if r.fields.any (fun f => f.acc == Acc.rc) then s.setRegN a (clearRC r.fields (s.regN a) again) else s

/-- A read whose hook answers nothing, over any register found, any hook and any word shown: the kernel would else look
into the register tables for them. -/
theorem read_of_hook_none (s : State) (a again i : Nat) (r : RegSpec) (hook : Nat → Option Out) (hh : hook i = none)
    (x : Option (RegSpec × Nat)) (n : Nat) :
    x = some (r, i) → (match x with
      | none => s.answerRead 0
      | some (q, i) => match hook i with
        | some o => outState o s
        | none =>
          let w := n
          let s := if (q.fields.any fun f => f.acc == Acc.rc) then
            s.setRegN a (clearRC q.fields (s.regN a) again) else s
          s.answerRead (Word.ofN w)) = (s.afterRead a again r).answerRead (Word.ofN n) := by
  rintro rfl
  simp only [hh]
  rfl

theorem readReg_of_readHook_none {s : State} {a i again : Nat} {r : RegSpec} (h : regAt a = some (r, i))
    (hh : s.readHook a i = none) :
    s.readReg a again = (s.afterRead a again r).answerRead (Word.ofN (s.shows a)) :=
  read_of_hook_none s a again i r (s.readHook a) hh (regAt a) (s.shows a) h

theorem regN_afterRead {s : State} {a again : Nat} {r : RegSpec} (hr : r.tiled = true) :
    (s.afterRead a again r).regN a = clearRC r.fields (s.regN a) again := by
  unfold State.afterRead
  split
  · rw [State.regN_setRegN_self, Nat.mod_eq_of_lt (clearRC_lt hr (s.regN_lt a) again)]
  · rw [clearRC_of_no_rc ‹_›]

theorem sameRegsBut_afterRead (s : State) (a again : Nat) (r : RegSpec) :
    s.sameRegsBut (s.afterRead a again r) [a] := by
  intro b hb
  unfold State.afterRead
  split
  · exact State.reg_setRegN_ne s _ (List.ne_of_not_mem_cons hb)
  · rfl

theorem sameMemory_afterRead (s : State) (a again : Nat) (r : RegSpec) : s.sameMemory (s.afterRead a again r) := by
  intro b
  unfold State.afterRead
  split
  · exact State.byte_setReg s a _ b
  · rfl

/-! ## The accesses -/

/-- A register that answers takes a write (R8). -/
theorem exec_registerWrite {s : State} {a : Nat} (hs : s.alive = true) (ha : s.regAnswers a = true) (user : Bool)
    (w : Word) : exec (.registerWrite user a w) s = .next (s.writeRegister 0 user false a w) := by
  change execRegisterWrite user a w s = _
  unfold execRegisterWrite
  rw [hs, ha]
  rfl

theorem exec_rcRead {s : State} {a : Nat} (hs : s.alive = true) (ha : s.regAnswers a = true) (again : Nat) :
    exec (.rcRead a again) s = .next (s.readReg a again) := by
  change execRcRead a again s = _
  unfold execRcRead
  rw [hs, ha]
  rfl

theorem writeRegister_machine {s : State} {a i : Nat} {r : RegSpec} (h : regAt a = some (r, i)) (core : Nat) (rom : Bool)
    (w : Word) : s.writeRegister core false rom a w = ({ s with busError := false } : State).writeAt core rom a i w := by
  unfold State.writeRegister
  rw [if_neg Bool.false_ne_true, h]

theorem writeRegister_unlisted {s : State} {a : Nat} (h : regAt a = none) (core : Nat) (rom : Bool) (w : Word) :
    s.writeRegister core false rom a w = { s with busError := false } := by
  unfold State.writeRegister
  rw [h]
  rfl

/-- Settles O3: field by field, as the fields of every register lie apart. -/
theorem registerAccessFollowsAccessTypes : Obligations.RegisterAccessFollowsAccessTypes := by
  unfold Obligations.RegisterAccessFollowsAccessTypes
  intro s a w hs ha
  refine ⟨?machineWrite, ?userWrite, ?unlistedWrite, ?read⟩
  case machineWrite =>
    intro r i hr hb
    have ht := tiled_of_regAt hr
    refine ⟨_, exec_registerWrite hs ha false w, ?_⟩
    rw [writeRegister_machine hr, writeAt_plain hb, writeReg_of_regAt hr]
    refine ⟨rfl, fun b hb => ?_, fun b => rfl, fun f hf => ?_⟩
    · exact State.reg_setRegN_ne _ _ (List.ne_of_not_mem_cons hb)
    · rw [State.regN_setRegN_self, Nat.mod_eq_of_lt (writeFields_lt ht _ (State.regN_lt _ a) _)]
      exact bitsOf_writeFields ht _ _ _ hf
  case userWrite => exact ⟨_, exec_registerWrite hs ha true w, rfl⟩
  case unlistedWrite =>
    intro hr
    exact ⟨_, exec_registerWrite hs ha false w, writeRegister_unlisted hr 0 false w⟩
  case read =>
    intro r i again hr hh
    have ht := tiled_of_regAt hr
    refine ⟨_, exec_rcRead hs ha again, ?_⟩
    rw [readReg_of_readHook_none hr hh]
    refine ⟨rfl, rfl, sameRegsBut_afterRead s a again r, sameMemory_afterRead s a again r, fun f hf => ?_⟩
    rw [← bitsOf_clearRC ht _ _ hf, ← regN_afterRead ht]
    rfl

end Sys2Proof.Machine
end

section
/-!
Register accesses that do not answer, and accesses to offsets that hold no register (R24, R31).
-/

namespace Sys2Proof.Machine

/-! ## The register range -/

theorem region_registers {a : Nat} (hl : 0x40000000 ≤ a) (hu : a ≤ 0x40FFFFFF) : region a = .registers := by
  unfold region
  rw [if_neg (by omega), if_neg (by simp; omega), if_neg (by simp; omega), if_neg (by simp; omega),
    if_neg (by simp; omega), if_pos (by simp; omega)]

/-- A slot of the register range has a table where R34 lists a block. -/
theorem regTableAt_isSome_iff {a : Nat} (hl : 0x40000000 ≤ a) (hu : a ≤ 0x40FFFFFF) :
    (regTableAt a).isSome = true ↔
      a / 0x10000 - 0x4000 ∈ ([0x00, 0x01, 0x02, 0x03, 0x04, 0x05, 0x10, 0x11, 0x12, 0x13, 0x14, 0x15, 0x20, 0x21,
        0x22, 0x23, 0x30, 0x40, 0x50, 0x51, 0x52, 0x53, 0x60, 0x61, 0x62, 0x63, 0x70, 0x71, 0x72, 0x73, 0x80, 0x81] :
        List Nat) := by
  have hin : ¬(decide (a < 0x40000000) || decide (0x41000000 ≤ a)) = true := by simp; omega
  have hslot : (a - 0x40000000) / 0x10000 = a / 0x10000 - 0x4000 := by omega
  unfold regTableAt
  rw [if_neg hin, hslot]
  generalize a / 0x10000 - 0x4000 = k
  dsimp only
  split
  case h_23 =>
    refine iff_of_true ?_ (by decide)
    split_ifs <;> rfl
  case h_33 => simp_all
  all_goals exact iff_of_true rfl (by decide)

theorem addrExists_registers {a : Nat} (hl : 0x40000000 ≤ a) (hu : a ≤ 0x40FFFFFF) :
    addrExists a = (regTableAt a).isSome := by
  unfold addrExists
  rw [region_registers hl hu]

/-! ## Accesses that do not answer -/

theorem exec_registerWrite_unanswered {s : State} {a : Nat} (hs : s.alive = true) (ha : s.regAnswers a = false)
    (user : Bool) (w : Word) : exec (.registerWrite user a w) s = .next s.readError := by
  change execRegisterWrite user a w s = _
  unfold execRegisterWrite
  rw [hs, ha]
  rfl

theorem exec_rcRead_unanswered {s : State} {a : Nat} (hs : s.alive = true) (ha : s.regAnswers a = false)
    (again : Nat) : exec (.rcRead a again) s = .next s.readError := by
  change execRcRead a again s = _
  unfold execRcRead
  rw [hs, ha]
  rfl

/-- Settles O4: the answer is the bus error alone. -/
theorem unansweredAccessIsBusError : Obligations.UnansweredAccessIsBusError := by
  unfold Obligations.UnansweredAccessIsBusError
  intro s a again user w hs ha
  have hregs : s.sameRegsBut s.readError [] := fun _ _ => rfl
  have hmem : s.sameMemory s.readError := fun _ => rfl
  exact ⟨⟨_, exec_registerWrite_unanswered hs ha user w, rfl, hregs, hmem⟩,
    ⟨_, exec_rcRead_unanswered hs ha again, rfl, hregs, hmem⟩⟩

/-! ## A core's accesses to the register range -/

/-- An access is refused whose address is not aligned or lies in a slot without a block. -/
theorem regAnswers_eq_false {s : State} {a : Nat} (h : a % 4 ≠ 0 ∨ addrExists a = false) : s.regAnswers a = false := by
  unfold State.regAnswers
  obtain h | h := h
  · simp [h]
  · simp [h]

section
variable {a : Nat} (ha : region a = .registers)
include ha

theorem busLoad_registers_unanswered {s : State} {n : Nat} (h : (decide (n = 4) && s.regAnswers a) = false) (core : Nat)
    (rom : Bool) : s.busLoad core rom a n = (0, s.readError) := by
  unfold State.busLoad
  simp [ha, h]

theorem busStore_registers_unanswered {s : State} {n : Nat} (h : (decide (n = 4) && s.regAnswers a) = false)
    (core : Nat) (user rom : Bool) (v : Nat) : s.busStore core user rom a n v = s.readError := by
  unfold State.busStore
  simp [ha, h]

theorem busLoad_registers {s : State} (h : s.regAnswers a = true) (core : Nat) (rom : Bool) :
    s.busLoad core rom a 4 = ((s.readReg a 0).busData.toNat, s.readReg a 0) := by
  unfold State.busLoad
  simp [ha, h]

theorem busStore_registers {s : State} (h : s.regAnswers a = true) (core : Nat) (user rom : Bool) (v : Nat) :
    s.busStore core user rom a 4 v = s.writeRegister core user rom a (Word.ofN v) := by
  unfold State.busStore
  simp [ha, h]

end

theorem readReg_unlisted {s : State} {a : Nat} (h : regAt a = none) (again : Nat) :
    s.readReg a again = s.answerRead 0 := by
  unfold State.readReg
  rw [h]

theorem writeRegister_unlisted_any {s : State} {a : Nat} (h : regAt a = none) (core : Nat) (user rom : Bool) (w : Word) :
    s.writeRegister core user rom a w = { s with busError := false } := by
  cases user with
  | false => exact writeRegister_unlisted h core rom w
  | true => rfl

/-- Settles O52: only an aligned word of a listed block answers, and an offset without a register reads zero. -/
theorem registerSpaceAccesses : Obligations.RegisterSpaceAccesses := by
  unfold Obligations.RegisterSpaceAccesses
  intro s core a n v again user rom hl hu
  have hr := region_registers hl hu
  have hlisted := regTableAt_isSome_iff hl hu
  rw [← addrExists_registers hl hu] at hlisted
  simp only [← hlisted, Bool.not_eq_true]
  refine ⟨fun h => ?core, fun h hs => ?command, fun hal hex hreach hreg => ?unlisted⟩
  case core =>
    have hno : (decide (n = 4) && s.regAnswers a) = false := by
      obtain h | h := h
      · simp [h]
      · simp [regAnswers_eq_false h]
    exact ⟨busLoad_registers_unanswered hr hno core rom, busStore_registers_unanswered hr hno core user rom v⟩
  case command =>
    have hno : s.regAnswers a = false := regAnswers_eq_false h
    exact ⟨⟨_, exec_registerWrite_unanswered hs hno user _, rfl⟩, ⟨_, exec_rcRead_unanswered hs hno again, rfl⟩⟩
  case unlisted =>
    have hans : s.regAnswers a = true := by simp [State.regAnswers, hr, hal, hex, hreach]
    rw [busLoad_registers hr hans, busStore_registers hr hans, readReg_unlisted hreg,
      writeRegister_unlisted_any hreg]
    exact ⟨rfl, rfl⟩

end Sys2Proof.Machine
end

section
/-!
The clusters of PD_CL1 to PD_CL3 follow the demand for them (R28, R606).
-/

namespace Sys2Proof.Machine

/-! ## The bits of a register -/

theorem bitAt_eq (n i : Nat) : bitAt n i = (bitsOf n i 1 == 1) := rfl

theorem bit_setBit_self (s : State) (a : Nat) {i : Nat} (hi : i < 32) : (s.setBit a i).bit a i = true := by
  unfold State.setBit State.bit
  rw [State.regN_setRegN_self, Nat.mod_eq_of_lt (setBitsOf_lt _ (s.regN_lt a) hi), bitAt_eq, bitsOf_setBitsOf_self]
  rfl

theorem bit_clearBit_self (s : State) (a : Nat) {i : Nat} (hi : i < 32) : (s.clearBit a i).bit a i = false := by
  unfold State.clearBit State.bit
  rw [State.regN_setRegN_self, Nat.mod_eq_of_lt (setBitsOf_lt _ (s.regN_lt a) hi), bitAt_eq, bitsOf_setBitsOf_self]
  rfl

/-! ## The domain of a cluster -/

theorem Domain.cl_bit_lt (n : Nat) : (Domain.cl n).bit < 32 := by
  unfold Domain.cl
  split <;> decide

theorem domainOn_cl (s : State) (n : Nat) : s.domainOn (Domain.cl n) = s.bit A.pmuDomstat (Domain.cl n).bit := by
  unfold Domain.cl
  split <;> rfl

theorem domainOn_cl_switchOff (s : State) (n : Nat) : (s.switchOff (Domain.cl n)).domainOn (Domain.cl n) = false := by
  unfold State.switchOff
  split
  case isTrue => rw [domainOn_cl, bit_clearBit_self _ _ (Domain.cl_bit_lt n)]
  case isFalse hoff => exact Bool.eq_false_of_not_eq_true hoff

/-- A cluster that is off is switched on by its bit of DOMSTAT alone. -/
theorem switchOn_cl {s : State} {n : Nat} (h : s.domainOn (Domain.cl n) = false) :
    s.switchOn (Domain.cl n) = s.setBit A.pmuDomstat (Domain.cl n).bit := by
  unfold State.switchOn
  rw [if_neg (Bool.eq_false_iff.1 h)]
  unfold Domain.cl
  split <;> rfl

theorem domainOn_of_onDemand {s : State} {n : Nat} (h : s.onDemand n = true) : s.domainOn (Domain.cl n) = false := by
  unfold State.onDemand at h
  simp only [Bool.and_eq_true, Bool.not_eq_true'] at h
  obtain ⟨⟨-, hoff⟩, -⟩ := h
  exact hoff

/-! ## The events -/

theorem exec_clusterIdle {s : State} {n : Nat} (hl : 1 ≤ n) (hu : n ≤ 3) (hm : s.mode = 2) (hp : s.profile = 1)
    (ht : s.pw.trans = none) (hw : s.clusterWork n = false) (hn : s.narrowNeeds n = false) :
    exec (.clusterIdle n) s = .next (s.switchOff (Domain.cl n)) := by
  change execClusterIdle n s = _
  simp [execClusterIdle, hl, hu, hm, hp, ht, hw, hn]

/-- No cluster waits any more, and no write either. -/
def State.wokenClusters (s : State) : State := { s with pw := { s.pw with clusterWaking := [], lateWrites := [] } }

/-- The one cluster that is waited for comes up; with no write kept for it nothing is made up for. -/
theorem exec_clusterPowered {s : State} {n : Nat} (hw : s.pw.clusterWaking = [n]) (hl : s.pw.lateWrites = [])
    (hd : s.onDemand n = true) :
    exec (.clusterPowered n) s = .next (s.wokenClusters.setBit A.pmuDomstat (Domain.cl n).bit) := by
  have hd' : s.wokenClusters.onDemand n = true := hd
  have hon : (s.wokenClusters.domainOn (Domain.cl n) || s.wokenClusters.onDemand n) = true := by simp [hd']
  rw [← switchOn_cl (domainOn_of_onDemand hd')]
  change execClusterPowered n s = _
  unfold execClusterPowered
  rw [if_pos (by simp [hw])]
  simp only [hw, hl, List.filter_nil, List.filter_cons, bne_self_eq_false, Bool.false_eq_true, if_false]
  exact congrArg Host.Outcome.next (if_pos hon)

/-- Settles O9: the events switch the bit of DOMSTAT that is the cluster's. -/
theorem clusterFollowsDemand : Obligations.ClusterFollowsDemand := by
  unfold Obligations.ClusterFollowsDemand
  intro s n hl hu
  refine ⟨fun hm hp ht hw hn => ?idle, fun hwait hlate hd => ?powered⟩
  case idle => exact ⟨_, exec_clusterIdle hl hu hm hp ht hw hn, domainOn_cl_switchOff s n⟩
  case powered =>
    refine ⟨_, exec_clusterPowered hwait hlate hd, ?_, rfl, fun a ha => ?_⟩
    · rw [domainOn_cl, bit_setBit_self _ _ (Domain.cl_bit_lt n)]
    · exact State.reg_setRegN_ne s.wokenClusters _ (List.ne_of_not_mem_cons ha)

end Sys2Proof.Machine
end

section
/-!
What resets below POWER-ON keep, and that registers of PD_COM return to their reset values (R23, R134, R135).
-/

namespace Sys2Proof.Machine

variable {s t : State}

/-! ## Losses by address -/

/-- Keys that a test of the key keeps hold their values. -/
theorem Sparse.find?_filter_kept {α : Type} (m : List (Nat × α)) {p : Nat → Bool} {k : Nat} (h : p k = true) :
    Sparse.find? (m.filter fun e => p e.1) k = Sparse.find? m k := by
  induction m with
  | nil => rfl
  | cons e m ih =>
    obtain ⟨a, v⟩ := e
    by_cases ha : a = k
    · subst ha
      simp [Sparse.find?, h]
    · by_cases hp : p a = true
      · simp [Sparse.find?, hp, ha, ih]
      · simp [Sparse.find?, hp, ha, ih]

/-- Keys that it leaves out are unlisted. -/
theorem Sparse.find?_filter_dropped {α : Type} (m : List (Nat × α)) {p : Nat → Bool} {k : Nat} (h : p k = false) :
    Sparse.find? (m.filter fun e => p e.1) k = none := by
  induction m with
  | nil => rfl
  | cons e m ih =>
    obtain ⟨a, v⟩ := e
    by_cases hp : p a = true
    · have ha : a ≠ k := by
        rintro rfl
        simp [h] at hp
      simp [Sparse.find?, hp, ha, ih]
    · simp [hp, ih]

/-- A register that was dropped holds its reset value. -/
theorem reg_of_dropped {m : List (Nat × Word)} {p : Nat → Bool} (ht : t.regs = m.filter fun e => p e.1) {a : Nat}
    (h : p a = false) : t.reg a = regReset a := by
  unfold State.reg Sparse.get
  rw [ht, Sparse.find?_filter_dropped m h]
  rfl

/-! ## Retained SRAM -/

theorem bounds_of_retained {a : Nat} (ha : region a = .retained) : 0x24000000 ≤ a ∧ a < 0x24040000 := by
  unfold region at ha
  split_ifs at ha with _ _ _ h
  simpa using h

theorem byte_of_retained (s : State) {a : Nat} (ha : region a = .retained) :
    s.byte a = (Sparse.find? s.ram a).getD (Config.sramByte (s.epoch .aon) a) := by
  unfold State.byte
  rw [ha]

/-- Retained SRAM is no part of what a loss of other storage and the power losses of other domains touch. -/
theorem byte_loseRam_retained (s : State) {lost : Nat → Bool} {a : Nat} (ha : region a = .retained)
    (hl : lost a = false) : (s.loseRam lost).byte a = s.byte a := by
  rw [byte_of_retained _ ha, byte_of_retained s ha]
  unfold State.loseRam
  rw [Sparse.find?_filter_kept s.ram (p := fun a => !lost a) (by simp [hl])]
  rfl

theorem byte_bumpEpoch_retained (s : State) {d a : Nat} (ha : region a = .retained) (hd : Domain.aon.idx ≠ d) :
    (s.bumpEpoch d).byte a = s.byte a := by
  rw [byte_of_retained _ ha, byte_of_retained s ha]
  unfold State.epoch State.bumpEpoch
  rw [Sparse.find?_insert_ne _ _ hd]

theorem byte_retained_congr {a : Nat} (ha : region a = .retained) (hr : t.ram = s.ram)
    (he : t.ramEpochs = s.ramEpochs) : t.byte a = s.byte a := by
  rw [byte_of_retained t ha, byte_of_retained s ha]
  unfold State.epoch
  rw [hr, he]

/-! ## What a reset keeps -/

/-- A reset of SYSTEM or ALWAYS-ON scope leads from `s` to `t`: retained SRAM, flash and OTP stand, PD_COM's registers
are at their reset values, and of the Board's configuration at most the always-on channels stand (R134, R135). -/
structure State.KeepsOverReset (s t : State) : Prop where
  retained : ∀ a, region a = .retained → t.byte a = s.byte a
  flash : t.flash = s.flash
  otp : t.otp = s.otp
  com : ∀ a, regDomain a = .com → t.reg a = regReset a
  board : (t.board.all fun p => aonCfgKey p.1) = true

/-! After the loss registers of PD_AON and the state of the PMU are written. -/

theorem State.KeepsOverReset.setReg (h : s.KeepsOverReset t) {a : Nat} (ha : regDomain a = .aon) (w : Word) :
    s.KeepsOverReset (t.setReg a w) where
  retained := h.retained
  flash := h.flash
  otp := h.otp
  com b hb := by
    have hne : b ≠ a := by
      rintro rfl
      rw [ha] at hb
      cases hb
    rw [State.reg_setReg_ne t w hne, h.com b hb]
  board := h.board

theorem State.KeepsOverReset.setFld (h : s.KeepsOverReset t) {f : Fld} (hf : regDomain f.addr = .aon) (v : Nat) :
    s.KeepsOverReset (t.setFld f v) := h.setReg hf _

theorem State.KeepsOverReset.setPw (h : s.KeepsOverReset t) (pw : PowerState) :
    s.KeepsOverReset { t with pw := pw } := ⟨h.retained, h.flash, h.otp, h.com, h.board⟩

theorem State.KeepsOverReset.ite {c : Prop} [Decidable c] {u : State} (ht : s.KeepsOverReset t)
    (hu : s.KeepsOverReset u) : s.KeepsOverReset (if c then t else u) := by
  split
  · exact ht
  · exact hu

/-! ## The scopes -/

theorem byte_resetFabric_retained (s : State) {a : Nat} (ha : region a = .retained) :
    s.resetFabric.byte a = s.byte a := by
  have hlost : (region a == Region.context || (decide (0x20000000 ≤ a) && decide (a < 0x20040000))) = false := by
    obtain ⟨hl, -⟩ := bounds_of_retained ha
    have hw : ¬a < 0x20040000 := by omega
    simp [ha, hw]
  calc s.resetFabric.byte a
      = (((s.loseRam fun a => region a == Region.context || (0x20000000 ≤ a && a < 0x20040000)).bumpEpoch 16).bumpEpoch
          Domain.com.idx).byte a := byte_retained_congr ha rfl rfl
    _ = s.byte a := by
      rw [byte_bumpEpoch_retained _ ha (by decide), byte_bumpEpoch_retained _ ha (by decide),
        byte_loseRam_retained s ha hlost]

theorem keepsOverReset_resetFabric (s : State) : s.KeepsOverReset s.resetFabric where
  retained _ ha := byte_resetFabric_retained s ha
  flash := rfl
  otp := rfl
  com a ha := by
    refine reg_of_dropped (m := s.regs)
      (p := fun a => regDomain a == Domain.aon && !(0x40600000 ≤ a && a < 0x40610000)) rfl ?_
    simp [ha]
  board := List.all_eq_true.2 fun _ hp => (List.mem_filter.1 hp).2

theorem State.KeepsOverReset.xrefStop (h : s.KeepsOverReset t) : s.KeepsOverReset t.xrefStop :=
  (h.setFld (f := F.pmuStatXrefrdy) (by decide) 0).setPw _

/-- The mode controller's registers are PD_AON's. -/
theorem State.KeepsOverReset.resetModeController (h : s.KeepsOverReset t) :
    s.KeepsOverReset t.resetModeController := by
  have hmode := h.setReg (a := A.pmuModestat) (by decide)
  unfold State.resetModeController
  refine State.KeepsOverReset.setPw (.xrefStop (.setFld (.setFld (.setFld (.setFld (.setReg (.setReg (.setFld (hmode _)
    ?_ _) ?_ _) ?_ _) ?_ _) ?_ _) ?_ _) ?_ _)) _
  all_goals decide

theorem keepsOverReset_resetSystem (s : State) : s.KeepsOverReset s.resetSystem :=
  (keepsOverReset_resetFabric s).resetModeController

theorem State.KeepsOverReset.dropRegs (h : s.KeepsOverReset t) {p : Nat → Bool}
    (hp : ∀ a, regDomain a = .com → p a = false) :
    s.KeepsOverReset { t with regs := t.regs.filter fun e => p e.1 } where
  retained := h.retained
  flash := h.flash
  otp := h.otp
  com a ha := reg_of_dropped (m := t.regs) rfl (hp a ha)
  board := h.board

theorem keepsOverReset_resetAlwaysOn (s : State) : s.KeepsOverReset s.resetAlwaysOn := by
  have hkeep : ∀ a, regDomain a = .com → [A.rstCause, A.rstCausehist, A.rstRstcount].contains a = false := by
    intro a ha
    by_contra hc
    simp only [Bool.not_eq_false, List.contains_iff_mem, List.mem_cons, List.not_mem_nil, or_false] at hc
    obtain rfl | rfl | rfl := hc
    · exact absurd ha (by decide)
    · exact absurd ha (by decide)
    · exact absurd ha (by decide)
  have h := (keepsOverReset_resetSystem s).dropRegs hkeep
  unfold State.resetAlwaysOn
  refine State.KeepsOverReset.setFld ?_ (by decide) _
  exact ⟨h.retained, h.flash, h.otp, h.com, rfl⟩

/-- The records are PD_AON's (R149, R150). -/
theorem keepsOverReset_assertReset {scope : Nat} (hb : s.pw.boot ≠ .bist) (hs : scope = 2 ∨ scope = 3) (code : Nat) :
    s.KeepsOverReset (s.assertReset scope code) := by
  have hscope : s.KeepsOverReset
      (if scope = 4 then s.resetPowerOn else if scope = 3 then s.resetAlwaysOn else s.resetSystem) := by
    obtain rfl | rfl := hs
    · exact keepsOverReset_resetSystem s
    · exact keepsOverReset_resetAlwaysOn s
  have hhist := hscope.setReg (a := A.rstCausehist) (by decide)
  unfold State.assertReset
  rw [if_neg (by simp [hb])]
  refine State.KeepsOverReset.setPw (.setFld (.setFld (.setFld (.setFld (.ite (.setFld (hhist _) ?_ _) (hhist _)) ?_ _)
    ?_ _) ?_ _) ?_ _) _
  all_goals decide

theorem writeSwrst_system {w : Word} (hk : bitsOf w.toNat 24 8 = 0xA5) (hs : bitsOf w.toNat 0 2 = 2) :
    s.writeSwrst w = s.assertReset 2 11 := by
  simp [State.writeSwrst, hk, hs]

theorem writeSwrst_alwaysOn {w : Word} (hk : bitsOf w.toNat 24 8 = 0xA5) (hs : bitsOf w.toNat 0 2 = 3) :
    s.writeSwrst w = s.assertReset 3 11 := by
  simp [State.writeSwrst, hk, hs]

theorem exec_swrstSystem (s : State) (w : Word) : exec (.swrstSystem false w) s = .next (s.writeSwrst w) := rfl

theorem exec_swrstAlwaysOn (s : State) (w : Word) : exec (.swrstAlwaysOn false w) s = .next (s.writeSwrst w) := rfl

theorem exec_watchdog (h : s.watchdogRuns = true) : exec .watchdog s = .next (s.assertReset 2 7) :=
  congrArg Host.Outcome.next (if_pos h)

theorem exec_lpBrownout (h : s.flag F.pmuStatAonlp = true) : exec .lpBrownout s = .next (s.assertReset 3 2) :=
  congrArg Host.Outcome.next (if_pos h)

/-- Settles O14: each source makes the reset of its scope, and every reset below POWER-ON keeps so much. -/
theorem resetsKeepRetainedAndFlash : Obligations.ResetsKeepRetainedAndFlash := by
  unfold Obligations.ResetsKeepRetainedAndFlash
  intro s w hb hk
  have kept : ∀ scope code, scope = 2 ∨ scope = 3 →
      let t := s.assertReset scope code
      (∀ a, region a = .retained → t.byte a = s.byte a) ∧ t.flash = s.flash ∧ t.otp = s.otp
      ∧ (∀ a, regDomain a = .com → t.reg a = regReset a) ∧ t.board.all (fun p => aonCfgKey p.1) = true := by
    intro scope code hs
    obtain ⟨hret, hflash, hotp, hcom, hboard⟩ := keepsOverReset_assertReset hb hs code
    exact ⟨hret, hflash, hotp, hcom, hboard⟩
  refine ⟨fun hs => ?system, fun hs => ?alwaysOn, fun hw => ?watchdog, fun hl => ?brownout⟩
  case system => exact ⟨_, (exec_swrstSystem s w).trans (by rw [writeSwrst_system hk hs]), kept 2 11 (.inl rfl)⟩
  case alwaysOn => exact ⟨_, (exec_swrstAlwaysOn s w).trans (by rw [writeSwrst_alwaysOn hk hs]), kept 3 11 (.inr rfl)⟩
  case watchdog => exact ⟨_, exec_watchdog hw, kept 2 7 (.inl rfl)⟩
  case brownout => exact ⟨_, exec_lpBrownout hl, kept 3 2 (.inr rfl)⟩

end Sys2Proof.Machine
end

section
/-!
What goes on beside the mode controller: the event fabric, notices, the flash, the journal, actions and captures leave
the mode controller's state and `PMU.MODESTAT` alone.
-/

namespace Sys2Proof.Machine

/- One proof at a time: each `decide` below waits for the kernel on a thread of its own, and so many at once would
exceed the memory that the check allows for stacks. -/
set_option Elab.async false

/-- `s` comes from `r` by changes that leave the mode controller alone: its state, MODESTAT, a HALT response that waits
for it and the hold-up test that holds a supply failure back are as in `r`. Each function below has one lemma, named
after it, that says so. -/
structure KeepsMode (r s : State) : Prop where
  pw : s.pw = r.pw
  modestat : s.reg A.pmuModestat = r.reg A.pmuModestat
  haltWait : s.sec.haltWait = r.sec.haltWait
  holding : s.jrn.holding = r.jrn.holding

namespace KeepsMode

variable {r s t : State} {α β : Type} {c : Prop} {i : Decidable c}

theorem refl (s : State) : KeepsMode s s := ⟨rfl, rfl, rfl, rfl⟩

/-! ### Branches and folds -/

theorem ite (hs : KeepsMode r s) (ht : KeepsMode r t) : KeepsMode r (if c then s else t) := by
  split
  · exact hs
  · exact ht

theorem ite_fst {p q : State × β} (hp : KeepsMode r p.1) (hq : KeepsMode r q.1) :
    KeepsMode r (if c then p else q).1 := by
  split
  · exact hp
  · exact hq

theorem ite_snd {p q : β × State} (hp : KeepsMode r p.2) (hq : KeepsMode r q.2) :
    KeepsMode r (if c then p else q).2 := by
  split
  · exact hp
  · exact hq

theorem of_snd {p : β × State} {b : β} (h : KeepsMode r p.2) (e : p = (b, t)) : KeepsMode r t := by
  rw [e] at h
  exact h

theorem of_snd_snd {p : α × β × State} {a : α} {b : β} (h : KeepsMode r p.2.2) (e : p = (a, b, t)) :
    KeepsMode r t := by
  rw [e] at h
  exact h

theorem of_fst {p : State × β} {b : β} (h : KeepsMode r p.1) (e : p = (t, b)) : KeepsMode r t := by
  rw [e] at h
  exact h

theorem foldl {f : State → α → State} {l : List α} (h : KeepsMode r s)
    (hf : ∀ t a, KeepsMode r t → KeepsMode r (f t a)) : KeepsMode r (l.foldl f s) := by
  induction l generalizing s with
  | nil => exact h
  | cons a l ih => exact ih (hf s a h)

theorem foldl_fst {f : State × β → α → State × β} {l : List α} {b : β} (h : KeepsMode r s)
    (hf : ∀ p a, KeepsMode r p.1 → KeepsMode r (f p a).1) : KeepsMode r (l.foldl f (s, b)).1 := by
  induction l generalizing s b with
  | nil => exact h
  | cons a l ih => exact ih (s := (f (s, b) a).1) (b := (f (s, b) a).2) (hf (s, b) a h)

/-! ### Writes beside the mode controller -/

/-- Anything changes but the registers and what the mode controller goes by. -/
theorem other {ram ctxGen ramEpochs flash otp ecc board subst tick free busData busError brd hsl icu evf tb snp ntm rf
    cap dec lnk tnt jrn flc fw sec pip lum fcr pending} (h : KeepsMode r s)
    (hsec : sec.haltWait = s.sec.haltWait := by rfl) (hjrn : jrn.holding = s.jrn.holding := by rfl) :
    KeepsMode r { s with
      ram := ram, ctxGen := ctxGen, ramEpochs := ramEpochs, flash := flash, otp := otp, ecc := ecc, board := board,
      subst := subst, tick := tick, free := free, busData := busData, busError := busError, brd := brd, hsl := hsl,
      icu := icu, evf := evf, tb := tb, snp := snp, ntm := ntm, rf := rf, cap := cap, dec := dec, lnk := lnk,
      tnt := tnt, jrn := jrn, flc := flc, fw := fw, sec := sec, pip := pip, lum := lum, fcr := fcr, pending := pending } where
  pw := h.pw
  modestat := h.modestat
  haltWait := hsec.trans h.haltWait
  holding := hjrn.trans h.holding

/-- The registers of every other block, but for the first of the PMU, lie above MODESTAT. -/
theorem setReg (h : KeepsMode r s) {a : Nat} {w : Word} (ha : A.pmuModestat < a := by decide) :
    KeepsMode r (s.setReg a w) :=
  ⟨h.pw, (State.reg_setReg_ne s w (Nat.ne_of_lt ha)).trans h.modestat, h.haltWait, h.holding⟩

theorem setRegN (h : KeepsMode r s) {a n : Nat} (ha : A.pmuModestat < a := by decide) :
    KeepsMode r (s.setRegN a n) := h.setReg ha

theorem setFld (h : KeepsMode r s) {f : Fld} {v : Nat} (ha : A.pmuModestat < f.addr := by decide) :
    KeepsMode r (s.setFld f v) := h.setReg ha

theorem raise (h : KeepsMode r s) {f : Fld} (ha : A.pmuModestat < f.addr := by decide) : KeepsMode r (s.raise f) :=
  h.setReg ha

theorem lower (h : KeepsMode r s) {f : Fld} (ha : A.pmuModestat < f.addr := by decide) : KeepsMode r (s.lower f) :=
  h.setReg ha

theorem setBit (h : KeepsMode r s) {a i : Nat} (ha : A.pmuModestat < a := by decide) : KeepsMode r (s.setBit a i) :=
  h.setReg ha

theorem clearBit (h : KeepsMode r s) {a i : Nat} (ha : A.pmuModestat < a := by decide) :
    KeepsMode r (s.clearBit a i) := h.setReg ha

theorem countBy (h : KeepsMode r s) {a n : Nat} (ha : A.pmuModestat < a := by decide) :
    KeepsMode r (s.countBy a n) := h.setReg ha

theorem count (h : KeepsMode r s) {a : Nat} (ha : A.pmuModestat < a := by decide) : KeepsMode r (s.count a) :=
  h.setReg ha

/-- An entry of a bank of registers whose first one lies above MODESTAT. -/
theorem lt_entry {b k : Nat} (hb : A.pmuModestat < b := by decide) : A.pmuModestat < b + k := Nat.lt_add_right k hb

theorem setFlash (h : KeepsMode r s) {off : Nat} {bs : List Byte} : KeepsMode r (s.setFlash off bs) := by
  induction bs generalizing s off with
  | nil => exact h
  | cons b bs ih => exact ih h.other

theorem eraseFlash (h : KeepsMode r s) {lo hi : Nat} : KeepsMode r (s.eraseFlash lo hi) := h.other

theorem draw (h : KeepsMode r s) {m : Nat} : KeepsMode r (s.draw m).2 := h.other

/-! ### The host link -/

theorem emit (h : KeepsMode r s) {f : HslFrame} : KeepsMode r (s.emit f) := h.other.count

theorem send (h : KeepsMode r s) {f : HslFrame} : KeepsMode r (s.send f) := .ite h.emit h.other

theorem dropNotice (h : KeepsMode r s) {code : Nat} : KeepsMode r (s.dropNotice code) := by
  unfold State.dropNotice
  extract_lets _
  split
  · exact h.count.raise.other
  · exact .ite h.count.raise.other h.count.raise.other

theorem notice (h : KeepsMode r s) {code : Nat} {payload : List Byte} : KeepsMode r (s.notice code payload) :=
  .ite h.other h.dropNotice

theorem respond (h : KeepsMode r s) {o : Origin} {code : Nat} {st : Status} {rest : List Byte} :
    KeepsMode r (s.respond o code st rest) :=
  send (.ite h.other h)

/-! ### Flash -/

theorem flcCount (h : KeepsMode r s) {k n : Nat} : KeepsMode r (s.flcCount k n) := h.countBy lt_entry

theorem touchPlane (h : KeepsMode r s) {p : Nat} : KeepsMode r (s.touchPlane p) := by
  unfold State.touchPlane
  split
  · exact .ite h.other.flcCount h
  · split
    · exact .ite h.other.flcCount h
    · exact h

theorem endErase (h : KeepsMode r s) {e : EraseJob} {st : Status} : KeepsMode r (s.endErase e st) := by
  unfold State.endErase
  extract_lets _ _ s1
  have h1 : KeepsMode r s1 := .ite h.other.raise h.other.raise.raise
  split
  · exact h1.respond
  · exact h1

theorem flashLastgasp (h : KeepsMode r s) : KeepsMode r s.flashLastgasp := by
  unfold State.flashLastgasp
  split
  · exact h.endErase
  · exact .ite h.lower.setFld.other h
  · exact h

/-! ### Interrupts -/

theorem lt_icuBank (core : Nat) : A.pmuModestat < icuBank core := by
  unfold icuBank
  split
  · decide
  · exact lt_entry

theorem irqTime (h : KeepsMode r s) : KeepsMode r s.irqTime.2.2 := by
  unfold State.irqTime
  split
  · exact h.draw (m := 2 ^ 32)
  · exact h

theorem irqSetPending (h : KeepsMode r s) {k edge payload : Nat} : KeepsMode r (s.irqSetPending k edge payload) := by
  unfold State.irqSetPending
  extract_lets _
  refine .ite (h.other.count (lt_entry (lt_entry (lt_icuBank _)))) ?_
  split
  exact (h.irqTime.of_snd_snd ‹_›).other

theorem irqSample (h : KeepsMode r s) {k : Nat} {level : Bool} {payload : Nat} :
    KeepsMode r (s.irqSample k level payload) := by
  unfold State.irqSample
  extract_lets _ _ s1
  have h1 : KeepsMode r s1 := h.other
  refine .ite (.ite h1 (.ite ?_ (.ite h1.other h1))) (.ite h1.irqSetPending (.ite h1.irqSetPending h1))
  split
  exact (h1.irqTime.of_snd_snd ‹_›).other

theorem irqPulse (h : KeepsMode r s) {id payload : Nat} : KeepsMode r (s.irqPulse id payload) :=
  irqSample h.other

/-! ### The event fabric -/

theorem setEvf (h : KeepsMode r s) {e : EvfState} : KeepsMode r (s.setEvf e) := h.other

theorem holdEdge (h : KeepsMode r s) {det : Nat} {g : HeldEdge} : KeepsMode r (s.holdEdge det g) := by
  unfold State.holdEdge
  split
  · exact h.other
  · exact h.other

theorem evLatchIn (h : KeepsMode r s) {i ref : Nat} {t : EvLatch} : KeepsMode r (s.evLatchIn i ref t) := by
  unfold State.evLatchIn
  extract_lets _
  refine .ite h ?_
  split
  · exact h.setEvf
  · exact h.setEvf
  · exact .ite h.count.raise h.count.raise

theorem evConsumers (h : KeepsMode r s) {ref : Nat} {rising : Bool} {t : EvLatch} :
    KeepsMode r (s.evConsumers ref rising t) := by
  unfold State.evConsumers
  refine h.foldl fun _ _ h1 => ?_
  split
  exact .ite (.ite h1.holdEdge h1.evLatchIn) h1

theorem aonSet (h : KeepsMode r s) {w : EvWave} {a : Nat} {lv : Bool} : KeepsMode r (s.aonSet w a lv).1 :=
  .ite_fst h (KeepsMode.ite h.setEvf (irqSample (evConsumers (.ite (h.setEvf.count lt_entry) h.setEvf))))

theorem aonUpdate (h : KeepsMode r s) {w : EvWave} {pick : Nat → Bool} : KeepsMode r (s.aonUpdate w pick).1 :=
  h.foldl_fst fun _ _ h1 => .ite_fst h1.aonSet h1

theorem cellDrive (h : KeepsMode r s) {k : Nat} {lv settle : Bool} : KeepsMode r (s.cellDrive k lv settle).1 :=
  .ite_fst h.setEvf.setEvf h.setEvf

theorem cellSees (h : KeepsMode r s) {w : EvWave} {k m : Nat} {rising : Bool} :
    KeepsMode r (s.cellSees w k m rising).1 :=
  .ite_fst h (.ite_fst h.cellDrive (.ite_fst (.ite_fst h.cellDrive (h.draw (m := 2)).cellDrive) h))

/-- A pass over channels or cells, its range and the fold going by names: the kernel would else run the pass. -/
theorem of_foldl {F : (State × β → α → State × β) → State × β → List α → State × β}
    (hF : @List.foldl (State × β) α = F) {f : State × β → α → State × β} {l : List α} {b b' : β}
    (e : F f (s, b) l = (t, b')) (h : KeepsMode r s) (hf : ∀ p a, KeepsMode r p.1 → KeepsMode r (f p a).1) :
    KeepsMode r t := by
  subst hF
  exact (h.foldl_fst hf).of_fst e

theorem outSet (h : KeepsMode r s) {w : EvWave} {m : Nat} {lv : Bool} : KeepsMode r (s.outSet w m lv).1 := by
  unfold State.outSet
  generalize hF : @List.foldl (State × EvWork) Nat = F
  refine .ite_fst h ?_
  extract_lets _ _ s1 s2 s3
  have h1 : KeepsMode r s1 := .ite h.setEvf (evConsumers (.ite (h.setEvf.count lt_entry) h.setEvf))
  have h2 : KeepsMode r s2 := .ite h1 (h1.foldl fun _ _ h => .ite h.irqSample h)
  have h3 : KeepsMode r s3 :=
    .ite (h2.foldl fun _ _ h => .ite (setEvf (.ite h.setEvf h)) (.ite h.setEvf h)) h2
  split
  rename_i e
  exact .of_foldl hF e h3 fun _ _ h => .ite_fst h.cellSees h

theorem mainSet (h : KeepsMode r s) {w : EvWave} {m : Nat} {lv : Bool} : KeepsMode r (s.mainSet w m lv).1 :=
  .ite_fst h (.ite_fst h.setEvf.outSet h.setEvf.count)

theorem evChange (h : KeepsMode r s) {w : EvWave} {code : Nat} {lv : Bool} :
    KeepsMode r (s.evChange w code lv).1 := by
  unfold State.evChange
  generalize hF : @List.foldl (State × EvWork) Nat = F
  split
  rename_i e
  exact (KeepsMode.of_foldl hF e h fun _ _ h => .ite_fst h.mainSet h).aonUpdate

theorem evRun (h : KeepsMode r s) {fuel : Nat} {w : EvWave} {work : EvWork} : KeepsMode r (evRun fuel w work s) := by
  induction fuel generalizing s work with
  | zero => exact h
  | succ fuel ih =>
    rcases work with _ | ⟨⟨code, lv⟩, rest⟩
    · exact h
    · rw [Machine.evRun]
      split
      exact ih (h.evChange.of_fst ‹_›)

theorem evSettle (h : KeepsMode r s) {w : EvWave} : KeepsMode r (s.evSettle w) := by
  unfold State.evSettle
  generalize hF : @List.foldl (State × EvWork) Nat = F
  split
  rename_i e
  exact (KeepsMode.of_foldl hF e h fun _ _ h => .ite_fst h.cellDrive h).evRun

theorem evLevel (h : KeepsMode r s) {code : Nat} {lv : Bool} : KeepsMode r (s.evLevel code lv) :=
  .ite h (.ite h.setEvf.holdEdge h.setEvf.evRun.evSettle)

theorem evRefresh (h : KeepsMode r s) : KeepsMode r s.evRefresh := by
  unfold State.evRefresh
  generalize hF : @List.foldl (State × EvWork) Nat = F
  extract_lets _
  split
  rename_i e
  exact (KeepsMode.of_foldl hF e h fun _ _ h => h.mainSet).evRun.evSettle

theorem evRestart (h : KeepsMode r s) : KeepsMode r s.evRestart := by
  unfold State.evRestart
  generalize hF : @List.foldl (State × EvWork) Nat = F
  extract_lets _ _ _ s1
  have h1 : KeepsMode r s1 := h.setEvf.setEvf.foldl fun _ _ h => .ite h.cellDrive h
  split
  rename_i e
  have h2 := KeepsMode.of_foldl hF e h1 fun _ _ h => .ite_fst h.mainSet h
  split
  exact (h2.aonUpdate.of_fst ‹_›).evRun.evSettle

theorem padFollow (h : KeepsMode r s) {n : Nat} : KeepsMode r (s.padFollow n) := by
  unfold State.padFollow
  split
  · exact h.evLevel
  · exact h

theorem padsFollow (h : KeepsMode r s) {first count : Nat} : KeepsMode r (s.padsFollow first count) :=
  h.foldl fun _ _ h => h.padFollow

theorem showHeld (h : KeepsMode r s) : KeepsMode r s.showHeld := h.foldl fun _ _ h => h.setRegN lt_entry

/-! ### Captures -/

theorem setCtx (h : KeepsMode r s) {n : Nat} {x : Ctx} : KeepsMode r (s.setCtx n x) := h.other

theorem unserved (h : KeepsMode r s) {b reason : Nat} : KeepsMode r (s.unserved b reason) := by
  refine raise (h.count ?_)
  split
  · exact lt_entry
  · exact lt_entry

theorem abandonCtx (h : KeepsMode r s) {n reason : Nat} : KeepsMode r (s.abandonCtx n reason) :=
  have h1 : KeepsMode r ((s.ctxFree n).dropFrame (s.ctx n).frame) := h.setCtx.other
  unserved (.ite (h1.count lt_entry).raise (h1.count lt_entry))

theorem cutBand (h : KeepsMode r s) {b reason : Nat} : KeepsMode r (s.cutBand b reason) :=
  have h1 := (h.foldl fun _ _ h => h.abandonCtx).foldl fun _ _ h => h.unserved
  .ite h1.other h1.other

theorem settleCtx (h : KeepsMode r s) {span : Bool} {profile : Nat} : KeepsMode r (s.settleCtx span profile) :=
  h.other.foldl fun _ _ h => .ite h (.ite h (.ite h.abandonCtx.setCtx h.setCtx))

theorem runBand (h : KeepsMode r s) {b : Nat} {on : Bool} : KeepsMode r (s.runBand b on) :=
  .ite (.ite h (.ite h.setBit.other h.setBit.other))
    (.ite ((h.cutBand.clearBit.clearBit.lower lt_entry).setFld lt_entry) h)

theorem applyWideIn (h : KeepsMode r s) {span : Bool} {bands profile : Nat} :
    KeepsMode r (s.applyWideIn span bands profile) := by
  unfold State.applyWideIn
  exact h.runBand.runBand.settleCtx

theorem undrainCtx (h : KeepsMode r s) : KeepsMode r s.undrainCtx := h.other.foldl fun _ _ h => .ite h.setCtx h

theorem supplyStopsSwap (h : KeepsMode r s) : KeepsMode r s.supplyStopsSwap := by
  refine .ite (notice (undrainCtx (other (raise h.setFld.setFld ?_)))) h
  split
  · decide
  · decide

/-! ### The radio and its actions -/

theorem setChain (h : KeepsMode r s) {c : Chain} {x : ChainState} : KeepsMode r (s.setChain c x) := by
  cases c
  · exact h.other
  · exact h.other

theorem setChState (h : KeepsMode r s) {c : Chain} {n : Nat} : KeepsMode r (s.setChState c n) :=
  .ite (h.setFld lt_entry) ((h.setFld lt_entry).setFld lt_entry)

theorem loadStore (h : KeepsMode r s) {c : Chain} : KeepsMode r (s.loadStore c) := by
  unfold State.loadStore
  extract_lets _ s1 s2 s3
  have h1 : KeepsMode r s1 := h.foldl fun _ _ h => (h.setFld (lt_entry lt_entry)).setFld (lt_entry lt_entry)
  have h3 : KeepsMode r s3 := ((h1.setFld lt_entry).setFld lt_entry).setFld lt_entry
  exact .ite (h3.setFld lt_entry) h3

theorem chainOn (h : KeepsMode r s) {c : Chain} : KeepsMode r (s.chainOn c) := .ite h.setChState h

theorem chainOff (h : KeepsMode r s) {c : Chain} : KeepsMode r (s.chainOff c) :=
  setChain (((((h.setChState.lower lt_entry).lower lt_entry).lower lt_entry).setFld lt_entry).setFld lt_entry)

theorem lnkCount (h : KeepsMode r s) {k : Nat} : KeepsMode r (s.lnkCount k) := h.count lt_entry

theorem countOutcome (h : KeepsMode r s) {st reason : Nat} : KeepsMode r (s.countOutcome st reason) :=
  .ite h.lnkCount (.ite h.lnkCount (.ite h.lnkCount.raise (.ite h.lnkCount (.ite h.lnkCount.raise h))))

theorem releaseChain (h : KeepsMode r s) {c : Chain} : KeepsMode r (s.releaseChain c) :=
  .ite h.setChain.setChState h.setChain

theorem setSlot (h : KeepsMode r s) {n : Nat} {x : Slot} : KeepsMode r (s.setSlot n x) := h.other

theorem fixOutcome (h : KeepsMode r s) {n : Nat} {st : Status} {reason : Nat} :
    KeepsMode r (s.fixOutcome n st reason) := h.setSlot.countOutcome

theorem cancelChain (h : KeepsMode r s) {fuel n : Nat} : KeepsMode r (s.cancelChain fuel n) := by
  induction fuel generalizing s n with
  | zero => exact h
  | succ fuel ih => exact h.fixOutcome.foldl fun _ _ h => ih h

theorem finishAction (h : KeepsMode r s) {n : Nat} {st : Status} {reason : Nat} :
    KeepsMode r (s.finishAction n st reason) :=
  (h.foldl fun _ _ h => .ite h.releaseChain h).fixOutcome.foldl fun _ _ h => .ite h.cancelChain h.setSlot

theorem modeCancelAll (h : KeepsMode r s) {pick : Nat → Bool} : KeepsMode r (s.modeCancelAll pick) :=
  h.foldl fun _ _ h => finishAction (.ite h.setChain h)

theorem missRadio (h : KeepsMode r s) : KeepsMode r s.missRadio := h.foldl fun _ _ h => h.finishAction

/-! ### Frames of the tenant engine -/

theorem roll (h : KeepsMode r s) : KeepsMode r s.roll.2 := draw (.ite h.other h.count)

theorem composeFrame (h : KeepsMode r s) {peer : Nat} {ie body : List Byte} :
    KeepsMode r (s.composeFrame peer ie body).2 := h.other

theorem postDesc (h : KeepsMode r s) {d : Desc} {reserved jrn : Bool} :
    KeepsMode r (s.postDesc d reserved jrn).2 := by
  unfold State.postDesc
  extract_lets _ _ _
  refine .ite_snd ?_ (.ite_snd (h.countBy lt_entry).raise h)
  split
  rename_i e
  refine countBy (other (of_snd (.ite_snd ?_ h) e)) lt_entry
  split
  exact h.roll.of_snd ‹_›

/-! ### The journal -/

theorem mapFlow (h : KeepsMode r s) {f : Nat} {g : Flow → Flow} : KeepsMode r (s.mapFlow f g) := by
  unfold State.mapFlow
  split
  · exact h.other
  · exact h

theorem jrnCount (h : KeepsMode r s) {k : Nat} : KeepsMode r (s.jrnCount k) := h.count lt_entry

theorem writePage (h : KeepsMode r s) {ckpt : Bool} {recs : List (List Byte)} :
    KeepsMode r (s.writePage ckpt recs) := by
  unfold State.writePage
  extract_lets _ _ _ s1 s2
  have h1 : KeepsMode r s1 := .ite h.touchPlane.setFlash.flcCount h
  have h2 : KeepsMode r s2 := .ite h1.touchPlane.setFlash.flcCount h1
  exact .ite h2.other.setRegN.raise.raise.notice h2.other.setRegN

theorem writePages (h : KeepsMode r s) {ckpt : Bool} {recs : List (List Byte)} :
    KeepsMode r (s.writePages ckpt recs) :=
  h.foldl fun _ _ h => h.writePage

theorem trimMirrors (h : KeepsMode r s) : KeepsMode r s.trimMirrors := .ite h.other h.other

theorem flushMirrors (h : KeepsMode r s) : KeepsMode r s.flushMirrors := .ite h.writePages.trimMirrors h

theorem mapMirrors (h : KeepsMode r s) {f : List (List Byte) → List (List Byte)} : KeepsMode r (s.mapMirrors f) :=
  h.other

theorem writeRecord (h : KeepsMode r s) {b : List Byte} : KeepsMode r (s.writeRecord b) :=
  .ite (mapMirrors (.ite h.other h)) (trimMirrors (writePages (.ite h.mapMirrors h)))

theorem beginAccept (h : KeepsMode r s) {fidx life seq : Nat} {payload : List Byte} {what : CommitFor} :
    KeepsMode r (s.beginAccept fidx life seq payload what) := by
  unfold State.beginAccept
  split
  · exact h
  · exact h.other

theorem composeMsg (h : KeepsMode r s) {f : Flow} {m : Msg} {peer : Nat} : KeepsMode r (s.composeMsg f m peer).2 :=
  .ite_snd h (roll (draw (draw h.composeFrame)))

theorem sendMsg (h : KeepsMode r s) {m : Msg} : KeepsMode r (s.sendMsg m) := by
  unfold State.sendMsg
  split
  · split
    · exact h
    · split
      split
      have h1 := (h.composeMsg.of_snd ‹_›).postDesc.of_snd ‹_›
      exact .ite (other (.ite h1 h1.jrnCount)) h1.other
  · exact h

theorem pumpFlow (h : KeepsMode r s) {f : Nat} : KeepsMode r (s.pumpFlow f) := by
  unfold State.pumpFlow
  split
  · exact .ite h.sendMsg h
  · exact h

theorem of_reportEntry (h : KeepsMode r s) {n : Nat} (e : s.reportEntry = some (n, t)) : KeepsMode r t := by
  unfold State.reportEntry at e
  split at e
  · cases e
    exact h
  · split at e
    · cases e
    · cases e
      exact h.other

theorem report (h : KeepsMode r s) {m : Msg} {st : Status} {confirm : Bool} :
    KeepsMode r (s.report m st confirm) := by
  unfold State.report
  split
  · exact h
  · refine .ite h ?_
    split
    · exact h.jrnCount
    · exact (h.of_reportEntry ‹_›).beginAccept.mapFlow

theorem postCack (h : KeepsMode r s) {g flow epoch seq origin : Nat} {st : Status} :
    KeepsMode r (s.postCack g flow epoch seq origin st) :=
  by
  unfold State.postCack
  extract_lets _
  split
  split
  split
  exact (((h.composeFrame.of_snd ‹_›).draw.of_snd ‹_›).draw.of_snd ‹_›).postDesc

theorem holdMsg (h : KeepsMode r s) {b : List Byte} : KeepsMode r (s.holdMsg b) := mapFlow h.other

theorem dropMsg (h : KeepsMode r s) {j : Nat} : KeepsMode r (s.dropMsg j) := h.other

theorem settled (h : KeepsMode r s) {j : Nat} : KeepsMode r (s.settled j) := by
  unfold State.settled
  split
  · exact h.dropMsg.pumpFlow
  · exact h

theorem flowStat (h : KeepsMode r s) {f : Nat} {st : Status} : KeepsMode r (s.flowStat f st) :=
  .ite h.setRegN h.setRegN.raise

theorem flowDone (h : KeepsMode r s) {code f : Nat} {host : Option Origin} {rest : List Byte} :
    KeepsMode r (s.flowDone code f host rest) := by
  unfold State.flowDone
  extract_lets _
  split
  · exact h.flowStat.respond
  · exact h.flowStat

theorem committed (h : KeepsMode r s) {c : Commit} : KeepsMode r (s.committed c) := by
  unfold State.committed
  extract_lets _ _ s1
  have h1 : KeepsMode r s1 := h.holdMsg.setRegN.jrnCount.raise
  split
  · extract_lets _ s2
    have h2 : KeepsMode r s2 := by
      unfold s2
      split
      · exact h1.setRegN.respond
      · exact h1.setRegN
    exact h2.pumpFlow
  · exact h.holdMsg.pumpFlow
  · extract_lets s2
    have h2 : KeepsMode r s2 := by
      unfold s2
      split
      · exact h.holdMsg.jrnCount.postCack
      · exact h.holdMsg.jrnCount
    exact h2.pumpFlow
  · exact h.jrnCount.settled
  · extract_lets _
    split
    · exact h.dropMsg.jrnCount.setFld.raise.respond
    · exact h.dropMsg.jrnCount.setFld.raise
  · split
    · exact h
    · exact settled (report (.ite h.jrnCount.raise h))
  · exact h.mapFlow.flowDone
  · exact h.mapFlow.flowDone
  · exact h.mapFlow.flowDone
  · split
    · exact h.other.notice.respond
    · exact h.other.notice
  · extract_lets _
    split
    · exact h.other.notice.other.respond
    · exact h.other
  · exact h

theorem commitOne (h : KeepsMode r s) : KeepsMode r s.commitOne := by
  unfold State.commitOne
  split
  · exact h
  · exact .ite h.writeRecord.other.committed h

theorem commitAll (h : KeepsMode r s) {fuel : Nat} : KeepsMode r (s.commitAll fuel) := by
  induction fuel generalizing s with
  | zero => exact h
  | succ fuel ih => exact .ite h (ih h.commitOne)

theorem jrnFlush (h : KeepsMode r s) : KeepsMode r s.jrnFlush := h.commitAll.flushMirrors

theorem replay (h : KeepsMode r s) {b : List Byte} : KeepsMode r (s.replay b) := by
  unfold State.replay
  extract_lets _ _ _ _ _ _ _ _ s1
  have h1 : KeepsMode r s1 := .ite h.other h
  split
  · exact mapFlow (other h.holdMsg)
  · exact h.dropMsg
  · exact h.dropMsg
  · exact h.dropMsg
  · exact h.dropMsg
  · split
    · exact .ite h1.other h1.other
    · exact h1.other
  · split
    · exact .ite h.other h.other
    · exact h
  · exact h.other
  · exact h.other
  · exact h.other
  · exact h

theorem rebuildCopies (h : KeepsMode r s) {recs : List (List Byte)} : KeepsMode r (s.rebuildCopies recs) :=
  h.eraseFlash.eraseFlash.other.writePages

theorem finishRecovery (h : KeepsMode r s) : KeepsMode r s.finishRecovery := by
  unfold State.finishRecovery
  extract_lets _ _ _ _ _ _ _ _ _ _ _ _ _ _ _ _ _ s1 _ _ _ _ s2 _ _ _ s3
  have h1 : KeepsMode r s1 := h.other.setFld.foldl fun _ _ h => h.replay
  clear_value s1
  have h2 : KeepsMode r s2 := .ite h1.other.setRegN.rebuildCopies h1.other.setRegN.writePages
  clear_value s2
  have h3 : KeepsMode r s3 := .ite h2.mapMirrors.lower.other.raise h2.mapMirrors.lower.other
  exact .ite h3.raise h3

theorem journalReturn (h : KeepsMode r s) : KeepsMode r s.journalReturn := by
  have h1 := h.finishRecovery
  unfold State.journalReturn
  generalize s.finishRecovery = u at h1 ⊢
  exact .ite h1.other h

end KeepsMode
end Sys2Proof.Machine
end

section
/-!
A request that waits goes on waiting while domains are switched and modes come into force (R23, R49, R51).
-/

namespace Sys2Proof.Machine

/-- `s` comes from `r` by changes that leave the waiting request alone. -/
structure KeepsWaiting (r s : State) : Prop where
  waiting : s.pw.waiting = r.pw.waiting

theorem KeepsMode.restoreOne {r s : State} (h : KeepsMode r s) {k : Nat} : KeepsMode r (s.restoreOne k) := by
  unfold State.restoreOne
  extract_lets _ _ s1
  have h1 : KeepsMode r s1 := h.foldl fun _ _ h => h.setRegN lt_entry
  exact .ite h1.other.finishAction h1.other

theorem KeepsMode.queueAlarms {r s : State} (h : KeepsMode r s) : KeepsMode r s.queueAlarms :=
  h.other.foldl fun _ _ h => h.notice

namespace KeepsWaiting

variable {r s t : State} {α : Type} {c : Prop} {i : Decidable c}

theorem refl (s : State) : KeepsWaiting s s := ⟨rfl⟩

theorem keepsMode (h : KeepsWaiting r s) (hst : KeepsMode s t) : KeepsWaiting r t := ⟨by rw [hst.pw, h.waiting]⟩

theorem ite (hs : KeepsWaiting r s) (ht : KeepsWaiting r t) : KeepsWaiting r (if c then s else t) := by
  split
  · exact hs
  · exact ht

theorem foldl {f : State → α → State} {l : List α} (h : KeepsWaiting r s)
    (hf : ∀ t a, KeepsWaiting r t → KeepsWaiting r (f t a)) : KeepsWaiting r (l.foldl f s) := by
  induction l generalizing s with
  | nil => exact h
  | cons a l ih => exact ih (hf s a h)

theorem setReg (h : KeepsWaiting r s) {a : Nat} {w : Word} : KeepsWaiting r (s.setReg a w) := ⟨h.waiting⟩

theorem setFld (h : KeepsWaiting r s) {f : Fld} {v : Nat} : KeepsWaiting r (s.setFld f v) := h.setReg

theorem raise (h : KeepsWaiting r s) {f : Fld} : KeepsWaiting r (s.raise f) := h.setReg

theorem lower (h : KeepsWaiting r s) {f : Fld} : KeepsWaiting r (s.lower f) := h.setReg

theorem setBit (h : KeepsWaiting r s) {a n : Nat} : KeepsWaiting r (s.setBit a n) := h.setReg

theorem clearBit (h : KeepsWaiting r s) {a n : Nat} : KeepsWaiting r (s.clearBit a n) := h.setReg

/-! ### Domains -/

theorem restoreHeld (h : KeepsWaiting r s) : KeepsWaiting r s.restoreHeld := by
  unfold State.restoreHeld
  refine .ite ?_ h
  extract_lets _ u
  have hu : KeepsWaiting r u := h.foldl fun t _ h => h.keepsMode (KeepsMode.refl t).restoreOne
  clear_value u
  exact ⟨hu.waiting⟩

theorem comPowerUp (h : KeepsWaiting r s) : KeepsWaiting r s.comPowerUp := by
  have hcom : KeepsMode s ((((s.loadStore .s).loadStore .t).setFld F.rngStatState 1).evRestart.journalReturn) :=
    (KeepsMode.refl s).loadStore.loadStore.setFld.evRestart.journalReturn
  have hheld := (h.keepsMode hcom).restoreHeld
  unfold State.comPowerUp
  extract_lets _ u v
  have hu : KeepsWaiting r u := hheld
  clear_value u
  have hv : KeepsWaiting r v := .ite (hu.keepsMode (KeepsMode.refl u).queueAlarms) hu
  exact .ite ⟨hv.waiting⟩ hv

theorem switchOn (h : KeepsWaiting r s) {d : Domain} : KeepsWaiting r (s.switchOn d) := by
  unfold State.switchOn
  refine .ite h ?_
  extract_lets u
  have hu : KeepsWaiting r u := h.setBit
  clear_value u
  split
  · exact hu.comPowerUp
  · exact hu.keepsMode (KeepsMode.refl u).chainOn
  · exact hu.keepsMode (KeepsMode.refl u).chainOn
  · exact hu

theorem loseDomain (h : KeepsWaiting r s) {d : Domain} : KeepsWaiting r (s.loseDomain d) := by
  unfold State.loseDomain
  split
  · exact h
  · exact ⟨h.waiting⟩
  · exact ⟨h.waiting⟩
  · exact ⟨h.waiting⟩
  · exact ⟨h.waiting⟩
  · exact ⟨h.waiting⟩
  · exact ⟨h.waiting⟩
  · exact h.keepsMode (KeepsMode.refl s).chainOff
  · exact h.keepsMode (KeepsMode.refl s).chainOff
  · exact h
  · exact ⟨h.waiting⟩

theorem switchOff (h : KeepsWaiting r s) {d : Domain} :
    KeepsWaiting r (s.switchOff d) :=
  .ite h.loseDomain.clearBit h

theorem powerUpFor (h : KeepsWaiting r s) {mode profile : Nat} : KeepsWaiting r (s.powerUpFor mode profile) :=
  h.foldl fun _ _ h => .ite h.switchOn h

theorem powerDownFor (h : KeepsWaiting r s) {mode profile : Nat} : KeepsWaiting r (s.powerDownFor mode profile) :=
  h.foldl fun _ _ h => .ite h h.switchOff

theorem xrefStart (h : KeepsWaiting r s) : KeepsWaiting r s.xrefStart := .ite h ⟨h.waiting⟩

/-! ### Modes -/

theorem setPoints (h : KeepsWaiting r s) {mode profile : Nat} : KeepsWaiting r (s.setPoints mode profile) :=
  .ite h.setFld.setFld.raise.setFld.setFld.raise.raise.lower.raise
    h.setFld.setFld.raise.setFld.setFld.raise.lower.raise.lower

theorem wakeReady (h : KeepsWaiting r s) : KeepsWaiting r s.wakeReady :=
  raise (raise (raise (raise (.ite h h.raise))))

theorem restartCore0 (h : KeepsWaiting r s) : KeepsWaiting r s.restartCore0 := .ite ⟨h.waiting⟩ h

theorem enterMode (h : KeepsWaiting r s) {q : ModeReq} {result : Status} :
    KeepsWaiting r (s.enterMode q result) := by
  unfold State.enterMode
  extract_lets _ _ u1 u2 u3 u4 u5 u6 u7 u8 u9
  have h2 : KeepsWaiting r u2 := .ite h.powerDownFor h.powerDownFor.setPoints
  clear_value u2
  have h5 : KeepsWaiting r u5 := h2.setFld.setFld.setFld.setFld.lower.setFld.setFld.setFld.setFld
  clear_value u5
  have h6 : KeepsMode u5 u6 := (KeepsMode.refl u5).applyWideIn
  have h7 : KeepsMode u5 u7 := .ite h6.missRadio h6
  have h9 : KeepsMode u5 u9 := h7.notice.irqPulse
  clear_value u9
  exact ⟨(h5.keepsMode h9).waiting⟩

end KeepsWaiting
end Sys2Proof.Machine
end

section
/-!
Mode requests (R43-R49): what the checks let through starts a transition, what they answer
themselves changes RESULT alone.
-/

namespace Sys2Proof.Machine

theorem status_code_lt (st : Status) : st.code < 2 ^ 16 := by cases st <;> decide

/-! ## A register write beside its register -/

theorem writeReg_cases (s : State) (a : Nat) (w : Word) :
    s.writeReg a w = s ∨ ∃ n, s.writeReg a w = s.setRegN a n := by
  unfold State.writeReg
  split
  · exact .inl rfl
  · exact .inr ⟨_, rfl⟩

@[simp] theorem writeReg_pw (s : State) (a : Nat) (w : Word) : (s.writeReg a w).pw = s.pw := by
  obtain h | ⟨n, h⟩ := writeReg_cases s a w
  · rw [h]
  · rw [h, State.setRegN, State.setReg_pw]

@[simp] theorem writeReg_tick (s : State) (a : Nat) (w : Word) : (s.writeReg a w).tick = s.tick := by
  obtain h | ⟨n, h⟩ := writeReg_cases s a w
  · rw [h]
  · rw [h, State.setRegN, State.setReg_tick]

theorem byte_writeReg (s : State) (a : Nat) (w : Word) (b : Nat) : (s.writeReg a w).byte b = s.byte b := by
  obtain h | ⟨n, h⟩ := writeReg_cases s a w
  · rw [h]
  · rw [h, State.setRegN, State.byte_setReg]

theorem reg_writeReg_ne (s : State) {a b : Nat} (w : Word) (hb : b ≠ a) : (s.writeReg a w).reg b = s.reg b := by
  obtain h | ⟨n, h⟩ := writeReg_cases s a w
  · rw [h]
  · rw [h, State.reg_setRegN_ne s n hb]

/-! ## Submitting a request -/

/-- A profile that its mode does not have is refused before anything else is looked at (R48). -/
theorem checkMode_of_illegal {s : State} {r : ModeReq} (h : profileLegal r.mode r.profile = false) :
    s.checkMode r = some .reservedValue := by
  simp [State.checkMode, h]

/-- The time of a request is none of the checks' business. -/
theorem checkMode_at (s : State) (r : ModeReq) (n : Nat) : s.checkMode { r with at_ := n } = s.checkMode r := rfl

theorem submitMode_of_answered {s : State} {r : ModeReq} {st : Status} (h : s.checkMode r = some st) :
    s.submitMode r = (st, s.setModeResult st) := by
  simp only [State.submitMode, checkMode_at, h]

theorem submitMode_of_passed {s : State} {r : ModeReq} (h : s.checkMode r = none) (ht : s.pw.trans = none)
    (hs : s.swapHoldsMode = false) : ∃ u, s.submitMode r = (.pending, u)
      ∧ ∃ ph, u.pw.trans = some { req := { r with at_ := s.tick }, phase := ph } := by
  refine ⟨s.startTransition { r with at_ := s.tick }, ?_, _, rfl⟩
  simp only [State.submitMode, checkMode_at, h]
  simp [ht, hs]

theorem fld_result_setModeResult (s : State) (st : Status) :
    (s.setModeResult st).fld F.pmuModestatResult = st.code := by
  unfold State.setModeResult
  rw [State.fld_setFld_self s _ _ (by decide)]
  exact Nat.mod_eq_of_lt (status_code_lt st)

theorem exec_modeRequest (s : State) (core : Nat) (w : Word) :
    exec (.modeRequest core false w) s
      = .next ((s.writeReg A.pmuModereq w).submitMode (modeReqOf w.toNat (coreSource core))).2 := by
  change guarded false s (s.writeModereq core w) = _
  simp only [guarded, Bool.false_eq_true, if_false, State.writeModereq]

/-- A request by register that the checks answer leaves its own register and RESULT (R44, R48). -/
theorem completes_modeRequest_answered {s : State} {core : Nat} {w : Word} {st : Status}
    (h : (s.writeReg A.pmuModereq w).checkMode (modeReqOf w.toNat (coreSource core)) = some st) :
    Completes (.modeRequest core false w) s fun t =>
      t.fld F.pmuModestatResult = st.code ∧ t.pw = s.pw ∧ s.sameRegsBut t [A.pmuModereq, A.pmuModestat]
      ∧ s.sameMemory t := by
  have hpw := writeReg_pw s A.pmuModereq w
  have hreg := fun b => reg_writeReg_ne s (a := A.pmuModereq) (b := b) w
  have hbyte := byte_writeReg s A.pmuModereq w
  refine ⟨_, exec_modeRequest s core w, ?_⟩
  generalize s.writeReg A.pmuModereq w = u at *
  rw [submitMode_of_answered h]
  refine ⟨fld_result_setModeResult u st, (State.setReg_pw u _ _).trans hpw, fun a ha => ?_,
    fun a => (State.byte_setReg u _ _ a).trans (hbyte a)⟩
  simp only [List.mem_cons, List.not_mem_nil, or_false, not_or] at ha
  obtain ⟨hreq, hstat⟩ := ha
  exact (State.reg_setRegN_ne u _ hstat).trans (hreg a hreq)

/-! ## Requests of the host -/

theorem KeepsMode.taking {r s : State} (h : KeepsMode r s) {o : Origin} :
    KeepsMode r (s.taking o) :=
  h.other.count.other

theorem byte_respond (s : State) (o : Origin) (code : Nat) (st : Status) (rest : List Byte) (a : Nat) :
    (s.respond o code st rest).byte a = s.byte a := by
  unfold State.respond State.answer State.send
  extract_lets c u
  have hu : u.byte a = s.byte a := by
    unfold u
    split
    · rfl
    · rfl
  split
  · exact hu
  · exact hu

theorem exec_modeSet {s u : State} {o : Origin} {p : List Byte} {st : Status} (h : s.takes o 0x12 p)
    (hl : p.length = 4) (hz : byteAt p 3 = 0)
    (hx : (s.taking o).submitMode { mode := byteAt p 0, profile := byteAt p 1, bands := byteAt p 2, source := 4 }
      = (st, u)) : exec (.modeSet o p) s = .next (u.respond o 0x12 st u.modeStatBytes) := by
  change Host.Outcome.next (hostCommand 0x12 (· == 4) handleModeSet o p s) = _
  rw [hostCommand_takes h (by simp [hl])]
  simp [handleModeSet, hz, hx]

theorem exec_modeGet {s : State} {o : Origin} (h : s.takes o 0x13 []) :
    exec (.modeGet o []) s = .next ((s.taking o).respond o 0x13 .ok (s.taking o).modeStatBytes) :=
  congrArg Host.Outcome.next (hostCommand_takes h rfl)

/-- Settles O5: the checks answer a request or let it through, and one let through starts its transition. -/
theorem modeRequestStartsTransition : Obligations.ModeRequestStartsTransition := by
  unfold Obligations.ModeRequestStartsTransition
  intro s
  refine ⟨fun core w => ⟨fun hc ht hs => ?started, fun hp => ?illegal, fun hc => ?inForce⟩,
    fun o p hp hl hz hc ht hs => ?byHost, fun o hg => ?modeGet⟩
  case started =>
    rw [checkMode_at] at hc
    obtain ⟨u, hx, ph, hph⟩ := submitMode_of_passed hc (by rw [writeReg_pw, ht]) hs
    rw [writeReg_tick] at hph
    exact ⟨u, by rw [exec_modeRequest, hx], ph, hph⟩
  case illegal => exact completes_modeRequest_answered (checkMode_of_illegal hp)
  case inForce => exact completes_modeRequest_answered hc
  case byHost =>
    obtain ⟨u, hx, ph, hph⟩ := submitMode_of_passed
      ((checkMode_at _ ⟨byteAt p 0, byteAt p 1, byteAt p 2, 4, 0⟩ s.tick).symm.trans hc) ht hs
    have hk : KeepsMode u (u.respond o 0x12 .pending u.modeStatBytes) := (KeepsMode.refl u).respond
    have hb : leBytes 4 ((u.respond o 0x12 .pending u.modeStatBytes).regN A.pmuModestat) = u.modeStatBytes :=
      congrArg (fun w : Word => leBytes 4 w.toNat) hk.modestat
    refine ⟨_, exec_modeSet hp hl hz hx, ⟨ph, (congrArg PowerState.trans hk.pw).trans hph⟩, ?_⟩
    rw [hb]
    exact State.responded_respond ..
  case modeGet =>
    have hk : KeepsMode s ((s.taking o).respond o 0x13 .ok (s.taking o).modeStatBytes) :=
      (KeepsMode.refl s).taking.respond
    refine ⟨_, exec_modeGet hg, ?_, hk.pw, byte_respond (s.taking o) o 0x13 .ok _⟩
    have hb : (s.taking o).modeStatBytes = leBytes 4 (s.regN A.pmuModestat) :=
      congrArg (fun w : Word => leBytes 4 w.toNat) (KeepsMode.refl s).taking.modestat
    rw [← hb]
    exact State.responded_respond ..

end Sys2Proof.Machine
end

section
/-!
Sleep: W-SLEEP and its wake times, the wake interval of firmware, the pad latch of a DORMANT entry and its release (R37,
R46, R53, R110-R112, R128).
-/

namespace Sys2Proof.Machine

/-! ## Fields that lie apart, and changes beside the registers -/

theorem fld_setFld_apart (s : State) {f g : Fld} (v : Nat) (ha : g.addr = f.addr) (hf : f.lsb + f.width ≤ 32)
    (h : f.lsb + f.width ≤ g.lsb ∨ g.lsb + g.width ≤ f.lsb) : (s.setFld f v).fld g = s.fld g :=
  h.elim (State.fld_setFld_above s v ha hf) (State.fld_setFld_below s v ha hf)

theorem flag_setFld_apart (s : State) {f g : Fld} (v : Nat) (ha : g.addr = f.addr) (hf : f.lsb + f.width ≤ 32)
    (h : f.lsb + f.width ≤ g.lsb ∨ g.lsb + g.width ≤ f.lsb) : (s.setFld f v).flag g = s.flag g := by
  unfold State.flag
  rw [fld_setFld_apart s v ha hf h]

theorem flag_setPw (s : State) (pw : PowerState) (f : Fld) : ({ s with pw := pw } : State).flag f = s.flag f := rfl

theorem KeepsMode.fld {s t : State} (h : KeepsMode s t) {f : Fld} (hf : f.addr = A.pmuModestat) :
    t.fld f = s.fld f := by
  unfold State.fld State.regN
  rw [hf, h.modestat]

/-! ## W-SLEEP (R37) -/

theorem exec_wSleepEntry {s : State} (h : s.maySleep = true) :
    ∃ u : State, exec .wSleepEntry s
      = .next { u.raise F.pmuDomstatRet with pw := { u.pw with wSleep := true, ownWake := s.sleepUntil } } :=
  ⟨_, congrArg Host.Outcome.next (if_pos h)⟩

theorem wakeWatch_of_asleep {s : State} (h : s.pw.wSleep = true) :
    ∃ u : State, s.wakeWatch = { u with pw := { u.pw with wSleep := false, ownWake := none } } := ⟨_, if_pos h⟩

theorem exec_modeWakeTime {s : State} {n : Nat} (h : s.pw.wSleep = true) (hn : s.pw.ownWake = some n) :
    exec .modeWakeTime s = .next s.wakeWatch := congrArg Host.Outcome.next (if_pos (by simp [h, hn]))

/-! ## Wake sources (R46, R53) -/

theorem exec_wakeSource {s : State} {src : Nat} (hl : 16 ≤ src) (hu : src ≤ 20) :
    exec (.wakeSource src) s = .next (s.wake src) := congrArg Host.Outcome.next (if_pos (by simp [hl, hu]))

theorem wake_of_watch {s : State} {src : Nat} (hb : s.pw.boot = .run) (ht : s.pw.trans = none)
    (hd : s.dormant = false) : s.wake src = s.wakeWatch := by
  simp [State.wake, hb, ht, hd]

theorem wake_of_quiesce {s : State} {src : Nat} {x : Transition} (hb : s.pw.boot = .run) (hx : s.pw.trans = some x)
    (hm : x.req.mode = 0) (hq : x.phase = .quiesce) : s.wake src = s.abandonEntry := by
  simp [State.wake, hb, hx, hm, hq]

theorem startWaiting_of_none {s : State} (h : s.pw.waiting = none) : s.startWaiting = s := by
  simp [State.startWaiting, h]

/-- What an abandoned entry writes, over a state in which it is over. -/
theorem abandonEntry_eq (s : State) : ∃ u : State, u.pw.trans = none ∧ u.pw.waiting = s.pw.waiting ∧ s.abandonEntry
    = (((u.lower F.pmuModestatBusy).setFld F.pmuModestatTarget u.mode).setModeResult
        .busy).undrainCtx.startWaiting := by
  unfold State.abandonEntry
  extract_lets _ b _ u
  have hb : b.pw.waiting = s.pw.waiting := by
    unfold b
    split
    · split
      · rfl
      · rfl
    · rfl
  clear_value b
  exact ⟨u, rfl, hb, rfl⟩

/-- An abandoned entry is over, and its request has ended with BUSY (R53). -/
theorem abandonEntry_ends {s : State} (hw : s.pw.waiting = none) :
    s.abandonEntry.pw.trans = none ∧ s.abandonEntry.fld F.pmuModestatResult = Status.busy.code
    ∧ s.abandonEntry.flag F.pmuModestatBusy = false := by
  obtain ⟨u, htrans, hwait, heq⟩ := abandonEntry_eq s
  let v := ((u.lower F.pmuModestatBusy).setFld F.pmuModestatTarget u.mode).setModeResult .busy
  have hv : KeepsMode v v.undrainCtx := (KeepsMode.refl v).undrainCtx
  have hpw : v.undrainCtx.pw = u.pw := by
    rw [hv.pw]
    unfold v State.setModeResult
    rw [State.setFld_pw, State.setFld_pw, State.lower_pw]
  have hbusy : v.fld F.pmuModestatBusy = 0 := by
    unfold v State.setModeResult
    rw [fld_setFld_apart _ _ (by decide) (by decide) (by decide),
      fld_setFld_apart _ _ (by decide) (by decide) (by decide)]
    exact State.fld_setFld_self u _ 0 (by decide)
  rw [heq, startWaiting_of_none (by rw [hpw, hwait, hw])]
  refine ⟨by rw [hpw, htrans], (hv.fld rfl).trans (fld_result_setModeResult _ .busy), ?_⟩
  rw [State.flag, hv.fld rfl, hbusy]
  rfl

/-! ## The wake interval (R128) -/

theorem exec_waketmrFire {s : State} (h : s.regN A.pmuWaketmr ≠ 0) :
    ∃ u : State, exec .waketmrFire s
      = .next (((u.setRegN A.pmuWaketmr 0).setRegN A.pmuWakecnt 0).raise F.pmuIntstatWaketmr) :=
  ⟨_, congrArg Host.Outcome.next (if_neg h)⟩

/-! ## The pad latch (R53, R110-R112) -/

theorem goDormant_eq (s : State) : ∃ u : State, s.goDormant =
    { ((((u.raise F.pmuStatAonlp).xrefStop.lower F.pmuStatRegrdy).lower F.pmuStatOscrdy).lower F.pmuStatMemrdy).lower
        F.pmuStatLogrdy with pw := { u.xrefStop.pw with clusterWaking := [] } } := ⟨_, rfl⟩

theorem flag_regrdy_goDormant (s : State) : s.goDormant.flag F.pmuStatRegrdy = false := by
  obtain ⟨u, h⟩ := goDormant_eq s
  rw [h, flag_setPw]
  unfold State.lower
  rw [flag_setFld_apart _ _ (by decide) (by decide) (by decide),
    flag_setFld_apart _ _ (by decide) (by decide) (by decide),
    flag_setFld_apart _ _ (by decide) (by decide) (by decide)]
  exact State.flag_lower_self _ _ (by decide)

theorem flag_aonlp_goDormant (s : State) : s.goDormant.flag F.pmuStatAonlp = true := by
  obtain ⟨u, h⟩ := goDormant_eq s
  rw [h, flag_setPw]
  unfold State.lower State.xrefStop
  rw [flag_setFld_apart _ _ (by decide) (by decide) (by decide),
    flag_setFld_apart _ _ (by decide) (by decide) (by decide),
    flag_setFld_apart _ _ (by decide) (by decide) (by decide),
    flag_setFld_apart _ _ (by decide) (by decide) (by decide), flag_setPw, State.lower,
    flag_setFld_apart _ _ (by decide) (by decide) (by decide)]
  exact State.flag_raise_self u _ (by decide) (by decide)

theorem clusterWaking_goDormant (s : State) : s.goDormant.pw.clusterWaking = [] := rfl

theorem exec_padLatch_committed {s : State} {x : Transition} (hx : s.pw.trans = some x) (hm : x.req.mode = 0)
    (hq : x.phase = .quiesce) (ha : s.onAir = false) (hw : s.hsl.wake = false) :
    ∃ u : State, exec .padLatch s
      = .next { u.goDormant with pw := { u.goDormant.pw with trans := some { x with phase := .latched } } } := by
  refine ⟨s.jrnFlush, ?_⟩
  change execPadLatch s = _
  simp [execPadLatch, hx, hm, hq, ha, hw]

theorem exec_padLatch_abandoned {s : State} {x : Transition} (hx : s.pw.trans = some x) (hm : x.req.mode = 0)
    (hq : x.phase = .quiesce) (ha : s.onAir = false) (hw : s.hsl.wake = true) :
    exec .padLatch s = .next s.abandonEntry := by
  change execPadLatch s = _
  simp [execPadLatch, hx, hm, hq, ha, hw]

/-- The latch opens on every pad (R111, R112). -/
theorem held_openLatch (s : State) : s.openLatch.pw.held = [] := by
  unfold State.openLatch
  split
  case isTrue hnone => simpa using hnone
  case isFalse =>
    have hopen : ∀ t, KeepsMode { s with pw := { s.pw with held := [] } } t → t.pw.held = [] :=
      fun t h => by rw [h.pw]
    exact hopen _ ((KeepsMode.refl _).showHeld.evRefresh.padsFollow.foldl fun _ _ h => .ite h h.irqSample)

theorem exec_padHoldRelease {s : State} {w : Word} (hw : bitAt w.toNat 0 = true) (hc : s.comUp = true) :
    exec (.padHoldRelease false w) s = .next s.openLatch := by
  change guarded false s (s.writeHold w) = _
  simp [guarded, State.writeHold, hw, hc]

/-! ## The events -/

theorem sameRegsBut_waketmr (s : State) (w : Word) :
    s.sameRegsBut ((s.setReg A.pmuWaketmr w).setReg A.pmuWakecnt w) [A.pmuWaketmr, A.pmuWakecnt] := by
  intro a ha
  simp only [List.mem_cons, List.not_mem_nil, or_false, not_or] at ha
  obtain ⟨htmr, hcnt⟩ := ha
  rw [State.reg_setReg_ne _ w hcnt, State.reg_setReg_ne s w htmr]

/-- Settles O7: sleep and its ends are the mode controller's, an entry not yet latched is abandoned, and the interval
that fires is spent. -/
theorem watchSleepsAndWakes : Obligations.WatchSleepsAndWakes := by
  unfold Obligations.WatchSleepsAndWakes
  intro s
  refine ⟨fun hs => ?entry, fun n hs hn => ?ownTime, fun src hl hu hb ht hd hs => ?source,
    fun src x hl hu hb hx hm hq hw => ?abandoned, fun w => ?arm, fun hn => ?fire⟩
  case entry =>
    obtain ⟨u, h⟩ := exec_wSleepEntry hs
    exact ⟨_, h, rfl, rfl, (flag_setPw _ _ _).trans (State.flag_raise_self u _ (by decide) (by decide))⟩
  case ownTime =>
    obtain ⟨u, h⟩ := wakeWatch_of_asleep hs
    exact ⟨_, (exec_modeWakeTime hs hn).trans (by rw [h]), rfl, rfl⟩
  case source =>
    obtain ⟨u, h⟩ := wakeWatch_of_asleep hs
    exact ⟨_, (exec_wakeSource hl hu).trans (by rw [wake_of_watch hb ht hd, h]), rfl⟩
  case abandoned =>
    exact ⟨_, (exec_wakeSource hl hu).trans (by rw [wake_of_quiesce hb hx hm hq]), abandonEntry_ends hw⟩
  case arm =>
    refine ⟨_, rfl, ?_, State.reg_setReg_self _ _ w, sameRegsBut_waketmr s w, fun _ => rfl, rfl⟩
    exact (State.reg_setReg_ne _ w (by decide)).trans (State.reg_setReg_self s _ w)
  case fire =>
    obtain ⟨u, h⟩ := exec_waketmrFire hn
    refine ⟨_, h, State.flag_raise_self _ _ (by decide) (by decide), ?_, ?_⟩
    · unfold State.raise State.setFld
      rw [State.regN_setRegN_ne _ _ (by decide), State.regN_setRegN_ne _ _ (by decide), State.regN_setRegN_self,
        Nat.zero_mod]
    · unfold State.raise State.setFld
      rw [State.regN_setRegN_ne _ _ (by decide), State.regN_setRegN_self, Nat.zero_mod]

/-- Settles O8: the latch commits the entry after the order of R110 has been run, or abandons it. -/
theorem padLatchCommitsDormantEntry : Obligations.PadLatchCommitsDormantEntry := by
  unfold Obligations.PadLatchCommitsDormantEntry
  intro s
  refine ⟨fun x hx hm hq ha => ⟨fun hw => ?committed, fun hw hwait => ?abandoned⟩, fun w hw hc => ?released⟩
  case committed =>
    obtain ⟨u, h⟩ := exec_padLatch_committed hx hm hq ha hw
    exact ⟨_, h, rfl, (flag_setPw _ _ _).trans (flag_regrdy_goDormant u),
      (flag_setPw _ _ _).trans (flag_aonlp_goDormant u), clusterWaking_goDormant u⟩
  case abandoned =>
    obtain ⟨htrans, hresult, -⟩ := abandonEntry_ends hwait
    exact ⟨_, exec_padLatch_abandoned hx hm hq ha hw, htrans, hresult⟩
  case released => exact ⟨_, exec_padHoldRelease hw hc, held_openLatch s⟩

end Sys2Proof.Machine
end

section
/-!
Supply failure and LASTGASP (R50, R55-R57, R105).
-/

namespace Sys2Proof.Machine

/-! ## The mode in force over a supply failure -/

/-- MODE, PROFILE and BANDS read as before. -/
structure State.SameModeInForce (s t : State) : Prop where
  mode : t.mode = s.mode
  profile : t.profile = s.profile
  bands : t.fld F.pmuModestatBands = s.fld F.pmuModestatBands

theorem KeepsMode.sameModeInForce {s t : State} (h : KeepsMode s t) :
    s.SameModeInForce t :=
  ⟨h.fld rfl, h.fld rfl, h.fld rfl⟩

theorem State.SameModeInForce.trans {s t u : State} (hst : s.SameModeInForce t) (htu : t.SameModeInForce u) :
    s.SameModeInForce u :=
  ⟨htu.mode.trans hst.mode, htu.profile.trans hst.profile, htu.bands.trans hst.bands⟩

theorem sameModeInForce_raise_pfail (s : State) : s.SameModeInForce (s.raise F.pmuModestatPfail) where
  mode := fld_setFld_apart s 1 rfl (by decide) (by decide)
  profile := fld_setFld_apart s 1 rfl (by decide) (by decide)
  bands := fld_setFld_apart s 1 rfl (by decide) (by decide)

theorem sameModeInForce_setModeResult (s : State) (st : Status) : s.SameModeInForce (s.setModeResult st) where
  mode := fld_setFld_apart s st.code rfl (by decide) (by decide)
  profile := fld_setFld_apart s st.code rfl (by decide) (by decide)
  bands := fld_setFld_apart s st.code rfl (by decide) (by decide)

theorem sameModeInForce_setPw (s : State) (pw : PowerState) :
    s.SameModeInForce { s with pw :=
  pw } := ⟨rfl, rfl, rfl⟩

theorem State.SameModeInForce.ite {s t u : State} {c : Prop} {i : Decidable c} (ht : s.SameModeInForce t)
    (hu : s.SameModeInForce u) : s.SameModeInForce (if c then t else u) := by
  split
  · exact ht
  · exact hu

theorem sameModeInForce_setFld_ne (s : State) {f : Fld} (v : Nat) (hf : A.pmuModestat ≠ f.addr) :
    s.SameModeInForce (s.setFld f v) :=
  ⟨State.fld_setFld_ne s v hf, State.fld_setFld_ne s v hf, State.fld_setFld_ne s v hf⟩

/-! ## Entering LASTGASP (R50, R56) -/

/-- The mode that LASTGASP notes as the one to restore (R57). -/
def State.modeToRestore (s : State) : ModeReq :=
  { mode := s.mode, profile := s.profile, bands := s.fld F.pmuModestatBands, source := 2 }

theorem State.SameModeInForce.modeToRestore {s t : State} (h : s.SameModeInForce t) :
    t.modeToRestore = s.modeToRestore := by
  unfold State.modeToRestore
  rw [h.mode, h.profile, h.bands]

/-- LASTGASP begins with its flush; no transition runs, and what waited still waits. -/
structure State.InFlush (s t : State) : Prop where
  lg : t.pw.lg = .flush
  trans : t.pw.trans = none
  waiting : t.pw.waiting = s.pw.waiting
  formerMode : t.pw.formerMode = some s.modeToRestore

theorem trans_enterMode (s : State) (r : ModeReq) (result : Status) : (s.enterMode r result).pw.trans = none := rfl

theorem inFlush_of_entered {s e : State} (htrans : e.pw.trans = none) (hwait : e.pw.waiting = s.pw.waiting) :
    s.InFlush { e with pw := { e.pw with formerMode := some s.modeToRestore, lg := .flush } } :=
  ⟨rfl, htrans, hwait, rfl⟩

theorem inFlush_enterLastgasp (s : State) : s.InFlush s.enterLastgasp := by
  unfold State.enterLastgasp
  extract_lets former p _ a b c d e
  have ha : KeepsWaiting s a := .ite ((KeepsWaiting.refl s).keepsMode (KeepsMode.refl s).evRefresh) (.refl s)
  clear_value a
  have hb : KeepsWaiting s b := ha.wakeReady.lower.powerUpFor.xrefStart
  clear_value b
  have hc : KeepsWaiting s c := .ite hb.restartCore0 hb
  clear_value c
  have he : KeepsWaiting s e := (hc.keepsMode (KeepsMode.refl c).modeCancelAll.flashLastgasp).enterMode
  have htrans : e.pw.trans = none := trans_enterMode _ _ _
  exact inFlush_of_entered htrans he.waiting

/-- What a trip ends before LASTGASP is entered: the running transition's request and the waiting one (R50). -/
def State.requestsEnded (s : State) : State :=
  let t := if s.pw.trans.isSome then (s.setModeResult .brownout).undrainCtx else s
  let u := if t.pw.waiting.isSome then t.setModeResult .cancelled else t
  { u with pw := { u.pw with trans := none, waiting := none } }

theorem waiting_requestsEnded (s : State) : s.requestsEnded.pw.waiting = none := rfl

theorem sameModeInForce_requestsEnded (s : State) : s.SameModeInForce s.requestsEnded := by
  have brownout : s.SameModeInForce (s.setModeResult .brownout).undrainCtx :=
    (sameModeInForce_setModeResult s .brownout).trans (KeepsMode.refl _).undrainCtx.sameModeInForce
  unfold State.requestsEnded
  extract_lets t u
  have running : s.SameModeInForce t := .ite brownout (KeepsMode.refl s).sameModeInForce
  have waiting : s.SameModeInForce u := .ite (running.trans (sameModeInForce_setModeResult _ .cancelled)) running
  exact waiting.trans (sameModeInForce_setPw _ _)

/-- In service and outside LASTGASP a trip ends the requests and the swap, and enters LASTGASP (R50, R90). -/
theorem supplyTrip_of_run {s : State} (hb : s.pw.boot = .run) (hm : s.mode ≠ 5) :
    s.supplyTrip = (s.requestsEnded.lower F.pmuDomstatRet).supplyStopsSwap.enterLastgasp := by
  have hm' : (s.mode == 5) = false := by simpa using hm
  unfold State.supplyTrip
  simp only [hb, hm', Bool.false_and, Bool.false_eq_true, if_false, Option.isSome_none]
  rfl

theorem inFlush_supplyTrip {s : State} (hb : s.pw.boot = .run) (hm : s.mode ≠ 5) :
    let t := s.supplyTrip
    t.pw.lg = .flush ∧ t.pw.trans = none ∧ t.pw.waiting = none ∧ t.pw.formerMode = some s.modeToRestore := by
  let u := s.requestsEnded.lower F.pmuDomstatRet
  have hstop : KeepsMode u u.supplyStopsSwap := (KeepsMode.refl u).supplyStopsSwap
  have hwait : u.supplyStopsSwap.pw.waiting = none := by
    rw [hstop.pw]
    exact waiting_requestsEnded s
  have hmode : s.SameModeInForce u.supplyStopsSwap :=
    ((sameModeInForce_requestsEnded s).trans (sameModeInForce_setFld_ne _ 0 (by decide))).trans hstop.sameModeInForce
  obtain ⟨hlg, htrans, hwaits, hformer⟩ := inFlush_enterLastgasp u.supplyStopsSwap
  rw [supplyTrip_of_run hb hm]
  exact ⟨hlg, htrans, hwaits.trans hwait, hformer.trans (congrArg some hmode.modeToRestore)⟩

/-! ## The events -/

theorem exec_supplyFailure {s : State} (hp : s.flag F.pmuModestatPfail = false) (hb : s.pw.boot = .run)
    (hh : s.jrn.holding = false) :
    exec .supplyFailure s
      = .next (((s.raise F.pmuModestatPfail).raise F.pmuIntstatPfail).evLevel 0x1C4 true).supplyTrip := by
  have hev := ((KeepsMode.refl ((s.raise F.pmuModestatPfail).raise F.pmuIntstatPfail)).evLevel (code := 0x1C4)
    (lv := true)).holding
  change execSupplyFailure s = _
  simp [execSupplyFailure, hp, hb, hev, hh]

theorem exec_supplyClear {s : State} (hp : s.flag F.pmuModestatPfail = true) :
    exec .supplyClear s
      = .next (((s.evLevel 0x1C4 false).lower F.pmuModestatPfail).raise F.pmuIntstatPfrestore) :=
  congrArg Host.Outcome.next (if_pos hp)

theorem exec_supplyRestored {s : State} {r : ModeReq} (hp : s.flag F.pmuModestatPfail = false) (hb : s.pw.boot = .run)
    (hr : s.pw.formerMode = some r) (hl : s.pw.lg = .alarms) (hs : (s.cancelAlarms.submitMode r).1 = .pending) :
    ∃ u : State, exec .supplyRestored s = .next { u with pw := { u.pw with lg := .none, formerMode := none } } := by
  refine ⟨(s.cancelAlarms.submitMode r).2, ?_⟩
  change execSupplyRestored s = _
  simp [execSupplyRestored, hp, hb, hr, hl, hs]

theorem exec_lastgaspFlushDone {s : State} (hm : s.mode = 5) (hl : s.pw.lg = .flush) (hh : s.sec.haltWait = false) :
    ∃ u : State, exec .lastgaspFlushDone s = .next { u with pw := { u.pw with lg := .alarms } } := by
  refine ⟨s.jrnFlush.releaseAlarms, ?_⟩
  change execLastgaspFlushDone s = _
  simp [execLastgaspFlushDone, hm, hl, (KeepsMode.refl s).jrnFlush.haltWait, hh]

theorem exec_lastgaspEnd {s : State} (hm : s.mode = 5) (hl : s.pw.lg = .alarms) (ha : s.alarmsLeft = false)
    (he : s.flag F.pmuModecfgLgend = true) :
    exec .lastgaspEnd s = .next { s with pw := { s.pw with lg := .none, formerMode := none, boot := .off } } := by
  change execLastgaspEnd s = _
  simp [execLastgaspEnd, hm, hl, ha, State.endLastgasp, flag_setPw, he]

/-- Settles O10: a trip in service enters LASTGASP over all that runs, and each phase ends in the next. -/
theorem supplyFailureRunsLastgasp : Obligations.SupplyFailureRunsLastgasp := by
  unfold Obligations.SupplyFailureRunsLastgasp
  intro s
  refine ⟨fun hp hb hh hm => ?trip, fun hp => ?clear, fun r hp hb hr hl hs => ?restored, fun hm hl hh => ?flushed,
    fun hm hl ha he => ?ended⟩
  case trip =>
    have hev := (KeepsMode.refl ((s.raise F.pmuModestatPfail).raise F.pmuIntstatPfail)).evLevel (code := 0x1C4)
      (lv := true)
    have hmode := ((sameModeInForce_raise_pfail s).trans
      (sameModeInForce_setFld_ne _ (f := F.pmuIntstatPfail) 1 (by decide))).trans hev.sameModeInForce
    obtain ⟨hlg, htrans, hwait, hformer⟩ := inFlush_supplyTrip ((congrArg PowerState.boot hev.pw).trans hb)
      (by rw [hmode.mode]; exact hm)
    exact ⟨_, exec_supplyFailure hp hb hh, hlg, htrans, hwait, hformer.trans (congrArg some hmode.modeToRestore)⟩
  case clear =>
    refine ⟨_, exec_supplyClear hp, ?_, State.flag_raise_self _ _ (by decide) (by decide)⟩
    rw [State.flag_raise_ne _ (by decide), State.flag_lower_self _ _ (by decide)]
  case restored =>
    obtain ⟨u, h⟩ := exec_supplyRestored hp hb hr hl hs
    exact ⟨_, h, rfl, rfl⟩
  case flushed =>
    obtain ⟨u, h⟩ := exec_lastgaspFlushDone hm hl hh
    exact ⟨_, h, rfl⟩
  case ended => exact ⟨_, exec_lastgaspEnd hm hl ha he, rfl⟩

end Sys2Proof.Machine
end

section
/-!
The machine after a POWER-ON reset (R42, R131, R148, R154, R392, R505).
-/

namespace Sys2Proof.Machine

/-- An unlisted register reads as its reset value, and after reset none is listed. -/
theorem reg_reset (a : Nat) : State.reset.reg a = regReset a := rfl

theorem flashByte_reset (off : Nat) : State.reset.flashByte off = 0xFF := rfl

theorem otpWord_reset (k : Nat) : State.reset.otpWord k = 0 := rfl

theorem core_reset (k : Nat) : State.reset.core k = {} := rfl

/-- Settles O56: nothing is listed after reset, so every register, byte and core reads as its table gives it. -/
theorem resetState : Obligations.ResetState := by
  unfold Obligations.ResetState
  refine ⟨reg_reset, ?sysId, ?modestat, ?cause, ?pllf, ?pllc, ?source, flashByte_reset, otpWord_reset, fun k => ?core,
    rfl, rfl⟩
  case core =>
    rw [core_reset]
    exact ⟨rfl, rfl, rfl⟩
  all_goals rfl

end Sys2Proof.Machine
end

section
/-!
The Board's host commands (R67, R71, R72, R76, R78, R90, R95, R100, R397): each handler answers a sound request with
nothing in its way as its rule gives, and taking a command and answering it leave all but the Host Serial Link alone.
-/

namespace Sys2Proof.Machine

/-! ## Taking and answering a command -/

/-- A response changes the state of the Host Serial Link, and counts the frame where it leaves at once (R379, R391). -/
theorem respond_cases (s : State) (o : Origin) (code : Nat) (st : Status) (rest : List Byte) :
    ∃ x, s.respond o code st rest = { s with hsl := x }
      ∨ s.respond o code st rest = { s with hsl := x }.count (A.hslCtr 1) := by
  unfold State.respond State.answer State.send
  extract_lets c u
  have hu : ∃ y, u = { s with hsl := y } := by
    unfold u
    split
    · exact ⟨_, rfl⟩
    · exact ⟨_, rfl⟩
  obtain ⟨y, hy⟩ := hu
  rw [hy]
  split
  · exact ⟨_, .inr rfl⟩
  · exact ⟨_, .inl rfl⟩

@[simp] theorem respond_brd (s : State) (o : Origin) (code : Nat) (st : Status) (rest : List Byte) :
    (s.respond o code st rest).brd = s.brd := by
  obtain ⟨x, h | h⟩ := respond_cases s o code st rest
  · rw [h]
  · rw [h, State.count_brd]

@[simp] theorem respond_flash (s : State) (o : Origin) (code : Nat) (st : Status) (rest : List Byte) :
    (s.respond o code st rest).flash = s.flash := by
  obtain ⟨x, h | h⟩ := respond_cases s o code st rest
  · rw [h]
  · rw [h, State.count_flash]

theorem regN_respond_ne (s : State) {a : Nat} (o : Origin) (code : Nat) (st : Status) (rest : List Byte)
    (ha : a ≠ A.hslCtr 1) : (s.respond o code st rest).regN a = s.regN a := by
  obtain ⟨x, h | h⟩ := respond_cases s o code st rest
  · rw [h]
    rfl
  · rw [h]
    exact State.regN_setRegN_ne _ _ ha

theorem regN_taking_ne (s : State) {a : Nat} (o : Origin) (ha : a ≠ A.hslCtr 0) : (s.taking o).regN a = s.regN a :=
  State.regN_setRegN_ne { s with hsl := _ } _ ha

section
variable {c : Instr} {s u : State} {o : Origin} {code : Nat} {p : List Byte} {lenOk : Nat → Bool} {h : Handler}
  {post : State → Prop}

/-- A host command that is taken and answered at once completes in the handler's state with the response sent (R377). -/
theorem completes_of_answered {st : Status} {rest : List Byte}
    (hc : exec c s = .next (hostCommand code lenOk h o p s)) (ht : s.takes o code p) (hl : lenOk p.length = true)
    (hx : h o p (s.taking o) = (.now st rest, u)) (hp : post (u.respond o code st rest)) : Completes c s post :=
  ⟨_, by rw [hc, hostCommand_takes ht hl, hx], hp⟩

/-- A host command whose response comes later completes in the handler's state (R377). -/
theorem completes_of_later
    (hc : exec c s = .next (hostCommand code lenOk h o p s)) (ht : s.takes o code p) (hl : lenOk p.length = true)
    (hx : h o p (s.taking o) = (.later, u)) (hp : post u) : Completes c s post :=
  ⟨_, by rw [hc, hostCommand_takes ht hl, hx], hp⟩

end

/-! ## Board slots in flash (R393, R397) -/

theorem byteAt_le_three_of_slotArg {p : List Byte} (h : slotArg p = true) : byteAt p 0 ≤ 3 := by
  simp only [slotArg, Bool.and_eq_true, decide_eq_true_eq] at h
  exact h.1

/-- A Board slot lies in one area that the flash routines may change: the slots of plane 0 in one, those of plane 1 in
another. -/
theorem flashArea_boardSlot {k x : Nat} (hk : k ≤ 3) (hx : x < 0x100000) :
    flashArea (boardSlotOff k + x) = (if k < 2 then 3 else 7, true) := by
  unfold flashArea boardSlotOff
  by_cases h : k < 2
  · simp only [h, if_true]
    repeat rw [if_neg (by omega)]
    rw [if_pos (by omega)]
  · simp only [h, if_false]
    repeat rw [if_neg (by omega)]
    rw [if_pos (by omega)]

theorem rangePermitted_boardSlot {k off n : Nat} (hk : k ≤ 3) (hn : 0 < n) (he : off + n ≤ 0x100000) :
    rangePermitted (boardSlotOff k + off) n = true := by
  have hend : boardSlotOff k + off + n - 1 = boardSlotOff k + (off + n - 1) := by omega
  rw [rangePermitted, hend, flashArea_boardSlot hk (by omega), flashArea_boardSlot hk (by omega)]
  simp

theorem boardSlotOff_mod (k : Nat) : boardSlotOff k % 4096 = 0 := by
  unfold boardSlotOff
  split
  · omega
  · omega

/-- What is programmed depends on the flash alone. -/
theorem flash_setFlash_congr {s t : State} (h : s.flash = t.flash) (off : Nat) (b : List Byte) :
    (s.setFlash off b).flash = (t.setFlash off b).flash := by
  induction b generalizing s t off with
  | nil => exact h
  | cons x l ih => exact ih (congrArg (fun f => Sparse.put (fun _ => (0xFF : Byte)) f off x) h) _

section
variable {s : State} {off : Nat}

/-- Programming with nothing in its way (R397). -/
theorem flProgram_of_free {b : List Byte} (ha : off % 256 = 0) (hm : s.mode ≠ 5)
    (hp : rangePermitted off b.length = true) (hl : s.rangeLocked off b.length = false)
    (he : s.erasedRange off b.length = true) (hh : s.flcHeld = false) :
    s.flProgram off b = (.ok, s.program off b) := by
  simp [State.flProgram, ha, hm, hp, hl, he, hh]

/-- An erase with nothing in its way starts in the background (R397). -/
theorem flErase_of_free {n : Nat} {host : Option (Origin × Nat)} (ha : off % 4096 = 0) (hn : 0 < n) (hn' : n ≤ 256)
    (hm : s.mode ≠ 5) (hp : rangePermitted off (4096 * n) = true) (hl : s.rangeLocked off (4096 * n) = false)
    (hh : s.flcHeld = false) :
    (s.flErase off n host).1 = .pending
      ∧ (s.flErase off n host).2.flc.erase = some { first := off / 4096, count := n, host := host } := by
  have hn0 : n ≠ 0 := by omega
  simp [State.flErase, ha, hm, hp, hl, hh, hn0, Nat.not_lt.2 hn']

end

/-! ## A swap in staging (R77, R78) -/

/-- The state that a swap request which passes R78 leaves: its slot is locked, and SWAPSTAT reads PENDING and STAGING. -/
def State.inStaging (s : State) (w : SwapState) : State :=
  { s with brd := { s.brd with swap := some w, locked := [w.slot] } }.setRegN A.brdSwapstat
    (Status.pending.code * 65536 + 1)

theorem fld_state_inStaging (s : State) (w : SwapState) : (s.inStaging w).fld F.brdSwapstatState = 1 := by
  have hreg : (s.inStaging w).regN A.brdSwapstat = (Status.pending.code * 65536 + 1) % 2 ^ 32 :=
    State.regN_setRegN_self _ _ _
  exact congrArg (bitsOf · F.brdSwapstatState.lsb F.brdSwapstatState.width) hreg

/-! ## The handlers -/

section
variable {s : State} {o : Origin} {p : List Byte}

/-- A sound write of erased units that nothing locks programs them (R100, R397). -/
theorem handleBoardWrite_of_free (hs : slotArg p = true) (ha : leAt p 4 4 % 256 = 0) (hn : 0 < p.length - 8)
    (hend : leAt p 4 4 + (p.length - 8) ≤ 0x100000) (hm : s.mode ≠ 5)
    (hl : s.rangeLocked (boardSlotOff (byteAt p 0) + leAt p 4 4) (p.length - 8) = false)
    (he : s.erasedRange (boardSlotOff (byteAt p 0) + leAt p 4 4) (p.length - 8) = true) (hh : s.flcHeld = false) :
    handleBoardWrite o p s
      = (.now .ok [], s.program (boardSlotOff (byteAt p 0) + leAt p 4 4) (p.drop 8)) := by
  have hk := byteAt_le_three_of_slotArg hs
  have haligned : (boardSlotOff (byteAt p 0) + leAt p 4 4) % 256 = 0 := by
    have := boardSlotOff_mod (byteAt p 0)
    omega
  have hprog := flProgram_of_free (s := s) (b := p.drop 8) haligned hm
    (by rw [List.length_drop]; exact rangePermitted_boardSlot hk hn hend) (by rw [List.length_drop]; exact hl)
    (by rw [List.length_drop]; exact he) hh
  simp [handleBoardWrite, hs, ha, hprog, Nat.not_lt.2 hend]

/-- An erase of a slot that nothing locks starts, and its response waits for its end (R100, R396, R397). -/
theorem handleBoardErase_of_free (hs : slotArg p = true) (hm : s.mode ≠ 5)
    (hl : s.rangeLocked (boardSlotOff (byteAt p 0)) 0x100000 = false) (hh : s.flcHeld = false) :
    ∃ u, handleBoardErase o p s = (.later, u)
      ∧ u.flc.erase = some { first := boardSlotOff (byteAt p 0) / 4096, count := 256, host := some (o, 0x41) } := by
  have hperm : rangePermitted (boardSlotOff (byteAt p 0)) (4096 * 256) = true :=
    rangePermitted_boardSlot (off := 0) (byteAt_le_three_of_slotArg hs) (by decide) (by decide)
  obtain ⟨hst, herase⟩ := flErase_of_free (s := s) (host := some (o, 0x41)) (boardSlotOff_mod (byteAt p 0)) (by decide)
    (le_refl 256) hm hperm hl hh
  exact ⟨_, by simp [handleBoardErase, hs, hst], herase⟩

/-- A verification answers the result of the checks of R67: OK, or BAD_IMAGE with detail and section (R100). -/
theorem handleBoardVerify_result {r : Option BrdFail} (hs : slotArg p = true)
    (hr : s.brdCheck (byteAt p 0) (headPartial (s.brdHead (byteAt p 0))) = r) :
    ∃ rest, handleBoardVerify o p s = (.now (if r.isSome then .badImage else .ok) rest, s.loadResult r)
      ∧ ∀ d sec site, r = some (d, sec, site) → rest.take 2 = [Byte.ofN d, Byte.ofN sec] := by
  refine ⟨_, by simp only [handleBoardVerify, hs, hr, Bool.not_true, Bool.false_eq_true, if_false]; rfl, ?_⟩
  rintro d sec site rfl
  rfl

/-- A swap request that passes R78 locks its slot and enters STAGING. -/
theorem submitSwap_of_passed {k round : Nat} {persist : Bool} (hk : k ≤ 3) (h0 : s.mode ≠ 0) (h5 : s.mode ≠ 5)
    (ht : s.pw.trans = none) (hr : s.brd.reload = none) (hs : s.brd.swap = none)
    (hp : persist = true → bitsOf s.bootList 16 8 = 0xFF) :
    s.submitSwap k persist round
      = (.pending, s.inStaging { slot := k, persist := persist, round := round }) := by
  have hfree : (persist && bitsOf s.bootList 16 8 != 0xFF) = false := by
    cases persist with
    | false => rfl
    | true => simp [hp rfl]
  simp [State.submitSwap, State.inStaging, hfree, Nat.not_lt.2 hk, h0, h5, ht, hr, hs]

theorem handleBoardSwap_of_submitted {st : Status} {u : State} (hf : byteAt p 1 ≤ 1)
    (hz : allZero ((p.drop 2).take 2) = true)
    (hx : s.submitSwap (byteAt p 0) (byteAt p 1 == 1) (leAt p 4 4) = (st, u)) :
    handleBoardSwap o p s = (.now st [], u) := by
  simp [handleBoardSwap, Nat.not_lt.2 hf, hz, hx]

/-- A reload in KEEPER starts, and its response waits for its end (R76). -/
theorem handleBoardReload_of_free (hm : s.mode = 4) (hr : s.brd.reload = none) (hs : s.brd.swap = none) :
    handleBoardReload o p s = (.later, { s.missRadio with brd := { s.brd with reload := some o } }) := by
  simp [handleBoardReload, hm, hr, hs]

/-- A boot list that does not verify is refused (R72, R100). -/
theorem handleBoardBootlist_of_bad (hb : bootListOk (leNat p) = true) (hm : s.mode ≠ 5)
    (hv : s.listVerifies (leNat p) ≠ none) :
    handleBoardBootlist o p s = (.now .badImage [], s.loadResult (s.listVerifies (leNat p))) := by
  simp [handleBoardBootlist, hb, hm, Option.isSome_iff_ne_none.2 hv]

/-- A boot list that verifies is written to the Defaults Image (R72, R100). -/
theorem handleBoardBootlist_of_verified (hb : bootListOk (leNat p) = true) (hm : s.mode ≠ 5)
    (hv : s.listVerifies (leNat p) = none) :
    handleBoardBootlist o p s
      = (.now ((s.loadResult none).writeBootList (leNat p)).1 [], ((s.loadResult none).writeBootList (leNat p)).2) := by
  simp [handleBoardBootlist, hb, hm, hv]

end

/-- Recording the result of a check changes registers alone (R94). -/
theorem byte_loadResult (s : State) (r : Option BrdFail) (a : Nat) : (s.loadResult r).byte a = s.byte a := by
  cases r with
  | none => rfl
  | some x => rfl

@[simp] theorem loadResult_flash (s : State) (r : Option BrdFail) : (s.loadResult r).flash = s.flash := by
  cases r with
  | none => rfl
  | some x => rfl

/-! ## The commands -/

/-- Settles O17: each handler answers a sound request as its rule gives, and the response leaves its effect alone. -/
theorem boardHostCommands : Obligations.BoardHostCommands := by
  unfold Obligations.BoardHostCommands
  intro s o p s1
  refine ⟨?write, ?erase, ?verify, ?swap, ?abort, ?reload, ?bootlist, ?status⟩
  case write =>
    intro ht hmin hmax hunits hs ha hend off hm hl he hh
    refine completes_of_answered rfl ht (by simp [hmin, hmax, hunits])
      (handleBoardWrite_of_free hs ha (by omega) hend hm hl he hh) ⟨?_, State.responded_respond ..⟩
    rw [respond_flash]
    exact flash_setFlash_congr (s := s1) (t := s) rfl _ _
  case erase =>
    intro ht hlen hs hm hl hh
    obtain ⟨u, hx, herase⟩ := handleBoardErase_of_free (o := o) hs hm hl hh
    exact completes_of_later rfl ht (by simp [hlen]) hx herase
  case verify =>
    intro ht hlen hs r
    obtain ⟨rest, hx, hrest⟩ := handleBoardVerify_result (s := s1) (o := o) hs rfl
    exact completes_of_answered rfl ht (by simp [hlen]) hx ⟨⟨rest, State.responded_respond .., hrest⟩,
      fun a => (byte_respond _ _ _ _ _ a).trans (byte_loadResult s1 _ a)⟩
  case swap =>
    intro ht hlen hk hf hz h0 h5 htr hr hsw hp
    have hx := submitSwap_of_passed (s := s1) (persist := byteAt p 1 == 1) (round := leAt p 4 4) hk h0 h5 htr hr hsw
      (fun h => hp (by simpa using h))
    refine completes_of_answered rfl ht (by simp [hlen]) (handleBoardSwap_of_submitted hf hz hx)
      ⟨by rw [respond_brd]; rfl, ?_, State.responded_respond .., fun a => byte_respond _ _ _ _ _ a⟩
    rw [State.fld, regN_respond_ne _ _ _ _ _ (by decide)]
    exact fld_state_inStaging ..
  case abort =>
    intro ht _
    exact completes_of_answered rfl ht rfl rfl (State.responded_respond ..)
  case reload =>
    intro ht hm hr hsw
    exact completes_of_later rfl ht rfl (handleBoardReload_of_free hm hr hsw) rfl
  case bootlist =>
    intro ht hlen hb hm r
    by_cases hv : s1.listVerifies (leNat p) = none
    · refine completes_of_answered rfl ht (by simp [hlen]) (handleBoardBootlist_of_verified hb hm hv)
        ⟨fun _ => ⟨respond_flash .., State.responded_respond ..⟩, fun h => absurd hv h⟩
    · refine completes_of_answered rfl ht (by simp [hlen]) (handleBoardBootlist_of_bad hb hm hv)
        ⟨fun h => absurd h hv, fun _ => ⟨?_, State.responded_respond ..⟩⟩
      rw [respond_flash, loadResult_flash]
      rfl
  case status =>
    intro ht
    refine completes_of_answered rfl ht rfl rfl ⟨?_, respond_brd .., fun a => byte_respond _ _ _ _ _ a⟩
    have hreg (a : Nat) (ha : a ≠ A.hslCtr 0) : s.regN a = (s.taking o).regN a := (regN_taking_ne s o ha).symm
    rw [hreg A.brdLayout (by decide), hreg A.brdGen (by decide), hreg A.brdSource (by decide),
      hreg A.brdLoadstat (by decide), hreg A.brdSwapstat (by decide), hreg A.brdWindow (by decide)]
    exact State.responded_respond ..

end Sys2Proof.Machine
end

section
/-!
Writes of listed registers alone: what an event of the power and clock blocks writes reads back, and everything else
stands.
-/

namespace Sys2Proof.Machine

/-! ## Fields beside a field -/

/-- Two fields share no bit: they are fields of different registers, or lie apart in one. -/
abbrev Fld.apart (f g : Fld) : Prop := g.addr ≠ f.addr ∨ f.lsb + f.width ≤ g.lsb ∨ g.lsb + g.width ≤ f.lsb

theorem fld_setFld_of_apart (s : State) {f g : Fld} (v : Nat) (h : f.apart g) (hf : f.lsb + f.width ≤ 32) :
    (s.setFld f v).fld g = s.fld g := by
  by_cases ha : g.addr = f.addr
  · exact fld_setFld_apart s v ha hf (h.resolve_left (absurd ha))
  · exact State.fld_setFld_ne s v ha

theorem fld_setFld_of_lt (s : State) {f : Fld} {v : Nat} (hv : v < 2 ^ f.width) (hf : f.lsb + f.width ≤ 32) :
    (s.setFld f v).fld f = v := by
  rw [State.fld_setFld_self s f v hf, Nat.mod_eq_of_lt hv]

theorem flag_raise_of_apart (s : State) {f g : Fld} (h : f.apart g) (hf : f.lsb + f.width ≤ 32) :
    (s.raise f).flag g = s.flag g := by
  rw [State.flag, State.raise, fld_setFld_of_apart s 1 h hf]
  rfl

theorem flag_lower_of_apart (s : State) {f g : Fld} (h : f.apart g) (hf : f.lsb + f.width ≤ 32) :
    (s.lower f).flag g = s.flag g := by
  rw [State.flag, State.lower, fld_setFld_of_apart s 0 h hf]
  rfl

/-! ## Writes of listed registers -/

/-- `t` comes from `s` by writes of the registers at the listed addresses alone. -/
structure WritesOnly (l : List Nat) (s t : State) : Prop where
  regs : s.sameRegsBut t l
  rest : t = { s with regs := t.regs }

namespace WritesOnly

variable {l : List Nat} {s t u : State} {c : Prop} {i : Decidable c}

theorem refl (l : List Nat) (s : State) : WritesOnly l s s := ⟨fun _ _ => rfl, rfl⟩

theorem ite (ht : WritesOnly l s t) (hu : WritesOnly l s u) : WritesOnly l s (if c then t else u) := by
  split
  · exact ht
  · exact hu

theorem setReg (h : WritesOnly l s t) {a : Nat} {w : Word} (ha : a ∈ l := by decide) :
    WritesOnly l s (t.setReg a w) where
  regs b hb := (State.reg_setReg_ne t w (ne_of_mem_of_not_mem ha hb).symm).trans (h.regs b hb)
  rest := congrArg (fun u : State => { u with regs := (t.setReg a w).regs }) h.rest

theorem setRegN (h : WritesOnly l s t) {a n : Nat} (ha : a ∈ l := by decide) : WritesOnly l s (t.setRegN a n) :=
  h.setReg ha

theorem setFld (h : WritesOnly l s t) {f : Fld} {v : Nat} (hf : f.addr ∈ l := by decide) :
    WritesOnly l s (t.setFld f v) := h.setReg hf

theorem raise (h : WritesOnly l s t) {f : Fld} (hf : f.addr ∈ l := by decide) : WritesOnly l s (t.raise f) :=
  h.setReg hf

theorem lower (h : WritesOnly l s t) {f : Fld} (hf : f.addr ∈ l := by decide) : WritesOnly l s (t.lower f) :=
  h.setReg hf

theorem writeReg (h : WritesOnly l s t) {a : Nat} {w : Word} (ha : a ∈ l := by decide) :
    WritesOnly l s (t.writeReg a w) := by
  obtain hw | ⟨n, hw⟩ := writeReg_cases t a w
  · rwa [hw]
  · rw [hw]
    exact h.setRegN ha

theorem pw (h : WritesOnly l s t) : t.pw = s.pw := by rw [h.rest]

theorem tb (h : WritesOnly l s t) : t.tb = s.tb := by rw [h.rest]

theorem chain (h : WritesOnly l s t) (c : Chain) : t.chain c = s.chain c := by
  rw [h.rest]
  rfl

theorem sameMemory (h : WritesOnly l s t) : s.sameMemory t := by
  intro a
  rw [h.rest]
  rfl

theorem flag (h : WritesOnly l s t) {f : Fld} (hf : f.addr ∉ l) : t.flag f = s.flag f := by
  unfold State.flag State.fld State.regN
  rw [h.regs f.addr hf]

end WritesOnly
end Sys2Proof.Machine
end

section
/-!
Load monitoring, the current limit of the buck converter and the events of the oscillators (R104, R108, R113-R115, R118,
R121).
-/

namespace Sys2Proof.Machine

/-! ## Load monitoring (R108) -/

/-- LOAD and PEAK of LPMON take a load. -/
def State.loadShown (s : State) (load : Nat) : State :=
  (s.setFld F.pmuLpmonLoad load).setFld F.pmuLpmonPeak (max (s.fld F.pmuLpmonPeak) load)

theorem fld_load_loadShown (s : State) {load : Nat} (h : load ≤ 255) :
    (s.loadShown load).fld F.pmuLpmonLoad = load := by
  unfold State.loadShown
  rw [fld_setFld_of_apart _ _ (by decide) (by decide)]
  exact fld_setFld_of_lt s (Nat.lt_succ_of_le h) (by decide)

theorem fld_peak_loadShown (s : State) {load : Nat} (h : load ≤ 255) :
    (s.loadShown load).fld F.pmuLpmonPeak = max (s.fld F.pmuLpmonPeak) load := by
  have hpeak : s.fld F.pmuLpmonPeak < 2 ^ F.pmuLpmonPeak.width := bitsOf_lt ..
  exact fld_setFld_of_lt _ (Nat.max_lt.2 ⟨hpeak, Nat.lt_succ_of_le h⟩) (by decide)

theorem fld_warn_loadShown (s : State) (load : Nat) : (s.loadShown load).fld F.pmuLpmonWarn = s.fld F.pmuLpmonWarn := by
  unfold State.loadShown
  rw [fld_setFld_of_apart _ _ (by decide) (by decide), fld_setFld_of_apart _ _ (by decide) (by decide)]

theorem exec_lpmonUpdate {s : State} (h : s.flag F.pmuStatAonlp = true) (load : Nat) :
    exec (.lpmonUpdate load) s = .next (if s.fld F.pmuLpmonWarn < min load 255
      then (s.loadShown (min load 255)).raise F.pmuIntstatLphigh else s.loadShown (min load 255)) := by
  rw [← fld_warn_loadShown s (min load 255)]
  exact congrArg Host.Outcome.next (if_pos h)

theorem writesOnly_loadShown (s : State) (load : Nat) :
    WritesOnly [A.pmuLpmon, A.pmuIntstat] s (s.loadShown load) :=
  (WritesOnly.refl _ s).setFld.setFld

/-- The interrupt flag LPHIGH is no part of LPMON. -/
theorem fld_lpmon_raise_lphigh (s : State) {f : Fld} (hf : f.addr = A.pmuLpmon) :
    (s.raise F.pmuIntstatLphigh).fld f = s.fld f :=
  State.fld_setFld_ne s 1 (by rw [hf]; decide)

theorem completes_lpmonUpdate {s : State} (h : s.flag F.pmuStatAonlp = true) (load : Nat) :
    Completes (.lpmonUpdate load) s fun t =>
      t.fld F.pmuLpmonLoad = min load 255 ∧ t.fld F.pmuLpmonPeak = max (s.fld F.pmuLpmonPeak) (min load 255)
      ∧ (s.fld F.pmuLpmonWarn < min load 255 → t.flag F.pmuIntstatLphigh = true)
      ∧ s.sameRegsBut t [A.pmuLpmon, A.pmuIntstat] := by
  have hload : min load 255 ≤ 255 := Nat.min_le_right ..
  have hwrites := writesOnly_loadShown s (min load 255)
  refine ⟨_, exec_lpmonUpdate h load, ?_⟩
  split
  case isTrue =>
    rw [fld_lpmon_raise_lphigh _ rfl, fld_lpmon_raise_lphigh _ rfl]
    exact ⟨fld_load_loadShown s hload, fld_peak_loadShown s hload,
      fun _ => State.flag_raise_self _ _ (by decide) (by decide), hwrites.raise.regs⟩
  case isFalse hwarn =>
    exact ⟨fld_load_loadShown s hload, fld_peak_loadShown s hload, fun h => absurd h hwarn, hwrites.regs⟩

/-! ## The current limit (R104) -/

theorem exec_buckCurrentLimit_acting (s : State) :
    exec (.buckCurrentLimit true) s = .next ((s.raise F.pmuStatBuckilim).raise F.pmuIntstatBuckilim) := rfl

/-! ## The oscillators (R113, R114, R118) -/

theorem exec_xlfQualified {s : State} (h : s.pw.xlfFailed = false) :
    exec .xlfQualified s = .next ((s.raise F.pmuStatXlfok).lower F.pmuStatLfrc) :=
  congrArg Host.Outcome.next (if_neg (Bool.eq_false_iff.1 h))

theorem exec_lfratioMeasure {s : State} (h : s.flag F.pmuStatXrefrdy = true) (ticks : Nat) :
    exec (.lfratioMeasure ticks) s = .next (s.setRegN A.pmuLfratio (ticks * 65536 / 4096)) :=
  congrArg Host.Outcome.next (if_pos h)

theorem exec_xrefRetry {s : State} (hd : s.domainOn .xr = true) (hx : s.flag F.pmuStatXrefrdy = false) :
    exec .xrefRetry s = .next { s with pw := { s.pw with xrefStarting := true } } :=
  congrArg Host.Outcome.next ((if_pos hd).trans (if_neg (Bool.eq_false_iff.1 hx)))

/-- A measurement over 4,096 cycles in 16.16 (R114). -/
theorem regN_lfratio (s : State) {ticks : Nat} (h : ticks * 16 < 2 ^ 32) :
    (s.setRegN A.pmuLfratio (ticks * 65536 / 4096)).regN A.pmuLfratio = ticks * 16 := by
  rw [State.regN_setRegN_self]
  omega

/-- Settles O11: each event writes fields that lie apart, of the registers its rule names. -/
theorem supplyAndOscillatorEvents : Obligations.SupplyAndOscillatorEvents := by
  unfold Obligations.SupplyAndOscillatorEvents
  intro s
  refine ⟨fun load h => completes_lpmonUpdate h load, ?limitOn, ?limitOff, ?xlfFail, fun h => ?xlfQualified,
    fun ticks hx ht => ?lfratio, ?hfrcFail, fun hd hx => ⟨_, exec_xrefRetry hd hx, rfl⟩, ⟨_, rfl, rfl⟩⟩
  case limitOn =>
    refine ⟨_, exec_buckCurrentLimit_acting s, ?_, State.flag_raise_self _ _ (by decide) (by decide),
      (WritesOnly.refl _ s).raise.raise.regs⟩
    rw [State.flag_raise_ne _ (by decide), State.flag_raise_self _ _ (by decide) (by decide)]
  case limitOff => exact ⟨_, rfl, State.flag_lower_self _ _ (by decide), (WritesOnly.refl _ s).lower.regs⟩
  case xlfFail =>
    refine ⟨_, rfl, ?_, ?_, State.flag_lower_self _ _ (by decide), rfl, (WritesOnly.refl _ s).raise.raise.lower.regs⟩
    · rw [flag_setPw, State.flag_lower_ne _ (by decide), State.flag_raise_ne _ (by decide),
        State.flag_raise_self _ _ (by decide) (by decide)]
    · rw [flag_setPw, flag_lower_of_apart _ (by decide) (by decide),
        State.flag_raise_self _ _ (by decide) (by decide)]
  case xlfQualified =>
    refine ⟨_, exec_xlfQualified h, ?_, State.flag_lower_self _ _ (by decide), rfl,
      (WritesOnly.refl _ s).raise.lower.regs⟩
    rw [flag_lower_of_apart _ (by decide) (by decide), State.flag_raise_self _ _ (by decide) (by decide)]
  case lfratio => exact ⟨_, exec_lfratioMeasure hx ticks, regN_lfratio s ht, (WritesOnly.refl _ s).setRegN.regs⟩
  case hfrcFail =>
    refine ⟨_, rfl, ?_, State.flag_lower_self _ _ (by decide), rfl, (WritesOnly.refl _ s).raise.lower.regs⟩
    rw [flag_setPw, State.flag_lower_ne _ (by decide), State.flag_raise_self _ _ (by decide) (by decide)]

end Sys2Proof.Machine
end

section
/-!
The PLLs lock, lose lock and are written within the ceiling of their clock; XREF becomes ready and fails (R116,
R118-R120, R122).
-/

namespace Sys2Proof.Machine

/-! ## The ceiling of a clock (R119) -/

theorem le_cpuCeiling (s : State) (mode profile : Nat) : 100 ≤ s.cpuCeiling mode profile := by
  have hlimit : 100 ≤ cpuLimit mode profile := by
    unfold cpuLimit
    split
    case h_1 => omega
    case h_2 => split <;> omega
    case h_3 => split <;> omega
    case h_4 => omega
  have hcap : 100 ≤ s.cpuCap mode := by
    unfold State.cpuCap
    split <;> omega
  exact le_min hlimit hcap

/-- The row of R119 for CK_CPU fits the fields of PLLC and runs no faster than the ceiling. -/
theorem cpuRow_within {ceiling : Nat} (h : 100 ≤ ceiling) :
    (cpuRow ceiling).1 < 2 ^ 8 ∧ (cpuRow ceiling).2 < 2 ^ 2
      ∧ pllAbove (cpuRow ceiling).1 (cpuRow ceiling).2 ceiling = false := by
  unfold cpuRow pllAbove
  split_ifs
  all_goals
    refine ⟨by decide, by decide, decide_eq_false ?_⟩
    dsimp only
    omega

/-! ## Writes to a PLL (R119, R120) -/

/-- Whatever N and P are asked of PLL-C, those it takes run no faster than the ceiling. -/
theorem pllAbove_setPll (s : State) {n p ceiling : Nat} (hn : n < 2 ^ 8) (hp : p < 2 ^ 2) (hc : 100 ≤ ceiling) :
    let t := s.setPll F.clkPllcN F.clkPllcP n p ceiling cpuRow
    pllAbove (t.fld F.clkPllcN) (t.fld F.clkPllcP) ceiling = false := by
  have taken : ∀ n p, n < 2 ^ 8 → p < 2 ^ 2 → pllAbove n p ceiling = false →
      let t := (s.setFld F.clkPllcN n).setFld F.clkPllcP p
      pllAbove (t.fld F.clkPllcN) (t.fld F.clkPllcP) ceiling = false := by
    intro n p hn hp h
    dsimp only
    rwa [fld_setFld_of_apart _ _ (by decide) (by decide), fld_setFld_of_lt s hn (by decide),
      fld_setFld_of_lt _ hp (by decide)]
  unfold State.setPll
  split
  case isTrue =>
    obtain ⟨hn, hp, h⟩ := cpuRow_within hc
    exact taken _ _ hn hp h
  case isFalse h => exact taken n p hn hp (Bool.eq_false_of_not_eq_true h)

theorem WritesOnly.setPll {l : List Nat} {s t : State} (h : WritesOnly l s t) {fn fp : Fld} {n p ceiling : Nat}
    {row : Nat → Nat × Nat} (hn : fn.addr ∈ l := by decide) (hp : fp.addr ∈ l := by decide) :
    WritesOnly l s (t.setPll fn fp n p ceiling row) :=
  .ite ((h.setFld hn).setFld hp) ((h.setFld hn).setFld hp)

theorem WritesOnly.cpuToHf {l : List Nat} {s t : State} (h : WritesOnly l s t) (hl : A.clkStat ∈ l := by decide) :
    WritesOnly l s t.cpuToHf := (h.lower hl).raise hl

theorem flag_clock_cpuToHf (s : State) : s.cpuToHf.flag F.clkStatClock = false := by
  unfold State.cpuToHf
  rw [flag_raise_of_apart _ (by decide) (by decide), State.flag_lower_self _ _ (by decide)]

theorem flag_cpuhf_cpuToHf (s : State) : s.cpuToHf.flag F.clkStatCpuhf = true :=
  State.flag_raise_self _ _ (by decide) (by decide)

/-- The move to CK_HF shows in STAT alone. -/
theorem fld_cpuToHf_ne (s : State) {f : Fld} (hf : f.addr ≠ A.clkStat) : s.cpuToHf.fld f = s.fld f :=
  (State.fld_setFld_ne _ 1 hf).trans (State.fld_setFld_ne s 0 hf)

/-- PLL-C with the N, P and EN of a write, clamped to the ceiling in force. -/
def State.pllcTaken (s : State) (w : Word) : State :=
  let u := s.writeReg A.clkPllc w
  u.setPll F.clkPllcN F.clkPllcP (u.fld F.clkPllcN) (u.fld F.clkPllcP) (s.cpuCeiling s.mode s.profile) cpuRow

theorem pllAbove_pllcTaken (s : State) (w : Word) :
    pllAbove ((s.pllcTaken w).fld F.clkPllcN) ((s.pllcTaken w).fld F.clkPllcP) (s.cpuCeiling s.mode s.profile)
      = false :=
  pllAbove_setPll (s.writeReg A.clkPllc w) (bitsOf_lt ..) (bitsOf_lt ..) (le_cpuCeiling s _ _)

theorem writesOnly_pllcTaken (s : State) (w : Word) : WritesOnly [A.clkPllc, A.clkStat] s (s.pllcTaken w) :=
  (WritesOnly.refl _ s).writeReg.setPll

theorem exec_pllcWrite {s : State} (h : s.comUp = true) (w : Word) :
    exec (.pllcWrite false w) s = .next (if (s.pllcTaken w).reg A.clkPllc = s.reg A.clkPllc then s.pllcTaken w
      else (s.pllcTaken w).cpuToHf) :=
  congrArg Host.Outcome.next (if_pos h)

theorem completes_pllcWrite {s : State} (h : s.comUp = true) (w : Word) :
    Completes (.pllcWrite false w) s fun t =>
      s.sameRegsBut t [A.clkPllc, A.clkStat] ∧ s.sameMemory t
      ∧ (t.reg A.clkPllc ≠ s.reg A.clkPllc → t.flag F.clkStatCpuhf = true ∧ t.flag F.clkStatClock = false)
      ∧ pllAbove (t.fld F.clkPllcN) (t.fld F.clkPllcP) (s.cpuCeiling s.mode s.profile) = false := by
  have hwrites := writesOnly_pllcTaken s w
  have hbelow := pllAbove_pllcTaken s w
  refine ⟨_, exec_pllcWrite h w, ?_⟩
  split
  case isTrue hsame => exact ⟨hwrites.regs, hwrites.sameMemory, fun h => absurd hsame h, hbelow⟩
  case isFalse =>
    refine ⟨hwrites.cpuToHf.regs, hwrites.cpuToHf.sameMemory,
      fun _ => ⟨flag_cpuhf_cpuToHf _, flag_clock_cpuToHf _⟩, ?_⟩
    rwa [fld_cpuToHf_ne _ (by decide), fld_cpuToHf_ne _ (by decide)]

/-- PLL-F with the N, P and EN of a write, clamped to the ceiling in force. -/
def State.pllfTaken (s : State) (w : Word) : State :=
  let u := s.writeReg A.clkPllf w
  u.setPll F.clkPllfN F.clkPllfP (u.fld F.clkPllfN) (u.fld F.clkPllfP) (s.fabCeiling s.mode s.profile) fabRow

theorem writesOnly_pllfTaken (s : State) (w : Word) : WritesOnly [A.clkPllf, A.clkStat] s (s.pllfTaken w) :=
  (WritesOnly.refl _ s).writeReg.setPll

theorem exec_pllfWrite_refused {s : State} (h : s.comUp = true) (hr : s.samplePathsRun = true) (w : Word) :
    exec (.pllfWrite false w) s = .next (s.raise F.clkStatRefused) :=
  congrArg Host.Outcome.next ((if_pos h).trans (if_pos hr))

theorem exec_pllfWrite_taken {s : State} (h : s.comUp = true) (hr : s.samplePathsRun = false) (w : Word) :
    exec (.pllfWrite false w) s = .next (if (s.pllfTaken w).reg A.clkPllf = s.reg A.clkPllf then s.pllfTaken w
      else (s.pllfTaken w).lower F.clkStatFlock) :=
  congrArg Host.Outcome.next ((if_pos h).trans (if_neg (Bool.eq_false_iff.1 hr)))

theorem completes_pllfWrite_taken {s : State} (h : s.comUp = true) (hr : s.samplePathsRun = false) (w : Word) :
    Completes (.pllfWrite false w) s fun t =>
      s.sameRegsBut t [A.clkPllf, A.clkStat]
      ∧ (t.reg A.clkPllf ≠ s.reg A.clkPllf → t.flag F.clkStatFlock = false) := by
  have hwrites := writesOnly_pllfTaken s w
  refine ⟨_, exec_pllfWrite_taken h hr w, ?_⟩
  split
  case isTrue hsame => exact ⟨hwrites.regs, fun h => absurd hsame h⟩
  case isFalse => exact ⟨hwrites.lower.regs, fun _ => State.flag_lower_self _ _ (by decide)⟩

/-! ## Locks and losses of lock (R119, R122) -/

theorem exec_pllLock_c {s : State} (hx : s.flag F.pmuStatXrefrdy = true) (he : s.flag F.clkPllcEn = true) :
    exec (.pllLock true) s = .next ((s.raise F.clkStatClock).lower F.clkStatCpuhf) := by
  change execPllLock true s = _
  simp [execPllLock, hx, he]

theorem exec_pllLock_f {s : State} (hx : s.flag F.pmuStatXrefrdy = true) (he : s.flag F.clkPllfEn = true) :
    exec (.pllLock false) s = .next (s.raise F.clkStatFlock) := by
  change execPllLock false s = _
  simp [execPllLock, hx, he]

theorem exec_pllLockLoss_c {s : State} (h : s.flag F.clkStatClock = true) :
    exec (.pllLockLoss true) s = .next (s.raise F.clkStatCloss).cpuToHf :=
  congrArg Host.Outcome.next (if_pos h)

theorem exec_pllLockLoss_f {s : State} (h : s.flag F.clkStatFlock = true) :
    exec (.pllLockLoss false) s = .next ((s.raise F.clkStatFloss).lower F.clkStatFlock) :=
  congrArg Host.Outcome.next (if_pos h)

/-! ## XREF becomes ready (R116) -/

theorem WritesOnly.setPoints {s t : State} (h : WritesOnly [A.clkPllc, A.clkPllf, A.clkStat] s t) (mode profile : Nat) :
    WritesOnly [A.clkPllc, A.clkPllf, A.clkStat] s (t.setPoints mode profile) :=
  .ite h.setFld.setFld.raise.setFld.setFld.raise.raise.lower.raise
    h.setFld.setFld.raise.setFld.setFld.raise.cpuToHf.lower

/-- XREF is qualified, and its next start is a warm one. -/
def State.xrefQualified (s : State) : State :=
  { s.raise F.pmuStatXrefrdy with pw := { s.pw with xrefStarting := false, xrefWarm := true } }

theorem flag_xrefrdy_xrefQualified (s : State) : s.xrefQualified.flag F.pmuStatXrefrdy = true :=
  (flag_setPw _ _ _).trans (State.flag_raise_self s _ (by decide) (by decide))

theorem exec_xrefReady {s : State} (h : s.pw.xrefStarting = true) :
    exec .xrefReady s = .next (if s.xrefQualified.mode == 7 || s.xrefQualified.dormant then s.xrefQualified
      else s.xrefQualified.setPoints s.xrefQualified.mode s.xrefQualified.profile) :=
  congrArg Host.Outcome.next (if_pos h)

/-! ## XREF fails (R118) -/

/-- `t` comes from `s` by changes of registers, of captures and of the decoder alone. -/
structure CaptureOnly (s t : State) : Prop where
  rest : t = { s with regs := t.regs, cap := t.cap, dec := t.dec }

namespace CaptureOnly

variable {s t u : State} {α : Type} {c : Prop} {i : Decidable c}

theorem refl (s : State) : CaptureOnly s s := ⟨rfl⟩

theorem ite (ht : CaptureOnly s t) (hu : CaptureOnly s u) : CaptureOnly s (if c then t else u) := by
  split
  · exact ht
  · exact hu

theorem foldl {f : State → α → State} {l : List α} (h : CaptureOnly s t)
    (hf : ∀ u a, CaptureOnly s u → CaptureOnly s (f u a)) : CaptureOnly s (l.foldl f t) := by
  induction l generalizing t with
  | nil => exact h
  | cons a l ih => exact ih (hf t a h)

theorem other (h : CaptureOnly s t) {regs cap dec} : CaptureOnly s { t with regs := regs, cap := cap, dec := dec } :=
  ⟨congrArg (fun u : State => { u with regs := regs, cap := cap, dec := dec }) h.rest⟩

theorem setReg (h : CaptureOnly s t) {a : Nat} {w : Word} : CaptureOnly s (t.setReg a w) := h.other

theorem setFld (h : CaptureOnly s t) {f : Fld} {v : Nat} : CaptureOnly s (t.setFld f v) := h.setReg

theorem raise (h : CaptureOnly s t) {f : Fld} : CaptureOnly s (t.raise f) := h.setReg

theorem lower (h : CaptureOnly s t) {f : Fld} : CaptureOnly s (t.lower f) := h.setReg

theorem clearBit (h : CaptureOnly s t) {a n : Nat} : CaptureOnly s (t.clearBit a n) := h.setReg

theorem count (h : CaptureOnly s t) {a : Nat} : CaptureOnly s (t.count a) := h.setReg

theorem unserved (h : CaptureOnly s t) {b reason : Nat} : CaptureOnly s (t.unserved b reason) := h.count.raise

theorem abandonCtx (h : CaptureOnly s t) {n reason : Nat} : CaptureOnly s (t.abandonCtx n reason) :=
  have h1 : CaptureOnly s ((t.ctxFree n).dropFrame (t.ctx n).frame) := h.other
  unserved (.ite h1.count.raise h1.count)

theorem setBandSt (h : CaptureOnly s t) {b : Nat} {x : BandState} : CaptureOnly s (t.setBandSt b x) :=
  .ite h.other h.other

theorem cutBand (h : CaptureOnly s t) {b reason : Nat} : CaptureOnly s (t.cutBand b reason) :=
  ((h.foldl fun _ _ h => h.abandonCtx).foldl fun _ _ h => h.unserved).setBandSt

theorem bandInvalid (h : CaptureOnly s t) {b reason : Nat} : CaptureOnly s (t.bandInvalid b reason) :=
  .ite h.clearBit.cutBand h

theorem capLost (h : CaptureOnly s t) {c : Chain} : CaptureOnly s (t.capLost c) :=
  .ite h.lower.setFld.raise.bandInvalid h.lower.setFld

theorem xrefLostCapture (h : CaptureOnly s t) : CaptureOnly s t.xrefLostCapture := h.capLost.capLost

theorem pw (h : CaptureOnly s t) : t.pw = s.pw := by rw [h.rest]

theorem tb (h : CaptureOnly s t) : t.tb = s.tb := by rw [h.rest]

theorem chain (h : CaptureOnly s t) (c : Chain) : t.chain c = s.chain c := by
  rw [h.rest]
  rfl

end CaptureOnly

/-- Only an action that holds a chain is missed (R118). -/
theorem missRadio_of_no_holder {s : State} (h : ∀ c, (s.chain c).holder = none) : s.missRadio = s := by
  unfold State.missRadio
  rw [List.filter_eq_nil_iff.2 fun n _ => by simp [h]]
  rfl

/-- The clocks that come from XREF are gone: CK_CPU runs on CK_HF and CK_FAB is stopped. -/
def State.xrefClocksLost (s : State) : State :=
  ((s.lower F.pmuStatXrefrdy).raise F.pmuIntstatXreffail).cpuToHf.lower F.clkStatFlock

theorem writesOnly_xrefClocksLost (s : State) :
    WritesOnly [A.pmuStat, A.pmuIntstat, A.clkStat] s s.xrefClocksLost :=
  (WritesOnly.refl _ s).lower.raise.cpuToHf.lower

/-- TMB, where it has run from CK_REF, goes on with CK_LF. -/
def State.timebaseToLf (s : State) : State :=
  if s.tb.run == .ref then { s with tb := { s.tb with run := .lf, frac := 0 } }.raise F.tmbStatLf else s

theorem timebaseToLf_pw (s : State) : s.timebaseToLf.pw = s.pw := by
  unfold State.timebaseToLf
  split <;> rfl

theorem timebaseToLf_chain (s : State) (c : Chain) : s.timebaseToLf.chain c = s.chain c := by
  unfold State.timebaseToLf
  split <;> rfl

theorem run_timebaseToLf {s : State} (h : s.tb.run = .ref) : s.timebaseToLf.tb.run = .lf := by
  unfold State.timebaseToLf
  rw [if_pos (by simp [h])]
  rfl

theorem exec_xrefFail {s : State} (h : s.flag F.pmuStatXrefrdy = true) :
    exec .xrefFail s = .next s.xrefClocksLost.timebaseToLf.xrefLostCapture.missRadio :=
  congrArg Host.Outcome.next (if_pos h)

theorem completes_xrefFail {s : State} (h : s.flag F.pmuStatXrefrdy = true) :
    Completes .xrefFail s fun t =>
      (∀ c, (s.chain c).holder = none) → t.pw = s.pw ∧ (s.tb.run = .ref → t.tb.run = .lf) := by
  refine ⟨_, exec_xrefFail h, fun hfree => ?_⟩
  have hcap := (CaptureOnly.refl s.xrefClocksLost.timebaseToLf).xrefLostCapture
  have hclocks := writesOnly_xrefClocksLost s
  have hnone : ∀ c, (s.xrefClocksLost.timebaseToLf.xrefLostCapture.chain c).holder = none := by
    intro c
    rw [hcap.chain, timebaseToLf_chain, hclocks.chain, hfree]
  rw [missRadio_of_no_holder hnone, hcap.pw, hcap.tb, timebaseToLf_pw, hclocks.pw]
  exact ⟨rfl, fun hrun => run_timebaseToLf (by rw [hclocks.tb, hrun])⟩

/-- Settles O12: a write leaves PLL-C within the ceiling, locks and losses set fields of STAT that lie apart, and
an XREF failure that finds no action on a chain touches clocks, timebase and captures alone. -/
theorem pllsAndXref : Obligations.PllsAndXref := by
  unfold Obligations.PllsAndXref
  intro s
  refine ⟨fun w hc => completes_pllcWrite hc w, fun w hc hr => ?refused,
    fun w hc hr => completes_pllfWrite_taken hc hr w, fun hx he => ?lockC, fun hx he => ?lockF, fun hl => ?lossC,
    fun hl => ?lossF, fun hs => ?ready, fun hx => completes_xrefFail hx⟩
  case refused =>
    exact ⟨_, exec_pllfWrite_refused hc hr w, State.flag_raise_self _ _ (by decide) (by decide),
      (WritesOnly.refl _ s).raise.regs⟩
  case lockC =>
    refine ⟨_, exec_pllLock_c hx he, ?_, State.flag_lower_self _ _ (by decide), (WritesOnly.refl _ s).raise.lower.regs⟩
    rw [flag_lower_of_apart _ (by decide) (by decide), State.flag_raise_self _ _ (by decide) (by decide)]
  case lockF =>
    exact ⟨_, exec_pllLock_f hx he, State.flag_raise_self _ _ (by decide) (by decide),
      (WritesOnly.refl _ s).raise.regs⟩
  case lossC =>
    refine ⟨_, exec_pllLockLoss_c hl, ?_, flag_clock_cpuToHf _, flag_cpuhf_cpuToHf _,
      (WritesOnly.refl _ s).raise.cpuToHf.regs⟩
    unfold State.cpuToHf
    rw [flag_raise_of_apart _ (by decide) (by decide), flag_lower_of_apart _ (by decide) (by decide),
      State.flag_raise_self _ _ (by decide) (by decide)]
  case lossF =>
    refine ⟨_, exec_pllLockLoss_f hl, ?_, State.flag_lower_self _ _ (by decide), (WritesOnly.refl _ s).raise.lower.regs⟩
    rw [flag_lower_of_apart _ (by decide) (by decide), State.flag_raise_self _ _ (by decide) (by decide)]
  case ready =>
    have hpoints := (WritesOnly.refl _ s.xrefQualified).setPoints s.xrefQualified.mode s.xrefQualified.profile
    refine ⟨_, exec_xrefReady hs, ?_⟩
    split
    case isTrue => exact ⟨flag_xrefrdy_xrefQualified s, rfl⟩
    case isFalse => exact ⟨(hpoints.flag (by decide)).trans (flag_xrefrdy_xrefQualified s), hpoints.pw⟩

end Sys2Proof.Machine
end

section
/-!
The waits of start-up and the handover: step 5 waits for XREF, step 6 for the journal's recovery and for the hold-up
measurement, and the handover starts the firmware and the watchdog (R140, R143, R146, R352, R354).
-/

namespace Sys2Proof.Machine

/-! ## START_UP (R140, R462) -/

theorem exec_startUp_first {s : State} (hb : s.pw.boot = .startup) (hp : s.flag F.pmuModestatPfail = false)
    (hs : s.fld F.sysBootstatStage ≠ 5) (tamper : Nat) :
    exec (.startUp false tamper) s = .next (s.bootFirst tamper) := by
  change execStartUp false tamper s = _
  simp [execStartUp, hb, hp, hs]

theorem exec_startUp_xref {s : State} (hb : s.pw.boot = .startup) (hp : s.flag F.pmuModestatPfail = false)
    (hs : s.fld F.sysBootstatStage = 5) (ha : s.sec.bootAlarm = false) (tamper : Nat) :
    exec (.startUp true tamper) s = .next (s.bootClocks true).bootToBackground := by
  change execStartUp true tamper s = _
  simp [execStartUp, hb, hp, hs, ha]

theorem stage_setStage (s : State) {n : Nat} (h : n < 16) : (s.setStage n).fld F.sysBootstatStage = n :=
  fld_setFld_of_lt s h (by decide)

/-- Steps 0 to 4 end in the tamper halt, or in step 5. -/
theorem bootFirst_halts_or_waits (s : State) (tamper : Nat) :
    (s.bootFirst tamper).pw.boot = .halt ∨ (s.bootFirst tamper).fld F.sysBootstatStage = 5 := by
  unfold State.bootFirst
  extract_lets
  split
  case isTrue => exact .inl rfl
  case isFalse => exact .inr (stage_setStage _ (by decide))

/-! ## XREF_START_TIMEOUT (R143) -/

/-- The other XREF mode is written and flagged. -/
def State.xrefAlternate (s : State) : State :=
  (s.setFld F.pmuXrefcfgMode (1 - s.fld F.pmuXrefcfgMode)).raise F.sysBootflagsXrefalt

theorem writesOnly_xrefAlternate (s : State) : WritesOnly [A.pmuXrefcfg, A.sysBootflags] s s.xrefAlternate :=
  (WritesOnly.refl _ s).setFld.raise

theorem mode_xrefAlternate (s : State) :
    s.xrefAlternate.fld F.pmuXrefcfgMode = 1 - s.fld F.pmuXrefcfgMode := by
  have hmode : 1 - s.fld F.pmuXrefcfgMode < 2 ^ F.pmuXrefcfgMode.width :=
    Nat.lt_succ_of_le (Nat.sub_le 1 _)
  exact (State.fld_setFld_ne _ 1 (by decide)).trans (fld_setFld_of_lt s hmode (by decide))

theorem exec_xrefStartTimeout_first {s : State} (hb : s.pw.boot = .startup) (hs : s.fld F.sysBootstatStage = 5)
    (hx : s.flag F.pmuStatXrefrdy = false) (ha : s.sec.bootAlarm = false) (hr : s.pw.xrefRetried = false) :
    exec .xrefStartTimeout s =
      .next { s.xrefAlternate with pw := { s.pw with xrefRetried := true, xrefStarting := true } } := by
  change execXrefStartTimeout s = _
  simp [execXrefStartTimeout, State.xrefAlternate, hb, hs, hx, ha, hr]

/-! ## The waits of step 6 (R352, R354) -/

theorem exec_journalRecoveryDone {s : State} (hb : s.pw.boot = .background) (hr : s.pw.recovered = false) :
    ∃ u : State, exec .journalRecoveryDone s = .next { u with pw := { u.pw with recovered := true } } :=
  ⟨_, congrArg Host.Outcome.next (if_pos (by simp [hb, hr]))⟩

/-- The result of a hold-up measurement, its failure flag, notice and response leave `PMU.MODESTAT` alone. -/
theorem modestat_finishHoldup (s : State) (fall : Nat) (stayed : Bool) :
    (s.finishHoldup fall stayed).reg A.pmuModestat = s.reg A.pmuModestat := by
  unfold State.finishHoldup
  extract_lets c pass s1 s2 s3 s4 host j s5
  have hresult : KeepsMode s s2 := (KeepsMode.refl s).setFld.setFld.setFld.raise
  have hfail : KeepsMode s s3 := .ite hresult hresult.raise
  have hnotice : KeepsMode s s4 := .ite hfail hfail.notice
  cases host with
  | none => exact hnotice.modestat
  | some o => exact (KeepsMode.refl s5).respond.modestat.trans hnotice.modestat

/-- The state once a hold-up measurement in the background has its result. -/
def State.holdupMeasured (s : State) (fall : Nat) (stayed : Bool) : State :=
  let t := s.finishHoldup fall stayed
  if t.flag F.jrnHoldresPass then t else t.raise F.sysBootflagsHoldup

theorem pfail_holdupMeasured (s : State) (fall : Nat) (stayed : Bool) :
    (s.holdupMeasured fall stayed).flag F.pmuModestatPfail = s.flag F.pmuModestatPfail := by
  have hpfail : (s.finishHoldup fall stayed).flag F.pmuModestatPfail = s.flag F.pmuModestatPfail := by
    unfold State.flag State.fld State.regN
    rw [show F.pmuModestatPfail.addr = A.pmuModestat from rfl, modestat_finishHoldup]
  unfold State.holdupMeasured
  extract_lets t
  split
  · exact hpfail
  · exact (State.flag_raise_ne t (by decide)).trans hpfail

theorem exec_holdupMeasurementDone {s : State} (hb : s.pw.boot = .background) (hd : s.pw.holdupDone = false)
    (hp : s.flag F.pmuModestatPfail = false) (fall : Nat) (stayed : Bool) :
    exec (.holdupMeasurementDone fall stayed) s =
      .next { s.holdupMeasured fall stayed with
        pw := { (s.holdupMeasured fall stayed).pw with holdupDone := true } } := by
  have hpfail : ¬ (s.holdupMeasured fall stayed).flag F.pmuModestatPfail = true := by
    rw [pfail_holdupMeasured, hp]
    exact Bool.false_ne_true
  exact congrArg Host.Outcome.next ((if_pos (by simp [hb, hd])).trans (if_neg hpfail))

/-! ## HANDOVER (R139, R146) -/

theorem core_pipRelease (s : State) (k pc : Nat) : (s.pipRelease k pc).core k = PipCore.start k pc := by
  simp [State.pipRelease, State.setCore, State.core]

theorem fld_pipRelease (s : State) (k pc : Nat) (f : Fld) : (s.pipRelease k pc).fld f = s.fld f := rfl

theorem fld_startFirmware (s : State) {f : Fld} (hf : f.addr ≠ A.rstWdtcnt) : s.startFirmware.fld f = s.fld f := by
  unfold State.startFirmware
  extract_lets u
  have hu : u.fld f = s.fld f := by
    unfold u
    split
    · rfl
    · exact fld_pipRelease ..
  exact (State.fld_setFld_ne _ _ hf).trans hu

theorem dormant_startFirmware (s : State) : s.startFirmware.dormant = s.dormant := by
  unfold State.dormant State.mode
  rw [fld_startFirmware s (by decide)]

theorem run_startFirmware {s : State} (h : s.dormant = false) : (s.startFirmware.core 0).run = .running := by
  have hcore : s.startFirmware.core 0 = (s.pipRelease 0 s.fw.entry).core 0 := by
    unfold State.startFirmware
    rw [if_neg (Bool.eq_false_iff.1 h)]
    rfl
  rw [hcore, core_pipRelease]
  rfl

theorem watchdogPaused_startFirmware (s : State) : s.startFirmware.pw.watchdogPaused = false := rfl

theorem wdtcnt_startFirmware (s : State) :
    s.startFirmware.fld F.rstWdtcntCount = s.startFirmware.fld F.rstWdtcfgTimeout := by
  unfold State.startFirmware
  extract_lets u fw v
  have htimeout : v.fld F.rstWdtcfgTimeout < 2 ^ F.rstWdtcntCount.width := bitsOf_lt ..
  exact (fld_setFld_of_lt _ htimeout (by decide)).trans (State.fld_setFld_ne _ _ (by decide)).symm

/-- The start of the firmware is the last thing step 10 does. -/
theorem exec_handover_run {s : State} (hb : s.pw.boot = .background) (hr : s.pw.recovered = true)
    (hd : s.pw.holdupDone = true) (ha : s.sec.bootAlarm = false) (hf : s.flag F.sysBootflagsFwnone = false)
    (t9 t10 : Nat) : ∃ u : State, exec (.handover t9 t10) s = .next u.startFirmware := by
  have hboot : exec (.handover t9 t10) s = .next (((s.bootLink 9 t9).bootNotices).bootRun t10) := by
    change execHandover t9 t10 s = _
    simp [execHandover, hb, hr, hd, ha, hf]
  exact ⟨_, hboot⟩

/-- Settles O16: each event either writes the phase it ends in last, or leaves what the next wait goes by alone; the
handover ends with the start of the firmware, which reloads the watchdog and releases core 0 out of DORMANT. -/
theorem startUpReachesHandover : Obligations.StartUpReachesHandover := by
  unfold Obligations.StartUpReachesHandover
  intro s
  refine ⟨fun tamper hb hp hs => ?first, fun tamper hb hp hs ha => ?ready, fun hb hs hx ha hr => ?timeout,
    fun hb hr => ?recovery, fun fall stayed hb hd hp => ?holdup, fun t9 t10 hb hr hd ha hf => ?handover⟩
  case first => exact ⟨_, exec_startUp_first hb hp hs tamper, bootFirst_halts_or_waits s tamper⟩
  case ready => exact ⟨_, exec_startUp_xref hb hp hs ha tamper, rfl⟩
  case timeout =>
    exact ⟨_, exec_xrefStartTimeout_first hb hs hx ha hr, mode_xrefAlternate s,
      State.flag_raise_self _ _ (by decide) (by decide), rfl, (writesOnly_xrefAlternate s).regs⟩
  case recovery =>
    obtain ⟨u, hu⟩ := exec_journalRecoveryDone hb hr
    exact ⟨_, hu, rfl⟩
  case holdup => exact ⟨_, exec_holdupMeasurementDone hb hd hp fall stayed, rfl⟩
  case handover =>
    obtain ⟨u, hu⟩ := exec_handover_run hb hr hd ha hf t9 t10
    exact ⟨_, hu, fun h => run_startFirmware ((dormant_startFirmware u).symm.trans h),
      watchdogPaused_startFirmware u, wdtcnt_startFirmware u⟩

end Sys2Proof.Machine
end

section
/-!
What goes on beside the radio front end: the event fabric, captures, outcomes of actions, in-line security, budgets and
the host link leave the registers of RFS, RFT, WKR and CHZ, the radio's state, the timebase and memory alone.
-/

namespace Sys2Proof.Machine

/-- `s` comes from `r` by changes beside the radio front end: registers below DMD's, which are those of the front end
and of the blocks before it, the radio's state, the timebase and memory are as in `r`. Each function below has one
lemma, named after it, that says so. -/
structure KeepsFront (r s : State) : Prop where
  reg : ∀ a, a < A.dmdStat → s.reg a = r.reg a
  rf : s.rf = r.rf
  tb : s.tb = r.tb
  memory : r.sameMemory s

namespace KeepsFront

variable {r s t : State} {α β : Type} {c : Prop} {i : Decidable c}

theorem refl (s : State) : KeepsFront s s := ⟨fun _ _ => rfl, rfl, rfl, fun _ => rfl⟩

/-! ### What is kept -/

theorem fld (h : KeepsFront r s) {f : Fld} (hf : f.addr < A.dmdStat) : s.fld f = r.fld f := by
  unfold State.fld State.regN
  rw [h.reg f.addr hf]

theorem flag (h : KeepsFront r s) {f : Fld} (hf : f.addr < A.dmdStat) : s.flag f = r.flag f := by
  unfold State.flag
  rw [h.fld hf]

theorem regN (h : KeepsFront r s) {a : Nat} (ha : a < A.dmdStat) : s.regN a = r.regN a := by
  unfold State.regN
  rw [h.reg a ha]

theorem chain (h : KeepsFront r s) (c : Chain) : s.chain c = r.chain c := by
  unfold State.chain
  rw [h.rf]

theorem store (h : KeepsFront r s) (c : Chain) : s.store c = r.store c := by
  unfold State.store
  rw [h.rf]

theorem chState (h : KeepsFront r s) (c : Chain) : s.chState c = r.chState c :=
  h.fld (by cases c <;> decide)

/-! ### Branches and folds -/

theorem ite (hs : KeepsFront r s) (ht : KeepsFront r t) : KeepsFront r (if c then s else t) := by
  split
  · exact hs
  · exact ht

theorem ite_fst {p q : State × β} (hp : KeepsFront r p.1) (hq : KeepsFront r q.1) :
    KeepsFront r (if c then p else q).1 := by
  split
  · exact hp
  · exact hq

theorem of_fst {p : State × β} {b : β} (h : KeepsFront r p.1) (e : p = (t, b)) : KeepsFront r t := by
  rw [e] at h
  exact h

theorem of_snd_snd {p : α × β × State} {a : α} {b : β} (h : KeepsFront r p.2.2) (e : p = (a, b, t)) :
    KeepsFront r t := by
  rw [e] at h
  exact h

theorem foldl {f : State → α → State} {l : List α} (h : KeepsFront r s)
    (hf : ∀ t a, KeepsFront r t → KeepsFront r (f t a)) : KeepsFront r (l.foldl f s) := by
  induction l generalizing s with
  | nil => exact h
  | cons a l ih => exact ih (hf s a h)

/-- A pass over channels or cells, its range and the fold going by names: the kernel would else run the pass. -/
theorem of_foldl {F : (State × β → α → State × β) → State × β → List α → State × β}
    (hF : @List.foldl (State × β) α = F) {f : State × β → α → State × β} {l : List α} {b b' : β}
    (e : F f (s, b) l = (t, b')) (h : KeepsFront r s) (hf : ∀ p a, KeepsFront r p.1 → KeepsFront r (f p a).1) :
    KeepsFront r t := by
  subst hF
  refine of_fst ?_ e
  clear e
  induction l generalizing s b with
  | nil => exact h
  | cons a l ih => exact ih (s := (f (s, b) a).1) (b := (f (s, b) a).2) (hf (s, b) a h)

theorem foldl_fst {f : State × β → α → State × β} {l : List α} {b : β} (h : KeepsFront r s)
    (hf : ∀ p a, KeepsFront r p.1 → KeepsFront r (f p a).1) : KeepsFront r (l.foldl f (s, b)).1 :=
  of_foldl rfl rfl h hf

/-! ### Changes beside the front end -/

/-- Anything changes but the registers, the radio, the timebase and what memory is read from. -/
theorem other {free brd hsl icu evf cap dec lnk tnt jrn sec} (h : KeepsFront r s) :
    KeepsFront r { s with
      free := free, brd := brd, hsl := hsl, icu := icu, evf := evf, cap := cap, dec := dec, lnk := lnk, tnt := tnt,
      jrn := jrn, sec := sec } :=
  ⟨h.reg, h.rf, h.tb, h.memory⟩

/-- The registers from DMD's on are those of the other blocks. -/
theorem setReg (h : KeepsFront r s) {a : Nat} {w : Word} (ha : A.dmdStat ≤ a := by decide) :
    KeepsFront r (s.setReg a w) :=
  ⟨fun b hb => (State.reg_setReg_ne s w (Nat.ne_of_lt (Nat.lt_of_lt_of_le hb ha))).trans (h.reg b hb), h.rf, h.tb,
    h.memory⟩

theorem setRegN (h : KeepsFront r s) {a n : Nat} (ha : A.dmdStat ≤ a := by decide) : KeepsFront r (s.setRegN a n) :=
  h.setReg ha

theorem raise (h : KeepsFront r s) {f : Fld} (ha : A.dmdStat ≤ f.addr := by decide) : KeepsFront r (s.raise f) :=
  h.setReg ha

theorem count (h : KeepsFront r s) {a : Nat} (ha : A.dmdStat ≤ a := by decide) : KeepsFront r (s.count a) :=
  h.setReg ha

/-- An entry of a bank of registers whose first one lies from DMD on. -/
theorem le_entry {b k : Nat} (hb : A.dmdStat ≤ b := by decide) : A.dmdStat ≤ b + k := Nat.le_add_right_of_le hb

theorem draw (h : KeepsFront r s) {m : Nat} : KeepsFront r (s.draw m).2 := h.other

/-! ### The host link -/

theorem respond (h : KeepsFront r s) {o : Origin} {code : Nat} {st : Status} {rest : List Byte} :
    KeepsFront r (s.respond o code st rest) := by
  obtain ⟨x, hx | hx⟩ := respond_cases s o code st rest
  · rw [hx]
    exact h.other
  · rw [hx]
    exact h.other.count

theorem taking (h : KeepsFront r s) {o : Origin} : KeepsFront r (s.taking o) := h.other.count.other

/-! ### Interrupts -/

theorem le_icuBank (core : Nat) : A.dmdStat ≤ icuBank core := by
  unfold icuBank
  split
  · decide
  · exact le_entry

theorem irqTime (h : KeepsFront r s) : KeepsFront r s.irqTime.2.2 := by
  unfold State.irqTime
  split
  · exact h.draw (m := 2 ^ 32)
  · exact h

theorem irqSetPending (h : KeepsFront r s) {k edge payload : Nat} : KeepsFront r (s.irqSetPending k edge payload) := by
  unfold State.irqSetPending
  extract_lets _
  refine .ite (h.other.count (le_entry (le_entry (le_icuBank _)))) ?_
  split
  exact (h.irqTime.of_snd_snd ‹_›).other

theorem irqSample (h : KeepsFront r s) {k : Nat} {level : Bool} {payload : Nat} :
    KeepsFront r (s.irqSample k level payload) := by
  unfold State.irqSample
  extract_lets _ _ s1
  have h1 : KeepsFront r s1 := h.other
  refine .ite (.ite h1 (.ite ?_ (.ite h1.other h1))) (.ite h1.irqSetPending (.ite h1.irqSetPending h1))
  split
  exact (h1.irqTime.of_snd_snd ‹_›).other

/-! ### The event fabric -/

theorem setEvf (h : KeepsFront r s) {e : EvfState} : KeepsFront r (s.setEvf e) := h.other

theorem holdEdge (h : KeepsFront r s) {det : Nat} {g : HeldEdge} : KeepsFront r (s.holdEdge det g) := by
  unfold State.holdEdge
  split
  · exact h.other
  · exact h.other

theorem evLatchIn (h : KeepsFront r s) {i ref : Nat} {t : EvLatch} : KeepsFront r (s.evLatchIn i ref t) := by
  unfold State.evLatchIn
  extract_lets _
  refine .ite h ?_
  split
  · exact h.setEvf
  · exact h.setEvf
  · exact .ite h.count.raise h.count.raise

theorem evConsumers (h : KeepsFront r s) {ref : Nat} {rising : Bool} {t : EvLatch} :
    KeepsFront r (s.evConsumers ref rising t) := by
  unfold State.evConsumers
  refine h.foldl fun _ _ h1 => ?_
  split
  exact .ite (.ite h1.holdEdge h1.evLatchIn) h1

theorem aonSet (h : KeepsFront r s) {w : EvWave} {a : Nat} {lv : Bool} : KeepsFront r (s.aonSet w a lv).1 :=
  .ite_fst h (KeepsFront.ite h.setEvf (irqSample (evConsumers (.ite (h.setEvf.count le_entry) h.setEvf))))

theorem aonUpdate (h : KeepsFront r s) {w : EvWave} {pick : Nat → Bool} : KeepsFront r (s.aonUpdate w pick).1 :=
  h.foldl_fst fun _ _ h1 => .ite_fst h1.aonSet h1

theorem cellDrive (h : KeepsFront r s) {k : Nat} {lv settle : Bool} : KeepsFront r (s.cellDrive k lv settle).1 :=
  .ite_fst h.setEvf.setEvf h.setEvf

theorem cellSees (h : KeepsFront r s) {w : EvWave} {k m : Nat} {rising : Bool} :
    KeepsFront r (s.cellSees w k m rising).1 :=
  .ite_fst h (.ite_fst h.cellDrive (.ite_fst (.ite_fst h.cellDrive (h.draw (m := 2)).cellDrive) h))

theorem outSet (h : KeepsFront r s) {w : EvWave} {m : Nat} {lv : Bool} : KeepsFront r (s.outSet w m lv).1 := by
  unfold State.outSet
  generalize hF : @List.foldl (State × EvWork) Nat = F
  refine .ite_fst h ?_
  extract_lets _ _ s1 s2 s3
  have h1 : KeepsFront r s1 := .ite h.setEvf (evConsumers (.ite (h.setEvf.count le_entry) h.setEvf))
  have h2 : KeepsFront r s2 := .ite h1 (h1.foldl fun _ _ h => .ite h.irqSample h)
  have h3 : KeepsFront r s3 :=
    .ite (h2.foldl fun _ _ h => .ite (setEvf (.ite h.setEvf h)) (.ite h.setEvf h)) h2
  split
  rename_i e
  exact .of_foldl hF e h3 fun _ _ h => .ite_fst h.cellSees h

theorem mainSet (h : KeepsFront r s) {w : EvWave} {m : Nat} {lv : Bool} : KeepsFront r (s.mainSet w m lv).1 :=
  .ite_fst h (.ite_fst h.setEvf.outSet h.setEvf.count)

theorem evChange (h : KeepsFront r s) {w : EvWave} {code : Nat} {lv : Bool} :
    KeepsFront r (s.evChange w code lv).1 := by
  unfold State.evChange
  generalize hF : @List.foldl (State × EvWork) Nat = F
  split
  rename_i e
  exact (KeepsFront.of_foldl hF e h fun _ _ h => .ite_fst h.mainSet h).aonUpdate

theorem evRun (h : KeepsFront r s) {fuel : Nat} {w : EvWave} {work : EvWork} : KeepsFront r (evRun fuel w work s) := by
  induction fuel generalizing s work with
  | zero => exact h
  | succ fuel ih =>
    rcases work with _ | ⟨⟨code, lv⟩, rest⟩
    · exact h
    · rw [Machine.evRun]
      split
      exact ih (h.evChange.of_fst ‹_›)

theorem evSettle (h : KeepsFront r s) {w : EvWave} : KeepsFront r (s.evSettle w) := by
  unfold State.evSettle
  generalize hF : @List.foldl (State × EvWork) Nat = F
  split
  rename_i e
  exact (KeepsFront.of_foldl hF e h fun _ _ h => .ite_fst h.cellDrive h).evRun

theorem evPulse (h : KeepsFront r s) {code : Nat} : KeepsFront r (s.evPulse code) :=
  .ite h.holdEdge h.evRun.evRun.evSettle

/-! ### Captures -/

theorem setCtx (h : KeepsFront r s) {n : Nat} {x : Ctx} : KeepsFront r (s.setCtx n x) := h.other

theorem ctxCount (h : KeepsFront r s) {n k : Nat} : KeepsFront r (s.ctxCount n k) := h.count le_entry

theorem unserved (h : KeepsFront r s) {b reason : Nat} : KeepsFront r (s.unserved b reason) := by
  refine raise (h.count ?_)
  split
  · exact le_entry
  · exact le_entry

theorem abandonCtx (h : KeepsFront r s) {n reason : Nat} : KeepsFront r (s.abandonCtx n reason) :=
  have h1 : KeepsFront r ((s.ctxFree n).dropFrame (s.ctx n).frame) := h.setCtx.other
  unserved (.ite h1.ctxCount.raise h1.ctxCount)

theorem setBandSt (h : KeepsFront r s) {b : Nat} {x : BandState} : KeepsFront r (s.setBandSt b x) :=
  .ite h.other h.other

theorem cutBand (h : KeepsFront r s) {b reason : Nat} : KeepsFront r (s.cutBand b reason) :=
  ((h.foldl fun _ _ h => h.abandonCtx).foldl fun _ _ h => h.unserved).setBandSt

theorem narrowDrop (h : KeepsFront r s) {n : Nat} : KeepsFront r (s.narrowDrop n) := h.setCtx.other

/-! ### Outcomes of actions -/

theorem setSlot (h : KeepsFront r s) {n : Nat} {x : Slot} : KeepsFront r (s.setSlot n x) := h.other

theorem lnkCount (h : KeepsFront r s) {k : Nat} : KeepsFront r (s.lnkCount k) := h.count le_entry

theorem countOutcome (h : KeepsFront r s) {st reason : Nat} : KeepsFront r (s.countOutcome st reason) :=
  .ite h.lnkCount (.ite h.lnkCount (.ite h.lnkCount.raise (.ite h.lnkCount (.ite h.lnkCount.raise h))))

theorem fixOutcome (h : KeepsFront r s) {n : Nat} {st : Status} {reason : Nat} :
    KeepsFront r (s.fixOutcome n st reason) := h.setSlot.countOutcome

theorem cancelChain (h : KeepsFront r s) {fuel n : Nat} : KeepsFront r (s.cancelChain fuel n) := by
  induction fuel generalizing s n with
  | zero => exact h
  | succ fuel ih => exact h.fixOutcome.foldl fun _ _ h => ih h

theorem settle (h : KeepsFront r s) {anchor m : Nat} : KeepsFront r (s.settle anchor m) := .ite h.cancelChain h.setSlot

/-! ### Frames: in-line security and budgets -/

theorem mapMsg (h : KeepsFront r s) {j : Nat} {f : Msg → Msg} : KeepsFront r (s.mapMsg j f) := h.other

theorem frameCounter (h : KeepsFront r s) {k : Nat} {msg : Option Nat} : KeepsFront r (s.frameCounter k msg).2 := by
  unfold State.frameCounter
  split
  · exact h
  · extract_lets fc s1 s2 s3
    have h1 : KeepsFront r s1 := h.setRegN le_entry
    have h2 : KeepsFront r s2 := .ite h1.raise h1
    have h3 : KeepsFront r s3 := by
      unfold s3
      split
      · exact h2.mapMsg
      · exact h2
    split
    · exact h
    · exact h3

theorem framePsdu (h : KeepsFront r s) {n : Nat} : KeepsFront r (s.framePsdu n).2 := by
  unfold State.framePsdu
  extract_lets a x
  split
  case isTrue => exact h
  case isFalse =>
    split
    case h_1 => exact h
    case h_2 =>
      split
      case h_1 => exact h
      case h_2 k _ =>
        have hc := h.frameCounter (k := k) (msg := (s.slotDesc n).bind Desc.msg)
        split
        case h_1 e => rwa [e] at hc
        case h_2 e =>
          rw [e] at hc
          exact hc.count le_entry

theorem bucketCharge (h : KeepsFront r s) {t n : Nat} {bands : List Nat} : KeepsFront r (s.bucketCharge t n bands) :=
  h.foldl fun _ _ h => .ite h h.other

end KeepsFront
end Sys2Proof.Machine
end

section
/-!
A radio chain: its state code, its loops and what holds it (R161, R166).
-/

namespace Sys2Proof.Machine

variable {s t u : State} {c d : Chain} {l : List Nat}

/-! ## A chain's state beside the registers -/

@[simp] theorem chain_setChain_self (s : State) (c : Chain) (x : ChainState) : (s.setChain c x).chain c = x := by
  cases c
  · rfl
  · rfl

theorem chain_setChain_ne (s : State) (x : ChainState) (h : d ≠ c) : (s.setChain c x).chain d = s.chain d := by
  cases c
  · cases d
    · exact absurd rfl h
    · rfl
  · cases d
    · rfl
    · exact absurd rfl h

/-- A chain's own state lies in the radio's alone. -/
theorem setChain_eq (s : State) (c : Chain) (x : ChainState) : ∃ rf, s.setChain c x = { s with rf := rf } := by
  cases c
  · exact ⟨_, rfl⟩
  · exact ⟨_, rfl⟩

@[simp] theorem reg_setChain (s : State) (c : Chain) (x : ChainState) (a : Nat) : (s.setChain c x).reg a = s.reg a := by
  obtain ⟨rf, h⟩ := setChain_eq s c x
  rw [h]
  rfl

@[simp] theorem fld_setChain (s : State) (c : Chain) (x : ChainState) (f : Fld) : (s.setChain c x).fld f = s.fld f := by
  obtain ⟨rf, h⟩ := setChain_eq s c x
  rw [h]
  rfl

@[simp] theorem flag_setChain (s : State) (c : Chain) (x : ChainState) (f : Fld) :
    (s.setChain c x).flag f = s.flag f := by
  rw [State.flag, fld_setChain]
  rfl

@[simp] theorem chState_setChain (s : State) (c d : Chain) (x : ChainState) :
    (s.setChain c x).chState d = s.chState d :=
  fld_setChain ..

@[simp] theorem byte_setChain (s : State) (c : Chain) (x : ChainState) (a : Nat) :
    (s.setChain c x).byte a = s.byte a := by
  obtain ⟨rf, h⟩ := setChain_eq s c x
  rw [h]
  rfl

@[simp] theorem setChain_lnk (s : State) (c : Chain) (x : ChainState) : (s.setChain c x).lnk = s.lnk := by
  obtain ⟨rf, h⟩ := setChain_eq s c x
  rw [h]

@[simp] theorem setChain_tb (s : State) (c : Chain) (x : ChainState) : (s.setChain c x).tb = s.tb := by
  obtain ⟨rf, h⟩ := setChain_eq s c x
  rw [h]

/-! ## Writes of a chain's registers -/

namespace WritesOnly

theorem fld (h : WritesOnly l s t) {f : Fld} (hf : f.addr ∉ l) : t.fld f = s.fld f := by
  unfold State.fld State.regN
  rw [h.regs f.addr hf]

theorem store (h : WritesOnly l s t) (c : Chain) : t.store c = s.store c := by
  rw [h.rest]
  rfl

theorem lnk (h : WritesOnly l s t) : t.lnk = s.lnk := by rw [h.rest]

theorem setBit (h : WritesOnly l s t) {a n : Nat} (ha : a ∈ l) : WritesOnly l s (t.setBit a n) := h.setReg ha

theorem clearBit (h : WritesOnly l s t) {a n : Nat} (ha : a ∈ l) : WritesOnly l s (t.clearBit a n) := h.setReg ha

theorem count (h : WritesOnly l s t) {a : Nat} (ha : a ∈ l) : WritesOnly l s (t.count a) := h.setReg ha

theorem satCount (h : WritesOnly l s t) {f : Fld} (hf : f.addr ∈ l) : WritesOnly l s (t.satCount f) := h.setReg hf

theorem setChState (h : WritesOnly l s t) {n : Nat} (hs : A.rfsStat c ∈ l) (hr : A.rfsRssi c ∈ l) :
    WritesOnly l s (t.setChState c n) :=
  .ite (h.setFld hs) ((h.setFld hs).setFld hr)

theorem showFreq (h : WritesOnly l s t) (hf : A.rfsFreq c ∈ l) : WritesOnly l s (t.showFreq c) :=
  .ite (h.setFld hf) (h.setFld hf)

end WritesOnly

/-! ## Fields at a place

The fields of a chain's registers lie at places that do not depend on the chain: the side conditions below are about the
places alone. -/

theorem fld_setFld_beside (s : State) {a i w j v : Nat} (x : Nat) (h : i + w ≤ j ∨ j + v ≤ i := by decide)
    (h32 : i + w ≤ 32 := by decide) : (s.setFld ⟨a, i, w⟩ x).fld ⟨a, j, v⟩ = s.fld ⟨a, j, v⟩ :=
  fld_setFld_apart s x rfl h32 h

theorem flag_setFld_beside (s : State) {a i w j v : Nat} (x : Nat) (h : i + w ≤ j ∨ j + v ≤ i := by decide)
    (h32 : i + w ≤ 32 := by decide) : (s.setFld ⟨a, i, w⟩ x).flag ⟨a, j, v⟩ = s.flag ⟨a, j, v⟩ :=
  flag_setFld_apart s x rfl h32 h

theorem fld_setFld_at (s : State) {a i w x : Nat} (hx : x < 2 ^ w) (h32 : i + w ≤ 32 := by decide) :
    (s.setFld ⟨a, i, w⟩ x).fld ⟨a, i, w⟩ = x := fld_setFld_of_lt s hx h32

theorem flag_raise_at (s : State) {a i : Nat} (h : i < 32 := by decide) : (s.raise ⟨a, i, 1⟩).flag ⟨a, i, 1⟩ = true :=
  State.flag_raise_self s _ h Nat.one_pos

theorem flag_lower_at (s : State) {a i : Nat} (h : i < 32 := by decide) : (s.lower ⟨a, i, 1⟩).flag ⟨a, i, 1⟩ = false :=
  State.flag_lower_self s _ h

/-! ## The state code (R166) -/

theorem chState_setChState (s : State) (c : Chain) {n : Nat} (h : n < 16) : (s.setChState c n).chState c = n := by
  have hself : (s.setFld (F.rfsStatState c) n).chState c = n := fld_setFld_at s h
  unfold State.setChState
  extract_lets u
  split
  · exact hself
  · exact (State.fld_setFld_ne u _ (by cases c <;> decide)).trans hself

/-- The other fields of STAT lie above the state code. -/
theorem chState_setFld_stat (s : State) {i w : Nat} (v : Nat) (h : 4 ≤ i := by decide) (h32 : i + w ≤ 32 := by decide) :
    (s.setFld ⟨A.rfsStat c, i, w⟩ v).chState c = s.chState c := fld_setFld_beside s v (.inr h) h32

theorem chState_showFreq (s : State) (c d : Chain) : (s.showFreq c).chState d = s.chState d :=
  ((WritesOnly.refl [A.rfsFreq c] s).showFreq (.head _)).fld (by cases c <;> cases d <;> decide)

theorem chain_showFreq (s : State) (c d : Chain) : (s.showFreq c).chain d = s.chain d :=
  ((WritesOnly.refl [A.rfsFreq c] s).showFreq (.head _)).chain d

theorem chain_setChState (s : State) (c d : Chain) (n : Nat) : (s.setChState c n).chain d = s.chain d :=
  ((WritesOnly.refl [A.rfsStat c, A.rfsRssi c] s).setChState (.head _) (.tail _ (.head _))).chain d

theorem ofSigned_lt (w : Nat) (i : Int) : ofSigned w i < 2 ^ w := by
  have hpos : (0 : Int) < 2 ^ w := by positivity
  have hnn := Int.emod_nonneg i hpos.ne'
  have hlt := Int.emod_lt_of_pos i hpos
  unfold ofSigned
  zify
  rw [Int.toNat_of_nonneg hnn]
  exact hlt

end Sys2Proof.Machine
end

section
/-!
The states of a radio chain (R163, R166-R168, R173-R177, R252).
-/

namespace Sys2Proof.Machine

variable {s t u : State} {c d : Chain}

/-! ## Locking (R166, R252) -/

theorem exec_chainLockStart_standby (hu : s.comUp = true) (hx : s.flag F.pmuStatXrefrdy = true)
    (hd : s.dueWithin c 10000 = true) (hc : s.chState c = 1) :
    exec (.chainLockStart c) s = .next (s.setChState c 2) := by
  change execChainLockStart c s = _
  simp [execChainLockStart, hu, hx, hd, hc]

/-- In WATCH the chain's domain is powered first. -/
theorem exec_chainLockStart_off (hu : s.comUp = true) (hx : s.flag F.pmuStatXrefrdy = true)
    (hd : s.dueWithin c 10000 = true) (hc : s.chState c = 0) (hm : s.mode = 1) :
    exec (.chainLockStart c) s =
      .next (((s.setBit A.pmuDomstat (chainDomain c).bit).setChState c 1).setChState c 2) := by
  have hoff : (s.setBit A.pmuDomstat (chainDomain c).bit).chState c = 0 :=
    (State.fld_setRegN_ne s _ (by cases c <;> decide)).trans hc
  have hon : (s.setBit A.pmuDomstat (chainDomain c).bit).chainOn c =
      (s.setBit A.pmuDomstat (chainDomain c).bit).setChState c 1 := if_pos hoff
  change execChainLockStart c s = _
  simp [execChainLockStart, hu, hx, hd, hc, hm, hon, chState_setChState]

theorem domainOn_chainDomain (s : State) (c : Chain) :
    s.domainOn (chainDomain c) = s.bit A.pmuDomstat (chainDomain c).bit := by
  cases c
  · rfl
  · rfl

theorem exec_channelLock (h : s.chState c = 2) :
    exec (.channelLock c) s = .next (((s.setChState c 3).raise (F.rfsStatChlock c)).showFreq c) :=
  congrArg Host.Outcome.next (if_pos h)

theorem exec_lockfail (h : s.chState c = 2) :
    exec (.lockfail c) s = .next ((s.setChState c 1).raise (F.rfsIntstatLockfail c)) :=
  congrArg Host.Outcome.next (if_pos h)

theorem fld_freq_showFreq (h : s.flag (F.rfsStatChlock c) = true) :
    (s.showFreq c).fld (F.rfsFreqFreq c) = ofSigned 30 ((s.chain c).rxFreq + (s.chain c).carrier) := by
  unfold State.showFreq
  rw [if_pos h]
  exact fld_setFld_at s (ofSigned_lt ..)

theorem completes_channelLock (h : s.chState c = 2) :
    Completes (.channelLock c) s fun t =>
      t.chState c = 3 ∧ t.flag (F.rfsStatChlock c) = true
      ∧ t.fld (F.rfsFreqFreq c) = ofSigned 30 ((s.chain c).rxFreq + (s.chain c).carrier)
      ∧ s.sameRegsBut t [A.rfsStat c, A.rfsRssi c, A.rfsFreq c] ∧ s.sameMemory t := by
  have hlock : ((s.setChState c 3).raise (F.rfsStatChlock c)).flag (F.rfsStatChlock c) = true := flag_raise_at _
  have hstate : ((s.setChState c 3).raise (F.rfsStatChlock c)).chState c = 3 :=
    (chState_setFld_stat _ 1).trans (chState_setChState s c (by decide))
  have hlocked : WritesOnly [A.rfsStat c, A.rfsRssi c, A.rfsFreq c] s ((s.setChState c 3).raise (F.rfsStatChlock c)) :=
    ((WritesOnly.refl _ s).setChState (.head _) (.tail _ (.head _))).raise (.head _)
  have hwrites := hlocked.showFreq (c := c) (.tail _ (.tail _ (.head _)))
  refine ⟨_, exec_channelLock h, (chState_showFreq _ c c).trans hstate, ?_, ?_, hwrites.regs, hwrites.sameMemory⟩
  · exact (((WritesOnly.refl [A.rfsFreq c] _).showFreq (.head _)).flag (by cases c <;> decide)).trans hlock
  · rw [fld_freq_showFreq hlock, hlocked.chain]

theorem completes_lockfail (h : s.chState c = 2) :
    Completes (.lockfail c) s fun t =>
      t.chState c = 1 ∧ t.flag (F.rfsIntstatLockfail c) = true
      ∧ s.sameRegsBut t [A.rfsStat c, A.rfsRssi c, A.rfsIntstat c] ∧ s.sameMemory t := by
  have hwrites : WritesOnly [A.rfsStat c, A.rfsRssi c, A.rfsIntstat c] s
      ((s.setChState c 1).raise (F.rfsIntstatLockfail c)) :=
    ((WritesOnly.refl _ s).setChState (.head _) (.tail _ (.head _))).raise (.tail _ (.tail _ (.head _)))
  refine ⟨_, exec_lockfail h, ?_, flag_raise_at _, hwrites.regs, hwrites.sameMemory⟩
  exact (State.fld_setFld_ne _ 1 (by cases c <;> decide)).trans (chState_setChState s c (by decide))

theorem completes_chainLockStart_off (hu : s.comUp = true) (hx : s.flag F.pmuStatXrefrdy = true)
    (hd : s.dueWithin c 10000 = true) (hc : s.chState c = 0) (hm : s.mode = 1) :
    Completes (.chainLockStart c) s fun t => t.chState c = 2 ∧ t.domainOn (chainDomain c) = true := by
  refine ⟨_, exec_chainLockStart_off hu hx hd hc hm, chState_setChState _ c (by decide), ?_⟩
  have hwrites : WritesOnly [A.rfsStat c, A.rfsRssi c] (s.setBit A.pmuDomstat (chainDomain c).bit)
      (((s.setBit A.pmuDomstat (chainDomain c).bit).setChState c 1).setChState c 2) :=
    ((WritesOnly.refl _ _).setChState (.head _) (.tail _ (.head _))).setChState (.head _) (.tail _ (.head _))
  rw [domainOn_chainDomain, State.bit, State.regN, hwrites.regs A.pmuDomstat (by cases c <;> decide)]
  exact bit_setBit_self s _ (by cases c <;> decide)

/-! ## Idling and automatic calibration (R173, R252) -/

/-- READY to STANDBY, the channel loop unlocked. -/
def State.chainIdled (s : State) (c : Chain) : State :=
  ((s.setChState c 1).lower (F.rfsStatChlock c)).setFld (F.rfsFreqFreq c) 0

theorem writesOnly_chainIdled (s : State) (c : Chain) :
    WritesOnly [A.rfsStat c, A.rfsRssi c, A.rfsFreq c] s (s.chainIdled c) :=
  (((WritesOnly.refl _ s).setChState (.head _) (.tail _ (.head _))).lower (.head _)).setFld
    (.tail _ (.tail _ (.head _)))

/-- Outside WATCH and LASTGASP the domain stays on. -/
theorem exec_chainIdle (hc : s.chState c = 3) (hh : (s.chain c).holder = none)
    (hd : s.dueWithin c (40000 * s.fld F.lnkCfgIdle) = false) (h1 : s.mode ≠ 1) (h5 : s.mode ≠ 5) :
    exec (.chainIdle c) s = .next (s.chainIdled c) := by
  have hmode : (s.chainIdled c).mode = s.mode := (writesOnly_chainIdled s c).fld (by cases c <;> decide)
  unfold State.chainIdled at hmode ⊢
  change execChainIdle c s = _
  simp [execChainIdle, hc, hh, hd, hmode, h1, h5]

theorem completes_chainIdle (hc : s.chState c = 3) (hh : (s.chain c).holder = none)
    (hd : s.dueWithin c (40000 * s.fld F.lnkCfgIdle) = false) (h1 : s.mode ≠ 1) (h5 : s.mode ≠ 5) :
    Completes (.chainIdle c) s fun t =>
      t.chState c = 1 ∧ t.flag (F.rfsStatChlock c) = false ∧ t.fld (F.rfsFreqFreq c) = 0 ∧ s.sameMemory t := by
  have hne : A.rfsStat c ≠ A.rfsFreq c := by cases c <;> decide
  refine ⟨_, exec_chainIdle hc hh hd h1 h5, ?_, ?_, fld_setFld_at _ (by decide), (writesOnly_chainIdled s c).sameMemory⟩
  · exact (State.fld_setFld_ne _ 0 hne).trans
      ((chState_setFld_stat _ 0).trans (chState_setChState s c (by decide)))
  · exact (State.flag_setFld_ne _ 0 hne).trans (flag_lower_at _)

theorem exec_calAutoStart (ha : s.flag (F.rfsCalAuto c) = true) (hd : s.flag (F.rfsStatCaldue c) = true)
    (hc : s.chState c = 1) (hw : s.dueWithin c 800000 = false) :
    exec (.calAutoStart c) s = .next (s.setChState c 9) :=
  congrArg Host.Outcome.next (if_pos (by simp [ha, hd, hc, hw]))

/-! ## Coexistence (R175, R176) -/

theorem exec_coexRequest {n : Nat} (hh : (s.chain c).holder = some n) (hn : n < 512)
    (he : s.flag (F.rfsCoexEn c) = true) (hr : (s.act n).transmits = true ∨ s.flag (F.rfsCoexRxreq c) = true) :
    exec (.coexRequest c) s = .next (s.setChain c { s.chain c with cxReq := true, cxPri := (s.act n).pri }) := by
  change execCoexRequest c s = _
  simp [execCoexRequest, hh, hn, he, hr]

/-- The grant is withdrawn. -/
def State.ungranted (s : State) (c : Chain) : State := s.setChain c { s.chain c with granted := false }

theorem exec_cxGntLoss (he : s.flag (F.rfsCoexEn c) = true) (hg : (s.chain c).granted = true) (hl : 5 ≤ s.chState c)
    (hh : s.chState c ≤ 7) :
    exec (.cxGntLoss c) s =
      .next (((s.ungranted c).satCount (F.rfsCoexcntLoss c)).raise (F.rfsIntstatGntloss c)) :=
  congrArg Host.Outcome.next (if_pos (by simp [he, hg, hl, hh]))

theorem satAdd_lt {m a w : Nat} (h : m < 2 ^ w) : satAdd m a 1 < 2 ^ w := by
  unfold satAdd
  split
  · omega
  · exact h

/-- A field that counts holds one more, up to its largest value. -/
theorem fld_satCount_at (s : State) {a i w : Nat} (h32 : i + w ≤ 32 := by decide) :
    (s.satCount ⟨a, i, w⟩).fld ⟨a, i, w⟩ = satAdd (2 ^ w - 1) (s.fld ⟨a, i, w⟩) 1 :=
  fld_setFld_at s (satAdd_lt (Nat.sub_lt (Nat.two_pow_pos w) Nat.one_pos)) h32

theorem completes_cxGntLoss (he : s.flag (F.rfsCoexEn c) = true) (hg : (s.chain c).granted = true)
    (hl : 5 ≤ s.chState c) (hh : s.chState c ≤ 7) :
    Completes (.cxGntLoss c) s fun t =>
      (t.chain c).granted = false ∧ t.flag (F.rfsIntstatGntloss c) = true
      ∧ t.fld (F.rfsCoexcntLoss c) = satAdd 0xFFFF (s.fld (F.rfsCoexcntLoss c)) 1
      ∧ s.sameRegsBut t [A.rfsCoexcnt c, A.rfsIntstat c] ∧ s.sameMemory t := by
  have hwrites : WritesOnly [A.rfsCoexcnt c, A.rfsIntstat c] (s.ungranted c)
      (((s.ungranted c).satCount (F.rfsCoexcntLoss c)).raise (F.rfsIntstatGntloss c)) :=
    ((WritesOnly.refl [A.rfsCoexcnt c, A.rfsIntstat c] (s.ungranted c)).satCount (.head _)).raise (.tail _ (.head _))
  refine ⟨_, exec_cxGntLoss he hg hl hh, ?_, flag_raise_at _, ?_, fun a ha => ?_, fun a => ?_⟩
  · rw [hwrites.chain, State.ungranted, chain_setChain_self]
  · rw [← fld_setChain s c { s.chain c with granted := false }]
    exact (State.fld_setFld_ne _ 1 (by cases c <;> decide)).trans (fld_satCount_at _)
  · exact (hwrites.regs a ha).trans (reg_setChain ..)
  · exact (hwrites.sameMemory a).trans (byte_setChain ..)

/-! ## The power drop of a frame (R163) -/

theorem exec_pwrdrop (hl : 5 ≤ s.chState c) (hh : s.chState c ≤ 7) :
    exec (.pwrdrop c) s =
      .next (s.setFld (F.rfsTxpwrClamp c) (setBitsOf (s.fld (F.rfsTxpwrClamp c)) 3 1 1)) :=
  congrArg Host.Outcome.next (if_pos (by simp [hl, hh]))

theorem completes_pwrdrop (hl : 5 ≤ s.chState c) (hh : s.chState c ≤ 7) :
    Completes (.pwrdrop c) s fun t =>
      bitAt (t.fld (F.rfsTxpwrClamp c)) 3 = true ∧ s.sameRegsBut t [A.rfsTxpwr c] ∧ s.sameMemory t := by
  have hwrites : WritesOnly [A.rfsTxpwr c] s
      (s.setFld (F.rfsTxpwrClamp c) (setBitsOf (s.fld (F.rfsTxpwrClamp c)) 3 1 1)) :=
    (WritesOnly.refl _ s).setFld (.head _)
  have hclamp : s.fld (F.rfsTxpwrClamp c) < 2 ^ 4 := bitsOf_lt ..
  have hset : setBitsOf (s.fld (F.rfsTxpwrClamp c)) 3 1 1 < 2 ^ 4 := by
    unfold setBitsOf
    omega
  refine ⟨_, exec_pwrdrop hl hh, ?_, hwrites.regs, hwrites.sameMemory⟩
  have hfld : (s.setFld (F.rfsTxpwrClamp c) (setBitsOf (s.fld (F.rfsTxpwrClamp c)) 3 1 1)).fld (F.rfsTxpwrClamp c)
      = setBitsOf (s.fld (F.rfsTxpwrClamp c)) 3 1 1 := fld_setFld_at s hset
  rw [hfld, bitAt_eq, bitsOf_setBitsOf_self]
  rfl

end Sys2Proof.Machine
end

section
/-!
The transmit gate (R163, R177, R179) and what frees a chain of its action (R166, R251).
-/

namespace Sys2Proof.Machine

variable {s t u v : State} {c d : Chain}

/-! ## A chain is freed of its action -/

/-- Both chains are freed where the action of a slot holds them, as its work's end and its outcome do. -/
def State.freeChains (s : State) (n : Nat) : State :=
  [Chain.s, Chain.t].foldl (fun s c => if (s.chain c).holder = some n then s.releaseChain c else s) s

theorem finishAction_eq (s : State) (n : Nat) (st : Status) (reason : Nat) :
    s.finishAction n st reason =
      (((s.freeChains n).fixOutcome n st reason).followersOf n).foldl (fun s m => s.settle n m)
        ((s.freeChains n).fixOutcome n st reason) := rfl

/-- `t` comes from `s` by freeing chains: of each chain the holder, the coexistence signals and the receive enable change,
an open receiver ends in READY, and nothing else changes but RSSI with it. -/
structure FreesChains (s t : State) : Prop where
  regs : s.sameRegsBut t [A.rfsStat .s, A.rfsRssi .s, A.rfsStat .t, A.rfsRssi .t]
  memory : s.sameMemory t
  chain : ∀ c, t.chain c = { s.chain c with
    holder := (t.chain c).holder, cxReq := (t.chain c).cxReq, cxPri := (t.chain c).cxPri,
    femRx := (t.chain c).femRx, granted := (t.chain c).granted }
  chState : ∀ c, s.chState c ≠ 4 → t.chState c = s.chState c

namespace FreesChains

theorem refl (s : State) : FreesChains s s := ⟨fun _ _ => rfl, fun _ => rfl, fun _ => rfl, fun _ _ => rfl⟩

theorem fld (h : FreesChains s t) {f : Fld} (hf : f.addr ∉ [A.rfsStat .s, A.rfsRssi .s, A.rfsStat .t, A.rfsRssi .t]) :
    t.fld f = s.fld f := by
  unfold State.fld State.regN
  rw [h.regs f.addr hf]

theorem trans (h : FreesChains s t) (g : FreesChains t u) : FreesChains s u where
  regs a ha := (g.regs a ha).trans (h.regs a ha)
  memory a := (g.memory a).trans (h.memory a)
  chain c := by rw [g.chain c, h.chain c]
  chState c hc := by
    have ht := h.chState c hc
    rw [g.chState c (by rwa [ht]), ht]

end FreesChains

/-- The chain without its action. -/
def State.chainFreed (s : State) (c : Chain) : State :=
  s.setChain c { s.chain c with holder := none, cxReq := false, cxPri := false, femRx := false, granted := false }

theorem releaseChain_eq (s : State) (c : Chain) :
    s.releaseChain c = if s.chState c = 4 then (s.chainFreed c).setChState c 3 else s.chainFreed c := by
  rw [← chState_setChain s c c { s.chain c with
    holder := none, cxReq := false, cxPri := false, femRx := false, granted := false }]
  rfl

theorem chain_releaseChain (s : State) (c d : Chain) : (s.releaseChain c).chain d = (s.chainFreed c).chain d := by
  rw [releaseChain_eq]
  split
  · exact chain_setChState ..
  · rfl

theorem freesChains_chainFreed (s : State) (c : Chain) : FreesChains s (s.chainFreed c) where
  regs a _ := reg_setChain ..
  memory a := byte_setChain ..
  chain d := by
    by_cases hd : d = c
    · subst hd
      simp [State.chainFreed]
    · rw [State.chainFreed, chain_setChain_ne _ _ hd]
  chState d _ := chState_setChain ..

theorem rfsStat_notMem (h : d ≠ c) : A.rfsStat d ∉ [A.rfsStat c, A.rfsRssi c] := by
  revert h
  cases c <;> cases d <;> decide

theorem freesChains_releaseChain (s : State) (c : Chain) : FreesChains s (s.releaseChain c) := by
  have hfreed := freesChains_chainFreed s c
  rw [releaseChain_eq]
  split
  case isFalse => exact hfreed
  case isTrue h4 =>
    have hwrites : WritesOnly [A.rfsStat .s, A.rfsRssi .s, A.rfsStat .t, A.rfsRssi .t] (s.chainFreed c)
        ((s.chainFreed c).setChState c 3) :=
      (WritesOnly.refl _ _).setChState (by cases c <;> decide) (by cases c <;> decide)
    refine hfreed.trans ⟨hwrites.regs, hwrites.sameMemory, fun d => by rw [hwrites.chain], fun d hd => ?_⟩
    have hdc : d ≠ c := by
      rintro rfl
      exact hd ((chState_setChain ..).trans h4)
    exact ((WritesOnly.refl [A.rfsStat c, A.rfsRssi c] _).setChState (.head _) (.tail _ (.head _))).fld
      (rfsStat_notMem hdc)

theorem freesChains_freeChains (s : State) (n : Nat) : FreesChains s (s.freeChains n) := by
  have one (s : State) (c : Chain) :
      FreesChains s (if (s.chain c).holder = some n then s.releaseChain c else s) := by
    split
    · exact freesChains_releaseChain s c
    · exact .refl s
  exact (one s .s).trans (one _ .t)

/-- The chain that the action held is free. -/
theorem holder_freeChains {n : Nat} (h : (s.chain c).holder = some n) : ((s.freeChains n).chain c).holder = none := by
  have hself (s : State) (c : Chain) : ((s.releaseChain c).chain c).holder = none := by
    rw [chain_releaseChain, State.chainFreed, chain_setChain_self]
  have hne (s : State) {c d : Chain} (hd : d ≠ c) : (s.releaseChain c).chain d = s.chain d := by
    rw [chain_releaseChain, State.chainFreed, chain_setChain_ne _ _ hd]
  unfold State.freeChains
  simp only [List.foldl_cons, List.foldl_nil]
  cases c
  case s =>
    rw [if_pos h]
    split
    · rw [hne _ (by decide), hself]
    · exact hself s .s
  case t =>
    have ht : ((if (s.chain .s).holder = some n then s.releaseChain .s else s).chain .t) = s.chain .t := by
      split
      · exact hne s (by decide)
      · rfl
    rw [if_pos (by rw [ht, h]), hself]

/-- The outcome of an action comes after its chains are free. -/
theorem keepsFront_finishAction (s : State) (n : Nat) (st : Status) (reason : Nat) :
    KeepsFront (s.freeChains n) (s.finishAction n st reason) := by
  rw [finishAction_eq]
  exact (KeepsFront.refl _).fixOutcome.foldl fun _ _ h => h.settle

/-! ## The transmit gate (R177) -/

/-- A refusal's reason is one of the four of R177. -/
theorem gateReason_le {a : Act} {r b : Nat} (h : s.gateReason a = some (r, b)) : r ≤ 4 := by
  unfold State.gateReason at h
  extract_lets at h
  split at h
  · cases h; decide
  · split at h
    · cases h; decide
    · split at h
      · cases h; decide
      · split at h
        · cases h; decide
        · split at h
          · cases h; decide
          · cases h

/-- The lines of TRANSMIT_GATE that decide: an action that transmits next, within its setup time. -/
structure State.AtGate (s : State) (c : Chain) (n : Nat) : Prop where
  holds : (s.chain c).holder = some n
  claimed : (s.slot n).state = 2
  live : (s.slot n).ended = false
  transmits : (s.act n).transmits = true
  heard : s.mustListen n = false
  empty : (s.chain c).tx = none
  ready : s.chState c = 3
  due : (s.slot n).start.getD 0 ≤ s.tb.now + s.rampOf c (s.act n).mode
    + (if s.flag (F.rfsCoexEn c) then 40 * s.fld (F.rfsCoexGntsu c) else 400)
  early : s.tb.now + s.rampOf c (s.act n).mode ≤ (s.slot n).start.getD 0

theorem exec_transmitGate_refused {n r b : Nat} (h : s.AtGate c n) (hr : s.gateReason (s.act n) = some (r, b))
    (vpa : Nat) : exec (.transmitGate c vpa) s = .next (s.gateRefuse c n r b) := by
  obtain ⟨hh, hst, hend, htx, hheard, hempty, hready, hdue, hearly⟩ := h
  change execTransmitGate c vpa s = _
  unfold execTransmitGate
  simp [hh, hst, hend, htx, hheard, hempty, hready, hdue, not_lt.2 hearly, hr]

theorem exec_transmitGate_passed {n : Nat} (h : s.AtGate c n) (hr : s.gateReason (s.act n) = none) (vpa : Nat) :
    exec (.transmitGate c vpa) s = .next (s.gatePass c n vpa) := by
  obtain ⟨hh, hst, hend, htx, hheard, hempty, hready, hdue, hearly⟩ := h
  change execTransmitGate c vpa s = _
  unfold execTransmitGate
  simp [hh, hst, hend, htx, hheard, hempty, hready, hdue, not_lt.2 hearly, hr]

/-! ### Refusals -/

/-- GATE and INTSTAT show a refusal. -/
def State.refusalShown (s : State) (c : Chain) (r b : Nat) : State :=
  ((s.setFld (F.rfsGateReason c) r).setFld (F.rfsGateBand c) b).raise (F.rfsIntstatGateref c)

/-- A refusal before the action's outcome is fixed: it is counted, and the chain is READY, unblanked. -/
def State.gateShut (s : State) (c : Chain) (r b : Nat) : State :=
  let u := if r = 4 then (s.refusalShown c r b).satCount (F.rfsCoexcntDeny c) else s.refusalShown c r b
  (((u.setChState c 3).lower (F.rfsStatBlank c)).lnkCount 5).raise F.lnkIntstatGateref

theorem gateRefuse_eq (s : State) (c : Chain) (n r b : Nat) :
    s.gateRefuse c n r b = (s.gateShut c r b).finishAction n (if r ≤ 2 then .notPermitted else .busy) r := rfl

theorem fld_reason_refusalShown (s : State) (c : Chain) {r b : Nat} (hr : r < 16) :
    (s.refusalShown c r b).fld (F.rfsGateReason c) = r :=
  (State.fld_setFld_ne _ 1 (by cases c <;> decide)).trans ((fld_setFld_beside _ b).trans (fld_setFld_at s hr))

theorem writesOnly_gateShut (s : State) (c : Chain) (r b : Nat) :
    WritesOnly [A.rfsStat c, A.rfsRssi c, A.rfsCoexcnt c, A.lnkCtr 5, A.lnkIntstat] (s.refusalShown c r b)
      (s.gateShut c r b) := by
  have hrefl := WritesOnly.refl [A.rfsStat c, A.rfsRssi c, A.rfsCoexcnt c, A.lnkCtr 5, A.lnkIntstat]
    (s.refusalShown c r b)
  have hcounted := WritesOnly.ite (c := r = 4) (i := inferInstance)
    (hrefl.satCount (f := F.rfsCoexcntDeny c) (.tail _ (.tail _ (.head _)))) hrefl
  exact (((hcounted.setChState (.head _) (.tail _ (.head _))).lower (.head _)).count
    (.tail _ (.tail _ (.tail _ (.head _))))).raise (.tail _ (.tail _ (.tail _ (.tail _ (.head _)))))

theorem chain_gateShut (s : State) (c d : Chain) (r b : Nat) : (s.gateShut c r b).chain d = s.chain d :=
  (writesOnly_gateShut s c r b).chain d

theorem completes_transmitGate_refused {n r b : Nat} (h : s.AtGate c n)
    (hr : s.gateReason (s.act n) = some (r, b)) (vpa : Nat) :
    Completes (.transmitGate c vpa) s fun t =>
      t.fld (F.rfsGateReason c) = r ∧ t.flag (F.rfsIntstatGateref c) = true ∧ (t.chain c).holder = none := by
  have hshut := writesOnly_gateShut s c r b
  have hfree := freesChains_freeChains (s.gateShut c r b) n
  have hdone := keepsFront_finishAction (s.gateShut c r b) n (if r ≤ 2 then .notPermitted else .busy) r
  have hheld : ((s.gateShut c r b).chain c).holder = some n := by rw [chain_gateShut, h.holds]
  refine ⟨_, exec_transmitGate_refused h hr vpa, ?_⟩
  rw [gateRefuse_eq]
  refine ⟨?reason, ?flag, ?holder⟩
  case reason =>
    rw [hdone.fld (by cases c <;> decide), hfree.fld (by cases c <;> decide), hshut.fld (by cases c <;> decide)]
    exact fld_reason_refusalShown s c (Nat.lt_of_le_of_lt (gateReason_le hr) (by decide))
  case flag =>
    rw [State.flag, hdone.fld (by cases c <;> decide), hfree.fld (by cases c <;> decide),
      hshut.fld (by cases c <;> decide)]
    exact flag_raise_at ((s.setFld (F.rfsGateReason c) r).setFld (F.rfsGateBand c) b)
  case holder => rw [hdone.chain, holder_freeChains hheld]

/-! ### Frames that pass -/

theorem WritesOnly.recordPower {l : List Nat} (h : WritesOnly l s t) {a : Act} {vpa : Nat} (hp : A.rfsTxpwr c ∈ l)
    (hi : A.rfsIntstat c ∈ l) : WritesOnly l s (t.recordPower c a vpa) :=
  have hshown := (((h.setFld (f := F.rfsTxpwrVpa c) (v := vpa) hp).setFld (f := F.rfsTxpwrReq c) hp).setFld
    (f := F.rfsTxpwrApplied c) hp).setFld (f := F.rfsTxpwrClamp c) hp
  .ite hshown (hshown.raise hi)

/-- GATE shows that no check refuses, and the power is recorded. -/
def State.gateOpen (s : State) (c : Chain) (a : Act) (vpa : Nat) : State :=
  ((s.setFld (F.rfsGateReason c) 0).setFld (F.rfsGateBand c) 0xFF).recordPower c a vpa

theorem writesOnly_gateOpen (s : State) (c : Chain) (a : Act) (vpa : Nat) :
    WritesOnly [A.rfsGate c, A.rfsTxpwr c, A.rfsIntstat c] s (s.gateOpen c a vpa) :=
  (((WritesOnly.refl [A.rfsGate c, A.rfsTxpwr c, A.rfsIntstat c] s).setFld (f := F.rfsGateReason c) (.head _)).setFld
    (f := F.rfsGateBand c) (.head _)).recordPower (.tail _ (.head _)) (.tail _ (.tail _ (.head _)))

theorem fld_gate_gateOpen (s : State) (c : Chain) (a : Act) (vpa : Nat) :
    (s.gateOpen c a vpa).fld (F.rfsGateReason c) = 0 ∧ (s.gateOpen c a vpa).fld (F.rfsGateBand c) = 0xFF := by
  have hpower : WritesOnly [A.rfsTxpwr c, A.rfsIntstat c] ((s.setFld (F.rfsGateReason c) 0).setFld (F.rfsGateBand c) 0xFF)
      (s.gateOpen c a vpa) := (WritesOnly.refl _ _).recordPower (.head _) (.tail _ (.head _))
  constructor
  · rw [hpower.fld (by cases c <;> decide)]
    exact (fld_setFld_beside _ _).trans (fld_setFld_at s (by decide))
  · rw [hpower.fld (by cases c <;> decide)]
    exact fld_setFld_at _ (by decide)

/-- In-line security changes no slot. -/
theorem lnk_frameCounter (s : State) (k : Nat) (msg : Option Nat) : (s.frameCounter k msg).2.lnk = s.lnk := by
  unfold State.frameCounter
  split
  · rfl
  · extract_lets fc s1 s2 s3
    have h2 : s2.lnk = s.lnk := by
      unfold s2
      split
      · rfl
      · rfl
    have h3 : s3.lnk = s2.lnk := by
      unfold s3
      split
      · rfl
      · rfl
    split
    · rfl
    · exact h3.trans h2

theorem lnk_framePsdu (s : State) (n : Nat) : (s.framePsdu n).2.lnk = s.lnk := by
  unfold State.framePsdu
  extract_lets a x
  split
  · rfl
  · split
    case h_1 => rfl
    case h_2 =>
      split
      case h_1 => rfl
      case h_2 k _ =>
        have hc := lnk_frameCounter s k ((s.slotDesc n).bind Desc.msg)
        split
        case h_1 e =>
          rw [e] at hc
          exact hc
        case h_2 e =>
          rw [e] at hc
          exact hc

theorem lnk_bucketCharge (s : State) (t n : Nat) (bands : List Nat) : (s.bucketCharge t n bands).lnk = s.lnk := by
  unfold State.bucketCharge
  induction bands generalizing s with
  | nil => rfl
  | cons b bands ih =>
    rw [List.foldl_cons, ih]
    split
    · rfl
    · rfl

/-- A frame has passed its gate in `s` (R177): the gate shows so, the chain's state stands, and the chain holds the frame
of the action with the times and limits of `s`. -/
structure State.FramePassed (s : State) (c : Chain) (n : Nat) (t : State) : Prop where
  reason : t.fld (F.rfsGateReason c) = 0
  band : t.fld (F.rfsGateBand c) = 0xFF
  chState : t.chState c = s.chState c
  frame : ∃ f, (t.chain c).tx = some f ∧ f.slot = n ∧ f.mode = (s.act n).mode ∧ f.freq = (s.act n).freq
    ∧ f.firstSym = (s.slot n).start.getD s.tb.now ∧ f.ramp = (s.store c).ramp

theorem framePassed_gatePass {n : Nat} (h : (s.framePsdu n).1.isSome = true) (c : Chain) (vpa : Nat) :
    s.FramePassed c n (s.gatePass c n vpa) := by
  have hsec := (KeepsFront.refl s).framePsdu (n := n)
  have hlnk := lnk_framePsdu s n
  unfold State.gatePass
  extract_lets a wants
  split
  case h_1 e =>
    rw [e] at h
    cases h
  case h_2 p u e =>
    rw [e] at hsec hlnk
    change KeepsFront s u at hsec
    change u.lnk = s.lnk at hlnk
    extract_lets s1 s2 bands s3 first point stamp ie s4 psdu ramp f x s5
    have hopen : s2 = u.gateOpen c a vpa := rfl
    have hwrites := writesOnly_gateOpen u c a vpa
    obtain ⟨hreason, hband⟩ := fld_gate_gateOpen u c a vpa
    rw [← hopen] at hwrites hreason hband
    have h3 : KeepsFront s2 s3 := .ite (.bucketCharge (.refl s2)) (.refl s2)
    have h4 : KeepsFront s2 s4 := .ite (h3.count KeepsFront.le_entry).raise h3
    have hlnk3 : s3.lnk = s2.lnk := by
      unfold s3
      split
      · exact lnk_bucketCharge ..
      · rfl
    have hfirst : first = (s.slot n).start.getD s.tb.now := by
      unfold first State.slot
      rw [hlnk3, h3.tb, hwrites.lnk, hwrites.tb, hlnk, hsec.tb]
    have hramp : ramp = (s.store c).ramp := by
      unfold ramp
      rw [h4.store, hwrites.store, hsec.store]
    have hshow : WritesOnly [A.rfsFreq c] s5 (s5.showFreq c) := (WritesOnly.refl _ _).showFreq (.head _)
    refine ⟨?_, ?_, ?_, f, ?_, rfl, rfl, rfl, hfirst, hramp⟩
    · rw [hshow.fld (by cases c <;> decide), fld_setChain, h4.fld (by cases c <;> decide), hreason]
    · rw [hshow.fld (by cases c <;> decide), fld_setChain, h4.fld (by cases c <;> decide), hband]
    · rw [chState_showFreq, chState_setChain, h4.chState]
      exact (hwrites.fld (by cases c <;> decide)).trans (hsec.chState c)
    · rw [chain_showFreq, chain_setChain_self]

end Sys2Proof.Machine
end

section
/-!
Ramps and turnarounds (R164-R168).
-/

namespace Sys2Proof.Machine

variable {s t u v : State} {c d : Chain} {f : TxFrame}

/-! ## The end of the ramp-up and of the frame (R166, R258) -/

theorem exec_rampupEnd (hx : (s.chain c).tx = some f) (hc : s.chState c = 5) (hf : f.firstSym ≤ s.tb.now) :
    exec (.rampupEnd c) s = .next (s.setChState c 6) := by
  change execRampupEnd c s = _
  simp [execRampupEnd, hx, hc, hf]

theorem writesOnly_writeTxStamp (s : State) (c : Chain) (ns : Nat) :
    WritesOnly [A.ntmTxs0, A.ntmTxs1, A.ntmTxt0, A.ntmTxt1] s (s.writeTxStamp c ns) := by
  cases c
  · exact (WritesOnly.refl _ s).setRegN.setRegN
  · exact (WritesOnly.refl _ s).setRegN.setRegN

/-- The chain ramps down, and the stamp of its frame is in the registers. -/
def State.lastSymbolShown (s : State) (c : Chain) (f : TxFrame) : State :=
  match f.stampNs with
  | some ns => (s.setChState c 7).writeTxStamp c ns
  | none => s.setChState c 7

theorem writesOnly_lastSymbolShown (s : State) (c : Chain) (f : TxFrame) :
    WritesOnly [A.ntmTxs0, A.ntmTxs1, A.ntmTxt0, A.ntmTxt1] (s.setChState c 7) (s.lastSymbolShown c f) := by
  unfold State.lastSymbolShown
  split
  · exact writesOnly_writeTxStamp _ c _
  · exact .refl ..

/-- The chain after its frame's last symbol. -/
def State.lastSymbol (s : State) (c : Chain) (f : TxFrame) : State :=
  (s.lastSymbolShown c f).setChain c
    { (s.lastSymbolShown c f).chain c with
      lastSym := some (s.lastSymbolShown c f).tb.now, turnT := turnTicks f.mode, stamping := false }

theorem exec_txLastSymbol (hx : (s.chain c).tx = some f) (hc : s.chState c = 6)
    (hf : f.firstSym + f.airtime ≤ s.tb.now) :
    exec (.txLastSymbol c) s = .next ((s.lastSymbol c f).setSlot f.slot
      { (s.lastSymbol c f).slot f.slot with
        lastEnd := some (s.lastSymbol c f).tb.now, sent := ((s.lastSymbol c f).slot f.slot).sent + 1 }) := by
  change execTxLastSymbol c s = _
  unfold execTxLastSymbol
  simp only [hx]
  rw [if_pos (by simp [hc, hf])]
  rfl

theorem slot_setSlot_self (s : State) (n : Nat) (x : Slot) : (s.setSlot n x).slot n = x := by
  simp [State.slot, State.setSlot]

theorem completes_txLastSymbol (hx : (s.chain c).tx = some f) (hc : s.chState c = 6)
    (hf : f.firstSym + f.airtime ≤ s.tb.now) :
    Completes (.txLastSymbol c) s fun t =>
      t.chState c = 7 ∧ (t.chain c).lastSym = some s.tb.now ∧ (t.slot f.slot).lastEnd = some s.tb.now
      ∧ (t.slot f.slot).sent = (s.slot f.slot).sent + 1 ∧ s.sameMemory t := by
  have hstate : WritesOnly [A.rfsStat c, A.rfsRssi c] s (s.setChState c 7) :=
    (WritesOnly.refl _ s).setChState (.head _) (.tail _ (.head _))
  have hshown := writesOnly_lastSymbolShown s c f
  have htb : (s.lastSymbolShown c f).tb = s.tb := hshown.tb.trans hstate.tb
  have hchain : (s.lastSymbol c f).chain c = _ := chain_setChain_self ..
  have hslot : (s.lastSymbol c f).slot f.slot = s.slot f.slot := by
    unfold State.slot State.lastSymbol
    rw [setChain_lnk, hshown.lnk, hstate.lnk]
  have htb' : (s.lastSymbol c f).tb = s.tb := by
    unfold State.lastSymbol
    rw [setChain_tb, htb]
  have hput := fun x => (KeepsFront.refl (s.lastSymbol c f)).setSlot (n := f.slot) (x := x)
  refine ⟨_, exec_txLastSymbol hx hc hf, ?_, ?_, ?_, ?_, fun a => ?_⟩
  · rw [(hput _).chState, State.lastSymbol, chState_setChain]
    exact (hshown.fld (by cases c <;> decide)).trans (chState_setChState s c (by decide))
  · rw [(hput _).chain, hchain, htb]
  · rw [slot_setSlot_self, htb']
  · rw [slot_setSlot_self, hslot]
  · rw [(hput _).memory a, State.lastSymbol, byte_setChain, hshown.sameMemory a, hstate.sameMemory a]

/-! ## The end of the ramp-down (R166, R168) -/

/-- The PA of a chain is off, no frame is on it, its carrier is where it receives, and memory is as in `s`. -/
structure State.PaOff (s : State) (c : Chain) (t : State) : Prop where
  pa : (t.chain c).pa = false
  tx : (t.chain c).tx = none
  carrier : (t.chain c).carrier = 0
  memory : s.sameMemory t

namespace State.PaOff

theorem of_chain_eq (h : s.PaOff c t) (hc : u.chain c = t.chain c) (hm : t.sameMemory u) : s.PaOff c u :=
  ⟨by rw [hc, h.pa], by rw [hc, h.tx], by rw [hc, h.carrier], fun a => (hm a).trans (h.memory a)⟩

theorem keepsFront (h : s.PaOff c t) (hu : KeepsFront t u) : s.PaOff c u := h.of_chain_eq (hu.chain c) hu.memory

theorem writesOnly {l : List Nat} (h : s.PaOff c t) (hu : WritesOnly l t u) : s.PaOff c u :=
  h.of_chain_eq (hu.chain c) hu.sameMemory

theorem freesChains (h : s.PaOff c t) (hu : FreesChains t u) : s.PaOff c u :=
  ⟨by rw [hu.chain, h.pa], by rw [hu.chain, h.tx], by rw [hu.chain, h.carrier],
    fun a => (hu.memory a).trans (h.memory a)⟩

theorem setCx (h : s.PaOff c t) (req pri : Bool) :
    s.PaOff c (t.setChain c { t.chain c with cxReq := req, cxPri := pri }) :=
  ⟨by rw [chain_setChain_self, h.pa], by rw [chain_setChain_self, h.tx], by rw [chain_setChain_self, h.carrier],
    fun a => (byte_setChain ..).trans (h.memory a)⟩

end State.PaOff

/-- The PA is switched off; the wake receiver's blanking counts from chain S's ramp-down (R183). -/
def State.paSwitchedOff (s : State) (c : Chain) : State :=
  let u := s.setChain c { s.chain c with pa := false, tx := none, femTx := false, carrier := 0, granted := false }
  if c = .s then { u with rf := { u.rf with wkrPaEnd := some u.tb.now } } else u

theorem paOff_paSwitchedOff (s : State) (c : Chain) : s.PaOff c (s.paSwitchedOff c) := by
  cases c
  · exact ⟨rfl, rfl, rfl, fun _ => rfl⟩
  · exact ⟨rfl, rfl, rfl, fun _ => rfl⟩

/-- READY, unblanked. -/
def State.unblanked (s : State) (c : Chain) : State := (s.setChState c 3).lower (F.rfsStatBlank c)

theorem writesOnly_unblanked (s : State) (c : Chain) : WritesOnly [A.rfsStat c, A.rfsRssi c] s (s.unblanked c) :=
  ((WritesOnly.refl _ s).setChState (.head _) (.tail _ (.head _))).lower (.head _)

theorem chState_unblanked (s : State) (c : Chain) : (s.unblanked c).chState c = 3 :=
  (chState_setFld_stat _ 0).trans (chState_setChState s c (by decide))

theorem flag_blank_unblanked (s : State) (c : Chain) : (s.unblanked c).flag (F.rfsStatBlank c) = false :=
  flag_lower_at _

/-- After a ramp-down comes a turnaround or READY. -/
theorem afterRampDown_eq (s : State) (c : Chain) (n last : Nat) :
    s.afterRampDown c n last = s.setChState c 8 ∨ s.afterRampDown c n last = s.unblanked c := by
  unfold State.afterRampDown
  split
  · exact .inl rfl
  · exact .inr rfl

theorem State.PaOff.afterRampDown (h : s.PaOff c t) (n last : Nat) :
    s.PaOff c (t.afterRampDown c n last)
      ∧ ((t.afterRampDown c n last).chState c = 3 ∨ (t.afterRampDown c n last).chState c = 8) := by
  obtain hu | hu := afterRampDown_eq t c n last
  · rw [hu]
    exact ⟨h.writesOnly ((WritesOnly.refl [A.rfsStat c, A.rfsRssi c] t).setChState (.head _) (.tail _ (.head _))),
      .inr (chState_setChState t c (by decide))⟩
  · rw [hu]
    exact ⟨h.writesOnly (writesOnly_unblanked t c), .inl (chState_unblanked t c)⟩

theorem State.PaOff.rampDown (s : State) (c : Chain) (f : TxFrame) :
    s.PaOff c (s.rampDown c f) ∧ ((s.rampDown c f).chState c = 3 ∨ (s.rampDown c f).chState c = 8) := by
  have hoff : s.PaOff c ((s.paSwitchedOff c).showFreq c) :=
    (paOff_paSwitchedOff s c).writesOnly ((WritesOnly.refl [A.rfsFreq c] _).showFreq (.head _))
  unfold State.rampDown
  extract_lets n a y last more ch s1 rf s2 s3 r s4 keep s5 s6
  have h3 : s.PaOff c s3 := hoff
  clear_value s3
  split
  · exact ⟨(h3.keepsFront (.setSlot (.refl s3))).writesOnly (writesOnly_unblanked _ c), .inl (chState_unblanked _ c)⟩
  · have h5 : s.PaOff c s5 := (h3.freesChains (freesChains_freeChains s3 n)).keepsFront (.setSlot (.refl _))
    exact (h5.setCx keep (keep && ch.cxPri)).afterRampDown n last

theorem exec_rampdnEnd (hx : (s.chain c).tx = some f) (hc : s.chState c = 7)
    (hf : (s.chain c).lastSym.getD 0 + f.rampTime ≤ s.tb.now) :
    exec (.rampdnEnd c) s = .next (s.rampDown c f) := by
  change execRampdnEnd c s = _
  simp [execRampdnEnd, hx, hc, hf]

/-! ## Turnarounds (R166-R168) -/

theorem exec_turnEnd_ramp {n : Nat} (hx : (s.chain c).tx = some f) (hc : s.chState c = 8)
    (hh : (s.chain c).holder = some n) (hf : f.firstSym - f.rampTime ≤ s.tb.now) :
    exec (.turnEnd c) s = .next (s.rampUp c n f) := by
  change execTurnEnd c s = _
  simp only [execTurnEnd, hx, hc, hh]
  simp [hf]

theorem exec_turnEnd_free (hc : s.chState c = 8) (hh : (s.chain c).holder = none)
    (hp : (s.chain c).lastSym.getD 0 + (s.chain c).turnT ≤ s.tb.now) :
    exec (.turnEnd c) s = .next (s.unblanked c) := by
  change execTurnEnd c s = _
  simp only [execTurnEnd, hc, hh]
  simp [hp, State.unblanked]

/-- Ramp-up has begun, before other receptions on the chain are cut. -/
def State.rampBegun (s : State) (c : Chain) (f : TxFrame) : State :=
  let u := (s.setChState c 5).raise (F.rfsStatBlank c)
  u.setChain c { u.chain c with pa := true, binBands := (u.chain c).binBands ++ f.bands, femTx := true, femRx := false }

theorem rampBegun_shows (s : State) (c : Chain) (f : TxFrame) :
    (s.rampBegun c f).chState c = 5 ∧ ((s.rampBegun c f).chain c).pa = true
      ∧ (s.rampBegun c f).flag (F.rfsStatBlank c) = true := by
  unfold State.rampBegun
  rw [chState_setChain, chain_setChain_self, flag_setChain]
  exact ⟨(chState_setFld_stat _ 1).trans (chState_setChState s c (by decide)), rfl, flag_raise_at _⟩

theorem rampUp_shows (s : State) (c : Chain) (n : Nat) (f : TxFrame) :
    (s.rampUp c n f).chState c = 5 ∧ ((s.rampUp c n f).chain c).pa = true
      ∧ (s.rampUp c n f).flag (F.rfsStatBlank c) = true := by
  unfold State.rampUp
  extract_lets s1 s2 x s3 s4 s5 rf s6
  obtain ⟨hstate, hpa, hblank⟩ : s3.chState c = 5 ∧ (s3.chain c).pa = true ∧ s3.flag (F.rfsStatBlank c) = true :=
    rampBegun_shows s c f
  have h4 : KeepsFront s3 s4 := .ite (.narrowDrop (.refl s3)) (.refl s3)
  have h5 : KeepsFront s3 s5 := .ite h4.cutBand h4
  clear_value s3 s4 s5
  have h6 : s6.chState c = s5.chState c ∧ (s6.chain c).pa = (s5.chain c).pa
      ∧ s6.flag (F.rfsStatBlank c) = s5.flag (F.rfsStatBlank c) := by
    unfold s6
    split
    · cases c
      · exact ⟨rfl, rfl, rfl⟩
      · exact ⟨rfl, rfl, rfl⟩
    · exact ⟨rfl, rfl, rfl⟩
  have hput := fun x => (KeepsFront.refl s6).setSlot (n := n) (x := x)
  obtain ⟨hstate6, hpa6, hblank6⟩ := h6
  refine ⟨?_, ?_, ?_⟩
  · rw [(hput _).chState, hstate6, h5.chState, hstate]
  · rw [(hput _).chain, hpa6, h5.chain, hpa]
  · rw [(hput _).flag (by cases c <;> decide), hblank6, h5.flag (by cases c <;> decide), hblank]

/-- Settles O28: each event writes the state code last but for fields that lie above it, and what it does beside the
chain leaves the front end alone. -/
theorem chainStateMachine : Obligations.ChainStateMachine := by
  unfold Obligations.ChainStateMachine
  intro s c
  refine ⟨fun hu hx hd => ⟨fun hc => ?lock, fun hc hm => completes_chainLockStart_off hu hx hd hc hm⟩,
    fun hc => ⟨completes_channelLock hc, completes_lockfail hc⟩,
    fun hc hh hd h1 h5 => completes_chainIdle hc hh hd h1 h5,
    fun ha hd hc hw => ⟨_, exec_calAutoStart ha hd hc hw, rfl⟩,
    fun n hh hn he hr => ?request,
    fun n vpa hh hst hend htx hheard hempty hc hdue hearly => ?gate,
    fun f hx => ⟨fun hc hf => ⟨_, exec_rampupEnd hx hc hf, rfl⟩, fun hc hf => completes_txLastSymbol hx hc hf,
      fun hc hf => ?rampDown, fun n hc hh hf => ⟨_, exec_turnEnd_ramp hx hc hh hf, rampUp_shows s c n f⟩⟩,
    fun hc hh hp => ?turnFree,
    fun hl hh => ⟨fun he hg => completes_cxGntLoss he hg hl hh, completes_pwrdrop hl hh⟩⟩
  case lock => exact ⟨_, exec_chainLockStart_standby hu hx hd hc, rfl⟩
  case request =>
    refine ⟨_, exec_coexRequest hh hn he hr, ?_, ?_, fun a _ => reg_setChain .., fun a => byte_setChain ..⟩
    · rw [chain_setChain_self]
    · rw [chain_setChain_self]
  case gate =>
    have hgate : s.AtGate c n := ⟨hh, hst, hend, htx, hheard, hempty, hc, hdue, hearly⟩
    refine ⟨fun hr hp => ?_, fun r b hr => completes_transmitGate_refused hgate hr vpa⟩
    obtain ⟨hreason, hband, hstate, hframe⟩ := framePassed_gatePass hp c vpa
    exact ⟨_, exec_transmitGate_passed hgate hr vpa, hreason, hband, hstate.trans hc, hframe⟩
  case rampDown =>
    obtain ⟨⟨hpa, htx, hcarrier, hmem⟩, hstate⟩ := State.PaOff.rampDown s c f
    exact ⟨_, exec_rampdnEnd hx hc hf, hpa, htx, hcarrier, hstate, hmem⟩
  case turnFree =>
    have hwrites := writesOnly_unblanked s c
    exact ⟨_, exec_turnEnd_free hc hh hp, chState_unblanked s c, flag_blank_unblanked s c, hwrites.regs,
      hwrites.sameMemory⟩

end Sys2Proof.Machine
end

section
/-!
Calibration and ramp tables (R165, R172, R173).
-/

namespace Sys2Proof.Machine

variable {s t u : State} {c d : Chain} {w : Word}

/-! ## The always-on store of a chain -/

@[simp] theorem store_setStore_self (s : State) (c : Chain) (x : ChainStore) : (s.setStore c x).store c = x := by
  cases c
  · rfl
  · rfl

/-- A chain's part of the always-on store lies in the radio's own state alone. -/
theorem setStore_eq (s : State) (c : Chain) (x : ChainStore) : ∃ rf, s.setStore c x = { s with rf := rf } := by
  cases c
  · exact ⟨_, rfl⟩
  · exact ⟨_, rfl⟩

@[simp] theorem reg_setStore (s : State) (c : Chain) (x : ChainStore) (a : Nat) : (s.setStore c x).reg a = s.reg a := by
  obtain ⟨rf, h⟩ := setStore_eq s c x
  rw [h]
  rfl

@[simp] theorem byte_setStore (s : State) (c : Chain) (x : ChainStore) (a : Nat) :
    (s.setStore c x).byte a = s.byte a := by
  obtain ⟨rf, h⟩ := setStore_eq s c x
  rw [h]
  rfl

@[simp] theorem fld_setStore (s : State) (c : Chain) (x : ChainStore) (f : Fld) : (s.setStore c x).fld f = s.fld f := by
  obtain ⟨rf, h⟩ := setStore_eq s c x
  rw [h]
  rfl

@[simp] theorem chain_setStore (s : State) (c d : Chain) (x : ChainStore) : (s.setStore c x).chain d = s.chain d := by
  cases c
  · cases d
    · rfl
    · rfl
  · cases d
    · rfl
    · rfl

/-! ## The start of a FULL (R173, R256) -/

/-- The action that gives way to a FULL and the chain it held lie outside the registers and memory. -/
theorem unclaim_eq (s : State) (c : Chain) : ∃ rf lnk, s.unclaim c = { s with rf := rf, lnk := lnk } := by
  unfold State.unclaim
  split
  case h_1 => exact ⟨_, _, rfl⟩
  case h_2 n _ =>
    split
    case h_1 => exact ⟨_, _, rfl⟩
    case h_2 x _ =>
      split
      · obtain ⟨rf, h⟩ := setChain_eq s c
          { s.chain c with holder := none, cxReq := false, cxPri := false, tx := none, stamping := false }
        rw [h]
        exact ⟨_, _, rfl⟩
      · exact ⟨_, _, rfl⟩

@[simp] theorem reg_unclaim (s : State) (c : Chain) (a : Nat) : (s.unclaim c).reg a = s.reg a := by
  obtain ⟨rf, lnk, h⟩ := unclaim_eq s c
  rw [h]
  rfl

@[simp] theorem fld_unclaim (s : State) (c : Chain) (f : Fld) : (s.unclaim c).fld f = s.fld f := by
  unfold State.fld State.regN
  rw [reg_unclaim]

@[simp] theorem byte_unclaim (s : State) (c : Chain) (a : Nat) : (s.unclaim c).byte a = s.byte a := by
  obtain ⟨rf, lnk, h⟩ := unclaim_eq s c
  rw [h]
  rfl

theorem calStart_runs (h : s.chState c = 1 ∨ s.chState c = 3) :
    s.calStart c = (true, (s.unclaim c).setChState c 9) := by
  unfold State.calStart
  rw [if_pos (by simpa using h)]

theorem calStart_refused (h1 : s.chState c ≠ 1) (h3 : s.chState c ≠ 3) :
    s.calStart c = (false, s.setFld (F.rfsCalResult c) 2) := by
  unfold State.calStart
  rw [if_neg (by simp [h1, h3])]

theorem writesOnly_calStarted (s : State) (c : Chain) :
    WritesOnly [A.rfsStat c, A.rfsRssi c] (s.unclaim c) ((s.unclaim c).setChState c 9) :=
  (WritesOnly.refl _ _).setChState (.head _) (.tail _ (.head _))

/-- CAL with AUTO as a write gives it. -/
def State.autoSet (s : State) (c : Chain) (w : Word) : State := s.setFld (F.rfsCalAuto c) (bitsOf w.toNat 0 1)

theorem exec_calStart (hu : s.comUp = true) (hw : bitAt w.toNat 31 = true) (hc : s.chState c = 1 ∨ s.chState c = 3) :
    exec (.calStart false c w) s = .next (((s.autoSet c w).unclaim c).setChState c 9) := by
  have hkeep : (s.autoSet c w).chState c = s.chState c := State.fld_setFld_ne s _ (by cases c <;> decide)
  have hrun : (s.autoSet c w).calStart c = _ := calStart_runs (by rwa [hkeep])
  have hwrite : s.writeCal c w = ((s.autoSet c w).unclaim c).setChState c 9 := by
    rw [show s.writeCal c w = ((s.autoSet c w).calStart c).2 from if_pos hw, hrun]
  exact congrArg Host.Outcome.next ((if_pos hu).trans hwrite)

theorem completes_calStart (hu : s.comUp = true) (hw : bitAt w.toNat 31 = true)
    (hc : s.chState c = 1 ∨ s.chState c = 3) :
    Completes (.calStart false c w) s fun t =>
      t.chState c = 9 ∧ t.fld (F.rfsCalAuto c) = bitsOf w.toNat 0 1
      ∧ s.sameRegsBut t [A.rfsCal c, A.rfsStat c, A.rfsRssi c] ∧ s.sameMemory t := by
  have hauto : WritesOnly [A.rfsCal c] s (s.autoSet c w) := (WritesOnly.refl _ s).setFld (.head _)
  have hstart := writesOnly_calStarted (s.autoSet c w) c
  refine ⟨_, exec_calStart hu hw hc, chState_setChState _ c (by decide), ?_, fun a ha => ?_, fun a => ?_⟩
  · rw [hstart.fld (by cases c <;> decide), fld_unclaim]
    exact fld_setFld_at s (bitsOf_lt ..)
  · rw [List.mem_cons, not_or] at ha
    rw [hstart.regs a ha.2, reg_unclaim, hauto.regs a (by simpa using ha.1)]
  · rw [hstart.sameMemory a, byte_unclaim, hauto.sameMemory a]

theorem exec_caldue (hu : s.comUp = true) :
    exec (.caldue c) s = .next ((s.raise (F.rfsStatCaldue c)).raise (F.rfsIntstatCaldue c)) :=
  congrArg Host.Outcome.next (if_pos hu)

/-! ## The end of a FULL (R172) -/

/-- The fields of STAT above the state code do not move with it. -/
theorem flag_setChState_stat (s : State) (c : Chain) {i v : Nat} (n : Nat) (h : 4 ≤ i := by decide) :
    (s.setChState c n).flag ⟨A.rfsStat c, i, v⟩ = s.flag ⟨A.rfsStat c, i, v⟩ := by
  have hself : (s.setFld (F.rfsStatState c) n).flag ⟨A.rfsStat c, i, v⟩ = s.flag ⟨A.rfsStat c, i, v⟩ :=
    flag_setFld_beside s n (.inl h)
  unfold State.setChState
  extract_lets u
  split
  · exact hself
  · have hne : A.rfsStat c ≠ A.rfsRssi c := by cases c <;> decide
    exact (State.flag_setFld_ne u _ hne).trans hself

/-- The chain after a FULL, before its results: STANDBY, its channel loop unlocked. -/
def State.calEnded (s : State) (c : Chain) : State :=
  (((s.setChState c 1).raise (F.rfsIntstatCaldone c)).lower (F.rfsStatChlock c)).setFld (F.rfsFreqFreq c) 0

theorem writesOnly_calEnded (s : State) (c : Chain) :
    WritesOnly [A.rfsStat c, A.rfsRssi c, A.rfsIntstat c, A.rfsFreq c] s (s.calEnded c) := by
  have hstandby : WritesOnly [A.rfsStat c, A.rfsRssi c, A.rfsIntstat c, A.rfsFreq c] s (s.setChState c 1) :=
    (WritesOnly.refl _ s).setChState (.head _) (.tail _ (.head _))
  exact ((hstandby.raise (.tail _ (.tail _ (.head _)))).lower (.head _)).setFld (.tail _ (.tail _ (.tail _ (.head _))))

theorem calEnded_shows (s : State) (c : Chain) :
    (s.calEnded c).chState c = 1 ∧ (s.calEnded c).flag (F.rfsIntstatCaldone c) = true
      ∧ (s.calEnded c).flag (F.rfsStatCaldue c) = s.flag (F.rfsStatCaldue c) := by
  have hfreq : A.rfsStat c ≠ A.rfsFreq c ∧ A.rfsIntstat c ≠ A.rfsFreq c ∧ A.rfsIntstat c ≠ A.rfsStat c
      ∧ A.rfsStat c ≠ A.rfsIntstat c := by cases c <;> decide
  obtain ⟨hsf, hif, his, hsi⟩ := hfreq
  refine ⟨?_, ?_, ?_⟩
  · exact (State.fld_setFld_ne _ 0 hsf).trans ((chState_setFld_stat _ 0).trans
      ((State.fld_setFld_ne _ 1 hsi).trans (chState_setChState s c (by decide))))
  · exact (State.flag_setFld_ne _ 0 hif).trans ((State.flag_setFld_ne _ 0 his).trans (flag_raise_at _))
  · exact (State.flag_setFld_ne _ 0 hsf).trans ((flag_setFld_beside _ 0).trans
      ((State.flag_setFld_ne _ 1 hsi).trans (flag_setChState_stat s c 1)))

/-- The results in the always-on store, before the registers show it. -/
def State.calStored (s : State) (c : Chain) (temp : Int) : State :=
  (s.draw (2 ^ 64)).2.setStore c
    { (s.draw (2 ^ 64)).2.store c with full := some (s.draw (2 ^ 64)).1, temp := temp }

/-- CAL and STAT with the results in force. -/
def State.calValid (s : State) (c : Chain) (temp : Int) : State :=
  (((s.setFld (F.rfsCalTemp c) (ofSigned 8 temp)).setFld (F.rfsCalResult c) 1).raise (F.rfsStatCalvalid c)).lower
    (F.rfsStatCaldue c)

theorem writesOnly_calValid (s : State) (c : Chain) (temp : Int) :
    WritesOnly [A.rfsCal c, A.rfsStat c] s (s.calValid c temp) := by
  have hcal : WritesOnly [A.rfsCal c, A.rfsStat c] s
      ((s.setFld (F.rfsCalTemp c) (ofSigned 8 temp)).setFld (F.rfsCalResult c) 1) :=
    ((WritesOnly.refl [A.rfsCal c, A.rfsStat c] s).setFld (.head _)).setFld (.head _)
  exact (hcal.raise (.tail _ (.head _))).lower (.tail _ (.head _))

theorem calValid_shows (s : State) (c : Chain) (temp : Int) :
    (s.calValid c temp).chState c = s.chState c ∧ (s.calValid c temp).fld (F.rfsCalResult c) = 1
      ∧ (s.calValid c temp).flag (F.rfsStatCaldue c) = false := by
  have hne : A.rfsStat c ≠ A.rfsCal c ∧ A.rfsCal c ≠ A.rfsStat c := by cases c <;> decide
  obtain ⟨hsc, hcs⟩ := hne
  refine ⟨?_, ?_, flag_lower_at _⟩
  · exact (chState_setFld_stat _ 0).trans ((chState_setFld_stat _ 1).trans
      ((State.fld_setFld_ne _ 1 hsc).trans (State.fld_setFld_ne _ _ hsc)))
  · exact (State.fld_setFld_ne _ 0 hcs).trans ((State.fld_setFld_ne _ 1 hcs).trans (fld_setFld_at _ (by decide)))

/-- What becomes of the results of a FULL: kept where they are in range, else discarded. -/
def State.calResults (s : State) (c : Chain) (inRange : Bool) (temp : Int) : State :=
  if inRange then (s.calStored c temp).calValid c temp else s.setFld (F.rfsCalResult c) 3

theorem chain_calResults (s : State) (c d : Chain) (inRange : Bool) (temp : Int) :
    (s.calResults c inRange temp).chain d = s.chain d := by
  unfold State.calResults
  split
  · rw [(writesOnly_calValid _ c temp).chain, State.calStored, chain_setStore]
    rfl
  · exact ((WritesOnly.refl [A.rfsCal c] s).setFld (.head _)).chain d

theorem exec_calDone {inRange : Bool} {temp : Int} (hc : s.chState c = 9) (hh : (s.chain c).calHost = none) :
    exec (.calDone c inRange temp) s = .next ((s.calEnded c).calResults c inRange temp) := by
  have hhost : (((s.calEnded c).calResults c inRange temp).chain c).calHost = none := by
    rw [chain_calResults, (writesOnly_calEnded s c).chain, hh]
  change execCalDone c inRange temp s = _
  unfold execCalDone
  split
  case isFalse h => exact absurd hc h
  case isTrue =>
    extract_lets s1 s2 s3
    have h3 : s3 = (s.calEnded c).calResults c inRange temp := rfl
    clear_value s3
    subst h3
    split
    case h_1 => rfl
    case h_2 o ho => exact nomatch ho.symm.trans hhost

theorem byte_calStored (s : State) (c : Chain) (temp : Int) (a : Nat) : (s.calStored c temp).byte a = s.byte a :=
  byte_setStore ..

theorem fld_calStored (s : State) (c : Chain) (temp : Int) (f : Fld) : (s.calStored c temp).fld f = s.fld f :=
  fld_setStore ..

theorem store_calStored (s : State) (c : Chain) (temp : Int) :
    ((s.calStored c temp).store c).full.isSome = true ∧ ((s.calStored c temp).store c).temp = temp := by
  unfold State.calStored
  rw [store_setStore_self]
  exact ⟨rfl, rfl⟩

/-- What the results change, with the state code and CALDUE where they stood. -/
theorem calResults_shows (s : State) (c : Chain) (inRange : Bool) (temp : Int) :
    (s.calResults c inRange temp).chState c = s.chState c
      ∧ (s.calResults c inRange temp).fld (F.rfsCalResult c) = (if inRange then 1 else 3)
      ∧ (s.calResults c inRange temp).flag (F.rfsStatCaldue c) = (!inRange && s.flag (F.rfsStatCaldue c))
      ∧ (s.calResults c inRange temp).flag (F.rfsIntstatCaldone c) = s.flag (F.rfsIntstatCaldone c)
      ∧ (inRange = true → ((s.calResults c inRange temp).store c).full.isSome = true
        ∧ ((s.calResults c inRange temp).store c).temp = temp)
      ∧ (inRange = false → (s.calResults c inRange temp).store c = s.store c)
      ∧ s.sameMemory (s.calResults c inRange temp) := by
  cases inRange
  case false =>
    have hwrites : WritesOnly [A.rfsCal c] s (s.setFld (F.rfsCalResult c) 3) := (WritesOnly.refl _ s).setFld (.head _)
    exact ⟨hwrites.fld (by cases c <;> decide), fld_setFld_at s (by decide), hwrites.flag (by cases c <;> decide),
      hwrites.flag (by cases c <;> decide), nofun, fun _ => hwrites.store c, hwrites.sameMemory⟩
  case true =>
    have hwrites := writesOnly_calValid (s.calStored c temp) c temp
    obtain ⟨hstate, hresult, hdue⟩ := calValid_shows (s.calStored c temp) c temp
    refine ⟨hstate.trans (fld_calStored ..), hresult, hdue, ?_, fun _ => ?_, nofun, fun a => ?_⟩
    · exact (hwrites.flag (by cases c <;> decide)).trans (congrArg (· != 0) (fld_calStored ..))
    · rw [State.calResults, if_pos rfl, hwrites.store]
      exact store_calStored s c temp
    · exact (hwrites.sameMemory a).trans (byte_calStored ..)

theorem completes_calDone {inRange : Bool} {temp : Int} (hc : s.chState c = 9) (hh : (s.chain c).calHost = none) :
    Completes (.calDone c inRange temp) s fun t =>
      t.chState c = 1 ∧ t.flag (F.rfsIntstatCaldone c) = true
      ∧ t.fld (F.rfsCalResult c) = (if inRange then 1 else 3)
      ∧ t.flag (F.rfsStatCaldue c) = (!inRange && s.flag (F.rfsStatCaldue c))
      ∧ (inRange = true → (t.store c).full.isSome = true ∧ (t.store c).temp = temp)
      ∧ (inRange = false → t.store c = s.store c) ∧ s.sameMemory t := by
  have hwrites := writesOnly_calEnded s c
  obtain ⟨hstate, hdone, hdue⟩ := calEnded_shows s c
  obtain ⟨hstate', hresult, hdue', hdone', hkept, hdiscarded, hmem⟩ := calResults_shows (s.calEnded c) c inRange temp
  refine ⟨_, exec_calDone hc hh, hstate'.trans hstate, hdone'.trans hdone, hresult, ?_, hkept, fun h => ?_, fun a => ?_⟩
  · rw [hdue', hdue]
  · rw [hdiscarded h, hwrites.store]
  · rw [hmem a, hwrites.sameMemory a]

/-! ## Ramp tables (R165) -/

theorem exec_rampCommit_sound (hu : s.comUp = true) (hw : bitAt w.toNat 31 = true)
    (ho : rampOk (s.stagedRamp c) = true) :
    exec (.rampCommit false c w) s =
      .next (((s.setStore c { s.store c with ramp := s.stagedRamp c }).setFld (F.rfsRampctlSum c)
        (rampSum (s.stagedRamp c))).lower (F.rfsRampctlErr c)) :=
  congrArg Host.Outcome.next ((if_pos hu).trans ((if_pos hw).trans (if_pos ho)))

theorem exec_rampCommit_unsound (hu : s.comUp = true) (hw : bitAt w.toNat 31 = true)
    (ho : rampOk (s.stagedRamp c) = false) :
    exec (.rampCommit false c w) s = .next ((s.raise (F.rfsRampctlErr c)).raise (F.rfsIntstatRamperr c)) :=
  congrArg Host.Outcome.next ((if_pos hu).trans ((if_pos hw).trans (if_neg (by simp [ho]))))

theorem rampSum_le_of_rampOk {l : List (Nat × Nat)} (h : rampOk l = true) : rampSum l ≤ 320 := by
  simp only [rampOk, Bool.and_eq_true, decide_eq_true_eq] at h
  exact h.1.2

theorem completes_rampCommit_sound (hu : s.comUp = true) (hw : bitAt w.toNat 31 = true)
    (ho : rampOk (s.stagedRamp c) = true) :
    Completes (.rampCommit false c w) s fun t =>
      (t.store c).ramp = s.stagedRamp c ∧ t.fld (F.rfsRampctlSum c) = rampSum (s.stagedRamp c)
      ∧ t.flag (F.rfsRampctlErr c) = false ∧ s.sameRegsBut t [A.rfsRampctl c] ∧ s.sameMemory t := by
  have hsum : rampSum (s.stagedRamp c) < 2 ^ 9 := Nat.lt_of_le_of_lt (rampSum_le_of_rampOk ho) (by decide)
  have hwrites (u : State) : WritesOnly [A.rfsRampctl c] u
      ((u.setFld (F.rfsRampctlSum c) (rampSum (s.stagedRamp c))).lower (F.rfsRampctlErr c)) :=
    ((WritesOnly.refl [A.rfsRampctl c] u).setFld (.head _)).lower (.head _)
  refine ⟨_, exec_rampCommit_sound hu hw ho, ?_, ?_, flag_lower_at _, fun a ha => ?_, fun a => ?_⟩
  · rw [(hwrites _).store, store_setStore_self]
  · exact (fld_setFld_beside _ 0).trans (fld_setFld_at _ hsum)
  · rw [(hwrites _).regs a ha, reg_setStore]
  · rw [(hwrites _).sameMemory a, byte_setStore]

theorem completes_rampCommit_unsound (hu : s.comUp = true) (hw : bitAt w.toNat 31 = true)
    (ho : rampOk (s.stagedRamp c) = false) :
    Completes (.rampCommit false c w) s fun t =>
      (t.store c).ramp = (s.store c).ramp ∧ t.flag (F.rfsRampctlErr c) = true
      ∧ t.flag (F.rfsIntstatRamperr c) = true := by
  have hwrites : WritesOnly [A.rfsRampctl c, A.rfsIntstat c] s
      ((s.raise (F.rfsRampctlErr c)).raise (F.rfsIntstatRamperr c)) :=
    ((WritesOnly.refl [A.rfsRampctl c, A.rfsIntstat c] s).raise (.head _)).raise (.tail _ (.head _))
  refine ⟨_, exec_rampCommit_unsound hu hw ho, ?_, ?_, flag_raise_at _⟩
  · rw [hwrites.store]
  · exact (State.flag_setFld_ne _ 1 (by cases c <;> decide)).trans (flag_raise_at _)

theorem completes_caldue (hu : s.comUp = true) :
    Completes (.caldue c) s fun t =>
      t.flag (F.rfsStatCaldue c) = true ∧ t.flag (F.rfsIntstatCaldue c) = true
      ∧ s.sameRegsBut t [A.rfsStat c, A.rfsIntstat c] ∧ s.sameMemory t := by
  have hwrites : WritesOnly [A.rfsStat c, A.rfsIntstat c] s
      ((s.raise (F.rfsStatCaldue c)).raise (F.rfsIntstatCaldue c)) :=
    ((WritesOnly.refl [A.rfsStat c, A.rfsIntstat c] s).raise (.head _)).raise (.tail _ (.head _))
  refine ⟨_, exec_caldue hu, ?_, flag_raise_at _, hwrites.regs, hwrites.sameMemory⟩
  exact (State.flag_setFld_ne _ 1 (by cases c <;> decide)).trans (flag_raise_at _)

end Sys2Proof.Machine
end

section
/-!
The duty ledger and the wake receiver (R178, R182-R184).
-/

namespace Sys2Proof.Machine

variable {s t u : State} {b : Nat} {l : List Nat} {g : BandLedger → BandLedger}

/-! ## Ledgers of bands -/

theorem nodup_eraseDups : ∀ l : List Nat, l.eraseDups.Nodup
  | [] => List.nodup_nil
  | a :: l => by
    rw [List.eraseDups_cons, List.nodup_cons]
    refine ⟨fun h => ?_, nodup_eraseDups _⟩
    rw [List.mem_eraseDups, List.mem_filter] at h
    simp at h
termination_by l => l.length
decreasing_by exact Nat.lt_succ_of_le (List.length_filter_le ..)

@[simp] theorem band_setBand_self (s : State) (b : Nat) (x : BandLedger) : (s.setBand b x).band b = x := by
  simp [State.band, State.setBand]

theorem band_setBand_ne (s : State) {b d : Nat} (x : BandLedger) (h : d ≠ b) : (s.setBand b x).band d = s.band d := by
  unfold State.band State.setBand
  dsimp only
  rw [Sparse.find?_insert_ne _ _ h]

/-- The ledgers of the listed bands change by `g`, one band after another. -/
def State.mapBands (s : State) (g : BandLedger → BandLedger) (l : List Nat) : State :=
  l.foldl (fun s b => s.setBand b (g (s.band b))) s

theorem mapBands_cons (s : State) (g : BandLedger → BandLedger) (b : Nat) (l : List Nat) :
    s.mapBands g (b :: l) = (s.setBand b (g (s.band b))).mapBands g l := rfl

/-- Only ledgers change. -/
theorem mapBands_eq (s : State) (g : BandLedger → BandLedger) (l : List Nat) :
    ∃ m, s.mapBands g l = { s with rf := { s.rf with ledger := m } } := by
  induction l generalizing s with
  | nil => exact ⟨_, rfl⟩
  | cons b l ih =>
    obtain ⟨m, h⟩ := ih (s.setBand b (g (s.band b)))
    exact ⟨m, h⟩

theorem band_mapBands_of_notMem (s : State) (h : b ∉ l) : (s.mapBands g l).band b = s.band b := by
  induction l generalizing s with
  | nil => rfl
  | cons d l ih =>
    rw [List.mem_cons, not_or] at h
    rw [mapBands_cons, ih _ h.2, band_setBand_ne _ _ h.1]

theorem band_mapBands_of_mem (s : State) (hl : l.Nodup) (h : b ∈ l) : (s.mapBands g l).band b = g (s.band b) := by
  induction l generalizing s with
  | nil => cases h
  | cons d l ih =>
    obtain ⟨hd, hl⟩ := List.nodup_cons.mp hl
    rw [mapBands_cons]
    cases h with
    | head => rw [band_mapBands_of_notMem _ hd, band_setBand_self]
    | tail _ h => rw [ih _ hl h, band_setBand_ne _ _ (ne_of_mem_of_not_mem h hd)]

/-! ## Bins and blocks (R178) -/

/-- A bin in which a PA was active in the band. -/
def BandLedger.counted (x : BandLedger) : BandLedger := { x with cur := min (x.cur + 1) 10000 }

/-- The bands in which a PA was active in the bin, each once. -/
def State.activeBands (s : State) : List Nat := (s.rf.chS.binBands ++ s.rf.chT.binBands).eraseDups

theorem nodup_activeBands (s : State) : s.activeBands.Nodup := nodup_eraseDups _

theorem mem_activeBands : b ∈ s.activeBands ↔ b ∈ s.rf.chS.binBands ++ s.rf.chT.binBands := List.mem_eraseDups

theorem binEnd_eq (s : State) :
    ∃ m x y, s.binEnd = { s with rf := { s.rf with ledger := m, chS := x, chT := y } }
      ∧ m = (s.mapBands BandLedger.counted s.activeBands).rf.ledger := by
  obtain ⟨m, h⟩ := mapBands_eq s BandLedger.counted s.activeBands
  unfold State.binEnd
  extract_lets l u carry r
  have hu : u = s.mapBands BandLedger.counted s.activeBands := rfl
  rw [show r = u.rf from rfl, hu, h]
  exact ⟨m, _, _, rfl, rfl⟩

theorem band_binEnd (s : State) (b : Nat) :
    s.binEnd.band b = (s.mapBands BandLedger.counted s.activeBands).band b := by
  obtain ⟨m, x, y, h, hm⟩ := binEnd_eq s
  rw [h, State.band, hm]
  rfl

theorem completes_dutyBin (s : State) :
    Completes .dutyBin s fun t =>
      (∀ b, b ∈ s.rf.chS.binBands ++ s.rf.chT.binBands → (t.band b).cur = min ((s.band b).cur + 1) 10000)
      ∧ (∀ b, b ∉ s.rf.chS.binBands ++ s.rf.chT.binBands → t.band b = s.band b)
      ∧ s.sameRegsBut t [] ∧ s.sameMemory t := by
  refine ⟨s.binEnd, rfl, fun b hb => ?_, fun b hb => ?_, ?_⟩
  · rw [band_binEnd, band_mapBands_of_mem s (nodup_activeBands s) (mem_activeBands.mpr hb)]
    rfl
  · rw [band_binEnd, band_mapBands_of_notMem s (mt mem_activeBands.mp hb)]
  · obtain ⟨m, x, y, h, -⟩ := binEnd_eq s
    rw [h]
    exact ⟨fun _ _ => rfl, fun _ => rfl⟩

theorem blockClose_eq (s : State) : s.blockClose = s.mapBands BandLedger.close (List.range 8) := rfl

theorem completes_dutyBlockClose (s : State) :
    Completes .dutyBlockClose s fun t =>
      (∀ b, b < 8 → (t.band b).blocks = ((s.band b).cur :: (s.band b).blocks).take 360 ∧ (t.band b).cur = 0
        ∧ (t.band b).seedCount = (s.band b).seedCount - 1)
      ∧ s.sameRegsBut t [] ∧ s.sameMemory t := by
  refine ⟨s.blockClose, rfl, fun b hb => ?_, ?_⟩
  · rw [blockClose_eq, band_mapBands_of_mem s List.nodup_range (List.mem_range.mpr hb)]
    exact ⟨rfl, rfl, rfl⟩
  · obtain ⟨m, h⟩ := mapBands_eq s BandLedger.close (List.range 8)
    rw [blockClose_eq, h]
    exact ⟨fun _ _ => rfl, fun _ => rfl⟩

/-! ## Wake telegrams (R183, R184) -/

variable {fast : Bool} {pat k errs : Nat}

theorem exec_wakeTelegram_blanked (ho : s.wkrOn = some fast) (hl : s.wkrLost fast = true) :
    exec (.wakeTelegram fast pat) s = .next ((s.satCount F.wkrCntBlanked).raise F.wkrIntstatBlanked) := by
  change execWakeTelegram fast pat s = _
  simp [execWakeTelegram, ho, hl]

theorem exec_wakeTelegram_unmatched (ho : s.wkrOn = some fast) (hl : s.wkrLost fast = false)
    (hm : s.wkrMatch (pat % 2 ^ 32) = none) :
    exec (.wakeTelegram fast pat) s = .next (s.satCount F.wkrCntNomatch) := by
  change execWakeTelegram fast pat s = _
  unfold execWakeTelegram
  rw [hm]
  simp [ho, hl]

/-- A match is counted and recorded with its pattern and its bit errors. -/
def State.matchRecorded (s : State) (k errs : Nat) : State :=
  ((((s.satCount F.wkrCntMatch).setFld F.wkrStatLast k).setFld F.wkrStatErrs errs).raise
    (if k = 1 then F.wkrIntstatNode else if k = 2 then F.wkrIntstatGrp0 else F.wkrIntstatGrp1))

theorem exec_wakeTelegram_matched (ho : s.wkrOn = some fast) (hl : s.wkrLost fast = false)
    (hm : s.wkrMatch (pat % 2 ^ 32) = some (k, errs)) :
    exec (.wakeTelegram fast pat) s = .next ((s.matchRecorded k errs).evPulse (0x1C0 + (k - 1))) := by
  change execWakeTelegram fast pat s = _
  unfold execWakeTelegram
  rw [hm]
  simp [ho, hl, State.matchRecorded]

/-- The patterns are numbered 1 to 3. -/
theorem wkrMatch_lt (h : s.wkrMatch pat = some (k, errs)) : k < 4 := by
  unfold State.wkrMatch at h
  extract_lets tol at h
  split at h
  · cases h
    decide
  · split at h
    · cases h
      decide
    · split at h
      · cases h
        decide
      · cases h

theorem writesOnly_matchRecorded (s : State) (k errs : Nat) :
    WritesOnly [A.wkrCnt, A.wkrStat, A.wkrIntstat] s (s.matchRecorded k errs) := by
  unfold State.matchRecorded
  refine ((((WritesOnly.refl [A.wkrCnt, A.wkrStat, A.wkrIntstat] s).satCount (.head _)).setFld
    (.tail _ (.head _))).setFld (.tail _ (.head _))).raise ?_
  split
  · decide
  · split
    · decide
    · decide

theorem matchRecorded_shows (s : State) {k : Nat} (errs : Nat) (hk : k < 4) :
    (s.matchRecorded k errs).fld F.wkrCntMatch = satAdd (2 ^ F.wkrCntMatch.width - 1) (s.fld F.wkrCntMatch) 1
      ∧ (s.matchRecorded k errs).fld F.wkrStatLast = k := by
  have hbit : (if k = 1 then F.wkrIntstatNode else if k = 2 then F.wkrIntstatGrp0 else F.wkrIntstatGrp1).addr
      = A.wkrIntstat := by
    split
    · rfl
    · split
      · rfl
      · rfl
  unfold State.matchRecorded
  constructor
  · rw [State.raise, State.fld_setFld_ne _ 1 (by rw [hbit]; decide)]
    exact (State.fld_setFld_ne _ errs (by decide)).trans ((State.fld_setFld_ne _ k (by decide)).trans
      (fld_satCount_at _))
  · rw [State.raise, State.fld_setFld_ne _ 1 (by rw [hbit]; decide)]
    exact (fld_setFld_beside _ errs).trans (fld_setFld_at _ hk)

theorem completes_wakeTelegram_blanked (ho : s.wkrOn = some fast) (hl : s.wkrLost fast = true) :
    Completes (.wakeTelegram fast pat) s fun t =>
      t.fld F.wkrCntBlanked = satAdd (2 ^ F.wkrCntBlanked.width - 1) (s.fld F.wkrCntBlanked) 1
      ∧ t.flag F.wkrIntstatBlanked = true ∧ s.sameRegsBut t [A.wkrCnt, A.wkrIntstat] ∧ s.sameMemory t := by
  have hwrites : WritesOnly [A.wkrCnt, A.wkrIntstat] s ((s.satCount F.wkrCntBlanked).raise F.wkrIntstatBlanked) :=
    ((WritesOnly.refl [A.wkrCnt, A.wkrIntstat] s).satCount (.head _)).raise (.tail _ (.head _))
  refine ⟨_, exec_wakeTelegram_blanked ho hl, ?_, flag_raise_at _, hwrites.regs, hwrites.sameMemory⟩
  exact (State.fld_setFld_ne _ 1 (by decide)).trans (fld_satCount_at _)

theorem completes_wakeTelegram_unmatched (ho : s.wkrOn = some fast) (hl : s.wkrLost fast = false)
    (hm : s.wkrMatch (pat % 2 ^ 32) = none) :
    Completes (.wakeTelegram fast pat) s fun t =>
      t.fld F.wkrCntNomatch = satAdd (2 ^ F.wkrCntNomatch.width - 1) (s.fld F.wkrCntNomatch) 1
      ∧ s.sameRegsBut t [A.wkrCnt] ∧ s.sameMemory t := by
  have hwrites : WritesOnly [A.wkrCnt] s (s.satCount F.wkrCntNomatch) := (WritesOnly.refl _ s).satCount (.head _)
  exact ⟨_, exec_wakeTelegram_unmatched ho hl hm, fld_satCount_at _, hwrites.regs, hwrites.sameMemory⟩

theorem completes_wakeTelegram_matched (ho : s.wkrOn = some fast) (hl : s.wkrLost fast = false)
    (hm : s.wkrMatch (pat % 2 ^ 32) = some (k, errs)) :
    Completes (.wakeTelegram fast pat) s fun t =>
      t.fld F.wkrCntMatch = satAdd (2 ^ F.wkrCntMatch.width - 1) (s.fld F.wkrCntMatch) 1
      ∧ t.fld F.wkrStatLast = k ∧ s.sameMemory t := by
  have hpulse : KeepsFront (s.matchRecorded k errs) ((s.matchRecorded k errs).evPulse (0x1C0 + (k - 1))) :=
    (KeepsFront.refl _).evPulse
  obtain ⟨hcount, hlast⟩ := matchRecorded_shows s errs (wkrMatch_lt hm)
  refine ⟨_, exec_wakeTelegram_matched ho hl hm, ?_, ?_, fun a => ?_⟩
  · rw [hpulse.fld (by decide), hcount]
  · rw [hpulse.fld (by decide), hlast]
  · rw [hpulse.memory a, (writesOnly_matchRecorded s k errs).sameMemory a]

/-! ## The floor and the end of blanking (R183, R184) -/

theorem exec_wkrFloorEstimate {level : Int} (ho : s.wkrOn.isSome = true) :
    exec (.wkrFloorEstimate level) s = .next (s.setFld F.wkrThrFloor (ofSigned 8 (
      if s.fld F.wkrThrFloor = 0x80 then level
      else if signedOf 8 (s.fld F.wkrThrFloor) < level then signedOf 8 (s.fld F.wkrThrFloor) + 1
      else if level < signedOf 8 (s.fld F.wkrThrFloor) then signedOf 8 (s.fld F.wkrThrFloor) - 1
      else signedOf 8 (s.fld F.wkrThrFloor)))) := by
  have hsome : ¬ s.wkrOn.isNone = true := by
    rw [Option.isSome_iff_ne_none] at ho
    simpa using ho
  exact congrArg Host.Outcome.next (if_neg hsome)

theorem exec_wkrBlankingEnd (hp : s.rf.chS.pa = false) (he : ∀ e, s.rf.wkrPaEnd = some e → e + 4000 ≤ s.tb.now) :
    exec .wkrBlankingEnd s = .next { s with rf := { s.rf with wkrBlank := false } } := by
  change execWkrBlankingEnd s = _
  unfold execWkrBlankingEnd
  cases hend : s.rf.wkrPaEnd with
  | none => simp [hp]
  | some e => simp [hp, he e hend]

/-- Settles O29: the results of a calibration lie in CAL and in STAT above the state code, the ledger's bands change
one by one, and a telegram's pulse passes the front end by. -/
theorem calibrationDutyAndWake : Obligations.CalibrationDutyAndWake := by
  unfold Obligations.CalibrationDutyAndWake
  intro s
  refine ⟨fun c w hu => ⟨fun hw hc => completes_calStart hu hw hc, fun hw ho => completes_rampCommit_sound hu hw ho,
      fun hw ho => completes_rampCommit_unsound hu hw ho, completes_caldue hu⟩,
    fun c inRange temp hc hh => completes_calDone hc hh, completes_dutyBin s, completes_dutyBlockClose s,
    fun fast pat ho => ⟨fun hl => completes_wakeTelegram_blanked ho hl,
      fun hl hm => completes_wakeTelegram_unmatched ho hl hm,
      fun k errs hl hm => completes_wakeTelegram_matched ho hl hm⟩,
    fun level ho _ _ => ?floor, fun hp he => ⟨_, exec_wkrBlankingEnd hp he, rfl⟩⟩
  case floor =>
    have hwrites (v : Nat) : WritesOnly [A.wkrThr] s (s.setFld F.wkrThrFloor v) :=
      (WritesOnly.refl _ s).setFld (.head _)
    exact ⟨_, exec_wkrFloorEstimate ho, fld_setFld_at s (ofSigned_lt ..), (hwrites _).regs, (hwrites _).sameMemory⟩

end Sys2Proof.Machine
end

section
/-!
The radio's host commands (R192).
-/

namespace Sys2Proof.Machine

variable {s t u : State} {c : Chain} {o : Origin} {p : List Byte}

/-! ## Numbers in a payload -/

theorem leNat_lt (bs : List Byte) : leNat bs < 256 ^ bs.length := by
  induction bs with
  | nil => decide
  | cons b bs ih =>
    have hb : b.toNat < 256 := b.isLt
    rw [leNat, List.length_cons, pow_succ]
    omega

theorem leAt_four_lt (bs : List Byte) (i : Nat) : leAt bs i 4 < 2 ^ 32 :=
  Nat.lt_of_lt_of_le (leNat_lt _) (Nat.pow_le_pow_right (by decide) (List.length_take_le ..))

/-! ## RF_STATUS -/

/-- STAT shows the grant as it stands. -/
def State.grantShown (s : State) (c : Chain) : State := s.setFld (F.rfsStatGnt c) (b2n (s.cxGnt c))

theorem writesOnly_grantShown (s : State) (c : Chain) : WritesOnly [A.rfsStat c] s (s.grantShown c) :=
  (WritesOnly.refl _ s).setFld (.head _)

theorem chState_grantShown (s : State) (c : Chain) : (s.grantShown c).chState c = s.chState c :=
  chState_setFld_stat s _

/-- The words of RF_STATUS, STAT given apart. -/
def State.rfWords (s : State) (c : Chain) (stat : Nat) : List Byte :=
  leBytes 4 stat ++ leBytes 4 (s.regN (A.rfsFreq c)) ++ leBytes 4 (s.regN (A.rfsAfc c))
    ++ leBytes 4 (s.regN (A.rfsTxpwr c)) ++ leBytes 4 (s.regN (A.rfsGate c)) ++ leBytes 4 (s.regN (A.rfsRssi c)) ++ leBytes 4 (s.regN (A.rfsCal c))

theorem rfWords_eq_flatten (s : State) (c : Chain) :
    ([A.rfsStat c, A.rfsFreq c, A.rfsAfc c, A.rfsTxpwr c, A.rfsGate c, A.rfsRssi c, A.rfsCal c].map
      (fun a => leBytes 4 (s.regN a))).flatten = s.rfWords c (s.regN (A.rfsStat c)) := by
  simp only [List.map_cons, List.map_nil, List.flatten_cons, List.flatten_nil, List.append_nil, List.append_assoc,
    State.rfWords]

theorem rfWords_grantShown (s : State) (c : Chain) (stat : Nat) :
    (s.grantShown c).rfWords c stat = s.rfWords c stat := by
  have hreg {a : Nat} (hne : a ∉ [A.rfsStat c]) : (s.grantShown c).regN a = s.regN a :=
    congrArg BitVec.toNat ((writesOnly_grantShown s c).regs a hne)
  unfold State.rfWords
  rw [hreg (by cases c <;> decide), hreg (by cases c <;> decide), hreg (by cases c <;> decide),
    hreg (by cases c <;> decide), hreg (by cases c <;> decide), hreg (by cases c <;> decide)]

theorem KeepsFront.rfWords (h : KeepsFront s t) (c : Chain) (stat : Nat) : t.rfWords c stat = s.rfWords c stat := by
  unfold State.rfWords
  rw [h.regN (by cases c <;> decide), h.regN (by cases c <;> decide), h.regN (by cases c <;> decide),
    h.regN (by cases c <;> decide), h.regN (by cases c <;> decide), h.regN (by cases c <;> decide)]

/-- The first argument of a radio command names a chain or a band, and nothing follows it. -/
theorem not_badArg {n : Nat} (ha : byteAt p 0 ≤ n) (hz : allZero (p.drop 1) = true) :
    ¬ (decide (n < byteAt p 0) || !allZero (p.drop 1)) = true := by
  rw [hz, Bool.not_true, Bool.or_false, decide_eq_true_eq, not_lt]
  exact ha

/-- No fresh level is taken of a chain that does not receive. -/
theorem handleRfStatus_of_sound (ha : byteAt p 0 ≤ 1) (hz : allZero (p.drop 1) = true)
    (hc : s.chState (chainOf (byteAt p 0)) ≠ 4) :
    handleRfStatus o p s = (.now .ok (s.rfWords (chainOf (byteAt p 0))
      ((s.grantShown (chainOf (byteAt p 0))).regN (A.rfsStat (chainOf (byteAt p 0))))),
        s.grantShown (chainOf (byteAt p 0))) := by
  have hu : (s.grantShown (chainOf (byteAt p 0))).chState (chainOf (byteAt p 0)) ≠ 4 := by rwa [chState_grantShown]
  unfold handleRfStatus
  split
  case isTrue h => exact absurd h (not_badArg ha hz)
  case isFalse =>
    extract_lets c u v
    have hv : v = u := if_neg hu
    clear_value v
    subst hv
    rw [rfWords_eq_flatten]
    exact congrArg (Reply.now Status.ok ·, u) (rfWords_grantShown ..)

theorem completes_rfStatus (ht : s.takes o 0x80 p) (hl : p.length = 4) (ha : byteAt p 0 ≤ 1)
    (hz : allZero (p.drop 1) = true) (hc : s.chState (chainOf (byteAt p 0)) ≠ 4) :
    Completes (.rfStatus o p) s fun t =>
      (∃ stat, t.responded o (rspPayload 0x80 .ok (s.rfWords (chainOf (byteAt p 0)) stat))
        ∧ bitsOf stat 0 4 = s.chState (chainOf (byteAt p 0))) ∧ s.sameMemory t := by
  have htaking : KeepsFront s (s.taking o) := (KeepsFront.refl s).taking
  have hwrites := writesOnly_grantShown (s.taking o) (chainOf (byteAt p 0))
  refine completes_of_answered (lenOk := (· == 4)) (h := handleRfStatus) rfl ht (by simp [hl])
    (handleRfStatus_of_sound ha hz (by rwa [htaking.chState]))
    ⟨⟨((s.taking o).grantShown (chainOf (byteAt p 0))).regN (A.rfsStat (chainOf (byteAt p 0))), ?_, ?_⟩, fun a => ?_⟩
  · rw [htaking.rfWords]
    exact State.responded_respond ..
  · exact (chState_grantShown ..).trans (htaking.chState _)
  · rw [byte_respond, hwrites.sameMemory a, htaking.memory a]

/-! ## RF_CAL -/

/-- The chain calibrates for a host. -/
def State.calHosted (s : State) (c : Chain) (o : Origin) : State :=
  ((s.unclaim c).setChState c 9).setChain c { ((s.unclaim c).setChState c 9).chain c with calHost := some o }

theorem handleRfCal_later (ha : byteAt p 0 ≤ 1) (hz : allZero (p.drop 1) = true)
    (hc : s.chState (chainOf (byteAt p 0)) = 1 ∨ s.chState (chainOf (byteAt p 0)) = 3) :
    handleRfCal o p s = (.later, s.calHosted (chainOf (byteAt p 0)) o) := by
  unfold handleRfCal
  rw [if_neg (not_badArg ha hz)]
  dsimp only
  rw [calStart_runs hc]
  rfl

theorem handleRfCal_busy (ha : byteAt p 0 ≤ 1) (hz : allZero (p.drop 1) = true)
    (h1 : s.chState (chainOf (byteAt p 0)) ≠ 1) (h3 : s.chState (chainOf (byteAt p 0)) ≠ 3) :
    let c := chainOf (byteAt p 0)
    let u := s.setFld (F.rfsCalResult c) 2
    handleRfCal o p s = (.now .busy (leBytes 4 (u.regN (A.rfsCal c))), u) := by
  intro c u
  unfold handleRfCal
  rw [if_neg (not_badArg ha hz)]
  dsimp only
  rw [calStart_refused h1 h3]

theorem completes_rfCal_later (ht : s.takes o 0x81 p) (hl : p.length = 4) (ha : byteAt p 0 ≤ 1)
    (hz : allZero (p.drop 1) = true)
    (hc : s.chState (chainOf (byteAt p 0)) = 1 ∨ s.chState (chainOf (byteAt p 0)) = 3) :
    let c := chainOf (byteAt p 0)
    Completes (.rfCal o p) s fun t => t.chState c = 9 ∧ (t.chain c).calHost = some o ∧ s.sameMemory t := by
  intro c
  have htaking : KeepsFront s (s.taking o) := (KeepsFront.refl s).taking
  have hstart := writesOnly_calStarted (s.taking o) c
  refine completes_of_later (lenOk := (· == 4)) (h := handleRfCal) rfl ht (by simp [hl])
    (handleRfCal_later ha hz (by rwa [htaking.chState])) ⟨?_, ?_, fun a => ?_⟩
  · rw [State.calHosted, chState_setChain]
    exact chState_setChState _ c (by decide)
  · rw [State.calHosted, chain_setChain_self]
  · rw [State.calHosted, byte_setChain, hstart.sameMemory a, byte_unclaim, htaking.memory a]

theorem completes_rfCal_busy (ht : s.takes o 0x81 p) (hl : p.length = 4) (ha : byteAt p 0 ≤ 1)
    (hz : allZero (p.drop 1) = true) (h1 : s.chState (chainOf (byteAt p 0)) ≠ 1)
    (h3 : s.chState (chainOf (byteAt p 0)) ≠ 3) :
    let c := chainOf (byteAt p 0)
    Completes (.rfCal o p) s fun t => t.fld (F.rfsCalResult c) = 2 ∧ t.chState c = s.chState c
      ∧ t.responded o (rspPayload 0x81 .busy (leBytes 4 (t.regN (A.rfsCal c)))) := by
  intro c
  have htaking : KeepsFront s (s.taking o) := (KeepsFront.refl s).taking
  have hwrites : WritesOnly [A.rfsCal c] (s.taking o) ((s.taking o).setFld (F.rfsCalResult c) 2) :=
    (WritesOnly.refl _ _).setFld (.head _)
  have hsent (rest : List Byte) : KeepsFront ((s.taking o).setFld (F.rfsCalResult c) 2)
      (((s.taking o).setFld (F.rfsCalResult c) 2).respond o 0x81 .busy rest) := (KeepsFront.refl _).respond
  refine completes_of_answered (lenOk := (· == 4)) (h := handleRfCal) rfl ht (by simp [hl])
    (handleRfCal_busy ha hz (by rwa [htaking.chState]) (by rwa [htaking.chState])) ⟨?_, ?_, ?_⟩
  · rw [(hsent _).fld (by cases c <;> decide)]
    exact fld_setFld_at _ (by decide)
  · rw [(hsent _).chState]
    exact (hwrites.fld (by cases c <;> decide)).trans (htaking.chState c)
  · rw [(hsent _).regN (by cases c <;> decide)]
    exact State.responded_respond ..

/-! ## RF_DUTY -/

theorem handleRfDuty_of_sound (ha : byteAt p 0 ≤ 7) (hz : allZero (p.drop 1) = true) :
    handleRfDuty o p s = (.now .ok (leBytes 4 (s.rlrLim (byteAt p 0)) ++ leBytes 4 (s.rlrBand (byteAt p 0)).limit
      ++ leBytes 4 ((s.band (byteAt p 0)).used % 2 ^ 22)), s) := by
  unfold handleRfDuty
  rw [if_neg (not_badArg ha hz)]

theorem completes_rfDuty (ht : s.takes o 0x82 p) (hl : p.length = 4) (ha : byteAt p 0 ≤ 7)
    (hz : allZero (p.drop 1) = true) :
    Completes (.rfDuty o p) s fun t =>
      t.responded o (rspPayload 0x82 .ok (leBytes 4 (s.rlrLim (byteAt p 0)) ++ leBytes 4 (s.rlrBand (byteAt p 0)).limit
        ++ leBytes 4 ((s.band (byteAt p 0)).used % 2 ^ 22))) ∧ t.rf = s.rf ∧ s.sameMemory t := by
  have hkept (rest : List Byte) : KeepsFront s ((s.taking o).respond o 0x82 .ok rest) :=
    (KeepsFront.refl s).taking.respond
  exact completes_of_answered (lenOk := (· == 4)) (h := handleRfDuty) rfl ht (by simp [hl])
    (handleRfDuty_of_sound ha hz) ⟨State.responded_respond .., (hkept _).rf, (hkept _).memory⟩

/-! ## WKR_SET -/

/-- The four registers of the wake receiver that WKR_SET gives. -/
def State.wkrSet (s : State) (p : List Byte) : State :=
  (((s.setRegN A.wkrCtrl (leAt p 0 4)).setRegN A.wkrNodepat (leAt p 4 4)).setRegN A.wkrGrp0 (leAt p 8 4)).setRegN
    A.wkrGrp1 (leAt p 12 4)

theorem handleWkrSet_of_sound (ht : bitsOf (leAt p 0 4) 4 3 ≤ 3) (hz : leAt p 0 4 &&& 0xFFFF1C8C = 0) :
    handleWkrSet o p s = (.now .ok [], s.wkrSet p) := by
  unfold handleWkrSet
  extract_lets ctrl
  have hsound : ¬ (decide (3 < bitsOf ctrl 4 3) || ctrl &&& 0xFFFF1C8C != 0) = true := by
    simp [ctrl, hz]
    omega
  exact if_neg hsound

theorem writesOnly_wkrSet (s : State) (p : List Byte) :
    WritesOnly [A.wkrCtrl, A.wkrNodepat, A.wkrGrp0, A.wkrGrp1] s (s.wkrSet p) :=
  ((((WritesOnly.refl _ s).setRegN).setRegN).setRegN).setRegN

theorem wkrSet_shows (s : State) (p : List Byte) :
    (s.wkrSet p).regN A.wkrCtrl = leAt p 0 4 ∧ (s.wkrSet p).regN A.wkrNodepat = leAt p 4 4
      ∧ (s.wkrSet p).regN A.wkrGrp0 = leAt p 8 4 ∧ (s.wkrSet p).regN A.wkrGrp1 = leAt p 12 4 := by
  have hword (u : State) (a i : Nat) : (u.setRegN a (leAt p i 4)).regN a = leAt p i 4 := by
    rw [State.regN_setRegN_self, Nat.mod_eq_of_lt (leAt_four_lt p i)]
  unfold State.wkrSet
  refine ⟨?_, ?_, ?_, hword ..⟩
  · rw [State.regN_setRegN_ne _ _ (by decide), State.regN_setRegN_ne _ _ (by decide),
      State.regN_setRegN_ne _ _ (by decide), hword]
  · rw [State.regN_setRegN_ne _ _ (by decide), State.regN_setRegN_ne _ _ (by decide), hword]
  · rw [State.regN_setRegN_ne _ _ (by decide), hword]

theorem completes_wkrSet (ht : s.takes o 0x83 p) (hl : p.length = 16) (htol : bitsOf (leAt p 0 4) 4 3 ≤ 3)
    (hz : leAt p 0 4 &&& 0xFFFF1C8C = 0) :
    Completes (.wkrSet o p) s fun t =>
      t.regN A.wkrCtrl = leAt p 0 4 ∧ t.regN A.wkrNodepat = leAt p 4 4 ∧ t.regN A.wkrGrp0 = leAt p 8 4
      ∧ t.regN A.wkrGrp1 = leAt p 12 4 ∧ t.responded o (rspPayload 0x83 .ok []) ∧ s.sameMemory t := by
  have htaking : KeepsFront s (s.taking o) := (KeepsFront.refl s).taking
  have hsent : KeepsFront ((s.taking o).wkrSet p) (((s.taking o).wkrSet p).respond o 0x83 .ok []) :=
    (KeepsFront.refl _).respond
  obtain ⟨hctrl, hnode, hgrp0, hgrp1⟩ := wkrSet_shows (s.taking o) p
  refine completes_of_answered (lenOk := (· == 16)) (h := handleWkrSet) rfl ht (by simp [hl])
    (handleWkrSet_of_sound htol hz) ⟨?_, ?_, ?_, ?_, State.responded_respond .., fun a => ?_⟩
  · rw [hsent.regN (by decide), hctrl]
  · rw [hsent.regN (by decide), hnode]
  · rw [hsent.regN (by decide), hgrp0]
  · rw [hsent.regN (by decide), hgrp1]
  · rw [hsent.memory a, (writesOnly_wkrSet _ p).sameMemory a, htaking.memory a]

/-- Settles O30: taking a command and answering it leave the front end alone, so each handler's own effect is what
the state and the payload show. -/
theorem radioHostCommands : Obligations.RadioHostCommands := by
  unfold Obligations.RadioHostCommands
  intro s o p
  exact ⟨fun ht hl ha hz => completes_rfStatus ht hl ha hz,
    fun ht hl ha hz => ⟨fun hc => completes_rfCal_later ht hl ha hz hc,
      fun h1 h3 => completes_rfCal_busy ht hl ha hz h1 h3⟩,
    fun ht hl ha hz => completes_rfDuty ht hl ha hz, fun ht hl htol hz => completes_wkrSet ht hl htol hz⟩

end Sys2Proof.Machine
end

section
/-!
Gain and sample validity of the wide paths (R161, R170, R194, R195, R212).
-/

namespace Sys2Proof.Machine

variable {s t u : State} {b peak : Nat} {c : Chain}

/-! ## The registers of a band -/

theorem chzAgc_ne_chzGain (b : Nat) : A.chzAgc b ≠ A.chzGain b := by
  unfold A.chzAgc A.chzGain
  omega

theorem chzGain_ne_chzCutcnt (b : Nat) : A.chzGain b ≠ A.chzCutcnt b := by
  unfold A.chzGain A.chzCutcnt
  omega

theorem chzGain_lt (hb : b < 2) : A.chzGain b < A.dmdStat := by
  unfold A.chzGain A.dmdStat
  omega

theorem chzCutcnt_lt (hb : b < 2) : A.chzCutcnt b < A.dmdStat := by
  unfold A.chzCutcnt A.dmdStat
  omega

theorem chzOvfcnt_lt (hb : b < 2) : A.chzOvfcnt b < A.dmdStat := by
  unfold A.chzOvfcnt A.dmdStat
  omega

theorem regN_count_self (s : State) (a : Nat) : (s.count a).regN a = (s.regN a + 1) % 2 ^ 32 := by
  unfold State.count State.countBy
  rw [State.regN_setRegN_self, Nat.mod_mod]

/-! ## Gain control (R195) -/

/-- PEAK shows the last microsecond's peak. -/
def State.peakShown (s : State) (b peak : Nat) : State := s.setFld (F.chzGainPeak b) (min peak 255)

theorem writesOnly_peakShown (s : State) (b peak : Nat) : WritesOnly [A.chzGain b] s (s.peakShown b peak) :=
  (WritesOnly.refl _ s).setFld (.head _)

theorem peakShown_shows (s : State) (b peak : Nat) :
    (s.peakShown b peak).fld (F.chzGainG b) = s.fld (F.chzGainG b)
      ∧ (s.peakShown b peak).fld (F.chzGainPeak b) = min peak 255
      ∧ ∀ i w, (s.peakShown b peak).fld ⟨A.chzAgc b, i, w⟩ = s.fld ⟨A.chzAgc b, i, w⟩ :=
  ⟨fld_setFld_beside s _, fld_setFld_at s (Nat.lt_of_le_of_lt (Nat.min_le_right ..) (by decide)),
    fun _ _ => State.fld_setFld_ne s _ (chzAgc_ne_chzGain b)⟩

/-- The gain lower by a step, and the cut counted. -/
def State.gainCut (s : State) (b : Nat) : State :=
  (s.setFld (F.chzGainG b) (s.fld (F.chzGainG b) - attackStep (s.fld (F.chzAgcAttack b)))).count (A.chzCutcnt b)

theorem writesOnly_gainCut (s : State) (b : Nat) : WritesOnly [A.chzGain b, A.chzCutcnt b] s (s.gainCut b) :=
  ((WritesOnly.refl [A.chzGain b, A.chzCutcnt b] s).setFld (.head _)).count (.tail _ (.head _))

theorem gainCut_shows (s : State) (b : Nat) :
    (s.gainCut b).fld (F.chzGainG b) = s.fld (F.chzGainG b) - attackStep (s.fld (F.chzAgcAttack b))
      ∧ (s.gainCut b).fld (F.chzGainPeak b) = s.fld (F.chzGainPeak b)
      ∧ (s.gainCut b).regN (A.chzCutcnt b) = (s.regN (A.chzCutcnt b) + 1) % 2 ^ 32 := by
  have hcount (u : State) {i w : Nat} : (u.count (A.chzCutcnt b)).fld ⟨A.chzGain b, i, w⟩ = u.fld ⟨A.chzGain b, i, w⟩ :=
    State.fld_setRegN_ne u _ (chzGain_ne_chzCutcnt b)
  have hg : s.fld (F.chzGainG b) < 2 ^ 6 := bitsOf_lt ..
  unfold State.gainCut
  refine ⟨?_, ?_, ?_⟩
  · exact (hcount _).trans (fld_setFld_at s (Nat.lt_of_le_of_lt (Nat.sub_le ..) hg))
  · exact (hcount _).trans (fld_setFld_beside s _)
  · rw [regN_count_self]
    exact congrArg (fun n => (n + 1) % 2 ^ 32) (State.regN_setRegN_ne s _ (chzGain_ne_chzCutcnt b).symm)

/-- The contexts of the band that receive learn of the cut. -/
def State.cutNoted (s : State) (b : Nat) : State :=
  (allCtx.filter (fun n => s.ctxBusy n && (s.ctx n).band == b && !(s.ctx n).cut)).foldl
    (fun s n => (s.setCtx n { s.ctx n with cut := true }).ctxCount n 6) s

theorem keepsFront_cutNoted (s : State) (b : Nat) : KeepsFront s (s.cutNoted b) :=
  (KeepsFront.refl s).foldl fun _ _ h => h.setCtx.ctxCount

theorem exec_agcAttack (hb : b < 2) (hr : s.bandRuns b = true) (hf : s.flag (F.chzAgcFix b) = false) :
    exec (.agcAttack b peak false) s = .next (
      if peak < 3 && s.fld (F.chzGainG b) != 0 then ((s.peakShown b peak).gainCut b).cutNoted b
      else s.peakShown b peak) := by
  obtain ⟨hg, -, hagc⟩ := peakShown_shows s b peak
  have hfix : ¬ (s.peakShown b peak).flag (F.chzAgcFix b) = true := by
    rw [State.flag, F.chzAgcFix, hagc]
    exact (hf.trans_ne Bool.false_ne_true ·)
  change execAgcAttack b peak false s = _
  unfold execAgcAttack
  rw [if_pos (by simp [hb, hr])]
  extract_lets s1 s2 s3 s4
  have h2 : s2 = s.peakShown b peak := if_neg Bool.false_ne_true
  clear_value s2
  subst h2
  rw [if_neg hfix, hg]
  rfl

theorem completes_agcAttack_cut (hb : b < 2) (hr : s.bandRuns b = true) (hf : s.flag (F.chzAgcFix b) = false)
    (hp : peak < 3) (hg : s.fld (F.chzGainG b) ≠ 0) :
    Completes (.agcAttack b peak false) s fun t =>
      t.fld (F.chzGainG b) = s.fld (F.chzGainG b) - attackStep (s.fld (F.chzAgcAttack b))
      ∧ t.fld (F.chzGainPeak b) = peak ∧ t.regN (A.chzCutcnt b) = (s.regN (A.chzCutcnt b) + 1) % 2 ^ 32
      ∧ s.sameMemory t := by
  obtain ⟨hgain, hpeak, hagc⟩ := peakShown_shows s b peak
  obtain ⟨hgain', hpeak', hcut⟩ := gainCut_shows (s.peakShown b peak) b
  have hnoted := keepsFront_cutNoted ((s.peakShown b peak).gainCut b) b
  have hexec := exec_agcAttack (peak := peak) hb hr hf
  rw [if_pos (by simp [hp, hg])] at hexec
  refine ⟨_, hexec, ?_, ?_, ?_, fun a => ?_⟩
  · rw [hnoted.fld (chzGain_lt hb), hgain', hgain, F.chzAgcAttack, hagc]
  · rw [hnoted.fld (chzGain_lt hb), hpeak', hpeak, Nat.min_eq_left (by omega)]
  · rw [hnoted.regN (chzCutcnt_lt hb), hcut]
    exact congrArg (fun n => (n + 1) % 2 ^ 32) (State.regN_setRegN_ne s _ (chzGain_ne_chzCutcnt b).symm)
  · rw [hnoted.memory a, (writesOnly_gainCut _ b).sameMemory a, (writesOnly_peakShown s b peak).sameMemory a]

theorem completes_agcAttack_keep (hb : b < 2) (hr : s.bandRuns b = true) (hf : s.flag (F.chzAgcFix b) = false)
    (hp : 3 ≤ peak) :
    Completes (.agcAttack b peak false) s fun t =>
      t.fld (F.chzGainG b) = s.fld (F.chzGainG b) ∧ t.fld (F.chzGainPeak b) = min peak 255
      ∧ s.sameRegsBut t [A.chzGain b] ∧ s.sameMemory t := by
  obtain ⟨hgain, hpeak, -⟩ := peakShown_shows s b peak
  have hwrites := writesOnly_peakShown s b peak
  have hexec := exec_agcAttack (peak := peak) hb hr hf
  rw [if_neg (by simp; omega)] at hexec
  exact ⟨_, hexec, hgain, hpeak, hwrites.regs, hwrites.sameMemory⟩

theorem completes_agcDecay (hb : b < 2) (hr : s.bandRuns b = true) (hf : s.flag (F.chzAgcFix b) = false)
    (hg : s.fld (F.chzGainG b) < s.fld (F.chzAgcGmax b)) :
    Completes (.agcDecay b) s fun t =>
      t.fld (F.chzGainG b) = s.fld (F.chzGainG b) + 1 ∧ s.sameRegsBut t [A.chzGain b] ∧ s.sameMemory t := by
  have hmax : s.fld (F.chzAgcGmax b) < 2 ^ 6 := bitsOf_lt ..
  have hwrites : WritesOnly [A.chzGain b] s (s.setFld (F.chzGainG b) (s.fld (F.chzGainG b) + 1)) :=
    (WritesOnly.refl _ s).setFld (.head _)
  exact ⟨_, congrArg Host.Outcome.next (if_pos (by simp [hb, hr, hf, hg])),
    fld_setFld_at s (Nat.lt_of_le_of_lt hg hmax), hwrites.regs, hwrites.sameMemory⟩

/-! ## Sample validity (R161, R194) -/

theorem bandValid_clearBit (s : State) (hb : b < 2) : (s.clearBit A.chzStat (4 + b)).bandValid b = false :=
  bit_clearBit_self s _ (by omega)

/-- Samples that become invalid show in CHZ's STAT alone, as far as the front end goes. -/
theorem bandInvalid_shows (s : State) (hb : b < 2) (reason : Nat) :
    ∃ u, WritesOnly [A.chzStat] s u ∧ KeepsFront u (s.bandInvalid b reason) ∧ u.bandValid b = false := by
  unfold State.bandInvalid
  split
  case isTrue =>
    exact ⟨_, (WritesOnly.refl _ s).clearBit (.head _), (KeepsFront.refl _).cutBand, bandValid_clearBit s hb⟩
  case isFalse h => exact ⟨s, .refl _ s, .refl s, Bool.eq_false_of_not_eq_true h⟩

theorem KeepsFront.bandValid (h : KeepsFront s t) (b : Nat) : t.bandValid b = s.bandValid b := by
  unfold State.bandValid State.bit
  rw [h.regN (by decide)]

theorem bandValid_bandInvalid (s : State) (hb : b < 2) (reason : Nat) :
    (s.bandInvalid b reason).bandValid b = false := by
  obtain ⟨u, -, hkept, hu⟩ := bandInvalid_shows s hb reason
  rw [hkept.bandValid, hu]

theorem byte_bandInvalid (s : State) (hb : b < 2) (reason a : Nat) : (s.bandInvalid b reason).byte a = s.byte a := by
  obtain ⟨u, hwrites, hkept, -⟩ := bandInvalid_shows s hb reason
  rw [hkept.memory a, hwrites.sameMemory a]

theorem regN_bandInvalid {a : Nat} (s : State) (hb : b < 2) (reason : Nat) (ha : a < A.dmdStat) (hs : a ≠ A.chzStat) :
    (s.bandInvalid b reason).regN a = s.regN a := by
  obtain ⟨u, hwrites, hkept, -⟩ := bandInvalid_shows s hb reason
  rw [hkept.regN ha]
  exact congrArg BitVec.toNat (hwrites.regs a (by simpa using hs))

theorem fld_bandInvalid {f : Fld} (s : State) (hb : b < 2) (reason : Nat) (ha : f.addr < A.dmdStat)
    (hs : f.addr ≠ A.chzStat) : (s.bandInvalid b reason).fld f = s.fld f := by
  unfold State.fld
  rw [regN_bandInvalid s hb reason ha hs]

theorem flag_bandInvalid {f : Fld} (s : State) (hb : b < 2) (reason : Nat) (ha : f.addr < A.dmdStat)
    (hs : f.addr ≠ A.chzStat) : (s.bandInvalid b reason).flag f = s.flag f := by
  unfold State.flag
  rw [fld_bandInvalid s hb reason ha hs]

/-- A discarded block is counted and flagged, and its time kept. -/
def State.overflowNoted (s : State) (b : Nat) : State :=
  let u := (s.count (A.chzOvfcnt b)).raise (if b = 0 then F.chzIntstatOvfs else F.chzIntstatOvft)
  u.setBandSt b { u.bandSt b with lastOvf := some u.tb.now }

theorem overflowNoted_shows (s : State) (hb : b < 2) :
    (s.overflowNoted b).regN (A.chzOvfcnt b) = (s.regN (A.chzOvfcnt b) + 1) % 2 ^ 32
      ∧ s.sameMemory (s.overflowNoted b) := by
  have hbit : (if b = 0 then F.chzIntstatOvfs else F.chzIntstatOvft).addr = A.chzIntstat := by
    split
    · rfl
    · rfl
  have hset (u : State) (x : BandState) : KeepsFront u (u.setBandSt b x) := (KeepsFront.refl u).setBandSt
  have hwrites : WritesOnly [A.chzOvfcnt b, A.chzIntstat] s
      ((s.count (A.chzOvfcnt b)).raise (if b = 0 then F.chzIntstatOvfs else F.chzIntstatOvft)) :=
    ((WritesOnly.refl [A.chzOvfcnt b, A.chzIntstat] s).count (.head _)).raise (hbit ▸ .tail _ (.head _))
  have hne : A.chzOvfcnt b ≠ A.chzIntstat := by
    unfold A.chzOvfcnt A.chzIntstat
    omega
  unfold State.overflowNoted
  refine ⟨?_, fun a => ?_⟩
  · rw [(hset _ _).regN (chzOvfcnt_lt hb), State.raise, State.setFld,
      State.regN_setRegN_ne _ _ (hne.trans_eq hbit.symm), regN_count_self]
  · rw [(hset _ _).memory a, hwrites.sameMemory a]

theorem completes_sampleOverflow (hb : b < 2) (hr : s.bandRuns b = true) :
    Completes (.sampleOverflow b) s fun t =>
      t.bandValid b = false ∧ t.regN (A.chzOvfcnt b) = (s.regN (A.chzOvfcnt b) + 1) % 2 ^ 32 ∧ s.sameMemory t := by
  have hexec : exec (.sampleOverflow b) s = .next ((s.overflowNoted b).bandInvalid b 8) :=
    congrArg Host.Outcome.next (if_pos (by simp [hb, hr]))
  have hne : A.chzOvfcnt b ≠ A.chzStat := by
    unfold A.chzOvfcnt A.chzStat
    omega
  obtain ⟨hcount, hmem⟩ := overflowNoted_shows s hb
  refine ⟨_, hexec, bandValid_bandInvalid _ hb 8, ?_, fun a => ?_⟩
  · rw [regN_bandInvalid _ hb 8 (chzOvfcnt_lt hb) hne, hcount]
  · rw [byte_bandInvalid _ hb, hmem a]

theorem completes_samplesValid (hb : b < 2) (hr : s.bandRuns b = true) (ho : s.noOverflow b = true)
    (hx : s.flag F.pmuStatXrefrdy = true) :
    Completes (.samplesValid b) s fun t =>
      t.bandValid b = true ∧ t.flag (F.rfsStatCaplock (chainOf b)) = true
      ∧ t.fld (F.rfsCapfFreq (chainOf b)) = bitsOf (s.capPlan b) 0 30 ∧ s.sameMemory t := by
  have hexec : exec (.samplesValid b) s = .next (((s.raise (F.rfsStatCaplock (chainOf b))).setFld
      (F.rfsCapfFreq (chainOf b)) (bitsOf (s.capPlan b) 0 30)).setBit A.chzStat (4 + b)) :=
    congrArg Host.Outcome.next (if_pos (by simp [hb, hr, ho, hx]))
  generalize chainOf b = c at hexec ⊢
  have hwrites : WritesOnly [A.rfsStat c, A.rfsCapf c, A.chzStat] s (((s.raise (F.rfsStatCaplock c)).setFld
      (F.rfsCapfFreq c) (bitsOf (s.capPlan b) 0 30)).setBit A.chzStat (4 + b)) :=
    (((WritesOnly.refl [A.rfsStat c, A.rfsCapf c, A.chzStat] s).raise (.head _)).setFld (.tail _ (.head _))).setBit
      (.tail _ (.tail _ (.head _)))
  have hbit (u : State) : WritesOnly [A.chzStat] u (u.setBit A.chzStat (4 + b)) :=
    (WritesOnly.refl _ u).setBit (.head _)
  refine ⟨_, hexec, bit_setBit_self _ _ (by omega), ?_, ?_, hwrites.sameMemory⟩
  · rw [(hbit _).flag (by cases c <;> decide)]
    exact (State.flag_setFld_ne _ _ (by cases c <;> decide)).trans (flag_raise_at _)
  · rw [(hbit _).fld (by cases c <;> decide)]
    exact fld_setFld_at _ (bitsOf_lt ..)

theorem exec_sampleInvalid (hb : b < 2) (hl : s.flag (F.rfsStatCaplock (chainOf b)) = false) :
    exec (.sampleInvalid b) s = .next (s.bandInvalid b 7) :=
  congrArg Host.Outcome.next ((if_pos hb).trans (if_pos (by simp [hl])))

/-- The capture loop shows no lock and no frequency. -/
def State.capUnlocked (s : State) (c : Chain) : State := (s.lower (F.rfsStatCaplock c)).setFld (F.rfsCapfFreq c) 0

theorem capUnlocked_shows (s : State) (c : Chain) :
    (s.capUnlocked c).flag (F.rfsStatCaplock c) = false ∧ (s.capUnlocked c).fld (F.rfsCapfFreq c) = 0
      ∧ s.sameMemory (s.capUnlocked c) := by
  have hwrites : WritesOnly [A.rfsStat c, A.rfsCapf c] s (s.capUnlocked c) :=
    ((WritesOnly.refl [A.rfsStat c, A.rfsCapf c] s).lower (.head _)).setFld (.tail _ (.head _))
  exact ⟨(State.flag_setFld_ne _ 0 (by cases c <;> decide)).trans (flag_lower_at _), fld_setFld_at _ (by decide),
    hwrites.sameMemory⟩

theorem capLost_shows (s : State) (c : Chain) :
    (s.capLost c).flag (F.rfsStatCaplock c) = false ∧ (s.capLost c).fld (F.rfsCapfFreq c) = 0
      ∧ s.sameMemory (s.capLost c) := by
  have hidx : c.idx < 2 := by cases c <;> decide
  have hraise (u : State) : WritesOnly [A.chzIntstat] u
      (u.raise (if c = .s then F.chzIntstatCaplosss else F.chzIntstatCaplosst)) :=
    (WritesOnly.refl [A.chzIntstat] u).raise (by cases c <;> decide)
  obtain ⟨hlock, hfreq, hmem⟩ := capUnlocked_shows s c
  unfold State.capLost
  extract_lets u
  have hu : u = s.capUnlocked c := rfl
  clear_value u
  subst hu
  split
  case isFalse => exact ⟨hlock, hfreq, hmem⟩
  case isTrue =>
    refine ⟨?_, ?_, fun a => ?_⟩
    · rw [flag_bandInvalid _ hidx 7 (by cases c <;> decide) (by cases c <;> decide),
        (hraise _).flag (by cases c <;> decide), hlock]
    · rw [fld_bandInvalid _ hidx 7 (by cases c <;> decide) (by cases c <;> decide),
        (hraise _).fld (by cases c <;> decide), hfreq]
    · rw [byte_bandInvalid _ hidx, (hraise _).sameMemory a, hmem a]

theorem exec_caplockLoss (h : s.flag (F.rfsStatCaplock c) = true) : exec (.caplockLoss c) s = .next (s.capLost c) :=
  congrArg Host.Outcome.next (if_pos h)

/-! ## Tracking (R170, R212) -/

@[simp] theorem ctx_setCtx_self (s : State) (n : Nat) (x : Ctx) : (s.setCtx n x).ctx n = x := by
  simp [State.ctx, State.setCtx]

theorem setChain_cap (s : State) (c : Chain) (x : ChainState) : (s.setChain c x).cap = s.cap := by
  obtain ⟨rf, h⟩ := setChain_eq s c x
  rw [h]

theorem WritesOnly.cap {l : List Nat} (h : WritesOnly l s t) : t.cap = s.cap := by rw [h.rest]

/-- The correction is shown in AFC and applied to the carrier: contexts and memory stay. -/
theorem applyC_keeps (s : State) (c : Chain) (v : Int) : (s.applyC c v).cap = s.cap ∧ s.sameMemory (s.applyC c v) := by
  unfold State.applyC
  extract_lets lim held s1 s2 x
  split
  case isTrue =>
    have h2 : WritesOnly [A.rfsAfc c, A.rfsIntstat c] s s2 := by
      have h1 : WritesOnly [A.rfsAfc c, A.rfsIntstat c] s s1 :=
        ((WritesOnly.refl [A.rfsAfc c, A.rfsIntstat c] s).setFld (.head _)).setFld (.head _)
      exact .ite (h1.raise (.tail _ (.head _))) h1
    have hfreq (u : State) : WritesOnly [A.rfsFreq c] u (u.showFreq c) := (WritesOnly.refl _ u).showFreq (.head _)
    refine ⟨?_, fun a => ?_⟩
    · rw [(hfreq _).cap, setChain_cap, h2.cap]
    · rw [(hfreq _).sameMemory a, byte_setChain, h2.sameMemory a]
  case isFalse =>
    have hwrites : WritesOnly [A.rfsAfc c] s ((s.setFld (F.rfsAfcOffset c) (ofSigned 24 v)).lower (F.rfsAfcSat c)) :=
      ((WritesOnly.refl [A.rfsAfc c] s).setFld (.head _)).lower (.head _)
    exact ⟨hwrites.cap, hwrites.sameMemory⟩

theorem exec_afcTrack {offset : Int} (hc : s.chState c = 4) (hb : (s.ctx (s.narrowCtx c)).busy = true)
    (hn : s.narrowChain (s.narrowCtx c) = some c) (hl : -10 ≤ offset) (hh : offset ≤ 10) :
    exec (.afcTrack c offset) s =
      .next ((s.setCtx (s.narrowCtx c) { s.ctx (s.narrowCtx c) with
        cfo := (s.ctx (s.narrowCtx c)).cfo + offset }).applyC c ((s.ctx (s.narrowCtx c)).cfo + offset)) := by
  change execAfcTrack c offset s = _
  unfold execAfcTrack
  extract_lets n step v
  have hstep : step = offset := by
    unfold step
    omega
  rw [if_pos (by simp [hc, hb, hn, n])]
  unfold v
  rw [hstep]

theorem completes_afcTrack {offset : Int} (hc : s.chState c = 4) (hb : (s.ctx (s.narrowCtx c)).busy = true)
    (hn : s.narrowChain (s.narrowCtx c) = some c) (hl : -10 ≤ offset) (hh : offset ≤ 10) :
    Completes (.afcTrack c offset) s fun t =>
      (t.ctx (s.narrowCtx c)).cfo = (s.ctx (s.narrowCtx c)).cfo + offset ∧ s.sameMemory t := by
  have hset (x : Ctx) : KeepsFront s (s.setCtx (s.narrowCtx c) x) := (KeepsFront.refl s).setCtx
  refine ⟨_, exec_afcTrack hc hb hn hl hh, ?_, fun a => ?_⟩
  · rw [State.ctx, (applyC_keeps _ c _).1]
    exact congrArg Ctx.cfo (ctx_setCtx_self ..)
  · rw [(applyC_keeps _ c _).2 a, (hset _).memory a]

/-- Settles O32: the gain and its peak lie apart in one register, and cutting a band's frames leaves the front end
alone. -/
theorem widePathGainAndValidity : Obligations.WidePathGainAndValidity := by
  unfold Obligations.WidePathGainAndValidity
  intro s b hb
  exact ⟨fun hr => ⟨fun peak hf => ⟨fun hp hg => completes_agcAttack_cut hb hr hf hp hg,
        fun hp => completes_agcAttack_keep hb hr hf hp⟩,
      fun hf hg => completes_agcDecay hb hr hf hg, completes_sampleOverflow hb hr,
      fun ho hx => completes_samplesValid hb hr ho hx⟩,
    fun hl => ⟨_, exec_sampleInvalid hb hl, bandValid_bandInvalid s hb 7, byte_bandInvalid s hb 7⟩,
    fun hl => ⟨_, exec_caplockLoss hl, capLost_shows s _⟩,
    fun offset hc hbusy hn hlow hhigh => completes_afcTrack hc hbusy hn hlow hhigh⟩

end Sys2Proof.Machine
end

section
/-!
Detection, assignment and reception in the demodulator contexts (R199-R206, R218, R224-R227).
-/

namespace Sys2Proof.Machine

variable {s t : State} {b n slice mode cls bits : Nat} {level cfo : Int} {c : Candidate} {ch : Chain}

/-! ## A band's state and the contexts -/

/-- A band's state lies in the captures alone, apart from the contexts and what they take frames by. -/
theorem setBandSt_eq (s : State) (b : Nat) (x : BandState) :
    ∃ b0 b1, s.setBandSt b x = { s with cap := { s.cap with band0 := b0, band1 := b1 } } := by
  unfold State.setBandSt
  split
  · exact ⟨_, _, rfl⟩
  · exact ⟨_, _, rfl⟩

@[simp] theorem bandSt_setBandSt_self (s : State) (b : Nat) (x : BandState) : (s.setBandSt b x).bandSt b = x := by
  unfold State.setBandSt State.bandSt
  split
  · rfl
  · rfl

@[simp] theorem ctx_setBandSt (s : State) (b : Nat) (x : BandState) (n : Nat) :
    (s.setBandSt b x).ctx n = s.ctx n := by
  obtain ⟨b0, b1, h⟩ := setBandSt_eq s b x
  rw [h]
  rfl

@[simp] theorem reg_setBandSt (s : State) (b : Nat) (x : BandState) (a : Nat) : (s.setBandSt b x).reg a = s.reg a := by
  obtain ⟨b0, b1, h⟩ := setBandSt_eq s b x
  rw [h]
  rfl

@[simp] theorem nextFrame_setBandSt (s : State) (b : Nat) (x : BandState) :
    (s.setBandSt b x).cap.nextFrame = s.cap.nextFrame := by
  obtain ⟨b0, b1, h⟩ := setBandSt_eq s b x
  rw [h]

theorem ctx_of_cap (h : t.cap = s.cap) (n : Nat) : t.ctx n = s.ctx n := by
  unfold State.ctx
  rw [h]

theorem bandSt_of_cap (h : t.cap = s.cap) (b : Nat) : t.bandSt b = s.bandSt b := by
  unfold State.bandSt
  rw [h]

/-! ## Detection (R199) -/

/-- The candidate that a firing makes. -/
def State.detected (s : State) (slice mode cls : Nat) (level : Int) : Candidate where
  slice := slice
  mode := mode
  cls := cls
  level := level
  at_ := s.tb.now
  entry := match s.modeEnt mode with | none => 16 | some p => p.1

/-- A candidate is put beside the new ones of its band, and counted. -/
def State.enlist (s : State) (b : Nat) (c : Candidate) : State :=
  (s.setBandSt b { s.bandSt b with fresh := (s.bandSt b).fresh ++ [c] }).count (A.chzDetcnt b)

theorem writesOnly_enlist (s : State) (b : Nat) (c : Candidate) :
    WritesOnly [A.chzDetcnt b] (s.setBandSt b { s.bandSt b with fresh := (s.bandSt b).fresh ++ [c] }) (s.enlist b c) :=
  (WritesOnly.refl _ _).count (.head _)

theorem bandSt_enlist (s : State) (b : Nat) (c : Candidate) :
    (s.enlist b c).bandSt b = { s.bandSt b with fresh := (s.bandSt b).fresh ++ [c] } := by
  rw [bandSt_of_cap (writesOnly_enlist s b c).cap, bandSt_setBandSt_self]

theorem sameRegsBut_enlist (s : State) (b : Nat) (c : Candidate) : s.sameRegsBut (s.enlist b c) [A.chzDetcnt b] :=
  fun a ha => ((writesOnly_enlist s b c).regs a ha).trans (reg_setBandSt ..)

theorem sameMemory_enlist (s : State) (b : Nat) (c : Candidate) : s.sameMemory (s.enlist b c) :=
  fun a => ((writesOnly_enlist s b c).sameMemory a).trans ((KeepsFront.refl s).setBandSt.memory a)

theorem exec_detectorFire {w : Nat} (hb : b < 2) (hr : s.bandRuns b = true) (hv : s.bandValid b = true)
    (hblank : s.flag (F.rfsStatBlank (chainOf b)) = false) (hw : s.slice b slice = some w)
    (hcls : sliceClass w mode = some cls)
    (hm : ((s.bandSt b).fresh ++ (s.bandSt b).queue).any (s.merges b slice mode) = false)
    (hf : allCtx.any (s.mergesFrame b slice mode) = false) (hs : s.shadowed b slice mode level = false) :
    exec (.detectorFire b slice mode level) s = .next (s.enlist b (s.detected slice mode cls level)) := by
  change execDetectorFire b slice mode level s = _
  unfold execDetectorFire
  rw [if_neg (by simp [hb, hr, hv, hblank])]
  have hbind : (s.slice b slice).bind (fun w => sliceClass w mode) = some cls := by rw [hw, Option.bind_some, hcls]
  simp only [hbind, hm, hf, hs, Bool.false_eq_true, ↓reduceIte]
  rfl

/-! ## Waiting candidates expire (R205) -/

theorem KeepsFront.expireCands (h : KeepsFront s t) : KeepsFront s (t.expireCands b) :=
  (h.foldl fun _ _ h => h.unserved).setBandSt

theorem unserved_foldl (s : State) (b : Nat) (reason : State → Candidate → Nat) (l : List Candidate) :
    ∃ regs, l.foldl (fun s c => s.unserved b (reason s c)) s = { s with regs := regs } := by
  induction l generalizing s with
  | nil => exact ⟨_, rfl⟩
  | cons c l ih => exact ih (s.unserved b (reason s c))

/-- Expiring candidates are counted in registers; only the band's queue changes beside. -/
theorem expireCands_eq (s : State) (b : Nat) :
    ∃ regs, s.expireCands b = { s with regs := regs }.setBandSt b { s.bandSt b with
      queue := (s.bandSt b).queue.filter (fun c => !(c.at_ + s.holdTicks c.mode ≤ s.tb.now)) } := by
  unfold State.expireCands
  extract_lets x past u
  obtain ⟨regs, hu⟩ : ∃ regs, u = { s with regs := regs } :=
    unserved_foldl s b (fun u c => u.expiryReason b c) past
  rw [hu]
  exact ⟨regs, rfl⟩

theorem bandSt_expireCands (s : State) (b : Nat) :
    (s.expireCands b).bandSt b = { s.bandSt b with
      queue := (s.bandSt b).queue.filter (fun c => !(c.at_ + s.holdTicks c.mode ≤ s.tb.now)) } := by
  obtain ⟨regs, h⟩ := expireCands_eq s b
  rw [h, bandSt_setBandSt_self]

theorem ctx_expireCands (s : State) (b n : Nat) : (s.expireCands b).ctx n = s.ctx n := by
  obtain ⟨regs, h⟩ := expireCands_eq s b
  rw [h, ctx_setBandSt]
  rfl

theorem completes_candidateExpire (hb : b < 2) :
    Completes (.candidateExpire b) s fun t =>
      (t.bandSt b).queue = (s.bandSt b).queue.filter (fun c => !(c.at_ + s.holdTicks c.mode ≤ s.tb.now))
      ∧ (t.bandSt b).fresh = (s.bandSt b).fresh ∧ s.sameMemory t := by
  refine ⟨_, congrArg Host.Outcome.next (if_pos hb), ?_, ?_, (KeepsFront.refl s).expireCands.memory⟩
  · rw [bandSt_expireCands]
  · rw [bandSt_expireCands]

/-! ## Assignment (R202-R204) -/

/-- The contexts that can take a candidate (R202). -/
def State.freeFor (s : State) (b : Nat) (c : Candidate) : List Nat :=
  allCtx.filter (fun n => (s.ctx n).state == 0 && !s.cap.draining.contains n && s.suits b c n)

/-- What R204 picks from hangs on the configuration and the contexts, not on what a band has waiting. -/
theorem pick_freeFor_setBandSt (s : State) (b : Nat) (x : BandState) (c : Candidate) :
    (s.setBandSt b x).pick c ((s.setBandSt b x).freeFor b c) = s.pick c (s.freeFor b c) := by
  obtain ⟨b0, b1, h⟩ := setBandSt_eq s b x
  rw [h]
  rfl

theorem arbitrateOne_of_pick (h : s.pick c (s.freeFor b c) = some n) : s.arbitrateOne b c true = s.assign b c n := by
  change (match s.pick c (s.freeFor b c) with
    | some n => s.assign b c n
    | none => _) = _
  rw [h]

/-- A lone new candidate is assigned, and what waits past its HOLD is dropped after. -/
theorem arbitrate_of_pick (hf : (s.bandSt b).fresh = [c]) (hq : (s.bandSt b).queue = [])
    (hp : s.pick c (s.freeFor b c) = some n) :
    s.arbitrate b = ((s.setBandSt b { s.bandSt b with fresh := [] }).assign b c n).expireCands b := by
  have hone : (s.setBandSt b { s.bandSt b with fresh := [] }).arbitrateOne b c true
      = (s.setBandSt b { s.bandSt b with fresh := [] }).assign b c n :=
    arbitrateOne_of_pick ((pick_freeFor_setBandSt ..).trans hp)
  unfold State.arbitrate
  extract_lets x cands
  have hcands : cands = [(c, true)] := by
    unfold cands x
    rw [hf, hq]
    rfl
  rw [hcands]
  exact congrArg (·.expireCands b) hone

theorem ctx_assign_self (s : State) (b : Nat) (c : Candidate) (n : Nat) :
    (s.assign b c n).ctx n =
      { state := 1, band := b, cls := c.cls, slice := c.slice, mode := c.mode, level := c.level, det := c.at_,
        assigned := s.tb.now, frame := s.cap.nextFrame } :=
  ctx_setCtx_self s n _

theorem bandSt_assign (s : State) (b : Nat) (c : Candidate) (n : Nat) : (s.assign b c n).bandSt b = s.bandSt b := rfl

theorem KeepsFront.assign (h : KeepsFront s t) : KeepsFront s (t.assign b c n) := h.setCtx.other.ctxCount

theorem completes_arbitration (hb : b < 2) (hr : s.bandRuns b = true) (hf : (s.bandSt b).fresh = [c])
    (hq : (s.bandSt b).queue = []) (hp : s.pick c (s.freeFor b c) = some n) :
    Completes (.arbitration b) s fun t =>
      (t.ctx n).state = 1 ∧ (t.ctx n).mode = c.mode ∧ (t.ctx n).slice = c.slice ∧ (t.ctx n).band = b
      ∧ (t.ctx n).frame = s.cap.nextFrame ∧ (t.bandSt b).fresh = [] ∧ (t.bandSt b).queue = [] ∧ s.sameMemory t := by
  have hexec : exec (.arbitration b) s = .next (s.arbitrate b) :=
    congrArg Host.Outcome.next (if_pos (by simp [hb, hr]))
  rw [arbitrate_of_pick hf hq hp] at hexec
  refine ⟨_, hexec, ?_⟩
  beta_reduce
  rw [ctx_expireCands, ctx_assign_self, bandSt_expireCands, bandSt_assign, bandSt_setBandSt_self, hq]
  exact ⟨rfl, rfl, rfl, rfl, nextFrame_setBandSt .., rfl, rfl,
    (KeepsFront.refl s).setBandSt.assign.expireCands.memory⟩

/-! ## Sync (R170, R201, R203) -/

theorem ctx_stampCtx_self (s : State) (n : Nat) :
    (s.stampCtx n).ctx n =
      { s.ctx n with sync := true, unit := s.stampUnit n, stampTick := s.tb.now, stampNs := s.rxStampNs n } := by
  unfold State.stampCtx
  extract_lets u _ s1
  have h1 : s1.ctx n = { s.ctx n with sync := true, unit := u, stampTick := s.tb.now, stampNs := s.rxStampNs n } :=
    ctx_setCtx_self s n _
  split
  · exact (ctx_of_cap rfl n).trans h1
  · exact h1

theorem KeepsFront.stampCtx (h : KeepsFront s t) : KeepsFront s (t.stampCtx n) := .ite h.setCtx.ctxCount h.setCtx

theorem exec_ctxSync_wide (hn : s.narrowChain n = none) (hs : (s.ctx n).state = 1) :
    exec (.ctxSync n level cfo) s =
      .next ((s.setCtx n { s.ctx n with state := 2, cfo := cfo }).stampCtx n) := by
  change execCtxSync n level cfo s = _
  unfold execCtxSync
  simp only [hn, if_pos hs]

theorem completes_ctxSync_wide (hn : s.narrowChain n = none) (hs : (s.ctx n).state = 1) :
    Completes (.ctxSync n level cfo) s fun t =>
      (t.ctx n).state = 2 ∧ (t.ctx n).cfo = cfo ∧ (t.ctx n).sync = true ∧ (t.ctx n).stampTick = s.tb.now
      ∧ s.sameMemory t := by
  refine ⟨_, exec_ctxSync_wide hn hs, ?_⟩
  beta_reduce
  rw [ctx_stampCtx_self, ctx_setCtx_self]
  exact ⟨rfl, rfl, rfl, rfl, (KeepsFront.refl s).setCtx.stampCtx.memory⟩

/-- A narrow path's context begins a frame of its chain's mode. -/
def State.narrowBegin (s : State) (n : Nat) (c : Chain) (level cfo : Int) : State :=
  let s' := s.setCtx n { s.ctx n with
    band := c.idx, mode := (s.chain c).rxMode, level := level, cfo := cfo, busy := true,
    header := none, switched := false, cut := false, frame := s.cap.nextFrame, formed := 0, waiting := [], tile := none,
    action := (s.chain c).holder.getD 512 }
  { s' with cap := { s'.cap with nextFrame := s'.cap.nextFrame + 1 } }.ctxCount n 0

theorem ctx_narrowBegin_self (s : State) (n : Nat) (c : Chain) (level cfo : Int) :
    (s.narrowBegin n c level cfo).ctx n = { s.ctx n with
      band := c.idx, mode := (s.chain c).rxMode, level := level, cfo := cfo, busy := true,
      header := none, switched := false, cut := false, frame := s.cap.nextFrame, formed := 0, waiting := [],
      tile := none, action := (s.chain c).holder.getD 512 } :=
  ctx_setCtx_self s n _

theorem KeepsFront.narrowBegin (h : KeepsFront s t) : KeepsFront s (t.narrowBegin n ch level cfo) :=
  h.setCtx.other.ctxCount

theorem exec_ctxSync_narrow (hn : s.narrowChain n = some ch) (hs : s.chState ch = 4) (hbusy : (s.ctx n).busy = false)
    (hpa : (s.chain ch).pa = false) (hd : s.cap.draining.contains n = false) :
    exec (.ctxSync n level cfo) s = .next (((s.narrowBegin n ch level cfo).stampCtx n).applyC ch cfo) := by
  change execCtxSync n level cfo s = _
  unfold execCtxSync
  simp only [hn]
  rw [if_pos (by simp only [hs, hbusy, hpa, hd]; rfl)]
  rfl

theorem completes_ctxSync_narrow (hn : s.narrowChain n = some ch) (hs : s.chState ch = 4)
    (hbusy : (s.ctx n).busy = false) (hpa : (s.chain ch).pa = false) (hd : s.cap.draining.contains n = false) :
    Completes (.ctxSync n level cfo) s fun t =>
      (t.ctx n).busy = true ∧ (t.ctx n).mode = (s.chain ch).rxMode ∧ (t.ctx n).level = level ∧ (t.ctx n).cfo = cfo
      ∧ (t.ctx n).frame = s.cap.nextFrame ∧ s.sameMemory t := by
  have happly := applyC_keeps ((s.narrowBegin n ch level cfo).stampCtx n) ch cfo
  refine ⟨_, exec_ctxSync_narrow hn hs hbusy hpa hd, ?_⟩
  beta_reduce
  rw [ctx_of_cap happly.1, ctx_stampCtx_self, ctx_narrowBegin_self]
  exact ⟨rfl, rfl, rfl, rfl, rfl,
    fun a => (happly.2 a).trans ((KeepsFront.refl s).narrowBegin.stampCtx.memory a)⟩

/-! ## No sync, headers and mode switches (R201, R206, R224-R227) -/

theorem exec_ctxFalsedet (hs : (s.ctx n).state = 1)
    (hl : (s.ctx n).det + longestPreamble (s.ctx n).mode ≤ s.tb.now) :
    exec (.ctxFalsedet n) s = .next ((s.ctxFree n).ctxCount n 2) :=
  congrArg Host.Outcome.next (if_pos (by simp [hs, hl]))

theorem exec_ctxHeader_longReach (hw : s.wantsHeader n = true) (hm : modeLr (s.ctx n).mode = true)
    (hswitch : bitAt bits 18 = false) (hok : lrHeaderOk (bits % 2 ^ 48) = true) :
    exec (.ctxHeader n bits true) s = .next (s.setCtx n { s.ctx n with header := some (bits % 2 ^ 48) }) := by
  change execCtxHeader n bits true s = _
  unfold execCtxHeader
  rw [if_neg (by simp [hw]), if_pos hm, if_neg (by simp [hswitch]), if_pos hok]

theorem exec_ctxHeader_standard (hw : s.wantsHeader n = true) (hm : modeLr (s.ctx n).mode = false)
    (hl : bits ≤ modeMaxLen (s.ctx n).mode) :
    exec (.ctxHeader n bits true) s = .next (s.setCtx n { s.ctx n with header := some bits }) := by
  change execCtxHeader n bits true s = _
  unfold execCtxHeader
  rw [if_neg (by simp [hw]), if_neg (by simp [hm]), if_pos (by simp [hl])]

theorem modeLr_of_modeFsk (h : modeFsk mode = true) : modeLr mode = false := by
  simp only [modeFsk, modeLr, Bool.and_eq_true, decide_eq_true_eq, Bool.and_eq_false_iff, decide_eq_false_iff_not]
    at h ⊢
  omega

/-- A frame outside Long Reach may switch again; its context goes to any mode that it follows. -/
theorem switchMode_of_follows (hm : modeLr (s.ctx n).mode = false) (hf : s.follows n mode = true) :
    s.switchMode n mode = s.setCtx n { s.ctx n with mode := mode, switched := true } := by
  unfold State.switchMode
  rw [if_neg (by simp [hm]), if_pos hf]

theorem exec_modeSwitch_fsk (hw : s.wantsHeader n = true) (hm : modeFsk (s.ctx n).mode = true)
    (hm' : modeFsk mode = true) (hf : s.follows n mode = true) :
    exec (.modeSwitch n mode) s = .next (s.setCtx n { s.ctx n with mode := mode, switched := true }) := by
  rw [← switchMode_of_follows (modeLr_of_modeFsk hm) hf]
  exact congrArg Host.Outcome.next (if_pos (by simp [hw, hm, hm']))

/-- Settles O33: a firing that nothing takes in is enlisted, R204's loop over a lone candidate is its one assignment,
and what follows a sync or a header writes the one context. -/
theorem detectionAndContexts : Obligations.DetectionAndContexts := by
  unfold Obligations.DetectionAndContexts
  intro s
  refine ⟨fun b slice mode cls w level hb hr hv hblank hw hcls hm hf hs => ?_,
    fun b c n hb hr hf hq hp => completes_arbitration hb hr hf hq hp,
    fun b hb => completes_candidateExpire hb,
    fun n level cfo hn hs => completes_ctxSync_wide hn hs,
    fun n level cfo c hn hs hbusy hpa hd => completes_ctxSync_narrow hn hs hbusy hpa hd,
    fun n hs hl => ⟨_, exec_ctxFalsedet hs hl, rfl⟩,
    fun n bits hw => ⟨fun hm hswitch hok => ⟨_, exec_ctxHeader_longReach hw hm hswitch hok, rfl⟩,
      fun hm hl => ⟨_, exec_ctxHeader_standard hw hm hl, rfl⟩,
      fun mode hm hm' hf => ⟨_, exec_modeSwitch_fsk hw hm hm' hf, rfl⟩⟩⟩
  refine ⟨_, exec_detectorFire hb hr hv hblank hw hcls hm hf hs, ?_, ?_,
    sameRegsBut_enlist s b _, sameMemory_enlist s b _⟩
  · rw [bandSt_enlist]
    exact ⟨_, rfl⟩
  · rw [bandSt_enlist]

end Sys2Proof.Machine
end

section
/-!
Decoder tiles, and the receive buffers and rings that decoded frames go to (R228, R237-R239, R241, R262-R264, R275).
-/

namespace Sys2Proof.Machine

variable {s t u : State} {i n r : Nat} {l : List Nat} {b : Block} {x : RxFrame}

/-! ## Soft slots past their LIFE (R239) -/

@[simp] theorem decTile_setDecTile_self (s : State) (i : Nat) (x : DecTile) : (s.setDecTile i x).decTile i = x := by
  unfold State.setDecTile State.decTile
  rw [Sparse.find?_insert_self]
  rfl

/-- `t` comes from `s` by changes of the decoder and of the registers at the listed addresses alone. -/
structure DecoderOnly (l : List Nat) (s t : State) : Prop where
  regs : s.sameRegsBut t l
  rest : t = { s with regs := t.regs, dec := t.dec }

namespace DecoderOnly

theorem refl (l : List Nat) (s : State) : DecoderOnly l s s := ⟨fun _ _ => rfl, rfl⟩

theorem cap (h : DecoderOnly l s t) : t.cap = s.cap := by rw [h.rest]

theorem tb (h : DecoderOnly l s t) : t.tb = s.tb := by rw [h.rest]

theorem sameMemory (h : DecoderOnly l s t) : s.sameMemory t := by
  intro a
  rw [h.rest]
  rfl

theorem setDecTile (h : DecoderOnly l s t) {x : DecTile} : DecoderOnly l s (t.setDecTile i x) where
  regs := h.regs
  rest := congrArg (fun v : State => v.setDecTile i x) h.rest

theorem decCount (h : DecoderOnly l s t) {k m : Nat} (ha : A.decCtr (8 * i + k) ∈ l) :
    DecoderOnly l s (t.decCount i k m) where
  regs a hb := (State.reg_setReg_ne t _ (ne_of_mem_of_not_mem ha hb).symm).trans (h.regs a hb)
  rest := congrArg (fun v : State => { v with regs := (t.decCount i k m).regs }) h.rest

theorem expireSlots (h : DecoderOnly l s t) (ha : A.decCtr (8 * i + 4) ∈ l) : DecoderOnly l s (t.expireSlots i) := by
  unfold State.expireSlots
  extract_lets tile k
  split
  · exact h
  · exact h.setDecTile.decCount ha

/-- Expiry over a list of tiles counts in the tiles' own EXPIRED counters. -/
theorem expireAll {tiles : List Nat} (h : DecoderOnly l s t) (ha : ∀ i ∈ tiles, A.decCtr (8 * i + 4) ∈ l) :
    DecoderOnly l s (tiles.foldl State.expireSlots t) := by
  induction tiles generalizing t with
  | nil => exact h
  | cons i tiles ih =>
    exact ih (h.expireSlots (ha i List.mem_cons_self)) fun j hj => ha j (List.mem_cons_of_mem i hj)

end DecoderOnly

/-- A slot outlasts an expiry while its LIFE has not ended. -/
theorem slotPast_eq_false_iff (s : State) (q : SoftSlot) :
    s.slotPast q = false ↔ s.tb.now < q.wrote + 40000 * q.life := by
  unfold State.slotPast
  rw [decide_eq_false_iff_not, Nat.not_le]

theorem slots_expireSlots (s : State) (i : Nat) :
    ((s.expireSlots i).decTile i).slots = (s.decTile i).slots.filter (fun q => !s.slotPast q) := by
  unfold State.expireSlots
  extract_lets tile k
  split
  case isTrue hk =>
    have hnone : ∀ q ∈ tile.slots, ¬s.slotPast q = true :=
      List.filter_eq_nil_iff.1 (List.length_eq_zero_iff.1 hk)
    exact (List.filter_eq_self.2 fun q hq => by simp [hnone q hq]).symm
  case isFalse =>
    exact congrArg DecTile.slots (decTile_setDecTile_self s i _)

theorem mem_slots_expireSlots (s : State) (i : Nat) (q : SoftSlot) :
    q ∈ ((s.expireSlots i).decTile i).slots ↔
      q ∈ (s.decTile i).slots ∧ s.tb.now < q.wrote + 40000 * q.life := by
  rw [slots_expireSlots, List.mem_filter, Bool.not_eq_true', slotPast_eq_false_iff]

theorem completes_slotExpire (s : State) (i : Nat) :
    Completes (.slotExpire i) s fun t =>
      (∀ q ∈ (t.decTile i).slots, s.tb.now < q.wrote + 40000 * q.life)
      ∧ (∀ q ∈ (s.decTile i).slots, s.tb.now < q.wrote + 40000 * q.life → q ∈ (t.decTile i).slots)
      ∧ s.sameRegsBut t [A.decCtr (8 * i + 4)] ∧ s.sameMemory t := by
  have hexp : DecoderOnly [A.decCtr (8 * i + 4)] s (s.expireSlots i) := (DecoderOnly.refl _ s).expireSlots (.head _)
  exact ⟨_, rfl, fun q hq => ((mem_slots_expireSlots s i q).1 hq).2,
    fun q hq hl => (mem_slots_expireSlots s i q).2 ⟨hq, hl⟩, hexp.regs, hexp.sameMemory⟩

/-! ## Blocks on their way to a tile (R237) -/

theorem beginFrame_eq (s : State) (n tile : Nat) : ∃ dec, s.beginFrame n tile = { s with dec := dec } := by
  unfold State.beginFrame
  extract_lets x nc fw stamp slice action
  split
  · exact ⟨_, rfl⟩
  · exact ⟨_, rfl⟩

/-- `t` comes from `s` by moving blocks of context `n` to the tiles: the blocks that have formed stay counted. -/
structure MovesBlocks (n : Nat) (s t : State) : Prop where
  formed : (t.ctx n).formed = (s.ctx n).formed
  ended : (t.ctx n).ended = (s.ctx n).ended
  rest : t = { s with cap := t.cap, dec := t.dec }

namespace MovesBlocks

theorem refl (n : Nat) (s : State) : MovesBlocks n s s := ⟨rfl, rfl, rfl⟩

theorem trans (h : MovesBlocks n s t) (h' : MovesBlocks n t u) : MovesBlocks n s u where
  formed := h'.formed.trans h.formed
  ended := h'.ended.trans h.ended
  rest := h'.rest.trans (congrArg (fun v : State => { v with cap := u.cap, dec := u.dec }) h.rest)

theorem reg (h : MovesBlocks n s t) (a : Nat) : t.reg a = s.reg a := by
  rw [h.rest]
  rfl

theorem sameMemory (h : MovesBlocks n s t) : s.sameMemory t := by
  intro a
  rw [h.rest]
  rfl

end MovesBlocks

theorem movesBlocks_pumpOne (s : State) (n : Nat) : MovesBlocks n s (s.pumpOne n) := by
  unfold State.pumpOne
  split
  · exact .refl n s
  · split
    · exact .refl n s
    · extract_lets tile s1 y s2
      split
      · obtain ⟨dec, hbegin⟩ := beginFrame_eq s2 n ‹_›
        rw [hbegin]
        have hctx : s2.ctx n = _ := ctx_setCtx_self s1 n _
        exact ⟨(congrArg Ctx.formed hctx).trans rfl, (congrArg Ctx.ended hctx).trans rfl, rfl⟩
      · exact .refl n s

theorem movesBlocks_pump (s : State) (n : Nat) : MovesBlocks n s (s.pump n) :=
  (((movesBlocks_pumpOne s n).trans (movesBlocks_pumpOne _ n)).trans (movesBlocks_pumpOne _ n)).trans
    (movesBlocks_pumpOne _ n)

/-- Every tile's slots are tested for expiry before a block is dispatched (R239). -/
def State.expireTiles (s : State) : State := (List.range 16).foldl State.expireSlots s

/-- The next block of a context's frame has formed, and waits for its tile (R228, R237). -/
def State.blockFormed (s : State) (n : Nat) (llrs : List Int) : State :=
  s.setCtx n { s.ctx n with
    formed := (s.ctx n).formed + 1, waiting := (s.ctx n).waiting ++ [s.formBlock n llrs],
    tile := if (s.ctx n).formed = 0 then none else (s.ctx n).tile, ended := s.tb.now }

theorem reg_blockFormed (s : State) (n : Nat) (llrs : List Int) (a : Nat) :
    (s.blockFormed n llrs).reg a = s.reg a := rfl

theorem sameMemory_blockFormed (s : State) (n : Nat) (llrs : List Int) : s.sameMemory (s.blockFormed n llrs) :=
  fun _ => rfl

theorem decoderOnly_expireTiles (s : State) :
    DecoderOnly ((List.range 16).map fun i => A.decCtr (8 * i + 4)) s s.expireTiles :=
  (DecoderOnly.refl _ s).expireAll fun i hi => List.mem_map.2 ⟨i, hi, rfl⟩

theorem ctx_expireTiles (s : State) (n : Nat) : s.expireTiles.ctx n = s.ctx n :=
  ctx_of_cap (decoderOnly_expireTiles s).cap n

theorem exec_blockDispatch (llrs : List Int) (hs : (s.ctx n).state = 2) (hf : (s.ctx n).formed < (s.ctx n).blockCount)
    (hw : (s.ctx n).waiting = []) :
    exec (.blockDispatch n llrs) s = .next ((s.expireTiles.blockFormed n llrs).pump n) := by
  rw [← ctx_expireTiles s] at hs hf hw
  change execBlockDispatch n llrs s = _
  unfold execBlockDispatch
  rw [← State.expireTiles]
  generalize s.expireTiles = u at hs hf hw ⊢
  exact congrArg Host.Outcome.next (if_pos (by simp [hs, hf, hw]))

theorem completes_blockDispatch (llrs : List Int) (hs : (s.ctx n).state = 2)
    (hf : (s.ctx n).formed < (s.ctx n).blockCount) (hw : (s.ctx n).waiting = []) :
    Completes (.blockDispatch n llrs) s fun t =>
      (t.ctx n).formed = (s.ctx n).formed + 1 ∧ (t.ctx n).ended = s.tb.now
      ∧ s.sameRegsBut t ((List.range 16).map (fun i => A.decCtr (8 * i + 4))) ∧ s.sameMemory t := by
  have hexp := decoderOnly_expireTiles s
  have hformed : (s.expireTiles.blockFormed n llrs).ctx n = _ := ctx_setCtx_self s.expireTiles n _
  have hpump := movesBlocks_pump (s.expireTiles.blockFormed n llrs) n
  refine ⟨_, exec_blockDispatch llrs hs hf hw, ?_, ?_, ?_, ?_⟩
  · rw [hpump.formed, hformed, ctx_expireTiles]
  · rw [hpump.ended, hformed, hexp.tb]
  · intro a ha
    rw [hpump.reg, reg_blockFormed, hexp.regs a ha]
  · intro a
    rw [hpump.sameMemory, sameMemory_blockFormed, hexp.sameMemory]

/-! ## The end of a block (R238, R241) -/

theorem decodePass_of_rxFrame (data : List Byte) (good : Nat) (h : s.rxFrame b.frame = some x) :
    s.decodePass i good data b =
      (s.decCount i 0 1).handOver { x with last := b.last } true (good != 0) (data.take x.header) := by
  have hx : (s.decCount i 0 1).rxFrame b.frame = some x := h
  unfold State.decodePass
  extract_lets s1
  rw [hx]

/-- Without a waiting block nothing moves into a tile. -/
theorem pumpAll_of_none_waiting (h : allCtx.all (fun n => (s.ctx n).waiting.isEmpty) = true) : s.pumpAll = s := by
  have hnil : allCtx.filter (fun n => !(s.ctx n).waiting.isEmpty) = [] :=
    List.filter_eq_nil_iff.2 fun n hn => by simpa using List.all_eq_true.1 h n hn
  unfold State.pumpAll
  rw [hnil]
  rfl

/-- The first block of a tile leaves the tile's queue. -/
def State.blockTaken (s : State) (i : Nat) (rest : List Block) : State :=
  s.setDecTile i { s.decTile i with queue := rest }

theorem exec_blockDecodeDone_pass {good : Nat} {data : List Byte} {rest : List Block}
    (hq : (s.decTile i).queue = b :: rest) (hc : b.code = 4) :
    exec (.blockDecodeDone i good data) s = .next ((s.blockTaken i rest).decodePass i good data b).pumpAll := by
  change execBlockDecodeDone i good data s = _
  unfold execBlockDecodeDone
  simp only [hq, hc]
  rfl

theorem completes_blockDecodeDone_pass {rest : List Block} (good : Nat) (data : List Byte)
    (hq : (s.decTile i).queue = b :: rest) (hc : b.code = 4) (hx : s.rxFrame b.frame = some x)
    (hw : allCtx.all (fun n => (s.ctx n).waiting.isEmpty) = true) :
    Completes (.blockDecodeDone i good data) s fun t =>
      (t.decTile i).queue = rest ∧ s.sameMemory t
      ∧ ∃ a, t.lnk.arrived = s.lnk.arrived ++ [a] ∧ a.delivered = true ∧ a.fcsOk = (good != 0) ∧ a.mode = x.mode
        ∧ a.psdu = data.take x.header := by
  have hexec := exec_blockDecodeDone_pass (good := good) (data := data) hq hc
  have hframe : (s.blockTaken i rest).rxFrame b.frame = some x := hx
  rw [decodePass_of_rxFrame data good hframe, pumpAll_of_none_waiting (by exact hw)] at hexec
  exact ⟨_, hexec, congrArg DecTile.queue (decTile_setDecTile_self s i _), fun _ => rfl, _, rfl, rfl, rfl, rfl, rfl⟩

/-! ## Writes of an engine to memory (R30, R473, R606) -/

theorem setByte_eq (s : State) (a : Nat) (v : Byte) : ∃ ram, s.setByte a v = { s with ram := ram } := by
  unfold State.setByte
  split
  · exact ⟨_, rfl⟩
  · exact ⟨_, rfl⟩
  · split
    · exact ⟨_, rfl⟩
    · exact ⟨_, rfl⟩
  · exact ⟨_, rfl⟩

theorem setBytes_eq (s : State) (a : Nat) (bs : List Byte) : ∃ ram, s.setBytes a bs = { s with ram := ram } := by
  induction bs generalizing s a with
  | nil => exact ⟨_, rfl⟩
  | cons v bs ih =>
    obtain ⟨ram, hv⟩ := setByte_eq s a v
    obtain ⟨ram', hbs⟩ := ih (s.setByte a v) (a + 1)
    exact ⟨ram', by rw [State.setBytes, hbs, hv]⟩

/-- A write of an engine changes SRAM, or waits for its cluster. -/
theorem dma_eq (s : State) (a : Nat) (bs : List Byte) : ∃ ram pw, s.dma a bs = { s with ram := ram, pw := pw } := by
  unfold State.dma
  split
  · exact ⟨_, _, rfl⟩
  · split
    · obtain ⟨ram, h⟩ := setBytes_eq s a bs
      exact ⟨ram, _, h⟩
    · split
      · unfold State.demandCluster
        split
        · exact ⟨_, _, rfl⟩
        · exact ⟨_, _, rfl⟩
      · exact ⟨_, _, rfl⟩

@[simp] theorem reg_dma (s : State) (a : Nat) (bs : List Byte) (c : Nat) : (s.dma a bs).reg c = s.reg c := by
  obtain ⟨ram, pw, h⟩ := dma_eq s a bs
  rw [h]
  rfl

@[simp] theorem lnk_dma (s : State) (a : Nat) (bs : List Byte) : (s.dma a bs).lnk = s.lnk := by
  obtain ⟨ram, pw, h⟩ := dma_eq s a bs
  rw [h]

/-- Bytes outside those written keep their values. -/
theorem byte_dma_outside (s : State) {a y : Nat} (bs : List Byte) (h : y < a ∨ a + bs.length ≤ y) :
    (s.dma a bs).byte y = s.byte y := by
  unfold State.dma
  split
  · rfl
  · split
    · exact State.byte_setBytes_outside s bs h
    · split
      · unfold State.demandCluster
        split
        · rfl
        · rfl
      · rfl

/-! ## Rings (R262, R275) -/

theorem WritesOnly.ringLevel (h : WritesOnly l s t) (ha : A.lnkIntstat ∈ l) : WritesOnly l s (t.ringLevel r) :=
  .ite (h.clearBit ha) (h.setBit ha)

theorem writesOnly_ringLevel (s : State) (r : Nat) : WritesOnly [A.lnkIntstat] s (s.ringLevel r) :=
  (WritesOnly.refl _ s).ringLevel (.head _)

/-- RNE is clear while WR and RD agree. -/
theorem bit_ringLevel_of_eq (hr : r < 4) (h : s.fld (F.lnkRingwrIndex r) = s.fld (F.lnkRingrdIndex r)) :
    (s.ringLevel r).bit A.lnkIntstat r = false := by
  unfold State.ringLevel
  rw [if_pos h]
  exact bit_clearBit_self s _ (by omega)

theorem WritesOnly.tnt (h : WritesOnly l s t) : t.tnt = s.tnt := by rw [h.rest]

theorem flushEntries_of_nil (h : s.tnt.entries = []) : s.flushEntries s.tnt.entries = s := by
  rw [h]
  exact congrArg (fun e => { s with tnt := { s.tnt with entries := e } }) h.symm

/-- The indices of a ring lie apart, and apart from the interrupt flags. -/
theorem ringrd_ne_ringwr (r : Nat) : A.lnkRingrd r ≠ A.lnkRingwr r := by
  unfold A.lnkRingrd A.lnkRingwr
  omega

theorem ringwr_ne_intstat (r : Nat) : A.lnkRingwr r ≠ A.lnkIntstat := by
  unfold A.lnkRingwr A.lnkIntstat
  omega

theorem ringrd_ne_intstat (r : Nat) : A.lnkRingrd r ≠ A.lnkIntstat := by
  unfold A.lnkRingrd A.lnkIntstat
  omega

theorem fld_ringwr_ringLevel (s : State) (r : Nat) :
    (s.ringLevel r).fld (F.lnkRingwrIndex r) = s.fld (F.lnkRingwrIndex r) :=
  (writesOnly_ringLevel s r).fld (mt List.mem_singleton.1 (ringwr_ne_intstat r))

theorem fld_ringrd_ringLevel (s : State) (r : Nat) :
    (s.ringLevel r).fld (F.lnkRingrdIndex r) = s.fld (F.lnkRingrdIndex r) :=
  (writesOnly_ringLevel s r).fld (mt List.mem_singleton.1 (ringrd_ne_intstat r))

theorem exec_ringReadAdvance (w : Word) (hc : s.comUp = true) (hr : r < 4) (he : s.tnt.entries = []) :
    exec (.ringReadAdvance false r w) s =
      .next ((s.setFld (F.lnkRingrdIndex r) (bitsOf w.toNat 0 12)).ringLevel r) := by
  have hnone : ((s.setFld (F.lnkRingrdIndex r) (bitsOf w.toNat 0 12)).ringLevel r).tnt.entries = [] := by
    rw [(writesOnly_ringLevel _ r).tnt]
    exact he
  rw [← flushEntries_of_nil hnone]
  exact congrArg Host.Outcome.next ((if_neg Bool.false_ne_true).trans (if_pos (by simp [hc, hr])))

theorem completes_ringReadAdvance (w : Word) (hc : s.comUp = true) (hr : r < 4) (he : s.tnt.entries = []) :
    Completes (.ringReadAdvance false r w) s fun t =>
      t.fld (F.lnkRingrdIndex r) = bitsOf w.toNat 0 12
      ∧ s.sameRegsBut t [A.lnkRingrd r, A.lnkIntstat] ∧ s.sameMemory t := by
  have hwrites : WritesOnly [A.lnkRingrd r, A.lnkIntstat] s
      ((s.setFld (F.lnkRingrdIndex r) (bitsOf w.toNat 0 12)).ringLevel r) :=
    ((WritesOnly.refl _ s).setFld (f := F.lnkRingrdIndex r) (.head _)).ringLevel (.tail _ (.head _))
  refine ⟨_, exec_ringReadAdvance w hc hr he, ?_, hwrites.regs, hwrites.sameMemory⟩
  rw [fld_ringrd_ringLevel]
  exact fld_setFld_at s (bitsOf_lt ..)

/-- A staged base and size of a ring come into force. -/
def State.ringInForce (s : State) (r : Nat) : State :=
  { s with lnk := { s.lnk with
      ringStaged := s.lnk.ringStaged.erase r,
      rings := Sparse.insert s.lnk.rings r (64 * s.fld (F.lnkRingbaseBase r), s.fld (F.lnkRingsizeSize r)) } }

/-- Both indices of a ring are set to zero. -/
def State.ringEmptied (s : State) (r : Nat) : State :=
  (s.setFld (F.lnkRingwrIndex r) 0).setFld (F.lnkRingrdIndex r) 0

theorem ring_ringInForce_self (s : State) (r : Nat) :
    (s.ringInForce r).ring r = (64 * s.fld (F.lnkRingbaseBase r), s.fld (F.lnkRingsizeSize r)) := by
  unfold State.ring State.ringInForce
  rw [Sparse.find?_insert_self]
  rfl

theorem fld_ringwr_ringEmptied (s : State) (r : Nat) : (s.ringEmptied r).fld (F.lnkRingwrIndex r) = 0 :=
  (State.fld_setFld_ne _ 0 (ringrd_ne_ringwr r).symm).trans (fld_setFld_at s (Nat.two_pow_pos _))

theorem fld_ringrd_ringEmptied (s : State) (r : Nat) : (s.ringEmptied r).fld (F.lnkRingrdIndex r) = 0 :=
  fld_setFld_at _ (Nat.two_pow_pos _)

theorem exec_ringConfigApply (hs : s.lnk.ringStaged.contains r = true) (he : s.tnt.entries = []) :
    exec (.ringConfigApply r) s = .next (((s.ringInForce r).ringEmptied r).ringLevel r) := by
  have hnone : (((s.ringInForce r).ringEmptied r).ringLevel r).tnt.entries = [] := by
    rw [(writesOnly_ringLevel _ r).tnt]
    exact he
  rw [← flushEntries_of_nil hnone]
  exact congrArg Host.Outcome.next (if_pos hs)

theorem completes_ringConfigApply (hr : r < 4) (hs : s.lnk.ringStaged.contains r = true) (he : s.tnt.entries = []) :
    Completes (.ringConfigApply r) s fun t =>
      t.ring r = (64 * s.fld (F.lnkRingbaseBase r), s.fld (F.lnkRingsizeSize r))
      ∧ t.fld (F.lnkRingwrIndex r) = 0 ∧ t.fld (F.lnkRingrdIndex r) = 0 ∧ t.bit A.lnkIntstat r = false
      ∧ s.sameMemory t := by
  have hlevel := writesOnly_ringLevel ((s.ringInForce r).ringEmptied r) r
  have hwr := fld_ringwr_ringEmptied (s.ringInForce r) r
  have hrd := fld_ringrd_ringEmptied (s.ringInForce r) r
  refine ⟨_, exec_ringConfigApply hs he, ?_, ?_, ?_, ?_, hlevel.sameMemory⟩
  · rw [← ring_ringInForce_self s r, State.ring, hlevel.lnk]
    rfl
  · rw [fld_ringwr_ringLevel, hwr]
  · rw [fld_ringrd_ringLevel, hrd]
  · exact bit_ringLevel_of_eq hr (hwr.trans hrd.symm)

/-- An entry is written where WR stands, and WR moves on. -/
theorem writesOnly_lnkRingPut (s : State) (r : Nat) (e : List Byte) :
    WritesOnly [A.lnkRingwr r, A.lnkIntstat] (s.dma ((s.ring r).1 + 16 * s.fld (F.lnkRingwrIndex r)) e)
      (s.lnkRingPut r e) :=
  ((WritesOnly.refl _ _).setFld (f := F.lnkRingwrIndex r) (.head _)).ringLevel (.tail _ (.head _))

@[simp] theorem lnk_lnkRingPut (s : State) (r : Nat) (e : List Byte) : (s.lnkRingPut r e).lnk = s.lnk := by
  rw [(writesOnly_lnkRingPut s r e).lnk, lnk_dma]

theorem reg_lnkRingPut (s : State) (e : List Byte) {a : Nat} (hw : a ≠ A.lnkRingwr r) (hi : a ≠ A.lnkIntstat) :
    (s.lnkRingPut r e).reg a = s.reg a :=
  ((writesOnly_lnkRingPut s r e).regs a (by simp [hw, hi])).trans (reg_dma ..)

theorem byte_lnkRingPut_outside (s : State) {e : List Byte} {y : Nat}
    (h : y < (s.ring r).1 + 16 * s.fld (F.lnkRingwrIndex r)
      ∨ (s.ring r).1 + 16 * s.fld (F.lnkRingwrIndex r) + e.length ≤ y) :
    (s.lnkRingPut r e).byte y = s.byte y :=
  ((writesOnly_lnkRingPut s r e).sameMemory y).trans (byte_dma_outside s e h)

/-! ## Receive buffers (R263, R264, R275) -/

theorem length_rxEntry (s : State) (a : Arrived) (k : Nat) : (s.rxEntry a k).length = 16 := by
  simp [State.rxEntry]

/-- Where the record of a frame in buffer `k` begins. -/
def State.bufAddr (s : State) (k : Nat) : Nat := s.lnk.rxBase + (bufCapacity s.lnk.rxSz + 32) * k

/-- A frame's record is written in buffer `k` and counted. -/
def State.recorded (s : State) (a : Arrived) (k : Nat) : State :=
  ((s.dma (s.bufAddr k) (s.rxRecord a none ++ a.psdu)).lnkCount 8).setRegN A.lnkRxseq ((s.regN A.lnkRxseq + 1) % 2 ^ 32)

theorem writesOnly_recorded (s : State) (a : Arrived) (k : Nat) :
    WritesOnly [A.lnkCtr 8, A.lnkRxseq] (s.dma (s.bufAddr k) (s.rxRecord a none ++ a.psdu)) (s.recorded a k) :=
  ((WritesOnly.refl _ _).count (.head _)).setRegN

theorem lnk_recorded (s : State) (a : Arrived) (k : Nat) : (s.recorded a k).lnk = s.lnk :=
  (writesOnly_recorded s a k).lnk.trans (lnk_dma ..)

/-- The indices of a ring lie in the upper half of its 16 bytes of registers, where neither counter lies. -/
theorem fld_recorded (s : State) (a : Arrived) (k : Nat) {f : Fld} (h : 8 ≤ f.addr % 16) :
    (s.recorded a k).fld f = s.fld f := by
  have hcount : f.addr ≠ A.lnkCtr 8 := fun he => absurd (he ▸ h) (by decide)
  have hseq : f.addr ≠ A.lnkRxseq := fun he => absurd (he ▸ h) (by decide)
  rw [(writesOnly_recorded s a k).fld (by simp [hcount, hseq])]
  unfold State.fld State.regN
  rw [reg_dma]

theorem fld_ringwr_recorded (s : State) (a : Arrived) (k r : Nat) :
    (s.recorded a k).fld (F.lnkRingwrIndex r) = s.fld (F.lnkRingwrIndex r) :=
  fld_recorded s a k (by simp only [F.lnkRingwrIndex, A.lnkRingwr]; omega)

theorem fld_ringrd_recorded (s : State) (a : Arrived) (k r : Nat) :
    (s.recorded a k).fld (F.lnkRingrdIndex r) = s.fld (F.lnkRingrdIndex r) :=
  fld_recorded s a k (by simp only [F.lnkRingrdIndex, A.lnkRingrd]; omega)

theorem regN_rxseq_recorded (s : State) (a : Arrived) (k : Nat) :
    (s.recorded a k).regN A.lnkRxseq = (s.regN A.lnkRxseq + 1) % 2 ^ 32 := by
  unfold State.recorded
  rw [State.regN_setRegN_self, Nat.mod_mod]

theorem byte_recorded_outside (s : State) (a : Arrived) (k : Nat) {y : Nat}
    (h : y < s.bufAddr k ∨ s.bufAddr k + (s.rxRecord a none ++ a.psdu).length ≤ y) :
    (s.recorded a k).byte y = s.byte y :=
  ((writesOnly_recorded s a k).sameMemory y).trans (byte_dma_outside s _ h)

theorem ring_of_lnk (h : t.lnk = s.lnk) (r : Nat) : t.ring r = s.ring r := by
  unfold State.ring
  rw [h]

/-- A record leaves its ring with the room that it had. -/
theorem ringRoom_recorded (s : State) (a : Arrived) (k r : Nat) :
    (s.recorded a k).ringRoom r = s.ringRoom r := by
  unfold State.ringRoom
  rw [ring_of_lnk (lnk_recorded s a k), fld_ringwr_recorded, fld_ringrd_recorded]

/-- Buffer `k` is taken. -/
def State.takeBuffer (s : State) (k : Nat) : State := { s with lnk := { s.lnk with taken := k :: s.lnk.taken } }

theorem announce_of_ringRoom {a : Arrived} {k : Nat} (h : s.ringRoom (s.fld F.lnkRxcfgDefring) = true) :
    s.announce a none k =
      ((s.recorded a k).takeBuffer k).lnkRingPut (s.fld F.lnkRxcfgDefring) (s.rxEntry a k) := by
  have hroom := (ringRoom_recorded s a k _).trans h
  have hseq : (s.dma (s.bufAddr k) (s.rxRecord a none ++ a.psdu)).regN A.lnkRxseq = s.regN A.lnkRxseq :=
    congrArg BitVec.toNat (reg_dma ..)
  unfold State.recorded at hroom ⊢
  rw [← hseq] at hroom ⊢
  exact if_pos hroom

theorem lnk_announce {a : Arrived} {k : Nat} (h : s.ringRoom (s.fld F.lnkRxcfgDefring) = true) :
    (s.announce a none k).lnk = { s.lnk with taken := k :: s.lnk.taken } := by
  rw [announce_of_ringRoom h, lnk_lnkRingPut, State.takeBuffer, lnk_recorded]

theorem regN_rxseq_announce {a : Arrived} {k : Nat} (h : s.ringRoom (s.fld F.lnkRxcfgDefring) = true) :
    (s.announce a none k).regN A.lnkRxseq = (s.regN A.lnkRxseq + 1) % 2 ^ 32 := by
  rw [announce_of_ringRoom h, ← regN_rxseq_recorded s a k]
  refine congrArg BitVec.toNat (reg_lnkRingPut _ _ ?_ (by decide))
  unfold A.lnkRxseq A.lnkRingwr
  omega

/-- Only a frame's record and its entry are written. -/
theorem byte_announce_outside {a : Arrived} {k y : Nat} (h : s.ringRoom (s.fld F.lnkRxcfgDefring) = true)
    (hbuf : y < s.bufAddr k ∨ s.bufAddr k + (s.rxRecord a none ++ a.psdu).length ≤ y)
    (hentry : y < (s.ring (s.fld F.lnkRxcfgDefring)).1 + 16 * s.fld (F.lnkRingwrIndex (s.fld F.lnkRxcfgDefring))
      ∨ (s.ring (s.fld F.lnkRxcfgDefring)).1 + 16 * s.fld (F.lnkRingwrIndex (s.fld F.lnkRxcfgDefring)) + 16 ≤ y) :
    (s.announce a none k).byte y = s.byte y := by
  have hring := ring_of_lnk (lnk_recorded s a k) (s.fld F.lnkRxcfgDefring)
  have hwr := fld_ringwr_recorded s a k (s.fld F.lnkRxcfgDefring)
  rw [announce_of_ringRoom h, ← byte_recorded_outside s a k hbuf]
  refine byte_lnkRingPut_outside _ ?_
  rw [length_rxEntry]
  rw [← hring, ← hwr] at hentry
  exact hentry

/-- The first arrived frame is taken from the decoders' list. -/
def State.arrivalTaken (s : State) (rest : List Arrived) : State := { s with lnk := { s.lnk with arrived := rest } }

theorem receive_of_unmatched {a : Arrived} {k : Nat} (h : s.matchLink a (macView a.psdu) = none) :
    s.receive a k = s.announce a none k := by
  unfold State.receive
  extract_lets v
  rw [h]

/-- A sound frame of the wide path that no link hears is announced in the default ring. -/
theorem exec_frameReceived_unmatched {a : Arrived} {rest : List Arrived} {k : Nat} (ha : s.lnk.arrived = a :: rest)
    (hd : a.delivered = true) (hf : a.fcsOk = true) (hl : a.psdu.length ≤ bufCapacity s.lnk.rxSz)
    (hk : s.freeBuffer = some k) (hm : s.matchLink a (macView a.psdu) = none) (hw : a.action = 0xFFFF) :
    exec .frameReceived s = .next ((s.arrivalTaken rest).announce a none k) := by
  have hfree : (s.arrivalTaken rest).freeBuffer = some k := hk
  have hmatch : (s.arrivalTaken rest).matchLink a (macView a.psdu) = none := hm
  have hlen : ¬bufCapacity (s.arrivalTaken rest).lnk.rxSz < a.psdu.length := Nat.not_lt.2 hl
  change execFrameReceived s = _
  unfold execFrameReceived
  split
  case h_1 hnil => exact absurd (ha.symm.trans hnil) (List.cons_ne_nil a rest)
  case h_2 hcons =>
    obtain ⟨rfl, rfl⟩ := List.cons.inj (ha.symm.trans hcons)
    extract_lets lnk s1
    have hmark : s1 = s.arrivalTaken rest := if_neg (by simp [hw])
    rw [hmark, if_neg (by simp [hd]), if_neg (by simp [hf]), if_neg hlen, hfree]
    exact congrArg Host.Outcome.next (receive_of_unmatched hmatch)

theorem completes_frameReceived {a : Arrived} {rest : List Arrived} {k : Nat} (ha : s.lnk.arrived = a :: rest)
    (hd : a.delivered = true) (hf : a.fcsOk = true) (hl : a.psdu.length ≤ bufCapacity s.lnk.rxSz)
    (hk : s.freeBuffer = some k) (hm : s.matchLink a (macView a.psdu) = none)
    (hroom : s.ringRoom (s.fld F.lnkRxcfgDefring) = true) (hw : a.action = 0xFFFF) :
    let r := s.fld F.lnkRxcfgDefring
    let at_ := s.lnk.rxBase + (bufCapacity s.lnk.rxSz + 32) * k
    let n := (s.rxRecord a none ++ a.psdu).length
    let entry := (s.ring r).1 + 16 * s.fld (F.lnkRingwrIndex r)
    Completes .frameReceived s fun t =>
      t.lnk.taken = k :: s.lnk.taken ∧ t.lnk.arrived = rest
      ∧ t.regN A.lnkRxseq = (s.regN A.lnkRxseq + 1) % 2 ^ 32
      ∧ (∀ y, (y < at_ ∨ at_ + n ≤ y) → (y < entry ∨ entry + 16 ≤ y) → t.byte y = s.byte y) := by
  have hroom' : (s.arrivalTaken rest).ringRoom ((s.arrivalTaken rest).fld F.lnkRxcfgDefring) = true := hroom
  refine ⟨_, exec_frameReceived_unmatched ha hd hf hl hk hm hw, ?_, ?_, regN_rxseq_announce hroom',
    fun y hbuf hentry => byte_announce_outside hroom' hbuf hentry⟩
  · rw [lnk_announce hroom']
    rfl
  · rw [lnk_announce hroom']
    rfl

/-- A buffer that was taken is free again. -/
theorem exec_rxrelease {w : Word} (hc : s.comUp = true) (hlt : bitsOf w.toNat 0 10 < s.lnk.rxCount)
    (ht : s.lnk.taken.contains (bitsOf w.toNat 0 10) = true) :
    exec (.rxrelease false w) s =
      .next { s with lnk := { s.lnk with taken := s.lnk.taken.erase (bitsOf w.toNat 0 10) } } := by
  change execRxrelease false w s = _
  unfold execRxrelease guarded
  rw [if_neg Bool.false_ne_true, if_pos hc]
  exact congrArg Host.Outcome.next (if_pos (by simp only [hlt, ht, decide_true, Bool.and_self]))

theorem exec_rxConfigApply (hs : s.lnk.rxStaged = true) :
    exec .rxConfigApply s = .next { s with lnk := { s.lnk with
      rxStaged := false, taken := [], rxBase := 8 * s.fld F.lnkRxbaseBase, rxCount := s.fld F.lnkRxcountCount,
      rxSz := s.fld F.lnkRxcfgBufsz } } :=
  congrArg Host.Outcome.next (if_pos hs)

/-- Settles O34: what goes on in the decoder leaves the contexts, the timebase and memory alone, so a block that forms
and a frame handed on change what each event names; and a record and its ring entry are the only writes to memory. -/
theorem decodingAndReceiveBuffers : Obligations.DecodingAndReceiveBuffers := by
  unfold Obligations.DecodingAndReceiveBuffers
  intro s
  exact ⟨fun n llrs hs hf hw => completes_blockDispatch llrs hs hf hw,
    fun i good data b rest x hq hc hx hw => completes_blockDecodeDone_pass good data hq hc hx hw,
    fun i => completes_slotExpire s i,
    fun a rest b ha hd hf hl hk hm hroom hw => completes_frameReceived ha hd hf hl hk hm hroom hw,
    fun w hc hlt ht => ⟨_, exec_rxrelease hc hlt ht, rfl⟩,
    fun r w hc hr he => completes_ringReadAdvance w hc hr he,
    fun hs => ⟨_, exec_rxConfigApply hs, rfl, rfl, rfl, rfl, rfl, fun _ _ => rfl, fun _ => rfl⟩,
    fun r hr hs he => completes_ringConfigApply hr hs he⟩

end Sys2Proof.Machine
end

section
/-!
The slots of the link controller (R247-R251, R260): their records and their states, and the outcomes of actions.
-/

namespace Sys2Proof.Machine

variable {s t u : State} {n : Nat} {c : Chain} {l : List Nat}

/-! ## What goes on beside the slots -/

/-- `t` comes from `s` by changes beside the slots: the action records, what the link controller keeps of the slots, the
timebase, the chains' always-on store and memory are as in `s`. Each function below has one lemma, named after it, that
says so. -/
structure KeepsSlots (s t : State) : Prop where
  reg : ∀ a, A.lnkAction 0 ≤ a → t.reg a = s.reg a
  lnk : t.lnk = s.lnk
  tb : t.tb = s.tb
  store : ∀ c, t.store c = s.store c
  memory : s.sameMemory t

namespace KeepsSlots

theorem refl (s : State) : KeepsSlots s s := ⟨fun _ _ => rfl, rfl, rfl, fun _ => rfl, fun _ => rfl⟩

theorem act (h : KeepsSlots s t) (n : Nat) : t.act n = s.act n := by
  have hword (i : Nat) : t.actW n i = s.actW n i := congrArg BitVec.toNat (h.reg _ (by unfold A.lnkAction; omega))
  unfold State.act
  simp only [hword]

theorem slot (h : KeepsSlots s t) (n : Nat) : t.slot n = s.slot n := by
  unfold State.slot
  rw [h.lnk]

theorem rampOf (h : KeepsSlots s t) (c : Chain) (mode : Nat) : t.rampOf c mode = s.rampOf c mode := by
  unfold State.rampOf
  rw [h.store]

theorem followersOf (h : KeepsSlots s t) (n : Nat) : t.followersOf n = s.followersOf n := by
  unfold State.followersOf State.liveSlots
  simp only [h.act, h.slot, h.lnk]

/-! ### Branches and registers -/

theorem ite {p : Prop} {i : Decidable p} (ht : KeepsSlots s t) (hu : KeepsSlots s u) :
    KeepsSlots s (if p then t else u) := by
  split
  · exact ht
  · exact hu

/-- Registers below the action records are those of the front end and of the link controller itself. -/
theorem writesOnly (h : KeepsSlots s t) (hw : WritesOnly l t u) (hl : ∀ a ∈ l, a < A.lnkAction 0) :
    KeepsSlots s u where
  reg a ha := (hw.regs a fun hm => Nat.not_lt.2 ha (hl a hm)).trans (h.reg a ha)
  lnk := hw.lnk.trans h.lnk
  tb := hw.tb.trans h.tb
  store c := (hw.store c).trans (h.store c)
  memory a := (hw.sameMemory a).trans (h.memory a)

theorem setRegN (h : KeepsSlots s t) {a v : Nat} (ha : a < A.lnkAction 0 := by decide) : KeepsSlots s (t.setRegN a v) :=
  h.writesOnly ((WritesOnly.refl [a] t).setRegN (.head _)) (by simpa using ha)

theorem raise (h : KeepsSlots s t) {f : Fld} (ha : f.addr < A.lnkAction 0 := by decide) : KeepsSlots s (t.raise f) :=
  h.setRegN ha

theorem lnkCount (h : KeepsSlots s t) {k : Nat} (ha : A.lnkCtr k < A.lnkAction 0 := by decide) :
    KeepsSlots s (t.lnkCount k) := h.setRegN ha

/-! ### Chains -/

theorem setChain (h : KeepsSlots s t) {x : ChainState} : KeepsSlots s (t.setChain c x) where
  reg a ha := (reg_setChain ..).trans (h.reg a ha)
  lnk := (setChain_lnk ..).trans h.lnk
  tb := (setChain_tb ..).trans h.tb
  store d := by
    rw [← h.store d]
    cases c
    · rfl
    · rfl
  memory a := (byte_setChain ..).trans (h.memory a)

theorem setChState (h : KeepsSlots s t) {k : Nat} : KeepsSlots s (t.setChState c k) :=
  h.writesOnly ((WritesOnly.refl [A.rfsStat c, A.rfsRssi c] t).setChState (.head _) (.tail _ (.head _)))
    (by cases c <;> decide)

theorem tune (h : KeepsSlots s t) {f : Nat} : KeepsSlots s (t.tune c f) :=
  h.setChain.writesOnly ((WritesOnly.refl [A.rfsFreq c] _).showFreq (.head _)) (by cases c <;> decide)

theorem releaseChain (h : KeepsSlots s t) : KeepsSlots s (t.releaseChain c) := by
  rw [releaseChain_eq]
  exact .ite (h.setChain (c := c)).setChState h.setChain

theorem freeChains (h : KeepsSlots s t) : KeepsSlots s (t.freeChains n) :=
  have one {t : State} (c : Chain) (h : KeepsSlots s t) :
      KeepsSlots s (if (t.chain c).holder = some n then t.releaseChain c else t) := .ite h.releaseChain h
  one .t (one .s h)

/-! ### Outcomes -/

theorem countOutcome (h : KeepsSlots s t) {st reason : Nat} : KeepsSlots s (t.countOutcome st reason) :=
  .ite h.lnkCount (.ite h.lnkCount (.ite h.lnkCount.raise (.ite h.lnkCount (.ite h.lnkCount.raise h))))

end KeepsSlots

/-- A roll changes no slot. -/
theorem lnk_roll (s : State) : s.roll.2.lnk = s.lnk := by
  unfold State.roll
  extract_lets sec v
  change v.lnk = s.lnk
  unfold v
  split
  · rfl
  · rfl

/-! ## Slots -/

theorem slot_of_lnk (h : t.lnk = s.lnk) (n : Nat) : t.slot n = s.slot n := by
  unfold State.slot
  rw [h]

theorem slot_setSlot_ne (s : State) {m n : Nat} (x : Slot) (h : m ≠ n) : (s.setSlot n x).slot m = s.slot m :=
  congrArg (Option.getD · _) (Sparse.find?_insert_ne _ x h)

theorem state_freeSlot_self (s : State) (n : Nat) : ((s.freeSlot n).slot n).state = 0 := by
  unfold State.slot State.freeSlot
  rw [Sparse.find?_erase_self]
  rfl

theorem mem_liveSlots_of_setSlot {m : Nat} {x : Slot} (h : m ∈ (s.setSlot n x).liveSlots) :
    m = n ∨ m ∈ s.liveSlots := by
  obtain ⟨p, hp, rfl⟩ := List.mem_map.1 h
  obtain rfl | hmem := Sparse.mem_insert hp
  · exact .inl rfl
  · exact .inr (List.mem_map_of_mem hmem)

/-- A change of a slot brings it no follower: a slot does not follow itself. -/
theorem followersOf_setSlot_self (x : Slot) (h : s.followersOf n = []) : (s.setSlot n x).followersOf n = [] := by
  unfold State.followersOf at h ⊢
  rw [List.filter_eq_nil_iff] at h ⊢
  intro m hm hfollows
  by_cases hmn : m = n
  · simp [hmn] at hfollows
  · rw [slot_setSlot_ne s x hmn] at hfollows
    exact h m ((mem_liveSlots_of_setSlot hm).resolve_left hmn) hfollows

/-! ## Outcomes (R251, R260, R261) -/

/-- A slot whose outcome is fixed: DONE, with its status, reason and time. -/
def State.doneSlot (s : State) (n : Nat) (st : Status) (reason : Nat) : Slot :=
  { s.slot n with
    state := 5, status := st.code, reason := reason, time := (s.slot n).stamp (s.act n) s.tb.now, ended := true,
    listening := false }

theorem keepsSlots_fixOutcome (s : State) (n : Nat) (st : Status) (reason : Nat) :
    KeepsSlots (s.setSlot n (s.doneSlot n st reason)) (s.fixOutcome n st reason) := (KeepsSlots.refl _).countOutcome

theorem KeepsSlots.doneSlot (h : KeepsSlots s t) (n : Nat) (st : Status) (reason : Nat) :
    t.doneSlot n st reason = s.doneSlot n st reason := by
  unfold State.doneSlot
  rw [h.slot, h.act, h.tb]

/-- An action that none follows has its chains freed and its outcome fixed. -/
theorem finishAction_of_no_followers (h : s.followersOf n = []) (st : Status) (reason : Nat) :
    s.finishAction n st reason = (s.freeChains n).fixOutcome n st reason := by
  have hfree : (s.freeChains n).followersOf n = [] := ((KeepsSlots.refl s).freeChains.followersOf n).trans h
  rw [finishAction_eq, (keepsSlots_fixOutcome ..).followersOf, followersOf_setSlot_self _ hfree]
  rfl

theorem lnk_finishAction (h : s.followersOf n = []) (st : Status) (reason : Nat) :
    (s.finishAction n st reason).lnk = (s.setSlot n (s.doneSlot n st reason)).lnk := by
  have hfree : KeepsSlots s (s.freeChains n) := (KeepsSlots.refl s).freeChains
  rw [finishAction_of_no_followers h, (keepsSlots_fixOutcome ..).lnk, hfree.doneSlot]
  unfold State.setSlot
  rw [hfree.lnk]

theorem slot_finishAction (h : s.followersOf n = []) (st : Status) (reason : Nat) :
    (s.finishAction n st reason).slot n = s.doneSlot n st reason :=
  (slot_of_lnk (lnk_finishAction h st reason) n).trans (slot_setSlot_self ..)

theorem sameMemory_finishAction (s : State) (n : Nat) (st : Status) (reason : Nat) :
    s.sameMemory (s.finishAction n st reason) := fun a =>
  ((keepsFront_finishAction s n st reason).memory a).trans ((freesChains_freeChains s n).memory a)

/-- The slot of an action whose work ends. -/
theorem slot_endWork (s : State) (n : Nat) :
    (s.endWork n).slot n = { s.slot n with ended := true, listening := false } := by
  rw [← (KeepsSlots.refl s).freeChains.slot]
  exact slot_setSlot_self (s.freeChains n) n _

theorem holder_endWork (h : (s.chain c).holder = some n) : ((s.endWork n).chain c).holder = none := holder_freeChains h

end Sys2Proof.Machine
end

section
/-!
Actions of the link controller: submission and cancellation, claims, receivers and listens, backoff, WATCH listens and
completions (R250-R252, R254, R260-R262, R266, R268, R271).
-/

namespace Sys2Proof.Machine

variable {s t : State} {n : Nat} {c : Chain}

/-! ## Submission and cancellation (R250, R254) -/

theorem regN_cmdStat (hn : n < 512) (hg : s.slotGen n < 128) (st : Status) :
    (s.cmdStat n st).regN A.lnkCmdstat = 2 ^ 16 * st.code + 512 * s.slotGen n + n := by
  have hst := status_code_lt st
  unfold State.cmdStat
  rw [State.regN_setRegN_self, Nat.mod_eq_of_lt (by omega)]

/-- CMDSTAT shows the result, the generation and the slot. -/
theorem fld_cmdStat (hn : n < 512) (hg : s.slotGen n < 128) (st : Status) :
    (s.cmdStat n st).fld F.lnkCmdstatResult = st.code ∧ (s.cmdStat n st).fld F.lnkCmdstatSlot = n
      ∧ (s.cmdStat n st).fld F.lnkCmdstatGen = s.slotGen n := by
  have hreg := regN_cmdStat hn hg st
  have hst := status_code_lt st
  simp only [State.fld, F.lnkCmdstatResult, F.lnkCmdstatSlot, F.lnkCmdstatGen, hreg, bitsOf]
  omega

theorem slot_acceptAction (s : State) (n : Nat) (own : Option (List Byte)) :
    ((s.acceptAction n own).slot n).state = if (s.act n).lg then 6 else 1 := by
  change ((Sparse.find? (Sparse.insert s.lnk.slots n _) n).getD _).state = _
  rw [Sparse.find?_insert_self]
  rfl

theorem slotGen_acceptAction (s : State) (n : Nat) (own : Option (List Byte)) :
    (s.acceptAction n own).slotGen n = (s.slotGen n + 1) % 128 := by
  change (Sparse.find? (Sparse.insert s.lnk.gens n _) n).getD _ = _
  rw [Sparse.find?_insert_self]
  rfl

theorem exec_lnkSubmit_pending {w : Word} (hc : s.comUp = true)
    (hp : s.submitCode (bitsOf w.toNat 0 9) = .pending) :
    exec (.lnkSubmit false w) s =
      .next ((s.acceptAction (bitsOf w.toNat 0 9) none).cmdStat (bitsOf w.toNat 0 9) .pending) := by
  change execLnkSubmit false w s = _
  unfold execLnkSubmit guarded
  simp only [hc, hp, if_true]
  rfl

theorem completes_lnkSubmit_pending {w : Word} (hc : s.comUp = true)
    (hp : s.submitCode (bitsOf w.toNat 0 9) = .pending) :
    let n := bitsOf w.toNat 0 9
    Completes (.lnkSubmit false w) s fun t =>
      (t.slot n).state = (if (s.act n).lg then 6 else 1) ∧ t.slotGen n = (s.slotGen n + 1) % 128
      ∧ t.fld F.lnkCmdstatResult = Status.pending.code ∧ t.fld F.lnkCmdstatSlot = n
      ∧ t.fld F.lnkCmdstatGen = (s.slotGen n + 1) % 128 ∧ s.sameRegsBut t [A.lnkCtr 0, A.lnkCmdstat]
      ∧ s.sameMemory t := by
  intro n
  have hn : n < 512 := bitsOf_lt ..
  have hgen := slotGen_acceptAction s n none
  obtain ⟨hres, hslot, hshown⟩ := fld_cmdStat (s := s.acceptAction n none) hn (by rw [hgen]; omega) .pending
  have hwrites : WritesOnly [A.lnkCtr 0, A.lnkCmdstat] _ ((s.acceptAction n none).cmdStat n .pending) :=
    ((WritesOnly.refl _ _).count (.head _)).setRegN
  exact ⟨_, exec_lnkSubmit_pending hc hp, slot_acceptAction s n none, hgen, hres, hslot, hshown.trans hgen,
    fun a ha => hwrites.regs a ha, fun a => hwrites.sameMemory a⟩

/-- An action that has not begun is cancelled at once. -/
theorem cancelOne_of_waiting (h : (s.slot n).state = 1 ∨ (s.slot n).state = 4 ∨ (s.slot n).state = 6) :
    s.cancelOne n = (.ok, s.finishAction n .cancelled 0) := by
  unfold State.cancelOne
  obtain h | h | h := h
  · simp only [h]
  · simp only [h]
  · simp only [h]

theorem exec_lnkCancel_waiting {w : Word} (hc : s.comUp = true) (hall : bitAt w.toNat 31 = false)
    (hn : bitsOf w.toNat 0 9 < 448)
    (hst : (s.slot (bitsOf w.toNat 0 9)).state = 1 ∨ (s.slot (bitsOf w.toNat 0 9)).state = 4
      ∨ (s.slot (bitsOf w.toNat 0 9)).state = 6) :
    exec (.lnkCancel false w) s =
      .next ((s.finishAction (bitsOf w.toNat 0 9) .cancelled 0).cmdStat (bitsOf w.toNat 0 9) .ok) := by
  change execLnkCancel false w s = _
  unfold execLnkCancel guarded
  simp only [hc, hall, Nat.not_le.2 hn, cancelOne_of_waiting hst, if_true, if_false, Bool.false_eq_true]

theorem completes_lnkCancel_waiting {w : Word} (hc : s.comUp = true) (hall : bitAt w.toNat 31 = false)
    (hn : bitsOf w.toNat 0 9 < 448)
    (hst : (s.slot (bitsOf w.toNat 0 9)).state = 1 ∨ (s.slot (bitsOf w.toNat 0 9)).state = 4
      ∨ (s.slot (bitsOf w.toNat 0 9)).state = 6)
    (hg : s.slotGen (bitsOf w.toNat 0 9) < 128) (hf : s.followersOf (bitsOf w.toNat 0 9) = []) :
    let n := bitsOf w.toNat 0 9
    Completes (.lnkCancel false w) s fun t =>
      (t.slot n).state = 5 ∧ (t.slot n).status = Status.cancelled.code ∧ (t.slot n).reason = 0
      ∧ t.fld F.lnkCmdstatResult = Status.ok.code ∧ s.sameMemory t := by
  intro n
  have hslot : ((s.finishAction n .cancelled 0).cmdStat n .ok).slot n = s.doneSlot n .cancelled 0 :=
    slot_finishAction hf .cancelled 0
  have hgen : (s.finishAction n .cancelled 0).slotGen n = s.slotGen n := by
    unfold State.slotGen
    rw [lnk_finishAction hf]
    rfl
  have hres := (fld_cmdStat (s := s.finishAction n .cancelled 0) (bitsOf_lt ..) (hgen ▸ hg) .ok).1
  exact ⟨_, exec_lnkCancel_waiting hc hall hn hst, congrArg Slot.state hslot, congrArg Slot.status hslot,
    congrArg Slot.reason hslot, hres, fun a => sameMemory_finishAction s n .cancelled 0 a⟩

/-! ## NEXT (R252, R274) -/

/-- NEXT0 and NEXT1 hold the halves of a tick. -/
def State.nextShown (s : State) (v : Nat) : State := (s.setRegN A.lnkNext0 (v % 2 ^ 32)).setRegN A.lnkNext1 (v / 2 ^ 32)

theorem reg_next0_nextShown (s : State) (v : Nat) : (s.nextShown v).reg A.lnkNext0 = Word.ofN (v % 2 ^ 32) :=
  (State.reg_setRegN_ne _ _ (by decide)).trans (State.reg_setReg_self ..)

theorem exec_lnkNext0Read (hc : s.comUp = true) :
    exec .lnkNext0Read s = .next { s.nextShown (s.nextClaim.getD (2 ^ 64 - 1)) with
      busData := (s.nextShown (s.nextClaim.getD (2 ^ 64 - 1))).reg A.lnkNext0, busError := false } :=
  congrArg Host.Outcome.next (if_pos hc)

/-! ## Claims (R252, R255, R259) -/

/-- The lead by which a claim is judged late is no longer than its claim lead, so one made in time is not late. -/
theorem lateLead_le_claimLead (s : State) (n : Nat) : s.lateLead n ≤ s.claimLead (s.act n) := by
  unfold State.lateLead
  extract_lets a
  split
  case isFalse => exact Nat.le_refl _
  case isTrue h =>
    obtain ⟨-, hkind⟩ : a.timing = 1 ∧ (a.kind = 1 ∨ a.kind = 6) := by simpa using h
    have hlead : s.claimLead a = s.rampOf (chainOf a.chain) a.mode + max 480 (s.coexLead (chainOf a.chain)) := by
      unfold State.claimLead
      rw [if_neg (by omega), if_pos (by simpa using hkind)]
    rw [hlead]
    omega

/-- The slot and the chain of an action that takes its chain. -/
theorem takeChain_shows (s : State) (n from_ : Nat) :
    ((s.takeChain n from_).slot n).state = 2
      ∧ ((s.act n).receives = false → ((s.takeChain n from_).slot n).from_ = from_)
      ∧ ((s.takeChain n from_).chain (s.slotChain n)).holder = some n
      ∧ ((s.takeChain n from_).chain (s.slotChain n)).rxFreq = (s.act n).freq
      ∧ s.sameMemory (s.takeChain n from_) := by
  unfold State.takeChain
  extract_lets c f settle at_ x s1 y
  have hheld : KeepsSlots s s1 := (KeepsSlots.refl s).setChain
  have hslot (x : Slot) : ((s1.setSlot n x).tune c f).slot n = x :=
    ((KeepsSlots.refl _).tune.slot n).trans (slot_setSlot_self s1 n x)
  have hchain (x : Slot) : ((s1.setSlot n x).tune c f).chain c = { s1.chain c with rxFreq := f, carrier := 0 } :=
    (chain_showFreq _ c c).trans (chain_setChain_self ..)
  have hholder : (s1.chain c).holder = some n := congrArg ChainState.holder (chain_setChain_self ..)
  refine ⟨?_, fun hr => ?_, ?_, ?_, fun a => ?_⟩
  · rw [hslot]
  · rw [hslot]
    exact if_neg (by simp [hr])
  · exact (congrArg ChainState.holder (hchain _)).trans hholder
  · exact congrArg ChainState.rxFreq (hchain _)
  · exact ((KeepsSlots.refl (s1.setSlot n _)).tune.memory a).trans (hheld.memory a)

/-- The lines of ACTION_CLAIM that decide: a pending action with a fixed start, whose claim tick has come in time, and a
chain that is free for it. -/
structure State.AtClaim (s : State) (n start : Nat) : Prop where
  pending : (s.slot n).state = 1
  onChain : (s.act n).kind ≠ 5
  timed : s.slotAsap n = false
  radio : s.radioHold = false
  swap : s.swapHold = false
  ready : 3 ≤ s.chState (s.slotChain n)
  calibrated : s.chState (s.slotChain n) ≠ 9
  free : (s.chain (s.slotChain n)).holder = none
  fits : s.listens n = true → s.fitsFrom n (s.tb.now + 1) = true
  starts : (s.slot n).start = some start
  due : start - s.claimLead (s.act n) ≤ s.tb.now
  early : (s.act n).transmits = true → s.tb.now ≤ start - s.claimLead (s.act n)

theorem State.AtClaim.claim {start : Nat} (h : s.AtClaim n start) :
    ∃ from_, s.claim n = s.takeChain n from_ := by
  obtain ⟨-, -, -, hradio, hswap, hready, hcal, hfree, hfits, hstart, -, hearly⟩ := h
  have hlead := lateLead_le_claimLead s n
  have hlate : ¬((s.act n).transmits && decide (start - s.lateLead n < s.tb.now)) = true := by
    rw [Bool.and_eq_true, decide_eq_true_eq]
    rintro ⟨htx, hlt⟩
    have hin := hearly htx
    omega
  have hfit : ¬(s.listens n && !s.fitsFrom n (s.tb.now + 1)) = true := by
    rw [Bool.and_eq_true, Bool.not_eq_true']
    rintro ⟨hl, hf⟩
    rw [hfits hl] at hf
    cases hf
  unfold State.slotChain at hready hcal hfree
  unfold State.claim
  extract_lets a c st at_ from_
  have hat : at_ = start := by
    unfold at_
    rw [hstart]
    rfl
  rw [if_neg (by simp [hradio]), if_neg hcal, if_neg (by simp [hswap]), if_neg (Nat.not_lt.2 hready), hat,
    if_neg hlate, if_neg hfit, hfree]
  exact ⟨from_, rfl⟩

theorem exec_actionClaim_timed {start : Nat} (h : s.AtClaim n start) :
    exec (.actionClaim n) s = .next (s.claim n) := by
  obtain ⟨hpending, hkind, htimed, -, -, -, -, -, -, hstart, hdue, -⟩ := h
  have htick : s.claimTick n = some (start - s.claimLead (s.act n)) := by
    unfold State.claimTick
    rw [hstart]
    rfl
  change execActionClaim n s = _
  unfold execActionClaim
  simp [hpending, hkind, htimed, htick, hdue]

theorem completes_actionClaim {start : Nat} (h : s.AtClaim n start) :
    Completes (.actionClaim n) s fun t =>
      (t.slot n).state = 2 ∧ (t.chain (s.slotChain n)).holder = some n
      ∧ (t.chain (s.slotChain n)).rxFreq = (s.act n).freq ∧ s.sameMemory t := by
  obtain ⟨from_, hclaim⟩ := h.claim
  obtain ⟨hstate, -, hholder, hfreq, hmem⟩ := takeChain_shows s n from_
  refine ⟨_, exec_actionClaim_timed h, ?_⟩
  rw [hclaim]
  exact ⟨hstate, hholder, hfreq, hmem⟩

/-! ## Starts (R249, R265, R266) -/

theorem Act.transmits_iff (a : Act) : a.transmits = true ↔ a.kind = 1 ∨ a.kind = 2 ∨ a.kind = 6 := by
  simp [Act.transmits, or_assoc]

theorem Act.receives_iff (a : Act) : a.receives = true ↔ a.kind = 3 ∨ a.kind = 4 := by
  simp [Act.receives]

theorem receives_eq_false_of_transmits {a : Act} (h : a.transmits = true) : a.receives = false := by
  rw [Act.transmits_iff] at h
  rw [Bool.eq_false_iff, ne_eq, Act.receives_iff]
  omega

theorem kind_ne_of_transmits {a : Act} (h : a.transmits = true) : a.kind ≠ 5 := by
  rw [Act.transmits_iff] at h
  omega

theorem kind_ne_of_receives {a : Act} (h : a.receives = true) : a.kind ≠ 5 := by
  rw [Act.receives_iff] at h
  omega

/-- A chain's receiver is on for a mode. -/
def State.receiverOn (s : State) (c : Chain) (mode : Nat) : State :=
  (s.setChState c 4).setChain c { (s.setChState c 4).chain c with rxMode := mode, femRx := true }

theorem KeepsSlots.receiverOn (h : KeepsSlots s t) {mode : Nat} : KeepsSlots s (t.receiverOn c mode) :=
  h.setChState.setChain

theorem chState_receiverOn (s : State) (c : Chain) (mode : Nat) : (s.receiverOn c mode).chState c = 4 :=
  (chState_setChain ..).trans (chState_setChState s c (by decide))

theorem femRx_receiverOn (s : State) (c : Chain) (mode : Nat) : ((s.receiverOn c mode).chain c).femRx = true :=
  congrArg ChainState.femRx (chain_setChain_self ..)

/-- The listen time of a frequency comes from the regional record and LBTCFG. -/
theorem listenTicks_receiverOn (s : State) (c : Chain) (mode : Nat) (a : Act) :
    (s.receiverOn c mode).listenTicks a = s.listenTicks a := by
  have hrlr : (s.receiverOn c mode).rf.rlr = s.rf.rlr := by
    cases c
    · rfl
    · rfl
  have hband (k : Nat) : (s.receiverOn c mode).rlrBand k = s.rlrBand k := by
    unfold State.rlrBand
    rw [hrlr]
  have hcfg : (s.receiverOn c mode).fld F.lnkLbtcfgListen = s.fld F.lnkLbtcfgListen :=
    (fld_setChain ..).trans (((WritesOnly.refl [A.rfsStat c, A.rfsRssi c] s).setChState (.head _)
      (.tail _ (.head _))).fld (by cases c <;> decide))
  unfold State.listenTicks State.bandsOf
  simp only [hband, hcfg]

theorem exec_actionStart_rx (hh : (s.chain (s.slotChain n)).holder = some n) (hc : s.chState (s.slotChain n) = 3)
    (hst : (s.slot n).state = 2) (hr : (s.act n).receives = true) (hstart : (s.slot n).start.getD 0 ≤ s.tb.now)
    (hfrom : (s.slot n).from_ ≤ s.tb.now) : exec (.actionStart n) s = .next (s.openRx n) := by
  unfold State.slotChain at hh hc
  change execActionStart n s = _
  unfold execActionStart
  simp [hh, hc, hst, hr, hstart, hfrom, kind_ne_of_receives hr]

theorem exec_actionStart_listen (hh : (s.chain (s.slotChain n)).holder = some n) (hc : s.chState (s.slotChain n) = 3)
    (hst : (s.slot n).state = 2) (ht : (s.act n).transmits = true) (hm : s.mustListen n = true)
    (hfrom : (s.slot n).from_ ≤ s.tb.now) : exec (.actionStart n) s = .next (s.openListen n) := by
  unfold State.slotChain at hh hc
  change execActionStart n s = _
  unfold execActionStart
  simp [hh, hc, hst, receives_eq_false_of_transmits ht, hm, hfrom, kind_ne_of_transmits ht]

theorem exec_actionStart_ramp {f : TxFrame} (hh : (s.chain (s.slotChain n)).holder = some n)
    (hc : s.chState (s.slotChain n) = 3) (ht : (s.act n).transmits = true) (hm : s.mustListen n = false)
    (hx : (s.chain (s.slotChain n)).tx = some f) (hf : f.firstSym - f.rampTime ≤ s.tb.now) :
    exec (.actionStart n) s = .next (s.rampUp (s.slotChain n) n f) := by
  unfold State.slotChain at hh hc hx ⊢
  change execActionStart n s = _
  unfold execActionStart
  simp only [hh, hc, hx, receives_eq_false_of_transmits ht, hm, kind_ne_of_transmits ht]
  simp [hf]

theorem openRx_of_in_time (hl : s.tooLate n = false) (he : s.flag (F.rfsCoexEn (s.slotChain n)) = false) :
    s.openRx n = (s.receiverOn (s.slotChain n) (s.act n).mode).setSlot n { s.slot n with
      state := 3, opened := some (s.receiverOn (s.slotChain n) (s.act n).mode).tb.now,
      until_ := (s.slot n).start.getD s.tb.now + (s.act n).dur,
      ranLate := (s.slot n).start.getD s.tb.now < (s.receiverOn (s.slotChain n) (s.act n).mode).tb.now } := by
  unfold State.slotChain at he
  unfold State.openRx
  simp only [hl, he]
  rfl

theorem completes_actionStart_rx (hh : (s.chain (s.slotChain n)).holder = some n) (hc : s.chState (s.slotChain n) = 3)
    (hst : (s.slot n).state = 2) (hr : (s.act n).receives = true) (hstart : (s.slot n).start.getD 0 ≤ s.tb.now)
    (hfrom : (s.slot n).from_ ≤ s.tb.now) (hl : s.tooLate n = false)
    (he : s.flag (F.rfsCoexEn (s.slotChain n)) = false) :
    Completes (.actionStart n) s fun t =>
      t.chState (s.slotChain n) = 4 ∧ (t.slot n).state = 3 ∧ (t.slot n).opened = some s.tb.now
      ∧ (t.chain (s.slotChain n)).femRx = true ∧ s.sameMemory t := by
  have hon : KeepsSlots s (s.receiverOn (s.slotChain n) (s.act n).mode) := (KeepsSlots.refl s).receiverOn
  refine ⟨_, exec_actionStart_rx hh hc hst hr hstart hfrom, ?_⟩
  rw [openRx_of_in_time hl he]
  refine ⟨chState_receiverOn .., ?_, ?_, femRx_receiverOn .., hon.memory⟩
  · rw [slot_setSlot_self]
  · rw [slot_setSlot_self, hon.tb]

theorem openListen_eq (s : State) (n : Nat) :
    s.openListen n = (s.receiverOn (s.slotChain n) (s.act n).mode).setSlot n
      { (s.receiverOn (s.slotChain n) (s.act n).mode).slot n with
        state := 3, listening := true, lbt := true, clear := false, waitFree := false,
        from_ := (s.receiverOn (s.slotChain n) (s.act n).mode).tb.now,
        until_ := (s.receiverOn (s.slotChain n) (s.act n).mode).tb.now
          + (s.receiverOn (s.slotChain n) (s.act n).mode).listenTicks (s.act n) } := rfl

theorem completes_actionStart_listen (hh : (s.chain (s.slotChain n)).holder = some n)
    (hc : s.chState (s.slotChain n) = 3) (hst : (s.slot n).state = 2) (ht : (s.act n).transmits = true)
    (hm : s.mustListen n = true) (hfrom : (s.slot n).from_ ≤ s.tb.now) :
    Completes (.actionStart n) s fun t =>
      t.chState (s.slotChain n) = 4 ∧ (t.slot n).state = 3 ∧ (t.slot n).listening = true
      ∧ (t.slot n).until_ = s.tb.now + s.listenTicks (s.act n) ∧ s.sameMemory t := by
  have hon : KeepsSlots s (s.receiverOn (s.slotChain n) (s.act n).mode) := (KeepsSlots.refl s).receiverOn
  refine ⟨_, exec_actionStart_listen hh hc hst ht hm hfrom, ?_⟩
  rw [openListen_eq]
  refine ⟨chState_receiverOn .., ?_, ?_, ?_, hon.memory⟩
  · rw [slot_setSlot_self]
  · rw [slot_setSlot_self]
  · rw [slot_setSlot_self, listenTicks_receiverOn, hon.tb]

theorem state_rampUp (s : State) (c : Chain) (n : Nat) (f : TxFrame) : ((s.rampUp c n f).slot n).state = 3 := by
  unfold State.rampUp
  exact congrArg Slot.state (slot_setSlot_self ..)

/-! ## Windows and listens (R249, R265, R266, R268) -/

theorem exec_rxWindowEnd_cca (peak : Int) (hn : n < 512) (hst : (s.slot n).state = 3) (hlive : (s.slot n).ended = false)
    (hr : (s.act n).receives = true) (hh : (s.chain (s.slotChain n)).holder = some n)
    (hu : (s.slot n).until_ ≤ s.tb.now) (hk : (s.act n).kind = 4) :
    exec (.rxWindowEnd n peak) s = .next ((s.setSlot n { s.slot n with peak := peak }).endWork n) := by
  change execRxWindowEnd n peak s = _
  unfold execRxWindowEnd
  simp [Nat.ne_of_lt hn, hst, hlive, hr, hh, hu, hk]

theorem exec_rxWindowEnd_rx (peak : Int) (hn : n < 512) (hst : (s.slot n).state = 3) (hlive : (s.slot n).ended = false)
    (hr : (s.act n).receives = true) (hh : (s.chain (s.slotChain n)).holder = some n)
    (hu : (s.slot n).until_ ≤ s.tb.now) (hk : (s.act n).kind = 3) (hp : s.pastSync (s.slotChain n) = false) :
    exec (.rxWindowEnd n peak) s = .next (s.endWork n) := by
  change execRxWindowEnd n peak s = _
  unfold execRxWindowEnd
  simp [Nat.ne_of_lt hn, hst, hlive, hr, hh, hu, hk, hp]

theorem completes_rxWindowEnd_cca (peak : Int) (hn : n < 512) (hst : (s.slot n).state = 3)
    (hlive : (s.slot n).ended = false) (hr : (s.act n).receives = true)
    (hh : (s.chain (s.slotChain n)).holder = some n) (hu : (s.slot n).until_ ≤ s.tb.now) (hk : (s.act n).kind = 4) :
    Completes (.rxWindowEnd n peak) s fun t =>
      (t.slot n).ended = true ∧ (t.slot n).peak = peak ∧ (t.chain (s.slotChain n)).holder = none := by
  refine ⟨_, exec_rxWindowEnd_cca peak hn hst hlive hr hh hu hk, ?_, ?_, holder_endWork hh⟩
  · rw [slot_endWork]
  · rw [slot_endWork, slot_setSlot_self]

theorem exec_listenBusy {level : Int} (hst : (s.slot n).state = 3) (hl : (s.slot n).listening = true)
    (hf : (s.slot n).from_ + 2560 ≤ s.tb.now) (ht : s.lbtThreshold (s.act n) < level) :
    exec (.listenBusy n level) s = .next (s.busyListen n false) :=
  congrArg Host.Outcome.next (if_pos (by simp [hst, hl, hf, ht]))

/-- A busy listen with tries left backs off. -/
theorem slot_busyListen (h : (s.slot n).busy + 1 < s.fld F.lnkLbtcfgMaxtries) (waits : Bool) :
    ((s.busyListen n waits).slot n).state = 4 ∧ ((s.busyListen n waits).slot n).busy = (s.slot n).busy + 1
      ∧ ((s.busyListen n waits).slot n).lbt = (s.slot n).lbt
      ∧ ((s.busyListen n waits).slot n).listening = false := by
  unfold State.busyListen
  extract_lets c x k s1
  have h1 : s1.slot n = { x with busy := k, listening := false } := slot_setSlot_self ..
  have hmax : s1.fld F.lnkLbtcfgMaxtries = s.fld F.lnkLbtcfgMaxtries := State.fld_setRegN_ne _ _ (by decide)
  have hroll := lnk_roll s1
  rw [if_neg (by rw [hmax]; exact Nat.not_le.2 h)]
  split
  next r s2 e =>
    rw [e] at hroll
    extract_lets lo be s3 y
    have h3 : KeepsSlots s2 s3 := .ite (KeepsSlots.refl s2).releaseChain (.refl s2)
    have hy : y = { x with busy := k, listening := false } := (h3.slot n).trans ((slot_of_lnk hroll n).trans h1)
    rw [slot_setSlot_self, hy]
    exact ⟨rfl, rfl, rfl, rfl⟩

/-- A listen ends: the receiver closes. -/
def State.listenEnded (s : State) (c : Chain) : State :=
  let u := if s.chState c = 4 then s.setChState c 3 else s
  u.setChain c { u.chain c with femRx := false }

theorem KeepsSlots.listenEnded (s : State) (c : Chain) : KeepsSlots s (s.listenEnded c) :=
  (KeepsSlots.ite (KeepsSlots.refl s).setChState (.refl s)).setChain

theorem chState_listenEnded (s : State) (c : Chain) :
    (s.listenEnded c).chState c = if s.chState c = 4 then 3 else s.chState c := by
  unfold State.listenEnded
  rw [chState_setChain, apply_ite (State.chState · c), chState_setChState s c (by decide)]

theorem exec_listenClear (hst : (s.slot n).state = 3) (hl : (s.slot n).listening = true)
    (hu : (s.slot n).until_ ≤ s.tb.now) :
    exec (.listenClear n) s = .next ((s.listenEnded (s.slotChain n)).setSlot n { s.slot n with
      listening := false, clear := true,
      start := some ((s.listenEnded (s.slotChain n)).tb.now + 480
        + (s.listenEnded (s.slotChain n)).rampOf (s.slotChain n) ((s.listenEnded (s.slotChain n)).act n).mode) }) :=
  congrArg Host.Outcome.next (if_pos (by simp [hst, hl, hu]))

theorem completes_listenClear (hst : (s.slot n).state = 3) (hl : (s.slot n).listening = true)
    (hu : (s.slot n).until_ ≤ s.tb.now) :
    Completes (.listenClear n) s fun t =>
      (t.slot n).clear = true ∧ (t.slot n).listening = false
      ∧ (t.slot n).start = some (s.tb.now + 480 + s.rampOf (s.slotChain n) (s.act n).mode)
      ∧ t.chState (s.slotChain n) = (if s.chState (s.slotChain n) = 4 then 3 else s.chState (s.slotChain n)) := by
  have hkeeps := KeepsSlots.listenEnded s (s.slotChain n)
  refine ⟨_, exec_listenClear hst hl hu, ?_, ?_, ?_, chState_listenEnded ..⟩
  · rw [slot_setSlot_self]
  · rw [slot_setSlot_self]
  · rw [slot_setSlot_self, hkeeps.tb, hkeeps.rampOf, hkeeps.act]

/-! ## Backoff (R268) -/

theorem exec_backoffEnd_free (hst : (s.slot n).state = 4) (hu : (s.slot n).until_ ≤ s.tb.now + 680)
    (hradio : s.radioHold = false) (hswap : s.swapHold = false) (hh : (s.chain (s.slotChain n)).holder = none)
    (hc : s.chState (s.slotChain n) = 3) (hf : s.fitsFrom n (s.tb.now + 1) = true) :
    exec (.backoffEnd n) s = .next (s.takeChain n (max (s.slot n).until_ (s.tb.now + 680))) := by
  change execBackoffEnd n s = _
  unfold execBackoffEnd
  simp [hst, Nat.not_lt.2 hu, hradio, hswap, hh, hc, hf]

/-! ## WATCH listens (R271) -/

/-- The chain of a WATCH listen listens for it. -/
def State.watching (s : State) : State :=
  let u := (s.tune s.watchChain (s.fld F.lnkWatchfreqFreq)).setChState s.watchChain 4
  u.setChain s.watchChain
    { u.chain s.watchChain with holder := some 512, rxMode := s.fld F.lnkWatchcfgMode, femRx := true }

theorem KeepsSlots.watching (s : State) : KeepsSlots s s.watching := (KeepsSlots.refl s).tune.setChState.setChain

theorem exec_watchListen (hm : s.mode = 1) (hw : s.fld F.lnkWatchcfgMode ≠ 0) (ha : s.listenAge ≤ 25)
    (hh : (s.chain s.watchChain).holder = none) (hc : s.chState s.watchChain = 3) :
    exec .watchListen s =
      .next { s.watching with lnk := { s.watching.lnk with watchEnd := s.watching.tb.now + 80000 } } :=
  congrArg Host.Outcome.next (if_pos (by simp [hm, hw, ha, hh, hc]))

theorem completes_watchListen (hm : s.mode = 1) (hw : s.fld F.lnkWatchcfgMode ≠ 0) (ha : s.listenAge ≤ 25)
    (hh : (s.chain s.watchChain).holder = none) (hc : s.chState s.watchChain = 3) :
    Completes .watchListen s fun t =>
      t.chState s.watchChain = 4 ∧ (t.chain s.watchChain).holder = some 512
      ∧ (t.chain s.watchChain).rxMode = s.fld F.lnkWatchcfgMode ∧ t.lnk.watchEnd = s.tb.now + 80000
      ∧ s.sameMemory t := by
  have hkeeps := KeepsSlots.watching s
  have hchain : s.watching.chain s.watchChain = _ := chain_setChain_self ..
  refine ⟨_, exec_watchListen hm hw ha hh hc, ?_, ?_, ?_, ?_, hkeeps.memory⟩
  · exact (chState_setChain ..).trans (chState_setChState _ _ (by decide))
  · exact congrArg ChainState.holder hchain
  · exact congrArg ChainState.rxMode hchain
  · exact congrArg (·.now + 80000) hkeeps.tb

/-! ## Frames of the wide path (R171, R201) -/

/-- A frame's context is free again, and its chain keeps C and the end for an answer. -/
theorem releaseCtx_wide (h : s.narrowChain n = none) :
    s.releaseCtx n = ((s.ctxCount n 1).ctxFree n).setChain (chainOf (s.ctx n).band)
      { s.chain (chainOf (s.ctx n).band) with
        rxEnd := some (s.ctx n).ended,
        rxC := if s.flag (F.rfsCtrlAfcen (chainOf (s.ctx n).band)) then (s.ctx n).cfo else 0,
        rxT := turnTicks (s.ctx n).mode } := by
  have hafc : (s.ctxCount n 1).flag (F.rfsCtrlAfcen (chainOf (s.ctx n).band))
      = s.flag (F.rfsCtrlAfcen (chainOf (s.ctx n).band)) :=
    (KeepsFront.refl s).ctxCount.flag (by cases chainOf (s.ctx n).band <;> decide)
  have hnarrow : (s.ctxCount n 1).narrowChain n = none := h
  rw [← hafc]
  unfold State.releaseCtx
  simp only [hnarrow]
  rfl

theorem exec_ctxRelease (hst : (s.ctx n).state = 2) (hh : (s.ctx n).header.isSome = true)
    (hf : (s.ctx n).formed = (s.ctx n).blockCount) (hw : (s.ctx n).waiting = []) :
    exec (.ctxRelease n) s = .next (s.releaseCtx n) :=
  congrArg Host.Outcome.next (if_pos (by simp [hst, hh, hf, hw]))

/-! ## Completions (R260-R262) -/

theorem exec_actionComplete (he : (s.slot n).ended = true) (hst : (s.slot n).state = 3) :
    exec (.actionComplete n) s = .next (s.finishAction n
      (if (s.slot n).stopping then .cancelled else if (s.slot n).ranLate then .late else .ok) 0) :=
  congrArg Host.Outcome.next (if_pos (by simp [he, hst]))

theorem completes_actionComplete (he : (s.slot n).ended = true) (hst : (s.slot n).state = 3)
    (hf : s.followersOf n = []) :
    Completes (.actionComplete n) s fun t =>
      (t.slot n).state = 5 ∧ (t.slot n).reason = 0
      ∧ (t.slot n).status = (if (s.slot n).stopping then Status.cancelled.code
          else if (s.slot n).ranLate then Status.late.code else Status.ok.code) ∧ s.sameMemory t := by
  have hslot := slot_finishAction hf
    (if (s.slot n).stopping then .cancelled else if (s.slot n).ranLate then .late else .ok) 0
  refine ⟨_, exec_actionComplete he hst, congrArg Slot.state hslot, congrArg Slot.reason hslot, ?_,
    sameMemory_finishAction s n _ 0⟩
  rw [hslot, State.doneSlot, apply_ite Status.code, apply_ite Status.code]

theorem length_completion (s : State) (n : Nat) : (s.completion n).length = 16 := by
  simp [State.completion]

theorem fld_ringwr_lnkRingPut (s : State) (r : Nat) (e : List Byte) :
    (s.lnkRingPut r e).fld (F.lnkRingwrIndex r)
      = (s.fld (F.lnkRingwrIndex r) + 1) % 2 ^ (6 + (s.ring r).2) % 2 ^ 12 := by
  unfold State.lnkRingPut
  rw [fld_ringwr_ringLevel, ring_of_lnk (lnk_dma ..)]
  exact State.fld_setFld_self _ (F.lnkRingwrIndex r) _ (show 0 + 12 ≤ 32 by decide)

theorem exec_completionWrite (hn : n < 448) (hst : (s.slot n).state = 5)
    (hr : s.ringRoom (s.act n).ring = true) :
    exec (.completionWrite n) s = .next ((s.lnkRingPut (s.act n).ring (s.completion n)).freeSlot n) := by
  change execCompletionWrite n s = _
  unfold execCompletionWrite
  simp [hst, Nat.not_le.2 hn, hr]

theorem completes_completionWrite (hn : n < 448) (hst : (s.slot n).state = 5)
    (hr : s.ringRoom (s.act n).ring = true) :
    Completes (.completionWrite n) s fun t =>
      (t.slot n).state = 0
      ∧ t.fld (F.lnkRingwrIndex (s.act n).ring)
        = (s.fld (F.lnkRingwrIndex (s.act n).ring) + 1) % 2 ^ (6 + (s.ring (s.act n).ring).2) % 2 ^ 12
      ∧ ∀ x, (x < (s.ring (s.act n).ring).1 + 16 * s.fld (F.lnkRingwrIndex (s.act n).ring)
          ∨ (s.ring (s.act n).ring).1 + 16 * s.fld (F.lnkRingwrIndex (s.act n).ring) + 16 ≤ x) →
        t.byte x = s.byte x := by
  refine ⟨_, exec_completionWrite hn hst hr, state_freeSlot_self .., fld_ringwr_lnkRingPut .., fun x hx => ?_⟩
  rw [← length_completion s n] at hx
  exact byte_lnkRingPut_outside s hx

/-- Settles O31: what goes on at a chain leaves the slots alone, so each event's slot reads as it was written last; an
outcome with no follower fixes its own slot alone, and a claim's late check is no stricter than its lead. -/
theorem actionsOfTheLinkController : Obligations.ActionsOfTheLinkController := by
  unfold Obligations.ActionsOfTheLinkController
  intro s
  refine ⟨fun w hc => ⟨fun hp => completes_lnkSubmit_pending hc hp,
      fun hall hn hst hg hf _ _ => completes_lnkCancel_waiting hc hall hn hst hg hf⟩,
    fun hc => ⟨_, exec_lnkNext0Read hc, rfl, reg_next0_nextShown .., State.regN_setRegN_self .., fun _ => rfl⟩,
    fun n hst hk htimed hr hsw hready hcal hfree hfits u hu hdue hearly =>
      completes_actionClaim ⟨hst, hk, htimed, hr, hsw, hready, hcal, hfree, hfits, hu, hdue, hearly⟩,
    fun n hst hh hc => ⟨fun hr hstart hfrom hl he => completes_actionStart_rx hh hc hst hr hstart hfrom hl he,
      fun ht hm hfrom => completes_actionStart_listen hh hc hst ht hm hfrom, fun f ht hm hx hf => ?ramp⟩,
    fun n peak hn hst hlive hr hh hu => ⟨fun hk => completes_rxWindowEnd_cca peak hn hst hlive hr hh hu hk,
      fun hk hp => ?window⟩,
    fun n hst hl => ⟨fun level hf ht hb => ⟨_, exec_listenBusy hst hl hf ht, slot_busyListen hb false⟩,
      fun hu => completes_listenClear hst hl hu⟩,
    fun n hst hu hr hsw hh hc hf hrx => ?backoff,
    fun hm hw ha hh hc => completes_watchListen hm hw ha hh hc,
    fun n hst hh hf hw hn => ⟨_, exec_ctxRelease hst hh hf hw, releaseCtx_wide hn⟩,
    fun n he hst hf => completes_actionComplete he hst hf,
    fun n hn hst hr => completes_completionWrite hn hst hr⟩
  case ramp =>
    obtain ⟨hstate, hpa, -⟩ := rampUp_shows s (s.slotChain n) n f
    exact ⟨_, exec_actionStart_ramp hh hc ht hm hx hf, hstate, state_rampUp .., hpa⟩
  case window =>
    exact ⟨_, exec_rxWindowEnd_rx peak hn hst hlive hr hh hu hk hp, by rw [slot_endWork], holder_endWork hh⟩
  case backoff =>
    obtain ⟨hstate, hfrom, hholder, -⟩ := takeChain_shows s n (max (s.slot n).until_ (s.tb.now + 680))
    exact ⟨_, exec_backoffEnd_free hst hu hr hsw hh hc hf, hstate, hholder, hfrom hrx⟩

end Sys2Proof.Machine
end

section
/-!
Bus writes to the link context RAM (R282): which bytes a store takes, and the stores of a core.
-/

namespace Sys2Proof.Machine

variable {s t u : State} {a n v k core : Nat}

/-! ## The link context RAM -/

theorem region_context_iff : region a = .context ↔ 0x30000000 ≤ a ∧ a < 0x30040000 := by
  unfold region
  split_ifs with h1 h2 h3 h4 h5
  · simp; omega
  · simp at h2 ⊢; omega
  · simp at h3 ⊢; omega
  · simp at h4 ⊢; omega
  · simpa using h5
  all_goals simpa using fun h => by simpa [h] using h5

theorem ramAt_of_context (h : region a = .context) : ramAt a = true := by
  unfold ramAt
  rw [h]
  rfl

/-- An aligned access of up to four bytes that begins in the link context RAM stays in it, and in one context. -/
theorem aligned_in_context (hn : n = 1 ∨ n = 2 ∨ n = 4) (hal : a % n = 0) (ha : region a = .context) (hk : k < n) :
    region (a + k) = .context := by
  rw [region_context_iff] at ha ⊢
  obtain rfl | rfl | rfl := hn <;> omega

/-! ## The bytes of a store -/

theorem getElem_leBytes (hk : k < (leBytes n v).length) : (leBytes n v)[k] = Byte.ofN (v / 2 ^ (8 * k)) := by
  induction n generalizing v k with
  | zero => simp at hk
  | succ n ih =>
    cases k with
    | zero => simp [leBytes]
    | succ k =>
      have hshift : v / 2 ^ (8 * (k + 1)) = v / 256 / 2 ^ (8 * k) := by
        rw [Nat.div_div_eq_div_mul, Nat.mul_succ, pow_add, Nat.mul_comm]
        rfl
      simp only [leBytes, List.getElem_cons_succ, ih, hshift]

theorem storeBytes_eq (s before : State) (a : Nat) (bs : List Byte) :
    ∃ ram, s.storeBytes before a bs = { s with ram := ram } := by
  induction bs generalizing s a with
  | nil => exact ⟨_, rfl⟩
  | cons b bs ih =>
    obtain ⟨ram, hb⟩ := setByte_eq s a (if region a == Region.context then before.ctxWritten a b else b)
    obtain ⟨ram', hbs⟩ := ih (s.setByte a _) (a + 1)
    exact ⟨ram', by rw [State.storeBytes, hbs, hb]⟩

theorem byte_storeBytes_outside (s before : State) {y : Nat} (bs : List Byte) (h : y < a ∨ a + bs.length ≤ y) :
    (s.storeBytes before a bs).byte y = s.byte y := by
  induction bs generalizing s a with
  | nil => rfl
  | cons b bs ih =>
    simp only [List.length_cons] at h
    rw [State.storeBytes, ih _ (by omega), State.byte_setByte_ne _ _ (by omega)]

theorem byte_storeBytes_context (s before : State) (bs : List Byte) (hk : k < bs.length) (ha : region (a + k) = .context) :
    (s.storeBytes before a bs).byte (a + k) = before.ctxWritten (a + k) bs[k] := by
  induction bs generalizing s a k with
  | nil => simp at hk
  | cons b bs ih =>
    cases k with
    | zero =>
      rw [Nat.add_zero] at ha ⊢
      rw [State.storeBytes, byte_storeBytes_outside _ _ _ (.inl (by omega)), ha,
        State.byte_setByte_self _ (ramAt_of_context ha)]
      exact if_pos rfl
    | succ k =>
      have hstep : a + (k + 1) = a + 1 + k := by omega
      rw [hstep] at ha ⊢
      exact ih _ (by simpa using hk) ha

/-! ## What a context takes (R282) -/

theorem bitAt_mod_byte (x : Nat) {j : Nat} (hj : j < 8) : bitAt (x % 256) j = bitAt x j := by
  have hsplit : 256 = 2 ^ j * 2 ^ (8 - j) := by rw [← pow_add, Nat.add_sub_cancel' hj.le]; rfl
  unfold bitAt
  rw [hsplit, Nat.mod_mul_right_div_self, Nat.mod_mod_of_dvd _ (dvd_pow_self 2 (by omega))]

theorem bitAt_setBitsOf_one (x v : Nat) {i j : Nat} :
    bitAt (setBitsOf x i 1 v) j = if j = i then bitAt v 0 else bitAt x j := by
  split
  next h => rw [h, bitAt_eq, bitsOf_setBitsOf_self]; simp [bitAt]
  next h =>
    rw [bitAt_eq, bitAt_eq]
    obtain hlt | hgt := Nat.lt_or_gt_of_ne h
    · rw [bitsOf_setBitsOf_below x v (by omega)]
    · rw [bitsOf_setBitsOf_above x v (by omega)]

/-- What the context RAM holds after a byte of a store, by the part of the context that the byte lies in. -/
theorem ctxWritten_shows (s : State) (b : Nat) (new : Byte) :
    let o := (b - 0x30000000) % 256
    let free := bitsOf (s.byte (b - o + 2)).toNat 0 4 = 0
    let left := s.ctxWritten b new
    (0x90 ≤ o → left = new)
    ∧ (o < 0x90 → ¬free → left = s.byte b)
    ∧ (o < 3 ∨ (0x20 ≤ o ∧ o ≤ 0x2B) ∨ (0x30 ≤ o ∧ o ≤ 0x35) → left = s.byte b)
    ∧ (o = 3 → free → ∀ j, j < 8 → bitAt left.toNat j = if j = 3 then bitAt (s.byte b).toNat 3 else bitAt new.toNat j)
    ∧ (3 < o → o < 0x90 → ¬(0x20 ≤ o ∧ o ≤ 0x2B) → ¬(0x30 ≤ o ∧ o ≤ 0x35) → free → left = new) := by
  intro o free left
  have hleft : left = if 0x90 ≤ o then new
      else if !(bitsOf (s.byte (b - o + 2)).toNat 0 4 == 0) || o < 3 || (0x20 ≤ o && o < 0x2C) || (0x30 ≤ o && o < 0x36)
        then s.byte b
      else if o = 3 then Byte.ofN (setBitsOf new.toNat 3 1 (bitsOf (s.byte b).toNat 3 1)) else new := rfl
  rw [hleft]
  refine ⟨fun h => if_pos h, fun h hf => ?busy, fun h => ?hardware, fun h hf j hj => ?flags, fun hl hu h2 h3 hf => ?taken⟩
  case busy =>
    rw [if_neg (by omega), if_pos]
    simp [show ¬bitsOf (s.byte (b - o + 2)).toNat 0 4 = 0 from hf]
  case hardware =>
    rw [if_neg (by omega), if_pos]
    simp only [Bool.or_eq_true, Bool.and_eq_true, decide_eq_true_eq]
    omega
  case flags =>
    rw [if_neg (by omega), if_neg, if_pos h, Byte.ofN, BitVec.toNat_ofNat, bitAt_mod_byte _ hj, bitAt_setBitsOf_one]
    · simp [bitAt, bitsOf]
    · rw [show bitsOf (s.byte (b - o + 2)).toNat 0 4 = 0 from hf]
      simp [h]
  case taken =>
    rw [if_neg (by omega), if_neg, if_neg (by omega)]
    simp only [show bitsOf (s.byte (b - o + 2)).toNat 0 4 = 0 from hf, Bool.or_eq_true, Bool.and_eq_true, decide_eq_true_eq]
    simp
    omega

/-- A number's bytes above those that a store takes are of no account. -/
theorem contextWritten_storeBytes (s : State) {w : Nat} (hn : n = 1 ∨ n = 2 ∨ n = 4) (hal : a % n = 0)
    (ha : region a = .context) (hw : ∀ k, k < n → Byte.ofN (w / 2 ^ (8 * k)) = Byte.ofN (v / 2 ^ (8 * k))) :
    s.contextWritten (s.storeBytes s a (leBytes n w)) a n v := by
  refine ⟨fun k hk => ?_, fun b hb => byte_storeBytes_outside s s _ (by rwa [length_leBytes])⟩
  have hlen : k < (leBytes n w).length := by rwa [length_leBytes]
  have hbyte : (s.storeBytes s a (leBytes n w)).byte (a + k) = s.ctxWritten (a + k) (Byte.ofN (v / 2 ^ (8 * k))) := by
    rw [byte_storeBytes_context s s _ hlen (aligned_in_context hn hal ha hk), getElem_leBytes, hw k hk]
  have hshows := ctxWritten_shows s (a + k) (Byte.ofN (v / 2 ^ (8 * k)))
  rw [← hbyte] at hshows
  exact hshows

/-- What a write leaves in the context RAM is said of bytes alone. -/
theorem contextWritten_congr {s' t' : State} (hs : s.sameMemory s') (ht : t.sameMemory t')
    (h : s.contextWritten t a n v) : s'.contextWritten t' a n v := by
  unfold State.contextWritten at h ⊢
  simpa only [hs _, ht _] using h

/-- A store to the context RAM that answers. -/
theorem busStore_context (ha : region a = .context) (hm : s.memAnswers a = true) (he : Sparse.find? s.ecc (a / 8) = none)
    (core n v : Nat) (user rom : Bool) :
    s.busStore core user rom a n v
      = ({ s with busError := false } : State).storeBytes { s with busError := false } a (leBytes n v) := by
  unfold State.busStore State.eccStep
  simp only [ha, hm, he]
  rfl

/-- What a store to the context RAM leaves: its bytes, no bus error, and the rest of the state. -/
theorem busStore_context_shows (hn : n = 1 ∨ n = 2 ∨ n = 4) (hal : a % n = 0) (ha : region a = .context)
    (hm : s.memAnswers a = true) (he : Sparse.find? s.ecc (a / 8) = none) {w : Nat}
    (hw : ∀ k, k < n → Byte.ofN (w / 2 ^ (8 * k)) = Byte.ofN (v / 2 ^ (8 * k))) (core : Nat) (user rom : Bool) :
    s.contextWritten (s.busStore core user rom a n w) a n v
    ∧ ∃ ram, s.busStore core user rom a n w = { s with ram := ram, busError := false } := by
  rw [busStore_context ha hm he]
  set r : State := { s with busError := false } with hr
  have hsame : r.sameMemory s := fun _ => rfl
  obtain ⟨ram, h⟩ := storeBytes_eq r r a (leBytes n w)
  exact ⟨contextWritten_congr hsame (fun _ => rfl) (contextWritten_storeBytes r hn hal ha hw), ram, h⟩

/-! ## The stores of a core (R494) -/

/-- An instruction that begins and ends without an exception moves the pc on and spends its cycles. -/
theorem pipRun_of_begins {w : Word} {i : PipInsn} {pick : PipInsn → Option (State → PipOut)} {f : State → PipOut}
    {next : Nat} (h : s.begins core w i u) (hp : pick i = some f) (hf : f u = .ok t next) :
    pipRun core w pick s = (t.setPc core next).spendCycles core := by
  obtain ⟨hrun, hint, hdec, hpriv, g, hfetch, rfl⟩ := h
  have hmach : (i.privileged && !s.coreMach core) = false := by
    cases hi : i.privileged
    · rfl
    · simp [hpriv hi]
  unfold pipRun
  simp [hrun, hint, hfetch, hdec, hp, hmach, hf]

@[simp] theorem core_setCore_self (s : State) (k : Nat) (c : PipCore) : (s.setCore k c).core k = c := by
  simp [State.core, State.setCore]

theorem core_setCore_ne (s : State) {j k : Nat} (c : PipCore) (h : j ≠ k) : (s.setCore k c).core j = s.core j := by
  simp [State.core, State.setCore, Sparse.find?_insert_ne _ c h]

/-- The core that has gone on holds the next pc, and a later cycle count. -/
theorem core_spendCycles_setPc (t : State) (core next : Nat) :
    ((t.setPc core next).spendCycles core).core core
      = { t.core core with
          pc := Word.ofN next, cycle := (((t.setPc core next).spendCycles core).core core).cycle } := by
  have hpc : (t.setPc core next).core core = { t.core core with pc := Word.ofN next } := core_setCore_self ..
  have hend : ((t.setPc core next).spendCycles core).core core
      = { (t.setPc core next).core core with
          cycle := (((t.setPc core next).core core).cycle + 1 + Config.freeNat t.free % 2 ^ 32) % 2 ^ 64 } :=
    core_setCore_self ..
  rw [hend, hpc]

/-- A core that goes on after an instruction that changes no core and no register has done no more than go on. -/
theorem goesOn_of_memory (hpip : t.pip = u.pip) (hregs : t.regs = u.regs) (core next : Nat) :
    u.setsNone ((t.setPc core next).spendCycles core) core
    ∧ u.goesOn ((t.setPc core next).spendCycles core) core (u.core core) next := by
  have hcore (k : Nat) : t.core k = u.core k := by unfold State.core; rw [hpip]
  have hself := core_spendCycles_setPc t core next
  rw [hcore] at hself
  have hother (k : Nat) (hk : k ≠ core) : ((t.setPc core next).spendCycles core).core k = u.core k :=
    ((core_setCore_ne _ _ hk).trans (core_setCore_ne t _ hk)).trans (hcore k)
  have hreg (a : Nat) : ((t.setPc core next).spendCycles core).reg a = u.reg a := congrArg (Sparse.get regReset · a) hregs
  refine ⟨⟨fun r => ?_, fun r => ?_⟩, ?_, hother, fun a _ => hreg a⟩
  · unfold State.g; rw [hself]
  · unfold State.fr; rw [hself]
  · rw [hself]

/-- A store of a core to the link context RAM, over the instruction's register, address and size. -/
theorem completes_contextStore {c : Instr} {w : Word} {i : PipInsn} {pick : PipInsn → Option (State → PipOut)}
    {d b imm : Nat} (hexec : exec c s = .next (pipRun core w pick s)) (h : s.begins core w i u)
    (hp : pick i = some fun x => x.storeFrom core (insnLen w) d (x.ea core b imm) n) (hn : n = 1 ∨ n = 2 ∨ n = 4)
    (hw : u.contextWritable core (((u.g core b).toNat + imm) % 2 ^ 32) n) :
    Completes c s fun t => u.contextWritten t (((u.g core b).toNat + imm) % 2 ^ 32) n (u.g core d).toNat
      ∧ u.setsNone t core ∧ u.goesOn t core (u.core core) (u.nextPc core w) := by
  set e := ((u.g core b).toNat + imm) % 2 ^ 32 with he
  obtain ⟨hal, hctx, hprot, hans, hecc⟩ := hw
  have hlow (k : Nat) (hk : k < n) :
      Byte.ofN ((u.g core d).toNat % 2 ^ (8 * n) / 2 ^ (8 * k)) = Byte.ofN ((u.g core d).toNat / 2 ^ (8 * k)) := by
    have hsplit : 2 ^ (8 * n) = 2 ^ (8 * k) * 2 ^ (8 * (n - k)) := by rw [← pow_add]; congr 1; omega
    apply BitVec.eq_of_toNat_eq
    rw [Byte.ofN, Byte.ofN, BitVec.toNat_ofNat, BitVec.toNat_ofNat, hsplit, Nat.mod_mul_right_div_self,
      Nat.mod_mod_of_dvd _ (pow_dvd_pow 2 (by omega))]
  obtain ⟨hwritten, ram, hstate⟩ :=
    busStore_context_shows hn hal hctx hans hecc hlow core (!u.coreMach core) (u.fromRom core)
  have hstore : u.storeFrom core (insnLen w) d (u.ea core b imm) n
      = .ok (u.busStore core (!u.coreMach core) (u.fromRom core) e n ((u.g core d).toNat % 2 ^ (8 * n)))
          (u.nextPc core w) := by
    have hea : u.ea core b imm = e := rfl
    have hst : u.stalls e = false := by simp [State.stalls, hctx]
    rw [hea]
    simp only [State.storeFrom, State.putMem, State.storeAt, hal, hprot, hst]
    rw [hstate]
    rfl
  generalize u.busStore core (!u.coreMach core) (u.fromRom core) e n ((u.g core d).toNat % 2 ^ (8 * n)) = t at *
  have hmem : t.sameMemory ((t.setPc core (u.nextPc core w)).spendCycles core) := fun _ => rfl
  refine ⟨_, hexec.trans (congrArg _ (pipRun_of_begins h hp hstore)), ?_, goesOn_of_memory ?_ ?_ core _⟩
  · exact contextWritten_congr (fun _ => rfl) hmem hwritten
  · rw [hstate]
  · rw [hstate]

/-- Settles O55: each byte of a store is judged by its own context as it stood before, and a core's store ends in the bus
write of the low bytes of its register. -/
theorem linkContextWrites : Obligations.LinkContextWrites := by
  unfold Obligations.LinkContextWrites
  refine ⟨fun s core a n v user rom hn hal ha hm he => ?bus, fun s core w u d a imm => ⟨?byte, ?half, ?word⟩⟩
  case bus =>
    obtain ⟨hwritten, ram, hstate⟩ := busStore_context_shows hn hal ha hm he (fun _ _ => rfl) core user rom
    exact ⟨by rw [hstate], hwritten, fun _ _ => by rw [hstate]; rfl⟩
  case byte => exact fun h hw => completes_contextStore rfl h rfl (.inl rfl) hw
  case half => exact fun h hw => completes_contextStore rfl h rfl (.inr (.inl rfl)) hw
  case word => exact fun h hw => completes_contextStore rfl h rfl (.inr (.inr rfl)) hw

end Sys2Proof.Machine
end

section
/-!
The fields of link contexts (R278-R282): what a write of one reads back as and leaves alone, and what the tenant engine
does beside the contexts and its own record of each link.
-/

namespace Sys2Proof.Machine

variable {s t u : State} {i j off off' k k' v : Nat}

/-! ## Numbers in memory -/

theorem bytes_congr {a n : Nat} (h : ∀ b, a ≤ b → b < a + n → t.byte b = s.byte b) : t.bytes a n = s.bytes a n := by
  induction n generalizing a with
  | zero => rfl
  | succ n ih =>
    rw [State.bytes, State.bytes, h a (Nat.le_refl a) (by omega), ih fun b hl hu => h b (by omega) (by omega)]

theorem bytes_setBytes_self (s : State) {a : Nat} {bs : List Byte}
    (h : ∀ b, a ≤ b → b < a + bs.length → ramAt b = true) : (s.setBytes a bs).bytes a bs.length = bs := by
  induction bs generalizing s a with
  | nil => rfl
  | cons x bs ih =>
    simp only [List.length_cons] at h
    have hhead : ((s.setByte a x).setBytes (a + 1) bs).byte a = x := by
      rw [State.byte_setBytes_outside _ _ (.inl (by omega)), State.byte_setByte_self _ (h a (Nat.le_refl a) (by omega))]
    have htail := ih (s.setByte a x) (a := a + 1) fun b hl hu => h b (by omega) (by omega)
    rw [State.setBytes, List.length_cons, State.bytes, hhead, htail]

theorem mem_of_sameMemory (h : s.sameMemory t) (a n : Nat) : t.mem a n = s.mem a n :=
  congrArg leNat (bytes_congr fun b _ _ => h b)

theorem mem_lt (s : State) (a n : Nat) : s.mem a n < 256 ^ n := by
  have hlen : (s.bytes a n).length = n := by
    induction n generalizing a with
    | zero => rfl
    | succ n ih => rw [State.bytes, List.length_cons, ih]
  have h := leNat_lt (s.bytes a n)
  rwa [hlen] at h

/-! ## Fields of a context -/

theorem handleIdx_lt (h : Nat) : handleIdx h < 1024 := Nat.mod_lt _ (by decide)

theorem ramAt_lkAddr (hi : i < 1024) (ho : off < 256) : ramAt (lkAddr i off) = true := by
  refine ramAt_of_context (region_context_iff.2 ?_)
  unfold lkAddr
  omega

theorem lk_lt (s : State) (i off k : Nat) : s.lk i off k < 256 ^ k := mem_lt s _ k

theorem lk_of_sameMemory (h : s.sameMemory t) (i off k : Nat) : t.lk i off k = s.lk i off k := mem_of_sameMemory h _ k

theorem setLk_eq (s : State) (i off k v : Nat) : ∃ ram, s.setLk i off k v = { s with ram := ram } := setBytes_eq ..

/-- A field that is set holds the value's low bytes. -/
theorem lk_setLk_self (s : State) (hi : i < 1024) (v : Nat) (ho : off + k ≤ 256 := by decide) :
    (s.setLk i off k v).lk i off k = v % 256 ^ k := by
  have hram : ∀ b, lkAddr i off ≤ b → b < lkAddr i off + (leBytes k v).length → ramAt b = true := by
    intro b hl hu
    rw [length_leBytes] at hu
    obtain ⟨d, rfl⟩ := Nat.exists_eq_add_of_le hl
    rw [lkAddr, Nat.add_assoc, ← lkAddr]
    exact ramAt_lkAddr hi (by omega)
  have hbytes := bytes_setBytes_self s hram
  rw [length_leBytes] at hbytes
  unfold State.lk State.setLk State.mem State.setMem
  rw [hbytes, leNat_leBytes]

/-- A field apart from the one that is set holds what it held. -/
theorem lk_setLk_apart (s : State) (h : off' + k' ≤ off ∨ off + k ≤ off') :
    (s.setLk i off k v).lk i off' k' = s.lk i off' k' := by
  refine congrArg leNat (bytes_congr fun b hl hu => State.byte_setBytes_outside s _ ?_)
  unfold lkAddr at *
  rw [length_leBytes]
  omega

/-- A field of a context changes no byte outside the context. -/
theorem byte_setLk_outside (s : State) {a : Nat} (ho : off + k ≤ 256) (h : a < lkAddr i 0 ∨ lkAddr i 0x100 ≤ a) :
    (s.setLk i off k v).byte a = s.byte a := by
  refine State.byte_setBytes_outside s _ ?_
  rw [length_leBytes]
  unfold lkAddr at *
  omega

@[simp] theorem tnt_setLk (s : State) (i off k v : Nat) : (s.setLk i off k v).tnt = s.tnt := by
  obtain ⟨ram, h⟩ := setLk_eq s i off k v
  rw [h]

@[simp] theorem fw_setLk (s : State) (i off k v : Nat) : (s.setLk i off k v).fw = s.fw := by
  obtain ⟨ram, h⟩ := setLk_eq s i off k v
  rw [h]

@[simp] theorem lkWork_setLk (s : State) (i off k v j : Nat) : (s.setLk i off k v).lkWork j = s.lkWork j := by
  unfold State.lkWork
  rw [tnt_setLk]

@[simp] theorem lkWork_setLkWork_self (s : State) (i : Nat) (x : LinkWork) : (s.setLkWork i x).lkWork i = x := by
  simp [State.lkWork, State.setLkWork]

@[simp] theorem lk_setLkWork (s : State) (i j off k : Nat) (x : LinkWork) : (s.setLkWork j x).lk i off k = s.lk i off k :=
  lk_of_sameMemory (s := s) (t := s.setLkWork j x) (fun _ => rfl) i off k

/-! ## What goes on beside the links

The tenant engine composes frames, posts and submits them, raises flags and notices: none of it changes a context, or what
the engine keeps of a link. Each function has one lemma, named after it, that says so. -/

/-- `t` comes from `s` by changes beside memory and the links' records. -/
structure KeepsLinks (s t : State) : Prop where
  work : t.tnt.work = s.tnt.work
  rest : t = { s with
    regs := t.regs, free := t.free, hsl := t.hsl, lnk := t.lnk, tnt := t.tnt, jrn := t.jrn, sec := t.sec }

namespace KeepsLinks

variable {β : Type} {c : Prop} {d : Decidable c}

theorem refl (s : State) : KeepsLinks s s := ⟨rfl, rfl⟩

/-! ### What is kept -/

theorem sameMemory (h : KeepsLinks s t) : s.sameMemory t := by
  intro a
  rw [h.rest]
  rfl

theorem lk (h : KeepsLinks s t) (i off k : Nat) : t.lk i off k = s.lk i off k := lk_of_sameMemory h.sameMemory i off k

theorem lkWork (h : KeepsLinks s t) (i : Nat) : t.lkWork i = s.lkWork i := by
  unfold State.lkWork
  rw [h.work]

theorem fw (h : KeepsLinks s t) : t.fw = s.fw := by rw [h.rest]

/-! ### Branches -/

theorem ite (ht : KeepsLinks s t) (hu : KeepsLinks s u) : KeepsLinks s (if c then t else u) := by
  split
  · exact ht
  · exact hu

theorem of_snd {p : β × State} {b : β} (h : KeepsLinks s p.2) (e : p = (b, t)) : KeepsLinks s t := by
  rw [e] at h
  exact h

theorem foldl {f : State → β → State} {l : List β} (h : KeepsLinks s t)
    (hf : ∀ t b, KeepsLinks s t → KeepsLinks s (f t b)) : KeepsLinks s (l.foldl f t) := by
  induction l generalizing t with
  | nil => exact h
  | cons b l ih => exact ih (hf t b h)

/-! ### Changes beside the links -/

theorem other {regs free hsl lnk jrn sec} (h : KeepsLinks s t) :
    KeepsLinks s { t with regs := regs, free := free, hsl := hsl, lnk := lnk, jrn := jrn, sec := sec } where
  work := h.work
  rest := congrArg (fun u : State =>
    { u with regs := regs, free := free, hsl := hsl, lnk := lnk, jrn := jrn, sec := sec }) h.rest

theorem setTnt (h : KeepsLinks s t) {x : TntState} (hx : x.work = t.tnt.work) : KeepsLinks s { t with tnt := x } where
  work := hx.trans h.work
  rest := congrArg (fun u : State => { u with tnt := x }) h.rest

theorem setReg (h : KeepsLinks s t) {a : Nat} {w : Word} : KeepsLinks s (t.setReg a w) := h.other

theorem setRegN (h : KeepsLinks s t) {a n : Nat} : KeepsLinks s (t.setRegN a n) := h.setReg

theorem raise (h : KeepsLinks s t) {f : Fld} : KeepsLinks s (t.raise f) := h.setReg

theorem count (h : KeepsLinks s t) {a : Nat} : KeepsLinks s (t.count a) := h.setReg

theorem countBy (h : KeepsLinks s t) {a n : Nat} : KeepsLinks s (t.countBy a n) := h.setReg

theorem draw (h : KeepsLinks s t) {m : Nat} : KeepsLinks s (t.draw m).2 := h.other

theorem roll (h : KeepsLinks s t) : KeepsLinks s t.roll.2 := draw (.ite h.other h.count)

/-! ### The host link -/

theorem respond (h : KeepsLinks s t) {o : Origin} {code : Nat} {st : Status} {rest : List Byte} :
    KeepsLinks s (t.respond o code st rest) := by
  obtain ⟨x, hx | hx⟩ := respond_cases t o code st rest
  · rw [hx]
    exact h.other
  · rw [hx]
    exact h.other.count

theorem taking (h : KeepsLinks s t) {o : Origin} : KeepsLinks s (t.taking o) := h.other.count.other

theorem dropNotice (h : KeepsLinks s t) {code : Nat} : KeepsLinks s (t.dropNotice code) := by
  unfold State.dropNotice
  extract_lets u
  have hu : KeepsLinks s u := h.count.raise
  split
  · exact hu.other
  · exact .ite hu.other hu.other

theorem notice (h : KeepsLinks s t) {code : Nat} {payload : List Byte} : KeepsLinks s (t.notice code payload) :=
  .ite h.other h.dropNotice

theorem linkNotice (h : KeepsLinks s t) : KeepsLinks s (t.linkNotice i) := h.notice

theorem swapNotice (h : KeepsLinks s t) {st : Status} : KeepsLinks s (t.swapNotice i st) := h.notice

/-! ### Queues and frames of the engine -/

theorem hopMsgs (h : KeepsLinks s t) {f : Msg → Msg} : KeepsLinks s (t.hopMsgs i f) := h.other

theorem setQueue (h : KeepsLinks s t) {q : List Desc} : KeepsLinks s (t.setQueue i j q) := h.setTnt rfl

theorem setFlight (h : KeepsLinks s t) {f : Flight} : KeepsLinks s (t.setFlight i f) := h.setTnt rfl

theorem setLcps (h : KeepsLinks s t) {l : List Desc} : KeepsLinks s (t.setLcps i l) := h.setTnt rfl

theorem composeFrame (h : KeepsLinks s t) {peer : Nat} {ie body : List Byte} :
    KeepsLinks s (t.composeFrame peer ie body).2 := h.other

theorem lcpFrame (h : KeepsLinks s t) {op : Nat} {rest : List Byte} : KeepsLinks s (t.lcpFrame i op rest).2 := h.other

theorem queueLcp (h : KeepsLinks s t) {op : Nat} {rest : List Byte} : KeepsLinks s (t.queueLcp i op rest) :=
  (h.lcpFrame (i := i) (op := op) (rest := rest)).setLcps

/-! ### Actions of the engine -/

theorem putRecord (h : KeepsLinks s t) {n : Nat} {ws : List Nat} : KeepsLinks s (t.putRecord n ws) :=
  h.foldl fun _ _ h => h.setRegN

theorem acceptAction (h : KeepsLinks s t) {n : Nat} {own : Option (List Byte)} : KeepsLinks s (t.acceptAction n own) :=
  h.other.count

theorem submitTx (h : KeepsLinks s t) {n freq : Nat} {d : Desc} {start : Option Nat} :
    KeepsLinks s (t.submitTx n d start freq) := h.putRecord.acceptAction

theorem submitRx (h : KeepsLinks s t) {n us start : Nat} {anchor : Option Nat} :
    KeepsLinks s (t.submitRx n i us anchor start) := h.putRecord.acceptAction

theorem answerWith (h : KeepsLinks s t) {ended : Nat} {d : Desc} : KeepsLinks s (t.answerWith i ended d) := by
  unfold State.answerWith
  extract_lets c start x
  refine .ite h ?_
  split
  · extract_lets u
    have hu : KeepsLinks s u := h.submitTx
    split
    · exact hu.setFlight
    · exact hu.setFlight
  · exact h

theorem lcpAnswer (h : KeepsLinks s t) {ended op : Nat} {rest : List Byte} : KeepsLinks s (t.lcpAnswer i ended op rest) :=
  (h.lcpFrame (i := i) (op := op) (rest := rest)).answerWith

theorem takeFrame (h : KeepsLinks s t) : KeepsLinks s (t.takeFrame i).2 := by
  unfold State.takeFrame
  extract_lets tenant c
  split
  next d rest _ =>
    split
    · exact h.lcpFrame (i := i) (op := d.lcp) (rest := t.repeatBytes i d.lcp)
    · exact h.setLcps
  next =>
    split
    · split
      · exact h.setQueue
      · exact h
    · split
      · exact h.lcpFrame (i := i) (op := 8) (rest := [])
      · exact h

theorem followerAnswer (h : KeepsLinks s t) {ended : Nat} : KeepsLinks s (t.followerAnswer i ended) := by
  unfold State.followerAnswer
  refine .ite ?_ h
  split
  next d u e =>
    have hu : KeepsLinks s u := h.takeFrame.of_snd e
    split
    · exact hu.answerWith
    · exact hu

theorem swapAnswer (h : KeepsLinks s t) {ended e : Nat} {st : Status} : KeepsLinks s (t.swapAnswer i ended e st) :=
  h.lcpAnswer

end KeepsLinks

/-! ## Up and down (R281) -/

/-- A link that goes UP has STATE 2 and begins its tries anew. -/
theorem keepsLinks_linkUp (s : State) (i : Nat) :
    KeepsLinks ((s.setLk i 2 1 2).setLkWork i { s.lkWork i with tries := 0 }) (s.linkUp i) := by
  unfold State.linkUp
  extract_lets x
  exact (KeepsLinks.refl _).hopMsgs.raise.linkNotice

/-- What a link that goes DOWN leaves, short of its flag and notice: STATE with its reason is the last it takes. -/
theorem linkDown_eq (s : State) (i reason : Nat) : ∃ u : State, s.linkDown i reason
    = ((u.setLk i 2 1 (4 + 16 * reason)).raise F.tntIntstatLinkdown).linkNotice i := ⟨_, rfl⟩

theorem lk_state_linkDown (s : State) (hi : i < 1024) {reason : Nat} (hr : reason < 15) :
    (s.linkDown i reason).lk i 2 1 = 4 + 16 * reason := by
  obtain ⟨u, hu⟩ := linkDown_eq s i reason
  have hkeep : KeepsLinks (u.setLk i 2 1 (4 + 16 * reason)) (s.linkDown i reason) := by
    rw [hu]
    exact (KeepsLinks.refl _).raise.linkNotice
  rw [hkeep.lk, lk_setLk_self u hi]
  exact Nat.mod_eq_of_lt (by omega)

end Sys2Proof.Machine
end

section
/-!
Link commands (R283, R288-R290, R302, R305): what each operation leaves in the context of its link, by LINKCMD and by the
host.
-/

namespace Sys2Proof.Machine

variable {s t u : State} {i h off k v : Nat}

/-! ## Contexts that are as they were -/

namespace KeepsLinks

theorem lkState (hk : KeepsLinks s t) (i : Nat) : t.lkState i = s.lkState i := congrArg (· % 16) (hk.lk i 2 1)

theorem lkHandle (hk : KeepsLinks s t) (i : Nat) : t.lkHandle i = s.lkHandle i := hk.lk i 0 2

theorem stale (hk : KeepsLinks s t) (h : Nat) : t.stale h = s.stale h := by
  unfold State.stale
  rw [hk.lkState, hk.lkHandle]

end KeepsLinks

theorem lkHandle_lt (s : State) (i : Nat) : s.lkHandle i < 65536 := lk_lt s i 0 2

theorem lt_of_stale (hs : s.stale h = false) : h < 65536 := by
  simp only [State.stale, Bool.or_eq_false_iff, decide_eq_false_iff_not] at hs
  omega

/-- Only the context of a link is written: every byte of memory beside it is as before. -/
def State.writesContext (s t : State) (i : Nat) : Prop :=
  ∀ a, a < lkAddr i 0 ∨ lkAddr i 0x100 ≤ a → t.byte a = s.byte a

theorem writesContext_self (s : State) (i : Nat) : s.writesContext s i := fun _ _ => rfl

theorem State.writesContext.setLk (hw : s.writesContext t i) (ho : off + k ≤ 256 := by decide) :
    s.writesContext (t.setLk i off k v) i := fun a ha => (byte_setLk_outside t ho ha).trans (hw a ha)

theorem State.writesContext.setLkWork (hw : s.writesContext t i) {x : LinkWork} : s.writesContext (t.setLkWork i x) i := hw

theorem State.writesContext.keepsLinks (hw : s.writesContext t i) (hk : KeepsLinks t u) : s.writesContext u i :=
  fun a ha => (hk.sameMemory a).trans (hw a ha)

theorem lkState_setLk (s : State) (hi : i < 1024) (v : Nat) : (s.setLk i 2 1 v).lkState i = v % 16 := by
  rw [State.lkState, lk_setLk_self s hi, Nat.pow_one, Nat.mod_mod_of_dvd v (by decide)]

theorem lkState_setLkWork (s : State) (i j : Nat) (x : LinkWork) : (s.setLkWork j x).lkState i = s.lkState i :=
  congrArg (· % 16) (lk_setLkWork s i j 2 1 x)

/-! ## Operations on a link -/

/-- An OPEN that passes its checks leaves its link UP, or OPENING where the link is scheduled (R283, R284). -/
theorem openLink_of_pending (hi : i < 1024) (hc : s.openCode i = .pending) : ∃ t, s.openLink i = (.pending, t)
    ∧ t.lkState i = (if s.lkInterval i = 0 then 2 else 1) ∧ t.lkHandle i = s.lkHandle i
    ∧ t.lk i 0x20 8 = s.tb.now % 2 ^ 64 ∧ s.writesContext t i := by
  unfold State.openLink
  extract_lets st u1 u2 u3
  have hst : st = .pending := hc
  have hint : u2.lkInterval i = s.lkInterval i := by
    simp (disch := omega) only [State.lkInterval, u1, u2, lk_setLk_apart, lk_setLkWork]
  have hhandle : u2.lk i 0 2 = s.lk i 0 2 := by
    simp (disch := omega) only [u1, u2, lk_setLk_apart, lk_setLkWork]
  have hstart : u2.lk i 0x20 8 = s.tb.now % 2 ^ 64 := by
    simp (disch := omega) only [u1, u2, lk_setLk_apart, lk_setLk_self]
    rfl
  have hbytes : s.writesContext u2 i := (((writesContext_self s i).setLkWork.setLk).setLk).setLk
  rw [if_pos hst, hint, hst]
  by_cases h0 : s.lkInterval i = 0
  · have hk := keepsLinks_linkUp u2 i
    refine ⟨u2.linkUp i, by rw [if_pos h0], ?_, ?_, ?_, hbytes.setLk.setLkWork.keepsLinks hk⟩
    · rw [if_pos h0, hk.lkState, lkState_setLkWork, lkState_setLk u2 hi]
    · rw [hk.lkHandle, State.lkHandle, lk_setLkWork, lk_setLk_apart u2 (by decide), hhandle]
      rfl
    · rw [hk.lk, lk_setLkWork, lk_setLk_apart u2 (by decide), hstart]
  · have hk : KeepsLinks u3 (if u3.lkLeader i then u3.queueLcp i 1 (u3.openBytes i) else u3) :=
      .ite (KeepsLinks.refl u3).queueLcp (.refl u3)
    refine ⟨_, by rw [if_neg h0], ?_, ?_, ?_, hbytes.setLk.keepsLinks hk⟩
    · rw [if_neg h0, hk.lkState, lkState_setLk u2 hi]
    · rw [hk.lkHandle, State.lkHandle, lk_setLk_apart u2 (by decide), hhandle]
      rfl
    · rw [hk.lk, lk_setLk_apart u2 (by decide), hstart]

/-- An UP link that is closed is CLOSING (R288). -/
theorem closeLink_of_up (hs : s.stale h = false) (hup : s.lkState (handleIdx h) = 2) :
    ∃ t, s.closeLink h = (.pending, t) ∧ t.lkState (handleIdx h) = 3 := by
  unfold State.closeLink
  extract_lets i u1 x u2
  have hk : KeepsLinks u2 (u2.queueLcp i 3 []) := (KeepsLinks.refl u2).queueLcp
  refine ⟨u2.queueLcp i 3 [], by simp [hs, hup, i], ?_⟩
  rw [hk.lkState, lkState_setLkWork, lkState_setLk u1 (handleIdx_lt h)]

/-- A DOWN link that is released is FREE, and the next generation is its handle's (R280, R288). -/
theorem releaseLink_of_down (hs : s.stale h = false) (hd : s.lkState (handleIdx h) = 4) :
    ∃ t, s.releaseLink h = (.ok, t) ∧ t.lkState (handleIdx h) = 0
      ∧ t.lkHandle (handleIdx h) = 1024 * ((h / 1024 + 1) % 63) + handleIdx h ∧ s.writesContext t (handleIdx h) := by
  have hi := handleIdx_lt h
  unfold State.releaseLink
  extract_lets i g x u
  have hu : s.writesContext u i := fun _ _ => rfl
  clear_value u
  refine ⟨((u.setLk i 0 2 (1024 * g + i)).setLk i 2 1 0).setLk i 0x70 32 0, by simp [hs, hd, i], ?_, ?_,
    ((hu.setLk).setLk).setLk⟩
  · rw [State.lkState, lk_setLk_apart _ (by decide)]
    exact lkState_setLk _ hi 0
  · rw [State.lkHandle, lk_setLk_apart _ (by decide), lk_setLk_apart _ (by decide), lk_setLk_self u hi]
    change (1024 * ((h / 1024 + 1) % 63) + handleIdx h) % 256 ^ 2 = _
    omega

/-- The configuration of the tenant engine is as it was after a roll (R458). -/
theorem swaplead_roll (s : State) : s.roll.2.fld F.tntCfgSwaplead = s.fld F.tntCfgSwaplead := by
  unfold State.roll
  extract_lets x u
  change u.fld F.tntCfgSwaplead = _
  unfold u
  split
  · rfl
  · exact State.fld_setRegN_ne s _ (by decide)

/-- A swap is requested for the event SWAPLEAD ahead (R290). -/
theorem swapLink_of_up (hs : s.stale h = false) (hup : s.lkState (handleIdx h) = 2)
    (hp : bitAt (s.lk (handleIdx h) 3 1) 1 = true) (hno : bitAt (s.lk (handleIdx h) 3 1) 3 = false)
    (hint : s.lkInterval (handleIdx h) ≠ 0) : ∃ t, s.swapLink h = (.pending, t)
      ∧ bitAt (t.lk (handleIdx h) 3 1) 3 = true
      ∧ t.lkSwapevt (handleIdx h) = (s.lkEvcnt (handleIdx h) + s.fld F.tntCfgSwaplead) % 2 ^ 32
      ∧ (t.lkWork (handleIdx h)).asking = true := by
  have hi := handleIdx_lt h
  have hroll : KeepsLinks s s.roll.2 := (KeepsLinks.refl s).roll
  have hlead := swaplead_roll s
  unfold State.swapLink
  extract_lets i
  rw [if_neg (by simp [hs, hup, hp, hint, i]), if_neg (by simp [hno, i])]
  generalize s.roll = p at *
  obtain ⟨r, u⟩ := p
  dsimp only at hroll hlead ⊢
  have hev : u.lkEvcnt i = s.lkEvcnt i := hroll.lk i 0x28 4
  rw [hlead, hev]
  refine ⟨_, rfl, ?_, ?_, ?_⟩
  · rw [(KeepsLinks.refl _).queueLcp.lk, lk_setLkWork, lk_setLk_self _ hi, Nat.pow_one, bitAt_mod_byte _ (by decide : 3 < 8),
      bitAt_setBitsOf_one, if_pos rfl]
    rfl
  · rw [State.lkSwapevt, (KeepsLinks.refl _).queueLcp.lk, lk_setLkWork, lk_setLk_apart _ (by decide), lk_setLk_self _ hi]
    exact Nat.mod_mod _ _
  · rw [(KeepsLinks.refl _).queueLcp.lkWork, lkWork_setLkWork_self]

/-- A channel map of the leader is staged for the event SWAPLEAD ahead (R289). -/
theorem mapLink_of_up (hs : s.stale h = false) (hup : s.lkState (handleIdx h) = 2)
    (hint : s.lkInterval (handleIdx h) ≠ 0) (hl : s.lkLeader (handleIdx h) = true)
    (hno : (s.lkWork (handleIdx h)).mapStaged = false) : ∃ t, s.mapLink h = (.pending, t)
      ∧ (t.lkWork (handleIdx h)).mapStaged = true
      ∧ t.lk (handleIdx h) 0x54 4 = (s.lkEvcnt (handleIdx h) + s.fld F.tntCfgSwaplead) % 2 ^ 32
      ∧ t.lk (handleIdx h) 0x58 20 = s.lk (handleIdx h) 0x90 20 := by
  have hi := handleIdx_lt h
  unfold State.mapLink
  extract_lets i e map u1 x u2
  have hk : KeepsLinks u2 (u2.queueLcp i 7 (leBytes 4 e ++ leBytes 20 map)) := (KeepsLinks.refl u2).queueLcp
  refine ⟨u2.queueLcp i 7 (leBytes 4 e ++ leBytes 20 map), by simp [hs, hup, hint, hl, hno, i], ?_, ?_, ?_⟩
  · rw [hk.lkWork, lkWork_setLkWork_self]
  · rw [hk.lk, lk_setLkWork, lk_setLk_apart _ (by decide), lk_setLk_self s hi]
    exact Nat.mod_mod _ _
  · rw [hk.lk, lk_setLkWork, lk_setLk_self _ hi]
    exact Nat.mod_eq_of_lt (lk_lt s i 0x90 20)

/-! ## LINKCMD (R283, R302) -/

/-- LINKSTAT after a command: its code over a handle. -/
def State.linkStat (s : State) (st : Status) (h : Nat) : State := s.setRegN A.tntLinkstat (2 ^ 16 * st.code + h)

theorem keepsLinks_linkStat (s : State) (st : Status) (h : Nat) : KeepsLinks s (s.linkStat st h) := (KeepsLinks.refl s).setRegN

theorem fld_result_linkStat (s : State) (st : Status) (hh : h < 65536) :
    (s.linkStat st h).fld F.tntLinkstatResult = st.code := by
  have hst := status_code_lt st
  change bitsOf ((s.linkStat st h).regN A.tntLinkstat) 16 16 = _
  rw [State.linkStat, State.regN_setRegN_self]
  unfold bitsOf
  omega

theorem fld_handle_linkStat (s : State) (st : Status) (hh : h < 65536) :
    (s.linkStat st h).fld F.tntLinkstatHandle = h := by
  change bitsOf ((s.linkStat st h).regN A.tntLinkstat) 0 16 = _
  rw [State.linkStat, State.regN_setRegN_self]
  unfold bitsOf
  omega

section
variable {w : Word} {op : Nat} {st : Status}

theorem linkCmd_open (hu : s.comUp = true) (hw : bitsOf w.toNat 16 12 = 0)
    (ho : s.openLink (handleIdx (bitsOf w.toNat 0 16)) = (st, t)) :
    s.linkCmd 1 w = t.linkStat st (t.lkHandle (handleIdx (bitsOf w.toNat 0 16))) := by
  simp [State.linkCmd, hu, hw, State.linkOp, ho, State.linkStat]

theorem linkCmd_other (hu : s.comUp = true) (hw : bitsOf w.toNat 16 12 = 0) (hop : op ≠ 1)
    (ho : s.linkOp op (bitsOf w.toNat 0 16) = (st, t)) : s.linkCmd op w = t.linkStat st (bitsOf w.toNat 0 16) := by
  simp [State.linkCmd, hu, hw, hop, ho, State.linkStat]

end

/-! ## The host's commands (R305) -/

/-- The bytes that a template writes lie behind STATE. -/
theorem byte_putTemplate_below (s : State) (i : Nat) (p : List Byte) {a : Nat} (ha : a < lkAddr i 3) :
    (s.putTemplate i p).byte a = s.byte a := by
  unfold lkAddr at ha
  simp only [State.putTemplate, lkAddr]
  rw [State.byte_setBytes_outside _ _ (.inl (by omega)), State.byte_setBytes_outside _ _ (.inl (by omega)),
    State.byte_setBytes_outside _ _ (.inl (by omega))]
  exact State.byte_setBytes_outside s _ (.inl ha)

theorem lk_putTemplate_below (s : State) (i : Nat) (p : List Byte) (h : off + k ≤ 3) :
    (s.putTemplate i p).lk i off k = s.lk i off k := by
  refine congrArg leNat (bytes_congr fun b _ hb => byte_putTemplate_below s i p ?_)
  unfold lkAddr at *
  omega

section
variable {o : Origin} {p : List Byte} {st : Status}

theorem handleLinkOpen_of_free (hi : leAt p 0 2 < 1024) (hz : byteAt p 3 = 0) (hf : s.lkState (leAt p 0 2) = 0)
    (ho : (s.putTemplate (leAt p 0 2) p).openLink (leAt p 0 2) = (st, t)) :
    handleLinkOpen o p s = (.now st (leBytes 2 (t.lkHandle (leAt p 0 2)) ++ leBytes 2 0), t) := by
  simp [handleLinkOpen, hi, hz, hf, ho]

theorem handleLink_of_op {op : Nat} (hz : leAt p 2 2 = 0) (ho : s.linkOp op (leAt p 0 2) = (st, t)) :
    handleLink op o p s = (.now st [], t) := by
  simp [handleLink, hz, ho]

theorem handleLinkGet_of_live (hz : leAt p 2 2 = 0) (hs : s.stale (leAt p 0 2) = false) :
    handleLinkGet o p s = (.now .ok (s.bytes (lkAddr (handleIdx (leAt p 0 2)) 0) 144), s) := by
  simp [handleLinkGet, hz, hs]

theorem handleTenantStatus_of_tenant (ht : byteAt p 0 < 8) (hz : allZero (p.drop 1) = true) :
    handleTenantStatus o p s = (.now .ok (leBytes 4 (s.tstat (byteAt p 0))
      ++ ((List.range 8).map (fun k => leBytes 4 (s.regN (A.tntCtr (8 * byteAt p 0 + k))))).flatten), s) := by
  unfold handleTenantStatus
  rw [if_neg (by simp only [hz]; simp [ht])]

end

theorem keepsLinks_respond (s : State) (o : Origin) (code : Nat) (st : Status) (rest : List Byte) :
    KeepsLinks s (s.respond o code st rest) := (KeepsLinks.refl s).respond

theorem respond_tnt (s : State) (o : Origin) (code : Nat) (st : Status) (rest : List Byte) :
    (s.respond o code st rest).tnt = s.tnt := by
  obtain ⟨x, h | h⟩ := respond_cases s o code st rest
  · rw [h]
  · rw [h, State.count, State.countBy, State.setRegN, State.setReg_tnt]

theorem tstat_taking (s : State) (o : Origin) (i : Nat) : (s.taking o).tstat i = s.tstat i := rfl

theorem tntCtr_taking (s : State) (o : Origin) {i k : Nat} (hi : i < 8) (hk : k < 8) :
    (s.taking o).regN (A.tntCtr (8 * i + k)) = s.regN (A.tntCtr (8 * i + k)) :=
  regN_taking_ne s o (by unfold A.tntCtr A.hslCtr; omega)

/-- LINK_GET answers with the first 144 bytes of its context (R305). -/
theorem completes_linkGet {o : Origin} {p : List Byte} (ht : s.takes o 0x04 p) (hl : p.length = 4)
    (hz : leAt p 2 2 = 0) (hs : s.stale (leAt p 0 2) = false) : Completes (.linkGet o p) s fun t =>
      t.responded o (rspPayload 0x04 .ok (s.bytes (lkAddr (handleIdx (leAt p 0 2)) 0) 144)) ∧ s.sameMemory t := by
  have htake : KeepsLinks s (s.taking o) := (KeepsLinks.refl s).taking
  have hx := handleLinkGet_of_live (s := s.taking o) (o := o) hz ((htake.stale _).trans hs)
  rw [bytes_congr fun b _ _ => htake.sameMemory b] at hx
  exact completes_of_answered rfl ht (by simp [hl]) hx
    ⟨State.responded_respond .., fun a => (byte_respond ..).trans (htake.sameMemory a)⟩

/-- TENANT_STATUS answers with TSTAT and the counters of its tenant (R305). -/
theorem completes_tenantStatus {o : Origin} {p : List Byte} (ht : s.takes o 0x05 p) (hl : p.length = 4)
    (hk : byteAt p 0 < 8) (hz : allZero (p.drop 1) = true) : Completes (.tenantStatus o p) s fun t =>
      t.responded o (rspPayload 0x05 .ok (leBytes 4 (s.tstat (byteAt p 0))
        ++ ((List.range 8).map (fun k => leBytes 4 (s.regN (A.tntCtr (8 * byteAt p 0 + k))))).flatten))
      ∧ t.tnt = s.tnt ∧ s.sameMemory t := by
  have hx := handleTenantStatus_of_tenant (s := s.taking o) (o := o) hk hz
  have hctr : (List.range 8).map (fun k => leBytes 4 ((s.taking o).regN (A.tntCtr (8 * byteAt p 0 + k))))
      = (List.range 8).map (fun k => leBytes 4 (s.regN (A.tntCtr (8 * byteAt p 0 + k)))) :=
    List.map_congr_left fun k hk8 => congrArg (leBytes 4) (tntCtr_taking s o hk (List.mem_range.1 hk8))
  rw [tstat_taking, hctr] at hx
  exact completes_of_answered rfl ht (by simp [hl]) hx
    ⟨State.responded_respond .., respond_tnt .., fun a => byte_respond ..⟩

/-! ## The obligation -/

/-- Settles O35: each operation leaves its context as its rule gives, and neither LINKSTAT nor a response touches it. -/
theorem linkCommands : Obligations.LinkCommands := by
  intro s
  refine ⟨fun w hu hw => ⟨fun hc => ?_, fun hs hup => ?_, fun hs hd => ?_, fun hs hup hp hno hint => ?_,
      fun hs hup hint hl hno => ?_⟩, fun o p ht hl hi hz => ?_, fun o p hl hz hs => ?_, fun o p ht hl hk hz => ?_⟩
  · obtain ⟨t, ht, hst, hh, hev, hb⟩ := openLink_of_pending (handleIdx_lt _) hc
    have hk := keepsLinks_linkStat t .pending (t.lkHandle (handleIdx (bitsOf w.toNat 0 16)))
    refine ⟨_, congrArg Host.Outcome.next (linkCmd_open hu hw ht), ?_, fld_result_linkStat t _ (lkHandle_lt t _), ?_, ?_,
      hb.keepsLinks hk⟩
    · rw [hk.lkState, hst]
    · rw [fld_handle_linkStat t _ (lkHandle_lt t _), hh]
    · rw [hk.lk, hev]
  · obtain ⟨t, ht, hst⟩ := closeLink_of_up hs hup
    have hk := keepsLinks_linkStat t .pending (bitsOf w.toNat 0 16)
    exact ⟨_, congrArg Host.Outcome.next (linkCmd_other hu hw (by decide) ht), (hk.lkState _).trans hst,
      fld_result_linkStat t _ (lt_of_stale hs), fld_handle_linkStat t _ (lt_of_stale hs)⟩
  · obtain ⟨t, ht, hst, hh, hb⟩ := releaseLink_of_down hs hd
    have hk := keepsLinks_linkStat t .ok (bitsOf w.toNat 0 16)
    exact ⟨_, congrArg Host.Outcome.next (linkCmd_other hu hw (by decide) ht), (hk.lkState _).trans hst,
      (hk.lkHandle _).trans hh, fld_result_linkStat t _ (lt_of_stale hs), hb.keepsLinks hk⟩
  · obtain ⟨t, ht, hf, hev, ha⟩ := swapLink_of_up hs hup hp hno hint
    have hk := keepsLinks_linkStat t .pending (bitsOf w.toNat 0 16)
    refine ⟨_, congrArg Host.Outcome.next (linkCmd_other hu hw (by decide) ht), ?_, (hk.lk _ 0x30 4).trans hev, ?_,
      fld_result_linkStat t _ (lt_of_stale hs)⟩
    · rw [hk.lk, hf]
    · rw [hk.lkWork, ha]
  · obtain ⟨t, ht, hm, hev, hmap⟩ := mapLink_of_up hs hup hint hl hno
    have hk := keepsLinks_linkStat t .pending (bitsOf w.toNat 0 16)
    refine ⟨_, congrArg Host.Outcome.next (linkCmd_other hu hw (by decide) ht), ?_, (hk.lk _ 0x54 4).trans hev,
      (hk.lk _ 0x58 20).trans hmap, fld_result_linkStat t _ (lt_of_stale hs)⟩
    rw [hk.lkWork, hm]
  · intro i hf hc
    have htake : KeepsLinks s (s.taking o) := (KeepsLinks.refl s).taking
    obtain ⟨t, hx, hst, hh, -, -⟩ := openLink_of_pending hi hc
    have hh' : t.lkHandle i = s.lkHandle i :=
      hh.trans ((lk_putTemplate_below _ i p (by decide)).trans (htake.lk i 0 2))
    refine completes_of_answered rfl ht (by simp [hl])
      (handleLinkOpen_of_free hi hz ((htake.lkState _).trans hf) hx) ⟨?_, ?_⟩
    · rw [(keepsLinks_respond ..).lkState, hst]
    · rw [hh']
      exact State.responded_respond ..
  · intro h i
    have htake : KeepsLinks s (s.taking o) := (KeepsLinks.refl s).taking
    have hs' : (s.taking o).stale h = false := (htake.stale h).trans hs
    have hlen : (p.length == 4) = true := by simp [hl]
    refine ⟨fun ht hup => ?_, fun ht hd => ?_, fun ht hup hp hno hint => ?_, fun ht => completes_linkGet ht hl hz hs⟩
    · obtain ⟨t, hx, hst⟩ := closeLink_of_up hs' ((htake.lkState i).trans hup)
      refine completes_of_answered rfl ht hlen (handleLink_of_op hz hx) ⟨?_, State.responded_respond ..⟩
      rw [(keepsLinks_respond ..).lkState, hst]
    · obtain ⟨t, hx, hst, hh, -⟩ := releaseLink_of_down hs' ((htake.lkState i).trans hd)
      refine completes_of_answered rfl ht hlen (handleLink_of_op hz hx) ⟨?_, ?_, State.responded_respond ..⟩
      · rw [(keepsLinks_respond ..).lkState, hst]
      · rw [(keepsLinks_respond ..).lkHandle, hh]
    · obtain ⟨t, hx, hf, -, ha⟩ := swapLink_of_up hs' ((htake.lkState i).trans hup)
        ((congrArg (bitAt · 1) (htake.lk i 3 1)).trans hp) ((congrArg (bitAt · 3) (htake.lk i 3 1)).trans hno)
        (fun h0 => hint ((htake.lk i 0x14 4).symm.trans h0))
      refine completes_of_answered rfl ht hlen (handleLink_of_op hz hx) ⟨?_, ?_, State.responded_respond ..⟩
      · rw [(keepsLinks_respond ..).lk, hf]
      · rw [(keepsLinks_respond ..).lkWork, ha]
  · exact completes_tenantStatus ht hl hk hz

end Sys2Proof.Machine
end

section
/-!
Link-control frames (R284-R291, R437): what a frame that a link hears leaves in the link's context.
-/

namespace Sys2Proof.Machine

variable {s t u : State} {i h off k v ended : Nat} {p : List Byte}

/-! ## A frame that is heard (R286) -/

/-- `u` is `s` once link `i` heard a frame that ended at a tick: LASTHEARD is the tick, and of the engine's record of the
link nothing changes but that it was heard, and that a map may be acknowledged. -/
structure HeardFrom (s : State) (i ended : Nat) (u : State) : Prop where
  last : u.lk i 0x20 8 = ended % 2 ^ 64
  lk : ∀ {off k}, off + k ≤ 0x20 ∨ 0x28 ≤ off → u.lk i off k = s.lk i off k
  work : ∃ m, u.lkWork i = { s.lkWork i with heard := true, mapping := m }
  fw : u.fw = s.fw

theorem heardFrom_heard (s : State) (hi : i < 1024) (ended : Nat) : HeardFrom s i ended (s.heard i ended) := by
  unfold State.heard
  extract_lets w ack x
  have hk : KeepsLinks x (if ack then x.setLcps i ((x.lcpsOf i).filter (fun d => d.lcp != 7)) else x) :=
    .ite (KeepsLinks.refl x).setLcps (.refl x)
  refine ⟨?_, fun hoff => ?_, ⟨w.mapping && !ack, ?_⟩, ?_⟩
  · rw [hk.lk, lk_setLkWork]
    exact lk_setLk_self s hi ended
  · rw [hk.lk, lk_setLkWork, lk_setLk_apart s (by omega)]
  · rw [hk.lkWork, lkWork_setLkWork_self]
  · rw [hk.fw]
    exact fw_setLk s i 0x20 8 ended

namespace HeardFrom

variable (hu : HeardFrom s i ended u)
include hu

theorem lkState : u.lkState i = s.lkState i := congrArg (· % 16) (hu.lk (by decide))
theorem lkLeader : u.lkLeader i = s.lkLeader i := congrArg (bitAt · 0) (hu.lk (by decide))
theorem lkInterval : u.lkInterval i = s.lkInterval i := hu.lk (by decide)
theorem lkEvcnt : u.lkEvcnt i = s.lkEvcnt i := hu.lk (by decide)
theorem lkSwapevt : u.lkSwapevt i = s.lkSwapevt i := hu.lk (by decide)

theorem heard : (u.lkWork i).heard = true := by
  obtain ⟨m, hm⟩ := hu.work
  rw [hm]

theorem asking : (u.lkWork i).asking = (s.lkWork i).asking := by
  obtain ⟨m, hm⟩ := hu.work
  rw [hm]

theorem swapping : (u.lkWork i).swapping = (s.lkWork i).swapping := by
  obtain ⟨m, hm⟩ := hu.work
  rw [hm]

end HeardFrom

/-- A well-formed frame on a link that hears it is handled once it is heard (R286, R289). -/
theorem completes_of_heard {c : Instr} {op : Nat} {f : State → State} {post : State → Prop}
    (hc : exec c s = .next (s.lcpIn op h ended p f)) (hcom : s.comUp = true) (hh : s.hears h = true)
    (hop : byteAt p 0 = op) (hz : byteAt p 1 = 0) (hl : lcpLen op ≤ p.length)
    (hpost : ∀ u, HeardFrom s (handleIdx h) ended u → post (f u)) : Completes c s post := by
  refine ⟨f (s.heard (handleIdx h) ended), ?_, hpost _ (heardFrom_heard s (handleIdx_lt h) ended)⟩
  rw [hc]
  simp [State.lcpIn, hcom, hh, hop, hz, hl]

/-! ## OPEN and its acknowledgement (R284, R437) -/

theorem leAt_lt (p : List Byte) (a n : Nat) : leAt p a n < 256 ^ n :=
  Nat.lt_of_lt_of_le (leNat_lt _) (Nat.pow_le_pow_right (by decide) (List.length_take_le ..))

/-- A link that is UP already, or goes UP, is UP: nothing else of its context changes. -/
theorem keepsLinks_up (s : State) (hi : i < 1024) : let t := if s.lkState i = 2 then s else s.linkUp i
    t.lkState i = 2 ∧ ∀ {off k}, off + k ≤ 2 ∨ 3 ≤ off → t.lk i off k = s.lk i off k := by
  intro t
  by_cases h2 : s.lkState i = 2
  · have ht : t = s := if_pos h2
    rw [ht]
    exact ⟨h2, fun _ => rfl⟩
  · have ht : t = s.linkUp i := if_neg h2
    have hk := keepsLinks_linkUp s i
    rw [ht]
    refine ⟨?_, fun hoff => ?_⟩
    · rw [hk.lkState, lkState_setLkWork, lkState_setLk s hi]
    · rw [hk.lk, lk_setLkWork, lk_setLk_apart s (by omega)]

/-- A follower takes the values of an OPEN that it can serve, and is UP. -/
theorem takeOpen_of_served {stamp : Nat} (hi : i < 1024) (hg : s.fw.wireMin ≤ min (byteAt p 17) s.fw.wireGen) :
    let t := s.takeOpen i ended stamp p
    t.lkState i = 2 ∧ t.lkInterval i = leAt p 6 4 ∧ t.lkWin i = leAt p 14 2 ∧ t.lkEvcnt i = leAt p 2 4
      ∧ t.lkAnchor i = stamp % 2 ^ 64 ∧ t.lk i 0x20 8 = s.lk i 0x20 8 := by
  intro t
  have hint := Nat.mod_eq_of_lt (leAt_lt p 6 4)
  have hwin := Nat.mod_eq_of_lt (leAt_lt p 14 2)
  have hev := Nat.mod_eq_of_lt (leAt_lt p 2 4)
  revert t
  unfold State.takeOpen
  extract_lets g s1 s2 s3 s4 s5 t
  have hfw : s.fw.wireMin ≤ g := hg
  have hfw4 : s4.fw = s.fw := by simp [s4, s3, s2, s1]
  have hk : KeepsLinks (s4.setLk i 7 1 g) s5 := (KeepsLinks.refl _).lcpAnswer
  have hval : s4.lk i 0x14 4 = leAt p 6 4 ∧ s4.lk i 0x12 2 = leAt p 14 2 ∧ s4.lk i 0x28 4 = leAt p 2 4
      ∧ s4.lk i 0x18 8 = stamp % 2 ^ 64 ∧ s4.lk i 0x20 8 = s.lk i 0x20 8 := by
    refine ⟨?_, ?_, ?_, ?_, ?_⟩
    · simp (disch := omega) only [s4, s3, s2, s1, lk_setLk_apart, lk_setLk_self, hint]
    · simp (disch := omega) only [s4, s3, s2, s1, lk_setLk_apart, lk_setLk_self, hwin]
    · simp (disch := omega) only [s4, lk_setLk_self, hev]
    · simp (disch := omega) only [s4, lk_setLk_apart, lk_setLk_self]
      rfl
    · simp (disch := omega) only [s4, s3, s2, s1, lk_setLk_apart]
  have h5 : ∀ {off k}, off + k ≤ 7 ∨ 8 ≤ off → s5.lk i off k = s4.lk i off k := fun hoff =>
    (hk.lk i _ _).trans (lk_setLk_apart s4 (by omega))
  obtain ⟨hint4, hwin4, hev4, hanchor4, hlast4⟩ := hval
  obtain ⟨hup, hrest⟩ := keepsLinks_up s5 hi
  have ht : t = if s5.lkState i = 2 then s5 else s5.linkUp i := if_pos (hfw4.symm ▸ hfw)
  rw [ht]
  exact ⟨hup, ((hrest (by decide)).trans (h5 (by decide))).trans hint4,
    ((hrest (by decide)).trans (h5 (by decide))).trans hwin4, ((hrest (by decide)).trans (h5 (by decide))).trans hev4,
    ((hrest (by decide)).trans (h5 (by decide))).trans hanchor4, ((hrest (by decide)).trans (h5 (by decide))).trans hlast4⟩

theorem completes_openCmd {stamp : Nat} (hcom : s.comUp = true) (hh : s.hears h = true) (hz : byteAt p 1 = 0)
    (hop : byteAt p 0 = 1) (hl : 46 ≤ p.length) (hf : s.lkLeader (handleIdx h) = false)
    (hint : s.lkInterval (handleIdx h) ≠ 0) (hst : s.lkState (handleIdx h) ≠ 3)
    (hg : s.fw.wireMin ≤ min (byteAt p 17) s.fw.wireGen) : Completes (.openCmd h stamp ended p) s fun t =>
      t.lkState (handleIdx h) = 2 ∧ t.lkInterval (handleIdx h) = leAt p 6 4 ∧ t.lkWin (handleIdx h) = leAt p 14 2
      ∧ t.lkEvcnt (handleIdx h) = leAt p 2 4 ∧ t.lkAnchor (handleIdx h) = stamp % 2 ^ 64
      ∧ t.lk (handleIdx h) 0x20 8 = ended % 2 ^ 64 := by
  refine completes_of_heard rfl hcom hh hop hz hl fun u hu => ?_
  obtain ⟨hup, hi, hw, he, ha, hlast⟩ := takeOpen_of_served (s := u) (p := p) (ended := ended) (stamp := stamp)
    (handleIdx_lt h) (hu.fw.symm ▸ hg)
  dsimp only
  rw [hu.lkLeader, hu.lkInterval, hu.lkState, if_neg (by simp [hf, hint, hst])]
  exact ⟨hup, hi, hw, he, ha, hlast.trans hu.last⟩

/-- The acknowledgement of an OPEN leads to UP at a wire generation that is accepted, else to DOWN (R437). -/
theorem completes_openAck (hcom : s.comUp = true) (hh : s.hears h = true) (hz : byteAt p 1 = 0)
    (hop : byteAt p 0 = 2) (hl : 8 ≤ p.length) (hlead : s.lkLeader (handleIdx h) = true)
    (hst : s.lkState (handleIdx h) = 1) : Completes (.openAck h ended p) s fun t =>
      t.lk (handleIdx h) 2 1 = if byteAt p 6 ≠ 0 ∧ s.fw.wireMin ≤ byteAt p 6 then 2 else 4 + 16 * 4 := by
  refine completes_of_heard rfl hcom hh hop hz hl fun u hu => ?_
  extract_lets i g v
  have hfw : v.fw = s.fw := hu.fw
  rw [if_pos (by simp [i, hu.lkLeader, hlead, hu.lkState, hst]), hfw]
  by_cases hg : byteAt p 6 ≠ 0 ∧ s.fw.wireMin ≤ byteAt p 6
  · rw [if_pos hg, if_pos (by simpa [g] using hg), (keepsLinks_linkUp _ _).lk, lk_setLkWork, lk_setLk_self _ (handleIdx_lt h)]
    rfl
  · rw [if_neg hg, if_neg (by simpa [g] using hg)]
    exact lk_state_linkDown v (handleIdx_lt h) (by decide)

/-! ## Keepalive and channel map (R285, R289) -/

theorem completes_keepalive (hcom : s.comUp = true) (hh : s.hears h = true) (hz : byteAt p 1 = 0)
    (hop : byteAt p 0 = 8) (hl : 6 ≤ p.length) : Completes (.keepalive h ended p) s fun t =>
      t.lk (handleIdx h) 0x20 8 = ended % 2 ^ 64 ∧ (t.lkWork (handleIdx h)).heard = true
      ∧ t.lkState (handleIdx h) = s.lkState (handleIdx h) := by
  refine completes_of_heard rfl hcom hh hop hz hl fun u hu => ?_
  have hk : KeepsLinks u (u.followerAnswer (handleIdx h) ended) := (KeepsLinks.refl u).followerAnswer
  exact ⟨(hk.lk _ _ _).trans hu.last, (congrArg LinkWork.heard (hk.lkWork _)).trans hu.heard,
    (hk.lkState _).trans hu.lkState⟩

theorem completes_chmap (hcom : s.comUp = true) (hh : s.hears h = true) (hz : byteAt p 1 = 0)
    (hop : byteAt p 0 = 7) (hl : 30 ≤ p.length) (hf : s.lkLeader (handleIdx h) = false)
    (hst : s.lkState (handleIdx h) = 2) : Completes (.chmap h ended p) s fun t =>
      (t.lkWork (handleIdx h)).mapStaged = true ∧ t.lk (handleIdx h) 0x54 4 = leAt p 6 4
      ∧ t.lk (handleIdx h) 0x58 20 = leAt p 10 20 := by
  refine completes_of_heard rfl hcom hh hop hz hl fun u hu => ?_
  have hi := handleIdx_lt h
  extract_lets i v w
  rw [if_neg (by simp [i, hu.lkLeader, hf, hu.lkState, hst])]
  refine ⟨?_, ?_, ?_⟩
  · rw [(KeepsLinks.refl _).followerAnswer.lkWork, lkWork_setLkWork_self]
  · rw [(KeepsLinks.refl _).followerAnswer.lk, lk_setLkWork, lk_setLk_apart _ (by decide), lk_setLk_self _ hi]
    exact Nat.mod_eq_of_lt (leAt_lt p 6 4)
  · rw [(KeepsLinks.refl _).followerAnswer.lk, lk_setLkWork, lk_setLk_self _ hi]
    exact Nat.mod_eq_of_lt (leAt_lt p 10 20)

/-! ## Role swaps (R290, R291) -/

/-- A swap that is agreed is marked for its event, and this end's request is over. -/
theorem agreeSwap_shows (s : State) (hi : i < 1024) (e : Nat) :
    (s.agreeSwap i e).lkWork i = { s.lkWork i with asking := false, swapping := true }
      ∧ (s.agreeSwap i e).lkSwapevt i = e % 2 ^ 32 ∧ bitAt ((s.agreeSwap i e).lk i 3 1) 3 = true := by
  unfold State.agreeSwap
  extract_lets w x y
  have hk : KeepsLinks x y := (KeepsLinks.refl x).setLcps
  refine ⟨?_, ?_, ?_⟩
  · rw [lkWork_setLk, lkWork_setLk, hk.lkWork, lkWork_setLkWork_self]
  · rw [State.lkSwapevt, lk_setLk_apart _ (by decide)]
    exact lk_setLk_self y hi e
  · rw [lk_setLk_self _ hi, Nat.pow_one, bitAt_mod_byte _ (by decide : 3 < 8), bitAt_setBitsOf_one, if_pos rfl]
    rfl

theorem regN_notice (s : State) {a : Nat} (code : Nat) (payload : List Byte) (hc : a ≠ A.hslCtr 6)
    (hi : a ≠ A.hslIntstat) : (s.notice code payload).regN a = s.regN a := by
  have hdrop : (s.dropNotice code).regN a = s.regN a := by
    unfold State.dropNotice
    extract_lets u
    have hu : u.regN a = s.regN a := (State.regN_setRegN_ne _ _ hi).trans (State.regN_setRegN_ne _ _ hc)
    split
    · exact hu
    · split
      · exact hu
      · exact hu
  unfold State.notice
  split
  · rfl
  · exact hdrop

/-- A request of this end that ends without a swap is told, and its mark is gone. -/
theorem endAsk_shows (s : State) (hi : i < 1024) (st : Status) :
    (s.endAsk i st).lkWork i = { s.lkWork i with asking := false }
      ∧ (s.endAsk i st).flag F.tntIntstatSwapdone = true ∧ bitAt ((s.endAsk i st).lk i 3 1) 3 = false := by
  unfold State.endAsk
  extract_lets w x y z v
  have hv : KeepsLinks y ((v.raise F.tntIntstatSwapdone).swapNotice i st) :=
    (KeepsLinks.ite (KeepsLinks.refl y).setLcps.raise (KeepsLinks.refl y).setLcps).raise.swapNotice
  refine ⟨?_, ?_, ?_⟩
  · rw [hv.lkWork, lkWork_setLk, lkWork_setLkWork_self]
  · unfold State.swapNotice
    rw [State.flag, State.fld, regN_notice _ _ _ (by decide) (by decide)]
    exact flag_raise_at v
  · rw [hv.lk, lk_setLk_self _ hi, Nat.pow_one, bitAt_mod_byte _ (by decide : 3 < 8), bitAt_setBitsOf_one, if_pos rfl]
    rfl

theorem completes_swapReq (hcom : s.comUp = true) (hh : s.hears h = true) (hz : byteAt p 1 = 0)
    (hop : byteAt p 0 = 5) (hl : 12 ≤ p.length) (hask : (s.lkWork (handleIdx h)).asking = false)
    (hswap : (s.lkWork (handleIdx h)).swapping = false) (hst : s.lkState (handleIdx h) = 2)
    (hev : evAfter (s.lkEvcnt (handleIdx h)) ((leAt p 8 4 + 2 ^ 32 - 2) % 2 ^ 32) = false) :
    Completes (.swapReq h ended p) s fun t =>
      (t.lkWork (handleIdx h)).swapping = true ∧ t.lkSwapevt (handleIdx h) = leAt p 8 4
      ∧ bitAt (t.lk (handleIdx h) 3 1) 3 = true := by
  refine completes_of_heard rfl hcom hh hop hz hl fun u hu => ?_
  extract_lets i roll e w mine
  have hwa : w.asking = false := hu.asking.trans hask
  have hws : w.swapping = false := hu.swapping.trans hswap
  have hk : KeepsLinks (u.agreeSwap i e) ((u.agreeSwap i e).swapAnswer i ended e .ok) := (KeepsLinks.refl _).swapAnswer
  obtain ⟨hwork, hevt, hbit⟩ := agreeSwap_shows u (handleIdx_lt h) e
  rw [if_neg (by simp [hwa]), if_neg (by simp [hws]), if_pos (by rw [hu.lkState, hst, hu.lkEvcnt, hev]; rfl)]
  refine ⟨?_, ?_, ?_⟩
  · rw [hk.lkWork, hwork]
  · rw [State.lkSwapevt, hk.lk]
    exact hevt.trans (Nat.mod_eq_of_lt (leAt_lt p 8 4))
  · rw [hk.lk, hbit]

theorem completes_swapRsp (hcom : s.comUp = true) (hh : s.hears h = true) (hz : byteAt p 1 = 0)
    (hop : byteAt p 0 = 6) (hl : 12 ≤ p.length) (hask : (s.lkWork (handleIdx h)).asking = true)
    (hev : leAt p 8 4 = s.lkSwapevt (handleIdx h)) : Completes (.swapRsp h ended p) s fun t =>
      (t.lkWork (handleIdx h)).asking = false
      ∧ (leAt p 6 2 = Status.ok.code → (t.lkWork (handleIdx h)).swapping = true ∧ t.lkSwapevt (handleIdx h) = leAt p 8 4)
      ∧ (leAt p 6 2 ≠ Status.ok.code →
          t.flag F.tntIntstatSwapdone = true ∧ bitAt (t.lk (handleIdx h) 3 1) 3 = false) := by
  refine completes_of_heard rfl hcom hh hop hz hl fun u hu => ?_
  have hi := handleIdx_lt h
  dsimp only
  rw [if_pos (by rw [hu.asking, hask, hu.lkSwapevt, hev]; simp)]
  by_cases hok : leAt p 6 2 = Status.ok.code
  · obtain ⟨hwork, hevt, -⟩ := agreeSwap_shows u hi (u.lkSwapevt (handleIdx h))
    rw [if_pos (by simp [hok])]
    refine ⟨by rw [hwork], fun _ => ⟨by rw [hwork], hevt.trans ?_⟩, fun hno => absurd hok hno⟩
    rw [hu.lkSwapevt, hev]
    exact Nat.mod_eq_of_lt (lk_lt s _ 0x30 4)
  · obtain ⟨hwork, hflag, hbit⟩ := endAsk_shows u hi .missed
    rw [if_neg (by simp [hok])]
    exact ⟨by rw [hwork], fun h => absurd h hok, fun _ => ⟨hflag, hbit⟩⟩

/-! ## Link events (R285, R289-R292) -/

/-- `t` comes from `s` by the work of an event of link `i`: it writes the role, the flags, the map in force and the
counters of the context, and neither its STATE nor its timing; a request of this end goes on. -/
structure EventWork (s : State) (i : Nat) (t : State) : Prop where
  lk : ∀ {off k}, (off = 2 ∧ k = 1) ∨ (4 ≤ off ∧ off + k ≤ 0x40) → t.lk i off k = s.lk i off k
  asking : (t.lkWork i).asking = (s.lkWork i).asking
  bytes : s.writesContext t i

namespace EventWork

theorem refl (s : State) (i : Nat) : EventWork s i s := ⟨fun _ => rfl, rfl, writesContext_self s i⟩

theorem ite {c : Prop} [Decidable c] (ht : EventWork s i t) (hu : EventWork s i u) :
    EventWork s i (if c then t else u) := by
  split
  · exact ht
  · exact hu

theorem keepsLinks (ht : EventWork s i t) (hk : KeepsLinks t u) : EventWork s i u :=
  ⟨fun h => (hk.lk ..).trans (ht.lk h), (congrArg LinkWork.asking (hk.lkWork i)).trans ht.asking, ht.bytes.keepsLinks hk⟩

theorem setLk (ht : EventWork s i t) (h : (3 ≤ off ∧ off + k ≤ 4) ∨ (0x40 ≤ off ∧ off + k ≤ 256) := by decide) :
    EventWork s i (t.setLk i off k v) :=
  ⟨fun h' => (lk_setLk_apart t (by omega)).trans (ht.lk h'), (congrArg LinkWork.asking (lkWork_setLk ..)).trans ht.asking,
    ht.bytes.setLk (by omega)⟩

theorem setLkWork (ht : EventWork s i t) {x : LinkWork} (hx : x.asking = (t.lkWork i).asking) :
    EventWork s i (t.setLkWork i x) :=
  ⟨fun h => (lk_setLkWork ..).trans (ht.lk h), ((congrArg LinkWork.asking (lkWork_setLkWork_self ..)).trans hx).trans ht.asking,
    ht.bytes.setLkWork⟩

theorem lkCount (ht : EventWork s i t) {n : Nat} (hn : n < 8) : EventWork s i (t.lkCount i n) := ht.setLk (by omega)

theorem eventTally (ht : EventWork s i t) : EventWork s i (t.eventTally i) := by
  unfold State.eventTally
  extract_lets w u n flip v
  have hu : EventWork s i u := .ite (ht.lkCount (by decide)) ht
  have hask : w.asking = (u.lkWork i).asking := by
    refine congrArg LinkWork.asking (Eq.symm ?_)
    unfold u
    split
    · exact lkWork_setLk ..
    · rfl
  have hv : EventWork s i v := hu.setLkWork hask
  refine .ite ?_ hv
  exact ((hv.setLk).lkCount (by decide)).keepsLinks (KeepsLinks.refl _).raise

theorem eventEffects (ht : EventWork s i t) : EventWork s i (t.eventEffects i) := by
  unfold State.eventEffects
  extract_lets a b u v w x
  have hb : EventWork s i b := (ht.setLk).setLkWork (congrArg LinkWork.asking (lkWork_setLk ..)).symm
  have hu : EventWork s i u := .ite (hb.keepsLinks (KeepsLinks.refl b).setLcps) ht
  have hx : EventWork s i x := (hu.setLkWork (x := { w with swapping := false }) rfl).setLk
  exact .ite ((hx.lkCount (by decide)).keepsLinks (KeepsLinks.refl _).raise.swapNotice) hu

theorem lkState_eq (h : EventWork s i t) : t.lkState i = s.lkState i := congrArg (· % 16) (h.lk (.inl ⟨rfl, rfl⟩))

end EventWork

/-- An event of an UP link advances its counter and its anchor (R285). -/
theorem linkEvent_of_up (hi : i < 1024) (hst : s.lkState i = 2) (hask : (s.lkWork i).asking = false) :
    let t := s.linkEvent i
    t.lkEvcnt i = (s.lkEvcnt i + 1) % 2 ^ 32 ∧ t.lkAnchor i = (s.lkAnchor i + 40 * s.lkInterval i) % 2 ^ 64
      ∧ t.lkState i = 2 ∧ (t.lkWork i).placed = false ∧ s.writesContext t i := by
  unfold State.linkEvent
  extract_lets a b c d e f x t
  have hb : EventWork s i b := (EventWork.refl s i).eventTally
  have hd : EventWork s i d := hb.eventEffects.lkCount (by split <;> decide)
  have hup : b.givenUp i = false := by simp [State.givenUp, hb.lkState_eq, hst]
  have hx : (x.lkWork i).asking = false := by
    rw [lkWork_setLkWork_self]
    change (e.lkWork i).asking = false
    rw [lkWork_setLk, lkWork_setLk, hd.asking, hask]
  have ht : t = x := by
    unfold t
    rw [if_neg (by simp [hup]), if_neg (by simp [hx])]
  have hev : d.lk i 0x28 4 = s.lkEvcnt i := hd.lk (by decide)
  have hanchor : d.lk i 0x18 8 = s.lkAnchor i := hd.lk (by decide)
  have hint : d.lk i 0x14 4 = s.lkInterval i := hd.lk (by decide)
  rw [ht]
  refine ⟨?_, ?_, ?_, ?_, hd.bytes.setLk.setLk.setLkWork⟩
  · rw [State.lkEvcnt, lk_setLkWork, lk_setLk_apart _ (by decide), lk_setLk_self d hi, State.lkEvcnt, hev]
    rfl
  · rw [State.lkAnchor, lk_setLkWork, lk_setLk_self _ hi, State.lkAnchor, State.lkInterval, hanchor, hint]
    rfl
  · rw [lkState_setLkWork, State.lkState, lk_setLk_apart _ (by decide), lk_setLk_apart d (by decide)]
    exact hd.lkState_eq.trans hst
  · rw [lkWork_setLkWork_self]

theorem completes_linkEvent (hcom : s.comUp = true) (hi : i < 1024) (hst : s.lkState i = 2) (hint : s.lkInterval i ≠ 0)
    (hanchor : s.lkAnchor i ≤ s.tb.now) (hask : (s.lkWork i).asking = false) : Completes (.linkEvent i) s fun t =>
      t.lkEvcnt i = (s.lkEvcnt i + 1) % 2 ^ 32 ∧ t.lkAnchor i = (s.lkAnchor i + 40 * s.lkInterval i) % 2 ^ 64
      ∧ t.lkState i = 2 ∧ (t.lkWork i).placed = false ∧ s.writesContext t i :=
  ⟨s.linkEvent i, congrArg Host.Outcome.next (if_pos (by simp [hcom, hi, hst, hint, hanchor])), linkEvent_of_up hi hst hask⟩

/-- A silent link goes DOWN with reason 3 (R287). -/
theorem completes_supervisionTimeout (hcom : s.comUp = true) (hi : i < 1024) (hst : s.lkState i = 2)
    (hrun : s.tb.run ≠ .stopped) (hsync : s.pastSync (chainOf (s.lkChain i)) = false)
    (hlate : s.lk i 0x20 8 + 40000 * s.lk i 0x2C 4 < s.tb.now) :
    Completes (.supervisionTimeout i) s fun t => t.lk i 2 1 = 4 + 16 * 3 :=
  ⟨s.linkDown i 3, congrArg Host.Outcome.next (if_pos (by simp [hcom, hi, hst, hrun, hsync, hlate])),
    lk_state_linkDown s hi (by decide)⟩

/-! ## The obligation -/

/-- Settles O36: a frame that is heard is handled in the context that hearing it leaves; an event of an UP link counts. -/
theorem linkControlFrames : Obligations.LinkControlFrames := by
  refine fun s hcom => ⟨fun h ended p hh hz => ⟨fun stamp hop hl => completes_openCmd hcom hh hz hop hl,
    fun hop hl => completes_openAck hcom hh hz hop hl, fun hop hl => ?_, fun hop hl hst => ?_,
    fun hop hl => completes_keepalive hcom hh hz hop hl, fun hop hl => completes_chmap hcom hh hz hop hl,
    fun hop hl => completes_swapReq hcom hh hz hop hl, fun hop hl => completes_swapRsp hcom hh hz hop hl⟩,
    fun i hi hst hint => completes_linkEvent hcom hi hst hint, fun i hi hst => completes_supervisionTimeout hcom hi hst⟩
  · exact completes_of_heard rfl hcom hh hop hz hl fun u _ => lk_state_linkDown _ (handleIdx_lt h) (by decide)
  · refine completes_of_heard rfl hcom hh hop hz hl fun u hu => ?_
    rw [hu.lkState, if_pos hst]
    exact lk_state_linkDown u (handleIdx_lt h) (by decide)

end Sys2Proof.Machine
end

section
/-!
Tenants' queues and scheduling passes (R294-R297): where a posted descriptor stands, and the exchange that a pass starts
for the frame of its turn.
-/

namespace Sys2Proof.Machine

variable {s t u : State} {i n m c : Nat} {d : Desc}

/-! ## Posting a descriptor (R295, R296) -/

theorem queueOf_setQueue_self (s : State) (t c : Nat) (q : List Desc) : (s.setQueue t c q).queueOf t c = q :=
  congrArg (Option.getD · []) (Sparse.find?_insert_self ..)

theorem postDesc_of_pending {reserved jrn : Bool} (hp : s.postCode d reserved jrn = .pending)
    (hroll : bitAt d.ctag 12 = false) :
    s.postDesc d reserved jrn = (.pending, (s.setQueue (s.lkTenant (handleIdx d.link)) (s.lkChain (handleIdx d.link))
      (s.queueOf (s.lkTenant (handleIdx d.link)) (s.lkChain (handleIdx d.link)) ++ [d])).tntCount
        (s.lkTenant (handleIdx d.link)) 0 1) := by
  simp [State.postDesc, hp, hroll]

/-- A descriptor that is refused is nowhere queued: at most its tenant's counter of refusals and a flag tell of it. -/
theorem postDesc_of_refused {reserved jrn : Bool} (hp : s.postCode d reserved jrn ≠ .pending) :
    ∃ t, s.postDesc d reserved jrn = (s.postCode d reserved jrn, t) ∧ t.tnt = s.tnt ∧ s.sameMemory t := by
  unfold State.postDesc
  extract_lets st i k
  rw [if_neg hp]
  split
  · have hk : KeepsLinks s ((s.tntCount k 4 1).raise F.tntIntstatQuota) := (KeepsLinks.refl s).countBy.raise
    exact ⟨_, rfl, rfl, hk.sameMemory⟩
  · exact ⟨s, rfl, rfl, fun _ => rfl⟩

/-- QSTAT after a post: its code over the handle of the descriptor. -/
def State.qStat (s : State) (st : Status) (h : Nat) : State := s.setRegN A.tntQstat (2 ^ 16 * st.code + h)

theorem fld_result_qStat (s : State) (st : Status) {h : Nat} (hh : h < 65536) :
    (s.qStat st h).fld F.tntQstatResult = st.code := by
  have hst := status_code_lt st
  change bitsOf ((s.qStat st h).regN A.tntQstat) 16 16 = _
  rw [State.qStat, State.regN_setRegN_self]
  unfold bitsOf
  omega

theorem fld_handle_qStat (s : State) (st : Status) {h : Nat} (hh : h < 65536) :
    (s.qStat st h).fld F.tntQstatHandle = h := by
  change bitsOf ((s.qStat st h).regN A.tntQstat) 0 16 = _
  rw [State.qStat, State.regN_setRegN_self]
  unfold bitsOf
  omega

theorem link_parse_lt (b : List Byte) : (Desc.parse b).link < 65536 := leAt_lt b 0 2

theorem exec_qpost {w : Word} (hcom : s.comUp = true) (hw : w.toNat % 8 = 0) :
    let b := s.bytes (w.toNat / 8 * 8) 16
    let r := s.postDesc (Desc.parse b) (descReserved b) false
    exec (.qpost false w) s = .next (r.2.qStat r.1 (Desc.parse b).link) := by
  intro b r
  change Host.Outcome.next _ = _
  have hres : (descReserved b || w.toNat % 8 != 0) = descReserved b := by rw [hw]; simp
  rw [if_pos hcom]
  dsimp only
  rw [hres]
  rfl

/-! ## Actions of the engine (R248, R297) -/

/-- A record that is written changes registers alone. -/
theorem putRecord_eq (s : State) (n : Nat) (ws : List Nat) : ∃ regs, s.putRecord n ws = { s with regs := regs } := by
  unfold State.putRecord
  generalize ws.zip (List.range 8) = l
  induction l generalizing s with
  | nil => exact ⟨_, rfl⟩
  | cons p l ih =>
    obtain ⟨regs, h⟩ := ih (s.setRegN (A.lnkAction (8 * n + p.2)) p.1)
    exact ⟨regs, h⟩

theorem submitTx_eq (s : State) (n : Nat) (d : Desc) (start : Option Nat) (freq : Nat) :
    ∃ regs lnk, s.submitTx n d start freq = { s with regs := regs, lnk := lnk } := by
  unfold State.submitTx
  extract_lets i c t w0 time w4 w6 u
  obtain ⟨regs, h⟩ := putRecord_eq s n [w0, time % 2 ^ 32, time / 2 ^ 32, freq, w4, d.buf, w6, 2 ^ 20 + d.ctag % 4096]
  have hu : u = { s with regs := regs } := h
  rw [hu]
  exact ⟨_, _, rfl⟩

theorem submitRx_eq (s : State) (n i us : Nat) (anchor : Option Nat) (start : Nat) :
    ∃ regs lnk, s.submitRx n i us anchor start = { s with regs := regs, lnk := lnk } := by
  unfold State.submitRx
  extract_lets c t w0 time u
  obtain ⟨regs, h⟩ := putRecord_eq s n
    [w0, time % 2 ^ 32, time / 2 ^ 32, s.lkFreq i, 2 ^ 16 * t + s.lkHandle i, 0, us % 2 ^ 24, 0]
  have hu : u = { s with regs := regs } := h
  rw [hu]
  exact ⟨_, _, rfl⟩

/-- The first word of a record. -/
theorem actW_zero_putRecord (s : State) (n a b c d e f g h : Nat) :
    (s.putRecord n [a, b, c, d, e, f, g, h]).actW n 0 = a % 2 ^ 32 := by
  have hne : ∀ k, k ≠ 0 → A.lnkAction (8 * n + 0) ≠ A.lnkAction (8 * n + k) := fun k hk => by
    unfold A.lnkAction
    omega
  have hlist : [a, b, c, d, e, f, g, h].zip (List.range 8)
      = [(a, 0), (b, 1), (c, 2), (d, 3), (e, 4), (f, 5), (g, 6), (h, 7)] := rfl
  simp only [State.actW, State.putRecord, hlist, List.foldl_cons, List.foldl_nil]
  rw [State.regN_setRegN_ne _ _ (hne 7 (by decide)), State.regN_setRegN_ne _ _ (hne 6 (by decide)),
    State.regN_setRegN_ne _ _ (hne 5 (by decide)), State.regN_setRegN_ne _ _ (hne 4 (by decide)),
    State.regN_setRegN_ne _ _ (hne 3 (by decide)), State.regN_setRegN_ne _ _ (hne 2 (by decide)),
    State.regN_setRegN_ne _ _ (hne 1 (by decide)), State.regN_setRegN_self]

theorem slot_acceptAction_ne (s : State) {m n : Nat} (own : Option (List Byte)) (h : m ≠ n) :
    (s.acceptAction n own).slot m = s.slot m :=
  congrArg (Option.getD · _) (Sparse.find?_insert_ne _ _ h)

/-- The engine's frames are no LEARN actions: their slot is PENDING (R248). -/
theorem slot_submitTx (s : State) (n : Nat) (d : Desc) (start : Option Nat) (freq : Nat) :
    ((s.submitTx n d start freq).slot n).state = 1 := by
  unfold State.submitTx
  extract_lets i c t w0 time w4 w6 u
  have hpri : s.priBit t c = 0 ∨ s.priBit t c = 0x20 := by
    unfold State.priBit
    split
    · exact .inr rfl
    · exact .inl rfl
  have hring : bitsOf d.flags 4 2 < 4 := bitsOf_lt ..
  have hchain : c < 2 := Nat.mod_lt _ (by decide)
  have hlow : ∃ r, w0 = 2 ^ 16 * s.lkMode i + r ∧ r < 2 ^ 15 := by
    refine ⟨(if bitAt d.flags 2 then 0 else 2 ^ 14) + 2 ^ 10 * bitsOf d.flags 4 2
      + (if start.isSome then 0 else 2 ^ 9) + s.priBit t c + 16 * c + 1, ?_, ?_⟩
    · unfold w0
      omega
    · split <;> split <;> omega
  obtain ⟨r, hw0, hr⟩ := hlow
  have hlg : (u.act n).lg = false := by
    change bitAt (u.actW n 0) 15 = false
    rw [actW_zero_putRecord, hw0]
    rw [bitAt, beq_eq_false_iff_ne]
    omega
  rw [slot_acceptAction, hlg]
  rfl

theorem slot_submitRx_ne (s : State) {m n : Nat} (i us : Nat) (anchor : Option Nat) (start : Nat) (h : m ≠ n) :
    (s.submitRx n i us anchor start).slot m = s.slot m := by
  unfold State.submitRx
  extract_lets c t w0 time u
  obtain ⟨regs, hr⟩ := putRecord_eq s n
    [w0, time % 2 ^ 32, time / 2 ^ 32, s.lkFreq i, 2 ^ 16 * t + s.lkHandle i, 0, us % 2 ^ 24, 0]
  have hu : u = { s with regs := regs } := hr
  rw [slot_acceptAction_ne u none h, hu]
  rfl

/-! ## Exchanges (R297) -/

/-- EVCNT of one context does not reach into another's INTERVAL. -/
theorem lkInterval_setLk_evcnt (s : State) (i j v : Nat) : (s.setLk i 0x28 4 v).lkInterval j = s.lkInterval j := by
  refine congrArg leNat (bytes_congr fun b hl hu => State.byte_setBytes_outside s _ ?_)
  unfold lkAddr at *
  rw [length_leBytes]
  omega

/-- `t` is `s` with a frame submitted in slot `n`: registers, the link controller and EVCNT changed, INTERVAL of no
link. -/
structure Submitted (s : State) (n : Nat) (t : State) : Prop where
  rest : t = { s with regs := t.regs, lnk := t.lnk, ram := t.ram }
  slot : (t.slot n).state = 1
  interval : ∀ j, t.lkInterval j = s.lkInterval j

namespace Submitted

theorem tnt (h : Submitted s n t) : t.tnt = s.tnt := by rw [h.rest]

theorem board (h : Submitted s n t) : t.board = s.board := by rw [h.rest]

theorem submitTx (s : State) (n : Nat) (d : Desc) (start : Option Nat) (freq : Nat) :
    Submitted s n (s.submitTx n d start freq) := by
  have hslot := slot_submitTx s n d start freq
  obtain ⟨regs, lnk, hx⟩ := submitTx_eq s n d start freq
  rw [hx] at hslot ⊢
  exact ⟨rfl, hslot, fun _ => rfl⟩

theorem submitRx (h : Submitted s n t) (hnm : n ≠ m) {us start : Nat} {anchor : Option Nat} :
    Submitted s n (t.submitRx m i us anchor start) := by
  have hslot := slot_submitRx_ne t i us anchor start hnm
  obtain ⟨regs, lnk, hx⟩ := submitRx_eq t m i us anchor start
  rw [hx] at hslot ⊢
  exact ⟨congrArg (fun u : State => { u with regs := regs, lnk := lnk }) h.rest,
    (congrArg Slot.state hslot).trans h.slot, h.interval⟩

theorem evcnt (h : Submitted s n t) {v : Nat} : Submitted s n (t.setLk i 0x28 4 v) := by
  have hint := lkInterval_setLk_evcnt t i (v := v)
  obtain ⟨ram, hx⟩ := setLk_eq t i 0x28 4 v
  rw [hx] at hint ⊢
  exact ⟨congrArg (fun u : State => { u with ram := ram }) h.rest, h.slot, fun j => (hint j).trans (h.interval j)⟩

end Submitted

/-- An exchange that starts holds the first free slot and its chain. -/
theorem startExchange_eq {rest : List Nat} (start reply : Option Nat) (event : Bool) (hs : s.tntSlots = n :: m :: rest)
    (hnm : n ≠ m) : ∃ u f, Submitted s n u
      ∧ s.startExchange d start reply event = u.setFlight (s.lkChain (handleIdx d.link)) f
      ∧ f.desc = some d ∧ f.txSlot = some n ∧ f.link = d.link := by
  unfold State.startExchange
  rw [hs]
  extract_lets i c x
  dsimp -zeta only
  extract_lets u v w
  have hu : Submitted s n u := .submitTx ..
  have hv : Submitted s n v := by
    cases reply with
    | none => exact hu
    | some us => exact hu.submitRx hnm
  have hw : Submitted s n w := by
    unfold w
    split
    · exact hv.evcnt
    · exact hv
  exact ⟨w, _, hw, rfl, rfl, rfl, rfl⟩

theorem nodup_tntSlots (s : State) : s.tntSlots.Nodup := by
  refine List.Nodup.filter _ (List.Nodup.map (fun a b h => ?_) List.nodup_range)
  simpa using h

/-! ## Scheduling passes (R297) -/

/-- With no frame of the tunnel to send, nothing is posted. -/
theorem postTunnel_of_none (h : s.hsl.tunOut = []) : s.postTunnel = s := by
  unfold State.postTunnel
  rw [h]
  exact congrArg (fun l => { s with hsl := { s.hsl with tunOut := l } }) h.symm

/-- With no express tenant on a chain, nothing is withdrawn there. -/
theorem withdraw_of_none (h : s.expressOf c = none) : s.withdraw c = s := by
  unfold State.withdraw
  rw [h]

theorem eventDue_of_unscheduled (h : s.lkInterval i = 0) : s.eventDue c i = false := by
  simp [State.eventDue, h]

/-- Links without a schedule have no events. -/
theorem nextEvent_of_unscheduled (h : ∀ i ∈ s.liveLinks, s.lkInterval i = 0) : s.nextEvent c = none := by
  have hnone : s.liveLinks.filter (s.eventDue c) = [] :=
    List.filter_eq_nil_iff.2 fun i hi => by simp [eventDue_of_unscheduled (h i hi)]
  unfold State.nextEvent
  rw [hnone]
  rfl

/-- Nothing comes before the round robin on a chain: no exchange, no express frame, no event, no link-control frame. -/
structure Idle (s : State) (c : Nat) : Prop where
  flight : s.flight c = none
  express : s.expressOf c = none
  unscheduled : ∀ i ∈ s.liveLinks, s.lkInterval i = 0
  lcps : s.tnt.lcps = []

theorem expressOf_of_board (h : t.board = s.board) (c : Nat) : t.expressOf c = s.expressOf c := by
  unfold State.expressOf State.tntExpress State.tntExists State.tntCfg State.cfg
  rw [h]

/-- The frame that the round robin chooses starts an exchange out of its tenant's queue. -/
theorem choose_of_robin (h : Idle s c) (hr : s.roundRobin c = (some d, t)) :
    s.choose c = ((t.setQueue (t.lkTenant (handleIdx d.link)) c
      ((t.queueOf (t.lkTenant (handleIdx d.link)) c).drop 1)).startExchange d none (t.replyOf d) false) := by
  simp [State.choose, h.flight, h.express, nextEvent_of_unscheduled h.unscheduled, State.looseLcp, h.lcps, hr]

theorem choose_of_none (h : Idle s c) (hr : s.roundRobin c = (none, s)) : s.choose c = s := by
  simp [State.choose, h.flight, h.express, nextEvent_of_unscheduled h.unscheduled, State.looseLcp, h.lcps, hr]

/-- With every queue of a chain empty the round robin chooses nothing. -/
theorem roundRobin_of_empty (h : ∀ k, k < 8 → s.queueOf k c = []) : s.roundRobin c = (none, s) := by
  have hel : ∀ k, k < 8 → s.eligible k c = none := fun k hk => by simp [State.eligible, h k hk]
  have hall : ((List.range 8).filter (fun t => s.tntExists t && !s.tntExpress t c)).filterMap
      (fun t => (s.eligible t c).map (fun d => (t, d))) = [] := by
    refine List.filterMap_eq_nil_iff.2 fun k hk => ?_
    rw [hel k (List.mem_range.1 (List.mem_of_mem_filter hk))]
    rfl
  unfold State.roundRobin
  simp only [hall]
  rfl

/-- Deficits alone differ. -/
def State.sameButDeficits (s t : State) : Prop := t = { s with tnt := { s.tnt with deficit := t.tnt.deficit } }

theorem State.sameButDeficits.setDeficit (h : s.sameButDeficits t) (x : List (Nat × Nat)) :
    s.sameButDeficits { t with tnt := { t.tnt with deficit := x } } := by
  unfold State.sameButDeficits at h ⊢
  rw [h]

theorem sameButDeficits_foldl {β : Type} {f : State → β → State} (l : List β)
    (hf : ∀ t b, s.sameButDeficits t → s.sameButDeficits (f t b)) (h : s.sameButDeficits t) :
    s.sameButDeficits (l.foldl f t) := by
  induction l generalizing t with
  | nil => exact h
  | cons b l ih => exact ih (hf t b h)

/-- The round robin changes deficits alone. -/
theorem sameButDeficits_roundRobin (s : State) (c : Nat) : s.sameButDeficits (s.roundRobin c).2 := by
  unfold State.roundRobin
  extract_lets all under past l best
  clear_value best
  split
  · exact rfl
  · exact sameButDeficits_foldl l (fun t p h => h.setDeficit _) rfl

section
variable {f : Flight} {k : Nat} {q : List Desc}

/-- An exchange that begins on chain 0 leaves chain 1 as idle as it was. -/
theorem idle_one_setFlight (hu : Submitted (s.setQueue k 0 q) n u) (hfl : s.tnt.flights = []) (hlcp : s.tnt.lcps = [])
    (h1 : s.expressOf 1 = none) (hlive : ∀ i ∈ s.liveLinks, s.lkInterval i = 0) : Idle (u.setFlight 0 f) 1 := by
  have htnt := hu.tnt
  refine ⟨?_, (expressOf_of_board hu.board 1).trans h1, fun i hi => ?_, ?_⟩
  · change Sparse.find? (Sparse.insert u.tnt.flights 0 f) 1 = none
    rw [Sparse.find?_insert_ne _ _ (by decide), htnt]
    change Sparse.find? s.tnt.flights 1 = none
    rw [hfl]
    rfl
  · have hi' : i ∈ s.liveLinks := by
      change i ∈ u.tnt.work.map Prod.fst at hi
      rw [htnt] at hi
      exact hi
    exact (hu.interval i).trans (hlive i hi')
  · change u.tnt.lcps = []
    rw [htnt]
    exact hlcp

/-- A queue of chain 0 is none of chain 1. -/
theorem queueOf_one_setFlight (hu : Submitted (s.setQueue k 0 q) n u) (j : Nat) :
    (u.setFlight 0 f).queueOf j 1 = s.queueOf j 1 := by
  change (Sparse.find? u.tnt.queues (2 * j + 1)).getD [] = _
  rw [hu.tnt]
  change (Sparse.find? (Sparse.insert s.tnt.queues (2 * k + 0) q) (2 * j + 1)).getD [] = _
  rw [Sparse.find?_insert_ne _ _ (by omega)]
  rfl

end

/-- A pass in which the round robin of chain 0 chooses a frame, and nothing comes before it (R297). -/
theorem completes_schedulingPass {rest : List Nat} (hcom : s.comUp = true) (hrun : s.running = true)
    (hq : s.tb.now % s.quantum = 0) (hout : s.hsl.tunOut = []) (hfl : s.tnt.flights = []) (hlcp : s.tnt.lcps = [])
    (h0 : s.expressOf 0 = none) (h1 : s.expressOf 1 = none)
    (hlive : ∀ i ∈ s.liveLinks, s.lkInterval i = 0) (hempty : ∀ k, k < 8 → s.queueOf k 1 = [])
    (hr : s.roundRobin 0 = (some d, t)) (hchain : s.lkChain (handleIdx d.link) = 0)
    (hslots : s.tntSlots = n :: m :: rest) : Completes .schedulingPass s fun t =>
      (∃ f, t.flight 0 = some f ∧ f.desc = some d ∧ f.txSlot = some n ∧ f.link = d.link) ∧ t.flight 1 = none
      ∧ (t.slot n).state = 1 := by
  have hnm : n ≠ m := by
    have hnodup := nodup_tntSlots s
    rw [hslots] at hnodup
    intro he
    simp [he] at hnodup
  have hdef : s.sameButDeficits t := by
    have h := sameButDeficits_roundRobin s 0
    rwa [hr] at h
  have hidle : Idle s 0 := ⟨by rw [State.flight, hfl]; rfl, h0, hlive, hlcp⟩
  have hchoose := choose_of_robin hidle hr
  have hslots' : (t.setQueue (t.lkTenant (handleIdx d.link)) 0
      ((t.queueOf (t.lkTenant (handleIdx d.link)) 0).drop 1)).tntSlots = n :: m :: rest := by
    rw [hdef]
    exact hslots
  obtain ⟨u, f, hu, heq, hd, htx, hl⟩ := startExchange_eq (d := d) none (t.replyOf d) false hslots' hnm
  have hchain' : (t.setQueue (t.lkTenant (handleIdx d.link)) 0
      ((t.queueOf (t.lkTenant (handleIdx d.link)) 0).drop 1)).lkChain (handleIdx d.link) = 0 := by
    rw [hdef]
    exact hchain
  rw [heq, hchain'] at hchoose
  rw [hdef] at hu
  have hidle1 : Idle (u.setFlight 0 f) 1 := idle_one_setFlight hu hfl hlcp h1 hlive
  have hnone : (u.setFlight 0 f).choose 1 = u.setFlight 0 f :=
    choose_of_none hidle1 (roundRobin_of_empty fun k hk => (queueOf_one_setFlight hu k).trans (hempty k hk))
  have hpass : s.pass = u.setFlight 0 f := by
    simp only [State.pass, List.foldl_cons, List.foldl_nil]
    rw [postTunnel_of_none hout, withdraw_of_none h0, hchoose, withdraw_of_none hidle1.express, hnone]
  refine ⟨_, congrArg Host.Outcome.next ((if_pos (by simp [hcom, hrun, hq])).trans hpass), ⟨f, ?_, hd, htx, hl⟩,
    hidle1.flight, hu.slot⟩
  exact Sparse.find?_insert_self ..

/-! ## The obligation -/

/-- Settles O37: a descriptor stands where it is posted, and with nothing before it the round robin's frame is sent. -/
theorem tenantQueues : Obligations.TenantQueues := by
  refine fun s hcom => ⟨fun w hw => ?_, fun d t n m rest hrun hq hout hfl hlcp h0 h1 hlive hempty hr hchain hslots =>
    completes_schedulingPass hcom hrun hq hout hfl hlcp h0 h1 (fun i hi => (hlive i hi).1) hempty hr hchain hslots⟩
  intro b d i
  refine ⟨fun hp hroll => ?_, fun hp => ?_⟩
  · have hx := exec_qpost hcom hw
    dsimp only at hx
    rw [postDesc_of_pending hp hroll] at hx
    refine ⟨_, hx, queueOf_setQueue_self .., fld_result_qStat _ _ (link_parse_lt b), fld_handle_qStat _ _ (link_parse_lt b),
      KeepsLinks.sameMemory ?_⟩
    exact ((KeepsLinks.refl s).setQueue.countBy).setRegN
  · obtain ⟨t, ht, htnt, hmem⟩ := postDesc_of_refused hp
    have hx := exec_qpost hcom hw
    dsimp only at hx
    rw [ht] at hx
    exact ⟨_, hx, htnt, fld_result_qStat _ _ (link_parse_lt b), fun a => hmem a⟩

end Sys2Proof.Machine
end

section
/-!
What goes on beside network time: the event fabric, interrupts, snapshots and notices (R381, R506-R530, R547) leave the
registers of NTM and of the blocks before it, the timebase, the tracker and memory alone.
-/

namespace Sys2Proof.Machine

/-- A register of NTM, of a block before it, or TMB's status: none of them is the host link's, the interrupt
controller's, the event fabric's or the snapshot's. -/
abbrev timeReg (a : Nat) : Prop := a < A.hslStat ∨ a = A.tmbStat

/-- `s` comes from `r` by events, interrupts, snapshots and notices. Each function below has one lemma, named after it,
that says so. -/
structure KeepsTime (r s : State) : Prop where
  reg : ∀ a, timeReg a → s.reg a = r.reg a
  rest : s = { r with
    regs := s.regs, free := s.free, brd := s.brd, hsl := s.hsl, icu := s.icu, evf := s.evf, snp := s.snp }

namespace KeepsTime

variable {r s t : State} {α β : Type} {c : Prop} {i : Decidable c}

theorem refl (s : State) : KeepsTime s s := ⟨fun _ _ => rfl, rfl⟩

/-! ### What is kept -/

theorem regN (h : KeepsTime r s) {a : Nat} (ha : timeReg a := by decide) : s.regN a = r.regN a := by
  unfold State.regN
  rw [h.reg a ha]

theorem fld (h : KeepsTime r s) {f : Fld} (hf : timeReg f.addr := by decide) : s.fld f = r.fld f := by
  unfold State.fld
  rw [h.regN hf]

theorem flag (h : KeepsTime r s) {f : Fld} (hf : timeReg f.addr := by decide) : s.flag f = r.flag f := by
  unfold State.flag
  rw [h.fld hf]

theorem ntm (h : KeepsTime r s) : s.ntm = r.ntm := by rw [h.rest]

theorem tnt (h : KeepsTime r s) : s.tnt = r.tnt := by rw [h.rest]

theorem rf (h : KeepsTime r s) : s.rf = r.rf := by rw [h.rest]

theorem tb (h : KeepsTime r s) : s.tb = r.tb := by rw [h.rest]

theorem sameMemory (h : KeepsTime r s) : r.sameMemory s := by
  intro a
  rw [h.rest]
  rfl

/-! ### Branches and folds -/

theorem ite (hs : KeepsTime r s) (ht : KeepsTime r t) : KeepsTime r (if c then s else t) := by
  split
  · exact hs
  · exact ht

theorem ite_fst {p q : State × β} (hp : KeepsTime r p.1) (hq : KeepsTime r q.1) :
    KeepsTime r (if c then p else q).1 := by
  split
  · exact hp
  · exact hq

theorem ite_snd {p q : β × State} (hp : KeepsTime r p.2) (hq : KeepsTime r q.2) :
    KeepsTime r (if c then p else q).2 := by
  split
  · exact hp
  · exact hq

theorem of_fst {p : State × β} {b : β} (h : KeepsTime r p.1) (e : p = (t, b)) : KeepsTime r t := by
  rw [e] at h
  exact h

theorem of_snd_snd {p : α × β × State} {a : α} {b : β} (h : KeepsTime r p.2.2) (e : p = (a, b, t)) :
    KeepsTime r t := by
  rw [e] at h
  exact h

theorem foldl {f : State → α → State} {l : List α} (h : KeepsTime r s)
    (hf : ∀ t a, a ∈ l → KeepsTime r t → KeepsTime r (f t a)) : KeepsTime r (l.foldl f s) := by
  induction l generalizing s with
  | nil => exact h
  | cons a l ih => exact ih (hf s a (.head _) h) fun t b hb => hf t b (.tail _ hb)

/-- A pass over channels or cells that gathers work. The fold goes by a name `F`, so that checking the proof does not
run the pass. -/
theorem of_foldl {F : (State × β → α → State × β) → State × β → List α → State × β}
    (hF : @List.foldl (State × β) α = F) {f : State × β → α → State × β} {l : List α} {b b' : β}
    (e : F f (s, b) l = (t, b')) (h : KeepsTime r s) (hf : ∀ p a, a ∈ l → KeepsTime r p.1 → KeepsTime r (f p a).1) :
    KeepsTime r t := by
  subst hF
  refine of_fst ?_ e
  clear e
  induction l generalizing s b with
  | nil => exact h
  | cons a l ih =>
    exact ih (s := (f (s, b) a).1) (b := (f (s, b) a).2) (hf (s, b) a (.head _) h) fun p x hx => hf p x (.tail _ hx)

theorem foldl_fst {f : State × β → α → State × β} {l : List α} {b : β} (h : KeepsTime r s)
    (hf : ∀ p a, a ∈ l → KeepsTime r p.1 → KeepsTime r (f p a).1) : KeepsTime r (l.foldl f (s, b)).1 :=
  of_foldl rfl rfl h hf

/-! ### Changes beside time -/

theorem other {free brd hsl icu evf snp} (h : KeepsTime r s) :
    KeepsTime r { s with free := free, brd := brd, hsl := hsl, icu := icu, evf := evf, snp := snp } where
  reg := h.reg
  rest := congrArg (fun u : State =>
    { u with free := free, brd := brd, hsl := hsl, icu := icu, evf := evf, snp := snp }) h.rest

theorem setReg (h : KeepsTime r s) {a : Nat} {w : Word} (ha : ¬ timeReg a := by decide) : KeepsTime r (s.setReg a w) where
  reg b hb := (State.reg_setReg_ne s w (by rintro rfl; exact ha hb)).trans (h.reg b hb)
  rest := congrArg (fun u : State => { u with regs := (s.setReg a w).regs }) h.rest

theorem setFld (h : KeepsTime r s) {f : Fld} {v : Nat} (ha : ¬ timeReg f.addr := by decide) :
    KeepsTime r (s.setFld f v) := h.setReg ha

theorem raise (h : KeepsTime r s) {f : Fld} (ha : ¬ timeReg f.addr := by decide) : KeepsTime r (s.raise f) := h.setReg ha

theorem count (h : KeepsTime r s) {a : Nat} (ha : ¬ timeReg a := by decide) : KeepsTime r (s.count a) := h.setReg ha

theorem draw (h : KeepsTime r s) {m : Nat} : KeepsTime r (s.draw m).2 := h.other

/-! ### The host link -/

theorem respond (h : KeepsTime r s) {o : Origin} {code : Nat} {st : Status} {rest : List Byte} :
    KeepsTime r (s.respond o code st rest) := by
  obtain ⟨x, hx | hx⟩ := respond_cases s o code st rest
  · rw [hx]
    exact h.other
  · rw [hx]
    exact h.other.count

theorem dropNotice (h : KeepsTime r s) {code : Nat} : KeepsTime r (s.dropNotice code) := by
  unfold State.dropNotice
  extract_lets u
  have hu : KeepsTime r u := h.count.raise
  split
  · exact hu.other
  · exact .ite hu.other hu.other

theorem notice (h : KeepsTime r s) {code : Nat} {payload : List Byte} : KeepsTime r (s.notice code payload) :=
  .ite h.other h.dropNotice

theorem timeState (h : KeepsTime r s) : KeepsTime r s.timeState := h.notice

/-! ### Interrupts -/

/-- The counters of a bank lie beside the start of a block. -/
theorem not_timeReg_icuCtr (core : Nat) : ¬ timeReg (A.icuCtr core 1) := by
  have hbank : ∃ n, icuBank core = 0x40600000 + 0x1000 * n := by
    unfold icuBank
    split
    · exact ⟨5, rfl⟩
    · exact ⟨core, rfl⟩
  obtain ⟨n, hn⟩ := hbank
  unfold timeReg A.icuCtr A.hslStat A.tmbStat
  omega

theorem irqTime (h : KeepsTime r s) : KeepsTime r s.irqTime.2.2 := by
  unfold State.irqTime
  split
  · exact h.draw (m := 2 ^ 32)
  · exact h

theorem irqSetPending (h : KeepsTime r s) {k edge payload : Nat} : KeepsTime r (s.irqSetPending k edge payload) := by
  unfold State.irqSetPending
  extract_lets _
  refine .ite (h.other.count (not_timeReg_icuCtr _)) ?_
  split
  exact (h.irqTime.of_snd_snd ‹_›).other

theorem irqSample (h : KeepsTime r s) {k : Nat} {level : Bool} {payload : Nat} :
    KeepsTime r (s.irqSample k level payload) := by
  unfold State.irqSample
  extract_lets _ _ s1
  have h1 : KeepsTime r s1 := h.other
  refine .ite (.ite h1 (.ite ?_ (.ite h1.other h1))) (.ite h1.irqSetPending (.ite h1.irqSetPending h1))
  split
  exact (h1.irqTime.of_snd_snd ‹_›).other

theorem irqPulse (h : KeepsTime r s) {id payload : Nat} : KeepsTime r (s.irqPulse id payload) := h.other.irqSample

/-! ### The event fabric -/

theorem setEvf (h : KeepsTime r s) {e : EvfState} : KeepsTime r (s.setEvf e) := h.other

theorem holdEdge (h : KeepsTime r s) {det : Nat} {g : HeldEdge} : KeepsTime r (s.holdEdge det g) := by
  unfold State.holdEdge
  split
  · exact h.other
  · exact h.other

theorem evLatchIn (h : KeepsTime r s) {i ref : Nat} {t : EvLatch} : KeepsTime r (s.evLatchIn i ref t) := by
  unfold State.evLatchIn
  extract_lets _
  refine .ite h ?_
  split
  · exact h.setEvf
  · exact h.setEvf
  · exact .ite h.count.raise h.count.raise

theorem evConsumers (h : KeepsTime r s) {ref : Nat} {rising : Bool} {t : EvLatch} :
    KeepsTime r (s.evConsumers ref rising t) := by
  unfold State.evConsumers
  refine h.foldl fun _ _ _ h1 => ?_
  split
  exact .ite (.ite h1.holdEdge h1.evLatchIn) h1

theorem not_timeReg_evfCtr {m : Nat} (hm : m < 256) : ¬ timeReg (A.evfCtr m) := by
  unfold timeReg A.evfCtr A.hslStat A.tmbStat
  omega

theorem not_timeReg_evfAonctr {a : Nat} (ha : a < 64) : ¬ timeReg (A.evfAonctr a) := by
  unfold timeReg A.evfAonctr A.hslStat A.tmbStat
  omega

theorem aonSet (h : KeepsTime r s) {w : EvWave} {a : Nat} {lv : Bool} (ha : a < 64) :
    KeepsTime r (s.aonSet w a lv).1 :=
  .ite_fst h (KeepsTime.ite h.setEvf
    (irqSample (evConsumers (.ite (h.setEvf.count (not_timeReg_evfAonctr ha)) h.setEvf))))

theorem aonUpdate (h : KeepsTime r s) {w : EvWave} {pick : Nat → Bool} : KeepsTime r (s.aonUpdate w pick).1 :=
  h.foldl_fst fun _ _ ha h1 => .ite_fst (h1.aonSet (List.mem_range.1 ha)) h1

theorem cellDrive (h : KeepsTime r s) {k : Nat} {lv settle : Bool} : KeepsTime r (s.cellDrive k lv settle).1 :=
  .ite_fst h.setEvf.setEvf h.setEvf

theorem cellSees (h : KeepsTime r s) {w : EvWave} {k m : Nat} {rising : Bool} :
    KeepsTime r (s.cellSees w k m rising).1 :=
  .ite_fst h (.ite_fst h.cellDrive (.ite_fst (.ite_fst h.cellDrive (h.draw (m := 2)).cellDrive) h))

theorem outSet (h : KeepsTime r s) {w : EvWave} {m : Nat} {lv : Bool} (hm : m < 256) :
    KeepsTime r (s.outSet w m lv).1 := by
  unfold State.outSet
  generalize hF : @List.foldl (State × EvWork) Nat = F
  refine .ite_fst h ?_
  extract_lets _ _ s1 s2 s3
  have h1 : KeepsTime r s1 :=
    .ite h.setEvf (evConsumers (.ite (h.setEvf.count (not_timeReg_evfCtr hm)) h.setEvf))
  have h2 : KeepsTime r s2 := .ite h1 (h1.foldl fun _ _ _ h => .ite h.irqSample h)
  have h3 : KeepsTime r s3 :=
    .ite (h2.foldl fun _ _ _ h => .ite (setEvf (.ite h.setEvf h)) (.ite h.setEvf h)) h2
  split
  rename_i e
  exact .of_foldl hF e h3 fun _ _ _ h => .ite_fst h.cellSees h

theorem mainSet (h : KeepsTime r s) {w : EvWave} {m : Nat} {lv : Bool} (hm : m < 256) :
    KeepsTime r (s.mainSet w m lv).1 := .ite_fst h (.ite_fst (h.setEvf.outSet hm) h.setEvf.count)

theorem evChange (h : KeepsTime r s) {w : EvWave} {code : Nat} {lv : Bool} :
    KeepsTime r (s.evChange w code lv).1 := by
  unfold State.evChange
  generalize hF : @List.foldl (State × EvWork) Nat = F
  split
  rename_i e
  exact (KeepsTime.of_foldl hF e h fun _ _ hm h => .ite_fst (h.mainSet (List.mem_range.1 hm)) h).aonUpdate

theorem evRun (h : KeepsTime r s) {fuel : Nat} {w : EvWave} {work : EvWork} : KeepsTime r (evRun fuel w work s) := by
  induction fuel generalizing s work with
  | zero => exact h
  | succ fuel ih =>
    rcases work with _ | ⟨⟨code, lv⟩, rest⟩
    · exact h
    · rw [Machine.evRun]
      split
      exact ih (h.evChange.of_fst ‹_›)

theorem evSettle (h : KeepsTime r s) {w : EvWave} : KeepsTime r (s.evSettle w) := by
  unfold State.evSettle
  generalize hF : @List.foldl (State × EvWork) Nat = F
  split
  rename_i e
  exact (KeepsTime.of_foldl hF e h fun _ _ _ h => .ite_fst h.cellDrive h).evRun

theorem evPulse (h : KeepsTime r s) {code : Nat} : KeepsTime r (s.evPulse code) :=
  .ite h.holdEdge h.evRun.evRun.evSettle

theorem fireSlot (h : KeepsTime r s) : KeepsTime r s.fireSlot := h.evPulse

/-! ### Snapshots -/

theorem snapshot (h : KeepsTime r s) {t : Nat} : KeepsTime r (s.snapshot t).2 := by
  unfold State.snapshot
  extract_lets
  refine .ite_snd h (.ite_snd h.count.raise ?_)
  exact h.other.raise.setFld

end KeepsTime
end Sys2Proof.Machine
end

section
/-!
Network time by itself: rounds and slots, changes that waited, and the source in force (R312-R315, R320, R321).
-/

namespace Sys2Proof.Machine

variable {r s t u : State} {l : List Nat} {a v : Nat}

/-! ## What goes on around time -/

/-- `s` comes from `r` by work around network time: the time itself and what waits to change it, the timebase and memory
are kept, and of the registers beside the signals' at most those listed are written. -/
structure KeepsClock (l : List Nat) (r s : State) : Prop where
  reg : ∀ a, timeReg a → a ∉ l → s.reg a = r.reg a
  time : s.ntm.time = r.ntm.time
  waiting : s.ntm.waiting = r.ntm.waiting
  waitHost : s.ntm.waitHost = r.ntm.waitHost
  tb : s.tb = r.tb
  memory : r.sameMemory s

namespace KeepsClock

theorem refl (l : List Nat) (s : State) : KeepsClock l s s := ⟨fun _ _ _ => rfl, rfl, rfl, rfl, rfl, fun _ => rfl⟩

theorem trans (h : KeepsClock l r s) (h' : KeepsClock l s t) : KeepsClock l r t where
  reg a ha hl := (h'.reg a ha hl).trans (h.reg a ha hl)
  time := h'.time.trans h.time
  waiting := h'.waiting.trans h.waiting
  waitHost := h'.waitHost.trans h.waitHost
  tb := h'.tb.trans h.tb
  memory a := (h'.memory a).trans (h.memory a)

theorem regN (h : KeepsClock l r s) (ha : timeReg a := by decide) (hl : a ∉ l := by decide) : s.regN a = r.regN a := by
  unfold State.regN
  rw [h.reg a ha hl]

theorem fld (h : KeepsClock l r s) {f : Fld} (hf : timeReg f.addr := by decide) (hl : f.addr ∉ l := by decide) :
    s.fld f = r.fld f := by
  unfold State.fld
  rw [h.regN hf hl]

theorem flag (h : KeepsClock l r s) {f : Fld} (hf : timeReg f.addr := by decide) (hl : f.addr ∉ l := by decide) :
    s.flag f = r.flag f := by
  unfold State.flag
  rw [h.fld hf hl]

theorem ite {c : Prop} {d : Decidable c} (hs : KeepsClock l r s) (ht : KeepsClock l r t) :
    KeepsClock l r (if c then s else t) := by
  split
  · exact hs
  · exact ht

theorem keepsTime (h : KeepsClock l r s) (hk : KeepsTime s t) : KeepsClock l r t where
  reg a ha hl := (hk.reg a ha).trans (h.reg a ha hl)
  time := (congrArg NtmState.time hk.ntm).trans h.time
  waiting := (congrArg NtmState.waiting hk.ntm).trans h.waiting
  waitHost := (congrArg NtmState.waitHost hk.ntm).trans h.waitHost
  tb := hk.tb.trans h.tb
  memory a := (hk.sameMemory a).trans (h.memory a)

theorem setReg (h : KeepsClock l r s) {w : Word} (ha : a ∈ l := by decide) : KeepsClock l r (s.setReg a w) where
  reg b hb hl := (State.reg_setReg_ne s w (ne_of_mem_of_not_mem ha hl).symm).trans (h.reg b hb hl)
  time := h.time
  waiting := h.waiting
  waitHost := h.waitHost
  tb := h.tb
  memory := h.memory

theorem setRegN (h : KeepsClock l r s) (ha : a ∈ l := by decide) : KeepsClock l r (s.setRegN a v) := h.setReg ha

theorem setFld (h : KeepsClock l r s) {f : Fld} (ha : f.addr ∈ l := by decide) : KeepsClock l r (s.setFld f v) :=
  h.setReg ha

theorem raise (h : KeepsClock l r s) {f : Fld} (ha : f.addr ∈ l := by decide) : KeepsClock l r (s.raise f) := h.setReg ha

theorem countBy (h : KeepsClock l r s) (ha : a ∈ l := by decide) : KeepsClock l r (s.countBy a v) := h.setReg ha

theorem count (h : KeepsClock l r s) (ha : a ∈ l := by decide) : KeepsClock l r (s.count a) := h.setReg ha

theorem setNtm (h : KeepsClock l r s) {x : NtmState} (ht : x.time = s.ntm.time) (hw : x.waiting = s.ntm.waiting)
    (ho : x.waitHost = s.ntm.waitHost) : KeepsClock l r (s.setNtm x) where
  reg := h.reg
  time := ht.trans h.time
  waiting := hw.trans h.waiting
  waitHost := ho.trans h.waitHost
  tb := h.tb
  memory := h.memory

end KeepsClock

/-! ## Rounds and slots (R313-R315) -/

/-- A round boundary raises its flag and begins the round's airtime sums anew; the tracker's state stays. -/
structure RoundFired (s t : State) : Prop where
  reg : ∀ a, timeReg a → a ≠ A.ntmIntstat → t.reg a = s.reg a
  flag : t.flag F.ntmIntstatRound = true
  ntm : t.ntm = s.ntm
  air : t.tnt.air = []
  tb : t.tb = s.tb
  memory : s.sameMemory t

theorem roundFired_fireRound (s : State) : RoundFired s s.fireRound := by
  unfold State.fireRound
  extract_lets v w y x
  have hpulse : KeepsTime s (s.evPulse 0x0F0).fireSlot := (KeepsTime.refl s).evPulse.fireSlot
  have hw : KeepsTime v w := (KeepsTime.refl v).irqPulse
  have hx : KeepsTime x (if x.flag F.snpCtlRounden then (x.snapshot x.tb.now).2 else x) :=
    .ite (KeepsTime.refl x).snapshot (.refl x)
  refine ⟨fun a ha hn => ?_, ?_, ?_, ?_, ?_, fun a => ?_⟩
  · rw [hx.reg a ha, show x.reg a = w.reg a from rfl, hw.reg a ha, ← hpulse.reg a ha]
    exact State.reg_setReg_ne _ _ hn
  · rw [hx.flag, show x.flag F.ntmIntstatRound = w.flag F.ntmIntstatRound from rfl, hw.flag]
    exact flag_raise_at _
  · rw [hx.ntm, show x.ntm = w.ntm from rfl, hw.ntm, ← hpulse.ntm]
    rfl
  · rw [hx.tnt]
  · rw [hx.tb, show x.tb = w.tb from rfl, hw.tb, ← hpulse.tb]
    rfl
  · rw [hx.sameMemory a, show x.byte a = w.byte a from rfl, hw.sameMemory a, ← hpulse.sameMemory a]
    rfl

/-- The number of the last round boundary is the one that is set (R313). -/
theorem ntmRound_setRound (s : State) (n slot : Nat) : (s.setRound n slot).ntmRound = n % 2 ^ 64 := by
  have hlo : (s.setRound n slot).regN A.ntmRound0 = wrap64 n % 2 ^ 32 := by
    change ((s.setRegN A.ntmRound0 (wrap64 n % 2 ^ 32)).setRegN A.ntmRound1 (wrap64 n / 2 ^ 32 % 2 ^ 32)).regN _ = _
    rw [State.regN_setRegN_ne _ _ (by decide), State.regN_setRegN_self, Nat.mod_mod]
  have hhi : (s.setRound n slot).regN A.ntmRound1 = wrap64 n / 2 ^ 32 % 2 ^ 32 := by
    change ((s.setRegN A.ntmRound0 (wrap64 n % 2 ^ 32)).setRegN A.ntmRound1 (wrap64 n / 2 ^ 32 % 2 ^ 32)).regN _ = _
    rw [State.regN_setRegN_self, Nat.mod_mod]
  unfold State.ntmRound State.pair
  rw [hlo, hhi]
  unfold wrap64
  omega

theorem ntmRound_congr (h0 : t.reg A.ntmRound0 = s.reg A.ntmRound0) (h1 : t.reg A.ntmRound1 = s.reg A.ntmRound1) :
    t.ntmRound = s.ntmRound := by
  unfold State.ntmRound State.pair State.regN
  rw [h0, h1]

namespace KeepsClock

theorem fireRound (h : KeepsClock l r s) (hl : A.ntmIntstat ∈ l := by decide) : KeepsClock l r s.fireRound := by
  have hf := roundFired_fireRound s
  exact ⟨fun a ha hn => (hf.reg a ha (ne_of_mem_of_not_mem hl hn).symm).trans (h.reg a ha hn),
    (congrArg NtmState.time hf.ntm).trans h.time, (congrArg NtmState.waiting hf.ntm).trans h.waiting,
    (congrArg NtmState.waitHost hf.ntm).trans h.waitHost, hf.tb.trans h.tb, fun a => (hf.memory a).trans (h.memory a)⟩

theorem setRound (h : KeepsClock l r s) {n slot : Nat} (h0 : A.ntmRound0 ∈ l := by decide)
    (h1 : A.ntmRound1 ∈ l := by decide) : KeepsClock l r (s.setRound n slot) :=
  ((h.setRegN h0).setRegN h1).setNtm rfl rfl rfl

end KeepsClock

/-- A change of NTM that is no tick fires what it crosses (R315). -/
theorem keepsClock_roundsAfterChange (s : State) :
    KeepsClock [A.ntmRound0, A.ntmRound1, A.ntmCtr 3, A.ntmIntstat] s s.roundsAfterChange := by
  have h0 := KeepsClock.refl [A.ntmRound0, A.ntmRound1, A.ntmCtr 3, A.ntmIntstat] s
  unfold State.roundsAfterChange
  extract_lets ns n q u x k y
  have hu : KeepsClock [A.ntmRound0, A.ntmRound1, A.ntmCtr 3, A.ntmIntstat] s u := h0.setRound
  clear_value u k n
  split
  · exact h0.setRound.countBy.fireRound
  · split
    · have hx := hu.setNtm (x := { x with rebased := true }) rfl rfl rfl
      exact hx.fireRound
    · split
      · have hy := h0.setNtm (x := { y with lastSlot := k }) rfl rfl rfl
        exact hy.keepsTime (KeepsTime.refl _).fireSlot
      · exact h0

/-! ## The source in force (R320, R321) -/

/-- The source is brought up to date: STRATUM and SRCACT may change, and the next sample may be a first one. -/
structure Sourced (s t : State) : Prop where
  reg : ∀ a, timeReg a → a ≠ A.ntmStat → t.reg a = s.reg a
  stat : ∀ f : Fld, f.addr = A.ntmStat → F.ntmStatStratum.apart f → F.ntmStatSrcact.apart f → t.fld f = s.fld f
  ntm : ∃ m p, t.ntm = { s.ntm with meshPrev := m, syncPrev := p }
  tnt : t.tnt = s.tnt
  tb : t.tb = s.tb
  memory : s.sameMemory t

namespace Sourced

theorem refl (s : State) : Sourced s s := ⟨fun _ _ _ => rfl, fun _ _ _ _ => rfl, ⟨_, _, rfl⟩, rfl, rfl, fun _ => rfl⟩

theorem ite {c : Prop} {d : Decidable c} (ht : Sourced s t) (hu : Sourced s u) : Sourced s (if c then t else u) := by
  split
  · exact ht
  · exact hu

theorem keepsTime (h : Sourced s t) (hk : KeepsTime t u) : Sourced s u where
  reg a ha hn := (hk.reg a ha).trans (h.reg a ha hn)
  stat f hf h1 h2 := (hk.fld (.inl (by rw [hf]; decide))).trans (h.stat f hf h1 h2)
  ntm := by rw [hk.ntm]; exact h.ntm
  tnt := hk.tnt.trans h.tnt
  tb := hk.tb.trans h.tb
  memory a := (hk.sameMemory a).trans (h.memory a)

theorem setFld (h : Sourced s t) {g : Fld} (hg : g = F.ntmStatStratum ∨ g = F.ntmStatSrcact) :
    Sourced s (t.setFld g v) := by
  have haddr : g.addr = A.ntmStat := by obtain rfl | rfl := hg <;> rfl
  have hwidth : g.lsb + g.width ≤ 32 := by obtain rfl | rfl := hg <;> decide
  refine ⟨fun a ha hn => (State.reg_setRegN_ne t _ (haddr ▸ hn)).trans (h.reg a ha hn), fun f hf h1 h2 => ?_, h.ntm, h.tnt,
    h.tb, h.memory⟩
  have hapart : g.apart f := by
    obtain rfl | rfl := hg
    · exact h1
    · exact h2
  exact (fld_setFld_of_apart t v hapart hwidth).trans (h.stat f hf h1 h2)

theorem refreshStratum (h : Sourced s t) : Sourced s t.refreshStratum := by
  unfold State.refreshStratum
  split
  · exact h.setFld (.inl rfl)
  · exact .ite (h.setFld (.inl rfl)) h
  · exact h

end Sourced

theorem sourced_refreshSource (s : State) : Sourced s s.refreshSource := by
  unfold State.refreshSource
  extract_lets n u
  have hu : Sourced s u := (Sourced.refl s).refreshStratum
  refine .ite hu (Sourced.keepsTime ?_ (KeepsTime.refl _).timeState)
  have h1 : Sourced s (u.setFld F.ntmStatSrcact n) := hu.setFld (.inr rfl)
  obtain ⟨m, p, hntm⟩ := h1.ntm
  exact ⟨h1.reg, h1.stat, ⟨none, none, congrArg (fun x : NtmState => { x with meshPrev := none, syncPrev := none }) hntm⟩,
    h1.tnt, h1.tb, h1.memory⟩

theorem KeepsClock.refreshSource (h : KeepsClock l r s) (hl : A.ntmStat ∈ l := by decide) :
    KeepsClock l r s.refreshSource := by
  have hs := sourced_refreshSource s
  obtain ⟨m, p, hntm⟩ := hs.ntm
  exact ⟨fun a ha hn => (hs.reg a ha (ne_of_mem_of_not_mem hl hn).symm).trans (h.reg a ha hn),
    (congrArg NtmState.time hntm).trans h.time, (congrArg NtmState.waiting hntm).trans h.waiting,
    (congrArg NtmState.waitHost hntm).trans h.waitHost, hs.tb.trans h.tb, fun a => (hs.memory a).trans (h.memory a)⟩

end Sys2Proof.Machine
end

section
/-!
Changes of network time that waited, and its boundaries (R312-R315).
-/

namespace Sys2Proof.Machine

variable {r s t u : State} {l : List Nat} {a v : Nat}

theorem Sourced.flag (h : Sourced s t) {f : Fld} (hf : f.addr = A.ntmStat := by rfl)
    (h1 : F.ntmStatStratum.apart f := by decide) (h2 : F.ntmStatSrcact.apart f := by decide) : t.flag f = s.flag f := by
  unfold State.flag
  rw [h.stat f hf h1 h2]

/-! ## Changes that waited (R312) -/

/-- What a change of NTM leads to: rounds, source and notice. -/
def State.afterSet (s : State) : State := s.roundsAfterChange.refreshSource.timeState

theorem afterSet_shows (s : State) : s.afterSet.ntm.time = s.ntm.time ∧ s.afterSet.ntm.waiting = s.ntm.waiting
    ∧ s.afterSet.ntm.waitHost = s.ntm.waitHost ∧ s.afterSet.flag F.ntmStatPend = s.flag F.ntmStatPend
    ∧ s.afterSet.flag F.ntmStatValid = s.flag F.ntmStatValid ∧ s.sameMemory s.afterSet := by
  have hround := keepsClock_roundsAfterChange s
  have hsource := sourced_refreshSource s.roundsAfterChange
  obtain ⟨m, p, hntm⟩ := hsource.ntm
  have hstate : KeepsTime s.roundsAfterChange.refreshSource s.afterSet := (KeepsTime.refl _).timeState
  refine ⟨?_, ?_, ?_, ?_, ?_, fun a => ((hstate.sameMemory a).trans (hsource.memory a)).trans (hround.memory a)⟩
  · rw [hstate.ntm, hntm]
    exact hround.time
  · rw [hstate.ntm, hntm]
    exact hround.waiting
  · rw [hstate.ntm, hntm]
    exact hround.waitHost
  · rw [hstate.flag, hsource.flag, hround.flag]
  · rw [hstate.flag, hsource.flag, hround.flag]

/-- The flags and the counter of a SET or step (R311). -/
def State.setFlags (s : State) : State := ((s.raise F.ntmIntstatStep).count (A.ntmCtr 2)).raise F.ntmStatValid

theorem applySet_eq (s : State) (n : Nat) :
    s.applySet n = (s.setNtm { s.ntm with time := n, setOnce := true }).setFlags.afterSet := rfl

theorem pend_setFlags (s : State) : s.setFlags.flag F.ntmStatPend = s.flag F.ntmStatPend := by
  have hw : WritesOnly [A.ntmIntstat, A.ntmCtr 2] s ((s.raise F.ntmIntstatStep).count (A.ntmCtr 2)) :=
    (WritesOnly.refl _ s).raise.count (by decide)
  exact (flag_raise_of_apart (f := F.ntmStatValid) _ (by decide) (by decide)).trans (hw.flag (by decide))

theorem valid_setFlags (s : State) : s.setFlags.flag F.ntmStatValid = true := flag_raise_at _

theorem writesOnly_setFlags (s : State) : WritesOnly [A.ntmIntstat, A.ntmCtr 2, A.ntmStat] s s.setFlags :=
  ((WritesOnly.refl _ s).raise.count (by decide)).raise

/-- A SET or step that is applied puts its time in force (R311, R315, R321). -/
theorem applySet_shows (s : State) (n : Nat) : (s.applySet n).ntm.time = n
    ∧ (s.applySet n).ntm.waiting = s.ntm.waiting ∧ (s.applySet n).ntm.waitHost = s.ntm.waitHost
    ∧ (s.applySet n).flag F.ntmStatPend = s.flag F.ntmStatPend ∧ (s.applySet n).flag F.ntmStatValid = true
    ∧ s.sameMemory (s.applySet n) := by
  have hpend := pend_setFlags (s.setNtm { s.ntm with time := n, setOnce := true })
  have hvalid := valid_setFlags (s.setNtm { s.ntm with time := n, setOnce := true })
  have hwrites := writesOnly_setFlags (s.setNtm { s.ntm with time := n, setOnce := true })
  rw [applySet_eq]
  generalize (s.setNtm { s.ntm with time := n, setOnce := true }).setFlags = u at *
  obtain ⟨htime', hwait', hhost', hpend', hvalid', hmem'⟩ := afterSet_shows u
  have hntm : u.ntm = (s.setNtm { s.ntm with time := n, setOnce := true }).ntm := by rw [hwrites.rest]
  refine ⟨htime'.trans ?_, hwait'.trans ?_, hhost'.trans ?_, hpend'.trans hpend, hvalid'.trans hvalid,
    fun a => (hmem' a).trans (hwrites.sameMemory a)⟩
  · rw [hntm]
    rfl
  · rw [hntm]
    rfl
  · rw [hntm]
    rfl

/-- The answer to a TIME_SET that waited (R329). -/
def State.answerSet (s : State) (host : Option Origin) : State :=
  match host with
  | some o => s.respond o 0x71 .ok []
  | none => s

theorem keepsTime_answerSet (s : State) (host : Option Origin) : KeepsTime s (s.answerSet host) := by
  cases host with
  | some o => exact (KeepsTime.refl s).respond
  | none => exact .refl s

/-- Nothing waits any more. -/
def State.noneWaits (s : State) : State := (s.setNtm { s.ntm with waiting := none, waitHost := none }).lower F.ntmStatPend

theorem byte_noneWaits (s : State) (a : Nat) : s.noneWaits.byte a = s.byte a := by
  rw [State.noneWaits, State.lower, State.setFld, State.setRegN, State.byte_setReg]
  rfl

theorem exec_deferredAdjust_set {ns : Nat} (hw : s.ntm.waiting = some (.set ns)) (hno : s.ntm.waitSlew = none)
    (hd : s.stepDeferred = false) :
    exec .deferredAdjust s = .next ((s.noneWaits.applySet (wrap64 ns * 2 ^ 32)).answerSet s.ntm.waitHost) := by
  change execDeferredAdjust s = _
  unfold execDeferredAdjust
  simp only [hno, hw, hd, Bool.false_eq_true, if_false]
  cases s.ntm.waitHost with
  | some o => simp only [State.answerSet, State.noneWaits, hno, State.applyChange]
  | none => simp only [State.answerSet, State.noneWaits, hno, State.applyChange]

/-- Once a SET that waited is applied, nothing waits and NTM is valid. -/
theorem deferredSet_shows (s : State) (n : Nat) : let t := (s.noneWaits.applySet n).answerSet s.ntm.waitHost
    t.ntm.time = n ∧ t.ntm.waiting = none ∧ t.ntm.waitHost = none
      ∧ t.flag F.ntmStatPend = false ∧ t.flag F.ntmStatValid = true
      ∧ (∀ o, s.ntm.waitHost = some o → t.responded o (rspPayload 0x71 .ok [])) ∧ s.sameMemory t := by
  intro t
  obtain ⟨htime, hwait, hhost, hpend, hvalid, hmem⟩ := applySet_shows s.noneWaits n
  have hkeep : KeepsTime (s.noneWaits.applySet n) t := keepsTime_answerSet (s.noneWaits.applySet n) s.ntm.waitHost
  refine ⟨?_, ?_, ?_, ?_, ?_, fun o ho => ?_, fun a => ?_⟩
  · rw [hkeep.ntm, htime]
  · rw [hkeep.ntm, hwait]
    rfl
  · rw [hkeep.ntm, hhost]
    rfl
  · rw [hkeep.flag, hpend]
    exact flag_lower_at _
  · rw [hkeep.flag, hvalid]
  · unfold t
    rw [ho]
    exact State.responded_respond ..
  · rw [hkeep.sameMemory a, hmem a, byte_noneWaits]

theorem completes_deferredAdjust_set {ns : Nat} (hw : s.ntm.waiting = some (.set ns)) (hno : s.ntm.waitSlew = none)
    (hd : s.stepDeferred = false) : Completes .deferredAdjust s fun t =>
      t.ntm.time = wrap64 ns * 2 ^ 32 ∧ t.ntm.waiting = none ∧ t.ntm.waitHost = none
      ∧ t.flag F.ntmStatPend = false ∧ t.flag F.ntmStatValid = true
      ∧ (∀ o, s.ntm.waitHost = some o → t.responded o (rspPayload 0x71 .ok [])) ∧ s.sameMemory t := by
  exact ⟨_, exec_deferredAdjust_set hw hno hd, deferredSet_shows s (wrap64 ns * 2 ^ 32)⟩

theorem completes_deferredAdjust_slew {k : SlewKind} {n : Int} (hw : s.ntm.waiting = none)
    (hs : s.ntm.waitSlew = some (.slew k n)) (hf : s.stampInFlight = false) : Completes .deferredAdjust s fun t =>
      t.ntm.slewRem = n ∧ t.ntm.waitSlew = none ∧ t.ntm.time = s.ntm.time ∧ s.sameRegsBut t [] ∧ s.sameMemory t := by
  refine ⟨(s.setNtm { s.ntm with waitSlew := none }).startSlew k n, ?_, rfl, rfl, rfl, fun _ _ => rfl, fun _ => rfl⟩
  change Host.Outcome.next _ = _
  simp only [hs, hf]
  change Host.Outcome.next (match s.ntm.waiting with | some c => _ | none => _) = _
  rw [hw]
  rfl

/-! ## Boundaries (R313-R315) -/

theorem completes_roundBoundary (h : (s.ntmRound + 1) * 1000000000 ≤ s.ntmNs) : Completes .roundBoundary s fun t =>
    t.ntmRound = (s.ntmRound + 1) % 2 ^ 64 ∧ t.ntm.lastSlot = (s.ntmRound + 1) * 1000000000
    ∧ t.ntm.rebased = false ∧ t.flag F.ntmIntstatRound = true ∧ t.tnt.air = [] ∧ t.ntm.time = s.ntm.time
    ∧ s.sameMemory t := by
  let x := s.setRound (s.ntmRound + 1) ((s.ntmRound + 1) * 1000000000)
  let y := x.setNtm { x.ntm with rebased := false }
  have hfire := roundFired_fireRound y
  have hsource := sourced_refreshSource y.fireRound
  obtain ⟨m, p, hntm⟩ := hsource.ntm
  rw [hfire.ntm] at hntm
  refine ⟨y.fireRound.refreshSource, congrArg Host.Outcome.next (if_pos h), ?_, ?_, ?_, ?_, ?_, ?_, fun a => ?_⟩
  · rw [ntmRound_congr (hsource.reg _ (by decide) (by decide)) (hsource.reg _ (by decide) (by decide)),
      ntmRound_congr (hfire.reg _ (by decide) (by decide)) (hfire.reg _ (by decide) (by decide))]
    exact ntmRound_setRound s _ ((s.ntmRound + 1) * 1000000000)
  · rw [hntm]
    rfl
  · rw [hntm]
    rfl
  · rw [State.flag, State.fld, State.regN, hsource.reg _ (by decide) (by decide)]
    exact hfire.flag
  · rw [hsource.tnt, hfire.air]
  · rw [hntm]
    rfl
  · rw [hsource.memory a, hfire.memory a]
    rfl

theorem completes_slotBoundary (h : s.ntm.lastSlot + 10000000 ≤ s.ntmNs)
    (hr : s.ntm.lastSlot + 10000000 < (s.ntmRound + 1) * 1000000000) : Completes .slotBoundary s fun t =>
      t.ntm = { s.ntm with lastSlot := s.ntm.lastSlot + 10000000 } ∧ t.ntmRound = s.ntmRound ∧ s.sameMemory t := by
  let x := s.setNtm { s.ntm with lastSlot := s.ntm.lastSlot + 10000000 }
  have hk : KeepsTime x x.fireSlot := (KeepsTime.refl x).fireSlot
  refine ⟨x.fireSlot, congrArg Host.Outcome.next (if_pos (by simp [h, hr])), hk.ntm, ?_, fun a => hk.sameMemory a⟩
  exact ntmRound_congr (hk.reg _ (by decide)) (hk.reg _ (by decide))

end Sys2Proof.Machine
end

section
/-!
The SYNC tracker (R322, R323): its edges, and its state with what tells of it.
-/

namespace Sys2Proof.Machine

variable {r s t u : State} {l : List Nat} {a v : Nat}

/-! ## Edges (R322) -/

section
variable {rising : Bool}

/-- An edge of the selected sense meets a tracker that is on. -/
theorem exec_syncEdge (hen : s.flag F.ntmSynccfgEn = true) (hcom : s.comUp = true) (hrun : s.tb.run ≠ .stopped)
    (hedge : s.fld F.ntmSynccfgEdge = 2 ∨ (s.fld F.ntmSynccfgEdge = 0 ∧ rising = true)
      ∨ (s.fld F.ntmSynccfgEdge = 1 ∧ rising = false)) :
    exec (.syncEdge rising) s = .next (match s.ntm.syncBest with
      | none => s.setNtm { s.ntm with syncBest := some s.syncError }
      | some b => (s.setNtm { s.ntm with
          syncBest := some (if s.syncError.natAbs < b.natAbs then s.syncError else b) }).count (A.ntmCtr 6)) := by
  have hsense : (s.fld F.ntmSynccfgEdge == 2 || (s.fld F.ntmSynccfgEdge == 0 && rising)
      || (s.fld F.ntmSynccfgEdge == 1 && !rising)) = true := by
    obtain h | ⟨h, rfl⟩ | ⟨h, rfl⟩ := hedge
    · rw [h]; rfl
    · rw [h]; rfl
    · rw [h]; rfl
  refine congrArg Host.Outcome.next ((if_pos ?_).trans ?_)
  · rw [hen, hsense, hcom]
    simpa using hrun
  · rfl

theorem completes_syncEdge_next {b : Int} (hen : s.flag F.ntmSynccfgEn = true) (hcom : s.comUp = true)
    (hrun : s.tb.run ≠ .stopped) (hedge : s.fld F.ntmSynccfgEdge = 2 ∨ (s.fld F.ntmSynccfgEdge = 0 ∧ rising = true)
      ∨ (s.fld F.ntmSynccfgEdge = 1 ∧ rising = false)) (hb : s.ntm.syncBest = some b) :
    Completes (.syncEdge rising) s fun t =>
      t.ntm.syncBest = some (if s.syncError.natAbs < b.natAbs then s.syncError else b)
      ∧ t.regN (A.ntmCtr 6) = (s.regN (A.ntmCtr 6) + 1) % 2 ^ 32 ∧ s.sameRegsBut t [A.ntmCtr 6] ∧ s.sameMemory t := by
  have hx := exec_syncEdge hen hcom hrun hedge
  rw [hb] at hx
  refine ⟨_, hx, rfl, regN_count_self .., fun a ha => ?_, fun a => rfl⟩
  exact State.reg_setReg_ne _ _ (by simpa using ha)

end

/-! ## The tracker's state (R323) -/

theorem Sourced.fld (h : Sourced s t) {f : Fld} (hf : f.addr = A.ntmStat := by rfl)
    (h1 : F.ntmStatStratum.apart f := by decide) (h2 : F.ntmStatSrcact.apart f := by decide) : t.fld f = s.fld f :=
  h.stat f hf h1 h2

theorem Sourced.flag_beside (h : Sourced s t) {f : Fld} (hf : timeReg f.addr := by decide)
    (hn : f.addr ≠ A.ntmStat := by decide) : t.flag f = s.flag f := by
  unfold State.flag State.fld State.regN
  rw [h.reg _ hf hn]

/-- The end of a change of the tracker's state: its run, its misses and its last error are over, and the source follows. -/
def State.syncSet (s : State) : State :=
  (s.setNtm { s.ntm with syncRun := [], syncMiss := 0, syncPrev := none }).timeState.refreshSource

theorem setSync_eq (s : State) {st : Nat} (h : s.fld F.ntmStatSyncst ≠ st) :
    s.setSync st =
      (let x := s.setFld F.ntmStatSyncst st
       let y := if st = 2 then (x.raise F.ntmIntstatSynclock).raise F.ntmStatValid else x
       (if st = 3 && s.fld F.ntmStatSyncst = 2 then y.raise F.ntmIntstatSyncloss else y).syncSet) :=
  if_neg h

theorem keepsClock_syncSet (s : State) : KeepsClock [A.ntmStat, A.ntmIntstat] s s.syncSet := by
  have hx := (KeepsClock.refl [A.ntmStat, A.ntmIntstat] s).setNtm
    (x := { s.ntm with syncRun := [], syncMiss := 0, syncPrev := none }) rfl rfl rfl
  exact (hx.keepsTime (KeepsTime.refl _).timeState).refreshSource

theorem syncSet_shows (s : State) : s.syncSet.fld F.ntmStatSyncst = s.fld F.ntmStatSyncst
    ∧ s.syncSet.flag F.ntmStatValid = s.flag F.ntmStatValid
    ∧ s.syncSet.flag F.ntmIntstatSynclock = s.flag F.ntmIntstatSynclock
    ∧ s.syncSet.flag F.ntmIntstatSyncloss = s.flag F.ntmIntstatSyncloss := by
  let x := s.setNtm { s.ntm with syncRun := [], syncMiss := 0, syncPrev := none }
  have hk : KeepsTime x x.timeState := (KeepsTime.refl x).timeState
  have hs : Sourced x.timeState s.syncSet := sourced_refreshSource x.timeState
  refine ⟨?_, ?_, ?_, ?_⟩
  · rw [hs.fld, hk.fld]
    rfl
  · rw [hs.flag, hk.flag]
    rfl
  · rw [hs.flag_beside, hk.flag]
    rfl
  · rw [hs.flag_beside, hk.flag]
    rfl

theorem keepsClock_setSync (s : State) (st : Nat) : KeepsClock [A.ntmStat, A.ntmIntstat] s (s.setSync st) := by
  by_cases h : s.fld F.ntmStatSyncst = st
  · rw [State.setSync, if_pos h]
    exact .refl _ s
  · rw [setSync_eq s h]
    extract_lets x y
    have hx : KeepsClock [A.ntmStat, A.ntmIntstat] s x := (KeepsClock.refl _ s).setFld
    have hy : KeepsClock [A.ntmStat, A.ntmIntstat] s y := .ite hx.raise.raise hx
    have hz : KeepsClock [A.ntmStat, A.ntmIntstat] s
        (if st = 3 && s.fld F.ntmStatSyncst = 2 then y.raise F.ntmIntstatSyncloss else y) := .ite hy.raise hy
    exact hz.trans (keepsClock_syncSet _)

/-- A tracker that locks says so, and NTM is valid. -/
theorem setSync_two (s : State) (h : s.fld F.ntmStatSyncst ≠ 2) : (s.setSync 2).fld F.ntmStatSyncst = 2
    ∧ (s.setSync 2).flag F.ntmIntstatSynclock = true ∧ (s.setSync 2).flag F.ntmStatValid = true := by
  rw [setSync_eq s h]
  dsimp only
  rw [if_pos rfl, if_neg (by simp)]
  obtain ⟨hst, hvalid, hlock, -⟩ :=
    syncSet_shows (((s.setFld F.ntmStatSyncst 2).raise F.ntmIntstatSynclock).raise F.ntmStatValid)
  refine ⟨hst.trans ?_, hlock.trans ?_, hvalid.trans (flag_raise_at _)⟩
  · rw [State.raise, fld_setFld_of_apart _ 1 (by decide) (by decide), State.raise,
      fld_setFld_of_apart _ 1 (by decide) (by decide)]
    exact fld_setFld_at s (by decide)
  · exact (flag_raise_of_apart _ (by decide) (by decide)).trans (flag_raise_at _)

/-- A tracker that loses its lock says so. -/
theorem setSync_three (s : State) (h : s.fld F.ntmStatSyncst = 2) : (s.setSync 3).fld F.ntmStatSyncst = 3
    ∧ (s.setSync 3).flag F.ntmIntstatSyncloss = true := by
  rw [setSync_eq s (by rw [h]; decide)]
  dsimp only
  rw [if_neg (show ¬ 3 = 2 by decide), if_pos (by rw [h]; rfl)]
  obtain ⟨hst, -, -, hloss⟩ := syncSet_shows ((s.setFld F.ntmStatSyncst 3).raise F.ntmIntstatSyncloss)
  refine ⟨hst.trans ?_, hloss.trans (flag_raise_at _)⟩
  rw [State.raise, fld_setFld_of_apart _ 1 (by decide) (by decide)]
  exact fld_setFld_at s (by decide)

end Sys2Proof.Machine
end

section
/-!
The rounds of the SYNC tracker (R323, R324), and the make-up of time (R309, R537).
-/

namespace Sys2Proof.Machine

variable {r s t u : State} {l : List Nat} {a v : Nat}

/-! ## The end of a capture window (R323)

A round's window ends in three steps: it is counted, its error is shown, and the tracker uses it. -/

/-- The edge of the round, where one came into the window. -/
def State.edgeInWindow (s : State) : Option Int :=
  s.ntm.syncBest.filter (fun e => e.natAbs ≤ s.fld F.ntmSyncwinUs * 1000)

/-- What a window saw is counted, and the next one begins. -/
def State.windowCounted (s : State) (inWin best : Option Int) : State :=
  let s := s.setNtm { s.ntm with syncBest := none }
  match inWin, best with
  | some _, _ => (s.count (A.ntmCtr 4)).evPulse 0x0F2
  | none, some _ => (s.count (A.ntmCtr 5)).count (A.ntmCtr 6)
  | none, none => s.count (A.ntmCtr 5)

/-- SYNCERR shows an error, or that there was none. -/
def State.errorShown (s : State) (shown : Option Int) : State :=
  s.setRegN A.ntmSyncerr (match shown with | some e => ofSigned 32 e | none => 0x80000000)

/-- A window that a LOCKED tracker missed (R324). -/
def State.syncMissed (s : State) : State :=
  let n := s.ntm.syncMiss + 1
  let s := s.setNtm { s.ntm with syncMiss := n }
  if s.fld F.ntmSynccfgMissn ≤ n then s.setSync 3 else s

/-- The tracker uses a window. -/
def State.windowUsed (s : State) (st : Nat) (inWin best : Option Int) (learn : Bool) : State :=
  match st with
  | 1 => s.syncAcquire (if learn then best else inWin) learn
  | 2 =>
    match inWin with
    | some e => s.syncUse e
    | none => s.syncMissed
  | _ =>
    match inWin with
    | some _ => s.setSync 2
    | none => if learn then s.syncAcquire (best.filter (fun e => e.natAbs ≤ 10000000)) true else s

theorem exec_syncRound (hcom : s.comUp = true) (hrun : s.tb.run ≠ .stopped) (hst : s.fld F.ntmStatSyncst ≠ 0) :
    exec .syncRound s = .next (((s.windowCounted s.edgeInWindow s.ntm.syncBest).errorShown
      (if s.fld F.ntmStatSyncst = 1 then s.ntm.syncBest else s.edgeInWindow)).windowUsed (s.fld F.ntmStatSyncst)
        s.edgeInWindow s.ntm.syncBest (s.flag F.ntmSynccfgAutolearn)) := by
  refine congrArg Host.Outcome.next ((if_neg ?_).trans ?_)
  · rw [hcom]
    simpa [hst] using hrun
  · rfl

/-- A round with no edge: it counts, and SYNCERR shows that there was none. -/
def State.edgeMissed (s : State) : State :=
  ((s.setNtm { s.ntm with syncBest := none }).count (A.ntmCtr 5)).setRegN A.ntmSyncerr 0x80000000

/-- A round with an edge in the window: it counts and is told, and SYNCERR shows its error. -/
def State.edgeSeen (s : State) (e : Int) : State :=
  (((s.setNtm { s.ntm with syncBest := none }).count (A.ntmCtr 4)).evPulse 0x0F2).setRegN A.ntmSyncerr (ofSigned 32 e)

section
variable {e : Int} (hcom : s.comUp = true) (hrun : s.tb.run ≠ .stopped)
include hcom hrun

theorem exec_syncRound_missed (hst : s.fld F.ntmStatSyncst = 2) (hb : s.ntm.syncBest = none) :
    exec .syncRound s = .next s.edgeMissed.syncMissed := by
  have hin : s.edgeInWindow = none := by rw [State.edgeInWindow, hb]; rfl
  rw [exec_syncRound hcom hrun (by rw [hst]; decide), hst, hin, hb]
  rfl

theorem exec_syncRound_used (hst : s.fld F.ntmStatSyncst = 2) (hb : s.ntm.syncBest = some e)
    (hwin : e.natAbs ≤ s.fld F.ntmSyncwinUs * 1000) : exec .syncRound s = .next ((s.edgeSeen e).syncUse e) := by
  have hin : s.edgeInWindow = some e := by rw [State.edgeInWindow, hb]; simp [hwin]
  rw [exec_syncRound hcom hrun (by rw [hst]; decide), hst, hin, hb]
  rfl

theorem exec_syncRound_acquiring (hst : s.fld F.ntmStatSyncst = 1) (hlearn : s.flag F.ntmSynccfgAutolearn = false)
    (hb : s.ntm.syncBest = some e) (hwin : e.natAbs ≤ s.fld F.ntmSyncwinUs * 1000) :
    exec .syncRound s = .next ((s.edgeSeen e).syncAcquire (some e) false) := by
  have hin : s.edgeInWindow = some e := by rw [State.edgeInWindow, hb]; simp [hwin]
  rw [exec_syncRound hcom hrun (by rw [hst]; decide), hst, hin, hb, hlearn]
  rfl

end

/-! ## A round that missed (R324) -/

theorem keepsClock_edgeMissed (s : State) : KeepsClock [A.ntmCtr 5, A.ntmSyncerr] s s.edgeMissed := by
  have h := (KeepsClock.refl [A.ntmCtr 5, A.ntmSyncerr] s).setNtm (x := { s.ntm with syncBest := none }) rfl rfl rfl
  exact h.count.setRegN

theorem syncerr_edgeMissed (s : State) : s.edgeMissed.regN A.ntmSyncerr = 0x80000000 := State.regN_setRegN_self ..

theorem ctr_edgeMissed (s : State) : s.edgeMissed.regN (A.ntmCtr 5) = (s.regN (A.ntmCtr 5) + 1) % 2 ^ 32 :=
  (State.regN_setRegN_ne _ _ (by decide)).trans (regN_count_self ..)

theorem keepsClock_syncMissed (s : State) : KeepsClock [A.ntmStat, A.ntmIntstat] s s.syncMissed := by
  have h := (KeepsClock.refl [A.ntmStat, A.ntmIntstat] s).setNtm
    (x := { s.ntm with syncMiss := s.ntm.syncMiss + 1 }) rfl rfl rfl
  exact .ite (h.trans (keepsClock_setSync _ 3)) h

theorem syncMissed_of_few (h : s.ntm.syncMiss + 1 < s.fld F.ntmSynccfgMissn) :
    s.syncMissed = s.setNtm { s.ntm with syncMiss := s.ntm.syncMiss + 1 } := if_neg (Nat.not_le.2 h)

theorem syncMissed_of_many (h : s.fld F.ntmSynccfgMissn ≤ s.ntm.syncMiss + 1) :
    s.syncMissed = (s.setNtm { s.ntm with syncMiss := s.ntm.syncMiss + 1 }).setSync 3 := if_pos h

theorem completes_syncRound_missed (hcom : s.comUp = true) (hrun : s.tb.run ≠ .stopped)
    (hst : s.fld F.ntmStatSyncst = 2) (hb : s.ntm.syncBest = none) : Completes .syncRound s fun t =>
      t.regN A.ntmSyncerr = 0x80000000 ∧ t.regN (A.ntmCtr 5) = (s.regN (A.ntmCtr 5) + 1) % 2 ^ 32
      ∧ (s.ntm.syncMiss + 1 < s.fld F.ntmSynccfgMissn →
          t.fld F.ntmStatSyncst = 2 ∧ t.ntm.syncMiss = s.ntm.syncMiss + 1)
      ∧ (s.fld F.ntmSynccfgMissn ≤ s.ntm.syncMiss + 1 →
          t.fld F.ntmStatSyncst = 3 ∧ t.flag F.ntmIntstatSyncloss = true)
      ∧ t.ntm.time = s.ntm.time ∧ s.sameMemory t := by
  have hedge := keepsClock_edgeMissed s
  have hmiss := keepsClock_syncMissed s.edgeMissed
  have hn : s.edgeMissed.ntm.syncMiss = s.ntm.syncMiss := rfl
  have hlocked : s.edgeMissed.fld F.ntmStatSyncst = 2 := hedge.fld.trans hst
  have hmissn : s.edgeMissed.fld F.ntmSynccfgMissn = s.fld F.ntmSynccfgMissn := hedge.fld
  refine ⟨_, exec_syncRound_missed hcom hrun hst hb, hmiss.regN.trans (syncerr_edgeMissed s),
    hmiss.regN.trans (ctr_edgeMissed s), fun hfew => ?_, fun hmany => ?_, hmiss.time.trans hedge.time,
    fun a => (hmiss.memory a).trans (hedge.memory a)⟩
  · rw [syncMissed_of_few (by rw [hn, hmissn]; exact hfew)]
    exact ⟨hlocked, rfl⟩
  · rw [syncMissed_of_many (by rw [hn, hmissn]; exact hmany)]
    exact setSync_three _ hlocked

/-! ## An edge in the window (R323, R324) -/

theorem keepsClock_edgeSeen (s : State) (e : Int) : KeepsClock [A.ntmCtr 4, A.ntmSyncerr] s (s.edgeSeen e) := by
  have h := (KeepsClock.refl [A.ntmCtr 4, A.ntmSyncerr] s).setNtm (x := { s.ntm with syncBest := none }) rfl rfl rfl
  exact (h.count.keepsTime (KeepsTime.refl _).evPulse).setRegN

theorem syncerr_edgeSeen (s : State) (e : Int) : (s.edgeSeen e).regN A.ntmSyncerr = ofSigned 32 e :=
  (State.regN_setRegN_self ..).trans (Nat.mod_eq_of_lt (ofSigned_lt 32 e))

/-- The pulse that tells of an edge leaves time alone. -/
theorem keepsTime_edgePulse (s : State) :
    KeepsTime ((s.setNtm { s.ntm with syncBest := none }).count (A.ntmCtr 4))
      (((s.setNtm { s.ntm with syncBest := none }).count (A.ntmCtr 4)).evPulse 0x0F2) := (KeepsTime.refl _).evPulse

theorem ctr_edgeSeen (s : State) (e : Int) :
    (s.edgeSeen e).regN (A.ntmCtr 4) = (s.regN (A.ntmCtr 4) + 1) % 2 ^ 32 := by
  rw [State.edgeSeen, State.regN_setRegN_ne _ _ (by decide), (keepsTime_edgePulse s).regN, regN_count_self]
  rfl

theorem ntm_edgeSeen (s : State) (e : Int) : (s.edgeSeen e).ntm = { s.ntm with syncBest := none } := by
  rw [State.edgeSeen, State.setRegN_ntm, (keepsTime_edgePulse s).ntm, State.count_ntm]
  rfl

theorem stampInFlight_edgeSeen (s : State) (e : Int) : (s.edgeSeen e).stampInFlight = s.stampInFlight := by
  have hrf : (s.edgeSeen e).rf = s.rf := by
    rw [State.edgeSeen, State.setRegN_rf, (keepsTime_edgePulse s).rf, State.count_rf]
    rfl
  have htb := (keepsClock_edgeSeen s e).tb
  unfold State.stampInFlight
  rw [hrf, htb]

/-! ### Acquiring (R323) -/

section
variable {e : Int}

/-- The state of a run that an edge joined. -/
def State.runJoined (s : State) (e : Int) : State := s.setNtm { s.ntm with syncRun := e :: s.ntm.syncRun }

theorem syncAcquire_of_near (h : within100us (e :: s.ntm.syncRun) = true) :
    s.syncAcquire (some e) false = if s.fld F.ntmSynccfgAcqn ≤ s.ntm.syncRun.length + 1
      then (s.runJoined e).setSync 2 else s.runJoined e := by
  unfold State.syncAcquire
  dsimp only
  rw [if_pos h]
  rfl

theorem completes_syncRound_acquiring (hcom : s.comUp = true) (hrun : s.tb.run ≠ .stopped)
    (hst : s.fld F.ntmStatSyncst = 1) (hlearn : s.flag F.ntmSynccfgAutolearn = false) (hb : s.ntm.syncBest = some e)
    (hwin : e.natAbs ≤ s.fld F.ntmSyncwinUs * 1000) (hnear : within100us (e :: s.ntm.syncRun) = true) :
    Completes .syncRound s fun t =>
      (s.fld F.ntmSynccfgAcqn ≤ s.ntm.syncRun.length + 1 →
        t.fld F.ntmStatSyncst = 2 ∧ t.flag F.ntmIntstatSynclock = true ∧ t.flag F.ntmStatValid = true)
      ∧ (s.ntm.syncRun.length + 1 < s.fld F.ntmSynccfgAcqn →
        t.fld F.ntmStatSyncst = 1 ∧ t.ntm.syncRun = e :: s.ntm.syncRun)
      ∧ t.ntm.time = s.ntm.time ∧ s.sameMemory t := by
  have hseen := keepsClock_edgeSeen s e
  have hntm := ntm_edgeSeen s e
  have hx := exec_syncRound_acquiring hcom hrun hst hlearn hb hwin
  generalize s.edgeSeen e = u at *
  have hlist : u.ntm.syncRun = s.ntm.syncRun := by rw [hntm]
  have hacq : u.fld F.ntmSynccfgAcqn = s.fld F.ntmSynccfgAcqn := hseen.fld
  have hst' : (u.runJoined e).fld F.ntmStatSyncst = 1 := hseen.fld.trans hst
  have hjoined : KeepsClock [A.ntmStat, A.ntmIntstat] u (u.runJoined e) :=
    (KeepsClock.refl _ u).setNtm (x := { u.ntm with syncRun := e :: u.ntm.syncRun }) rfl rfl rfl
  rw [syncAcquire_of_near (by rw [hlist]; exact hnear), hacq, hlist] at hx
  by_cases hfull : s.fld F.ntmSynccfgAcqn ≤ s.ntm.syncRun.length + 1
  · rw [if_pos hfull] at hx
    have hset := hjoined.trans (keepsClock_setSync (u.runJoined e) 2)
    exact ⟨_, hx, fun _ => setSync_two _ (by rw [hst']; decide), fun hfew => absurd hfull (Nat.not_le.2 hfew),
      hset.time.trans hseen.time, fun a => (hset.memory a).trans (hseen.memory a)⟩
  · rw [if_neg hfull] at hx
    refine ⟨_, hx, fun hfull' => absurd hfull' hfull, fun _ => ⟨hst', ?_⟩, hseen.time, fun a => hseen.memory a⟩
    rw [← hlist]
    rfl

end

/-! ### Steering (R324) -/

theorem change_slew_of_free (k : SlewKind) (n : Int) (host : Option Origin) (h : s.stampInFlight = false) :
    (s.change (.slew k n) host).2 = (s.setNtm { s.ntm with waitSlew := none }).startSlew k n := by
  unfold State.change
  dsimp only
  rw [if_neg (by simp [h])]
  rfl

/-- INC and the registers that show it. -/
theorem KeepsClock.setInc (h : KeepsClock l r s) (hi : A.ntmIncint ∈ l := by decide) (hf : A.ntmIncfrac ∈ l := by decide) :
    KeepsClock l r (s.setInc v) := by
  have hx := h.setNtm (x := { s.ntm with inc := v }) rfl rfl rfl
  exact (hx.setRegN hi).setRegN hf

theorem trimInc_eq (s : State) (num den : Int) (lim : Option Nat) : ∃ n, s.trimInc num den lim = s.setInc n := ⟨_, rfl⟩

/-- What the tracker steers by (R324): a slew against the limited error, and that error for the next round. -/
structure Steered (s : State) (e c : Int) (t : State) : Prop where
  slew : t.ntm.slewRem = nsUnits (-c)
  prev : t.ntm.syncPrev = some (e, c)
  miss : t.ntm.syncMiss = 0
  best : t.ntm.syncBest = s.ntm.syncBest
  state : t.fld F.ntmStatSyncst = s.fld F.ntmStatSyncst
  clock : KeepsClock [A.ntmStat, A.ntmIntstat, A.ntmIncint, A.ntmIncfrac] s t

theorem steered_setInc {e c : Int} (h : Steered s e c t) (n : Nat) : Steered s e c (t.setInc n) := by
  refine ⟨h.slew, h.prev, h.miss, h.best, ?_, h.clock.setInc⟩
  refine (State.fld_setRegN_ne _ _ (by decide)).trans ((State.fld_setRegN_ne _ _ (by decide)).trans h.state)

/-- The error that the tracker may correct in one round. -/
def State.limitedError (s : State) (e : Int) : Int :=
  let lim : Int := s.fld F.ntmSynccfgSlew * 1000
  max (-lim) (min lim e)

/-- `t` is `s` with the marks of a phase jump set or cleared: the tracker's state stays. -/
structure JumpMarked (s t : State) : Prop where
  writes : WritesOnly [A.ntmStat, A.ntmIntstat] s t
  state : t.fld F.ntmStatSyncst = s.fld F.ntmStatSyncst

namespace JumpMarked

theorem refl (s : State) : JumpMarked s s := ⟨.refl _ s, rfl⟩

theorem ite {c : Prop} {d : Decidable c} (ht : JumpMarked s t) (hu : JumpMarked s u) :
    JumpMarked s (if c then t else u) := by
  split
  · exact ht
  · exact hu

theorem setMark (h : JumpMarked s t) : JumpMarked s (t.setFld F.ntmStatPhjump v) :=
  ⟨h.writes.setFld, (fld_setFld_of_apart t v (by decide) (by decide)).trans h.state⟩

theorem flagged (h : JumpMarked s t) : JumpMarked s (t.raise F.ntmIntstatPhjump) :=
  ⟨h.writes.raise, (State.fld_setFld_ne t 1 (by decide)).trans h.state⟩

end JumpMarked

/-- A round that steers, once its error is kept: the slew replaces what was in force. -/
theorem steered_startSlew {e c : Int} (h : JumpMarked s t) : Steered s e c
    (((t.setNtm { t.ntm with syncPrev := some (e, c), syncMiss := 0 }).setNtm
      { t.ntm with syncPrev := some (e, c), syncMiss := 0, waitSlew := none }).startSlew .sync (nsUnits (-c))) := by
  have hntm : t.ntm = s.ntm := by rw [h.writes.rest]
  have hbest : t.ntm.syncBest = s.ntm.syncBest := by rw [hntm]
  have hclock : KeepsClock [A.ntmStat, A.ntmIntstat, A.ntmIncint, A.ntmIncfrac] s t :=
    ⟨fun a _ hl => h.writes.regs a fun hm => hl (List.mem_append_left [A.ntmIncint, A.ntmIncfrac] hm),
      by rw [hntm], by rw [hntm], by rw [hntm], h.writes.tb, h.writes.sameMemory⟩
  have hkept := hclock.setNtm (x := { t.ntm with syncPrev := some (e, c), syncMiss := 0 }) rfl rfl rfl
  have hfree := hkept.setNtm (x := { t.ntm with syncPrev := some (e, c), syncMiss := 0, waitSlew := none }) rfl rfl rfl
  exact ⟨rfl, rfl, rfl, hbest, h.state, hfree.setNtm rfl rfl rfl⟩

theorem steered_syncUse (s : State) (e : Int) (hin : s.fld F.ntmStatSrcact = 2) (hf : s.stampInFlight = false) :
    Steered s e (s.limitedError e) (s.syncUse e) := by
  unfold State.syncUse
  extract_lets lim c inForce thr s1 d s2 x s4 s5
  clear_value d
  have hforce : inForce = true := by simp [inForce, hin]
  have h1 : JumpMarked s s1 := .ite (JumpMarked.refl s).setMark (.refl s)
  have h2 : JumpMarked s s2 := by
    unfold s2
    split
    · exact .ite h1.flagged.setMark h1
    · exact h1
  have hfree : s4.stampInFlight = false := by
    change s2.stampInFlight = false
    rw [h2.writes.rest]
    exact hf
  have h5 : Steered s e c s5 := by
    have hx : s5 = (s4.change (.slew .sync (nsUnits (-c))) none).2 := if_pos hforce
    rw [hx, change_slew_of_free _ _ _ hfree]
    have h4 : s4 = s2.setNtm { s2.ntm with syncPrev := some (e, c), syncMiss := 0 } := by
      unfold s4
      rw [if_pos hforce]
    rw [h4]
    exact steered_startSlew h2
  change Steered s e c _
  split
  · split
    · obtain ⟨n, hn⟩ := trimInc_eq s5 _ _ _
      rw [hn]
      exact steered_setInc h5 n
    · exact h5
  · exact h5

theorem completes_syncRound_used {e : Int} (hcom : s.comUp = true) (hrun : s.tb.run ≠ .stopped)
    (hst : s.fld F.ntmStatSyncst = 2) (hb : s.ntm.syncBest = some e) (hwin : e.natAbs ≤ s.fld F.ntmSyncwinUs * 1000)
    (hin : s.fld F.ntmStatSrcact = 2) (hf : s.stampInFlight = false) : Completes .syncRound s fun t =>
      t.ntm.slewRem = nsUnits (-s.limitedError e) ∧ t.ntm.syncPrev = some (e, s.limitedError e) ∧ t.ntm.syncMiss = 0
      ∧ t.ntm.syncBest = none ∧ t.regN A.ntmSyncerr = ofSigned 32 e ∧ t.fld F.ntmStatSyncst = 2
      ∧ t.regN (A.ntmCtr 4) = (s.regN (A.ntmCtr 4) + 1) % 2 ^ 32 ∧ t.ntm.time = s.ntm.time ∧ s.sameMemory t := by
  have hseen := keepsClock_edgeSeen s e
  have hlim : (s.edgeSeen e).limitedError e = s.limitedError e := by
    unfold State.limitedError
    rw [hseen.fld]
  have hst' : (s.edgeSeen e).fld F.ntmStatSyncst = 2 := hseen.fld.trans hst
  have hsteer := steered_syncUse (s.edgeSeen e) e (hseen.fld.trans hin) ((stampInFlight_edgeSeen s e).trans hf)
  rw [hlim] at hsteer
  refine ⟨_, exec_syncRound_used hcom hrun hst hb hwin, hsteer.slew, hsteer.prev, hsteer.miss, ?_,
    hsteer.clock.regN.trans (syncerr_edgeSeen s e), hsteer.state.trans hst', hsteer.clock.regN.trans (ctr_edgeSeen s e),
    hsteer.clock.time.trans hseen.time, fun a => (hsteer.clock.memory a).trans (hseen.memory a)⟩
  rw [hsteer.best, ntm_edgeSeen]

/-! ## The make-up of time (R309, R537) -/

/-- TMB after a make-up: whole, where the reference runs, else on the slow clock. -/
def State.tmbResumed (s : State) : State :=
  if s.flag F.pmuStatXrefrdy then (s.setTb { s.tb with run := .ref, frac := 0, lfCycles := 0 }).lower F.tmbStatLf
  else (s.setTb { s.tb with run := .lf, lfCycles := 0 }).raise F.tmbStatLf

theorem exec_tmbMakeup (hcom : s.comUp = true) (hrun : s.tb.run = .stopped) (h1 : s.pw.boot ≠ .startup)
    (h2 : s.pw.boot ≠ .held) : exec .tmbMakeup s = .next
      (((s.tmbAdd16 (s.tb.lfCycles * s.regN A.pmuLfratio)).tmbResumed).afterMakeup s.tb.now
        (s.tb.lfCycles * s.regN A.pmuLfratio)) := by
  refine congrArg Host.Outcome.next ((if_pos ?_).trans rfl)
  rw [hcom, hrun]
  simp [h1, h2]

/-- Closing a block is the ledger's own matter. -/
theorem ledgerOnly_blockClose (s : State) : ∃ rf, s.blockClose = { s with rf := rf } := by
  obtain ⟨m, h⟩ := mapBands_eq s BandLedger.close (List.range 8)
  exact ⟨_, (blockClose_eq s).trans h⟩

theorem closeBlocks_eq (s : State) (n : Nat) : ∃ rf, s.closeBlocks n = { s with rf := rf } := by
  induction n generalizing s with
  | zero => exact ⟨_, rfl⟩
  | succ n ih =>
    obtain ⟨rf, h⟩ := ledgerOnly_blockClose s
    obtain ⟨rf', h'⟩ := ih { s with rf := rf }
    unfold State.closeBlocks
    rw [h]
    exact ⟨rf', h'⟩

theorem dutyMakeup_eq (s : State) (before after : Nat) : ∃ rf, s.dutyMakeup before after = { s with rf := rf } := by
  unfold State.dutyMakeup
  generalize min 400 (after / blockTicks - before / blockTicks) = n
  exact closeBlocks_eq s n

theorem KeepsClock.mono {l' : List Nat} (h : KeepsClock l r s) (hl : l ⊆ l') : KeepsClock l' r s :=
  ⟨fun a ha hn => h.reg a ha fun hm => hn (hl hm), h.time, h.waiting, h.waitHost, h.tb, h.memory⟩

/-- The registers that a make-up of NTM may write: the round, what tells of one, and the tracker's state. -/
def makeupRegs : List Nat := [A.ntmRound0, A.ntmRound1, A.ntmCtr 3, A.ntmIntstat, A.ntmStat]

/-- NTM advances with a made-up TMB, and what it crosses is fired. -/
theorem keepsClock_ntmMakeup (s : State) (n : Nat) : KeepsClock makeupRegs (s.ntmAdd n) (s.ntmMakeup n) := by
  have hround := (keepsClock_roundsAfterChange (s.ntmAdd n)).mono (l' := makeupRegs) (by decide)
  exact .ite (hround.trans ((keepsClock_setSync _ 3).mono (by decide))) hround

theorem tmbResumed_shows (s : State) : s.tmbResumed.tb.now = s.tb.now ∧ s.tmbResumed.tb.lfCycles = 0
    ∧ (s.flag F.pmuStatXrefrdy = true →
        s.tmbResumed.tb.run = .ref ∧ s.tmbResumed.tb.frac = 0 ∧ s.tmbResumed.flag F.tmbStatLf = false)
    ∧ (s.flag F.pmuStatXrefrdy = false → s.tmbResumed.tb.run = .lf ∧ s.tmbResumed.flag F.tmbStatLf = true)
    ∧ s.tmbResumed.ntm = s.ntm ∧ s.sameMemory s.tmbResumed := by
  unfold State.tmbResumed
  split
  next h =>
    exact ⟨rfl, rfl, fun _ => ⟨rfl, rfl, flag_lower_at _⟩, fun h' => absurd (h.symm.trans h') (by decide), rfl,
      fun a => State.byte_setReg ..⟩
  next h => exact ⟨rfl, rfl, fun h' => absurd h' h, fun _ => ⟨rfl, flag_raise_at _⟩, rfl, fun a => State.byte_setReg ..⟩

theorem completes_tmbMakeup (hcom : s.comUp = true) (hrun : s.tb.run = .stopped) (h1 : s.pw.boot ≠ .startup)
    (h2 : s.pw.boot ≠ .held) : Completes .tmbMakeup s fun t =>
      let n := s.tb.lfCycles * s.regN A.pmuLfratio
      t.tb.now = (s.tb.now * 65536 + s.tb.frac + n) / 65536 % 2 ^ 64 ∧ t.tb.lfCycles = 0
      ∧ t.ntm.time = ntmWrap ((s.ntm.time + n * s.ntm.inc / 2 ^ 16 : Nat) : Int)
      ∧ (s.flag F.pmuStatXrefrdy = true → t.tb.run = .ref ∧ t.tb.frac = 0 ∧ t.flag F.tmbStatLf = false)
      ∧ (s.flag F.pmuStatXrefrdy = false → t.tb.run = .lf ∧ t.flag F.tmbStatLf = true) ∧ s.sameMemory t := by
  have hexec := exec_tmbMakeup hcom hrun h1 h2
  generalize s.tb.lfCycles * s.regN A.pmuLfratio = n at *
  obtain ⟨hnow, hcycles, href, hlf, hntm, hmem⟩ := tmbResumed_shows (s.tmbAdd16 n)
  generalize (s.tmbAdd16 n).tmbResumed = x at *
  have hclock := keepsClock_ntmMakeup x n
  obtain ⟨rf, hduty⟩ := dutyMakeup_eq (x.ntmMakeup n) s.tb.now x.tb.now
  have hflag : (x.ntmMakeup n).flag F.tmbStatLf = x.flag F.tmbStatLf := hclock.flag
  have htb : (x.ntmMakeup n).tb = x.tb := hclock.tb
  rw [State.afterMakeup, hduty] at hexec
  refine ⟨_, hexec, ?_, ?_, ?_, fun hr => ?_, fun hr => ?_, fun a => ?_⟩
  · exact (congrArg TimeBase.now htb).trans hnow
  · exact (congrArg TimeBase.lfCycles htb).trans hcycles
  · refine hclock.time.trans ?_
    change ntmWrap ((x.ntm.time + n * x.ntm.inc / 2 ^ 16 : Nat) : Int) = _
    rw [hntm]
    rfl
  · obtain ⟨hrun', hfrac, hoff⟩ := href hr
    exact ⟨(congrArg TimeBase.run htb).trans hrun', (congrArg TimeBase.frac htb).trans hfrac, hflag.trans hoff⟩
  · obtain ⟨hrun', hon⟩ := hlf hr
    exact ⟨(congrArg TimeBase.run htb).trans hrun', hflag.trans hon⟩
  · exact ((hclock.memory a).trans (hmem a))

/-! ## The obligation -/

/-- Settles O39: each event writes its own part of network time; events, interrupts, notices and the ledger keep it. -/
theorem ntmRoundsAndSync : Obligations.NtmRoundsAndSync := by
  refine fun s => ⟨fun h => ⟨_, congrArg Host.Outcome.next (if_pos h), rfl⟩,
    fun ns hw hno hd => completes_deferredAdjust_set hw hno hd, fun k u hw hs hf => completes_deferredAdjust_slew hw hs hf,
    completes_roundBoundary, completes_slotBoundary, fun rising hen hcom hrun hedge => ⟨fun hb => ?_, fun b hb => ?_⟩,
    fun hcom hrun => ⟨fun hst hb => completes_syncRound_missed hcom hrun hst hb,
      fun e hst hb hwin hin hf => completes_syncRound_used hcom hrun hst hb hwin hin hf,
      fun e hst hlearn hb hwin hnear => completes_syncRound_acquiring hcom hrun hst hlearn hb hwin hnear⟩,
    completes_tmbMakeup⟩
  · have hx := exec_syncEdge hen hcom hrun hedge
    rw [hb] at hx
    exact ⟨_, hx, rfl⟩
  · exact completes_syncEdge_next hen hcom hrun hedge hb

end Sys2Proof.Machine
end

section
/-!
No step clears a bit of the OTP (R407, R408).
-/

namespace Sys2Proof.Machine

variable {r s t : State}

/-- Every bit that is set in a word of `r`'s OTP is set in that word of `s`'s (R408). -/
def State.otpKept (r s : State) : Prop := ∀ k, r.otpWord k ||| s.otpWord k = s.otpWord k

theorem State.otpKept.trans (hrs : r.otpKept s) (hst : s.otpKept t) : r.otpKept t := fun k => by
  rw [← hst k, ← Nat.or_assoc, hrs k]

theorem State.otpKept_of_eq (h : s.otp = r.otp) : r.otpKept s := fun k => by
  rw [State.otpWord, State.otpWord, h, Nat.or_self]

theorem otpWord_orOtp_self (s : State) (w n : Nat) : (s.orOtp w n).otpWord w = (s.otpWord w ||| n) % 2 ^ 64 := by
  rw [State.otpWord, State.orOtp, Sparse.get_put_self, BitVec.toNat_ofNat]

theorem otpWord_orOtp_ne (s : State) {w k : Nat} (n : Nat) (h : k ≠ w) : (s.orOtp w n).otpWord k = s.otpWord k := by
  rw [State.otpWord, State.orOtp, Sparse.get_put_ne _ _ _ h, State.otpWord]

/-- Setting bits of a word clears none of it, and leaves the others alone. -/
theorem otpKept_orOtp (s : State) (w n : Nat) : s.otpKept (s.orOtp w n) := fun k => by
  by_cases hk : k = w
  · have hlt : s.otpWord w % 2 ^ 64 = s.otpWord w := Nat.mod_eq_of_lt (Sparse.get _ s.otp w).isLt
    rw [hk, otpWord_orOtp_self, Nat.or_mod_two_pow, hlt, ← Nat.or_assoc, Nat.or_self]
  · rw [otpWord_orOtp_ne s n hk, Nat.or_self]

theorem setByte_otp (s : State) (a : Nat) (b : Byte) : (s.setByte a b).otp = s.otp := by
  unfold State.setByte
  split
  · rfl
  · rfl
  · split <;> rfl
  · rfl

theorem setFlash_otp (s : State) (off : Nat) (bs : List Byte) : (s.setFlash off bs).otp = s.otp := by
  induction bs generalizing s off with
  | nil => rfl
  | cons b t ih => exact ih _ _

/-- Of all the writes and losses that commands are made of, one alone touches the OTP, and it sets bits. -/
theorem Evolves.otpKept (h : Evolves r s) : r.otpKept s := by
  induction h with
  | refl => exact State.otpKept_of_eq rfl
  | setByte _ ih => exact ih.trans (State.otpKept_of_eq (setByte_otp ..))
  | setFlash _ ih => exact ih.trans (State.otpKept_of_eq (setFlash_otp ..))
  | orOtp _ ih => exact ih.trans (otpKept_orOtp _ _ _)
  | setReg _ ih | dropRegs _ ih | dropRam _ ih | zeroMacro _ _ ih | dropContexts _ ih | freshContexts _ ih
  | dropFlash _ ih | takeFlash _ _ ih _ | other _ ih => exact ih

/-- Settles O59: a step is made of such writes and losses alone. -/
theorem otpBitsAreNeverCleared : Obligations.OtpBitsAreNeverCleared := by
  unfold Obligations.OtpBitsAreNeverCleared
  exact fun _ _ k h => (Evolves.of_step h).otpKept k

end Sys2Proof.Machine
end

section
/-!
A 32-bit Pip word is read whole: its fields, put together again, are the word (R493-R498, R501).
-/

namespace Sys2Proof.Machine

/-! ## Words and their fields -/

/-- The low bits of a number and the field above them are its low bits as far as that field goes. -/
theorem bitsOf_adjoin (n k m : Nat) : bitsOf n k m * 2 ^ k + bitsOf n 0 k = bitsOf n 0 (k + m) := by
  unfold bitsOf
  rw [pow_zero, Nat.div_one, pow_add, Nat.mod_mul, Nat.mul_comm, Nat.add_comm]

theorem sx_mod {k n : Nat} (hk : k ≤ 32) (hn : n < 2 ^ k) : sx k n % 2 ^ k = n := by
  obtain ⟨d, hd⟩ := Nat.exists_eq_add_of_le hk
  have hle : 2 ^ k ≤ 2 ^ 32 := Nat.pow_le_pow_right (by decide) hk
  unfold sx
  split
  · exact Nat.mod_eq_of_lt hn
  · rw [Nat.add_sub_assoc hle, hd, pow_add, show 2 ^ k * 2 ^ d - 2 ^ k = 2 ^ k * (2 ^ d - 1) by rw [Nat.mul_sub, Nat.mul_one],
      Nat.add_mul_mod_self_left, Nat.mod_eq_of_lt hn]

theorem keep_eq_some {ok : Bool} {i j : PipInsn} : keep ok i = some j ↔ ok = true ∧ i = j := by
  unfold keep
  split <;> simp_all

section
variable {w op : Nat} (hw : w < 2 ^ 32) (h31 : bitAt w 31 = true) (hop : bitsOf w 26 5 = op)
include hw h31 hop

/-- A word is its bit 31, its major opcode and the 26 bits below (R493). -/
theorem eq_of_opcode : 2 ^ 31 + op * 2 ^ 26 + bitsOf w 0 26 = w := by
  have htop : bitsOf w 31 1 = 1 := by simpa [bitAt_eq] using h31
  have h32 : bitsOf w 0 32 = w := by rw [bitsOf, pow_zero, Nat.div_one, Nat.mod_eq_of_lt hw]
  have hup : _ = bitsOf w 0 32 := bitsOf_adjoin w 31 1
  have hdown : _ = bitsOf w 0 31 := bitsOf_adjoin w 26 5
  omega

theorem eq_pipWord : pipWord op (bitsOf w 22 4) (bitsOf w 18 4) (bitsOf w 0 18) = w := by
  have h := eq_of_opcode hw h31 hop
  have h22 : _ = bitsOf w 0 26 := bitsOf_adjoin w 22 4
  have h18 : _ = bitsOf w 0 22 := bitsOf_adjoin w 18 4
  unfold pipWord
  omega

/-- The word of an instruction with an 18-bit immediate (R493). -/
theorem eq_pipWord_imm :
    pipWord op (bitsOf w 22 4) (bitsOf w 18 4) (sx 18 (bitsOf w 0 18) % 2 ^ 18) = w := by
  rw [sx_mod (by decide) (bitsOf_lt ..), eq_pipWord hw h31 hop]

/-- The word of an instruction with a field B (R493). -/
theorem eq_pipWord_b :
    pipWord op (bitsOf w 22 4) (bitsOf w 18 4) (bitsOf w 14 4 * 2 ^ 14 + bitsOf w 0 14) = w := by
  rw [bitsOf_adjoin w 14 4, eq_pipWord hw h31 hop]

/-- The word of an instruction with a 22-bit immediate (R493). -/
theorem eq_pipWord_upper : pipWord op (bitsOf w 22 4) 0 (bitsOf w 0 22 * 1024 / 2 ^ 10) = w := by
  have h := eq_of_opcode hw h31 hop
  have h22 : _ = bitsOf w 0 26 := bitsOf_adjoin w 22 4
  unfold pipWord
  omega

/-- The word of a jump with a 26-bit displacement (R493, R497). -/
theorem eq_pipWord_jump : pipWord op 0 0 (2 * sx 26 (bitsOf w 0 26) / 2 % 2 ^ 26) = w := by
  rw [Nat.mul_div_cancel_left _ (by decide), sx_mod (by decide) (bitsOf_lt ..)]
  simpa [pipWord] using eq_of_opcode hw h31 hop

end

/-! ## The functions of a major opcode -/

section
variable {w : Nat} {i : PipInsn} (hw : w < 2 ^ 32) (h31 : bitAt w 31 = true)
include hw h31

theorem pipEncode32_decodeStk (hop : bitsOf w 26 5 = 0x18) (hz : bitsOf w 6 8 = 0)
    (h : decodeStk (bitsOf w 0 6) (bitsOf w 22 4) (bitsOf w 18 4) (bitsOf w 14 4) = some i) : pipEncode32 i = w := by
  have hb := eq_pipWord_b hw h31 hop
  rw [← bitsOf_adjoin w 6 8, hz] at hb
  unfold decodeStk at h
  split at h <;> simp only [keep_eq_some, Bool.and_eq_true, decide_eq_true_eq, reduceCtorEq] at h
  all_goals
    obtain ⟨hzero, rfl⟩ := h
    simpa [pipEncode32, hzero, *] using hb

theorem pipEncode32_decodeSys {sentinel : Bool} (hop : bitsOf w 26 5 = 0x19)
    (h : decodeSys sentinel (bitsOf w 0 4) (bitsOf w 22 4) (bitsOf w 18 4) (bitsOf w 14 4) (bitsOf w 4 10) = some i) :
    pipEncode32 i = w := by
  have hb := eq_pipWord_b hw h31 hop
  rw [← bitsOf_adjoin w 4 10] at hb
  unfold decodeSys at h
  split at h <;> simp only [keep_eq_some, Bool.and_eq_true, decide_eq_true_eq, reduceCtorEq] at h
  all_goals
    obtain ⟨hzero, rfl⟩ := h
    simpa [pipEncode32, hzero, *] using hb

/-- The word of an ALU instruction (R495). -/
theorem pipEncode32_alu (hop : bitsOf w 26 5 = 0x00) (hz : bitsOf w 6 8 = 0) :
    pipEncode32 (.alu (bitsOf w 0 6) (bitsOf w 22 4) (bitsOf w 18 4) (bitsOf w 14 4)) = w := by
  have hb := eq_pipWord_b hw h31 hop
  rw [← bitsOf_adjoin w 6 8, hz, Nat.zero_mul, Nat.zero_add] at hb
  exact hb

/-- The word of an immediate shift (R494). -/
theorem pipEncode32_shi (hop : bitsOf w 26 5 = 0x07) (hz : bitsOf w 7 11 = 0) :
    pipEncode32 (.shi (bitsOf w 22 4) (bitsOf w 18 4) (bitsOf w 5 2) (bitsOf w 0 5)) = w := by
  have hb := eq_pipWord hw h31 hop
  rw [← bitsOf_adjoin w 7 11, hz, Nat.zero_mul, Nat.zero_add, ← bitsOf_adjoin w 5 2] at hb
  exact hb

/-- The word of a MEMX form (R496). -/
theorem pipEncode32_memx (hop : bitsOf w 26 5 = 0x12) (hz : bitsOf w 0 6 = 0) :
    pipEncode32 (.memx (bitsOf w 22 4) (bitsOf w 18 4) (bitsOf w 14 4) (bitsOf w 12 2) (bitsOf w 9 3) (bitsOf w 7 2)
      (bitAt w 6)) = w := by
  have hb := eq_pipWord_b hw h31 hop
  have hst : (if bitAt w 6 = true then 2 ^ 6 else 0) = bitsOf w 6 1 * 2 ^ 6 := by
    obtain h | h : bitsOf w 6 1 = 0 ∨ bitsOf w 6 1 = 1 := Nat.le_one_iff_eq_zero_or_eq_one.1 (Nat.le_of_lt_succ (bitsOf_lt w 6 1))
    · simp [bitAt_eq, h]
    · simp [bitAt_eq, h]
  rw [← bitsOf_adjoin w 12 2, ← bitsOf_adjoin w 9 3, ← bitsOf_adjoin w 7 2, ← bitsOf_adjoin w 6 1, hz] at hb
  rw [pipEncode32, hst]
  simpa [Nat.add_assoc] using hb

/-- The word of a branch (R497). -/
theorem pipEncode32_br (hop : bitsOf w 26 5 = 0x15) :
    pipEncode32 (.br (bitsOf w 22 4) (bitsOf w 18 4) (bitsOf w 14 4) (2 * sx 14 (bitsOf w 0 14))) = w := by
  change pipWord 0x15 _ _ (_ + 2 * _ / 2 % 2 ^ 14) = w
  rw [Nat.mul_div_cancel_left _ (by decide), sx_mod (by decide) (bitsOf_lt ..), eq_pipWord_b hw h31 hop]

/-- The word of a floating-point function (R501). -/
theorem pipEncode32_fp (hop : bitsOf w 26 5 = 0x1A) (hz : bitsOf w 6 5 = 0) :
    pipEncode32 (.fp (bitsOf w 0 6) (bitsOf w 11 3) (bitsOf w 22 4) (bitsOf w 18 4) (bitsOf w 14 4)) = w := by
  have hb := eq_pipWord_b hw h31 hop
  rw [← bitsOf_adjoin w 11 3, ← bitsOf_adjoin w 6 5, hz] at hb
  simpa [pipEncode32, Nat.add_assoc] using hb

theorem pipEncode32_decode32 {sentinel : Bool} (h : decode32 sentinel w = some i) : pipEncode32 i = w := by
  unfold decode32 at h
  split at h <;> simp only [keep_eq_some, Option.some.injEq, Bool.and_eq_true, decide_eq_true_eq, reduceCtorEq] at h
  all_goals rename_i hop
  case h_1 => obtain ⟨⟨hz, -⟩, rfl⟩ := h; exact pipEncode32_alu hw h31 hop hz
  case h_8 => obtain ⟨⟨hz, -⟩, rfl⟩ := h; exact pipEncode32_shi hw h31 hop hz
  case h_9 => subst h; exact eq_pipWord_upper hw h31 hop
  case h_10 => subst h; exact eq_pipWord_upper hw h31 hop
  case h_19 => obtain ⟨⟨hz, -⟩, rfl⟩ := h; exact pipEncode32_memx hw h31 hop hz
  case h_20 => obtain ⟨-, rfl⟩ := h; exact eq_pipWord_imm hw h31 hop
  case h_21 => obtain ⟨-, rfl⟩ := h; exact eq_pipWord_imm hw h31 hop
  case h_22 => obtain ⟨-, rfl⟩ := h; exact pipEncode32_br hw h31 hop
  case h_23 => subst h; exact eq_pipWord_jump hw h31 hop
  case h_24 => subst h; exact eq_pipWord_jump hw h31 hop
  case h_25 =>
    split at h
    case isTrue hz => exact pipEncode32_decodeStk hw h31 hop hz h
    case isFalse => cases h
  case h_26 => exact pipEncode32_decodeSys hw h31 hop h
  case h_27 => obtain ⟨⟨⟨⟨⟨⟨-, hz⟩, -⟩, -⟩, -⟩, -⟩, rfl⟩ := h; exact pipEncode32_fp hw h31 hop hz
  case h_28 => obtain ⟨-, rfl⟩ := h; exact eq_pipWord_imm hw h31 hop
  all_goals
    subst h
    exact eq_pipWord_imm hw h31 hop

end

/-- Settles O60: the fields that spell an instruction, with the zeros that its encoding asks for, are all of the word. -/
theorem pipWordsAreReadWhole : Obligations.PipWordsAreReadWhole := by
  unfold Obligations.PipWordsAreReadWhole
  exact fun _ _ _ hw h31 h => pipEncode32_decode32 hw h31 h

end Sys2Proof.Machine
end

section
/-!
A step takes the front command; on an empty queue one edge of the clock passes (R537).
-/

namespace Sys2Proof.Machine

/-- Settles O1: a step is defined by what stands at the front. -/
theorem stepRunsFrontCommand : Obligations.StepRunsFrontCommand := by
  unfold Obligations.StepRunsFrontCommand
  exact fun _ _ _ => rfl

/-! ## What happens beside the time base at an edge -/

/-- The time base, the counts of ticks, the queue and memory are as in `s`. -/
structure State.BesideEdge (s t : State) : Prop where
  tb : t.tb = s.tb
  tick : t.tick = s.tick
  pending : t.pending = s.pending
  memory : s.sameMemory t

namespace State.BesideEdge

variable {s t u : State} {c : Prop} {i : Decidable c}

theorem refl (s : State) : s.BesideEdge s := ⟨rfl, rfl, rfl, fun _ => rfl⟩

theorem ite (ht : s.BesideEdge t) (hu : s.BesideEdge u) : s.BesideEdge (if c then t else u) := by
  split
  · exact ht
  · exact hu

theorem other {regs pw rf ntm snp fw} (h : s.BesideEdge t) :
    s.BesideEdge { t with regs := regs, pw := pw, rf := rf, ntm := ntm, snp := snp, fw := fw } :=
  ⟨h.tb, h.tick, h.pending, h.memory⟩

theorem snapFreeze (h : s.BesideEdge t) : s.BesideEdge t.snapFreeze := .ite h.other h

theorem ntmTick (h : s.BesideEdge t) : s.BesideEdge t.ntmTick := h.other

theorem setChain (h : s.BesideEdge t) {c : Chain} {x : ChainState} : s.BesideEdge (t.setChain c x) := by
  obtain ⟨rf, hrf⟩ := setChain_eq t c x
  rw [hrf]
  exact h.other

theorem femEdge (h : s.BesideEdge t) {c : Chain} : s.BesideEdge (t.femEdge c) := by
  unfold State.femEdge
  split
  · exact .ite h.setChain h
  · exact h

theorem lfCycle (h : s.BesideEdge t) : s.BesideEdge t.lfCycle := by
  have hwatchdog : s.BesideEdge (t.setRegN A.pmuWakecnt (t.regN A.pmuWakecnt - 1)).watchdogCycle :=
    .ite h.other (.ite h.other h.other)
  exact .ite hwatchdog.other hwatchdog

theorem lfTick (h : s.BesideEdge t) : s.BesideEdge t.lfTick := .ite h.other h.other.lfCycle

end State.BesideEdge

/-! ## The edge -/

/-- `t` follows `s` by one edge: a tick of CK_REF where TMB counts it, and nothing of the queue or of memory. -/
def State.EdgeAfter (s t : State) : Prop :=
  t.pending = s.pending ∧ t.tick = s.tick + 1 ∧ (s.tb.run = .ref → t.tb.now = (s.tb.now + 1) % 2 ^ 64) ∧ s.sameMemory t

theorem State.BesideEdge.edgeAfter {s t : State} {tb : TimeBase}
    (h : ({ s with tick := s.tick + 1, tb := tb } : State).BesideEdge t)
    (hnow : s.tb.run = .ref → tb.now = (s.tb.now + 1) % 2 ^ 64) : s.EdgeAfter t :=
  ⟨h.pending, h.tick, by rwa [h.tb], h.memory⟩

theorem edgeAfter_clockEdge (s : State) : s.EdgeAfter s.clockEdge := by
  unfold State.clockEdge
  extract_lets x
  cases hrun : x.tb.run with
  | ref =>
    obtain ⟨htb, htick, hpending, hmem⟩ := (State.BesideEdge.refl x).snapFreeze
    have hset (tb : TimeBase) : ({ s with tick := s.tick + 1, tb := tb } : State).BesideEdge (x.snapFreeze.setTb tb) :=
      ⟨rfl, htick, hpending, hmem⟩
    refine (hset _).ntmTick.femEdge.femEdge.lfTick.edgeAfter fun _ => ?_
    exact congrArg (fun tb : TimeBase => (tb.now + 1) % 2 ^ 64) htb
  | lf => exact (State.BesideEdge.refl _).other.lfCycle.edgeAfter fun h => absurd (hrun.symm.trans h) (by decide)
  | stopped => exact (State.BesideEdge.refl _).lfCycle.edgeAfter fun h => absurd (hrun.symm.trans h) (by decide)

/-- Settles O2: with no command waiting a step is an edge. -/
theorem idleStepIsOneClockEdge : Obligations.IdleStepIsOneClockEdge := by
  unfold Obligations.IdleStepIsOneClockEdge
  intro s hs
  obtain ⟨hpending, htick, hnow, hmem⟩ := edgeAfter_clockEdge s
  exact ⟨s.clockEdge, by rw [step, hs], hpending.trans hs, htick, hnow, hmem⟩

end Sys2Proof.Machine
end

section
/-!
What an instruction of a Pip core leaves: the pc and the cycle count go on, and of the rest what its effect wrote.
-/

namespace Sys2Proof.Machine

variable {s t u x : State} {core next d : Nat} {v w : Word} {i : PipInsn} {c c' : PipCore}
  {pick : PipInsn → Option (State → PipOut)} {f : State → PipOut}

/-! ## Numbers as words -/

theorem ofN_mod (n : Nat) : Word.ofN (n % 2 ^ 32) = Word.ofN n := BitVec.eq_of_toNat_eq (by simp)

theorem ofN_add32 (a b : Nat) : Word.ofN (add32 a b) = Word.ofN (a + b) := ofN_mod _

/-! ## Registers of a core -/

@[simp] theorem g_setG_self (s : State) (k r : Nat) (v : Word) : (s.setG k r v).g k r = v := by
  simp [State.g, State.setG]

theorem g_setG_ne (s : State) (k : Nat) {q r : Nat} (v : Word) (h : q ≠ r) : (s.setG k r v).g k q = s.g k q := by
  simp [State.g, State.setG, Sparse.get_put_ne _ _ _ h]

@[simp] theorem fr_setG (s : State) (k q r : Nat) (v : Word) : (s.setG k r v).fr k q = s.fr k q := by
  simp [State.fr, State.setG]

@[simp] theorem fr_setF_self (s : State) (k r : Nat) (v : Word) : (s.setF k r v).fr k r = v := by
  simp [State.fr, State.setF]

theorem fr_setF_ne (s : State) (k : Nat) {q r : Nat} (v : Word) (h : q ≠ r) : (s.setF k r v).fr k q = s.fr k q := by
  simp [State.fr, State.setF, Sparse.get_put_ne _ _ _ h]

@[simp] theorem g_setF (s : State) (k q r : Nat) (v : Word) : (s.setF k r v).g k q = s.g k q := by
  simp [State.g, State.setF]

/-! ## What an effect may write -/

/-- Of the cores, `core` alone differs from `u`: it is `c` but for its general and floating-point registers. No register of
the map has changed. -/
structure State.Leaves (u t : State) (core : Nat) (c : PipCore) : Prop where
  self : t.core core = { c with g := (t.core core).g, f := (t.core core).f }
  others : ∀ k, k ≠ core → t.core k = u.core k
  regs : u.sameRegsBut t []

namespace State.Leaves

theorem of_eq (hpip : t.pip = u.pip) (hregs : t.regs = u.regs) : u.Leaves t core (u.core core) := by
  have hcore (k : Nat) : t.core k = u.core k := by unfold State.core; rw [hpip]
  exact ⟨by rw [hcore], fun k _ => hcore k, fun a _ => congrArg (Sparse.get regReset · a) hregs⟩

theorem setCore (h : u.Leaves t core c) {e : PipCore} (he : e = { c' with g := e.g, f := e.f }) :
    u.Leaves (t.setCore core e) core c' where
  self := by rwa [core_setCore_self]
  others k hk := (core_setCore_ne t e hk).trans (h.others k hk)
  regs := h.regs

theorem setG (h : u.Leaves t core c) : u.Leaves (t.setG core d v) core c :=
  h.setCore (by rw [h.self])

theorem setF (h : u.Leaves t core c) : u.Leaves (t.setF core d v) core c :=
  h.setCore (by rw [h.self])

end State.Leaves

theorem setsNone_of_eq (hpip : t.pip = u.pip) : u.setsNone t core := by
  have hcore : t.core core = u.core core := by unfold State.core; rw [hpip]
  exact ⟨fun r => by rw [State.g, hcore, State.g], fun r => by rw [State.fr, hcore, State.fr]⟩

theorem setsNone_setCore (h : u.setsNone t core) (hg : c.g = (t.core core).g) (hf : c.f = (t.core core).f) :
    u.setsNone (t.setCore core c) core := by
  obtain ⟨hgs, hfs⟩ := h
  exact ⟨fun r => by rw [← hgs, State.g, core_setCore_self, hg, State.g],
    fun r => by rw [← hfs, State.fr, core_setCore_self, hf, State.fr]⟩

theorem setsG_setG (h : u.setsNone t core) : u.setsG (t.setG core d v) core d v := by
  obtain ⟨hg, hf⟩ := h
  exact ⟨g_setG_self .., fun r hr => (g_setG_ne t core v hr).trans (hg r), fun r => (fr_setG ..).trans (hf r)⟩

theorem setsF_setF (h : u.setsNone t core) : u.setsF (t.setF core d v) core d v := by
  obtain ⟨hg, hf⟩ := h
  exact ⟨fr_setF_self .., fun r hr => (fr_setF_ne t core v hr).trans (hf r), fun r => (g_setF ..).trans (hg r)⟩

theorem sameMemory_setCore (h : u.sameMemory t) (k : Nat) (c : PipCore) : u.sameMemory (t.setCore k c) := h

theorem sameMemory_setG (h : u.sameMemory t) : u.sameMemory (t.setG core d v) := h

theorem sameMemory_setF (h : u.sameMemory t) : u.sameMemory (t.setF core d v) := h

/-! ## The end of an instruction (R492, R502) -/

/-- The state in which an instruction that completes over `t` leaves the machine. -/
def State.ended (t : State) (core next : Nat) : State := (t.setPc core next).spendCycles core

/-- The core that has gone on holds the next pc and a later cycle count. -/
theorem core_ended (t : State) (core next : Nat) :
    (t.ended core next).core core
      = { t.core core with pc := Word.ofN next, cycle := ((t.ended core next).core core).cycle } :=
  core_spendCycles_setPc t core next

theorem core_ended_ne (t : State) (next : Nat) {k : Nat} (h : k ≠ core) : (t.ended core next).core k = t.core k :=
  (core_setCore_ne _ _ h).trans (core_setCore_ne t _ h)

theorem byte_ended (t : State) (core next a : Nat) : (t.ended core next).byte a = t.byte a := rfl

theorem sameMemory_ended (h : u.sameMemory t) : u.sameMemory (t.ended core next) := h

@[simp] theorem g_ended (t : State) (core next r : Nat) : (t.ended core next).g core r = t.g core r := by
  rw [State.g, core_ended, State.g]

@[simp] theorem fr_ended (t : State) (core next r : Nat) : (t.ended core next).fr core r = t.fr core r := by
  rw [State.fr, core_ended, State.fr]

theorem goesOn_ended (h : u.Leaves t core c) : u.goesOn (t.ended core next) core c next := by
  refine ⟨?_, fun k hk => (core_ended_ne t next hk).trans (h.others k hk), h.regs⟩
  rw [core_ended, h.self]

theorem setsNone_ended (h : u.setsNone t core) : u.setsNone (t.ended core next) core := by
  simpa only [State.setsNone, g_ended, fr_ended] using h

theorem setsG_ended (h : u.setsG t core d v) : u.setsG (t.ended core next) core d v := by
  simpa only [State.setsG, g_ended, fr_ended] using h

theorem setsF_ended (h : u.setsF t core d v) : u.setsF (t.ended core next) core d v := by
  simpa only [State.setsF, g_ended, fr_ended] using h

/-! ## Instructions that complete -/

section
variable {n : Instr} {post : State → Prop} (hexec : exec n s = .next (pipRun core w pick s)) (h : s.begins core w i u)
  (hp : pick i = some f)
include hexec h hp

theorem completes_of_ok (hf : f u = .ok t next) (hpost : post (t.ended core next)) : Completes n s post :=
  ⟨_, hexec.trans (congrArg _ (pipRun_of_begins h hp hf)), hpost⟩

/-- An instruction that answers in gD and goes on (R494). -/
theorem completes_result (hf : f u = t.result core (insnLen w) d v) (hpip : t.pip = u.pip) (hregs : t.regs = u.regs)
    (hmem : u.sameMemory t) : Completes n s fun x => u.wroteG x core w d v := by
  have hafter : t.after core (insnLen w) = u.nextPc core w := by
    unfold State.after State.pc State.core
    rw [hpip]
    rfl
  refine completes_of_ok hexec h hp hf ⟨setsG_ended (setsG_setG (setsNone_of_eq hpip)), ?_, sameMemory_ended hmem⟩
  rw [← hafter]
  exact goesOn_ended (State.Leaves.of_eq hpip hregs).setG

end
end Sys2Proof.Machine
end

section
/-!
Integer and floating-point instructions of a Pip core (R472, R494-R501, R505).
-/

namespace Sys2Proof.Machine

variable {s t u : State} {core d : Nat} {w : Word}

theorem nextPc_eq_after (u : State) (core : Nat) (w : Word) : u.after core (insnLen w) = u.nextPc core w := rfl

/-- An instruction that answers in gD over the state it began in. -/
theorem completes_answer {n : Instr} {i : PipInsn} {pick : PipInsn → Option (State → PipOut)} {f : State → PipOut} {v : Word}
    (h : s.begins core w i u) (hexec : exec n s = .next (pipRun core w pick s)) (hp : pick i = some f)
    (hf : f u = u.result core (insnLen w) d v) : Completes n s fun t => u.wroteG t core w d v :=
  completes_result hexec h hp hf rfl rfl fun _ => rfl

/-- Setting dsp leaves the other registers of the core. -/
theorem leaves_setDsp (h : u.Leaves t core (u.core core)) (a : Nat) :
    u.Leaves (t.setDsp core a) core { u.core core with dsp := Word.ofN a } :=
  h.setCore (by rw [h.self])

theorem setsNone_setDsp (h : u.setsNone t core) (a : Nat) : u.setsNone (t.setDsp core a) core :=
  setsNone_setCore h rfl rfl

/-- An instruction that sets dsp, and nothing else (R472). -/
theorem completes_setDsp {n : Instr} {i : PipInsn} {pick : PipInsn → Option (State → PipOut)} {f : State → PipOut} {a : Nat}
    (h : s.begins core w i u) (hexec : exec n s = .next (pipRun core w pick s)) (hp : pick i = some f)
    (hf : f u = .ok (u.setDsp core a) (u.after core (insnLen w))) :
    Completes n s fun t => u.setsNone t core
      ∧ u.goesOn t core { u.core core with dsp := Word.ofN a } (u.nextPc core w) ∧ u.sameMemory t :=
  completes_of_ok hexec h hp hf ⟨setsNone_ended (setsNone_setDsp (setsNone_of_eq rfl) a),
    goesOn_ended (leaves_setDsp (.of_eq rfl rfl) a), fun _ => rfl⟩

/-- A floating-point function whose flags do not trap (R501, R505). -/
theorem completes_fp {fn rm a b : Nat} (h : s.begins core w (.fp fn rm d a b) u) :
    let st := (u.core core).fpstat.toNat
    let r := fpFn fn (if rm = 4 then bitsOf st 8 2 else rm) (if fpFromG fn then u.g core a else u.fr core a)
      (u.fr core b) (u.fr core d)
    r.flags &&& bitsOf st 16 5 = 0 →
    Completes (.fp core w) s fun t =>
      u.goesOn t core { u.core core with fpstat := Word.ofN (st ||| r.flags) } (u.nextPc core w)
      ∧ (fpToG fn = true → u.setsG t core d r.val) ∧ (fpToG fn = false → u.setsF t core d r.val) ∧ u.sameMemory t := by
  intro st r hquiet
  set x := u.setCore core { u.core core with fpstat := Word.ofN (st ||| r.flags) } with hx
  have hleaves : u.Leaves x core { u.core core with fpstat := Word.ofN (st ||| r.flags) } :=
    (State.Leaves.of_eq rfl rfl).setCore rfl
  have hnone : u.setsNone x core := setsNone_setCore (setsNone_of_eq rfl) rfl rfl
  have hmem : u.sameMemory x := sameMemory_setCore (fun _ => rfl) _ _
  have hafter : x.after core (insnLen w) = u.nextPc core w := by
    rw [State.after, State.pc, hx, core_setCore_self]
    rfl
  have hquiet' : (r.flags &&& bitsOf st 16 5 != 0) = false := by simp [hquiet]
  cases hto : fpToG fn with
  | true =>
    refine completes_of_ok (t := x.setG core d r.val) (next := x.after core (insnLen w)) rfl h rfl ?_ ?_
    · exact (if_neg (Bool.eq_false_iff.1 hquiet')).trans (if_pos hto)
    · rw [hafter]
      exact ⟨goesOn_ended hleaves.setG, fun _ => setsG_ended (setsG_setG hnone), nofun,
        sameMemory_ended (sameMemory_setG hmem)⟩
  | false =>
    refine completes_of_ok (t := x.setF core d r.val) (next := x.after core (insnLen w)) rfl h rfl ?_ ?_
    · exact (if_neg (Bool.eq_false_iff.1 hquiet')).trans (if_neg (Bool.eq_false_iff.1 hto))
    · rw [hafter]
      exact ⟨goesOn_ended hleaves.setF, nofun, fun _ => setsF_ended (setsF_setF hnone),
        sameMemory_ended (sameMemory_setF hmem)⟩

theorem truth_eq (p : Prop) [Decidable p] : truth (decide p) = if p then 1 else 0 := by
  unfold truth
  simp only [decide_eq_true_eq]

/-- Settles O49: each instruction's effect is one register written, and what goes on around it writes no other. -/
theorem pipArithmetic : Obligations.PipArithmetic := by
  unfold Obligations.PipArithmetic
  refine fun s core w u => ⟨fun fn d a b h => completes_answer h rfl rfl rfl, fun d a h => completes_answer h rfl rfl rfl,
    fun d a h => completes_answer h rfl rfl rfl,
    fun d a imm => ⟨fun h => completes_answer h rfl rfl rfl, fun h => completes_answer h rfl rfl rfl,
      fun h => completes_answer h rfl rfl rfl, fun h => completes_answer h rfl rfl rfl, fun h => ?tlti, fun h => ?tltiu⟩,
    fun d a sh => ⟨fun h => completes_answer h rfl rfl rfl, fun h => completes_answer h rfl rfl rfl,
      fun h => completes_answer h rfl rfl rfl⟩,
    fun d imm => ⟨fun h => completes_answer h rfl rfl rfl, fun h => completes_answer h rfl rfl rfl,
      fun h => completes_answer h rfl rfl rfl, fun h => ?address, fun h => ?adjust⟩,
    fun d => ⟨fun h => ?getdsp, fun h => ?getrsp, fun h => ?setdsp⟩, fun fn rm d a b h => completes_fp h⟩
  case tlti => rw [← truth_eq]; exact completes_answer h rfl rfl rfl
  case tltiu => rw [← truth_eq]; exact completes_answer h rfl rfl rfl
  case address => rw [← ofN_add32]; exact completes_answer h rfl rfl rfl
  case adjust => rw [← ofN_add32]; exact completes_setDsp h rfl rfl rfl
  case getdsp =>
    have hdsp : Word.ofN (u.dsp core) = (u.core core).dsp := BitVec.ofNat_toNat ..
    rw [← hdsp]
    exact completes_answer h rfl rfl rfl
  case getrsp =>
    have hrsp : Word.ofN (u.rsp core) = if u.coreMach core then (u.core core).rspm else (u.core core).rspu := by
      unfold State.rsp
      split
      · exact BitVec.ofNat_toNat ..
      · exact BitVec.ofNat_toNat ..
    rw [← hrsp]
    exact completes_answer h rfl rfl rfl
  case setdsp =>
    have hval : Word.ofN (u.g core d).toNat = u.g core d := BitVec.ofNat_toNat ..
    rw [← hval]
    exact completes_setDsp h rfl rfl rfl

end Sys2Proof.Machine
end

section
/-!
Exceptions of a Pip core (R483-R485): an instruction that raises one enters its vector at the pc it began at.
-/

namespace Sys2Proof.Machine

variable {s t u x : State} {core k a vec : Nat} {w : Word} {i : PipInsn} {e : PipExc}
  {pick : PipInsn → Option (State → PipOut)} {f : State → PipOut}

/-! ## A fetch leaves the cores alone (R30, R404) -/

theorem pip_touchPlane (s : State) (p : Nat) : (s.touchPlane p).pip = s.pip := by
  unfold State.touchPlane
  split
  · exact (apply_ite State.pip ..).trans (ite_self _)
  · split
    · exact (apply_ite State.pip ..).trans (ite_self _)
    · rfl

theorem pip_eccStep (h : (s.eccStep k a).1 = false) : (s.eccStep k a).2.pip = s.pip := by
  unfold State.eccStep at h ⊢
  split at h
  · rfl
  · split at h <;> cases h
  · exact (apply_ite State.pip ..).trans (ite_self _)

theorem pip_fetchHalf {n : Nat} (h : s.fetchHalf k a = (some n, t)) : t.pip = s.pip := by
  unfold State.fetchHalf at h
  extract_lets r executable x at h
  have hx : x.pip = s.pip := by
    unfold x
    split
    · exact pip_touchPlane ..
    · rfl
  split at h
  · cases h
  · cases hbad : (x.eccStep k a).1 with
    | true => simp [hbad] at h
    | false =>
      simp only [hbad, Bool.false_eq_true, if_false, Prod.mk.injEq] at h
      rw [← h.2, pip_eccStep hbad, hx]

theorem pip_fetch {n : Nat} (h : s.fetch k = .word n t) : t.pip = s.pip := by
  unfold State.fetch at h
  extract_lets a b at h
  split at h
  · cases h
  · split at h
    · cases h
    next m y hm =>
      split at h
      · obtain ⟨rfl, rfl⟩ := Fetched.word.inj h
        exact pip_fetchHalf hm
      · split at h
        · cases h
        · split at h
          · cases h
          next m' y' hm' =>
            obtain ⟨rfl, rfl⟩ := Fetched.word.inj h
            exact (pip_fetchHalf hm').trans (pip_fetchHalf hm)

theorem pc_of_begins (h : s.begins core w i u) : u.pc core = s.pc core := by
  obtain ⟨-, -, -, -, f, hfetch, rfl⟩ := h
  rw [State.pc, core_setCore_self, State.pc, State.core, State.core, pip_fetch hfetch]

/-! ## Instructions that raise an exception -/

/-- The ILEN field of ECAUSE for an instruction word (R483). -/
theorem ilen_lt (w : Word) : b2n (bitAt w.toNat 31) < 2 := by
  cases bitAt w.toNat 31 <;> decide

theorem next_eq_nextPc (h : u.pc core = s.pc core) (w : Word) :
    (s.pc core + 2 + 2 * b2n (bitAt w.toNat 31)) % 2 ^ 32 = u.nextPc core w := by
  unfold State.nextPc insnLen
  rw [h]
  cases bitAt w.toNat 31 <;> rfl

theorem pipRun_of_raised (h : s.begins core w i u) (hp : pick i = some f) (hf : f u = .exc x e) :
    pipRun core w pick s
      = x.takeExc core e (b2n (bitAt w.toNat 31)) 0 (if e.after then u.nextPc core w else u.pc core) := by
  have hpc := pc_of_begins h
  obtain ⟨hrun, hint, hdec, hpriv, g, hfetch, rfl⟩ := h
  have hmach : (i.privileged && !s.coreMach core) = false := by
    cases hi : i.privileged
    · rfl
    · simp [hpriv hi]
  rw [← next_eq_nextPc hpc, hpc]
  unfold pipRun
  simp [hrun, hint, hfetch, hdec, hp, hmach, hf]

/-! ## Taking an exception (R485) -/

theorem region_mainSram_iff : region a = .mainSram ↔ 0x20000000 ≤ a ∧ a < 0x20600000 := by
  unfold region
  split_ifs with h1 h2 h3
  · simp; omega
  · simp at h2 ⊢; omega
  · simpa using h3
  all_goals simpa using fun h => by simpa [h] using h3

theorem region_retained_iff : region a = .retained ↔ 0x24000000 ≤ a ∧ a < 0x24040000 := by
  unfold region
  split_ifs with h1 h2 h3 h4
  · simp; omega
  · simp at h2 ⊢; omega
  · simp at h3 ⊢; omega
  · simpa using h4
  all_goals simpa using fun h => by simpa [h] using h4

/-- Main or retained SRAM. -/
theorem ramAt_of_sram (h : region a = .mainSram ∨ region a = .retained) : ramAt a = true := by
  unfold ramAt
  obtain h | h := h <;> rw [h] <;> rfl

/-- A range that begins and ends in one part of the SRAM lies in it. -/
theorem sram_between {b n : Nat} (hr : region a = .mainSram ∨ region a = .retained) (hend : region (a + n) = region a)
    (hl : a ≤ b) (hu : b ≤ a + n) : region b = .mainSram ∨ region b = .retained := by
  obtain h | h := hr
  · rw [h, region_mainSram_iff] at hend
    rw [region_mainSram_iff] at h
    exact .inl (region_mainSram_iff.2 (by omega))
  · rw [h, region_retained_iff] at hend
    rw [region_retained_iff] at h
    exact .inr (region_retained_iff.2 (by omega))

/-! ## Reads of SRAM -/

/-- A read of SRAM that answers, without an ECC mark. -/
theorem busLoad_sram (hr : region a = .mainSram ∨ region a = .retained ∨ region a = .context) (hm : s.memAnswers a = true)
    (he : Sparse.find? s.ecc (a / 8) = none) (k : Nat) (rom : Bool) (n : Nat) :
    s.busLoad k rom a n = (s.mem a n, s.answerRead (Word.ofN (s.mem a n))) := by
  unfold State.busLoad State.eccStep
  obtain h | h | h := hr <;> simp [h, hm, he]

/-! ## Bytes of memory one after another -/

theorem bytes_add (s : State) (a m n : Nat) : s.bytes a (m + n) = s.bytes a m ++ s.bytes (a + m) n := by
  induction m generalizing a with
  | zero => simp [State.bytes]
  | succ m ih =>
    have hstep : a + (m + 1) = a + 1 + m := by omega
    rw [Nat.succ_add, State.bytes, State.bytes, ih, hstep, List.cons_append]

theorem length_bytes (s : State) (a n : Nat) : (s.bytes a n).length = n := by
  induction n generalizing a with
  | zero => rfl
  | succ n ih => rw [State.bytes, List.length_cons, ih]

/-- The numbers in two runs of bytes that follow one another. -/
theorem bytes_split {l l' : List Byte} {m n : Nat} (hl : l.length = m) (h : s.bytes a (m + n) = l ++ l') :
    s.bytes a m = l ∧ s.bytes (a + m) n = l' := by
  rw [bytes_add] at h
  exact List.append_inj h (by rw [length_bytes, hl])

/-! ## Taking an exception (R485) -/

/-- The frame of an exception: where it resumes, PSR, EFRAME and ECAUSE. -/
def excFrame (c : PipCore) (epc ecause : Nat) : List Byte :=
  leBytes 4 (epc ||| 1) ++ leBytes 4 c.psr.toNat ++ leBytes 4 c.eframe.toNat ++ leBytes 4 ecause

theorem length_excFrame (c : PipCore) (epc ecause : Nat) : (excFrame c epc ecause).length = 16 := by
  simp [excFrame]

/-- What a frame in memory reads as. -/
theorem mem_excFrame {c : PipCore} {sp epc ecause : Nat} (hepc : epc < 2 ^ 32) (h : t.bytes sp 16 = excFrame c epc ecause) :
    t.mem sp 4 = epc ||| 1 ∧ t.mem (sp + 4) 4 = c.psr.toNat ∧ t.mem (sp + 8) 4 = c.eframe.toNat
      ∧ t.mem (sp + 12) 4 = ecause % 2 ^ 32 := by
  have hle (n : Nat) : leNat (leBytes 4 n) = n % 2 ^ 32 := leNat_leBytes 4 n
  obtain ⟨habc, hd⟩ := bytes_split (m := 12) (n := 4) (by simp) h
  obtain ⟨hab, hc⟩ := bytes_split (m := 8) (n := 4) (by simp) habc
  obtain ⟨ha, hb⟩ := bytes_split (m := 4) (n := 4) (by simp) hab
  have hor : epc ||| 1 < 2 ^ 32 := Nat.or_lt_two_pow hepc (by decide)
  unfold State.mem
  rw [ha, hb, hc, hd, hle, hle, hle, hle, Nat.mod_eq_of_lt hor, Nat.mod_eq_of_lt c.psr.isLt, Nat.mod_eq_of_lt c.eframe.isLt]
  exact ⟨rfl, rfl, rfl, rfl⟩

section
variable {ilen einsn epc : Nat}

/-- ECAUSE of an exception (R483). -/
def PipExc.cause (e : PipExc) (ilen : Nat) : Nat := 2 ^ 16 * e.detail + 2 ^ 8 * ilen + e.vec

/-- A core that has noted its exception's cause. -/
def PipCore.noted (c : PipCore) (e : PipExc) (ilen einsn : Nat) : PipCore :=
  { c with ecause := Word.ofN (e.cause ilen), eaddr := Word.ofN e.eaddr, einsn := Word.ofN einsn }

/-- A core at its vector, with the frame at `sp`. -/
def PipCore.vectored (c : PipCore) (sp pc : Nat) : PipCore :=
  { c with rspm := Word.ofN sp, eframe := Word.ofN sp, psr := Word.ofN (16 * (bitsOf c.psr.toNat 4 4 + 1) + 2),
           pc := Word.ofN pc, entered := true }

/-- Where the frame of the next exception of a core goes. -/
def PipCore.frameAt (c : PipCore) : Nat := (c.rspm.toNat + 2 ^ 32 - 16) % 2 ^ 32

/-- Where a core finds a vector. -/
def PipCore.vectorAt (c : PipCore) (vec : Nat) : Nat := (c.vbase.toNat + 4 * vec) % 2 ^ 32

/-- What an exception comes to, by where its frame and its vector lie. -/
theorem takeExc_eq (s : State) (k : Nat) (e : PipExc) (ilen einsn epc : Nat) :
    s.takeExc k e ilen einsn epc =
      let c := s.core k
      let x := s.setCore k (c.noted e ilen einsn)
      if s.stalls c.frameAt then s.demandCluster (clusterOf c.frameAt)
      else if s.stalls (c.vectorAt e.vec) then s.demandCluster (clusterOf (c.vectorAt e.vec))
      else if bitsOf c.psr.toNat 4 4 = 15 then s.lockUp k (e.cause ilen) e.eaddr
      else if c.frameAt < c.rsmBase.toNat || c.rsmLim.toNat ≤ c.frameAt then x.lockUp k (e.cause ilen) e.eaddr
      else
        let r := (x.frameWrite c.frameAt (excFrame c epc (e.cause ilen))).busLoad k false (c.vectorAt e.vec) 4
        if r.2.busError || r.1 % 2 = 1 then r.2.lockUp k (e.cause ilen) e.eaddr
        else
          r.2.setCore k { r.2.core k with
            rspm := Word.ofN c.frameAt, eframe := Word.ofN c.frameAt,
            psr := Word.ofN (16 * (bitsOf c.psr.toNat 4 4 + 1) + 2), pc := Word.ofN r.1, entered := true } := rfl

theorem memAnswers_setCore (s : State) (k : Nat) (c : PipCore) (a : Nat) :
    (s.setCore k c).memAnswers a = s.memAnswers a := rfl

theorem memAnswers_setRam (s : State) (ram : List Host.Cell) (a : Nat) :
    ({ s with ram := ram } : State).memAnswers a = s.memAnswers a := rfl

/-- The frame is written and the core goes to its vector. -/
theorem takeExc_of_canEnter {c : PipCore} {sp va : Nat} (h : u.canEnter core e.vec) (hc : u.core core = c)
    (hsp : c.frameAt = sp) (hva : c.vectorAt e.vec = va) :
    u.takeExc core e ilen einsn epc
      = (((u.setCore core (c.noted e ilen einsn)).setBytes sp (excFrame c epc (e.cause ilen))).answerRead
          (Word.ofN (u.mem va 4))).setCore core ((c.noted e ilen einsn).vectored sp (u.mem va 4)) := by
  obtain ⟨hdepth, hbase, hlim, hframe, hend, hstall, hanswer, hvec, hal, hvstall, hvanswer, hecc, heven, hapart⟩ := h
  simp only [takeExc_eq]
  rw [hc] at *
  rw [← PipCore.frameAt, hsp] at hbase hlim hstall hanswer hapart
  rw [← PipCore.vectorAt, hva] at hvec hvstall hvanswer hecc heven hapart
  rw [hsp, hva]
  generalize hx : (u.setCore core (c.noted e ilen einsn)).setBytes sp (excFrame c epc (e.cause ilen)) = x
  have hmem : x.mem va 4 = u.mem va 4 := by
    refine congrArg leNat (bytes_congr fun b hl hu => ?_)
    rw [← hx, State.byte_setBytes_outside]
    · rfl
    · rw [length_excFrame]
      omega
  obtain ⟨ram, hram⟩ : ∃ ram, x = { u.setCore core (c.noted e ilen einsn) with ram := ram } := by
    rw [← hx]
    exact setBytes_eq ..
  have hload : x.busLoad core false va 4 = (u.mem va 4, x.answerRead (Word.ofN (u.mem va 4))) := by
    rw [busLoad_sram (hvec.elim .inl fun h => .inr (.inl h)), hmem]
    · rwa [hram, memAnswers_setRam, memAnswers_setCore]
    · rw [hram]
      exact hecc
  have hcore : (x.answerRead (Word.ofN (u.mem va 4))).core core = c.noted e ilen einsn := by
    rw [hram]
    exact core_setCore_self ..
  have hregion : (decide (sp < c.rsmBase.toNat) || decide (c.rsmLim.toNat ≤ sp)) ≠ true := by simpa using ⟨hbase, hlim⟩
  have hgood : ((x.answerRead (Word.ofN (u.mem va 4))).busError || decide (u.mem va 4 % 2 = 1)) ≠ true := by
    simp [State.answerRead, heven]
  have hwrite : (u.setCore core (c.noted e ilen einsn)).frameWrite sp (excFrame c epc (e.cause ilen)) = x := by
    have hanswer' : (u.setCore core (c.noted e ilen einsn)).memAnswers sp = true := by rwa [memAnswers_setCore]
    rw [State.frameWrite, if_pos hanswer', hx]
  rw [if_neg (Bool.eq_false_iff.1 hstall), if_neg (Bool.eq_false_iff.1 hvstall), if_neg (Nat.ne_of_lt hdepth),
    if_neg hregion, hwrite, hload, if_neg hgood, hcore]
  rfl

/-- What an entered vector asks for, with names for the core and the places of its frame and its vector. -/
theorem hasEntered_of {c : PipCore} {sp va eaddr detail : Nat} (hc : u.core core = c) (hsp : c.frameAt = sp)
    (hva : c.vectorAt vec = va) (hilen : ilen < 2)
    (hself : t.core core = { c with
      ecause := Word.ofN (2 ^ 16 * detail + 2 ^ 8 * ilen + vec), eaddr := Word.ofN eaddr, einsn := Word.ofN einsn,
      eframe := Word.ofN sp, rspm := Word.ofN sp, psr := Word.ofN (16 * (bitsOf c.psr.toNat 4 4 + 1) + 2),
      pc := Word.ofN (u.mem va 4), entered := true })
    (hepc : t.mem sp 4 = epc ||| 1) (hpsr : t.mem (sp + 4) 4 = c.psr.toNat) (heframe : t.mem (sp + 8) 4 = c.eframe.toNat)
    (hecause : t.mem (sp + 12) 4 = (Word.ofN (2 ^ 16 * detail + 2 ^ 8 * ilen + vec)).toNat)
    (hothers : ∀ k, k ≠ core → t.core k = u.core k) (hregs : u.sameRegsBut t [])
    (hbytes : ∀ b, b < sp ∨ sp + 16 ≤ b → t.byte b = u.byte b) :
    u.hasEntered t core vec eaddr detail einsn epc := by
  unfold PipCore.frameAt at hsp
  unfold PipCore.vectorAt at hva
  unfold State.hasEntered
  rw [hc]
  dsimp only
  rw [hsp, hva, hself]
  exact ⟨⟨ilen, hilen, rfl⟩, rfl, hepc, hpsr, heframe, hecause, hothers, hregs, hbytes⟩

/-- A read that answers and a core that is set leave memory alone. -/
theorem sameMemory_answerRead_setCore (x : State) (v : Word) (k : Nat) (c : PipCore) :
    x.sameMemory ((x.answerRead v).setCore k c) := fun _ => rfl

theorem regs_answerRead_setCore (x : State) (v : Word) (k : Nat) (c : PipCore) :
    ((x.answerRead v).setCore k c).regs = x.regs := rfl

/-- A core that takes an exception has entered its vector (R485). -/
theorem hasEntered_takeExc (h : u.canEnter core e.vec) (hilen : ilen < 2) (hepc : epc < 2 ^ 32) :
    u.hasEntered (u.takeExc core e ilen einsn epc) core e.vec e.eaddr e.detail einsn epc := by
  rw [takeExc_of_canEnter h rfl rfl rfl]
  obtain ⟨-, -, -, hframe, hend, -⟩ := h
  rw [← PipCore.frameAt] at hframe hend
  generalize hc : u.core core = c at *
  generalize hv : u.mem (c.vectorAt e.vec) 4 = v
  generalize hx : (u.setCore core (c.noted e ilen einsn)).setBytes c.frameAt (excFrame c epc (e.cause ilen)) = x
  have hbytes : x.bytes c.frameAt 16 = excFrame c epc (e.cause ilen) := by
    rw [← hx, ← length_excFrame c epc (e.cause ilen)]
    refine bytes_setBytes_self _ fun b hl hu => ramAt_of_sram (sram_between hframe hend hl ?_)
    rw [length_excFrame] at hu
    omega
  have hout (b : Nat) (hb : b < c.frameAt ∨ c.frameAt + 16 ≤ b) : x.byte b = u.byte b := by
    rw [← hx, State.byte_setBytes_outside _ _ (by rwa [length_excFrame])]
    rfl
  obtain ⟨hepc', hpsr, heframe, hecause⟩ := mem_excFrame hepc hbytes
  obtain ⟨ram, hram⟩ : ∃ ram, x = { u.setCore core (c.noted e ilen einsn) with ram := ram } := by
    rw [← hx]
    exact setBytes_eq ..
  generalize ht : (x.answerRead (Word.ofN v)).setCore core ((c.noted e ilen einsn).vectored c.frameAt v) = t
  have hself : t.core core = (c.noted e ilen einsn).vectored c.frameAt v := by
    rw [← ht, core_setCore_self]
  have hmem : x.sameMemory t := by
    rw [← ht]
    exact sameMemory_answerRead_setCore _ _ _ _
  have hothers (k : Nat) (hk : k ≠ core) : t.core k = u.core k := by
    rw [← ht, core_setCore_ne _ _ hk, hram]
    exact core_setCore_ne u _ hk
  have hregs : u.sameRegsBut t [] := by
    intro a _
    rw [State.reg, ← ht, regs_answerRead_setCore, hram]
    rfl
  have hm (a : Nat) : t.mem a 4 = x.mem a 4 := mem_of_sameMemory hmem a 4
  refine hasEntered_of hc rfl rfl hilen (hself.trans (by rw [hv]; rfl)) ((hm _).trans hepc') ((hm _).trans hpsr)
    ((hm _).trans heframe) ((hm _).trans (hecause.trans (BitVec.toNat_ofNat ..).symm)) hothers hregs
    fun b hb => (hmem b).trans (hout b hb)

end

/-- An instruction that raises an exception enters its vector (R484, R485). -/
theorem completes_of_raised {n : Instr} (hexec : exec n s = .next (pipRun core w pick s)) (h : s.begins core w i u)
    (hp : pick i = some f) (hf : f u = .exc x e) (hx : x.canEnter core e.vec) :
    Completes n s fun t =>
      x.hasEntered t core e.vec e.eaddr e.detail 0 (if e.after then u.nextPc core w else u.pc core) := by
  refine ⟨_, hexec.trans (congrArg _ (pipRun_of_raised h hp hf)), hasEntered_takeExc hx (ilen_lt w) ?_⟩
  split
  · exact Nat.mod_lt _ (by decide)
  · exact ((u.core core).pc).isLt

end Sys2Proof.Machine
end

section
/-!
Data accesses of a Pip core to SRAM (R476, R494): what a read answers and what a write leaves.
-/

namespace Sys2Proof.Machine

variable {s t u x : State} {core a n v d : Nat} {w : Word} {i : PipInsn} {pick : PipInsn → Option (State → PipOut)}

/-! ## Reads -/

/-- What a read that answers leaves: no core, no register of the map and no byte changed. -/
theorem loadAt_of_readable (h : u.readable core a n) (f : Nat → State → PipOut) :
    u.loadAt core a n f = f (u.mem a n) (u.answerRead (Word.ofN (u.mem a n))) := by
  obtain ⟨-, hprot, hregion, hstall, hanswer, hecc⟩ := h
  unfold State.loadAt
  rw [busLoad_sram hregion hanswer hecc]
  simp [hprot, hstall, State.answerRead]

theorem load_of_readable (h : u.readable core a n) (f : Nat → State → PipOut) :
    u.load core a n f = f (u.mem a n) (u.answerRead (Word.ofN (u.mem a n))) := by
  rw [← loadAt_of_readable h f]
  obtain ⟨hal, -⟩ := h
  simp [State.load, hal]

/-! ## Writes -/

/-- An aligned access of up to four bytes that begins in main or retained SRAM stays in it. -/
theorem aligned_in_sram (hn : n = 1 ∨ n = 2 ∨ n = 4) (hal : a % n = 0) (hr : region a = .mainSram ∨ region a = .retained)
    {b : Nat} (hl : a ≤ b) (hu : b < a + n) : region b = .mainSram ∨ region b = .retained := by
  rw [region_mainSram_iff, region_retained_iff] at hr ⊢
  obtain rfl | rfl | rfl := hn <;> omega

/-- Outside the link context RAM a write stores its bytes as they are (R282). -/
theorem storeBytes_of_sram (s before : State) {bs : List Byte} (h : ∀ b, a ≤ b → b < a + bs.length → region b ≠ .context) :
    s.storeBytes before a bs = s.setBytes a bs := by
  induction bs generalizing s a with
  | nil => rfl
  | cons b t ih =>
    simp only [List.length_cons] at h
    have hhead : (region a == Region.context) = false := by simpa using h a (Nat.le_refl a) (by omega)
    rw [State.storeBytes, hhead, State.setBytes, if_neg Bool.false_ne_true]
    exact ih _ fun b hl hu => h b (by omega) (by omega)

/-- The bytes above those that a store takes are of no account. -/
theorem leBytes_mod (n v : Nat) : leBytes n (v % 2 ^ (8 * n)) = leBytes n v := by
  induction n generalizing v with
  | zero => rfl
  | succ n ih =>
    have hlow : v % 2 ^ (8 * (n + 1)) % 256 = v % 256 := Nat.mod_mod_of_dvd _ (pow_dvd_pow 2 (by omega : 8 ≤ 8 * (n + 1)))
    have hhigh : v % 2 ^ (8 * (n + 1)) / 256 = v / 256 % 2 ^ (8 * n) := by
      rw [Nat.mul_succ, Nat.add_comm, pow_add, show 256 = 2 ^ 8 from rfl, Nat.mod_mul_right_div_self]
    rw [leBytes, leBytes, hhigh, ih, Byte.ofN, Byte.ofN]
    exact congrArg (· :: _) (BitVec.eq_of_toNat_eq (by simpa using hlow))

/-- `t` comes from `u` by a write of the low bytes of `v`: no core and no register of the map has changed. -/
structure State.Wrote (u t : State) (a n v : Nat) : Prop where
  pip : t.pip = u.pip
  regs : t.regs = u.regs
  stored : u.stored t a n v

section
variable (hn : n = 1 ∨ n = 2 ∨ n = 4) (hal : a % n = 0) (hr : region a = .mainSram ∨ region a = .retained)
  (hanswer : u.memAnswers a = true) (hecc : Sparse.find? u.ecc (a / 8) = none)
include hn hal hr hanswer hecc

/-- A write of SRAM that answers. -/
theorem busStore_sram (k : Nat) (user rom : Bool) :
    u.Wrote (u.busStore k user rom a n v) a n v ∧ (u.busStore k user rom a n v).busError = false := by
  have hin (b : Nat) (hl : a ≤ b) (hu : b < a + (leBytes n v).length) : region b = .mainSram ∨ region b = .retained :=
    aligned_in_sram hn hal hr hl (by rwa [length_leBytes] at hu)
  have hstore : u.busStore k user rom a n v = ({ u with busError := false } : State).setBytes a (leBytes n v) := by
    unfold State.busStore State.eccStep
    rw [← storeBytes_of_sram _ { u with busError := false }]
    · obtain h | h := hr <;> simp [h, hanswer, hecc]
    · intro b hl hu hc
      obtain h | h := hin b hl hu <;> rw [h] at hc <;> cases hc
  obtain ⟨ram, hram⟩ := setBytes_eq { u with busError := false } a (leBytes n v)
  refine ⟨⟨by rw [hstore, hram], by rw [hstore, hram], ?_, fun b hb => ?_⟩, by rw [hstore, hram]⟩
  · have hbytes := bytes_setBytes_self { u with busError := false } fun b hl hu => ramAt_of_sram (hin b hl hu)
    rwa [← hstore, length_leBytes] at hbytes
  · rw [hstore, State.byte_setBytes_outside _ _ (by rwa [length_leBytes])]
    rfl

end

/-- What a write of a core that answers leaves. `own` says that the return-stack regions do not refuse it. -/
theorem storeAt_of_writable (hn : n = 1 ∨ n = 2 ∨ n = 4) (h : u.writable core a n) (v : Nat) :
    ∃ t, u.Wrote t a n v ∧ ∀ f, u.storeAt core a n v false f = f t := by
  obtain ⟨hal, hprot, hregion, hstall, hanswer, hecc⟩ := h
  obtain ⟨hwrote, herr⟩ := busStore_sram (v := v) hn hal hregion hanswer hecc core (!u.coreMach core) (u.fromRom core)
  exact ⟨_, hwrote, fun f => by simp [State.storeAt, hprot, hstall, herr]⟩

theorem putMem_of_writable (hn : n = 1 ∨ n = 2 ∨ n = 4) (h : u.writable core a n) (v : Nat) :
    ∃ t, u.Wrote t a n v ∧ ∀ f, u.putMem core a n v f = f t := by
  obtain ⟨t, hwrote, ht⟩ := storeAt_of_writable hn h v
  obtain ⟨hal, -⟩ := h
  exact ⟨t, hwrote, fun f => by rw [← ht f]; simp [State.putMem, hal]⟩

/-- A write that the return-stack regions do not refuse: a call's, or one to the frame of an exception (R474, R486). -/
theorem storeAt_own (hal : a % 4 = 0) (hmpu : (u.core core).mpuAllows (mpuRegions core) 1 a = true)
    (hr : region a = .mainSram ∨ region a = .retained) (hstall : u.stalls a = false) (hanswer : u.memAnswers a = true)
    (hecc : Sparse.find? u.ecc (a / 8) = none) (v : Nat) :
    ∃ t, u.Wrote t a 4 v ∧ ∀ f, u.storeAt core a 4 v true f = f t := by
  obtain ⟨hwrote, herr⟩ := busStore_sram (v := v) (.inr (.inr rfl)) hal hr hanswer hecc core (!u.coreMach core) (u.fromRom core)
  have hprot : u.protect core a 4 false true = 3 ∨ u.protect core a 4 false true = 0 := by
    unfold State.protect
    cases hs : u.stackHit a 4 <;> simp [hmpu, b2n]
  refine ⟨_, hwrote, fun f => ?_⟩
  obtain hp | hp := hprot <;> simp [State.storeAt, hp, hstall, herr]

end Sys2Proof.Machine
end

section
/-!
Loads, stores, the data stack and the indivisible accesses of a Pip core (R472, R476, R479, R494, R496).
-/

namespace Sys2Proof.Machine

variable {s t u x : State} {core a n v d : Nat} {w : Word} {i : PipInsn} {m : Instr}
  {pick : PipInsn → Option (State → PipOut)} {f : State → PipOut} {c : PipCore}

/-! ## The values of loads (R494) -/

/-- Sign extension of a number of `k` bits. -/
theorem ofN_sx {k : Nat} (hk : k ≤ 32) (b : BitVec k) : Word.ofN (sx k b.toNat) = b.signExtend 32 := by
  have hlt : b.toNat < 2 ^ k := b.isLt
  have hle : 2 ^ k ≤ 2 ^ 32 := Nat.pow_le_pow_right (by decide) hk
  refine BitVec.eq_of_toNat_eq ?_
  rw [BitVec.toNat_signExtend, BitVec.toNat_setWidth, BitVec.msb_eq_decide, Nat.mod_eq_of_lt (by omega)]
  unfold sx Word.ofN
  rw [BitVec.toNat_ofNat]
  split
  next hlow => simp only [Nat.not_le.2 hlow]; exact Nat.mod_eq_of_lt (Nat.lt_of_lt_of_le hlt hle)
  next hhigh => simp [Nat.not_lt.1 hhigh]; omega

theorem mem_one (u : State) (a : Nat) : u.mem a 1 = (u.byte a).toNat := by simp [State.mem, State.bytes, leNat]

theorem leBytes_mem (u : State) (a n : Nat) : leBytes n (u.mem a n) = u.bytes a n := by
  unfold State.mem
  induction n generalizing a with
  | zero => rfl
  | succ n ih =>
    have hlt : (u.byte a).toNat < 256 := (u.byte a).isLt
    rw [State.bytes, leNat, leBytes, Nat.add_mul_div_left _ _ (by decide), Nat.div_eq_of_lt hlt, Nat.zero_add, ih]
    exact congrArg (· :: _) (BitVec.eq_of_toNat_eq (by simpa using hlt))

/-! ## Loads -/

/-- A load of a general register. -/
theorem completes_loadTo {signed : Bool} (h : s.begins core w i u) (hr : u.readable core a n)
    (hexec : exec m s = .next (pipRun core w pick s)) (hp : pick i = some f)
    (hf : f u = u.loadTo core (insnLen w) d a n signed) :
    Completes m s fun t => u.wroteG t core w d (Word.ofN (if signed then sx (8 * n) (u.mem a n) else u.mem a n)) :=
  completes_result hexec h hp (hf.trans (load_of_readable hr _)) rfl rfl fun _ => rfl

/-- A load that the register takes as it is. -/
theorem completes_loadTo_unsigned (h : s.begins core w i u) (hr : u.readable core a n)
    (hexec : exec m s = .next (pipRun core w pick s)) (hp : pick i = some f)
    (hf : f u = u.loadTo core (insnLen w) d a n false) :
    Completes m s fun t => u.wroteG t core w d (Word.ofN (u.mem a n)) := completes_loadTo h hr hexec hp hf

/-- A load that the register takes with its sign. -/
theorem completes_loadTo_signed (h : s.begins core w i u) (hr : u.readable core a n)
    (hexec : exec m s = .next (pipRun core w pick s)) (hp : pick i = some f)
    (hf : f u = u.loadTo core (insnLen w) d a n true) :
    Completes m s fun t => u.wroteG t core w d (Word.ofN (sx (8 * n) (u.mem a n))) := completes_loadTo h hr hexec hp hf

/-- A load of a floating-point register. -/
theorem completes_loadF (h : s.begins core w i u) (hr : u.readable core a 4)
    (hexec : exec m s = .next (pipRun core w pick s)) (hp : pick i = some f)
    (hf : f u = u.loadF core (insnLen w) d a) :
    Completes m s fun t => u.setsF t core d (Word.ofN (u.mem a 4))
      ∧ u.goesOn t core (u.core core) (u.nextPc core w) ∧ u.sameMemory t := by
  have hleaves : u.Leaves (u.answerRead (Word.ofN (u.mem a 4))) core (u.core core) := .of_eq rfl rfl
  have hnone : u.setsNone (u.answerRead (Word.ofN (u.mem a 4))) core := setsNone_of_eq rfl
  have hmem : u.sameMemory (u.answerRead (Word.ofN (u.mem a 4))) := fun _ => rfl
  exact completes_of_ok hexec h hp (hf.trans (load_of_readable hr _))
    ⟨setsF_ended (setsF_setF hnone), goesOn_ended hleaves.setF, sameMemory_ended (sameMemory_setF hmem)⟩

/-! ## Stores -/

namespace State.Wrote

theorem leaves (h : u.Wrote t a n v) : u.Leaves t core (u.core core) := .of_eq h.pip h.regs

theorem setsNone (h : u.Wrote t a n v) : u.setsNone t core := setsNone_of_eq h.pip

theorem after (h : u.Wrote t a n v) : t.after core (insnLen w) = u.nextPc core w := by
  unfold State.after State.pc State.core State.nextPc State.pc State.core
  rw [h.pip]

theorem congr {v' : Nat} (h : u.Wrote t a n v) (hv : leBytes n v = leBytes n v') : u.Wrote t a n v' :=
  ⟨h.pip, h.regs, by rw [← hv]; exact h.stored.1, h.stored.2⟩

end State.Wrote

theorem stored_of_sameMemory (h : u.stored t a n v) (hm : t.sameMemory x) : u.stored x a n v := by
  obtain ⟨hin, hout⟩ := h
  exact ⟨(bytes_congr fun b _ _ => hm b).trans hin, fun b hb => (hm b).trans (hout b hb)⟩

theorem stored_ended {k next : Nat} (h : u.stored t a n v) : u.stored (t.ended k next) a n v :=
  stored_of_sameMemory h fun _ => rfl

theorem stored_setCore {k : Nat} (h : u.stored t a n v) : u.stored (t.setCore k c) a n v :=
  stored_of_sameMemory h fun _ => rfl

/-- A store whose value and place are given. -/
theorem completes_putMem {v' : Nat} (hn : n = 1 ∨ n = 2 ∨ n = 4) (h : s.begins core w i u) (hw : u.writable core a n)
    (hexec : exec m s = .next (pipRun core w pick s)) (hp : pick i = some f)
    (hf : f u = u.putMem core a n v' fun t => .ok t (t.after core (insnLen w))) (hv : leBytes n v' = leBytes n v) :
    Completes m s fun t => u.stored t a n v ∧ u.setsNone t core ∧ u.goesOn t core (u.core core) (u.nextPc core w) := by
  obtain ⟨t, hwrote, ht⟩ := putMem_of_writable hn hw v'
  refine completes_of_ok hexec h hp (hf.trans (ht _)) ⟨stored_ended (hwrote.congr hv).stored, setsNone_ended hwrote.setsNone, ?_⟩
  rw [hwrote.after]
  exact goesOn_ended hwrote.leaves

/-- A store of a general register. -/
theorem completes_storeFrom (hn : n = 1 ∨ n = 2 ∨ n = 4) (h : s.begins core w i u) (hw : u.writable core a n)
    (hexec : exec m s = .next (pipRun core w pick s)) (hp : pick i = some f)
    (hf : f u = u.storeFrom core (insnLen w) d a n) :
    Completes m s fun t =>
      u.stored t a n (u.g core d).toNat ∧ u.setsNone t core ∧ u.goesOn t core (u.core core) (u.nextPc core w) :=
  completes_putMem hn h hw hexec hp hf (leBytes_mod _ _)

/-- A store of a floating-point register. -/
theorem completes_storeF (h : s.begins core w i u) (hw : u.writable core a 4)
    (hexec : exec m s = .next (pipRun core w pick s)) (hp : pick i = some f)
    (hf : f u = u.storeF core (insnLen w) d a) :
    Completes m s fun t =>
      u.stored t a 4 (u.fr core d).toNat ∧ u.setsNone t core ∧ u.goesOn t core (u.core core) (u.nextPc core w) :=
  completes_putMem (.inr (.inr rfl)) h hw hexec hp hf rfl

/-! ## MEMX (R496) -/

theorem memxSize_cases (sz : Nat) : memxSize sz = 1 ∨ memxSize sz = 2 ∨ memxSize sz = 4 := by
  unfold memxSize
  split_ifs <;> simp

theorem decodeStk_ne_memx {st : Bool} {b sc sz mode fn d' a' b' : Nat} :
    decodeStk fn d' a' b' ≠ some (.memx d a b sc sz mode st) := by
  intro h
  unfold decodeStk at h
  split at h <;> simp [keep_eq_some] at h

theorem decodeSys_ne_memx {sentinel st : Bool} {b sc sz mode fn d' a' b' idx : Nat} :
    decodeSys sentinel fn d' a' b' idx ≠ some (.memx d a b sc sz mode st) := by
  intro h
  unfold decodeSys at h
  split at h <;> simp [keep_eq_some] at h

theorem ne_of_decode32_memx {sentinel st : Bool} {b sc sz mode p : Nat}
    (h : decode32 sentinel p = some (.memx d a b sc sz mode st)) (hmode : mode ≠ 0) : d ≠ a := by
  unfold decode32 at h
  split at h <;> simp only [keep_eq_some, Option.some.injEq, reduceCtorEq, PipInsn.memx.injEq, and_false] at h
  case h_19 =>
    obtain ⟨hok, rfl, rfl, rfl, rfl, rfl, rfl, rfl⟩ := h
    unfold memxOk at hok
    simp_all
  case h_25 =>
    split at h
    · exact (decodeStk_ne_memx h).elim
    · cases h
  case h_26 => exact (decodeSys_ne_memx h).elim

theorem ne_of_decode16_memx {st : Bool} {b sc sz mode p : Nat}
    (h : decode16 p = some (.memx d a b sc sz mode st)) (hmode : mode ≠ 0) : d ≠ a := by
  unfold decode16 at h
  split at h <;> simp only [keep_eq_some, Option.some.injEq, reduceCtorEq, PipInsn.memx.injEq, and_false] at h
  case h_11 =>
    obtain ⟨-, h⟩ := h
    unfold aluShort at h
    split at h <;> cases h
  case h_19 => exact absurd h.2.2.2.2.2.2.1.symm hmode
  case h_20 =>
    obtain ⟨hok, rfl, rfl, -⟩ := h
    simp_all
  case h_21 =>
    obtain ⟨hok, rfl, rfl, -⟩ := h
    simp_all
  case h_23 =>
    unfold decodeStkS at h
    split at h <;> simp [keep_eq_some] at h

/-- A MEMX form that moves its address register loads another one (R496). -/
theorem ne_of_decode_memx {sentinel st : Bool} {b sc sz mode : Nat}
    (h : pipDecode sentinel w = some (.memx d a b sc sz mode st)) (hmode : mode ≠ 0) : d ≠ a := by
  unfold pipDecode at h
  split at h
  · exact ne_of_decode32_memx h hmode
  · split at h
    · exact ne_of_decode16_memx h hmode
    · cases h

section
variable {b sc sz mode : Nat} {st : Bool}

/-- Where a MEMX form that moves its address register goes, and what it leaves there (R496). -/
theorem memxAddr_moving (u : State) (core a b sc sz : Nat) {mode : Nat} (h : mode = 1 ∨ mode = 2) :
    u.memxAddr core a b sc sz mode
      = (if mode = 1 then (u.g core a).toNat else ((u.g core a).toNat + 2 ^ 32 - memxSize sz) % 2 ^ 32,
        if mode = 1 then u.g core a + Word.ofN (memxSize sz) else u.g core a - Word.ofN (memxSize sz)) := by
  have hsize : memxSize sz ≤ 2 ^ 32 := by
    obtain h | h | h := memxSize_cases sz <;> omega
  obtain rfl | rfl := h
  · rw [if_pos rfl, if_pos rfl]
    rfl
  · rw [if_neg (by decide), if_neg (by decide), Nat.add_sub_assoc hsize]
    rfl

/-- What a MEMX load writes, at its address and with what it leaves in A. -/
theorem memx_load {left : Word} (haddr : u.memxAddr core a b sc sz mode = (n, left))
    (hr : u.readable core n (memxSize sz)) :
    let x := u.answerRead (Word.ofN (u.mem n (memxSize sz)))
    let y := if mode = 0 then x else x.setG core a left
    let v := Word.ofN (if sz = 0 ∨ sz = 2 then sx (8 * memxSize sz) (u.mem n (memxSize sz)) else u.mem n (memxSize sz))
    u.memx core (insnLen w) d a b sc sz mode false
      = .ok (if sz = 5 then y.setF core d v else y.setG core d v) (u.nextPc core w) := by
  simp only [State.memx, haddr, Bool.false_eq_true, if_false, load_of_readable hr, Bool.or_eq_true, decide_eq_true_eq]
  rfl

theorem memx_store {left : Word} (haddr : u.memxAddr core a b sc sz mode = (n, left))
    (hw : u.writable core n (memxSize sz)) :
    ∃ t, u.Wrote t n (memxSize sz) (if sz = 5 then u.fr core d else u.g core d).toNat
      ∧ u.memx core (insnLen w) d a b sc sz mode true
        = .ok (if mode = 0 then t else t.setG core a left) (u.nextPc core w) := by
  obtain ⟨t, hwrote, ht⟩ := putMem_of_writable (memxSize_cases sz) hw
    (if sz = 5 then (u.fr core d).toNat else (u.g core d).toNat % 2 ^ (8 * memxSize sz))
  refine ⟨t, hwrote.congr ?_, ?_⟩
  · split
    · rfl
    · exact leBytes_mod _ _
  · rw [← hwrote.after]
    simp only [State.memx, haddr, if_true, ht]

/-- The value that a MEMX load answers (R496). -/
def State.memxValue (u : State) (sz e : Nat) : Word :=
  Word.ofN (if sz = 0 ∨ sz = 2 then sx (8 * memxSize sz) (u.mem e (memxSize sz)) else u.mem e (memxSize sz))

theorem memxValue_five (u : State) (e : Nat) : u.memxValue 5 e = Word.ofN (u.mem e (memxSize 5)) := rfl

/-- A MEMX load whose address register stays (R496, mode 0). -/
theorem completes_memx_load (h : s.begins core w (.memx d a b sc sz 0 false) u)
    (hr : u.readable core (add32 (u.g core a).toNat ((u.g core b).toNat * 2 ^ sc)) (memxSize sz)) :
    let e := add32 (u.g core a).toNat ((u.g core b).toNat * 2 ^ sc)
    Completes (.memx core w) s fun t =>
      u.goesOn t core (u.core core) (u.nextPc core w) ∧ u.sameMemory t
      ∧ (sz < 5 → u.setsG t core d (u.memxValue sz e)) ∧ (sz = 5 → u.setsF t core d (Word.ofN (u.mem e (memxSize sz)))) := by
  intro e
  set x := u.answerRead (Word.ofN (u.mem e (memxSize sz))) with hx
  have hleaves : u.Leaves x core (u.core core) := .of_eq rfl rfl
  have hnone : u.setsNone x core := setsNone_of_eq rfl
  have hmem : u.sameMemory x := fun _ => rfl
  refine completes_of_ok rfl h rfl (memx_load rfl hr) ?_
  rw [if_pos rfl]
  split
  next hsz =>
    subst hsz
    exact ⟨goesOn_ended hleaves.setF, sameMemory_ended (sameMemory_setF hmem), fun hlt => absurd hlt (by decide),
      fun _ => setsF_ended (setsF_setF hnone)⟩
  next hsz =>
    exact ⟨goesOn_ended hleaves.setG, sameMemory_ended (sameMemory_setG hmem), fun _ => setsG_ended (setsG_setG hnone),
      fun heq => absurd heq hsz⟩

/-- A MEMX load into a general register that moves its address register (R496, modes 1 and 2). -/
theorem completes_memx_load_moving {e : Nat} {left : Word} (hmode : mode ≠ 0) (hsz : sz < 5)
    (h : s.begins core w (.memx d a b sc sz mode false) u) (haddr : u.memxAddr core a b sc sz mode = (e, left))
    (hr : u.readable core e (memxSize sz)) :
    Completes (.memx core w) s fun t =>
      t.g core d = u.memxValue sz e ∧ t.g core a = left
      ∧ (∀ r, r ≠ d → r ≠ a → t.g core r = u.g core r) ∧ (∀ r, t.fr core r = u.fr core r)
      ∧ u.goesOn t core (u.core core) (u.nextPc core w) ∧ u.sameMemory t := by
  obtain ⟨-, -, hdec, -⟩ := id h
  have hda : d ≠ a := ne_of_decode_memx hdec hmode
  set x := u.answerRead (Word.ofN (u.mem e (memxSize sz))) with hx
  have hleaves : u.Leaves x core (u.core core) := .of_eq rfl rfl
  have hnone : u.setsNone x core := setsNone_of_eq rfl
  have hmem : u.sameMemory x := fun _ => rfl
  refine completes_of_ok rfl h rfl (memx_load haddr hr) ?_
  rw [if_neg hmode, if_neg (Nat.ne_of_lt hsz)]
  refine ⟨by rw [g_ended, g_setG_self]; rfl, by rw [g_ended, g_setG_ne _ _ _ hda.symm, g_setG_self], fun r hd ha => ?_,
    fun r => by rw [fr_ended, fr_setG, fr_setG, hnone.2], goesOn_ended hleaves.setG.setG,
    sameMemory_ended (sameMemory_setG (sameMemory_setG hmem))⟩
  rw [g_ended, g_setG_ne _ _ _ hd, g_setG_ne _ _ _ ha, hnone.1]

theorem completes_memx_store (h : s.begins core w (.memx d a b sc sz 0 true) u)
    (hw : u.writable core (add32 (u.g core a).toNat ((u.g core b).toNat * 2 ^ sc)) (memxSize sz)) :
    Completes (.memx core w) s fun t =>
      u.stored t (add32 (u.g core a).toNat ((u.g core b).toNat * 2 ^ sc)) (memxSize sz)
        (if sz = 5 then u.fr core d else u.g core d).toNat
      ∧ u.setsNone t core ∧ u.goesOn t core (u.core core) (u.nextPc core w) := by
  obtain ⟨t, hwrote, ht⟩ := memx_store (b := b) (sc := sc) (mode := 0) (d := d) rfl hw
  exact completes_of_ok rfl h rfl ht
    ⟨stored_ended hwrote.stored, setsNone_ended hwrote.setsNone, goesOn_ended hwrote.leaves⟩

theorem completes_memx_store_moving {e : Nat} {left : Word} (hmode : mode ≠ 0)
    (h : s.begins core w (.memx d a b sc sz mode true) u) (haddr : u.memxAddr core a b sc sz mode = (e, left))
    (hw : u.writable core e (memxSize sz)) :
    Completes (.memx core w) s fun t =>
      u.stored t e (memxSize sz) (if sz = 5 then u.fr core d else u.g core d).toNat ∧ u.setsG t core a left
      ∧ u.goesOn t core (u.core core) (u.nextPc core w) := by
  obtain ⟨t, hwrote, ht⟩ := memx_store (d := d) haddr hw
  rw [if_neg hmode] at ht
  exact completes_of_ok rfl h rfl ht
    ⟨stored_ended (stored_setCore hwrote.stored), setsG_ended (setsG_setG hwrote.setsNone), goesOn_ended hwrote.leaves.setG⟩

end

/-! ## The data stack (R472) -/

/-- Where a push stores its word. -/
theorem add32_dsp (u : State) (core : Nat) :
    add32 (u.dsp core) (2 ^ 32 - 4) = ((u.core core).dsp.toNat + 2 ^ 32 - 4) % 2 ^ 32 := by
  rw [Nat.add_sub_assoc (by decide)]
  rfl

/-- A push: the word goes to dsp - 4, and dsp follows. -/
theorem completes_push {e : Nat} (he : add32 (u.dsp core) (2 ^ 32 - 4) = e) (h : s.begins core w (.push d) u)
    (hw : u.writable core e 4) :
    Completes (.push core w) s fun t =>
      u.stored t e 4 (u.g core d).toNat ∧ u.setsNone t core
      ∧ u.goesOn t core { u.core core with dsp := Word.ofN e } (u.nextPc core w) := by
  subst he
  obtain ⟨t, hwrote, ht⟩ := putMem_of_writable (.inr (.inr rfl)) hw (u.g core d).toNat
  refine completes_of_ok rfl h rfl (ht _) ⟨stored_ended (stored_setCore hwrote.stored),
    setsNone_ended (setsNone_setDsp hwrote.setsNone _), ?_⟩
  rw [hwrote.after]
  exact goesOn_ended (leaves_setDsp hwrote.leaves _)

/-- A pop: the word at dsp, and dsp follows. -/
theorem completes_pop {e : Nat} (he : (u.core core).dsp.toNat = e) (h : s.begins core w (.pop d) u)
    (hr : u.readable core e 4) :
    Completes (.pop core w) s fun t =>
      u.setsG t core d (Word.ofN (u.mem e 4))
      ∧ u.goesOn t core { u.core core with dsp := Word.ofN (e + 4) } (u.nextPc core w) ∧ u.sameMemory t := by
  subst he
  generalize he : (u.core core).dsp.toNat = e at *
  have hdsp : u.dsp core = e := he
  set x := u.answerRead (Word.ofN (u.mem e 4)) with hx
  have hleaves : u.Leaves x core (u.core core) := .of_eq rfl rfl
  have hnone : u.setsNone x core := setsNone_of_eq rfl
  have hmem : u.sameMemory x := fun _ => rfl
  have hafter : (x.setDsp core (add32 e 4)).after core (insnLen w) = u.nextPc core w := by
    rw [State.after, State.pc, State.setDsp, core_setCore_self]
    rfl
  refine completes_of_ok (t := (x.setDsp core (add32 e 4)).setG core d (Word.ofN (u.mem e 4))) rfl h rfl
    (next := u.nextPc core w) ?_ ⟨setsG_ended (setsG_setG (setsNone_setDsp hnone _)), ?_,
      sameMemory_ended (sameMemory_setG (sameMemory_setCore hmem _ _))⟩
  · rw [← hafter]
    dsimp only
    rw [hdsp]
    exact load_of_readable hr _
  · rw [← ofN_add32]
    exact goesOn_ended (leaves_setDsp hleaves _).setG

/-! ## Indivisible accesses (R479) -/

/-- What an indivisible access does where it is allowed and the word in SRAM answers. -/
theorem atomic_of_allowed {g : Nat → Option Nat × Nat} {put : Option Nat} {left : Nat} (hr : u.readable core a 4)
    (hw : u.writable core a 4) (hp : u.protect core a 4 true true = 0) (hg : g (u.mem a 4) = (put, left)) :
    ∃ t, u.Wrote t a 4 (put.getD (u.mem a 4))
      ∧ u.atomic core (insnLen w) d a g = t.result core (insnLen w) d (Word.ofN left) := by
  obtain ⟨-, -, hread, -⟩ := hr
  obtain ⟨hal, -, hregion, hstall, hanswer, hecc⟩ := hw
  set x := u.answerRead (Word.ofN (u.mem a 4)) with hx
  have hin : (region a == .mainSram || region a == .retained || region a == .context) = true := by
    obtain h | h := hregion <;> rw [h] <;> rfl
  have hatomic : u.atomic core (insnLen w) d a g
      = (put.elim x (x.busStore core (!u.coreMach core) (u.fromRom core) a 4)).result core (insnLen w) d (Word.ofN left) := by
    unfold State.atomic
    rw [busLoad_sram hread hanswer hecc]
    have hok : x.busError = false := rfl
    cases put <;> simp [hal, hp, hin, hstall, hg, hok, ← hx]
  rw [hatomic]
  cases put with
  | none => exact ⟨x, ⟨rfl, rfl, (leBytes_mem u a 4).symm, fun _ _ => rfl⟩, rfl⟩
  | some y =>
    obtain ⟨⟨hpip, hregs, hin, hout⟩, -⟩ := busStore_sram (u := x) (v := y) (.inr (.inr rfl)) hal hregion hanswer hecc core
      (!u.coreMach core) (u.fromRom core)
    exact ⟨_, ⟨hpip, hregs, hin, hout⟩, rfl⟩

/-- An instruction whose effect is an indivisible access. -/
theorem completes_atomic {g : Nat → Option Nat × Nat} {put : Option Nat} {left : Nat} (h : s.begins core w i u)
    (hr : u.readable core a 4) (hw : u.writable core a 4) (hp : u.protect core a 4 true true = 0)
    (hg : g (u.mem a 4) = (put, left)) (hexec : exec m s = .next (pipRun core w pick s)) (hpick : pick i = some f)
    (hf : f u = u.atomic core (insnLen w) d a g) :
    Completes m s fun t =>
      u.stored t a 4 (put.getD (u.mem a 4)) ∧ u.setsG t core d (Word.ofN left)
      ∧ u.goesOn t core (u.core core) (u.nextPc core w) := by
  obtain ⟨t, hwrote, ht⟩ := atomic_of_allowed (w := w) (d := d) hr hw hp hg
  refine completes_of_ok hexec h hpick (hf.trans ht) ⟨stored_ended (stored_setCore hwrote.stored),
    setsG_ended (setsG_setG hwrote.setsNone), ?_⟩
  rw [hwrote.after]
  exact goesOn_ended hwrote.leaves.setG

/-- Settles O50: a load answers the bytes read, a store leaves the low bytes, and what an access moves follows it. -/
theorem pipMemory : Obligations.PipMemory := by
  unfold Obligations.PipMemory
  refine fun s core w u => ⟨fun d a imm => ⟨fun h hr => ?ldb, fun h hr => ?ldbu, fun h hr => ?ldh,
      fun h hr => completes_loadTo_unsigned h hr rfl rfl rfl, fun h hr => completes_loadTo_unsigned h hr rfl rfl rfl,
      fun h hr => completes_loadF h hr rfl rfl rfl, fun h hw => completes_storeFrom (.inl rfl) h hw rfl rfl rfl,
      fun h hw => completes_storeFrom (.inr (.inl rfl)) h hw rfl rfl rfl,
      fun h hw => completes_storeFrom (.inr (.inr rfl)) h hw rfl rfl rfl, fun h hw => completes_storeF h hw rfl rfl rfl⟩,
    fun d imm => ⟨fun h hr => completes_loadTo_unsigned h hr rfl rfl rfl, fun h hr => completes_loadF h hr rfl rfl rfl,
      fun h hw => completes_storeFrom (.inr (.inr rfl)) h hw rfl rfl rfl, fun h hw => completes_storeF h hw rfl rfl rfl⟩,
    fun d a b sc sz => ⟨⟨fun h hr => completes_memx_load h hr, fun h hw => completes_memx_store h hw⟩,
      fun mode hmode => ⟨fun hsz h hr => ?memxLoad, fun h hw => ?memxStore⟩⟩,
    fun d => ⟨fun h hw => completes_push (add32_dsp u core) h hw, fun h hr => completes_pop rfl h hr⟩,
    fun d a b hr hw hp => ⟨fun h => completes_atomic (put := some (u.g core b).toNat) h hr hw hp rfl rfl rfl rfl,
      fun h => ?cas⟩⟩
  case ldb =>
    rw [← ofN_sx (by decide), ← mem_one]
    exact completes_loadTo_signed h hr rfl rfl rfl
  case ldbu =>
    have hval (b : Byte) : b.setWidth 32 = Word.ofN b.toNat := BitVec.eq_of_toNat_eq (by simp)
    rw [hval, ← mem_one]
    exact completes_loadTo_unsigned h hr rfl rfl rfl
  case ldh =>
    have hval (e : Nat) : (BitVec.ofNat 16 (u.mem e 2)).toNat = u.mem e 2 :=
      (BitVec.toNat_ofNat ..).trans (Nat.mod_eq_of_lt (mem_lt u e 2))
    rw [← ofN_sx (by decide), hval]
    exact completes_loadTo_signed h hr rfl rfl rfl
  case memxLoad => exact completes_memx_load_moving (by omega) hsz h (memxAddr_moving _ _ _ _ _ _ hmode) hr
  case memxStore => exact completes_memx_store_moving (by omega) h (memxAddr_moving _ _ _ _ _ _ hmode) hw
  case cas =>
    by_cases heq : u.mem (u.g core a).toNat 4 = (u.g core d).toNat
    · rw [if_pos heq]
      exact completes_atomic (put := some (u.g core b).toNat) h hr hw hp (by rw [if_pos heq]) rfl rfl rfl
    · rw [if_neg heq]
      exact completes_atomic (put := none) h hr hw hp (by rw [if_neg heq]) rfl rfl rfl

end Sys2Proof.Machine
end

section
/-!
The data stack (R472), and accesses of a Pip core that fault: the core that enters an exception keeps its registers.
-/

namespace Sys2Proof.Machine

variable {s t u x : State} {core a n v d vec eaddr detail einsn epc : Nat} {w : Word} {i : PipInsn} {m : Instr}
  {pick : PipInsn → Option (State → PipOut)} {f : State → PipOut}

theorem Completes.mono {p q : State → Prop} (h : Completes m s p) (hpq : ∀ t, p t → q t) : Completes m s q := by
  obtain ⟨t, ht, hp⟩ := h
  exact ⟨t, ht, hpq t hp⟩

/-! ## A failing access leaves the cores alone (R29, R404) -/

theorem pip_dropNotice (s : State) (code : Nat) : (s.dropNotice code).pip = s.pip := by
  unfold State.dropNotice
  extract_lets x
  split
  · rfl
  · exact (apply_ite State.pip ..).trans (ite_self _)

theorem pip_notice (s : State) (code : Nat) (p : List Byte) : (s.notice code p).pip = s.pip := by
  unfold State.notice
  split
  · rfl
  · exact pip_dropNotice ..

theorem pip_captureFault (s : State) (kind site d1 d2 d3 : Nat) (regs : List Nat) :
    (s.captureFault kind site d1 d2 d3 regs).pip = s.pip := by
  unfold State.captureFault
  split
  · rfl
  · split <;> rfl

theorem pip_setRegN (s : State) (a n : Nat) : (s.setRegN a n).pip = s.pip := rfl

theorem pip_raise (s : State) (f : Fld) : (s.raise f).pip = s.pip := rfl

theorem pip_countBy (s : State) (a n : Nat) : (s.countBy a n).pip = s.pip := rfl

theorem pip_flashUncorr (s : State) (off : Nat) : (s.flashUncorr off).pip = s.pip := by
  rw [State.flashUncorr, pip_notice, pip_raise, State.flcCount, pip_countBy, pip_captureFault, pip_setRegN, pip_setRegN]

theorem pip_eccStep_bad {k : Nat} (h : (s.eccStep k a).1 = true) : (s.eccStep k a).2.pip = s.pip := by
  unfold State.eccStep at h ⊢
  split
  · rfl
  · split
    · exact pip_flashUncorr ..
    · exact pip_captureFault ..
  next hecc => rw [hecc] at h; cases h

theorem pip_eccStep_any (s : State) (k a : Nat) : (s.eccStep k a).2.pip = s.pip := by
  cases h : (s.eccStep k a).1 with
  | false => exact pip_eccStep h
  | true => exact pip_eccStep_bad h

theorem pip_busLoad {rom : Bool} (hreg : region a = .registers → s.regAnswers a = false) :
    (s.busLoad core rom a n).2.pip = s.pip := by
  have htail (y : State) : (if (y.eccStep core a).1 = true then (0, (y.eccStep core a).2.readError) else
      ((y.eccStep core a).2.mem a n, (y.eccStep core a).2.answerRead (Word.ofN ((y.eccStep core a).2.mem a n)))).2.pip
      = y.pip := by
    split
    · exact pip_eccStep_any ..
    · exact pip_eccStep_any ..
  unfold State.busLoad
  split_ifs with h1 h2
  · simp_all
  · rfl
  · rfl
  · rfl
  · rfl
  · exact (htail _).trans (pip_touchPlane ..)
  · exact htail s

theorem pip_storeBytes (s before : State) (a : Nat) (bs : List Byte) : (s.storeBytes before a bs).pip = s.pip := by
  induction bs generalizing s a with
  | nil => rfl
  | cons b bs ih =>
    rw [State.storeBytes, ih]
    obtain ⟨ram, hram⟩ := setByte_eq s a (if region a == Region.context then before.ctxWritten a b else b)
    rw [hram]

theorem pip_busStore {user rom : Bool} (hreg : region a = .registers → s.regAnswers a = false) :
    (s.busStore core user rom a n v).pip = s.pip := by
  unfold State.busStore
  split_ifs with h1 h2
  · simp_all
  · rfl
  · rfl
  · rfl
  · cases hbad : (s.eccStep core a).1 with
    | true =>
      simp only [hbad, if_true]
      exact pip_eccStep_any s core a
    | false =>
      simp only [hbad, Bool.false_eq_true, if_false, pip_storeBytes]
      exact pip_eccStep_any s core a

/-! ## What an exception leaves of a core -/

theorem dsp_of_hasEntered (h : x.hasEntered t core vec eaddr detail einsn epc) (hpip : x.pip = u.pip) :
    (t.core core).dsp = (u.core core).dsp := by
  obtain ⟨-, hself, -⟩ := h
  refine (congrArg PipCore.dsp hself).trans ?_
  change (x.core core).dsp = (u.core core).dsp
  rw [State.core, hpip, State.core]

/-- An access that faults leaves dsp as it was. -/
theorem completes_faulting (hexec : exec m s = .next (pipRun core w pick s)) (h : s.begins core w i u)
    (hp : pick i = some f) (hf : f u = .exc x { vec := vec, eaddr := eaddr, detail := detail }) (hpip : x.pip = u.pip)
    (hx : x.canEnter core vec) :
    Completes m s fun t => x.hasEntered t core vec eaddr detail 0 (u.pc core) ∧ (t.core core).dsp = (u.core core).dsp :=
  (completes_of_raised hexec h hp hf hx).mono fun _ ht => ⟨ht, dsp_of_hasEntered ht hpip⟩

/-! ## Where an access faults (R483, R484) -/

theorem protect_store_gt (h : u.protect core a n false true ≠ 0) : 1 < u.protect core a n false true := by
  unfold State.protect at h ⊢
  cases hs : u.stackHit a n <;> cases hm : (u.core core).mpuAllows (mpuRegions core) 1 a <;> simp [hs, hm, b2n] at h ⊢

theorem load_misaligned (h : a % n ≠ 0) (g : Nat → State → PipOut) :
    u.load core a n g = .exc u { vec := 5, eaddr := a, detail := 0 } := by
  simp [State.load, h]

theorem load_protected (hal : a % n = 0) (h : u.protect core a n true false ≠ 0) (g : Nat → State → PipOut) :
    u.load core a n g = .exc u { vec := 7, eaddr := a, detail := u.protect core a n true false } := by
  simp [State.load, State.loadAt, hal, h]

theorem load_busError (hal : a % n = 0) (hprot : u.protect core a n true false = 0) (hstall : u.stalls a = false)
    (h : (u.busLoad core (u.fromRom core) a n).2.busError = true) (g : Nat → State → PipOut) :
    u.load core a n g = .exc (u.busLoad core (u.fromRom core) a n).2
      { vec := 6, eaddr := a, detail := if Sparse.find? u.ecc (a / 8) = some true then 2 else 0 } := by
  by_cases hecc : Sparse.find? u.ecc (a / 8) = some true <;>
    simp [State.load, State.loadAt, hal, hprot, hstall, h, hecc, b2n]

theorem putMem_misaligned (h : a % n ≠ 0) (g : State → PipOut) :
    u.putMem core a n v g = .exc u { vec := 5, eaddr := a, detail := 1 } := by
  simp [State.putMem, h]

theorem putMem_protected (hal : a % n = 0) (h : u.protect core a n false true ≠ 0) (g : State → PipOut) :
    u.putMem core a n v g = .exc u { vec := 7, eaddr := a, detail := u.protect core a n false true } := by
  simp [State.putMem, State.storeAt, hal, protect_store_gt h]

theorem putMem_busError (hal : a % n = 0) (hprot : u.protect core a n false true = 0) (hstall : u.stalls a = false)
    (h : (u.busStore core (!u.coreMach core) (u.fromRom core) a n v).busError = true) (g : State → PipOut) :
    u.putMem core a n v g = .exc (u.busStore core (!u.coreMach core) (u.fromRom core) a n v)
      { vec := 6, eaddr := a, detail := if Sparse.find? u.ecc (a / 8) = some true then 3 else 1 } := by
  by_cases hecc : Sparse.find? u.ecc (a / 8) = some true <;>
    simp [State.putMem, State.storeAt, hal, hprot, hstall, h, hecc, b2n]

/-- Settles O53: a push or a pop moves dsp where its word is moved, and an exception keeps the core's dsp. -/
theorem dataStackPointer : Obligations.DataStackPointer := by
  unfold Obligations.DataStackPointer
  refine fun s core w u => ⟨fun a h => ?setdsp,
    fun d imm => ⟨fun h hr => completes_loadTo_unsigned h hr rfl rfl rfl,
      fun h hw => completes_storeFrom (.inr (.inr rfl)) h hw rfl rfl rfl, fun h => ?adjust,
      fun h hr => completes_loadF h hr rfl rfl rfl, fun h hw => completes_storeF h hw rfl rfl rfl, fun h => ?address⟩,
    fun r => ?push, fun d => ?pop⟩
  case setdsp =>
    have hval : Word.ofN (u.g core a).toNat = u.g core a := BitVec.ofNat_toNat ..
    rw [← hval]
    exact completes_setDsp h rfl rfl rfl
  case adjust => exact completes_setDsp h rfl rfl rfl
  case address => exact completes_answer h rfl rfl rfl
  case push =>
    rw [← add32_dsp]
    exact fun h => ⟨fun hw => completes_push rfl h hw,
      fun hal hx => completes_faulting rfl h rfl (putMem_misaligned hal _) rfl hx,
      fun hal hp hx => completes_faulting rfl h rfl (putMem_protected hal hp _) rfl hx,
      fun hal hprot hstall hreg herr hx =>
        completes_faulting rfl h rfl (putMem_busError hal hprot hstall herr _) (pip_busStore hreg) hx⟩
  case pop =>
    exact fun h => ⟨fun hr => completes_pop rfl h hr,
      fun hal hx => completes_faulting rfl h rfl (load_misaligned hal _) rfl hx,
      fun hal hp hx => completes_faulting rfl h rfl (load_protected hal hp _) rfl hx,
      fun hal hprot hstall hreg herr hx =>
        completes_faulting rfl h rfl (load_busError hal hprot hstall herr _) (pip_busLoad hreg) hx⟩

end Sys2Proof.Machine
end

section
/-!
Control and system instructions of a Pip core: what goes on at another pc, what writes a core, and the exceptions that an
instruction meets before it begins (R484, R486-R488).
-/

namespace Sys2Proof.Machine

variable {s t u x : State} {core a n v d k next : Nat} {w : Word} {i : PipInsn} {m : Instr} {c : PipCore}
  {pick : PipInsn → Option (State → PipOut)} {f : State → PipOut}

/-! ## Instructions that write a core and no memory -/

/-- An instruction that goes on elsewhere and writes nothing. -/
theorem completes_jump (h : s.begins core w i u) (hexec : exec m s = .next (pipRun core w pick s)) (hp : pick i = some f)
    (hf : f u = .ok u next) :
    Completes m s fun t => u.setsNone t core ∧ u.sameMemory t ∧ u.goesOn t core (u.core core) next := by
  have hleaves : u.Leaves u core (u.core core) := .of_eq rfl rfl
  exact completes_of_ok hexec h hp hf ⟨setsNone_ended (setsNone_of_eq rfl), sameMemory_ended fun _ => rfl, goesOn_ended hleaves⟩

/-- An instruction that writes the core itself, over a state that an answered read may have left. -/
theorem completes_core (h : s.begins core w i u) (hexec : exec m s = .next (pipRun core w pick s)) (hp : pick i = some f)
    (hpip : x.pip = u.pip) (hregs : x.regs = u.regs) (hmem : u.sameMemory x) (hg : c.g = (u.core core).g)
    (hfr : c.f = (u.core core).f) (hf : f u = .ok (x.setCore core c) next) :
    Completes m s fun t => u.setsNone t core ∧ u.sameMemory t ∧ u.goesOn t core c next := by
  have hcore : x.core core = u.core core := by rw [State.core, hpip, State.core]
  have hleaves : u.Leaves (x.setCore core c) core c := (State.Leaves.of_eq hpip hregs).setCore rfl
  have hnone : u.setsNone (x.setCore core c) core :=
    setsNone_setCore (setsNone_of_eq hpip) (by rw [hcore, hg]) (by rw [hcore, hfr])
  exact completes_of_ok hexec h hp hf ⟨setsNone_ended hnone, sameMemory_ended (sameMemory_setCore hmem _ _), goesOn_ended hleaves⟩

/-- An instruction that writes the core itself and answers in gD. -/
theorem completes_core_answer {y : Word} (h : s.begins core w i u) (hexec : exec m s = .next (pipRun core w pick s))
    (hp : pick i = some f) (hg : c.g = (u.core core).g) (hfr : c.f = (u.core core).f) (hpc : c.pc = (u.core core).pc)
    (hf : f u = (u.setCore core c).result core (insnLen w) d y) :
    Completes m s fun t => u.setsG t core d y ∧ u.sameMemory t ∧ u.goesOn t core c (u.nextPc core w) := by
  have hleaves : u.Leaves (u.setCore core c) core c := (State.Leaves.of_eq rfl rfl).setCore rfl
  have hnone : u.setsNone (u.setCore core c) core := setsNone_setCore (setsNone_of_eq rfl) hg hfr
  have hafter : (u.setCore core c).after core (insnLen w) = u.nextPc core w := by
    rw [State.after, State.pc, core_setCore_self, hpc]
    rfl
  rw [← hafter]
  exact completes_of_ok hexec h hp hf ⟨setsG_ended (setsG_setG hnone),
    sameMemory_ended (sameMemory_setG (sameMemory_setCore (fun _ => rfl) _ _)), goesOn_ended hleaves.setG⟩

/-! ## Privilege -/

theorem coreMach_of_begins (h : s.begins core w i u) (hi : i.privileged = true) : u.coreMach core = true := by
  obtain ⟨-, -, -, hpriv, g, hfetch, rfl⟩ := h
  rw [← hpriv hi, State.coreMach, core_setCore_self, State.coreMach, State.core, State.core, pip_fetch hfetch]

theorem rsp_of_mach (h : u.coreMach core = true) : u.rsp core = (u.core core).rspm.toNat := by
  rw [State.rsp, if_pos h]

theorem readable_answerRead (h : u.readable core a n) (v : Word) : (u.answerRead v).readable core a n := h

/-! ## Words of a frame -/

theorem completes_jump_at_next (h : s.begins core w i u) (hexec : exec m s = .next (pipRun core w pick s))
    (hp : pick i = some f) (hf : f u = .ok u (u.after core (insnLen w))) :
    Completes m s fun t => u.setsNone t core ∧ u.goesOn t core (u.core core) (u.nextPc core w) ∧ u.sameMemory t :=
  (completes_jump h hexec hp hf).mono fun _ ⟨hnone, hmem, hgoes⟩ => ⟨hnone, hgoes, hmem⟩

/-- An instruction whose one effect is a store that the return-stack regions do not refuse (R474, R486). -/
theorem completes_storeAt_own (hal : a % 4 = 0) (hmpu : (u.core core).mpuAllows (mpuRegions core) 1 a = true)
    (hr : region a = .mainSram ∨ region a = .retained) (hstall : u.stalls a = false) (hanswer : u.memAnswers a = true)
    (hecc : Sparse.find? u.ecc (a / 8) = none) (h : s.begins core w i u) (hexec : exec m s = .next (pipRun core w pick s))
    (hp : pick i = some f) (hx : x = u ∨ ∃ y, x = u.answerRead y)
    (hf : f u = x.storeAt core a 4 v true fun t => .ok t (t.after core (insnLen w))) :
    Completes m s fun t => u.stored t a 4 v ∧ u.setsNone t core ∧ u.goesOn t core (u.core core) (u.nextPc core w) := by
  have hstore : ∃ t, u.Wrote t a 4 v ∧ ∀ g, x.storeAt core a 4 v true g = g t := by
    obtain rfl | ⟨y, rfl⟩ := hx
    · exact storeAt_own hal hmpu hr hstall hanswer hecc v
    · obtain ⟨t, ⟨hpip, hregs, hin, hout⟩, ht⟩ := storeAt_own (u := u.answerRead y) hal hmpu hr hstall hanswer hecc v
      exact ⟨t, ⟨hpip, hregs, hin, hout⟩, ht⟩
  obtain ⟨t, hwrote, ht⟩ := hstore
  refine completes_of_ok hexec h hp (hf.trans (ht _)) ⟨stored_ended hwrote.stored, setsNone_ended hwrote.setsNone, ?_⟩
  rw [hwrote.after]
  exact goesOn_ended hwrote.leaves

/-! ## System registers in the frame (R486) -/

theorem readSys_frame_none {idx : Nat} (hidx : idx = 5 ∨ idx = 6) (h0 : (u.core core).eframe.toNat = 0) :
    u.readSys core n d idx = u.result core n d 0 := by
  obtain rfl | rfl := hidx <;> simp [State.readSys, h0]

theorem readSys_epc (h0 : (u.core core).eframe.toNat ≠ 0) (h : u.readable core (u.core core).eframe.toNat 4) :
    let e := (u.core core).eframe.toNat
    u.readSys core n d 5 = (u.answerRead (Word.ofN (u.mem e 4))).result core n d (Word.ofN (u.mem e 4 / 2 * 2)) := by
  intro e
  have heven : u.mem e 4 / 2 * 2 = u.mem e 4 - u.mem e 4 % 2 := by omega
  simp [State.readSys, h0, load_of_readable h, heven, e]

theorem readSys_epsr (h0 : (u.core core).eframe.toNat ≠ 0) (ha : add32 (u.core core).eframe.toNat 4 = a)
    (h : u.readable core a 4) :
    u.readSys core n d 6 = (u.answerRead (Word.ofN (u.mem a 4))).result core n d (Word.ofN (u.mem a 4)) := by
  subst ha
  simp [State.readSys, h0, load_of_readable h]

theorem add32_of_lt {p q : Nat} (h : p + q < 2 ^ 32) : add32 p q = p + q := Nat.mod_eq_of_lt h

end Sys2Proof.Machine
end

section
/-!
The exception frame at EFRAME: EPC, EPSR and ERET (R486, R487).
-/

namespace Sys2Proof.Machine

variable {s t u x : State} {core a n v d f : Nat} {w : Word} {c : PipCore}

/-! ## EPC and EPSR (R486) -/

theorem completes_mfs_frame_none {idx : Nat} (hidx : idx = 5 ∨ idx = 6) (h : s.begins core w (.mfs d idx) u)
    (h0 : (u.core core).eframe.toNat = 0) : Completes (.mfs core w) s fun t => u.wroteG t core w d 0 :=
  completes_answer h rfl rfl (readSys_frame_none hidx h0)

theorem completes_mfs_epc (h : s.begins core w (.mfs d 5) u) (hf : (u.core core).eframe.toNat = f) (h0 : f ≠ 0)
    (hr : u.readable core f 4) :
    Completes (.mfs core w) s fun t => u.wroteG t core w d (Word.ofN (u.mem f 4 / 2 * 2)) := by
  subst hf
  exact completes_result rfl h rfl (readSys_epc h0 hr) rfl rfl fun _ => rfl

theorem completes_mfs_epsr (h : s.begins core w (.mfs d 6) u) (hf : (u.core core).eframe.toNat = f) (h0 : f ≠ 0)
    (hr : u.readable core (add32 f 4) 4) :
    Completes (.mfs core w) s fun t => u.wroteG t core w d (Word.ofN (u.mem (add32 f 4) 4)) := by
  subst hf
  exact completes_result rfl h rfl (readSys_epsr h0 rfl hr) rfl rfl fun _ => rfl

theorem completes_mts_frame_none {idx : Nat} (hidx : idx = 5 ∨ idx = 6) (h : s.begins core w (.mts a idx) u)
    (h0 : (u.core core).eframe.toNat = 0) :
    Completes (.mts core w) s fun t =>
      u.setsNone t core ∧ u.goesOn t core (u.core core) (u.nextPc core w) ∧ u.sameMemory t := by
  refine completes_jump_at_next h rfl rfl ?_
  obtain rfl | rfl := hidx <;> simp [State.writeSysReg, h0]

/-- What a write of the frame asks of its word: the MPU lets it through, and SRAM answers. -/
def State.frameWord (u : State) (core e : Nat) : Prop :=
  (u.core core).mpuAllows (mpuRegions core) 1 e = true ∧ (region e = .mainSram ∨ region e = .retained)
  ∧ u.stalls e = false ∧ u.memAnswers e = true ∧ Sparse.find? u.ecc (e / 8) = none

theorem completes_mts_epc (h : s.begins core w (.mts a 5) u) (hf : (u.core core).eframe.toNat = f) (h0 : f ≠ 0)
    (hal : f % 4 = 0) (hok : u.frameWord core f) :
    Completes (.mts core w) s fun t =>
      u.stored t f 4 ((u.g core a).toNat / 2 * 2 + 1) ∧ u.setsNone t core
      ∧ u.goesOn t core (u.core core) (u.nextPc core w) := by
  obtain ⟨hmpu, hr, hstall, hanswer, hecc⟩ := hok
  refine completes_storeAt_own hal hmpu hr hstall hanswer hecc h rfl rfl (.inl rfl) ?_
  simp [State.writeSysReg, hf, h0, hal]

theorem completes_mts_epsr (h : s.begins core w (.mts a 6) u) (hf : (u.core core).eframe.toNat = f) (h0 : f ≠ 0)
    (hread : u.readable core (add32 f 4) 4) (hok : u.frameWord core (add32 f 4)) :
    Completes (.mts core w) s fun t =>
      u.stored t (add32 f 4) 4 (u.mem (add32 f 4) 4 / 4 * 4 + (u.g core a).toNat % 4) ∧ u.setsNone t core
      ∧ u.goesOn t core (u.core core) (u.nextPc core w) := by
  have hload := load_of_readable hread
  obtain ⟨hal, -⟩ := hread
  obtain ⟨hmpu, hr, hstall, hanswer, hecc⟩ := hok
  refine completes_storeAt_own hal hmpu hr hstall hanswer hecc h rfl rfl (.inr ⟨Word.ofN (u.mem (add32 f 4) 4), rfl⟩) ?_
  simp [State.writeSysReg, hf, h0, hload]

/-! ## ERET (R487) -/

theorem mem_answerRead (u : State) (v : Word) (a n : Nat) : (u.answerRead v).mem a n = u.mem a n :=
  mem_of_sameMemory (s := u) (t := u.answerRead v) (fun _ => rfl) a n

theorem core_answerRead (u : State) (v : Word) (k : Nat) : (u.answerRead v).core k = u.core k := rfl

/-- The core that a frame restores. -/
def PipCore.restored (c : PipCore) (f psr eframe : Nat) : PipCore :=
  { c with psr := Word.ofN (bitsOf psr 4 4 * 16 + psr % 4), eframe := Word.ofN eframe, rspm := Word.ofN (f + 16) }

/-- ERET restores the core from its frame. -/
theorem completes_eret (h : s.begins core w .eret u) (hf : (u.core core).eframe.toNat = f) (h0 : f ≠ 0)
    (heq : (u.core core).rspm = (u.core core).eframe) (hend : f + 16 ≤ 2 ^ 32) (hr0 : u.readable core f 4)
    (hr4 : u.readable core (f + 4) 4) (hr8 : u.readable core (f + 8) 4) (hbit : u.mem f 4 % 2 = 1) :
    Completes (.eret core w) s fun t =>
      u.setsNone t core ∧ u.sameMemory t
      ∧ u.goesOn t core ((u.core core).restored f (u.mem (f + 4) 4) (u.mem (f + 8) 4)) (u.mem f 4 - 1) := by
  have hspm : (u.core core).rspm.toNat = f := by rw [heq, hf]
  have h4 : add32 f 4 = f + 4 := add32_of_lt (by omega)
  have h8 : add32 f 8 = f + 8 := add32_of_lt (by omega)
  have hload0 := loadAt_of_readable hr0
  generalize u.mem f 4 = w0 at *
  have hload4 := loadAt_of_readable (readable_answerRead hr4 (Word.ofN w0))
  have hmem4 : (u.answerRead (Word.ofN w0)).mem (f + 4) 4 = u.mem (f + 4) 4 := mem_answerRead ..
  rw [hmem4] at hload4
  generalize u.mem (f + 4) 4 = w1 at *
  have hload8 := loadAt_of_readable (readable_answerRead (readable_answerRead hr8 (Word.ofN w0)) (Word.ofN w1))
  have hmem8 : ((u.answerRead (Word.ofN w0)).answerRead (Word.ofN w1)).mem (f + 8) 4 = u.mem (f + 8) 4 :=
    (mem_answerRead ..).trans (mem_answerRead ..)
  rw [hmem8] at hload8
  generalize u.mem (f + 8) 4 = w2 at *
  refine completes_core (x := ((u.answerRead (Word.ofN w0)).answerRead (Word.ofN w1)).answerRead (Word.ofN w2))
    h rfl rfl rfl rfl (fun _ => rfl) rfl rfl ?_
  dsimp only
  simp only [hf, hspm, h0, h4, h8, hload0, hload4, hload8, core_answerRead]
  simp [hbit, ofN_add32, PipCore.restored]

/-- ERET without a frame of its own raises RSTACK (R487). -/
theorem completes_eret_bad (h : s.begins core w .eret u) (hf : (u.core core).eframe.toNat = f)
    (hbad : f = 0 ∨ (u.core core).rspm ≠ (u.core core).eframe ∨ (u.readable core f 4 ∧ u.mem f 4 % 2 = 0))
    (hx : u.canEnter core 8) :
    Completes (.eret core w) s fun t => u.hasEntered t core 8 (u.core core).rspm.toNat 4 0 (u.pc core) := by
  have hsp := rsp_of_mach (coreMach_of_begins h rfl)
  rw [← hsp]
  refine completes_of_raised (e := { vec := 8, eaddr := u.rsp core, detail := 4 }) rfl h rfl ?_ hx
  dsimp only
  simp only [Bool.or_eq_true, decide_eq_true_eq, bne_iff_ne, hf]
  by_cases hown : f = 0 ∨ (u.core core).rspm.toNat ≠ f
  · rw [if_pos hown]
  · rw [if_neg hown]
    push Not at hown
    obtain ⟨h0, hspm⟩ := hown
    obtain hzero | hne | ⟨hr, heven⟩ := hbad
    · exact absurd hzero h0
    · exact absurd (BitVec.eq_of_toNat_eq (hspm.trans hf.symm)) hne
    · rw [loadAt_of_readable hr, if_pos heven]

/-- A core that ERET leaves in user privilege is back on rsp_u. -/
theorem user_of_restored {psr eframe next : Nat} (h : u.goesOn t core (c.restored f psr eframe) next)
    (hbit : bitAt psr 1 = false) : t.coreMach core = false ∧ t.rsp core = c.rspu.toNat := by
  obtain ⟨hself, -⟩ := h
  have hpsr := congrArg PipCore.psr hself
  have hrspu := congrArg PipCore.rspu hself
  change (t.core core).psr = Word.ofN (bitsOf psr 4 4 * 16 + psr % 4) at hpsr
  change (t.core core).rspu = c.rspu at hrspu
  have hmach : t.coreMach core = false := by
    have hlow : bitsOf psr 4 4 < 16 := bitsOf_lt ..
    have hbit' : psr / 2 % 2 = 0 := by simpa [bitAt, bitsOf] using hbit
    have hval : (Word.ofN (bitsOf psr 4 4 * 16 + psr % 4)).toNat = bitsOf psr 4 4 * 16 + psr % 4 :=
      (BitVec.toNat_ofNat ..).trans (Nat.mod_eq_of_lt (by omega))
    rw [State.coreMach, hpsr, hval]
    simp [bitAt]
    omega
  rw [State.rsp, if_neg (Bool.eq_false_iff.1 hmach), hrspu]
  exact ⟨hmach, rfl⟩

/-- Settles O54: the frame's words are read, written and restored where the core finds them. -/
theorem exceptionFrameAccess : Obligations.ExceptionFrameAccess := by
  unfold Obligations.ExceptionFrameAccess
  refine fun s core w u => ⟨fun d => ⟨fun h => ⟨fun h0 => completes_mfs_frame_none (.inl rfl) h h0,
      fun h0 hr => completes_mfs_epc h rfl h0 hr⟩,
      fun h => ⟨fun h0 => completes_mfs_frame_none (.inr rfl) h h0, fun h0 hlt hr => ?epsrRead⟩⟩,
    fun a => ⟨fun h => ⟨fun h0 => completes_mts_frame_none (.inl rfl) h h0,
      fun h0 hal hok => completes_mts_epc h rfl h0 hal hok⟩,
      fun h => ⟨fun h0 => completes_mts_frame_none (.inr rfl) h h0, fun h0 hlt hr hok => ?epsrWrite⟩⟩,
    fun h => ⟨fun h0 heq hend hr0 hbit hr4 hr8 => ?eret, fun hbad hx => completes_eret_bad h rfl hbad hx⟩⟩
  case epsrRead =>
    rw [← add32_of_lt hlt] at hr ⊢
    exact completes_mfs_epsr h rfl h0 hr
  case epsrWrite =>
    rw [← add32_of_lt hlt] at hr hok ⊢
    exact completes_mts_epsr h rfl h0 hr hok
  case eret =>
    exact (completes_eret h rfl h0 heq hend hr0 hr4 hr8 hbit).mono fun t ⟨hnone, hmem, hgoes⟩ =>
      ⟨hnone, hmem, hgoes, user_of_restored hgoes⟩

end Sys2Proof.Machine
end

section
/-!
Control transfers, system registers, traps, interrupts and waits of a Pip core (R471-R474, R482-R490, R497, R498, R504).
-/

namespace Sys2Proof.Machine

variable {s t u x : State} {core a n v d k next vec eaddr detail einsn epc : Nat} {w : Word} {i : PipInsn} {m : Instr}
  {c : PipCore} {pick : PipInsn → Option (State → PipOut)} {f : State → PipOut} {e : PipExc}

/-! ## Return stack (R474) -/

/-- A core with its return-stack pointer of the current privilege set. -/
def PipCore.withRsp (c : PipCore) (mach : Bool) (a : Nat) : PipCore :=
  if mach then { c with rspm := Word.ofN a } else { c with rspu := Word.ofN a }

theorem setRsp_eq (s : State) (k a : Nat) : s.setRsp k a = s.setCore k ((s.core k).withRsp (s.coreMach k) a) := by
  unfold State.setRsp PipCore.withRsp
  split <;> rfl

theorem withRsp_g (c : PipCore) (mach : Bool) (a : Nat) : (c.withRsp mach a).g = c.g := by
  unfold PipCore.withRsp
  split <;> rfl

theorem withRsp_f (c : PipCore) (mach : Bool) (a : Nat) : (c.withRsp mach a).f = c.f := by
  unfold PipCore.withRsp
  split <;> rfl

/-- A place of the return stack that a call can push to. -/
structure State.pushable (u : State) (core sp : Nat) : Prop where
  at_sp : add32 (u.rsp core) (2 ^ 32 - 4) = sp
  aligned : sp % 4 = 0
  base : (u.rsRegion core).1 ≤ sp
  limit : sp < (u.rsRegion core).2
  allowed : (u.core core).mpuAllows (mpuRegions core) 1 sp = true
  sram : region sp = .mainSram ∨ region sp = .retained
  awake : u.stalls sp = false
  answers : u.memAnswers sp = true
  sound : Sparse.find? u.ecc (sp / 8) = none

theorem add32_rsp (u : State) (core : Nat) : add32 (u.rsp core) (2 ^ 32 - 4) = (u.rsp core + 2 ^ 32 - 4) % 2 ^ 32 := by
  rw [Nat.add_sub_assoc (by decide)]
  rfl

/-- A call pushes the address after it and jumps. -/
theorem completes_callTo {sp target : Nat} (hsp : u.pushable core sp) (h : s.begins core w i u)
    (hexec : exec m s = .next (pipRun core w pick s)) (hp : pick i = some f) (hf : f u = u.callTo core (insnLen w) target) :
    Completes m s fun t => u.stored t sp 4 (u.nextPc core w) ∧ u.setsNone t core
      ∧ u.goesOn t core ((u.core core).withRsp (u.coreMach core) sp) target := by
  obtain ⟨hat, hal, hbase, hlim, hmpu, hr, hstall, hanswer, hecc⟩ := hsp
  obtain ⟨t, hwrote, ht⟩ := storeAt_own hal hmpu hr hstall hanswer hecc (u.nextPc core w)
  have hcore : t.core core = u.core core := by rw [State.core, hwrote.pip, State.core]
  have hmach : t.coreMach core = u.coreMach core := by rw [State.coreMach, hcore, State.coreMach]
  have hset : t.setRsp core sp = t.setCore core ((u.core core).withRsp (u.coreMach core) sp) := by
    rw [setRsp_eq, hcore, hmach]
  have hleaves : u.Leaves (t.setRsp core sp) core ((u.core core).withRsp (u.coreMach core) sp) := by
    rw [hset]
    exact hwrote.leaves.setCore rfl
  have hnone : u.setsNone (t.setRsp core sp) core := by
    rw [setRsp_eq]
    exact setsNone_setCore hwrote.setsNone (withRsp_g ..) (withRsp_f ..)
  have hstored : u.stored (t.setRsp core sp) sp 4 (u.nextPc core w) := by
    rw [setRsp_eq]
    exact stored_setCore hwrote.stored
  refine completes_of_ok hexec h hp (hf.trans ?_) ⟨stored_ended hstored, setsNone_ended hnone, goesOn_ended hleaves⟩
  simp only [State.callTo, nextPc_eq_after, hat, ht]
  simp [hal, Nat.not_lt.2 hbase, hlim]

/-- A return pops where it resumes. -/
theorem completes_ret {sp : Nat} (hsp : u.rsp core = sp) (h : s.begins core w .ret u) (hbase : (u.rsRegion core).1 ≤ sp)
    (hlim : sp + 4 ≤ (u.rsRegion core).2) (hr : u.readable core sp 4) (heven : u.mem sp 4 % 2 = 0) :
    Completes (.ret core w) s fun t =>
      u.setsNone t core ∧ u.sameMemory t ∧ u.goesOn t core ((u.core core).withRsp (u.coreMach core) (sp + 4)) (u.mem sp 4) := by
  subst hsp
  have hload := loadAt_of_readable hr
  obtain ⟨hal, -⟩ := hr
  generalize u.mem (u.rsp core) 4 = v at *
  have hwith : (u.core core).withRsp (u.coreMach core) (u.rsp core + 4)
      = (u.core core).withRsp (u.coreMach core) (add32 (u.rsp core) 4) := by
    unfold PipCore.withRsp
    rw [ofN_add32]
  rw [hwith]
  refine completes_core (x := u.answerRead (Word.ofN v)) h rfl rfl rfl rfl (fun _ => rfl) (withRsp_g ..) (withRsp_f ..) ?_
  dsimp only
  simp only [hload, setRsp_eq, core_answerRead, State.coreMach]
  simp [hal, Nat.not_lt.2 hbase, Nat.not_lt.2 hlim, heven]

/-! ## System registers (R482, R504) -/

/-- A write of a system register leaves the other registers of the core. -/
theorem writeSys_regs (c : PipCore) (idx : Nat) (w : Word) : (c.writeSys idx w).g = c.g ∧ (c.writeSys idx w).f = c.f := by
  unfold PipCore.writeSys
  extract_lets
  split
  case h_9 => split <;> exact ⟨rfl, rfl⟩
  case h_11 => split_ifs <;> exact ⟨rfl, rfl⟩
  all_goals exact ⟨rfl, rfl⟩

theorem completes_mts {idx : Nat} (h : s.begins core w (.mts a idx) u) (h5 : idx ≠ 5) (h6 : idx ≠ 6) :
    Completes (.mts core w) s fun t =>
      u.setsNone t core ∧ u.sameMemory t ∧ u.goesOn t core ((u.core core).writeSys idx (u.g core a)) (u.nextPc core w) := by
  obtain ⟨hg, hf⟩ := writeSys_regs (u.core core) idx (u.g core a)
  refine completes_core (x := u) (next := u.after core (insnLen w)) h rfl rfl rfl rfl (fun _ => rfl) hg hf ?_
  simp [State.writeSysReg, h5, h6]

theorem completes_mfs {idx : Nat} (h : s.begins core w (.mfs d idx) u) (h11 : idx ≠ 0x11) (h5 : idx ≠ 5) (h6 : idx ≠ 6) :
    Completes (.mfs core w) s fun t => u.wroteG t core w d ((u.core core).sysReg core idx) := by
  refine completes_answer h rfl rfl ?_
  simp [State.readSys, h5, h6, h11]

/-! ## States that differ in a core's cycle count (R504) -/

/-- `x` is `u` but for the cycle count of a core and for what no core, register or byte of memory shows. -/
structure State.Ticked (u x : State) (core : Nat) : Prop where
  self : x.core core = { u.core core with cycle := (x.core core).cycle }
  others : ∀ k, k ≠ core → x.core k = u.core k
  regs : x.regs = u.regs
  memory : u.sameMemory x
  awake : ∀ a, x.stalls a = u.stalls a
  answers : ∀ a, x.memAnswers a = u.memAnswers a
  ecc : x.ecc = u.ecc

theorem ticked_draw (u : State) (core : Nat) : u.Ticked { u with free := u.free + 1 } core :=
  ⟨rfl, fun _ _ => rfl, rfl, fun _ => rfl, fun _ => rfl, fun _ => rfl, rfl⟩

theorem ticked_spendCycles (u : State) (core : Nat) : u.Ticked (u.spendCycles core) core where
  self := by
    rw [State.spendCycles, core_setCore_self]
    rfl
  others _ hk := core_setCore_ne _ _ hk
  regs := rfl
  memory _ := rfl
  awake _ := rfl
  answers _ := rfl
  ecc := rfl

/-- An exception asks nothing of a cycle count. -/
theorem canEnter_of_ticked (h : u.Ticked x core) (hu : u.canEnter core vec) : x.canEnter core vec := by
  unfold State.canEnter at hu ⊢
  have hmem (a : Nat) : x.mem a 4 = u.mem a 4 := mem_of_sameMemory h.memory a 4
  rw [h.self]
  simp only [h.awake, h.answers, h.ecc, hmem]
  exact hu

theorem hasEntered_of_ticked (h : u.Ticked x core) (hx : x.hasEntered t core vec eaddr detail einsn epc) :
    u.hasEntered t core vec eaddr detail einsn epc := by
  unfold State.hasEntered at hx ⊢
  have hmem (a : Nat) : x.mem a 4 = u.mem a 4 := mem_of_sameMemory h.memory a 4
  rw [h.self] at hx
  simp only [hmem] at hx
  obtain ⟨hcause, hself, hepc, hpsr, heframe, hecause, hothers, hregs, hbytes⟩ := hx
  refine ⟨hcause, hself, hepc, hpsr, heframe, hecause, fun k hk => (hothers k hk).trans (h.others k hk), fun a ha => ?_,
    fun b hb => (hbytes b hb).trans (h.memory b)⟩
  rw [hregs a ha, State.reg, h.regs, State.reg]

/-! ## Exceptions before an instruction begins (R484, R488) -/

theorem completes_trap {code : Nat} (h : s.begins core w (.trap code) u) (hu : u.canEnter core 4) :
    Completes (.trap core w) s fun t => u.hasEntered t core 4 0 code 0 (u.nextPc core w) := by
  have hticked := ticked_spendCycles u core
  exact (completes_of_raised (x := u.spendCycles core) (e := { vec := 4, eaddr := 0, detail := code, after := true }) rfl h rfl
    rfl (canEnter_of_ticked hticked hu)).mono fun t ht => hasEntered_of_ticked hticked ht

/-- An interrupt enters vector 10 (R488). -/
theorem completes_int (hrun : s.pipRuns core = true) (hie : bitAt (s.core core).psr.toNat 0 = true)
    (hirq : s.irqRequest core = true) (hs : s.canEnter core 10) :
    Completes (.intCmd core) s fun t => s.hasEntered t core 10 0 0 0 (s.pc core) := by
  have hticked := ticked_draw s core
  have hexec : exec (.intCmd core) s = .next (({ s with free := s.free + 1 } : State).takeExc core
      { vec := 10, eaddr := 0, detail := 0 } (Config.freeNat s.free % 2) 0 (s.pc core)) := by
    change execIntCmd core s = _
    unfold execIntCmd
    rw [if_pos (by simp [hrun, hie, hirq])]
    rfl
  refine ⟨_, hexec, hasEntered_of_ticked hticked (hasEntered_takeExc (e := { vec := 10, eaddr := 0, detail := 0 })
    (canEnter_of_ticked hticked hs) (Nat.mod_lt _ (by decide)) ?_)⟩
  exact ((s.core core).pc).isLt

theorem pc_of_fetched (hfetch : s.fetch core = .word n x) :
    (x.setCore core { x.core core with entered := false }).pc core = s.pc core := by
  rw [State.pc, core_setCore_self, State.pc, State.core, State.core, pip_fetch hfetch]

section
variable (hrun : s.pipRuns core = true) (hint : (bitAt (s.core core).psr.toNat 0 && s.irqRequest core) = false)
  (hfetch : s.fetch core = .word w.toNat x)
include hrun hint hfetch

/-- A reserved encoding raises EMULATE (R484). -/
theorem completes_reserved (hu : (x.setCore core { x.core core with entered := false }).canEnter core 2)
    (hdec : pipDecode (core == 4) w = none) (hexec : exec m s = .next (pipRun core w pick s)) :
    let u := x.setCore core { x.core core with entered := false }
    Completes m s fun t => u.hasEntered t core 2 0 0 w.toNat (u.pc core) := by
  have hpc := pc_of_fetched hfetch
  generalize hu' : x.setCore core { x.core core with entered := false } = u at *
  refine ⟨_, hexec, ?_⟩
  have hpip : pipRun core w pick s
      = u.takeExc core { vec := 2, eaddr := 0, detail := 0 } (b2n (bitAt w.toNat 31)) w.toNat (u.pc core) := by
    rw [hpc, ← hu']
    unfold pipRun
    simp [hrun, hint, hfetch, hdec]
  rw [hpip]
  exact hasEntered_takeExc (e := { vec := 2, eaddr := 0, detail := 0 }) hu (ilen_lt w) ((u.core core).pc).isLt

/-- A privileged instruction in user privilege raises PRIV (R484). -/
theorem completes_privileged (hu : (x.setCore core { x.core core with entered := false }).canEnter core 3)
    (hmach : s.coreMach core = false) (hdec : pipDecode (core == 4) w = some i) (hi : i.privileged = true)
    (hexec : exec m s = .next (pipRun core w pick s)) (hp : pick i = some f) :
    let u := x.setCore core { x.core core with entered := false }
    Completes m s fun t => u.hasEntered t core 3 0 0 w.toNat (u.pc core) := by
  have hpc := pc_of_fetched hfetch
  generalize hu' : x.setCore core { x.core core with entered := false } = u at *
  refine ⟨_, hexec, ?_⟩
  have hpip : pipRun core w pick s
      = u.takeExc core { vec := 3, eaddr := 0, detail := 0 } (b2n (bitAt w.toNat 31)) w.toNat (u.pc core) := by
    rw [hpc, ← hu']
    unfold pipRun
    simp [hrun, hint, hfetch, hdec, hmach, hi, hp]
  rw [hpip]
  exact hasEntered_takeExc (e := { vec := 3, eaddr := 0, detail := 0 }) hu (ilen_lt w) ((u.core core).pc).isLt

end

/-! ## Waits (R490) -/

theorem completes_stalled (h : s.begins core w i u) (hexec : exec m s = .next (pipRun core w pick s)) (hp : pick i = some f)
    (hf : f u = .stall x) : Completes m s fun t => t = x := by
  obtain ⟨hrun, hint, hdec, hpriv, g, hfetch, rfl⟩ := h
  have hmach : (i.privileged && !s.coreMach core) = false := by
    cases hi : i.privileged
    · rfl
    · simp [hpriv hi]
  refine ⟨_, hexec, ?_⟩
  unfold pipRun
  simp [hrun, hint, hfetch, hdec, hp, hmach, hf]

theorem completes_wait_waiting (h : s.begins core w .wait u) (hirq : u.irqRequest core = false) :
    Completes (.wait core w) s fun t =>
      t.core core = { u.core core with run := .waiting } ∧ u.sameRegsBut t [] ∧ u.sameMemory t := by
  refine (completes_stalled (x := u.setCore core { u.core core with run := .waiting }) h rfl rfl ?_).mono fun t ht => ?_
  · dsimp only
    rw [if_neg (Bool.eq_false_iff.1 hirq)]
  · subst ht
    exact ⟨core_setCore_self .., fun _ _ => rfl, sameMemory_setCore (fun _ => rfl) _ _⟩

theorem completes_waitWake (hcore : core < 5) (hrun : (s.core core).run = .waiting) (hirq : s.irqRequest core = true) :
    Completes (.waitWake core) s fun t =>
      s.setsNone t core ∧ s.sameMemory t
      ∧ s.goesOn t core { s.core core with run := .running } ((s.pc core + 4) % 2 ^ 32) := by
  have hafter : (s.setCore core { s.core core with run := .running }).after core 4 = (s.pc core + 4) % 2 ^ 32 := by
    rw [State.after, State.pc, core_setCore_self, State.pc]
  have hleaves : s.Leaves (s.setCore core { s.core core with run := .running }) core { s.core core with run := .running } :=
    (State.Leaves.of_eq rfl rfl).setCore rfl
  have hnone : s.setsNone (s.setCore core { s.core core with run := .running }) core :=
    setsNone_setCore (setsNone_of_eq rfl) rfl rfl
  have hexec : exec (.waitWake core) s
      = .next ((s.setCore core { s.core core with run := .running }).ended core ((s.pc core + 4) % 2 ^ 32)) := by
    change execWaitWake core s = _
    unfold execWaitWake
    rw [if_pos (by simp [hcore, hrun, hirq]), ← hafter]
    rfl
  exact ⟨_, hexec, setsNone_ended hnone, sameMemory_ended (sameMemory_setCore (fun _ => rfl) _ _), goesOn_ended hleaves⟩

/-- Settles O51: where a core goes on, what a call and a return move, and what an exception or a wait leaves. -/
theorem pipControl : Obligations.PipControl := by
  unfold Obligations.PipControl
  refine fun s core => ⟨fun w u => ⟨fun cond a b disp h => completes_jump h rfl rfl rfl,
      fun disp h => completes_jump h rfl rfl rfl, fun a h => ⟨fun heven => ?jr, fun hodd hx => ?jrOdd⟩,
      fun hal hbase hlim hmpu hr hstall hanswer hecc => ?calls,
      fun h hbase hlim hr heven => completes_ret rfl h hbase hlim hr heven,
      fun d idx h h11 => ⟨fun h5 h6 => completes_mfs h h11 h5 h6, ?epcNone, ?epc⟩,
      fun d h => completes_core_answer h rfl rfl rfl rfl rfl rfl, fun a idx h h5 h6 => completes_mts h h5 h6,
      fun d ie h => completes_core_answer h rfl rfl rfl rfl rfl rfl, fun code h hx => completes_trap h hx,
      fun h h0 heq hend hr0 hr4 hr8 hbit => completes_eret h rfl h0 heq hend hr0 hr4 hr8 hbit,
      fun h => ⟨fun hirq => ?waitDone, fun hirq => completes_wait_waiting h hirq⟩⟩,
    fun hcore hrun hirq => completes_waitWake hcore hrun hirq, fun hrun hie hirq hx => completes_int hrun hie hirq hx,
    fun w f hrun hint hfetch => ⟨fun hx hdec => completes_reserved hrun hint hfetch hx hdec rfl,
      fun hx hmach => ⟨fun hdec => completes_privileged hrun hint hfetch hx hmach hdec rfl rfl rfl,
        fun hdec => completes_privileged hrun hint hfetch hx hmach hdec rfl rfl rfl⟩⟩⟩
  case jr =>
    refine completes_jump h rfl rfl ?_
    dsimp only
    rw [if_neg (by omega)]
  case jrOdd =>
    refine completes_of_raised (e := { vec := 5, eaddr := (u.g core a).toNat, detail := 0 }) rfl h rfl ?_ hx
    dsimp only
    rw [if_pos hodd]
  case calls =>
    rw [← add32_rsp] at *
    have hpush : u.pushable core (add32 (u.rsp core) (2 ^ 32 - 4)) := ⟨rfl, hal, hbase, hlim, hmpu, hr, hstall, hanswer, hecc⟩
    refine ⟨fun disp h => completes_callTo hpush h rfl rfl rfl, fun a h heven => completes_callTo hpush h rfl rfl ?_⟩
    dsimp only
    rw [if_neg (by omega)]
  case epcNone =>
    rintro rfl h0
    exact completes_mfs_frame_none (.inl rfl) h (congrArg BitVec.toNat h0)
  case epc =>
    intro e hidx h0 hr
    subst hidx
    exact completes_mfs_epc h rfl h0 hr
  case waitDone =>
    refine completes_jump_at_next h rfl rfl ?_
    dsimp only
    rw [if_pos hirq]

end Sys2Proof.Machine
end

section
/-!
What taking a host command and answering it leave alone (R377, R379), and the bits of fields.
-/

namespace Sys2Proof.Machine

variable {s : State}

/-- A response changes the Host Serial Link and its frame counter alone. -/
theorem respond_eq (s : State) (o : Origin) (code : Nat) (st : Status) (rest : List Byte) :
    ∃ x y, s.respond o code st rest = { s with hsl := x, regs := y } := by
  obtain ⟨x, h | h⟩ := respond_cases s o code st rest
  · exact ⟨x, _, h⟩
  · exact ⟨x, _, h⟩

theorem taking_eq (s : State) (o : Origin) : ∃ x y, s.taking o = { s with hsl := x, regs := y } := ⟨_, _, rfl⟩

theorem sameMemory_respond {t : State} (h : s.sameMemory t) (o : Origin) (code : Nat) (st : Status) (rest : List Byte) :
    s.sameMemory (t.respond o code st rest) := fun a => (byte_respond ..).trans (h a)

theorem sameMemory_taking (s : State) (o : Origin) : s.sameMemory (s.taking o) := fun _ => rfl

theorem fld_respond_ne (s : State) {f : Fld} (o : Origin) (code : Nat) (st : Status) (rest : List Byte)
    (hf : f.addr ≠ A.hslCtr 1) : (s.respond o code st rest).fld f = s.fld f := by
  rw [State.fld, regN_respond_ne s o code st rest hf, State.fld]

theorem fld_taking_ne (s : State) {f : Fld} (o : Origin) (hf : f.addr ≠ A.hslCtr 0) : (s.taking o).fld f = s.fld f := by
  rw [State.fld, regN_taking_ne s o hf, State.fld]

theorem bitAt_mod_two_pow (x : Nat) {j n : Nat} (h : j < n) : bitAt (x % 2 ^ n) j = bitAt x j := by
  obtain ⟨d, rfl⟩ := Nat.exists_eq_add_of_lt h
  unfold bitAt
  rw [Nat.add_assoc, pow_add, Nat.mod_mul_right_div_self, Nat.mod_mod_of_dvd _ (dvd_pow_self 2 (Nat.succ_ne_zero d))]

theorem bitAt_putBit (x : Nat) (b : Bool) (i j : Nat) : bitAt (putBit x i b) j = if j = i then b else bitAt x j := by
  rw [putBit, bitAt_setBitsOf_one]
  cases b <;> rfl

/-! ## What a count leaves alone -/

section
variable {a b : Nat} {f : Fld}

theorem regN_count_ne (s : State) (h : b ≠ a) : (s.count a).regN b = s.regN b := State.regN_setRegN_ne s _ h

theorem fld_count_ne (s : State) (h : f.addr ≠ a) : (s.count a).fld f = s.fld f := State.fld_setRegN_ne s _ h

theorem flag_count_ne (s : State) (h : f.addr ≠ a) : (s.count a).flag f = s.flag f := by
  rw [State.flag, fld_count_ne s h, State.flag]

theorem regN_raise_ne (s : State) (h : b ≠ f.addr) : (s.raise f).regN b = s.regN b := State.regN_setRegN_ne s _ h

theorem regN_lower_ne (s : State) (h : b ≠ f.addr) : (s.lower f).regN b = s.regN b := State.regN_setRegN_ne s _ h

theorem regN_setFld_ne (s : State) (v : Nat) (h : b ≠ f.addr) : (s.setFld f v).regN b = s.regN b :=
  State.regN_setRegN_ne s _ h

theorem byte_count (s : State) (a b : Nat) : (s.count a).byte b = s.byte b := rfl

theorem writesOnly_count {l : List Nat} {t : State} (h : WritesOnly l s t) (ha : a ∈ l) : WritesOnly l s (t.count a) :=
  h.setRegN ha

end

end Sys2Proof.Machine
end

section
/-!
The counter snapshot (R546-R548, R553): one is taken or missed, its fill ends, and a bank is read.
-/

namespace Sys2Proof.Machine

variable {s t : State} {tick k : Nat} {w : Word}

/-! ## Taking a snapshot (R547, R548) -/

/-- The bank that the next snapshot fills. -/
def State.snapTarget (s : State) : Nat := if s.snp.gen = 0 then 0 else 1 - s.fld F.snpStatNewest

theorem snapTarget_lt (s : State) : s.snapTarget < 2 := by
  unfold State.snapTarget
  split <;> omega

/-- The banks with one of them filled. -/
def SnpState.filled (p : SnpState) (k : Nat) (b : SnpBank) (tick : Nat) : SnpState :=
  { (if k = 0 then { p with bank0 := b } else { p with bank1 := b }) with
    gen := b.gen, last := some tick, frozen := p.frozen.filter fun f => f.tick != tick }

/-- What a snapshot fills its bank with. -/
def State.snapTaken (s : State) (tick : Nat) : SnpBank := { s.snapNow tick with gen := (s.snp.gen + 1) % 2 ^ 32 }

theorem vals_snapTaken (s : State) (tick : Nat) : (s.snapTaken tick).vals = s.snapAll := by
  rw [State.snapTaken, State.snapNow]

/-- The state in which a snapshot has been taken. -/
def State.snapped (s : State) (tick : Nat) : State :=
  { s with snp := s.snp.filled s.snapTarget (s.snapTaken tick) tick }

theorem snapshot_taken (hlast : s.snp.last ≠ some tick) (hfill : s.flag F.snpStatFilling = false)
    (hheld : bitAt (s.fld F.snpHoldHeld) s.snapTarget = false) (hfrozen : s.snp.frozen.find? (fun b => b.tick == tick) = none) :
    s.snapshot tick
      = (true, ((s.snapped tick).raise F.snpStatFilling).setFld F.snpStatNewest s.snapTarget) := by
  unfold State.snapped State.snapTarget State.snapTaken SnpState.filled at *
  simp only [State.snapshot, hfill, hheld, hfrozen, beq_iff_eq, hlast, Bool.or_false, if_false, Bool.false_eq_true]
  split <;> split <;> rfl

theorem snapshot_missed (hlast : s.snp.last ≠ some tick)
    (h : s.flag F.snpStatFilling = true ∨ bitAt (s.fld F.snpHoldHeld) s.snapTarget = true) :
    s.snapshot tick = (false, (s.count A.snpMisscnt).raise F.snpIntstatMissed) := by
  unfold State.snapTarget at h
  simp only [State.snapshot, beq_iff_eq, hlast, if_false, Bool.or_eq_true, h, if_true]

theorem snpBank_snapped (s : State) (tick : Nat) : (s.snapped tick).snpBank s.snapTarget = s.snapTaken tick := by
  unfold State.snpBank State.snapped SnpState.filled
  split <;> rfl

theorem snpBank_snapped_other (s : State) (tick : Nat) :
    (s.snapped tick).snpBank (1 - s.snapTarget) = s.snpBank (1 - s.snapTarget) := by
  have hlt := snapTarget_lt s
  unfold State.snpBank State.snapped SnpState.filled
  by_cases h : s.snapTarget = 0
  · simp [h]
  · simp [show s.snapTarget = 1 by omega]

theorem completes_snapshotTake (hcom : s.comUp = true) (hw : bitAt w.toNat 0 = true) (hlast : s.snp.last ≠ some s.tb.now)
    (hfrozen : s.snp.frozen.find? (fun b => b.tick == s.tb.now) = none) (hfill : s.flag F.snpStatFilling = false)
    (hheld : bitAt (s.fld F.snpHoldHeld) s.snapTarget = false) :
    Completes (.snapshotTake false w) s fun t =>
      t.snp = (s.snapped s.tb.now).snp ∧ t.flag F.snpStatFilling = true ∧ t.fld F.snpStatNewest = s.snapTarget
      ∧ s.sameRegsBut t [A.snpStat] ∧ s.sameMemory t := by
  have hwrites : WritesOnly [A.snpStat] (s.snapped s.tb.now)
      (((s.snapped s.tb.now).raise F.snpStatFilling).setFld F.snpStatNewest s.snapTarget) := (WritesOnly.refl _ _).raise.setFld
  have hexec : exec (.snapshotTake false w) s = .next (s.snapshot s.tb.now).2 := by
    change Host.Outcome.next (if (s.comUp && bitAt w.toNat 0) = true then _ else _) = _
    rw [hcom, hw]
    rfl
  refine ⟨_, hexec, ?_⟩
  rw [snapshot_taken hlast hfill hheld hfrozen]
  refine ⟨rfl, ?_, fld_setFld_at _ (snapTarget_lt s), hwrites.regs, hwrites.sameMemory⟩
  exact (flag_setFld_beside _ _).trans (flag_raise_at _)

theorem completes_snapshotTake_missed (hcom : s.comUp = true) (hw : bitAt w.toNat 0 = true)
    (hlast : s.snp.last ≠ some s.tb.now)
    (h : s.flag F.snpStatFilling = true ∨ bitAt (s.fld F.snpHoldHeld) s.snapTarget = true) :
    Completes (.snapshotTake false w) s fun t =>
      t.snp = s.snp ∧ t.regN A.snpMisscnt = (s.regN A.snpMisscnt + 1) % 2 ^ 32 ∧ t.flag F.snpIntstatMissed = true
      ∧ s.sameRegsBut t [A.snpMisscnt, A.snpIntstat] ∧ s.sameMemory t := by
  have hwrites : WritesOnly [A.snpMisscnt, A.snpIntstat] s ((s.count A.snpMisscnt).raise F.snpIntstatMissed) :=
    (WritesOnly.setRegN (WritesOnly.refl _ _)).raise
  have hexec : exec (.snapshotTake false w) s = .next (s.snapshot s.tb.now).2 := by
    change Host.Outcome.next (if (s.comUp && bitAt w.toNat 0) = true then _ else _) = _
    rw [hcom, hw]
    rfl
  refine ⟨_, hexec, ?_⟩
  rw [snapshot_missed hlast h]
  refine ⟨rfl, ?_, flag_raise_at _, hwrites.regs, hwrites.sameMemory⟩
  exact (State.regN_setRegN_ne _ _ (by decide)).trans (regN_count_self ..)

/-- The end of the fill (R548). -/
theorem completes_snapshotFillDone (hfill : s.flag F.snpStatFilling = true) (hreaders : s.snp.readers = []) :
    Completes .snapshotFillDone s fun t =>
      t.flag F.snpStatFilling = false ∧ t.flag F.snpIntstatDone = true ∧ t.snp = s.snp
      ∧ s.sameRegsBut t [A.snpStat, A.snpIntstat] ∧ s.sameMemory t := by
  have hwrites : WritesOnly [A.snpStat, A.snpIntstat] s ((s.lower F.snpStatFilling).raise F.snpIntstatDone) :=
    (WritesOnly.refl _ _).lower.raise
  have hexec : exec .snapshotFillDone s = .next ((s.lower F.snpStatFilling).raise F.snpIntstatDone) := by
    have hsnp : { s.snp with readers := [] } = s.snp := by rw [← hreaders]
    change Host.Outcome.next (if s.flag F.snpStatFilling = true then
      s.snp.readers.foldl _ { (s.lower F.snpStatFilling).raise F.snpIntstatDone with snp := { s.snp with readers := [] } }
      else s) = _
    rw [if_pos hfill, hsnp, hreaders]
    rfl
  refine ⟨_, hexec, ?_, flag_raise_at _, rfl, hwrites.regs, hwrites.sameMemory⟩
  exact (State.flag_setFld_ne _ _ (by decide)).trans (flag_lower_at _)

/-! ## Reading a bank (R553) -/

theorem snp_respond (s : State) (o : Origin) (code : Nat) (st : Status) (rest : List Byte) :
    (s.respond o code st rest).snp = s.snp := by
  obtain ⟨x, y, h⟩ := respond_eq s o code st rest
  rw [h]

/-- What SNAP_READ answers of a bank. -/
def SnpBank.answer (b : SnpBank) (first count : Nat) : List Byte :=
  leBytes 4 b.gen ++ leBytes 8 b.tick ++ leBytes 8 b.ntm ++ b.read first count

/-- A request for a bank that has been filled is answered from it, and holds it where that is asked for. -/
theorem handleSnapRead_of_filled {o : Origin} {p : List Byte} (hlo : 1 ≤ byteAt p 0) (hhi : byteAt p 0 ≤ 2)
    (hflags : byteAt p 1 < 2) (hmin : 1 ≤ leAt p 4 2) (hmax : leAt p 4 2 ≤ 250) (hend : leAt p 2 2 + leAt p 4 2 ≤ 9459)
    (hz : allZero (p.drop 6) = true) (hgen : (s.snpBank (byteAt p 0 - 1)).gen ≠ 0) :
    handleSnapRead o p s = (.now .ok ((s.snpBank (byteAt p 0 - 1)).answer (leAt p 2 2) (leAt p 4 2)),
      if byteAt p 1 = 1 then s.setFld F.snpHoldHeld (putBit (s.fld F.snpHoldHeld) (byteAt p 0 - 1) true) else s) := by
  have hsource : ¬ 3 < byteAt p 0 := by omega
  have hsource' : byteAt p 0 ≠ 3 := by omega
  have hsource'' : byteAt p 0 ≠ 0 := by omega
  have hflags' : ¬ 3 ≤ byteAt p 1 := by omega
  have hmin' : ¬ leAt p 4 2 < 1 := by omega
  unfold handleSnapRead
  simp only [hsource, hsource', hsource'', hflags', hmin', Nat.not_lt.2 hmax, Nat.not_lt.2 hend, hz, hgen, if_false,
    decide_false, Bool.not_true, Bool.or_false, Bool.false_eq_true, State.snapAnswer]
  obtain h | h : byteAt p 1 = 0 ∨ byteAt p 1 = 1 := by omega
  · rw [h]
    rfl
  · rw [h]
    rfl

/-- Settles O46: a snapshot fills the bank that is not the newest or counts a miss, and a filled bank answers. -/
theorem counterSnapshot : Obligations.CounterSnapshot := by
  unfold Obligations.CounterSnapshot
  refine fun s => ⟨fun w hcom hw hlast hfrozen => ⟨fun hfill hheld => ?take,
      fun h => completes_snapshotTake_missed hcom hw hlast h⟩, fun hfill hr => completes_snapshotFillDone hfill hr,
    fun o p ht hlen hlo hhi hflags hmin hmax hend hz hgen => ?read⟩
  case take =>
    refine (completes_snapshotTake hcom hw hlast hfrozen hfill hheld).mono fun t ⟨hsnp, hrest⟩ => ?_
    have hbank (k : Nat) : t.snpBank k = (s.snapped s.tb.now).snpBank k := by unfold State.snpBank; rw [hsnp]
    have htaken : t.snpBank s.snapTarget = s.snapTaken s.tb.now := (hbank _).trans (snpBank_snapped ..)
    have hother : t.snpBank (1 - s.snapTarget) = s.snpBank (1 - s.snapTarget) := (hbank _).trans (snpBank_snapped_other ..)
    exact ⟨congrArg SnpBank.gen htaken, congrArg SnpBank.tick htaken, congrArg SnpBank.ntm htaken,
      congrArg SnpBank.round htaken, (congrArg SnpBank.vals htaken).trans (vals_snapTaken ..), hother, hrest⟩
  case read =>
    obtain ⟨x, y, htaking⟩ := taking_eq s o
    have hbank (k : Nat) : (s.taking o).snpBank k = s.snpBank k := by rw [htaking]; rfl
    have hheld : (s.taking o).fld F.snpHoldHeld = s.fld F.snpHoldHeld := fld_taking_ne s o (by decide)
    rw [← hbank] at hgen
    have hanswer := handleSnapRead_of_filled (o := o) hlo hhi hflags hmin hmax hend hz hgen
    have hlt : byteAt p 0 - 1 < 2 := by omega
    generalize byteAt p 0 - 1 = k at *
    rw [hbank, hheld] at hanswer
    have hmem : s.sameMemory (if byteAt p 1 = 1 then
        (s.taking o).setFld F.snpHoldHeld (putBit (s.fld F.snpHoldHeld) k true) else s.taking o) := by
      split
      · exact fun _ => rfl
      · exact fun _ => rfl
    have hsnp : (if byteAt p 1 = 1 then
        (s.taking o).setFld F.snpHoldHeld (putBit (s.fld F.snpHoldHeld) k true) else s.taking o).snp = s.snp := by
      split
      · rfl
      · rfl
    refine completes_of_answered rfl ht (by simp [hlen]) hanswer ⟨State.responded_respond .., fun h1 => ?_, fun h0 => ?_,
      (snp_respond ..).trans hsnp, sameMemory_respond hmem o _ _ _⟩
    · rw [fld_respond_ne _ _ _ _ _ (by decide), if_pos h1, State.fld_setFld_self _ _ _ (by decide),
        bitAt_mod_two_pow _ (by exact hlt), bitAt_putBit, if_pos rfl]
    · rw [fld_respond_ne _ _ _ _ _ (by decide), if_neg (by omega), hheld]

end Sys2Proof.Machine
end

section
/-!
The interrupt controller (R506-R518): sampling, presentation, end of interrupt, doorbells and the software's bits.
-/

namespace Sys2Proof.Machine

variable {s t u : State} {core id k edge payload : Nat} {level : Bool} {w : Word} {x : IrqSource} {b : IrqBank}

/-! ## Sources and banks -/

@[simp] theorem irq_setIrq_self (s : State) (k : Nat) (x : IrqSource) : (s.setIrq k x).irq k = x :=
  Sparse.get_put_self (fun _ => ({} : IrqSource)) s.icu.src k x

@[simp] theorem bank_setBank_self (s : State) (core : Nat) (b : IrqBank) : (s.setBank core b).bank core = b :=
  Sparse.get_put_self (fun _ => ({} : IrqBank)) s.icu.banks core b

@[simp] theorem bank_setIrq (s : State) (k core : Nat) (x : IrqSource) : (s.setIrq k x).bank core = s.bank core := rfl

@[simp] theorem irq_setBank (s : State) (core k : Nat) (b : IrqBank) : (s.setBank core b).irq k = s.irq k := rfl

theorem irqSense_setIrq (s : State) (k : Nat) (x : IrqSource) (j : Nat) : (s.setIrq k x).irqSense j = s.irqSense j := rfl

theorem irqTarget_setIrq (s : State) (k : Nat) (x : IrqSource) (j : Nat) : (s.setIrq k x).irqTarget j = s.irqTarget j := rfl

theorem setIrq_setIrq (s : State) (k : Nat) (x y : IrqSource) : ((s.setIrq k x).setIrq k y).irq k = y := irq_setIrq_self ..

/-- `t` is `s` but for the interrupt controller's sources and for free values drawn. -/
def State.SameButIrqs (s t : State) : Prop := ∃ src n, t = { s with icu := { s.icu with src := src }, free := n }

namespace State.SameButIrqs

theorem regs (h : s.SameButIrqs t) : s.sameRegsBut t [] := by
  obtain ⟨src, n, rfl⟩ := h
  exact fun _ _ => rfl

theorem memory (h : s.SameButIrqs t) : s.sameMemory t := by
  obtain ⟨src, n, rfl⟩ := h
  exact fun _ => rfl

theorem bank (h : s.SameButIrqs t) (core : Nat) : t.bank core = s.bank core := by
  obtain ⟨src, n, rfl⟩ := h
  rfl

theorem setIrq (h : s.SameButIrqs t) : s.SameButIrqs (t.setIrq k x) := by
  obtain ⟨src, n, rfl⟩ := h
  exact ⟨_, _, rfl⟩

theorem refl (s : State) : s.SameButIrqs s := ⟨_, _, rfl⟩

theorem trans (h : s.SameButIrqs t) (h' : t.SameButIrqs u) : s.SameButIrqs u := by
  obtain ⟨src, n, rfl⟩ := h
  obtain ⟨src', n', rfl⟩ := h'
  exact ⟨src', n', rfl⟩

end State.SameButIrqs

/-! ## Setting a source pending (R510, R517) -/

/-- A source that an edge or a level makes pending. -/
def IrqSource.pending (x : IrqSource) (time edge payload : Nat) (lf : Bool) : IrqSource :=
  { x with pend := true, time := time, edge := edge, merged := false, payload := payload, lfTime := lf }

/-- A source whose level has been sampled. -/
def IrqSource.sampled (x : IrqSource) (level : Bool) : IrqSource := { x with level := level }

/-- A source that is not pending any more. -/
def IrqSource.cleared (x : IrqSource) : IrqSource := { x with pend := false }

/-- A pending source that another edge has reached. -/
def IrqSource.merging (x : IrqSource) : IrqSource := { x with merged := true }

/-- A source that has been handled. -/
def IrqSource.ended (x : IrqSource) : IrqSource := { x with act := false }

/-- A state after free values have been drawn. -/
def State.withFree (s : State) (n : Nat) : State := { s with free := n }

/-- The time of an assertion is TMB's while TMB runs. -/
theorem irqTime_eq (s : State) :
    ∃ v lf n, s.irqTime = (v, lf, s.withFree n) ∧ (s.tb.run ≠ .stopped → v = s.tb.now % 2 ^ 32) := by
  unfold State.irqTime
  split
  next h => exact ⟨_, _, _, rfl, fun hne => absurd (eq_of_beq h) hne⟩
  next => exact ⟨_, _, _, rfl, fun _ => rfl⟩

theorem irqSetPending_fresh (h : (s.irq k).pend = false) :
    ∃ v lf n, s.irqSetPending k edge payload
        = (s.withFree n).setIrq k ((s.irq k).pending v edge payload lf)
      ∧ (s.tb.run ≠ .stopped → v = s.tb.now % 2 ^ 32) := by
  obtain ⟨v, lf, n, htime, hv⟩ := irqTime_eq s
  refine ⟨v, lf, n, ?_, hv⟩
  simp only [State.irqSetPending, h, htime, Bool.false_eq_true, if_false, IrqSource.pending]

theorem irqSetPending_merged (h : (s.irq k).pend = true) :
    s.irqSetPending k edge payload
      = (s.setIrq k (s.irq k).merging).count (A.icuCtr (s.irqTarget k) 1) := by
  simp only [State.irqSetPending, h, if_true, IrqSource.merging]

theorem irqSetPending_shows (h : (s.irq k).pend = false) :
    let t := s.irqSetPending k edge payload
    s.SameButIrqs t ∧ ∃ v lf, t.irq k = (s.irq k).pending v edge payload lf ∧ (s.tb.run ≠ .stopped → v = s.tb.now % 2 ^ 32) := by
  obtain ⟨v, lf, n, ht, hv⟩ := irqSetPending_fresh (edge := edge) (payload := payload) h
  rw [ht]
  exact ⟨⟨_, n, rfl⟩, v, lf, irq_setIrq_self .., hv⟩

/-! ## Sampling (R510) -/

/-- What a sample comes to, by the sense of its source and by its level before. -/
theorem irqSample_eq (s : State) (k : Nat) (level : Bool) (payload : Nat) :
    s.irqSample k level payload =
      let x := (s.irq k).sampled level
      let u := s.setIrq k x
      if s.irqSense k = 0 then
        if x.act then u
        else if level && !x.pend then
          match u.irqTime with
          | (t, lf, u) => u.setIrq k (x.pending t 0 payload lf)
        else if !level then u.setIrq k x.cleared
        else u
      else if level && !(s.irq k).level && s.irqSense k % 2 = 1 then u.irqSetPending k 1 payload
      else if !level && (s.irq k).level && 2 ≤ s.irqSense k then u.irqSetPending k 2 payload
      else u := by
  unfold State.irqSample
  simp only [irq_setIrq_self]
  rfl

/-- A level source that is neither pending nor active and is high becomes pending. -/
theorem irqSample_high (hs : s.irqSense k = 0) (hp : (s.irq k).pend = false) (ha : (s.irq k).act = false) :
    let t := s.irqSample k true payload
    s.SameButIrqs t ∧ ∃ v lf, t.irq k = ((s.irq k).sampled true).pending v 0 payload lf
      ∧ (s.tb.run ≠ .stopped → v = s.tb.now % 2 ^ 32) := by
  obtain ⟨v, lf, n, htime, hv⟩ := irqTime_eq (s.setIrq k ((s.irq k).sampled true))
  have hp' : ((s.irq k).sampled true).pend = false := hp
  have ha' : ((s.irq k).sampled true).act = false := ha
  have ht : s.irqSample k true payload = ((s.setIrq k ((s.irq k).sampled true)).withFree n).setIrq k
      (((s.irq k).sampled true).pending v 0 payload lf) := by
    simp [irqSample_eq, hs, hp', ha', htime]
  rw [ht]
  exact ⟨⟨_, n, rfl⟩, v, lf, irq_setIrq_self .., hv⟩

/-- A level source that is not active and is low is not pending. -/
theorem irqSample_low (hs : s.irqSense k = 0) (ha : (s.irq k).act = false) :
    let t := s.irqSample k false payload
    s.SameButIrqs t ∧ t.irq k = ((s.irq k).sampled false).cleared := by
  have ha' : ((s.irq k).sampled false).act = false := ha
  have ht : s.irqSample k false payload
      = (s.setIrq k ((s.irq k).sampled false)).setIrq k ((s.irq k).sampled false).cleared := by
    simp [irqSample_eq, hs, ha']
  rw [ht]
  exact ⟨⟨_, _, rfl⟩, irq_setIrq_self ..⟩

/-- A level source that is not active stays so, and while it is high it is pending. -/
theorem irqSample_shows (hs : s.irqSense k = 0) (ha : (s.irq k).act = false) :
    let t := s.irqSample k level payload
    s.SameButIrqs t ∧ (t.irq k).act = false ∧ (level = true → (t.irq k).pend = true) := by
  cases level with
  | false =>
    obtain ⟨hsame, hirq⟩ := irqSample_low (payload := payload) hs ha
    dsimp only
    rw [hirq]
    exact ⟨hsame, ha, nofun⟩
  | true =>
    cases hp : (s.irq k).pend with
    | false =>
      obtain ⟨hsame, v, lf, hirq, -⟩ := irqSample_high (payload := payload) hs hp ha
      dsimp only
      rw [hirq]
      exact ⟨hsame, ha, fun _ => rfl⟩
    | true =>
      have hp' : ((s.irq k).sampled true).pend = true := hp
      have ha' : ((s.irq k).sampled true).act = false := ha
      have ht : s.irqSample k true payload = s.setIrq k ((s.irq k).sampled true) := by
        simp [irqSample_eq, hs, hp', ha']
      rw [ht]
      dsimp only
      rw [irq_setIrq_self]
      exact ⟨⟨_, _, rfl⟩, ha, fun _ => hp⟩

theorem irqSample_rise (hs : s.irqSense k = 1 ∨ s.irqSense k = 3) (hl : (s.irq k).level = false) :
    s.irqSample k true payload = (s.setIrq k ((s.irq k).sampled true)).irqSetPending k 1 payload := by
  obtain hs | hs := hs
  · simp [irqSample_eq, hs, hl]
  · simp [irqSample_eq, hs, hl]

theorem irqSample_fall (hs : s.irqSense k = 2 ∨ s.irqSense k = 3) (hl : (s.irq k).level = true) :
    s.irqSample k false payload = (s.setIrq k ((s.irq k).sampled false)).irqSetPending k 2 payload := by
  obtain hs | hs := hs
  · simp [irqSample_eq, hs, hl]
  · simp [irqSample_eq, hs, hl]

/-- A source outside the pads, sampled while PD_COM runs (R510). -/
theorem exec_interruptSource (ha : irqAssigned id = true) (hcore : core < 4) (hcom : s.comUp = true)
    (hid : id < 768 ∨ 863 < id) :
    exec (.interruptSource core id level) s = .next (s.irqSample (irqKey core id) ((s.irqOwnLevel core id).getD level)
      (s.irqPayload id ((s.irqOwnLevel core id).getD level))) := by
  have h4 : core ≠ 4 := by omega
  have hpad : ¬ (768 ≤ id ∧ id ≤ 863) := by omega
  change execInterruptSource core id level s = _
  unfold execInterruptSource
  simp [ha, h4, hcom, hpad, Nat.not_lt.2 (Nat.le_of_lt hcore)]

/-- What sampling a rising or falling edge leaves of a source that was not pending. -/
theorem edge_shows {l : Bool} (hp : (s.irq k).pend = false) :
    let t := (s.setIrq k ((s.irq k).sampled l)).irqSetPending k edge payload
    s.SameButIrqs t ∧ (t.irq k).pend = true ∧ (t.irq k).edge = edge ∧ (t.irq k).merged = false
      ∧ (t.irq k).act = (s.irq k).act := by
  have hirq : (s.setIrq k ((s.irq k).sampled l)).irq k = (s.irq k).sampled l := irq_setIrq_self ..
  obtain ⟨hsame, v, lf, ht, -⟩ := irqSetPending_shows (s := s.setIrq k ((s.irq k).sampled l)) (edge := edge)
    (payload := payload) (by rw [hirq]; exact hp)
  refine ⟨(State.SameButIrqs.refl s).setIrq.trans hsame, ?_⟩
  rw [ht, hirq]
  exact ⟨rfl, rfl, rfl, rfl⟩

/-- An edge of a pending source merges and counts. -/
theorem edge_merges {l : Bool} (hp : (s.irq k).pend = true) :
    let t := (s.setIrq k ((s.irq k).sampled l)).irqSetPending k edge payload
    (t.irq k).pend = true ∧ (t.irq k).merged = true ∧ (t.irq k).time = (s.irq k).time
      ∧ t.regN (A.icuCtr (s.irqTarget k) 1) = (s.regN (A.icuCtr (s.irqTarget k) 1) + 1) % 2 ^ 32
      ∧ s.sameRegsBut t [A.icuCtr (s.irqTarget k) 1] ∧ s.sameMemory t := by
  set x := s.setIrq k ((s.irq k).sampled l) with hx
  have hirq : x.irq k = (s.irq k).sampled l := irq_setIrq_self ..
  have htarget : x.irqTarget k = s.irqTarget k := rfl
  set y := x.setIrq k (x.irq k).merging with hy
  have ht : x.irqSetPending k edge payload = y.count (A.icuCtr (s.irqTarget k) 1) := by
    rw [irqSetPending_merged (by rw [hirq]; exact hp), htarget]
  have hwrites : WritesOnly [A.icuCtr (s.irqTarget k) 1] y (y.count (A.icuCtr (s.irqTarget k) 1)) :=
    (WritesOnly.refl _ _).setRegN (.head _)
  have hself : (y.count (A.icuCtr (s.irqTarget k) 1)).irq k = (x.irq k).merging := irq_setIrq_self x k _
  rw [ht]
  dsimp only
  rw [hself, hirq]
  exact ⟨hp, rfl, rfl, regN_count_self .., hwrites.regs, hwrites.sameMemory⟩

/-! ## Presentation (R511, R514, R517) -/

theorem core_le_of_icuUp (h : s.icuUp core = true) : core ≤ 4 := by
  simp [State.icuUp] at h
  omega

/-- Where the next record of a bank goes. -/
def State.ringAt (s : State) (core : Nat) : Nat := (s.bank core).base + 16 * s.fld (F.icuRingwrIndex core)

/-- WR after the next record. -/
def State.ringNext (s : State) (core : Nat) : Nat :=
  (s.fld (F.icuRingwrIndex core) + 1) % ringEntries (s.bank core).size

/-- The state after a record has been written to a bank's ring. -/
def State.ringWritten (s : State) (core : Nat) (rec : List Byte) : State :=
  ((s.setBytes (s.ringAt core) rec).setFld (F.icuRingwrIndex core) (s.ringNext core)).setRegN (A.icuSeq core)
    ((s.regN (A.icuSeq core) + 1) % 2 ^ 32)

theorem icuSeq_ne_icuRingwr (core : Nat) : A.icuSeq core ≠ A.icuRingwr core := by
  unfold A.icuSeq A.icuRingwr
  omega

theorem ringPut_written {rec : List Byte} (he : addrExists (s.ringAt core) = true)
    (hd : s.domainOn (addrDomain (s.ringAt core)) = true) (hs : s.stackHit (s.ringAt core) 16 = false) :
    s.ringPut core rec = (true, s.ringWritten core rec) := by
  obtain ⟨ram, hram⟩ := setBytes_eq s (s.ringAt core) rec
  have hseq : ((s.setBytes (s.ringAt core) rec).setFld (F.icuRingwrIndex core) (s.ringNext core)).regN (A.icuSeq core)
      = s.regN (A.icuSeq core) :=
    (State.regN_setRegN_ne _ _ (icuSeq_ne_icuRingwr core)).trans (by rw [hram]; rfl)
  unfold State.ringWritten
  rw [← hseq]
  unfold State.ringNext State.ringAt at *
  unfold State.ringPut
  simp only [he, hd, hs, hram, Bool.not_false, Bool.and_true, if_true]
  rfl

theorem icuRingwr_fits (core : Nat) : (F.icuRingwrIndex core).lsb + (F.icuRingwrIndex core).width ≤ 32 := by
  change 0 + 12 ≤ 32
  decide

/-- What a written record shows. -/
theorem ringWritten_shows (s : State) (core : Nat) (rec : List Byte) :
    let t := s.ringWritten core rec
    t.icu = s.icu ∧ t.fld (F.icuRingwrIndex core) = s.ringNext core % 2 ^ 12
      ∧ t.regN (A.icuSeq core) = (s.regN (A.icuSeq core) + 1) % 2 ^ 32 ∧ (s.setBytes (s.ringAt core) rec).sameMemory t := by
  obtain ⟨ram, hram⟩ := setBytes_eq s (s.ringAt core) rec
  refine ⟨?_, ?_, ?_, fun _ => rfl⟩
  · unfold State.ringWritten
    rw [hram]
    rfl
  · exact (State.fld_setRegN_ne _ _ (icuSeq_ne_icuRingwr core).symm).trans
      (State.fld_setFld_self _ _ _ (icuRingwr_fits core))
  · exact (State.regN_setRegN_self ..).trans (Nat.mod_mod ..)

theorem irq_count (s : State) (a k : Nat) : (s.count a).irq k = s.irq k := rfl

theorem bank_count (s : State) (a core : Nat) : (s.count a).bank core = s.bank core := rfl

theorem byte_setIrq (s : State) (k b : Nat) (x : IrqSource) : (s.setIrq k x).byte b = s.byte b := rfl

theorem byte_setBank (s : State) (core a : Nat) (b : IrqBank) : (s.setBank core b).byte a = s.byte a := rfl

theorem fld_setBank_setIrq (s : State) (core k : Nat) (x : IrqSource) (b : IrqBank) (f : Fld) :
    ((s.setIrq k x).setBank core b).fld f = s.fld f := rfl

theorem regN_setBank_setIrq (s : State) (core k : Nat) (x : IrqSource) (b : IrqBank) (a : Nat) :
    ((s.setIrq k x).setBank core b).regN a = s.regN a := rfl

theorem icuRingwr_ne_icuCtr (core i : Nat) : A.icuRingwr core ≠ A.icuCtr core i := by
  unfold A.icuRingwr A.icuCtr
  omega

theorem icuSeq_ne_icuCtr (core i : Nat) : A.icuSeq core ≠ A.icuCtr core i := by
  unfold A.icuSeq A.icuCtr
  omega

/-- The state after the winner of a bank has been presented. -/
def State.presented (s : State) (core k : Nat) (rec : List Byte) : State :=
  (((s.ringWritten core rec).setIrq k { s.irq k with pend := false, act := true }).setBank core
    { s.bank core with stack := (s.irqPrio k, k) :: (s.bank core).stack }).count (A.icuCtr core 0)

/-- The record that presents a source. -/
def State.presentation (s : State) (core k : Nat) : List Byte :=
  irqRecord (irqId k) (s.irqPrio k) (s.regN (A.icuSeq core)) (s.irq k)
    (irqAon (irqId k) && !s.comUp && decide (64 ≤ k) && decide (k < 1024))

theorem length_irqRecord (id prio seq : Nat) (x : IrqSource) (aon : Bool) : (irqRecord id prio seq x aon).length = 16 := by
  simp [irqRecord]

theorem irqPresent_presented (hwin : s.irqWinner core = some k) (hfull : s.ringFull core = false)
    (he : addrExists (s.ringAt core) = true) (hd : s.domainOn (addrDomain (s.ringAt core)) = true)
    (hs : s.stackHit (s.ringAt core) 16 = false) :
    s.irqPresent core = s.presented core k (s.presentation core k) := by
  have hput := ringPut_written (rec := s.presentation core k) he hd hs
  obtain ⟨hicu, -⟩ := ringWritten_shows s core (s.presentation core k)
  have hbank : (s.ringWritten core (s.presentation core k)).bank core = s.bank core := by
    unfold State.bank
    rw [hicu]
  unfold State.presented State.irqPresent
  rw [← hbank]
  unfold State.presentation at *
  simp only [hwin, hfull, Bool.false_eq_true, if_false, hput, bank_setIrq]

theorem exec_presentation (hup : s.icuUp core = true) : exec (.presentation core) s = .next (s.irqPresent core) :=
  congrArg Host.Outcome.next (if_pos hup)

theorem completes_presentation (hup : s.icuUp core = true) (hwin : s.irqWinner core = some k)
    (hfull : s.ringFull core = false) (he : addrExists (s.ringAt core) = true)
    (hd : s.domainOn (addrDomain (s.ringAt core)) = true) (hs : s.stackHit (s.ringAt core) 16 = false) :
    Completes (.presentation core) s fun t =>
      (t.irq k).act = true ∧ (t.irq k).pend = false
      ∧ (t.bank core).stack = (s.irqPrio k, k) :: (s.bank core).stack
      ∧ t.fld (F.icuRingwrIndex core) = s.ringNext core % 2 ^ 12
      ∧ t.regN (A.icuSeq core) = (s.regN (A.icuSeq core) + 1) % 2 ^ 32
      ∧ ((∀ j, j < 16 → region (s.ringAt core + j) = .mainSram ∨ region (s.ringAt core + j) = .retained) →
          t.bytes (s.ringAt core) 16 = s.presentation core k)
      ∧ ∀ b, b < s.ringAt core ∨ s.ringAt core + 16 ≤ b → t.byte b = s.byte b := by
  refine ⟨_, (exec_presentation hup).trans (congrArg _ (irqPresent_presented hwin hfull he hd hs)), ?_⟩
  have hlen : (s.presentation core k).length = 16 := length_irqRecord ..
  generalize s.presentation core k = rec at *
  generalize hx : s.ringWritten core rec = x
  obtain ⟨-, hwr, hseq, hmem⟩ := ringWritten_shows s core rec
  rw [hx] at hwr hseq hmem
  generalize ht : s.presented core k rec = t
  have hp : t = ((x.setIrq k { s.irq k with pend := false, act := true }).setBank core
      { s.bank core with stack := (s.irqPrio k, k) :: (s.bank core).stack }).count (A.icuCtr core 0) := by
    rw [← ht, State.presented, hx]
  have hirq : t.irq k = { s.irq k with pend := false, act := true } := by
    rw [hp, irq_count, irq_setBank, irq_setIrq_self]
  have hbank : t.bank core = { s.bank core with stack := (s.irqPrio k, k) :: (s.bank core).stack } := by
    rw [hp, bank_count, bank_setBank_self]
  have hsame : (s.setBytes (s.ringAt core) rec).sameMemory t := by
    intro b
    rw [hp, byte_count, byte_setBank, byte_setIrq, hmem]
  have hwr' : t.fld (F.icuRingwrIndex core) = x.fld (F.icuRingwrIndex core) := by
    rw [hp, fld_count_ne _ (icuRingwr_ne_icuCtr core 0), fld_setBank_setIrq]
  have hseq' : t.regN (A.icuSeq core) = x.regN (A.icuSeq core) := by
    rw [hp, regN_count_ne _ (icuSeq_ne_icuCtr core 0), regN_setBank_setIrq]
  refine ⟨by rw [hirq], by rw [hirq], by rw [hbank], hwr'.trans hwr, hseq'.trans hseq, fun hin => ?_, fun b hb => ?_⟩
  · have hself := bytes_setBytes_self s (a := s.ringAt core) (bs := rec) fun b hl hu => by
      rw [hlen] at hu
      obtain ⟨j, rfl⟩ := Nat.exists_eq_add_of_le hl
      exact ramAt_of_sram (hin j (by omega))
    rw [hlen] at hself
    exact (bytes_congr fun b _ _ => hsame b).trans hself
  · rw [hsame b, State.byte_setBytes_outside _ _ (by rwa [hlen])]

theorem completes_presentation_full (hup : s.icuUp core = true) (hwin : s.irqWinner core = some k)
    (hfull : s.ringFull core = true) :
    Completes (.presentation core) s fun t =>
      t.flag (F.icuIntstatRingfull core) = true ∧ t.icu = s.icu
      ∧ t.regN (A.icuCtr core 2) = (s.regN (A.icuCtr core 2) + 1) % 2 ^ 32
      ∧ s.sameRegsBut t [A.icuIntstat core, A.icuCtr core 2] ∧ s.sameMemory t := by
  have hpresent : s.irqPresent core = (s.raise (F.icuIntstatRingfull core)).count (A.icuCtr core 2) := by
    unfold State.irqPresent
    rw [hwin]
    exact if_pos hfull
  have hne : A.icuIntstat core ≠ A.icuCtr core 2 := by
    unfold A.icuIntstat A.icuCtr
    omega
  have hwrites : WritesOnly [A.icuIntstat core, A.icuCtr core 2] s
      ((s.raise (F.icuIntstatRingfull core)).count (A.icuCtr core 2)) :=
    writesOnly_count ((WritesOnly.refl _ s).raise (f := F.icuIntstatRingfull core) (.head _)) (.tail _ (.head _))
  refine ⟨_, (exec_presentation hup).trans (congrArg _ hpresent), ?_, rfl, ?_, hwrites.regs, hwrites.sameMemory⟩
  · rw [flag_count_ne _ hne]
    exact flag_raise_at s (a := A.icuIntstat core) (i := 2)
  · rw [regN_count_self, regN_raise_ne s (f := F.icuIntstatRingfull core) hne.symm]

/-! ## End of interrupt (R513) -/

theorem exec_eoi (hup : s.icuUp core = true) (w : Word) :
    exec (.eoi false core w) s = .next (s.irqEoi core (bitsOf w.toNat 0 11)) :=
  congrArg Host.Outcome.next (if_pos hup)

section
variable {p : Nat} {rest : List (Nat × Nat)} (hup : s.icuUp core = true) (hstack : (s.bank core).stack = (p, k) :: rest)
include hup hstack

theorem completes_eoi (hid : irqId k = bitsOf w.toNat 0 11) :
    Completes (.eoi false core w) s fun t =>
      (t.irq k).act = false ∧ (t.bank core).stack = rest
      ∧ (s.irqSense k = 0 → (s.irqOwnLevel core (irqId k)).getD (s.irq k).level = true → (t.irq k).pend = true)
      ∧ (s.irqSense k ≠ 0 → (t.irq k).pend = (s.irq k).pend) ∧ s.sameRegsBut t [] ∧ s.sameMemory t := by
  set u := (s.setIrq k (s.irq k).ended).setBank core { s.bank core with stack := rest } with hu
  have hirq : u.irq k = (s.irq k).ended := irq_setIrq_self ..
  have hact : (u.irq k).act = false := by rw [hirq]; rfl
  have hbank : (u.bank core).stack = rest := by rw [hu, bank_setBank_self]
  have heoi : s.irqEoi core (bitsOf w.toNat 0 11)
      = if s.irqSense k = 0 then
          u.irqSample k ((s.irqOwnLevel core (irqId k)).getD (s.irq k).level)
            (s.irqPayload (irqId k) ((s.irqOwnLevel core (irqId k)).getD (s.irq k).level))
        else u := by
    unfold State.irqEoi
    simp only [hstack, hid, if_true]
    rfl
  have hexec := (exec_eoi hup w).trans (congrArg Host.Outcome.next heoi)
  by_cases hs : s.irqSense k = 0
  · rw [if_pos hs] at hexec
    generalize (s.irqOwnLevel core (irqId k)).getD (s.irq k).level = level at *
    obtain ⟨hsame, hact', hpend⟩ := irqSample_shows (payload := s.irqPayload (irqId k) level) (level := level) (s := u) hs hact
    exact ⟨_, hexec, hact', (congrArg IrqBank.stack (hsame.bank core)).trans hbank, fun _ hl => hpend hl,
      fun hne => absurd hs hne, hsame.regs, hsame.memory⟩
  · rw [if_neg hs] at hexec
    exact ⟨_, hexec, hact, hbank, fun h0 => absurd h0 hs, fun _ => by rw [hirq]; rfl, fun _ _ => rfl, fun _ => rfl⟩

theorem completes_eoi_wrong (hid : irqId k ≠ bitsOf w.toNat 0 11) :
    Completes (.eoi false core w) s fun t =>
      t.flag (F.icuIntstatEoierr core) = true ∧ t.irq k = s.irq k ∧ (t.bank core).stack = (s.bank core).stack
      ∧ s.sameRegsBut t [A.icuIntstat core] ∧ s.sameMemory t := by
  have heoi : s.irqEoi core (bitsOf w.toNat 0 11)
      = (s.raise (F.icuIntstatEoierr core)).setBank core { s.bank core with stack := (p, k) :: rest } := by
    unfold State.irqEoi
    simp [hstack, hid]
  have hwrites : WritesOnly [A.icuIntstat core] s (s.raise (F.icuIntstatEoierr core)) :=
    (WritesOnly.refl _ s).raise (f := F.icuIntstatEoierr core) (.head _)
  refine ⟨_, (exec_eoi hup w).trans (congrArg _ heoi), flag_raise_at s (a := A.icuIntstat core) (i := 0), rfl, ?_,
    hwrites.regs, hwrites.sameMemory⟩
  rw [bank_setBank_self, hstack]

end

/-! ## Doorbells and the software's bits (R507, R510) -/

theorem completes_pended {c : Instr} (hp : (s.irq k).pend = false)
    (hexec : exec c s = .next (s.irqSetPending k edge payload)) :
    Completes c s fun t =>
      (t.irq k).pend = true ∧ (t.irq k).edge = edge ∧ (t.irq k).payload = payload ∧ s.sameRegsBut t [] ∧ s.sameMemory t := by
  obtain ⟨hsame, v, lf, hirq, -⟩ := irqSetPending_shows (edge := edge) (payload := payload) hp
  exact ⟨_, hexec, by rw [hirq]; rfl, by rw [hirq]; rfl, by rw [hirq]; rfl, hsame.regs, hsame.memory⟩

theorem exec_doorbell {writer : Nat} (hcore : core < 4) (hcom : s.comUp = true) :
    exec (.doorbell false core writer w) s
      = .next (s.irqSetPending (irqKey core (bitsOf w.toNat 0 5)) 1 (if writer < 5 then writer else 7)) := by
  have hcond : (decide (core < 4) && s.comUp) = true := by simp [hcore, hcom]
  exact congrArg Host.Outcome.next (if_pos hcond)

section
variable (hcom : s.comUp = true) (hlo : 64 ≤ bitsOf w.toNat 0 10) (hhi : bitsOf w.toNat 0 10 < 960)
include hcom hlo hhi

theorem exec_swset (ha : irqAssigned (bitsOf w.toNat 0 10) = true) :
    exec (.swset false w) s = .next (s.irqSetPending (bitsOf w.toNat 0 10) 1
      (s.irqPayload (bitsOf w.toNat 0 10) (s.irq (bitsOf w.toNat 0 10)).level)) := by
  have hcond : (s.comUp && decide (64 ≤ bitsOf w.toNat 0 10) && decide (bitsOf w.toNat 0 10 < 960)
      && irqAssigned (bitsOf w.toNat 0 10)) = true := by
    rw [hcom, decide_eq_true hlo, decide_eq_true hhi, ha]
    rfl
  exact congrArg Host.Outcome.next (if_pos hcond)

theorem completes_swset (ha : irqAssigned (bitsOf w.toNat 0 10) = true) (hp : (s.irq (bitsOf w.toNat 0 10)).pend = false) :
    Completes (.swset false w) s fun t =>
      (t.irq (bitsOf w.toNat 0 10)).pend = true ∧ (t.irq (bitsOf w.toNat 0 10)).edge = 1 ∧ s.sameRegsBut t []
      ∧ s.sameMemory t :=
  (completes_pended hp (exec_swset hcom hlo hhi ha)).mono
    fun _ ⟨hpend, hedge, _, hregs, hmem⟩ => ⟨hpend, hedge, hregs, hmem⟩

theorem completes_swclr :
    Completes (.swclr false w) s fun t =>
      (t.irq (bitsOf w.toNat 0 10)).pend = false ∧ (t.irq (bitsOf w.toNat 0 10)).act = (s.irq (bitsOf w.toNat 0 10)).act
      ∧ (t.irq (bitsOf w.toNat 0 10)).level = (s.irq (bitsOf w.toNat 0 10)).level ∧ s.sameRegsBut t [] ∧ s.sameMemory t := by
  have hcond : (s.comUp && decide (64 ≤ bitsOf w.toNat 0 10) && decide (bitsOf w.toNat 0 10 < 960)) = true := by
    rw [hcom, decide_eq_true hlo, decide_eq_true hhi]
    rfl
  have hself := irq_setIrq_self s (bitsOf w.toNat 0 10)
    { s.irq (bitsOf w.toNat 0 10) with pend := false, merged := false }
  have hact := congrArg IrqSource.act hself
  have hlevel := congrArg IrqSource.level hself
  exact ⟨_, congrArg Host.Outcome.next (if_pos hcond), congrArg IrqSource.pend hself, hact, hlevel, fun _ _ => rfl,
    fun _ => rfl⟩

end

/-! ## Rings (R512, R515) -/

/-- A field that a write takes as it is. -/
def Fld.plain (f : Fld) : Bool :=
  (regAt f.addr).any fun r => r.1.fields.any fun g =>
    g.lsb == f.lsb && g.width == f.width && g.acc == .rw && g.legal.isEmpty

theorem fld_writeReg_plain {f : Fld} (h : f.plain = true) (s : State) (w : Word) :
    (s.writeReg f.addr w).fld f = bitsOf w.toNat f.lsb f.width := by
  unfold Fld.plain at h
  cases hr : regAt f.addr with
  | none => simp [hr] at h
  | some p =>
    obtain ⟨r, i⟩ := p
    simp only [hr, Option.any_some, List.any_eq_true, Bool.and_eq_true, beq_iff_eq] at h
    obtain ⟨g, hg, ⟨⟨hlsb, hwidth⟩, hacc⟩, hlegal⟩ := h
    have hval := bitsOf_writeFields (tiled_of_regAt hr) (s.lockedReg f.addr r) (s.regN f.addr) w.toNat hg
    have hlt := writeFields_lt (tiled_of_regAt hr) (s.lockedReg f.addr r) (s.regN_lt f.addr) w.toNat
    rw [writeReg_of_regAt hr, State.fld, State.regN_setRegN_self, Nat.mod_eq_of_lt hlt, ← hlsb, ← hwidth, hval]
    simp [FieldSpec.written, hacc, FieldSpec.legalValue, hlegal]

theorem icuRingrd_plain (h : core ≤ 4) : (F.icuRingrdIndex core).plain = true := by
  interval_cases core <;> decide +kernel

theorem exec_icuRingRead (hup : s.icuUp core = true) (w : Word) :
    exec (.icuRingRead false core w) s = .next (s.writeReg (A.icuRingrd core) w) :=
  congrArg Host.Outcome.next (if_pos hup)

theorem completes_icuRingRead (hup : s.icuUp core = true) (w : Word) :
    Completes (.icuRingRead false core w) s fun t =>
      t.fld (F.icuRingrdIndex core) = bitsOf w.toNat 0 12 ∧ t.icu = s.icu
      ∧ s.sameRegsBut t [A.icuRingrd core] ∧ s.sameMemory t := by
  have hwrites : WritesOnly [A.icuRingrd core] s (s.writeReg (A.icuRingrd core) w) := (WritesOnly.refl _ s).writeReg (.head _)
  exact ⟨_, exec_icuRingRead hup w, fld_writeReg_plain (icuRingrd_plain (core_le_of_icuUp hup)) s w, by rw [hwrites.rest],
    hwrites.regs, hwrites.sameMemory⟩

/-- The bank that staged settings make. -/
def State.configured (s : State) (core : Nat) : IrqBank :=
  { s.bank core with
    base := 64 * s.fld (F.icuRingbaseBase core), enabled := s.flag (F.icuRingcfgEn core),
    size := s.fld (F.icuRingcfgSize core), staged := false }

theorem completes_icuRingConfig (hup : s.icuUp core = true) (hst : (s.bank core).staged = true) :
    Completes (.icuRingConfig core) s fun t =>
      t.bank core = s.configured core ∧ t.fld (F.icuRingwrIndex core) = 0 ∧ t.fld (F.icuRingrdIndex core) = 0
      ∧ s.sameRegsBut t [A.icuRingwr core, A.icuRingrd core] ∧ s.sameMemory t := by
  set u := s.setBank core (s.configured core) with hu
  have hexec : exec (.icuRingConfig core) s
      = .next ((u.setFld (F.icuRingwrIndex core) 0).setFld (F.icuRingrdIndex core) 0) := by
    have hcond : (s.icuUp core && (s.bank core).staged) = true := by rw [hup, hst]; rfl
    exact congrArg Host.Outcome.next (if_pos hcond)
  have hne : A.icuRingwr core ≠ A.icuRingrd core := by
    unfold A.icuRingwr A.icuRingrd
    omega
  have hwrites : WritesOnly [A.icuRingwr core, A.icuRingrd core] u
      ((u.setFld (F.icuRingwrIndex core) 0).setFld (F.icuRingrdIndex core) 0) :=
    ((WritesOnly.refl _ u).setFld (f := F.icuRingwrIndex core) (.head _)).setFld (f := F.icuRingrdIndex core)
      (.tail _ (.head _))
  refine ⟨_, hexec, ?_, ?_, ?_, hwrites.regs, hwrites.sameMemory⟩
  · exact bank_setBank_self s core (s.configured core)
  · exact (State.fld_setFld_ne (g := F.icuRingwrIndex core) (f := F.icuRingrdIndex core) _ 0 hne).trans
      (State.fld_setFld_self _ _ 0 (icuRingwr_fits core))
  · exact State.fld_setFld_self _ ⟨A.icuRingrd core, 0, 12⟩ 0 (by change 0 + 12 ≤ 32; decide)

/-- Settles O43: sampling, presentation and the end of an interrupt change the source, the bank and the ring as they say. -/
theorem interrupts : Obligations.Interrupts := by
  unfold Obligations.Interrupts
  refine fun s => ⟨fun core id level ha hcore hcom hid => ?sources, fun core k hup hwin => ⟨fun hfull he hd hs =>
      completes_presentation hup hwin hfull he hd hs, fun hfull => completes_presentation_full hup hwin hfull⟩,
    fun core w p k rest hup hstack => ⟨fun hid => completes_eoi hup hstack hid, fun hid => completes_eoi_wrong hup hstack hid⟩,
    fun core writer w hcore hcom hp => completes_pended hp (exec_doorbell hcore hcom),
    fun w hcom hlo hhi => ⟨fun ha hp => completes_swset hcom hlo hhi ha hp, completes_swclr hcom hlo hhi⟩,
    fun core hup => ⟨fun w => completes_icuRingRead hup w, fun hst => ?config⟩⟩
  case sources =>
    have hexec := exec_interruptSource (level := level) ha hcore hcom hid
    generalize (s.irqOwnLevel core id).getD level = now at *
    generalize irqKey core id = k at *
    refine ⟨fun hs hnow hp hact => ?_, fun hs hnow hact => ?_, fun hs hnow hl => ⟨fun hp => ?_, fun hp => ?_⟩,
      fun hs hnow hl hp => ?_⟩
    · subst hnow
      obtain ⟨hsame, v, lf, hirq, hv⟩ := irqSample_high (payload := s.irqPayload id true) hs hp hact
      exact ⟨_, hexec, by rw [hirq]; rfl, by rw [hirq]; rfl, by rw [hirq]; rfl, by rw [hirq]; rfl, by rw [hirq]; exact hv,
        hsame.regs, hsame.memory⟩
    · subst hnow
      obtain ⟨hsame, hirq⟩ := irqSample_low (payload := s.irqPayload id false) hs hact
      exact ⟨_, hexec, by rw [hirq]; rfl, by rw [hirq]; rfl, hsame.regs, hsame.memory⟩
    · subst hnow
      rw [irqSample_rise hs hl] at hexec
      obtain ⟨hsame, hpend, hedge, hmerged, hact⟩ := edge_shows (edge := 1) (payload := s.irqPayload id true) (l := true) hp
      exact ⟨_, hexec, hpend, hedge, hmerged, hact, hsame.regs, hsame.memory⟩
    · subst hnow
      rw [irqSample_rise hs hl] at hexec
      exact ⟨_, hexec, edge_merges hp⟩
    · subst hnow
      rw [irqSample_fall hs hl] at hexec
      obtain ⟨hsame, hpend, hedge, -, -⟩ := edge_shows (edge := 2) (payload := s.irqPayload id false) (l := false) hp
      exact ⟨_, hexec, hpend, hedge, hsame.regs, hsame.memory⟩
  case config =>
    refine (completes_icuRingConfig hup hst).mono fun t ⟨hbank, hwr, hrd, hregs, hmem⟩ => ?_
    rw [hbank]
    exact ⟨rfl, rfl, rfl, rfl, hwr, hrd, hregs, hmem⟩

end Sys2Proof.Machine
end

section
/-!
A run of the event fabric (R520-R530): what an edge leaves alone on its way through channels, cells and interrupt sources
to the consumer inputs, and that a request it sets stands.
-/

namespace Sys2Proof.Machine

/-- A register that a run of the event fabric may write: the interrupt controller's and the fabric's own, but for the
counters of lost firings and of ties. -/
abbrev fabricReg (a : Nat) : Prop :=
  (0x40600000 ≤ a ∧ a < 0x40608000) ∨ (0x40610000 ≤ a ∧ a < 0x40620000 ∧ a ≠ A.evfFirelost ∧ a ≠ A.evfGrptie)

/-- `s` differs from `r` in the fabric, the interrupt controller and the edges held for a swap only. -/
structure FabricFrame (r s : State) : Prop where
  reg : ∀ a, ¬ (0x40600000 ≤ a ∧ a < 0x40620000) → s.reg a = r.reg a
  rest : s = { r with
    regs := s.regs, free := s.free, icu := s.icu, evf := s.evf,
    brd := { r.brd with heldEdges := s.brd.heldEdges, droppedEdges := s.brd.droppedEdges } }

namespace FabricFrame

variable {r s : State}

theorem regN (h : FabricFrame r s) {a : Nat} (ha : ¬ (0x40600000 ≤ a ∧ a < 0x40620000)) : s.regN a = r.regN a := by
  rw [State.regN, h.reg a ha, State.regN]

theorem fld (h : FabricFrame r s) {f : Fld} (hf : ¬ (0x40600000 ≤ f.addr ∧ f.addr < 0x40620000)) : s.fld f = r.fld f := by
  rw [State.fld, h.regN hf, State.fld]

theorem flag (h : FabricFrame r s) {f : Fld} (hf : ¬ (0x40600000 ≤ f.addr ∧ f.addr < 0x40620000)) : s.flag f = r.flag f := by
  rw [State.flag, h.fld hf, State.flag]

theorem tb (h : FabricFrame r s) : s.tb = r.tb := by rw [h.rest]

theorem pw (h : FabricFrame r s) : s.pw = r.pw := by rw [h.rest]

theorem cfg (h : FabricFrame r s) (k t m j : Nat) : s.cfg k t m j = r.cfg k t m j := by
  rw [h.rest]
  rfl

theorem evStamp (h : FabricFrame r s) : s.evStamp = r.evStamp := by
  unfold State.evStamp
  rw [h.tb]

theorem prodGated (h : FabricFrame r s) (code : Nat) : s.prodGated code = r.prodGated code := by
  unfold State.prodGated State.padHeld
  rw [h.pw]

theorem comUp (h : FabricFrame r s) : s.comUp = r.comUp := by
  have hdom : s.regN A.pmuDomstat = r.regN A.pmuDomstat := h.regN (by decide)
  unfold State.comUp State.domainOn State.retention State.flag State.fld State.bit
  rw [hdom]
  exact congrArg _ (congrArg (fun n => !(bitsOf n _ _ != 0)) hdom)

theorem evInputCfg (h : FabricFrame r s) (j : Nat) : s.evInputCfg j = r.evInputCfg j := by
  have hpm : s.flag (F.tmbPmctlEn ((j - 32) / 2)) = r.flag (F.tmbPmctlEn ((j - 32) / 2)) :=
    h.flag (by change ¬ (0x40600000 ≤ A.tmbPmctl _ ∧ A.tmbPmctl _ < 0x40620000); unfold A.tmbPmctl; omega)
  have hsnp : s.fld F.snpCtlChref = r.fld F.snpCtlChref := h.fld (by decide)
  unfold State.evInputCfg
  rw [h.cfg, h.cfg, hpm, hsnp]

theorem inputHeld (h : FabricFrame r s) (j ref : Nat) : s.inputHeld j ref = r.inputHeld j ref := by
  have hwindow : s.swapWindow = r.swapWindow := by
    unfold State.swapWindow
    rw [h.fld (by decide)]
  have hswap (k : Nat) : s.swapReplaces k = r.swapReplaces k := by
    rw [h.rest]
    rfl
  unfold State.inputHeld
  rw [hwindow, hswap, hswap, hswap]

end FabricFrame

/-- `s` comes from `r` by a run of the fabric. Groups and outside levels stay, and a request that is set stands. The
channels that `P` names, main ones by number and always-on ones from 256 on, and the inputs that follow them stay as they
are. -/
structure RunsFabric (P : Nat → Prop) (r s : State) : Prop where
  reg : ∀ a, ¬ fabricReg a → s.reg a = r.reg a
  flags : ∀ i, i ≠ 0 → s.bit A.evfFlags i = r.bit A.evfFlags i
  rest : s = { r with
    regs := s.regs, free := s.free, icu := s.icu, evf := s.evf,
    brd := { r.brd with heldEdges := s.brd.heldEdges, droppedEdges := s.brd.droppedEdges } }
  groups : s.evf.groups = r.evf.groups
  high : s.evf.high = r.evf.high
  req : ∀ i x, (r.evInput i).req = some x → (s.evInput i).req = some x
  main : ∀ m, P m → bitAt s.evf.main m = bitAt r.evf.main m
  out : ∀ m, P m → bitAt s.evf.out m = bitAt r.evf.out m
  aon : ∀ a, P (256 + a) → bitAt s.evf.aon a = bitAt r.evf.aon a
  inputs : ∀ i, P (r.evInputCfg i).2.2 → s.evInput i = r.evInput i

theorem irqTarget_lt (s : State) {k : Nat} (h : k < 1024) : s.irqTarget k < 8 := by
  unfold State.irqTarget
  rw [if_neg (by omega)]
  split
  · decide
  · exact bitsOf_lt ..

theorem icuCtr_between {core : Nat} (h : core < 8) : 0x40600000 ≤ A.icuCtr core 1 ∧ A.icuCtr core 1 < 0x40608000 := by
  have hbank : 0x40600000 ≤ icuBank core ∧ icuBank core < 0x40607001 := by
    unfold icuBank
    split
    · decide
    · omega
  unfold A.icuCtr
  omega

theorem bit_raise_ne (s : State) {j : Nat} (h : j ≠ 0) : (s.raise F.evfFlagsDrop).bit A.evfFlags j = s.bit A.evfFlags j := by
  have hreg := State.regN_setFld s F.evfFlagsDrop 1 (by decide)
  exact (congrArg (bitAt · j) hreg).trans ((bitAt_setBitsOf_one ..).trans (if_neg h))

/-- A main channel's level changes after its gate: its counter and the inputs that follow it (R528, R530). -/
def State.outEdge (s : State) (w : EvWave) (m : Nat) (lv : Bool) : State :=
  let s := s.setEvf { s.evf with out := putBit s.evf.out m lv }
  if w.quiet then s else (if lv then s.count (A.evfCtr m) else s).evConsumers m lv w.stamp

/-- The change goes on to the interrupt sources, the groups and the cells that follow the channel (R523, R526, R528). -/
def State.outSpread (s : State) (w : EvWave) (m : Nat) (lv : Bool) : State × EvWork :=
  let s := if w.quiet then s else (List.range 64).foldl
    (fun s t =>
      let n := s.cfg 7 9 0 (0x160 + t)
      if bitAt n 31 && bitsOf n 0 8 == m then s.irqSample (704 + t) lv 0 else s) s
  let s := if lv then
      (List.range 16).foldl
        (fun s g =>
          let n := s.grpCfg g
          let s := if bitAt n 25 && bitsOf n 8 8 == m then
            s.setEvf { s.evf with opening := putBit s.evf.opening g true } else s
          if bitAt n 24 && bitsOf n 0 8 == m then
            s.setEvf { s.evf with closing := putBit s.evf.closing g true } else s) s
    else s
  let (s, k) := (List.range 32).foldl
    (fun (s, k) c =>
      if [0, 1, 2, 3].any (fun i => s.cellIn c i == m) then
        let (s, more) := s.cellSees w c m lv
        (s, k ++ more)
      else (s, k)) (s, [])
  (s, k ++ [(0x200 + m, lv)])

theorem outSet_eq (s : State) (w : EvWave) (m : Nat) (lv : Bool) :
    s.outSet w m lv = if bitAt s.evf.out m == lv then (s, []) else (s.outEdge w m lv).outSpread w m lv := by
  unfold State.outSet State.outEdge State.outSpread
  generalize @List.foldl (State × EvWork) Nat = F
  generalize @List.foldl State Nat = G
  rfl

namespace RunsFabric

variable {P : Nat → Prop} {r s t : State} {α β : Type} {c : Prop} {i : Decidable c}

theorem refl (P : Nat → Prop) (s : State) : RunsFabric P s s where
  reg _ _ := rfl
  flags _ _ := rfl
  rest := rfl
  groups := rfl
  high := rfl
  req _ _ h := h
  main _ _ := rfl
  out _ _ := rfl
  aon _ _ := rfl
  inputs _ _ := rfl

/-- A run that spares some channels spares fewer. -/
theorem mono {Q : Nat → Prop} (h : RunsFabric P r s) (hQ : ∀ m, Q m → P m) : RunsFabric Q r s where
  reg := h.reg
  flags := h.flags
  rest := h.rest
  groups := h.groups
  high := h.high
  req := h.req
  main m hm := h.main m (hQ m hm)
  out m hm := h.out m (hQ m hm)
  aon a ha := h.aon a (hQ _ ha)
  inputs j hj := h.inputs j (hQ _ hj)

/-! ### What is kept -/

theorem regN (h : RunsFabric P r s) {a : Nat} (ha : ¬ fabricReg a) : s.regN a = r.regN a := by
  rw [State.regN, h.reg a ha, State.regN]

theorem fld (h : RunsFabric P r s) {f : Fld} (hf : ¬ fabricReg f.addr) : s.fld f = r.fld f := by
  rw [State.fld, h.regN hf, State.fld]

theorem flag (h : RunsFabric P r s) {f : Fld} (hf : ¬ fabricReg f.addr) : s.flag f = r.flag f := by
  rw [State.flag, h.fld hf, State.flag]

theorem frame (h : RunsFabric P r s) : FabricFrame r s where
  reg a ha := h.reg a (by unfold fabricReg; omega)
  rest := h.rest

theorem cfg (h : RunsFabric P r s) (k t m j : Nat) : s.cfg k t m j = r.cfg k t m j := h.frame.cfg ..

theorem evInputCfg (h : RunsFabric P r s) (j : Nat) : s.evInputCfg j = r.evInputCfg j := h.frame.evInputCfg j

theorem sameMemory (h : RunsFabric P r s) : r.sameMemory s := by
  intro a
  rw [h.rest]
  rfl

theorem chPass (h : RunsFabric P r s) (m : Nat) : s.chPass m = r.chPass m := by
  unfold State.chPass State.chCfg
  rw [h.cfg, h.groups]

/-! ### Branches and folds -/

theorem ite (hs : RunsFabric P r s) (ht : RunsFabric P r t) : RunsFabric P r (if c then s else t) := by
  split
  · exact hs
  · exact ht

theorem ite_fst {p q : State × β} (hp : RunsFabric P r p.1) (hq : RunsFabric P r q.1) :
    RunsFabric P r (if c then p else q).1 := by
  split
  · exact hp
  · exact hq

theorem of_fst {p : State × β} {b : β} (h : RunsFabric P r p.1) (e : p = (t, b)) : RunsFabric P r t := by
  rw [e] at h
  exact h

theorem foldl {f : State → α → State} {l : List α} (h : RunsFabric P r s)
    (hf : ∀ t a, a ∈ l → RunsFabric P r t → RunsFabric P r (f t a)) : RunsFabric P r (l.foldl f s) := by
  induction l generalizing s with
  | nil => exact h
  | cons a l ih => exact ih (hf s a (.head _) h) fun t b hb => hf t b (.tail _ hb)

/-- A pass over channels or cells that gathers work. The fold goes by a name `F`, so that checking the proof does not
run the pass. -/
theorem of_foldl {F : (State × β → α → State × β) → State × β → List α → State × β}
    (hF : @List.foldl (State × β) α = F) {f : State × β → α → State × β} {l : List α} {b b' : β}
    (e : F f (s, b) l = (t, b')) (h : RunsFabric P r s) (hf : ∀ p a, a ∈ l → RunsFabric P r p.1 → RunsFabric P r (f p a).1) :
    RunsFabric P r t := by
  subst hF
  refine of_fst ?_ e
  clear e
  induction l generalizing s b with
  | nil => exact h
  | cons a l ih =>
    exact ih (s := (f (s, b) a).1) (b := (f (s, b) a).2) (hf (s, b) a (.head _) h) fun p x hx => hf p x (.tail _ hx)

theorem foldl_fst {f : State × β → α → State × β} {l : List α} {b : β} (h : RunsFabric P r s)
    (hf : ∀ p a, a ∈ l → RunsFabric P r p.1 → RunsFabric P r (f p a).1) : RunsFabric P r (l.foldl f (s, b)).1 :=
  of_foldl rfl rfl h hf

/-! ### Single changes -/

theorem setReg (h : RunsFabric P r s) {a : Nat} {w : Word} (ha : fabricReg a) (hne : a ≠ A.evfFlags) :
    RunsFabric P r (s.setReg a w) :=
  { h with
    reg := fun b hb => (State.reg_setReg_ne s w (by rintro rfl; exact hb ha)).trans (h.reg b hb)
    flags := fun j hj => (congrArg (bitAt · j) (congrArg BitVec.toNat (State.reg_setReg_ne s w hne.symm))).trans (h.flags j hj)
    rest := congrArg (fun u : State => { u with regs := (s.setReg a w).regs }) h.rest }

theorem count (h : RunsFabric P r s) {a : Nat} (ha : fabricReg a) (hne : a ≠ A.evfFlags) : RunsFabric P r (s.count a) :=
  h.setReg ha hne

/-- The flag that tells of a dropped event. -/
theorem raiseDrop (h : RunsFabric P r s) : RunsFabric P r (s.raise F.evfFlagsDrop) :=
  { h with
    reg := fun b hb => (State.reg_setReg_ne s _ (by rintro rfl; exact hb (by decide))).trans (h.reg b hb)
    flags := fun j hj => (bit_raise_ne s hj).trans (h.flags j hj)
    rest := congrArg (fun u : State => { u with regs := (s.raise F.evfFlagsDrop).regs }) h.rest }

theorem other {free icu} (h : RunsFabric P r s) : RunsFabric P r { s with free := free, icu := icu } :=
  { h with rest := congrArg (fun u : State => { u with free := free, icu := icu }) h.rest }

theorem draw (h : RunsFabric P r s) {m : Nat} : RunsFabric P r (s.draw m).2 := h.other

/-! ### Interrupts -/

theorem irqTime (h : RunsFabric P r s) {v : Nat} {lf : Bool} (e : s.irqTime = (v, lf, t)) : RunsFabric P r t := by
  unfold State.irqTime at e
  split at e
  · cases e
    exact h.draw (m := 2 ^ 32)
  · cases e
    exact h

theorem irqSetPending (h : RunsFabric P r s) {k edge payload : Nat} (hk : k < 1024) :
    RunsFabric P r (s.irqSetPending k edge payload) := by
  unfold State.irqSetPending
  extract_lets _
  obtain ⟨hlo, hhi⟩ := icuCtr_between (irqTarget_lt s hk)
  refine .ite (h.other.count (.inl ⟨hlo, hhi⟩) (Nat.ne_of_lt (Nat.lt_of_lt_of_le hhi (by decide)))) ?_
  · split
    exact (h.irqTime ‹_›).other

theorem irqSample (h : RunsFabric P r s) {k : Nat} {level : Bool} {payload : Nat} (hk : k < 1024) :
    RunsFabric P r (s.irqSample k level payload) := by
  unfold State.irqSample
  extract_lets _ _ s1
  have h1 : RunsFabric P r s1 := h.other
  refine .ite (.ite h1 (.ite ?_ (.ite h1.other h1))) (.ite (h1.irqSetPending hk) (.ite (h1.irqSetPending hk) h1))
  split
  exact (h1.irqTime ‹_›).other

/-! ### Levels -/

/-- The fabric's levels change: groups, outside levels, inputs and the channels spared stay. -/
theorem setEvf (h : RunsFabric P r s) {e : EvfState} (hgroups : e.groups = s.evf.groups := by rfl)
    (hhigh : e.high = s.evf.high := by rfl) (hinputs : e.inputs = s.evf.inputs := by rfl)
    (hmain : ∀ m, P m → bitAt e.main m = bitAt s.evf.main m := by exact fun _ _ => rfl)
    (hout : ∀ m, P m → bitAt e.out m = bitAt s.evf.out m := by exact fun _ _ => rfl)
    (haon : ∀ a, P (256 + a) → bitAt e.aon a = bitAt s.evf.aon a := by exact fun _ _ => rfl) :
    RunsFabric P r (s.setEvf e) := by
  have hin (j : Nat) : (s.setEvf e).evInput j = s.evInput j := by
    unfold State.evInput State.setEvf
    rw [hinputs]
  exact { h with
    rest := congrArg (fun u : State => { u with evf := e }) h.rest
    groups := hgroups.trans h.groups
    high := hhigh.trans h.high
    req := fun j x hx => (congrArg EvInput.req (hin j)).trans (h.req j x hx)
    main := fun m hm => (hmain m hm).trans (h.main m hm)
    out := fun m hm => (hout m hm).trans (h.out m hm)
    aon := fun a ha => (haon a ha).trans (h.aon a ha)
    inputs := fun j hj => (hin j).trans (h.inputs j hj) }

theorem bit_putBit_ne {n m j : Nat} {lv : Bool} (h : j ≠ m) : bitAt (putBit n m lv) j = bitAt n j := by
  rw [bitAt_putBit, if_neg h]

/-- The bit of a channel that is not spared. -/
theorem ne_of_spared {m j : Nat} (hj : P j) (hm : ¬ P m) : j ≠ m := by
  rintro rfl
  exact hm hj

/-! ### Consumer inputs -/

theorem edges {held dropped} (h : RunsFabric P r s) :
    RunsFabric P r { s with brd := { s.brd with heldEdges := held, droppedEdges := dropped } } :=
  { h with rest := congrArg (fun u : State =>
      { u with brd := { u.brd with heldEdges := held, droppedEdges := dropped } }) h.rest }

theorem holdEdge (h : RunsFabric P r s) {det : Nat} {g : HeldEdge} : RunsFabric P r (s.holdEdge det g) := by
  unfold State.holdEdge
  split
  · exact h.edges (dropped := s.brd.droppedEdges)
  · exact h.edges (held := s.brd.heldEdges)

theorem evInput_setEvInput_self (s : State) (j : Nat) (x : EvInput) : (s.setEvInput j x).evInput j = x := by
  simp [State.evInput, State.setEvInput, State.setEvf, Sparse.find?_insert_self]

theorem evInput_setEvInput_ne (s : State) {j k : Nat} (x : EvInput) (h : k ≠ j) :
    (s.setEvInput j x).evInput k = s.evInput k := by
  simp [State.evInput, State.setEvInput, State.setEvf, Sparse.find?_insert_ne _ x h]

/-- An input that follows no channel spared changes, and keeps the request that it has. -/
theorem setEvInput (h : RunsFabric P r s) {j : Nat} {x : EvInput} (hj : ¬ P (r.evInputCfg j).2.2)
    (hreq : ∀ y, (s.evInput j).req = some y → x.req = some y) : RunsFabric P r (s.setEvInput j x) :=
  { h with
    rest := congrArg (fun u : State => { u with evf := (s.setEvInput j x).evf }) h.rest
    req := fun k y hk => by
      by_cases hkj : k = j
      · subst hkj
        rw [evInput_setEvInput_self]
        exact hreq y (h.req k y hk)
      · rw [evInput_setEvInput_ne s x hkj]
        exact h.req k y hk
    inputs := fun k hk => by
      rw [evInput_setEvInput_ne s x (by rintro rfl; exact hj hk)]
      exact h.inputs k hk }

theorem evLatchIn (h : RunsFabric P r s) {j ref : Nat} {x : EvLatch} (hj : ¬ P (r.evInputCfg j).2.2) :
    RunsFabric P r (s.evLatchIn j ref x) := by
  unfold State.evLatchIn
  extract_lets y
  refine .ite h ?_
  split
  next hreq => exact h.setEvInput hj fun z hz => by cases hreq.symm.trans hz
  next => exact h.setEvInput hj fun z hz => hz
  next => exact .ite (h.count (by decide) (by decide)).raiseDrop (.setReg (h.count (by decide) (by decide)) (by decide) (by decide))

theorem evConsumers (h : RunsFabric P r s) {ref : Nat} {rising : Bool} {x : EvLatch} (href : ¬ P ref) :
    RunsFabric P r (s.evConsumers ref rising x) := by
  unfold State.evConsumers
  refine h.foldl fun u j _ hu => ?_
  cases hcfg : u.evInputCfg j with
  | mk en q =>
    obtain ⟨sense, k⟩ := q
    dsimp only
    split
    next hpass =>
      simp only [Bool.and_eq_true, beq_iff_eq] at hpass
      obtain ⟨⟨-, hk⟩, -⟩ := hpass
      have hj : ¬ P (r.evInputCfg j).2.2 := by
        rw [← hu.evInputCfg, hcfg]
        exact hk ▸ href
      exact .ite hu.holdEdge (hu.evLatchIn hj)
    next => exact hu

/-! ### Channels and cells -/

theorem aonSet (h : RunsFabric P r s) {w : EvWave} {a : Nat} {lv : Bool} (ha : a < 64) (hP : ¬ P (256 + a)) :
    RunsFabric P r (s.aonSet w a lv).1 := by
  have h1 : RunsFabric P r (s.setEvf { s.evf with aon := putBit s.evf.aon a lv }) :=
    h.setEvf (haon := fun b hb => bit_putBit_ne (by rintro rfl; exact hP hb))
  refine .ite_fst h (.ite h1 ((evConsumers (.ite (h1.count ?_ ?_) h1) hP).irqSample (by omega)))
  · unfold fabricReg A.evfAonctr A.evfFirelost A.evfGrptie
    omega
  · unfold A.evfAonctr A.evfFlags
    omega

theorem aonUpdate (h : RunsFabric P r s) {w : EvWave} {pick : Nat → Bool} (hP : ∀ a, a < 64 → ¬ P (256 + a)) :
    RunsFabric P r (s.aonUpdate w pick).1 :=
  h.foldl_fst fun _ a ha hu => .ite_fst (hu.aonSet (List.mem_range.1 ha) (hP a (List.mem_range.1 ha))) hu

theorem cellDrive (h : RunsFabric P r s) {k : Nat} {lv settle : Bool} : RunsFabric P r (s.cellDrive k lv settle).1 :=
  .ite_fst h.setEvf.setEvf h.setEvf

theorem cellSees (h : RunsFabric P r s) {w : EvWave} {k m : Nat} {rising : Bool} :
    RunsFabric P r (s.cellSees w k m rising).1 :=
  .ite_fst h (.ite_fst h.cellDrive (.ite_fst (.ite_fst h.cellDrive (h.draw (m := 2)).cellDrive) h))

theorem outEdge (h : RunsFabric P r s) {w : EvWave} {m : Nat} {lv : Bool} (hm : m < 256) (hP : ¬ P m) :
    RunsFabric P r (s.outEdge w m lv) := by
  have h0 : RunsFabric P r (s.setEvf { s.evf with out := putBit s.evf.out m lv }) :=
    h.setEvf (hout := fun j hj => bit_putBit_ne (ne_of_spared hj hP))
  refine .ite h0 (evConsumers (.ite (h0.count ?_ ?_) h0) hP)
  · unfold fabricReg A.evfCtr A.evfFirelost A.evfGrptie
    omega
  · unfold A.evfCtr A.evfFlags
    omega

theorem outSpread (h : RunsFabric P r s) {w : EvWave} {m : Nat} {lv : Bool} :
    RunsFabric P r (s.outSpread w m lv).1 := by
  unfold State.outSpread
  generalize hF : @List.foldl (State × EvWork) Nat = F
  extract_lets s1 s2
  have h1 : RunsFabric P r s1 :=
    .ite h (h.foldl fun _ a ha h => .ite (h.irqSample (by have := List.mem_range.1 ha; omega)) h)
  have h2 : RunsFabric P r s2 :=
    .ite (h1.foldl fun _ _ _ h => .ite (setEvf (.ite h.setEvf h)) (.ite h.setEvf h)) h1
  split
  rename_i e
  exact .of_foldl hF e h2 fun _ _ _ h => .ite_fst h.cellSees h

theorem outSet (h : RunsFabric P r s) {w : EvWave} {m : Nat} {lv : Bool} (hm : m < 256) (hP : ¬ P m) :
    RunsFabric P r (s.outSet w m lv).1 := by
  rw [outSet_eq]
  exact .ite_fst h (h.outEdge hm hP).outSpread

theorem mainSet (h : RunsFabric P r s) {w : EvWave} {m : Nat} {lv : Bool} (hm : m < 256) (hP : ¬ P m) :
    RunsFabric P r (s.mainSet w m lv).1 := by
  have h1 : RunsFabric P r (s.setEvf { s.evf with main := putBit s.evf.main m lv }) :=
    h.setEvf (hmain := fun j hj => bit_putBit_ne (ne_of_spared hj hP))
  exact .ite_fst h (.ite_fst (h1.outSet hm hP) (h1.count (by decide) (by decide)))

end RunsFabric

/-! ## Whole runs, which spare no channel -/

/-- `s` comes from `r` by a run that may have reached every channel. -/
abbrev RunsAll (r s : State) : Prop := RunsFabric (fun _ => False) r s

namespace RunsAll

variable {r s t : State} {w : EvWave} {code : Nat} {lv : Bool} {x : EvLatch}

theorem evChange (h : RunsAll r s) : RunsAll r (s.evChange w code lv).1 := by
  unfold State.evChange
  generalize hF : @List.foldl (State × EvWork) Nat = F
  split
  rename_i e
  exact (RunsFabric.of_foldl hF e h fun _ _ hm h => .ite_fst (h.mainSet (List.mem_range.1 hm) id) h).aonUpdate fun _ _ => id

theorem evRun (h : RunsAll r s) {fuel : Nat} {work : EvWork} : RunsAll r (evRun fuel w work s) := by
  induction fuel generalizing s work with
  | zero => exact h
  | succ fuel ih =>
    rcases work with _ | ⟨⟨code, lv⟩, rest⟩
    · exact h
    · rw [Machine.evRun]
      split
      exact ih (RunsFabric.of_fst h.evChange ‹_›)

theorem evSettle (h : RunsAll r s) : RunsAll r (s.evSettle w) := by
  unfold State.evSettle
  generalize hF : @List.foldl (State × EvWork) Nat = F
  split
  rename_i e
  exact evRun (RunsFabric.of_foldl hF e h fun _ _ _ h => .ite_fst h.cellDrive h)

theorem evLevelAt (h : RunsAll r s) : RunsAll r (s.evLevelAt code lv x) := h.evRun.evSettle

theorem evPulse (h : RunsAll r s) : RunsAll r (s.evPulse code) := .ite h.holdEdge h.evRun.evRun.evSettle

end RunsAll
end Sys2Proof.Machine
end

section
/-!
The event fabric (R520-R535): an edge of a channel that listens reaches its consumer input, whatever else the run does,
and the groups open and close as they are told.
-/

namespace Sys2Proof.Machine

/-! ## A request that stands -/

/-- A run of the fabric has set the request of a consumer input. -/
def Delivered (r : State) (i : Nat) (x : EvLatch) (t : State) : Prop := RunsAll r t ∧ (t.evInput i).req = some x

/-- Input `i` follows channel `m` with a sense that passes the edge, nothing holds it and no request waits in it. -/
structure Listens (s : State) (m i sense : Nat) (rising : Bool) : Prop where
  up : s.comUp = true
  bound : i < 65
  follows : s.evInputCfg i = (true, sense, m)
  passes : sensePasses sense rising = true
  free : s.inputHeld i m = false
  idle : (s.evInput i).req = none

theorem RunsFabric.trans {P : Nat → Prop} {r s t : State} (h : RunsFabric P r s) (g : RunsFabric P s t) : RunsFabric P r t where
  reg a ha := (g.reg a ha).trans (h.reg a ha)
  flags i hi := (g.flags i hi).trans (h.flags i hi)
  rest := by
    rw [g.rest]
    exact congrArg (fun u : State => { u with
      regs := t.regs, free := t.free, icu := t.icu, evf := t.evf,
      brd := { u.brd with heldEdges := t.brd.heldEdges, droppedEdges := t.brd.droppedEdges } }) h.rest
  groups := g.groups.trans h.groups
  high := g.high.trans h.high
  req i x hx := g.req i x (h.req i x hx)
  main m hm := (g.main m hm).trans (h.main m hm)
  out m hm := (g.out m hm).trans (h.out m hm)
  aon a ha := (g.aon a ha).trans (h.aon a ha)
  inputs i hi := (g.inputs i (by rwa [h.evInputCfg])).trans (h.inputs i hi)

theorem RunsFabric.all {P : Nat → Prop} {r s : State} (h : RunsFabric P r s) : RunsAll r s := h.mono fun _ => False.elim

namespace Delivered

variable {r s t : State} {i : Nat} {x : EvLatch}

/-- What runs on afterwards leaves the request. -/
theorem later (h : Delivered r i x s) (g : RunsAll s t) : Delivered r i x t := ⟨h.1.trans g, g.req i x h.2⟩

theorem earlier (h : RunsAll r s) (g : Delivered s i x t) : Delivered r i x t := ⟨h.trans g.1, g.2⟩

/-- A pass delivers at the first item of its list that does, where the items before it keep what that one needs. -/
theorem foldl {σ α : Type} {g : σ → State} {f : σ → α → σ} {l : List α} {a : α} {p : σ} {Pre : State → Prop}
    (ha : a ∈ l) (hp : Pre (g p)) (hbefore : ∀ p b, b ∈ l → b ≠ a → Pre (g p) → Pre (g (f p b)))
    (hat : ∀ p, Pre (g p) → Delivered r i x (g (f p a)))
    (hafter : ∀ p b, b ∈ l → RunsAll (g p) (g (f p b))) : Delivered r i x (g (l.foldl f p)) := by
  induction l generalizing p with
  | nil => cases ha
  | cons b l ih =>
    by_cases hab : b = a
    · subst hab
      have hrest : ∀ {q}, RunsAll (g q) (g (l.foldl f q)) := by
        intro q
        have hafter' : ∀ p c, c ∈ l → RunsAll (g p) (g (f p c)) := fun p c hc => hafter p c (.tail _ hc)
        clear ih ha hafter hbefore
        induction l generalizing q with
        | nil => exact .refl _ _
        | cons c l ih =>
          exact (hafter' q c (.head _)).trans (ih fun p d hd => hafter' p d (.tail _ hd))
      exact (hat p hp).later hrest
    · exact ih (List.mem_of_ne_of_mem (Ne.symm hab) ha) (hbefore p b (.head _) hab hp)
        (fun p c hc => hbefore p c (.tail _ hc)) (fun p c hc => hafter p c (.tail _ hc))

end Delivered

/-! ## Consumer inputs -/

namespace Listens

variable {r s t : State} {m i sense : Nat} {lv : Bool}

/-- An input still listens after a run that left its latches. -/
theorem frame (h : Listens r m i sense lv) (g : FabricFrame r s) (hin : s.evInput i = r.evInput i) : Listens s m i sense lv where
  up := g.comUp.trans h.up
  bound := h.bound
  follows := (g.evInputCfg i).trans h.follows
  passes := h.passes
  free := (g.inputHeld i m).trans h.free
  idle := hin ▸ h.idle

theorem runs (h : Listens r m i sense lv) (g : RunsAll r s) (hin : s.evInput i = r.evInput i) : Listens s m i sense lv :=
  h.frame g.frame hin

/-- A run that spares its channel leaves an input listening. -/
theorem spared {P : Nat → Prop} (h : Listens r m i sense lv) (g : RunsFabric P r s) (hm : P m) : Listens s m i sense lv :=
  h.runs g.all (g.inputs i (by rw [h.follows]; exact hm))

end Listens

theorem evLatchIn_delivers {s : State} {m i sense : Nat} {lv : Bool} (h : Listens s m i sense lv) (ref : Nat) (x : EvLatch) :
    Delivered s i x (s.evLatchIn i ref x) := by
  refine ⟨(RunsFabric.refl _ s).evLatchIn id, ?_⟩
  unfold State.evLatchIn
  simp only [h.up, h.idle]
  exact congrArg EvInput.req (RunsFabric.evInput_setEvInput_self ..)

theorem evInput_raise (s : State) (f : Fld) (i : Nat) : (s.raise f).evInput i = s.evInput i := rfl

theorem evInput_count (s : State) (a i : Nat) : (s.count a).evInput i = s.evInput i := rfl

theorem evInput_holdEdge (s : State) (det : Nat) (e : HeldEdge) (i : Nat) : (s.holdEdge det e).evInput i = s.evInput i := by
  unfold State.holdEdge
  split <;> rfl

theorem evInput_evLatchIn_ne (s : State) {i j : Nat} (ref : Nat) (x : EvLatch) (h : i ≠ j) :
    (s.evLatchIn j ref x).evInput i = s.evInput i := by
  unfold State.evLatchIn
  extract_lets y
  split
  · rfl
  · split
    · exact RunsFabric.evInput_setEvInput_ne s _ h
    · exact RunsFabric.evInput_setEvInput_ne s _ h
    · split
      · rw [evInput_raise, evInput_count]
      · rw [evInput_raise, evInput_count]

/-- What one consumer input does with an edge of channel `ref`: the step of `State.evConsumers`. -/
def State.evConsumer (s : State) (ref : Nat) (rising : Bool) (t : EvLatch) (i : Nat) : State :=
  let (en, sense, r) := s.evInputCfg i
  if en && r == ref && sensePasses sense rising then
    if s.inputHeld i ref then s.holdEdge (4096 + i) { level := rising, pulse := false, tick := t.tick, lf := t.lf }
    else s.evLatchIn i ref t
  else s

theorem evConsumers_eq (s : State) (ref : Nat) (rising : Bool) (t : EvLatch) :
    s.evConsumers ref rising t = (List.range 65).foldl (fun s i => s.evConsumer ref rising t i) s := by
  unfold State.evConsumers
  generalize @List.foldl State Nat = F
  rfl

theorem evConsumer_runs (s : State) (ref : Nat) (lv : Bool) (x : EvLatch) (j : Nat) :
    RunsAll s (s.evConsumer ref lv x j) := by
  unfold State.evConsumer
  split
  exact .ite (.ite (RunsFabric.holdEdge (.refl _ s)) (RunsFabric.evLatchIn (.refl _ s) id)) (.refl _ s)

theorem evInput_evConsumer_ne (s : State) (ref : Nat) (lv : Bool) (x : EvLatch) {i j : Nat} (h : i ≠ j) :
    (s.evConsumer ref lv x j).evInput i = s.evInput i := by
  unfold State.evConsumer
  split
  split
  · split
    · exact evInput_holdEdge ..
    · exact evInput_evLatchIn_ne s ref x h
  · rfl

theorem evConsumer_delivers {s : State} {m i sense : Nat} {lv : Bool} (h : Listens s m i sense lv) (x : EvLatch) :
    Delivered s i x (s.evConsumer m lv x i) := by
  have heq : s.evConsumer m lv x i = s.evLatchIn i m x := by
    simp [State.evConsumer, h.follows, h.passes, h.free]
  exact heq ▸ evLatchIn_delivers h m x

/-- An edge of a channel sets the request of an input that listens to it (R530). -/
theorem evConsumers_delivers {s : State} {m i sense : Nat} {lv : Bool} (h : Listens s m i sense lv) (x : EvLatch) :
    Delivered s i x (s.evConsumers m lv x) := by
  rw [evConsumers_eq]
  refine Delivered.foldl (g := id) (Pre := fun q => RunsAll s q ∧ q.evInput i = s.evInput i)
    (List.mem_range.2 h.bound) ⟨.refl _ s, rfl⟩ (fun q j _ hj hq => ?_) (fun q hq => ?_) (fun q j _ => ?_)
  · exact ⟨hq.1.trans (evConsumer_runs ..), (evInput_evConsumer_ne _ _ _ _ hj.symm).trans hq.2⟩
  · exact .earlier hq.1 (evConsumer_delivers (h.runs hq.1 hq.2) x)
  · exact evConsumer_runs ..

/-! ## Channels -/

/-- A main channel whose level after the gate changes brings its edge to the inputs that listen (R528). -/
theorem outSet_delivers {s : State} {w : EvWave} {m i sense : Nat} {lv : Bool} (h : Listens s m i sense lv) (hm : m < 256)
    (hout : bitAt s.evf.out m = !lv) (hw : w.quiet = false) : Delivered s i w.stamp (s.outSet w m lv).1 := by
  have hne : (bitAt s.evf.out m == lv) = false := by rw [hout]; cases lv <;> rfl
  rw [outSet_eq, if_neg (by rw [hne]; exact Bool.false_ne_true)]
  refine .later ?_ (RunsFabric.refl _ _).outSpread
  have h0 : RunsAll s (s.setEvf { s.evf with out := putBit s.evf.out m lv }) :=
    (RunsFabric.refl _ s).setEvf (hout := fun _ => False.elim)
  unfold State.outEdge
  simp only [hw, Bool.false_eq_true, if_false]
  cases lv with
  | true =>
    have h1 := h0.count (a := A.evfCtr m) (by unfold fabricReg A.evfCtr A.evfFirelost A.evfGrptie; omega)
      (by unfold A.evfCtr A.evfFlags; omega)
    exact .earlier h1 (evConsumers_delivers (h.runs h1 rfl) _)
  | false => exact .earlier h0 (evConsumers_delivers (h.runs h0 rfl) _)

/-- A main channel with an open gate passes a change of its level on (R525). -/
theorem mainSet_delivers {s : State} {w : EvWave} {m i sense : Nat} {lv : Bool} (h : Listens s m i sense lv) (hm : m < 256)
    (hmain : bitAt s.evf.main m = !lv) (hpass : s.chPass m = true) (hout : bitAt s.evf.out m = !lv) (hw : w.quiet = false) :
    Delivered s i w.stamp (s.mainSet w m lv).1 := by
  have hne : (bitAt s.evf.main m == lv) = false := by rw [hmain]; cases lv <;> rfl
  have h0 : RunsAll s (s.setEvf { s.evf with main := putBit s.evf.main m lv }) :=
    (RunsFabric.refl _ s).setEvf (hmain := fun _ => False.elim)
  unfold State.mainSet
  rw [if_neg (by rw [hne]; exact Bool.false_ne_true)]
  dsimp only
  rw [if_pos (show (s.setEvf { s.evf with main := putBit s.evf.main m lv }).chPass m = true from hpass)]
  exact .earlier h0 (outSet_delivers (h.runs h0 rfl) hm hout hw)

/-- An always-on channel brings an edge to the inputs that listen (R527, R528). -/
theorem aonSet_delivers {s : State} {w : EvWave} {a i sense : Nat} {lv : Bool} (h : Listens s (256 + a) i sense lv)
    (ha : a < 64) (haon : bitAt s.evf.aon a = !lv) (hw : w.quiet = false) : Delivered s i w.stamp (s.aonSet w a lv).1 := by
  have hne : (bitAt s.evf.aon a == lv) = false := by rw [haon]; cases lv <;> rfl
  have h0 : RunsAll s (s.setEvf { s.evf with aon := putBit s.evf.aon a lv }) :=
    (RunsFabric.refl _ s).setEvf (haon := fun _ => False.elim)
  unfold State.aonSet
  rw [if_neg (by rw [hne]; exact Bool.false_ne_true)]
  simp only [hw, Bool.false_eq_true, if_false]
  refine .later ?_ ((RunsFabric.refl _ _).irqSample (by omega))
  cases lv with
  | true =>
    have h1 := h0.count (a := A.evfAonctr a) (by unfold fabricReg A.evfAonctr A.evfFirelost A.evfGrptie; omega)
      (by unfold A.evfAonctr A.evfFlags; omega)
    exact .earlier h1 (evConsumers_delivers (h.runs h1 rfl) _)
  | false => exact .earlier h0 (evConsumers_delivers (h.runs h0 rfl) _)

/-! ## Main channels that can carry an edge -/

/-- Main channel `m` can carry a change to `lv` to input `i`: it stands at the other level on both sides of its gate, the
gate is open, and the input listens (R520, R525, R530). -/
structure Carries (s : State) (m i sense : Nat) (lv : Bool) : Prop where
  bound : m < 256
  listens : Listens s m i sense lv
  main : bitAt s.evf.main m = !lv
  pass : s.chPass m = true
  out : bitAt s.evf.out m = !lv

theorem Carries.spared {r s : State} {m i sense : Nat} {lv : Bool} (h : Carries r m i sense lv)
    (g : RunsFabric (· = m) r s) : Carries s m i sense lv where
  bound := h.bound
  listens := h.listens.spared g rfl
  main := (g.main m rfl).trans h.main
  pass := (g.chPass m).trans h.pass
  out := (g.out m rfl).trans h.out

theorem Carries.delivers {r s : State} {m i sense : Nat} {lv : Bool} {w : EvWave} (h : Carries r m i sense lv)
    (g : RunsFabric (· = m) r s) (hw : w.quiet = false) : Delivered r i w.stamp (s.mainSet w m lv).1 :=
  have h' := h.spared g
  .earlier g.all (mainSet_delivers h'.listens h'.bound h'.main h'.pass h'.out hw)

/-- A pass over channels that gathers work, under a name `F` as in `RunsFabric.of_foldl`. -/
theorem Delivered.of_foldl {α : Type} {F : (State × EvWork → α → State × EvWork) → State × EvWork → List α → State × EvWork}
    (hF : @List.foldl (State × EvWork) α = F) {f : State × EvWork → α → State × EvWork} {l : List α} {a : α} {k k' : EvWork}
    {r s t : State} {i : Nat} {x : EvLatch} {Pre : State → Prop} (e : F f (s, k) l = (t, k')) (ha : a ∈ l) (hp : Pre s)
    (hbefore : ∀ p b, b ∈ l → b ≠ a → Pre p.1 → Pre (f p b).1) (hat : ∀ p, Pre p.1 → Delivered r i x (f p a).1)
    (hafter : ∀ p b, b ∈ l → RunsAll p.1 (f p b).1) : Delivered r i x t := by
  subst hF
  have h := Delivered.foldl (g := Prod.fst) (p := (s, k)) ha hp hbefore hat hafter
  rwa [e] at h

/-- A producer's change reaches the inputs that listen to a channel it drives (R520). -/
theorem evChange_delivers {s : State} {w : EvWave} {m i sense : Nat} {lv : Bool} (h : Carries s m i sense lv)
    (henabled : bitAt (s.chCfg m) 31 = true) {code : Nat} (hcode : bitsOf (s.chCfg m) 0 10 = code) (hpos : code ≠ 0)
    (hgate : s.prodGated code = false) (hw : w.quiet = false) : Delivered s i w.stamp (s.evChange w code lv).1 := by
  unfold State.evChange
  generalize hF : @List.foldl (State × EvWork) Nat = F
  split
  rename_i e
  refine .later (Delivered.of_foldl hF e (List.mem_range.2 h.bound) (Pre := RunsFabric (· = m) s) (.refl _ s)
    (fun p n hn hne hp => .ite_fst (hp.mainSet (List.mem_range.1 hn) hne) hp) (fun p hp => ?_)
    (fun p n hn => .ite_fst ((RunsFabric.refl _ _).mainSet (List.mem_range.1 hn) id) (.refl _ _)))
    ((RunsFabric.refl _ _).aonUpdate fun _ _ => id)
  obtain ⟨q, k⟩ := p
  have hcfg : q.chCfg m = s.chCfg m := hp.cfg ..
  have hpick : (q.comUp && bitAt (q.chCfg m) 31 && bitsOf (q.chCfg m) 0 10 == code && code != 0 && !q.prodGated code) = true := by
    simp [hp.frame.comUp, h.listens.up, hcfg, henabled, hcode, hpos, hp.frame.prodGated, hgate]
  dsimp only
  rw [if_pos hpick]
  exact h.delivers hp hw

theorem evRun_succ (fuel : Nat) (w : EvWave) (code : Nat) (lv : Bool) (rest : EvWork) (s : State) :
    evRun (fuel + 1) w ((code, lv) :: rest) s =
      evRun fuel w (rest ++ (s.evChange w code lv).2) (s.evChange w code lv).1 := by
  rw [evRun]


/-- A level that a producer takes reaches the inputs that listen (R520, R530). -/
theorem evLevelAt_delivers {s : State} {m i sense : Nat} {lv : Bool} (h : Carries s m i sense lv)
    (henabled : bitAt (s.chCfg m) 31 = true) {code : Nat} (hcode : bitsOf (s.chCfg m) 0 10 = code) (hpos : code ≠ 0)
    (hgate : s.prodGated code = false) (x : EvLatch) : Delivered s i x (s.evLevelAt code lv x) := by
  unfold State.evLevelAt
  extract_lets w
  rw [show evFuel = 4095 + 1 from rfl, evRun_succ]
  exact .later (evChange_delivers (w := w) h henabled hcode hpos hgate rfl)
    (RunsAll.evRun (.refl _ _)).evSettle

/-! ## Firing (R529) -/

/-- Main channels are set to a level at one instant, and what follows runs: an edge of `State.fireMain`. -/
def State.fireEdge (s : State) (w : EvWave) (l : List Nat) (lv : Bool) : State :=
  let (s, k) := l.foldl (fun (s, k) m => let (s, more) := s.mainSet w m lv; (s, k ++ more)) (s, [])
  evRun evFuel w k s

/-- The firings that find their channel disabled or high, and are lost (R529). -/
def State.firesLost (s : State) (l : List Nat) : State :=
  (l.filter (fun m => !(bitAt (s.chCfg m) 31 && !bitAt s.evf.main m))).foldl (fun s _ => s.fireLost) s

/-- The firings that find their channel enabled and low. -/
def State.fires (s : State) (l : List Nat) : List Nat :=
  l.filter (fun m => bitAt (s.chCfg m) 31 && !bitAt s.evf.main m)

theorem fireMain_eq (s : State) (l : List Nat) :
    s.fireMain l =
      (((s.firesLost l).fireEdge ((s.firesLost l).evWave (s.firesLost l).evStamp) (s.fires l) true).fireEdge
        ((s.firesLost l).evWave (s.firesLost l).evStamp) (s.fires l) false).evSettle
        ((s.firesLost l).evWave (s.firesLost l).evStamp) := by
  unfold State.fireMain State.fireEdge State.firesLost State.fires
  generalize @List.foldl (State × EvWork) Nat = F
  generalize @List.foldl State Nat = G
  generalize evRun = R
  rfl

theorem fireEdge_runs (s : State) (w : EvWave) {l : List Nat} (hl : ∀ m ∈ l, m < 256) (lv : Bool) :
    RunsAll s (s.fireEdge w l lv) := by
  unfold State.fireEdge
  generalize hF : @List.foldl (State × EvWork) Nat = F
  split
  rename_i e
  exact .evRun (.of_foldl hF e (.refl _ s) fun p m hm hp => hp.mainSet (hl m hm) id)

theorem fireEdge_delivers {s : State} {w : EvWave} {m i sense : Nat} {lv : Bool} (h : Carries s m i sense lv)
    {l : List Nat} (hl : ∀ m ∈ l, m < 256) (hm : m ∈ l) (hw : w.quiet = false) :
    Delivered s i w.stamp (s.fireEdge w l lv) := by
  unfold State.fireEdge
  generalize hF : @List.foldl (State × EvWork) Nat = F
  split
  rename_i e
  exact .later (Delivered.of_foldl hF e hm (Pre := RunsFabric (· = m) s) (.refl _ s)
    (fun p n hn hne hp => hp.mainSet (hl n hn) hne) (fun p hp => h.delivers hp hw)
    (fun p n hn => (RunsFabric.refl _ _).mainSet (hl n hn) id)) (.evRun (.refl _ _))

theorem fires_lt {s : State} {l : List Nat} (hl : ∀ m ∈ l, m < 256) : ∀ m ∈ s.fires l, m < 256 :=
  fun m hm => hl m (List.mem_filter.1 hm).1

/-- What runs after the lost firings are counted. -/
theorem fireMain_runs (s : State) {l : List Nat} (hl : ∀ m ∈ l, m < 256) : RunsAll (s.firesLost l) (s.fireMain l) := by
  rw [fireMain_eq]
  exact .evSettle ((fireEdge_runs _ _ (fires_lt hl) _).trans (fireEdge_runs _ _ (fires_lt hl) _))

theorem fireMain_delivers {s : State} {l : List Nat} (hl : ∀ m ∈ l, m < 256) {m i sense : Nat}
    (h : Carries (s.firesLost l) m i sense true) (hm : m ∈ s.fires l) :
    Delivered (s.firesLost l) i (s.firesLost l).evStamp (s.fireMain l) := by
  rw [fireMain_eq]
  exact .later (fireEdge_delivers h (fires_lt hl) hm rfl) (.evSettle (fireEdge_runs _ _ (fires_lt hl) _))

/-! ### Lost firings -/

theorem fireLost_writes {l : List Nat} {s t : State} (h : WritesOnly l s t) (hctr : A.evfFirelost ∈ l) (hflag : A.evfFlags ∈ l) :
    WritesOnly l s t.fireLost := (writesOnly_count h hctr).raise hflag

theorem firesLost_writes (s : State) (l : List Nat) : WritesOnly [A.evfFirelost, A.evfFlags] s (s.firesLost l) := by
  unfold State.firesLost
  generalize hs : (l.filter _) = l'
  clear hs
  suffices h : ∀ t, WritesOnly [A.evfFirelost, A.evfFlags] s t →
      WritesOnly [A.evfFirelost, A.evfFlags] s (l'.foldl (fun s _ => s.fireLost) t) from h s (.refl ..)
  induction l' with
  | nil => exact fun t h => h
  | cons a l' ih => exact fun t h => ih _ (fireLost_writes h (.head _) (.tail _ (.head _)))

theorem fireLost_frame (s : State) (l : List Nat) : FabricFrame s (s.firesLost l) where
  reg a ha := (firesLost_writes s l).regs a (by
    rintro hmem
    simp only [List.mem_cons, List.not_mem_nil, or_false] at hmem
    rcases hmem with rfl | rfl <;> exact ha (by decide))
  rest := by
    rw [(firesLost_writes s l).rest]

theorem firesLost_evf (s : State) (l : List Nat) : (s.firesLost l).evf = s.evf := by rw [(firesLost_writes s l).rest]

theorem Carries.firesLost {s : State} {m i sense : Nat} {lv : Bool} (h : Carries s m i sense lv) (l : List Nat) :
    Carries (s.firesLost l) m i sense lv where
  bound := h.bound
  listens := h.listens.frame (fireLost_frame s l) (by unfold State.evInput; rw [firesLost_evf])
  main := by rw [firesLost_evf, h.main]
  pass := by
    rw [← h.pass]
    unfold State.chPass State.chCfg
    rw [(fireLost_frame s l).cfg, firesLost_evf]
  out := by rw [firesLost_evf, h.out]

/-- Firing channels at one instant reaches the inputs that listen to those that are enabled and low (R529). -/
theorem fireMain_sets {s : State} {l : List Nat} (hl : ∀ m ∈ l, m < 256) {m i sense : Nat} (h : Carries s m i sense true)
    (hm : m ∈ l) (henabled : bitAt (s.chCfg m) 31 = true) : ((s.fireMain l).evInput i).req = some s.evStamp := by
  rw [← (fireLost_frame s l).evStamp]
  exact (fireMain_delivers hl (h.firesLost l)
    (List.mem_filter.2 ⟨hm, by simp [henabled, h.main]⟩)).2

theorem sameMemory_fireMain {s : State} {l : List Nat} (hl : ∀ m ∈ l, m < 256) : s.sameMemory (s.fireMain l) :=
  fun a => ((fireMain_runs s hl).sameMemory a).trans ((firesLost_writes s l).sameMemory a)

theorem firesLost_one_of_lost {s : State} {m : Nat} (h : bitAt (s.chCfg m) 31 = false ∨ bitAt s.evf.main m = true) :
    s.firesLost [m] = s.fireLost := by
  unfold State.firesLost
  rw [List.filter_cons_of_pos (by rcases h with h | h <;> simp [h])]
  rfl

theorem firesLost_one_of_fires {s : State} {m : Nat} (hen : bitAt (s.chCfg m) 31 = true) (hlow : bitAt s.evf.main m = false) :
    s.firesLost [m] = s := by
  unfold State.firesLost
  rw [List.filter_cons_of_neg (by simp [hen, hlow])]
  rfl

/-! ## Flags of the fabric -/

/-- A flag of EVFFLAGS other than that of a dropped event stays in a run. -/
theorem RunsFabric.flagged {P : Nat → Prop} {r s : State} (h : RunsFabric P r s) {f : Fld} (ha : f.addr = A.evfFlags)
    (hl : f.lsb ≠ 0) (hw : f.width = 1) (hf : r.flag f = true) : s.flag f = true := by
  have hflag (u : State) : u.flag f = u.bit A.evfFlags f.lsb := by
    unfold State.flag State.fld State.bit bitsOf bitAt
    rw [ha, hw]
    rcases Nat.mod_two_eq_zero_or_one (u.regN A.evfFlags / 2 ^ f.lsb) with h0 | h1
    · simp [h0]
    · simp [h1]
  rw [hflag] at hf ⊢
  rw [h.flags _ hl, hf]

/-! ## Commands that fire -/

theorem completes_fire_lost {s : State} {w : Word} (hup : s.comUp = true)
    (h : bitAt (s.chCfg (bitsOf w.toNat 0 8)) 31 = false ∨ bitAt s.evf.main (bitsOf w.toNat 0 8) = true) :
    Completes (.fire false w) s fun t =>
      t.regN A.evfFirelost = (s.regN A.evfFirelost + 1) % 2 ^ 32 ∧ t.flag F.evfFlagsFirelost = true ∧ s.sameMemory t := by
  have hl : ∀ m ∈ [bitsOf w.toNat 0 8], m < 256 := by simpa using bitsOf_lt w.toNat 0 8
  have hruns := fireMain_runs s hl
  rw [firesLost_one_of_lost h] at hruns
  refine ⟨_, congrArg Host.Outcome.next (if_pos hup), ?_, ?_, sameMemory_fireMain hl⟩
  · rw [hruns.regN (by decide)]
    exact (regN_raise_ne _ (by decide)).trans (regN_count_self ..)
  · exact hruns.flagged rfl (by decide) rfl (flag_raise_at ..)

theorem completes_fire {s : State} {w : Word} {m : Nat} (hw : m = bitsOf w.toNat 0 8) (hup : s.comUp = true)
    (hen : bitAt (s.chCfg m) 31 = true) (hmain : bitAt s.evf.main m = false) (hout : bitAt s.evf.out m = false)
    (hpass : s.chPass m = true) :
    Completes (.fire false w) s fun t =>
      (∀ i sense, i < 32 → s.evInputCfg i = (true, sense, m) → sensePasses sense true = true → s.inputHeld i m = false →
        (s.evInput i).req = none → (t.evInput i).req = some s.evStamp)
      ∧ t.regN A.evfFirelost = s.regN A.evfFirelost ∧ s.sameMemory t := by
  subst hw
  have hm := bitsOf_lt w.toNat 0 8
  have hl : ∀ m ∈ [bitsOf w.toNat 0 8], m < 256 := by simpa using hm
  have hruns := fireMain_runs s hl
  rw [firesLost_one_of_fires hen hmain] at hruns
  refine ⟨_, congrArg Host.Outcome.next (if_pos hup), fun i sense hi hcfg hsense hheld hreq => ?_, hruns.regN (by decide),
    sameMemory_fireMain hl⟩
  exact fireMain_sets hl ⟨hm, ⟨hup, by omega, hcfg, hsense, hheld, hreq⟩, hmain, hpass, hout⟩ (.head _) hen

/-- The channels that a write to FIREM word `j` names. -/
def firemChannels (w : Word) (j : Nat) : List Nat := ((List.range 32).filter (fun i => bitAt w.toNat i)).map (fun i => 32 * j + i)

theorem mem_firemChannels {w : Word} {j m : Nat} (hj : m / 32 = j) (hbit : bitAt w.toNat (m % 32) = true) :
    m ∈ firemChannels w j :=
  List.mem_map.2 ⟨m % 32, List.mem_filter.2 ⟨List.mem_range.2 (Nat.mod_lt _ (by decide)), hbit⟩, by omega⟩

theorem firemChannels_lt {w : Word} {j : Nat} (hj : j < 8) : ∀ m ∈ firemChannels w j, m < 256 := by
  intro m hm
  obtain ⟨i, hi, rfl⟩ := List.mem_map.1 hm
  have := List.mem_range.1 (List.mem_filter.1 hi).1
  omega

theorem completes_firem {s : State} {w : Word} {j : Nat} (hup : s.comUp = true) (hj : j < 8) :
    Completes (.firem false j w) s fun t =>
      (∀ m i sense, m / 32 = j → bitAt w.toNat (m % 32) = true → bitAt (s.chCfg m) 31 = true →
        bitAt s.evf.main m = false → bitAt s.evf.out m = false → s.chPass m = true → i < 32 →
        s.evInputCfg i = (true, sense, m) → sensePasses sense true = true → s.inputHeld i m = false →
        (s.evInput i).req = none → (t.evInput i).req = some s.evStamp)
      ∧ s.sameMemory t := by
  have hl := firemChannels_lt (w := w) hj
  have hcond : (s.comUp && decide (j < 8)) = true := by simp [hup, hj]
  refine ⟨_, congrArg Host.Outcome.next (if_pos hcond), ?_, sameMemory_fireMain (l := firemChannels w j) hl⟩
  intro m i sense hmj hbit hen hmain hout hpass hi hcfg hsense hheld hreq
  exact fireMain_sets hl
    ⟨by omega, ⟨hup, by omega, hcfg, hsense, hheld, hreq⟩, hmain, hpass, hout⟩ (mem_firemChannels hmj hbit) hen

/-! ### Always-on channels -/

theorem completes_aonfire_lost {s : State} {w : Word} {a : Nat} (hw : a = bitsOf w.toNat 0 8) (ha : a < 64)
    (h : bitAt (s.aonCfg a) 31 = false ∨ bitAt s.evf.aon a = true) :
    Completes (.aonfire false w) s fun t => t.flag F.evfAonflagsFirelost = true ∧ t.evf = s.evf ∧ s.sameMemory t := by
  subst hw
  have hlost : (!bitAt (s.aonCfg (bitsOf w.toNat 0 8)) 31 || bitAt s.evf.aon (bitsOf w.toNat 0 8)) = true := by
    rcases h with h | h <;> simp [h]
  refine ⟨_, congrArg Host.Outcome.next ((if_pos ha).trans (if_pos hlost)), flag_raise_at .., ?_⟩
  split
  · exact ⟨rfl, fun _ => rfl⟩
  · exact ⟨rfl, fun _ => rfl⟩

/-- What a firing of an always-on channel that is enabled and low leaves after its rising edge. -/
def State.aonFired (s : State) (a : Nat) : State :=
  evRun evFuel (s.evWave s.evStamp) (s.aonSet (s.evWave s.evStamp) a true).2 (s.aonSet (s.evWave s.evStamp) a true).1

theorem fireAon_eq {s : State} {a : Nat} (hen : bitAt (s.aonCfg a) 31 = true) (hlow : bitAt s.evf.aon a = false) :
    s.fireAon a =
      (evRun evFuel (s.evWave s.evStamp) ((s.aonFired a).aonSet (s.evWave s.evStamp) a false).2
        ((s.aonFired a).aonSet (s.evWave s.evStamp) a false).1).evSettle (s.evWave s.evStamp) := by
  unfold State.fireAon State.aonFired
  rw [if_neg (by simp [hen, hlow])]

theorem completes_aonfire {s : State} {w : Word} {a : Nat} (hw : a = bitsOf w.toNat 0 8) (ha : a < 64)
    (hen : bitAt (s.aonCfg a) 31 = true) (hlow : bitAt s.evf.aon a = false) :
    Completes (.aonfire false w) s fun t =>
      (∀ i sense, i < 32 → s.comUp = true → s.evInputCfg i = (true, sense, 256 + a) → sensePasses sense true = true →
        s.inputHeld i (256 + a) = false → (s.evInput i).req = none → (t.evInput i).req = some s.evStamp)
      ∧ s.sameMemory t := by
  subst hw
  have hu : RunsAll (s.aonSet (s.evWave s.evStamp) (bitsOf w.toNat 0 8) true).1 (s.aonFired (bitsOf w.toNat 0 8)) :=
    .evRun (.refl _ _)
  have hafter : RunsAll (s.aonFired (bitsOf w.toNat 0 8)) (s.fireAon (bitsOf w.toNat 0 8)) := by
    rw [fireAon_eq hen hlow]
    exact .evSettle (.evRun ((RunsFabric.refl _ _).aonSet ha id))
  refine ⟨_, congrArg Host.Outcome.next (if_pos ha), fun i sense hi hup hcfg hsense hheld hreq => ?_, ?_⟩
  · exact (((aonSet_delivers (w := s.evWave s.evStamp) ⟨hup, by omega, hcfg, hsense, hheld, hreq⟩ ha hlow rfl).later
      hu).later hafter).2
  · exact ((((RunsFabric.refl (fun _ => False) s).aonSet ha id).trans hu).trans hafter).sameMemory

/-! ## A level from outside -/

/-- The list of the producers that stand high, once one of them has changed. -/
theorem contains_high (l : List Nat) (code : Nat) (lv : Bool) :
    (if lv then code :: l else l.filter (· != code)).contains code = lv := by
  cases lv with
  | true => simp
  | false => simp

theorem completes_eventEdge {s : State} {code : Nat} {level : Bool} (hext : externalProducer code = true)
    (hheld : s.prodHeld code = false) (hown : 0x60 < code ∨ s.padDriven (code - 1) = none)
    (hnow : s.evf.high.contains code = (!level)) :
    Completes (.eventEdge code level) s fun t =>
      t.evf.high.contains code = level ∧ t.evf.groups = s.evf.groups
      ∧ (∀ m i sense, m < 256 → i < 32 → s.comUp = true → bitAt (s.chCfg m) 31 = true → bitsOf (s.chCfg m) 0 10 = code →
          s.prodGated code = false → bitAt s.evf.main m = (!level) → s.chPass m = true → bitAt s.evf.out m = (!level) →
          s.evInputCfg i = (true, sense, m) → sensePasses sense level = true → s.inputHeld i m = false →
          (s.evInput i).req = none → (t.evInput i).req = some s.evStamp)
      ∧ s.sameMemory t := by
  have hcode : code ≠ 0 := by
    rintro rfl
    cases hext
  have htaken : (externalProducer code && !(decide (code ≤ 0x60) && (s.padDriven (code - 1)).isSome)) = true := by
    rcases hown with h | h
    · simp [hext, show ¬ code ≤ 0x60 by omega]
    · simp [hext, h]
  have hlevel : ∃ u : State, u = s.setEvf { s.evf with high := if level then code :: s.evf.high else s.evf.high.filter (· != code) }
      ∧ s.evLevel code level = u.evLevelAt code level s.evStamp := by
    refine ⟨_, rfl, ?_⟩
    unfold State.evLevel
    rw [if_neg (by rw [hnow]; cases level <;> decide)]
    have hheld' (e : EvfState) : (s.setEvf e).prodHeld code = s.prodHeld code := rfl
    exact if_neg (by rw [hheld', hheld]; decide)
  obtain ⟨u, hu, heq⟩ := hlevel
  have hruns : RunsAll u (u.evLevelAt code level s.evStamp) := .evLevelAt (.refl _ u)
  have hframe : FabricFrame s u := hu ▸ ⟨fun _ _ => rfl, rfl⟩
  refine ⟨_, congrArg Host.Outcome.next (if_pos htaken), ?_⟩
  rw [heq]
  refine ⟨?_, ?_, ?_, ?_⟩
  · rw [hruns.high, hu]
    exact contains_high ..
  · rw [hruns.groups, hu]
    rfl
  · intro m i sense hm hi hup hen hprod hgated hmain hpass hout hcfg hsense hfree hreq
    subst hu
    have hlisten : Listens s m i sense level := ⟨hup, by omega, hcfg, hsense, hfree, hreq⟩
    exact (evLevelAt_delivers ⟨hm, hlisten.frame hframe rfl, hmain, hpass, hout⟩ hen hprod hcode hgated _).2
  · intro b
    rw [hruns.sameMemory b, hu]
    rfl

/-! ## Groups -/

/-- What a change of group `g` to `lv` keeps. -/
structure GroupSet (g : Nat) (lv : Bool) (s t : State) : Prop where
  bits : ∀ h, bitAt t.evf.groups h = if h = g then lv else bitAt s.evf.groups h
  memory : s.sameMemory t
  tie : t.regN A.evfGrptie = s.regN A.evfGrptie
  flagged : s.flag F.evfFlagsGrptie = true → t.flag F.evfFlagsGrptie = true

/-- A group that moves: all that follows is a run of the fabric. -/
theorem setGroup_runs {s : State} {g : Nat} {lv : Bool} (h : bitAt s.evf.groups g ≠ lv) :
    RunsAll (s.setEvf { s.evf with groups := putBit s.evf.groups g lv }) (s.setGroup g lv) := by
  unfold State.setGroup
  rw [if_neg (by rwa [beq_iff_eq])]
  dsimp only
  generalize s.setEvf _ = u
  generalize hF : @List.foldl (State × EvWork) Nat = F
  generalize e : F _ _ _ = o
  obtain ⟨t, k⟩ := o
  refine .evSettle (.evRun (.of_foldl hF e (.refl _ u) fun p m hm hp => ?_))
  split
  · dsimp only
    exact hp.outSet (List.mem_range.1 hm) id
  · exact hp

theorem setGroup_same {s : State} {g : Nat} {lv : Bool} (h : bitAt s.evf.groups g = lv) : s.setGroup g lv = s :=
  if_pos (beq_iff_eq.2 h)

theorem setGroup_sets (s : State) (g : Nat) (lv : Bool) : GroupSet g lv s (s.setGroup g lv) := by
  by_cases heq : bitAt s.evf.groups g = lv
  · rw [setGroup_same heq]
    refine ⟨fun h => ?_, fun _ => rfl, rfl, id⟩
    split
    next e => rw [e, heq]
    next => rfl
  · have hruns := setGroup_runs heq
    refine ⟨fun h => ?_, hruns.sameMemory, hruns.regN (by decide), hruns.flagged rfl (by decide) rfl⟩
    rw [hruns.groups]
    exact bitAt_putBit ..

/-- A group that both an opening and a closing edge have reached is counted and closed; else the one that came moves it
(R526). -/
structure GroupSettled (g : Nat) (s t : State) : Prop where
  memory : s.sameMemory t
  others : ∀ h, h ≠ g → bitAt t.evf.groups h = bitAt s.evf.groups h
  closed : bitAt s.evf.closing g = true → bitAt t.evf.groups g = false
  opened : bitAt s.evf.closing g = false → bitAt s.evf.opening g = true → bitAt t.evf.groups g = true
  tie : bitAt s.evf.closing g = true → bitAt s.evf.opening g = true →
    t.regN A.evfGrptie = (s.regN A.evfGrptie + 1) % 2 ^ 32 ∧ t.flag F.evfFlagsGrptie = true

theorem settleGroup_settles (s : State) (g : Nat) : GroupSettled g s (s.settleGroup g) := by
  unfold State.settleGroup
  extract_lets o c _ u v
  have hv : v.evf.groups = s.evf.groups ∧ s.sameMemory v := by
    unfold v
    split
    · exact ⟨rfl, fun _ => rfl⟩
    · exact ⟨rfl, fun _ => rfl⟩
  obtain ⟨hgroups, hmem⟩ := hv
  have hne (lv : Bool) (h : Nat) (hg : h ≠ g) : bitAt (v.setGroup g lv).evf.groups h = bitAt s.evf.groups h := by
    rw [(setGroup_sets v g lv).bits, if_neg hg, hgroups]
  have hself (lv : Bool) : bitAt (v.setGroup g lv).evf.groups g = lv := by
    rw [(setGroup_sets v g lv).bits, if_pos rfl]
  have hbytes (lv : Bool) : s.sameMemory (v.setGroup g lv) := fun b => ((setGroup_sets v g lv).memory b).trans (hmem b)
  cases hc : c with
  | true =>
    refine ⟨hbytes false, hne false, fun _ => hself false, fun h => (Bool.false_ne_true (h.symm.trans hc)).elim, fun _ ho => ?_⟩
    have htie : v = (u.count A.evfGrptie).raise F.evfFlagsGrptie := if_pos (by rw [hc, show o = true from ho]; rfl)
    rw [if_pos rfl]
    refine ⟨?_, (setGroup_sets v g false).flagged ?_⟩
    · rw [(setGroup_sets v g false).tie, htie]
      exact (regN_raise_ne _ (by decide)).trans (regN_count_self ..)
    · rw [htie]
      exact flag_raise_at ..
  | false =>
    have habsurd {p : Prop} : bitAt s.evf.closing g = true → p := fun h => (Bool.false_ne_true (hc.symm.trans h)).elim
    cases ho : o with
    | true => exact ⟨hbytes true, hne true, habsurd, fun _ _ => hself true, habsurd⟩
    | false =>
      exact ⟨hmem, fun h _ => congrArg (bitAt · h) hgroups, habsurd,
        fun _ h => (Bool.false_ne_true (ho.symm.trans h)).elim, habsurd⟩

/-- A write to GRPSET or GRPCLR reaches one group. -/
def State.writeGroup (s : State) (open_ : Bool) (g : Nat) : State :=
  (if open_ then s.setEvf { s.evf with opening := putBit s.evf.opening g true }
   else s.setEvf { s.evf with closing := putBit s.evf.closing g true }).settleGroup g

theorem writeGroups_eq (s : State) (open_ : Bool) (w : Word) :
    s.writeGroups open_ w = ((List.range 16).filter (fun g => bitAt w.toNat g)).foldl (fun s g => s.writeGroup open_ g) s := by
  rw [List.foldl_filter]
  rfl

theorem bitAt_putBit_self (x : Nat) (b : Bool) (g : Nat) : bitAt (putBit x g b) g = b := by
  rw [bitAt_putBit, if_pos rfl]

theorem writeGroup_open {s : State} {g : Nat} (h : bitAt s.evf.closing g = false) :
    bitAt (s.writeGroup true g).evf.groups g = true
    ∧ (∀ k, k ≠ g → bitAt (s.writeGroup true g).evf.groups k = bitAt s.evf.groups k) ∧ s.sameMemory (s.writeGroup true g) := by
  have hset := settleGroup_settles (s.setEvf { s.evf with opening := putBit s.evf.opening g true }) g
  exact ⟨hset.opened h (bitAt_putBit_self ..), hset.others, hset.memory⟩

theorem writeGroup_close (s : State) (g : Nat) :
    bitAt (s.writeGroup false g).evf.groups g = false
    ∧ (∀ k, k ≠ g → bitAt (s.writeGroup false g).evf.groups k = bitAt s.evf.groups k)
    ∧ s.sameMemory (s.writeGroup false g) := by
  have hset := settleGroup_settles (s.setEvf { s.evf with closing := putBit s.evf.closing g true }) g
  exact ⟨hset.closed (bitAt_putBit_self ..), hset.others, hset.memory⟩

theorem foldl_writeGroup_close (l : List Nat) (s : State) :
    (∀ g, bitAt (l.foldl (fun s g => s.writeGroup false g) s).evf.groups g = (bitAt s.evf.groups g && decide (g ∉ l)))
    ∧ s.sameMemory (l.foldl (fun s g => s.writeGroup false g) s) := by
  induction l generalizing s with
  | nil => exact ⟨fun g => by simp, fun _ => rfl⟩
  | cons a l ih =>
    obtain ⟨hbits, hmem⟩ := ih (s.writeGroup false a)
    obtain ⟨hself, hne, hmem'⟩ := writeGroup_close s a
    refine ⟨fun g => (hbits g).trans ?_, fun b => (hmem b).trans (hmem' b)⟩
    by_cases hg : g = a
    · subst hg
      simp [hself]
    · rw [hne g hg]
      simp [hg]

theorem filter_bitAt_two_pow : ∀ g < 16, (List.range 16).filter (fun k => bitAt (2 ^ g) k) = [g] := by decide

theorem completes_grpset {s : State} {w : Word} {g : Nat} (hup : s.comUp = true) (hg : g < 16) (hw : w.toNat = 2 ^ g)
    (hclosing : bitAt s.evf.closing g = false) :
    Completes (.grpset false w) s fun t =>
      bitAt t.evf.groups g = true ∧ (∀ h, h < 16 → h ≠ g → bitAt t.evf.groups h = bitAt s.evf.groups h) ∧ s.sameMemory t := by
  obtain ⟨hself, hne, hmem⟩ := writeGroup_open hclosing
  have heq : s.writeGroups true w = s.writeGroup true g := by
    rw [writeGroups_eq, hw, filter_bitAt_two_pow g hg]
    rfl
  refine ⟨_, congrArg Host.Outcome.next (if_pos hup), ?_⟩
  rw [heq]
  exact ⟨hself, fun h _ => hne h, hmem⟩

theorem completes_grpclr {s : State} {w : Word} (hup : s.comUp = true) :
    Completes (.grpclr false w) s fun t =>
      (∀ g, g < 16 → bitAt t.evf.groups g = (bitAt s.evf.groups g && !bitAt w.toNat g)) ∧ s.sameMemory t := by
  refine ⟨_, congrArg Host.Outcome.next (if_pos hup), ?_⟩
  rw [writeGroups_eq]
  obtain ⟨hbits, hmem⟩ := foldl_writeGroup_close ((List.range 16).filter (fun g => bitAt w.toNat g)) s
  refine ⟨fun g hg => (hbits g).trans ?_, hmem⟩
  cases hbit : bitAt w.toNat g <;> simp [hbit, hg]

theorem completes_groupEdge {s : State} {g : Nat} (hg : g < 16) :
    Completes (.groupEdge g) s (GroupSettled g s) := ⟨_, congrArg Host.Outcome.next (if_pos hg), settleGroup_settles s g⟩

/-- Settles O44: an edge runs through a main channel's gate to the consumer inputs in one pass over the channels, and
everything that runs on from there keeps the request it has set. -/
theorem eventFabric : Obligations.EventFabric := by
  unfold Obligations.EventFabric
  intro s
  refine ⟨fun code level => completes_eventEdge, fun hup => ⟨fun w m hm => ⟨?_, completes_fire hm hup⟩,
    fun j w hj => completes_firem hup hj, fun w => ⟨fun g hg => completes_grpset hup hg, completes_grpclr hup⟩⟩,
    fun w a ha h64 => ⟨completes_aonfire_lost ha h64, completes_aonfire ha h64⟩, fun g hg => ⟨fun ho hc => ?_, fun hc => ?_⟩⟩
  · subst hm
    exact completes_fire_lost hup
  · exact (completes_groupEdge hg).mono fun t h => ⟨h.opened hc ho, fun k _ => h.others k, h.memory⟩
  · exact (completes_groupEdge hg).mono fun t h => ⟨h.closed hc, fun k _ => h.others k, h.tie hc, h.memory⟩

end Sys2Proof.Machine
end

section
/-!
The time base (R536-R550): captures of TMB, compare channels and their stagger, capture channels and pulse measurement.
-/

namespace Sys2Proof.Machine

/-! ## Pairs of registers -/

section
variable {lo hi : Nat}

theorem pair_setPair (s : State) (n : Nat) (h : lo ≠ hi) : (s.setPair lo hi n).pair lo hi = n % 2 ^ 64 := by
  unfold State.pair State.setPair
  rw [State.regN_setRegN_ne _ _ h, State.regN_setRegN_self, State.regN_setRegN_self]
  omega

theorem regN_setPair_ne (s : State) (n : Nat) {a : Nat} (hl : a ≠ lo) (hh : a ≠ hi) : (s.setPair lo hi n).regN a = s.regN a := by
  unfold State.setPair
  rw [State.regN_setRegN_ne _ _ hh, State.regN_setRegN_ne _ _ hl]

theorem flag_setPair_ne (s : State) (n : Nat) {f : Fld} (hl : f.addr ≠ lo) (hh : f.addr ≠ hi) :
    (s.setPair lo hi n).flag f = s.flag f := by
  unfold State.flag State.fld
  rw [regN_setPair_ne s n hl hh]

theorem WritesOnly.setPair {l : List Nat} {s t : State} (h : WritesOnly l s t) {n : Nat} (hl : lo ∈ l) (hh : hi ∈ l) :
    WritesOnly l s (t.setPair lo hi n) := (h.setRegN hl).setRegN hh

end

theorem flag_setFld_b2n (s : State) {a i : Nat} (b : Bool) (h : i < 32 := by decide) :
    (s.setFld ⟨a, i, 1⟩ (b2n b)).flag ⟨a, i, 1⟩ = b := by
  unfold State.flag
  rw [State.fld_setFld_self _ _ _ (show i + 1 ≤ 32 from h)]
  cases b <;> rfl

theorem bit_eq_of_regN {s t : State} {a i : Nat} (h : t.regN a = s.regN a) : t.bit a i = s.bit a i := congrArg (bitAt · i) h

theorem flag_eq_of_regN {s t : State} {f : Fld} (h : t.regN f.addr = s.regN f.addr) : t.flag f = s.flag f := by
  rw [State.flag, State.fld, h, State.flag, State.fld]

/-! ## The time itself (R537, R538) -/

theorem completes_tmbCapture {s : State} {w : Word} (hup : s.comUp = true) (hw : bitAt w.toNat 0 = true) :
    Completes (.tmbCapture false w) s fun t =>
      t.pair A.tmbNow0 A.tmbNow1 = s.tb.now % 2 ^ 64 ∧ t.tb = s.tb
      ∧ s.sameRegsBut t [A.tmbNow0, A.tmbNow1] ∧ s.sameMemory t := by
  have hcond : (s.comUp && bitAt w.toNat 0) = true := by simp [hup, hw]
  have hwrites : WritesOnly [A.tmbNow0, A.tmbNow1] s (s.setPair A.tmbNow0 A.tmbNow1 s.tb.now) :=
    (WritesOnly.refl _ s).setPair (.head _) (.tail _ (.head _))
  exact ⟨_, congrArg Host.Outcome.next (if_pos hcond), pair_setPair _ _ (by decide), hwrites.tb, hwrites.regs, hwrites.sameMemory⟩

theorem completes_tmbStop {s : State} (hrun : s.tb.run ≠ .stopped) (hoff : s.comUp = false) :
    Completes .tmbStop s fun t =>
      t.tb.run = .stopped ∧ t.tb.lfCycles = 0 ∧ t.tb.now = s.tb.now ∧ s.sameRegsBut t [] ∧ s.sameMemory t := by
  have hcond : (s.tb.run != .stopped && (!s.comUp || s.pw.boot == .startup || s.pw.boot == .held)) = true := by
    simp [hrun, hoff]
  exact ⟨_, congrArg Host.Outcome.next (if_pos hcond), rfl, rfl, rfl, fun _ _ => rfl, fun _ => rfl⟩

theorem completes_tmbResume {s : State} (hrun : s.tb.run = .lf) (hxref : s.flag F.pmuStatXrefrdy = true) :
    Completes .tmbResume s fun t =>
      t.tb.run = .ref ∧ t.tb.frac = 0 ∧ t.tb.now = s.tb.now ∧ t.flag F.tmbStatLf = false
      ∧ s.sameRegsBut t [A.tmbStat] ∧ s.sameMemory t := by
  have hcond : (s.tb.run == .lf && s.flag F.pmuStatXrefrdy) = true := by simp [hrun, hxref]
  refine ⟨_, congrArg Host.Outcome.next (if_pos hcond), rfl, rfl, rfl, flag_lower_at .., fun a ha => ?_, fun _ => rfl⟩
  exact State.reg_setRegN_ne _ _ (List.ne_of_not_mem_cons ha)

/-! ## Compare channels (R539-R542) -/

/-- What a match shows in the registers, before CMP moves or EN falls (R539, R540). -/
def State.matchShown (s : State) (n : Nat) (late : Bool) (skip : Nat) : State :=
  let s := (s.cmpFlag n).count (A.tmbCtr 0)
  let s := if late then s.count (A.tmbCtr 1) else s
  let s := s.countBy (A.tmbCtr 2) skip
  (s.setFld (F.tmbCmpctlLate n) (b2n late)).setFld (F.tmbCmpctlSkip n) (min skip 255)

/-- A match outside a swap window (R539). -/
theorem matchCmp_eq {s : State} {n : Nat} (h : s.cmpHeld = false) :
    s.matchCmp n =
      (if s.flag (F.tmbCmpctlAuto n) && s.regN (A.tmbCmpint n) != 0 then
        ((s.evPulse (0x080 + n)).matchShown n (decide (s.cmp n < s.tb.now))
          (periodsPassed s.tb.now (s.cmp n) (s.regN (A.tmbCmpint n)))).setCmp n
            (s.cmp n + s.regN (A.tmbCmpint n) * (1 + periodsPassed s.tb.now (s.cmp n) (s.regN (A.tmbCmpint n))))
      else ((s.evPulse (0x080 + n)).matchShown n (decide (s.cmp n < s.tb.now)) 0).lower (F.tmbCmpctlEn n)) := by
  unfold State.matchCmp State.matchShown
  rw [if_neg (by rw [h]; exact Bool.false_ne_true)]
  cases s.flag (F.tmbCmpctlAuto n) && s.regN (A.tmbCmpint n) != 0 <;> simp

/-- The registers that a match shows itself in. -/
abbrev matchRegs (n : Nat) : List Nat := [A.tmbCmpctl n, A.tmbCmpflag (n / 32), A.tmbCtr 0, A.tmbCtr 1, A.tmbCtr 2]

theorem writesOnly_cmpFlag (s : State) (n : Nat) {l : List Nat} (hctl : A.tmbCmpctl n ∈ l) (hflag : A.tmbCmpflag (n / 32) ∈ l) :
    WritesOnly l s (s.cmpFlag n) := by
  unfold State.cmpFlag
  exact .setBit (.ite ((WritesOnly.refl _ s).raise hctl) (.refl _ s)) hflag

theorem writesOnly_matchShown (s : State) (n : Nat) (late : Bool) (skip : Nat) :
    WritesOnly (matchRegs n) s (s.matchShown n late skip) := by
  have h0 := (writesOnly_cmpFlag s n (l := matchRegs n) (by simp) (by simp)).count (a := A.tmbCtr 0) (by simp)
  unfold State.matchShown
  exact ((WritesOnly.setRegN (.ite (h0.count (by simp)) h0) (by simp)).setFld (.head _)).setFld (.head _)

section
variable {n : Nat} (hn : n < 96)
include hn

theorem cmpflag_ne_ctr {i : Nat} : A.tmbCmpflag (n / 32) ≠ A.tmbCtr i := by
  unfold A.tmbCmpflag A.tmbCtr
  omega

theorem cmpflag_ne_cmpctl {m : Nat} : A.tmbCmpflag (n / 32) ≠ A.tmbCmpctl m := by
  unfold A.tmbCmpflag A.tmbCmpctl
  omega

theorem cmpFlagged_of_matchShown (s : State) (late : Bool) (skip : Nat) : (s.matchShown n late skip).cmpFlagged n = true := by
  have hset : (s.cmpFlag n).cmpFlagged n = true := bit_setBit_self _ _ (Nat.mod_lt _ (by decide))
  unfold State.matchShown
  extract_lets u v w
  have hu : u.cmpFlagged n = true := (bit_eq_of_regN (regN_count_ne _ (cmpflag_ne_ctr hn))).trans hset
  have hv : v.cmpFlagged n = true := by
    unfold v
    split
    · exact (bit_eq_of_regN (regN_count_ne u (cmpflag_ne_ctr hn))).trans hu
    · exact hu
  have hw : w.cmpFlagged n = true := (bit_eq_of_regN (State.regN_setRegN_ne v _ (cmpflag_ne_ctr hn))).trans hv
  have hlate : (w.setFld (F.tmbCmpctlLate n) (b2n late)).cmpFlagged n = true :=
    (bit_eq_of_regN (regN_setFld_ne w _ (cmpflag_ne_cmpctl hn))).trans hw
  exact (bit_eq_of_regN (regN_setFld_ne _ _ (cmpflag_ne_cmpctl hn))).trans hlate

end

/-- A match is counted (R539). -/
theorem matches_of_matchShown (s : State) {n : Nat} (hn : n < 96) (late : Bool) (skip : Nat) :
    (s.matchShown n late skip).regN (A.tmbCtr 0) = (s.regN (A.tmbCtr 0) + 1) % 2 ^ 32 := by
  have hctl : A.tmbCtr 0 ≠ A.tmbCmpctl n := by unfold A.tmbCmpctl A.tmbCtr; omega
  have hflag : A.tmbCtr 0 ∉ [A.tmbCmpctl n, A.tmbCmpflag (n / 32)] := by
    simp [hctl, (cmpflag_ne_ctr hn).symm]
  have hkept : (s.cmpFlag n).regN (A.tmbCtr 0) = s.regN (A.tmbCtr 0) :=
    congrArg BitVec.toNat ((writesOnly_cmpFlag s n (.head _) (.tail _ (.head _))).regs _ hflag)
  unfold State.matchShown
  extract_lets u v w
  have hu : u.regN (A.tmbCtr 0) = (s.regN (A.tmbCtr 0) + 1) % 2 ^ 32 := by
    rw [← hkept]
    exact regN_count_self ..
  have hv : v.regN (A.tmbCtr 0) = u.regN (A.tmbCtr 0) := by
    unfold v
    split
    · exact regN_count_ne u (by decide)
    · rfl
  rw [regN_setFld_ne _ _ hctl, regN_setFld_ne _ _ hctl, ← hu, ← hv]
  exact State.regN_setRegN_ne v _ (by decide)

theorem late_of_matchShown (s : State) (n : Nat) (late : Bool) (skip : Nat) :
    (s.matchShown n late skip).flag (F.tmbCmpctlLate n) = late := by
  unfold State.matchShown
  extract_lets u v w
  exact (flag_setFld_beside _ _).trans (flag_setFld_b2n w late)

/-- EN and AUTO stand after a match. -/
theorem enable_of_matchShown (s : State) {n : Nat} (hn : n < 96) (late : Bool) (skip : Nat) :
    (s.matchShown n late skip).flag (F.tmbCmpctlEn n) = s.flag (F.tmbCmpctlEn n) := by
  have hctr (i : Nat) (hi : i < 3) : A.tmbCmpctl n ≠ A.tmbCtr i := by unfold A.tmbCmpctl A.tmbCtr; omega
  have hkept : (s.cmpFlag n).flag (F.tmbCmpctlEn n) = s.flag (F.tmbCmpctlEn n) := by
    unfold State.cmpFlag
    extract_lets u
    have hu : u.flag (F.tmbCmpctlEn n) = s.flag (F.tmbCmpctlEn n) := by
      unfold u
      split
      · exact flag_setFld_beside (i := 2) (w := 1) (j := 31) s 1
      · rfl
    exact (flag_eq_of_regN (State.regN_setRegN_ne u _ (cmpflag_ne_cmpctl hn).symm)).trans hu
  unfold State.matchShown
  extract_lets u v w
  have hv : v.flag (F.tmbCmpctlEn n) = s.flag (F.tmbCmpctlEn n) := by
    have hu : u.flag (F.tmbCmpctlEn n) = s.flag (F.tmbCmpctlEn n) := (flag_count_ne _ (hctr 0 (by decide))).trans hkept
    unfold v
    split
    · exact (flag_count_ne u (hctr 1 (by decide))).trans hu
    · exact hu
  have hw : w.flag (F.tmbCmpctlEn n) = s.flag (F.tmbCmpctlEn n) :=
    (flag_eq_of_regN (State.regN_setRegN_ne v _ (hctr 2 (by decide)))).trans hv
  exact (flag_setFld_beside _ _).trans ((flag_setFld_beside w _).trans hw)

/-- What a match leaves of a channel's time: CMP is not among the registers it shows itself in. -/
theorem cmp_of_matchShown (s : State) {n : Nat} (hn : n < 96) (late : Bool) (skip : Nat) :
    (s.matchShown n late skip).cmp n = s.cmp n := by
  have hlo : A.tmbCmplo n ∉ matchRegs n := by
    simp only [List.mem_cons, List.not_mem_nil, or_false, A.tmbCmplo, A.tmbCmpctl, A.tmbCmpflag, A.tmbCtr]
    omega
  have hhi : A.tmbCmphi n ∉ matchRegs n := by
    simp only [List.mem_cons, List.not_mem_nil, or_false, A.tmbCmphi, A.tmbCmpctl, A.tmbCmpflag, A.tmbCtr]
    omega
  have hw := (writesOnly_matchShown s n late skip).regs
  unfold State.cmp State.pair State.regN
  rw [hw _ hlo, hw _ hhi]

theorem cmplo_ne_cmphi (n m : Nat) : A.tmbCmplo n ≠ A.tmbCmphi m := by
  unfold A.tmbCmplo A.tmbCmphi
  omega

theorem cmp_setCmp_self (s : State) (n v : Nat) : (s.setCmp n v).cmp n = wrap64 v :=
  (pair_setPair s _ (cmplo_ne_cmphi n n)).trans (Nat.mod_mod ..)

theorem regN_setCmp_ne (s : State) (n v : Nat) {a : Nat} (hl : a ≠ A.tmbCmplo n) (hh : a ≠ A.tmbCmphi n) :
    (s.setCmp n v).regN a = s.regN a := regN_setPair_ne s _ hl hh

theorem tb_setCmp (s : State) (n v : Nat) : (s.setCmp n v).tb = s.tb := rfl

theorem byte_setCmp (s : State) (n v b : Nat) : (s.setCmp n v).byte b = s.byte b := rfl

theorem tb_lower (s : State) (f : Fld) : (s.lower f).tb = s.tb := rfl

theorem byte_lower (s : State) (f : Fld) (b : Nat) : (s.lower f).byte b = s.byte b := rfl

/-- The state after a match's pulse, as far as the channel goes. -/
theorem evPulse_keeps_cmp (s : State) (code n : Nat) :
    (s.evPulse code).cmp n = s.cmp n ∧ (s.evPulse code).regN (A.tmbCtr 0) = s.regN (A.tmbCtr 0)
    ∧ (s.evPulse code).flag (F.tmbCmpctlEn n) = s.flag (F.tmbCmpctlEn n)
    ∧ (s.evPulse code).tb = s.tb ∧ s.sameMemory (s.evPulse code) := by
  have h : RunsAll s (s.evPulse code) := .evPulse (.refl _ s)
  have hfab {a : Nat} (ha : 0x40620000 ≤ a) : ¬ fabricReg a := by unfold fabricReg; omega
  refine ⟨?_, h.regN (hfab (by decide)), h.flag (hfab (Nat.le_trans (by decide) (Nat.le_add_right ..))), h.frame.tb, h.sameMemory⟩
  unfold State.cmp State.pair
  rw [h.regN (a := A.tmbCmplo n) (hfab (Nat.le_trans (by decide) (Nat.le_add_right ..))),
    h.regN (a := A.tmbCmphi n) (hfab (Nat.le_trans (by decide) (Nat.le_add_right ..)))]

theorem exec_compareMatch {s : State} {n : Nat} (hup : s.comUp = true) (hn : n < 96) (hrun : s.tb.run ≠ .stopped)
    (hen : s.flag (F.tmbCmpctlEn n) = true) (hdue : s.cmp n ≤ s.tb.now) :
    exec (.compareMatch n) s = .next (s.matchCmp n) := by
  have hcond : (decide (n < 96) && s.comUp && s.tb.run != .stopped && s.flag (F.tmbCmpctlEn n)
      && decide (s.cmp n ≤ s.tb.now)) = true := by
    simp [hn, hup, hrun, hen, hdue]
  exact congrArg Host.Outcome.next (if_pos hcond)

theorem completes_compareMatch_auto {s : State} {n : Nat} (hup : s.comUp = true) (hn : n < 96) (hrun : s.tb.run ≠ .stopped)
    (hen : s.flag (F.tmbCmpctlEn n) = true) (hdue : s.cmp n ≤ s.tb.now) (hheld : s.cmpHeld = false)
    (hauto : s.flag (F.tmbCmpctlAuto n) = true) (hint : s.regN (A.tmbCmpint n) ≠ 0) :
    Completes (.compareMatch n) s fun t =>
      t.cmp n = wrap64 (s.cmp n + s.regN (A.tmbCmpint n) * (1 + (s.tb.now - s.cmp n) / s.regN (A.tmbCmpint n)))
      ∧ t.flag (F.tmbCmpctlEn n) = true ∧ t.cmpFlagged n = true
      ∧ t.regN (A.tmbCtr 0) = (s.regN (A.tmbCtr 0) + 1) % 2 ^ 32
      ∧ t.flag (F.tmbCmpctlLate n) = decide (s.cmp n < s.tb.now) ∧ t.tb = s.tb ∧ s.sameMemory t := by
  refine ⟨_, exec_compareMatch hup hn hrun hen hdue, ?_⟩
  rw [matchCmp_eq hheld, if_pos (by simp [hauto, hint])]
  obtain ⟨-, hctr, henable, htb, hmem⟩ := evPulse_keeps_cmp s (0x080 + n) n
  generalize s.evPulse (0x080 + n) = u at hctr henable htb hmem ⊢
  have hw := writesOnly_matchShown u n (decide (s.cmp n < s.tb.now)) (periodsPassed s.tb.now (s.cmp n) (s.regN (A.tmbCmpint n)))
  have hctl (f : Fld) (v : State) (x : Nat) (hf : f.addr = A.tmbCmpctl n) : (v.setCmp n x).flag f = v.flag f := by
    refine flag_eq_of_regN (regN_setCmp_ne v n x ?_ ?_)
    · rw [hf]
      unfold A.tmbCmpctl A.tmbCmplo
      omega
    · rw [hf]
      unfold A.tmbCmpctl A.tmbCmphi
      omega
  refine ⟨cmp_setCmp_self .., ?_, ?_, ?_, ?_, ?_, ?_⟩
  · rw [hctl _ _ _ rfl, enable_of_matchShown _ hn, henable, hen]
  · exact (bit_eq_of_regN (regN_setCmp_ne _ _ _ (by unfold A.tmbCmpflag A.tmbCmplo; omega)
      (by unfold A.tmbCmpflag A.tmbCmphi; omega))).trans (cmpFlagged_of_matchShown hn ..)
  · rw [regN_setCmp_ne _ _ _ (by unfold A.tmbCtr A.tmbCmplo; omega) (by unfold A.tmbCtr A.tmbCmphi; omega),
      matches_of_matchShown _ hn, hctr]
  · rw [hctl _ _ _ rfl, late_of_matchShown]
  · rw [tb_setCmp, hw.tb, htb]
  · intro b
    rw [byte_setCmp, hw.sameMemory b, hmem b]

theorem completes_compareMatch_once {s : State} {n : Nat} (hup : s.comUp = true) (hn : n < 96) (hrun : s.tb.run ≠ .stopped)
    (hen : s.flag (F.tmbCmpctlEn n) = true) (hdue : s.cmp n ≤ s.tb.now) (hheld : s.cmpHeld = false)
    (hauto : s.flag (F.tmbCmpctlAuto n) = false) :
    Completes (.compareMatch n) s fun t =>
      t.flag (F.tmbCmpctlEn n) = false ∧ t.cmp n = s.cmp n ∧ t.cmpFlagged n = true
      ∧ t.regN (A.tmbCtr 0) = (s.regN (A.tmbCtr 0) + 1) % 2 ^ 32 ∧ t.tb = s.tb ∧ s.sameMemory t := by
  refine ⟨_, exec_compareMatch hup hn hrun hen hdue, ?_⟩
  rw [matchCmp_eq hheld, if_neg (by simp [hauto])]
  obtain ⟨hcmp, hctr, -, htb, hmem⟩ := evPulse_keeps_cmp s (0x080 + n) n
  generalize s.evPulse (0x080 + n) = u at hcmp hctr htb hmem ⊢
  have hw := writesOnly_matchShown u n (decide (s.cmp n < s.tb.now)) 0
  refine ⟨flag_lower_at .., ?_, ?_, ?_, by rw [tb_lower, hw.tb, htb], fun b => by rw [byte_lower, hw.sameMemory b, hmem b]⟩
  · have hne (v : State) : (v.lower (F.tmbCmpctlEn n)).cmp n = v.cmp n := by
      unfold State.cmp State.pair
      rw [regN_lower_ne v (by change A.tmbCmplo n ≠ A.tmbCmpctl n; unfold A.tmbCmplo A.tmbCmpctl; omega),
        regN_lower_ne v (by change A.tmbCmphi n ≠ A.tmbCmpctl n; unfold A.tmbCmphi A.tmbCmpctl; omega)]
    rw [hne, cmp_of_matchShown _ hn, hcmp]
  · exact (bit_eq_of_regN (regN_lower_ne _ (cmpflag_ne_cmpctl hn))).trans (cmpFlagged_of_matchShown hn ..)
  · rw [regN_lower_ne _ (by change A.tmbCtr 0 ≠ A.tmbCmpctl n; unfold A.tmbCtr A.tmbCmpctl; omega),
      matches_of_matchShown _ hn, hctr]

/-! ### Stagger (R542) -/

/-- One channel of a stagger takes its time, interval and control. -/
def State.staggerOne (s : State) (first int_ n j : Nat) : State :=
  ((s.setCmp (first + j) (s.pair A.tmbStagbase0 A.tmbStagbase1 + j * int_ / n)).setRegN (A.tmbCmpint (first + j)) int_).setRegN
    (A.tmbCmpctl (first + j)) 0xC0000000

/-- The first `k` channels of a stagger have been set, and no other register but theirs has changed. -/
structure Staggers (first int_ n k : Nat) (s t : State) : Prop where
  set : ∀ j < k, t.cmp (first + j) = wrap64 (s.pair A.tmbStagbase0 A.tmbStagbase1 + j * int_ / n)
    ∧ t.regN (A.tmbCmpint (first + j)) = int_ % 2 ^ 32 ∧ t.regN (A.tmbCmpctl (first + j)) = 0xC0000000
  kept : ∀ a, (∀ j < k, a < A.tmbCmplo (first + j) ∨ A.tmbCmpctl (first + j) < a) → t.regN a = s.regN a
  memory : s.sameMemory t

theorem regN_staggerOne_ne (s : State) {first int_ n j a : Nat} (h : a < A.tmbCmplo (first + j) ∨ A.tmbCmpctl (first + j) < a) :
    (s.staggerOne first int_ n j).regN a = s.regN a := by
  have haddr : a ≠ A.tmbCmpctl (first + j) ∧ a ≠ A.tmbCmpint (first + j) ∧ a ≠ A.tmbCmplo (first + j)
      ∧ a ≠ A.tmbCmphi (first + j) := by
    unfold A.tmbCmplo A.tmbCmpctl A.tmbCmpint A.tmbCmphi at *
    omega
  obtain ⟨hctl, hint, hlo, hhi⟩ := haddr
  unfold State.staggerOne
  rw [State.regN_setRegN_ne _ _ hctl, State.regN_setRegN_ne _ _ hint, regN_setCmp_ne _ _ _ hlo hhi]

theorem cmp_eq_of_regN {s t : State} {c : Nat} (hlo : t.regN (A.tmbCmplo c) = s.regN (A.tmbCmplo c))
    (hhi : t.regN (A.tmbCmphi c) = s.regN (A.tmbCmphi c)) : t.cmp c = s.cmp c := by
  unfold State.cmp State.pair
  rw [hlo, hhi]

theorem staggerOne_sets (s : State) (first int_ n j : Nat) :
    (s.staggerOne first int_ n j).cmp (first + j) = wrap64 (s.pair A.tmbStagbase0 A.tmbStagbase1 + j * int_ / n)
    ∧ (s.staggerOne first int_ n j).regN (A.tmbCmpint (first + j)) = int_ % 2 ^ 32
    ∧ (s.staggerOne first int_ n j).regN (A.tmbCmpctl (first + j)) = 0xC0000000 := by
  unfold State.staggerOne
  generalize first + j = c
  have haddr : A.tmbCmplo c ≠ A.tmbCmpctl c ∧ A.tmbCmplo c ≠ A.tmbCmpint c ∧ A.tmbCmphi c ≠ A.tmbCmpctl c
      ∧ A.tmbCmphi c ≠ A.tmbCmpint c ∧ A.tmbCmpint c ≠ A.tmbCmpctl c := by
    unfold A.tmbCmplo A.tmbCmpctl A.tmbCmpint A.tmbCmphi
    omega
  obtain ⟨hlc, hli, hhc, hhi, hic⟩ := haddr
  refine ⟨?_, ?_, State.regN_setRegN_self ..⟩
  · rw [← cmp_setCmp_self s c]
    exact cmp_eq_of_regN (by rw [State.regN_setRegN_ne _ _ hlc, State.regN_setRegN_ne _ _ hli])
      (by rw [State.regN_setRegN_ne _ _ hhc, State.regN_setRegN_ne _ _ hhi])
  · rw [State.regN_setRegN_ne _ _ hic, State.regN_setRegN_self]

theorem byte_staggerOne (s : State) (first int_ n j b : Nat) : (s.staggerOne first int_ n j).byte b = s.byte b := rfl

theorem staggers_range (s : State) (first int_ n k : Nat) :
    Staggers first int_ n k s ((List.range k).foldl (fun s j => s.staggerOne first int_ n j) s) := by
  induction k with
  | zero => exact ⟨fun j hj => absurd hj (Nat.not_lt_zero j), fun _ _ => rfl, fun _ => rfl⟩
  | succ k ih =>
    rw [List.range_succ, List.foldl_append]
    generalize (List.range k).foldl (fun s j => s.staggerOne first int_ n j) s = t at ih ⊢
    change Staggers first int_ n (k + 1) s (t.staggerOne first int_ n k)
    have hbase : t.pair A.tmbStagbase0 A.tmbStagbase1 = s.pair A.tmbStagbase0 A.tmbStagbase1 := by
      unfold State.pair
      rw [ih.kept A.tmbStagbase0 fun j _ => .inl (by unfold A.tmbStagbase0 A.tmbCmplo; omega),
        ih.kept A.tmbStagbase1 fun j _ => .inl (by unfold A.tmbStagbase1 A.tmbCmplo; omega)]
    refine ⟨fun j hj => ?_, fun a ha => ?_, fun b => (byte_staggerOne ..).trans (ih.memory b)⟩
    · rcases Nat.lt_succ_iff_lt_or_eq.1 hj with hlt | rfl
      · obtain ⟨hcmp, hint, hctl⟩ := ih.set j hlt
        have hne (a : Nat) (ha : a ≤ A.tmbCmpctl (first + j)) : (t.staggerOne first int_ n k).regN a = t.regN a :=
          regN_staggerOne_ne t (.inl (by unfold A.tmbCmpctl A.tmbCmplo at *; omega))
        refine ⟨(cmp_eq_of_regN (hne _ ?_) (hne _ ?_)).trans hcmp, (hne _ ?_).trans hint, (hne _ (Nat.le_refl _)).trans hctl⟩
        · unfold A.tmbCmplo A.tmbCmpctl; omega
        · unfold A.tmbCmphi A.tmbCmpctl; omega
        · unfold A.tmbCmpint A.tmbCmpctl; omega
      · rw [← hbase]
        exact staggerOne_sets t first int_ n j
    · exact (regN_staggerOne_ne t (ha k (Nat.lt_succ_self k))).trans (ih.kept a fun j hj => ha j (Nat.lt_succ_of_lt hj))

theorem exec_stagger {s : State} {w : Word} {first last int_ : Nat} (hf : bitsOf w.toNat 0 7 = first)
    (hl : bitsOf w.toNat 8 7 = last) (hi : s.regN A.tmbStagint = int_) (hup : s.comUp = true) (hgo : bitAt w.toNat 31 = true)
    (hle : first ≤ last) (hlast : last < 96) (hint : int_ ≠ 0) :
    exec (.stagger false w) s = .next ((List.range (last - first + 1)).foldl
      (fun s j => s.staggerOne first int_ (last - first + 1) j) s) := by
  subst hf hl hi
  have hcond : (s.comUp && bitAt w.toNat 31 && decide (bitsOf w.toNat 0 7 ≤ bitsOf w.toNat 8 7)
      && decide (bitsOf w.toNat 8 7 < 96) && s.regN A.tmbStagint != 0) = true := by
    simp [hup, hgo, hle, hlast, hint]
  exact congrArg Host.Outcome.next (if_pos hcond)

theorem flag_of_regN {t : State} {f : Fld} {n : Nat} (h : t.regN f.addr = n) : t.flag f = (bitsOf n f.lsb f.width != 0) := by
  rw [State.flag, State.fld, h]

/-- A stagger spreads its channels evenly over the interval and leaves the others (R542). -/
theorem completes_stagger {s : State} {w : Word} {first last int_ : Nat} (hf : bitsOf w.toNat 0 7 = first)
    (hl : bitsOf w.toNat 8 7 = last) (hi : s.regN A.tmbStagint = int_) (hup : s.comUp = true) (hgo : bitAt w.toNat 31 = true)
    (hle : first ≤ last) (hlast : last < 96) (hint : int_ ≠ 0) :
    Completes (.stagger false w) s fun t =>
      (∀ c, first ≤ c → c ≤ last →
        t.cmp c = wrap64 (s.pair A.tmbStagbase0 A.tmbStagbase1 + (c - first) * int_ / (last - first + 1))
        ∧ t.regN (A.tmbCmpint c) = int_ ∧ t.flag (F.tmbCmpctlEn c) = true ∧ t.flag (F.tmbCmpctlAuto c) = true)
      ∧ (∀ c, c < 96 → c < first ∨ last < c →
        t.cmp c = s.cmp c ∧ t.regN (A.tmbCmpint c) = s.regN (A.tmbCmpint c)
        ∧ t.regN (A.tmbCmpctl c) = s.regN (A.tmbCmpctl c)) ∧ s.sameMemory t := by
  refine ⟨_, exec_stagger hf hl hi hup hgo hle hlast hint, ?_⟩
  have hlt : int_ < 2 ^ 32 := hi ▸ BitVec.isLt _
  have h := staggers_range s first int_ (last - first + 1) (last - first + 1)
  generalize (List.range (last - first + 1)).foldl (fun s j => s.staggerOne first int_ (last - first + 1) j) s = t at h
  refine ⟨fun c hfc hcl => ?_, fun c _ hc => ?_, h.memory⟩
  · obtain ⟨j, rfl⟩ := Nat.exists_eq_add_of_le hfc
    obtain ⟨hcmp, hint, hctl⟩ := h.set j (by omega)
    rw [Nat.add_sub_cancel_left]
    exact ⟨hcmp, hint.trans (Nat.mod_eq_of_lt hlt), (flag_of_regN hctl).trans (show (bitsOf 0xC0000000 31 1 != 0) = true by decide),
      (flag_of_regN hctl).trans (show (bitsOf 0xC0000000 30 1 != 0) = true by decide)⟩
  · have hkept (a : Nat) (hlo : A.tmbCmplo c ≤ a) (hhi : a ≤ A.tmbCmpctl c) : t.regN a = s.regN a :=
      h.kept a fun j hj => by
        unfold A.tmbCmplo A.tmbCmpctl at *
        omega
    refine ⟨cmp_eq_of_regN (hkept _ (Nat.le_refl _) ?_) (hkept _ ?_ ?_), hkept _ ?_ ?_, hkept _ ?_ (Nat.le_refl _)⟩ <;>
      (simp only [A.tmbCmplo, A.tmbCmphi, A.tmbCmpint, A.tmbCmpctl]; omega)

/-! ### The halves of CMP (R541) -/

theorem completes_cmphiWrite {s : State} {n : Nat} (hup : s.comUp = true) (hn : n < 96) (w : Word) :
    Completes (.cmphiWrite false n w) s fun t =>
      t.cmp n = ((Sparse.find? s.tb.cmpStage n).getD (s.regN (A.tmbCmplo n)) + 2 ^ 32 * w.toNat) % 2 ^ 64
      ∧ Sparse.find? t.tb.cmpStage n = none ∧ t.tb.now = s.tb.now
      ∧ s.sameRegsBut t [A.tmbCmplo n, A.tmbCmphi n] ∧ s.sameMemory t := by
  have hcond : (s.comUp && decide (n < 96)) = true := by simp [hup, hn]
  refine ⟨_, congrArg Host.Outcome.next (if_pos hcond), pair_setPair s _ (cmplo_ne_cmphi n n), Sparse.find?_erase_self .., rfl,
    ?_, fun _ => rfl⟩
  exact ((WritesOnly.refl _ s).setPair (.head _) (.tail _ (.head _))).regs

theorem completes_cmploRead {s : State} {n : Nat} (hup : s.comUp = true) (hn : n < 96) :
    Completes (.cmploRead n) s fun t =>
      t.busData = s.reg (A.tmbCmplo n) ∧ t.busError = false
      ∧ Sparse.find? t.tb.cmpLatch n = some (s.regN (A.tmbCmphi n)) ∧ s.sameRegsBut t [] ∧ s.sameMemory t := by
  have hcond : (s.comUp && decide (n < 96)) = true := by simp [hup, hn]
  exact ⟨_, congrArg Host.Outcome.next (if_pos hcond), rfl, rfl, Sparse.find?_insert_self .., fun _ _ => rfl, fun _ => rfl⟩

/-! ## Captures (R543) -/

theorem flag_answerRead (s : State) (w : Word) (f : Fld) : (s.answerRead w).flag f = s.flag f := rfl

theorem regN_answerRead (s : State) (w : Word) (a : Nat) : (s.answerRead w).regN a = s.regN a := rfl

theorem pair_answerRead (s : State) (w : Word) (lo hi : Nat) : (s.answerRead w).pair lo hi = s.pair lo hi := rfl

theorem sameMemory_answerRead {s t : State} (h : s.sameMemory t) (w : Word) : s.sameMemory (t.answerRead w) := h

theorem sameRegsBut_answerRead {s t : State} {l : List Nat} (h : s.sameRegsBut t l) (w : Word) :
    s.sameRegsBut (t.answerRead w) l := h

/-- A capture channel's value is latched and its flags fall. -/
def State.capstatTaken (s : State) (c : Nat) : State :=
  ((s.setPair (A.tmbCaplo c) (A.tmbCaphi c) (s.capUnit c).val).lower (F.tmbCapstatValid c)).lower (F.tmbCapstatOvr c)

theorem writesOnly_capstatTaken (s : State) (c : Nat) :
    WritesOnly [A.tmbCapstat c, A.tmbCaplo c, A.tmbCaphi c] s (s.capstatTaken c) :=
  WritesOnly.lower (f := F.tmbCapstatOvr c) (WritesOnly.lower (f := F.tmbCapstatValid c)
    ((WritesOnly.refl _ s).setPair (by simp) (by simp)) (.head _)) (.head _)

theorem pair_capstatTaken (s : State) (c : Nat) :
    (s.capstatTaken c).pair (A.tmbCaplo c) (A.tmbCaphi c) = (s.capUnit c).val % 2 ^ 64 := by
  have haddr : A.tmbCaplo c ≠ A.tmbCapstat c ∧ A.tmbCaphi c ≠ A.tmbCapstat c ∧ A.tmbCaplo c ≠ A.tmbCaphi c := by
    unfold A.tmbCaplo A.tmbCaphi A.tmbCapstat
    omega
  obtain ⟨hlo, hhi, hne⟩ := haddr
  rw [← pair_setPair s (s.capUnit c).val hne]
  unfold State.capstatTaken State.pair
  rw [regN_lower_ne _ hlo, regN_lower_ne _ hlo, regN_lower_ne _ hhi, regN_lower_ne _ hhi]

theorem flags_capstatTaken (s : State) (c : Nat) :
    (s.capstatTaken c).flag (F.tmbCapstatValid c) = false ∧ (s.capstatTaken c).flag (F.tmbCapstatOvr c) = false := by
  unfold State.capstatTaken
  generalize s.setPair _ _ _ = u
  exact ⟨(flag_setFld_beside (i := 30) (w := 1) _ 0).trans (flag_lower_at ..), flag_lower_at ..⟩

theorem exec_capstatRead {s : State} {c : Nat} (hup : s.comUp = true) (hc : c < 32) :
    exec (.capstatRead c) s = .next ((s.capstatTaken c).answerRead (s.reg (A.tmbCapstat c))) := by
  change execCapstatRead c s = _
  unfold execCapstatRead
  rw [if_pos (by simp [hup, hc])]
  rfl

theorem completes_capstatRead {s : State} {c : Nat} (hup : s.comUp = true) (hc : c < 32) :
    Completes (.capstatRead c) s fun t =>
      t.busData = s.reg (A.tmbCapstat c) ∧ t.busError = false ∧ t.flag (F.tmbCapstatValid c) = false
      ∧ t.flag (F.tmbCapstatOvr c) = false ∧ t.pair (A.tmbCaplo c) (A.tmbCaphi c) = (s.capUnit c).val % 2 ^ 64
      ∧ s.sameRegsBut t [A.tmbCapstat c, A.tmbCaplo c, A.tmbCaphi c] ∧ s.sameMemory t := by
  have hexec := exec_capstatRead hup hc
  have hw := writesOnly_capstatTaken s c
  have hpair := pair_capstatTaken s c
  obtain ⟨hvalid, hovr⟩ := flags_capstatTaken s c
  generalize s.capstatTaken c = u at hexec hw hpair hvalid hovr
  exact ⟨_, hexec, rfl, rfl, (flag_answerRead ..).trans hvalid, (flag_answerRead ..).trans hovr, (pair_answerRead ..).trans hpair,
    sameRegsBut_answerRead hw.regs _, sameMemory_answerRead hw.sameMemory _⟩

/-- An event that a capture channel accepts (R543). -/
structure Captured (c : Nat) (x : EvLatch) (s t : State) : Prop where
  unit : t.capUnit c = { val := x.tick, lf := x.lf }
  valid : t.flag (F.tmbCapstatValid c) = true
  counted : t.regN (A.tmbCtr 3) = (s.regN (A.tmbCtr 3) + 1) % 2 ^ 32
  overrun : s.flag (F.tmbCapstatValid c) = true → t.flag (F.tmbCapstatOvr c) = true
  evf : t.evf = s.evf
  memory : s.sameMemory t

/-- The count and the overrun of a capture, before its value is taken. -/
def State.captureCounted (s : State) (c : Nat) : State :=
  let s := s.count (A.tmbCtr 3)
  if s.flag (F.tmbCapstatValid c) then (s.raise (F.tmbCapstatOvr c)).count (A.tmbCtr 4) else s

theorem writesOnly_captureCounted (s : State) (c : Nat) :
    WritesOnly [A.tmbCtr 3, A.tmbCtr 4, A.tmbCapstat c] s (s.captureCounted c) := by
  have h := (WritesOnly.refl [A.tmbCtr 3, A.tmbCtr 4, A.tmbCapstat c] s).count (a := A.tmbCtr 3) (by simp)
  unfold State.captureCounted
  exact .ite ((h.raise (.tail _ (.tail _ (.head _)))).count (by simp)) h

theorem capstat_ne (c : Nat) : A.tmbCapstat c ≠ A.tmbCtr 3 ∧ A.tmbCapstat c ≠ A.tmbCtr 4 ∧ A.tmbCapstat c ≠ A.tmbCapflag := by
  unfold A.tmbCapstat A.tmbCtr A.tmbCapflag
  omega

theorem regN_captureCounted (s : State) (c : Nat) :
    (s.captureCounted c).regN (A.tmbCtr 3) = (s.regN (A.tmbCtr 3) + 1) % 2 ^ 32 := by
  obtain ⟨h3, -, -⟩ := capstat_ne c
  unfold State.captureCounted
  extract_lets u
  have hu : u.regN (A.tmbCtr 3) = (s.regN (A.tmbCtr 3) + 1) % 2 ^ 32 := regN_count_self ..
  split
  · rw [regN_count_ne _ (by decide), regN_raise_ne u h3.symm, hu]
  · exact hu

theorem ovr_captureCounted {s : State} {c : Nat} (h : s.flag (F.tmbCapstatValid c) = true) :
    (s.captureCounted c).flag (F.tmbCapstatOvr c) = true := by
  obtain ⟨h3, h4, -⟩ := capstat_ne c
  unfold State.captureCounted
  extract_lets u
  have hu : u.flag (F.tmbCapstatValid c) = true := (flag_count_ne s h3).trans h
  rw [if_pos hu]
  exact (flag_count_ne _ h4).trans (flag_raise_at ..)

/-- The value of an event that a capture channel takes. -/
def State.capTaken (s : State) (c : Nat) (x : EvLatch) : State :=
  s.setTb { s.tb with caps := Sparse.insert s.tb.caps c { val := x.tick, lf := x.lf } }

/-- The flags of an event that a capture channel has taken. -/
def State.capShown (s : State) (c : Nat) (lf : Bool) : State :=
  ((s.raise (F.tmbCapstatValid c)).setFld (F.tmbCapstatLfres c) (b2n lf)).setBit A.tmbCapflag c

theorem capture_eq (s : State) (c : Nat) (x : EvLatch) :
    s.capture c x = ((s.captureCounted c).capTaken c x).capShown c x.lf := rfl

theorem writesOnly_capShown (s : State) (c : Nat) (lf : Bool) :
    WritesOnly [A.tmbCapstat c, A.tmbCapflag] s (s.capShown c lf) :=
  .setBit (.setFld (f := F.tmbCapstatLfres c) (.raise (f := F.tmbCapstatValid c) (.refl _ s) (.head _)) (.head _))
    (.tail _ (.head _))

theorem flag_capShown (s : State) (c : Nat) (lf : Bool) {f : Fld} (hf : f.addr = A.tmbCapstat c) :
    (s.capShown c lf).flag f = ((s.raise (F.tmbCapstatValid c)).setFld (F.tmbCapstatLfres c) (b2n lf)).flag f :=
  flag_eq_of_regN (State.regN_setRegN_ne _ _ (by rw [hf]; exact (capstat_ne c).2.2))

theorem capUnit_capTaken (s : State) (c : Nat) (x : EvLatch) : (s.capTaken c x).capUnit c = { val := x.tick, lf := x.lf } := by
  simp [State.capTaken, State.capUnit, State.setTb, Sparse.find?_insert_self]

theorem regN_capTaken (s : State) (c : Nat) (x : EvLatch) (a : Nat) : (s.capTaken c x).regN a = s.regN a := rfl

theorem flag_capTaken (s : State) (c : Nat) (x : EvLatch) (f : Fld) : (s.capTaken c x).flag f = s.flag f := rfl

theorem evf_capTaken (s : State) (c : Nat) (x : EvLatch) : (s.capTaken c x).evf = s.evf := rfl

theorem byte_capTaken (s : State) (c : Nat) (x : EvLatch) (a : Nat) : (s.capTaken c x).byte a = s.byte a := rfl

theorem capture_captures (s : State) (c : Nat) (x : EvLatch) : Captured c x s (s.capture c x) := by
  rw [capture_eq]
  have hcount := regN_captureCounted s c
  have hovr := ovr_captureCounted (s := s) (c := c)
  have hw := writesOnly_captureCounted s c
  generalize s.captureCounted c = v at hcount hovr hw ⊢
  have hshown := writesOnly_capShown (v.capTaken c x) c x.lf
  have hctr : A.tmbCtr 3 ∉ [A.tmbCapstat c, A.tmbCapflag] := by
    simp only [List.mem_cons, List.not_mem_nil, or_false, not_or]
    exact ⟨(capstat_ne c).1.symm, by decide⟩
  refine ⟨?_, ?_, ?_, fun hs => ?_, ?_, fun b => ?_⟩
  · rw [← capUnit_capTaken v c x]
    unfold State.capUnit
    rw [hshown.tb]
  · rw [flag_capShown _ _ _ rfl]
    exact (flag_setFld_beside _ _).trans (flag_raise_at ..)
  · rw [← hcount, ← regN_capTaken v c x]
    exact congrArg BitVec.toNat (hshown.regs _ hctr)
  · rw [flag_capShown _ _ _ rfl]
    exact (flag_setFld_beside _ _).trans ((flag_setFld_beside _ 1).trans ((flag_capTaken ..).trans (hovr hs)))
  · rw [hshown.rest]
    have hevf : v.evf = s.evf := by rw [hw.rest]
    exact hevf
  · rw [hshown.sameMemory b, byte_capTaken, hw.sameMemory b]

/-- Taking the request of a consumer input moves its memory up (R530). -/
theorem evTake_eq {s : State} {i : Nat} {x : EvLatch} (h : (s.evInput i).req = some x) :
    s.evTake i = (some x, s.setEvInput i { req := (s.evInput i).mem, mem := none, due := s.tb.now + 2 }) := by
  unfold State.evTake
  extract_lets y
  rw [show y.req = some x from h]

theorem exec_consumerAccept {s : State} {i : Nat} (hi : i < 65) (hdue : s.evDue i = true) :
    exec (.consumerAccept i) s = .next (s.evAccept i) := by
  have hcond : (decide (i < 65) && s.evDue i) = true := by simp [hi, hdue]
  exact congrArg Host.Outcome.next (if_pos hcond)

theorem completes_consumerAccept_capture {s : State} {c : Nat} {x : EvLatch} (hc : c < 32) (hdue : s.evDue c = true)
    (hreq : (s.evInput c).req = some x) :
    Completes (.consumerAccept c) s fun t =>
      t.capUnit c = { val := x.tick, lf := x.lf } ∧ t.flag (F.tmbCapstatValid c) = true
      ∧ t.regN (A.tmbCtr 3) = (s.regN (A.tmbCtr 3) + 1) % 2 ^ 32
      ∧ (s.flag (F.tmbCapstatValid c) = true → t.flag (F.tmbCapstatOvr c) = true)
      ∧ (t.evInput c).req = (s.evInput c).mem ∧ (t.evInput c).mem = none ∧ s.sameMemory t := by
  refine ⟨_, exec_consumerAccept (by omega) hdue, ?_⟩
  have heq : s.evAccept c = (s.setEvInput c { req := (s.evInput c).mem, mem := none, due := s.tb.now + 2 }).capture c x := by
    unfold State.evAccept
    rw [if_pos hc, evTake_eq hreq]
  obtain ⟨y, hy⟩ : ∃ y : EvInput, y = { req := (s.evInput c).mem, mem := none, due := s.tb.now + 2 } := ⟨_, rfl⟩
  rw [heq, ← hy]
  have hmem : s.sameMemory (s.setEvInput c y) := fun _ => rfl
  have hctr : (s.setEvInput c y).regN (A.tmbCtr 3) = s.regN (A.tmbCtr 3) := rfl
  have hvalid : (s.setEvInput c y).flag (F.tmbCapstatValid c) = s.flag (F.tmbCapstatValid c) := rfl
  have hin := RunsFabric.evInput_setEvInput_self s c y
  generalize s.setEvInput c y = u at hmem hctr hvalid hin ⊢
  have h := capture_captures u c x
  have hin' : (u.capture c x).evInput c = y := by
    rw [← hin]
    unfold State.evInput
    rw [h.evf]
  exact ⟨h.unit, h.valid, h.counted.trans (by rw [hctr]), fun hs => h.overrun (hvalid.trans hs), by rw [hin', hy], by rw [hin', hy],
    fun b => (h.memory b).trans (hmem b)⟩

/-! ## Pulse measurement (R544) -/

theorem pmUnit_setPm_self (s : State) (n : Nat) (u : PmUnit) : (s.setPm n u).pmUnit n = u := by
  simp [State.pmUnit, State.setPm, State.setTb, Sparse.find?_insert_self]

/-- A unit's result is latched and its flags fall. -/
def State.pmstatTaken (s : State) (n : Nat) : State :=
  (((s.setRegN (A.tmbPmwidth n) (s.pmUnit n).width).setRegN (A.tmbPmstart n) (s.pmUnit n).result).lower
    (F.tmbPmstatDone n)).lower (F.tmbPmstatOvr n)

theorem writesOnly_pmstatTaken (s : State) (n : Nat) :
    WritesOnly [A.tmbPmstat n, A.tmbPmwidth n, A.tmbPmstart n] s (s.pmstatTaken n) :=
  .lower (f := F.tmbPmstatOvr n) (.lower (f := F.tmbPmstatDone n)
    (((WritesOnly.refl _ s).setRegN (by simp)).setRegN (by simp)) (.head _)) (.head _)

theorem results_pmstatTaken (s : State) (n : Nat) :
    (s.pmstatTaken n).regN (A.tmbPmwidth n) = (s.pmUnit n).width % 2 ^ 32
    ∧ (s.pmstatTaken n).regN (A.tmbPmstart n) = (s.pmUnit n).result % 2 ^ 32 := by
  have haddr : A.tmbPmwidth n ≠ A.tmbPmstat n ∧ A.tmbPmstart n ≠ A.tmbPmstat n ∧ A.tmbPmwidth n ≠ A.tmbPmstart n := by
    unfold A.tmbPmwidth A.tmbPmstart A.tmbPmstat
    omega
  obtain ⟨hws, hss, hne⟩ := haddr
  unfold State.pmstatTaken
  constructor
  · rw [regN_lower_ne _ hws, regN_lower_ne _ hws, State.regN_setRegN_ne _ _ hne, State.regN_setRegN_self]
  · rw [regN_lower_ne _ hss, regN_lower_ne _ hss, State.regN_setRegN_self]

theorem flags_pmstatTaken (s : State) (n : Nat) :
    (s.pmstatTaken n).flag (F.tmbPmstatDone n) = false ∧ (s.pmstatTaken n).flag (F.tmbPmstatOvr n) = false := by
  unfold State.pmstatTaken
  generalize (s.setRegN (A.tmbPmwidth n) _).setRegN _ _ = u
  exact ⟨(flag_setFld_beside (i := 30) (w := 1) _ 0).trans (flag_lower_at ..), flag_lower_at ..⟩

theorem exec_pmstatRead {s : State} {n : Nat} (hup : s.comUp = true) (hn : n < 16) :
    exec (.pmstatRead n) s = .next ((s.pmstatTaken n).answerRead (s.reg (A.tmbPmstat n))) := by
  change execPmstatRead n s = _
  unfold execPmstatRead
  rw [if_pos (by simp [hup, hn])]
  rfl

theorem completes_pmstatRead {s : State} {n : Nat} (hup : s.comUp = true) (hn : n < 16) :
    Completes (.pmstatRead n) s fun t =>
      t.busData = s.reg (A.tmbPmstat n) ∧ t.busError = false ∧ t.flag (F.tmbPmstatDone n) = false
      ∧ t.flag (F.tmbPmstatOvr n) = false ∧ t.regN (A.tmbPmwidth n) = (s.pmUnit n).width % 2 ^ 32
      ∧ t.regN (A.tmbPmstart n) = (s.pmUnit n).result % 2 ^ 32
      ∧ s.sameRegsBut t [A.tmbPmstat n, A.tmbPmwidth n, A.tmbPmstart n] ∧ s.sameMemory t := by
  have hexec := exec_pmstatRead hup hn
  have hw := writesOnly_pmstatTaken s n
  obtain ⟨hwidth, hstart⟩ := results_pmstatTaken s n
  obtain ⟨hdone, hovr⟩ := flags_pmstatTaken s n
  generalize s.pmstatTaken n = u at hexec hw hwidth hstart hdone hovr
  exact ⟨_, hexec, rfl, rfl, (flag_answerRead ..).trans hdone, (flag_answerRead ..).trans hovr, (regN_answerRead ..).trans hwidth,
    (regN_answerRead ..).trans hstart, sameRegsBut_answerRead hw.regs _, sameMemory_answerRead hw.sameMemory _⟩

theorem pmstat_ne_pmctl (n : Nat) : A.tmbPmstat n ≠ A.tmbPmctl n := by
  unfold A.tmbPmstat A.tmbPmctl
  omega

theorem completes_pmctlDisable {s : State} {n : Nat} (hup : s.comUp = true) (hn : n < 16) :
    Completes (.pmctlDisable false n) s fun t =>
      t.flag (F.tmbPmctlEn n) = false ∧ t.flag (F.tmbPmstatOpen n) = false ∧ (t.pmUnit n).start = none
      ∧ s.sameRegsBut t [A.tmbPmstat n, A.tmbPmctl n] ∧ s.sameMemory t := by
  have hcond : (s.comUp && decide (n < 16)) = true := by simp [hup, hn]
  have hexec : exec (.pmctlDisable false n) s = .next (s.pmDisable n) := congrArg Host.Outcome.next (if_pos hcond)
  refine ⟨_, hexec, ?_⟩
  unfold State.pmDisable
  extract_lets u
  have hunit := pmUnit_setPm_self s n { u with start := none, restart := false, slept := false, startLf := false }
  have hregs (v : PmUnit) : s.sameRegsBut (s.setPm n v) [] := fun _ _ => rfl
  have hmem (v : PmUnit) : s.sameMemory (s.setPm n v) := fun _ => rfl
  specialize hregs { u with start := none, restart := false, slept := false, startLf := false }
  specialize hmem { u with start := none, restart := false, slept := false, startLf := false }
  generalize s.setPm n _ = v at hunit hregs hmem ⊢
  have hw : WritesOnly [A.tmbPmstat n, A.tmbPmctl n] v ((v.lower (F.tmbPmstatOpen n)).lower (F.tmbPmctlEn n)) :=
    .lower (f := F.tmbPmctlEn n) (.lower (f := F.tmbPmstatOpen n) (.refl _ v) (.head _)) (.tail _ (.head _))
  refine ⟨flag_lower_at .., ?_, ?_, fun a ha => (hw.regs a ha).trans (hregs a (List.not_mem_nil)), fun b =>
    (hw.sameMemory b).trans (hmem b)⟩
  · exact (flag_eq_of_regN (regN_lower_ne _ (pmstat_ne_pmctl n))).trans (flag_lower_at ..)
  · rw [show State.pmUnit ((v.lower _).lower _) n = v.pmUnit n by unfold State.pmUnit; rw [hw.tb], hunit]

/-! ### Events at a unit -/

/-- DONE, or OVR where DONE stands already. -/
def State.pmDone (s : State) (n : Nat) : State :=
  if s.flag (F.tmbPmstatDone n) then s.raise (F.tmbPmstatOvr n) else s.raise (F.tmbPmstatDone n)

/-- What else a unit that closes shows in PMSTAT (R544). -/
def State.pmShown (s : State) (n : Nat) (u : PmUnit) (width : Nat) (lf subres : Bool) : State :=
  let s := (s.setFld (F.tmbPmstatSubres n) (b2n subres)).setFld (F.tmbPmstatRestart n) (b2n u.restart)
  let s := (s.setFld (F.tmbPmstatSat n) (b2n (decide (0xFFFFFFFF < width)))).setFld (F.tmbPmstatLfres n) (b2n (u.startLf || lf))
  (s.setFld (F.tmbPmstatSlept n) (b2n u.slept)).lower (F.tmbPmstatOpen n)

theorem pmClose_eq (s : State) (n : Nat) (u : PmUnit) (start stop : Nat) (lf subres : Bool) :
    s.pmClose n u start stop lf subres =
      ((((((s.pmDone n).setPm n { width := min (wrap64 (stop + 2 ^ 64 - start)) 0xFFFFFFFF, result := start % 2 ^ 32 }).pmShown n u
        (wrap64 (stop + 2 ^ 64 - start)) lf subres).setBit A.tmbPmflag n).count (A.tmbCtr 5)).evPulse (0x0E0 + n)) := by
  unfold State.pmClose State.pmDone State.pmShown
  generalize wrap64 (stop + 2 ^ 64 - start) = width
  generalize start % 2 ^ 32 = result
  rfl

theorem done_pmDone (s : State) (n : Nat) : (s.pmDone n).flag (F.tmbPmstatDone n) = true := by
  unfold State.pmDone
  split
  next h => exact (flag_setFld_beside _ 1).trans h
  next => exact flag_raise_at ..

theorem writesOnly_pmDone (s : State) (n : Nat) : WritesOnly [A.tmbPmstat n] s (s.pmDone n) := by
  unfold State.pmDone
  exact .ite (.raise (f := F.tmbPmstatOvr n) (.refl _ s) (.head _)) (.raise (f := F.tmbPmstatDone n) (.refl _ s) (.head _))

theorem done_pmShown (s : State) (n : Nat) (u : PmUnit) (width : Nat) (lf subres : Bool) :
    (s.pmShown n u width lf subres).flag (F.tmbPmstatDone n) = s.flag (F.tmbPmstatDone n) := by
  have hlow (t : State) {i : Nat} (v : Nat) (hi : i + 1 ≤ 31) :
      (t.setFld ⟨A.tmbPmstat n, i, 1⟩ v).flag (F.tmbPmstatDone n) = t.flag (F.tmbPmstatDone n) :=
    flag_setFld_beside t v (.inl hi) (by omega)
  unfold State.pmShown
  exact (hlow (i := 29) _ 0 (by decide)).trans ((hlow (i := 24) _ _ (by decide)).trans ((hlow (i := 25) _ _ (by decide)).trans
    ((hlow (i := 26) _ _ (by decide)).trans ((hlow (i := 27) _ _ (by decide)).trans (hlow (i := 28) s _ (by decide))))))

theorem writesOnly_pmShown (s : State) (n : Nat) (u : PmUnit) (width : Nat) (lf subres : Bool) :
    WritesOnly [A.tmbPmstat n] s (s.pmShown n u width lf subres) := by
  have hset {t : State} (h : WritesOnly [A.tmbPmstat n] s t) (i v : Nat) :
      WritesOnly [A.tmbPmstat n] s (t.setFld ⟨A.tmbPmstat n, i, 1⟩ v) := h.setFld (.head _)
  unfold State.pmShown
  exact hset (hset (hset (hset (hset (hset (.refl _ s) _ _) _ _) _ _) _ _) _ _) 29 0

/-- A unit closes with a result (R544). -/
structure PmClosed (n : Nat) (start width : Nat) (s t : State) : Prop where
  unit : t.pmUnit n = { width := min width 0xFFFFFFFF, result := start % 2 ^ 32 }
  done : t.flag (F.tmbPmstatDone n) = true
  counted : t.regN (A.tmbCtr 5) = (s.regN (A.tmbCtr 5) + 1) % 2 ^ 32
  memory : s.sameMemory t

theorem byte_setPm (s : State) (n : Nat) (u : PmUnit) (b : Nat) : (s.setPm n u).byte b = s.byte b := rfl

theorem regN_setPm (s : State) (n : Nat) (u : PmUnit) (a : Nat) : (s.setPm n u).regN a = s.regN a := rfl

theorem flag_setPm (s : State) (n : Nat) (u : PmUnit) (f : Fld) : (s.setPm n u).flag f = s.flag f := rfl

theorem pmClose_closes (s : State) (n : Nat) (u : PmUnit) (start stop : Nat) (lf subres : Bool) :
    PmClosed n start (wrap64 (stop + 2 ^ 64 - start)) s (s.pmClose n u start stop lf subres) := by
  rw [pmClose_eq]
  generalize wrap64 (stop + 2 ^ 64 - start) = width
  have haddr : A.tmbPmstat n ≠ A.tmbPmflag ∧ A.tmbPmstat n ≠ A.tmbCtr 5 := by
    unfold A.tmbPmstat A.tmbPmflag A.tmbCtr
    omega
  obtain ⟨hflag, hctr⟩ := haddr
  have hnot : A.tmbCtr 5 ∉ [A.tmbPmstat n] := fun h => hctr (List.mem_singleton.1 h).symm
  obtain ⟨v, hv⟩ : ∃ v : PmUnit, v = { width := min width 0xFFFFFFFF, result := start % 2 ^ 32 } := ⟨_, rfl⟩
  rw [← hv]
  have h1 := writesOnly_pmDone s n
  have hdone := done_pmDone s n
  generalize s.pmDone n = s1 at h1 hdone ⊢
  have hunit := pmUnit_setPm_self s1 n v
  have hctr2 : (s1.setPm n v).regN (A.tmbCtr 5) = s.regN (A.tmbCtr 5) := congrArg BitVec.toNat (h1.regs _ hnot)
  have hmem2 : s.sameMemory (s1.setPm n v) := fun b => (byte_setPm ..).trans (h1.sameMemory b)
  rw [← flag_setPm s1 n v] at hdone
  generalize s1.setPm n v = s2 at hunit hctr2 hmem2 hdone ⊢
  have h3 := writesOnly_pmShown s2 n u width lf subres
  rw [← done_pmShown s2 n u width lf subres] at hdone
  generalize s2.pmShown n u width lf subres = s3 at h3 hdone ⊢
  have h4 : WritesOnly [A.tmbPmflag, A.tmbCtr 5] s3 ((s3.setBit A.tmbPmflag n).count (A.tmbCtr 5)) :=
    ((WritesOnly.refl _ s3).setBit (.head _)).count (.tail _ (.head _))
  have hcount : ((s3.setBit A.tmbPmflag n).count (A.tmbCtr 5)).regN (A.tmbCtr 5) = (s3.regN (A.tmbCtr 5) + 1) % 2 ^ 32 := by
    rw [regN_count_self, State.setBit, State.regN_setRegN_ne _ _ (by decide)]
  generalize (s3.setBit A.tmbPmflag n).count (A.tmbCtr 5) = s4 at h4 hcount ⊢
  have h5 : RunsAll s4 (s4.evPulse (0x0E0 + n)) := .evPulse (.refl _ s4)
  generalize s4.evPulse (0x0E0 + n) = s5 at h5
  have hctr3 : s3.regN (A.tmbCtr 5) = s2.regN (A.tmbCtr 5) := congrArg BitVec.toNat (h3.regs _ hnot)
  refine ⟨?_, ?_, ?_, fun b => ?_⟩
  · rw [← hv, ← hunit]
    unfold State.pmUnit
    rw [h5.frame.tb, h4.tb, h3.tb]
  · rw [h5.flag (by change ¬ fabricReg (A.tmbPmstat n); unfold fabricReg A.tmbPmstat; omega), h4.flag ?_, hdone]
    simpa using ⟨hflag, hctr⟩
  · rw [h5.regN (by decide), hcount, hctr3, hctr2]
  · rw [h5.sameMemory b, h4.sameMemory b, h3.sameMemory b, hmem2 b]

theorem pmEvents_start {s : State} {n : Nat} (x : EvLatch) (h : (s.pmUnit n).start = none) :
    s.pmEvents n (some x) none =
      (s.setPm n { s.pmUnit n with start := some x.tick, startLf := x.lf, restart := false, slept := false }).raise
        (F.tmbPmstatOpen n) := by
  unfold State.pmEvents
  simp only [h]

theorem pmEvents_stop {s : State} {n t0 : Nat} (x : EvLatch) (h : (s.pmUnit n).start = some t0) :
    s.pmEvents n none (some x) = s.pmClose n (s.pmUnit n) t0 x.tick x.lf false := by
  unfold State.pmEvents
  simp only [h, if_true]

/-- The events that a unit accepts at one instant. -/
theorem evAccept_start {s : State} {n : Nat} {x : EvLatch} (hn : n < 16) (hen : s.flag (F.tmbPmctlEn n) = true)
    (hdue : s.evDue (32 + 2 * n) = true) (hstop : s.evDue (33 + 2 * n) = false) (hreq : (s.evInput (32 + 2 * n)).req = some x) :
    ∃ y, s.evAccept (32 + 2 * n) = (s.setEvInput (32 + 2 * n) y).pmEvents n (some x) none := by
  refine ⟨{ req := (s.evInput (32 + 2 * n)).mem, mem := none, due := s.tb.now + 2 }, ?_⟩
  unfold State.evAccept
  rw [if_neg (by omega), if_pos (by omega), show (32 + 2 * n - 32) / 2 = n by omega]
  simp only [hdue, hstop, evTake_eq hreq]
  exact if_pos hen

theorem evAccept_stop {s : State} {n : Nat} {x : EvLatch} (hn : n < 16) (hen : s.flag (F.tmbPmctlEn n) = true)
    (hdue : s.evDue (33 + 2 * n) = true) (hstart : s.evDue (32 + 2 * n) = false) (hreq : (s.evInput (33 + 2 * n)).req = some x) :
    ∃ y, s.evAccept (33 + 2 * n) = (s.setEvInput (33 + 2 * n) y).pmEvents n none (some x) := by
  refine ⟨{ req := (s.evInput (33 + 2 * n)).mem, mem := none, due := s.tb.now + 2 }, ?_⟩
  unfold State.evAccept
  rw [if_neg (by omega), if_pos (by omega), show (33 + 2 * n - 32) / 2 = n by omega]
  simp only [hdue, hstart, if_true, Bool.false_eq_true, if_false, evTake_eq hreq]
  exact if_pos hen

theorem pmUnit_setEvInput (s : State) (i n : Nat) (y : EvInput) : (s.setEvInput i y).pmUnit n = s.pmUnit n := rfl

theorem regN_setEvInput (s : State) (i a : Nat) (y : EvInput) : (s.setEvInput i y).regN a = s.regN a := rfl

theorem byte_setEvInput (s : State) (i b : Nat) (y : EvInput) : (s.setEvInput i y).byte b = s.byte b := rfl

theorem completes_consumerAccept_start {s : State} {n : Nat} {x : EvLatch} (hn : n < 16) (hen : s.flag (F.tmbPmctlEn n) = true)
    (hdue : s.evDue (32 + 2 * n) = true) (hstop : s.evDue (33 + 2 * n) = false) (hreq : (s.evInput (32 + 2 * n)).req = some x)
    (hidle : (s.pmUnit n).start = none) :
    Completes (.consumerAccept (32 + 2 * n)) s fun t =>
      (t.pmUnit n).start = some x.tick ∧ t.flag (F.tmbPmstatOpen n) = true ∧ s.sameMemory t := by
  obtain ⟨y, hy⟩ := evAccept_start hn hen hdue hstop hreq
  refine ⟨_, exec_consumerAccept (by omega) hdue, ?_⟩
  rw [hy, pmEvents_start x (by rw [pmUnit_setEvInput, hidle])]
  generalize hv : ({ (s.setEvInput (32 + 2 * n) y).pmUnit n with
    start := some x.tick, startLf := x.lf, restart := false, slept := false } : PmUnit) = v
  have hunit := pmUnit_setPm_self (s.setEvInput (32 + 2 * n) y) n v
  have hmem : s.sameMemory ((s.setEvInput (32 + 2 * n) y).setPm n v) := fun _ => rfl
  generalize (s.setEvInput (32 + 2 * n) y).setPm n v = u at hunit hmem ⊢
  have hw : WritesOnly [A.tmbPmstat n] u (u.raise (F.tmbPmstatOpen n)) := .raise (f := F.tmbPmstatOpen n) (.refl _ u) (.head _)
  refine ⟨?_, flag_raise_at .., fun b => (hw.sameMemory b).trans (hmem b)⟩
  rw [show State.pmUnit (u.raise _) n = u.pmUnit n by unfold State.pmUnit; rw [hw.tb], hunit, ← hv]

theorem completes_consumerAccept_stop {s : State} {n t0 : Nat} {x : EvLatch} (hn : n < 16)
    (hen : s.flag (F.tmbPmctlEn n) = true) (hdue : s.evDue (33 + 2 * n) = true) (hstart : s.evDue (32 + 2 * n) = false)
    (hreq : (s.evInput (33 + 2 * n)).req = some x) (hopen : (s.pmUnit n).start = some t0) :
    Completes (.consumerAccept (33 + 2 * n)) s fun t =>
      (t.pmUnit n).width = min (wrap64 (x.tick + 2 ^ 64 - t0)) 0xFFFFFFFF ∧ (t.pmUnit n).start = none
      ∧ (t.pmUnit n).result = t0 % 2 ^ 32 ∧ t.flag (F.tmbPmstatDone n) = true
      ∧ t.regN (A.tmbCtr 5) = (s.regN (A.tmbCtr 5) + 1) % 2 ^ 32 ∧ s.sameMemory t := by
  obtain ⟨y, hy⟩ := evAccept_stop hn hen hdue hstart hreq
  refine ⟨_, exec_consumerAccept (by omega) hdue, ?_⟩
  rw [hy, pmEvents_stop (t0 := t0) x (by rw [pmUnit_setEvInput, hopen])]
  have hctr := regN_setEvInput s (33 + 2 * n) (A.tmbCtr 5) y
  have hmem : s.sameMemory (s.setEvInput (33 + 2 * n) y) := fun b => byte_setEvInput ..
  generalize s.setEvInput (33 + 2 * n) y = u at hctr hmem ⊢
  have h := pmClose_closes u n (u.pmUnit n) t0 x.tick x.lf false
  refine ⟨?_, ?_, ?_, h.done, by rw [h.counted, hctr], fun b => (h.memory b).trans (hmem b)⟩
  · rw [h.unit]
  · rw [h.unit]
  · rw [h.unit]

/-- Settles O45: each command's own registers, read back after the writes that follow them; the pulse of a match and of a
measurement runs through the event fabric, which leaves the time base alone. -/
theorem timersAndCaptures : Obligations.TimersAndCaptures := by
  unfold Obligations.TimersAndCaptures
  intro s
  refine ⟨fun hup => ⟨fun w hw => completes_tmbCapture hup hw, fun n hn hrun hen hdue hheld => ⟨fun hauto hint =>
      completes_compareMatch_auto hup hn hrun hen hdue hheld hauto hint, completes_compareMatch_once hup hn hrun hen hdue hheld⟩,
    fun w => completes_stagger rfl rfl rfl hup, fun n hn => ⟨completes_cmphiWrite hup hn, completes_cmploRead hup hn⟩,
    fun c hc => completes_capstatRead hup hc, fun n hn => ⟨completes_pmstatRead hup hn, completes_pmctlDisable hup hn⟩⟩,
    completes_tmbStop, completes_tmbResume, fun c x hc => completes_consumerAccept_capture hc, fun n hn hen =>
    ⟨fun x => completes_consumerAccept_start hn hen, fun t0 x => completes_consumerAccept_stop hn hen⟩⟩

end Sys2Proof.Machine
end

section
/-!
Steps that write listed registers and the Host Serial Link's queues, and nothing else: notices (R384) and what is sent with
them.
-/

namespace Sys2Proof.Machine

/-- `t` differs from `s` in the registers listed and the Host Serial Link's state only. -/
structure Tells (l : List Nat) (s t : State) : Prop where
  regs : s.sameRegsBut t l
  rest : t = { s with regs := t.regs, hsl := t.hsl }

namespace Tells

variable {l : List Nat} {s t u : State} {c : Prop} {i : Decidable c}

theorem refl (l : List Nat) (s : State) : Tells l s s := ⟨fun _ _ => rfl, rfl⟩

theorem trans (h : Tells l s t) (g : Tells l t u) : Tells l s u where
  regs a ha := (g.regs a ha).trans (h.regs a ha)
  rest := by
    rw [g.rest]
    exact congrArg (fun v : State => { v with regs := u.regs, hsl := u.hsl }) h.rest

theorem mono {m : List Nat} (h : Tells l s t) (hl : ∀ a ∈ l, a ∈ m) : Tells m s t :=
  ⟨fun a ha => h.regs a fun hal => ha (hl a hal), h.rest⟩

theorem ite (ht : Tells l s t) (hu : Tells l s u) : Tells l s (if c then t else u) := by
  split
  · exact ht
  · exact hu

theorem ofWrites (h : WritesOnly l s t) : Tells l s t where
  regs := h.regs
  rest := by
    rw [h.rest]

theorem writes (h : Tells l s t) (g : WritesOnly l t u) : Tells l s u := h.trans (ofWrites g)

theorem setReg (h : Tells l s t) {a : Nat} {w : Word} (ha : a ∈ l) : Tells l s (t.setReg a w) :=
  h.writes ((WritesOnly.refl l t).setReg ha)

theorem count (h : Tells l s t) {a : Nat} (ha : a ∈ l) : Tells l s (t.count a) := h.setReg ha

theorem setFld (h : Tells l s t) {f : Fld} {v : Nat} (hf : f.addr ∈ l) : Tells l s (t.setFld f v) := h.setReg hf

theorem raise (h : Tells l s t) {f : Fld} (hf : f.addr ∈ l) : Tells l s (t.raise f) := h.setReg hf

theorem lower (h : Tells l s t) {f : Fld} (hf : f.addr ∈ l) : Tells l s (t.lower f) := h.setReg hf

theorem setBit (h : Tells l s t) {a n : Nat} (ha : a ∈ l) : Tells l s (t.setBit a n) := h.setReg ha

theorem other (h : Tells l s t) {x : HslState} : Tells l s { t with hsl := x } where
  regs := h.regs
  rest := congrArg (fun v : State => { v with regs := t.regs, hsl := x }) h.rest

theorem notice (h : Tells l s t) {code : Nat} {payload : List Byte} (hctr : A.hslCtr 6 ∈ l) (hint : A.hslIntstat ∈ l) :
    Tells l s (t.notice code payload) := by
  have hdrop : Tells l s (t.dropNotice code) := by
    unfold State.dropNotice
    extract_lets u
    have hu : Tells l s u := (h.count hctr).raise hint
    split
    · exact hu.other
    · split
      · exact hu.other
      · exact hu.other
  unfold State.notice
  split
  · exact h.other
  · exact hdrop

theorem regN (h : Tells l s t) {a : Nat} (ha : a ∉ l) : t.regN a = s.regN a := congrArg BitVec.toNat (h.regs a ha)

theorem fld (h : Tells l s t) {f : Fld} (hf : f.addr ∉ l) : t.fld f = s.fld f := by
  rw [State.fld, h.regN hf, State.fld]

theorem flag (h : Tells l s t) {f : Fld} (hf : f.addr ∉ l) : t.flag f = s.flag f := by
  rw [State.flag, h.fld hf, State.flag]

theorem sec (h : Tells l s t) : t.sec = s.sec := by rw [h.rest]

theorem sameMemory (h : Tells l s t) : s.sameMemory t := by
  intro a
  rw [h.rest]
  rfl

end Tells

/-- A notice is counted at most, and goes into a queue. -/
theorem tells_notice (s : State) (code : Nat) (payload : List Byte) :
    Tells [A.hslCtr 6, A.hslIntstat] s (s.notice code payload) :=
  (Tells.refl _ s).notice (.head _) (.tail _ (.head _))

end Sys2Proof.Machine
end

section
/-!
Random numbers (R454-R458, R465, R468): windows, failures, restarts, requests and the status command.
-/

namespace Sys2Proof.Machine

variable {s : State}

/-! ## What register writes leave -/

@[simp] theorem sec_setRegN (s : State) (a n : Nat) : (s.setRegN a n).sec = s.sec := (rfl)

@[simp] theorem sec_setFld (s : State) (f : Fld) (v : Nat) : (s.setFld f v).sec = s.sec := (rfl)

@[simp] theorem sec_setBit (s : State) (a n : Nat) : (s.setBit a n).sec = s.sec := (rfl)

@[simp] theorem sec_raise (s : State) (f : Fld) : (s.raise f).sec = s.sec := (rfl)

@[simp] theorem sec_countBy (s : State) (a n : Nat) : (s.countBy a n).sec = s.sec := (rfl)

@[simp] theorem sec_count (s : State) (a : Nat) : (s.count a).sec = s.sec := (rfl)

theorem fld_withSec (s : State) (x : SecState) (f : Fld) : ({ s with sec := x } : State).fld f = s.fld f := rfl

theorem sameMemory_withSec {s t : State} (h : s.sameMemory t) (x : SecState) : s.sameMemory { t with sec := x } := h

theorem sameRegsBut_withSec {s t : State} {l : List Nat} (h : s.sameRegsBut t l) (x : SecState) :
    s.sameRegsBut { t with sec := x } l := h

theorem tells_rngNotice (s : State) (st : Status) : Tells [A.hslCtr 6, A.hslIntstat] s (s.rngNotice st) := tells_notice ..

/-! ## Windows (R454, R455) -/

/-- A window that passes is counted. -/
def State.rngPassed (s : State) : State := { s.rngCount 0 1 with sec := { s.sec with windows := s.sec.windows + 1 } }

/-- In RUN a window releases the output it spans and fills the pool. -/
def State.rngFilled (s : State) : State :=
  let s := if s.sec.windows % 64 = 0 then s.rngCount 3 1 else s
  { s with sec := { s.sec with pool := 64, held := 256 } }

/-- The last window of a start-up test leads to RUN, with a notice where the RNG came from FAILED. -/
def State.rngStarted (s : State) : State :=
  let back := s.sec.fromFail
  let s : State := { s.setFld F.rngStatState 2 with sec := { s.sec with windows := 0, fromFail := false, held := 256 } }
  if back then ((s.setFld F.rngStatFails 0).raise F.rngIntstatRecover).rngNotice .ok else s

theorem exec_rngWindow (hup : s.comUp = true) (hst : s.fld F.rngStatState = 1 ∨ s.fld F.rngStatState = 2) :
    exec .rngWindow s = .next (if s.fld F.rngStatState = 2 then s.rngPassed.rngFilled
      else if s.rngPassed.sec.windows < 4 then s.rngPassed else s.rngPassed.rngStarted) := by
  have hcond : ¬ (!s.comUp || !(s.fld F.rngStatState == 1 || s.fld F.rngStatState == 2)) = true := by
    rcases hst with h | h <;> simp [hup, h]
  change execRngWindow s = _
  unfold execRngWindow
  extract_lets st
  rw [if_neg hcond]
  rfl

/-- The counting of a window. -/
theorem rngPassed_counts (s : State) :
    s.rngPassed.regN (A.rngCtr 0) = (s.regN (A.rngCtr 0) + 1) % 2 ^ 32 ∧ s.rngPassed.fld F.rngStatState = s.fld F.rngStatState
    ∧ s.rngPassed.sec.windows = s.sec.windows + 1 ∧ s.sameMemory s.rngPassed :=
  ⟨regN_count_self s (A.rngCtr 0), fld_count_ne s (f := F.rngStatState) (a := A.rngCtr 0) (by decide), rfl, fun _ => rfl⟩

theorem rngFilled_fills (s : State) :
    s.rngFilled.sec.pool = 64 ∧ s.rngFilled.sec.held = 256 ∧ s.rngFilled.sec.windows = s.sec.windows
    ∧ s.rngFilled.fld F.rngStatState = s.fld F.rngStatState ∧ s.rngFilled.regN (A.rngCtr 0) = s.regN (A.rngCtr 0)
    ∧ s.sameMemory s.rngFilled := by
  have hw : WritesOnly [A.rngCtr 3] s (if s.sec.windows % 64 = 0 then s.rngCount 3 1 else s) :=
    .ite (.setRegN (.refl _ s) (.head _)) (.refl _ s)
  have hwindows : (if s.sec.windows % 64 = 0 then s.rngCount 3 1 else s).sec.windows = s.sec.windows := by
    split
    · rfl
    · rfl
  exact ⟨rfl, rfl, hwindows, hw.fld (f := F.rngStatState) (by decide), congrArg BitVec.toNat (hw.regs (A.rngCtr 0) (by decide)),
    hw.sameMemory⟩

theorem rngStarted_starts (s : State) :
    s.rngStarted.fld F.rngStatState = 2 ∧ s.rngStarted.regN (A.rngCtr 0) = s.regN (A.rngCtr 0) ∧ s.sameMemory s.rngStarted := by
  unfold State.rngStarted
  extract_lets back _ _ u
  have hstate : u.fld F.rngStatState = 2 := fld_setFld_at s (by decide)
  have hctr : u.regN (A.rngCtr 0) = s.regN (A.rngCtr 0) := regN_setFld_ne s 2 (by decide)
  have hmem : s.sameMemory u := fun _ => rfl
  clear_value u
  split
  · have hshow : (((u.setFld F.rngStatFails 0).raise F.rngIntstatRecover)).fld F.rngStatState = 2 := by
      rw [← hstate]
      exact (State.fld_setFld_ne _ 1 (by decide)).trans (fld_setFld_beside u 0)
    have ht := (((Tells.refl [A.rngStat, A.rngIntstat, A.hslCtr 6, A.hslIntstat] u).setFld (f := F.rngStatFails) (v := 0)
      (by decide)).raise (f := F.rngIntstatRecover) (by decide))
    have hn := tells_rngNotice ((u.setFld F.rngStatFails 0).raise F.rngIntstatRecover) .ok
    exact ⟨(hn.fld (by decide)).trans hshow, (hn.regN (by decide)).trans ((ht.regN (by decide)).trans hctr), fun b =>
      (hn.sameMemory b).trans ((ht.sameMemory b).trans (hmem b))⟩
  · exact ⟨hstate, hctr, hmem⟩

theorem completes_rngWindow_run (hup : s.comUp = true) (hst : s.fld F.rngStatState = 2) :
    Completes .rngWindow s fun t =>
      t.sec.pool = 64 ∧ t.sec.held = 256 ∧ t.sec.windows = s.sec.windows + 1 ∧ t.fld F.rngStatState = 2
      ∧ t.regN (A.rngCtr 0) = (s.regN (A.rngCtr 0) + 1) % 2 ^ 32 ∧ s.sameMemory t := by
  refine ⟨_, exec_rngWindow hup (.inr hst), ?_⟩
  rw [if_pos hst]
  obtain ⟨hctr, hstate, hwindows, hmem⟩ := rngPassed_counts s
  generalize s.rngPassed = u at hctr hstate hwindows hmem ⊢
  obtain ⟨hpool, hheld, hw, hst', hctr', hmem'⟩ := rngFilled_fills u
  exact ⟨hpool, hheld, hw.trans hwindows, hst'.trans (hstate.trans hst), hctr'.trans hctr, fun b => (hmem' b).trans (hmem b)⟩

theorem completes_rngWindow_startup (hup : s.comUp = true) (hst : s.fld F.rngStatState = 1) :
    Completes .rngWindow s fun t =>
      t.fld F.rngStatState = (if 4 ≤ s.sec.windows + 1 then 2 else 1)
      ∧ t.regN (A.rngCtr 0) = (s.regN (A.rngCtr 0) + 1) % 2 ^ 32 ∧ s.sameMemory t := by
  refine ⟨_, exec_rngWindow hup (.inl hst), ?_⟩
  rw [if_neg (show ¬ s.fld F.rngStatState = 2 by rw [hst]; decide)]
  obtain ⟨hctr, hstate, hwindows, hmem⟩ := rngPassed_counts s
  generalize s.rngPassed = u at hctr hstate hwindows hmem ⊢
  by_cases hlast : 4 ≤ s.sec.windows + 1
  · rw [if_neg (by omega), if_pos hlast]
    obtain ⟨hst', hctr', hmem'⟩ := rngStarted_starts u
    exact ⟨hst', hctr'.trans hctr, fun b => (hmem' b).trans (hmem b)⟩
  · rw [if_pos (by omega), if_neg hlast]
    exact ⟨hstate.trans hst, hctr, hmem⟩

/-! ## Failures (R457) -/

theorem held_rngEnd (s : State) (n : Nat) (st : Status) : (s.rngEnd n st).sec.held = s.sec.held := by
  unfold State.rngEnd State.rngCount
  split
  · simp only [sec_countBy, sec_setBit, sec_setFld]
  · simp only [sec_setBit, sec_setFld]

theorem held_passUnit (s : State) (pk : Bool) : (s.passUnit pk).sec.held = s.sec.held := by
  unfold State.passUnit
  split
  · cases pk
    · rfl
    · rfl
  · rfl

@[simp] theorem sec_cryShow (s : State) : s.cryShow.sec = s.sec := by
  unfold State.cryShow
  simp only [sec_setFld]

/-- What the end of an operation counts and shows, before its unit passes on (R450, R464). -/
def State.cryEndShown (s : State) (c : Nat) (st : Status) : State :=
  let s := (s.setFld (F.cryResResult c) st.code).setFld (F.cryResBusy c) 0
  let s := s.setBit A.cryIntstat c
  let s := if st = .ok then s.count (A.cryCtr 0) else s.count (A.cryCtr 1)
  let s := if st = .tamper then (s.count (A.cryCtr 2)).raise F.cryIntstatTamper else s
  if st = .authFail then s.count (A.cryCtr 3) else s

/-- A context's operation is gone. -/
def State.cryDrop (s : State) (c : Nat) : State := { s with sec := { s.sec with ops := Sparse.erase s.sec.ops c } }

theorem cryEnd_eq (s : State) (c : Nat) (o : CryOp) (st : Status) :
    s.cryEnd c o st =
      (if ((s.cryDrop c).cryEndShown c st).unitAt (algPk o.alg) = c then ((s.cryDrop c).cryEndShown c st).passUnit (algPk o.alg)
        else (s.cryDrop c).cryEndShown c st).cryShow := rfl

@[simp] theorem sec_cryEndShown (s : State) (c : Nat) (st : Status) : (s.cryEndShown c st).sec = s.sec := by
  unfold State.cryEndShown
  simp only [apply_ite State.sec, sec_count, sec_raise, sec_setBit, sec_setFld, ite_self]

/-- Ending an operation leaves what the RNG holds. -/
theorem held_cryEnd (s : State) (c : Nat) (o : CryOp) (st : Status) : (s.cryEnd c o st).sec.held = s.sec.held := by
  have hdrop : (s.cryDrop c).sec.held = s.sec.held := rfl
  rw [cryEnd_eq, sec_cryShow]
  split
  · rw [held_passUnit, sec_cryEndShown, hdrop]
  · rw [sec_cryEndShown, hdrop]

theorem held_foldl {α : Type} {f : State → α → State} (hf : ∀ t a, (f t a).sec.held = t.sec.held) (l : List α) (s : State) :
    (l.foldl f s).sec.held = s.sec.held := by
  induction l generalizing s with
  | nil => rfl
  | cons a l ih => exact (ih _).trans (hf s a)

theorem held_failDraws (s : State) : s.failDraws.sec.held = s.sec.held := by
  unfold State.failDraws
  refine held_foldl (fun t p => ?_) _ s
  rw [State.rngCount, sec_countBy, held_cryEnd]

/-- The output that a failed test throws away is counted, and every request ends (R455, R457). -/
def State.rngDiscarded (s : State) (test : Nat) : State :=
  let s := if test = 1 then s.rngCount 1 1 else if test = 2 then s.rngCount 2 1 else s
  let s := s.rngCount 5 s.sec.held
  let s := { s with sec := { s.sec with held := 0 } }
  ((s.sec.reqs.map Prod.fst).foldl (fun s n => s.rngEnd n .entropyFail) s).failDraws

/-- FAILED shows the test that failed (R457). -/
def State.rngFailed (s : State) (test : Nat) : State :=
  let s := ((s.satCount F.rngStatFails).setFld F.rngStatTest test).setFld F.rngStatState 3
  (s.raise F.rngIntstatFail).rngNotice .entropyFail

theorem held_rngDiscarded (s : State) (test : Nat) : (s.rngDiscarded test).sec.held = 0 := by
  unfold State.rngDiscarded
  rw [held_failDraws, held_foldl fun t n => held_rngEnd t n .entropyFail]

theorem rngFailed_shows (s : State) {test : Nat} (htest : test ≤ 3) :
    (s.rngFailed test).fld F.rngStatState = 3 ∧ (s.rngFailed test).fld F.rngStatTest = test
    ∧ (s.rngFailed test).flag F.rngIntstatFail = true ∧ (s.rngFailed test).sec = s.sec := by
  unfold State.rngFailed
  have hstate : (((s.satCount F.rngStatFails).setFld F.rngStatTest test).setFld F.rngStatState 3).fld F.rngStatState = 3 :=
    fld_setFld_at _ (by decide)
  have htest' : (((s.satCount F.rngStatFails).setFld F.rngStatTest test).setFld F.rngStatState 3).fld F.rngStatTest = test :=
    (fld_setFld_beside _ 3).trans (fld_setFld_at _ (show test < 2 ^ 2 by omega))
  have hsec : (((s.satCount F.rngStatFails).setFld F.rngStatTest test).setFld F.rngStatState 3).sec = s.sec := by
    unfold State.satCount
    rw [sec_setFld, sec_setFld, sec_setFld]
  generalize ((s.satCount F.rngStatFails).setFld F.rngStatTest test).setFld F.rngStatState 3 = u at hstate htest' hsec ⊢
  have hn := tells_rngNotice (u.raise F.rngIntstatFail) .entropyFail
  refine ⟨?_, ?_, (hn.flag (by decide)).trans (flag_raise_at u), hn.sec.trans ((sec_raise ..).trans hsec)⟩
  · exact (hn.fld (by decide)).trans ((State.fld_setFld_ne u 1 (by decide)).trans hstate)
  · exact (hn.fld (by decide)).trans ((State.fld_setFld_ne u 1 (by decide)).trans htest')

theorem completes_rngHealthFail (hup : s.comUp = true) {test : Nat} (hlo : 1 ≤ test) (hhi : test ≤ 3)
    (hst : s.fld F.rngStatState = 1 ∨ (s.fld F.rngStatState = 2 ∧ test ≠ 3)) :
    Completes (.rngHealthFail test) s fun t =>
      t.fld F.rngStatState = 3 ∧ t.fld F.rngStatTest = test ∧ t.flag F.rngIntstatFail = true ∧ t.sec.held = 0 := by
  have hexec : exec (.rngHealthFail test) s = .next ((s.rngDiscarded test).rngFailed test) := by
    have hcond : ¬ (!s.comUp || !(s.fld F.rngStatState == 1 || s.fld F.rngStatState == 2) || decide (test = 0)
        || decide (3 < test) || (decide (test = 3) && decide (s.fld F.rngStatState = 2))) = true := by
      have h0 : test ≠ 0 := by omega
      rcases hst with h | ⟨h, h3⟩
      · simp [hup, h, h0, hhi]
      · simp [hup, h, h0, hhi, h3]
    change execRngHealthFail test s = _
    unfold execRngHealthFail
    extract_lets st
    rw [if_neg hcond]
    rfl
  have hheld := held_rngDiscarded s test
  refine ⟨_, hexec, ?_⟩
  generalize s.rngDiscarded test = u at hheld ⊢
  obtain ⟨hstate, htest, hflag, hsec⟩ := rngFailed_shows u hhi
  exact ⟨hstate, htest, hflag, by rw [hsec, hheld]⟩

/-! ## Restarts (R457, R465) -/

theorem rngStartup_starts (s : State) (back : Bool) :
    (s.rngStartup back).fld F.rngStatState = 1 ∧ (s.rngStartup back).sec.windows = 0
    ∧ s.sameRegsBut (s.rngStartup back) [A.rngStat] ∧ s.sameMemory (s.rngStartup back) := by
  have hw : WritesOnly [A.rngStat] s (s.setFld F.rngStatState 1) := .setFld (.refl _ s) (.head _)
  have hst : (s.setFld F.rngStatState 1).fld F.rngStatState = 1 := fld_setFld_at s (by decide)
  exact ⟨hst, rfl, hw.regs, fun _ => rfl⟩

theorem completes_rngAutoRestart (hup : s.comUp = true) (hst : s.fld F.rngStatState = 3) (hauto : s.flag F.rngCtlAutorst = true)
    (hfails : s.fld F.rngStatFails < 3) :
    Completes .rngAutoRestart s fun t =>
      t.fld F.rngStatState = 1 ∧ t.sec.windows = 0 ∧ s.sameRegsBut t [A.rngStat] ∧ s.sameMemory t := by
  have hcond : (s.comUp && decide (s.fld F.rngStatState = 3) && s.flag F.rngCtlAutorst
      && decide (s.fld F.rngStatFails < 3)) = true := by
    simp [hup, hst, hauto, hfails]
  exact ⟨_, congrArg Host.Outcome.next (if_pos hcond), rngStartup_starts s true⟩

theorem completes_rngRestart (hup : s.comUp = true) {w : Word} (hst : s.fld F.rngStatState = 3) (hw : bitAt w.toNat 1 = true) :
    Completes (.rngRestart false w) s fun t =>
      t.fld F.rngStatState = 1 ∧ t.sec.windows = 0 ∧ s.sameRegsBut t [A.rngCtl, A.rngStat] ∧ s.sameMemory t := by
  have hctl : WritesOnly [A.rngCtl] s (s.writeReg A.rngCtl w) := .writeReg (.refl _ s) (.head _)
  have hcond : (bitAt w.toNat 1 && decide ((s.writeReg A.rngCtl w).fld F.rngStatState = 3)) = true := by
    rw [hctl.fld (by decide), hw, hst]
    rfl
  refine ⟨_, congrArg Host.Outcome.next (if_pos hup), ?_⟩
  unfold State.writeRngCtl
  extract_lets u
  rw [if_pos hcond]
  obtain ⟨hstate, hwindows, hregs, hmem⟩ := rngStartup_starts u true
  refine ⟨hstate, hwindows, fun a ha => ?_, fun b => (hmem b).trans (hctl.sameMemory b)⟩
  simp only [List.mem_cons, List.not_mem_nil, or_false, not_or] at ha
  exact (hregs a (by simpa using ha.2)).trans (hctl.regs a (by simpa using ha.1))

/-! ## Requests (R456) -/

/-- A request that waits. -/
def State.rngAsked (s : State) (n a len : Nat) : State :=
  let s := (s.setFld (F.rngReqstatBusy n) 1).setFld (F.rngReqstatResult n) Status.pending.code
  { s with sec := { s.sec with reqs := Sparse.insert s.sec.reqs n (a, len) } }

theorem rngAsked_asks (s : State) (n a len : Nat) :
    Sparse.find? (s.rngAsked n a len).sec.reqs n = some (a, len) ∧ (s.rngAsked n a len).fld (F.rngReqstatBusy n) = 1
    ∧ (s.rngAsked n a len).fld (F.rngReqstatResult n) = Status.pending.code ∧ s.sameMemory (s.rngAsked n a len)
    ∧ s.sameRegsBut (s.rngAsked n a len) [A.rngReqstat n] := by
  unfold State.rngAsked
  have hw : WritesOnly [A.rngReqstat n] s ((s.setFld (F.rngReqstatBusy n) 1).setFld (F.rngReqstatResult n) Status.pending.code) :=
    .setFld (f := F.rngReqstatResult n) (.setFld (f := F.rngReqstatBusy n) (.refl _ s) (.head _)) (.head _)
  have hbusy : ((s.setFld (F.rngReqstatBusy n) 1).setFld (F.rngReqstatResult n) Status.pending.code).fld (F.rngReqstatBusy n) = 1 :=
    (fld_setFld_beside _ _).trans (fld_setFld_at s (by decide))
  have hres : ((s.setFld (F.rngReqstatBusy n) 1).setFld (F.rngReqstatResult n) Status.pending.code).fld (F.rngReqstatResult n)
      = Status.pending.code := fld_setFld_at _ (by decide)
  generalize (s.setFld (F.rngReqstatBusy n) 1).setFld (F.rngReqstatResult n) Status.pending.code = u at hw hbusy hres ⊢
  exact ⟨Sparse.find?_insert_self .., (fld_withSec ..).trans hbusy, (fld_withSec ..).trans hres,
    sameMemory_withSec hw.sameMemory _, sameRegsBut_withSec hw.regs _⟩

theorem completes_rngRequest (hup : s.comUp = true) {n : Nat} {w : Word} (hn : n < 4) (hlo : 1 ≤ bitsOf w.toNat 0 13)
    (hhi : bitsOf w.toNat 0 13 ≤ 4096) (hidle : s.flag (F.rngReqstatBusy n) = false) (hst : s.fld F.rngStatState ≠ 3)
    (hmin : 0x20000000 ≤ s.regN (A.rngReqaddr n)) (hmax : s.regN (A.rngReqaddr n) + bitsOf w.toNat 0 13 ≤ 0x20600000) :
    Completes (.rngRequest n false w) s fun t =>
      Sparse.find? t.sec.reqs n = some (s.regN (A.rngReqaddr n), bitsOf w.toNat 0 13) ∧ t.fld (F.rngReqstatBusy n) = 1
      ∧ t.fld (F.rngReqstatResult n) = Status.pending.code ∧ s.sameMemory t ∧ s.sameRegsBut t [A.rngReqstat n] := by
  have hexec : exec (.rngRequest n false w) s = .next (s.rngAsked n (s.regN (A.rngReqaddr n)) (bitsOf w.toNat 0 13)) := by
    change guarded false s (if s.comUp then s.writeReqlen n w else s) = _
    rw [if_pos hup]
    refine congrArg Host.Outcome.next ?_
    unfold State.writeReqlen
    generalize s.regN (A.rngReqaddr n) = a at hmin hmax ⊢
    generalize bitsOf w.toNat 0 13 = len at hlo hhi hmax ⊢
    have hlen : len ≠ 0 := by omega
    simp only [Nat.not_le.2 hn, hlen, Nat.not_lt.2 hhi, hidle, hmin, hmax, hst, decide_false, decide_true, Bool.or_false,
      Bool.and_true, Bool.not_true, Bool.false_eq_true, if_false]
    rfl
  exact ⟨_, hexec, rngAsked_asks ..⟩

/-- A request that ends well (R456). -/
theorem rngEnd_ok (s : State) {n : Nat} (hn : n < 4) :
    Sparse.find? (s.rngEnd n .ok).sec.reqs n = none ∧ (s.rngEnd n .ok).fld (F.rngReqstatBusy n) = 0
    ∧ (s.rngEnd n .ok).fld (F.rngReqstatResult n) = Status.ok.code
    ∧ (s.rngEnd n .ok).bit A.rngIntstat (2 + n) = true ∧ s.sameMemory (s.rngEnd n .ok) := by
  unfold State.rngEnd
  extract_lets _ u v
  rw [if_neg (by decide)]
  have hreqs : Sparse.find? u.sec.reqs n = none := Sparse.find?_erase_self ..
  have hmem : s.sameMemory u := fun _ => rfl
  clear_value u
  have hne : A.rngReqstat n ≠ A.rngIntstat := by unfold A.rngReqstat A.rngIntstat; omega
  have hw : WritesOnly [A.rngReqstat n, A.rngIntstat] u v :=
    .setBit (.setFld (f := F.rngReqstatBusy n) (.setFld (f := F.rngReqstatResult n) (.refl _ u) (.head _)) (.head _))
      (.tail _ (.head _))
  refine ⟨?_, ?_, ?_, bit_setBit_self _ _ (by omega), fun b => (hw.sameMemory b).trans (hmem b)⟩
  · rw [hw.rest]
    exact hreqs
  · exact (State.fld_setRegN_ne _ _ hne).trans (fld_setFld_at _ (by decide))
  · exact (State.fld_setRegN_ne _ _ hne).trans ((fld_setFld_beside _ 0).trans (fld_setFld_at u (by decide)))

theorem length_freeBytes (d n : Nat) : (freeBytes d n).length = n := by simp [freeBytes]

theorem completes_rngRequestDone (hup : s.comUp = true) {n a len : Nat} (hn : n < 4)
    (hreq : Sparse.find? s.sec.reqs n = some (a, len)) (hst : s.fld F.rngStatState = 2) :
    Completes (.rngRequestDone n) s fun t =>
      Sparse.find? t.sec.reqs n = none ∧ t.fld (F.rngReqstatBusy n) = 0
      ∧ t.fld (F.rngReqstatResult n) = Status.ok.code ∧ t.bit A.rngIntstat (2 + n) = true
      ∧ ∀ x, x < a ∨ a + len ≤ x → t.byte x = s.byte x := by
  have hexec : exec (.rngRequestDone n) s = .next
      ((((s.draw (2 ^ 64)).2.dma a (freeBytes (s.draw (2 ^ 64)).1 len)).rngCount 4 len).rngEnd n .ok) := by
    change execRngRequestDone n s = _
    unfold execRngRequestDone
    simp only [hreq, hup, hst, Bool.not_true, Bool.false_or, bne_self_eq_false, Bool.false_eq_true, if_false]
  refine ⟨_, hexec, ?_⟩
  have hbytes (x : Nat) (hx : x < a ∨ a + len ≤ x) :
      (((s.draw (2 ^ 64)).2.dma a (freeBytes (s.draw (2 ^ 64)).1 len)).rngCount 4 len).byte x = s.byte x := by
    have hdraw : (s.draw (2 ^ 64)).2.byte x = s.byte x := rfl
    have hcount (t : State) : (t.rngCount 4 len).byte x = t.byte x := rfl
    rw [hcount, byte_dma_outside _ _ (by rwa [length_freeBytes]), hdraw]
  generalize ((s.draw (2 ^ 64)).2.dma a (freeBytes (s.draw (2 ^ 64)).1 len)).rngCount 4 len = u at hbytes ⊢
  obtain ⟨hreqs, hbusy, hresult, hbit, hmem⟩ := rngEnd_ok u hn
  exact ⟨hreqs, hbusy, hresult, hbit, fun x hx => (hmem x).trans (hbytes x hx)⟩

/-! ## The status command (R468) -/

theorem sec_respond (s : State) (o : Origin) (code : Nat) (st : Status) (rest : List Byte) : (s.respond o code st rest).sec = s.sec := by
  obtain ⟨x, y, h⟩ := respond_eq s o code st rest
  rw [h]

/-- What RNG_STATUS answers. -/
def State.rngReport (s : State) : List Byte :=
  leBytes 4 (s.regN A.rngStat) ++ ((List.range 8).map (fun k => leBytes 4 (s.regN (A.rngCtr k)))).flatten

theorem rngReport_taking (s : State) (o : Origin) : (s.taking o).rngReport = s.rngReport := by
  have hctr (k : Nat) : (s.taking o).regN (A.rngCtr k) = s.regN (A.rngCtr k) :=
    regN_taking_ne s o (by unfold A.rngCtr A.hslCtr; omega)
  unfold State.rngReport
  simp only [hctr, regN_taking_ne s o (show A.rngStat ≠ A.hslCtr 0 by decide)]

theorem completes_rngStatus {o : Origin} (ht : s.takes o 0x94 []) :
    Completes (.rngStatus o []) s fun t =>
      t.responded o (rspPayload 0x94 .ok s.rngReport) ∧ t.sec = s.sec ∧ s.sameMemory t := by
  have hanswer : handleRngStatus o [] (s.taking o) = (.now .ok s.rngReport, s.taking o) := by
    rw [← rngReport_taking s o]
    rfl
  have hsec : (s.taking o).sec = s.sec := rfl
  exact completes_of_answered rfl ht (by decide) hanswer
    ⟨State.responded_respond .., (sec_respond ..).trans hsec, sameMemory_respond (sameMemory_taking s o) o _ _ _⟩

/-- Settles O26: each step of the generator read back from STAT and its own state; failing ends requests and draws, which
leave what FAILED shows. -/
theorem randomNumbers : Obligations.RandomNumbers := by
  unfold Obligations.RandomNumbers
  refine fun s => ⟨fun hup => ⟨completes_rngWindow_run hup, completes_rngWindow_startup hup, fun test hlo hhi =>
    completes_rngHealthFail hup hlo hhi, completes_rngAutoRestart hup, fun w => completes_rngRestart hup, fun n w =>
    completes_rngRequest hup, fun n a len => completes_rngRequestDone hup⟩, fun o ht => completes_rngStatus ht⟩

end Sys2Proof.Machine
end

section
/-!
The crypto engine (R446-R452, R464): an operation starts, works in chunks, ends or is aborted.
-/

namespace Sys2Proof.Machine

variable {s : State} {c : Nat}

/-- A command with machine privilege is carried out (R3). -/
theorem guarded_machine (s t : State) : guarded false s t = .next t := rfl

/-! ## What the units' display leaves -/

theorem writesOnly_cryShow (s : State) : WritesOnly [A.cryStat] s s.cryShow := by
  unfold State.cryShow
  exact .setFld (f := F.cryStatPkctx) (.setFld (f := F.cryStatPkact) (.setFld (f := F.cryStatSymctx) (.setFld (f := F.cryStatSymact)
    (.setFld (f := F.cryStatBusy) (.refl _ s) (.head _)) (.head _)) (.head _)) (.head _)) (.head _)

theorem cryRes_ne (c : Nat) : A.cryRes c ≠ A.cryStat ∧ A.cryRes c ≠ A.cryIntstat := by
  unfold A.cryRes A.cryStat A.cryIntstat
  omega

/-- The context's own display stays when the units are shown. -/
theorem fld_cryShow (s : State) {f : Fld} (hf : f.addr ≠ A.cryStat) : s.cryShow.fld f = s.fld f :=
  (writesOnly_cryShow s).fld (by simpa using hf)

theorem ops_setUnit (s : State) (pk : Bool) (c : Nat) : (s.setUnit pk c).sec.ops = s.sec.ops := by
  unfold State.setUnit
  cases pk
  · rfl
  · rfl

theorem ops_passUnit (s : State) (pk : Bool) : (s.passUnit pk).sec.ops = s.sec.ops := by
  unfold State.passUnit
  split
  · exact ops_setUnit ..
  · rfl

theorem regN_setUnit (s : State) (pk : Bool) (c a : Nat) : (s.setUnit pk c).regN a = s.regN a := rfl

theorem byte_setUnit (s : State) (pk : Bool) (c a : Nat) : (s.setUnit pk c).byte a = s.byte a := rfl

theorem regN_passUnit (s : State) (pk : Bool) (a : Nat) : (s.passUnit pk).regN a = s.regN a := by
  unfold State.passUnit
  split
  · exact regN_setUnit ..
  · rfl

theorem fld_eq_of_regN {s t : State} {f : Fld} (h : t.regN f.addr = s.regN f.addr) : t.fld f = s.fld f := by
  rw [State.fld, h, State.fld]

theorem find?_setOp_self (s : State) (c : Nat) (o : CryOp) : Sparse.find? (s.setOp c o).sec.ops c = some o :=
  Sparse.find?_insert_self ..

theorem regN_setOp (s : State) (c : Nat) (o : CryOp) (a : Nat) : (s.setOp c o).regN a = s.regN a := rfl

theorem byte_setOp (s : State) (c : Nat) (o : CryOp) (a : Nat) : (s.setOp c o).byte a = s.byte a := rfl

/-! ## Starts and aborts (R449, R452) -/

/-- BUSY, CHUNKS and RESULT of an operation that starts. -/
def State.cryBegun (s : State) (c : Nat) : State :=
  ((s.setFld (F.cryResBusy c) 1).setFld (F.cryResChunks c) 0).setFld (F.cryResResult c) Status.pending.code

theorem cryBegun_shows (s : State) (c : Nat) :
    (s.cryBegun c).fld (F.cryResBusy c) = 1 ∧ (s.cryBegun c).fld (F.cryResChunks c) = 0
    ∧ (s.cryBegun c).fld (F.cryResResult c) = Status.pending.code ∧ WritesOnly [A.cryRes c] s (s.cryBegun c) := by
  refine ⟨?_, ?_, fld_setFld_at _ (by decide), ?_⟩
  · exact (fld_setFld_beside (i := 16) (w := 16) (j := 15) (v := 1) _ _).trans
      ((fld_setFld_beside (i := 0) (w := 12) (j := 15) (v := 1) _ _).trans (fld_setFld_at s (by decide)))
  · exact (fld_setFld_beside (i := 16) (w := 16) (j := 0) (v := 12) _ _).trans (fld_setFld_at _ (by decide))
  · exact .setFld (f := F.cryResResult c) (.setFld (f := F.cryResChunks c) (.setFld (f := F.cryResBusy c) (.refl _ s) (.head _))
      (.head _)) (.head _)

/-- An operation stands in its context, and an idle unit has taken it. -/
def State.opTaken (s : State) (c : Nat) (o : CryOp) : State :=
  let idle := (s.unitWork (algPk o.alg)).isEmpty
  let s := s.setOp c o
  let s := if idle then s.setUnit (algPk o.alg) c else s
  if algDraws o.alg then s.count (A.rngCtr 3) else s

theorem startOpOn_eq (s : State) (c : Nat) (o : CryOp) : s.startOpOn c o = ((s.opTaken c o).cryBegun c).cryShow := rfl

theorem opTaken_takes (s : State) (c : Nat) (o : CryOp) :
    Sparse.find? (s.opTaken c o).sec.ops c = some o ∧ s.sameMemory (s.opTaken c o) := by
  unfold State.opTaken
  dsimp only
  have hop := find?_setOp_self s c o
  have hmem : s.sameMemory (s.setOp c o) := byte_setOp s c o
  generalize s.setOp c o = u at hop hmem ⊢
  have hunit : Sparse.find? (if (s.unitWork (algPk o.alg)).isEmpty then u.setUnit (algPk o.alg) c else u).sec.ops c = some o
      ∧ s.sameMemory (if (s.unitWork (algPk o.alg)).isEmpty then u.setUnit (algPk o.alg) c else u) := by
    split
    · exact ⟨(congrArg (Sparse.find? · c) (ops_setUnit ..)).trans hop, fun b => (byte_setUnit ..).trans (hmem b)⟩
    · exact ⟨hop, hmem⟩
  generalize (if (s.unitWork (algPk o.alg)).isEmpty then u.setUnit (algPk o.alg) c else u) = v at hunit ⊢
  split
  · exact ⟨by rw [sec_count]; exact hunit.1, fun b => (byte_count ..).trans (hunit.2 b)⟩
  · exact hunit

theorem startOpOn_starts (s : State) (c : Nat) (o : CryOp) :
    Sparse.find? (s.startOpOn c o).sec.ops c = some o ∧ (s.startOpOn c o).fld (F.cryResBusy c) = 1
    ∧ (s.startOpOn c o).fld (F.cryResChunks c) = 0 ∧ (s.startOpOn c o).fld (F.cryResResult c) = Status.pending.code
    ∧ s.sameMemory (s.startOpOn c o) := by
  rw [startOpOn_eq]
  obtain ⟨hop, hmem⟩ := opTaken_takes s c o
  generalize s.opTaken c o = u at hop hmem ⊢
  obtain ⟨hbusy, hchunks, hresult, hw⟩ := cryBegun_shows u c
  have hsec : (u.cryBegun c).sec = u.sec := by rw [hw.rest]
  generalize u.cryBegun c = v at hbusy hchunks hresult hw hsec ⊢
  have hne := (cryRes_ne c).1
  refine ⟨by rw [sec_cryShow, hsec, hop], (fld_cryShow v hne).trans hbusy, (fld_cryShow v hne).trans hchunks,
    (fld_cryShow v hne).trans hresult, fun b => ?_⟩
  rw [(writesOnly_cryShow v).sameMemory b, hw.sameMemory b, hmem b]

theorem completes_cryptoStart (hup : s.comUp = true) (hc : c < 7) {w : Word} (hgo : bitAt w.toNat 31 = true)
    (hcode : (s.writeReg (A.cryCtl c) w).startCode c w.toNat ((s.writeReg (A.cryCtl c) w).cryOp c w.toNat) = .pending) :
    Completes (.cryptoStart c false w) s fun t =>
      Sparse.find? t.sec.ops c = some ((s.writeReg (A.cryCtl c) w).cryOp c w.toNat) ∧ t.fld (F.cryResBusy c) = 1
      ∧ t.fld (F.cryResChunks c) = 0 ∧ t.fld (F.cryResResult c) = Status.pending.code ∧ s.sameMemory t := by
  have hw : WritesOnly [A.cryCtl c] s (s.writeReg (A.cryCtl c) w) := .writeReg (.refl _ s) (.head _)
  have hexec : exec (.cryptoStart c false w) s = .next
      ((s.writeReg (A.cryCtl c) w).startOpOn c ((s.writeReg (A.cryCtl c) w).cryOp c w.toNat)) := by
    change guarded false s (if s.comUp then s.writeCryCtl c w else s) = _
    rw [if_pos hup, guarded_machine]
    refine congrArg Host.Outcome.next ?_
    unfold State.writeCryCtl
    rw [if_neg (Nat.not_le.2 hc)]
    dsimp only
    rw [if_pos hgo, if_pos hcode]
  refine ⟨_, hexec, ?_⟩
  generalize s.writeReg (A.cryCtl c) w = u at hw
  obtain ⟨hop, hbusy, hchunks, hresult, hmem⟩ := startOpOn_starts u c (u.cryOp c w.toNat)
  exact ⟨hop, hbusy, hchunks, hresult, fun b => (hmem b).trans (hw.sameMemory b)⟩

theorem completes_cryptoAbort (hup : s.comUp = true) (hc : c < 7) {w : Word} {op : CryOp} (hstart : bitAt w.toNat 31 = false)
    (habort : bitAt w.toNat 30 = true) (hop : Sparse.find? s.sec.ops c = some op) (hend : op.ended = none) :
    Completes (.cryptoAbort c false w) s fun t =>
      Sparse.find? t.sec.ops c = some { op with ended := some .cancelled } ∧ s.sameMemory t ∧ s.sameRegsBut t [A.cryCtl c] := by
  have hw : WritesOnly [A.cryCtl c] s (s.writeReg (A.cryCtl c) w) := .writeReg (.refl _ s) (.head _)
  have hsec : (s.writeReg (A.cryCtl c) w).sec = s.sec := by rw [hw.rest]
  have hexec : exec (.cryptoAbort c false w) s = .next
      ((s.writeReg (A.cryCtl c) w).setOp c { op with ended := some .cancelled }) := by
    change guarded false s (if s.comUp then s.writeCryCtl c w else s) = _
    rw [if_pos hup, guarded_machine]
    refine congrArg Host.Outcome.next ?_
    unfold State.writeCryCtl
    rw [if_neg (Nat.not_le.2 hc)]
    dsimp only
    rw [if_neg (by rw [hstart]; decide), if_pos habort, hsec, hop]
    dsimp only
    rw [if_pos (by rw [hend]; rfl)]
  refine ⟨_, hexec, find?_setOp_self .., fun b => (byte_setOp ..).trans (hw.sameMemory b), fun a ha => ?_⟩
  exact (BitVec.eq_of_toNat_eq (regN_setOp ..)).trans (hw.regs a ha)

/-! ## Chunks (R450) -/

/-- The output of a chunk reaches DST. -/
def State.chunkWritten (s : State) (o : CryOp) : State :=
  let lo := o.covered o.done
  let hi := o.covered (o.done + 1)
  if o.alg ≤ 3 && lo < hi then s.dma (o.dst + lo) (((s.cryText o).drop lo).take (hi - lo)) else s

theorem cryChunk_eq (s : State) (c : Nat) (o : CryOp) :
    s.cryChunk c o = (((s.count (A.cryCtr (if algPk o.alg then 5 else 4))).setFld (F.cryResChunks c)
      (min 4095 (o.done + 1))).chunkWritten o).setOp c { o with done := o.done + 1 } := rfl

theorem regN_chunkWritten (s : State) (o : CryOp) (a : Nat) : (s.chunkWritten o).regN a = s.regN a := by
  unfold State.chunkWritten
  dsimp only
  split
  · exact congrArg BitVec.toNat (reg_dma ..)
  · rfl

theorem cryChunk_advances (s : State) (c : Nat) (o : CryOp) :
    Sparse.find? (s.cryChunk c o).sec.ops c = some { o with done := o.done + 1 }
    ∧ (s.cryChunk c o).fld (F.cryResChunks c) = min 4095 (o.done + 1) := by
  rw [cryChunk_eq]
  generalize s.count _ = u
  have hset : (u.setFld (F.cryResChunks c) (min 4095 (o.done + 1))).fld (F.cryResChunks c) = min 4095 (o.done + 1) :=
    fld_setFld_at u (by omega)
  generalize u.setFld (F.cryResChunks c) (min 4095 (o.done + 1)) = v at hset ⊢
  refine ⟨find?_setOp_self .., (fld_eq_of_regN (regN_setOp ..)).trans ?_⟩
  exact (fld_eq_of_regN (regN_chunkWritten ..)).trans hset

theorem completes_cryptoChunk (hup : s.comUp = true) {pk : Bool} {op : CryOp} (hunit : s.unitAt pk = c)
    (hop : Sparse.find? s.sec.ops c = some op) (hpk : algPk op.alg = pk) (hend : op.ended = none)
    (hmore : pk = true ∨ op.done < op.chunks) :
    Completes (.cryptoChunk pk) s fun t =>
      Sparse.find? t.sec.ops c = some { op with done := op.done + 1 }
      ∧ t.fld (F.cryResChunks c) = min 4095 (op.done + 1) := by
  have hwork : (op.ended.isNone && (pk || decide (op.done < op.chunks))) = true := by
    rcases hmore with h | h <;> simp [hend, h]
  have hexec : exec (.cryptoChunk pk) s = .next (((s.cryChunk c op).passUnit pk).cryShow) := by
    change execCryptoChunk pk s = _
    unfold execCryptoChunk
    rw [if_neg (by simp [hup])]
    dsimp only
    rw [hunit, hop]
    dsimp only
    rw [if_neg (by simp [hpk]), if_pos hwork]
  refine ⟨_, hexec, ?_⟩
  obtain ⟨hdone, hchunks⟩ := cryChunk_advances s c op
  generalize s.cryChunk c op = u at hdone hchunks
  refine ⟨by rw [sec_cryShow, ops_passUnit, hdone], ?_⟩
  rw [fld_cryShow _ (cryRes_ne c).1, fld_eq_of_regN (regN_passUnit ..), hchunks]

/-! ## Ends (R452, R464) -/

/-- What is counted at the end of an operation, and the alarm's interrupt (R464). -/
def State.cryEndCounted (s : State) (st : Status) : State :=
  let s := if st = .ok then s.count (A.cryCtr 0) else s.count (A.cryCtr 1)
  let s := if st = .tamper then (s.count (A.cryCtr 2)).raise F.cryIntstatTamper else s
  if st = .authFail then s.count (A.cryCtr 3) else s

theorem cryEndShown_eq (s : State) (c : Nat) (st : Status) :
    s.cryEndShown c st = ((((s.setFld (F.cryResResult c) st.code).setFld (F.cryResBusy c) 0).setBit A.cryIntstat c).cryEndCounted
      st) := rfl

/-- The end's counts leave the context's display and its interrupt bit. -/
theorem cryEndCounted_keeps (s : State) {c : Nat} (hc : c < 7) (st : Status) :
    (s.cryEndCounted st).regN (A.cryRes c) = s.regN (A.cryRes c)
    ∧ (s.cryEndCounted st).bit A.cryIntstat c = s.bit A.cryIntstat c := by
  have hres (k : Nat) : A.cryRes c ≠ A.cryCtr k := by unfold A.cryRes A.cryCtr; omega
  have hint (k : Nat) : A.cryIntstat ≠ A.cryCtr k := by unfold A.cryIntstat A.cryCtr; omega
  have hcount (t : State) (k : Nat) : (t.count (A.cryCtr k)).regN (A.cryRes c) = t.regN (A.cryRes c)
      ∧ (t.count (A.cryCtr k)).bit A.cryIntstat c = t.bit A.cryIntstat c :=
    ⟨regN_count_ne t (hres k), bit_eq_of_regN (regN_count_ne t (hint k))⟩
  have hraise (t : State) : (t.raise F.cryIntstatTamper).regN (A.cryRes c) = t.regN (A.cryRes c)
      ∧ (t.raise F.cryIntstatTamper).bit A.cryIntstat c = t.bit A.cryIntstat c := by
    have hreg := State.regN_setFld t F.cryIntstatTamper 1 (by decide)
    refine ⟨regN_raise_ne t (cryRes_ne c).2, (congrArg (bitAt · c) hreg).trans ((bitAt_setBitsOf_one ..).trans (if_neg ?_))⟩
    exact Nat.ne_of_lt (Nat.lt_succ_of_lt hc)
  unfold State.cryEndCounted
  extract_lets u v
  have hu : u.regN (A.cryRes c) = s.regN (A.cryRes c) ∧ u.bit A.cryIntstat c = s.bit A.cryIntstat c := by
    unfold u
    split
    · exact hcount s 0
    · exact hcount s 1
  have hv : v.regN (A.cryRes c) = s.regN (A.cryRes c) ∧ v.bit A.cryIntstat c = s.bit A.cryIntstat c := by
    unfold v
    split
    · exact ⟨(hraise _).1.trans ((hcount u 2).1.trans hu.1), (hraise _).2.trans ((hcount u 2).2.trans hu.2)⟩
    · exact hu
  split
  · exact ⟨(hcount v 3).1.trans hv.1, (hcount v 3).2.trans hv.2⟩
  · exact hv

theorem cryEndShown_shows (s : State) {c : Nat} (hc : c < 7) (st : Status) :
    (s.cryEndShown c st).fld (F.cryResBusy c) = 0 ∧ (s.cryEndShown c st).fld (F.cryResResult c) = st.code
    ∧ (s.cryEndShown c st).bit A.cryIntstat c = true := by
  rw [cryEndShown_eq]
  have hbusy : ((s.setFld (F.cryResResult c) st.code).setFld (F.cryResBusy c) 0).fld (F.cryResBusy c) = 0 :=
    fld_setFld_at _ (by decide)
  have hres : ((s.setFld (F.cryResResult c) st.code).setFld (F.cryResBusy c) 0).fld (F.cryResResult c) = st.code :=
    (fld_setFld_beside _ _).trans (fld_setFld_at s (status_code_lt st))
  generalize (s.setFld (F.cryResResult c) st.code).setFld (F.cryResBusy c) 0 = u at hbusy hres ⊢
  have hbit := bit_setBit_self u A.cryIntstat (show c < 32 by omega)
  have hkept {f : Fld} (hf : f.addr = A.cryRes c) : (u.setBit A.cryIntstat c).fld f = u.fld f :=
    fld_eq_of_regN (State.regN_setRegN_ne u _ (by rw [hf]; exact (cryRes_ne c).2))
  rw [← hkept (f := F.cryResBusy c) rfl] at hbusy
  rw [← hkept (f := F.cryResResult c) rfl] at hres
  generalize u.setBit A.cryIntstat c = v at hbit hbusy hres
  obtain ⟨hreg, hint⟩ := cryEndCounted_keeps v hc st
  exact ⟨(fld_eq_of_regN hreg).trans hbusy, (fld_eq_of_regN hreg).trans hres, hint.trans hbit⟩

/-- An operation has left its context with a status. -/
structure CryEnded (c : Nat) (st : Status) (t : State) : Prop where
  gone : Sparse.find? t.sec.ops c = none
  idle : t.fld (F.cryResBusy c) = 0
  result : t.fld (F.cryResResult c) = st.code
  interrupt : t.bit A.cryIntstat c = true

theorem find?_cryDrop_self (s : State) (c : Nat) : Sparse.find? (s.cryDrop c).sec.ops c = none := Sparse.find?_erase_self ..

theorem cryEnd_ends (s : State) {c : Nat} (hc : c < 7) (o : CryOp) (st : Status) : CryEnded c st (s.cryEnd c o st) := by
  rw [cryEnd_eq]
  have hgone := find?_cryDrop_self s c
  generalize s.cryDrop c = u at hgone ⊢
  obtain ⟨hbusy, hres, hbit⟩ := cryEndShown_shows u hc st
  rw [← sec_cryEndShown u c st] at hgone
  generalize u.cryEndShown c st = v at hgone hbusy hres hbit ⊢
  have hpass : Sparse.find? (if v.unitAt (algPk o.alg) = c then v.passUnit (algPk o.alg) else v).sec.ops c = none
      ∧ ∀ a, (if v.unitAt (algPk o.alg) = c then v.passUnit (algPk o.alg) else v).regN a = v.regN a := by
    split
    · exact ⟨by rw [ops_passUnit, hgone], regN_passUnit v _⟩
    · exact ⟨hgone, fun _ => rfl⟩
  generalize (if v.unitAt (algPk o.alg) = c then v.passUnit (algPk o.alg) else v) = w at hpass ⊢
  obtain ⟨hgone', hregs⟩ := hpass
  refine ⟨by rw [sec_cryShow, hgone'], ?_, ?_, ?_⟩
  · rw [fld_cryShow _ (cryRes_ne c).1, fld_eq_of_regN (hregs _), hbusy]
  · rw [fld_cryShow _ (cryRes_ne c).1, fld_eq_of_regN (hregs _), hres]
  · have hint := congrArg BitVec.toNat ((writesOnly_cryShow w).regs A.cryIntstat (by decide))
    rw [bit_eq_of_regN (s := v) (hint.trans (hregs _)), hbit]

theorem cryFail_ends (s : State) {c : Nat} (hc : c < 7) (o : CryOp) (st : Status) : CryEnded c st (s.cryFail c o st) :=
  cryEnd_ends _ hc o st

theorem completes_cryptoDone_ended (hup : s.comUp = true) (hc : c < 7) {op : CryOp} {st : Status}
    (hop : Sparse.find? s.sec.ops c = some op) (hend : op.ended = some st) : Completes (.cryptoDone c) s (CryEnded c st) := by
  have hexec : exec (.cryptoDone c) s = .next (s.cryFail c op st) := by
    change execCryptoDone c s = _
    unfold execCryptoDone
    rw [if_neg (by simp [hup]), hop]
    dsimp only
    rw [hend]
  exact ⟨_, hexec, cryFail_ends s hc op st⟩

/-- An operation whose work is done leaves with OK, or with AUTH_FAIL where what it checks does not pass (R447, R452). -/
theorem completes_cryptoDone_worked (hup : s.comUp = true) (hc : c < 7) {op : CryOp}
    (hop : Sparse.find? s.sec.ops c = some op) (hend : op.ended = none) (hunit : s.unitAt (algPk op.alg) = c)
    (hdone : algPk op.alg = true ∨ op.chunks ≤ op.done) (hdraw : algDraws op.alg = false ∨ s.fld F.rngStatState = 2) :
    Completes (.cryptoDone c) s (CryEnded c (if (s.cryFinish op).1 then .ok else .authFail)) := by
  have hwork : ¬ (!(algPk op.alg || decide (op.chunks ≤ op.done)) || s.unitAt (algPk op.alg) != c) = true := by
    rw [hunit]
    rcases hdone with h | h <;> simp [h]
  have hrng : ¬ (algDraws op.alg && s.fld F.rngStatState != 2) = true := by
    rcases hdraw with h | h <;> simp [h]
  have hexec : exec (.cryptoDone c) s = .next (if (s.cryFinish op).1 then (s.cryFinish op).2.cryEnd c op .ok
      else (s.cryFinish op).2.cryFail c op .authFail) := by
    change execCryptoDone c s = _
    unfold execCryptoDone
    rw [if_neg (by simp [hup]), hop]
    dsimp only
    rw [hend]
    dsimp only
    rw [if_neg hwork, if_neg hrng]
  refine ⟨_, hexec, ?_⟩
  split
  · exact cryEnd_ends _ hc op .ok
  · exact cryFail_ends _ hc op .authFail

/-- Settles O25: what a START stands for waits in its context until its end erases it; the units pass on without touching a
context's display. -/
theorem cryptoOperations : Obligations.CryptoOperations := by
  unfold Obligations.CryptoOperations
  intro s c hup hc
  refine ⟨fun w hgo hcode => completes_cryptoStart hup hc hgo hcode, fun w op => completes_cryptoAbort hup hc, fun pk op =>
    completes_cryptoChunk hup, fun op hop => ⟨fun st hend => ?_, fun hend hunit hdone hdraw => ?_⟩⟩
  · exact (completes_cryptoDone_ended hup hc hop hend).mono fun t h => ⟨h.gone, h.idle, h.result, h.interrupt⟩
  · refine (completes_cryptoDone_worked hup hc hop hend hunit hdone hdraw).mono fun t h =>
      ⟨h.gone, h.idle, h.interrupt, h.result.trans ?_⟩
    split
    · rfl
    · rfl

end Sys2Proof.Machine
end

section
/-!
Tamper alarms (R459-R463, R468): what an alarm logs stands through everything that its class makes of it.
-/

namespace Sys2Proof.Machine

variable {s : State} {src : Nat}

/-! ## What an alarm leaves alone -/

theorem FabricFrame.trans {r s t : State} (h : FabricFrame r s) (g : FabricFrame s t) : FabricFrame r t where
  reg a ha := (g.reg a ha).trans (h.reg a ha)
  rest := by
    rw [g.rest]
    exact congrArg (fun u : State => { u with
      regs := t.regs, free := t.free, icu := t.icu, evf := t.evf,
      brd := { u.brd with heldEdges := t.brd.heldEdges, droppedEdges := t.brd.droppedEdges } }) h.rest

theorem FabricFrame.sameMemory {r s : State} (h : FabricFrame r s) : r.sameMemory s := by
  intro a
  rw [h.rest]
  rfl

theorem evLevel_frame (s : State) (code : Nat) (lv : Bool) : FabricFrame s (s.evLevel code lv) := by
  have hset (e : EvfState) : FabricFrame s (s.setEvf e) := ⟨fun _ _ => rfl, rfl⟩
  unfold State.evLevel
  split
  · exact ⟨fun _ _ => rfl, rfl⟩
  · generalize hu : s.setEvf _ = u
    have hsu : FabricFrame s u := hu ▸ hset _
    have hrest : RunsAll u (if u.prodHeld code then
        u.holdEdge code { level := lv, pulse := false, tick := u.evStamp.tick, lf := u.evStamp.lf } else u.evLevelAt code lv u.evStamp) :=
      .ite (RunsFabric.holdEdge (.refl _ u)) (RunsAll.evLevelAt (.refl _ u))
    exact hsu.trans hrest.frame

/-- The registers that the effects of an alarm may write after it has been logged: those of keys, crypto and random
numbers, of interrupts and events, the notices' counts, and the status of the store's erase. -/
abbrev alarmReg (a : Nat) : Prop :=
  (0x40500000 ≤ a ∧ a < 0x40520000) ∨ (0x40530000 ≤ a ∧ a < 0x40540000) ∨ (0x40600000 ≤ a ∧ a < 0x40620000)
    ∨ a = A.tmpStat ∨ a = A.hslCtr 6 ∨ a = A.hslIntstat

/-- What every effect of an alarm leaves: the log, the power state, and a slot that is empty, a seal and a store's erase
once they stand. -/
structure AlarmKeeps (r s : State) : Prop where
  reg : ∀ a, ¬ alarmReg a → s.reg a = r.reg a
  pw : s.pw = r.pw
  tick : s.tick = r.tick
  stat : ∀ k, k ≤ 10 → s.bit A.tmpStat k = r.bit A.tmpStat k
  empty : ∀ k, r.slotValid k = false → s.slotValid k = false
  sealed : r.sealed = true → s.sealed = true
  pending : r.flag F.tmpStatStorepend = true → s.flag F.tmpStatStorepend = true

namespace AlarmKeeps

variable {r t : State} {c : Prop} {i : Decidable c}

theorem refl (s : State) : AlarmKeeps s s := ⟨fun _ _ => rfl, rfl, rfl, fun _ _ => rfl, fun _ h => h, id, id⟩

theorem trans (h : AlarmKeeps r s) (g : AlarmKeeps s t) : AlarmKeeps r t where
  reg a ha := (g.reg a ha).trans (h.reg a ha)
  pw := g.pw.trans h.pw
  tick := g.tick.trans h.tick
  stat k hk := (g.stat k hk).trans (h.stat k hk)
  empty k hk := g.empty k (h.empty k hk)
  sealed hs := g.sealed (h.sealed hs)
  pending hs := g.pending (h.pending hs)

theorem ite (hs : AlarmKeeps r s) (ht : AlarmKeeps r t) : AlarmKeeps r (if c then s else t) := by
  split
  · exact hs
  · exact ht

/-- A write to a register that holds neither slots, nor the seal, nor the alarms. -/
theorem setRegN (h : AlarmKeeps r s) {a n : Nat} (ha : alarmReg a) (hvalid : a ≠ A.keyValid) (hseal : a ≠ A.keySeal)
    (hstat : a ≠ A.tmpStat) : AlarmKeeps r (s.setRegN a n) :=
  h.trans {
    reg := fun b hb => State.reg_setRegN_ne s n (by rintro rfl; exact hb ha)
    pw := rfl
    tick := rfl
    stat := fun k _ => bit_eq_of_regN (State.regN_setRegN_ne s n hstat.symm)
    empty := fun k hk => (bit_eq_of_regN (State.regN_setRegN_ne s n hvalid.symm)).trans hk
    sealed := fun hs => (flag_eq_of_regN (State.regN_setRegN_ne s n hseal.symm)).trans hs
    pending := fun hs => (flag_eq_of_regN (State.regN_setRegN_ne s n hstat.symm)).trans hs }

/-- The keys, the operations and the alarms that wait are no registers. -/
theorem withSec (h : AlarmKeeps r s) {x : SecState} : AlarmKeeps r { s with sec := x } :=
  h.trans ⟨fun _ _ => rfl, rfl, rfl, fun _ _ => rfl, fun _ h => h, id, id⟩

theorem withFcr (h : AlarmKeeps r s) {x : FcrState} : AlarmKeeps r { s with fcr := x } :=
  h.trans ⟨fun _ _ => rfl, rfl, rfl, fun _ _ => rfl, fun _ h => h, id, id⟩

theorem withRam (h : AlarmKeeps r s) {x : List (Nat × Byte)} : AlarmKeeps r { s with ram := x } :=
  h.trans ⟨fun _ _ => rfl, rfl, rfl, fun _ _ => rfl, fun _ h => h, id, id⟩

theorem notice (h : AlarmKeeps r s) {code : Nat} {payload : List Byte} : AlarmKeeps r (s.notice code payload) :=
  have ht := tells_notice s code payload
  h.trans {
    reg := fun a ha => ht.regs a (by
      rintro hmem
      simp only [List.mem_cons, List.not_mem_nil, or_false] at hmem
      rcases hmem with rfl | rfl <;> exact ha (by decide))
    pw := by rw [ht.rest]
    tick := by rw [ht.rest]
    stat := fun k _ => bit_eq_of_regN (ht.regN (by decide))
    empty := fun k hk => (bit_eq_of_regN (ht.regN (by decide))).trans hk
    sealed := fun hs => (ht.flag (by decide)).trans hs
    pending := fun hs => (ht.flag (by decide)).trans hs }

theorem setFld (h : AlarmKeeps r s) {f : Fld} {v : Nat} (ha : alarmReg f.addr) (hvalid : f.addr ≠ A.keyValid)
    (hseal : f.addr ≠ A.keySeal) (hstat : f.addr ≠ A.tmpStat) : AlarmKeeps r (s.setFld f v) :=
  h.setRegN ha hvalid hseal hstat

theorem raiseSeal (h : AlarmKeeps r s) : AlarmKeeps r (s.raise F.keySealSealed) :=
  h.trans {
    reg := fun b hb => State.reg_setRegN_ne s _ (by rintro rfl; exact hb (by decide))
    pw := rfl
    tick := rfl
    stat := fun k _ => bit_eq_of_regN (regN_raise_ne s (by decide))
    empty := fun k hk => (bit_eq_of_regN (regN_raise_ne s (by decide))).trans hk
    sealed := fun _ => flag_raise_at s
    pending := fun hs => (flag_eq_of_regN (regN_raise_ne s (by decide))).trans hs }

theorem raisePending (h : AlarmKeeps r s) : AlarmKeeps r (s.raise F.tmpStatStorepend) :=
  h.trans {
    reg := fun b hb => State.reg_setRegN_ne s _ (by rintro rfl; exact hb (by decide))
    pw := rfl
    tick := rfl
    stat := fun k hk => by
      have hreg := State.regN_setFld s F.tmpStatStorepend 1 (by decide)
      exact (congrArg (bitAt · k) hreg).trans ((bitAt_setBitsOf_one ..).trans (if_neg (show k ≠ 17 by omega)))
    empty := fun k hk => (bit_eq_of_regN (regN_raise_ne s (by decide))).trans hk
    sealed := fun hs => (flag_eq_of_regN (regN_raise_ne s (by decide))).trans hs
    pending := fun _ => flag_raise_at s }

end AlarmKeeps

/-! ## Slots (R443, R461) -/

theorem bitAt_of_mod (x : Nat) {j n : Nat} (h : bitAt (x % 2 ^ n) j = true) : bitAt x j = true := by
  by_cases hj : j < n
  · rwa [bitAt_mod_two_pow x hj] at h
  · have hlt : x % 2 ^ n < 2 ^ j := Nat.lt_of_lt_of_le (Nat.mod_lt _ (Nat.two_pow_pos n)) (Nat.pow_le_pow_right (by decide) (by omega))
    rw [bitAt, Nat.div_eq_of_lt hlt] at h
    cases h

theorem bit_clearBit_of (s : State) {a i j : Nat} (h : (s.clearBit a i).bit a j = true) : j ≠ i ∧ s.bit a j = true := by
  unfold State.clearBit State.bit at h
  rw [State.regN_setRegN_self] at h
  have h' := bitAt_of_mod _ h
  rw [bitAt_setBitsOf_one] at h'
  by_cases hj : j = i
  · rw [if_pos hj] at h'
    cases h'
  · exact ⟨hj, by rwa [if_neg hj] at h'⟩

theorem bit_clearBit_eq_false (s : State) {a i j : Nat} (h : j = i ∨ s.bit a j = false) : (s.clearBit a i).bit a j = false := by
  by_contra hc
  obtain ⟨hne, hbit⟩ := bit_clearBit_of s (Bool.not_eq_false _ ▸ hc)
  rcases h with h | h
  · exact hne h
  · rw [hbit] at h
    cases h

/-- A slot that is dropped is empty, and no other slot is filled. -/
theorem dropKey_drops (s : State) {k : Nat} (hk : k < 32) :
    AlarmKeeps s (s.dropKey k) ∧ (s.dropKey k).slotValid k = false := by
  have hclear : AlarmKeeps s (s.clearBit A.keyValid k) := {
    reg := fun b hb => State.reg_setRegN_ne s _ (by rintro rfl; exact hb (by decide))
    pw := rfl
    tick := rfl
    stat := fun j _ => bit_eq_of_regN (State.regN_setRegN_ne s _ (by decide))
    empty := fun j hj => bit_clearBit_eq_false s (.inr hj)
    sealed := fun hs => (flag_eq_of_regN (State.regN_setRegN_ne s _ (by decide))).trans hs
    pending := fun hs => (flag_eq_of_regN (State.regN_setRegN_ne s _ (by decide))).trans hs }
  have hempty : (s.clearBit A.keyValid k).slotValid k = false := bit_clearBit_eq_false s (.inl rfl)
  unfold State.dropKey
  generalize s.clearBit A.keyValid k = u at hclear hempty ⊢
  have hattr : AlarmKeeps u (u.setRegN (A.keyAttr k) 0) := by
    refine (AlarmKeeps.refl u).setRegN ?_ ?_ ?_ ?_
    all_goals unfold A.keyAttr
    · unfold alarmReg; omega
    · unfold A.keyValid; omega
    · unfold A.keySeal; omega
    · unfold A.tmpStat; omega
  generalize u.setRegN (A.keyAttr k) 0 = v at hattr ⊢
  have htxfc : AlarmKeeps v (if k < 16 then v.setRegN (A.keyTxfc k) 0 else v) := by
    refine .ite ((AlarmKeeps.refl v).setRegN ?_ ?_ ?_ ?_) (.refl v)
    all_goals unfold A.keyTxfc
    · unfold alarmReg; omega
    · unfold A.keyValid; omega
    · unfold A.keySeal; omega
    · unfold A.tmpStat; omega
  dsimp only
  generalize (if k < 16 then v.setRegN (A.keyTxfc k) 0 else v) = w at htxfc ⊢
  exact ⟨hclear.trans (hattr.trans htxfc.withSec), (hattr.trans htxfc.withSec).empty k hempty⟩

theorem foldl_dropKey (l : List Nat) (lo : Nat) (hl : ∀ k ∈ l, lo + k < 32) (s : State) :
    AlarmKeeps s (l.foldl (fun s k => s.dropKey (lo + k)) s)
    ∧ ∀ k ∈ l, (l.foldl (fun s k => s.dropKey (lo + k)) s).slotValid (lo + k) = false := by
  induction l generalizing s with
  | nil => exact ⟨.refl s, fun k hk => absurd hk List.not_mem_nil⟩
  | cons a l ih =>
    obtain ⟨hkeeps, hgone⟩ := dropKey_drops s (hl a (.head _))
    obtain ⟨hrest, hrest'⟩ := ih (fun k hk => hl k (.tail _ hk)) (s.dropKey (lo + a))
    refine ⟨hkeeps.trans hrest, fun k hk => ?_⟩
    rcases List.mem_cons.1 hk with rfl | hk
    · exact hrest.empty _ hgone
    · exact hrest' k hk

theorem wipeSlots_wipes (s : State) {lo n : Nat} (h : lo + n ≤ 32) :
    AlarmKeeps s (s.wipeSlots lo n) ∧ ∀ k, lo ≤ k → k < lo + n → (s.wipeSlots lo n).slotValid k = false := by
  obtain ⟨hkeeps, hgone⟩ := foldl_dropKey (List.range n) lo (fun k hk => by have := List.mem_range.1 hk; omega) s
  unfold State.wipeSlots
  dsimp only
  generalize (List.range n).foldl (fun s k => s.dropKey (lo + k)) s = u at hkeeps hgone ⊢
  have hraise : AlarmKeeps u (if (List.range n).any (fun k => s.slotValid (lo + k)) then u.raise F.keyIntstatWiped else u) :=
    .ite ((AlarmKeeps.refl u).setFld (by decide) (by decide) (by decide) (by decide)) (.refl u)
  refine ⟨hkeeps.trans hraise, fun k hlo hhi => hraise.empty k ?_⟩
  obtain ⟨j, rfl⟩ := Nat.exists_eq_add_of_le hlo
  exact hgone j (List.mem_range.2 (by omega))

/-! ## The classes' effects (R461) -/

theorem wipeRng_keeps (s : State) : AlarmKeeps s s.wipeRng := by
  have hset : AlarmKeeps s (s.setFld F.rngStatState 1) := (AlarmKeeps.refl s).setFld (by decide) (by decide) (by decide) (by decide)
  unfold State.wipeRng State.rngStartup
  exact hset.withSec.withSec

theorem wipeSession_wipes (s : State) :
    AlarmKeeps s s.wipeSession ∧ (s.domainOn .com = true → ∀ k, k < 16 → s.wipeSession.slotValid k = false) := by
  obtain ⟨hslots, hgone⟩ := wipeSlots_wipes s (lo := 0) (n := 16) (by decide)
  have hcom : AlarmKeeps (s.wipeSlots 0 16) (((s.wipeSlots 0 16).endOps (fun o => o.namesAny) .tamper).wipeRng) :=
    (AlarmKeeps.refl _).withSec.trans (wipeRng_keeps _)
  unfold State.wipeSession
  dsimp only
  generalize ((s.wipeSlots 0 16).endOps (fun o => o.namesAny) .tamper).wipeRng = u at hcom ⊢
  have hall : AlarmKeeps s (if s.domainOn .com then u else s) := .ite (hslots.trans hcom) (.refl s)
  have hempty : s.domainOn .com = true → ∀ k, k < 16 → (if s.domainOn .com then u else s).slotValid k = false := by
    intro hon k hk
    rw [if_pos hon]
    exact hcom.empty k (hgone k (Nat.zero_le k) (by omega))
  generalize (if s.domainOn .com then u else s) = v at hall hempty ⊢
  have hmacro : AlarmKeeps v (if v.flag F.tmpCtlWipeen then v.zeroMacro (v.fld F.tmpCtlWipemac) else v) :=
    .ite (AlarmKeeps.refl v).withRam (.refl v)
  exact ⟨hall.trans hmacro, fun hon k hk => hmacro.empty k (hempty hon k hk)⟩

theorem wipeAll_wipes (s : State) :
    AlarmKeeps s s.wipeAll ∧ s.wipeAll.flag F.tmpStatStorepend = true ∧ (s.domainOn .com = true → s.wipeAll.sealed = true) := by
  obtain ⟨hslots, -⟩ := wipeSlots_wipes s (lo := 16) (n := 16) (by decide)
  unfold State.wipeAll
  dsimp only
  have hseal : ((s.wipeSlots 16 16).raise F.keySealSealed).sealed = true := flag_raise_at _
  have hraise := (AlarmKeeps.refl (s.wipeSlots 16 16)).raiseSeal
  generalize (s.wipeSlots 16 16).raise F.keySealSealed = u at hseal hraise ⊢
  have hall : AlarmKeeps s (if s.domainOn .com then u else s) := .ite (hslots.trans hraise) (.refl s)
  have hsealed : s.domainOn .com = true → (if s.domainOn .com then u else s).sealed = true := by
    intro hon
    rw [if_pos hon]
    exact hseal
  generalize (if s.domainOn .com then u else s) = v at hall hsealed ⊢
  have hpend := (AlarmKeeps.refl v).raisePending
  exact ⟨hall.trans hpend, flag_raise_at v, fun hon => hpend.sealed (hsealed hon)⟩

theorem alarmNotice_keeps (s : State) (p : List Byte) : AlarmKeeps s (s.alarmNotice p) :=
  .ite (AlarmKeeps.refl s).notice (AlarmKeeps.refl s).withSec

theorem alarmBist_keeps (s : State) : AlarmKeeps s s.alarmBist := by
  unfold State.alarmBist
  split
  · exact .ite (AlarmKeeps.refl s).withFcr (.refl s)
  · exact .refl s

/-! ## The log (R461) -/

/-- The count and the last source and class of the log. -/
def State.evlogShown (s : State) (src cls : Nat) : State :=
  ((s.satCount F.tmpEvlogCount).setFld F.tmpEvlogLastclass cls).setFld F.tmpEvlogLastsrc src

theorem evlogShown_shows (s : State) {src cls : Nat} (hsrc : src ≤ 10) (hcls : cls ≤ 3) :
    WritesOnly [A.tmpEvlog] s (s.evlogShown src cls) ∧ (s.evlogShown src cls).fld F.tmpEvlogLastsrc = src
    ∧ (s.evlogShown src cls).fld F.tmpEvlogLastclass = cls := by
  unfold State.evlogShown
  refine ⟨((WritesOnly.satCount (f := F.tmpEvlogCount) (.refl _ s) (.head _)).setFld (f := F.tmpEvlogLastclass)).setFld
    (f := F.tmpEvlogLastsrc), fld_setFld_at _ (show src < 2 ^ 4 by omega), ?_⟩
  exact (fld_setFld_beside _ _).trans (fld_setFld_at _ (show cls < 2 ^ 2 by omega))

/-- What an alarm shows in the TMP registers. -/
def State.alarmShown (s : State) (src cls : Nat) : State :=
  (((s.setBit A.tmpStat src).setBit A.tmpLatch src).evlogShown src cls).setBit A.tmpIntstat src

theorem alarmLog_eq (s : State) (src cls : Nat) : s.alarmLog src cls = (s.alarmShown src cls).evLevel 0x1C7 true := rfl

/-- An alarm has been logged. -/
structure AlarmLogged (src cls : Nat) (s t : State) : Prop where
  stat : t.bit A.tmpStat src = true
  latch : t.bit A.tmpLatch src = true
  interrupt : t.bit A.tmpIntstat src = true
  lastSrc : t.fld F.tmpEvlogLastsrc = src
  lastClass : t.fld F.tmpEvlogLastclass = cls
  reg : ∀ a, a ∉ [A.tmpStat, A.tmpLatch, A.tmpEvlog, A.tmpIntstat] → ¬ alarmReg a → t.reg a = s.reg a
  pw : t.pw = s.pw
  tick : t.tick = s.tick
  sec : t.sec = s.sec
  memory : s.sameMemory t

theorem alarmShown_logs (s : State) {src cls : Nat} (hsrc : src ≤ 10) (hcls : cls ≤ 3) : AlarmLogged src cls s (s.alarmShown src cls) := by
  unfold State.alarmShown
  have h1 : WritesOnly [A.tmpStat] s (s.setBit A.tmpStat src) := .setBit (.refl _ s) (.head _)
  have hstat := bit_setBit_self s A.tmpStat (show src < 32 by omega)
  generalize s.setBit A.tmpStat src = s1 at h1 hstat ⊢
  have h2 : WritesOnly [A.tmpLatch] s1 (s1.setBit A.tmpLatch src) := .setBit (.refl _ s1) (.head _)
  have hlatch := bit_setBit_self s1 A.tmpLatch (show src < 32 by omega)
  generalize s1.setBit A.tmpLatch src = s2 at h2 hlatch ⊢
  obtain ⟨h3, hlast, hclass⟩ := evlogShown_shows s2 hsrc hcls
  generalize s2.evlogShown src cls = s3 at h3 hlast hclass ⊢
  have h4 : WritesOnly [A.tmpIntstat] s3 (s3.setBit A.tmpIntstat src) := .setBit (.refl _ s3) (.head _)
  have hint := bit_setBit_self s3 A.tmpIntstat (show src < 32 by omega)
  generalize s3.setBit A.tmpIntstat src = s4 at h4 hint ⊢
  have hreg {l : List Nat} {x y : State} (h : WritesOnly l x y) {a k : Nat} (ha : a ∉ l) : y.bit a k = x.bit a k :=
    bit_eq_of_regN (congrArg BitVec.toNat (h.regs a ha))
  refine ⟨?_, ?_, hint, (h4.fld (by decide)).trans hlast, (h4.fld (by decide)).trans hclass, fun a ha _ => ?_, ?_, ?_, ?_, ?_⟩
  · rw [hreg h4 (by decide), hreg h3 (by decide), hreg h2 (by decide), hstat]
  · rw [hreg h4 (by decide), hreg h3 (by decide), hlatch]
  · simp only [List.mem_cons, List.not_mem_nil, or_false, not_or] at ha
    obtain ⟨ha1, ha2, ha3, ha4⟩ := ha
    rw [h4.regs a (by simpa using ha4), h3.regs a (by simpa using ha3), h2.regs a (by simpa using ha2),
      h1.regs a (by simpa using ha1)]
  · rw [h4.pw, h3.pw, h2.pw, h1.pw]
  · rw [h4.rest, h3.rest, h2.rest, h1.rest]
  · rw [h4.rest, h3.rest, h2.rest, h1.rest]
  · intro b
    rw [h4.sameMemory b, h3.sameMemory b, h2.sameMemory b, h1.sameMemory b]

theorem alarmLog_logs (s : State) {src cls : Nat} (hsrc : src ≤ 10) (hcls : cls ≤ 3) : AlarmLogged src cls s (s.alarmLog src cls) := by
  rw [alarmLog_eq]
  have h := alarmShown_logs s hsrc hcls
  generalize s.alarmShown src cls = u at h ⊢
  have hf := evLevel_frame u 0x1C7 true
  generalize u.evLevel 0x1C7 true = v at hf ⊢
  have hbit {a k : Nat} (ha : ¬ (0x40600000 ≤ a ∧ a < 0x40620000)) : v.bit a k = u.bit a k := bit_eq_of_regN (hf.regN ha)
  refine ⟨(hbit (by decide)).trans h.stat, (hbit (by decide)).trans h.latch, (hbit (by decide)).trans h.interrupt,
    (hf.fld (by decide)).trans h.lastSrc, (hf.fld (by decide)).trans h.lastClass, fun a ha hna => ?_, hf.pw.trans h.pw, ?_, ?_, ?_⟩
  · exact (hf.reg a (by unfold alarmReg at hna; omega)).trans (h.reg a ha hna)
  · rw [hf.rest, ← h.tick]
  · rw [hf.rest, ← h.sec]
  · exact fun b => (hf.sameMemory b).trans (h.memory b)

/-! ## Alarms -/

/-- The flags of the notice (R469). -/
def State.alarmFlags (s : State) (src : Nat) : Nat :=
  let cls := s.tmpClassOf src
  let asleep := s.pw.boot == .run && (s.dormant || s.pw.wSleep)
  let aborted := (1 ≤ cls || s.inStartup) && s.sec.ops.any (fun p => p.2.namesAny && p.2.ended.isNone)
  b2n s.inStartup + 2 * b2n asleep + 4 * b2n aborted + 8 * b2n (2 ≤ cls)

/-- The wipes of an alarm's class (R461). -/
def State.alarmWipes (s : State) (cls : Nat) : State :=
  let s := if 1 ≤ cls then s.wipeSession else s
  (if 2 ≤ cls then s.wipeAll else s).wipeMoment

/-- What follows the wipes, whatever the class: the notice, and the end of a BIST run (R462, R573). -/
def State.alarmTold (s : State) (src cls flags : Nat) : State := (s.alarmNotice (s.alarmPayload src cls flags)).alarmBist

theorem tamperAlarm_eq (s : State) (src : Nat) :
    s.tamperAlarm src =
      ((((s.alarmLog src (s.tmpClassOf src)).alarmWipes (s.tmpClassOf src)).alarmTold src (s.tmpClassOf src)
        (s.alarmFlags src)).alarmMode).alarmHalt (s.tmpClassOf src) := rfl

theorem wipeMoment_running (hboot : s.pw.boot = .run) (hsleep : s.pw.wSleep = false) : s.wipeMoment = s := by
  have hstart : s.inStartup = false := by simp [State.inStartup, hboot]
  unfold State.wipeMoment
  rw [if_neg (by rw [hstart]; decide), if_neg (by rw [hsleep]; decide)]

theorem alarmMode_running (hdormant : s.dormant = false) (hsleep : s.pw.wSleep = false) (htrans : s.pw.trans = none) :
    s.alarmMode = s := by
  unfold State.alarmMode
  simp only [htrans, hdormant, hsleep, Bool.false_eq_true, if_false]

theorem AlarmKeeps.domainOn_com {r s : State} (h : AlarmKeeps r s) : s.domainOn .com = r.domainOn .com :=
  bit_eq_of_regN (congrArg BitVec.toNat (h.reg A.pmuDomstat (by decide)))

theorem AlarmKeeps.mode {r s : State} (h : AlarmKeeps r s) : s.mode = r.mode :=
  fld_eq_of_regN (congrArg BitVec.toNat (h.reg A.pmuModestat (by decide)))

/-- What the wipes of each class do (R461). -/
theorem alarmWipes_wipes (s : State) (cls : Nat) (hboot : s.pw.boot = .run) (hsleep : s.pw.wSleep = false) :
    AlarmKeeps s (s.alarmWipes cls)
    ∧ (1 ≤ cls → s.domainOn .com = true → ∀ k, k < 16 → (s.alarmWipes cls).slotValid k = false)
    ∧ (2 ≤ cls → (s.alarmWipes cls).flag F.tmpStatStorepend = true
        ∧ (s.domainOn .com = true → (s.alarmWipes cls).sealed = true))
    ∧ (cls = 0 → s.alarmWipes cls = s) := by
  obtain ⟨hsession, hslots⟩ := wipeSession_wipes s
  have hfirst : AlarmKeeps s (if 1 ≤ cls then s.wipeSession else s) := .ite hsession (.refl s)
  have hfirst' : 1 ≤ cls → s.domainOn .com = true → ∀ k, k < 16 → (if 1 ≤ cls then s.wipeSession else s).slotValid k = false := by
    intro h hon
    rw [if_pos h]
    exact hslots hon
  have hzero : cls = 0 → (if 1 ≤ cls then s.wipeSession else s) = s := fun h => if_neg (by omega)
  unfold State.alarmWipes
  dsimp only
  generalize (if 1 ≤ cls then s.wipeSession else s) = u at hfirst hfirst' hzero ⊢
  obtain ⟨hall, hpend, hseal⟩ := wipeAll_wipes u
  have hsecond : AlarmKeeps u (if 2 ≤ cls then u.wipeAll else u) := .ite hall (.refl u)
  have hboth := hfirst.trans hsecond
  have hstays : (if 2 ≤ cls then u.wipeAll else u).wipeMoment = if 2 ≤ cls then u.wipeAll else u :=
    wipeMoment_running (by rw [hboth.pw, hboot]) (by rw [hboth.pw, hsleep])
  rw [hstays]
  refine ⟨hboth, fun h hon k hk => hsecond.empty k (hfirst' h hon k hk), fun h => ?_, fun h => ?_⟩
  · rw [if_pos h]
    exact ⟨hpend, fun hon => hseal (hfirst.domainOn_com.trans hon)⟩
  · rw [if_neg (by omega), hzero h]

theorem alarmTold_keeps (s : State) (src cls flags : Nat) : AlarmKeeps s (s.alarmTold src cls flags) := by
  unfold State.alarmTold
  exact (alarmNotice_keeps ..).trans (alarmBist_keeps _)

/-- The notice of an alarm writes no memory and loads no key. -/
theorem alarmTold_harmless (s : State) (src cls flags : Nat) :
    s.sameMemory (s.alarmTold src cls flags) ∧ (s.alarmTold src cls flags).sec.keys = s.sec.keys := by
  unfold State.alarmTold
  generalize s.alarmPayload src cls flags = p
  have hnotice : s.sameMemory (s.alarmNotice p) ∧ (s.alarmNotice p).sec.keys = s.sec.keys := by
    have ht := tells_notice s 0xCD p
    unfold State.alarmNotice
    split
    · exact ⟨ht.sameMemory, by rw [ht.sec]⟩
    · exact ⟨fun _ => rfl, rfl⟩
  generalize s.alarmNotice p = u at hnotice ⊢
  unfold State.alarmBist
  split
  · split
    · exact hnotice
    · exact hnotice
  · exact hnotice

theorem exec_tamperAlarm_on (hsrc : src ≤ 10) (hon : s.tmpOn src = true) (hstat : s.bit A.tmpStat src = false)
    (hboot : s.pw.boot = .run) : exec (.tamperAlarm src true) s = .next (s.tamperAlarm src) := by
  have hcond : ¬ (decide (10 < src) || s.pw.boot == .off) = true := by simp [hboot, hsrc]
  change execTamperAlarm src true s = _
  unfold execTamperAlarm
  rw [if_neg hcond, if_pos rfl, if_pos (by simp [hon, hstat])]

/-- An alarm in W-ACTIVE up to its class's reset: the log and the effects stand (R461, R462). -/
structure Alarmed (src : Nat) (s t : State) : Prop where
  stat : t.bit A.tmpStat src = true
  latch : t.bit A.tmpLatch src = true
  interrupt : t.bit A.tmpIntstat src = true
  lastSrc : t.fld F.tmpEvlogLastsrc = src
  lastClass : s.tmpClassOf src ≤ 3 → t.fld F.tmpEvlogLastclass = s.tmpClassOf src
  slots : 1 ≤ s.tmpClassOf src → s.domainOn .com = true → ∀ k, k < 16 → t.slotValid k = false
  pending : 2 ≤ s.tmpClassOf src → t.flag F.tmpStatStorepend = true
  sealed : 2 ≤ s.tmpClassOf src → s.domainOn .com = true → t.sealed = true
  harmless : s.tmpClassOf src = 0 → s.sameMemory t ∧ t.sec.keys = s.sec.keys
  pw : t.pw = s.pw
  tick : t.tick = s.tick
  mode : t.mode = s.mode

theorem alarmed_of_running (hsrc : src ≤ 10) (hboot : s.pw.boot = .run) (hsleep : s.pw.wSleep = false)
    (hcls : s.tmpClassOf src ≤ 3) :
    Alarmed src s (((s.alarmLog src (s.tmpClassOf src)).alarmWipes (s.tmpClassOf src)).alarmTold src (s.tmpClassOf src)
      (s.alarmFlags src)) := by
  generalize hc : s.tmpClassOf src = cls at hcls
  generalize s.alarmFlags src = flags
  have hlog := alarmLog_logs s hsrc hcls
  generalize s.alarmLog src cls = u at hlog ⊢
  obtain ⟨hwipes, hslots, hall, hzero⟩ := alarmWipes_wipes u cls (by rw [hlog.pw, hboot]) (by rw [hlog.pw, hsleep])
  generalize u.alarmWipes cls = v at hwipes hslots hall hzero ⊢
  have htold := alarmTold_keeps v src cls flags
  have hharmless := alarmTold_harmless v src cls flags
  generalize v.alarmTold src cls flags = w at htold hharmless ⊢
  have hkeeps := hwipes.trans htold
  have hbit {a k : Nat} (ha : ¬ alarmReg a) : w.bit a k = u.bit a k := bit_eq_of_regN (congrArg BitVec.toNat (hkeeps.reg a ha))
  have hfld {f : Fld} (ha : ¬ alarmReg f.addr) : w.fld f = u.fld f := fld_eq_of_regN (congrArg BitVec.toNat (hkeeps.reg _ ha))
  have hcom : u.domainOn .com = s.domainOn .com :=
    bit_eq_of_regN (congrArg BitVec.toNat (hlog.reg A.pmuDomstat (by decide) (by decide)))
  have hmode : u.mode = s.mode := fld_eq_of_regN (congrArg BitVec.toNat (hlog.reg A.pmuModestat (by decide) (by decide)))
  exact {
    stat := (hkeeps.stat src hsrc).trans hlog.stat
    latch := (hbit (by decide)).trans hlog.latch
    interrupt := (hbit (by decide)).trans hlog.interrupt
    lastSrc := (hfld (by decide)).trans hlog.lastSrc
    lastClass := fun _ => (hfld (by decide)).trans (hlog.lastClass.trans hc.symm)
    slots := fun h hon k hk => htold.empty k (hslots (hc ▸ h) (hcom.trans hon) k hk)
    pending := fun h => htold.pending (hall (hc ▸ h)).1
    sealed := fun h hon => htold.sealed ((hall (hc ▸ h)).2 (hcom.trans hon))
    harmless := fun h => by
      rw [hzero (hc ▸ h)] at hharmless
      exact ⟨fun b => (hharmless.1 b).trans (hlog.memory b), hharmless.2.trans (by rw [hlog.sec])⟩
    pw := hkeeps.pw.trans hlog.pw
    tick := hkeeps.tick.trans hlog.tick
    mode := hkeeps.mode.trans hmode }

theorem completes_tamperAlarm (hsrc : src ≤ 10) (hon : s.tmpOn src = true) (hstat : s.bit A.tmpStat src = false)
    (hboot : s.pw.boot = .run) (hdormant : s.dormant = false) (hsleep : s.pw.wSleep = false) (htrans : s.pw.trans = none)
    (hcls : s.tmpClassOf src ≤ 2) : Completes (.tamperAlarm src true) s (Alarmed src s) := by
  refine ⟨_, exec_tamperAlarm_on hsrc hon hstat hboot, ?_⟩
  rw [tamperAlarm_eq]
  have h := alarmed_of_running hsrc hboot hsleep (by omega)
  generalize State.alarmTold _ _ _ _ = u at h ⊢
  rw [alarmMode_running (by unfold State.dormant; rw [h.mode]; exact hdormant) (by rw [h.pw, hsleep]) (by rw [h.pw, htrans])]
  have hlow : (decide (s.tmpClassOf src < 3) || u.inStartup) = true := by simp [show s.tmpClassOf src < 3 by omega]
  rw [show u.alarmHalt (s.tmpClassOf src) = u from if_pos hlow]
  exact h

/-! ### The reset of class 3 (R134, R461) -/

/-- A reset of SYSTEM scope leaves the registers of PD_AON that are not the fabric's or the mode controller's. -/
theorem regN_resetSystem (s : State) {a : Nat} (haon : regDomain a = .aon) (hfab : ¬ (0x40600000 ≤ a ∧ a < 0x40610000))
    (hne : a ∉ [A.pmuModestat, A.pmuModehist, A.pmuDomstat, A.pmuStat]) : s.resetSystem.regN a = s.regN a := by
  have hfabric : s.resetFabric.regN a = s.regN a := by
    have hkept : (regDomain a == Domain.aon && !(decide (0x40600000 ≤ a) && decide (a < 0x40610000))) = true := by
      simp only [haon, beq_self_eq_true, Bool.true_and, Bool.not_eq_true', Bool.and_eq_false_iff, decide_eq_false_iff_not]
      omega
    have hfind := Sparse.find?_filter_kept s.regs
      (p := fun a => regDomain a == Domain.aon && !(0x40600000 ≤ a && a < 0x40610000)) (k := a) hkept
    exact congrArg (fun o : Option Word => (o.getD (regReset a)).toNat) hfind
  unfold State.resetSystem
  generalize s.resetFabric = u at hfabric ⊢
  obtain ⟨hstat, hhist, hdom, hpmu⟩ : a ≠ A.pmuModestat ∧ a ≠ A.pmuModehist ∧ a ≠ A.pmuDomstat ∧ a ≠ A.pmuStat := by
    simpa only [List.mem_cons, List.not_mem_nil, or_false, not_or] using hne
  have hlower (v : State) {f : Fld} (hf : f.addr = A.pmuStat) : (v.lower f).regN a = v.regN a :=
    State.regN_setRegN_ne v _ (by rw [hf]; exact hpmu)
  have hxref (v : State) : v.xrefStop.regN a = v.regN a := hlower v rfl
  have hpw {v : State} {x : PowerState} {n : Nat} (h : v.regN a = n) : ({ v with pw := x } : State).regN a = n := h
  unfold State.resetModeController
  refine hpw ?_
  rw [hxref, hlower _ rfl, hlower _ rfl, hlower _ rfl, hlower _ rfl, State.regN_setRegN_ne _ _ hdom,
    State.regN_setRegN_ne _ _ hhist, regN_setFld_ne (f := F.pmuModestatPfail) _ _ hstat, State.regN_setRegN_ne _ _ hstat, hfabric]

theorem boot_resetSystem (s : State) : s.resetSystem.pw.boot = .startup := by
  unfold State.resetSystem State.resetModeController
  generalize State.xrefStop _ = u
  rfl

theorem boot_resetAlwaysOn (s : State) : s.resetAlwaysOn.pw.boot = .startup := by
  unfold State.resetAlwaysOn
  generalize s.resetSystem = u
  rfl

/-- The reset of a scope of SYSTEM (2) or ALWAYS-ON (3) (R134). -/
def State.resetScope (s : State) (scope : Nat) : State := if scope = 3 then s.resetAlwaysOn else s.resetSystem

theorem boot_resetScope (s : State) (scope : Nat) : (s.resetScope scope).pw.boot = .startup := by
  unfold State.resetScope
  split
  · exact boot_resetAlwaysOn s
  · exact boot_resetSystem s

/-- The RST records of a reset of SYSTEM or ALWAYS-ON scope that is alone in its tick (R149, R150). -/
def State.resetRecorded (u : State) (scope code mode : Nat) : State :=
  let u := (u.setBit A.rstCausehist code).satCount F.rstRstcountCount
  let u := ((u.setFld F.rstCauseMode mode).setFld F.rstCauseScope scope).setFld F.rstCauseCode code
  u.setFld F.rstCausePadheld (b2n (!u.pw.held.isEmpty))

/-- A reset has been recorded: its scope and its code, beside the records of those before it. -/
structure ResetRecorded (scope code : Nat) (u t : State) : Prop where
  writes : WritesOnly [A.rstCausehist, A.rstRstcount, A.rstCause] u t
  scope : t.fld F.rstCauseScope = scope
  code : t.fld F.rstCauseCode = code

theorem resetRecorded_records (u : State) {scope code : Nat} (hscope : scope < 2 ^ 3) (hcode : code < 2 ^ 8) (mode : Nat) :
    ResetRecorded scope code u (u.resetRecorded scope code mode) := by
  unfold State.resetRecorded
  dsimp only
  have hcount : WritesOnly [A.rstCausehist, A.rstRstcount, A.rstCause] u
      ((u.setBit A.rstCausehist code).satCount F.rstRstcountCount) :=
    ((WritesOnly.refl _ u).setBit (by decide)).satCount (f := F.rstRstcountCount) (by decide)
  generalize (u.setBit A.rstCausehist code).satCount F.rstRstcountCount = v at hcount ⊢
  refine ⟨(((hcount.setFld (f := F.rstCauseMode)).setFld (f := F.rstCauseScope)).setFld (f := F.rstCauseCode)).setFld
    (f := F.rstCausePadheld), ?_, ?_⟩
  · exact (fld_setFld_beside _ _).trans ((fld_setFld_beside _ _).trans (fld_setFld_at _ hscope))
  · exact (fld_setFld_beside _ _).trans (fld_setFld_at _ hcode)

theorem bit_setPw (s : State) (x : PowerState) (a k : Nat) : ({ s with pw := x } : State).bit a k = s.bit a k := rfl
theorem fld_setPw (s : State) (x : PowerState) (f : Fld) : ({ s with pw := x } : State).fld f = s.fld f := rfl
theorem pw_setPw (s : State) (x : PowerState) : ({ s with pw := x } : State).pw = x := rfl

/-- A source that resets, alone in its tick, a part that is not held: BIST ends with its own source only (R136-R138, R573). -/
theorem assertReset_alone (s : State) {scope code : Nat} (hscope : scope = 2 ∨ scope = 3) (hcode : code < 2 ^ 8)
    (hheld : s.pw.boot ≠ .held) (hbist : s.pw.boot ≠ .bist ∨ code = 12) (halone : ∀ x, s.pw.lastReset = some x → x.1 ≠ s.tick) :
    ∃ u x, ResetRecorded scope code (s.resetScope scope) u ∧ s.assertReset scope code = { u with pw := x } ∧ x.boot = .startup := by
  have hreset := boot_resetScope s scope
  have hrec := resetRecorded_records (s.resetScope scope) (show scope < 2 ^ 3 by omega) hcode s.mode
  have hexec : ∃ x : PowerState, x.boot = (s.resetScope scope |>.resetRecorded scope code s.mode).pw.boot
      ∧ s.assertReset scope code = { (s.resetScope scope).resetRecorded scope code s.mode with pw := x } := by
    have hguard : ¬ (s.pw.boot == .bist && decide (scope = 2) && code != 12) = true := by
      rcases hbist with h | h
      · simp [h]
      · simp [h]
    have hmax : ¬ scope = 4 := by omega
    have hcount : (scope != 4) = true := by simpa using hmax
    unfold State.assertReset State.resetScope
    rw [if_neg hguard, if_neg hmax, hcount]
    generalize s.mode = mode
    generalize (if scope = 3 then s.resetAlwaysOn else s.resetSystem) = u
    cases hlast : s.pw.lastReset with
    | none => exact ⟨_, if_neg (by simpa using hheld), rfl⟩
    | some x =>
      obtain ⟨tick, sc, cd⟩ := x
      dsimp only
      rw [if_neg (halone _ hlast)]
      exact ⟨_, if_neg (by simpa using hheld), rfl⟩
  obtain ⟨x, hboot, heq⟩ := hexec
  exact ⟨_, x, hrec, heq, hboot.trans ((congrArg PowerState.boot hrec.writes.pw).trans hreset)⟩

/-- What the reset of an alarm of class 3 shows (R137, R149, R461). -/
theorem assertReset_tamper (hboot : s.pw.boot = .run) (halone : ∀ x, s.pw.lastReset = some x → x.1 ≠ s.tick) :
    (s.assertReset 2 5).pw.boot = .startup ∧ (s.assertReset 2 5).fld F.rstCauseScope = 2
    ∧ (s.assertReset 2 5).fld F.rstCauseCode = 5 ∧ ∀ k, (s.assertReset 2 5).bit A.tmpLatch k = s.bit A.tmpLatch k := by
  obtain ⟨u, x, hrec, heq, hx⟩ := assertReset_alone s (scope := 2) (.inl rfl) (code := 5) (by decide) (by rw [hboot]; decide)
    (.inl (by rw [hboot]; decide)) halone
  have hlatch : (s.resetScope 2).regN A.tmpLatch = s.regN A.tmpLatch := regN_resetSystem s (by decide) (by decide) (by decide)
  rw [heq]
  refine ⟨(congrArg PowerState.boot (pw_setPw ..)).trans hx, (fld_setPw ..).trans hrec.scope, (fld_setPw ..).trans hrec.code, fun k => ?_⟩
  rw [bit_setPw]
  exact bit_eq_of_regN ((congrArg BitVec.toNat (hrec.writes.regs _ (by decide))).trans hlatch)

/-- An alarm of class 3 in W-ACTIVE (R461). -/
theorem completes_tamperHalt (hsrc : src ≤ 10) (hon : s.tmpOn src = true) (hstat : s.bit A.tmpStat src = false)
    (hboot : s.pw.boot = .run) (hdormant : s.dormant = false) (hsleep : s.pw.wSleep = false) (htrans : s.pw.trans = none)
    (hcls : s.tmpClassOf src = 3) (hmode : s.mode ≠ 5) (halone : ∀ x, s.pw.lastReset = some x → x.1 ≠ s.tick) :
    Completes (.tamperAlarm src true) s fun t =>
      t.pw.boot = .startup ∧ t.fld F.rstCauseScope = 2 ∧ t.fld F.rstCauseCode = 5 ∧ t.bit A.tmpLatch src = true := by
  refine ⟨_, exec_tamperAlarm_on hsrc hon hstat hboot, ?_⟩
  rw [tamperAlarm_eq]
  have h := alarmed_of_running hsrc hboot hsleep (by omega)
  generalize State.alarmTold _ _ _ _ = u at h ⊢
  rw [alarmMode_running (by unfold State.dormant; rw [h.mode]; exact hdormant) (by rw [h.pw, hsleep]) (by rw [h.pw, htrans])]
  have hrun : u.pw.boot = .run := by rw [h.pw, hboot]
  have hreset : u.alarmHalt (s.tmpClassOf src) = u.assertReset 2 5 := by
    unfold State.alarmHalt
    rw [if_neg (by simp [State.inStartup, hrun, hcls]), if_neg (by simp [h.mode, hmode])]
  rw [hreset]
  obtain ⟨hstart, hscope, hcode, hlatch⟩ := assertReset_tamper hrun (by rw [h.pw, h.tick]; exact halone)
  exact ⟨hstart, hscope, hcode, (hlatch src).trans h.latch⟩

/-! ### The end of an alarm, and the clearing of latches (R461, R463) -/

theorem completes_tamperAlarm_end (hsrc : src ≤ 10) (hboot : s.pw.boot ≠ .off) :
    Completes (.tamperAlarm src false) s fun t => t.bit A.tmpStat src = false ∧ s.sameMemory t := by
  have hexec : exec (.tamperAlarm src false) s =
      .next (if (s.clearBit A.tmpStat src).fld F.tmpStatAlarm = 0 then (s.clearBit A.tmpStat src).evLevel 0x1C7 false
        else s.clearBit A.tmpStat src) := by
    change execTamperAlarm src false s = _
    unfold execTamperAlarm
    rw [if_neg (show ¬ (decide (10 < src) || s.pw.boot == .off) = true by simp [hboot, hsrc])]
    rfl
  refine ⟨_, hexec, ?_⟩
  have hclear : (s.clearBit A.tmpStat src).bit A.tmpStat src = false := bit_clearBit_eq_false s (.inl rfl)
  have hmem : s.sameMemory (s.clearBit A.tmpStat src) := fun _ => rfl
  generalize s.clearBit A.tmpStat src = u at hclear hmem ⊢
  have hf := evLevel_frame u 0x1C7 false
  generalize u.evLevel 0x1C7 false = v at hf ⊢
  split
  · exact ⟨(bit_eq_of_regN (hf.regN (by decide))).trans hclear, fun b => (hf.sameMemory b).trans (hmem b)⟩
  · exact ⟨hclear, hmem⟩

/-- Clear the bits of the register `a` that `p` names. -/
def State.clearBits (s : State) (a : Nat) (p : Nat → Bool) (l : List Nat) : State :=
  l.foldl (fun s i => if p i then s.clearBit a i else s) s

theorem bit_clearBit_ne (s : State) (a : Nat) {i j : Nat} (hj : j < 32) (hne : j ≠ i) : (s.clearBit a i).bit a j = s.bit a j := by
  unfold State.clearBit State.bit
  rw [State.regN_setRegN_self, bitAt_mod_two_pow _ hj, bitAt_setBitsOf_one, if_neg hne]

theorem bit_clearBits (s : State) (a : Nat) (p : Nat → Bool) (l : List Nat) {j : Nat} (hj : j < 32) :
    (s.clearBits a p l).bit a j = (s.bit a j && !(decide (j ∈ l) && p j)) := by
  unfold State.clearBits
  induction l generalizing s with
  | nil => simp
  | cons i l ih =>
    rw [List.foldl_cons, ih]
    by_cases hp : p i = true
    · by_cases hji : j = i
      · subst hji
        simp [hp, bit_clearBit_eq_false s (a := a) (.inl (rfl : j = j))]
      · simp [hp, bit_clearBit_ne s a hj hji, hji]
    · by_cases hji : j = i
      · subst hji
        simp [hp]
      · simp [hp, hji]

theorem clearBits_writes (s : State) (a : Nat) (p : Nat → Bool) (l : List Nat) : WritesOnly [a] s (s.clearBits a p l) := by
  have h (l : List Nat) (t : State) (ht : WritesOnly [a] s t) :
      WritesOnly [a] s (l.foldl (fun s i => if p i then s.clearBit a i else s) t) := by
    induction l generalizing t with
    | nil => exact ht
    | cons i l ih => exact ih _ (.ite (ht.clearBit (.head _)) ht)
  exact h l s (.refl _ s)

/-- The clears and the relatching of a write to LATCH or of TAMPER_CLEAR (R463, R468). -/
theorem clearBits_relatch (s : State) (p : Nat → Bool) :
    WritesOnly [A.tmpLatch] s (s.clearBits A.tmpLatch p (List.range 11)).relatch
    ∧ ∀ k, k ≤ 10 → (s.clearBits A.tmpLatch p (List.range 11)).relatch.bit A.tmpLatch k
        = (s.bit A.tmpLatch k && !p k || s.bit A.tmpStat k) := by
  have hw := clearBits_writes s A.tmpLatch p (List.range 11)
  have hbits (k : Nat) (hk : k ≤ 10) := bit_clearBits s A.tmpLatch p (List.range 11) (show k < 32 by omega)
  generalize s.clearBits A.tmpLatch p (List.range 11) = u at hw hbits ⊢
  refine ⟨hw.setFld (f := F.tmpLatchLatch), fun k hk => ?_⟩
  have hlow (v : State) (a : Nat) : v.bit a k = (v.fld ⟨a, 0, 11⟩).testBit k := by
    have hdiv : bitsOf (v.regN a) 0 11 = v.regN a % 2 ^ 11 := by rw [bitsOf, Nat.pow_zero, Nat.div_one]
    unfold State.fld State.bit
    rw [hdiv, Nat.testBit_mod_two_pow, bitAt, Nat.testBit_eq_decide_div_mod_eq, decide_eq_true (show k < 11 by omega), Bool.true_and]
    rfl
  have hlt (a : Nat) : u.fld ⟨a, 0, 11⟩ < 2 ^ 11 := Nat.mod_lt _ (Nat.two_pow_pos 11)
  have hfld : u.relatch.fld ⟨A.tmpLatch, 0, 11⟩ = u.fld ⟨A.tmpLatch, 0, 11⟩ ||| u.fld ⟨A.tmpStat, 0, 11⟩ :=
    fld_setFld_at u (Nat.or_lt_two_pow (hlt _) (hlt _))
  rw [hlow, hfld, Nat.testBit_or, ← hlow, ← hlow, hbits k hk]
  have hmem : decide (k ∈ List.range 11) = true := by simpa using (show k < 11 by omega)
  rw [hmem, Bool.true_and, bit_eq_of_regN (congrArg BitVec.toNat (hw.regs A.tmpStat (by decide)))]

/-- Clearing latches changes no class. -/
theorem WritesOnly.tmpClassOf {t : State} (h : WritesOnly [A.tmpLatch] s t) (k : Nat) : t.tmpClassOf k = s.tmpClassOf k := by
  have hfld : t.fld F.tmpClassClass = s.fld F.tmpClassClass := h.fld (by decide)
  have hfloor : t.tmpFloorOf k = s.tmpFloorOf k := by
    rw [h.rest]
    rfl
  unfold State.tmpClassOf
  rw [hfld, hfloor]

theorem writeLatch_eq (s : State) (w : Word) :
    s.writeLatch w = (s.clearBits A.tmpLatch (fun i => bitAt w.toNat i && s.tmpClassOf i != 3) (List.range 11)).relatch := by
  have h (l : List Nat) (t : State) (ht : WritesOnly [A.tmpLatch] s t) :
      l.foldl (fun s i => if bitAt w.toNat i && s.tmpClassOf i != 3 then s.clearBit A.tmpLatch i else s) t
        = l.foldl (fun t i => if bitAt w.toNat i && s.tmpClassOf i != 3 then t.clearBit A.tmpLatch i else t) t := by
    induction l generalizing t with
    | nil => rfl
    | cons i l ih =>
      rw [List.foldl_cons, List.foldl_cons, ht.tmpClassOf]
      exact ih _ (.ite (ht.clearBit (.head _)) ht)
  exact congrArg State.relatch (h _ s (.refl _ s))

theorem completes_latchClear (w : Word) :
    Completes (.latchClear false w) s fun t =>
      (∀ k, k ≤ 10 → s.bit A.tmpStat k = false → bitAt w.toNat k = true → s.tmpClassOf k ≠ 3 → t.bit A.tmpLatch k = false)
      ∧ (∀ k, k ≤ 10 → s.bit A.tmpStat k = false → bitAt w.toNat k = false ∨ s.tmpClassOf k = 3 →
        t.bit A.tmpLatch k = s.bit A.tmpLatch k)
      ∧ (∀ k, k ≤ 10 → s.bit A.tmpStat k = true → t.bit A.tmpLatch k = true)
      ∧ s.sameRegsBut t [A.tmpLatch] ∧ s.sameMemory t := by
  refine ⟨_, guarded_machine s _, ?_⟩
  rw [writeLatch_eq]
  obtain ⟨hw, hbit⟩ := clearBits_relatch s fun i => bitAt w.toNat i && s.tmpClassOf i != 3
  generalize State.relatch _ = t at hw hbit ⊢
  refine ⟨fun k hk hstat hset hcls => ?_, fun k hk hstat hkeep => ?_, fun k hk hstat => ?_, fun a ha => hw.regs a ha, hw.sameMemory⟩
  · rw [hbit k hk]
    simp [hstat, hset, hcls]
  · rw [hbit k hk]
    obtain hclear | hhalt := hkeep
    · simp [hstat, hclear]
    · simp [hstat, hhalt]
  · rw [hbit k hk]
    simp [hstat]

/-! ## Host commands (R468) -/

theorem completes_secStatus {o : Origin} (ht : s.takes o 0x90 []) :
    Completes (.secStatus o []) s fun t =>
      t.responded o (rspPayload 0x90 .ok (leBytes 4 (s.regN A.keySeal) ++ leBytes 4 (s.regN A.keyValid)
        ++ leBytes 4 (s.regN A.tmpStat) ++ leBytes 4 (s.regN A.tmpLatch) ++ leBytes 4 s.tmpClass
        ++ leBytes 4 s.tmpFloor ++ leBytes 4 (s.regN A.rngStat) ++ leBytes 4 (s.otpWord 0x84 % 2 ^ 32)
        ++ leBytes 4 s.rootMap ++ s.idPub))
      ∧ t.sec = s.sec ∧ s.sameMemory t := by
  have hclass : (s.taking o).tmpClass = s.tmpClass := by
    unfold State.tmpClass State.tmpClassOf
    rw [fld_taking_ne s o (f := F.tmpClassClass) (by decide)]
    rfl
  have hsec : (s.taking o).sec = s.sec := rfl
  refine completes_of_answered rfl ht (by decide) (show handleSecStatus o [] (s.taking o) = (.now .ok _, s.taking o) from ?_)
    ⟨State.responded_respond .., (sec_respond ..).trans hsec, sameMemory_respond (sameMemory_taking s o) o _ _ _⟩
  unfold handleSecStatus
  rw [hclass, regN_taking_ne s o (show A.keySeal ≠ _ by decide), regN_taking_ne s o (show A.keyValid ≠ _ by decide),
    regN_taking_ne s o (show A.tmpStat ≠ _ by decide), regN_taking_ne s o (show A.tmpLatch ≠ _ by decide),
    regN_taking_ne s o (show A.rngStat ≠ _ by decide)]
  simp only [List.map_cons, List.map_nil, List.flatten_cons, List.flatten_nil, List.append_assoc, List.append_nil]
  rfl

/-- A signed TAMPER_CLEAR is checked over the state as it is (R468). -/
theorem clearMsg_taking (s : State) (o : Origin) (mask : Nat) : (s.taking o).clearMsg mask = s.clearMsg mask := by
  unfold State.clearMsg
  rw [fld_taking_ne s o (f := F.rstRstcountCount) (by decide), fld_taking_ne s o (f := F.tmpEvlogCount) (by decide)]
  rfl

/-- In the tamper halt the reset follows the response (R462, R468). -/
def State.askClearReset (s : State) : State :=
  if s.pw.boot == .halt then { s with sec := { s.sec with clearReset := true } } else s

theorem askClearReset_asks (s : State) :
    (∀ a, s.askClearReset.regN a = s.regN a) ∧ s.sameMemory s.askClearReset
    ∧ (s.pw.boot = .halt → s.askClearReset.sec.clearReset = true) := by
  unfold State.askClearReset
  split
  · exact ⟨fun _ => rfl, fun _ => rfl, fun _ => rfl⟩
  · next hboot => exact ⟨fun _ => rfl, fun _ => rfl, fun h => absurd (by simp [h]) hboot⟩

theorem completes_tamperClear {o : Origin} {p : List Byte} (ht : s.takes o 0x93 p) (hlen : p.length = 68)
    (hzero : leAt p 2 2 = 0) (hmask : leAt p 0 2 < 2 ^ 11) :
    let good := s.maintSet && Config.cryptoOk 14 [] (s.rootBytes 0x140 4 ++ p.drop 4) (s.clearMsg (leAt p 0 2))
    Completes (.tamperClear o p) s fun t =>
      (good = false → t.responded o (rspPayload 0x93 .authFail []) ∧ t.reg A.tmpLatch = s.reg A.tmpLatch)
      ∧ (good = true → t.responded o (rspPayload 0x93 .ok [])
        ∧ (∀ k, k ≤ 10 → bitAt (leAt p 0 2) k = true → s.bit A.tmpStat k = false → t.bit A.tmpLatch k = false)
        ∧ (s.pw.boot = .halt → t.sec.clearReset = true))
      ∧ s.sameMemory t := by
  intro good
  have hgood : ((s.taking o).maintSet && Config.cryptoOk 14 [] ((s.taking o).rootBytes 0x140 4 ++ p.drop 4)
      ((s.taking o).clearMsg (leAt p 0 2))) = good := by
    rw [clearMsg_taking]
    rfl
  have hargs : ¬ (leAt p 2 2 != 0 || 2 ^ 11 ≤ leAt p 0 2) = true := by simpa [hzero] using hmask
  have hmem := sameMemory_taking s o
  have hreg {a : Nat} (ha : a ≠ A.hslCtr 0) : (s.taking o).reg a = s.reg a := BitVec.eq_of_toNat_eq (regN_taking_ne s o ha)
  have hstat (k : Nat) : (s.taking o).bit A.tmpStat k = s.bit A.tmpStat k := bit_eq_of_regN (regN_taking_ne s o (by decide))
  have hboot : (s.taking o).pw = s.pw := rfl
  generalize hu : s.taking o = u at hgood hmem hreg hstat hboot
  cases hg : good with
  | false =>
    have hanswer : handleTamperClear o p (s.taking o) = (.now .authFail [], u) := by
      rw [hu]
      unfold handleTamperClear
      dsimp only
      rw [if_neg hargs, hgood, hg]
      rfl
    refine completes_of_answered rfl ht (by simp [hlen]) hanswer ⟨fun _ => ⟨State.responded_respond .., ?_⟩, (nomatch ·),
      sameMemory_respond hmem o _ _ _⟩
    exact (BitVec.eq_of_toNat_eq (regN_respond_ne u o _ _ _ (by decide))).trans (hreg (by decide))
  | true =>
    obtain ⟨hw, hbit⟩ := clearBits_relatch u fun i => bitAt (leAt p 0 2) i
    have hanswer : handleTamperClear o p (s.taking o) = (.now .ok [],
        (u.clearBits A.tmpLatch (fun i => bitAt (leAt p 0 2) i) (List.range 11)).relatch.askClearReset) := by
      rw [hu]
      unfold handleTamperClear
      dsimp only
      rw [if_neg hargs, hgood, hg]
      rfl
    refine completes_of_answered rfl ht (by simp [hlen]) hanswer ?_
    generalize State.relatch _ = v at hw hbit ⊢
    obtain ⟨hregs, hsame, hreset⟩ := askClearReset_asks v
    generalize v.askClearReset = w at hregs hsame hreset ⊢
    refine ⟨(nomatch ·), fun _ => ⟨State.responded_respond .., fun k hk hset hquiet => ?_, fun hhalt => ?_⟩,
      sameMemory_respond (fun b => (hsame b).trans ((hw.sameMemory b).trans (hmem b))) o _ _ _⟩
    · rw [bit_eq_of_regN ((regN_respond_ne w o _ _ _ (by decide)).trans (hregs _)), hbit k hk, hstat, hset, hquiet]
      simp
    · rw [sec_respond]
      exact hreset (by rw [hw.pw, hboot, hhalt])

/-- Settles O27: what an alarm logs stands through its class's wipes, its notice and its reset; a cleared latch comes back
only with its alarm. -/
theorem tamperAlarms : Obligations.TamperAlarms := by
  unfold Obligations.TamperAlarms
  refine fun s => ⟨fun src hsrc hon hstat hboot => ⟨fun hdormant hsleep htrans hcls => ?_,
    fun hdormant hsleep htrans hcls hmode halone => completes_tamperHalt hsrc hon hstat hboot hdormant hsleep htrans hcls hmode halone⟩,
    fun src hsrc hboot => completes_tamperAlarm_end hsrc hboot, completes_latchClear, fun o ht => completes_secStatus ht,
    fun o p ht hlen hzero hmask => completes_tamperClear ht hlen hzero hmask⟩
  refine (completes_tamperAlarm hsrc hon hstat hboot hdormant hsleep htrans hcls).mono fun t h => ?_
  exact ⟨h.stat, h.latch, h.interrupt, h.lastSrc, h.lastClass (by omega), h.slots, fun h2 => h.pending (by omega),
    fun h2 => h.sealed (by omega), h.harmless⟩

end Sys2Proof.Machine
end

section
/-!
Serial peripherals (R568, R569): STAT follows the FIFOs of a peripheral and its transfer.
-/

namespace Sys2Proof.Machine

variable {s : State} {k : Nat}

theorem comUp_of_regN {t : State} (h : t.regN A.pmuDomstat = s.regN A.pmuDomstat) : t.comUp = s.comUp := by
  have hdom : t.domainOn .com = s.domainOn .com := bit_eq_of_regN h
  have hret : t.retention = s.retention := flag_eq_of_regN h
  rw [State.comUp, hdom, hret, State.comUp]

theorem WritesOnly.through {l m : List Nat} {t u : State} (h : WritesOnly l s t) (g : WritesOnly m t u) (hm : ∀ a ∈ m, a ∈ l) :
    WritesOnly l s u where
  regs a ha := (g.regs a fun hmem => ha (hm a hmem)).trans (h.regs a ha)
  rest := by
    rw [g.rest]
    exact congrArg (fun t : State => { t with regs := u.regs }) h.rest

/-! ## A peripheral and its STAT -/

/-- A peripheral's state alone, before STAT follows. -/
def State.putSer (s : State) (k : Nat) (x : SerUnit) : State :=
  { s with lum := { s.lum with ser := Sparse.insert s.lum.ser k x } }

theorem ser_putSer (s : State) (k : Nat) (x : SerUnit) : (s.putSer k x).ser k = x :=
  congrArg (fun o : Option SerUnit => o.getD {}) (Sparse.find?_insert_self s.lum.ser k x)

theorem serStat_ne_serIntstat (k : Nat) : A.serStat k ≠ A.serIntstat k := by unfold A.serStat A.serIntstat; omega

theorem serCfg_not_serStat (k : Nat) : A.serCfg k ∉ [A.serStat k, A.serIntstat k] := by
  unfold A.serCfg A.serStat A.serIntstat
  simp only [List.mem_cons, List.not_mem_nil, or_false]
  omega

theorem pmuDomstat_not_serStat (k : Nat) : A.pmuDomstat ∉ [A.serStat k, A.serIntstat k] := by
  unfold A.pmuDomstat A.serStat A.serIntstat
  simp only [List.mem_cons, List.not_mem_nil, or_false]
  omega

/-- Nothing but STAT and INTSTAT of a peripheral changes. -/
abbrev SerShows (k : Nat) (s t : State) : Prop := WritesOnly [A.serStat k, A.serIntstat k] s t

theorem SerShows.ser {t : State} (h : SerShows k s t) : t.ser k = s.ser k := by
  rw [h.rest]
  rfl

theorem SerShows.serOn {t : State} (h : SerShows k s t) : t.serOn k = s.serOn k := by
  have hcom : t.comUp = s.comUp := comUp_of_regN (congrArg BitVec.toNat (h.regs _ (pmuDomstat_not_serStat k)))
  have hcfg : t.bit (A.serCfg k) 31 = s.bit (A.serCfg k) 31 :=
    bit_eq_of_regN (congrArg BitVec.toNat (h.regs _ (serCfg_not_serStat k)))
  unfold State.serOn
  rw [hcom, hcfg]

theorem SerShows.serBusy {t : State} (h : SerShows k s t) : t.serBusy k = s.serBusy k := by
  unfold State.serBusy
  rw [h.ser, h.serOn]

/-- STAT of a peripheral follows its FIFOs and its transfer (R569). -/
def State.serStat (u : State) (k : Nat) (x : SerUnit) : State :=
  let u := (u.setFld (F.serStatRxlvl k) x.rx.length).setFld (F.serStatTxlvl k) x.tx.length
  u.setFld (F.serStatBusy k) (b2n (u.serBusy k))

/-- The thresholds of the FIFOs raise their flags as they are reached (R569). -/
def State.serThresholds (u : State) (k : Nat) (old x : SerUnit) : State :=
  let u := if old.rx.length < 16 && 16 ≤ x.rx.length then u.setBit (A.serIntstat k) 2 else u
  if 16 < old.tx.length && x.tx.length ≤ 16 then u.setBit (A.serIntstat k) 1 else u

theorem setSer_eq (s : State) (k : Nat) (x : SerUnit) :
    s.setSer k x = ((s.putSer k x).serStat k x).serThresholds k (s.ser k) x := rfl

theorem serStat_shows (u : State) (k : Nat) (x : SerUnit) :
    SerShows k u (u.serStat k x) ∧ (u.serStat k x).fld (F.serStatRxlvl k) = x.rx.length % 2 ^ 6
    ∧ (u.serStat k x).fld (F.serStatTxlvl k) = x.tx.length % 2 ^ 6
    ∧ (u.serStat k x).flag (F.serStatBusy k) = u.serBusy k := by
  have hlevels : SerShows k u ((u.setFld (F.serStatRxlvl k) x.rx.length).setFld (F.serStatTxlvl k) x.tx.length) :=
    ((WritesOnly.refl _ u).setFld (f := F.serStatRxlvl k) (.head _)).setFld (f := F.serStatTxlvl k) (.head _)
  have hrx : ((u.setFld (F.serStatRxlvl k) x.rx.length).setFld (F.serStatTxlvl k) x.tx.length).fld (F.serStatRxlvl k)
      = x.rx.length % 2 ^ 6 := (fld_setFld_beside _ _).trans (State.fld_setFld_self _ _ _ (show 7 + 6 ≤ 32 by decide))
  have htx : ((u.setFld (F.serStatRxlvl k) x.rx.length).setFld (F.serStatTxlvl k) x.tx.length).fld (F.serStatTxlvl k)
      = x.tx.length % 2 ^ 6 := State.fld_setFld_self _ _ _ (show 0 + 6 ≤ 32 by decide)
  unfold State.serStat
  dsimp only
  generalize (u.setFld (F.serStatRxlvl k) x.rx.length).setFld (F.serStatTxlvl k) x.tx.length = v at hlevels hrx htx ⊢
  exact ⟨hlevels.setFld (f := F.serStatBusy k) (.head _), (fld_setFld_beside _ _).trans hrx, (fld_setFld_beside _ _).trans htx,
    (flag_setFld_b2n v _).trans hlevels.serBusy⟩

theorem serThresholds_shows (u : State) (k : Nat) (old x : SerUnit) :
    WritesOnly [A.serIntstat k] u (u.serThresholds k old x) := by
  have hrx : WritesOnly [A.serIntstat k] u (if old.rx.length < 16 && 16 ≤ x.rx.length then u.setBit (A.serIntstat k) 2 else u) :=
    .ite (.setBit (.refl _ u) (.head _)) (.refl _ u)
  exact .ite (hrx.setBit (.head _)) hrx

/-- What setting a peripheral shows (R569). -/
theorem setSer_shows (s : State) (k : Nat) (x : SerUnit) :
    SerShows k (s.putSer k x) (s.setSer k x)
    ∧ (s.setSer k x).fld (F.serStatRxlvl k) = x.rx.length % 2 ^ 6
    ∧ (s.setSer k x).fld (F.serStatTxlvl k) = x.tx.length % 2 ^ 6
    ∧ (s.setSer k x).flag (F.serStatBusy k) = (s.putSer k x).serBusy k := by
  rw [setSer_eq]
  obtain ⟨hstat, hrx, htx, hbusy⟩ := serStat_shows (s.putSer k x) k x
  generalize (s.putSer k x).serStat k x = u at hstat hrx htx hbusy ⊢
  have hw := serThresholds_shows u k (s.ser k) x
  generalize u.serThresholds k (s.ser k) x = v at hw ⊢
  have hfld {f : Fld} (hf : f.addr = A.serStat k) : v.regN f.addr = u.regN f.addr :=
    congrArg BitVec.toNat (hw.regs _ (by simpa [hf] using serStat_ne_serIntstat k))
  exact ⟨hstat.through hw fun a ha => .tail _ ha, (fld_eq_of_regN (hfld rfl)).trans hrx, (fld_eq_of_regN (hfld rfl)).trans htx,
    (flag_eq_of_regN (hfld rfl)).trans hbusy⟩

theorem sameMemory_putSer (s : State) (k : Nat) (x : SerUnit) : s.sameMemory (s.putSer k x) := fun _ => rfl
theorem regN_putSer (s : State) (k : Nat) (x : SerUnit) (a : Nat) : (s.putSer k x).regN a = s.regN a := rfl

theorem serOn_putSer (s : State) (k : Nat) (x : SerUnit) : (s.putSer k x).serOn k = s.serOn k := rfl

/-- A peripheral that is set: its state, STAT's levels and BUSY; only STAT, INTSTAT and the peripheral change. -/
structure SerSet (s : State) (k : Nat) (x : SerUnit) (t : State) : Prop where
  ser : t.ser k = x
  rxlvl : t.fld (F.serStatRxlvl k) = x.rx.length % 2 ^ 6
  txlvl : t.fld (F.serStatTxlvl k) = x.tx.length % 2 ^ 6
  busy : t.flag (F.serStatBusy k) = if 8 ≤ k then s.serOn k && !x.tx.isEmpty else x.job.isSome
  regs : s.sameRegsBut t [A.serStat k, A.serIntstat k]
  memory : s.sameMemory t

theorem serSet_setSer (s : State) (k : Nat) (x : SerUnit) : SerSet s k x (s.setSer k x) := by
  obtain ⟨hw, hrx, htx, hbusy⟩ := setSer_shows s k x
  generalize s.setSer k x = t at hw hrx htx hbusy ⊢
  refine ⟨hw.ser.trans (ser_putSer ..), hrx, htx, hbusy.trans ?_, hw.regs, fun a => hw.sameMemory a⟩
  unfold State.serBusy serUart
  rw [ser_putSer, serOn_putSer]
  by_cases hk : 8 ≤ k
  · simp [hk]
  · simp [hk]

/-! ## The end of a transfer (R568, R570) -/

/-- A transfer that has ended with a status and a detail. -/
structure SerEnded (s : State) (k : Nat) (x : SerUnit) (st : Status) (detail : Nat) (t : State) : Prop where
  ser : t.ser k = { x with job := none }
  result : t.fld (F.serStatResult k) = st.code
  detail : t.fld (F.serStatDetail k) = detail
  busy : t.flag (F.serStatBusy k) = if 8 ≤ k then s.serOn k && !x.tx.isEmpty else false
  done : t.bit (A.serIntstat k) 0 = true
  memory : s.sameMemory t

theorem bit_setBit_ne (s : State) (a : Nat) {i j : Nat} (hj : j < 32) (hne : j ≠ i) : (s.setBit a i).bit a j = s.bit a j := by
  unfold State.setBit State.bit
  rw [State.regN_setRegN_self, bitAt_mod_two_pow _ hj, bitAt_setBitsOf_one, if_neg hne]

/-- What the end of a transfer shows in STAT and INTSTAT (R568). -/
def State.serEndShown (u : State) (k : Nat) (st : Status) (detail : Nat) : State :=
  let v := ((u.setFld (F.serStatResult k) st.code).setFld (F.serStatDetail k) detail).setBit (A.serIntstat k) 0
  if st = .ok then v else v.setBit (A.serIntstat k) 3

theorem serEnd_eq (s : State) (k : Nat) (x : SerUnit) (st : Status) (detail : Nat) :
    s.serEnd k x st detail = ((s.setSer k { x with job := none }).serEndShown k st detail).evPulse (0x168 + k) := rfl

theorem serEndShown_shows (u : State) (k : Nat) (st : Status) {detail : Nat} (hd : detail < 2 ^ 3) :
    SerShows k u (u.serEndShown k st detail)
    ∧ (u.serEndShown k st detail).fld (F.serStatResult k) = st.code
    ∧ (u.serEndShown k st detail).fld (F.serStatDetail k) = detail
    ∧ (u.serEndShown k st detail).flag (F.serStatBusy k) = u.flag (F.serStatBusy k)
    ∧ (u.serEndShown k st detail).bit (A.serIntstat k) 0 = true := by
  have hw1 : SerShows k u ((u.setFld (F.serStatResult k) st.code).setFld (F.serStatDetail k) detail) :=
    ((WritesOnly.refl _ u).setFld (f := F.serStatResult k) (.head _)).setFld (f := F.serStatDetail k) (.head _)
  have hresult : ((u.setFld (F.serStatResult k) st.code).setFld (F.serStatDetail k) detail).fld (F.serStatResult k) = st.code :=
    (fld_setFld_beside _ _).trans (fld_setFld_at _ (status_code_lt st))
  have hdetail : ((u.setFld (F.serStatResult k) st.code).setFld (F.serStatDetail k) detail).fld (F.serStatDetail k) = detail :=
    fld_setFld_at _ hd
  have hbusy : ((u.setFld (F.serStatResult k) st.code).setFld (F.serStatDetail k) detail).flag (F.serStatBusy k)
      = u.flag (F.serStatBusy k) := (flag_setFld_beside _ _).trans (flag_setFld_beside _ _)
  unfold State.serEndShown
  dsimp only
  generalize (u.setFld (F.serStatResult k) st.code).setFld (F.serStatDetail k) detail = v at hw1 hresult hdetail hbusy ⊢
  have hw2 : WritesOnly [A.serIntstat k] v (v.setBit (A.serIntstat k) 0) := .setBit (.refl _ v) (.head _)
  have hfirst := bit_setBit_self v (A.serIntstat k) (show 0 < 32 by decide)
  generalize v.setBit (A.serIntstat k) 0 = w at hw2 hfirst ⊢
  have hw3 : WritesOnly [A.serIntstat k] v (if st = .ok then w else w.setBit (A.serIntstat k) 3) :=
    .ite hw2 (hw2.setBit (.head _))
  have hdone : (if st = .ok then w else w.setBit (A.serIntstat k) 3).bit (A.serIntstat k) 0 = true := by
    split
    · exact hfirst
    · exact (bit_setBit_ne w _ (by decide) (by decide)).trans hfirst
  generalize (if st = .ok then w else w.setBit (A.serIntstat k) 3) = t at hw3 hdone ⊢
  have hstat {f : Fld} (hfa : f.addr = A.serStat k) : t.regN f.addr = v.regN f.addr :=
    congrArg BitVec.toNat (hw3.regs _ (by simpa [hfa] using serStat_ne_serIntstat k))
  exact ⟨hw1.through hw3 fun a ha => .tail _ ha, (fld_eq_of_regN (hstat rfl)).trans hresult,
    (fld_eq_of_regN (hstat rfl)).trans hdetail, (flag_eq_of_regN (hstat rfl)).trans hbusy, hdone⟩

theorem FabricFrame.ser {r s : State} (h : FabricFrame r s) (k : Nat) : s.ser k = r.ser k := by
  rw [h.rest]
  rfl

theorem serEnded_serEnd (s : State) (k : Nat) (x : SerUnit) (st : Status) {detail : Nat} (hd : detail < 2 ^ 3) :
    SerEnded s k x st detail (s.serEnd k x st detail) := by
  rw [serEnd_eq]
  have hset := serSet_setSer s k { x with job := none }
  generalize s.setSer k { x with job := none } = u at hset ⊢
  obtain ⟨hw, hresult, hdetail, hbusy, hdone⟩ := serEndShown_shows u k st hd
  generalize u.serEndShown k st detail = w at hw hresult hdetail hbusy hdone ⊢
  generalize 0x168 + k = code
  have hf := (RunsAll.evPulse (code := code) (.refl _ w)).frame
  generalize w.evPulse code = t at hf ⊢
  have hstat : t.regN (A.serStat k) = w.regN (A.serStat k) := hf.regN (by unfold A.serStat; omega)
  have hint : t.regN (A.serIntstat k) = w.regN (A.serIntstat k) := hf.regN (by unfold A.serIntstat; omega)
  refine ⟨(hf.ser k).trans (hw.ser.trans hset.ser), (fld_eq_of_regN hstat).trans hresult, (fld_eq_of_regN hstat).trans hdetail,
    (flag_eq_of_regN hstat).trans (hbusy.trans hset.busy), (bit_eq_of_regN hint).trans hdone, fun b => ?_⟩
  rw [hf.sameMemory b, hw.sameMemory b, hset.memory b]

/-! ## The commands -/

theorem serOn_iff (s : State) (k : Nat) : s.serOn k = true ↔ k < 12 ∧ s.comUp = true ∧ s.bit (A.serCfg k) 31 = true := by
  simp [State.serOn, and_assoc]

theorem writeSerCmd_up (hk : k < 12) (hup : s.comUp = true) (w : Word) :
    s.writeSerCmd k w =
      if bitAt w.toNat 31 then (if bitAt w.toNat 30 then s.serAbort k else s).serGo k w.toNat
      else if bitAt w.toNat 30 then s.serAbort k else s := if_pos (by simp [hk, hup])

theorem completes_serGo {w : Word} (hon : s.serOn k = true) (hgo : bitAt w.toNat 31 = true) (habort : bitAt w.toNat 30 = false)
    (hk : k < 8) (hfree : (s.ser k).job = none) (hlen : bitsOf w.toNat 0 16 ≠ 0) :
    Completes (.serGo k false w) s fun t =>
      (t.ser k).job = some { len := bitsOf w.toNat 0 16, read := bitAt w.toNat 29, addr := bitsOf w.toNat 16 10 }
      ∧ (t.ser k).tx = (s.ser k).tx ∧ (t.ser k).rx = (s.ser k).rx ∧ t.flag (F.serStatBusy k) = true ∧ s.sameMemory t := by
  obtain ⟨hk12, hup, -⟩ := (serOn_iff s k).1 hon
  have hwrite : s.writeSerCmd k w = s.setSer k { s.ser k with
      job := some { len := bitsOf w.toNat 0 16, read := bitAt w.toNat 29, addr := bitsOf w.toNat 16 10 } } := by
    rw [writeSerCmd_up hk12 hup, if_pos hgo, if_neg (by rw [habort]; decide)]
    exact if_neg (by simp [serUart, hon, hfree, hlen, show ¬ 8 ≤ k by omega])
  refine ⟨_, guarded_machine s _, ?_⟩
  rw [hwrite]
  have h := serSet_setSer s k { s.ser k with
    job := some { len := bitsOf w.toNat 0 16, read := bitAt w.toNat 29, addr := bitsOf w.toNat 16 10 } }
  exact ⟨by rw [h.ser], by rw [h.ser], by rw [h.ser], h.busy.trans (if_neg (by omega)), h.memory⟩

theorem completes_serAbort {w : Word} (hk : k < 12) (hup : s.comUp = true) (habort : bitAt w.toNat 30 = true)
    (hgo : bitAt w.toNat 31 = false) (hbusy : s.serBusy k = true) :
    Completes (.serAbort k false w) s fun t =>
      (t.ser k).job = none ∧ (t.ser k).tx = (if 8 ≤ k then [] else (s.ser k).tx) ∧ (t.ser k).rx = (s.ser k).rx
      ∧ t.fld (F.serStatResult k) = Status.cancelled.code ∧ t.fld (F.serStatDetail k) = 0
      ∧ t.flag (F.serStatBusy k) = false ∧ t.bit (A.serIntstat k) 0 = true ∧ s.sameMemory t := by
  have hwrite : s.writeSerCmd k w =
      s.serEnd k { s.ser k with tx := if 8 ≤ k then [] else (s.ser k).tx } .cancelled 0 := by
    rw [writeSerCmd_up hk hup, if_neg (by rw [hgo]; decide), if_pos habort]
    unfold State.serAbort serUart
    rw [hbusy]
    simp
  refine ⟨_, guarded_machine s _, ?_⟩
  rw [hwrite]
  have h := serEnded_serEnd s k { s.ser k with tx := if 8 ≤ k then [] else (s.ser k).tx } .cancelled (detail := 0) (by decide)
  refine ⟨by rw [h.ser], by rw [h.ser], by rw [h.ser], h.result, h.detail, h.busy.trans ?_, h.done, h.memory⟩
  by_cases h8 : 8 ≤ k
  · simp [h8]
  · simp [h8]

theorem serResult_detail_lt (r : Nat) : (serResult r).2 < 2 ^ 3 := by
  unfold serResult
  split <;> decide

theorem completes_serDone_transfer (hon : s.serOn k = true) (hk : k < 8) (hjob : (s.ser k).job.isSome = true) (r sent : Nat)
    (rx : List Byte) :
    Completes (.serDone k r sent rx) s fun t =>
      t.ser k = { tx := (s.ser k).tx.drop sent, rx := ((s.ser k).rx ++ rx).take 32, job := none }
      ∧ t.fld (F.serStatResult k) = (serResult (if k < 4 then r else 0)).1.code
      ∧ t.fld (F.serStatDetail k) = (serResult (if k < 4 then r else 0)).2
      ∧ t.flag (F.serStatBusy k) = false ∧ t.bit (A.serIntstat k) 0 = true ∧ s.sameMemory t := by
  have huart : serUart k = false := by simp [serUart, show ¬ 8 ≤ k by omega]
  have hbusy : s.serBusy k = true := by simp [State.serBusy, huart, hjob]
  have hexec : exec (.serDone k r sent rx) s = .next (s.serEnd k
      { s.ser k with tx := (s.ser k).tx.drop sent, rx := ((s.ser k).rx ++ rx).take 32 }
      (serResult (if k < 4 then r else 0)).1 (serResult (if k < 4 then r else 0)).2) := by
    change execSerDone k r sent rx s = _
    unfold execSerDone
    dsimp only
    rw [if_pos (by simp [hon, hbusy]), huart]
    rfl
  refine ⟨_, hexec, ?_⟩
  have h := serEnded_serEnd s k { s.ser k with tx := (s.ser k).tx.drop sent, rx := ((s.ser k).rx ++ rx).take 32 }
    (serResult (if k < 4 then r else 0)).1 (serResult_detail_lt (if k < 4 then r else 0))
  exact ⟨h.ser, h.result, h.detail, h.busy.trans (if_neg (by omega)), h.done, h.memory⟩

theorem completes_serDone_uart (hon : s.serOn k = true) (hk : 8 ≤ k) (htx : (s.ser k).tx ≠ []) (r sent : Nat) (rx : List Byte) :
    Completes (.serDone k r sent rx) s fun t =>
      (t.ser k).tx = [] ∧ (t.ser k).rx = (s.ser k).rx ∧ t.fld (F.serStatResult k) = Status.ok.code
      ∧ t.flag (F.serStatBusy k) = false ∧ s.sameMemory t := by
  have huart : serUart k = true := by simp [serUart, hk]
  have hbusy : s.serBusy k = true := by simp [State.serBusy, huart, hon, htx]
  have hexec : exec (.serDone k r sent rx) s = .next (s.serEnd k { s.ser k with tx := [] } .ok 0) := by
    change execSerDone k r sent rx s = _
    unfold execSerDone
    dsimp only
    rw [if_pos (by simp [hon, hbusy]), huart, if_neg (show ¬ k < 4 by omega)]
    rfl
  refine ⟨_, hexec, ?_⟩
  have h := serEnded_serEnd s k { s.ser k with tx := [] } .ok (detail := 0) (by decide)
  refine ⟨by rw [h.ser], by rw [h.ser], h.result, h.busy.trans ?_, h.memory⟩
  simp [hk]

theorem completes_txfifoPush (hk : k < 12) (hup : s.comUp = true) (hroom : (s.ser k).tx.length < 32) (w : Word) :
    Completes (.txfifoPush k false w) s fun t =>
      t.ser k = { s.ser k with tx := (s.ser k).tx ++ [Byte.ofN (w.toNat % 256)] }
      ∧ t.fld (F.serStatTxlvl k) = (s.ser k).tx.length + 1
      ∧ s.sameRegsBut t [A.serStat k, A.serIntstat k] ∧ s.sameMemory t := by
  have hwrite : s.writeTxfifo k w = s.setSer k { s.ser k with tx := (s.ser k).tx ++ [Byte.ofN (w.toNat % 256)] } := by
    unfold State.writeTxfifo
    rw [if_pos (by simp [hk, hup])]
    exact if_pos hroom
  refine ⟨_, guarded_machine s _, ?_⟩
  rw [hwrite]
  have h := serSet_setSer s k { s.ser k with tx := (s.ser k).tx ++ [Byte.ofN (w.toNat % 256)] }
  refine ⟨h.ser, h.txlvl.trans ?_, h.regs, h.memory⟩
  rw [List.length_append]
  exact Nat.mod_eq_of_lt (show (s.ser k).tx.length + 1 < 64 by omega)

theorem completes_rxfifoPop (hk : k < 12) (hup : s.comUp = true) {b : Byte} {rest : List Byte} (hrx : (s.ser k).rx = b :: rest) :
    Completes (.rxfifoPop k) s fun t =>
      t.busData = Word.ofN b.toNat ∧ t.busError = false ∧ t.ser k = { s.ser k with rx := rest }
      ∧ s.sameRegsBut t [A.serStat k, A.serIntstat k] ∧ s.sameMemory t := by
  have hread : s.readRxfifo k = (Word.ofN b.toNat, s.setSer k { s.ser k with rx := rest }) := by
    unfold State.readRxfifo
    dsimp only
    split
    · next hnil => rw [hrx] at hnil; cases hnil
    · next b' rest' hcons =>
      rw [hrx] at hcons
      cases hcons
      rfl
  have hexec : exec (.rxfifoPop k) s = .next ((s.setSer k { s.ser k with rx := rest }).answerRead (Word.ofN b.toNat)) := by
    change execRxfifoPop k s = _
    unfold execRxfifoPop
    rw [if_pos (show (decide (k < 12) && s.comUp) = true by simp [hk, hup]), hread]
  refine ⟨_, hexec, ?_⟩
  have h := serSet_setSer s k { s.ser k with rx := rest }
  generalize s.setSer k { s.ser k with rx := rest } = u at h ⊢
  exact ⟨rfl, rfl, h.ser, sameRegsBut_answerRead h.regs _, sameMemory_answerRead h.memory _⟩

theorem completes_serRxByte (hk : 8 ≤ k) (hon : s.serOn k = true) (hroom : (s.ser k).rx.length < 32) (b : Nat) :
    Completes (.serRxByte k b 0) s fun t =>
      t.ser k = { s.ser k with rx := (s.ser k).rx ++ [Byte.ofN (b % 256)] }
      ∧ t.fld (F.serStatRxlvl k) = (s.ser k).rx.length + 1 ∧ s.sameMemory t := by
  have hexec : exec (.serRxByte k b 0) s = .next (s.setSer k { s.ser k with rx := (s.ser k).rx ++ [Byte.ofN (b % 256)] }) := by
    change execSerRxByte k b 0 s = _
    unfold execSerRxByte
    rw [if_pos (show (serUart k && s.serOn k) = true by simp [serUart, hk, hon])]
    dsimp only
    rw [if_pos (by simp [hroom])]
  refine ⟨_, hexec, ?_⟩
  have h := serSet_setSer s k { s.ser k with rx := (s.ser k).rx ++ [Byte.ofN (b % 256)] }
  refine ⟨h.ser, h.rxlvl.trans ?_, h.memory⟩
  rw [List.length_append]
  exact Nat.mod_eq_of_lt (show (s.ser k).rx.length + 1 < 64 by omega)

theorem completes_serRxByte_error (hk : 8 ≤ k) (hon : s.serOn k = true) {err : Nat} (herr : err = 1 ∨ err = 2) (b : Nat) :
    Completes (.serRxByte k b err) s fun t =>
      t.ser k = s.ser k ∧ t.fld (F.serStatDetail k) = (if err = 1 then 4 else 5) ∧ t.bit (A.serIntstat k) 3 = true
      ∧ s.sameRegsBut t [A.serStat k, A.serIntstat k] ∧ s.sameMemory t := by
  have hdrop : ¬ (decide (err = 0) && decide ((s.ser k).rx.length < 32)) = true := by
    rcases herr with rfl | rfl
    · simp
    · simp
  have hdetail : (if err = 1 then 4 else if err = 0 then 6 else 5) = if err = 1 then 4 else 5 := by
    rcases herr with rfl | rfl
    · rfl
    · rfl
  have hexec : exec (.serRxByte k b err) s =
      .next ((s.setFld (F.serStatDetail k) (if err = 1 then 4 else 5)).setBit (A.serIntstat k) 3) := by
    change execSerRxByte k b err s = _
    unfold execSerRxByte
    rw [if_pos (show (serUart k && s.serOn k) = true by simp [serUart, hk, hon])]
    dsimp only
    rw [if_neg hdrop, hdetail]
  refine ⟨_, hexec, ?_⟩
  generalize hd : (if err = 1 then 4 else 5) = detail
  have hlt : detail < 2 ^ 3 := by
    rw [← hd]
    split
    · decide
    · decide
  have hw1 : SerShows k s (s.setFld (F.serStatDetail k) detail) := .setFld (f := F.serStatDetail k) (.refl _ s) (.head _)
  have hshown : (s.setFld (F.serStatDetail k) detail).fld (F.serStatDetail k) = detail := fld_setFld_at _ hlt
  generalize s.setFld (F.serStatDetail k) detail = u at hw1 hshown ⊢
  have hw2 : SerShows k u (u.setBit (A.serIntstat k) 3) := .setBit (.refl _ u) (.tail _ (.head _))
  have hw : SerShows k s (u.setBit (A.serIntstat k) 3) := hw1.through hw2 fun a ha => ha
  exact ⟨hw.ser, (fld_eq_of_regN (State.regN_setRegN_ne u _ (serStat_ne_serIntstat k))).trans hshown, bit_setBit_self u _ (by decide),
    hw.regs, hw.sameMemory⟩

/-- Settles O48: every command on a peripheral is a setting of it, after which STAT shows its FIFOs and its transfer. -/
theorem serialPeripherals : Obligations.SerialPeripherals := by
  unfold Obligations.SerialPeripherals
  exact fun s k => ⟨fun w => completes_serGo, fun w => completes_serAbort,
    fun r sent rx hon => ⟨fun hk hjob => completes_serDone_transfer hon hk hjob r sent rx,
      fun hk htx => completes_serDone_uart hon hk htx r sent rx⟩,
    fun hk hup => ⟨fun w hroom => completes_txfifoPush hk hup hroom w, fun b rest => completes_rxfifoPop hk hup⟩,
    fun b hk hon => ⟨fun hroom => completes_serRxByte hk hon hroom b, fun err herr => completes_serRxByte_error hk hon herr b⟩⟩

end Sys2Proof.Machine
end

section
/-!
DALI frames (R560-R563), dimming (R564, R565) and metering (R566, R567).
-/

namespace Sys2Proof.Machine

variable {s : State} {i : Nat}

/-! ## A DALI interface and its STAT (R563) -/

/-- An interface's state alone, before STAT follows. -/
def State.putDali (s : State) (i : Nat) (x : DaliIf) : State :=
  { s with lum := { s.lum with dali := Sparse.insert s.lum.dali i x } }

theorem dali_putDali (s : State) (i : Nat) (x : DaliIf) : (s.putDali i x).dali i = x :=
  congrArg (fun o : Option DaliIf => o.getD {}) (Sparse.find?_insert_self s.lum.dali i x)

theorem setDali_eq (s : State) (i : Nat) (x : DaliIf) : s.setDali i x = (s.putDali i x).daliShow i := rfl

theorem regN_putDali (s : State) (i : Nat) (x : DaliIf) (a : Nat) : (s.putDali i x).regN a = s.regN a := rfl
theorem flag_putDali (s : State) (i : Nat) (x : DaliIf) (f : Fld) : (s.putDali i x).flag f = s.flag f := rfl
theorem fld_putDali (s : State) (i : Nat) (x : DaliIf) (f : Fld) : (s.putDali i x).fld f = s.fld f := rfl

theorem dali_of_lum {s t : State} (h : t.lum = s.lum) (i : Nat) : t.dali i = s.dali i := by
  rw [State.dali, h, State.dali]

theorem WritesOnly.lum {l : List Nat} {s t : State} (h : WritesOnly l s t) : t.lum = s.lum := by rw [h.rest]

theorem FabricFrame.lum {s t : State} (h : FabricFrame s t) : t.lum = s.lum := by rw [h.rest]

theorem daliStat_ne_daliIntstat (i : Nat) : A.daliStat i ≠ A.daliIntstat i := by unfold A.daliStat A.daliIntstat; omega
theorem daliCtl_ne_daliStat (i : Nat) : A.daliCtl i ≠ A.daliStat i := by unfold A.daliCtl A.daliStat; omega
theorem daliCtl_ne_daliIntstat (i : Nat) : A.daliCtl i ≠ A.daliIntstat i := by unfold A.daliCtl A.daliIntstat; omega

/-- A frame is being sent. -/
def DaliIf.sending (x : DaliIf) : Bool := match x.tx with | some t => t.sending | none => false

/-- What STAT shows of an interface, and what it keeps. -/
structure DaliShown (i : Nat) (s t : State) : Prop where
  writes : WritesOnly [A.daliStat i] s t
  rxavail : t.flag (F.daliStatRxavail i) = !(s.dali i).rx.isEmpty
  txbusy : t.flag (F.daliStatTxbusy i) = (s.dali i).tx.isSome
  idle : t.flag (F.daliStatIdle i) = (s.flag (F.daliCtlEn i) && !(s.dali i).sending && !s.flag (F.daliStatBusfail i))
  result : t.fld (F.daliStatResult i) = s.fld (F.daliStatResult i)
  busfail : t.flag (F.daliStatBusfail i) = s.flag (F.daliStatBusfail i)

/-- STAT's RXAVAIL and TXBUSY. -/
def State.daliFifos (s : State) (i : Nat) (avail busy : Bool) : State :=
  (s.setFld (F.daliStatRxavail i) (b2n avail)).setFld (F.daliStatTxbusy i) (b2n busy)

theorem daliShow_eq (s : State) (i : Nat) : s.daliShow i =
    let u := s.daliFifos i (!(s.dali i).rx.isEmpty) (s.dali i).tx.isSome
    u.setFld (F.daliStatIdle i) (b2n (u.flag (F.daliCtlEn i) && !(s.dali i).sending && !u.flag (F.daliStatBusfail i))) := rfl

theorem daliShown_daliShow (s : State) (i : Nat) : DaliShown i s (s.daliShow i) := by
  rw [daliShow_eq]
  generalize hs : (s.dali i).sending = sending
  generalize ha : (!(s.dali i).rx.isEmpty) = avail
  generalize hb : (s.dali i).tx.isSome = busy
  have hw : WritesOnly [A.daliStat i] s (s.daliFifos i avail busy) :=
    ((WritesOnly.refl _ s).setFld (f := F.daliStatRxavail i) (.head _)).setFld (f := F.daliStatTxbusy i) (.head _)
  have havail : (s.daliFifos i avail busy).flag (F.daliStatRxavail i) = avail :=
    (flag_setFld_beside _ _).trans (flag_setFld_b2n s _)
  have hbusy : (s.daliFifos i avail busy).flag (F.daliStatTxbusy i) = busy := flag_setFld_b2n _ _
  have hresult : (s.daliFifos i avail busy).fld (F.daliStatResult i) = s.fld (F.daliStatResult i) :=
    (fld_setFld_beside _ _).trans (fld_setFld_beside _ _)
  have hfail : (s.daliFifos i avail busy).flag (F.daliStatBusfail i) = s.flag (F.daliStatBusfail i) :=
    (flag_setFld_beside _ _).trans (flag_setFld_beside _ _)
  have hen : (s.daliFifos i avail busy).flag (F.daliCtlEn i) = s.flag (F.daliCtlEn i) :=
    hw.flag (mt List.mem_singleton.1 (daliCtl_ne_daliStat i))
  generalize s.daliFifos i avail busy = u at hw havail hbusy hresult hfail hen ⊢
  dsimp only
  rw [hen, hfail]
  exact ⟨hw.setFld (f := F.daliStatIdle i) (.head _), (flag_setFld_beside _ _).trans (havail.trans ha.symm),
    (flag_setFld_beside _ _).trans (hbusy.trans hb.symm), (flag_setFld_b2n u _).trans (by rw [hs]),
    (fld_setFld_beside _ _).trans hresult, (flag_setFld_beside _ _).trans hfail⟩

/-! ## What the steps of a frame keep -/

/-- RESULT, BUSFAIL, EN and the time stay, and a frame's TXDONE stands. -/
structure DaliKeeps (i : Nat) (s t : State) : Prop where
  result : t.fld (F.daliStatResult i) = s.fld (F.daliStatResult i)
  busfail : t.flag (F.daliStatBusfail i) = s.flag (F.daliStatBusfail i)
  txdone : s.flag (F.daliIntstatTxdone i) = true → t.flag (F.daliIntstatTxdone i) = true
  en : t.flag (F.daliCtlEn i) = s.flag (F.daliCtlEn i)
  tb : t.tb = s.tb
  memory : s.sameMemory t

theorem DaliKeeps.refl (i : Nat) (s : State) : DaliKeeps i s s := ⟨rfl, rfl, id, rfl, rfl, fun _ => rfl⟩

theorem DaliKeeps.trans {s t u : State} (h : DaliKeeps i s t) (g : DaliKeeps i t u) : DaliKeeps i s u where
  result := g.result.trans h.result
  busfail := g.busfail.trans h.busfail
  txdone hs := g.txdone (h.txdone hs)
  en := g.en.trans h.en
  tb := g.tb.trans h.tb
  memory a := (g.memory a).trans (h.memory a)

/-- A write beside STAT and CTL that leaves TXDONE. -/
theorem WritesOnly.daliKeeps {s t : State} (h : WritesOnly [A.daliIntstat i] s t)
    (hdone : s.flag (F.daliIntstatTxdone i) = true → t.flag (F.daliIntstatTxdone i) = true) : DaliKeeps i s t where
  result := h.fld (mt List.mem_singleton.1 (daliStat_ne_daliIntstat i))
  busfail := h.flag (mt List.mem_singleton.1 (daliStat_ne_daliIntstat i))
  txdone := hdone
  en := h.flag (mt List.mem_singleton.1 (daliCtl_ne_daliIntstat i))
  tb := h.tb
  memory := h.sameMemory

theorem FabricFrame.daliKeeps {s t : State} (h : FabricFrame s t) (hi : i < 2) : DaliKeeps i s t := by
  have hout {a : Nat} (ha : 0x40700000 ≤ a) : ¬ (0x40600000 ≤ a ∧ a < 0x40620000) := by omega
  refine ⟨h.fld (hout ?_), h.flag (hout ?_), fun hs => (h.flag (hout ?_)).trans hs, h.flag (hout ?_), h.tb, h.sameMemory⟩
  · change _ ≤ A.daliStat i
    unfold A.daliStat
    omega
  · change _ ≤ A.daliStat i
    unfold A.daliStat
    omega
  · change _ ≤ A.daliIntstat i
    unfold A.daliIntstat
    omega
  · change _ ≤ A.daliCtl i
    unfold A.daliCtl
    omega

/-- An interface that is set. -/
structure DaliSet (i : Nat) (x : DaliIf) (s t : State) : Prop where
  dali : t.dali i = x
  keeps : DaliKeeps i s t
  rxavail : t.flag (F.daliStatRxavail i) = !x.rx.isEmpty
  txbusy : t.flag (F.daliStatTxbusy i) = x.tx.isSome
  idle : t.flag (F.daliStatIdle i) = (s.flag (F.daliCtlEn i) && !x.sending && !s.flag (F.daliStatBusfail i))
  regs : s.sameRegsBut t [A.daliStat i]

theorem daliSet_setDali (s : State) (i : Nat) (x : DaliIf) : DaliSet i x s (s.setDali i x) := by
  rw [setDali_eq]
  have h := daliShown_daliShow (s.putDali i x) i
  have hx := dali_putDali s i x
  generalize (s.putDali i x).daliShow i = t at h ⊢
  refine ⟨(dali_of_lum h.writes.lum i).trans hx, ⟨h.result, h.busfail, fun hs => ?_, ?_, h.writes.tb, fun a => h.writes.sameMemory a⟩,
    h.rxavail.trans (by rw [hx]), h.txbusy.trans (by rw [hx]), h.idle.trans (by rw [hx]; rfl), h.writes.regs⟩
  · exact (h.writes.flag (mt List.mem_singleton.1 (daliStat_ne_daliIntstat i).symm)).trans hs
  · exact h.writes.flag (mt List.mem_singleton.1 (daliCtl_ne_daliStat i))

theorem flag_raise_of_beside (s : State) {a j k : Nat} (hj : j < 32) (hk : k < 32)
    (h : s.flag ⟨a, j, 1⟩ = true) : (s.raise ⟨a, k, 1⟩).flag ⟨a, j, 1⟩ = true := by
  by_cases hjk : j = k
  · subst hjk
    exact flag_raise_at s hj
  · exact (flag_setFld_beside s _ (by omega) (by omega)).trans h

theorem daliKeeps_raise (s : State) (i : Nat) {k : Nat} (hk : k < 32) : DaliKeeps i s (s.raise ⟨A.daliIntstat i, k, 1⟩) :=
  ((WritesOnly.refl [A.daliIntstat i] s).raise (f := ⟨A.daliIntstat i, k, 1⟩) (.head _)).daliKeeps
    (flag_raise_of_beside s (by decide) hk)

/-! ## Received frames (R562) -/

/-- A record is taken, or it overflows. -/
structure DaliPushed (i : Nat) (r : DaliRec) (s t : State) : Prop where
  keeps : DaliKeeps i s t
  taken : (s.dali i).rx.length < 8 → t.dali i = { s.dali i with rx := (s.dali i).rx ++ [r] }
    ∧ t.flag (F.daliIntstatRx i) = true ∧ t.flag (F.daliStatRxavail i) = true
  lost : 8 ≤ (s.dali i).rx.length → t.dali i = s.dali i ∧ t.flag (F.daliIntstatRxovf i) = true

theorem daliPushed_daliPush (s : State) (hi : i < 2) (r : DaliRec) : DaliPushed i r s (s.daliPush i r) := by
  unfold State.daliPush
  dsimp only
  by_cases hfull : 8 ≤ (s.dali i).rx.length
  · rw [if_pos hfull]
    exact ⟨daliKeeps_raise s i (by decide), fun h => absurd hfull (by omega), fun _ => ⟨rfl, flag_raise_at s⟩⟩
  · rw [if_neg hfull]
    have hset := daliSet_setDali s i { s.dali i with rx := (s.dali i).rx ++ [r] }
    generalize s.setDali i { s.dali i with rx := (s.dali i).rx ++ [r] } = u at hset ⊢
    have hraise : DaliKeeps i u (u.raise (F.daliIntstatRx i)) := daliKeeps_raise u i (by decide)
    have hrx : (u.raise (F.daliIntstatRx i)).flag (F.daliIntstatRx i) = true := flag_raise_at u
    have havail : (u.raise (F.daliIntstatRx i)).flag (F.daliStatRxavail i) = true := by
      rw [((WritesOnly.refl [A.daliIntstat i] u).raise (f := F.daliIntstatRx i) (.head _)).flag
        (mt List.mem_singleton.1 (daliStat_ne_daliIntstat i)), hset.rxavail]
      simp
    have hlum : (u.raise (F.daliIntstatRx i)).lum = u.lum := rfl
    generalize u.raise (F.daliIntstatRx i) = v at hraise hrx havail hlum ⊢
    generalize 0x160 + i = code
    have hf := (RunsAll.evPulse (code := code) (.refl _ v)).frame
    generalize v.evPulse code = t at hf ⊢
    refine ⟨hset.keeps.trans (hraise.trans (hf.daliKeeps hi)), fun _ => ⟨?_, (hf.flag ?_).trans hrx, (hf.flag ?_).trans havail⟩,
      fun h => absurd h hfull⟩
    · rw [dali_of_lum (hf.lum.trans hlum), hset.dali]
    · change ¬ (_ ≤ A.daliIntstat i ∧ A.daliIntstat i < _)
      unfold A.daliIntstat
      omega
    · change ¬ (_ ≤ A.daliStat i ∧ A.daliStat i < _)
      unfold A.daliStat
      omega

theorem daliForward_keeps (s : State) (i : Nat) (r : DaliRec) :
    DaliKeeps i s (s.daliForward i r) ∧ ∃ fw, (s.daliForward i r).dali i = { s.dali i with forward := fw } := by
  unfold State.daliForward
  split
  · have hset := daliSet_setDali s i { s.dali i with forward := some s.tb.now }
    exact ⟨hset.keeps, _, hset.dali⟩
  · exact ⟨.refl i s, _, rfl⟩

/-- A frame on the bus: its time is kept, and its record is taken or overflows (R561, R562). -/
theorem daliHeard (s : State) (hi : i < 2) (r : DaliRec) :
    DaliKeeps i s ((s.daliForward i r).daliPush i r)
    ∧ ((s.daliForward i r).daliPush i r |>.dali i).tx = (s.dali i).tx
    ∧ ((s.daliForward i r).daliPush i r |>.dali i).window = (s.dali i).window
    ∧ ((s.dali i).rx.length < 8 → ((s.daliForward i r).daliPush i r |>.dali i).rx = (s.dali i).rx ++ [r]
      ∧ ((s.daliForward i r).daliPush i r).flag (F.daliIntstatRx i) = true
      ∧ ((s.daliForward i r).daliPush i r).flag (F.daliStatRxavail i) = true)
    ∧ (8 ≤ (s.dali i).rx.length → ((s.daliForward i r).daliPush i r |>.dali i).rx = (s.dali i).rx
      ∧ ((s.daliForward i r).daliPush i r).flag (F.daliIntstatRxovf i) = true) := by
  obtain ⟨hkeeps, fw, hdali⟩ := daliForward_keeps s i r
  generalize s.daliForward i r = u at hkeeps hdali ⊢
  have h := daliPushed_daliPush u hi r
  generalize u.daliPush i r = t at h ⊢
  have hlen : (u.dali i).rx = (s.dali i).rx := by rw [hdali]
  refine ⟨hkeeps.trans h.keeps, ?_, ?_, fun hroom => ?_, fun hfull => ?_⟩
  · rcases Nat.lt_or_ge (u.dali i).rx.length 8 with hr | hr
    · rw [(h.taken hr).1, hdali]
    · rw [(h.lost hr).1, hdali]
  · rcases Nat.lt_or_ge (u.dali i).rx.length 8 with hr | hr
    · rw [(h.taken hr).1, hdali]
    · rw [(h.lost hr).1, hdali]
  · obtain ⟨htaken, hrx, havail⟩ := h.taken (by rw [hlen]; exact hroom)
    exact ⟨by rw [htaken, hdali], hrx, havail⟩
  · obtain ⟨hlost, hovf⟩ := h.lost (by rw [hlen]; exact hfull)
    exact ⟨by rw [hlost, hdali], hovf⟩

/-! ## The end of a transmission (R561, R563) -/

/-- A transmission has ended with a status. -/
structure DaliEnded (i : Nat) (st : Status) (s t : State) : Prop where
  dali : t.dali i = { s.dali i with tx := none }
  result : t.fld (F.daliStatResult i) = st.code
  txdone : t.flag (F.daliIntstatTxdone i) = true
  collision : st = .collision → t.flag (F.daliIntstatCollision i) = true
  busfail : t.flag (F.daliStatBusfail i) = s.flag (F.daliStatBusfail i)
  intBusfail : s.flag (F.daliIntstatBusfail i) = true → t.flag (F.daliIntstatBusfail i) = true
  idle : t.flag (F.daliStatIdle i) = (s.flag (F.daliCtlEn i) && !s.flag (F.daliStatBusfail i))
  tb : t.tb = s.tb
  memory : s.sameMemory t

theorem daliEnded_daliEnd (s : State) (i : Nat) (st : Status) : DaliEnded i st s (s.daliEnd i st) := by
  have hset := daliSet_setDali s i { s.dali i with tx := none }
  have hint : (s.setDali i { s.dali i with tx := none }).regN (A.daliIntstat i) = s.regN (A.daliIntstat i) :=
    congrArg BitVec.toNat (hset.regs _ (mt List.mem_singleton.1 (daliStat_ne_daliIntstat i).symm))
  unfold State.daliEnd
  dsimp only
  generalize s.setDali i { s.dali i with tx := none } = u at hset hint ⊢
  have hw1 : WritesOnly [A.daliStat i] u (u.setFld (F.daliStatResult i) st.code) :=
    .setFld (f := F.daliStatResult i) (.refl _ u) (.head _)
  have hresult : (u.setFld (F.daliStatResult i) st.code).fld (F.daliStatResult i) = st.code := fld_setFld_at _ (status_code_lt st)
  have hbusfail : (u.setFld (F.daliStatResult i) st.code).flag (F.daliStatBusfail i) = u.flag (F.daliStatBusfail i) :=
    flag_setFld_beside _ _
  have hidle : (u.setFld (F.daliStatResult i) st.code).flag (F.daliStatIdle i) = u.flag (F.daliStatIdle i) :=
    flag_setFld_beside _ _
  generalize u.setFld (F.daliStatResult i) st.code = v at hw1 hresult hbusfail hidle ⊢
  have hint' : v.regN (A.daliIntstat i) = s.regN (A.daliIntstat i) :=
    (congrArg BitVec.toNat (hw1.regs _ (mt List.mem_singleton.1 (daliStat_ne_daliIntstat i).symm))).trans hint
  have hw2 : WritesOnly [A.daliIntstat i] v (v.raise (F.daliIntstatTxdone i)) :=
    .raise (f := F.daliIntstatTxdone i) (.refl _ v) (.head _)
  have hw3 : WritesOnly [A.daliIntstat i] v (if st = .collision then (v.raise (F.daliIntstatTxdone i)).raise (F.daliIntstatCollision i)
      else v.raise (F.daliIntstatTxdone i)) := .ite (hw2.raise (f := F.daliIntstatCollision i) (.head _)) hw2
  have hdone : (v.raise (F.daliIntstatTxdone i)).flag (F.daliIntstatTxdone i) = true := flag_raise_at v
  have hfail : s.flag (F.daliIntstatBusfail i) = true → (v.raise (F.daliIntstatTxdone i)).flag (F.daliIntstatBusfail i) = true :=
    fun h => flag_raise_of_beside v (by decide) (by decide) ((flag_eq_of_regN hint').trans h)
  generalize v.raise (F.daliIntstatTxdone i) = w at hw2 hw3 hdone hfail ⊢
  have hdone' : (if st = .collision then w.raise (F.daliIntstatCollision i) else w).flag (F.daliIntstatTxdone i) = true := by
    split
    · exact flag_raise_of_beside w (by decide) (by decide) hdone
    · exact hdone
  have hfail' (h : s.flag (F.daliIntstatBusfail i) = true) :
      (if st = .collision then w.raise (F.daliIntstatCollision i) else w).flag (F.daliIntstatBusfail i) = true := by
    split
    · exact flag_raise_of_beside w (by decide) (by decide) (hfail h)
    · exact hfail h
  have hcoll : st = .collision →
      (if st = .collision then w.raise (F.daliIntstatCollision i) else w).flag (F.daliIntstatCollision i) = true := by
    intro h
    rw [if_pos h]
    exact flag_raise_at w
  generalize (if st = .collision then w.raise (F.daliIntstatCollision i) else w) = t at hw3 hdone' hfail' hcoll ⊢
  have hkeeps := hw3.daliKeeps (fun _ => hdone')
  refine ⟨(dali_of_lum (hw3.lum.trans hw1.lum) i).trans hset.dali, hkeeps.result.trans hresult, hdone', hcoll,
    hkeeps.busfail.trans (hbusfail.trans hset.keeps.busfail), hfail',
    (hw3.flag (mt List.mem_singleton.1 (daliStat_ne_daliIntstat i))).trans (hidle.trans (hset.idle.trans ?_)),
    hkeeps.tb.trans (hw1.tb.trans hset.keeps.tb), fun a => ?_⟩
  · simp [DaliIf.sending]
  · rw [hw3.sameMemory a, hw1.sameMemory a, hset.keeps.memory a]

/-! ## The commands of DALI -/

theorem daliOn_iff (s : State) (i : Nat) : s.daliOn i = true ↔ i < 2 ∧ s.comUp = true ∧ s.flag (F.daliCtlEn i) = true := by
  simp [State.daliOn, and_assoc]

theorem roll_rolls (s : State) : s.roll.1 < 65536 ∧ s.roll.2.lum = s.lum ∧ s.sameMemory s.roll.2 := by
  have hdraw (u : State) (hlum : u.lum = s.lum) (hmem : s.sameMemory u) :
      (u.draw (2 ^ 16)).1 < 65536 ∧ (u.draw (2 ^ 16)).2.lum = s.lum ∧ s.sameMemory (u.draw (2 ^ 16)).2 :=
    ⟨Nat.mod_lt _ (by decide), hlum, hmem⟩
  unfold State.roll
  dsimp only
  split
  · exact hdraw _ rfl fun _ => rfl
  · exact hdraw _ rfl fun a => byte_count s _ a

/-- The settling time lies in the window of its priority (R561). -/
theorem settle_in_window {lo hi r : Nat} (h : lo ≤ hi) (hr : r < 65536) :
    msTenths lo ≤ msTenths lo + r * msTenths (hi - lo) / 65536 ∧ msTenths lo + r * msTenths (hi - lo) / 65536 ≤ msTenths hi := by
  have hle : r * msTenths (hi - lo) / 65536 ≤ msTenths (hi - lo) :=
    Nat.div_le_of_le_mul (Nat.mul_le_mul_right _ (by omega))
  have hsum : msTenths lo + msTenths (hi - lo) = msTenths hi := by unfold msTenths; omega
  omega

theorem settleWindow_le (prio : Nat) : (settleWindow prio).1 ≤ (settleWindow prio).2 := by
  unfold settleWindow
  split <;> decide

/-- The frame that a GO takes, but for its settling time (R561). -/
def State.daliFrame (s : State) (i n : Nat) : DaliTx :=
  { data := bitsOf (s.regN (A.daliTxdata i)) 0 (bitsOf n 0 6), size := bitsOf n 0 6, prio := bitsOf n 8 3, ans := bitAt n 11 }

theorem writeTxcmd_taken {w : Word} (hon : s.daliOn i = true) (hgo : bitAt w.toNat 31 = true) (hok : txcmdOk w.toNat = true)
    (hfree : (s.dali i).tx = none) :
    ∃ wait u, s.writeTxcmd i w = u.setDali i { u.dali i with tx := some { s.daliFrame i w.toNat with wait := wait } }
      ∧ u.lum = s.lum ∧ s.sameMemory u
      ∧ (bitsOf w.toNat 8 3 ≠ 0 → msTenths (settleWindow (bitsOf w.toNat 8 3)).1 ≤ wait
        ∧ wait ≤ msTenths (settleWindow (bitsOf w.toNat 8 3)).2) := by
  have hwrite : s.writeTxcmd i w =
      if bitsOf w.toNat 8 3 = 0 then s.setDali i { s.dali i with tx := some (s.daliFrame i w.toNat) }
      else s.roll.2.setDali i { s.roll.2.dali i with tx := some { s.daliFrame i w.toNat with
        wait := msTenths (settleWindow (bitsOf w.toNat 8 3)).1
          + s.roll.1 * msTenths ((settleWindow (bitsOf w.toNat 8 3)).2 - (settleWindow (bitsOf w.toNat 8 3)).1) / 65536 } } :=
    if_pos (by simp [hon, hgo, hok, hfree])
  rw [hwrite]
  obtain ⟨hlt, hlum, hmem⟩ := roll_rolls s
  generalize s.roll = p at hlt hlum hmem
  split
  · next hprio => exact ⟨0, s, rfl, rfl, fun _ => rfl, fun h => absurd hprio h⟩
  · exact ⟨_, p.2, rfl, hlum, hmem, fun _ => settle_in_window (settleWindow_le _) hlt⟩

theorem completes_daliSend {w : Word} (hon : s.daliOn i = true) (hgo : bitAt w.toNat 31 = true) (hok : txcmdOk w.toNat = true)
    (hfree : (s.dali i).tx = none) :
    Completes (.daliSend i false w) s fun t =>
      (∃ x, (t.dali i).tx = some x ∧ x.data = bitsOf (s.regN (A.daliTxdata i)) 0 (bitsOf w.toNat 0 6)
        ∧ x.size = bitsOf w.toNat 0 6 ∧ x.prio = bitsOf w.toNat 8 3 ∧ x.ans = bitAt w.toNat 11 ∧ x.sending = false
        ∧ (x.prio ≠ 0 → msTenths (settleWindow x.prio).1 ≤ x.wait ∧ x.wait ≤ msTenths (settleWindow x.prio).2))
      ∧ t.flag (F.daliStatTxbusy i) = true ∧ s.sameMemory t := by
  refine ⟨_, guarded_machine s _, ?_⟩
  obtain ⟨wait, u, hwrite, -, hmem, hwait⟩ := writeTxcmd_taken hon hgo hok hfree
  rw [hwrite]
  have h := daliSet_setDali u i { u.dali i with tx := some { s.daliFrame i w.toNat with wait := wait } }
  exact ⟨⟨{ s.daliFrame i w.toNat with wait := wait }, by rw [h.dali], rfl, rfl, rfl, rfl, rfl, hwait⟩, h.txbusy,
    fun a => (h.keeps.memory a).trans (hmem a)⟩

section
variable {x : DaliTx} (hon : s.daliOn i = true) (hx : (s.dali i).tx = some x)
include hon hx

/-- A frame that may start: on a priority at once, a backward frame in its window (R561). -/
theorem exec_daliFrameStart (hwaits : x.sending = false) (hbus : s.flag (F.daliStatBusfail i) = false) :
    exec (.daliFrameStart i) s = .next (
      if x.prio != 0 then s.setDali i { s.dali i with tx := some { x with sending := true }, window := none }
      else match (s.dali i).forward with
        | none => s.daliEnd i .missed
        | some e =>
          if s.tb.now < e + msTenths 55 then s
          else if e + msTenths 105 ≤ s.tb.now then s.daliEnd i .missed
          else s.setDali i { s.dali i with tx := some { x with sending := true }, window := none }) := by
  change execDaliFrameStart i s = _
  unfold execDaliFrameStart
  rw [hx]
  dsimp only
  rw [if_neg (show ¬ (!s.daliOn i || x.sending || s.flag (F.daliStatBusfail i)) = true by simp [hon, hwaits, hbus])] <;> rfl

theorem completes_daliFrameStart (hwaits : x.sending = false) (hbus : s.flag (F.daliStatBusfail i) = false) :
    (x.prio ≠ 0 →
      Completes (.daliFrameStart i) s fun t =>
        (t.dali i).tx = some { x with sending := true } ∧ t.flag (F.daliStatIdle i) = false
        ∧ s.sameRegsBut t [A.daliStat i] ∧ s.sameMemory t)
    ∧ (x.prio = 0 → (s.dali i).forward = none →
      Completes (.daliFrameStart i) s fun t =>
        (t.dali i).tx = none ∧ t.fld (F.daliStatResult i) = Status.missed.code
        ∧ t.flag (F.daliIntstatTxdone i) = true ∧ s.sameMemory t)
    ∧ (∀ e, x.prio = 0 → (s.dali i).forward = some e → e + 220000 ≤ s.tb.now → s.tb.now < e + 420000 →
      Completes (.daliFrameStart i) s fun t => (t.dali i).tx = some { x with sending := true } ∧ s.sameMemory t) := by
  have hset := daliSet_setDali s i { s.dali i with tx := some { x with sending := true }, window := none }
  have hexec := exec_daliFrameStart hon hx hwaits hbus
  refine ⟨fun hprio => ?_, fun hprio hforward => ?_, fun e hprio hforward hlo hhi => ?_⟩
  · rw [if_pos (by simpa using hprio)] at hexec
    exact ⟨_, hexec, by rw [hset.dali], hset.idle.trans (by simp [DaliIf.sending]), hset.regs, hset.keeps.memory⟩
  · rw [if_neg (by simpa using hprio), hforward] at hexec
    have hend := daliEnded_daliEnd s i .missed
    exact ⟨_, hexec, by rw [hend.dali], hend.result, hend.txdone, hend.memory⟩
  · rw [if_neg (by simpa using hprio), hforward] at hexec
    dsimp only at hexec
    rw [if_neg (show ¬ s.tb.now < e + msTenths 55 from Nat.not_lt.2 hlo),
      if_neg (show ¬ e + msTenths 105 ≤ s.tb.now from Nat.not_le.2 hhi)] at hexec
    exact ⟨_, hexec, by rw [hset.dali], hset.keeps.memory⟩

theorem completes_daliTxDone (hsending : x.sending = true) :
    Completes (.daliTxDone i) s fun t =>
      (t.dali i).tx = none ∧ t.fld (F.daliStatResult i) = Status.ok.code ∧ t.flag (F.daliIntstatTxdone i) = true
      ∧ ((s.dali i).rx.length < 8 → (t.dali i).rx = (s.dali i).rx ++ [{ data := x.data, bits := x.size, err := false }])
      ∧ (x.prio ≠ 0 → x.ans = true → (t.dali i).window = some s.tb.now) ∧ s.sameMemory t := by
  obtain ⟨hi, -, -⟩ := (daliOn_iff s i).1 hon
  generalize hr : ({ data := x.data, bits := x.size, err := false } : DaliRec) = r
  have hexec : exec (.daliTxDone i) s = .next (
      if x.prio != 0 && x.ans then
        (((s.daliEnd i .ok).daliForward i r).daliPush i r).setDali i
          { ((s.daliEnd i .ok).daliForward i r).daliPush i r |>.dali i with
            window := some (((s.daliEnd i .ok).daliForward i r).daliPush i r).tb.now }
      else ((s.daliEnd i .ok).daliForward i r).daliPush i r) := by
    change execDaliTxDone i s = _
    unfold execDaliTxDone
    rw [hx, ← hr]
    dsimp only
    rw [if_pos (show (s.daliOn i && x.sending) = true by simp [hon, hsending])]
  refine ⟨_, hexec, ?_⟩
  have hend := daliEnded_daliEnd s i .ok
  generalize s.daliEnd i .ok = u at hend ⊢
  obtain ⟨hkeeps, htx, -, hroom, -⟩ := daliHeard u hi r
  generalize (u.daliForward i r).daliPush i r = v at hkeeps htx hroom ⊢
  have htx' : (v.dali i).tx = none := by rw [htx, hend.dali]
  have hrx : (s.dali i).rx.length < 8 → (v.dali i).rx = (s.dali i).rx ++ [r] := fun h => by
    have hu : (u.dali i).rx = (s.dali i).rx := by rw [hend.dali]
    rw [(hroom (by rw [hu]; exact h)).1, hu]
  have hmem : s.sameMemory v := fun a => (hkeeps.memory a).trans (hend.memory a)
  have hresult : v.fld (F.daliStatResult i) = Status.ok.code := hkeeps.result.trans hend.result
  have hset := daliSet_setDali v i { v.dali i with window := some v.tb.now }
  generalize v.setDali i { v.dali i with window := some v.tb.now } = w at hset ⊢
  split
  · refine ⟨by rw [hset.dali]; exact htx', hset.keeps.result.trans hresult, hset.keeps.txdone (hkeeps.txdone hend.txdone),
      fun h => by rw [hset.dali]; exact hrx h, fun _ _ => ?_, fun a => (hset.keeps.memory a).trans (hmem a)⟩
    rw [hset.dali, hkeeps.tb, hend.tb]
  · next hno =>
    exact ⟨htx', hresult, hkeeps.txdone hend.txdone, hrx, fun hprio hans => absurd (by simp [hprio, hans]) hno, hmem⟩

theorem completes_daliCollision (hsending : x.sending = true) :
    Completes (.daliCollision i) s fun t =>
      (t.dali i).tx = none ∧ t.fld (F.daliStatResult i) = Status.collision.code
      ∧ t.flag (F.daliIntstatCollision i) = true ∧ (t.dali i).rx = (s.dali i).rx ∧ s.sameMemory t := by
  have hexec : exec (.daliCollision i) s = .next (s.daliEnd i .collision) := by
    change execDaliCollision i s = _
    unfold execDaliCollision
    rw [hx]
    dsimp only
    rw [if_pos (show (s.daliOn i && x.sending) = true by simp [hon, hsending])]
  have hend := daliEnded_daliEnd s i .collision
  exact ⟨_, hexec, by rw [hend.dali], hend.result, hend.collision rfl, by rw [hend.dali], hend.memory⟩

theorem completes_daliBusfail :
    Completes (.daliBusfail i true) s fun t =>
      (t.dali i).tx = none ∧ t.fld (F.daliStatResult i) = Status.busy.code
      ∧ t.flag (F.daliStatBusfail i) = true ∧ t.flag (F.daliIntstatBusfail i) = true
      ∧ t.flag (F.daliStatIdle i) = false ∧ s.sameMemory t := by
  have hexec : exec (.daliBusfail i true) s =
      .next (((s.raise (F.daliStatBusfail i)).raise (F.daliIntstatBusfail i)).daliEnd i .busy) := by
    change execDaliBusfail i true s = _
    unfold execDaliBusfail
    rw [if_neg (show ¬ (!s.daliOn i) = true by simp [hon]), if_pos rfl]
    exact congrArg Host.Outcome.next (if_pos (show (s.dali i).tx.isSome = true by rw [hx]; rfl))
  refine ⟨_, hexec, ?_⟩
  have hw : WritesOnly [A.daliIntstat i] (s.raise (F.daliStatBusfail i)) ((s.raise (F.daliStatBusfail i)).raise (F.daliIntstatBusfail i)) :=
    .raise (f := F.daliIntstatBusfail i) (.refl _ _) (.head _)
  have hstat : ((s.raise (F.daliStatBusfail i)).raise (F.daliIntstatBusfail i)).flag (F.daliStatBusfail i) = true :=
    (hw.flag (mt List.mem_singleton.1 (daliStat_ne_daliIntstat i))).trans (flag_raise_at s)
  have hint : ((s.raise (F.daliStatBusfail i)).raise (F.daliIntstatBusfail i)).flag (F.daliIntstatBusfail i) = true := flag_raise_at _
  have hmem : s.sameMemory ((s.raise (F.daliStatBusfail i)).raise (F.daliIntstatBusfail i)) := fun _ => rfl
  generalize (s.raise (F.daliStatBusfail i)).raise (F.daliIntstatBusfail i) = u at hstat hint hmem ⊢
  have hend := daliEnded_daliEnd u i .busy
  exact ⟨by rw [hend.dali], hend.result, hend.busfail.trans hstat, hend.intBusfail hint,
    hend.idle.trans (by rw [hstat]; simp), fun a => (hend.memory a).trans (hmem a)⟩

end

theorem completes_daliBusfail_end (hon : s.daliOn i = true) :
    Completes (.daliBusfail i false) s fun t => t.flag (F.daliStatBusfail i) = false ∧ t.lum = s.lum ∧ s.sameMemory t := by
  have hexec : exec (.daliBusfail i false) s = .next ((s.lower (F.daliStatBusfail i)).daliShow i) := by
    change execDaliBusfail i false s = _
    unfold execDaliBusfail
    rw [if_neg (show ¬ (!s.daliOn i) = true by simp [hon]), if_neg Bool.false_ne_true]
  refine ⟨_, hexec, ?_⟩
  have hlower : (s.lower (F.daliStatBusfail i)).flag (F.daliStatBusfail i) = false := flag_lower_at _
  have hw : WritesOnly [A.daliStat i] s (s.lower (F.daliStatBusfail i)) := .lower (f := F.daliStatBusfail i) (.refl _ s) (.head _)
  generalize s.lower (F.daliStatBusfail i) = u at hlower hw ⊢
  have h := daliShown_daliShow u i
  exact ⟨h.busfail.trans hlower, h.writes.lum.trans hw.lum, fun a => (h.writes.sameMemory a).trans (hw.sameMemory a)⟩

theorem completes_daliRxFrame (hon : s.daliOn i = true) (data bits : Nat) (err : Bool) :
    ((s.dali i).rx.length < 8 →
      Completes (.daliRxFrame i data bits err) s fun t =>
        (t.dali i).rx = (s.dali i).rx ++ [{ data := bitsOf data 0 32, bits := bits % 64, err := err }]
        ∧ t.flag (F.daliIntstatRx i) = true ∧ t.flag (F.daliStatRxavail i) = true ∧ s.sameMemory t)
    ∧ (8 ≤ (s.dali i).rx.length →
      Completes (.daliRxFrame i data bits err) s fun t =>
        (t.dali i).rx = (s.dali i).rx ∧ t.flag (F.daliIntstatRxovf i) = true ∧ s.sameMemory t) := by
  obtain ⟨hi, -, -⟩ := (daliOn_iff s i).1 hon
  generalize hr : ({ data := bitsOf data 0 32, bits := bits % 64, err := err } : DaliRec) = r
  have hexec : exec (.daliRxFrame i data bits err) s =
      .next (((s.setDali i { s.dali i with window := none }).daliForward i r).daliPush i r) := by
    change execDaliRxFrame i data bits err s = _
    unfold execDaliRxFrame
    rw [if_pos hon, ← hr]
  have hset := daliSet_setDali s i { s.dali i with window := none }
  generalize s.setDali i { s.dali i with window := none } = u at hexec hset
  obtain ⟨hkeeps, -, -, hroom, hfull⟩ := daliHeard u hi r
  have hrx : (u.dali i).rx = (s.dali i).rx := by rw [hset.dali]
  have hmem : s.sameMemory ((u.daliForward i r).daliPush i r) := fun a => (hkeeps.memory a).trans (hset.keeps.memory a)
  rw [hrx] at hroom hfull
  refine ⟨fun h => ?_, fun h => ?_⟩
  · obtain ⟨hdali, hflag, havail⟩ := hroom h
    exact ⟨_, hexec, hdali, hflag, havail, hmem⟩
  · obtain ⟨hdali, hflag⟩ := hfull h
    exact ⟨_, hexec, hdali, hflag, hmem⟩

theorem completes_daliBackwardTimeout (hon : s.daliOn i = true) {e : Nat} (hwindow : (s.dali i).window = some e)
    (hnow : e + 420000 ≤ s.tb.now) (hroom : (s.dali i).rx.length < 8) :
    Completes (.daliBackwardTimeout i) s fun t =>
      (t.dali i).rx = (s.dali i).rx ++ [{ data := 0, bits := 0, err := false }] ∧ (t.dali i).window = none ∧ s.sameMemory t := by
  obtain ⟨hi, -, -⟩ := (daliOn_iff s i).1 hon
  have hexec : exec (.daliBackwardTimeout i) s =
      .next ((s.setDali i { s.dali i with window := none }).daliPush i { data := 0, bits := 0, err := false }) := by
    change execDaliBackwardTimeout i s = _
    unfold execDaliBackwardTimeout
    rw [hwindow]
    dsimp only
    rw [if_pos (show (s.daliOn i && decide (e + msTenths 105 ≤ s.tb.now)) = true by
      rw [hon]
      exact decide_eq_true (show e + msTenths 105 ≤ s.tb.now from hnow))]
  refine ⟨_, hexec, ?_⟩
  have hset := daliSet_setDali s i { s.dali i with window := none }
  generalize s.setDali i { s.dali i with window := none } = u at hset ⊢
  have hpush := daliPushed_daliPush u hi { data := 0, bits := 0, err := false }
  have hrx : (u.dali i).rx = (s.dali i).rx := by rw [hset.dali]
  obtain ⟨hdali, -, -⟩ := hpush.taken (by rw [hrx]; exact hroom)
  exact ⟨by rw [hdali, hrx], by rw [hdali, hset.dali], fun a => (hpush.keeps.memory a).trans (hset.keeps.memory a)⟩

theorem completes_rxinfoRead (hon : s.daliOn i = true) {r : DaliRec} {rest : List DaliRec} (hrx : (s.dali i).rx = r :: rest) :
    Completes (.rxinfoRead i) s fun t =>
      t.busData = Word.ofN (2 ^ 15 + 2 ^ 14 * b2n r.err + r.bits) ∧ t.busError = false ∧ (t.dali i).rx = rest
      ∧ t.regN (A.daliRxdata i) = r.data % 2 ^ 32 ∧ s.sameRegsBut t [A.daliRxdata i, A.daliStat i] ∧ s.sameMemory t := by
  obtain ⟨hi, hup, -⟩ := (daliOn_iff s i).1 hon
  have hread : s.readRxinfo i = (Word.ofN (2 ^ 15 + 2 ^ 14 * b2n r.err + r.bits),
      (s.setDali i { s.dali i with rx := rest }).setRegN (A.daliRxdata i) r.data) := by
    unfold State.readRxinfo
    dsimp only
    split
    · next hnil => rw [hrx] at hnil; cases hnil
    · next r' rest' hcons =>
      rw [hrx] at hcons
      cases hcons
      rfl
  have hexec : exec (.rxinfoRead i) s = .next (((s.setDali i { s.dali i with rx := rest }).setRegN (A.daliRxdata i) r.data).answerRead
      (Word.ofN (2 ^ 15 + 2 ^ 14 * b2n r.err + r.bits))) := by
    change execRxinfoRead i s = _
    unfold execRxinfoRead
    rw [if_pos (show (decide (i < 2) && s.comUp) = true by simp [hi, hup]), hread]
  refine ⟨_, hexec, ?_⟩
  have hset := daliSet_setDali s i { s.dali i with rx := rest }
  generalize s.setDali i { s.dali i with rx := rest } = u at hset ⊢
  have hw : WritesOnly [A.daliRxdata i] u (u.setRegN (A.daliRxdata i) r.data) := .setRegN (.refl _ u) (.head _)
  have hval : (u.setRegN (A.daliRxdata i) r.data).regN (A.daliRxdata i) = r.data % 2 ^ 32 := State.regN_setRegN_self ..
  generalize u.setRegN (A.daliRxdata i) r.data = v at hw hval ⊢
  have hdali : v.dali i = { s.dali i with rx := rest } := (dali_of_lum hw.lum i).trans hset.dali
  have hregs : s.sameRegsBut v [A.daliRxdata i, A.daliStat i] := by
    intro a ha
    simp only [List.mem_cons, List.not_mem_nil, or_false, not_or] at ha
    exact (hw.regs a (mt List.mem_singleton.1 ha.1)).trans (hset.regs a (mt List.mem_singleton.1 ha.2))
  have hmem : s.sameMemory v := fun a => (hw.sameMemory a).trans (hset.keeps.memory a)
  exact ⟨rfl, rfl, congrArg DaliIf.rx hdali, (regN_answerRead ..).trans hval, sameRegsBut_answerRead hregs _, sameMemory_answerRead hmem _⟩

/-! ## Dimming (R564, R565) -/

theorem moveToward_lt {v target m : Nat} (step : Nat) (hv : v < m) (ht : target < m) : moveToward v target step < m := by
  unfold moveToward
  split <;> omega

theorem completes_dmoFade {n : Nat} (hn : n < 4) (hup : s.comUp = true) (hfade : s.fld (F.dmoFadeFade n) ≠ 0) :
    Completes (.dmoFade n) s fun t =>
      t.fld (F.dmoLevelLevel n) = moveToward (s.fld (F.dmoLevelLevel n)) (s.fld (F.dmoTargetTarget n)) (s.fld (F.dmoFadeFade n))
      ∧ t.flag (F.dmoLevelFading n) = (t.fld (F.dmoLevelLevel n) != s.fld (F.dmoTargetTarget n))
      ∧ s.sameRegsBut t [A.dmoLevel n] ∧ s.sameMemory t := by
  have hexec : exec (.dmoFade n) s = .next (s.setDmo n
      (moveToward (s.fld (F.dmoLevelLevel n)) (s.fld (F.dmoTargetTarget n)) (s.fld (F.dmoFadeFade n)))) :=
    congrArg Host.Outcome.next (if_pos (by simp [hn, hup, hfade]))
  refine ⟨_, hexec, ?_⟩
  have hlt := moveToward_lt (s.fld (F.dmoFadeFade n)) (show s.fld (F.dmoLevelLevel n) < 2 ^ 12 from Nat.mod_lt _ (Nat.two_pow_pos 12))
    (show s.fld (F.dmoTargetTarget n) < 2 ^ 12 from Nat.mod_lt _ (Nat.two_pow_pos 12))
  generalize moveToward (s.fld (F.dmoLevelLevel n)) (s.fld (F.dmoTargetTarget n)) (s.fld (F.dmoFadeFade n)) = v at hlt ⊢
  have hw1 : WritesOnly [A.dmoLevel n] s (s.setFld (F.dmoLevelLevel n) v) := .setFld (f := F.dmoLevelLevel n) (.refl _ s) (.head _)
  have hlevel : (s.setFld (F.dmoLevelLevel n) v).fld (F.dmoLevelLevel n) = v := fld_setFld_at s hlt
  unfold State.setDmo
  generalize s.setFld (F.dmoLevelLevel n) v = u at hw1 hlevel ⊢
  have hw2 : WritesOnly [A.dmoLevel n] u (u.setFld (F.dmoLevelFading n) (b2n (v != s.fld (F.dmoTargetTarget n)))) :=
    .setFld (f := F.dmoLevelFading n) (.refl _ u) (.head _)
  have hlevel' : (u.setFld (F.dmoLevelFading n) (b2n (v != s.fld (F.dmoTargetTarget n)))).fld (F.dmoLevelLevel n) = v :=
    (fld_setFld_beside u _).trans hlevel
  have hw := hw1.through hw2 fun a ha => ha
  exact ⟨hlevel', (flag_setFld_b2n u _).trans (by rw [hlevel']), hw.regs, hw.sameMemory⟩

theorem completes_dmoPeriod {n : Nat} (hn : n < 4) (hup : s.comUp = true) (hen : s.flag (F.dmoCfgEn n) = true)
    (hmode : s.flag (F.dmoCfgMode n) = true) :
    Completes (.dmoPeriod n) s fun t => Sparse.find? t.lum.pwm n = some (s.fld (F.dmoLevelLevel n)) ∧ s.sameMemory t := by
  have hexec : exec (.dmoPeriod n) s = .next
      (({ s with lum := { s.lum with pwm := Sparse.insert s.lum.pwm n (s.fld (F.dmoLevelLevel n)) } } : State).evPulse (0x162 + n)) :=
    congrArg Host.Outcome.next (if_pos (by simp [hn, hup, hen, hmode]))
  refine ⟨_, hexec, ?_⟩
  have hpwm : Sparse.find? ({ s with lum := { s.lum with pwm := Sparse.insert s.lum.pwm n (s.fld (F.dmoLevelLevel n)) } } : State).lum.pwm n
      = some (s.fld (F.dmoLevelLevel n)) := Sparse.find?_insert_self ..
  have hmem : s.sameMemory { s with lum := { s.lum with pwm := Sparse.insert s.lum.pwm n (s.fld (F.dmoLevelLevel n)) } } := fun _ => rfl
  generalize ({ s with lum := { s.lum with pwm := Sparse.insert s.lum.pwm n (s.fld (F.dmoLevelLevel n)) } } : State) = u at hpwm hmem ⊢
  generalize 0x162 + n = code
  have hf := (RunsAll.evPulse (code := code) (.refl _ u)).frame
  generalize u.evPulse code = t at hf ⊢
  exact ⟨by rw [hf.lum]; exact hpwm, fun a => (hf.sameMemory a).trans (hmem a)⟩

/-! ## Metering (R566, R567) -/

/-- What metering keeps beside its registers. -/
def State.setLum (s : State) (x : LumState) : State := { s with lum := x }

theorem lum_setLum (s : State) (x : LumState) : (s.setLum x).lum = x := rfl
theorem regN_setLum (s : State) (x : LumState) (a : Nat) : (s.setLum x).regN a = s.regN a := rfl
theorem reg_setLum (s : State) (x : LumState) (a : Nat) : (s.setLum x).reg a = s.reg a := rfl
theorem sameMemory_setLum (s : State) (x : LumState) : s.sameMemory (s.setLum x) := fun _ => rfl

theorem completes_metZeroCrossing (hruns : s.metRuns = true) :
    Completes .metZeroCrossing s fun t =>
      t.lum.cycles = s.lum.cycles + 1 ∧ t.flag F.metStatNozc = false ∧ s.sameMemory t := by
  have hexec : exec .metZeroCrossing s =
      .next (((s.setLum { s.lum with cycles := s.lum.cycles + 1 }).lower F.metStatNozc).evPulse 0x166) :=
    congrArg Host.Outcome.next (if_pos hruns)
  refine ⟨_, hexec, ?_⟩
  have hlum := lum_setLum s { s.lum with cycles := s.lum.cycles + 1 }
  have hmem := sameMemory_setLum s { s.lum with cycles := s.lum.cycles + 1 }
  generalize s.setLum { s.lum with cycles := s.lum.cycles + 1 } = u at hlum hmem ⊢
  have hw : WritesOnly [A.metStat] u (u.lower F.metStatNozc) := .lower (f := F.metStatNozc) (.refl _ u) (.head _)
  have hlower : (u.lower F.metStatNozc).flag F.metStatNozc = false := flag_lower_at _
  generalize u.lower F.metStatNozc = v at hw hlower ⊢
  have hf := (RunsAll.evPulse (code := 0x166) (.refl _ v)).frame
  generalize v.evPulse 0x166 = t at hf ⊢
  exact ⟨by rw [hf.lum, hw.lum, hlum], (hf.flag (by decide)).trans hlower,
    fun a => (hf.sameMemory a).trans ((hw.sameMemory a).trans (hmem a))⟩

/-- The registers of a metering period. -/
def State.metStored (s : State) (v i1 i2 p1 p2 period : Nat) : State :=
  (((((s.setRegN A.metVrms v).setRegN A.metI1rms i1).setRegN A.metI2rms i2).setRegN A.metP1 p1).setRegN A.metP2 p2).setRegN
    A.metPeriod period

theorem metStored_stores (s : State) (v i1 i2 p1 p2 period : Nat) :
    (s.metStored v i1 i2 p1 p2 period).lum = s.lum ∧ s.sameMemory (s.metStored v i1 i2 p1 p2 period)
    ∧ (s.metStored v i1 i2 p1 p2 period).regN A.metVrms = v % 2 ^ 32
    ∧ (s.metStored v i1 i2 p1 p2 period).regN A.metI1rms = i1 % 2 ^ 32
    ∧ (s.metStored v i1 i2 p1 p2 period).regN A.metI2rms = i2 % 2 ^ 32
    ∧ (s.metStored v i1 i2 p1 p2 period).regN A.metP1 = p1 % 2 ^ 32
    ∧ (s.metStored v i1 i2 p1 p2 period).regN A.metP2 = p2 % 2 ^ 32
    ∧ (s.metStored v i1 i2 p1 p2 period).regN A.metPeriod = period % 2 ^ 32 := by
  have hne {u : State} {a b n : Nat} (h : a ≠ b) : (u.setRegN b n).regN a = u.regN a := State.regN_setRegN_ne u n h
  unfold State.metStored
  refine ⟨rfl, fun _ => rfl, ?_, ?_, ?_, ?_, ?_, State.regN_setRegN_self ..⟩
  · rw [hne (by decide), hne (by decide), hne (by decide), hne (by decide), hne (by decide)]
    exact State.regN_setRegN_self ..
  · rw [hne (by decide), hne (by decide), hne (by decide), hne (by decide)]
    exact State.regN_setRegN_self ..
  · rw [hne (by decide), hne (by decide), hne (by decide)]
    exact State.regN_setRegN_self ..
  · rw [hne (by decide), hne (by decide)]
    exact State.regN_setRegN_self ..
  · rw [hne (by decide)]
    exact State.regN_setRegN_self ..

theorem completes_metPeriod (hruns : s.metRuns = true) (v i1 i2 p1 p2 period de1 de2 : Nat) (clip : Bool)
    (hacc : s.fld F.metCfgAcc ≤ s.lum.cycles) :
    Completes (.metPeriod v i1 i2 p1 p2 period de1 de2 clip) s fun t =>
      t.regN A.metVrms = v % 2 ^ 32 ∧ t.regN A.metI1rms = i1 % 2 ^ 32 ∧ t.regN A.metI2rms = i2 % 2 ^ 32
      ∧ t.regN A.metP1 = p1 % 2 ^ 32 ∧ t.regN A.metP2 = p2 % 2 ^ 32 ∧ t.regN A.metPeriod = period % 2 ^ 32
      ∧ t.lum.e1 = (s.lum.e1 + de1) % 2 ^ 64 ∧ t.lum.e2 = (s.lum.e2 + de2) % 2 ^ 64 ∧ t.lum.cycles = 0
      ∧ t.flag F.metIntstatAccdone = true ∧ (clip = true → t.flag F.metIntstatClip = true) ∧ s.sameMemory t := by
  have hexec : exec (.metPeriod v i1 i2 p1 p2 period de1 de2 clip) s = .next
      ((((if clip then ((s.metStored v i1 i2 p1 p2 period).setLum { (s.metStored v i1 i2 p1 p2 period).lum with
          cycles := 0, e1 := ((s.metStored v i1 i2 p1 p2 period).lum.e1 + de1) % 2 ^ 64,
          e2 := ((s.metStored v i1 i2 p1 p2 period).lum.e2 + de2) % 2 ^ 64 }).raise F.metIntstatClip
        else (s.metStored v i1 i2 p1 p2 period).setLum { (s.metStored v i1 i2 p1 p2 period).lum with
          cycles := 0, e1 := ((s.metStored v i1 i2 p1 p2 period).lum.e1 + de1) % 2 ^ 64,
          e2 := ((s.metStored v i1 i2 p1 p2 period).lum.e2 + de2) % 2 ^ 64 })).raise F.metIntstatAccdone).evPulse 0x167) :=
    congrArg Host.Outcome.next (if_pos (by simp [hruns, hacc]))
  refine ⟨_, hexec, ?_⟩
  obtain ⟨hlum, hmem, hv, hi1, hi2, hp1, hp2, hperiod⟩ := metStored_stores s v i1 i2 p1 p2 period
  generalize s.metStored v i1 i2 p1 p2 period = u at hlum hmem hv hi1 hi2 hp1 hp2 hperiod ⊢
  rw [← hlum]
  generalize hx : ({ u.lum with cycles := 0, e1 := (u.lum.e1 + de1) % 2 ^ 64, e2 := (u.lum.e2 + de2) % 2 ^ 64 } : LumState) = x
  have hregs (a : Nat) := regN_setLum u x a
  have hlum2 := lum_setLum u x
  have hmem2 := sameMemory_setLum u x
  generalize u.setLum x = w at hregs hlum2 hmem2 ⊢
  have hclip : WritesOnly [A.metIntstat] w (if clip then w.raise F.metIntstatClip else w) :=
    .ite (.raise (f := F.metIntstatClip) (.refl _ w) (.head _)) (.refl _ w)
  have hclip' : clip = true → (if clip then w.raise F.metIntstatClip else w).flag F.metIntstatClip = true := by
    intro h
    rw [if_pos h]
    exact flag_raise_at w
  generalize (if clip then w.raise F.metIntstatClip else w) = y at hclip hclip' ⊢
  have hdone : WritesOnly [A.metIntstat] w (y.raise F.metIntstatAccdone) := hclip.raise (f := F.metIntstatAccdone) (.head _)
  have hdone' : (y.raise F.metIntstatAccdone).flag F.metIntstatAccdone = true := flag_raise_at y
  have hclip2 (h : clip = true) : (y.raise F.metIntstatAccdone).flag F.metIntstatClip = true :=
    flag_raise_of_beside y (by decide) (by decide) (hclip' h)
  generalize y.raise F.metIntstatAccdone = z at hdone hdone' hclip2 ⊢
  have hf := (RunsAll.evPulse (code := 0x167) (.refl _ z)).frame
  generalize z.evPulse 0x167 = t at hf ⊢
  have hreg {a : Nat} (hint : a ∉ [A.metIntstat]) (hout : ¬ (0x40600000 ≤ a ∧ a < 0x40620000)) : t.regN a = u.regN a :=
    (hf.regN hout).trans ((congrArg BitVec.toNat (hdone.regs a hint)).trans (hregs a))
  have hx' : t.lum = x := by rw [hf.lum, hdone.lum, hlum2]
  exact ⟨(hreg (by decide) (by decide)).trans hv, (hreg (by decide) (by decide)).trans hi1,
    (hreg (by decide) (by decide)).trans hi2, (hreg (by decide) (by decide)).trans hp1,
    (hreg (by decide) (by decide)).trans hp2, (hreg (by decide) (by decide)).trans hperiod,
    by rw [hx', ← hx], by rw [hx', ← hx], by rw [hx', ← hx], (hf.flag (by decide)).trans hdone',
    fun h => (hf.flag (by decide)).trans (hclip2 h),
    fun a => (hf.sameMemory a).trans ((hdone.sameMemory a).trans ((hmem2 a).trans (hmem a)))⟩

theorem completes_metNozc (hruns : s.metRuns = true) (hno : s.flag F.metStatNozc = false) :
    Completes .metNozc s fun t =>
      t.flag F.metStatNozc = true ∧ t.flag F.metIntstatNozc = true
      ∧ s.sameRegsBut t [A.metStat, A.metIntstat] ∧ s.sameMemory t := by
  have hexec : exec .metNozc s = .next ((s.raise F.metStatNozc).raise F.metIntstatNozc) :=
    congrArg Host.Outcome.next (if_pos (by simp [hruns, hno]))
  have hw : WritesOnly [A.metStat, A.metIntstat] s ((s.raise F.metStatNozc).raise F.metIntstatNozc) :=
    ((WritesOnly.refl _ s).raise (f := F.metStatNozc)).raise (f := F.metIntstatNozc)
  refine ⟨_, hexec, ?_, flag_raise_at _, hw.regs, hw.sameMemory⟩
  exact (flag_eq_of_regN (regN_raise_ne _ (by decide))).trans (flag_raise_at s)

theorem completes_eclr (hup : s.comUp = true) {w : Word} (hclear : bitAt w.toNat 0 = true) :
    Completes (.eclr false w) s fun t =>
      t.lum = { s.lum with e1 := 0, e2 := 0 } ∧ s.sameRegsBut t [A.metCfg] ∧ s.sameMemory t := by
  have hexec : exec (.eclr false w) s = .next (s.writeMetCfg w) := by
    change guarded false s (if s.comUp then s.writeMetCfg w else s) = _
    rw [if_pos hup, guarded_machine]
  refine ⟨_, hexec, ?_⟩
  have hw : WritesOnly [A.metCfg] s (s.writeReg A.metCfg w) := .writeReg (.refl _ s) (.head _)
  have hwrite : s.writeMetCfg w = (s.writeReg A.metCfg w).setLum { (s.writeReg A.metCfg w).lum with e1 := 0, e2 := 0 } :=
    if_pos hclear
  rw [hwrite]
  generalize s.writeReg A.metCfg w = u at hw ⊢
  have hlum := lum_setLum u { u.lum with e1 := 0, e2 := 0 }
  have hmem : s.sameMemory (u.setLum { u.lum with e1 := 0, e2 := 0 }) := fun a => (sameMemory_setLum u _ a).trans (hw.sameMemory a)
  have hregs : s.sameRegsBut (u.setLum { u.lum with e1 := 0, e2 := 0 }) [A.metCfg] := fun a ha => (reg_setLum u _ a).trans (hw.regs a ha)
  rw [hw.lum] at hlum hmem hregs ⊢
  exact ⟨hlum, hregs, hmem⟩

theorem answerRead_latched (s : State) (a e : Nat) (w : Word) :
    ((s.setRegN a e).answerRead w).busData = w ∧ ((s.setRegN a e).answerRead w).busError = false
    ∧ ((s.setRegN a e).answerRead w).regN a = e % 2 ^ 32
    ∧ s.sameRegsBut ((s.setRegN a e).answerRead w) [a] ∧ s.sameMemory ((s.setRegN a e).answerRead w) := by
  have hw : WritesOnly [a] s (s.setRegN a e) := .setRegN (.refl _ s) (.head _)
  have hval : (s.setRegN a e).regN a = e % 2 ^ 32 := State.regN_setRegN_self ..
  generalize s.setRegN a e = u at hw hval ⊢
  exact ⟨rfl, rfl, hval, sameRegsBut_answerRead hw.regs _, sameMemory_answerRead hw.sameMemory _⟩

theorem exec_energyRead (hup : s.comUp = true) {k : Nat} (hk : k < 2) :
    exec (.energyRead k) s = .next ((s.readEnergy k).2.answerRead (s.readEnergy k).1) :=
  congrArg Host.Outcome.next (if_pos (by simp [hk, hup]))

theorem readEnergy_eq (s : State) (k : Nat) : s.readEnergy k =
    (Word.ofN (if k = 0 then s.lum.e1 else s.lum.e2),
      s.setRegN (if k = 0 then A.metE1hi else A.metE2hi) ((if k = 0 then s.lum.e1 else s.lum.e2) / 2 ^ 32)) := rfl

theorem completes_energyRead (hup : s.comUp = true) :
    (Completes (.energyRead 0) s fun t =>
      t.busData = Word.ofN s.lum.e1 ∧ t.busError = false ∧ t.regN A.metE1hi = s.lum.e1 / 2 ^ 32 % 2 ^ 32
      ∧ s.sameRegsBut t [A.metE1hi] ∧ s.sameMemory t)
    ∧ (Completes (.energyRead 1) s fun t =>
      t.busData = Word.ofN s.lum.e2 ∧ t.busError = false ∧ t.regN A.metE2hi = s.lum.e2 / 2 ^ 32 % 2 ^ 32
      ∧ s.sameRegsBut t [A.metE2hi] ∧ s.sameMemory t) := by
  refine ⟨⟨_, exec_energyRead hup (by decide), ?_⟩, ⟨_, exec_energyRead hup (by decide), ?_⟩⟩
  · rw [readEnergy_eq, if_pos rfl, if_pos rfl]
    generalize s.lum.e1 = e
    exact answerRead_latched s ..
  · rw [readEnergy_eq, if_neg Nat.one_ne_zero, if_neg Nat.one_ne_zero]
    generalize s.lum.e2 = e
    exact answerRead_latched s ..

/-- Settles O47: an interface is set and STAT follows, a frame's end shows its status; a fade and a metering period store
what they computed. -/
theorem daliDimmingAndMetering : Obligations.DaliDimmingAndMetering := by
  unfold Obligations.DaliDimmingAndMetering
  refine fun s => ⟨fun i hon => ⟨fun w hgo hok hfree => completes_daliSend hon hgo hok hfree, fun x hx => ⟨?_, ?_, ?_⟩,
    completes_daliBusfail_end hon, completes_daliRxFrame hon, fun e hwindow hnow hroom => completes_daliBackwardTimeout hon hwindow hnow hroom,
    fun r rest hrx => completes_rxinfoRead hon hrx⟩, fun n hn hup => ⟨completes_dmoFade hn hup, completes_dmoPeriod hn hup⟩,
    fun hruns => ⟨completes_metZeroCrossing hruns, completes_metPeriod hruns, completes_metNozc hruns⟩,
    fun hup => ⟨fun w hclear => completes_eclr hup hclear, completes_energyRead hup⟩⟩
  · exact fun hwaits hbus => completes_daliFrameStart hon hx hwaits hbus
  · exact fun hsending => ⟨completes_daliTxDone hon hx hsending, completes_daliCollision hon hx hsending⟩
  · exact completes_daliBusfail hon hx

end Sys2Proof.Machine
end

section
/-!
Steps of the flash controller (R392-R405, R421): flash, the marks of words in error, the controller's own state and listed
registers change, and nothing else; what they do to the flash depends on the flash alone.
-/

namespace Sys2Proof.Machine

theorem region_ne_flash {a : Nat} (h : 0x0A000000 ≤ a) : region a ≠ .flash := by
  unfold region
  rw [if_neg (by omega), if_neg (by simp only [Bool.and_eq_true, decide_eq_true_eq]; omega)]
  split_ifs <;> decide

/-- `t` differs from `s` in the flash and its controller, the free values drawn and the registers listed only. -/
structure FlashWork (l : List Nat) (s t : State) : Prop where
  regs : s.sameRegsBut t l
  rest : t = { s with regs := t.regs, flash := t.flash, ecc := t.ecc, flc := t.flc, free := t.free }

namespace FlashWork

variable {l : List Nat} {s t u : State} {c : Prop} {i : Decidable c}

theorem refl (l : List Nat) (s : State) : FlashWork l s s := ⟨fun _ _ => rfl, rfl⟩

theorem trans (h : FlashWork l s t) (g : FlashWork l t u) : FlashWork l s u where
  regs a ha := (g.regs a ha).trans (h.regs a ha)
  rest := by
    rw [g.rest]
    exact congrArg (fun v : State => { v with regs := u.regs, flash := u.flash, ecc := u.ecc, flc := u.flc, free := u.free }) h.rest

theorem ite (ht : FlashWork l s t) (hu : FlashWork l s u) : FlashWork l s (if c then t else u) := by
  split
  · exact ht
  · exact hu

theorem ofWrites (h : WritesOnly l s t) : FlashWork l s t where
  regs := h.regs
  rest := by
    rw [h.rest]

theorem other {flash ecc flc free} (h : FlashWork l s t) :
    FlashWork l s { t with flash := flash, ecc := ecc, flc := flc, free := free } where
  regs := h.regs
  rest := congrArg (fun v : State => { v with regs := t.regs, flash := flash, ecc := ecc, flc := flc, free := free }) h.rest

theorem raise (h : FlashWork l s t) {f : Fld} (hf : f.addr ∈ l := by decide) : FlashWork l s (t.raise f) :=
  h.trans (ofWrites ((WritesOnly.refl l t).raise hf))

theorem lower (h : FlashWork l s t) {f : Fld} (hf : f.addr ∈ l := by decide) : FlashWork l s (t.lower f) :=
  h.trans (ofWrites ((WritesOnly.refl l t).lower hf))

theorem setFld (h : FlashWork l s t) {f : Fld} {v : Nat} (hf : f.addr ∈ l := by decide) : FlashWork l s (t.setFld f v) :=
  h.trans (ofWrites ((WritesOnly.refl l t).setFld hf))

theorem writeReg (h : FlashWork l s t) {a : Nat} {w : Word} (ha : a ∈ l := by decide) : FlashWork l s (t.writeReg a w) :=
  h.trans (ofWrites ((WritesOnly.refl l t).writeReg ha))

theorem flcCount (h : FlashWork l s t) {k n : Nat} (hk : A.flcCtr k ∈ l := by decide) : FlashWork l s (t.flcCount k n) :=
  h.trans (ofWrites ((WritesOnly.refl l t).setRegN hk))

theorem setFlash (h : FlashWork l s t) {off : Nat} {b : List Byte} : FlashWork l s (t.setFlash off b) := by
  induction b generalizing t off with
  | nil => exact h
  | cons x b ih => exact ih h.other

theorem draw (h : FlashWork l s t) {m : Nat} : FlashWork l s (t.draw m).2 := h.other

theorem junkSectors (h : FlashWork l s t) {k : List Nat} : FlashWork l s (t.junkSectors k) := h.other

theorem eraseSectors (h : FlashWork l s t) {a n : Nat} : FlashWork l s (t.eraseSectors a n) := h.other

theorem eraseCounted (h : FlashWork l s t) {a n : Nat} (hk : A.flcCtr 4 ∈ l := by decide) : FlashWork l s (t.eraseCounted a n) :=
  h.eraseSectors.flcCount hk

theorem program (h : FlashWork l s t) {off : Nat} {b : List Byte} (hk : A.flcCtr 3 ∈ l := by decide) :
    FlashWork l s (t.program off b) := h.setFlash.flcCount hk

theorem writeCopy (h : FlashWork l s t) {off : Nat} {b : List Byte} (h3 : A.flcCtr 3 ∈ l := by decide)
    (h4 : A.flcCtr 4 ∈ l := by decide) : FlashWork l s (t.writeCopy off b) := (h.eraseCounted h4).program h3

theorem regN (h : FlashWork l s t) {a : Nat} (ha : a ∉ l) : t.regN a = s.regN a := congrArg BitVec.toNat (h.regs a ha)

theorem fld (h : FlashWork l s t) {f : Fld} (hf : f.addr ∉ l) : t.fld f = s.fld f := fld_eq_of_regN (h.regN hf)

theorem flag (h : FlashWork l s t) {f : Fld} (hf : f.addr ∉ l) : t.flag f = s.flag f := flag_eq_of_regN (h.regN hf)

theorem ram (h : FlashWork l s t) : t.ram = s.ram := by rw [h.rest]

theorem otp (h : FlashWork l s t) : t.otp = s.otp := by rw [h.rest]

theorem pw (h : FlashWork l s t) : t.pw = s.pw := by rw [h.rest]

theorem tick (h : FlashWork l s t) : t.tick = s.tick := by rw [h.rest]

theorem rf (h : FlashWork l s t) : t.rf = s.rf := by rw [h.rest]

theorem fw (h : FlashWork l s t) : t.fw = s.fw := by rw [h.rest]

theorem hsl (h : FlashWork l s t) : t.hsl = s.hsl := by rw [h.rest]

theorem jrn (h : FlashWork l s t) : t.jrn = s.jrn := by rw [h.rest]

/-- Bytes that are no flash are as before. -/
theorem byte (h : FlashWork l s t) {a : Nat} (ha : region a ≠ .flash) : t.byte a = s.byte a := by
  generalize hr : region a = r at ha
  cases r with
  | flash => exact absurd rfl ha
  | mainSram | retained | context =>
    rw [h.rest]
    unfold State.byte
    rw [hr]
    rfl
  | rom | registers | windows | reserved =>
    unfold State.byte
    rw [hr]

/-- Bytes that lie in SRAM are as before. -/
theorem bytes (h : FlashWork l s t) {a n : Nat} (hin : inSram a n = true) : t.bytes a n = s.bytes a n := by
  induction n generalizing a with
  | zero => rfl
  | succ n ih =>
    have hnext : inSram (a + 1) n = true := by
      simp only [inSram, Bool.or_eq_true, Bool.and_eq_true, decide_eq_true_eq] at hin ⊢
      omega
    have hhigh : 0x0A000000 ≤ a := by
      simp only [inSram, Bool.or_eq_true, Bool.and_eq_true, decide_eq_true_eq] at hin
      omega
    rw [State.bytes, State.bytes, h.byte (region_ne_flash hhigh), ih hnext]

theorem mem (h : FlashWork l s t) {a n : Nat} (hin : inSram a n = true) : t.mem a n = s.mem a n := by
  rw [State.mem, State.mem, h.bytes hin]

end FlashWork

/-! ## What the flash holds after a step -/

theorem flash_program (s : State) (off : Nat) (b : List Byte) : (s.program off b).flash = (s.setFlash off b).flash := rfl

theorem flash_eraseCounted (s : State) (a n : Nat) :
    (s.eraseCounted a n).flash = (s.eraseFlash (4096 * a) (4096 * (a + n))).flash := rfl

theorem flash_flcCount (s : State) (k n : Nat) : (s.flcCount k n).flash = s.flash := rfl

/-! ## What the flash holds depends on the flash -/

/-- Two states whose flash reads alike: its bytes, what is undefined in it, and where a sector is read from. -/
structure SameFlash (s t : State) : Prop where
  flash : t.flash = s.flash
  redirect : t.flc.redirect = s.flc.redirect
  junk : t.flc.junk = s.flc.junk
  junkUnits : t.flc.junkUnits = s.flc.junkUnits

namespace SameFlash

variable {s t : State}

theorem ofFlc (hflash : t.flash = s.flash) (hflc : t.flc = s.flc) : SameFlash s t :=
  ⟨hflash, by rw [hflc], by rw [hflc], by rw [hflc]⟩

theorem flashByte (h : SameFlash s t) (off : Nat) : t.flashByte off = s.flashByte off := by
  unfold State.flashByte
  rw [h.flash, h.redirect, h.junk, h.junkUnits]

theorem flashBytes (h : SameFlash s t) (off n : Nat) : t.flashBytes off n = s.flashBytes off n := by
  induction n generalizing off with
  | zero => rfl
  | succ n ih => rw [State.flashBytes, State.flashBytes, h.flashByte, ih]

theorem erasedRange (h : SameFlash s t) (off n : Nat) : t.erasedRange off n = s.erasedRange off n := by
  rw [State.erasedRange, State.erasedRange, h.flashBytes]

theorem eraseCounted (h : SameFlash s t) (a n : Nat) : SameFlash (s.eraseCounted a n) (t.eraseCounted a n) where
  flash := by rw [flash_eraseCounted, flash_eraseCounted, State.eraseFlash, State.eraseFlash, h.flash]
  redirect := h.redirect
  junk := congrArg (List.filter fun p : Nat × Nat => p.1 < a || a + n ≤ p.1) h.junk
  junkUnits := congrArg (List.filter fun p : Nat × Nat => p.1 < 16 * a || 16 * (a + n) ≤ p.1) h.junkUnits

theorem setFlash (h : SameFlash s t) (off : Nat) (b : List Byte) : SameFlash (s.setFlash off b) (t.setFlash off b) := by
  induction b generalizing s t off with
  | nil => exact h
  | cons x l ih =>
    have hput : SameFlash { s with flash := Sparse.put (fun _ => (0xFF : Byte)) s.flash off x }
        { t with flash := Sparse.put (fun _ => (0xFF : Byte)) t.flash off x } :=
      ⟨congrArg (fun f => Sparse.put (fun _ => (0xFF : Byte)) f off x) h.flash, h.redirect, h.junk, h.junkUnits⟩
    exact ih hput _

theorem program (h : SameFlash s t) (off : Nat) (b : List Byte) : SameFlash (s.program off b) (t.program off b) :=
  have hset := h.setFlash off b
  ⟨hset.flash, hset.redirect, hset.junk, hset.junkUnits⟩

theorem writeCopy (h : SameFlash s t) (off : Nat) (b : List Byte) : SameFlash (s.writeCopy off b) (t.writeCopy off b) :=
  (h.eraseCounted _ _).program _ _

end SameFlash

end Sys2Proof.Machine
end

section
/-!
The built-in self test (R571-R574, R578) and the failure capture record (R575-R578).
-/

namespace Sys2Proof.Machine

variable {s : State} {o : Origin} {p : List Byte}

theorem WritesOnly.flash {l : List Nat} {s t : State} (h : WritesOnly l s t) : t.flash = s.flash := by rw [h.rest]

theorem WritesOnly.otp {l : List Nat} {s t : State} (h : WritesOnly l s t) : t.otp = s.otp := by rw [h.rest]

theorem sameFlash_taking (s : State) (o : Origin) : SameFlash s (s.taking o) := .ofFlc rfl rfl

theorem pw_respond (s : State) (o : Origin) (code : Nat) (st : Status) (rest : List Byte) :
    (s.respond o code st rest).pw = s.pw := by
  obtain ⟨x, y, h⟩ := respond_eq s o code st rest
  rw [h]

theorem fcr_respond (s : State) (o : Origin) (code : Nat) (st : Status) (rest : List Byte) :
    (s.respond o code st rest).fcr = s.fcr := by
  obtain ⟨x, y, h⟩ := respond_eq s o code st rest
  rw [h]

theorem pip_respond (s : State) (o : Origin) (code : Nat) (st : Status) (rest : List Byte) :
    (s.respond o code st rest).pip = s.pip := by
  obtain ⟨x, y, h⟩ := respond_eq s o code st rest
  rw [h]

/-! ## Starting a run (R572) -/

theorem startBist_starts (s : State) (tests : Nat) :
    (s.startBist tests).pw.boot = .bist ∧ (s.startBist tests).pip = []
    ∧ ∃ b, (s.startBist tests).fcr.bist = some b ∧ b.tests = tests := by
  unfold State.startBist
  generalize s.jrnFlush = u
  exact ⟨rfl, rfl, _, rfl, rfl⟩

theorem completes_bistRun (ht : s.takes o 0x60 p) (hlen : p.length = 4) (hzero : allZero (p.drop 1) = true)
    (hok : (s.taking o).bistCode (byteAt p 0) false = .ok) :
    Completes (.bistRun o p) s fun t =>
      t.pw.boot = .bist ∧ t.pip = [] ∧ (∃ b, t.fcr.bist = some b ∧ b.tests = byteAt p 0)
      ∧ t.responded o (rspPayload 0x60 .ok []) := by
  have hanswer : handleBistRun o p (s.taking o) = (.now .ok [], (s.taking o).startBist (byteAt p 0)) := by
    unfold handleBistRun
    rw [hzero]
    exact if_pos hok
  refine completes_of_answered rfl ht (by simp [hlen]) hanswer ?_
  obtain ⟨hboot, hpip, hbist⟩ := startBist_starts (s.taking o) (byteAt p 0)
  generalize (s.taking o).startBist (byteAt p 0) = u at hboot hpip hbist ⊢
  exact ⟨by rw [pw_respond]; exact hboot, by rw [pip_respond]; exact hpip, by rw [fcr_respond]; exact hbist,
    State.responded_respond ..⟩

theorem completes_bistGo {w : Word} (hup : s.comUp = true) (hrun : s.running = true) (hgo : bitAt w.toNat 31 = true)
    (hzero : bitsOf w.toNat 8 23 = 0) (hok : s.bistCode (bitsOf w.toNat 0 8) false = .ok) :
    Completes (.bistGo false w) s fun t =>
      t.pw.boot = .bist ∧ t.pip = [] ∧ ∃ b, t.fcr.bist = some b ∧ b.tests = bitsOf w.toNat 0 8 := by
  have hwrite : s.writeBstCtl w = s.startBist (bitsOf w.toNat 0 8) := by
    unfold State.writeBstCtl
    dsimp only
    rw [hzero]
    exact if_pos (by simp [hup, hrun, hgo, hok])
  refine ⟨_, guarded_machine s _, ?_⟩
  rw [hwrite]
  exact startBist_starts s _

/-! ## Records and units (R574, R575, R578) -/

theorem SameFlash.bistRecords {s t : State} (h : SameFlash s t) : t.bistRecords = s.bistRecords := by
  have hunit (u : Nat) : t.bistUnit u = s.bistUnit u := by
    unfold State.bistUnit
    rw [h.flashBytes, h.flashBytes]
  unfold State.bistRecords
  simp only [hunit]

theorem SameFlash.bistNewest {s t : State} (h : SameFlash s t) : t.bistNewest = s.bistNewest := by
  rw [State.bistNewest, State.bistNewest, h.bistRecords]

theorem completes_bistResult {u : Nat} {r : List Byte} (ht : s.takes o 0x61 p) (hlen : p.length = 4)
    (hzero : allZero (p.drop 1) = true) (hlt : byteAt p 0 < 16) (hrec : s.bistRecords[byteAt p 0]? = some (u, r)) :
    Completes (.bistResult o p) s fun t => t.responded o (rspPayload 0x61 .ok r) ∧ s.sameMemory t := by
  have hanswer : handleBistResult o p (s.taking o) = (.now .ok r, s.taking o) := by
    unfold handleBistResult
    dsimp only
    rw [if_neg (show ¬ (decide (16 ≤ byteAt p 0) || !allZero (p.drop 1)) = true by rw [hzero]; simp [hlt]),
      (sameFlash_taking s o).bistRecords, hrec]
  exact completes_of_answered rfl ht (by simp [hlen]) hanswer
    ⟨State.responded_respond .., sameMemory_respond (sameMemory_taking s o) o _ _ _⟩

theorem SameFlash.fcrUsed {s t : State} (h : SameFlash s t) (u : Nat) : t.fcrUsed u = s.fcrUsed u := by
  rw [State.fcrUsed, State.fcrUsed, h.flashBytes, h.flashBytes]

/-- The seals also read the root secret in the OTP (R577). -/
theorem SameFlash.fcrUnit {s t : State} (h : SameFlash s t) (hotp : t.otp = s.otp) (u : Nat) : t.fcrUnit u = s.fcrUnit u := by
  have hword (w : Nat) : t.otpWord w = s.otpWord w := by rw [State.otpWord, State.otpWord, hotp]
  have hseal (b : List Byte) : t.fcrSeal b = s.fcrSeal b := by
    unfold State.fcrSeal State.rootSecret
    simp only [hword]
  have hgood (off : Nat) : t.fcrGood off = s.fcrGood off := by
    unfold State.fcrGood
    dsimp only
    rw [h.flashBytes, hseal]
  unfold State.fcrUnit
  rw [hgood, h.flashBytes, h.flashBytes]

theorem completes_fcrRead (ht : s.takes o 0x62 p) (hlen : p.length = 4) (hzero : allZero (p.drop 1) = true)
    (hlt : byteAt p 0 < 16) (hused : s.fcrUsed (byteAt p 0) = true) :
    Completes (.fcrRead o p) s fun t =>
      t.responded o (rspPayload 0x62 .ok ([Byte.ofN s.fcrCount, 0, 0, 0] ++ leBytes 4 s.fcr.lost ++ s.fcrUnit (byteAt p 0)))
      ∧ s.sameMemory t := by
  have hsame := sameFlash_taking s o
  have hcount : (s.taking o).fcrCount = s.fcrCount := by
    unfold State.fcrCount
    rw [show (s.taking o).fcrUsed = s.fcrUsed from funext hsame.fcrUsed]
  have hlost : (s.taking o).fcr = s.fcr := rfl
  have hanswer : handleFcrRead o p (s.taking o) =
      (.now .ok ([Byte.ofN s.fcrCount, 0, 0, 0] ++ leBytes 4 s.fcr.lost ++ s.fcrUnit (byteAt p 0)), s.taking o) := by
    unfold handleFcrRead
    dsimp only
    rw [if_neg (show ¬ (decide (16 ≤ byteAt p 0) || !allZero (p.drop 1)) = true by rw [hzero]; simp [hlt]), hsame.fcrUsed, hused,
      if_neg (by decide), hcount, hlost, hsame.fcrUnit rfl]
  exact completes_of_answered rfl ht (by simp [hlen]) hanswer
    ⟨State.responded_respond .., sameMemory_respond (sameMemory_taking s o) o _ _ _⟩

/-! ## The end of a run (R572-R574) -/

theorem SameFlash.putBist {s t : State} (h : SameFlash s t) (rec : List Byte) : SameFlash (s.putBist rec) (t.putBist rec) := by
  have hsector (c : Bool) (off : Nat) {u v : State} (g : SameFlash u v) :
      SameFlash (if c && !u.erasedRange off 4096 then u.eraseCounted (off / 4096) 1 else u)
        (if c && !v.erasedRange off 4096 then v.eraseCounted (off / 4096) 1 else v) := by
    rw [g.erasedRange]
    split
    · exact g.eraseCounted _ _
    · exact g
  unfold State.putBist
  dsimp only
  rw [h.bistNewest]
  generalize (match s.bistNewest with | some (u, _) => (u + 1) % 32 | none => 0) = u
  exact ((hsector _ _ (hsector _ _ h)).program _ _).program _ _

theorem putBist_work (s : State) (rec : List Byte) : FlashWork [A.flcCtr 3, A.flcCtr 4] s (s.putBist rec) := by
  have hsector (c : Bool) (off : Nat) {u : State} (g : FlashWork [A.flcCtr 3, A.flcCtr 4] s u) :
      FlashWork [A.flcCtr 3, A.flcCtr 4] s (if c && !u.erasedRange off 4096 then u.eraseCounted (off / 4096) 1 else u) :=
    .ite g.eraseCounted g
  unfold State.putBist
  dsimp only
  generalize (match s.bistNewest with | some (u, _) => (u + 1) % 32 | none => 0) = u
  exact ((hsector _ _ (hsector _ _ (.refl _ s))).program).program

/-- The memory tests leave the flash, its controller, the OTP, the registers and the power state (R571). -/
theorem bistMemories_keeps (s : State) (began : Nat → Bool) :
    SameFlash s (s.bistMemories began) ∧ (s.bistMemories began).otp = s.otp ∧ (s.bistMemories began).pw = s.pw
    ∧ (s.bistMemories began).tick = s.tick := by
  unfold State.bistMemories
  dsimp only
  have hmain : let u := if began 5 then
        [2, 3, 4, 5].foldl (fun s d => s.bumpEpoch d) (s.loseRam (fun a => region a == Region.mainSram)) else s
      SameFlash s u ∧ u.otp = s.otp ∧ u.pw = s.pw ∧ u.tick = s.tick := by
    dsimp only
    split
    · exact ⟨.ofFlc rfl rfl, rfl, rfl, rfl⟩
    · exact ⟨.ofFlc rfl rfl, rfl, rfl, rfl⟩
  generalize (if began 5 then
        [2, 3, 4, 5].foldl (fun s d => s.bumpEpoch d) (s.loseRam (fun a => region a == Region.mainSram)) else s) = u at hmain ⊢
  obtain ⟨hflash, hotp, hpw, htick⟩ := hmain
  split
  · exact ⟨⟨hflash.flash, hflash.redirect, hflash.junk, hflash.junkUnits⟩, hotp, hpw, htick⟩
  · exact ⟨hflash, hotp, hpw, htick⟩

theorem completes_bistDone {b : BistRun} {sigs : List (Nat × Nat)} (hb : s.fcr.bist = some b) (hboot : s.pw.boot = .bist)
    (hsigs : ∀ q ∈ sigs, q.1 < 8 ∧ bitAt b.tests q.1 = true)
    (hall : ∀ k, k < 8 → bitAt b.tests k = true → (sigOf sigs k).isSome = true)
    (halone : ∀ x, s.pw.lastReset = some x → x.1 ≠ s.tick) :
    Completes (.bistDone sigs []) s fun t =>
      t.pw.boot = .startup ∧ t.fld F.rstCauseScope = 2 ∧ t.fld F.rstCauseCode = 12
      ∧ t.flash = (s.putBist (s.bistRecord b
          (((match s.bistNewest with | some (_, r) => bistSeq r | none => 0) + 1) % 2 ^ 32) sigs [])).flash := by
  have hsigs' : sigs.filter (fun q => q.1 < 8 && bitAt b.tests q.1) = sigs :=
    List.filter_eq_self.2 fun q hq => by simp [hsigs q hq]
  have hran : ((List.range 8).filter (bitAt b.tests)).all (fun k => (sigOf sigs k).isSome) = true := by
    rw [List.all_eq_true]
    intro k hk
    obtain ⟨hlt, hbit⟩ := List.mem_filter.1 hk
    exact hall k (List.mem_range.1 hlt) hbit
  generalize hseq : ((match s.bistNewest with | some (_, r) => bistSeq r | none => 0) + 1) % 2 ^ 32 = seq
  have hexec : ∃ began, exec (.bistDone sigs []) s =
      .next (((s.bistMemories began).putBist ((s.bistMemories began).bistRecord b seq sigs [])).assertReset 2 12) := by
    refine ⟨fun k => (sigOf sigs k).isSome
      || ((List.range 8).filter (bitAt b.tests)).find? (fun k => !(sigOf sigs k).isSome) == some k, ?_⟩
    change execBistDone sigs [] s = _
    unfold execBistDone
    rw [hb]
    dsimp only
    rw [hsigs', if_neg (by simp only [hboot, hran]; simp), ← hseq] <;> rfl
  obtain ⟨began, hexec⟩ := hexec
  refine ⟨_, hexec, ?_⟩
  obtain ⟨hflash, hotp, hpw, htick⟩ := bistMemories_keeps s began
  generalize s.bistMemories began = u at hflash hotp hpw htick ⊢
  have hrecord : u.bistRecord b seq sigs [] = s.bistRecord b seq sigs [] := by
    have hword (w : Nat) : u.otpWord w = s.otpWord w := by rw [State.otpWord, State.otpWord, hotp]
    unfold State.bistRecord
    simp only [hword]
  rw [hrecord]
  generalize s.bistRecord b seq sigs [] = rec
  have hput := (hflash.putBist rec).flash
  have hwork := putBist_work u rec
  generalize u.putBist rec = v at hput hwork ⊢
  have hvboot : v.pw.boot = .bist := by rw [hwork.pw, hpw, hboot]
  have hvflash := (keepsOverReset_resetSystem v).flash
  obtain ⟨w, x, hrec, heq, hx⟩ := assertReset_alone v (scope := 2) (.inl rfl) (code := 12) (by decide) (by rw [hvboot]; decide)
    (.inr rfl) (by rw [hwork.pw, hpw, hwork.tick, htick]; exact halone)
  rw [heq]
  exact ⟨(congrArg PowerState.boot (pw_setPw ..)).trans hx, (fld_setPw ..).trans hrec.scope, (fld_setPw ..).trans hrec.code,
    (hrec.writes.flash.trans hvflash).trans hput⟩

/-! ## Committing a fault (R576) -/

/-- What is pending in the failure capture record, beside the committed units. -/
def State.setFcr (s : State) (x : FcrState) : State := { s with fcr := x }

/-- A unit is known by what the flash and the root secret in the OTP give. -/
theorem SameFlash.fcrKnown {s t : State} (h : SameFlash s t) (hotp : t.otp = s.otp) (kind site : Nat) :
    t.fcrKnown kind site = s.fcrKnown kind site := by
  unfold State.fcrKnown
  simp only [h.fcrUsed, h.fcrUnit hotp]

/-- A record in both copies of a unit (R575, R576). -/
def State.commitFault (s : State) (u : Nat) (b : List Byte) : State :=
  (((s.setFlash (fcrOff u) b).setFlash (fcrOff u + fcrMirror) b).flcCount 3 2).raise F.fcrIntstatNew

theorem commitFault_work (s : State) (u : Nat) (b : List Byte) :
    FlashWork [A.flcCtr 3, A.fcrIntstat] s (s.commitFault u b) :=
  (((FlashWork.refl _ s).setFlash).setFlash.flcCount).raise (f := F.fcrIntstatNew)

theorem commitFault_flash (s : State) (u : Nat) (b : List Byte) :
    (s.commitFault u b).flash = ((s.setFlash (fcrOff u) b).setFlash (fcrOff u + fcrMirror) b).flash := rfl

theorem FlashWork.fcr {l : List Nat} {s t : State} (h : FlashWork l s t) : t.fcr = s.fcr := by rw [h.rest]

theorem completes_faultCommit {f : FaultRec} {rest : List FaultRec} {u : Nat} (hpend : s.fcr.pending = f :: rest)
    (hon : s.domainOn .fl = true) (hnew : s.fcrKnown f.kind f.site = false)
    (hfree : (List.range 16).find? (fun u => !s.fcrUsed u) = some u) :
    Completes .faultCommit s fun t =>
      let b := s.faultBytes f ++ s.fcrSeal (s.faultBytes f)
      t.flash = ((s.setFlash (fcrOff u) b).setFlash (fcrOff u + fcrMirror) b).flash ∧ t.fcr.pending = rest
      ∧ t.flag F.fcrIntstatNew = true ∧ t.ram = s.ram ∧ s.sameRegsBut t [A.flcCtr 3, A.fcrIntstat] := by
  have hsame : SameFlash s (s.setFcr { s.fcr with pending := rest }) := .ofFlc rfl rfl
  have hbytes : (s.setFcr { s.fcr with pending := rest }).faultBytes f ++ (s.setFcr { s.fcr with pending := rest }).fcrSeal
      ((s.setFcr { s.fcr with pending := rest }).faultBytes f) = s.faultBytes f ++ s.fcrSeal (s.faultBytes f) := rfl
  have hexec : exec .faultCommit s = .next ((s.setFcr { s.fcr with pending := rest }).commitFault u
      (s.faultBytes f ++ s.fcrSeal (s.faultBytes f))) := by
    have hknown := hsame.fcrKnown rfl f.kind f.site
    have hused := funext hsame.fcrUsed
    rw [← hbytes]
    change execFaultCommit s = _
    unfold execFaultCommit
    rw [hpend]
    dsimp only
    rw [hon, if_neg (by decide)]
    change Host.Outcome.next (if (s.setFcr { s.fcr with pending := rest }).fcrKnown f.kind f.site then _ else
      match (List.range 16).find? (fun u => !(s.setFcr { s.fcr with pending := rest }).fcrUsed u) with
      | none => _ | some u => (s.setFcr { s.fcr with pending := rest }).commitFault u _) = _
    rw [hknown, hnew, if_neg (by decide), hused, hfree] <;> rfl
  refine ⟨_, hexec, ?_⟩
  dsimp only
  generalize s.faultBytes f ++ s.fcrSeal (s.faultBytes f) = b
  have hpending : (s.setFcr { s.fcr with pending := rest }).fcr.pending = rest := rfl
  have hframe : (s.setFcr { s.fcr with pending := rest }).ram = s.ram ∧ ∀ a, (s.setFcr { s.fcr with pending := rest }).reg a = s.reg a :=
    ⟨rfl, fun _ => rfl⟩
  generalize s.setFcr { s.fcr with pending := rest } = v at hsame hpending hframe ⊢
  have hwork := commitFault_work v u b
  have hflash : (v.commitFault u b).flash = ((s.setFlash (fcrOff u) b).setFlash (fcrOff u + fcrMirror) b).flash :=
    (commitFault_flash v u b).trans ((hsame.setFlash _ b).setFlash _ b).flash
  have hnewflag : (v.commitFault u b).flag F.fcrIntstatNew = true := flag_raise_at _
  generalize v.commitFault u b = t at hwork hflash hnewflag ⊢
  exact ⟨hflash, by rw [hwork.fcr]; exact hpending, hnewflag, hwork.ram.trans hframe.1,
    fun a ha => (hwork.regs a ha).trans (hframe.2 a)⟩

/-- Settles O23: a run's record and a fault's reach the flash as the ring and the units stand; a read gives what stands
there. -/
theorem bistAndFaultRecords : Obligations.BistAndFaultRecords := by
  unfold Obligations.BistAndFaultRecords
  exact fun s o p => ⟨fun ht hlen hzero hok => completes_bistRun ht hlen hzero hok,
    fun w hup hrun hgo hzero hok => completes_bistGo hup hrun hgo hzero hok,
    fun b sigs hb hboot hsigs hall halone => completes_bistDone hb hboot hsigs hall halone,
    fun u r ht hlen hzero hlt hrec => completes_bistResult ht hlen hzero hlt hrec,
    fun ht hlen hzero hlt hused => completes_fcrRead ht hlen hzero hlt hused,
    fun f rest u hpend hon hnew hfree => completes_faultCommit hpend hon hnew hfree⟩

end Sys2Proof.Machine
end

section
/-!
Background flash work, the scrubber and the operation registers (R394, R396, R399, R403-R405, R419).
-/

namespace Sys2Proof.Machine

variable {s : State}

/-! ## Background erases (R396, R399, R403) -/

theorem flash_respond (s : State) (o : Origin) (code : Nat) (st : Status) (rest : List Byte) :
    (s.respond o code st rest).flash = s.flash := by
  obtain ⟨x, y, h⟩ := respond_eq s o code st rest
  rw [h]

theorem flc_respond (s : State) (o : Origin) (code : Nat) (st : Status) (rest : List Byte) :
    (s.respond o code st rest).flc = s.flc := by
  obtain ⟨x, y, h⟩ := respond_eq s o code st rest
  rw [h]

theorem ram_respond (s : State) (o : Origin) (code : Nat) (st : Status) (rest : List Byte) :
    (s.respond o code st rest).ram = s.ram := by
  obtain ⟨x, y, h⟩ := respond_eq s o code st rest
  rw [h]

theorem otp_respond (s : State) (o : Origin) (code : Nat) (st : Status) (rest : List Byte) :
    (s.respond o code st rest).otp = s.otp := by
  obtain ⟨x, y, h⟩ := respond_eq s o code st rest
  rw [h]

/-- What the flash controller keeps beside its registers. -/
def State.setFlc (s : State) (x : FlcState) : State := { s with flc := x }

theorem flc_setFlc (s : State) (x : FlcState) : (s.setFlc x).flc = x := rfl
theorem fld_setFlc (s : State) (x : FlcState) (f : Fld) : (s.setFlc x).fld f = s.fld f := rfl
theorem flag_setFlc (s : State) (x : FlcState) (f : Fld) : (s.setFlc x).flag f = s.flag f := rfl
theorem ram_setFlc (s : State) (x : FlcState) : (s.setFlc x).ram = s.ram := rfl
theorem flash_setFlc (s : State) (x : FlcState) : (s.setFlc x).flash = s.flash := rfl
theorem otp_setFlc (s : State) (x : FlcState) : (s.setFlc x).otp = s.otp := rfl
theorem flc_flcCount (s : State) (k n : Nat) : (s.flcCount k n).flc = s.flc := rfl
theorem sameMemory_flcCount (s : State) (k n : Nat) : s.sameMemory (s.flcCount k n) := fun _ => rfl

/-- The bytes do not depend on the operation that runs. -/
theorem sameMemory_setOp (s : State) (x : Option FlashOp) : s.sameMemory (s.setFlc { s.flc with op := x }) := fun _ => rfl

theorem FlashWork.setFlc {l : List Nat} {s t : State} (h : FlashWork l s t) {x : FlcState} : FlashWork l s (t.setFlc x) := h.other

theorem endErase_ok (s : State) (e : EraseJob) :
    s.endErase e .ok = match e.host with
      | some (o, code) => ((s.setFlc { s.flc with erase := none, poll := Status.ok.code }).raise F.flcIntstatOpdone).respond o code .ok []
      | none => (s.setFlc { s.flc with erase := none, poll := Status.ok.code }).raise F.flcIntstatOpdone := by
  unfold State.endErase
  dsimp only
  rw [if_pos rfl] <;> rfl

theorem endErase_ends (s : State) (e : EraseJob) :
    (s.endErase e .ok).flash = s.flash ∧ (s.endErase e .ok).flc.erase = none ∧ (s.endErase e .ok).flc.poll = Status.ok.code
    ∧ (s.endErase e .ok).ram = s.ram ∧ (e.host = none → (s.endErase e .ok).flag F.flcIntstatOpdone = true)
    ∧ ∀ o code, e.host = some (o, code) → (s.endErase e .ok).responded o (rspPayload code .ok []) := by
  rw [endErase_ok]
  have hw : FlashWork [A.flcIntstat] s ((s.setFlc { s.flc with erase := none, poll := Status.ok.code }).raise F.flcIntstatOpdone) :=
    (FlashWork.refl _ s).setFlc.raise (f := F.flcIntstatOpdone)
  have hflash : ((s.setFlc { s.flc with erase := none, poll := Status.ok.code }).raise F.flcIntstatOpdone).flash = s.flash := rfl
  have hflc : ((s.setFlc { s.flc with erase := none, poll := Status.ok.code }).raise F.flcIntstatOpdone).flc
      = { s.flc with erase := none, poll := Status.ok.code } := rfl
  have hflag : ((s.setFlc { s.flc with erase := none, poll := Status.ok.code }).raise F.flcIntstatOpdone).flag F.flcIntstatOpdone = true :=
    flag_raise_at _
  generalize (s.setFlc { s.flc with erase := none, poll := Status.ok.code }).raise F.flcIntstatOpdone = u at hw hflash hflc hflag ⊢
  cases hhost : e.host with
  | none => exact ⟨hflash, by rw [hflc], by rw [hflc], hw.ram, fun _ => hflag, fun _ _ h => nomatch h⟩
  | some x =>
    obtain ⟨o, code⟩ := x
    refine ⟨(flash_respond ..).trans hflash, by rw [flc_respond, hflc], by rw [flc_respond, hflc], (ram_respond ..).trans hw.ram,
      fun h => (nomatch h), fun o' code' h => ?_⟩
    cases h
    exact State.responded_respond ..

theorem completes_flashEraseDone {e : EraseJob} (he : s.flc.erase = some e) (hlower : e.lower = false) (hsusp : e.suspended = false) :
    Completes .flashEraseDone s fun t =>
      t.flash = (s.eraseFlash (4096 * e.first) (4096 * (e.first + e.count))).flash ∧ t.flc.erase = none
      ∧ t.flc.poll = Status.ok.code ∧ t.ram = s.ram
      ∧ (e.host = none → t.flag F.flcIntstatOpdone = true)
      ∧ (∀ o code, e.host = some (o, code) → t.responded o (rspPayload code .ok [])) := by
  have hexec : exec .flashEraseDone s = .next ((s.eraseCounted e.first e.count).endErase e .ok) := by
    change execFlashEraseDone s = _
    unfold execFlashEraseDone
    rw [he]
    dsimp only
    rw [hlower, hsusp]
    rfl
  refine ⟨_, hexec, ?_⟩
  have hflash := flash_eraseCounted s e.first e.count
  have hram := ((FlashWork.refl [A.flcCtr 4] s).eraseCounted (a := e.first) (n := e.count)).ram
  generalize s.eraseCounted e.first e.count = u at hflash hram ⊢
  obtain ⟨hflash', herase, hpoll, hram', hdone, hresp⟩ := endErase_ends u e
  exact ⟨hflash'.trans hflash, herase, hpoll, hram'.trans hram, hdone, hresp⟩

/-- What a lowering of the protection level leaves in flash (R403). -/
def State.rdpErased (s : State) : State :=
  { s with
    flash := s.flash.filter (fun p => rdpKeeps (p.1 / 4096)), ecc := s.ecc.filter (fun p => region (8 * p.1) != Region.flash),
    flc := { s.flc with junk := s.flc.junk.filter (fun p => rdpKeeps p.1),
                        junkUnits := s.flc.junkUnits.filter (fun p => rdpKeeps (p.1 / 16)) } }

theorem completes_rdpLowerDone {e : EraseJob} (he : s.flc.erase = some e) (hlower : e.lower = true) (hsusp : e.suspended = false)
    (hbist : s.pw.boot ≠ .bist) (hheld : s.pw.boot ≠ .held) (halone : ∀ x, s.pw.lastReset = some x → x.1 ≠ s.tick) :
    Completes .rdpLowerDone s fun t =>
      t.flash = s.flash.filter (fun p => rdpKeeps (p.1 / 4096)) ∧ t.pw.boot = .startup
      ∧ t.fld F.rstCauseScope = 3 ∧ t.fld F.rstCauseCode = 11 ∧ t.otp = s.otp := by
  have hexec : exec .rdpLowerDone s = .next (s.rdpErased.assertReset 3 11) := by
    change execRdpLowerDone s = _
    unfold execRdpLowerDone
    rw [he]
    dsimp only
    rw [if_pos (by rw [hlower, hsusp]; rfl)]
    rfl
  refine ⟨_, hexec, ?_⟩
  have hflash : s.rdpErased.flash = s.flash.filter (fun p => rdpKeeps (p.1 / 4096)) := rfl
  have hsame : s.rdpErased.otp = s.otp ∧ s.rdpErased.pw = s.pw ∧ s.rdpErased.tick = s.tick := ⟨rfl, rfl, rfl⟩
  generalize s.rdpErased = u at hflash hsame ⊢
  obtain ⟨hotp, hpw, htick⟩ := hsame
  have hkeeps := keepsOverReset_resetAlwaysOn u
  obtain ⟨w, x, hrec, heq, hx⟩ := assertReset_alone u (scope := 3) (.inr rfl) (code := 11) (by decide) (by rw [hpw]; exact hheld)
    (.inl (by rw [hpw]; exact hbist)) (by rw [hpw, htick]; exact halone)
  rw [heq]
  exact ⟨hrec.writes.flash.trans (hkeeps.flash.trans hflash), (congrArg PowerState.boot (pw_setPw ..)).trans hx,
    (fld_setPw ..).trans hrec.scope, (fld_setPw ..).trans hrec.code, hrec.writes.otp.trans (hkeeps.otp.trans hotp)⟩

theorem completes_eraseResume {e : EraseJob} (he : s.flc.erase = some e) (hsusp : e.suspended = true) :
    Completes .eraseResume s fun t =>
      t.flc.erase = some { e with suspended := false, resumed := some s.tb.now } ∧ s.sameMemory t ∧ s.sameRegsBut t [] := by
  have hexec : exec .eraseResume s =
      .next (s.setFlc { s.flc with erase := some { e with suspended := false, resumed := some s.tb.now } }) := by
    change execEraseResume s = _
    unfold execEraseResume
    rw [he]
    dsimp only
    rw [if_pos hsusp]
    rfl
  exact ⟨_, hexec, rfl, fun _ => rfl, fun _ _ => rfl⟩

/-! ## The scrubber (R404, R405) -/

/-- A step of the scrubber: the bytes stay, and so do the counters not listed and the sector read next. -/
structure ScrubStep (l : List Nat) (s t : State) : Prop where
  memory : s.sameMemory t
  regs : s.sameRegsBut t l
  next : t.flc.next = s.flc.next

theorem ScrubStep.trans {l : List Nat} {s t u : State} (h : ScrubStep l s t) (g : ScrubStep l t u) : ScrubStep l s u where
  memory a := (g.memory a).trans (h.memory a)
  regs a ha := (g.regs a ha).trans (h.regs a ha)
  next := g.next.trans h.next

theorem WritesOnly.scrubStep {l : List Nat} {s t : State} (h : WritesOnly l s t) : ScrubStep l s t :=
  ⟨h.sameMemory, h.regs, by rw [h.rest]⟩

theorem scrubStep_raise (s : State) {f : Fld} (hf : f.addr = A.flcIntstat) : ScrubStep [A.flcIntstat] s (s.raise f) :=
  ((WritesOnly.refl _ s).raise (hf ▸ .head _)).scrubStep

theorem scrubStep_markSector (s : State) (k : Nat) : ScrubStep [A.flcIntstat] s (s.markSector k) := by
  have hset : ScrubStep [A.flcIntstat] s (s.setFlc { s.flc with marked := s.flc.marked ++ [k] }) := ⟨fun _ => rfl, fun _ _ => rfl, rfl⟩
  unfold State.markSector
  split
  · exact ⟨fun _ => rfl, fun _ _ => rfl, rfl⟩
  · exact hset.trans (scrubStep_raise _ rfl)

/-- What the scrubber reports of a sector whose codewords were corrected (R404). -/
def State.scrubMarks (s : State) (corr : List Nat) (retried k : Nat) : State :=
  let s := if corr.isEmpty && retried = 0 then s else s.raise F.flcIntstatCorr
  if retried != 0 || corr.any (fun n => s.fld F.flcEcccfgRefthr ≤ n) then s.markSector k else s

theorem scrubStep_scrubMarks (s : State) (corr : List Nat) (retried k : Nat) :
    ScrubStep [A.flcIntstat] s (s.scrubMarks corr retried k) := by
  have hrefl (u : State) : ScrubStep [A.flcIntstat] u u := ⟨fun _ => rfl, fun _ _ => rfl, rfl⟩
  have hcorr : ScrubStep [A.flcIntstat] s (if corr.isEmpty && retried = 0 then s else s.raise F.flcIntstatCorr) := by
    split
    · exact hrefl s
    · exact scrubStep_raise s rfl
  unfold State.scrubMarks
  dsimp only
  generalize (if corr.isEmpty && retried = 0 then s else s.raise F.flcIntstatCorr) = u at hcorr ⊢
  split
  · exact hcorr.trans (scrubStep_markSector u k)
  · exact hcorr

theorem regN_flcCount_self (s : State) (k n : Nat) : (s.flcCount k n).regN (A.flcCtr k) = (s.regN (A.flcCtr k) + n) % 2 ^ 32 :=
  (State.regN_setRegN_self ..).trans (Nat.mod_mod ..)

theorem regN_flcCount_ne (s : State) {k a : Nat} (n : Nat) (h : a ≠ A.flcCtr k) : (s.flcCount k n).regN a = s.regN a :=
  State.regN_setRegN_ne s _ h

theorem next_flcCount (s : State) (k n : Nat) : (s.flcCount k n).flc.next = s.flc.next := rfl

/-- The scrubber moves to a sector. -/
def State.scrubNext (s : State) (k : Nat) : State := s.setFlc { s.flc with next := k }

theorem scrubNext_moves (s : State) (k : Nat) :
    (s.scrubNext k).flc.next = k ∧ s.sameMemory (s.scrubNext k) ∧ ∀ a, (s.scrubNext k).regN a = s.regN a :=
  ⟨rfl, fun _ => rfl, fun _ => rfl⟩

theorem completes_scrubRead (corr : List Nat) (retried : Nat) (hup : s.comUp = true) (hfl : s.domainOn .fl = true)
    (hen : s.flag F.flcScrubcfgEn = true) :
    Completes (.scrubRead corr retried []) s fun t =>
      t.flc.next = (s.flc.next + 1) % 8192 ∧ s.sameMemory t
      ∧ t.regN (A.flcCtr 0) = (s.regN (A.flcCtr 0) + corr.length) % 2 ^ 32
      ∧ t.regN (A.flcCtr 1) = (s.regN (A.flcCtr 1) + retried) % 2 ^ 32
      ∧ (s.flc.next ≠ 8191 → t.regN (A.flcCtr 6) = s.regN (A.flcCtr 6)) := by
  have hexec : exec (.scrubRead corr retried []) s = .next (
      if s.flc.next = 8191 then
        (((((s.flcCount 0 corr.length).flcCount 1 retried).scrubMarks corr retried s.flc.next).scrubNext ((s.flc.next + 1) % 8192)).flcCount 6 1)
      else ((((s.flcCount 0 corr.length).flcCount 1 retried).scrubMarks corr retried s.flc.next).scrubNext ((s.flc.next + 1) % 8192))) := by
    change execScrubRead corr retried [] s = _
    unfold execScrubRead
    rw [if_pos (by simp [hup, hfl, hen])]
    rfl
  refine ⟨_, hexec, ?_⟩
  have hcount : s.sameMemory ((s.flcCount 0 corr.length).flcCount 1 retried) := fun _ => rfl
  have h0 : ((s.flcCount 0 corr.length).flcCount 1 retried).regN (A.flcCtr 0) = (s.regN (A.flcCtr 0) + corr.length) % 2 ^ 32 :=
    (regN_flcCount_ne _ _ (by decide)).trans (regN_flcCount_self ..)
  have h1 : ((s.flcCount 0 corr.length).flcCount 1 retried).regN (A.flcCtr 1) = (s.regN (A.flcCtr 1) + retried) % 2 ^ 32 :=
    (regN_flcCount_self ..).trans (by rw [regN_flcCount_ne s _ (by decide)])
  have h6 : ((s.flcCount 0 corr.length).flcCount 1 retried).regN (A.flcCtr 6) = s.regN (A.flcCtr 6) :=
    (regN_flcCount_ne _ _ (by decide)).trans (regN_flcCount_ne _ _ (by decide))
  generalize (s.flcCount 0 corr.length).flcCount 1 retried = u at hcount h0 h1 h6 ⊢
  have hmarks := scrubStep_scrubMarks u corr retried s.flc.next
  generalize u.scrubMarks corr retried s.flc.next = v at hmarks ⊢
  have hreg {a : Nat} (ha : a ∉ [A.flcIntstat]) : v.regN a = u.regN a := congrArg BitVec.toNat (hmarks.regs a ha)
  obtain ⟨hnext, hmem, hregs⟩ := scrubNext_moves v ((s.flc.next + 1) % 8192)
  generalize v.scrubNext ((s.flc.next + 1) % 8192) = w at hnext hmem hregs ⊢
  have hsame : s.sameMemory w := fun a => (hmem a).trans ((hmarks.memory a).trans (hcount a))
  have hw0 := (hregs (A.flcCtr 0)).trans ((hreg (by decide)).trans h0)
  have hw1 := (hregs (A.flcCtr 1)).trans ((hreg (by decide)).trans h1)
  split
  · next hlast =>
    exact ⟨(next_flcCount ..).trans hnext, fun a => (sameMemory_flcCount w 6 1 a).trans (hsame a),
      (regN_flcCount_ne w _ (by decide)).trans hw0, (regN_flcCount_ne w _ (by decide)).trans hw1, fun h => absurd hlast h⟩
  · exact ⟨hnext, hsame, hw0, hw1, fun _ => (hregs (A.flcCtr 6)).trans ((hreg (by decide)).trans h6)⟩

/-! ## The operation registers (R419) -/

theorem completes_otpaddrWrite (hup : s.comUp = true) (w : Word) :
    Completes (.otpaddrWrite false w) s fun t =>
      t = s.writeReg A.flcOtpaddr w ∧ t.fld F.flcOtpaddrWord = bitsOf w.toNat F.flcOtpaddrWord.lsb F.flcOtpaddrWord.width := by
  have hexec : exec (.otpaddrWrite false w) s = .next (s.writeReg A.flcOtpaddr w) := by
    change guarded false s (if s.comUp then s.writeReg A.flcOtpaddr w else s) = _
    rw [if_pos hup, guarded_machine]
  exact ⟨_, hexec, rfl, fld_writeReg_plain (f := F.flcOtpaddrWord) (by decide +kernel) s w⟩

/-- An operation has been started: BUSY shows it. -/
structure OpStarted (x : FlashOp) (s t : State) : Prop where
  op : t.flc.op = some x
  busy : t.flag F.flcOpstatBusy = true
  ram : t.ram = s.ram

/-- An operation begins (R419). -/
def State.opBegun (s : State) (x : FlashOp) : State := (s.raise F.flcOpstatBusy).setFlc { s.flc with op := some x }

theorem opStarted_opBegun (s : State) (x : FlashOp) : OpStarted x s (s.opBegun x) :=
  ⟨rfl, (flag_raise_at s : (s.raise F.flcOpstatBusy).flag F.flcOpstatBusy = true), rfl⟩

theorem OpStarted.junkSectors {x : FlashOp} {t : State} (h : OpStarted x s t) (l : List Nat) : OpStarted x s (t.junkSectors l) :=
  ⟨h.op, h.busy, h.ram⟩

theorem OpStarted.junkUnit {x : FlashOp} {t : State} (h : OpStarted x s t) (k n m : Nat) :
    OpStarted x s ((t.draw m).2.setFlc { t.flc with junkUnits := Sparse.insert t.flc.junkUnits k n }) :=
  ⟨h.op, h.busy, h.ram⟩

theorem OpStarted.orOtp {x : FlashOp} {t : State} (h : OpStarted x s t) (a n m : Nat) : OpStarted x s ((t.draw m).2.orOtp a n) :=
  ⟨h.op, h.busy, h.ram⟩

theorem startOp_begins {op : Nat} (hop : op = 1 ∨ op = 2 ∨ op = 3 ∨ op = 6) (hfree : s.flc.op = none)
    (hargs : opArgsOk op (s.regN A.flcOpaddr) (s.regN A.flcOpsrc) = true)
    (herased : op = 1 → s.erasedRange (s.regN A.flcOpaddr) 256 = true) :
    OpStarted { op := op, addr := s.regN A.flcOpaddr, src := s.regN A.flcOpsrc } s (s.startOp op) := by
  have hbegun := opStarted_opBegun s { op := op, addr := s.regN A.flcOpaddr, src := s.regN A.flcOpsrc }
  unfold State.startOp
  rw [hfree]
  dsimp only
  rw [if_neg (show ¬ (decide (op = 4) || decide (op = 5)) = true by rcases hop with rfl | rfl | rfl | rfl <;> decide), hargs,
    if_neg (show ¬ (!true) = true by decide),
    if_neg (show ¬ (decide (op = 1) && !s.erasedRange (s.regN A.flcOpaddr) 256) = true by
      rcases hop with rfl | rfl | rfl | rfl
      · rw [herased rfl]; decide
      · simp
      · simp
      · simp)]
  rcases hop with rfl | rfl | rfl | rfl
  · exact hbegun.junkUnit ..
  · exact hbegun.junkSectors _
  · exact hbegun.junkSectors _
  · exact hbegun.orOtp ..

theorem writeOpctl_starts {w : Word} (hup : s.comUp = true) (hgo : bitAt w.toNat 31 = true)
    (hop : ¬ (bitsOf w.toNat 0 4 = 0 ∨ 6 < bitsOf w.toNat 0 4)) :
    s.writeOpctl false true w = (s.writeReg A.flcOpctl w).startOp (bitsOf w.toNat 0 4) := by
  unfold State.writeOpctl
  rw [if_neg (by simp [hup])]
  dsimp only
  rw [if_neg (by simpa using hop), if_pos hgo]

section
variable {w : Word} (hup : s.comUp = true) (hgo : bitAt w.toNat 31 = true)
include hup hgo

/-- A program, an erase or an OTP write that OPCTL starts (R419). -/
theorem completes_startOp {c : Instr} (hc : exec c s = .next (s.writeOpctl false true w))
    (hop : bitsOf w.toNat 0 4 = 1 ∨ bitsOf w.toNat 0 4 = 2 ∨ bitsOf w.toNat 0 4 = 3 ∨ bitsOf w.toNat 0 4 = 6)
    (hfree : s.flc.op = none) (hargs : opArgsOk (bitsOf w.toNat 0 4) (s.regN A.flcOpaddr) (s.regN A.flcOpsrc) = true)
    (herased : bitsOf w.toNat 0 4 = 1 → s.erasedRange (s.regN A.flcOpaddr) 256 = true) :
    Completes c s fun t =>
      t.flc.op = some { op := bitsOf w.toNat 0 4, addr := s.regN A.flcOpaddr, src := s.regN A.flcOpsrc }
      ∧ t.flag F.flcOpstatBusy = true ∧ t.ram = s.ram := by
  refine ⟨_, hc, ?_⟩
  rw [writeOpctl_starts hup hgo (by omega)]
  generalize bitsOf w.toNat 0 4 = op at hop hargs herased
  have hw : WritesOnly [A.flcOpctl] s (s.writeReg A.flcOpctl w) := .writeReg (.refl _ s) (.head _)
  generalize s.writeReg A.flcOpctl w = u at hw ⊢
  have hflc : u.flc = s.flc := by rw [hw.rest]
  have hsame : SameFlash s u := .ofFlc hw.flash hflc
  have haddr : u.regN A.flcOpaddr = s.regN A.flcOpaddr := congrArg BitVec.toNat (hw.regs _ (by decide))
  have hsrc : u.regN A.flcOpsrc = s.regN A.flcOpsrc := congrArg BitVec.toNat (hw.regs _ (by decide))
  rw [← haddr, ← hsrc] at hargs ⊢
  have hbegins := startOp_begins hop (by rw [hflc]; exact hfree) hargs (fun h => by rw [hsame.erasedRange, haddr]; exact herased h)
  exact ⟨hbegins.op, hbegins.busy, hbegins.ram.trans (by rw [hw.rest])⟩

/-- OPCTL while an operation runs suspends or resumes it (R419). -/
theorem completes_runningOp {c : Instr} {o : FlashOp} (hc : exec c s = .next (s.writeOpctl false true w)) (ho : s.flc.op = some o) :
    (bitsOf w.toNat 0 4 = 4 → o.op = 2 ∨ o.op = 3 → o.suspended = false →
      Completes c s fun t => t.flc.op = some { o with suspended := true } ∧ s.sameMemory t)
    ∧ (bitsOf w.toNat 0 4 = 5 → Completes c s fun t => t.flc.op = some { o with suspended := false } ∧ s.sameMemory t) := by
  have hw : WritesOnly [A.flcOpctl] s (s.writeReg A.flcOpctl w) := .writeReg (.refl _ s) (.head _)
  have hop : (s.writeReg A.flcOpctl w).flc.op = some o := by rw [hw.rest]; exact ho
  refine ⟨fun h4 herase hruns => ⟨_, hc, ?_⟩, fun h5 => ⟨_, hc, ?_⟩⟩
  · rw [writeOpctl_starts hup hgo (by omega), h4]
    generalize s.writeReg A.flcOpctl w = u at hw hop ⊢
    have hstart : u.startOp 4 = (u.setFlc { u.flc with op := some { o with suspended := true } }).flcCount 5 1 := by
      unfold State.startOp
      rw [hop]
      exact if_pos (by rcases herase with h | h <;> simp [h, hruns])
    rw [hstart]
    refine ⟨by rw [flc_flcCount, flc_setFlc], fun a => ?_⟩
    rw [sameMemory_flcCount _ _ _ a, sameMemory_setOp u _ a, hw.sameMemory a]
  · rw [writeOpctl_starts hup hgo (by omega), h5]
    generalize s.writeReg A.flcOpctl w = u at hw hop ⊢
    have hstart : u.startOp 5 = u.setFlc { u.flc with op := some { o with suspended := false } } := by
      unfold State.startOp
      rw [hop]
      exact (if_neg (by simp)).trans (if_pos rfl)
    rw [hstart]
    exact ⟨by rw [flc_setFlc], fun a => (sameMemory_setOp u _ a).trans (hw.sameMemory a)⟩

end

/-- What an operation has done when it ends (R419). -/
def State.opWork (s : State) (o : FlashOp) : State :=
  match o.op with
  | 1 => (s.setFlc { s.flc with junkUnits := Sparse.erase s.flc.junkUnits (o.addr / 256) }).program o.addr
      ((s.setFlc { s.flc with junkUnits := Sparse.erase s.flc.junkUnits (o.addr / 256) }).bytes o.src 256)
  | 2 => s.eraseCounted (o.addr / 4096) 1
  | 3 => s.eraseCounted (4096 * planeOf o.addr) 4096
  | _ => s.orOtp o.addr (s.mem o.src 8)

theorem opWork_works (s : State) (o : FlashOp) :
    (s.opWork o).ram = s.ram
    ∧ (o.op = 1 → inSram o.src 256 = true → (s.opWork o).flash = (s.setFlash o.addr (s.bytes o.src 256)).flash)
    ∧ (o.op = 2 → (s.opWork o).flash = (s.eraseFlash (4096 * (o.addr / 4096)) (4096 * (o.addr / 4096 + 1))).flash)
    ∧ (o.op = 6 → (s.opWork o).otp = (s.orOtp o.addr (s.mem o.src 8)).otp ∧ (s.opWork o).flash = s.flash) := by
  unfold State.opWork
  split
  · next h1 =>
    have hset : FlashWork [A.flcCtr 3] s (s.setFlc { s.flc with junkUnits := Sparse.erase s.flc.junkUnits (o.addr / 256) }) :=
      (FlashWork.refl _ s).setFlc
    have hflash : (s.setFlc { s.flc with junkUnits := Sparse.erase s.flc.junkUnits (o.addr / 256) }).flash = s.flash := rfl
    generalize s.setFlc { s.flc with junkUnits := Sparse.erase s.flc.junkUnits (o.addr / 256) } = u at hset hflash ⊢
    refine ⟨hset.program.ram, fun _ hin => ?_, fun h => by omega, fun h => by omega⟩
    rw [flash_program, hset.bytes hin]
    exact flash_setFlash_congr hflash _ _
  · next h2 =>
    exact ⟨((FlashWork.refl [A.flcCtr 4] s).eraseCounted).ram, fun h => by omega, fun _ => flash_eraseCounted .., fun h => by omega⟩
  · next h3 =>
    exact ⟨((FlashWork.refl [A.flcCtr 4] s).eraseCounted).ram, fun h => by omega, fun h => by omega, fun h => by omega⟩
  · next h1 h2 h3 => exact ⟨rfl, fun h => absurd h h1, fun h => absurd h h2, fun _ => ⟨rfl, rfl⟩⟩

theorem completes_flcOpDone {o : FlashOp} (ho : s.flc.op = some o) (hruns : o.suspended = false) :
    Completes .flcOpDone s fun t =>
      t.flc.op = none ∧ t.flag F.flcOpstatBusy = false ∧ t.fld F.flcOpstatResult = Status.ok.code ∧ t.ram = s.ram
      ∧ (o.op = 1 → inSram o.src 256 = true → t.flash = (s.setFlash o.addr (s.bytes o.src 256)).flash)
      ∧ (o.op = 2 → t.flash = (s.eraseFlash (4096 * (o.addr / 4096)) (4096 * (o.addr / 4096 + 1))).flash)
      ∧ (o.op = 6 → t.otp = (s.orOtp o.addr (s.mem o.src 8)).otp ∧ t.flash = s.flash) := by
  have hexec : exec .flcOpDone s = .next ((((s.opWork o).lower F.flcOpstatBusy).setFld F.flcOpstatResult Status.ok.code).setFlc
      { (s.opWork o).flc with op := none }) := by
    change execFlcOpDone s = _
    unfold execFlcOpDone
    rw [ho]
    dsimp only
    rw [hruns]
    rfl
  refine ⟨_, hexec, ?_⟩
  obtain ⟨hram, h1, h2, h6⟩ := opWork_works s o
  generalize s.opWork o = u at hram h1 h2 h6 ⊢
  have hw : WritesOnly [A.flcOpstat] u ((u.lower F.flcOpstatBusy).setFld F.flcOpstatResult Status.ok.code) :=
    ((WritesOnly.refl _ u).lower (f := F.flcOpstatBusy)).setFld (f := F.flcOpstatResult)
  have hbusy : ((u.lower F.flcOpstatBusy).setFld F.flcOpstatResult Status.ok.code).flag F.flcOpstatBusy = false :=
    (flag_setFld_beside _ _).trans (flag_lower_at _)
  have hresult : ((u.lower F.flcOpstatBusy).setFld F.flcOpstatResult Status.ok.code).fld F.flcOpstatResult = Status.ok.code :=
    fld_setFld_at _ (status_code_lt .ok)
  generalize (u.lower F.flcOpstatBusy).setFld F.flcOpstatResult Status.ok.code = v at hw hbusy hresult ⊢
  have hflash := hw.flash
  have hotp := hw.otp
  have hvram : v.ram = u.ram := by rw [hw.rest]
  rw [flc_setFlc, flag_setFlc, fld_setFlc, ram_setFlc, flash_setFlc, otp_setFlc]
  exact ⟨rfl, hbusy, hresult, hvram.trans hram, fun a b => hflash.trans (h1 a b), fun a => hflash.trans (h2 a),
    fun a => ⟨hotp.trans (h6 a).1, hflash.trans (h6 a).2⟩⟩

/-- Settles O20: what an erase, an operation or the scrubber leaves is read from the flash that its step has made. -/
theorem flashOperations : Obligations.FlashOperations := by
  unfold Obligations.FlashOperations
  refine fun s => ⟨fun e he hlower hsusp => completes_flashEraseDone he hlower hsusp,
    fun e he hlower hsusp hbist hheld halone => completes_rdpLowerDone he hlower hsusp hbist hheld halone,
    fun e he hsusp => completes_eraseResume he hsusp, fun corr retried hup hfl hen => completes_scrubRead corr retried hup hfl hen,
    fun w hup => completes_otpaddrWrite hup w, fun w hup hgo => ?_, fun o ho hruns => completes_flcOpDone ho hruns⟩
  intro op addr src starts
  exact ⟨fun h hfree hargs herased => completes_startOp hup hgo rfl (.inl h) hfree hargs herased,
    fun h hfree hargs herased => completes_startOp hup hgo rfl (.inr (.inl h)) hfree hargs herased,
    fun h hfree hargs herased => completes_startOp hup hgo rfl (.inr (.inr (.inl h))) hfree hargs herased,
    fun h hfree hargs herased => completes_startOp hup hgo rfl (.inr (.inr (.inr h))) hfree hargs herased,
    fun h o ho herase hruns => (completes_runningOp hup hgo rfl ho).1 h herase hruns,
    fun h o ho => (completes_runningOp hup hgo rfl ho).2 h⟩

end Sys2Proof.Machine
end

section
/-!
The ROM's flash routines (R395-R397, R403, R405, R408, R414, R417): a call that is let through answers what its work gives.
-/

namespace Sys2Proof.Machine

variable {s : State} {core : Nat}

/-! ## A call's answer in the caller's registers (R395) -/

theorem flash_setG (s : State) (k r : Nat) (w : Word) : (s.setG k r w).flash = s.flash := rfl
theorem ram_setG (s : State) (k r : Nat) (w : Word) : (s.setG k r w).ram = s.ram := rfl
theorem otp_setG (s : State) (k r : Nat) (w : Word) : (s.setG k r w).otp = s.otp := rfl
theorem flc_setG (s : State) (k r : Nat) (w : Word) : (s.setG k r w).flc = s.flc := rfl
theorem rf_setG (s : State) (k r : Nat) (w : Word) : (s.setG k r w).rf = s.rf := rfl
theorem reg_setG (s : State) (k r : Nat) (w : Word) (a : Nat) : (s.setG k r w).reg a = s.reg a := rfl
theorem byte_setG (s : State) (k r : Nat) (w : Word) (a : Nat) : (s.setG k r w).byte a = s.byte a := rfl

/-- A call that is let through: its work is done and its status answered (R395). -/
theorem flCall_ready (h : s.callReady core) {argsOk busy : Bool} {f : State → Status × State} (hargs : argsOk = true)
    (hbusy : busy = false) : s.flCall core argsOk busy f = (f s).2.setG core 0 (Word.ofN (f s).1.code) := by
  obtain ⟨hruns, hmach, hmode⟩ := h
  unfold State.flCall
  rw [if_neg (by simp [hruns]), hargs, hbusy]
  simp [hmach, hmode]

/-- A call has answered, and its work's flash, SRAM, OTP and registers stand. -/
structure FlashAnswer (core : Nat) (st : Status) (u t : State) : Prop where
  answered : t.callAnswered core st
  flash : t.flash = u.flash
  ram : t.ram = u.ram
  otp : t.otp = u.otp
  flc : t.flc = u.flc
  rf : t.rf = u.rf
  reg : ∀ a, t.reg a = u.reg a
  byte : ∀ a, t.byte a = u.byte a

theorem flashAnswer_flCall (h : s.callReady core) {argsOk busy : Bool} {f : State → Status × State} (hargs : argsOk = true)
    (hbusy : busy = false) {st : Status} {u : State} (hf : f s = (st, u)) : FlashAnswer core st u (s.flCall core argsOk busy f) := by
  rw [flCall_ready h hargs hbusy, hf]
  dsimp only
  exact ⟨g_setG_self .., flash_setG .., ram_setG .., otp_setG .., flc_setG .., rf_setG .., reg_setG _ _ _ _, byte_setG _ _ _ _⟩

/-! ## Programs, erases and polls (R396, R397) -/

theorem completes_flProgram (h : s.callReady core) (hzero : s.argsZero core 4 = true) (halign : s.arg core 1 % 256 = 0)
    (hunits : s.arg core 3 % 256 = 0) (hmin : 256 ≤ s.arg core 3) (hmax : s.arg core 3 ≤ 4096)
    (hsrc : sourceOk (s.arg core 2) (s.arg core 3) = true) (hperm : rangePermitted (s.arg core 1) (s.arg core 3) = true)
    (hlock : s.rangeLocked (s.arg core 1) (s.arg core 3) = false) (hera : s.erasedRange (s.arg core 1) (s.arg core 3) = true)
    (hheld : s.flcHeld = false) :
    Completes (.flProgram core) s fun t =>
      t.callAnswered core .ok ∧ t.flash = (s.setFlash (s.arg core 1) (s.bytes (s.arg core 2) (s.arg core 3))).flash ∧ t.ram = s.ram
      ∧ s.sameRegsBut t [A.flcCtr 3] := by
  have hlen := length_bytes s (s.arg core 2) (s.arg core 3)
  have hwork := flProgram_of_free (s := s) (off := s.arg core 1) (b := s.bytes (s.arg core 2) (s.arg core 3)) halign h.2.2
    (by rw [hlen]; exact hperm) (by rw [hlen]; exact hlock) (by rw [hlen]; exact hera) hheld
  have hargs : (s.arg core 1 % 256 == 0 && s.arg core 3 % 256 == 0 && decide (256 ≤ s.arg core 3) && decide (s.arg core 3 ≤ 4096)
      && sourceOk (s.arg core 2) (s.arg core 3) && s.argsZero core 4) = true := by
    simp [halign, hunits, hmin, hmax, hsrc, hzero]
  have hanswer := flashAnswer_flCall h (busy := false)
    (f := fun u => u.flProgram (s.arg core 1) (u.bytes (s.arg core 2) (s.arg core 3))) hargs rfl hwork
  have hprog : FlashWork [A.flcCtr 3] s (s.program (s.arg core 1) (s.bytes (s.arg core 2) (s.arg core 3))) := (FlashWork.refl _ s).program
  exact ⟨_, rfl, hanswer.answered, hanswer.flash.trans (flash_program ..), hanswer.ram.trans hprog.ram,
    fun a ha => (hanswer.reg a).trans (hprog.regs a ha)⟩

theorem flErase_work (s : State) (off n : Nat) (host : Option (Origin × Nat)) : FlashWork [] s (s.flErase off n host).2 := by
  unfold State.flErase
  split_ifs
  · exact .refl _ s
  · exact .refl _ s
  · exact .refl _ s
  · exact .refl _ s
  · exact (FlashWork.refl _ s).junkSectors.other

theorem completes_flErase (h : s.callReady core) (hzero : s.argsZero core 3 = true) (halign : s.arg core 1 % 4096 = 0)
    (hmin : 1 ≤ s.arg core 2) (hmax : s.arg core 2 ≤ 256) (hperm : rangePermitted (s.arg core 1) (4096 * s.arg core 2) = true)
    (hlock : s.rangeLocked (s.arg core 1) (4096 * s.arg core 2) = false) (hheld : s.flcHeld = false) :
    Completes (.flErase core) s fun t =>
      t.callAnswered core .pending ∧ t.flc.erase = some { first := s.arg core 1 / 4096, count := s.arg core 2 } ∧ t.ram = s.ram
      ∧ s.sameRegsBut t [] := by
  obtain ⟨hpend, herase⟩ := flErase_of_free (s := s) (host := none) halign hmin hmax h.2.2 hperm hlock hheld
  have hwork := flErase_work s (s.arg core 1) (s.arg core 2) none
  have hargs : (s.arg core 1 % 4096 == 0 && decide (1 ≤ s.arg core 2) && decide (s.arg core 2 ≤ 256) && s.argsZero core 3) = true := by
    simp [halign, hmin, hmax, hzero]
  have hanswer := flashAnswer_flCall h (busy := false) (f := fun u => u.flErase (s.arg core 1) (s.arg core 2) none) hargs rfl
    (Prod.ext hpend rfl)
  exact ⟨_, rfl, hanswer.answered, by rw [hanswer.flc]; exact herase, hanswer.ram.trans hwork.ram,
    fun a ha => (hanswer.reg a).trans (hwork.regs a ha)⟩

theorem completes_flPoll (h : s.callReady core) (hzero : s.argsZero core 1 = true) :
    Completes (.flPoll core) s fun t =>
      t.g core 0 = Word.ofN (if s.flc.erase.isSome then Status.pending.code else s.flc.poll)
      ∧ t.flc = s.flc ∧ s.sameMemory t ∧ s.sameRegsBut t [] := by
  obtain ⟨hruns, hmach, hmode⟩ := id h
  have hexec : exec (.flPoll core) s = .next ((s.flCall core (s.argsZero core 1) false (fun s => (.ok, s))).setG core 0
      (Word.ofN s.pollCode)) :=
    congrArg Host.Outcome.next (if_pos (by simp [hruns, hzero, hmach, hmode]))
  refine ⟨_, hexec, ?_⟩
  have hanswer := flashAnswer_flCall h (busy := false) (f := fun s => (.ok, s)) hzero rfl rfl
  generalize s.flCall core (s.argsZero core 1) false (fun s => (.ok, s)) = u at hanswer ⊢
  exact ⟨g_setG_self .., hanswer.flc, fun a => hanswer.byte a, fun a _ => hanswer.reg a⟩

/-! ## Refresh (R405) -/

theorem finishRefresh_work (s : State) (k : Nat) : FlashWork [A.flcCtr 3, A.flcCtr 4, A.flcCtr 7] s (s.finishRefresh k) := by
  unfold State.finishRefresh
  dsimp only
  generalize stagingOff (planeOf (4096 * k)) = st
  generalize s.flashBytes (st + 4096) 4096 = data
  exact (((FlashWork.refl _ s).eraseCounted).setFlash.flcCount.program).other.flcCount

theorem refresh_work (s : State) (k : Nat) : FlashWork [A.flcCtr 3, A.flcCtr 4, A.flcCtr 7] s (s.refresh k) := by
  unfold State.refresh
  dsimp only
  generalize stagingOff (planeOf (4096 * k)) = st
  generalize s.flashBytes (4096 * k) 4096 = data
  exact ((((FlashWork.refl _ s).eraseCounted).program).program).trans (finishRefresh_work ..)

/-- The work of FL_SCRUB while no refresh was cut short (R405). -/
def State.scrubWork (s : State) : State :=
  match s.flc.marked.find? (fun k => !s.refreshDeferred k) with
  | some k => (s.refresh k).setFlc { (s.refresh k).flc with marked := s.flc.marked.filter (· != k) }
  | none => s

/-- FL_SCRUB answers the sectors still marked in g1 (R405). -/
def State.scrubAnswer (u : State) (core : Nat) (runs : Bool) : State :=
  if runs then u.setG core 1 (Word.ofN u.flc.marked.length) else u

theorem exec_flScrub (s : State) (core : Nat) (hredirect : s.flc.redirect = none) :
    ∃ f : State → Status × State, f s = (.ok, s.scrubWork) ∧ exec (.flScrub core) s =
      .next ((s.flCall core (s.argsZero core 1) s.flcHeld f).scrubAnswer core
        (s.coreRuns core && s.argsZero core 1 && s.coreMach core && s.mode != 5 && !s.flcHeld)) := by
  refine ⟨_, ?work, rfl⟩
  case work =>
    dsimp only
    unfold State.scrubWork
    rw [hredirect]
    dsimp only
    cases s.flc.marked.find? (fun k => !s.refreshDeferred k) with
    | none => rfl
    | some k => rfl

theorem flScrub_answers (h : s.callReady core) (hzero : s.argsZero core 1 = true) (hheld : s.flcHeld = false)
    (hredirect : s.flc.redirect = none) :
    ∃ u, FlashAnswer core .ok s.scrubWork u ∧ exec (.flScrub core) s = .next (u.setG core 1 (Word.ofN u.flc.marked.length)) := by
  obtain ⟨hruns, hmach, hmode⟩ := id h
  obtain ⟨f, hf, hexec⟩ := exec_flScrub s core hredirect
  refine ⟨_, flashAnswer_flCall h hzero hheld hf, ?_⟩
  rw [hexec]
  exact congrArg Host.Outcome.next (if_pos (by simp [hruns, hzero, hmach, hmode, hheld]))

theorem scrubWork_work (s : State) : FlashWork [A.flcCtr 3, A.flcCtr 4, A.flcCtr 7] s s.scrubWork := by
  unfold State.scrubWork
  split
  · exact (refresh_work s _).setFlc
  · exact .refl _ s

theorem completes_flScrub (h : s.callReady core) (hzero : s.argsZero core 1 = true) (hheld : s.flcHeld = false)
    (hredirect : s.flc.redirect = none) :
    Completes (.flScrub core) s (fun t => t.callAnswered core .ok ∧ t.ram = s.ram ∧ t.g core 1 = Word.ofN t.flc.marked.length)
    ∧ (s.flc.marked.find? (fun k => !s.refreshDeferred k) = none →
        Completes (.flScrub core) s (fun t => t.flc = s.flc ∧ s.sameMemory t ∧ s.sameRegsBut t []))
    ∧ (∀ k, s.flc.marked.find? (fun k => !s.refreshDeferred k) = some k →
        Completes (.flScrub core) s (fun t =>
          t.flash = (s.refresh k).flash ∧ t.flc.marked = s.flc.marked.filter (· != k))) := by
  obtain ⟨u, hanswer, hexec⟩ := flScrub_answers h hzero hheld hredirect
  refine ⟨⟨_, hexec, ?_, ?_, ?_⟩, fun hnone => ⟨_, hexec, ?_⟩, fun k hk => ⟨_, hexec, ?_⟩⟩
  · exact (g_setG_ne u core _ (by decide)).trans hanswer.answered
  · exact (ram_setG ..).trans (hanswer.ram.trans (scrubWork_work s).ram)
  · rw [g_setG_self, flc_setG]
  · have hsame : s.scrubWork = s := by
      unfold State.scrubWork
      rw [hnone]
    rw [hsame] at hanswer
    exact ⟨(flc_setG ..).trans hanswer.flc, fun a => (byte_setG ..).trans (hanswer.byte a), fun a _ => (reg_setG ..).trans (hanswer.reg a)⟩
  · have hdone : s.scrubWork = (s.refresh k).setFlc { (s.refresh k).flc with marked := s.flc.marked.filter (· != k) } := by
      unfold State.scrubWork
      rw [hk]
    rw [hdone] at hanswer
    exact ⟨(flash_setG ..).trans (hanswer.flash.trans (flash_setFlc ..)), by rw [flc_setG, hanswer.flc, flc_setFlc]⟩

/-! ## The stored images (R396, R414, R417) -/

theorem foldl_flashWork {l : List Nat} {f : State → Nat → State} (hf : ∀ u k, FlashWork l u (f u k)) (ks : List Nat) (s : State) :
    FlashWork l s (ks.foldl f s) := by
  induction ks generalizing s with
  | nil => exact .refl l s
  | cons k ks ih => exact (hf s k).trans (ih _)

theorem Tells.ram {l : List Nat} {s t : State} (h : Tells l s t) : t.ram = s.ram := by rw [h.rest]
theorem Tells.rf {l : List Nat} {s t : State} (h : Tells l s t) : t.rf = s.rf := by rw [h.rest]
theorem Tells.flc {l : List Nat} {s t : State} (h : Tells l s t) : t.flc = s.flc := by rw [h.rest]

theorem nvNotice_tells (s : State) (item : Nat) (st : Status) : Tells [A.hslCtr 6, A.hslIntstat] s (s.nvNotice item st) :=
  tells_notice ..

/-- A record that has been written is in force, and RLRSET is set (R417). -/
def State.rlrWritten (s : State) (p : List Byte) : State := { s.orOtp 0x84 2 with rf := { s.rf with rlr := some (RlrRecord.parse p) } }

/-- The copies of an image, written in turn (R414). -/
def State.copiesWritten (s : State) (item : Nat) (p : List Byte) : State :=
  (List.range 3).foldl (fun s k => s.writeCopy ((if item = 0 then dfiOff else rlrOff) k) p) s

theorem writeCopies_three (s : State) (item : Nat) (p : List Byte) :
    s.writeCopies item p 3 = (.ok,
      (if item = 1 then (s.copiesWritten item p).rlrWritten p else s.copiesWritten item p).nvNotice item .ok) := by
  have hcond : (decide (item = 1) && (3 : Nat) != 0) = decide (item = 1) := by simp
  unfold State.writeCopies
  dsimp only
  rw [Nat.min_self, if_neg (show ¬ (3 : Nat) = 0 by decide), hcond, if_pos rfl]
  change (Status.ok, (if decide (item = 1) = true then (s.copiesWritten item p).rlrWritten p else s.copiesWritten item p).nvNotice item
    .ok) = _
  simp only [decide_eq_true_eq]

theorem copiesWritten_work (s : State) (item : Nat) (p : List Byte) : FlashWork [A.flcCtr 3, A.flcCtr 4] s (s.copiesWritten item p) :=
  foldl_flashWork (fun u _ => (FlashWork.refl _ u).writeCopy) _ s

/-- Three written copies leave SRAM, and a record is in force (R414, R417). -/
theorem writeCopies_writes (s : State) (item : Nat) (p : List Byte) :
    (s.writeCopies item p 3).1 = .ok ∧ (s.writeCopies item p 3).2.ram = s.ram
    ∧ (item = 1 → (s.writeCopies item p 3).2.rf.rlr = some (RlrRecord.parse p)) := by
  rw [writeCopies_three]
  have hwork := copiesWritten_work s item p
  generalize s.copiesWritten item p = u at hwork ⊢
  have hrlr : (u.rlrWritten p).rf.rlr = some (RlrRecord.parse p) ∧ (u.rlrWritten p).ram = u.ram := ⟨rfl, rfl⟩
  generalize u.rlrWritten p = v at hrlr ⊢
  have hram : (if item = 1 then v else u).ram = s.ram := by
    split
    · exact hrlr.2.trans hwork.ram
    · exact hwork.ram
  have hrf : item = 1 → (if item = 1 then v else u).rf.rlr = some (RlrRecord.parse p) := fun h => by
    rw [if_pos h]
    exact hrlr.1
  generalize (if item = 1 then v else u) = w at hram hrf ⊢
  have hnotice := nvNotice_tells w item .ok
  exact ⟨rfl, hnotice.ram.trans hram, fun h => by rw [hnotice.rf]; exact hrf h⟩

theorem nvWrite_dfi {img : List Byte} (hform : dfiForm img = true) (hheld : s.flcHeld = false) :
    s.nvWrite 0 img 3 = s.writeCopies 0 (dfiSeal img (nextGen s.dfiCopies)) 3 := by
  unfold State.nvWrite
  rw [if_pos rfl, if_neg (by simp [hform]), if_neg (by simp [hheld])]

theorem nvWrite_rlr {img : List Byte} (hform : rlrForm (rlrSeal img (nextGen s.rlrCopies)) = true) (haccept : s.rlrAccepts img = true)
    (hheld : s.flcHeld = false) : s.nvWrite 1 img 3 = s.writeCopies 1 (rlrSeal img (nextGen s.rlrCopies)) 3 := by
  unfold State.nvWrite
  dsimp only
  rw [if_neg (by decide), if_neg (by simp [hform]), if_neg (by simp [haccept]), if_neg (by simp [hheld])]

theorem completes_flNvwrite_dfi (h : s.callReady core) (hitem : s.arg core 1 = 0) (hzero : s.argsZero core 4 = true)
    (hsrc : sourceOk (s.arg core 2) (s.arg core 3) = true) (hheld : s.flcHeld = false) (hmin : 32 ≤ s.arg core 3)
    (hmax : s.arg core 3 ≤ 4064) (hform : dfiForm (s.bytes (s.arg core 2) (s.arg core 3)) = true) :
    Completes (.flNvwrite core 3) s fun t =>
      t.callAnswered core .ok ∧ t.ram = s.ram
      ∧ t.flash = (s.writeCopies 0 (dfiSeal (s.bytes (s.arg core 2) (s.arg core 3)) (nextGen s.dfiCopies)) 3).2.flash := by
  obtain ⟨hok, hram, -⟩ := writeCopies_writes s 0 (dfiSeal (s.bytes (s.arg core 2) (s.arg core 3)) (nextGen s.dfiCopies))
  have hwork := nvWrite_dfi hform hheld
  have hexec : exec (.flNvwrite core 3) s = .next (s.flCall core true false
      (fun u => u.nvWrite 0 (u.bytes (s.arg core 2) (s.arg core 3)) 3)) := by
    change execFlNvwrite core 3 s = _
    unfold execFlNvwrite
    dsimp only
    rw [hitem]
    simp only [if_true, hform, hsrc, hzero, hmin, hmax, decide_true, Bool.and_self, Nat.zero_le]
  have hanswer := flashAnswer_flCall h (argsOk := true) (busy := false)
    (f := fun u => u.nvWrite 0 (u.bytes (s.arg core 2) (s.arg core 3)) 3) rfl rfl (hwork.trans (Prod.ext hok rfl))
  exact ⟨_, hexec, hanswer.answered, hanswer.ram.trans hram, hanswer.flash⟩

theorem completes_flNvwrite_rlr (h : s.callReady core) (hitem : s.arg core 1 = 1) (hzero : s.argsZero core 4 = true)
    (hsrc : sourceOk (s.arg core 2) (s.arg core 3) = true) (hheld : s.flcHeld = false) (hlen : s.arg core 3 = 544)
    (hform0 : rlrForm (rlrSeal (s.bytes (s.arg core 2) (s.arg core 3)) 0) = true)
    (hform : rlrForm (rlrSeal (s.bytes (s.arg core 2) (s.arg core 3)) (nextGen s.rlrCopies)) = true)
    (haccept : s.rlrAccepts (s.bytes (s.arg core 2) (s.arg core 3)) = true) :
    Completes (.flNvwrite core 3) s fun t =>
      t.callAnswered core .ok ∧ t.ram = s.ram
      ∧ t.rf.rlr = some (RlrRecord.parse (rlrSeal (s.bytes (s.arg core 2) (s.arg core 3)) (nextGen s.rlrCopies)))
      ∧ t.flash = (s.writeCopies 1 (rlrSeal (s.bytes (s.arg core 2) (s.arg core 3)) (nextGen s.rlrCopies)) 3).2.flash := by
  obtain ⟨hok, hram, hrlr⟩ := writeCopies_writes s 1 (rlrSeal (s.bytes (s.arg core 2) (s.arg core 3)) (nextGen s.rlrCopies))
  have hwork := nvWrite_rlr hform haccept hheld
  have hexec : exec (.flNvwrite core 3) s = .next (s.flCall core true false
      (fun u => u.nvWrite 1 (u.bytes (s.arg core 2) (s.arg core 3)) 3)) := by
    change execFlNvwrite core 3 s = _
    unfold execFlNvwrite
    dsimp only
    rw [hlen] at hsrc hform0
    rw [hitem]
    simp only [Nat.one_ne_zero, if_false, hform0, hsrc, hzero, hlen, beq_self_eq_true, decide_true, Bool.and_self, Nat.le_refl]
  have hanswer := flashAnswer_flCall h (argsOk := true) (busy := false)
    (f := fun u => u.nvWrite 1 (u.bytes (s.arg core 2) (s.arg core 3)) 3) rfl rfl (hwork.trans (Prod.ext hok rfl))
  exact ⟨_, hexec, hanswer.answered, hanswer.ram.trans hram, by rw [hanswer.rf]; exact hrlr rfl, hanswer.flash⟩

/-- A repair writes copies and tells (R396). -/
theorem nvRepair_repairs (s : State) {item : Nat} (hitem : item ≤ 1)
    (hsome : (if item = 0 then (dfiResolve s.dfiCopies).2 else rlrResolve s.rlrCopies).isSome = true) :
    (s.nvRepair item).1 = .ok ∧ (s.nvRepair item).2.ram = s.ram := by
  have hdone (copies : List (Option (List Byte))) (off : Nat → Nat) (p : List Byte) :
      (((List.range 3).foldl (fun s k => if (copies[k]?).getD none = some p then s else s.writeCopy (off k) p) s).nvNotice item .ok).ram
        = s.ram := by
    have hwork := foldl_flashWork (l := [A.flcCtr 3, A.flcCtr 4])
      (f := fun s k => if (copies[k]?).getD none = some p then s else s.writeCopy (off k) p)
      (fun u k => .ite (.refl _ u) ((FlashWork.refl _ u).writeCopy)) (List.range 3) s
    exact (nvNotice_tells ..).ram.trans hwork.ram
  unfold State.nvRepair
  dsimp only
  split
  · next hnone =>
    rcases Nat.le_one_iff_eq_zero_or_eq_one.1 hitem with rfl | rfl
    · rw [if_pos rfl, if_pos rfl] at hnone
      rw [if_pos rfl, hnone] at hsome
      cases hsome
    · rw [if_neg Nat.one_ne_zero, if_neg Nat.one_ne_zero] at hnone
      rw [if_neg Nat.one_ne_zero, hnone] at hsome
      cases hsome
  · exact ⟨rfl, hdone ..⟩

theorem completes_flNvrepair (h : s.callReady core) (hitem : s.arg core 1 ≤ 1) (hzero : s.argsZero core 2 = true)
    (hheld : s.flcHeld = false)
    (hsome : (if s.arg core 1 = 0 then (dfiResolve s.dfiCopies).2 else rlrResolve s.rlrCopies).isSome = true) :
    Completes (.flNvrepair core) s fun t =>
      t.callAnswered core .ok ∧ t.flash = (s.nvRepair (s.arg core 1)).2.flash ∧ t.ram = s.ram := by
  obtain ⟨hok, hram⟩ := nvRepair_repairs s hitem hsome
  have hargs : (decide (s.arg core 1 ≤ 1) && s.argsZero core 2) = true := by simp [hitem, hzero]
  have hanswer := flashAnswer_flCall h (f := fun u => u.nvRepair (s.arg core 1)) hargs hheld (Prod.ext hok rfl)
  exact ⟨_, rfl, hanswer.answered, hanswer.flash, hanswer.ram.trans hram⟩

/-! ## Read-out protection and OTP (R403, R407, R408) -/

theorem completes_flRdp (h : s.callReady core) {st : Status} {u : State} (hlevel : s.arg core 1 ≤ 2) (hzero : s.argsZero core 2 = true)
    (hwork : s.flRdp (s.arg core 1) = (st, u)) : Completes (.flRdp core) s (FlashAnswer core st u) := by
  have hargs : (decide (s.arg core 1 ≤ 2) && s.argsZero core 2) = true := by simp [hlevel, hzero]
  exact ⟨_, rfl, flashAnswer_flCall h (busy := false) (f := fun u => u.flRdp (s.arg core 1)) hargs rfl hwork⟩

theorem flRdp_same {level : Nat} (hnow : s.rdpLevel ≤ 1) (hlevel : level = s.rdpLevel) (hheld : s.flcHeld = false) :
    s.flRdp level = (.ok, s) := by
  unfold State.flRdp
  dsimp only
  rw [if_neg (by omega), if_neg (by simp [hlevel]), if_neg (by simp [hheld]), if_pos hlevel]

theorem flRdp_raise {level : Nat} (hnow : s.rdpLevel < 2) (hlevel : s.rdpLevel < level) (hheld : s.flcHeld = false) :
    s.flRdp level = (.ok, if level = 1 then (s.setFlash 0 (leBytes 4 0x5A3CC3A5)).flcCount 3 1 else s.orOtp 0x84 1) := by
  unfold State.flRdp
  dsimp only
  rw [if_neg (by omega), if_neg (by simp; omega), if_neg (by simp [hheld]), if_neg (by omega), if_pos hlevel]
  split
  · rfl
  · rfl

/-- A lowering's erase runs in the background (R403). -/
theorem flRdp_lower {level : Nat} (hnow : s.rdpLevel = 1) (hlevel : level = 0) (hmode : s.mode = 4) (hheld : s.flcHeld = false)
    (hmsgs : s.jrn.msgs = []) (hacts : s.jrn.acts = []) :
    (s.flRdp level).1 = .pending ∧ (s.flRdp level).2.flc.erase = some { first := 0, count := 8192, lower := true } := by
  unfold State.flRdp
  dsimp only
  rw [if_neg (by omega), if_neg (by simp [hmode]), if_neg (by simp [hheld]), if_neg (by omega), if_neg (by omega),
    if_neg (by simp [hmsgs, hacts])]
  exact ⟨rfl, rfl⟩

theorem completes_flOtpwrite (h : s.callReady core) (hsrc : sourceOk (s.arg core 2) 8 = true) (hzero : s.argsZero core 3 = true)
    (hlo : 0x80 ≤ s.arg core 1) (hhi : s.arg core 1 ≤ 0x83) (hfloor : s.floorBad (s.arg core 1) (s.mem (s.arg core 2) 8) = false)
    (hheld : s.flcHeld = false) :
    Completes (.flOtpwrite core) s fun t =>
      t.callAnswered core .ok ∧ t.otp = (s.orOtp (s.arg core 1) (s.mem (s.arg core 2) 8)).otp ∧ s.sameMemory t ∧ s.sameRegsBut t [] := by
  have hargs : (sourceOk (s.arg core 2) 8 && s.argsZero core 3 && !s.floorBad (s.arg core 1) (s.mem (s.arg core 2) 8)) = true := by
    simp [hsrc, hzero, hfloor]
  have hwork : s.flOtpwrite (s.arg core 1) (s.mem (s.arg core 2) 8) = (.ok, s.orOtp (s.arg core 1) (s.mem (s.arg core 2) 8)) := by
    unfold State.flOtpwrite
    rw [if_neg (by simp; omega), if_neg (by simp [hheld])]
  have hanswer := flashAnswer_flCall h (busy := false) (f := fun u => u.flOtpwrite (s.arg core 1) (u.mem (s.arg core 2) 8)) hargs rfl hwork
  have hsame : s.sameMemory (s.orOtp (s.arg core 1) (s.mem (s.arg core 2) 8)) := fun _ => rfl
  exact ⟨_, rfl, hanswer.answered, hanswer.otp, fun a => (hanswer.byte a).trans (hsame a), fun a _ => hanswer.reg a⟩

/-- FL_INFO's words in g1 to g3 (R396). -/
def State.infoAnswer (u : State) (core a b c : Nat) : State :=
  ((u.setG core 1 (Word.ofN a)).setG core 2 (Word.ofN b)).setG core 3 (Word.ofN c)

theorem completes_flInfo (h : s.callReady core) (hzero : s.argsZero core 1 = true) (hheld : s.flcHeld = false) :
    Completes (.flInfo core) s fun t =>
      t.callAnswered core .ok ∧ t.g core 1 = Word.ofN s.flcStat ∧ t.g core 2 = Word.ofN s.nvStat
      ∧ t.g core 3 = Word.ofN s.rdpLevel ∧ s.sameMemory t ∧ s.sameRegsBut t [] := by
  obtain ⟨hruns, hmach, hmode⟩ := id h
  have hexec : exec (.flInfo core) s = .next ((s.flCall core (s.argsZero core 1) s.flcHeld (fun s => (.ok, s))).infoAnswer core
      s.flcStat s.nvStat s.rdpLevel) :=
    congrArg Host.Outcome.next (if_pos (by simp [hruns, hzero, hmach, hmode, hheld]))
  refine ⟨_, hexec, ?_⟩
  have hanswer := flashAnswer_flCall h (f := fun s => (.ok, s)) hzero hheld rfl
  generalize s.flCall core (s.argsZero core 1) s.flcHeld (fun s => (.ok, s)) = u at hanswer ⊢
  generalize s.flcStat = a
  generalize s.nvStat = b
  generalize s.rdpLevel = c
  unfold State.infoAnswer
  refine ⟨?_, ?_, ?_, g_setG_self .., fun x => hanswer.byte x, fun x _ => hanswer.reg x⟩
  · unfold State.callAnswered
    rw [g_setG_ne _ _ _ (by decide), g_setG_ne _ _ _ (by decide), g_setG_ne _ _ _ (by decide)]
    exact hanswer.answered
  · rw [g_setG_ne _ _ _ (by decide), g_setG_ne _ _ _ (by decide), g_setG_self]
  · rw [g_setG_ne _ _ _ (by decide), g_setG_self]

theorem completes_flReservedEntry (h : s.callReady core) :
    Completes (.flReservedEntry core) s fun t => t.callAnswered core .unknownCommand ∧ s.sameMemory t ∧ s.sameRegsBut t [] :=
  ⟨_, congrArg Host.Outcome.next (if_pos h.1), g_setG_self .., fun _ => byte_setG .., fun _ _ => reg_setG ..⟩

/-- Settles O19: a call that is let through answers its work's status, and what it leaves is what its work leaves. -/
theorem flashRoutines : Obligations.FlashRoutines := by
  unfold Obligations.FlashRoutines
  refine fun s core h => ⟨?program, ?erase, fun hzero => completes_flPoll h hzero, fun hzero hheld hredirect =>
    completes_flScrub h hzero hheld hredirect, ?nvwrite, ?repair, ?rdp, ?otp, fun hzero hheld => completes_flInfo h hzero hheld,
    completes_flReservedEntry h⟩
  case program =>
    rintro off src n rfl rfl rfl hzero halign hunits hmin hmax hsrc hperm hlock hera hheld
    exact completes_flProgram h hzero halign hunits hmin hmax hsrc hperm hlock hera hheld
  case erase =>
    rintro off n rfl rfl hzero halign hmin hmax hperm hlock hheld
    exact completes_flErase h hzero halign hmin hmax hperm hlock hheld
  case nvwrite =>
    rintro item n hitem rfl hzero hsrc hheld
    exact ⟨fun h0 hmin hmax hform => completes_flNvwrite_dfi h (hitem.trans h0) hzero hsrc hheld hmin hmax hform,
      fun h1 hlen hform0 hform haccept => completes_flNvwrite_rlr h (hitem.trans h1) hzero hsrc hheld hlen hform0 hform haccept⟩
  case repair =>
    rintro item rfl hitem hzero hheld hsome
    exact completes_flNvrepair h hitem hzero hheld hsome
  case rdp =>
    rintro level rfl hzero
    refine ⟨fun hnow hlevel hheld => ?_, fun hnow hlevel hheld => ?_, fun hnow hlevel hheld => ?_,
      fun hnow hlevel hmode hheld hmsgs hacts => ?_⟩
    · exact (completes_flRdp h (by omega) hzero (flRdp_same hnow hlevel hheld)).mono
        fun t ht => ⟨ht.answered, fun a => ht.byte a, ht.otp⟩
    · have hwork := flRdp_raise (level := s.arg core 1) (by omega) (by omega) hheld
      rw [if_pos hlevel] at hwork
      refine (completes_flRdp h (by omega) hzero hwork).mono fun t ht => ⟨ht.answered, ht.flash, ht.otp.trans ?_⟩
      exact ((FlashWork.refl [A.flcCtr 3] s).setFlash.flcCount).otp
    · have hwork := flRdp_raise (level := s.arg core 1) (by omega) (by omega) hheld
      rw [if_neg (show ¬ s.arg core 1 = 1 by omega)] at hwork
      exact (completes_flRdp h (by omega) hzero hwork).mono fun t ht => ⟨ht.answered, ht.otp, ht.flash⟩
    · obtain ⟨hpend, herase⟩ := flRdp_lower hnow hlevel hmode hheld hmsgs hacts
      exact (completes_flRdp h (by omega) hzero (Prod.ext hpend rfl)).mono fun t ht => ⟨ht.answered, by rw [ht.flc]; exact herase⟩
  case otp =>
    rintro word src rfl rfl hsrc hzero hlo hhi hfloor hheld
    exact completes_flOtpwrite h hsrc hzero hlo hhi hfloor hheld

end Sys2Proof.Machine
end

section
/-!
Host commands on the stored images and the user area (R414-R417, R422, R423).
-/

namespace Sys2Proof.Machine

variable {s : State} {o : Origin} {p : List Byte}

/-! ## What the copies hold (R409-R417) -/

theorem SameFlash.dfiCopy {s t : State} (h : SameFlash s t) (k : Nat) : t.dfiCopy k = s.dfiCopy k := by
  unfold State.dfiCopy
  simp only [h.flashBytes]

theorem SameFlash.dfiCopies {s t : State} (h : SameFlash s t) : t.dfiCopies = s.dfiCopies := by
  rw [State.dfiCopies, State.dfiCopies, show t.dfiCopy = s.dfiCopy from funext h.dfiCopy]

theorem SameFlash.rlrCopy {s t : State} (h : SameFlash s t) (k : Nat) : t.rlrCopy k = s.rlrCopy k := by
  unfold State.rlrCopy
  simp only [h.flashBytes]

theorem SameFlash.rlrCopies {s t : State} (h : SameFlash s t) : t.rlrCopies = s.rlrCopies := by
  rw [State.rlrCopies, State.rlrCopies, show t.rlrCopy = s.rlrCopy from funext h.rlrCopy]

theorem flash_tells {l : List Nat} {s t : State} (h : Tells l s t) : t.flash = s.flash := by rw [h.rest]

/-- What the copies leave in flash depends on the flash alone. -/
theorem SameFlash.writeCopies {s t : State} (h : SameFlash s t) (item : Nat) (b : List Byte) :
    (t.writeCopies item b 3).2.flash = (s.writeCopies item b 3).2.flash := by
  have hcopies {s t : State} (h : SameFlash s t) (l : List Nat) (off : Nat → Nat) :
      SameFlash (l.foldl (fun s k => s.writeCopy (off k) b) s) (l.foldl (fun s k => s.writeCopy (off k) b) t) := by
    induction l generalizing s t with
    | nil => exact h
    | cons k l ih => exact ih (h.writeCopy _ _)
  have hflash (u : State) : (u.writeCopies item b 3).2.flash = (u.copiesWritten item b).flash := by
    rw [writeCopies_three]
    have hrlr : ((u.copiesWritten item b).rlrWritten b).flash = (u.copiesWritten item b).flash := rfl
    generalize u.copiesWritten item b = v at hrlr ⊢
    refine (flash_tells (nvNotice_tells ..)).trans ?_
    split
    · exact hrlr
    · rfl
  rw [hflash, hflash]
  exact (hcopies h _ _).flash

theorem nvNotice_memory (s : State) (item : Nat) (st : Status) : s.sameMemory (s.nvNotice item st) := (nvNotice_tells ..).sameMemory

/-! ## The Defaults Image (R423) -/

/-- An image staged by DFI_WRITE (R423). -/
def State.stageImage (s : State) (img : List Byte) : State := s.setFlc { s.flc with stage := img }

theorem stageImage_stages (s : State) (img : List Byte) :
    (s.stageImage img).flc.stage = img ∧ SameFlash s (s.stageImage img) ∧ s.sameMemory (s.stageImage img)
    ∧ (s.stageImage img).flcHeld = s.flcHeld := ⟨rfl, ⟨rfl, rfl, rfl, rfl⟩, fun _ => rfl, rfl⟩

theorem handleDfiWrite_eq (hflags : byteAt p 2 ≤ 1) (hpad : byteAt p 3 = 0)
    (hoff : leAt p 0 2 = 0 ∨ leAt p 0 2 = s.flc.stage.length) (hend : leAt p 0 2 + (p.length - 4) ≤ 4096) (hmode : s.mode ≠ 5) :
    handleDfiWrite o p s =
      let u := s.stageImage (if leAt p 0 2 = 0 then p.drop 4 else s.flc.stage ++ p.drop 4)
      if byteAt p 2 = 1 then
        (.now (u.nvWrite 0 (if leAt p 0 2 = 0 then p.drop 4 else s.flc.stage ++ p.drop 4) 3).1 [],
          (u.nvWrite 0 (if leAt p 0 2 = 0 then p.drop 4 else s.flc.stage ++ p.drop 4) 3).2)
      else (.now .ok [], u) := by
  unfold handleDfiWrite
  dsimp only
  rw [if_neg (show ¬ (decide (1 < byteAt p 2) || byteAt p 3 != 0) = true by simp [Nat.not_lt.2 hflags, hpad]),
    if_neg (show ¬ (leAt p 0 2 != 0 && leAt p 0 2 != s.flc.stage.length) = true by rcases hoff with h | h <;> simp [h]),
    if_neg (show ¬ 4096 < leAt p 0 2 + (p.drop 4).length by rw [List.length_drop]; omega), if_neg hmode]
  rfl

theorem completes_dfiWrite (hmode : (s.taking o).mode ≠ 5) (ht : s.takes o 0x50 p) (hmin : 12 ≤ p.length) (hmax : p.length ≤ 1020)
    (hwords : (p.length - 4) % 8 = 0) (hflags : byteAt p 2 ≤ 1) (hpad : byteAt p 3 = 0)
    (hoff : leAt p 0 2 = 0 ∨ leAt p 0 2 = s.flc.stage.length) (hend : leAt p 0 2 + (p.length - 4) ≤ 4096) :
    let img := if leAt p 0 2 = 0 then p.drop 4 else s.flc.stage ++ p.drop 4
    (byteAt p 2 = 0 →
      Completes (.dfiWrite o p) s fun t =>
        t.flc.stage = img ∧ t.responded o (rspPayload 0x50 .ok []) ∧ s.sameMemory t)
    ∧ (byteAt p 2 = 1 → dfiForm img = true → s.flcHeld = false →
      Completes (.dfiWrite o p) s fun t =>
        t.responded o (rspPayload 0x50 .ok [])
        ∧ t.flash = (s.writeCopies 0 (dfiSeal img (nextGen s.dfiCopies)) 3).2.flash) := by
  intro img
  have hlen : (decide (12 ≤ p.length) && decide (p.length ≤ 1020) && (p.length - 4) % 8 == 0) = true := by simp [hmin, hmax, hwords]
  have hanswer := handleDfiWrite_eq (s := s.taking o) (o := o) hflags hpad hoff hend hmode
  have hstage : (s.taking o).flc.stage = s.flc.stage := rfl
  have hheld : (s.taking o).flcHeld = s.flcHeld := rfl
  rw [hstage] at hanswer
  change handleDfiWrite o p (s.taking o) = (let u := (s.taking o).stageImage img
    if byteAt p 2 = 1 then (.now (u.nvWrite 0 img 3).1 [], (u.nvWrite 0 img 3).2) else (.now .ok [], u)) at hanswer
  have htaking := sameFlash_taking s o
  have hmem := sameMemory_taking s o
  generalize hu : s.taking o = u at hanswer hheld htaking hmem
  obtain ⟨hstaged, hflash, hbytes, hheld'⟩ := stageImage_stages u img
  generalize u.stageImage img = v at hanswer hstaged hflash hbytes hheld'
  dsimp only at hanswer
  refine ⟨fun h0 => ?_, fun h1 hform hfree => ?_⟩
  · rw [if_neg (by omega)] at hanswer
    refine completes_of_answered rfl ht hlen (by rw [hu]; exact hanswer) ⟨?_, State.responded_respond .., ?_⟩
    · rw [flc_respond]
      exact hstaged
    · exact sameMemory_respond (fun a => (hbytes a).trans (hmem a)) o _ _ _
  · rw [if_pos h1, nvWrite_dfi hform (by rw [hheld', hheld, hfree]), (writeCopies_writes ..).1] at hanswer
    have hsame : SameFlash s v := ⟨hflash.flash.trans htaking.flash, hflash.redirect.trans htaking.redirect,
      hflash.junk.trans htaking.junk, hflash.junkUnits.trans htaking.junkUnits⟩
    rw [hsame.dfiCopies] at hanswer
    refine completes_of_answered rfl ht hlen (by rw [hu]; exact hanswer) ⟨State.responded_respond .., ?_⟩
    rw [flash_respond]
    exact hsame.writeCopies 0 _

theorem handleDfiRead_some {img : List Byte} (hsrc : byteAt p 0 ≤ 3) (hpad : byteAt p 1 = 0) (hoff : leAt p 2 2 ≤ 4064)
    (hmode : s.mode ≠ 5) (himg : (if byteAt p 0 = 0 then (dfiResolve s.dfiCopies).2 else s.dfiCopy (byteAt p 0 - 1)) = some img) :
    handleDfiRead o p s = (.now .ok (dfiAnswer img (leAt p 2 2)),
      if byteAt p 0 = 0 && dfiAwaits s.dfiCopies then s.nvNotice 0 (dfiStatus s.dfiCopies) else s) := by
  unfold handleDfiRead
  dsimp only
  rw [if_neg (show ¬ (decide (3 < byteAt p 0) || byteAt p 1 != 0 || decide (4064 < leAt p 2 2)) = true by
    simp [Nat.not_lt.2 hsrc, hpad, Nat.not_lt.2 hoff]), if_neg hmode, himg]

theorem completes_dfiRead (hmode : (s.taking o).mode ≠ 5) (ht : s.takes o 0x51 p) (hlen : p.length = 4) (hsrc : byteAt p 0 ≤ 3)
    (hpad : byteAt p 1 = 0) (hoff : leAt p 2 2 ≤ 4064) {img : List Byte}
    (himg : (if byteAt p 0 = 0 then (dfiResolve s.dfiCopies).2 else s.dfiCopy (byteAt p 0 - 1)) = some img) :
    Completes (.dfiRead o p) s fun t =>
      t.responded o (rspPayload 0x51 .ok (dfiAnswer img (leAt p 2 2))) ∧ s.sameMemory t := by
  have htaking := sameFlash_taking s o
  rw [← htaking.dfiCopies, ← htaking.dfiCopy] at himg
  have hanswer := handleDfiRead_some (o := o) hsrc hpad hoff hmode himg
  have hmem : s.sameMemory (if byteAt p 0 = 0 && dfiAwaits (s.taking o).dfiCopies then
      (s.taking o).nvNotice 0 (dfiStatus (s.taking o).dfiCopies) else s.taking o) := by
    split
    · exact fun a => (nvNotice_memory _ _ _ a).trans (sameMemory_taking s o a)
    · exact sameMemory_taking s o
  exact completes_of_answered rfl ht (by simp [hlen]) hanswer ⟨State.responded_respond .., sameMemory_respond hmem o _ _ _⟩

/-! ## The regulatory lock record (R423) -/

theorem completes_rlrWrite (hmode : (s.taking o).mode ≠ 5) (ht : s.takes o 0x52 p) (hlen : p.length = 544)
    (hform0 : rlrForm (rlrSeal p 0) = true) (hform : rlrForm (rlrSeal p (nextGen s.rlrCopies)) = true)
    (haccept : s.rlrAccepts p = true) (hheld : s.flcHeld = false) :
    Completes (.rlrWrite o p) s fun t =>
      t.responded o (rspPayload 0x52 .ok []) ∧ t.rf.rlr = some (RlrRecord.parse (rlrSeal p (nextGen s.rlrCopies))) := by
  have htaking := sameFlash_taking s o
  have haccept' : (s.taking o).rlrAccepts p = true := by
    have hword : (s.taking o).otpWord 0x84 = s.otpWord 0x84 := rfl
    unfold State.rlrAccepts at haccept ⊢
    rw [hword, htaking.rlrCopies]
    exact haccept
  have hheld' : (s.taking o).flcHeld = false := hheld
  rw [← htaking.rlrCopies] at hform ⊢
  have hwrite := nvWrite_rlr (s := s.taking o) hform haccept' hheld'
  obtain ⟨hok, -, hrlr⟩ := writeCopies_writes (s.taking o) 1 (rlrSeal p (nextGen (s.taking o).rlrCopies))
  have hanswer : handleRlrWrite o p (s.taking o) =
      (.now .ok [], ((s.taking o).writeCopies 1 (rlrSeal p (nextGen (s.taking o).rlrCopies)) 3).2) := by
    unfold handleRlrWrite
    dsimp only
    rw [if_neg (by simp [hform0]), if_neg hmode, hwrite, hok]
  refine completes_of_answered rfl ht (by simp [hlen]) hanswer ⟨State.responded_respond .., ?_⟩
  obtain ⟨x, y, h⟩ := respond_eq ((s.taking o).writeCopies 1 (rlrSeal p (nextGen (s.taking o).rlrCopies)) 3).2 o 0x52 .ok []
  rw [h]
  exact hrlr rfl

theorem completes_rlrRead_resolved (hmode : (s.taking o).mode ≠ 5) (ht : s.takes o 0x53 p) (hlen : p.length = 4)
    (hzero : allZero (p.drop 1) = true) (hsrc : byteAt p 0 = 0) :
    Completes (.rlrRead o p) s fun t =>
      t.responded o (rspPayload 0x53 (rlrStatus s.rlrCopies) ((rlrResolve s.rlrCopies).getD [])) ∧ s.sameMemory t := by
  have htaking := sameFlash_taking s o
  have hanswer : handleRlrRead o p (s.taking o) = (.now (rlrStatus s.rlrCopies) ((rlrResolve s.rlrCopies).getD []),
      if rlrSource s.rlrCopies = 0 then s.taking o else (s.taking o).nvNotice 1 (rlrStatus s.rlrCopies)) := by
    unfold handleRlrRead
    dsimp only
    rw [if_neg (show ¬ (decide (3 < byteAt p 0) || !allZero (p.drop 1)) = true by rw [hzero, hsrc]; decide), if_neg hmode,
      if_pos hsrc]
    have hkept : (if rlrSource s.rlrCopies = 0 then s.taking o else (s.taking o).nvNotice 1 (rlrStatus s.rlrCopies)).rlrCopies
        = s.rlrCopies := by
      split
      · exact htaking.rlrCopies
      · have ht := nvNotice_tells (s.taking o) 1 (rlrStatus s.rlrCopies)
        exact (SameFlash.ofFlc (flash_tells ht) ht.flc).rlrCopies.trans htaking.rlrCopies
    rw [htaking.rlrCopies, hkept]
  have hmem : s.sameMemory (if rlrSource s.rlrCopies = 0 then s.taking o else (s.taking o).nvNotice 1 (rlrStatus s.rlrCopies)) := by
    split
    · exact sameMemory_taking s o
    · exact fun a => (nvNotice_memory _ _ _ a).trans (sameMemory_taking s o a)
  exact completes_of_answered rfl ht (by simp [hlen]) hanswer ⟨State.responded_respond .., sameMemory_respond hmem o _ _ _⟩

theorem completes_rlrRead_copy (hmode : (s.taking o).mode ≠ 5) (ht : s.takes o 0x53 p) (hlen : p.length = 4)
    (hzero : allZero (p.drop 1) = true) {c : Nat} {img : List Byte} (hsrc : byteAt p 0 = c + 1) (hc : c < 3)
    (hcopy : s.rlrCopy c = some img) :
    Completes (.rlrRead o p) s fun t => t.responded o (rspPayload 0x53 .ok img) ∧ s.sameMemory t := by
  have hanswer : handleRlrRead o p (s.taking o) = (.now .ok img, s.taking o) := by
    unfold handleRlrRead
    dsimp only
    rw [if_neg (show ¬ (decide (3 < byteAt p 0) || !allZero (p.drop 1)) = true by rw [hzero, hsrc]; simp; omega), if_neg hmode,
      if_neg (by omega), hsrc, Nat.add_sub_cancel, (sameFlash_taking s o).rlrCopy, hcopy]
  exact completes_of_answered rfl ht (by simp [hlen]) hanswer
    ⟨State.responded_respond .., sameMemory_respond (sameMemory_taking s o) o _ _ _⟩

/-! ## NV_STATUS and the user area (R423) -/

theorem nvStat_taking (s : State) (o : Origin) : (s.taking o).nvStat = s.nvStat := by
  have hword : (s.taking o).otpWord 0x84 = s.otpWord 0x84 := rfl
  unfold State.nvStat
  rw [(sameFlash_taking s o).dfiCopies, (sameFlash_taking s o).rlrCopies, hword]

theorem rdpLevel_taking (s : State) (o : Origin) : (s.taking o).rdpLevel = s.rdpLevel := by
  have hword : (s.taking o).otpWord 0x84 = s.otpWord 0x84 := rfl
  unfold State.rdpLevel
  simp only [hword, (sameFlash_taking s o).flashBytes]

theorem completes_nvStatus (hmode : (s.taking o).mode ≠ 5) (ht : s.takes o 0x54 []) :
    Completes (.nvStatus o []) s fun t =>
      (∃ rest, t.responded o (rspPayload 0x54 .ok rest) ∧ rest.length = 32
        ∧ rest.take 16 = leBytes 4 s.flcStat ++ leBytes 4 s.nvStat ++ leBytes 4 s.rdpLevel ++ leBytes 4 s.scrubStat)
      ∧ s.sameMemory t := by
  have hflc : (s.taking o).flcStat = s.flcStat ∧ (s.taking o).scrubStat = s.scrubStat := ⟨rfl, rfl⟩
  have hanswer : notInLastgasp handleNvStatus o [] (s.taking o) = (.now .ok
      (leBytes 4 s.flcStat ++ leBytes 4 s.nvStat ++ leBytes 4 s.rdpLevel ++ leBytes 4 s.scrubStat
        ++ (((List.range 4).map (fun k => (s.taking o).regN (A.flcCtr k))).map (leBytes 4)).flatten), s.taking o) := by
    unfold notInLastgasp handleNvStatus
    rw [if_neg hmode, hflc.1, hflc.2, nvStat_taking, rdpLevel_taking]
    simp only [List.map_append, List.flatten_append, List.map_cons, List.map_nil, List.flatten_cons, List.flatten_nil,
      List.append_assoc, List.append_nil]
  refine completes_of_answered rfl ht (by decide) hanswer
    ⟨⟨_, State.responded_respond .., ?_, ?_⟩, sameMemory_respond (sameMemory_taking s o) o _ _ _⟩
  · simp [List.range_succ]
  · rw [List.take_left' (by simp)]

theorem rangePermitted_user {off n : Nat} (hn : 0 < n) (hend : off + n ≤ 0x100000) : rangePermitted (userOff + off) n = true := by
  have harea {x : Nat} (hx : x < 0x100000) : flashArea (userOff + x) = (9, true) := by
    unfold flashArea userOff
    repeat rw [if_neg (by omega)]
    rw [if_pos (by omega)]
  have hlast : userOff + off + n - 1 = userOff + (off + n - 1) := by omega
  rw [rangePermitted, hlast, harea (by omega), harea (by omega)]
  rfl

theorem completes_userWrite (hmode : (s.taking o).mode ≠ 5) (ht : s.takes o 0x55 p) (hmin : 260 ≤ p.length) (hmax : p.length ≤ 3844)
    (hunits : (p.length - 4) % 256 = 0) (halign : leAt p 0 4 % 256 = 0) (hend : leAt p 0 4 + (p.length - 4) ≤ 0x100000)
    (hlock : (s.taking o).rangeLocked (0x01F00000 + leAt p 0 4) (p.length - 4) = false)
    (hera : s.erasedRange (0x01F00000 + leAt p 0 4) (p.length - 4) = true) (hheld : s.flcHeld = false) :
    Completes (.userWrite o p) s fun t =>
      t.responded o (rspPayload 0x55 .ok []) ∧ t.flash = (s.setFlash (0x01F00000 + leAt p 0 4) (p.drop 4)).flash ∧ t.ram = s.ram := by
  have hdata : (p.drop 4).length = p.length - 4 := List.length_drop ..
  have hprog := flProgram_of_free (s := s.taking o) (off := userOff + leAt p 0 4) (b := p.drop 4)
    (by unfold userOff; omega) hmode (by rw [hdata]; exact rangePermitted_user (by omega) hend) (by rw [hdata]; exact hlock)
    (by rw [hdata, (sameFlash_taking s o).erasedRange]; exact hera) hheld
  have hanswer : handleUserWrite o p (s.taking o) = (.now .ok [], (s.taking o).program (userOff + leAt p 0 4) (p.drop 4)) := by
    unfold handleUserWrite
    dsimp only
    rw [if_neg (by rw [hdata]; simp [halign]; omega), hprog]
  have hlen : (decide (260 ≤ p.length) && decide (p.length ≤ 3844) && (p.length - 4) % 256 == 0) = true := by simp [hmin, hmax, hunits]
  have hram : (s.taking o).ram = s.ram := rfl
  refine completes_of_answered rfl ht hlen hanswer ⟨State.responded_respond .., ?_, ?_⟩
  · rw [flash_respond]
    exact ((sameFlash_taking s o).setFlash _ _).flash
  · rw [ram_respond]
    exact ((FlashWork.refl [A.flcCtr 3] (s.taking o)).program).ram.trans hram

/-- A read may suspend an erase, which changes no byte (R399). -/
theorem touchPlane_memory (s : State) (p : Nat) : s.sameMemory (s.touchPlane p) := by
  have herase (c : Bool) (e : EraseJob) :
      s.sameMemory (if c then { s with flc := { s.flc with erase := some e } }.flcCount 5 1 else s) := by
    split
    · exact fun _ => rfl
    · exact fun _ => rfl
  have hop (c : Bool) (x : FlashOp) : s.sameMemory (if c then { s with flc := { s.flc with op := some x } }.flcCount 5 1 else s) := by
    split
    · exact fun _ => rfl
    · exact fun _ => rfl
  unfold State.touchPlane
  cases s.flc.erase with
  | some e => exact herase _ _
  | none =>
    cases s.flc.op with
    | some x => exact hop _ _
    | none => exact fun _ => rfl

theorem completes_userRead (hmode : (s.taking o).mode ≠ 5) (ht : s.takes o 0x56 p) (hlen : p.length = 8) (hpad : leAt p 6 2 = 0)
    (hmin : 1 ≤ leAt p 4 2) (hmax : leAt p 4 2 ≤ 1008) (hend : leAt p 0 4 + leAt p 4 2 ≤ 0x100000) :
    Completes (.userRead o p) s fun t =>
      t.responded o (rspPayload 0x56 .ok (s.flashBytes (0x01F00000 + leAt p 0 4) (leAt p 4 2))) ∧ s.sameMemory t := by
  have hanswer : handleUserRead o p (s.taking o) =
      (.now .ok (s.flashBytes (userOff + leAt p 0 4) (leAt p 4 2)), (s.taking o).touchPlane 1) := by
    unfold handleUserRead
    dsimp only
    rw [if_neg (by simp [hpad]; omega), if_neg hmode, (sameFlash_taking s o).flashBytes]
  exact completes_of_answered rfl ht (by simp [hlen]) hanswer ⟨State.responded_respond ..,
    sameMemory_respond (fun a => (touchPlane_memory _ 1 a).trans (sameMemory_taking s o a)) o _ _ _⟩

theorem completes_userErase (hmode : (s.taking o).mode ≠ 5) (ht : s.takes o 0x57 p) (hlen : p.length = 8) (hpad : leAt p 6 2 = 0)
    (halign : leAt p 0 4 % 4096 = 0) (hmin : 1 ≤ leAt p 4 2) (hmax : leAt p 4 2 ≤ 256)
    (hend : leAt p 0 4 + 4096 * leAt p 4 2 ≤ 0x100000)
    (hlock : (s.taking o).rangeLocked (0x01F00000 + leAt p 0 4) (4096 * leAt p 4 2) = false) (hheld : s.flcHeld = false) :
    Completes (.userErase o p) s fun t =>
      t.flc.erase = some { first := (0x01F00000 + leAt p 0 4) / 4096, count := leAt p 4 2, host := some (o, 0x57) }
      ∧ t.ram = s.ram := by
  obtain ⟨hpend, herase⟩ := flErase_of_free (s := s.taking o) (off := userOff + leAt p 0 4) (n := leAt p 4 2) (host := some (o, 0x57))
    (by unfold userOff; omega) hmin hmax hmode (rangePermitted_user (by omega) hend) hlock hheld
  have hwork := flErase_work (s.taking o) (userOff + leAt p 0 4) (leAt p 4 2) (some (o, 0x57))
  have hram : (s.taking o).ram = s.ram := rfl
  have hanswer : handleUserErase o p (s.taking o) =
      (.later, ((s.taking o).flErase (userOff + leAt p 0 4) (leAt p 4 2) (some (o, 0x57))).2) := by
    unfold handleUserErase
    dsimp only
    rw [if_neg (by simp [hpad, halign]; omega), hpend, if_pos rfl]
  exact completes_of_later rfl ht (by simp [hlen]) hanswer ⟨herase, hwork.ram.trans hram⟩

/-- Settles O21: a command's taking leaves the flash, so each handler writes and reads the copies and the user area as they
stand. -/
theorem nvHostCommands : Obligations.NvHostCommands := by
  unfold Obligations.NvHostCommands
  intro s o p s1 hmode
  refine ⟨?write, ?read, ?rlrWrite, ?rlrRead, fun ht => completes_nvStatus hmode ht, ?userWrite, ?userRead, ?userErase⟩
  case write =>
    intro ht hmin hmax hwords hflags hpad hoff hend
    exact completes_dfiWrite hmode ht hmin hmax hwords hflags hpad hoff hend
  case read =>
    intro ht hlen hsrc hpad hoff got img himg
    exact completes_dfiRead hmode ht hlen hsrc hpad hoff himg
  case rlrWrite =>
    intro ht hlen hform0 hform haccept hheld
    exact completes_rlrWrite hmode ht hlen hform0 hform haccept hheld
  case rlrRead =>
    intro ht hlen hzero
    exact ⟨fun hsrc => completes_rlrRead_resolved hmode ht hlen hzero hsrc,
      fun c img hsrc hc hcopy => completes_rlrRead_copy hmode ht hlen hzero hsrc hc hcopy⟩
  case userWrite =>
    intro ht hmin hmax hunits halign hend off hlock hera hheld
    exact completes_userWrite hmode ht hmin hmax hunits halign hend hlock hera hheld
  case userRead =>
    intro ht hlen hpad hmin hmax hend
    exact completes_userRead hmode ht hlen hpad hmin hmax hend
  case userErase =>
    intro ht hlen hpad halign hmin hmax hend hlock hheld
    exact completes_userErase hmode ht hlen hpad halign hmin hmax hend hlock hheld

end Sys2Proof.Machine
end

section
/-!
What the journal's work changes: the tenant engine's queues, the host link's, the journal's own records, and few registers
(R336-R345); its copies in flash and the mirrors change only where a record is written (R331, R337).
-/

namespace Sys2Proof.Machine

variable {l l' : List Nat} {r s t : State} {α β : Type} {c : Prop} {d : Decidable c}

/-- The journal's work reaches these parts of the state. -/
structure JournalWork (s t : State) : Prop where
  rest : t = { s with
    regs := t.regs, free := t.free, flash := t.flash, flc := t.flc, hsl := t.hsl, jrn := t.jrn, tnt := t.tnt, sec := t.sec, fw := t.fw }

namespace JournalWork

theorem refl (s : State) : JournalWork s s := ⟨rfl⟩

theorem trans (h : JournalWork r s) (h' : JournalWork s t) : JournalWork r t where
  rest := by
    rw [h'.rest, h.rest]

theorem tick (h : JournalWork s t) : t.tick = s.tick := by rw [h.rest]
theorem pw (h : JournalWork s t) : t.pw = s.pw := by rw [h.rest]
theorem ite (hs : JournalWork r s) (ht : JournalWork r t) : JournalWork r (if c then s else t) := by
  split
  · exact hs
  · exact ht

theorem foldl {f : State → β → State} {xs : List β} (h : JournalWork r s)
    (hf : ∀ t b, JournalWork r t → JournalWork r (f t b)) : JournalWork r (xs.foldl f s) := by
  induction xs generalizing s with
  | nil => exact h
  | cons b xs ih => exact ih (hf s b h)

theorem other {regs free flc hsl jrn tnt sec fw} (h : JournalWork r s) : JournalWork r { s with
    regs := regs, free := free, flc := flc, hsl := hsl, jrn := jrn, tnt := tnt, sec := sec, fw := fw } :=
  h.trans ⟨rfl⟩

theorem setReg (h : JournalWork r s) {a : Nat} {w : Word} : JournalWork r (s.setReg a w) := h.trans ⟨rfl⟩

theorem setRegN (h : JournalWork r s) {a n : Nat} : JournalWork r (s.setRegN a n) := h.setReg

theorem raise (h : JournalWork r s) {f : Fld} : JournalWork r (s.raise f) := h.setReg

theorem setJrn (h : JournalWork r s) {x : JrnState} : JournalWork r { s with jrn := x } := h.trans ⟨rfl⟩

theorem setFlash (h : JournalWork r s) {off : Nat} {b : List Byte} : JournalWork r (s.setFlash off b) := by
  induction b generalizing s off with
  | nil => exact h
  | cons b bs ih => exact ih (h.trans ⟨rfl⟩)

theorem flcCount (h : JournalWork r s) {k n : Nat} : JournalWork r (s.flcCount k n) := h.other

theorem touchPlane (h : JournalWork r s) {p : Nat} : JournalWork r (s.touchPlane p) := by
  unfold State.touchPlane
  split
  · extract_lets
    exact .ite (JournalWork.flcCount h.other) h
  · split
    · exact .ite (JournalWork.flcCount h.other) h
    · exact h

theorem notice (h : JournalWork r s) {code : Nat} {payload : List Byte} : JournalWork r (s.notice code payload) :=
  h.trans ⟨by rw [(tells_notice s code payload).rest]⟩

end JournalWork

/-! ## What the end of a commit leaves -/

/-- A register of the journal's block other than the count of its repeated transmissions. -/
def journalReg (a : Nat) : Bool := decide (A.jrnStat ≤ a) && decide (a < 0x40300000) && a != A.jrnCtr 7

/-- The journal's work beside its copies: of its own registers only the listed ones change. -/
structure JournalFrame (l : List Nat) (s t : State) : Prop where
  regs : ∀ a, journalReg a = true → a ∉ l → t.reg a = s.reg a
  mirror0 : t.jrn.mirror0 = s.jrn.mirror0
  mirror1 : t.jrn.mirror1 = s.jrn.mirror1
  page : t.jrn.page = s.jrn.page
  ready : t.jrn.ready = s.jrn.ready
  rest : t = { s with regs := t.regs, free := t.free, hsl := t.hsl, jrn := t.jrn, tnt := t.tnt, sec := t.sec, fw := t.fw }

namespace JournalFrame

theorem refl (l : List Nat) (s : State) : JournalFrame l s s := ⟨fun _ _ _ => rfl, rfl, rfl, rfl, rfl, rfl⟩

theorem trans (h : JournalFrame l r s) (g : JournalFrame l s t) : JournalFrame l r t where
  regs a ha hl := (g.regs a ha hl).trans (h.regs a ha hl)
  mirror0 := g.mirror0.trans h.mirror0
  mirror1 := g.mirror1.trans h.mirror1
  page := g.page.trans h.page
  ready := g.ready.trans h.ready
  rest := by
    rw [g.rest, h.rest]

/-! ### What is kept -/

theorem regN (h : JournalFrame l s t) {a : Nat} (ha : journalReg a = true) (hl : a ∉ l) : t.regN a = s.regN a :=
  congrArg BitVec.toNat (h.regs a ha hl)

theorem work (h : JournalFrame l s t) : JournalWork s t where
  rest := by
    rw [h.rest]

theorem flash (h : JournalFrame l s t) : t.flash = s.flash := by rw [h.rest]
theorem flc (h : JournalFrame l s t) : t.flc = s.flc := by rw [h.rest]

theorem sameMemory (h : JournalFrame l s t) : s.sameMemory t := by
  intro a
  rw [h.rest]
  rfl

/-! ### Branches -/

theorem ite (hs : JournalFrame l r s) (ht : JournalFrame l r t) : JournalFrame l r (if c then s else t) := by
  split
  · exact hs
  · exact ht

theorem of_snd {p : α × State} {a : α} (h : JournalFrame l r p.2) (e : p = (a, t)) : JournalFrame l r t := by
  rw [e] at h
  exact h

theorem ite_snd {x y : α × State} (hx : JournalFrame l r x.2) (hy : JournalFrame l r y.2) :
    JournalFrame l r (if c then x else y).2 := by
  split
  · exact hx
  · exact hy

/-! ### Changes -/

/-- Parts of the state that the frame leaves free. -/
theorem other {free hsl tnt sec fw} (h : JournalFrame l r s) :
    JournalFrame l r { s with free := free, hsl := hsl, tnt := tnt, sec := sec, fw := fw } :=
  h.trans ⟨fun _ _ _ => rfl, rfl, rfl, rfl, rfl, rfl⟩

/-- The journal's own records beside its copies. -/
theorem setJrn {flows msgs commits jseq epoch acts} (h : JournalFrame l r s) : JournalFrame l r { s with jrn := { s.jrn with
    flows := flows, msgs := msgs, commits := commits, jseq := jseq, epoch := epoch, acts := acts } } :=
  h.trans ⟨fun _ _ _ => rfl, rfl, rfl, rfl, rfl, rfl⟩

theorem setReg (h : JournalFrame l r s) {a : Nat} {w : Word} (ha : a ∈ l ∨ journalReg a = false) :
    JournalFrame l r (s.setReg a w) := by
  refine h.trans ⟨fun b hb hl => State.reg_setReg_ne s w ?_, rfl, rfl, rfl, rfl, rfl⟩
  rintro rfl
  rcases ha with ha | ha
  · exact hl ha
  · rw [ha] at hb
    cases hb

theorem setRegN (h : JournalFrame l r s) {a n : Nat} (ha : a ∈ l ∨ journalReg a = false) : JournalFrame l r (s.setRegN a n) :=
  h.setReg ha

theorem setFld (h : JournalFrame l r s) {f : Fld} {n : Nat} (hf : f.addr ∈ l ∨ journalReg f.addr = false) :
    JournalFrame l r (s.setFld f n) := h.setReg hf

theorem raise (h : JournalFrame l r s) {f : Fld} (hf : f.addr ∈ l ∨ journalReg f.addr = false) : JournalFrame l r (s.raise f) :=
  h.setReg hf

theorem countBy (h : JournalFrame l r s) {a n : Nat} (ha : a ∈ l ∨ journalReg a = false) : JournalFrame l r (s.countBy a n) :=
  h.setReg ha

theorem count (h : JournalFrame l r s) {a : Nat} (ha : a ∈ l ∨ journalReg a = false) : JournalFrame l r (s.count a) :=
  h.setReg ha

theorem jrnCount (h : JournalFrame l r s) {k : Nat} (hk : A.jrnCtr k ∈ l ∨ journalReg (A.jrnCtr k) = false) :
    JournalFrame l r (s.jrnCount k) := h.setReg hk

theorem draw (h : JournalFrame l r s) {m : Nat} : JournalFrame l r (s.draw m).2 := h.other

/-! ### The host link -/

theorem notice (h : JournalFrame l r s) {code : Nat} {payload : List Byte} : JournalFrame l r (s.notice code payload) := by
  have ht := tells_notice s code payload
  refine h.trans ⟨fun a ha _ => ht.regs a ?_, ?_, ?_, ?_, ?_, ?_⟩
  · simp only [List.mem_cons, List.not_mem_nil, or_false, not_or]
    constructor
    all_goals
      rintro rfl
      revert ha
      decide
  all_goals rw [ht.rest]

theorem fwNotice (h : JournalFrame l r s) {event flags slot detail actid : Nat} {st : Status} :
    JournalFrame l r (s.fwNotice event flags st slot detail actid) := h.notice

theorem respond (h : JournalFrame l r s) {o : Origin} {code : Nat} {st : Status} {rest : List Byte} :
    JournalFrame l r (s.respond o code st rest) := by
  obtain ⟨x, hx | hx⟩ := respond_cases s o code st rest
  · rw [hx]
    exact h.other
  · rw [hx]
    exact h.other.count (.inr (by decide))

/-! ### The tenant engine -/

theorem roll (h : JournalFrame l r s) : JournalFrame l r s.roll.2 := draw (.ite h.other (h.count (.inr (by decide))))

theorem composeFrame (h : JournalFrame l r s) {peer : Nat} {ie body : List Byte} :
    JournalFrame l r (s.composeFrame peer ie body).2 := h.other

/-- A tenant's counters end below the journal's registers. -/
theorem tntCount (h : JournalFrame l r s) {t k n : Nat} (ht : t < 256) (hk : k < 8) : JournalFrame l r (s.tntCount t k n) := by
  refine h.countBy (.inr ?_)
  have hbelow : A.tntCtr (8 * t + k) < A.jrnStat := by
    unfold A.tntCtr A.jrnStat
    omega
  simp [journalReg, Nat.not_le.2 hbelow]

theorem postDesc (h : JournalFrame l r s) {d : Desc} {reserved jrn : Bool} : JournalFrame l r (s.postDesc d reserved jrn).2 := by
  have ht (i : Nat) : s.lkTenant i < 256 := lk_lt s i 4 1
  unfold State.postDesc
  extract_lets _ _ _
  refine .ite_snd ?_ (.ite_snd ((h.tntCount (ht _) (by decide)).raise (.inr (by decide))) h)
  split
  rename_i e
  refine tntCount (other (of_snd (.ite_snd ?_ h) e)) (ht _) (by decide)
  split
  exact h.roll.of_snd ‹_›

/-! ### Messages and flows -/

theorem setFlow (h : JournalFrame l r s) {f : Nat} {x : Flow} : JournalFrame l r (s.setFlow f x) := h.setJrn

theorem mapFlow (h : JournalFrame l r s) {f : Nat} {g : Flow → Flow} : JournalFrame l r (s.mapFlow f g) := by
  unfold State.mapFlow
  split
  · exact h.setFlow
  · exact h

theorem mapMsg (h : JournalFrame l r s) {j : Nat} {f : Msg → Msg} : JournalFrame l r (s.mapMsg j f) := h.setJrn

theorem dropMsg (h : JournalFrame l r s) {j : Nat} : JournalFrame l r (s.dropMsg j) := h.setJrn

theorem holdMsg (h : JournalFrame l r s) {b : List Byte} : JournalFrame l r (s.holdMsg b) := mapFlow h.setJrn

theorem beginCommit (h : JournalFrame l r s) {type fidx w8 w12 : Nat} {body : List Byte} {what : CommitFor} :
    JournalFrame l r (s.beginCommit type fidx w8 w12 body what) := h.setJrn

theorem beginAccept (h : JournalFrame l r s) {fidx life seq : Nat} {payload : List Byte} {what : CommitFor} :
    JournalFrame l r (s.beginAccept fidx life seq payload what) := by
  unfold State.beginAccept
  split
  · exact h
  · exact h.beginCommit

theorem composeMsg (h : JournalFrame l r s) {f : Flow} {m : Msg} {peer : Nat} : JournalFrame l r (s.composeMsg f m peer).2 :=
  .ite_snd h (roll (draw (draw h.composeFrame)))

theorem sendMsg (h : JournalFrame l r s) {m : Msg} : JournalFrame l r (s.sendMsg m) := by
  unfold State.sendMsg
  split
  · split
    · exact h
    · split
      split
      have h1 := (h.composeMsg.of_snd ‹_›).postDesc.of_snd ‹_›
      exact .ite (mapMsg (.ite h1 (h1.jrnCount (.inr (by decide))))) h1.mapMsg
  · exact h

theorem pumpFlow (h : JournalFrame l r s) {f : Nat} : JournalFrame l r (s.pumpFlow f) := by
  unfold State.pumpFlow
  split
  · exact .ite h.sendMsg h
  · exact h

theorem settled (h : JournalFrame l r s) {j : Nat} : JournalFrame l r (s.settled j) := by
  unfold State.settled
  split
  · exact h.dropMsg.pumpFlow
  · exact h

theorem postCack (h : JournalFrame l r s) {g flow epoch seq origin : Nat} {st : Status} :
    JournalFrame l r (s.postCack g flow epoch seq origin st) := by
  unfold State.postCack
  extract_lets _
  split
  split
  split
  exact (((h.composeFrame.of_snd ‹_›).draw.of_snd ‹_›).draw.of_snd ‹_›).postDesc

theorem of_reportEntry (h : JournalFrame l r s) {n : Nat} (e : s.reportEntry = some (n, t)) : JournalFrame l r t := by
  unfold State.reportEntry at e
  split at e
  · cases e
    exact h
  · split at e
    · cases e
    · cases e
      exact setJrn (setJrn (setJrn h))

theorem report (h : JournalFrame l r s) {m : Msg} {st : Status} {confirm : Bool}
    (hctr : A.jrnCtr 6 ∈ l ∨ journalReg (A.jrnCtr 6) = false) : JournalFrame l r (s.report m st confirm) := by
  unfold State.report
  split
  · exact h
  · refine .ite h ?_
    split
    · exact h.jrnCount hctr
    · exact (h.of_reportEntry ‹_›).beginAccept.mapFlow

theorem flowStat (h : JournalFrame l r s) {f : Nat} {st : Status} (hs : A.jrnFlowstat ∈ l ∨ journalReg A.jrnFlowstat = false)
    (hi : A.jrnIntstat ∈ l ∨ journalReg A.jrnIntstat = false) : JournalFrame l r (s.flowStat f st) :=
  .ite (h.setRegN hs) ((h.setRegN hs).raise hi)

end JournalFrame

/-- The journal's registers that the end of a commit may change. -/
def commitRegs : List Nat :=
  [A.jrnSubjseq, A.jrnSubstat, A.jrnIntstat, A.jrnRelstat, A.jrnFlowstat, A.jrnCtr 0, A.jrnCtr 1, A.jrnCtr 2, A.jrnCtr 3, A.jrnCtr 6]

namespace JournalFrame

theorem flowDone (h : JournalFrame commitRegs r s) {code f : Nat} {host : Option Origin} {rest : List Byte} :
    JournalFrame commitRegs r (s.flowDone code f host rest) := by
  have h1 := h.flowStat (f := f) (st := .ok) (.inl (by decide)) (.inl (by decide))
  unfold State.flowDone
  extract_lets _
  split
  · exact h1.respond
  · exact h1

/-- What a completed commit brings about leaves the journal's copies (R336-R345). -/
theorem committed (h : JournalFrame commitRegs r s) {c : Commit} : JournalFrame commitRegs r (s.committed c) := by
  unfold State.committed
  extract_lets _ _ s1
  have h1 : JournalFrame commitRegs r s1 :=
    ((h.holdMsg.setRegN (.inl (by decide))).jrnCount (.inl (by decide))).raise (.inl (by decide))
  split
  · extract_lets _ s2
    have h2 : JournalFrame commitRegs r s2 := by
      unfold s2
      split
      · exact (h1.setRegN (.inl (by decide))).respond
      · exact h1.setRegN (.inl (by decide))
    exact h2.pumpFlow
  · exact h.holdMsg.pumpFlow
  · extract_lets s2
    have h2 : JournalFrame commitRegs r s2 := by
      unfold s2
      split
      · exact (h.holdMsg.jrnCount (.inl (by decide))).postCack
      · exact h.holdMsg.jrnCount (.inl (by decide))
    exact h2.pumpFlow
  · exact (h.jrnCount (.inl (by decide))).settled
  · extract_lets _
    have h2 := ((h.dropMsg (j := ‹Nat›)).jrnCount (k := 3) (.inl (by decide))).setFld (f := F.jrnRelstatResult)
      (n := Status.ok.code) (.inl (by decide))
    split
    · exact (h2.raise (.inl (by decide))).respond
    · exact h2.raise (.inl (by decide))
  · split
    · exact h
    · exact settled (report (.ite ((h.jrnCount (.inl (by decide))).raise (.inl (by decide))) h) (.inl (by decide)))
  · exact h.mapFlow.flowDone
  · exact h.mapFlow.flowDone
  · exact h.mapFlow.flowDone
  · split
    · exact h.setJrn.fwNotice.respond
    · exact h.setJrn.fwNotice
  · extract_lets _ s1
    have h1 : JournalFrame commitRegs r s1 := h.setJrn
    split
    · exact h1.fwNotice.other.respond
    · exact h1
  · exact h

end JournalFrame

/-! ## Writing records (R331, R337) -/

namespace JournalWork

theorem writePage (h : JournalWork r s) {ckpt : Bool} {recs : List (List Byte)} : JournalWork r (s.writePage ckpt recs) := by
  unfold State.writePage
  extract_lets _ _ _ s1 s2
  have h1 : JournalWork r s1 := .ite h.touchPlane.setFlash.flcCount h
  have h2 : JournalWork r s2 := .ite h1.touchPlane.setFlash.flcCount h1
  exact .ite h2.setJrn.setRegN.raise.raise.notice h2.setJrn.setRegN

theorem writePages (h : JournalWork r s) {ckpt : Bool} {recs : List (List Byte)} : JournalWork r (s.writePages ckpt recs) :=
  h.foldl fun _ _ h => h.writePage

theorem mapMirrors (h : JournalWork r s) {f : List (List Byte) → List (List Byte)} : JournalWork r (s.mapMirrors f) := h.other

theorem trimMirrors (h : JournalWork r s) : JournalWork r s.trimMirrors := .ite h.mapMirrors h.mapMirrors

theorem flushMirrors (h : JournalWork r s) : JournalWork r s.flushMirrors := .ite h.writePages.trimMirrors h

theorem writeRecord (h : JournalWork r s) {b : List Byte} : JournalWork r (s.writeRecord b) :=
  .ite (mapMirrors (.ite h.other h)) (trimMirrors (writePages (.ite h.mapMirrors h)))

theorem committed (h : JournalWork r s) {c : Commit} : JournalWork r (s.committed c) :=
  h.trans (JournalFrame.refl commitRegs s).committed.work

theorem commitOne (h : JournalWork r s) : JournalWork r s.commitOne := by
  unfold State.commitOne
  split
  · exact h
  · exact .ite h.writeRecord.setJrn.committed h

theorem commitAll (h : JournalWork r s) {fuel : Nat} : JournalWork r (s.commitAll fuel) := by
  induction fuel generalizing s with
  | zero => exact h
  | succ fuel ih => exact .ite h (ih h.commitOne)

theorem jrnFlush (h : JournalWork r s) : JournalWork r s.jrnFlush := h.commitAll.flushMirrors

end JournalWork
end Sys2Proof.Machine
end

section
/-!
Firmware update (R424-R435): delivery into a slot, its check, the activation and its reset, and the confirmation of a trial.
-/

namespace Sys2Proof.Machine

variable {s : State} {o : Origin} {p : List Byte}

/-! ## The boot control record (R425) -/

theorem SameFlash.bcrCopy {s t : State} (h : SameFlash s t) (k : Nat) : t.bcrCopy k = s.bcrCopy k := by
  unfold State.bcrCopy
  simp only [h.flashBytes]

theorem SameFlash.bcr {s t : State} (h : SameFlash s t) : t.bcr = s.bcr := by
  unfold State.bcr
  simp only [h.bcrCopy]

theorem SameFlash.writeBcr {s t : State} (h : SameFlash s t) (b : Bcr) : SameFlash (s.writeBcr b) (t.writeBcr b) := by
  have hvictim : t.bcrVictim = s.bcrVictim := by
    unfold State.bcrVictim
    simp only [h.bcrCopy]
  unfold State.writeBcr
  simp only [h.bcr, hvictim]
  exact (h.eraseCounted _ _).program _ _

theorem writeBcr_work (s : State) (b : Bcr) : FlashWork [A.flcCtr 3, A.flcCtr 4] s (s.writeBcr b) :=
  (FlashWork.refl _ s).eraseCounted.program

/-! ## The rollback floor (R407, R408) -/

theorem rollbackFloor_of_otp {s t : State} (h : t.otp = s.otp) : t.rollbackFloor = s.rollbackFloor := by
  unfold State.rollbackFloor State.otpWord
  rw [h]

/-- Raising the floor writes the OTP alone. -/
theorem raiseFloor_otp (s : State) (svn : Nat) : ∃ x, s.raiseFloor svn = { s with otp := x } := by
  unfold State.raiseFloor
  generalize List.range 4 = l
  induction l generalizing s with
  | nil => exact ⟨s.otp, rfl⟩
  | cons k l ih =>
    obtain ⟨x, hx⟩ := ih (s.orOtp (0x80 + k) ((2 ^ svn - 1) / 2 ^ (64 * k) % 2 ^ 64))
    exact ⟨x, hx⟩

/-! ## Confirmation (R435) -/

/-- The record that a confirmation of slot `k` writes. -/
def State.confirmedBcr (s : State) (b : Bcr) (k : Nat) : Bcr := { b with active := k, actver := s.fw.ver, trial := 0xFF }

/-- The trial is over, and the floor is the SVN of what runs where that is higher. -/
def State.trialEnded (s : State) (up : Bool) : State :=
  { (if up then s.raiseFloor s.fw.svn else s) with fw := { s.fw with trial := false } }

theorem trialEnded_ends (s : State) (up : Bool) :
    (s.trialEnded up).fw.trial = false ∧ (s.trialEnded up).fw.ver = s.fw.ver ∧ (s.trialEnded up).flash = s.flash := by
  refine ⟨rfl, rfl, ?_⟩
  cases up with
  | false => rfl
  | true =>
    obtain ⟨x, hx⟩ := raiseFloor_otp s s.fw.svn
    change (s.raiseFloor s.fw.svn).flash = s.flash
    rw [hx]

theorem confirmTrial_eq {b : Bcr} {k : Nat} (hb : s.bcr = some b) (hk : s.fw.slot = some k) :
    s.confirmTrial =
      let u := s.writeBcr (s.confirmedBcr b k)
      let v := (u.trialEnded (decide (u.rollbackFloor < u.fw.svn))).fwNotice 5 0 .ok k 0 b.actid
      if u.rollbackFloor < u.fw.svn then v.fwNotice 6 0 .ok k 0 b.actid else v := by
  unfold State.confirmTrial
  rw [hb, hk]
  simp only [State.trialEnded, decide_eq_true_eq]
  rfl

theorem confirmTrial_confirms {b : Bcr} {k : Nat} (hb : s.bcr = some b) (hk : s.fw.slot = some k) :
    s.confirmTrial.fw.trial = false ∧ s.confirmTrial.fw.ver = s.fw.ver
    ∧ s.confirmTrial.flash = (s.writeBcr (s.confirmedBcr b k)).flash := by
  rw [confirmTrial_eq hb hk]
  have hfw : (s.writeBcr (s.confirmedBcr b k)).fw = s.fw := (writeBcr_work ..).fw
  generalize s.writeBcr (s.confirmedBcr b k) = u at hfw ⊢
  dsimp only
  obtain ⟨htrial, hver, hflash⟩ := trialEnded_ends u (decide (u.rollbackFloor < u.fw.svn))
  generalize u.trialEnded (decide (u.rollbackFloor < u.fw.svn)) = v at htrial hver hflash
  have htells : Tells [A.hslCtr 6, A.hslIntstat] v (if u.rollbackFloor < u.fw.svn then
      (v.fwNotice 5 0 .ok k 0 b.actid).fwNotice 6 0 .ok k 0 b.actid else v.fwNotice 5 0 .ok k 0 b.actid) :=
    .ite ((tells_notice ..).trans (tells_notice ..)) (tells_notice ..)
  generalize (if u.rollbackFloor < u.fw.svn then
      (v.fwNotice 5 0 .ok k 0 b.actid).fwNotice 6 0 .ok k 0 b.actid else v.fwNotice 5 0 .ok k 0 b.actid) = w at htells
  rw [htells.rest]
  exact ⟨htrial, hver.trans (by rw [hfw]), hflash⟩

theorem completes_fwConfirm (hmode : (s.taking o).mode ≠ 5) (ht : s.takes o 0x36 []) (htrial : s.fw.trial = true) {b : Bcr}
    {k : Nat} (hb : s.bcr = some b) (hk : s.fw.slot = some k) :
    Completes (.fwConfirm o []) s fun t =>
      t.fw.trial = false ∧ t.flash = (s.writeBcr (s.confirmedBcr b k)).flash
      ∧ t.responded o (rspPayload 0x36 .ok (leBytes 4 s.fw.ver ++ [Byte.ofN t.rollbackFloor, 0, 0, 0])) := by
  have htaking := sameFlash_taking s o
  have hfw : (s.taking o).fw = s.fw := rfl
  have hconf : (s.taking o).confirmedBcr b k = s.confirmedBcr b k := rfl
  obtain ⟨hend, hver, hflash⟩ := confirmTrial_confirms (s := s.taking o) (htaking.bcr.trans hb) ((congrArg FwState.slot hfw).trans hk)
  rw [hconf, (htaking.writeBcr _).flash] at hflash
  rw [hfw] at hver
  have hanswer : handleFwConfirm o [] (s.taking o) =
      (.now .ok (leBytes 4 s.fw.ver ++ [Byte.ofN (s.taking o).confirmTrial.rollbackFloor, 0, 0, 0]), (s.taking o).confirmTrial) := by
    unfold handleFwConfirm
    rw [if_neg (by rw [hfw, htrial]; simp [hmode]), ← hver]
  generalize (s.taking o).confirmTrial = v at *
  refine completes_of_answered rfl ht (by decide) hanswer ⟨?_, (flash_respond ..).trans hflash, ?_⟩
  · obtain ⟨x, y, h⟩ := respond_eq v o 0x36 .ok (leBytes 4 s.fw.ver ++ [Byte.ofN v.rollbackFloor, 0, 0, 0])
    rw [h]
    exact hend
  · rw [rollbackFloor_of_otp (otp_respond ..)]
    exact State.responded_respond ..

theorem completes_autoConfirm (hboot : s.pw.boot = .run) (htrial : s.fw.trial = true) (hsec : s.fw.confSec ≠ 0)
    (hdue : s.fw.confSec * 32768 ≤ s.fw.trialLf) (hcom : s.comUp = true) (hfl : s.domainOn .fl = true) {b : Bcr} {k : Nat}
    (hb : s.bcr = some b) (hk : s.fw.slot = some k) :
    Completes .autoConfirm s fun t => t.fw.trial = false ∧ t.flash = (s.writeBcr (s.confirmedBcr b k)).flash := by
  obtain ⟨hend, -, hflash⟩ := confirmTrial_confirms hb hk
  exact ⟨s.confirmTrial, congrArg Host.Outcome.next (if_pos (by simp [hboot, htrial, hsec, hdue, hcom, hfl])), hend, hflash⟩

/-! ## Delivery and checks (R427-R429) -/

theorem rangePermitted_fwSlot {k off n : Nat} (hk : k ≤ 1) (hn : 0 < n) (hend : off + n ≤ 0x800000) :
    rangePermitted (fwSlotOff k + off) n = true := by
  have harea {x : Nat} (hx : x < 0x800000) : flashArea (fwSlotOff k + x) = (if k = 0 then 1 else 5, true) := by
    unfold flashArea fwSlotOff
    obtain rfl | rfl : k = 0 ∨ k = 1 := by omega
    all_goals
      simp only [Nat.one_ne_zero, if_true, if_false]
      repeat rw [if_neg (by omega)]
      rw [if_pos (by omega)]
  have hlast : fwSlotOff k + off + n - 1 = fwSlotOff k + (off + n - 1) := by omega
  rw [rangePermitted, hlast, harea (by omega), harea (by omega)]
  simp

theorem fwSlotOff_mod (k : Nat) : fwSlotOff k % 256 = 0 := by
  unfold fwSlotOff
  split <;> decide

theorem completes_fwWrite (hmode : (s.taking o).mode ≠ 5) (ht : s.takes o 0x30 p) (hlen : fwWriteLen o.ep p.length = true)
    (hk : byteAt p 0 ≤ 1) (hpad : allZero ((p.drop 1).take 3) = true) (halign : leAt p 4 4 % 256 = 0)
    (hend : leAt p 4 4 + (p.length - 8) ≤ 0x800000) (hfree : s.fwLocked (byteAt p 0) = false)
    (hlock : (s.taking o).rangeLocked (fwSlotOff (byteAt p 0) + leAt p 4 4) (p.length - 8) = false)
    (hera : s.erasedRange (fwSlotOff (byteAt p 0) + leAt p 4 4) (p.length - 8) = true) (hheld : s.flcHeld = false) :
    Completes (.fwWrite o p) s fun t =>
      t.responded o (rspPayload 0x30 .ok []) ∧ t.ram = s.ram
      ∧ (s.flashBytes (fwSlotOff (byteAt p 0) + leAt p 4 4) (p.length - 8) ≠ p.drop 8 →
          t.flash = (s.setFlash (fwSlotOff (byteAt p 0) + leAt p 4 4) (p.drop 8)).flash)
      ∧ (s.flashBytes (fwSlotOff (byteAt p 0) + leAt p 4 4) (p.length - 8) = p.drop 8 → t.flash = s.flash) := by
  have hdata : (p.drop 8).length = p.length - 8 := List.length_drop ..
  have hmin : 264 ≤ p.length := by
    simp only [fwWriteLen, Bool.and_eq_true, decide_eq_true_eq] at hlen
    exact hlen.1.1
  have htaking := sameFlash_taking s o
  have hprog := flProgram_of_free (s := s.taking o) (off := fwSlotOff (byteAt p 0) + leAt p 4 4) (b := p.drop 8)
    (by have := fwSlotOff_mod (byteAt p 0); omega) hmode (by rw [hdata]; exact rangePermitted_fwSlot hk (by omega) hend)
    (by rw [hdata]; exact hlock) (by rw [hdata, htaking.erasedRange]; exact hera) hheld
  have hfree' : (s.taking o).fwLocked (byteAt p 0) = false := hfree
  have hanswer : handleFwWrite o p (s.taking o) =
      if s.flashBytes (fwSlotOff (byteAt p 0) + leAt p 4 4) (p.length - 8) == p.drop 8 then (.now .ok [], s.taking o)
      else (.now .ok [], (s.taking o).program (fwSlotOff (byteAt p 0) + leAt p 4 4) (p.drop 8)) := by
    unfold handleFwWrite
    dsimp only
    rw [if_neg (by rw [hdata, hpad]; simp [halign, Nat.not_lt.2 hk, Nat.not_lt.2 hend]), if_neg hmode, if_neg (by simp [hfree']),
      hdata, htaking.flashBytes, hprog]
  have hram : (s.taking o).ram = s.ram := rfl
  by_cases heq : s.flashBytes (fwSlotOff (byteAt p 0) + leAt p 4 4) (p.length - 8) = p.drop 8
  · rw [if_pos (by rw [heq]; exact beq_self_eq_true _)] at hanswer
    exact completes_of_answered rfl ht hlen hanswer ⟨State.responded_respond .., (ram_respond ..).trans hram,
      fun hne => absurd heq hne, fun _ => (flash_respond ..).trans htaking.flash⟩
  · rw [if_neg (by rw [beq_iff_eq]; exact heq)] at hanswer
    refine completes_of_answered rfl ht hlen hanswer ⟨State.responded_respond .., ?_, fun _ => ?_, fun h => absurd h heq⟩
    · rw [ram_respond]
      exact ((FlashWork.refl [A.flcCtr 3] (s.taking o)).program).ram.trans hram
    · rw [flash_respond]
      exact (htaking.setFlash _ _).flash

theorem completes_fwErase (hmode : (s.taking o).mode ≠ 5) (ht : s.takes o 0x31 p) (hlen : p.length = 8) (hk : byteAt p 0 ≤ 1)
    (hpad : allZero ((p.drop 1).take 3) = true) (hmax : leAt p 4 4 ≤ 8388608) (hfree : s.fwLocked (byteAt p 0) = false)
    (hheld : s.flcHeld = false) :
    Completes (.fwErase o p) s fun t =>
      t.flc.erase = some { first := fwSlotOff (byteAt p 0) / 4096,
                           count := if leAt p 4 4 = 0 then 2048 else (leAt p 4 4 + 4095) / 4096,
                           host := some (o, 0x31) } ∧ t.ram = s.ram := by
  have hfree' : (s.taking o).fwLocked (byteAt p 0) = false := hfree
  have hheld' : (s.taking o).flcHeld = false := hheld
  have hram : (s.taking o).ram = s.ram := rfl
  have hanswer : ∃ u, handleFwErase o p (s.taking o) = (.later, u)
      ∧ u.flc.erase = some { first := fwSlotOff (byteAt p 0) / 4096,
                             count := if leAt p 4 4 = 0 then 2048 else (leAt p 4 4 + 4095) / 4096, host := some (o, 0x31) }
      ∧ u.ram = (s.taking o).ram := by
    unfold handleFwErase
    dsimp only
    rw [if_neg (by rw [hpad]; simp [Nat.not_lt.2 hk, Nat.not_lt.2 hmax]), if_neg hmode, if_neg (by simp [hfree']), if_neg (by simp [hheld'])]
    have hwork (l : List Nat) : FlashWork [] (s.taking o) ((s.taking o).junkSectors l) := (FlashWork.refl ..).junkSectors
    generalize List.map _ _ = l
    exact ⟨_, rfl, rfl, (hwork l).ram⟩
  obtain ⟨u, hanswer, herase, hkept⟩ := hanswer
  exact completes_of_later rfl ht (by simp [hlen]) hanswer ⟨herase, hkept.trans hram⟩

theorem completes_fwVerify (hmode : (s.taking o).mode ≠ 5) (ht : s.takes o 0x32 p) (hlen : p.length = 4) (hk : byteAt p 0 ≤ 1)
    (hpad : allZero (p.drop 1) = true) :
    Completes (.fwVerify o p) s fun t =>
      (∃ rest, t.responded o (rspPayload 0x32 (fwStatus ((s.taking o).fwCheck (byteAt p 0) false))
          (Byte.ofN ((s.taking o).fwCheck (byteAt p 0) false) :: rest)) ∧ rest.length = 11) ∧ s.sameMemory t := by
  have hanswer : ∃ rest, rest.length = 11 ∧ handleFwVerify o p (s.taking o) =
      (.now (fwStatus ((s.taking o).fwCheck (byteAt p 0) false)) (Byte.ofN ((s.taking o).fwCheck (byteAt p 0) false) :: rest),
        (s.taking o).touchPlane (byteAt p 0)) := by
    have hpad' : (p.drop 1).take 3 = p.drop 1 := List.take_of_length_le (by rw [List.length_drop]; omega)
    unfold handleFwVerify
    dsimp only
    rw [if_neg (by rw [hpad', hpad]; simp [Nat.not_lt.2 hk]), if_neg hmode]
    refine ⟨_, ?_, rfl⟩
    split
    · simp
    · simp
  obtain ⟨rest, hrest, hanswer⟩ := hanswer
  exact completes_of_answered rfl ht (by simp [hlen]) hanswer ⟨⟨rest, State.responded_respond .., hrest⟩,
    sameMemory_respond (fun a => (touchPlane_memory _ _ a).trans (sameMemory_taking s o a)) o _ _ _⟩

/-! ## Activation (R430-R433) -/

theorem sameMemory_beginCommit (s : State) (type fidx w8 w12 : Nat) (body : List Byte) (what : CommitFor) :
    s.sameMemory (s.beginCommit type fidx w8 w12 body what) := fun _ => rfl

theorem completes_fwActivate (hmode : (s.taking o).mode ≠ 5) (ht : s.takes o 0x33 p) (hlen : p.length = 16) (hk : byteAt p 0 ≤ 1)
    (hpad : allZero ((p.drop 1).take 3) = true) (hrun : s.fwRunning (byteAt p 0) = false) (hen : (s.taking o).flag F.jrnCfgEn = true)
    (hround : leAt p 4 8 ≠ 0 → (s.taking o).flag F.ntmStatValid = true ∧ (s.taking o).ntmReached (leAt p 4 8 - 1) = false)
    (hacts : s.jrn.acts = []) (hcommit : s.actCommitting = false) (htrial : s.fw.trial = false) :
    Completes (.fwActivate o p) s fun t =>
      t.jrn = (s.beginCommit 8 0 0 0 (leBytes 8 (leAt p 4 8) ++ [Byte.ofN (byteAt p 0), 0, 0, 0] ++ leBytes 4 (leAt p 12 4))
        (.activate (some o))).jrn ∧ s.sameMemory t := by
  have hkept : (s.taking o).fwRunning (byteAt p 0) = false ∧ (s.taking o).jrn.acts = [] ∧ (s.taking o).actCommitting = false
      ∧ (s.taking o).fw.trial = false := ⟨hrun, hacts, hcommit, htrial⟩
  obtain ⟨hrun', hacts', hcommit', htrial'⟩ := hkept
  have hopen : (leAt p 4 8 != 0 && (!(s.taking o).flag F.ntmStatValid || (s.taking o).ntmReached (leAt p 4 8 - 1))) = false := by
    by_cases hz : leAt p 4 8 = 0
    · simp [hz]
    · simp [hround hz]
  have hanswer : handleFwActivate o p (s.taking o) = (.later, (s.taking o).beginCommit 8 0 0 0
      (leBytes 8 (leAt p 4 8) ++ [Byte.ofN (byteAt p 0), 0, 0, 0] ++ leBytes 4 (leAt p 12 4)) (.activate (some o))) := by
    unfold handleFwActivate
    dsimp only
    rw [if_neg (by rw [hpad]; simp [Nat.not_lt.2 hk]), if_neg (by rw [hopen]; simp [hmode, hrun', hen]),
      if_neg (by simp [hacts', hcommit', htrial'])]
  exact completes_of_later rfl ht (by simp [hlen]) hanswer ⟨rfl, sameMemory_taking s o⟩

theorem completes_fwCancel {j : Nat} {b : List Byte} (hmode : (s.taking o).mode ≠ 5) (ht : s.takes o 0x34 [])
    (hact : s.scheduledAct = some (j, b)) (hopen : (s.taking o).cancelOpen b = true) (hnone : s.fw.cancelHost = none) :
    Completes (.fwCancel o []) s fun t =>
      t.fw = { s.fw with cancelHost := some o } ∧ t.jrn = (s.beginCommit 9 0 0 j [] (.actClear j)).jrn ∧ s.sameMemory t := by
  have hact' : (s.taking o).scheduledAct = some (j, b) := hact
  have hnone' : (s.taking o).fw.cancelHost = none := hnone
  have hanswer : handleFwCancel o [] (s.taking o) = (.later, { (s.taking o).beginCommit 9 0 0 j [] (.actClear j) with
      fw := { (s.taking o).fw with cancelHost := some o } }) := by
    unfold handleFwCancel
    rw [if_neg hmode, hact']
    simp only [hopen, hnone', Option.isNone_none, Bool.and_self, if_true]
  exact completes_of_later rfl ht (by decide) hanswer ⟨rfl, rfl, sameMemory_taking s o⟩

theorem completes_fwStatus (hmode : (s.taking o).mode ≠ 5) (ht : s.takes o 0x35 []) :
    Completes (.fwStatus o []) s fun t =>
      (∃ rest, t.responded o (rspPayload 0x35 .ok rest) ∧ rest.length = 32
        ∧ rest.take 1 = [Byte.ofN (s.fwRole 0)] ∧ (rest.drop 8).take 1 = [Byte.ofN (s.fwRole 1)]
        ∧ (rest.drop 16).take 1 = [Byte.ofN s.rollbackFloor])
      ∧ t.fw = s.fw ∧ s.sameMemory t := by
  have hrole (k : Nat) : (s.taking o).fwRole k = s.fwRole k := rfl
  have hfloor : (s.taking o).rollbackFloor = s.rollbackFloor := rollbackFloor_of_otp rfl
  have hfw : (s.taking o).fw = s.fw := rfl
  have hanswer : ∃ rest, handleFwStatus o [] (s.taking o) = (.now .ok rest, s.taking o) ∧ rest.length = 32
      ∧ rest.take 1 = [Byte.ofN (s.fwRole 0)] ∧ (rest.drop 8).take 1 = [Byte.ofN (s.fwRole 1)]
      ∧ (rest.drop 16).take 1 = [Byte.ofN s.rollbackFloor] := by
    unfold handleFwStatus
    rw [if_neg hmode]
    simp only [hrole, hfloor]
    have hnil (n : Nat) : List.drop 12 (leBytes 4 n) = [] := List.drop_of_length_le (by simp)
    exact ⟨_, rfl, by simp, by simp, by simp, by simp [List.drop_append, hnil]⟩
  obtain ⟨rest, hanswer, hrest⟩ := hanswer
  refine completes_of_answered rfl ht (by decide) hanswer ⟨⟨rest, State.responded_respond .., hrest⟩, ?_,
    sameMemory_respond (sameMemory_taking s o) o _ _ _⟩
  obtain ⟨x, y, h⟩ := respond_eq (s.taking o) o 0x35 .ok rest
  rw [h]
  exact hfw

section
variable {j : Nat} {b : List Byte}

/-- What an activation asks for and when it fires. -/
def State.setFw (s : State) (x : FwState) : State := { s with fw := x }

theorem execActivationKeeper_eq (hact : s.scheduledAct = some (j, b)) (hheld : s.actHeld = false) (hasked : s.fw.asked ≠ some j)
    (hnear : s.actNear b = true) (hnone : s.fw.cancelHost = none) :
    ∃ late target, (actRound b = 0 → late = false ∧ target = 0)
      ∧ exec .activationKeeper s =
        let u := s.setFw { s.fw with asked := some j, target := target, late := late }
        .next (if actRound b = 0 && s.mode = 4 then u else (u.submitMode { mode := 4, profile := 0, bands := 0, source := 3 }).2) := by
  have hclose : s.closeCancel = s := by
    unfold State.closeCancel
    rw [hnone]
  refine ⟨actRound b != 0 && s.ntmReached (actRound b),
    if actRound b != 0 && s.ntmReached (actRound b) then s.ntmRound + 1 else actRound b, fun h0 => by simp [h0], ?_⟩
  change execActivationKeeper s = _
  unfold execActivationKeeper
  rw [hact]
  dsimp only
  rw [if_neg (by simp [hheld, hasked, hnear]), hclose]
  rfl

theorem completes_activationKeeper (hact : s.scheduledAct = some (j, b)) (hheld : s.actHeld = false) (hasked : s.fw.asked ≠ some j)
    (hnear : s.actNear b = true) (hnone : s.fw.cancelHost = none) (hout : ¬(actRound b = 0 ∧ s.mode = 4))
    (hcheck : s.checkMode { mode := 4, profile := 0, bands := 0, source := 3, at_ := s.tick } = none) (htrans : s.pw.trans = none)
    (hswap : s.swapHoldsMode = false) :
    Completes .activationKeeper s fun t =>
      ∃ ph, t.pw.trans = some { req := { mode := 4, profile := 0, bands := 0, source := 3, at_ := s.tick }, phase := ph } := by
  obtain ⟨late, target, -, hexec⟩ := execActivationKeeper_eq hact hheld hasked hnear hnone
  refine ⟨_, hexec, ?_⟩
  rw [if_neg (by simpa using hout)]
  have hsame : (s.setFw { s.fw with asked := some j, target := target, late := late }).checkMode
      { mode := 4, profile := 0, bands := 0, source := 3 } = none := hcheck
  obtain ⟨u, hsubmit, hu⟩ := submitMode_of_passed hsame htrans hswap
  rw [hsubmit]
  exact hu

theorem completes_activationKeeper_there (hact : s.scheduledAct = some (j, b)) (hheld : s.actHeld = false)
    (hasked : s.fw.asked ≠ some j) (hround : actRound b = 0) (hmode : s.mode = 4) (hnone : s.fw.cancelHost = none) :
    Completes .activationKeeper s fun t => t = { s with fw := { s.fw with asked := some j, target := 0, late := false } } := by
  obtain ⟨late, target, h0, hexec⟩ := execActivationKeeper_eq hact hheld hasked (by simp [State.actNear, hround]) hnone
  obtain ⟨rfl, rfl⟩ := h0 hround
  refine ⟨_, hexec, ?_⟩
  rw [if_pos (by simp [hround, hmode])]
  rfl

theorem completes_activationQuiesce (hact : s.scheduledAct = some (j, b)) (hheld : s.actHeld = false) (hasked : s.fw.asked = some j)
    (hfiring : s.fw.firing = none) (hdue : s.actDue b = true) :
    Completes .activationQuiesce s fun t => t = { s with fw := { s.fw with firing := some j } } := by
  refine ⟨_, ?_, rfl⟩
  change execActivationQuiesce s = _
  unfold execActivationQuiesce
  rw [hact]
  dsimp only
  rw [if_neg (by simp [hasked, hfiring, hdue]), if_neg (by simp [hheld])]

end

theorem completes_activationReset {j : Nat} (hfiring : s.fw.firing = some j) (hair : s.onAir = false) (hwindow : s.swapWindow = false)
    (hheld : s.actHeld = false) (halone : ∀ x, s.pw.lastReset = some x → x.1 ≠ s.tick) :
    Completes .activationReset s fun t => t.pw.boot = .startup ∧ t.fld F.rstCauseScope = 2 ∧ t.fld F.rstCauseCode = 10 := by
  have hboot : s.pw.boot = .run ∨ s.pw.boot = .service := by
    have h : (!(s.pw.boot == .run || s.pw.boot == .service)) = false := by
      unfold State.actHeld at hheld
      simp only [Bool.or_eq_false_iff] at hheld
      exact hheld.1.1.1
    simpa [or_iff_not_imp_left] using h
  have hflush := (JournalWork.refl s).jrnFlush
  let b := (Sparse.find? s.jrn.acts j).getD []
  let u := s.jrnFlush.fwNotice 3 (b2n s.jrnFlush.fw.late) .ok (actSlot b) 0 (actId b)
  have hu : JournalWork s u := hflush.notice
  have hexec : exec .activationReset s = .next (u.assertReset 2 10) := by
    change execActivationReset s = _
    unfold execActivationReset
    rw [hfiring]
    dsimp only
    rw [if_neg (by simp [hair, hwindow]), if_neg (by simp [hheld])]
  clear_value u
  obtain ⟨v, x, hrec, heq, hx⟩ := assertReset_alone u (scope := 2) (.inl rfl) (code := 10) (by decide)
    (by rw [hu.pw]; rcases hboot with h | h <;> simp [h]) (.inl (by rw [hu.pw]; rcases hboot with h | h <;> simp [h]))
    (by rw [hu.pw, hu.tick]; exact halone)
  refine ⟨_, hexec, ?_⟩
  rw [heq]
  exact ⟨(congrArg PowerState.boot (pw_setPw ..)).trans hx, (fld_setPw ..).trans hrec.scope, (fld_setPw ..).trans hrec.code⟩

/-- Settles O22: each command's checks pass by the premises; a confirmation and a delivery act on the flash as it stood. -/
theorem firmwareUpdate : Obligations.FirmwareUpdate := by
  unfold Obligations.FirmwareUpdate
  intro s o p s1
  refine ⟨fun hmode => ⟨?write, ?erase, ?verify, ?activate, ?cancel, fun ht => completes_fwStatus hmode ht, ?confirm⟩,
    fun j b hact hheld => ⟨?keeper, ?there, ?quiesce⟩, ?reset, ?auto⟩
  case write =>
    intro ht hlen hk hpad halign hend hfree off hlock hera hheld
    exact completes_fwWrite hmode ht hlen hk hpad halign hend hfree hlock hera hheld
  case erase =>
    intro ht hlen hk hpad hmax hfree hheld
    exact completes_fwErase hmode ht hlen hk hpad hmax hfree hheld
  case verify =>
    intro ht hlen hk hpad
    exact completes_fwVerify hmode ht hlen hk hpad
  case activate =>
    intro ht hlen hk hpad hrun hen hround hacts hcommit htrial
    exact completes_fwActivate hmode ht hlen hk hpad hrun hen hround hacts hcommit htrial
  case cancel =>
    intro j b ht hact hopen hnone
    exact completes_fwCancel hmode ht hact hopen hnone
  case confirm =>
    intro b k ht htrial hb hk
    exact completes_fwConfirm hmode ht htrial hb hk
  case keeper =>
    intro hasked hnear hnone hout r hcheck htrans hswap
    exact completes_activationKeeper hact hheld hasked hnear hnone hout hcheck htrans hswap
  case there =>
    intro hasked hround hmode hnone
    exact completes_activationKeeper_there hact hheld hasked hround hmode hnone
  case quiesce =>
    intro hasked hfiring hdue
    exact completes_activationQuiesce hact hheld hasked hfiring hdue
  case reset =>
    intro j hfiring hair hwindow hheld halone
    exact completes_activationReset hfiring hair hwindow hheld halone
  case auto =>
    intro b k hboot htrial hsec hdue hcom hfl hb hk
    exact completes_autoConfirm hboot htrial hsec hdue hcom hfl hb hk

end Sys2Proof.Machine
end

section
/-!
Little-endian fields of byte strings put together from fields (R4), and the range of CRC-32C (R65).
-/

namespace Sys2Proof.Machine

/-- A field that lies behind a first part. -/
theorem leAt_append_of_le {a : List Byte} {off : Nat} (b : List Byte) (k : Nat) (h : a.length ≤ off) :
    leAt (a ++ b) off k = leAt b (off - a.length) k := by
  rw [leAt, leAt, List.drop_append, List.drop_of_length_le h, List.nil_append]

/-- A field that a first part holds. -/
theorem leAt_append_of_within {a : List Byte} {off k : Nat} (b : List Byte) (h : off + k ≤ a.length) :
    leAt (a ++ b) off k = leAt a off k := by
  rw [leAt, leAt, List.drop_append_of_le_length (by omega), List.take_append_of_le_length (by rw [List.length_drop]; omega)]

theorem leAt_leBytes (k n : Nat) : leAt (leBytes k n) 0 k = n % 256 ^ k := by
  rw [leAt, List.drop_zero, List.take_of_length_le (by simp), leNat_leBytes]

theorem leAt_leBytes_append (k n : Nat) (b : List Byte) : leAt (leBytes k n ++ b) 0 k = n % 256 ^ k := by
  rw [leAt_append_of_within b (by simp), leAt_leBytes]

theorem crcByte_lt {c : Nat} (h : c < 2 ^ 32) : crcByte c < 2 ^ 32 := by
  have hbit {c : Nat} (h : c < 2 ^ 32) : crcBit c < 2 ^ 32 := by
    have hhalf : c / 2 < 2 ^ 32 := by omega
    unfold crcBit
    split
    · exact Nat.xor_lt_two_pow hhalf (by decide)
    · exact hhalf
  exact hbit (hbit (hbit (hbit (hbit (hbit (hbit (hbit h)))))))

theorem crc32c_lt (b : List Byte) : crc32c b < 2 ^ 32 := by
  have hrun (b : List Byte) {c : Nat} (h : c < 2 ^ 32) : crcRun c b < 2 ^ 32 := by
    induction b generalizing c with
    | nil => exact h
    | cons x b ih => exact ih (crcByte_lt (Nat.xor_lt_two_pow h (Nat.lt_trans x.isLt (by decide))))
  exact Nat.xor_lt_two_pow (hrun b (by decide)) (by decide)

end Sys2Proof.Machine
end

section
/-!
The Host Serial Link (R370-R391): the hunt for frames, what is sent and what waits, notices, arbitration and the settings.
-/

namespace Sys2Proof.Machine

variable {s : State} {o : Origin} {p : List Byte} {l : List Nat} {ep : Endpoint} {seq : Nat}

/-! ## Sending (R379) -/

namespace Tells

variable {t : State}

theorem emit (h : Tells l s t) {f : HslFrame} (hl : A.hslCtr 1 ∈ l) : Tells l s (t.emit f) := h.other.count hl

theorem send (h : Tells l s t) {f : HslFrame} (hl : A.hslCtr 1 ∈ l) : Tells l s (t.send f) := .ite (h.emit hl) h.other

theorem respond (h : Tells l s t) {o : Origin} {code : Nat} {st : Status} {rest : List Byte} (hl : A.hslCtr 1 ∈ l) :
    Tells l s (t.respond o code st rest) := by
  obtain ⟨x, hx | hx⟩ := respond_cases t o code st rest
  · rw [hx]
    exact h.other
  · rw [hx]
    exact h.other.count hl

theorem frameIn (h : Tells l s t) {c : Option Origin} (hl : A.hslCtr 0 ∈ l) : Tells l s (t.frameIn c) := h.other.count hl

theorem foldl {β : Type} {f : State → β → State} {xs : List β} (h : Tells l s t) (hf : ∀ u b, Tells l s u → Tells l s (f u b)) :
    Tells l s (xs.foldl f t) := by
  induction xs generalizing t with
  | nil => exact h
  | cons b xs ih => exact ih (hf t b h)

theorem flushWaiting (h : Tells l s t) (hl : A.hslCtr 1 ∈ l) : Tells l s t.flushWaiting := h.other.foldl fun _ _ h => h.emit hl

theorem pw (h : Tells l s t) : t.pw = s.pw := by rw [h.rest]
theorem ntm (h : Tells l s t) : t.ntm = s.ntm := by rw [h.rest]
theorem tb (h : Tells l s t) : t.tb = s.tb := by rw [h.rest]

end Tells

/-- Only the queues of frames change when one is sent. -/
theorem hsl_send (s : State) (f : HslFrame) :
    ∃ w out tun, (s.send f).hsl = { s.hsl with waiting := w, out := out, tunOut := tun } := by
  unfold State.send
  split
  · exact ⟨_, _, _, rfl⟩
  · exact ⟨_, _, _, rfl⟩

theorem chan_send (s : State) (f : HslFrame) (ep : Endpoint) (c : Nat) : (s.send f).chan ep c = s.chan ep c := by
  obtain ⟨w, out, tun, h⟩ := hsl_send s f
  rw [State.chan, State.chan, h]

/-- What waits for an endpoint that may send goes out, in order. -/
theorem hsl_flushWaiting (s : State) : ∃ tun, s.flushWaiting.hsl = { s.hsl with
    waiting := s.hsl.waiting.filter (fun f => !s.maySend f.ep)
    out := s.hsl.out ++ s.hsl.waiting.filter (fun f => s.maySend f.ep), tunOut := tun } := by
  have hgo (q : List HslFrame) (u : State) :
      ∃ tun, (q.foldl (fun s f => s.emit f) u).hsl = { u.hsl with out := u.hsl.out ++ q, tunOut := tun } := by
    induction q generalizing u with
    | nil => exact ⟨u.hsl.tunOut, by rw [List.append_nil]; rfl⟩
    | cons f q ih =>
      obtain ⟨tun, h⟩ := ih (u.emit f)
      have hemit : (u.emit f).hsl.out = u.hsl.out ++ [f] := rfl
      rw [hemit, List.append_assoc] at h
      exact ⟨tun, h⟩
  exact hgo _ _

/-! ## The hunt for frames (R374) -/

/-- The bytes of a frame behind its DELIM: LENGTH, KIND and CHANNEL, SEQ and the payload, and the CRC. -/
def frameHead (kc : Byte) (seq : Nat) (p : List Byte) : List Byte := leBytes 2 p.length ++ [kc] ++ leBytes 2 seq ++ p

section
variable {kc : Byte} {crc : Nat}

theorem length_frameHead (kc : Byte) (seq : Nat) (p : List Byte) : (frameHead kc seq p).length = p.length + 5 := by
  simp [frameHead]
  omega

/-- The fields that the hunt reads of a frame. -/
theorem frame_fields (hlen : p.length ≤ 4096) (hseq : seq < 65536) (hcrc : crc < 2 ^ 32) :
    let b := frameHead kc seq p ++ leBytes 4 crc
    leAt b 0 2 = p.length ∧ b.take (p.length + 5) = frameHead kc seq p ∧ leAt b (p.length + 5) 4 = crc ∧ byteAt b 2 = kc.toNat
    ∧ leAt b 3 2 = seq ∧ (b.drop 5).take p.length = p ∧ b.drop (p.length + 9) = [] ∧ b.length = p.length + 9 := by
  intro b
  have hhead := length_frameHead kc seq p
  have hb : b.length = p.length + 9 := by
    rw [List.length_append, hhead, length_leBytes]
  have hshape : b = leBytes 2 p.length ++ (kc :: (leBytes 2 seq ++ (p ++ leBytes 4 crc))) := by
    simp [b, frameHead]
  refine ⟨?_, List.take_left' hhead, ?_, ?_, ?_, ?_, List.drop_of_length_le (by omega), hb⟩
  · rw [hshape, leAt_leBytes_append, Nat.mod_eq_of_lt (by omega)]
  · rw [leAt_append_of_le _ _ (by omega), hhead, Nat.sub_self, leAt_leBytes, Nat.mod_eq_of_lt (by omega)]
  · rw [hshape, byteAt, List.drop_left' (by simp)]
    rfl
  · rw [hshape, leAt_append_of_le _ _ (by simp)]
    change leAt (leBytes 2 seq ++ (p ++ leBytes 4 crc)) 0 2 = seq
    rw [leAt_leBytes_append, Nat.mod_eq_of_lt (by omega)]
  · have hdrop : b.drop 5 = p ++ leBytes 4 crc := by
      rw [hshape]
      simp [List.drop_append]
    rw [hdrop, List.take_left' rfl]

theorem hunt_nil (fuel : Nat) (ep : Endpoint) (room : Bool) (s : State) : State.hunt fuel ep room s [] = s := by
  cases fuel <;> rfl

/-- Bytes without a DELIM hold no frame. -/
theorem hunt_of_no_delim (fuel : Nat) (ep : Endpoint) (room : Bool) (s : State) {b : List Byte} (h : ∀ x ∈ b, x ≠ (0xD7 : Byte)) :
    State.hunt fuel ep room s b = s := by
  induction fuel generalizing b with
  | zero => cases b <;> rfl
  | succ fuel ih =>
    cases b with
    | nil => rfl
    | cons x b =>
      rw [State.hunt]
      dsimp only
      rw [if_pos (by simpa using h x (.head _))]
      exact ih fun y hy => h y (.tail _ hy)

/-- What the hunt does with one whole frame. -/
theorem exec_hslFrame (hep : s.hearsHost ep = true) (room : Bool) (hlen : p.length ≤ 4096) (hseq : seq < 65536) (hcrc : crc < 2 ^ 32) :
    ∃ fuel, exec (.hslFrame ep room ((0xD7 : Byte) :: (frameHead kc seq p ++ leBytes 4 crc))) s = .next (
      if crc32c (frameHead kc seq p) != crc then
        State.hunt fuel ep room (s.dropFrameAs 2 F.hslIntstatCrcerr) (frameHead kc seq p ++ leBytes 4 crc)
      else if !room then s.dropFrameAs 4 F.hslIntstatRxovf else s.takeFrameIn ep kc.toNat seq p) := by
  obtain ⟨h0, htake, h1, h2, h3, h4, h5, h6⟩ := frame_fields (kc := kc) hlen hseq hcrc
  generalize frameHead kc seq p ++ leBytes 4 crc = b at *
  refine ⟨b.length, ?_⟩
  change Host.Outcome.next (if s.hearsHost ep then State.hunt (b.length + 1) ep room s ((0xD7 : Byte) :: b) else s) = _
  rw [if_pos hep, State.hunt]
  simp only [bne_self_eq_false, Bool.false_eq_true, if_false, h0, htake, h1, h2, h3, h4, h5, hunt_nil]
  rw [if_neg (by omega), if_neg (by omega), if_neg (by omega)]

theorem dropFrameAs_counts (s : State) {k : Nat} {f : Fld} (hf : f = F.hslIntstatCrcerr ∧ k = 2 ∨ f = F.hslIntstatRxovf ∧ k = 4) :
    (s.dropFrameAs k f).flag f = true ∧ (s.dropFrameAs k f).regN (A.hslCtr k) = (s.regN (A.hslCtr k) + 1) % 2 ^ 32
    ∧ s.sameRegsBut (s.dropFrameAs k f) [A.hslCtr k, A.hslIntstat] ∧ s.sameMemory (s.dropFrameAs k f) := by
  have haddr : f.addr = A.hslIntstat := by
    rcases hf with ⟨rfl, -⟩ | ⟨rfl, -⟩ <;> rfl
  have hraise (u : State) : (u.raise f).flag f = true := by
    rcases hf with ⟨rfl, -⟩ | ⟨rfl, -⟩ <;> exact flag_raise_at u
  have hne : A.hslCtr k ≠ f.addr := by
    rw [haddr]
    rcases hf with ⟨-, rfl⟩ | ⟨-, rfl⟩ <;> decide
  have hw : WritesOnly [A.hslCtr k, A.hslIntstat] s (s.dropFrameAs k f) :=
    ((WritesOnly.refl _ s).count (.head _)).raise (by rw [haddr]; exact .tail _ (.head _))
  exact ⟨hraise _, (regN_raise_ne _ hne).trans (regN_count_self ..), hw.regs, hw.sameMemory⟩

theorem completes_hslFrame (hep : s.hearsHost ep = true) (hlen : p.length ≤ 4096) (hseq : seq < 65536) :
    (let frame := (0xD7 : Byte) :: (frameHead kc seq p ++ leBytes 4 (crc32c (frameHead kc seq p)))
     Completes (.hslFrame ep true frame) s (fun t => t = s.takeFrameIn ep kc.toNat seq p)
     ∧ Completes (.hslFrame ep false frame) s (fun t =>
          t.flag F.hslIntstatRxovf = true ∧ t.regN (A.hslCtr 4) = (s.regN (A.hslCtr 4) + 1) % 2 ^ 32
          ∧ s.sameRegsBut t [A.hslCtr 4, A.hslIntstat] ∧ s.sameMemory t))
    ∧ (∀ crc, crc < 2 ^ 32 → crc ≠ crc32c (frameHead kc seq p) →
        (∀ x ∈ frameHead kc seq p ++ leBytes 4 crc, x ≠ (0xD7 : Byte)) →
      Completes (.hslFrame ep true ((0xD7 : Byte) :: (frameHead kc seq p ++ leBytes 4 crc))) s fun t =>
        t.flag F.hslIntstatCrcerr = true ∧ t.regN (A.hslCtr 2) = (s.regN (A.hslCtr 2) + 1) % 2 ^ 32
        ∧ s.sameRegsBut t [A.hslCtr 2, A.hslIntstat] ∧ s.sameMemory t) := by
  have hgood (room : Bool) := exec_hslFrame (kc := kc) hep room hlen hseq (crc32c_lt (frameHead kc seq p))
  simp only [bne_self_eq_false, Bool.false_eq_true, if_false] at hgood
  refine ⟨⟨?_, ?_⟩, fun crc hcrc hne hdelim => ?_⟩
  · obtain ⟨_, h⟩ := hgood true
    exact ⟨_, h, rfl⟩
  · obtain ⟨_, h⟩ := hgood false
    exact ⟨_, h, dropFrameAs_counts s (.inr ⟨rfl, rfl⟩)⟩
  · obtain ⟨fuel, h⟩ := exec_hslFrame (kc := kc) hep true hlen hseq hcrc
    rw [if_pos (by simpa using hne.symm), hunt_of_no_delim _ _ _ _ hdelim] at h
    exact ⟨_, h, dropFrameAs_counts s (.inl ⟨rfl, rfl⟩)⟩

end

/-! ## HSL_WAKE (R371) -/

/-- What a return to W-ACTIVE leaves alone while PD_COM is on (R37). -/
structure Roused (s t : State) : Prop where
  com : s.domainOn .com = true → t.domainOn .com = true
  modestat : t.reg A.pmuModestat = s.reg A.pmuModestat
  intstat : t.reg A.hslIntstat = s.reg A.hslIntstat
  hsl : t.hsl = s.hsl
  memory : s.sameMemory t

namespace Roused

variable {t u : State}

theorem refl (s : State) : Roused s s := ⟨id, rfl, rfl, rfl, fun _ => rfl⟩

theorem trans (h : Roused s t) (g : Roused t u) : Roused s u :=
  ⟨g.com ∘ h.com, g.modestat.trans h.modestat, g.intstat.trans h.intstat, g.hsl.trans h.hsl, fun a => (g.memory a).trans (h.memory a)⟩

theorem ite {c : Prop} {d : Decidable c} (ht : Roused s t) (hu : Roused s u) : Roused s (if c then t else u) := by
  split
  · exact ht
  · exact hu

theorem ofWrites (h : WritesOnly l s t) (hmode : A.pmuModestat ∉ l) (hint : A.hslIntstat ∉ l)
    (hcom : t.bit A.pmuDomstat 1 = s.bit A.pmuDomstat 1) : Roused s t where
  com := fun hs => hcom.trans hs
  modestat := h.regs _ hmode
  intstat := h.regs _ hint
  hsl := by rw [h.rest]
  memory := h.sameMemory

theorem ofFabric (h : FabricFrame s t) : Roused s t where
  com := fun hs => (bit_eq_of_regN (h.regN (by decide))).trans hs
  modestat := h.reg _ (by decide)
  intstat := h.reg _ (by decide)
  hsl := by rw [h.rest]
  memory := h.sameMemory

theorem chainOn (s : State) (c : Chain) : Roused s (s.chainOn c) := by
  have hw : WritesOnly [A.rfsStat c, A.rfsRssi c] s (s.chainOn c) :=
    .ite ((WritesOnly.refl _ s).setChState (.head _) (.tail _ (.head _))) (.refl _ s)
  have hapart : A.pmuModestat ∉ [A.rfsStat c, A.rfsRssi c] ∧ A.hslIntstat ∉ [A.rfsStat c, A.rfsRssi c]
      ∧ A.pmuDomstat ∉ [A.rfsStat c, A.rfsRssi c] := by
    cases c <;> decide
  exact .ofWrites hw hapart.1 hapart.2.1 (bit_eq_of_regN (congrArg BitVec.toNat (hw.regs _ hapart.2.2)))

theorem markOn (s : State) (d : Domain) : Roused s (s.setBit A.pmuDomstat d.bit) := by
  have hw : WritesOnly [A.pmuDomstat] s (s.setBit A.pmuDomstat d.bit) := (WritesOnly.refl _ s).setBit (.head _)
  refine ⟨fun hs => ?_, hw.regs _ (by decide), hw.regs _ (by decide), by rw [hw.rest], hw.sameMemory⟩
  by_cases hd : d.bit = 1
  · rw [hd]
    exact bit_setBit_self s _ (by decide)
  · exact (bit_setBit_ne s _ (by decide) (Ne.symm hd)).trans hs

/-- A domain other than PD_COM is switched on (R23). -/
theorem switchOn (h : Roused s t) (hcom : s.domainOn .com = true) (d : Domain) : Roused s (t.switchOn d) := by
  by_cases hd : t.domainOn d = true
  · rw [State.switchOn, if_pos hd]
    exact h
  · rw [State.switchOn, if_neg hd]
    have hmark := h.trans (markOn t d)
    cases d with
    | com => exact absurd (h.com hcom) hd
    | rfs => exact hmark.trans (chainOn ..)
    | rft => exact hmark.trans (chainOn ..)
    | aon | cl0 | cl1 | cl2 | cl3 | xr | met | fl => exact hmark

theorem powerUpFor (h : Roused s t) (hcom : s.domainOn .com = true) (mode profile : Nat) : Roused s (t.powerUpFor mode profile) := by
  unfold State.powerUpFor
  generalize switchable = ds
  induction ds generalizing t with
  | nil => exact h
  | cons d ds ih =>
    exact ih (.ite (h.switchOn hcom d) h)

theorem setPoints (h : Roused s t) (mode profile : Nat) : Roused s (t.setPoints mode profile) := by
  have hw := (WritesOnly.refl [A.clkPllc, A.clkPllf, A.clkStat] t).setPoints mode profile
  exact h.trans (.ofWrites hw (by decide) (by decide) (bit_eq_of_regN (congrArg BitVec.toNat (hw.regs _ (by decide)))))

theorem leaveRetention (h : Roused s t) : Roused s (t.lower F.pmuDomstatRet) := by
  have hw : WritesOnly [A.pmuDomstat] t (t.lower F.pmuDomstatRet) := (WritesOnly.refl _ t).lower (.head _)
  have hreg : (t.lower F.pmuDomstatRet).regN A.pmuDomstat = setBitsOf (t.regN A.pmuDomstat) 0 1 0 % 2 ^ 32 :=
    State.regN_setRegN_self ..
  refine h.trans (.ofWrites hw (by decide) (by decide) ?_)
  rw [State.bit, hreg, bitAt_mod_two_pow _ (by decide), bitAt_setBitsOf_one]
  rfl

theorem setPw (h : Roused s t) {x : PowerState} : Roused s { t with pw := x } :=
  h.trans ⟨id, rfl, rfl, rfl, fun _ => rfl⟩

theorem xrefStart (h : Roused s t) : Roused s t.xrefStart := by
  unfold State.xrefStart
  split
  · exact h
  · exact h.setPw

end Roused

theorem RunsAll.evRefresh {r s : State} (h : RunsAll r s) : RunsAll r s.evRefresh := by
  unfold State.evRefresh
  generalize hF : @List.foldl (State × EvWork) Nat = F
  extract_lets _
  split
  rename_i e
  exact (RunsAll.evRun (RunsFabric.of_foldl hF e h fun _ _ hm h => h.mainSet (List.mem_range.1 hm) id)).evSettle

theorem Roused.evRefresh {t : State} (h : Roused s t) : Roused s t.evRefresh := h.trans (.ofFabric (RunsAll.evRefresh (.refl _ t)).frame)

theorem wakeWatch_roused (hcom : s.domainOn .com = true) : Roused s s.wakeWatch := by
  unfold State.wakeWatch
  split
  · have h := (Roused.refl s).leaveRetention.evRefresh
    generalize (s.lower F.pmuDomstatRet).evRefresh = u at h ⊢
    exact ((h.powerUpFor hcom 1 u.profile).xrefStart.setPoints 1 _).setPw
  · exact .refl s

/-- The ball's level. -/
def State.setWake (s : State) (level : Bool) : State := { s with hsl := { s.hsl with wake := level } }

theorem exec_hslWake (s : State) (level : Bool) : exec (.hslWake level) s = .next (
    let rises := level && !s.hsl.wake
    let u := if rises && (s.setWake level).comUp then (s.setWake level).raise F.hslIntstatWake else s.setWake level
    if rises then u.flushWaiting.wake 18 else u.flushWaiting) := rfl

theorem completes_hslWake_rise (hlow : s.hsl.wake = false) (hcom : s.comUp = true) (hrun : s.running = true)
    (htrans : s.pw.trans = none) (hmode : 2 ≤ s.mode) :
    Completes (.hslWake true) s fun t =>
      t.hsl.wake = true ∧ t.flag F.hslIntstatWake = true ∧ t.mode = s.mode
      ∧ (s.hsl.variant ≠ 1 → ∀ f ∈ s.hsl.waiting, f.ep = .loc → f ∈ t.hsl.out) ∧ s.sameMemory t := by
  let u := (s.setWake true).raise F.hslIntstatWake
  have hexec : exec (.hslWake true) s = .next (u.flushWaiting.wake 18) := by
    have hcom' : (s.setWake true).comUp = true := hcom
    rw [exec_hslWake]
    simp only [hlow, hcom', Bool.not_false, Bool.and_self, if_true]
    rfl
  have hu : Tells [A.hslIntstat] s u := ((Tells.refl _ s).other).raise (.head _)
  have hflag : u.flag F.hslIntstatWake = true := flag_raise_at _
  have huhsl : u.hsl = { s.hsl with wake := true } := rfl
  have hflush : Tells [A.hslCtr 1] u u.flushWaiting := (Tells.refl _ u).flushWaiting (.head _)
  obtain ⟨tun, hhsl⟩ := hsl_flushWaiting u
  have hcom' : u.flushWaiting.domainOn .com = true := by
    have hdom : u.flushWaiting.regN A.pmuDomstat = s.regN A.pmuDomstat := (hflush.regN (by decide)).trans (hu.regN (by decide))
    have hs : s.domainOn .com = true := by
      unfold State.comUp at hcom
      exact (Bool.and_eq_true_iff.1 hcom).1
    exact (bit_eq_of_regN hdom).trans hs
  have hpw : u.flushWaiting.pw = s.pw := hflush.pw.trans hu.pw
  have hvmode : u.flushWaiting.mode = s.mode := (hflush.fld (by decide)).trans (hu.fld (by decide))
  have hwake : u.flushWaiting.wake 18 = u.flushWaiting.wakeWatch := by
    refine wake_of_watch ?_ ?_ ?_
    · rw [hpw]
      simpa [State.running] using hrun
    · rw [hpw, htrans]
    · rw [State.dormant, hvmode]
      simp
      omega
  have hmem : s.sameMemory u.flushWaiting := fun a => (hflush.sameMemory a).trans (hu.sameMemory a)
  have hvflag : u.flushWaiting.flag F.hslIntstatWake = true := (hflush.flag (by decide)).trans hflag
  have hmay : s.hsl.variant ≠ 1 → u.maySend .loc = true := fun h => by
    rw [State.maySend, huhsl]
    simpa using h
  rw [hwake] at hexec
  refine ⟨_, hexec, ?_⟩
  rw [huhsl] at hhsl
  clear_value u
  generalize u.flushWaiting = v at *
  have hr := wakeWatch_roused hcom'
  refine ⟨?_, ?_, ?_, fun hvar f hf hloc => ?_, fun a => (hr.memory a).trans (hmem a)⟩
  · rw [hr.hsl, hhsl]
  · exact (flag_eq_of_regN (congrArg BitVec.toNat hr.intstat)).trans hvflag
  · exact (fld_eq_of_regN (congrArg BitVec.toNat hr.modestat)).trans hvmode
  · rw [hr.hsl, hhsl]
    refine List.mem_append_right _ (List.mem_filter.2 ⟨hf, ?_⟩)
    rw [hloc]
    exact hmay hvar

theorem completes_hslWake_fall : Completes (.hslWake false) s fun t => t.hsl.wake = false ∧ t.pw = s.pw ∧ s.sameMemory t := by
  have hexec : exec (.hslWake false) s = .next (s.setWake false).flushWaiting := by
    rw [exec_hslWake]
    simp only [Bool.false_and, Bool.false_eq_true, if_false]
  have h : Tells [A.hslCtr 1] s (s.setWake false).flushWaiting := ((Tells.refl _ s).other).flushWaiting (.head _)
  obtain ⟨tun, hhsl⟩ := hsl_flushWaiting (s.setWake false)
  exact ⟨_, hexec, by rw [hhsl]; rfl, h.pw, h.sameMemory⟩

/-! ## Late acknowledgement (R378) -/

theorem completes_hslAckTimer {ch q : Nat} (hlast : (s.chan ep ch).last = some q) (hrun : (s.chan ep ch).running = true)
    (hacked : (s.chan ep ch).acked = false) (hdue : (s.chan ep ch).since + 4000 ≤ s.tb.now) :
    Completes (.hslAckTimer ep ch) s fun t =>
      (t.chan ep ch).acked = true ∧ (t.chan ep ch).running = true
      ∧ (let f : HslFrame := { ep := ep, kind := 4, ch := ch, seq := q, payload := [] }
         f ∈ t.hsl.out ∨ f ∈ t.hsl.waiting) ∧ s.sameMemory t := by
  let u := s.setChan ep ch { s.chan ep ch with acked := true }
  have hexec : exec (.hslAckTimer ep ch) s = .next (u.send { ep := ep, kind := 4, ch := ch, seq := q, payload := [] }) := by
    change execHslAckTimer ep ch s = _
    unfold execHslAckTimer
    dsimp only
    rw [hlast]
    dsimp only
    rw [if_pos (by simp [hrun, hacked, hdue])]
    simp only [u, hlast]
  have hchan : u.chan ep ch = { s.chan ep ch with acked := true } := by
    unfold u State.chan State.setChan
    rw [Sparse.find?_insert_self]
    rfl
  have htells : Tells [A.hslCtr 1] s (u.send { ep := ep, kind := 4, ch := ch, seq := q, payload := [] }) :=
    (Tells.other (.refl _ s)).send (.head _)
  refine ⟨_, hexec, ?_, ?_, State.mem_send _ _, htells.sameMemory⟩
  · rw [chan_send, hchan]
  · rw [chan_send, hchan]
    exact hrun

/-! ## Notices (R381, R382) -/

theorem completes_hslAck (hep : s.hearsHost ep = true) (hne : ep ≠ .debug) :
    Completes (.hslAck ep seq) s fun t =>
      t.hsl.notices = s.hsl.notices.filter (fun n => !(n.sent && n.seq == seq))
      ∧ (∀ l, s.hsl.lost = some l → l.sent = true → l.seq = seq → s.hsl.lostWait.count = 0 → t.hsl.lost = none)
      ∧ s.sameRegsBut t [A.hslCtr 0] ∧ s.sameMemory t := by
  have hexec : exec (.hslAck ep seq) s = .next ((s.frameIn none).ackNotice seq) := by
    change execHslAck ep seq s = _
    unfold execHslAck
    simp only [hep, hne, Bool.not_true, Bool.false_eq_true, if_false]
  have hin : Tells [A.hslCtr 0] s (s.frameIn none) := (Tells.refl _ s).frameIn (.head _)
  have hhsl : (s.frameIn none).hsl = { s.hsl with lostArb := false } := rfl
  refine ⟨_, hexec, ?_⟩
  generalize s.frameIn none = u at *
  have hnotices : u.hsl.notices = s.hsl.notices ∧ u.hsl.lost = s.hsl.lost ∧ u.hsl.lostWait = s.hsl.lostWait := by
    rw [hhsl]
    exact ⟨rfl, rfl, rfl⟩
  obtain ⟨hn, hl, hw⟩ := hnotices
  have hacked (x : HslState) : Tells [A.hslCtr 0] s { u with hsl := x } := hin.other
  unfold State.ackNotice
  dsimp only
  rw [← hn, hl, hw]
  cases hlost : s.hsl.lost with
  | none => exact ⟨rfl, fun _ h => (Option.some_ne_none _ h.symm).elim, (hacked _).regs, (hacked _).sameMemory⟩
  | some x =>
    dsimp only
    split
    next h =>
      split
      · exact ⟨rfl, fun _ _ _ _ _ => rfl, (hacked _).regs, (hacked _).sameMemory⟩
      next hcount => exact ⟨rfl, fun _ _ _ _ h => absurd h hcount, (hacked _).regs, (hacked _).sameMemory⟩
    next h =>
      refine ⟨rfl, fun y hy hsent hseq _ => ?_, (hacked _).regs, (hacked _).sameMemory⟩
      cases hy
      simp [hsent, hseq] at h

theorem hsl_sendNotice (s : State) (code seq : Nat) (payload : List Byte) :
    ∃ w out tun, (s.sendNotice code seq payload).hsl = { s.hsl with waiting := w, out := out, tunOut := tun } := hsl_send ..

theorem sendNotice_tells (s : State) (code seq : Nat) (payload : List Byte) : Tells [A.hslCtr 1] s (s.sendNotice code seq payload) :=
  (Tells.refl _ s).send (.head _)

theorem mem_sendNotice (s : State) (code seq : Nat) (payload : List Byte) :
    let f : HslFrame := { ep := s.sink, kind := 3, ch := 15, seq := seq, payload := ntcPayload code payload }
    f ∈ (s.sendNotice code seq payload).hsl.out ∨ f ∈ (s.sendNotice code seq payload).hsl.waiting := State.mem_send _ _

/-- The queue of notices, and the NOTICE_LOST beside it. -/
def State.setNotices (s : State) (ns : List Notice) (lost : Option LostNotice) : State :=
  { s with hsl := { s.hsl with notices := ns, lost := lost } }

section
variable {n : Notice}

theorem completes_noticeSend (hup : s.sinkUp = true) (hwin : s.inFlight < s.fld F.hslCfgNwin) (hlost : s.hsl.lost = none)
    (hn : s.hsl.notices.find? (fun n => !n.sent) = some n) :
    Completes .noticeSend s fun t =>
      (∃ x ∈ t.hsl.notices, x.seq = n.seq ∧ x.sent = true ∧ x.sentAt = s.tb.now)
      ∧ (let f : HslFrame := { ep := s.sink, kind := 3, ch := 15, seq := n.seq, payload := ntcPayload n.code n.payload }
         f ∈ t.hsl.out ∨ f ∈ t.hsl.waiting) ∧ s.sameMemory t := by
  have hexec : exec .noticeSend s = .next (s.sendFirst n) := by
    change execNoticeSend s = _
    unfold execNoticeSend
    rw [if_neg (by simp [hup, hwin]), hn, hlost]
  refine ⟨_, hexec, ?_⟩
  unfold State.sendFirst
  dsimp only
  generalize hf : (fun x : Notice => if x.seq = n.seq && !x.sent then { x with sent := true, sentAt := s.tb.now } else x) = f
  have hmarked : f n ∈ s.hsl.notices.map f := List.mem_map_of_mem (List.mem_of_find?_eq_some hn)
  have hunsent : n.sent = false := by simpa using List.find?_some hn
  have hfn : f n = { n with sent := true, sentAt := s.tb.now } := by
    rw [← hf]
    simp [hunsent]
  generalize s.hsl.notices.map f = ns at hmarked ⊢
  have hmem := mem_sendNotice (s.setNotices ns s.hsl.lost) n.code n.seq n.payload
  obtain ⟨w, out, tun, hhsl⟩ := hsl_sendNotice (s.setNotices ns s.hsl.lost) n.code n.seq n.payload
  have htells := (Tells.other (.refl _ s)).trans (sendNotice_tells (s.setNotices ns s.hsl.lost) n.code n.seq n.payload)
  refine ⟨⟨f n, ?_, by rw [hfn], by rw [hfn], by rw [hfn]⟩, hmem, htells.sameMemory⟩
  change f n ∈ ((s.setNotices ns s.hsl.lost).sendNotice n.code n.seq n.payload).hsl.notices
  rw [hhsl]
  exact hmarked

theorem completes_noticeSend_lost {l : LostNotice} (hup : s.sinkUp = true) (hwin : s.inFlight < s.fld F.hslCfgNwin)
    (hlost : s.hsl.lost = some l) (hsent : l.sent = false) (hn : s.hsl.notices.find? (fun n => !n.sent) = none) :
    Completes .noticeSend s fun t =>
      (∃ x, t.hsl.lost = some x ∧ x.seq = l.seq ∧ x.sent = true)
      ∧ (let f : HslFrame := { ep := s.sink, kind := 3, ch := 15, seq := l.seq, payload := ntcPayload 0xC1 l.sum.payload }
         f ∈ t.hsl.out ∨ f ∈ t.hsl.waiting) ∧ s.sameMemory t := by
  have hexec : exec .noticeSend s = .next (s.sendLost l) := by
    change execNoticeSend s = _
    unfold execNoticeSend
    rw [if_neg (by simp [hup, hwin]), hn, hlost]
    simp only [hsent, Bool.false_eq_true, if_false]
  refine ⟨_, hexec, ?_⟩
  let x : LostNotice := { l with sent := true, sentAt := s.tb.now }
  have hmem := mem_sendNotice (s.setNotices s.hsl.notices (some x)) 0xC1 l.seq l.sum.payload
  obtain ⟨w, out, tun, hhsl⟩ := hsl_sendNotice (s.setNotices s.hsl.notices (some x)) 0xC1 l.seq l.sum.payload
  have htells := (Tells.other (.refl _ s)).trans (sendNotice_tells (s.setNotices s.hsl.notices (some x)) 0xC1 l.seq l.sum.payload)
  refine ⟨⟨x, ?_, rfl, rfl⟩, hmem, htells.sameMemory⟩
  change ((s.setNotices s.hsl.notices (some x)).sendNotice 0xC1 l.seq l.sum.payload).hsl.lost = some x
  rw [hhsl]
  rfl

theorem completes_noticeRetransmit (hup : s.sinkUp = true) (hdue : s.dueNotice seq = some n) :
    Completes (.noticeRetransmit seq) s fun t =>
      t.regN (A.hslCtr 5) = (s.regN (A.hslCtr 5) + 1) % 2 ^ 32
      ∧ (let f : HslFrame := { ep := s.sink, kind := 3, ch := 15, seq := seq, payload := ntcPayload n.code n.payload }
         f ∈ t.hsl.out ∨ f ∈ t.hsl.waiting)
      ∧ (∀ x ∈ t.hsl.notices, x.seq = seq → x.sentAt = s.tb.now) ∧ s.sameMemory t := by
  have hseq : n.seq = seq := by
    have h := List.find?_some hdue
    simp only [Bool.and_eq_true, beq_iff_eq] at h
    exact h.1.1
  have hexec : exec (.noticeRetransmit seq) s = .next (((s.setNotices (s.hsl.notices.map fun x =>
      if x.seq = seq then { x with sentAt := s.tb.now } else x) s.hsl.lost).sendNotice n.code n.seq n.payload).count (A.hslCtr 5)) := by
    change execNoticeRetransmit seq s = _
    unfold execNoticeRetransmit
    rw [if_neg (by simp [hup]), hdue]
    rfl
  refine ⟨_, hexec, ?_⟩
  have hmarked : ∀ x ∈ s.hsl.notices.map (fun x => if x.seq = seq then { x with sentAt := s.tb.now } else x),
      x.seq = seq → x.sentAt = s.tb.now := by
    intro x hx
    obtain ⟨y, -, rfl⟩ := List.mem_map.1 hx
    split
    · exact fun _ => rfl
    next h => exact fun h' => absurd h' h
  generalize s.hsl.notices.map (fun x => if x.seq = seq then { x with sentAt := s.tb.now } else x) = ns at hmarked ⊢
  rw [hseq]
  have hmem := mem_sendNotice (s.setNotices ns s.hsl.lost) n.code seq n.payload
  obtain ⟨w, out, tun, hhsl⟩ := hsl_sendNotice (s.setNotices ns s.hsl.lost) n.code seq n.payload
  have htells := (Tells.other (.refl _ s)).trans (sendNotice_tells (s.setNotices ns s.hsl.lost) n.code seq n.payload)
  have hns : (s.setNotices ns s.hsl.lost).hsl.notices = ns := rfl
  have hsink : (s.setNotices ns s.hsl.lost).sink = s.sink := rfl
  generalize s.setNotices ns s.hsl.lost = u at *
  rw [hsink] at hmem
  generalize u.sendNotice n.code seq n.payload = v at *
  refine ⟨?_, hmem, fun x hx => hmarked x ?_, htells.sameMemory⟩
  · rw [regN_count_self, htells.regN (by decide)]
  · rw [← hns]
    have hv : v.hsl.notices = u.hsl.notices := by rw [hhsl]
    exact hv ▸ hx

end

/-! ## HSL_SYNC and HSL_STATUS (R376, R387) -/

theorem chan_setChan (s : State) (ep ep' : Endpoint) (c c' : Nat) (x : HslChan) :
    (s.setChan ep c x).chan ep' c' = if 16 * epIdx ep' + c' = 16 * epIdx ep + c then x else s.chan ep' c' := by
  unfold State.chan State.setChan
  by_cases h : 16 * epIdx ep' + c' = 16 * epIdx ep + c
  · rw [if_pos h, h, Sparse.find?_insert_self]
    rfl
  · rw [if_neg h, Sparse.find?_insert_ne _ _ h]

/-- A response closes no channel. -/
theorem opened_respond (o : Origin) (code : Nat) (st : Status) (rest : List Byte) {ep : Endpoint} {c : Nat}
    (h : (s.chan ep c).opened = true) : ((s.respond o code st rest).chan ep c).opened = true := by
  unfold State.respond
  extract_lets x u
  have hu : (u.chan ep c).opened = true := by
    unfold u
    split
    · rw [chan_setChan]
      split
      next heq =>
        have hx : x = s.chan ep c := by
          unfold x State.chan
          rw [heq]
        rw [← hx] at h
        exact h
      · exact h
    · exact h
  rw [State.answer, chan_send]
  exact hu

/-- Opening the channels opens each of them, and changes nothing else of the link (R376). -/
theorem openChannels_opens (s : State) (ep : Endpoint) :
    (∀ c, c < 15 → ((s.openChannels ep).chan ep c).opened = true) ∧ ∃ x, s.openChannels ep = { s with hsl := { s.hsl with chans := x } } := by
  have hfold (q : List Nat) (u : State) (v : State) (hv : v = q.foldl (fun s c =>
      let x := s.chan ep c
      s.setChan ep c (if x.running then { x with opened := true } else { opened := true })) u) :
      (∀ c, (u.chan ep c).opened = true ∨ c ∈ q → (v.chan ep c).opened = true) ∧ ∃ x, v = { u with hsl := { u.hsl with chans := x } } := by
    induction q generalizing u with
    | nil =>
      rw [hv]
      exact ⟨fun c h => h.elim id fun h => absurd h List.not_mem_nil, u.hsl.chans, rfl⟩
    | cons k q ih =>
      obtain ⟨hopen, x, hx⟩ := ih _ hv
      refine ⟨fun c h => hopen c ?_, x, hx⟩
      by_cases hc : c ∈ q
      · exact .inr hc
      · left
        rw [chan_setChan]
        by_cases hk : c = k
        · rw [if_pos (by rw [hk])]
          split <;> rfl
        · rw [if_neg (by omega)]
          exact h.elim id fun h => (List.mem_cons.1 h).elim (fun h => absurd h hk) fun h => absurd h hc
  obtain ⟨hopen, hx⟩ := hfold (List.range 15) s _ rfl
  exact ⟨fun c hc => hopen c (.inr (List.mem_range.2 hc)), hx⟩

theorem completes_hslSync (ht : s.takes o 0x10 p) (hlen : p.length = 0) :
    Completes (.hslSync o p) s fun t =>
      (∀ c, c < 15 → (t.chan o.ep c).opened = true) ∧ t.flag F.hslIntstatSync = true
      ∧ t.responded o (rspPayload 0x10 .ok (leBytes 4 (s.regN A.rstCause) ++ leBytes 2 (s.fld F.rstRstcountCount)
        ++ leBytes 2 s.hsl.nseq ++ leBytes 4 (s.regN A.sysBootstat))) ∧ s.sameMemory t := by
  obtain ⟨hopen, x, hx⟩ := openChannels_opens (s.taking o) o.ep
  have htake : Tells [A.hslCtr 0] s (s.taking o) := ((Tells.frameIn (.refl _ s) (.head _))).other
  have hnseq : (s.taking o).hsl.nseq = s.hsl.nseq := rfl
  have hanswer : handleHslSync o p (s.taking o) = (.now .ok (leBytes 4 (((s.taking o).openChannels o.ep).raise F.hslIntstatSync |>.regN A.rstCause)
      ++ leBytes 2 (((s.taking o).openChannels o.ep).raise F.hslIntstatSync |>.fld F.rstRstcountCount)
      ++ leBytes 2 (((s.taking o).openChannels o.ep).raise F.hslIntstatSync |>.hsl.nseq)
      ++ leBytes 4 (((s.taking o).openChannels o.ep).raise F.hslIntstatSync |>.regN A.sysBootstat)),
      ((s.taking o).openChannels o.ep).raise F.hslIntstatSync) := rfl
  have hu : Tells [A.hslCtr 0] s ((s.taking o).openChannels o.ep) := by
    rw [hx]
    exact htake.other
  have hunseq : ((s.taking o).openChannels o.ep).hsl.nseq = s.hsl.nseq := by
    rw [hx]
    exact hnseq
  generalize (s.taking o).openChannels o.ep = u at *
  have hraise : Tells [A.hslIntstat] u (u.raise F.hslIntstatSync) := (Tells.refl _ u).raise (.head _)
  have hflag : (u.raise F.hslIntstatSync).flag F.hslIntstatSync = true := flag_raise_at u
  have hhsl : (u.raise F.hslIntstatSync).hsl = u.hsl := rfl
  have hchan (c : Nat) : (u.raise F.hslIntstatSync).chan o.ep c = u.chan o.ep c := rfl
  generalize u.raise F.hslIntstatSync = v at *
  rw [hraise.regN (by decide), hu.regN (by decide), hraise.fld (by decide), hu.fld (by decide), hhsl, hunseq,
    hraise.regN (a := A.sysBootstat) (by decide), hu.regN (a := A.sysBootstat) (by decide)] at hanswer
  refine completes_of_answered rfl ht (by simp [hlen]) hanswer
    ⟨fun c hc => opened_respond _ _ _ _ (by rw [hchan]; exact hopen c hc), ?_, State.responded_respond ..,
      sameMemory_respond (fun a => (hraise.sameMemory a).trans (hu.sameMemory a)) o _ _ _⟩
  rw [State.flag, fld_respond_ne _ _ _ _ _ (by decide)]
  exact hflag

theorem completes_hslStatus (ht : s.takes o 0x15 p) (hlen : p.length = 0) :
    Completes (.hslStatus o p) s fun t =>
      t.responded o (rspPayload 0x15 .ok (leBytes 4 (s.taking o).hslStat ++ leBytes 4 (s.regN A.hslCfg)
        ++ leBytes 4 s.hslNqstat ++ ((List.range 8).map (fun k => leBytes 4 ((s.taking o).regN (A.hslCtr k)))).flatten))
      ∧ s.sameMemory t := by
  have htake : Tells [A.hslCtr 0] s (s.taking o) := ((Tells.frameIn (.refl _ s) (.head _))).other
  have hnq : (s.taking o).hslNqstat = s.hslNqstat := rfl
  have hanswer : handleHslStatus o p (s.taking o) = (.now .ok (leBytes 4 (s.taking o).hslStat ++ leBytes 4 (s.regN A.hslCfg)
      ++ leBytes 4 s.hslNqstat ++ ((List.range 8).map (fun k => leBytes 4 ((s.taking o).regN (A.hslCtr k)))).flatten), s.taking o) := by
    unfold handleHslStatus
    rw [hnq, htake.regN (a := A.hslCfg) (by decide)]
  exact completes_of_answered rfl ht (by simp [hlen]) hanswer
    ⟨State.responded_respond .., sameMemory_respond (sameMemory_taking s o) o _ _ _⟩

/-! ## Arbitration and settings (R374, R383, R384, R388) -/

/-- The host won the line. -/
def State.loseLine (s : State) : State := { s with hsl := { s.hsl with lostArb := true } }

/-- A frame has won the line: it waits no more, and a response that was owed is made good. -/
def State.winLine (s : State) (f : HslFrame) : State :=
  { s with hsl := { s.hsl with
      waiting := s.hsl.waiting.erase f
      yieldTo := if f.kind = 2 && s.hsl.yieldTo == some f.ch then none else s.hsl.yieldTo } }

theorem completes_hslArbitration {f : HslFrame} {rest : List HslFrame} (hvar : s.hsl.variant = 1) (hwake : s.hsl.wake = true)
    (hcom : s.comUp = true) (hf : s.hsl.waiting.filter (fun f => f.ep == .loc && s.mayFollow f) = f :: rest) :
    Completes (.hslArbitration true) s (fun t =>
      t.hsl.lostArb = true ∧ t.hsl.waiting = s.hsl.waiting ∧ t.hsl.out = s.hsl.out
      ∧ t.regN (A.hslCtr 7) = (s.regN (A.hslCtr 7) + 1) % 2 ^ 32 ∧ s.sameRegsBut t [A.hslCtr 7] ∧ s.sameMemory t)
    ∧ Completes (.hslArbitration false) s (fun t =>
      t.hsl.out = s.hsl.out ++ [f] ∧ t.hsl.waiting = s.hsl.waiting.erase f
      ∧ t.regN (A.hslCtr 1) = (s.regN (A.hslCtr 1) + 1) % 2 ^ 32 ∧ s.sameRegsBut t [A.hslCtr 1] ∧ s.sameMemory t) := by
  have hexec (host : Bool) : exec (.hslArbitration host) s = .next (
      if host then s.loseLine.count (A.hslCtr 7) else (s.winLine f).emit f) := by
    change execHslArbitration host s = _
    unfold execHslArbitration
    rw [if_neg (by simp [hvar, hwake, hcom]), hf]
    rfl
  refine ⟨⟨_, hexec true, ?_⟩, ⟨_, hexec false, ?_⟩⟩
  · rw [if_pos rfl]
    have h : Tells [A.hslCtr 7] s (s.loseLine.count (A.hslCtr 7)) := (Tells.other (.refl _ s)).count (.head _)
    exact ⟨rfl, rfl, rfl, regN_count_self .., h.regs, h.sameMemory⟩
  · rw [if_neg (by decide)]
    have h : Tells [A.hslCtr 1] s ((s.winLine f).emit f) := (Tells.other (.refl _ s)).emit (.head _)
    exact ⟨rfl, rfl, regN_count_self .., h.regs, h.sameMemory⟩

/-- The settings that the registers hold come into force. -/
def State.applySettings (s : State) : State :=
  { s with hsl := { s.hsl with variant := s.fld F.hslCfgVariant, rate := s.fld F.hslCfgRate, uart := s.regN A.hslUartcfg } }

theorem completes_hslConfigApply (hcom : s.comUp = true) :
    Completes .hslConfigApply s fun t =>
      t.hsl.variant = s.fld F.hslCfgVariant ∧ t.hsl.rate = s.fld F.hslCfgRate ∧ t.hsl.uart = s.regN A.hslUartcfg
      ∧ s.sameMemory t := by
  have hexec : exec .hslConfigApply s = .next s.applySettings.flushWaiting := congrArg Host.Outcome.next (if_pos hcom)
  have hset : s.applySettings.hsl.variant = s.fld F.hslCfgVariant ∧ s.applySettings.hsl.rate = s.fld F.hslCfgRate
      ∧ s.applySettings.hsl.uart = s.regN A.hslUartcfg := ⟨rfl, rfl, rfl⟩
  have hu : Tells [A.hslCtr 1] s s.applySettings := Tells.other (.refl _ s)
  generalize s.applySettings = u at *
  obtain ⟨tun, hhsl⟩ := hsl_flushWaiting u
  refine ⟨_, hexec, ?_, ?_, ?_, (hu.flushWaiting (.head _)).sameMemory⟩
  · rw [hhsl]
    exact hset.1
  · rw [hhsl]
    exact hset.2.1
  · rw [hhsl]
    exact hset.2.2

/-- Settles O42: a frame is taken or counted by what the hunt finds in its bytes; what is sent goes out or waits; the other
steps change the queues they name. -/
theorem hostSerialLink : Obligations.HostSerialLink := by
  unfold Obligations.HostSerialLink
  refine fun s => ⟨?frame, ?rise, completes_hslWake_fall, ?late, ?ack, ?send, ?again, ?host, ?arbitrate, ?apply⟩
  case frame =>
    intro ep kc seq p hep hlen hseq
    exact completes_hslFrame hep hlen hseq
  case rise =>
    intro hlow hcom hrun htrans hmode
    exact completes_hslWake_rise hlow hcom hrun htrans hmode
  case late =>
    intro ep ch q hlast hrun hacked hdue
    exact completes_hslAckTimer hlast hrun hacked hdue
  case ack =>
    intro ep seq hep hne
    exact completes_hslAck hep hne
  case send =>
    intro hup hwin
    exact ⟨fun n hlost hn => completes_noticeSend hup hwin hlost hn,
      fun l hlost hsent hn => completes_noticeSend_lost hup hwin hlost hsent hn⟩
  case again =>
    intro seq n hup hdue
    exact completes_noticeRetransmit hup hdue
  case host =>
    intro o p hlen
    exact ⟨fun ht => completes_hslSync ht hlen, fun ht => completes_hslStatus ht hlen⟩
  case arbitrate =>
    intro f rest hvar hwake hcom hf
    exact completes_hslArbitration hvar hwake hcom hf
  case apply =>
    intro hcom
    exact ⟨completes_hslConfigApply hcom, fun n hn => ⟨_, congrArg Host.Outcome.next (if_pos (by simp [hcom, hn])), rfl⟩⟩

end Sys2Proof.Machine
end

section
/-!
Commands of network time (R307-R329): NTM.CMD, NTM.INCINT and the host's reading and setting of the time.
-/

namespace Sys2Proof.Machine

variable {s t u : State} {o : Origin} {p : List Byte} {w : Word}

/-! ## Bits of a command word -/

theorem bitAt_eq_testBit (n i : Nat) : bitAt n i = n.testBit i := by
  rw [Nat.testBit_eq_decide_div_mod_eq, bitAt, beq_eq_decide]

theorem bitAt_or (n m i : Nat) : bitAt (n ||| m) i = (bitAt n i || bitAt m i) := by
  simp only [bitAt_eq_testBit, Nat.testBit_or]

/-- A field is zero when each of its bits is. -/
theorem bitsOf_eq_zero_iff {n lsb width : Nat} : bitsOf n lsb width = 0 ↔ ∀ i, i < width → bitAt n (lsb + i) = false := by
  have hbit (i : Nat) : (bitsOf n lsb width).testBit i = (decide (i < width) && bitAt n (lsb + i)) := by
    rw [bitsOf, Nat.testBit_mod_two_pow, Nat.testBit_div_two_pow, bitAt_eq_testBit, Nat.add_comm]
  constructor
  · intro h i hi
    have hz := hbit i
    rw [h, Nat.zero_testBit] at hz
    simpa [hi] using hz.symm
  · intro h
    refine Nat.eq_of_testBit_eq fun i => ?_
    rw [hbit, Nat.zero_testBit]
    by_cases hi : i < width
    · simp [h i hi]
    · simp [hi]

/-! ## What NTM.CMD does (R311) -/

/-- Where a source steers NTM, a command that would change it is an error. -/
theorem writeNtmCmd_of_steered {n : Nat} (hsrc : s.fld F.ntmCfgSrc ≠ 0) (hcmd : bitsOf n 1 4 ≠ 0) (hcap : bitAt n 0 = false) :
    s.writeNtmCmd n = s.cmdErr := by
  simp [State.writeNtmCmd, hsrc, hcmd, hcap]

/-- One command alone, with no source selected. -/
theorem writeNtmCmd_of_free {n : Nat} (hsrc : s.fld F.ntmCfgSrc = 0)
    (hone : ¬ 1 < b2n (bitAt n 3) + b2n (bitAt n 2) + b2n (bitAt n 1)) (hcap : bitAt n 0 = false) :
    s.writeNtmCmd n =
      let s := if bitAt n 4 then s.setNtm { s.ntm with slewRem := 0, slew := none, waitSlew := none } else s
      let adj := signedOf 32 (s.regN A.ntmAdj)
      let s := if bitAt n 3 then (s.change (.set (s.pair A.ntmSetlo A.ntmSethi)) none).2 else s
      let s := if bitAt n 2 then (s.change (.step adj) none).2 else s
      if bitAt n 1 then (s.change (.slew .firmware (nsUnits adj)) none).2 else s := by
  unfold State.writeNtmCmd
  simp only [hsrc, hone, hcap, bne_self_eq_false, Bool.false_and, Bool.or_false, decide_false, Bool.false_eq_true, if_false]

theorem exec_ntmCmd_abort (hcom : s.comUp = true) : exec (.ntmAbort false w) s = .next (s.writeNtmCmd (w.toNat ||| 16)) := by
  change guarded false s (if s.comUp then s.writeNtmCmd (w.toNat ||| 16) else s) = _
  rw [if_pos hcom, guarded_machine]

theorem exec_ntmCmd_set (hcom : s.comUp = true) : exec (.ntmSet false w) s = .next (s.writeNtmCmd (w.toNat ||| 8)) := by
  change guarded false s (if s.comUp then s.writeNtmCmd (w.toNat ||| 8) else s) = _
  rw [if_pos hcom, guarded_machine]

theorem exec_ntmCmd_step (hcom : s.comUp = true) : exec (.ntmStep false w) s = .next (s.writeNtmCmd (w.toNat ||| 4)) := by
  change guarded false s (if s.comUp then s.writeNtmCmd (w.toNat ||| 4) else s) = _
  rw [if_pos hcom, guarded_machine]

theorem exec_ntmCmd_slew (hcom : s.comUp = true) : exec (.ntmSlew false w) s = .next (s.writeNtmCmd (w.toNat ||| 2)) := by
  change guarded false s (if s.comUp then s.writeNtmCmd (w.toNat ||| 2) else s) = _
  rw [if_pos hcom, guarded_machine]

theorem exec_ntmCmd_capture (hcom : s.comUp = true) : exec (.ntmCapture false w) s = .next (s.writeNtmCmd (w.toNat ||| 1)) := by
  change guarded false s (if s.comUp then s.writeNtmCmd (w.toNat ||| 1) else s) = _
  rw [if_pos hcom, guarded_machine]

theorem exec_incintWrite (hcom : s.comUp = true) : exec (.incintWrite false w) s = .next (s.writeIncint w) := by
  change guarded false s (if s.comUp then s.writeIncint w else s) = _
  rw [if_pos hcom, guarded_machine]

/-- A command word with one of its five bits set. -/
def OneCommand (n k : Nat) : Prop := ∀ i, i < 5 → bitAt n i = decide (i = k)

theorem oneCommand_or {n k : Nat} (h : ∀ i, i < 5 → i ≠ k → bitAt n i = false) : OneCommand (n ||| 2 ^ k) k := by
  intro i hi
  rw [bitAt_or, bitAt_eq_testBit (2 ^ k), Nat.testBit_two_pow]
  by_cases hk : i = k
  · simp [hk]
  · simp [hk, h i hi hk, Ne.symm hk]

theorem writeNtmCmd_one {n k : Nat} (hn : OneCommand n k) (hsrc : s.fld F.ntmCfgSrc = 0) (hk : 0 < k) (hk5 : k < 5) :
    s.writeNtmCmd n =
      if k = 4 then s.setNtm { s.ntm with slewRem := 0, slew := none, waitSlew := none }
      else if k = 3 then (s.change (.set (s.pair A.ntmSetlo A.ntmSethi)) none).2
      else if k = 2 then (s.change (.step (signedOf 32 (s.regN A.ntmAdj))) none).2
      else (s.change (.slew .firmware (nsUnits (signedOf 32 (s.regN A.ntmAdj)))) none).2 := by
  have h0 := hn 0 (by decide)
  have h1 := hn 1 (by decide)
  have h2 := hn 2 (by decide)
  have h3 := hn 3 (by decide)
  have h4 := hn 4 (by decide)
  obtain rfl | rfl | rfl | rfl : k = 1 ∨ k = 2 ∨ k = 3 ∨ k = 4 := by omega
  all_goals
    rw [writeNtmCmd_of_free hsrc (by rw [h1, h2, h3]; decide) h0, h1, h2, h3, h4]
    simp

theorem writeNtmCmd_set {n : Nat} (hn : OneCommand n 3) (hsrc : s.fld F.ntmCfgSrc = 0) :
    s.writeNtmCmd n = (s.change (.set (s.pair A.ntmSetlo A.ntmSethi)) none).2 :=
  (writeNtmCmd_one hn hsrc (by decide) (by decide)).trans ((if_neg (by decide)).trans (if_pos (by decide)))

theorem writeNtmCmd_step {n : Nat} (hn : OneCommand n 2) (hsrc : s.fld F.ntmCfgSrc = 0) :
    s.writeNtmCmd n = (s.change (.step (signedOf 32 (s.regN A.ntmAdj))) none).2 :=
  (writeNtmCmd_one hn hsrc (by decide) (by decide)).trans
    ((if_neg (by decide)).trans ((if_neg (by decide)).trans (if_pos (by decide))))

theorem writeNtmCmd_slew {n : Nat} (hn : OneCommand n 1) (hsrc : s.fld F.ntmCfgSrc = 0) :
    s.writeNtmCmd n = (s.change (.slew .firmware (nsUnits (signedOf 32 (s.regN A.ntmAdj)))) none).2 :=
  (writeNtmCmd_one hn hsrc (by decide) (by decide)).trans
    ((if_neg (by decide)).trans ((if_neg (by decide)).trans (if_neg (by decide))))

theorem writeNtmCmd_capture {n : Nat} (hn : OneCommand n 0) : s.writeNtmCmd n = s.ntmCapture := by
  have h0 := hn 0 (by decide)
  have h1 := hn 1 (by decide)
  have h2 := hn 2 (by decide)
  have h3 := hn 3 (by decide)
  have h4 := hn 4 (by decide)
  have hnone : bitsOf n 1 4 = 0 := by
    refine bitsOf_eq_zero_iff.2 fun i hi => ?_
    rw [hn (1 + i) (by omega), decide_eq_false (by omega)]
  unfold State.writeNtmCmd
  rw [h0, h1, h2, h3, h4, hnone]
  simp [b2n]

theorem completes_ntmAbort (hcom : s.comUp = true) (hsrc : s.fld F.ntmCfgSrc = 0) (hw : bitsOf w.toNat 0 4 = 0) :
    Completes (.ntmAbort false w) s fun t => t = s.setNtm { s.ntm with slewRem := 0, slew := none, waitSlew := none } := by
  have hn : OneCommand (w.toNat ||| 16) 4 := oneCommand_or (k := 4) fun i hi hne => by
    have h := bitsOf_eq_zero_iff.1 hw i (by omega)
    rwa [Nat.zero_add] at h
  exact ⟨_, exec_ntmCmd_abort hcom, writeNtmCmd_one hn hsrc (by decide) (by decide)⟩

/-! ## A change that is a SET or a step (R311, R312) -/

/-- Nothing waits any more, and all else of the time is as it was. -/
structure Forgotten (s u : State) : Prop where
  ntm : u.ntm = { s.ntm with waiting := none, waitHost := none }
  regs : s.sameRegsBut u [A.hslCtr 1, A.ntmStat]
  rf : u.rf = s.rf
  tb : u.tb = s.tb
  memory : s.sameMemory u

/-- A TIME_SET that waits is answered CANCELLED. -/
def State.cancelWaiting (s : State) : State :=
  match s.ntm.waitHost with
  | some o => (s.setNtm { s.ntm with waitHost := none }).respond o 0x71 .cancelled []
  | none => s

/-- What waits is forgotten. -/
def State.forgetWaiting (s : State) : State :=
  (s.cancelWaiting.setNtm { s.cancelWaiting.ntm with waiting := none }).lower F.ntmStatPend

theorem change_jump (s : State) {c : NtmChange} (host : Option Origin) (hc : ∀ k n, c ≠ .slew k n) :
    s.change c host =
      if s.forgetWaiting.stepDeferred then
        (false, (s.forgetWaiting.setNtm { s.forgetWaiting.ntm with waiting := some c, waitHost := host }).raise F.ntmStatPend)
      else (true, s.forgetWaiting.applyChange c) := by
  cases c with
  | set ns => rfl
  | step ns => rfl
  | slew k n => exact absurd rfl (hc k n)

theorem cancelWaiting_tells (s : State) : Tells [A.hslCtr 1] (s.setNtm { s.ntm with waitHost := none }) s.cancelWaiting := by
  unfold State.cancelWaiting
  split
  · exact (Tells.refl _ _).respond (.head _)
  next hnone =>
    have hsame : ({ s.ntm with waitHost := none } : NtmState) = s.ntm := by rw [← hnone]
    rw [hsame]
    exact .refl _ s

theorem reg_setNtm (s : State) (x : NtmState) (a : Nat) : (s.setNtm x).reg a = s.reg a := rfl

theorem byte_setNtm (s : State) (x : NtmState) (a : Nat) : (s.setNtm x).byte a = s.byte a := rfl

theorem forgotten (s : State) : Forgotten s s.forgetWaiting := by
  have hcancel := cancelWaiting_tells s
  unfold State.forgetWaiting
  generalize s.cancelWaiting = v at hcancel ⊢
  have hntm : v.ntm = { s.ntm with waitHost := none } := hcancel.ntm
  have hrf : v.rf = s.rf := hcancel.rf
  have htb : v.tb = s.tb := hcancel.tb
  have hlower : WritesOnly [A.ntmStat] (v.setNtm { v.ntm with waiting := none })
      ((v.setNtm { v.ntm with waiting := none }).lower F.ntmStatPend) := (WritesOnly.refl _ _).lower (.head _)
  have hset : (v.setNtm { v.ntm with waiting := none }).ntm = { s.ntm with waiting := none, waitHost := none } := by
    change ({ v.ntm with waiting := none } : NtmState) = _
    rw [hntm]
  have hrf' : (v.setNtm { v.ntm with waiting := none }).rf = s.rf := hrf
  have htb' : (v.setNtm { v.ntm with waiting := none }).tb = s.tb := htb
  have hreg (a : Nat) (ha : a ≠ A.hslCtr 1) : (v.setNtm { v.ntm with waiting := none }).reg a = s.reg a := by
    rw [reg_setNtm, hcancel.regs a (mt List.mem_singleton.1 ha), reg_setNtm]
  have hbyte (a : Nat) : (v.setNtm { v.ntm with waiting := none }).byte a = s.byte a := by
    rw [byte_setNtm, hcancel.sameMemory a, byte_setNtm]
  generalize v.setNtm { v.ntm with waiting := none } = x at *
  refine ⟨by rw [hlower.rest]; exact hset, fun a ha => ?_, by rw [hlower.rest]; exact hrf', by rw [hlower.rest]; exact htb',
    fun a => (hlower.sameMemory a).trans (hbyte a)⟩
  simp only [List.mem_cons, List.not_mem_nil, or_false, not_or] at ha
  exact (hlower.regs a (mt List.mem_singleton.1 ha.2)).trans (hreg a ha.1)

theorem Forgotten.regN (h : Forgotten s u) {a : Nat} (ha : a ∉ [A.hslCtr 1, A.ntmStat]) : u.regN a = s.regN a :=
  congrArg BitVec.toNat (h.regs a ha)

theorem Forgotten.stepDeferred (h : Forgotten s u) : u.stepDeferred = s.stepDeferred := by
  have hswap : u.fld F.brdSwapstatState = s.fld F.brdSwapstatState := fld_eq_of_regN (h.regN (by decide))
  unfold State.stepDeferred State.stampInFlight
  rw [h.rf, h.tb, hswap]

/-! ## A jump that is applied (R311, R315) -/

theorem applyChange_set (s : State) (n : Nat) : s.applyChange (.set n) = s.applySet (wrap64 n * 2 ^ 32) := rfl

theorem applyChange_step (s : State) (n : Int) :
    s.applyChange (.step n) = s.applySet (ntmWrap ((s.ntm.time : Int) + nsUnits n)) := rfl

theorem step_fireRound (s : State) : s.fireRound.flag F.ntmIntstatStep = s.flag F.ntmIntstatStep := by
  unfold State.fireRound
  extract_lets v w y x
  have hpulse : KeepsTime s (s.evPulse 0x0F0).fireSlot := (KeepsTime.refl s).evPulse.fireSlot
  have hw : KeepsTime v w := (KeepsTime.refl v).irqPulse
  have hx : KeepsTime x (if x.flag F.snpCtlRounden then (x.snapshot x.tb.now).2 else x) :=
    .ite (KeepsTime.refl x).snapshot (.refl x)
  rw [hx.flag, show x.flag F.ntmIntstatStep = w.flag F.ntmIntstatStep from rfl, hw.flag, ← hpulse.flag]
  exact flag_raise_of_apart _ (by decide) (by decide)

/-- What a jump leaves beside the time and the round. -/
structure Jumped (s t : State) : Prop where
  setOnce : t.ntm.setOnce = s.ntm.setOnce
  slewRem : t.ntm.slewRem = s.ntm.slewRem
  step : t.flag F.ntmIntstatStep = s.flag F.ntmIntstatStep

theorem jumped_roundsAfterChange (s : State) : Jumped s s.roundsAfterChange := by
  have hfire {u : State} (hu : Jumped s u) : Jumped s u.fireRound := by
    have hf := roundFired_fireRound u
    exact ⟨(congrArg NtmState.setOnce hf.ntm).trans hu.setOnce, (congrArg NtmState.slewRem hf.ntm).trans hu.slewRem,
      (step_fireRound u).trans hu.step⟩
  have hround (n slot : Nat) : Jumped s (s.setRound n slot) := by
    have hw : WritesOnly [A.ntmRound0, A.ntmRound1] s (s.setPair A.ntmRound0 A.ntmRound1 (wrap64 n)) :=
      ((WritesOnly.refl _ s).setRegN).setRegN
    exact ⟨rfl, rfl, hw.flag (by decide)⟩
  have hcount {u : State} (hu : Jumped s u) (n : Nat) : Jumped s (u.countBy (A.ntmCtr 3) n) :=
    ⟨hu.setOnce, hu.slewRem, (flag_eq_of_regN (State.regN_setRegN_ne u _ (by decide))).trans hu.step⟩
  have hslot {u : State} (hu : Jumped s u) : Jumped s u.fireSlot := by
    have hk : KeepsTime u u.fireSlot := (KeepsTime.refl u).fireSlot
    exact ⟨by rw [hk.ntm, hu.setOnce], by rw [hk.ntm, hu.slewRem], hk.flag.trans hu.step⟩
  have h0 : Jumped s s := ⟨rfl, rfl, rfl⟩
  unfold State.roundsAfterChange
  extract_lets ns n q u x k y
  have hu : Jumped s u := hround ..
  clear_value u k n
  split
  · exact hfire (hcount (hround ..) _)
  · split
    · exact hfire ⟨hu.setOnce, hu.slewRem, hu.step⟩
    · split
      · exact hslot ⟨rfl, rfl, rfl⟩
      · exact h0

theorem jumped_afterSet (s : State) : Jumped s s.afterSet := by
  have hround := jumped_roundsAfterChange s
  have hsource := sourced_refreshSource s.roundsAfterChange
  obtain ⟨m, q, hntm⟩ := hsource.ntm
  have hstate : KeepsTime s.roundsAfterChange.refreshSource s.afterSet := (KeepsTime.refl _).timeState
  refine ⟨?_, ?_, ?_⟩
  · rw [hstate.ntm, hntm]
    exact hround.setOnce
  · rw [hstate.ntm, hntm]
    exact hround.slewRem
  · rw [hstate.flag, flag_eq_of_regN (congrArg BitVec.toNat (hsource.reg F.ntmIntstatStep.addr (by decide) (by decide)))]
    exact hround.step

/-- The round after a jump beyond the present one is that of the time (R315). -/
theorem round_afterSet {s : State} (h : s.ntmRound < s.ntmNs / 1000000000) :
    s.afterSet.ntmRound = s.ntmNs / 1000000000 % 2 ^ 64 := by
  have hjump : s.roundsAfterChange = ((s.setRound (s.ntmNs / 1000000000) (s.ntmNs / 1000000000 * 1000000000)).countBy (A.ntmCtr 3)
      (s.ntmNs / 1000000000 - s.ntmRound - 1)).fireRound := by
    unfold State.roundsAfterChange
    exact if_pos h
  have hsource := sourced_refreshSource s.roundsAfterChange
  have hstate : KeepsTime s.roundsAfterChange.refreshSource s.afterSet := (KeepsTime.refl _).timeState
  have hround : s.roundsAfterChange.ntmRound = s.ntmNs / 1000000000 % 2 ^ 64 := by
    have hset := ntmRound_setRound s (s.ntmNs / 1000000000) (s.ntmNs / 1000000000 * 1000000000)
    rw [hjump]
    generalize s.setRound (s.ntmNs / 1000000000) (s.ntmNs / 1000000000 * 1000000000) = u at hset ⊢
    have hcount : WritesOnly [A.ntmCtr 3] u (u.countBy (A.ntmCtr 3) (s.ntmNs / 1000000000 - s.ntmRound - 1)) :=
      (WritesOnly.refl _ u).setRegN (.head _)
    generalize u.countBy (A.ntmCtr 3) (s.ntmNs / 1000000000 - s.ntmRound - 1) = v at hcount ⊢
    have hfired := roundFired_fireRound v
    rw [ntmRound_congr (hfired.reg _ (by decide) (by decide)) (hfired.reg _ (by decide) (by decide)),
      ntmRound_congr (hcount.regs _ (by decide)) (hcount.regs _ (by decide))]
    exact hset
  rw [ntmRound_congr (hstate.reg _ (by decide)) (hstate.reg _ (by decide)),
    ntmRound_congr (hsource.reg _ (by decide) (by decide)) (hsource.reg _ (by decide) (by decide))]
  exact hround

theorem ctr_afterSet (s : State) : s.afterSet.regN (A.ntmCtr 2) = s.regN (A.ntmCtr 2) := by
  have hround := keepsClock_roundsAfterChange s
  have hsource := sourced_refreshSource s.roundsAfterChange
  have hstate : KeepsTime s.roundsAfterChange.refreshSource s.afterSet := (KeepsTime.refl _).timeState
  rw [hstate.regN, State.regN, hsource.reg _ (by decide) (by decide)]
  exact hround.regN

/-- NTM has jumped to a time. -/
structure JumpMade (s : State) (n : Nat) (t : State) : Prop where
  time : t.ntm.time = n
  slewRem : t.ntm.slewRem = s.ntm.slewRem
  setOnce : t.ntm.setOnce = true
  step : t.flag F.ntmIntstatStep = true
  valid : t.flag F.ntmStatValid = true
  ctr : t.regN (A.ntmCtr 2) = (s.regN (A.ntmCtr 2) + 1) % 2 ^ 32
  round : s.ntmRound < n / 2 ^ 32 / 1000000000 → t.ntmRound = n / 2 ^ 32 / 1000000000 % 2 ^ 64
  memory : s.sameMemory t

theorem step_setFlags (s : State) : s.setFlags.flag F.ntmIntstatStep = true := by
  have hw : WritesOnly [A.ntmCtr 2, A.ntmStat] (s.raise F.ntmIntstatStep) s.setFlags :=
    ((WritesOnly.refl _ (s.raise F.ntmIntstatStep)).count (by decide)).raise
  exact (hw.flag (by decide)).trans (flag_raise_at s)

theorem ctr_setFlags (s : State) : s.setFlags.regN (A.ntmCtr 2) = (s.regN (A.ntmCtr 2) + 1) % 2 ^ 32 := by
  unfold State.setFlags
  rw [regN_raise_ne _ (f := F.ntmStatValid) (by decide), regN_count_self, regN_raise_ne s (f := F.ntmIntstatStep) (by decide)]

theorem applySet_jumps (s : State) (n : Nat) : JumpMade s n (s.applySet n) := by
  obtain ⟨htime, -, -, -, hvalid, hmem⟩ := applySet_shows s n
  have hset : (s.setNtm { s.ntm with time := n, setOnce := true }).ntm = { s.ntm with time := n, setOnce := true } := rfl
  have hreg := reg_setNtm s { s.ntm with time := n, setOnce := true }
  rw [applySet_eq] at htime hvalid hmem ⊢
  generalize s.setNtm { s.ntm with time := n, setOnce := true } = v at hset hreg htime hvalid hmem ⊢
  have hflags := writesOnly_setFlags v
  have hstep := step_setFlags v
  have hctr : v.setFlags.regN (A.ntmCtr 2) = (s.regN (A.ntmCtr 2) + 1) % 2 ^ 32 := by
    rw [ctr_setFlags, State.regN, hreg, State.regN]
  have hntm : v.setFlags.ntm = { s.ntm with time := n, setOnce := true } := by
    rw [hflags.rest]
    exact hset
  have hround : v.setFlags.ntmRound = s.ntmRound :=
    ntmRound_congr ((hflags.regs _ (by decide)).trans (hreg _)) ((hflags.regs _ (by decide)).trans (hreg _))
  generalize v.setFlags = u at *
  have hjump := jumped_afterSet u
  have hns : u.ntmNs = n / 2 ^ 32 := by rw [State.ntmNs, hntm]
  refine ⟨htime, ?_, ?_, hjump.step.trans hstep, hvalid, (ctr_afterSet u).trans hctr, fun h => ?_, hmem⟩
  · rw [hjump.slewRem, hntm]
  · rw [hjump.setOnce, hntm]
  · rw [← hns] at h ⊢
    exact round_afterSet (by rw [hround]; exact h)

theorem JumpMade.forgotten {n : Nat} (h : JumpMade u n t) (hu : Forgotten s u) : JumpMade s n t where
  time := h.time
  slewRem := by rw [h.slewRem, hu.ntm]
  setOnce := h.setOnce
  step := h.step
  valid := h.valid
  ctr := by rw [h.ctr, hu.regN (by decide)]
  round hr := h.round (by rw [ntmRound_congr (hu.regs _ (by decide)) (hu.regs _ (by decide))]; exact hr)
  memory a := (h.memory a).trans (hu.memory a)

/-- A SET or step that nothing defers is made at once (R311, R312). -/
theorem change_now {c : NtmChange} (host : Option Origin) (hc : ∀ k n, c ≠ .slew k n) (hd : s.stepDeferred = false) :
    s.change c host = (true, s.forgetWaiting.applyChange c) := by
  rw [change_jump s host hc, if_neg (by rw [(forgotten s).stepDeferred, hd]; decide)]

/-- A change waits. -/
structure Waits (s : State) (c : NtmChange) (host : Option Origin) (t : State) : Prop where
  time : t.ntm.time = s.ntm.time
  waiting : t.ntm.waiting = some c
  waitHost : t.ntm.waitHost = host
  pend : t.flag F.ntmStatPend = true
  memory : s.sameMemory t

theorem waits_setNtm (u : State) (c : NtmChange) (host : Option Origin) :
    Waits u c host ((u.setNtm { u.ntm with waiting := some c, waitHost := host }).raise F.ntmStatPend) := by
  have hbyte := byte_setNtm u { u.ntm with waiting := some c, waitHost := host }
  have hset : (u.setNtm { u.ntm with waiting := some c, waitHost := host }).ntm =
    { u.ntm with waiting := some c, waitHost := host } := rfl
  generalize u.setNtm { u.ntm with waiting := some c, waitHost := host } = v at hset hbyte ⊢
  have hraise : WritesOnly [A.ntmStat] v (v.raise F.ntmStatPend) := (WritesOnly.refl _ v).raise (.head _)
  have hntm : (v.raise F.ntmStatPend).ntm = { u.ntm with waiting := some c, waitHost := host } := by
    rw [hraise.rest]
    exact hset
  exact ⟨by rw [hntm], by rw [hntm], by rw [hntm], flag_raise_at v, fun a => (hraise.sameMemory a).trans (hbyte a)⟩

/-- A SET or step that is deferred waits (R312). -/
theorem change_later {c : NtmChange} (host : Option Origin) (hc : ∀ k n, c ≠ .slew k n) (hd : s.stepDeferred = true) :
    ∃ v, s.change c host = (false, v) ∧ Waits s c host v := by
  have hf := forgotten s
  have hd' : s.forgetWaiting.stepDeferred = true := hf.stepDeferred.trans hd
  have hw := waits_setNtm s.forgetWaiting c host
  refine ⟨_, (change_jump s host hc).trans (if_pos hd'), ?_, hw.waiting, hw.waitHost, hw.pend,
    fun a => (hw.memory a).trans (hf.memory a)⟩
  rw [hw.time, hf.ntm]

theorem pair_lt (s : State) (lo hi : Nat) : s.pair lo hi < 2 ^ 64 := by
  have hl : s.regN lo < 2 ^ 32 := (s.reg lo).isLt
  have hh : s.regN hi < 2 ^ 32 := (s.reg hi).isLt
  unfold State.pair
  omega

/-! ## The commands of NTM.CMD (R311) -/

theorem completes_ntmSet (hcom : s.comUp = true) (hsrc : s.fld F.ntmCfgSrc = 0) (hlow : bitsOf w.toNat 0 3 = 0)
    (hhigh : bitAt w.toNat 4 = false) :
    let v := s.pair A.ntmSetlo A.ntmSethi
    (s.stepDeferred = false →
      Completes (.ntmSet false w) s fun t =>
        t.ntm.time = v * 2 ^ 32 ∧ t.ntm.slewRem = s.ntm.slewRem ∧ t.ntm.setOnce = true
        ∧ t.flag F.ntmIntstatStep = true ∧ t.flag F.ntmStatValid = true
        ∧ t.regN (A.ntmCtr 2) = (s.regN (A.ntmCtr 2) + 1) % 2 ^ 32
        ∧ (s.ntmRound < v / 1000000000 → t.ntmRound = v / 1000000000) ∧ s.sameMemory t)
    ∧ (s.stepDeferred = true →
      Completes (.ntmSet false w) s fun t =>
        t.ntm.time = s.ntm.time ∧ t.ntm.waiting = some (.set v) ∧ t.ntm.waitHost = none
        ∧ t.flag F.ntmStatPend = true ∧ s.sameMemory t) := by
  intro v
  have hn : OneCommand (w.toNat ||| 8) 3 := oneCommand_or (k := 3) fun i hi hne => by
    have h := bitsOf_eq_zero_iff.1 hlow i
    rw [Nat.zero_add] at h
    obtain h' | rfl : i < 3 ∨ i = 4 := by omega
    · exact h h'
    · exact hhigh
  have hexec : exec (.ntmSet false w) s = .next (s.change (.set v) none).2 := by
    rw [exec_ntmCmd_set hcom, writeNtmCmd_set hn hsrc]
  have hv : v < 2 ^ 64 := pair_lt ..
  clear_value v
  refine ⟨fun hd => ?_, fun hd => ?_⟩
  · rw [change_now none (by intro k n h; cases h) hd] at hexec
    have hjump : JumpMade s (wrap64 v * 2 ^ 32) (s.forgetWaiting.applyChange (.set v)) := by
      rw [applyChange_set]
      exact (applySet_jumps ..).forgotten (forgotten s)
    have hround := hjump.round
    rw [wrap64, Nat.mod_eq_of_lt hv, Nat.mul_div_cancel _ (by decide)] at hround
    refine ⟨_, hexec, ?_, hjump.slewRem, hjump.setOnce, hjump.step, hjump.valid, hjump.ctr, fun h => ?_, hjump.memory⟩
    · rw [hjump.time, wrap64, Nat.mod_eq_of_lt hv]
    · rw [hround h, Nat.mod_eq_of_lt (Nat.lt_of_le_of_lt (Nat.div_le_self ..) hv)]
  · obtain ⟨u, hu, hpost⟩ := change_later (s := s) (c := .set v) none (by intro k n h; cases h) hd
    rw [hu] at hexec
    exact ⟨u, hexec, hpost.time, hpost.waiting, hpost.waitHost, hpost.pend, hpost.memory⟩

theorem completes_ntmStep (hcom : s.comUp = true) (hsrc : s.fld F.ntmCfgSrc = 0) (hlow : bitsOf w.toNat 0 2 = 0)
    (hhigh : bitsOf w.toNat 3 2 = 0) (hd : s.stepDeferred = false) :
    Completes (.ntmStep false w) s fun t =>
      t.ntm.time = ntmWrap ((s.ntm.time : Int) + nsUnits (signedOf 32 (s.regN A.ntmAdj)))
      ∧ t.ntm.slewRem = s.ntm.slewRem ∧ t.flag F.ntmIntstatStep = true ∧ t.flag F.ntmStatValid = true
      ∧ t.regN (A.ntmCtr 2) = (s.regN (A.ntmCtr 2) + 1) % 2 ^ 32 ∧ s.sameMemory t := by
  have hn : OneCommand (w.toNat ||| 4) 2 := oneCommand_or (k := 2) fun i hi hne => by
    obtain rfl | rfl | rfl | rfl : i = 0 ∨ i = 1 ∨ i = 3 ∨ i = 4 := by omega
    · exact bitsOf_eq_zero_iff.1 hlow 0 (by decide)
    · exact bitsOf_eq_zero_iff.1 hlow 1 (by decide)
    · exact bitsOf_eq_zero_iff.1 hhigh 0 (by decide)
    · exact bitsOf_eq_zero_iff.1 hhigh 1 (by decide)
  have hexec : exec (.ntmStep false w) s = .next (s.change (.step (signedOf 32 (s.regN A.ntmAdj))) none).2 := by
    rw [exec_ntmCmd_step hcom, writeNtmCmd_step hn hsrc]
  rw [change_now none (by intro k n h; cases h) hd] at hexec
  have hf := forgotten s
  have hjump : JumpMade s (ntmWrap ((s.forgetWaiting.ntm.time : Int) + nsUnits (signedOf 32 (s.regN A.ntmAdj))))
      (s.forgetWaiting.applyChange (.step (signedOf 32 (s.regN A.ntmAdj)))) := by
    rw [applyChange_step]
    exact (applySet_jumps ..).forgotten hf
  refine ⟨_, hexec, ?_, hjump.slewRem, hjump.step, hjump.valid, hjump.ctr, hjump.memory⟩
  rw [hjump.time, hf.ntm]

theorem completes_ntmSlew (hcom : s.comUp = true) (hsrc : s.fld F.ntmCfgSrc = 0) (hlow : bitAt w.toNat 0 = false)
    (hhigh : bitsOf w.toNat 2 3 = 0) (hfree : s.stampInFlight = false) :
    Completes (.ntmSlew false w) s fun t =>
      t.ntm.slewRem = nsUnits (signedOf 32 (s.regN A.ntmAdj)) ∧ t.ntm.time = s.ntm.time
      ∧ (signedOf 32 (s.regN A.ntmAdj) ≠ 0 → t.ntm.slew = some .firmware)
      ∧ s.sameRegsBut t [] ∧ s.sameMemory t := by
  have hn : OneCommand (w.toNat ||| 2) 1 := oneCommand_or (k := 1) fun i hi hne => by
    obtain rfl | rfl | rfl | rfl : i = 0 ∨ i = 2 ∨ i = 3 ∨ i = 4 := by omega
    · exact hlow
    · exact bitsOf_eq_zero_iff.1 hhigh 0 (by decide)
    · exact bitsOf_eq_zero_iff.1 hhigh 1 (by decide)
    · exact bitsOf_eq_zero_iff.1 hhigh 2 (by decide)
  have hexec : exec (.ntmSlew false w) s =
      .next (s.change (.slew .firmware (nsUnits (signedOf 32 (s.regN A.ntmAdj)))) none).2 := by
    rw [exec_ntmCmd_slew hcom, writeNtmCmd_slew hn hsrc]
  rw [change_slew_of_free _ _ _ hfree] at hexec
  refine ⟨_, hexec, rfl, rfl, fun hne => if_neg ?_, fun _ _ => rfl, fun _ => rfl⟩
  unfold nsUnits
  omega

theorem completes_incintWrite (hcom : s.comUp = true) (hsrc : s.fld F.ntmCfgSrc = 0) :
    let inc := bitsOf w.toNat 0 8 * 2 ^ 32 + s.regN A.ntmIncfrac
    incMin ≤ inc → inc ≤ incMax →
    Completes (.incintWrite false w) s fun t =>
      t.ntm.inc = inc ∧ t.ntm.time = s.ntm.time ∧ t.regN A.ntmIncint = bitsOf w.toNat 0 8
      ∧ t.regN A.ntmIncfrac = s.regN A.ntmIncfrac ∧ s.sameRegsBut t [A.ntmIncint, A.ntmIncfrac] ∧ s.sameMemory t := by
  intro inc hmin hmax
  have hfrac : s.regN A.ntmIncfrac < 2 ^ 32 := (s.reg A.ntmIncfrac).isLt
  have hbyte : bitsOf w.toNat 0 8 < 2 ^ 8 := Nat.mod_lt _ (by decide)
  have hinc : inc / 2 ^ 32 = bitsOf w.toNat 0 8 ∧ inc % 2 ^ 32 = s.regN A.ntmIncfrac := by
    unfold inc
    omega
  have hexec : exec (.incintWrite false w) s = .next (s.setInc inc) := by
    have hrange : (decide (incMin ≤ inc) && decide (inc ≤ incMax)) = true := by simp [hmin, hmax]
    rw [exec_incintWrite hcom, State.writeIncint]
    rw [if_neg (by simp [hsrc])]
    exact congrArg Host.Outcome.next (if_pos hrange)
  clear_value inc
  refine ⟨_, hexec, ?_⟩
  have hw : WritesOnly [A.ntmIncint, A.ntmIncfrac] (s.setNtm { s.ntm with inc := inc }) (s.setInc inc) :=
    ((WritesOnly.refl _ _).setRegN).setRegN
  have hint : (s.setInc inc).regN A.ntmIncint = inc / 2 ^ 32 % 2 ^ 32 := by
    unfold State.setInc
    rw [State.regN_setRegN_ne _ _ (by decide), State.regN_setRegN_self]
  have hfr : (s.setInc inc).regN A.ntmIncfrac = inc % 2 ^ 32 % 2 ^ 32 := State.regN_setRegN_self ..
  refine ⟨rfl, rfl, ?_, ?_, fun a ha => (hw.regs a ha).trans (reg_setNtm ..), fun a => (hw.sameMemory a).trans (byte_setNtm ..)⟩
  · rw [hint, hinc.1, Nat.mod_eq_of_lt (by omega)]
  · rw [hfr, hinc.2, Nat.mod_eq_of_lt hfrac]

/-- A source steers NTM: every command but CAPTURE is an error (R311). -/
theorem completes_steered (hcom : s.comUp = true) (hsrc : s.fld F.ntmCfgSrc ≠ 0) (hw : bitAt w.toNat 0 = false) {c : Instr}
    (hc : c ∈ [Instr.ntmAbort false w, .ntmSet false w, .ntmStep false w, .ntmSlew false w, .incintWrite false w]) :
    Completes c s fun t =>
      t.ntm = s.ntm ∧ t.flag F.ntmIntstatCmderr = true ∧ s.sameRegsBut t [A.ntmIntstat] ∧ s.sameMemory t := by
  have herr : s.cmdErr.ntm = s.ntm ∧ s.cmdErr.flag F.ntmIntstatCmderr = true ∧ s.sameRegsBut s.cmdErr [A.ntmIntstat]
      ∧ s.sameMemory s.cmdErr := by
    have h : WritesOnly [A.ntmIntstat] s s.cmdErr := (WritesOnly.refl _ s).raise (.head _)
    exact ⟨by rw [h.rest], flag_raise_at s, h.regs, h.sameMemory⟩
  have hcmd {k : Nat} (hk : 0 < k) (hk5 : k < 5) : s.writeNtmCmd (w.toNat ||| 2 ^ k) = s.cmdErr := by
    have hbit (i : Nat) : bitAt (w.toNat ||| 2 ^ k) i = (bitAt w.toNat i || decide (k = i)) := by
      rw [bitAt_or, bitAt_eq_testBit (2 ^ k), Nat.testBit_two_pow]
    refine writeNtmCmd_of_steered hsrc (fun h => ?_) ?_
    · have h := bitsOf_eq_zero_iff.1 h (k - 1) (by omega)
      rw [hbit, show 1 + (k - 1) = k by omega] at h
      simp at h
    · rw [hbit, hw, decide_eq_false (by omega)]
      rfl
  simp only [List.mem_cons, List.not_mem_nil, or_false] at hc
  rcases hc with rfl | rfl | rfl | rfl | rfl
  · exact ⟨_, (exec_ntmCmd_abort hcom).trans (congrArg _ (hcmd (k := 4) (by decide) (by decide))), herr⟩
  · exact ⟨_, (exec_ntmCmd_set hcom).trans (congrArg _ (hcmd (k := 3) (by decide) (by decide))), herr⟩
  · exact ⟨_, (exec_ntmCmd_step hcom).trans (congrArg _ (hcmd (k := 2) (by decide) (by decide))), herr⟩
  · exact ⟨_, (exec_ntmCmd_slew hcom).trans (congrArg _ (hcmd (k := 1) (by decide) (by decide))), herr⟩
  · refine ⟨_, (exec_incintWrite hcom).trans (congrArg _ (if_pos ?_)), herr⟩
    simpa using hsrc

/-! ## Captures (R310, R329) -/

/-- What a capture shows, of one tick. -/
structure NtmCaptured (s t : State) : Prop where
  writes : WritesOnly [A.ntmCapns0, A.ntmCapns1, A.ntmCapfrac, A.ntmCaptmb0, A.ntmCaptmb1] s t
  ns : t.pair A.ntmCapns0 A.ntmCapns1 = s.ntmNs % 2 ^ 64
  frac : t.regN A.ntmCapfrac = s.ntm.time % 2 ^ 32
  tmb : t.pair A.ntmCaptmb0 A.ntmCaptmb1 = s.tb.now % 2 ^ 64

theorem setPair_shows (s : State) {lo hi : Nat} (n : Nat) (hne : lo ≠ hi) :
    (s.setPair lo hi n).pair lo hi = n % 2 ^ 64 ∧ ∀ a, a ≠ lo → a ≠ hi → (s.setPair lo hi n).regN a = s.regN a := by
  have hlo : (s.setPair lo hi n).regN lo = n % 2 ^ 32 := by
    unfold State.setPair
    rw [State.regN_setRegN_ne _ _ hne, State.regN_setRegN_self, Nat.mod_mod]
  have hhi : (s.setPair lo hi n).regN hi = n / 2 ^ 32 % 2 ^ 32 := by
    unfold State.setPair
    rw [State.regN_setRegN_self, Nat.mod_mod]
  refine ⟨?_, fun a h h' => (State.regN_setRegN_ne _ _ h').trans (State.regN_setRegN_ne _ _ h)⟩
  rw [State.pair, hlo, hhi]
  omega

theorem ntmCapture_captures (s : State) : NtmCaptured s s.ntmCapture := by
  have hw : WritesOnly [A.ntmCapns0, A.ntmCapns1, A.ntmCapfrac, A.ntmCaptmb0, A.ntmCaptmb1] s s.ntmCapture :=
    (((((WritesOnly.refl _ s).setRegN).setRegN).setRegN).setRegN).setRegN
  unfold State.ntmCapture at hw ⊢
  dsimp only at hw ⊢
  obtain ⟨hns, -⟩ := setPair_shows s (lo := A.ntmCapns0) (hi := A.ntmCapns1) s.ntmNs (by decide)
  have htb : (s.setPair A.ntmCapns0 A.ntmCapns1 s.ntmNs).tb = s.tb ∧ (s.setPair A.ntmCapns0 A.ntmCapns1 s.ntmNs).ntm = s.ntm :=
    ⟨rfl, rfl⟩
  obtain ⟨htb, hntm⟩ := htb
  generalize s.setPair A.ntmCapns0 A.ntmCapns1 s.ntmNs = u at *
  rw [htb, hntm] at hw ⊢
  have hfrac : (u.setRegN A.ntmCapfrac (s.ntm.time % 2 ^ 32)).regN A.ntmCapfrac = s.ntm.time % 2 ^ 32 % 2 ^ 32 :=
    State.regN_setRegN_self ..
  have hkept (a : Nat) (ha : a ≠ A.ntmCapfrac) : (u.setRegN A.ntmCapfrac (s.ntm.time % 2 ^ 32)).regN a = u.regN a :=
    State.regN_setRegN_ne u _ ha
  generalize u.setRegN A.ntmCapfrac (s.ntm.time % 2 ^ 32) = v at *
  obtain ⟨htmb, hbeside⟩ := setPair_shows v (lo := A.ntmCaptmb0) (hi := A.ntmCaptmb1) s.tb.now (by decide)
  refine ⟨hw, ?_, ?_, htmb⟩
  · rw [State.pair, hbeside _ (by decide) (by decide), hbeside _ (by decide) (by decide), hkept _ (by decide), hkept _ (by decide)]
    exact hns
  · rw [hbeside _ (by decide) (by decide), hfrac, Nat.mod_mod]

theorem completes_ntmCapture (hcom : s.comUp = true) (hw : bitsOf w.toNat 1 4 = 0) :
    Completes (.ntmCapture false w) s fun t =>
      t.pair A.ntmCapns0 A.ntmCapns1 = s.ntmNs % 2 ^ 64 ∧ t.regN A.ntmCapfrac = s.ntm.time % 2 ^ 32
      ∧ t.pair A.ntmCaptmb0 A.ntmCaptmb1 = s.tb.now % 2 ^ 64 ∧ t.ntm = s.ntm
      ∧ s.sameRegsBut t [A.ntmCapns0, A.ntmCapns1, A.ntmCapfrac, A.ntmCaptmb0, A.ntmCaptmb1] ∧ s.sameMemory t := by
  have hn : OneCommand (w.toNat ||| 1) 0 := oneCommand_or (k := 0) fun i hi hne => by
    have h := bitsOf_eq_zero_iff.1 hw (i - 1) (by omega)
    rwa [show 1 + (i - 1) = i by omega] at h
  have hcap := ntmCapture_captures s
  refine ⟨_, (exec_ntmCmd_capture hcom).trans (congrArg _ (writeNtmCmd_capture hn)), hcap.ns, hcap.frac, hcap.tmb, ?_,
    hcap.writes.regs, hcap.writes.sameMemory⟩
  rw [hcap.writes.rest]

/-! ## The host's reading and setting (R329) -/

theorem ntm_respond (s : State) (o : Origin) (code : Nat) (st : Status) (rest : List Byte) : (s.respond o code st rest).ntm = s.ntm := by
  obtain ⟨x, y, h⟩ := respond_eq s o code st rest
  rw [h]

theorem ntm_taking (s : State) (o : Origin) : (s.taking o).ntm = s.ntm := by
  obtain ⟨x, y, h⟩ := taking_eq s o
  rw [h]

theorem tb_taking (s : State) (o : Origin) : (s.taking o).tb = s.tb := by
  obtain ⟨x, y, h⟩ := taking_eq s o
  rw [h]

theorem ntmRound_of_regN (h0 : t.regN A.ntmRound0 = s.regN A.ntmRound0) (h1 : t.regN A.ntmRound1 = s.regN A.ntmRound1) :
    t.ntmRound = s.ntmRound := by
  unfold State.ntmRound State.pair
  rw [h0, h1]

/-- NTM.STAT as it is read comes from the register, the slew and the clock that runs. -/
theorem ntmStat_congr (hreg : t.regN A.ntmStat = s.regN A.ntmStat) (hntm : t.ntm = s.ntm) (htb : t.tb = s.tb) :
    t.ntmStat = s.ntmStat := by
  have hslew : (t.setFld F.ntmStatSlewing (b2n (t.ntm.slewRem != 0))).regN A.ntmStat
      = (s.setFld F.ntmStatSlewing (b2n (s.ntm.slewRem != 0))).regN A.ntmStat := by
    rw [show A.ntmStat = F.ntmStatSlewing.addr from rfl, State.regN_setFld t _ _ (by decide),
      State.regN_setFld s _ _ (by decide), hntm, show F.ntmStatSlewing.addr = A.ntmStat from rfl, hreg]
  unfold State.ntmStat
  rw [htb]
  generalize t.setFld F.ntmStatSlewing (b2n (t.ntm.slewRem != 0)) = t' at *
  generalize s.setFld F.ntmStatSlewing (b2n (s.ntm.slewRem != 0)) = s' at *
  rw [show A.ntmStat = F.ntmStatLfrun.addr from rfl, State.regN_setFld t' _ _ (by decide),
    State.regN_setFld s' _ _ (by decide), show F.ntmStatLfrun.addr = A.ntmStat from rfl, hslew]

theorem completes_timeGet (ht : s.takes o 0x70 p) (hp : p.length = 0) :
    Completes (.timeGet o p) s fun t =>
      t.responded o (rspPayload 0x70 .ok (leBytes 8 (s.ntmNs % 2 ^ 64) ++ leBytes 8 (s.tb.now % 2 ^ 64)
        ++ leBytes 8 s.ntmRound ++ leBytes 4 s.ntmStat ++ leBytes 4 (s.regN A.ntmSyncerr)
        ++ leBytes 4 (s.regN A.ntmMesherr))) ∧ t.ntm = s.ntm ∧ s.sameMemory t := by
  have hcap := ntmCapture_captures (s.taking o)
  have hreg {a : Nat} (ha : a ∉ [A.ntmCapns0, A.ntmCapns1, A.ntmCapfrac, A.ntmCaptmb0, A.ntmCaptmb1]) (h0 : a ≠ A.hslCtr 0) :
      (s.taking o).ntmCapture.regN a = s.regN a := by
    rw [State.regN, hcap.writes.regs a ha]
    exact regN_taking_ne s o h0
  have hntm : (s.taking o).ntmCapture.ntm = s.ntm := by rw [hcap.writes.rest]; exact ntm_taking s o
  have htb : (s.taking o).ntmCapture.tb = s.tb := by rw [hcap.writes.rest]; exact tb_taking s o
  have hmem : s.sameMemory (s.taking o).ntmCapture := fun a => (hcap.writes.sameMemory a).trans (sameMemory_taking s o a)
  have hns : (s.taking o).ntmNs = s.ntmNs := by rw [State.ntmNs, ntm_taking, State.ntmNs]
  refine completes_of_answered rfl ht (by rw [hp]; rfl) rfl ?_
  rw [hcap.ns, hcap.tmb, hns, tb_taking, ntmRound_of_regN (hreg (by decide) (by decide)) (hreg (by decide) (by decide)),
    ntmStat_congr (hreg (by decide) (by decide)) hntm htb, hreg (by decide) (by decide), hreg (by decide) (by decide)]
  exact ⟨State.responded_respond .., (ntm_respond ..).trans hntm, sameMemory_respond hmem o _ _ _⟩

theorem stepDeferred_taking (s : State) (o : Origin) : (s.taking o).stepDeferred = s.stepDeferred := by
  have hrf : (s.taking o).rf = s.rf := by
    obtain ⟨x, y, h⟩ := taking_eq s o
    rw [h]
  unfold State.stepDeferred State.stampInFlight
  rw [hrf, tb_taking, fld_taking_ne s o (by decide)]

/-- TIME_SET while nothing steers NTM (R329). -/
theorem completes_timeSet_free (ht : s.takes o 0x71 p) (hp : p.length = 8) (hsrc : s.fld F.ntmCfgSrc = 0) :
    (s.stepDeferred = false →
      Completes (.timeSet o p) s fun t =>
        t.ntm.time = wrap64 (leAt p 0 8) * 2 ^ 32 ∧ t.flag F.ntmStatValid = true
        ∧ t.responded o (rspPayload 0x71 .ok []) ∧ s.sameMemory t)
    ∧ (s.stepDeferred = true →
      Completes (.timeSet o p) s fun t =>
        t.ntm.time = s.ntm.time ∧ t.ntm.waiting = some (.set (leAt p 0 8)) ∧ t.ntm.waitHost = some o
        ∧ t.flag F.ntmStatPend = true ∧ s.sameMemory t) := by
  have hfree : (s.taking o).fld F.ntmCfgSrc = 0 := (fld_taking_ne s o (by decide)).trans hsrc
  have hset : handleTimeSet o p (s.taking o) =
      match (s.taking o).change (.set (leAt p 0 8)) (some o) with
      | (true, s) => (.now .ok [], s)
      | (false, s) => (.later, s) := by
    unfold handleTimeSet
    exact if_neg (by simp [hfree])
  have hmem := sameMemory_taking s o
  have hntm := ntm_taking s o
  have hd := stepDeferred_taking s o
  generalize leAt p 0 8 = n at hset ⊢
  refine ⟨fun hnow => ?_, fun hlater => ?_⟩
  · rw [change_now (some o) (by intro k n h; cases h) (hd.trans hnow)] at hset
    have hjump : JumpMade (s.taking o) (wrap64 n * 2 ^ 32) ((s.taking o).forgetWaiting.applyChange (.set n)) := by
      rw [applyChange_set]
      exact (applySet_jumps ..).forgotten (forgotten _)
    generalize (s.taking o).forgetWaiting.applyChange (.set n) = u at hset hjump
    refine completes_of_answered rfl ht (by rw [hp]; rfl) hset ⟨?_, ?_, State.responded_respond .., ?_⟩
    · rw [ntm_respond, hjump.time]
    · exact (flag_eq_of_regN (regN_respond_ne u o _ _ _ (by decide))).trans hjump.valid
    · exact sameMemory_respond (fun a => (hjump.memory a).trans (hmem a)) o _ _ _
  · obtain ⟨u, hu, hw⟩ := change_later (s := s.taking o) (c := .set n) (some o) (by intro k n h; cases h) (hd.trans hlater)
    rw [hu] at hset
    exact completes_of_later rfl ht (by rw [hp]; rfl) hset
      ⟨by rw [hw.time, hntm], hw.waiting, hw.waitHost, hw.pend, fun a => (hw.memory a).trans (hmem a)⟩

theorem completes_timeSet_steered (ht : s.takes o 0x71 p) (hp : p.length = 8) (hsrc : s.fld F.ntmCfgSrc ≠ 0) :
    Completes (.timeSet o p) s fun t =>
      t.ntm = s.ntm ∧ t.responded o (rspPayload 0x71 .notPermitted []) ∧ s.sameMemory t := by
  have hsrc' : (s.taking o).fld F.ntmCfgSrc ≠ 0 := by rwa [fld_taking_ne s o (by decide)]
  have hset : handleTimeSet o p (s.taking o) = (.now .notPermitted [], s.taking o) := if_pos (by simpa using hsrc')
  exact completes_of_answered rfl ht (by rw [hp]; rfl) hset
    ⟨(ntm_respond ..).trans (ntm_taking s o), State.responded_respond .., sameMemory_respond (sameMemory_taking s o) o _ _ _⟩

/-- Settles O38: each command of NTM.CMD is one branch of its write, a SET or step is a jump of the time or waits as the
change in force, and the host's TIME_GET and TIME_SET read the capture and make the same change. -/
theorem networkTimeCommands : Obligations.NetworkTimeCommands := by
  unfold Obligations.NetworkTimeCommands
  intro s hcom
  refine ⟨fun hsrc w => ⟨completes_ntmAbort hcom hsrc, completes_ntmSet hcom hsrc, completes_ntmStep hcom hsrc,
      completes_ntmSlew hcom hsrc, completes_incintWrite hcom hsrc⟩,
    fun hsrc w hw c hc => completes_steered hcom hsrc hw hc, fun w => completes_ntmCapture hcom, fun o p => ?_⟩
  exact ⟨completes_timeGet, completes_timeSet_free, completes_timeSet_steered⟩

end Sys2Proof.Machine
end

section
/-!
Rules of the journal's operations (R332-R337, R347): the fields of a record, the tables of flows and messages, a commit that
begins, and the result of a flow command.
-/

namespace Sys2Proof.Machine

variable {s t u : State} {f j k n : Nat} {o : Origin} {p d : List Byte} {w : Word} {x : Flow}

/-! ## The fields of a record (R347) -/

section
variable (type fidx jseq w8 w12 : Nat) (body : List Byte)

theorem recType_jrnRecord : recType (jrnRecord type fidx jseq w8 w12 body) = type % 256 := by
  change (Byte.ofN type).toNat = _
  exact BitVec.toNat_ofNat ..

theorem recFidx_jrnRecord : recFidx (jrnRecord type fidx jseq w8 w12 body) = fidx % 65536 := by
  change leNat (leBytes 2 fidx) = _
  exact leNat_leBytes ..

theorem recJseq_jrnRecord : recJseq (jrnRecord type fidx jseq w8 w12 body) = jseq % 2 ^ 32 := by
  change leNat (leBytes 4 jseq) = _
  exact leNat_leBytes ..

theorem leAt12_jrnRecord : leAt (jrnRecord type fidx jseq w8 w12 body) 12 2 = w12 % 65536 := by
  have h : leAt (jrnRecord type fidx jseq w8 w12 body) 12 2 = leNat ((leBytes 4 w12).take 2) := rfl
  have h2 : (leBytes 4 w12).take 2 = leBytes 2 w12 := rfl
  rw [h, h2]
  exact leNat_leBytes ..

end

/-! ## Work on the journal's own records -/

/-- Only the journal's records differ. -/
def JournalOnly (s t : State) : Prop := t = { s with jrn := t.jrn }

namespace JournalOnly

theorem refl (s : State) : JournalOnly s s := rfl

theorem trans (h : JournalOnly s t) (g : JournalOnly t u) : JournalOnly s u := by
  unfold JournalOnly at *
  rw [g, h]

theorem setJrn (s : State) (y : JrnState) : JournalOnly s { s with jrn := y } := rfl

theorem beginCommit (s : State) (type fidx w8 w12 : Nat) (body : List Byte) (what : CommitFor) :
    JournalOnly s (s.beginCommit type fidx w8 w12 body what) := rfl

theorem mapMsg (s : State) (j : Nat) (g : Msg → Msg) : JournalOnly s (s.mapMsg j g) := rfl

theorem setFlow (s : State) (f : Nat) (x : Flow) : JournalOnly s (s.setFlow f x) := rfl

theorem reg (h : JournalOnly s t) (a : Nat) : t.reg a = s.reg a := by
  rw [show t = { s with jrn := t.jrn } from h]
  rfl

theorem sameMemory (h : JournalOnly s t) : s.sameMemory t := by
  intro a
  rw [show t = { s with jrn := t.jrn } from h]
  rfl

theorem sameRegs (h : JournalOnly s t) : s.sameRegsBut t [] := fun a _ => h.reg a

end JournalOnly

/-! ## Flows -/

theorem jFlow_setFlow_self (s : State) (f : Nat) (x : Flow) : (s.setFlow f x).jFlow f = some x :=
  Sparse.find?_insert_self ..

/-- A freed entry is free. -/
theorem jFlow_erase (s : State) (f : Nat) :
    State.jFlow { s with jrn := { s.jrn with flows := Sparse.erase s.jrn.flows f } } f = none :=
  Sparse.find?_erase_self ..

theorem jFlow_congr (h : t.jrn = s.jrn) (f : Nat) : t.jFlow f = s.jFlow f := by
  unfold State.jFlow
  rw [h]

theorem freeFidx_congr (h : t.jrn = s.jrn) : t.freeFidx = s.freeFidx := by
  unfold State.freeFidx State.jFlow
  rw [h]

theorem lt_of_freeFidx (h : s.freeFidx = some f) : f < 4096 := by
  unfold State.freeFidx at h
  exact List.mem_range.1 (List.mem_of_find?_eq_some h)

theorem heldBy_congr (h : t.jrn = s.jrn) (f : Nat) : t.heldBy f = s.heldBy f := by
  unfold State.heldBy
  rw [h]

theorem flowCommits_congr (h : t.jrn = s.jrn) (f : Nat) : t.flowCommits f = s.flowCommits f := by
  unfold State.flowCommits
  rw [h]

theorem roundReached_congr (h : t.regN A.ntmRound0 = s.regN A.ntmRound0) (n : Nat) : t.roundReached n = s.roundReached n := by
  have hround : t.round0 = s.round0 := h
  rw [State.roundReached, hround, State.roundReached]

/-! ## The host's command, taken -/

theorem jrn_taking (s : State) (o : Origin) : (s.taking o).jrn = s.jrn := by
  obtain ⟨x, y, h⟩ := taking_eq s o
  rw [h]

theorem jrn_respond (s : State) (o : Origin) (code : Nat) (st : Status) (rest : List Byte) :
    (s.respond o code st rest).jrn = s.jrn := by
  obtain ⟨x, y, h⟩ := respond_eq s o code st rest
  rw [h]

/-! ## The result of a flow command (R363) -/

theorem flowStat_shows (s : State) (f : Nat) (st : Status) :
    (s.flowStat f st).regN A.jrnFlowstat = 2 ^ 16 * st.code + f % 4096
    ∧ WritesOnly [A.jrnFlowstat, A.jrnIntstat] s (s.flowStat f st)
    ∧ (st ≠ .pending → (s.flowStat f st).flag F.jrnIntstatFlowdone = true) := by
  have hset : (s.setRegN A.jrnFlowstat (2 ^ 16 * st.code + f % 4096)).regN A.jrnFlowstat = 2 ^ 16 * st.code + f % 4096 := by
    have hst := status_code_lt st
    rw [State.regN_setRegN_self, Nat.mod_eq_of_lt]
    omega
  have hw : WritesOnly [A.jrnFlowstat, A.jrnIntstat] s (s.setRegN A.jrnFlowstat (2 ^ 16 * st.code + f % 4096)) :=
    (WritesOnly.refl _ s).setRegN
  unfold State.flowStat
  dsimp only
  split
  next hp => exact ⟨hset, hw, fun h => absurd hp h⟩
  · exact ⟨(regN_raise_ne _ (f := F.jrnIntstatFlowdone) (by decide)).trans hset, hw.raise (f := F.jrnIntstatFlowdone),
      fun _ => flag_raise_at _⟩

theorem flowStat_pending (s : State) (f : Nat) : WritesOnly [A.jrnFlowstat] s (s.flowStat f .pending) :=
  (WritesOnly.refl [A.jrnFlowstat] s).setRegN

theorem jrn_flowStat (s : State) (f : Nat) (st : Status) : (s.flowStat f st).jrn = s.jrn := by
  rw [(flowStat_shows s f st).2.1.rest]

end Sys2Proof.Machine
end

section
/-!
Pages of the journal (R331, R337, R346): what programming records in pages changes, and what flash then holds.
-/

namespace Sys2Proof.Machine

variable {l : List Nat} {r s t u : State} {α β : Type} {c : Prop} {i : Decidable c} {ckpt : Bool} {recs : List (List Byte)}

/-! ## What the programming of pages leaves -/

/-- The registers that a programmed page may change. -/
def pageRegs : List Nat := [A.jrnCommitted, A.jrnWear, A.jrnIntstat]

/-- Pages are programmed: the journal's tables and mirrors stay, and the controller's operations may be suspended. -/
structure PageWork (l : List Nat) (s t : State) : Prop where
  regs : ∀ a, journalReg a = true → a ∉ l → t.reg a = s.reg a
  jrn : t.jrn = { s.jrn with page := t.jrn.page, pseq := t.jrn.pseq, ready := t.jrn.ready, used := t.jrn.used }
  flc : t.flc = { s.flc with erase := t.flc.erase, op := t.flc.op }
  rest : t = { s with regs := t.regs, flash := t.flash, flc := t.flc, hsl := t.hsl, jrn := t.jrn }

namespace PageWork

theorem refl (l : List Nat) (s : State) : PageWork l s s := ⟨fun _ _ _ => rfl, rfl, rfl, rfl⟩

theorem trans (h : PageWork l r s) (g : PageWork l s t) : PageWork l r t where
  regs a ha hl := (g.regs a ha hl).trans (h.regs a ha hl)
  jrn := by
    rw [g.jrn, h.jrn]
  flc := by
    rw [g.flc, h.flc]
  rest := by
    rw [g.rest, h.rest]

theorem regN (h : PageWork l s t) {a : Nat} (ha : journalReg a = true) (hl : a ∉ l) : t.regN a = s.regN a :=
  congrArg BitVec.toNat (h.regs a ha hl)

theorem msgs (h : PageWork l s t) : t.jrn.msgs = s.jrn.msgs := by rw [h.jrn]
theorem flows (h : PageWork l s t) : t.jrn.flows = s.jrn.flows := by rw [h.jrn]
theorem commits (h : PageWork l s t) : t.jrn.commits = s.jrn.commits := by rw [h.jrn]
theorem jseq (h : PageWork l s t) : t.jrn.jseq = s.jrn.jseq := by rw [h.jrn]
theorem mirror0 (h : PageWork l s t) : t.jrn.mirror0 = s.jrn.mirror0 := by rw [h.jrn]
theorem mirror1 (h : PageWork l s t) : t.jrn.mirror1 = s.jrn.mirror1 := by rw [h.jrn]

theorem jrnCopy (h : PageWork l s t) (hl : A.jrnStat ∉ l) (k : Nat) : t.jrnCopy k = s.jrnCopy k :=
  congrArg (bitAt · (20 + k)) (h.regN (by decide) hl)

theorem ite (hs : PageWork l r s) (ht : PageWork l r t) : PageWork l r (if c then s else t) := by
  split
  · exact hs
  · exact ht

theorem setReg (h : PageWork l r s) {a : Nat} {w : Word} (ha : a ∈ l ∨ journalReg a = false) : PageWork l r (s.setReg a w) := by
  refine h.trans ⟨fun b hb hl => State.reg_setReg_ne s w ?_, rfl, rfl, rfl⟩
  rintro rfl
  rcases ha with ha | ha
  · exact hl ha
  · rw [ha] at hb
    cases hb

theorem setRegN (h : PageWork l r s) {a n : Nat} (ha : a ∈ l ∨ journalReg a = false) : PageWork l r (s.setRegN a n) :=
  h.setReg ha

theorem raise (h : PageWork l r s) {f : Fld} (ha : f.addr ∈ l ∨ journalReg f.addr = false) : PageWork l r (s.raise f) :=
  h.setReg ha

theorem flcCount (h : PageWork l r s) {k n : Nat} (hk : journalReg (A.flcCtr k) = false) : PageWork l r (s.flcCount k n) :=
  h.setReg (.inr hk)

theorem flashMap (h : PageWork l r s) {m} : PageWork l r { s with flash := m } := h.trans ⟨fun _ _ _ => rfl, rfl, rfl, rfl⟩

theorem operations (h : PageWork l r s) {erase op} : PageWork l r { s with flc := { s.flc with erase := erase, op := op } } :=
  h.trans ⟨fun _ _ _ => rfl, rfl, rfl, rfl⟩

theorem setFlash (h : PageWork l r s) {off : Nat} {b : List Byte} : PageWork l r (s.setFlash off b) := by
  induction b generalizing s off with
  | nil => exact h
  | cons x b ih => exact ih h.flashMap

theorem touchPlane (h : PageWork l r s) {p : Nat} : PageWork l r (s.touchPlane p) := by
  unfold State.touchPlane
  split
  · extract_lets
    exact .ite (PageWork.flcCount h.operations (by decide)) h
  · split
    · exact .ite (PageWork.flcCount h.operations (by decide)) h
    · exact h

theorem notice (h : PageWork l r s) {code : Nat} {payload : List Byte} : PageWork l r (s.notice code payload) := by
  have ht := tells_notice s code payload
  refine h.trans ⟨fun a ha _ => ht.regs a ?_, ?_, ?_, ?_⟩
  · simp only [List.mem_cons, List.not_mem_nil, or_false, not_or]
    constructor
    all_goals
      rintro rfl
      revert ha
      decide
  all_goals rw [ht.rest]

end PageWork

/-! ## One page (R346) -/

/-- The highest JSEQ of records. -/
def jseqHigh (recs : List (List Byte)) : Nat := (recs.map recJseq).foldl max 0

/-- A page is programmed in a copy that is in service. -/
def State.copyPage (s : State) (k off : Nat) (b : List Byte) : State :=
  if s.jrnCopy k then ((s.touchPlane k).setFlash off b).flcCount 3 1 else s

/-- A page in both copies. -/
def State.copiesPage (s : State) (ckpt : Bool) (recs : List (List Byte)) : State :=
  (s.copyPage 0 (pageOff 0 s.jrn.page) (pageBytes s.jrn.pseq (jseqHigh recs) ckpt recs)).copyPage 1 (pageOff 1 s.jrn.page)
    (pageBytes s.jrn.pseq (jseqHigh recs) ckpt recs)

/-- The page is counted. -/
def State.pageDone (s : State) (page : Nat) : State :=
  { s with jrn := { s.jrn with
      page := (page + 1) % 16384, pseq := (s.jrn.pseq + 1) % 2 ^ 32, ready := s.jrn.ready - 1, used := s.jrn.used + 1 } }

theorem writePage_eq (s : State) (ckpt : Bool) (recs : List (List Byte)) :
    s.writePage ckpt recs =
      let u := (s.copiesPage ckpt recs).pageDone s.jrn.page
      (u.setRegN A.jrnCommitted (max (u.regN A.jrnCommitted) (jseqHigh recs))).wearCheck := rfl

theorem pageWork_copyPage (h : PageWork l r s) {k off : Nat} {b : List Byte} : PageWork l r (s.copyPage k off b) :=
  .ite (h.touchPlane.setFlash.flcCount (by decide)) h

theorem pageWork_copiesPage (l : List Nat) (s : State) (ckpt : Bool) (recs : List (List Byte)) : PageWork l s (s.copiesPage ckpt recs) :=
  pageWork_copyPage (pageWork_copyPage (.refl l s))

theorem PageWork.pageDone (h : PageWork l r s) {k : Nat} : PageWork l r (s.pageDone k) := h.trans ⟨fun _ _ _ => rfl, rfl, rfl, rfl⟩

theorem PageWork.wearCheck (h : PageWork pageRegs r s) : PageWork pageRegs r s.wearCheck :=
  .ite ((h.raise (.inl (by decide))).raise (.inl (by decide))).notice h

theorem PageWork.writePage (h : PageWork pageRegs r s) : PageWork pageRegs r (s.writePage ckpt recs) := by
  rw [writePage_eq]
  exact ((h.trans (pageWork_copiesPage _ s ckpt recs)).pageDone.setRegN (.inl (by decide))).wearCheck

/-! ### What a page counts -/

theorem jrn_setFlash (s : State) (off : Nat) (b : List Byte) : (s.setFlash off b).jrn = s.jrn := by
  induction b generalizing s off with
  | nil => rfl
  | cons x b ih => exact (ih _ _).trans rfl

theorem jrn_touchPlane (s : State) (p : Nat) : (s.touchPlane p).jrn = s.jrn := by
  unfold State.touchPlane
  split
  · extract_lets
    split
    · rfl
    · rfl
  · split
    · split
      · rfl
      · rfl
    · rfl

theorem jrn_copyPage (s : State) (k off : Nat) (b : List Byte) : (s.copyPage k off b).jrn = s.jrn := by
  unfold State.copyPage
  split
  · exact (jrn_setFlash ..).trans (jrn_touchPlane ..)
  · rfl

theorem jrn_copiesPage (s : State) (ckpt : Bool) (recs : List (List Byte)) : (s.copiesPage ckpt recs).jrn = s.jrn :=
  (jrn_copyPage ..).trans (jrn_copyPage ..)

/-- The check of the wear tells at most. -/
theorem wearCheck_tells (s : State) : Tells [A.jrnWear, A.jrnIntstat, A.hslCtr 6, A.hslIntstat] s s.wearCheck := by
  have h : Tells [A.jrnWear, A.jrnIntstat, A.hslCtr 6, A.hslIntstat] s ((s.raise F.jrnWearOver).raise F.jrnIntstatWearover) :=
    ((Tells.refl _ s).raise (f := F.jrnWearOver) (by decide)).raise (f := F.jrnIntstatWearover) (by decide)
  unfold State.wearCheck
  split
  · exact h.notice (by decide) (by decide)
  · exact .refl _ s

/-- A page is counted and the highest JSEQ in flash shown (R346, R351). -/
structure PageShown (s : State) (n high : Nat) (t : State) : Prop where
  page : t.jrn.page = (s.jrn.page + n) % 16384
  ready : t.jrn.ready = s.jrn.ready - n
  used : t.jrn.used = s.jrn.used + n
  committed : t.regN A.jrnCommitted = max (s.regN A.jrnCommitted) high

theorem foldl_max (l : List Nat) (a : Nat) : l.foldl max a = max a (l.foldl max 0) := by
  induction l generalizing a with
  | nil => simp
  | cons x l ih => rw [List.foldl_cons, List.foldl_cons, ih (max a x), ih (max 0 x), Nat.zero_max, Nat.max_assoc]

theorem recJseq_lt (b : List Byte) : recJseq b < 2 ^ 32 := by
  have hlen : ((b.drop 4).take 4).length ≤ 4 := List.length_take_le ..
  exact Nat.lt_of_lt_of_le (leNat_lt _) (Nat.pow_le_pow_right (by decide) hlen)

theorem jseqHigh_lt (recs : List (List Byte)) : jseqHigh recs < 2 ^ 32 := by
  unfold jseqHigh
  induction recs with
  | nil => decide
  | cons b recs ih =>
    rw [List.map_cons, List.foldl_cons, foldl_max, Nat.zero_max]
    exact Nat.max_lt.2 ⟨recJseq_lt b, ih⟩

theorem writePage_shows (s : State) (ckpt : Bool) (recs : List (List Byte)) :
    PageShown s 1 (jseqHigh recs) (s.writePage ckpt recs) := by
  have hwork : (s.copiesPage ckpt recs).regN A.jrnCommitted = s.regN A.jrnCommitted :=
    (pageWork_copiesPage [] s ckpt recs).regN (by decide) (by decide)
  have hjrn := jrn_copiesPage s ckpt recs
  have hmax : max (s.regN A.jrnCommitted) (jseqHigh recs) < 2 ^ 32 := Nat.max_lt.2 ⟨(s.reg A.jrnCommitted).isLt, jseqHigh_lt recs⟩
  rw [writePage_eq]
  generalize s.copiesPage ckpt recs = u at *
  generalize jseqHigh recs = high at *
  have hdone : (u.pageDone s.jrn.page).regN A.jrnCommitted = s.regN A.jrnCommitted := hwork
  have hpage : (u.pageDone s.jrn.page).jrn.page = (s.jrn.page + 1) % 16384
      ∧ (u.pageDone s.jrn.page).jrn.ready = s.jrn.ready - 1 ∧ (u.pageDone s.jrn.page).jrn.used = s.jrn.used + 1 := by
    rw [← hjrn]
    exact ⟨rfl, rfl, rfl⟩
  generalize u.pageDone s.jrn.page = v at *
  dsimp only
  rw [hdone]
  have hset : (v.setRegN A.jrnCommitted (max (s.regN A.jrnCommitted) high)).regN A.jrnCommitted = max (s.regN A.jrnCommitted) high := by
    rw [State.regN_setRegN_self, Nat.mod_eq_of_lt hmax]
  have hjrn' : (v.setRegN A.jrnCommitted (max (s.regN A.jrnCommitted) high)).jrn = v.jrn := rfl
  generalize v.setRegN A.jrnCommitted (max (s.regN A.jrnCommitted) high) = y at *
  have hcheck := wearCheck_tells y
  have hkept : y.wearCheck.jrn = v.jrn := by rw [hcheck.rest]; exact hjrn'
  obtain ⟨hp, hr, hu⟩ := hpage
  exact ⟨by rw [hkept, hp], by rw [hkept, hr], by rw [hkept, hu], (congrArg BitVec.toNat (hcheck.regs _ (by decide))).trans hset⟩

/-! ## Several pages -/

/-- Packing keeps the records and their order (R346). -/
theorem flatten_packPages (recs cur : List (List Byte)) : (packPages recs cur).flatten = cur ++ recs := by
  induction recs generalizing cur with
  | nil =>
    unfold packPages
    cases cur with
    | nil => rfl
    | cons b cur => simp
  | cons b recs ih =>
    unfold packPages
    split
    · rw [ih]
      simp
    · cases cur with
      | nil =>
        rw [if_pos (by rfl), ih]
        rfl
      | cons x cur =>
        rw [if_neg (by simp), List.flatten_cons, ih]
        rfl

theorem jseqHigh_append (l l' : List (List Byte)) : jseqHigh (l ++ l') = max (jseqHigh l) (jseqHigh l') := by
  unfold jseqHigh
  rw [List.map_append, List.foldl_append, foldl_max]

theorem recJseq_le_jseqHigh {b : List Byte} (h : b ∈ recs) : recJseq b ≤ jseqHigh recs := by
  obtain ⟨l, l', rfl⟩ := List.append_of_mem h
  have hcons : jseqHigh (b :: l') = max (recJseq b) (jseqHigh l') := by
    unfold jseqHigh
    rw [List.map_cons, List.foldl_cons, foldl_max, Nat.zero_max]
  rw [jseqHigh_append, hcons]
  omega

/-- Pages one after the other. -/
theorem foldl_writePage_shows (s : State) (ckpt : Bool) {l : List (List (List Byte))} (hne : l ≠ []) :
    PageShown s l.length (jseqHigh l.flatten) (l.foldl (fun s p => s.writePage ckpt p) s) := by
  induction l generalizing s with
  | nil => exact absurd rfl hne
  | cons x l ih =>
    have hone := writePage_shows s ckpt x
    rw [List.foldl_cons]
    generalize s.writePage ckpt x = u at *
    cases l with
    | nil => simpa using hone
    | cons y l =>
      have hmore := ih u (by simp)
      have hone' : jseqHigh (x :: y :: l).flatten = max (jseqHigh x) (jseqHigh (y :: l).flatten) := by
        rw [List.flatten_cons, jseqHigh_append]
      have hlen : (x :: y :: l).length = 1 + (y :: l).length := Nat.add_comm ..
      refine ⟨?_, ?_, ?_, ?_⟩
      · rw [hmore.page, hone.page, hlen]
        omega
      · rw [hmore.ready, hone.ready, hlen, Nat.sub_add_eq]
      · rw [hmore.used, hone.used, hlen, Nat.add_assoc]
      · rw [hmore.committed, hone.committed, hone', Nat.max_assoc]

theorem packPages_ne_nil (h : recs ≠ []) : packPages recs [] ≠ [] := by
  intro hnil
  have hflat := flatten_packPages recs []
  rw [hnil] at hflat
  exact h hflat.symm

theorem writePages_shows (s : State) (ckpt : Bool) (h : recs ≠ []) :
    PageShown s (packPages recs []).length (jseqHigh recs) (s.writePages ckpt recs) := by
  have hshows := foldl_writePage_shows s ckpt (packPages_ne_nil h)
  rwa [flatten_packPages, List.nil_append] at hshows

theorem PageWork.writePages (h : PageWork pageRegs r s) : PageWork pageRegs r (s.writePages ckpt recs) := by
  unfold State.writePages
  generalize packPages recs [] = l
  induction l generalizing s with
  | nil => exact h
  | cons x l ih => exact ih h.writePage

/-! ## What flash holds (R346) -/

/-- Reads of flash take its content as it is. -/
structure PlainFlash (s : State) : Prop where
  redirect : s.flc.redirect = none
  junk : s.flc.junk = []
  junkUnits : s.flc.junkUnits = []

theorem flashByte_of_plain (h : PlainFlash s) (off : Nat) : s.flashByte off = Sparse.get (fun _ => 0xFF) s.flash off := by
  unfold State.flashByte
  rw [h.redirect, h.junk, h.junkUnits]
  rfl

theorem get_setFlash_outside (s : State) {off a : Nat} {b : List Byte} (h : a < off ∨ off + b.length ≤ a) :
    Sparse.get (fun _ => (0xFF : Byte)) (s.setFlash off b).flash a = Sparse.get (fun _ => 0xFF) s.flash a := by
  induction b generalizing s off with
  | nil => rfl
  | cons x b ih =>
    rw [List.length_cons] at h
    rw [State.setFlash, ih _ (by omega)]
    exact Sparse.get_put_ne _ _ _ (by omega)

theorem get_setFlash (s : State) {off k : Nat} {b : List Byte} (h : k < b.length) :
    Sparse.get (fun _ => (0xFF : Byte)) (s.setFlash off b).flash (off + k) = b[k] := by
  induction b generalizing s off k with
  | nil => cases h
  | cons x b ih =>
    rw [State.setFlash]
    cases k with
    | zero =>
      rw [get_setFlash_outside _ (.inl (by omega))]
      exact Sparse.get_put_self ..
    | succ k =>
      rw [show off + (k + 1) = off + 1 + k by omega, ih _ (Nat.lt_of_succ_lt_succ h)]
      rfl

/-- Flash that holds the bytes of a string reads as it. -/
theorem flashBytes_of_get (h : PlainFlash s) {off : Nat} {b : List Byte}
    (hget : ∀ k (hk : k < b.length), Sparse.get (fun _ => (0xFF : Byte)) s.flash (off + k) = b[k]) :
    s.flashBytes off b.length = b := by
  induction b generalizing off with
  | nil => rfl
  | cons x b ih =>
    have hhead : Sparse.get (fun _ => (0xFF : Byte)) s.flash off = x := hget 0 (by simp)
    rw [List.length_cons, State.flashBytes, flashByte_of_plain h, hhead, ih fun k hk => ?_]
    · rw [Nat.add_assoc, Nat.add_comm 1 k, hget (k + 1) (by simpa using hk)]
      rfl

theorem length_pageBytes {b : List Byte} (h : b.length ≤ 240) (pseq jhi : Nat) : (pageBytes pseq jhi false [b]).length = 256 := by
  have hrec : ([b] : List (List Byte)).flatten = b := by simp
  unfold pageBytes
  rw [hrec]
  simp only [List.length_append, length_leBytes, List.length_cons, List.length_nil, List.length_replicate]
  omega

/-- Both copies hold the page. -/
theorem flash_copiesPage (s : State) (ckpt : Bool) (recs : List (List Byte)) (h0 : s.jrnCopy 0 = true) (h1 : s.jrnCopy 1 = true) :
    (s.copiesPage ckpt recs).flash = ((s.setFlash (pageOff 0 s.jrn.page) (pageBytes s.jrn.pseq (jseqHigh recs) ckpt recs)).setFlash
      (pageOff 1 s.jrn.page) (pageBytes s.jrn.pseq (jseqHigh recs) ckpt recs)).flash := by
  have htouch (s : State) (p : Nat) : (s.touchPlane p).flash = s.flash := by
    unfold State.touchPlane
    split
    · extract_lets
      split
      · rfl
      · rfl
    · split
      · split
        · rfl
        · rfl
      · rfl
  have hcopy {s : State} {k off : Nat} (b : List Byte) (h : s.jrnCopy k = true) :
      (s.copyPage k off b).flash = (s.setFlash off b).flash := by
    unfold State.copyPage
    rw [if_pos h, flash_flcCount]
    exact flash_setFlash_congr (htouch s k) ..
  have hwork : PageWork [] s (s.copyPage 0 (pageOff 0 s.jrn.page) (pageBytes s.jrn.pseq (jseqHigh recs) ckpt recs)) :=
    pageWork_copyPage (.refl [] s)
  unfold State.copiesPage
  rw [hcopy _ (by rw [hwork.jrnCopy (by decide), h1])]
  exact flash_setFlash_congr (hcopy _ h0) ..

theorem flash_writePage (s : State) (ckpt : Bool) (recs : List (List Byte)) (h0 : s.jrnCopy 0 = true) (h1 : s.jrnCopy 1 = true) :
    (s.writePage ckpt recs).flash = ((s.setFlash (pageOff 0 s.jrn.page) (pageBytes s.jrn.pseq (jseqHigh recs) ckpt recs)).setFlash
      (pageOff 1 s.jrn.page) (pageBytes s.jrn.pseq (jseqHigh recs) ckpt recs)).flash := by
  rw [writePage_eq]
  dsimp only
  rw [flash_tells (wearCheck_tells _)]
  exact flash_copiesPage s ckpt recs h0 h1

/-- A page of one record is in both copies (R331, R346). -/
theorem flashBytes_writePage {b : List Byte} (hb : b.length ≤ 240) (h0 : s.jrnCopy 0 = true)
    (h1 : s.jrnCopy 1 = true) (ht : PlainFlash t) (hflash : t.flash = (s.writePage false [b]).flash) :
    ∀ k, k < 2 → t.flashBytes (pageOff k s.jrn.page) 256 = pageBytes s.jrn.pseq (recJseq b) false [b] := by
  have hhigh : jseqHigh [b] = recJseq b := Nat.zero_max _
  have hlen := length_pageBytes hb s.jrn.pseq (recJseq b)
  rw [flash_writePage s false [b] h0 h1, hhigh] at hflash
  generalize pageBytes s.jrn.pseq (recJseq b) false [b] = page at *
  intro k hk
  rw [← hlen]
  refine flashBytes_of_get ht fun n hn => ?_
  rw [hflash]
  obtain rfl | rfl : k = 0 ∨ k = 1 := by omega
  · rw [get_setFlash_outside _ (.inl (by unfold pageOff; simp only [if_true, if_neg Nat.one_ne_zero]; omega))]
    exact get_setFlash s hn
  · exact get_setFlash _ hn

/-! ## Records that leave the mirrors (R331, R337) -/

theorem jrnMirror_mapMirrors (s : State) {f : List (List Byte) → List (List Byte)} (hf : f [] = []) :
    (s.mapMirrors f).jrnMirror = f s.jrnMirror := by
  unfold State.jrnMirror State.mapMirrors
  cases s.jrn.mirror0 with
  | some m => rfl
  | none =>
    cases s.jrn.mirror1 with
    | some m => rfl
    | none => exact hf.symm

/-- What waits after the mirrors lost records has waited before. -/
theorem jrnWaiting_trimMirrors (s : State) : ∀ b ∈ s.trimMirrors.jrnWaiting, b ∈ s.jrnWaiting := by
  have hsub {f : List (List Byte) → List (List Byte)} (hf : f [] = []) (hmem : ∀ l, ∀ b ∈ f l, b ∈ l) :
      ∀ b ∈ (s.mapMirrors f).jrnWaiting, b ∈ s.jrnWaiting := by
    intro b hb
    obtain ⟨hb, hafter⟩ := List.mem_filter.1 hb
    rw [jrnMirror_mapMirrors s hf] at hb
    exact List.mem_filter.2 ⟨hmem _ b hb, hafter⟩
  unfold State.trimMirrors
  split
  · exact hsub rfl fun l b hb => List.mem_of_mem_drop hb
  · exact hsub rfl fun l b hb => (List.mem_filter.1 hb).1

/-- Once the waiting records are in flash, none waits. -/
theorem jrnWaiting_writePages (s : State) (hne : s.jrnWaiting ≠ []) : (s.writePages ckpt s.jrnWaiting).jrnWaiting = [] := by
  have hshows := writePages_shows s ckpt hne
  have hwork : PageWork pageRegs s (s.writePages ckpt s.jrnWaiting) := (PageWork.refl _ s).writePages
  generalize hu : s.writePages ckpt s.jrnWaiting = u at *
  have hmirror : u.jrnMirror = s.jrnMirror := by
    unfold State.jrnMirror
    rw [hwork.mirror0, hwork.mirror1]
  refine List.filter_eq_nil_iff.2 fun b hb => ?_
  rw [hmirror] at hb
  rw [hshows.committed, decide_eq_true_eq, Nat.not_lt]
  by_cases hold : s.regN A.jrnCommitted < recJseq b
  · exact Nat.le_trans (recJseq_le_jseqHigh (List.mem_filter.2 ⟨hb, by simpa using hold⟩)) (Nat.le_max_right ..)
  · exact Nat.le_trans (Nat.not_lt.1 hold) (Nat.le_max_left ..)

/-! ## A record that is written (R337) -/

/-- A record is written: the journal's tables stay. -/
structure Recorded (s t : State) : Prop where
  regs : ∀ a, journalReg a = true → a ∉ pageRegs → t.reg a = s.reg a
  msgs : t.jrn.msgs = s.jrn.msgs
  flows : t.jrn.flows = s.jrn.flows
  commits : t.jrn.commits = s.jrn.commits
  jseq : t.jrn.jseq = s.jrn.jseq
  rest : t = { s with regs := t.regs, flash := t.flash, flc := t.flc, hsl := t.hsl, jrn := t.jrn }

namespace Recorded

theorem refl (s : State) : Recorded s s := ⟨fun _ _ _ => rfl, rfl, rfl, rfl, rfl, rfl⟩

theorem trans (h : Recorded r s) (g : Recorded s t) : Recorded r t where
  regs a ha hl := (g.regs a ha hl).trans (h.regs a ha hl)
  msgs := g.msgs.trans h.msgs
  flows := g.flows.trans h.flows
  commits := g.commits.trans h.commits
  jseq := g.jseq.trans h.jseq
  rest := by
    rw [g.rest, h.rest]

theorem regN (h : Recorded s t) {a : Nat} (ha : journalReg a = true) (hl : a ∉ pageRegs) : t.regN a = s.regN a :=
  congrArg BitVec.toNat (h.regs a ha hl)

theorem ite (hs : Recorded r s) (ht : Recorded r t) : Recorded r (if c then s else t) := by
  split
  · exact hs
  · exact ht

theorem since (h : Recorded r s) {n : Nat} : Recorded r { s with jrn := { s.jrn with since := n } } :=
  h.trans ⟨fun _ _ _ => rfl, rfl, rfl, rfl, rfl, rfl⟩

theorem mapMirrors (h : Recorded r s) {f : List (List Byte) → List (List Byte)} : Recorded r (s.mapMirrors f) :=
  h.trans ⟨fun _ _ _ => rfl, rfl, rfl, rfl, rfl, rfl⟩

theorem trimMirrors (h : Recorded r s) : Recorded r s.trimMirrors := .ite h.mapMirrors h.mapMirrors

theorem writePages (h : Recorded r s) : Recorded r (s.writePages ckpt recs) := by
  have hw : PageWork pageRegs s (s.writePages ckpt recs) := (PageWork.refl _ s).writePages
  exact h.trans ⟨hw.regs, hw.msgs, hw.flows, hw.commits, hw.jseq, hw.rest⟩

theorem writeRecord (h : Recorded r s) {b : List Byte} : Recorded r (s.writeRecord b) :=
  .ite (.mapMirrors (.ite h.since h)) (.trimMirrors (.writePages (.ite h.mapMirrors h)))

end Recorded

theorem completes_bufferFlush (hcom : s.comUp = true) (hbytes : 240 ≤ s.jrnWaitBytes)
    (hroom : s.jrnRoomFor (packPages s.jrnWaiting []).length = true) :
    Completes .bufferFlush s fun t =>
      let n := (packPages s.jrnWaiting []).length
      t.jrnWaiting = [] ∧ t.jrn.page = (s.jrn.page + n) % 16384 ∧ t.jrn.ready = s.jrn.ready - n
      ∧ t.jrn.used = s.jrn.used + n ∧ t.jrn.msgs = s.jrn.msgs := by
  have hne : s.jrnWaiting ≠ [] := by
    intro hnil
    rw [State.jrnWaitBytes, hnil] at hbytes
    cases hbytes
  have hexec : exec .bufferFlush s = .next (s.writePages false s.jrnWaiting).trimMirrors := by
    refine congrArg Host.Outcome.next ((if_pos (by simp [hcom, hbytes])).trans ?_)
    exact if_pos hroom
  have hshows := writePages_shows s false hne
  have hempty := jrnWaiting_writePages s (ckpt := false) hne
  have hrec : Recorded s (s.writePages false s.jrnWaiting) := (Recorded.refl s).writePages
  refine ⟨_, hexec, ?_⟩
  dsimp only
  generalize s.writePages false s.jrnWaiting = u at *
  have hwait := jrnWaiting_trimMirrors u
  rw [hempty] at hwait
  have htrim : Recorded u u.trimMirrors := (Recorded.refl u).trimMirrors
  have hpages : u.trimMirrors.jrn.page = u.jrn.page ∧ u.trimMirrors.jrn.ready = u.jrn.ready ∧ u.trimMirrors.jrn.used = u.jrn.used := by
    unfold State.trimMirrors
    split
    · exact ⟨rfl, rfl, rfl⟩
    · exact ⟨rfl, rfl, rfl⟩
  obtain ⟨hpage, hready, hused⟩ := hpages
  exact ⟨List.eq_nil_iff_forall_not_mem.2 fun b hb => (by cases hwait b hb), hpage.trans hshows.page, hready.trans hshows.ready,
    hused.trans hshows.used, htrim.msgs.trans hrec.msgs⟩

end Sys2Proof.Machine
end

section
/-!
Flow commands, the journal's status, its flash copies and its wear (R331-R335, R348, R351, R352, R359, R363-R365).
-/

namespace Sys2Proof.Machine

variable {s t u v : State} {f i k n : Nat} {o : Origin} {host : Option Origin} {p d : List Byte} {w : Word} {x : Flow}

/-! ## OPEN (R333, R363) -/

/-- The entry of an OPEN. -/
def State.newFlow (s : State) (d : List Byte) : Flow :=
  { role := 1, flow := leAt d 0 2, origin := s.eui, epoch := (s.jrn.epoch + 1) % 65536, seq := 0, target := byteAt d 3,
    nextHop := leAt d 4 2, opened := s.jrn.jseq }

/-- The state after an OPEN that takes an entry. -/
def State.flowOpened (s : State) (f : Nat) (d : List Byte) (host : Option Origin) : State :=
  (State.setFlow { s with jrn := { s.jrn with epoch := (s.jrn.epoch + 1) % 65536 } } f (s.newFlow d)).beginCommit 6 f 0
    ((s.jrn.epoch + 1) % 65536) (flowBody (s.newFlow d)) (.flowOpen f host)

theorem openFlow_of_free (hd : byteAt d 3 ≤ 4) (hflow : leAt d 0 2 ≠ 0xFFFF)
    (hany : s.jrn.flows.any (fun p => p.2.role == 1 && p.2.flow == leAt d 0 2 && !p.2.closed) = false) (hfree : s.freeFidx = some f) :
    s.openFlow d host = (.pending, f, s.flowOpened f d host) := by
  unfold State.openFlow
  dsimp only
  rw [if_neg (Nat.not_lt.2 hd), if_neg hflow, if_neg (by rw [hany]; decide), hfree]
  rfl

theorem flowOpened_shows (s : State) (f : Nat) (d : List Byte) (host : Option Origin) :
    JournalOnly s (s.flowOpened f d host) ∧ (s.flowOpened f d host).jFlow f = some (s.newFlow d)
    ∧ ∃ c, (s.flowOpened f d host).jrn.commits = s.jrn.commits ++ [c] ∧ c.what = .flowOpen f host ∧ recType c.record = 6 := by
  refine ⟨rfl, ?_, _, rfl, rfl, recType_jrnRecord ..⟩
  exact Sparse.find?_insert_self ..

/-! ## CLOSE and EPOCH (R335, R363) -/

theorem closeFlow_of_ready (hx : s.jFlow f = some x) (hrole : x.role ≠ 2) (hready : x.ready = true) :
    s.closeFlow f host = (.pending, s.beginCommit 7 f 0 0 [] (.flowClose f host)) := by
  unfold State.closeFlow
  rw [hx]
  exact if_neg (by simp [hrole, hready])

/-- The state after an EPOCH that is taken. -/
def State.flowEpoched (s : State) (f : Nat) (x : Flow) (host : Option Origin) : State :=
  State.beginCommit { s with jrn := { s.jrn with epoch := (s.jrn.epoch + 1) % 65536 } } 6 f 0 ((s.jrn.epoch + 1) % 65536)
    (flowBody x) (.flowEpoch f host)

theorem epochFlow_of_idle (hx : s.jFlow f = some x) (hrole : x.role ≠ 2) (hready : x.ready = true) (hopen : x.closed = false)
    (hheld : s.heldBy f = []) (hcommit : s.flowCommits f = false) (hround : s.roundReached (x.lastDl + 120) = true) :
    s.epochFlow f host = (.pending, s.flowEpoched f x host) := by
  unfold State.epochFlow
  rw [hx]
  dsimp only
  rw [if_neg (by simp [hrole, hready, hopen]), if_neg (by simp [hheld, hcommit, hround])]
  rfl

theorem flowEpoched_shows (s : State) (f : Nat) (x : Flow) (host : Option Origin) :
    JournalOnly s (s.flowEpoched f x host)
    ∧ ∃ c, (s.flowEpoched f x host).jrn.commits = s.jrn.commits ++ [c] ∧ c.what = .flowEpoch f host ∧ recType c.record = 6
      ∧ leAt c.record 12 2 = (s.jrn.epoch + 1) % 65536 := by
  refine ⟨rfl, _, rfl, rfl, recType_jrnRecord .., ?_⟩
  exact (leAt12_jrnRecord ..).trans (Nat.mod_mod ..)

/-! ## Flow commands by JRN.FLOWCMD (R363) -/

theorem exec_flowCmd {g : State → Nat → Status × Nat × State} (hcom : s.comUp = true) (hrun : s.running = true)
    (hw : bitsOf w.toNat 12 16 = 0) :
    s.flowCmd false w g = .next ((g s (bitsOf w.toNat 0 12)).2.2.flowStat (g s (bitsOf w.toNat 0 12)).2.1
      (g s (bitsOf w.toNat 0 12)).1) := by
  unfold State.flowCmd
  dsimp only
  rw [guarded_machine, if_pos (by simp [hcom, hrun]), if_neg (by simp [hw])]

theorem sameRegsBut_flowStat (h : JournalOnly s u) (f : Nat) : s.sameRegsBut (u.flowStat f .pending) [A.jrnFlowstat] :=
  fun a ha => ((flowStat_pending u f).regs a ha).trans (h.reg a)

theorem sameMemory_flowStat (h : s.sameMemory u) (f : Nat) (st : Status) : s.sameMemory (u.flowStat f st) :=
  fun a => ((flowStat_shows u f st).2.1.sameMemory a).trans (h a)

theorem completes_flowcmdOpen (hcom : s.comUp = true) (hrun : s.running = true) (hw : bitsOf w.toNat 12 16 = 0) :
    ∀ f, let d := s.bytes (s.regN A.jrnFlowaddr) 32
      byteAt d 3 ≤ 4 → leAt d 0 2 ≠ 0xFFFF →
      s.jrn.flows.any (fun p => p.2.role == 1 && p.2.flow == leAt d 0 2 && !p.2.closed) = false → s.freeFidx = some f →
    Completes (.flowcmdOpen false w) s fun t =>
      (∃ x, t.jFlow f = some x ∧ x.role = 1 ∧ x.flow = leAt d 0 2 ∧ x.origin = s.eui
        ∧ x.epoch = (s.jrn.epoch + 1) % 65536 ∧ x.seq = 0 ∧ x.target = byteAt d 3 ∧ x.nextHop = leAt d 4 2
        ∧ x.ready = false)
      ∧ (∃ c, t.jrn.commits = s.jrn.commits ++ [c] ∧ c.what = .flowOpen f none ∧ recType c.record = 6)
      ∧ t.regN A.jrnFlowstat = 2 ^ 16 * Status.pending.code + f
      ∧ s.sameRegsBut t [A.jrnFlowstat] ∧ s.sameMemory t := by
  intro f d hd hflow hany hfree
  obtain ⟨honly, hentry, hcommit⟩ := flowOpened_shows s f d none
  have hopen := openFlow_of_free (host := none) hd hflow hany hfree
  have hexec : exec (.flowcmdOpen false w) s = .next ((s.flowOpened f d none).flowStat f .pending) := by
    have h := exec_flowCmd (g := fun s _ => s.openFlow (s.bytes (s.regN A.jrnFlowaddr) 32) none) hcom hrun hw
    rw [show s.openFlow (s.bytes (s.regN A.jrnFlowaddr) 32) none = _ from hopen] at h
    exact h
  clear_value d
  generalize s.flowOpened f d none = u at *
  have hjrn := jrn_flowStat u f .pending
  obtain ⟨hstat, -, -⟩ := flowStat_shows u f .pending
  rw [Nat.mod_eq_of_lt (lt_of_freeFidx hfree)] at hstat
  refine ⟨_, hexec, ⟨s.newFlow d, (jFlow_congr hjrn f).trans hentry, rfl, rfl, rfl, rfl, rfl, rfl, rfl, rfl⟩, ?_, hstat,
    sameRegsBut_flowStat honly f, sameMemory_flowStat honly.sameMemory f _⟩
  rw [hjrn]
  exact hcommit

theorem opcode_lt (w : Word) : bitsOf w.toNat 0 12 < 4096 := Nat.mod_lt _ (by decide)

theorem completes_flowcmdClose (hcom : s.comUp = true) (hrun : s.running = true) (hw : bitsOf w.toNat 12 16 = 0)
    (hi : bitsOf w.toNat 0 12 = i) (hx : s.jFlow i = some x) (hrole : x.role ≠ 2) (hready : x.ready = true) :
    Completes (.flowcmdClose false w) s fun t =>
      (∃ c, t.jrn.commits = s.jrn.commits ++ [c] ∧ c.what = .flowClose i none ∧ recType c.record = 7)
      ∧ t.regN A.jrnFlowstat = 2 ^ 16 * Status.pending.code + i ∧ t.jFlow i = some x
      ∧ s.sameRegsBut t [A.jrnFlowstat] ∧ s.sameMemory t := by
  have hlt : i < 4096 := hi ▸ opcode_lt w
  have hclose := closeFlow_of_ready (host := none) hx hrole hready
  have honly : JournalOnly s (s.beginCommit 7 i 0 0 [] (.flowClose i none)) := rfl
  have hentry : (s.beginCommit 7 i 0 0 [] (.flowClose i none)).jFlow i = some x := hx
  have hcommit : ∃ c, (s.beginCommit 7 i 0 0 [] (.flowClose i none)).jrn.commits = s.jrn.commits ++ [c]
      ∧ c.what = .flowClose i none ∧ recType c.record = 7 := ⟨_, rfl, rfl, recType_jrnRecord ..⟩
  have hexec : exec (.flowcmdClose false w) s = .next ((s.beginCommit 7 i 0 0 [] (.flowClose i none)).flowStat i .pending) := by
    have h := exec_flowCmd (g := fun s f => let r := s.closeFlow f none; (r.1, f, r.2)) hcom hrun hw
    dsimp only at h
    rw [hi, hclose] at h
    exact h
  generalize s.beginCommit 7 i 0 0 [] (.flowClose i none) = u at *
  have hjrn := jrn_flowStat u i .pending
  obtain ⟨hstat, -, -⟩ := flowStat_shows u i .pending
  rw [Nat.mod_eq_of_lt hlt] at hstat
  refine ⟨_, hexec, ?_, hstat, (jFlow_congr hjrn i).trans hentry, sameRegsBut_flowStat honly i,
    sameMemory_flowStat honly.sameMemory i _⟩
  rw [hjrn]
  exact hcommit

theorem completes_flowcmdEpoch (hcom : s.comUp = true) (hrun : s.running = true) (hw : bitsOf w.toNat 12 16 = 0)
    (hi : bitsOf w.toNat 0 12 = i) (hx : s.jFlow i = some x) (hrole : x.role ≠ 2) (hready : x.ready = true)
    (hopen : x.closed = false) (hheld : s.heldBy i = []) (hcommits : s.flowCommits i = false)
    (hround : s.roundReached (x.lastDl + 120) = true) :
    Completes (.flowcmdEpoch false w) s fun t =>
      (∃ c, t.jrn.commits = s.jrn.commits ++ [c] ∧ c.what = .flowEpoch i none ∧ recType c.record = 6
        ∧ leAt c.record 12 2 = (s.jrn.epoch + 1) % 65536)
      ∧ t.regN A.jrnFlowstat = 2 ^ 16 * Status.pending.code + i ∧ s.sameRegsBut t [A.jrnFlowstat] ∧ s.sameMemory t := by
  have hlt : i < 4096 := hi ▸ opcode_lt w
  have hepoch := epochFlow_of_idle (host := none) hx hrole hready hopen hheld hcommits hround
  obtain ⟨honly, hcommit⟩ := flowEpoched_shows s i x none
  have hexec : exec (.flowcmdEpoch false w) s = .next ((s.flowEpoched i x none).flowStat i .pending) := by
    have h := exec_flowCmd (g := fun s f => let r := s.epochFlow f none; (r.1, f, r.2)) hcom hrun hw
    dsimp only at h
    rw [hi, hepoch] at h
    exact h
  generalize s.flowEpoched i x none = u at *
  have hjrn := jrn_flowStat u i .pending
  obtain ⟨hstat, -, -⟩ := flowStat_shows u i .pending
  rw [Nat.mod_eq_of_lt hlt] at hstat
  refine ⟨_, hexec, ?_, hstat, sameRegsBut_flowStat honly i, sameMemory_flowStat honly.sameMemory i _⟩
  rw [hjrn]
  exact hcommit

theorem length_flowDesc (s : State) (i : Nat) (x : Flow) : (s.flowDesc i x).length = 32 := by
  simp [State.flowDesc]

theorem jrn_dma (s : State) (a : Nat) (bs : List Byte) : (s.dma a bs).jrn = s.jrn := by
  obtain ⟨ram, pw, h⟩ := dma_eq s a bs
  rw [h]

/-- What an engine writes to SRAM that is on is there. -/
theorem bytes_dma {a m : Nat} {bs : List Byte} (hlen : bs.length = m + 1) (hstack : s.stackHit a (m + 1) = false)
    (hon : s.domainOn (addrDomain a) = true) (hfirst : region a = .mainSram) (hlast : region (a + m) = .mainSram) :
    (s.dma a bs).bytes a (m + 1) = bs := by
  have hdma : s.dma a bs = s.setBytes a bs := by
    unfold State.dma
    rw [hlen, if_neg (by rw [hstack]; decide), if_pos hon]
  have hself := bytes_setBytes_self s (a := a) (bs := bs) fun b hl hu => ramAt_of_sram
    (sram_between (.inl hfirst) (hlast.trans hfirst.symm) hl (by omega))
  rw [hlen] at hself
  rw [hdma, hself]

theorem completes_flowcmdGet (hcom : s.comUp = true) (hrun : s.running = true) (hw : bitsOf w.toNat 12 16 = 0)
    (hi : bitsOf w.toNat 0 12 = i) (hx : s.jFlow i = some x) :
    Completes (.flowcmdGet false w) s fun t =>
      t.regN A.jrnFlowstat = 2 ^ 16 * Status.ok.code + i ∧ t.flag F.jrnIntstatFlowdone = true ∧ t.jrn = s.jrn
      ∧ (s.stackHit (s.regN A.jrnFlowaddr) 32 = false → s.domainOn (addrDomain (s.regN A.jrnFlowaddr)) = true →
          region (s.regN A.jrnFlowaddr) = .mainSram → region (s.regN A.jrnFlowaddr + 31) = .mainSram →
          t.bytes (s.regN A.jrnFlowaddr) 32 = s.flowDesc i x)
      ∧ ∀ a, a < s.regN A.jrnFlowaddr ∨ s.regN A.jrnFlowaddr + 32 ≤ a → t.byte a = s.byte a := by
  have hlt : i < 4096 := hi ▸ opcode_lt w
  have hexec : exec (.flowcmdGet false w) s = .next ((s.dma (s.regN A.jrnFlowaddr) (s.flowDesc i x)).flowStat i .ok) := by
    have h := exec_flowCmd (g := fun s f => match s.jFlow f with
      | some x => (.ok, f, s.dma (s.regN A.jrnFlowaddr) (s.flowDesc f x))
      | none => (.notPermitted, f, s)) hcom hrun hw
    rw [hi, hx] at h
    exact h
  have hlen := length_flowDesc s i x
  have hjrn := jrn_dma s (s.regN A.jrnFlowaddr) (s.flowDesc i x)
  have hin := bytes_dma (s := s) (a := s.regN A.jrnFlowaddr) hlen
  have hout (a : Nat) (ha : a < s.regN A.jrnFlowaddr ∨ s.regN A.jrnFlowaddr + 32 ≤ a) :=
    byte_dma_outside s (s.flowDesc i x) (a := s.regN A.jrnFlowaddr) (y := a) (by rwa [hlen])
  generalize s.dma (s.regN A.jrnFlowaddr) (s.flowDesc i x) = u at *
  obtain ⟨hstat, hwrites, hdone⟩ := flowStat_shows u i .ok
  rw [Nat.mod_eq_of_lt hlt] at hstat
  refine ⟨_, hexec, hstat, hdone (by decide), (jrn_flowStat ..).trans hjrn, fun hstack hon hfirst hlast => ?_, fun a ha => ?_⟩
  · rw [bytes_congr fun b _ _ => hwrites.sameMemory b]
    exact hin hstack hon hfirst hlast
  · rw [hwrites.sameMemory a, hout a ha]

/-! ## Flow commands of the host (R364) -/

theorem flowDesc_taking (s : State) (o : Origin) (i : Nat) (x : Flow) : (s.taking o).flowDesc i x = s.flowDesc i x := rfl

theorem completes_flowOpen (ht : s.takes o 0x22 p) (hp : p.length = 32) (hzero : allZero (p.drop 28) = true)
    (hd : byteAt p 3 ≤ 4) (hflow : leAt p 0 2 ≠ 0xFFFF)
    (hany : s.jrn.flows.any (fun q => q.2.role == 1 && q.2.flow == leAt p 0 2 && !q.2.closed) = false) (hfree : s.freeFidx = some f) :
    Completes (.flowOpen o p) s fun t =>
      (∃ x, t.jFlow f = some x ∧ x.role = 1 ∧ x.flow = leAt p 0 2 ∧ x.epoch = (s.jrn.epoch + 1) % 65536 ∧ x.seq = 0)
      ∧ (∃ c, t.jrn.commits = s.jrn.commits ++ [c] ∧ c.what = .flowOpen f (some o)) ∧ s.sameMemory t := by
  have hmem := sameMemory_taking s o
  have hjrn := jrn_taking s o
  have hx : handleFlowOpen o p (s.taking o) = (.later, ((s.taking o).flowOpened f p (some o)).flowStat f .pending) := by
    unfold handleFlowOpen
    rw [if_neg (by simp [hzero]), openFlow_of_free hd hflow (by rw [hjrn]; exact hany) ((freeFidx_congr hjrn).trans hfree)]
    rfl
  obtain ⟨honly, hentry, c, hcommit, hwhat, -⟩ := flowOpened_shows (s.taking o) f p (some o)
  have hepoch : ((s.taking o).newFlow p).epoch = (s.jrn.epoch + 1) % 65536 := by rw [State.newFlow, hjrn]
  have hkept : ((s.taking o).newFlow p).role = 1 ∧ ((s.taking o).newFlow p).flow = leAt p 0 2 ∧ ((s.taking o).newFlow p).seq = 0 :=
    ⟨rfl, rfl, rfl⟩
  rw [hjrn] at hcommit
  generalize (s.taking o).flowOpened f p (some o) = u at *
  generalize (s.taking o).newFlow p = x at *
  obtain ⟨hrole, hfl, hseq⟩ := hkept
  have hjrn' := jrn_flowStat u f .pending
  refine completes_of_later rfl ht (by rw [hp]; rfl) hx ⟨⟨x, (jFlow_congr hjrn' f).trans hentry, hrole, hfl, hepoch, hseq⟩,
    ⟨c, ?_, hwhat⟩, sameMemory_flowStat (fun a => (honly.sameMemory a).trans (hmem a)) f _⟩
  rw [hjrn']
  exact hcommit

/-- A flow command of the host on an entry that is taken waits for its commit. -/
theorem handleFlow_of_pending {g : State → Nat → Option Origin → Status × State} (hres : leAt p 2 2 = 0)
    (hg : g s (leAt p 0 2) (some o) = (.pending, u)) :
    handleFlow g o p s = (.later, u.flowStat (leAt p 0 2) .pending) := by
  unfold handleFlow
  dsimp only
  rw [if_neg (by simp [hres]), hg]
  rfl

/-- What a commit of a flow command of the host shows. -/
theorem commits_flowStat {x : CommitFor} (hjrn : s.jrn = v.jrn) (hmem : v.sameMemory s) (honly : JournalOnly s u)
    (hcommit : ∃ c, u.jrn.commits = s.jrn.commits ++ [c] ∧ c.what = x) (f : Nat) :
    (∃ c, (u.flowStat f .pending).jrn.commits = v.jrn.commits ++ [c] ∧ c.what = x) ∧ v.sameMemory (u.flowStat f .pending) := by
  refine ⟨?_, sameMemory_flowStat (fun a => (honly.sameMemory a).trans (hmem a)) f _⟩
  rw [jrn_flowStat, ← hjrn]
  exact hcommit

theorem completes_flowClose (hp : p.length = 4) (hres : leAt p 2 2 = 0) (hx : s.jFlow (leAt p 0 2) = some x)
    (ht : s.takes o 0x23 p) (hrole : x.role ≠ 2) (hready : x.ready = true) :
    Completes (.flowClose o p) s fun t =>
      (∃ c, t.jrn.commits = s.jrn.commits ++ [c] ∧ c.what = .flowClose (leAt p 0 2) (some o)) ∧ s.sameMemory t := by
  have hjrn := jrn_taking s o
  have hclose := closeFlow_of_ready (host := some o) ((jFlow_congr hjrn _).trans hx) hrole hready
  exact completes_of_later rfl ht (by rw [hp]; rfl) (handleFlow_of_pending hres hclose)
    (commits_flowStat hjrn (sameMemory_taking s o) (.beginCommit ..) ⟨_, rfl, rfl⟩ _)

theorem completes_flowEpoch (hp : p.length = 4) (hres : leAt p 2 2 = 0) (hx : s.jFlow (leAt p 0 2) = some x)
    (ht : s.takes o 0x24 p) (hrole : x.role ≠ 2) (hready : x.ready = true) (hopen : x.closed = false)
    (hheld : s.heldBy (leAt p 0 2) = []) (hcommits : s.flowCommits (leAt p 0 2) = false)
    (hround : s.roundReached (x.lastDl + 120) = true) :
    Completes (.flowEpoch o p) s fun t =>
      (∃ c, t.jrn.commits = s.jrn.commits ++ [c] ∧ c.what = .flowEpoch (leAt p 0 2) (some o)) ∧ s.sameMemory t := by
  have hjrn := jrn_taking s o
  have hepoch := epochFlow_of_idle (host := some o) ((jFlow_congr hjrn _).trans hx) hrole hready hopen
    ((heldBy_congr hjrn _).trans hheld) ((flowCommits_congr hjrn _).trans hcommits)
    ((roundReached_congr (regN_taking_ne s o (by decide)) _).trans hround)
  obtain ⟨honly, c, hcommit, hwhat, -⟩ := flowEpoched_shows (s.taking o) (leAt p 0 2) x (some o)
  exact completes_of_later rfl ht (by rw [hp]; rfl) (handleFlow_of_pending hres hepoch)
    (commits_flowStat hjrn (sameMemory_taking s o) honly ⟨c, hcommit, hwhat⟩ _)

theorem completes_flowGet (hp : p.length = 4) (hres : leAt p 2 2 = 0) (hx : s.jFlow (leAt p 0 2) = some x)
    (ht : s.takes o 0x25 p) :
    Completes (.flowGet o p) s fun t =>
      t.responded o (rspPayload 0x25 .ok (s.flowDesc (leAt p 0 2) x)) ∧ t.jrn = s.jrn ∧ s.sameMemory t := by
  have hjrn := jrn_taking s o
  have hx' : handleFlowGet o p (s.taking o) =
      (.now .ok (s.flowDesc (leAt p 0 2) x), (s.taking o).flowStat (leAt p 0 2) .ok) := by
    unfold handleFlowGet
    dsimp only
    rw [if_neg (by simp [hres]), jFlow_congr hjrn, hx, ← flowDesc_taking s o]
  exact completes_of_answered rfl ht (by rw [hp]; rfl) hx' ⟨State.responded_respond .., by rw [jrn_respond, jrn_flowStat, hjrn],
    sameMemory_respond (sameMemory_flowStat (sameMemory_taking s o) _ _) o _ _ _⟩

/-! ## Status and hold-up test (R352, R364) -/

theorem jrnBuffered_taking (s : State) (o : Origin) : (s.taking o).jrnBuffered = s.jrnBuffered := by
  unfold State.jrnBuffered State.flag
  rw [fld_taking_ne s o (by decide), fld_taking_ne s o (by decide)]

theorem jrnStat_taking (s : State) (o : Origin) : (s.taking o).jrnStat = s.jrnStat := by
  unfold State.jrnStat
  rw [jrnBuffered_taking, jrn_taking, regN_taking_ne s o (by decide)]

theorem jrnBufstat_taking (s : State) (o : Origin) : (s.taking o).jrnBufstat = s.jrnBufstat := by
  unfold State.jrnBufstat State.jrnWaitBytes State.jrnWaiting State.jrnMirror
  rw [jrn_taking, regN_taking_ne s o (by decide)]

theorem jrnAllow_congr (hjrn : t.jrn = s.jrn) (htb : t.tb = s.tb) : t.jrnAllow = s.jrnAllow := by
  unfold State.jrnAllow
  rw [hjrn, htb]

theorem jrnWear_taking (s : State) (o : Origin) : (s.taking o).jrnWear = s.jrnWear := by
  unfold State.jrnWear
  rw [jrnAllow_congr (jrn_taking s o) (tb_taking s o), jrn_taking, regN_taking_ne s o (by decide)]

theorem completes_jrnStatus (ht : s.takes o 0x26 p) (hp : p.length = 0) :
    Completes (.jrnStatus o p) s fun t =>
      t.responded o (rspPayload 0x26 .ok (leBytes 4 s.jrnStat ++ leBytes 4 (s.regN A.jrnCommitted)
        ++ leBytes 4 s.jrnBufstat ++ leBytes 4 s.jrnWear ++ leBytes 4 (s.regN A.jrnHoldres)))
      ∧ t.jrn = s.jrn ∧ s.sameMemory t := by
  refine completes_of_answered rfl ht (by rw [hp]; rfl) rfl ?_
  rw [jrnStat_taking, jrnBufstat_taking, jrnWear_taking, regN_taking_ne s o (by decide), regN_taking_ne s o (by decide)]
  exact ⟨State.responded_respond .., (jrn_respond ..).trans (jrn_taking s o), sameMemory_respond (sameMemory_taking s o) o _ _ _⟩

theorem mode_taking (s : State) (o : Origin) : (s.taking o).mode = s.mode := fld_taking_ne s o (by decide)

theorem completes_holdTest (ht : s.takes o 0x27 p) (hp : p.length = 0) :
    (s.mode = 4 → s.jrn.holding = false →
      Completes (.holdTest o p) s fun t => t.jrn.holding = true ∧ t.jrn.holdHost = some o ∧ s.sameMemory t)
    ∧ (s.mode ≠ 4 →
      Completes (.holdTest o p) s fun t =>
        t.jrn = s.jrn ∧ t.responded o (rspPayload 0x27 .notPermitted []) ∧ s.sameMemory t) := by
  have hjrn := jrn_taking s o
  have hmode := mode_taking s o
  have hmem := sameMemory_taking s o
  constructor
  · intro hkeeper hfree
    have hx : handleHoldTest o p (s.taking o) = (.later, { s.taking o with
        jrn := { (s.taking o).jrn with holding := true, holdHost := some o } }) := by
      unfold handleHoldTest
      rw [if_neg (by simp [hmode, hkeeper]), if_neg (by simp [hjrn, hfree])]
    exact completes_of_later rfl ht (by rw [hp]; rfl) hx
      ⟨rfl, rfl, fun a => ((JournalOnly.setJrn (s.taking o) _).sameMemory a).trans (hmem a)⟩
  · intro hother
    have hx : handleHoldTest o p (s.taking o) = (.now .notPermitted [], s.taking o) := if_pos (by simp [hmode, hother])
    exact completes_of_answered rfl ht (by rw [hp]; rfl) hx
      ⟨(jrn_respond ..).trans hjrn, State.responded_respond .., sameMemory_respond hmem o _ _ _⟩

/-! ## Freed entries (R334) -/

/-- An entry leaves. -/
def State.dropFlow (s : State) (f : Nat) : State := { s with jrn := { s.jrn with flows := Sparse.erase s.jrn.flows f } }

theorem jFlow_dropFlow (s : State) (f : Nat) : (s.dropFlow f).jFlow f = none := jFlow_erase s f

theorem execFlowFree_of_over (hcom : s.comUp = true) (hrun : s.running = true) (hx : s.jFlow f = some x)
    (hheld : s.heldBy f = []) (hcommits : s.flowCommits f = false) (hround : s.roundReached (x.lastDl + 120) = true)
    (hend : (x.role == 2 || x.closed) = true) :
    execFlowFree f s =
      .next (if x.role = 2 then (s.dropFlow f).beginCommit 7 f 0 0 [] .internal else s.dropFlow f) := by
  unfold execFlowFree
  rw [hx]
  refine congrArg Host.Outcome.next (if_pos ?_)
  rw [hcom, hrun, hheld, hcommits, hround, hend]
  rfl

theorem completes_flowFree (hcom : s.comUp = true) (hrun : s.running = true) (hx : s.jFlow f = some x)
    (hheld : s.heldBy f = []) (hcommits : s.flowCommits f = false) (hround : s.roundReached (x.lastDl + 120) = true) :
    (x.role = 2 →
      Completes (.flowFree f) s fun t =>
        t.jFlow f = none ∧ (∃ c, t.jrn.commits = s.jrn.commits ++ [c] ∧ c.what = .internal ∧ recType c.record = 7)
        ∧ s.sameRegsBut t [] ∧ s.sameMemory t)
    ∧ (x.role ≠ 2 → x.closed = true →
      Completes (.flowFree f) s fun t => t.jFlow f = none ∧ t.jrn.commits = s.jrn.commits
        ∧ s.sameRegsBut t [] ∧ s.sameMemory t) := by
  have hexec := execFlowFree_of_over hcom hrun hx hheld hcommits hround
  constructor
  · intro hrole
    have honly : JournalOnly s ((s.dropFlow f).beginCommit 7 f 0 0 [] .internal) := rfl
    refine ⟨_, (hexec (by simp [hrole])).trans (congrArg _ (if_pos hrole)), jFlow_dropFlow s f, ⟨_, rfl, rfl, recType_jrnRecord ..⟩,
      honly.sameRegs, honly.sameMemory⟩
  · intro hrole hclosed
    have honly : JournalOnly s (s.dropFlow f) := rfl
    exact ⟨_, (hexec (by simp [hclosed])).trans (congrArg _ (if_neg hrole)), jFlow_dropFlow s f, rfl, honly.sameRegs, honly.sameMemory⟩

/-! ## Delivery settings (R359) -/

theorem completes_deliveryConfigApply (hstaged : s.jrn.dlvStaged = true) :
    Completes .deliveryConfigApply s fun t =>
      t.jrn.dlvStaged = false ∧ t.jrn.dlvBase = 8 * s.fld F.jrnDlvbaseAddr ∧ t.jrn.dlvCount = s.fld F.jrnDlvcountCount
      ∧ (∀ m ∈ t.jrn.msgs, m.dlv.isSome = true → m.settling = true) ∧ s.sameRegsBut t [] ∧ s.sameMemory t := by
  refine ⟨_, congrArg Host.Outcome.next (if_pos hstaged), rfl, rfl, rfl, ?_, fun _ _ => rfl, fun _ => rfl⟩
  intro m hm hdlv
  obtain ⟨m', -, rfl⟩ := List.mem_map.1 hm
  cases hd : m'.dlv with
  | none => simp [hd] at hdlv
  | some t =>
    cases hs : m'.settling with
    | true => simp [hd, hs]
    | false => simp [hd, hs] at hdlv

/-! ## A copy that fails (R331, R365) -/

/-- A fault that is captured leaves the journal, the memory, and every register but FCR.INTSTAT. -/
theorem captureFault_tells (s : State) (kind site d1 d2 d3 : Nat) (regs : List Nat) :
    s.sameRegsBut (s.captureFault kind site d1 d2 d3 regs) [A.fcrIntstat]
    ∧ (s.captureFault kind site d1 d2 d3 regs).jrn = s.jrn ∧ s.sameMemory (s.captureFault kind site d1 d2 d3 regs) := by
  unfold State.captureFault
  split
  · exact ⟨fun _ _ => rfl, rfl, fun _ => rfl⟩
  · split
    · have h : WritesOnly [A.fcrIntstat] { s with fcr := { s.fcr with lost := satAdd 0xFFFFFFFF s.fcr.lost 1 } }
          (State.raise { s with fcr := { s.fcr with lost := satAdd 0xFFFFFFFF s.fcr.lost 1 } } F.fcrIntstatFull) :=
        (WritesOnly.refl _ _).raise
      exact ⟨h.regs, rfl, h.sameMemory⟩
    · exact ⟨fun _ _ => rfl, rfl, fun _ => rfl⟩

/-- A copy leaves service. -/
def State.copyDown (s : State) (k : Nat) : State :=
  { (s.clearBit A.jrnStat (20 + k)).raise F.jrnIntstatDegraded with jrn := { s.jrn with failed := k :: s.jrn.failed } }

/-- The fault of a copy that leaves service. -/
def State.copyFault (s : State) (k st : Nat) : State :=
  s.captureFault 6 (Site.pack { depth := 2, d := 2, c := k, t := 0, m := 0, w := 0, b := 0 }) st 0 0 []

theorem execPlaneFail_of_copy {st : Nat} (hcom : s.comUp = true) (hk : k < 2) (hcopy : s.jrnCopy k = true) :
    execPlaneFail k st s = .next (((s.copyDown k).copyFault k st).jrnNotice .ok 0) :=
  congrArg Host.Outcome.next (if_pos (by simp [hcom, hk, hcopy]))

theorem writesOnly_copyDown (s : State) (k : Nat) :
    WritesOnly [A.jrnStat, A.jrnIntstat] { s with jrn := { s.jrn with failed := k :: s.jrn.failed } } (s.copyDown k) :=
  ((WritesOnly.refl _ _).clearBit (.head _)).raise (f := F.jrnIntstatDegraded)

theorem copies_copyDown (s : State) (hk : k < 2) :
    (s.copyDown k).jrnCopy k = false ∧ (s.copyDown k).jrnCopy (1 - k) = s.jrnCopy (1 - k)
    ∧ (s.copyDown k).flag F.jrnIntstatDegraded = true := by
  have hraise : (s.copyDown k).regN A.jrnStat = (s.clearBit A.jrnStat (20 + k)).regN A.jrnStat :=
    regN_raise_ne (s.clearBit A.jrnStat (20 + k)) (f := F.jrnIntstatDegraded) (by decide)
  refine ⟨(congrArg (bitAt · (20 + k)) hraise).trans (bit_clearBit_self s A.jrnStat (by omega)),
    (congrArg (bitAt · (20 + (1 - k))) hraise).trans (bit_clearBit_ne s A.jrnStat (by omega) (by omega)),
    flag_raise_at (s.clearBit A.jrnStat (20 + k))⟩

theorem completes_planeFail {st : Nat} (hcom : s.comUp = true) (hk : k < 2) (hcopy : s.jrnCopy k = true) :
    Completes (.planeFail k st) s fun t =>
      t.jrnCopy k = false ∧ t.jrnCopy (1 - k) = s.jrnCopy (1 - k) ∧ t.flag F.jrnIntstatDegraded = true
      ∧ t.jrn.failed = k :: s.jrn.failed ∧ s.sameMemory t := by
  refine ⟨_, execPlaneFail_of_copy hcom hk hcopy, ?_⟩
  obtain ⟨hdown, hother, hflag⟩ := copies_copyDown s hk
  have hfailed : (s.copyDown k).jrn.failed = k :: s.jrn.failed := rfl
  have hmem : s.sameMemory (s.copyDown k) := fun _ => rfl
  generalize s.copyDown k = u at *
  have hcap : u.sameRegsBut (u.copyFault k st) [A.fcrIntstat] ∧ (u.copyFault k st).jrn = u.jrn ∧ u.sameMemory (u.copyFault k st) :=
    captureFault_tells ..
  obtain ⟨hregs, hjrn, hbytes⟩ := hcap
  generalize u.copyFault k st = v at *
  have htell : Tells [A.hslCtr 6, A.hslIntstat] v (v.jrnNotice .ok 0) := tells_notice ..
  generalize v.jrnNotice .ok 0 = t at *
  have hreg (a : Nat) (h1 : a ∉ [A.hslCtr 6, A.hslIntstat]) (h2 : a ∉ [A.fcrIntstat]) : t.regN a = u.regN a :=
    congrArg BitVec.toNat ((htell.regs a h1).trans (hregs a h2))
  have hstat : t.regN A.jrnStat = u.regN A.jrnStat := hreg _ (by decide) (by decide)
  refine ⟨(congrArg (bitAt · (20 + k)) hstat).trans hdown, (congrArg (bitAt · (20 + (1 - k))) hstat).trans hother,
    (flag_eq_of_regN (hreg _ (by decide) (by decide))).trans hflag, ?_, fun a => ?_⟩
  · rw [htell.rest]
    exact (congrArg JrnState.failed hjrn).trans hfailed
  · rw [htell.sameMemory a, hbytes a, hmem a]

/-! ## Checkpoints and wear (R348, R351) -/

/-- The sector that a checkpoint erases. -/
def State.oldSector (s : State) : Nat := (s.jrn.page + s.jrn.ready) % 16384 / 16

/-- A sector of both copies is erased and counted. -/
def State.eraseSector (s : State) (n : Nat) : State :=
  ((s.eraseFlash (pageOff 0 (16 * n)) (pageOff 0 (16 * n + 16))).eraseFlash (pageOff 1 (16 * n)) (pageOff 1 (16 * n + 16))).flcCount 4 2

/-- Erased pages are at hand again. -/
def State.sectorReady (s : State) : State := { s with jrn := { s.jrn with ready := s.jrn.ready + 16 } }

/-- The state in which a checkpoint writes. -/
def State.nextJseq (s : State) : State := { s with jrn := { s.jrn with jseq := s.jrn.jseq + 1 } }

/-- A checkpoint writes records and erases the oldest sector. -/
theorem execJournalCheckpoint_of_room (hcom : s.comUp = true) (hroom : s.jrnRoomFor 17 = true) (hready : s.jrn.ready + 32 ≤ 16384) :
    ∃ recs, execJournalCheckpoint s = .next ((s.nextJseq.writePages true recs).eraseSector s.oldSector).sectorReady := by
  unfold execJournalCheckpoint State.nextJseq State.sectorReady State.eraseSector State.oldSector
  dsimp only
  rw [if_pos (by rw [hcom, hroom, decide_eq_true hready]; rfl)]
  exact ⟨_, rfl⟩

theorem get_eraseFlash_within (s : State) {lo hi a : Nat} (hl : lo ≤ a) (hu : a < hi) :
    Sparse.get (fun _ => (0xFF : Byte)) (s.eraseFlash lo hi).flash a = 0xFF := by
  have h := Sparse.find?_filter_dropped s.flash (p := fun k => k < lo || hi ≤ k) (k := a) (by simp; omega)
  rw [Sparse.get, State.eraseFlash, Sparse.eraseRange, h]
  rfl

theorem get_eraseFlash_outside (s : State) {lo hi a : Nat} (h : a < lo ∨ hi ≤ a) :
    Sparse.get (fun _ => (0xFF : Byte)) (s.eraseFlash lo hi).flash a = Sparse.get (fun _ => 0xFF) s.flash a := by
  have h := Sparse.find?_filter_kept s.flash (p := fun k => k < lo || hi ≤ k) (k := a) (by simp; omega)
  rw [Sparse.get, State.eraseFlash, Sparse.eraseRange, h, Sparse.get]

theorem get_eraseSector (s : State) {n k m : Nat} (hk : k < 2) (hm : m < 4096) :
    Sparse.get (fun _ => (0xFF : Byte)) (s.eraseSector n).flash (pageOff k (n * 16) + m) = 0xFF := by
  rw [State.eraseSector, flash_flcCount]
  obtain rfl | rfl : k = 0 ∨ k = 1 := by omega
  · rw [get_eraseFlash_outside _ (.inl (by unfold pageOff; simp only [if_true, if_neg Nat.one_ne_zero]; omega))]
    exact get_eraseFlash_within s (by unfold pageOff; omega) (by unfold pageOff; omega)
  · exact get_eraseFlash_within _ (by unfold pageOff; omega) (by unfold pageOff; omega)

theorem completes_journalCheckpoint (hcom : s.comUp = true) (hroom : s.jrnRoomFor 17 = true) (hready : s.jrn.ready + 32 ≤ 16384) :
    Completes .journalCheckpoint s fun t =>
      t.jrn.jseq = s.jrn.jseq + 1 ∧ t.jrn.msgs = s.jrn.msgs ∧ t.jrn.flows = s.jrn.flows
      ∧ (∀ k n, k < 2 → n < 4096 →
          Sparse.get (fun _ => (0xFF : Byte)) t.flash (pageOff k ((s.jrn.page + s.jrn.ready) % 16384 / 16 * 16) + n) = 0xFF) := by
  obtain ⟨recs, hexec⟩ := execJournalCheckpoint_of_room hcom hroom hready
  refine ⟨_, hexec, ?_⟩
  have hwork : Recorded s.nextJseq (s.nextJseq.writePages true recs) := (Recorded.refl _).writePages
  have hnext : s.nextJseq.jrn.jseq = s.jrn.jseq + 1 ∧ s.nextJseq.jrn.msgs = s.jrn.msgs ∧ s.nextJseq.jrn.flows = s.jrn.flows :=
    ⟨rfl, rfl, rfl⟩
  generalize s.nextJseq.writePages true recs = u at *
  have hget (k m : Nat) (hk : k < 2) (hm : m < 4096) := get_eraseSector u (n := s.oldSector) hk hm
  have hjrn : (u.eraseSector s.oldSector).jrn = u.jrn := rfl
  generalize u.eraseSector s.oldSector = v at *
  have hkept : v.sectorReady.jrn.jseq = v.jrn.jseq ∧ v.sectorReady.jrn.msgs = v.jrn.msgs ∧ v.sectorReady.jrn.flows = v.jrn.flows
      ∧ v.sectorReady.flash = v.flash := ⟨rfl, rfl, rfl, rfl⟩
  generalize v.sectorReady = t at *
  obtain ⟨hseq, hmsgs, hflows, hflash⟩ := hkept
  obtain ⟨hseq', hmsgs', hflows'⟩ := hnext
  refine ⟨by rw [hseq, hjrn, hwork.jseq, hseq'], by rw [hmsgs, hjrn, hwork.msgs, hmsgs'], by rw [hflows, hjrn, hwork.flows, hflows'],
    fun k n hk hn => ?_⟩
  rw [hflash]
  exact hget k n hk hn

/-- Settles O41: each flow command is one record that begins and its result in FLOWSTAT, a delivery setting frees the
deliveries, a checkpoint ends in the erase of its sector in both copies, and a failed copy leaves JRN.STAT. -/
theorem journalFlowsAndCopies : Obligations.JournalFlowsAndCopies := by
  unfold Obligations.JournalFlowsAndCopies
  intro s
  refine ⟨fun w hcom hrun hw => ⟨completes_flowcmdOpen hcom hrun hw, ?_, ?_⟩, fun o p => ⟨?_, ?_, ?_, ?_⟩, ?_, ?_, ?_, ?_, ?_⟩
  · intro x hx hrole hready
    exact ⟨completes_flowcmdClose hcom hrun hw rfl hx hrole hready, completes_flowcmdEpoch hcom hrun hw rfl hx hrole hready⟩
  · exact fun x hx => completes_flowcmdGet hcom hrun hw rfl hx
  · exact fun f ht hp => completes_flowOpen ht hp
  · exact fun hp hres x hx => ⟨completes_flowClose hp hres hx, completes_flowEpoch hp hres hx, completes_flowGet hp hres hx⟩
  · exact completes_jrnStatus
  · exact completes_holdTest
  · exact fun f x hcom hrun hx => completes_flowFree hcom hrun hx
  · exact completes_journalCheckpoint
  · exact completes_deliveryConfigApply
  · exact fun k st hcom hk hcopy => completes_planeFail hcom hk hcopy
  · intro hover hback
    exact ⟨_, congrArg Host.Outcome.next (if_pos (by simp [hover, hback])), rfl⟩

end Sys2Proof.Machine
end

section
/-!
Messages that are submitted, received, acknowledged, released and expired (R336, R338, R339, R341, R343, R344, R364): each
begins a record of the journal.
-/

namespace Sys2Proof.Machine

variable {s t u v : State} {f j k n h tag : Nat} {o : Origin} {host : Option Origin} {p b payload : List Byte} {w : Word}
  {x : Flow} {m : Msg} {what : CommitFor}

/-! ## Messages -/

theorem jseq_of_jMsg (h : s.jMsg j = some m) : m.jseq = j := by
  have hfound := List.find?_some h
  simpa using hfound

theorem jMsg_congr (h : t.jrn = s.jrn) (j : Nat) : t.jMsg j = s.jMsg j := by
  unfold State.jMsg
  rw [h]

/-- A changed message carries the change. -/
theorem mapMsg_shows {P : Msg → Prop} {g : Msg → Msg} (hP : ∀ m, P (g m)) :
    ∀ x ∈ (s.mapMsg j g).jrn.msgs, x.jseq = j → P x := by
  intro x hx hj
  obtain ⟨y, -, rfl⟩ := List.mem_map.1 hx
  split at hj
  · rw [if_pos ‹_›]
    exact hP y
  next hne => exact absurd hj (by simpa using hne)

/-- A message that is being settled by a record. -/
def State.settleBy (s : State) (j type fidx w8 w12 : Nat) (what : CommitFor) : State :=
  (s.mapMsg j (fun m => { m with settling := true })).beginCommit type fidx w8 w12 [] what

theorem settleBy_shows (s : State) (j type fidx w8 w12 : Nat) (what : CommitFor) :
    JournalOnly s (s.settleBy j type fidx w8 w12 what)
    ∧ (∃ c, (s.settleBy j type fidx w8 w12 what).jrn.commits = s.jrn.commits ++ [c] ∧ c.what = what
      ∧ recType c.record = type % 256 ∧ recFidx c.record = fidx % 65536)
    ∧ ∀ x ∈ (s.settleBy j type fidx w8 w12 what).jrn.msgs, x.jseq = j → x.settling = true := by
  refine ⟨rfl, ⟨_, rfl, rfl, recType_jrnRecord .., recFidx_jrnRecord ..⟩, ?_⟩
  exact mapMsg_shows (s := s) (P := fun m => m.settling = true) fun _ => rfl

theorem beginCommit_shows (s : State) (type fidx w8 w12 : Nat) (body : List Byte) (what : CommitFor) :
    ∃ c, (s.beginCommit type fidx w8 w12 body what).jrn.commits = s.jrn.commits ++ [c] ∧ c.what = what
      ∧ recType c.record = type % 256 ∧ recFidx c.record = fidx % 65536 :=
  ⟨_, rfl, rfl, recType_jrnRecord .., recFidx_jrnRecord ..⟩

/-! ## Submissions (R336) -/

theorem subMsg_of_pending {r : Bool} (h : s.subCode b r = .pending) :
    s.subMsg b payload r host =
      (.pending, (s.beginAccept (leAt b 0 2) (leAt b 2 2) (leAt b 4 4) payload (.submit (leAt b 10 2) host)).setRegN A.jrnSubstat
        (2 ^ 16 * Status.pending.code + leAt b 10 2)) := by
  unfold State.subMsg
  rw [h]
  rfl

theorem subMsg_of_refused {r : Bool} (h : s.subCode b r ≠ .pending) :
    s.subMsg b payload r host =
      (s.subCode b r, ((if s.subCode b r = .quota then s.raise F.jrnIntstatQuota else s).raise F.jrnIntstatSubdone).setRegN A.jrnSubstat
        (2 ^ 16 * (s.subCode b r).code + leAt b 10 2)) := by
  unfold State.subMsg
  dsimp only
  rw [if_neg h]

theorem regN_substat (s : State) (st : Status) (b : List Byte) :
    (s.setRegN A.jrnSubstat (2 ^ 16 * st.code + leAt b 10 2)).regN A.jrnSubstat = 2 ^ 16 * st.code + leAt b 10 2 := by
  have hst := status_code_lt st
  have htag := leAt_lt b 10 2
  rw [State.regN_setRegN_self, Nat.mod_eq_of_lt]
  omega

theorem beginAccept_of_flow (hf : s.jFlow f = some x) {life seq : Nat} :
    s.beginAccept f life seq payload what =
      s.beginCommit 1 f seq ((s.round0 + 1 + life) % 2 ^ 32)
        (acceptBody x.epoch 2 (ecrcOf x.flow x.epoch seq x.origin ((s.round0 + 1 + life) % 2 ^ 32) payload) 0 payload) what := by
  unfold State.beginAccept
  rw [hf]

/-- A submission whose code is PENDING names an entry. -/
theorem jFlow_of_subCode {r : Bool} (h : s.subCode b r = .pending) : ∃ x, s.jFlow (leAt b 0 2) = some x := by
  cases hf : s.jFlow (leAt b 0 2) with
  | some x => exact ⟨x, rfl⟩
  | none =>
    unfold State.subCode at h
    dsimp only at h
    rw [hf] at h
    split at h
    · cases h
    · split at h
      · cases h
      · cases h

theorem execJrnSubmit_of_aligned (hcom : s.comUp = true) (hrun : s.running = true) (hw : w.toNat % 8 = 0)
    (hbuf : leAt (s.bytes w.toNat 16) 12 4 % 8 = 0) :
    exec (.jrnSubmit false w) s = .next (s.subMsg (s.bytes w.toNat 16)
      (s.bytes (leAt (s.bytes w.toNat 16) 12 4) (leAt (s.bytes w.toNat 16) 8 2)) false none).2 := by
  have hdiv : w.toNat / 8 * 8 = w.toNat := Nat.div_mul_cancel (Nat.dvd_of_mod_eq_zero hw)
  change execJrnSubmit false w s = _
  unfold execJrnSubmit
  rw [guarded_machine, if_pos (by simp [hcom, hrun])]
  dsimp only
  rw [hdiv, hw, hbuf]
  rfl

theorem completes_jrnSubmit (hcom : s.comUp = true) (hrun : s.running = true) (hw : w.toNat % 8 = 0) :
    let b := s.bytes w.toNat 16
    leAt b 12 4 % 8 = 0 → s.jFlow (leAt b 0 2) = some x →
    (s.subCode b false = .pending →
      Completes (.jrnSubmit false w) s fun t =>
        let payload := s.bytes (leAt b 12 4) (leAt b 8 2)
        let dl := (s.round0 + 1 + leAt b 2 2) % 2 ^ 32
        t.jrn.commits = s.jrn.commits ++
          [{ record := jrnRecord 1 (leAt b 0 2) s.jrn.jseq (leAt b 4 4) dl
                (acceptBody x.epoch 2 (ecrcOf x.flow x.epoch (leAt b 4 4) x.origin dl payload) 0 payload),
             what := .submit (leAt b 10 2) none }]
        ∧ t.jrn.jseq = s.jrn.jseq + 1 ∧ t.regN A.jrnSubstat = 2 ^ 16 * Status.pending.code + leAt b 10 2
        ∧ t.jrn.msgs = s.jrn.msgs ∧ s.sameRegsBut t [A.jrnSubstat] ∧ s.sameMemory t)
    ∧ (s.subCode b false ≠ .pending →
      Completes (.jrnSubmit false w) s fun t =>
        t.jrn = s.jrn ∧ t.regN A.jrnSubstat = 2 ^ 16 * (s.subCode b false).code + leAt b 10 2
        ∧ t.flag F.jrnIntstatSubdone = true ∧ s.sameRegsBut t [A.jrnSubstat, A.jrnIntstat] ∧ s.sameMemory t) := by
  intro b hbuf hf
  have hexec := execJrnSubmit_of_aligned hcom hrun hw hbuf
  rw [show s.bytes w.toNat 16 = b from rfl] at hexec
  clear_value b
  generalize s.bytes (leAt b 12 4) (leAt b 8 2) = payload at *
  constructor
  · intro hcode
    rw [subMsg_of_pending hcode, beginAccept_of_flow hf] at hexec
    refine ⟨_, hexec, ?_⟩
    dsimp only
    generalize (s.round0 + 1 + leAt b 2 2) % 2 ^ 32 = dl
    generalize hbody : acceptBody x.epoch 2 (ecrcOf x.flow x.epoch (leAt b 4 4) x.origin dl payload) 0 payload = body
    have hcommit : (s.beginCommit 1 (leAt b 0 2) (leAt b 4 4) dl body (.submit (leAt b 10 2) none)).jrn.commits =
        s.jrn.commits ++ [{ record := jrnRecord 1 (leAt b 0 2) s.jrn.jseq (leAt b 4 4) dl body, what := .submit (leAt b 10 2) none }]
        ∧ (s.beginCommit 1 (leAt b 0 2) (leAt b 4 4) dl body (.submit (leAt b 10 2) none)).jrn.jseq = s.jrn.jseq + 1
        ∧ (s.beginCommit 1 (leAt b 0 2) (leAt b 4 4) dl body (.submit (leAt b 10 2) none)).jrn.msgs = s.jrn.msgs := ⟨rfl, rfl, rfl⟩
    have honly : JournalOnly s (s.beginCommit 1 (leAt b 0 2) (leAt b 4 4) dl body (.submit (leAt b 10 2) none)) := .beginCommit ..
    generalize s.beginCommit 1 (leAt b 0 2) (leAt b 4 4) dl body (.submit (leAt b 10 2) none) = u at *
    have hset : WritesOnly [A.jrnSubstat] u (u.setRegN A.jrnSubstat (2 ^ 16 * Status.pending.code + leAt b 10 2)) :=
      (WritesOnly.refl _ u).setRegN
    have hstat := regN_substat u .pending b
    generalize u.setRegN A.jrnSubstat (2 ^ 16 * Status.pending.code + leAt b 10 2) = t at *
    have hjrn : t.jrn = u.jrn := by rw [hset.rest]
    obtain ⟨hcommits, hjseq, hmsgs⟩ := hcommit
    rw [hjrn]
    exact ⟨hcommits, hjseq, hstat, hmsgs, fun a ha => (hset.regs a ha).trans (honly.reg a),
      fun a => (hset.sameMemory a).trans (honly.sameMemory a)⟩
  · intro hcode
    rw [subMsg_of_refused hcode] at hexec
    refine ⟨_, hexec, ?_⟩
    generalize s.subCode b false = st at *
    have hraise : WritesOnly [A.jrnSubstat, A.jrnIntstat] s
        ((if st = .quota then s.raise F.jrnIntstatQuota else s).raise F.jrnIntstatSubdone) :=
      (WritesOnly.ite ((WritesOnly.refl _ s).raise) (.refl _ s)).raise
    have hflag : ((if st = .quota then s.raise F.jrnIntstatQuota else s).raise F.jrnIntstatSubdone).flag F.jrnIntstatSubdone = true :=
      flag_raise_at _
    generalize (if st = .quota then s.raise F.jrnIntstatQuota else s).raise F.jrnIntstatSubdone = u at *
    have hset : WritesOnly [A.jrnSubstat, A.jrnIntstat] s (u.setRegN A.jrnSubstat (2 ^ 16 * st.code + leAt b 10 2)) := hraise.setRegN
    have hflag' : (u.setRegN A.jrnSubstat (2 ^ 16 * st.code + leAt b 10 2)).flag F.jrnIntstatSubdone = true :=
      (flag_eq_of_regN (State.regN_setRegN_ne u _ (by decide))).trans hflag
    exact ⟨by rw [hset.rest], regN_substat u st b, hflag', hset.regs, hset.sameMemory⟩

/-! ## MSG_SEND (R364) -/

theorem flag_taking_ne (s : State) {g : Fld} (o : Origin) (hg : g.addr ≠ A.hslCtr 0) : (s.taking o).flag g = s.flag g := by
  unfold State.flag
  rw [fld_taking_ne s o hg]

theorem subCode_taking (s : State) (o : Origin) (b : List Byte) (r : Bool) : (s.taking o).subCode b r = s.subCode b r := by
  have hjrn := jrn_taking s o
  have hwait : (s.taking o).jrnWaitBytes = s.jrnWaitBytes := by
    unfold State.jrnWaitBytes State.jrnWaiting State.jrnMirror
    rw [hjrn, regN_taking_ne s o (by decide)]
  have hquota (n : Nat) : (s.taking o).jrnQuota n = s.jrnQuota n := by
    unfold State.jrnQuota State.jrnHeld State.jrnAccepting State.jrnFull State.jrnWorn
    rw [jrnBuffered_taking, hwait, hjrn, fld_taking_ne s o (by decide), flag_taking_ne s o (by decide), flag_taking_ne s o (by decide)]
  have hpending : (s.taking o).subPending = s.subPending := by
    unfold State.subPending
    rw [hjrn]
  unfold State.subCode
  simp only [mode_taking, flag_taking_ne s o (show F.jrnCfgEn.addr ≠ A.hslCtr 0 by decide), jFlow_congr hjrn, hquota, hpending]

theorem completes_msgSend (ht : s.takes o 0x20 p) (hp : p.length = 16 + leAt p 8 2) (hzero : leAt p 12 4 = 0) :
    (s.subCode p false = .pending →
      Completes (.msgSend o p) s fun t =>
        (∃ c, t.jrn.commits = s.jrn.commits ++ [c] ∧ c.what = .submit (leAt p 10 2) (some o) ∧ recType c.record = 1
          ∧ recFidx c.record = leAt p 0 2) ∧ s.sameMemory t)
    ∧ (s.subCode p false ≠ .pending →
      Completes (.msgSend o p) s fun t =>
        t.jrn = s.jrn ∧ t.responded o (rspPayload 0x20 (s.subCode p false) (leBytes 4 0 ++ leBytes 2 (leAt p 10 2) ++ [0, 0]))
        ∧ s.sameMemory t) := by
  have hjrn := jrn_taking s o
  have hmem := sameMemory_taking s o
  have hcode' := subCode_taking s o p false
  have hhandle : handleMsgSend o p (s.taking o) =
      (let r := (s.taking o).subMsg p (p.drop 16) false (some o)
       if r.1 = .pending then (.later, r.2) else (.now r.1 (sendRest 0 (leAt p 10 2)), r.2)) := by
    unfold handleMsgSend
    rw [hzero]
    rfl
  have hlen : (16 ≤ p.length && p.length == 16 + leAt p 8 2) = true := by simp [hp]
  constructor
  · intro hcode
    obtain ⟨x, hx⟩ := jFlow_of_subCode (hcode'.trans hcode)
    rw [subMsg_of_pending (hcode'.trans hcode), beginAccept_of_flow hx] at hhandle
    generalize hbody : acceptBody x.epoch 2 (ecrcOf x.flow x.epoch (leAt p 4 4) x.origin
      (((s.taking o).round0 + 1 + leAt p 2 2) % 2 ^ 32) (p.drop 16)) 0 (p.drop 16) = body at hhandle
    obtain ⟨c, hcommit, hwhat, htype, hfidx⟩ := beginCommit_shows (s.taking o) 1 (leAt p 0 2) (leAt p 4 4)
      (((s.taking o).round0 + 1 + leAt p 2 2) % 2 ^ 32) body (.submit (leAt p 10 2) (some o))
    rw [hjrn] at hcommit
    refine completes_of_later rfl ht hlen hhandle ⟨⟨c, hcommit, hwhat, htype, ?_⟩, fun a => hmem a⟩
    exact hfidx.trans (Nat.mod_eq_of_lt (leAt_lt p 0 2))
  · intro hcode
    rw [subMsg_of_refused (by rwa [hcode']), hcode'] at hhandle
    dsimp only at hhandle
    rw [if_neg hcode] at hhandle
    have hw : WritesOnly [A.jrnSubstat, A.jrnIntstat] (s.taking o)
        (((if s.subCode p false = .quota then (s.taking o).raise F.jrnIntstatQuota
        else s.taking o).raise F.jrnIntstatSubdone).setRegN A.jrnSubstat (2 ^ 16 * (s.subCode p false).code + leAt p 10 2)) :=
      ((WritesOnly.ite ((WritesOnly.refl _ _).raise) (.refl _ _)).raise).setRegN
    generalize ((if s.subCode p false = .quota then (s.taking o).raise F.jrnIntstatQuota
        else s.taking o).raise F.jrnIntstatSubdone).setRegN A.jrnSubstat (2 ^ 16 * (s.subCode p false).code + leAt p 10 2) = u at *
    refine completes_of_answered rfl ht hlen hhandle ⟨?_, State.responded_respond .., ?_⟩
    · rw [jrn_respond, hw.rest]
      exact hjrn
    · exact sameMemory_respond (fun a => (hw.sameMemory a).trans (hmem a)) o _ _ _

/-! ## Releases (R343, R364) -/

theorem relstat_setFld (s : State) (st : Status) :
    WritesOnly [A.jrnRelstat] s (s.setFld F.jrnRelstatResult st.code)
    ∧ (s.setFld F.jrnRelstatResult st.code).fld F.jrnRelstatResult = st.code := by
  refine ⟨(WritesOnly.refl _ s).setFld, ?_⟩
  rw [State.fld_setFld_self _ _ _ (by decide)]
  exact Nat.mod_eq_of_lt (status_code_lt st)

theorem release_of_pending (hm : s.jMsg j = some m) (hcode : s.relCode j = .pending) :
    s.release j host = (.pending, (s.setFld F.jrnRelstatResult Status.pending.code).settleBy j 3 m.fidx m.seq j (.released j host)) := by
  have hm' : (s.setFld F.jrnRelstatResult Status.pending.code).jMsg j = some m := by
    have hjrn : (s.setFld F.jrnRelstatResult Status.pending.code).jrn = s.jrn := by rw [(relstat_setFld s .pending).1.rest]
    exact (jMsg_congr hjrn j).trans hm
  unfold State.release State.settleBy
  dsimp only
  rw [hcode, if_pos rfl, hm']

theorem relCode_congr (h : t.jrn = s.jrn) (j : Nat) : t.relCode j = s.relCode j := by
  unfold State.relCode State.jMsg
  rw [h]

theorem completes_jrnRelease (hm : s.jMsg j = some m) (hcom : s.comUp = true) (hrun : s.running = true) (hw : w.toNat = j)
    (hcode : s.relCode j = .pending) :
    Completes (.jrnRelease false w) s fun t =>
      (∃ c, t.jrn.commits = s.jrn.commits ++ [c] ∧ c.what = .released j none ∧ recType c.record = 3)
      ∧ (∀ x ∈ t.jrn.msgs, x.jseq = j → x.settling = true) ∧ t.fld F.jrnRelstatResult = Status.pending.code
      ∧ s.sameRegsBut t [A.jrnRelstat] ∧ s.sameMemory t := by
  have hexec : exec (.jrnRelease false w) s = .next (s.release w.toNat none).2 := by
    change guarded false s (if s.comUp && s.running then (s.release w.toNat none).2 else s) = _
    rw [guarded_machine, if_pos (by simp [hcom, hrun])]
  rw [hw, release_of_pending hm hcode] at hexec
  refine ⟨_, hexec, ?_⟩
  obtain ⟨hset, hstat⟩ := relstat_setFld s .pending
  dsimp only
  generalize s.setFld F.jrnRelstatResult Status.pending.code = u at *
  obtain ⟨honly, ⟨c, hcommit, hwhat, htype, -⟩, hsettle⟩ := settleBy_shows u j 3 m.fidx m.seq j (.released j none)
  generalize u.settleBy j 3 m.fidx m.seq j (.released j none) = t at *
  have hjrn : u.jrn = s.jrn := by rw [hset.rest]
  rw [hjrn] at hcommit
  exact ⟨⟨c, hcommit, hwhat, htype⟩, hsettle, (fld_eq_of_regN (congrArg BitVec.toNat (honly.reg _))).trans hstat,
    fun a ha => (honly.reg a).trans (hset.regs a ha), fun a => (honly.sameMemory a).trans (hset.sameMemory a)⟩

theorem completes_msgRelease (hm : s.jMsg j = some m) (ht : s.takes o 0x21 p) (hp : p.length = 4) (hj : leAt p 0 4 = j)
    (hcode : s.relCode j = .pending) :
    Completes (.msgRelease o p) s fun t =>
      (∃ c, t.jrn.commits = s.jrn.commits ++ [c] ∧ c.what = .released j (some o) ∧ recType c.record = 3) ∧ s.sameMemory t := by
  have hjrn := jrn_taking s o
  have hmem := sameMemory_taking s o
  have hrelease := release_of_pending (host := some o) ((jMsg_congr hjrn j).trans hm) ((relCode_congr hjrn j).trans hcode)
  have hhandle : handleMsgRelease o p (s.taking o) = (.later, ((s.taking o).setFld F.jrnRelstatResult Status.pending.code).settleBy j 3
      m.fidx m.seq j (.released j (some o))) := by
    unfold handleMsgRelease
    rw [hj, hrelease]
    rfl
  obtain ⟨hset, -⟩ := relstat_setFld (s.taking o) .pending
  generalize (s.taking o).setFld F.jrnRelstatResult Status.pending.code = u at *
  obtain ⟨honly, ⟨c, hcommit, hwhat, htype, -⟩, -⟩ := settleBy_shows u j 3 m.fidx m.seq j (.released j (some o))
  have hjrn' : u.jrn = s.jrn := by rw [hset.rest]; exact hjrn
  rw [hjrn'] at hcommit
  exact completes_of_later rfl ht (by rw [hp]; rfl) hhandle ⟨⟨c, hcommit, hwhat, htype⟩,
    fun a => (honly.sameMemory a).trans ((hset.sameMemory a).trans (hmem a))⟩

/-! ## Expiry (R344) -/

theorem completes_messageExpire (hm : s.jMsg j = some m) (hcom : s.comUp = true) (hrun : s.running = true)
    (hvalid : s.flag F.ntmStatValid = true) (hdlv : m.dlv = none) (hsettle : m.settling = false)
    (hround : s.roundReached m.deadline = true) :
    Completes (.messageExpire j) s fun t =>
      (∃ c, t.jrn.commits = s.jrn.commits ++ [c] ∧ c.what = .expired j .expired true ∧ recType c.record = 4)
      ∧ (∀ x ∈ t.jrn.msgs, x.jseq = j → x.settling = true) ∧ s.sameRegsBut t [] ∧ s.sameMemory t := by
  have hexec : exec (.messageExpire j) s = .next (s.settleBy j 4 m.fidx (b2n m.sent) j (.expired j .expired true)) := by
    change execMessageExpire j s = _
    unfold execMessageExpire
    rw [hm]
    exact congrArg Host.Outcome.next (if_pos (by rw [hcom, hrun, hvalid, hdlv, hsettle, hround]; rfl))
  obtain ⟨honly, ⟨c, hcommit, hwhat, htype, -⟩, hsettled⟩ :=
    settleBy_shows s j 4 m.fidx (b2n m.sent) j (.expired j .expired true)
  exact ⟨_, hexec, ⟨c, hcommit, hwhat, htype⟩, hsettled, honly.sameRegs, honly.sameMemory⟩

/-! ## CACK (R341) -/

theorem execCack_of_outstanding (hcom : s.comUp = true) (hrun : s.running = true) (hhears : s.hears h = true)
    (hgood : cackBad p = false) (hen : s.flag F.jrnCfgEn = true) (hm : s.outstanding p = some m) :
    exec (.cack h p) s = .next (s.settleMsg m (leAt p 18 2)) := by
  change execCack h p s = _
  unfold execCack
  rw [if_neg (by simp [hcom, hrun, hhears]), if_neg (by simp [hgood]), if_neg (by simp [hen]), hm]

theorem settleMsg_of_accepted (s : State) (m : Msg) :
    s.settleMsg m Status.accepted.code = s.settleBy m.jseq 2 m.fidx m.seq m.jseq (.forwarded m.jseq) := rfl

/-- A CACK of QUOTA leaves its message (R341). -/
theorem settleMsg_of_quota (s : State) (m : Msg) : s.settleMsg m Status.quota.code = s := by
  unfold State.settleMsg
  dsimp only
  rw [if_neg (by decide), if_neg (by decide), if_neg (by decide)]

theorem completes_cack (hcom : s.comUp = true) (hrun : s.running = true) (hhears : s.hears h = true) (hgood : cackBad p = false)
    (hen : s.flag F.jrnCfgEn = true) (hm : s.outstanding p = some m) :
    (leAt p 18 2 = Status.accepted.code →
      Completes (.cack h p) s fun t =>
        (∃ c, t.jrn.commits = s.jrn.commits ++ [c] ∧ c.what = .forwarded m.jseq ∧ recType c.record = 2
          ∧ recFidx c.record = m.fidx % 65536)
        ∧ (∀ x ∈ t.jrn.msgs, x.jseq = m.jseq → x.settling = true) ∧ s.sameRegsBut t [] ∧ s.sameMemory t)
    ∧ (leAt p 18 2 = Status.quota.code → Completes (.cack h p) s fun t => t = s) := by
  have hexec := execCack_of_outstanding hcom hrun hhears hgood hen hm
  constructor
  · intro hcode
    obtain ⟨honly, ⟨c, hcommit, hwhat, htype, hfidx⟩, hsettled⟩ :=
      settleBy_shows s m.jseq 2 m.fidx m.seq m.jseq (.forwarded m.jseq)
    rw [hcode, settleMsg_of_accepted] at hexec
    exact ⟨_, hexec, ⟨c, hcommit, hwhat, htype, hfidx⟩, hsettled, honly.sameRegs, honly.sameMemory⟩
  · intro hcode
    rw [hcode, settleMsg_of_quota] at hexec
    exact ⟨_, hexec, rfl⟩

/-! ## What the tenant engine leaves of the journal -/

/-- Frames are composed and posted: the journal's records and registers stay. -/
structure PostWork (s t : State) : Prop where
  regs : ∀ a, A.jrnStat ≤ a → a < 0x40300000 → t.reg a = s.reg a
  jrn : t.jrn = s.jrn
  memory : s.sameMemory t

namespace PostWork

theorem refl (s : State) : PostWork s s := ⟨fun _ _ _ => rfl, rfl, fun _ => rfl⟩

theorem trans (h : PostWork s t) (g : PostWork t u) : PostWork s u where
  regs a hl hu := (g.regs a hl hu).trans (h.regs a hl hu)
  jrn := g.jrn.trans h.jrn
  memory a := (g.memory a).trans (h.memory a)

theorem ite {c : Prop} [Decidable c] (h : PostWork s t) (g : PostWork s u) : PostWork s (if c then t else u) := by
  split
  · exact h
  · exact g

theorem of_snd {α : Type} {q : α × State} {a : α} (h : PostWork s q.2) (e : q = (a, t)) : PostWork s t := by
  rw [e] at h
  exact h

theorem ite_snd {α : Type} {c : Prop} [Decidable c] {x y : α × State} (hx : PostWork s x.2) (hy : PostWork s y.2) :
    PostWork s (if c then x else y).2 := by
  split
  · exact hx
  · exact hy

theorem other (h : PostWork s t) {free tnt sec} : PostWork s { t with free := free, tnt := tnt, sec := sec } :=
  h.trans ⟨fun _ _ _ => rfl, rfl, fun _ => rfl⟩

theorem setReg (h : PostWork s t) {a : Nat} {w : Word} (ha : a < A.jrnStat ∨ 0x40300000 ≤ a) : PostWork s (t.setReg a w) :=
  h.trans ⟨fun b hl hu => State.reg_setReg_ne t w (by omega), rfl, fun _ => rfl⟩

theorem draw (h : PostWork s t) {n : Nat} : PostWork s (t.draw n).2 := h.other

theorem roll (h : PostWork s t) : PostWork s t.roll.2 := draw (.ite h.other (h.setReg (.inr (by decide))))

theorem composeFrame (h : PostWork s t) {peer : Nat} {ie body : List Byte} : PostWork s (t.composeFrame peer ie body).2 := h.other

theorem tntCount (h : PostWork s t) {i k n : Nat} (hi : i < 256) (hk : k < 8) : PostWork s (t.tntCount i k n) := by
  refine h.setReg (.inl ?_)
  unfold A.tntCtr A.jrnStat
  omega

theorem postDesc (h : PostWork s t) {d : Desc} {reserved jrn : Bool} : PostWork s (t.postDesc d reserved jrn).2 := by
  have hi (i : Nat) : t.lkTenant i < 256 := lk_lt t i 4 1
  unfold State.postDesc
  extract_lets _ _ _
  refine .ite_snd ?_ (.ite_snd ((h.tntCount (hi _) (by decide)).setReg (.inl (by decide))) h)
  split
  rename_i e
  refine tntCount (other (of_snd (.ite_snd ?_ h) e)) (hi _) (by decide)
  split
  exact h.roll.of_snd ‹_›

theorem composeMsg (h : PostWork s t) {f : Flow} {m : Msg} {peer : Nat} : PostWork s (t.composeMsg f m peer).2 :=
  .ite_snd h (roll (draw (draw h.composeFrame)))

theorem postCack (h : PostWork s t) {g flow epoch seq origin : Nat} {st : Status} :
    PostWork s (t.postCack g flow epoch seq origin st) := by
  unfold State.postCack
  extract_lets _
  split
  split
  split
  exact (((h.composeFrame.of_snd ‹_›).draw.of_snd ‹_›).draw.of_snd ‹_›).postDesc

end PostWork

/-! ## Custody frames (R338, R339) -/

theorem execCustodyData_of_sound (hcom : s.comUp = true) (hrun : s.running = true) (hhears : s.hears h = true)
    (hgood : dataBad p = false) (hen : s.flag F.jrnCfgEn = true) : exec (.custodyData h p) s = .next (s.judgeData h p) := by
  change execCustodyData h p s = _
  unfold execCustodyData
  rw [if_neg (by simp [hcom, hrun, hhears]), if_neg (by simp [hgood]), if_neg (by simp [hen])]

/-- A frame of a new flow that passes the tests of R339 opens a transit entry and begins its ACCEPT record. -/
theorem judgeData_of_new (hround : s.roundReached (leAt p 18 4) = false) (hentry : s.entryOf 2 (leAt p 10 8) (leAt p 2 2) = none)
    (hfree : s.freeFidx = some f) (hquota : s.jrnQuota ((p.drop 28).take (leAt p 22 2)).length = false)
    (hhere : s.dataHere (leAt p 2 2) ((p.drop 28).take (leAt p 22 2)) = false) :
    s.judgeData h p = (s.newTransit h f (leAt p 2 2) (leAt p 10 8) (leAt p 4 2) (leAt p 6 4) (leAt p 18 4)).takeData h f (leAt p 4 2)
      (leAt p 6 4) (leAt p 18 4) (leAt p 24 4) ((p.drop 28).take (leAt p 22 2)) := by
  unfold State.judgeData
  dsimp only
  rw [hround, hentry, hfree, hquota, hhere]
  rfl

/-- The transit entry of a frame. -/
def State.transitFlow (s : State) (h flow origin epoch seq deadline : Nat) : Flow :=
  { role := 2, flow := flow, origin := origin, epoch := epoch, seq := (seq + 2 ^ 32 - 1) % 2 ^ 32, lastDl := deadline,
    prevChain := s.lkChain (handleIdx h), prevPeer := s.lkPeer (handleIdx h), ready := true, opened := s.jrn.jseq }

theorem newTransit_shows (s : State) (h f flow origin epoch seq deadline : Nat) :
    JournalOnly s (s.newTransit h f flow origin epoch seq deadline)
    ∧ (s.newTransit h f flow origin epoch seq deadline).jFlow f = some (s.transitFlow h flow origin epoch seq deadline)
    ∧ ∃ c, (s.newTransit h f flow origin epoch seq deadline).jrn.commits = s.jrn.commits ++ [c] ∧ recType c.record = 6 :=
  ⟨rfl, Sparse.find?_insert_self .., _, rfl, recType_jrnRecord ..⟩

theorem takeData_shows (s : State) (h f epoch seq deadline ecrc : Nat) (payload : List Byte) :
    JournalOnly s (s.takeData h f epoch seq deadline ecrc payload)
    ∧ (s.takeData h f epoch seq deadline ecrc payload).jrn.flows = s.jrn.flows
    ∧ ∃ c, (s.takeData h f epoch seq deadline ecrc payload).jrn.commits = s.jrn.commits ++ [c] ∧ c.what = .custody h
      ∧ recType c.record = 1 ∧ recFidx c.record = f % 65536 :=
  ⟨rfl, rfl, _, rfl, rfl, recType_jrnRecord .., recFidx_jrnRecord ..⟩

theorem completes_custodyData_new (hcom : s.comUp = true) (hrun : s.running = true) (hhears : s.hears h = true)
    (hgood : dataBad p = false) (hen : s.flag F.jrnCfgEn = true) (hround : s.roundReached (leAt p 18 4) = false)
    (hentry : s.entryOf 2 (leAt p 10 8) (leAt p 2 2) = none) (hfree : s.freeFidx = some f)
    (hquota : s.jrnQuota ((p.drop 28).take (leAt p 22 2)).length = false)
    (hhere : s.dataHere (leAt p 2 2) ((p.drop 28).take (leAt p 22 2)) = false) :
    Completes (.custodyData h p) s fun t =>
      (∃ c d, t.jrn.commits = s.jrn.commits ++ [c, d] ∧ recType c.record = 6 ∧ recType d.record = 1
        ∧ d.what = .custody h ∧ recFidx d.record = f)
      ∧ (∃ x, t.jFlow f = some x ∧ x.role = 2 ∧ x.flow = leAt p 2 2 ∧ x.origin = leAt p 10 8 ∧ x.epoch = leAt p 4 2)
      ∧ s.sameRegsBut t [] ∧ s.sameMemory t := by
  have hexec := execCustodyData_of_sound hcom hrun hhears hgood hen
  rw [judgeData_of_new hround hentry hfree hquota hhere] at hexec
  refine ⟨_, hexec, ?_⟩
  have hlt := lt_of_freeFidx hfree
  generalize (p.drop 28).take (leAt p 22 2) = payload
  obtain ⟨honly, hflow, c, hcommit, htype⟩ := newTransit_shows s h f (leAt p 2 2) (leAt p 10 8) (leAt p 4 2) (leAt p 6 4) (leAt p 18 4)
  generalize s.newTransit h f (leAt p 2 2) (leAt p 10 8) (leAt p 4 2) (leAt p 6 4) (leAt p 18 4) = u at *
  obtain ⟨honly', hflows, d, hcommit', hwhat, htype', hfidx⟩ :=
    takeData_shows u h f (leAt p 4 2) (leAt p 6 4) (leAt p 18 4) (leAt p 24 4) payload
  generalize u.takeData h f (leAt p 4 2) (leAt p 6 4) (leAt p 18 4) (leAt p 24 4) payload = t at *
  have hboth : t.jrn.commits = s.jrn.commits ++ [c, d] := by
    rw [hcommit', hcommit, List.append_assoc]
    rfl
  have hfl : t.jFlow f = some (s.transitFlow h (leAt p 2 2) (leAt p 10 8) (leAt p 4 2) (leAt p 6 4) (leAt p 18 4)) := by
    rw [State.jFlow, hflows]
    exact hflow
  have honly := honly.trans honly'
  exact ⟨⟨c, d, hboth, htype, htype', hwhat, hfidx.trans (Nat.mod_eq_of_lt (by omega))⟩,
    ⟨_, hfl, rfl, rfl, rfl, rfl⟩, honly.sameRegs, honly.sameMemory⟩

/-- A frame whose message is held already is acknowledged as a duplicate. -/
theorem judgeData_of_duplicate (hround : s.roundReached (leAt p 18 4) = false)
    (hentry : s.entryOf 2 (leAt p 10 8) (leAt p 2 2) = some (f, x)) (hepoch : x.epoch = leAt p 4 2)
    (hseq : seqAfter (leAt p 6 4) x.seq = false) :
    s.judgeData h p = (s.jrnCount 4).postCack h (leAt p 2 2) (leAt p 4 2) (leAt p 6 4) (leAt p 10 8) .duplicate := by
  have hfresh : epochNewer x.epoch (leAt p 4 2) = false := by
    rw [hepoch, epochNewer, Nat.add_sub_cancel_left]
    rfl
  have hdup : (x.epoch == leAt p 4 2 && !seqAfter (leAt p 6 4) x.seq) = true := by
    rw [hseq, hepoch]
    simp
  unfold State.judgeData
  dsimp only
  rw [hround, hentry]
  dsimp only
  exact (if_neg (by decide)).trans ((if_neg (Bool.eq_false_iff.1 hfresh)).trans (if_pos hdup))

theorem completes_custodyData_duplicate (hcom : s.comUp = true) (hrun : s.running = true) (hhears : s.hears h = true)
    (hgood : dataBad p = false) (hen : s.flag F.jrnCfgEn = true) (hround : s.roundReached (leAt p 18 4) = false)
    (hentry : s.entryOf 2 (leAt p 10 8) (leAt p 2 2) = some (f, x)) (hepoch : x.epoch = leAt p 4 2)
    (hseq : seqAfter (leAt p 6 4) x.seq = false) :
    Completes (.custodyData h p) s fun t =>
      t.jrn = s.jrn ∧ t.regN (A.jrnCtr 4) = (s.regN (A.jrnCtr 4) + 1) % 2 ^ 32 ∧ s.sameMemory t := by
  have hexec := execCustodyData_of_sound hcom hrun hhears hgood hen
  rw [judgeData_of_duplicate hround hentry hepoch hseq] at hexec
  refine ⟨_, hexec, ?_⟩
  have hcount : (s.jrnCount 4).regN (A.jrnCtr 4) = (s.regN (A.jrnCtr 4) + 1) % 2 ^ 32 := regN_count_self ..
  have hkept : (s.jrnCount 4).jrn = s.jrn ∧ s.sameMemory (s.jrnCount 4) := ⟨rfl, fun _ => rfl⟩
  generalize s.jrnCount 4 = u at *
  have hpost : PostWork u (u.postCack h (leAt p 2 2) (leAt p 4 2) (leAt p 6 4) (leAt p 10 8) .duplicate) := (PostWork.refl u).postCack
  exact ⟨hpost.jrn.trans hkept.1, (congrArg BitVec.toNat (hpost.regs _ (by decide) (by decide))).trans hcount,
    fun a => (hpost.memory a).trans (hkept.2 a)⟩

end Sys2Proof.Machine
end

section
/-!
The end of a commit (R337-R345): the record is in both copies or both mirrors, and what it brings about.
-/

namespace Sys2Proof.Machine

variable {s t u v : State} {f j k n tag h : Nat} {b : List Byte} {c : Commit} {rest : List Commit} {m : Msg} {x : Flow} {l : List Nat}

/-! ## Messages that stay held -/

/-- The JSEQ numbers of the held messages. -/
def State.heldJseqs (s : State) : List Nat := s.jrn.msgs.map Msg.jseq

theorem jMsg_eq_none_iff : s.jMsg k = none ↔ k ∉ s.heldJseqs := by
  simp [State.jMsg, State.heldJseqs]

theorem mem_heldJseqs : k ∈ s.heldJseqs ↔ ∃ m ∈ s.jrn.msgs, m.jseq = k := List.mem_map

theorem heldJseqs_mapMsg {g : Msg → Msg} (hg : ∀ x, x.jseq = j → (g x).jseq = j) : (s.mapMsg j g).heldJseqs = s.heldJseqs := by
  unfold State.heldJseqs State.mapMsg
  rw [List.map_map]
  refine List.map_congr_left fun x _ => ?_
  rw [Function.comp_apply]
  split
  next hx =>
    have hj : x.jseq = j := by simpa using hx
    rw [hg x hj, hj]
  · rfl

theorem heldJseqs_congr (h : t.jrn = s.jrn) : t.heldJseqs = s.heldJseqs := by
  unfold State.heldJseqs
  rw [h]

/-- A composed message is the same message. -/
theorem composeMsg_same (s : State) (f : Flow) (m : Msg) (peer : Nat) :
    (s.composeMsg f m peer).1.jseq = m.jseq ∧ (s.composeMsg f m peer).1.tries = m.tries := by
  unfold State.composeMsg
  split
  · exact ⟨rfl, rfl⟩
  · exact ⟨rfl, rfl⟩

theorem heldJseqs_sendMsg (s : State) (m : Msg) : (s.sendMsg m).heldJseqs = s.heldJseqs := by
  unfold State.sendMsg
  split
  · split
    · rfl
    next f _ p _ _ _ i _ =>
      split
      next m' u hcompose =>
        split
        next st v hpost =>
          have hwork : PostWork s v := ((PostWork.refl s).composeMsg.of_snd hcompose).postDesc.of_snd hpost
          have hcount : (if m'.tries = 0 then v else v.jrnCount 7).heldJseqs = s.heldJseqs := by
            rw [← heldJseqs_congr hwork.jrn]
            split
            · rfl
            · rfl
          dsimp only
          split
          · refine Eq.trans (heldJseqs_mapMsg ?_) hcount
            exact fun _ _ => rfl
          · refine Eq.trans (heldJseqs_mapMsg ?_) (heldJseqs_congr hwork.jrn)
            exact fun _ _ => rfl
  · rfl

theorem heldJseqs_pumpFlow (s : State) (f : Nat) : (s.pumpFlow f).heldJseqs = s.heldJseqs := by
  unfold State.pumpFlow
  split
  · split
    · exact heldJseqs_sendMsg s _
    · rfl
  · rfl

theorem heldJseqs_dropMsg (s : State) (k : Nat) : k ∉ (s.dropMsg k).heldJseqs := by
  simp [State.heldJseqs, State.dropMsg]

theorem msgs_holdMsg (s : State) (b : List Byte) : (s.holdMsg b).jrn.msgs = s.jrn.msgs ++ [Msg.ofRecord b] := by
  unfold State.holdMsg State.mapFlow
  dsimp only
  split
  · rfl
  · rfl

theorem mem_heldJseqs_holdMsg (s : State) (b : List Byte) : recJseq b ∈ (s.holdMsg b).heldJseqs := by
  unfold State.heldJseqs
  rw [msgs_holdMsg, List.map_append]
  exact List.mem_append_right _ (.head _)

/-! ## The commit at the front ends -/

/-- The record of the oldest commit is written, and the commit leaves. -/
def State.recordOut (s : State) (b : List Byte) (rest : List Commit) : State :=
  { s.writeRecord b with jrn := { (s.writeRecord b).jrn with commits := rest } }

theorem exec_commitDone (hcom : s.comUp = true) (hc : s.jrn.commits = c :: rest) (hwrite : s.canWrite c.record = true) :
    exec .commitDone s = .next ((s.recordOut c.record rest).committed c) := by
  refine congrArg Host.Outcome.next ((if_pos hcom).trans ?_)
  unfold State.commitOne
  rw [hc]
  exact if_pos hwrite

/-- What the effect of a commit starts from. -/
structure RecordOut (s : State) (rest : List Commit) (v : State) : Prop where
  regs : ∀ a, journalReg a = true → a ∉ pageRegs → v.reg a = s.reg a
  msgs : v.jrn.msgs = s.jrn.msgs
  flows : v.jrn.flows = s.jrn.flows
  commits : v.jrn.commits = rest

theorem recordOut_shows (s : State) (b : List Byte) (rest : List Commit) : RecordOut s rest (s.recordOut b rest) := by
  have h : Recorded s (s.writeRecord b) := (Recorded.refl s).writeRecord
  exact ⟨h.regs, h.msgs, h.flows, rfl⟩

theorem RecordOut.regN (h : RecordOut s rest v) {a : Nat} (ha : journalReg a = true) (hp : a ∉ pageRegs) : v.regN a = s.regN a :=
  congrArg BitVec.toNat (h.regs a ha hp)

/-! ### The copies and the mirrors (R337) -/

/-- A commit in BUFFERED goes into both mirrors. -/
theorem writeRecord_of_buffered (h : s.jrnBuffered = true) :
    (s.writeRecord b).jrn.mirror0 = s.jrn.mirror0.map (· ++ [b]) ∧ (s.writeRecord b).jrn.mirror1 = s.jrn.mirror1.map (· ++ [b])
    ∧ (s.writeRecord b).jrn.page = s.jrn.page ∧ (s.writeRecord b).flash = s.flash := by
  unfold State.writeRecord
  rw [if_pos h]
  dsimp only
  split
  · exact ⟨rfl, rfl, rfl, rfl⟩
  · exact ⟨rfl, rfl, rfl, rfl⟩

theorem completes_commitDone_buffered (hcom : s.comUp = true) (hc : s.jrn.commits = c :: rest) (hwrite : s.canWrite c.record = true)
    (hbuf : s.jrnBuffered = true) :
    Completes .commitDone s fun t =>
      t.jrn.mirror0 = s.jrn.mirror0.map (· ++ [c.record]) ∧ t.jrn.mirror1 = s.jrn.mirror1.map (· ++ [c.record])
      ∧ t.jrn.page = s.jrn.page ∧ t.flash = s.flash := by
  refine ⟨_, exec_commitDone hcom hc hwrite, ?_⟩
  obtain ⟨h0, h1, hpage, hflash⟩ := writeRecord_of_buffered (b := c.record) hbuf
  have hout : (s.recordOut c.record rest).jrn.mirror0 = (s.writeRecord c.record).jrn.mirror0
      ∧ (s.recordOut c.record rest).jrn.mirror1 = (s.writeRecord c.record).jrn.mirror1
      ∧ (s.recordOut c.record rest).jrn.page = (s.writeRecord c.record).jrn.page
      ∧ (s.recordOut c.record rest).flash = (s.writeRecord c.record).flash := ⟨rfl, rfl, rfl, rfl⟩
  obtain ⟨o0, o1, opage, oflash⟩ := hout
  generalize s.recordOut c.record rest = v at *
  have hframe := (JournalFrame.refl commitRegs v).committed (c := c)
  exact ⟨hframe.mirror0.trans (o0.trans h0), hframe.mirror1.trans (o1.trans h1), hframe.page.trans (opage.trans hpage),
    hframe.flash.trans (oflash.trans hflash)⟩

/-- A commit in STRICT with nothing waiting programs one page. -/
theorem writeRecord_of_strict (hbuf : s.jrnBuffered = false) (hwait : s.jrnWaiting = []) (h0 : s.jrnCopy 0 = true)
    (h1 : s.jrnCopy 1 = true) (hlen : b.length ≤ 240) : s.writeRecord b = (s.writePage false [b]).trimMirrors := by
  have hdeg : s.jrnDegraded = false := by
    unfold State.jrnDegraded
    rw [h0, h1]
    rfl
  have hpack : packPages ([] ++ [b]) [] = [[b]] := by
    rw [List.nil_append, packPages, if_pos (by simpa using hlen)]
    rfl
  unfold State.writeRecord
  rw [if_neg (by rw [hbuf]; decide), hwait]
  dsimp only
  rw [hdeg, if_neg (by decide), State.writePages, hpack]
  rfl

/-- Trimmed mirrors leave the pages. -/
theorem trimMirrors_leaves (s : State) :
    s.trimMirrors.jrn.page = s.jrn.page ∧ s.trimMirrors.jrn.ready = s.jrn.ready ∧ s.trimMirrors.flash = s.flash
    ∧ s.trimMirrors.flc = s.flc ∧ s.trimMirrors.regN A.jrnCommitted = s.regN A.jrnCommitted := by
  unfold State.trimMirrors
  split
  · exact ⟨rfl, rfl, rfl, rfl, rfl⟩
  · exact ⟨rfl, rfl, rfl, rfl, rfl⟩

theorem completes_commitDone_strict (hcom : s.comUp = true) (hc : s.jrn.commits = c :: rest) (hwrite : s.canWrite c.record = true)
    (hbuf : s.jrnBuffered = false) (hwait : s.jrnWaiting = []) (h0 : s.jrnCopy 0 = true) (h1 : s.jrnCopy 1 = true)
    (hlen : c.record.length ≤ 240) (hplain : PlainFlash s) :
    Completes .commitDone s fun t =>
      (∀ k, k < 2 → t.flashBytes (pageOff k s.jrn.page) 256 = pageBytes s.jrn.pseq (recJseq c.record) false [c.record])
      ∧ t.jrn.page = (s.jrn.page + 1) % 16384 ∧ t.jrn.ready = s.jrn.ready - 1
      ∧ t.regN A.jrnCommitted = max (s.regN A.jrnCommitted) (recJseq c.record) := by
  refine ⟨_, exec_commitDone hcom hc hwrite, ?_⟩
  have hrec := writeRecord_of_strict hbuf hwait h0 h1 hlen
  have hshows := writePage_shows s false [c.record]
  have hwork : PageWork pageRegs s (s.writePage false [c.record]) := (PageWork.refl _ s).writePage
  have hbytes : ∀ t, PlainFlash t → t.flash = (s.writePage false [c.record]).flash → ∀ k, k < 2 →
      t.flashBytes (pageOff k s.jrn.page) 256 = pageBytes s.jrn.pseq (recJseq c.record) false [c.record] :=
    fun t => flashBytes_writePage hlen h0 h1
  have hhigh : jseqHigh [c.record] = recJseq c.record := Nat.zero_max _
  rw [hhigh] at hshows
  generalize s.writePage false [c.record] = u at *
  obtain ⟨hpage, hready, hflash, hflc, hcommitted⟩ := trimMirrors_leaves u
  rw [← hrec] at hpage hready hflash hflc hcommitted
  have hout : (s.recordOut c.record rest).jrn.page = (s.writeRecord c.record).jrn.page
      ∧ (s.recordOut c.record rest).jrn.ready = (s.writeRecord c.record).jrn.ready
      ∧ (s.recordOut c.record rest).flash = (s.writeRecord c.record).flash
      ∧ (s.recordOut c.record rest).flc = (s.writeRecord c.record).flc
      ∧ (s.recordOut c.record rest).regN A.jrnCommitted = (s.writeRecord c.record).regN A.jrnCommitted := ⟨rfl, rfl, rfl, rfl, rfl⟩
  obtain ⟨opage, oready, oflash, oflc, ocommitted⟩ := hout
  generalize s.recordOut c.record rest = v at *
  have hframe := (JournalFrame.refl commitRegs v).committed (c := c)
  generalize v.committed c = t at *
  have hflc' : t.flc = u.flc := hframe.flc.trans (oflc.trans hflc)
  have hplain' : PlainFlash t := by
    obtain ⟨hr, hj, hju⟩ := hplain
    refine ⟨?_, ?_, ?_⟩
    all_goals
      rw [hflc', hwork.flc]
      assumption
  refine ⟨hbytes t hplain' (hframe.flash.trans (oflash.trans hflash)), ?_, ?_, ?_⟩
  · rw [hframe.page, opage, hpage, hshows.page]
  · rw [hframe.ready, oready, hready, hshows.ready]
  · rw [hframe.regN (by decide) (by decide), ocommitted, hcommitted, hshows.committed]

/-! ### Submissions and custody (R336, R339) -/

theorem committed_submit (hw : c.what = .submit tag none) (s : State) :
    s.committed c = (((((s.holdMsg c.record).setRegN A.jrnSubjseq (recJseq c.record)).jrnCount 0).raise F.jrnIntstatSubdone).setRegN
      A.jrnSubstat (2 ^ 16 * Status.accepted.code + tag)).pumpFlow (recFidx c.record) := by
  unfold State.committed
  rw [hw]

theorem regN_holdMsg (s : State) (b : List Byte) (a : Nat) : (s.holdMsg b).regN a = s.regN a := by
  unfold State.holdMsg State.mapFlow
  dsimp only
  split
  · rfl
  · rfl

/-- The registers of a submission that is accepted. -/
theorem submitted_shows (s : State) (hj : j < 2 ^ 32) (htag : tag < 65536) :
    let t := (((s.setRegN A.jrnSubjseq j).jrnCount 0).raise F.jrnIntstatSubdone).setRegN A.jrnSubstat (2 ^ 16 * Status.accepted.code + tag)
    t.regN A.jrnSubjseq = j ∧ t.fld F.jrnSubstatResult = Status.accepted.code ∧ t.flag F.jrnIntstatSubdone = true
    ∧ t.regN (A.jrnCtr 0) = (s.regN (A.jrnCtr 0) + 1) % 2 ^ 32 ∧ t.heldJseqs = s.heldJseqs := by
  intro t
  have hheld : t.heldJseqs = s.heldJseqs := rfl
  have hjseq : (s.setRegN A.jrnSubjseq j).regN A.jrnSubjseq = j := by rw [State.regN_setRegN_self, Nat.mod_eq_of_lt hj]
  have hctr : (s.setRegN A.jrnSubjseq j).regN (A.jrnCtr 0) = s.regN (A.jrnCtr 0) := State.regN_setRegN_ne s _ (by decide)
  unfold t at hheld ⊢
  clear t
  generalize s.setRegN A.jrnSubjseq j = u at *
  have hcount : (u.jrnCount 0).regN (A.jrnCtr 0) = (s.regN (A.jrnCtr 0) + 1) % 2 ^ 32 := by
    rw [State.jrnCount, regN_count_self, hctr]
  have hjseq' : (u.jrnCount 0).regN A.jrnSubjseq = j := (regN_count_ne u (by decide)).trans hjseq
  generalize u.jrnCount 0 = v at *
  have hdone : (v.raise F.jrnIntstatSubdone).flag F.jrnIntstatSubdone = true := flag_raise_at v
  have hctr' : (v.raise F.jrnIntstatSubdone).regN (A.jrnCtr 0) = (s.regN (A.jrnCtr 0) + 1) % 2 ^ 32 :=
    (regN_raise_ne v (f := F.jrnIntstatSubdone) (by decide)).trans hcount
  have hjseq'' : (v.raise F.jrnIntstatSubdone).regN A.jrnSubjseq = j :=
    (regN_raise_ne v (f := F.jrnIntstatSubdone) (by decide)).trans hjseq'
  generalize v.raise F.jrnIntstatSubdone = y at *
  have hstat : (y.setRegN A.jrnSubstat (2 ^ 16 * Status.accepted.code + tag)).regN A.jrnSubstat = 2 ^ 16 * Status.accepted.code + tag := by
    have hst := status_code_lt .accepted
    rw [State.regN_setRegN_self, Nat.mod_eq_of_lt]
    omega
  refine ⟨(State.regN_setRegN_ne y _ (by decide)).trans hjseq'', ?_,
    (flag_eq_of_regN (State.regN_setRegN_ne y _ (by decide))).trans hdone,
    (State.regN_setRegN_ne y _ (by decide)).trans hctr', hheld⟩
  have hst := status_code_lt .accepted
  rw [State.fld, show F.jrnSubstatResult.addr = A.jrnSubstat from rfl, hstat]
  change (2 ^ 16 * Status.accepted.code + tag) / 2 ^ 16 % 2 ^ 16 = _
  omega

theorem completes_commitDone_submit (hcom : s.comUp = true) (hc : s.jrn.commits = c :: rest) (hwrite : s.canWrite c.record = true)
    (hwhat : c.what = .submit tag none) (htag : tag < 65536) :
    Completes .commitDone s fun t =>
      (∃ m ∈ t.jrn.msgs, m.jseq = recJseq c.record) ∧ t.regN A.jrnSubjseq = recJseq c.record
      ∧ t.fld F.jrnSubstatResult = Status.accepted.code ∧ t.flag F.jrnIntstatSubdone = true
      ∧ t.regN (A.jrnCtr 0) = (s.regN (A.jrnCtr 0) + 1) % 2 ^ 32 := by
  refine ⟨_, exec_commitDone hcom hc hwrite, ?_⟩
  have hout := recordOut_shows s c.record rest
  rw [committed_submit hwhat]
  generalize s.recordOut c.record rest = v at *
  have hheld := mem_heldJseqs_holdMsg v c.record
  have hctr : (v.holdMsg c.record).regN (A.jrnCtr 0) = s.regN (A.jrnCtr 0) :=
    (regN_holdMsg ..).trans (hout.regN (by decide) (by decide))
  generalize v.holdMsg c.record = u at *
  obtain ⟨hjseq, hres, hdone, hcount, hkept⟩ := submitted_shows u (recJseq_lt c.record) htag
  generalize (((u.setRegN A.jrnSubjseq (recJseq c.record)).jrnCount 0).raise F.jrnIntstatSubdone).setRegN A.jrnSubstat
    (2 ^ 16 * Status.accepted.code + tag) = y at *
  have hframe : JournalFrame [] y (y.pumpFlow (recFidx c.record)) := (JournalFrame.refl [] y).pumpFlow
  have hpump := heldJseqs_pumpFlow y (recFidx c.record)
  generalize y.pumpFlow (recFidx c.record) = t at *
  refine ⟨mem_heldJseqs.1 (by rw [hpump, hkept]; exact hheld), ?_, ?_, ?_, ?_⟩
  · rw [hframe.regN (by decide) (by decide), hjseq]
  · rw [fld_eq_of_regN (hframe.regN (by decide) (by decide)), hres]
  · rw [flag_eq_of_regN (hframe.regN (by decide) (by decide)), hdone]
  · rw [hframe.regN (by decide) (by decide), hcount, hctr]

theorem committed_custody (hw : c.what = .custody h) (s : State) :
    ∃ u, PostWork ((s.holdMsg c.record).jrnCount 1) u ∧ s.committed c = u.pumpFlow (recFidx c.record) := by
  unfold State.committed
  rw [hw]
  dsimp only
  split
  · exact ⟨_, (PostWork.refl _).postCack, rfl⟩
  · exact ⟨_, .refl _, rfl⟩

theorem completes_commitDone_custody (hcom : s.comUp = true) (hc : s.jrn.commits = c :: rest) (hwrite : s.canWrite c.record = true)
    (hwhat : c.what = .custody h) :
    Completes .commitDone s fun t =>
      (∃ m ∈ t.jrn.msgs, m.jseq = recJseq c.record) ∧ t.regN (A.jrnCtr 1) = (s.regN (A.jrnCtr 1) + 1) % 2 ^ 32 := by
  refine ⟨_, exec_commitDone hcom hc hwrite, ?_⟩
  have hout := recordOut_shows s c.record rest
  generalize s.recordOut c.record rest = v at *
  obtain ⟨u, hpost, hend⟩ := committed_custody hwhat v
  rw [hend]
  have hheld := mem_heldJseqs_holdMsg v c.record
  have hctr : (v.holdMsg c.record).regN (A.jrnCtr 1) = s.regN (A.jrnCtr 1) :=
    (regN_holdMsg ..).trans (hout.regN (by decide) (by decide))
  generalize v.holdMsg c.record = y at *
  have hcount : (y.jrnCount 1).regN (A.jrnCtr 1) = (s.regN (A.jrnCtr 1) + 1) % 2 ^ 32 := by
    rw [State.jrnCount, regN_count_self, hctr]
  have hkept : (y.jrnCount 1).heldJseqs = y.heldJseqs := rfl
  generalize y.jrnCount 1 = z at *
  have hframe : JournalFrame [] u (u.pumpFlow (recFidx c.record)) := (JournalFrame.refl [] u).pumpFlow
  have hpump := heldJseqs_pumpFlow u (recFidx c.record)
  generalize u.pumpFlow (recFidx c.record) = t at *
  refine ⟨mem_heldJseqs.1 (by rw [hpump, heldJseqs_congr hpost.jrn, hkept]; exact hheld), ?_⟩
  rw [hframe.regN (by decide) (by decide), State.regN, hpost.regs _ (by decide) (by decide)]
  exact hcount

/-! ### Messages that leave (R340, R341, R343) -/

theorem committed_forwarded (hw : c.what = .forwarded k) (s : State) : s.committed c = (s.jrnCount 2).settled k := by
  unfold State.committed
  rw [hw]

theorem completes_commitDone_forwarded (hcom : s.comUp = true) (hc : s.jrn.commits = c :: rest) (hwrite : s.canWrite c.record = true)
    (hwhat : c.what = .forwarded k) (hm : s.jMsg k = some m) :
    Completes .commitDone s fun t =>
      t.jMsg k = none ∧ t.regN (A.jrnCtr 2) = (s.regN (A.jrnCtr 2) + 1) % 2 ^ 32 := by
  refine ⟨_, exec_commitDone hcom hc hwrite, ?_⟩
  have hout := recordOut_shows s c.record rest
  rw [committed_forwarded hwhat]
  generalize s.recordOut c.record rest = v at *
  have hcount : (v.jrnCount 2).regN (A.jrnCtr 2) = (s.regN (A.jrnCtr 2) + 1) % 2 ^ 32 := by
    rw [State.jrnCount, regN_count_self, hout.regN (by decide) (by decide)]
  have hm' : (v.jrnCount 2).jMsg k = some m := by
    have hv : v.jMsg k = some m := by
      unfold State.jMsg
      rw [hout.msgs]
      exact hm
    exact hv
  generalize v.jrnCount 2 = u at *
  have hsettled : u.settled k = (u.dropMsg k).pumpFlow m.fidx := by
    unfold State.settled
    rw [hm']
  have hframe : JournalFrame [] u (u.settled k) := (JournalFrame.refl [] u).settled
  have hgone : k ∉ (u.settled k).heldJseqs := by
    rw [hsettled, heldJseqs_pumpFlow]
    exact heldJseqs_dropMsg u k
  exact ⟨jMsg_eq_none_iff.2 hgone, (hframe.regN (by decide) (by decide)).trans hcount⟩

theorem committed_released (hw : c.what = .released k none) (s : State) :
    s.committed c = (((s.dropMsg k).jrnCount 3).setFld F.jrnRelstatResult Status.ok.code).raise F.jrnIntstatReldone := by
  unfold State.committed
  rw [hw]

theorem completes_commitDone_released (hcom : s.comUp = true) (hc : s.jrn.commits = c :: rest) (hwrite : s.canWrite c.record = true)
    (hwhat : c.what = .released k none) :
    Completes .commitDone s fun t =>
      t.jMsg k = none ∧ t.jrn.commits = rest ∧ t.fld F.jrnRelstatResult = Status.ok.code
      ∧ t.flag F.jrnIntstatReldone = true ∧ t.regN (A.jrnCtr 3) = (s.regN (A.jrnCtr 3) + 1) % 2 ^ 32 := by
  refine ⟨_, exec_commitDone hcom hc hwrite, ?_⟩
  have hout := recordOut_shows s c.record rest
  rw [committed_released hwhat]
  generalize s.recordOut c.record rest = v at *
  have hgone : (v.dropMsg k).jMsg k = none := jMsg_eq_none_iff.2 (heldJseqs_dropMsg v k)
  have hcommits : (v.dropMsg k).jrn.commits = rest := hout.commits
  have hctr : (v.dropMsg k).regN (A.jrnCtr 3) = s.regN (A.jrnCtr 3) := hout.regN (by decide) (by decide)
  generalize v.dropMsg k = u at *
  have hcount : (u.jrnCount 3).regN (A.jrnCtr 3) = (s.regN (A.jrnCtr 3) + 1) % 2 ^ 32 := by
    rw [State.jrnCount, regN_count_self, hctr]
  have hjrn : (u.jrnCount 3).jrn = u.jrn := rfl
  generalize u.jrnCount 3 = y at *
  obtain ⟨hset, hstat⟩ := relstat_setFld y .ok
  generalize y.setFld F.jrnRelstatResult Status.ok.code = z at *
  have hraise : WritesOnly [A.jrnIntstat] z (z.raise F.jrnIntstatReldone) := (WritesOnly.refl _ z).raise
  have hdone : (z.raise F.jrnIntstatReldone).flag F.jrnIntstatReldone = true := flag_raise_at z
  generalize z.raise F.jrnIntstatReldone = t at *
  have hjrn' : t.jrn = u.jrn := by rw [hraise.rest, ← hjrn, hset.rest]
  refine ⟨(jMsg_congr hjrn' k).trans hgone, by rw [hjrn', hcommits], ?_, hdone, ?_⟩
  · exact (fld_eq_of_regN (congrArg BitVec.toNat (hraise.regs _ (by decide)))).trans hstat
  · rw [State.regN, hraise.regs _ (by decide), hset.regs _ (by decide)]
    exact hcount

/-! ### A flow that opens (R363) -/

theorem committed_flowOpen (hw : c.what = .flowOpen k none) (s : State) :
    s.committed c = (s.mapFlow k (fun x => { x with ready := true })).flowStat k .ok := by
  unfold State.committed
  rw [hw]
  rfl

theorem completes_commitDone_flowOpen (hcom : s.comUp = true) (hc : s.jrn.commits = c :: rest) (hwrite : s.canWrite c.record = true)
    (hwhat : c.what = .flowOpen k none) (hx : s.jFlow k = some x) :
    Completes .commitDone s fun t =>
      t.jFlow k = some { x with ready := true } ∧ t.jrn.commits = rest
      ∧ t.regN A.jrnFlowstat = 2 ^ 16 * Status.ok.code + k % 4096 ∧ t.flag F.jrnIntstatFlowdone = true := by
  refine ⟨_, exec_commitDone hcom hc hwrite, ?_⟩
  have hout := recordOut_shows s c.record rest
  rw [committed_flowOpen hwhat]
  generalize s.recordOut c.record rest = v at *
  have hx' : v.jFlow k = some x := by
    rw [State.jFlow, hout.flows]
    exact hx
  have hmap : v.mapFlow k (fun x => { x with ready := true }) = v.setFlow k { x with ready := true } := by
    unfold State.mapFlow
    rw [hx']
  have hflow := jFlow_setFlow_self v k { x with ready := true }
  have hcommits : (v.setFlow k { x with ready := true }).jrn.commits = rest := hout.commits
  rw [hmap]
  generalize v.setFlow k { x with ready := true } = u at *
  obtain ⟨hstat, -, hdone⟩ := flowStat_shows u k .ok
  have hjrn := jrn_flowStat u k .ok
  exact ⟨(jFlow_congr hjrn k).trans hflow, by rw [hjrn, hcommits], hstat, hdone (by decide)⟩

end Sys2Proof.Machine
end

section
/-!
Messages that are sent to the next hop or delivered here (R340, R342), and the journal's messages as a whole (R330-R344).
-/

namespace Sys2Proof.Machine

variable {s t u v s' s'' : State} {j i e p n tgt : Nat} {m m' : Msg} {f : Flow}

/-! ## Transmission (R340) -/

/-- A message that is posted to its next hop. -/
def Msg.onWay (m : Msg) (chain peer : Nat) : Msg :=
  { m with posted := true, nextHop := some (chain, peer), tries := m.tries + 1, due := none, left := none }

theorem sendMsg_of_posted (hf : s.jFlow m.fidx = some f) (hhop : s.msgHop m = .peer e p) (hup : s.upLink e p = some i)
    (hcompose : s.composeMsg f m p = (m', s')) (hpost : s'.postDesc (s'.msgDesc i m') false true = (.pending, s'')) :
    s.sendMsg m = (if m'.tries = 0 then s'' else s''.jrnCount 7).mapMsg m'.jseq (fun _ => m'.onWay e p) := by
  unfold State.sendMsg
  rw [hf, hhop]
  dsimp only
  rw [hup]
  dsimp only
  rw [hcompose]
  dsimp only
  rw [hpost]
  exact if_pos rfl

theorem completes_retransmit (hcom : s.comUp = true) (hrun : s.running = true) (hm : s.jMsg j = some m) (hmay : s.mayTransmit m = true)
    (hf : s.jFlow m.fidx = some f) (hhop : s.msgHop m = .peer e p) (hup : s.upLink e p = some i)
    (hcompose : s.composeMsg f m p = (m', s')) (hpost : s'.postDesc (s'.msgDesc i m') false true = (.pending, s'')) :
    Completes (.retransmit j) s fun t =>
      (∀ x ∈ t.jrn.msgs, x.jseq = j → x.posted = true ∧ x.tries = m.tries + 1 ∧ x.nextHop = some (e, p) ∧ x.due = none)
      ∧ (m.tries ≠ 0 → t.regN (A.jrnCtr 7) = (s.regN (A.jrnCtr 7) + 1) % 2 ^ 32) ∧ s.sameMemory t := by
  have hexec : exec (.retransmit j) s = .next (s.sendMsg m) := by
    change execRetransmit j s = _
    unfold execRetransmit
    rw [hm]
    exact congrArg Host.Outcome.next (if_pos (by rw [hcom, hrun, hmay]; rfl))
  rw [sendMsg_of_posted hf hhop hup hcompose hpost] at hexec
  refine ⟨_, hexec, ?_⟩
  have hsame := composeMsg_same s f m p
  rw [hcompose] at hsame
  dsimp only at hsame
  obtain ⟨hjseq, htries⟩ := hsame
  have hj := jseq_of_jMsg hm
  have hwork : PostWork s s'' := ((PostWork.refl s).composeMsg.of_snd hcompose).postDesc.of_snd hpost
  have hctr : s''.regN (A.jrnCtr 7) = s.regN (A.jrnCtr 7) := congrArg BitVec.toNat (hwork.regs _ (by decide) (by decide))
  have hcount : (m.tries ≠ 0 → (if m'.tries = 0 then s'' else s''.jrnCount 7).regN (A.jrnCtr 7) = (s.regN (A.jrnCtr 7) + 1) % 2 ^ 32)
      ∧ s''.sameMemory (if m'.tries = 0 then s'' else s''.jrnCount 7) := by
    refine ⟨fun hne => ?_, ?_⟩
    · rw [if_neg (by omega), State.jrnCount, regN_count_self, hctr]
    · split
      · exact fun _ => rfl
      · exact fun _ => rfl
  generalize (if m'.tries = 0 then s'' else s''.jrnCount 7) = u at *
  have honly := JournalOnly.mapMsg u m'.jseq (fun _ => m'.onWay e p)
  refine ⟨fun x hx hxj => ?_, fun hne => ?_, fun a => ?_⟩
  · exact mapMsg_shows (s := u) (j := m'.jseq) (g := fun _ => m'.onWay e p)
      (P := fun x => x.posted = true ∧ x.tries = m.tries + 1 ∧ x.nextHop = some (e, p) ∧ x.due = none)
      (fun _ => ⟨rfl, congrArg (· + 1) htries, rfl, rfl⟩) x hx (by omega)
  · exact (congrArg BitVec.toNat (honly.reg _)).trans (hcount.1 hne)
  · exact (honly.sameMemory a).trans ((hcount.2 a).trans (hwork.memory a))

/-! ## Delivery (R342) -/

theorem length_dlvEntry (f : Flow) (m : Msg) (b : Nat) : (dlvEntry f m b).length = 32 := by
  simp [dlvEntry]

theorem fld_dma (s : State) (a : Nat) (bs : List Byte) (g : Fld) : (s.dma a bs).fld g = s.fld g :=
  fld_eq_of_regN (congrArg BitVec.toNat (reg_dma s a bs g.addr))

/-- An entry that is put into a delivery ring (R360). -/
theorem dringPut_shows (s : State) (r : Nat) (bs : List Byte) :
    (s.dringPut r bs).fld (F.jrnDringwrIndex r) = (s.fld (F.jrnDringwrIndex r) + 1) % s.dringSize r % 2 ^ 12
    ∧ (s.dringPut r bs).jrn = s.jrn
    ∧ ∀ a, (a < 64 * s.fld (F.jrnDringbaseBase r) + 32 * s.fld (F.jrnDringwrIndex r)
        ∨ 64 * s.fld (F.jrnDringbaseBase r) + 32 * s.fld (F.jrnDringwrIndex r) + bs.length ≤ a) →
      (s.dringPut r bs).byte a = s.byte a := by
  unfold State.dringPut
  dsimp only
  generalize hat : 64 * s.fld (F.jrnDringbaseBase r) + 32 * s.fld (F.jrnDringwrIndex r) = at'
  have hout (a : Nat) (ha : a < at' ∨ at' + bs.length ≤ a) := byte_dma_outside s bs ha
  have hsize : (s.dma at' bs).dringSize r = s.dringSize r := by
    unfold State.dringSize
    rw [fld_dma]
  have hjrn := jrn_dma s at' bs
  rw [hsize]
  generalize s.dma at' bs = u at *
  have hset : WritesOnly [A.jrnDringwr r] u (u.setFld (F.jrnDringwrIndex r) ((s.fld (F.jrnDringwrIndex r) + 1) % s.dringSize r)) :=
    (WritesOnly.refl _ u).setFld (.head _)
  have hwr : (u.setFld (F.jrnDringwrIndex r) ((s.fld (F.jrnDringwrIndex r) + 1) % s.dringSize r)).fld (F.jrnDringwrIndex r) =
      (s.fld (F.jrnDringwrIndex r) + 1) % s.dringSize r % 2 ^ 12 :=
    State.fld_setFld_self u (F.jrnDringwrIndex r) _ (show 0 + 12 ≤ 32 by decide)
  generalize u.setFld (F.jrnDringwrIndex r) ((s.fld (F.jrnDringwrIndex r) + 1) % s.dringSize r) = v at *
  have hlevel : WritesOnly [A.jrnIntstat] v (v.dringLevel r) :=
    .ite ((WritesOnly.refl _ v).clearBit (.head _)) ((WritesOnly.refl _ v).setBit (.head _))
  have hne : A.jrnDringwr r ≠ A.jrnIntstat := by
    unfold A.jrnDringwr A.jrnIntstat
    omega
  refine ⟨?_, by rw [hlevel.rest, hset.rest]; exact hjrn, fun a ha => ?_⟩
  · exact (fld_eq_of_regN (congrArg BitVec.toNat (hlevel.regs _ (mt List.mem_singleton.1 hne)))).trans hwr
  · rw [hlevel.sameMemory a, hset.sameMemory a, hout a ha]

/-- A notice that has room joins the queue behind those that wait. -/
theorem mem_notice (s : State) {code : Nat} {payload : List Byte} (hroom : s.noticeRoom = true) :
    ∃ n ∈ (s.notice code payload).hsl.notices, n.code = code ∧ n.payload = payload := by
  unfold State.notice
  rw [if_pos hroom]
  exact ⟨_, List.mem_append_right _ (.head _), rfl, rfl⟩

theorem notices_dropNotice (s : State) (code : Nat) : (s.dropNotice code).hsl.notices = s.hsl.notices := by
  unfold State.dropNotice
  extract_lets u
  split
  · rfl
  · split
    · rfl
    · rfl

theorem notice_keeps (s : State) (code : Nat) (payload : List Byte) : s.hsl.notices ⊆ (s.notice code payload).hsl.notices := by
  unfold State.notice
  split
  · exact List.subset_append_left ..
  · rw [notices_dropNotice]
    exact fun _ h => h

/-- The entry, or the notice, of a delivery. -/
def State.dlvHand (s : State) (f : Flow) (m : Msg) (t b : Nat) : State :=
  if t < 4 then s.dringPut t (dlvEntry f m b) else s.notice 0xC8 (dlvEntry f m b ++ m.payload)

/-- A report that has come home is shown (R345). -/
def State.homeShown (s : State) (f : Flow) (m : Msg) (t : Nat) : State :=
  match s.reportHome f m with
  | none => s
  | some g => if t = 4 then (s.raise F.jrnIntstatResult).notice 0xC9 (m.payload ++ leBytes 2 g ++ [0, 0]) else s.raise F.jrnIntstatResult

theorem deliver_eq (s : State) (f : Flow) (m : Msg) (t b : Nat) :
    s.deliver f m t b = (((s.dma (s.jrn.dlvBase + 256 * b) m.payload).dlvHand f m t b).mapMsg m.jseq
      (fun m => { m with dlv := some t, buf := some b })).homeShown f m t := rfl

theorem homeShown_tells (s : State) (f : Flow) (m : Msg) (t : Nat) :
    Tells [A.jrnIntstat, A.hslCtr 6, A.hslIntstat] s (s.homeShown f m t) ∧ s.hsl.notices ⊆ (s.homeShown f m t).hsl.notices := by
  have hraise : Tells [A.jrnIntstat, A.hslCtr 6, A.hslIntstat] s (s.raise F.jrnIntstatResult) := (Tells.refl _ s).raise (by decide)
  unfold State.homeShown
  split
  · exact ⟨.refl _ s, fun _ h => h⟩
  · split
    · exact ⟨hraise.notice (by decide) (by decide), notice_keeps (s.raise F.jrnIntstatResult) _ _⟩
    · exact ⟨hraise, fun _ h => h⟩

/-- The state in which a delivery's entry is handed over has the room that was tested (R342, R365). -/
theorem noticeRoom_of_targetRoom {r : Nat} (hroom : s.targetRoom tgt r = true) (ht : ¬ tgt < 4) (hr : 1 ≤ r) : s.noticeRoom = true := by
  unfold State.targetRoom at hroom
  rw [if_neg ht, Bool.and_eq_true, decide_eq_true_eq, decide_eq_true_eq] at hroom
  have hlen := hroom.2
  unfold State.noticeRoom
  rw [decide_eq_true_eq]
  omega

theorem execDelivery_of_turn {b : Nat} (hcom : s.comUp = true) (hrun : s.running = true) (hm : s.jMsg j = some m)
    (hf : s.jFlow m.fidx = some f) (hhop : s.msgHop m = .here tgt) (hfree : s.dlvFree = some b) (hdlv : m.dlv = none)
    (hsettle : m.settling = false) (hturn : s.dlvTurn m = true)
    (hroom : s.targetRoom tgt (if (s.reportHome f m).isSome then 2 else 1) = true) :
    exec (.delivery j) s = .next (s.deliver f m tgt b) := by
  change execDelivery j s = _
  unfold execDelivery
  rw [hm]
  dsimp only
  rw [hf, hhop, hfree]
  exact congrArg Host.Outcome.next (if_pos (by rw [hcom, hrun, hdlv, hsettle, hturn, hroom]; rfl))

theorem dlvHand_shows (s : State) (f : Flow) (m : Msg) (t b : Nat) :
    (t < 4 → (s.dlvHand f m t b).fld (F.jrnDringwrIndex t) = (s.fld (F.jrnDringwrIndex t) + 1) % s.dringSize t % 2 ^ 12)
    ∧ (¬ t < 4 → s.noticeRoom = true →
        ∃ n ∈ (s.dlvHand f m t b).hsl.notices, n.code = 0xC8 ∧ n.payload = dlvEntry f m b ++ m.payload)
    ∧ (s.dlvHand f m t b).jrn = s.jrn
    ∧ ∀ a, (t < 4 → a < 64 * s.fld (F.jrnDringbaseBase t) + 32 * s.fld (F.jrnDringwrIndex t)
        ∨ 64 * s.fld (F.jrnDringbaseBase t) + 32 * s.fld (F.jrnDringwrIndex t) + 32 ≤ a) →
      (s.dlvHand f m t b).byte a = s.byte a := by
  unfold State.dlvHand
  split
  next ht =>
    obtain ⟨hwr, hjrn, hbytes⟩ := dringPut_shows s t (dlvEntry f m b)
    rw [length_dlvEntry] at hbytes
    exact ⟨fun _ => hwr, fun h => absurd ht h, hjrn, fun a ha => hbytes a (ha ht)⟩
  next ht =>
    have htell := tells_notice s 0xC8 (dlvEntry f m b ++ m.payload)
    exact ⟨fun h => absurd h ht, fun _ => mem_notice s, by rw [htell.rest], fun a _ => htell.sameMemory a⟩

theorem noticeRoom_dma (s : State) (a : Nat) (bs : List Byte) : (s.dma a bs).noticeRoom = s.noticeRoom := by
  obtain ⟨ram, pw, h⟩ := dma_eq s a bs
  rw [h]
  rfl

theorem dringSize_dma (s : State) (a : Nat) (bs : List Byte) (r : Nat) : (s.dma a bs).dringSize r = s.dringSize r := by
  unfold State.dringSize
  rw [fld_dma]

theorem completes_delivery {b : Nat} (hcom : s.comUp = true) (hrun : s.running = true) (hm : s.jMsg j = some m)
    (hf : s.jFlow m.fidx = some f) (hhop : s.msgHop m = .here tgt) (hfree : s.dlvFree = some b) (hdlv : m.dlv = none)
    (hsettle : m.settling = false) (hturn : s.dlvTurn m = true)
    (hroom : s.targetRoom tgt (if (s.reportHome f m).isSome then 2 else 1) = true) :
    Completes (.delivery j) s fun t =>
      (∀ x ∈ t.jrn.msgs, x.jseq = j → x.dlv = some tgt ∧ x.buf = some b)
      ∧ (tgt < 4 → t.fld (F.jrnDringwrIndex tgt) = (s.fld (F.jrnDringwrIndex tgt) + 1) % s.dringSize tgt % 2 ^ 12)
      ∧ (4 ≤ tgt → ∃ n ∈ t.hsl.notices, n.code = 0xC8 ∧ n.payload = dlvEntry f m b ++ m.payload)
      ∧ (∀ a, a < s.jrn.dlvBase + 256 * b ∨ s.jrn.dlvBase + 256 * b + m.payload.length ≤ a →
          (tgt < 4 → let e := 64 * s.fld (F.jrnDringbaseBase tgt) + 32 * s.fld (F.jrnDringwrIndex tgt)
            a < e ∨ e + 32 ≤ a) → t.byte a = s.byte a) := by
  refine ⟨_, execDelivery_of_turn hcom hrun hm hf hhop hfree hdlv hsettle hturn hroom, ?_⟩
  have hroom' : ¬ tgt < 4 → s.noticeRoom = true := fun ht => noticeRoom_of_targetRoom hroom ht (by split <;> decide)
  have hj := jseq_of_jMsg hm
  rw [deliver_eq]
  have hout (a : Nat) (ha : a < s.jrn.dlvBase + 256 * b ∨ s.jrn.dlvBase + 256 * b + m.payload.length ≤ a) :=
    byte_dma_outside s m.payload ha
  have hfld := fld_dma s (s.jrn.dlvBase + 256 * b) m.payload
  have hsize := dringSize_dma s (s.jrn.dlvBase + 256 * b) m.payload tgt
  rw [← noticeRoom_dma s (s.jrn.dlvBase + 256 * b) m.payload] at hroom'
  generalize s.dma (s.jrn.dlvBase + 256 * b) m.payload = u at *
  obtain ⟨hwr, hnotice, -, hbytes⟩ := dlvHand_shows u f m tgt b
  rw [hfld, hsize] at hwr
  rw [hfld, hfld] at hbytes
  generalize u.dlvHand f m tgt b = v at *
  have hmarked := mapMsg_shows (s := v) (j := m.jseq) (g := fun m => { m with dlv := some tgt, buf := some b })
    (P := fun x => x.dlv = some tgt ∧ x.buf = some b) fun _ => ⟨rfl, rfl⟩
  have honly := JournalOnly.mapMsg v m.jseq (fun m => { m with dlv := some tgt, buf := some b })
  have hhsl : (v.mapMsg m.jseq (fun m => { m with dlv := some tgt, buf := some b })).hsl = v.hsl := rfl
  generalize v.mapMsg m.jseq (fun m => { m with dlv := some tgt, buf := some b }) = y at *
  obtain ⟨htell, hkept⟩ := homeShown_tells y f m tgt
  generalize y.homeShown f m tgt = t at *
  have hjrn : t.jrn = y.jrn := by rw [htell.rest]
  refine ⟨?_, fun ht => ?_, fun ht => ?_, fun a ha hb => ?_⟩
  · rw [hjrn, ← hj]
    exact hmarked
  · have hne : (F.jrnDringwrIndex tgt).addr ∉ [A.jrnIntstat, A.hslCtr 6, A.hslIntstat] := by
      simp only [List.mem_cons, List.not_mem_nil, or_false, F.jrnDringwrIndex, A.jrnDringwr, A.jrnIntstat, A.hslCtr, A.hslIntstat]
      omega
    rw [fld_eq_of_regN (congrArg BitVec.toNat ((htell.regs _ hne).trans (honly.reg _)))]
    exact hwr ht
  · obtain ⟨n, hn, hcode, hpayload⟩ := hnotice (Nat.not_lt.2 ht) (hroom' (Nat.not_lt.2 ht))
    exact ⟨n, hkept (by rw [hhsl]; exact hn), hcode, hpayload⟩
  · rw [htell.sameMemory a, honly.sameMemory a, hbytes a hb, hout a ha]

/-- Settles O40: each message's step is one record that begins, a message that is changed in its place, or the effect of the
commit at the front, whose record is then in both copies or both mirrors. -/
theorem journalMessages : Obligations.JournalMessages := by
  unfold Obligations.JournalMessages
  intro s
  refine ⟨?_, fun o p => completes_msgSend, ?_, completes_bufferFlush, ?_, ?_, ?_, ?_, fun j m hm => ⟨?_, ?_, ?_⟩⟩
  · exact fun w f hcom hrun hw => completes_jrnSubmit hcom hrun hw
  · intro c rest hcom hc hwrite
    refine ⟨completes_commitDone_buffered hcom hc hwrite, ?_, ?_, ?_, ?_, ?_, ?_⟩
    · exact fun hbuf hwait h0 h1 hlen _ hredirect hjunk hunits =>
        completes_commitDone_strict hcom hc hwrite hbuf hwait h0 h1 hlen ⟨hredirect, hjunk, hunits⟩
    · exact fun tag => completes_commitDone_submit hcom hc hwrite
    · exact fun h => completes_commitDone_custody hcom hc hwrite
    · exact fun k m => completes_commitDone_forwarded hcom hc hwrite
    · exact fun k => completes_commitDone_released hcom hc hwrite
    · exact fun k x => completes_commitDone_flowOpen hcom hc hwrite
  · intro h p hcom hrun hhears hgood hen flow origin hround
    exact ⟨fun f => completes_custodyData_new hcom hrun hhears hgood hen hround,
      fun f x => completes_custodyData_duplicate hcom hrun hhears hgood hen hround⟩
  · exact fun h p m hcom hrun hhears hgood hen hm => completes_cack hcom hrun hhears hgood hen hm
  · exact fun j m f c p i m' s' s'' => completes_retransmit
  · exact fun j m f tgt b => completes_delivery
  · exact fun w => completes_jrnRelease hm
  · exact fun o p => completes_msgRelease hm
  · exact completes_messageExpire hm

end Sys2Proof.Machine
end
